-- ==== Sys2Proof/Word.lean ====
section
/-! DEFINITION. The word types of the NZ6416 model and their plainest arithmetic. -/
namespace Sys2Proof

/-- A byte of memory, of a message or of a page. -/
abbrev Byte := BitVec 8

/-- A 32-bit word of the management space (R5). -/
abbrev Word32 := BitVec 32

/-- The value of one register. The widest registers have 512 bits (`HRN_IMAGE_HASH`, `SEC_MEAS_i`); the bits of a
narrower register above its width are zero. -/
abbrev RegVal := BitVec 512

/-- A lane OAM word (R35). -/
abbrev OamWord := BitVec 56

/-- A TS96 time (Table 0-7). -/
abbrev Ts96 := BitVec 96

/-- `n` as a signed number of `w` bits in two's complement. -/
def toSigned (w n : Nat) : Int :=
  if n % 2 ^ w < 2 ^ (w - 1) then ((n % 2 ^ w : Nat) : Int) else ((n % 2 ^ w : Nat) : Int) - ((2 ^ w : Nat) : Int)

/-- The `w`-bit two's-complement code of `x`. -/
def ofSigned (w : Nat) (x : Int) : Nat := (x % ((2 ^ w : Nat) : Int)).toNat

/-- `x` held within `lo` and `hi`. -/
def clampInt (lo hi x : Int) : Int := if x < lo then lo else if hi < x then hi else x

/-- `x` held within `0` and `hi`. -/
def clampNat (hi x : Nat) : Nat := if hi < x then hi else x

/-- Little-endian value of a list of bytes (R5: the byte at the lowest address is the least significant). -/
def leValue : List Byte → Nat
  | [] => 0
  | b :: bs => b.toNat + 256 * leValue bs

/-- The `n` bytes of `v`, least significant first. -/
def leBytes : Nat → Nat → List Byte
  | 0, _ => []
  | n + 1, v => BitVec.ofNat 8 v :: leBytes n (v / 256)

/-- Big-endian value of a list of bytes. -/
def beValue (bs : List Byte) : Nat := leValue bs.reverse

/-- The `n` bytes of `v`, most significant first. -/
def beBytes (n v : Nat) : List Byte := (leBytes n v).reverse

end Sys2Proof
end

