-- ==== Sys2Proof/Syntax.lean ====
section
/-! DEFINITION. The commands of the NZ6416: one constructor of `Instr` per row of spec/opcode_table.json, and the types of
their operands. -/
namespace Sys2Proof

/-- A line lane L0 to L15. -/
abbrev Lane := Fin 16
/-- A lane group G0 to G7. -/
abbrev Grp := Fin 8
/-- A host lane H0 to H31. -/
abbrev HLane := Fin 32
/-- A Cinch channel C0 to C255. -/
abbrev Chan := Fin 256

/-- The transport of a Causeway message, as `MGT_SESSION_s` encodes it (R473). -/
inductive Transport where
  | ethernet | cinch | tunnel
  deriving DecidableEq, Repr

/-- The path an access comes on (R305, Table 15-7). -/
inductive Path where
  /-- The two-wire bus, the vendor window included. -/
  | bus
  /-- Causeway session `s`. -/
  | session (s : Fin 4)
  /-- Unauthenticated Causeway from this device's own hosts. -/
  | causeway (t : Transport)
  /-- Unauthenticated Causeway through the tunnel. -/
  | tunnel
  /-- Firmware, the REG_INIT writes of an image included. -/
  | firmware
  deriving DecidableEq, Repr

/-- A coefficient of a lane's equaliser (R96, R105): FFE tap `t`, MLSE64 target tap a, DFE tap b1, post-filter p1, p2. -/
inductive CoefId where
  | ffe (t : Fin 160)
  | targetA
  | feedbackB1
  | post1
  | post2
  deriving DecidableEq, Repr

/-- Flag bits that CMIS latches at a byte (R297, R316): of a lower-memory byte 8 to 13, or of byte 134 to 153 of a bank of page 11h. -/
structure CmisFlag where
  bank : Option (Fin 4)
  off : Byte
  bits : Byte
  deriving DecidableEq, Repr

/-- What the receive path of a lane has taken in at the end of a received frame (RX_FRAME_BOUNDARY). -/
structure RxObs where
  /-- Samples after gain control and digital gain, one per symbol, in units of 1/512 of the normalised unit (R96): 192 before the frame's
  symbol 0, the frame, 240 after its last symbol. -/
  samples : List Int
  /-- Distance in symbols of the correlation peak from the candidate, predicted or tracked position. -/
  posDelta : Int
  /-- Frame periods since this lane's previous frame boundary command (1 while frames follow each other). -/
  gap : Nat
  /-- Core cycles of the frame with at least one clipped sample, and clipped samples of the frame. -/
  clipCycles : Nat
  clipSamples : Nat
  /-- Phase errors of the three detectors of R71 averaged over the frame, signed: blind, on the pilot, on decisions. -/
  blindErr : Int
  pilotErr : Int
  decisionErr : Int
  /-- The frame's receive reference instant within the core cycle, in line symbols (R33). -/
  off : Fin 292
  deriving DecidableEq, Repr

/-- A LOS source of a line lane (R88). -/
inductive LosSource where
  | tussock | envelope
  deriving DecidableEq, Repr

/-- A change that a LOS source reports (R67, R88): Tussock's rule, or the envelope source with the mean square of the ADC code. -/
inductive LosReport where
  | tussock
  | envelope (ms : Nat)
  deriving DecidableEq, Repr

/-- The outcome of a foreground calibration (R62): the worst spur, and offset, gain and skew of the 64 sub-converters as it has set them. -/
structure FcalReport where
  value : Word32
  trims : List (Int × Int × Int)
  deriving DecidableEq, Repr

/-- Who requests a pool operation (`EQP_OP_STATUS_g.SOURCE`). -/
inductive PoolSource where
  | software (p : Path)
  | relief
  | selfTest
  deriving DecidableEq, Repr

/-- A two-wire port of a lane group: TIA (R64) or modulator driver (R148). -/
inductive GroupPort where
  | tia | driver
  deriving DecidableEq, Repr

/-- A pattern checker: of a line lane (R143) or of a host lane (R199). -/
inductive CheckerId where
  | line (n : Lane)
  | host (h : HLane)
  deriving DecidableEq, Repr

/-- What a pattern checker has read since its last report (R143). -/
structure CheckerReport where
  c : CheckerId
  syms : List (BitVec 2)
  deriving DecidableEq, Repr

/-- An event of a host lane, with what the lane has seen. -/
structure HostReport (α : Type) where
  h : HLane
  seen : α
  deriving DecidableEq, Repr

/-- What the forwarded-clock receiver finds of its delay (R164): whether the check of the stored delay passes, and the sweep's marks, one
per step of 1/64 UI. -/
structure DelaySweep where
  checkOk : Bool
  marks : List Bool
  deriving DecidableEq, Repr

/-- What the adaptation of a host receiver has seen (R159): its symbols (error, the inputs of the FFE, the decision before), and the SNR
in 0.25 dB that has held. -/
structure EyeReport where
  lms : List (Int × List Int × Int)
  snr : Byte
  deriving DecidableEq, Repr

/-- Where a Causeway message comes from and a reply goes to (R308): a port and the source address, a host lane, a far node. -/
inductive Via where
  | eth (p : Fin 32) (src : BitVec 48)
  | cinch (h : HLane)
  | tunnel (node : BitVec 16)
  deriving DecidableEq, Repr

/-- Time elapsed on the AO counter since sleep entry, converted with its calibrated period, in ns: its part in DOZE and its part
in DEEP (R262). -/
structure AoTime where
  doze : Nat
  deep : Nat
  deriving DecidableEq, Repr


/-- A synthesiser: of line group g, or host synthesiser k. -/
inductive SynthId where
  | line (g : Grp)
  | host (k : Fin 4)
  deriving DecidableEq, Repr

/-- What waits for a synthesiser (R289): a receive or a transmit enable of a line lane, a host lane, a load, a return to
ACTIVE. -/
inductive PendingSubject where
  | lineRx (n : Lane)
  | lineTx (n : Lane)
  | host (h : HLane)
  | load
  | toActive
  deriving DecidableEq, Repr

/-- The commands the block takes, in the order of the opcode table. -/
inductive Instr where
  /-- REGISTER_WRITE, R8: A write to a register that has no row of its own sets its fields by their access codes, after the role and range checks. -/
  | registerWrite (p : Path) (addr value : Word32)
  /-- WIDE_REGISTER_READ, R6: A read of the lowest word of a wide register captures all of its words at one instant. -/
  | wideRegisterRead (p : Path) (addr : Word32)
  /-- STAGED_WORD_WRITE, R7: A write to a higher word of a wide register is staged without reaching the register. -/
  | stagedWordWrite (p : Path) (addr value : Word32)
  /-- WIDE_REGISTER_COMMIT, R7: A write to the lowest word commits every staged word at one instant and empties the staging. -/
  | wideRegisterCommit (p : Path) (addr value : Word32)
  /-- REFCLK_MISSING, R23: REFCLK has no edge for 50 ns; transmitters squelch, lanes leave LOCKED with cause CLOCK, the PLL holds and time goes to HOLDOVER. -/
  | refclkMissing
  /-- CORE_PLL_LOCK_LOSS, R23: Loss of core PLL lock is handled as missing REFCLK. -/
  | corePllLockLoss
  /-- REFCLK_RETURN, R23: REFCLK has been present for 1 ms; the device relocks every synthesiser. -/
  | refclkReturn
  /-- SYNTHESISER_LOCK, R289: A synthesiser locks; pending enables and loads execute in the next core cycle and lanes restart acquisition. -/
  | synthesiserLock (y : SynthId)
  /-- SYNTHESISER_LOCK_LOSS, R134: A line or host synthesiser loses lock; its lanes drive code 0, enter PENDING and leave LOCKED with cause CLOCK. -/
  | synthesiserLockLoss (y : SynthId)
  /-- PENDING_TIMEOUT, R289: A command waiting for a synthesiser reaches 5 ms without lock and fails with PLL_TIMEOUT. -/
  | pendingTimeout (who : PendingSubject)
  /-- RATE_MISMATCH, R22: Two transparent host lanes on one line lane differ by more than 10 ppm; an event is raised and codewords of the other lane are dropped. -/
  | rateMismatch (n : Lane) (f₀ f₁ : BitVec 16) (dropped : Nat)
  /-- CONTROLLER_WATCHDOG, R335: The controller watchdog expires after 100 ms without service and restarts the controllers headless. -/
  | controllerWatchdog
  /-- CONTROLLERS_RETURN, R26: The restarted firmware reattaches; held Causeway messages and waiting firmware work are handled. -/
  | controllersReturn
  /-- FRAME_START, R31: A lane reaches its frame slot and transmits a frame with pilot, OAM word and codewords. -/
  | frameStart (n : Lane) (off : Fin 292)
  /-- COUNTER_SNAPSHOT, R55: At the lane's superframe boundary all its codeword counters are snapshot at one instant. -/
  | counterSnapshot (n : Lane)
  /-- LFEC_SNAP, R55: A write of SNAP requests one snapshot at the next outer codeword boundary and sets SNAP_BUSY. -/
  | lfecSnap (p : Path) (n : Lane)
  /-- SNAPSHOT_TAKEN, R55: The requested snapshot is taken at the next outer codeword boundary and SNAP_BUSY clears. -/
  | snapshotTaken (n : Lane)
  /-- LFEC_CLR, R57: A write of CLR closes the lane's accounts with a record and zeroes its counters at one boundary. -/
  | lfecClr (p : Path) (n : Lane)
  /-- LFEC_AUDIT_CLR, R56: A write of AUDIT_CLR clears both lanes' counters and AUDIT_FAIL and lifts the hold. -/
  | lfecAuditClr (p : Path) (n : Lane)
  /-- CONSERVATION_AUDIT, R56: Every 1 ms the codeword identities are checked; a violation holds the group's counters and refuses operations. -/
  | conservationAudit
  /-- SD_SF_WINDOW_END, R58: At the end of a 256-superframe window signal degrade and signal fail are set or cleared. -/
  | sdSfWindowEnd (n : Lane)
  /-- LANE_STATUS_RECEIVED, R41: A valid LANE_STATUS word updates the far status and is compared with the own configuration. -/
  | laneStatusReceived (n : Lane) (payload : BitVec 44)
  /-- OAM_WORD_DISCARDED, R40: An OAM word with a failing CRC, a reserved type or type IDLE is counted and discarded. -/
  | oamWordDiscarded (n : Lane) (word : OamWord)
  /-- INNER_CODEWORD_DECODED, R45: An inner codeword is Chase-II decoded and its outcome and flips are counted. -/
  | innerCodewordDecoded (n : Lane) (frame : Option Nat) (idx : Nat)
  /-- OUTER_CODEWORD_DECODED, R51: An outer RS codeword is decoded, corrected or flagged uncorrectable, and counted. -/
  | outerCodewordDecoded (n : Lane) (w : List (BitVec 10))
  /-- SPARE_DECODER_IN_SERVICE, R46: At a frame boundary the spare decoder replaces an active decoder of a lane short of one. -/
  | spareDecoderInService (g : Grp)
  /-- LRX_ENABLE, R78: A write of ENABLE = 1 starts the lane at ADC_CAL, or waits PENDING for its clocks. -/
  | lrxEnable (p : Path) (n : Lane)
  /-- LRX_DISABLE, R85: A write of ENABLE = 0 takes the lane to DISABLED with cause DISABLED. -/
  | lrxDisable (p : Path) (n : Lane)
  /-- LRX_FCAL, R62: A write of FCAL runs foreground calibration, taking a locked lane out of LOCKED. -/
  | lrxFcal (p : Path) (n : Lane)
  /-- LRX_COLD, R74: A write of COLD abandons the current state and starts a cold attempt at AGC. -/
  | lrxCold (p : Path) (n : Lane)
  /-- FOREGROUND_CALIBRATION_DONE, R62: Foreground calibration completes within the spur limit and the lane proceeds to SQUELCHED or AGC. -/
  | foregroundCalibrationDone (n : Lane) (cal : FcalReport)
  /-- BACKGROUND_CALIBRATION_UPDATE, R63: A sub-converter receives a bounded background trim update, at most once per 10 µs. -/
  | backgroundCalibrationUpdate (n : Lane) (sub : Fin 64) (offset gain skew : Int)
  /-- FAST_AGC_UPDATE, R68: Each 64 ns window fast AGC moves the VGA toward the target RMS. -/
  | fastAgcUpdate (n : Lane) (rms : BitVec 8)
  /-- AGC_SETTLED, R68: The RMS code has stayed within ±1 dB for 2 µs; the lane leaves AGC. -/
  | agcSettled (n : Lane)
  /-- SLOW_AGC_STEP, R70: Once per superframe in LOCKED slow AGC moves the VGA one code and compensates DGAIN. -/
  | slowAgcStep (n : Lane) (rms : BitVec 8)
  /-- TIMING_SETTLED, R72: The frequency estimate has stayed within ±5 ppm for 20 µs; TIMING ends. -/
  | timingSettled (n : Lane) (freq : BitVec 16)
  /-- FREQUENCY_OUT_OF_RANGE, R73: The frequency estimate leaves ±300 ppm; the lane leaves LOCKED with cause TIMING and reacquires cold. -/
  | frequencyOutOfRange (n : Lane) (freq : BitVec 16)
  /-- RX_FRAME_BOUNDARY, R74: At a received frame boundary the acquisition state condition is evaluated and the lane advances or loses lock. -/
  | rxFrameBoundary (n : Lane) (obs : RxObs)
  /-- ACQ_STAGE_TIMEOUT, R74: An acquisition stage reaches its time or frame limit and the lane restarts as Table 3-2 states. -/
  | acqStageTimeout (n : Lane)
  /-- POWER_STEP, R82: The power-step detector trips and acquisition restarts or the lane leaves LOCKED with cause POWER_STEP. -/
  | powerStep (n : Lane) (ms : List Nat)
  /-- LOS_ASSERT, R88: The selected LOS source asserts and the lane moves to SQUELCHED. -/
  | losAssert (n : Lane) (src : LosReport)
  /-- LOS_CLEAR, R88: LOS clears and a squelched lane starts a cold attempt at AGC. -/
  | losClear (n : Lane) (src : LosReport)
  /-- AUTO_RETRY, R88: 100 ms after entry to FAILED, or the last retry, a cold attempt starts. -/
  | autoRetry (n : Lane)
  /-- TIA_GO, R66: A write of GO queues one software TIA port transaction. -/
  | tiaGo (p : Path) (g : Grp) (rd : Bool) (l : Fin 2) (reg value : Byte)
  /-- TIA_TRANSACTION_DONE, R64: A TIA port transaction completes with its result, and deferred configuration writes apply. -/
  | tiaTransactionDone (g : Grp) (ack : Bool) (rdata : Byte)
  /-- CLOCK_STRETCH_TIMEOUT, R64: A clock stretch longer than 100 µs ends the port transaction with TIMEOUT. -/
  | clockStretchTimeout (g : Grp) (port : GroupPort)
  /-- MIGRATE, R113: A MIGRATE request moves one lane position onto a free slice. -/
  | migrate (src : PoolSource) (g : Grp) (l : Fin 2) (pos to_ : Fin 16)
  /-- ADD, R110: An ADD request gives the lane one more slice with taps at zero. -/
  | add (src : PoolSource) (g : Grp) (l : Fin 2)
  /-- REMOVE, R115: A REMOVE request ramps the last position to zero and frees its slice. -/
  | remove (src : PoolSource) (g : Grp) (l : Fin 2)
  /-- FUSE, R110: A FUSE request moves the partner to DFE1 and the lane to MLSE64. -/
  | fuse (src : PoolSource) (g : Grp) (l : Fin 2)
  /-- UNFUSE, R115: An UNFUSE request ramps the target tap and returns both lanes to MLSE16. -/
  | unfuse (src : PoolSource) (g : Grp) (l : Fin 2)
  /-- TO_DFE, R110: A TO_DFE request changes the lane from MLSE16 to DFE1 and frees the unit. -/
  | toDfe (src : PoolSource) (g : Grp) (l : Fin 2)
  /-- TO_MLSE, R110: A TO_MLSE request shadows a free unit for 16 frames then changes the lane to MLSE16. -/
  | toMlse (src : PoolSource) (g : Grp) (l : Fin 2)
  /-- POOL_OP_START, R110: An accepted or queued pool operation starts at its lane's frame boundary. -/
  | poolOpStart (g : Grp)
  /-- POOL_OP_FRAME, R115: Each frame of an operation compares shadow slices or steps a ramp. -/
  | poolOpFrame (g : Grp) (equal : Bool)
  /-- POOL_OP_END, R110: The operation's frame count is reached and it ends with its result. -/
  | poolOpEnd (g : Grp)
  /-- COEF_LOAD, R125: A write of COEF_LOAD requests the staged coefficients, ignored unless frozen and idle. -/
  | coefLoad (p : Path) (n : Lane)
  /-- EQP_AUDIT_CLR, R120: A write of AUDIT_CLR re-derives the pool counters, rechecks them and lifts the hold if they agree. -/
  | eqpAuditClr (p : Path) (g : Grp)
  /-- POOL_AUDIT_VIOLATION, R120: The per-cycle pool check fails; an event is written and pool operations are held. -/
  | poolAuditViolation (g : Grp) (counters : BitVec 16)
  /-- LTX_ENABLE, R133: A write of ENABLE = 1 runs the driver enable sequence or waits PENDING for the synthesiser. -/
  | ltxEnable (p : Path) (n : Lane)
  /-- LTX_DISABLE, R151: A write of ENABLE = 0 disables the transmitter, abandoning any pending or starting enable. -/
  | ltxDisable (p : Path) (n : Lane)
  /-- SWAP, R130: A write of SWAP schedules the shadow bank for the next frame start. -/
  | swap (p : Path) (n : Lane)
  /-- LTX_TRIM_WRITE, R131: A trim write sets new targets for swing, offset and skew. -/
  | ltxTrimWrite (p : Path) (n : Lane) (swing : BitVec 6) (offset : BitVec 7) (skew : BitVec 6)
  /-- TRIM_RAMP_STEP, R385: Every 10 µs each ramping trim DAC moves one LSB toward its target. -/
  | trimRampStep
  /-- LTX_SQUELCH, R135: A write of SQUELCH sets or clears squelch cause SW. -/
  | ltxSquelch (p : Path) (n : Lane) (on : Bool)
  /-- TXDISABLE_ASSERT, R135: A TxDisable pin asserts after deglitch and squelches its lanes with cause TXDIS. -/
  | txdisableAssert (pin : Fin 16)
  /-- TXDISABLE_DEASSERT, R135: A TxDisable pin deasserts and clears cause TXDIS. -/
  | txdisableDeassert (pin : Fin 16)
  /-- CMIS_TX_DISABLE_SET, R135: The CMIS Tx Disable bit is set and squelches the lane with cause CMIS. -/
  | cmisTxDisableSet (n : Lane)
  /-- CMIS_TX_DISABLE_CLEAR, R135: The CMIS Tx Disable bit is cleared and cause CMIS clears. -/
  | cmisTxDisableClear (n : Lane)
  /-- DRIVER_SEQUENCE_WRITE_DONE, R149: A driver sequence write and its read-back complete; on double failure the sequence outcome applies. -/
  | driverSequenceWriteDone (g : Grp) (ack : Bool) (rdata : Byte)
  /-- DRV_GO, R150: A write of GO queues one software driver port transaction. -/
  | drvGo (p : Path) (g : Grp) (rd : Bool) (l : Fin 2) (reg : BitVec 16) (value : Byte)
  /-- LTX_PAT_WRITE, R141: A pattern register write selects a pattern, refused in a stripe or for PAYLOAD in IEEE mode. -/
  | ltxPatWrite (p : Path) (n : Lane) (pat : Fin 8) (place bypass : Bool) (userLen : BitVec 14)
  /-- LTX_CHK_CLR, R143: A write of CLR zeroes the checker counters at one instant. -/
  | ltxChkClr (p : Path) (n : Lane)
  /-- MASK_ENABLE, R145: A write of EN starts the spectral-mask monitor after checking the mask table. -/
  | maskEnable (p : Path) (g : Grp)
  /-- MASK_ESTIMATE_DONE, R146: A spectral estimate completes and the lane's mask state is judged with hysteresis. -/
  | maskEstimateDone (g : Grp) (k : Fin 2)
  /-- HOST_RATE_SLEW_DONE, R138: The transparent lane's interpolator has slewed to the host rate and relayed units enter at the next period. -/
  | hostRateSlewDone (n : Lane)
  /-- HSI_RX_ENABLE, R158: A write of RX_EN = 1 starts host receive at DETECT or PENDING. -/
  | hsiRxEnable (p : Path) (h : HLane)
  /-- HSI_RX_DISABLE, R162: A write of RX_EN = 0 takes the host lane to DISABLED. -/
  | hsiRxDisable (p : Path) (h : HLane)
  /-- HSI_TX_ENABLE, R171: A write of TX_EN = 1 starts the host transmitter, waiting PENDING for its synthesiser. -/
  | hsiTxEnable (p : Path) (h : HLane)
  /-- HSI_TX_DISABLE, R171: A write of TX_EN = 0 takes the host transmitter to DISABLED. -/
  | hsiTxDisable (p : Path) (h : HLane)
  /-- RELOCK, R162: A write of RELOCK leaves LOCKED with cause DISABLED and restarts at CDR cold. -/
  | relock (p : Path) (h : HLane)
  /-- RX_QUIET, R173: A write of RX_QUIET = 1 puts the receive lane in QUIET. -/
  | rxQuiet (p : Path) (h : HLane)
  /-- RX_QUIET_CLEAR, R175: A write of RX_QUIET = 0 wakes the quiet receive lane. -/
  | rxQuietClear (p : Path) (h : HLane)
  /-- TX_QUIET, R171: A write of TX_QUIET = 1 quiets the transmitter at the next block or codeword boundary. -/
  | txQuiet (p : Path) (h : HLane)
  /-- TX_QUIET_CLEAR, R172: A write of TX_QUIET = 0 starts WAKING. -/
  | txQuietClear (p : Path) (h : HLane)
  /-- WAKING_DONE, R172: After bias and 32 wake pattern periods the transmitter enters ACTIVE. -/
  | wakingDone (h : HLane)
  /-- HSI_TXEQ_WRITE, R156: A transmit equaliser write is checked and staged for the next 1,000-cycle boundary. -/
  | hsiTxeqWrite (p : Path) (h : HLane) (value : Word32)
  /-- CMIS_OUTPUT_EQ_WRITE, R156: A CMIS output equalisation write rewrites HSI_TXEQ_n, clamping POST1 if needed. -/
  | cmisOutputEqWrite (h : HLane) (pre post : Fin 8) (amp : Fin 4)
  /-- TXEQ_APPLY, R156: At the 1,000-cycle boundary the tap set changes together and the AMP ramp starts. -/
  | txeqApply
  /-- ACTIVITY_DETECT, R174: The activity detector asserts, starting CDR or waking a quiet lane under WAKE_SEL. -/
  | activityDetect (h : HLane) (pattern : Bool)
  /-- SIGNAL_LOSS, R162: The activity detector stays inactive for 1 µs and a locked host lane leaves with cause SIGNAL. -/
  | signalLoss (h : HLane)
  /-- WAKE_PATTERN_DETECT, R175: Sixteen wake pattern periods are recognised and the quiet lane wakes. -/
  | wakePatternDetect (h : HLane)
  /-- HOST_STAGE_TIMEOUT, R158: A host receive stage times out, or DETECT times out to QUIET under RX_AUTO. -/
  | hostStageTimeout (h : HLane)
  /-- CDR_DONE, R176: The host CDR or FCM delay sweep completes and the lane enters ADAPT. -/
  | cdrDone (h : HLane) (freq : BitVec 16) (sweep : DelaySweep)
  /-- ADAPT_DONE, R159: The slicer SNR has held 14 dB for the pass time and ADAPT ends. -/
  | adaptDone (h : HLane) (ctle : Fin 15) (eye : EyeReport)
  /-- ALIGNMENT_LOCK, R161: Alignment-marker lock is gained and the host lane enters LOCKED. -/
  | alignmentLock (h : HLane)
  /-- ALIGNMENT_LOCK_LOSS, R161: Alignment-marker lock is lost and the host lane leaves LOCKED with cause ALIGN. -/
  | alignmentLockLoss (seen : HostReport Nat)
  /-- HCKI_MISSING, R163: HCKI_k has no edge for 2 ns; the lanes of the pair leave LOCKED with cause CLOCK. -/
  | hckiMissing (k : Fin 4)
  /-- HCKI_PRESENT, R163: HCKI_k has run for 100 µs; the lanes of the pair leave PENDING for CDR cold. -/
  | hckiPresent (k : Fin 4)
  /-- BLOCK_LOCK, R168: Sixty-four consecutive valid sync headers give FCM block lock. -/
  | blockLock (seen : HostReport (List Bool))
  /-- BLOCK_LOCK_LOSS, R168: Thirty-two invalid headers in 1,024 lose block lock. -/
  | blockLockLoss (seen : HostReport (List (BitVec 2)))
  /-- FRAMING_BLOCK_RECEIVED, R169: An FCM framing block is checked, gaining or losing frame lock and updating FAR_RDI. -/
  | framingBlockReceived (h : HLane) (blocks : List (BitVec 2 × BitVec 64))
  /-- HOST_CELL_RECEIVED, R192: A Cinch host cell passes or fails framing; DATA cells are accepted under credit. -/
  | hostCellReceived (h : HLane) (off : Fin 136) (tag : BitVec 20) (payload : List Byte) (parity : List (BitVec 10))
  /-- HOST_CREDIT_RECORD, R221: A credit record of a host CONTROL cell updates a loop-1 RETURN or loop-3 GRANT total. -/
  | hostCreditRecord (h : HLane) (c : Chan) (loop kind : Fin 16) (total : BitVec 32)
  /-- CAUSEWAY_FRAGMENT, R308: A Causeway fragment entry of a CONTROL cell is reassembled into a message. -/
  | causewayFragment (h : HLane) (entry : List Byte)
  /-- HOST_CELL_SLOT, R194: At each host cell position the device sends a DATA, CONTROL or IDLE cell, a CONTROL cell at least every 64. -/
  | hostCellSlot (h : HLane)
  /-- HOST_CODEWORD_DECODED, R186: A host RS codeword is decoded; an uncorrectable one becomes error blocks and is counted. -/
  | hostCodewordDecoded (p : Fin 32) (w : List (BitVec 10))
  /-- CAUSEWAY_FRAME_EXTRACT, R187: An Ethernet frame addressed to the module with EtherType 0x88B5 is removed and passed to Causeway. -/
  | causewayFrameExtract (p : Fin 32) (dst src : BitVec 48) (payload : List Byte)
  /-- PTP_INGRESS, R270: A supported PTP event message at host ingress is stamped in its messageTypeSpecific field. -/
  | ptpIngress (p : Fin 32) (off : Fin 136) (frame : List Byte)
  /-- PTP_EGRESS, R270: A stamped PTP event message at far egress has its residence added to correctionField. -/
  | ptpEgress (p : Fin 32) (off : Fin 136) (frame : List Byte)
  /-- HSI_PAT_WRITE, R199: A host pattern register write selects a host test pattern or is refused. -/
  | hsiPatWrite (p : Path) (h : HLane) (pat : Fin 8)
  /-- GRANULE_POSITION, R202: At an outer codeword position the scheduler sends a replay, CONTROL, DATA or IDLE granule. -/
  | granulePosition (n : Lane) (readOk copyOk ingOk : Bool)
  /-- GRANULE_RECEIVED, R210: A received granule position advances the receive stream or makes a gap that moves it to WAIT. -/
  | granuleReceived (n : Lane) (cwOk : Bool) (tag : BitVec 20) (payload : List Byte)
  /-- NACK_RECEIVED, R213: A newer NACK starts a replay run, an empty run or a RESYNC. -/
  | nackReceived (r : Lane) (payload : BitVec 44)
  /-- NACK_TIMEOUT, R211: NACK_TO passes without acceptance and a new NACK with a new epoch is sent. -/
  | nackTimeout (n : Lane)
  /-- STREAM_OPEN, R209: All opening conditions hold and the transmit stream opens with an OPEN granule. -/
  | streamOpen (n : Lane)
  /-- OPEN_RECORD, R210: A CONTROL granule starting with OPEN moves a closed receive stream to RUN. -/
  | openRecord (n : Lane) (node : BitVec 16)
  /-- SKIP_RECORD, R216: A SKIP record passes the named CHSEQ of a channel without delivery. -/
  | skipRecord (n : Lane) (c : Chan) (m : BitVec 32)
  /-- RESYNC_RECORD, R218: A RESYNC record resets E and counts the spanned granules lost. -/
  | resyncRecord (n : Lane) (epoch : Fin 4) (seq : BitVec 32)
  /-- STRIPE_RECORD, R219: The first STRIPE record of a channel applies its new stripe from the switch number. -/
  | stripeRecord (n : Lane) (c : Chan) (mask : BitVec 16) (switch : BitVec 32)
  /-- CHPOS_RECORD, R218: A CHPOS record sets the next CHSEQ per channel after a RESYNC. -/
  | chposRecord (n : Lane) (c : Chan) (m : BitVec 32)
  /-- CHOPEN_RECORD, R234: A CHOPEN record closes the far side of the channel so it reopens. -/
  | chopenRecord (n : Lane) (c : Chan)
  /-- CREDIT_WORD_RECEIVED, R222: An OAM CREDIT word replaces, refreshes or is ignored against the last total. -/
  | creditWordReceived (n : Lane) (payload : BitVec 44)
  /-- CREDIT_REFRESH, R223: REFRESH µs pass and every total of an enabled channel is resent. -/
  | creditRefresh
  /-- GRANULE_DELIVER, R203: An in-order granule is delivered to the host lane once its transmitter is ACTIVE. -/
  | granuleDeliver (c : Chan) (egrOk : Bool)
  /-- CINCH_AUDIT, R227: Every 1 ms the credit and granule identities of each enabled channel are checked. -/
  | cinchAudit
  /-- CLR_CH, R228: A write of CLR_CH with CLR_GO clears EN of the named channel, closing and unfreezing it. -/
  | clrCh (p : Path) (c : Chan)
  /-- SHED_LOL_EXPIRY, R229: A receive lane stays out of LOCKED for SHED_LOL and is shed from every stripe. -/
  | shedLolExpiry (n : Lane)
  /-- CIN_SHED_WRITE, R229: A write of SHED = 1 sheds the lane by software. -/
  | cinShedWrite (p : Path) (n : Lane)
  /-- CIN_UNSHED_WRITE, R231: A write of SHED = 0 lets a software-shed lane rejoin. -/
  | cinUnshedWrite (p : Path) (n : Lane)
  /-- REJOIN, R231: The lane has been locked with SF clear for REJOIN_HOLD and its SHED report clears. -/
  | rejoin (n : Lane)
  /-- CHANNEL_OPEN, R234: Setting EN opens the channel and sends CHOPEN ahead of its granules. -/
  | channelOpen (p : Path) (c : Chan) (lineCredit : Bool)
  /-- CHANNEL_CLOSE, R234: Clearing EN discards and delivers queued granules, records and zeroes the accounts. -/
  | channelClose (p : Path) (c : Chan)
  /-- STRIPE_WRITE, R237: A stripe write is checked and, on an open channel, changes the stripe at a switch number. -/
  | stripeWrite (p : Path) (c : Chan) (mask : BitVec 16)
  /-- CREDIT_DISCARD_END, R234: NACK_TO after a channel opens the device stops discarding its line-loop CREDIT words. -/
  | creditDiscardEnd (c : Chan)
  /-- TIME_WORD_RECEIVED, R249: A TIME word is paired and forms rtt and theta samples for the servo. -/
  | timeWordReceived (n : Lane) (payload : BitVec 44)
  /-- SOURCE_SELECTION, R254: A candidate best for 16 multiframes replaces the current source. -/
  | sourceSelection
  /-- SOURCE_LOSS, R259: No theta sample for 1 ms loses the source and moves quality to HOLDOVER. -/
  | sourceLoss
  /-- TIME_LOCK_QUALIFIED, R260: The filtered offset has stayed within LOCK_THR for 2 ms and quality becomes LOCKED. -/
  | timeLockQualified
  /-- TMB_EPOCH, R260: A GM_FREE device without a LOCKED candidate for 10 ms becomes LOCKED and starts a new epoch. -/
  | tmbEpoch
  /-- BOUND_LIMIT_EXCEEDED, R258: The growing error bound passes HOLD_LIMIT or overflows and quality degrades. -/
  | boundLimitExceeded
  /-- TMB_SET, R242: A commit of TMB_SET steps the clock to ESTIMATED, unless refused while following a source. -/
  | tmbSet (p : Path) (value : BitVec 128)
  /-- TMB_NODE_ID_WRITE, R271: A node ID write is rejected while any lane is LOCKED. -/
  | tmbNodeIdWrite (p : Path) (id : BitVec 16)
  /-- ASYM_CAL_GO, R252: A write of GO starts an asymmetry calibration against a common PPS. -/
  | asymCalGo (p : Path) (n : Lane) (edges : BitVec 10) (refUnc : BitVec 14)
  /-- ASYM_CAL_DONE, R252: The calibration writes the new asymmetry and uncertainty, or ends ABORTED. -/
  | asymCalDone (far : List (BitVec 96))
  /-- PPS_IN_EDGE, R267: A PPS_IN edge is captured and, in DISCIPLINE, judged, stepped or qualified. -/
  | ppsInEdge (off : Fin 136) (width : Nat)
  /-- PPS_MISSING, R267: No PPS_IN edge for 1.5 s counts a missing edge and moves LOCKED to HOLDOVER. -/
  | ppsMissing
  /-- PPS_OUT_RISE, R268: TMB_NOW minus the offset reaches a whole second and PPS_OUT rises. -/
  | ppsOutRise
  /-- PPS_OUT_FALL, R268: WIDTH µs after its rise PPS_OUT falls. -/
  | ppsOutFall
  /-- HRN_OPEN, R283: OPEN empties the staging buffer and zeroes the count. -/
  | hrnOpen (p : Path)
  /-- HRN_LOAD_DATA, R283: A write of HRN_LOAD_DATA appends four bytes to the staging buffer. -/
  | hrnLoadData (p : Path) (value : Word32)
  /-- COMMIT, R283: COMMIT starts the checks of the staged image and its application. -/
  | commit (p : Path)
  /-- CANCEL, R291: CANCEL before Q ends the load ABORTED with groups back to OPEN. -/
  | cancel (p : Path)
  /-- VERIFY, R283: VERIFY checks the staged image without applying it. -/
  | verify (p : Path)
  /-- WRITE_A, R283: WRITE_A checks a FULL image and copies it to flash slot A. -/
  | writeA (p : Path)
  /-- WRITE_B, R283: WRITE_B checks a FULL image and copies it to flash slot B. -/
  | writeB (p : Path)
  /-- LOAD_A, R284: LOAD_A stages the image of flash slot A and commits it. -/
  | loadA (p : Path)
  /-- LOAD_B, R284: LOAD_B stages the image of flash slot B and commits it. -/
  | loadB (p : Path)
  /-- IMAGE_CHUNK, R283: A Causeway IMAGE_CHUNK appends its bytes when its offset equals the count. -/
  | imageChunk (via : Via) (msg : List Byte)
  /-- VERIFICATION_DONE, R282: Image checks end; a rejected image changes nothing, an accepted one goes PENDING or quiesces. -/
  | verificationDone
  /-- FLASH_WRITE_DONE, R283: A checked image has been written to its flash slot and the result is reported. -/
  | flashWriteDone
  /-- DRAIN_END, R288: Ingress queues are empty and replay idle, or DRAIN_TO passes, and quiesce proceeds. -/
  | drainEnd
  /-- QUIESCE, R288: At Q the mask's lanes stop, accounts close and registers read reset values. -/
  | quiesce
  /-- REOPEN, R291: The rebuilt groups open: lanes enable, host lanes blind-start and channels open. -/
  | reopen
  /-- REBUILD_PLL_TIMEOUT, R290: A retuned synthesiser fails to lock in 5 ms; the previous configuration is restored or the group FAILS. -/
  | rebuildPllTimeout
  /-- TWO_WIRE_WRITE, R298: A private bus write sets the offset and writes CMIS bytes within 2 µs. -/
  | twoWireWrite (offset : Byte) (data : List Byte) (err : Bool)
  /-- LATCHED_FLAG_READ, R299: A CMIS read of latched flags clears them and the alert class bit. -/
  | latchedFlagRead (count : Fin 257) (classes : BitVec 10)
  /-- SETDASA, R295: SETDASA assigns a dynamic address and switches the target to I3C. -/
  | setdasa (dyn : BitVec 7)
  /-- ENTDAA, R295: ENTDAA assigns a dynamic address and switches the target to I3C. -/
  | entdaa (dyn : BitVec 7)
  /-- SETNEWDA, R298: SETNEWDA changes the dynamic address. -/
  | setnewda (dyn : BitVec 7)
  /-- RSTDAA, R295: RSTDAA returns the target to its static address and I2C, dropping the bus role. -/
  | rstdaa
  /-- ENEC, R298: ENEC enables in-band interrupts; other enables are NACKed. -/
  | enec (events : Byte)
  /-- DISEC, R298: DISEC disables in-band interrupts. -/
  | disec (events : Byte)
  /-- GETPID, R298: GETPID returns the 48-bit provisioned ID. -/
  | getpid
  /-- GETBCR, R298: GETBCR returns 0x06. -/
  | getbcr
  /-- GETDCR, R298: GETDCR returns 0x00. -/
  | getdcr
  /-- GETMWL, R298: GETMWL returns the maximum write length. -/
  | getmwl
  /-- SETMWL, R298: SETMWL sets the maximum write length, NACKed below 16. -/
  | setmwl (len : BitVec 16)
  /-- GETMRL, R298: GETMRL returns the maximum read length and IBI payload size. -/
  | getmrl
  /-- SETMRL, R298: SETMRL sets the maximum read length, NACKed below 16. -/
  | setmrl (len : BitVec 16)
  /-- GETMXDS, R298: GETMXDS returns the maximum data speeds and turnaround. -/
  | getmxds
  /-- GETSTATUS, R298: GETSTATUS returns the protocol error bit and the count of set alert bits. -/
  | getstatus
  /-- UNSUPPORTED_CCC, R298: An unsupported CCC such as ENTHDR or SETXTIME is NACKed. -/
  | unsupportedCcc
  /-- IBI_RETRY, R300: A NACKed in-band interrupt is repeated after 100 µs while its bit is set. -/
  | ibiRetry (accepted : Bool)
  /-- ALERT_CLEAR, R299: A write of 1 to an alert class bit clears it and releases ALERT_N when none remain. -/
  | alertClear (p : Path) (mask : BitVec 10)
  /-- WIN_ADDR_COMMIT, R302: A write of byte 131 commits the window base and starts the window fetch. -/
  | winAddrCommit (value : Word32)
  /-- WINDOW_WORD_COMMIT, R303: A write of byte +3 commits a window word as one register write under the path's role. -/
  | windowWordCommit (j : Fin 480) (value : Word32)
  /-- WIN_REFRESH, R304: A write of REFRESH copies the window into the mirror at once. -/
  | winRefresh
  /-- WINDOW_REFRESH, R304: Every 100 µs the hardware copies the whole window into the mirror. -/
  | windowRefresh
  /-- WINDOW_FETCH_DONE, R304: The window fetch after a base commit completes and READY sets. -/
  | windowFetchDone
  /-- CMIS_MONITOR_REFRESH, R297: Every 10 ms firmware refreshes the CMIS monitors in the mirror. -/
  | cmisMonitorRefresh (flags : List CmisFlag)
  /-- PASSWORD_ENTRY, R306: A write of byte 125 compares the password and grants OPERATOR or counts a failure. -/
  | passwordEntry (value : Word32)
  /-- PASSWORD_SET, R306: A write of byte 121 by OPERATOR sets the OPERATOR password. -/
  | passwordSet (value : Word32)
  /-- MGT_OP_PWD, R306: ADMIN writes the OPERATOR password. -/
  | mgtOpPwd (p : Path) (value : Word32)
  /-- LOCKOUT_END, R306: The 10 s password lockout ends. -/
  | lockoutEnd
  /-- NONCE, R307: CMD NONCE generates a fresh bus challenge nonce and empties the data buffer. -/
  | nonce (p : Path)
  /-- AUTH_DATA_WRITE, R307: A write of MGT_AUTH_DATA appends four bytes of the response. -/
  | authDataWrite (p : Path) (value : Word32)
  /-- AUTH_VERIFY, R307: CMD VERIFY checks the signed response and grants ADMIN or counts a failure. -/
  | authVerify (p : Path)
  /-- DROP, R305: CMD DROP returns the bus path to USER. -/
  | drop (p : Path)
  /-- NONCE_EXPIRY, R307: A nonce reaches 60 s unused and becomes invalid. -/
  | nonceExpiry (bus : Bool)
  /-- READ, R309: A Causeway READ returns one register value. -/
  | read (via : Via) (msg : List Byte)
  /-- WRITE, R309: A Causeway WRITE writes one register under the path's role. -/
  | write (via : Via) (msg : List Byte)
  /-- READ_BLOCK, R310: A Causeway READ_BLOCK returns consecutive registers. -/
  | readBlock (via : Via) (msg : List Byte)
  /-- WRITE_BLOCK, R310: A Causeway WRITE_BLOCK writes consecutive registers, stopping at the first refused word. -/
  | writeBlock (via : Via) (msg : List Byte)
  /-- KEY_EXCHANGE, R336: KEY_EXCHANGE opens a session with ECDH and an AK-signed transcript. -/
  | keyExchange (via : Via) (msg : List Byte)
  /-- FINISH, R338: FINISH proves the requested role and grants it or closes the session. -/
  | finish (via : Via) (msg : List Byte)
  /-- SESSION_CLOSE, R313: A SESSION CLOSE closes the session. -/
  | sessionClose (via : Via) (msg : List Byte)
  /-- SUBSCRIBE, R313: SUBSCRIBE sets the alert classes the session is notified of. -/
  | subscribe (via : Via) (msg : List Byte)
  /-- SESSION_IDLE_TIMEOUT, R313: A session without a valid message for 300 s is closed. -/
  | sessionIdleTimeout (k : Fin 4)
  /-- NOTIFY_SEND, R314: A NOTIFY carrying the latest record is sent to a subscribed session, rate-limited by NOTIFY_MIN. -/
  | notifySend (k : Fin 4)
  /-- GET_VERSION, R339: SPDM GET_VERSION is answered with version 1.2. -/
  | getVersion (via : Via) (msg : List Byte)
  /-- GET_CAPABILITIES, R339: SPDM GET_CAPABILITIES is answered. -/
  | getCapabilities (via : Via) (msg : List Byte)
  /-- NEGOTIATE_ALGORITHMS, R339: SPDM NEGOTIATE_ALGORITHMS selects P-521 and SHA-512. -/
  | negotiateAlgorithms (via : Via) (msg : List Byte)
  /-- GET_DIGESTS, R339: SPDM GET_DIGESTS returns the slot 0 chain digest. -/
  | getDigests (via : Via) (msg : List Byte)
  /-- GET_CERTIFICATE, R339: SPDM GET_CERTIFICATE returns a portion of the certificate chain. -/
  | getCertificate (via : Via) (msg : List Byte)
  /-- CHALLENGE, R339: SPDM CHALLENGE is answered with an AK signature and measurement summary. -/
  | challenge (via : Via) (msg : List Byte)
  /-- GET_MEASUREMENTS, R340: SPDM GET_MEASUREMENTS returns measurements 1–7, signed or unsigned. -/
  | getMeasurements (via : Via) (msg : List Byte)
  /-- UNSUPPORTED_REQUEST, R339: Any other SPDM request gets ERROR UnsupportedRequest. -/
  | unsupportedRequest (via : Via) (msg : List Byte)
  /-- TUNNEL_REQUEST, R311: A request with TUNNEL set is relayed in fragments to the far device. -/
  | tunnelRequest (via : Via) (msg : List Byte)
  /-- CAUSEWAY_WORD_RECEIVED, R311: A CAUSEWAY OAM word adds a fragment to the reassembly for its far node. -/
  | causewayWordReceived (n : Lane) (payload : BitVec 44)
  /-- TUNNEL_REPLY, R312: A complete far reply is returned to the requester's transport. -/
  | tunnelReply (node : BitVec 16) (msg : List Byte)
  /-- TUNNEL_TIMEOUT, R312: No tunnel reply within 10 ms answers UNREACHABLE. -/
  | tunnelTimeout (node : BitVec 16)
  /-- APPLICATION_SELECT, R316: A CMIS application selection outside the loaded image is rejected. -/
  | applicationSelect (h : HLane) (app : Fin 16)
  /-- GLB_RESET, R349: A write of 0x5EED to GLB_RESET makes a warm reset. -/
  | glbReset (p : Path) (value : Word32)
  /-- SEC_NONCE, R324: SEC_KEY_CTRL NONCE creates a fresh security nonce. -/
  | secNonce (p : Path)
  /-- ENROL, R323: ENROL checks an enrolment record and fuses the lowest free owner-key slot. -/
  | enrol (p : Path)
  /-- FUSE_DONE, R323: Fusing of the enrolled key completes. -/
  | fuseDone
  /-- REVOKE, R324: REVOKE blows the revocation fuse of a slot or of F0, unless refused. -/
  | revoke (p : Path) (slot : Fin 16)
  /-- DBG_NONCE, R342: SEC_DBG_CTRL NONCE creates a nonce for a debug token. -/
  | dbgNonce (p : Path)
  /-- SUBMIT, R343: SUBMIT checks a debug token, erases keys and grants its permissions. -/
  | submit (p : Path)
  /-- RAISE_FW, R333: RAISE_FW raises the firmware floor if allowed. -/
  | raiseFw (p : Path) (target : BitVec 7)
  /-- RAISE_HRN, R333: RAISE_HRN raises the harness floor if allowed. -/
  | raiseHrn (p : Path) (target : BitVec 7)
  /-- FW_OPEN, R334: SEC_FW_CTRL OPEN erases the inactive slot for an update. -/
  | fwOpen (p : Path)
  /-- FW_DATA_WRITE, R334: A write of SEC_FW_DATA appends four bytes to the update buffer. -/
  | fwDataWrite (p : Path) (value : Word32) (space : BitVec 13)
  /-- FW_FINISH, R334: FINISH verifies the written slot and writes a trial boot record. -/
  | fwFinish (p : Path)
  /-- ACTIVATE, R335: ACTIVATE restarts the controllers onto the new firmware. -/
  | activate (p : Path)
  /-- CONFIRM, R334: CONFIRM writes TRIAL = 0 for the running firmware. -/
  | confirm (p : Path)
  /-- RESTART, R335: RESTART restarts the controllers, or enters RECOVERY with RECOVER. -/
  | restart (p : Path) (recover : Bool)
  /-- RECOVERY_IMAGE, R330: In RECOVERY a downloaded firmware image is verified and run from controller RAM. -/
  | recoveryImage (puf certOk : Bool)
  /-- BYPASS, R341: JTAG BYPASS selects the bypass register. -/
  | bypass
  /-- IDCODE, R341: JTAG IDCODE returns 0x1641_65AB. -/
  | idcode
  /-- SAMPLE_PRELOAD, R341: JTAG SAMPLE/PRELOAD samples or preloads the boundary scan. -/
  | samplePreload (cells : List Bool)
  /-- EXTEST, R341: JTAG EXTEST takes the pins from the device logic. -/
  | extest
  /-- PRIVATE_INSTRUCTION, R341: A private JTAG instruction runs only under a debug token permission. -/
  | privateInstruction (perm : Fin 3)
  /-- POWER_ON, R348: Power-on with loss of AO power resets everything and leads to boot. -/
  | powerOn (addrSel : Fin 4)
  /-- WARM_RESET, R349: RESET_N is asserted with the rails up, resetting all but RWS and AO state. -/
  | warmReset (addrSel : Fin 4) (ao : AoTime)
  /-- BOOT, R349: After RESET_N release the device boots through ROM, MEM_INIT, BIST and HARNESS to RUNNING. -/
  | boot (puf certOk : Bool)
  /-- BOOT_BIST_DONE, R441: The boot BIST ends or the valid record is consumed, setting fences before the harness loads. -/
  | bootBistDone (puf certOk : Bool)
  /-- PWR_STANDBY, R353: CMD STANDBY squelches, closes accounts and powers down GROUP and SHARED domains. -/
  | pwrStandby (p : Path)
  /-- PWR_ACTIVE, R354: CMD ACTIVE reapplies the held configuration, unless refused. -/
  | pwrActive (p : Path)
  /-- PWR_DOZE, R355: CMD DOZE runs sleep entry, storing time and records and powering down to DOZE. -/
  | pwrDoze (p : Path)
  /-- PWR_DEEP, R355: CMD DEEP runs sleep entry down to DEEP. -/
  | pwrDeep (p : Path)
  /-- LPMODE_ASSERT, R352: An LPMode pin asserts and requests low power. -/
  | lpmodeAssert (pin : Fin 16)
  /-- LPMODE_DEASSERT, R352: An LPMode pin deasserts, ending the low-power request. -/
  | lpmodeDeassert (pin : Fin 16)
  /-- LOW_PWR_REQUEST_SW, R352: The CMIS LowPwrRequestSW bit is set or cleared. -/
  | lowPwrRequestSw (on : Bool)
  /-- DEEP_AFTER_EXPIRY, R357: DEEP_AFTER seconds in DOZE move the device to DEEP. -/
  | deepAfterExpiry
  /-- WAKE_SOURCE, R358: A wake source arrives in DOZE or DEEP and starts the wake stages. -/
  | wakeSource (source : Fin 6) (detail : Fin 32) (ao : AoTime)
  /-- WAKE_STAGE_READY, R359: A wake stage's ready asserts and the next stage or boot starts. -/
  | wakeStageReady (time : BitVec 16) (ao : AoTime) (addrSel : Fin 4)
  /-- WAKE_STAGE_TIMEOUT, R359: A wake stage times out and it and later stages power down. -/
  | wakeStageTimeout
  /-- WAKE_RETRY, R359: 10 ms after a failed attempt the wake retries from the first stage not ready. -/
  | wakeRetry
  /-- SUPPLY_TRIP, R362: A rail stays 8 % low for 1 µs and its trip action applies. -/
  | supplyTrip (rail : Fin 7) (addrSel : Fin 4)
  /-- SUPPLY_RECOVER, R362: A tripped rail has stayed within 5 % for 10 ms and recovers. -/
  | supplyRecover (rail : Fin 7)
  /-- TUSSOCK_SAMPLE, R363: A SAR slot converts one enabled input and updates its filtered value. -/
  | tussockSample (code : BitVec 12) (ao : AoTime)
  /-- TSK_RULE_COMMIT, R367: A rule write commits, resetting the rule and releasing its LOS, or is rejected. -/
  | tskRuleCommit (p : Path) (r : Fin 32) (value : BitVec 64)
  /-- TSK_IN_CFG_WRITE, R364: Enabling an input or changing its AVG clears its history. -/
  | tskInCfgWrite (p : Path) (k : Fin 32) (value : Word32)
  /-- CONVERSION_END, R374: An ADC conversion completes and its result, timestamp and stream record are written. -/
  | conversionEnd (input : List Int)
  /-- HKA_URGENT_GO, R375: A write of GO queues an urgent conversion ahead of the scan. -/
  | hkaUrgentGo (p : Path) (ch : Fin 64) (src order : Fin 4)
  /-- DECIMATION_TICK, R379: An engine tick adds held results to the accumulators and every M ticks writes outputs. -/
  | decimationTick
  /-- DAC_CODE_WRITE, R382: A DAC code write updates the output at once or waits for its timer. -/
  | dacCodeWrite (p : Path) (n : Fin 32) (code : BitVec 16)
  /-- DAC_TIMER_FIRE, R382: A DAC timer fires and updates every DAC bound to it. -/
  | dacTimerFire (t : Fin 3)
  /-- READBACK_REQUEST, R383: RB_DELAY after an update an urgent read-back conversion is requested. -/
  | readbackRequest (n : Fin 32)
  /-- READBACK_PERIOD, R383: Every RB_PERIOD ms the next DAC with RB_EN is read back. -/
  | readbackPeriod
  /-- DAC_FAULT_CLEAR, R383: A write of 1 to a DAC fault bit clears it and releases a held DAC. -/
  | dacFaultClear (p : Path) (mask : Word32)
  /-- SELF_CALIBRATION, R387: The ADC converts ground and bandgap and sets a new offset and gain correction. -/
  | selfCalibration
  /-- TSK_FIT, R389: Every second firmware refits the Tussock RX-power conversion of an input. -/
  | tskFit
  /-- PAGE_REPAIR_DONE, R397: A page repair completes, writing back flagged words and releasing stalled reads. -/
  | pageRepairDone (m : Fin 21) (page : BitVec 10)
  /-- SCRUB_BEAT, R402: The scrubber reads a beat of a page, corrects and repairs, and ends laps. -/
  | scrubBeat (m : Fin 21) (upsets : List (Fin 32 × BitVec 72))
  /-- RETIREMENT_COPY_DONE, R404: The retirement copy completes and the page address is remapped to the spare. -/
  | retirementCopyDone (m : Fin 21) (page : BitVec 10)
  /-- FLIP_MASK_COMMIT, R406: A commit of MEM_FLIP_MASK arms error injection on the next writes. -/
  | flipMaskCommit (p : Path) (value : BitVec 128)
  /-- LINEAR, R410: GO in LINEAR mode checks and starts a copy, descending on overlap. -/
  | linear (p : Path) (n : Fin 16)
  /-- FILL, R409: GO in FILL mode checks and starts a pattern fill. -/
  | fill (p : Path) (n : Fin 16)
  /-- INDEX, R410: GO in INDEX mode checks the table and starts its entries. -/
  | index (p : Path) (n : Fin 16)
  /-- DMA_ABORT, R413: ABORT ends a transfer at the end of the burst in progress. -/
  | dmaAbort (p : Path) (n : Fin 16)
  /-- DMA_BURST_END, R407: A burst ends and the engine grants the highest-priority requesting channel. -/
  | dmaBurstEnd
  /-- DMA_PREEMPT, R412: A higher-priority request pre-empts a burst at the next beat boundary. -/
  | dmaPreempt (beats : Fin 16)
  /-- STREAM_BURST_REQUEST, R413: A housekeeping stream requests one burst on its bound channel. -/
  | streamBurstRequest (k : Fin 4)
  /-- STREAM_WITHDRAW, R413: A stream withdraws its request; the running burst completes with WITHDRAWN. -/
  | streamWithdraw (k : Fin 4)
  /-- DMA_TRANSFER_END, R414: A transfer ends and its completion record is queued, waiting if the queue is full. -/
  | dmaTransferEnd (n : Fin 16)
  /-- DMA_CQ_RD_WRITE, R414: Software advances the completion queue read index, releasing waiting channels. -/
  | dmaCqRdWrite (p : Path) (index : Byte)
  /-- RECORD_WRITE, R423: The recorder writes one queued record into the kept and circulating areas and the AO mirror. -/
  | recordWrite
  /-- CLEAR_KEPT, R421: A write of CLEAR_KEPT empties the kept area and writes KEPT_CLEARED. -/
  | clearKept (p : Path)
  /-- EVL_HEAD_SEQ_READ, R426: A read of the low word of EVL_HEAD_SEQ captures the recorder pointers at one instant. -/
  | evlHeadSeqRead
  /-- PMC_CTL_WRITE, R427: A counter control write changes its source or mode and loads the preset. -/
  | pmcCtlWrite (p : Path) (k : Fin 128) (value : Word32)
  /-- PMC_WINDOW_BOUNDARY, R430: At a window boundary windowed counters copy to PMC_WIN_k and restart. -/
  | pmcWindowBoundary
  /-- SNAP, R431: A write of SNAP copies all 128 counters at one core cycle. -/
  | snap (p : Path)
  /-- COUNTER_WRAP, R433: A counter wraps; with SAMPLE it triggers a PMC_SAMPLE record and reloads the preset. -/
  | counterWrap (k : Fin 128)
  /-- SWEEP_START, R444: A group's in-service sweep begins its next test. -/
  | sweepStart (g : Grp)
  /-- IN_SERVICE_TEST_DONE, R445: A 40 µs in-service test ends; the resource returns or is fenced. -/
  | inServiceTestDone (g : Grp) (complete : Bool) (patterns : BitVec 28) (sigOk : Bool)
  /-- TEST_RETRY, R446: 1 ms after an abort the test is retried or skipped after ABORT_MAX. -/
  | testRetry (g : Grp)
  /-- BST_UNFENCE, R447: ADMIN retests a fenced slice or decoder. -/
  | bstUnfence (p : Path) (g : Grp) (kind : Fin 4) (index : Fin 16)
  /-- BIST_PARTITION_DONE, R438: A BIST partition completes with its result and fences. -/
  | bistPartitionDone (p : Fin 16) (complete : Bool) (patterns : BitVec 28) (countOk : Bool) (signature : Word32) (sigOk : Bool) (slices : BitVec 13) (units : BitVec 2) (decs : BitVec 7) (other : Bool)
  /-- SENSOR_SAMPLE, R448: Every 100 µs each sensor is sampled and thresholds are judged. -/
  | sensorSample (readings : List (BitVec 12))
  /-- SENSOR_PREDICTION, R449: Every 1 ms each sensor is predicted from its neighbours, excluded or readmitted. -/
  | sensorPrediction
  /-- RELIEF_RAISE, R450: The relief level rises one step and applies it in each group. -/
  | reliefRaise
  /-- RELIEF_LOWER, R450: After 1 s at or below RELIEF_OFF the relief level falls one step. -/
  | reliefLower
  /-- RATE_WINDOW, R451: At each 10 ms window end rises are judged for the rate-of-rise alarm. -/
  | rateWindow
  /-- STOP_ORDERLY, R453: A stop is demanded with 2 ms or more to critical; notify, drain, squelch and power down. -/
  | stopOrderly
  /-- STOP_DRAIN_END, R453: Replay runs of an orderly stop end, or 50 µs pass, and squelch follows. -/
  | stopDrainEnd
  /-- STOP_IMMEDIATE, R454: A stop with under 2 ms to critical powers down drivers and domains within 1 µs. -/
  | stopImmediate
  /-- TRIP, R454: The hardware trip acts at 130 °C and powers down all but AO until RESET_N. -/
  | trip
  /-- THERMAL_RESTART, R455: After T stays below RESTART for 1 s the device returns to ACTIVE. -/
  | thermalRestart
  /-- HOST_CDR_LOSS, R162: A locked host lane's recovered frequency leaves ±300 ppm, or FCM wander exceeds ±1 UI, and the lane leaves LOCKED with cause CDR for a warm CDR pass. -/
  | hostCdrLoss (seen : HostReport Int)
  /-- RATE_RANGE, R179: A transparent host lane's recovered frequency moves outside ±250 ppm, setting RATE_RANGE, holding the interpolator at its limit and dropping units. -/
  | rateRange (h : HLane) (freq : BitVec 16) (dropped : Nat)
  /-- DRV_TRANSACTION_DONE, R150: A software transaction on the driver control port completes with its result and clears BUSY. -/
  | drvTransactionDone (g : Grp) (ack : Bool) (rdata : Byte)
  /-- CHECKER_SYNC_GAIN, R143: A pattern checker sees 64 consecutive error-free symbols and goes into sync, starting its counts. -/
  | checkerSyncGain (seen : CheckerReport)
  /-- CHECKER_SYNC_LOSS, R143: A pattern checker sees 64 symbol errors within 1,024 symbols, loses sync, counts a slip and seeds again. -/
  | checkerSyncLoss (c : CheckerId) (syms : List (BitVec 2)) (errs : Nat) (bits : Nat)
  /-- LINE_ALIGNMENT_MARKER_LOCK, R91: An IEEE-mode line lane in ALIGN gains alignment-marker lock and enters LOCKED. -/
  | lineAlignmentMarkerLock (n : Lane)
  /-- LINE_ALIGNMENT_MARKER_LOCK_LOSS, R91: The IEEE rules declare loss of alignment-marker lock on a line lane, which leaves LOCKED with cause FRAME_LOSS in that core cycle. -/
  | lineAlignmentMarkerLockLoss (n : Lane)
  /-- RECOVERED_RATE_SLEW_DONE, R178: The host transmitters of a transparent line lane have slewed to its recovered rate and relaying starts at the next unit boundary, replacing Local Fault. -/
  | recoveredRateSlewDone (n : Lane)
  /-- BUS_FREE, R300: At the next bus-free condition the device sends its pending in-band interrupt request. -/
  | busFree (accepted : Bool)
  deriving DecidableEq, Repr

end Sys2Proof
end

