-- ==== Sys2Proof/Decode.lean ====
section
/-! DEFINITION. The command a table word spells. spec/opcode_table.json gives bits to no row, so no word spells a command. -/
namespace Sys2Proof

/-- The command whose row's bits are `w`, in `nbits` bits: the table gives no row any bits (log entry 1). -/
def decodeTableWord (_nbits _w : Nat) : Option Instr := none

end Sys2Proof
end

