-- ==== Sys2Proof/Machine/LineCode.lean ====
section
/-! DEFINITION. The codes of the line frame, computed: OAM CRC and whitening (R36, R37), pilots (R30, R34), Gray mapping
(R29), scrambler (R42), inner code and Chase-II decoder (R43, R45), outer code (R47, R51). -/
namespace Sys2Proof.Machine

/-! ### OAM words -/

/-- One step of the CRC-8 of R36 on one bit of the word. -/
def oamCrcStep (crc : BitVec 8) (b : Bool) : BitVec 8 :=
  if (crc.getLsbD 7 != b) then (crc <<< 1) ^^^ 0x2F#8 else crc <<< 1

/-- The CRC over bits `hi` down to 8, starting from `crc`. -/
def oamCrcFrom (w : OamWord) : Nat → BitVec 8 → BitVec 8
  | 0, crc => crc
  | n + 1, crc => oamCrcFrom w n (oamCrcStep crc (w.getLsbD (n + 8)))

/-- The CRC-8 of an OAM word over its bits 55 down to 8 (R36). -/
def oamCrc (w : OamWord) : BitVec 8 := oamCrcFrom w 48 0xFF#8

/-- The whitening mask of R37. -/
def oamMask : OamWord := 0xA55AA55AA55AA5#56

/-- An OAM word with its CRC in bits 7 to 0. -/
def oamWord (type : Nat) (payload : Nat) : OamWord :=
  let w : OamWord := BitVec.ofNat 56 ((type % 16) * 2 ^ 52 + (payload % 2 ^ 44) * 256)
  w ||| (oamCrc w).setWidth 56

/-- The word as it appears on the fibre (R37). -/
def oamWhiten (w : OamWord) : OamWord := w ^^^ oamMask

/-- The CRC of a received, unwhitened word passes. -/
def oamCrcOk (w : OamWord) : Bool := oamCrc w == w.extractLsb' 0 8

/-- TYPE of an OAM word (Table 2-4). -/
def oamType (w : OamWord) : Nat := (w.extractLsb' 52 4).toNat

/-- PAYLOAD of an OAM word (Table 2-4). -/
def oamPayload (w : OamWord) : BitVec 44 := w.extractLsb' 8 44

/-- A word that a receiver accepts as valid: its CRC passes and its TYPE is not reserved (Tables 2-5, 3-2). -/
def oamValid (w : OamWord) : Bool := oamCrcOk w && decide (oamType w < 6)

/-! ### Pilots and mapping -/

/-- The next bits of the pilot generator of R34: the register holds b(n−1) … b(n−11), newest first. -/
def pilotBits : Nat → List Bool → List Bool
  | 0, _ => []
  | n + 1, r =>
    let b := (r.getD 8 false) != (r.getD 10 false)
    b :: pilotBits n (b :: r.take 10)

/-- b(0) to b(10): the seed 0x5A3 from its bit 10 down to bit 0. -/
def pilotSeed : List Bool := [true, false, true, true, false, true, false, false, false, true, true]

/-- The 256 bits of the pilot sequence. -/
def pilotSequence : List Bool := pilotSeed ++ pilotBits 245 pilotSeed.reverse

/-- The level of two bits under the Gray mapping of Table 2-2. -/
def levelOf (b₁ b₂ : Bool) : Int :=
  match b₁, b₂ with
  | false, false => -3
  | false, true => -1
  | true, true => 1
  | true, false => 3

/-- The levels of a bit stream, two bits a symbol (R29). -/
def levelsOf : List Bool → List Int
  | b₁ :: b₂ :: bs => levelOf b₁ b₂ :: levelsOf bs
  | _ => []

/-- The 128 symbols of the pilot P, or of its negation (R30). -/
def pilotSymbols (neg : Bool) : List Int := (levelsOf pilotSequence).map fun x => if neg then -x else x

/-- The polarity of the pilot of frame F = 16 m + f: `true` for −P (Table 2-3). -/
def pilotNegOf (F : Nat) : Bool :=
  let f := F % 16
  let m := F / 16
  f = 0 || ((f = 1 || f = 2 || f = 3) && m.testBit (f - 1))

/-! ### Scrambler -/

/-- The bits of the scrambler sequence from its register, newest bit first (s(k−1) … s(k−31)). -/
def scramblerBits : Nat → List Bool → List Bool
  | 0, _ => []
  | n + 1, r =>
    let b := (r.getD 27 false) != (r.getD 30 false)
    b :: scramblerBits n (b :: r.take 30)

/-- The frame seed of lane `n`, frame `f` of the superframe (R42). -/
def scramblerSeed (n f : Nat) : BitVec 31 :=
  0x2B0F6A11#31 ^^^ BitVec.ofNat 31 (n * 2 ^ 24) ^^^ BitVec.ofNat 31 (f * 2 ^ 16)

/-- s(0) to s(30): the seed from its bit 30 down to bit 0. -/
def seedBits (seed : BitVec 31) : List Bool := (List.range 31).map fun i => seed.getLsbD (30 - i)

/-- The first `count` bits of the scrambler sequence of a frame. -/
def scramblerSequence (seed : BitVec 31) (count : Nat) : List Bool :=
  let s := seedBits seed
  (s ++ scramblerBits (count - 31) s.reverse).take count

/-- The data stream of a frame after (or before) scrambling: the XOR with the sequence, bit by bit. -/
def scramble (seed : BitVec 31) (bits : List Bool) : List Bool :=
  List.zipWith (fun a b => a != b) bits (scramblerSequence seed bits.length)

/-! ### Inner code -/

/-- Multiplication in GF(2^w) with the primitive polynomial `poly` (its x^w term included): one bit of `b` a step, from
the highest. -/
def gfMul (w poly a b : Nat) : Nat :=
  (List.range w).foldl (fun acc i =>
    let d := acc * 2
    let d := if d.testBit w then d ^^^ poly else d
    if b.testBit (w - 1 - i) then d ^^^ a else d) 0

/-- α^k in GF(2^w), α = x. -/
def gfPow (w poly : Nat) : Nat → Nat → Nat
  | _, 0 => 1
  | a, k + 1 => gfMul w poly a (gfPow w poly a k)

/-- The remainder register of the inner code after one information bit (R43): division by g(x) = 0x1_6F63. -/
def bchStep (r : BitVec 16) (b : Bool) : BitVec 16 :=
  if (r.getLsbD 15 != b) then (r <<< 1) ^^^ 0x6F63#16 else r <<< 1

/-- The 16 parity bits of 239 information bits, highest power first. -/
def bchParity (info : List Bool) : List Bool :=
  let r := info.foldl bchStep 0
  (List.range 16).map fun i => r.getLsbD (15 - i)

/-- The XOR of a list of bits. -/
def parityOf (bs : List Bool) : Bool := bs.foldl (fun a b => a != b) false

/-- The inner codeword c(0) … c(255) of 239 information bits (R43). -/
def innerEncode (info : List Bool) : List Bool :=
  let c := info ++ bchParity info
  c ++ [parityOf c]

/-- GF(2^8) of the inner code. -/
def gf8 (a b : Nat) : Nat := gfMul 8 0x11D a b

/-- The value of the polynomial with coefficients `cs` (highest power first) at `x`, in the field with product `mul`. -/
def polyEval (mul : Nat → Nat → Nat) (x : Nat) (cs : List Nat) : Nat := cs.foldl (fun acc c => mul acc x ^^^ c) 0

/-- Decoding of y(0) … y(254) (R45): syndromes S1 and S3; no error, or as many distinct roots of the error locator among
the positions as its degree. Answers the corrected bits, or nothing where it fails. -/
def bchDecode (y : List Bool) : Option (List Bool) :=
  let cs := (y.take 255).map fun b => if b then 1 else 0
  let s₁ := polyEval gf8 2 cs
  let s₃ := polyEval gf8 8 cs
  if s₁ = 0 && s₃ = 0 then some y
  else if s₁ = 0 then none
  else
    let s1sq := gf8 s₁ s₁
    let d := s₃ ^^^ gf8 s1sq s₁
    -- locations X with X = S1 (degree 1) or S1·X² + S1²·X + (S3 + S1³) = 0 (degree 2); position i has X = α^(254−i)
    let isRoot := fun (x : Nat) => if d = 0 then x = s₁ else (gf8 s₁ (gf8 x x) ^^^ gf8 s1sq x ^^^ d) = 0
    let powers := (List.range 254).foldl (fun (acc : List Nat) _ => gf8 2 (acc.headD 1) :: acc) [1]
    let hits := powers.map fun x => decide (isRoot x)
    let count := hits.countP id
    if count = (if d = 0 then 1 else 2) then some (List.zipWith (fun b h => b != h) (y.take 255) hits) else none

/-- Outcome of an inner codeword (R45). -/
inductive InnerOutcome where
  | zero | corrected | fail
  deriving DecidableEq, Repr

/-- The positions of the four smallest reliabilities, ties to the lower position, least reliable first. -/
def leastReliable (q : List Nat) : List Nat :=
  let rec insertBy (e : Nat × Nat) : List (Nat × Nat) → List (Nat × Nat)
    | [] => [e]
    | e' :: es => if e.1 < e'.1 then e :: e' :: es else e' :: insertBy e es
  ((q.zipIdx.foldl (fun best e => (insertBy e best).take 4) []).map (·.2))

/-- `y` with the bits of pattern `t` flipped at the positions `lrb` (R45). -/
def flipAt (y : List Bool) (lrb : List Nat) (t : Nat) : List Bool :=
  (lrb.zipIdx).foldl (fun y e => if t.testBit e.2 then y.modify e.1 not else y) y

/-- The Chase-II decoder of R45 on hard decisions `r` and reliabilities `q`: the outcome and the 256 output bits. -/
def chaseDecode (r : List Bool) (q : List Nat) : InnerOutcome × List Bool :=
  let lrb := leastReliable q
  let best := (List.range 16).foldl (fun (best : Option (Nat × List Bool)) t =>
    match bchDecode ((flipAt r lrb t).take 255) with
    | none => best
    | some c255 =>
      let c := c255 ++ [parityOf c255]
      let metric := ((List.zip (List.zip c r) q).map fun e => if e.1.1 = e.1.2 then 0 else e.2 + 1).sum
      match best with
      | none => some (metric, c)
      | some b => if metric < b.1 then some (metric, c) else some b) none
  match best with
  | none => (.fail, r)
  | some (_, c) => if c = r then (.zero, r) else (.corrected, c)

/-- How many bits of two equally long lists differ. -/
def bitDiff (a b : List Bool) : Nat := (List.zip a b).countP fun e => e.1 != e.2

/-! ### Outer code -/

/-- GF(2^10) of the outer code: x^10 + x^3 + 1 (R47). -/
def gf10 (a b : Nat) : Nat := gfMul 10 0x409 a b

/-- α^k in GF(2^10), with k taken modulo 1,023. -/
def alpha10 (k : Nat) : Nat := gfPow 10 0x409 2 (k % 1023)

/-- The inverse in GF(2^10): a^1022. -/
def inv10 (a : Nat) : Nat := gfPow 10 0x409 a 1022

/-- Product of two polynomials over GF(2^10), coefficients lowest power first. -/
def polyMul10 (a b : List Nat) : List Nat :=
  (a.zipIdx).foldl (fun acc e =>
    let term := List.replicate e.2 0 ++ b.map (gf10 e.1)
    (List.range (max acc.length term.length)).map fun i => acc.getD i 0 ^^^ term.getD i 0) []

/-- The generator polynomial of RS(544,514): the product of (x − α^j), j = 0 to 29, lowest power first. -/
def rsGenerator : List Nat := (List.range 30).foldl (fun g j => polyMul10 g [alpha10 j, 1]) [1]

/-- One step of the division by the generator: `rem` holds the 30 remainder symbols, highest power first. -/
def rsStep (gHigh : List Nat) (rem : List Nat) (m : Nat) : List Nat :=
  let fb := rem.headD 0 ^^^ m
  List.zipWith (fun r g => r ^^^ gf10 fb g) (rem.tail ++ [0]) gHigh

/-- The codeword of 514 message symbols: message first, then 30 parity symbols (R47). -/
def rsEncode (msg : List Nat) : List Nat :=
  let gHigh := (rsGenerator.take 30).reverse
  msg ++ msg.foldl (rsStep gHigh) (List.replicate 30 0)

/-- The 30 syndromes of a received word, symbol 0 being the highest power. -/
def rsSyndromes (w : List Nat) : List Nat := (List.range 30).map fun j => polyEval gf10 (alpha10 j) w

/-- The state of the Berlekamp–Massey iteration: locator, previous locator, length, shift, previous discrepancy. -/
structure BmState where
  lam : List Nat
  prev : List Nat
  len : Nat
  shift : Nat
  b : Nat
  deriving DecidableEq, Repr

/-- One iteration of Berlekamp–Massey over GF(2^10) on syndrome number `k`. -/
def bmStep (syn : List Nat) (t : BmState) (k : Nat) : BmState :=
  let d := ((List.range (t.len + 1)).map fun i => gf10 (t.lam.getD i 0) (syn.getD (k - i) 0)).foldl (· ^^^ ·) 0
  if d = 0 then { t with shift := t.shift + 1 }
  else
    let c := gf10 d (inv10 t.b)
    let term := List.replicate t.shift 0 ++ t.prev.map (gf10 c)
    let lam := (List.range (max t.lam.length term.length)).map fun i => t.lam.getD i 0 ^^^ term.getD i 0
    if 2 * t.len ≤ k then { lam := lam, prev := t.lam, len := k + 1 - t.len, shift := 1, b := d }
    else { t with lam := lam, shift := t.shift + 1 }

/-- The value of a polynomial (lowest power first) at `x`. -/
def polyEvalLow (x : Nat) (cs : List Nat) : Nat := polyEval gf10 x cs.reverse

/-- The outer decoder of R51: the corrected word, the number of symbols and of bits it corrected, or nothing where the
codeword is uncorrectable. -/
def rsDecode (w : List Nat) : Option (List Nat × Nat × Nat) :=
  let syn := rsSyndromes w
  if syn.all (· = 0) then some (w, 0, 0)
  else
    let t := (List.range 30).foldl (bmStep syn) { lam := [1], prev := [1], len := 0, shift := 1, b := 1 }
    if 15 < t.len then none
    else
      let omega := (polyMul10 syn t.lam).take 30
      let deriv := (t.lam.zipIdx).map fun e => if e.2 % 2 = 1 then e.1 else 0
      -- symbol p has location X = α^(543−p); it is in error where Λ(X⁻¹) = 0
      let fix := fun (p : Nat) =>
        let xi := alpha10 (1023 - (543 - p))
        if polyEvalLow xi t.lam = 0 then
          -- deriv holds x·Λ'(x); the error value is Ω(X⁻¹) / (X⁻¹·Λ'(X⁻¹)) · X⁰ for a first root α⁰
          gf10 (polyEvalLow xi omega) (inv10 (polyEvalLow xi deriv))
        else 0
      let fixes := (List.range 544).map fix
      let count := fixes.countP (· ≠ 0)
      if count = t.len then
        some (List.zipWith (· ^^^ ·) w fixes, count,
          (fixes.map fun e => ((List.range 10).countP fun i => e.testBit i)).sum)
      else none

/-- The bits of 10-bit symbols, most significant first (R47). -/
def symbolBits (ss : List Nat) : List Bool := ss.flatMap fun v => (List.range 10).map fun i => v.testBit (9 - i)

/-- A list cut into consecutive pieces of `n`; at most `k` pieces, a short last piece dropped. -/
def chunks {α : Type} (n : Nat) : Nat → List α → List (List α)
  | 0, _ => []
  | k + 1, l => if l.length < n then [] else l.take n :: chunks n k (l.drop n)

end Sys2Proof.Machine
end

