-- ==== Sys2Proof/Config.lean ====
section
/-! DEFINITION. What an implementation or a standard outside the spec fixes, and the free values: constants without a
body, so no proof can rest on a value of theirs. -/
namespace Sys2Proof.Config

/-- A fresh value the spec leaves open, the `n`-th one taken; a field of State counts them (log entry 4). -/
opaque freeValue : Nat → BitVec 512

/-- Symbol `k` of a pattern that IEEE 802.3 Clause 120 defines (1 PRBS13Q, 2 PRBS31Q, 3 SSPRQ), from the seed the
standard defines: the spec names the standard and does not give the sequence (log entry 6). -/
opaque standardPattern (pat k : Nat) : BitVec 2

/-- Symbol `k` of a PRBS pattern (1 PRBS13Q, 2 PRBS31Q) after the 32 symbols that seed a checker, oldest first (R143; log entry 6). -/
opaque prbsAfter (pat : Nat) (seed : List (BitVec 2)) (k : Nat) : BitVec 2

/-- SHA-512 of FIPS 180-4 (log entry 5). -/
opaque sha512 : List Byte → BitVec 512

/-- HMAC-SHA-512 of FIPS 198-1: key, message (log entry 5). -/
opaque hmac512 : List Byte → List Byte → BitVec 512

/-- ECDSA P-521 verification of FIPS 186-5 with SHA-512: public key, message, r, s (log entry 5). -/
opaque ecdsaVerify (key msg r s : List Byte) : Bool

/-- ECDSA P-521 signing with SHA-512 under a private key: r then s, 132 bytes (log entry 5). -/
opaque ecdsaSign (key : Nat) (msg : List Byte) : List Byte

/-- The public key (132 bytes) of a private key (log entry 5). -/
opaque publicKey (key : Nat) : List Byte

/-- The device seed, 66 bytes, that the ROM reconstructs from the SRAM-PUF (R325; log entry 5). -/
opaque deviceSeed : List Byte

/-- A public key held in the boot ROM, 67 bytes, by its key ID: F0, F1, P0 (Table 11-1; log entry 5). -/
opaque romKey (keyId : Nat) : List Byte

/-- The digest of the boot ROM image, fixed at manufacture (Table 11-6). -/
opaque romDigest : BitVec 512

/-- Whether 67 bytes, or 133 uncompressed ones, are a point of the P-521 curve (log entry 5). -/
opaque onCurve : List Byte → Bool

/-- The ECDH shared secret of a private key and a peer's public key (log entry 5). -/
opaque ecdhSecret (key : Nat) (peer : List Byte) : List Byte

/-- The proportional and the integral gain of the time servo for a bandwidth code, in units of `ADJ` ÷ 2^32 per 2^-16 ns
(R256 names the loop and its bandwidth and gives no gains; log entry 22). -/
opaque servoGains (bw : Nat) : Int × Int

/-- The filtered offset after a combined sample: R260 names the filter and does not define it (log entry 22). -/
opaque offsetFilter (last sample : Int) : Int

/-- The combination of the theta samples of two or more lanes (R256 names it and does not define it; log entry 22). -/
opaque combineThetas : List Int → Int

/-- The factory-set neighbour set of a temperature sensor (R449; log entry 7). -/
opaque thmNeighbours (sensor : Nat) : List Nat

/-- The factory-calibrated prediction of a sensor from its valid neighbours' values, in 0.125 °C (R449; log entry 7). -/
opaque thmPredict (sensor : Nat) (values : List (Nat × Int)) : Int

/-- What the light code makes of an error pattern of three or more bits: flagged (none), or taken for a single-bit error, the
data then wrong by the pattern answered. The spec gives no check matrix (R392; log entry 8). -/
opaque lightDecode (byteStore : Bool) (mask : Nat) : Option Nat

/-- The voltage on HKA_VREF in µV (R369; log entry 9). -/
opaque extRef : Nat

/-- The fit of R389 over pairs (y, RX power): A and B; the spec does not define the fit (log entry 9). -/
opaque tskFit (pairs : List (Nat × Nat)) : Nat × Nat

/-- The fit of A alone, B kept (R389; log entry 9). -/
opaque tskFitA (pairs : List (Nat × Nat)) (b : Nat) : Nat

/-- Whether the loaded harness image, named by its header, offers an application code to a host lane: the spec advertises the
applications of the loaded image and gives them no codes (R316; log entry 65). -/
opaque appAdvertised (header : List Byte) (host app : Nat) : Bool

/-- A CMIS byte of pages 01h and 02h (advertising, thresholds), of pages 20h to 23h (observables of the media lanes) and of the
checker results of page 14h, from what the device holds: the spec names their content and gives no layout (R316; log entry 64). -/
opaque cmisDerived (page bank off : Nat) (values : List Nat) : BitVec 8

/-- The AK certificate that the ROM issues under a device key with a serial number for an AK public key (R327; log entry 66). -/
opaque akCert (devKey serial : Nat) (key : List Byte) : List Byte

/-- The bit a detector decides where both values are equally near: the spec gives none (log entry 161). -/
opaque decisionTie : Bool

/-- The proportional and the integral gain of a lane's timing loop for a bandwidth in kHz, in 2^-16 of a phase position and of 0.01 ppm per
unit of the phase detectors (R71 names the loop and its bandwidths and gives no gains; log entry 162). -/
opaque trGains (kHz : Nat) : Int × Int

/-- 256b/257b transcoding of IEEE 802.3 Clause 119: the 257 bits, bit 0 first, of four blocks of 66 bits; and block `i` of the four that
257 bits stand for (R182; log entry 166). -/
opaque transcode : List (BitVec 2 × BitVec 64) → BitVec 257
opaque untranscode : BitVec 257 → Nat → BitVec 2 × BitVec 64

/-- Symbol `k` of the message that holds the alignment-marker group of host lane `h` (Clause 119; log entry 166). -/
opaque markerMessage (h k : Nat) : BitVec 10

/-- Symbol `k` (Gray bits) of a transmit interval of IEEE line mode that carries the codewords `data`, `state` being what the format holds
from before: the spec names the standard and does not give the format (R61; log entry 4). -/
opaque ieeeSymbol (state : BitVec 512) (data : List Bool) (k : Nat) : BitVec 2

/-- An elastic buffer of a port: the mark below which idles are inserted, the one above which they are deleted, its depth in blocks (R182
gives no size; log entry 167). -/
opaque elastic : Nat × Nat × Nat

/-- What a port sends in the middle of a frame when its elastic buffer is empty (log entry 167). -/
opaque underflowBlk : BitVec 2 × BitVec 64

end Sys2Proof.Config
end

