-- ==== Sys2Proof/Machine/Reg.lean ====
section
/-! DEFINITION. The registers of the NZ6416 by name (every register table of spec/00 to spec/17), one constructor per
register name; an indexed register is one constructor and an index. -/
namespace Sys2Proof.Machine

/-- The registers of the management space, in the order of the chapters that introduce them. -/
inductive Reg where
  /-- 0x00000000, 32 bits, R320. -/
  | GLB_ID
  /-- 0x00000004, 32 bits, R1. -/
  | GLB_PARAM
  /-- 0x00000008, 32 bits, R320. -/
  | GLB_STATE
  /-- 0x0000000C, 32 bits, R442. -/
  | GLB_FENCE
  /-- 0x00000010, 32 bits, R349. -/
  | GLB_RESET
  /-- 0x00010000, 32 bits, R350. -/
  | PWR_STATE
  /-- 0x00010004, 32 bits, R351. -/
  | PWR_CTRL
  /-- 0x00010008, 32 bits, R355. -/
  | PWR_WAKE_LANES
  /-- 0x00010010, 32 bits, R361. -/
  | PWR_WAKE_SRC
  /-- 0x00010018, 96 bits, R361. -/
  | PWR_WAKE_TIME
  /-- 0x00010028, 64 bits, R361. -/
  | PWR_STAGE_TIME
  /-- 0x00010030, 32 bits, R361. -/
  | PWR_WAKE_COUNT
  /-- 0x00010040, 32 bits, R362. -/
  | PWR_SUPPLY
  /-- 0x00018000, 32 bits, R363. -/
  | TSK_CTRL
  /-- 0x00018010, 32 bits, R365. -/
  | TSK_ACTIVE
  /-- 0x00018100, 32 bits, R364. -/
  | TSK_IN_CFG
  /-- 0x00018200, 32 bits, R364. -/
  | TSK_VALUE
  /-- 0x00018400, 64 bits, R367. -/
  | TSK_RULE
  /-- 0x00018600, 32 bits, R366. -/
  | TSK_HITS
  /-- 0x00020000, 32 bits, R23. -/
  | CLK_STATUS
  /-- 0x00020004, 32 bits, R23. -/
  | CLK_REF_LOSS
  /-- 0x00020100, 32 bits, R289. -/
  | CLK_LINE
  /-- 0x00020140, 32 bits, R289. -/
  | CLK_HOST
  /-- 0x00040000, 96 bits, R240. -/
  | TMB_NOW
  /-- 0x0004000C, 32 bits, R258. -/
  | TMB_QUALITY
  /-- 0x00040010, 64 bits, R261. -/
  | TMB_ERR_BOUND
  /-- 0x00040018, 32 bits, R271. -/
  | TMB_NODE_ID
  /-- 0x0004001C, 32 bits, R253. -/
  | TMB_SRC_CFG
  /-- 0x00040020, 32 bits, R240. -/
  | TMB_RATE
  /-- 0x00040024, 32 bits, R261. -/
  | TMB_HOLD_CFG
  /-- 0x00040030, 128 bits, R242. -/
  | TMB_SET
  /-- 0x00040040, 32 bits, R252. -/
  | TMB_STATUS
  /-- 0x00040044, 32 bits, R252. -/
  | TMB_ASYM_CAL
  /-- 0x00040050, 96 bits, R262. -/
  | TMB_SLEEP_ENTRY
  /-- 0x00040060, 64 bits, R262. -/
  | TMB_SLEEP_ELAPSED
  /-- 0x00040068, 32 bits, R262. -/
  | TMB_SLEEP_INFO
  /-- 0x00040080, 32 bits, R265. -/
  | TMB_PPS_CFG
  /-- 0x00040084, 32 bits, R268. -/
  | TMB_PPS_OUT_OFS
  /-- 0x00040088, 32 bits, R244. -/
  | TMB_PPS_IN_DLY
  /-- 0x0004008C, 32 bits, R261. -/
  | TMB_PPS_UNC
  /-- 0x00040090, 64 bits, R266. -/
  | TMB_PPS_SEC
  /-- 0x000400A0, 96 bits, R265. -/
  | TMB_PPS_IN_TS
  /-- 0x000400AC, 32 bits, R266. -/
  | TMB_PPS_IN_ERR
  /-- 0x000400B0, 32 bits, R265. -/
  | TMB_PPS_EDGES
  /-- 0x000400B4, 32 bits, R267. -/
  | TMB_PPS_OUTLIER
  /-- 0x000400B8, 32 bits, R267. -/
  | TMB_PPS_MISS
  /-- 0x00041000, 32 bits, R250. -/
  | TMB_ASYM
  /-- 0x00041004, 32 bits, R250. -/
  | TMB_ASYM_UNC
  /-- 0x00041008, 64 bits, R249. -/
  | TMB_RTT
  /-- 0x00041010, 64 bits, R249. -/
  | TMB_OFFSET
  /-- 0x00041018, 32 bits, R253. -/
  | TMB_LANE_STATUS
  /-- 0x0004101C, 32 bits, R255. -/
  | TMB_LANE_FLAGS
  /-- 0x00041020, 96 bits, R244. -/
  | TMB_FRAME_TX
  /-- 0x00041030, 96 bits, R244. -/
  | TMB_FRAME_RX
  /-- 0x00041040, 32 bits, R248. -/
  | TMB_TIME_RX
  /-- 0x00041044, 32 bits, R248. -/
  | TMB_SUB_RSVD
  /-- 0x00041048, 32 bits, R249. -/
  | TMB_EXCH
  /-- 0x0004104C, 32 bits, R255. -/
  | TMB_OUTLIER
  /-- 0x00042000, 32 bits, R270. -/
  | TMB_TC_CORR
  /-- 0x00042004, 32 bits, R270. -/
  | TMB_TC_SKIP
  /-- 0x00042008, 32 bits, R270. -/
  | TMB_TC_UNLOCK
  /-- 0x00080000, 32 bits, R283. -/
  | HRN_LOAD_CTRL
  /-- 0x00080004, 32 bits, R283. -/
  | HRN_LOAD_DATA
  /-- 0x00080008, 32 bits, R281. -/
  | HRN_STATUS
  /-- 0x0008000C, 32 bits, R283. -/
  | HRN_LOAD_COUNT
  /-- 0x00080010, 64 bits, R294. -/
  | HRN_IMAGE_INFO
  /-- 0x00080018, 32 bits, R282. -/
  | HRN_LOAD_OK
  /-- 0x0008001C, 32 bits, R282. -/
  | HRN_LOAD_REJ
  /-- 0x00080040, 512 bits, R294. -/
  | HRN_IMAGE_HASH
  /-- 0x00080100, 32 bits, R287. -/
  | HRN_GROUP_STATE
  /-- 0x00100000, 32 bits, R78. -/
  | LRX_CTRL
  /-- 0x00100004, 32 bits, R74. -/
  | LRX_STATUS
  /-- 0x00100008, 32 bits, R92. -/
  | LRX_ACQ_CFG
  /-- 0x0010000C, 32 bits, R68. -/
  | LRX_AGC_CFG
  /-- 0x00100010, 32 bits, R68. -/
  | LRX_AGC
  /-- 0x00100014, 32 bits, R72. -/
  | LRX_TR
  /-- 0x00100018, 32 bits, R90. -/
  | LRX_SNR
  /-- 0x00100020, 256 bits, R89. -/
  | LRX_LOCK_SNAP
  /-- 0x00100040, 32 bits, R93. -/
  | LRX_ACQ_COLD
  /-- 0x00100044, 32 bits, R93. -/
  | LRX_ACQ_LOCK
  /-- 0x00100048, 32 bits, R79. -/
  | LRX_FALSE_CAND
  /-- 0x0010004C, 32 bits, R93. -/
  | LRX_CAND_MISS
  /-- 0x00100050, 32 bits, R82. -/
  | LRX_PSTEP_PRE
  /-- 0x00100054, 32 bits, R82. -/
  | LRX_PSTEP_LOCK
  /-- 0x00100058, 32 bits, R85. -/
  | LRX_LOL
  /-- 0x0010005C, 32 bits, R87. -/
  | LRX_RESTART
  /-- 0x00100060, 32 bits, R87. -/
  | LRX_FAIL
  /-- 0x00100064, 32 bits, R93. -/
  | LRX_CLIP
  /-- 0x00100068, 32 bits, R88. -/
  | LRX_TIMEOUT
  /-- 0x00100800, 32 bits, R94. -/
  | LRX_TIA_CFG
  /-- 0x00100804, 32 bits, R66. -/
  | LRX_TIA_CMD
  /-- 0x00100808, 32 bits, R66. -/
  | LRX_TIA_STATUS
  /-- 0x00104000, 32 bits, R107. -/
  | EQP_CTRL
  /-- 0x00104004, 32 bits, R101. -/
  | EQP_ALLOC
  /-- 0x00104008, 64 bits, R101. -/
  | EQP_POS
  /-- 0x00104010, 32 bits, R107. -/
  | EQP_STATUS
  /-- 0x00104014, 32 bits, R105. -/
  | EQP_POST
  /-- 0x00104018, 32 bits, R105. -/
  | EQP_TARGET
  /-- 0x0010401C, 32 bits, R109. -/
  | EQP_SOFT
  /-- 0x00104100, 32 bits, R109. -/
  | EQP_QHIST
  /-- 0x00104200, 32 bits, R125. -/
  | EQP_COEF
  /-- 0x00104800, 32 bits, R119. -/
  | EQP_POOL
  /-- 0x00104804, 32 bits, R118. -/
  | EQP_SLICE_STATE
  /-- 0x00104808, 32 bits, R111. -/
  | EQP_OP_CMD
  /-- 0x0010480C, 32 bits, R111. -/
  | EQP_OP_STATUS
  /-- 0x00104810, 32 bits, R120. -/
  | EQP_AUDIT
  /-- 0x00104820, 32 bits, R111. -/
  | EQP_OP_OK
  /-- 0x00104824, 32 bits, R111. -/
  | EQP_OP_FAIL
  /-- 0x00108000, 32 bits, R55. -/
  | LFEC_CTRL
  /-- 0x00108004, 32 bits, R58. -/
  | LFEC_STATUS
  /-- 0x00108008, 32 bits, R59. -/
  | LFEC_SD
  /-- 0x0010800C, 32 bits, R59. -/
  | LFEC_SF
  /-- 0x00108010, 64 bits, R41. -/
  | LFEC_FAR_STATUS
  /-- 0x00108020, 32 bits, R40. -/
  | LFEC_OAM_RX
  /-- 0x00108024, 32 bits, R40. -/
  | LFEC_OAM_CRC
  /-- 0x00108028, 32 bits, R40. -/
  | LFEC_OAM_RSVD
  /-- 0x00108040, 64 bits, R60. -/
  | LFEC_RS_RX
  /-- 0x00108048, 64 bits, R60. -/
  | LFEC_RS_UNCORR
  /-- 0x00108050, 64 bits, R60. -/
  | LFEC_RS_SYM
  /-- 0x00108058, 64 bits, R60. -/
  | LFEC_RS_BITS
  /-- 0x00108060, 64 bits, R60. -/
  | LFEC_IN_RX
  /-- 0x00108068, 64 bits, R60. -/
  | LFEC_IN_ZERO
  /-- 0x00108070, 64 bits, R60. -/
  | LFEC_IN_CORR
  /-- 0x00108078, 64 bits, R60. -/
  | LFEC_IN_FAIL
  /-- 0x00108080, 64 bits, R60. -/
  | LFEC_IN_FLIPS
  /-- 0x00108100, 64 bits, R60. -/
  | LFEC_RS_HIST
  /-- 0x0010C000, 32 bits, R133. -/
  | LTX_CTRL
  /-- 0x0010C004, 32 bits, R132. -/
  | LTX_STATUS
  /-- 0x0010C008, 32 bits, R130. -/
  | LTX_FIR_CFG
  /-- 0x0010C00C, 32 bits, R131. -/
  | LTX_TRIM
  /-- 0x0010C010, 32 bits, R131. -/
  | LTX_TRIM_NOW
  /-- 0x0010C014, 32 bits, R141. -/
  | LTX_PAT
  /-- 0x0010C018, 32 bits, R129. -/
  | LTX_CLIP
  /-- 0x0010C01C, 32 bits, R142. -/
  | LTX_PAT_DROP
  /-- 0x0010C020, 32 bits, R143. -/
  | LTX_CHK
  /-- 0x0010C028, 64 bits, R143. -/
  | LTX_CHK_SYM
  /-- 0x0010C030, 64 bits, R143. -/
  | LTX_CHK_ERR
  /-- 0x0010C038, 64 bits, R143. -/
  | LTX_CHK_BIT
  /-- 0x0010C040, 32 bits, R130. -/
  | LTX_FIR
  /-- 0x0010C100, 32 bits, R130. -/
  | LTX_LUT
  /-- 0x0010C800, 32 bits, R145. -/
  | LTX_MASK_CFG
  /-- 0x0010C810, 32 bits, R146. -/
  | LTX_MASK_VIOL
  /-- 0x0010C818, 32 bits, R146. -/
  | LTX_MASK_WORST
  /-- 0x0010C820, 32 bits, R144. -/
  | LTX_MASK_EST
  /-- 0x0010C828, 32 bits, R147. -/
  | LTX_MASK_SKIPS
  /-- 0x0010C840, 32 bits, R148. -/
  | LTX_DRV_CFG
  /-- 0x0010C844, 32 bits, R150. -/
  | LTX_DRV_CMD
  /-- 0x0010C848, 32 bits, R150. -/
  | LTX_DRV_STATUS
  /-- 0x0010C900, 32 bits, R145. -/
  | LTX_MASK_SEG
  /-- 0x0010D000, 32 bits, R140. -/
  | LTX_UPAT
  /-- 0x00180000, 32 bits, R158. -/
  | HSI_CTRL
  /-- 0x00180004, 32 bits, R158. -/
  | HSI_STATUS
  /-- 0x00180008, 32 bits, R154. -/
  | HSI_CFG
  /-- 0x0018000C, 32 bits, R156. -/
  | HSI_TXEQ
  /-- 0x00180010, 32 bits, R164. -/
  | HSI_FREQ
  /-- 0x00180014, 32 bits, R159. -/
  | HSI_EYE
  /-- 0x00180040, 32 bits, R196. -/
  | HSI_LOCK
  /-- 0x00180044, 32 bits, R162. -/
  | HSI_LOL
  /-- 0x00180048, 32 bits, R158. -/
  | HSI_TIMEOUT
  /-- 0x0018004C, 32 bits, R168. -/
  | HSI_BAD_SH
  /-- 0x00180050, 32 bits, R169. -/
  | HSI_FRAME_ERR
  /-- 0x00180054, 32 bits, R176. -/
  | HSI_WAKE
  /-- 0x00180058, 32 bits, R175. -/
  | HSI_ACT_IGN
  /-- 0x0018005C, 32 bits, R179. -/
  | HSI_TP_DROP
  /-- 0x00180060, 32 bits, R199. -/
  | HSI_PAT_DROP
  /-- 0x00180100, 32 bits, R199. -/
  | HSI_PAT
  /-- 0x00180104, 32 bits, R199. -/
  | HSI_CHK
  /-- 0x00180108, 64 bits, R199. -/
  | HSI_CHK_SYM
  /-- 0x00180110, 64 bits, R199. -/
  | HSI_CHK_ERR
  /-- 0x00180118, 64 bits, R199. -/
  | HSI_CHK_BIT
  /-- 0x00190000, 32 bits, R181. -/
  | HPM_PORT_CFG
  /-- 0x00190004, 32 bits, R184. -/
  | HPM_PORT_STATUS
  /-- 0x00190040, 64 bits, R197. -/
  | HPM_RS_CW
  /-- 0x00190048, 64 bits, R197. -/
  | HPM_RS_ZERO
  /-- 0x00190050, 64 bits, R197. -/
  | HPM_RS_CORR
  /-- 0x00190058, 64 bits, R186. -/
  | HPM_RS_UNCORR
  /-- 0x00190060, 64 bits, R186. -/
  | HPM_LINE_ERR
  /-- 0x00190068, 64 bits, R197. -/
  | HPM_IDLE_INS
  /-- 0x00190070, 64 bits, R197. -/
  | HPM_IDLE_DEL
  /-- 0x00190078, 64 bits, R186. -/
  | HPM_OVF
  /-- 0x00192000, 32 bits, R192. -/
  | HPM_CELL_RX
  /-- 0x00192004, 32 bits, R192. -/
  | HPM_CELL_BAD
  /-- 0x00192008, 32 bits, R193. -/
  | HPM_CTL_RSVD
  /-- 0x0019200C, 32 bits, R194. -/
  | HPM_CTL_GAP
  /-- 0x00194000, 32 bits, R163. -/
  | HSI_CLK
  /-- 0x00200000, 32 bits, R237. -/
  | CIN_CH_CFG
  /-- 0x00200004, 32 bits, R237. -/
  | CIN_CH_CRED
  /-- 0x00200008, 32 bits, R228. -/
  | CIN_CH_STATUS
  /-- 0x00200010, 32 bits, R224. -/
  | CIN_CH_ACCT
  /-- 0x00200080, 64 bits, R238. -/
  | CIN_ACCEPT
  /-- 0x00200088, 64 bits, R238. -/
  | CIN_SENT
  /-- 0x00200090, 64 bits, R238. -/
  | CIN_ARRIVE
  /-- 0x00200098, 64 bits, R238. -/
  | CIN_DELIVER
  /-- 0x002000A0, 64 bits, R238. -/
  | CIN_DISC_ING_MEM
  /-- 0x002000A8, 64 bits, R217. -/
  | CIN_DISC_STORE
  /-- 0x002000B0, 64 bits, R238. -/
  | CIN_DISC_EGR_MEM
  /-- 0x002000B8, 64 bits, R218. -/
  | CIN_DISC_SPAN
  /-- 0x002000C0, 64 bits, R230. -/
  | CIN_DISC_SHED
  /-- 0x002000C8, 64 bits, R226. -/
  | CIN_DISC_EGR_OVF
  /-- 0x002000D0, 64 bits, R234. -/
  | CIN_DISC_CLOSE
  /-- 0x002000D8, 64 bits, R225. -/
  | CIN_ING_OVR
  /-- 0x00210000, 32 bits, R229. -/
  | CIN_LANE_CTRL
  /-- 0x00210004, 32 bits, R233. -/
  | CIN_LANE_CFG
  /-- 0x00210008, 32 bits, R210. -/
  | CIN_LANE_STATUS
  /-- 0x0021000C, 64 bits, R208. -/
  | CIN_LANE_SEQ
  /-- 0x00210014, 32 bits, R213. -/
  | CIN_LANE_EPOCH
  /-- 0x00210040, 32 bits, R211. -/
  | CIN_NACK_TX
  /-- 0x00210044, 32 bits, R213. -/
  | CIN_NACK_RX
  /-- 0x00210048, 32 bits, R213. -/
  | CIN_NACK_DUP
  /-- 0x0021004C, 32 bits, R211. -/
  | CIN_NACK_TO
  /-- 0x00210050, 32 bits, R213. -/
  | CIN_RUNS
  /-- 0x00210054, 32 bits, R214. -/
  | CIN_RUN_GRAN
  /-- 0x00210058, 32 bits, R210. -/
  | CIN_GBN_DROP
  /-- 0x0021005C, 32 bits, R205. -/
  | CIN_GAPS
  /-- 0x00210060, 32 bits, R205. -/
  | CIN_TAG_ERR
  /-- 0x00210064, 32 bits, R218. -/
  | CIN_RESYNC
  /-- 0x00210068, 32 bits, R229. -/
  | CIN_SHEDS
  /-- 0x0021006C, 32 bits, R222. -/
  | CIN_CR_STALE
  /-- 0x00210070, 32 bits, R221. -/
  | CIN_CR_BAD
  /-- 0x00220000, 32 bits, R228. -/
  | CIN_CONS_AUDIT
  /-- 0x00220004, 32 bits, R227. -/
  | CIN_AUDIT_PASS
  /-- 0x00220008, 32 bits, R227. -/
  | CIN_AUDIT_FAIL
  /-- 0x00220010, 32 bits, R223. -/
  | CIN_CR_CFG
  /-- 0x00300000, 32 bits, R299. -/
  | MGT_ALERT_STATUS
  /-- 0x00300004, 32 bits, R300. -/
  | MGT_IBI_EN
  /-- 0x00300008, 32 bits, R295. -/
  | MGT_BUS_STATUS
  /-- 0x0030000C, 32 bits, R314. -/
  | MGT_CW_CFG
  /-- 0x00300010, 64 bits, R308. -/
  | MGT_CW_MAC
  /-- 0x00300018, 32 bits, R306. -/
  | MGT_OP_PWD
  /-- 0x00300020, 32 bits, R307. -/
  | MGT_AUTH_CTRL
  /-- 0x00300024, 32 bits, R307. -/
  | MGT_AUTH_DATA
  /-- 0x00300028, 32 bits, R307. -/
  | MGT_AUTH_STATUS
  /-- 0x00300040, 256 bits, R307. -/
  | MGT_AUTH_NONCE
  /-- 0x00300080, 32 bits, R321. -/
  | MGT_BAD_ADDR
  /-- 0x00300084, 32 bits, R10. -/
  | MGT_ACCESS_VIOL
  /-- 0x00300088, 32 bits, R306. -/
  | MGT_PWD_FAIL
  /-- 0x0030008C, 32 bits, R321. -/
  | MGT_CW_RX
  /-- 0x00300090, 32 bits, R321. -/
  | MGT_CW_TX
  /-- 0x00300094, 32 bits, R308. -/
  | MGT_CW_BAD
  /-- 0x00300098, 32 bits, R321. -/
  | MGT_CW_AUTH_FAIL
  /-- 0x0030009C, 32 bits, R312. -/
  | MGT_TUN_DISC
  /-- 0x003000A0, 32 bits, R300. -/
  | MGT_IBI_SENT
  /-- 0x003000A4, 32 bits, R300. -/
  | MGT_IBI_NACK
  /-- 0x00300100, 32 bits, R313. -/
  | MGT_SESSION
  /-- 0x00340000, 32 bits, R325. -/
  | SEC_STATUS
  /-- 0x00340010, 128 bits, R323. -/
  | SEC_UID
  /-- 0x00340020, 256 bits, R324. -/
  | SEC_NONCE
  /-- 0x00340040, 32 bits, R323. -/
  | SEC_KEY_CTRL
  /-- 0x00340044, 32 bits, R323. -/
  | SEC_KEY_DATA
  /-- 0x00340048, 32 bits, R333. -/
  | SEC_ROLLBACK_CTRL
  /-- 0x0034004C, 32 bits, R323. -/
  | SEC_KEY_STATUS
  /-- 0x00340050, 32 bits, R334. -/
  | SEC_FW_CTRL
  /-- 0x00340054, 32 bits, R334. -/
  | SEC_FW_DATA
  /-- 0x00340058, 32 bits, R334. -/
  | SEC_FW_STATUS
  /-- 0x0034005C, 32 bits, R334. -/
  | SEC_FW_SPACE
  /-- 0x00340060, 32 bits, R342. -/
  | SEC_DBG_CTRL
  /-- 0x00340064, 32 bits, R342. -/
  | SEC_DBG_DATA
  /-- 0x00340068, 32 bits, R342. -/
  | SEC_DBG_STATUS
  /-- 0x00340100, 64 bits, R322. -/
  | SEC_KEY_SLOT
  /-- 0x00340440, 512 bits, R340. -/
  | SEC_MEAS
  /-- 0x00380000, 32 bits, R374. -/
  | HKA_CTRL
  /-- 0x00380004, 32 bits, R371. -/
  | HKA_TIMING
  /-- 0x00380008, 32 bits, R375. -/
  | HKA_URGENT
  /-- 0x0038000C, 32 bits, R375. -/
  | HKA_URGENT_RES
  /-- 0x00380010, 32 bits, R375. -/
  | HKA_URG_DROP
  /-- 0x00380014, 32 bits, R383. -/
  | HKA_RB_FAIL
  /-- 0x00380018, 32 bits, R383. -/
  | HKA_DAC_FAULT
  /-- 0x00380020, 32 bits, R379. -/
  | HKA_DEC_CFG
  /-- 0x00380100, 32 bits, R369. -/
  | HKA_CH_CFG
  /-- 0x00380200, 32 bits, R374. -/
  | HKA_RESULT
  /-- 0x00380300, 64 bits, R374. -/
  | HKA_RESULT_TS
  /-- 0x00380500, 32 bits, R388. -/
  | HKA_CH_CAL
  /-- 0x00380580, 32 bits, R388. -/
  | HKA_MON
  /-- 0x003805C0, 32 bits, R388. -/
  | HKA_MON_VCC
  /-- 0x00380600, 32 bits, R379. -/
  | HKA_DEC_OUT
  /-- 0x00380800, 32 bits, R378. -/
  | HKA_STREAM_BASE
  /-- 0x00380804, 32 bits, R378. -/
  | HKA_STREAM_CFG
  /-- 0x00380808, 32 bits, R378. -/
  | HKA_STREAM_WR
  /-- 0x0038080C, 32 bits, R378. -/
  | HKA_STREAM_RD
  /-- 0x00380810, 32 bits, R378. -/
  | HKA_STREAM_LOST
  /-- 0x00380A00, 32 bits, R382. -/
  | HKA_DAC_CODE
  /-- 0x00380A80, 32 bits, R382. -/
  | HKA_DAC_CFG
  /-- 0x00380B04, 32 bits, R382. -/
  | HKA_DAC_TIMER
  /-- 0x00380B20, 32 bits, R383. -/
  | HKA_RB_CFG
  /-- 0x00390000, 32 bits, R386. -/
  | CAL_COUNT
  /-- 0x00390004, 32 bits, R386. -/
  | CAL_RESULT
  /-- 0x00390008, 96 bits, R386. -/
  | CAL_LAST_TIME
  /-- 0x00390014, 32 bits, R386. -/
  | CAL_LAST_Q
  /-- 0x00390018, 32 bits, R386. -/
  | CAL_VALUE
  /-- 0x00390800, 32 bits, R385. -/
  | CAL_TRIM_BUSY
  /-- 0x00390900, 64 bits, R389. -/
  | CAL_TSK
  /-- 0x003C0000, 32 bits, R448. -/
  | THM_SENSOR
  /-- 0x003C0060, 32 bits, R449. -/
  | THM_PRED
  /-- 0x003C00C0, 32 bits, R450. -/
  | THM_STATUS
  /-- 0x003C00C4, 32 bits, R455. -/
  | THM_CFG
  /-- 0x003C00C8, 32 bits, R450. -/
  | THM_LIMIT_A
  /-- 0x003C00CC, 32 bits, R450. -/
  | THM_LIMIT_B
  /-- 0x003C00D0, 32 bits, R450. -/
  | THM_LIMIT_C
  /-- 0x003C00D4, 32 bits, R455. -/
  | THM_STOPS
  /-- 0x00400000, 32 bits, R399. -/
  | MEM_REGION_ARMED
  /-- 0x00400004, 32 bits, R404. -/
  | MEM_STATUS
  /-- 0x00400010, 128 bits, R406. -/
  | MEM_FLIP_MASK
  /-- 0x00400020, 32 bits, R406. -/
  | MEM_FLIP_ADDR
  /-- 0x00400028, 64 bits, R405. -/
  | MEM_LAST_POISON
  /-- 0x00400040, 32 bits, R405. -/
  | MEM_POISON_CNT
  /-- 0x00400100, 32 bits, R402. -/
  | MEM_SCRUB_CFG
  /-- 0x00400104, 32 bits, R402. -/
  | MEM_SCRUB_LAP
  /-- 0x00400108, 32 bits, R402. -/
  | MEM_LAP_COUNT
  /-- 0x0040010C, 32 bits, R403. -/
  | MEM_SPARE
  /-- 0x00400110, 32 bits, R393. -/
  | MEM_CORR
  /-- 0x00400114, 32 bits, R397. -/
  | MEM_REPAIR
  /-- 0x00400118, 32 bits, R405. -/
  | MEM_POISON
  /-- 0x00410000, 32 bits, R409. -/
  | DMA_SRC
  /-- 0x00410004, 32 bits, R409. -/
  | DMA_DST
  /-- 0x00410008, 32 bits, R409. -/
  | DMA_CNT
  /-- 0x0041000C, 32 bits, R409. -/
  | DMA_CTRL
  /-- 0x00410010, 64 bits, R409. -/
  | DMA_FILL
  /-- 0x00410018, 32 bits, R407. -/
  | DMA_STATUS
  /-- 0x0041001C, 32 bits, R412. -/
  | DMA_PREEMPT
  /-- 0x00410800, 32 bits, R414. -/
  | DMA_CQ_WR
  /-- 0x00410804, 32 bits, R414. -/
  | DMA_CQ_RD
  /-- 0x00410808, 32 bits, R414. -/
  | DMA_CQ_WAITS
  /-- 0x00411000, 32 bits, R414. -/
  | DMA_CQ_REC
  /-- 0x00440000, 32 bits, R421. -/
  | EVL_CTRL
  /-- 0x00440008, 64 bits, R426. -/
  | EVL_HEAD_SEQ
  /-- 0x00440010, 64 bits, R426. -/
  | EVL_OLDEST_SEQ
  /-- 0x00440018, 32 bits, R417. -/
  | EVL_FIRST_FULL
  /-- 0x00440020, 64 bits, R417. -/
  | EVL_FIRST_RANGE
  /-- 0x00440028, 32 bits, R423. -/
  | EVL_DROPPED
  /-- 0x0044002C, 32 bits, R423. -/
  | EVL_WRITTEN
  /-- 0x00440030, 32 bits, R425. -/
  | EVL_READ_DENIED
  /-- 0x00450000, 32 bits, R427. -/
  | PMC_CTL
  /-- 0x00450004, 32 bits, R429. -/
  | PMC_THRESH
  /-- 0x00450008, 64 bits, R431. -/
  | PMC_VALUE
  /-- 0x00450010, 64 bits, R427. -/
  | PMC_PRESET
  /-- 0x00450018, 64 bits, R430. -/
  | PMC_WIN
  /-- 0x00451000, 32 bits, R432. -/
  | PMC_USER_EN
  /-- 0x00451004, 32 bits, R430. -/
  | PMC_GLOBAL
  /-- 0x00451008, 64 bits, R433. -/
  | PMC_SAMPLE_LIST
  /-- 0x00451010, 32 bits, R433. -/
  | PMC_SAMPLE_MIN
  /-- 0x00451014, 32 bits, R433. -/
  | PMC_SAMPLE_DROP
  /-- 0x00460000, 32 bits, R442. -/
  | BST_RESULT
  /-- 0x00460004, 32 bits, R444. -/
  | BST_CTRL
  /-- 0x00460008, 32 bits, R447. -/
  | BST_UNFENCE
  /-- 0x00460100, 64 bits, R438. -/
  | BST_PART
  /-- 0x00460200, 32 bits, R445. -/
  | BST_IS_STATUS
  /-- 0x00460240, 32 bits, R46. -/
  | BST_DEC_STATE
  /-- 0x00460300, 32 bits, R445. -/
  | BST_IS_RUN
  /-- 0x00460304, 32 bits, R446. -/
  | BST_IS_ABORT
  /-- 0x00460308, 32 bits, R445. -/
  | BST_IS_FAIL
  /-- 0x0046030C, 32 bits, R445. -/
  | BST_IS_SKIP
  deriving DecidableEq, Repr

/-- A field of a register: its bits `hi` down to `lo`. -/
structure Field where
  reg : Reg
  hi : Nat
  lo : Nat
  deriving DecidableEq, Repr

/-- The access codes of Table 0-5 (R8). RSV bits are the bits of no field. -/
inductive Access where
  | ro | rw | w1c | wo | rws
  deriving DecidableEq, Repr

/-- The lowest role that may write a register; `none_` marks a register no write reaches. -/
inductive WriteRole where
  | none_ | user | operator | admin
  deriving DecidableEq, Repr

/-- One field as its register table gives it. -/
structure FieldDesc where
  hi : Nat
  lo : Nat
  access : Access
  reset : Nat
  deriving DecidableEq, Repr

/-- One register as its table gives it: address of its first word, `(count, stride)` of each index from the outermost,
width in bits, lowest writing role, fields. -/
structure RegDesc where
  base : Nat
  dims : List (Nat × Nat)
  width : Nat
  role : WriteRole
  fields : List FieldDesc
  deriving DecidableEq, Repr

end Sys2Proof.Machine
end

