-- ==== Sys2Proof/Machine/Fields.lean ====
section
/-! DEFINITION. The fields of the registers, each under the name the spec gives it (`REGISTER.FIELD`). -/
namespace Sys2Proof.Machine

/-- Bits [31:16], RO. -/
abbrev GLB_ID.PART : Field := ⟨.GLB_ID, 31, 16⟩
/-- Bits [15:8], RO. -/
abbrev GLB_ID.REV : Field := ⟨.GLB_ID, 15, 8⟩
/-- Bits [7:0], RO. -/
abbrev GLB_ID.VENDOR : Field := ⟨.GLB_ID, 7, 0⟩
/-- Bits [31:24], RO. -/
abbrev GLB_PARAM.HOST_LANES : Field := ⟨.GLB_PARAM, 31, 24⟩
/-- Bits [23:16], RO. -/
abbrev GLB_PARAM.OPT_LANES : Field := ⟨.GLB_PARAM, 23, 16⟩
/-- Bits [15:8], RO. -/
abbrev GLB_PARAM.GROUPS_X2 : Field := ⟨.GLB_PARAM, 15, 8⟩
/-- Bits [7:4], RO. -/
abbrev GLB_PARAM.SLICES_PER_GROUP : Field := ⟨.GLB_PARAM, 7, 4⟩
/-- Bits [3:0], RO. -/
abbrev GLB_PARAM.PARAM_VER : Field := ⟨.GLB_PARAM, 3, 0⟩
/-- Bits [31:28], RO. -/
abbrev GLB_STATE.PWR : Field := ⟨.GLB_STATE, 31, 28⟩
/-- Bits [27:24], RO. -/
abbrev GLB_STATE.BOOT : Field := ⟨.GLB_STATE, 27, 24⟩
/-- Bits [23:23], RO. -/
abbrev GLB_STATE.HEADLESS : Field := ⟨.GLB_STATE, 23, 23⟩
/-- Bits [22:22], RO. -/
abbrev GLB_STATE.ALERT : Field := ⟨.GLB_STATE, 22, 22⟩
/-- Bits [21:21], RO. -/
abbrev GLB_STATE.DEBUG : Field := ⟨.GLB_STATE, 21, 21⟩
/-- Bits [31:31], RO. -/
abbrev GLB_FENCE.ANY : Field := ⟨.GLB_FENCE, 31, 31⟩
/-- Bits [23:16], RO. -/
abbrev GLB_FENCE.MLSE : Field := ⟨.GLB_FENCE, 23, 16⟩
/-- Bits [15:8], RO. -/
abbrev GLB_FENCE.DECODER : Field := ⟨.GLB_FENCE, 15, 8⟩
/-- Bits [7:0], RO. -/
abbrev GLB_FENCE.SLICE : Field := ⟨.GLB_FENCE, 7, 0⟩
/-- Bits [31:0], WO. -/
abbrev GLB_RESET.VALUE : Field := ⟨.GLB_RESET, 31, 0⟩
/-- Bits [31:28], RO. -/
abbrev PWR_STATE.STATE : Field := ⟨.PWR_STATE, 31, 28⟩
/-- Bits [27:24], RO. -/
abbrev PWR_STATE.RESULT : Field := ⟨.PWR_STATE, 27, 24⟩
/-- Bits [23:23], RO. -/
abbrev PWR_STATE.LP_REQ : Field := ⟨.PWR_STATE, 23, 23⟩
/-- Bits [22:22], RO. -/
abbrev PWR_STATE.PENDING : Field := ⟨.PWR_STATE, 22, 22⟩
/-- Bits [31:28], WO. -/
abbrev PWR_CTRL.CMD : Field := ⟨.PWR_CTRL, 31, 28⟩
/-- Bits [27:16], RWS. -/
abbrev PWR_CTRL.DEEP_AFTER : Field := ⟨.PWR_CTRL, 27, 16⟩
/-- Bits [9:9], RWS. -/
abbrev PWR_CTRL.SLEEP_BIST : Field := ⟨.PWR_CTRL, 9, 9⟩
/-- Bits [8:8], RWS. -/
abbrev PWR_CTRL.WAKE_TO : Field := ⟨.PWR_CTRL, 8, 8⟩
/-- Bits [31:0], RWS. -/
abbrev PWR_WAKE_LANES.LANES : Field := ⟨.PWR_WAKE_LANES, 31, 0⟩
/-- Bits [31:28], RO. -/
abbrev PWR_WAKE_SRC.SOURCE : Field := ⟨.PWR_WAKE_SRC, 31, 28⟩
/-- Bits [27:27], RO. -/
abbrev PWR_WAKE_SRC.WAKE_FAILED : Field := ⟨.PWR_WAKE_SRC, 27, 27⟩
/-- Bits [26:24], RO. -/
abbrev PWR_WAKE_SRC.FAIL_STAGE : Field := ⟨.PWR_WAKE_SRC, 26, 24⟩
/-- Bits [23:22], RO. -/
abbrev PWR_WAKE_SRC.ATTEMPTS : Field := ⟨.PWR_WAKE_SRC, 23, 22⟩
/-- Bits [21:20], RO. -/
abbrev PWR_WAKE_SRC.FROM : Field := ⟨.PWR_WAKE_SRC, 21, 20⟩
/-- Bits [19:15], RO. -/
abbrev PWR_WAKE_SRC.ALSO : Field := ⟨.PWR_WAKE_SRC, 19, 15⟩
/-- Bits [14:13], RO. -/
abbrev PWR_WAKE_SRC.TIME_Q : Field := ⟨.PWR_WAKE_SRC, 14, 13⟩
/-- Bits [12:8], RO. -/
abbrev PWR_WAKE_SRC.DETAIL : Field := ⟨.PWR_WAKE_SRC, 12, 8⟩
/-- Bits [95:0], RO. -/
abbrev PWR_WAKE_TIME.TIME : Field := ⟨.PWR_WAKE_TIME, 95, 0⟩
/-- Bits [63:48], RO. -/
abbrev PWR_STAGE_TIME.REGULATOR : Field := ⟨.PWR_STAGE_TIME, 63, 48⟩
/-- Bits [47:32], RO. -/
abbrev PWR_STAGE_TIME.OSCILLATOR : Field := ⟨.PWR_STAGE_TIME, 47, 32⟩
/-- Bits [31:16], RO. -/
abbrev PWR_STAGE_TIME.MEMORY : Field := ⟨.PWR_STAGE_TIME, 31, 16⟩
/-- Bits [15:0], RO. -/
abbrev PWR_STAGE_TIME.LOGIC : Field := ⟨.PWR_STAGE_TIME, 15, 0⟩
/-- Bits [31:16], RO. -/
abbrev PWR_WAKE_COUNT.FAILED : Field := ⟨.PWR_WAKE_COUNT, 31, 16⟩
/-- Bits [15:0], RO. -/
abbrev PWR_WAKE_COUNT.WAKES : Field := ⟨.PWR_WAKE_COUNT, 15, 0⟩
/-- Bits [22:16], RO. -/
abbrev PWR_SUPPLY.SINCE : Field := ⟨.PWR_SUPPLY, 22, 16⟩
/-- Bits [6:0], RO. -/
abbrev PWR_SUPPLY.NOW : Field := ⟨.PWR_SUPPLY, 6, 0⟩
/-- Bits [31:31], RW. -/
abbrev TSK_CTRL.EN : Field := ⟨.TSK_CTRL, 31, 31⟩
/-- Bits [2:0], RW. -/
abbrev TSK_CTRL.DOZE_SLOT : Field := ⟨.TSK_CTRL, 2, 0⟩
/-- Bits [31:0], RO. -/
abbrev TSK_ACTIVE.ACTIVE : Field := ⟨.TSK_ACTIVE, 31, 0⟩
/-- Bits [31:31], RW. -/
abbrev TSK_IN_CFG.EN : Field := ⟨.TSK_IN_CFG, 31, 31⟩
/-- Bits [3:0], RW. -/
abbrev TSK_IN_CFG.AVG : Field := ⟨.TSK_IN_CFG, 3, 0⟩
/-- Bits [27:16], RO. -/
abbrev TSK_VALUE.RAW : Field := ⟨.TSK_VALUE, 27, 16⟩
/-- Bits [11:0], RO. -/
abbrev TSK_VALUE.Y : Field := ⟨.TSK_VALUE, 11, 0⟩
/-- Bits [63:63], RW. -/
abbrev TSK_RULE.RULE_EN : Field := ⟨.TSK_RULE, 63, 63⟩
/-- Bits [62:60], RW. -/
abbrev TSK_RULE.STATES : Field := ⟨.TSK_RULE, 62, 60⟩
/-- Bits [59:56], RW. -/
abbrev TSK_RULE.ACTION : Field := ⟨.TSK_RULE, 59, 56⟩
/-- Bits [55:51], RW. -/
abbrev TSK_RULE.INPUT : Field := ⟨.TSK_RULE, 55, 51⟩
/-- Bits [50:48], RW. -/
abbrev TSK_RULE.KIND : Field := ⟨.TSK_RULE, 50, 48⟩
/-- Bits [47:40], RW. -/
abbrev TSK_RULE.COUNT : Field := ⟨.TSK_RULE, 47, 40⟩
/-- Bits [39:28], RW. -/
abbrev TSK_RULE.SET : Field := ⟨.TSK_RULE, 39, 28⟩
/-- Bits [27:16], RW. -/
abbrev TSK_RULE.CLR : Field := ⟨.TSK_RULE, 27, 16⟩
/-- Bits [15:0], RW. -/
abbrev TSK_RULE.TARGET : Field := ⟨.TSK_RULE, 15, 0⟩
/-- Bits [31:0], RO. -/
abbrev TSK_HITS.COUNT : Field := ⟨.TSK_HITS, 31, 0⟩
/-- Bits [31:31], RO. -/
abbrev CLK_STATUS.REF_PRESENT : Field := ⟨.CLK_STATUS, 31, 31⟩
/-- Bits [30:30], RO. -/
abbrev CLK_STATUS.CORE_LOCK : Field := ⟨.CLK_STATUS, 30, 30⟩
/-- Bits [19:16], RO. -/
abbrev CLK_STATUS.HOST_LOCK : Field := ⟨.CLK_STATUS, 19, 16⟩
/-- Bits [15:8], RO. -/
abbrev CLK_STATUS.LINE_CAL : Field := ⟨.CLK_STATUS, 15, 8⟩
/-- Bits [7:0], RO. -/
abbrev CLK_STATUS.LINE_LOCK : Field := ⟨.CLK_STATUS, 7, 0⟩
/-- Bits [31:0], RO. -/
abbrev CLK_REF_LOSS.COUNT : Field := ⟨.CLK_REF_LOSS, 31, 0⟩
/-- Bits [31:28], RO. -/
abbrev CLK_LINE.STATE : Field := ⟨.CLK_LINE, 31, 28⟩
/-- Bits [23:16], RO. -/
abbrev CLK_LINE.LOSSES : Field := ⟨.CLK_LINE, 23, 16⟩
/-- Bits [15:0], RO. -/
abbrev CLK_LINE.LOCK_TIME : Field := ⟨.CLK_LINE, 15, 0⟩
/-- Bits [31:28], RO. -/
abbrev CLK_HOST.STATE : Field := ⟨.CLK_HOST, 31, 28⟩
/-- Bits [23:16], RO. -/
abbrev CLK_HOST.LOSSES : Field := ⟨.CLK_HOST, 23, 16⟩
/-- Bits [15:0], RO. -/
abbrev CLK_HOST.LOCK_TIME : Field := ⟨.CLK_HOST, 15, 0⟩
/-- Bits [95:48], RO. -/
abbrev TMB_NOW.SEC : Field := ⟨.TMB_NOW, 95, 48⟩
/-- Bits [47:16], RO. -/
abbrev TMB_NOW.NS : Field := ⟨.TMB_NOW, 47, 16⟩
/-- Bits [15:0], RO. -/
abbrev TMB_NOW.FRAC : Field := ⟨.TMB_NOW, 15, 0⟩
/-- Bits [31:16], RO. -/
abbrev TMB_QUALITY.SRC_NODE : Field := ⟨.TMB_QUALITY, 31, 16⟩
/-- Bits [15:10], RO. -/
abbrev TMB_QUALITY.HOPS : Field := ⟨.TMB_QUALITY, 15, 10⟩
/-- Bits [9:9], W1C. -/
abbrev TMB_QUALITY.STEPPED : Field := ⟨.TMB_QUALITY, 9, 9⟩
/-- Bits [8:4], RO. -/
abbrev TMB_QUALITY.SRC_LANE : Field := ⟨.TMB_QUALITY, 8, 4⟩
/-- Bits [3:3], RO. -/
abbrev TMB_QUALITY.IS_SOURCE : Field := ⟨.TMB_QUALITY, 3, 3⟩
/-- Bits [1:0], RO. -/
abbrev TMB_QUALITY.Q : Field := ⟨.TMB_QUALITY, 1, 0⟩
/-- Bits [63:63], RO. -/
abbrev TMB_ERR_BOUND.UNBOUNDED : Field := ⟨.TMB_ERR_BOUND, 63, 63⟩
/-- Bits [62:0], RO. -/
abbrev TMB_ERR_BOUND.BOUND : Field := ⟨.TMB_ERR_BOUND, 62, 0⟩
/-- Bits [15:0], RW. -/
abbrev TMB_NODE_ID.NODE_ID : Field := ⟨.TMB_NODE_ID, 15, 0⟩
/-- Bits [31:24], RW. -/
abbrev TMB_SRC_CFG.PRIORITY : Field := ⟨.TMB_SRC_CFG, 31, 24⟩
/-- Bits [23:22], RW. -/
abbrev TMB_SRC_CFG.ROLE : Field := ⟨.TMB_SRC_CFG, 23, 22⟩
/-- Bits [21:21], RW. -/
abbrev TMB_SRC_CFG.GM_FREE : Field := ⟨.TMB_SRC_CFG, 21, 21⟩
/-- Bits [17:16], RW. -/
abbrev TMB_SRC_CFG.BW : Field := ⟨.TMB_SRC_CFG, 17, 16⟩
/-- Bits [15:8], RW. -/
abbrev TMB_SRC_CFG.STEP_THR : Field := ⟨.TMB_SRC_CFG, 15, 8⟩
/-- Bits [7:0], RW. -/
abbrev TMB_SRC_CFG.LOCK_THR : Field := ⟨.TMB_SRC_CFG, 7, 0⟩
/-- Bits [31:0], RO. -/
abbrev TMB_RATE.ADJ : Field := ⟨.TMB_RATE, 31, 0⟩
/-- Bits [31:16], RW. -/
abbrev TMB_HOLD_CFG.HOLD_DRIFT : Field := ⟨.TMB_HOLD_CFG, 31, 16⟩
/-- Bits [15:0], RW. -/
abbrev TMB_HOLD_CFG.HOLD_LIMIT : Field := ⟨.TMB_HOLD_CFG, 15, 0⟩
/-- Bits [127:96], RW. -/
abbrev TMB_SET.BOUND : Field := ⟨.TMB_SET, 127, 96⟩
/-- Bits [95:0], RW. -/
abbrev TMB_SET.TIME : Field := ⟨.TMB_SET, 95, 0⟩
/-- Bits [31:28], RO. -/
abbrev TMB_STATUS.RESULT : Field := ⟨.TMB_STATUS, 31, 28⟩
/-- Bits [0:0], RO. -/
abbrev TMB_STATUS.CAL_BUSY : Field := ⟨.TMB_STATUS, 0, 0⟩
/-- Bits [31:31], WO. -/
abbrev TMB_ASYM_CAL.GO : Field := ⟨.TMB_ASYM_CAL, 31, 31⟩
/-- Bits [28:24], RW. -/
abbrev TMB_ASYM_CAL.LANE : Field := ⟨.TMB_ASYM_CAL, 28, 24⟩
/-- Bits [23:14], RW. -/
abbrev TMB_ASYM_CAL.EDGES : Field := ⟨.TMB_ASYM_CAL, 23, 14⟩
/-- Bits [13:0], RW. -/
abbrev TMB_ASYM_CAL.REF_UNC : Field := ⟨.TMB_ASYM_CAL, 13, 0⟩
/-- Bits [95:0], RO. -/
abbrev TMB_SLEEP_ENTRY.TIME : Field := ⟨.TMB_SLEEP_ENTRY, 95, 0⟩
/-- Bits [63:0], RO. -/
abbrev TMB_SLEEP_ELAPSED.NS : Field := ⟨.TMB_SLEEP_ELAPSED, 63, 0⟩
/-- Bits [2:2], RO. -/
abbrev TMB_SLEEP_INFO.AO_LOST : Field := ⟨.TMB_SLEEP_INFO, 2, 2⟩
/-- Bits [1:0], RO. -/
abbrev TMB_SLEEP_INFO.LAST : Field := ⟨.TMB_SLEEP_INFO, 1, 0⟩
/-- Bits [31:31], RW. -/
abbrev TMB_PPS_CFG.OUT_EN : Field := ⟨.TMB_PPS_CFG, 31, 31⟩
/-- Bits [30:29], RW. -/
abbrev TMB_PPS_CFG.OUT_GATE : Field := ⟨.TMB_PPS_CFG, 30, 29⟩
/-- Bits [28:28], RW. -/
abbrev TMB_PPS_CFG.IN_WAKE : Field := ⟨.TMB_PPS_CFG, 28, 28⟩
/-- Bits [27:26], RW. -/
abbrev TMB_PPS_CFG.IN_MODE : Field := ⟨.TMB_PPS_CFG, 27, 26⟩
/-- Bits [18:0], RW. -/
abbrev TMB_PPS_CFG.WIDTH : Field := ⟨.TMB_PPS_CFG, 18, 0⟩
/-- Bits [31:0], RW. -/
abbrev TMB_PPS_OUT_OFS.OFS : Field := ⟨.TMB_PPS_OUT_OFS, 31, 0⟩
/-- Bits [31:0], RW. -/
abbrev TMB_PPS_IN_DLY.DLY : Field := ⟨.TMB_PPS_IN_DLY, 31, 0⟩
/-- Bits [31:0], RW. -/
abbrev TMB_PPS_UNC.UNC : Field := ⟨.TMB_PPS_UNC, 31, 0⟩
/-- Bits [48:48], RW. -/
abbrev TMB_PPS_SEC.ARM : Field := ⟨.TMB_PPS_SEC, 48, 48⟩
/-- Bits [47:0], RW. -/
abbrev TMB_PPS_SEC.SECONDS : Field := ⟨.TMB_PPS_SEC, 47, 0⟩
/-- Bits [95:0], RO. -/
abbrev TMB_PPS_IN_TS.TS : Field := ⟨.TMB_PPS_IN_TS, 95, 0⟩
/-- Bits [31:0], RO. -/
abbrev TMB_PPS_IN_ERR.ERR : Field := ⟨.TMB_PPS_IN_ERR, 31, 0⟩
/-- Bits [31:0], RO. -/
abbrev TMB_PPS_EDGES.COUNT : Field := ⟨.TMB_PPS_EDGES, 31, 0⟩
/-- Bits [31:0], RO. -/
abbrev TMB_PPS_OUTLIER.COUNT : Field := ⟨.TMB_PPS_OUTLIER, 31, 0⟩
/-- Bits [31:0], RO. -/
abbrev TMB_PPS_MISS.COUNT : Field := ⟨.TMB_PPS_MISS, 31, 0⟩
/-- Bits [31:0], RW. -/
abbrev TMB_ASYM.ASYM : Field := ⟨.TMB_ASYM, 31, 0⟩
/-- Bits [15:0], RW. -/
abbrev TMB_ASYM_UNC.UNC : Field := ⟨.TMB_ASYM_UNC, 15, 0⟩
/-- Bits [63:63], RO. -/
abbrev TMB_RTT.VALID : Field := ⟨.TMB_RTT, 63, 63⟩
/-- Bits [47:0], RO. -/
abbrev TMB_RTT.RTT : Field := ⟨.TMB_RTT, 47, 0⟩
/-- Bits [63:0], RO. -/
abbrev TMB_OFFSET.THETA : Field := ⟨.TMB_OFFSET, 63, 0⟩
/-- Bits [31:16], RO. -/
abbrev TMB_LANE_STATUS.NODE : Field := ⟨.TMB_LANE_STATUS, 31, 16⟩
/-- Bits [15:8], RO. -/
abbrev TMB_LANE_STATUS.PRIORITY : Field := ⟨.TMB_LANE_STATUS, 15, 8⟩
/-- Bits [7:2], RO. -/
abbrev TMB_LANE_STATUS.HOPS : Field := ⟨.TMB_LANE_STATUS, 7, 2⟩
/-- Bits [1:0], RO. -/
abbrev TMB_LANE_STATUS.Q : Field := ⟨.TMB_LANE_STATUS, 1, 0⟩
/-- Bits [1:1], RO. -/
abbrev TMB_LANE_FLAGS.USED : Field := ⟨.TMB_LANE_FLAGS, 1, 1⟩
/-- Bits [0:0], RO. -/
abbrev TMB_LANE_FLAGS.EXCLUDED : Field := ⟨.TMB_LANE_FLAGS, 0, 0⟩
/-- Bits [95:0], RO. -/
abbrev TMB_FRAME_TX.TS : Field := ⟨.TMB_FRAME_TX, 95, 0⟩
/-- Bits [95:0], RO. -/
abbrev TMB_FRAME_RX.TS : Field := ⟨.TMB_FRAME_RX, 95, 0⟩
/-- Bits [31:0], RO. -/
abbrev TMB_TIME_RX.COUNT : Field := ⟨.TMB_TIME_RX, 31, 0⟩
/-- Bits [31:0], RO. -/
abbrev TMB_SUB_RSVD.COUNT : Field := ⟨.TMB_SUB_RSVD, 31, 0⟩
/-- Bits [31:0], RO. -/
abbrev TMB_EXCH.COUNT : Field := ⟨.TMB_EXCH, 31, 0⟩
/-- Bits [31:0], RO. -/
abbrev TMB_OUTLIER.COUNT : Field := ⟨.TMB_OUTLIER, 31, 0⟩
/-- Bits [31:0], RO. -/
abbrev TMB_TC_CORR.COUNT : Field := ⟨.TMB_TC_CORR, 31, 0⟩
/-- Bits [31:0], RO. -/
abbrev TMB_TC_SKIP.COUNT : Field := ⟨.TMB_TC_SKIP, 31, 0⟩
/-- Bits [31:0], RO. -/
abbrev TMB_TC_UNLOCK.COUNT : Field := ⟨.TMB_TC_UNLOCK, 31, 0⟩
/-- Bits [31:28], WO. -/
abbrev HRN_LOAD_CTRL.CMD : Field := ⟨.HRN_LOAD_CTRL, 31, 28⟩
/-- Bits [8:8], RW. -/
abbrev HRN_LOAD_CTRL.DRAIN : Field := ⟨.HRN_LOAD_CTRL, 8, 8⟩
/-- Bits [7:0], RW. -/
abbrev HRN_LOAD_CTRL.DRAIN_TO : Field := ⟨.HRN_LOAD_CTRL, 7, 0⟩
/-- Bits [31:0], WO. -/
abbrev HRN_LOAD_DATA.DATA : Field := ⟨.HRN_LOAD_DATA, 31, 0⟩
/-- Bits [31:28], RO. -/
abbrev HRN_STATUS.STATE : Field := ⟨.HRN_STATUS, 31, 28⟩
/-- Bits [27:24], RO. -/
abbrev HRN_STATUS.KIND : Field := ⟨.HRN_STATUS, 27, 24⟩
/-- Bits [23:16], RO. -/
abbrev HRN_STATUS.RESULT : Field := ⟨.HRN_STATUS, 23, 16⟩
/-- Bits [15:0], RO. -/
abbrev HRN_STATUS.DETAIL : Field := ⟨.HRN_STATUS, 15, 0⟩
/-- Bits [31:0], RO. -/
abbrev HRN_LOAD_COUNT.COUNT : Field := ⟨.HRN_LOAD_COUNT, 31, 0⟩
/-- Bits [63:32], RO. -/
abbrev HRN_IMAGE_INFO.SVN : Field := ⟨.HRN_IMAGE_INFO, 63, 32⟩
/-- Bits [31:0], RO. -/
abbrev HRN_IMAGE_INFO.IMAGE_ID : Field := ⟨.HRN_IMAGE_INFO, 31, 0⟩
/-- Bits [31:0], RO. -/
abbrev HRN_LOAD_OK.COUNT : Field := ⟨.HRN_LOAD_OK, 31, 0⟩
/-- Bits [31:0], RO. -/
abbrev HRN_LOAD_REJ.COUNT : Field := ⟨.HRN_LOAD_REJ, 31, 0⟩
/-- Bits [511:0], RO. -/
abbrev HRN_IMAGE_HASH.HASH : Field := ⟨.HRN_IMAGE_HASH, 511, 0⟩
/-- Bits [31:28], RO. -/
abbrev HRN_GROUP_STATE.STATE : Field := ⟨.HRN_GROUP_STATE, 31, 28⟩
/-- Bits [27:27], RO. -/
abbrev HRN_GROUP_STATE.LINE_MODE : Field := ⟨.HRN_GROUP_STATE, 27, 27⟩
/-- Bits [26:25], RO. -/
abbrev HRN_GROUP_STATE.SVC : Field := ⟨.HRN_GROUP_STATE, 26, 25⟩
/-- Bits [24:24], RO. -/
abbrev HRN_GROUP_STATE.HOST_MODE : Field := ⟨.HRN_GROUP_STATE, 24, 24⟩
/-- Bits [23:16], RO. -/
abbrev HRN_GROUP_STATE.CFG_TAG : Field := ⟨.HRN_GROUP_STATE, 23, 16⟩
/-- Bits [15:0], RO. -/
abbrev HRN_GROUP_STATE.IMAGE_SEQ : Field := ⟨.HRN_GROUP_STATE, 15, 0⟩
/-- Bits [11:10], RW. -/
abbrev LRX_CTRL.TR_BW : Field := ⟨.LRX_CTRL, 11, 10⟩
/-- Bits [9:9], RW. -/
abbrev LRX_CTRL.CAL_BG_EN : Field := ⟨.LRX_CTRL, 9, 9⟩
/-- Bits [8:8], RW. -/
abbrev LRX_CTRL.AGC_HOLD : Field := ⟨.LRX_CTRL, 8, 8⟩
/-- Bits [7:6], RW. -/
abbrev LRX_CTRL.LOS_SRC : Field := ⟨.LRX_CTRL, 7, 6⟩
/-- Bits [5:5], RW. -/
abbrev LRX_CTRL.AUTO_RETRY : Field := ⟨.LRX_CTRL, 5, 5⟩
/-- Bits [2:2], WO. -/
abbrev LRX_CTRL.COLD : Field := ⟨.LRX_CTRL, 2, 2⟩
/-- Bits [1:1], WO. -/
abbrev LRX_CTRL.FCAL : Field := ⟨.LRX_CTRL, 1, 1⟩
/-- Bits [0:0], RW. -/
abbrev LRX_CTRL.ENABLE : Field := ⟨.LRX_CTRL, 0, 0⟩
/-- Bits [31:28], RO. -/
abbrev LRX_STATUS.RESTARTS : Field := ⟨.LRX_STATUS, 31, 28⟩
/-- Bits [27:24], RO. -/
abbrev LRX_STATUS.LOSS_CAUSE : Field := ⟨.LRX_STATUS, 27, 24⟩
/-- Bits [23:20], RO. -/
abbrev LRX_STATUS.RESULT : Field := ⟨.LRX_STATUS, 23, 20⟩
/-- Bits [19:19], RO. -/
abbrev LRX_STATUS.PENDING : Field := ⟨.LRX_STATUS, 19, 19⟩
/-- Bits [18:18], RO. -/
abbrev LRX_STATUS.SF_KNOWN : Field := ⟨.LRX_STATUS, 18, 18⟩
/-- Bits [17:17], RO. -/
abbrev LRX_STATUS.RECOVERY : Field := ⟨.LRX_STATUS, 17, 17⟩
/-- Bits [16:16], RO. -/
abbrev LRX_STATUS.LOS : Field := ⟨.LRX_STATUS, 16, 16⟩
/-- Bits [4:4], RO. -/
abbrev LRX_STATUS.AGC_FROZEN : Field := ⟨.LRX_STATUS, 4, 4⟩
/-- Bits [3:0], RO. -/
abbrev LRX_STATUS.STATE : Field := ⟨.LRX_STATUS, 3, 0⟩
/-- Bits [31:24], RW. -/
abbrev LRX_ACQ_CFG.CORR_LOCK : Field := ⟨.LRX_ACQ_CFG, 31, 24⟩
/-- Bits [23:16], RW. -/
abbrev LRX_ACQ_CFG.CORR_LOSS : Field := ⟨.LRX_ACQ_CFG, 23, 16⟩
/-- Bits [15:8], RW. -/
abbrev LRX_ACQ_CFG.SNR_MIN : Field := ⟨.LRX_ACQ_CFG, 15, 8⟩
/-- Bits [23:16], RW. -/
abbrev LRX_AGC_CFG.TARGET_RMS : Field := ⟨.LRX_AGC_CFG, 23, 16⟩
/-- Bits [7:0], RW. -/
abbrev LRX_AGC_CFG.SLOW_THR : Field := ⟨.LRX_AGC_CFG, 7, 0⟩
/-- Bits [31:24], RO. -/
abbrev LRX_AGC.RMS : Field := ⟨.LRX_AGC, 31, 24⟩
/-- Bits [23:16], RO. -/
abbrev LRX_AGC.VGA : Field := ⟨.LRX_AGC, 23, 16⟩
/-- Bits [15:12], RO. -/
abbrev LRX_AGC.TIA_IDX : Field := ⟨.LRX_AGC, 15, 12⟩
/-- Bits [11:0], RO. -/
abbrev LRX_AGC.DGAIN : Field := ⟨.LRX_AGC, 11, 0⟩
/-- Bits [31:16], RO. -/
abbrev LRX_TR.FREQ : Field := ⟨.LRX_TR, 31, 16⟩
/-- Bits [6:0], RO. -/
abbrev LRX_TR.PI_PHASE : Field := ⟨.LRX_TR, 6, 0⟩
/-- Bits [7:0], RO. -/
abbrev LRX_SNR.SNR : Field := ⟨.LRX_SNR, 7, 0⟩
/-- Bits [255:160], RO. -/
abbrev LRX_LOCK_SNAP.LOCK_TIME : Field := ⟨.LRX_LOCK_SNAP, 255, 160⟩
/-- Bits [159:158], RO. -/
abbrev LRX_LOCK_SNAP.TIME_Q : Field := ⟨.LRX_LOCK_SNAP, 159, 158⟩
/-- Bits [157:157], RO. -/
abbrev LRX_LOCK_SNAP.KIND : Field := ⟨.LRX_LOCK_SNAP, 157, 157⟩
/-- Bits [156:156], RO. -/
abbrev LRX_LOCK_SNAP.PWR_VALID : Field := ⟨.LRX_LOCK_SNAP, 156, 156⟩
/-- Bits [143:128], RO. -/
abbrev LRX_LOCK_SNAP.RX_PWR : Field := ⟨.LRX_LOCK_SNAP, 143, 128⟩
/-- Bits [127:120], RO. -/
abbrev LRX_LOCK_SNAP.SNR : Field := ⟨.LRX_LOCK_SNAP, 127, 120⟩
/-- Bits [119:112], RO. -/
abbrev LRX_LOCK_SNAP.VGA : Field := ⟨.LRX_LOCK_SNAP, 119, 112⟩
/-- Bits [111:108], RO. -/
abbrev LRX_LOCK_SNAP.TIA_IDX : Field := ⟨.LRX_LOCK_SNAP, 111, 108⟩
/-- Bits [103:88], RO. -/
abbrev LRX_LOCK_SNAP.FREQ : Field := ⟨.LRX_LOCK_SNAP, 103, 88⟩
/-- Bits [87:64], RO. -/
abbrev LRX_LOCK_SNAP.ACQ_TIME : Field := ⟨.LRX_LOCK_SNAP, 87, 64⟩
/-- Bits [63:48], RO. -/
abbrev LRX_LOCK_SNAP.ATTEMPTS : Field := ⟨.LRX_LOCK_SNAP, 63, 48⟩
/-- Bits [47:32], RO. -/
abbrev LRX_LOCK_SNAP.PILOT_CORR : Field := ⟨.LRX_LOCK_SNAP, 47, 32⟩
/-- Bits [31:0], RO. -/
abbrev LRX_LOCK_SNAP.LOCK_COUNT : Field := ⟨.LRX_LOCK_SNAP, 31, 0⟩
/-- Bits [31:0], RO. -/
abbrev LRX_ACQ_COLD.COUNT : Field := ⟨.LRX_ACQ_COLD, 31, 0⟩
/-- Bits [31:0], RO. -/
abbrev LRX_ACQ_LOCK.COUNT : Field := ⟨.LRX_ACQ_LOCK, 31, 0⟩
/-- Bits [31:0], RO. -/
abbrev LRX_FALSE_CAND.COUNT : Field := ⟨.LRX_FALSE_CAND, 31, 0⟩
/-- Bits [31:0], RO. -/
abbrev LRX_CAND_MISS.COUNT : Field := ⟨.LRX_CAND_MISS, 31, 0⟩
/-- Bits [31:0], RO. -/
abbrev LRX_PSTEP_PRE.COUNT : Field := ⟨.LRX_PSTEP_PRE, 31, 0⟩
/-- Bits [31:0], RO. -/
abbrev LRX_PSTEP_LOCK.COUNT : Field := ⟨.LRX_PSTEP_LOCK, 31, 0⟩
/-- Bits [31:0], RO. -/
abbrev LRX_LOL.COUNT : Field := ⟨.LRX_LOL, 31, 0⟩
/-- Bits [31:0], RO. -/
abbrev LRX_RESTART.COUNT : Field := ⟨.LRX_RESTART, 31, 0⟩
/-- Bits [31:0], RO. -/
abbrev LRX_FAIL.COUNT : Field := ⟨.LRX_FAIL, 31, 0⟩
/-- Bits [31:0], RO. -/
abbrev LRX_CLIP.COUNT : Field := ⟨.LRX_CLIP, 31, 0⟩
/-- Bits [31:0], RO. -/
abbrev LRX_TIMEOUT.COUNT : Field := ⟨.LRX_TIMEOUT, 31, 0⟩
/-- Bits [30:24], RW. -/
abbrev LRX_TIA_CFG.ADDR_HI : Field := ⟨.LRX_TIA_CFG, 30, 24⟩
/-- Bits [22:16], RW. -/
abbrev LRX_TIA_CFG.ADDR_LO : Field := ⟨.LRX_TIA_CFG, 22, 16⟩
/-- Bits [1:0], RW. -/
abbrev LRX_TIA_CFG.SPEED : Field := ⟨.LRX_TIA_CFG, 1, 0⟩
/-- Bits [31:31], WO. -/
abbrev LRX_TIA_CMD.GO : Field := ⟨.LRX_TIA_CMD, 31, 31⟩
/-- Bits [30:30], RW. -/
abbrev LRX_TIA_CMD.RD : Field := ⟨.LRX_TIA_CMD, 30, 30⟩
/-- Bits [29:29], RW. -/
abbrev LRX_TIA_CMD.LANE : Field := ⟨.LRX_TIA_CMD, 29, 29⟩
/-- Bits [23:16], RW. -/
abbrev LRX_TIA_CMD.REG : Field := ⟨.LRX_TIA_CMD, 23, 16⟩
/-- Bits [7:0], RW. -/
abbrev LRX_TIA_CMD.WDATA : Field := ⟨.LRX_TIA_CMD, 7, 0⟩
/-- Bits [31:31], RO. -/
abbrev LRX_TIA_STATUS.BUSY : Field := ⟨.LRX_TIA_STATUS, 31, 31⟩
/-- Bits [30:28], RO. -/
abbrev LRX_TIA_STATUS.RESULT : Field := ⟨.LRX_TIA_STATUS, 30, 28⟩
/-- Bits [7:0], RO. -/
abbrev LRX_TIA_STATUS.RDATA : Field := ⟨.LRX_TIA_STATUS, 7, 0⟩
/-- Bits [15:12], RW. -/
abbrev EQP_CTRL.MU_TRK : Field := ⟨.EQP_CTRL, 15, 12⟩
/-- Bits [11:8], RW. -/
abbrev EQP_CTRL.MU_TRN : Field := ⟨.EQP_CTRL, 11, 8⟩
/-- Bits [1:1], WO. -/
abbrev EQP_CTRL.COEF_LOAD : Field := ⟨.EQP_CTRL, 1, 1⟩
/-- Bits [0:0], RW. -/
abbrev EQP_CTRL.FREEZE : Field := ⟨.EQP_CTRL, 0, 0⟩
/-- Bits [31:28], RO. -/
abbrev EQP_ALLOC.SLICES : Field := ⟨.EQP_ALLOC, 31, 28⟩
/-- Bits [23:16], RO. -/
abbrev EQP_ALLOC.CURSOR : Field := ⟨.EQP_ALLOC, 23, 16⟩
/-- Bits [15:14], RO. -/
abbrev EQP_ALLOC.DET : Field := ⟨.EQP_ALLOC, 15, 14⟩
/-- Bits [12:0], RO. -/
abbrev EQP_ALLOC.SLICE_MASK : Field := ⟨.EQP_ALLOC, 12, 0⟩
/-- Bits [39:0], RO. -/
abbrev EQP_POS.POS : Field := ⟨.EQP_POS, 39, 0⟩
/-- Bits [9:6], RO. -/
abbrev EQP_STATUS.FREEZE_CAUSE : Field := ⟨.EQP_STATUS, 9, 6⟩
/-- Bits [5:5], RO. -/
abbrev EQP_STATUS.RAMP : Field := ⟨.EQP_STATUS, 5, 5⟩
/-- Bits [4:4], RO. -/
abbrev EQP_STATUS.OP : Field := ⟨.EQP_STATUS, 4, 4⟩
/-- Bits [1:0], RO. -/
abbrev EQP_STATUS.PHASE : Field := ⟨.EQP_STATUS, 1, 0⟩
/-- Bits [27:16], RO. -/
abbrev EQP_POST.P2 : Field := ⟨.EQP_POST, 27, 16⟩
/-- Bits [11:0], RO. -/
abbrev EQP_POST.P1 : Field := ⟨.EQP_POST, 11, 0⟩
/-- Bits [27:16], RO. -/
abbrev EQP_TARGET.B1 : Field := ⟨.EQP_TARGET, 27, 16⟩
/-- Bits [11:0], RO. -/
abbrev EQP_TARGET.A : Field := ⟨.EQP_TARGET, 11, 0⟩
/-- Bits [7:0], RW. -/
abbrev EQP_SOFT.LLR_STEP : Field := ⟨.EQP_SOFT, 7, 0⟩
/-- Bits [31:0], RO. -/
abbrev EQP_QHIST.COUNT : Field := ⟨.EQP_QHIST, 31, 0⟩
/-- Bits [27:16], RW. -/
abbrev EQP_COEF.HI : Field := ⟨.EQP_COEF, 27, 16⟩
/-- Bits [11:0], RW. -/
abbrev EQP_COEF.LO : Field := ⟨.EQP_COEF, 11, 0⟩
/-- Bits [31:28], RO. -/
abbrev EQP_POOL.ALLOCATED : Field := ⟨.EQP_POOL, 31, 28⟩
/-- Bits [27:24], RO. -/
abbrev EQP_POOL.FREE : Field := ⟨.EQP_POOL, 27, 24⟩
/-- Bits [23:20], RO. -/
abbrev EQP_POOL.UNDER_TEST : Field := ⟨.EQP_POOL, 23, 20⟩
/-- Bits [19:16], RO. -/
abbrev EQP_POOL.FENCED : Field := ⟨.EQP_POOL, 19, 16⟩
/-- Bits [5:4], RO. -/
abbrev EQP_POOL.FUSED : Field := ⟨.EQP_POOL, 5, 4⟩
/-- Bits [3:2], RO. -/
abbrev EQP_POOL.U1 : Field := ⟨.EQP_POOL, 3, 2⟩
/-- Bits [1:0], RO. -/
abbrev EQP_POOL.U0 : Field := ⟨.EQP_POOL, 1, 0⟩
/-- Bits [25:0], RO. -/
abbrev EQP_SLICE_STATE.STATES : Field := ⟨.EQP_SLICE_STATE, 25, 0⟩
/-- Bits [31:31], WO. -/
abbrev EQP_OP_CMD.GO : Field := ⟨.EQP_OP_CMD, 31, 31⟩
/-- Bits [30:28], RW. -/
abbrev EQP_OP_CMD.OP : Field := ⟨.EQP_OP_CMD, 30, 28⟩
/-- Bits [27:27], RW. -/
abbrev EQP_OP_CMD.LANE : Field := ⟨.EQP_OP_CMD, 27, 27⟩
/-- Bits [23:20], RW. -/
abbrev EQP_OP_CMD.POS : Field := ⟨.EQP_OP_CMD, 23, 20⟩
/-- Bits [19:16], RW. -/
abbrev EQP_OP_CMD.TO : Field := ⟨.EQP_OP_CMD, 19, 16⟩
/-- Bits [31:31], RO. -/
abbrev EQP_OP_STATUS.BUSY : Field := ⟨.EQP_OP_STATUS, 31, 31⟩
/-- Bits [30:30], RO. -/
abbrev EQP_OP_STATUS.QUEUED : Field := ⟨.EQP_OP_STATUS, 30, 30⟩
/-- Bits [29:27], RO. -/
abbrev EQP_OP_STATUS.SOURCE : Field := ⟨.EQP_OP_STATUS, 29, 27⟩
/-- Bits [23:20], RO. -/
abbrev EQP_OP_STATUS.RESULT : Field := ⟨.EQP_OP_STATUS, 23, 20⟩
/-- Bits [31:31], RO. -/
abbrev EQP_AUDIT.AUDIT_FAIL : Field := ⟨.EQP_AUDIT, 31, 31⟩
/-- Bits [0:0], WO. -/
abbrev EQP_AUDIT.AUDIT_CLR : Field := ⟨.EQP_AUDIT, 0, 0⟩
/-- Bits [31:0], RO. -/
abbrev EQP_OP_OK.COUNT : Field := ⟨.EQP_OP_OK, 31, 0⟩
/-- Bits [31:0], RO. -/
abbrev EQP_OP_FAIL.COUNT : Field := ⟨.EQP_OP_FAIL, 31, 0⟩
/-- Bits [3:3], WO. -/
abbrev LFEC_CTRL.AUDIT_CLR : Field := ⟨.LFEC_CTRL, 3, 3⟩
/-- Bits [2:2], WO. -/
abbrev LFEC_CTRL.CLR : Field := ⟨.LFEC_CTRL, 2, 2⟩
/-- Bits [1:1], RW. -/
abbrev LFEC_CTRL.HOLD : Field := ⟨.LFEC_CTRL, 1, 1⟩
/-- Bits [0:0], WO. -/
abbrev LFEC_CTRL.SNAP : Field := ⟨.LFEC_CTRL, 0, 0⟩
/-- Bits [31:16], RO. -/
abbrev LFEC_STATUS.MF_ERR : Field := ⟨.LFEC_STATUS, 31, 16⟩
/-- Bits [11:10], RO. -/
abbrev LFEC_STATUS.RS_MODE : Field := ⟨.LFEC_STATUS, 11, 10⟩
/-- Bits [9:9], RO. -/
abbrev LFEC_STATUS.SNAP_BUSY : Field := ⟨.LFEC_STATUS, 9, 9⟩
/-- Bits [8:8], RO. -/
abbrev LFEC_STATUS.AUDIT_FAIL : Field := ⟨.LFEC_STATUS, 8, 8⟩
/-- Bits [7:7], RO. -/
abbrev LFEC_STATUS.CFG_MISMATCH : Field := ⟨.LFEC_STATUS, 7, 7⟩
/-- Bits [6:6], RO. -/
abbrev LFEC_STATUS.MF_KNOWN : Field := ⟨.LFEC_STATUS, 6, 6⟩
/-- Bits [5:5], RO. -/
abbrev LFEC_STATUS.SF : Field := ⟨.LFEC_STATUS, 5, 5⟩
/-- Bits [4:4], RO. -/
abbrev LFEC_STATUS.SD : Field := ⟨.LFEC_STATUS, 4, 4⟩
/-- Bits [3:0], RO. -/
abbrev LFEC_STATUS.MF_M : Field := ⟨.LFEC_STATUS, 3, 0⟩
/-- Bits [31:16], RW. -/
abbrev LFEC_SD.SD_CLR : Field := ⟨.LFEC_SD, 31, 16⟩
/-- Bits [15:0], RW. -/
abbrev LFEC_SD.SD_SET : Field := ⟨.LFEC_SD, 15, 0⟩
/-- Bits [31:16], RW. -/
abbrev LFEC_SF.SF_CLR : Field := ⟨.LFEC_SF, 31, 16⟩
/-- Bits [15:0], RW. -/
abbrev LFEC_SF.SF_SET : Field := ⟨.LFEC_SF, 15, 0⟩
/-- Bits [63:48], RO. -/
abbrev LFEC_FAR_STATUS.AGE : Field := ⟨.LFEC_FAR_STATUS, 63, 48⟩
/-- Bits [43:0], RO. -/
abbrev LFEC_FAR_STATUS.PAYLOAD : Field := ⟨.LFEC_FAR_STATUS, 43, 0⟩
/-- Bits [31:0], RO. -/
abbrev LFEC_OAM_RX.COUNT : Field := ⟨.LFEC_OAM_RX, 31, 0⟩
/-- Bits [31:0], RO. -/
abbrev LFEC_OAM_CRC.COUNT : Field := ⟨.LFEC_OAM_CRC, 31, 0⟩
/-- Bits [31:0], RO. -/
abbrev LFEC_OAM_RSVD.COUNT : Field := ⟨.LFEC_OAM_RSVD, 31, 0⟩
/-- Bits [47:0], RO. -/
abbrev LFEC_RS_RX.COUNT : Field := ⟨.LFEC_RS_RX, 47, 0⟩
/-- Bits [47:0], RO. -/
abbrev LFEC_RS_UNCORR.COUNT : Field := ⟨.LFEC_RS_UNCORR, 47, 0⟩
/-- Bits [47:0], RO. -/
abbrev LFEC_RS_SYM.COUNT : Field := ⟨.LFEC_RS_SYM, 47, 0⟩
/-- Bits [47:0], RO. -/
abbrev LFEC_RS_BITS.COUNT : Field := ⟨.LFEC_RS_BITS, 47, 0⟩
/-- Bits [47:0], RO. -/
abbrev LFEC_IN_RX.COUNT : Field := ⟨.LFEC_IN_RX, 47, 0⟩
/-- Bits [47:0], RO. -/
abbrev LFEC_IN_ZERO.COUNT : Field := ⟨.LFEC_IN_ZERO, 47, 0⟩
/-- Bits [47:0], RO. -/
abbrev LFEC_IN_CORR.COUNT : Field := ⟨.LFEC_IN_CORR, 47, 0⟩
/-- Bits [47:0], RO. -/
abbrev LFEC_IN_FAIL.COUNT : Field := ⟨.LFEC_IN_FAIL, 47, 0⟩
/-- Bits [47:0], RO. -/
abbrev LFEC_IN_FLIPS.COUNT : Field := ⟨.LFEC_IN_FLIPS, 47, 0⟩
/-- Bits [47:0], RO. -/
abbrev LFEC_RS_HIST.COUNT : Field := ⟨.LFEC_RS_HIST, 47, 0⟩
/-- Bits [2:2], WO. -/
abbrev LTX_CTRL.SWAP : Field := ⟨.LTX_CTRL, 2, 2⟩
/-- Bits [1:1], RW. -/
abbrev LTX_CTRL.SQUELCH : Field := ⟨.LTX_CTRL, 1, 1⟩
/-- Bits [0:0], RW. -/
abbrev LTX_CTRL.ENABLE : Field := ⟨.LTX_CTRL, 0, 0⟩
/-- Bits [23:20], RO. -/
abbrev LTX_STATUS.RESULT : Field := ⟨.LTX_STATUS, 23, 20⟩
/-- Bits [19:19], RO. -/
abbrev LTX_STATUS.PENDING : Field := ⟨.LTX_STATUS, 19, 19⟩
/-- Bits [18:18], RO. -/
abbrev LTX_STATUS.RAMP : Field := ⟨.LTX_STATUS, 18, 18⟩
/-- Bits [17:17], RO. -/
abbrev LTX_STATUS.SWAP_BUSY : Field := ⟨.LTX_STATUS, 17, 17⟩
/-- Bits [14:8], RO. -/
abbrev LTX_STATUS.SQ_CAUSE : Field := ⟨.LTX_STATUS, 14, 8⟩
/-- Bits [3:0], RO. -/
abbrev LTX_STATUS.STATE : Field := ⟨.LTX_STATUS, 3, 0⟩
/-- Bits [3:0], RW. -/
abbrev LTX_FIR_CFG.MAIN : Field := ⟨.LTX_FIR_CFG, 3, 0⟩
/-- Bits [29:24], RW. -/
abbrev LTX_TRIM.SWING : Field := ⟨.LTX_TRIM, 29, 24⟩
/-- Bits [22:16], RW. -/
abbrev LTX_TRIM.OFFSET : Field := ⟨.LTX_TRIM, 22, 16⟩
/-- Bits [13:8], RW. -/
abbrev LTX_TRIM.SKEW : Field := ⟨.LTX_TRIM, 13, 8⟩
/-- Bits [29:24], RO. -/
abbrev LTX_TRIM_NOW.SWING : Field := ⟨.LTX_TRIM_NOW, 29, 24⟩
/-- Bits [22:16], RO. -/
abbrev LTX_TRIM_NOW.OFFSET : Field := ⟨.LTX_TRIM_NOW, 22, 16⟩
/-- Bits [13:8], RO. -/
abbrev LTX_TRIM_NOW.SKEW : Field := ⟨.LTX_TRIM_NOW, 13, 8⟩
/-- Bits [29:16], RW. -/
abbrev LTX_PAT.USER_LEN : Field := ⟨.LTX_PAT, 29, 16⟩
/-- Bits [5:5], RW. -/
abbrev LTX_PAT.BYPASS : Field := ⟨.LTX_PAT, 5, 5⟩
/-- Bits [4:4], RW. -/
abbrev LTX_PAT.PLACE : Field := ⟨.LTX_PAT, 4, 4⟩
/-- Bits [2:0], RW. -/
abbrev LTX_PAT.PAT : Field := ⟨.LTX_PAT, 2, 0⟩
/-- Bits [31:0], RO. -/
abbrev LTX_CLIP.COUNT : Field := ⟨.LTX_CLIP, 31, 0⟩
/-- Bits [31:0], RO. -/
abbrev LTX_PAT_DROP.COUNT : Field := ⟨.LTX_PAT_DROP, 31, 0⟩
/-- Bits [31:31], RO. -/
abbrev LTX_CHK.SYNC : Field := ⟨.LTX_CHK, 31, 31⟩
/-- Bits [23:8], RO. -/
abbrev LTX_CHK.SLIPS : Field := ⟨.LTX_CHK, 23, 8⟩
/-- Bits [4:4], WO. -/
abbrev LTX_CHK.CLR : Field := ⟨.LTX_CHK, 4, 4⟩
/-- Bits [3:3], RW. -/
abbrev LTX_CHK.PLACE : Field := ⟨.LTX_CHK, 3, 3⟩
/-- Bits [2:0], RW. -/
abbrev LTX_CHK.PAT : Field := ⟨.LTX_CHK, 2, 0⟩
/-- Bits [47:0], RO. -/
abbrev LTX_CHK_SYM.COUNT : Field := ⟨.LTX_CHK_SYM, 47, 0⟩
/-- Bits [47:0], RO. -/
abbrev LTX_CHK_ERR.COUNT : Field := ⟨.LTX_CHK_ERR, 47, 0⟩
/-- Bits [47:0], RO. -/
abbrev LTX_CHK_BIT.COUNT : Field := ⟨.LTX_CHK_BIT, 47, 0⟩
/-- Bits [9:0], RW. -/
abbrev LTX_FIR.TAP : Field := ⟨.LTX_FIR, 9, 0⟩
/-- Bits [9:0], RW. -/
abbrev LTX_LUT.ENTRY : Field := ⟨.LTX_LUT, 9, 0⟩
/-- Bits [31:31], RW. -/
abbrev LTX_MASK_CFG.EN : Field := ⟨.LTX_MASK_CFG, 31, 31⟩
/-- Bits [30:30], RW. -/
abbrev LTX_MASK_CFG.ACTION : Field := ⟨.LTX_MASK_CFG, 30, 30⟩
/-- Bits [23:20], RW. -/
abbrev LTX_MASK_CFG.HYST : Field := ⟨.LTX_MASK_CFG, 23, 20⟩
/-- Bits [15:8], RW. -/
abbrev LTX_MASK_CFG.NSEG : Field := ⟨.LTX_MASK_CFG, 15, 8⟩
/-- Bits [7:0], RW. -/
abbrev LTX_MASK_CFG.AVG : Field := ⟨.LTX_MASK_CFG, 7, 0⟩
/-- Bits [31:0], RO. -/
abbrev LTX_MASK_VIOL.VIOL : Field := ⟨.LTX_MASK_VIOL, 31, 0⟩
/-- Bits [31:31], RO. -/
abbrev LTX_MASK_WORST.FAIL : Field := ⟨.LTX_MASK_WORST, 31, 31⟩
/-- Bits [24:16], RO. -/
abbrev LTX_MASK_WORST.BIN : Field := ⟨.LTX_MASK_WORST, 24, 16⟩
/-- Bits [15:0], RO. -/
abbrev LTX_MASK_WORST.MARGIN : Field := ⟨.LTX_MASK_WORST, 15, 0⟩
/-- Bits [31:0], RO. -/
abbrev LTX_MASK_EST.COUNT : Field := ⟨.LTX_MASK_EST, 31, 0⟩
/-- Bits [31:0], RO. -/
abbrev LTX_MASK_SKIPS.COUNT : Field := ⟨.LTX_MASK_SKIPS, 31, 0⟩
/-- Bits [30:24], RW. -/
abbrev LTX_DRV_CFG.ADDR_HI : Field := ⟨.LTX_DRV_CFG, 30, 24⟩
/-- Bits [22:16], RW. -/
abbrev LTX_DRV_CFG.ADDR_LO : Field := ⟨.LTX_DRV_CFG, 22, 16⟩
/-- Bits [2:2], RW. -/
abbrev LTX_DRV_CFG.PTR16 : Field := ⟨.LTX_DRV_CFG, 2, 2⟩
/-- Bits [1:0], RW. -/
abbrev LTX_DRV_CFG.SPEED : Field := ⟨.LTX_DRV_CFG, 1, 0⟩
/-- Bits [31:31], WO. -/
abbrev LTX_DRV_CMD.GO : Field := ⟨.LTX_DRV_CMD, 31, 31⟩
/-- Bits [30:30], RW. -/
abbrev LTX_DRV_CMD.RD : Field := ⟨.LTX_DRV_CMD, 30, 30⟩
/-- Bits [29:29], RW. -/
abbrev LTX_DRV_CMD.LANE : Field := ⟨.LTX_DRV_CMD, 29, 29⟩
/-- Bits [23:16], RW. -/
abbrev LTX_DRV_CMD.REG : Field := ⟨.LTX_DRV_CMD, 23, 16⟩
/-- Bits [15:8], RW. -/
abbrev LTX_DRV_CMD.REGHI : Field := ⟨.LTX_DRV_CMD, 15, 8⟩
/-- Bits [7:0], RW. -/
abbrev LTX_DRV_CMD.WDATA : Field := ⟨.LTX_DRV_CMD, 7, 0⟩
/-- Bits [31:31], RO. -/
abbrev LTX_DRV_STATUS.BUSY : Field := ⟨.LTX_DRV_STATUS, 31, 31⟩
/-- Bits [30:28], RO. -/
abbrev LTX_DRV_STATUS.RESULT : Field := ⟨.LTX_DRV_STATUS, 30, 28⟩
/-- Bits [7:0], RO. -/
abbrev LTX_DRV_STATUS.RDATA : Field := ⟨.LTX_DRV_STATUS, 7, 0⟩
/-- Bits [24:16], RW. -/
abbrev LTX_MASK_SEG.START : Field := ⟨.LTX_MASK_SEG, 24, 16⟩
/-- Bits [15:8], RW. -/
abbrev LTX_MASK_SEG.UPPER : Field := ⟨.LTX_MASK_SEG, 15, 8⟩
/-- Bits [7:0], RW. -/
abbrev LTX_MASK_SEG.LOWER : Field := ⟨.LTX_MASK_SEG, 7, 0⟩
/-- Bits [31:0], RW. -/
abbrev LTX_UPAT.SYM : Field := ⟨.LTX_UPAT, 31, 0⟩
/-- Bits [8:8], RW. -/
abbrev HSI_CTRL.RX_FREEZE : Field := ⟨.HSI_CTRL, 8, 8⟩
/-- Bits [7:7], WO. -/
abbrev HSI_CTRL.RELOCK : Field := ⟨.HSI_CTRL, 7, 7⟩
/-- Bits [6:6], RW. -/
abbrev HSI_CTRL.WAKE_SEL : Field := ⟨.HSI_CTRL, 6, 6⟩
/-- Bits [5:5], RW. -/
abbrev HSI_CTRL.RX_AUTO : Field := ⟨.HSI_CTRL, 5, 5⟩
/-- Bits [4:4], RW. -/
abbrev HSI_CTRL.TX_FOLLOW : Field := ⟨.HSI_CTRL, 4, 4⟩
/-- Bits [3:3], RW. -/
abbrev HSI_CTRL.TX_QUIET : Field := ⟨.HSI_CTRL, 3, 3⟩
/-- Bits [2:2], RW. -/
abbrev HSI_CTRL.RX_QUIET : Field := ⟨.HSI_CTRL, 2, 2⟩
/-- Bits [1:1], RW. -/
abbrev HSI_CTRL.TX_EN : Field := ⟨.HSI_CTRL, 1, 1⟩
/-- Bits [0:0], RW. -/
abbrev HSI_CTRL.RX_EN : Field := ⟨.HSI_CTRL, 0, 0⟩
/-- Bits [31:28], RO. -/
abbrev HSI_STATUS.RESULT : Field := ⟨.HSI_STATUS, 31, 28⟩
/-- Bits [27:24], RO. -/
abbrev HSI_STATUS.LOSS_CAUSE : Field := ⟨.HSI_STATUS, 27, 24⟩
/-- Bits [23:23], RO. -/
abbrev HSI_STATUS.RATE_RANGE : Field := ⟨.HSI_STATUS, 23, 23⟩
/-- Bits [22:22], RO. -/
abbrev HSI_STATUS.RATE_MISMATCH : Field := ⟨.HSI_STATUS, 22, 22⟩
/-- Bits [21:21], RO. -/
abbrev HSI_STATUS.ACT : Field := ⟨.HSI_STATUS, 21, 21⟩
/-- Bits [20:20], RO. -/
abbrev HSI_STATUS.FAR_RDI : Field := ⟨.HSI_STATUS, 20, 20⟩
/-- Bits [19:19], RO. -/
abbrev HSI_STATUS.CELL_LOCK : Field := ⟨.HSI_STATUS, 19, 19⟩
/-- Bits [11:8], RO. -/
abbrev HSI_STATUS.TX_STATE : Field := ⟨.HSI_STATUS, 11, 8⟩
/-- Bits [3:0], RO. -/
abbrev HSI_STATUS.RX_STATE : Field := ⟨.HSI_STATUS, 3, 0⟩
/-- Bits [31:30], RO. -/
abbrev HSI_CFG.MODE : Field := ⟨.HSI_CFG, 31, 30⟩
/-- Bits [29:28], RO. -/
abbrev HSI_CFG.SVC : Field := ⟨.HSI_CFG, 29, 28⟩
/-- Bits [27:27], RO. -/
abbrev HSI_CFG.TP_OPAQUE : Field := ⟨.HSI_CFG, 27, 27⟩
/-- Bits [23:22], RO. -/
abbrev HSI_CFG.PHYS_RX : Field := ⟨.HSI_CFG, 23, 22⟩
/-- Bits [21:20], RO. -/
abbrev HSI_CFG.PHYS_TX : Field := ⟨.HSI_CFG, 21, 20⟩
/-- Bits [19:19], RO. -/
abbrev HSI_CFG.RX_INV : Field := ⟨.HSI_CFG, 19, 19⟩
/-- Bits [18:18], RO. -/
abbrev HSI_CFG.TX_INV : Field := ⟨.HSI_CFG, 18, 18⟩
/-- Bits [17:17], RO. -/
abbrev HSI_CFG.LINE : Field := ⟨.HSI_CFG, 17, 17⟩
/-- Bits [16:16], RO. -/
abbrev HSI_CFG.IN_USE : Field := ⟨.HSI_CFG, 16, 16⟩
/-- Bits [31:24], RW. -/
abbrev HSI_TXEQ.AMP : Field := ⟨.HSI_TXEQ, 31, 24⟩
/-- Bits [23:16], RW. -/
abbrev HSI_TXEQ.POST1 : Field := ⟨.HSI_TXEQ, 23, 16⟩
/-- Bits [15:8], RW. -/
abbrev HSI_TXEQ.PRE1 : Field := ⟨.HSI_TXEQ, 15, 8⟩
/-- Bits [7:0], RW. -/
abbrev HSI_TXEQ.PRE2 : Field := ⟨.HSI_TXEQ, 7, 0⟩
/-- Bits [31:16], RO. -/
abbrev HSI_FREQ.FREQ : Field := ⟨.HSI_FREQ, 31, 16⟩
/-- Bits [9:0], RO. -/
abbrev HSI_FREQ.FCM_DELAY : Field := ⟨.HSI_FREQ, 9, 0⟩
/-- Bits [15:8], RO. -/
abbrev HSI_EYE.CTLE : Field := ⟨.HSI_EYE, 15, 8⟩
/-- Bits [7:0], RO. -/
abbrev HSI_EYE.SNR : Field := ⟨.HSI_EYE, 7, 0⟩
/-- Bits [31:0], RO. -/
abbrev HSI_LOCK.COUNT : Field := ⟨.HSI_LOCK, 31, 0⟩
/-- Bits [31:0], RO. -/
abbrev HSI_LOL.COUNT : Field := ⟨.HSI_LOL, 31, 0⟩
/-- Bits [31:0], RO. -/
abbrev HSI_TIMEOUT.COUNT : Field := ⟨.HSI_TIMEOUT, 31, 0⟩
/-- Bits [31:0], RO. -/
abbrev HSI_BAD_SH.COUNT : Field := ⟨.HSI_BAD_SH, 31, 0⟩
/-- Bits [31:0], RO. -/
abbrev HSI_FRAME_ERR.COUNT : Field := ⟨.HSI_FRAME_ERR, 31, 0⟩
/-- Bits [31:0], RO. -/
abbrev HSI_WAKE.COUNT : Field := ⟨.HSI_WAKE, 31, 0⟩
/-- Bits [31:0], RO. -/
abbrev HSI_ACT_IGN.COUNT : Field := ⟨.HSI_ACT_IGN, 31, 0⟩
/-- Bits [31:0], RO. -/
abbrev HSI_TP_DROP.COUNT : Field := ⟨.HSI_TP_DROP, 31, 0⟩
/-- Bits [31:0], RO. -/
abbrev HSI_PAT_DROP.COUNT : Field := ⟨.HSI_PAT_DROP, 31, 0⟩
/-- Bits [2:0], RW. -/
abbrev HSI_PAT.PAT : Field := ⟨.HSI_PAT, 2, 0⟩
/-- Bits [31:31], RO. -/
abbrev HSI_CHK.SYNC : Field := ⟨.HSI_CHK, 31, 31⟩
/-- Bits [23:8], RO. -/
abbrev HSI_CHK.SLIPS : Field := ⟨.HSI_CHK, 23, 8⟩
/-- Bits [4:4], WO. -/
abbrev HSI_CHK.CLR : Field := ⟨.HSI_CHK, 4, 4⟩
/-- Bits [2:0], RW. -/
abbrev HSI_CHK.PAT : Field := ⟨.HSI_CHK, 2, 0⟩
/-- Bits [47:0], RO. -/
abbrev HSI_CHK_SYM.COUNT : Field := ⟨.HSI_CHK_SYM, 47, 0⟩
/-- Bits [47:0], RO. -/
abbrev HSI_CHK_ERR.COUNT : Field := ⟨.HSI_CHK_ERR, 47, 0⟩
/-- Bits [47:0], RO. -/
abbrev HSI_CHK_BIT.COUNT : Field := ⟨.HSI_CHK_BIT, 47, 0⟩
/-- Bits [31:31], RO. -/
abbrev HPM_PORT_CFG.VALID : Field := ⟨.HPM_PORT_CFG, 31, 31⟩
/-- Bits [26:24], RO. -/
abbrev HPM_PORT_CFG.RATE : Field := ⟨.HPM_PORT_CFG, 26, 24⟩
/-- Bits [7:0], RO. -/
abbrev HPM_PORT_CFG.FLAGS : Field := ⟨.HPM_PORT_CFG, 7, 0⟩
/-- Bits [31:31], RO. -/
abbrev HPM_PORT_STATUS.UP : Field := ⟨.HPM_PORT_STATUS, 31, 31⟩
/-- Bits [30:30], RO. -/
abbrev HPM_PORT_STATUS.LF_TO_HOST : Field := ⟨.HPM_PORT_STATUS, 30, 30⟩
/-- Bits [29:29], RO. -/
abbrev HPM_PORT_STATUS.LF_TO_LINE : Field := ⟨.HPM_PORT_STATUS, 29, 29⟩
/-- Bits [28:28], RO. -/
abbrev HPM_PORT_STATUS.RF_SEEN : Field := ⟨.HPM_PORT_STATUS, 28, 28⟩
/-- Bits [27:27], RO. -/
abbrev HPM_PORT_STATUS.DESKEW_FAIL : Field := ⟨.HPM_PORT_STATUS, 27, 27⟩
/-- Bits [47:0], RO. -/
abbrev HPM_RS_CW.COUNT : Field := ⟨.HPM_RS_CW, 47, 0⟩
/-- Bits [47:0], RO. -/
abbrev HPM_RS_ZERO.COUNT : Field := ⟨.HPM_RS_ZERO, 47, 0⟩
/-- Bits [47:0], RO. -/
abbrev HPM_RS_CORR.COUNT : Field := ⟨.HPM_RS_CORR, 47, 0⟩
/-- Bits [47:0], RO. -/
abbrev HPM_RS_UNCORR.COUNT : Field := ⟨.HPM_RS_UNCORR, 47, 0⟩
/-- Bits [47:0], RO. -/
abbrev HPM_LINE_ERR.COUNT : Field := ⟨.HPM_LINE_ERR, 47, 0⟩
/-- Bits [47:0], RO. -/
abbrev HPM_IDLE_INS.COUNT : Field := ⟨.HPM_IDLE_INS, 47, 0⟩
/-- Bits [47:0], RO. -/
abbrev HPM_IDLE_DEL.COUNT : Field := ⟨.HPM_IDLE_DEL, 47, 0⟩
/-- Bits [47:0], RO. -/
abbrev HPM_OVF.COUNT : Field := ⟨.HPM_OVF, 47, 0⟩
/-- Bits [31:0], RO. -/
abbrev HPM_CELL_RX.COUNT : Field := ⟨.HPM_CELL_RX, 31, 0⟩
/-- Bits [31:0], RO. -/
abbrev HPM_CELL_BAD.COUNT : Field := ⟨.HPM_CELL_BAD, 31, 0⟩
/-- Bits [31:0], RO. -/
abbrev HPM_CTL_RSVD.COUNT : Field := ⟨.HPM_CTL_RSVD, 31, 0⟩
/-- Bits [31:0], RO. -/
abbrev HPM_CTL_GAP.COUNT : Field := ⟨.HPM_CTL_GAP, 31, 0⟩
/-- Bits [31:31], RO. -/
abbrev HSI_CLK.HCKI_PRESENT : Field := ⟨.HSI_CLK, 31, 31⟩
/-- Bits [30:30], RO. -/
abbrev HSI_CLK.SYNTH_LOCK : Field := ⟨.HSI_CLK, 30, 30⟩
/-- Bits [29:29], RO. -/
abbrev HSI_CLK.PENDING : Field := ⟨.HSI_CLK, 29, 29⟩
/-- Bits [7:0], RO. -/
abbrev HSI_CLK.LOSSES : Field := ⟨.HSI_CLK, 7, 0⟩
/-- Bits [31:31], RW. -/
abbrev CIN_CH_CFG.EN : Field := ⟨.CIN_CH_CFG, 31, 31⟩
/-- Bits [30:30], RW. -/
abbrev CIN_CH_CFG.LINE_CREDIT : Field := ⟨.CIN_CH_CFG, 30, 30⟩
/-- Bits [27:24], RW. -/
abbrev CIN_CH_CFG.WEIGHT : Field := ⟨.CIN_CH_CFG, 27, 24⟩
/-- Bits [15:0], RW. -/
abbrev CIN_CH_CFG.STRIPE : Field := ⟨.CIN_CH_CFG, 15, 0⟩
/-- Bits [31:16], RW. -/
abbrev CIN_CH_CRED.EGR_CREDITS : Field := ⟨.CIN_CH_CRED, 31, 16⟩
/-- Bits [15:0], RW. -/
abbrev CIN_CH_CRED.ING_CREDITS : Field := ⟨.CIN_CH_CRED, 15, 0⟩
/-- Bits [31:31], RO. -/
abbrev CIN_CH_STATUS.FROZEN : Field := ⟨.CIN_CH_STATUS, 31, 31⟩
/-- Bits [30:30], RO. -/
abbrev CIN_CH_STATUS.STALLED : Field := ⟨.CIN_CH_STATUS, 30, 30⟩
/-- Bits [19:16], RO. -/
abbrev CIN_CH_STATUS.K : Field := ⟨.CIN_CH_STATUS, 19, 16⟩
/-- Bits [15:0], RO. -/
abbrev CIN_CH_STATUS.STRIPE_NOW : Field := ⟨.CIN_CH_STATUS, 15, 0⟩
/-- Bits [31:0], RO. -/
abbrev CIN_CH_ACCT.TOTAL : Field := ⟨.CIN_CH_ACCT, 31, 0⟩
/-- Bits [47:0], RO. -/
abbrev CIN_ACCEPT.COUNT : Field := ⟨.CIN_ACCEPT, 47, 0⟩
/-- Bits [47:0], RO. -/
abbrev CIN_SENT.COUNT : Field := ⟨.CIN_SENT, 47, 0⟩
/-- Bits [47:0], RO. -/
abbrev CIN_ARRIVE.COUNT : Field := ⟨.CIN_ARRIVE, 47, 0⟩
/-- Bits [47:0], RO. -/
abbrev CIN_DELIVER.COUNT : Field := ⟨.CIN_DELIVER, 47, 0⟩
/-- Bits [47:0], RO. -/
abbrev CIN_DISC_ING_MEM.COUNT : Field := ⟨.CIN_DISC_ING_MEM, 47, 0⟩
/-- Bits [47:0], RO. -/
abbrev CIN_DISC_STORE.COUNT : Field := ⟨.CIN_DISC_STORE, 47, 0⟩
/-- Bits [47:0], RO. -/
abbrev CIN_DISC_EGR_MEM.COUNT : Field := ⟨.CIN_DISC_EGR_MEM, 47, 0⟩
/-- Bits [47:0], RO. -/
abbrev CIN_DISC_SPAN.COUNT : Field := ⟨.CIN_DISC_SPAN, 47, 0⟩
/-- Bits [47:0], RO. -/
abbrev CIN_DISC_SHED.COUNT : Field := ⟨.CIN_DISC_SHED, 47, 0⟩
/-- Bits [47:0], RO. -/
abbrev CIN_DISC_EGR_OVF.COUNT : Field := ⟨.CIN_DISC_EGR_OVF, 47, 0⟩
/-- Bits [47:0], RO. -/
abbrev CIN_DISC_CLOSE.COUNT : Field := ⟨.CIN_DISC_CLOSE, 47, 0⟩
/-- Bits [47:0], RO. -/
abbrev CIN_ING_OVR.COUNT : Field := ⟨.CIN_ING_OVR, 47, 0⟩
/-- Bits [1:1], RW. -/
abbrev CIN_LANE_CTRL.SHED_ON_SF : Field := ⟨.CIN_LANE_CTRL, 1, 1⟩
/-- Bits [0:0], RW. -/
abbrev CIN_LANE_CTRL.SHED : Field := ⟨.CIN_LANE_CTRL, 0, 0⟩
/-- Bits [31:24], RW. -/
abbrev CIN_LANE_CFG.SHED_LOL : Field := ⟨.CIN_LANE_CFG, 31, 24⟩
/-- Bits [23:16], RW. -/
abbrev CIN_LANE_CFG.REJOIN_HOLD : Field := ⟨.CIN_LANE_CFG, 23, 16⟩
/-- Bits [15:0], RO. -/
abbrev CIN_LANE_CFG.NACK_TO : Field := ⟨.CIN_LANE_CFG, 15, 0⟩
/-- Bits [31:30], RO. -/
abbrev CIN_LANE_STATUS.TX_STREAM : Field := ⟨.CIN_LANE_STATUS, 31, 30⟩
/-- Bits [29:28], RO. -/
abbrev CIN_LANE_STATUS.RX_STREAM : Field := ⟨.CIN_LANE_STATUS, 29, 28⟩
/-- Bits [27:27], RO. -/
abbrev CIN_LANE_STATUS.SHED : Field := ⟨.CIN_LANE_STATUS, 27, 27⟩
/-- Bits [26:26], RO. -/
abbrev CIN_LANE_STATUS.FAR_SHED : Field := ⟨.CIN_LANE_STATUS, 26, 26⟩
/-- Bits [25:25], RO. -/
abbrev CIN_LANE_STATUS.NO_REPLAY : Field := ⟨.CIN_LANE_STATUS, 25, 25⟩
/-- Bits [11:0], RO. -/
abbrev CIN_LANE_STATUS.SLOTS : Field := ⟨.CIN_LANE_STATUS, 11, 0⟩
/-- Bits [63:32], RO. -/
abbrev CIN_LANE_SEQ.HEAD : Field := ⟨.CIN_LANE_SEQ, 63, 32⟩
/-- Bits [31:0], RO. -/
abbrev CIN_LANE_SEQ.E : Field := ⟨.CIN_LANE_SEQ, 31, 0⟩
/-- Bits [15:8], RO. -/
abbrev CIN_LANE_EPOCH.ACTED : Field := ⟨.CIN_LANE_EPOCH, 15, 8⟩
/-- Bits [7:0], RO. -/
abbrev CIN_LANE_EPOCH.SENT : Field := ⟨.CIN_LANE_EPOCH, 7, 0⟩
/-- Bits [31:0], RO. -/
abbrev CIN_NACK_TX.COUNT : Field := ⟨.CIN_NACK_TX, 31, 0⟩
/-- Bits [31:0], RO. -/
abbrev CIN_NACK_RX.COUNT : Field := ⟨.CIN_NACK_RX, 31, 0⟩
/-- Bits [31:0], RO. -/
abbrev CIN_NACK_DUP.COUNT : Field := ⟨.CIN_NACK_DUP, 31, 0⟩
/-- Bits [31:0], RO. -/
abbrev CIN_NACK_TO.COUNT : Field := ⟨.CIN_NACK_TO, 31, 0⟩
/-- Bits [31:0], RO. -/
abbrev CIN_RUNS.COUNT : Field := ⟨.CIN_RUNS, 31, 0⟩
/-- Bits [31:0], RO. -/
abbrev CIN_RUN_GRAN.COUNT : Field := ⟨.CIN_RUN_GRAN, 31, 0⟩
/-- Bits [31:0], RO. -/
abbrev CIN_GBN_DROP.COUNT : Field := ⟨.CIN_GBN_DROP, 31, 0⟩
/-- Bits [31:0], RO. -/
abbrev CIN_GAPS.COUNT : Field := ⟨.CIN_GAPS, 31, 0⟩
/-- Bits [31:0], RO. -/
abbrev CIN_TAG_ERR.COUNT : Field := ⟨.CIN_TAG_ERR, 31, 0⟩
/-- Bits [31:0], RO. -/
abbrev CIN_RESYNC.COUNT : Field := ⟨.CIN_RESYNC, 31, 0⟩
/-- Bits [31:0], RO. -/
abbrev CIN_SHEDS.COUNT : Field := ⟨.CIN_SHEDS, 31, 0⟩
/-- Bits [31:0], RO. -/
abbrev CIN_CR_STALE.COUNT : Field := ⟨.CIN_CR_STALE, 31, 0⟩
/-- Bits [31:0], RO. -/
abbrev CIN_CR_BAD.COUNT : Field := ⟨.CIN_CR_BAD, 31, 0⟩
/-- Bits [31:31], RO. -/
abbrev CIN_CONS_AUDIT.FAIL : Field := ⟨.CIN_CONS_AUDIT, 31, 31⟩
/-- Bits [23:16], RO. -/
abbrev CIN_CONS_AUDIT.LAST_CH : Field := ⟨.CIN_CONS_AUDIT, 23, 16⟩
/-- Bits [15:8], WO. -/
abbrev CIN_CONS_AUDIT.CLR_CH : Field := ⟨.CIN_CONS_AUDIT, 15, 8⟩
/-- Bits [0:0], WO. -/
abbrev CIN_CONS_AUDIT.CLR_GO : Field := ⟨.CIN_CONS_AUDIT, 0, 0⟩
/-- Bits [31:0], RO. -/
abbrev CIN_AUDIT_PASS.COUNT : Field := ⟨.CIN_AUDIT_PASS, 31, 0⟩
/-- Bits [31:0], RO. -/
abbrev CIN_AUDIT_FAIL.COUNT : Field := ⟨.CIN_AUDIT_FAIL, 31, 0⟩
/-- Bits [31:16], RW. -/
abbrev CIN_CR_CFG.REFRESH : Field := ⟨.CIN_CR_CFG, 31, 16⟩
/-- Bits [15:0], RW. -/
abbrev CIN_CR_CFG.CR_MIN : Field := ⟨.CIN_CR_CFG, 15, 0⟩
/-- Bits [9:0], W1C. -/
abbrev MGT_ALERT_STATUS.CLASS : Field := ⟨.MGT_ALERT_STATUS, 9, 0⟩
/-- Bits [9:0], RW. -/
abbrev MGT_IBI_EN.EN : Field := ⟨.MGT_IBI_EN, 9, 0⟩
/-- Bits [31:31], RO. -/
abbrev MGT_BUS_STATUS.I3C : Field := ⟨.MGT_BUS_STATUS, 31, 31⟩
/-- Bits [30:24], RO. -/
abbrev MGT_BUS_STATUS.DYN_ADDR : Field := ⟨.MGT_BUS_STATUS, 30, 24⟩
/-- Bits [22:16], RO. -/
abbrev MGT_BUS_STATUS.STATIC_ADDR : Field := ⟨.MGT_BUS_STATUS, 22, 16⟩
/-- Bits [15:15], RO. -/
abbrev MGT_BUS_STATUS.ENINT : Field := ⟨.MGT_BUS_STATUS, 15, 15⟩
/-- Bits [1:0], RO. -/
abbrev MGT_BUS_STATUS.ROLE : Field := ⟨.MGT_BUS_STATUS, 1, 0⟩
/-- Bits [15:8], RW. -/
abbrev MGT_CW_CFG.NOTIFY_MIN : Field := ⟨.MGT_CW_CFG, 15, 8⟩
/-- Bits [0:0], RW. -/
abbrev MGT_CW_CFG.TUNNEL_EN : Field := ⟨.MGT_CW_CFG, 0, 0⟩
/-- Bits [47:0], RW. -/
abbrev MGT_CW_MAC.MAC : Field := ⟨.MGT_CW_MAC, 47, 0⟩
/-- Bits [31:0], WO. -/
abbrev MGT_OP_PWD.PWD : Field := ⟨.MGT_OP_PWD, 31, 0⟩
/-- Bits [31:28], WO. -/
abbrev MGT_AUTH_CTRL.CMD : Field := ⟨.MGT_AUTH_CTRL, 31, 28⟩
/-- Bits [31:0], WO. -/
abbrev MGT_AUTH_DATA.DATA : Field := ⟨.MGT_AUTH_DATA, 31, 0⟩
/-- Bits [31:28], RO. -/
abbrev MGT_AUTH_STATUS.RESULT : Field := ⟨.MGT_AUTH_STATUS, 31, 28⟩
/-- Bits [15:8], RO. -/
abbrev MGT_AUTH_STATUS.DATA_LEN : Field := ⟨.MGT_AUTH_STATUS, 15, 8⟩
/-- Bits [0:0], RO. -/
abbrev MGT_AUTH_STATUS.NONCE_VALID : Field := ⟨.MGT_AUTH_STATUS, 0, 0⟩
/-- Bits [255:0], RO. -/
abbrev MGT_AUTH_NONCE.NONCE : Field := ⟨.MGT_AUTH_NONCE, 255, 0⟩
/-- Bits [31:0], RO. -/
abbrev MGT_BAD_ADDR.COUNT : Field := ⟨.MGT_BAD_ADDR, 31, 0⟩
/-- Bits [31:0], RO. -/
abbrev MGT_ACCESS_VIOL.COUNT : Field := ⟨.MGT_ACCESS_VIOL, 31, 0⟩
/-- Bits [31:0], RO. -/
abbrev MGT_PWD_FAIL.COUNT : Field := ⟨.MGT_PWD_FAIL, 31, 0⟩
/-- Bits [31:0], RO. -/
abbrev MGT_CW_RX.COUNT : Field := ⟨.MGT_CW_RX, 31, 0⟩
/-- Bits [31:0], RO. -/
abbrev MGT_CW_TX.COUNT : Field := ⟨.MGT_CW_TX, 31, 0⟩
/-- Bits [31:0], RO. -/
abbrev MGT_CW_BAD.COUNT : Field := ⟨.MGT_CW_BAD, 31, 0⟩
/-- Bits [31:0], RO. -/
abbrev MGT_CW_AUTH_FAIL.COUNT : Field := ⟨.MGT_CW_AUTH_FAIL, 31, 0⟩
/-- Bits [31:0], RO. -/
abbrev MGT_TUN_DISC.COUNT : Field := ⟨.MGT_TUN_DISC, 31, 0⟩
/-- Bits [31:0], RO. -/
abbrev MGT_IBI_SENT.COUNT : Field := ⟨.MGT_IBI_SENT, 31, 0⟩
/-- Bits [31:0], RO. -/
abbrev MGT_IBI_NACK.COUNT : Field := ⟨.MGT_IBI_NACK, 31, 0⟩
/-- Bits [31:31], RO. -/
abbrev MGT_SESSION.OPEN : Field := ⟨.MGT_SESSION, 31, 31⟩
/-- Bits [29:28], RO. -/
abbrev MGT_SESSION.ROLE : Field := ⟨.MGT_SESSION, 29, 28⟩
/-- Bits [27:26], RO. -/
abbrev MGT_SESSION.TRANSPORT : Field := ⟨.MGT_SESSION, 27, 26⟩
/-- Bits [25:16], RO. -/
abbrev MGT_SESSION.CLASSES : Field := ⟨.MGT_SESSION, 25, 16⟩
/-- Bits [15:0], RO. -/
abbrev MGT_SESSION.NUMBER : Field := ⟨.MGT_SESSION, 15, 0⟩
/-- Bits [31:28], RO. -/
abbrev SEC_STATUS.ID_STATE : Field := ⟨.SEC_STATUS, 31, 28⟩
/-- Bits [27:27], RO. -/
abbrev SEC_STATUS.JTAG_LOCK : Field := ⟨.SEC_STATUS, 27, 27⟩
/-- Bits [26:26], RO. -/
abbrev SEC_STATUS.UNOWNED : Field := ⟨.SEC_STATUS, 26, 26⟩
/-- Bits [25:24], RO. -/
abbrev SEC_STATUS.FW_SLOT : Field := ⟨.SEC_STATUS, 25, 24⟩
/-- Bits [23:23], RO. -/
abbrev SEC_STATUS.TRIAL : Field := ⟨.SEC_STATUS, 23, 23⟩
/-- Bits [22:22], RO. -/
abbrev SEC_STATUS.F0_REVOKED : Field := ⟨.SEC_STATUS, 22, 22⟩
/-- Bits [15:8], RO. -/
abbrev SEC_STATUS.FW_FLOOR : Field := ⟨.SEC_STATUS, 15, 8⟩
/-- Bits [7:0], RO. -/
abbrev SEC_STATUS.HRN_FLOOR : Field := ⟨.SEC_STATUS, 7, 0⟩
/-- Bits [127:0], RO. -/
abbrev SEC_UID.UID : Field := ⟨.SEC_UID, 127, 0⟩
/-- Bits [255:0], RO. -/
abbrev SEC_NONCE.NONCE : Field := ⟨.SEC_NONCE, 255, 0⟩
/-- Bits [31:28], WO. -/
abbrev SEC_KEY_CTRL.CMD : Field := ⟨.SEC_KEY_CTRL, 31, 28⟩
/-- Bits [3:0], WO. -/
abbrev SEC_KEY_CTRL.SLOT : Field := ⟨.SEC_KEY_CTRL, 3, 0⟩
/-- Bits [31:0], WO. -/
abbrev SEC_KEY_DATA.DATA : Field := ⟨.SEC_KEY_DATA, 31, 0⟩
/-- Bits [31:28], WO. -/
abbrev SEC_ROLLBACK_CTRL.CMD : Field := ⟨.SEC_ROLLBACK_CTRL, 31, 28⟩
/-- Bits [6:0], WO. -/
abbrev SEC_ROLLBACK_CTRL.TARGET : Field := ⟨.SEC_ROLLBACK_CTRL, 6, 0⟩
/-- Bits [31:28], RO. -/
abbrev SEC_KEY_STATUS.RESULT : Field := ⟨.SEC_KEY_STATUS, 31, 28⟩
/-- Bits [0:0], RO. -/
abbrev SEC_KEY_STATUS.NONCE_VALID : Field := ⟨.SEC_KEY_STATUS, 0, 0⟩
/-- Bits [31:28], WO. -/
abbrev SEC_FW_CTRL.CMD : Field := ⟨.SEC_FW_CTRL, 31, 28⟩
/-- Bits [0:0], WO. -/
abbrev SEC_FW_CTRL.RECOVER : Field := ⟨.SEC_FW_CTRL, 0, 0⟩
/-- Bits [31:0], WO. -/
abbrev SEC_FW_DATA.DATA : Field := ⟨.SEC_FW_DATA, 31, 0⟩
/-- Bits [31:28], RO. -/
abbrev SEC_FW_STATUS.STATE : Field := ⟨.SEC_FW_STATUS, 31, 28⟩
/-- Bits [27:24], RO. -/
abbrev SEC_FW_STATUS.RESULT : Field := ⟨.SEC_FW_STATUS, 27, 24⟩
/-- Bits [19:0], RO. -/
abbrev SEC_FW_STATUS.COUNT : Field := ⟨.SEC_FW_STATUS, 19, 0⟩
/-- Bits [12:0], RO. -/
abbrev SEC_FW_SPACE.SPACE : Field := ⟨.SEC_FW_SPACE, 12, 0⟩
/-- Bits [31:28], WO. -/
abbrev SEC_DBG_CTRL.CMD : Field := ⟨.SEC_DBG_CTRL, 31, 28⟩
/-- Bits [31:0], WO. -/
abbrev SEC_DBG_DATA.DATA : Field := ⟨.SEC_DBG_DATA, 31, 0⟩
/-- Bits [31:28], RO. -/
abbrev SEC_DBG_STATUS.RESULT : Field := ⟨.SEC_DBG_STATUS, 31, 28⟩
/-- Bits [10:8], RO. -/
abbrev SEC_DBG_STATUS.PERMS : Field := ⟨.SEC_DBG_STATUS, 10, 8⟩
/-- Bits [0:0], RO. -/
abbrev SEC_DBG_STATUS.NONCE_VALID : Field := ⟨.SEC_DBG_STATUS, 0, 0⟩
/-- Bits [63:32], RO. -/
abbrev SEC_KEY_SLOT.KEY_ID : Field := ⟨.SEC_KEY_SLOT, 63, 32⟩
/-- Bits [7:6], RO. -/
abbrev SEC_KEY_SLOT.KIND : Field := ⟨.SEC_KEY_SLOT, 7, 6⟩
/-- Bits [1:1], RO. -/
abbrev SEC_KEY_SLOT.REVOKED : Field := ⟨.SEC_KEY_SLOT, 1, 1⟩
/-- Bits [0:0], RO. -/
abbrev SEC_KEY_SLOT.ENROLLED : Field := ⟨.SEC_KEY_SLOT, 0, 0⟩
/-- Bits [511:0], RO. -/
abbrev SEC_MEAS.DIGEST : Field := ⟨.SEC_MEAS, 511, 0⟩
/-- Bits [31:31], RW. -/
abbrev HKA_CTRL.EN : Field := ⟨.HKA_CTRL, 31, 31⟩
/-- Bits [30:30], RW. -/
abbrev HKA_CTRL.LP : Field := ⟨.HKA_CTRL, 30, 30⟩
/-- Bits [29:29], RW. -/
abbrev HKA_CTRL.LP_STBY : Field := ⟨.HKA_CTRL, 29, 29⟩
/-- Bits [28:28], RW. -/
abbrev HKA_CTRL.URG_POL : Field := ⟨.HKA_CTRL, 28, 28⟩
/-- Bits [27:27], RW. -/
abbrev HKA_CTRL.EXT_REF : Field := ⟨.HKA_CTRL, 27, 27⟩
/-- Bits [15:0], RW. -/
abbrev HKA_CTRL.SELF_PERIOD : Field := ⟨.HKA_CTRL, 15, 0⟩
/-- Bits [27:0], RW. -/
abbrev HKA_TIMING.T_INT : Field := ⟨.HKA_TIMING, 27, 0⟩
/-- Bits [31:31], WO. -/
abbrev HKA_URGENT.GO : Field := ⟨.HKA_URGENT, 31, 31⟩
/-- Bits [30:30], RO. -/
abbrev HKA_URGENT.BUSY : Field := ⟨.HKA_URGENT, 30, 30⟩
/-- Bits [29:28], RO. -/
abbrev HKA_URGENT.RESULT : Field := ⟨.HKA_URGENT, 29, 28⟩
/-- Bits [27:22], RW. -/
abbrev HKA_URGENT.CH : Field := ⟨.HKA_URGENT, 27, 22⟩
/-- Bits [21:20], RW. -/
abbrev HKA_URGENT.SRC : Field := ⟨.HKA_URGENT, 21, 20⟩
/-- Bits [19:18], RW. -/
abbrev HKA_URGENT.ORDER : Field := ⟨.HKA_URGENT, 19, 18⟩
/-- Bits [31:31], RO. -/
abbrev HKA_URGENT_RES.VALID : Field := ⟨.HKA_URGENT_RES, 31, 31⟩
/-- Bits [30:30], RO. -/
abbrev HKA_URGENT_RES.OVR : Field := ⟨.HKA_URGENT_RES, 30, 30⟩
/-- Bits [29:24], RO. -/
abbrev HKA_URGENT_RES.CH : Field := ⟨.HKA_URGENT_RES, 29, 24⟩
/-- Bits [23:0], RO. -/
abbrev HKA_URGENT_RES.CODE : Field := ⟨.HKA_URGENT_RES, 23, 0⟩
/-- Bits [31:0], RO. -/
abbrev HKA_URG_DROP.COUNT : Field := ⟨.HKA_URG_DROP, 31, 0⟩
/-- Bits [31:0], RO. -/
abbrev HKA_RB_FAIL.COUNT : Field := ⟨.HKA_RB_FAIL, 31, 0⟩
/-- Bits [31:0], W1C. -/
abbrev HKA_DAC_FAULT.FAULT : Field := ⟨.HKA_DAC_FAULT, 31, 0⟩
/-- Bits [19:16], RW. -/
abbrev HKA_DEC_CFG.M_LOG2 : Field := ⟨.HKA_DEC_CFG, 19, 16⟩
/-- Bits [15:0], RW. -/
abbrev HKA_DEC_CFG.TICK : Field := ⟨.HKA_DEC_CFG, 15, 0⟩
/-- Bits [31:31], RW. -/
abbrev HKA_CH_CFG.SCAN : Field := ⟨.HKA_CH_CFG, 31, 31⟩
/-- Bits [30:30], RW. -/
abbrev HKA_CH_CFG.DEC_EN : Field := ⟨.HKA_CH_CFG, 30, 30⟩
/-- Bits [29:28], RW. -/
abbrev HKA_CH_CFG.SRC : Field := ⟨.HKA_CH_CFG, 29, 28⟩
/-- Bits [27:26], RW. -/
abbrev HKA_CH_CFG.ORDER : Field := ⟨.HKA_CH_CFG, 27, 26⟩
/-- Bits [23:16], RW. -/
abbrev HKA_CH_CFG.NPER : Field := ⟨.HKA_CH_CFG, 23, 16⟩
/-- Bits [15:12], RW. -/
abbrev HKA_CH_CFG.STREAM : Field := ⟨.HKA_CH_CFG, 15, 12⟩
/-- Bits [31:31], RO. -/
abbrev HKA_RESULT.VALID : Field := ⟨.HKA_RESULT, 31, 31⟩
/-- Bits [30:30], RO. -/
abbrev HKA_RESULT.OVR : Field := ⟨.HKA_RESULT, 30, 30⟩
/-- Bits [29:29], RO. -/
abbrev HKA_RESULT.SUPPLY : Field := ⟨.HKA_RESULT, 29, 29⟩
/-- Bits [23:0], RO. -/
abbrev HKA_RESULT.CODE : Field := ⟨.HKA_RESULT, 23, 0⟩
/-- Bits [63:62], RO. -/
abbrev HKA_RESULT_TS.Q : Field := ⟨.HKA_RESULT_TS, 63, 62⟩
/-- Bits [61:0], RO. -/
abbrev HKA_RESULT_TS.TS : Field := ⟨.HKA_RESULT_TS, 61, 0⟩
/-- Bits [31:16], RW. -/
abbrev HKA_CH_CAL.GAIN : Field := ⟨.HKA_CH_CAL, 31, 16⟩
/-- Bits [15:0], RW. -/
abbrev HKA_CH_CAL.OFF : Field := ⟨.HKA_CH_CAL, 15, 0⟩
/-- Bits [21:16], RW. -/
abbrev HKA_MON.TXBIAS : Field := ⟨.HKA_MON, 21, 16⟩
/-- Bits [13:8], RW. -/
abbrev HKA_MON.TXPWR : Field := ⟨.HKA_MON, 13, 8⟩
/-- Bits [5:0], RW. -/
abbrev HKA_MON.RXPWR : Field := ⟨.HKA_MON, 5, 0⟩
/-- Bits [5:0], RW. -/
abbrev HKA_MON_VCC.CH : Field := ⟨.HKA_MON_VCC, 5, 0⟩
/-- Bits [31:31], RO. -/
abbrev HKA_DEC_OUT.VALID : Field := ⟨.HKA_DEC_OUT, 31, 31⟩
/-- Bits [23:0], RO. -/
abbrev HKA_DEC_OUT.OUT : Field := ⟨.HKA_DEC_OUT, 23, 0⟩
/-- Bits [31:0], RW. -/
abbrev HKA_STREAM_BASE.BASE : Field := ⟨.HKA_STREAM_BASE, 31, 0⟩
/-- Bits [31:31], RW. -/
abbrev HKA_STREAM_CFG.EN : Field := ⟨.HKA_STREAM_CFG, 31, 31⟩
/-- Bits [30:30], RW. -/
abbrev HKA_STREAM_CFG.STOP_FULL : Field := ⟨.HKA_STREAM_CFG, 30, 30⟩
/-- Bits [29:29], RW. -/
abbrev HKA_STREAM_CFG.SRC_DEC : Field := ⟨.HKA_STREAM_CFG, 29, 29⟩
/-- Bits [19:16], RW. -/
abbrev HKA_STREAM_CFG.DMA_CH : Field := ⟨.HKA_STREAM_CFG, 19, 16⟩
/-- Bits [4:0], RW. -/
abbrev HKA_STREAM_CFG.SIZE : Field := ⟨.HKA_STREAM_CFG, 4, 0⟩
/-- Bits [31:0], RO. -/
abbrev HKA_STREAM_WR.WR : Field := ⟨.HKA_STREAM_WR, 31, 0⟩
/-- Bits [31:0], RW. -/
abbrev HKA_STREAM_RD.RD : Field := ⟨.HKA_STREAM_RD, 31, 0⟩
/-- Bits [31:0], RO. -/
abbrev HKA_STREAM_LOST.COUNT : Field := ⟨.HKA_STREAM_LOST, 31, 0⟩
/-- Bits [31:16], RO. -/
abbrev HKA_DAC_CODE.NOW : Field := ⟨.HKA_DAC_CODE, 31, 16⟩
/-- Bits [15:0], RW. -/
abbrev HKA_DAC_CODE.CODE : Field := ⟨.HKA_DAC_CODE, 15, 0⟩
/-- Bits [31:31], RW. -/
abbrev HKA_DAC_CFG.EN : Field := ⟨.HKA_DAC_CFG, 31, 31⟩
/-- Bits [30:30], RW. -/
abbrev HKA_DAC_CFG.GAIN : Field := ⟨.HKA_DAC_CFG, 30, 30⟩
/-- Bits [29:28], RW. -/
abbrev HKA_DAC_CFG.TRIG : Field := ⟨.HKA_DAC_CFG, 29, 28⟩
/-- Bits [27:27], RW. -/
abbrev HKA_DAC_CFG.RB_EN : Field := ⟨.HKA_DAC_CFG, 27, 27⟩
/-- Bits [26:26], RW. -/
abbrev HKA_DAC_CFG.HOLD_ON_FAULT : Field := ⟨.HKA_DAC_CFG, 26, 26⟩
/-- Bits [7:0], RW. -/
abbrev HKA_DAC_CFG.RB_TOL : Field := ⟨.HKA_DAC_CFG, 7, 0⟩
/-- Bits [31:31], RW. -/
abbrev HKA_DAC_TIMER.EN : Field := ⟨.HKA_DAC_TIMER, 31, 31⟩
/-- Bits [30:30], RW. -/
abbrev HKA_DAC_TIMER.ONESHOT : Field := ⟨.HKA_DAC_TIMER, 30, 30⟩
/-- Bits [23:0], RW. -/
abbrev HKA_DAC_TIMER.PERIOD : Field := ⟨.HKA_DAC_TIMER, 23, 0⟩
/-- Bits [31:16], RW. -/
abbrev HKA_RB_CFG.RB_PERIOD : Field := ⟨.HKA_RB_CFG, 31, 16⟩
/-- Bits [7:0], RW. -/
abbrev HKA_RB_CFG.RB_DELAY : Field := ⟨.HKA_RB_CFG, 7, 0⟩
/-- Bits [31:0], RO. -/
abbrev CAL_COUNT.COUNT : Field := ⟨.CAL_COUNT, 31, 0⟩
/-- Bits [3:0], RO. -/
abbrev CAL_RESULT.RESULT : Field := ⟨.CAL_RESULT, 3, 0⟩
/-- Bits [95:0], RO. -/
abbrev CAL_LAST_TIME.TIME : Field := ⟨.CAL_LAST_TIME, 95, 0⟩
/-- Bits [1:0], RO. -/
abbrev CAL_LAST_Q.Q : Field := ⟨.CAL_LAST_Q, 1, 0⟩
/-- Bits [31:0], RO. -/
abbrev CAL_VALUE.VALUE : Field := ⟨.CAL_VALUE, 31, 0⟩
/-- Bits [3:0], RO. -/
abbrev CAL_TRIM_BUSY.BUSY : Field := ⟨.CAL_TRIM_BUSY, 3, 0⟩
/-- Bits [63:32], RW. -/
abbrev CAL_TSK.A : Field := ⟨.CAL_TSK, 63, 32⟩
/-- Bits [11:0], RW. -/
abbrev CAL_TSK.B : Field := ⟨.CAL_TSK, 11, 0⟩
/-- Bits [31:31], RO. -/
abbrev THM_SENSOR.VALID : Field := ⟨.THM_SENSOR, 31, 31⟩
/-- Bits [30:30], RO. -/
abbrev THM_SENSOR.EXCLUDED : Field := ⟨.THM_SENSOR, 30, 30⟩
/-- Bits [11:0], RO. -/
abbrev THM_SENSOR.TEMP : Field := ⟨.THM_SENSOR, 11, 0⟩
/-- Bits [11:0], RO. -/
abbrev THM_PRED.PRED : Field := ⟨.THM_PRED, 11, 0⟩
/-- Bits [31:28], RO. -/
abbrev THM_STATUS.STATE : Field := ⟨.THM_STATUS, 31, 28⟩
/-- Bits [27:23], RO. -/
abbrev THM_STATUS.RELIEF : Field := ⟨.THM_STATUS, 27, 23⟩
/-- Bits [22:22], RO. -/
abbrev THM_STATUS.RATE_ALARM : Field := ⟨.THM_STATUS, 22, 22⟩
/-- Bits [21:17], RO. -/
abbrev THM_STATUS.HOT : Field := ⟨.THM_STATUS, 21, 17⟩
/-- Bits [15:0], RO. -/
abbrev THM_STATUS.T_PRED : Field := ⟨.THM_STATUS, 15, 0⟩
/-- Bits [31:31], RW. -/
abbrev THM_CFG.AUTO_RESTART : Field := ⟨.THM_CFG, 31, 31⟩
/-- Bits [7:0], RW. -/
abbrev THM_CFG.STOP_LEAD : Field := ⟨.THM_CFG, 7, 0⟩
/-- Bits [27:16], RW. -/
abbrev THM_LIMIT_A.WARN : Field := ⟨.THM_LIMIT_A, 27, 16⟩
/-- Bits [11:0], RW. -/
abbrev THM_LIMIT_A.CRIT : Field := ⟨.THM_LIMIT_A, 11, 0⟩
/-- Bits [27:16], RW. -/
abbrev THM_LIMIT_B.RELIEF_ON : Field := ⟨.THM_LIMIT_B, 27, 16⟩
/-- Bits [11:0], RW. -/
abbrev THM_LIMIT_B.RELIEF_OFF : Field := ⟨.THM_LIMIT_B, 11, 0⟩
/-- Bits [11:0], RW. -/
abbrev THM_LIMIT_C.RESTART : Field := ⟨.THM_LIMIT_C, 11, 0⟩
/-- Bits [31:0], RO. -/
abbrev THM_STOPS.COUNT : Field := ⟨.THM_STOPS, 31, 0⟩
/-- Bits [20:0], RO. -/
abbrev MEM_REGION_ARMED.ARMED : Field := ⟨.MEM_REGION_ARMED, 20, 0⟩
/-- Bits [31:31], RO. -/
abbrev MEM_STATUS.SPARES_OUT : Field := ⟨.MEM_STATUS, 31, 31⟩
/-- Bits [20:0], RO. -/
abbrev MEM_STATUS.REGIONS : Field := ⟨.MEM_STATUS, 20, 0⟩
/-- Bits [127:127], RW. -/
abbrev MEM_FLIP_MASK.ARM : Field := ⟨.MEM_FLIP_MASK, 127, 127⟩
/-- Bits [123:120], RW. -/
abbrev MEM_FLIP_MASK.STORE : Field := ⟨.MEM_FLIP_MASK, 123, 120⟩
/-- Bits [119:118], RW. -/
abbrev MEM_FLIP_MASK.TARGET : Field := ⟨.MEM_FLIP_MASK, 119, 118⟩
/-- Bits [111:96], RW. -/
abbrev MEM_FLIP_MASK.COUNT : Field := ⟨.MEM_FLIP_MASK, 111, 96⟩
/-- Bits [71:0], RW. -/
abbrev MEM_FLIP_MASK.MASK : Field := ⟨.MEM_FLIP_MASK, 71, 0⟩
/-- Bits [31:31], RW. -/
abbrev MEM_FLIP_ADDR.ANY : Field := ⟨.MEM_FLIP_ADDR, 31, 31⟩
/-- Bits [27:0], RW. -/
abbrev MEM_FLIP_ADDR.OFFSET : Field := ⟨.MEM_FLIP_ADDR, 27, 0⟩
/-- Bits [52:48], RO. -/
abbrev MEM_LAST_POISON.REGION : Field := ⟨.MEM_LAST_POISON, 52, 48⟩
/-- Bits [44:44], RO. -/
abbrev MEM_LAST_POISON.KIND : Field := ⟨.MEM_LAST_POISON, 44, 44⟩
/-- Bits [27:0], RO. -/
abbrev MEM_LAST_POISON.OFFSET : Field := ⟨.MEM_LAST_POISON, 27, 0⟩
/-- Bits [31:0], RO. -/
abbrev MEM_POISON_CNT.COUNT : Field := ⟨.MEM_POISON_CNT, 31, 0⟩
/-- Bits [31:31], RW. -/
abbrev MEM_SCRUB_CFG.SCRUB_EN : Field := ⟨.MEM_SCRUB_CFG, 31, 31⟩
/-- Bits [15:0], RW. -/
abbrev MEM_SCRUB_CFG.PERIOD : Field := ⟨.MEM_SCRUB_CFG, 15, 0⟩
/-- Bits [31:0], RO. -/
abbrev MEM_SCRUB_LAP.LAP : Field := ⟨.MEM_SCRUB_LAP, 31, 0⟩
/-- Bits [31:0], RO. -/
abbrev MEM_LAP_COUNT.COUNT : Field := ⟨.MEM_LAP_COUNT, 31, 0⟩
/-- Bits [15:8], RO. -/
abbrev MEM_SPARE.LEFT : Field := ⟨.MEM_SPARE, 15, 8⟩
/-- Bits [7:0], RO. -/
abbrev MEM_SPARE.RETIRED : Field := ⟨.MEM_SPARE, 7, 0⟩
/-- Bits [31:0], RO. -/
abbrev MEM_CORR.COUNT : Field := ⟨.MEM_CORR, 31, 0⟩
/-- Bits [31:0], RO. -/
abbrev MEM_REPAIR.COUNT : Field := ⟨.MEM_REPAIR, 31, 0⟩
/-- Bits [31:0], RO. -/
abbrev MEM_POISON.COUNT : Field := ⟨.MEM_POISON, 31, 0⟩
/-- Bits [31:0], RW. -/
abbrev DMA_SRC.ADDR : Field := ⟨.DMA_SRC, 31, 0⟩
/-- Bits [31:0], RW. -/
abbrev DMA_DST.ADDR : Field := ⟨.DMA_DST, 31, 0⟩
/-- Bits [23:0], RW. -/
abbrev DMA_CNT.CNT : Field := ⟨.DMA_CNT, 23, 0⟩
/-- Bits [31:31], WO. -/
abbrev DMA_CTRL.GO : Field := ⟨.DMA_CTRL, 31, 31⟩
/-- Bits [30:30], WO. -/
abbrev DMA_CTRL.ABORT : Field := ⟨.DMA_CTRL, 30, 30⟩
/-- Bits [29:28], RW. -/
abbrev DMA_CTRL.MODE : Field := ⟨.DMA_CTRL, 29, 28⟩
/-- Bits [27:26], RW. -/
abbrev DMA_CTRL.PRIO : Field := ⟨.DMA_CTRL, 27, 26⟩
/-- Bits [25:25], RW. -/
abbrev DMA_CTRL.TEST : Field := ⟨.DMA_CTRL, 25, 25⟩
/-- Bits [24:24], RW. -/
abbrev DMA_CTRL.CQ : Field := ⟨.DMA_CTRL, 24, 24⟩
/-- Bits [23:20], RO. -/
abbrev DMA_CTRL.REQ : Field := ⟨.DMA_CTRL, 23, 20⟩
/-- Bits [19:16], RW. -/
abbrev DMA_CTRL.BURST : Field := ⟨.DMA_CTRL, 19, 16⟩
/-- Bits [63:0], RW. -/
abbrev DMA_FILL.FILL : Field := ⟨.DMA_FILL, 63, 0⟩
/-- Bits [31:28], RO. -/
abbrev DMA_STATUS.STATE : Field := ⟨.DMA_STATUS, 31, 28⟩
/-- Bits [23:0], RO. -/
abbrev DMA_STATUS.REMAIN : Field := ⟨.DMA_STATUS, 23, 0⟩
/-- Bits [31:0], RO. -/
abbrev DMA_PREEMPT.COUNT : Field := ⟨.DMA_PREEMPT, 31, 0⟩
/-- Bits [7:0], RO. -/
abbrev DMA_CQ_WR.IDX : Field := ⟨.DMA_CQ_WR, 7, 0⟩
/-- Bits [7:0], RW. -/
abbrev DMA_CQ_RD.IDX : Field := ⟨.DMA_CQ_RD, 7, 0⟩
/-- Bits [31:0], RO. -/
abbrev DMA_CQ_WAITS.COUNT : Field := ⟨.DMA_CQ_WAITS, 31, 0⟩
/-- Bits [31:0], RO. -/
abbrev DMA_CQ_REC.WORD : Field := ⟨.DMA_CQ_REC, 31, 0⟩
/-- Bits [0:0], WO. -/
abbrev EVL_CTRL.CLEAR_KEPT : Field := ⟨.EVL_CTRL, 0, 0⟩
/-- Bits [49:32], RO. -/
abbrev EVL_HEAD_SEQ.OFFSET : Field := ⟨.EVL_HEAD_SEQ, 49, 32⟩
/-- Bits [31:0], RO. -/
abbrev EVL_HEAD_SEQ.SEQ : Field := ⟨.EVL_HEAD_SEQ, 31, 0⟩
/-- Bits [49:32], RO. -/
abbrev EVL_OLDEST_SEQ.OFFSET : Field := ⟨.EVL_OLDEST_SEQ, 49, 32⟩
/-- Bits [31:0], RO. -/
abbrev EVL_OLDEST_SEQ.SEQ : Field := ⟨.EVL_OLDEST_SEQ, 31, 0⟩
/-- Bits [31:31], RO. -/
abbrev EVL_FIRST_FULL.FULL : Field := ⟨.EVL_FIRST_FULL, 31, 31⟩
/-- Bits [15:0], RO. -/
abbrev EVL_FIRST_FULL.USED : Field := ⟨.EVL_FIRST_FULL, 15, 0⟩
/-- Bits [63:32], RO. -/
abbrev EVL_FIRST_RANGE.LAST : Field := ⟨.EVL_FIRST_RANGE, 63, 32⟩
/-- Bits [31:0], RO. -/
abbrev EVL_FIRST_RANGE.FIRST : Field := ⟨.EVL_FIRST_RANGE, 31, 0⟩
/-- Bits [31:0], RO. -/
abbrev EVL_DROPPED.COUNT : Field := ⟨.EVL_DROPPED, 31, 0⟩
/-- Bits [31:0], RO. -/
abbrev EVL_WRITTEN.COUNT : Field := ⟨.EVL_WRITTEN, 31, 0⟩
/-- Bits [31:0], RO. -/
abbrev EVL_READ_DENIED.COUNT : Field := ⟨.EVL_READ_DENIED, 31, 0⟩
/-- Bits [31:31], RW. -/
abbrev PMC_CTL.EN : Field := ⟨.PMC_CTL, 31, 31⟩
/-- Bits [30:29], RW. -/
abbrev PMC_CTL.MODE : Field := ⟨.PMC_CTL, 30, 29⟩
/-- Bits [28:28], RW. -/
abbrev PMC_CTL.WINDOWED : Field := ⟨.PMC_CTL, 28, 28⟩
/-- Bits [27:27], RW. -/
abbrev PMC_CTL.SAMPLE : Field := ⟨.PMC_CTL, 27, 27⟩
/-- Bits [23:16], RW. -/
abbrev PMC_CTL.SRC : Field := ⟨.PMC_CTL, 23, 16⟩
/-- Bits [15:8], RW. -/
abbrev PMC_CTL.SEL : Field := ⟨.PMC_CTL, 15, 8⟩
/-- Bits [7:0], RW. -/
abbrev PMC_CTL.INST : Field := ⟨.PMC_CTL, 7, 0⟩
/-- Bits [31:0], RW. -/
abbrev PMC_THRESH.N : Field := ⟨.PMC_THRESH, 31, 0⟩
/-- Bits [47:0], RO. -/
abbrev PMC_VALUE.COUNT : Field := ⟨.PMC_VALUE, 47, 0⟩
/-- Bits [47:0], RW. -/
abbrev PMC_PRESET.PRESET : Field := ⟨.PMC_PRESET, 47, 0⟩
/-- Bits [63:63], RO. -/
abbrev PMC_WIN.VALID : Field := ⟨.PMC_WIN, 63, 63⟩
/-- Bits [62:62], RO. -/
abbrev PMC_WIN.STEPPED : Field := ⟨.PMC_WIN, 62, 62⟩
/-- Bits [47:0], RO. -/
abbrev PMC_WIN.COUNT : Field := ⟨.PMC_WIN, 47, 0⟩
/-- Bits [0:0], RW. -/
abbrev PMC_USER_EN.EN : Field := ⟨.PMC_USER_EN, 0, 0⟩
/-- Bits [31:31], RW. -/
abbrev PMC_GLOBAL.FREEZE : Field := ⟨.PMC_GLOBAL, 31, 31⟩
/-- Bits [30:30], WO. -/
abbrev PMC_GLOBAL.SNAP : Field := ⟨.PMC_GLOBAL, 30, 30⟩
/-- Bits [29:29], RW. -/
abbrev PMC_GLOBAL.HOLD : Field := ⟨.PMC_GLOBAL, 29, 29⟩
/-- Bits [19:0], RW. -/
abbrev PMC_GLOBAL.WIN : Field := ⟨.PMC_GLOBAL, 19, 0⟩
/-- Bits [6:0], RW. -/
abbrev PMC_SAMPLE_LIST.C0 : Field := ⟨.PMC_SAMPLE_LIST, 6, 0⟩
/-- Bits [14:8], RW. -/
abbrev PMC_SAMPLE_LIST.C1 : Field := ⟨.PMC_SAMPLE_LIST, 14, 8⟩
/-- Bits [22:16], RW. -/
abbrev PMC_SAMPLE_LIST.C2 : Field := ⟨.PMC_SAMPLE_LIST, 22, 16⟩
/-- Bits [30:24], RW. -/
abbrev PMC_SAMPLE_LIST.C3 : Field := ⟨.PMC_SAMPLE_LIST, 30, 24⟩
/-- Bits [38:32], RW. -/
abbrev PMC_SAMPLE_LIST.C4 : Field := ⟨.PMC_SAMPLE_LIST, 38, 32⟩
/-- Bits [46:40], RW. -/
abbrev PMC_SAMPLE_LIST.C5 : Field := ⟨.PMC_SAMPLE_LIST, 46, 40⟩
/-- Bits [54:48], RW. -/
abbrev PMC_SAMPLE_LIST.C6 : Field := ⟨.PMC_SAMPLE_LIST, 54, 48⟩
/-- Bits [62:56], RW. -/
abbrev PMC_SAMPLE_LIST.C7 : Field := ⟨.PMC_SAMPLE_LIST, 62, 56⟩
/-- Bits [15:0], RW. -/
abbrev PMC_SAMPLE_MIN.MIN : Field := ⟨.PMC_SAMPLE_MIN, 15, 0⟩
/-- Bits [31:0], RO. -/
abbrev PMC_SAMPLE_DROP.COUNT : Field := ⟨.PMC_SAMPLE_DROP, 31, 0⟩
/-- Bits [31:28], RO. -/
abbrev BST_RESULT.RUN : Field := ⟨.BST_RESULT, 31, 28⟩
/-- Bits [27:24], RO. -/
abbrev BST_RESULT.OUTCOME : Field := ⟨.BST_RESULT, 27, 24⟩
/-- Bits [15:0], RO. -/
abbrev BST_RESULT.FAIL_MASK : Field := ⟨.BST_RESULT, 15, 0⟩
/-- Bits [31:31], RW. -/
abbrev BST_CTRL.IS_EN : Field := ⟨.BST_CTRL, 31, 31⟩
/-- Bits [15:8], RW. -/
abbrev BST_CTRL.SWEEP : Field := ⟨.BST_CTRL, 15, 8⟩
/-- Bits [7:0], RW. -/
abbrev BST_CTRL.ABORT_MAX : Field := ⟨.BST_CTRL, 7, 0⟩
/-- Bits [31:31], WO. -/
abbrev BST_UNFENCE.GO : Field := ⟨.BST_UNFENCE, 31, 31⟩
/-- Bits [30:28], RW. -/
abbrev BST_UNFENCE.GROUP : Field := ⟨.BST_UNFENCE, 30, 28⟩
/-- Bits [27:26], RW. -/
abbrev BST_UNFENCE.KIND : Field := ⟨.BST_UNFENCE, 27, 26⟩
/-- Bits [3:0], RW. -/
abbrev BST_UNFENCE.INDEX : Field := ⟨.BST_UNFENCE, 3, 0⟩
/-- Bits [63:32], RO. -/
abbrev BST_PART.SIGNATURE : Field := ⟨.BST_PART, 63, 32⟩
/-- Bits [31:28], RO. -/
abbrev BST_PART.RESULT : Field := ⟨.BST_PART, 31, 28⟩
/-- Bits [27:0], RO. -/
abbrev BST_PART.PATTERNS : Field := ⟨.BST_PART, 27, 0⟩
/-- Bits [31:28], RO. -/
abbrev BST_IS_STATUS.RESULT : Field := ⟨.BST_IS_STATUS, 31, 28⟩
/-- Bits [27:26], RO. -/
abbrev BST_IS_STATUS.KIND : Field := ⟨.BST_IS_STATUS, 27, 26⟩
/-- Bits [25:22], RO. -/
abbrev BST_IS_STATUS.INDEX : Field := ⟨.BST_IS_STATUS, 25, 22⟩
/-- Bits [15:0], RO. -/
abbrev BST_IS_STATUS.SWEEPS : Field := ⟨.BST_IS_STATUS, 15, 0⟩
/-- Bits [13:0], RO. -/
abbrev BST_DEC_STATE.STATES : Field := ⟨.BST_DEC_STATE, 13, 0⟩
/-- Bits [31:0], RO. -/
abbrev BST_IS_RUN.COUNT : Field := ⟨.BST_IS_RUN, 31, 0⟩
/-- Bits [31:0], RO. -/
abbrev BST_IS_ABORT.COUNT : Field := ⟨.BST_IS_ABORT, 31, 0⟩
/-- Bits [31:0], RO. -/
abbrev BST_IS_FAIL.COUNT : Field := ⟨.BST_IS_FAIL, 31, 0⟩
/-- Bits [31:0], RO. -/
abbrev BST_IS_SKIP.COUNT : Field := ⟨.BST_IS_SKIP, 31, 0⟩

end Sys2Proof.Machine
end

