-- ==== Sys2Proof/Machine/Codes.lean ====
section
/-! DEFINITION. The codes the spec gives the states, causes, results and record types that registers and records hold. -/
namespace Sys2Proof.Machine

/-! Acquisition states, Table 3-2. -/
abbrev Lrx.DISABLED : Nat := 0x0
abbrev Lrx.SQUELCHED : Nat := 0x1
abbrev Lrx.ADC_CAL : Nat := 0x2
abbrev Lrx.AGC : Nat := 0x3
abbrev Lrx.TIMING : Nat := 0x4
abbrev Lrx.PILOT_SEARCH : Nat := 0x5
abbrev Lrx.FRAME_CANDIDATE : Nat := 0x6
abbrev Lrx.EQ_TRAIN : Nat := 0x7
abbrev Lrx.OAM_VERIFY : Nat := 0x8
abbrev Lrx.LOCKED : Nat := 0x9
abbrev Lrx.FAILED : Nat := 0xA
abbrev Lrx.ALIGN : Nat := 0xB

/-! Loss-of-lock causes of a line lane, Table 3-4. -/
abbrev Loss.NONE : Nat := 0x0
abbrev Loss.LOS : Nat := 0x1
abbrev Loss.POWER_STEP : Nat := 0x2
abbrev Loss.FRAME_LOSS : Nat := 0x3
abbrev Loss.OAM_LOSS : Nat := 0x4
abbrev Loss.MF_LOSS : Nat := 0x5
abbrev Loss.TIMING : Nat := 0x6
abbrev Loss.DECODER_LOSS : Nat := 0x7
abbrev Loss.CLOCK : Nat := 0x8
abbrev Loss.DISABLED : Nat := 0x9
abbrev Loss.REBUILD : Nat := 0xA
abbrev Loss.CAL_FAIL : Nat := 0xB

/-! Detectors, Table 4-2; adaptation phases, Table 4-4 and `EQP_STATUS_n.PHASE`. -/
abbrev Det.MLSE16 : Nat := 0
abbrev Det.DFE1 : Nat := 1
abbrev Det.MLSE64 : Nat := 2
abbrev Phase.PILOT : Nat := 0
abbrev Phase.TRAIN : Nat := 1
abbrev Phase.TRACK : Nat := 2
abbrev Phase.HELD : Nat := 3

/-! States of a slice, R118; of an inner decoder, `BST_DEC_STATE_g`; of an MLSE unit, `EQP_POOL_g`. -/
abbrev Slice.FREE : Nat := 0
abbrev Slice.ALLOCATED : Nat := 1
abbrev Slice.UNDER_TEST : Nat := 2
abbrev Slice.FENCED : Nat := 3
abbrev Decoder.IN_SERVICE : Nat := 0
abbrev Decoder.SPARE : Nat := 1
abbrev Decoder.UNDER_TEST : Nat := 2
abbrev Decoder.FENCED : Nat := 3

/-! Pool operations, Table 4-5, and their results, `EQP_OP_STATUS_g.RESULT`. -/
abbrev Pool.MIGRATE : Nat := 1
abbrev Pool.ADD : Nat := 2
abbrev Pool.REMOVE : Nat := 3
abbrev Pool.FUSE : Nat := 4
abbrev Pool.UNFUSE : Nat := 5
abbrev Pool.TO_DFE : Nat := 6
abbrev Pool.TO_MLSE : Nat := 7
abbrev PoolResult.OK : Nat := 0
abbrev PoolResult.BUSY : Nat := 1
abbrev PoolResult.RANGE : Nat := 2
abbrev PoolResult.NO_SPARE : Nat := 3
abbrev PoolResult.AUDIT_HOLD : Nat := 4
abbrev PoolResult.MISMATCH : Nat := 5
abbrev PoolResult.ABORTED : Nat := 6

/-! Transmit states, Table 5-2; squelch causes, Table 5-3 (bit numbers); results, Table 5-6. -/
abbrev Ltx.DISABLED : Nat := 0
abbrev Ltx.PENDING : Nat := 1
abbrev Ltx.STARTING : Nat := 2
abbrev Ltx.SQUELCHED : Nat := 3
abbrev Ltx.ACTIVE : Nat := 4
abbrev Squelch.SW : Nat := 0
abbrev Squelch.TXDIS : Nat := 1
abbrev Squelch.CMIS : Nat := 2
abbrev Squelch.CLOCK : Nat := 3
abbrev Squelch.THERMAL : Nat := 4
abbrev Squelch.DRIVER : Nat := 5
abbrev LtxResult.OK : Nat := 0
abbrev LtxResult.PLL_TIMEOUT : Nat := 1
abbrev LtxResult.DRV_FAIL : Nat := 2
abbrev LtxResult.IN_STRIPE : Nat := 3
abbrev LtxResult.RANGE : Nat := 4
abbrev LtxResult.BUSY : Nat := 5

/-! Results of a software transaction on a group's port, `LRX_TIA_STATUS_g.RESULT`. -/
abbrev PortResult.OK : Nat := 0
abbrev PortResult.NACK : Nat := 1
abbrev PortResult.OWNED : Nat := 2
abbrev PortResult.TIMEOUT : Nat := 3

/-! OAM word types, Table 2-5. -/
abbrev Oam.IDLE : Nat := 0
abbrev Oam.TIME : Nat := 1
abbrev Oam.CAUSEWAY : Nat := 2
abbrev Oam.NACK : Nat := 3
abbrev Oam.CREDIT : Nat := 4
abbrev Oam.LANE_STATUS : Nat := 5

/-! Time quality, R12. -/
abbrev Quality.LOCKED : Nat := 0
abbrev Quality.HOLDOVER : Nat := 1
abbrev Quality.ESTIMATED : Nat := 2
abbrev Quality.LOST : Nat := 3

/-! Group states, `HRN_GROUP_STATE_g.STATE`; service modes, Table 9-3; load states, `HRN_STATUS.STATE`. -/
abbrev Group.NONE : Nat := 0
abbrev Group.OPEN : Nat := 1
abbrev Group.PENDING : Nat := 2
abbrev Group.QUIESCING : Nat := 3
abbrev Group.REBUILDING : Nat := 4
abbrev Group.FAILED : Nat := 5
abbrev Svc.TRANSPARENT : Nat := 0
abbrev Svc.ETHERNET : Nat := 1
abbrev Svc.CINCH : Nat := 2

/-! Alert classes, Table 10-2 (bit numbers). -/
abbrev Alert.THERMAL : Nat := 0
abbrev Alert.LANE : Nat := 1
abbrev Alert.AUDIT : Nat := 2
abbrev Alert.MEMORY : Nat := 3
abbrev Alert.POWER : Nat := 4
abbrev Alert.IMAGE : Nat := 5
abbrev Alert.CLOCK : Nat := 6
abbrev Alert.SECURITY : Nat := 7
abbrev Alert.CMIS : Nat := 8
abbrev Alert.SPECTRUM : Nat := 9

/-! Subjects of records, R419. -/
abbrev Subj.DEVICE : Nat := 0x00
abbrev Subj.LINE_LANE : Nat := 0x01
abbrev Subj.GROUP : Nat := 0x02
abbrev Subj.HOST_LANE : Nat := 0x03
abbrev Subj.PORT : Nat := 0x04
abbrev Subj.CHANNEL : Nat := 0x05
abbrev Subj.REGION : Nat := 0x06
abbrev Subj.DMA_CHANNEL : Nat := 0x07
abbrev Subj.TSK_RULE : Nat := 0x08
abbrev Subj.SENSOR : Nat := 0x09
abbrev Subj.DAC : Nat := 0x0A
abbrev Subj.CAL_ITEM : Nat := 0x0B
abbrev Subj.COUNTER : Nat := 0x0C
abbrev Subj.ALERT_CLASS : Nat := 0x0D
abbrev Subj.REGISTER : Nat := 0x0E

/-! Record types, Table 15-2. -/
abbrev Evt.PAD : Nat := 0x0000
abbrev Evt.BOOT : Nat := 0x0001
abbrev Evt.DROPPED : Nat := 0x0002
abbrev Evt.KEPT_CLEARED : Nat := 0x0003
abbrev Evt.ACCESS_VIOL : Nat := 0x0004
abbrev Evt.REG_REJECT : Nat := 0x0005
abbrev Evt.LRX_LOCK : Nat := 0x0101
abbrev Evt.LRX_LOL : Nat := 0x0102
abbrev Evt.LRX_PSTEP : Nat := 0x0103
abbrev Evt.LRX_FAILED : Nat := 0x0104
abbrev Evt.LRX_ACQ : Nat := 0x0105
abbrev Evt.EQP_OP : Nat := 0x0201
abbrev Evt.EQP_REDUCE : Nat := 0x0202
abbrev Evt.EQP_AUDIT : Nat := 0x0203
abbrev Evt.EQP_CLOSE : Nat := 0x0204
abbrev Evt.LFEC_CLOSE : Nat := 0x0301
abbrev Evt.LFEC_AUDIT : Nat := 0x0302
abbrev Evt.LFEC_STATE : Nat := 0x0303
abbrev Evt.LTX_EVENT : Nat := 0x0401
abbrev Evt.HSI_EVENT : Nat := 0x0501
abbrev Evt.HPM_PORT : Nat := 0x0502
abbrev Evt.CIN_DISCARD : Nat := 0x0601
abbrev Evt.CIN_AUDIT : Nat := 0x0602
abbrev Evt.CIN_CLOSE : Nat := 0x0603
abbrev Evt.CIN_LANE : Nat := 0x0604
abbrev Evt.TMB_STEP : Nat := 0x0701
abbrev Evt.TMB_LANE : Nat := 0x0702
abbrev Evt.TMB_EPOCH : Nat := 0x0703
abbrev Evt.HRN_LOAD : Nat := 0x0801
abbrev Evt.HRN_GROUP : Nat := 0x0802
abbrev Evt.SEC_EVENT : Nat := 0x0901
abbrev Evt.PWR_WAKE : Nat := 0x0A01
abbrev Evt.PWR_SUPPLY : Nat := 0x0A02
abbrev Evt.TSK_RULE : Nat := 0x0A03
abbrev Evt.CAL_RUN : Nat := 0x0B01
abbrev Evt.HKA_DAC : Nat := 0x0B02
abbrev Evt.MEM_FAULT : Nat := 0x0C01
abbrev Evt.DMA_EVENT : Nat := 0x0C02
abbrev Evt.THM_EVENT : Nat := 0x0D01
abbrev Evt.BST_RESULT : Nat := 0x0D02
abbrev Evt.PMC_SAMPLE : Nat := 0x0E01

end Sys2Proof.Machine
end

