-- ==== Sys2Proof/Machine/RegTable.lean ====
section
/-! DEFINITION. The register tables of spec/00 to spec/17: address, indices, width, writing role, and each field's bits,
access code and reset value. A field whose table says "From image" stands at 0 before an image is loaded (DESIGN CHOICE,
log entry 3). -/
namespace Sys2Proof.Machine

/-- The row of each register in its chapter's tables. -/
def Reg.desc : Reg → RegDesc
  | .GLB_ID => ⟨0x00000000, [], 32, .none_,
      [⟨31, 16, .ro, 0x6416⟩, ⟨15, 8, .ro, 0xa1⟩, ⟨7, 0, .ro, 0x5a⟩]⟩
  | .GLB_PARAM => ⟨0x00000004, [], 32, .none_,
      [⟨31, 24, .ro, 0x20⟩, ⟨23, 16, .ro, 0x10⟩, ⟨15, 8, .ro, 0x10⟩, ⟨7, 4, .ro, 0xd⟩, ⟨3, 0, .ro, 1⟩]⟩
  | .GLB_STATE => ⟨0x00000008, [], 32, .none_,
      [⟨31, 28, .ro, 0⟩, ⟨27, 24, .ro, 0⟩, ⟨23, 23, .ro, 0⟩, ⟨22, 22, .ro, 0⟩, ⟨21, 21, .ro, 0⟩]⟩
  | .GLB_FENCE => ⟨0x0000000C, [], 32, .none_,
      [⟨31, 31, .ro, 0⟩, ⟨23, 16, .ro, 0⟩, ⟨15, 8, .ro, 0⟩, ⟨7, 0, .ro, 0⟩]⟩
  | .GLB_RESET => ⟨0x00000010, [], 32, .admin,
      [⟨31, 0, .wo, 0⟩]⟩
  | .PWR_STATE => ⟨0x00010000, [], 32, .none_,
      [⟨31, 28, .ro, 0⟩, ⟨27, 24, .ro, 0⟩, ⟨23, 23, .ro, 0⟩, ⟨22, 22, .ro, 0⟩]⟩
  | .PWR_CTRL => ⟨0x00010004, [], 32, .operator,
      [⟨31, 28, .wo, 0⟩, ⟨27, 16, .rws, 0⟩, ⟨9, 9, .rws, 0⟩, ⟨8, 8, .rws, 1⟩]⟩
  | .PWR_WAKE_LANES => ⟨0x00010008, [], 32, .operator,
      [⟨31, 0, .rws, 0⟩]⟩
  | .PWR_WAKE_SRC => ⟨0x00010010, [], 32, .none_,
      [⟨31, 28, .ro, 0⟩, ⟨27, 27, .ro, 0⟩, ⟨26, 24, .ro, 0⟩, ⟨23, 22, .ro, 0⟩, ⟨21, 20, .ro, 0⟩, ⟨19, 15, .ro, 0⟩, ⟨14, 13, .ro, 3⟩, ⟨12, 8, .ro, 0⟩]⟩
  | .PWR_WAKE_TIME => ⟨0x00010018, [], 96, .none_,
      [⟨95, 0, .ro, 0⟩]⟩
  | .PWR_STAGE_TIME => ⟨0x00010028, [], 64, .none_,
      [⟨63, 48, .ro, 0⟩, ⟨47, 32, .ro, 0⟩, ⟨31, 16, .ro, 0⟩, ⟨15, 0, .ro, 0⟩]⟩
  | .PWR_WAKE_COUNT => ⟨0x00010030, [], 32, .none_,
      [⟨31, 16, .ro, 0⟩, ⟨15, 0, .ro, 0⟩]⟩
  | .PWR_SUPPLY => ⟨0x00010040, [], 32, .none_,
      [⟨22, 16, .ro, 0⟩, ⟨6, 0, .ro, 0⟩]⟩
  | .TSK_CTRL => ⟨0x00018000, [], 32, .operator,
      [⟨31, 31, .rw, 0⟩, ⟨2, 0, .rw, 0⟩]⟩
  | .TSK_ACTIVE => ⟨0x00018010, [], 32, .none_,
      [⟨31, 0, .ro, 0⟩]⟩
  | .TSK_IN_CFG => ⟨0x00018100, [(32, 0x4)], 32, .operator,
      [⟨31, 31, .rw, 0⟩, ⟨3, 0, .rw, 0⟩]⟩
  | .TSK_VALUE => ⟨0x00018200, [(32, 0x4)], 32, .none_,
      [⟨27, 16, .ro, 0⟩, ⟨11, 0, .ro, 0⟩]⟩
  | .TSK_RULE => ⟨0x00018400, [(32, 0x8)], 64, .operator,
      [⟨63, 63, .rw, 0⟩, ⟨62, 60, .rw, 0⟩, ⟨59, 56, .rw, 0⟩, ⟨55, 51, .rw, 0⟩, ⟨50, 48, .rw, 0⟩, ⟨47, 40, .rw, 1⟩, ⟨39, 28, .rw, 0⟩, ⟨27, 16, .rw, 0⟩, ⟨15, 0, .rw, 0⟩]⟩
  | .TSK_HITS => ⟨0x00018600, [(32, 0x4)], 32, .none_,
      [⟨31, 0, .ro, 0⟩]⟩
  | .CLK_STATUS => ⟨0x00020000, [], 32, .none_,
      [⟨31, 31, .ro, 0⟩, ⟨30, 30, .ro, 0⟩, ⟨19, 16, .ro, 0⟩, ⟨15, 8, .ro, 0⟩, ⟨7, 0, .ro, 0⟩]⟩
  | .CLK_REF_LOSS => ⟨0x00020004, [], 32, .none_,
      [⟨31, 0, .ro, 0⟩]⟩
  | .CLK_LINE => ⟨0x00020100, [(8, 0x4)], 32, .none_,
      [⟨31, 28, .ro, 0⟩, ⟨23, 16, .ro, 0⟩, ⟨15, 0, .ro, 0⟩]⟩
  | .CLK_HOST => ⟨0x00020140, [(4, 0x4)], 32, .none_,
      [⟨31, 28, .ro, 0⟩, ⟨23, 16, .ro, 0⟩, ⟨15, 0, .ro, 0⟩]⟩
  | .TMB_NOW => ⟨0x00040000, [], 96, .none_,
      [⟨95, 48, .ro, 0⟩, ⟨47, 16, .ro, 0⟩, ⟨15, 0, .ro, 0⟩]⟩
  | .TMB_QUALITY => ⟨0x0004000C, [], 32, .operator,
      [⟨31, 16, .ro, 0⟩, ⟨15, 10, .ro, 0⟩, ⟨9, 9, .w1c, 0⟩, ⟨8, 4, .ro, 0x1f⟩, ⟨3, 3, .ro, 0⟩, ⟨1, 0, .ro, 3⟩]⟩
  | .TMB_ERR_BOUND => ⟨0x00040010, [], 64, .none_,
      [⟨63, 63, .ro, 1⟩, ⟨62, 0, .ro, 0⟩]⟩
  | .TMB_NODE_ID => ⟨0x00040018, [], 32, .operator,
      [⟨15, 0, .rw, 0⟩]⟩
  | .TMB_SRC_CFG => ⟨0x0004001C, [], 32, .operator,
      [⟨31, 24, .rw, 0⟩, ⟨23, 22, .rw, 0⟩, ⟨21, 21, .rw, 0⟩, ⟨17, 16, .rw, 1⟩, ⟨15, 8, .rw, 0xa⟩, ⟨7, 0, .rw, 2⟩]⟩
  | .TMB_RATE => ⟨0x00040020, [], 32, .none_,
      [⟨31, 0, .ro, 0⟩]⟩
  | .TMB_HOLD_CFG => ⟨0x00040024, [], 32, .operator,
      [⟨31, 16, .rw, 0x32⟩, ⟨15, 0, .rw, 0x64⟩]⟩
  | .TMB_SET => ⟨0x00040030, [], 128, .operator,
      [⟨127, 96, .rw, 0⟩, ⟨95, 0, .rw, 0⟩]⟩
  | .TMB_STATUS => ⟨0x00040040, [], 32, .none_,
      [⟨31, 28, .ro, 0⟩, ⟨0, 0, .ro, 0⟩]⟩
  | .TMB_ASYM_CAL => ⟨0x00040044, [], 32, .operator,
      [⟨31, 31, .wo, 0⟩, ⟨28, 24, .rw, 0⟩, ⟨23, 14, .rw, 0⟩, ⟨13, 0, .rw, 0⟩]⟩
  | .TMB_SLEEP_ENTRY => ⟨0x00040050, [], 96, .none_,
      [⟨95, 0, .ro, 0⟩]⟩
  | .TMB_SLEEP_ELAPSED => ⟨0x00040060, [], 64, .none_,
      [⟨63, 0, .ro, 0⟩]⟩
  | .TMB_SLEEP_INFO => ⟨0x00040068, [], 32, .none_,
      [⟨2, 2, .ro, 0⟩, ⟨1, 0, .ro, 0⟩]⟩
  | .TMB_PPS_CFG => ⟨0x00040080, [], 32, .operator,
      [⟨31, 31, .rw, 0⟩, ⟨30, 29, .rw, 0⟩, ⟨28, 28, .rw, 0⟩, ⟨27, 26, .rw, 0⟩, ⟨18, 0, .rw, 0x186a0⟩]⟩
  | .TMB_PPS_OUT_OFS => ⟨0x00040084, [], 32, .operator,
      [⟨31, 0, .rw, 0⟩]⟩
  | .TMB_PPS_IN_DLY => ⟨0x00040088, [], 32, .operator,
      [⟨31, 0, .rw, 0⟩]⟩
  | .TMB_PPS_UNC => ⟨0x0004008C, [], 32, .operator,
      [⟨31, 0, .rw, 0⟩]⟩
  | .TMB_PPS_SEC => ⟨0x00040090, [], 64, .operator,
      [⟨48, 48, .rw, 0⟩, ⟨47, 0, .rw, 0⟩]⟩
  | .TMB_PPS_IN_TS => ⟨0x000400A0, [], 96, .none_,
      [⟨95, 0, .ro, 0⟩]⟩
  | .TMB_PPS_IN_ERR => ⟨0x000400AC, [], 32, .none_,
      [⟨31, 0, .ro, 0⟩]⟩
  | .TMB_PPS_EDGES => ⟨0x000400B0, [], 32, .none_,
      [⟨31, 0, .ro, 0⟩]⟩
  | .TMB_PPS_OUTLIER => ⟨0x000400B4, [], 32, .none_,
      [⟨31, 0, .ro, 0⟩]⟩
  | .TMB_PPS_MISS => ⟨0x000400B8, [], 32, .none_,
      [⟨31, 0, .ro, 0⟩]⟩
  | .TMB_ASYM => ⟨0x00041000, [(16, 0x80)], 32, .operator,
      [⟨31, 0, .rw, 0⟩]⟩
  | .TMB_ASYM_UNC => ⟨0x00041004, [(16, 0x80)], 32, .operator,
      [⟨15, 0, .rw, 0⟩]⟩
  | .TMB_RTT => ⟨0x00041008, [(16, 0x80)], 64, .none_,
      [⟨63, 63, .ro, 0⟩, ⟨47, 0, .ro, 0⟩]⟩
  | .TMB_OFFSET => ⟨0x00041010, [(16, 0x80)], 64, .none_,
      [⟨63, 0, .ro, 0⟩]⟩
  | .TMB_LANE_STATUS => ⟨0x00041018, [(16, 0x80)], 32, .none_,
      [⟨31, 16, .ro, 0⟩, ⟨15, 8, .ro, 0⟩, ⟨7, 2, .ro, 0⟩, ⟨1, 0, .ro, 0⟩]⟩
  | .TMB_LANE_FLAGS => ⟨0x0004101C, [(16, 0x80)], 32, .none_,
      [⟨1, 1, .ro, 0⟩, ⟨0, 0, .ro, 0⟩]⟩
  | .TMB_FRAME_TX => ⟨0x00041020, [(16, 0x80)], 96, .none_,
      [⟨95, 0, .ro, 0⟩]⟩
  | .TMB_FRAME_RX => ⟨0x00041030, [(16, 0x80)], 96, .none_,
      [⟨95, 0, .ro, 0⟩]⟩
  | .TMB_TIME_RX => ⟨0x00041040, [(16, 0x80)], 32, .none_,
      [⟨31, 0, .ro, 0⟩]⟩
  | .TMB_SUB_RSVD => ⟨0x00041044, [(16, 0x80)], 32, .none_,
      [⟨31, 0, .ro, 0⟩]⟩
  | .TMB_EXCH => ⟨0x00041048, [(16, 0x80)], 32, .none_,
      [⟨31, 0, .ro, 0⟩]⟩
  | .TMB_OUTLIER => ⟨0x0004104C, [(16, 0x80)], 32, .none_,
      [⟨31, 0, .ro, 0⟩]⟩
  | .TMB_TC_CORR => ⟨0x00042000, [(32, 0x10)], 32, .none_,
      [⟨31, 0, .ro, 0⟩]⟩
  | .TMB_TC_SKIP => ⟨0x00042004, [(32, 0x10)], 32, .none_,
      [⟨31, 0, .ro, 0⟩]⟩
  | .TMB_TC_UNLOCK => ⟨0x00042008, [(32, 0x10)], 32, .none_,
      [⟨31, 0, .ro, 0⟩]⟩
  | .HRN_LOAD_CTRL => ⟨0x00080000, [], 32, .admin,
      [⟨31, 28, .wo, 0⟩, ⟨8, 8, .rw, 0⟩, ⟨7, 0, .rw, 0xa⟩]⟩
  | .HRN_LOAD_DATA => ⟨0x00080004, [], 32, .admin,
      [⟨31, 0, .wo, 0⟩]⟩
  | .HRN_STATUS => ⟨0x00080008, [], 32, .none_,
      [⟨31, 28, .ro, 0⟩, ⟨27, 24, .ro, 0⟩, ⟨23, 16, .ro, 0⟩, ⟨15, 0, .ro, 0xffff⟩]⟩
  | .HRN_LOAD_COUNT => ⟨0x0008000C, [], 32, .none_,
      [⟨31, 0, .ro, 0⟩]⟩
  | .HRN_IMAGE_INFO => ⟨0x00080010, [], 64, .none_,
      [⟨63, 32, .ro, 0⟩, ⟨31, 0, .ro, 0⟩]⟩
  | .HRN_LOAD_OK => ⟨0x00080018, [], 32, .none_,
      [⟨31, 0, .ro, 0⟩]⟩
  | .HRN_LOAD_REJ => ⟨0x0008001C, [], 32, .none_,
      [⟨31, 0, .ro, 0⟩]⟩
  | .HRN_IMAGE_HASH => ⟨0x00080040, [], 512, .none_,
      [⟨511, 0, .ro, 0⟩]⟩
  | .HRN_GROUP_STATE => ⟨0x00080100, [(8, 0x4)], 32, .none_,
      [⟨31, 28, .ro, 0⟩, ⟨27, 27, .ro, 0⟩, ⟨26, 25, .ro, 0⟩, ⟨24, 24, .ro, 0⟩, ⟨23, 16, .ro, 0⟩, ⟨15, 0, .ro, 0⟩]⟩
  | .LRX_CTRL => ⟨0x00100000, [(8, 0x10000), (2, 0x400)], 32, .operator,
      [⟨11, 10, .rw, 2⟩, ⟨9, 9, .rw, 1⟩, ⟨8, 8, .rw, 0⟩, ⟨7, 6, .rw, 0⟩, ⟨5, 5, .rw, 1⟩, ⟨2, 2, .wo, 0⟩, ⟨1, 1, .wo, 0⟩, ⟨0, 0, .rw, 0⟩]⟩
  | .LRX_STATUS => ⟨0x00100004, [(8, 0x10000), (2, 0x400)], 32, .none_,
      [⟨31, 28, .ro, 0⟩, ⟨27, 24, .ro, 0⟩, ⟨23, 20, .ro, 0⟩, ⟨19, 19, .ro, 0⟩, ⟨18, 18, .ro, 0⟩, ⟨17, 17, .ro, 0⟩, ⟨16, 16, .ro, 0⟩, ⟨4, 4, .ro, 0⟩, ⟨3, 0, .ro, 0⟩]⟩
  | .LRX_ACQ_CFG => ⟨0x00100008, [(8, 0x10000), (2, 0x400)], 32, .operator,
      [⟨31, 24, .rw, 0x66⟩, ⟨23, 16, .rw, 0x40⟩, ⟨15, 8, .rw, 0x30⟩]⟩
  | .LRX_AGC_CFG => ⟨0x0010000C, [(8, 0x10000), (2, 0x400)], 32, .operator,
      [⟨23, 16, .rw, 0x20⟩, ⟨7, 0, .rw, 8⟩]⟩
  | .LRX_AGC => ⟨0x00100010, [(8, 0x10000), (2, 0x400)], 32, .none_,
      [⟨31, 24, .ro, 0⟩, ⟨23, 16, .ro, 0⟩, ⟨15, 12, .ro, 0⟩, ⟨11, 0, .ro, 0⟩]⟩
  | .LRX_TR => ⟨0x00100014, [(8, 0x10000), (2, 0x400)], 32, .none_,
      [⟨31, 16, .ro, 0⟩, ⟨6, 0, .ro, 0⟩]⟩
  | .LRX_SNR => ⟨0x00100018, [(8, 0x10000), (2, 0x400)], 32, .none_,
      [⟨7, 0, .ro, 0⟩]⟩
  | .LRX_LOCK_SNAP => ⟨0x00100020, [(8, 0x10000), (2, 0x400)], 256, .none_,
      [⟨255, 160, .ro, 0⟩, ⟨159, 158, .ro, 0⟩, ⟨157, 157, .ro, 0⟩, ⟨156, 156, .ro, 0⟩, ⟨143, 128, .ro, 0⟩, ⟨127, 120, .ro, 0⟩, ⟨119, 112, .ro, 0⟩, ⟨111, 108, .ro, 0⟩, ⟨103, 88, .ro, 0⟩, ⟨87, 64, .ro, 0⟩, ⟨63, 48, .ro, 0⟩, ⟨47, 32, .ro, 0⟩, ⟨31, 0, .ro, 0⟩]⟩
  | .LRX_ACQ_COLD => ⟨0x00100040, [(8, 0x10000), (2, 0x400)], 32, .none_,
      [⟨31, 0, .ro, 0⟩]⟩
  | .LRX_ACQ_LOCK => ⟨0x00100044, [(8, 0x10000), (2, 0x400)], 32, .none_,
      [⟨31, 0, .ro, 0⟩]⟩
  | .LRX_FALSE_CAND => ⟨0x00100048, [(8, 0x10000), (2, 0x400)], 32, .none_,
      [⟨31, 0, .ro, 0⟩]⟩
  | .LRX_CAND_MISS => ⟨0x0010004C, [(8, 0x10000), (2, 0x400)], 32, .none_,
      [⟨31, 0, .ro, 0⟩]⟩
  | .LRX_PSTEP_PRE => ⟨0x00100050, [(8, 0x10000), (2, 0x400)], 32, .none_,
      [⟨31, 0, .ro, 0⟩]⟩
  | .LRX_PSTEP_LOCK => ⟨0x00100054, [(8, 0x10000), (2, 0x400)], 32, .none_,
      [⟨31, 0, .ro, 0⟩]⟩
  | .LRX_LOL => ⟨0x00100058, [(8, 0x10000), (2, 0x400)], 32, .none_,
      [⟨31, 0, .ro, 0⟩]⟩
  | .LRX_RESTART => ⟨0x0010005C, [(8, 0x10000), (2, 0x400)], 32, .none_,
      [⟨31, 0, .ro, 0⟩]⟩
  | .LRX_FAIL => ⟨0x00100060, [(8, 0x10000), (2, 0x400)], 32, .none_,
      [⟨31, 0, .ro, 0⟩]⟩
  | .LRX_CLIP => ⟨0x00100064, [(8, 0x10000), (2, 0x400)], 32, .none_,
      [⟨31, 0, .ro, 0⟩]⟩
  | .LRX_TIMEOUT => ⟨0x00100068, [(8, 0x10000), (2, 0x400)], 32, .none_,
      [⟨31, 0, .ro, 0⟩]⟩
  | .LRX_TIA_CFG => ⟨0x00100800, [(8, 0x10000)], 32, .operator,
      [⟨30, 24, .rw, 0⟩, ⟨22, 16, .rw, 0⟩, ⟨1, 0, .rw, 1⟩]⟩
  | .LRX_TIA_CMD => ⟨0x00100804, [(8, 0x10000)], 32, .operator,
      [⟨31, 31, .wo, 0⟩, ⟨30, 30, .rw, 0⟩, ⟨29, 29, .rw, 0⟩, ⟨23, 16, .rw, 0⟩, ⟨7, 0, .rw, 0⟩]⟩
  | .LRX_TIA_STATUS => ⟨0x00100808, [(8, 0x10000)], 32, .none_,
      [⟨31, 31, .ro, 0⟩, ⟨30, 28, .ro, 0⟩, ⟨7, 0, .ro, 0⟩]⟩
  | .EQP_CTRL => ⟨0x00104000, [(8, 0x10000), (2, 0x400)], 32, .operator,
      [⟨15, 12, .rw, 0⟩, ⟨11, 8, .rw, 0⟩, ⟨1, 1, .wo, 0⟩, ⟨0, 0, .rw, 0⟩]⟩
  | .EQP_ALLOC => ⟨0x00104004, [(8, 0x10000), (2, 0x400)], 32, .none_,
      [⟨31, 28, .ro, 0⟩, ⟨23, 16, .ro, 0⟩, ⟨15, 14, .ro, 0⟩, ⟨12, 0, .ro, 0⟩]⟩
  | .EQP_POS => ⟨0x00104008, [(8, 0x10000), (2, 0x400)], 64, .none_,
      [⟨39, 0, .ro, 0xffffffffff⟩]⟩
  | .EQP_STATUS => ⟨0x00104010, [(8, 0x10000), (2, 0x400)], 32, .none_,
      [⟨9, 6, .ro, 0⟩, ⟨5, 5, .ro, 0⟩, ⟨4, 4, .ro, 0⟩, ⟨1, 0, .ro, 3⟩]⟩
  | .EQP_POST => ⟨0x00104014, [(8, 0x10000), (2, 0x400)], 32, .none_,
      [⟨27, 16, .ro, 0⟩, ⟨11, 0, .ro, 0⟩]⟩
  | .EQP_TARGET => ⟨0x00104018, [(8, 0x10000), (2, 0x400)], 32, .none_,
      [⟨27, 16, .ro, 0⟩, ⟨11, 0, .ro, 0⟩]⟩
  | .EQP_SOFT => ⟨0x0010401C, [(8, 0x10000), (2, 0x400)], 32, .operator,
      [⟨7, 0, .rw, 0⟩]⟩
  | .EQP_QHIST => ⟨0x00104100, [(8, 0x10000), (2, 0x400), (16, 0x4)], 32, .none_,
      [⟨31, 0, .ro, 0⟩]⟩
  | .EQP_COEF => ⟨0x00104200, [(8, 0x10000), (2, 0x400), (80, 0x4)], 32, .operator,
      [⟨27, 16, .rw, 0⟩, ⟨11, 0, .rw, 0⟩]⟩
  | .EQP_POOL => ⟨0x00104800, [(8, 0x10000)], 32, .none_,
      [⟨31, 28, .ro, 0⟩, ⟨27, 24, .ro, 0xd⟩, ⟨23, 20, .ro, 0⟩, ⟨19, 16, .ro, 0⟩, ⟨5, 4, .ro, 0⟩, ⟨3, 2, .ro, 0⟩, ⟨1, 0, .ro, 0⟩]⟩
  | .EQP_SLICE_STATE => ⟨0x00104804, [(8, 0x10000)], 32, .none_,
      [⟨25, 0, .ro, 0⟩]⟩
  | .EQP_OP_CMD => ⟨0x00104808, [(8, 0x10000)], 32, .operator,
      [⟨31, 31, .wo, 0⟩, ⟨30, 28, .rw, 0⟩, ⟨27, 27, .rw, 0⟩, ⟨23, 20, .rw, 0⟩, ⟨19, 16, .rw, 0xf⟩]⟩
  | .EQP_OP_STATUS => ⟨0x0010480C, [(8, 0x10000)], 32, .none_,
      [⟨31, 31, .ro, 0⟩, ⟨30, 30, .ro, 0⟩, ⟨29, 27, .ro, 0⟩, ⟨23, 20, .ro, 0⟩]⟩
  | .EQP_AUDIT => ⟨0x00104810, [(8, 0x10000)], 32, .operator,
      [⟨31, 31, .ro, 0⟩, ⟨0, 0, .wo, 0⟩]⟩
  | .EQP_OP_OK => ⟨0x00104820, [(8, 0x10000)], 32, .none_,
      [⟨31, 0, .ro, 0⟩]⟩
  | .EQP_OP_FAIL => ⟨0x00104824, [(8, 0x10000)], 32, .none_,
      [⟨31, 0, .ro, 0⟩]⟩
  | .LFEC_CTRL => ⟨0x00108000, [(8, 0x10000), (2, 0x400)], 32, .operator,
      [⟨3, 3, .wo, 0⟩, ⟨2, 2, .wo, 0⟩, ⟨1, 1, .rw, 0⟩, ⟨0, 0, .wo, 0⟩]⟩
  | .LFEC_STATUS => ⟨0x00108004, [(8, 0x10000), (2, 0x400)], 32, .none_,
      [⟨31, 16, .ro, 0⟩, ⟨11, 10, .ro, 0⟩, ⟨9, 9, .ro, 0⟩, ⟨8, 8, .ro, 0⟩, ⟨7, 7, .ro, 0⟩, ⟨6, 6, .ro, 0⟩, ⟨5, 5, .ro, 0⟩, ⟨4, 4, .ro, 0⟩, ⟨3, 0, .ro, 0⟩]⟩
  | .LFEC_SD => ⟨0x00108008, [(8, 0x10000), (2, 0x400)], 32, .operator,
      [⟨31, 16, .rw, 0x9c4⟩, ⟨15, 0, .rw, 0x1388⟩]⟩
  | .LFEC_SF => ⟨0x0010800C, [(8, 0x10000), (2, 0x400)], 32, .operator,
      [⟨31, 16, .rw, 0⟩, ⟨15, 0, .rw, 0x40⟩]⟩
  | .LFEC_FAR_STATUS => ⟨0x00108010, [(8, 0x10000), (2, 0x400)], 64, .none_,
      [⟨63, 48, .ro, 0xffff⟩, ⟨43, 0, .ro, 0⟩]⟩
  | .LFEC_OAM_RX => ⟨0x00108020, [(8, 0x10000), (2, 0x400)], 32, .none_,
      [⟨31, 0, .ro, 0⟩]⟩
  | .LFEC_OAM_CRC => ⟨0x00108024, [(8, 0x10000), (2, 0x400)], 32, .none_,
      [⟨31, 0, .ro, 0⟩]⟩
  | .LFEC_OAM_RSVD => ⟨0x00108028, [(8, 0x10000), (2, 0x400)], 32, .none_,
      [⟨31, 0, .ro, 0⟩]⟩
  | .LFEC_RS_RX => ⟨0x00108040, [(8, 0x10000), (2, 0x400)], 64, .none_,
      [⟨47, 0, .ro, 0⟩]⟩
  | .LFEC_RS_UNCORR => ⟨0x00108048, [(8, 0x10000), (2, 0x400)], 64, .none_,
      [⟨47, 0, .ro, 0⟩]⟩
  | .LFEC_RS_SYM => ⟨0x00108050, [(8, 0x10000), (2, 0x400)], 64, .none_,
      [⟨47, 0, .ro, 0⟩]⟩
  | .LFEC_RS_BITS => ⟨0x00108058, [(8, 0x10000), (2, 0x400)], 64, .none_,
      [⟨47, 0, .ro, 0⟩]⟩
  | .LFEC_IN_RX => ⟨0x00108060, [(8, 0x10000), (2, 0x400)], 64, .none_,
      [⟨47, 0, .ro, 0⟩]⟩
  | .LFEC_IN_ZERO => ⟨0x00108068, [(8, 0x10000), (2, 0x400)], 64, .none_,
      [⟨47, 0, .ro, 0⟩]⟩
  | .LFEC_IN_CORR => ⟨0x00108070, [(8, 0x10000), (2, 0x400)], 64, .none_,
      [⟨47, 0, .ro, 0⟩]⟩
  | .LFEC_IN_FAIL => ⟨0x00108078, [(8, 0x10000), (2, 0x400)], 64, .none_,
      [⟨47, 0, .ro, 0⟩]⟩
  | .LFEC_IN_FLIPS => ⟨0x00108080, [(8, 0x10000), (2, 0x400)], 64, .none_,
      [⟨47, 0, .ro, 0⟩]⟩
  | .LFEC_RS_HIST => ⟨0x00108100, [(8, 0x10000), (2, 0x400), (16, 0x8)], 64, .none_,
      [⟨47, 0, .ro, 0⟩]⟩
  | .LTX_CTRL => ⟨0x0010C000, [(8, 0x10000), (2, 0x400)], 32, .operator,
      [⟨2, 2, .wo, 0⟩, ⟨1, 1, .rw, 0⟩, ⟨0, 0, .rw, 0⟩]⟩
  | .LTX_STATUS => ⟨0x0010C004, [(8, 0x10000), (2, 0x400)], 32, .none_,
      [⟨23, 20, .ro, 0⟩, ⟨19, 19, .ro, 0⟩, ⟨18, 18, .ro, 0⟩, ⟨17, 17, .ro, 0⟩, ⟨14, 8, .ro, 0⟩, ⟨3, 0, .ro, 0⟩]⟩
  | .LTX_FIR_CFG => ⟨0x0010C008, [(8, 0x10000), (2, 0x400)], 32, .operator,
      [⟨3, 0, .rw, 0⟩]⟩
  | .LTX_TRIM => ⟨0x0010C00C, [(8, 0x10000), (2, 0x400)], 32, .operator,
      [⟨29, 24, .rw, 0⟩, ⟨22, 16, .rw, 0⟩, ⟨13, 8, .rw, 0⟩]⟩
  | .LTX_TRIM_NOW => ⟨0x0010C010, [(8, 0x10000), (2, 0x400)], 32, .none_,
      [⟨29, 24, .ro, 0⟩, ⟨22, 16, .ro, 0⟩, ⟨13, 8, .ro, 0⟩]⟩
  | .LTX_PAT => ⟨0x0010C014, [(8, 0x10000), (2, 0x400)], 32, .operator,
      [⟨29, 16, .rw, 0x40⟩, ⟨5, 5, .rw, 0⟩, ⟨4, 4, .rw, 0⟩, ⟨2, 0, .rw, 0⟩]⟩
  | .LTX_CLIP => ⟨0x0010C018, [(8, 0x10000), (2, 0x400)], 32, .none_,
      [⟨31, 0, .ro, 0⟩]⟩
  | .LTX_PAT_DROP => ⟨0x0010C01C, [(8, 0x10000), (2, 0x400)], 32, .none_,
      [⟨31, 0, .ro, 0⟩]⟩
  | .LTX_CHK => ⟨0x0010C020, [(8, 0x10000), (2, 0x400)], 32, .operator,
      [⟨31, 31, .ro, 0⟩, ⟨23, 8, .ro, 0⟩, ⟨4, 4, .wo, 0⟩, ⟨3, 3, .rw, 0⟩, ⟨2, 0, .rw, 0⟩]⟩
  | .LTX_CHK_SYM => ⟨0x0010C028, [(8, 0x10000), (2, 0x400)], 64, .none_,
      [⟨47, 0, .ro, 0⟩]⟩
  | .LTX_CHK_ERR => ⟨0x0010C030, [(8, 0x10000), (2, 0x400)], 64, .none_,
      [⟨47, 0, .ro, 0⟩]⟩
  | .LTX_CHK_BIT => ⟨0x0010C038, [(8, 0x10000), (2, 0x400)], 64, .none_,
      [⟨47, 0, .ro, 0⟩]⟩
  | .LTX_FIR => ⟨0x0010C040, [(8, 0x10000), (2, 0x400), (15, 0x4)], 32, .operator,
      [⟨9, 0, .rw, 0⟩]⟩
  | .LTX_LUT => ⟨0x0010C100, [(8, 0x10000), (2, 0x400), (64, 0x4)], 32, .operator,
      [⟨9, 0, .rw, 0⟩]⟩
  | .LTX_MASK_CFG => ⟨0x0010C800, [(8, 0x10000)], 32, .operator,
      [⟨31, 31, .rw, 0⟩, ⟨30, 30, .rw, 0⟩, ⟨23, 20, .rw, 2⟩, ⟨15, 8, .rw, 1⟩, ⟨7, 0, .rw, 0x10⟩]⟩
  | .LTX_MASK_VIOL => ⟨0x0010C810, [(8, 0x10000), (2, 0x4)], 32, .none_,
      [⟨31, 0, .ro, 0⟩]⟩
  | .LTX_MASK_WORST => ⟨0x0010C818, [(8, 0x10000), (2, 0x4)], 32, .none_,
      [⟨31, 31, .ro, 0⟩, ⟨24, 16, .ro, 0⟩, ⟨15, 0, .ro, 0⟩]⟩
  | .LTX_MASK_EST => ⟨0x0010C820, [(8, 0x10000), (2, 0x4)], 32, .none_,
      [⟨31, 0, .ro, 0⟩]⟩
  | .LTX_MASK_SKIPS => ⟨0x0010C828, [(8, 0x10000), (2, 0x4)], 32, .none_,
      [⟨31, 0, .ro, 0⟩]⟩
  | .LTX_DRV_CFG => ⟨0x0010C840, [(8, 0x10000)], 32, .operator,
      [⟨30, 24, .rw, 0⟩, ⟨22, 16, .rw, 0⟩, ⟨2, 2, .rw, 0⟩, ⟨1, 0, .rw, 1⟩]⟩
  | .LTX_DRV_CMD => ⟨0x0010C844, [(8, 0x10000)], 32, .operator,
      [⟨31, 31, .wo, 0⟩, ⟨30, 30, .rw, 0⟩, ⟨29, 29, .rw, 0⟩, ⟨23, 16, .rw, 0⟩, ⟨15, 8, .rw, 0⟩, ⟨7, 0, .rw, 0⟩]⟩
  | .LTX_DRV_STATUS => ⟨0x0010C848, [(8, 0x10000)], 32, .none_,
      [⟨31, 31, .ro, 0⟩, ⟨30, 28, .ro, 0⟩, ⟨7, 0, .ro, 0⟩]⟩
  | .LTX_MASK_SEG => ⟨0x0010C900, [(8, 0x10000), (32, 0x4)], 32, .operator,
      [⟨24, 16, .rw, 0⟩, ⟨15, 8, .rw, 0⟩, ⟨7, 0, .rw, 0⟩]⟩
  | .LTX_UPAT => ⟨0x0010D000, [(8, 0x10000), (2, 0x800), (512, 0x4)], 32, .operator,
      [⟨31, 0, .rw, 0⟩]⟩
  | .HSI_CTRL => ⟨0x00180000, [(32, 0x800)], 32, .operator,
      [⟨8, 8, .rw, 0⟩, ⟨7, 7, .wo, 0⟩, ⟨6, 6, .rw, 0⟩, ⟨5, 5, .rw, 0⟩, ⟨4, 4, .rw, 0⟩, ⟨3, 3, .rw, 0⟩, ⟨2, 2, .rw, 0⟩, ⟨1, 1, .rw, 0⟩, ⟨0, 0, .rw, 0⟩]⟩
  | .HSI_STATUS => ⟨0x00180004, [(32, 0x800)], 32, .none_,
      [⟨31, 28, .ro, 0⟩, ⟨27, 24, .ro, 0⟩, ⟨23, 23, .ro, 0⟩, ⟨22, 22, .ro, 0⟩, ⟨21, 21, .ro, 0⟩, ⟨20, 20, .ro, 0⟩, ⟨19, 19, .ro, 0⟩, ⟨11, 8, .ro, 0⟩, ⟨3, 0, .ro, 0⟩]⟩
  | .HSI_CFG => ⟨0x00180008, [(32, 0x800)], 32, .none_,
      [⟨31, 30, .ro, 0⟩, ⟨29, 28, .ro, 0⟩, ⟨27, 27, .ro, 0⟩, ⟨23, 22, .ro, 0⟩, ⟨21, 20, .ro, 0⟩, ⟨19, 19, .ro, 0⟩, ⟨18, 18, .ro, 0⟩, ⟨17, 17, .ro, 0⟩, ⟨16, 16, .ro, 0⟩]⟩
  | .HSI_TXEQ => ⟨0x0018000C, [(32, 0x800)], 32, .operator,
      [⟨31, 24, .rw, 0⟩, ⟨23, 16, .rw, 0⟩, ⟨15, 8, .rw, 0⟩, ⟨7, 0, .rw, 0⟩]⟩
  | .HSI_FREQ => ⟨0x00180010, [(32, 0x800)], 32, .none_,
      [⟨31, 16, .ro, 0⟩, ⟨9, 0, .ro, 0⟩]⟩
  | .HSI_EYE => ⟨0x00180014, [(32, 0x800)], 32, .none_,
      [⟨15, 8, .ro, 0⟩, ⟨7, 0, .ro, 0⟩]⟩
  | .HSI_LOCK => ⟨0x00180040, [(32, 0x800)], 32, .none_,
      [⟨31, 0, .ro, 0⟩]⟩
  | .HSI_LOL => ⟨0x00180044, [(32, 0x800)], 32, .none_,
      [⟨31, 0, .ro, 0⟩]⟩
  | .HSI_TIMEOUT => ⟨0x00180048, [(32, 0x800)], 32, .none_,
      [⟨31, 0, .ro, 0⟩]⟩
  | .HSI_BAD_SH => ⟨0x0018004C, [(32, 0x800)], 32, .none_,
      [⟨31, 0, .ro, 0⟩]⟩
  | .HSI_FRAME_ERR => ⟨0x00180050, [(32, 0x800)], 32, .none_,
      [⟨31, 0, .ro, 0⟩]⟩
  | .HSI_WAKE => ⟨0x00180054, [(32, 0x800)], 32, .none_,
      [⟨31, 0, .ro, 0⟩]⟩
  | .HSI_ACT_IGN => ⟨0x00180058, [(32, 0x800)], 32, .none_,
      [⟨31, 0, .ro, 0⟩]⟩
  | .HSI_TP_DROP => ⟨0x0018005C, [(32, 0x800)], 32, .none_,
      [⟨31, 0, .ro, 0⟩]⟩
  | .HSI_PAT_DROP => ⟨0x00180060, [(32, 0x800)], 32, .none_,
      [⟨31, 0, .ro, 0⟩]⟩
  | .HSI_PAT => ⟨0x00180100, [(32, 0x800)], 32, .operator,
      [⟨2, 0, .rw, 0⟩]⟩
  | .HSI_CHK => ⟨0x00180104, [(32, 0x800)], 32, .operator,
      [⟨31, 31, .ro, 0⟩, ⟨23, 8, .ro, 0⟩, ⟨4, 4, .wo, 0⟩, ⟨2, 0, .rw, 0⟩]⟩
  | .HSI_CHK_SYM => ⟨0x00180108, [(32, 0x800)], 64, .none_,
      [⟨47, 0, .ro, 0⟩]⟩
  | .HSI_CHK_ERR => ⟨0x00180110, [(32, 0x800)], 64, .none_,
      [⟨47, 0, .ro, 0⟩]⟩
  | .HSI_CHK_BIT => ⟨0x00180118, [(32, 0x800)], 64, .none_,
      [⟨47, 0, .ro, 0⟩]⟩
  | .HPM_PORT_CFG => ⟨0x00190000, [(32, 0x100)], 32, .none_,
      [⟨31, 31, .ro, 0⟩, ⟨26, 24, .ro, 0⟩, ⟨7, 0, .ro, 0⟩]⟩
  | .HPM_PORT_STATUS => ⟨0x00190004, [(32, 0x100)], 32, .none_,
      [⟨31, 31, .ro, 0⟩, ⟨30, 30, .ro, 0⟩, ⟨29, 29, .ro, 0⟩, ⟨28, 28, .ro, 0⟩, ⟨27, 27, .ro, 0⟩]⟩
  | .HPM_RS_CW => ⟨0x00190040, [(32, 0x100)], 64, .none_,
      [⟨47, 0, .ro, 0⟩]⟩
  | .HPM_RS_ZERO => ⟨0x00190048, [(32, 0x100)], 64, .none_,
      [⟨47, 0, .ro, 0⟩]⟩
  | .HPM_RS_CORR => ⟨0x00190050, [(32, 0x100)], 64, .none_,
      [⟨47, 0, .ro, 0⟩]⟩
  | .HPM_RS_UNCORR => ⟨0x00190058, [(32, 0x100)], 64, .none_,
      [⟨47, 0, .ro, 0⟩]⟩
  | .HPM_LINE_ERR => ⟨0x00190060, [(32, 0x100)], 64, .none_,
      [⟨47, 0, .ro, 0⟩]⟩
  | .HPM_IDLE_INS => ⟨0x00190068, [(32, 0x100)], 64, .none_,
      [⟨47, 0, .ro, 0⟩]⟩
  | .HPM_IDLE_DEL => ⟨0x00190070, [(32, 0x100)], 64, .none_,
      [⟨47, 0, .ro, 0⟩]⟩
  | .HPM_OVF => ⟨0x00190078, [(32, 0x100)], 64, .none_,
      [⟨47, 0, .ro, 0⟩]⟩
  | .HPM_CELL_RX => ⟨0x00192000, [(32, 0x40)], 32, .none_,
      [⟨31, 0, .ro, 0⟩]⟩
  | .HPM_CELL_BAD => ⟨0x00192004, [(32, 0x40)], 32, .none_,
      [⟨31, 0, .ro, 0⟩]⟩
  | .HPM_CTL_RSVD => ⟨0x00192008, [(32, 0x40)], 32, .none_,
      [⟨31, 0, .ro, 0⟩]⟩
  | .HPM_CTL_GAP => ⟨0x0019200C, [(32, 0x40)], 32, .none_,
      [⟨31, 0, .ro, 0⟩]⟩
  | .HSI_CLK => ⟨0x00194000, [(4, 0x40)], 32, .none_,
      [⟨31, 31, .ro, 0⟩, ⟨30, 30, .ro, 0⟩, ⟨29, 29, .ro, 0⟩, ⟨7, 0, .ro, 0⟩]⟩
  | .CIN_CH_CFG => ⟨0x00200000, [(256, 0x100)], 32, .operator,
      [⟨31, 31, .rw, 0⟩, ⟨30, 30, .rw, 0⟩, ⟨27, 24, .rw, 0⟩, ⟨15, 0, .rw, 0⟩]⟩
  | .CIN_CH_CRED => ⟨0x00200004, [(256, 0x100)], 32, .operator,
      [⟨31, 16, .rw, 0⟩, ⟨15, 0, .rw, 0⟩]⟩
  | .CIN_CH_STATUS => ⟨0x00200008, [(256, 0x100)], 32, .none_,
      [⟨31, 31, .ro, 0⟩, ⟨30, 30, .ro, 0⟩, ⟨19, 16, .ro, 0⟩, ⟨15, 0, .ro, 0⟩]⟩
  | .CIN_CH_ACCT => ⟨0x00200010, [(256, 0x100), (16, 0x4)], 32, .none_,
      [⟨31, 0, .ro, 0⟩]⟩
  | .CIN_ACCEPT => ⟨0x00200080, [(256, 0x100)], 64, .none_,
      [⟨47, 0, .ro, 0⟩]⟩
  | .CIN_SENT => ⟨0x00200088, [(256, 0x100)], 64, .none_,
      [⟨47, 0, .ro, 0⟩]⟩
  | .CIN_ARRIVE => ⟨0x00200090, [(256, 0x100)], 64, .none_,
      [⟨47, 0, .ro, 0⟩]⟩
  | .CIN_DELIVER => ⟨0x00200098, [(256, 0x100)], 64, .none_,
      [⟨47, 0, .ro, 0⟩]⟩
  | .CIN_DISC_ING_MEM => ⟨0x002000A0, [(256, 0x100)], 64, .none_,
      [⟨47, 0, .ro, 0⟩]⟩
  | .CIN_DISC_STORE => ⟨0x002000A8, [(256, 0x100)], 64, .none_,
      [⟨47, 0, .ro, 0⟩]⟩
  | .CIN_DISC_EGR_MEM => ⟨0x002000B0, [(256, 0x100)], 64, .none_,
      [⟨47, 0, .ro, 0⟩]⟩
  | .CIN_DISC_SPAN => ⟨0x002000B8, [(256, 0x100)], 64, .none_,
      [⟨47, 0, .ro, 0⟩]⟩
  | .CIN_DISC_SHED => ⟨0x002000C0, [(256, 0x100)], 64, .none_,
      [⟨47, 0, .ro, 0⟩]⟩
  | .CIN_DISC_EGR_OVF => ⟨0x002000C8, [(256, 0x100)], 64, .none_,
      [⟨47, 0, .ro, 0⟩]⟩
  | .CIN_DISC_CLOSE => ⟨0x002000D0, [(256, 0x100)], 64, .none_,
      [⟨47, 0, .ro, 0⟩]⟩
  | .CIN_ING_OVR => ⟨0x002000D8, [(256, 0x100)], 64, .none_,
      [⟨47, 0, .ro, 0⟩]⟩
  | .CIN_LANE_CTRL => ⟨0x00210000, [(16, 0x100)], 32, .operator,
      [⟨1, 1, .rw, 1⟩, ⟨0, 0, .rw, 0⟩]⟩
  | .CIN_LANE_CFG => ⟨0x00210004, [(16, 0x100)], 32, .operator,
      [⟨31, 24, .rw, 0x64⟩, ⟨23, 16, .rw, 0x64⟩, ⟨15, 0, .ro, 0x12c⟩]⟩
  | .CIN_LANE_STATUS => ⟨0x00210008, [(16, 0x100)], 32, .none_,
      [⟨31, 30, .ro, 0⟩, ⟨29, 28, .ro, 0⟩, ⟨27, 27, .ro, 0⟩, ⟨26, 26, .ro, 0⟩, ⟨25, 25, .ro, 0⟩, ⟨11, 0, .ro, 0x924⟩]⟩
  | .CIN_LANE_SEQ => ⟨0x0021000C, [(16, 0x100)], 64, .none_,
      [⟨63, 32, .ro, 0⟩, ⟨31, 0, .ro, 0⟩]⟩
  | .CIN_LANE_EPOCH => ⟨0x00210014, [(16, 0x100)], 32, .none_,
      [⟨15, 8, .ro, 0⟩, ⟨7, 0, .ro, 0⟩]⟩
  | .CIN_NACK_TX => ⟨0x00210040, [(16, 0x100)], 32, .none_,
      [⟨31, 0, .ro, 0⟩]⟩
  | .CIN_NACK_RX => ⟨0x00210044, [(16, 0x100)], 32, .none_,
      [⟨31, 0, .ro, 0⟩]⟩
  | .CIN_NACK_DUP => ⟨0x00210048, [(16, 0x100)], 32, .none_,
      [⟨31, 0, .ro, 0⟩]⟩
  | .CIN_NACK_TO => ⟨0x0021004C, [(16, 0x100)], 32, .none_,
      [⟨31, 0, .ro, 0⟩]⟩
  | .CIN_RUNS => ⟨0x00210050, [(16, 0x100)], 32, .none_,
      [⟨31, 0, .ro, 0⟩]⟩
  | .CIN_RUN_GRAN => ⟨0x00210054, [(16, 0x100)], 32, .none_,
      [⟨31, 0, .ro, 0⟩]⟩
  | .CIN_GBN_DROP => ⟨0x00210058, [(16, 0x100)], 32, .none_,
      [⟨31, 0, .ro, 0⟩]⟩
  | .CIN_GAPS => ⟨0x0021005C, [(16, 0x100)], 32, .none_,
      [⟨31, 0, .ro, 0⟩]⟩
  | .CIN_TAG_ERR => ⟨0x00210060, [(16, 0x100)], 32, .none_,
      [⟨31, 0, .ro, 0⟩]⟩
  | .CIN_RESYNC => ⟨0x00210064, [(16, 0x100)], 32, .none_,
      [⟨31, 0, .ro, 0⟩]⟩
  | .CIN_SHEDS => ⟨0x00210068, [(16, 0x100)], 32, .none_,
      [⟨31, 0, .ro, 0⟩]⟩
  | .CIN_CR_STALE => ⟨0x0021006C, [(16, 0x100)], 32, .none_,
      [⟨31, 0, .ro, 0⟩]⟩
  | .CIN_CR_BAD => ⟨0x00210070, [(16, 0x100)], 32, .none_,
      [⟨31, 0, .ro, 0⟩]⟩
  | .CIN_CONS_AUDIT => ⟨0x00220000, [], 32, .operator,
      [⟨31, 31, .ro, 0⟩, ⟨23, 16, .ro, 0⟩, ⟨15, 8, .wo, 0⟩, ⟨0, 0, .wo, 0⟩]⟩
  | .CIN_AUDIT_PASS => ⟨0x00220004, [], 32, .none_,
      [⟨31, 0, .ro, 0⟩]⟩
  | .CIN_AUDIT_FAIL => ⟨0x00220008, [], 32, .none_,
      [⟨31, 0, .ro, 0⟩]⟩
  | .CIN_CR_CFG => ⟨0x00220010, [], 32, .operator,
      [⟨31, 16, .rw, 0x32⟩, ⟨15, 0, .rw, 0xa⟩]⟩
  | .MGT_ALERT_STATUS => ⟨0x00300000, [], 32, .operator,
      [⟨9, 0, .w1c, 0⟩]⟩
  | .MGT_IBI_EN => ⟨0x00300004, [], 32, .operator,
      [⟨9, 0, .rw, 0x3ff⟩]⟩
  | .MGT_BUS_STATUS => ⟨0x00300008, [], 32, .none_,
      [⟨31, 31, .ro, 0⟩, ⟨30, 24, .ro, 0⟩, ⟨22, 16, .ro, 0x50⟩, ⟨15, 15, .ro, 0⟩, ⟨1, 0, .ro, 1⟩]⟩
  | .MGT_CW_CFG => ⟨0x0030000C, [], 32, .operator,
      [⟨15, 8, .rw, 0xa⟩, ⟨0, 0, .rw, 1⟩]⟩
  | .MGT_CW_MAC => ⟨0x00300010, [], 64, .operator,
      [⟨47, 0, .rw, 0x25a36000000⟩]⟩
  | .MGT_OP_PWD => ⟨0x00300018, [], 32, .admin,
      [⟨31, 0, .wo, 0⟩]⟩
  | .MGT_AUTH_CTRL => ⟨0x00300020, [], 32, .user,
      [⟨31, 28, .wo, 0⟩]⟩
  | .MGT_AUTH_DATA => ⟨0x00300024, [], 32, .user,
      [⟨31, 0, .wo, 0⟩]⟩
  | .MGT_AUTH_STATUS => ⟨0x00300028, [], 32, .none_,
      [⟨31, 28, .ro, 0⟩, ⟨15, 8, .ro, 0⟩, ⟨0, 0, .ro, 0⟩]⟩
  | .MGT_AUTH_NONCE => ⟨0x00300040, [], 256, .none_,
      [⟨255, 0, .ro, 0⟩]⟩
  | .MGT_BAD_ADDR => ⟨0x00300080, [], 32, .none_,
      [⟨31, 0, .ro, 0⟩]⟩
  | .MGT_ACCESS_VIOL => ⟨0x00300084, [], 32, .none_,
      [⟨31, 0, .ro, 0⟩]⟩
  | .MGT_PWD_FAIL => ⟨0x00300088, [], 32, .none_,
      [⟨31, 0, .ro, 0⟩]⟩
  | .MGT_CW_RX => ⟨0x0030008C, [], 32, .none_,
      [⟨31, 0, .ro, 0⟩]⟩
  | .MGT_CW_TX => ⟨0x00300090, [], 32, .none_,
      [⟨31, 0, .ro, 0⟩]⟩
  | .MGT_CW_BAD => ⟨0x00300094, [], 32, .none_,
      [⟨31, 0, .ro, 0⟩]⟩
  | .MGT_CW_AUTH_FAIL => ⟨0x00300098, [], 32, .none_,
      [⟨31, 0, .ro, 0⟩]⟩
  | .MGT_TUN_DISC => ⟨0x0030009C, [], 32, .none_,
      [⟨31, 0, .ro, 0⟩]⟩
  | .MGT_IBI_SENT => ⟨0x003000A0, [], 32, .none_,
      [⟨31, 0, .ro, 0⟩]⟩
  | .MGT_IBI_NACK => ⟨0x003000A4, [], 32, .none_,
      [⟨31, 0, .ro, 0⟩]⟩
  | .MGT_SESSION => ⟨0x00300100, [(4, 0x10)], 32, .none_,
      [⟨31, 31, .ro, 0⟩, ⟨29, 28, .ro, 0⟩, ⟨27, 26, .ro, 0⟩, ⟨25, 16, .ro, 0⟩, ⟨15, 0, .ro, 0⟩]⟩
  | .SEC_STATUS => ⟨0x00340000, [], 32, .none_,
      [⟨31, 28, .ro, 0⟩, ⟨27, 27, .ro, 0⟩, ⟨26, 26, .ro, 1⟩, ⟨25, 24, .ro, 0⟩, ⟨23, 23, .ro, 0⟩, ⟨22, 22, .ro, 0⟩, ⟨15, 8, .ro, 0⟩, ⟨7, 0, .ro, 0⟩]⟩
  | .SEC_UID => ⟨0x00340010, [], 128, .none_,
      [⟨127, 0, .ro, 0⟩]⟩
  | .SEC_NONCE => ⟨0x00340020, [], 256, .none_,
      [⟨255, 0, .ro, 0⟩]⟩
  | .SEC_KEY_CTRL => ⟨0x00340040, [], 32, .user,
      [⟨31, 28, .wo, 0⟩, ⟨3, 0, .wo, 0⟩]⟩
  | .SEC_KEY_DATA => ⟨0x00340044, [], 32, .user,
      [⟨31, 0, .wo, 0⟩]⟩
  | .SEC_ROLLBACK_CTRL => ⟨0x00340048, [], 32, .admin,
      [⟨31, 28, .wo, 0⟩, ⟨6, 0, .wo, 0⟩]⟩
  | .SEC_KEY_STATUS => ⟨0x0034004C, [], 32, .none_,
      [⟨31, 28, .ro, 0⟩, ⟨0, 0, .ro, 0⟩]⟩
  | .SEC_FW_CTRL => ⟨0x00340050, [], 32, .admin,
      [⟨31, 28, .wo, 0⟩, ⟨0, 0, .wo, 0⟩]⟩
  | .SEC_FW_DATA => ⟨0x00340054, [], 32, .admin,
      [⟨31, 0, .wo, 0⟩]⟩
  | .SEC_FW_STATUS => ⟨0x00340058, [], 32, .none_,
      [⟨31, 28, .ro, 0⟩, ⟨27, 24, .ro, 0⟩, ⟨19, 0, .ro, 0⟩]⟩
  | .SEC_FW_SPACE => ⟨0x0034005C, [], 32, .none_,
      [⟨12, 0, .ro, 0x1000⟩]⟩
  | .SEC_DBG_CTRL => ⟨0x00340060, [], 32, .user,
      [⟨31, 28, .wo, 0⟩]⟩
  | .SEC_DBG_DATA => ⟨0x00340064, [], 32, .user,
      [⟨31, 0, .wo, 0⟩]⟩
  | .SEC_DBG_STATUS => ⟨0x00340068, [], 32, .none_,
      [⟨31, 28, .ro, 0⟩, ⟨10, 8, .ro, 0⟩, ⟨0, 0, .ro, 0⟩]⟩
  | .SEC_KEY_SLOT => ⟨0x00340100, [(12, 0x8)], 64, .none_,
      [⟨63, 32, .ro, 0⟩, ⟨7, 6, .ro, 0⟩, ⟨1, 1, .ro, 0⟩, ⟨0, 0, .ro, 0⟩]⟩
  | .SEC_MEAS => ⟨0x00340440, [(7, 0x40)], 512, .none_,
      [⟨511, 0, .ro, 0⟩]⟩
  | .HKA_CTRL => ⟨0x00380000, [], 32, .operator,
      [⟨31, 31, .rw, 0⟩, ⟨30, 30, .rw, 0⟩, ⟨29, 29, .rw, 1⟩, ⟨28, 28, .rw, 0⟩, ⟨27, 27, .rw, 0⟩, ⟨15, 0, .rw, 0x64⟩]⟩
  | .HKA_TIMING => ⟨0x00380004, [], 32, .operator,
      [⟨27, 0, .rw, 0xf4240⟩]⟩
  | .HKA_URGENT => ⟨0x00380008, [], 32, .operator,
      [⟨31, 31, .wo, 0⟩, ⟨30, 30, .ro, 0⟩, ⟨29, 28, .ro, 0⟩, ⟨27, 22, .rw, 0⟩, ⟨21, 20, .rw, 0⟩, ⟨19, 18, .rw, 0⟩]⟩
  | .HKA_URGENT_RES => ⟨0x0038000C, [], 32, .none_,
      [⟨31, 31, .ro, 0⟩, ⟨30, 30, .ro, 0⟩, ⟨29, 24, .ro, 0⟩, ⟨23, 0, .ro, 0⟩]⟩
  | .HKA_URG_DROP => ⟨0x00380010, [], 32, .none_,
      [⟨31, 0, .ro, 0⟩]⟩
  | .HKA_RB_FAIL => ⟨0x00380014, [], 32, .none_,
      [⟨31, 0, .ro, 0⟩]⟩
  | .HKA_DAC_FAULT => ⟨0x00380018, [], 32, .operator,
      [⟨31, 0, .w1c, 0⟩]⟩
  | .HKA_DEC_CFG => ⟨0x00380020, [], 32, .operator,
      [⟨19, 16, .rw, 4⟩, ⟨15, 0, .rw, 0x64⟩]⟩
  | .HKA_CH_CFG => ⟨0x00380100, [(40, 0x4)], 32, .operator,
      [⟨31, 31, .rw, 0⟩, ⟨30, 30, .rw, 0⟩, ⟨29, 28, .rw, 0⟩, ⟨27, 26, .rw, 0⟩, ⟨23, 16, .rw, 1⟩, ⟨15, 12, .rw, 0xf⟩]⟩
  | .HKA_RESULT => ⟨0x00380200, [(40, 0x4)], 32, .none_,
      [⟨31, 31, .ro, 0⟩, ⟨30, 30, .ro, 0⟩, ⟨29, 29, .ro, 0⟩, ⟨23, 0, .ro, 0⟩]⟩
  | .HKA_RESULT_TS => ⟨0x00380300, [(40, 0x8)], 64, .none_,
      [⟨63, 62, .ro, 0⟩, ⟨61, 0, .ro, 0⟩]⟩
  | .HKA_CH_CAL => ⟨0x00380500, [(32, 0x4)], 32, .operator,
      [⟨31, 16, .rw, 0⟩, ⟨15, 0, .rw, 0⟩]⟩
  | .HKA_MON => ⟨0x00380580, [(16, 0x4)], 32, .operator,
      [⟨21, 16, .rw, 0x3f⟩, ⟨13, 8, .rw, 0x3f⟩, ⟨5, 0, .rw, 0x3f⟩]⟩
  | .HKA_MON_VCC => ⟨0x003805C0, [], 32, .operator,
      [⟨5, 0, .rw, 0x3f⟩]⟩
  | .HKA_DEC_OUT => ⟨0x00380600, [(40, 0x4)], 32, .none_,
      [⟨31, 31, .ro, 0⟩, ⟨23, 0, .ro, 0⟩]⟩
  | .HKA_STREAM_BASE => ⟨0x00380800, [(4, 0x20)], 32, .operator,
      [⟨31, 0, .rw, 0⟩]⟩
  | .HKA_STREAM_CFG => ⟨0x00380804, [(4, 0x20)], 32, .operator,
      [⟨31, 31, .rw, 0⟩, ⟨30, 30, .rw, 0⟩, ⟨29, 29, .rw, 0⟩, ⟨19, 16, .rw, 0⟩, ⟨4, 0, .rw, 8⟩]⟩
  | .HKA_STREAM_WR => ⟨0x00380808, [(4, 0x20)], 32, .none_,
      [⟨31, 0, .ro, 0⟩]⟩
  | .HKA_STREAM_RD => ⟨0x0038080C, [(4, 0x20)], 32, .operator,
      [⟨31, 0, .rw, 0⟩]⟩
  | .HKA_STREAM_LOST => ⟨0x00380810, [(4, 0x20)], 32, .none_,
      [⟨31, 0, .ro, 0⟩]⟩
  | .HKA_DAC_CODE => ⟨0x00380A00, [(32, 0x4)], 32, .operator,
      [⟨31, 16, .ro, 0⟩, ⟨15, 0, .rw, 0⟩]⟩
  | .HKA_DAC_CFG => ⟨0x00380A80, [(32, 0x4)], 32, .operator,
      [⟨31, 31, .rw, 0⟩, ⟨30, 30, .rw, 0⟩, ⟨29, 28, .rw, 0⟩, ⟨27, 27, .rw, 0⟩, ⟨26, 26, .rw, 0⟩, ⟨7, 0, .rw, 2⟩]⟩
  | .HKA_DAC_TIMER => ⟨0x00380B04, [(3, 0x4)], 32, .operator,
      [⟨31, 31, .rw, 0⟩, ⟨30, 30, .rw, 0⟩, ⟨23, 0, .rw, 0x3e8⟩]⟩
  | .HKA_RB_CFG => ⟨0x00380B20, [], 32, .operator,
      [⟨31, 16, .rw, 0⟩, ⟨7, 0, .rw, 0x14⟩]⟩
  | .CAL_COUNT => ⟨0x00390000, [(64, 0x20)], 32, .none_,
      [⟨31, 0, .ro, 0⟩]⟩
  | .CAL_RESULT => ⟨0x00390004, [(64, 0x20)], 32, .none_,
      [⟨3, 0, .ro, 0⟩]⟩
  | .CAL_LAST_TIME => ⟨0x00390008, [(64, 0x20)], 96, .none_,
      [⟨95, 0, .ro, 0⟩]⟩
  | .CAL_LAST_Q => ⟨0x00390014, [(64, 0x20)], 32, .none_,
      [⟨1, 0, .ro, 0⟩]⟩
  | .CAL_VALUE => ⟨0x00390018, [(64, 0x20)], 32, .none_,
      [⟨31, 0, .ro, 0⟩]⟩
  | .CAL_TRIM_BUSY => ⟨0x00390800, [], 32, .none_,
      [⟨3, 0, .ro, 0⟩]⟩
  | .CAL_TSK => ⟨0x00390900, [(32, 0x8)], 64, .operator,
      [⟨63, 32, .rw, 0⟩, ⟨11, 0, .rw, 0⟩]⟩
  | .THM_SENSOR => ⟨0x003C0000, [(24, 0x4)], 32, .none_,
      [⟨31, 31, .ro, 0⟩, ⟨30, 30, .ro, 0⟩, ⟨11, 0, .ro, 0⟩]⟩
  | .THM_PRED => ⟨0x003C0060, [(24, 0x4)], 32, .none_,
      [⟨11, 0, .ro, 0⟩]⟩
  | .THM_STATUS => ⟨0x003C00C0, [], 32, .none_,
      [⟨31, 28, .ro, 0⟩, ⟨27, 23, .ro, 0⟩, ⟨22, 22, .ro, 0⟩, ⟨21, 17, .ro, 0⟩, ⟨15, 0, .ro, 0xffff⟩]⟩
  | .THM_CFG => ⟨0x003C00C4, [], 32, .operator,
      [⟨31, 31, .rw, 1⟩, ⟨7, 0, .rw, 0x14⟩]⟩
  | .THM_LIMIT_A => ⟨0x003C00C8, [], 32, .operator,
      [⟨27, 16, .rw, 0x398⟩, ⟨11, 0, .rw, 0x3e8⟩]⟩
  | .THM_LIMIT_B => ⟨0x003C00CC, [], 32, .operator,
      [⟨27, 16, .rw, 0x3b0⟩, ⟨11, 0, .rw, 0x370⟩]⟩
  | .THM_LIMIT_C => ⟨0x003C00D0, [], 32, .operator,
      [⟨11, 0, .rw, 0x320⟩]⟩
  | .THM_STOPS => ⟨0x003C00D4, [], 32, .none_,
      [⟨31, 0, .ro, 0⟩]⟩
  | .MEM_REGION_ARMED => ⟨0x00400000, [], 32, .none_,
      [⟨20, 0, .ro, 0⟩]⟩
  | .MEM_STATUS => ⟨0x00400004, [], 32, .none_,
      [⟨31, 31, .ro, 0⟩, ⟨20, 0, .ro, 0⟩]⟩
  | .MEM_FLIP_MASK => ⟨0x00400010, [], 128, .admin,
      [⟨127, 127, .rw, 0⟩, ⟨123, 120, .rw, 0⟩, ⟨119, 118, .rw, 0⟩, ⟨111, 96, .rw, 1⟩, ⟨71, 0, .rw, 0⟩]⟩
  | .MEM_FLIP_ADDR => ⟨0x00400020, [], 32, .admin,
      [⟨31, 31, .rw, 1⟩, ⟨27, 0, .rw, 0⟩]⟩
  | .MEM_LAST_POISON => ⟨0x00400028, [], 64, .none_,
      [⟨52, 48, .ro, 0⟩, ⟨44, 44, .ro, 0⟩, ⟨27, 0, .ro, 0⟩]⟩
  | .MEM_POISON_CNT => ⟨0x00400040, [], 32, .none_,
      [⟨31, 0, .ro, 0⟩]⟩
  | .MEM_SCRUB_CFG => ⟨0x00400100, [(21, 0x20)], 32, .operator,
      [⟨31, 31, .rw, 1⟩, ⟨15, 0, .rw, 0x64⟩]⟩
  | .MEM_SCRUB_LAP => ⟨0x00400104, [(21, 0x20)], 32, .none_,
      [⟨31, 0, .ro, 0⟩]⟩
  | .MEM_LAP_COUNT => ⟨0x00400108, [(21, 0x20)], 32, .none_,
      [⟨31, 0, .ro, 0⟩]⟩
  | .MEM_SPARE => ⟨0x0040010C, [(21, 0x20)], 32, .none_,
      [⟨15, 8, .ro, 0⟩, ⟨7, 0, .ro, 0⟩]⟩
  | .MEM_CORR => ⟨0x00400110, [(21, 0x20)], 32, .none_,
      [⟨31, 0, .ro, 0⟩]⟩
  | .MEM_REPAIR => ⟨0x00400114, [(21, 0x20)], 32, .none_,
      [⟨31, 0, .ro, 0⟩]⟩
  | .MEM_POISON => ⟨0x00400118, [(21, 0x20)], 32, .none_,
      [⟨31, 0, .ro, 0⟩]⟩
  | .DMA_SRC => ⟨0x00410000, [(16, 0x40)], 32, .operator,
      [⟨31, 0, .rw, 0⟩]⟩
  | .DMA_DST => ⟨0x00410004, [(16, 0x40)], 32, .operator,
      [⟨31, 0, .rw, 0⟩]⟩
  | .DMA_CNT => ⟨0x00410008, [(16, 0x40)], 32, .operator,
      [⟨23, 0, .rw, 0⟩]⟩
  | .DMA_CTRL => ⟨0x0041000C, [(16, 0x40)], 32, .operator,
      [⟨31, 31, .wo, 0⟩, ⟨30, 30, .wo, 0⟩, ⟨29, 28, .rw, 0⟩, ⟨27, 26, .rw, 0⟩, ⟨25, 25, .rw, 0⟩, ⟨24, 24, .rw, 1⟩, ⟨23, 20, .ro, 0⟩, ⟨19, 16, .rw, 0xf⟩]⟩
  | .DMA_FILL => ⟨0x00410010, [(16, 0x40)], 64, .operator,
      [⟨63, 0, .rw, 0⟩]⟩
  | .DMA_STATUS => ⟨0x00410018, [(16, 0x40)], 32, .none_,
      [⟨31, 28, .ro, 0⟩, ⟨23, 0, .ro, 0⟩]⟩
  | .DMA_PREEMPT => ⟨0x0041001C, [(16, 0x40)], 32, .none_,
      [⟨31, 0, .ro, 0⟩]⟩
  | .DMA_CQ_WR => ⟨0x00410800, [], 32, .none_,
      [⟨7, 0, .ro, 0⟩]⟩
  | .DMA_CQ_RD => ⟨0x00410804, [], 32, .operator,
      [⟨7, 0, .rw, 0⟩]⟩
  | .DMA_CQ_WAITS => ⟨0x00410808, [], 32, .none_,
      [⟨31, 0, .ro, 0⟩]⟩
  | .DMA_CQ_REC => ⟨0x00411000, [(256, 0x20), (8, 0x4)], 32, .none_,
      [⟨31, 0, .ro, 0⟩]⟩
  | .EVL_CTRL => ⟨0x00440000, [], 32, .admin,
      [⟨0, 0, .wo, 0⟩]⟩
  | .EVL_HEAD_SEQ => ⟨0x00440008, [], 64, .none_,
      [⟨49, 32, .ro, 0x8000⟩, ⟨31, 0, .ro, 0xffffffff⟩]⟩
  | .EVL_OLDEST_SEQ => ⟨0x00440010, [], 64, .none_,
      [⟨49, 32, .ro, 0x8000⟩, ⟨31, 0, .ro, 0⟩]⟩
  | .EVL_FIRST_FULL => ⟨0x00440018, [], 32, .none_,
      [⟨31, 31, .ro, 0⟩, ⟨15, 0, .ro, 0⟩]⟩
  | .EVL_FIRST_RANGE => ⟨0x00440020, [], 64, .none_,
      [⟨63, 32, .ro, 0⟩, ⟨31, 0, .ro, 0⟩]⟩
  | .EVL_DROPPED => ⟨0x00440028, [], 32, .none_,
      [⟨31, 0, .ro, 0⟩]⟩
  | .EVL_WRITTEN => ⟨0x0044002C, [], 32, .none_,
      [⟨31, 0, .ro, 0⟩]⟩
  | .EVL_READ_DENIED => ⟨0x00440030, [], 32, .none_,
      [⟨31, 0, .ro, 0⟩]⟩
  | .PMC_CTL => ⟨0x00450000, [(128, 0x20)], 32, .operator,
      [⟨31, 31, .rw, 0⟩, ⟨30, 29, .rw, 0⟩, ⟨28, 28, .rw, 0⟩, ⟨27, 27, .rw, 0⟩, ⟨23, 16, .rw, 0xe⟩, ⟨15, 8, .rw, 0⟩, ⟨7, 0, .rw, 0⟩]⟩
  | .PMC_THRESH => ⟨0x00450004, [(128, 0x20)], 32, .operator,
      [⟨31, 0, .rw, 0⟩]⟩
  | .PMC_VALUE => ⟨0x00450008, [(128, 0x20)], 64, .none_,
      [⟨47, 0, .ro, 0⟩]⟩
  | .PMC_PRESET => ⟨0x00450010, [(128, 0x20)], 64, .operator,
      [⟨47, 0, .rw, 0⟩]⟩
  | .PMC_WIN => ⟨0x00450018, [(128, 0x20)], 64, .none_,
      [⟨63, 63, .ro, 0⟩, ⟨62, 62, .ro, 0⟩, ⟨47, 0, .ro, 0⟩]⟩
  | .PMC_USER_EN => ⟨0x00451000, [], 32, .operator,
      [⟨0, 0, .rw, 0⟩]⟩
  | .PMC_GLOBAL => ⟨0x00451004, [], 32, .operator,
      [⟨31, 31, .rw, 0⟩, ⟨30, 30, .wo, 0⟩, ⟨29, 29, .rw, 0⟩, ⟨19, 0, .rw, 0x3e8⟩]⟩
  | .PMC_SAMPLE_LIST => ⟨0x00451008, [], 64, .operator,
      [⟨6, 0, .rw, 0⟩, ⟨14, 8, .rw, 0⟩, ⟨22, 16, .rw, 0⟩, ⟨30, 24, .rw, 0⟩, ⟨38, 32, .rw, 0⟩, ⟨46, 40, .rw, 0⟩, ⟨54, 48, .rw, 0⟩, ⟨62, 56, .rw, 0⟩]⟩
  | .PMC_SAMPLE_MIN => ⟨0x00451010, [], 32, .operator,
      [⟨15, 0, .rw, 0xa⟩]⟩
  | .PMC_SAMPLE_DROP => ⟨0x00451014, [], 32, .none_,
      [⟨31, 0, .ro, 0⟩]⟩
  | .BST_RESULT => ⟨0x00460000, [], 32, .none_,
      [⟨31, 28, .ro, 0⟩, ⟨27, 24, .ro, 0⟩, ⟨15, 0, .ro, 0⟩]⟩
  | .BST_CTRL => ⟨0x00460004, [], 32, .operator,
      [⟨31, 31, .rw, 1⟩, ⟨15, 8, .rw, 0xa⟩, ⟨7, 0, .rw, 8⟩]⟩
  | .BST_UNFENCE => ⟨0x00460008, [], 32, .admin,
      [⟨31, 31, .wo, 0⟩, ⟨30, 28, .rw, 0⟩, ⟨27, 26, .rw, 0⟩, ⟨3, 0, .rw, 0⟩]⟩
  | .BST_PART => ⟨0x00460100, [(16, 0x10)], 64, .none_,
      [⟨63, 32, .ro, 0⟩, ⟨31, 28, .ro, 0⟩, ⟨27, 0, .ro, 0⟩]⟩
  | .BST_IS_STATUS => ⟨0x00460200, [(8, 0x4)], 32, .none_,
      [⟨31, 28, .ro, 0⟩, ⟨27, 26, .ro, 0⟩, ⟨25, 22, .ro, 0⟩, ⟨15, 0, .ro, 0⟩]⟩
  | .BST_DEC_STATE => ⟨0x00460240, [(8, 0x4)], 32, .none_,
      [⟨13, 0, .ro, 0x1000⟩]⟩
  | .BST_IS_RUN => ⟨0x00460300, [(8, 0x10)], 32, .none_,
      [⟨31, 0, .ro, 0⟩]⟩
  | .BST_IS_ABORT => ⟨0x00460304, [(8, 0x10)], 32, .none_,
      [⟨31, 0, .ro, 0⟩]⟩
  | .BST_IS_FAIL => ⟨0x00460308, [(8, 0x10)], 32, .none_,
      [⟨31, 0, .ro, 0⟩]⟩
  | .BST_IS_SKIP => ⟨0x0046030C, [(8, 0x10)], 32, .none_,
      [⟨31, 0, .ro, 0⟩]⟩

/-- Registers 0 to 39 in the order of `Reg`. -/
def regsPiece0 : List Reg :=
  [.GLB_ID, .GLB_PARAM, .GLB_STATE, .GLB_FENCE, .GLB_RESET, .PWR_STATE, .PWR_CTRL, .PWR_WAKE_LANES,
   .PWR_WAKE_SRC, .PWR_WAKE_TIME, .PWR_STAGE_TIME, .PWR_WAKE_COUNT, .PWR_SUPPLY, .TSK_CTRL, .TSK_ACTIVE,
   .TSK_IN_CFG, .TSK_VALUE, .TSK_RULE, .TSK_HITS, .CLK_STATUS, .CLK_REF_LOSS, .CLK_LINE, .CLK_HOST, .TMB_NOW,
   .TMB_QUALITY, .TMB_ERR_BOUND, .TMB_NODE_ID, .TMB_SRC_CFG, .TMB_RATE, .TMB_HOLD_CFG, .TMB_SET, .TMB_STATUS,
   .TMB_ASYM_CAL, .TMB_SLEEP_ENTRY, .TMB_SLEEP_ELAPSED, .TMB_SLEEP_INFO, .TMB_PPS_CFG, .TMB_PPS_OUT_OFS,
   .TMB_PPS_IN_DLY, .TMB_PPS_UNC]

/-- Registers 40 to 79 in the order of `Reg`. -/
def regsPiece1 : List Reg :=
  [.TMB_PPS_SEC, .TMB_PPS_IN_TS, .TMB_PPS_IN_ERR, .TMB_PPS_EDGES, .TMB_PPS_OUTLIER, .TMB_PPS_MISS, .TMB_ASYM,
   .TMB_ASYM_UNC, .TMB_RTT, .TMB_OFFSET, .TMB_LANE_STATUS, .TMB_LANE_FLAGS, .TMB_FRAME_TX, .TMB_FRAME_RX,
   .TMB_TIME_RX, .TMB_SUB_RSVD, .TMB_EXCH, .TMB_OUTLIER, .TMB_TC_CORR, .TMB_TC_SKIP, .TMB_TC_UNLOCK,
   .HRN_LOAD_CTRL, .HRN_LOAD_DATA, .HRN_STATUS, .HRN_LOAD_COUNT, .HRN_IMAGE_INFO, .HRN_LOAD_OK, .HRN_LOAD_REJ,
   .HRN_IMAGE_HASH, .HRN_GROUP_STATE, .LRX_CTRL, .LRX_STATUS, .LRX_ACQ_CFG, .LRX_AGC_CFG, .LRX_AGC, .LRX_TR,
   .LRX_SNR, .LRX_LOCK_SNAP, .LRX_ACQ_COLD, .LRX_ACQ_LOCK]

/-- Registers 80 to 119 in the order of `Reg`. -/
def regsPiece2 : List Reg :=
  [.LRX_FALSE_CAND, .LRX_CAND_MISS, .LRX_PSTEP_PRE, .LRX_PSTEP_LOCK, .LRX_LOL, .LRX_RESTART, .LRX_FAIL,
   .LRX_CLIP, .LRX_TIMEOUT, .LRX_TIA_CFG, .LRX_TIA_CMD, .LRX_TIA_STATUS, .EQP_CTRL, .EQP_ALLOC, .EQP_POS,
   .EQP_STATUS, .EQP_POST, .EQP_TARGET, .EQP_SOFT, .EQP_QHIST, .EQP_COEF, .EQP_POOL, .EQP_SLICE_STATE,
   .EQP_OP_CMD, .EQP_OP_STATUS, .EQP_AUDIT, .EQP_OP_OK, .EQP_OP_FAIL, .LFEC_CTRL, .LFEC_STATUS, .LFEC_SD,
   .LFEC_SF, .LFEC_FAR_STATUS, .LFEC_OAM_RX, .LFEC_OAM_CRC, .LFEC_OAM_RSVD, .LFEC_RS_RX, .LFEC_RS_UNCORR,
   .LFEC_RS_SYM, .LFEC_RS_BITS]

/-- Registers 120 to 159 in the order of `Reg`. -/
def regsPiece3 : List Reg :=
  [.LFEC_IN_RX, .LFEC_IN_ZERO, .LFEC_IN_CORR, .LFEC_IN_FAIL, .LFEC_IN_FLIPS, .LFEC_RS_HIST, .LTX_CTRL,
   .LTX_STATUS, .LTX_FIR_CFG, .LTX_TRIM, .LTX_TRIM_NOW, .LTX_PAT, .LTX_CLIP, .LTX_PAT_DROP, .LTX_CHK,
   .LTX_CHK_SYM, .LTX_CHK_ERR, .LTX_CHK_BIT, .LTX_FIR, .LTX_LUT, .LTX_MASK_CFG, .LTX_MASK_VIOL,
   .LTX_MASK_WORST, .LTX_MASK_EST, .LTX_MASK_SKIPS, .LTX_DRV_CFG, .LTX_DRV_CMD, .LTX_DRV_STATUS,
   .LTX_MASK_SEG, .LTX_UPAT, .HSI_CTRL, .HSI_STATUS, .HSI_CFG, .HSI_TXEQ, .HSI_FREQ, .HSI_EYE, .HSI_LOCK,
   .HSI_LOL, .HSI_TIMEOUT, .HSI_BAD_SH]

/-- Registers 160 to 199 in the order of `Reg`. -/
def regsPiece4 : List Reg :=
  [.HSI_FRAME_ERR, .HSI_WAKE, .HSI_ACT_IGN, .HSI_TP_DROP, .HSI_PAT_DROP, .HSI_PAT, .HSI_CHK, .HSI_CHK_SYM,
   .HSI_CHK_ERR, .HSI_CHK_BIT, .HPM_PORT_CFG, .HPM_PORT_STATUS, .HPM_RS_CW, .HPM_RS_ZERO, .HPM_RS_CORR,
   .HPM_RS_UNCORR, .HPM_LINE_ERR, .HPM_IDLE_INS, .HPM_IDLE_DEL, .HPM_OVF, .HPM_CELL_RX, .HPM_CELL_BAD,
   .HPM_CTL_RSVD, .HPM_CTL_GAP, .HSI_CLK, .CIN_CH_CFG, .CIN_CH_CRED, .CIN_CH_STATUS, .CIN_CH_ACCT,
   .CIN_ACCEPT, .CIN_SENT, .CIN_ARRIVE, .CIN_DELIVER, .CIN_DISC_ING_MEM, .CIN_DISC_STORE, .CIN_DISC_EGR_MEM,
   .CIN_DISC_SPAN, .CIN_DISC_SHED, .CIN_DISC_EGR_OVF, .CIN_DISC_CLOSE]

/-- Registers 200 to 239 in the order of `Reg`. -/
def regsPiece5 : List Reg :=
  [.CIN_ING_OVR, .CIN_LANE_CTRL, .CIN_LANE_CFG, .CIN_LANE_STATUS, .CIN_LANE_SEQ, .CIN_LANE_EPOCH,
   .CIN_NACK_TX, .CIN_NACK_RX, .CIN_NACK_DUP, .CIN_NACK_TO, .CIN_RUNS, .CIN_RUN_GRAN, .CIN_GBN_DROP,
   .CIN_GAPS, .CIN_TAG_ERR, .CIN_RESYNC, .CIN_SHEDS, .CIN_CR_STALE, .CIN_CR_BAD, .CIN_CONS_AUDIT,
   .CIN_AUDIT_PASS, .CIN_AUDIT_FAIL, .CIN_CR_CFG, .MGT_ALERT_STATUS, .MGT_IBI_EN, .MGT_BUS_STATUS,
   .MGT_CW_CFG, .MGT_CW_MAC, .MGT_OP_PWD, .MGT_AUTH_CTRL, .MGT_AUTH_DATA, .MGT_AUTH_STATUS, .MGT_AUTH_NONCE,
   .MGT_BAD_ADDR, .MGT_ACCESS_VIOL, .MGT_PWD_FAIL, .MGT_CW_RX, .MGT_CW_TX, .MGT_CW_BAD, .MGT_CW_AUTH_FAIL]

/-- Registers 240 to 279 in the order of `Reg`. -/
def regsPiece6 : List Reg :=
  [.MGT_TUN_DISC, .MGT_IBI_SENT, .MGT_IBI_NACK, .MGT_SESSION, .SEC_STATUS, .SEC_UID, .SEC_NONCE,
   .SEC_KEY_CTRL, .SEC_KEY_DATA, .SEC_ROLLBACK_CTRL, .SEC_KEY_STATUS, .SEC_FW_CTRL, .SEC_FW_DATA,
   .SEC_FW_STATUS, .SEC_FW_SPACE, .SEC_DBG_CTRL, .SEC_DBG_DATA, .SEC_DBG_STATUS, .SEC_KEY_SLOT, .SEC_MEAS,
   .HKA_CTRL, .HKA_TIMING, .HKA_URGENT, .HKA_URGENT_RES, .HKA_URG_DROP, .HKA_RB_FAIL, .HKA_DAC_FAULT,
   .HKA_DEC_CFG, .HKA_CH_CFG, .HKA_RESULT, .HKA_RESULT_TS, .HKA_CH_CAL, .HKA_MON, .HKA_MON_VCC, .HKA_DEC_OUT,
   .HKA_STREAM_BASE, .HKA_STREAM_CFG, .HKA_STREAM_WR, .HKA_STREAM_RD, .HKA_STREAM_LOST]

/-- Registers 280 to 319 in the order of `Reg`. -/
def regsPiece7 : List Reg :=
  [.HKA_DAC_CODE, .HKA_DAC_CFG, .HKA_DAC_TIMER, .HKA_RB_CFG, .CAL_COUNT, .CAL_RESULT, .CAL_LAST_TIME,
   .CAL_LAST_Q, .CAL_VALUE, .CAL_TRIM_BUSY, .CAL_TSK, .THM_SENSOR, .THM_PRED, .THM_STATUS, .THM_CFG,
   .THM_LIMIT_A, .THM_LIMIT_B, .THM_LIMIT_C, .THM_STOPS, .MEM_REGION_ARMED, .MEM_STATUS, .MEM_FLIP_MASK,
   .MEM_FLIP_ADDR, .MEM_LAST_POISON, .MEM_POISON_CNT, .MEM_SCRUB_CFG, .MEM_SCRUB_LAP, .MEM_LAP_COUNT,
   .MEM_SPARE, .MEM_CORR, .MEM_REPAIR, .MEM_POISON, .DMA_SRC, .DMA_DST, .DMA_CNT, .DMA_CTRL, .DMA_FILL,
   .DMA_STATUS, .DMA_PREEMPT, .DMA_CQ_WR]

/-- Registers 320 to 350 in the order of `Reg`. -/
def regsPiece8 : List Reg :=
  [.DMA_CQ_RD, .DMA_CQ_WAITS, .DMA_CQ_REC, .EVL_CTRL, .EVL_HEAD_SEQ, .EVL_OLDEST_SEQ, .EVL_FIRST_FULL,
   .EVL_FIRST_RANGE, .EVL_DROPPED, .EVL_WRITTEN, .EVL_READ_DENIED, .PMC_CTL, .PMC_THRESH, .PMC_VALUE,
   .PMC_PRESET, .PMC_WIN, .PMC_USER_EN, .PMC_GLOBAL, .PMC_SAMPLE_LIST, .PMC_SAMPLE_MIN, .PMC_SAMPLE_DROP,
   .BST_RESULT, .BST_CTRL, .BST_UNFENCE, .BST_PART, .BST_IS_STATUS, .BST_DEC_STATE, .BST_IS_RUN,
   .BST_IS_ABORT, .BST_IS_FAIL, .BST_IS_SKIP]

/-- Every register. -/
def allRegs : List Reg :=
  regsPiece0 ++ regsPiece1 ++ regsPiece2 ++ regsPiece3 ++ regsPiece4 ++ regsPiece5 ++ regsPiece6 ++ regsPiece7 ++ regsPiece8

end Sys2Proof.Machine
end

