-- ==== Sys2Proof/Machine/Tab.lean ====
section
/-! DEFINITION. Sparse tables in one canonical form: a list of (key, value) pairs, keys strictly rising, and no entry
equal to what an unlisted key reads as. Registers, byte stores and per-index records are all held in this form, so
equal contents are equal data. -/
namespace Sys2Proof.Machine

/-- The value at key `k`; an unlisted key reads as `d k`. -/
def Tab.get {κ ν : Type} [DecidableEq κ] (d : κ → ν) : List (κ × ν) → κ → ν
  | [], k => d k
  | (k', v) :: m, k => if k = k' then v else Tab.get d m k

/-- `m` without any entry for `k`. -/
def Tab.erase {κ ν : Type} [DecidableEq κ] (k : κ) : List (κ × ν) → List (κ × ν)
  | [] => []
  | (k', v) :: m => if k = k' then Tab.erase k m else (k', v) :: Tab.erase k m

/-- `m` with the entry `(k, v)` in its place in the order `lt`. -/
def Tab.insert {κ ν : Type} [DecidableEq κ] (lt : κ → κ → Bool) (k : κ) (v : ν) : List (κ × ν) → List (κ × ν)
  | [] => [(k, v)]
  | (k', v') :: m =>
    if k = k' then (k, v) :: m
    else if lt k k' then (k, v) :: (k', v') :: m
    else (k', v') :: Tab.insert lt k v m

/-- `m` with key `k` holding `v`: writing what an unlisted key reads as removes the entry. -/
def Tab.set {κ ν : Type} [DecidableEq κ] [DecidableEq ν] (lt : κ → κ → Bool) (d : κ → ν) (m : List (κ × ν)) (k : κ)
    (v : ν) : List (κ × ν) :=
  if v = d k then Tab.erase k m else Tab.insert lt k v m

/-- Every key of `m` lies above `k`. -/
def Tab.above {κ ν : Type} (lt : κ → κ → Bool) (k : κ) (m : List (κ × ν)) : Bool := m.all fun e => lt k e.1

/-- The canonical form: keys strictly rising, no entry equal to what its key reads as when unlisted. -/
def Tab.wf {κ ν : Type} [DecidableEq ν] (lt : κ → κ → Bool) (d : κ → ν) : List (κ × ν) → Bool
  | [] => true
  | (k, v) :: m => decide (v ≠ d k) && Tab.above lt k m && Tab.wf lt d m

/-- The order of natural-number keys. -/
def natLt (a b : Nat) : Bool := decide (a < b)

end Sys2Proof.Machine
end

