-- ==== Sys2Proof/Machine/Regs.lean ====
section
/-! DEFINITION. The register file: every register that has an address, held as one sparse table keyed by register and
index, and the access to fields by name. -/
namespace Sys2Proof.Machine

/-- The key of one register instance. -/
abbrev RegKey := Reg × Nat

/-- The order of the register file's table. -/
def regLt (a b : RegKey) : Bool :=
  decide (a.1.ctorIdx < b.1.ctorIdx) || (decide (a.1.ctorIdx = b.1.ctorIdx) && decide (a.2 < b.2))

/-- Bits `[hi:lo]` of a register value, as a number. -/
def bitsOf (v : RegVal) (hi lo : Nat) : Nat := (v.extractLsb' lo (hi - lo + 1)).toNat

/-- `v` with bits `[hi:lo]` holding `x` modulo the field's width. -/
def setBitsOf (v : RegVal) (hi lo x : Nat) : RegVal :=
  (v &&& ~~~(BitVec.ofNat 512 (2 ^ (hi - lo + 1) - 1) <<< lo)) |||
    (BitVec.ofNat 512 (x % 2 ^ (hi - lo + 1)) <<< lo)

/-- The reset value that a register's table states, field by field. -/
def resetOfFields : List FieldDesc → RegVal → RegVal
  | [], v => v
  | f :: fs, v => resetOfFields fs (setBitsOf v f.hi f.lo f.reset)

/-- Spare pages of each region (Table 14-1): 16 for the ingress and egress stores, 4 for a capture partition, 8 for the
controller RAM, 4 for the event store, 2 for AO retention, none for a replay partition. -/
def sparePages (m : Nat) : Nat :=
  if m < 8 then 0 else if m < 10 then 16 else if m < 18 then 4 else if m = 18 then 8 else if m = 19 then 4 else 2

/-- What register instance `k` holds after a cold reset: its table's values; the few registers whose tables give a value
per index are listed by name. -/
def regReset (k : RegKey) : RegVal :=
  match k.1 with
  | .MEM_SPARE => BitVec.ofNat 512 (sparePages k.2 * 256)
  | .MEM_SCRUB_CFG => if k.2 < 8 then 0 else resetOfFields Reg.MEM_SCRUB_CFG.desc.fields 0
  | r => resetOfFields r.desc.fields 0

/-- The registers of the device. -/
abbrev RegFile := List (RegKey × RegVal)

/-- The value of register `r`, index `i`. -/
def RegFile.read (m : RegFile) (r : Reg) (i : Nat) : RegVal := Tab.get regReset m (r, i)

/-- The register file after register `r`, index `i`, has taken the value `v`. -/
def RegFile.write (m : RegFile) (r : Reg) (i : Nat) (v : RegVal) : RegFile := Tab.set regLt regReset m (r, i) v

/-- The register file is in its canonical form. -/
def RegFile.wf (m : RegFile) : Bool := Tab.wf regLt regReset m

/-- Field `f` of the register's instance `i`. -/
def RegFile.fld (m : RegFile) (f : Field) (i : Nat) : Nat := bitsOf (m.read f.reg i) f.hi f.lo

/-- The register file after field `f` of instance `i` has taken the value `x` (modulo its width). -/
def RegFile.setFld (m : RegFile) (f : Field) (i x : Nat) : RegFile :=
  m.write f.reg i (setBitsOf (m.read f.reg i) f.hi f.lo x)

/-- The width of a field. -/
def Field.width (f : Field) : Nat := f.hi - f.lo + 1

end Sys2Proof.Machine
end

