-- ==== Sys2Proof/Machine/State.lean ====
section
/-! DEFINITION. The state of the NZ6416 as plain data: the register file, the state that has no register, the queue of
waiting commands, and the state after reset. -/
namespace Sys2Proof.Machine

/-- The device never stops: an access violation, a refused write, an audit violation or an uncorrectable read is an event
the device records and survives. No command of the table ends in a fault. -/
inductive Fault where
  deriving DecidableEq, Repr

/-- Why a command has no next state. -/
inductive Refusal where
  /-- Raised by `exec` for a command that has no meaning yet, under its mnemonic. Safe: no claim rests on it. -/
  | notModelled (mnemonic : String)
  /-- Raised by `execPrivateInstruction` where a debug token permits a private JTAG instruction: the spec does not say what
  the debug unit does (R341). Safe: the machine stops where the hardware goes on. -/
  | jtagDebugUnit
  deriving DecidableEq, Repr

/-! ### Records -/

/-- An event record in the recorder queue (Table 15-1): TYPE, SEQ, TS, NODE, FLAGS and the body's words, the subject
first. -/
structure Rec where
  type : Nat
  seq : BitVec 32
  ts : Ts96
  node : BitVec 16
  flags : Nat
  words : List Word32
  deriving DecidableEq, Repr

/-- The recorder's mirror in AO retention (R424): the records of the kept area and the newest 16 KiB of the circulating area,
as bytes, oldest first, and the head. -/
structure MirrorX where
  kept : List (List Byte) := []
  circ : List (BitVec 32 × List Byte) := []
  head : BitVec 32 := 0xFFFFFFFF
  deriving DecidableEq, Repr

/-- The recorder without its registers: the queue of at most 64 records, the number the next record takes, the run of drops
not yet reported (R420, R423), the record numbered last; the records in the circulating area, oldest first (offset, bytes, SEQ), the records in the kept
area, and the mirror. -/
structure RecorderX where
  queue : List Rec := []
  next : BitVec 32 := 0
  dropRun : Nat := 0
  dropFirst : Nat := 0
  newest : Option Rec := none
  circ : List (Nat × Nat × BitVec 32) := []
  kept : Nat := 0
  mirror : MirrorX := {}
  wrote : Option Nat := none
  deriving DecidableEq, Repr

/-! ### Line FEC, chapter 2 -/

/-- The codeword counters of a lane as they run (Table 2-9); the registers hold snapshots of them (R55). -/
structure LfecCounts where
  rsRx : BitVec 48 := 0
  rsUncorr : BitVec 48 := 0
  rsSym : BitVec 48 := 0
  rsBits : BitVec 48 := 0
  inRx : BitVec 48 := 0
  inZero : BitVec 48 := 0
  inCorr : BitVec 48 := 0
  inFail : BitVec 48 := 0
  inFlips : BitVec 48 := 0
  hist : List (BitVec 48) := List.replicate 16 0
  deriving DecidableEq, Repr

/-- A received frame whose codewords are still to be decoded: its number F where the multiframe phase is known, whether its data stream
goes on from the frame before, the detected bits of its data region with their reliabilities, inner codewords decoded so far. -/
structure RxFrame where
  F : Option Nat
  joins : Bool
  soft : List (Bool × Nat)
  idx : Nat := 0
  deriving DecidableEq, Repr

/-- Line FEC state of a lane that no register holds: live counters, superframe boundaries counted (R58), rise of the SD
and SF counters in the window in progress, whether the lane has been LOCKED throughout it, the thresholds in force, and
whether the last LANE_STATUS named another lane (R41). -/
structure LfecX where
  live : LfecCounts := {}
  boundaries : Nat := 0
  winSym : Nat := 0
  winUncorr : Nat := 0
  winWhole : Bool := false
  sdSet : Nat := 0x1388
  sdClr : Nat := 0x09C4
  sfSet : Nat := 0x40
  sfClr : Nat := 0
  crossed : Bool := false
  /-- The boundary at which a window ended last (R58). -/
  winAt : Nat := 0
  /-- Frames to be decoded; the next one goes on from the last (R52). -/
  rxQ : List RxFrame := []
  rxJoin : Bool := false
  /-- Bits gathered of the unit with the number that follows, once its start has come; outer codewords to be decoded, by the number of
  their unit in the multiframe; the first codeword of a transparent pair, decoded (R48, R49). -/
  rxBits : Option (List Bool) := none
  rxUnit : Nat := 0
  rxWords : List (Nat × List (BitVec 10)) := []
  rxHalf : Option (List (BitVec 10)) := none
  /-- Cinch codewords decoded and not yet taken: whether the decoder passed them, and their symbols (R205). -/
  rxOut : List (Bool × List (BitVec 10)) := []
  /-- The last frame received with the multiframe phase known: F and its instant in ps (R185). -/
  frameAt : Option (Nat × Nat) := none
  deriving DecidableEq, Repr

/-! ### Line receive, chapter 3 -/

/-- The trims of one ADC sub-converter (R63): offset in 1/1,024 LSB, gain in 10^-6, skew in 0.01 fs, and the core cycle of
the last background update. -/
structure SubTrim where
  offset : Int := 0
  gain : Int := 0
  skew : Int := 0
  last : Option Nat := none
  deriving DecidableEq, Repr

/-- Receive state of a lane that no register holds. -/
structure LrxX where
  /-- Core cycle at which the attempt or recovery in progress began, attempts since the lane last left LOCKED or was
  enabled, entries to LOCKED since enable (R89). -/
  attemptStart : Nat := 0
  attempts : Nat := 0
  lockCount : BitVec 32 := 0
  /-- Core cycles of the recovery restarts (R87). -/
  restarts : List Nat := []
  /-- The acquisition configuration in force (R92). -/
  corrLock : Nat := 0x66
  corrLoss : Nat := 0x40
  snrMin : Nat := 0x30
  /-- Runs of frames the states count: candidate frames, SNR frames, valid OAM words, frames below CORR_LOSS, frames
  without a valid OAM word. -/
  candRun : Nat := 0
  snrRun : Nat := 0
  oamRun : Nat := 0
  corrMiss : Nat := 0
  oamMiss : Nat := 0
  /-- Consecutive +P frames, the frame f expected next while the superframe phase is known, the bits of m read so far,
  the last m decoded, superframes in a row with a multiframe error (R30, R84, R85). -/
  plusRun : Nat := 0
  nextF : Nat := 0
  mBits : Nat := 0
  lastM : Nat := 0
  mfErrRun : Nat := 0
  mfErrAge : Nat := 0
  /-- The predicted frame number F in recovery and whether every polarity seen has agreed with it (R84). -/
  predF : Option Nat := none
  predOk : Bool := false
  /-- Pilot SNR summed over frames of OAM_VERIFY, and over the superframe in LOCKED (R89, R90). -/
  snrSum : Nat := 0
  snrFrames : Nat := 0
  /-- Clipped samples since reset (Table 15-3). -/
  clips : Nat := 0
  /-- The two LOS sources (R88). -/
  losTussock : Bool := false
  losEnvelope : Bool := false
  /-- Core cycle of the last power-step trip of the line-RX detector, and whether it has a record (R83). -/
  lastTrip : Option (Nat × Bool) := none
  /-- Total analogue gain in 0.25 dB, newest first, each with the core cycle since which it has been in force; as far back as the
  power-step detector looks (R67, R81). -/
  gains : List (Nat × Int) := []
  /-- Core cycle up to which a TIA gain write blanks the power-step detector (R68). -/
  blankUntil : Nat := 0
  /-- A clock of the lane was lost: PENDING has no limit and ends at ADC_CAL (R23, R134). -/
  clockLost : Bool := false
  /-- Interleave trims by sub-converter (R63). -/
  trims : List (Nat × SubTrim) := []
  /-- The timing loop: its frequency integrator in 2^-16 of 0.01 ppm, its phase in 2^-16 of a position of the phase interpolator
  (R71, R73). -/
  trInteg : Int := 0
  trPhase : Int := 0
  /-- Core cycle of entry to the state (R77). -/
  entered : Nat := 0
  /-- Instant of the last frame boundary in 2^-16 ns: the reference instant of the frame that follows (R33, R244). -/
  frameStart : Option Nat := none
  /-- Slow AGC waits for the first superframe after a pool operation (R70). -/
  slowHold : Bool := false
  deriving DecidableEq, Repr

/-! ### Equaliser pool, chapter 4 -/

/-- The coefficients of a lane as 24-bit accumulators; a coefficient is the top 12 bits (R96, R105). -/
structure EqCoefs where
  ffe : List (Nat × BitVec 24) := []
  a : BitVec 24 := 0
  b1 : BitVec 24 := 0
  p1 : BitVec 24 := 0
  p2 : BitVec 24 := 0
  deriving DecidableEq, Repr

/-- Equaliser state of a lane: coefficients in force, those held when it left LOCKED (R86), taps staged by software
(R125), whether COEF_LOAD is due, bits seen per reliability in the superframe (R109), frames since EQ_TRAIN began, and
whether the frame follows a slow-AGC step or clipped beyond one sample in 1,000 over the last one (R107). -/
structure EqX where
  live : EqCoefs := {}
  stored : EqCoefs := {}
  staged : List (Nat × BitVec 12) := []
  loadDue : Option Path := none
  qhist : List Nat := List.replicate 16 0
  trainFrames : Nat := 0
  slowFrame : Bool := false
  clipped : Bool := false
  /-- The pilot SNR of the last frame was low (R107). The reference and the two errors before the next symbol, newest first (R105); the
  sum of the squared errors at the detector's input over the last frame, and their number (R109). -/
  low : Bool := false
  prevD : Int := 0
  prevE1 : Int := 0
  prevE2 : Int := 0
  noise : Nat × Nat := (0, 0)
  deriving DecidableEq, Repr

/-- A pool operation accepted by a group (Table 4-5): lane 0 or 1, MIGRATE's position and requested target slice, who asked
(0 software, 1 relief, 2 self-test), whether it has started, frames run since, the slices A (serving at the start) and B
(the one it takes), the unit in shadow, and the starting values of a ramp. `step` is the relief step it belongs to, and
`undo` marks an operation that undoes the step (R123); `event` one whose every step is an event, since a MIGRATE mismatch brought
it (R114). `id` numbers the operations of a group. -/
structure PoolOp where
  id : Nat := 0
  op : Nat
  lane : Nat
  pos : Nat := 0
  dest : Nat := 15
  source : Nat := 0
  step : Nat := 0
  undo : Bool := false
  started : Bool := false
  frames : Nat := 0
  sliceA : Nat := 15
  sliceB : Nat := 15
  unit : Nat := 2
  rampFfe : List (Nat × BitVec 24) := []
  rampA : BitVec 24 := 0
  event : Bool := false
  deriving DecidableEq, Repr

/-- An in-service test in progress (R444): kind 0 slice, 1 decoder; the resource; a retest asked by BST_UNFENCE; a test
that a MIGRATE mismatch demanded, with the slice still serving, or that follows from one (R114); aborts in a row (R446); it waits
for the controllers (R26); the core cycle at which it began or, while it is to be retried, aborted. -/
structure TestX where
  kind : Nat
  index : Nat
  retest : Bool := false
  mismatchOf : Option Nat := none
  event : Bool := false
  aborts : Nat := 0
  waits : Bool := false
  at_ : Nat := 0
  deriving DecidableEq, Repr

/-- A hardware transaction of a group's port: lane 0 or 1, sequence (0 gain write or ENABLE, 1 SQUELCH, 2 UNSQUELCH), index
of the write in its sequence or gain table, register pointer, value, attempts made. -/
structure HwTx where
  lane : Nat
  seq : Nat
  idx : Nat
  ptr : Nat
  value : Nat
  attempt : Nat
  deriving DecidableEq, Repr

/-- A software transaction of a group's port. -/
structure SwTx where
  rd : Bool
  lane : Nat
  ptr : Nat
  value : Nat
  deriving DecidableEq, Repr

/-- What a two-wire controller puts on the bus (R64): START or repeated START, a byte, a byte read and answered with NACK, STOP. -/
inductive BusSym where
  | start
  | byte (b : Byte)
  | readNack
  | stop
  deriving DecidableEq, Repr

/-- A group's two-wire port (R64, R148): hardware transactions waiting (the first is in progress), the software
transaction, whether it is the one in progress, and a configuration write held until the port is free (R94). -/
structure PortX where
  hw : List HwTx := []
  sw : Option SwTx := none
  swRunning : Bool := false
  deferred : Option Nat := none
  /-- The bus symbols of the transaction that ended last. -/
  last : List BusSym := []
  deriving DecidableEq, Repr

/-- State of a lane group that no register holds. -/
structure GrpX where
  /-- Pool operations accepted and not ended, in the order they run (R111, R117). -/
  ops : List PoolOp := []
  /-- The number the next operation takes; MIGRATEs that a mismatch brings and that wait, as lane, position, target (R114). -/
  opSeq : Nat := 0
  follow : List (Nat × Nat × Nat) := []
  /-- The lane (0 or 1) that each MLSE unit serves, in shadow included. -/
  unitLane : List (Option Nat) := [none, none]
  /-- What each relief step has done to the allocation in force: step, operation, lane (R123). -/
  reliefDone : List (Nat × Nat × Nat) := []
  /-- In-service tests, the first in progress; aborted tests to be retried; what is left of the sweep in progress, its
  first item in hand (0 FREE slice, 1 ALLOCATED slice, 2 spare decoder, 3 decoder in service; index); the period the last sweep
  began in; the last slice to pass (R444, R446). -/
  tests : List TestX := []
  retries : List TestX := []
  sweep : List (Nat × Nat) := []
  sweepNo : Option Nat := none
  lastPass : Option Nat := none
  /-- A BIST has fenced the whole group (R437, R443). -/
  fenced : Bool := false
  /-- The lane each inner decoder serves: 0 or 1 (R46). -/
  decLane : List Nat := [0, 0, 0, 1, 1, 1, 0]
  /-- The lane of the group that became short of a decoder first (R46). -/
  shortFirst : Option Nat := none
  tia : PortX := {}
  drv : PortX := {}
  /-- The TIA gain index in force per lane. -/
  tiaIdx : List Nat := [0, 0]
  /-- The lane the mask engine estimates next (R144). -/
  maskLane : Nat := 0
  /-- The estimate in progress spans a change of bank, source or SWING (R147). -/
  maskSpoiled : Bool := false
  /-- The estimate in progress: |X(b)|² summed over its blocks so far, and how many they are (R144). -/
  maskSum : List Nat := []
  maskBlocks : Nat := 0
  /-- Runs of failing and of passing estimates per lane (R146). -/
  maskRuns : List (Nat × Nat) := [(0, 0), (0, 0)]
  /-- The lanes that were enabled before the group was powered down, to be enabled again (R354). -/
  held : Nat := 0
  deriving DecidableEq, Repr

/-! ### Line transmit, chapter 5 -/

/-- A bank of transmit coefficients (R130): MAIN, 15 taps, 64 table entries. -/
structure TxBank where
  main : Nat := 0
  fir : List (BitVec 10) := []
  lut : List (BitVec 10) := []
  deriving DecidableEq, Repr

/-- A pattern checker (R143): the symbols it has seeded itself from, or the last ones of a search, oldest first; symbols since the seed,
searched, or of the pattern; where the errors of the last 1,024 symbols stand. -/
structure ChkX where
  seed : List (BitVec 2) := []
  at_ : Nat := 0
  errs : List Nat := []
  deriving DecidableEq, Repr

/-- Transmit state of a lane that no register holds. -/
structure LtxX where
  /-- The active bank; the shadow bank is in the registers. -/
  bank : TxBank := {}
  /-- The pattern in force (`PAT`, `PLACE`, `BYPASS`) and the next symbol of it (R141). -/
  pat : Nat := 0
  place : Nat := 0
  bypass : Nat := 0
  patPos : Nat := 0
  /-- Frame number F of the next frame and completed multiframes since enable (R32). -/
  nextF : Nat := 0
  mfCount : Nat := 0
  /-- Bits of the data stream waiting for a frame, the place of the first one in its epoch or period (R42, R48, R49), and the units of
  10,880 bits that wait for it in transparent service, each with the host lane it comes from, 0 lower or 1 higher (R49). -/
  stream : List Bool := []
  streamAt : Option Nat := none
  units : List (Nat × List Bool) := []
  /-- The frame sent last: its F, pilot polarity, OAM word before whitening. -/
  sentF : Nat := 0
  sentNeg : Bool := false
  sentOam : OamWord := 0
  /-- A LANE_STATUS word has gone in this superframe (R25). -/
  statusSent : Bool := false
  /-- The last 30 levels of the frame builder, and the DAC codes of the symbols sent at the last frame start (R126). -/
  tail : List Int := []
  codes : List Int := []
  /-- The SQUELCH sequence has run since the lane last left SQUELCHED; the driver is as SQUELCH left it; the UNSQUELCH and the
  ENABLE sequence are running (R136, R149). -/
  squelchRan : Bool := false
  drvSquelched : Bool := false
  unsqRunning : Bool := false
  enabling : Bool := false
  /-- The enable is abandoned at the end of the write in progress (Table 5-5). -/
  abandon : Bool := false
  /-- Transparent service: the rate has slewed, so host codeword units enter (R138); they do since a period boundary of
  R49; the lane counts its own frames (R32). -/
  relaying : Bool := false
  relayIn : Bool := false
  counting : Bool := false
  /-- The transmit instant of the frame sent last, in 2^-16 ns, and the rate of the lane's phase interpolator against the local clock in
  0.01 ppm (R138, R247). -/
  sentAt : Option Nat := none
  rate : Int := 0
  deriving DecidableEq, Repr

/-! ### Host lanes, chapter 6 -/

/-- A Causeway message being reassembled from fragments: bytes so far and the index expected next (R308). -/
structure Reassembly where
  bytes : List Byte := []
  next : Nat := 0
  deriving DecidableEq, Repr

/-- A cell the device sends to the host: KIND, CH, payload (Table 6-9). -/
structure Cell where
  kind : Nat
  ch : Nat
  payload : List Byte
  deriving DecidableEq, Repr

/-- A block of 66 bits: the sync header as a number whose bit 1 goes first, and the 64 payload bits (R165). -/
abbrev Blk := BitVec 2 × BitVec 64

/-- State of a host lane that no register holds. -/
structure HsiX where
  /-- Cells accepted (Table 15-3). -/
  cells : Nat := 0
  /-- Adaptation, frequency and sampling delay are held from an earlier lock; the pass in progress is warm (R159, R176). -/
  stored : Bool := false
  warm : Bool := false
  /-- A clock of the lane was lost: PENDING has no limit and ends in a cold CDR pass; a QUIET lane wakes to one when HCKI
  returns (Tables 6-4, 6-10). -/
  clockLost : Bool := false
  /-- Core cycle of the last write of 1 to RX_QUIET (Table 6-10). -/
  quietAt : Option Nat := none
  /-- RX_QUIET was written 1 while the receiver could not yet take it (R173). -/
  rxQuietDue : Bool := false
  /-- FCM block lock, failing framing blocks in a row, FCNT of the last good framing block (R168, R169). -/
  blockLock : Bool := false
  badFrames : Nat := 0
  lastFcnt : Option Nat := none
  /-- Good and failing tag blocks in a row (R190). -/
  cellGood : Nat := 0
  cellBad : Nat := 0
  /-- A transmit equaliser value waiting for the 1,000-cycle boundary; the taps in force ([23:16] POST1, [15:8] PRE1, [7:0]
  PRE2); the target and the code in force of AMP (R156, R385). -/
  txeq : Option Nat := none
  taps : Nat := 0
  ampTarget : Nat := 0
  ampNow : Nat := 0
  /-- The CMIS output equalisation codes pre, post, amplitude as written, and whether they wait for the controllers (R156,
  R318). -/
  eqCodes : Nat × Nat × Nat := (0, 0, 0)
  eqWaits : Bool := false
  /-- TX_QUIET was written during WAKING (R195). A wake waits in PENDING for a clock (R172); PENDING after a clock loss has no
  limit. -/
  quietDue : Bool := false
  wakeDue : Bool := false
  txClockLost : Bool := false
  /-- Cells since the last CONTROL cell, sent and received (R194). -/
  cellsTx : Nat := 0
  cellsRx : Nat := 0
  /-- Reassembly of a Causeway message in CONTROL entries, and entries waiting to be sent to the host (R308). -/
  frag : Option Reassembly := none
  entries : List (List Byte) := []
  /-- Granules delivered and waiting for a cell position: channel and payload (R194, R203). -/
  outQ : List (Nat × List Byte) := []
  /-- The last cell sent to the host. -/
  sent : Cell := ⟨0, 0, []⟩
  /-- Transparent service: units of the line lane are relayed to this host lane (R178). -/
  relaying : Bool := false
  /-- The receive FFE and DFE, in steps of the sign-sign LMS; they have tracked since the lane locked (R159). The sampling delay set at
  lock, and the core cycle of the edge monitor's last report (R164). -/
  ffe : List Int := List.replicate 7 0
  dfe : Int := 0
  tracked : Bool := false
  lockDelay : Nat := 0
  trackAt : Nat := 0
  /-- Headers tested under block lock, modulo nothing, and where the invalid ones of the last 1,024 stand (R168). -/
  shSeen : Nat := 0
  shBad : List Nat := []
  /-- The last 58 scrambled bits received and sent, the newest in bit 0 (R167). -/
  descr : BitVec 58 := 0
  scr : BitVec 58 := 0
  /-- FCM frames waiting to be dealt: FCNT, core cycle of arrival, descrambled payload blocks (R170). -/
  frames : List (Nat × Nat × List Blk) := []
  /-- Payload blocks of cells, received and to be sent (R190). -/
  rxBlocks : List Blk := []
  txBlocks : List Blk := []
  /-- The FCM frame and the codeword sent last (R165, R189); codewords sent modulo 4,096. -/
  sentFrame : List Blk := []
  sentCw : List (BitVec 10) := []
  cwSent : Nat := 0
  /-- Transparent service: units of the line lane waiting for this host lane, and the codeword of a pair that waits for its
  other half (R49, R178). -/
  lineUnits : List (List Bool) := []
  half : Option (List (BitVec 10)) := none
  deriving DecidableEq, Repr

/-- A port of terminated Ethernet (R181 to R188). Host to line: blocks waiting, the frame being written is cut, the next granule
by number, the block sent last. Line to host: granules waiting by number, the number expected, blocks waiting, the block sent last.
The two skews, and whether the last granule of a direction held a Remote Fault. -/
structure HpmX where
  up : List Blk := []
  cut : Bool := false
  txAt : Option Nat := none
  upLast : Blk := (0, 0)
  rx : List (Nat × List Blk) := []
  rxAt : Option Nat := none
  down : List Blk := []
  downCut : Bool := false
  downLast : Blk := (0, 0)
  hostSkew : Bool := false
  lineSkew : Bool := false
  rfUp : Bool := false
  rfDown : Bool := false
  /-- A Causeway frame is being taken out of the stream towards the line; blocks of such frames waiting to go to the hosts (R187). -/
  cwIn : Bool := false
  cwOut : List Blk := []
  deriving DecidableEq, Repr

/-! ### Cinch, chapter 7 -/

/-- A granule waiting in the ingress buffer: payload and bits [63:0] of its acceptance time. -/
structure Gran where
  payload : List Byte
  tsIn : BitVec 64
  deriving DecidableEq, Repr

/-- A granule waiting in the egress buffer: its CHSEQ and payload. -/
structure EgrGran where
  chseq : BitVec 32
  payload : List Byte
  deriving DecidableEq, Repr

/-- The part of a channel's stripe history in force from CHSEQ `m0`: R201 and R219. -/
structure StripeSpan where
  m0 : BitVec 32
  mask : BitVec 16
  /-- The lanes that have delivered its STRIPE record; all of them for the stripe at opening (R219). -/
  seen : List Nat := List.range 16
  deriving DecidableEq, Repr

/-- CHSEQs known lost: those from `start` up to, not including, `stop` that the channel's stripes give `lane`; all of them without a
lane (R216, R218, R230). -/
structure LostRun where
  lane : Option Nat
  start : BitVec 32
  stop : BitVec 32
  deriving DecidableEq, Repr

/-- State of a Cinch channel that no register holds. -/
structure ChanX where
  ing : List Gran := []
  /-- CHSEQ of the next granule to be sent, and the CHSEQ at which the transmit stripe took effect. -/
  txNext : BitVec 32 := 0
  txM0 : BitVec 32 := 0
  egr : List EgrGran := []
  /-- CHSEQ of the next granule to be delivered; CHSEQs known lost and not yet passed (R216, R218, R230). -/
  rxNext : BitVec 32 := 0
  lost : List LostRun := []
  /-- Stripe spans of the receive side, newest first, and for each lane the lowest CHSEQ it may carry next; lanes whose receive stream has
  closed since a STRIPE record of the channel came on them (R230). -/
  spans : List StripeSpan := []
  laneNext : List (Nat × BitVec 32) := []
  cut : List Nat := []
  /-- FRE of the loop-1 and loop-2 owner (R224). -/
  fre1 : BitVec 32 := 0
  fre2 : BitVec 32 := 0
  /-- Totals as last sent: loop-1 GRANT, loop-2 GRANT, loop-2 RETURN, loop-3 RETURN; and those a refresh made due (R223). -/
  sent1 : BitVec 32 := 0
  sent2g : BitVec 32 := 0
  sent2r : BitVec 32 := 0
  sent3 : BitVec 32 := 0
  due1 : Bool := false
  due2g : Bool := false
  due2r : Bool := false
  due3 : Bool := false
  /-- Line-loop CREDIT words are discarded after opening (R234). -/
  discard : Bool := false
  /-- A CHOPEN record waits for an open lane (R234). -/
  chopenDue : Bool := false
  /-- Length of the run of consecutive overflow discards (R226). -/
  ovfRun : Nat := 0
  deriving DecidableEq, Repr

/-- An entry of the replay directory (R207): SEQ, slot, channel, CHSEQ, and whether the granule is a CONTROL granule. -/
structure DirEntry where
  seq : BitVec 32
  slot : Nat
  control : Bool
  chan : Nat
  chseq : BitVec 32
  deriving DecidableEq, Repr

/-- A granule on the line: line tag and payload (Table 7-1). -/
structure LineGran where
  kind : Nat
  chan : Nat
  epoch : Nat
  payload : List Byte
  deriving DecidableEq, Repr

/-- Cinch state of a line lane that no register holds. -/
structure CLaneX where
  /-- The next SEQ of the replay run in progress; an empty run ends at once (R213). -/
  run : Option (BitVec 32) := none
  /-- CONTROL granules waiting for a position, as payloads (R202). -/
  ctlQ : List (List Byte) := []
  /-- The replay directory, newest first, and the second copies of the last 16 CONTROL granules (R207). -/
  dir : List DirEntry := []
  copies : List (BitVec 32 × List Byte) := []
  /-- The slot the next numbered granule goes to, and slots taken out of use (R206, R231). -/
  slot : Nat := 0
  deadSlots : List Nat := []
  /-- EPOCH bits of the last good granule; a bad position lies between the last good granule with other EPOCH bits and
  now (R212). -/
  lastEpoch : Nat := 0
  badSince : Bool := false
  /-- Records of accepted CONTROL granules, to be processed in order (R215). -/
  ctlIn : List (List Byte) := []
  /-- A numbered granule was discarded in the NACK_TO interval in progress (R210). -/
  dropped : Bool := false
  /-- The lane is shed by its far SHED value as last received (R229). -/
  farShed : Bool := false
  /-- The lane's shed was lifted from a software shed (Table 7-10). -/
  wasSoftware : Bool := false
  /-- The NACK of this stream was deferred to the next entry to LOCKED (R211). -/
  nackAtLock : Bool := false
  /-- The channel served by weighted round robin and the granules it may still send in its turn (R202). -/
  wrrChan : Nat := 0
  wrrLeft : Nat := 0
  /-- The granule sent at the last position; IDLE granules sent since reset (Table 15-3). -/
  sent : LineGran := ⟨0, 0, 0, []⟩
  idles : Nat := 0
  deriving DecidableEq, Repr

/-- A NACK waiting for OAM words: the lane with the gap, SEQ, EPOCH, copies left, the lane that carried the first copy
(R211). -/
structure NackReq where
  lane : Nat
  seq : BitVec 32
  epoch : Nat
  left : Nat
  usedOn : Option Nat
  deriving DecidableEq, Repr

/-- Cinch state of the device: NACKs waiting, the round-robin position of the credit slots (R223). -/
structure CinX where
  nacks : List NackReq := []
  creditRr : Nat := 0
  deriving DecidableEq, Repr

/-! ### Time base, chapter 8 -/

/-- A source of time (R253): none selected, the device itself, or the far device with this node ID. -/
inductive TimeSource where
  | none_
  | self
  | far (node : Nat)
  deriving DecidableEq, Repr

/-- The TS96 clock, its servo and its PPS pins. -/
structure TimeX where
  /-- Seconds, and nanoseconds in units of 2^-48 ns (R240). -/
  sec : Nat := 0
  sub : Nat := 0
  /-- The integral term of the servo, in units of `ADJ` ÷ 2^32 (R256). -/
  integ : Int := 0
  source : TimeSource := .none_
  /-- A first selection or change of a far source waits for its first combined sample (R257). -/
  resel : Bool := false
  /-- Core cycle since which every combined sample has exceeded STEP_THR (R257). -/
  phaseSince : Option Nat := none
  /-- `ADJ` was last steered by a LOCKED source (R261). -/
  steered : Bool := false
  /-- The bound at the core cycle `boundAt`, in ps; it grows by `boundPpb` of elapsed time (R261). -/
  bound : Nat := 0
  boundAt : Nat := 0
  boundPpb : Nat := 0
  /-- PPS_IN (R266, R267): edges in a row beyond PPS_WIN, edges in a row within 20 ns, an edge has been used. -/
  ppsOutRun : Nat := 0
  ppsGoodRun : Nat := 0
  ppsSeen : Bool := false
  /-- PPS_OUT: pin level, core cycle of its last rise (R268). -/
  ppsOut : Bool := false
  ppsOutLast : Option Nat := none
  /-- The second of that rise (R268). -/
  ppsOutSec : Option Int := none
  /-- The filtered offset, in 2^-16 ns, and the core cycle since which it has stayed within LOCK_THR (R260). -/
  filtered : Int := 0
  nearSince : Option Nat := none
  /-- The best candidate and the core cycle since which it has been best; the core cycle since which the device has been its own source
  with no LOCKED far candidate; the core cycle of the last PPS_IN edge (R254, R260, R267). -/
  best : Option (TimeSource × Nat) := none
  quietAt : Nat := 0
  ppsAt : Option Nat := none
  /-- The frame with a PTP message forwarded last (R270). -/
  ptp : List Byte := []
  /-- The near captures of an asymmetry calibration in progress, in 2^-16 ns (R252). -/
  calCaps : List Int := []
  deriving DecidableEq, Repr

/-- Time transfer state of a line lane that no register holds. -/
structure TLaneX where
  /-- Tag and transmit instant (2^-16 ns) of the last four TX_FINE words, newest first (R249). -/
  fines : List (Nat × Int) := []
  /-- L div 2^22 of the transmit instant of this multiframe's frame 0 of superframe 0 (R246: COARSE). -/
  coarse : Nat := 0
  /-- Tag and receive instant of the last TX_FINE received and not yet answered by an RX_FINE (R246). -/
  toAnswer : Option (Nat × Int) := none
  /-- The TX_FINE received and waiting for its COARSE: FINE value, receive instant, core cycle (R247). -/
  fineRx : Option (Nat × Int × Nat) := none
  /-- Core cycle of the last rtt (R249). -/
  rttAt : Nat := 0
  /-- The last SOURCE and BOUND of the far device; none received yet. -/
  source : Option (BitVec 40) := none
  farBound : Nat := 0xFFFFFFFF
  /-- Far node ID of the lane, from LANE_STATUS or OPEN; it equals the own one (R271). -/
  farNode : Option Nat := none
  dup : Bool := false
  /-- Core cycle of the last theta sample; none yet. Runs of excluded and of good samples (R255). -/
  thetaAt : Option Nat := none
  exclRun : Nat := 0
  goodRun : Nat := 0
  deriving DecidableEq, Repr


/-! ### Management, chapter 10 -/

/-- Notification of one session: classes subscribed, and the class and record of a NOTIFY that is due (R314). -/
structure NotifyX where
  classes : Nat := 0
  due : Option (Nat × Option Rec) := none
  deriving DecidableEq, Repr

/-- Causeway messages on their way to one far node through the tunnel (R311): messages waiting, fragments of the message in
progress dealt to lanes (lane, CAUSEWAY payload), core cycle at which the last fragment of a message went. -/
structure TunTx where
  node : Nat
  msgs : List (List Byte) := []
  frags : List (Nat × BitVec 44) := []
  lastAt : Option Nat := none
  deriving DecidableEq, Repr

/-- A session of Causeway by slot (R313, R336 to R338): who opened it, the transcript hash, the keys of requests, replies and
FINISH, the last TAG accepted and the last sent, whether FINISH has passed, AUTH_FAIL replies in a row, the core cycle of the last
valid message, the slot of the ADMIN key that proved the role, the core cycle of the last NOTIFY. -/
structure SessX where
  via : Via := .cinch 0
  th : List Byte := []
  kReq : List Byte := []
  kRsp : List Byte := []
  kFin : List Byte := []
  rx : Nat := 0
  tx : Nat := 0
  done : Bool := false
  fails : Nat := 0
  used : Nat := 0
  admin : Option Nat := none
  notified : Option Nat := none
  deriving DecidableEq, Repr

/-- A tunnelled message being reassembled from one far node: fragments by index, the index of the LAST one (R311). -/
structure TunRx where
  node : Nat
  frags : List (Nat × List Byte) := []
  last : Option Nat := none
  deriving DecidableEq, Repr

/-- A tunnelled request outstanding to a far node: its requester, TYPE, SESSION and TAG, the core cycle of its relay (R312). -/
structure TunReq where
  node : Nat
  via : Via
  type : Nat
  session : Nat
  tag : Nat
  since : Nat := 0
  deriving DecidableEq, Repr

/-- The two-wire target (R295 to R298): the current offset; whether the last command was acknowledged and what it returned; the
lengths of SETMWL and SETMRL; a protocol error since GETSTATUS; the payload of the interrupt sent last. -/
structure BusX where
  offset : Nat := 0
  ack : Bool := true
  reply : List Byte := []
  mwl : Nat := 256
  mrl : Nat := 256
  protoErr : Bool := false
  ibiSent : List Byte := []
  deriving DecidableEq, Repr

/-- The vendor window (R302 to R304): base in force, STREAM, the status bits, bytes staged (window offset, byte), the 480 words of
the mirror, the bytes of `WIN_ADDR` as written, the words captured by a read of their byte +0. -/
structure WinX where
  base : Nat := 0
  stream : Bool := false
  ready : Bool := true
  rej : Bool := false
  denied : Bool := false
  busy : Bool := false
  staged : List (Nat × Byte) := []
  mirror : List Nat := []
  addr : Nat := 0
  caps : List (Nat × Nat) := []
  deriving DecidableEq, Repr

/-- Management state that no register holds. -/
structure MgtX where
  /-- Messages to the far nodes. -/
  tun : List TunTx := []
  /-- Interrupts to request: class bit, bits [23:0] of the record that set it, and of a request that was NACKed and waits 100 µs the
  core cycle of the NACK (R300). -/
  ibi : List (Nat × Nat × Option Nat) := []
  /-- Per session slot: subscriptions and notifications due (R314). -/
  notify : List NotifyX := List.replicate 4 {}
  sess : List (Nat × SessX) := []
  /-- Reassembly from far nodes and requests outstanding to them. -/
  tunRx : List TunRx := []
  tunReq : List TunReq := []
  /-- Messages held while the controllers restart (R315). -/
  held : List (Via × List Byte) := []
  /-- The last message sent on each port, with its destination (R308). -/
  eth : List (Nat × (Nat × List Byte)) := []
  bus : BusX := {}
  win : WinX := {}
  /-- CMIS bytes written by the host or kept by firmware: key 256 × (256 × page + bank) + byte; lower memory has page 0. -/
  cmis : List (Nat × Byte) := []
  /-- CMIS control writes latched while the controllers restart, by key (R318). -/
  cmisLater : List (Nat × Byte) := []
  /-- The word that the last register read returned (R6). -/
  read : Nat := 0
  /-- The response being streamed, the core cycle of the nonce (R307); core cycles of the password mismatches of the last 60 s, the
  lockout and the core cycle that ends it (R306). -/
  authData : List Byte := []
  fails : List Nat := []
  lockout : Bool := false
  lockEnd : Nat := 0
  nonceAt : Nat := 0
  /-- The slot of the key that gave the bus its ADMIN role (R324). -/
  busKey : Option Nat := none
  deriving DecidableEq, Repr

/-! ### Tussock, chapter 12 -/

/-- An input of Tussock (R364): its samples and its filtered values, newest first. -/
structure TskInX where
  samples : List Nat := []
  ys : List Nat := []
  deriving DecidableEq, Repr

/-- A rule of Tussock (R365): consecutive evaluations towards a change, consecutive ones without a step condition, and
whether a step rule is armed. -/
structure TskRuleX where
  run : Nat := 0
  clear : Nat := 0
  fired : Bool := false
  deriving DecidableEq, Repr

/-- Pins. -/
structure PinsX where
  /-- GPIO levels as their roles mean them (asserted), bit p for GPIO_p: inputs as driven, outputs as the device drives
  them. -/
  gpio : BitVec 16 := 0
  /-- Line lanes whose CMIS Tx-disable control is set (R135). -/
  cmisTx : BitVec 16 := 0
  deriving DecidableEq, Repr

/-! ### Temperature, chapter 16 -/

/-- A temperature sensor (R448 to R451), in 0.125 °C: its samples of the last 1 ms, newest first; its prediction; the values
it contributed every 1 ms, newest first; evaluations in a row beyond 6.0 °C and within 3.0 °C; its value at the start of the
10 ms window, and the windows in a row above and not above 2.0 °C; whether it holds the rate alarm. -/
structure SensX where
  samples : List Int := []
  pred : Option Int := none
  values : List Int := []
  farRun : Nat := 0
  nearRun : Nat := 0
  winStart : Option Int := none
  rises : Nat := 0
  calms : Nat := 0
  alarm : Bool := false
  hotAt : Option Nat := none
  deriving DecidableEq, Repr

/-- Thermal state that no register holds: T is at or above WARN; core cycles of the stops of the last hour; the last stop
was orderly; the drain of an orderly stop is running, and since when; core cycles at which the relief level last changed, and since
which T has stayed at or below `RELIEF_OFF` (or the level last fell), and below `RESTART` (R450, R455). -/
structure ThmX where
  warn : Bool := false
  drainAt : Nat := 0
  reliefAt : Option Nat := none
  coolAt : Option Nat := none
  belowAt : Option Nat := none
  stops : List Nat := []
  orderly : Bool := false
  draining : Bool := false
  deriving DecidableEq, Repr

/-! ### Memory and DMA, chapter 14 -/

/-- What the stores hold beside their bytes: error patterns in light codewords by word address, and whether a flip mask put
them there; errors of check symbols (key 16 × page address + 4 × column + symbol); poison marks by 8-byte word; pages under
repair; core cycles of the repairs of the last second by page; the lap in which the scrubber last corrected a word; pages whose
retirement copy runs; replay pages mapped out; where the scrubber is in a region (page, beat, core cycle of the lap's start);
writes that the flip mask still alters (R392 to R406). -/
structure MemX where
  errs : List (Nat × (Nat × Bool)) := []
  checkErrs : List (Nat × Nat) := []
  poison : List (Nat × Bool) := []
  repairing : List Nat := []
  repairAt : List (Nat × List Nat) := []
  fixed : List (Nat × Nat) := []
  copying : List Nat := []
  mappedOut : List Nat := []
  scrub : List (Nat × (Nat × Nat × Nat)) := []
  lapLast : Nat := 17
  flipLeft : Nat := 0
  deriving DecidableEq, Repr

/-- One range of a DMA transfer: source (ignored by a fill), destination, bytes, whether it is a fill (R409). -/
structure DmaEntry where
  src : Nat
  dst : Nat
  cnt : Nat
  fill : Bool
  deriving DecidableEq, Repr

/-- A transfer of a DMA channel (R407 to R414): its entries, the one in hand and the bytes of it moved, bytes written in all,
the bytes of the burst in progress moved before a pre-emption; the flags of its record; the role that wrote GO; ABORT has been
written; it is over with a status; beats of the burst in progress moved before a pre-emption; its record, with that status,
waits for the queue; the stream whose burst it runs, and the stream record. -/
structure DmaX where
  entries : List DmaEntry := []
  entry : Nat := 0
  moved : Nat := 0
  bytes : Nat := 0
  desc : Bool := false
  preempted : Bool := false
  strict : Bool := false
  armed : Bool := false
  poisoned : Bool := false
  withdrawn : Bool := false
  index : Bool := false
  aborting : Bool := false
  ended : Option Nat := none
  beats : Nat := 0
  waiting : Option Nat := none
  stream : Option Nat := none
  record : List Byte := []
  deriving DecidableEq, Repr

/-- The DMA engine: the channel whose burst runs, the channel granted last, records queued so far, beats
moved by channel since reset, the channels that wait for the completion queue, first to finish first (R414). -/
structure EngineX where
  current : Option Nat := none
  last : Nat := 15
  seq : Nat := 0
  beats : List (Nat × Nat) := []
  waits : List Nat := []
  deriving DecidableEq, Repr

/-! ### Power, chapter 12 -/

/-- A wake in progress (R358 to R360): source, detail, sources seen (bit c − 1), attempt, stage in progress, whether it waits for
its retry, the core cycle of the source. -/
structure WakeX where
  source : Nat
  detail : Nat := 0
  also : Nat := 0
  attempt : Nat := 1
  stage : Nat := 1
  waiting : Bool := false
  at_ : Nat := 0
  deriving DecidableEq, Repr

/-- A BIST in progress (R437 to R443): at boot or at shut-down, partitions done as a mask, fences found by group: masks of slices,
MLSE units, decoders, and the whole group; the core cycle its schedule counts from, and the one at which `WARN` held it (R450). -/
structure BistX where
  boot : Bool
  at_ : Nat := 0
  heldAt : Option Nat := none
  done : Nat := 0
  fences : List (Nat × (Nat × Nat × Nat × Bool)) := []
  deriving DecidableEq, Repr

/-- Power state that no register holds. -/
structure PwrX where
  /-- Asleep: 0 awake, 1 DOZE, 2 DEEP; whether the sleep has passed through DOZE into DEEP. -/
  sleep : Nat := 0
  passed : Bool := false
  /-- A power command waits for the end of a load, an update or a fuse write. -/
  deferred : Option Nat := none
  /-- The CMIS LowPwrRequestSW bit; ACTIVE was left under the request (R352). -/
  lpSw : Bool := false
  lpLeft : Bool := false
  /-- The sleep being entered while the shut-down BIST runs: 1 DOZE, 2 DEEP; a wake source that came meanwhile. -/
  goal : Nat := 0
  early : Option WakeX := none
  wake : Option WakeX := none
  /-- The last wake succeeded (R361). -/
  wakeOk : Bool := true
  /-- The POWER alert latch; TRIPPED until RESET_N (R454). -/
  latch : Bool := false
  tripped : Bool := false
  /-- The reset followed a trip: the boot waits for T below RESTART (R455); the HKA domain powers up at this boot. -/
  afterTrip : Bool := false
  hkaUp : Bool := true
  /-- The cause of the boot in progress or last made, and the state it leads to. -/
  cause : Nat := 0
  toActive : Bool := true
  bist : Option BistX := none
  /-- The copy of the BIST record in AO retention (R440). -/
  bistCopy : List Byte := []
  /-- Records held while asleep: type, subject kind, index, words (R362, R366). -/
  held : List (Nat × Nat × Nat × List Nat) := []
  /-- Alert classes that rules of Tussock set in DOZE, to be set at wake (R366). -/
  heldCls : List Nat := []
  /-- The instant of the last loss of the device's clocks, in AO retention (R23). -/
  clkLoss : Option Ts96 := none
  /-- A write of LowPwrRequestSW latched while the controllers restart (R318). -/
  lpSwLater : Option Bool := none
  deriving DecidableEq, Repr

/-! ### Housekeeping converters, chapter 13 -/

/-- A conversion, in progress or requested urgently (R374, R375): channel, source, order minus 1; who asked (0 scan, 1 software, 2
read-back, 3 self-calibration); for a read-back the update it belongs to; low-power mode; VDD_HKA has tripped during it; the core cycle at
which its last window ends. -/
structure ConvX where
  ch : Nat
  src : Nat
  order : Nat
  kind : Nat
  gen : Nat := 0
  lp : Bool := false
  supply : Bool := false
  due : Nat := 0
  deriving DecidableEq, Repr

/-- The decimation accumulator of a channel (R379, R380): A_now, A_prev, ticks in the block, whether every sample was valid,
whether it restarts at the next tick. -/
structure DecX where
  acc : BitVec 36 := 0
  prev : BitVec 36 := 0
  ticks : Nat := 0
  valid : Bool := true
  restart : Bool := true
  deriving DecidableEq, Repr

/-- A DAC (R381 to R383): gain in force (×2), output driven, updates so far, a read-back is due and since which core cycle, read-backs
failed in a row, updates refused under HOLD_ON_FAULT; the engine cycle of the last write, with the code, gain and enable that preceded it;
the offset trim in force and its target (R385). -/
structure DacX where
  gain : Bool := false
  on : Bool := false
  gen : Nat := 0
  rbDue : Bool := false
  rbAt : Nat := 0
  fails : Nat := 0
  held : Bool := false
  before : Option (Nat × Nat × Bool × Bool) := none
  trim : Int := 0
  trimTo : Int := 0
  deriving DecidableEq, Repr

/-- A result stream (R377, R378): records so far, records waiting for its DMA channel. -/
structure StreamX where
  seq : Nat := 0
  queue : List (List Byte) := []
  deriving DecidableEq, Repr

/-- Housekeeping state that no register holds: the conversion in progress, urgent requests in order of arrival, device requests
to be retried, the next channel of the scan, the self-calibration in force (offset code, gain correction in 2^-24) and the
ground code of the run in progress, the DAC read back last, per input of Tussock the last pairs (y, RX power) of R389, newest first, the
engine cycle, channel and former value of the result written last, the last result of a channel before one with SUPPLY, the code of channel
37 at the last self-calibration, the trims of the ADC reference and the bandgap in force and their targets (R385). -/
structure HkaX where
  conv : Option ConvX := none
  urgent : List ConvX := []
  retry : List ConvX := []
  scanAt : Nat := 0
  offset : Int := 0
  gain : Int := 0
  ground : Int := 0
  rbLast : Nat := 31
  pairs : List (Nat × List (Nat × Nat)) := []
  last : Option (Nat × Nat × Nat) := none
  good : List (Nat × Nat) := []
  cal37 : Option Nat := none
  refs : Int × Int := (0, 0)
  refTo : Int × Int := (0, 0)
  deriving DecidableEq, Repr

/-! ### Performance counters, chapter 15 -/

/-- A performance counter (R427 to R433): the total of its source when last looked at, whether the window in progress has been
counted whole, the core cycle and the time of a wrap not yet dealt with, the core cycle of its last sample; the core cycle in which it was
last reloaded from its preset, with the value that it had. -/
structure PmcX where
  last : Nat := 0
  whole : Bool := false
  wrapAt : Option (Nat × Ts96) := none
  lastSample : Option Nat := none
  was : Option (Nat × Nat) := none
  deriving DecidableEq, Repr

/-! ### Harness loads, chapter 9 -/

/-- A load in progress (R283 to R293): its command (the code of `HRN_LOAD_CTRL.CMD`, 0 for the load of a boot), the image, bytes
were lost beyond 262,144, its stage (0 verifying, 1 PENDING, 2 draining, 3 waiting for Q, 4 REBUILDING, 5 the previous
configuration retuned back, 6 writing flash), whether it drains, the groups it replaces, whether the image is FULL, the
configuration it brings and the one before, the groups whose states follow it and their states before, the relief level when its checks
ended, the flash slot a boot reads. -/
structure LoadX where
  cmd : Nat
  image : List Byte
  excess : Bool := false
  stage : Nat := 0
  drain : Bool := false
  mask : Nat := 0
  full : Bool := false
  new : List ((Nat × Nat) × List Byte) := []
  old : List ((Nat × Nat) × List Byte) := []
  shown : List Nat := []
  relief : Nat := 0
  prev : List Nat := []
  slot : Nat := 0
  /-- Core cycle at which the drain began (R288). -/
  drainAt : Nat := 0
  deriving DecidableEq, Repr

/-- Harness state that no register holds: the staging buffer, whether bytes beyond it were discarded, the load in progress, the
header of the loaded full image (empty: none), those of the partial images applied since, images accepted since cold start. -/
structure HrnX where
  staging : List Byte := []
  excess : Bool := false
  load : Option LoadX := none
  header : List Byte := []
  partials : List (List Byte) := []
  accepted : BitVec 16 := 0
  deriving DecidableEq, Repr

/-- Core cycles at which the line and the host synthesisers were last asked to lock. -/
structure ClkX where
  line : List (Nat × Nat) := []
  host : List (Nat × Nat) := []
  deriving DecidableEq, Repr

/-! ### Security, chapter 11 -/

/-- A firmware update or download (R330, R334): slot (0 A, 1 B, 2 none: download in RECOVERY), bytes so far where it is a
download, whether one was discarded, whether FINISH is due to be judged. -/
structure FwUpX where
  slot : Nat
  bytes : List Byte := []
  excess : Bool := false
  due : Bool := false
  deriving DecidableEq, Repr

/-- The instruction in force at the JTAG port (R341). -/
inductive JtagIr where
  | idcode | bypass | sample | extest
  deriving DecidableEq, Repr

/-- The JTAG port: the instruction in force; what its data register captured; the boundary cells last shifted in, which EXTEST
drives onto the pins. -/
structure JtagX where
  ir : JtagIr := .idcode
  captured : Nat := 0
  cells : List Bool := []
  deriving DecidableEq, Repr

/-- Security state that no register holds. -/
structure SecX where
  /-- The public keys of the owner slots (67 bytes each). -/
  keys : List (Nat × List Byte) := []
  /-- Enrolment record and debug token being streamed. -/
  keyData : List Byte := []
  dbgData : List Byte := []
  /-- A fuse being blown: slot, `KEY_ID`, kind, public key; slot 12 is a revocation fuse of slot `KEY_ID`, 15 the F0 fuse. -/
  fuse : Option (Nat × Nat × Nat × List Byte) := none
  /-- The header and key of the running firmware, and the firmware a restart or download is to run next. -/
  fwHeader : List Byte := []
  fwKey : Nat := 0
  update : Option FwUpX := none
  /-- Controllers are to stay in RECOVERY at this restart (R335). -/
  recover : Bool := false
  /-- The slot that the previous controller boot ran in trial (R329). -/
  lastTrial : Option Nat := none
  /-- Secrets present: device seed, device key, attestation key (R325, R327, R343). -/
  seed : Bool := false
  dev : Bool := false
  ak : Bool := false
  /-- The OPERATOR password: the sealed record and the unsealed copy (R306, R343). -/
  sealed : Word32 := 0
  pwd : Option Word32 := some 0
  /-- Ephemeral keys made so far (R336); the core cycle of the nonce (R324). -/
  eph : Nat := 0
  nonceAt : Nat := 0
  /-- SPDM: 1 the version, 2 the capabilities, 3 the algorithms agreed; the transcripts of those messages, of digests and
  certificates, of measurements (R339). -/
  spdm : Nat := 0
  spdmLog : List Byte := []
  spdmCert : List Byte := []
  spdmMeas : List Byte := []
  deriving DecidableEq, Repr

/-! ### The whole state -/

/-- The state of the block. A table of records holds one entry per index whose record differs from the record after
reset. -/
structure State where
  /-- Commands waiting, first in, first out (the model's own field). -/
  pending : List Instr := []
  /-- Core cycles since power-on (the model's own field; R240's step and every window in cycles count with it). -/
  cycle : Nat := 0
  /-- The device frame timer, 0 to 19,119 (R31). -/
  frameTimer : Nat := 0
  /-- The count of core cycles modulo 3,840 that transmit intervals of IEEE line mode follow (R152). -/
  interval : Nat := 0
  /-- Free values taken so far (the model's own field, log entry 4). -/
  freeCtr : Nat := 0
  /-- Every register with an address. -/
  regs : RegFile := []
  /-- Captures of wide registers (R6) and words staged for them (R7), by register and index. -/
  captured : List (RegKey × RegVal) := []
  staged : List (RegKey × (RegVal × Nat)) := []
  /-- The values last committed to wide registers (R7). -/
  committed : List (RegKey × RegVal) := []
  /-- Writes of the core cycle in progress that have been applied before a write of a later path (Table 10-10). -/
  early : List (Path × Nat × Nat) := []
  /-- W1C bits that the device has set in the core cycle in progress (R9). -/
  risen : List (RegKey × Nat) := []
  recorder : RecorderX := {}
  lfec : List (Nat × LfecX) := []
  lrx : List (Nat × LrxX) := []
  eqp : List (Nat × EqX) := []
  grp : List (Nat × GrpX) := []
  ltx : List (Nat × LtxX) := []
  hsi : List (Nat × HsiX) := []
  hpm : List (Nat × HpmX) := []
  /-- Pattern checkers: of line lanes, then of host lanes from 16 on. -/
  chk : List (Nat × ChkX) := []
  chan : List (Nat × ChanX) := []
  clane : List (Nat × CLaneX) := []
  cin : CinX := {}
  time : TimeX := {}
  tlane : List (Nat × TLaneX) := []
  /-- The configuration in force: the payload of each section by (TYPE, GROUP); an absent section is empty (R276). -/
  cfg : List ((Nat × Nat) × List Byte) := []
  mgt : MgtX := {}
  tskIn : List (Nat × TskInX) := []
  tskRule : List (Nat × TskRuleX) := []
  sens : List (Nat × SensX) := []
  thm : ThmX := {}
  pins : PinsX := {}
  /-- Bytes of the stores at the DMA addresses of Table 14-1. -/
  mem : List Host.Cell := []
  pwr : PwrX := {}
  hrn : HrnX := {}
  clk : ClkX := {}
  sec : SecX := {}
  jtag : JtagX := {}
  /-- The input the SAR of Tussock converted last (R363). -/
  tskAt : Nat := 31
  hka : HkaX := {}
  dec : List (Nat × DecX) := []
  dac : List (Nat × DacX) := []
  strm : List (Nat × StreamX) := []
  pmc : List (Nat × PmcX) := []
  /-- The copy that SNAP took of the 128 counters (R431). -/
  pmcSnap : List Nat := []
  memx : MemX := {}
  dma : List (Nat × DmaX) := []
  engine : EngineX := {}
  /-- Bytes of the QSPI flash. -/
  flash : List Host.Cell := []
  deriving DecidableEq, Repr

/-- The device right after reset (log entry 2). -/
def State.reset : State := {}

end Sys2Proof.Machine
end

