-- ==== Sys2Proof/Machine/Ops.lean ====
section
/-! DEFINITION. The named operations every family shares: registers and fields, per-index records, time, records and
alerts, roles and the outcome of a register write. -/
namespace Sys2Proof.Machine

/-- What a meaning answers. -/
abbrev Res := Host.Outcome State Fault Refusal

/-! ### Registers and fields -/

/-- The value of register `r`, index `i`. -/
def State.reg (s : State) (r : Reg) (i : Nat) : RegVal := s.regs.read r i

/-- `s` with register `r`, index `i`, holding `v`. -/
def State.setReg (s : State) (r : Reg) (i : Nat) (v : RegVal) : State := { s with regs := s.regs.write r i v }

/-- The value of field `f` of instance `i`. -/
def State.fld (s : State) (f : Field) (i : Nat) : Nat := s.regs.fld f i

/-- Field `f` of instance `i` is not zero. -/
def State.flag (s : State) (f : Field) (i : Nat) : Bool := decide (s.fld f i ≠ 0)

/-- `s` with field `f` of instance `i` holding `x` modulo the field's width. -/
def State.setFld (s : State) (f : Field) (i x : Nat) : State := { s with regs := s.regs.setFld f i x }

/-- Field `f` set or cleared. -/
def State.setFlag (s : State) (f : Field) (i : Nat) (b : Bool) : State := s.setFld f i (if b then 1 else 0)

/-- A counter counts `n` more, wrapping at its width (R93, R196, R321). -/
def State.count (s : State) (f : Field) (i : Nat) (n : Nat := 1) : State := s.setFld f i (s.fld f i + n)

/-- A saturating counter counts one more. -/
def State.countSat (s : State) (f : Field) (i : Nat) : State :=
  if s.fld f i + 1 < 2 ^ f.width then s.setFld f i (s.fld f i + 1) else s

/-- Register `r` of instance `i` returns to its reset value. -/
def State.resetReg (s : State) (r : Reg) (i : Nat) : State := s.setReg r i (regReset (r, i))

/-- A list of registers of one instance returns to their reset values. -/
def State.resetRegs (s : State) (rs : List Reg) (i : Nat) : State := rs.foldl (fun s r => s.resetReg r i) s

/-- Instances `lo` to `lo + n − 1` of a register return to their reset value. -/
def State.resetRange (s : State) (r : Reg) (lo n : Nat) : State :=
  (List.range n).foldl (fun s k => s.resetReg r (lo + k)) s

/-! ### Records by index -/

/-- Update of one entry of a table of records, an unlisted index reading as `d`. -/
def tabMod {ν : Type} [DecidableEq ν] (d : ν) (m : List (Nat × ν)) (i : Nat) (f : ν → ν) : List (Nat × ν) :=
  Tab.set natLt (fun _ => d) m i (f (Tab.get (fun _ => d) m i))

def State.lfecOf (s : State) (n : Nat) : LfecX := Tab.get (fun _ => {}) s.lfec n
def State.modLfec (s : State) (n : Nat) (f : LfecX → LfecX) : State := { s with lfec := tabMod {} s.lfec n f }
def State.lrxOf (s : State) (n : Nat) : LrxX := Tab.get (fun _ => {}) s.lrx n
def State.modLrx (s : State) (n : Nat) (f : LrxX → LrxX) : State := { s with lrx := tabMod {} s.lrx n f }
def State.eqpOf (s : State) (n : Nat) : EqX := Tab.get (fun _ => {}) s.eqp n
def State.modEqp (s : State) (n : Nat) (f : EqX → EqX) : State := { s with eqp := tabMod {} s.eqp n f }
def State.grpOf (s : State) (g : Nat) : GrpX := Tab.get (fun _ => {}) s.grp g
def State.modGrp (s : State) (g : Nat) (f : GrpX → GrpX) : State := { s with grp := tabMod {} s.grp g f }
def State.ltxOf (s : State) (n : Nat) : LtxX := Tab.get (fun _ => {}) s.ltx n
def State.modLtx (s : State) (n : Nat) (f : LtxX → LtxX) : State := { s with ltx := tabMod {} s.ltx n f }
def State.hsiOf (s : State) (h : Nat) : HsiX := Tab.get (fun _ => {}) s.hsi h
def State.modHsi (s : State) (h : Nat) (f : HsiX → HsiX) : State := { s with hsi := tabMod {} s.hsi h f }
def State.hpmOf (s : State) (p : Nat) : HpmX := Tab.get (fun _ => {}) s.hpm p
def State.modHpm (s : State) (p : Nat) (f : HpmX → HpmX) : State := { s with hpm := tabMod {} s.hpm p f }
def State.chanOf (s : State) (c : Nat) : ChanX := Tab.get (fun _ => {}) s.chan c
def State.modChan (s : State) (c : Nat) (f : ChanX → ChanX) : State := { s with chan := tabMod {} s.chan c f }
def State.claneOf (s : State) (n : Nat) : CLaneX := Tab.get (fun _ => {}) s.clane n
def State.modClane (s : State) (n : Nat) (f : CLaneX → CLaneX) : State := { s with clane := tabMod {} s.clane n f }
def State.tlaneOf (s : State) (n : Nat) : TLaneX := Tab.get (fun _ => {}) s.tlane n
def State.modTlane (s : State) (n : Nat) (f : TLaneX → TLaneX) : State := { s with tlane := tabMod {} s.tlane n f }

def State.tskInOf (s : State) (i : Nat) : TskInX := Tab.get (fun _ => {}) s.tskIn i
def State.modTskIn (s : State) (i : Nat) (f : TskInX → TskInX) : State := { s with tskIn := tabMod {} s.tskIn i f }
def State.tskRuleOf (s : State) (r : Nat) : TskRuleX := Tab.get (fun _ => {}) s.tskRule r
def State.modTskRule (s : State) (r : Nat) (f : TskRuleX → TskRuleX) : State := { s with tskRule := tabMod {} s.tskRule r f }

def State.sensOf (s : State) (i : Nat) : SensX := Tab.get (fun _ => {}) s.sens i
def State.modSens (s : State) (i : Nat) (f : SensX → SensX) : State := { s with sens := tabMod {} s.sens i f }

def State.dmaOf (s : State) (n : Nat) : DmaX := Tab.get (fun _ => {}) s.dma n
def State.modDma (s : State) (n : Nat) (f : DmaX → DmaX) : State := { s with dma := tabMod {} s.dma n f }
def State.modMemx (s : State) (f : MemX → MemX) : State := { s with memx := f s.memx }

def State.decOf (s : State) (n : Nat) : DecX := Tab.get (fun _ => {}) s.dec n
def State.modDec (s : State) (n : Nat) (f : DecX → DecX) : State := { s with dec := tabMod {} s.dec n f }
def State.dacOf (s : State) (n : Nat) : DacX := Tab.get (fun _ => {}) s.dac n
def State.modDac (s : State) (n : Nat) (f : DacX → DacX) : State := { s with dac := tabMod {} s.dac n f }
def State.strmOf (s : State) (n : Nat) : StreamX := Tab.get (fun _ => {}) s.strm n
def State.modStrm (s : State) (n : Nat) (f : StreamX → StreamX) : State := { s with strm := tabMod {} s.strm n f }
def State.modHka (s : State) (f : HkaX → HkaX) : State := { s with hka := f s.hka }
def State.modPwr (s : State) (f : PwrX → PwrX) : State := { s with pwr := f s.pwr }

def State.modHrn (s : State) (f : HrnX → HrnX) : State := { s with hrn := f s.hrn }
def State.modClk (s : State) (f : ClkX → ClkX) : State := { s with clk := f s.clk }
def State.modSec (s : State) (f : SecX → SecX) : State := { s with sec := f s.sec }
def State.modMgt (s : State) (f : MgtX → MgtX) : State := { s with mgt := f s.mgt }

def State.pmcOf (s : State) (n : Nat) : PmcX := Tab.get (fun _ => {}) s.pmc n
def State.modPmc (s : State) (n : Nat) (f : PmcX → PmcX) : State := { s with pmc := tabMod {} s.pmc n f }
def State.modRec (s : State) (f : RecorderX → RecorderX) : State := { s with recorder := f s.recorder }

/-- Apply an operation for each index of a list, in order. -/
def State.each (s : State) (is : List Nat) (f : Nat → State → State) : State := is.foldl (fun s i => f i s) s

/-- The lanes, groups, host lanes and channels, in ascending order. -/
def lanes16 : List Nat := List.range 16
def groups8 : List Nat := List.range 8
def hosts32 : List Nat := List.range 32
def chans256 : List Nat := List.range 256

/-! ### Free values -/

/-- The next free value and the state that has taken it (log entry 4). -/
def State.fresh (s : State) : RegVal × State := (Config.freeValue s.freeCtr, { s with freeCtr := s.freeCtr + 1 })

/-! ### Time -/

/-- `TMB_NOW` in units of 2^-16 ns since second 0 (R240, R241). -/
def TimeX.now16 (t : TimeX) : Nat := t.sec * 10 ^ 9 * 2 ^ 16 + t.sub / 2 ^ 32

/-- The TS96 value of an instant in units of 2^-16 ns (Table 0-7). -/
def ts96Of (x : Nat) : Ts96 :=
  let ns := x / 2 ^ 16
  BitVec.ofNat 96 ((ns / 10 ^ 9) * 2 ^ 48 + (ns % 10 ^ 9) * 2 ^ 16 + x % 2 ^ 16)

/-- The instant, in units of 2^-16 ns, of a TS96 value. -/
def ts96To16 (t : Ts96) : Nat :=
  ((t.extractLsb' 48 48).toNat * 10 ^ 9 + (t.extractLsb' 16 32).toNat) * 2 ^ 16 + (t.extractLsb' 0 16).toNat

/-- The linear form L of a TS96 value in ns (R241). -/
def ts96Linear (t : Ts96) : Nat := (t.extractLsb' 48 48).toNat * 10 ^ 9 + (t.extractLsb' 16 32).toNat

/-- The value `TMB_NOW` holds: the accumulator truncated to TS96 (R240). -/
def State.now (s : State) : Ts96 := ts96Of s.time.now16

/-- `TMB_NOW` in units of 2^-16 ns. -/
def State.now16 (s : State) : Nat := s.time.now16

/-- What one core cycle adds to the clock, in 2^-48 ns: 1.28 ns × (1 + ADJ × 2^-40), truncated (log entry 23). -/
def clockStep (adj : Int) : Nat := (((2 ^ 40 : Int) + adj) * 8192 / 25).toNat

/-- `ADJ` as a signed number. -/
def State.adj (s : State) : Int := toSigned 32 (s.fld TMB_RATE.ADJ 0)

/-- An instant whose linear form L is a multiple of `ns` lies in this core cycle, or falls at its start (R430, R451). -/
def State.atMultiple (s : State) (ns : Nat) : Bool := decide (s.now16 % (ns * 65536) * 2 ^ 32 < clockStep s.adj)

/-- Time quality in force (R12). -/
def State.quality (s : State) : Nat := s.fld TMB_QUALITY.Q 0

/-- Core cycles in `us` microseconds, rounded up: a core cycle is 1.28 ns. -/
def cyclesOfUs (us : Nat) : Nat := (us * 100000 + 127) / 128

/-! ### Records (R418 to R423) -/

/-- The words of a TS96 value, least significant first (R419). -/
def ts96Words (t : Ts96) : List Nat := [t.toNat % 2 ^ 32, t.toNat / 2 ^ 32 % 2 ^ 32, t.toNat / 2 ^ 64]

/-- The two words of a 48-bit or 64-bit value. -/
def words64 (x : Nat) : List Nat := [x % 2 ^ 32, x / 2 ^ 32 % 2 ^ 32]

/-- The `n` words of a register value. -/
def regWords (v : RegVal) (n : Nat) : List Nat := (List.range n).map fun i => bitsOf v (32 * i + 31) (32 * i)

/-- FLAGS of a record written now: time quality, and HEADLESS while the controllers restart (Table 15-1). -/
def State.recFlags (s : State) : Nat := s.quality + (if s.flag GLB_STATE.HEADLESS 0 then 16 else 0)

/-- A record enters the recorder queue with the next number; with the queue full it is dropped and counted
(R420, R423). `ts` is the instant the record refers to, `extra` what FLAGS holds beside quality and HEADLESS. -/
def State.logAt (s : State) (ts : Ts96) (type kind index : Nat) (words : List Nat) (extra : Nat := 0) : State :=
  let r := s.recorder
  if r.queue.length < 64 then
    let e : Rec := { type := type, seq := r.next, ts := ts, node := BitVec.ofNat 16 (s.fld TMB_NODE_ID.NODE_ID 0),
                     flags := s.recFlags + extra, words := ((kind * 2 ^ 24 + index % 2 ^ 16) :: words).map (BitVec.ofNat 32) }
    { s with recorder := { r with queue := r.queue ++ [e], next := r.next + 1, newest := some e } }
  else
    { s with recorder := { r with dropRun := r.dropRun + 1, dropFirst := if r.dropRun = 0 then type else r.dropFirst } }.count
      EVL_DROPPED.COUNT 0

/-- A record of an event that happens now. -/
def State.log (s : State) (type kind index : Nat) (words : List Nat) : State := s.logAt s.now type kind index words

/-- The records that `t` has and `s` has not refer to the capture `ts`: they are stamped with it (R244; which records have one: log entry
168). -/
def State.capturedAt (s : State) (ts : Ts96) (t : State) : State :=
  let k := s.recorder.queue.length
  let fresh := (t.recorder.queue.drop k).map (·.seq)
  let stamp := fun (r : Rec) => if fresh.contains r.seq then { r with ts := ts } else r
  { t with
    recorder := { t.recorder with queue := t.recorder.queue.map stamp, newest := t.recorder.newest.map stamp }
    mgt := { t.mgt with notify := t.mgt.notify.map fun e => { e with due := e.due.map fun d => (d.1, d.2.map stamp) } } }

/-- Results of a calibration run (R386). -/
abbrev Cal.OK : Nat := 0
abbrev Cal.FAIL : Nat := 1
abbrev Cal.ABORTED : Nat := 2
abbrev Cal.SKIPPED : Nat := 3

/-- A run of calibration item `i` ends: its record and the event (R386). -/
def State.calRun (s : State) (i result value : Nat) : State :=
  let s := (s.count CAL_COUNT.COUNT i).setFld CAL_RESULT.RESULT i result
  let s := (s.setFld CAL_LAST_TIME.TIME i s.now.toNat).setFld CAL_LAST_Q.Q i s.quality
  let s := s.setFld CAL_VALUE.VALUE i value
  s.log Evt.CAL_RUN Subj.CAL_ITEM i [result, value % 2 ^ 32]

/-- Bits 1 and 2 of `CAL_TRIM_BUSY` follow the trims of the housekeeping converters (R385, Table 13-6). -/
def State.showHkaTrims (s : State) : State :=
  let refs := decide (s.hka.refs ≠ s.hka.refTo)
  let dacs := s.dac.any fun e => decide (e.2.trim ≠ e.2.trimTo)
  s.setFld CAL_TRIM_BUSY.BUSY 0 (s.fld CAL_TRIM_BUSY.BUSY 0 &&& 9 ||| (if refs then 2 else 0) ||| (if dacs then 4 else 0))

/-- One code from `x` towards `t`. -/
def stepTowards (x t : Int) : Int := if x < t then x + 1 else if t < x then x - 1 else x

/-- The bits of a register that the device has set in the core cycle in progress: a write of this cycle does not clear
them (R9). -/
def State.risenOf (s : State) (r : Reg) (i : Nat) : Nat := Tab.get (fun _ => 0) s.risen (r, i)

/-- The device sets bits of a W1C field (R9). -/
def State.raise (s : State) (f : Field) (i bits : Nat) : State :=
  let s := s.setFld f i (s.fld f i ||| bits)
  { s with risen := Tab.set regLt (fun _ => 0) s.risen (f.reg, i) (s.risenOf f.reg i ||| bits <<< f.lo) }

/-- `v` without the bits that the device has set in this core cycle: what a write of 1 still clears (R9). -/
def State.clearable (s : State) (r : Reg) (i v : Nat) : Nat := (v ||| s.risenOf r i) ^^^ s.risenOf r i

/-! ### Alerts (R299, R300) -/

/-- The device asserts ALERT_N for a class: its bit sets, and where it rises an interrupt is requested if I3C, ENINT and
the class enable allow it; the payload names the record that set the bit, the newest one numbered. -/
def State.alert (s : State) (cls : Nat) : State :=
  let bits := s.fld MGT_ALERT_STATUS.CLASS 0
  let rise := !bits.testBit cls
  let s := (s.raise MGT_ALERT_STATUS.CLASS 0 (2 ^ cls)).setFlag GLB_STATE.ALERT 0 true
  let seq := (s.recorder.next - 1).toNat % 2 ^ 24
  let ask := rise && s.flag MGT_BUS_STATUS.I3C 0 && s.flag MGT_BUS_STATUS.ENINT 0 && (s.fld MGT_IBI_EN.EN 0).testBit cls
  let s := if ask then { s with mgt := { s.mgt with ibi := s.mgt.ibi ++ [(cls, seq, none)] } } else s
  let told := s.mgt.notify.map fun e =>
    if e.classes.testBit cls then { e with due := some (cls, s.recorder.newest) } else e
  if rise then { s with mgt := { s.mgt with notify := told } } else s

/-! ### Roles and register writes -/

/-- The roles of R305 in rising order, with the codes of R473. -/
abbrev Role.USER : Nat := 1
abbrev Role.OPERATOR : Nat := 2
abbrev Role.ADMIN : Nat := 3
abbrev Role.FIRMWARE : Nat := 4

/-- The role a path holds (Table 10-4); a session that is not open, and unauthenticated Causeway, hold USER. -/
def State.role (s : State) : Path → Nat
  | .bus => s.fld MGT_BUS_STATUS.ROLE 0
  | .session k => if s.flag MGT_SESSION.OPEN k then s.fld MGT_SESSION.ROLE k else Role.USER
  | .causeway _ => Role.USER
  | .tunnel => Role.USER
  | .firmware => Role.FIRMWARE

/-- The role a register's table asks of a writer. A register no path may write asks none: the write is ignored (R8). -/
def WriteRole.rank : WriteRole → Nat
  | .none_ => 0
  | .user => Role.USER
  | .operator => Role.OPERATOR
  | .admin => Role.ADMIN

/-- The transport code of `MGT_SESSION_s` and Table 15-7. -/
def transportCode : Transport → Nat
  | .ethernet => 0
  | .cinch => 1
  | .tunnel => 2

/-- The path word of a record (Table 15-7). -/
def State.pathWord (s : State) : Path → Nat
  | .bus => 0
  | .session k => 0x01000000 + s.fld MGT_SESSION.TRANSPORT k * 2 ^ 16 + s.fld MGT_SESSION.NUMBER k
  | .causeway t => 0x02000000 + transportCode t * 2 ^ 16
  | .tunnel => 0x03000000 + transportCode .tunnel * 2 ^ 16
  | .firmware => 0x04000000

/-- How a register access ends (Tables 10-3 and 10-7). -/
inductive WStatus where
  | ok | denied | rejected | busy | badAddr
  deriving DecidableEq, Repr

/-- The address of word `w` of register `r`, index `i`: mixed-radix over the register's indices. -/
def regAddr (r : Reg) (i w : Nat) : Nat :=
  let rec place : List (Nat × Nat) → Nat → Nat × Nat
    | [], i => (0, i)
    | (count, stride) :: rest, i =>
      let (off, j) := place rest i
      (off + stride * (j % count), j / count)
  r.desc.base + (place r.desc.dims i).1 + 4 * w

/-- The device refuses a write under the register's rules: the record REG_REJECT (R419). -/
def State.regReject (s : State) (p : Path) (r : Reg) (i v : Nat) : State :=
  s.log Evt.REG_REJECT Subj.REGISTER (regAddr r i 0) [s.pathWord p, v % 2 ^ 32]

/-- A refused write: the record, and the status that reports it. -/
def rejectWrite (p : Path) (r : Reg) (i v : Nat) (s : State) : State × WStatus := (s.regReject p r i v, .rejected)

/-- The bits that a write of `v` leaves in a register that held `old`, field by field (Table 0-5): RW and RWS fields take
the written bits, W1C bits clear where `c`, what `v` may still clear, is 1; every other field keeps its value. -/
def applyAccess (old : RegVal) (v c : Nat) : List FieldDesc → RegVal
  | [] => old
  | f :: fs =>
    let part := fun (x : Nat) => (x >>> f.lo) % 2 ^ (f.hi - f.lo + 1)
    let o := bitsOf old f.hi f.lo
    let new := match f.access with
      | .rw | .rws => part v
      | .w1c => o &&& (2 ^ (f.hi - f.lo + 1) - 1 - part c)
      | .ro | .wo => o
    applyAccess (setBitsOf old f.hi f.lo new) v c fs

/-- A write that sets the register's fields by their access codes (R8, R9). -/
def plainWrite (r : Reg) (i v : Nat) (s : State) : State :=
  s.setReg r i (applyAccess (s.reg r i) v (s.clearable r i v) r.desc.fields)

/-- The field of a value about to be written. -/
def fieldOf (v : Nat) (f : Field) : Nat := (v >>> f.lo) % 2 ^ f.width

/-- `v` with field `f` holding `x`. -/
def withField (v : Nat) (f : Field) (x : Nat) : Nat := (setBitsOf (BitVec.ofNat 512 v) f.hi f.lo x).toNat

/-- The value that a write of one field leaves in the writable fields of the others: what software writes when it changes
one field and keeps the rest. WO and W1C fields are written 0. -/
def keepWritable (old : RegVal) : List FieldDesc → Nat
  | [] => 0
  | f :: fs => match f.access with
    | .rw | .rws => (bitsOf old f.hi f.lo) <<< f.lo ||| keepWritable old fs
    | _ => keepWritable old fs

/-- The value of register `r`, index `i`, as software writes it back unchanged. -/
def State.writeBack (s : State) (r : Reg) (i : Nat) : Nat := keepWritable (s.reg r i) r.desc.fields

/-- The group whose registers `r` belongs to, for an index of it: what a partial image of that group rebuilds
(R198, R239, R288). -/
def Reg.group (r : Reg) (i : Nat) : Option Nat :=
  let a := regAddr r i 0
  if 0x100000 ≤ a ∧ a < 0x180000 then some ((a - 0x100000) / 0x10000)
  else if 0x180000 ≤ a ∧ a < 0x190000 then some ((a - 0x180000) / 0x800 / 4)
  else if 0x190000 ≤ a ∧ a < 0x192000 then some ((a - 0x190000) / 0x100 / 4)
  else if 0x192000 ≤ a ∧ a < 0x194000 then some ((a - 0x192000) / 0x40 / 4)
  else if 0x200000 ≤ a ∧ a < 0x210000 then some ((a - 0x200000) / 0x100 / 32)
  else if 0x210000 ≤ a ∧ a < 0x220000 then some ((a - 0x210000) / 0x100 / 2)
  else if 0x41000 ≤ a ∧ a < 0x42000 then some ((a - 0x41000) / 0x80 / 2)
  else none

/-- The register lies in a group between quiesce and reopen, or in a domain that is off outside ACTIVE (R198, R239, R353). -/
def State.rebuilding (s : State) (r : Reg) (i : Nat) : Bool :=
  match r.group i with
  | some g => decide (s.fld HRN_GROUP_STATE.STATE g = Group.REBUILDING) || decide (s.fld PWR_STATE.STATE 0 ≠ 0)
  | none => false

/-- Nothing answers: the device sleeps or has tripped (Table 12-5, R454). -/
def State.offline (s : State) : Bool := decide (s.pwr.sleep ≠ 0) || s.pwr.tripped

/-- The role a write to `r` needs: its table's, none for the firmware registers while the ROM is in RECOVERY (R330). -/
def State.neededRole (s : State) (r : Reg) : Nat :=
  if (r = .SEC_FW_CTRL ∨ r = .SEC_FW_DATA) ∧ s.fld SEC_FW_STATUS.STATE 0 = 3 then 0 else r.desc.role.rank

/-- A write below the role required is counted and recorded (R10). -/
def State.accessViolation (s : State) (p : Path) (r : Reg) (i v : Nat) : State :=
  (s.count MGT_ACCESS_VIOL.COUNT 0).log Evt.ACCESS_VIOL Subj.REGISTER (regAddr r i 0) [s.pathWord p, s.role p, v % 2 ^ 32]

/-- A write to register `r`, index `i`, on a path: below the role required it changes nothing, is counted and recorded
(R10); in a group being rebuilt it is discarded and recorded (R198, R239); else `act` gives its effect. A device that sleeps
takes none (R301). -/
def guardedWrite (p : Path) (r : Reg) (i v : Nat) (act : State → State × WStatus) (s : State) : State × WStatus :=
  if s.offline then (s, .busy)
  else if s.role p < s.neededRole r then (s.accessViolation p r i v, .denied)
  else if s.rebuilding r i then rejectWrite p r i v s
  else act s

/-- The words staged for a register are gone (R7). -/
def State.unstage (s : State) (k : RegKey) : State := { s with staged := Tab.set regLt (fun _ => (0, 0)) s.staged k (0, 0) }

/-- The commit of the whole value `v` of a wide register: the staging is emptied, and a value that is taken is the one last
committed (R7). -/
def commitWhole (r : Reg) (i v : Nat) (act : State → State × WStatus) (s : State) : State × WStatus :=
  let (t, st) := act (s.unstage (r, i))
  (if st = .ok then { t with committed := Tab.insert regLt (r, i) (BitVec.ofNat 512 v) t.committed } else t, st)

/-- A command that commits a whole wide register on a path. -/
def commitCommand (p : Path) (r : Reg) (i v : Nat) (act : State → State × WStatus) (s : State) : Res :=
  .next (guardedWrite p r i v (commitWhole r i v act) s).1

/-- A command that is a write to a register. -/
def writeCommand (p : Path) (r : Reg) (i v : Nat) (act : State → State × WStatus) (s : State) : Res :=
  .next (guardedWrite p r i v act s).1

/-! ### The configuration in force -/

/-- The payload of section (TYPE, GROUP); empty where the image has none. -/
def State.section_ (s : State) (type group : Nat) : List Byte := Tab.get (fun _ => []) s.cfg (type, group)

/-- Byte `k` of a payload, 0 past its end. -/
def byteAt (bs : List Byte) (k : Nat) : Nat := (bs.getD k 0).toNat

/-- The little-endian field of `n` bytes at offset `k`. -/
def fieldAt (bs : List Byte) (k n : Nat) : Nat := leValue ((List.range n).map fun i => bs.getD (k + i) 0)

/-- Section types of Table 9-2. -/
abbrev Sect.MODES : Nat := 0x0001
abbrev Sect.HOST_LANES : Nat := 0x0002
abbrev Sect.POOL : Nat := 0x0003
abbrev Sect.LINE_RX : Nat := 0x0004
abbrev Sect.TIA : Nat := 0x0005
abbrev Sect.LTX : Nat := 0x0006
abbrev Sect.DRIVER : Nat := 0x0007
abbrev Sect.MASK : Nat := 0x0008
abbrev Sect.CHANNELS : Nat := 0x0009
abbrev Sect.ASYM : Nat := 0x000A
abbrev Sect.REG_INIT : Nat := 0x000B
abbrev Sect.PORTS : Nat := 0x0100
abbrev Sect.TIME : Nat := 0x0101
abbrev Sect.GPIO : Nat := 0x0102
abbrev Sect.RELIEF : Nat := 0x0103

/-! ### Memory (Table 14-1) -/

/-- The byte at address `a` of the stores; an address nothing has written reads 0 (log entry 11). -/
def State.memByte (s : State) (a : Nat) : Byte := Tab.get (fun _ => 0) s.mem a

/-- `s` with the byte at `a` holding `b`. -/
def State.setMemByte (s : State) (a : Nat) (b : Byte) : State := { s with mem := Tab.set natLt (fun _ => 0) s.mem a b }

/-- The `n` bytes from address `a` up. -/
def State.memBytes (s : State) (a n : Nat) : List Byte := (List.range n).map fun i => s.memByte (a + i)

/-- `s` with the bytes `bs` stored from address `a` up. -/
def State.setMemBytes (s : State) (a : Nat) : List Byte → State
  | [] => s
  | b :: bs => State.setMemBytes (s.setMemByte a b) (a + 1) bs

/-! ### Questions the families ask of each other -/

/-- The lane runs in IEEE line mode. -/
def State.ieee (s : State) (n : Nat) : Bool := s.flag HRN_GROUP_STATE.LINE_MODE (n / 2)

/-- The service mode of a lane's group. -/
def State.svc (s : State) (n : Nat) : Nat := s.fld HRN_GROUP_STATE.SVC (n / 2)

/-- The lane is in acquisition LOCKED. -/
def State.locked (s : State) (n : Nat) : Bool := decide (s.fld LRX_STATUS.STATE n = Lrx.LOCKED)

/-- The receiver of lane `n` counts an OAM word that arrives while LOCKED and gives it to its consumer (R40); a lane in IEEE
line mode has none (Table 2-10). -/
def State.oamIn (s : State) (n : Nat) (f : State → State) : State :=
  if s.locked n && !s.ieee n then f (s.count LFEC_OAM_RX.COUNT n) else s

/-- Group `g` is up: open, or on its way to a quiesce that has not come (R287). -/
def State.groupUp (s : State) (g : Nat) : Bool :=
  let st := s.fld HRN_GROUP_STATE.STATE g
  decide (st = Group.OPEN ∨ st = Group.PENDING ∨ st = Group.QUIESCING)

/-- A load that has passed its checks covers group `g` and has not reopened it (R288). -/
def State.groupClosing (s : State) (g : Nat) : Bool :=
  let st := s.fld HRN_GROUP_STATE.STATE g
  decide (st = Group.PENDING ∨ st = Group.QUIESCING ∨ st = Group.REBUILDING)

/-- The lane's service is Cinch in a group that is up. -/
def State.cinchLane (s : State) (n : Nat) : Bool := decide (s.svc n = Svc.CINCH) && s.groupUp (n / 2)

/-! Codes of `HSI_STATUS_n.RX_STATE` (Table 6-4). -/
abbrev HRx.DISABLED : Nat := 0
abbrev HRx.PENDING : Nat := 1
abbrev HRx.QUIET : Nat := 2
abbrev HRx.DETECT : Nat := 3
abbrev HRx.CDR : Nat := 4
abbrev HRx.ADAPT : Nat := 5
abbrev HRx.ALIGN : Nat := 6
abbrev HRx.LOCKED : Nat := 7

/-- Receive state of host lane `h`. -/
def State.hrx (s : State) (h : Nat) : Nat := s.fld HSI_STATUS.RX_STATE h

/-- How many host lanes a port of a rate code has (R181). -/
def portLanes (rate : Nat) : Nat := if rate = 1 then 1 else if rate = 2 then 2 else if rate = 3 then 4 else 8

/-- The host lanes of port `p`. -/
def State.portHosts (s : State) (p : Nat) : List Nat := (List.range (portLanes (s.fld HPM_PORT_CFG.RATE p))).map (p + ·)

/-- Port `p` takes what its hosts send: all its host lanes are LOCKED (R160). -/
def State.portHears (s : State) (p : Nat) : Bool :=
  s.flag HPM_PORT_CFG.VALID p && (s.portHosts p).all fun h => decide (s.hrx h = HRx.LOCKED)

/-- Partition `p` failed the BIST whose results are in force (Table 16-2). -/
def State.partFailed (s : State) (p : Nat) : Bool := (s.fld BST_RESULT.FAIL_MASK 0).testBit p

/-- The controllers are restarting (R26). -/
def State.headless (s : State) : Bool := s.flag GLB_STATE.HEADLESS 0

/-- The line synthesiser of group `g` is locked. -/
def State.lineSynthLocked (s : State) (g : Nat) : Bool := (s.fld CLK_STATUS.LINE_LOCK 0).testBit g

/-- Host synthesiser `k` is locked. -/
def State.hostSynthLocked (s : State) (k : Nat) : Bool := (s.fld CLK_STATUS.HOST_LOCK 0).testBit k

/-- REFCLK and the core PLL are present. -/
def State.clocksPresent (s : State) : Bool := s.flag CLK_STATUS.REF_PRESENT 0 && s.flag CLK_STATUS.CORE_LOCK 0

/-- Either lane of the group is under a codeword audit hold (R56). -/
def State.lfecHold (s : State) (g : Nat) : Bool :=
  s.flag LFEC_STATUS.AUDIT_FAIL (2 * g) || s.flag LFEC_STATUS.AUDIT_FAIL (2 * g + 1)

end Sys2Proof.Machine
end

