-- ==== Sys2Proof/Machine/Mem.lean ====
section
/-! DEFINITION. The stores of Table 14-1: light codes, page repair, poison, scrubbing, retirement, the flip mask (chapter 14).
`mem` holds the data as written; `memx` holds what is wrong with it. -/
namespace Sys2Proof.Machine

/-! ### Regions -/

/-- The regions of Table 14-1. -/
def regions21 : List Nat := List.range 21

/-- The DMA address of region `m`. -/
def regionBase (m : Nat) : Nat :=
  if m < 8 then 0x30000000 + m * 0x300000
  else if m = 8 then 0x32000000 else if m = 9 then 0x32400000
  else if m < 18 then 0x20000000 + (m - 10) * 0x40000
  else if m = 18 then 0x10000000 else if m = 19 then 0x10100000 else 0x33000000

/-- The pages of region `m`. -/
def regionPages (m : Nat) : Nat :=
  if m < 8 then 768 else if m < 10 then 1024 else if m < 18 then 64 else if m = 18 then 256 else if m = 19 then 64 else 16

/-- The region that an address lies in. -/
def regionAt (a : Nat) : Option Nat :=
  regions21.find? fun m => decide (regionBase m ≤ a ∧ a < regionBase m + 4096 * regionPages m)

/-- The stores with a (13,8) code per byte. -/
def byteStore (m : Nat) : Bool := decide (18 ≤ m)

/-- The store of a region as `MEM_FLIP_MASK.STORE` numbers it. -/
def storeOf (m : Nat) : Nat := if m < 8 then 0 else if m < 10 then m - 7 else if m < 18 then 3 else m - 14

/-- The first DMA address of a store. -/
def storeBase (k : Nat) : Nat :=
  if k = 0 then 0x30000000 else if k = 3 then 0x20000000 else regionBase (if k < 3 then k + 7 else k + 14)

/-- Region `m` is armed. -/
def State.armed (s : State) (m : Nat) : Bool := (s.fld MEM_REGION_ARMED.ARMED 0).testBit m

/-- Region `m` is armed or disarmed. -/
def State.setArmed (s : State) (m : Nat) (on : Bool) : State :=
  let v := s.fld MEM_REGION_ARMED.ARMED 0
  s.setFld MEM_REGION_ARMED.ARMED 0 (if on then v ||| 2 ^ m else v - (if v.testBit m then 2 ^ m else 0))

/-- The page that an address lies in. -/
def pageOf (a : Nat) : Nat := a / 4096 * 4096

/-- The address lies in the `n` bytes from `lo` up. -/
def inRange (lo n a : Nat) : Bool := decide (lo ≤ a ∧ a < lo + n)

/-! ### Errors and poison -/

/-- Bits of an error pattern. -/
def weight (mask : Nat) : Nat := (List.range 72).countP fun i => mask.testBit i

/-- What the light code makes of an error pattern: flagged, or the pattern by which the data returned is wrong (R392). -/
def lightSees (byteStore : Bool) (mask : Nat) : Option Nat :=
  if weight mask ≤ 1 then some 0 else if weight mask = 2 then none else Config.lightDecode byteStore mask

def State.errAt (s : State) (w : Nat) : Nat := (Tab.get (fun _ => (0, false)) s.memx.errs w).1
def State.injectedAt (s : State) (w : Nat) : Bool := (Tab.get (fun _ => (0, false)) s.memx.errs w).2
def State.setErr (s : State) (w mask : Nat) (injected : Bool) : State := s.modMemx fun x => { x with
  errs := Tab.set natLt (fun _ => (0, false)) x.errs w (if mask = 0 then (0, false) else (mask, injected)) }
def State.poisonAt (s : State) (a : Nat) : Bool := Tab.get (fun _ => false) s.memx.poison (a / 8 * 8)
def State.setPoison (s : State) (a : Nat) (on : Bool) : State := s.modMemx fun x => { x with
  poison := Tab.set natLt (fun _ => false) x.poison (a / 8 * 8) on }

/-- The words of a page in error, with their patterns. -/
def State.pageErrs (s : State) (page : Nat) : List (Nat × Nat) :=
  (s.memx.errs.filter fun e => inRange page 4096 e.1).map fun e => (e.1, e.2.1)

/-- A word of region `m` is flagged by its light code. -/
def State.flaggedIn (s : State) (m w : Nat) : Bool := (lightSees (byteStore m) (s.errAt w)).isNone

/-- Erased symbols and unflagged symbol errors of column `k` of a page (R394, R395). -/
def State.columnFaults (s : State) (m page k : Nat) : Nat × Nat :=
  let es := s.pageErrs page
  let gone := es.filter fun e => (lightSees (byteStore m) e.2).isNone
  let wrong := es.filter fun e => match lightSees (byteStore m) e.2 with
    | some r => decide (r ≠ 0)
    | none => false
  let lost := (s.memx.poison.filter fun e => e.2 && inRange page 4096 e.1).map fun e => (e.1 - page) / 8
  let flagged := if byteStore m then
      ((gone.map fun e => (e.1 - page) / 2).filter fun j => decide (j % 4 = k)).map (· / 4)
    else gone.map fun e => (e.1 - page) / 8
  let bad := if byteStore m then
      ((wrong.map fun e => (e.1 - page) / 2).filter fun j => decide (j % 4 = k)).map (· / 4)
    else (wrong.filter fun e => match lightSees false e.2 with
      | some r => decide (r / 2 ^ (16 * k) % 65536 ≠ 0)
      | none => false).map fun e => (e.1 - page) / 8
  let checks := s.memx.checkErrs.countP fun e => inRange (16 * page + 4 * k) 4 e.1
  ((flagged ++ lost).eraseDups.length, bad.eraseDups.length + checks)

/-- The page is within the reach of its page code: 2E + F ≤ 4 in every column (R395). -/
def State.inReach (s : State) (m page : Nat) : Bool := (List.range 4).all fun k =>
  let (f, e) := s.columnFaults m page k
  decide (2 * e + f ≤ 4)

/-- Record MEM_FAULT: kind, page, offset in the page; INJECTED for an error of the flip mask (R406). -/
def State.logMem (s : State) (kind m a : Nat) (injected : Bool) : State :=
  s.logAt s.now Evt.MEM_FAULT Subj.REGION m [kind, (a - regionBase m) / 4096, a % 4096] (if injected then 4 else 0)

/-! ### Retirement (R403, R404) -/

/-- The address of slot `k` of lane `n` in its replay partition (R206, Table 14-1). -/
def slotAddr (n k : Nat) : Nat := 0x30000000 + n / 2 * 0x300000 + n % 2 * 1572480 + k * 672

/-- Slots of lane `n` that touch a page. -/
def slotsOn (n page : Nat) : List Nat := (List.range 2340).filter fun k =>
  decide (slotAddr n k < page + 4096 ∧ page < slotAddr n k + 672)

/-- The slot after `k` that is in use (R206, R231). -/
def nextSlot (dead : List Nat) (k : Nat) : Nat :=
  match (List.range 2340).find? fun i => !dead.contains ((k + 1 + i) % 2340) with
  | some i => (k + 1 + i) % 2340
  | none => k

/-- The span of lane `n` follows its slots in use: the next slot to write, the granules still stored, SLOTS (R208, R231). -/
def State.showSlots (s : State) (n : Nat) : State :=
  let dead := (s.claneOf n).deadSlots
  if dead.isEmpty then s
  else
    let s := s.modClane n fun x => { x with
      slot := if dead.contains x.slot then nextSlot dead x.slot else x.slot
      dir := x.dir.take (2340 - dead.length) }
    if s.rebuilding .CIN_LANE_STATUS n then s else s.setFld CIN_LANE_STATUS.SLOTS n (2340 - dead.length)

/-- A replay page is mapped out: the slots it touches leave use and the spans shrink by their number (R231). -/
def State.mapOut (s : State) (m page : Nat) : State :=
  let s := s.modMemx fun x => { x with mappedOut := x.mappedOut ++ [page] }
  s.each [2 * m, 2 * m + 1] fun n s =>
    (s.modClane n fun x => { x with deadSlots := x.deadSlots ++ (slotsOn n page).filter fun k => !x.deadSlots.contains k }).showSlots n

/-- `MEM_STATUS` follows the spares left of the scrubbed regions. -/
def State.showSpares (s : State) : State :=
  let bits := ((List.range 21).filter fun m => decide (8 ≤ m ∧ s.fld MEM_SPARE.LEFT m = 0)).foldl (fun a m => a + 2 ^ m) 0
  (s.setFld MEM_STATUS.REGIONS 0 bits).setFlag MEM_STATUS.SPARES_OUT 0 (decide (bits ≠ 0))

/-- A page is due for retirement: mapped out of a replay partition, copied to a spare, or left in use where no spare is left. -/
def State.retire (s : State) (m page : Nat) (injected : Bool) : State :=
  if s.memx.copying.contains page || s.memx.mappedOut.contains page then s
  else if m < 8 then
    (((s.mapOut m page).countSat MEM_SPARE.RETIRED m).logMem 2 m page injected).alert Alert.MEMORY
  else if s.fld MEM_SPARE.LEFT m = 0 then s.showSpares.logMem 3 m page injected
  else
    let s := s.modMemx fun x => { x with copying := x.copying ++ [page] }
    let s := (s.setFld MEM_SPARE.LEFT m (s.fld MEM_SPARE.LEFT m - 1)).countSat MEM_SPARE.RETIRED m
    (s.showSpares.logMem 2 m page injected).alert Alert.MEMORY

/-! ### Repair (R397) -/

/-- An error of the page, or of its check, was put there by the flip mask; none else puts one into a check. -/
def State.pageInjected (s : State) (page : Nat) : Bool :=
  (s.memx.errs.any fun e => inRange page 4096 e.1 && e.2.2) || s.memx.checkErrs.any fun e => inRange (16 * page) 16 e.1

/-- Core cycles in a second. -/
def cyclesPerSecond : Nat := 781250000

/-- A page within reach is repaired: flagged and wrong words are written back and the check is right again; a third repair
within 1 s retires it. -/
def State.repairPage (s : State) (m page : Nat) : State :=
  let inj := s.pageInjected page
  let s := s.count MEM_REPAIR.COUNT m
  let times := s.cycle :: ((Tab.get (fun _ => []) s.memx.repairAt page).filter fun t => decide (s.cycle < t + cyclesPerSecond))
  let s := s.modMemx fun x => { x with
    errs := x.errs.filter fun e => !(inRange page 4096 e.1 && decide (2 ≤ weight e.2.1))
    checkErrs := x.checkErrs.filter fun e => !inRange (16 * page) 16 e.1
    repairing := x.repairing.erase page
    repairAt := Tab.insert natLt page times x.repairAt }
  if 3 ≤ times.length then s.retire m page inj else s

/-- A page beyond reach: every word that cannot be reconstructed is marked poisoned, the check is recomputed, and the page is
due for retirement (R396, R403). -/
def State.losePage (s : State) (m page : Nat) : State :=
  let inj := s.pageInjected page
  let gone := (s.pageErrs page).filter fun e => (lightSees (byteStore m) e.2).isNone
  let s := gone.foldl (fun s e => s.setPoison e.1 true) s
  let s := s.modMemx fun x => { x with
    errs := x.errs.filter fun e => !(inRange page 4096 e.1 && decide (2 ≤ weight e.2.1))
    checkErrs := x.checkErrs.filter fun e => !inRange (16 * page) 16 e.1
    repairing := x.repairing.erase page }
  s.retire m page inj

/-- A flagged word's page is repaired, or lost. -/
def State.mendPage (s : State) (m page : Nat) : State := if s.inReach m page then s.repairPage m page else s.losePage m page

/-! ### Reads (R393, R405) -/

/-- A read ends POISONED: counted, recorded, class MEMORY; a management read latches its address. -/
def State.poisonRead (s : State) (m a kind : Nat) (mgmt injected : Bool) : State :=
  let s := (s.count MEM_POISON.COUNT m).count MEM_POISON_CNT.COUNT 0
  let v := m * 2 ^ 48 + kind * 2 ^ 44 + (a - regionBase m)
  let s := if mgmt then s.setReg .MEM_LAST_POISON 0 (BitVec.ofNat 512 v) else s
  (s.logMem kind m a injected).alert Alert.MEMORY

/-- A read of the light-code word `w` of region `m`: the pattern by which its data is wrong, whether it is poisoned. -/
def State.readWord (s : State) (m w : Nat) (mgmt : Bool) : Nat × Bool × State :=
  let mask := s.errAt w
  let inj := s.injectedAt w
  if s.poisonAt w then (0, true, s.poisonRead m w 0 mgmt inj)
  else match lightSees (byteStore m) mask with
    | some r => (r, false, if mask = 0 then s else s.count MEM_CORR.COUNT m)
    | none =>
      if !s.armed m then (0, true, s.poisonRead m w 1 mgmt inj)
      else if s.inReach m (pageOf w) then (0, false, s.repairPage m (pageOf w))
      else (0, true, (s.losePage m (pageOf w)).poisonRead m w 0 mgmt inj)

/-- The light-code words that the `n` bytes from `a` touch. -/
def wordsOf (m a n : Nat) : List Nat :=
  if byteStore m then (List.range n).map (a + ·) else (List.range ((a + n + 7) / 8 - a / 8)).map fun i => 8 * (a / 8 + i)

/-- A read of `n` bytes from `a`: each with whether it is poisoned (R393). A poisoned byte reads 0. -/
def State.storeRead (s : State) (a n : Nat) (mgmt : Bool) : List (Byte × Bool) × State :=
  match regionAt a with
  | none => ((s.memBytes a n).map fun b => (b, false), s)
  | some m =>
    if s.memx.errs.isEmpty && s.memx.poison.isEmpty then ((s.memBytes a n).map fun b => (b, false), s)
    else
      let step := fun (e : List (Nat × Nat × Bool) × State) w =>
        let (r, p, s') := e.2.readWord m w mgmt
        (e.1 ++ [(w, r, p)], s')
      let (ws, s') := (wordsOf m a n).foldl step ([], s)
      let byte := fun i =>
        let b := a + i
        let w := if byteStore m then b else b / 8 * 8
        match ws.find? fun e => e.1 = w with
        | some (_, r, p) => if p then (0, true) else (s.memByte b ^^^ BitVec.ofNat 8 (r / 2 ^ (8 * (b - w))), false)
        | none => (s.memByte b, false)
      ((List.range n).map byte, s')

/-- The DMA and management address of the event store. -/
def eventStore : Nat := 0x10100000

/-- A read by the Cinch datapath of the `n` bytes from `a`: a flagged or poisoned word makes it uncorrectable, and the repair
then runs in the background (R397). `seen` is what the code makes of the errors that the cells have. -/
def State.datapathRead (s : State) (a n : Nat) (seen : Bool) : Bool × State :=
  match regionAt a with
  | none => (seen, s)
  | some m =>
    let bad := (wordsOf m a n).filter fun w => s.flaggedIn m w || s.poisonAt w
    let pages := (if seen then bad.map pageOf else pageOf a :: bad.map pageOf).eraseDups.filter fun p => !s.memx.repairing.contains p
    (seen && bad.isEmpty, if pages.isEmpty then s else s.modMemx fun x => { x with repairing := x.repairing ++ pages })

/-! ### Writes (R392, R396, R406) -/

/-- The flip mask alters a write to the 8-byte word `u` of region `m`, whose first byte written is `a`. -/
def State.flip (s : State) (m u a : Nat) : State :=
  let off := s.fld MEM_FLIP_ADDR.OFFSET 0
  let k := storeOf m
  let w := if byteStore m then a else u
  let o := storeBase k + off
  let here := s.flag MEM_FLIP_ADDR.ANY 0 || decide (if byteStore m then o = a else o / 8 * 8 = u)
  if s.flag MEM_FLIP_MASK.ARM 0 && decide (s.fld MEM_FLIP_MASK.STORE 0 = k) && here then
    let mask := s.fld MEM_FLIP_MASK.MASK 0
    let s := if s.fld MEM_FLIP_MASK.TARGET 0 = 0 then
        let e := mask % 2 ^ (if byteStore m then 13 else 72)
        s.setErr w (s.errAt w ^^^ e) true
      else
        let key := 16 * pageOf u + 4 * (mask / 2 ^ 16 % 4) + mask / 2 ^ 18 % 4
        s.modMemx fun x => { x with
          checkErrs := Tab.set natLt (fun _ => 0) x.checkErrs key (Tab.get (fun _ => 0) x.checkErrs key ^^^ mask % 65536) }
    let s := s.modMemx fun x => { x with flipLeft := x.flipLeft - 1 }
    if s.memx.flipLeft = 0 then s.setFlag MEM_FLIP_MASK.ARM 0 false else s
  else s

/-- What a write does to the codes of the 8-byte word `u`, of which it writes the bytes from `a` to `a + n − 1`: a flagged old
word has its page repaired or lost first; the written word is stored with its new value. -/
def State.writeCodes (s : State) (m u a n : Nat) : State :=
  let whole := decide (a = u ∧ n = 8)
  let ws := if byteStore m then (List.range n).map (a + ·) else [u]
  let flagged := ws.any fun w => s.flaggedIn m w
  let s := if flagged then
      if s.armed m then s.mendPage m (pageOf u) else if whole || byteStore m then s else s.setPoison u true
    else s
  let s := ws.foldl (fun s w => s.setErr w 0 false) s
  let s := if whole || (flagged && s.armed m) then s.setPoison u false else s
  s.flip m u a

/-- A normal write of the bytes `bs` from address `a` up. -/
def State.storeWrite (s : State) (a : Nat) (bs : List Byte) : State :=
  match regionAt a with
  | none => s
  | some m =>
    let n := bs.length
    let s := if s.memx.errs.isEmpty && s.memx.poison.isEmpty && !s.flag MEM_FLIP_MASK.ARM 0 then s
      else s.each ((List.range ((a + n + 7) / 8 - a / 8)).map fun i => 8 * (a / 8 + i)) fun u s =>
        let lo := max a u
        s.writeCodes m u lo (min (a + n) (u + 8) - lo)
    s.setMemBytes a bs

/-- The contents and the marks of `n` bytes from `a` go: they read as memory nothing has written (log entry 11). -/
def State.clearMem (s : State) (a n : Nat) : State :=
  let s := { s with mem := s.mem.filter fun e => !inRange a n e.1 }
  s.modMemx fun x => { x with
    errs := x.errs.filter fun e => !inRange a n e.1
    checkErrs := x.checkErrs.filter fun e => !inRange (16 * a) (16 * n) e.1
    poison := x.poison.filter fun e => !inRange a n e.1
    repairing := x.repairing.filter fun p => !inRange a n p
    fixed := x.fixed.filter fun e => !inRange a n e.1 }

/-- A fill writes whole words, never altered by the flip mask (R399, R406). -/
def State.fillMem (s : State) (a n : Nat) (pattern : List Byte) : State :=
  let s := s.clearMem a n
  if pattern.all (· = 0) then s else s.setMemBytes a ((List.range n).map fun i => pattern.getD (i % 8) 0)

/-- Region `m` loses its power: disarmed, its contents gone, its scrub lap cut short (R400). -/
def State.loseRegion (s : State) (m : Nat) : State :=
  let s := (s.setArmed m false).clearMem (regionBase m) (4096 * regionPages m)
  s.modMemx fun x => { x with scrub := x.scrub.filter fun e => e.1 ≠ m }

/-- Region `m` is filled with the fill pattern of MEM_INIT and armed (R399; log entry 11). -/
def State.initRegion (s : State) (m : Nat) : State :=
  (s.clearMem (regionBase m) (4096 * regionPages m)).setArmed m true

/-! ### Registers -/

/-- A write to `MEM_FLIP_MASK` (Table 14-8). -/
def wrFlipMask (p : Path) (v : Nat) (s : State) : State × WStatus :=
  if 6 < fieldOf v MEM_FLIP_MASK.STORE ∨ 1 < fieldOf v MEM_FLIP_MASK.TARGET ∨ fieldOf v MEM_FLIP_MASK.COUNT = 0 then
    rejectWrite p .MEM_FLIP_MASK 0 v s
  else ((plainWrite .MEM_FLIP_MASK 0 v s).modMemx fun x => { x with flipLeft := fieldOf v MEM_FLIP_MASK.COUNT }, .ok)

/-- A write to `MEM_SCRUB_CFG_m`: `PERIOD` 0 is rejected; reserved, hence without effect, for the replay partitions. A lap cut
short is not reported (R402). -/
def wrScrubCfg (p : Path) (m v : Nat) (s : State) : State × WStatus :=
  if m < 8 then (s, .ok)
  else if fieldOf v MEM_SCRUB_CFG.PERIOD = 0 then rejectWrite p .MEM_SCRUB_CFG m v s
  else
    let s := plainWrite .MEM_SCRUB_CFG m v s
    (if fieldOf v MEM_SCRUB_CFG.SCRUB_EN = 0 then s.modMemx fun x => { x with scrub := x.scrub.filter fun e => e.1 ≠ m } else s, .ok)

/-! ### The commands -/

/-- PAGE_REPAIR_DONE, R397: the repair of page `page` of a region, started by a read of the datapath or by the scrubber. -/
def execPageRepairDone (m : Fin 21) (page : BitVec 10) (s : State) : Res :=
  let a := regionBase m + 4096 * page.toNat
  if s.memx.repairing.contains a then .next ((s.mendPage m a).modMemx fun x => { x with repairing := x.repairing.erase a }) else .next s

/-- RETIREMENT_COPY_DONE, R404: the page address is mapped to the spare; words that could not be reconstructed keep their
poison marks. -/
def execRetirementCopyDone (m : Fin 21) (page : BitVec 10) (s : State) : Res :=
  let a := regionBase m + 4096 * page.toNat
  if s.memx.copying.contains a then
    let s := if s.inReach m a then s else s.losePage m a
    .next (s.modMemx fun x => { x with
      copying := x.copying.erase a
      errs := x.errs.filter fun e => !inRange a 4096 e.1
      checkErrs := x.checkErrs.filter fun e => !inRange (16 * a) 16 e.1
      repairing := x.repairing.erase a
      repairAt := x.repairAt.filter fun e => e.1 ≠ a
      fixed := x.fixed.filter fun e => !inRange a 4096 e.1 })
  else .next s

/-- The scrubber corrects the single-bit error of word `w`: written back and counted; corrected on two laps in a row, its page
is retired (R401, R403). -/
def State.scrubWord (s : State) (m w : Nat) : State :=
  if weight (s.errAt w) = 1 then
    let inj := s.injectedAt w
    let lap := s.fld MEM_LAP_COUNT.COUNT m
    let again := match s.memx.fixed.find? fun e => e.1 = w with
      | some e => decide (e.2 + 1 = lap)
      | none => false
    let s := (s.count MEM_CORR.COUNT m).setErr w 0 false
    let s := s.modMemx fun x => { x with fixed := Tab.insert natLt w lap x.fixed }
    if again then s.retire m (pageOf w) inj else s
  else s

/-- The page check is not clean: a word is flagged or wrong, or a check symbol is. -/
def State.pageUnclean (s : State) (m page : Nat) : Bool := (List.range 4).any fun k =>
  let (f, e) := s.columnFaults m page k
  decide (f + e ≠ 0)

/-- The end of the page that the scrubber has read: a page that is not clean goes to repair; the last page ends the lap. -/
def State.scrubPageEnd (s : State) (m page start : Nat) : State :=
  let a := regionBase m + 4096 * page
  let marked := s.memx.poison.any fun e => e.2 && inRange a 4096 e.1
  let s := if s.pageUnclean m a && !(marked && (s.pageErrs a).isEmpty) && !s.memx.repairing.contains a then
      (s.modMemx fun x => { x with repairing := x.repairing ++ [a] }).alert Alert.MEMORY else s
  if page + 1 < regionPages m then s.modMemx fun x => { x with scrub := Tab.insert natLt m (page + 1, 0, start) x.scrub }
  else
    let us := (s.cycle - start) * 128 / 100000
    let s := (s.setFld MEM_SCRUB_LAP.LAP m (min us 0xFFFFFFFF)).count MEM_LAP_COUNT.COUNT m
    s.modMemx fun x => { x with scrub := Tab.insert natLt m (0, 0, s.cycle) x.scrub, lapLast := if storeOf m = 3 then m else x.lapLast }

/-- The scrubber visits region `m`: armed, scrubbed, enabled. -/
def State.scrubs (s : State) (m : Nat) : Bool :=
  decide (8 ≤ m) && !s.partFailed 12 && s.armed m && s.flag MEM_SCRUB_CFG.SCRUB_EN m

/-- Region `m` is the one of its store that the scrubber is at: the partitions of the capture store are visited in ascending order, the
one begun first (R401, R402). -/
def State.scrubTurn (s : State) (m : Nat) : Bool :=
  let order := ((List.range 8).map fun i => 10 + (s.memx.lapLast - 10 + 1 + i) % 8).filter s.scrubs
  let begun := order.find? fun k => match s.memx.scrub.find? fun e => e.1 = k with
    | some (_, page, beat, _) => decide (page ≠ 0 ∨ beat ≠ 0)
    | none => false
  storeOf m ≠ 3 || begun.or order.head? = some m

/-- SCRUB_BEAT, R402: the scrubber reads the next 32-byte beat of region `m`; `upsets` are the bits that have changed in its
cells, by byte offset in the beat and pattern. -/
def execScrubBeat (m : Fin 21) (upsets : List (Fin 32 × BitVec 72)) (s : State) : Res :=
  if !s.scrubs m || !s.scrubTurn m then .next s
  else
    let (page, beat, start) := Tab.get (fun _ => (0, 0, s.cycle)) s.memx.scrub m.val
    let a := regionBase m + 4096 * page + 32 * beat
    let s := upsets.foldl (fun s e =>
      let w := if byteStore m then a + e.1.val else (a + e.1.val) / 8 * 8
      s.setErr w (s.errAt w ^^^ e.2.toNat % 2 ^ (if byteStore m then 13 else 72)) (s.injectedAt w)) s
    let s := s.each (wordsOf m a 32) fun w s => s.scrubWord m w
    .next (if beat + 1 < 128 then s.modMemx fun x => { x with scrub := Tab.insert natLt m.val (page, beat + 1, start) x.scrub }
      else s.scrubPageEnd m page start)

/-- FLIP_MASK_COMMIT, R406: the write of the whole of `MEM_FLIP_MASK`. -/
def execFlipMaskCommit (p : Path) (value : BitVec 128) (s : State) : Res :=
  commitCommand p .MEM_FLIP_MASK 0 value.toNat (wrFlipMask p value.toNat) s

end Sys2Proof.Machine
end

