-- ==== Sys2Proof/Machine/Pmc.lean ====
section
/-! DEFINITION. The performance counters (chapter 15). -/
namespace Sys2Proof.Machine

/-- The counters. -/
def counters128 : List Nat := List.range 128

/-- A source of Table 15-3: the instances it has and whether it is an occupancy; none where the table lists none. -/
def pmcSource (src sel : Nat) : Option (Nat × Bool) :=
  match src, sel with
  | 0x0E, 0x00 => some (1, false)
  | 0x00, 0x01 => some (1, false)
  | 0x00, 0x02 => some (1, false)
  | 0x01, 0x01 => some (16, false)
  | 0x01, 0x02 => some (16, false)
  | 0x03, 0x01 => some (16, false)
  | 0x03, 0x02 => some (16, false)
  | 0x03, 0x03 => some (16, false)
  | 0x03, 0x04 => some (16, false)
  | 0x05, 0x01 => some (32, false)
  | 0x05, 0x02 => some (32, false)
  | 0x06, 0x01 => some (16, false)
  | 0x06, 0x02 => some (16, false)
  | 0x06, 0x03 => some (16, false)
  | 0x06, 0x04 => some (16, false)
  | 0x06, 0x05 => some (256, false)
  | 0x0C, 0x01 => some (21, false)
  | 0x0C, 0x02 => some (21, false)
  | 0x0C, 0x10 => some (16, false)
  | 0x06, 0x80 => some (256, true)
  | 0x06, 0x81 => some (256, true)
  | 0x06, 0x82 => some (16, true)
  | 0x06, 0x83 => some (256, true)
  | 0x05, 0x80 => some (32, true)
  | 0x0C, 0x80 => some (1, true)
  | 0x00, 0x80 => some (1, true)
  | _, _ => none

/-- The width of the total that an event source keeps. -/
def pmcWidth (src sel : Nat) : Nat :=
  match src, sel with
  | 0x03, _ => 48
  | 0x06, 0x05 => 48
  | 0x05, 0x01 => 64
  | 0x0E, _ => 64
  | 0x01, 0x01 => 64
  | 0x06, 0x04 => 64
  | 0x0C, 0x10 => 64
  | _, _ => 32

/-- The total an event source has counted, or the occupancy as it stands. Line-loop OUT is account 7. The fill of a port is that of its
two elastic buffers together (DESIGN CHOICE, log entry 10). -/
def State.pmcTotal (s : State) (src sel i : Nat) : Nat × State :=
  match src, sel with
  | 0x0E, _ => (s.cycle, s)
  | 0x00, 0x01 => (s.fld EVL_WRITTEN.COUNT 0, s)
  | 0x00, 0x02 => (s.fld EVL_DROPPED.COUNT 0, s)
  | 0x00, _ => (s.recorder.queue.length, s)
  | 0x01, 0x01 => ((s.lrxOf i).clips, s)
  | 0x01, _ => (s.fld LRX_LOL.COUNT i, s)
  | 0x03, 0x01 => ((s.lfecOf i).live.rsRx.toNat, s)
  | 0x03, 0x02 => ((s.lfecOf i).live.rsUncorr.toNat, s)
  | 0x03, 0x03 => ((s.lfecOf i).live.rsSym.toNat, s)
  | 0x03, _ => ((s.lfecOf i).live.inFlips.toNat, s)
  | 0x05, 0x01 => ((s.hsiOf i).cells, s)
  | 0x05, 0x02 => (s.fld HSI_BAD_SH.COUNT i, s)
  | 0x05, _ => ((s.hpmOf i).up.length + (s.hpmOf i).down.length, s)
  | 0x06, 0x01 => (s.fld CIN_LANE_SEQ.HEAD i, s)
  | 0x06, 0x02 => (s.fld CIN_RUN_GRAN.COUNT i, s)
  | 0x06, 0x03 => (s.fld CIN_NACK_TX.COUNT i, s)
  | 0x06, 0x04 => ((s.claneOf i).idles, s)
  | 0x06, 0x05 => (s.fld CIN_DELIVER.COUNT i, s)
  | 0x06, 0x80 => (10 * (s.chanOf i).ing.length, s)
  | 0x06, 0x81 => (10 * (s.chanOf i).egr.length, s)
  | 0x06, 0x82 => (match (s.claneOf i).run with
      | some q => (BitVec.ofNat 32 (s.fld CIN_LANE_SEQ.HEAD i) - q).toNat
      | none => 0, s)
  | 0x06, _ => (s.fld CIN_CH_ACCT.TOTAL (16 * i + 7), s)
  | 0x0C, 0x01 => (s.fld MEM_CORR.COUNT i, s)
  | 0x0C, 0x02 => (s.fld MEM_REPAIR.COUNT i, s)
  | 0x0C, 0x10 => (Tab.get (fun _ => 0) s.engine.beats i, s)
  | _, _ => ((s.fld DMA_CQ_WR.IDX 0 + 256 - s.fld DMA_CQ_RD.IDX 0) % 256, s)

/-- The group that a source lies in. -/
def pmcGroup (src sel i : Nat) : Option Nat :=
  match src, sel with
  | 0x01, _ => some (i / 2)
  | 0x03, _ => some (i / 2)
  | 0x05, _ => some (i / 4)
  | 0x06, 0x05 => some (i / 32)
  | 0x06, 0x80 => some (i / 32)
  | 0x06, 0x81 => some (i / 32)
  | 0x06, 0x83 => some (i / 32)
  | 0x06, _ => some (i / 2)
  | _, _ => none

/-- A counter whose source lies in a domain that is powered down, or in a group between quiesce and reopen, holds (R434). -/
def State.pmcHeld (s : State) (k : Nat) : Bool :=
  match pmcGroup (s.fld PMC_CTL.SRC k) (s.fld PMC_CTL.SEL k) (s.fld PMC_CTL.INST k) with
  | some g =>
    let st := s.fld HRN_GROUP_STATE.STATE g
    decide (st = Group.REBUILDING ∨ s.fld PWR_STATE.STATE 0 ≠ 0)
  | none => false

/-- The events between two looks at a total of `w` bits: a total that has fallen has wrapped from its upper half to its lower,
or has been closed to zero. -/
def pmcDelta (w last now : Nat) : Nat :=
  if last ≤ now then now - last else if 2 ^ (w - 1) ≤ last ∧ now < 2 ^ (w - 1) then now + 2 ^ w - last else now

/-- Counter `k` takes a value; beyond 48 bits it wraps, and the wrap waits for COUNTER_WRAP. -/
def State.pmcSet (s : State) (k v : Nat) : State :=
  let s' := s.setFld PMC_VALUE.COUNT k v
  if 2 ^ 48 ≤ v then s'.modPmc k fun x => { x with wrapAt := some (s.cycle, s.now) } else s'

/-- One core cycle of counter `k` (R427, R429). -/
def State.pmcStep (s : State) (k : Nat) : State :=
  let src := s.fld PMC_CTL.SRC k
  let sel := s.fld PMC_CTL.SEL k
  let occ := match pmcSource src sel with
    | some (_, o) => o
    | none => false
  let (now, s) := s.pmcTotal src sel (s.fld PMC_CTL.INST k)
  let last := (s.pmcOf k).last
  let s := s.modPmc k fun x => { x with last := now }
  if s.flag PMC_GLOBAL.FREEZE 0 || s.pmcHeld k then s.modPmc k fun x => { x with whole := false }
  else
    let d := if s.fld PMC_CTL.MODE k = 1 then (if s.fld PMC_THRESH.N k < now then 1 else 0)
      else if occ then now else pmcDelta (pmcWidth src sel) last now
    s.pmcSet k (s.fld PMC_VALUE.COUNT k + d)

/-- One core cycle of the counters that are enabled. -/
def State.tickPmc (s : State) : State := s.each (counters128.filter fun k => s.flag PMC_CTL.EN k) fun k s => s.pmcStep k

/-- Counter `k` before what has reloaded it in this core cycle (Table 15-4). -/
def State.pmcWas (s : State) (k : Nat) : Nat :=
  match (s.pmcOf k).was with
  | some (c, v) => if c = s.cycle then v else s.fld PMC_VALUE.COUNT k
  | none => s.fld PMC_VALUE.COUNT k

/-- Counter `k` restarts from its preset; the value it had is kept for the rest of the core cycle. -/
def State.pmcReload (s : State) (k : Nat) : State :=
  let v := s.pmcWas k
  (s.setFld PMC_VALUE.COUNT k (s.fld PMC_PRESET.PRESET k)).modPmc k fun x => { x with was := some (s.cycle, v) }

/-- A window ends: every windowed counter copies its value and restarts from its preset (R430). A step under R242 ends the
window in progress. -/
def State.pmcWindow (s : State) (stepped : Bool) : State :=
  s.each (counters128.filter fun k => s.flag PMC_CTL.WINDOWED k) fun k s =>
    let s := s.setFlag PMC_WIN.VALID k (s.pmcOf k).whole
    let s := ((s.setFlag PMC_WIN.STEPPED k stepped).setFld PMC_WIN.COUNT k (s.pmcWas k)).pmcReload k
    s.modPmc k fun x => { x with whole := s.flag PMC_CTL.EN k && !s.flag PMC_GLOBAL.FREEZE 0 && !s.pmcHeld k }

/-- A window begins in this core cycle: L mod (WIN × 1,000) = 0 (R430). -/
def State.windowStarts (s : State) : Bool := s.atMultiple (max 1 (s.fld PMC_GLOBAL.WIN 0) * 1000)

/-! ### Registers -/

/-- A write to `PMC_CTL_k`: a source that Table 15-3 does not list, an instance out of range, a reserved mode or THRESH on a
source that is no occupancy is rejected, and enabling where partition 13 failed. A change of source or mode, or enabling, loads the preset (R427). -/
def wrPmcCtl (p : Path) (k v : Nat) (s : State) : State × WStatus :=
  let src := fieldOf v PMC_CTL.SRC
  let sel := fieldOf v PMC_CTL.SEL
  let inst := fieldOf v PMC_CTL.INST
  let mode := fieldOf v PMC_CTL.MODE
  match pmcSource src sel with
  | none => rejectWrite p .PMC_CTL k v s
  | some (n, occ) =>
    if n ≤ inst ∨ 1 < mode ∨ (mode = 1 ∧ occ = false) ∨ (fieldOf v PMC_CTL.EN = 1 ∧ s.partFailed 13) then rejectWrite p .PMC_CTL k v s
    else
      let en := fieldOf v PMC_CTL.EN = 1
      let fresh := decide (src ≠ s.fld PMC_CTL.SRC k ∨ sel ≠ s.fld PMC_CTL.SEL k ∨ inst ≠ s.fld PMC_CTL.INST k ∨
        mode ≠ s.fld PMC_CTL.MODE k) || (decide en && !s.flag PMC_CTL.EN k)
      let s := plainWrite .PMC_CTL k v s
      if fresh then
        let (now, s) := s.pmcTotal src sel inst
        let s := s.setFld PMC_VALUE.COUNT k (s.fld PMC_PRESET.PRESET k)
        (s.modPmc k fun x => { x with last := now, whole := false, wrapAt := none }, .ok)
      else (if en then s else s.modPmc k fun x => { x with whole := false }, .ok)

/-- A write to `PMC_GLOBAL`: `WIN` outside 1 to 1,000,000 rejects it; SNAP copies the counters; FREEZE spoils the window. -/
def wrPmcGlobal (p : Path) (v : Nat) (s : State) : State × WStatus :=
  let win := fieldOf v PMC_GLOBAL.WIN
  if win = 0 ∨ 1000000 < win then rejectWrite p .PMC_GLOBAL 0 v s
  else
    let s := plainWrite .PMC_GLOBAL 0 v s
    let s := if fieldOf v PMC_GLOBAL.SNAP = 1 then { s with pmcSnap := counters128.map s.pmcWas } else s
    (if s.flag PMC_GLOBAL.FREEZE 0 then s.each counters128 fun k s => s.modPmc k fun x => { x with whole := false } else s, .ok)

/-- A role reads 0 of values and windows: USER while `PMC_USER_EN.EN` is 0, every role where partition 13 failed (R432, Table 16-2). -/
def State.pmcHidden (s : State) (role : Nat) : Bool :=
  decide (role ≤ Role.USER ∧ s.fld PMC_USER_EN.EN 0 = 0) || s.partFailed 13

/-- What a read of `PMC_VALUE_k` gives a role: 0 to USER while `PMC_USER_EN.EN` is 0, the snapshot while HOLD is 1 (R431,
R432). -/
def State.pmcRead (s : State) (role k : Nat) : Nat :=
  if s.pmcHidden role then 0
  else if s.flag PMC_GLOBAL.HOLD 0 then s.pmcSnap.getD k 0 else s.fld PMC_VALUE.COUNT k

/-! ### The commands -/

/-- PMC_CTL_WRITE, R427. -/
def execPmcCtlWrite (p : Path) (k : Fin 128) (value : Word32) (s : State) : Res :=
  writeCommand p .PMC_CTL k value.toNat (wrPmcCtl p k value.toNat) s

/-- PMC_WINDOW_BOUNDARY, R430. -/
def execPmcWindowBoundary (s : State) : Res := .next (if s.windowStarts then s.pmcWindow false else s)

/-- SNAP, R431. -/
def execSnap (p : Path) (s : State) : Res :=
  let v := withField (s.writeBack .PMC_GLOBAL 0) PMC_GLOBAL.SNAP 1
  writeCommand p .PMC_GLOBAL 0 v (wrPmcGlobal p v) s

/-- The counters that `PMC_SAMPLE_LIST` names. -/
def State.sampleList (s : State) : List Nat :=
  (List.range 8).map fun i => bitsOf (s.reg .PMC_SAMPLE_LIST 0) (8 * i + 6) (8 * i)

/-- The wrap of counter `k` is dealt with: with SAMPLE, a sample and the preset (R433). -/
def State.pmcWrap (s : State) (k : Nat) : State :=
  match (s.pmcOf k).wrapAt with
  | none => s
  | some (at_, ts) =>
    let s := s.modPmc k fun x => { x with wrapAt := none }
    if !s.flag PMC_CTL.SAMPLE k then s
    else
      let lim := cyclesOfUs (s.fld PMC_SAMPLE_MIN.MIN 0)
      let soon := match (s.pmcOf k).lastSample with
        | some c => decide (at_ < c + lim)
        | none => false
      if soon then (s.count PMC_SAMPLE_DROP.COUNT 0).pmcReload k
      else
        let body := s.sampleList.flatMap fun c => c :: words64 (s.fld PMC_VALUE.COUNT c)
        let full := decide (64 ≤ s.recorder.queue.length)
        let s := s.logAt ts Evt.PMC_SAMPLE Subj.COUNTER k (min 8 (s.cycle - at_) :: body)
        let s := if full then s.count PMC_SAMPLE_DROP.COUNT 0 else s.modPmc k fun x => { x with lastSample := some at_ }
        s.pmcReload k

/-- COUNTER_WRAP, R433: the wrap of counter `k`, those of lower counters in the same core cycle first (Table 15-4). -/
def execCounterWrap (k : Fin 128) (s : State) : Res :=
  let at_ := (s.pmcOf k).wrapAt.map (·.1)
  let first := (List.range k).filter fun j => at_.isSome && (s.pmcOf j).wrapAt.map (·.1) = at_
  .next ((s.each first fun j s => s.pmcWrap j).pmcWrap k)

end Sys2Proof.Machine
end

