-- ==== Sys2Proof/Machine/TimeBase.lean ====
section
/-! DEFINITION. The time base, chapter 8: the TS96 clock and its steps, time quality and error bound, time transfer words,
source selection and servo, asymmetry calibration, PPS pins and the IEEE 1588 transparent clock. -/
namespace Sys2Proof.Machine

/-! ### The clock (R240 to R243) -/


/-- The instant of line symbol `off` (292 to a core cycle) or of host symbol `off` (136) in the core cycle in progress, in 2^-16 ns: the
offset is converted at the rate in force (R244). -/
def State.lineInstant (s : State) (off : Nat) : Nat := s.now16 + off * clockStep s.adj / (292 * 2 ^ 32)
def State.hostInstant (s : State) (off : Nat) : Nat := s.now16 + off * clockStep s.adj / (136 * 2 ^ 32)

/-- The clock after one core cycle: the nanoseconds carry into the seconds at 10^9. -/
def TimeX.advance (t : TimeX) (step : Nat) : TimeX :=
  let sub := t.sub + step
  if sub < 10 ^ 9 * 2 ^ 48 then { t with sub := sub } else { t with sec := t.sec + 1, sub := sub - 10 ^ 9 * 2 ^ 48 }

/-- `TMB_NOW` takes the instant `x` (2^-16 ns). -/
def State.setNow16 (s : State) (x : Int) : State :=
  let n := x.toNat
  { s with time := { s.time with sec := n / (10 ^ 9 * 2 ^ 16), sub := n % (10 ^ 9 * 2 ^ 16) * 2 ^ 32 } }

/-- A TS96 value the device accepts: nanoseconds below 10^9 and L below 2^62 ns (R11, R241). -/
def ts96Valid (t : Ts96) : Bool :=
  decide ((t.extractLsb' 16 32).toNat < 10 ^ 9) && decide (ts96Linear t < 2 ^ 62)

/-! ### Bound and quality (R258, R261) -/

/-- The bound of a device LOCKED as its own source, in ps: 0 with `GM_FREE`, else the accuracy of PPS_IN with the uncertainty of its
reference. -/
def State.ownBound (s : State) : Nat := if s.flag TMB_SRC_CFG.GM_FREE 0 then 0 else 250 + s.fld TMB_PPS_UNC.UNC 0

/-- The error bound now, in ps: of a device LOCKED as its own source what its settings say; else the bound at its last change, grown
at its rate over the core cycles since (1,280 ps each). -/
def State.boundNow (s : State) : Nat :=
  if s.quality = Quality.LOCKED ∧ s.time.source = .self then s.ownBound
  else s.time.bound + (s.cycle - s.time.boundAt) * 1280 * s.time.boundPpb / 10 ^ 9

/-- The growth of the bound in HOLDOVER and ESTIMATED, ppb. -/
def State.growth (s : State) : Nat :=
  if s.flag CLK_STATUS.REF_PRESENT 0 && s.time.steered then s.fld TMB_HOLD_CFG.HOLD_DRIFT 0 else 100000

/-- The bound takes a value in ps from now on, growing as the quality says. A bound above 2^63 − 1 ps makes quality LOST
(R261), which the caller judges with `boundNow`. -/
def State.setBound (s : State) (b : Nat) : State :=
  let q := s.quality
  let s := { s with time := { s.time with bound := b, boundAt := s.cycle,
                                          boundPpb := if q = Quality.LOCKED ∨ q = Quality.LOST then 0 else s.growth } }
  s.setFld TMB_ERR_BOUND.BOUND 0 (min b (2 ^ 63 - 1))

/-- The growth rate changes from now on (R261, R264). -/
def State.rebaseBound (s : State) : State := s.setBound s.boundNow

/-- The qualities that `OUT_GATE` lets PPS_OUT rise in (R268); 0b11 is not defined and lets none. -/
def State.ppsGate (s : State) : Bool :=
  let q := s.quality
  match s.fld TMB_PPS_CFG.OUT_GATE 0 with
  | 0 => decide (q = Quality.LOCKED)
  | 1 => decide (q ≤ Quality.HOLDOVER)
  | 2 => true
  | _ => false

/-- A calibration in progress ends ABORTED (R252). -/
def State.calAbort (s : State) : State :=
  if s.flag TMB_STATUS.CAL_BUSY 0 then (s.setFlag TMB_STATUS.CAL_BUSY 0 false).setFld TMB_STATUS.RESULT 0 4 else s

/-- Quality becomes `q` with bound `b`. -/
def State.setQuality (s : State) (q b : Nat) : State :=
  let left := s.quality = Quality.LOCKED ∧ q ≠ Quality.LOCKED
  let s := s.setFld TMB_QUALITY.Q 0 q
  let s := (s.setBound b).setFlag TMB_ERR_BOUND.UNBOUNDED 0 (decide (q = Quality.LOST))
  let s := if left then s.calAbort else s
  if s.time.ppsOut && !s.ppsGate then { s with time := { s.time with ppsOut := false } } else s

/-- Quality leaves LOCKED for HOLDOVER with the bound it has; any other quality is kept (Table 8-5). -/
def State.toHoldover (s : State) : State :=
  if s.quality = Quality.LOCKED then s.setQuality Quality.HOLDOVER s.boundNow else s

/-- A step of the clock to `x` (2^-16 ns), leaving `q` and bound `b` (R242): the record of old and new values, STEPPED.
Instants held from before move with the clock, so that differences stay on one scale (log entry 24). -/
def State.stepTo (s : State) (x : Int) (q b : Nat) : State :=
  let old := s.now
  let d : Int := x - (s.now16 : Int)
  let s := s.setNow16 x
  let shift := fun (t : TLaneX) => { t with
    fines := t.fines.map fun e => (e.1, e.2 + d)
    toAnswer := t.toAnswer.map fun e => (e.1, e.2 + d)
    fineRx := t.fineRx.map fun e => (e.1, e.2.1 + d, e.2.2) }
  let moved := fun (a : Nat) => ((a : Int) + d).toNat
  let s := s.each lanes16 fun n s => ((s.modTlane n shift).modLtx n fun x => { x with sentAt := x.sentAt.map moved }).modLrx n fun x =>
    { x with frameStart := x.frameStart.map moved }
  let s := { s with time := { s.time with phaseSince := none, filtered := 0, nearSince := none, ppsGoodRun := 0, ppsOutRun := 0 } }
  let s := s.raise TMB_QUALITY.STEPPED 0 1
  let s := s.pmcWindow true
  let s := s.setQuality q b
  s.log Evt.TMB_STEP Subj.DEVICE 0 (ts96Words old ++ ts96Words s.now)

/-! ### Candidates and selection (R253, R254, R257) -/

/-- Time transfer runs on lane `n` (R246): NZ line mode, LOCKED, the multiframe phase known. -/
def State.timeLane (s : State) (n : Nat) : Bool := !s.ieee n && s.locked n && s.flag LFEC_STATUS.MF_KNOWN n

/-- The rank of a candidate, lowest first: quality, priority, hops, source node ID. -/
def rankOf (q pri hops node : Nat) : Nat := ((q * 256 + pri) * 128 + hops) * 65536 + node

/-- The rank of the SOURCE word `w` as a far candidate, with its hops + 1; none where R253 has it ignored. -/
def State.farRank (s : State) (w : BitVec 40) : Option Nat :=
  let q := (w.extractLsb' 38 2).toNat
  let hops := (w.extractLsb' 32 6).toNat
  let pri := (w.extractLsb' 24 8).toNat
  let node := (w.extractLsb' 8 16).toNat
  if 2 ≤ q ∨ node = s.fld TMB_NODE_ID.NODE_ID 0 ∨ hops = 63 then none else some (rankOf q pri (hops + 1) node)

/-- The candidates: source, rank, lane (R253). A far device is named by the node ID of its LANE_STATUS. -/
def State.candidates (s : State) : List (TimeSource × Nat × Nat) :=
  let far := lanes16.filterMap fun n =>
    let x := s.tlaneOf n
    match x.farNode, x.source with
    | some k, some w => if s.timeLane n then (s.farRank w).map fun r => (TimeSource.far k, r, n) else none
    | _, _ => none
  if s.fld TMB_SRC_CFG.ROLE 0 = 1 then
    (TimeSource.self, rankOf s.quality (s.fld TMB_SRC_CFG.PRIORITY 0) 0 (s.fld TMB_NODE_ID.NODE_ID 0), 31) :: far
  else far

/-- The candidate of lowest rank; of equal ones the current source, else the first. -/
def State.bestCandidate (s : State) : Option (TimeSource × Nat × Nat) :=
  s.candidates.foldl (fun best c => match best with
    | none => some c
    | some b => if c.2.1 < b.2.1 ∨ (c.2.1 = b.2.1 ∧ c.1 = s.time.source ∧ b.1 ≠ s.time.source) then some c else some b) none

/-- A LOCKED far device is a candidate (R260). -/
def State.farLocked (s : State) : Bool := s.candidates.any fun c => decide (c.1 ≠ .self ∧ c.2.1 < rankOf 1 0 0 0)

/-- Which candidate is best, and since when, and how long no LOCKED far one has appeared: noted where a far device or a register has
told something new of the candidates (R254, R260; log entry 176). -/
def State.noteBest (s : State) : State :=
  let best := s.bestCandidate.map fun c => match s.time.best with
    | some (k, at_) => if k = c.1 then (k, at_) else (c.1, s.cycle)
    | none => (c.1, s.cycle)
  { s with time := { s.time with best := best, quietAt := if s.farLocked then s.cycle else s.time.quietAt } }

/-- The quality, hops and source node of the selected far source, as its latest SOURCE words give them: the lowest rank
among its lanes. -/
def State.upstream (s : State) : Option (Nat × Nat × Nat) :=
  match s.time.source with
  | .far k =>
    let ws := lanes16.filterMap fun n =>
      let x := s.tlaneOf n
      if x.farNode = some k then x.source.bind fun w => (s.farRank w).map fun r => (r, w) else none
    (ws.foldl (fun (best : Option (Nat × BitVec 40)) e => match best with
      | none => some e
      | some b => if e.1 < b.1 then some e else some b) none).map fun e =>
        ((e.2.extractLsb' 38 2).toNat, (e.2.extractLsb' 32 6).toNat + 1, (e.2.extractLsb' 8 16).toNat)
  | _ => none

/-- The lanes whose far device is the selected source. -/
def State.sourceLanes (s : State) : List Nat :=
  match s.time.source with
  | .far k => lanes16.filter fun n => s.timeLane n && decide ((s.tlaneOf n).farNode = some k)
  | _ => []

/-- The lanes the servo uses: those of the source that are not flagged EXCLUDED (R255, log entry 25). -/
def State.usedLanes (s : State) : List Nat := s.sourceLanes.filter fun n => !s.flag TMB_LANE_FLAGS.EXCLUDED n

/-- `TMB_QUALITY` and the USED flags show the source: the best lane in use is the one of the smallest asymmetry
uncertainty, the lowest-numbered of equals (log entry 26). -/
def State.showSource (s : State) : State :=
  let used := s.usedLanes
  let best := used.foldl (fun (b : Option Nat) n => match b with
    | none => some n
    | some m => if s.fld TMB_ASYM_UNC.UNC n < s.fld TMB_ASYM_UNC.UNC m then some n else some m) none
  let s := s.each lanes16 fun n s => s.setFlag TMB_LANE_FLAGS.USED n (used.contains n)
  let s := (s.setFld TMB_QUALITY.SRC_LANE 0 (best.getD 31)).setFlag TMB_QUALITY.IS_SOURCE 0 (decide (s.time.source = .self))
  match s.time.source with
  | .none_ => (s.setFld TMB_QUALITY.SRC_NODE 0 0).setFld TMB_QUALITY.HOPS 0 0
  | .self => (s.setFld TMB_QUALITY.SRC_NODE 0 (s.fld TMB_NODE_ID.NODE_ID 0)).setFld TMB_QUALITY.HOPS 0 0
  | .far _ => match s.upstream with
    | some u => (s.setFld TMB_QUALITY.SRC_NODE 0 u.2.2).setFld TMB_QUALITY.HOPS 0 u.2.1
    | none => s

/-- Words of a TMB_LANE record: kind, rtt, theta, asymmetry and its uncertainty. -/
def State.laneWords (s : State) (n kind : Nat) : List Nat :=
  kind :: (words64 (s.fld TMB_RTT.RTT n) ++ words64 (s.fld TMB_OFFSET.THETA n) ++
    [s.fld TMB_ASYM.ASYM n, s.fld TMB_ASYM_UNC.UNC n])

/-- The latest theta of lane `n`, 2^-16 ns. -/
def State.theta (s : State) (n : Nat) : Int := toSigned 64 (s.fld TMB_OFFSET.THETA n)

/-- The used lanes that produced a sample in the last 1 ms. -/
def State.freshLanes (s : State) : List Nat := s.usedLanes.filter fun n => match (s.tlaneOf n).thetaAt with
  | some c => decide (s.cycle < c + 781250)
  | none => false

/-- The combined sample of a list of lanes: one lane's theta is itself. -/
def State.combined (s : State) (ns : List Nat) : Option Int := match ns with
  | [] => none
  | [n] => some (s.theta n)
  | _ => some (Config.combineThetas (ns.map s.theta))

/-- `STEP_THR` in 2^-16 ns. -/
def State.stepThr (s : State) : Nat := s.fld TMB_SRC_CFG.STEP_THR 0 * 100 * 65536

/-- A step onto the selected far source by `th`: ESTIMATED, with the source's BOUND and half the rtt of the best lane (R257,
R261). -/
def State.stepToSource (s : State) (th : Int) : State :=
  let n := s.fld TMB_QUALITY.SRC_LANE 0
  let rttPs := s.fld TMB_RTT.RTT n * 1000 / 65536
  s.stepTo ((s.now16 : Int) + th) Quality.ESTIMATED ((s.tlaneOf n).farBound + rttPs / 2)

/-- The decision of R257 at a first selection or change of source, once a combined sample exists: a step where |theta|
exceeds STEP_THR, and from LOST whatever it is. Answers whether it stepped. -/
def State.reselect (s : State) (th : Int) : State × Bool :=
  if !s.time.resel then (s, false)
  else
    let s := { s with time := { s.time with resel := false } }
    if s.stepThr < th.natAbs ∨ s.quality = Quality.LOST then (s.stepToSource th, true) else (s, false)

/-- The source is selected (R254, R257). A calibration run sees a change of source. -/
def State.takeSource (s : State) (k : TimeSource) : State :=
  let s := s.calAbort
  let far := match k with
    | .far _ => true
    | _ => false
  let s := { s with time := { s.time with
    source := k, resel := far, phaseSince := none, filtered := 0, nearSince := none, ppsSeen := false, ppsGoodRun := 0
    quietAt := if far then s.time.quietAt else s.cycle } }
  let s := s.showSource
  match s.combined s.freshLanes with
  | some th => (s.reselect th).1
  | none => s

/-- The source is lost or dropped: LOCKED becomes HOLDOVER (R259, Table 8-5). -/
def State.dropSource (s : State) : State :=
  let s := s.toHoldover
  let s := { s with time := { s.time with source := .none_, resel := false, phaseSince := none, filtered := 0, nearSince := none } }
  (s.calAbort).showSource

/-- The candidates have changed. With no source selected, the best one is taken at once: there is none for it to replace (R253). -/
def State.selectFirst (s : State) : State :=
  let s := s.noteBest
  if s.time.source = .none_ then match s.bestCandidate with
    | some c => s.takeSource c.1
    | none => s
  else s

/-! ### Servo (R255, R256, R261) -/

/-- ±300 ppm in units of `ADJ`. -/
abbrev adjMax : Int := 329853488

/-- One pass of the proportional-integral loop on a combined sample, its gains those of the bandwidth in force, clamped at
±300 ppm. -/
def State.servo (s : State) (th : Int) : State :=
  let (kp, ki) := Config.servoGains (s.fld TMB_SRC_CFG.BW 0)
  let lim : Int := adjMax * 2 ^ 32
  let integ := clampInt (-lim) lim (s.time.integ + ki * th)
  let adj := clampInt (-adjMax) adjMax ((integ + kp * th) / 2 ^ 32)
  { (s.setFld TMB_RATE.ADJ 0 (ofSigned 32 adj)) with time := { s.time with integ := integ } }

/-- The bound of a LOCKED follower: the upstream bound, half the asymmetry uncertainty of the worst lane in use (rounded
up), three times the RMS of the servo residual, a free value, and 30 ps (R261, log entry 22). -/
def State.followerBound (s : State) : State :=
  let used := s.usedLanes
  let up := used.foldl (fun a n => max a (s.tlaneOf n).farBound) 0
  let unc := used.foldl (fun a n => max a (s.fld TMB_ASYM_UNC.UNC n)) 0
  let (v, s) := s.fresh
  s.setBound (up + (unc + 1) / 2 + 3 * (v.toNat % 2 ^ 32) + 30)

/-- The quality of the selected far source bears on the own one: LOCKED is left for HOLDOVER when upstream is no longer
LOCKED (Table 8-5). -/
def State.followQuality (s : State) : State := match s.upstream with
  | some (q, _, _) => if q = Quality.LOCKED then s else s.toHoldover
  | none => s

/-- A combined sample reaches the servo (R256, R257). -/
def State.servoSample (s : State) (th : Int) : State :=
  let (s, stepped) := s.reselect th
  if stepped then s
  else
    let excess := decide (s.stepThr < th.natAbs)
    let since := if excess then some (s.time.phaseSince.getD s.cycle) else none
    let f := Config.offsetFilter s.time.filtered th
    let near := if f.natAbs ≤ s.fld TMB_SRC_CFG.LOCK_THR 0 * 65536 then some (s.time.nearSince.getD s.cycle) else none
    let s := { s with time := { s.time with phaseSince := since, filtered := f, nearSince := near } }
    -- eight consecutive multiframes of 19,120 core cycles: the eighth sample lies seven after the first
    let lost := match since with
      | some c => decide (7 * 19120 ≤ s.cycle - c)
      | none => false
    if lost then s.stepToSource th
    else
      let s := s.servo th
      let locked := match s.upstream with
        | some (q, _, _) => decide (q = Quality.LOCKED)
        | none => false
      let s := if s.time.steered != locked then ({ s with time := { s.time with steered := locked } }).rebaseBound else s
      if s.quality = Quality.LOCKED then s.followerBound else s

/-- The median of a list of samples; of an even number, the mean of the middle two (log entry 27). -/
def median (xs : List Int) : Int :=
  let ys := xs.mergeSort
  let k := ys.length
  if k % 2 = 1 then ys.getD (k / 2) 0 else (ys.getD (k / 2 - 1) 0 + ys.getD (k / 2) 0) / 2

/-- A theta sample of lane `n` (R249, R255): counted, judged against the median of the lanes in use, and given to the servo
unless it is excluded or the lane is. -/
def State.thetaSample (s : State) (n : Nat) (th : Int) : State :=
  let s := s.setFld TMB_OFFSET.THETA n (ofSigned 64 th)
  let s := (s.count TMB_EXCH.COUNT n).modTlane n fun x => { x with thetaAt := some s.cycle }
  if !s.sourceLanes.contains n then s
  else
    let ref := s.freshLanes
    let judged := decide (3 ≤ ref.length)
    let out := judged && decide (2 * 65536 < (th - median (ref.map s.theta)).natAbs)
    let x := s.tlaneOf n
    let s := if out then
        let s := (s.count TMB_OUTLIER.COUNT n).modTlane n fun x => { x with exclRun := x.exclRun + 1, goodRun := 0 }
        if x.exclRun + 1 = 16 ∧ !s.flag TMB_LANE_FLAGS.EXCLUDED n then
          ((s.setFlag TMB_LANE_FLAGS.EXCLUDED n true).log Evt.TMB_LANE Subj.LINE_LANE n (s.laneWords n 0)).showSource
        else s
      else
        let s := s.modTlane n fun x => { x with exclRun := 0, goodRun := x.goodRun + 1 }
        if s.flag TMB_LANE_FLAGS.EXCLUDED n ∧ 16 ≤ x.goodRun + 1 then
          let s := (s.setFlag TMB_LANE_FLAGS.EXCLUDED n false).modTlane n fun x => { x with goodRun := 0 }
          (s.log Evt.TMB_LANE Subj.LINE_LANE n (s.laneWords n 1)).showSource
        else s
    if out || s.flag TMB_LANE_FLAGS.EXCLUDED n then s
    else match s.combined s.freshLanes with
      | some c => s.servoSample c
      | none => s

/-! ### Time words (R246 to R249) -/

/-- FINE of an instant: (L mod 2^22) × 2^16 + fraction. -/
def fineOf (x : Int) : Nat := (x % (2 ^ 38 : Int)).toNat

/-- The payload of the TIME word that frame 0 of superframe `m` carries on lane `n`, sent at instant `x`, and the state
after sending it (Table 8-2). `mf` is the sender's multiframe count. -/
def State.timeWord (s : State) (n m mf : Nat) (x : Int) : BitVec 44 × State :=
  let word := fun (sub v : Nat) => BitVec.ofNat 44 (sub * 2 ^ 40 + v % 2 ^ 40)
  match m with
  | 0 =>
    (word 0 (mf % 4 * 2 ^ 38 + fineOf x),
      s.modTlane n fun t => { t with fines := ((mf % 4, x) :: t.fines).take 4, coarse := (x / 2 ^ 38).toNat % 2 ^ 40 })
  | 1 =>
    let t := s.tlaneOf n
    match t.toAnswer with
    | some (tag, r) => (word 1 (tag * 2 ^ 38 + fineOf (x - r)), s.modTlane n fun t => { t with toAnswer := none })
    | none => (word 1 (2 ^ 38 - 1), s)
  | 2 => (word 2 (s.tlaneOf n).coarse, s)
  | 3 =>
    let q := s.quality
    let (hops, pri, node) := match s.time.source, s.upstream with
      | .far k, some (_, h, node) =>
        let w := (lanes16.find? fun m => (s.tlaneOf m).farNode = some k ∧ (s.tlaneOf m).source.isSome).bind fun m =>
          (s.tlaneOf m).source
        (min h 63, match w with
          | some w => (w.extractLsb' 24 8).toNat
          | none => 0, node)
      | _, _ => (0, s.fld TMB_SRC_CFG.PRIORITY 0, s.fld TMB_NODE_ID.NODE_ID 0)
    (word 3 (q * 2 ^ 38 + hops * 2 ^ 32 + pri * 2 ^ 24 + node * 2 ^ 8), s)
  | _ =>
    let b := if s.quality = Quality.LOST then 0xFFFFFFFF else min s.boundNow 0xFFFFFFFF
    (word 4 b, s)

/-- A TIME word that a NACK displaced (R246): its COARSE instant exists though the word was not sent. -/
def State.timeDisplaced (s : State) (n m : Nat) (x : Int) : State :=
  if m = 0 then s.modTlane n fun t => { t with coarse := (x / 2 ^ 38).toNat % 2 ^ 40 } else s

/-- Lane `n` stops exchanging time: what it held of an exchange is gone. -/
def State.timeLaneDown (s : State) (n : Nat) : State :=
  ((s.modTlane n fun t => { t with toAnswer := none, fineRx := none, fines := [] }).showSource).noteBest

/-- `NACK_TO` of the lane: its round trip plus 2 µs, in 100 ns units rounded up; 30 µs before a measurement. NO_REPLAY
where the round trip exceeds 29.45 µs (R233, R236). -/
def State.cinRtt (s : State) (n : Nat) : State :=
  if s.flag TMB_RTT.VALID n then
    let rtt := s.fld TMB_RTT.RTT n
    let s := s.setFld CIN_LANE_CFG.NACK_TO n ((rtt + 6553599) / 6553600 + 20)
    s.setFlag CIN_LANE_STATUS.NO_REPLAY n (decide (29450 * 65536 < rtt))
  else s

/-- A received RX_FINE: the rtt (R249), the turnaround and the receive instant on the own clock. -/
def State.rxFine (s : State) (n v : Nat) (a2 : Int) : State :=
  let tag := v / 2 ^ 38 % 4
  let tf : Nat := v % 2 ^ 38
  if tf = 2 ^ 38 - 1 then s
  else match (s.tlaneOf n).fines.find? fun e => e.1 = tag with
    | none => s
    | some (_, a1) =>
      let rtt : Int := a2 - a1 - Int.ofNat tf
      let s := (s.setFld TMB_RTT.RTT n (ofSigned 48 rtt)).setFlag TMB_RTT.VALID n true
      (s.modTlane n fun t => { t with rttAt := s.cycle }).cinRtt n

/-- A received COARSE completes the TX_FINE of its multiframe, and a theta sample is formed while the rtt is no older than
1 ms (R247, R249). -/
def State.coarseRx (s : State) (n v : Nat) : State :=
  let t := s.tlaneOf n
  let s := s.modTlane n fun t => { t with fineRx := none }
  match t.fineRx with
  | none => s
  | some (fine, c2, at_) =>
    if 19120 ≤ s.cycle - at_ ∨ !s.flag TMB_RTT.VALID n ∨ 781250 < s.cycle - t.rttAt then s  -- rtt no older than 1 ms
    else
      let c1 : Int := (v * 2 ^ 38 + fine : Nat)
      let rtt := toSigned 48 (s.fld TMB_RTT.RTT n)
      let asym := toSigned 32 (s.fld TMB_ASYM.ASYM n) * 256
      s.thetaSample n (c1 - c2 + (rtt - asym) / 2)

/-- A received SOURCE word: the far source of the lane; the current source is dropped at once when its candidate becomes
ignored (R254), and upstream quality bears on the own one. -/
def State.sourceRx (s : State) (n : Nat) (w : BitVec 40) : State :=
  let s := s.modTlane n fun t => { t with source := some w }
  let s := (s.setFld TMB_LANE_STATUS.Q n (w.extractLsb' 38 2).toNat).setFld TMB_LANE_STATUS.HOPS n (w.extractLsb' 32 6).toNat
  let s := (s.setFld TMB_LANE_STATUS.PRIORITY n (w.extractLsb' 24 8).toNat).setFld TMB_LANE_STATUS.NODE n
    (w.extractLsb' 8 16).toNat
  let mine : Bool := match (s.tlaneOf n).farNode with
    | some k => decide (s.time.source = .far k)
    | none => false
  let s := if mine then (if s.upstream.isNone then s.dropSource else (s.followQuality).showSource) else s
  s.selectFirst

/-- The far device of lane `n` names its node ID (LANE_STATUS, OPEN): NODE_DUP where it equals the own one (R271). -/
def State.farNodeSeen (s : State) (n id : Nat) : State :=
  let dup := decide (id = s.fld TMB_NODE_ID.NODE_ID 0)
  let raise_ := dup && !(s.tlaneOf n).dup
  let s := s.modTlane n fun t => { t with farNode := some id, dup := dup }
  let s := if raise_ then s.log Evt.TMB_LANE Subj.LINE_LANE n (s.laneWords n 2) else s
  s.selectFirst

/-- A partial image covering lane `n` (Table 8-7): its record of kind 3 with the four counters; its registers read reset. -/
def State.timeLaneClose (s : State) (n : Nat) : State :=
  let s := s.log Evt.TMB_LANE Subj.LINE_LANE n (s.laneWords n 3 ++
    [s.fld TMB_TIME_RX.COUNT n, s.fld TMB_SUB_RSVD.COUNT n, s.fld TMB_EXCH.COUNT n, s.fld TMB_OUTLIER.COUNT n])
  let s := s.resetRegs [.TMB_ASYM, .TMB_ASYM_UNC, .TMB_RTT, .TMB_OFFSET, .TMB_LANE_STATUS, .TMB_LANE_FLAGS, .TMB_FRAME_TX,
    .TMB_FRAME_RX, .TMB_TIME_RX, .TMB_SUB_RSVD, .TMB_EXCH, .TMB_OUTLIER] n
  ((s.modTlane n fun _ => {}).showSource).noteBest

/-! ### Register writes -/

/-- A write to `TMB_SRC_CFG`: ROLE above CANDIDATE and zero thresholds are rejected. -/
def wrTmbSrcCfg (p : Path) (v : Nat) (s : State) : State × WStatus :=
  if 1 < fieldOf v TMB_SRC_CFG.ROLE ∨ fieldOf v TMB_SRC_CFG.STEP_THR = 0 ∨ fieldOf v TMB_SRC_CFG.LOCK_THR = 0 then
    rejectWrite p .TMB_SRC_CFG 0 v s
  else
    let s := plainWrite .TMB_SRC_CFG 0 v s
    let s := if s.time.source = .self ∧ s.fld TMB_SRC_CFG.ROLE 0 = 0 then s.dropSource else s
    (s.selectFirst, .ok)

/-- A write to `TMB_HOLD_CFG`: a zero field is rejected. -/
def wrTmbHoldCfg (p : Path) (v : Nat) (s : State) : State × WStatus :=
  if fieldOf v TMB_HOLD_CFG.HOLD_DRIFT = 0 ∨ fieldOf v TMB_HOLD_CFG.HOLD_LIMIT = 0 then rejectWrite p .TMB_HOLD_CFG 0 v s
  else
    let s := s.rebaseBound
    ((plainWrite .TMB_HOLD_CFG 0 v s).rebaseBound, .ok)

/-- A write to `TMB_PPS_CFG`: WIDTH outside 1–500,000 is rejected. -/
def wrTmbPpsCfg (p : Path) (v : Nat) (s : State) : State × WStatus :=
  if fieldOf v TMB_PPS_CFG.WIDTH = 0 ∨ 500000 < fieldOf v TMB_PPS_CFG.WIDTH then rejectWrite p .TMB_PPS_CFG 0 v s
  else
    let s := plainWrite .TMB_PPS_CFG 0 v s
    let s := { s with time := { s.time with ppsSeen := s.time.ppsSeen && decide (s.fld TMB_PPS_CFG.IN_MODE 0 = 2) } }
    (if s.time.ppsOut && (!s.flag TMB_PPS_CFG.OUT_EN 0 || !s.ppsGate) then
      { s with time := { s.time with ppsOut := false } } else s, .ok)

/-- A commit of `TMB_PPS_SEC`: an armed second that places L at or beyond 2^62 ns is rejected (R241). -/
def wrTmbPpsSec (p : Path) (v : Nat) (s : State) : State × WStatus :=
  if fieldOf v TMB_PPS_SEC.ARM = 1 ∧ 2 ^ 62 ≤ fieldOf v TMB_PPS_SEC.SECONDS * 10 ^ 9 then rejectWrite p .TMB_PPS_SEC 0 v s
  else (plainWrite .TMB_PPS_SEC 0 v s, .ok)

/-- The device follows a far source that is LOCKED or HOLDOVER (R272). -/
def State.following (s : State) : Bool := match s.time.source with
  | .far _ => true
  | _ => false

/-- A commit of `TMB_SET` (R242, R272): an invalid value is rejected; while following a source it is refused; else the clock
steps, quality ESTIMATED with the bound written. -/
def wrTmbSet (p : Path) (v : Nat) (s : State) : State × WStatus :=
  let t : Ts96 := BitVec.ofNat 96 v
  if !ts96Valid t then rejectWrite p .TMB_SET 0 v (s.setFld TMB_STATUS.RESULT 0 2)
  else if s.following then (s.setFld TMB_STATUS.RESULT 0 1, .rejected)
  else
    let s := (plainWrite .TMB_SET 0 v s).setFld TMB_STATUS.RESULT 0 0
    (s.stepTo (ts96To16 t : Nat) Quality.ESTIMATED (fieldOf v TMB_SET.BOUND * 1000), .ok)

/-- A write to `TMB_NODE_ID`, rejected while any lane is LOCKED (R271). -/
def wrTmbNodeId (p : Path) (v : Nat) (s : State) : State × WStatus :=
  if lanes16.any s.locked then rejectWrite p .TMB_NODE_ID 0 v s
  else
    let s := plainWrite .TMB_NODE_ID 0 v s
    (s.each lanes16 fun n s => match (s.tlaneOf n).farNode with
      | some k => s.farNodeSeen n k
      | none => s, .ok)

/-- A write to `TMB_ASYM_CAL` (R252): GO starts a calibration, refused BUSY while the controllers restart or one runs, and
RANGE where EDGES lies outside 16–1,023, or LANE names no lane (DESIGN CHOICE, log entry 173). -/
def wrTmbAsymCal (v : Nat) (s : State) : State × WStatus :=
  if fieldOf v TMB_ASYM_CAL.GO = 1 then
    if s.headless || s.flag TMB_STATUS.CAL_BUSY 0 then (s.setFld TMB_STATUS.RESULT 0 3, .busy)
    else if fieldOf v TMB_ASYM_CAL.EDGES < 16 ∨ 16 ≤ fieldOf v TMB_ASYM_CAL.LANE then (s.setFld TMB_STATUS.RESULT 0 2, .rejected)
    else
      let s := (plainWrite .TMB_ASYM_CAL 0 v s).setFlag TMB_STATUS.CAL_BUSY 0 true
      ({ s with time := { s.time with calCaps := [] } }, .ok)
  else (plainWrite .TMB_ASYM_CAL 0 v s, .ok)

/-- A write to `TMB_ASYM_n` or `TMB_ASYM_UNC_n`, recorded as a change of asymmetry (Table 15-2, kind 4). -/
def wrTmbAsym (r : Reg) (n v : Nat) (s : State) : State × WStatus :=
  let s := plainWrite r n v s
  (s.log Evt.TMB_LANE Subj.LINE_LANE n (s.laneWords n 4), .ok)

/-! ### The commands -/

/-- TIME_WORD_RECEIVED, R246 to R249: a TIME word delivered under R40, on a lane where time transfer runs. Its frame's receive instant
is `TMB_FRAME_RX_n`. -/
def execTimeWordReceived (n : Lane) (payload : BitVec 44) (s : State) : Res :=
  let sub := (payload.extractLsb' 40 4).toNat
  let w := payload.extractLsb' 0 40
  let v := w.toNat
  let r : Int := (ts96To16 (BitVec.ofNat 96 (s.fld TMB_FRAME_RX.TS n)) : Nat)
  .next (s.oamIn n fun s =>
    if !s.timeLane n then s else
    let s := s.count TMB_TIME_RX.COUNT n
    if sub = 0 then s.modTlane n fun t => { t with toAnswer := some (v / 2 ^ 38, r), fineRx := some (v % 2 ^ 38, r, s.cycle) }
    else if sub = 1 then s.rxFine n v r
    else if sub = 2 then s.coarseRx n v
    else if sub = 3 ∧ v % 256 = 0 then s.sourceRx n w
    else if sub = 4 ∧ v < 2 ^ 32 then s.modTlane n fun t => { t with farBound := v }
    else s.count TMB_SUB_RSVD.COUNT n)

/-- The candidate has been best for sixteen multiframes of 19,120 core cycles (R254). -/
def State.longBest (s : State) (k : TimeSource) : Bool := match s.time.best with
  | some (b, at_) => decide (b = k ∧ at_ + 16 * 19120 ≤ s.cycle)
  | none => false

/-- A source replaces another: a device that stays LOCKED, now as a follower, has a follower's bound (R261). -/
def State.replaceSource (s : State) (k : TimeSource) : State :=
  let s := s.takeSource k
  if s.quality = Quality.LOCKED ∧ k ≠ .self then s.followerBound else s

/-- SOURCE_SELECTION, R254: the candidate that has stayed best replaces the current source. -/
def execSourceSelection (s : State) : Res :=
  match s.bestCandidate with
  | none => .next s
  | some c => .next (if c.1 = s.time.source ∨ !s.longBest c.1 then s else s.replaceSource c.1)

/-- No lane of the far source has produced a theta sample within the last 1 ms (R259). -/
def State.sourceSilent (s : State) : Bool := match s.time.source with
  | .far k => lanes16.all fun n => match decide ((s.tlaneOf n).farNode = some k), (s.tlaneOf n).thetaAt with
    | true, some c => decide (c + 781250 ≤ s.cycle)
    | _, _ => true
  | _ => false

/-- SOURCE_LOSS, R259: no lane of the far source has produced a sample for 1 ms. The next candidate, if any, is taken. -/
def execSourceLoss (s : State) : Res :=
  if s.sourceSilent then
    let s := s.dropSource
    .next (s.selectFirst)
  else .next s

/-- TIME_LOCK_QUALIFIED, R260: the filtered offset has stayed within LOCK_THR for 2 ms. A follower of a LOCKED source becomes
LOCKED, one of a source in HOLDOVER reports HOLDOVER; LOST is left only through a step. -/
def execTimeLockQualified (s : State) : Res :=
  match s.upstream with
  | none => .next s
  | some (q, _, _) =>
    let near := s.time.nearSince.any fun c => decide (c + 1562500 ≤ s.cycle)
    if s.quality = Quality.LOST ∨ !near then .next s
    else if q = Quality.LOCKED then
      .next (if s.quality = Quality.LOCKED then s else (s.setQuality Quality.LOCKED s.boundNow).followerBound)
    else .next (if s.quality = Quality.ESTIMATED then s.setQuality Quality.HOLDOVER s.boundNow else s)

/-- TMB_EPOCH, R260: a device that is its own source with GM_FREE, for 10 ms without a LOCKED far candidate; LOST is left only through
a step (Table 8-5). -/
def execTmbEpoch (s : State) : Res :=
  if s.time.source = .self ∧ s.flag TMB_SRC_CFG.GM_FREE 0 ∧ s.quality ≠ Quality.LOCKED ∧ s.quality ≠ Quality.LOST ∧ !s.farLocked ∧
      s.time.quietAt + 7812500 ≤ s.cycle then
    let s := s.setQuality Quality.LOCKED 0
    .next (s.log Evt.TMB_EPOCH Subj.DEVICE 0 (ts96Words s.now ++ [s.fld TMB_NODE_ID.NODE_ID 0]))
  else .next s

/-- BOUND_LIMIT_EXCEEDED, R258, R261: above HOLD_LIMIT (10 ns units) HOLDOVER becomes ESTIMATED; above 2^63 − 1 ps quality
becomes LOST. -/
def execBoundLimitExceeded (s : State) : Res :=
  let b := s.boundNow
  if s.quality = Quality.LOST then .next s
  else if 2 ^ 63 ≤ b then .next (s.setQuality Quality.LOST 0)
  else if s.quality = Quality.HOLDOVER ∧ s.fld TMB_HOLD_CFG.HOLD_LIMIT 0 * 10000 < b then
    .next (s.setQuality Quality.ESTIMATED b)
  else .next s

/-- TMB_SET, R242: the commit of the set value. -/
def execTmbSet (p : Path) (value : BitVec 128) (s : State) : Res :=
  commitCommand p .TMB_SET 0 value.toNat (wrTmbSet p value.toNat) s

/-- TMB_NODE_ID_WRITE, R271. -/
def execTmbNodeIdWrite (p : Path) (id : BitVec 16) (s : State) : Res :=
  writeCommand p .TMB_NODE_ID 0 id.toNat (wrTmbNodeId p id.toNat) s

/-- ASYM_CAL_GO, R252. -/
def execAsymCalGo (p : Path) (n : Lane) (edges : BitVec 10) (refUnc : BitVec 14) (s : State) : Res :=
  let v := 2 ^ 31 + n.val * 2 ^ 24 + edges.toNat * 2 ^ 14 + refUnc.toNat
  writeCommand p .TMB_ASYM_CAL 0 v (wrTmbAsymCal v) s

/-- The integer square root of `x`, rounded up, by bits from 2^40 down. -/
def sqrtUp (x : Nat) : Nat :=
  let r := (List.range 41).foldl (fun r i => let t := r + 2 ^ (40 - i); if t * t ≤ x then t else r) 0
  if r * r = x then r else r + 1

/-- ASYM_CAL_DONE, R252: the far device's captures of `TMB_PPS_IN_TS`, as the Causeway tunnel has fetched them, against those the device
has made itself, edge by edge: differences N_c − F_c in 2^-16 ns. A_new = A_old + 2 × mean; the uncertainty is 2 × (3 × standard error
of the mean + REF_UNC) ps; the old and the new values are recorded. A run that missed an edge, or is not LOCKED any more, ends
ABORTED. -/
def execAsymCalDone (far : List (BitVec 96)) (s : State) : Res :=
  if !s.flag TMB_STATUS.CAL_BUSY 0 then .next s
  else
    let k := s.fld TMB_ASYM_CAL.EDGES 0
    let n := s.fld TMB_ASYM_CAL.LANE 0 % 16
    let diffs := List.zipWith (fun (a : Int) (b : BitVec 96) => a - (ts96To16 b : Int)) s.time.calCaps far
    if far.length ≠ k ∨ diffs.length ≠ k ∨ s.quality ≠ Quality.LOCKED then .next s.calAbort
    else
      let sum := diffs.foldl (· + ·) 0
      -- variance of the mean in (2^-16 ns)²: (k Σd² − (Σd)²) / (k² (k − 1)); its root in ps, rounded up
      let sq := diffs.foldl (fun a d => a + d * d) 0
      let num := ((k : Int) * sq - sum * sum).toNat * 10 ^ 6
      let se := sqrtUp ((num + k * k * (k - 1) * 2 ^ 32 - 1) / (k * k * (k - 1) * 2 ^ 32))
      let new := toSigned 32 (s.fld TMB_ASYM.ASYM n) + 2 * sum / ((k * 256 : Nat) : Int)
      let unc := min (2 * (3 * se + s.fld TMB_ASYM_CAL.REF_UNC 0)) 0xFFFF
      let s := s.log Evt.TMB_LANE Subj.LINE_LANE n (s.laneWords n 4)
      let s := (s.setFld TMB_ASYM.ASYM n (ofSigned 32 new)).setFld TMB_ASYM_UNC.UNC n unc
      let s := s.log Evt.TMB_LANE Subj.LINE_LANE n (s.laneWords n 4)
      .next ((s.setFlag TMB_STATUS.CAL_BUSY 0 false).setFld TMB_STATUS.RESULT 0 0)

/-- A PPS_IN edge of a device that is its own source in DISCIPLINE (R266, R267), captured at instant `x`. -/
def State.ppsDiscipline (s : State) (x : Int) : State :=
  let sec16 : Int := (10 ^ 9 * 2 ^ 16 : Nat)
  let near := (2 * x + sec16) / (2 * sec16)
  let armed := s.flag TMB_PPS_SEC.ARM 0
  let second : Int := if armed then (s.fld TMB_PPS_SEC.SECONDS 0 : Nat) else near
  let s := s.setFlag TMB_PPS_SEC.ARM 0 false
  let th := second * sec16 - x
  let s := s.setFld TMB_PPS_IN_ERR.ERR 0 (ofSigned 32 (clampInt (-(2 ^ 31)) (2 ^ 31 - 1) (-th * 1000 / 65536)))
  let unc := 250 + s.fld TMB_PPS_UNC.UNC 0
  if !s.time.ppsSeen || armed then
    let s := { s with time := { s.time with ppsSeen := true, ppsOutRun := 0, ppsGoodRun := 0 } }
    if s.stepThr < th.natAbs ∨ s.quality = Quality.LOST then s.stepTo ((s.now16 : Int) + th) Quality.ESTIMATED unc
    else s.servo th
  else if 1000 * 65536 < th.natAbs then
    let s := s.count TMB_PPS_OUTLIER.COUNT 0
    if 3 ≤ s.time.ppsOutRun + 1 then s.stepTo ((s.now16 : Int) + th) Quality.ESTIMATED unc
    else { s with time := { s.time with ppsOutRun := s.time.ppsOutRun + 1, ppsGoodRun := 0 } }
  else
    let good := if th.natAbs ≤ 20 * 65536 then s.time.ppsGoodRun + 1 else 0
    let s := (s.servo th)
    let s := { s with time := { s.time with ppsOutRun := 0, ppsGoodRun := good } }
    let s := if s.time.steered then s else ({ s with time := { s.time with steered := true } }).rebaseBound
    if 4 ≤ good ∧ s.quality ≠ Quality.LOCKED ∧ s.quality ≠ Quality.LOST then s.setQuality Quality.LOCKED s.ownBound else s

/-- A change of source that waits in the queue, and so falls into the same core cycle, applies before a PPS edge is judged (Table 8-7); the
command then finds it made. -/
def State.sourceFirst (s : State) : State :=
  let after := fun (r : Res) => match r with
    | .next t => t
    | _ => s
  if s.pending.contains .sourceSelection then after (execSourceSelection s)
  else if s.pending.contains .sourceLoss then after (execSourceLoss s)
  else s

/-- The capture of a PPS_IN edge at `x` (2^-16 ns): `TMB_PPS_IN_TS` takes it and the edge counts; a calibration in progress keeps it. -/
def State.ppsCapture (s : State) (x : Int) : State :=
  let s := (s.setFld TMB_PPS_IN_TS.TS 0 (ts96Of x.toNat).toNat).count TMB_PPS_EDGES.COUNT 0
  if s.flag TMB_STATUS.CAL_BUSY 0 && decide (s.time.calCaps.length < s.fld TMB_ASYM_CAL.EDGES 0) then
    { s with time := { s.time with calCaps := s.time.calCaps ++ [x], ppsAt := some s.cycle } }
  else { s with time := { s.time with ppsAt := some s.cycle } }

/-- PPS_IN_EDGE, R244, R252, R265 to R267: a rising edge `off` host symbols into the core cycle, high for `width` ns. -/
def execPpsInEdge (off : Fin 136) (width : Nat) (s : State) : Res :=
  let s := s.sourceFirst
  if s.fld TMB_PPS_CFG.IN_MODE 0 = 0 ∨ width < 100 then .next s
  else
    let dly := toSigned 32 (s.fld TMB_PPS_IN_DLY.DLY 0)
    let x : Int := (s.hostInstant off : Int) - dly * 65536 / 1000
    let s := s.ppsCapture x
    .next (if s.fld TMB_PPS_CFG.IN_MODE 0 = 2 ∧ s.time.source = .self then s.ppsDiscipline x else s)

/-- No edge has come for 1.5 s (R267). -/
def State.ppsSilent (s : State) : Bool := match s.time.ppsAt with
  | some c => decide (c + 1171875000 ≤ s.cycle)
  | none => true

/-- PPS_MISSING, R267: no edge for 1.5 s. -/
def execPpsMissing (s : State) : Res :=
  if !s.ppsSilent then .next s
  else if s.fld TMB_PPS_CFG.IN_MODE 0 = 2 ∧ s.time.source = .self then
    let s := s.count TMB_PPS_MISS.COUNT 0
    let s := { s with time := { s.time with ppsGoodRun := 0 } }
    .next ((s.toHoldover).calAbort)
  else .next (if s.fld TMB_PPS_CFG.IN_MODE 0 = 0 then s else s.calAbort)

/-- `TMB_NOW` − `TMB_PPS_OUT_OFS`, in 2^-16 ns, and the whole second nearest to it. -/
def State.ppsInstant (s : State) : Int := (s.now16 : Int) - toSigned 32 (s.fld TMB_PPS_OUT_OFS.OFS 0) * 65536 / 1000
def State.ppsSecond (s : State) : Int := (2 * s.ppsInstant + 10 ^ 9 * 2 ^ 16) / (2 * 10 ^ 9 * 2 ^ 16)

/-- That second lies less than one core cycle away: it is reached (log entry 173). -/
def State.ppsReached (s : State) : Bool :=
  decide ((s.ppsInstant - s.ppsSecond * (10 ^ 9 * 2 ^ 16)).natAbs * 2 ^ 32 < clockStep s.adj)

/-- PPS_OUT_RISE, R268: `TMB_NOW` − `TMB_PPS_OUT_OFS` reaches a whole second. The edge of the second that the last one marked is not
repeated (log entry 173). -/
def execPpsOutRise (s : State) : Res :=
  let early := match s.time.ppsOutLast with
    | some c => decide (s.cycle - c < 390625000)
    | none => false
  if s.flag TMB_PPS_CFG.OUT_EN 0 && s.ppsGate && s.ppsReached && !early && decide (s.time.ppsOutSec ≠ some s.ppsSecond) then
    .next { s with time := { s.time with ppsOut := true, ppsOutLast := some s.cycle, ppsOutSec := some s.ppsSecond } }
  else .next s

/-- WIDTH µs have passed since PPS_OUT rose (R268). -/
def State.ppsWide (s : State) : Bool := match s.time.ppsOutLast with
  | some c => decide (c + cyclesOfUs (s.fld TMB_PPS_CFG.WIDTH 0) ≤ s.cycle)
  | none => true

/-- PPS_OUT_FALL, R268: WIDTH µs after the rise. -/
def execPpsOutFall (s : State) : Res := .next (if s.ppsWide then { s with time := { s.time with ppsOut := false } } else s)

end Sys2Proof.Machine
end

