-- ==== Sys2Proof/Machine/Cinch.lean ====
section
/-! DEFINITION. The Cinch link layer, chapter 7: stripes, credit accounts, line tags, replay slots, lane streams, control
records, shedding and rejoining, channels opening and closing, conservation audit, and the commands of the family. -/
namespace Sys2Proof.Machine

/-! Codes of `CIN_LANE_STATUS_n`: streams. -/
abbrev Stream.CLOSED : Nat := 0
abbrev Stream.OPEN : Nat := 1
abbrev Stream.RUN : Nat := 1
abbrev Stream.REPLAY : Nat := 2
abbrev Stream.WAIT : Nat := 2

/-! ### Accounts and counters (R220, R224, R228, R238) -/

/-- Account `i` of channel `c` (0–3 loop 1 owner, 4–7 loop 2 sender, 8–11 loop 2 owner, 12–15 loop 3 sender). -/
def State.acct (s : State) (c i : Nat) : Nat := s.fld CIN_CH_ACCT.TOTAL (16 * c + i)

/-- The channel is frozen (R228). -/
def State.frozen (s : State) (c : Nat) : Bool := s.flag CIN_CH_STATUS.FROZEN c

/-- Account `i` of channel `c` takes a value modulo 2^32; a frozen channel holds every counter. -/
def State.setAcct (s : State) (c i : Nat) (x : Int) : State :=
  if s.frozen c then s else s.setFld CIN_CH_ACCT.TOTAL (16 * c + i) (ofSigned 32 x)

/-- `n` credits of data leave the buffer of the owner whose accounts begin at `b` (0 loop 1, 8 loop 2): OCC falls and FRE rises; a frozen
channel holds both (R224, R228). -/
def State.freeCredits (s : State) (c b n : Nat) : State :=
  if s.frozen c then s
  else (s.setAcct c (b + 3) ((s.acct c (b + 3) : Int) - n)).modChan c fun x =>
    if b = 0 then { x with fre1 := x.fre1 + BitVec.ofNat 32 n } else { x with fre2 := x.fre2 + BitVec.ofNat 32 n }

/-- Account `i` of channel `c` changes by `d`. -/
def State.addAcct (s : State) (c i : Nat) (d : Int) : State := s.setAcct c i ((s.acct c i : Int) + d)

/-- A granule counter of channel `c` counts `n`, held while the channel is frozen. -/
def State.chCount (s : State) (f : Field) (c : Nat) (n : Nat := 1) : State := if s.frozen c then s else s.count f c n

/-- The channel is enabled. -/
def State.chEn (s : State) (c : Nat) : Bool := s.flag CIN_CH_CFG.EN c

/-- The channel uses the line loop. -/
def State.lineCredit (s : State) (c : Nat) : Bool := s.flag CIN_CH_CFG.LINE_CREDIT c

/-- Loop-1 grants of the channel are stopped: by a freeze, a drain of its group (R288) or an orderly thermal stop (R453). -/
def State.grantsStopped (s : State) (c : Nat) : Bool :=
  s.frozen c || (decide (s.fld HRN_GROUP_STATE.STATE (c / 32) = Group.QUIESCING) && (s.hrn.load.any fun l => l.drain)) ||
    decide (s.fld THM_STATUS.STATE 0 = 3)

/-- The loop-1 owner grants all free space: ISS = POOL + ARR + RETS − OCC (R224), unless its grants are stopped. -/
def State.grant1 (s : State) (c : Nat) : State :=
  if s.grantsStopped c || !s.chEn c then s
  else s.setAcct c 0 ((s.fld CIN_CH_CRED.ING_CREDITS c : Int) + s.acct c 1 + s.acct c 2 - s.acct c 3)

/-- The loop-2 owner grants all free space of a channel that uses the line loop. -/
def State.grant2 (s : State) (c : Nat) : State :=
  if !s.lineCredit c || !s.chEn c then s
  else s.setAcct c 8 ((s.fld CIN_CH_CRED.EGR_CREDITS c : Int) + s.acct c 9 + s.acct c 10 - s.acct c 11)

/-- The words of CIN_AUDIT and CIN_CLOSE: the 16 accounts, then the counters of Table 7-9, two words each. -/
def State.chanWords (s : State) (c : Nat) : List Nat :=
  (List.range 16).map (s.acct c) ++
    ([CIN_ACCEPT.COUNT, CIN_SENT.COUNT, CIN_ARRIVE.COUNT, CIN_DELIVER.COUNT, CIN_DISC_ING_MEM.COUNT, CIN_DISC_STORE.COUNT,
      CIN_DISC_EGR_MEM.COUNT, CIN_DISC_SPAN.COUNT, CIN_DISC_SHED.COUNT, CIN_DISC_EGR_OVF.COUNT, CIN_DISC_CLOSE.COUNT,
      CIN_ING_OVR.COUNT].flatMap fun f => words64 (s.fld f c))

/-- A CIN_DISCARD record: counter code, count, lane, SEQ, CHSEQ, TS_IN; what does not apply is 0. -/
def State.logDiscard (s : State) (c counter n lane seq chseq ts : Nat) : State :=
  s.log Evt.CIN_DISCARD Subj.CHANNEL c ([counter, n, lane, seq, chseq] ++ words64 ts)

/-- FAIL follows the frozen channels (R228). -/
def State.showFrozen (s : State) : State := s.setFlag CIN_CONS_AUDIT.FAIL 0 (chans256.any s.frozen)

/-- A violation of channel `c`: the record, FROZEN, FAIL and ALERT_N (R228). -/
def State.freezeChannel (s : State) (c : Nat) : State :=
  if s.frozen c then s
  else
    let s := (s.log Evt.CIN_AUDIT Subj.CHANNEL c (s.chanWords c)).setFlag CIN_CH_STATUS.FROZEN c true
    let s := (s.setFld CIN_CONS_AUDIT.LAST_CH 0 c).setFlag CIN_CONS_AUDIT.FAIL 0 true
    (s.count CIN_AUDIT_FAIL.COUNT 0).alert Alert.AUDIT

/-! ### Stripes (R201, R219) -/

/-- The lanes of a mask in ascending order. -/
def maskLanes (m : Nat) : List Nat := lanes16.filter fun n => m.testBit n

/-- The lane of CHSEQ `m` on a stripe that took effect at `m0`. -/
def laneAt (mask : Nat) (m0 m : BitVec 32) : Option Nat :=
  let ls := maskLanes mask
  if ls.isEmpty then none else ls[(m - m0).toNat % ls.length]?

/-- The least CHSEQ at or after `m` that a stripe gives lane `n`. -/
def nextOnStripe (mask : Nat) (m0 m : BitVec 32) (n : Nat) : Option (BitVec 32) :=
  let ls := maskLanes mask
  match ls.idxOf? n with
  | none => none
  | some i =>
    let k := ls.length
    some (m + BitVec.ofNat 32 ((i + k - (m - m0).toNat % k) % k))

/-- `a` lies below `b` in the order of sequence numbers (R208: distances below 2^31). -/
def seqLt (a b : BitVec 32) : Bool := decide ((b - a).toNat ≠ 0 ∧ (b - a).toNat < 2 ^ 31)

/-- The least CHSEQ at or after `m` that lane `n` carries under the spans, oldest first. -/
def nextOnSpans (n : Nat) : List StripeSpan → BitVec 32 → Option (BitVec 32)
  | [], _ => none
  | sp :: rest, m =>
    let m := if seqLt m sp.m0 then sp.m0 else m
    match rest with
    | [] => nextOnStripe sp.mask.toNat sp.m0 m n
    | nx :: _ =>
      if seqLt m nx.m0 then
        match nextOnStripe sp.mask.toNat sp.m0 m n with
        | some x => if seqLt x nx.m0 then some x else nextOnSpans n rest nx.m0
        | none => nextOnSpans n rest nx.m0
      else nextOnSpans n rest m

/-- How many `j` below `t` have residue `i` modulo `k`. -/
def residues (k i t : Nat) : Nat := (t + (k - 1 - i)) / k

/-- How many CHSEQs from `a` up to, not including, `stop` the spans, oldest first, give lane `n`. -/
def countOnSpans (n : Nat) : List StripeSpan → BitVec 32 → BitVec 32 → Nat
  | [], _, _ => 0
  | sp :: rest, a, stop =>
    let a := if seqLt a sp.m0 then sp.m0 else a
    let here := fun (e : BitVec 32) => match (maskLanes sp.mask.toNat).idxOf? n with
      | none => 0
      | some i =>
        let k := (maskLanes sp.mask.toNat).length
        residues k i (e - sp.m0).toNat - residues k i (a - sp.m0).toNat
    if !seqLt a stop then 0
    else match rest with
      | [] => here stop
      | nx :: _ =>
        if seqLt a nx.m0 then here (if seqLt stop nx.m0 then stop else nx.m0) + countOnSpans n rest nx.m0 stop
        else countOnSpans n rest a stop

/-- The lane that the channel's stripes give CHSEQ `m` (R201, R219). -/
def ChanX.laneOf (x : ChanX) (m : BitVec 32) : Option Nat :=
  (x.spans.find? fun sp => !seqLt m sp.m0).bind fun sp => laneAt sp.mask.toNat sp.m0 m

/-- The lowest CHSEQ that lane `n` may carry next for the channel. -/
def ChanX.low (x : ChanX) (n : Nat) : BitVec 32 := Tab.get (fun _ => 0) x.laneNext n

/-- The CHSEQ of the next granule of the channel that the receiver expects on lane `n` (R201). -/
def ChanX.nextOn (x : ChanX) (n : Nat) : Option (BitVec 32) := nextOnSpans n x.spans.reverse (x.low n)

/-- Lane `n` has carried CHSEQ `m` of the channel. -/
def ChanX.passed (x : ChanX) (n : Nat) (m : BitVec 32) : ChanX :=
  { x with laneNext := Tab.set natLt (fun _ => 0) x.laneNext n (m + 1) }

/-- CHSEQ `m` is known lost. -/
def ChanX.isLost (x : ChanX) (m : BitVec 32) : Bool := x.lost.any fun r =>
  decide ((m - r.start).toNat < (r.stop - r.start).toNat) && (r.lane.all fun n => decide (x.laneOf m = some n))

/-- Every CHSEQ below `stop` that lane `n` has not carried yet is lost: what the channel knows then, how many they are, and the first
(R218, R230). What lies below the next CHSEQ to deliver has been delivered or counted before. -/
def ChanX.loses (x : ChanX) (n : Nat) (stop : BitVec 32) : ChanX × Nat × BitVec 32 :=
  let a := if seqLt (x.low n) x.rxNext then x.rxNext else x.low n
  let k := countOnSpans n x.spans.reverse a stop
  let x' := { x with laneNext := Tab.set natLt (fun _ => 0) x.laneNext n stop }
  (if k = 0 then x' else { x' with lost := ⟨some n, a, stop⟩ :: x.lost }, k, (nextOnSpans n x.spans.reverse a).getD a)

/-- A STRIPE record's span takes its place by switch number, above those of the same one (log entry 170). -/
def insertSpan (sp : StripeSpan) : List StripeSpan → List StripeSpan
  | [] => [sp]
  | a :: rest => if seqLt sp.m0 a.m0 then a :: insertSpan sp rest else sp :: a :: rest

/-- The span of which a STRIPE record on lane `n` is a copy: same switch number and mask, not yet come on this lane (R219). -/
def StripeSpan.isCopy (sp : StripeSpan) (n : Nat) (mask : BitVec 16) (switch : BitVec 32) : Bool :=
  decide (sp.m0 = switch) && decide (sp.mask = mask) && !sp.seen.contains n

/-! ### Lanes and streams -/

/-- `TX_STREAM` and `RX_STREAM` of a lane. -/
def State.txStream (s : State) (n : Nat) : Nat := s.fld CIN_LANE_STATUS.TX_STREAM n
def State.rxStream (s : State) (n : Nat) : Nat := s.fld CIN_LANE_STATUS.RX_STREAM n

/-- The lane's transmit stream is open. -/
def State.laneOpen (s : State) (n : Nat) : Bool := decide (s.txStream n ≠ Stream.CLOSED)

/-- A 32-byte control record (Table 7-4): its bytes from the type on, zeros after them. -/
def ctlRecord (bs : List Nat) : List Byte := (bs.map (BitVec.ofNat 8)) ++ List.replicate (32 - bs.length) 0

/-- A CONTROL granule's payload: its records, empty ones after them. -/
def ctlPayload (rs : List (List Byte)) : List Byte := rs.flatten ++ List.replicate (640 - 32 * rs.length) 0

/-- The little-endian bytes of a 32-bit number, as numbers. -/
def le32 (x : BitVec 32) : List Nat := (leBytes 4 x.toNat).map (·.toNat)

/-- The control records this device sends. -/
def recOpen (node lane tag : Nat) : List Byte := ctlRecord [1, node % 256, node / 256, lane, tag]
def recSkip (c : Nat) (seq chseq : BitVec 32) : List Byte := ctlRecord ([2, c, 0, 0] ++ le32 seq ++ le32 chseq)
def recResync (seq : BitVec 32) (nch : Nat) : List Byte := ctlRecord ([3, 0, 0, 0] ++ le32 seq ++ [nch % 256, nch / 256])
def recStripe (c mask : Nat) (switch : BitVec 32) : List Byte :=
  ctlRecord ([4, c, mask % 256, mask / 256] ++ le32 switch)
def recChpos (es : List (Nat × BitVec 32)) : List Byte := ctlRecord ([5, es.length] ++ es.flatMap fun e => e.1 :: le32 e.2)
def recChopen (c : Nat) : List Byte := ctlRecord [6, c]

/-- A CONTROL granule joins lane `n`'s queue. -/
def State.queueCtl (s : State) (n : Nat) (payload : List Byte) : State :=
  s.modClane n fun x => { x with ctlQ := x.ctlQ ++ [payload] }

/-- A queued granule holds just a STRIPE or CHOPEN record of channel `c`. -/
def ctlOfChan (c : Nat) (p : List Byte) : Bool :=
  (byteAt p 0 = 4 || byteAt p 0 = 6) && byteAt p 1 = c

/-- A CHOPEN record of the channel is still to be sent (R234). -/
def State.chopenWaits (s : State) (c : Nat) : Bool :=
  (s.chanOf c).chopenDue || lanes16.any fun n => (s.claneOf n).ctlQ.any fun p => byteAt p 0 = 6 && byteAt p 1 = c

/-- A CHOPEN that is due goes on the first open lane of the channel's stripe. -/
def State.placeChopen (s : State) (c : Nat) : State :=
  if !(s.chanOf c).chopenDue then s
  else match (maskLanes (s.fld CIN_CH_STATUS.STRIPE_NOW c)).find? s.laneOpen with
    | none => s
    | some n => (s.modChan c fun x => { x with chopenDue := false }).queueCtl n (ctlPayload [recChopen c])

/-- STRIPE_NOW, K and STALLED of the channel. -/
def State.showStripe (s : State) (c mask : Nat) : State :=
  let k := (maskLanes mask).length
  let s := (s.setFld CIN_CH_STATUS.STRIPE_NOW c mask).setFld CIN_CH_STATUS.K c (k - 1)
  s.setFlag CIN_CH_STATUS.STALLED c (decide (k = 0))

/-- The stripe that the channel can use: the lanes of `STRIPE` whose streams are open. -/
def State.usable (s : State) (c : Nat) : Nat :=
  ((maskLanes (s.fld CIN_CH_CFG.STRIPE c)).filter s.laneOpen).foldl (fun a n => a + 2 ^ n) 0

/-- A change of the channel's transmit stripe at the next CHSEQ not sent: a STRIPE record on every lane of the new stripe;
with no lane it waits for one (R219, R229). -/
def State.changeStripe (s : State) (c mask : Nat) : State :=
  if mask = s.fld CIN_CH_STATUS.STRIPE_NOW c then s
  else
    let m := (s.chanOf c).txNext
    let s := (s.modChan c fun x => { x with txM0 := m }).showStripe c mask
    let s := s.placeChopen c
    s.each (maskLanes mask) fun n s => s.queueCtl n (ctlPayload [recStripe c mask m])

/-- A NACK for lane `n`'s stream (R211): a new epoch, one past the last or two where its low bits are those of the last good
granule; two copies wait for OAM words. -/
def State.newNack (s : State) (n : Nat) (seq : BitVec 32) : State :=
  let last := s.fld CIN_LANE_EPOCH.SENT n
  let e := (last + 1) % 256
  let e := if e % 4 = (s.claneOf n).lastEpoch then (e + 1) % 256 else e
  let s := s.setFld CIN_LANE_EPOCH.SENT n e
  let req : NackReq := { lane := n, seq := seq, epoch := e, left := 2, usedOn := none }
  let s := { s with cin := { s.cin with nacks := s.cin.nacks.filter (fun (q : NackReq) => decide (q.lane ≠ n)) ++ [req] } }
  s.modClane n fun x => { x with badSince := true, nackAtLock := false, dropped := false }

/-- E of a lane. -/
def State.laneE (s : State) (n : Nat) : BitVec 32 := BitVec.ofNat 32 (s.fld CIN_LANE_SEQ.E n)

/-- The head of a lane. -/
def State.laneHead (s : State) (n : Nat) : BitVec 32 := BitVec.ofNat 32 (s.fld CIN_LANE_SEQ.HEAD n)

/-- Entry of lane `n` to LOCKED: the far SHED value starts at 0; a CLOSED stream asks for SEQ 0, a WAIT whose NACK was held
sends it (R210, R211, R229). -/
def State.cinLocked (s : State) (n : Nat) : State :=
  if !s.cinchLane n then s
  else
    let s := (s.modClane n fun x => { x with farShed := false }).setFlag CIN_LANE_STATUS.FAR_SHED n false
    if s.rxStream n = Stream.CLOSED then s.newNack n 0
    else if s.rxStream n = Stream.WAIT ∧ (s.claneOf n).nackAtLock then s.newNack n (s.laneE n)
    else s

/-- The NACK of lane `n` that still waits for OAM words is given up. -/
def State.dropNack (s : State) (n : Nat) : State :=
  { s with cin := { s.cin with nacks := s.cin.nacks.filter fun (q : NackReq) => decide (q.lane ≠ n) } }

/-- A gap of a stream outside LOCKED: RUN goes to WAIT; the NACK goes out at the next entry to LOCKED (R210 to R212). -/
def State.gapUnlocked (s : State) (n : Nat) : State :=
  let s := (s.count CIN_GAPS.COUNT n).modClane n fun x => { x with badSince := true }
  if s.rxStream n = Stream.CLOSED then s
  else (s.setFld CIN_LANE_STATUS.RX_STREAM n Stream.WAIT).modClane n fun x => { x with nackAtLock := true }

/-- What channels expect on lane `n` is cut by the close of its receive stream (R230). -/
def State.cutLane (s : State) (n : Nat) : State :=
  s.each (chans256.filter fun c => s.chEn c && !((s.chanOf c).cut.contains n)) fun c s => s.modChan c fun x => { x with cut := n :: x.cut }

/-- Both streams of the lane close; queued records of STRIPE and CHOPEN go elsewhere, nothing stored is sent again. -/
def State.closeStreams (s : State) (n : Nat) : State :=
  let opens := (s.claneOf n).ctlQ.filterMap fun p => if byteAt p 0 = 6 then some (byteAt p 1) else none
  let s := if s.rxStream n = Stream.CLOSED then s else s.cutLane n
  let s := (s.setFld CIN_LANE_STATUS.TX_STREAM n Stream.CLOSED).setFld CIN_LANE_STATUS.RX_STREAM n Stream.CLOSED
  let s := (s.dropNack n).modClane n fun x =>
    { x with run := none, ctlQ := [], dir := [], copies := [], ctlIn := [], nackAtLock := false }
  s.each opens fun c s => (s.modChan c fun x => { x with chopenDue := true }).placeChopen c

/-- Lane `n` leaves every stripe (R229). -/
def State.stripesWithout (s : State) (n : Nat) : State :=
  s.each chans256 fun c s =>
    let now := s.fld CIN_CH_STATUS.STRIPE_NOW c
    if s.chEn c && now.testBit n then s.changeStripe c (now - 2 ^ n) else s

/-- The lane is shed with a cause of Table 7-10, unless it is shed already or its group is being rebuilt (R229). -/
def State.shedLane (s : State) (n cause : Nat) : State :=
  if !s.cinchLane n || s.flag CIN_LANE_STATUS.SHED n then s
  else
    let s := (s.setFlag CIN_LANE_STATUS.SHED n true).count CIN_SHEDS.COUNT n
    let s := s.modClane n fun x => { x with wasSoftware := false }
    let s := s.log Evt.CIN_LANE Subj.LINE_LANE n [0, cause]
    (s.closeStreams n).stripesWithout n

/-- The lane begins shed, without being counted: at its enable, at reopen, at STANDBY to ACTIVE (R229). -/
def State.beginShed (s : State) (n : Nat) : State :=
  if s.cinchLane n then
    let s := (s.setFlag CIN_LANE_STATUS.SHED n true).modClane n fun x => { x with wasSoftware := false }
    (s.closeStreams n).stripesWithout n
  else s

/-- The lane is shed by signal fail, its own or the far one, where `SHED_ON_SF` is set. -/
def State.shedOnSf (s : State) (n cause : Nat) : State :=
  if s.flag CIN_LANE_CTRL.SHED_ON_SF n then s.shedLane n cause else s

/-! ### Granules on the line (R204, R206, R207) -/

/-- The CRC-8 of R36 over a list of bits, first bit first. -/
def crc8 (bs : List Bool) : BitVec 8 := bs.foldl oamCrcStep 0xFF#8

/-- The CRC of a tag's bits [19:8]. -/
def tagCrc (hi : BitVec 12) : BitVec 8 := crc8 ((List.range 12).map fun i => hi.getLsbD (11 - i))

/-- A line tag (Table 7-1). -/
def lineTag (kind chan epoch : Nat) : BitVec 20 :=
  let hi := BitVec.ofNat 12 (kind * 1024 + chan * 4 + epoch)
  hi ++ tagCrc hi

/-- The 5,140 message bits of a granule: header bit, then body, of each of the twenty blocks. -/
def granuleBits (tag : BitVec 20) (payload : List Byte) : List Bool :=
  (List.range 20).flatMap fun b =>
    tag.getLsbD (19 - b) :: (List.range 32).flatMap fun m =>
      let x := payload.getD (32 * b + m) 0
      (List.range 8).map fun i => x.getLsbD i

/-- The value of ten bits, first bit highest. -/
def bitsValue (bs : List Bool) : Nat := bs.foldl (fun a b => 2 * a + (if b then 1 else 0)) 0

/-- The line tag and the payload of a codeword's message bits: header bit, then body, of each of the twenty blocks. -/
def granuleParts (bits : List Bool) : BitVec 20 × List Byte :=
  let blocks := chunks 257 20 bits
  (BitVec.ofNat 20 (bitsValue (blocks.map fun b => b.headD false)),
    blocks.flatMap fun b => (chunks 8 32 b.tail).map fun x => BitVec.ofNat 8 (bitsValue x.reverse))

/-- The 5,440 bits of the lane-local outer codeword of a granule (R47, R48). -/
def granuleCodeword (tag : BitVec 20) (payload : List Byte) : List Bool :=
  symbolBits (rsEncode ((chunks 10 514 (granuleBits tag payload)).map bitsValue))

/-- A granule takes the position: its codeword joins the lane's data stream with the epoch bits the sender acts on. -/
def State.putGranule (s : State) (n kind chan : Nat) (payload : List Byte) : State :=
  let epoch := s.fld CIN_LANE_EPOCH.ACTED n % 4
  let s := s.modClane n fun x => { x with sent := ⟨kind, chan, epoch, payload⟩, idles := if kind = 0 then x.idles + 1 else x.idles }
  s.modLtx n fun x => { x with stream := x.stream ++ granuleCodeword (lineTag kind chan epoch) payload }

/-- The bytes of a slot (Table 7-2). -/
def slotBytes (payload : List Byte) (seq : BitVec 32) (chan kind flags : Nat) (chseq : BitVec 32) (ts : BitVec 64) :
    List Byte :=
  payload ++ leBytes 4 seq.toNat ++ leBytes 1 chan ++ leBytes 1 kind ++ leBytes 2 flags ++ leBytes 4 chseq.toNat ++
    leBytes 4 0 ++ leBytes 8 ts.toNat ++ leBytes 8 0


/-- A new numbered granule takes SEQ head: it goes to its slot, the directory and, if CONTROL, the control copies, and is
sent. -/
def State.sendNumbered (s : State) (n : Nat) (control : Bool) (chan : Nat) (chseq : BitVec 32) (ts : BitVec 64)
    (payload : List Byte) : State :=
  let seq := s.laneHead n
  let x := s.claneOf n
  let slots := s.fld CIN_LANE_STATUS.SLOTS n
  let s := s.storeWrite (slotAddr n x.slot) (slotBytes payload seq chan (if control then 2 else 1) 0 chseq ts)
  let s := s.modClane n fun x => { x with
    dir := (⟨seq, x.slot, control, chan, chseq⟩ :: x.dir).take slots
    copies := if control then ((seq, payload) :: x.copies).take 16 else x.copies
    slot := nextSlot x.deadSlots x.slot }
  let s := s.setFld CIN_LANE_SEQ.HEAD n (seq + 1).toNat
  s.putGranule n (if control then 2 else 1) chan payload

/-! ### RESYNC (R218) -/

/-- The CHPOS entries of lane `n`: for every channel whose current stripe includes it, the CHSEQ it will carry next. -/
def State.chposEntries (s : State) (n : Nat) : List (Nat × BitVec 32) :=
  chans256.filterMap fun c =>
    if s.chEn c ∧ (s.fld CIN_CH_STATUS.STRIPE_NOW c).testBit n then
      (nextOnStripe (s.fld CIN_CH_STATUS.STRIPE_NOW c) (s.chanOf c).txM0 (s.chanOf c).txNext n).map fun m => (c, m)
    else none

/-- Queued CONTROL granules without those of a RESYNC: RESYNC or CHPOS records. -/
def withoutResync (q : List (List Byte)) : List (List Byte) := q.filter fun p => decide (byteAt p 0 ≠ 3 ∧ byteAt p 0 ≠ 5)

/-- A RESYNC that has not begun to be sent is given up with the NACK that asked for it. -/
def State.dropResync (s : State) (n : Nat) : State :=
  s.modClane n fun x => { x with ctlQ := if x.ctlQ.any fun p => decide (byteAt p 0 = 3) then withoutResync x.ctlQ else x.ctlQ }

/-- A RESYNC of the lane, ahead of its queued CONTROL granules and in place of an earlier one: one granule that begins with RESYNC, and as
many more as its CHPOS entries need; counted and recorded with its cause. -/
def State.sendResync (s : State) (n cause : Nat) : State :=
  let es := s.chposEntries n
  let chpos := (chunks 6 43 es ++ (if es.length % 6 = 0 then [] else [es.drop (es.length / 6 * 6)])).map recChpos
  let first := ctlPayload (recResync (s.laneHead n) es.length :: chpos.take 19)
  let rest := chpos.drop 19
  let more := [rest.take 20, rest.drop 20].filterMap fun rs => if rs.isEmpty then none else some (ctlPayload rs)
  let s := s.modClane n fun x => { x with run := none, ctlQ := first :: more ++ withoutResync x.ctlQ }
  let s := (s.setFld CIN_LANE_STATUS.TX_STREAM n Stream.OPEN).count CIN_RESYNC.COUNT n
  s.log Evt.CIN_LANE Subj.LINE_LANE n [2, cause]

/-! ### The transmit scheduler (R202, R216, R217) -/

/-- The channels that can send a DATA granule on lane `n` now (R202, item 3). No new granules go in an orderly stop (R453). -/
def State.eligible (s : State) (n : Nat) : List Nat :=
  if s.fld THM_STATUS.STATE 0 = 3 then [] else
  chans256.filter fun c =>
    s.chEn c && !s.frozen c && !(s.chanOf c).ing.isEmpty &&
      decide (laneAt (s.fld CIN_CH_STATUS.STRIPE_NOW c) (s.chanOf c).txM0 (s.chanOf c).txNext = some n) &&
      (!s.lineCredit c || decide (10 ≤ s.acct c 7)) && !s.chopenWaits c

/-- Weighted round robin: the channel in turn while it has weight left, else the next eligible one in ascending order,
around (log entry 28). -/
def State.wrrPick (s : State) (n : Nat) : Option Nat :=
  let cs := s.eligible n
  let x := s.claneOf n
  if cs.contains x.wrrChan && decide (0 < x.wrrLeft) then some x.wrrChan
  else match cs.find? fun c => decide (x.wrrChan < c) with
    | some c => some c
    | none => cs.head?

/-- The turn moves on with channel `c` served. -/
def State.wrrServe (s : State) (n c : Nat) : State :=
  s.modClane n fun x =>
    if x.wrrChan = c ∧ 0 < x.wrrLeft then { x with wrrLeft := x.wrrLeft - 1 }
    else { x with wrrChan := c, wrrLeft := s.fld CIN_CH_CFG.WEIGHT c - 1 }

/-- The first granule of channel `c` leaves the ingress buffer and its space is granted again. -/
def State.popIngress (s : State) (c : Nat) : State :=
  let s := s.modChan c fun x => { x with ing := x.ing.tail }
  (s.freeCredits c 0 10).grant1 c

/-- A DATA granule of channel `c` is sent for the first time on lane `n`, or dropped where its ingress read is uncorrectable;
the position is then IDLE. -/
def State.sendData (s : State) (n c : Nat) (ingOk : Bool) : State :=
  match (s.chanOf c).ing with
  | [] => s.putGranule n 0 0 (List.replicate 640 0)
  | g :: _ =>
    let s := (s.wrrServe n c).popIngress c
    if !ingOk then
      let s := (s.chCount CIN_DISC_ING_MEM.COUNT c).logDiscard c 4 1 n 0 0 g.tsIn.toNat
      s.putGranule n 0 0 (List.replicate 640 0)
    else
      let m := (s.chanOf c).txNext
      let s := (s.modChan c fun x => { x with txNext := m + 1 }).chCount CIN_SENT.COUNT c
      let s := if s.lineCredit c then (s.addAcct c 5 10).addAcct c 7 (-10) else s
      s.sendNumbered n false c m g.tsIn g.payload

/-- A replay run sends its next granule; where a RESYNC replaces the run, nothing has been sent yet (R213 to R217). -/
def State.sendReplay (s : State) (n : Nat) (q : BitVec 32) (readOk copyOk : Bool) : Bool × State :=
  let x := s.claneOf n
  match x.dir.find? fun e => e.seq = q with
  | none => (false, s.sendResync n 0)
  | some e =>
    let a := slotAddr n e.slot
    let (readOk, s) := s.datapathRead a 672 readOk
    let next := q + 1
    let adv := fun (s : State) =>
      let s := s.modClane n fun x => { x with run := if next = s.laneHead n then none else some next }
      if next = s.laneHead n then s.setFld CIN_LANE_STATUS.TX_STREAM n Stream.OPEN else s
    if readOk then
      let payload := s.memBytes a 640
      let s := (s.storeWrite (a + 646) [1]).count CIN_RUN_GRAN.COUNT n
      (true, adv (s.putGranule n (if e.control then 2 else 1) e.chan payload))
    else if e.control then
      match (x.copies.find? fun c => c.1 = q).filter fun _ => copyOk with
      | some c => (true, adv (((s.storeWrite (a + 646) [1]).count CIN_RUN_GRAN.COUNT n).putGranule n 2 0 c.2))
      | none => (false, s.sendResync n 1)
    else
      let ts := leValue (s.memBytes (a + 656) 8)
      let s := (s.chCount CIN_DISC_STORE.COUNT e.chan).logDiscard e.chan 0 1 n q.toNat e.chseq.toNat ts
      let p := ctlPayload [recSkip e.chan q e.chseq]
      -- the SKIP granule takes the slot and the directory entry, so that the loss is counted once (log entry 29)
      let s := s.storeWrite a (slotBytes p q 0 2 1 0 0)
      let s := s.modClane n fun x => { x with
        dir := x.dir.map fun d => if d.seq = q then { d with control := true, chan := 0, chseq := 0 } else d
        copies := ((q, p) :: x.copies).take 16 }
      (true, adv ((s.count CIN_RUN_GRAN.COUNT n).putGranule n 2 0 p))

/-- The first queued CONTROL granule of the lane, or a DATA granule, or IDLE (R202, items 2 to 4). -/
def State.sendNew (s : State) (n : Nat) (ingOk : Bool) : State :=
  match (s.claneOf n).ctlQ with
  | p :: rest => (s.modClane n fun x => { x with ctlQ := rest }).sendNumbered n true 0 0 0 p
  | [] => match s.wrrPick n with
    | some c => s.sendData n c ingOk
    | none => s.putGranule n 0 0 (List.replicate 640 0)

/-! ### Delivery and closing (R203, R234) -/

/-- The host transmitter of the channel's host lane is ACTIVE (R203). -/
def State.hostActive (s : State) (c : Nat) : Bool := decide (s.fld HSI_STATUS.TX_STATE (c / 8) = 4)

/-- CHSEQs known lost are passed, and spans no CHSEQ waits for are dropped. -/
def ChanX.settle (x : ChanX) : Nat → ChanX
  | 0 => x
  | k + 1 => if x.isLost x.rxNext then ({ x with rxNext := x.rxNext + 1 } : ChanX).settle k else x

/-- The spans, newest first, that a CHSEQ from `m` up needs, and those of the newest switch number, whose copies may still come. -/
def liveSpans (newest m : BitVec 32) : List StripeSpan → List StripeSpan
  | a :: b :: rest => if seqLt m a.m0 || decide (b.m0 = newest) then a :: liveSpans newest m (b :: rest) else [a]
  | l => l

/-- Spans and losses that end at or below the next CHSEQ to deliver are of no more use. -/
def ChanX.prune (x : ChanX) : ChanX := { x with
  spans := liveSpans (x.spans.head?.elim 0 (·.m0)) x.rxNext x.spans
  lost := x.lost.filter fun r => seqLt x.rxNext r.stop }

/-- The channel passes what is lost. -/
def State.settleChan (s : State) (c : Nat) : State :=
  s.modChan c fun x => (x.settle ((x.lost.map fun r => (r.stop - r.start).toNat).sum)).prune

/-- The granule with the next CHSEQ leaves the egress buffer. -/
def State.popEgress (s : State) (c : Nat) : State :=
  let s := s.modChan c fun x => { x with egr := x.egr.filter fun g => g.chseq ≠ x.rxNext, rxNext := x.rxNext + 1 }
  let s := if s.lineCredit c then (s.freeCredits c 8 10).grant2 c else s
  s.settleChan c

/-- The next granule of the channel in order is delivered to its host lane where it is there and the host's loop-3 credit
allows (R203, R220). -/
def State.deliverOne (s : State) (c : Nat) : State :=
  let s := s.settleChan c
  match (s.chanOf c).egr.find? fun g => g.chseq = (s.chanOf c).rxNext with
  | none => s
  | some g =>
    if !s.hostActive c || decide (s.acct c 15 < 10) then s
    else
      let s := (s.chCount CIN_DELIVER.COUNT c).popEgress c
      let s := (s.addAcct c 13 10).addAcct c 15 (-10)
      s.modHsi (c / 8) fun x => { x with outQ := x.outQ ++ [(c, g.payload)] }

/-- A run of overflow discards ends: one record with its length (R226). -/
def State.endOvfRun (s : State) (c n : Nat) : State :=
  let k := (s.chanOf c).ovfRun
  if k = 0 then s else (s.modChan c fun x => { x with ovfRun := 0 }).logDiscard c 3 k n 0 0 0

/-- The channel's side closes, in the order of R234; a run of overflow discards ends with it. -/
def State.closeChannel (s : State) (c : Nat) : State :=
  let s := (s.setFlag CIN_CH_STATUS.FROZEN c false).endOvfRun c 0
  let x := s.chanOf c
  let s := (List.range x.egr.length).foldl (fun s _ => s.deliverOne c) s
  let gone := x.ing.length + (s.chanOf c).egr.length
  let s := s.chCount CIN_DISC_CLOSE.COUNT c gone
  let s := s.log Evt.CIN_CLOSE Subj.CHANNEL c (s.chanWords c)
  let s := s.resetRange .CIN_CH_ACCT (16 * c) 16
  let s := s.resetRegs [.CIN_CH_STATUS, .CIN_ACCEPT, .CIN_SENT, .CIN_ARRIVE, .CIN_DELIVER, .CIN_DISC_ING_MEM, .CIN_DISC_STORE,
    .CIN_DISC_EGR_MEM, .CIN_DISC_SPAN, .CIN_DISC_SHED, .CIN_DISC_EGR_OVF, .CIN_DISC_CLOSE, .CIN_ING_OVR] c
  let s := s.each lanes16 fun n s => s.modClane n fun y => { y with ctlQ := y.ctlQ.filter fun p => !ctlOfChan c p }
  (s.modChan c fun _ => {}).showFrozen

/-- The channel opens: CHSEQ 0, the usable lanes as its stripe, all free space granted; a CHOPEN is due unless the opening
answers a CHOPEN of the far device (R234, log entry 30). -/
def State.openChannel (s : State) (c : Nat) (answer : Bool := false) : State :=
  let mask := s.usable c
  let s := s.modChan c fun _ => { ({} : ChanX) with
    spans := [{ m0 := 0, mask := BitVec.ofNat 16 mask }], chopenDue := !answer, discard := true }
  let s := s.showStripe c mask
  ((s.grant1 c).grant2 c).placeChopen c

/-! ### Received granules (R205, R210 to R212, R226) -/

/-- Lane `n` has a bad position: RUN goes to WAIT with a new NACK; in WAIT the gap is noted (R205, R210, R212). -/
def State.gap (s : State) (n : Nat) : State :=
  if !s.locked n then s.gapUnlocked n
  else
    let s := s.count CIN_GAPS.COUNT n
    if s.rxStream n = Stream.RUN then (s.setFld CIN_LANE_STATUS.RX_STREAM n Stream.WAIT).newNack n (s.laneE n)
    else s.modClane n fun x => { x with badSince := true }

/-- A DATA granule of channel `c` is accepted in lane order on lane `n` (R203, R226). -/
def State.arrive (s : State) (n c : Nat) (m : BitVec 32) (payload : List Byte) : State :=
  let s := s.modChan c fun x => x.passed n m
  let x := s.chanOf c
  if seqLt m x.rxNext then s
  else if !s.lineCredit c && decide (s.fld CIN_CH_CRED.EGR_CREDITS c - 10 ≤ 10 * x.egr.length) then
    let s := s.chCount CIN_DISC_EGR_OVF.COUNT c
    s.modChan c fun x => { x with lost := ⟨none, m, m + 1⟩ :: x.lost, ovfRun := x.ovfRun + 1 }
  else
    let s := (s.endOvfRun c n).chCount CIN_ARRIVE.COUNT c
    let s := if s.lineCredit c then (s.addAcct c 9 10).addAcct c 11 10 else s
    s.modChan c fun x => { x with egr := x.egr ++ [⟨m, payload⟩] }

/-- The records of a CONTROL granule, before the first empty one (R215). -/
def recordsOf (payload : List Byte) : List (List Byte) := (chunks 32 20 payload).takeWhile fun r => decide (byteAt r 0 ≠ 0)

/-- An accepted CONTROL granule: its records wait to be processed in order; those of reserved type are counted and ignored (R215). -/
def State.acceptRecords (s : State) (n : Nat) (payload : List Byte) : State :=
  let rs := recordsOf payload
  let s := s.modClane n fun x => { x with ctlIn := x.ctlIn ++ rs.filter fun r => decide (byteAt r 0 ≤ 6) }
  s.count CIN_TAG_ERR.COUNT n (rs.countP fun r => decide (6 < byteAt r 0))

/-- A good numbered granule is taken as SEQ E: E advances, a DATA granule arrives. -/
def State.takeGranule (s : State) (n : Nat) (control : Bool) (c : Nat) (m : Option (BitVec 32)) (payload : List Byte) : State :=
  let s := (s.setFld CIN_LANE_SEQ.E n (s.laneE n + 1).toNat).setFld CIN_LANE_STATUS.RX_STREAM n Stream.RUN
  let s := s.dropNack n
  if control then s.acceptRecords n payload
  else match m with
    | some m => s.arrive n c m payload
    | none => s

/-- A good granule, numbered or IDLE, in the state of the stream (R210, R212). One that was decoded after the lane left LOCKED is
discarded, and sent again after the NACK of the next entry (log entry 171). -/
def State.goodGranule (s : State) (n kind c epoch : Nat) (m : Option (BitVec 32)) (payload : List Byte) : State :=
  let e := s.fld CIN_LANE_EPOCH.SENT n % 4
  let numbered := kind ≠ 0
  let control := kind = 2
  let first := if control then byteAt payload 0 else 0
  let s := s.modClane n fun x => { x with lastEpoch := epoch }
  let drop := fun (s : State) => if numbered then s.count CIN_GBN_DROP.COUNT n else s
  if !s.locked n then drop s
  else if s.rxStream n = Stream.RUN then
    if numbered then s.takeGranule n control c m payload else s
  else if s.rxStream n = Stream.WAIT then
    if epoch ≠ e then drop (s.modClane n fun x => { x with badSince := false })
    else if !numbered then s
    else if first = 3 then s.acceptRecords n payload
    else if (s.claneOf n).badSince then (drop s).newNack n (s.laneE n)
    else s.takeGranule n control c m payload
  else
    if !numbered then s
    else if first = 1 ∨ first = 3 then s.acceptRecords n payload
    else (drop s).modClane n fun x => { x with dropped := true }

/-! ### Records of accepted CONTROL granules (R215) -/

/-- OPEN, as the first record, moves a closed receive stream to RUN with E one past its SEQ 0 (R210); the far node is the sender (R271). -/
def State.openRecord (s : State) (n : Nat) (r : List Byte) : State :=
  let s := if s.rxStream n = Stream.CLOSED then
      ((s.setFld CIN_LANE_STATUS.RX_STREAM n Stream.RUN).setFld CIN_LANE_SEQ.E n 1).dropNack n
    else s
  s.farNodeSeen n (fieldAt r 1 2)

/-- SKIP: the CHSEQ it names is passed without delivery (R216). -/
def State.skipRecord (s : State) (n : Nat) (r : List Byte) : State :=
  let c := byteAt r 1
  let m := BitVec.ofNat 32 (fieldAt r 8 4)
  if s.chEn c then
    (s.modChan c fun x =>
      let x := x.passed n m
      if seqLt m x.rxNext then x else { x with lost := ⟨none, m, m + 1⟩ :: x.lost }).settleChan c
  else s

/-- RESYNC: the stream runs with E one past the granule's SEQ (R218). -/
def State.resyncRecord (s : State) (n : Nat) (r : List Byte) : State :=
  ((s.setFld CIN_LANE_STATUS.RX_STREAM n Stream.RUN).setFld CIN_LANE_SEQ.E n ((fieldAt r 4 4 + 1) % 2 ^ 32)).dropNack n

/-- STRIPE: the first record of a stripe applies from its switch number; what lanes whose receive stream closed owed below it is lost.
On this lane nothing below the switch number is still to come (R219, R230, log entry 170). -/
def State.stripeRecord (s : State) (n : Nat) (r : List Byte) : State :=
  let c := byteAt r 1
  let mask := BitVec.ofNat 16 (fieldAt r 2 2)
  let switch := BitVec.ofNat 32 (fieldAt r 4 4)
  if !s.chEn c then s
  else
    let x := s.chanOf c
    let known := x.spans.any fun sp => sp.isCopy n mask switch
    let old := x.spans.getLast?.any fun sp => seqLt switch sp.m0
    let s := if known || old then s.modChan c fun x => { x with
        spans := x.spans.map fun sp => if sp.isCopy n mask switch then { sp with seen := n :: sp.seen } else sp }
      else
        let (x, k, first) := x.cut.foldl (fun (a : ChanX × Nat × BitVec 32) l =>
          let (x, k, m) := a.1.loses l switch
          (x, a.2.1 + k, if a.2.1 = 0 ∨ k ≠ 0 ∧ seqLt m a.2.2 then m else a.2.2)) (x, 0, 0)
        let s := if k = 0 then s else
          (s.chCount CIN_DISC_SHED.COUNT c k).logDiscard c 2 k n (s.laneE n - 1).toNat first.toNat 0
        s.modChan c fun _ => { x with spans := insertSpan ⟨switch, mask, [n]⟩ x.spans }
    (s.modChan c fun x => { x with
      laneNext := Tab.set natLt (fun _ => 0) x.laneNext n switch
      cut := if s.rxStream n = Stream.CLOSED then x.cut else x.cut.erase n }).settleChan c

/-- CHPOS: of every channel it names, all that the lane owed below the entry is lost (R218). -/
def State.chposRecord (s : State) (n : Nat) (r : List Byte) : State :=
  s.each (List.range (min 6 (byteAt r 1))) fun i s =>
    let c := byteAt r (2 + 5 * i)
    if !s.chEn c then s
    else
      let (x, k, first) := (s.chanOf c).loses n (BitVec.ofNat 32 (fieldAt r (3 + 5 * i) 4))
      let s := if k = 0 then s else
        (s.chCount CIN_DISC_SPAN.COUNT c k).logDiscard c 1 k n (s.laneE n - 1).toNat first.toNat 0
      (s.modChan c fun _ => x).settleChan c

/-- CHOPEN: the far device has opened the channel; this side closes and, while enabled, opens again (R234). -/
def State.chopenRecord (s : State) (r : List Byte) : State :=
  let c := byteAt r 1
  if s.chEn c then (s.closeChannel c).openChannel c true else s

/-- A record is processed (Table 7-4). -/
def State.record (s : State) (n : Nat) (r : List Byte) : State :=
  match byteAt r 0 with
  | 1 => s.openRecord n r
  | 2 => s.skipRecord n r
  | 3 => s.resyncRecord n r
  | 4 => s.stripeRecord n r
  | 5 => s.chposRecord n r
  | 6 => s.chopenRecord r
  | _ => s

/-- Records that wait are processed before the next position of the lane. -/
def State.drainRecords (s : State) (n : Nat) : State :=
  (s.claneOf n).ctlIn.foldl (fun s r => s.record n r) (s.modClane n fun x => { x with ctlIn := [] })

/-- Exit of lane `n` from LOCKED, in any state of its stream: what was accepted is processed,
then a gap, of the position that the exit cuts; copies of a NACK that wait are not
sent, since the entry to LOCKED sends a new one (R210, R211, Table 7-6, log entry 171). -/
def State.cinLeftLocked (s : State) (n : Nat) : State :=
  if s.cinchLane n then ((s.drainRecords n).dropNack n).gapUnlocked n else s

/-- The record at the front of lane `n` is processed where it is of the type, and holds what, the command names (log entry 1). -/
def State.frontRecord (s : State) (n type : Nat) (names : List Byte → Bool) : State :=
  match (s.claneOf n).ctlIn with
  | r :: rest => if byteAt r 0 = type ∧ names r then (s.modClane n fun x => { x with ctlIn := rest }).record n r else s
  | [] => s

/-! ### Totals and credit (R221, R222, R227) -/

/-- A total received for account `i` of channel `c`: newer replaces, equal refreshes, older is counted by `stale`; one that
breaks an identity freezes the channel and is not acted on (R222, R227). `sender` marks an ISS total of a sender. -/
def State.totalIn (s : State) (c i : Nat) (total : BitVec 32) (sender : Bool) (stale : State → State) : State :=
  let old := s.acct c i
  let ahead := (total - BitVec.ofNat 32 old).toNat
  if ahead = 0 then s
  else if 2 ^ 31 ≤ ahead then stale s
  else if sender then
    if 65536 < s.acct c (i + 3) + ahead then s.freezeChannel c
    else (s.setAcct c i (total.toNat : Nat)).addAcct c (i + 3) (ahead : Nat)
  else
    let base := i - 2
    let outstanding := (BitVec.ofNat 32 (s.acct c base) - BitVec.ofNat 32 (s.acct c (base + 1)) -
      BitVec.ofNat 32 (s.acct c (base + 2))).toNat
    if outstanding < ahead then s.freezeChannel c
    else
      let s := s.setAcct c i (total.toNat : Nat)
      if base = 0 then s.grant1 c else s.grant2 c

/-- The identities of R224 and R227 hold for channel `c`. -/
def State.conserves (s : State) (c : Nat) : Bool :=
  let a := fun i => (s.acct c i : Int)
  let m32 : Int := 2 ^ 32
  let owner := fun (b : Nat) (pool : Int) (stopped : Bool) =>
    let slack := (pool - (a b - a (b + 1) - a (b + 2) + a (b + 3))) % m32
    decide (a (b + 3) ≤ pool) && (decide (slack = 0) || (stopped && decide (slack ≤ pool)))
  let sender := fun (b : Nat) =>
    decide ((a b - a (b + 1) - a (b + 2) - a (b + 3)) % m32 = 0) && decide (a (b + 3) ≤ 65536)
  let f := fun (x : Field) => (s.fld x c : Int)
  let m48 : Int := 2 ^ 48
  let x := s.chanOf c
  let stays := fun (b : Nat) (fre : BitVec 32) => decide ((a (b + 1) - fre.toNat - a (b + 3)) % m32 = 0)
  stays 0 x.fre1 && (!s.lineCredit c || stays 8 x.fre2) && owner 0 (s.fld CIN_CH_CRED.ING_CREDITS c) (s.grantsStopped c) && sender 12 &&
    (!s.lineCredit c || (sender 4 && owner 8 (s.fld CIN_CH_CRED.EGR_CREDITS c) false)) &&
    decide ((f CIN_ACCEPT.COUNT - f CIN_SENT.COUNT - (s.chanOf c).ing.length - f CIN_DISC_ING_MEM.COUNT) % m48 = 0) &&
    decide ((f CIN_ARRIVE.COUNT - f CIN_DELIVER.COUNT - (s.chanOf c).egr.length - f CIN_DISC_EGR_MEM.COUNT) % m48 = 0)

/-! ### Ingress (R225) -/

/-- A DATA cell of channel `c` from the host, accepted at `ts`: only under loop-1 credit, and only while the channel is
enabled and not frozen. -/
def State.acceptCell (s : State) (c : Nat) (payload : List Byte) (ts : Ts96) : State :=
  if !s.chEn c || s.frozen c then s.count CIN_ING_OVR.COUNT c
  else
    let free := (BitVec.ofNat 32 (s.acct c 0) - BitVec.ofNat 32 (s.acct c 1) - BitVec.ofNat 32 (s.acct c 2)).toNat
    if free < 10 ∨ 2 ^ 31 ≤ free then
      (s.count CIN_ING_OVR.COUNT c).logDiscard c 6 1 0 0 0 (ts.extractLsb' 0 64).toNat
    else
      let s := ((s.chCount CIN_ACCEPT.COUNT c).addAcct c 1 10).addAcct c 3 10
      let s := s.modHsi (c / 8) fun x => { x with cells := x.cells + 1 }
      s.modChan c fun x => { x with ing := x.ing ++ [⟨payload, ts.extractLsb' 0 64⟩] }

/-! ### Credit totals to send (R223) -/

/-- The line-loop totals of channel `c` that are due: (LOOP code, total), GRANT first. -/
def State.lineDue (s : State) (c : Nat) : List (Nat × BitVec 32) :=
  if !s.chEn c || !s.lineCredit c then []
  else
    let x := s.chanOf c
    let min_ := s.fld CIN_CR_CFG.CR_MIN 0
    let g := BitVec.ofNat 32 (s.acct c 8)
    let r := BitVec.ofNat 32 (s.acct c 6)
    (if x.due2g || decide (min_ ≤ (g - x.sent2g).toNat) then [(2, g)] else []) ++
      (if x.due2r || decide (min_ ≤ (r - x.sent2r).toNat) then [(1, r)] else [])

/-- The host-loop totals of channel `c` that are due: (loop, kind, total). -/
def State.hostDue (s : State) (c : Nat) : List (Nat × Nat × BitVec 32) :=
  if !s.chEn c then []
  else
    let x := s.chanOf c
    let min_ := s.fld CIN_CR_CFG.CR_MIN 0
    let g := BitVec.ofNat 32 (s.acct c 0)
    let r := BitVec.ofNat 32 (s.acct c 14)
    (if x.due1 || decide (min_ ≤ (g - x.sent1).toNat) then [(1, 0, g)] else []) ++
      (if x.due3 || decide (min_ ≤ (r - x.sent3).toNat) then [(3, 1, r)] else [])

/-- The next credit word in turn, round robin over channels, and the state after taking it. -/
def State.nextCredit (s : State) : Option (Nat × Nat × BitVec 32) × State :=
  let order := (List.range 256).map fun i => (s.cin.creditRr + i) % 256
  match order.findSome? fun c => (s.lineDue c).head?.map fun e => (c, e) with
  | none => (none, s)
  | some (c, loop, total) =>
    let s := { s with cin := { s.cin with creditRr := (c + 1) % 256 } }
    (some (c, loop, total), s.modChan c fun x =>
      if loop = 2 then { x with sent2g := total, due2g := false } else { x with sent2r := total, due2r := false })

/-! ### Register writes -/

/-- A write to `CIN_CH_CFG_c` (Table 7-8, R219, R234, R237). -/
def wrCinChCfg (p : Path) (c v : Nat) (s : State) : State × WStatus :=
  let stripe := fieldOf v CIN_CH_CFG.STRIPE
  if fieldOf v CIN_CH_CFG.WEIGHT = 0 ∨ stripe = 0 ∨ (maskLanes stripe).any (fun n => !s.cinchLane n) then
    rejectWrite p .CIN_CH_CFG c v s
  else
    let was := s.chEn c
    let en := decide (fieldOf v CIN_CH_CFG.EN = 1)
    let lc := fieldOf v CIN_CH_CFG.LINE_CREDIT
    let refused := was && decide (lc ≠ s.fld CIN_CH_CFG.LINE_CREDIT c)
    let s := if refused then s.regReject p .CIN_CH_CFG c v else s
    let s := if was && !en then s.closeChannel c else s
    let s := if refused then s else s.setFld CIN_CH_CFG.LINE_CREDIT c lc
    let s := (s.setFld CIN_CH_CFG.WEIGHT c (fieldOf v CIN_CH_CFG.WEIGHT)).setFld CIN_CH_CFG.STRIPE c stripe
    let s := s.setFlag CIN_CH_CFG.EN c en
    let s := if !was && en then s.openChannel c else if was && en then s.changeStripe c (s.usable c) else s
    (s, if refused then .rejected else .ok)

/-- A write to `CIN_CH_CRED_c`, only while EN is 0: both values at least 20, the sum of each over all channels at most
65,536. -/
def wrCinChCred (p : Path) (c v : Nat) (s : State) : State × WStatus :=
  let e := fieldOf v CIN_CH_CRED.EGR_CREDITS
  let i := fieldOf v CIN_CH_CRED.ING_CREDITS
  let sum := fun (f : Field) => (chans256.map fun d => if d = c then 0 else s.fld f d).sum
  if s.chEn c ∨ e < 20 ∨ i < 20 ∨ 65536 < sum CIN_CH_CRED.EGR_CREDITS + e ∨ 65536 < sum CIN_CH_CRED.ING_CREDITS + i then
    rejectWrite p .CIN_CH_CRED c v s
  else (plainWrite .CIN_CH_CRED c v s, .ok)

/-- A write to `CIN_LANE_CTRL_n`: SHED sheds the lane by software, or lets it rejoin; SHED_ON_SF sheds a lane whose SF is set (R229, R231). A
write that does both sheds it by software (DESIGN CHOICE, log entry 171). -/
def wrCinLaneCtrl (n v : Nat) (s : State) : State × WStatus :=
  let was := s.flag CIN_LANE_CTRL.SHED n
  let now := decide (fieldOf v CIN_LANE_CTRL.SHED = 1)
  let s := plainWrite .CIN_LANE_CTRL n v s
  let s := if !was && now then s.shedLane n 5
    else if was && !now then s.modClane n fun x => { x with wasSoftware := true } else s
  (if s.flag LFEC_STATUS.SF n then s.shedOnSf n 2 else s, .ok)

/-- A write to `CIN_LANE_CFG_n`: a field written 0 is rejected and keeps its value. -/
def wrCinLaneCfg (p : Path) (n v : Nat) (s : State) : State × WStatus :=
  let a := fieldOf v CIN_LANE_CFG.SHED_LOL
  let b := fieldOf v CIN_LANE_CFG.REJOIN_HOLD
  let s := if a = 0 then s else s.setFld CIN_LANE_CFG.SHED_LOL n a
  let s := if b = 0 then s else s.setFld CIN_LANE_CFG.REJOIN_HOLD n b
  if a = 0 ∨ b = 0 then rejectWrite p .CIN_LANE_CFG n v s else (s, .ok)

/-- A write to `CIN_CR_CFG`: REFRESH 1–1,000, CR_MIN 10–65,535. -/
def wrCinCrCfg (p : Path) (v : Nat) (s : State) : State × WStatus :=
  let r := fieldOf v CIN_CR_CFG.REFRESH
  if r = 0 ∨ 1000 < r ∨ fieldOf v CIN_CR_CFG.CR_MIN < 10 then rejectWrite p .CIN_CR_CFG 0 v s
  else (plainWrite .CIN_CR_CFG 0 v s, .ok)

/-- A write to `CIN_CONS_AUDIT`: CLR_GO clears EN of the channel CLR_CH names and so closes it (R228). -/
def wrCinConsAudit (v : Nat) (s : State) : State × WStatus :=
  let c := fieldOf v CIN_CONS_AUDIT.CLR_CH
  if fieldOf v CIN_CONS_AUDIT.CLR_GO = 1 then
    (if s.chEn c then (s.closeChannel c).setFlag CIN_CH_CFG.EN c false else s, .ok)
  else (s, .ok)

/-! ### The commands -/

/-- GRANULE_POSITION, R202: an outer codeword position of lane `n`. `readOk`, `copyOk` and `ingOk` are the outcomes of the
reads of the replay slot, of the control copy and of the ingress buffer. -/
def execGranulePosition (n : Lane) (readOk copyOk ingOk : Bool) (s : State) : Res :=
  if !s.cinchLane n then .next s
  else if !s.laneOpen n then .next (s.putGranule n 0 0 (List.replicate 640 0))
  else match (s.claneOf n).run with
    | none => .next (s.sendNew n ingOk)
    | some q => match s.sendReplay n q readOk copyOk with
      | (true, s) => .next s
      | (false, s) => .next (s.sendNew n ingOk)

/-- A granule with a line tag and a payload: bad where its CRC fails, its kind is reserved, or a DATA granule names a channel that is not
enabled or whose stripe leaves the lane out (R205). -/
def State.granule (s : State) (n : Nat) (tag : BitVec 20) (payload : List Byte) : State :=
  let kind := (tag.extractLsb' 18 2).toNat
  let c := (tag.extractLsb' 10 8).toNat
  let crcOk := decide (tagCrc (tag.extractLsb' 8 12) = tag.extractLsb' 0 8)
  let m := if kind = 1 then (s.chanOf c).nextOn n else none
  let tagOk := crcOk && decide (kind ≠ 3) && (decide (kind ≠ 1) || (s.chEn c && m.isSome))
  if tagOk then s.goodGranule n kind c (tag.extractLsb' 8 2).toNat m payload else (s.count CIN_TAG_ERR.COUNT n).gap n

/-- What the next position of lane `n` holds is what a command says: a good codeword with this tag and payload, or none. -/
def State.positionHolds (s : State) (n : Nat) (cwOk : Bool) (tag : BitVec 20) (payload : List Byte) : Bool :=
  match (s.lfecOf n).rxOut with
  | (true, w) :: _ => cwOk && decide (granuleParts (symbolBits (w.map (·.toNat))) = (tag, payload))
  | _ => !cwOk

/-- GRANULE_RECEIVED, R205, R210: the next position of lane `n`: the outer codeword that its decoder has passed on; a position without one was
not decoded (R52). The command says what it holds: `cwOk`, and the granule; one that says otherwise tells of no position (log entry 1).
Records of granules accepted before it have been processed. -/
def execGranuleReceived (n : Lane) (cwOk : Bool) (tag : BitVec 20) (payload : List Byte) (s : State) : Res :=
  if !s.cinchLane n || !s.positionHolds n cwOk tag payload then .next s
  else
    let s := s.drainRecords n
    match (s.lfecOf n).rxOut with
    | [] => .next (s.gap n)
    | (ok, w) :: rest =>
      let s := s.modLfec n fun x => { x with rxOut := rest }
      if !ok then .next (s.gap n)
      else
        let (tag, payload) := granuleParts (symbolBits (w.map (·.toNat)))
        .next (s.granule n tag payload)

/-- NACK_RECEIVED, R213: a NACK word on lane `r`. -/
def execNackReceived (r : Lane) (payload : BitVec 44) (s : State) : Res :=
  .next (s.oamIn r fun s =>
    let n := (payload.extractLsb' 40 4).toNat
    let q : BitVec 32 := payload.extractLsb' 8 32
    let e := (payload.extractLsb' 0 8).toNat
    let s := if s.rebuilding .CIN_NACK_RX n then s else s.count CIN_NACK_RX.COUNT n
    let ahead := (e + 256 - s.fld CIN_LANE_EPOCH.ACTED n) % 256
    if !s.laneOpen n then s
    else if ahead = 0 ∨ 127 < ahead then s.count CIN_NACK_DUP.COUNT n
    else
      let s := (s.setFld CIN_LANE_EPOCH.ACTED n e).modClane n fun x => { x with run := none }
      let s := (s.setFld CIN_LANE_STATUS.TX_STREAM n Stream.OPEN).dropResync n
      if s.flag CIN_LANE_STATUS.NO_REPLAY n then s.sendResync n 0
      else if q = s.laneHead n then s.count CIN_RUNS.COUNT n
      else if (s.claneOf n).dir.any fun d => d.seq = q then
        ((s.count CIN_RUNS.COUNT n).modClane n fun x => { x with run := some q }).setFld CIN_LANE_STATUS.TX_STREAM n
          Stream.REPLAY
      else s.sendResync n 0)

/-- NACK_TIMEOUT, R210, R211: NACK_TO has passed since the last NACK of lane `n`. -/
def execNackTimeout (n : Lane) (s : State) : Res :=
  if !s.cinchLane n || !s.locked n then .next s
  else if s.rxStream n = Stream.WAIT then .next ((s.count CIN_NACK_TO.COUNT n).newNack n (s.laneE n))
  else if s.rxStream n = Stream.CLOSED ∧ (s.claneOf n).dropped then .next ((s.count CIN_NACK_TO.COUNT n).newNack n 0)
  else .next s

/-- The far LANE_STATUS of lane `n`, and whether R209 accepts it: AGE below 16, RX_LOCKED, SVC Cinch, SHED 0. -/
def State.farReady (s : State) (n : Nat) : Bool :=
  let w := s.fld LFEC_FAR_STATUS.PAYLOAD n
  decide (s.fld LFEC_FAR_STATUS.AGE n < 16) && w.testBit 23 && decide (w / 256 % 16 = Svc.CINCH) && !w.testBit 20

/-- STREAM_OPEN, R209, R231: the conditions hold, the transmit stream opens and the lane rejoins its stripes. -/
def execStreamOpen (n : Lane) (s : State) : Res :=
  if s.cinchLane n && !s.laneOpen n && decide (s.fld LTX_STATUS.STATE n = Ltx.ACTIVE) && s.locked n && s.farReady n &&
      !s.flag LFEC_STATUS.CFG_MISMATCH n && !s.flag CIN_LANE_STATUS.SHED n then
    let s := (s.setFld CIN_LANE_STATUS.TX_STREAM n Stream.OPEN).setFld CIN_LANE_SEQ.HEAD n 0
    let s := s.setFld CIN_LANE_EPOCH.ACTED n 0
    let open_ := ctlPayload [recOpen (s.fld TMB_NODE_ID.NODE_ID 0) n (s.fld HRN_GROUP_STATE.CFG_TAG (n / 2))]
    let soft := (s.claneOf n).wasSoftware
    let s := s.modClane n fun x => { x with run := none, ctlQ := [open_], dir := [], copies := [], wasSoftware := false }
    let s := s.log Evt.CIN_LANE Subj.LINE_LANE n [1, if soft then 1 else 0]
    .next (s.each chans256 fun c s =>
      if s.chEn c && (s.fld CIN_CH_CFG.STRIPE c).testBit n then s.changeStripe c (s.usable c) else s)
  else .next s

/-- OPEN_RECORD, R210, R271: the OPEN at the front of the lane's accepted records. -/
def execOpenRecord (n : Lane) (node : BitVec 16) (s : State) : Res := .next (s.frontRecord n 1 fun r => decide (fieldAt r 1 2 = node.toNat))

/-- SKIP_RECORD, R216. -/
def execSkipRecord (n : Lane) (c : Chan) (m : BitVec 32) (s : State) : Res :=
  .next (s.frontRecord n 2 fun r => decide (byteAt r 1 = c ∧ BitVec.ofNat 32 (fieldAt r 8 4) = m))

/-- RESYNC_RECORD, R212, R218. -/
def execResyncRecord (n : Lane) (epoch : Fin 4) (seq : BitVec 32) (s : State) : Res :=
  .next (s.frontRecord n 3 fun r => decide ((s.claneOf n).lastEpoch = epoch ∧ BitVec.ofNat 32 (fieldAt r 4 4) = seq))

/-- STRIPE_RECORD, R219, R230. -/
def execStripeRecord (n : Lane) (c : Chan) (mask : BitVec 16) (switch : BitVec 32) (s : State) : Res :=
  .next (s.frontRecord n 4 fun r => decide (byteAt r 1 = c ∧ BitVec.ofNat 16 (fieldAt r 2 2) = mask ∧ BitVec.ofNat 32 (fieldAt r 4 4) = switch))

/-- CHPOS_RECORD, R218: the record whose first entry is the one named. -/
def execChposRecord (n : Lane) (c : Chan) (m : BitVec 32) (s : State) : Res :=
  .next (s.frontRecord n 5 fun r => decide (byteAt r 2 = c ∧ BitVec.ofNat 32 (fieldAt r 3 4) = m))

/-- CHOPEN_RECORD, R234. -/
def execChopenRecord (n : Lane) (c : Chan) (s : State) : Res := .next (s.frontRecord n 6 fun r => decide (byteAt r 1 = c))

/-- CREDIT_WORD_RECEIVED, R221, R222: a CREDIT word on lane `n`. -/
def execCreditWordReceived (n : Lane) (payload : BitVec 44) (s : State) : Res :=
  .next (s.oamIn n fun s =>
    let loop := (payload.extractLsb' 42 2).toNat
    let c := (payload.extractLsb' 34 8).toNat
    let total : BitVec 32 := payload.extractLsb' 0 32
    let stale := fun (s : State) => s.count CIN_CR_STALE.COUNT n
    if loop = 0 ∨ loop = 3 then s.count CIN_CR_BAD.COUNT n
    else if !s.chEn c || !s.lineCredit c || (s.chanOf c).discard then s
    else if loop = 2 then s.totalIn c 4 total true stale
    else s.totalIn c 10 total false stale)

/-- CREDIT_REFRESH, R223: REFRESH µs have passed; every total of an enabled channel is due again. -/
def execCreditRefresh (s : State) : Res :=
  .next (s.each chans256 fun c s => if s.chEn c then
    s.modChan c fun x => { x with due1 := true, due2g := s.lineCredit c, due2r := s.lineCredit c, due3 := true } else s)

/-- GRANULE_DELIVER, R203: the next granule of channel `c` in order; `egrOk` is the outcome of its egress-buffer read. -/
def execGranuleDeliver (c : Chan) (egrOk : Bool) (s : State) : Res :=
  let s := s.settleChan c
  if egrOk then .next (s.deliverOne c)
  else if s.hostActive c && (s.chanOf c).egr.any fun g => g.chseq = (s.chanOf c).rxNext then
    let m := (s.chanOf c).rxNext
    .next (((s.chCount CIN_DISC_EGR_MEM.COUNT c).logDiscard c 5 1 0 0 m.toNat 0).popEgress c)
  else .next s

/-- CINCH_AUDIT, R227: every 1 ms each enabled channel is checked; a violation freezes it. -/
def execCinchAudit (s : State) : Res :=
  let s := s.each chans256 fun c s => if s.chEn c && !s.frozen c && !s.conserves c then s.freezeChannel c else s
  .next (s.count CIN_AUDIT_PASS.COUNT 0)

/-- CLR_CH, R228. -/
def execClrCh (p : Path) (c : Chan) (s : State) : Res :=
  writeCommand p .CIN_CONS_AUDIT 0 (c.val * 256 + 1) (wrCinConsAudit (c.val * 256 + 1)) s

/-- SHED_LOL_EXPIRY, R229: lane `n`, not shed, has been out of LOCKED for SHED_LOL. -/
def execShedLolExpiry (n : Lane) (s : State) : Res := .next (if s.locked n then s else s.shedLane n 1)

/-- CIN_SHED_WRITE, R229. -/
def execCinShedWrite (p : Path) (n : Lane) (s : State) : Res :=
  let v := withField (s.writeBack .CIN_LANE_CTRL n) CIN_LANE_CTRL.SHED 1
  writeCommand p .CIN_LANE_CTRL n v (wrCinLaneCtrl n v) s

/-- CIN_UNSHED_WRITE, R231. -/
def execCinUnshedWrite (p : Path) (n : Lane) (s : State) : Res :=
  let v := withField (s.writeBack .CIN_LANE_CTRL n) CIN_LANE_CTRL.SHED 0
  writeCommand p .CIN_LANE_CTRL n v (wrCinLaneCtrl n v) s

/-- REJOIN, R231: LOCKED with SF clear for REJOIN_HOLD, the far device locked, no software shed: the SHED report clears. -/
def execRejoin (n : Lane) (s : State) : Res :=
  .next (if s.cinchLane n && s.locked n && !s.flag LFEC_STATUS.SF n && (s.fld LFEC_FAR_STATUS.PAYLOAD n).testBit 23 &&
      !s.flag CIN_LANE_CTRL.SHED n then s.setFlag CIN_LANE_STATUS.SHED n false else s)

/-- CHANNEL_OPEN, R234: a write of `CIN_CH_CFG_c` that sets EN. -/
def execChannelOpen (p : Path) (c : Chan) (lineCredit : Bool) (s : State) : Res :=
  let v := withField (withField (s.writeBack .CIN_CH_CFG c) CIN_CH_CFG.EN 1) CIN_CH_CFG.LINE_CREDIT (if lineCredit then 1 else 0)
  writeCommand p .CIN_CH_CFG c v (wrCinChCfg p c v) s

/-- CHANNEL_CLOSE, R234: a write of `CIN_CH_CFG_c` that clears EN. -/
def execChannelClose (p : Path) (c : Chan) (s : State) : Res :=
  let v := withField (s.writeBack .CIN_CH_CFG c) CIN_CH_CFG.EN 0
  writeCommand p .CIN_CH_CFG c v (wrCinChCfg p c v) s

/-- STRIPE_WRITE, R237. -/
def execStripeWrite (p : Path) (c : Chan) (mask : BitVec 16) (s : State) : Res :=
  let v := withField (s.writeBack .CIN_CH_CFG c) CIN_CH_CFG.STRIPE mask.toNat
  writeCommand p .CIN_CH_CFG c v (wrCinChCfg p c v) s

/-- CREDIT_DISCARD_END, R234: NACK_TO after the channel opened. -/
def execCreditDiscardEnd (c : Chan) (s : State) : Res := .next (s.modChan c fun x => { x with discard := false })

end Sys2Proof.Machine
end

