-- ==== Sys2Proof/Machine/Dma.lean ====
section
/-! DEFINITION. The DMA engine: what a channel checks before its first beat, grants, the completion queue (chapter 14). The
bursts themselves, which may reach registers, stand in DmaRun.lean. -/
namespace Sys2Proof.Machine

/-! States of a channel (`DMA_STATUS_n`) and status codes (Table 14-6). -/
abbrev Dma.IDLE : Nat := 0
abbrev Dma.CHECK : Nat := 1
abbrev Dma.RUN : Nat := 2
abbrev Dma.PREEMPTED : Nat := 3
abbrev Dma.WAIT_CQ : Nat := 4
abbrev DmaEnd.OK : Nat := 0
abbrev DmaEnd.ALIGN : Nat := 1
abbrev DmaEnd.RANGE : Nat := 2
abbrev DmaEnd.DENIED : Nat := 3
abbrev DmaEnd.OVERLAP : Nat := 4
abbrev DmaEnd.TABLE : Nat := 5
abbrev DmaEnd.POISONED : Nat := 6
abbrev DmaEnd.ABORTED : Nat := 7

/-- The end of the register part of the management space. -/
def regSpaceEnd : Nat := 0x00470000

def State.dmaState (s : State) (n : Nat) : Nat := s.fld DMA_STATUS.STATE n
def State.goDma (s : State) (n st : Nat) : State := s.setFld DMA_STATUS.STATE n st

/-! ### Ranges and roles (R408) -/

/-- The regions that the `n` bytes from `a` lie in; none if a byte lies outside every region. -/
def regionsOver : Nat → Nat → Nat → Option (List Nat)
  | 0, _, _ => none
  | k + 1, a, n => match regionAt a with
    | none => none
    | some m =>
      let e := regionBase m + 4096 * regionPages m
      if a + n ≤ e then some [m] else (regionsOver k e (a + n - e)).map (m :: ·)

/-- The role that a region asks of a transfer. -/
def regionRole (m : Nat) (dst : Bool) : Nat :=
  if 10 ≤ m ∧ m < 18 then Role.OPERATOR else if m = 19 ∧ !dst then Role.OPERATOR else Role.FIRMWARE

/-- What is wrong with a range for a role: RANGE, DENIED, or nothing. -/
def rangeFault (role a n : Nat) (dst : Bool) : Option Nat :=
  if a + n ≤ regSpaceEnd then (if role < Role.FIRMWARE then some DmaEnd.DENIED else none)
  else match regionsOver 21 a n with
    | none => some DmaEnd.RANGE
    | some ms => if ms.all fun m => decide (regionRole m dst ≤ role) then none else some DmaEnd.DENIED

/-- What is wrong with an entry's ranges. -/
def DmaEntry.fault (role : Nat) (e : DmaEntry) : Option Nat :=
  match (if e.fill then none else rangeFault role e.src e.cnt false), rangeFault role e.dst e.cnt true with
  | some x, some y => some (min x y)
  | some x, none => some x
  | none, y => y

/-- Two ranges overlap. -/
def overlaps (a n b m : Nat) : Bool := decide (a < b + m ∧ b < a + n)

/-- Two entries of a table overlap: destination with destination, or the source of either with the destination of the other
(R410). -/
def DmaEntry.clash (e f : DmaEntry) : Bool :=
  overlaps e.dst e.cnt f.dst f.cnt || (!e.fill && overlaps e.src e.cnt f.dst f.cnt) || (!f.fill && overlaps f.src f.cnt e.dst e.cnt)

/-- The lower-numbered entry of the first pair of a table that overlaps; an entry whose own source and destination overlap is
such a pair too. -/
def firstClash : Nat → List DmaEntry → Option Nat
  | _, [] => none
  | i, e :: es => if (!e.fill && overlaps e.src e.cnt e.dst e.cnt) || es.any e.clash then some i else firstClash (i + 1) es

/-- A table entry from its 16 bytes; none where reserved bits are set or the count is zero (R409). -/
def entryOf (bs : List Byte) : Option DmaEntry :=
  let flags := fieldAt bs 12 4
  let cnt := fieldAt bs 8 4
  if 1 < flags ∨ cnt = 0 ∨ 0xFFFFFF < cnt then none
  else some { src := fieldAt bs 0 4, dst := fieldAt bs 4 4, cnt := cnt, fill := decide (flags = 1) }

/-- A channel is strict (R411). `GLB_STATE.BOOT` 5 is RUNNING, `SEC_FW_STATUS.STATE` 3 RECOVERY. -/
def State.dmaStrict (s : State) (n : Nat) : Bool :=
  decide (s.fld GLB_STATE.BOOT 0 ≠ 5) || decide (s.fld SEC_FW_STATUS.STATE 0 = 3) || s.flag DMA_CTRL.TEST n

/-- Every quantity of an entry is a multiple of 8. -/
def DmaEntry.aligned (e : DmaEntry) : Bool := decide ((e.fill ∨ e.src % 8 = 0) ∧ e.dst % 8 = 0 ∧ e.cnt % 8 = 0)

/-- The entries a transfer is to run, or the status it ends with and the entry concerned. -/
def State.dmaCheck (s : State) (n role : Nat) : ((Nat × Nat) ⊕ List DmaEntry) × State :=
  let mode := s.fld DMA_CTRL.MODE n
  let src := s.fld DMA_SRC.ADDR n
  let dst := s.fld DMA_DST.ADDR n
  let cnt := s.fld DMA_CNT.CNT n
  let strict := s.dmaStrict n
  if s.partFailed 12 then (.inl (DmaEnd.DENIED, 0), s)
  else if cnt = 0 then (.inl (DmaEnd.TABLE, 0), s)
  else if mode < 2 then
    let e : DmaEntry := { src := src, dst := dst, cnt := cnt, fill := decide (mode = 1) }
    match e.fault role with
    | some x => (.inl (x, 0), s)
    | none => if strict && !e.aligned then (.inl (DmaEnd.ALIGN, 0), s) else (.inr [e], s)
  else if 256 < cnt then (.inl (DmaEnd.TABLE, 0), s)
  else if src % 16 ≠ 0 then (.inl (DmaEnd.ALIGN, 0), s)
  else match rangeFault role src (16 * cnt) false with
    | some x => (.inl (x, 0), s)
    | none =>
      let (bytes, s) := s.storeRead src (16 * cnt) false
      let es := (List.range cnt).map fun i => entryOf ((bytes.drop (16 * i)).take 16 |>.map (·.1))
      match es.findIdx? Option.isNone with
      | some i => (.inl (DmaEnd.TABLE, i), s)
      | none =>
        let es := es.filterMap id
        match es.findIdx? fun e => (e.fault role).isSome with
        | some i => (.inl (((es[i]?.bind fun e => e.fault role).getD DmaEnd.RANGE), i), s)
        | none => match (if strict then es.findIdx? fun e => !e.aligned else none), firstClash 0 es with
          | some i, _ => (.inl (DmaEnd.ALIGN, i), s)
          | none, some i => (.inl (DmaEnd.OVERLAP, i), s)
          | none, none => (.inr es, s)

/-! ### Grants (R407) -/

/-- Channel `n` has beats to move. -/
def State.dmaAsks (s : State) (n : Nat) : Bool :=
  (decide (s.dmaState n = Dma.RUN) || decide (s.dmaState n = Dma.PREEMPTED)) && (s.dmaOf n).ended.isNone

/-- The channel to be granted: the highest `PRIO` among those that ask, round robin from the one after the last granted. -/
def State.dmaPick (s : State) : Option Nat :=
  let order := ((List.range 16).map fun i => (s.engine.last + 1 + i) % 16).filter s.dmaAsks
  order.foldl (fun best n => match best with
    | none => some n
    | some b => if s.fld DMA_CTRL.PRIO b < s.fld DMA_CTRL.PRIO n then some n else some b) none

/-- A free engine grants. -/
def State.dmaGrant (s : State) : State :=
  match s.engine.current, s.dmaPick with
  | none, some n => ({ s with engine := { s.engine with current := some n, last := n } } : State).goDma n Dma.RUN
  | _, _ => s

/-! ### The completion queue (R414) -/

/-- The entry in hand of a channel. -/
def DmaX.now (x : DmaX) : DmaEntry := x.entries.getD x.entry { src := 0, dst := 0, cnt := 0, fill := true }

/-- The next source and destination addresses; in a descending copy the lowest ones reached. -/
def DmaX.ends (x : DmaX) : Nat × Nat :=
  let e := x.now
  let d := if x.desc then e.cnt - x.moved else x.moved
  (if e.fill then 0 else (e.src + d) % 2 ^ 32, (e.dst + d) % 2 ^ 32)

/-- The completion record of a channel (Table 14-4). -/
def State.dmaRecord (s : State) (n status : Nat) : List Byte :=
  let x := s.dmaOf n
  let flags := (if x.withdrawn then 1 else 0) + (if x.desc then 2 else 0) + (if x.preempted then 4 else 0) +
    (if x.strict then 8 else 0) + (if x.armed then 16 else 0)
  leBytes 1 n ++ leBytes 1 status ++ leBytes 2 flags ++ leBytes 4 x.bytes ++ leBytes 4 x.ends.1 ++ leBytes 4 x.ends.2 ++
    leBytes 2 (if x.index then x.entry else 0) ++ leBytes 2 s.engine.seq ++ leBytes 4 0 ++ leBytes 8 (s.now.toNat % 2 ^ 64)

/-- The queue has no room for one more record. -/
def State.cqFull (s : State) : Bool := decide ((s.fld DMA_CQ_WR.IDX 0 + 1) % 256 = s.fld DMA_CQ_RD.IDX 0)

/-- A record enters the queue. -/
def State.cqPut (s : State) (n status : Nat) : State :=
  let r := s.dmaRecord n status
  let w := s.fld DMA_CQ_WR.IDX 0
  let s := s.each (List.range 8) fun i s => s.setFld DMA_CQ_REC.WORD (8 * w + i) (fieldAt r (4 * i) 4)
  ({ s with engine := { s.engine with seq := (s.engine.seq + 1) % 65536 } } : State).setFld DMA_CQ_WR.IDX 0 ((w + 1) % 256)

/-- The channel returns to IDLE. -/
def State.dmaIdle (s : State) (n : Nat) : State :=
  ((s.goDma n Dma.IDLE).setFld DMA_STATUS.REMAIN n 0).modDma n fun _ => {}

/-- The channel's record enters the queue, or waits for room. -/
def State.dmaComplete (s : State) (n status : Nat) : State :=
  if s.cqFull then
    let s := ((s.goDma n Dma.WAIT_CQ).modDma n fun x => { x with waiting := some status }).count DMA_CQ_WAITS.COUNT 0
    { s with engine := { s.engine with waits := s.engine.waits ++ [n] } }
  else (s.cqPut n status).dmaIdle n

/-! ### Registers -/

/-- GO on channel `n` by a role: the checks, and the first grant. -/
def State.dmaGo (s : State) (n role : Nat) : State :=
  let strict := s.dmaStrict n
  let index := decide (s.fld DMA_CTRL.MODE n = 2)
  let (r, s) := s.dmaCheck n role
  match r with
  | .inl (status, i) =>
    (s.goDma n Dma.CHECK).modDma n fun _ => { ended := some status, entry := i, strict := strict, index := index }
  | .inr es =>
    let desc := match es with
      | [e] => !index && !e.fill && decide (e.src < e.dst) && overlaps e.src e.cnt e.dst e.cnt
      | _ => false
    let s := s.modDma n fun _ => { entries := es, desc := desc, strict := strict, index := index }
    ((s.goDma n Dma.RUN).setFld DMA_STATUS.REMAIN n (s.fld DMA_CNT.CNT n)).dmaGrant

/-- ABORT: a channel between bursts ends; one whose burst runs ends with it (R413). -/
def State.dmaAbort (s : State) (n : Nat) : State :=
  if s.dmaAsks n then
    if s.engine.current = some n then s.modDma n fun x => { x with aborting := true }
    else s.modDma n fun x => { x with ended := some DmaEnd.ABORTED }
  else s

/-- A write to `DMA_CTRL_n`: mode 0b11 is rejected; GO on a channel that is not IDLE or is bound to a stream is ignored and
recorded (R416). The mode, priority and burst of a transfer are those of its GO: while it runs, only ABORT acts. -/
def wrDmaCtrl (p : Path) (n v : Nat) (s : State) : State × WStatus :=
  if fieldOf v DMA_CTRL.MODE = 3 then rejectWrite p .DMA_CTRL n v s
  else
    let go := fieldOf v DMA_CTRL.GO = 1
    let idle := decide (s.dmaState n = Dma.IDLE)
    let s := if idle then plainWrite .DMA_CTRL n v s else s
    let s := if fieldOf v DMA_CTRL.ABORT = 1 then s.dmaAbort n else s
    if go then
      if idle && decide (s.fld DMA_CTRL.REQ n = 0) then (s.dmaGo n (s.role p), .ok)
      else
        let r := s.dmaRecord n 0
        (s.log Evt.DMA_EVENT Subj.DMA_CHANNEL n ((List.range 8).map fun i => fieldAt r (4 * i) 4), .ok)
    else (s, .ok)

/-- A write to `DMA_SRC_n`, `DMA_DST_n`, `DMA_CNT_n` or `DMA_FILL_n`: discarded and recorded while the channel is not IDLE. -/
def wrDmaParam (p : Path) (r : Reg) (n v : Nat) (s : State) : State × WStatus :=
  if s.dmaState n = Dma.IDLE then (plainWrite r n v s, .ok) else rejectWrite p r n v s

/-- The channels that wait for the queue take the room, in the order in which they finished (R414). -/
def State.cqRelease (s : State) : State :=
  s.each s.engine.waits fun n s => match (s.dmaOf n).waiting with
    | some st =>
      if s.cqFull then s
      else
        let s := (s.cqPut n st).dmaIdle n
        { s with engine := { s.engine with waits := s.engine.waits.erase n } }
    | none => s

/-- A write to `DMA_CQ_RD`: an index that passes `DMA_CQ_WR` is rejected (R414). -/
def wrDmaCqRd (p : Path) (v : Nat) (s : State) : State × WStatus :=
  let rd := s.fld DMA_CQ_RD.IDX 0
  let wr := s.fld DMA_CQ_WR.IDX 0
  let new := fieldOf v DMA_CQ_RD.IDX
  if (wr + 256 - rd) % 256 < (new + 256 - rd) % 256 then rejectWrite p .DMA_CQ_RD 0 v s
  else ((s.setFld DMA_CQ_RD.IDX 0 new).cqRelease, .ok)

/-! ### The commands -/

/-- A write of GO that keeps the channel's other settings but its mode. -/
def State.dmaGoValue (s : State) (n mode : Nat) : Nat :=
  withField (withField (s.writeBack .DMA_CTRL n) DMA_CTRL.MODE mode) DMA_CTRL.GO 1

/-- The write of GO in a mode. -/
def dmaStart (p : Path) (n mode : Nat) (s : State) : Res :=
  writeCommand p .DMA_CTRL n (s.dmaGoValue n mode) (wrDmaCtrl p n (s.dmaGoValue n mode)) s

/-- LINEAR, R409, R410: GO over `DMA_SRC_n`, `DMA_DST_n` and `DMA_CNT_n` as they stand. -/
def execLinear (p : Path) (n : Fin 16) (s : State) : Res := dmaStart p n 0 s

/-- FILL, R409. -/
def execFill (p : Path) (n : Fin 16) (s : State) : Res := dmaStart p n 1 s

/-- INDEX, R409, R410. -/
def execIndex (p : Path) (n : Fin 16) (s : State) : Res := dmaStart p n 2 s

/-- DMA_ABORT, R413. -/
def execDmaAbort (p : Path) (n : Fin 16) (s : State) : Res :=
  let v := withField (s.writeBack .DMA_CTRL n) DMA_CTRL.ABORT 1
  writeCommand p .DMA_CTRL n v (wrDmaCtrl p n v) s

/-- DMA_TRANSFER_END, R414: the channel's record is queued where `CQ` asks for one, for every error and for a withdrawal. -/
def execDmaTransferEnd (n : Fin 16) (s : State) : Res :=
  let x := s.dmaOf n
  match x.ended with
  | none => .next s
  | some status =>
    if x.waiting.isSome then .next s
    else if s.flag DMA_CTRL.CQ n || decide (status ≠ DmaEnd.OK) || x.withdrawn then .next (s.dmaComplete n status)
    else .next (s.dmaIdle n)

/-- DMA_CQ_RD_WRITE, R414. -/
def execDmaCqRdWrite (p : Path) (index : Byte) (s : State) : Res :=
  writeCommand p .DMA_CQ_RD 0 index.toNat (wrDmaCqRd p index.toNat) s

end Sys2Proof.Machine
end

