-- ==== Sys2Proof/Machine/HostIf.lean ====
section
/-! DEFINITION. Host lanes and ports, chapter 6: receive and transmit states, forwarded-clock mode, transmit equaliser,
Cinch host framing, port status, patterns, and the commands of the family. -/
namespace Sys2Proof.Machine

/-! Codes of `HSI_STATUS_n` (Table 6-5, R171). -/
abbrev HTx.DISABLED : Nat := 0
abbrev HTx.PENDING : Nat := 1
abbrev HTx.QUIET : Nat := 2
abbrev HTx.WAKING : Nat := 3
abbrev HTx.ACTIVE : Nat := 4
abbrev HLoss.NONE : Nat := 0
abbrev HLoss.SIGNAL : Nat := 1
abbrev HLoss.CDR : Nat := 2
abbrev HLoss.ALIGN : Nat := 3
abbrev HLoss.CLOCK : Nat := 4
abbrev HLoss.DISABLED : Nat := 5
abbrev HLoss.REBUILD : Nat := 6
abbrev HLoss.QUIET : Nat := 7
abbrev HRes.OK : Nat := 0
abbrev HRes.PLL_TIMEOUT : Nat := 1
abbrev HRes.BUSY : Nat := 2
abbrev HRes.RANGE : Nat := 3

/-- Kinds of HSI_EVENT (Table 15-2). -/
abbrev HEvt.LOSS : Nat := 0
abbrev HEvt.WAKE : Nat := 1
abbrev HEvt.RATE : Nat := 2

/-! ### Questions -/

/-- Transmit state of host lane `h`. -/
def State.htx (s : State) (h : Nat) : Nat := s.fld HSI_STATUS.TX_STATE h

/-- The lane runs in forwarded-clock mode. -/
def State.fcm (s : State) (h : Nat) : Bool := decide (s.fld HSI_CFG.MODE h = 1)

/-- The service of the lane. -/
def State.hsvc (s : State) (h : Nat) : Nat := s.fld HSI_CFG.SVC h

/-- The lane is in use under the map (R177). -/
def State.hInUse (s : State) (h : Nat) : Bool := s.flag HSI_CFG.IN_USE h

/-- The line lane that serves host lane `h`. -/
def State.servedBy (s : State) (h : Nat) : Nat := 2 * (h / 4) + s.fld HSI_CFG.LINE h

/-- The host lanes in use that line lane `n` serves, ascending. -/
def State.hostsOf (s : State) (n : Nat) : List Nat := hosts32.filter fun h => s.hInUse h && decide (s.servedBy h = n)

/-- HCKI of the lane's pair is present. -/
def State.hcki (s : State) (h : Nat) : Bool := s.flag HSI_CLK.HCKI_PRESENT (h / 8)

/-- The clocks an enable waits for: REFCLK, the core PLL and the pair's synthesiser (R133 applied to host lanes). -/
def State.hsynth (s : State) (h : Nat) : Bool := s.clocksPresent && s.hostSynthLocked (h / 8)

/-- Every clock of the lane's receiver is there (Table 6-4, PENDING). -/
def State.hclocks (s : State) (h : Nat) : Bool := s.hsynth h && (!s.fcm h || s.hcki h)

/-! ### Ports (R184) -/


/-- Line lane `n` delivers to ports: LOCKED, and in NZ line mode the multiframe phase known. -/
def State.lineDelivers (s : State) (n : Nat) : Bool := s.locked n && (s.ieee n || s.flag LFEC_STATUS.MF_KNOWN n)

/-- The line side of port `p` delivers: its line lanes do, and they are deskewed (R184, R185). -/
def State.portLineUp (s : State) (p : Nat) : Bool :=
  ((s.portHosts p).all fun h => s.lineDelivers (s.servedBy h)) && !(s.hpmOf p).lineSkew

/-- The status of port `p` as its lanes are; a change is recorded. In IEEE line mode a port is up by its host lanes alone (R184). -/
def State.showPort (s : State) (p : Nat) : State :=
  if !s.flag HPM_PORT_CFG.VALID p then s
  else
    let old := s.reg .HPM_PORT_STATUS p
    let x := s.hpmOf p
    let hostUp := s.portHears p
    let lineUp := s.portLineUp p
    let ieee := (s.portHosts p).any fun h => s.ieee (s.servedBy h)
    let s := s.setFlag HPM_PORT_STATUS.UP p (hostUp && !x.hostSkew && (ieee || lineUp))
    let s := s.setFlag HPM_PORT_STATUS.LF_TO_HOST p (!lineUp)
    let s := s.setFlag HPM_PORT_STATUS.LF_TO_LINE p (!hostUp)
    let s := s.setFlag HPM_PORT_STATUS.RF_SEEN p (x.rfUp || x.rfDown)
    let s := s.setFlag HPM_PORT_STATUS.DESKEW_FAIL p (x.hostSkew || x.lineSkew)
    let new := s.reg .HPM_PORT_STATUS p
    if new = old then s else s.log Evt.HPM_PORT Subj.PORT p (regWords new 1)

/-- The status of every port. -/
def State.showPorts (s : State) : State := s.each hosts32 fun p s => s.showPort p

/-! ### Receive side (R158 to R164, R173 to R176) -/

/-- The receive side enters a state. -/
def State.goHrx (s : State) (h st : Nat) : State := s.setFld HSI_STATUS.RX_STATE h st

/-- An HSI_EVENT record: kind and `HSI_STATUS_n`. -/
def State.logHost (s : State) (h kind : Nat) : State :=
  s.log Evt.HSI_EVENT Subj.HOST_LANE h (kind :: regWords (s.reg .HSI_STATUS h) 1)

/-- `PENDING` of clock pair `k`: a lane of it waits for a clock. -/
def State.showHostClk (s : State) (k : Nat) : State :=
  s.setFlag HSI_CLK.PENDING k ((List.range 8).any fun i =>
    decide (s.hrx (8 * k + i) = HRx.PENDING) || decide (s.htx (8 * k + i) = HTx.PENDING))

/-- What the lane forgets of the framing when it leaves LOCKED or starts again. -/
def State.dropFraming (s : State) (h : Nat) : State :=
  (s.modHsi h fun x => { x with blockLock := false, badFrames := 0, lastFcnt := none, cellGood := 0, cellBad := 0,
                                cellsRx := 0, shSeen := 0, shBad := [], frames := [], rxBlocks := [] }).setFlag HSI_STATUS.CELL_LOCK h false

/-- The taps of a lane that has tracked are what the tracking has made of them by the end of a lock: the data it followed is none of
this model's, so they are free values (R159, log entry 165). -/
def State.keepTaps (s : State) (h : Nat) : State :=
  if (s.hsiOf h).tracked then
    let (v, s) := s.fresh
    s.modHsi h fun x => { x with tracked := false, ffe := (List.range 7).map fun i => (v.extractLsb' (32 * i) 32).toInt,
                                 dfe := (v.extractLsb' 224 32).toInt }
  else s

/-- Host lane `h` has left lock: the line lane that follows it in transparent service holds its rate and sends zero data
(R138). -/
def State.lineRelayStop (s : State) (h : Nat) : State :=
  let n := s.servedBy h
  if (s.hostsOf n).head? = some h then s.modLtx n fun x => { x with relaying := false } else s

/-- Exit from LOCKED to `st` with a cause: recorded, counted, and the values reached are held for a warm pass (R159, R162). -/
def State.leaveHost (s : State) (h cause st : Nat) : State :=
  let s := ((s.keepTaps h).setFld HSI_STATUS.LOSS_CAUSE h cause).count HSI_LOL.COUNT h
  let s := (s.modHsi h fun x => { x with stored := true }).goHrx h st
  (((s.dropFraming h).logHost h HEvt.LOSS).lineRelayStop h).showPorts

/-- The lane waits in PENDING for a lost clock, with cause CLOCK (R23, R163). -/
def State.hostWaits (s : State) (h : Nat) : State :=
  (((s.setFld HSI_STATUS.LOSS_CAUSE h HLoss.CLOCK).goHrx h HRx.PENDING).modHsi h fun x =>
    { x with clockLost := true, warm := false }).showHostClk (h / 8)

/-- Entry to CDR: warm from the values held, or cold; with a clock of the lane missing it waits in PENDING (R163, R176). -/
def State.toCdr (s : State) (h : Nat) (warm : Bool) : State :=
  if !s.hclocks h then s.hostWaits h
  else
    let s := (s.modHsi h fun x => { x with warm := warm, clockLost := false }).goHrx h HRx.CDR
    let s := s.dropFraming h
    if warm then s
    else ((s.modHsi h fun x => { x with ffe := List.replicate 7 0, dfe := 0 }).resetReg .HSI_FREQ h).resetReg .HSI_EYE h

/-- A wake from QUIET: counted, recorded, a warm pass (R175, R176). -/
def State.wakeHost (s : State) (h : Nat) : State :=
  let cold := !(s.hsiOf h).stored
  ((s.count HSI_WAKE.COUNT h).toCdr h (!cold)).logHost h HEvt.WAKE

/-- A lane in QUIET is woken, unless HCKI is missing: then it wakes once the clock returns (Table 6-10). -/
def State.wakeIfQuiet (s : State) (h : Nat) : State :=
  if s.hrx h = HRx.QUIET ∧ !(s.fcm h && !s.hcki h) then s.wakeHost h else s

/-- Transmitter: what WAKING needs (R172): a locked clock, else PENDING. -/
def State.wakeTx (s : State) (h : Nat) : State :=
  if s.htx h ≠ HTx.QUIET then s
  else if s.hsynth h then
    (s.setFld HSI_STATUS.TX_STATE h HTx.WAKING).modHsi h fun x => { x with quietDue := false, wakeDue := false }
  else ((s.setFld HSI_STATUS.TX_STATE h HTx.PENDING).modHsi h fun x =>
    { x with wakeDue := true, quietDue := false, txClockLost := false }).showHostClk (h / 8)

/-- Entry to LOCKED: counted; the equaliser tracks unless RX_FREEZE is 1, wander counts from the delay set; under TX_FOLLOW the
transmitter wakes (R159, R160, R164, R169, R172). -/
def State.lockHost (s : State) (h : Nat) : State :=
  let s := ((s.goHrx h HRx.LOCKED).count HSI_LOCK.COUNT h).modHsi h fun x => { x with
    badFrames := 0, cellsRx := 0, tracked := !s.flag HSI_CTRL.RX_FREEZE h, lockDelay := s.fld HSI_FREQ.FCM_DELAY h, trackAt := s.cycle }
  let s := if s.flag HSI_CTRL.TX_FOLLOW h then s.wakeTx h else s
  s.showPorts

/-- A receiver that can run starts: at `go`, or in QUIET where RX_QUIET has been written 1 in the meantime (R173). -/
def State.startHrx (s : State) (h : Nat) (go : State → State) : State :=
  if (s.hsiOf h).rxQuietDue && s.flag HSI_CTRL.RX_QUIET h then (s.modHsi h fun x => { x with rxQuietDue := false, clockLost := false, stored := false }).goHrx h HRx.QUIET
  else go s

/-- The enable executes at DETECT, or waits in PENDING for its synthesiser (R133, R158). -/
def State.enableHrx (s : State) (h : Nat) : State :=
  if s.hrx h ≠ HRx.DISABLED ∨ !s.hInUse h then s
  else
    let s := (s.setFld HSI_STATUS.LOSS_CAUSE h HLoss.NONE).modHsi h fun x =>
      { x with stored := false, warm := false, clockLost := false }
    if s.hsynth h then (s.setFld HSI_STATUS.RESULT h HRes.OK).startHrx h fun s => s.goHrx h HRx.DETECT
    else (s.goHrx h HRx.PENDING).showHostClk (h / 8)

/-- The receiver is disabled (Table 6-5: cause DISABLED, or REBUILD at quiesce). -/
def State.disableHrx (s : State) (h cause : Nat) : State :=
  let s := if s.hrx h = HRx.LOCKED then s.leaveHost h cause HRx.DISABLED else s.goHrx h HRx.DISABLED
  ((s.dropFraming h).modHsi h fun x => { x with stored := false, warm := false, clockLost := false }).showHostClk (h / 8)

/-- The transmitter comes up: QUIET while TX_QUIET is 1, else ACTIVE; one that was waking wakes. -/
def State.upHtx (s : State) (h : Nat) : State :=
  let x := s.hsiOf h
  let st := if x.wakeDue then HTx.WAKING else if s.flag HSI_CTRL.TX_QUIET h then HTx.QUIET else HTx.ACTIVE
  ((s.setFld HSI_STATUS.TX_STATE h st).modHsi h fun x => { x with wakeDue := false, txClockLost := false }).showHostClk (h / 8)

/-- The transmitter is enabled, waiting for its synthesiser (R171, R172). -/
def State.enableHtx (s : State) (h : Nat) : State :=
  if s.htx h ≠ HTx.DISABLED ∨ !s.hInUse h then s
  else if s.hsynth h then ((s.setFld HSI_STATUS.RESULT h HRes.OK).modHsi h fun x => { x with wakeDue := false }).upHtx h
  else ((s.setFld HSI_STATUS.TX_STATE h HTx.PENDING).modHsi h fun x =>
    { x with wakeDue := false, txClockLost := false, quietDue := false }).showHostClk (h / 8)

/-- The transmitter is disabled; a trim target is then taken at once (R385). -/
def State.disableHtx (s : State) (h : Nat) : State :=
  ((s.setFld HSI_STATUS.TX_STATE h HTx.DISABLED).modHsi h fun x =>
    { x with wakeDue := false, quietDue := false, txClockLost := false, ampNow := x.ampTarget }).showHostClk (h / 8)

/-! ### Clocks (R23, R163, Table 6-4) -/

/-- A clock of host lane `h` is lost: its receiver leaves LOCKED or abandons acquisition with cause CLOCK and waits; its
transmitter is squelched and waits. -/
def State.hostClockLost (s : State) (h : Nat) : State :=
  let s := if s.hrx h = HRx.LOCKED then (s.leaveHost h HLoss.CLOCK HRx.PENDING).hostWaits h
    else if HRx.DETECT ≤ s.hrx h then s.hostWaits h else s
  if s.htx h = HTx.WAKING ∨ s.htx h = HTx.ACTIVE then
    ((s.setFld HSI_STATUS.TX_STATE h HTx.PENDING).modHsi h fun x =>
      { x with wakeDue := decide (s.htx h = HTx.WAKING), txClockLost := true }).showHostClk (h / 8)
  else s

/-- Clocks may have come back: a lane waiting in PENDING goes on once every clock it waits for is there. -/
def State.hostClockBack (s : State) (h : Nat) : State :=
  let x := s.hsiOf h
  let s := if s.hrx h = HRx.PENDING then
      if x.clockLost then (if s.hclocks h then (s.startHrx h fun s => s.toCdr h false).showHostClk (h / 8) else s)
      else if s.hsynth h then
        ((s.setFld HSI_STATUS.RESULT h HRes.OK).startHrx h fun s => s.goHrx h HRx.DETECT).showHostClk (h / 8)
      else s
    else s
  if s.htx h = HTx.PENDING ∧ s.hsynth h then
    (if x.txClockLost then s else s.setFld HSI_STATUS.RESULT h HRes.OK).upHtx h
  else s

/-- The 5 ms limit of an enable of host lane `h` is over (R133): the enables still waiting fail. It does not run while REFCLK
is missing (R289), nor after a clock loss. -/
def State.hostPendingOver (s : State) (h : Nat) : State :=
  let x := s.hsiOf h
  if !s.clocksPresent then s
  else
    let s := if s.hrx h = HRx.PENDING ∧ !x.clockLost then
        (((s.count HSI_TIMEOUT.COUNT h).setFld HSI_STATUS.RESULT h HRes.PLL_TIMEOUT).setFlag HSI_CTRL.RX_EN h false).goHrx h HRx.DISABLED
      else s
    let s := if s.htx h = HTx.PENDING ∧ !x.txClockLost then
        let s := s.setFld HSI_STATUS.RESULT h HRes.PLL_TIMEOUT
        -- a wake that waited fails and leaves the lane quiet; an enable that waited reads 0 again (log entry 31)
        if x.wakeDue then (s.setFld HSI_STATUS.TX_STATE h HTx.QUIET).modHsi h fun x => { x with wakeDue := false }
        else (s.setFlag HSI_CTRL.TX_EN h false).setFld HSI_STATUS.TX_STATE h HTx.DISABLED
      else s
    s.showHostClk (h / 8)

/-! ### Register writes -/

/-- A write to `HSI_CTRL_n` (Tables 6-10 and 6-11). The fields are set; then enables, RELOCK, the quiet bits act, in that
order. A quiet bit acts as it is written, whatever it held (log entry 32). -/
def wrHsiCtrl (h v : Nat) (s : State) : State × WStatus :=
  let rxWas := s.flag HSI_CTRL.RX_EN h
  let txWas := s.flag HSI_CTRL.TX_EN h
  let bit := fun (f : Field) => decide (fieldOf v f = 1)
  let s := plainWrite .HSI_CTRL h v s
  let s := if bit HSI_CTRL.RX_EN then s.enableHrx h else if rxWas then s.disableHrx h HLoss.DISABLED else s
  let s := if bit HSI_CTRL.TX_EN then s.enableHtx h else if txWas then s.disableHtx h else s
  let s := if bit HSI_CTRL.RELOCK then
      if s.hrx h = HRx.LOCKED then (s.leaveHost h HLoss.DISABLED HRx.CDR).toCdr h false
      else if HRx.CDR ≤ s.hrx h then s.toCdr h false
      else s
    else s
  let s := if bit HSI_CTRL.RX_QUIET then
      let s := s.modHsi h fun x => { x with quietAt := some s.cycle }
      if s.hrx h = HRx.LOCKED then s.leaveHost h HLoss.QUIET HRx.QUIET
      else if HRx.DETECT ≤ s.hrx h then
        -- Table 6-10: a warm pass is one of a lane that had been LOCKED
        let s := if HRx.CDR ≤ s.hrx h ∧ (s.hsiOf h).warm then s.setFld HSI_STATUS.LOSS_CAUSE h HLoss.QUIET else s
        s.goHrx h HRx.QUIET
      else if s.hrx h = HRx.QUIET then s
      else s.modHsi h fun x => { x with rxQuietDue := true }
    else (s.modHsi h fun x => { x with rxQuietDue := false }).wakeIfQuiet h
  let s := if bit HSI_CTRL.TX_QUIET then
      if s.htx h = HTx.ACTIVE then s.setFld HSI_STATUS.TX_STATE h HTx.QUIET
      else if s.htx h = HTx.WAKING then s.modHsi h fun x => { x with quietDue := true }
      else if s.htx h = HTx.PENDING ∧ (s.hsiOf h).wakeDue then
        -- a wake that still waits for its clock ends in the state it left
        ((s.setFld HSI_STATUS.TX_STATE h HTx.QUIET).modHsi h fun x => { x with wakeDue := false, txClockLost := false }).showHostClk (h / 8)
      else s
    else (s.modHsi h fun x => { x with quietDue := false }).wakeTx h
  (if s.hrx h = HRx.LOCKED ∧ !bit HSI_CTRL.RX_FREEZE then s.modHsi h fun x => { x with tracked := true } else s, .ok)

/-- The taps of an `HSI_TXEQ_n` value keep within R155 and its AMP within 0–60. -/
def txeqOk (v : Nat) : Bool :=
  let mag := fun (f : Field) => (toSigned 8 (fieldOf v f)).natAbs
  decide (mag HSI_TXEQ.PRE2 + mag HSI_TXEQ.PRE1 + mag HSI_TXEQ.POST1 ≤ 32) && decide (fieldOf v HSI_TXEQ.AMP ≤ 60)

/-- A value of `HSI_TXEQ_n` is taken and waits for the 1,000-cycle boundary (R156). -/
def State.stageTxeq (s : State) (h v : Nat) : State :=
  (s.setReg .HSI_TXEQ h (BitVec.ofNat 512 (v % 2 ^ 32))).modHsi h fun x => { x with txeq := some (v % 2 ^ 32) }

/-- A write to `HSI_TXEQ_n` (R155, R156). -/
def wrHsiTxeq (p : Path) (h v : Nat) (s : State) : State × WStatus :=
  if txeqOk v then ((s.stageTxeq h v).setFld HSI_STATUS.RESULT h HRes.OK, .ok)
  else rejectWrite p .HSI_TXEQ h v (s.setFld HSI_STATUS.RESULT h HRes.RANGE)

/-- The value that CMIS output equalisation codes give, and whether POST1 was reduced (R156). -/
def cmisTxeq (pre post amp : Nat) : Nat × Bool :=
  let pre1 := 2 * pre
  let post1 := 3 * post
  let cut := decide (32 < pre1 + post1)
  let post1 := if cut then 32 - pre1 else post1
  let a := if amp = 0 then 10 else if amp = 1 then 25 else if amp = 2 then 40 else 55
  (a * 2 ^ 24 + ofSigned 8 (-post1) * 2 ^ 16 + ofSigned 8 (-pre1) * 2 ^ 8, cut)

/-- The CMIS codes of lane `h` rewrite `HSI_TXEQ_n`; a reduction is recorded as an HSI_EVENT, whose kind the spec does not
state: a free value (log entry 33). -/
def State.applyCmisEq (s : State) (h : Nat) : State :=
  let c := (s.hsiOf h).eqCodes
  let (v, cut) := cmisTxeq c.1 c.2.1 c.2.2
  let s := s.modHsi h fun x => { x with eqWaits := false }
  if s.rebuilding .HSI_TXEQ h then s.regReject .firmware .HSI_TXEQ h v
  else
  let s := s.stageTxeq h v
  if cut then
    let (k, s) := s.fresh
    s.logHost h (k.toNat % 2 ^ 32)
  else s

/-- Every channel of the lane is disabled in `CIN_CH_CFG_c`. -/
def State.chansOff (s : State) (h : Nat) : Bool := (List.range 8).all fun i => !s.chEn (8 * h + i)

/-- A write to `HSI_PAT_n` (R199). -/
def wrHsiPat (p : Path) (h v : Nat) (s : State) : State × WStatus :=
  let pat := fieldOf v HSI_PAT.PAT
  if 3 < pat ∨ (pat ≠ 0 ∧ s.hsvc h = Svc.CINCH ∧ !s.chansOff h) then
    rejectWrite p .HSI_PAT h v (s.setFld HSI_STATUS.RESULT h HRes.RANGE)
  else ((plainWrite .HSI_PAT h v s).setFld HSI_STATUS.RESULT h HRes.OK, .ok)

/-! ### Relay of transparent service (R178) -/

/-- The serving line lane no longer delivers: its host transmitters send Local Fault. -/
def State.hostRelayStop (s : State) (n : Nat) : State :=
  s.each (s.hostsOf n) fun h s => s.modHsi h fun x => { x with relaying := false, lineUnits := [] }

/-! ### The commands -/

/-- The value that software writes to `HSI_CTRL_n` to set one field. A quiet bit that is kept is written as it stands. -/
def State.hsiCtrlValue (s : State) (h : Nat) (f : Field) (x : Nat) : Nat := withField (s.writeBack .HSI_CTRL h) f x

/-- HSI_RX_ENABLE, R158. -/
def execHsiRxEnable (p : Path) (h : HLane) (s : State) : Res :=
  let v := s.hsiCtrlValue h HSI_CTRL.RX_EN 1
  writeCommand p .HSI_CTRL h v (wrHsiCtrl h v) s

/-- HSI_RX_DISABLE, R162. -/
def execHsiRxDisable (p : Path) (h : HLane) (s : State) : Res :=
  let v := s.hsiCtrlValue h HSI_CTRL.RX_EN 0
  writeCommand p .HSI_CTRL h v (wrHsiCtrl h v) s

/-- HSI_TX_ENABLE, R171. -/
def execHsiTxEnable (p : Path) (h : HLane) (s : State) : Res :=
  let v := s.hsiCtrlValue h HSI_CTRL.TX_EN 1
  writeCommand p .HSI_CTRL h v (wrHsiCtrl h v) s

/-- HSI_TX_DISABLE, R171. -/
def execHsiTxDisable (p : Path) (h : HLane) (s : State) : Res :=
  let v := s.hsiCtrlValue h HSI_CTRL.TX_EN 0
  writeCommand p .HSI_CTRL h v (wrHsiCtrl h v) s

/-- RELOCK, R162. -/
def execRelock (p : Path) (h : HLane) (s : State) : Res :=
  let v := s.hsiCtrlValue h HSI_CTRL.RELOCK 1
  writeCommand p .HSI_CTRL h v (wrHsiCtrl h v) s

/-- RX_QUIET, R173. -/
def execRxQuiet (p : Path) (h : HLane) (s : State) : Res :=
  let v := s.hsiCtrlValue h HSI_CTRL.RX_QUIET 1
  writeCommand p .HSI_CTRL h v (wrHsiCtrl h v) s

/-- RX_QUIET_CLEAR, R175. -/
def execRxQuietClear (p : Path) (h : HLane) (s : State) : Res :=
  let v := s.hsiCtrlValue h HSI_CTRL.RX_QUIET 0
  writeCommand p .HSI_CTRL h v (wrHsiCtrl h v) s

/-- TX_QUIET, R171. -/
def execTxQuiet (p : Path) (h : HLane) (s : State) : Res :=
  let v := s.hsiCtrlValue h HSI_CTRL.TX_QUIET 1
  writeCommand p .HSI_CTRL h v (wrHsiCtrl h v) s

/-- TX_QUIET_CLEAR, R172. -/
def execTxQuietClear (p : Path) (h : HLane) (s : State) : Res :=
  let v := s.hsiCtrlValue h HSI_CTRL.TX_QUIET 0
  writeCommand p .HSI_CTRL h v (wrHsiCtrl h v) s

/-- WAKING_DONE, R172, R195. -/
def execWakingDone (h : HLane) (s : State) : Res :=
  .next (if s.htx h = HTx.WAKING then
    let due := (s.hsiOf h).quietDue
    (s.setFld HSI_STATUS.TX_STATE h (if due then HTx.QUIET else HTx.ACTIVE)).modHsi h fun x => { x with quietDue := false }
  else s)

/-- HSI_TXEQ_WRITE, R156. -/
def execHsiTxeqWrite (p : Path) (h : HLane) (value : Word32) (s : State) : Res :=
  writeCommand p .HSI_TXEQ h value.toNat (wrHsiTxeq p h value.toNat) s

/-- CMIS_OUTPUT_EQ_WRITE, R156, R318: the codes are kept; while the controllers restart they wait; in a group being rebuilt the write
of `HSI_TXEQ_n` is discarded and recorded, as the firmware's (R198). -/
def execCmisOutputEqWrite (h : HLane) (pre post : Fin 8) (amp : Fin 4) (s : State) : Res :=
  let s := s.modHsi h fun x => { x with eqCodes := (pre.val, post.val, amp.val), eqWaits := s.headless }
  .next (if s.headless then s else s.applyCmisEq h)

/-- TXEQ_APPLY, R156, R385: a multiple of 1,000 core cycles. -/
def execTxeqApply (s : State) : Res :=
  .next (s.each hosts32 fun h s => match (s.hsiOf h).txeq with
    | none => s
    | some v =>
      let off := decide (s.htx h = HTx.DISABLED)
      let amp := v / 2 ^ 24
      let s := s.modHsi h fun x => { x with txeq := none, taps := v % 2 ^ 24, ampTarget := amp,
                                            ampNow := if off then amp else x.ampNow }
      if hosts32.any fun k => (s.hsiOf k).ampNow ≠ (s.hsiOf k).ampTarget then
        s.setFld CAL_TRIM_BUSY.BUSY 0 (s.fld CAL_TRIM_BUSY.BUSY 0 ||| 8) else s)

/-- RX_QUIET is written 1 on lane `h` in this core cycle, before or after now (Table 6-10): the commands that wait come in the same
cycle, since a cycle passes only on an empty queue. -/
def State.quietNow (s : State) (h : Nat) : Bool :=
  decide ((s.hsiOf h).quietAt = some s.cycle) || s.pending.any fun
    | .rxQuiet _ k => decide (k.val = h)
    | _ => false

/-- ACTIVITY_DETECT, R174, R175, Table 6-10: the detector asserts; `pattern` says whether the burst carries the wake
pattern. -/
def execActivityDetect (h : HLane) (pattern : Bool) (s : State) : Res :=
  if s.hrx h = HRx.DISABLED ∨ s.hrx h = HRx.PENDING then .next s
  else
    let s := s.setFlag HSI_STATUS.ACT h true
    if s.hrx h = HRx.DETECT then .next (s.toCdr h (s.hsiOf h).stored)
    else if s.hrx h = HRx.QUIET then
      if s.quietNow h then .next s
      else if s.flag HSI_CTRL.WAKE_SEL h then .next (if pattern then s else s.count HSI_ACT_IGN.COUNT h)
      else .next (s.wakeIfQuiet h)
    else .next s

/-- SIGNAL_LOSS, R162: no activity for 1 µs. -/
def execSignalLoss (h : HLane) (s : State) : Res :=
  let s := s.setFlag HSI_STATUS.ACT h false
  .next (if s.hrx h = HRx.LOCKED then s.leaveHost h HLoss.SIGNAL HRx.DETECT else s)

/-- WAKE_PATTERN_DETECT, R175: sixteen periods recognised; it wakes a lane of `WAKE_SEL` = 1. -/
def execWakePatternDetect (h : HLane) (s : State) : Res :=
  .next (if s.flag HSI_CTRL.WAKE_SEL h ∧ !s.quietNow h then s.wakeIfQuiet h else s)

/-- HOST_STAGE_TIMEOUT, R158: CDR, ADAPT and ALIGN time out to DETECT; DETECT goes quiet under RX_AUTO; each is counted. -/
def execHostStageTimeout (h : HLane) (s : State) : Res :=
  let st := s.hrx h
  if st = HRx.CDR ∨ st = HRx.ADAPT ∨ st = HRx.ALIGN then .next ((s.count HSI_TIMEOUT.COUNT h).goHrx h HRx.DETECT)
  else if st = HRx.DETECT ∧ s.flag HSI_CTRL.RX_AUTO h then .next ((s.count HSI_TIMEOUT.COUNT h).goHrx h HRx.QUIET)
  else .next s

/-- Spans of steps at which the sync headers are valid: first step and number of steps. -/
def validSpans (marks : List Bool) : List (Nat × Nat) :=
  (marks.zipIdx.foldl (fun (acc : List (Nat × Nat)) e =>
    if !e.1 then acc
    else match acc with
      | (a, k) :: rest => if a + k = e.2 then (a, k + 1) :: rest else (e.2, 1) :: acc
      | [] => [(e.2, 1)]) []).reverse

/-- The sampling delay that a sweep over steps 0 to 512 sets: the centre of the widest valid span, if it has 16 steps at least (R164).
Which of several spans as wide, and which of the two steps in the middle of an even span, the spec leaves open: free values (log entry
165). -/
def sweepDelay (marks : List Bool) (v : RegVal) : Option Nat :=
  let spans := validSpans (marks.take 513)
  let widest := (spans.map (·.2)).foldl max 0
  let best := spans.filter fun e => decide (e.2 = widest)
  if widest < 16 then none
  else (best[v.toNat / 2 % best.length]?).map fun e => e.1 + (e.2 - 1 + v.toNat % 2) / 2

/-- CDR is passed: a cold ADAPT starts from the mid-range CTLE code (R159). -/
def State.cdrPassed (s : State) (h : Nat) : State :=
  (if (s.hsiOf h).warm then s else s.setFld HSI_EYE.CTLE h 7).goHrx h HRx.ADAPT

/-- CDR_DONE, R164, R176: standard mode: the frequency found, in 0.01 ppm. FCM: a warm pass keeps the stored delay where its check passes;
else the sweep's marks set it, and a sweep that fails is repeated. -/
def execCdrDone (h : HLane) (freq : BitVec 16) (sweep : DelaySweep) (s : State) : Res :=
  if s.hrx h ≠ HRx.CDR then .next s
  else if !s.fcm h then .next ((s.setFld HSI_FREQ.FREQ h freq.toNat).cdrPassed h)
  else if (s.hsiOf h).warm && sweep.checkOk then .next (s.cdrPassed h)
  else
    let (v, s) := s.fresh
    match sweepDelay sweep.marks v with
    | some d => .next ((s.setFld HSI_FREQ.FCM_DELAY h d).cdrPassed h)
    | none => .next s

/-- The sign of a number, as a step. -/
def signOf (x : Int) : Int := if x < 0 then -1 else if 0 < x then 1 else 0

/-- One step of the sign-sign LMS (R159): slicer error, the seven inputs of the FFE, the decision before. -/
def lmsStep (x : HsiX) (e : Int × List Int × Int) : HsiX :=
  { x with ffe := List.zipWith (fun c i => c - signOf e.1 * signOf i) x.ffe e.2.1, dfe := x.dfe + signOf e.1 * signOf e.2.2 }

/-- ADAPT_DONE, R159, R161: CTLE code of the eye-opening search, the adaptation's symbols, the SNR that has held 14 dB; an opaque
transparent lane is LOCKED. -/
def execAdaptDone (h : HLane) (ctle : Fin 15) (eye : EyeReport) (s : State) : Res :=
  if s.hrx h = HRx.ADAPT ∧ 56 ≤ eye.snr.toNat then
    let s := ((s.setFld HSI_EYE.CTLE h ctle.val).setFld HSI_EYE.SNR h eye.snr.toNat).modHsi h fun x => eye.lms.foldl lmsStep x
    .next (if s.flag HSI_CFG.TP_OPAQUE h then s.lockHost h else s.goHrx h HRx.ALIGN)
  else .next s

/-- ALIGNMENT_LOCK, R161. -/
def execAlignmentLock (h : HLane) (s : State) : Res :=
  .next (if s.hrx h = HRx.ALIGN ∧ !s.fcm h then s.lockHost h else s)

/-- ALIGNMENT_LOCK_LOSS, R161, R162, Table 6-12: with the alignment markers in error since the last report. -/
def execAlignmentLockLoss (seen : HostReport Nat) (s : State) : Res :=
  let h := seen.h
  .next (if s.hrx h = HRx.LOCKED ∧ !s.fcm h ∧ !s.flag HSI_CFG.TP_OPAQUE h then
    (s.count HSI_FRAME_ERR.COUNT h seen.seen).leaveHost h HLoss.ALIGN HRx.ALIGN else s)

/-- HOST_CDR_LOSS, R162, R164: standard mode: frequency beyond ±300 ppm. FCM: where the edge monitor sees the best delay, in steps from
the one set at lock; within ±64 it is followed, one step per µs; beyond, the lane leaves LOCKED for a warm CDR pass. -/
def execHostCdrLoss (seen : HostReport Int) (s : State) : Res :=
  let h := seen.h
  let steps := seen.seen
  if s.hrx h ≠ HRx.LOCKED then .next s
  else if s.fcm h && decide (steps.natAbs ≤ 64) then
    let x := s.hsiOf h
    let now : Int := s.fld HSI_FREQ.FCM_DELAY h
    let most : Int := ((s.cycle - x.trackAt) / 782 : Nat)
    let to_ := now + clampInt (-most) most ((x.lockDelay : Int) + steps - now)
    .next ((s.setFld HSI_FREQ.FCM_DELAY h (clampInt 0 512 to_).toNat).modHsi h fun x => { x with trackAt := s.cycle })
  else .next ((s.leaveHost h HLoss.CDR HRx.CDR).toCdr h true)

/-- HCKI_MISSING, R163, Table 6-10: no edge of HCKI_k for 2 ns. -/
def execHckiMissing (k : Fin 4) (s : State) : Res :=
  let s := s.setFlag HSI_CLK.HCKI_PRESENT k false
  let s := s.setFld HSI_CLK.LOSSES k (min 255 (s.fld HSI_CLK.LOSSES k + 1))
  .next (s.each ((List.range 8).map (8 * k.val + ·)) fun h s =>
    if !s.fcm h then s
    else if s.hrx h = HRx.LOCKED then (s.leaveHost h HLoss.CLOCK HRx.PENDING).hostWaits h
    else if s.hrx h = HRx.QUIET then s.modHsi h fun x => { x with clockLost := true }
    else if HRx.DETECT ≤ s.hrx h then s.hostWaits h
    else s)

/-- HCKI_PRESENT, R163, Table 6-10: HCKI_k has run for 100 µs. -/
def execHckiPresent (k : Fin 4) (s : State) : Res :=
  let s := s.setFlag HSI_CLK.HCKI_PRESENT k true
  .next (s.each ((List.range 8).map (8 * k.val + ·)) fun h s =>
    if s.hrx h = HRx.QUIET ∧ s.fcm h ∧ (s.hsiOf h).clockLost then
      (s.modHsi h fun x => { x with stored := false }).wakeHost h
    else if s.hrx h = HRx.PENDING then s.hostClockBack h
    else s)

/-- A signed frequency in 0.01 ppm lies beyond `lim`. -/
def ppmBeyond (lim : Nat) (x : Int) : Bool := decide (lim < x.natAbs)

/-- RATE_MISMATCH, R22: the recovered frequencies of the two transparent host lanes of line lane `n` (lower-numbered first),
and the codewords dropped from the higher-numbered one. The spec does not say to which lane the event and the flag belong: both lanes
show RATE_MISMATCH, and the record names the higher-numbered one, whose codewords are dropped (DESIGN CHOICE, log entry 168). -/
def execRateMismatch (n : Lane) (f₀ f₁ : BitVec 16) (dropped : Nat) (s : State) : Res :=
  match s.hostsOf n with
  | [a, b] =>
    if s.hsvc a ≠ Svc.TRANSPARENT then .next s
    else
      let s := (s.setFld HSI_FREQ.FREQ a f₀.toNat).setFld HSI_FREQ.FREQ b f₁.toNat
      let bad := ppmBeyond 1000 (f₀.toInt - f₁.toInt)
      let was := s.flag HSI_STATUS.RATE_MISMATCH b
      let s := (s.setFlag HSI_STATUS.RATE_MISMATCH a bad).setFlag HSI_STATUS.RATE_MISMATCH b bad
      let s := if bad && !was then s.logHost b HEvt.RATE else s
      .next (if bad then s.count HSI_TP_DROP.COUNT b dropped else s)
  | _ => .next s

/-- RATE_RANGE, R179: the recovered frequency of a transparent host lane, and the units dropped. -/
def execRateRange (h : HLane) (freq : BitVec 16) (dropped : Nat) (s : State) : Res :=
  if s.hsvc h ≠ Svc.TRANSPARENT ∨ s.hrx h ≠ HRx.LOCKED then .next s
  else
    let s := s.setFld HSI_FREQ.FREQ h freq.toNat
    let bad := ppmBeyond 25000 freq.toInt
    let was := s.flag HSI_STATUS.RATE_RANGE h
    let s := s.setFlag HSI_STATUS.RATE_RANGE h bad
    let s := if bad && !was then s.logHost h HEvt.RATE else s
    .next (if bad then s.count HSI_TP_DROP.COUNT h dropped else s)

/-- RECOVERED_RATE_SLEW_DONE, R178: the host transmitters of line lane `n` relay its units, once those arrive (R52). -/
def execRecoveredRateSlewDone (n : Lane) (s : State) : Res :=
  .next (if s.svc n = Svc.TRANSPARENT ∧ s.locked n ∧ (s.ieee n ∨ s.flag LFEC_STATUS.MF_KNOWN n) then
    s.each (s.hostsOf n) fun h s => s.modHsi h fun x => { x with relaying := true } else s)

/-- HSI_PAT_WRITE, R199. -/
def execHsiPatWrite (p : Path) (h : HLane) (pat : Fin 8) (s : State) : Res :=
  writeCommand p .HSI_PAT h pat.val (wrHsiPat p h pat.val) s

end Sys2Proof.Machine
end

