-- ==== Sys2Proof/Machine/Housekeeping.lean ====
section
/-! DEFINITION. The housekeeping converters and calibration records (chapter 13). -/
namespace Sys2Proof.Machine

/-- The channels of the housekeeping ADC and the DACs. -/
def channels40 : List Nat := List.range 40
def dacs32 : List Nat := List.range 32

/-! Who asks for a conversion. -/
abbrev Conv.SCAN : Nat := 0
abbrev Conv.SOFTWARE : Nat := 1
abbrev Conv.READBACK : Nat := 2
abbrev Conv.SELF : Nat := 3

/-- VREF in µV (Table 13-2). -/
def State.vref (s : State) : Nat := if s.flag HKA_CTRL.EXT_REF 0 then Config.extRef else 1500000

/-! ### Streams (R377, R378) -/

/-- The bytes of stream `k`'s buffer. -/
def State.streamBytes (s : State) (k : Nat) : Nat := 2 ^ min (s.fld HKA_STREAM_CFG.SIZE k) 16

/-- A record is written to the buffer of stream `k`: with the buffer full it is dropped or replaces the oldest, and is counted. -/
def State.streamWrite (s : State) (k : Nat) (rec_ : List Byte) : State :=
  let n := s.streamBytes k
  let wr := s.fld HKA_STREAM_WR.WR k
  let rd := s.fld HKA_STREAM_RD.RD k
  let put := fun (s : State) => (s.storeWrite (s.fld HKA_STREAM_BASE.BASE k + wr) rec_).setFld HKA_STREAM_WR.WR k ((wr + 16) % n)
  if (wr + 16) % n = rd then
    let s := s.count HKA_STREAM_LOST.COUNT k
    if s.flag HKA_STREAM_CFG.STOP_FULL k then s else put (s.setFld HKA_STREAM_RD.RD k ((rd + 16) % n))
  else put s

/-- The 16 bytes of a stream record (Table 13-4). -/
def streamBytesOf (code ch flags seq ts : Nat) : List Byte :=
  leBytes 3 code ++ leBytes 1 ch ++ leBytes 1 flags ++ leBytes 1 seq ++ leBytes 2 0 ++ leBytes 8 ts

/-- A result of channel `c` goes to its stream, if that takes results of its kind: written at once where the DMA channel and the
engine are free, else it waits for its burst. -/
def State.toStream (s : State) (c code flags : Nat) (dec : Bool) (ts : Ts96) : State :=
  let k := s.fld HKA_CH_CFG.STREAM c
  if k < 4 ∧ s.flag HKA_STREAM_CFG.EN k ∧ s.flag HKA_STREAM_CFG.SRC_DEC k = dec then
    let r := streamBytesOf code c flags ((s.strmOf k).seq % 256) (ts.toNat % 2 ^ 64)
    let s := s.modStrm k fun x => { x with seq := (x.seq + 1) % 256 }
    let n := s.fld HKA_STREAM_CFG.DMA_CH k
    if s.engine.current.isNone && decide (s.dmaState n = Dma.IDLE) && (s.strmOf k).queue.isEmpty then s.streamWrite k r
    else s.modStrm k fun x => { x with queue := x.queue ++ [r] }
  else s

/-- `DMA_CTRL_n.REQ` follows the streams that are running. -/
def State.showReq (s : State) : State :=
  s.each (List.range 16) fun n s =>
    let k := (List.range 4).find? fun k => s.flag HKA_STREAM_CFG.EN k && decide (s.fld HKA_STREAM_CFG.DMA_CH k = n)
    s.setFld DMA_CTRL.REQ n (match k with
      | some k => k + 1
      | none => 0)

/-- Stream `k` withdraws its request: a burst that has started completes, marked WITHDRAWN (R413). -/
def State.streamWithdraw (s : State) (k : Nat) : State :=
  let n := s.fld HKA_STREAM_CFG.DMA_CH k
  if (s.dmaOf n).stream = some k then
    if s.engine.current = some n then s.modDma n fun x => { x with withdrawn := true }
    else s.dmaIdle n
  else s

/-- Stream `k` stops (R378, R390). -/
def State.streamStop (s : State) (k : Nat) : State :=
  ((s.streamWithdraw k).modStrm k fun x => { x with queue := [] }).setFlag HKA_STREAM_CFG.EN k false |>.showReq

/-- A buffer lies in controller RAM or in the capture store. -/
def streamBaseOk (base size : Nat) : Bool :=
  let n := 2 ^ min size 16
  decide (base % n = 0) && match regionAt base with
    | some m => decide (m = 18 ∨ (10 ≤ m ∧ m < 18))
    | none => false

/-- A write to `HKA_STREAM_s.BASE`: only while the stream is off; a base outside the two stores or not a multiple of the buffer
size is rejected. -/
def wrStreamBase (p : Path) (k v : Nat) (s : State) : State × WStatus :=
  if s.flag HKA_STREAM_CFG.EN k || !streamBaseOk v (s.fld HKA_STREAM_CFG.SIZE k) then rejectWrite p .HKA_STREAM_BASE k v s
  else (plainWrite .HKA_STREAM_BASE k v s, .ok)

/-- A write to `HKA_STREAM_s.CFG`. -/
def wrStreamCfg (p : Path) (k v : Nat) (s : State) : State × WStatus :=
  let size := fieldOf v HKA_STREAM_CFG.SIZE
  let en := fieldOf v HKA_STREAM_CFG.EN = 1
  let was := s.flag HKA_STREAM_CFG.EN k
  if size < 8 ∨ 16 < size ∨ (was ∧ en ∧ size ≠ s.fld HKA_STREAM_CFG.SIZE k) ∨
      (en ∧ ¬was ∧ streamBaseOk (s.fld HKA_STREAM_BASE.BASE k) size = false) then
    rejectWrite p .HKA_STREAM_CFG k v s
  else
    let s := if was && !decide en then s.streamStop k else s
    ((plainWrite .HKA_STREAM_CFG k v s).showReq, .ok)

/-! ### Windows and codes (R370 to R373) -/

/-- The engine cycle of this core cycle: 25.6 ns (R371). -/
def State.engineCycle (s : State) : Nat := s.cycle / 20

/-- Sums of `n` neighbours. -/
def movingSum (n : Nat) (xs : List Int) : List Int := (List.range (xs.length + 1 - n)).map fun i => ((xs.drop i).take n).sum

/-- The sinc^k average of an input over k windows: k moving averages over one window in turn; as a sum and what it is divided by. -/
def sincMean (k : Nat) (xs : List Int) : Int × Nat :=
  let n := (xs.length - 1) / k + 1
  ((((List.range k).foldl (fun ys _ => movingSum n ys) xs).headD 0), n ^ k)

/-- The divider in front of the ADC: of the supply rails, and of a DAC at ×2 gain (Table 13-1, R383). -/
def State.divider (s : State) (ch src : Nat) : Nat :=
  if (33 ≤ ch ∧ ch ≤ 36) ∨ (ch < 32 ∧ src = 2 ∧ (s.dacOf ch).gain = true) then 2 else 1

/-- The window of a channel in units of 0.1 ns: `NPER` periods, in low-power mode at least 400 µs in whole periods (R371, R373). -/
def State.window (s : State) (ch : Nat) (lp : Bool) : Nat :=
  let t := max 1 (s.fld HKA_TIMING.T_INT 0)
  let n := s.fld HKA_CH_CFG.NPER ch
  t * (if lp ∧ n * t < 4000000 then (4000000 + t - 1) / t else n)

/-- The core cycle that ends a conversion started now: settling of 4 µs, then `order` + 1 windows, at the nearest engine cycle (R371,
R372). -/
def State.convDue (s : State) (ch order : Nat) (lp : Bool) : Nat :=
  let exact := s.cycle * 1280 + 4000000 + (order + 1) * s.window ch lp * 100
  20 * ((exact + 12800) / 25600)

/-! ### Conversions (R370 to R376) -/

/-- Low-power mode is in force (R373). -/
def State.hkaLp (s : State) : Bool :=
  s.flag HKA_CTRL.LP 0 || (s.flag HKA_CTRL.LP_STBY 0 && decide (s.fld PWR_STATE.STATE 0 = 1))

/-- The next channel of the scan list at or after the scan's place. -/
def State.scanPick (s : State) : Option Nat :=
  let cs := channels40.filter fun c => s.flag HKA_CH_CFG.SCAN c
  match cs.find? fun c => decide (s.hka.scanAt ≤ c) with
  | some c => some c
  | none => cs.head?

/-- A free ADC starts its next conversion: an urgent request, else the scan while `EN` is 1. -/
def State.hkaStart (s : State) : State :=
  if s.hka.conv.isSome || s.partFailed 11 then s
  else match s.hka.urgent with
    | u :: us => s.modHka fun x => { x with urgent := us, conv := some { u with lp := s.hkaLp, due := s.convDue u.ch u.order s.hkaLp } }
    | [] =>
      if s.flag HKA_CTRL.EN 0 then
        match s.scanPick with
        | some c => s.modHka fun x => { x with
            scanAt := c + 1
            conv := some { ch := c, src := s.fld HKA_CH_CFG.SRC c, order := s.fld HKA_CH_CFG.ORDER c, kind := Conv.SCAN, lp := s.hkaLp
                           due := s.convDue c (s.fld HKA_CH_CFG.ORDER c) s.hkaLp } }
        | none => s
      else s

/-- An urgent request: queued while fewer than four wait; with DROP a scan conversion in progress is abandoned and counted, to
be converted afresh. A software request finding four is refused BUSY, a device request is counted and retried (R375, R376). -/
def State.urgentRequest (s : State) (u : ConvX) : State :=
  if 4 ≤ s.hka.urgent.length then
    if u.kind = Conv.SOFTWARE then s.setFld HKA_URGENT.RESULT 0 1
    else (s.count HKA_URG_DROP.COUNT 0).modHka fun x => { x with retry := x.retry ++ [u] }
  else
    let s := s.modHka fun x => { x with urgent := x.urgent ++ [u] }
    let s := if u.kind = Conv.SOFTWARE then (s.setFld HKA_URGENT.RESULT 0 0).setFlag HKA_URGENT.BUSY 0 true else s
    let s := match s.hka.conv with
      | some c => if c.kind = Conv.SCAN ∧ s.flag HKA_CTRL.URG_POL 0 then
          (s.count HKA_URG_DROP.COUNT 0).modHka fun x => { x with conv := none, scanAt := c.ch } else s
      | none => s
    s.hkaStart

/-- The correction of the self-calibration in force, rounded to nearest, then saturation to 24 bits with OVR (R370). -/
def HkaX.correct (x : HkaX) (raw : Int) : Int × Bool :=
  let y := ((raw - x.offset) * (2 ^ 24 + x.gain) + 2 ^ 23) / 2 ^ 24
  (clampInt (-(2 ^ 23)) (2 ^ 23 - 1) y, decide (y < -(2 ^ 23) ∨ 2 ^ 23 - 1 < y))

/-- What the ADC makes of an input (nV at the source) over the windows of a conversion: the code round(2^23 × V ÷ VREF) before correction,
the corrected code and OVR; below −0.05 × VREF and from VREF on it saturates (R370). -/
def State.convert (s : State) (c : ConvX) (input : List Int) : Int × Int × Bool :=
  let (sum, n) := sincMean (c.order + 1) input
  let den : Int := ((n * s.divider c.ch c.src * s.vref * 1000 : Nat) : Int)
  let raw := (2 * 2 ^ 23 * sum + den) / (2 * den)
  if 20 * sum < -den then (raw, -(2 ^ 23), true)
  else if den ≤ sum then (raw, 2 ^ 23 - 1, true)
  else
    let (code, ovr) := s.hka.correct raw
    (raw, code, ovr)

/-- A value as a 24-bit code. -/
def code24 (x : Int) : Nat := (BitVec.ofInt 24 x).toNat

/-- FLAGS of a stream record. -/
def State.streamFlags (s : State) (ovr urg lp dec part supply : Bool) : Nat :=
  s.quality + (if ovr then 4 else 0) + (if urg then 8 else 0) + (if lp then 16 else 0) + (if dec then 32 else 0) +
    (if part then 64 else 0) + (if supply then 128 else 0)

/-! ### Self-calibration (R387) -/

/-- The code of 1.200 V times 10. -/
def State.bandgapCode10 (s : State) : Int := (2 ^ 23 * 12000000 : Int) / (s.vref : Int)

/-- A trim that a calibration finds: the spec gives no value (log entry 178). -/
def State.freshTrim (s : State) : Int × State :=
  let (v, s) := s.fresh
  (toSigned 32 (v.toNat % 2 ^ 32), s)

/-- A self-calibration sets the targets of the ADC reference and the bandgap trims (Table 13-6). -/
def State.refTrims (s : State) : State :=
  let (r, s) := s.freshTrim
  let (b, s) := s.freshTrim
  (s.modHka fun x => { x with refTo := (r, b) }).showHkaTrims

/-- The DAC bank calibration: each DAC's offset trim is set; the record's value is the largest (Tables 13-6, 13-7). -/
def State.dacCalibrate (s : State) : State :=
  let s := s.each dacs32 fun n s =>
    let (t, s) := s.freshTrim
    s.modDac n fun x => { x with trimTo := t }
  s.showHkaTrims.calRun 49 Cal.OK (dacs32.foldl (fun a n => max a (s.dacOf n).trimTo.natAbs) 0)

/-- The run ends: the offset makes channel 39 read 0, the gain channel 32 read 1.200 V; beyond ±1 % the run fails and the
previous correction stays. -/
def State.selfCalEnd (s : State) (ground band : Int) : State :=
  let d := band - ground
  if d ≤ 0 then s.calRun 48 Cal.FAIL 0
  else
    let g := (s.bandgapCode10 * 2 ^ 24) / (10 * d) - 2 ^ 24
    if 167772 < g.natAbs then s.calRun 48 Cal.FAIL (BitVec.ofInt 32 g).toNat
    else (s.modHka fun x => { x with offset := ground, gain := g }).refTrims.calRun 48 Cal.OK (BitVec.ofInt 32 g).toNat

/-- A run of the self-calibration is due (period, power-up, or 5 °C on channel 37): channel 39 at order 1, then channel 32 at
order 4, as urgent requests; while the controllers restart it is skipped. -/
def State.selfCalibrate (s : State) : State :=
  if s.headless then s.calRun 48 Cal.SKIPPED (s.fld CAL_VALUE.VALUE 48)
  else
    let s := if s.flag HKA_RESULT.VALID 37 then s.modHka fun x => { x with cal37 := some (s.fld HKA_RESULT.CODE 37) } else s
    let s := s.urgentRequest { ch := 39, src := 0, order := 0, kind := Conv.SELF }
    s.urgentRequest { ch := 32, src := 0, order := 3, kind := Conv.SELF }

/-- Channel 37 has moved 5 °C, 9 mV of its diode, since the last run (Table 13-1, R387). -/
def State.calMoved (s : State) : Bool :=
  match s.hka.cal37 with
  | some c =>
    let d := (BitVec.ofNat 24 (s.fld HKA_RESULT.CODE 37)).toInt - (BitVec.ofNat 24 c).toInt
    decide (9000 * 2 ^ 23 ≤ d.natAbs * s.vref)
  | none => false

/-- SELF_CALIBRATION, R387. -/
def execSelfCalibration (s : State) : Res := .next s.selfCalibrate

/-! ### DACs (R381 to R384) -/

/-- Record HKA_DAC. -/
def State.logDac (s : State) (n kind measured : Nat) : State :=
  s.log Evt.HKA_DAC Subj.DAC n [kind, s.fld HKA_DAC_CODE.NOW n, measured]

/-- The code, gain and enable that DAC `n` takes: as staged; at a timer those that preceded a write of the same engine cycle (R382). -/
def State.dacStaged (s : State) (n : Nat) (timed : Bool) : Nat × Bool × Bool :=
  let now := (s.fld HKA_DAC_CODE.CODE n, s.flag HKA_DAC_CFG.GAIN n, s.flag HKA_DAC_CFG.EN n)
  match (s.dacOf n).before with
  | some (e, v) => if timed ∧ e = s.engineCycle then v else now
  | none => now

/-- A write to DAC `n` comes: what it replaces is kept for the rest of the engine cycle. -/
def State.dacKeep (s : State) (n : Nat) : State :=
  let v := s.dacStaged n true
  s.modDac n fun x => { x with before := some (s.engineCycle, v) }

/-- DAC `n` takes its code and gain, unless a fault holds it; a read-back falls due. Answers whether it has updated. -/
def State.dacUpdate (s : State) (n : Nat) (timed : Bool) : State × Bool :=
  let x := s.dacOf n
  if s.partFailed 11 then (s, false)
  else if x.held && s.flag HKA_DAC_CFG.HOLD_ON_FAULT n then (s, false)
  else
    let (code, gain, on) := s.dacStaged n timed
    let s := s.setFld HKA_DAC_CODE.NOW n code
    (s.modDac n fun x => { x with
      gain := gain, on := on, gen := x.gen + 1
      rbDue := s.flag HKA_DAC_CFG.RB_EN n, rbAt := s.cycle + cyclesOfUs (s.fld HKA_RB_CFG.RB_DELAY 0) }, true)

/-- A read-back of DAC `n` is requested (R383). -/
def State.readBack (s : State) (n : Nat) : State :=
  s.urgentRequest { ch := n, src := 2, order := 0, kind := Conv.READBACK, gen := (s.dacOf n).gen }

/-- The measured voltage lies within the expected one ± (0.5 % of it + `RB_TOL`); both in µV times 2^23. -/
def State.rbPasses (s : State) (n : Nat) (code : Int) : Bool :=
  let x := s.dacOf n
  let g : Int := if x.gain then 2 else 1
  let m : Int := code * s.vref * g
  let e : Int := if x.on then (s.fld HKA_DAC_CODE.NOW n : Int) * 800000 * 128 * g else 0
  decide (((m - e).natAbs : Int) * 200 ≤ e + (s.fld HKA_DAC_CFG.RB_TOL n : Int) * 1000 * 200 * 2 ^ 23)

/-- A read-back of DAC `n` ends; one overtaken by a newer update is abandoned. -/
def State.rbEnd (s : State) (n gen : Nat) (code : Int) : State :=
  if (s.dacOf n).gen ≠ gen then s
  else if s.rbPasses n code then s.modDac n fun x => { x with fails := 0, held := false }
  else
    let s := (s.count HKA_RB_FAIL.COUNT 0).modDac n fun x => { x with fails := x.fails + 1 }
    let s := s.logDac n 1 (code24 code)
    if 2 ≤ (s.dacOf n).fails then
      let f := s.fld HKA_DAC_FAULT.FAULT 0
      let s := (s.raise HKA_DAC_FAULT.FAULT 0 (2 ^ n)).modDac n fun x => { x with held := true }
      if f.testBit n then s else s.logDac n 2 (code24 code)
    else s

/-! ### CMIS monitor values (R388) -/

/-- A monitor value from a signed code of channel `c`. -/
def State.monOf (s : State) (c : Nat) (x : Int) : Nat :=
  let off := (BitVec.ofNat 16 (s.fld HKA_CH_CAL.OFF c)).toInt
  (clampInt 0 65535 (x * (s.fld HKA_CH_CAL.GAIN c : Int) / 2 ^ 23 + off)).toNat

/-- The monitor value of channel `c`: its decimated output while `DEC_EN` is 1, else its latest result, but for one with SUPPLY (Table
13-8); 0 for no channel. -/
def State.monValue (s : State) (c : Nat) : Nat :=
  if 32 ≤ c then 0
  else
    let code := if s.flag HKA_CH_CFG.DEC_EN c then s.fld HKA_DEC_OUT.OUT c
      else if s.flag HKA_RESULT.SUPPLY c then Tab.get (fun _ => 0) s.hka.good c else s.fld HKA_RESULT.CODE c
    s.monOf c (BitVec.ofNat 24 code).toInt

/-- A pair (y, RX power) of an ADC conversion of TSK_PD_k (R389). -/
def State.tskPair (s : State) (k : Nat) : State :=
  let pair := (s.fld TSK_VALUE.Y k, s.monValue k)
  s.modHka fun x => { x with pairs := Tab.insert natLt k ((pair :: Tab.get (fun _ => []) x.pairs k).take 64) x.pairs }

/-! ### The commands -/

/-- The urgent result of a conversion. -/
def State.urgentEnd (s : State) (c : ConvX) (raw : Int) (code : Int) (ovr : Bool) : State :=
  let s := s.setReg .HKA_URGENT_RES 0 (BitVec.ofNat 512 (2 ^ 31 + (if ovr then 2 ^ 30 else 0) + c.ch * 2 ^ 24 + code24 code))
  if c.kind = Conv.SOFTWARE then
    s.setFlag HKA_URGENT.BUSY 0 (s.hka.urgent.any fun u => decide (u.kind = Conv.SOFTWARE))
  else if c.kind = Conv.READBACK then s.rbEnd c.ch c.gen code
  else if c.ch = 39 then s.modHka fun x => { x with ground := raw }
  else s.selfCalEnd s.hka.ground raw

/-- The result of channel `c` is about to be written: the decimation engine takes the former one in this engine cycle (R380), and monitors
go on with the last one without SUPPLY. -/
def State.keepResult (s : State) (c : Nat) (supply : Bool) : State :=
  let old := (s.reg .HKA_RESULT c).toNat % 2 ^ 32
  let s := s.modHka fun x => { x with last := some (s.engineCycle, c, old) }
  if supply ∧ !s.flag HKA_RESULT.SUPPLY c then
    s.modHka fun x => { x with good := Tab.set natLt (fun _ => 0) x.good c (s.fld HKA_RESULT.CODE c) }
  else s

/-- CONVERSION_END, R374: the last window of the conversion in progress ends; `input` is the voltage at its source over the windows, in
nV at equal steps. -/
def execConversionEnd (input : List Int) (s : State) : Res :=
  match s.hka.conv with
  | none => .next s
  | some c =>
    if s.cycle < c.due then .next s else
    let (raw, code, ovr) := s.convert c input
    let s := s.modHka fun x => { x with conv := none }
    let urg := decide (c.kind ≠ Conv.SCAN)
    let s := if urg then s.urgentEnd c raw code ovr
      else
        let v := 2 ^ 31 + (if ovr then 2 ^ 30 else 0) + (if c.supply then 2 ^ 29 else 0) + code24 code
        let s := (s.keepResult c.ch c.supply).setReg .HKA_RESULT c.ch (BitVec.ofNat 512 v)
        let s := (s.setFld HKA_RESULT_TS.Q c.ch s.quality).setFld HKA_RESULT_TS.TS c.ch (s.now.toNat % 2 ^ 62)
        let s := if c.src = 1 ∧ c.ch < 32 ∧ ¬c.supply then s.tskPair c.ch else s
        if c.ch = 37 ∧ s.calMoved then s.selfCalibrate else s
    let s := s.toStream c.ch (code24 code) (s.streamFlags ovr urg c.lp false false c.supply) false s.now
    let s := if s.hka.urgent.isEmpty then
        let again := s.hka.retry
        again.foldl (fun s u => s.urgentRequest u) (s.modHka fun x => { x with retry := [] })
      else s
    .next s.hkaStart

/-- A write to `HKA_URGENT`: a channel beyond 39 or source 0b11 is rejected. -/
def wrHkaUrgent (p : Path) (v : Nat) (s : State) : State × WStatus :=
  let ch := fieldOf v HKA_URGENT.CH
  if 39 < ch ∨ fieldOf v HKA_URGENT.SRC = 3 then rejectWrite p .HKA_URGENT 0 v s
  else
    let s := plainWrite .HKA_URGENT 0 v s
    (if fieldOf v HKA_URGENT.GO = 1 then
      s.urgentRequest { ch := ch, src := fieldOf v HKA_URGENT.SRC, order := fieldOf v HKA_URGENT.ORDER, kind := Conv.SOFTWARE }
    else s, .ok)

/-- HKA_URGENT_GO, R375. -/
def execHkaUrgentGo (p : Path) (ch : Fin 64) (src order : Fin 4) (s : State) : Res :=
  let v := 2 ^ 31 + ch.val * 2 ^ 22 + src.val * 2 ^ 20 + order.val * 2 ^ 18
  writeCommand p .HKA_URGENT 0 v (wrHkaUrgent p v) s

/-- The visit of the decimation engine to channel `c` (R379, R380). The quotient is rounded to nearest, halves up. -/
def State.decimate (s : State) (c : Nat) : State :=
  if !s.flag HKA_CH_CFG.DEC_EN c then s
  else
    let x := s.decOf c
    let x := if x.restart then { x with prev := x.acc, ticks := 0, valid := true, restart := false } else x
    let held := match s.hka.last with
      | some (e, k, old) => if e = s.engineCycle ∧ k = c then old else (s.reg .HKA_RESULT c).toNat
      | none => (s.reg .HKA_RESULT c).toNat
    let v := (BitVec.ofNat 24 (fieldOf held HKA_RESULT.CODE)).toInt
    let ok := decide (fieldOf held HKA_RESULT.VALID = 1) && decide (fieldOf held HKA_RESULT.SUPPLY = 0)
    let x := { x with acc := x.acc + BitVec.ofInt 36 v, ticks := x.ticks + 1, valid := x.valid && ok }
    let m := 2 ^ min (s.fld HKA_DEC_CFG.M_LOG2 0) 11
    if x.ticks < m then s.modDec c fun _ => x
    else
      let out := ((x.acc - x.prev).toInt + (m / 2 : Nat)) / (m : Int)
      let s := s.modDec c fun _ => { x with prev := x.acc, ticks := 0, valid := true }
      let s := (s.setFlag HKA_DEC_OUT.VALID c x.valid).setFld HKA_DEC_OUT.OUT c (code24 out)
      let ts := ts96Of (s.now16 + c * 256 * 65536 / 10)
      s.toStream c (code24 out) (s.streamFlags false false false true (!x.valid) false) true ts

/-- DECIMATION_TICK, R379. -/
def execDecimationTick (s : State) : Res :=
  .next (if s.partFailed 11 then s else s.each channels40 fun c s => s.decimate c)

/-- A write to `HKA_DAC_CODE_n`. -/
def wrDacCode (n v : Nat) (s : State) : State × WStatus :=
  let s := (s.dacKeep n).setFld HKA_DAC_CODE.CODE n (fieldOf v HKA_DAC_CODE.CODE)
  (if s.fld HKA_DAC_CFG.TRIG n = 0 then (s.dacUpdate n false).1 else s, .ok)

/-- A write to `HKA_DAC_CFG_n`: with TRIG IMMEDIATE the gain and the enable reach the output at once. -/
def wrDacCfg (n v : Nat) (s : State) : State × WStatus :=
  let s := plainWrite .HKA_DAC_CFG n v (s.dacKeep n)
  let s := s.modDac n fun x => { x with on := x.on && s.flag HKA_DAC_CFG.EN n }
  (if s.fld HKA_DAC_CFG.TRIG n = 0 then (s.dacUpdate n false).1 else s, .ok)

/-- DAC_CODE_WRITE, R382. -/
def execDacCodeWrite (p : Path) (n : Fin 32) (code : BitVec 16) (s : State) : Res :=
  writeCommand p .HKA_DAC_CODE n code.toNat (wrDacCode n code.toNat) s

/-- DAC_TIMER_FIRE, R382: timer `t` (1 to 3) fires. -/
def execDacTimerFire (t : Fin 3) (s : State) : Res :=
  if !s.flag HKA_DAC_TIMER.EN t then .next s
  else
    let s := if s.flag HKA_DAC_TIMER.ONESHOT t then s.setFlag HKA_DAC_TIMER.EN t false else s
    .next (s.each dacs32 fun n s =>
      if s.fld HKA_DAC_CFG.TRIG n = t.val + 1 then
        let (s', did) := s.dacUpdate n true
        if did then s'.logDac n 0 0 else s'
      else s)

/-- READBACK_REQUEST, R383: `RB_DELAY` after an update. -/
def execReadbackRequest (n : Fin 32) (s : State) : Res :=
  if (s.dacOf n).rbDue ∧ (s.dacOf n).rbAt ≤ s.cycle then .next ((s.modDac n fun x => { x with rbDue := false }).readBack n) else .next s

/-- READBACK_PERIOD, R383: the next DAC with `RB_EN`, in turn. -/
def execReadbackPeriod (s : State) : Res :=
  if s.fld HKA_RB_CFG.RB_PERIOD 0 = 0 then .next s
  else
    let order := (List.range 32).map fun i => (s.hka.rbLast + 1 + i) % 32
    match order.find? fun n => s.flag HKA_DAC_CFG.RB_EN n with
    | some n => .next ((s.modHka fun x => { x with rbLast := n }).readBack n)
    | none => .next s

/-- A write to `HKA_DAC_FAULT`: a cleared fault releases a held DAC; one set in the same core cycle stays (R9). -/
def wrDacFault (v : Nat) (s : State) : State × WStatus :=
  let v := s.clearable .HKA_DAC_FAULT 0 v
  let s := plainWrite .HKA_DAC_FAULT 0 v s
  (s.each (dacs32.filter fun n => v.testBit n) fun n s => s.modDac n fun x => { x with held := false, fails := 0 }, .ok)

/-- DAC_FAULT_CLEAR, R383. -/
def execDacFaultClear (p : Path) (mask : Word32) (s : State) : Res :=
  writeCommand p .HKA_DAC_FAULT 0 mask.toNat (wrDacFault mask.toNat) s

/-- The pairs of an input span less than a factor of 1.259 in y (R389). -/
def narrowSpan (pairs : List (Nat × Nat)) : Bool :=
  let ys := pairs.map (·.1)
  decide (ys.foldl max 0 * 1000 < 1259 * ys.foldl min 4095)

/-- The fit of input `k`. -/
def State.tskFit (s : State) (k : Nat) : State :=
  let pairs := Tab.get (fun _ => []) s.hka.pairs k
  if pairs.isEmpty then s
  else
    let b := s.fld CAL_TSK.B k
    let (a, b) := if narrowSpan pairs then (Config.tskFitA pairs b, b) else Config.tskFit pairs
    ((s.setFld CAL_TSK.A k a).setFld CAL_TSK.B k b).calRun (16 + k) Cal.OK (a % 2 ^ 32)

/-- TSK_FIT, R389: every second, for each channel whose source is TSK_PD; while the controllers restart it is skipped. -/
def execTskFit (s : State) : Res :=
  .next (s.each ((List.range 32).filter fun k => decide (s.fld HKA_CH_CFG.SRC k = 1)) fun k s =>
    if s.headless then s.calRun (16 + k) Cal.SKIPPED (s.fld CAL_VALUE.VALUE (16 + k)) else s.tskFit k)

/-- STREAM_BURST_REQUEST, R413: stream `k` requests one burst on its bound channel for the record that waits. -/
def execStreamBurstRequest (k : Fin 4) (s : State) : Res :=
  let n := s.fld HKA_STREAM_CFG.DMA_CH k
  match (s.strmOf k).queue with
  | r :: rs =>
    if s.flag HKA_STREAM_CFG.EN k && decide (s.dmaState n = Dma.IDLE) then
      let s := (s.modStrm k fun x => { x with queue := rs }).modDma n fun _ => { stream := some k.val, record := r }
      .next (s.goDma n Dma.RUN).dmaGrant
    else .next s
  | [] => .next s

/-- STREAM_WITHDRAW, R413. -/
def execStreamWithdraw (k : Fin 4) (s : State) : Res := .next (s.streamWithdraw k)

/-! ### Other registers -/

/-- A write to `HKA_CTRL`. -/
def wrHkaCtrl (p : Path) (v : Nat) (s : State) : State × WStatus :=
  if fieldOf v HKA_CTRL.SELF_PERIOD = 0 then rejectWrite p .HKA_CTRL 0 v s
  else ((plainWrite .HKA_CTRL 0 v s).hkaStart, .ok)

/-- Windows beyond 200 ms are not allowed (R371). -/
def windowOk (tInt nper : Nat) : Bool := decide (tInt * nper ≤ 2000000000)

/-- A write to `HKA_TIMING`. -/
def wrHkaTiming (p : Path) (v : Nat) (s : State) : State × WStatus :=
  let t := fieldOf v HKA_TIMING.T_INT
  if t < 100000 ∨ 200000000 < t ∨ channels40.any (fun c => !windowOk t (s.fld HKA_CH_CFG.NPER c)) then rejectWrite p .HKA_TIMING 0 v s
  else (plainWrite .HKA_TIMING 0 v s, .ok)

/-- A write to `HKA_CH_CFG_c`: source 0b11 leaves that field as it is and rejects it; the source is reserved for internal
channels. -/
def wrHkaChCfg (p : Path) (c v : Nat) (s : State) : State × WStatus :=
  let src := fieldOf v HKA_CH_CFG.SRC
  let old := s.fld HKA_CH_CFG.SRC c
  let nper := fieldOf v HKA_CH_CFG.NPER
  let st := fieldOf v HKA_CH_CFG.STREAM
  if nper = 0 ∨ (4 ≤ st ∧ st ≠ 15) ∨ windowOk (s.fld HKA_TIMING.T_INT 0) nper = false then rejectWrite p .HKA_CH_CFG c v s
  else
    let v' := if 32 ≤ c then withField v HKA_CH_CFG.SRC 0 else if src = 3 then withField v HKA_CH_CFG.SRC old else v
    let changed := decide (fieldOf v HKA_CH_CFG.DEC_EN ≠ s.fld HKA_CH_CFG.DEC_EN c)
    let s := plainWrite .HKA_CH_CFG c v' s
    let s := if changed then s.modDec c fun x => { x with restart := true } else s
    let s := s.hkaStart
    if src = 3 ∧ c < 32 then rejectWrite p .HKA_CH_CFG c v s else (s, .ok)

/-- A write to `HKA_DEC_CFG`. -/
def wrHkaDecCfg (p : Path) (v : Nat) (s : State) : State × WStatus :=
  if 11 < fieldOf v HKA_DEC_CFG.M_LOG2 ∨ fieldOf v HKA_DEC_CFG.TICK = 0 then rejectWrite p .HKA_DEC_CFG 0 v s
  else
    let old := (s.reg .HKA_DEC_CFG 0).toNat
    let s := plainWrite .HKA_DEC_CFG 0 v s
    (if (s.reg .HKA_DEC_CFG 0).toNat = old then s else s.each channels40 fun c s => s.modDec c fun x => { x with restart := true }, .ok)

/-- A channel code of a monitor: 0 to 31, or 0x3F for none. -/
def monCodeOk (x : Nat) : Bool := decide (x < 32 ∨ x = 63)

/-- A write to `HKA_MON_n`. -/
def wrHkaMon (p : Path) (n v : Nat) (s : State) : State × WStatus :=
  if [HKA_MON.TXBIAS, HKA_MON.TXPWR, HKA_MON.RXPWR].all fun f => monCodeOk (fieldOf v f) then (plainWrite .HKA_MON n v s, .ok)
  else rejectWrite p .HKA_MON n v s

/-- A write to `HKA_MON_VCC`. -/
def wrHkaMonVcc (p : Path) (v : Nat) (s : State) : State × WStatus :=
  if monCodeOk (fieldOf v HKA_MON_VCC.CH) then (plainWrite .HKA_MON_VCC 0 v s, .ok) else rejectWrite p .HKA_MON_VCC 0 v s

/-- A write to `HKA_DAC_TIMER_t`. -/
def wrDacTimer (p : Path) (t v : Nat) (s : State) : State × WStatus :=
  if fieldOf v HKA_DAC_TIMER.PERIOD = 0 then rejectWrite p .HKA_DAC_TIMER t v s else (plainWrite .HKA_DAC_TIMER t v s, .ok)

/-- A write to `HKA_RB_CFG`. -/
def wrRbCfg (p : Path) (v : Nat) (s : State) : State × WStatus :=
  if fieldOf v HKA_RB_CFG.RB_DELAY < 10 then rejectWrite p .HKA_RB_CFG 0 v s else (plainWrite .HKA_RB_CFG 0 v s, .ok)

end Sys2Proof.Machine
end

