-- ==== Sys2Proof/Machine/HostData.lean ====
section
/-! DEFINITION. What host lanes and ports carry, chapter 6: 66-bit blocks, FCM frames and their scrambler, deskew and dealing, elastic
buffers, granules of terminated Ethernet, units of transparent service, Cinch cells, and the commands that bring them. -/
namespace Sys2Proof.Machine

/-! ### Blocks (R165, R167, log entry 166) -/

/-- Control blocks that the rules name: idles, error characters, Local and Remote Fault ordered sets. -/
def idleBlk : Blk := (2, 0x1E)
def errorBlk : Blk := (2, BitVec.ofNat 64 (0x1E + ((List.range 8).map fun i => 0x1E * 2 ^ (8 + 7 * i)).sum))
def localFault : Blk := (2, 0x0100004B)
def remoteFault : Blk := (2, 0x0200004B)

/-- Type field of a control block; 0 for a data block. -/
def blkType (b : Blk) : Nat := if b.1 = 2 then (b.2.extractLsb' 0 8).toNat else 0

/-- A frame starts in the block. -/
def startsFrame (b : Blk) : Bool := [0x33, 0x66, 0x78].contains (blkType b)

/-- No frame goes on after the block: idles, ordered sets, the blocks that end a frame. -/
def endsFrame (b : Blk) : Bool := [0x1E, 0x4B, 0x55, 0x2D, 0x87, 0x99, 0xAA, 0xB4, 0xCC, 0xD2, 0xE1, 0xFF].contains (blkType b)

/-- The payload bits of a block in the order they are sent, and the payload that bits make. -/
def blkBits (b : Blk) : List Bool := (List.range 64).map fun i => b.2.getLsbD i
def bitsLe (bs : List Bool) : Nat := bs.foldr (fun b a => 2 * a + (if b then 1 else 0)) 0

/-- The self-synchronising scrambler x^58 + x^39 + 1 of Clause 82 over bits, and its inverse: the register after them and what comes
out (R167). -/
def scramble58 (st : BitVec 58) (bs : List Bool) : BitVec 58 × List Bool :=
  let r := bs.foldl (fun (a : BitVec 58 × List Bool) b =>
    let o := b != (a.1.getLsbD 38 != a.1.getLsbD 57)
    ((a.1 <<< 1) ||| (if o then 1 else 0), o :: a.2)) (st, [])
  (r.1, r.2.reverse)
def descramble58 (st : BitVec 58) (bs : List Bool) : BitVec 58 × List Bool :=
  let r := bs.foldl (fun (a : BitVec 58 × List Bool) b =>
    ((a.1 <<< 1) ||| (if b then 1 else 0), (b != (a.1.getLsbD 38 != a.1.getLsbD 57)) :: a.2)) (st, [])
  (r.1, r.2.reverse)

/-- Payload blocks through one of the two; sync headers pass unchanged. -/
def throughBlocks (f : BitVec 58 → List Bool → BitVec 58 × List Bool) (st : BitVec 58) (bs : List Blk) : BitVec 58 × List Blk :=
  bs.foldl (fun a b =>
    let (st, o) := f a.1 (blkBits b)
    (st, a.2 ++ [(b.1, BitVec.ofNat 64 (bitsLe o))])) (st, [])

/-! ### Codewords and transcoded blocks (R182, R183) -/

/-- The codeword of a message of 5,140 bits. -/
def messageCodeword (bits : List Bool) : List (BitVec 10) := (rsEncode ((chunks 10 514 bits).map bitsValue)).map (BitVec.ofNat 10)

/-- The bits of 10-bit symbols, and the symbols of bits, most significant bit first. -/
def cwBits (w : List (BitVec 10)) : List Bool := symbolBits (w.map (·.toNat))
def cwOf (bits : List Bool) : List (BitVec 10) := (chunks 10 1088 bits).map fun b => BitVec.ofNat 10 (bitsValue b)

/-- The 5,140 bits of twenty transcoded blocks, four blocks each, and back. -/
def granuleOf (bs : List Blk) : List Bool :=
  (chunks 4 20 bs).flatMap fun q => let w := Config.transcode q; (List.range 257).map fun i => w.getLsbD i
def blocksOf (bits : List Bool) : List Blk :=
  (chunks 257 20 bits).flatMap fun c => (List.range 4).map (Config.untranscode (BitVec.ofNat 257 (bitsLe c)))

/-! ### Elastic buffers (R182, R186, log entry 167) -/

/-- A block comes into a buffer of `depth`: blocks, the frame being written is cut, idles deleted, overflows. -/
def elasticIn (depth : Nat) (a : List Blk × Bool × Nat × Nat) (b : Blk) : List Blk × Bool × Nat × Nat :=
  let (q, cut, del, ovf) := a
  if cut && !startsFrame b && !endsFrame b then a
  else if cut && b.1 = 2 && !startsFrame b && blkType b ≠ 0x1E && blkType b ≠ 0x4B then (q, false, del, ovf)
  else if q.length < depth then (q ++ [b], false, del, ovf)
  else if b = idleBlk then (q, cut, del + 1, ovf)
  else (q.dropLast ++ [errorBlk], true, del, ovf + 1)

/-- `n` blocks leave a buffer: an idle is deleted above the upper mark and inserted, between frames, below the lower one. Answers what
leaves, what stays, the block sent last, idles inserted and deleted. -/
def elasticOut (low high : Nat) : Nat → Nat → List Blk → Blk → List Blk × List Blk × Blk × Nat × Nat
  | 0, _, q, last => ([], q, last, 0, 0)
  | _, 0, q, last => ([], q, last, 0, 0)
  | k + 1, n + 1, q, last =>
    let put := fun (b : Blk) (q : List Blk) (ins : Nat) =>
      let (out, q, last, i, d) := elasticOut low high k n q b
      (b :: out, q, last, i + ins, d)
    match q with
    | [] => put (if endsFrame last then idleBlk else Config.underflowBlk) [] 1
    | b :: rest =>
      if b = idleBlk ∧ high < rest.length + 1 then
        let (out, q, last, i, d) := elasticOut low high k (n + 1) rest last
        (out, q, last, i, d + 1)
      else if endsFrame last ∧ rest.length + 1 < low then put idleBlk q 1
      else put b rest 0

/-! ### Ports: host to line (R170, R183, R184, R186) -/

/-- The frame check sequence of IEEE 802.3 over the bytes of a frame. -/
def fcs (bs : List Byte) : List Byte :=
  let c := bs.foldl (fun (c : BitVec 32) b => (List.range 8).foldl (fun c _ => if c.getLsbD 0 then (c >>> 1) ^^^ 0xEDB88320#32 else c >>> 1)
    (c ^^^ b.setWidth 32)) 0xFFFFFFFF#32
  leBytes 4 (~~~c).toNat

/-- The blocks of a Causeway frame (R187): start with preamble, addresses, EtherType 0x88B5, the message padded to 46 bytes, FCS,
terminate (Clause 82). -/
def frameBlks (dst src : Nat) (msg : List Byte) : List Blk :=
  let be := fun (x : Nat) => (leBytes 6 x).reverse
  let body := be dst ++ be src ++ [0x88, 0xB5] ++ msg ++ List.replicate (46 - msg.length) 0
  let bs := body ++ fcs body
  let k := bs.length / 8
  let rest := bs.drop (8 * k)
  let word := fun (b : List Byte) => BitVec.ofNat 64 (leValue b)
  [(2, word ([0x78, 0x55, 0x55, 0x55, 0x55, 0x55, 0x55, 0xD5]))] ++ (List.range k).map (fun i => ((1 : BitVec 2), word ((bs.drop (8 * i)).take 8))) ++
    [(2, word ([0x87, 0x99, 0xAA, 0xB4, 0xCC, 0xD2, 0xE1, 0xFF].getD rest.length 0x87 :: rest))]

/-- A frame that starts with block `b` is a Causeway frame to address `mac`: destination and EtherType lie in the two blocks after it. -/
def isCwFrame (mac : Nat) (b : Blk) : List Blk → Bool
  | b₁ :: b₂ :: _ => decide (blkType b = 0x78) && decide (((leBytes 8 b₁.2.toNat).take 6).reverse = leBytes 6 mac) &&
      decide (((leBytes 8 b₂.2.toNat).drop 4).take 2 = [0x88, 0xB5])
  | _ => false

/-- Causeway frames give way to idles; `inside` one already (R187). -/
def stripFrames (mac : Nat) : Bool → List Blk → Bool × List Blk
  | inside, [] => (inside, [])
  | inside, b :: bs =>
    let now := inside || isCwFrame mac b bs
    let (after, out) := stripFrames mac (now && !endsFrame b) bs
    (after, (if now then idleBlk else b) :: out)

/-- The first `n` idles of a list go. -/
def dropIdles : Nat → List Blk → List Blk
  | 0, bs => bs
  | _, [] => []
  | n + 1, b :: bs => if b = idleBlk then dropIdles n bs else b :: dropIdles (n + 1) bs

/-- Blocks of port `p` from its hosts enter the buffer towards the line. -/
def State.portUp (s : State) (p : Nat) (bs : List Blk) : State :=
  let x := s.hpmOf p
  let (q, cut, del, ovf) := bs.foldl (elasticIn Config.elastic.2.2) (x.up, x.cut, 0, 0)
  ((s.modHpm p fun x => { x with up := q, cut := cut }).count HPM_IDLE_DEL.COUNT p del).count HPM_OVF.COUNT p ovf

/-- A port's stream of `n` blocks towards the line: Local Fault while a host lane is not LOCKED. -/
def State.portToLine (s : State) (p n : Nat) : List Blk × State :=
  if !s.portHears p then (List.replicate n localFault, s.modHpm p fun x => { x with up := [], cut := false, upLast := localFault })
  else
    let x := s.hpmOf p
    let (inside, up) := if (s.fld HPM_PORT_CFG.FLAGS p).testBit 0 then stripFrames (s.fld MGT_CW_MAC.MAC 0) x.cwIn x.up else (false, x.up)
    let (out, q, last, ins, del) := elasticOut Config.elastic.1 Config.elastic.2.1 (n + up.length) n up x.upLast
    let s := s.modHpm p fun x => { x with up := q, upLast := last, cwIn := inside, rfUp := out.contains remoteFault }
    (out, (((s.count HPM_IDLE_INS.COUNT p ins).count HPM_IDLE_DEL.COUNT p del).showPort p))

/-- Where port `p`'s granules go in turn: parity of the position and line lane (R183). -/
def State.portSeq (s : State) (p : Nat) : List (Nat × Nat) :=
  let of := fun (par : Nat) => lanes16.filter fun n => match (s.hostsOf n)[par]? with
    | some h => (s.portHosts p).contains h
    | none => false
  (of 0).map (fun n => (0, n)) ++ (of 1).map (fun n => (1, n))

/-- The port whose granules line lane `n` carries at position `j`. -/
def State.portAt (s : State) (n j : Nat) : Option Nat :=
  match (s.hostsOf n)[j % 2]? with
  | none => none
  | some h => hosts32.find? fun p => s.flag HPM_PORT_CFG.VALID p && (s.portHosts p).contains h

/-- The number, in the multiframe, of the granule that lane `n` carries as its unit `u` (0 to 1,911, 478 to a span) for a port whose
turns are `seq`; and the lane and unit of a granule. -/
def granuleNo (seq : List (Nat × Nat)) (n u : Nat) : Nat :=
  (u / 478 * 239 + u % 478 / 2) * seq.length + (seq.idxOf (u % 2, n))
def granulePlace (seq : List (Nat × Nat)) (i : Nat) : Nat × Nat :=
  let (par, n) := seq.getD (i % seq.length) (0, 0)
  let q := i / seq.length
  (n, q / 239 * 478 + 2 * (q % 239) + par)

/-- The next granule of port `p` towards the line is made and waits for its frame on its lane. -/
def State.makeGranule (s : State) (p : Nat) (seq : List (Nat × Nat)) (i : Nat) : State :=
  let (bs, s) := s.portToLine p 80
  let (n, u) := granulePlace seq i
  let unit := cwBits (messageCodeword (granuleOf bs))
  (s.modHpm p fun x => { x with txAt := some ((i + 1) % (956 * seq.length)) }).modLtx n fun x => { x with
    units := x.units.filter (fun e => decide (e.1 ≠ u)) ++ [(u, unit)] }

/-- Granules of port `p` are made in order until the one that lane `n` carries as its unit `u` is. -/
def State.fillPort (s : State) (p n u : Nat) : State :=
  let seq := s.portSeq p
  let i := granuleNo seq n u
  let all := 956 * seq.length
  let from_ := match (s.hpmOf p).txAt with
    | some a => if (i + all - a) % all < 64 * seq.length then a else i
    | none => i
  (List.range ((i + all - from_) % all + 1)).foldl (fun s k => s.makeGranule p seq ((from_ + k) % all)) s

/-- Frames of the lanes of port `p` with one FCNT are dealt back to the stream (R170); a skew beyond 16 blocks holds the port down. -/
def State.dealFrames (s : State) (p : Nat) : State :=
  let hs := s.portHosts p
  match ((s.hsiOf p).frames).head? with
  | none => s
  | some (f, _, _) =>
    let found := hs.map fun h => (s.hsiOf h).frames.find? fun e => decide (e.1 = f)
    let fs := found.filterMap id
    if fs.length < hs.length then
      if hs.any fun h => decide (3 ≤ (s.hsiOf h).frames.length) then
        ((s.modHpm p fun x => { x with hostSkew := true }).each hs fun h s => s.modHsi h fun x => { x with frames := [] }).showPort p
      else s
    else
      let at_ : List Nat := fs.map (·.2.1)
      let skew := decide (at_.foldl min (at_.headD 0) + 3 < at_.foldl max 0)
      let s := s.each hs fun h s => s.modHsi h fun x => { x with frames := (x.frames.dropWhile fun e => decide (e.1 ≠ f)).tail }
      let s := (s.modHpm p fun x => { x with hostSkew := skew }).showPort p
      if skew then s
      else s.portUp p ((List.range 33).flatMap fun i => fs.map fun e => e.2.2.getD i errorBlk)

/-! ### Ports: line to host (R178, R183 to R186) -/

/-- Granules that are next in order leave the reorder buffer. -/
def HpmX.inOrder (all : Nat) : Nat → HpmX → HpmX × List Blk
  | 0, x => (x, [])
  | k + 1, x => match x.rxAt with
    | none => (x, [])
    | some i => match x.rx.find? fun e => decide (e.1 = i) with
      | none => (x, [])
      | some e =>
        let (y, bs) := HpmX.inOrder all k { x with rx := x.rx.filter (fun e => decide (e.1 ≠ i)), rxAt := some ((i + 1) % all) }
        (y, e.2 ++ bs)

/-- Blocks of port `p` from the line enter the buffer towards the host. -/
def State.portDown (s : State) (p : Nat) (bs : List Blk) : State :=
  let x := s.hpmOf p
  let (q, cut, del, ovf) := bs.foldl (elasticIn Config.elastic.2.2) (x.down, x.downCut, 0, 0)
  ((s.modHpm p fun x => { x with down := q, downCut := cut }).count HPM_IDLE_DEL.COUNT p del).count HPM_OVF.COUNT p ovf

/-- An outer codeword of line lane `n`, unit `u`, comes to the port that owns its position (R183): an uncorrectable one is delivered as
error blocks and counted (R186). -/
def State.portReceive (s : State) (n u : Nat) (ok : Bool) (w : List (BitVec 10)) : State :=
  match s.portAt n (u % 478) with
  | none => s
  | some p =>
    let s := if ok then s else s.count HPM_LINE_ERR.COUNT p
    if !s.portLineUp p then s.modHpm p fun x => { x with rx := [], rxAt := none, down := [], downCut := false, rfDown := false }
    else
      let seq := s.portSeq p
      let i := granuleNo seq n u
      let bs := if ok then blocksOf ((cwBits w).take 5140) else List.replicate 80 errorBlk
      let x := s.hpmOf p
      let x := if x.rxAt.isSome ∧ x.rx.length < 64 * seq.length then x else { x with rx := [], rxAt := if i % seq.length = 0 then some i else none }
      if x.rxAt.isNone then s
      else
        let (y, out) := HpmX.inOrder (956 * seq.length) (x.rx.length + 1) { x with rx := x.rx ++ [(i, bs)], rfDown := bs.contains remoteFault }
        ((s.modHpm p fun _ => y).portDown p out).showPort p

/-- `n` blocks of port `p` towards its hosts: Local Fault while the line side does not deliver. -/
def State.portToHost (s : State) (p n : Nat) : List Blk × State :=
  if s.flag HPM_PORT_STATUS.LF_TO_HOST p then (List.replicate n localFault, s.modHpm p fun x => { x with downLast := localFault })
  else
    let x := s.hpmOf p
    -- Causeway frames take the place of idles, between frames (R187)
    let between := endsFrame x.downLast
    let down := if between then x.cwOut ++ dropIdles x.cwOut.length x.down else x.down
    let (out, q, last, ins, del) := elasticOut Config.elastic.1 Config.elastic.2.1 (n + down.length) n down x.downLast
    let s := s.modHpm p fun x => { x with down := q, downLast := last, cwOut := if between then [] else x.cwOut }
    (out, (s.count HPM_IDLE_INS.COUNT p ins).count HPM_IDLE_DEL.COUNT p del)

/-! ### Towards the host (R157, R165 to R167, R178) -/

/-- The framing block that host lane `h` sends with a frame count (Table 6-6). -/
def State.framingBlk (s : State) (h fcnt : Nat) : Blk :=
  let hi := 0xE3 * 2 ^ 48 + h * 2 ^ 43 + fcnt % 256 * 2 ^ 32 + (if s.hrx h = HRx.LOCKED then 0 else 2 ^ 31) + 0x9669A5
  (2, BitVec.ofNat 64 (hi * 256 + (crc8 ((List.range 56).map fun i => hi.testBit (55 - i))).toNat))

/-- Host lane `h` sends an FCM frame with these payload blocks. -/
def State.sendFcm (s : State) (h fcnt : Nat) (bs : List Blk) : State :=
  let (st, out) := throughBlocks scramble58 (s.hsiOf h).scr bs
  let f := s.framingBlk h fcnt
  s.modHsi h fun x => { x with scr := st, sentFrame := f :: out }

/-- A codeword with the alignment-marker group of lane `h` (log entry 166). -/
def markerCw (h : Nat) : List (BitVec 10) :=
  (rsEncode ((List.range 514).map fun k => (Config.markerMessage h k).toNat)).map (BitVec.ofNat 10)

/-- Host lane `h` sends a codeword, after one with its alignment markers where that is due. -/
def State.sendCw (s : State) (h : Nat) (w : List (BitVec 10)) : State :=
  s.modHsi h fun x => { x with sentCw := if x.cwSent = 0 then markerCw h ++ w else w, cwSent := (x.cwSent + 1) % 4095 }

/-- A pair of codewords as a unit, symbol by symbol in turn, and a unit's two codewords (R49, R180). -/
def pairUnit (a b : List (BitVec 10)) : List (BitVec 10) := (List.zip a b).flatMap fun e => [e.1, e.2]
def unitPair (w : List (BitVec 10)) : List (BitVec 10) × List (BitVec 10) :=
  let pick := fun (r : Nat) => (w.zipIdx.filter fun e => decide (e.2 % 2 = r)).map (·.1)
  (pick 0, pick 1)

/-- A transparent host lane sends a pair of codewords: a unit of the line lane, or Local Fault of its own (R178). -/
def State.sendPair (s : State) (h : Nat) : State :=
  let x := s.hsiOf h
  match x.relaying, x.lineUnits with
  | true, u :: rest => s.modHsi h fun x => { x with lineUnits := rest, sentCw := cwOf u }
  | _, _ =>
    let lf := messageCodeword (granuleOf (List.replicate 80 localFault))
    s.sendCw h (pairUnit lf lf)

/-- How many codewords (standard mode, one per 20 core cycles) or blocks (FCM, 34 per 8.25 core cycles) host lane `h` sends in
core cycle `c`. -/
def State.hostUnits (s : State) (h c : Nat) : Nat :=
  if s.fcm h then (c + 1) * 136 / 33 - c * 136 / 33 else if c % 20 = 0 then 1 else 0

/-- What the host lane with logical number `h` sends in the core cycle, unless a pattern has its output. Frames of FCM start together,
every 8.25 core cycles (R165). A lane of a port sends its part of the port's stream with the port's first lane. -/
def State.hostSend (s : State) (h : Nat) : State :=
  let c := s.cycle
  let frame := decide ((c + 1) * 4 / 33 ≠ c * 4 / 33)
  let fcnt := (c + 1) * 4 / 33
  if s.hsvc h = Svc.TRANSPARENT then (if c % 40 = 0 then s.sendPair h else s)
  else if s.hsvc h = Svc.CINCH then
    if s.fcm h && frame then
      let x := s.hsiOf h
      let bs := x.txBlocks.take 33
      let (v, s) := if bs.length < 33 then s.fresh else (0, s)
      let pad := (List.range (33 - bs.length)).map fun i => ((1 : BitVec 2), v.extractLsb' (8 * i) 64)
      (s.modHsi h fun x => { x with txBlocks := x.txBlocks.drop 33 }).sendFcm h fcnt (bs ++ pad)
    else s
  else if !s.flag HPM_PORT_CFG.VALID h then s
  else
    let hs := s.portHosts h
    let k := hs.length
    if s.fcm h then
      if frame then
        let (bs, s) := s.portToHost h (33 * k)
        s.each (List.range k) fun i s => if s.htx (h + i) = HTx.ACTIVE then
          s.sendFcm (h + i) fcnt ((List.range 33).map fun j => bs.getD (j * k + i) errorBlk) else s
      else s
    else if c % 20 = 0 then
      let (bs, s) := s.portToHost h (80 * k)
      s.each (List.range k) fun i s => if s.htx (h + i) = HTx.ACTIVE then
        s.sendCw (h + i) (messageCodeword (granuleOf ((bs.drop (80 * i)).take 80))) else s
    else s

/-- A core cycle of the host transmitters: a pattern takes the whole output of its lane, and what it displaces is counted (R199). -/
def State.tickHosts (s : State) : State :=
  s.each hosts32 fun h s =>
    if s.htx h ≠ HTx.ACTIVE then s
    else if s.fld HSI_PAT.PAT h = 0 then s.hostSend h
    else if s.hsvc h ≠ Svc.CINCH then s.count HSI_PAT_DROP.COUNT h (s.hostUnits h s.cycle)
    else s

/-! ### Block lock and frame lock (R168, R169) -/

/-- A hunt for block lock over received bits: an invalid header moves the candidate by one bit and restarts the count; 64 valid ones in
a row end it. -/
def blockHunt : Nat → Nat → List Bool → Bool
  | 0, _, _ => false
  | k + 1, n, b :: b' :: bs =>
    if b != b' then (if 64 ≤ n + 1 then true else blockHunt k (n + 1) (bs.drop 64)) else blockHunt k 0 (b' :: bs)
  | _, _, _ => false

/-- A header under block lock: an invalid one is counted, and 32 within 1,024 lose the lock and with it frame lock. -/
def State.headerIn (h : Nat) (s : State) (hd : BitVec 2) : State :=
  let x := s.hsiOf h
  let at_ := x.shSeen + 1
  if !x.blockLock then s
  else if hd = 1 ∨ hd = 2 then s.modHsi h fun x => { x with shSeen := at_ }
  else
    let bad := (at_ :: x.shBad).filter fun a => decide (at_ < a + 1024)
    let s := s.count HSI_BAD_SH.COUNT h
    if bad.length < 32 then s.modHsi h fun x => { x with shSeen := at_, shBad := bad }
    else
      let s := s.modHsi h fun x => { x with blockLock := false, lastFcnt := none, shSeen := 0, shBad := [] }
      if s.hrx h = HRx.LOCKED then s.leaveHost h HLoss.ALIGN HRx.ALIGN else s

/-- BLOCK_LOCK, R168: the bits received since the hunt began. -/
def execBlockLock (seen : HostReport (List Bool)) (s : State) : Res :=
  let h := seen.h
  .next (if s.fcm h ∧ s.hrx h = HRx.ALIGN ∧ blockHunt seen.seen.length 0 seen.seen then
    s.modHsi h fun x => { x with blockLock := true, lastFcnt := none, shSeen := 0, shBad := [] } else s)

/-- BLOCK_LOCK_LOSS, R168, R169: headers received under block lock up to the one that loses it. -/
def execBlockLockLoss (seen : HostReport (List (BitVec 2))) (s : State) : Res :=
  .next (if s.fcm seen.h then seen.seen.foldl (State.headerIn seen.h) s else s)

/-- An FCM framing block passes: MARK, NMARK and CRC (R166, R169). -/
def framingOk (w : BitVec 64) : Bool :=
  decide (w.extractLsb' 56 8 = 0xE3#8) && decide (w.extractLsb' 8 24 = 0x9669A5#24) &&
    decide (crc8 ((List.range 56).map fun i => w.getLsbD (63 - i)) = w.extractLsb' 0 8)

/-- A framing block of lane `h` (R169). -/
def State.framingIn (s : State) (h : Nat) (w : BitVec 64) : State :=
  let x := s.hsiOf h
  let good := framingOk w
  let f := (w.extractLsb' 40 8).toNat
  let s := if good then s.setFlag HSI_STATUS.FAR_RDI h (w.getLsbD 39) else s.count HSI_FRAME_ERR.COUNT h
  if s.hrx h = HRx.ALIGN then
    let s := s.modHsi h fun x => { x with lastFcnt := if good then some f else none }
    let next := match x.lastFcnt with
      | some l => decide (f = (l + 1) % 256)
      | none => false
    if good && next then s.lockHost h else s
  else if s.hrx h = HRx.LOCKED then
    let bad := if good then 0 else x.badFrames + 1
    let s := s.modHsi h fun x => { x with badFrames := bad, lastFcnt := if good then some f else x.lastFcnt.map fun l => (l + 1) % 256 }
    if bad = 4 then
      -- block lock stays: ALIGN hunts for two framing blocks again
      (s.leaveHost h HLoss.ALIGN HRx.ALIGN).modHsi h fun x => { x with blockLock := true }
    else s
  else s

/-- FRAMING_BLOCK_RECEIVED, R165, R167, R169, R170: a framing block and the payload blocks after it. -/
def execFramingBlockReceived (h : HLane) (blocks : List (BitVec 2 × BitVec 64)) (s : State) : Res :=
  match blocks with
  | [] => .next s
  | f :: payload =>
    if !s.fcm h || !(s.hsiOf h).blockLock then .next s
    else
      let s := s.framingIn h f.2
      let (st, bs) := throughBlocks descramble58 (s.hsiOf h).descr payload
      let s := (blocks.map (·.1)).foldl (State.headerIn h) (s.modHsi h fun x => { x with descr := st })
      if s.hrx h ≠ HRx.LOCKED then .next s
      else if s.hsvc h = Svc.CINCH then .next (s.modHsi h fun x => { x with rxBlocks := x.rxBlocks ++ bs })
      else match hosts32.find? fun p => s.flag HPM_PORT_CFG.VALID p && (s.portHosts p).contains h.val with
        | none => .next s
        | some p =>
          let f := (s.hsiOf h).lastFcnt.getD 0
          .next ((s.modHsi h fun x => { x with frames := x.frames ++ [(f, s.cycle, bs)] }).dealFrames p)

/-! ### Cinch cells (R189 to R194) -/

/-- A cell tag (Table 6-9), and whether a received one passes its CRC (R191). -/
def cellTag (kind ch : Nat) : BitVec 20 :=
  let hi := BitVec.ofNat 12 (kind * 1024 + ch * 128)
  hi ++ tagCrc hi
def cellTagCrcOk (tag : BitVec 20) : Bool := decide (tagCrc (tag.extractLsb' 8 12) = tag.extractLsb' 0 8)

/-- The message of a cell's codeword: header bits hold the tag, payload bits are scrambled (R189); and a received message's tag and
payload, with the scrambler's register after it. -/
def cellMessage (st : BitVec 58) (tag : BitVec 20) (payload : List Byte) : BitVec 58 × List Bool :=
  let (st, o) := scramble58 st ((List.range 640).flatMap fun k => (List.range 8).map fun i => (payload.getD k 0).getLsbD i)
  (st, (chunks 256 20 o).zipIdx.flatMap fun e => tag.getLsbD (19 - e.2) :: e.1)
def cellOfMessage (st : BitVec 58) (bits : List Bool) : BitVec 58 × BitVec 20 × List Byte :=
  let blocks := chunks 257 20 bits
  let (st, o) := descramble58 st (blocks.flatMap (·.drop 1))
  (st, BitVec.ofNat 20 (bitsValue (blocks.map (·.headD false))), (chunks 8 640 o).map fun b => BitVec.ofNat 8 (bitsLe b))

/-- The 81 blocks of a cell in FCM (R190); the tag of a block that is a tag block with MARK and CRC; the payload of data blocks. -/
def cellBlocks (tag : BitVec 20) (payload : List Byte) : List Blk :=
  (2, BitVec.ofNat 64 (0xC5 * 2 ^ 56 + tag.toNat * 2 ^ 36)) ::
    (List.range 80).map fun d => (1, BitVec.ofNat 64 (leValue ((payload.drop (8 * d)).take 8)))
def blkTag (b : Blk) : BitVec 20 := b.2.extractLsb' 36 20
def tagBlkOk (b : Blk) : Bool := decide (b.1 = 2) && decide (b.2.extractLsb' 56 8 = 0xC5#8) && cellTagCrcOk (blkTag b)
def blkPayload (bs : List Blk) : List Byte := bs.flatMap fun b => leBytes 8 b.2.toNat

/-- One tag block at its place: cell lock in FCM (R190). -/
def State.cellLockStep (s : State) (h : Nat) (ok : Bool) : State :=
  let x := s.hsiOf h
  let good := if ok then x.cellGood + 1 else 0
  let bad := if ok then 0 else x.cellBad + 1
  let s := s.modHsi h fun x => { x with cellGood := good, cellBad := bad }
  if 4 ≤ good then s.setFlag HSI_STATUS.CELL_LOCK h true
  else if 4 ≤ bad then s.setFlag HSI_STATUS.CELL_LOCK h false
  else s

/-- A cell of lane `h` at ingress (R192 to R194): whether its codeword is good, whether its tag passes, tag, payload, and the instant
in its core cycle (R244). -/
def State.cellIn (s : State) (h : Nat) (rs crcOk : Bool) (tag : BitVec 20) (payload : List Byte) (off : Nat) : State :=
  let kind := (tag.extractLsb' 18 2).toNat
  let ch := (tag.extractLsb' 15 3).toNat
  let bad := !crcOk || decide (kind = 3) || decide (tag.extractLsb' 8 7 ≠ 0) || (decide (kind ≠ 1) && decide (ch ≠ 0)) || !rs
  let control := !bad && decide (kind = 2)
  let gap := decide ((s.hsiOf h).cellsRx + 1 = 64)
  let s := s.modHsi h fun x => { x with cellsRx := if control || gap then 0 else x.cellsRx + 1 }
  let s := if gap && !control then s.count HPM_CTL_GAP.COUNT h else s
  if bad then
    let s := s.count HPM_CELL_BAD.COUNT h
    if rs then s else (s.count HPM_RS_UNCORR.COUNT h).count HPM_RS_CW.COUNT h
  else if kind = 0 then s
  else
    let s := s.count HPM_CELL_RX.COUNT h
    if kind = 2 then s.count HPM_CTL_RSVD.COUNT h ((List.range 20).countP fun i => decide (2 < byteAt payload (32 * i)))
    else s.acceptCell (8 * h + ch) payload (ts96Of (s.hostInstant off))

/-- A cell position of lane `h`. Standard mode: its host codeword. FCM: the next cell of the payload
blocks received; before cell lock the position moves on by a block until a tag block comes, and a cell counts once lock is held. -/
def State.cellReceived (s : State) (h : HLane) (off : Fin 136) (w : List (BitVec 10)) : State :=
  if s.hrx h ≠ HRx.LOCKED ∨ s.hsvc h ≠ Svc.CINCH then s
  else
    let x := s.hsiOf h
    if !s.fcm h then
      let d := rsDecode (w.map (·.toNat))
      let msg := (cwBits (match d with
        | some (c, _, _) => c.map (BitVec.ofNat 10)
        | none => w)).take 5140
      let (st, tag, payload) := cellOfMessage x.descr msg
      (s.modHsi h fun x => { x with descr := st }).cellIn h d.isSome (cellTagCrcOk tag) tag payload off
    else
      let had := s.flag HSI_STATUS.CELL_LOCK h
      let bs := if had || decide (0 < x.cellGood) then x.rxBlocks else x.rxBlocks.dropWhile fun b => !tagBlkOk b
      let t := bs.headD idleBlk
      if bs.length < 81 then s.modHsi h fun x => { x with rxBlocks := bs }
      else
        let ok := tagBlkOk t
        let s := (s.modHsi h fun x => { x with rxBlocks := bs.drop (if ok || had then 81 else 1) }).cellLockStep h ok
        if had then s.cellIn h true ok (blkTag t) (blkPayload ((bs.drop 1).take 80)) off else s

/-- The codeword that a lane receives of a cell: twenty header bits, each before 32 bytes, then the parity symbols (R189). -/
def cellWord (tag : BitVec 20) (payload : List Byte) (parity : List (BitVec 10)) : List (BitVec 10) :=
  let bits := (chunks 32 20 payload).zipIdx.flatMap fun e => tag.getLsbD (19 - e.2) :: e.1.flatMap fun b => (List.range 8).map fun i => b.getLsbD i
  ((chunks 10 514 bits).map fun b => BitVec.ofNat 10 (bitsValue b)) ++ parity

/-- HOST_CELL_RECEIVED, R189 to R194, R244: the cell as the lane receives it in standard mode, its header bits, payload bytes and parity
before any decoding, `off` host symbols into the core cycle; its records refer to that capture. In FCM the cell stands in the blocks
received. -/
def execHostCellReceived (h : HLane) (off : Fin 136) (tag : BitVec 20) (payload : List Byte) (parity : List (BitVec 10)) (s : State) : Res :=
  .next (s.capturedAt (ts96Of (s.hostInstant off)) (s.cellReceived h off (cellWord tag payload parity)))

/-- HOST_CREDIT_RECORD, R221, R222: a credit record of lane `h`: only loop 1 RETURN and loop 3 GRANT of the lane's own
channels. -/
def execHostCreditRecord (h : HLane) (c : Chan) (loop kind : Fin 16) (total : BitVec 32) (s : State) : Res :=
  if s.hrx h ≠ HRx.LOCKED ∨ s.hsvc h ≠ Svc.CINCH then .next s
  else
    let rsvd := fun (s : State) => s.count HPM_CTL_RSVD.COUNT h
    if c.val / 8 ≠ h.val then .next (rsvd s)
    else if loop.val = 1 ∧ kind.val = 1 then .next (if s.chEn c then s.totalIn c 2 total false rsvd else s)
    else if loop.val = 3 ∧ kind.val = 0 then .next (if s.chEn c then s.totalIn c 12 total true rsvd else s)
    else .next (rsvd s)

/-- A credit entry of a CONTROL cell (R221). -/
def creditEntry (rs : List (Nat × Nat × Nat × BitVec 32)) : List Byte :=
  ctlRecord ([1, rs.length] ++ rs.flatMap fun r => [r.1, r.2.1 * 16 + r.2.2.1] ++ le32 r.2.2.2)

/-- The CONTROL cell lane `h` sends: its due totals, five to an entry, then entries that wait; and the state after. -/
def State.controlCell (s : State) (h : Nat) : List Byte × State :=
  let due := (List.range 8).flatMap fun i => (s.hostDue (8 * h + i)).map fun e => (8 * h + i, e)
  let credit := (chunks 5 4 due ++ (if due.length % 5 = 0 then [] else [due.drop (due.length / 5 * 5)])).map creditEntry
  let room := 20 - credit.length
  let waiting := (s.hsiOf h).entries
  let s := due.foldl (fun s e => s.modChan e.1 fun x =>
    if e.2.1 = 1 then { x with sent1 := e.2.2.2, due1 := false } else { x with sent3 := e.2.2.2, due3 := false }) s
  let s := s.modHsi h fun x => { x with entries := x.entries.drop room }
  (ctlPayload (credit ++ waiting.take room), s)

/-- Lane `h` sends a cell: its codeword in standard mode, its blocks in FCM (R189, R190). -/
def State.sendCell (s : State) (h : Nat) (cell : Cell) : State :=
  let tag := cellTag cell.kind cell.ch
  let s := s.modHsi h fun x => { x with sent := cell }
  if s.fcm h then s.modHsi h fun x => { x with txBlocks := x.txBlocks ++ cellBlocks tag cell.payload }
  else
    let (st, msg) := cellMessage (s.hsiOf h).scr tag cell.payload
    (s.modHsi h fun x => { x with scr := st }).sendCw h (messageCodeword msg)

/-- HOST_CELL_SLOT, R194, R221: a cell position towards the host. A CONTROL cell goes when one is overdue or has something to
carry, else the next DATA cell, else IDLE (log entry 34). -/
def execHostCellSlot (h : HLane) (s : State) : Res :=
  if s.htx h ≠ HTx.ACTIVE ∨ s.hsvc h ≠ Svc.CINCH ∨ s.fld HSI_PAT.PAT h ≠ 0 then .next s
  else
    let x := s.hsiOf h
    let carries := !x.entries.isEmpty || (List.range 8).any fun i => !(s.hostDue (8 * h.val + i)).isEmpty
    if carries || decide (63 ≤ x.cellsTx) then
      let (p, s) := s.controlCell h
      .next ((s.modHsi h fun x => { x with cellsTx := 0 }).sendCell h ⟨2, 0, p⟩)
    else match x.outQ with
      | (c, p) :: rest => .next ((s.modHsi h fun x => { x with cellsTx := x.cellsTx + 1, outQ := rest }).sendCell h ⟨1, c % 8, p⟩)
      | [] => .next ((s.modHsi h fun x => { x with cellsTx := x.cellsTx + 1 }).sendCell h ⟨0, 0, List.replicate 640 0⟩)

/-! ### Host codewords (R49, R157, R182, R186, R197) -/

/-- A codeword of transparent host lane `h`: two of them are a unit of the line lane that serves it, once it is to be relayed (R49,
R138). -/
def State.relayUp (s : State) (h : Nat) (w : List (BitVec 10)) : State :=
  match (s.hsiOf h).half with
  | none => s.modHsi h fun x => { x with half := some w }
  | some a =>
    let n := s.servedBy h
    let s := s.modHsi h fun x => { x with half := none }
    if !(s.ltxOf n).relaying then s
    else s.modLtx n fun x => { x with units := x.units ++ [((s.hostsOf n).idxOf h, cwBits (pairUnit a w))] }

/-- HOST_CODEWORD_DECODED, R182, R186, R197: a host codeword of port `p`, counted while the port is up; of a transparent lane, the
codeword of host lane `p` as received. -/
def execHostCodewordDecoded (p : Fin 32) (w : List (BitVec 10)) (s : State) : Res :=
  if s.hsvc p = Svc.TRANSPARENT then .next (if s.hrx p = HRx.LOCKED then s.relayUp p w else s)
  else if !s.portHears p ∨ s.hsvc p ≠ Svc.ETHERNET then .next s
  else
    let d := rsDecode (w.map (·.toNat))
    let s := if !s.flag HPM_PORT_STATUS.UP p then s else
      (s.count HPM_RS_CW.COUNT p).count (match d with
        | none => HPM_RS_UNCORR.COUNT
        | some (_, 0, _) => HPM_RS_ZERO.COUNT
        | some _ => HPM_RS_CORR.COUNT) p
    .next (s.portUp p (match d with
      | none => List.replicate 80 errorBlk
      | some (c, _, _) => blocksOf ((symbolBits c).take 5140)))

end Sys2Proof.Machine
end

