-- ==== Sys2Proof/Machine/Spectrum.lean ====
section
/-! DEFINITION. Arithmetic of measurements: square roots, logarithms, and the windowed transform of R144 in fixed point. -/
namespace Sys2Proof.Machine

/-- The largest number of `k` bits above `acc` whose square is at most `n`. -/
def sqrtBits (n : Nat) : Nat → Nat → Nat
  | 0, acc => acc
  | k + 1, acc => let x := acc + 2 ^ k
    sqrtBits n k (if x * x ≤ n then x else acc)

/-- A power of a natural number. -/
def powNat (b e : Nat) : Nat := b ^ e

/-- 1,000 log10(num ÷ den) rounded to the nearest integer, by bisection on `fuel` bits from `lo` up. -/
def log1000 (num den : Nat) : Nat → Int → Int
  | 0, lo => lo
  | k + 1, lo =>
    let x := lo + ((2 ^ k : Nat) : Int)
    -- the result is at least x where (num/den)^2000 ≥ 10^(2x−1)
    let e : Int := 2 * x - 1
    let big := if 0 ≤ e then decide (powNat den 2000 * powNat 10 e.toNat ≤ powNat num 2000)
      else decide (powNat den 2000 ≤ powNat num 2000 * powNat 10 (-e).toNat)
    log1000 num den k (if big then x else lo)

/-- cos and sin of an angle halved `k` times, in 2^-40, from the cosine of an angle in the first quadrant. -/
def halvedAngle : Nat → Nat → Int × Int
  | 0, c => ((c : Int), (sqrtBits (2 ^ 80 - c * c) 41 0 : Int))
  | k + 1, c => halvedAngle k (sqrtBits ((2 ^ 40 + c) * 2 ^ 39) 41 0)

/-- cos and sin, in 2^-40, of `n` angles that rise by the angle of `step`, from the angle of `a` on. -/
def turnTable (step : Int × Int) : Nat → Int × Int → List (Int × Int)
  | 0, _ => []
  | n + 1, a => a :: turnTable step n ((a.1 * step.1 - a.2 * step.2) / 2 ^ 40, (a.2 * step.1 + a.1 * step.2) / 2 ^ 40)

/-- cos and sin of 2πi ÷ 1,024, i = 0 to 1,023: the step is a right angle halved eight times. -/
def turns1024 : Array (Int × Int) := (turnTable (halvedAngle 8 0) 1024 (2 ^ 40, 0)).toArray

/-- |X(b)|², b = 0 to 511, of a block of 1,024 codes, Hann-windowed and transformed (R144), in fixed point: the window, 1 − cos of
2πi ÷ 1,024, and the turns have 40 fractional bits (DESIGN CHOICE, log entry 163). -/
def blockPower (codes : List Int) : List Nat :=
  let t := turns1024
  let xs := codes.zipIdx.map fun e => e.1 * (2 ^ 40 - (t.getD e.2 (0, 0)).1)
  (List.range 512).map fun b =>
    let sum := fun (part : Int × Int → Int) => (xs.zipIdx.map fun e => e.1 * part (t.getD (b * e.2 % 1024) (0, 0))).sum
    (sum (·.1) ^ 2 + sum (·.2) ^ 2).toNat

/-- The levels L(b) in 0.01 dB of a sum of block powers: 10 log10(P(b) ÷ R), R the mean of P over bins 1 to 511 (R144). A bin without
power, or a sum without power, takes the lowest level (DESIGN CHOICE, log entry 163). -/
def maskLevels (powers : List Nat) : List Int :=
  let total := (powers.drop 1).sum
  powers.map fun p => if total = 0 then -32768 else log1000 (511 * p) total 16 (-32768)

end Sys2Proof.Machine
end

