-- ==== Sys2Proof/Machine/LineTx.lean ====
section
/-! DEFINITION. Line transmit, chapter 5: the groups' two-wire ports, transmit states and squelch, banks and trims, test
patterns and checkers, the spectral-mask monitor, and the commands of the family. -/
namespace Sys2Proof.Machine

/-! ### The two-wire ports of a group (R64, R66, R148, R150) -/

/-- A port of group `g`. -/
def State.port (s : State) (g : Nat) : GroupPort → PortX
  | .tia => (s.grpOf g).tia
  | .driver => (s.grpOf g).drv

/-- A change of a port. -/
def State.modPort (s : State) (g : Nat) (p : GroupPort) (f : PortX → PortX) : State :=
  s.modGrp g fun x => match p with
    | .tia => { x with tia := f x.tia }
    | .driver => { x with drv := f x.drv }

/-- The configuration and the status register of a port, and its status fields. -/
def portCfgReg : GroupPort → Reg
  | .tia => .LRX_TIA_CFG
  | .driver => .LTX_DRV_CFG
def portBusy : GroupPort → Field
  | .tia => LRX_TIA_STATUS.BUSY
  | .driver => LTX_DRV_STATUS.BUSY
def portResult : GroupPort → Field
  | .tia => LRX_TIA_STATUS.RESULT
  | .driver => LTX_DRV_STATUS.RESULT
def portRdata : GroupPort → Field
  | .tia => LRX_TIA_STATUS.RDATA
  | .driver => LTX_DRV_STATUS.RDATA
def portAddr (p : GroupPort) (l : Nat) : Field := match p with
  | .tia => if l = 0 then LRX_TIA_CFG.ADDR_LO else LRX_TIA_CFG.ADDR_HI
  | .driver => if l = 0 then LTX_DRV_CFG.ADDR_LO else LTX_DRV_CFG.ADDR_HI

/-- A transaction is in progress on the port. -/
def PortX.inProgress (x : PortX) : Bool := x.swRunning || !x.hw.isEmpty

/-- A write on the bus: START, address and W, pointer, data, STOP (R64). -/
def busWrite (addr : Nat) (ptr : List Byte) (value : Nat) : List BusSym :=
  [.start, .byte (BitVec.ofNat 8 (2 * addr))] ++ ptr.map .byte ++ [.byte (BitVec.ofNat 8 value), .stop]

/-- A read on the bus: START, address and W, pointer, repeated START, address and R, a byte with NACK, STOP (R64). -/
def busRead (addr : Nat) (ptr : List Byte) : List BusSym :=
  [.start, .byte (BitVec.ofNat 8 (2 * addr))] ++ ptr.map .byte ++ [.start, .byte (BitVec.ofNat 8 (2 * addr + 1)), .readNack, .stop]

/-- The pointer as bytes: one, or two with PTR16, the most significant first (R64, R148). -/
def State.portPtr (s : State) (g : Nat) (p : GroupPort) (ptr : Nat) : List Byte :=
  let lo := BitVec.ofNat 8 ptr
  match p with
  | .tia => [lo]
  | .driver => if s.flag LTX_DRV_CFG.PTR16 g then [BitVec.ofNat 8 (ptr / 256), lo] else [lo]

/-- What the transaction in progress puts on the port's bus: a software read or write, or a hardware write with its read-back
(R64, R65, R149). -/
def State.portBus (s : State) (g : Nat) (p : GroupPort) : List BusSym :=
  let x := s.port g p
  let addr := fun (l : Nat) => s.fld (portAddr p l) g
  match x.swRunning, x.sw, x.hw with
  | true, some t, _ => let ptr := s.portPtr g p t.ptr
    if t.rd then busRead (addr t.lane) ptr else busWrite (addr t.lane) ptr t.value
  | false, _, t :: _ => let ptr := s.portPtr g p t.ptr
    busWrite (addr t.lane) ptr t.value ++ busRead (addr t.lane) ptr
  | _, _, _ => []

/-- The transaction in progress is over: the port keeps what it has put on the bus. -/
def State.portSpoke (s : State) (g : Nat) (p : GroupPort) : State :=
  let b := s.portBus g p
  s.modPort g p fun x => { x with last := b }

/-- A transaction has ended: a held configuration write applies (R94), and the software transaction starts when no hardware
one waits (R66, R150). -/
def State.portNext (s : State) (g : Nat) (p : GroupPort) : State :=
  let s := match (s.port g p).deferred with
    | some v => (plainWrite (portCfgReg p) g v s).modPort g p fun x => { x with deferred := none }
    | none => s
  s.modPort g p fun x => if x.hw.isEmpty && x.sw.isSome then { x with swRunning := true } else x

/-- The software transaction of the port ends. -/
def State.portSwEnd (s : State) (g : Nat) (p : GroupPort) (result : Nat) (rdata : Byte) : State :=
  match (s.port g p).sw with
  | none => s
  | some t =>
    let s := ((s.portSpoke g p).setFlag (portBusy p) g false).setFld (portResult p) g result
    let s := if t.rd && decide (result = PortResult.OK) then s.setFld (portRdata p) g rdata.toNat else s
    (s.modPort g p fun x => { x with sw := none, swRunning := false }).portNext g p

/-- A write of `GO`: refused while the controllers restart, ignored while BUSY; a write to an owned register ends OWNED; else
the transaction waits its turn. -/
def State.portGo (s : State) (g : Nat) (p : GroupPort) (owned : Bool) (t : SwTx) : State × WStatus :=
  if s.headless then (s, .busy)
  else if s.flag (portBusy p) g then (s, .ok)
  else if owned && !t.rd then (s.setFld (portResult p) g PortResult.OWNED, .ok)
  else
    let s := (s.setFlag (portBusy p) g true).modPort g p fun x => { x with sw := some t }
    (if (s.port g p).inProgress then s else s.portNext g p, .ok)

/-- A write to a port's configuration register (R94): SPEED 0b11 is rejected; an address changes only while its lane is
DISABLED (`off`), else it keeps its value; during a transaction the write is held until the end. -/
def wrPortCfg (path : Path) (g v : Nat) (p : GroupPort) (off : Nat → Bool) (s : State) : State × WStatus :=
  let r := portCfgReg p
  if v % 4 = 3 then rejectWrite path r g v s
  else
    let moved := [0, 1].filter fun l => decide (fieldOf v (portAddr p l) ≠ s.fld (portAddr p l) g) && !off l
    let v' := moved.foldl (fun v l => withField v (portAddr p l) (s.fld (portAddr p l) g)) v
    let s' := if (s.port g p).inProgress then s.modPort g p fun x => { x with deferred := some v' }
      else plainWrite r g v' s
    if moved.isEmpty then (s', .ok) else rejectWrite path r g v s'

/-! ### Driver sequences (R149) -/

abbrev DrvSeq.ENABLE : Nat := 0
abbrev DrvSeq.SQUELCH : Nat := 1
abbrev DrvSeq.UNSQUELCH : Nat := 2

/-- The writes of a sequence of lane `n`: pointer and value (Table 9-3, DRIVER). -/
def State.drvWrites (s : State) (n seq : Nat) : List (Nat × Nat) :=
  let d := s.section_ Sect.DRIVER (n / 2)
  let base := 4 + 100 * (n % 2)
  (List.range (byteAt d (base + seq))).map fun i =>
    (fieldAt d (base + 4 + 4 * (8 * seq + i)) 2, byteAt d (base + 4 + 4 * (8 * seq + i) + 2))

/-- The group is configured by the image in force (R277). -/
def State.configured (s : State) (g : Nat) : Bool := !(s.section_ Sect.MODES g).isEmpty

/-! ### Squelch and transmit states (R132 to R137) -/

/-- Transmit state and squelch causes of lane `n`. -/
def State.ltxState (s : State) (n : Nat) : Nat := s.fld LTX_STATUS.STATE n
def State.sqCause (s : State) (n : Nat) : Nat := s.fld LTX_STATUS.SQ_CAUSE n

/-- A cause of the lane's squelch that runs the SQUELCH sequence and drops the laser: TXDIS, CMIS, THERMAL. -/
def darkCause (causes : Nat) : Bool := causes.testBit Squelch.TXDIS || causes.testBit Squelch.CMIS || causes.testBit Squelch.THERMAL

/-- The GPIO record of pin `p` (Table 9-3): role and lanes. -/
def State.pinRole (s : State) (p : Nat) : Nat := byteAt (s.section_ Sect.GPIO 0) (4 * p)
def State.pinLanes (s : State) (p : Nat) : Nat := fieldAt (s.section_ Sect.GPIO 0) (4 * p + 2) 2

/-- The lanes a mask names. -/
def State.pinLaneList (s : State) (p : Nat) : List Nat := maskLanes (s.pinLanes p)

/-- Level of pin `p`, as its role means it. -/
def State.pin (s : State) (p : Nat) : Bool := s.pins.gpio.getLsbD p

/-- Pin `p` takes a level. -/
def State.setPin (s : State) (p : Nat) (on : Bool) : State :=
  { s with pins := { s.pins with gpio := (s.pins.gpio &&& ~~~(BitVec.twoPow 16 p)) ||| (if on then BitVec.twoPow 16 p else 0) } }

/-- The laser-enable pins follow their lanes (R137). -/
def State.showLasers (s : State) : State :=
  s.each lanes16 fun p s =>
    if s.pinRole p = 3 then
      s.setPin p ((s.pinLaneList p).all fun n => decide (s.ltxState n ≠ Ltx.DISABLED) && !darkCause (s.sqCause n))
    else s

/-- An LTX_EVENT record: kind 0 source change, 1 mask state, 2 driver sequence. -/
def State.logLtx (s : State) (n kind : Nat) : State :=
  s.log Evt.LTX_EVENT Subj.LINE_LANE n (kind :: (regWords (s.reg .LTX_STATUS n) 1 ++ regWords (s.reg .LTX_MASK_VIOL n) 1 ++
    regWords (s.reg .LTX_MASK_WORST n) 1))

/-- The lane enters a transmit state; PENDING is reported with it. -/
def State.goLtx (s : State) (n st : Nat) : State :=
  let s := (s.setFld LTX_STATUS.STATE n st).setFlag LTX_STATUS.PENDING n (decide (st = Ltx.PENDING))
  let s := if st = Ltx.ACTIVE ∨ st = Ltx.DISABLED then
      s.modLtx n fun x => { x with squelchRan := false } else s
  let s := if st = Ltx.DISABLED then
      s.modLtx n fun x => { x with drvSquelched := false, unsqRunning := false, enabling := false, abandon := false } else s
  s.showLasers

/-- The transactions of a sequence. -/
def seqTxs (l seq : Nat) (ws : List (Nat × Nat)) : List HwTx := ws.zipIdx.map fun e => ⟨l, seq, e.2, e.1.1, e.1.2, 0⟩

/-- Cause CLOCK goes with the state that held it. -/
def State.dropClock (s : State) (n : Nat) : State :=
  let c := s.sqCause n
  s.setFld LTX_STATUS.SQ_CAUSE n (if c.testBit Squelch.CLOCK then c - 2 ^ Squelch.CLOCK else c)

/-- What the end of a sequence of lane `n` does (R149). A cause that came during UNSQUELCH has the lane stay SQUELCHED. -/
def State.seqDone (s : State) (n seq : Nat) (ok : Bool) : State :=
  if s.ltxState n = Ltx.DISABLED then s
  else if seq = DrvSeq.ENABLE then
    let s := s.modLtx n fun x => { x with enabling := false }
    if ok then s
    else
      let s := ((s.setFld LTX_STATUS.RESULT n LtxResult.DRV_FAIL).setFlag LTX_CTRL.ENABLE n false).dropClock n
      (s.goLtx n Ltx.DISABLED).logLtx n 2
  else if seq = DrvSeq.SQUELCH then (if ok then s else s.logLtx n 2)
  else
    let s := s.modLtx n fun x => { x with unsqRunning := false }
    let s := if ok then s else
      ((s.setFld LTX_STATUS.SQ_CAUSE n (s.sqCause n ||| 2 ^ Squelch.DRIVER)).logLtx n 2).alert Alert.LANE
    -- Table 5-5: a dark cause that came during the sequence has the SQUELCH sequence run
    let ws := s.drvWrites n DrvSeq.SQUELCH
    if darkCause (s.sqCause n) && decide (s.ltxState n = Ltx.SQUELCHED) && !(s.ltxOf n).drvSquelched then
      (s.modLtx n fun x => { x with squelchRan := true, drvSquelched := true }).modPort (n / 2) .driver fun x => { x with
        hw := x.hw ++ seqTxs (n % 2) DrvSeq.SQUELCH ws }
    else s

/-- A sequence of lane `n` joins the port's transactions; an empty one has run at once. -/
def State.runSeq (s : State) (n seq : Nat) : State :=
  let ws := s.drvWrites n seq
  if ws.isEmpty then s.seqDone n seq true
  else s.modPort (n / 2) .driver fun x => { x with
    hw := x.hw ++ seqTxs (n % 2) seq ws }

/-- The driver is squelched as its causes require: the SQUELCH sequence runs once for TXDIS, CMIS or THERMAL (R149). -/
def State.squelchDriver (s : State) (n : Nat) : State :=
  if darkCause (s.sqCause n) && !(s.ltxOf n).drvSquelched then
    (s.modLtx n fun x => { x with squelchRan := true, drvSquelched := true }).runSeq n DrvSeq.SQUELCH
  else s

/-- The last cause has cleared: the UNSQUELCH sequence runs if the SQUELCH sequence has run since the lane last left
SQUELCHED (R136). -/
def State.unsquelch (s : State) (n : Nat) : State :=
  let x := s.ltxOf n
  if s.sqCause n = 0 ∧ x.squelchRan ∧ !x.unsqRunning then
    (s.modLtx n fun x => { x with drvSquelched := false, unsqRunning := true }).runSeq n DrvSeq.UNSQUELCH
  else s

/-- Lane `n` drives code 0 with a cause present: from ACTIVE it is SQUELCHED at once (R136). -/
def State.squelchNow (s : State) (n : Nat) : State :=
  let st := s.ltxState n
  if st = Ltx.ACTIVE then (s.goLtx n Ltx.SQUELCHED).squelchDriver n
  else if st = Ltx.SQUELCHED ∧ !(s.ltxOf n).unsqRunning then s.squelchDriver n
  else if st = Ltx.PENDING ∧ (s.sqCause n).testBit Squelch.CLOCK then s.squelchDriver n
  else s.showLasers

/-- A squelch cause sets or clears (R135, R136). -/
def State.setCause (s : State) (n bit : Nat) (on : Bool) : State :=
  let c := s.sqCause n
  if c.testBit bit = on then s
  else if on then ((s.setFld LTX_STATUS.SQ_CAUSE n (c ||| 2 ^ bit)).squelchNow n).showLasers
  else
    let s := (s.setFld LTX_STATUS.SQ_CAUSE n (c - 2 ^ bit)).showLasers
    if s.ltxState n = Ltx.SQUELCHED ∨ s.ltxState n = Ltx.STARTING then s.unsquelch n else s

/-- The clocks a line transmitter of lane `n` needs. -/
def State.lineClocks (s : State) (n : Nat) : Bool := s.clocksPresent && s.lineSynthLocked (n / 2)

/-- The enable executes: STARTING with the driver's ENABLE sequence (R133). -/
def State.startLtx (s : State) (n : Nat) : State :=
  let run := !(s.drvWrites n DrvSeq.ENABLE).isEmpty
  ((s.goLtx n Ltx.STARTING).modLtx n fun x => { x with enabling := run }).runSeq n DrvSeq.ENABLE

/-- A write of 1 to ENABLE of a DISABLED lane of a configured group. -/
def State.enableLtx (s : State) (n : Nat) : State :=
  if s.ltxState n ≠ Ltx.DISABLED ∨ !s.configured (n / 2) then s
  else
    let c := s.sqCause n
    let s := s.setFld LTX_STATUS.SQ_CAUSE n (if c.testBit Squelch.DRIVER then c - 2 ^ Squelch.DRIVER else c)
    let s := s.setFld LTX_STATUS.RESULT n LtxResult.OK
    -- transparent service counts its own frames from the slot the timer gives (R32)
    let s := s.modLtx n fun x => { x with mfCount := 0, counting := false, relaying := false, relayIn := false, streamAt := none, sentAt := none, rate := 0 }
    if s.lineClocks n then s.startLtx n else s.goLtx n Ltx.PENDING

/-- The lane enters DISABLED; hardware writes of it that wait are dropped, and cause CLOCK with the state that held it. -/
def State.disableLtx (s : State) (n : Nat) : State :=
  let s := s.modPort (n / 2) .driver fun x =>
    let keep := if x.swRunning then [] else x.hw.take 1
    let rest := if x.swRunning then x.hw else x.hw.drop 1
    { x with hw := keep ++ rest.filter fun (t : HwTx) => decide (t.lane ≠ n % 2) }
  let s := s.modLtx n fun x => { x with relaying := false, relayIn := false }
  (s.dropClock n).goLtx n Ltx.DISABLED

/-- A write of 0 to ENABLE: in PENDING or STARTING at the end of any write in progress, else at once (Table 5-5). -/
def State.endLtx (s : State) (n : Nat) : State :=
  if s.ltxState n = Ltx.DISABLED then s
  else
    let s := s.setFld LTX_STATUS.RESULT n LtxResult.OK
    let x := s.port (n / 2) .driver
    let writing := !x.swRunning && match x.hw with
      | t :: _ => decide (t.lane = n % 2) && decide (s.ltxState n = Ltx.PENDING ∨ s.ltxState n = Ltx.STARTING)
      | [] => false
    if writing then
      (s.modLtx n fun x => { x with abandon := true }).modPort (n / 2) .driver fun x =>
        { x with hw := x.hw.take 1 ++ (x.hw.drop 1).filter fun (t : HwTx) => decide (t.lane ≠ n % 2) }
    else s.disableLtx n

/-- The lane's clock is lost (R23, R134). -/
def State.ltxClockLost (s : State) (n : Nat) : State :=
  let st := s.ltxState n
  if st = Ltx.STARTING ∨ st = Ltx.SQUELCHED ∨ st = Ltx.ACTIVE then
    let s := s.setFld LTX_STATUS.SQ_CAUSE n (s.sqCause n ||| 2 ^ Squelch.CLOCK)
    s.goLtx n Ltx.PENDING
  else s

/-- The lane's clock is back: a first enable executes; after a clock loss the lane starts again without the ENABLE sequence
(R134, R136). -/
def State.ltxClockBack (s : State) (n : Nat) : State :=
  if !s.lineClocks n then s
  else if s.ltxState n ≠ Ltx.PENDING then s.setCause n Squelch.CLOCK false
  else
    let c := s.sqCause n
    if c.testBit Squelch.CLOCK then
      ((s.setFld LTX_STATUS.SQ_CAUSE n (c - 2 ^ Squelch.CLOCK)).goLtx n Ltx.STARTING).unsquelch n
    else s.startLtx n

/-- 5 ms have passed since an enable that still waits (R133); not counted while REFCLK is missing (R289). -/
def State.ltxPendingOver (s : State) (n : Nat) : State :=
  if s.ltxState n = Ltx.PENDING ∧ !(s.sqCause n).testBit Squelch.CLOCK ∧ s.clocksPresent then
    ((s.setFld LTX_STATUS.RESULT n LtxResult.PLL_TIMEOUT).setFlag LTX_CTRL.ENABLE n false).disableLtx n
  else s

/-! ### What a frame start does to the lane's output (R130, R133, R136, R141) -/

/-- The shadow bank. -/
def State.shadowBank (s : State) (n : Nat) : TxBank :=
  { main := s.fld LTX_FIR_CFG.MAIN n
    fir := (List.range 15).map fun j => BitVec.ofNat 10 (s.fld LTX_FIR.TAP (15 * n + j))
    lut := (List.range 64).map fun i => BitVec.ofNat 10 (s.fld LTX_LUT.ENTRY (64 * n + i)) }

/-- An estimate of lane `n` in progress is spoilt (R147). -/
def State.spoilMask (s : State) (n : Nat) : State :=
  s.modGrp (n / 2) fun x => if x.maskLane = n % 2 then { x with maskSpoiled := true } else x

/-- A swap that is due takes effect; MAIN beyond 14 fails it with RANGE. -/
def State.swapNow (s : State) (n : Nat) : State :=
  if !s.flag LTX_STATUS.SWAP_BUSY n then s
  else
    let s := s.setFlag LTX_STATUS.SWAP_BUSY n false
    if 14 < s.fld LTX_FIR_CFG.MAIN n then s.setFld LTX_STATUS.RESULT n LtxResult.RANGE
    else
      let b := s.shadowBank n
      ((s.modLtx n fun x => { x with bank := b }).setFld LTX_STATUS.RESULT n LtxResult.OK).spoilMask n

/-- The pattern written takes effect: a change of `PAT`, `PLACE` or `BYPASS` restarts the generator, and a change of source is recorded
(R141, R142). -/
def State.patternNow (s : State) (n : Nat) : State :=
  let x := s.ltxOf n
  let pat := s.fld LTX_PAT.PAT n
  let place := s.fld LTX_PAT.PLACE n
  let bypass := s.fld LTX_PAT.BYPASS n
  if pat = x.pat ∧ place = x.place ∧ bypass = x.bypass then s
  else
    let s := s.modLtx n fun x => { x with pat := pat, place := place, bypass := bypass, patPos := 0 }
    if pat = x.pat ∧ (pat = 0 ∨ place = x.place) then s else (s.spoilMask n).logLtx n 0

/-- The lane leaves STARTING or SQUELCHED at its frame start (R133, R136). -/
def State.stateNow (s : State) (n : Nat) : State :=
  let st := s.ltxState n
  let x := s.ltxOf n
  if st = Ltx.STARTING ∧ !x.enabling ∧ !x.unsqRunning then
    if s.sqCause n = 0 then s.goLtx n Ltx.ACTIVE else (s.goLtx n Ltx.SQUELCHED).squelchDriver n
  else if st = Ltx.SQUELCHED ∧ s.sqCause n = 0 ∧ !x.unsqRunning then s.goLtx n Ltx.ACTIVE
  else s

/-- The transmit side of a frame start of lane `n`. -/
def State.ltxFrame (s : State) (n : Nat) : State := ((s.swapNow n).patternNow n).stateNow n

/-! ### Symbols and DAC codes (R126 to R129, R139, R140) -/

/-- Symbol `k` of the lane's pattern in force, as a level. -/
def State.patSymbol (s : State) (n k : Nat) : Int :=
  let x := s.ltxOf n
  if x.pat = 4 then
    let i := k % s.fld LTX_PAT.USER_LEN n
    let w := s.fld LTX_UPAT.SYM (512 * n + i / 16) / 4 ^ (15 - i % 16) % 4
    levelOf (w.testBit 1) (w.testBit 0)
  else
    let b := Config.standardPattern x.pat k
    levelOf (b.getLsbD 1) (b.getLsbD 0)

/-- The frame's levels with the pattern in its place: symbols from 156 on, or all (R141). -/
def State.placePattern (s : State) (n : Nat) (levels : List Int) : List Int :=
  let x := s.ltxOf n
  if x.pat = 0 then levels
  else
    let first := if x.place = 1 then 0 else 156
    levels.take first ++ (List.range (levels.length - first)).map fun i => s.patSymbol n (x.patPos + i)

/-- The value before saturation, times 256: 42 u(k) + δ(k)/4 (R126), for the symbol whose window of 31 levels starts 15
symbols earlier. -/
def dacValue (b : TxBank) (w : List Int) : Int :=
  let a := fun (i : Int) => w.getD (15 + i).toNat (-3)
  let u := ((List.range 15).map fun (j : Nat) => (b.fir.getD j 0).toInt * a ((b.main : Int) - (j : Int))).foldl (· + ·) 0
  let sx := fun (i : Int) => ((a i + 3) / 2).toNat
  42 * u + 64 * (b.lut.getD (16 * sx (-1) + 4 * sx 0 + sx 1) 0).toInt

/-- Rounding of a value in 1/256 to the nearest, ties away from zero. -/
def round256 (x : Int) : Int := if 0 ≤ x then (x + 128) / 256 else -((-x + 128) / 256)

/-- The first `k` windows of 31 levels that slide over a list. -/
def windows31 : Nat → List Int → List (List Int)
  | 0, _ => []
  | k + 1, ls => ls.take 31 :: windows31 k ls.tail

/-! ### Register writes -/

/-- A write to `LTX_CTRL_n`. Cause SW follows SQUELCH; its fall clears cause DRIVER too (Table 5-3). -/
def wrLtxCtrl (p : Path) (n v : Nat) (s : State) : State × WStatus :=
  let wasEn := s.flag LTX_CTRL.ENABLE n
  let wasSq := s.flag LTX_CTRL.SQUELCH n
  let en := decide (fieldOf v LTX_CTRL.ENABLE = 1)
  let sq := decide (fieldOf v LTX_CTRL.SQUELCH = 1)
  let again := decide (fieldOf v LTX_CTRL.SWAP = 1) && s.flag LTX_STATUS.SWAP_BUSY n
  let s := plainWrite .LTX_CTRL n v s
  let s := if fieldOf v LTX_CTRL.SWAP = 1 then s.setFlag LTX_STATUS.SWAP_BUSY n true else s
  let s := if again then s.regReject p .LTX_CTRL n v else s
  let s := if sq = wasSq then s else if sq then s.setCause n Squelch.SW true
    else (s.setCause n Squelch.SW false).setCause n Squelch.DRIVER false
  let s := if en then s.enableLtx n else if wasEn then s.endLtx n else s
  (s, if again then .rejected else .ok)

/-- A write to a register of the shadow bank: discarded and recorded while a swap is due (R130). -/
def wrLtxShadow (p : Path) (r : Reg) (n i v : Nat) (s : State) : State × WStatus :=
  if s.flag LTX_STATUS.SWAP_BUSY n then rejectWrite p r i v s else (plainWrite r i v s, .ok)

/-- `LTX_STATUS_n.RAMP` and bit 0 of `CAL_TRIM_BUSY` follow the trims. -/
def State.showTrims (s : State) : State :=
  let ramps := fun (n : Nat) => decide (s.fld LTX_TRIM.SWING n ≠ s.fld LTX_TRIM_NOW.SWING n) ||
    decide (s.fld LTX_TRIM.OFFSET n ≠ s.fld LTX_TRIM_NOW.OFFSET n) || decide (s.fld LTX_TRIM.SKEW n ≠ s.fld LTX_TRIM_NOW.SKEW n)
  let host := hosts32.any fun h => decide ((s.hsiOf h).ampNow ≠ (s.hsiOf h).ampTarget)
  let s' := s.each lanes16 fun n s' => s'.setFlag LTX_STATUS.RAMP n (ramps n)
  let others := s'.fld CAL_TRIM_BUSY.BUSY 0 &&& 6
  s'.setFld CAL_TRIM_BUSY.BUSY 0 (others ||| (if lanes16.any ramps then 1 else 0) ||| (if host then 8 else 0))

/-- The trims in force are the targets. -/
def State.trimAtOnce (s : State) (n : Nat) : State :=
  ((s.setFld LTX_TRIM_NOW.SWING n (s.fld LTX_TRIM.SWING n)).setFld LTX_TRIM_NOW.OFFSET n (s.fld LTX_TRIM.OFFSET n)).setFld
    LTX_TRIM_NOW.SKEW n (s.fld LTX_TRIM.SKEW n)

/-- A write to `LTX_TRIM_n` (R131, R385). -/
def wrLtxTrim (p : Path) (n v : Nat) (s : State) : State × WStatus :=
  if 60 < fieldOf v LTX_TRIM.SWING then rejectWrite p .LTX_TRIM n v s
  else
    let s := plainWrite .LTX_TRIM n v s
    let s := if s.ltxState n = Ltx.DISABLED then s.trimAtOnce n else s
    (s.showTrims, .ok)

/-- The lane belongs to the stripe in force of a channel. -/
def State.inStripe (s : State) (n : Nat) : Bool :=
  chans256.any fun c => s.chEn c && (s.fld CIN_CH_STATUS.STRIPE_NOW c).testBit n

/-- A write to `LTX_PAT_n` (R139 to R142, R152). A USER_LEN outside its range rejects the write whole (log entry 35). -/
def wrLtxPat (p : Path) (n v : Nat) (s : State) : State × WStatus :=
  let pat := fieldOf v LTX_PAT.PAT
  let len := fieldOf v LTX_PAT.USER_LEN
  let fail := fun (r : Nat) => rejectWrite p .LTX_PAT n v (s.setFld LTX_STATUS.RESULT n r)
  if len < 4 ∨ 8192 < len ∨ len % 4 ≠ 0 then fail LtxResult.RANGE
  else if 4 < pat then
    let s := plainWrite .LTX_PAT n (withField v LTX_PAT.PAT (s.fld LTX_PAT.PAT n)) s
    rejectWrite p .LTX_PAT n v s
  else if pat ≠ 0 ∧ s.cinchLane n ∧ s.inStripe n then fail LtxResult.IN_STRIPE
  else if pat ≠ 0 ∧ s.ieee n ∧ fieldOf v LTX_PAT.PLACE = 0 then fail LtxResult.RANGE
  else ((plainWrite .LTX_PAT n v s).setFld LTX_STATUS.RESULT n LtxResult.OK, .ok)

/-- A write to `LTX_UPAT_n_w` (index 512 n + w): discarded and recorded while the user pattern is being transmitted (R140). -/
def wrLtxUpat (p : Path) (i v : Nat) (s : State) : State × WStatus :=
  let n := i / 512
  if (s.ltxOf n).pat = 4 ∧ s.ltxState n = Ltx.ACTIVE then rejectWrite p .LTX_UPAT i v s else (plainWrite .LTX_UPAT i v s, .ok)

/-- A write to `LTX_CHK_n` or `HSI_CHK_n`: PAT values above `top` are rejected and keep the field; a change of PAT seeds the
checker again; CLR zeroes the three counters (R143). `key` names the checker's state. -/
def wrChk (p : Path) (r : Reg) (pat sync clr : Field) (counters : List Reg) (top key i v : Nat) (s : State) : State × WStatus :=
  let bad := decide (top < fieldOf v pat)
  let v' := if bad then withField v pat (s.fld pat i) else v
  let changed := decide (fieldOf v' pat ≠ s.fld pat i)
  let s := plainWrite r i v' s
  let s := if changed then { s.setFlag sync i false with chk := tabMod {} s.chk key fun _ => {} } else s
  let s := if fieldOf v clr = 1 then s.resetRegs counters i else s
  if bad then rejectWrite p r i v s else (s, .ok)

def wrLtxChk (p : Path) (n v : Nat) (s : State) : State × WStatus :=
  wrChk p .LTX_CHK LTX_CHK.PAT LTX_CHK.SYNC LTX_CHK.CLR [.LTX_CHK_SYM, .LTX_CHK_ERR, .LTX_CHK_BIT] 4 n n v s

def wrHsiChk (p : Path) (h v : Nat) (s : State) : State × WStatus :=
  let s := if 3 < fieldOf v HSI_CHK.PAT then s.setFld HSI_STATUS.RESULT h HRes.RANGE else s
  wrChk p .HSI_CHK HSI_CHK.PAT HSI_CHK.SYNC HSI_CHK.CLR [.HSI_CHK_SYM, .HSI_CHK_ERR, .HSI_CHK_BIT] 3 (16 + h) h v s

/-! ### Mask monitor (R144 to R147) -/

/-- The used segments of group `g`: START, UPPER, LOWER. -/
def State.maskSegs (s : State) (g k : Nat) : List (Nat × Nat × Nat) :=
  (List.range k).map fun i => (s.fld LTX_MASK_SEG.START (32 * g + i), s.fld LTX_MASK_SEG.UPPER (32 * g + i),
    s.fld LTX_MASK_SEG.LOWER (32 * g + i))

/-- START values that R145 accepts: 0 first, strictly rising. -/
def startsRise : List Nat → Bool
  | a :: b :: r => decide (a < b) && startsRise (b :: r)
  | _ => true

/-- A write to `LTX_MASK_CFG_g` (R145). -/
def wrLtxMaskCfg (p : Path) (g v : Nat) (s : State) : State × WStatus :=
  let nseg := fieldOf v LTX_MASK_CFG.NSEG
  let avg := fieldOf v LTX_MASK_CFG.AVG
  let was := s.flag LTX_MASK_CFG.EN g
  let en := decide (fieldOf v LTX_MASK_CFG.EN = 1)
  let starts : List Nat := (s.maskSegs g nseg).map (·.1)
  if fieldOf v LTX_MASK_CFG.HYST = 0 ∨ nseg = 0 ∨ 32 < nseg ∨ avg = 0 ∨ 64 < avg then rejectWrite p .LTX_MASK_CFG g v s
  else if was then
    let held := s.fld LTX_MASK_CFG.NSEG g
    let s' := plainWrite .LTX_MASK_CFG g (withField v LTX_MASK_CFG.NSEG held) s
    if nseg = held then (s', .ok) else rejectWrite p .LTX_MASK_CFG g v s'
  else if en && !(decide (starts.headD 1 = 0) && decide (starts.getLastD 0 ≤ 511) && startsRise starts) then rejectWrite p .LTX_MASK_CFG g v s
  else
    let s := plainWrite .LTX_MASK_CFG g v s
    (if en then s.modGrp g fun x => { x with maskRuns := [(0, 0), (0, 0)], maskSpoiled := false, maskSum := [], maskBlocks := 0 } else s,
      .ok)

/-- A write to `LTX_MASK_SEG_g_s` (index 32 g + s), only while EN is 0. -/
def wrLtxMaskSeg (p : Path) (i v : Nat) (s : State) : State × WStatus :=
  if s.flag LTX_MASK_CFG.EN (i / 32) then rejectWrite p .LTX_MASK_SEG i v s else (plainWrite .LTX_MASK_SEG i v s, .ok)

/-- Segment of bin `b` among START values. -/
def segOf (starts : List Nat) (b : Nat) : Nat := (starts.countP fun x => decide (x ≤ b)) - 1

/-- The judgement of an estimate: levels in 0.01 dB by bin; failing segments, worst bin and its margin in 0.01 dB (R145). -/
def judgeMask (segs : List (Nat × Nat × Nat)) (levels : List Int) : Nat × Nat × Int :=
  let starts := segs.map (·.1)
  let lim := fun (x : Nat) => if x = 0x80 then none else some (toSigned 8 x * 50)
  (levels.zipIdx.drop 1).foldl (fun (acc : Nat × Nat × Int) e =>
    let k := segOf starts e.2
    let seg := segs.getD k (0, 0x80, 0x80)
    let m₁ := (lim seg.2.1).map fun u => u - e.1
    let m₂ := (lim seg.2.2).map fun l => e.1 - l
    let m := match m₁, m₂ with
      | some a, some b => some (min a b)
      | some a, none => some a
      | none, some b => some b
      | none, none => none
    match m with
    | none => acc
    | some m =>
      let viol := if m < 0 then acc.1 ||| 2 ^ k else acc.1
      if m < acc.2.2 then (viol, e.2, m) else (viol, acc.2.1, acc.2.2)) (0, 0, 32767)

/-- The estimate of the lane in turn is judged (R146). -/
def State.maskJudge (s : State) (n : Nat) (levels : List Int) : State :=
  let g := n / 2
  let (viol, bin, margin) := judgeMask (s.maskSegs g (s.fld LTX_MASK_CFG.NSEG g)) levels
  let s := (s.setFld LTX_MASK_VIOL.VIOL n viol).setFld LTX_MASK_WORST.BIN n bin
  let s := s.setFld LTX_MASK_WORST.MARGIN n (ofSigned 16 (clampInt (-32768) 32767 margin))
  let s := s.count LTX_MASK_EST.COUNT n
  let (f, p) := (s.grpOf g).maskRuns.getD (n % 2) (0, 0)
  let (f, p) := if viol ≠ 0 then (f + 1, 0) else (0, p + 1)
  let s := s.modGrp g fun x => { x with maskRuns := x.maskRuns.set (n % 2) (f, p) }
  let hyst := s.fld LTX_MASK_CFG.HYST g
  let failing := s.flag LTX_MASK_WORST.FAIL n
  if !failing && decide (hyst ≤ f) then
    let s := (s.setFlag LTX_MASK_WORST.FAIL n true).logLtx n 1
    if s.flag LTX_MASK_CFG.ACTION g then s.alert Alert.SPECTRUM else s
  else if failing && decide (hyst ≤ p) then (s.setFlag LTX_MASK_WORST.FAIL n false).logLtx n 1
  else s

/-! ### The driver port's software side -/

/-- A register named in a sequence of lane `n`. -/
def State.drvOwns (s : State) (n ptr : Nat) : Bool :=
  [DrvSeq.ENABLE, DrvSeq.SQUELCH, DrvSeq.UNSQUELCH].any fun q => (s.drvWrites n q).any fun w => decide (w.1 = ptr)

/-- A write to `LTX_DRV_CMD_g` (R150). The pointer as the image's sequences spell it has its first byte low. -/
def wrLtxDrvCmd (g v : Nat) (s : State) : State × WStatus :=
  if fieldOf v LTX_DRV_CMD.GO = 1 ∧ s.headless then (s, .busy)
  else
    let s := plainWrite .LTX_DRV_CMD g v s
    if fieldOf v LTX_DRV_CMD.GO = 0 then (s, .ok)
    else
      let l := fieldOf v LTX_DRV_CMD.LANE
      let hi := if s.flag LTX_DRV_CFG.PTR16 g then fieldOf v LTX_DRV_CMD.REGHI else 0
      let ptr := hi * 256 + fieldOf v LTX_DRV_CMD.REG
      let n := 2 * g + l
      s.portGo g .driver (s.drvOwns n ptr && decide (s.ltxState n ≠ Ltx.DISABLED))
        ⟨fieldOf v LTX_DRV_CMD.RD = 1, l, ptr, fieldOf v LTX_DRV_CMD.WDATA⟩

/-- A write to `LTX_DRV_CFG_g` (R94, R150). -/
def wrLtxDrvCfg (p : Path) (g v : Nat) (s : State) : State × WStatus :=
  wrPortCfg p g v .driver (fun l => decide (s.ltxState (2 * g + l) = Ltx.DISABLED)) s

/-- The hardware write in progress on the driver port ends (R149): a failure is tried once more; the sequence ends with its
last write or a second failure; an abandoned enable ends here. -/
def State.drvHwDone (s : State) (g : Nat) (ok : Bool) : State :=
  match (s.grpOf g).drv.hw with
  | [] => s
  | t :: rest =>
    let s := s.portSpoke g .driver
    let n := 2 * g + t.lane
    let more := match rest with
      | t' :: _ => decide (t'.lane = t.lane ∧ t'.seq = t.seq ∧ t'.idx = t.idx + 1)
      | [] => false
    if (s.ltxOf n).abandon then
      ((s.modPort g .driver fun x => { x with hw := rest }).disableLtx n).portNext g .driver
    else if !ok && decide (t.attempt = 0) && decide (s.ltxState n ≠ Ltx.DISABLED) then
      s.modPort g .driver fun x => { x with hw := { t with attempt := 1 } :: rest }
    else if ok && more then (s.modPort g .driver fun x => { x with hw := rest }).portNext g .driver
    else
      -- the writes left of a failed sequence are dropped
      let left := rest.dropWhile fun (t' : HwTx) => decide (t'.lane = t.lane ∧ t'.seq = t.seq ∧ t'.idx > t.idx)
      ((s.modPort g .driver fun x => { x with hw := left }).seqDone n t.seq ok).portNext g .driver

/-! ### The commands -/

/-- The value of `LTX_CTRL_n` with one field changed. -/
def State.ltxCtrlValue (s : State) (n : Nat) (f : Field) (x : Nat) : Nat := withField (s.writeBack .LTX_CTRL n) f x

/-- LTX_ENABLE, R133. -/
def execLtxEnable (p : Path) (n : Lane) (s : State) : Res :=
  let v := s.ltxCtrlValue n LTX_CTRL.ENABLE 1
  writeCommand p .LTX_CTRL n v (wrLtxCtrl p n v) s

/-- LTX_DISABLE, R151. -/
def execLtxDisable (p : Path) (n : Lane) (s : State) : Res :=
  let v := s.ltxCtrlValue n LTX_CTRL.ENABLE 0
  writeCommand p .LTX_CTRL n v (wrLtxCtrl p n v) s

/-- SWAP, R130. -/
def execSwap (p : Path) (n : Lane) (s : State) : Res :=
  let v := s.ltxCtrlValue n LTX_CTRL.SWAP 1
  writeCommand p .LTX_CTRL n v (wrLtxCtrl p n v) s

/-- LTX_SQUELCH, R135. -/
def execLtxSquelch (p : Path) (n : Lane) (on : Bool) (s : State) : Res :=
  let v := s.ltxCtrlValue n LTX_CTRL.SQUELCH (if on then 1 else 0)
  writeCommand p .LTX_CTRL n v (wrLtxCtrl p n v) s

/-- LTX_TRIM_WRITE, R131. -/
def execLtxTrimWrite (p : Path) (n : Lane) (swing : BitVec 6) (offset : BitVec 7) (skew : BitVec 6) (s : State) : Res :=
  let v := swing.toNat * 2 ^ 24 + offset.toNat * 2 ^ 16 + skew.toNat * 2 ^ 8
  writeCommand p .LTX_TRIM n v (wrLtxTrim p n v) s

/-- TRIM_RAMP_STEP, R385: 10 µs: each trim moves one code towards its target. -/
def execTrimRampStep (s : State) : Res :=
  let s := s.each lanes16 fun n s =>
    let one := fun (f t : Field) (signed : Bool) (s : State) =>
      let get := fun (f : Field) => if signed then toSigned f.width (s.fld f n) else (s.fld f n : Int)
      s.setFld f n (ofSigned f.width (stepTowards (get f) (get t)))
    let swing := s.fld LTX_TRIM_NOW.SWING n
    let s := one LTX_TRIM_NOW.SKEW LTX_TRIM.SKEW true
      (one LTX_TRIM_NOW.OFFSET LTX_TRIM.OFFSET true (one LTX_TRIM_NOW.SWING LTX_TRIM.SWING false s))
    if s.fld LTX_TRIM_NOW.SWING n = swing then s else s.spoilMask n
  let s := s.each hosts32 fun h s => s.modHsi h fun x =>
    { x with ampNow := (stepTowards (x.ampNow : Int) (x.ampTarget : Int)).toNat }
  let s := s.modHka fun x => { x with refs := (stepTowards x.refs.1 x.refTo.1, stepTowards x.refs.2 x.refTo.2) }
  let s := s.each (List.range 32) fun n s => s.modDac n fun x => { x with trim := stepTowards x.trim x.trimTo }
  .next s.showTrims.showHkaTrims

/-- TXDISABLE_ASSERT, R135: a TxDisable pin, after its deglitch. -/
def execTxdisableAssert (pin : Fin 16) (s : State) : Res :=
  .next (if s.pinRole pin = 1 then
    (s.setPin pin true).each (s.pinLaneList pin) fun n s => s.setCause n Squelch.TXDIS true else s)

/-- TXDISABLE_DEASSERT, R135: the cause clears on the lanes no other asserted TxDisable pin names. -/
def execTxdisableDeassert (pin : Fin 16) (s : State) : Res :=
  .next (if s.pinRole pin = 1 then
    let s := s.setPin pin false
    s.each (s.pinLaneList pin) fun n s =>
      if lanes16.any fun q => decide (s.pinRole q = 1) && s.pin q && (s.pinLaneList q).contains n then s
      else s.setCause n Squelch.TXDIS false
  else s)

/-- CMIS_TX_DISABLE_SET, R135, R318. -/
def execCmisTxDisableSet (n : Lane) (s : State) : Res :=
  .next ({ s with pins := { s.pins with cmisTx := s.pins.cmisTx ||| BitVec.twoPow 16 n } }.setCause n Squelch.CMIS true)

/-- CMIS_TX_DISABLE_CLEAR, R135. -/
def execCmisTxDisableClear (n : Lane) (s : State) : Res :=
  .next ({ s with pins := { s.pins with cmisTx := s.pins.cmisTx &&& ~~~(BitVec.twoPow 16 n) } }.setCause n Squelch.CMIS false)

/-- DRIVER_SEQUENCE_WRITE_DONE, R149: the write in progress and its read-back. -/
def execDriverSequenceWriteDone (g : Grp) (ack : Bool) (rdata : Byte) (s : State) : Res :=
  match (s.grpOf g).drv.hw with
  | [] => .next s
  | t :: _ => .next (if (s.grpOf g).drv.swRunning then s else s.drvHwDone g (ack && decide (rdata.toNat = t.value)))

/-- DRV_GO, R150. -/
def execDrvGo (p : Path) (g : Grp) (rd : Bool) (l : Fin 2) (reg : BitVec 16) (value : Byte) (s : State) : Res :=
  let v := 2 ^ 31 + (if rd then 2 ^ 30 else 0) + l.val * 2 ^ 29 + (reg.toNat % 256) * 2 ^ 16 + reg.toNat / 256 * 256 + value.toNat
  writeCommand p .LTX_DRV_CMD g v (wrLtxDrvCmd g v) s

/-- DRV_TRANSACTION_DONE, R150. -/
def execDrvTransactionDone (g : Grp) (ack : Bool) (rdata : Byte) (s : State) : Res :=
  .next (if (s.grpOf g).drv.swRunning then s.portSwEnd g .driver (if ack then PortResult.OK else PortResult.NACK) rdata else s)

/-- LTX_PAT_WRITE, R141. -/
def execLtxPatWrite (p : Path) (n : Lane) (pat : Fin 8) (place bypass : Bool) (userLen : BitVec 14) (s : State) : Res :=
  let v := userLen.toNat * 2 ^ 16 + (if bypass then 32 else 0) + (if place then 16 else 0) + pat.val
  writeCommand p .LTX_PAT n v (wrLtxPat p n v) s

/-- LTX_CHK_CLR, R143. -/
def execLtxChkClr (p : Path) (n : Lane) (s : State) : Res :=
  let v := withField (s.writeBack .LTX_CHK n) LTX_CHK.CLR 1
  writeCommand p .LTX_CHK n v (wrLtxChk p n v) s

/-- MASK_ENABLE, R145. -/
def execMaskEnable (p : Path) (g : Grp) (s : State) : Res :=
  let v := withField (s.writeBack .LTX_MASK_CFG g) LTX_MASK_CFG.EN 1
  writeCommand p .LTX_MASK_CFG g v (wrLtxMaskCfg p g v) s

/-- A block of the estimate in progress: 1,024 codes of a frame of lane `n` from a free offset on (R144; the rule does not define the
LFSR: log entry 163), symbols 156 to 69,787 or, in a RAW pattern, any of the frame. `codes` are the codes of the frame's symbols. -/
def State.maskBlock (s : State) (n : Nat) (codes : List Int) : State :=
  let g := n / 2
  let x := s.grpOf g
  if !s.flag LTX_MASK_CFG.EN g || decide (x.maskLane ≠ n % 2) || decide (codes.length < 1024) ||
      decide (16 * s.fld LTX_MASK_CFG.AVG g ≤ x.maskBlocks) then s
  else
    let first := if (s.ltxOf n).pat ≠ 0 ∧ (s.ltxOf n).place = 1 ∨ s.ieee n then 0 else 156
    let (v, s) := s.fresh
    let p := blockPower ((codes.drop (first + v.toNat % (codes.length - 1023 - first))).take 1024)
    s.modGrp g fun x => { x with maskSum := if x.maskSum.isEmpty then p else List.zipWith (· + ·) x.maskSum p,
                                 maskBlocks := x.maskBlocks + 1 }

/-- The estimate in progress of group `g` starts afresh, with lane `l` of the group. -/
def State.maskFresh (s : State) (g l : Nat) : State :=
  s.modGrp g fun x => { x with maskLane := l, maskSpoiled := false, maskSum := [], maskBlocks := 0 }

/-- MASK_ESTIMATE_DONE, R144 to R147: lane `k` of the group, where it is the one in turn, has given its 16 × AVG blocks, and its levels are
judged. A lane that does not transmit is skipped; a spoilt estimate is restarted. -/
def execMaskEstimateDone (g : Grp) (k : Fin 2) (s : State) : Res :=
  let x := s.grpOf g
  if !s.flag LTX_MASK_CFG.EN g || decide (x.maskLane ≠ k) then .next s
  else
    let n := 2 * g.val + x.maskLane
    if s.ltxState n ≠ Ltx.ACTIVE then .next ((s.count LTX_MASK_SKIPS.COUNT n).maskFresh g (1 - x.maskLane))
    else if x.maskSpoiled then .next (s.maskFresh g x.maskLane)
    else if x.maskBlocks < 16 * s.fld LTX_MASK_CFG.AVG g then .next s
    else .next ((s.maskJudge n (maskLevels x.maskSum)).maskFresh g (1 - x.maskLane))

/-- Registers of a checker: SYNC, SLIPS, the counters, the instance. -/
def chkFields : CheckerId → Field × Field × Field × Field × Field × Field × Nat
  | .line n => (LTX_CHK.PAT, LTX_CHK.SYNC, LTX_CHK.SLIPS, LTX_CHK_SYM.COUNT, LTX_CHK_ERR.COUNT, LTX_CHK_BIT.COUNT, n.val)
  | .host h => (HSI_CHK.PAT, HSI_CHK.SYNC, HSI_CHK.SLIPS, HSI_CHK_SYM.COUNT, HSI_CHK_ERR.COUNT, HSI_CHK_BIT.COUNT, h.val)

/-- Where the state of a checker is kept. -/
def chkKey : CheckerId → Nat
  | .line n => n.val
  | .host h => 16 + h.val

/-- Symbol `k` of the pattern that the checker aligns to: SSPRQ, or the user pattern in the lane's memory (R140, R143). -/
def State.chkPattern (s : State) (pat n k : Nat) : BitVec 2 :=
  if pat = 4 then
    let i := k % s.fld LTX_PAT.USER_LEN n
    BitVec.ofNat 2 (s.fld LTX_UPAT.SYM (512 * n + i / 16) / 4 ^ (15 - i % 16))
  else Config.standardPattern pat k

/-- A checker while it reads symbols: its state, sync, and what it has counted. -/
structure ChkRun where
  x : ChkX
  sync : Bool
  syms : Nat := 0
  errs : Nat := 0
  bits : Nat := 0
  slips : Nat := 0
  deriving DecidableEq, Repr

/-- A checker that seeds itself or searches again. -/
def ChkX.again : ChkX := {}

/-- A symbol of a checker in sync: counted, and with its error judged; 64 errors within 1,024 symbols lose sync (R143). -/
def ChkRun.inSync (r : ChkRun) (expect got : BitVec 2) : ChkRun :=
  let x := { r.x with at_ := r.x.at_ + 1 }
  let r := { r with syms := r.syms + 1, x := x }
  if expect = got then r
  else
    let errs := (x.at_ :: r.x.errs).filter fun a => decide (x.at_ < a + 1024)
    let r := { r with errs := r.errs + 1, bits := r.bits + (List.range 2).countP fun i => (expect ^^^ got).getLsbD i }
    if 64 ≤ errs.length then { r with sync := false, slips := r.slips + 1, x := .again } else { r with x := { x with errs := errs } }

/-- A symbol of a checker that seeds itself (`expect` from the seed on) or searches for its pattern (`first`: its first 64 symbols); a
search that has passed 8,192 symbols starts over (R143; log entry 164). -/
def ChkRun.step (pat : Nat) (expect : List (BitVec 2) → Nat → BitVec 2) (first : List (BitVec 2)) (r : ChkRun) (got : BitVec 2) : ChkRun :=
  let x := r.x
  if r.sync then r.inSync (expect x.seed x.at_) got
  else if pat ≤ 2 then
    if x.seed.length < 32 then { r with x := { x with seed := x.seed ++ [got] } }
    else if expect x.seed x.at_ ≠ got then { r with x := .again }
    else { r with sync := decide (64 ≤ x.at_ + 1), x := { x with at_ := x.at_ + 1 } }
  else
    let recent := (x.seed ++ [got]).drop (x.seed.length + 1 - 64)
    if recent = first then { r with sync := true, x := { at_ := 64 } }
    else if 8192 ≤ x.at_ + 1 then { r with x := .again }
    else { r with x := { x with seed := recent, at_ := x.at_ + 1 } }

/-- What a checker has seen when it has read symbols in its pattern `p`. -/
def State.chkSees (s : State) (c : CheckerId) (syms : List (BitVec 2)) : ChkRun :=
  let (pat, sync, _, _, _, _, i) := chkFields c
  let p := s.fld pat i
  let expect := fun (seed : List (BitVec 2)) k => if p ≤ 2 then Config.prbsAfter p seed k else s.chkPattern p i k
  let first := if p ≤ 2 then [] else (List.range 64).map (s.chkPattern p i)
  syms.foldl (ChkRun.step p expect first) { x := Tab.get (fun _ => {}) s.chk (chkKey c), sync := s.flag sync i }

/-- The checker reads symbols: sync, slips and counts follow (R143). -/
def State.chkFeed (s : State) (c : CheckerId) (syms : List (BitVec 2)) : State :=
  let (pat, sync, slips, sy, er, bi, i) := chkFields c
  if s.fld pat i = 0 ∨ syms.isEmpty then s
  else
    let r := s.chkSees c syms
    let s := ((s.count sy i r.syms).count er i r.errs).count bi i r.bits
    let s := (List.range r.slips).foldl (fun s _ => s.countSat slips i) (s.setFlag sync i r.sync)
    { s with chk := tabMod {} s.chk (chkKey c) fun _ => r.x }

/-- CHECKER_SYNC_GAIN, R143: the checker has read symbols up to 64 error-free ones in a row. -/
def execCheckerSyncGain (seen : CheckerReport) (s : State) : Res := .next (s.chkFeed seen.c seen.syms)

/-- CHECKER_SYNC_LOSS, R143: the checker has read symbols up to the 64th error within 1,024; `errs` symbols and `bits` bits of them were in
error. A report whose counts are not those of its symbols is none of this checker (log entry 1). -/
def execCheckerSyncLoss (c : CheckerId) (syms : List (BitVec 2)) (errs bits : Nat) (s : State) : Res :=
  let r := s.chkSees c syms
  .next (if r.errs = errs ∧ r.bits = bits then s.chkFeed c syms else s)

/-- The rate of a relaying lane's phase interpolator follows its lower-numbered host lane, in 0.01 ppm (R138). -/
def State.slewTo (s : State) (n h : Nat) : State :=
  let r := toSigned 16 (s.fld HSI_FREQ.FREQ h)
  s.modLtx n fun x => { x with rate := r }

/-- HOST_RATE_SLEW_DONE, R138. -/
def execHostRateSlewDone (n : Lane) (s : State) : Res :=
  match (s.hostsOf n).head? with
  | none => .next s
  | some h => .next (if s.svc n = Svc.TRANSPARENT ∧ s.hrx h = HRx.LOCKED then
      (s.slewTo n h).modLtx n fun x => { x with relaying := true } else s)

end Sys2Proof.Machine
end

