-- ==== Sys2Proof/Machine/Pool.lean ====
section
/-! DEFINITION. The equaliser pool of a group, chapter 4: slices and units and their counters, coefficients, the fill and
the reduction, pool operations and their sequencer, accounts, and the commands of the family. -/
namespace Sys2Proof.Machine

/-! ### Slices and units (R118, R119) -/

/-- The state of slice `k` of group `g`. -/
def State.sliceState (s : State) (g k : Nat) : Nat := s.fld EQP_SLICE_STATE.STATES g / 4 ^ k % 4

/-- The counter of a slice state. -/
def sliceCounter (st : Nat) : Field :=
  if st = Slice.FREE then EQP_POOL.FREE else if st = Slice.ALLOCATED then EQP_POOL.ALLOCATED
  else if st = Slice.UNDER_TEST then EQP_POOL.UNDER_TEST else EQP_POOL.FENCED

/-- A transition of slice `k`: the state vector changes, the counter of the state it leaves falls and that of the state it
enters rises (R119). -/
def State.setSlice (s : State) (g k st : Nat) : State :=
  let old := s.sliceState g k
  if old = st then s else
    let s := s.setFld EQP_SLICE_STATE.STATES g (s.fld EQP_SLICE_STATE.STATES g + st * 4 ^ k - old * 4 ^ k)
    let s := s.setFld (sliceCounter old) g (s.fld (sliceCounter old) g + 15)
    s.setFld (sliceCounter st) g (s.fld (sliceCounter st) g + 1)

/-- How many slices of the group are in state `st`. -/
def State.sliceCount (s : State) (g st : Nat) : Nat := (List.range 13).countP fun k => decide (s.sliceState g k = st)

/-- The lowest-numbered slice of the group in state `st`. -/
def State.lowestSlice (s : State) (g st : Nat) : Option Nat :=
  (List.range 13).find? fun k => decide (s.sliceState g k = st)

/-- The field of MLSE unit U0 or U1. -/
def unitField (u : Nat) : Field := if u = 0 then EQP_POOL.U0 else EQP_POOL.U1

/-- The state of unit `u`. -/
def State.unitState (s : State) (g u : Nat) : Nat := s.fld (unitField u) g

/-- The lowest-numbered FREE unit. -/
def State.freeUnit (s : State) (g : Nat) : Option Nat := [0, 1].find? fun u => decide (s.unitState g u = Slice.FREE)

/-- Unit `u` becomes ALLOCATED to lane `l` of the group. -/
def State.takeUnit (s : State) (g u l : Nat) : State :=
  (s.setFld (unitField u) g Slice.ALLOCATED).modGrp g fun x => { x with unitLane := x.unitLane.set u (some l) }

/-- Unit `u` becomes FREE, unless it is fenced. -/
def State.dropUnit (s : State) (g u : Nat) : State :=
  let s := if s.unitState g u = Slice.ALLOCATED then s.setFld (unitField u) g Slice.FREE else s
  s.modGrp g fun x => { x with unitLane := x.unitLane.set u none }

/-- The units that serve lane `l` of the group become FREE. -/
def State.dropUnits (s : State) (g l : Nat) : State :=
  s.each [0, 1] fun u s => if (s.grpOf g).unitLane.getD u none = some l then s.dropUnit g u else s

/-! ### Allocation of a lane -/

/-- The number of slices lane `n` holds. -/
def State.slices (s : State) (n : Nat) : Nat := s.fld EQP_ALLOC.SLICES n

/-- The slice that serves position `p` of lane `n`; 15: none. -/
def State.posSlice (s : State) (n p : Nat) : Nat := s.fld EQP_POS.POS n / 16 ^ p % 16

/-- Position `p` of lane `n` is served by slice `k` (15: none). -/
def State.setPos (s : State) (n p k : Nat) : State :=
  let old := s.posSlice n p
  let mask := s.fld EQP_ALLOC.SLICE_MASK n
  let mask := if old < 13 ∧ mask.testBit old then mask - 2 ^ old else mask
  let s := s.setFld EQP_POS.POS n (s.fld EQP_POS.POS n + k * 16 ^ p - old * 16 ^ p)
  s.setFld EQP_ALLOC.SLICE_MASK n (if k < 13 then mask ||| 2 ^ k else mask)

/-- The detector of lane `n` (Table 4-2). -/
def State.det (s : State) (n : Nat) : Nat := s.fld EQP_ALLOC.DET n

/-- The cursor tap of lane `n`. -/
def State.cursor (s : State) (n : Nat) : Nat := s.fld EQP_ALLOC.CURSOR n

/-! ### Coefficients (R96, R105, R125) -/

/-- The 24-bit accumulator of FFE tap `t`. -/
def EqCoefs.tap (c : EqCoefs) (t : Nat) : BitVec 24 := Tab.get (fun _ => 0) c.ffe t

/-- `c` with the accumulator of tap `t` holding `v`. -/
def EqCoefs.setTap (c : EqCoefs) (t : Nat) (v : BitVec 24) : EqCoefs :=
  { c with ffe := Tab.set natLt (fun _ => 0) c.ffe t v }

/-- A 12-bit coefficient as the top 12 bits of an accumulator. -/
def accOf (c : BitVec 12) : BitVec 24 := c ++ (0 : BitVec 12)

/-- The coefficient of an accumulator: its top 12 bits (R105). -/
def coefOf (a : BitVec 24) : Nat := a.toNat / 2 ^ 12

/-- Arithmetic on accumulators saturates at the range limits (R96). -/
def satAcc (x : Int) : BitVec 24 := BitVec.ofInt 24 (clampInt (-(2 ^ 23)) (2 ^ 23 - 1) x)

/-- The registers that report a lane's post-filter and target taps; a target field not in use reads 0. -/
def State.showTaps (s : State) (n : Nat) : State :=
  let c := (s.eqpOf n).live
  let s := s.setFld EQP_POST.P1 n (coefOf c.p1)
  let s := s.setFld EQP_POST.P2 n (coefOf c.p2)
  let s := s.setFld EQP_TARGET.A n (if s.det n = Det.MLSE64 then coefOf c.a else 0)
  s.setFld EQP_TARGET.B1 n (if s.det n = Det.DFE1 then coefOf c.b1 else 0)

/-- The cases of R107 that apply to lane `n` now. -/
def State.showFreeze (s : State) (n : Nat) : State :=
  let x := s.eqpOf n
  let b := fun (on : Bool) (w : Nat) => if on then w else 0
  s.setFld EQP_STATUS.FREEZE_CAUSE n (b (s.flag EQP_CTRL.FREEZE n) 8 + b x.clipped 4 + b x.slowFrame 2 + b x.low 1)

/-- The coefficients of a lane change in one operation. -/
def State.modCoefs (s : State) (n : Nat) (f : EqCoefs → EqCoefs) : State :=
  (s.modEqp n fun x => { x with live := f x.live }).showTaps n

/-- Taps of position `p` go to zero. -/
def zeroPos (c : EqCoefs) (p : Nat) : EqCoefs := (List.range 16).foldl (fun c j => c.setTap (16 * p + j) 0) c

/-- The detector of lane `n` becomes `d`. -/
def State.setDet (s : State) (n d : Nat) : State := (s.setFld EQP_ALLOC.DET n d).showTaps n

/-- Lane `n` goes to DFE1 and its unit is freed; b1 starts at 0 (DESIGN CHOICE, log entry 20: R106 states the start of b1
for training only). -/
def State.toDfe (s : State) (n : Nat) : State :=
  ((s.dropUnits (n / 2) (n % 2)).modCoefs n fun c => { c with b1 := 0 }).setDet n Det.DFE1

/-- A position of lane `n` is added on slice `k`, with all taps zero. -/
def State.addPos (s : State) (n k : Nat) : State :=
  let p := s.slices n
  let s := (s.setSlice (n / 2) k Slice.ALLOCATED).setPos n p k
  (s.setFld EQP_ALLOC.SLICES n (p + 1)).modCoefs n fun c => zeroPos c p

/-- The highest position of lane `n` is removed and its slice freed; its taps, beyond the allocation now, read 0 (R125). -/
def State.removePos (s : State) (n : Nat) : State :=
  let p := s.slices n - 1
  let k := s.posSlice n p
  let s := s.resetRange .EQP_COEF (80 * n + 8 * p) 8
  let s := if k < 13 then s.setSlice (n / 2) k Slice.FREE else s
  let s := (s.setPos n p 15).setFld EQP_ALLOC.SLICES n p
  s.modCoefs n fun c => zeroPos c p

/-! ### Records and status -/

/-- The words of EQP_AUDIT: `EQP_POOL_g` and `EQP_SLICE_STATE_g`. -/
def State.poolWords (s : State) (g : Nat) : List Nat :=
  [(s.reg .EQP_POOL g).toNat % 2 ^ 32, (s.reg .EQP_SLICE_STATE g).toNat % 2 ^ 32]

/-- BUSY and QUEUED of the group follow its list of operations (R112); `EQP_STATUS_n.OP` and `RAMP` follow the operation in
progress. FUSE and UNFUSE act on both lanes. -/
def State.showOps (s : State) (g : Nat) : State :=
  let ops := (s.grpOf g).ops
  let waits := match ops with
    | [] => false
    | o :: _ => !o.started && !s.locked (2 * g + o.lane)
  let s := (s.setFlag EQP_OP_STATUS.BUSY g (!ops.isEmpty)).setFlag EQP_OP_STATUS.QUEUED g waits
  s.each [0, 1] fun l s =>
    let acts := match ops with
      | [] => false
      | o :: _ => o.started && (o.lane = l || o.op = Pool.FUSE || o.op = Pool.UNFUSE)
    let ramps := match ops with
      | [] => false
      | o :: _ => o.started && o.lane = l && (o.op = Pool.REMOVE || o.op = Pool.UNFUSE && o.frames < 64)
    (s.setFlag EQP_STATUS.OP (2 * g + l) acts).setFlag EQP_STATUS.RAMP (2 * g + l) ramps

/-- A pool operation acts on lane `n` (`EQP_STATUS_n.OP`). -/
def State.opActs (s : State) (n : Nat) : Bool := s.flag EQP_STATUS.OP n

/-- RESULT and SOURCE of the group's last operation. -/
def State.opResult (s : State) (g result source : Nat) : State :=
  (s.setFld EQP_OP_STATUS.RESULT g result).setFld EQP_OP_STATUS.SOURCE g source

/-- The group's sequencer and its tests under an audit hold: R120, R56. -/
def State.poolHold (s : State) (g : Nat) : Bool := s.flag EQP_AUDIT.AUDIT_FAIL g

/-! ### Acceptance (R110, R111) -/

/-- The slice that an operation takes: the one named, or the lowest-numbered FREE one; where none is FREE, a slice under
test serves an operation from software or relief, whose start aborts the test (R117, R446). -/
def State.targetSlice (s : State) (g dest source : Nat) : Option Nat :=
  if dest < 13 then (if s.sliceState g dest = Slice.FREE then some dest else none)
  else match s.lowestSlice g Slice.FREE with
    | some k => some k
    | none => if source = 2 then none else s.lowestSlice g Slice.UNDER_TEST

/-- The refusal of an operation, in the order of R111's list from the third item on; no refusal where it is accepted.
An operation whose lane does not hold the detector that Table 4-5 has it leave is refused RANGE (DESIGN CHOICE, log entry
21). -/
def State.refusal (s : State) (g : Nat) (o : PoolOp) : Option Nat :=
  let n := 2 * g + o.lane
  let m := 2 * g + (1 - o.lane)
  let N := s.slices n
  let range :=
    if o.op = Pool.MIGRATE then decide (N ≤ o.pos)
    else if o.op = Pool.ADD then decide (N = 0 ∨ 10 ≤ N ∨ 12 ≤ N + s.slices m)
    else if o.op = Pool.REMOVE then decide (N ≤ 2 ∨ s.cursor n / 16 = N - 1)
    else if o.op = Pool.FUSE then decide (N = 0 ∨ s.det n ≠ Det.MLSE16 ∨ s.det m = Det.MLSE64)
    else if o.op = Pool.UNFUSE then decide (s.det n ≠ Det.MLSE64)
    else if o.op = Pool.TO_DFE then decide (N = 0 ∨ s.det n ≠ Det.MLSE16)
    else if o.op = Pool.TO_MLSE then decide (N = 0 ∨ s.det n ≠ Det.DFE1 ∨ s.det m = Det.MLSE64)
    else true
  let spare :=
    if o.op = Pool.MIGRATE then decide (o.dest ≠ 13 ∧ o.dest ≠ 14) && (s.targetSlice g o.dest o.source).isNone
    else if o.op = Pool.ADD then (s.targetSlice g 15 o.source).isNone
    else if o.op = Pool.FUSE then decide (s.unitState g 0 = Slice.FENCED ∨ s.unitState g 1 = Slice.FENCED)
    else if o.op = Pool.TO_MLSE then (s.freeUnit g).isNone
    else false
  if range then some PoolResult.RANGE
  else if spare then some PoolResult.NO_SPARE
  else if o.op = Pool.MIGRATE ∧ (o.dest = 13 ∨ o.dest = 14) then some PoolResult.RANGE
  else if s.poolHold g || (o.op = Pool.MIGRATE && s.lfecHold g) then some PoolResult.AUDIT_HOLD
  else none

/-- Where a relief operation joins the group's list: behind the operation in progress and earlier relief operations, ahead
of queued ones (R117). -/
def insertRelief (o : PoolOp) : List PoolOp → List PoolOp
  | [] => [o]
  | p :: ps => if p.started || p.source = 1 then p :: insertRelief o ps else o :: p :: ps

/-- The group's list of operations changes; the next operation takes a new number. -/
def State.takeOp (s : State) (g source : Nat) (f : Nat → List PoolOp → List PoolOp) : State :=
  ((s.modGrp g fun x => { x with ops := f x.opSeq x.ops, opSeq := x.opSeq + 1 }).setFld EQP_OP_STATUS.SOURCE g source).showOps g

/-- The group takes no operation now: one is in progress or queued, the controllers restart (R26), or the group is closing for a
load (R288). -/
def State.opsShut (s : State) (g : Nat) : Bool := !(s.grpOf g).ops.isEmpty || s.headless || s.groupClosing g

/-- A request for a pool operation: refused with its result, or accepted to start at the lane's next frame boundary (R110,
R111, R112). A relief operation waits for the one in progress instead of BUSY (R117), and its conditions are judged when
it starts. R288 names no result for a request while the group closes for a load: BUSY (DESIGN CHOICE, log entry 155). -/
def State.requestOp (s : State) (g : Nat) (o : PoolOp) : State :=
  if o.source = 1 then s.takeOp g 1 fun id ops => insertRelief { o with id := id } ops
  else
    if s.opsShut g then s.opResult g PoolResult.BUSY o.source
    else match s.refusal g o with
      | some r => s.opResult g r o.source
      | none => s.takeOp g o.source fun id _ => [{ o with id := id }]

/-- The MIGRATE that a mismatch brings, lane, position and target, is requested as soon as the group takes operations and the
controllers run (R114, R26). Each step is an event: a refusal is recorded. -/
def State.runFollow (s : State) (g : Nat) : State :=
  match (s.grpOf g).follow with
  | [] => s
  | (l, p, dest) :: rest =>
    if s.opsShut g then s
    else
      let o : PoolOp := { op := Pool.MIGRATE, lane := l, pos := p, dest := dest, source := 2, event := true }
      let s := (s.modGrp g fun x => { x with follow := rest }).requestOp g o
      if (s.grpOf g).ops.isEmpty then
        s.log Evt.EQP_OP Subj.GROUP g [o.op, 2 * g + l, s.fld EQP_OP_STATUS.RESULT g, o.source]
      else s

/-! ### In-service tests, as the pool meets them (R446) -/

/-- Record BST_RESULT and the fences of `GLB_FENCE` follow the resources (R442, R445). -/
def State.showFences (s : State) : State :=
  let bits := fun (f : Nat → Bool) => (groups8.filter f).foldl (fun a g => a + 2 ^ g) 0
  let sl := bits fun g => decide (0 < s.sliceCount g Slice.FENCED)
  let de := bits fun g => (List.range 7).any fun d => decide (s.fld BST_DEC_STATE.STATES g / 4 ^ d % 4 = Decoder.FENCED)
  let ml := bits fun g => decide (s.unitState g 0 = Slice.FENCED ∨ s.unitState g 1 = Slice.FENCED)
  let s := (s.setFld GLB_FENCE.SLICE 0 sl).setFld GLB_FENCE.DECODER 0 de
  (s.setFld GLB_FENCE.MLSE 0 ml).setFlag GLB_FENCE.ANY 0 (decide (sl + de + ml ≠ 0))

/-- A test of a slice joins the group's tests, the slice UNDER_TEST; while the controllers restart it waits (R26). -/
def State.testSlice (s : State) (g k : Nat) (mismatchOf : Option Nat := none) (event : Bool := false) : State :=
  (s.setSlice g k Slice.UNDER_TEST).modGrp g fun x =>
    { x with tests := x.tests ++ [{ kind := 0, index := k, mismatchOf := mismatchOf, event := event, waits := s.headless, at_ := s.cycle }] }

/-- The test of slice or decoder `k` aborts: counted, kept to be retried; a slice goes to FREE (R117, R121), a decoder back where
the test found it, FENCED under a retest of BST_UNFENCE (R446). -/
def State.abortTest (s : State) (g kind k : Nat) : State :=
  let mine := fun (t : TestX) => decide (t.kind = kind ∧ t.index = k)
  match (s.grpOf g).tests.find? mine with
  | none => s
  | some t =>
    let v := s.fld BST_DEC_STATE.STATES g
    let s := if kind = 0 then s.setSlice g k Slice.FREE
      else s.setFld BST_DEC_STATE.STATES g (v - v / 4 ^ k % 4 * 4 ^ k + (if t.retest then Decoder.FENCED else Decoder.SPARE) * 4 ^ k)
    let t' := { t with aborts := t.aborts + 1, at_ := s.cycle }
    let s := s.modGrp g fun x => { x with tests := x.tests.erase t, retries := x.retries ++ [t'] }
    s.count BST_IS_ABORT.COUNT g

/-- The test of slice `k` aborts, if one runs; a slice UNDER_TEST goes to FREE. -/
def State.abortSliceTest (s : State) (g k : Nat) : State := s.abortTest g 0 k

/-! ### The sequencer (R110 to R117) -/

/-- The front operation of the group changes. -/
def State.modOp (s : State) (g : Nat) (f : PoolOp → PoolOp) : State :=
  s.modGrp g fun x => { x with ops := match x.ops with
    | [] => []
    | o :: os => f o :: os }

/-- The operation `o` of the group has ended with a result: it leaves the list, is counted (OK; MISMATCH or ABORTED) and
recorded, and a relief step notes what it has done. -/
def State.endOp (s : State) (g : Nat) (o : PoolOp) (result : Nat) : State :=
  let s := s.modGrp g fun x => { x with ops := x.ops.filter (·.id ≠ o.id) }
  let s := if result = PoolResult.OK then s.count EQP_OP_OK.COUNT g
    else if result = PoolResult.MISMATCH ∨ result = PoolResult.ABORTED then s.count EQP_OP_FAIL.COUNT g else s
  let done := (o.step, o.op, o.lane)
  let s := if o.source = 1 ∧ result = PoolResult.OK ∧ !o.undo then
      s.modGrp g fun x => { x with reliefDone := x.reliefDone ++ [done] } else s
  let s := (s.opResult g result o.source).log Evt.EQP_OP Subj.GROUP g [o.op, 2 * g + o.lane, result, o.source]
  -- slow AGC waits for the first superframe after it (R70)
  let s := s.each [2 * g, 2 * g + 1] fun n s => if s.opActs n then s.modLrx n fun x => { x with slowHold := true } else s
  (s.showOps g).runFollow g

/-- The inverse of a relief operation (R123). -/
def undoOf (op : Nat) : Nat :=
  if op = Pool.UNFUSE then Pool.FUSE else if op = Pool.TO_DFE then Pool.TO_MLSE else Pool.ADD

/-- The effects of each operation at its start, boundary by boundary of its course (Tables 4-5 and 4-6): what the frame
boundary that starts it does. -/
def State.opBegin (s : State) (g : Nat) (o : PoolOp) : State × PoolOp :=
  let n := 2 * g + o.lane
  let o := { o with started := true }
  if o.op = Pool.MIGRATE then
    match s.targetSlice g o.dest o.source with
    | some b => (s.setSlice g b Slice.ALLOCATED, { o with sliceA := s.posSlice n o.pos, sliceB := b })
    | none => (s, o)
  else if o.op = Pool.ADD then
    match s.targetSlice g 15 o.source with
    | some b => (s.addPos n b, { o with sliceB := b })
    | none => (s, o)
  else if o.op = Pool.REMOVE then
    let p := s.slices n - 1
    (s, { o with rampFfe := (List.range 16).map fun j => (16 * p + j, (s.eqpOf n).live.tap (16 * p + j)) })
  else if o.op = Pool.FUSE then
    let m := 2 * g + (1 - o.lane)
    (if s.det m = Det.DFE1 then s else s.toDfe m, o)
  else if o.op = Pool.UNFUSE then (s, { o with rampA := (s.eqpOf n).live.a })
  else if o.op = Pool.TO_DFE then (s.toDfe n, o)
  else
    match s.freeUnit g with
    | some u => (s.takeUnit g u o.lane, { o with unit := u })
    | none => (s, o)

/-- The ramp of UNFUSE is complete: the lane goes to MLSE16 on U0 and U1 runs in shadow on the partner (Table 4-5). -/
def State.unfuseSwitch (s : State) (g : Nat) (o : PoolOp) : State :=
  let n := 2 * g + o.lane
  let s := s.modCoefs n fun c => { c with a := 0 }
  let s := ((s.setDet n Det.MLSE16).takeUnit g 0 o.lane).takeUnit g 1 (1 - o.lane)
  s.setFld EQP_POOL.FUSED g 0

/-- MIGRATE's switch: the crossbar moves the position to slice B (Table 4-6). -/
def State.migrateSwitch (s : State) (g : Nat) (o : PoolOp) : State := s.setPos (2 * g + o.lane) o.pos o.sliceB

/-- What ends an operation that has run all its frames. -/
def State.opFinish (s : State) (g : Nat) (o : PoolOp) : State :=
  let n := 2 * g + o.lane
  if o.op = Pool.MIGRATE then
    if o.source = 2 then s.testSlice g o.sliceA none o.event else s.setSlice g o.sliceA Slice.FREE
  else if o.op = Pool.REMOVE then s.removePos n
  else if o.op = Pool.FUSE then
    let s := ((s.takeUnit g 0 o.lane).takeUnit g 1 o.lane).modCoefs n fun c => { c with a := 0 }
    (s.setDet n Det.MLSE64).setFld EQP_POOL.FUSED g (o.lane + 1)
  else if o.op = Pool.UNFUSE then s.setDet (2 * g + (1 - o.lane)) Det.MLSE16
  else if o.op = Pool.TO_MLSE then s.setDet n Det.MLSE16
  else s

/-- Frames of an operation (Table 4-5). -/
def opFrames (op : Nat) : Nat :=
  if op = Pool.MIGRATE then 3 else if op = Pool.REMOVE then 64 else if op = Pool.FUSE then 1
  else if op = Pool.UNFUSE then 80 else if op = Pool.TO_MLSE then 16 else 0

/-- The value of a ramp after `k` of 64 frames: its starting value less k/64 of it (R115). The rule states no rounding: the
accumulator is truncated toward zero (DESIGN CHOICE, log entry 156). -/
def rampValue (start : BitVec 24) (k : Nat) : BitVec 24 := BitVec.ofInt 24 ((start.toInt * ((64 - k : Nat) : Int)).tdiv 64)

/-- The ramped values of the operation after `k` frames. -/
def State.rampTo (s : State) (n : Nat) (o : PoolOp) (k : Nat) : State :=
  s.modCoefs n fun c =>
    let c := o.rampFfe.foldl (fun c e => c.setTap e.1 (rampValue e.2 k)) c
    if o.op = Pool.UNFUSE then { c with a := rampValue o.rampA k } else c

/-- The operation runs out of frames and ends OK. An undo notes that its step is undone. -/
def State.finishOp (s : State) (g : Nat) (o : PoolOp) : State :=
  let s := (s.opFinish g o).endOp g o PoolResult.OK
  if o.undo then
    s.modGrp g fun x => { x with reliefDone := x.reliefDone.eraseP fun e => e.1 = o.step && undoOf e.2.1 = o.op && e.2.2 = o.lane }
  else s

/-- A relief operation has nothing to do: its undo finds no step of its own in force, or the group's hold skips REMOVE and
ADD (R120, R123). -/
def State.reliefSkips (s : State) (g : Nat) (o : PoolOp) : Bool :=
  o.source = 1 &&
    ((o.undo && !(s.grpOf g).reliefDone.any fun e => e.1 = o.step && undoOf e.2.1 = o.op && e.2.2 = o.lane) ||
     (s.poolHold g && (o.op = Pool.REMOVE || o.op = Pool.ADD)))

/-- The conditions of R111 when an operation comes to start. A hold refuses new acceptances only: an operation already
accepted completes (R117), and relief steps that change detectors still apply (R120). -/
def State.startRefusal (s : State) (g : Nat) (o : PoolOp) : Option Nat :=
  match s.refusal g o with
  | some r => if r = PoolResult.AUDIT_HOLD then none else some r
  | none => none

/-- An operation drops out before it starts: a relief step is a no-op there (R122), any other ends with its refusal. -/
def State.dropOp (s : State) (g : Nat) (o : PoolOp) (r : Nat) : State :=
  let s := s.modGrp g fun x => { x with ops := x.ops.filter (·.id ≠ o.id) }
  let s := if o.event then s.log Evt.EQP_OP Subj.GROUP g [o.op, 2 * g + o.lane, r, o.source] else s
  ((if o.source = 1 then s else s.opResult g r o.source).showOps g).runFollow g

/-- The slice that the operation needs is under test (R117). -/
def State.needsTested (s : State) (g : Nat) (o : PoolOp) : Option Nat :=
  if o.op = Pool.MIGRATE ∨ o.op = Pool.ADD then
    match s.targetSlice g (if o.op = Pool.MIGRATE then o.dest else 15) o.source with
    | some k => if s.sliceState g k = Slice.UNDER_TEST then some k else none
    | none => none
  else none

/-- The front operation starts at its lane's frame boundary: a test on the slice it needs aborts and the operation starts
at the next boundary; one of no frames takes its whole effect (R110, R117). -/
def State.startOp (s : State) (g : Nat) : State :=
  match (s.grpOf g).ops with
  | [] => s
  | o :: _ =>
    if o.started then s
    else if s.reliefSkips g o then s.dropOp g o PoolResult.OK
    else match s.startRefusal g o with
      | some r => s.dropOp g o r
      | none =>
        match s.needsTested g o with
        | some k => s.abortSliceTest g k
        | none =>
          let (s, o') := s.opBegin g o
          let s := s.modOp g fun _ => o'
          if opFrames o.op = 0 then s.finishOp g o' else s.showOps g

/-- What entry to EQ_TRAIN of a cold attempt does to operation `o`: one that is queued takes its whole effect, with no ramp,
shadow or compare (R112); a ramp in progress completes (R115), and an UNFUSE goes on with the frames its unit runs in shadow on the
partner (DESIGN CHOICE, log entry 157: R115 speaks of the ramp only). -/
def State.opAtOnce (s : State) (g : Nat) (o : PoolOp) : State :=
  if o.started then
    if o.op = Pool.UNFUSE then
      let o' := { o with frames := 64 }
      ((s.modGrp g fun x => { x with ops := x.ops.map fun p => if p.id = o.id then o' else p }).unfuseSwitch g o').showOps g
    else s.finishOp g o
  else if s.reliefSkips g o then s.dropOp g o PoolResult.OK
  else match s.startRefusal g o with
    | some r => s.dropOp g o r
    | none =>
      let s := match s.needsTested g o with
        | some k => s.abortSliceTest g k
        | none => s
      let (s, o') := s.opBegin g o
      let s := s.modGrp g fun x => { x with ops := x.ops.map fun p => if p.id = o.id then o' else p }
      let s := if o.op = Pool.MIGRATE then s.migrateSwitch g o' else if o.op = Pool.UNFUSE then s.unfuseSwitch g o' else s
      s.finishOp g o'

/-- Entry of lane `n` to EQ_TRAIN of a cold attempt: its queued operations take effect at once and a paused ramp completes
(R112, R115). -/
def State.poolColdTrain (s : State) (n : Nat) : State :=
  let g := n / 2
  let mine := (s.grpOf g).ops.filter fun o => o.lane = n % 2 &&
    (!o.started || o.op = Pool.REMOVE || o.op = Pool.UNFUSE && o.frames < 64)
  mine.foldl (fun s o => s.opAtOnce g o) s

/-- The operation ends ABORTED or MISMATCH, its shadow resource given up. -/
def State.abandonOp (s : State) (g : Nat) (o : PoolOp) (result : Nat) : State :=
  let s := if o.started ∧ o.op = Pool.MIGRATE ∧ result = PoolResult.ABORTED then s.setSlice g o.sliceB Slice.FREE
    else if o.started ∧ o.op = Pool.TO_MLSE then s.dropUnit g o.unit
    else if o.started ∧ o.op = Pool.UNFUSE ∧ 64 ≤ o.frames then s.dropUnit g 1
    else s
  s.endOp g o result

/-- Lane `n` leaves LOCKED: what Table 4-7 says of the operation in progress. -/
def State.poolLeftLocked (s : State) (n : Nat) : State :=
  let g := n / 2
  match (s.grpOf g).ops with
  | [] => s
  | o :: _ =>
    if o.started && o.lane = n % 2 &&
        (o.op = Pool.MIGRATE && o.frames < 2 || o.op = Pool.TO_MLSE || o.op = Pool.UNFUSE && 64 ≤ o.frames)
    then s.abandonOp g o PoolResult.ABORTED
    else s.showOps g

/-- One frame of the operation in progress: a comparison of MIGRATE, a step of a ramp, a frame of shadow (R113, R115). The
frames of a ramp run only while the lane is LOCKED. -/
def State.opFrame (s : State) (g : Nat) (equal : Bool) : State :=
  match (s.grpOf g).ops with
  | [] => s
  | o :: _ =>
    let n := 2 * g + o.lane
    if !o.started || decide (opFrames o.op ≤ o.frames) then s
    else if o.op = Pool.MIGRATE ∧ !equal then
      let serving := if o.frames < 2 then o.sliceA else o.sliceB
      let other := if o.frames < 2 then o.sliceB else o.sliceA
      (s.testSlice g other (some serving)).endOp g o PoolResult.MISMATCH
    else if (o.op = Pool.REMOVE || o.op = Pool.UNFUSE && o.frames < 64) && !s.locked n then s
    else
      let o' := { o with frames := o.frames + 1 }
      let s := s.modOp g fun _ => o'
      let s := if o.op = Pool.MIGRATE ∧ o'.frames = 2 then s.migrateSwitch g o'
        else if o.op = Pool.REMOVE then s.rampTo n o o'.frames
        else if o.op = Pool.UNFUSE ∧ o'.frames < 64 then s.rampTo n o o'.frames
        else if o.op = Pool.UNFUSE ∧ o'.frames = 64 then s.unfuseSwitch g o'
        else s
      s.showOps g

/-- The operation whose frames have all run ends OK. -/
def State.opEnd (s : State) (g : Nat) : State :=
  match (s.grpOf g).ops with
  | [] => s
  | o :: _ => if o.started && decide (opFrames o.op ≤ o.frames) then s.finishOp g o else s

/-! ### Fill, reduction and accounts (R101, R102, R121) -/

/-- What a lane is to hold: slices, cursor, detector. -/
structure LaneAlloc where
  slices : Nat
  cursor : Nat
  det : Nat
  deriving DecidableEq, Repr

/-- A lane that gives up its highest position keeps its cursor within its taps (R102). -/
def LaneAlloc.shrink (a : LaneAlloc) : LaneAlloc :=
  { a with slices := a.slices - 1, cursor := min a.cursor (16 * (a.slices - 1) - 1) }

/-- The lane's highest position holds its cursor. -/
def LaneAlloc.atCursor (a : LaneAlloc) : Bool := decide (a.cursor / 16 = a.slices - 1)

/-- Reduction to `u` slices not fenced, one slice a step (R102). -/
def reduceSlices (u : Nat) : Nat → LaneAlloc × LaneAlloc → LaneAlloc × LaneAlloc
  | 0, p => p
  | k + 1, (a, b) =>
    if a.slices + b.slices ≤ u - 1 ∨ (a.slices ≤ 2 ∧ b.slices ≤ 2) then (a, b)
    else
      let first := decide (b.slices < a.slices)
      let mine := if first then a else b
      let other := if first then b else a
      let swap := mine.atCursor && !other.atCursor && decide (2 < other.slices)
      reduceSlices u k (if first != swap then (a.shrink, b) else (a, b.shrink))

/-- The allocation after R102, from an allocation, the slices not fenced, and which units are fenced. -/
def reduceAlloc (u : Nat) (f₀ f₁ : Bool) (a b : LaneAlloc) : LaneAlloc × LaneAlloc :=
  let (a, b) := reduceSlices u 24 (a, b)
  let b := if u < 4 then { b with slices := 0, cursor := 0 } else b
  let a := if u < 2 then { a with slices := 0, cursor := 0 } else a
  if f₀ && f₁ then ({ a with det := Det.DFE1 }, { b with det := Det.DFE1 })
  else if f₀ || f₁ then
    if a.det = Det.MLSE64 then ({ a with det := Det.MLSE16 }, { b with det := Det.DFE1 })
    else if b.det = Det.MLSE64 then ({ a with det := Det.DFE1 }, { b with det := Det.MLSE16 })
    else if a.det = Det.MLSE16 ∧ b.det = Det.MLSE16 then (a, { b with det := Det.DFE1 })
    else (a, b)
  else (a, b)

/-- The event of a reduction: the slices of each lane after it, and the detectors; where a cursor was lowered, both cursors
follow (R102; Table 15-2 has no word for them: DESIGN CHOICE, log entry 158). RESULT reads OK (DESIGN CHOICE, log entry 155). -/
def State.logReduce (s : State) (g : Nat) (lowered : Bool) : State :=
  (s.opResult g PoolResult.OK 3).log Evt.EQP_REDUCE Subj.GROUP g
    ([s.slices (2 * g), s.slices (2 * g + 1), s.det (2 * g), s.det (2 * g + 1)] ++
      (if lowered then [s.cursor (2 * g), s.cursor (2 * g + 1)] else []))

/-- A lane takes its allocation: positions from 0 upward on the lowest-numbered FREE slices, its detector and units (R101). A
lane left without slices takes no unit, and DET keeps its detector (DESIGN CHOICE, log entry 159). -/
def State.fillLane (s : State) (n : Nat) (a : LaneAlloc) : State :=
  let g := n / 2
  let s := (List.range a.slices).foldl (fun s _ => match s.lowestSlice g Slice.FREE with
    | some k => s.addPos n k
    | none => s) s
  let s := s.setFld EQP_ALLOC.CURSOR n a.cursor
  if a.slices = 0 then s.setDet n a.det
  else if a.det = Det.MLSE64 then
    (((s.takeUnit g 0 (n % 2)).takeUnit g 1 (n % 2)).setFld EQP_POOL.FUSED g (n % 2 + 1)).setDet n a.det
  else if a.det = Det.MLSE16 then
    match s.freeUnit g with
    | some u => (s.takeUnit g u (n % 2)).setDet n a.det
    | none => s.setDet n Det.DFE1
  else s.setDet n a.det

/-- The pool allocation record of group `g` in force (Table 4-3). -/
def State.poolRecord (s : State) (g : Nat) : List Byte := s.section_ Sect.POOL g

/-- A coefficient of a lane's acquisition set (Table 4-3). -/
def State.acqCoef (s : State) (n j : Nat) : BitVec 12 :=
  BitVec.ofNat 12 (fieldAt (s.poolRecord (n / 2)) (16 + 64 * (n % 2) + 2 * j) 2)

/-- The group's pool takes the record of the image in force, fenced resources reducing it (R101, R102): every slice that is
not fenced is FREE before. -/
def State.poolLoad (s : State) (g : Nat) : State :=
  let rec_ := s.poolRecord g
  if rec_.isEmpty then s else
    let want := fun l => (⟨byteAt rec_ (2 + l), byteAt rec_ (4 + l), byteAt rec_ (6 + l)⟩ : LaneAlloc)
    let u := 13 - s.sliceCount g Slice.FENCED
    let (a, b) := reduceAlloc u (decide (s.unitState g 0 = Slice.FENCED)) (decide (s.unitState g 1 = Slice.FENCED)) (want 0) (want 1)
    let s := (s.fillLane (2 * g) a).fillLane (2 * g + 1) b
    let s := s.each [0, 1] fun l s =>
      let n := 2 * g + l
      let s := (s.setFld EQP_CTRL.MU_TRN n (byteAt rec_ (8 + l) / 16)).setFld EQP_CTRL.MU_TRK n (byteAt rec_ (8 + l) % 16)
      s.setFld EQP_SOFT.LLR_STEP n (byteAt rec_ (12 + l))
    if (a, b) = (want 0, want 1) then s
    else s.logReduce g (decide (a.cursor < (want 0).cursor) || decide (b.cursor < (want 1).cursor))

/-- Reduction in service: a fenced slice leaves the lanes of the group fewer slices than they hold (R102). -/
def State.poolReduce (s : State) (g : Nat) : State :=
  let now := fun l => (⟨s.slices (2 * g + l), s.cursor (2 * g + l), s.det (2 * g + l)⟩ : LaneAlloc)
  let u := 13 - s.sliceCount g Slice.FENCED
  let (a, b) := reduceAlloc u (decide (s.unitState g 0 = Slice.FENCED)) (decide (s.unitState g 1 = Slice.FENCED)) (now 0) (now 1)
  if (a, b) = (now 0, now 1) then s
  else
    let shrink := fun (l : Nat) (x : LaneAlloc) (s : State) =>
      let n := 2 * g + l
      let s := (List.range (s.slices n - x.slices)).foldl (fun s _ => s.removePos n) s
      s.setFld EQP_ALLOC.CURSOR n x.cursor
    (shrink 1 b (shrink 0 a s)).logReduce g (decide (a.cursor < (now 0).cursor) || decide (b.cursor < (now 1).cursor))

/-- The lanes of the group that a reduction has left without slices. -/
def State.bareLanes (s : State) (g : Nat) : List Nat := [2 * g, 2 * g + 1].filter fun n => decide (s.slices n = 0)

/-- A queued operation of the group ends ABORTED at the end of verification (R117, R288). -/
def State.abortQueued (s : State) (g : Nat) : State :=
  ((s.grpOf g).ops.filter fun o => !o.started).foldl (fun s o => s.endOp g o PoolResult.ABORTED) s

/-- The operation in progress ends at Q without waiting (R117): OK past its switch, ABORTED otherwise. -/
def State.endOpAtQ (s : State) (g : Nat) : State :=
  match (s.grpOf g).ops with
  | [] => s
  | o :: _ =>
    if !o.started then s.endOp g o PoolResult.ABORTED
    else if (o.op = Pool.MIGRATE && 2 ≤ o.frames) || (decide (opFrames o.op ≤ o.frames)) then s.finishOp g o
    else s.abandonOp g o PoolResult.ABORTED

/-- The pool accounts of a group close (R121): a record with the counters, the state vector and the allocations; ALLOCATED
and UNDER_TEST slices go to FREE, tests aborted; fenced ones stay fenced; units are freed. -/
def State.poolClose (s : State) (g : Nat) : State :=
  let s := s.endOpAtQ g
  let s := s.log Evt.EQP_CLOSE Subj.GROUP g (s.poolWords g ++
    [(s.reg .EQP_ALLOC (2 * g)).toNat % 2 ^ 32, (s.reg .EQP_ALLOC (2 * g + 1)).toNat % 2 ^ 32])
  let s := s.each (List.range 13) fun k s =>
    if s.sliceState g k = Slice.UNDER_TEST then s.abortSliceTest g k
    else if s.sliceState g k = Slice.ALLOCATED then s.setSlice g k Slice.FREE else s
  let s := ((s.dropUnit g 0).dropUnit g 1).setFld EQP_POOL.FUSED g 0
  let s := s.modGrp g fun x => { x with ops := [], reliefDone := [], follow := [] }
  let s := s.each [2 * g, 2 * g + 1] fun n s =>
    (s.resetRegs [.EQP_ALLOC, .EQP_POS, .EQP_STATUS, .EQP_POST, .EQP_TARGET] n).modEqp n fun _ => {}
  s.showOps g

/-! ### Audit (R119, R120) -/

/-- The slice that MIGRATE runs in shadow for lane `n`: the new one before the switch, the old one after it. -/
def State.migrateShadow (s : State) (n : Nat) : Option Nat := match (s.grpOf (n / 2)).ops with
  | [] => none
  | o :: _ => if o.started && o.op = Pool.MIGRATE && o.lane = n % 2 then some (if o.frames < 2 then o.sliceB else o.sliceA) else none

/-- Slices in ALLOCATED that lane `n` holds, one in shadow included. -/
def State.laneSlices (s : State) (n : Nat) : Nat :=
  (List.range 13).countP fun k => decide (s.sliceState (n / 2) k = Slice.ALLOCATED) &&
    ((s.fld EQP_ALLOC.SLICE_MASK n).testBit k || decide (s.migrateShadow n = some k))

/-- The allocated slices of lane `n` equal its `SLICES`, plus one for a shadow (R119). -/
def State.laneAgrees (s : State) (n : Nat) : Bool :=
  decide (s.laneSlices n = s.slices n + (if (s.migrateShadow n).isSome then 1 else 0))

/-- The check of R119 on the four counters, given as they are seen. -/
def State.poolAgrees (s : State) (g al fr ut fe : Nat) : Bool :=
  decide (al + fr + ut + fe = 13) &&
  decide (al = s.sliceCount g Slice.ALLOCATED) && decide (fr = s.sliceCount g Slice.FREE) &&
  decide (ut = s.sliceCount g Slice.UNDER_TEST) && decide (fe = s.sliceCount g Slice.FENCED) &&
  s.laneAgrees (2 * g) && s.laneAgrees (2 * g + 1)

/-- The counters of the group take these values. -/
def State.setPoolCounters (s : State) (g al fr ut fe : Nat) : State :=
  (((s.setFld EQP_POOL.ALLOCATED g al).setFld EQP_POOL.FREE g fr).setFld EQP_POOL.UNDER_TEST g ut).setFld EQP_POOL.FENCED g fe

/-! ### Register writes -/

/-- A write to `EQP_CTRL_n`: exponents outside 8–15 are rejected, each field keeping its value; COEF_LOAD is executed only
while FREEZE is 1 and no pool operation acts on the lane, else ignored and recorded (Table 4-11, R125). -/
def wrEqpCtrl (p : Path) (n v : Nat) (s : State) : State × WStatus :=
  let trk := fieldOf v EQP_CTRL.MU_TRK
  let trn := fieldOf v EQP_CTRL.MU_TRN
  let bad := decide (trk < 8) || decide (trn < 8)
  let s := if trk < 8 then s else s.setFld EQP_CTRL.MU_TRK n trk
  let s := if trn < 8 then s else s.setFld EQP_CTRL.MU_TRN n trn
  let s := (s.setFld EQP_CTRL.FREEZE n (fieldOf v EQP_CTRL.FREEZE)).showFreeze n
  let load := fieldOf v EQP_CTRL.COEF_LOAD = 1
  let may := s.flag EQP_CTRL.FREEZE n && !s.opActs n
  let s := if load ∧ may then s.modEqp n fun x => { x with loadDue := some p } else s
  if bad || decide (load ∧ ¬ may) then rejectWrite p .EQP_CTRL n v s else (s, .ok)

/-- A write to `EQP_SOFT_n`: 0 is rejected. -/
def wrEqpSoft (p : Path) (n v : Nat) (s : State) : State × WStatus :=
  if fieldOf v EQP_SOFT.LLR_STEP = 0 then rejectWrite p .EQP_SOFT n v s
  else (s.setFld EQP_SOFT.LLR_STEP n (fieldOf v EQP_SOFT.LLR_STEP), .ok)

/-- A write to `EQP_COEF_n_j` (index 80 n + j) is staged; taps beyond the allocation are discarded (R125). -/
def wrEqpCoef (i v : Nat) (s : State) : State × WStatus :=
  let n := i / 80
  let j := i % 80
  let put := fun (s : State) (t x : Nat) => if t < 16 * s.slices n then
    s.modEqp n fun e => { e with staged := Tab.insert natLt t (BitVec.ofNat 12 x) e.staged } else s
  (put (put s (2 * j) (fieldOf v EQP_COEF.LO)) (2 * j + 1) (fieldOf v EQP_COEF.HI), .ok)

/-- A write to `EQP_OP_CMD_g`: the fields are set, and GO submits the operation; OP 0 is refused RANGE. -/
def wrEqpOpCmd (g v : Nat) (s : State) : State × WStatus :=
  let s := plainWrite .EQP_OP_CMD g v s
  if fieldOf v EQP_OP_CMD.GO = 1 then
    (s.requestOp g { op := fieldOf v EQP_OP_CMD.OP, lane := fieldOf v EQP_OP_CMD.LANE, pos := fieldOf v EQP_OP_CMD.POS,
                     dest := fieldOf v EQP_OP_CMD.TO }, .ok)
  else (s, .ok)

/-- A write to `EQP_AUDIT_g`: AUDIT_CLR re-derives the counters from the state vector, checks them again and lifts the hold
if they agree (R120). -/
def wrEqpAudit (g v : Nat) (s : State) : State × WStatus :=
  if fieldOf v EQP_AUDIT.AUDIT_CLR = 1 then
    let al := s.sliceCount g Slice.ALLOCATED
    let fr := s.sliceCount g Slice.FREE
    let ut := s.sliceCount g Slice.UNDER_TEST
    let fe := s.sliceCount g Slice.FENCED
    let s := s.setPoolCounters g al fr ut fe
    (if s.poolAgrees g al fr ut fe then s.setFlag EQP_AUDIT.AUDIT_FAIL g false else s, .ok)
  else (s, .ok)

/-! ### The commands -/

/-- The value written to `EQP_OP_CMD_g` for an operation. -/
def opCmdValue (op l pos dest : Nat) : Nat := 2 ^ 31 + op * 2 ^ 28 + l * 2 ^ 27 + pos * 2 ^ 20 + dest * 2 ^ 16

/-- A pool operation requested by its source (R110): software through `EQP_OP_CMD_g`, relief and self-test internally. -/
def poolRequest (src : PoolSource) (g op l pos dest : Nat) (s : State) : Res :=
  match src with
  | .software p => writeCommand p .EQP_OP_CMD g (opCmdValue op l pos dest) (wrEqpOpCmd g (opCmdValue op l pos dest)) s
  | .relief => .next (s.requestOp g { op := op, lane := l, pos := pos, dest := dest, source := 1 })
  | .selfTest => .next (s.requestOp g { op := op, lane := l, pos := pos, dest := dest, source := 2 })

/-- MIGRATE, R113. -/
def execMigrate (src : PoolSource) (g : Grp) (l : Fin 2) (pos to_ : Fin 16) (s : State) : Res :=
  poolRequest src g Pool.MIGRATE l pos to_ s

/-- ADD, R110. -/
def execAdd (src : PoolSource) (g : Grp) (l : Fin 2) (s : State) : Res := poolRequest src g Pool.ADD l 0 15 s

/-- REMOVE, R115. -/
def execRemove (src : PoolSource) (g : Grp) (l : Fin 2) (s : State) : Res := poolRequest src g Pool.REMOVE l 0 15 s

/-- FUSE, R110. -/
def execFuse (src : PoolSource) (g : Grp) (l : Fin 2) (s : State) : Res := poolRequest src g Pool.FUSE l 0 15 s

/-- UNFUSE, R115. -/
def execUnfuse (src : PoolSource) (g : Grp) (l : Fin 2) (s : State) : Res := poolRequest src g Pool.UNFUSE l 0 15 s

/-- TO_DFE, R110. -/
def execToDfe (src : PoolSource) (g : Grp) (l : Fin 2) (s : State) : Res := poolRequest src g Pool.TO_DFE l 0 15 s

/-- TO_MLSE, R110. -/
def execToMlse (src : PoolSource) (g : Grp) (l : Fin 2) (s : State) : Res := poolRequest src g Pool.TO_MLSE l 0 15 s

/-- POOL_OP_START, R110: an accepted operation starts at its lane's frame boundary, the lane LOCKED (R112). -/
def execPoolOpStart (g : Grp) (s : State) : Res :=
  match (s.grpOf g).ops with
  | [] => .next s
  | o :: _ => .next (if s.locked (2 * g + o.lane) then s.startOp g else s.showOps g)

/-- POOL_OP_FRAME, R113, R115. -/
def execPoolOpFrame (g : Grp) (equal : Bool) (s : State) : Res := .next (s.opFrame g equal)

/-- POOL_OP_END, R110. -/
def execPoolOpEnd (g : Grp) (s : State) : Res := .next (s.opEnd g)

/-- COEF_LOAD, R125: a write of `EQP_CTRL_n.COEF_LOAD`. -/
def execCoefLoad (p : Path) (n : Lane) (s : State) : Res :=
  let v := withField (s.writeBack .EQP_CTRL n) EQP_CTRL.COEF_LOAD 1
  writeCommand p .EQP_CTRL n v (wrEqpCtrl p n v) s

/-- EQP_AUDIT_CLR, R120. -/
def execEqpAuditClr (p : Path) (g : Grp) (s : State) : Res := writeCommand p .EQP_AUDIT g 1 (wrEqpAudit g 1) s

/-- POOL_AUDIT_VIOLATION, R120: the per-cycle check sees counters (ALLOCATED in bits [15:12], FREE, UNDER_TEST, FENCED)
that fail it. Where they pass, nothing happens. -/
def execPoolAuditViolation (g : Grp) (counters : BitVec 16) (s : State) : Res :=
  let al := counters.toNat / 4096
  let fr := counters.toNat / 256 % 16
  let ut := counters.toNat / 16 % 16
  let fe := counters.toNat % 16
  if s.poolAgrees g al fr ut fe then .next s
  else
    let s := s.setPoolCounters g al fr ut fe
    let s := s.log Evt.EQP_AUDIT Subj.GROUP g (s.poolWords g)
    .next ((s.setFlag EQP_AUDIT.AUDIT_FAIL g true).alert Alert.AUDIT)

end Sys2Proof.Machine
end

