-- ==== Sys2Proof/Machine/Thermal.lean ====
section
/-! DEFINITION. Temperature sensors, thresholds and relief (chapter 16). Temperatures are in units of 0.125 °C. The stops act on
every domain and stand in ThermalStop.lean. -/
namespace Sys2Proof.Machine

/-! Kinds of THM_EVENT (Table 16-9) and states of `THM_STATUS`. -/
abbrev Thm.WARN_SET : Nat := 0x00
abbrev Thm.WARN_CLEAR : Nat := 0x01
abbrev Thm.RELIEF_UP : Nat := 0x02
abbrev Thm.RELIEF_DOWN : Nat := 0x03
abbrev Thm.RATE_SET : Nat := 0x04
abbrev Thm.RATE_CLEAR : Nat := 0x05
abbrev Thm.STOP_ORDERLY : Nat := 0x06
abbrev Thm.STOP_IMMEDIATE : Nat := 0x07
abbrev Thm.TRIP : Nat := 0x08
abbrev Thm.EXCLUDED : Nat := 0x09
abbrev Thm.READMITTED : Nat := 0x0A
abbrev Thm.RESTART : Nat := 0x0B
abbrev Thm.AUTO_RESTART_CLEARED : Nat := 0x0C
abbrev ThmState.NORMAL : Nat := 0
abbrev ThmState.WARN : Nat := 1
abbrev ThmState.RELIEF : Nat := 2
abbrev ThmState.STOPPING : Nat := 3
abbrev ThmState.STOPPED : Nat := 4
abbrev ThmState.TRIPPED : Nat := 5

/-- The sensors. -/
def sensors24 : List Nat := List.range 24

/-- A temperature field: signed, 12 bits. -/
def temp12 (x : Nat) : Int := (BitVec.ofNat 12 x).toInt

/-- A temperature as a field of 12 bits holds it. -/
def temp12Of (x : Int) : Nat := (BitVec.ofInt 12 x).toNat

/-- The limits of R450. -/
def State.thmLimit (s : State) (f : Field) : Int := temp12 (s.fld f 0)

/-- The sensors run in ACTIVE, in STANDBY and in the transitions between them (R448, R454). -/
def State.sensorsRun (s : State) : Bool := decide (s.pwr.sleep = 0)

/-- What sensor `i` contributes to a decision: its mean, or its prediction where it is excluded or invalid (R449, R450). -/
def State.thmValue (s : State) (i : Nat) : Option Int :=
  if s.flag THM_SENSOR.VALID i && !s.flag THM_SENSOR.EXCLUDED i then some (temp12 (s.fld THM_SENSOR.TEMP i))
  else (s.sensOf i).pred

/-- The sensor giving T, the lowest-numbered of equals, and T. -/
def State.thmHot (s : State) : Option (Nat × Int) :=
  sensors24.foldl (fun best i => match s.thmValue i, best with
    | some v, none => some (i, v)
    | some v, some (j, w) => if w < v then some (i, v) else some (j, w)
    | none, best => best) none

/-- T is known and meets a condition. -/
def State.thmIs (s : State) (p : Int → Bool) : Bool := match s.thmHot with
  | some (_, t) => p t
  | none => false

/-- T lies below `RESTART`; with no sensor reading, nothing forbids a start. -/
def State.belowRestart (s : State) : Bool := match s.thmHot with
  | some (_, t) => decide (t < s.thmLimit THM_LIMIT_C.RESTART)
  | none => true

/-- Record THM_EVENT: kind, temperature, relief level after the action. -/
def State.logThm (s : State) (kind sensor : Nat) (temp : Int) : State :=
  s.log Evt.THM_EVENT Subj.SENSOR sensor [kind, (BitVec.ofInt 32 temp).toNat, s.fld THM_STATUS.RELIEF 0]

/-- Record of a device-wide action: its subject is the sensor giving T. -/
def State.logHot (s : State) (kind : Nat) : State :=
  match s.thmHot with
  | some (i, t) => s.logThm kind i t
  | none => s.logThm kind (s.fld THM_STATUS.HOT 0) 0

/-- `THM_STATUS.STATE` outside a stop: RELIEF above level 0, else WARN at or above `WARN`. -/
def State.showThm (s : State) : State :=
  if ThmState.STOPPING ≤ s.fld THM_STATUS.STATE 0 then s
  else s.setFld THM_STATUS.STATE 0 (if 0 < s.fld THM_STATUS.RELIEF 0 then ThmState.RELIEF else if s.thm.warn then ThmState.WARN else ThmState.NORMAL)

/-- Since when a condition has held: the core cycle it began, kept while it holds. -/
def sinceWhen (at_ : Option Nat) (now : Nat) (holds : Bool) : Option Nat := if holds then some (at_.getD now) else none

/-- `at_` is a core cycle at least `cycles` ago. -/
def State.heldFor (s : State) (at_ : Option Nat) (cycles : Nat) : Bool := match at_ with
  | some c => decide (c + cycles ≤ s.cycle)
  | none => false

/-- T reaches `WARN` or falls below it; a BIST starts no new partition meanwhile, its schedule goes on where it stood (R450; DESIGN
CHOICE, log entry 175). -/
def State.setWarn (s : State) (on : Bool) : State :=
  let s := { s with thm := { s.thm with warn := on } }
  s.modPwr fun x => { x with bist := x.bist.map fun b =>
    if on then { b with heldAt := some (b.heldAt.getD s.cycle) } else { b with at_ := b.at_ + (s.cycle - b.heldAt.getD s.cycle), heldAt := none } }

/-- T is judged against `WARN`, `RELIEF_OFF` and `RESTART` (R450, R455). -/
def State.judgeThm (s : State) : State :=
  let cool := s.thmIs fun t => decide (t ≤ s.thmLimit THM_LIMIT_B.RELIEF_OFF)
  let s := { s with thm := { s.thm with coolAt := sinceWhen s.thm.coolAt s.cycle cool, belowAt := sinceWhen s.thm.belowAt s.cycle s.belowRestart } }
  match s.thmHot with
  | none => s.showThm
  | some (i, t) =>
    let s := s.setFld THM_STATUS.HOT 0 i
    let hot := decide (s.thmLimit THM_LIMIT_A.WARN ≤ t)
    let s := if hot && !s.thm.warn then ((s.setWarn true).logHot Thm.WARN_SET).alert Alert.THERMAL
      else if !hot && s.thm.warn then (s.setWarn false).logHot Thm.WARN_CLEAR
      else s
    s.showThm

/-! ### Relief (R122, R123) -/

/-- The steps of the relief table in force. -/
def State.reliefSteps (s : State) : Nat := (s.section_ Sect.RELIEF 0).length / 4

/-- Step `i` (from 1) acts on group `g`, lane `l`: operation and how often; an action of the table's reserved codes acts on
nothing. -/
def State.reliefStep (s : State) (i g l : Nat) : Nat × Nat :=
  let t := s.section_ Sect.RELIEF 0
  let k := 4 * (i - 1)
  let a := byteAt t (k + 1)
  if (byteAt t k).testBit g && (byteAt t (k + 2)).testBit l then
    if a = 1 then (Pool.UNFUSE, 1) else if a = 2 then (Pool.TO_DFE, 1) else if a = 3 then (Pool.REMOVE, byteAt t (k + 3)) else (0, 0)
  else (0, 0)

/-- Step `i` is applied to, or undone in, group `g`. -/
def State.reliefIn (s : State) (g i : Nat) (undo : Bool) : State :=
  s.each [0, 1] fun l s =>
    let (op, n) := s.reliefStep i g l
    s.each (List.range n) fun _ s =>
      s.requestOp g { op := if undo then undoOf op else op, lane := l, source := 1, step := i, undo := undo }

/-- The relief level takes a new value and every open group follows; a group under rebuild takes its steps at reopen
(R19, R123). -/
def State.reliefTo (s : State) (level : Nat) (up : Bool) : State :=
  let i := if up then level else level + 1
  let cool := if up then s.thm.coolAt else some s.cycle
  let s := { s with thm := { s.thm with reliefAt := some s.cycle, coolAt := cool } }.setFld THM_STATUS.RELIEF 0 level
  let s := s.each groups8 fun g s => if s.fld HRN_GROUP_STATE.STATE g = Group.OPEN then s.reliefIn g i (!up) else s
  s.logHot (if up then Thm.RELIEF_UP else Thm.RELIEF_DOWN)

/-- The level rises by one step, up to the number of steps. -/
def State.reliefUp (s : State) : State :=
  let r := s.fld THM_STATUS.RELIEF 0
  if r < s.reliefSteps then s.reliefTo (r + 1) true else s

/-- Steps 1 to the current level are applied to a new allocation of group `g` (R123). -/
def State.reliefNew (s : State) (g : Nat) : State :=
  s.each (List.range (s.fld THM_STATUS.RELIEF 0)) fun i s => s.reliefIn g (i + 1) false

/-! ### Registers -/

/-- The order the limits must keep (R450): `RELIEF_OFF` < `RELIEF_ON` < `CRIT`, `WARN` < `CRIT`, `CRIT` ≤ 125 °C. -/
def thmLimitsOk (warn crit on off : Nat) : Bool :=
  decide (temp12 off < temp12 on ∧ temp12 on < temp12 crit ∧ temp12 warn < temp12 crit ∧ temp12 crit ≤ 1000)

/-- A write to `THM_LIMIT_A`. -/
def wrThmLimitA (p : Path) (v : Nat) (s : State) : State × WStatus :=
  if thmLimitsOk (fieldOf v THM_LIMIT_A.WARN) (fieldOf v THM_LIMIT_A.CRIT) (s.fld THM_LIMIT_B.RELIEF_ON 0) (s.fld THM_LIMIT_B.RELIEF_OFF 0)
  then (plainWrite .THM_LIMIT_A 0 v s, .ok) else rejectWrite p .THM_LIMIT_A 0 v s

/-- A write to `THM_LIMIT_B`. -/
def wrThmLimitB (p : Path) (v : Nat) (s : State) : State × WStatus :=
  if thmLimitsOk (s.fld THM_LIMIT_A.WARN 0) (s.fld THM_LIMIT_A.CRIT 0) (fieldOf v THM_LIMIT_B.RELIEF_ON) (fieldOf v THM_LIMIT_B.RELIEF_OFF)
  then (plainWrite .THM_LIMIT_B 0 v s, .ok) else rejectWrite p .THM_LIMIT_B 0 v s

/-- A write to `THM_CFG`: `STOP_LEAD` is 3 to 255; another value rejects the write. -/
def wrThmCfg (p : Path) (v : Nat) (s : State) : State × WStatus :=
  if 3 ≤ fieldOf v THM_CFG.STOP_LEAD then (plainWrite .THM_CFG 0 v s, .ok) else rejectWrite p .THM_CFG 0 v s

/-! ### The commands -/

/-- One sample of sensor `i`: the mean over the last 1 ms; a reading outside −50 °C to 150 °C is invalid at once (R449). The
mean is rounded towards minus infinity (DESIGN CHOICE, log entry 40). -/
def State.sampleSensor (s : State) (i : Nat) (v : Int) : State :=
  let s := s.modSens i fun x =>
    { x with samples := (v :: x.samples).take 10, hotAt := sinceWhen x.hotAt s.cycle (decide (1040 ≤ v)) }
  let xs := (s.sensOf i).samples
  let s := s.setFld THM_SENSOR.TEMP i (temp12Of (xs.foldl (· + ·) 0 / (xs.length : Int)))
  s.setFlag THM_SENSOR.VALID i (decide (-400 ≤ v ∧ v ≤ 1200))

/-- SENSOR_SAMPLE, R448: the readings of sensors 0 to 23. Where a prediction waits in the same core cycle, the judgement is one with
it: a sensor excluded there counts with its prediction (Table 16-7). -/
def execSensorSample (readings : List (BitVec 12)) (s : State) : Res :=
  if s.sensorsRun then
    let s := s.each sensors24 fun i s => match readings[i]? with
      | some v => s.sampleSensor i v.toInt
      | none => s
    .next (if s.pending.any (· == .sensorPrediction) then s else s.judgeThm)
  else .next s

/-- The prediction of a sensor from its valid neighbours; with fewer than two it is neither checked nor predicted (R449). -/
def State.predictSensor (s : State) (i : Nat) : State :=
  let near := (Config.thmNeighbours i).filterMap fun j =>
    if s.flag THM_SENSOR.VALID j && !s.flag THM_SENSOR.EXCLUDED j then some (j, temp12 (s.fld THM_SENSOR.TEMP j)) else none
  if near.length < 2 then s.modSens i fun x => { x with pred := none, farRun := 0, nearRun := 0 }
  else
    let p := Config.thmPredict i near
    let s := (s.modSens i fun x => { x with pred := some (temp12 (temp12Of p)) }).setFld THM_PRED.PRED i (temp12Of p)
    if !s.flag THM_SENSOR.VALID i then s
    else
      let d := (temp12 (s.fld THM_SENSOR.TEMP i) - temp12 (temp12Of p)).natAbs
      if s.flag THM_SENSOR.EXCLUDED i then
        let s := s.modSens i fun x => { x with nearRun := if d ≤ 24 then x.nearRun + 1 else 0 }
        if 1000 ≤ (s.sensOf i).nearRun then
          let s := (s.setFlag THM_SENSOR.EXCLUDED i false).modSens i fun x => { x with nearRun := 0, farRun := 0 }
          s.logThm Thm.READMITTED i (temp12 (s.fld THM_SENSOR.TEMP i))
        else s
      else
        let s := s.modSens i fun x => { x with farRun := if 48 < d then x.farRun + 1 else 0 }
        if 4 ≤ (s.sensOf i).farRun then
          let s := (s.setFlag THM_SENSOR.EXCLUDED i true).modSens i fun x => { x with nearRun := 0, farRun := 0 }
          s.logThm Thm.EXCLUDED i (temp12 (s.fld THM_SENSOR.TEMP i))
        else s

/-- The time to critical of sensor `i` in 0.1 ms, where its slope over the last 10 ms is positive (R451). -/
def State.timeToCrit (s : State) (i : Nat) : Option Nat :=
  match (s.sensOf i).values, s.thmValue i with
  | v :: vs, some t =>
    match vs[9]? with
    | some w => if w < v then some (((s.thmLimit THM_LIMIT_A.CRIT - t) * 100 / (v - w)).toNat) else none
    | none => none
  | _, _ => none

/-- `T_PRED`: the least time to critical; 0xFFFF where there is none. -/
def State.showPred (s : State) : State :=
  let ts := sensors24.filterMap s.timeToCrit
  s.setFld THM_STATUS.T_PRED 0 (match ts with
    | [] => 0xFFFF
    | t :: ts => min (ts.foldl min t) 0xFFFE)

/-- SENSOR_PREDICTION, R449, R451: every 1 ms. -/
def execSensorPrediction (s : State) : Res :=
  if s.sensorsRun then
    let s := s.each sensors24 fun i s => s.predictSensor i
    let s := s.each sensors24 fun i s => match s.thmValue i with
      | some v => s.modSens i fun x => { x with values := (v :: x.values).take 11 }
      | none => s.modSens i fun x => { x with values := [] }
    .next s.judgeThm.showPred
  else .next s

/-- The relief level may change: no stop is under way or in force, whose level holds until the restart (R455). -/
def State.reliefActs (s : State) : Bool := decide (s.fld THM_STATUS.STATE 0 < ThmState.STOPPING)

/-- The level may rise: T is at or above `RELIEF_ON`, and 100 ms have passed since the previous change (R450). -/
def State.reliefDue (s : State) : Bool :=
  s.reliefActs && (s.thmIs fun t => decide (s.thmLimit THM_LIMIT_B.RELIEF_ON ≤ t)) && (s.thm.reliefAt.isNone || s.heldFor s.thm.reliefAt 78125000)

/-- The level may fall: T has stayed at or below `RELIEF_OFF` for 1 s, and for 1 s since the last fall (R450). -/
def State.reliefCool (s : State) : Bool :=
  s.reliefActs && (s.thmIs fun t => decide (t ≤ s.thmLimit THM_LIMIT_B.RELIEF_OFF)) && s.heldFor s.thm.coolAt 781250000

/-- RELIEF_RAISE, R450: T is at or above `RELIEF_ON` and the hold of 100 ms has passed. -/
def execReliefRaise (s : State) : Res := .next (if s.reliefDue then s.reliefUp.judgeThm else s)

/-- RELIEF_LOWER, R450: T has stayed at or below `RELIEF_OFF` for 1 s. -/
def execReliefLower (s : State) : Res :=
  let r := s.fld THM_STATUS.RELIEF 0
  .next (if s.reliefCool && decide (0 < r) then (s.reliefTo (r - 1) false).judgeThm else s)

/-- A 10 ms window of sensor `i` ends (R451). -/
def State.rateSensor (s : State) (i : Nat) : State :=
  match s.thmValue i with
  | none => s.modSens i fun x => { x with winStart := none, rises := 0 }
  | some v =>
    let x := s.sensOf i
    let s := s.modSens i fun x => { x with winStart := some v }
    match x.winStart with
    | none => s
    | some w =>
      if 16 < v - w then
        let s := s.modSens i fun x => { x with rises := x.rises + 1, calms := 0 }
        if !x.alarm && decide (3 ≤ x.rises + 1) then
          ((s.modSens i fun x => { x with alarm := true }).logThm Thm.RATE_SET i v).alert Alert.THERMAL
        else s
      else
        let s := s.modSens i fun x => { x with rises := 0, calms := x.calms + 1 }
        if x.alarm && decide (3 ≤ x.calms + 1) then
          (s.modSens i fun x => { x with alarm := false }).logThm Thm.RATE_CLEAR i v
        else s

/-- RATE_WINDOW, R451: a window ends at a TS96 multiple of 10 ms; one that holds the alarm raises the relief level at once. -/
def execRateWindow (s : State) : Res :=
  if s.sensorsRun && s.atMultiple 10000000 then
    let s := s.each sensors24 fun i s => s.rateSensor i
    let held := sensors24.any fun i => (s.sensOf i).alarm
    let s := s.setFlag THM_STATUS.RATE_ALARM 0 held
    .next (if held && s.reliefActs then s.reliefUp.judgeThm else s)
  else .next s

end Sys2Proof.Machine
end

