-- ==== Sys2Proof/Machine/Vault.lean ====
section
/-! DEFINITION. The key vault and the signature block every signed object ends with (R275, R322, R331). -/
namespace Sys2Proof.Machine

/-- Bytes `a` up to `a + n` of a list. -/
def slice (bs : List Byte) (a n : Nat) : List Byte := (bs.drop a).take n

/-- SHA-512 of a message, digest byte 0 first. -/
def sha512 (m : List Byte) : List Byte := beBytes 64 (Config.sha512 m).toNat

/-- The bytes of an ASCII word, as character codes. -/
def ascii (cs : List Nat) : List Byte := cs.map (BitVec.ofNat 8)

/-- ASCII "NZ" and two more characters: the magics of signed objects. -/
def magicNZ (a b : Nat) : List Byte := ascii [0x4E, 0x5A, a, b]

/-- Every byte is zero. -/
def allZero (bs : List Byte) : Bool := bs.all fun b => decide (b = 0)

/-- Length of the signature block (R275). -/
abbrev sigLen : Nat := 144

/-- A signature block has its magic and its zeros (R275). -/
def sigMagicOk (b : List Byte) : Bool := decide (slice b 0 4 = magicNZ 0x53 0x47)
def sigZeroOk (b : List Byte) : Bool := allZero (slice b 140 4)

/-- `KEY_ID` of a signature block. -/
def sigKey (b : List Byte) : Nat := fieldAt b 4 4

/-- The signature of a block over a message verifies under a public key. -/
def sigVerifies (key msg b : List Byte) : Bool := Config.ecdsaVerify key msg (slice b 8 66) (slice b 74 66)

/-- The key IDs of the boot ROM (Table 11-1). -/
abbrev Key.F0 : Nat := 0x5A000001
abbrev Key.F1 : Nat := 0x5A000002
abbrev Key.P0 : Nat := 0x5A000010

/-- `SEC_KEY_SLOT_s.KIND` bits: HARNESS, ADMIN. -/
abbrev Kind.HARNESS : Nat := 0
abbrev Kind.ADMIN : Nat := 1

/-- The slots of owner keys. -/
def slots12 : List Nat := List.range 12

/-- Slot `k` holds a key in force that has a kind. -/
def State.keyInForce (s : State) (k kind : Nat) : Bool :=
  s.flag SEC_KEY_SLOT.ENROLLED k && !s.flag SEC_KEY_SLOT.REVOKED k && (s.fld SEC_KEY_SLOT.KIND k).testBit kind

/-- The slot of the unrevoked owner key `id` of a kind. -/
def State.ownerKey (s : State) (id kind : Nat) : Option Nat :=
  slots12.find? fun k => s.keyInForce k kind && decide (s.fld SEC_KEY_SLOT.KEY_ID k = id)

/-- The public key in slot `k`, 67 bytes. -/
def State.slotKey (s : State) (k : Nat) : List Byte := Tab.get (fun _ => []) s.sec.keys k

/-- The public key of an unrevoked owner key of a kind. -/
def State.ownerPub (s : State) (id kind : Nat) : Option (List Byte) := (s.ownerKey id kind).map s.slotKey

/-! ### Derived keys (R325, R327) -/

/-- HMAC-SHA-512. -/
def hmac (key msg : List Byte) : List Byte := beBytes 64 (Config.hmac512 key msg).toNat

/-- The order of the P-521 group. -/
def p521Order : Nat := 2 ^ 521 - 657877501894328237357444332315020117536923257219387276263472201219398408051703

/-- A private key from a number: modulo n − 1, plus 1. -/
def privateKey (x : Nat) : Nat := x % (p521Order - 1) + 1

/-- The private key of a message: 66 bytes of HMAC under the device seed, the second block with counter 0x02 after the message (log
entry 5), read big-endian. -/
def derivedKey (msg : List Byte) : Nat :=
  privateKey (leValue ((hmac Config.deviceSeed msg ++ hmac Config.deviceSeed (msg ++ [2])).take 66).reverse)

/-- "NZ-DEVID": the device key. -/
def devKey : Nat := derivedKey (ascii [0x4E, 0x5A, 0x2D, 0x44, 0x45, 0x56, 0x49, 0x44])

/-- "NZ-AK" and the measurement of the running firmware: the attestation key. -/
def State.akKey (s : State) : Nat := derivedKey (ascii [0x4E, 0x5A, 0x2D, 0x41, 0x4B] ++ leBytes 64 (s.fld SEC_MEAS.DIGEST 1))

/-- A fresh private key. -/
def State.freshKey (s : State) : Nat × State :=
  let (v, s) := s.fresh
  let (w, s) := s.fresh
  (privateKey (2 ^ 512 * v.toNat + w.toNat), s)

/-- An unrevoked ADMIN key is enrolled. -/
def State.adminEnrolled (s : State) : Bool := slots12.any fun k => s.keyInForce k Kind.ADMIN

end Sys2Proof.Machine
end

