-- ==== Sys2Proof/Machine/Image.lean ====
section
/-! DEFINITION. Harness images (chapter 9): the header and the sections, and the checks of Table 9-4 that look at the image and
at the configuration it would leave (R273 to R281). -/
namespace Sys2Proof.Machine

/-! ### Configurations -/

/-- The sections of a configuration by (TYPE, GROUP). -/
abbrev Cfg := List ((Nat × Nat) × List Byte)

/-- The order of the section table. -/
def cfgLt (a b : Nat × Nat) : Bool := decide (a.1 < b.1) || (decide (a.1 = b.1) && decide (a.2 < b.2))

/-- The payload of a section; empty where there is none. -/
def Cfg.get (c : Cfg) (type g : Nat) : List Byte := Tab.get (fun _ => []) c (type, g)

/-- `c` with a section. -/
def Cfg.put (c : Cfg) (type g : Nat) (payload : List Byte) : Cfg := Tab.set cfgLt (fun _ => []) c (type, g) payload

/-- Key of the device-scope REG_INIT; the other device sections have key 0. -/
abbrev deviceScope : Nat := 0xFF

/-- Group `g` has a MODES section. -/
def Cfg.has (c : Cfg) (g : Nat) : Bool := !(c.get Sect.MODES g).isEmpty

/-- `LINE_MODE`, `SVC`, `HOST_MODE`, `CFG_TAG`, `LANE_EN` of a group (Table 9-3). -/
def Cfg.mode (c : Cfg) (g k : Nat) : Nat := byteAt (c.get Sect.MODES g) k
def Cfg.lineMode (c : Cfg) (g : Nat) : Nat := c.mode g 0
def Cfg.svc (c : Cfg) (g : Nat) : Nat := c.mode g 1
def Cfg.hostMode (c : Cfg) (g : Nat) : Nat := c.mode g 2
def Cfg.laneEn (c : Cfg) (g : Nat) : Nat := c.mode g 4

/-- Line lane `n` is in Cinch service. -/
def Cfg.cinch (c : Cfg) (n : Nat) : Bool := c.has (n / 2) && decide (c.svc (n / 2) = Svc.CINCH) && decide (c.lineMode (n / 2) = 0)

/-- Host lane `h` is in use (Table 6-2, `MAP`). -/
def Cfg.inUse (c : Cfg) (h : Nat) : Bool := (byteAt (c.get Sect.HOST_LANES (h / 4)) 4).testBit (4 + h % 4)

/-- The 4-byte records of a device section. -/
def records4 (bs : List Byte) : List (Nat × Nat × Nat × Nat) := (List.range (bs.length / 4)).map fun i =>
  (byteAt bs (4 * i), byteAt bs (4 * i + 1), byteAt bs (4 * i + 2), byteAt bs (4 * i + 3))

/-- The host lanes of a port record. -/
def portSpan (r : Nat × Nat × Nat × Nat) : List Nat := (List.range (portLanes r.2.1)).map (r.1 + ·)

/-- The pairs of a REG_INIT payload: address, value. -/
def regPairs (bs : List Byte) : List (Nat × Nat) := (List.range (bs.length / 8)).map fun i =>
  (fieldAt bs (8 * i) 4, fieldAt bs (8 * i + 4) 4)

/-- Channel record `i` of group `g` is enabled; its stripe (Table 9-3, CHANNELS). -/
def Cfg.chOn (c : Cfg) (ch : Nat) : Bool := (byteAt (c.get Sect.CHANNELS (ch / 32)) (8 * (ch % 32))).testBit 0
def Cfg.chStripe (c : Cfg) (ch : Nat) : Nat := fieldAt (c.get Sect.CHANNELS (ch / 32)) (8 * (ch % 32) + 2) 2
def Cfg.chIng (c : Cfg) (ch : Nat) : Nat := fieldAt (c.get Sect.CHANNELS (ch / 32)) (8 * (ch % 32) + 4) 2
def Cfg.chEgr (c : Cfg) (ch : Nat) : Nat := fieldAt (c.get Sect.CHANNELS (ch / 32)) (8 * (ch % 32) + 6) 2

/-! ### Header (R273 to R275) -/

/-- Load results of Table 9-4. -/
abbrev Load.OK : Nat := 0x00
abbrev Load.BUSY : Nat := 0x01
abbrev Load.LENGTH : Nat := 0x02
abbrev Load.BAD_MAGIC : Nat := 0x03
abbrev Load.BAD_FORMAT : Nat := 0x04
abbrev Load.PARAM : Nat := 0x05
abbrev Load.KEY : Nat := 0x06
abbrev Load.SIGNATURE : Nat := 0x07
abbrev Load.HASH : Nat := 0x08
abbrev Load.ROLLBACK : Nat := 0x09
abbrev Load.NO_BASE : Nat := 0x0A
abbrev Load.SECTION : Nat := 0x0B
abbrev Load.CONTENT : Nat := 0x0C
abbrev Load.COUPLING : Nat := 0x0D
abbrev Load.PLL_TIMEOUT : Nat := 0x0E
abbrev Load.ABORTED : Nat := 0x0F

/-- Fields of the header (Table 9-1). -/
def imgKind (i : List Byte) : Nat := byteAt i 12
def imgMask (i : List Byte) : Nat := byteAt i 13
def imgBodyLen (i : List Byte) : Nat := fieldAt i 16 4
def imgSvn (i : List Byte) : Nat := fieldAt i 36 4
def imgId (i : List Byte) : Nat := fieldAt i 40 4
def imgBase (i : List Byte) : Nat := fieldAt i 44 4
def imgHeader (i : List Byte) : List Byte := i.take 256
def imgBody (i : List Byte) : List Byte := slice i 256 (imgBodyLen i)
def imgSig (i : List Byte) : List Byte := slice i (256 + imgBodyLen i) sigLen
def imgFull (i : List Byte) : Bool := decide (imgKind i = 1)

/-- The groups an image replaces: all of them for FULL (R286). -/
def imgGroups (i : List Byte) : Nat := if imgFull i then 0xFF else imgMask i

/-- Header fields and ranges of Table 9-1 other than the magic and PARAM. -/
def formatOk (i : List Byte) : Bool :=
  decide (fieldAt i 4 2 = 1) && decide (fieldAt i 6 2 = 0x100) && (decide (imgKind i = 1) || decide (imgKind i = 2)) &&
  (imgFull i || decide (imgMask i ≠ 0)) && decide (fieldAt i 14 2 = 0) && decide (imgBodyLen i % 8 = 0) &&
  decide (8 ≤ imgBodyLen i ∧ imgBodyLen i ≤ 261744) && decide (1 ≤ fieldAt i 20 2 ∧ fieldAt i 20 2 ≤ 256) &&
  decide (fieldAt i 22 2 = 0) && decide (fieldAt i 26 4 < 10 ^ 9) && decide (imgId i ≠ 0) &&
  (!imgFull i || decide (imgBase i = 0)) && allZero (slice i 48 16) && allZero (slice i 160 96) && sigZeroOk (imgSig i)

/-- The checks of the header, the key, the signature, the hash, the floor and the base, in the order of Table 9-4. A flash
command takes FULL images only (R284). -/
def State.headerCheck (s : State) (excess fullOnly : Bool) (i : List Byte) : Nat :=
  if excess ∨ i.length < 400 ∨ i.length ≠ 400 + imgBodyLen i ∨ 262144 < i.length then Load.LENGTH
  else if slice i 0 4 ≠ magicNZ 0x48 0x49 ∨ !sigMagicOk (imgSig i) then Load.BAD_MAGIC
  else if !formatOk i ∨ (fullOnly ∧ !imgFull i) then Load.BAD_FORMAT
  else if fieldAt i 8 4 ≠ (s.reg .GLB_PARAM 0).toNat then Load.PARAM
  else match s.ownerPub (sigKey (imgSig i)) Kind.HARNESS with
    | none => Load.KEY
    | some key =>
      if !sigVerifies key (imgHeader i) (imgSig i) then Load.SIGNATURE
      else if sha512 (imgBody i) ≠ slice i 64 64 then Load.HASH
      else if imgSvn i < s.fld SEC_STATUS.HRN_FLOOR 0 then Load.ROLLBACK
      else if !imgFull i ∧ (s.hrn.header.isEmpty ∨ (imgBase i ≠ 0 ∧ imgBase i ≠ imgId s.hrn.header)) then Load.NO_BASE
      else Load.OK

/-! ### Sections (R276, R277) -/

/-- A section of an image: its index, TYPE, GROUP, payload. -/
structure Sec where
  idx : Nat
  type : Nat
  group : Nat
  payload : List Byte
  deriving DecidableEq, Repr

/-- Scope of a section type: group, device, or both for REG_INIT; FULL images only; LEN permitted (Table 9-2). -/
def secGroupScope (type : Nat) : Bool := decide (1 ≤ type ∧ type ≤ Sect.REG_INIT)
def secDeviceScope (type : Nat) : Bool := decide (type = Sect.REG_INIT) || decide (Sect.PORTS ≤ type ∧ type ≤ Sect.RELIEF)
def secFullOnly (type : Nat) : Bool := decide (Sect.TIME ≤ type ∧ type ≤ Sect.RELIEF)
def secLenOk (type n : Nat) : Bool :=
  if type = Sect.MODES then decide (n = 8) else if type = Sect.HOST_LANES then decide (n = 32)
  else if type = Sect.POOL then decide (n = 144) else if type = Sect.LINE_RX then decide (n = 16)
  else if type = Sect.TIA then decide (n = 140) else if type = Sect.LTX then decide (n = 328)
  else if type = Sect.DRIVER then decide (n = 204) else if type = Sect.MASK then decide (n = 132)
  else if type = Sect.CHANNELS then decide (n = 256) else if type = Sect.ASYM then decide (n = 16)
  else if type = Sect.REG_INIT then decide (8 ≤ n ∧ n ≤ 2048 ∧ n % 8 = 0)
  else if type = Sect.PORTS then decide (4 ≤ n ∧ n ≤ 128 ∧ n % 4 = 0)
  else if type = Sect.TIME then decide (n = 8) else if type = Sect.GPIO then decide (n = 64)
  else if type = Sect.RELIEF then decide (4 ≤ n ∧ n ≤ 64 ∧ n % 4 = 0) else false

/-- The sections of a body from offset `off` on, `k` of them still to come; the index of the first that breaks R276 or
R277. -/
def parseSections (full : Bool) (mask : Nat) (body : List Byte) : Nat → Nat → Nat → Option (Nat × Nat) → Nat ⊕ List Sec
  | 0, i, off, _ => if off = body.length then .inr [] else .inl (i - 1)
  | k + 1, i, off, prev =>
    let type := fieldAt body off 2
    let g := byteAt body (off + 3)
    let len := fieldAt body (off + 4) 4
    let next := off + 8 + (len + 7) / 8 * 8
    let placed := if g = deviceScope then secDeviceScope type else secGroupScope type && decide (g < 8) && mask.testBit g
    let rises := match prev with
      | some p => cfgLt p (type, g)
      | none => true
    if body.length < off + 8 ∨ byteAt body (off + 2) ≠ 1 ∨ !secLenOk type len ∨ !placed ∨ (!full ∧ secFullOnly type) ∨
        body.length < next ∨ !rises ∨ !allZero (slice body (off + 8 + len) (next - (off + 8 + len))) then .inl i
    else match parseSections full mask body k (i + 1) next (some (type, g)) with
      | .inl j => .inl j
      | .inr rest => .inr (⟨i, type, g, slice body (off + 8) len⟩ :: rest)

/-- A section of a type and group is there. -/
def hasSec (secs : List Sec) (type g : Nat) : Bool := secs.any fun x => decide (x.type = type) && decide (x.group = g)

/-- The sections a configured group must carry are there, CHANNELS only in Cinch service (Table 9-2). -/
def requiredOk (secs : List Sec) (m : Sec) : Bool :=
  [Sect.HOST_LANES, Sect.POOL, Sect.LINE_RX, Sect.LTX, Sect.ASYM].all (hasSec secs · m.group) &&
  decide (decide (byteAt m.payload 1 = Svc.CINCH) = hasSec secs Sect.CHANNELS m.group)

/-- The first breach of the presence rules of R277: a section's index, or NSECT where a device section is missing (log
entry 50). -/
def presenceFault (full : Bool) (secs : List Sec) : Option Nat :=
  let ms := secs.filter fun x => decide (x.type = Sect.MODES)
  match ms.find? fun m => !requiredOk secs m with
  | some m => some m.idx
  | none =>
    match secs.find? fun x => decide (x.type = Sect.CHANNELS) && !hasSec secs Sect.MODES x.group with
    | some x => some x.idx
    | none =>
      if full && !hasSec secs Sect.TIME deviceScope then some secs.length
      else if (ms.any fun m => decide (byteAt m.payload 1 = Svc.ETHERNET)) && !hasSec secs Sect.PORTS deviceScope then some secs.length
      else none

/-! ### Ranges of the payloads (R278, R103, R155) -/

/-- Bytes `a` to `a + n` of a payload are zero. -/
def zeroAt (p : List Byte) (a n : Nat) : Bool := allZero (slice p a n)

/-- The signed little-endian field of `n` bytes lies between `-lim` and `lim - 1`. -/
def signedIn (p : List Byte) (a n : Nat) (lim : Int) : Bool :=
  let x := toSigned (8 * n) (fieldAt p a n)
  decide (-lim ≤ x ∧ x < lim)

/-- Two bits per lane name a permutation of 0–3. -/
def permOk (x : Nat) : Bool := [0, 1, 2, 3].all fun v => [0, 1, 2, 3].any fun i => decide (x / 4 ^ i % 4 = v)

/-- Strictly rising. -/
def rising : List Int → Bool
  | a :: b :: r => decide (a < b) && rising (b :: r)
  | _ => true

/-- A line of LINE_RX: `LOS_SRC` and the correlation thresholds as their registers take them (R92, Table 3-5a). -/
def lineRxOk (p : List Byte) (b : Nat) : Bool :=
  (decide (byteAt p b < 32) || decide (byteAt p b = 0xFF)) && decide (byteAt p (b + 1) < 64) && decide (byteAt p (b + 1) % 4 ≠ 3) &&
  decide (byteAt p (b + 3) < byteAt p (b + 2)) && decide (0x30 ≤ byteAt p (b + 2)) && zeroAt p (b + 7) 1

/-- The gain table of a lane. -/
def tiaLaneOk (p : List Byte) (b : Nat) : Bool :=
  let n := byteAt p b
  decide (1 ≤ n ∧ n ≤ 16) && decide (byteAt p (b + 1) < n) && zeroAt p (b + 2) 2 &&
  rising ((List.range n).map fun i => toSigned 16 (fieldAt p (b + 4 + 4 * i + 2) 2)) && zeroAt p (b + 4 + 4 * n) (4 * (16 - n))

/-- The transmit coefficients and trims of a lane. -/
def ltxLaneOk (p : List Byte) (b : Nat) : Bool :=
  decide (byteAt p b ≤ 14) && decide (byteAt p (b + 1) ≤ 60) && signedIn p (b + 2) 1 64 && signedIn p (b + 3) 1 32 &&
  ((List.range 15).all fun j => signedIn p (b + 4 + 2 * j) 2 512) && ((List.range 64).all fun i => signedIn p (b + 34 + 2 * i) 2 512) &&
  zeroAt p (b + 162) 2

/-- The driver sequences of a lane. -/
def drvLaneOk (p : List Byte) (ptr16 : Bool) (b : Nat) : Bool :=
  ([0, 1, 2].all fun k => decide (byteAt p (b + k) ≤ 8)) && zeroAt p (b + 3) 1 &&
  (List.range 24).all fun i =>
    let w := b + 4 + 4 * i
    zeroAt p (w + 3) 1 && (ptr16 || zeroAt p (w + 1) 1) && (decide (i % 8 < byteAt p (b + i / 8)) || zeroAt p w 3)

/-- The mask record (R145). -/
def maskOk (p : List Byte) : Bool :=
  let nseg := byteAt p 2
  let start := fun s => fieldAt p (4 + 4 * s + 2) 2
  decide (byteAt p 0 < 4) && decide (1 ≤ byteAt p 1 ∧ byteAt p 1 ≤ 15) && decide (1 ≤ nseg ∧ nseg ≤ 32) &&
  decide (1 ≤ byteAt p 3 ∧ byteAt p 3 ≤ 64) && ((List.range 32).all fun s => decide (start s < 512)) &&
  (!(byteAt p 0).testBit 0 || (decide (start 0 = 0) && startsRise ((List.range nseg).map start)))

/-- Channel record at `b`: an unused one is all zero, an enabled one in its ranges with a stripe (R200). -/
def chanOk (p : List Byte) (b : Nat) : Bool :=
  if (byteAt p b).testBit 0 then
    decide (byteAt p b < 4) && decide (1 ≤ byteAt p (b + 1) ∧ byteAt p (b + 1) ≤ 15) && decide (fieldAt p (b + 2) 2 ≠ 0) &&
    decide (20 ≤ fieldAt p (b + 4) 2) && decide (20 ≤ fieldAt p (b + 6) 2)
  else zeroAt p b 8

/-- The pool allocation record (R100, R103, Table 4-3). -/
def poolOk (p : List Byte) (g : Nat) : Bool :=
  let fuse := (byteAt p 1).testBit 0
  let lane := (byteAt p 1).testBit 1
  let det := fun l => byteAt p (6 + l)
  decide (byteAt p 0 = g) && decide (byteAt p 1 < 4) && (fuse || !lane) &&
  ([0, 1].all fun l =>
    decide (2 ≤ byteAt p (2 + l) ∧ byteAt p (2 + l) ≤ 10) && decide (byteAt p (4 + l) + 1 ≤ 16 * byteAt p (2 + l)) &&
    decide (det l ≤ 2) && decide (decide (det l = Det.MLSE64) = (fuse && decide (lane = decide (l = 1)))) &&
    (!fuse || decide (lane = decide (l = 1)) || decide (det l = Det.DFE1)) &&
    decide (8 ≤ byteAt p (8 + l) / 16) && decide (8 ≤ byteAt p (8 + l) % 16) &&
    decide (1 ≤ byteAt p (10 + l) ∧ byteAt p (10 + l) ≤ 128) && decide (1 ≤ byteAt p (12 + l))) &&
  decide (byteAt p 2 + byteAt p 3 ≤ 12) && zeroAt p 14 2 && (List.range 64).all fun j => signedIn p (16 + 2 * j) 2 2048

/-- The host lane record but for what depends on the group's modes (R155, Table 6-2). -/
def hostOk (p : List Byte) (g : Nat) : Bool :=
  decide (byteAt p 0 = g) && permOk (byteAt p 1) && permOk (byteAt p 2) && decide (byteAt p 5 < 16) && decide (byteAt p 6 < 8) &&
  zeroAt p 7 9 && (List.range 4).all fun i => txeqOk (fieldAt p (16 + 4 * i) 4)

/-- A port record (R181). -/
def portOk (r : Nat × Nat × Nat × Nat) : Bool :=
  decide (1 ≤ r.2.1 ∧ r.2.1 ≤ 4) && decide (r.2.2.1 < 4) && decide (r.2.2.2 = 0) && decide (r.1 % portLanes r.2.1 = 0) &&
  decide (r.1 + portLanes r.2.1 ≤ 32)

/-- A GPIO record (Table 9-3). -/
def gpioOk (r : Nat × Nat × Nat × Nat) : Bool :=
  decide (r.1 ≤ 3) && decide (r.2.1 < 2) && decide ((r.2.2.1 + 256 * r.2.2.2 = 0) ↔ (r.1 = 0 ∨ r.1 = 2))

/-- A relief step (R122). -/
def reliefOk (r : Nat × Nat × Nat × Nat) : Bool :=
  decide (1 ≤ r.2.1 ∧ r.2.1 ≤ 3) && decide (r.2.2.1 < 4) &&
  (if r.2.1 = 3 then decide (1 ≤ r.2.2.2 ∧ r.2.2.2 ≤ 8) else decide (r.2.2.2 = 0))

/-- The fields of a section lie in their ranges (R278). -/
def secRangeOk (x : Sec) : Bool :=
  let p := x.payload
  if x.type = Sect.MODES then
    decide (byteAt p 0 ≤ 1) && decide (byteAt p 1 ≤ 2) && decide (byteAt p 2 ≤ 1) && decide (byteAt p 4 < 16) && zeroAt p 5 3
  else if x.type = Sect.HOST_LANES then hostOk p x.group
  else if x.type = Sect.POOL then poolOk p x.group
  else if x.type = Sect.LINE_RX then lineRxOk p 0 && lineRxOk p 8
  else if x.type = Sect.TIA then
    decide (byteAt p 0 ≤ 2) && decide (byteAt p 1 < 128) && decide (byteAt p 2 < 128) && zeroAt p 3 1 && tiaLaneOk p 4 && tiaLaneOk p 72
  else if x.type = Sect.LTX then ltxLaneOk p 0 && ltxLaneOk p 164
  else if x.type = Sect.DRIVER then
    let f := (byteAt p 1).testBit 0
    decide (byteAt p 0 ≤ 2) && decide (byteAt p 1 < 2) && decide (byteAt p 2 < 128) && decide (byteAt p 3 < 128) &&
    drvLaneOk p f 4 && drvLaneOk p f 104
  else if x.type = Sect.MASK then maskOk p
  else if x.type = Sect.CHANNELS then (List.range 32).all fun i => chanOk p (8 * i)
  else if x.type = Sect.ASYM then zeroAt p 6 2 && zeroAt p 14 2
  else if x.type = Sect.PORTS then (records4 p).all portOk
  else if x.type = Sect.TIME then decide (byteAt p 3 ≤ 1) && zeroAt p 4 4
  else if x.type = Sect.GPIO then (records4 p).all gpioOk
  else if x.type = Sect.RELIEF then (records4 p).all reliefOk
  else true

/-! ### The configuration an image leaves -/

/-- The section types of a group. -/
def groupTypes : List Nat := (List.range 11).map (· + 1)

/-- The groups of a mask. -/
def maskGroups (mask : Nat) : List Nat := groups8.filter fun g => mask.testBit g

/-- `c` without the sections of the groups of a mask. -/
def Cfg.without (c : Cfg) (mask : Nat) : Cfg :=
  (maskGroups mask).foldl (fun c g => groupTypes.foldl (fun c t => c.put t g []) c) c

/-- Key under which a configuration holds a section. -/
def secKey (x : Sec) : Nat := if x.group = deviceScope ∧ x.type ≠ Sect.REG_INIT then 0 else x.group

/-- The ports of a configuration that lie outside a mask. -/
def Cfg.portsOutside (c : Cfg) (mask : Nat) : List Byte :=
  ((records4 (c.get Sect.PORTS 0)).filter fun r => (portSpan r).all fun h => !mask.testBit (h / 4)).flatMap fun r =>
    [r.1, r.2.1, r.2.2.1, r.2.2.2].map (BitVec.ofNat 8)

/-- The configuration an image leaves: its own for FULL; for PARTIAL the one in force with the groups of the mask replaced, the
ports of the mask replaced, and its device-scope REG_INIT after those before (R287, R353; log entry 51). Sections of a group
without MODES count for nothing. -/
def newCfg (old : Cfg) (full : Bool) (mask : Nat) (secs : List Sec) : Cfg :=
  let kept := secs.filter fun x => decide (x.group = deviceScope) || hasSec secs Sect.MODES x.group
  if full then kept.foldl (fun c x => Cfg.put c x.type (secKey x) x.payload) []
  else
    let base := Cfg.without old mask
    let base := base.put Sect.PORTS 0 (Cfg.portsOutside old mask)
    kept.foldl (fun c x =>
      if x.type = Sect.PORTS ∨ (x.type = Sect.REG_INIT ∧ x.group = deviceScope) then
        c.put x.type (secKey x) (c.get x.type (secKey x) ++ x.payload)
      else c.put x.type (secKey x) x.payload) base

/-! ### What the configuration must meet (R280) -/

/-- Table 0-4: the mode combinations permitted. -/
def modesOk (line svc host : Nat) : Bool :=
  if svc = Svc.TRANSPARENT then decide (host = 0) else if svc = Svc.CINCH then decide (line = 0) else true

/-- R155 for a configured group: which host lanes are in use, and how many each line lane serves. -/
def Cfg.mapOk (c : Cfg) (g : Nat) : Bool :=
  let p := c.get Sect.HOST_LANES g
  let use := fun i => (byteAt p 4).testBit (4 + i)
  let serves := fun l => ([0, 1, 2, 3].countP fun i => use i && decide ((byteAt p 4).testBit i = decide (l = 1)))
  let opaque_ := byteAt p 5
  ([0, 1, 2, 3].all fun i => !opaque_.testBit i || (use i && decide (c.svc g = Svc.TRANSPARENT))) &&
  (if c.lineMode g = 0 then ([0, 1, 2, 3].all use) && decide (serves 0 = 2) else decide (serves 0 = 1) && decide (serves 1 = 1))

/-- The relief table applied in order to the slices and cursor of one lane of group `g` (R122). -/
def reliefFits (steps : List (Nat × Nat × Nat × Nat)) (g l cursor : Nat) : Nat → Bool := fun slices =>
  (steps.foldl (fun (acc : Option Nat) r => match acc with
    | none => none
    | some n =>
      if r.2.1 = 3 && r.1.testBit g && r.2.2.1.testBit l then
        if n < r.2.2.2 + 2 ∨ n - r.2.2.2 ≤ cursor / 16 then none else some (n - r.2.2.2)
      else some n) (some slices)).isSome

/-- Every lane of a group takes the whole relief table of the configuration. -/
def Cfg.reliefFits (c : Cfg) (g : Nat) : Bool :=
  let p := c.get Sect.POOL g
  [0, 1].all fun l => Machine.reliefFits (records4 (c.get Sect.RELIEF 0)) g l (byteAt p (4 + l)) (byteAt p (2 + l))

/-- Two lists have no element in common. -/
def disjoint (a b : List Nat) : Bool := a.all fun x => !b.contains x

/-- The ports do not overlap, and each lies on lanes in use, in terminated service, under one host mode (R181). -/
def Cfg.portsOk (c : Cfg) : Bool :=
  let rec apart : List (Nat × Nat × Nat × Nat) → Bool
    | [] => true
    | r :: rs => (rs.all fun q => disjoint (portSpan r) (portSpan q)) && apart rs
  let rs := records4 (c.get Sect.PORTS 0)
  apart rs && rs.all fun r =>
    let hs := portSpan r
    hs.all fun h => c.has (h / 4) && decide (c.svc (h / 4) = Svc.ETHERNET) && c.inUse h &&
      decide (c.hostMode (h / 4) = c.hostMode (r.1 / 4))

/-- Sums of the credits of every enabled channel: those of the mask's groups as the configuration gives them, the others as
they stand (R280). -/
def State.creditsOk (s : State) (c : Cfg) (mask : Nat) : Bool :=
  let sum := fun (new : Nat → Nat) (f : Field) => (chans256.map fun ch =>
    if mask.testBit (ch / 32) then (if c.chOn ch then new ch else 0) else if s.flag CIN_CH_CFG.EN ch then s.fld f ch else 0).sum
  decide (sum c.chIng CIN_CH_CRED.ING_CREDITS ≤ 65536) && decide (sum c.chEgr CIN_CH_CRED.EGR_CREDITS ≤ 65536)

/-- The section's share of R278 and R280 in the configuration `c` the image leaves. -/
def State.secOk (s : State) (c : Cfg) (full : Bool) (mask : Nat) (x : Sec) : Bool :=
  let g := x.group
  secRangeOk x &&
  (if g < 8 && !c.has g then true
  else if x.type = Sect.MODES then
    modesOk (c.lineMode g) (c.svc g) (c.hostMode g) && (!c.has (g ^^^ 1) || decide (c.hostMode (g ^^^ 1) = c.hostMode g))
  else if x.type = Sect.HOST_LANES then c.mapOk g
  else if x.type = Sect.POOL then full || c.reliefFits g
  else if x.type = Sect.CHANNELS then
    ((List.range 32).all fun i => !c.chOn (32 * g + i) || (maskLanes (c.chStripe (32 * g + i))).all c.cinch) && s.creditsOk c mask
  else if x.type = Sect.PORTS then c.portsOk
  else if x.type = Sect.GPIO then (records4 x.payload).all fun r =>
    !(decide (r.1 = 1) || decide (r.1 = 3)) || (maskLanes (r.2.2.1 + 256 * r.2.2.2)).all fun n => c.has (n / 2)
  else if x.type = Sect.RELIEF then groups8.all fun g => !c.has g || c.reliefFits g
  else true)

/-- What R280 asks of the whole configuration beyond its sections: pins and ports that a PARTIAL image leaves standing, and
stripes outside the mask. -/
def Cfg.wholeOk (c : Cfg) : Bool :=
  c.portsOk && ((records4 (c.get Sect.GPIO 0)).all fun r =>
    !(decide (r.1 = 1) || decide (r.1 = 3)) || (maskLanes (r.2.2.1 + 256 * r.2.2.2)).all fun n => c.has (n / 2))

/-! ### Coupling sets (R17) -/

/-- The pairs of groups that a configuration's ports and stripes join; the stripes of channels outside `mask` as they stand. -/
def Cfg.joins (c : Cfg) : List (Nat × Nat) :=
  ((records4 (c.get Sect.PORTS 0)).flatMap fun r => (portSpan r).map fun h => (r.1 / 4, h / 4)) ++
  (chans256.filter c.chOn).flatMap fun ch => (maskLanes (c.chStripe ch)).map fun n => (ch / 32, n / 2)

/-- The pairs of groups that the running channels join. -/
def State.joins (s : State) : List (Nat × Nat) :=
  (chans256.filter fun ch => s.flag CIN_CH_CFG.EN ch).flatMap fun ch =>
    (maskLanes (s.fld CIN_CH_CFG.STRIPE ch)).map fun n => (ch / 32, n / 2)

/-- A group's host mode changes: it is configured before and after, with another mode. -/
def hostModeChanges (old new : Cfg) (g : Nat) : Bool := old.has g && new.has g && decide (old.hostMode g ≠ new.hostMode g)

/-- The mask is a union of whole coupling sets under the loaded configuration and the new one (R17). -/
def State.couplingOk (s : State) (new : Cfg) (mask : Nat) : Bool :=
  let old : Cfg := s.cfg
  let hosts := ([0, 1, 2, 3].filter fun k => hostModeChanges old new (2 * k) || hostModeChanges old new (2 * k + 1)).map fun k =>
    (2 * k, 2 * k + 1)
  (old.joins ++ s.joins ++ new.joins ++ hosts).all fun e => decide (mask.testBit e.1 = mask.testBit e.2)

end Sys2Proof.Machine
end

