-- ==== Sys2Proof/Machine/Equaliser.lean ====
section
/-! DEFINITION. What the equaliser of a lane computes from the samples of a frame, chapter 4 and R75, R76: the FFE output, the
correlation with the pilot, the pilot SNR, the detectors of Table 4-2 with their soft output, and the gradients of R105.

Samples are in units of 2^-9 of the normalised unit of R96, as coefficients are, so that FFE outputs are in units of 2^-18 and
post-filter outputs in units of 2^-27. A list of samples begins 192 symbols before the frame's symbol 0 (log entry 160). -/
namespace Sys2Proof.Machine

/-! ### FFE and post-filter (R97, R98) -/

/-- A coefficient as a number, 1.0 being 512. -/
def coefInt (a : BitVec 24) : Int := (BitVec.ofNat 12 (coefOf a)).toInt

/-- The sum of products of two lists, up to the end of the shorter. -/
def dot : List Int → List Int → Int
  | a :: as, b :: bs => a * b + dot as bs
  | _, _ => 0

/-- The first `n` sums of products of `w` with the windows of a list. -/
def slide (w : List Int) : Nat → List Int → List Int
  | 0, _ => []
  | _, [] => []
  | n + 1, x :: xs => dot w (x :: xs) :: slide w n xs

/-- FFE outputs y of `n` symbols from the one whose sample stands at index `i` of `xs` (R97): y(k) = Σ c(t) · x(k + CURSOR − t). -/
def ffeOut (taps : List Int) (cursor i n : Nat) (xs : List Int) : List Int :=
  slide taps.reverse n (xs.drop (i + cursor + 1 - taps.length))

/-- Post-filter outputs of a list of FFE outputs or of errors, from its third one on: [1, p1, p2] (R98). -/
def postFilter (p1 p2 : Int) : List Int → List Int
  | y2 :: y1 :: y :: ys => (512 * y + p1 * y1 + p2 * y2) :: postFilter p1 p2 (y1 :: y :: ys)
  | _ => []

/-- The samples before symbol 0 in an observation, and those after the last symbol. -/
abbrev samplesBefore : Nat := 192
abbrev samplesAfter : Nat := 240

/-! ### Correlation and pilot SNR (R75, R76) -/


/-- Correlation of received values with the levels of P in units of 2^-16, rounded down, at most 65,535; a silent input correlates
0 (R75; log entry 160). -/
def correlation (ys ps : List Int) : Nat :=
  let den := (dot ys ys * dot ps ps).toNat
  if den = 0 then 0 else sqrtBits (2 ^ 32 * ((dot ys ps) ^ 2).toNat / den) 16 0

/-- 10 log10(5 ÷ e) in units of 0.25 dB, rounded down, 0 to 255, for the sum `sq` of the squared errors of `n` symbols in units of
2^-36 (R76; log entry 160). -/
def snrOf (sq n : Nat) : Nat :=
  (List.range 8).foldl (fun acc i =>
    let x := acc + 2 ^ (7 - i)
    if sq ^ 40 * 10 ^ x ≤ (5 * n * 2 ^ 36) ^ 40 then x else acc) 0

/-! ### Soft output (R109) -/

/-- A detected bit and the number its reliability is made from: for DFE1 the distance from the nearest threshold in 2^-18, for MLSE
the max-log difference in 2^-54. -/
abbrev SoftBit := Bool × Nat

/-- The level of the symbol with number `i`, its first bit the higher one. -/
def levelNo (i : Nat) : Int := levelOf (i.testBit 1) (i.testBit 0)

/-- A bit that is 1 above a threshold, by its distance from it. The spec gives no decision at the threshold itself: a free value (log
entry 161). -/
def softBit (x : Int) : SoftBit := (if x < 0 then false else if 0 < x then true else Config.decisionTie, x.natAbs)

/-- DFE1: a slicer on y(k) − b1 · d(k − 1) with thresholds 0, −2 and +2. -/
def dfeDetect (b1 : Int) : Nat → Int → List Int → List SoftBit
  | 0, _, _ => []
  | _, _, [] => []
  | n + 1, d, y :: ys =>
    let v := y - 512 * b1 * d
    let first := softBit v
    let second := softBit (2 ^ 19 - v.natAbs)
    first :: second :: dfeDetect b1 n (levelOf first.1 second.1) ys

/-- The smaller of two path metrics, where a path exists. -/
def minPath : Option Nat → Option Nat → Option Nat
  | none, b => b
  | a, none => a
  | some a, some b => some (min a b)

/-- A detector's trellis: its memory and the combined target of Table 4-2 in 2^-18. -/
structure Trellis where
  memory : Nat
  target : List Int
  deriving DecidableEq, Repr

/-- The target taps of a lane in use: a for MLSE64, b1 for DFE1 (Table 4-2). -/
def EqCoefs.target (c : EqCoefs) (det : Nat) : Int :=
  if det = Det.MLSE64 then coefInt c.a else if det = Det.DFE1 then coefInt c.b1 else 0

/-- The trellis of MLSE16, [1, p1, p2] with memory 2, and of MLSE64, [1, a] convolved with it, memory 3. -/
def trellisOf (det : Nat) (c : EqCoefs) : Trellis :=
  let p1 := coefInt c.p1
  let p2 := coefInt c.p2
  let a := c.target Det.MLSE64
  if det = Det.MLSE64 then ⟨3, [2 ^ 18, 512 * (a + p1), a * p1 + 512 * p2, a * p2]⟩ else ⟨2, [2 ^ 18, 512 * p1, 512 * p2]⟩

/-- The metric of symbol `d` after state `σ` (its newest symbol in the low two bits): the squared distance of the post-filter output
from the combined target. -/
def Trellis.branch (t : Trellis) (z : Int) (σ d : Nat) : Nat :=
  let seen := (List.range (t.memory + 1)).map fun j => levelNo ((4 * σ + d) / 4 ^ j % 4)
  ((z - 512 * dot t.target seen) ^ 2).toNat

/-- The state after symbol `d`. -/
def Trellis.next (t : Trellis) (σ d : Nat) : Nat := (4 * σ + d) % 4 ^ t.memory

/-- Path metrics by state one symbol later. -/
def Trellis.forward (t : Trellis) (z : Int) (m : List (Option Nat)) : List (Option Nat) :=
  (List.range (4 ^ t.memory)).map fun σ' =>
    (List.range 4).foldl (fun best j =>
      let σ := σ' / 4 + 4 ^ (t.memory - 1) * j
      minPath best ((m.getD σ none).map (· + t.branch z σ (σ' % 4)))) none

/-- The smallest metric of the symbols still to come, by state, one symbol earlier. -/
def Trellis.backward (t : Trellis) (z : Int) (m : List (Option Nat)) : List (Option Nat) :=
  (List.range (4 ^ t.memory)).map fun σ =>
    (List.range 4).foldl (fun best d => minPath best ((m.getD (t.next σ d) none).map (· + t.branch z σ d))) none

/-- The metric of the best path with each value of the symbol, over a traceback of 64 symbols. -/
def Trellis.symbol (t : Trellis) (m : List (Option Nat)) (z : Int) (later : List Int) : List Nat :=
  let back := (later.take 64).foldr t.backward (List.replicate (4 ^ t.memory) (some 0))
  (List.range 4).map fun d => ((List.range (4 ^ t.memory)).foldl (fun best σ =>
    minPath best (match m.getD σ none, back.getD (t.next σ d) none with
      | some a, some b => some (a + t.branch z σ d + b)
      | _, _ => none)) none).getD 0

/-- MLSE16 and MLSE64: the max-log differences of `n` symbols. -/
def Trellis.detect (t : Trellis) : Nat → List (Option Nat) → List Int → List SoftBit
  | 0, _, _ => []
  | _, _, [] => []
  | n + 1, m, z :: zs =>
    let e := (t.symbol m z zs).map Int.ofNat
    let least := fun (a b : Nat) => min (e.getD a 0) (e.getD b 0)
    softBit (least 0 1 - least 2 3) :: softBit (least 0 2 - least 1 3) :: t.detect n (t.forward z m) zs

/-- The path metrics at a start whose symbols before it are known (newest first), or at one where they are not. -/
def Trellis.start (t : Trellis) (known : Option (List Nat)) : List (Option Nat) :=
  match known with
  | none => List.replicate (4 ^ t.memory) (some 0)
  | some ds =>
    let σ := ((ds.take t.memory).zipIdx.map fun e => e.1 * 4 ^ e.2).sum
    (List.range (4 ^ t.memory)).map fun k => if k = σ then some 0 else none

/-- The number of the symbol with a level. -/
def symbolNo (l : Int) : Nat := if l = -3 then 0 else if l = -1 then 1 else if l = 1 then 3 else 2

/-- Detected bits of `n` symbols, the first of them the symbol with index `k`; `ys` are the FFE outputs from symbol −2 on, `before`
the symbols before it, newest first, where they are known. -/
def detect (det : Nat) (c : EqCoefs) (ys : List Int) (k n : Nat) (before : Option (List Int)) : List SoftBit :=
  if det = Det.DFE1 then dfeDetect (coefInt c.b1) n ((before.getD []).headD 0) (ys.drop (k + 2))
  else
    let t := trellisOf det c
    t.detect n (t.start (before.map (·.map symbolNo))) ((postFilter (coefInt c.p1) (coefInt c.p2) ys).drop k)

/-- The reliability of a bit: min(15, floor(|LLR| ÷ LLR_STEP)), the step in 1/16, for a noise variance of `sq` ÷ `n` at the detector
input, in 2^-36 for DFE1 and 2^-54 for MLSE (R109). -/
def reliability (det step sq n dist : Nat) : Nat :=
  min 15 (if det = Det.DFE1 then 32 * dist * n * 2 ^ 18 / (sq * step) else 8 * dist * n / (sq * step))

/-! ### Adaptation (R104, R105) -/

/-- Errors e(k) = y(k) − r(k) in 2^-18 for references `ds`, the reference before them being `d`. -/
def errorsOf (tgt : Int) : Int → List Int → List Int → List Int
  | d, r :: rs, y :: ys => (y - 2 ^ 18 * r - 512 * tgt * d) :: errorsOf tgt r rs ys
  | _, _, _ => []

/-- What the adaptation engine takes of a lane: detector, cursor, taps, the exponent k of the step (none: the coefficients are kept),
taps from this one on and the target tap are left alone during a ramp (R115). -/
structure AdaptCfg where
  det : Nat
  cursor : Nat
  taps : Nat
  exp : Option Nat
  tapEnd : Nat
  rampTarget : Bool
  deriving DecidableEq, Repr

/-- The engine between two core cycles: coefficients, the reference before, the two errors before (newest first), samples from 192
before the next symbol on, references and symbols that still contribute. -/
structure AdaptRun where
  c : EqCoefs
  d : Int
  e1 : Int
  e2 : Int
  xs : List Int
  refs : List Int
  left : Nat
  deriving DecidableEq, Repr

/-- One core cycle of `m` symbols: gradients summed over its symbols and applied at its end (R105). -/
def AdaptRun.cycle (a : AdaptCfg) (r : AdaptRun) (m : Nat) : AdaptRun :=
  let c := r.c
  let taps := (List.range a.taps).map fun t => coefInt (c.tap t)
  let ds := r.refs.take m
  let es := errorsOf (c.target a.det) r.d ds (ffeOut taps a.cursor samplesBefore m r.xs)
  let before := r.e2 :: r.e1 :: es
  let act := es.take r.left
  let ws := (postFilter (coefInt c.p1) (coefInt c.p2) before).take r.left
  let mv := fun (acc : BitVec 24) (g : Int) (k : Nat) => satAcc (acc.toInt + g / ((2 ^ k : Nat) : Int))
  let c' := match a.exp with
    | none => c
    | some k =>
      let c₁ := (List.range (min a.taps a.tapEnd)).foldl (fun c t =>
        c.setTap t (mv (c.tap t) (-(dot act (r.xs.drop (samplesBefore + a.cursor - t)))) (k + 6))) c
      let g := 8 * dot act (r.d :: ds)
      let c₂ := if a.det = Det.MLSE64 ∧ !a.rampTarget then { c₁ with a := mv c₁.a g k }
        else if a.det = Det.DFE1 then { c₁ with b1 := mv c₁.b1 g k } else c₁
      { c₂ with p1 := mv c₂.p1 (-(dot ws (r.e1 :: es))) (k + 26), p2 := mv c₂.p2 (-(dot ws before)) (k + 26) }
  let last := es.reverse ++ [r.e1, r.e2]
  { c := c', d := ds.getLast?.getD r.d, e1 := last.headD 0, e2 := last.getD 1 0, xs := r.xs.drop m, refs := r.refs.drop m,
    left := r.left - m }

/-- Symbols of each core cycle of a frame of `n` symbols: 292, or 145.2 on the average in IEEE line mode (R124; log entry 160). -/
def cycleSymbols (ieee : Bool) (n : Nat) : List Nat :=
  if ieee then (List.range 240).map fun i => min n ((i + 1) * 726 / 5) - min n (i * 726 / 5)
  else (List.range 239).map fun i => min n ((i + 1) * 292) - min n (i * 292)

/-! ### A frame -/

/-- What the equaliser makes of a frame: correlation in 2^-16, the pilot is −P, SNR in 0.25 dB, the soft output from the first symbol
after the pilot on, the sum of squares at the detector input with its count, and where adaptation stands after it. -/
structure EqOut where
  corr : Nat := 0
  neg : Bool := false
  snr : Nat := 0
  soft : List SoftBit := []
  noise : Nat × Nat := (0, 0)
  run : AdaptRun
  deriving DecidableEq, Repr

/-- Correlation of the pilot and its sign: `taps` equalise `xs`. -/
def pilotCorr (taps : List Int) (cursor : Nat) (xs : List Int) : Nat × Bool :=
  let ys := ffeOut taps cursor samplesBefore 128 xs
  let ps := pilotSymbols false
  (correlation ys ps, decide (dot ys ps < 0))

/-- A frame of an equalised lane. `d`, `e1`, `e2` are the reference and the errors before it; `judge` answers from the SNR how the
engine adapts and for how many symbols. -/
def equalise (a : AdaptCfg) (ieee : Bool) (c : EqCoefs) (d e1 e2 : Int) (xs : List Int) (judge : Nat → Option Nat × Nat) : EqOut :=
  let n := min (if ieee then 34848 else 69788) (xs.length - (samplesBefore + samplesAfter))
  let taps := (List.range a.taps).map fun t => coefInt (c.tap t)
  let ys := ffeOut taps a.cursor (samplesBefore - 2) (n + 66) xs
  let (corr, neg) := if ieee then (0, false) else pilotCorr taps a.cursor xs
  let pilots := if ieee then [] else (pilotSymbols neg).take n
  let soft := detect a.det c ys pilots.length (n - pilots.length) (if ieee then none else some pilots.reverse)
  let refs := pilots ++ levelsOf (soft.map (·.1))
  let es := (errorsOf (c.target a.det) d refs (ys.drop 2)).take (if ieee then n else 128)
  let sq := (dot es es).toNat
  let ws := if a.det = Det.DFE1 then es else postFilter (coefInt c.p1) (coefInt c.p2) (e2 :: e1 :: es)
  let snr := if es.isEmpty then 0 else snrOf sq es.length
  let (exp, left) := judge snr
  let run := (cycleSymbols ieee n).foldl (fun r m => r.cycle { a with exp := exp } m) ⟨c, d, e1, e2, xs, refs, left⟩
  { corr := corr, neg := neg, snr := snr, soft := soft, noise := ((dot ws ws).toNat, ws.length), run := run }

end Sys2Proof.Machine
end

