-- ==== Sys2Proof/Machine/LineFec.lean ====
section
/-! DEFINITION. Line frame and error correction, chapter 2: frame starts, OAM word selection, the codeword counters and
their snapshots, signal degrade and fail, lane status, and the commands of the family. -/
namespace Sys2Proof.Machine

/-! ### Counters (R53 to R57) -/

/-- Live counters of lane `n` change, unless an audit holds the group's counters (R56). -/
def State.lfecCount (s : State) (n : Nat) (f : LfecX → LfecX) : State := if s.lfecHold (n / 2) then s else s.modLfec n f

/-- The counters of Table 2-9 in table order. -/
def LfecCounts.all (c : LfecCounts) : List Nat :=
  ([c.rsRx, c.rsUncorr, c.rsSym, c.rsBits, c.inRx, c.inZero, c.inCorr, c.inFail, c.inFlips] ++ c.hist).map (·.toNat)

/-- The registers that hold their snapshots, with the register index of lane `n`. -/
def countRegs (n : Nat) : List (Field × Nat) :=
  [(LFEC_RS_RX.COUNT, n), (LFEC_RS_UNCORR.COUNT, n), (LFEC_RS_SYM.COUNT, n), (LFEC_RS_BITS.COUNT, n), (LFEC_IN_RX.COUNT, n),
   (LFEC_IN_ZERO.COUNT, n), (LFEC_IN_CORR.COUNT, n), (LFEC_IN_FAIL.COUNT, n), (LFEC_IN_FLIPS.COUNT, n)] ++
  (List.range 16).map fun b => (LFEC_RS_HIST.COUNT, 16 * n + b)

/-- All counters of the lane are snapshot at one instant. -/
def State.lfecSnap (s : State) (n : Nat) : State :=
  (List.zip (countRegs n) (s.lfecOf n).live.all).foldl (fun s e => s.setFld e.1.1 e.1.2 e.2) s

/-- The words of a record that holds every counter of Table 2-9. -/
def State.lfecWords (s : State) (n : Nat) : List Nat := (s.lfecOf n).live.all.flatMap words64

/-- All counters of the lane read zero; what a window has seen so far stays (R57). -/
def State.lfecZero (s : State) (n : Nat) : State := (s.modLfec n fun x => { x with live := {} }).lfecSnap n

/-- The lane's accounts close: a record of the final values, and every counter is zero (R57). -/
def State.lfecClose (s : State) (n : Nat) : State := (s.log Evt.LFEC_CLOSE Subj.LINE_LANE n (s.lfecWords n)).lfecZero n

/-- A partial image closes the lane's accounts and returns the rest of its line FEC state to reset values (R57); the count
of boundaries is never reset (R58). -/
def State.lfecCloseAll (s : State) (n : Nat) : State :=
  let mode := s.fld LFEC_STATUS.RS_MODE n
  let busy := s.fld LFEC_STATUS.SNAP_BUSY n
  let s := (s.lfecClose n).resetRegs [.LFEC_STATUS, .LFEC_SD, .LFEC_SF, .LFEC_FAR_STATUS, .LFEC_OAM_RX, .LFEC_OAM_CRC, .LFEC_OAM_RSVD] n
  let s := (s.setFld LFEC_STATUS.RS_MODE n mode).setFld LFEC_STATUS.SNAP_BUSY n busy
  s.modLfec n fun x => { ({} : LfecX) with boundaries := x.boundaries, winAt := x.winAt }

/-- The identities of R54. -/
def LfecCounts.conserved (c : LfecCounts) : Bool :=
  decide (c.rsRx = c.hist.foldl (· + ·) c.rsUncorr) && decide (c.inRx = c.inZero + c.inCorr + c.inFail)

/-- An LFEC_STATE record. -/
def State.logLfec (s : State) (n : Nat) : State :=
  s.log Evt.LFEC_STATE Subj.LINE_LANE n (regWords (s.reg .LFEC_STATUS n) 1 ++ words64 (s.fld LFEC_FAR_STATUS.PAYLOAD n))

/-! ### Register writes -/

/-- A write to `LFEC_CTRL_n`: HOLD, then SNAP, CLR and AUDIT_CLR where they are 1 (Table 2-8). -/
def wrLfecCtrl (n v : Nat) (s : State) : State × WStatus :=
  let s := plainWrite .LFEC_CTRL n v s
  let s := if fieldOf v LFEC_CTRL.SNAP = 1 then s.setFlag LFEC_STATUS.SNAP_BUSY n true else s
  let s := if fieldOf v LFEC_CTRL.CLR = 1 then s.lfecClose n else s
  (if fieldOf v LFEC_CTRL.AUDIT_CLR = 1 then
    s.each [2 * (n / 2), 2 * (n / 2) + 1] fun k s => (s.lfecZero k).setFlag LFEC_STATUS.AUDIT_FAIL k false
  else s, .ok)

/-- A write to `LFEC_SD_n` or `LFEC_SF_n`: a clear threshold at or above the set one is rejected (R59). -/
def wrLfecThr (p : Path) (r : Reg) (clr set : Field) (n v : Nat) (s : State) : State × WStatus :=
  if fieldOf v set ≤ fieldOf v clr then rejectWrite p r n v s else (plainWrite r n v s, .ok)

/-! ### OAM word of a frame (R25, R38, R39) -/

/-- Bits [43:0] of the LANE_STATUS word of lane `n` (Table 2-6). -/
def State.laneStatus (s : State) (n : Nat) : Nat :=
  let b := fun (x : Bool) (k : Nat) => if x then 2 ^ k else 0
  s.fld TMB_NODE_ID.NODE_ID 0 * 2 ^ 28 + n * 2 ^ 24 + b (s.locked n) 23 + b (s.flag LFEC_STATUS.SD n) 22 +
    b (s.flag LFEC_STATUS.SF n) 21 + b (s.flag CIN_LANE_STATUS.SHED n) 20 + s.fld LRX_SNR.SNR n * 2 ^ 12 + s.svc n * 256 +
    s.fld HRN_GROUP_STATE.CFG_TAG (n / 2)

/-- A lane that NACKs, credit updates and fragments may ride: an NZ-mode lane in acquisition LOCKED that transmits. -/
def State.oamLane (s : State) (n : Nat) : Bool := !s.ieee n && s.locked n && decide (s.ltxState n = Ltx.ACTIVE)

/-- The NACK that lane `n` carries next: the first whose first copy went on another lane, or that no other lane could
carry (R211). -/
def State.nackFor (s : State) (n : Nat) : Option NackReq :=
  let alone := !lanes16.any fun k => decide (k ≠ n) && s.oamLane k
  s.cin.nacks.find? fun q => decide (q.usedOn ≠ some n) || alone

/-- The NACK goes on lane `n`: its first sending is counted; the second copy ends it (R211). -/
def State.nackGoes (s : State) (n : Nat) (q : NackReq) : State :=
  let put := fun (e : NackReq) => if e = q then (if 2 ≤ e.left then [{ e with left := e.left - 1, usedOn := some n }] else [])
    else [e]
  let s := { s with cin := { s.cin with nacks := s.cin.nacks.flatMap put } }
  if 2 ≤ q.left then s.count CIN_NACK_TX.COUNT q.lane else s

/-- Locked lanes of the far node `id`, in ascending order (R311). -/
def State.nodeLanes (s : State) (id : Nat) : List Nat :=
  lanes16.filter fun n => !s.ieee n && s.locked n && decide ((s.tlaneOf n).farNode = some id)

/-- CAUSEWAY payload of fragment `i`: LAST, index, data bytes minus 1, data with the first byte highest (R311). -/
def fragPayload (last : Bool) (i : Nat) (bs : List Byte) : BitVec 44 :=
  BitVec.ofNat 44 (((if last then 2048 else 0) + i % 512 * 4 + (bs.length - 1) % 4) * 2 ^ 32 +
    beValue ((bs ++ [0, 0, 0, 0]).take 4))

/-- The fragments of a message, in order: index, four bytes each. -/
def fragmentsOf (msg : List Byte) : List (BitVec 44) :=
  let k := (msg.length + 3) / 4
  (List.range k).map fun i => fragPayload (decide (i + 1 = k)) i ((msg.drop (4 * i)).take 4)

/-- The fragment that lane `n` carries at its frame 8, and the state after it: the next message of a far node is dealt to its
lanes in ascending order when nothing of the last is left and a superframe has passed since (R311). -/
def State.fragFor (s : State) (n : Nat) : Option (BitVec 44) × State :=
  let deal := fun (t : TunTx) => match t.frags, t.msgs with
    | [], m :: rest =>
      let lanes := s.nodeLanes t.node
      let rested := match t.lastAt with
        | some c => decide (c + 3824 ≤ s.cycle)
        | none => true
      if lanes.contains n && rested then
        { t with msgs := rest, frags := (fragmentsOf m).zipIdx.map fun e => (lanes.getD (e.2 % lanes.length) n, e.1) }
      else t
    | _, _ => t
  let tuns := s.mgt.tun.map deal
  match tuns.findSome? fun t => (t.frags.find? fun e => decide (e.1 = n)).map fun e => (t.node, e) with
  | none => (none, s)
  | some (node, e) =>
    let take := fun (t : TunTx) => if t.node = node then
        let left := t.frags.erase e
        { t with frags := left, lastAt := if left.isEmpty then some s.cycle else t.lastAt }
      else t
    (some e.2, { s with mgt := { s.mgt with tun := tuns.map take } })

/-- The OAM word of frame f of superframe m on lane `n`, sent at instant `x`, and the state after choosing it (R25). -/
def State.oamSelect (s : State) (n f m : Nat) (x : Int) : OamWord × State :=
  let mf := (s.ltxOf n).mfCount
  let can := s.oamLane n
  -- a LANE_STATUS of frame 0 or 8 spares frame 15 none (R25)
  let status := fun (s : State) => (oamWord Oam.LANE_STATUS (s.laneStatus n),
    s.modLtx n fun t => { t with statusSent := t.statusSent || (decide (f ≠ 0) && decide (f ≠ 8)) })
  match (if can then s.nackFor n else none) with
  | some q =>
    let s := if f = 0 ∧ s.timeLane n then s.timeDisplaced n m x else s
    (oamWord Oam.NACK (q.lane * 2 ^ 40 + q.seq.toNat * 256 + q.epoch), s.nackGoes n q)
  | none =>
    if f = 0 ∧ s.timeLane n then
      let (w, s) := s.timeWord n m mf x
      (oamWord Oam.TIME w.toNat, s)
    else
      let (frag, s) := if f = 8 ∧ can then s.fragFor n else (none, s)
      match frag with
      | some w => (oamWord Oam.CAUSEWAY w.toNat, s)
      | none =>
        if f = 15 ∧ !(s.ltxOf n).statusSent then status s
        else
          let (due, s) := if can then s.nextCredit else (none, s)
          match due with
          | some (c, loop, total) => (oamWord Oam.CREDIT (loop * 2 ^ 42 + c * 2 ^ 34 + total.toNat), s)
          | none => status s

/-! ### Frames -/

/-- `k` bits that the spec leaves open (log entry 4): free values of 512 bits each. -/
def State.freshBits (s : State) (k : Nat) : List Bool × State :=
  let m := (k + 511) / 512
  (((List.range m).flatMap fun i => (List.range 512).map fun j => (Config.freeValue (s.freeCtr + i)).getLsbD j).take k,
    { s with freeCtr := s.freeCtr + m })

/-- The multiframe frame of lane `n` whose timer slot was reached last (R31). -/
def State.slotFrame (s : State) (n : Nat) : Nat := (s.frameTimer + 19120 - 15 * n) % 19120 / 239

/-- Bits of an outer codeword, or of a transparent unit of two (R48, R49). -/
def State.unitBits (s : State) (n : Nat) : Nat := if s.svc n = Svc.TRANSPARENT then 10880 else 5440

/-- The place of frame F's first information bit in the multiframe. Epochs and periods start at whole units of it (R48, R49). -/
abbrev framePlace (F : Nat) : Nat := F * 130016

/-- A codeword of a message the spec leaves open (log entry 4). -/
def State.freeCodeword (s : State) : List Bool × State :=
  let (bs, s) := s.freshBits 5140
  (cwBits (messageCodeword bs), s)

/-- The bits that lane `n` sends as unit `u` of the multiframe where none has been given: the granule of the port that owns the position
(R183), the next unit of the host lane whose turn it is (R49), else a codeword of an open message. -/
def State.nextUnit (s : State) (n u : Nat) : List Bool × State :=
  let take := fun (s : State) (key : Nat) => ((s.ltxOf n).units.find? fun e => decide (e.1 = key)).map fun e =>
    (e.2, s.modLtx n fun x => { x with units := x.units.erase e })
  if s.svc n = Svc.TRANSPARENT then (take s (u % 2)).getD (s.freshBits 10880)
  else if s.svc n = Svc.ETHERNET then match s.portAt n (u % 478) with
    | some p => let s := s.fillPort p n u
      (take s u).getD s.freeCodeword
    | none => s.freeCodeword
  else s.freeCodeword

/-- Units follow until the stream holds a frame. -/
def State.fillStream (n P : Nat) : Nat → List Bool × State → List Bool × State
  | 0, a => a
  | k + 1, (st, s) =>
    if 130016 ≤ st.length then (st, s)
    else
      let (bits, s) := s.nextUnit n ((P + st.length) / s.unitBits n % 1912)
      State.fillStream n P k (st ++ bits, s)

/-- The 130,016 information bits of frame F of lane `n`: outer codewords or units end to end, each at its place (R48, R49, R183); zeros
where no host unit is relayed (R138). A stream that does not go on from the frame before starts at the next unit. -/
def State.frameData (s : State) (n F : Nat) : List Bool × State :=
  let x := s.ltxOf n
  if s.svc n = Svc.TRANSPARENT ∧ !x.relayIn then
    (List.replicate 130016 false, s.modLtx n fun x => { x with stream := [], streamAt := none })
  else
    let P := framePlace F
    let U := s.unitBits n
    let (lead, s) := if x.streamAt = some P then ([], s) else s.freshBits ((U - P % U) % U)
    let st := if x.streamAt = some P then x.stream else lead ++ x.stream.drop (x.stream.length % U)
    let (st, s) := State.fillStream n P 24 (st, s)
    (st.take 130016, s.modLtx n fun x => { x with stream := st.drop 130016, streamAt := some ((P + 130016) % framePlace 80) })

/-- The symbols of the data region: inner codewords interleaved in blocks of four (R43, R44). -/
def frameLevels (bits : List Bool) : List Int :=
  let words := (chunks 239 544 bits).map fun info => levelsOf (innerEncode info)
  (chunks 4 136 words).flatMap fun block =>
    (List.range 128).flatMap fun s => block.map fun w => w.getD s 0

/-- The levels of a frame: pilot, whitened OAM word most significant bit first, data region (Table 2-1, R35). -/
def frameSymbols (neg : Bool) (oam : OamWord) (bits : List Bool) : List Int :=
  pilotSymbols neg ++ levelsOf ((List.range 56).map fun i => (oamWhiten oam).getLsbD (55 - i)) ++ frameLevels bits

/-- The bank that shapes a symbol: BYPASS replaces it by a single tap of 1.0 at MAIN and a table of zeros (R141). -/
def TxBank.shaping (b : TxBank) (bypass : Bool) : TxBank :=
  if bypass then { main := b.main, fir := (List.range 15).map fun j => if j = b.main then 256 else 0, lut := [] } else b

/-- Which symbols of a frame the pattern in force replaces with BYPASS. -/
def LtxX.bypassed (x : LtxX) (k : Nat) : Bool :=
  decide (x.pat ≠ 0) && decide (x.bypass = 1) && (decide (x.place = 1) || decide (156 ≤ k))

/-- DAC codes of the symbols from 15 before the start of a frame of `len` symbols to 15 before its end, as windows of 31 levels show
them; `x₀` and `on₀` are the lane's transmit state and whether it sent frames before the frame start, `x₁`, `on₁` after it (R126,
R136). -/
def dacCodes (x₀ x₁ : LtxX) (on₀ on₁ : Bool) (len : Nat) (ws : List (List Int)) : List Int × Nat :=
  ws.zipIdx.foldr (fun e acc =>
    let before := decide (e.2 < 15)
    let x := if before then x₀ else x₁
    let on := if before then on₀ else on₁
    if on then
      let v := round256 (dacValue (x.bank.shaping (x.bypassed (if before then len - 15 + e.2 else e.2 - 15))) e.1)
      (clampInt (-128) 127 v :: acc.1, if v < -128 ∨ 127 < v then acc.2 + 1 else acc.2)
    else (0 :: acc.1, acc.2)) ([], 0)

/-- Host codewords or units that a frame of lane `n` drops because a test pattern takes their place (R142): 239 in 20 frames of
transparent service, 239 in 10 of terminated Ethernet, 12 a transmit interval of IEEE line mode. -/
def State.patDrops (s : State) (n F : Nat) : Nat :=
  let x := s.ltxOf n
  if x.pat = 0 ∨ s.ltxState n ≠ Ltx.ACTIVE then 0
  else if s.ieee n then 12
  else if s.svc n = Svc.TRANSPARENT then (if x.relayIn then (F + 1) * 239 / 20 - F * 239 / 20 else 0)
  else if s.svc n = Svc.ETHERNET then (F + 1) * 239 / 10 - F * 239 / 10
  else 0

/-- The levels of a frame or transmit interval of lane `n` go out: the pattern in its place, the DAC codes and their clips, a block for
the mask monitor (R126, R129, R141, R144). `x₀` and `on₀` are as before the frame start. -/
def State.sendLevels (s : State) (n : Nat) (x₀ : LtxX) (on₀ : Bool) (levels : List Int) : State :=
  let levels := s.placePattern n levels
  let (head, s) := if x₀.tail.length = 30 then (x₀.tail, s) else
    let (bs, s) := s.freshBits 60
    (levelsOf bs, s)
  let x₁ := s.ltxOf n
  let (codes, clips) := dacCodes x₀ x₁ on₀ (decide (s.ltxState n = Ltx.ACTIVE)) levels.length (windows31 levels.length (head ++ levels))
  let placed := if x₁.pat = 0 then 0 else if x₁.place = 1 then levels.length else levels.length - 156
  let s := if on₀ then s.maskBlock n (x₀.codes.drop 15 ++ codes.take 15) else s
  (s.count LTX_CLIP.COUNT n clips).modLtx n fun x => { x with
    tail := levels.drop (levels.length - 30), codes := codes, patPos := x.patPos + placed }

/-- The transmit instant that a frame of lane `n` places in its TIME word: by the timer; in transparent service one frame period at the
lane's rate after the instant of the frame before (R247). -/
def State.predictedInstant (s : State) (n : Nat) (captured : Nat) : Nat :=
  let x := s.ltxOf n
  match decide (s.svc n = Svc.TRANSPARENT), x.sentAt with
  | true, some a => a + 239 * (clockStep s.adj * 10 ^ 8 / ((10 ^ 8 : Int) + x.rate).toNat) / 2 ^ 32
  | _, _ => captured

/-- A frame of an NZ-mode lane: number F, data stream, pilot, OAM word, DAC codes (R28 to R32, R42 to R49, R126). -/
def State.nzFrame (s : State) (n off : Nat) : State :=
  let x₀ := s.ltxOf n
  let on₀ := decide (s.ltxState n = Ltx.ACTIVE)
  let own := decide (s.svc n = Svc.TRANSPARENT)
  let F := if own && x₀.counting then x₀.nextF else s.slotFrame n
  let f := F % 16
  let s := match x₀.relaying, (s.hostsOf n).head? with
    | true, some h => s.slewTo n h
    | _, _ => s
  let s := (s.ltxFrame n).modLtx n fun x => { x with
    counting := own
    nextF := (F + 1) % 80
    relayIn := if F % 40 = 0 then x.relaying else x.relayIn
    statusSent := if f = 0 then false else x.statusSent }
  let at_ := s.lineInstant off
  let (oam, s) := s.oamSelect n f (F / 16) (s.predictedInstant n at_)
  let (data, s) := s.frameData n F
  let s := s.count LTX_PAT_DROP.COUNT n (s.patDrops n F)
  let s := s.sendLevels n x₀ on₀ (frameSymbols (pilotNegOf F) oam (scramble (scramblerSeed n f) data))
  let s := s.modLtx n fun x => { x with
    sentF := F, sentNeg := pilotNegOf F, sentOam := oam, sentAt := some at_, mfCount := if F = 79 then x.mfCount + 1 else x.mfCount }
  if f = 0 ∧ s.ltxState n = Ltx.ACTIVE then s.setFld TMB_FRAME_TX.TS n (ts96Of at_).toNat else s

/-- The codewords of a transmit interval of IEEE line mode, twelve of its host lane: granules of the port, or the pairs relayed (R61,
R188). -/
def State.ieeeData (s : State) (n : Nat) : List Bool × State :=
  if s.svc n = Svc.ETHERNET then match s.portAt n 0 with
    | some p =>
      let (bs, s) := s.portToLine p 960
      ((chunks 80 12 bs).flatMap fun b => cwBits (messageCodeword (granuleOf b)), s)
    | none => ([], s)
  else
    let x := s.ltxOf n
    ((x.units.take 6).flatMap (·.2), s.modLtx n fun x => { x with units := x.units.drop 6 })

/-- A transmit interval of a lane in IEEE line mode (R61, R152): its codewords in the standard's format, which the spec does not give
(log entry 4), through the transmit path. -/
def State.ieeeInterval (s : State) (n : Nat) : State :=
  let x₀ := s.ltxOf n
  let on₀ := decide (s.ltxState n = Ltx.ACTIVE)
  let s := s.ltxFrame n
  let s := s.count LTX_PAT_DROP.COUNT n (s.patDrops n 0)
  let (data, s) := s.ieeeData n
  let (v, s) := s.fresh
  s.sendLevels n x₀ on₀ ((List.range 34848).map fun k => levelNo (Config.ieeeSymbol v data k).toNat)

/-! ### The commands -/

/-- FRAME_START, R31, R32, R25 and, for a lane in IEEE line mode, the start of a transmit interval, which comes with the count of core
cycles at a multiple of 240 (R152). `off` is the reference instant's place in the core cycle, in line symbols. A lane of a group without
configuration builds no frames. -/
def execFrameStart (n : Lane) (off : Fin 292) (s : State) : Res :=
  if !s.configured (n / 2) then .next s
  else if s.ieee n then .next (if s.interval % 240 = 0 then s.ieeeInterval n else s)
  else .next (s.nzFrame n off)

/-- What the superframe boundary of lane `n` shows of its equaliser: the counts of reliabilities and the coefficients
(R109, R125). -/
def State.eqpSnap (s : State) (n : Nat) : State :=
  let x := s.eqpOf n
  let s := s.each (List.range 16) fun q s => s.setFld EQP_QHIST.COUNT (16 * n + q) (x.qhist.getD q 0)
  let s := s.each (List.range 80) fun j s =>
    let tap := fun (t : Nat) => if t < 16 * s.slices n then coefOf (x.live.tap t) else 0
    (s.setFld EQP_COEF.LO (80 * n + j) (tap (2 * j))).setFld EQP_COEF.HI (80 * n + j) (tap (2 * j + 1))
  s.modEqp n fun x => { x with qhist := List.replicate 16 0 }

/-- COUNTER_SNAPSHOT, R55, R58, R60: the lane's superframe boundary. -/
def execCounterSnapshot (n : Lane) (s : State) : Res :=
  let s := if s.flag LFEC_CTRL.HOLD n then s else s.lfecSnap n
  let s := s.modLfec n fun x => { x with boundaries := x.boundaries + 1 }
  .next ((s.countSat LFEC_FAR_STATUS.AGE n).eqpSnap n)

/-- The value of `LFEC_CTRL_n` with one of its bits written 1. -/
def State.lfecCtrlValue (s : State) (n : Nat) (f : Field) : Nat := withField (s.writeBack .LFEC_CTRL n) f 1

/-- LFEC_SNAP, R55. -/
def execLfecSnap (p : Path) (n : Lane) (s : State) : Res :=
  let v := s.lfecCtrlValue n LFEC_CTRL.SNAP
  writeCommand p .LFEC_CTRL n v (wrLfecCtrl n v) s

/-- SNAPSHOT_TAKEN, R55: the next outer codeword boundary after SNAP. -/
def execSnapshotTaken (n : Lane) (s : State) : Res :=
  .next (if s.flag LFEC_STATUS.SNAP_BUSY n then (s.lfecSnap n).setFlag LFEC_STATUS.SNAP_BUSY n false else s)

/-- LFEC_CLR, R57. -/
def execLfecClr (p : Path) (n : Lane) (s : State) : Res :=
  let v := s.lfecCtrlValue n LFEC_CTRL.CLR
  writeCommand p .LFEC_CTRL n v (wrLfecCtrl n v) s

/-- LFEC_AUDIT_CLR, R56. -/
def execLfecAuditClr (p : Path) (n : Lane) (s : State) : Res :=
  let v := s.lfecCtrlValue n LFEC_CTRL.AUDIT_CLR
  writeCommand p .LFEC_CTRL n v (wrLfecCtrl n v) s

/-- CONSERVATION_AUDIT, R56: every lane, every 1 ms; a lane whose violation stands already is not reported again. -/
def execConservationAudit (s : State) : Res :=
  .next (s.each lanes16 fun n s =>
    if (s.lfecOf n).live.conserved || s.flag LFEC_STATUS.AUDIT_FAIL n then s
    else ((s.log Evt.LFEC_AUDIT Subj.LINE_LANE n (s.lfecWords n)).setFlag LFEC_STATUS.AUDIT_FAIL n true).alert Alert.AUDIT)

/-- SD_SF_WINDOW_END, R58: the boundary just counted starts a window, its number being a multiple of 256 from 0 on (log entry 169). -/
def execSdSfWindowEnd (n : Lane) (s : State) : Res :=
  let x := s.lfecOf n
  if x.boundaries % 256 ≠ 1 ∨ x.winAt = x.boundaries then .next s else
  let judge := fun (was : Bool) (rise set clr : Nat) => if set ≤ rise then true else if rise ≤ clr then false else was
  let sd := s.flag LFEC_STATUS.SD n
  let sf := s.flag LFEC_STATUS.SF n
  let sd' := if x.winWhole then judge sd x.winSym x.sdSet x.sdClr else sd
  let sf' := if x.winWhole then judge sf x.winUncorr x.sfSet x.sfClr else sf
  let s := s.modLfec n fun x => { x with
    winAt := x.boundaries, winSym := 0, winUncorr := 0, winWhole := s.locked n
    sdSet := s.fld LFEC_SD.SD_SET n, sdClr := s.fld LFEC_SD.SD_CLR n
    sfSet := s.fld LFEC_SF.SF_SET n, sfClr := s.fld LFEC_SF.SF_CLR n }
  let s := (s.setFlag LFEC_STATUS.SD n sd').setFlag LFEC_STATUS.SF n sf'
  let s := if sd' ≠ sd ∨ sf' ≠ sf then s.logLfec n else s
  .next (if sf' && !sf then s.shedOnSf n 2 else s)

/-- The lane's LANE_STATUS word has been delivered (R41, R229, R271). A LANE field that differs is recorded with the first such word, and
again once a word has matched (DESIGN CHOICE, log entry 168). -/
def State.laneStatusIn (s : State) (n : Nat) (w : BitVec 44) : State :=
  let v := w.toNat
  let s := (s.setFld LFEC_FAR_STATUS.AGE n 0).setFld LFEC_FAR_STATUS.PAYLOAD n v
  let was := s.flag LFEC_STATUS.CFG_MISMATCH n
  let differs := decide (v / 256 % 16 ≠ s.svc n) || decide (v % 256 ≠ s.fld HRN_GROUP_STATE.CFG_TAG (n / 2))
  let s := s.setFlag LFEC_STATUS.CFG_MISMATCH n differs
  let s := if differs && !was then s.logLfec n else s
  let crossed := decide (v / 2 ^ 24 % 16 ≠ n)
  let s := if crossed && !(s.lfecOf n).crossed then s.logLfec n else s
  let s := s.modLfec n fun x => { x with crossed := crossed }
  let s := s.farNodeSeen n (v / 2 ^ 28)
  if !s.cinchLane n then s
  else
    let shed := v.testBit 20
    let wasShed := (s.claneOf n).farShed
    let s := (s.modClane n fun x => { x with farShed := shed }).setFlag CIN_LANE_STATUS.FAR_SHED n shed
    let s := if shed && !wasShed then s.shedLane n 4 else s
    if v.testBit 21 then s.shedOnSf n 3 else s

/-- LANE_STATUS_RECEIVED, R40, R41. -/
def execLaneStatusReceived (n : Lane) (payload : BitVec 44) (s : State) : Res :=
  .next (if s.ieee n then s else s.oamIn n fun s => s.laneStatusIn n payload)

/-- OAM_WORD_DISCARDED, R40: the word as the mask of R37 leaves it; a failing CRC, a reserved TYPE, IDLE. -/
def execOamWordDiscarded (n : Lane) (word : OamWord) (s : State) : Res :=
  .next (if s.ieee n then s else s.oamIn n fun s =>
    if !oamCrcOk word then s.count LFEC_OAM_CRC.COUNT n
    else if 5 < oamType word then s.count LFEC_OAM_RSVD.COUNT n
    else s)

/-! ### Inner decoders (R46) -/

/-- State of inner decoder `d` of group `g`. -/
def State.decState (s : State) (g d : Nat) : Nat := s.fld BST_DEC_STATE.STATES g / 4 ^ d % 4

/-- Inner decoder `d` of group `g` enters a state. -/
def State.setDec (s : State) (g d st : Nat) : State :=
  let v := s.fld BST_DEC_STATE.STATES g
  s.setFld BST_DEC_STATE.STATES g (v - v / 4 ^ d % 4 * 4 ^ d + st * 4 ^ d)

/-- Working decoders that serve lane `l` of group `g`. -/
def State.decoders (s : State) (g l : Nat) : Nat :=
  (List.range 7).countP fun d => decide (s.decState g d = Decoder.IN_SERVICE) && decide ((s.grpOf g).decLane.getD d 0 = l)

/-- A spare decoder of the group. -/
def State.spareDecoder (s : State) (g : Nat) : Option Nat := (List.range 7).find? fun d => decide (s.decState g d = Decoder.SPARE)

/-- The lane that a spare serves: the one short of a decoder, the first to become short where both are. -/
def State.shortLane (s : State) (g : Nat) : Option Nat :=
  match decide (s.decoders g 0 < 3), decide (s.decoders g 1 < 3) with
  | true, true => some ((s.grpOf g).shortFirst.getD 0)
  | true, false => some 0
  | false, true => some 1
  | false, false => none

/-- The roles of the decoders at cold reset, image load and reopen: fenced decoders skipped, L(2g) the three lowest, L(2g+1) the
next three, any left over is the spare. -/
def State.assignDecoders (s : State) (g : Nat) : State :=
  let working := (List.range 7).filter fun d => decide (s.decState g d ≠ Decoder.FENCED)
  let s := s.each (working.take 6) fun d s => s.setDec g d Decoder.IN_SERVICE
  let s := s.each (working.drop 6) fun d s => s.setDec g d Decoder.SPARE
  let lane := fun (d : Nat) => if (working.take 3).contains d then 0 else 1
  s.modGrp g fun x => { x with
    decLane := (List.range 7).map lane
    shortFirst := if working.length < 3 then some 0 else if working.length < 6 then some 1 else none }

/-- The spare serves the lane that is short. -/
def State.spareIn (s : State) (g : Nat) : State :=
  match s.shortLane g, s.spareDecoder g with
  | some l, some d =>
    let s := (s.setDec g d Decoder.IN_SERVICE).modGrp g fun x => { x with decLane := x.decLane.set d l }
    let short := if s.decoders g 0 < 3 then some 0 else if s.decoders g 1 < 3 then some 1 else none
    s.modGrp g fun x => { x with shortFirst := short }
  | _, _ => s

/-- SPARE_DECODER_IN_SERVICE, R46. -/
def execSpareDecoderInService (g : Grp) (s : State) : Res := .next (s.spareIn g)

/-! ### Received codewords (R42, R44 to R53) -/

/-- The detected bits of inner codeword `i` of a frame's data region, with their reliabilities (R44). -/
def innerBits (soft : List (Bool × Nat)) (i : Nat) : List (Bool × Nat) :=
  (List.range 128).flatMap fun s =>
    let k := 2 * (512 * (i / 4) + 4 * s + i % 4)
    [soft.getD k (false, 0), soft.getD (k + 1) (false, 0)]

/-- An inner codeword is counted with its outcome (R53). -/
def State.innerCount (s : State) (n : Nat) (o : InnerOutcome) (flips : Nat) : State :=
  s.lfecCount n fun x => { x with live := { x.live with
    inRx := x.live.inRx + 1
    inZero := if o = .zero then x.live.inZero + 1 else x.live.inZero
    inCorr := if o = .corrected then x.live.inCorr + 1 else x.live.inCorr
    inFail := if o = .fail then x.live.inFail + 1 else x.live.inFail
    inFlips := x.live.inFlips + BitVec.ofNat 48 flips } }

/-- A unit of a transparent line lane goes to the host lane of its parity, where it relays (R49, R178). -/
def State.relayDown (s : State) (n u : Nat) (bits : List Bool) : State :=
  match (s.hostsOf n)[u % 2]? with
  | some h => if (s.hsiOf h).relaying then s.modHsi h fun x => { x with lineUnits := x.lineUnits ++ [bits] } else s
  | none => s

/-- A unit of lane `n` has come whole: its outer codewords wait for the decoder; without outer code it is forwarded (R50). -/
def State.unitWhole (s : State) (n u : Nat) (bits : List Bool) : State :=
  if s.svc n = Svc.TRANSPARENT then
    if s.fld LFEC_STATUS.RS_MODE n = 2 then s.relayDown n u bits
    else
      let (a, b) := unitPair (cwOf bits)
      s.modLfec n fun x => { x with rxWords := x.rxWords ++ [(u, a), (u, b)] }
  else s.modLfec n fun x => { x with rxWords := x.rxWords ++ [(u, cwOf bits)] }

/-- The descrambled information bits of inner codeword `i` of frame F join the unit in hand; the first whole unit starts at its boundary
(R48, R49, R52). -/
def State.gather (s : State) (n F i : Nat) (bits : List Bool) : State :=
  let U := s.unitBits n
  let P := framePlace F + 239 * i
  let skip := (U - P % U) % U
  let (got, u) := match (s.lfecOf n).rxBits with
    | some acc => (some (acc ++ bits), (s.lfecOf n).rxUnit)
    | none => (if skip < 239 then some (bits.drop skip) else none, (P + skip) / U % 1912)
  match got with
  | none => s
  | some acc =>
    if acc.length < U then s.modLfec n fun x => { x with rxBits := some acc, rxUnit := u }
    else
      let next := (u + 1) % (framePlace 80 / U)
      (s.modLfec n fun x => { x with rxBits := some (acc.drop U), rxUnit := next }).unitWhole n u (acc.take U)

/-- INNER_CODEWORD_DECODED, R42, R44, R45, R52, R53: the next inner codeword of the frames received in LOCKED: its bits with their
reliabilities, Chase-II, outcome and flips counted, descrambled. What arrived before the lane left LOCKED is still decoded (R80); none is
while fewer than three decoders serve the lane (R46). `frame` and `idx` name the codeword; only the next one is decoded (log entry 1). The
inner code of IEEE line mode is the standard's: its outcome is a free value (log entry 4). -/
def execInnerCodewordDecoded (n : Lane) (frame : Option Nat) (idx : Nat) (s : State) : Res :=
  if s.decoders (n / 2) (n % 2) < 3 then .next s
  else if s.ieee n then
    if !s.locked n then .next s else
    let (v, s) := s.fresh
    let o := if v.toNat % 3 = 0 then InnerOutcome.zero else if v.toNat % 3 = 1 then .corrected else .fail
    .next (s.innerCount n o (if o = .corrected then v.toNat / 3 % 257 else 0))
  else match (s.lfecOf n).rxQ with
    | [] => .next s
    | fr :: rest =>
      if frame ≠ fr.F ∨ idx ≠ fr.idx then .next s else
      let soft := innerBits fr.soft fr.idx
      let r := soft.map (·.1)
      let (o, c) := chaseDecode r (soft.map (·.2))
      let s := s.innerCount n o (bitDiff r c)
      let s := s.modLfec n fun x => { x with
        rxQ := if fr.idx = 543 then rest else { fr with idx := fr.idx + 1 } :: rest
        rxBits := if fr.F.isNone || (decide (fr.idx = 0) && !fr.joins) then none else x.rxBits }
      .next (match fr.F with
        | none => s
        | some F =>
          let seq := scramblerSequence (scramblerSeed n (F % 16)) (239 * fr.idx + 239)
          s.gather n F fr.idx (List.zipWith (· != ·) (c.take 239) (seq.drop (239 * fr.idx))))

/-- An outer codeword is counted: corrected symbols and bits, or uncorrectable (R53, R58). -/
def State.outerCount (s : State) (n : Nat) (d : Option (List Nat × Nat × Nat)) : State :=
  s.lfecCount n fun x => match d with
    | some (_, syms, bits) => { x with
        winSym := x.winSym + syms
        live := { x.live with
          rsRx := x.live.rsRx + 1
          rsSym := x.live.rsSym + BitVec.ofNat 48 syms
          rsBits := x.live.rsBits + BitVec.ofNat 48 bits
          hist := x.live.hist.modify syms (· + 1) } }
    | none => { x with
        winUncorr := x.winUncorr + 1
        live := { x.live with rsRx := x.live.rsRx + 1, rsUncorr := x.live.rsUncorr + 1 } }

/-- An outer codeword of lane `n`, unit `u`, leaves its decoder: to the granules of Cinch, to its port, or, with the other one of its pair,
to its host lane (R48, R49, R183). -/
def State.outerOut (s : State) (n u : Nat) (ok : Bool) (w : List (BitVec 10)) : State :=
  if s.svc n = Svc.CINCH then s.modLfec n fun x => { x with rxOut := x.rxOut ++ [(ok, w)] }
  else if s.svc n = Svc.TRANSPARENT then match (s.lfecOf n).rxHalf with
    | none => s.modLfec n fun x => { x with rxHalf := some w }
    | some a => (s.modLfec n fun x => { x with rxHalf := none }).relayDown n u (cwBits (pairUnit a w))
  else if s.ieee n then match s.portAt n 0 with
    | some p => s.portDown p (if ok then blocksOf ((cwBits w).take 5140) else List.replicate 80 errorBlk)
    | none => s
  else s.portReceive n u ok w

/-- An outer codeword is decoded, counted and passed on; an uncorrectable one goes on unchanged and flagged (R51). -/
def State.outerDecoded (s : State) (n u : Nat) (w : List (BitVec 10)) : State :=
  let d := rsDecode (w.map (·.toNat))
  (s.outerCount n d).outerOut n u d.isSome (match d with
    | some (c, _, _) => c.map (BitVec.ofNat 10)
    | none => w)

/-- OUTER_CODEWORD_DECODED, R50 to R53, R80: the next outer codeword that has come whole in LOCKED with the multiframe phase known; none
with RS_MODE NONE. In IEEE line mode the decoder's codeword is `w`, as the standard's sublayers form it. -/
def execOuterCodewordDecoded (n : Lane) (w : List (BitVec 10)) (s : State) : Res :=
  if s.fld LFEC_STATUS.RS_MODE n = 2 then .next s
  else if s.ieee n then .next (if s.locked n then s.outerDecoded n 0 w else s)
  else match (s.lfecOf n).rxWords with
    | [] => .next s
    | (u, w) :: rest => .next ((s.modLfec n fun x => { x with rxWords := rest }).outerDecoded n u w)

/-- A frame received on lane `n` waits for the inner decoders: those of a lane in LOCKED for all of it, with enough decoders (R46,
R52). -/
def State.frameQueued (s : State) (n : Nat) (F : Option Nat) (soft : List (Bool × Nat)) : State :=
  if s.decoders (n / 2) (n % 2) < 3 then s.modLfec n fun x => { x with rxJoin := false }
  else s.modLfec n fun x => { x with rxQ := x.rxQ ++ [{ F := F, joins := x.rxJoin, soft := soft }], rxJoin := true }


end Sys2Proof.Machine
end

