-- ==== Sys2Proof/Machine/LineRx.lean ====
section
/-! DEFINITION. Line receive and acquisition, chapter 3: calibration, gain control, timing, the acquisition states, power
steps and LOS, recovery, frame phase, adaptation of the equaliser, the TIA port, and the commands of the family. -/
namespace Sys2Proof.Machine

/-! ### Questions -/

/-- Acquisition state of lane `n`. -/
def State.lrxState (s : State) (n : Nat) : Nat := s.fld LRX_STATUS.STATE n

/-- The acquisition in progress is a recovery. -/
def State.recovering (s : State) (n : Nat) : Bool := s.flag LRX_STATUS.RECOVERY n

/-- The clocks a line receiver needs. -/
def State.lrxClocks (s : State) (n : Nat) : Bool := s.clocksPresent && s.lineSynthLocked (n / 2)

/-- Core cycles of 10 ms, of 1 ms and of 1 µs (rounded up). -/
abbrev cycles10ms : Nat := 7812500
abbrev cycles1ms : Nat := 781250
abbrev cycles1us : Nat := 782

/-- The TSK_PD_n input of lane `n` (Table 9-3): none is 0xFF; a group without LINE_RX names none. -/
def State.pdInput (s : State) (n : Nat) : Option Nat :=
  let sec := s.section_ Sect.LINE_RX (n / 2)
  let p := byteAt sec (8 * (n % 2))
  if sec.isEmpty ∨ p = 0xFF then none else some p

/-- An enabled LOS rule of Tussock names the lane (R366). -/
def State.losRule (s : State) (n : Nat) : Bool :=
  (List.range 32).any fun r => s.flag TSK_RULE.RULE_EN r && decide (s.fld TSK_RULE.ACTION r = 1) &&
    (s.fld TSK_RULE.TARGET r).testBit n

/-- LOS as the selected source sees it (R88, R366). -/
def State.losNow (s : State) (n : Nat) : Bool :=
  let x := s.lrxOf n
  if (s.pdInput n).isNone then x.losEnvelope
  else match s.fld LRX_CTRL.LOS_SRC n with
    | 0 => if s.losRule n then x.losTussock else x.losEnvelope
    | 1 => x.losEnvelope
    | _ => x.losTussock || x.losEnvelope

/-- Entry `i` of the gain table of lane `n` (Table 9-3, TIA): register and value. -/
def State.tiaEntry (s : State) (n i : Nat) : Nat × Nat :=
  let t := s.section_ Sect.TIA (n / 2)
  let b := 4 + 68 * (n % 2) + 4 + 4 * i
  (byteAt t b, byteAt t (b + 1))

/-- Entries of the gain table of lane `n`; none without a TIA section. -/
def State.tiaCount (s : State) (n : Nat) : Nat := byteAt (s.section_ Sect.TIA (n / 2)) (4 + 68 * (n % 2))

/-! ### Gain-corrected power (R67, R81) -/

/-- The gain in 0.25 dB that the image gives entry `i` of lane `n`'s gain table. -/
def State.tiaGain (s : State) (n i : Nat) : Int :=
  toSigned 16 (fieldAt (s.section_ Sect.TIA (n / 2)) (4 + 68 * (n % 2) + 4 + 4 * i + 2) 2)

/-- The total analogue gain of lane `n` in 0.25 dB: the TIA index in force and the VGA code, whose code 0 is −6 dB. -/
def State.gainNow (s : State) (n : Nat) : Int :=
  s.tiaGain n ((s.grpOf (n / 2)).tiaIdx.getD (n % 2) 0) + (s.fld LRX_AGC.VGA n : Int) - 24

/-- Core cycles of a 64 ns window, and of the span of sixteen of them. -/
abbrev powerWindow : Nat := 50
abbrev powerSpan : Nat := 800

/-- A gain of lane `n` has changed: from now on this one is in force. -/
def State.noteGain (s : State) (n : Nat) : State :=
  let old := (s.lrxOf n).gains.takeWhile (fun e => decide (s.cycle < e.1 + powerSpan)) ++
    ((s.lrxOf n).gains.dropWhile fun e => decide (s.cycle < e.1 + powerSpan)).take 1
  s.modLrx n fun x => { x with gains := (s.cycle, s.gainNow n) :: old }

/-- The VGA of lane `n` takes a code. -/
def State.setVga (s : State) (n v : Nat) : State := (s.setFld LRX_AGC.VGA n v).noteGain n

/-- The gain that was in force over window `i` before now, 0 the newest. -/
def State.gainAt (s : State) (n i : Nat) : Int :=
  match (s.lrxOf n).gains.find? fun e => decide (e.1 + powerWindow * (i + 1) ≤ s.cycle) with
  | some e => e.2
  | none => ((s.lrxOf n).gains.getLast?.map (·.2)).getD (s.gainNow n)

/-- A power corrected for its gain, as a fraction: the mean square over 10^(gain in 0.25 dB ÷ 40), to the 40th power (R67). -/
def corrected (ms : Nat) (gain : Int) : Nat × Nat := (ms ^ 40 * 10 ^ (-gain).toNat, 10 ^ gain.toNat)

/-- The change in 0.25 dB from one corrected power to another, to the nearest; silence against power is the widest one. -/
def stepSize (from_ to_ : Nat × Nat) : Int :=
  if from_.1 = 0 ∧ to_.1 = 0 then 0
  else if from_.1 = 0 then 127
  else if to_.1 = 0 then -128
  else clampInt (-128) 127 ((log1000 (to_.1 * from_.2) (to_.2 * from_.1) 24 (-(2 ^ 23)) + 500) / 1000)

/-- The step of lane `n` that the mean squares of the last sixteen windows, newest first, show: the widest change in 0.25 dB from one of
the fifteen before to the newest, if any is 3 dB or more (R81). -/
def State.powerTrip (s : State) (n : Nat) (ms : List Nat) : Option Int :=
  let now := corrected (ms.headD 0) (s.gainAt n 0)
  let steps := ((ms.drop 1).take 15).zipIdx.map fun e => stepSize (corrected e.1 (s.gainAt n (e.2 + 1))) now
  let widest := steps.foldl (fun a b => if a.natAbs < b.natAbs then b else a) 0
  if 12 ≤ widest.natAbs then some widest else none

/-! ### The TIA port's hardware side (R65, R66, R68) -/

/-- A gain write of entry `i` of lane `n` joins the port's hardware transactions. -/
def State.tiaWrite (s : State) (n i : Nat) : State :=
  if s.tiaCount n ≤ i then s
  else
    let (r, v) := s.tiaEntry n i
    s.modPort (n / 2) .tia fun x => { x with hw := x.hw ++ [⟨n % 2, 0, i, r, v, 0⟩] }

/-- A gain write of lane `n` waits or is in progress. -/
def State.tiaBusy (s : State) (n : Nat) : Bool := (s.port (n / 2) .tia).hw.any fun t => decide (t.lane = n % 2)

/-! ### Adaptation (R104 to R107, R125) -/

/-- The adaptation phase of an acquisition state (Table 4-4, R124). -/
def phaseOf (st : Nat) (cold ieee : Bool) : Nat :=
  if st = Lrx.EQ_TRAIN then (if cold && !ieee then Phase.PILOT else Phase.TRAIN)
  else if st = Lrx.OAM_VERIFY then Phase.TRAIN
  else if st = Lrx.LOCKED then Phase.TRACK
  else Phase.HELD

/-- The pool operation at work on the group of lane `n`, where it ramps this lane (R115). -/
def State.rampOf (s : State) (n : Nat) : Option PoolOp :=
  match (s.grpOf (n / 2)).ops with
  | o :: _ => if o.started ∧ o.lane = n % 2 then some o else none
  | [] => none

/-- What the adaptation engine takes of lane `n` (R104, R105); the ramped values are left alone (R115). -/
def State.adaptCfg (s : State) (n : Nat) : AdaptCfg :=
  let taps := 16 * s.slices n
  { det := s.det n, cursor := s.cursor n, taps := taps, exp := none
    tapEnd := match s.rampOf n with
      | some o => if o.op = Pool.REMOVE then taps - 16 else taps
      | none => taps
    rampTarget := match s.rampOf n with
      | some o => decide (o.op = Pool.UNFUSE) && decide (o.frames < 64)
      | none => false }

/-- The pilot SNR of a frame is more than 6 dB below SNR_MIN in LOCKED (R107). -/
def State.snrLow (s : State) (n snr : Nat) : Bool := decide (s.lrxState n = Lrx.LOCKED) && decide (snr + 24 < (s.lrxOf n).snrMin)

/-- How a frame of lane `n` with pilot SNR `snr` adapts (R104, R107, R124): the exponent of the step, none where adaptation stops, and how
many symbols contribute. -/
def State.adaptRule (s : State) (n snr : Nat) : Option Nat × Nat :=
  let x := s.eqpOf n
  let phase := s.fld EQP_STATUS.PHASE n
  if s.flag EQP_CTRL.FREEZE n || x.clipped || x.slowFrame || decide (phase = Phase.HELD) then (none, 0)
  else
    let k := if phase = Phase.TRACK then s.fld EQP_CTRL.MU_TRK n else s.fld EQP_CTRL.MU_TRN n
    (some k, if phase = Phase.PILOT then 128 else if s.snrLow n snr then (if s.ieee n then 0 else 128) else 69788)

/-- A frame boundary applies staged coefficients, if FREEZE is still 1 and no pool operation acts; else they are ignored, which is recorded
(R125). -/
def State.applyStaged (s : State) (n : Nat) : State :=
  let x := s.eqpOf n
  match x.loadDue with
  | none => s
  | some p =>
    let s := s.modEqp n fun x => { x with loadDue := none }
    if s.flag EQP_CTRL.FREEZE n && !s.opActs n then
      (s.modCoefs n fun c => x.staged.foldl (fun c e => c.setTap e.1 (accOf e.2)) c).modEqp n fun x => { x with staged := [] }
    else s.regReject p .EQP_CTRL n (2 ^ EQP_CTRL.COEF_LOAD.lo)

/-- Reliabilities of soft bits (R109); without an estimate of the noise they are free values. -/
def State.softQ (s : State) (n : Nat) (soft : List SoftBit) : List (Bool × Nat) × State :=
  let (sq, k) := (s.eqpOf n).noise
  let step := s.fld EQP_SOFT.LLR_STEP n
  if sq * step = 0 then
    let v := fun (i : Nat) => (Config.freeValue (s.freeCtr + i / 128)).toNat / 16 ^ (i % 128) % 16
    (soft.zipIdx.map fun e => (e.1.1, v e.2), { s with freeCtr := s.freeCtr + soft.length / 128 + 1 })
  else (soft.map fun e => (e.1, reliability (s.det n) step sq k e.2), s)

/-- Bits counted by reliability over the superframe (Table 4-11). -/
def State.tallyQ (s : State) (n : Nat) (soft : List (Bool × Nat)) : State :=
  let counts := (List.range 16).map fun q => soft.countP fun e => decide (e.2 = q)
  s.modEqp n fun x => { x with qhist := List.zipWith (· + ·) x.qhist counts }

/-- What a received frame shows, equalised: the correlation of its pilot in 2^-16 and its sign, the pilot SNR in 0.25 dB, the OAM word as it
came off the fibre, the soft bits after the pilot. -/
structure FrameMeas where
  corr : Nat := 0
  neg : Bool := false
  snr : Nat := 0
  oam : OamWord := 0
  soft : List SoftBit := []
  deriving DecidableEq, Repr

/-- The fixed two-slice equaliser of acquisition: the image's acquisition set (R75, R106). -/
def State.acqTaps (s : State) (n : Nat) : List Int := (List.range 32).map fun j => (s.acqCoef n j).toInt

/-- The states whose frames go through the lane's own equaliser. -/
def equalises (st : Nat) : Bool := decide (st = Lrx.EQ_TRAIN) || decide (st = Lrx.OAM_VERIFY) || decide (st = Lrx.LOCKED) || decide (st = Lrx.ALIGN)

/-- A frame goes through the equaliser of lane `n`: what it shows, and the state after its adaptation (R75, R76, R97, R98, R104, R105). -/
def State.measure (s : State) (n : Nat) (o : RxObs) : FrameMeas × State :=
  let st := s.lrxState n
  let ieee := s.ieee n
  if st = Lrx.PILOT_SEARCH ∨ st = Lrx.FRAME_CANDIDATE then
    let (corr, neg) := pilotCorr (s.acqTaps n) 8 o.samples
    ({ corr := corr, neg := neg }, s)
  else if equalises st then
    let x := s.eqpOf n
    let r := equalise (s.adaptCfg n) ieee x.live x.prevD x.prevE1 x.prevE2 o.samples (s.adaptRule n)
    let m : FrameMeas := { corr := r.corr, neg := r.neg, snr := r.snr, oam := BitVec.ofNat 56 (bitsValue ((r.soft.take 56).map (·.1))), soft := r.soft }
    let s := s.modCoefs n fun _ => r.run.c
    (m, s.modEqp n fun x => { x with
      prevD := r.run.d, prevE1 := r.run.e1, prevE2 := r.run.e2, noise := r.noise, low := s.snrLow n r.snr, trainFrames := x.trainFrames + 1 })
  else ({}, s)

/-- The end of a frame for the adaptation of lane `n`: staged coefficients, the cases of R107 for the next frame, the end of PILOT. -/
def State.adaptEnd (s : State) (n : Nat) (o : RxObs) : State :=
  let len := if s.ieee n then 34848 else 69788
  let s := (s.applyStaged n).modEqp n fun x => { x with clipped := decide (len < 1000 * o.clipSamples), slowFrame := false }
  let s := s.showFreeze n
  let limit := byteAt (s.poolRecord (n / 2)) (10 + n % 2)
  if s.fld EQP_STATUS.PHASE n = Phase.PILOT ∧ limit ≤ (s.eqpOf n).trainFrames then s.setFld EQP_STATUS.PHASE n Phase.TRAIN else s

/-- Hard decisions of lane `n`'s detector on all symbols of a frame, pilots not assumed. -/
def State.rawSymbols (s : State) (n : Nat) (o : RxObs) : List (BitVec 2) :=
  let c := (s.eqpOf n).live
  let a := s.adaptCfg n
  let k := (if s.ieee n then 34848 else 69788)
  let taps := (List.range a.taps).map fun t => coefInt (c.tap t)
  let soft := detect a.det c (ffeOut taps a.cursor (samplesBefore - 2) (k + 66) o.samples) 0 k none
  (chunks 2 k (soft.map (·.1))).map fun b => BitVec.ofNat 2 (bitsValue b)

/-- The lane's checker reads the frame: all of it for a RAW pattern, symbols 156 on for a PAYLOAD pattern (R143). -/
def State.checkFrame (s : State) (n : Fin 16) (o : RxObs) : State :=
  if s.fld LTX_CHK.PAT n = 0 then s
  else s.chkFeed (.line n) ((s.rawSymbols n o).drop (if s.flag LTX_CHK.PLACE n then 0 else 156))

/-- The coefficients a lane starts EQ_TRAIN with: cold, its acquisition set around CURSOR (R106); in recovery, those it held
when it left LOCKED (R86). -/
def State.startCoefs (s : State) (n : Nat) (cold : Bool) : State :=
  if cold then
    let taps := 16 * s.slices n
    let base : Int := (s.cursor n : Int) - 8
    let put := fun (c : EqCoefs) (j : Nat) =>
      let t := base + (j : Int)
      if 0 ≤ t ∧ t < (taps : Int) then c.setTap t.toNat (accOf (s.acqCoef n j)) else c
    s.modCoefs n fun _ => (List.range 32).foldl put {}
  else
    let held := (s.eqpOf n).stored
    s.modCoefs n fun _ => held

/-! ### State changes -/

/-- Lane `n` enters acquisition state `st`: fast AGC freezes and unfreezes (R69), the acquisition configuration takes effect
(R92), the adaptation phase follows (Table 4-4), counts of frames start again. -/
def State.goLrx (s : State) (n st : Nat) : State :=
  let cold := !s.recovering n
  let s := s.setFld LRX_STATUS.STATE n st
  let s := if st = Lrx.AGC then s.setFlag LRX_STATUS.AGC_FROZEN n false
    else if st = Lrx.FRAME_CANDIDATE ∨ (st = Lrx.EQ_TRAIN ∧ s.ieee n) then s.setFlag LRX_STATUS.AGC_FROZEN n true
    else s
  let s := if st = Lrx.PILOT_SEARCH ∨ (st = Lrx.EQ_TRAIN ∧ s.ieee n) then
      s.modLrx n fun x => { x with corrLock := s.fld LRX_ACQ_CFG.CORR_LOCK n, corrLoss := s.fld LRX_ACQ_CFG.CORR_LOSS n,
                                   snrMin := s.fld LRX_ACQ_CFG.SNR_MIN n }
    else s
  let s := s.modLrx n fun x => { x with candRun := 0, snrRun := 0, oamRun := 0, corrMiss := 0, oamMiss := 0, snrSum := 0, snrFrames := 0,
                                        entered := s.cycle }
  let s := s.setFld EQP_STATUS.PHASE n (phaseOf st cold (s.ieee n))
  let idle := decide (st = Lrx.DISABLED) || decide (st = Lrx.SQUELCHED) || decide (st = Lrx.ADC_CAL) || decide (st = Lrx.FAILED)
  let s := if idle then (s.modEqp n fun x => { x with clipped := false, slowFrame := false, low := false }).showFreeze n else s
  if st = Lrx.EQ_TRAIN then
    let s := (if cold then s.poolColdTrain n else s).startCoefs n cold
    s.modEqp n fun x => { x with trainFrames := 0 }
  else s

/-- The superframe and the multiframe phase are unknown. -/
def State.clearPhase (s : State) (n : Nat) : State :=
  ((s.setFlag LRX_STATUS.SF_KNOWN n false).setFlag LFEC_STATUS.MF_KNOWN n false).modLrx n fun x => { x with plusRun := 0 }

/-- A cause that ends an acquisition or a lock is recorded (R85). -/
def State.lossCause (s : State) (n cause : Nat) : State := s.setFld LRX_STATUS.LOSS_CAUSE n cause

/-- Messages whose fragments wait for lane `n` can no longer go whole. -/
def State.tunLaneDown (s : State) (n : Nat) : State :=
  let cut := fun (t : TunTx) =>
    if t.frags.any (fun e => decide (e.1 = n)) then { t with frags := [], lastAt := some s.cycle } else t
  { s with mgt := { s.mgt with tun := s.mgt.tun.map cut } }

/-- Lane `n` leaves LOCKED, if it is there: recorded, counted and logged (R85); what recovery uses is held (R86), and
everything that received from the lane stops. -/
def State.leaveLocked (s : State) (n cause : Nat) : State :=
  if !s.locked n then s
  else
    let f := ((s.lrxOf n).nextF + 15) % 16
    let predicted := if s.flag LFEC_STATUS.MF_KNOWN n then some (16 * s.fld LFEC_STATUS.MF_M n + f) else none
    let s := (s.lossCause n cause).count LRX_LOL.COUNT n
    let s := s.log Evt.LRX_LOL Subj.LINE_LANE n [cause, Lrx.LOCKED]
    let s := s.modLrx n fun x => { x with attempts := 0, predF := predicted, predOk := false }
    let s := s.modEqp n fun x => { x with stored := x.live }
    let s := (s.setFld LRX_SNR.SNR n 0).modLfec n fun x => { x with winWhole := false, rxJoin := false, frameAt := none }
    -- the consumers see the lane out of LOCKED
    let s := s.setFld LRX_STATUS.STATE n Lrx.AGC
    ((((s.poolLeftLocked n).cinLeftLocked n).timeLaneDown n).hostRelayStop n |>.tunLaneDown n).showPorts

/-- A foreground calibration that the lane leaves before its end is a run that was aborted (R386). -/
def State.calAborted (s : State) (n : Nat) : State :=
  if s.lrxState n = Lrx.ADC_CAL then s.calRun n Cal.ABORTED (s.fld CAL_VALUE.VALUE n) else s

/-- LOS moves lane `n` to SQUELCHED from any state but DISABLED, ADC_CAL, FAILED (R88). -/
def State.losMoves (s : State) (n : Nat) : State :=
  let st := s.lrxState n
  if st = Lrx.DISABLED ∨ st = Lrx.ADC_CAL ∨ st = Lrx.FAILED ∨ st = Lrx.SQUELCHED then s
  else ((s.leaveLocked n Loss.LOS).setFlag LRX_STATUS.RECOVERY n false).goLrx n Lrx.SQUELCHED

/-- A cold attempt starts at AGC (R74); with LOS asserted it ends at once in SQUELCHED (R88). -/
def State.startCold (s : State) (n : Nat) : State :=
  let s := (s.clearPhase n).count LRX_ACQ_COLD.COUNT n
  let s := s.modLrx n fun x => { x with attempts := x.attempts + 1, attemptStart := s.cycle, predF := none, mfErrRun := 0 }
  let s := (s.setFlag LRX_STATUS.RECOVERY n false).goLrx n Lrx.AGC
  if s.flag LRX_STATUS.LOS n then s.losMoves n else s

/-- Recovery starts at AGC (R86). -/
def State.startRecovery (s : State) (n : Nat) : State :=
  ((s.modLrx n fun x => { x with attemptStart := s.cycle }).setFlag LRX_STATUS.RECOVERY n true).goLrx n Lrx.AGC

/-- `RESTARTS` shows the restarts in the 10 ms that end now. -/
def State.showRestarts (s : State) (n : Nat) : State :=
  let live := (s.lrxOf n).restarts.filter fun c => decide (s.cycle < c + cycles10ms)
  (s.modLrx n fun x => { x with restarts := live }).setFld LRX_STATUS.RESTARTS n (clampNat 15 live.length)

/-- A core cycle's effect on the restart counts. -/
def State.tickLrx (s : State) : State :=
  s.each lanes16 fun n s => if (s.lrxOf n).restarts.isEmpty then s else s.showRestarts n

/-- Lane `n` enters FAILED: counted, recorded, alerted, and shed from its stripes (R87, R229). -/
def State.failLrx (s : State) (n cause : Nat) : State :=
  let s := ((s.setFlag LRX_STATUS.RECOVERY n false).goLrx n Lrx.FAILED).count LRX_FAIL.COUNT n
  let s := s.showRestarts n
  let s := s.log Evt.LRX_FAILED Subj.LINE_LANE n [cause, (s.lrxOf n).restarts.length]
  (s.alert Alert.LANE).shedLane n 0

/-- A recovery restart: counted; the one that makes four within 10 ms ends in FAILED (R87). `attempts` is one count, of cold attempts and
of recovery restarts alike: a recovery that falls back to a cold attempt adds to it (R89; DESIGN CHOICE, log entry 168). -/
def State.restart (s : State) (n : Nat) : State :=
  let s := s.count LRX_RESTART.COUNT n
  let s := (s.modLrx n fun x => { x with attempts := x.attempts + 1, restarts := x.restarts ++ [s.cycle] }).showRestarts n
  if 4 ≤ (s.lrxOf n).restarts.length then s.failLrx n (s.fld LRX_STATUS.LOSS_CAUSE n)
  else s.goLrx n Lrx.AGC

/-- A stage that failed: a cold attempt goes back to `back`, a recovery restarts. -/
def State.stageFails (s : State) (n : Nat) (cold : State → State) : State := if s.recovering n then s.restart n else cold s

/-- A candidate is lost: back to PILOT_SEARCH, its phase with it (R84), or a recovery restart. -/
def State.missed (s : State) (n : Nat) (counter : Field) : State :=
  (s.count counter n).stageFails n fun s => (s.clearPhase n).goLrx n Lrx.PILOT_SEARCH

/-- Exit from LOCKED for a cause whose path is recovery (Table 3-4). -/
def State.loseLock (s : State) (n cause : Nat) : State :=
  if s.locked n then (s.leaveLocked n cause).startRecovery n else s

/-- A lane in LOCKED short of working decoders, with no spare to serve it, leaves with cause DECODER_LOSS (R46). -/
def State.checkDecoders (s : State) (n : Nat) : State :=
  if s.locked n ∧ s.decoders (n / 2) (n % 2) < 3 ∧ (s.spareDecoder (n / 2)).isNone then
    (s.leaveLocked n Loss.DECODER_LOSS).failLrx n Loss.DECODER_LOSS
  else s

/-! ### Lock (R84, R89) -/

/-- RX power of lane `n` in 0.01 dBm and whether it is valid (R89, R389): P = (y − B) × A ÷ 2^16 in 0.1 µW. The spec states
no dBm value for P ≤ 0: a free value. -/
def State.rxPower (s : State) (n : Nat) : Bool × Nat × State :=
  match s.pdInput n with
  | none => (false, 0, s)
  | some k =>
    let a := s.fld CAL_TSK.A k
    if !s.flag TSK_IN_CFG.EN k || decide ((s.tskInOf k).samples.length < 2 ^ s.fld TSK_IN_CFG.AVG k) || decide (a = 0) then
      (false, 0, s)
    else
      let y := s.fld TSK_VALUE.Y k
      let b := s.fld CAL_TSK.B k
      if b < y then (true, ofSigned 16 (log1000 ((y - b) * a) (65536 * 10000) 16 (-32768)), s)
      else
        let (v, s) := s.fresh
        (true, v.toNat % 65536, s)

/-- Lane `n` enters LOCKED: counted, its lock snapshot latched and recorded (R89), its consumers told. `corr` and `snr` are
those of the verification. -/
def State.enterLocked (s : State) (n corr snr : Nat) : State :=
  let kind := s.recovering n
  let x := s.lrxOf n
  let s := s.count LRX_ACQ_LOCK.COUNT n
  let s := s.modLrx n fun x => { x with lockCount := x.lockCount + 1, mfErrRun := 0 }
  let (valid, pwr, s) := s.rxPower n
  let put := fun (f : Field) (v : Nat) (s : State) => s.setFld f n v
  let s := put LRX_LOCK_SNAP.LOCK_TIME s.now.toNat s
  let s := put LRX_LOCK_SNAP.TIME_Q s.quality s
  let s := put LRX_LOCK_SNAP.KIND (if kind then 1 else 0) s
  let s := put LRX_LOCK_SNAP.PWR_VALID (if valid then 1 else 0) s
  let s := put LRX_LOCK_SNAP.RX_PWR pwr s
  let s := put LRX_LOCK_SNAP.SNR snr s
  let s := put LRX_LOCK_SNAP.VGA (s.fld LRX_AGC.VGA n) s
  let s := put LRX_LOCK_SNAP.TIA_IDX (s.fld LRX_AGC.TIA_IDX n) s
  let s := put LRX_LOCK_SNAP.FREQ (s.fld LRX_TR.FREQ n) s
  let s := put LRX_LOCK_SNAP.ACQ_TIME (clampNat (2 ^ 24 - 1) ((s.cycle - x.attemptStart) * 128 / 10000)) s
  let s := put LRX_LOCK_SNAP.ATTEMPTS (clampNat 0xFFFF x.attempts) s
  let s := put LRX_LOCK_SNAP.PILOT_CORR corr s
  let s := put LRX_LOCK_SNAP.LOCK_COUNT (s.lrxOf n).lockCount.toNat s
  let s := s.log Evt.LRX_LOCK Subj.LINE_LANE n (regWords (s.reg .LRX_LOCK_SNAP n) 8)
  -- the prediction of a recovery holds where every polarity seen has agreed with it
  let s := if !kind then s else match x.predF, x.predOk, s.ieee n with
    | some F, true, false =>
      let s := (s.setFlag LRX_STATUS.SF_KNOWN n true).setFlag LFEC_STATUS.MF_KNOWN n true
      (s.setFld LFEC_STATUS.MF_M n (F / 16)).modLrx n fun x =>
        { x with nextF := (F + 1) % 16, lastM := if F % 16 < 3 then (F / 16 + 4) % 5 else F / 16, mBits := F / 16 % 2 ^ (F % 16) }
    | _, _, _ => s.clearPhase n
  let s := (s.setFlag LRX_STATUS.RECOVERY n false).goLrx n Lrx.LOCKED
  ((s.cinLocked n).showPorts).checkDecoders n

/-! ### Frame phase (R30, R84) -/

/-- A multiframe error: counted, both phases cleared, the search starts again (R84); the units of the lane no longer arrive (R178). -/
def State.mfError (s : State) (n : Nat) : State :=
  let x := s.lrxOf n
  let s := (((s.countSat LFEC_STATUS.MF_ERR n).clearPhase n).hostRelayStop n).showPorts
  s.modLrx n fun x' => { x' with mfErrRun := if x.mfErrRun ≠ 0 ∧ x.mfErrAge ≤ 16 then x.mfErrRun + 1 else 1, mfErrAge := 0 }

/-- The polarity of a received frame moves the superframe and multiframe phase. -/
def State.phaseFrame (s : State) (n : Nat) (neg : Bool) : State :=
  let x := s.lrxOf n
  let s := s.modLrx n fun x => { x with plusRun := if neg then 0 else x.plusRun + 1, mfErrAge := x.mfErrAge + 1 }
  if !s.flag LRX_STATUS.SF_KNOWN n then
    if neg && decide (12 ≤ x.plusRun) then
      (s.setFlag LRX_STATUS.SF_KNOWN n true).modLrx n fun x => { x with nextF := 1, mBits := 0 }
    else s
  else
    let f := x.nextF
    let bits := if f = 0 then 0 else if f ≤ 3 then x.mBits + (if neg then 2 ^ (f - 1) else 0) else x.mBits
    let s := s.modLrx n fun x => { x with nextF := (f + 1) % 16, mBits := bits }
    if f = 0 then
      if s.flag LFEC_STATUS.MF_KNOWN n then s.setFld LFEC_STATUS.MF_M n ((x.lastM + 1) % 5) else s
    else if f = 3 then
      let follows := !s.flag LFEC_STATUS.MF_KNOWN n || decide (bits = (x.lastM + 1) % 5)
      if bits ≤ 4 ∧ follows then
        let s := ((s.setFlag LFEC_STATUS.MF_KNOWN n true).setFld LFEC_STATUS.MF_M n bits).modLrx n fun x => { x with lastM := bits, mfErrRun := 0 }
        s.showPorts
      else s.mfError n
    else s

/-- The prediction of recovery counts received frames, `gap` since the last; from FRAME_CANDIDATE on, each polarity is held against it
(R84). -/
def State.predictFrame (s : State) (n gap : Nat) (neg check : Bool) : State :=
  match (s.lrxOf n).predF with
  | none => s
  | some F =>
    let F' := (F + gap) % 80
    s.modLrx n fun x => { x with predF := some F', predOk := x.predOk && (!check || decide (pilotNegOf F' = neg)) }

/-- Number F of the frame that has just ended, once its polarity has been taken in. -/
def State.frameNumber (s : State) (n : Nat) : Option Nat :=
  if s.flag LFEC_STATUS.MF_KNOWN n then some (16 * s.fld LFEC_STATUS.MF_M n + ((s.lrxOf n).nextF + 15) % 16) else none

/-! ### Skew of a port's line lanes (R185) -/

/-- A multiframe in ps, and the instant of frame F of lane `n` less its place and its stagger (R31). -/
abbrev multiframePs : Nat := 19120 * 1280
def unstaggered (n F at_ : Nat) : Nat := (at_ % multiframePs + 2 * multiframePs - (239 * F + 15 * n) * 1280) % multiframePs

/-- The skew between the line lanes of every port that lane `n` serves is judged. -/
def State.judgeSkew (s : State) (n : Nat) : State :=
  s.each (hosts32.filter fun p => s.flag HPM_PORT_CFG.VALID p && (s.portHosts p).any fun h => decide (s.servedBy h = n)) fun p s =>
    let lanes := lanes16.filter fun l => (s.portHosts p).any fun h => decide (s.servedBy h = l)
    let ats := lanes.filterMap fun l => (s.lfecOf l).frameAt.map fun e => unstaggered l e.1 e.2
    let apart := fun (a b : Nat) => let d := (a + multiframePs - b) % multiframePs
      decide (200000 < min d (multiframePs - d))
    let skew := ats.any fun a => ats.any (apart a)
    if skew = (s.hpmOf p).lineSkew then s else (s.modHpm p fun x => { x with lineSkew := skew }).showPort p

/-! ### Frame boundaries (Table 3-2, Table 3-4) -/

/-- A frame of an NZ-mode lane in PILOT_SEARCH: the peak is found; in recovery, within 1,024 symbols. -/
def State.searchFrame (s : State) (n : Nat) (m : FrameMeas) (delta : Int) : State :=
  let x := s.lrxOf n
  if x.corrLock * 256 ≤ m.corr && (!s.recovering n || decide (delta.natAbs ≤ 1024)) then
    let s := (s.goLrx n Lrx.FRAME_CANDIDATE).modLrx n fun x => { x with candRun := 1, predOk := x.predF.isSome, plusRun := 0 }
    let s := s.predictFrame n 0 m.neg true
    if s.recovering n then s else s.phaseFrame n m.neg
  else s

/-- A frame in FRAME_CANDIDATE. -/
def State.candidateFrame (s : State) (n : Nat) (m : FrameMeas) (delta : Int) : State :=
  let x := s.lrxOf n
  if x.corrLock * 256 ≤ m.corr && decide (delta.natAbs ≤ 2) then
    let s := s.modLrx n fun x => { x with candRun := x.candRun + 1 }
    if 8 ≤ x.candRun + 1 then s.goLrx n Lrx.EQ_TRAIN else s
  else s.missed n LRX_CAND_MISS.COUNT

/-- A frame in EQ_TRAIN; in IEEE line mode there are no pilots, and the stage leads to ALIGN (R91). -/
def State.trainFrame (s : State) (n : Nat) (m : FrameMeas) : State :=
  let x := s.lrxOf n
  if !s.ieee n && decide (m.corr < x.corrLoss * 256) then s.missed n LRX_CAND_MISS.COUNT
  else if x.snrMin ≤ m.snr then
    if 2 ≤ x.snrRun + 1 then s.goLrx n (if s.ieee n then Lrx.ALIGN else Lrx.OAM_VERIFY)
    else s.modLrx n fun x => { x with snrRun := x.snrRun + 1 }
  else s.modLrx n fun x => { x with snrRun := 0 }

/-- A frame in OAM_VERIFY: the OAM word decides (R79). -/
def State.verifyFrame (s : State) (n : Nat) (m : FrameMeas) : State :=
  let x := s.lrxOf n
  if m.corr < x.corrLoss * 256 ∨ !oamValid (oamWhiten m.oam) then s.missed n LRX_FALSE_CAND.COUNT
  else
    let s := s.modLrx n fun x => { x with oamRun := x.oamRun + 1, snrSum := x.snrSum + m.snr }
    if 4 ≤ x.oamRun + 1 then s.enterLocked n m.corr ((x.snrSum + m.snr) / 4) else s

/-- The superframe average of the pilot SNR (R90): of each sixteen frames in LOCKED. -/
def State.snrFrame (s : State) (n : Nat) (snr : Nat) : State :=
  let x := s.lrxOf n
  if 16 ≤ x.snrFrames + 1 then
    (s.setFld LRX_SNR.SNR n ((x.snrSum + snr) / 16)).modLrx n fun x => { x with snrSum := 0, snrFrames := 0 }
  else s.modLrx n fun x => { x with snrSum := x.snrSum + snr, snrFrames := x.snrFrames + 1 }

/-- The soft bits of a frame in LOCKED go to the inner decoders, counted by reliability (R109); `F` is its number. -/
def State.softOut (s : State) (n : Nat) (F : Option Nat) (m : FrameMeas) : State :=
  let (soft, s) := s.softQ n (if s.ieee n then m.soft else m.soft.drop 56)
  let s := s.tallyQ n soft
  if s.ieee n then s else s.frameQueued n F soft

/-- The receive phases of a frame in LOCKED: superframe and multiframe, the capture of frame 0, the codewords, the skew (R52, R80, R84,
R185). `start` is its reference instant in 2^-16 ns, `gap` frame periods since the boundary before, `ps` the instant of its end. -/
def State.lockedPhase (s : State) (n : Nat) (m : FrameMeas) (start gap ps : Nat) : State :=
  let f0 := s.flag LRX_STATUS.SF_KNOWN n && decide ((s.lrxOf n).nextF = 0)
  let s := s.phaseFrame n m.neg
  let found := s.flag LRX_STATUS.SF_KNOWN n && decide ((s.lrxOf n).nextF = 1)
  let s := if f0 || found then s.setFld TMB_FRAME_RX.TS n (ts96Of start).toNat else s
  let F := s.frameNumber n
  let s := if gap = 1 then s else s.modLfec n fun x => { x with rxJoin := false }
  let s := (s.softOut n F m).modLfec n fun x => { x with frameAt := F.map fun F => (F, ps) }
  s.judgeSkew n

/-- The exit of a lane in LOCKED: the first cause of Table 3-4 that holds takes it out. -/
def State.lockedExit (s : State) (n : Nat) (m : FrameMeas) (delta : Int) : State :=
  let s := s.modLrx n fun x => { x with
    corrMiss := if m.corr < x.corrLoss * 256 then x.corrMiss + 1 else 0
    oamMiss := if oamValid (oamWhiten m.oam) then 0 else x.oamMiss + 1 }
  let x := s.lrxOf n
  if 4 ≤ x.corrMiss ∨ 3 ≤ delta.natAbs then s.loseLock n Loss.FRAME_LOSS
  else if 16 ≤ x.oamMiss then s.loseLock n Loss.OAM_LOSS
  else if 2 ≤ x.mfErrRun then s.loseLock n Loss.MF_LOSS
  else s

/-- The bandwidth of the timing loop in kHz, and its error (R71, R91): TIMING blind, acquisition blind and pilot, LOCKED pilot and
decisions; without pilots, decisions. -/
def State.timingOf (s : State) (n : Nat) (o : RxObs) : Nat × Int :=
  let st := s.lrxState n
  let err := if s.ieee n then o.decisionErr
    else if st = Lrx.TIMING then o.blindErr
    else if st = Lrx.LOCKED then o.pilotErr + o.decisionErr
    else o.blindErr + o.pilotErr
  (if st = Lrx.LOCKED then 500 * 2 ^ s.fld LRX_CTRL.TR_BW n else 8000, err)

/-- The timing loop takes its integrator to a frequency in 0.01 ppm. -/
def State.setFreq (s : State) (n : Nat) (freq : Int) : State :=
  (s.setFld LRX_TR.FREQ n (ofSigned 16 (clampInt (-32768) 32767 freq))).modLrx n fun x => { x with trInteg := freq * 2 ^ 16 }

/-- A frame of the timing loop: integrator, frequency and phase of the interpolator; in AGC it holds (R71, R73). -/
def State.timingFrame (s : State) (n : Nat) (o : RxObs) : State :=
  if s.lrxState n = Lrx.AGC then s
  else
    let (kHz, err) := s.timingOf n o
    let (kp, ki) := Config.trGains kHz
    let symbols : Int := if s.ieee n then 34848 else 69788
    let integ := (s.lrxOf n).trInteg + ki * err
    let phase := (s.lrxOf n).trPhase + kp * err + integ * symbols * 128 / 10 ^ 8
    let s := s.modLrx n fun x => { x with trInteg := integ, trPhase := phase }
    (s.setFld LRX_TR.FREQ n (ofSigned 16 (clampInt (-32768) 32767 (integ / 2 ^ 16)))).setFld LRX_TR.PI_PHASE n (phase / 2 ^ 16 % 128).toNat

/-- An event of lane `n` that goes before a state condition in the same core cycle waits: LOS, or a power step (R77). -/
def State.superseded (s : State) (n : Nat) (powerToo : Bool) : Bool := s.pending.any fun c => match c with
  | .losAssert k _ => decide (k.val = n)
  | .powerStep k ms => powerToo && decide (k.val = n) && (s.powerTrip n ms).isSome && !decide (s.cycle < (s.lrxOf n).blankUntil)
  | _ => false

/-- A received frame of lane `n` has ended. -/
def State.rxFrame (s : State) (n : Fin 16) (o : RxObs) : State :=
  let st := s.lrxState n
  if st = Lrx.DISABLED ∨ st = Lrx.SQUELCHED ∨ st = Lrx.ADC_CAL ∨ st = Lrx.FAILED then s
  else
    let s := (s.count LRX_CLIP.COUNT n o.clipCycles).modLrx n fun x => { x with clips := x.clips + o.clipSamples }
    let end16 := s.lineInstant o.off
    let start := match o.gap, (s.lrxOf n).frameStart with
      | 1, some a => a
      | _, _ => end16 - 239 * clockStep s.adj / 2 ^ 32
    let s := (s.timingFrame n o).modLrx n fun x => { x with frameStart := some end16 }
    let (m, s) := s.measure n o
    let s := (s.checkFrame n o).adaptEnd n o
    let track := decide (st = Lrx.FRAME_CANDIDATE) || decide (st = Lrx.EQ_TRAIN) || decide (st = Lrx.OAM_VERIFY)
    let s := if s.ieee n then s else
      let s := s.predictFrame n o.gap m.neg track
      if track && !s.recovering n then s.phaseFrame n m.neg else s
    let s := if st ≠ Lrx.LOCKED then s
      else if s.ieee n then (s.snrFrame n m.snr).softOut n none m
      else (s.snrFrame n m.snr).lockedPhase n m start o.gap (s.cycle * 1280 + o.off * 1280 / 292)
    if s.superseded n true then s
    else if st = Lrx.PILOT_SEARCH then s.searchFrame n m o.posDelta
    else if st = Lrx.FRAME_CANDIDATE then s.candidateFrame n m o.posDelta
    else if st = Lrx.EQ_TRAIN then s.trainFrame n m
    else if st = Lrx.OAM_VERIFY then s.verifyFrame n m
    else if st = Lrx.LOCKED ∧ !s.ieee n then s.lockedExit n m o.posDelta
    else s

/-! ### Gain control (R67 to R70, R86) -/

/-- Steps of 0.25 dB, at most 4, that bring `rms` to `target` without passing it: the factor of q steps is 10^(q/80). -/
def vgaSteps (rms target : Nat) : Nat :=
  (List.range 5).foldl (fun best q => if rms ^ 80 * 10 ^ q ≤ target ^ 80 then q else best) 0

/-- More than 1 dB between the two codes. -/
def beyond1dB (a b : Nat) : Bool := decide (a ^ 20 * 10 < b ^ 20) || decide (b ^ 20 * 10 < a ^ 20)

/-- Fast AGC at its range limit, the level still beyond 1 dB of the target: recovery falls back to a cold attempt (R86); a
cold attempt moves the TIA index by one step (R68). -/
def State.agcRange (s : State) (n : Nat) (up : Bool) : State :=
  if s.recovering n then
    (s.log Evt.LRX_ACQ Subj.LINE_LANE n [0, s.fld LRX_AGC.VGA n, s.fld LRX_AGC.TIA_IDX n]).startCold n
  else if s.tiaBusy n then s
  else
    let i := (s.grpOf (n / 2)).tiaIdx.getD (n % 2) 0
    if up then (if i + 1 < s.tiaCount n then s.tiaWrite n (i + 1) else s)
    else if i = 0 then s else s.tiaWrite n (i - 1)

/-- A 64 ns window of fast AGC. -/
def State.fastAgc (s : State) (n rms : Nat) : State :=
  if s.lrxState n ≠ Lrx.AGC ∨ s.flag LRX_STATUS.AGC_FROZEN n then s
  else
    let s := s.setFld LRX_AGC.RMS n rms
    let target := s.fld LRX_AGC_CFG.TARGET_RMS n
    let vga := s.fld LRX_AGC.VGA n
    let up := decide (rms < target)
    let q := if up then vgaSteps rms target else vgaSteps target rms
    let limit := if up then decide (vga = 96) else decide (vga = 0)
    if limit && beyond1dB rms target then s.agcRange n up
    else s.setVga n (if up then clampNat 96 (vga + q) else vga - q)

/-- A step of slow AGC, if the average differs from the target by more than SLOW_THR × 0.125 dB (R70, R108); the superframe in which a
pool operation ended is passed over. -/
def State.slowAgc (s : State) (n rms : Nat) : State :=
  if !s.locked n || s.flag LRX_CTRL.AGC_HOLD n || s.opActs n then s
  else if (s.lrxOf n).slowHold then s.modLrx n fun x => { x with slowHold := false }
  else
    let s := s.setFld LRX_AGC.RMS n rms
    let target := s.fld LRX_AGC_CFG.TARGET_RMS n
    let thr := s.fld LRX_AGC_CFG.SLOW_THR n
    let vga := s.fld LRX_AGC.VGA n
    let gain := s.fld LRX_AGC.DGAIN n
    let mark := fun (s : State) => (s.modEqp n fun x => { x with slowFrame := true }).showFreeze n
    if rms ^ 160 * 10 ^ thr < target ^ 160 ∧ vga < 96 then
      mark ((s.setVga n (vga + 1)).setFld LRX_AGC.DGAIN n (gain - 30))
    else if target ^ 160 * 10 ^ thr < rms ^ 160 ∧ 0 < vga then
      mark ((s.setVga n (vga - 1)).setFld LRX_AGC.DGAIN n (clampNat 4095 (gain + 30)))
    else s

/-! ### Power steps and LOS (R82, R83, R88) -/

/-- A power step on lane `n` has its effect (R82): size in 0.25 dB, two's complement of 8 bits; sources bit 0 line-RX, bit 1
Tussock. -/
def State.powerStep (s : State) (n : Nat) (size : Int) (sources : Nat) : State :=
  let st := s.lrxState n
  if st = Lrx.DISABLED ∨ st = Lrx.SQUELCHED ∨ st = Lrx.ADC_CAL ∨ st = Lrx.FAILED then s
  else if st = Lrx.LOCKED then
    let s := (s.count LRX_PSTEP_LOCK.COUNT n).log Evt.LRX_PSTEP Subj.LINE_LANE n [ofSigned 32 size, sources]
    s.loseLock n Loss.POWER_STEP
  else if s.recovering n then (s.count LRX_PSTEP_LOCK.COUNT n).restart n
  else
    let s := s.count LRX_PSTEP_PRE.COUNT n
    if st = Lrx.AGC then s else s.startCold n

/-- A record is the power step of lane `n`. -/
def isStep (n type subject : Nat) : Bool := decide (type = Evt.LRX_PSTEP) && decide (subject = Subj.LINE_LANE * 2 ^ 24 + n)

/-- Both sources are noted in the record of the lane's last power step: in the recorder queue, or where it stands in the circulating area
(R83; log entry 168). -/
def State.annotateStep (s : State) (n : Nat) : State :=
  let mine := fun (r : Rec) => isStep n r.type (r.words.headD 0).toNat
  let q := s.recorder.queue
  if q.any mine then
    let note := fun (e : Rec × Nat) => if mine e.1 && !(q.drop (e.2 + 1)).any mine then { e.1 with words := e.1.words.take 2 ++ [3#32] } else e.1
    { s with recorder := { s.recorder with queue := q.zipIdx.map note } }
  else
    let at_ := fun (o k : Nat) => fieldAt (s.memBytes (eventStore + o) 28) k
    match s.recorder.circ.reverse.find? fun e => isStep n (at_ e.1 2 2) (at_ e.1 24 4) with
    | some e => s.storeWrite (eventStore + e.1 + 32) (leBytes 4 3)
    | none => s

/-- A step that Tussock reports: merged with a trip of the line-RX detector of the last 1 ms, else acted on (R83). -/
def State.tussockStep (s : State) (n : Nat) (size : Int) : State :=
  match (s.lrxOf n).lastTrip with
  | some (c, recorded) =>
    if s.cycle < c + cycles1ms then (if recorded then s.annotateStep n else s)
    else s.powerStep n size 2
  | none => s.powerStep n size 2

/-- LOS of lane `n` follows its selected source (R88). -/
def State.updateLos (s : State) (n : Nat) : State :=
  let was := s.flag LRX_STATUS.LOS n
  let now := s.losNow n
  let s := s.setFlag LRX_STATUS.LOS n now
  if now then s.losMoves n
  else if was ∧ s.lrxState n = Lrx.SQUELCHED then s.startCold n
  else s

/-- A LOS source of lane `n` changes. -/
def State.setLos (s : State) (n : Nat) (src : LosSource) (on : Bool) : State :=
  (s.modLrx n fun x => match src with
    | .tussock => { x with losTussock := on }
    | .envelope => { x with losEnvelope := on }).updateLos n

/-! ### Enable, disable, clocks (R62, R78, R85, R134) -/

/-- The enable executes: the lane starts at ADC_CAL, shed from every stripe (R78, R229); the digital gain starts at 1.0 and
the TIA takes its index in force. -/
def State.executeLrx (s : State) (n : Nat) : State :=
  let s := ((s.setFld LRX_STATUS.RESULT n 0).setFlag LRX_STATUS.PENDING n false).setFld LRX_STATUS.LOSS_CAUSE n Loss.NONE
  let s := s.modLrx n fun x => { x with attempts := 0, lockCount := 0, clockLost := false, lastTrip := none }
  let s := ((s.setFld LRX_AGC.DGAIN n 1024).noteGain n).tiaWrite n ((s.grpOf (n / 2)).tiaIdx.getD (n % 2) 0)
  ((s.beginShed n).setFlag LRX_STATUS.RECOVERY n false).goLrx n Lrx.ADC_CAL

/-- ENABLE is set on lane `n`: it starts, or waits PENDING for its clocks (R78). -/
def State.enableLrx (s : State) (n : Nat) : State :=
  if s.lrxState n ≠ Lrx.DISABLED ∨ s.flag LRX_STATUS.PENDING n ∨ !s.configured (n / 2) then s
  else if s.lrxClocks n then s.executeLrx n
  else (s.setFlag LRX_STATUS.PENDING n true).modLrx n fun x => { x with clockLost := false }

/-- The lane goes to DISABLED for a cause that ends whatever it does (Table 3-4). -/
def State.endLrx (s : State) (n cause : Nat) : State :=
  let s := s.setFlag LRX_STATUS.PENDING n false
  if s.lrxState n = Lrx.DISABLED then s
  else
    let s := ((s.calAborted n).leaveLocked n cause).lossCause n cause
    let s := s.modPort (n / 2) .tia fun x => { x with hw := (x.hw.take 1) ++ (x.hw.drop 1).filter fun (t : HwTx) => decide (t.lane ≠ n % 2) }
    ((s.clearPhase n).setFlag LRX_STATUS.RECOVERY n false).goLrx n Lrx.DISABLED

/-- A clock of the lane is lost (R23, R134). -/
def State.lrxClockLost (s : State) (n : Nat) : State :=
  if s.lrxState n = Lrx.DISABLED then s
  else ((s.endLrx n Loss.CLOCK).setFlag LRX_STATUS.PENDING n true).modLrx n fun x => { x with clockLost := true }

/-- The lane's clocks are back: it starts at ADC_CAL, or its waiting enable executes. -/
def State.lrxClockBack (s : State) (n : Nat) : State :=
  if !s.flag LRX_STATUS.PENDING n || !s.lrxClocks n then s
  else if (s.lrxOf n).clockLost then
    ((s.setFlag LRX_STATUS.PENDING n false).modLrx n fun x => { x with clockLost := false }).goLrx n Lrx.ADC_CAL
  else s.executeLrx n

/-- 5 ms have passed since an enable that still waits (R78, R289). -/
def State.lrxPendingOver (s : State) (n : Nat) : State :=
  if s.flag LRX_STATUS.PENDING n && !(s.lrxOf n).clockLost && s.clocksPresent then
    let s := ((s.setFlag LRX_STATUS.PENDING n false).setFlag LRX_CTRL.ENABLE n false).setFld LRX_STATUS.RESULT n 1
    s.log Evt.LRX_ACQ Subj.LINE_LANE n [1, s.fld LRX_AGC.VGA n, s.fld LRX_AGC.TIA_IDX n]
  else s

/-- FCAL: a lane in any state but DISABLED and FAILED calibrates again; LOCKED is left with cause DISABLED (R62, R63). -/
def State.fcal (s : State) (n : Nat) : State :=
  let st := s.lrxState n
  if st = Lrx.DISABLED ∨ st = Lrx.FAILED then s
  else (((s.calAborted n).leaveLocked n Loss.DISABLED).setFlag LRX_STATUS.RECOVERY n false).goLrx n Lrx.ADC_CAL

/-- COLD: a cold attempt from any state but DISABLED; LOCKED is left with cause DISABLED. -/
def State.coldNow (s : State) (n : Nat) : State :=
  if s.lrxState n = Lrx.DISABLED then s else ((s.calAborted n).leaveLocked n Loss.DISABLED).startCold n

/-! ### Register writes -/

/-- A write to `LRX_CTRL_n` (Table 3-5a): LOS_SRC 0b11 is rejected and the field keeps its value. -/
def wrLrxCtrl (p : Path) (n v : Nat) (s : State) : State × WStatus :=
  let bad := decide (fieldOf v LRX_CTRL.LOS_SRC = 3)
  let v' := if bad then withField v LRX_CTRL.LOS_SRC (s.fld LRX_CTRL.LOS_SRC n) else v
  let was := s.flag LRX_CTRL.ENABLE n
  let en := decide (fieldOf v LRX_CTRL.ENABLE = 1)
  let s := (plainWrite .LRX_CTRL n v' s).updateLos n
  let s := if bad then s.regReject p .LRX_CTRL n v else s
  let s := if en && !was then s.enableLrx n else if was && !en then s.endLrx n Loss.DISABLED else s
  let s := if fieldOf v LRX_CTRL.COLD = 1 then s.coldNow n else s
  let s := if fieldOf v LRX_CTRL.FCAL = 1 then s.fcal n else s
  (s, if bad then .rejected else .ok)

/-- A write to `LRX_ACQ_CFG_n` (R92). -/
def wrLrxAcqCfg (p : Path) (n v : Nat) (s : State) : State × WStatus :=
  let lock := fieldOf v LRX_ACQ_CFG.CORR_LOCK
  if lock ≤ fieldOf v LRX_ACQ_CFG.CORR_LOSS ∨ lock < 0x30 then rejectWrite p .LRX_ACQ_CFG n v s
  else (plainWrite .LRX_ACQ_CFG n v s, .ok)

/-- A write to `LRX_TIA_CFG_g` (R94): an address changes only while its lane is DISABLED. -/
def wrLrxTiaCfg (p : Path) (g v : Nat) (s : State) : State × WStatus :=
  wrPortCfg p g v .tia (fun l => decide (s.lrxState (2 * g + l) = Lrx.DISABLED)) s

/-- A register of the lane's gain table. -/
def State.tiaOwns (s : State) (n ptr : Nat) : Bool := (List.range (s.tiaCount n)).any fun i => decide ((s.tiaEntry n i).1 = ptr)

/-- A write to `LRX_TIA_CMD_g` (R66). -/
def wrLrxTiaCmd (g v : Nat) (s : State) : State × WStatus :=
  if fieldOf v LRX_TIA_CMD.GO = 1 ∧ s.headless then (s, .busy)
  else
    let s := plainWrite .LRX_TIA_CMD g v s
    if fieldOf v LRX_TIA_CMD.GO = 0 then (s, .ok)
    else
      let l := fieldOf v LRX_TIA_CMD.LANE
      let ptr := fieldOf v LRX_TIA_CMD.REG
      let n := 2 * g + l
      let st := s.lrxState n
      s.portGo g .tia (s.tiaOwns n ptr && decide (st ≠ Lrx.DISABLED) && decide (st ≠ Lrx.FAILED))
        ⟨fieldOf v LRX_TIA_CMD.RD = 1, l, ptr, fieldOf v LRX_TIA_CMD.WDATA⟩

/-! ### The commands -/

/-- The value of `LRX_CTRL_n` with one field changed. -/
def State.lrxCtrlValue (s : State) (n : Nat) (f : Field) (x : Nat) : Nat := withField (s.writeBack .LRX_CTRL n) f x

/-- LRX_ENABLE, R78. -/
def execLrxEnable (p : Path) (n : Lane) (s : State) : Res :=
  let v := s.lrxCtrlValue n LRX_CTRL.ENABLE 1
  writeCommand p .LRX_CTRL n v (wrLrxCtrl p n v) s

/-- LRX_DISABLE, R85. -/
def execLrxDisable (p : Path) (n : Lane) (s : State) : Res :=
  let v := s.lrxCtrlValue n LRX_CTRL.ENABLE 0
  writeCommand p .LRX_CTRL n v (wrLrxCtrl p n v) s

/-- LRX_FCAL, R62. -/
def execLrxFcal (p : Path) (n : Lane) (s : State) : Res :=
  let v := s.lrxCtrlValue n LRX_CTRL.FCAL 1
  writeCommand p .LRX_CTRL n v (wrLrxCtrl p n v) s

/-- LRX_COLD, R74. -/
def execLrxCold (p : Path) (n : Lane) (s : State) : Res :=
  let v := s.lrxCtrlValue n LRX_CTRL.COLD 1
  writeCommand p .LRX_CTRL n v (wrLrxCtrl p n v) s

/-- FOREGROUND_CALIBRATION_DONE, R62: the sub-converters take the trims that it has found. -/
def execForegroundCalibrationDone (n : Lane) (cal : FcalReport) (s : State) : Res :=
  if s.lrxState n ≠ Lrx.ADC_CAL then .next s
  else
    let set := fun (t : List (Nat × SubTrim)) (e : (Int × Int × Int) × Nat) =>
      tabMod {} t e.2 fun x => { x with offset := e.1.1, gain := e.1.2.1, skew := e.1.2.2 }
    let s := s.modLrx n fun x => { x with trims := (cal.trims.take 64).zipIdx.foldl set x.trims }
    let s := s.calRun n Cal.OK cal.value.toNat
    .next (if s.flag LRX_STATUS.LOS n then s.goLrx n Lrx.SQUELCHED else s.startCold n)

/-- BACKGROUND_CALIBRATION_UPDATE, R63: the trims of a sub-converter move by the update, held to 1/16 LSB of offset, 0.01 % of
gain and 10 fs of skew; at most once per 10 µs; not while CAL_BG_EN is 0 or too many samples clip. -/
def execBackgroundCalibrationUpdate (n : Lane) (sub : Fin 64) (offset gain skew : Int) (s : State) : Res :=
  let st := s.lrxState n
  let t := Tab.get (fun _ => ({} : SubTrim)) (s.lrxOf n).trims sub.val
  let recent := match t.last with
    | some c => decide (s.cycle < c + 7813)
    | none => false
  if st = Lrx.DISABLED ∨ st = Lrx.SQUELCHED ∨ st = Lrx.ADC_CAL ∨ !s.flag LRX_CTRL.CAL_BG_EN n ∨ (s.eqpOf n).clipped ∨ recent = true then
    .next s
  else
    let t' : SubTrim := { offset := t.offset + clampInt (-64) 64 offset, gain := t.gain + clampInt (-100) 100 gain,
                          skew := t.skew + clampInt (-1000) 1000 skew, last := some s.cycle }
    .next (s.modLrx n fun x => { x with trims := tabMod {} x.trims sub.val fun _ => t' })

/-- FAST_AGC_UPDATE, R68: the RMS code of a 64 ns window. -/
def execFastAgcUpdate (n : Lane) (rms : BitVec 8) (s : State) : Res := .next (s.fastAgc n rms.toNat)

/-- AGC_SETTLED, R68, R86, R91. -/
def execAgcSettled (n : Lane) (s : State) : Res :=
  .next (if s.lrxState n ≠ Lrx.AGC ∨ s.superseded n true then s
    else if s.recovering n then s.goLrx n (if s.ieee n then Lrx.EQ_TRAIN else Lrx.PILOT_SEARCH)
    else s.goLrx n Lrx.TIMING)

/-- SLOW_AGC_STEP, R70: the RMS code averaged over a superframe. -/
def execSlowAgcStep (n : Lane) (rms : BitVec 8) (s : State) : Res := .next (s.slowAgc n rms.toNat)

/-- TIMING_SETTLED, R72. -/
def execTimingSettled (n : Lane) (freq : BitVec 16) (s : State) : Res :=
  .next (if s.lrxState n = Lrx.TIMING ∧ !s.superseded n true then
    (s.setFreq n freq.toInt).goLrx n (if s.ieee n then Lrx.EQ_TRAIN else Lrx.PILOT_SEARCH) else s)

/-- FREQUENCY_OUT_OF_RANGE, R73: the estimate, in 0.01 ppm, has left ±300 ppm. -/
def execFrequencyOutOfRange (n : Lane) (freq : BitVec 16) (s : State) : Res :=
  let st := s.lrxState n
  let timed := decide (st = Lrx.TIMING) || decide (st = Lrx.PILOT_SEARCH) || decide (st = Lrx.FRAME_CANDIDATE) ||
    decide (st = Lrx.EQ_TRAIN) || decide (st = Lrx.OAM_VERIFY) || decide (st = Lrx.LOCKED) || decide (st = Lrx.ALIGN) ||
    (decide (st = Lrx.AGC) && s.recovering n)
  .next (if timed && ppmBeyond 30000 freq.toInt then
    (((s.setFreq n freq.toInt).leaveLocked n Loss.TIMING).lossCause n Loss.TIMING).startCold n
  else s)

/-- RX_FRAME_BOUNDARY, R71 to R76, R79, R84, R85, R97 to R109: the end of a received frame. The records of a lane in LOCKED refer to its
line capture (R244; log entry 168). -/
def execRxFrameBoundary (n : Lane) (obs : RxObs) (s : State) : Res :=
  let t := s.rxFrame n obs
  .next (if s.locked n then s.capturedAt (ts96Of (s.lineInstant obs.off)) t else t)

/-- A condition of the state that lane `n` is in waits and comes true in this core cycle (R77). -/
def State.conditionWaits (s : State) (n : Nat) : Bool := s.pending.any fun c => match c with
  | .foregroundCalibrationDone k _ => decide (k.val = n) && decide (s.lrxState n = Lrx.ADC_CAL)
  | .agcSettled k => decide (k.val = n) && decide (s.lrxState n = Lrx.AGC)
  | .timingSettled k _ => decide (k.val = n) && decide (s.lrxState n = Lrx.TIMING)
  | .lineAlignmentMarkerLock k => decide (k.val = n) && decide (s.lrxState n = Lrx.ALIGN)
  | .rxFrameBoundary k o => decide (k.val = n) && decide ((s.rxFrame k o).lrxState n ≠ s.lrxState n)
  | _ => false

/-- ACQ_STAGE_TIMEOUT, R74, R77: the limit of the stage in progress. It does not occur where LOS, a power step or a condition of the state
comes in the same core cycle, before or after it. A cold attempt that begins again at AGC is a new one: it counts in `LRX_ACQ_COLD_n`,
and its time starts again (Table 3-2; DESIGN CHOICE, log entry 168). -/
def execAcqStageTimeout (n : Lane) (s : State) : Res :=
  let st := s.lrxState n
  let s' := s.count LRX_TIMEOUT.COUNT n
  if s.superseded n true ∨ s.conditionWaits n ∨ (0 < s.cycle ∧ (s.lrxOf n).entered = s.cycle) then .next s
  else if st = Lrx.ADC_CAL then
    let (v, s') := s'.fresh
    .next (((s'.calRun n Cal.FAIL (v.toNat % 2 ^ 32)).lossCause n Loss.CAL_FAIL).failLrx n Loss.CAL_FAIL)
  else if st = Lrx.AGC ∨ st = Lrx.PILOT_SEARCH ∨ st = Lrx.ALIGN then .next (s'.stageFails n fun s => s.startCold n)
  else if st = Lrx.TIMING then .next (s'.startCold n)
  else if st = Lrx.EQ_TRAIN then
    let s' := if s.ieee n then s' else s'.count LRX_CAND_MISS.COUNT n
    .next (s'.stageFails n fun s => s.startCold n)
  else .next s

/-- POWER_STEP, R67, R77, R81, R82: the mean squares of the ADC output over the last sixteen windows of 64 ns, newest first. LOS in the same
core cycle goes before it. -/
def execPowerStep (n : Lane) (ms : List Nat) (s : State) : Res :=
  let st := s.lrxState n
  if s.cycle < (s.lrxOf n).blankUntil ∨ st = Lrx.DISABLED ∨ st = Lrx.SQUELCHED ∨ st = Lrx.ADC_CAL then .next s
  else match s.powerTrip n ms with
    | none => .next s
    | some size =>
      let recorded := decide (st = Lrx.LOCKED) && decide (s.recorder.queue.length < 64) && !s.superseded n false
      let s := s.modLrx n fun x => { x with lastTrip := some (s.cycle, recorded) }
      .next (if s.superseded n false then s else s.powerStep n size 1)

/-- LOS_ASSERT, R67, R88: Tussock's rule, or the envelope source: VGA at code 96 and the mean square of the ADC code, which has not been
above it for 10 µs, below one quarter of the target RMS. -/
def execLosAssert (n : Lane) (src : LosReport) (s : State) : Res :=
  .next (match src with
    | .tussock => s.setLos n .tussock true
    | .envelope ms =>
      if s.fld LRX_AGC.VGA n = 96 ∧ 16 * ms < s.fld LRX_AGC_CFG.TARGET_RMS n ^ 2 then s.setLos n .envelope true else s)

/-- LOS_CLEAR, R88: Tussock's rule, or the envelope source: the mean square of the ADC code, which has not been below it for 100 µs, above
one half of the target RMS. -/
def execLosClear (n : Lane) (src : LosReport) (s : State) : Res :=
  .next (match src with
    | .tussock => s.setLos n .tussock false
    | .envelope ms => if s.fld LRX_AGC_CFG.TARGET_RMS n ^ 2 < 4 * ms then s.setLos n .envelope false else s)

/-- AUTO_RETRY, R88: 100 ms since entry to FAILED or the last retry. -/
def execAutoRetry (n : Lane) (s : State) : Res :=
  .next (if s.lrxState n = Lrx.FAILED ∧ s.flag LRX_CTRL.AUTO_RETRY n then s.startCold n else s)

/-- TIA_GO, R66. -/
def execTiaGo (p : Path) (g : Grp) (rd : Bool) (l : Fin 2) (reg value : Byte) (s : State) : Res :=
  let v := 2 ^ 31 + (if rd then 2 ^ 30 else 0) + l.val * 2 ^ 29 + reg.toNat * 2 ^ 16 + value.toNat
  writeCommand p .LRX_TIA_CMD g v (wrLrxTiaCmd g v) s

/-- The gain write in progress on the TIA port ends with its read-back (R65): a failure is tried once more; a second one is
an AGC-stage timeout, an event, and AGC starts again. The spec gives that event's record no kind: a free value. -/
def State.tiaHwDone (s : State) (g : Nat) (ok : Bool) : State :=
  match (s.grpOf g).tia.hw with
  | [] => s
  | t :: rest =>
    let n := 2 * g + t.lane
    let s := s.portSpoke g .tia
    if !ok && decide (t.attempt = 0) then s.modPort g .tia fun x => { x with hw := { t with attempt := 1 } :: rest }
    else
      let s := s.modPort g .tia fun x => { x with hw := rest }
      let s := if ok then
          let s := s.modGrp g fun x => { x with tiaIdx := x.tiaIdx.set t.lane t.idx }
          ((s.setFld LRX_AGC.TIA_IDX n t.idx).noteGain n).modLrx n fun x => { x with blankUntil := s.cycle + cycles1us }
        else
          let (k, s) := s.fresh
          let s := s.count LRX_TIMEOUT.COUNT n
          let s := s.log Evt.LRX_ACQ Subj.LINE_LANE n [k.toNat % 2 ^ 32, s.fld LRX_AGC.VGA n, s.fld LRX_AGC.TIA_IDX n]
          if s.lrxState n = Lrx.AGC then s.goLrx n Lrx.AGC else s
      s.portNext g .tia

/-- TIA_TRANSACTION_DONE, R64, R65: the transaction in progress, hardware or software. -/
def execTiaTransactionDone (g : Grp) (ack : Bool) (rdata : Byte) (s : State) : Res :=
  let x := (s.grpOf g).tia
  .next (if x.swRunning then s.portSwEnd g .tia (if ack then PortResult.OK else PortResult.NACK) rdata
    else match x.hw with
      | t :: _ => s.tiaHwDone g (ack && decide (rdata.toNat = t.value))
      | [] => s)

/-- CLOCK_STRETCH_TIMEOUT, R64, R148: the transaction in progress on the port ends with TIMEOUT. -/
def execClockStretchTimeout (g : Grp) (port : GroupPort) (s : State) : Res :=
  .next (if (s.port g port).swRunning then s.portSwEnd g port PortResult.TIMEOUT 0
    else match port with
      | .tia => s.tiaHwDone g false
      | .driver => s.drvHwDone g false)

/-- LINE_ALIGNMENT_MARKER_LOCK, R91. IEEE line mode has no pilots: the snapshot's SNR and correlation are free values. -/
def execLineAlignmentMarkerLock (n : Lane) (s : State) : Res :=
  if s.lrxState n = Lrx.ALIGN ∧ !s.superseded n true then
    let (a, s) := s.fresh
    .next (s.enterLocked n (a.toNat % 65536) (a.toNat / 65536 % 256))
  else .next s

/-- LINE_ALIGNMENT_MARKER_LOCK_LOSS, R91. -/
def execLineAlignmentMarkerLockLoss (n : Lane) (s : State) : Res :=
  .next (if s.ieee n then s.loseLock n Loss.FRAME_LOSS else s)

end Sys2Proof.Machine
end

