-- ==== Sys2Proof/Machine/Operands.lean ====
section
/-! DEFINITION. Addresses of the management space: which register, index and word an address names (R5, R320), and the
staging and capture of wide registers (R6, R7). -/
namespace Sys2Proof.Machine

/-- The index that a distance from a register's base names, by its dimensions from the outermost, and what is left of the
distance; none outside a dimension. -/
def indexOf : List (Nat × Nat) → Nat → Nat → Option (Nat × Nat)
  | [], i, d => some (i, d)
  | (count, stride) :: rest, i, d => if d / stride < count then indexOf rest (count * i + d / stride) (d % stride) else none

/-- Words of a register. -/
def Reg.words (r : Reg) : Nat := (r.desc.width + 31) / 32

/-- Register `r` holds address `a`: index and word. -/
def Reg.at (r : Reg) (a : Nat) : Option (Nat × Nat) :=
  if a < r.desc.base then none
  else match indexOf r.desc.dims 0 (a - r.desc.base) with
    | some (i, d) => if d / 4 < r.words ∧ d % 4 = 0 then some (i, d / 4) else none
    | none => none

/-- Register, index and word of an address; none where Table 10-7 and R320 have no register. -/
def regAt (a : Nat) : Option (Reg × Nat × Nat) :=
  allRegs.findSome? fun r => (r.at a).map fun e => (r, e.1, e.2)

/-- Word `w` of a register value. -/
def wordOf (v : RegVal) (w : Nat) : Nat := bitsOf v (32 * w + 31) (32 * w)

/-- `v` with word `w` replaced. -/
def setWord (v : RegVal) (w x : Nat) : RegVal := setBitsOf v (32 * w + 31) (32 * w) x

/-- The words staged for a register and which of them have been written. -/
def State.stagedOf (s : State) (k : RegKey) : RegVal × Nat := Tab.get (fun _ => (0, 0)) s.staged k

/-- Word `w` is staged (R7). -/
def State.stage (s : State) (k : RegKey) (w x : Nat) : State :=
  let (v, m) := s.stagedOf k
  { s with staged := Tab.set regLt (fun _ => (0, 0)) s.staged k (setWord v w x, m ||| 2 ^ w) }

/-- The value last committed to a wide register; before the first commit, what the register holds (DESIGN CHOICE, log entry
154: R7 speaks of a last committed value only). -/
def State.lastCommit (s : State) (k : RegKey) : RegVal := Tab.get (fun k => s.reg k.1 k.2) s.committed k

/-- The value that a write of the lowest word commits: staged words, the others as last committed (R7). -/
def State.commitValue (s : State) (k : RegKey) (x : Nat) : Nat :=
  let (v, m) := s.stagedOf k
  ((List.range 16).foldl (fun (a : RegVal) w =>
    if w = 0 then setWord a 0 x else if m.testBit w then setWord a w (wordOf v w) else a) (s.lastCommit k)).toNat

/-- A write of one word at address `a` on a path, the effect of a whole register write given by `wr` (R7, R8, R10, R320). An
address without a register takes no write. -/
def writeWordWith (wr : Path → Reg → Nat → Nat → State → State × WStatus) (p : Path) (a x : Nat) (s : State) : State × WStatus :=
  match regAt a with
  | none => (s.count MGT_BAD_ADDR.COUNT 0, .badAddr)
  | some (r, i, w) =>
    if r.words = 1 then guardedWrite p r i x (wr p r i x) s
    else if w ≠ 0 then guardedWrite p r i x (fun s => (if r.desc.role = .none_ then s else s.stage (r, i) w x, .ok)) s
    else
      guardedWrite p r i x (fun s => let v := s.commitValue (r, i) x; commitWhole r i v (wr p r i v) s) s

end Sys2Proof.Machine
end

