-- ==== Sys2Proof/Machine/Recorder.lean ====
section
/-! DEFINITION. The event recorder (chapter 15). -/
namespace Sys2Proof.Machine


/-- The bytes of a record (R418): header, body, TRUNC where the body exceeds 1,000 bytes. -/
def Rec.bytes (r : Rec) : List Byte :=
  let body := r.words.take 250
  let flags := r.flags + (if 250 < r.words.length then 32 else 0)
  leBytes 2 (4 * body.length) ++ leBytes 2 r.type ++ leBytes 4 r.seq.toNat ++ leBytes 12 r.ts.toNat ++
    leBytes 2 r.node.toNat ++ leBytes 2 flags ++ body.flatMap fun w => leBytes 4 w.toNat

/-- Bytes enter the kept area: a copy of every record until the next no longer fits (R417). -/
def State.keep (s : State) (seq : BitVec 32) (bs : List Byte) : State × Bool :=
  let used := s.fld EVL_FIRST_FULL.USED 0
  if s.flag EVL_FIRST_FULL.FULL 0 then (s, false)
  else if 0x8000 < used + bs.length then (s.setFlag EVL_FIRST_FULL.FULL 0 true, false)
  else
    let s := (s.storeWrite (eventStore + used) bs).setFld EVL_FIRST_FULL.USED 0 (used + bs.length)
    let s := if used = 0 then s.setFld EVL_FIRST_RANGE.FIRST 0 seq.toNat else s
    ((s.setFld EVL_FIRST_RANGE.LAST 0 seq.toNat).modRec fun r => { r with kept := r.kept + 1 }, true)

/-- `EVL_OLDEST_SEQ` follows the records of the circulating area; an empty area names the next record. -/
def State.showOldest (s : State) : State :=
  match s.recorder.circ with
  | (o, _, q) :: _ => (s.setFld EVL_OLDEST_SEQ.SEQ 0 q.toNat).setFld EVL_OLDEST_SEQ.OFFSET 0 o
  | [] => (s.setFld EVL_OLDEST_SEQ.SEQ 0 (s.fld EVL_HEAD_SEQ.SEQ 0 + 1)).setFld EVL_OLDEST_SEQ.OFFSET 0 (s.fld EVL_HEAD_SEQ.OFFSET 0)

/-- The oldest records that `n` new bytes at offset `w` would overwrite leave the circulating area (R422). -/
def State.evict (s : State) (w n : Nat) : State :=
  (s.modRec fun r => { r with circ := r.circ.filter fun e => !decide (e.1 < w + n ∧ w < e.1 + e.2.1) }).showOldest

/-- The end of the circulating area from offset `w` up is filled with a PAD record, or with zeros (R422). -/
def State.padEnd (s : State) (w : Nat) : State :=
  let n := 0x40000 - w
  let s := s.evict w n
  if n < 24 then s.storeWrite (eventStore + w) (List.replicate n 0)
  else
    let r : Rec := { type := Evt.PAD, seq := 0, ts := s.now, node := BitVec.ofNat 16 (s.fld TMB_NODE_ID.NODE_ID 0), flags := s.recFlags, words := [] }
    s.storeWrite (eventStore + w) (leBytes 2 (n - 24) ++ r.bytes.drop 2 ++ List.replicate (n - 24) 0)

/-- Bytes enter the circulating area; the record is visible once its last byte is written (R417, R420, R422). A record that ends
with the area leaves the head at its start. -/
def State.circulate (s : State) (seq : BitVec 32) (bs : List Byte) : State :=
  let w := s.fld EVL_HEAD_SEQ.OFFSET 0
  let fits := decide (w + bs.length ≤ 0x40000)
  let s := if fits then s else s.padEnd w
  let w := if fits then w else 0x8000
  let s := (s.evict w bs.length).storeWrite (eventStore + w) bs
  let e := w + bs.length
  let s := (s.setFld EVL_HEAD_SEQ.SEQ 0 seq.toNat).setFld EVL_HEAD_SEQ.OFFSET 0 (if e = 0x40000 then 0x8000 else e)
  (s.modRec fun r => { r with circ := r.circ ++ [(w, bs.length, seq)] }).showOldest

/-- The newest records of a list that fit 16 KiB. -/
def newest16K (rs : List (BitVec 32 × List Byte)) : List (BitVec 32 × List Byte) :=
  (rs.reverse.foldl (fun (e : Nat × List (BitVec 32 × List Byte)) r =>
    if e.1 + r.2.length ≤ 16384 then (e.1 + r.2.length, r :: e.2) else (16385, e.2)) (0, [])).2

/-- The mirror takes a record while AO retention is armed (R424). -/
def State.mirrorRec (s : State) (seq : BitVec 32) (bs : List Byte) (kept : Bool) : State :=
  if s.armed 20 then
    s.modRec fun r => { r with mirror := {
      kept := if kept then r.mirror.kept ++ [bs] else r.mirror.kept
      circ := newest16K (r.mirror.circ ++ [(seq, bs)])
      head := seq } }
  else s

/-- A record is written into every area that takes it. -/
def State.writeRec (s : State) (r : Rec) : State :=
  let bs := r.bytes
  let (s, kept) := s.keep r.seq bs
  ((s.circulate r.seq bs).mirrorRec r.seq bs kept).count EVL_WRITTEN.COUNT 0

/-- The recorder has written a record less than 32 core cycles ago. -/
def State.recorderBusy (s : State) : Bool :=
  match s.recorder.wrote with
  | some c => decide (s.cycle < c + 32)
  | none => false

/-- RECORD_WRITE, R423: the first record of the queue is written, one in 32 core cycles at most; when the queue falls to 32 entries, one
DROPPED record tells of a run of drops. -/
def execRecordWrite (s : State) : Res :=
  match s.recorder.queue with
  | [] => .next s
  | r :: rs =>
    if s.recorderBusy then .next s else
    let s := (s.modRec fun x => { x with queue := rs, wrote := some s.cycle }).writeRec r
    if rs.length = 32 ∧ 0 < s.recorder.dropRun then
      let n := s.recorder.dropRun
      let first := s.recorder.dropFirst
      .next ((s.modRec fun x => { x with dropRun := 0, dropFirst := 0 }).log Evt.DROPPED Subj.DEVICE 0 [n % 2 ^ 32, first])
    else .next s

/-- The kept area is emptied. -/
def State.emptyKept (s : State) : State :=
  let s := s.resetRegs [.EVL_FIRST_FULL, .EVL_FIRST_RANGE] 0
  s.modRec fun r => { r with kept := 0, mirror := { r.mirror with kept := [] } }

/-- A write to `EVL_CTRL`: CLEAR_KEPT empties the kept area and writes KEPT_CLEARED; queued records are numbered after it
(R421, R435). -/
def wrEvlCtrl (p : Path) (v : Nat) (s : State) : State × WStatus :=
  if fieldOf v EVL_CTRL.CLEAR_KEPT = 1 then
    let n := s.recorder.kept
    let seq := match s.recorder.queue with
      | r :: _ => r.seq
      | [] => s.recorder.next
    let s := s.emptyKept.modRec fun x => { x with next := x.next + 1, queue := x.queue.map fun r => { r with seq := r.seq + 1 } }
    let r : Rec := { type := Evt.KEPT_CLEARED, seq := seq, ts := s.now, node := BitVec.ofNat 16 (s.fld TMB_NODE_ID.NODE_ID 0),
                     flags := s.recFlags, words := [0, BitVec.ofNat 32 (s.pathWord p), BitVec.ofNat 32 n] }
    (s.writeRec r, .ok)
  else (s, .ok)

/-- CLEAR_KEPT, R421. -/
def execClearKept (p : Path) (s : State) : Res := writeCommand p .EVL_CTRL 0 1 (wrEvlCtrl p 1) s

/-- The registers that a read of the low word of `EVL_HEAD_SEQ` captures (R426). -/
def evlCaptured : List Reg := [.EVL_HEAD_SEQ, .EVL_OLDEST_SEQ, .EVL_FIRST_FULL, .EVL_FIRST_RANGE]

/-- The values of a list of registers are captured at one instant. -/
def State.capture (s : State) (rs : List (Reg × Nat)) : State :=
  { s with captured := rs.foldl (fun m k => Tab.insert regLt k (s.reg k.1 k.2) m) s.captured }

/-- EVL_HEAD_SEQ_READ, R426. -/
def execEvlHeadSeqRead (s : State) : Res := .next (s.capture (evlCaptured.map fun r => (r, 0)))

/-! ### Sleep and restart (R424) -/

/-- A record as it is restored: its FLAGS carry RESTORED. -/
def restoredRec (bs : List Byte) : List Byte := bs.set 22 (bs.getD 22 0 ||| 8)

/-- A mirrored record with its place in AO retention: the kept area from offset 0, the circulating records from 32 KiB on, one after
another (DESIGN CHOICE, log entry 174). -/
def placed (base : Nat) (sizes : List Nat) : List (Nat × Nat) :=
  (sizes.foldl (fun (e : Nat × List (Nat × Nat)) n => (e.1 + n, e.2 ++ [(e.1, n)])) (base, [])).2

/-- The first poisoned word of `n` bytes at offset `o` of AO retention. -/
def State.mirrorPoison (s : State) (o n : Nat) : Option Nat :=
  if s.memx.poison.isEmpty then none
  else ((List.range n).map fun i => regionBase 20 + o + i).find? fun a => s.poisonAt a

/-- The mirror without the records that contain a poisoned word, and the addresses of those words (R405). -/
def State.soundMirror (s : State) : MirrorX × List Nat :=
  let m := s.recorder.mirror
  let kept := m.kept.zip ((placed 0 (m.kept.map List.length)).map fun e => s.mirrorPoison e.1 e.2)
  let circ := m.circ.zip ((placed 0x8000 (m.circ.map fun e => e.2.length)).map fun e => s.mirrorPoison e.1 e.2)
  ({ m with kept := (kept.filter fun e => e.2.isNone).map (·.1), circ := (circ.filter fun e => e.2.isNone).map (·.1) },
   kept.filterMap (·.2) ++ circ.filterMap (·.2))

/-- The mirror is restored to an empty event store; answers how many sequence numbers are missing between the last kept record
and the oldest restored circulating one. -/
def State.restoreMirror (s : State) : State × Nat :=
  let m := s.soundMirror.1
  let s := s.resetRegs [.EVL_HEAD_SEQ, .EVL_OLDEST_SEQ, .EVL_FIRST_FULL, .EVL_FIRST_RANGE] 0
  let s := s.modRec fun r => { r with queue := [], dropRun := 0, dropFirst := 0, circ := [], kept := 0, next := m.head + 1 }
  let s := m.kept.foldl (fun s bs => (s.keep (BitVec.ofNat 32 (fieldAt bs 4 4)) (restoredRec bs)).1) s
  let s := m.circ.foldl (fun s e => s.circulate e.1 (restoredRec e.2)) s
  let s := s.setFld EVL_HEAD_SEQ.SEQ 0 m.head.toNat
  let s := if m.circ.isEmpty then s.showOldest else s
  let missing := match m.kept.getLast?, m.circ with
    | some bs, (q, _) :: _ =>
      let d := (q - BitVec.ofNat 32 (fieldAt bs 4 4)).toNat
      if 0 < d ∧ d < 2 ^ 31 then d - 1 else 0
    | _, _ => 0
  (s, missing)

/-- The BOOT record: cause, `GLB_ID`, sequence numbers missing (Table 15-2). -/
def State.logBoot (s : State) (cause missing : Nat) : State :=
  s.log Evt.BOOT Subj.DEVICE 0 [cause, (s.reg .GLB_ID 0).toNat % 2 ^ 32, missing]

/-- At a wake and after a warm reset: the mirror is restored, the BOOT record comes first, then an event for every record dropped for a
poisoned word (R405, R424). -/
def State.restoreRecords (s : State) (cause : Nat) : State :=
  let lost := s.soundMirror.2
  let (s, missing) := s.restoreMirror
  s.logBoot cause missing |>.each lost fun a s => s.poisonRead 20 a 0 false (s.injectedAt a)

end Sys2Proof.Machine
end

