-- ==== Sys2Proof/Machine/SelfTest.lean ====
section
/-! DEFINITION. In-service self-test of slices and inner decoders (chapter 16). -/
namespace Sys2Proof.Machine

/-! Test results (Table 16-1). -/
abbrev Test.PASS : Nat := 0
abbrev Test.FAIL : Nat := 1
abbrev Test.INCOMPLETE : Nat := 2
abbrev Test.TIMEOUT : Nat := 3
abbrev Test.ABORTED : Nat := 4
abbrev Test.NOT_RUN : Nat := 5

/-- The result of a test that has run: completion flag, applied and expected pattern counts, signature correct (R436). -/
def testResult (complete : Bool) (patterns expected : Nat) (sigOk : Bool) : Nat :=
  if !complete then Test.TIMEOUT else if patterns ≠ expected then Test.INCOMPLETE else if sigOk then Test.PASS else Test.FAIL

/-- Record BST_RESULT of group `g`. -/
def State.logBst (s : State) (g : Nat) : State := s.log Evt.BST_RESULT Subj.GROUP g [(s.reg .BST_RESULT 0).toNat % 2 ^ 32]

/-- A test of decoder `d` joins the group's tests. -/
def State.testDec (s : State) (g d : Nat) (retest : Bool := false) : State :=
  (s.setDec g d Decoder.UNDER_TEST).modGrp g fun x =>
    { x with tests := x.tests ++ [{ kind := 1, index := d, retest := retest, at_ := s.cycle }] }

/-- Heat keeps new tests from starting (R446, R450, R456). -/
def State.hotForTests (s : State) : Bool :=
  decide (0 < s.fld THM_STATUS.RELIEF 0) || s.thm.warn || decide (ThmState.STOPPING ≤ s.fld THM_STATUS.STATE 0)

/-- In-service tests in the group are refused: an audit holds it, or the controllers restart (R26, R56, R120). -/
def State.testsRefused (s : State) (g : Nat) : Bool := s.headless || s.poolHold g || s.lfecHold g

/-- No new test starts in the group (R446, R450, R120, R56). -/
def State.noTests (s : State) (g : Nat) : Bool := s.testsRefused g || s.hotForTests

/-- The sweep of group `g` from its beginning, in the order of R444. -/
def State.sweepPlan (s : State) (g : Nat) : List (Nat × Nat) :=
  let slices := fun st => (List.range 13).filter fun k => decide (s.sliceState g k = st)
  ((slices Slice.FREE).map fun k => (0, k)) ++ ((slices Slice.ALLOCATED).map fun k => (1, k)) ++ [(2, 0)] ++
    (((List.range 7).filter fun d => decide (s.decState g d = Decoder.IN_SERVICE)).map fun d => (3, d))

/-- The first item of the sweep is over; the last one completes the sweep. -/
def State.sweepNext (s : State) (g : Nat) : State :=
  let last := decide ((s.grpOf g).sweep.length = 1)
  let s := s.modGrp g fun x => { x with sweep := x.sweep.drop 1 }
  if last then s.count BST_IS_STATUS.SWEEPS g else s

/-- The item in hand is skipped and counted (R445, R446). -/
def State.sweepSkip (s : State) (g : Nat) : State := (s.count BST_IS_SKIP.COUNT g).sweepNext g

/-- The lane (0 or 1) and position that slice `k` serves. -/
def State.servedPos (s : State) (g k : Nat) : Option (Nat × Nat) :=
  ([0, 1].flatMap fun l => (List.range (s.slices (2 * g + l))).map fun p => (l, p)).find? fun e =>
    decide (s.posSlice (2 * g + e.1) e.2 = k)

/-- The slice a self-test MIGRATE moves a position onto: the last one to pass, else the lowest-numbered FREE one. -/
def State.migrateOnto (s : State) (g : Nat) : Option Nat :=
  match (s.grpOf g).lastPass with
  | some k => if s.sliceState g k = Slice.FREE then some k else s.lowestSlice g Slice.FREE
  | none => s.lowestSlice g Slice.FREE

/-- The item in hand begins. A MIGRATE that is refused now leaves the item in hand. -/
def State.sweepItem (s : State) (g kind k : Nat) : State :=
  if kind = 0 then (if s.sliceState g k = Slice.FREE then s.testSlice g k else s.sweepSkip g)
  else if kind = 1 then
    match s.servedPos g k, s.migrateOnto g with
    | some (l, p), some dest => s.requestOp g { op := Pool.MIGRATE, lane := l, pos := p, dest := dest, source := 2 }
    | none, _ => if s.sliceState g k = Slice.FREE then s.testSlice g k else s.sweepSkip g
    | some _, none => s.sweepSkip g
  else if kind = 2 then
    match s.spareDecoder g with
    | some d => s.testDec g d
    | none => s.sweepSkip g
  else
    match s.spareDecoder g with
    | some e =>
      if s.decState g k = Decoder.IN_SERVICE then
        let l := (s.grpOf g).decLane.getD k 0
        let s := (s.setDec g e Decoder.IN_SERVICE).modGrp g fun x => { x with decLane := x.decLane.set e l }
        s.testDec g k
      else if e = k then s.testDec g k
      else s.sweepSkip g
    | none => s.sweepSkip g

/-- The period of `SWEEP` seconds, moved by g × `SWEEP` ÷ 8, that the core cycle lies in; none before the first. The periods count from
core cycle 0 (DESIGN CHOICE, log entry 175). -/
def State.sweepPeriod (s : State) (g : Nat) : Option Nat :=
  let len := 781250000 * max 1 (s.fld BST_CTRL.SWEEP 0)
  let offset := g * len / 8
  if offset ≤ s.cycle then some ((s.cycle - offset) / len) else none

/-- A sweep is in progress, or one of this period may begin (R444). -/
def State.sweepDue (s : State) (g : Nat) : Bool :=
  let x := s.grpOf g
  !x.sweep.isEmpty || ((s.sweepPeriod g).isSome && decide (x.sweepNo ≠ s.sweepPeriod g))

/-- SWEEP_START, R444: the group's sweep begins its next test. -/
def execSweepStart (g : Grp) (s : State) : Res :=
  let x := s.grpOf g
  if !s.flag BST_CTRL.IS_EN 0 || s.noTests g || !x.tests.isEmpty || !x.retries.isEmpty || !x.ops.isEmpty || !s.sweepDue g ||
      decide (s.fld HRN_GROUP_STATE.STATE g ≠ Group.OPEN) then .next s
  else
    let s := if x.sweep.isEmpty then
        s.modGrp g fun x => { x with sweep := s.sweepPlan g, sweepNo := s.sweepPeriod g, lastPass := none }
      else s
    match (s.grpOf g).sweep with
    | [] => .next s
    | (kind, k) :: _ => .next (s.sweepItem g kind k)

/-- The test is that of the sweep's item in hand. -/
def TestX.isItem (t : TestX) : List (Nat × Nat) → Bool
  | [] => false
  | (kind, k) :: _ => if kind < 2 then t.kind = 0 && t.index = k else t.kind = 1 && (kind = 2 || t.index = k)

/-- A lane that a reduction has left without slices is disabled (R102). -/
def State.dropBare (s : State) (g : Nat) : State :=
  s.each (s.bareLanes g) fun n s =>
    if s.flag LRX_CTRL.ENABLE n then (s.setFlag LRX_CTRL.ENABLE n false).endLrx n Loss.DISABLED else s

/-- A resource fails its in-service test: fenced, recorded, the pool and the lanes follow (R445, R102, R46). -/
def State.fenceTested (s : State) (g : Nat) (t : TestX) : State :=
  let s := if t.kind = 0 then s.setSlice g t.index Slice.FENCED else s.setDec g t.index Decoder.FENCED
  let s := if t.retest then s else s.count BST_IS_FAIL.COUNT g
  let s := ((s.showFences.logBst g).alert Alert.LANE)
  if t.retest then s
  else if t.kind = 0 then (s.poolReduce g).dropBare g
  else
    -- a decoder under test whose lane has fallen short gives its test up (R446)
    let lent := (s.grpOf g).tests.find? fun t => t.kind = 1 && !t.retest
    let s := match lent, s.shortLane g, s.spareDecoder g with
      | some t, some _, none => s.abortTest g 1 t.index
      | _, _, _ => s
    let s := s.spareIn g
    (s.checkDecoders (2 * g)).checkDecoders (2 * g + 1)

/-- A resource passes: FREE or SPARE. After a mismatch the position that the other slice serves moves onto it; each step of that
course is an event, a pass recorded as a fail is (R114). A spare serves a lane that is short (R46). -/
def State.passTested (s : State) (g : Nat) (t : TestX) : State :=
  if t.kind = 0 then
    let s := ((s.setSlice g t.index Slice.FREE).modGrp g fun x => { x with lastPass := some t.index }).showFences
    let s := if t.mismatchOf.isSome || t.event then s.logBst g else s
    match t.mismatchOf.bind (s.servedPos g) with
    | some (l, p) => (s.modGrp g fun x => { x with follow := x.follow ++ [(l, p, t.index)] }).runFollow g
    | none => s
  else ((s.setDec g t.index Decoder.SPARE).spareIn g).showFences

/-- The test has run for its 40 µs or, where its completion flag never comes, for twice as long (R444, Table 16-1). -/
def State.testOver (s : State) (t : TestX) (complete : Bool) : Bool := decide (t.at_ + (if complete then 31250 else 62500) ≤ s.cycle)

/-- IN_SERVICE_TEST_DONE, R445: the group's test in progress ends with its completion flag, pattern count and signature. -/
def execInServiceTestDone (g : Grp) (complete : Bool) (patterns : BitVec 28) (sigOk : Bool) (s : State) : Res :=
  match (s.grpOf g).tests with
  | [] => .next s
  | t :: ts =>
    if (t.waits && s.headless) || !s.testOver t complete then .next s
    else
    let r := testResult complete patterns.toNat 30720 sigOk
    let item := t.isItem (s.grpOf g).sweep
    let s := (s.modGrp g fun x => { x with tests := ts }).count BST_IS_RUN.COUNT g
    let s := ((s.setFld BST_IS_STATUS.RESULT g r).setFld BST_IS_STATUS.KIND g t.kind).setFld BST_IS_STATUS.INDEX g t.index
    let s := if r = Test.PASS then s.passTested g t else s.fenceTested g t
    .next (if item then s.sweepNext g else s)

/-- The state a retried test finds its resource in. -/
def State.retryReady (s : State) (g : Nat) (t : TestX) : Bool :=
  if t.kind = 0 then
    let st := s.sliceState g t.index
    decide (st = Slice.FREE ∨ (t.retest ∧ t.aborts = 0 ∧ st = Slice.FENCED))
  else decide (s.decState g t.index = (if t.retest then Decoder.FENCED else Decoder.SPARE))

/-- A test starts again. -/
def State.retryTest (s : State) (g : Nat) (t : TestX) : State :=
  let s := if t.kind = 0 then s.setSlice g t.index Slice.UNDER_TEST else s.setDec g t.index Decoder.UNDER_TEST
  s.modGrp g fun x => { x with tests := x.tests ++ [{ t with at_ := s.cycle }] }

/-- A retry is due: 1 ms has passed since the abort; a retest that heat held back has not begun yet and is due as soon as it may
start (R446). -/
def State.retryDue (s : State) (t : TestX) : Bool := decide (t.aborts = 0 ∨ t.at_ + 781250 ≤ s.cycle)

/-- TEST_RETRY, R446: 1 ms after an abort the test runs again; after `ABORT_MAX` aborts in a row, or where the resource has
gone to other use, it is skipped. While no new test may start it waits. -/
def execTestRetry (g : Grp) (s : State) : Res :=
  match (s.grpOf g).retries with
  | [] => .next s
  | t :: ts =>
    if s.noTests g || !s.retryDue t then .next s
    else
      let s := s.modGrp g fun x => { x with retries := ts }
      if t.aborts < s.fld BST_CTRL.ABORT_MAX 0 && s.retryReady g t then .next (s.retryTest g t)
      else if t.isItem (s.grpOf g).sweep then .next (s.sweepSkip g)
      else .next (s.count BST_IS_SKIP.COUNT g)

/-- A write to `BST_CTRL`: `SWEEP` 0 or `ABORT_MAX` 0 rejects it. -/
def wrBstCtrl (p : Path) (v : Nat) (s : State) : State × WStatus :=
  if fieldOf v BST_CTRL.SWEEP = 0 ∨ fieldOf v BST_CTRL.ABORT_MAX = 0 then rejectWrite p .BST_CTRL 0 v s
  else (plainWrite .BST_CTRL 0 v s, .ok)

/-- A write to `BST_UNFENCE`: a fenced slice or decoder goes to UNDER_TEST; another target, a group being rebuilt, or a group
that refuses in-service tests, is rejected (R447, R456, R56, R120). While heat lets no new test start the retest waits, its resource
still FENCED (log entry 175). -/
def wrBstUnfence (p : Path) (v : Nat) (s : State) : State × WStatus :=
  let g := fieldOf v BST_UNFENCE.GROUP
  let kind := fieldOf v BST_UNFENCE.KIND
  let k := fieldOf v BST_UNFENCE.INDEX
  let fenced := if kind = 0 then decide (k < 13 ∧ s.sliceState g k = Slice.FENCED)
    else decide (kind = 1 ∧ k < 7 ∧ s.decState g k = Decoder.FENCED)
  if fieldOf v BST_UNFENCE.GO = 0 then (plainWrite .BST_UNFENCE 0 v s, .ok)
  else if !fenced || s.groupClosing g || s.testsRefused g then rejectWrite p .BST_UNFENCE 0 v s
  else
    let s := plainWrite .BST_UNFENCE 0 v s
    let t : TestX := { kind := kind, index := k, retest := true }
    (if s.hotForTests then s.modGrp g fun x => { x with retries := x.retries ++ [t] } else s.retryTest g t, .ok)

/-- BST_UNFENCE, R447. -/
def execBstUnfence (p : Path) (g : Grp) (kind : Fin 4) (index : Fin 16) (s : State) : Res :=
  let v := 2 ^ 31 + g.val * 2 ^ 28 + kind.val * 2 ^ 26 + index.val
  writeCommand p .BST_UNFENCE 0 v (wrBstUnfence p v) s

end Sys2Proof.Machine
end

