-- ==== Sys2Proof/Machine/Tussock.lean ====
section
/-! DEFINITION. Tussock's inputs and rules, and the writes to its registers (R363 to R367). -/
namespace Sys2Proof.Machine

/-- Inputs and rules. -/
def inputs32 : List Nat := List.range 32

/-- Rule kinds and actions (Tables 12-10 and 12-11). -/
abbrev Tsk.BELOW : Nat := 0
abbrev Tsk.ABOVE : Nat := 1
abbrev Tsk.STEP_UP : Nat := 2
abbrev Tsk.STEP_DOWN : Nat := 3
abbrev Tsk.STEP_ANY : Nat := 4
abbrev Tsk.LOS : Nat := 1
abbrev Tsk.STEP : Nat := 2
abbrev Tsk.WAKE : Nat := 3
abbrev Tsk.DOZE : Nat := 4
abbrev Tsk.ALERT : Nat := 5

/-- Rule `r` is active. -/
def State.tskActive (s : State) (r : Nat) : Bool := (s.fld TSK_ACTIVE.ACTIVE 0).testBit r

/-- Rule `r` becomes active or inactive. -/
def State.setTskActive (s : State) (r : Nat) (on : Bool) : State :=
  let a := s.fld TSK_ACTIVE.ACTIVE 0
  if a.testBit r = on then s else s.setFld TSK_ACTIVE.ACTIVE 0 (if on then a + 2 ^ r else a - 2 ^ r)

/-- Tussock's LOS of every lane follows the active LOS rules that name it (Table 12-11). -/
def State.showTskLos (s : State) : State :=
  s.each lanes16 fun n s =>
    let on := inputs32.any fun r => s.tskActive r && decide (s.fld TSK_RULE.ACTION r = Tsk.LOS) && (s.fld TSK_RULE.TARGET r).testBit n
    s.setLos n .tussock on

/-- A value of `TSK_RULE_r` that R367 accepts. A TARGET fits LOS and STEP as a mask of lanes, ALERT as a class of Table 10-2,
every other action as zero. -/
def tskRuleOk (v : Nat) : Bool :=
  let kind := fieldOf v TSK_RULE.KIND
  let set := fieldOf v TSK_RULE.SET
  let clr := fieldOf v TSK_RULE.CLR
  let act := fieldOf v TSK_RULE.ACTION
  let target := fieldOf v TSK_RULE.TARGET
  let lag := clr % 128
  decide (kind ≤ Tsk.STEP_ANY) && decide (act ≤ Tsk.ALERT) && decide (fieldOf v TSK_RULE.COUNT ≠ 0) &&
  (if kind = Tsk.BELOW then decide (set ≤ clr) else if kind = Tsk.ABOVE then decide (clr ≤ set)
    else decide (set % 64 ≠ 0) && decide (1 ≤ lag ∧ lag ≤ 64)) &&
  (if act = Tsk.LOS ∨ act = Tsk.STEP then true else if act = Tsk.ALERT then decide (target < 10) else decide (target = 0))

/-- A commit of `TSK_RULE_r` (R367): the rule is inactive, its counts at zero, its LOS released. -/
def wrTskRule (p : Path) (r v : Nat) (s : State) : State × WStatus :=
  if !tskRuleOk v then rejectWrite p .TSK_RULE r v s
  else
    let s := ((s.setTskActive r false).modTskRule r fun _ => {}).showTskLos
    ((plainWrite .TSK_RULE r v s).showTskLos, .ok)

/-- A write to `TSK_IN_CFG_i`: AVG above 6 rejects it; enabling the input or changing its AVG clears its history (R364). -/
def wrTskInCfg (p : Path) (i v : Nat) (s : State) : State × WStatus :=
  let avg := fieldOf v TSK_IN_CFG.AVG
  if 6 < avg then rejectWrite p .TSK_IN_CFG i v s
  else
    let clear := decide (avg ≠ s.fld TSK_IN_CFG.AVG i) || (decide (fieldOf v TSK_IN_CFG.EN = 1) && !s.flag TSK_IN_CFG.EN i)
    let s := plainWrite .TSK_IN_CFG i v s
    (if clear then s.modTskIn i fun _ => {} else s, .ok)

/-- TSK_RULE_COMMIT, R367. -/
def execTskRuleCommit (p : Path) (r : Fin 32) (value : BitVec 64) (s : State) : Res :=
  commitCommand p .TSK_RULE r value.toNat (wrTskRule p r value.toNat) s

/-- TSK_IN_CFG_WRITE, R364. -/
def execTskInCfgWrite (p : Path) (i : Fin 32) (value : Word32) (s : State) : Res :=
  writeCommand p .TSK_IN_CFG i value.toNat (wrTskInCfg p i value.toNat) s

end Sys2Proof.Machine
end

