-- ==== Sys2Proof/Machine/RegInit.lean ====
section
/-! DEFINITION. What a whole write does to each register of the blocks that REG_INIT can reach, and the REG_INIT section
itself (R8, R279). -/
namespace Sys2Proof.Machine

/-- A register without rules of its own takes a write by its access codes (R8). -/
def wrPlain (r : Reg) (i v : Nat) (s : State) : State × WStatus := (plainWrite r i v s, .ok)

/-- A whole write to a register of the group blocks, host lanes, channels and Cinch lanes. -/
def wrGroupBlock (p : Path) (r : Reg) (i v : Nat) (s : State) : State × WStatus :=
  match r with
  | .LRX_CTRL => wrLrxCtrl p i v s
  | .LRX_ACQ_CFG => wrLrxAcqCfg p i v s
  | .LRX_TIA_CFG => wrLrxTiaCfg p i v s
  | .LRX_TIA_CMD => wrLrxTiaCmd i v s
  | .EQP_CTRL => wrEqpCtrl p i v s
  | .EQP_SOFT => wrEqpSoft p i v s
  | .EQP_COEF => wrEqpCoef i v s
  | .EQP_OP_CMD => wrEqpOpCmd i v s
  | .EQP_AUDIT => wrEqpAudit i v s
  | .LFEC_CTRL => wrLfecCtrl i v s
  | .LFEC_SD => wrLfecThr p .LFEC_SD LFEC_SD.SD_CLR LFEC_SD.SD_SET i v s
  | .LFEC_SF => wrLfecThr p .LFEC_SF LFEC_SF.SF_CLR LFEC_SF.SF_SET i v s
  | .LTX_CTRL => wrLtxCtrl p i v s
  | .LTX_FIR_CFG => wrLtxShadow p .LTX_FIR_CFG i i v s
  | .LTX_FIR => wrLtxShadow p .LTX_FIR (i / 15) i v s
  | .LTX_LUT => wrLtxShadow p .LTX_LUT (i / 64) i v s
  | .LTX_TRIM => wrLtxTrim p i v s
  | .LTX_PAT => wrLtxPat p i v s
  | .LTX_CHK => wrLtxChk p i v s
  | .LTX_UPAT => wrLtxUpat p i v s
  | .LTX_MASK_CFG => wrLtxMaskCfg p i v s
  | .LTX_MASK_SEG => wrLtxMaskSeg p i v s
  | .LTX_DRV_CFG => wrLtxDrvCfg p i v s
  | .LTX_DRV_CMD => wrLtxDrvCmd i v s
  | .HSI_CTRL => wrHsiCtrl i v s
  | .HSI_TXEQ => wrHsiTxeq p i v s
  | .HSI_PAT => wrHsiPat p i v s
  | .HSI_CHK => wrHsiChk p i v s
  | .CIN_CH_CFG => wrCinChCfg p i v s
  | .CIN_CH_CRED => wrCinChCred p i v s
  | .CIN_LANE_CTRL => wrCinLaneCtrl i v s
  | .CIN_LANE_CFG => wrCinLaneCfg p i v s
  | .CIN_CONS_AUDIT => wrCinConsAudit v s
  | .CIN_CR_CFG => wrCinCrCfg p v s
  | r => wrPlain r i v s

/-- A whole write to a register of the TMB, HKA, THM, MEM, DMA, EVL, PMC, BST and TSK blocks. -/
def wrDeviceBlock (p : Path) (r : Reg) (i v : Nat) (s : State) : State × WStatus :=
  match r with
  | .TSK_IN_CFG => wrTskInCfg p i v s
  | .TSK_RULE => wrTskRule p i v s
  | .TMB_NODE_ID => wrTmbNodeId p v s
  | .TMB_SRC_CFG => wrTmbSrcCfg p v s
  | .TMB_HOLD_CFG => wrTmbHoldCfg p v s
  | .TMB_SET => wrTmbSet p v s
  | .TMB_ASYM_CAL => wrTmbAsymCal v s
  | .TMB_PPS_CFG => wrTmbPpsCfg p v s
  | .TMB_PPS_SEC => wrTmbPpsSec p v s
  | .TMB_ASYM => wrTmbAsym .TMB_ASYM i v s
  | .TMB_ASYM_UNC => wrTmbAsym .TMB_ASYM_UNC i v s
  | .HKA_CTRL => wrHkaCtrl p v s
  | .HKA_TIMING => wrHkaTiming p v s
  | .HKA_URGENT => wrHkaUrgent p v s
  | .HKA_DAC_FAULT => wrDacFault v s
  | .HKA_DEC_CFG => wrHkaDecCfg p v s
  | .HKA_CH_CFG => wrHkaChCfg p i v s
  | .HKA_MON => wrHkaMon p i v s
  | .HKA_MON_VCC => wrHkaMonVcc p v s
  | .HKA_STREAM_BASE => wrStreamBase p i v s
  | .HKA_STREAM_CFG => wrStreamCfg p i v s
  | .HKA_DAC_CODE => wrDacCode i v s
  | .HKA_DAC_CFG => wrDacCfg i v s
  | .HKA_DAC_TIMER => wrDacTimer p i v s
  | .HKA_RB_CFG => wrRbCfg p v s
  | .THM_CFG => wrThmCfg p v s
  | .THM_LIMIT_A => wrThmLimitA p v s
  | .THM_LIMIT_B => wrThmLimitB p v s
  | .MEM_FLIP_MASK => wrFlipMask p v s
  | .MEM_SCRUB_CFG => wrScrubCfg p i v s
  | .DMA_SRC | .DMA_DST | .DMA_CNT | .DMA_FILL => wrDmaParam p r i v s
  | .DMA_CTRL => wrDmaCtrl p i v s
  | .DMA_CQ_RD => wrDmaCqRd p v s
  | .EVL_CTRL => wrEvlCtrl p v s
  | .PMC_CTL => wrPmcCtl p i v s
  | .PMC_GLOBAL => wrPmcGlobal p v s
  | .BST_CTRL => wrBstCtrl p v s
  | .BST_UNFENCE => wrBstUnfence p v s
  | r => wrPlain r i v s

/-- A write of `PWR_CTRL` that REG_INIT makes: the settings are taken, a command waits for the end of the load (Table 9-6) or, where no
load but the return to ACTIVE writes it, is refused with BUSY (Table 12-12); a command code that names none is ignored and recorded. -/
def wrPwrCtrlInLoad (p : Path) (v : Nat) (s : State) : State × WStatus :=
  let cmd := fieldOf v PWR_CTRL.CMD
  let s := plainWrite .PWR_CTRL 0 v s
  if cmd = 0 then (s, .ok)
  else if 4 < cmd then rejectWrite p .PWR_CTRL 0 v s
  else if s.hrn.load.isNone && decide (5 ≤ s.fld GLB_STATE.BOOT 0) then (s.setFld PWR_STATE.RESULT 0 2, .ok)
  else
    let s := s.modPwr fun x => { x with deferred := some cmd }
    (if 3 ≤ cmd then s.setFlag PWR_STATE.PENDING 0 true else s, .ok)

/-- A whole write that REG_INIT makes. -/
def initWrite (p : Path) (r : Reg) (i v : Nat) (s : State) : State × WStatus :=
  let a := r.desc.base
  if r = .PWR_CTRL then wrPwrCtrlInLoad p v s
  else if 0x100000 ≤ a ∧ a < 0x300000 then wrGroupBlock p r i v s
  else wrDeviceBlock p r i v s

/-- Registers that the sections of an image set; REG_INIT may not name them (R279). -/
def sectionRegs : List Reg :=
  [.LRX_CTRL, .LRX_ACQ_CFG, .LRX_AGC_CFG, .LRX_TIA_CFG, .EQP_CTRL, .EQP_SOFT, .LTX_CTRL, .LTX_FIR_CFG, .LTX_FIR, .LTX_LUT,
   .LTX_TRIM, .LTX_DRV_CFG, .LTX_MASK_CFG, .LTX_MASK_SEG, .TMB_ASYM, .TMB_ASYM_UNC, .TMB_NODE_ID, .TMB_SRC_CFG]

/-- An address that the REG_INIT of a group, or of the device, may name (R279): in the group's register block; or in the PWR, TSK,
CLK, TMB, HKA, CAL, THM, EVL, PMC and BST blocks (Table 10-6), in a register that OPERATOR may write. -/
def initAllowed (g a : Nat) : Bool :=
  match regAt a with
  | none => false
  | some (r, _, _) =>
    !sectionRegs.contains r && decide (r.desc.role ≠ .none_) && decide (r.desc.role.rank ≤ Role.OPERATOR) &&
    (if g < 8 then decide (0x100000 + 0x10000 * g ≤ a ∧ a < 0x110000 + 0x10000 * g)
      else decide (0x10000 ≤ a ∧ a < 0x80000) || decide (0x380000 ≤ a ∧ a < 0x400000) || decide (0x440000 ≤ a ∧ a < 0x470000))

/-- The pairs of a REG_INIT payload are written in order, as OPERATOR, on the firmware path; answers whether every write was
taken (R279, Table 15-7). -/
def State.regInit (s : State) (payload : List Byte) : State × Bool :=
  (regPairs payload).foldl (fun (e : State × Bool) pr =>
    let (s, st) := writeWordWith initWrite .firmware pr.1 pr.2 e.1
    (s, e.2 && decide (st = .ok))) (s, true)

/-- Every pair of a payload names an address permitted. -/
def initAddrOk (g : Nat) (payload : List Byte) : Bool := (regPairs payload).all fun pr => initAllowed g pr.1

end Sys2Proof.Machine
end

