-- ==== Sys2Proof/Machine/Groups.lean ====
section
/-! DEFINITION. Closing and opening lane groups: what a quiesce, a shut-down to STANDBY and a reopen do to the mask's groups
(R286 to R291, R353, R354). -/
namespace Sys2Proof.Machine

/-! ### Closing (R288 step 3, R353) -/

/-- The lanes, host lanes and channels of a list of groups. -/
def groupLanes (gs : List Nat) : List Nat := gs.flatMap fun g => [2 * g, 2 * g + 1]
def groupHosts (gs : List Nat) : List Nat := gs.flatMap fun g => (List.range 4).map (4 * g + ·)
def groupChans (gs : List Nat) : List Nat := gs.flatMap fun g => (List.range 32).map (32 * g + ·)

/-- Registers of the blocks of a list of groups return to reset values; words staged for them and captures of them are
dropped (R198, R239). -/
def State.dropGroupRegs (s : State) (gs : List Nat) : State :=
  let mine := fun (k : RegKey) => match k.1.group k.2 with
    | some g => gs.contains g
    | none => false
  { s with
    regs := s.regs.filter (fun e => !mine e.1)
    staged := s.staged.filter fun e => !mine e.1
    committed := s.committed.filter fun e => !mine e.1
    captured := s.captured.filter fun e => !mine e.1 }

/-- What the device forgets of a group beside its registers; the fences of a BIST stay, and what the AO domain holds. -/
def State.dropGroupState (s : State) (g : Nat) : State :=
  let s := s.modGrp g fun x => { ({} : GrpX) with fenced := x.fenced }
  let s := s.each [2 * g, 2 * g + 1] fun n s =>
    let s := (((s.modLrx n fun _ => {}).modEqp n fun _ => {}).modLtx n fun _ => {}).modClane n fun x => { ({} : CLaneX) with deadSlots := x.deadSlots }
    s.modLfec n fun x => { ({} : LfecX) with boundaries := x.boundaries, winAt := x.winAt }
  let s := s.each ((List.range 4).map (4 * g + ·)) fun h s =>
    (s.modHsi h fun x => { ({} : HsiX) with eqCodes := x.eqCodes }).modHpm h fun _ => {}
  let mine := [2 * g, 2 * g + 1] ++ (List.range 4).map fun i => 16 + 4 * g + i
  let s := { s with chk := s.chk.filter fun e => !mine.contains e.1 }
  s.each ((List.range 32).map (32 * g + ·)) fun c s => s.modChan c fun _ => {}

/-- The registers and the state of the groups are as after reset, but that fenced slices, units and decoders stay fenced
(R121, R288). -/
def State.clearGroups (s : State) (gs : List Nat) : State :=
  let fencedSlices := gs.flatMap fun g => ((List.range 13).filter fun k => decide (s.sliceState g k = Slice.FENCED)).map fun k => (g, k)
  let fencedUnits := gs.flatMap fun g => ([0, 1].filter fun u => decide (s.unitState g u = Slice.FENCED)).map fun u => (g, u)
  let s := s.each gs fun g s => s.dropGroupState g
  let s := s.dropGroupRegs gs
  let s := fencedSlices.foldl (fun s e => s.setSlice e.1 e.2 Slice.FENCED) s
  let s := fencedUnits.foldl (fun s e => s.setFld (unitField e.2) e.1 Slice.FENCED) s
  s.showLasers

/-- A test in the group aborts within 2 µs and restores its saved state (R288). -/
def State.abortTests (s : State) (g : Nat) : State :=
  (s.grpOf g).tests.foldl (fun s t => s.abortTest g t.kind t.index) s

/-- The result streams whose buffer lies in the capture partition of one of the groups stop (R390). -/
def State.stopStreams (s : State) (gs : List Nat) : State :=
  s.each (List.range 4) fun k s =>
    let base := s.fld HKA_STREAM_BASE.BASE k
    if s.flag HKA_STREAM_CFG.EN k && gs.any fun g => inRange (0x20000000 + 0x40000 * g) 0x40000 base then s.streamStop k else s

/-- The groups close, in the order of R288: operations in progress end, channels and streams close, transmitters send code 0 with
their laser-enable pins, receivers and host lanes leave LOCKED with cause REBUILD, and the accounts close with their records.
Registers then read reset values. -/
def State.closeGroups (s : State) (gs : List Nat) : State :=
  let lanes := groupLanes gs
  let s := s.each gs fun g s => ((s.abortTests g).endOpAtQ g).modGrp g fun x => { x with ops := [] }
  let s := s.each ((groupChans gs).filter s.chEn) fun c s => (s.closeChannel c).setFlag CIN_CH_CFG.EN c false
  let s := s.each lanes fun n s => s.closeStreams n
  let s := s.each lanes fun n s => s.disableLtx n
  let s := s.each lanes fun n s => s.endLrx n Loss.REBUILD
  let s := s.each (groupHosts gs) fun h s => (s.disableHrx h HLoss.REBUILD).disableHtx h
  let s := s.each lanes fun n s => s.lfecClose n
  let s := s.each gs fun g s => s.poolClose g
  let s := s.each lanes fun n s => s.timeLaneClose n
  ((s.stopStreams gs).clearGroups gs).showPorts

/-! ### Synthesisers -/

/-- The line synthesiser of group `g` is asked to lock: it calibrates. -/
def State.tuneLine (s : State) (g : Nat) : State :=
  let l := s.fld CLK_STATUS.LINE_LOCK 0
  let c := s.fld CLK_STATUS.LINE_CAL 0
  let s := if l.testBit g then s.setFld CLK_STATUS.LINE_LOCK 0 (l - 2 ^ g) else s
  let s := if c.testBit g then s else s.setFld CLK_STATUS.LINE_CAL 0 (c + 2 ^ g)
  (s.setFld CLK_LINE.STATE g 1).modClk fun x => { x with line := Tab.set natLt (fun _ => 0) x.line g s.cycle }

/-- Host synthesiser `k` is asked to lock. -/
def State.tuneHost (s : State) (k : Nat) : State :=
  let l := s.fld CLK_STATUS.HOST_LOCK 0
  let s := if l.testBit k then s.setFld CLK_STATUS.HOST_LOCK 0 (l - 2 ^ k) else s
  ((s.setFld CLK_HOST.STATE k 1).setFlag HSI_CLK.SYNTH_LOCK k false).modClk fun x =>
    { x with host := Tab.set natLt (fun _ => 0) x.host k s.cycle }

/-- A synthesiser that no configured group needs is off. -/
def State.lineOff (s : State) (g : Nat) : State :=
  let l := s.fld CLK_STATUS.LINE_LOCK 0
  let c := s.fld CLK_STATUS.LINE_CAL 0
  let s := if l.testBit g then s.setFld CLK_STATUS.LINE_LOCK 0 (l - 2 ^ g) else s
  let s := if c.testBit g then s.setFld CLK_STATUS.LINE_CAL 0 (c - 2 ^ g) else s
  s.setFld CLK_LINE.STATE g 0
def State.hostOff (s : State) (k : Nat) : State :=
  let l := s.fld CLK_STATUS.HOST_LOCK 0
  let s := if l.testBit k then s.setFld CLK_STATUS.HOST_LOCK 0 (l - 2 ^ k) else s
  (s.setFld CLK_HOST.STATE k 0).setFlag HSI_CLK.SYNTH_LOCK k false

/-- Synthesisers of groups that are not configured are off. -/
def State.idleOff (s : State) : State :=
  let s := s.each groups8 fun g s => if s.configured g then s else s.lineOff g
  s.each [0, 1, 2, 3] fun k s => if s.configured (2 * k) || s.configured (2 * k + 1) then s else s.hostOff k

/-- The groups of a list that a configuration has, and the host pairs they need. -/
def neededGroups (c : Cfg) (gs : List Nat) : List Nat := gs.filter c.has
def neededHosts (c : Cfg) (gs : List Nat) : List Nat := [0, 1, 2, 3].filter fun k => gs.any fun g => c.has g && decide (g / 2 = k)

/-- Every synthesiser that a configuration needs for the groups is locked, the core PLL included (R289). -/
def State.synthsLocked (s : State) (c : Cfg) (gs : List Nat) : Bool :=
  s.clocksPresent && (neededGroups c gs).all s.lineSynthLocked && (neededHosts c gs).all s.hostSynthLocked

/-- Those that are off are asked to lock. -/
def State.askSynths (s : State) (c : Cfg) (gs : List Nat) : State :=
  let s := s.each (neededGroups c gs) fun g s => if s.fld CLK_LINE.STATE g = 0 then s.tuneLine g else s
  s.each (neededHosts c gs) fun k s => if s.fld CLK_HOST.STATE k = 0 then s.tuneHost k else s

/-! ### Opening (R290, R291) -/

/-- `HRN_GROUP_STATE_g` enters a state; the change is recorded. -/
def State.goGroup (s : State) (g st : Nat) : State :=
  if s.fld HRN_GROUP_STATE.STATE g = st then s
  else
    let s := s.setFld HRN_GROUP_STATE.STATE g st
    s.log Evt.HRN_GROUP Subj.GROUP g (regWords (s.reg .HRN_GROUP_STATE g) 1)

/-- The modes of group `g` are those of the configuration in force. -/
def State.showModes (s : State) (g : Nat) : State :=
  let c : Cfg := s.cfg
  let s := (s.setFld HRN_GROUP_STATE.LINE_MODE g (c.lineMode g)).setFld HRN_GROUP_STATE.SVC g (c.svc g)
  (s.setFld HRN_GROUP_STATE.HOST_MODE g (c.hostMode g)).setFld HRN_GROUP_STATE.CFG_TAG g (c.mode g 3)

/-- Host lane `h` takes its record (Tables 6-2, 6-11): map, swap, inversion, resets of `HSI_CTRL`, transmit equaliser. -/
def State.loadHost (s : State) (h : Nat) : State :=
  let c : Cfg := s.cfg
  let g := h / 4
  let i := h % 4
  let p := c.get Sect.HOST_LANES g
  let bit := fun (b k : Nat) => (byteAt p b).testBit k
  let use := bit 4 (4 + i)
  let s := ((s.setFld HSI_CFG.MODE h (c.hostMode g)).setFld HSI_CFG.SVC h (c.svc g)).setFlag HSI_CFG.TP_OPAQUE h (bit 5 i)
  let s := (s.setFld HSI_CFG.PHYS_RX h (byteAt p 1 / 4 ^ i % 4)).setFld HSI_CFG.PHYS_TX h (byteAt p 2 / 4 ^ i % 4)
  let s := (s.setFlag HSI_CFG.RX_INV h (bit 3 i)).setFlag HSI_CFG.TX_INV h (bit 3 (4 + i))
  let s := (s.setFlag HSI_CFG.LINE h (bit 4 i)).setFlag HSI_CFG.IN_USE h use
  let s := ((s.setFlag HSI_CTRL.TX_FOLLOW h (bit 6 0)).setFlag HSI_CTRL.RX_AUTO h (bit 6 1)).setFlag HSI_CTRL.WAKE_SEL h (bit 6 2)
  let s := (s.setFlag HSI_CTRL.RX_EN h use).setFlag HSI_CTRL.TX_EN h use
  let e := 16 + 4 * i
  let s := (s.setFld HSI_TXEQ.PRE2 h (byteAt p e)).setFld HSI_TXEQ.PRE1 h (byteAt p (e + 1))
  let s := (s.setFld HSI_TXEQ.POST1 h (byteAt p (e + 2))).setFld HSI_TXEQ.AMP h (byteAt p (e + 3))
  s.modHsi h fun x => { x with taps := fieldAt p e 3, ampTarget := byteAt p (e + 3), ampNow := byteAt p (e + 3) }

/-- Line lane `n` takes its receive record, transmit coefficients, trims and asymmetry (Table 9-3). -/
def State.loadLane (s : State) (n : Nat) : State :=
  let c : Cfg := s.cfg
  let g := n / 2
  let l := n % 2
  let en := c.laneEn g
  let p := c.get Sect.LINE_RX g
  let b := 8 * l
  let ctl := byteAt p (b + 1)
  let s := ((s.setFld LRX_CTRL.LOS_SRC n (ctl % 4)).setFld LRX_CTRL.TR_BW n (ctl / 4 % 4)).setFlag LRX_CTRL.AUTO_RETRY n (ctl.testBit 4)
  let s := (s.setFlag LRX_CTRL.CAL_BG_EN n (ctl.testBit 5)).setFlag LRX_CTRL.ENABLE n (en.testBit l)
  let s := (s.setFld LRX_ACQ_CFG.CORR_LOCK n (byteAt p (b + 2))).setFld LRX_ACQ_CFG.CORR_LOSS n (byteAt p (b + 3))
  let s := s.setFld LRX_ACQ_CFG.SNR_MIN n (byteAt p (b + 4))
  let s := (s.setFld LRX_AGC_CFG.TARGET_RMS n (byteAt p (b + 5))).setFld LRX_AGC_CFG.SLOW_THR n (byteAt p (b + 6))
  let p := c.get Sect.LTX g
  let b := 164 * l
  let s := (s.setFld LTX_FIR_CFG.MAIN n (byteAt p b)).setFld LTX_TRIM.SWING n (byteAt p (b + 1))
  let s := (s.setFld LTX_TRIM.OFFSET n (byteAt p (b + 2))).setFld LTX_TRIM.SKEW n (byteAt p (b + 3))
  let s := s.each (List.range 15) fun j s => s.setFld LTX_FIR.TAP (15 * n + j) (fieldAt p (b + 4 + 2 * j) 2)
  let s := s.each (List.range 64) fun i s => s.setFld LTX_LUT.ENTRY (64 * n + i) (fieldAt p (b + 34 + 2 * i) 2)
  let bank := s.shadowBank n
  let s := ((s.modLtx n fun x => { x with bank := bank }).trimAtOnce n).setFlag LTX_CTRL.ENABLE n (en.testBit (2 + l))
  let p := c.get Sect.ASYM g
  let s := (s.setFld TMB_ASYM.ASYM n (fieldAt p (8 * l) 4)).setFld TMB_ASYM_UNC.UNC n (fieldAt p (8 * l + 4) 2)
  let hosts := s.hostsOf n
  let mode := if c.lineMode g = 1 then 3 else if c.svc g ≠ Svc.TRANSPARENT then 0
    else if hosts.any fun h => s.flag HSI_CFG.TP_OPAQUE h then 2 else 1
  let s := s.setFld LFEC_STATUS.RS_MODE n mode
  -- squelch causes that stand outside the group: asserted TxDisable pins and the CMIS control (R135)
  let pin := lanes16.any fun q => decide (s.pinRole q = 1) && s.pin q && (s.pinLaneList q).contains n
  s.setFld LTX_STATUS.SQ_CAUSE n ((if pin then 2 ^ Squelch.TXDIS else 0) + (if s.pins.cmisTx.getLsbD n then 2 ^ Squelch.CMIS else 0))

/-- The two-wire ports, the mask monitor and the channels of group `g` take their records (Table 9-3). -/
def State.loadShared (s : State) (g : Nat) : State :=
  let c : Cfg := s.cfg
  let p := c.get Sect.TIA g
  let s := ((s.setFld LRX_TIA_CFG.SPEED g (if p.isEmpty then 1 else byteAt p 0)).setFld LRX_TIA_CFG.ADDR_LO g (byteAt p 1)).setFld
    LRX_TIA_CFG.ADDR_HI g (byteAt p 2)
  let s := s.modGrp g fun x => { x with tiaIdx := [byteAt p 5, byteAt p 73] }
  let p := c.get Sect.DRIVER g
  let s := ((s.setFld LTX_DRV_CFG.SPEED g (if p.isEmpty then 1 else byteAt p 0)).setFlag LTX_DRV_CFG.PTR16 g ((byteAt p 1).testBit 0)).setFld
    LTX_DRV_CFG.ADDR_LO g (byteAt p 2)
  let s := s.setFld LTX_DRV_CFG.ADDR_HI g (byteAt p 3)
  let p := c.get Sect.MASK g
  let s := if p.isEmpty then s else
    let s := (s.setFlag LTX_MASK_CFG.EN g ((byteAt p 0).testBit 0)).setFlag LTX_MASK_CFG.ACTION g ((byteAt p 0).testBit 1)
    let s := ((s.setFld LTX_MASK_CFG.HYST g (byteAt p 1)).setFld LTX_MASK_CFG.NSEG g (byteAt p 2)).setFld LTX_MASK_CFG.AVG g (byteAt p 3)
    s.each (List.range 32) fun k s => s.setReg .LTX_MASK_SEG (32 * g + k) (BitVec.ofNat 512 (fieldAt p (4 + 4 * k) 4))
  s.each ((List.range 32).map (32 * g + ·)) fun ch s =>
    if !c.chOn ch then s
    else
      let f := c.get Sect.CHANNELS g
      let b := 8 * (ch % 32)
      let s := ((s.setFlag CIN_CH_CFG.EN ch true).setFlag CIN_CH_CFG.LINE_CREDIT ch ((byteAt f b).testBit 1)).setFld CIN_CH_CFG.WEIGHT ch
        (byteAt f (b + 1))
      ((s.setFld CIN_CH_CFG.STRIPE ch (c.chStripe ch)).setFld CIN_CH_CRED.ING_CREDITS ch (c.chIng ch)).setFld CIN_CH_CRED.EGR_CREDITS ch
        (c.chEgr ch)

/-- The port records of the groups are in force (R181). -/
def State.loadPorts (s : State) (gs : List Nat) : State :=
  let rs := (records4 (Cfg.get s.cfg Sect.PORTS 0)).filter fun r => gs.contains (r.1 / 4)
  rs.foldl (fun s r =>
    ((s.setFlag HPM_PORT_CFG.VALID r.1 true).setFld HPM_PORT_CFG.RATE r.1 r.2.1).setFld HPM_PORT_CFG.FLAGS r.1 r.2.2.1) s

/-- The node ID comes from the image; the link-local address, whose reset value ends in it, follows unless it has been written (log
entry 62). -/
def State.takeNodeId (s : State) (id : Nat) : State :=
  let mac := fun (n : Nat) => 0x025A3600 * 65536 + n
  let s := if s.fld MGT_CW_MAC.MAC 0 = mac (s.fld TMB_NODE_ID.NODE_ID 0) then s.setFld MGT_CW_MAC.MAC 0 (mac id) else s
  s.setFld TMB_NODE_ID.NODE_ID 0 id

/-- The device sections of a FULL image are in force (Table 9-3): node ID, priority, role; the pins of the relief table and GPIO
follow the configuration itself. A pin that is no longer a laser-enable output is deasserted. -/
def State.loadDevice (s : State) (old : Cfg) : State :=
  let t := Cfg.get s.cfg Sect.TIME 0
  let s := (s.takeNodeId (fieldAt t 0 2)).setFld TMB_SRC_CFG.PRIORITY 0 (byteAt t 2)
  let s := s.setFld TMB_SRC_CFG.ROLE 0 (byteAt t 3)
  -- a device that may no longer be its own source is none (R253)
  let s := (if s.time.source = .self ∧ s.fld TMB_SRC_CFG.ROLE 0 = 0 then s.dropSource else s).selectFirst
  s.each lanes16 fun q s => if byteAt (old.get Sect.GPIO 0) (4 * q) = 3 ∧ s.pinRole q ≠ 3 then s.setPin q false else s

/-- The blocks of configured groups take every section but REG_INIT (R101, R290). -/
def State.loadGroups (s : State) (gs : List Nat) : State :=
  let gs := gs.filter s.configured
  let s := s.each gs fun g s => s.showModes g
  let s := s.each (groupHosts gs) fun h s => s.loadHost h
  let s := s.each (groupLanes gs) fun n s => s.loadLane n
  let s := s.each gs fun g s => (((s.loadShared g).assignDecoders g).poolLoad g).reliefNew g
  (s.loadPorts gs).showFences

/-- Whether the REG_INIT of the groups and of the device, applied to `s`, is taken whole (R279). -/
def State.regInits (s : State) (gs : List Nat) (device : List Byte) : State × Bool :=
  let step := fun (e : State × Bool) (payload : List Byte) => let (s, ok) := e.1.regInit payload; (s, e.2 && ok)
  step ((gs.map fun g => Cfg.get s.cfg Sect.REG_INIT g).foldl step (s, true)) device

/-- The lanes of an opened group start (R291): host lanes in use blind-start, channels open, enabled receivers start at ADC_CAL,
enabled transmitters run their ENABLE sequence; each waits for its clocks as R289 says. A fenced group and a lane without slices
stay off. -/
def State.startLanes (s : State) (gs : List Nat) : State :=
  let s := s.each (groupHosts gs) fun h s =>
    let s := if s.flag HSI_CTRL.RX_EN h then s.enableHrx h else s
    if s.flag HSI_CTRL.TX_EN h then s.enableHtx h else s
  let s := s.each (groupLanes gs) fun n s =>
    let s := (s.showSlots n).beginShed n
    let bare := decide (s.slices n = 0)
    let s := if bare then s.setFlag LRX_CTRL.ENABLE n false else s
    let s := if s.flag LRX_CTRL.ENABLE n then s.enableLrx n else s
    if s.flag LTX_CTRL.ENABLE n then s.enableLtx n else s
  let s := s.each ((groupChans gs).filter s.chEn) fun c s => s.openChannel c
  (s.showTskLos).showPorts

/-- The groups reopen under the configuration in force: OPEN, or NONE where they are left powered down; a group that a BIST has
fenced whole, or that `failed` names, is FAILED with its lanes DISABLED (R290, R291, R443). REG_INIT comes last of the
settings. -/
def State.reopenGroups (s : State) (gs failed : List Nat) (device : List Byte) : State :=
  let bad := fun (s : State) (g : Nat) => failed.contains g || (s.grpOf g).fenced
  let up := gs.filter fun g => s.configured g && !bad s g
  let s := s.each gs fun g s => s.showModes g
  let s := s.each gs fun g s =>
    if up.contains g then s.goGroup g Group.OPEN else if s.configured g then s.goGroup g Group.FAILED else s.goGroup g Group.NONE
  let s := s.loadGroups up
  let s := (s.regInits up device).1
  s.startLanes up

end Sys2Proof.Machine
end

