-- ==== Sys2Proof/Machine/PowerBase.lean ====
section
/-! DEFINITION. Power states and what the resets keep (chapter 12): the shut-down to STANDBY and the return, sleep entry, the start
of a wake, the end of a load that a stop cuts short. -/
namespace Sys2Proof.Machine

/-! ### Sessions, roles, secrets -/

/-- The session in slot `k` closes: its keys are erased and its subscriptions end (R313). -/
def State.closeSession (s : State) (k : Nat) : State :=
  (s.resetReg .MGT_SESSION k).modMgt fun x => { x with
    sess := Tab.set natLt (fun _ => {}) x.sess k {}
    notify := x.notify.set k {} }

/-- Every session closes. -/
def State.closeSessions (s : State) : State := s.each [0, 1, 2, 3] fun k s => s.closeSession k

/-- The bus path drops to USER (Table 10-4). -/
def State.dropRole (s : State) : State := (s.setFld MGT_BUS_STATUS.ROLE 0 Role.USER).modMgt fun x => { x with busKey := none }

/-- AK and the session keys are erased (R343). -/
def State.eraseKeys (s : State) : State := s.closeSessions.modSec fun x => { x with ak := false }

/-- What a scan chain could read is erased: the seed, DevID, the unsealed password and `SEC_NONCE` too (R343). -/
def State.eraseAll (s : State) : State :=
  let s := s.eraseKeys.modSec fun x => { x with seed := false, dev := false, pwd := none }
  let s := ((s.resetReg .SEC_NONCE 0).setFlag SEC_KEY_STATUS.NONCE_VALID 0 false).setFlag SEC_DBG_STATUS.NONCE_VALID 0 false
  s.setFld SEC_STATUS.ID_STATE 0 3

/-! ### The end of a load -/

/-- What `HRN_STATUS.STATE` reads with no load in progress. -/
def State.hrnRest (s : State) : Nat := if s.fld GLB_STATE.BOOT 0 = 6 ∧ s.hrn.header.isEmpty then 6 else 0

/-- The record and the count of a load result (R282): image and key by the image concerned. -/
def State.hrnResult (s : State) (result detail : Nat) (img : List Byte) : State :=
  let s := (s.setFld HRN_STATUS.RESULT 0 result).setFld HRN_STATUS.DETAIL 0 detail
  let s := if result = Load.OK then s.count HRN_LOAD_OK.COUNT 0 else s.count HRN_LOAD_REJ.COUNT 0
  s.log Evt.HRN_LOAD Subj.DEVICE 0 [result, detail, imgId img, sigKey (imgSig img), imgKind img * 256 + imgMask img]

/-- Before Q the groups of a load return to their states, and take the relief steps they have missed (R291, R19). -/
def State.undoLoad (s : State) (l : LoadX) : State :=
  let s := (l.shown.zip l.prev).foldl (fun s e => s.goGroup e.1 e.2) s
  let now := s.fld THM_STATUS.RELIEF 0
  -- grants that a drain had stopped go on (R224)
  let s := if l.drain then s.each (chans256.filter fun c => l.shown.contains (c / 32)) fun c s => s.grant1 c else s
  s.each (l.shown.filter fun g => decide (s.fld HRN_GROUP_STATE.STATE g = Group.OPEN)) fun g s =>
    let s := s.each (List.range (now - l.relief)) fun i s => s.reliefIn g (l.relief + 1 + i) false
    s.each (List.range (l.relief - now)) fun i s => s.reliefIn g (l.relief - i) true

/-- A stop of the whole device, or a warm reset, ends the load in progress with ABORTED; after Q the configuration before stays
(R291). An image on its way to flash is not concerned. -/
def State.loadAborts (s : State) : State :=
  match s.hrn.load with
  | none => s
  | some l =>
    if l.stage = 6 then s
    else
      let s := if l.stage ≤ 3 then s.undoLoad l else s
      let s := (s.modHrn fun x => { x with load := none }).hrnResult Load.ABORTED 0xFFFF l.image
      s.setFld HRN_STATUS.STATE 0 s.hrnRest

/-! ### GROUP and SHARED domains -/

/-- The range of an entry of a transfer lies, in part, in region `m`. -/
def DmaEntry.touches (e : DmaEntry) (m : Nat) : Bool :=
  let hit := fun a => overlaps a e.cnt (regionBase m) (4096 * regionPages m)
  hit e.dst || (!e.fill && hit e.src)

/-- Transfers on regions that lose power are cut short with ABORTED (R416). -/
def State.cutTransfers (s : State) (ms : List Nat) : State :=
  let s := s.each ((List.range 16).filter fun n => s.dmaAsks n && ((s.dmaOf n).entries.any fun e => ms.any e.touches)) fun n s =>
    let s := if s.engine.current = some n then { s with engine := { s.engine with current := none } } else s
    s.modDma n fun x => { x with ended := some DmaEnd.ABORTED }
  s.dmaGrant

/-- Regions of the GROUP and SHARED domains: replay, ingress, egress, capture (Tables 12-1, 14-1). -/
def datapathRegions : List Nat := List.range 18

/-- The GROUP and SHARED domains are off: no group is up, the synthesisers stop, the stores are disarmed (R353, R400). -/
def State.powerDown (s : State) : State :=
  let s := (s.stopStreams groups8).clearGroups groups8
  let s := s.each groups8 fun g s => (s.goGroup g Group.NONE).lineOff g
  let s := s.each [0, 1, 2, 3] fun k s => s.hostOff k
  let s := s.cutTransfers datapathRegions
  let s := s.each datapathRegions fun m s => s.loseRegion m
  (s.closeSessions.setFld PWR_STATE.STATE 0 1).setFld GLB_STATE.PWR 0 1

/-- ACTIVE → STANDBY: the accounts close as a full load closes them, then the domains power down (R353). -/
def State.toStandby (s : State) : State := (s.closeGroups (groups8.filter s.groupUp)).powerDown

/-! ### STANDBY → ACTIVE (R354) -/

/-- The groups open under the held configuration; those that `failed` names stay FAILED. -/
def State.activate (s : State) (failed : List Nat) : State :=
  let s := (s.setFld PWR_STATE.STATE 0 0).setFld GLB_STATE.PWR 0 0
  let c : Cfg := s.cfg
  let s := (s.loadDevice c).idleOff
  s.reopenGroups groups8 failed (c.get Sect.REG_INIT deviceScope)

/-- The held configuration is reapplied: firmware fills regions 0 to 9, the synthesisers are asked to lock, and with all of them
locked the groups open. -/
def State.toActive (s : State) : State :=
  let s := s.each (List.range 10) fun m s => s.initRegion m
  let c : Cfg := s.cfg
  let s := s.askSynths c groups8
  if s.synthsLocked c groups8 then s.activate [] else s.setFld PWR_STATE.STATE 0 3

/-- A return to ACTIVE is refused: low power is requested (R352), partitions 8 to 10 failed (Table 16-2), a stop has left the
device at or above `RESTART` (R455), a rail of the datapath has not recovered (R362). -/
def State.activeRefused (s : State) : Bool :=
  s.flag PWR_STATE.LP_REQ 0 || s.partFailed 8 || s.partFailed 9 || s.partFailed 10 ||
  (decide (s.fld THM_STATUS.STATE 0 = ThmState.STOPPED) && !s.belowRestart) ||
  [1, 2, 3].any fun r => (s.fld PWR_SUPPLY.NOW 0).testBit r

/-- The squelch cause THERMAL and the stop are over (R455). -/
def State.thermalRestart (s : State) : State :=
  if s.fld THM_STATUS.STATE 0 = ThmState.STOPPED then
    let s := (s.setFld THM_STATUS.STATE 0 ThmState.NORMAL).showThm
    (s.logHot Thm.RESTART).alert Alert.THERMAL
  else s

/-! ### Sleep entry (R355) -/

/-- The record queue is written out before the recorder loses power. -/
def State.flushQueue (s : State) : State :=
  let q := s.recorder.queue
  q.foldl (fun s r => s.writeRec r) (s.modRec fun x => { x with queue := [] })

/-- The wake starts with its first stage (R358, R361): `ns` is the time since sleep entry on the AO counter. -/
def State.wakeStart (s : State) (w : WakeX) (ns : Nat) : State :=
  let s := if s.pwr.wakeOk then (s.setFlag PWR_WAKE_SRC.WAKE_FAILED 0 false).setFld PWR_WAKE_SRC.FAIL_STAGE 0 0 else s
  let s := ((s.setFld PWR_WAKE_SRC.SOURCE 0 w.source).setFld PWR_WAKE_SRC.ALSO 0 w.also).setFld PWR_WAKE_SRC.ATTEMPTS 0 1
  let s := ((s.setFld PWR_WAKE_SRC.FROM 0 s.pwr.sleep).setFld PWR_WAKE_SRC.DETAIL 0 w.detail).setFld PWR_WAKE_SRC.TIME_Q 0
    (if s.quality = Quality.LOST then Quality.LOST else Quality.ESTIMATED)
  let s := s.setFld PWR_WAKE_TIME.TIME 0 (ts96Of (s.now16 + ns * 65536)).toNat
  let s := s.resetReg .PWR_STAGE_TIME 0
  s.modPwr fun x => { x with wake := some { w with at_ := s.cycle }, wakeOk := false }

/-- Steps 3 to 6 of R355: the AO oscillator is calibrated for DOZE, the records are in AO retention, roles drop, CTRL, CLK and HKA
lose power; a wake source that came meanwhile starts its wake. -/
def State.sleepNow (s : State) (goal : Nat) : State :=
  let (v, s) := s.fresh
  let s := if goal = 1 then s.calRun 50 Cal.OK (v.toNat % 2 ^ 32) else s
  let s := (s.dropRole.closeSessions).flushQueue
  let s := s.each [18, 19] fun m s => s.loseRegion m
  let s := s.each lanes16 fun q s => if s.pinRole q = 3 then s.setPin q false else s
  let s : State := { s with time := { s.time with ppsOut := false } }
  let s : State := { s with time := { s.time with bound := s.boundNow, boundAt := s.cycle, boundPpb := 0 } }
  let early := s.pwr.early
  let s := s.setFld PWR_STATE.STATE 0 4
  let s := s.modPwr fun x => { x with sleep := goal, passed := false, goal := 0, early := none, bist := none }
  match early with
  | some w => s.wakeStart w 0
  | none => s

/-- A BIST begins: every partition reads NOT_RUN (Table 16-1). -/
def State.startBist (s : State) (boot : Bool) : State :=
  let s := (s.setFld BST_RESULT.FAIL_MASK 0 0).setFld BST_RESULT.OUTCOME 0 0
  let s := s.each (List.range 16) fun p s => (s.resetReg .BST_PART p).setFld BST_PART.RESULT p 5
  s.modPwr fun x => { x with bist := some { boot := boot, at_ := s.cycle, heldAt := if s.thm.warn then some s.cycle else none } }

/-- Sleep entry from STANDBY: the shut-down BIST first where `SLEEP_BIST` asks for it, after the secrets are erased (R355, R437). -/
def State.sleepEntry (s : State) (goal : Nat) : State :=
  if s.flag PWR_CTRL.SLEEP_BIST 0 then
    ((s.eraseAll.setFld PWR_STATE.STATE 0 4).modPwr fun x => { x with goal := goal }).startBist false
  else s.sleepNow goal

/-! ### Commands of `PWR_CTRL` -/

/-- A load, an update or a fuse write is in progress (R356). -/
def State.opInProgress (s : State) : Bool := s.hrn.load.isSome || s.sec.update.isSome || s.sec.fuse.isSome

/-- `PWR_STATE.RESULT` takes a result. -/
def State.pwrResult (s : State) (r : Nat) : State := s.setFld PWR_STATE.RESULT 0 r

/-- A power command executes (Table 12-6, R352, R354, R356): 1 STANDBY, 2 ACTIVE, 3 DOZE, 4 DEEP. -/
def State.pwrCommand (s : State) (cmd : Nat) : State :=
  let active := decide (s.fld PWR_STATE.STATE 0 = 0)
  if cmd = 1 then
    let s := (s.pwrResult 0).modPwr fun x => { x with lpLeft := false }
    if active then s.toStandby else s
  else if cmd = 2 then
    if active then s.pwrResult 0
    else if s.activeRefused then s.pwrResult 1
    else (s.pwrResult 0).thermalRestart.toActive
  else if s.headless then s.pwrResult 2
  else if cmd = 3 ∧ !s.flag CLK_STATUS.REF_PRESENT 0 then s.pwrResult 1
  else
    let s := (s.pwrResult 0).modPwr fun x => { x with lpLeft := false }
    (if active then s.toStandby else s).sleepEntry (cmd - 2)

/-- A transition or a boot runs (R368). -/
def State.pwrBusy (s : State) : Bool := decide (2 ≤ s.fld PWR_STATE.STATE 0) || decide (s.fld GLB_STATE.BOOT 0 < 5)

/-- A request for a power state (R293, R356, R368): BUSY while a transition runs; deferred during a load, and for DOZE and DEEP also
during an update or a fuse write, `PENDING` then telling of a sleep. -/
def State.pwrRequest (s : State) (cmd : Nat) : State :=
  if s.pwrBusy then s.pwrResult 2
  else if s.hrn.load.isSome || (decide (3 ≤ cmd) && s.opInProgress && !s.headless) then
    (s.modPwr fun x => { x with deferred := some cmd }).setFlag PWR_STATE.PENDING 0 (decide (3 ≤ cmd))
  else s.pwrCommand cmd

/-- The operation that deferred a command has ended. -/
def State.runDeferred (s : State) : State :=
  match s.pwr.deferred with
  | none => s
  | some cmd =>
    if s.hrn.load.isSome || (decide (3 ≤ cmd) && s.opInProgress) then s
    else ((s.modPwr fun x => { x with deferred := none }).setFlag PWR_STATE.PENDING 0 false).pwrRequest cmd

/-- A write to `PWR_CTRL`: its settings, then its command; a code that names none is ignored and recorded. -/
def wrPwrCtrl (p : Path) (v : Nat) (s : State) : State × WStatus :=
  let cmd := fieldOf v PWR_CTRL.CMD
  let s := plainWrite .PWR_CTRL 0 v s
  if cmd = 0 then (s, .ok) else if 4 < cmd then rejectWrite p .PWR_CTRL 0 v s else (s.pwrRequest cmd, .ok)

/-! ### Low power (R352) -/

/-- Low power is requested: an LPMode pin is asserted, or the CMIS bit is 1. -/
def State.lpWanted (s : State) : Bool := s.pwr.lpSw || lanes16.any fun q => decide (s.pinRole q = 2) && s.pin q

/-- The request as the pins and the bit stand: on its rise an ACTIVE device goes to STANDBY, one on its way to ACTIVE turns back; on
its end the device returns to ACTIVE if the request took it from there. -/
def State.lowPower (s : State) : State :=
  let want := s.lpWanted
  if want = s.flag PWR_STATE.LP_REQ 0 then s
  else
    let s := s.setFlag PWR_STATE.LP_REQ 0 want
    let st := s.fld PWR_STATE.STATE 0
    if s.fld GLB_STATE.BOOT 0 < 5 then s
    else if want then
      if st = 0 then
        if s.hrn.load.isSome then s.modPwr fun x => { x with deferred := some 5 }
        else (s.modPwr fun x => { x with lpLeft := true }).toStandby
      else if st = 3 then (s.modPwr fun x => { x with lpLeft := true }).powerDown
      else s
    else
      let s := if s.pwr.deferred = some 5 then s.modPwr fun x => { x with deferred := none } else s
      if s.pwr.lpLeft && decide (st = 1) then
        let s := s.modPwr fun x => { x with lpLeft := false }
        if s.activeRefused then s else s.toActive
      else s.modPwr fun x => { x with lpLeft := false }

/-- The low-power request that waited for the end of a load. -/
def State.runLowPower (s : State) : State :=
  if s.pwr.deferred = some 5 ∧ s.hrn.load.isNone then
    let s := s.modPwr fun x => { x with deferred := none }
    if s.flag PWR_STATE.LP_REQ 0 && decide (s.fld PWR_STATE.STATE 0 = 0) then (s.modPwr fun x => { x with lpLeft := true }).toStandby
    else s
  else s.runDeferred

/-! ### What a reset keeps -/

/-- OTP fuses and the supply monitors: no reset changes them. -/
def fuseRegs : List Reg := [.SEC_UID, .SEC_KEY_SLOT]

/-- Held in AO_BASE or AO retention while VDD_AO is up (R361, R362). -/
def aoRegs : List Reg := [.PWR_WAKE_SRC, .PWR_WAKE_TIME, .PWR_STAGE_TIME, .PWR_WAKE_COUNT, .PWR_SUPPLY]

/-- RWS registers: kept across warm reset and sleep, cleared at cold reset (Table 0-5). -/
def rwsRegs : List Reg := [.PWR_CTRL, .PWR_WAKE_LANES]

/-- Registers that their chapters clear at cold reset only: clock losses, thermal stops, counters and spares of the stores, and
the arming of the stores that keep their power. -/
def coldOnlyRegs : List Reg := [.CLK_REF_LOSS, .THM_STOPS, .MEM_LAP_COUNT, .MEM_SPARE, .MEM_CORR, .MEM_REPAIR, .MEM_POISON,
  .MEM_POISON_CNT, .MEM_STATUS, .MEM_REGION_ARMED, .TMB_QUALITY, .TMB_ERR_BOUND, .TMB_RATE, .TMB_SLEEP_ENTRY, .TMB_SLEEP_ELAPSED,
  .TMB_SLEEP_INFO]

/-- Registers a warm reset keeps beside those: calibration records (R386). -/
def calRegs : List Reg := [.CAL_COUNT, .CAL_RESULT, .CAL_LAST_TIME, .CAL_LAST_Q, .CAL_VALUE]

/-- Tussock's registers, which persist through DOZE (R367). -/
def tskRegs : List Reg := [.TSK_CTRL, .TSK_ACTIVE, .TSK_IN_CFG, .TSK_VALUE, .TSK_RULE, .TSK_HITS]

/-- The device after a reset that keeps the registers of a list: fuses, keys, flash, pins, free values, waiting commands and the
core cycle stand; everything else is as after reset. -/
def State.reborn (s : State) (keep : List Reg) : State :=
  let lock := [SEC_STATUS.JTAG_LOCK, SEC_STATUS.UNOWNED, SEC_STATUS.F0_REVOKED, SEC_STATUS.FW_FLOOR, SEC_STATUS.HRN_FLOOR]
  let t : State := { State.reset with
    pending := s.pending, cycle := s.cycle, freeCtr := s.freeCtr, flash := s.flash, pins := { gpio := s.pins.gpio }
    regs := s.regs.filter fun e => keep.contains e.1.1
    sec := { keys := s.sec.keys, sealed := s.sec.sealed, pwd := some s.sec.sealed, lastTrial := s.sec.lastTrial }
    pwr := { latch := s.pwr.latch, wakeOk := s.pwr.wakeOk, clkLoss := s.pwr.clkLoss } }
  lock.foldl (fun t f => t.setFld f 0 (s.fld f 0)) t

/-- Fences are held in AO retention (R443). -/
def State.keepFences (t s : State) : State :=
  let t := t.each groups8 fun g t =>
    let t := t.each (List.range 13) fun k t => if s.sliceState g k = Slice.FENCED then t.setSlice g k Slice.FENCED else t
    let t := t.each [0, 1] fun u t => if s.unitState g u = Slice.FENCED then t.setFld (unitField u) g Slice.FENCED else t
    let t := t.each (List.range 7) fun d t => if s.decState g d = Decoder.FENCED then t.setDec g d Decoder.FENCED else t
    if (s.grpOf g).fenced then t.modGrp g fun x => { x with fenced := true } else t
  t.showFences

/-- What every reset but a cold one keeps: fences, the phase of the SD and SF windows, losses of the synthesisers, the images
accepted so far, the recorder's mirror, spares in use. -/
def State.keepWarm (t s : State) : State :=
  let t := t.keepFences s
  let t := t.each lanes16 fun n t => t.modLfec n fun x => { x with boundaries := (s.lfecOf n).boundaries, winAt := (s.lfecOf n).winAt }
  let t := t.each lanes16 fun n t => (t.modClane n fun x => { x with deadSlots := (s.claneOf n).deadSlots }).showSlots n
  let t := t.each groups8 fun g t => t.setFld CLK_LINE.LOSSES g (s.fld CLK_LINE.LOSSES g)
  let t := t.each [0, 1, 2, 3] fun k t => t.setFld CLK_HOST.LOSSES k (s.fld CLK_HOST.LOSSES k)
  { t with
    time := s.time
    hrn := { t.hrn with accepted := s.hrn.accepted }
    thm := { t.thm with stops := s.thm.stops }
    recorder := { t.recorder with mirror := s.recorder.mirror }
    mem := s.mem
    memx := s.memx }


/-- The POWER latch is copied into `MGT_ALERT_STATUS` (R361). -/
def State.copyLatch (s : State) : State :=
  if s.pwr.latch then (s.modPwr fun x => { x with latch := false }).alert Alert.POWER else s

/-- A warm reset (R349): all but the RWS registers, the AO state and what the chapters keep returns to reset; the recorder takes its
mirror back (R424); the clock is not changed (R243). -/
def State.warmReset (s : State) : State :=
  let t := (s.reborn (fuseRegs ++ aoRegs ++ rwsRegs ++ coldOnlyRegs ++ calRegs ++ [.TMB_NOW, .MGT_BUS_STATUS])).keepWarm s
  let t : State := { t with frameTimer := s.frameTimer, interval := s.interval }
  let t := (t.setFld CLK_STATUS.REF_PRESENT 0 (s.fld CLK_STATUS.REF_PRESENT 0)).setFld CLK_STATUS.CORE_LOCK 0 (s.fld CLK_STATUS.CORE_LOCK 0)
  let t := (t.resetReg .MGT_BUS_STATUS 0).setFld MGT_BUS_STATUS.STATIC_ADDR 0 (s.fld MGT_BUS_STATUS.STATIC_ADDR 0)
  ((t.modPwr fun x => { x with cause := 2, hkaUp := s.pwr.tripped, afterTrip := s.pwr.tripped }).restoreRecords 2).copyLatch

/-- A cold reset (R243, R434): everything but fuses, flash and what VDD_AO holds. -/
def State.coldReset (s : State) : State :=
  let t := s.reborn (fuseRegs ++ aoRegs)
  ((t.modPwr fun x => { x with cause := 1 }).logBoot 1 0).copyLatch

end Sys2Proof.Machine
end

