-- ==== Sys2Proof/Machine/Harness.lean ====
section
/-! DEFINITION. Loads of harness images (chapter 9): staging, the verdict of the checks, quiesce, rebuild and reopen (R281 to
R294). -/
namespace Sys2Proof.Machine

/-! ### Flash and staging -/

/-- A byte of the QSPI flash; an address nothing has written reads as erased flash does (log entry 52). -/
def State.flashByte (s : State) (a : Nat) : Byte := Tab.get (fun _ => 0xFF) s.flash a

/-- The `n` bytes of flash from address `a` up. -/
def State.flashBytes (s : State) (a n : Nat) : List Byte := (List.range n).map fun i => s.flashByte (a + i)

/-- Bytes stored in flash from address `a` up. -/
def State.setFlashBytes (s : State) (a : Nat) : List Byte → State
  | [] => s
  | b :: bs => State.setFlashBytes { s with flash := Tab.set natLt (fun _ => 0xFF) s.flash a b } (a + 1) bs

/-- First byte of harness slot A (0) or B (1) (R284). -/
def harnessSlot (k : Nat) : Nat := if k = 0 then 0x00800000 else 0x00A00000

/-- Capacity of the staging buffer. -/
abbrev stagingMax : Nat := 262144

/-- The image in a harness slot: as many bytes as its header calls for, and no more than the buffer takes. -/
def State.slotImage (s : State) (k : Nat) : List Byte :=
  s.flashBytes (harnessSlot k) (min stagingMax (400 + leValue (s.flashBytes (harnessSlot k + 16) 4)))

/-- Bytes are appended to the staging buffer; those beyond 262,144 are discarded (R283). -/
def State.appendStaging (s : State) (bs : List Byte) : State :=
  let have_ := s.hrn.staging
  let room := stagingMax - have_.length
  let now := have_ ++ bs.take room
  (s.modHrn fun x => { x with staging := now, excess := x.excess || decide (room < bs.length) }).setFld HRN_LOAD_COUNT.COUNT 0 now.length

/-- The staging buffer holds exactly these bytes. -/
def State.setStaging (s : State) (bs : List Byte) : State :=
  (s.modHrn fun x => { x with staging := bs, excess := false }).setFld HRN_LOAD_COUNT.COUNT 0 bs.length

/-! ### The verdict of the checks (R281) -/

/-- The device-scope REG_INIT that an image itself brings. -/
def imageInit (old new : Cfg) (full : Bool) : List Byte :=
  let p := new.get Sect.REG_INIT deviceScope
  if full then p else p.drop (old.get Sect.REG_INIT deviceScope).length

/-- The machine as it would be after every section but REG_INIT, on which the writes of REG_INIT are tried. -/
def State.trial (s : State) (new : Cfg) (full : Bool) (mask : Nat) : State :=
  let gs := maskGroups mask
  let old : Cfg := s.cfg
  let t := { (s.setFld PWR_STATE.STATE 0 0) with cfg := new }
  let t := t.clearGroups gs
  let t := t.each gs fun g t => t.setFld HRN_GROUP_STATE.STATE g (if new.has g then Group.OPEN else Group.NONE)
  let t := if full then t.loadDevice old else t
  t.loadGroups gs

/-- The first REG_INIT section with a write that a register's rules reject (R279). -/
def State.initFault (s : State) (new : Cfg) (full : Bool) (mask : Nat) (secs : List Sec) : Option Nat :=
  let inits := secs.filter fun x => decide (x.type = Sect.REG_INIT) && (decide (x.group = deviceScope) || new.has x.group)
  (inits.foldl (fun (e : State × Option Nat) x =>
    if e.2.isSome then e else let (t, ok) := e.1.regInit x.payload; (t, if ok then none else some x.idx))
    (s.trial new full mask, none)).2

/-- What the checks of Table 9-4 say of an image: result, detail, and the configuration it leaves where the result is OK. A flash
command and a boot take FULL images only (R283, R284). -/
def State.verdict (s : State) (excess fullOnly : Bool) (i : List Byte) : Nat × Nat × Cfg :=
  let h := s.headerCheck excess fullOnly i
  if h ≠ Load.OK then (h, 0xFFFF, [])
  else
    let full := imgFull i
    let mask := imgGroups i
    match parseSections full (imgMask i) (imgBody i) (fieldAt i 20 2) 0 0 none with
    | .inl k => (Load.SECTION, k, [])
    | .inr secs =>
      match presenceFault full secs with
      | some k => (Load.SECTION, k, [])
      | none =>
        let new := newCfg s.cfg full mask secs
        let good := fun (x : Sec) => s.secOk new full mask x && (decide (x.type ≠ Sect.REG_INIT) || initAddrOk x.group x.payload)
        match secs.find? fun x => !good x with
        | some x => (Load.CONTENT, x.idx, [])
        | none =>
          if !new.wholeOk then (Load.CONTENT, 0xFFFF, [])
          else match s.initFault new full mask secs with
            | some k => (Load.CONTENT, k, [])
            | none => if !full && !s.couplingOk new mask then (Load.COUPLING, 0xFFFF, []) else (Load.OK, 0xFFFF, new)

/-! ### Acceptance (R294, R340) -/

/-- Measurement `i` takes a digest, its byte 0 in bits [7:0]. -/
def State.setMeas (s : State) (i : Nat) (digest : List Byte) : State := s.setFld SEC_MEAS.DIGEST (i - 1) (leValue digest)

/-- Measurements 3 and 4 follow the headers held (Table 11-6). -/
def State.measureHarness (s : State) : State :=
  let m := sha512 s.hrn.header
  (s.setMeas 3 m).setMeas 4 (s.hrn.partials.foldl (fun m h => sha512 (m ++ sha512 h)) m)

/-- An image is accepted: the configuration is the new one, the headers kept and the hash follow, and the groups the image covers
carry its number. -/
def State.accept (s : State) (image : List Byte) (new : Cfg) : State :=
  let full := imgFull image
  let n := s.hrn.accepted + 1
  let s := { s with cfg := new }
  let s := s.modHrn fun x => { x with
    accepted := n
    header := if full then imgHeader image else x.header
    partials := if full then [] else x.partials ++ [imgHeader image] }
  let s := if full then (s.setFld HRN_IMAGE_INFO.SVN 0 (imgSvn image)).setFld HRN_IMAGE_INFO.IMAGE_ID 0 (imgId image) else s
  let s := s.setFld HRN_IMAGE_HASH.HASH 0 (leValue (sha512 (imgHeader image)))
  let s := s.each ((maskGroups (imgGroups image)).filter new.has) fun g s => s.setFld HRN_GROUP_STATE.IMAGE_SEQ g n.toNat
  s.measureHarness

/-- The load in progress is over with a result (R282); what waited for its end runs (R293). -/
def State.endLoad (s : State) (l : LoadX) (result detail : Nat) : State :=
  let s := (s.modHrn fun x => { x with load := none }).hrnResult result detail l.image
  (s.setFld HRN_STATUS.STATE 0 s.hrnRest).runLowPower

/-! ### From the checks to Q (R287 to R289) -/

/-- The load in progress goes on to another stage. -/
def State.stageLoad (s : State) (l : LoadX) (k : Nat) : State := s.modHrn fun x => { x with load := some { l with stage := k } }

/-- The mask's groups start to quiesce: drain first where `DRAIN` asks for it, else only Q is awaited. -/
def State.quiesceStart (s : State) (l : LoadX) : State :=
  let s := (s.stageLoad { l with drainAt := s.cycle } (if l.drain then 2 else 3)).setFld HRN_STATUS.STATE 0 4
  s.each l.shown fun g s => s.goGroup g Group.QUIESCING

/-- A checked image goes on: no pool operation or test goes on in the mask, and the groups quiesce, or wait for their
synthesisers (R288 step 1, R289). -/
def State.beginRebuild (s : State) (l : LoadX) (new : Cfg) : State :=
  let full := imgFull l.image
  let mask := imgGroups l.image
  let gs := maskGroups mask
  let s := s.each gs fun g s => (s.abortTests g).abortQueued g
  let l := { l with
    mask := mask, full := full, new := new, old := s.cfg, shown := gs, relief := s.fld THM_STATUS.RELIEF 0
    prev := gs.map fun g => s.fld HRN_GROUP_STATE.STATE g }
  if s.synthsLocked new gs then s.quiesceStart l
  else
    let s := ((s.askSynths new gs).stageLoad l 1).setFld HRN_STATUS.STATE 0 3
    s.each gs fun g s => s.goGroup g Group.PENDING

/-- An image accepted while the datapath is off: it becomes the configuration held; its device sections act at once, as the blocks
they set are powered (log entry 53). -/
def State.applyHeld (s : State) (l : LoadX) (new : Cfg) : State :=
  let old : Cfg := s.cfg
  let full := imgFull l.image
  let s := s.accept l.image new
  let s := s.each (maskGroups (imgGroups l.image)) fun g s => s.showModes g
  let s := if full then s.loadDevice old else s
  let s := (s.regInit (imageInit old new full)).1
  if s.fld PWR_STATE.STATE 0 = 3 then
    let s := s.askSynths new groups8
    (if s.synthsLocked new groups8 then s.activate [] else s).endLoad l Load.OK 0xFFFF
  else s.endLoad l Load.OK 0xFFFF

/-- The checks of the load in progress end (R282). -/
def State.verified (s : State) (l : LoadX) : State :=
  let s := s.setFld HRN_STATUS.KIND 0 (imgKind l.image)
  let (result, detail, new) := s.verdict l.excess (decide (4 < l.cmd)) l.image
  if result ≠ Load.OK then s.endLoad l result detail
  else if l.cmd = 4 then s.endLoad l Load.OK 0xFFFF
  else if l.cmd = 5 ∨ l.cmd = 6 then (s.stageLoad l 6).setFld HRN_STATUS.STATE 0 5
  else if s.fld PWR_STATE.STATE 0 = 0 then s.beginRebuild l new
  else s.applyHeld l new

/-! ### Q, rebuild, reopen (R288 to R291) -/

/-- The host mode that a configuration gives pair `k`; none where neither group is configured. -/
def Cfg.pairMode (c : Cfg) (k : Nat) : Option Nat :=
  if c.has (2 * k) then some (c.hostMode (2 * k)) else if c.has (2 * k + 1) then some (c.hostMode (2 * k + 1)) else none

/-- The synthesisers whose mode differs between two configurations lock anew (R290). -/
def State.retune (s : State) (old new : Cfg) (gs : List Nat) : State :=
  let s := s.each (gs.filter fun g => old.has g && new.has g && decide (old.lineMode g ≠ new.lineMode g)) fun g s => s.tuneLine g
  let ks := [0, 1, 2, 3].filter fun k => match old.pairMode k, new.pairMode k with
    | some a, some b => decide (a ≠ b)
    | _, _ => false
  s.each ks fun k s => s.tuneHost k

/-- The quiesce instant of the load in progress: groups that are open close, the others of the mask read reset values, and all of
them enter REBUILDING. -/
def State.quiesceNow (s : State) (l : LoadX) : State :=
  let before := l.shown.zip l.prev
  let opened := (before.filter fun e => decide (e.2 = Group.OPEN)).map (·.1)
  let s := s.closeGroups opened
  let s := s.clearGroups (l.shown.filter fun g => !opened.contains g)
  let s := (s.each l.shown fun g s => s.goGroup g Group.REBUILDING).stageLoad l 4
  s.retune l.old l.new l.shown

/-- The configuration that the rebuild in progress is to open under. -/
def LoadX.target (l : LoadX) : Cfg := if l.stage = 5 then l.old else l.new

/-- The groups of the mask reopen: under the new configuration, which is then accepted; or under the previous one after a retune that
failed, which is what the result tells. -/
def State.reopenLoad (s : State) (l : LoadX) : State :=
  if l.stage = 5 then ((s.reopenGroups l.shown [] []).idleOff).endLoad l Load.PLL_TIMEOUT 0xFFFF
  else
    let s := s.accept l.image l.new
    let s := if l.full then s.loadDevice l.old else s
    ((s.reopenGroups l.shown [] (imageInit l.old l.new l.full)).idleOff).endLoad l Load.OK 0xFFFF

/-- A retuned synthesiser has not locked in time: the previous configuration is retuned back, or, that failing too, the groups without
their clocks are FAILED (R290). -/
def State.rebuildTimeout (s : State) (l : LoadX) : State :=
  if l.stage = 4 then (s.stageLoad l 5).retune l.new l.old l.shown
  else
    let old : Cfg := l.old
    let failed := l.shown.filter fun g => old.has g && !(s.lineSynthLocked g && s.hostSynthLocked (g / 2))
    ((s.reopenGroups l.shown failed []).alert Alert.IMAGE).endLoad l Load.PLL_TIMEOUT 0xFFFF

/-! ### `HRN_LOAD_CTRL` -/

/-- No load request is taken: a load runs, the controllers restart, boot or enter sleep, or the harness engine failed its test
(R20, R26, Table 16-2; log entry 54). -/
def State.loadBusy (s : State) : Bool :=
  s.hrn.load.isSome || s.headless || decide (s.fld GLB_STATE.BOOT 0 < 5) || decide (s.fld PWR_STATE.STATE 0 = 4) || s.partFailed 14

/-- The staged image, or an image of flash, is locked and its checks start. -/
def State.startLoad (s : State) (cmd : Nat) : State :=
  let l : LoadX := { cmd := cmd, image := s.hrn.staging, excess := s.hrn.excess, drain := s.flag HRN_LOAD_CTRL.DRAIN 0 }
  (s.modHrn fun x => { x with load := some l }).setFld HRN_STATUS.STATE 0 2

/-- `CANCEL`: a load that has not reached Q ends ABORTED (R291). -/
def State.cancelLoad (s : State) : State :=
  match s.hrn.load with
  | none => s
  | some l => if l.stage ≤ 3 ∧ l.cmd ≠ 0 then s.loadAborts.runLowPower else s

/-- A command of `HRN_LOAD_CTRL` executes (R283, R284). -/
def State.hrnCommand (s : State) (cmd : Nat) : State :=
  if cmd = 3 then s.cancelLoad
  else if s.loadBusy then s.hrnResult Load.BUSY 0xFFFF s.hrn.staging
  else if cmd = 1 then (s.setStaging []).setFld HRN_STATUS.STATE 0 1
  else if cmd = 7 ∨ cmd = 8 then (s.setStaging (s.slotImage (cmd - 7))).startLoad cmd
  else s.startLoad cmd

/-- A write to `HRN_LOAD_CTRL`: `DRAIN_TO` 0 is rejected; a command code that names none is ignored and recorded. A command refused BUSY
changes nothing (R20): the fields written with it do not take effect either (DEDUCED, log entry 168). -/
def wrHrnLoadCtrl (p : Path) (v : Nat) (s : State) : State × WStatus :=
  let cmd := fieldOf v HRN_LOAD_CTRL.CMD
  if fieldOf v HRN_LOAD_CTRL.DRAIN_TO = 0 then rejectWrite p .HRN_LOAD_CTRL 0 v s
  else
    let refused := decide (cmd ≠ 0) && decide (cmd ≠ 3) && decide (cmd ≤ 8) && s.loadBusy
    let s := if refused then s else plainWrite .HRN_LOAD_CTRL 0 v s
    if cmd = 0 then (s, .ok) else if 8 < cmd then rejectWrite p .HRN_LOAD_CTRL 0 v s else (s.hrnCommand cmd, .ok)

/-- A write to `HRN_LOAD_DATA` appends four bytes; while the buffer is locked it is discarded and recorded. -/
def wrHrnLoadData (p : Path) (v : Nat) (s : State) : State × WStatus :=
  if s.hrn.load.isSome then rejectWrite p .HRN_LOAD_DATA 0 v s else (s.appendStaging (leBytes 4 v), .ok)

/-- A command of `HRN_LOAD_CTRL` with the settings as they stand. -/
def hrnRow (p : Path) (cmd : Nat) (s : State) : Res :=
  let v := withField (s.writeBack .HRN_LOAD_CTRL 0) HRN_LOAD_CTRL.CMD cmd
  writeCommand p .HRN_LOAD_CTRL 0 v (wrHrnLoadCtrl p v) s

/-! ### Commands -/

/-- HRN_OPEN (R283). -/
def execHrnOpen (p : Path) (s : State) : Res := hrnRow p 1 s

/-- HRN_LOAD_DATA (R283). -/
def execHrnLoadData (p : Path) (value : Word32) (s : State) : Res :=
  writeCommand p .HRN_LOAD_DATA 0 value.toNat (wrHrnLoadData p value.toNat) s

/-- COMMIT (R283). -/
def execCommit (p : Path) (s : State) : Res := hrnRow p 2 s

/-- CANCEL (R291). -/
def execCancel (p : Path) (s : State) : Res := hrnRow p 3 s

/-- VERIFY (R283). -/
def execVerify (p : Path) (s : State) : Res := hrnRow p 4 s

/-- WRITE_A (R283). -/
def execWriteA (p : Path) (s : State) : Res := hrnRow p 5 s

/-- WRITE_B (R283). -/
def execWriteB (p : Path) (s : State) : Res := hrnRow p 6 s

/-- LOAD_A (R283, R284). -/
def execLoadA (p : Path) (s : State) : Res := hrnRow p 7 s

/-- LOAD_B (R283, R284). -/
def execLoadB (p : Path) (s : State) : Res := hrnRow p 8 s

/-- VERIFICATION_DONE (R282): the checks of the load in progress end. Firmware runs them, so none ends while the controllers
restart. -/
def execVerificationDone (s : State) : Res :=
  match s.hrn.load with
  | some l => .next (if l.stage = 0 ∧ !s.headless ∧ l.cmd ≠ 0 then s.verified l else s)
  | none => .next s

/-- FLASH_WRITE_DONE (R283): the image stands in its slot. -/
def execFlashWriteDone (s : State) : Res :=
  match s.hrn.load with
  | some l =>
    .next (if l.stage = 6 then (s.setFlashBytes (harnessSlot (l.cmd - 5)) l.image).endLoad l Load.OK 0xFFFF else s)
  | none => .next s

/-- The drain of a load is over (R288 step 2): the ingress queues of the mask are empty and no replay run goes on there, or `DRAIN_TO`
(10 µs units, 7,812.5 core cycles each) has passed. -/
def State.drained (s : State) (l : LoadX) : Bool :=
  ((groupChans l.shown).all fun c => (s.chanOf c).ing.isEmpty) && ((groupLanes l.shown).all fun n => (s.claneOf n).run.isNone) ||
    decide (15625 * s.fld HRN_LOAD_CTRL.DRAIN_TO 0 ≤ 2 * (s.cycle - l.drainAt))

/-- DRAIN_END (R288 step 2). -/
def execDrainEnd (s : State) : Res :=
  match s.hrn.load with
  | some l => .next (if l.stage = 2 ∧ s.drained l then s.stageLoad l 3 else s)
  | none => .next s

/-- QUIESCE (R288 step 3). -/
def execQuiesce (s : State) : Res :=
  match s.hrn.load with
  | some l => .next (if l.stage = 3 ∧ l.cmd ≠ 0 then s.quiesceNow l else s)
  | none => .next s

/-- REOPEN (R291): the rebuild is over, its synthesisers are locked and the controllers run (R290, R293). -/
def execReopen (s : State) : Res :=
  match s.hrn.load with
  | some l =>
    .next (if (l.stage = 4 ∨ l.stage = 5) ∧ !s.headless ∧ s.synthsLocked l.target l.shown then s.reopenLoad l else s)
  | none => .next s

/-- REBUILD_PLL_TIMEOUT (R290); the limit does not run while REFCLK is missing (R293). -/
def execRebuildPllTimeout (s : State) : Res :=
  match s.hrn.load with
  | some l =>
    .next (if (l.stage = 4 ∨ l.stage = 5) ∧ !s.headless ∧ s.clocksPresent ∧ !s.synthsLocked l.target l.shown then s.rebuildTimeout l
      else s)
  | none => .next s

end Sys2Proof.Machine
end

