-- ==== Sys2Proof/Machine/Security.lean ====
section
/-! DEFINITION. Owner keys, the firmware chain, floors, debug tokens and the JTAG port (chapter 11). -/
namespace Sys2Proof.Machine

/-- Security results, Table 11-9. -/
abbrev Sec.OK : Nat := 0x0
abbrev Sec.SIGNATURE : Nat := 0x1
abbrev Sec.KEY : Nat := 0x2
abbrev Sec.EXPIRED : Nat := 0x3
abbrev Sec.LOCKOUT : Nat := 0x4
abbrev Sec.LENGTH : Nat := 0x5
abbrev Sec.BUSY : Nat := 0x6
abbrev Sec.FORMAT : Nat := 0x7
abbrev Sec.ROLLBACK : Nat := 0x8
abbrev Sec.REFUSED : Nat := 0x9
abbrev Sec.LOCKED : Nat := 0xA
abbrev Sec.FULL : Nat := 0xB
abbrev Sec.HASH : Nat := 0xC

/-- Kinds of a SEC_EVENT record (Table 15-2). -/
abbrev SecEvt.ENROL : Nat := 0
abbrev SecEvt.REVOKE : Nat := 1
abbrev SecEvt.TOKEN : Nat := 2
abbrev SecEvt.LOCKOUT : Nat := 3
abbrev SecEvt.FLOOR : Nat := 4
abbrev SecEvt.BOOT_SLOT : Nat := 5

/-- A SEC_EVENT record. -/
def State.logSec (s : State) (kind keyId detail : Nat) : State := s.log Evt.SEC_EVENT Subj.DEVICE 0 [kind, keyId, detail]

/-! ### Measurements (R340) -/

/-- Measurements 5 and 7 follow the fuses and the status (Table 11-6; log entry 57). -/
def State.measureSec (s : State) : State :=
  let status := leBytes 4 (s.reg .SEC_STATUS 0).toNat
  let slots := slots12.flatMap fun k => leBytes 8 (s.reg .SEC_KEY_SLOT k).toNat
  let s := s.setMeas 5 (sha512 (status ++ slots ++ [BitVec.ofNat 8 (s.fld SEC_DBG_STATUS.PERMS 0)]))
  s.setMeas 7 (sha512 (slots12.flatMap fun k =>
    if s.flag SEC_KEY_SLOT.ENROLLED k then leBytes 4 (s.fld SEC_KEY_SLOT.KEY_ID k) ++ s.slotKey k ++ [0] else List.replicate 72 0))

/-- `UNOWNED` follows the enrolled keys; then the measurements. -/
def State.showOwner (s : State) : State := (s.setFlag SEC_STATUS.UNOWNED 0 (!s.adminEnrolled)).measureSec

/-! ### Nonce, enrolment, revocation (R323, R324) -/

/-- `SEC_KEY_STATUS.RESULT`. -/
def State.keyResult (s : State) (r : Nat) : State := s.setFld SEC_KEY_STATUS.RESULT 0 r

/-- The nonce is valid, or no longer. -/
def State.nonceValid (s : State) (b : Bool) : State :=
  (s.setFlag SEC_KEY_STATUS.NONCE_VALID 0 b).setFlag SEC_DBG_STATUS.NONCE_VALID 0 b

/-- A nonce made at core cycle `c` is still valid: it lives 60 s (R307, R324). -/
def State.nonceFresh (s : State) (c : Nat) : Bool := decide (s.cycle < c + cyclesOfUs 60000000)

/-- A fresh nonce; what was streamed is emptied. -/
def State.newSecNonce (s : State) : State :=
  let (v, s) := s.fresh
  let s := (s.setFld SEC_NONCE.NONCE 0 (v.toNat % 2 ^ 256)).nonceValid true
  s.modSec fun x => { x with keyData := [], dbgData := [], nonceAt := s.cycle }

/-- The bytes of `SEC_UID` and of the nonce, byte 0 first. -/
def State.uidBytes (s : State) : List Byte := leBytes 16 (s.fld SEC_UID.UID 0)
def State.nonceBytes (s : State) : List Byte := leBytes 32 (s.fld SEC_NONCE.NONCE 0)

/-- An owner key may bear the identifier (Table 11-1). -/
def State.keyIdFree (s : State) (id : Nat) : Bool :=
  decide (id ≠ 0) && decide (id / 256 ≠ 0x5A0000) && slots12.all fun k => !s.flag SEC_KEY_SLOT.ENROLLED k || decide (s.fld SEC_KEY_SLOT.KEY_ID k ≠ id)

/-- The public key that must sign an enrolment: P0 while the device is unowned, else an ADMIN key. -/
def State.enrolSigner (s : State) (id : Nat) : Option (List Byte) :=
  if s.adminEnrolled then s.ownerPub id Kind.ADMIN else if id = Key.P0 then some (Config.romKey Key.P0) else none

/-- The lowest slot without a key. -/
def State.freeSlot (s : State) : Option Nat := slots12.find? fun k => !s.flag SEC_KEY_SLOT.ENROLLED k

/-- What the checks of R323 say of an enrolment record (log entry 55). -/
def State.enrolCheck (s : State) (d : List Byte) : Nat :=
  let sig := slice d 132 sigLen
  if !s.flag SEC_KEY_STATUS.NONCE_VALID 0 || !s.nonceFresh s.sec.nonceAt then Sec.EXPIRED
  else if d.length ≠ 276 then Sec.LENGTH
  else if slice d 0 4 ≠ magicNZ 0x4B 0x45 ∨ fieldAt d 4 2 ≠ 1 ∨ fieldAt d 6 2 ≠ 0 ∨ byteAt d 60 = 0 ∨ 3 < byteAt d 60 ∨
      !allZero (slice d 61 3) ∨ byteAt d 131 ≠ 0 ∨ !sigMagicOk sig ∨ !sigZeroOk sig then Sec.FORMAT
  else match s.enrolSigner (sigKey sig) with
    | none => Sec.KEY
    | some key =>
      if !sigVerifies key (slice d 0 132) sig then Sec.SIGNATURE
      else if slice d 8 16 ≠ s.uidBytes then Sec.REFUSED
      else if slice d 24 32 ≠ s.nonceBytes then Sec.EXPIRED
      else if !s.keyIdFree (fieldAt d 56 4) then Sec.KEY
      else if !Config.onCurve (slice d 64 67) then Sec.FORMAT
      else if s.freeSlot.isNone then Sec.FULL
      else Sec.OK

/-- ENROL: any outcome consumes the nonce; a record that passes starts the fusing of the lowest free slot. -/
def State.enrol (s : State) : State :=
  if s.sec.fuse.isSome then s.keyResult Sec.BUSY
  else
    let d := s.sec.keyData
    let r := s.enrolCheck d
    let slot := s.freeSlot.getD 0
    let s := s.nonceValid false
    if r = Sec.OK then s.modSec fun x => { x with fuse := some (slot, fieldAt d 56 4, byteAt d 60, slice d 64 67) } else s.keyResult r

/-- The slot of the key that holds the ADMIN role on a path. -/
def State.pathKey (s : State) : Path → Option Nat
  | .bus => s.mgt.busKey
  | .session k => (Tab.get (fun _ => {}) s.mgt.sess k).admin
  | _ => none

/-- Revoking slot `k` would leave no unrevoked ADMIN key. -/
def State.lastAdmin (s : State) (k : Nat) : Bool := (slots12.filter fun j => s.keyInForce j Kind.ADMIN) = [k]

/-- REVOKE: the fuse of a slot, or of F0, is to be blown, unless refused. -/
def State.revoke (s : State) (p : Path) (slot : Nat) : State :=
  if s.sec.fuse.isSome then s.keyResult Sec.BUSY
  else if slot = 15 then
    if s.flag SEC_STATUS.F0_REVOKED 0 then s.keyResult Sec.KEY
    else if s.sec.fwKey = Key.F0 then s.keyResult Sec.REFUSED
    else s.modSec fun x => { x with fuse := some (15, Key.F0, 0, []) }
  else if 12 ≤ slot ∨ !s.flag SEC_KEY_SLOT.ENROLLED slot ∨ s.flag SEC_KEY_SLOT.REVOKED slot then s.keyResult Sec.KEY
  else if s.lastAdmin slot ∨ s.pathKey p = some slot then s.keyResult Sec.REFUSED
  else s.modSec fun x => { x with fuse := some (12, slot, 0, []) }

/-- The fuse being blown reads blown: a slot holds its key, a slot or F0 is revoked. -/
def State.blowFuse (s : State) (f : Nat × Nat × Nat × List Byte) : State :=
  let (slot, id, kind, pub) := f
  if slot = 15 then (s.setFlag SEC_STATUS.F0_REVOKED 0 true).logSec SecEvt.REVOKE Key.F0 15
  else if slot = 12 then (s.setFlag SEC_KEY_SLOT.REVOKED id true).logSec SecEvt.REVOKE (s.fld SEC_KEY_SLOT.KEY_ID id) id
  else
    let s := (s.setFld SEC_KEY_SLOT.KEY_ID slot id).setFld SEC_KEY_SLOT.KIND slot kind
    let s := (s.setFlag SEC_KEY_SLOT.ENROLLED slot true).modSec fun x => { x with keys := Tab.set natLt (fun _ => []) x.keys slot pub }
    s.logSec SecEvt.ENROL id slot

/-- A fuse cut short by a loss of power or a reset reads blown or unblown as a whole, and a half-enrolled slot reads as revoked: which,
the spec leaves open (Table 11-7). -/
def State.cutFuse (s : State) : State :=
  match s.sec.fuse with
  | none => s
  | some f =>
    let (v, s) := s.fresh
    let s := s.modSec fun x => { x with fuse := none }
    let s := if v.toNat % 3 = 0 then s else s.blowFuse f
    let s := if v.toNat % 3 = 2 ∧ f.1 < 12 then s.setFlag SEC_KEY_SLOT.REVOKED f.1 true else s
    s.setFlag SEC_STATUS.UNOWNED 0 (!s.adminEnrolled)

/-- A command of `SEC_KEY_CTRL`; REVOKE needs ADMIN. -/
def wrSecKeyCtrl (p : Path) (v : Nat) (s : State) : State × WStatus :=
  let cmd := fieldOf v SEC_KEY_CTRL.CMD
  if cmd = 1 then ((s.newSecNonce).keyResult Sec.OK, .ok)
  else if cmd = 2 then (s.enrol, .ok)
  else if cmd = 3 then
    if s.role p < Role.ADMIN then (s.accessViolation p .SEC_KEY_CTRL 0 v, .denied) else (s.revoke p (fieldOf v SEC_KEY_CTRL.SLOT), .ok)
  else rejectWrite p .SEC_KEY_CTRL 0 v s

/-- Four bytes of an enrolment record; bytes beyond 276 are dropped. -/
def wrSecKeyData (v : Nat) (s : State) : State × WStatus :=
  (s.modSec fun x => { x with keyData := (x.keyData ++ leBytes 4 v).take 276 }, .ok)

/-! ### Floors (R333) -/

/-- `SVN` of the firmware that runs. -/
def State.fwSvn (s : State) : Nat := fieldAt s.sec.fwHeader 12 4

/-- A write to `SEC_ROLLBACK_CTRL`: the floor rises to `TARGET`, or the raise is refused. -/
def wrRollback (p : Path) (v : Nat) (s : State) : State × WStatus :=
  let cmd := fieldOf v SEC_ROLLBACK_CTRL.CMD
  let t := fieldOf v SEC_ROLLBACK_CTRL.TARGET
  let raise := fun (f : Field) (ok : Bool) (detail : Nat) =>
    if ok && decide (s.fld f 0 ≤ t) then (((s.setFld f 0 t).keyResult Sec.OK).logSec SecEvt.FLOOR 0 detail).measureSec
    else s.keyResult Sec.REFUSED
  if t = 0 ∨ 64 < t ∨ cmd = 0 ∨ 2 < cmd then rejectWrite p .SEC_ROLLBACK_CTRL 0 v s
  else if cmd = 1 then (raise SEC_STATUS.FW_FLOOR (decide (t ≤ s.fwSvn) && !s.flag SEC_STATUS.TRIAL 0) t, .ok)
  else (raise SEC_STATUS.HRN_FLOOR (!s.hrn.header.isEmpty && decide (t ≤ imgSvn s.hrn.header)) (256 + t), .ok)

/-! ### Firmware images and the boot record (R328, R329) -/

/-- Firmware slots; the copies of the boot record. -/
def fwSlot (k : Nat) : Nat := if k = 0 then 0x00000000 else 0x00400000
def fwSlotEnd (k : Nat) : Nat := if k = 0 then 0x00400000 else 0x00780000
def bootRecAt (c : Nat) : Nat := 0x00780000 + 0x1000 * c

/-- Largest firmware body and image. -/
abbrev fwBodyMax : Nat := 786432
abbrev fwImageMax : Nat := 786832

/-- A public firmware key by its identifier. -/
def State.fwPub (s : State) (id : Nat) : Option (List Byte) :=
  if (id = Key.F0 ∧ !s.flag SEC_STATUS.F0_REVOKED 0) ∨ id = Key.F1 then some (Config.romKey id) else none

/-- What the checks of R329 say of a firmware image, in the order of Table 9-4. -/
def State.fwCheck (s : State) (i : List Byte) : Nat :=
  let len := fieldAt i 20 4
  let sig := slice i (256 + len) sigLen
  if i.length < 400 ∨ len % 8 ≠ 0 ∨ fwBodyMax < len ∨ i.length ≠ 400 + len then Sec.LENGTH
  else if slice i 0 4 ≠ magicNZ 0x46 0x57 ∨ !sigMagicOk sig ∨ fieldAt i 4 2 ≠ 1 ∨ fieldAt i 6 2 ≠ 0x100 ∨ !allZero (slice i 28 36) ∨
      !allZero (slice i 128 128) ∨ !sigZeroOk sig ∨ fieldAt i 8 4 ≠ (s.reg .GLB_PARAM 0).toNat then Sec.FORMAT
  else match s.fwPub (sigKey sig) with
    | none => Sec.KEY
    | some key =>
      if !sigVerifies key (slice i 0 256) sig then Sec.SIGNATURE
      else if sha512 (slice i 256 len) ≠ slice i 64 64 then Sec.HASH
      else if fieldAt i 12 4 < s.fld SEC_STATUS.FW_FLOOR 0 then Sec.ROLLBACK
      else Sec.OK

/-- The image in a firmware slot. -/
def State.fwImage (s : State) (k : Nat) : List Byte :=
  s.flashBytes (fwSlot k) (min fwImageMax (400 + leValue (s.flashBytes (fwSlot k + 20) 4)))

/-- `KEY_ID` of a firmware image. -/
def fwKeyId (i : List Byte) : Nat := sigKey (slice i (256 + fieldAt i 20 4) sigLen)

/-- A boot record: sequence number, `ACTIVE`, `TRIAL`. -/
structure BootRec where
  seq : Nat := 0
  active : Nat := 0
  trial : Bool := false
  deriving DecidableEq, Repr

/-- A copy of the boot record, where its check is valid (log entry 56). -/
def State.bootCopy (s : State) (c : Nat) : Option BootRec :=
  let b := s.flashBytes (bootRecAt c) 18
  if slice b 0 4 = magicNZ 0x42 0x53 ∧ slice b 10 8 = (sha512 (slice b 0 10)).take 8 ∧ byteAt b 8 ≤ 1 ∧ byteAt b 9 ≤ 1 then
    some { seq := fieldAt b 4 4, active := byteAt b 8, trial := decide (byteAt b 9 = 1) }
  else none

/-- The boot record in force: the valid copy with the higher sequence number; with none, slot A and no trial (log entry 56). -/
def State.bootRec (s : State) : BootRec :=
  match s.bootCopy 0, s.bootCopy 1 with
  | some a, some b => if a.seq < b.seq then b else a
  | some a, none => a
  | none, some b => b
  | none, none => {}

/-- Both copies take a record. -/
def State.putBootRec (s : State) (r : BootRec) : State :=
  let b := magicNZ 0x42 0x53 ++ leBytes 4 r.seq ++ [BitVec.ofNat 8 r.active, if r.trial then 1 else 0]
  let b := b ++ (sha512 b).take 8
  (s.setFlashBytes (bootRecAt 0) b).setFlashBytes (bootRecAt 1) b

/-- Firmware runs: from slot 0 A, 1 B or 2 DOWNLOADED, in trial or not; it is measured (R327, R330). -/
def State.runFirmware (s : State) (slot : Nat) (trial : Bool) (i : List Byte) : State :=
  let s := s.modSec fun x => { x with
    fwHeader := i.take 256, fwKey := fwKeyId i, lastTrial := if trial then some slot else none, update := none, recover := false }
  let s := (s.setFld SEC_STATUS.FW_SLOT 0 slot).setFlag SEC_STATUS.TRIAL 0 trial
  let s := s.setMeas 2 (sha512 (i.take 256 ++ [BitVec.ofNat 8 slot, if trial then 1 else 0]))
  let s := (s.setFld SEC_FW_STATUS.STATE 0 0).setFld SEC_FW_SPACE.SPACE 0 0
  s.measureSec

/-- A slot is tried; a failure is recorded with its result. -/
def State.tryFirmware (s : State) (slot : Nat) (trial : Bool) : State × Bool :=
  let i := s.fwImage slot
  let r := s.fwCheck i
  if r = Sec.OK then (s.runFirmware slot trial i, true) else (s.logSec SecEvt.BOOT_SLOT (fwKeyId i) (256 * slot + r), false)

/-- The ROM selects firmware (R329); answers whether a slot passed. -/
def State.selectFirmware (s : State) : State × Bool :=
  let r := s.bootRec
  let back := r.trial && decide (s.sec.lastTrial = some r.active)
  let other := 1 - r.active
  let s := if back then s.putBootRec { seq := r.seq + 1, active := other, trial := false } else s
  let (first, second) := if back then (other, r.active) else (r.active, other)
  let (s, ok) := s.tryFirmware first (!back && r.trial)
  if ok then (s, true) else s.tryFirmware second false

/-- The ROM stays in RECOVERY and takes a download (R330). -/
def State.enterRecovery (s : State) : State :=
  let s := (s.setFld SEC_FW_STATUS.STATE 0 3).setFld GLB_STATE.BOOT 0 0
  (s.modSec fun x => { x with update := none, lastTrial := none }).alert Alert.IMAGE

/-! ### Updates and restarts (R334, R335) -/

/-- `SEC_FW_STATUS.RESULT`. -/
def State.fwResult (s : State) (r : Nat) : State := s.setFld SEC_FW_STATUS.RESULT 0 r

/-- The ROM is in RECOVERY. -/
def State.inRecovery (s : State) : Bool := decide (s.fld SEC_FW_STATUS.STATE 0 = 3)

/-- Firmware does not run: updates are refused. -/
def State.fwAway (s : State) : Bool := s.headless || decide (s.fld GLB_STATE.BOOT 0 < 5)

/-- Flash of a firmware slot is erased. -/
def State.eraseSlot (s : State) (k : Nat) : State :=
  { s with flash := s.flash.filter fun c => !(decide (fwSlot k ≤ c.1) && decide (c.1 < fwSlotEnd k)) }

/-- OPEN: in RECOVERY a download starts; otherwise the slot that is not `ACTIVE` is erased. -/
def State.fwOpen (s : State) : State :=
  let s0 := (s.setFld SEC_FW_STATUS.COUNT 0 0).setFld SEC_FW_SPACE.SPACE 0 4096
  if s.inRecovery then (s0.modSec fun x => { x with update := some { slot := 2 } }).fwResult Sec.OK
  else if s.fwAway then s.fwResult Sec.BUSY
  else if s.flag SEC_STATUS.TRIAL 0 then s.fwResult Sec.REFUSED
  else
    let k := 1 - s.bootRec.active
    let s := (s0.eraseSlot k).modSec fun x => { x with update := some { slot := k } }
    (s.setFld SEC_FW_STATUS.STATE 0 1).fwResult Sec.OK

/-- FINISH: the slot is verified from flash, and becomes `ACTIVE` in trial; in RECOVERY the download is to be judged. -/
def State.fwFinish (s : State) : State :=
  match s.sec.update with
  | none => s.fwResult (if s.fwAway && !s.inRecovery then Sec.BUSY else Sec.REFUSED)
  | some u =>
    if s.inRecovery then s.modSec fun x => { x with update := some { u with due := true } }
    else if s.fwAway then s.fwResult Sec.BUSY
    else
      let i := s.fwImage u.slot
      let r := if u.excess || decide (s.fld SEC_FW_STATUS.COUNT 0 ≠ i.length) then Sec.LENGTH else s.fwCheck i
      let s := if r = Sec.OK then s.putBootRec { seq := s.bootRec.seq + 1, active := u.slot, trial := true } else s
      let s := ((s.modSec fun x => { x with update := none }).setFld SEC_FW_STATUS.STATE 0 0).setFld SEC_FW_SPACE.SPACE 0 0
      (s.fwResult r).runDeferred

/-- The controllers are held in reset and the datapath runs headless (R26, R335); an update in progress is lost. -/
def State.restartControllers (s : State) (recover : Bool) : State :=
  let s := s.modSec fun x => { x with update := none, recover := recover }
  let s := (s.setFlag GLB_STATE.HEADLESS 0 true).setFld SEC_FW_SPACE.SPACE 0 0
  s.setFld SEC_FW_STATUS.STATE 0 0

/-- ACTIVATE and RESTART: refused during a harness load (Table 11-7). -/
def State.fwRestart (s : State) (recover : Bool) : State :=
  if s.fwAway || s.hrn.load.isSome then s.fwResult Sec.BUSY else (s.fwResult Sec.OK).restartControllers recover

/-- CONFIRM: the running firmware leaves its trial. -/
def State.fwConfirm (s : State) : State :=
  if s.fwAway then s.fwResult Sec.BUSY
  else if !s.flag SEC_STATUS.TRIAL 0 then s.fwResult Sec.REFUSED
  else
    let r := s.bootRec
    let s := s.putBootRec { seq := r.seq + 1, active := r.active, trial := false }
    let s := (s.setFlag SEC_STATUS.TRIAL 0 false).modSec fun x => { x with lastTrial := none }
    (s.fwResult Sec.OK).measureSec

/-- A write to `SEC_FW_CTRL`. -/
def wrFwCtrl (p : Path) (v : Nat) (s : State) : State × WStatus :=
  let cmd := fieldOf v SEC_FW_CTRL.CMD
  if cmd = 1 then (s.fwOpen, .ok)
  else if cmd = 2 then (s.fwFinish, .ok)
  else if cmd = 3 then (s.fwRestart false, .ok)
  else if cmd = 4 then (s.fwConfirm, .ok)
  else if cmd = 5 then (s.fwRestart (decide (fieldOf v SEC_FW_CTRL.RECOVER = 1)), .ok)
  else rejectWrite p .SEC_FW_CTRL 0 v s

/-- A write to `SEC_FW_DATA` with `space` bytes free in the update buffer: four bytes go to the slot, or to controller RAM in
RECOVERY; without space, or beyond the largest image, they are discarded. -/
def wrFwData (p : Path) (v space : Nat) (s : State) : State × WStatus :=
  match s.sec.update with
  | none => rejectWrite p .SEC_FW_DATA 0 v s
  | some u =>
    let n := s.fld SEC_FW_STATUS.COUNT 0
    if space < 4 ∨ fwImageMax < n + 4 then
      ((s.modSec fun x => { x with update := some { u with excess := true } }).setFld SEC_FW_SPACE.SPACE 0 space, .ok)
    else
      let bs := leBytes 4 v
      let s := (s.setFld SEC_FW_STATUS.COUNT 0 (n + 4)).setFld SEC_FW_SPACE.SPACE 0 (space - 4)
      if u.slot = 2 then (s.modSec fun x => { x with update := some { u with bytes := u.bytes ++ bs } }, .ok)
      else (s.setFlashBytes (fwSlot u.slot + n) bs, .ok)

/-! ### Debug tokens (R342, R343) -/

/-- `SEC_DBG_STATUS.RESULT`. -/
def State.dbgResult (s : State) (r : Nat) : State := s.setFld SEC_DBG_STATUS.RESULT 0 r

/-- What the checks say of a debug token. -/
def State.tokenCheck (s : State) (d : List Byte) : Nat :=
  let sig := slice d 64 sigLen
  if s.flag SEC_STATUS.JTAG_LOCK 0 then Sec.LOCKED
  else if !s.flag SEC_DBG_STATUS.NONCE_VALID 0 || !s.nonceFresh s.sec.nonceAt then Sec.EXPIRED
  else if d.length ≠ 208 then Sec.LENGTH
  else if slice d 0 4 ≠ magicNZ 0x44 0x54 ∨ fieldAt d 4 2 ≠ 1 ∨ 7 < fieldAt d 6 2 ∨ !allZero (slice d 56 8) ∨ !sigMagicOk sig ∨
      !sigZeroOk sig then Sec.FORMAT
  else match s.ownerPub (sigKey sig) Kind.ADMIN with
    | none => Sec.KEY
    | some key =>
      if !sigVerifies key (slice d 0 64) sig then Sec.SIGNATURE
      else if slice d 8 16 ≠ s.uidBytes then Sec.REFUSED
      else if slice d 24 32 ≠ s.nonceBytes then Sec.EXPIRED
      else Sec.OK

/-- SUBMIT: a token that passes erases the keys first, and only then grants its permissions (R343). -/
def State.submitToken (s : State) : State :=
  let d := s.sec.dbgData
  let r := s.tokenCheck d
  let s := (s.nonceValid false).dbgResult r
  if r ≠ Sec.OK then s
  else
    let perms := fieldAt d 6 2
    let s := if 2 ≤ perms then s.eraseAll else s.eraseKeys
    let s := (s.setFlag GLB_STATE.DEBUG 0 true).alert Alert.SECURITY
    let s := s.setFld SEC_DBG_STATUS.PERMS 0 (s.fld SEC_DBG_STATUS.PERMS 0 ||| perms)
    (s.logSec SecEvt.TOKEN (sigKey (slice d 64 sigLen)) perms).measureSec

/-- A write to `SEC_DBG_CTRL`. -/
def wrDbgCtrl (p : Path) (v : Nat) (s : State) : State × WStatus :=
  let cmd := fieldOf v SEC_DBG_CTRL.CMD
  if cmd = 1 then ((s.newSecNonce).dbgResult Sec.OK, .ok)
  else if cmd = 2 then (s.submitToken, .ok)
  else rejectWrite p .SEC_DBG_CTRL 0 v s

/-- Four bytes of a token; bytes beyond 208 are dropped. -/
def wrDbgData (v : Nat) (s : State) : State × WStatus :=
  (s.modSec fun x => { x with dbgData := (x.dbgData ++ leBytes 4 v).take 208 }, .ok)

/-! ### Commands -/

/-- A command of `SEC_KEY_CTRL`, of `SEC_FW_CTRL`. -/
def keyRow (p : Path) (cmd slot : Nat) (s : State) : Res :=
  let v := cmd * 2 ^ 28 + slot
  writeCommand p .SEC_KEY_CTRL 0 v (wrSecKeyCtrl p v) s
def fwRow (p : Path) (cmd : Nat) (recover : Bool) (s : State) : Res :=
  let v := cmd * 2 ^ 28 + if recover then 1 else 0
  writeCommand p .SEC_FW_CTRL 0 v (wrFwCtrl p v) s

/-- SEC_NONCE (R324). -/
def execSecNonce (p : Path) (s : State) : Res := keyRow p 1 0 s

/-- ENROL (R323). -/
def execEnrol (p : Path) (s : State) : Res := keyRow p 2 0 s

/-- REVOKE (R324). -/
def execRevoke (p : Path) (slot : Fin 16) (s : State) : Res := keyRow p 3 slot s

/-- FUSE_DONE (R323): the fuse reads blown; what waited for the end of a fuse write runs (R356). -/
def execFuseDone (s : State) : Res :=
  match s.sec.fuse with
  | none => .next s
  | some f =>
    let s := (s.modSec fun x => { x with fuse := none }).blowFuse f
    .next ((s.showOwner).keyResult Sec.OK).runDeferred

/-- DBG_NONCE (R342). -/
def execDbgNonce (p : Path) (s : State) : Res :=
  writeCommand p .SEC_DBG_CTRL 0 (2 ^ 28) (wrDbgCtrl p (2 ^ 28)) s

/-- SUBMIT (R343). -/
def execSubmit (p : Path) (s : State) : Res :=
  writeCommand p .SEC_DBG_CTRL 0 (2 * 2 ^ 28) (wrDbgCtrl p (2 * 2 ^ 28)) s

/-- RAISE_FW (R333). -/
def execRaiseFw (p : Path) (target : BitVec 7) (s : State) : Res :=
  let v := 2 ^ 28 + target.toNat
  writeCommand p .SEC_ROLLBACK_CTRL 0 v (wrRollback p v) s

/-- RAISE_HRN (R333). -/
def execRaiseHrn (p : Path) (target : BitVec 7) (s : State) : Res :=
  let v := 2 * 2 ^ 28 + target.toNat
  writeCommand p .SEC_ROLLBACK_CTRL 0 v (wrRollback p v) s

/-- FW_OPEN (R334). -/
def execFwOpen (p : Path) (s : State) : Res := fwRow p 1 false s

/-- FW_DATA_WRITE (R334): `space` is the free space of the update buffer as the write arrives. -/
def execFwDataWrite (p : Path) (value : Word32) (space : BitVec 13) (s : State) : Res :=
  writeCommand p .SEC_FW_DATA 0 value.toNat (wrFwData p value.toNat (min space.toNat 4096)) s

/-- FW_FINISH (R334). -/
def execFwFinish (p : Path) (s : State) : Res := fwRow p 2 false s

/-- ACTIVATE (R335). -/
def execActivate (p : Path) (s : State) : Res := fwRow p 3 false s

/-- CONFIRM (R334). -/
def execConfirm (p : Path) (s : State) : Res := fwRow p 4 false s

/-- RESTART (R335). -/
def execRestart (p : Path) (recover : Bool) (s : State) : Res := fwRow p 5 recover s

/-! ### JTAG (R341) -/

/-- The port answers while the device is awake (Table 12-3). -/
def jtagRow (f : JtagX → JtagX) (s : State) : Res := .next (if s.pwr.sleep ≠ 0 then s else { s with jtag := f s.jtag })

/-- BYPASS (R341): the one bit of the bypass register. -/
def execBypass (s : State) : Res := jtagRow (fun x => { x with ir := .bypass, captured := 0 }) s

/-- IDCODE (R341). -/
def execIdcode (s : State) : Res := jtagRow (fun x => { x with ir := .idcode, captured := 0x164165AB }) s

/-- SAMPLE_PRELOAD (R341): the boundary cells sample the pins, levels the model leaves free, and take what is shifted in. -/
def execSamplePreload (cells : List Bool) (s : State) : Res :=
  let (v, s) := s.fresh
  jtagRow (fun _ => { ir := .sample, captured := v.toNat, cells := cells }) s

/-- EXTEST (R341): the boundary cells take the pins from the device's logic for as long as it is in force. -/
def execExtest (s : State) : Res := jtagRow (fun x => { x with ir := .extest }) s

/-- PRIVATE_INSTRUCTION (R341) under permission bit `perm`: refused with the fuse blown, or without the permission. -/
def execPrivateInstruction (perm : Fin 3) (s : State) : Res :=
  if s.pwr.sleep ≠ 0 ∨ s.flag SEC_STATUS.JTAG_LOCK 0 ∨ !(s.fld SEC_DBG_STATUS.PERMS 0).testBit perm then .next s
  else .refused .jtagDebugUnit

end Sys2Proof.Machine
end

