-- ==== Sys2Proof/Machine/Boot.lean ====
section
/-! DEFINITION. Boot after a reset (R349), the BIST of a boot and of a shut-down (R436 to R443), the resets (R348, R349). -/
namespace Sys2Proof.Machine

/-! ### Fences and the BIST record (R440 to R443) -/

/-- The fences a BIST found in a group: masks of slices, units, decoders; the whole group. -/
abbrev Fences := Nat × Nat × Nat × Bool

/-- Group `g` takes its fences afresh. -/
def State.setFences (s : State) (g : Nat) (f : Fences) : State :=
  let s := s.each (List.range 13) fun k s =>
    if f.1.testBit k then s.setSlice g k Slice.FENCED else if s.sliceState g k = Slice.FENCED then s.setSlice g k Slice.FREE else s
  let s := s.each [0, 1] fun u s =>
    if f.2.1.testBit u then s.setFld (unitField u) g Slice.FENCED
    else if s.unitState g u = Slice.FENCED then s.setFld (unitField u) g Slice.FREE else s
  let s := s.each (List.range 7) fun d s =>
    if f.2.2.1.testBit d then s.setDec g d Decoder.FENCED else if s.decState g d = Decoder.FENCED then s.setDec g d Decoder.SPARE else s
  s.modGrp g fun x => { x with fenced := f.2.2.2 }

/-- The fences of a BIST by group. -/
def fencesOf (fs : List (Nat × Fences)) (g : Nat) : Fences := Tab.get (fun _ => (0, 0, 0, false)) fs g

/-- Every group takes its fences. -/
def State.applyFences (s : State) (f : Nat → Fences) : State := (s.each groups8 fun g s => s.setFences g (f g)).showFences

/-- First byte of the BIST record in flash. -/
abbrev bistRecordAt : Nat := 0x00C20000

/-- The record of the BIST just completed (Table 16-3). -/
def State.bistRecord (s : State) (fs : List (Nat × Fences)) : List Byte :=
  let part := fun p => [BitVec.ofNat 8 (s.fld BST_PART.RESULT p), 0, 0, 0] ++ leBytes 4 (s.fld BST_PART.PATTERNS p) ++
    leBytes 4 (s.fld BST_PART.SIGNATURE p) ++ List.replicate 4 0
  let fence := fun g =>
    let f := fencesOf fs g
    leBytes 2 f.1 ++ [BitVec.ofNat 8 f.2.1, BitVec.ofNat 8 f.2.2.1, if f.2.2.2 then 1 else 0, 0, 0, 0]
  let b := magicNZ 0x42 0x52 ++ leBytes 2 1 ++ [0xFF, 0] ++ s.uidBytes ++ leBytes 4 (s.reg .GLB_PARAM 0).toNat ++ List.replicate 4 0 ++
    leBytes 12 s.now.toNat ++ List.replicate 4 0 ++ (List.range 16).flatMap part ++ groups8.flatMap fence ++ List.replicate 80 0
  b ++ sha512 b

/-- The record in flash is valid (R441). -/
def State.bistRecordOk (s : State) : Bool :=
  let b := s.flashBytes bistRecordAt 512
  decide (slice b 0 4 = magicNZ 0x42 0x52) && decide (fieldAt b 4 2 = 1) && decide (byteAt b 6 = 0xFF) && decide (slice b 8 16 = s.uidBytes) &&
  decide (fieldAt b 24 4 = (s.reg .GLB_PARAM 0).toNat) && decide (slice b 448 64 = sha512 (slice b 0 448))

/-- A result that fails its resource (Table 16-1). -/
def testFails (r : Nat) : Bool := decide (Test.FAIL ≤ r ∧ r ≤ Test.TIMEOUT)

/-- Partition `p` has failed: its bit, the outcome (log entry 61), the class and the record (R442). -/
def State.failPart (s : State) (p : Nat) : State :=
  let s := s.setFld BST_RESULT.FAIL_MASK 0 (s.fld BST_RESULT.FAIL_MASK 0 ||| 2 ^ p)
  let s := s.setFld BST_RESULT.OUTCOME 0 (if 8 ≤ p then 2 else max 1 (s.fld BST_RESULT.OUTCOME 0))
  let word := [(s.reg .BST_RESULT 0).toNat % 2 ^ 32]
  if p < 8 then (s.log Evt.BST_RESULT Subj.GROUP p word).alert Alert.LANE else (s.log Evt.BST_RESULT Subj.DEVICE 0 word).alert Alert.IMAGE

/-- A boot uses the record: `CONSUMED` is programmed first, then its results and fences are taken (R441). -/
def State.useBistRecord (s : State) : State :=
  let b := s.flashBytes bistRecordAt 512
  let s := s.setFlashBytes (bistRecordAt + 6) [0]
  let s := s.setFld BST_RESULT.RUN 0 2
  let s := s.each (List.range 16) fun p s =>
    let k := 48 + 16 * p
    let s := (s.setFld BST_PART.RESULT p (byteAt b k)).setFld BST_PART.PATTERNS p (fieldAt b (k + 4) 4)
    s.setFld BST_PART.SIGNATURE p (fieldAt b (k + 8) 4)
  let s := s.applyFences fun g =>
    let k := 304 + 8 * g
    (fieldAt b k 2, byteAt b (k + 2), byteAt b (k + 3), decide (byteAt b (k + 4) = 1))
  s.each ((List.range 16).filter fun p => testFails (byteAt b (48 + 16 * p))) fun p s => s.failPart p

/-! ### The steps of a boot (R349) -/

/-- `GLB_STATE.BOOT`. -/
def State.bootStep (s : State) (k : Nat) : State := s.setFld GLB_STATE.BOOT 0 k

/-- The recovery port: H0 in standard mode as one 200GBASE-R port that carries Causeway (R330). -/
def State.recoveryPort (s : State) : State :=
  let s := (s.setFld HSI_CFG.SVC 0 Svc.ETHERNET).setFlag HSI_CFG.IN_USE 0 true
  let s := ((s.setFlag HPM_PORT_CFG.VALID 0 true).setFld HPM_PORT_CFG.RATE 0 1).setFld HPM_PORT_CFG.FLAGS 0 1
  let s := (s.setFlag HSI_CTRL.RX_EN 0 true).setFlag HSI_CTRL.TX_EN 0 true
  ((s.tuneHost 0).enableHrx 0).enableHtx 0

/-- The device ends its boot without an image (R285). -/
def State.noImage (s : State) : State :=
  let s := if s.pwr.toActive && !s.activeRefused then (s.setFld PWR_STATE.STATE 0 0).setFld GLB_STATE.PWR 0 0
    else (s.setFld PWR_STATE.STATE 0 1).setFld GLB_STATE.PWR 0 1
  ((s.bootStep 6).setFld HRN_STATUS.STATE 0 6).alert Alert.IMAGE

/-- The image of a boot is in force: the groups open, or the image is held and the boot ends in STANDBY, where low power is requested,
`WAKE_TO` names STANDBY, or a return to ACTIVE is refused (R349, R358, Table 16-2). -/
def State.bootFinish (s : State) (l : LoadX) : State :=
  let s := { s with cfg := l.new }
  let s := s.setFlag PWR_STATE.LP_REQ 0 s.lpWanted
  let hold := !s.pwr.toActive || s.activeRefused
  let s := s.accept l.image l.new
  let s := s.loadDevice []
  let init := imageInit [] l.new true
  let s :=
    if hold then
      let s := ((s.setFld PWR_STATE.STATE 0 1).setFld GLB_STATE.PWR 0 1).each groups8 fun g s => (s.goGroup g Group.NONE).showModes g
      (s.regInit init).1
    else
      let s := (s.setFld PWR_STATE.STATE 0 0).setFld GLB_STATE.PWR 0 0
      (s.reopenGroups groups8 [] init).idleOff
  (s.bootStep 5).endLoad l Load.OK 0xFFFF

/-- HARNESS: slot `k` is loaded; an image that fails a check is recorded, and slot B follows slot A (R284). -/
def State.trySlot (s : State) (k : Nat) : State × Bool :=
  let s := s.setStaging (s.slotImage k)
  let image := s.hrn.staging
  let s := s.setFld HRN_STATUS.KIND 0 (imgKind image)
  let (result, detail, new) := s.verdict false true image
  if result ≠ Load.OK then (s.hrnResult result detail image, false)
  else
    let l : LoadX := { cmd := 0, image := image, stage := 1, mask := 0xFF, full := true, new := new, old := [], slot := k }
    let c := { s with cfg := new }
    if !s.pwr.toActive || c.lpWanted || s.activeRefused || s.synthsLocked new groups8 then (s.bootFinish l, true)
    else
      let s := (s.askSynths new groups8).setFld HRN_STATUS.STATE 0 3
      (s.modHrn fun x => { x with load := some l }, true)

/-- HARNESS from slot `k` on; with none left the device has no image (R285). -/
def State.bootHarnessFrom (s : State) (k : Nat) : State :=
  let s := (s.bootStep 4).setFld HRN_STATUS.STATE 0 2
  if s.partFailed 14 then s.noImage
  else if k = 0 then
    let (s, ok) := s.trySlot 0
    if ok then s else
      let (s, ok) := s.trySlot 1
      if ok then s else s.noImage
  else if k = 1 then
    let (s, ok) := s.trySlot 1
    if ok then s else s.noImage
  else s.noImage

/-- The identity (R325 to R327): `puf` tells whether the seed is reconstructed, `certOk` whether the device certificate holds the
derived key. -/
def State.identity (s : State) (puf certOk : Bool) : State :=
  let s := s.modSec fun x => { x with pwd := some x.sealed }
  let s :=
    if s.partFailed 15 || !puf then
      ((s.setFld SEC_STATUS.ID_STATE 0 1).modSec fun x => { x with seed := false, dev := false, ak := false }).alert Alert.SECURITY
    else (s.setFld SEC_STATUS.ID_STATE 0 (if certOk then 0 else 2)).modSec fun x => { x with seed := true, dev := certOk, ak := true }
  let s := (s.setFld SEC_MEAS.DIGEST 0 Config.romDigest.toNat).setMeas 6 (sha512 (s.flashBytes 0x00C00000 256))
  (s.setFlag SEC_STATUS.UNOWNED 0 (!s.adminEnrolled)).measureSec

/-- What follows the BIST step. -/
def State.afterBist (s : State) (puf certOk : Bool) : State := (s.identity puf certOk).bootHarnessFrom 0

/-- MEM_INIT and what follows firmware's start (R399): every store is filled and armed, but the restored part of the event store and AO
retention while it holds its contents; then the BIST record is used, or the boot BIST runs. -/
def State.bootMem (s : State) (puf certOk : Bool) : State :=
  let s := s.bootStep 2
  let s := s.each (List.range 21) fun m s =>
    if m = 19 ∧ !s.recorder.mirror.kept.isEmpty ∨ m = 19 ∧ !s.recorder.mirror.circ.isEmpty then s.setArmed 19 true
    else if m = 20 ∧ s.armed 20 then s else s.initRegion m
  let s := if s.pwr.hkaUp then (s.modPwr fun x => { x with hkaUp := false }).dacCalibrate.selfCalibrate else s
  let s := s.bootStep 3
  if s.bistRecordOk then s.useBistRecord.afterBist puf certOk else s.startBist true

/-- BOOT, R349: from the ROM step on. `puf` and `certOk` are what the ROM finds of its identity if the boot comes that far without a
BIST. After a trip it waits for T below `RESTART` (R455). -/
def execBoot (puf certOk : Bool) (s : State) : Res :=
  if s.offline ∨ s.fld GLB_STATE.BOOT 0 ≠ 0 ∨ s.headless ∨ s.inRecovery ∨
      (s.pwr.afterTrip ∧ !s.thmIs fun t => decide (t < s.thmLimit THM_LIMIT_C.RESTART)) then .next s
  else
    let s := (s.setFlag CLK_STATUS.REF_PRESENT 0 true).setFlag CLK_STATUS.CORE_LOCK 0 true
    let s := (s.modPwr fun x => { x with afterTrip := false }).initRegion 18
    let (s, ok) := s.selectFirmware
    .next (if ok then (s.bootStep 1).bootMem puf certOk else s.enterRecovery.recoveryPort)

/-! ### BIST (R437 to R443) -/

/-- The memory regions of a partition (Table 16-2). -/
def partRegions (p : Nat) : List Nat := if p < 8 then [p, 10 + p] else if p = 9 then [8] else if p = 10 then [9] else []

/-- A shut-down BIST is over: its record goes to flash and AO retention, its fences hold, and the sleep follows (R440). -/
def State.endShutdownBist (s : State) (b : BistX) : State :=
  let s := (s.setFld BST_RESULT.RUN 0 3).applyFences (fencesOf b.fences)
  let rec_ := s.bistRecord b.fences
  let s := (s.setFlashBytes bistRecordAt rec_).modPwr fun x => { x with bistCopy := rec_ }
  s.sleepNow s.pwr.goal

/-- Partition `p` has begun: 20p ms of the schedule have passed, which stands while T is at or above `WARN` (R438, R450). -/
def State.partBegun (s : State) (b : BistX) (p : Nat) : Bool := match b.heldAt with
  | none => decide (b.at_ + 15625000 * p ≤ s.cycle)
  | some c => decide (b.at_ + 15625000 * p < c)

/-- BIST_PARTITION_DONE, R438: partition `p` ends its tests with completion flag, pattern count, whether the count is the one
expected, signature, whether it is the one expected; what the test attributes a failure of a group to: slices, MLSE units, decoders,
anything else. -/
def execBistPartitionDone (p : Fin 16) (complete : Bool) (patterns : BitVec 28) (countOk : Bool) (signature : Word32) (sigOk : Bool)
    (slices : BitVec 13) (units : BitVec 2) (decs : BitVec 7) (other : Bool) (s : State) : Res :=
  match s.pwr.bist with
  | none => .next s
  | some b =>
    if b.done.testBit p ∨ !s.partBegun b p ∨ (s.fld THM_STATUS.STATE 0 = ThmState.STOPPED ∧ !s.belowRestart) then .next s
    else
      let r := testResult complete patterns.toNat (if countOk then patterns.toNat else patterns.toNat + 1) sigOk
      let s := (s.setFld BST_PART.RESULT p r).setFld BST_PART.PATTERNS p patterns.toNat
      let s := s.setFld BST_PART.SIGNATURE p signature.toNat
      let whole := other || decide (slices = 0 ∧ units = 0 ∧ decs = 0)
      let f : Fences := if whole then (0, 0, 0, true) else (slices.toNat, units.toNat, decs.toNat, false)
      let fails := testFails r
      let b := { b with
        done := b.done + 2 ^ p.val
        fences := if fails && decide (p.val < 8) then b.fences ++ [(p.val, f)] else b.fences }
      let s := s.modPwr fun x => { x with bist := some b }
      let s := s.each (partRegions p) fun m s => if b.boot then s.initRegion m else s.loseRegion m
      let s := if fails then s.failPart p else s
      .next (if b.done = 0xFFFF ∧ !b.boot then s.endShutdownBist b else s)

/-- BOOT_BIST_DONE, R441: every partition is done; the fences hold and the boot goes on. -/
def execBootBistDone (puf certOk : Bool) (s : State) : Res :=
  match s.pwr.bist with
  | none => .next s
  | some b =>
    if b.boot ∧ b.done = 0xFFFF ∧ s.fld GLB_STATE.BOOT 0 = 3 then
      let s := (s.setFld BST_RESULT.RUN 0 1).applyFences (fencesOf b.fences)
      .next ((s.modPwr fun x => { x with bist := none }).afterBist puf certOk)
    else .next s

/-! ### Resets (R243, R348, R349) -/

/-- The static address (R295). -/
def State.sampleAddr (s : State) (addrSel : Nat) : State := s.setFld MGT_BUS_STATUS.STATIC_ADDR 0 (0x50 + addrSel)

/-- POWER_ON, R348: AO power was lost; `addrSel` is what the address pins read. -/
def execPowerOn (addrSel : Fin 4) (s : State) : Res :=
  let s := s.cutFuse
  let t := { s.reborn fuseRegs with pwr := {} }
  let t := ((t.modPwr fun x => { x with cause := 0 }).logBoot 0 0).sampleAddr addrSel
  .next ((t.stepTo 0 Quality.LOST 0).setFlag TMB_SLEEP_INFO.AO_LOST 0 true)

/-- A warm reset of a device that is awake. -/
def State.resetWarm (s : State) : State := (s.cutFuse.loadAborts).warmReset

/-- A write to `GLB_RESET`: 0x5EED makes a warm reset; another value is ignored and recorded. -/
def wrGlbReset (p : Path) (v : Nat) (s : State) : State × WStatus :=
  if v = 0x5EED then (s.resetWarm, .ok) else rejectWrite p .GLB_RESET 0 v s

/-- GLB_RESET, R349. -/
def execGlbReset (p : Path) (value : Word32) (s : State) : Res :=
  writeCommand p .GLB_RESET 0 value.toNat (wrGlbReset p value.toNat) s

end Sys2Proof.Machine
end

