-- ==== Sys2Proof/Machine/MgtRegs.lean ====
section
/-! DEFINITION. The management registers: alerts and in-band interrupts, passwords, the bus challenge (chapter 10). -/
namespace Sys2Proof.Machine

/-! ### Alerts (R299, R300) -/

/-- Class bits clear, but those set in the same core cycle (R9): ALERT_N is released when none is left, and interrupts still to
be requested for them are dropped. -/
def State.clearAlerts (s : State) (mask : Nat) : State :=
  let left := s.fld MGT_ALERT_STATUS.CLASS 0 &&& (1023 - s.clearable .MGT_ALERT_STATUS 0 mask % 1024)
  let s := (s.setFld MGT_ALERT_STATUS.CLASS 0 left).setFlag GLB_STATE.ALERT 0 (decide (left ≠ 0))
  s.modMgt fun x => { x with ibi := x.ibi.filter fun e => left.testBit e.1 }

/-- A write to `MGT_ALERT_STATUS`. -/
def wrAlertStatus (v : Nat) (s : State) : State × WStatus := (s.clearAlerts (fieldOf v MGT_ALERT_STATUS.CLASS), .ok)

/-- An interrupt to request: the class bit, the record's number, the core cycle of its NACK. -/
abbrev Ibi := Nat × Nat × Option Nat

/-- The request of the lowest class among some. -/
def firstIbi (l : List Ibi) : Option Ibi :=
  l.foldl (fun (m : Option Ibi) e =>
    match m with
    | some b => if e.1 < b.1 then some e else some b
    | none => some e) none

/-- Requests not yet made, and those whose NACK is 100 µs old. -/
def State.newIbis (s : State) : List Ibi := s.mgt.ibi.filter fun e => e.2.2.isNone
def State.dueIbis (s : State) : List Ibi := s.mgt.ibi.filter fun e => match e.2.2 with
  | some c => decide (c + cyclesOfUs 100 ≤ s.cycle)
  | none => false

/-- In-band interrupts can be requested: I3C mode with ENINT, the bus awake. -/
def State.ibiReady (s : State) : Bool := !s.offline && s.flag MGT_BUS_STATUS.I3C 0 && s.flag MGT_BUS_STATUS.ENINT 0

/-- The interrupt of a class goes out: its class code and the record's number; accepted it is done, NACKed it waits. -/
def State.sendIbi (s : State) (e : Ibi) (accepted : Bool) : State :=
  let s := s.modMgt fun x => { x with
    bus := { x.bus with ibiSent := BitVec.ofNat 8 (e.1 + 1) :: leBytes 3 e.2.1 }
    ibi := if accepted then x.ibi.erase e else x.ibi.map fun f => if f = e then (e.1, e.2.1, some s.cycle) else f }
  let s := s.count MGT_IBI_SENT.COUNT 0
  if accepted then s else s.count MGT_IBI_NACK.COUNT 0

/-! ### Passwords (R306) -/

/-- Password entry and verification are locked out, for 10 s from the eighth failure. -/
def State.lockedOut (s : State) : Bool := s.mgt.lockout && decide (s.cycle < s.mgt.lockEnd)

/-- A mismatch or a failed verification: counted, recorded; the eighth within 60 s locks entry out for 10 s. -/
def State.authFailure (s : State) : State :=
  let recent := (s.mgt.fails.filter fun c => decide (s.cycle < c + cyclesOfUs 60000000)) ++ [s.cycle]
  let s := (s.count MGT_PWD_FAIL.COUNT 0).logSec SecEvt.LOCKOUT 0 recent.length
  if 8 ≤ recent.length then (s.modMgt fun x => { x with fails := [], lockout := true, lockEnd := s.cycle + cyclesOfUs 10000000 }).alert Alert.SECURITY
  else s.modMgt fun x => { x with fails := recent }

/-- The OPERATOR password takes a value in the key vault. -/
def State.setPassword (s : State) (v : Nat) : State :=
  s.modSec fun x => { x with sealed := BitVec.ofNat 32 v, pwd := some (BitVec.ofNat 32 v) }

/-- The password unlocks OPERATOR: a value of 0 disables it. -/
def State.passwordIs (s : State) (v : Nat) : Bool := decide (v ≠ 0) && decide (s.sec.pwd = some (BitVec.ofNat 32 v))

/-- A password entered on the bus: OPERATOR, or USER; 0 is a return to USER, and during lockout the entry is ignored
(Tables 10-4, 10-10). -/
def State.enterPassword (s : State) (v : Nat) : State :=
  if v = 0 then s.dropRole
  else if s.lockedOut then s
  else if s.passwordIs v then s.dropRole.setFld MGT_BUS_STATUS.ROLE 0 Role.OPERATOR
  else s.dropRole.authFailure

/-- The bus, holding OPERATOR, sets the password by bytes 118 to 121. -/
def State.setBusPassword (s : State) (v : Nat) : State := if s.role .bus < Role.OPERATOR then s else s.setPassword v

/-! ### The bus challenge (R307) -/

/-- `MGT_AUTH_STATUS.RESULT`. -/
def State.authResult (s : State) (r : Nat) : State := s.setFld MGT_AUTH_STATUS.RESULT 0 r

/-- The streamed response, and its length. -/
def State.setAuthData (s : State) (bs : List Byte) : State :=
  (s.modMgt fun x => { x with authData := bs }).setFld MGT_AUTH_STATUS.DATA_LEN 0 bs.length

/-- NONCE: a fresh nonce; what was streamed is emptied. -/
def State.newBusNonce (s : State) : State :=
  if s.headless then s.authResult Sec.BUSY
  else
    let (v, s) := s.fresh
    let s := (s.setFld MGT_AUTH_NONCE.NONCE 0 (v.toNat % 2 ^ 256)).setFlag MGT_AUTH_STATUS.NONCE_VALID 0 true
    ((s.setAuthData []).authResult Sec.OK).modMgt fun x => { x with nonceAt := s.cycle }

/-- The message of Table 10-5 over the nonce in force. -/
def State.busChallenge (s : State) : List Byte :=
  magicNZ 0x41 0x55 ++ ascii [1, 3, 0, 0] ++ leBytes 4 (s.reg .GLB_ID 0).toNat ++ ascii [0, 0, 0, 0] ++
    leBytes 32 (s.fld MGT_AUTH_NONCE.NONCE 0)

/-- What VERIFY finds of the streamed response: a result, and the slot of the key that signed. -/
def State.verifyBus (s : State) : Nat × Option Nat :=
  let d := s.mgt.authData
  if s.lockedOut then (Sec.LOCKOUT, none)
  else if !s.flag MGT_AUTH_STATUS.NONCE_VALID 0 || !s.nonceFresh s.mgt.nonceAt then (Sec.EXPIRED, none)
  else if d.length ≠ 140 then (Sec.LENGTH, none)
  else match s.ownerKey (fieldAt d 0 4) Kind.ADMIN with
    | none => (Sec.KEY, none)
    | some k =>
      if allZero (slice d 136 4) && Config.ecdsaVerify (s.slotKey k) s.busChallenge (slice d 4 66) (slice d 70 66) then (Sec.OK, some k)
      else (Sec.SIGNATURE, none)

/-- VERIFY: any outcome consumes the nonce; a response that verifies gives the bus ADMIN, one that does not counts toward the
lockout (log entry 63). -/
def State.authVerify (s : State) : State :=
  if s.headless then s.authResult Sec.BUSY
  else
    let (r, key) := s.verifyBus
    let s := (s.setFlag MGT_AUTH_STATUS.NONCE_VALID 0 false).authResult r
    match key with
    | some k => (s.setFld MGT_BUS_STATUS.ROLE 0 Role.ADMIN).modMgt fun x => { x with busKey := some k }
    | none => if r = Sec.LOCKOUT ∨ r = Sec.EXPIRED then s else s.authFailure

/-- A write to `MGT_AUTH_CTRL`: NONCE, VERIFY, DROP; other values are ignored. -/
def wrAuthCtrl (v : Nat) (s : State) : State × WStatus :=
  let cmd := fieldOf v MGT_AUTH_CTRL.CMD
  (if cmd = 1 then s.newBusNonce else if cmd = 2 then s.authVerify else if cmd = 3 then s.dropRole else s, .ok)

/-- Four bytes of the response; bytes beyond 140 are dropped. -/
def wrAuthData (v : Nat) (s : State) : State × WStatus := (s.setAuthData ((s.mgt.authData ++ leBytes 4 v).take 140), .ok)

/-! ### Causeway settings -/

/-- A write to `MGT_CW_CFG`: `NOTIFY_MIN` 0 is rejected. -/
def wrCwCfg (p : Path) (v : Nat) (s : State) : State × WStatus :=
  if fieldOf v MGT_CW_CFG.NOTIFY_MIN = 0 then rejectWrite p .MGT_CW_CFG 0 v s else (plainWrite .MGT_CW_CFG 0 v s, .ok)

/-- A write to `MGT_CW_MAC`: a group address is rejected. -/
def wrCwMac (p : Path) (v : Nat) (s : State) : State × WStatus :=
  if v.testBit 40 then rejectWrite p .MGT_CW_MAC 0 v s else (plainWrite .MGT_CW_MAC 0 v s, .ok)

/-- A whole write to a register of the MGT block. -/
def wrMgtBlock (p : Path) (r : Reg) (i v : Nat) (s : State) : State × WStatus :=
  match r with
  | .MGT_ALERT_STATUS => wrAlertStatus v s
  | .MGT_CW_CFG => wrCwCfg p v s
  | .MGT_CW_MAC => wrCwMac p v s
  | .MGT_OP_PWD => (s.setPassword v, .ok)
  | .MGT_AUTH_CTRL => wrAuthCtrl v s
  | .MGT_AUTH_DATA => wrAuthData v s
  | r => (plainWrite r i v s, .ok)

/-! ### Commands -/

/-- ALERT_CLEAR (R299). -/
def execAlertClear (p : Path) (mask : BitVec 10) (s : State) : Res :=
  writeCommand p .MGT_ALERT_STATUS 0 mask.toNat (wrAlertStatus mask.toNat) s

/-- BUS_FREE (R300): the request due goes out; `accepted` is the controller's answer. -/
def execBusFree (accepted : Bool) (s : State) : Res :=
  match firstIbi s.newIbis with
  | some e => .next (if s.ibiReady then s.sendIbi e accepted else s)
  | none => .next s

/-- IBI_RETRY (R300): the 100 µs after a NACK have passed. -/
def execIbiRetry (accepted : Bool) (s : State) : Res :=
  match firstIbi s.dueIbis with
  | some e => .next (if s.ibiReady then s.sendIbi e accepted else s)
  | none => .next s

/-- PASSWORD_ENTRY (R306): bytes 122 to 125 as one value, byte 122 its least significant. -/
def execPasswordEntry (value : Word32) (s : State) : Res := .next (if s.offline then s else s.enterPassword value.toNat)

/-- PASSWORD_SET (R306): bytes 118 to 121, byte 118 the least significant. -/
def execPasswordSet (value : Word32) (s : State) : Res := .next (if s.offline then s else s.setBusPassword value.toNat)

/-- MGT_OP_PWD (R306). -/
def execMgtOpPwd (p : Path) (value : Word32) (s : State) : Res :=
  writeCommand p .MGT_OP_PWD 0 value.toNat (wrMgtBlock p .MGT_OP_PWD 0 value.toNat) s

/-- LOCKOUT_END (R306): the 10 s are over. -/
def execLockoutEnd (s : State) : Res :=
  .next (if s.cycle < s.mgt.lockEnd then s else s.modMgt fun x => { x with lockout := false })

/-- A command of `MGT_AUTH_CTRL`. -/
def authRow (p : Path) (cmd : Nat) (s : State) : Res := writeCommand p .MGT_AUTH_CTRL 0 (cmd * 2 ^ 28) (wrAuthCtrl (cmd * 2 ^ 28)) s

/-- NONCE (R307). -/
def execNonce (p : Path) (s : State) : Res := authRow p 1 s

/-- AUTH_DATA_WRITE (R307). -/
def execAuthDataWrite (p : Path) (value : Word32) (s : State) : Res :=
  writeCommand p .MGT_AUTH_DATA 0 value.toNat (wrAuthData value.toNat) s

/-- AUTH_VERIFY (R307). -/
def execAuthVerify (p : Path) (s : State) : Res := authRow p 2 s

/-- DROP (R305). -/
def execDrop (p : Path) (s : State) : Res := authRow p 3 s

/-- NONCE_EXPIRY (R307, R324): 60 s after the nonce; `bus` names the bus challenge, else the nonce of the key vault. -/
def execNonceExpiry (bus : Bool) (s : State) : Res :=
  .next (if bus then (if s.nonceFresh s.mgt.nonceAt then s else s.setFlag MGT_AUTH_STATUS.NONCE_VALID 0 false)
    else if s.nonceFresh s.sec.nonceAt then s else s.nonceValid false)

end Sys2Proof.Machine
end

