-- ==== Sys2Proof/Machine/RegWrite.lean ====
section
/-! DEFINITION. A word written to or read from the management space on any path (R5 to R10, R320, R425, R426). -/
namespace Sys2Proof.Machine

/-! ### Writes -/

/-- A whole write to any register. -/
def wrReg (p : Path) (r : Reg) (i v : Nat) (s : State) : State × WStatus :=
  match r with
  | .GLB_RESET => wrGlbReset p v s
  | .PWR_CTRL => wrPwrCtrl p v s
  | .HRN_LOAD_CTRL => wrHrnLoadCtrl p v s
  | .HRN_LOAD_DATA => wrHrnLoadData p v s
  | .SEC_KEY_CTRL => wrSecKeyCtrl p v s
  | .SEC_KEY_DATA => wrSecKeyData v s
  | .SEC_ROLLBACK_CTRL => wrRollback p v s
  | .SEC_FW_CTRL => wrFwCtrl p v s
  | .SEC_FW_DATA => wrFwData p v 4096 s
  | .SEC_DBG_CTRL => wrDbgCtrl p v s
  | .SEC_DBG_DATA => wrDbgData v s
  | r =>
    let a := r.desc.base
    if 0x100000 ≤ a ∧ a < 0x300000 then wrGroupBlock p r i v s
    else if 0x300000 ≤ a ∧ a < 0x340000 then wrMgtBlock p r i v s
    else wrDeviceBlock p r i v s

/-- The stores that the management space shows (Table 10-11). -/
def storeWindow (a : Nat) : Option Nat :=
  if 0x10000000 ≤ a ∧ a < 0x10100000 then some 18
  else if 0x10100000 ≤ a ∧ a < 0x10140000 then some 19
  else if 0x20000000 ≤ a ∧ a < 0x20200000 then some 10
  else none

/-- A write to a store from outside: only firmware may write one (R408, R425); it is counted and recorded as R10 says. -/
def State.storeWordWrite (s : State) (p : Path) (a x : Nat) : State × WStatus :=
  if s.role p = Role.FIRMWARE then (s.storeWrite a (leBytes 4 x), .ok)
  else ((s.count MGT_ACCESS_VIOL.COUNT 0).log Evt.ACCESS_VIOL Subj.REGISTER a [s.pathWord p, s.role p, x % 2 ^ 32], .denied)

/-- A word written at an address on a path. -/
def State.writeAt (s : State) (p : Path) (a x : Nat) : State × WStatus :=
  if s.offline then (s, .busy)
  else if (storeWindow a).isSome ∧ a % 4 = 0 then s.storeWordWrite p a x
  else writeWordWith wrReg p a x s

/-! ### Reads -/

/-- What a register holds at this instant: the clock and its bound run, a performance counter follows R431 and R432. -/
def State.regNow (s : State) (role : Nat) (r : Reg) (i : Nat) : RegVal :=
  match r with
  | .TMB_NOW => BitVec.ofNat 512 s.now.toNat
  | .TMB_ERR_BOUND => setBitsOf (s.reg r i) TMB_ERR_BOUND.BOUND.hi TMB_ERR_BOUND.BOUND.lo (min s.boundNow (2 ^ 63 - 1))
  | .PMC_VALUE => BitVec.ofNat 512 (s.pmcRead role i)
  | .PMC_WIN => if s.pmcHidden role then 0 else s.reg r i
  | r => s.reg r i

/-- The granule counters of a channel (R238). -/
def chanCounters : List Reg :=
  [.CIN_ACCEPT, .CIN_SENT, .CIN_ARRIVE, .CIN_DELIVER, .CIN_DISC_ING_MEM, .CIN_DISC_STORE, .CIN_DISC_EGR_MEM, .CIN_DISC_SPAN,
   .CIN_DISC_SHED, .CIN_DISC_EGR_OVF, .CIN_DISC_CLOSE, .CIN_ING_OVR]

/-- What a read of the lowest word of a register captures: several registers at one instant where their chapters say so. -/
def captureSet (r : Reg) (i : Nat) : List (Reg × Nat) :=
  match r with
  | .EVL_HEAD_SEQ => evlCaptured.map fun r => (r, 0)
  | .CIN_ACCEPT => chanCounters.map fun r => (r, i)
  | .CIN_CH_ACCT => if i % 16 = 0 then (List.range 16).map fun k => (.CIN_CH_ACCT, i + k) else []
  | r => if r.words = 1 then [] else [(r, i)]

/-- A register whose every word returns a capture made by another register (R224, R238, R426). -/
def capturedElsewhere (r : Reg) (i : Nat) : Bool :=
  match r with
  | .CIN_CH_ACCT => decide (i % 16 ≠ 0)
  | .EVL_OLDEST_SEQ | .EVL_FIRST_FULL | .EVL_FIRST_RANGE => true
  | r => chanCounters.contains r && decide (r ≠ .CIN_ACCEPT)

/-- The capture of a register; one never made holds the reset value. -/
def State.captureOf (s : State) (k : RegKey) : RegVal := Tab.get regReset s.captured k

/-- What a read does to a register: rails tripped since the last read start again. -/
def State.afterRead (s : State) (r : Reg) : State :=
  match r with
  | .PWR_SUPPLY => s.setFld PWR_SUPPLY.SINCE 0 0
  | _ => s

/-- A read of word `w` of a register: the lowest captures, the others return the capture (R6). -/
def State.readReg (s : State) (role : Nat) (r : Reg) (i w : Nat) : Nat × State :=
  if capturedElsewhere r i ∨ w ≠ 0 then (wordOf (s.captureOf (r, i)) w, s)
  else
    let x := wordOf (s.regNow role r i) 0
    let caps := captureSet r i
    let s := if caps.isEmpty then s else
      { s with captured := caps.foldl (fun m k => Tab.insert regLt k (s.regNow role k.1 k.2) m) s.captured }
    (x, s.afterRead r)

/-- A read of a word of a store: 0 below the role it needs, counted for the event store (R425); 0 where a byte is poisoned (R405). -/
def State.readStore (s : State) (role m a : Nat) : Nat × WStatus × State :=
  if m = 18 ∧ role < Role.FIRMWARE then (0, .denied, s)
  else if role < Role.OPERATOR then (0, .denied, if m = 19 then s.count EVL_READ_DENIED.COUNT 0 else s)
  else
    let (bs, s) := s.storeRead a 4 true
    (if bs.any (fun b => b.2) then 0 else leValue (bs.map (·.1)), .ok, s)

/-- A word read at an address on a path: its value, how the read ends, the state after. -/
def State.readAt (s : State) (p : Path) (a : Nat) : Nat × WStatus × State :=
  if s.offline then (0, .busy, s)
  else match storeWindow a, regAt a with
    | some m, _ => if a % 4 = 0 then s.readStore (s.role p) m a else (0, .badAddr, s.count MGT_BAD_ADDR.COUNT 0)
    | none, some (r, i, w) => let (x, s) := s.readReg (s.role p) r i w; (x, .ok, s)
    | none, none => (0, .badAddr, s.count MGT_BAD_ADDR.COUNT 0)

/-! ### Commands -/

/-- The place of a path among writes that meet in one core cycle: bus, local Causeway, tunnel, firmware (Table 10-10). -/
def State.pathRank (s : State) : Path → Nat
  | .bus => 0
  | .causeway .tunnel => 2
  | .causeway _ => 1
  | .session k => if s.fld MGT_SESSION.TRANSPORT k = 2 then 2 else 1
  | .tunnel => 2
  | .firmware => 3

/-- The register that an address names. -/
def regIndexAt (a : Nat) : Option (Reg × Nat) := (regAt a).map fun e => (e.1, e.2.1)

/-- The waiting writes to the register at `a`, all of this core cycle, whose paths go before path `p`. -/
def State.writesBefore (s : State) (p : Path) (a : Nat) : List (Path × Nat × Nat) :=
  s.pending.filterMap fun c => match c with
    | .registerWrite q b v =>
      if s.pathRank q < s.pathRank p ∧ (regIndexAt b.toNat).isSome ∧ regIndexAt b.toNat = regIndexAt a then some (q, b.toNat, v.toNat) else none
    | _ => none

/-- The writes that precede one in its core cycle are applied, by rank. -/
def State.writeEarly (s : State) (p : Path) (a : Nat) : State :=
  let l := s.writesBefore p a
  let l := (List.range 3).flatMap fun k => l.filter fun e => s.pathRank e.1 = k
  let t := l.foldl (fun s e => (s.writeAt e.1 e.2.1 e.2.2).1) s
  if l.isEmpty then s else { t with early := t.early ++ l }

/-- REGISTER_WRITE (R8): a word written at any address; of writes to one register in one core cycle, those that Table 10-10 puts before
it are applied first, and only once. -/
def execRegisterWrite (p : Path) (addr value : Word32) (s : State) : Res :=
  let w := (p, addr.toNat, value.toNat)
  .next (if s.early.contains w then { s with early := s.early.erase w }
    else ((s.writeEarly p addr.toNat).writeAt p addr.toNat value.toNat).1)

/-- The word of a wide register that an address names: none for an address without one. -/
def wideWord (a : Nat) : Option Nat :=
  match regAt a with
  | some (r, _, w) => if 1 < r.words then some w else none
  | none => none

/-- WIDE_REGISTER_READ (R6): a word read at any address; of a wide register, the lowest captures. -/
def execWideRegisterRead (p : Path) (addr : Word32) (s : State) : Res :=
  let (x, _, s) := s.readAt p addr.toNat
  .next (s.modMgt fun m => { m with read := x })

/-- STAGED_WORD_WRITE (R7): a write to a higher word. -/
def execStagedWordWrite (p : Path) (addr value : Word32) (s : State) : Res :=
  match wideWord addr.toNat with
  | some w => .next (if w = 0 then s else (s.writeAt p addr.toNat value.toNat).1)
  | none => .next s

/-- WIDE_REGISTER_COMMIT (R7): a write to the lowest word. -/
def execWideRegisterCommit (p : Path) (addr value : Word32) (s : State) : Res :=
  match wideWord addr.toNat with
  | some w => .next (if w = 0 then (s.writeAt p addr.toNat value.toNat).1 else s)
  | none => .next s

end Sys2Proof.Machine
end

