-- ==== Sys2Proof/Machine/DmaRun.lean ====
section
/-! DEFINITION. The bursts of the DMA engine (R407 to R413): beats, the end of a burst, pre-emption, the bursts of the
housekeeping streams. -/
namespace Sys2Proof.Machine

/-! ### What a beat reads and writes -/

/-- The words of the register space that `n` bytes from `a` touch. -/
def regWordsOver (a n : Nat) : List Nat := (List.range ((a + n + 3) / 4 - a / 4)).map fun i => 4 * (a / 4 + i)

/-- The `n` bytes from `a`, each with whether it is poisoned: of a store, or of registers, which a transfer reads with FIRMWARE
authority. -/
def State.dmaRead (s : State) (a n : Nat) : List (Byte × Bool) × State :=
  if a < regSpaceEnd then
    let (bs, s) := (regWordsOver a n).foldl (fun (e : List Byte × State) w =>
      let (x, _, s) := e.2.readAt .firmware w
      (e.1 ++ leBytes 4 x, s)) ([], s)
    (((bs.drop (a % 4)).take n).map fun b => (b, false), s)
  else s.storeRead a n false

/-- Bytes written from `a` up: to a store, the words of poisoned bytes marked; or to registers, a word partly covered keeping its
other bytes. -/
def State.dmaWrite (s : State) (a : Nat) (bs : List (Byte × Bool)) : State :=
  if a < regSpaceEnd then
    s.each (regWordsOver a bs.length) fun w s =>
      let old := (s.readAt .firmware w).1
      let b := fun i => if a ≤ w + i then (bs[w + i - a]?.map (·.1)).getD (BitVec.ofNat 8 (old / 256 ^ i)) else BitVec.ofNat 8 (old / 256 ^ i)
      (s.writeAt .firmware w (leValue ((List.range 4).map b))).1
  else
    let s := s.storeWrite a (bs.map (·.1))
    s.each ((List.range bs.length).filter fun i => (bs.getD i (0, false)).2) fun i s => s.setPoison (a + i) true

/-- The next beat of an entry: its offset and length, aligned to the destination (R411), downward in a descending copy (R410). -/
def DmaX.beat (x : DmaX) : Nat × Nat :=
  let e := x.now
  let left := e.cnt - x.moved
  if x.desc then
    let top := e.dst + left
    let n := min left (if top % 32 = 0 then 32 else top % 32)
    (left - n, n)
  else (x.moved, min left (32 - (e.dst + x.moved) % 32))

/-- Channel `n` moves a beat of its entry in hand. -/
def State.moveBeat (s : State) (n : Nat) : State :=
  let x := s.dmaOf n
  let e := x.now
  let (off, len) := x.beat
  let pattern := leBytes 8 (s.fld DMA_FILL.FILL n)
  let (s, bad) :=
    if e.fill then
      let bs := (List.range len).map fun i => pattern.getD ((off + i) % 8) 0
      (if e.dst < regSpaceEnd then s.dmaWrite (e.dst + off) (bs.map fun b => (b, false))
        else s.fillMem (e.dst + off) len ((List.range 8).map fun i => pattern.getD ((off + i) % 8) 0), false)
    else
      let (bs, s) := s.dmaRead (e.src + off) len
      (s.dmaWrite (e.dst + off) bs, bs.any fun b => b.2)
  let excess := decide (e.cnt ≤ x.moved + len)
  let s : State := { s with engine := { s.engine with beats := tabMod 0 s.engine.beats n (· + 1) } }
  s.modDma n fun x => { x with
    moved := if excess && decide (x.entry + 1 < x.entries.length) then 0 else x.moved + len
    entry := if excess && decide (x.entry + 1 < x.entries.length) then x.entry + 1 else x.entry
    bytes := x.bytes + len
    poisoned := x.poisoned || bad }

/-- Nothing of a transfer is left. -/
def DmaX.excess (x : DmaX) : Bool := decide (x.entries.length ≤ x.entry + 1) && decide (x.now.cnt ≤ x.moved)

/-- Up to `k` beats. -/
def State.moveBeats (s : State) (n : Nat) : Nat → State
  | 0 => s
  | k + 1 => if (s.dmaOf n).excess then s else State.moveBeats (s.moveBeat n) n k

/-- `REMAIN` follows: entries left of a table, else bytes left. -/
def State.showRemain (s : State) (n : Nat) : State :=
  let x := s.dmaOf n
  let left := x.now.cnt - x.moved
  s.setFld DMA_STATUS.REMAIN n (if x.index then x.entries.length - x.entry - (if left = 0 then 1 else 0) else left)

/-- A FILL that has covered every page of a region arms it (R399). -/
def State.fillArms (s : State) (n : Nat) : State :=
  let x := s.dmaOf n
  let e := x.now
  if x.index || !e.fill then s
  else
    let ms := regions21.filter fun m => decide (e.dst ≤ regionBase m ∧ regionBase m + 4096 * regionPages m ≤ e.dst + e.cnt)
    let s := s.each ms fun m s => s.setArmed m true
    if ms.isEmpty then s else s.modDma n fun x => { x with armed := true }

/-! ### Bursts of the streams (R377, R413) -/

/-- A stream with records waiting asks for a burst of its channel, which is IDLE. -/
def State.streamAsk (s : State) : State :=
  s.each [0, 1, 2, 3] fun k s =>
    let n := s.fld HKA_STREAM_CFG.DMA_CH k
    match (s.strmOf k).queue with
    | r :: rest =>
      if s.flag HKA_STREAM_CFG.EN k && decide (s.dmaState n = Dma.IDLE) then
        let s := s.modStrm k fun x => { x with queue := rest }
        (s.modDma n fun _ => { stream := some k, record := r }).goDma n Dma.RUN
      else s
    | [] => s

/-- The burst of a stream ends: one record; a withdrawn request leaves a completion record. -/
def State.streamBurst (s : State) (n k : Nat) : State :=
  let x := s.dmaOf n
  let s := s.streamWrite k x.record
  let s : State := { s with engine := { s.engine with beats := tabMod 0 s.engine.beats n (· + 1) } }
  if x.withdrawn then s.modDma n fun x => { x with bytes := 16, ended := some DmaEnd.OK, stream := none } else s.dmaIdle n

/-! ### Bursts of transfers -/

/-- Beats of a burst. -/
def State.burstBeats (s : State) (n : Nat) : Nat := s.fld DMA_CTRL.BURST n + 1

/-- The burst of a transfer ends: the transfer ends with it, or asks again. -/
def State.transferBurst (s : State) (n : Nat) : State :=
  let s := (s.moveBeats n (s.burstBeats n - (s.dmaOf n).beats)).showRemain n
  let s := s.modDma n fun x => { x with beats := 0 }
  let x := s.dmaOf n
  if x.excess then
    let s := s.fillArms n
    s.modDma n fun x => { x with ended := some (if x.poisoned then DmaEnd.POISONED else DmaEnd.OK) }
  else if x.aborting then s.modDma n fun x => { x with ended := some DmaEnd.ABORTED }
  else s

/-- The engine is free, and grants. -/
def State.freeEngine (s : State) : State := (({ s with engine := { s.engine with current := none } } : State).streamAsk).dmaGrant

/-- DMA_BURST_END (R407). -/
def execDmaBurstEnd (s : State) : Res :=
  .next (match s.engine.current with
    | none => s.freeEngine
    | some n => match (s.dmaOf n).stream with
      | some k => (s.streamBurst n k).freeEngine
      | none => (s.transferBurst n).freeEngine)

/-- A channel of higher priority than `n` asks. -/
def State.outranked (s : State) (n : Nat) : Bool :=
  (List.range 16).any fun m => s.dmaAsks m && decide (s.fld DMA_CTRL.PRIO n < s.fld DMA_CTRL.PRIO m)

/-- DMA_PREEMPT (R412): at the boundary after `beats` beats since the grant. -/
def execDmaPreempt (beats : Fin 16) (s : State) : Res :=
  match s.engine.current with
  | none => .next s
  | some n =>
    let s := s.streamAsk
    if !s.outranked n then .next s
    else if (s.dmaOf n).stream.isSome ∨ s.burstBeats n ≤ (s.dmaOf n).beats + beats then .next s
    else
      let s := (s.moveBeats n beats).showRemain n
      if (s.dmaOf n).excess then .next ((s.transferBurst n).freeEngine)
      else
        let s := (s.modDma n fun x => { x with beats := x.beats + beats, preempted := true }).count DMA_PREEMPT.COUNT n
        .next (s.goDma n Dma.PREEMPTED).freeEngine

end Sys2Proof.Machine
end

