-- ==== Sys2Proof/Machine/Power.lean ====
section
/-! DEFINITION. Commands of the power states, wake, the supply monitors, Tussock's samples (chapter 12). -/
namespace Sys2Proof.Machine

/-! ### Power commands -/

/-- A command of `PWR_CTRL` with the settings as they stand. -/
def pwrRow (p : Path) (cmd : Nat) (s : State) : Res :=
  let v := withField (s.writeBack .PWR_CTRL 0) PWR_CTRL.CMD cmd
  writeCommand p .PWR_CTRL 0 v (wrPwrCtrl p v) s

/-- PWR_STANDBY (R353). -/
def execPwrStandby (p : Path) (s : State) : Res := pwrRow p 1 s

/-- PWR_ACTIVE (R354). -/
def execPwrActive (p : Path) (s : State) : Res := pwrRow p 2 s

/-- PWR_DOZE (R355, R356). -/
def execPwrDoze (p : Path) (s : State) : Res := pwrRow p 3 s

/-- PWR_DEEP (R355, R356). -/
def execPwrDeep (p : Path) (s : State) : Res := pwrRow p 4 s

/-- LPMODE_ASSERT (R352): a pin of role LPMode asserts. -/
def execLpmodeAssert (pin : Fin 16) (s : State) : Res :=
  .next (if s.pinRole pin = 2 then
    let s := s.setPin pin true
    if s.offline then s else s.lowPower else s)

/-- LPMODE_DEASSERT (R352). -/
def execLpmodeDeassert (pin : Fin 16) (s : State) : Res :=
  .next (if s.pinRole pin = 2 then
    let s := s.setPin pin false
    if s.offline then s else s.lowPower else s)

/-- The CMIS bit LowPwrRequestSW takes a value: at once, or once the controllers return (R318, R352). -/
def State.setLpSw (s : State) (on : Bool) : State :=
  if s.headless then s.modPwr fun x => { x with lpSwLater := some on } else (s.modPwr fun x => { x with lpSw := on }).lowPower

/-- LOW_PWR_REQUEST_SW (R352). -/
def execLowPwrRequestSw (on : Bool) (s : State) : Res := .next (if s.offline then s else s.setLpSw on)

/-- A supply or a thermal stop takes the device out of ACTIVE, or out of the way there; a boot that waits for its synthesisers ends in
STANDBY (R362, R368). What the load that it ends had put off runs once the device is there (R356). -/
def State.fallToStandby (s : State) (close : State → State) : State :=
  if s.fld GLB_STATE.BOOT 0 < 5 then
    let s := s.modPwr fun x => { x with toActive := false }
    match s.hrn.load with
    | some l => if l.cmd = 0 then s.bootFinish l else s
    | none => s
  else
    let s := (s.loadAborts).modPwr fun x => { x with lpLeft := false }
    let st := s.fld PWR_STATE.STATE 0
    (if st = 0 then close s else if st = 3 then s.powerDown else s).runLowPower

/-! ### Sleep and wake (R357 to R361) -/

/-- The dynamic address is lost and the target is in I2C mode (R301). -/
def State.dropDynAddr (s : State) : State :=
  ((s.setFlag MGT_BUS_STATUS.I3C 0 false).setFld MGT_BUS_STATUS.DYN_ADDR 0 0).setFlag MGT_BUS_STATUS.ENINT 0 false

/-- DEEP_AFTER_EXPIRY (R357). -/
def execDeepAfterExpiry (s : State) : Res :=
  .next (if s.pwr.sleep = 1 ∧ s.pwr.wake.isNone ∧ s.fld PWR_CTRL.DEEP_AFTER 0 ≠ 0 then
    s.modPwr fun x => { x with sleep := 2, passed := true } else s)

/-- A source code of Table 12-7 counts in the sleep the device is in. -/
def State.wakeValid (s : State) (sleep source detail : Nat) : Bool :=
  if source = 1 ∨ source = 2 then true
  else if sleep ≠ 1 then false
  else if source = 3 then (s.fld PWR_WAKE_LANES.LANES 0).testBit detail
  else if source = 4 then s.flag TSK_RULE.RULE_EN detail && decide (s.fld TSK_RULE.ACTION detail = Tsk.WAKE) &&
    (s.fld TSK_RULE.STATES detail).testBit 0
  else decide (source = 5) && s.flag TMB_PPS_CFG.IN_WAKE 0

/-- Time on the AO counter, ns. -/
def aoNs (t : AoTime) : Nat := t.doze + t.deep

/-- A wake source arrives (R358, R361, R368): it starts a wake; during one it is seen too, the lower code being the source of two in
one cycle, and RESET_N restarts the wake; during sleep entry the entry completes first. -/
def State.wakeSource (s : State) (source detail ns : Nat) : State :=
  let bit := 2 ^ (source - 1)
  if s.pwr.sleep = 0 then
    if s.pwr.goal = 0 ∨ !s.wakeValid s.pwr.goal source detail then s
    else match s.pwr.early with
      | none => s.modPwr fun x => { x with early := some { source := source, detail := detail, also := bit } }
      | some w => s.modPwr fun x => { x with early := some { w with also := w.also ||| bit } }
  else if !s.wakeValid s.pwr.sleep source detail then s
  else match s.pwr.wake with
    | none => s.wakeStart { source := source, detail := detail, also := bit } ns
    | some w =>
      let also := w.also ||| bit
      if source = 1 then s.wakeStart { source := 1, also := also } ns
      else
        let s := s.setFld PWR_WAKE_SRC.ALSO 0 also
        if s.cycle = w.at_ ∧ source < w.source then
          let s := (s.setFld PWR_WAKE_SRC.SOURCE 0 source).setFld PWR_WAKE_SRC.DETAIL 0 detail
          s.modPwr fun x => { x with wake := some { w with source := source, detail := detail, also := also } }
        else s.modPwr fun x => { x with wake := some { w with also := also } }

/-- WAKE_SOURCE (R358): code and detail of Table 12-7, time since sleep entry. -/
def execWakeSource (source : Fin 6) (detail : Fin 32) (ao : AoTime) (s : State) : Res :=
  .next (if source.val = 0 ∨ s.pwr.tripped then s else s.wakeSource source detail (aoNs ao))

/-- The field of a stage's time. -/
def stageField (k : Nat) : Field :=
  if k = 1 then PWR_STAGE_TIME.REGULATOR else if k = 2 then PWR_STAGE_TIME.OSCILLATOR else if k = 3 then PWR_STAGE_TIME.MEMORY
  else PWR_STAGE_TIME.LOGIC

/-- Counts of the AO counter: 1 MHz in DOZE, 32.768 kHz in DEEP (Table 12-5). -/
def aoCounts (t : AoTime) : Nat := t.doze / 1000 + t.deep * 32768 / 10 ^ 9

/-- Time is set at wake (R262, R263). -/
def State.wakeTime (s : State) (sleep : Nat) (passed : Bool) (ao : AoTime) : State :=
  let last := if passed then 3 else sleep
  let s := (s.setFld TMB_SLEEP_ENTRY.TIME 0 s.now.toNat).setFld TMB_SLEEP_ELAPSED.NS 0 (aoNs ao)
  let s := s.setFld TMB_SLEEP_INFO.LAST 0 last
  if 2 ^ 48 ≤ aoCounts ao then (s.stepTo 0 Quality.LOST 0).setFlag TMB_SLEEP_INFO.AO_LOST 0 true
  else
    let s := s.setFlag TMB_SLEEP_INFO.AO_LOST 0 false
    let q := if s.quality = Quality.LOST then Quality.LOST else Quality.ESTIMATED
    let inDoze := if last = 2 then 0 else ao.doze * 1000 / 50000 + 10 ^ 6
    let inDeep := if last = 1 then 0 else ao.deep * 1000 / 50 + 10 ^ 8
    s.stepTo ((s.now16 : Int) + (aoNs ao) * 65536) q (s.time.bound + inDoze + inDeep)

/-- Logic is ready (R358, R361): what VDD_AO holds is all that is left; the event store takes its mirror back, time is set, the wake and
what was held of the sleep are recorded, and the boot starts at its ROM step. -/
def State.wakeUp (s : State) (w : WakeX) (ao : AoTime) (addrSel : Nat) : State :=
  let sleep := s.pwr.sleep
  let passed := s.pwr.passed
  let held := s.pwr.held
  let classes := s.pwr.heldCls
  let warm := decide (w.source = 1)
  let tsk := if sleep = 1 ∧ !warm then tskRegs ++ [.MGT_BUS_STATUS] else []
  let t := (s.reborn (fuseRegs ++ aoRegs ++ rwsRegs ++ coldOnlyRegs ++ tsk)).keepWarm s
  let t : State := if sleep = 1 ∧ !warm then { t with tskIn := s.tskIn, tskRule := s.tskRule, tskAt := s.tskAt } else t
  let t : State := { t with time := { s.time with phaseSince := none, source := .none_, resel := false, filtered := 0, nearSince := none } }
  let t := t.setFld TMB_RATE.ADJ 0 (s.fld TMB_RATE.ADJ 0)
  let t := if sleep = 2 ∨ warm then t.sampleAddr addrSel else t
  let t := (t.setFlag CLK_STATUS.REF_PRESENT 0 true).setFlag CLK_STATUS.CORE_LOCK 0 true
  let t := (t.setFld PWR_STATE.STATE 0 1).setFld GLB_STATE.PWR 0 1
  let toActive := t.flag PWR_CTRL.WAKE_TO 0
  let t := t.modPwr fun x => { x with cause := if warm then 2 else 3, wakeOk := true, toActive := toActive, bistCopy := s.pwr.bistCopy }
  let t := (t.restoreRecords (if warm then 2 else 3)).wakeTime sleep passed ao
  let t := t.count PWR_WAKE_COUNT.WAKES 0
  let t := t.log Evt.PWR_WAKE Subj.DEVICE 0 ([(t.reg .PWR_WAKE_SRC 0).toNat % 2 ^ 32] ++ regWords (t.reg .PWR_STAGE_TIME 0) 2 ++
    [(t.reg .PWR_WAKE_COUNT 0).toNat % 2 ^ 32])
  let t := held.foldl (fun t e => t.log e.1 e.2.1 e.2.2.1 e.2.2.2) t
  let t := classes.foldl (fun t c => t.alert c) t
  t.copyLatch

/-- The timeout of a stage in µs (Table 12-8). -/
def stageLimit (k : Nat) : Nat := if k = 1 then 500 else if k = 2 then 2000 else if k = 3 then 50 else 20

/-- WAKE_STAGE_READY (R359): the stage's ready asserts after `time` µs, within its timeout, which no rail that is low lets happen (R368);
at the last one logic is ready, `ao` after sleep entry. -/
def execWakeStageReady (time : BitVec 16) (ao : AoTime) (addrSel : Fin 4) (s : State) : Res :=
  match s.pwr.wake with
  | none => .next s
  | some w =>
    if w.waiting ∨ s.fld PWR_SUPPLY.NOW 0 ≠ 0 ∨ stageLimit w.stage < time.toNat then .next s
    else
      let s := s.setFld (stageField w.stage) 0 time.toNat
      .next (if w.stage < 4 then s.modPwr fun x => { x with wake := some { w with stage := w.stage + 1 } } else s.wakeUp w ao addrSel)

/-- WAKE_STAGE_TIMEOUT (R359, R360): the stage and those after it power down, to be retried; the third attempt fails the wake. -/
def execWakeStageTimeout (s : State) : Res :=
  match s.pwr.wake with
  | none => .next s
  | some w =>
    if w.waiting then .next s
    else if w.attempt < 3 then .next (s.modPwr fun x => { x with wake := some { w with waiting := true } })
    else
      let s := (s.countSat PWR_WAKE_COUNT.FAILED 0).setFlag PWR_WAKE_SRC.WAKE_FAILED 0 true
      .next ((s.setFld PWR_WAKE_SRC.FAIL_STAGE 0 w.stage).modPwr fun x => { x with wake := none, latch := true })

/-- WAKE_RETRY (R359): 10 ms after a failed attempt. -/
def execWakeRetry (s : State) : Res :=
  match s.pwr.wake with
  | none => .next s
  | some w =>
    if w.waiting then
      let s := s.setFld PWR_WAKE_SRC.ATTEMPTS 0 (w.attempt + 1)
      .next (s.modPwr fun x => { x with wake := some { w with attempt := w.attempt + 1, waiting := false } })
    else .next s

/-- WARM_RESET (R349): RESET_N asserted and released; of a device asleep it is a wake source (Table 12-7). -/
def execWarmReset (addrSel : Fin 4) (ao : AoTime) (s : State) : Res :=
  .next (if s.pwr.sleep ≠ 0 then s.wakeSource 1 0 (aoNs ao) else s.resetWarm.sampleAddr addrSel)

/-! ### Supply monitors (R362) -/

/-- Record PWR_SUPPLY, held while asleep. -/
def State.logSupply (s : State) : State :=
  let v := (s.reg .PWR_SUPPLY 0).toNat % 2 ^ 32
  if s.pwr.sleep = 0 then s.log Evt.PWR_SUPPLY Subj.DEVICE 0 [v]
  else s.modPwr fun x => { x with held := x.held ++ [(Evt.PWR_SUPPLY, Subj.DEVICE, 0, [v])] }

/-- SUPPLY_TRIP (R362): a rail not tripping already trips: rails 0 VDD_CORE, 1 VDD_LANA, 2 VDD_HANA, 3 VDD_HV, 4 VDD_HKA, 5 VDD_IO, 6 VDD_AO. -/
def execSupplyTrip (rail : Fin 7) (addrSel : Fin 4) (s : State) : Res :=
  if rail.val = 6 then execPowerOn addrSel s
  else if (s.fld PWR_SUPPLY.NOW 0).testBit rail then .next s
  else
    let s := s.setFld PWR_SUPPLY.NOW 0 (s.fld PWR_SUPPLY.NOW 0 ||| 2 ^ rail.val)
    let s := s.setFld PWR_SUPPLY.SINCE 0 (s.fld PWR_SUPPLY.SINCE 0 ||| 2 ^ rail.val)
    if s.pwr.sleep ≠ 0 then .next ((s.logSupply).modPwr fun x => { x with latch := true })
    else if s.pwr.tripped then .next s
    else if rail.val = 0 then
      let addr := s.fld MGT_BUS_STATUS.STATIC_ADDR 0
      .next ((s.cutFuse.coldReset).setFld MGT_BUS_STATUS.STATIC_ADDR 0 addr)
    else if rail.val ≤ 3 then
      .next (if s.fld PWR_STATE.STATE 0 = 1 ∨ s.fld PWR_STATE.STATE 0 = 4 then s
        else (s.logSupply.alert Alert.POWER).fallToStandby State.toStandby)
    else
      let s := if rail.val = 4 then s.modHka fun x => { x with conv := x.conv.map fun c => { c with supply := true } } else s
      .next (s.logSupply.alert Alert.POWER)

/-- SUPPLY_RECOVER (R362): the rail has stayed within 5 % for 10 ms. -/
def execSupplyRecover (rail : Fin 7) (s : State) : Res :=
  let now := s.fld PWR_SUPPLY.NOW 0
  .next (if now.testBit rail then s.setFld PWR_SUPPLY.NOW 0 (now - 2 ^ rail.val) else s)

/-! ### Tussock (R363 to R366) -/

/-- The next enabled input, in ascending order round the 32. -/
def State.tskNext (s : State) : Option Nat :=
  ((List.range 32).map fun k => (s.tskAt + 1 + k) % 32).find? fun i => s.flag TSK_IN_CFG.EN i

/-- Bit of `STATES` for the state the device is in: 2 ACTIVE, 1 STANDBY, 0 DOZE. -/
def State.tskStateBit (s : State) : Nat := if s.pwr.sleep ≠ 0 then 0 else if s.fld PWR_STATE.STATE 0 = 0 then 2 else 1

/-- 40 log10(num ÷ den) rounded to the nearest integer, by bisection on `fuel` bits from `lo` up. -/
def quarterDb (num den : Nat) : Nat → Int → Int
  | 0, lo => lo
  | k + 1, lo =>
    let x := lo + ((2 ^ k : Nat) : Int)
    let e : Int := 2 * x - 1
    let big := if 0 ≤ e then decide (powNat den 80 * powNat 10 e.toNat ≤ powNat num 80)
      else decide (powNat den 80 ≤ powNat num 80 * powNat 10 (-e).toNat)
    quarterDb num den k (if big then x else lo)

/-- The size of a step (R365); with a value of zero the spec states none, and it is free. -/
def State.stepSize (s : State) (y before : Nat) : Int × State :=
  if y = 0 ∨ before = 0 then
    let (v, s) := s.fresh
    (toSigned 8 (v.toNat % 256), s)
  else (quarterDb y before 9 (-256), s)

/-- Record TSK_RULE, held in DOZE; the hit is counted (R366). -/
def State.tskHit (s : State) (r kind y : Nat) (size : Int) : State :=
  let s := s.count TSK_HITS.COUNT r
  let words := [kind, y, ofSigned 32 size]
  if s.pwr.sleep = 0 then s.log Evt.TSK_RULE Subj.TSK_RULE r words
  else s.modPwr fun x => { x with held := x.held ++ [(Evt.TSK_RULE, Subj.TSK_RULE, r, words)] }

/-- The action of rule `r` at its activation, or at a firing of a given size (Table 12-11). -/
def State.tskAct (s : State) (r : Nat) (fired : Option Int) (ns : Nat) : State :=
  let act := s.fld TSK_RULE.ACTION r
  let target := s.fld TSK_RULE.TARGET r
  if act = Tsk.LOS then s.showTskLos
  else if act = Tsk.STEP then
    match fired with
    | some size => s.each (maskLanes target) fun n s => s.tussockStep n size
    | none => s
  else if act = Tsk.WAKE then s.wakeSource 4 r ns
  else if act = Tsk.DOZE then
    if fired.isNone ∧ s.pwr.sleep = 0 ∧ s.fld PWR_STATE.STATE 0 = 1 then s.pwrRequest 3 else s
  else if act = Tsk.ALERT then
    if s.pwr.sleep = 0 then s.alert target else s.modPwr fun x => { x with heldCls := x.heldCls ++ [target] }
  else s

/-- A level rule sees a new filtered value. -/
def State.levelRule (s : State) (r y ns : Nat) : State :=
  let on := s.tskActive r
  let set := s.fld TSK_RULE.SET r
  let clr := s.fld TSK_RULE.CLR r
  let below := decide (s.fld TSK_RULE.KIND r = Tsk.BELOW)
  let cond := if on then (if below then decide (clr ≤ y) else decide (y ≤ clr)) else if below then decide (y < set) else decide (set < y)
  let run := if cond then (s.tskRuleOf r).run + 1 else 0
  if run < s.fld TSK_RULE.COUNT r then s.modTskRule r fun x => { x with run := run }
  else
    let s := ((s.modTskRule r fun x => { x with run := 0 }).setTskActive r (!on)).tskHit r (if on then 1 else 0) y 0
    if on then s.showTskLos else s.tskAct r none ns

/-- A step rule sees a new filtered value, `ys` being the filtered values newest first. -/
def State.stepRule (s : State) (r ns : Nat) (ys : List Nat) : State :=
  let lag := s.fld TSK_RULE.CLR r % 128
  match ys.head?, ys[lag]? with
  | some y, some before =>
    let m := s.fld TSK_RULE.SET r % 64
    let up := decide ((16 + m) * before ≤ 16 * y)
    let down := decide ((16 + m) * y ≤ 16 * before)
    let kind := s.fld TSK_RULE.KIND r
    let cond := if kind = Tsk.STEP_UP then up else if kind = Tsk.STEP_DOWN then down else up || down
    let x := s.tskRuleOf r
    let run := if cond then x.run + 1 else 0
    let clear := if cond then 0 else x.clear + 1
    if x.fired then
      let again := decide (lag ≤ clear)
      s.modTskRule r fun x => { x with run := 0, clear := if again then 0 else clear, fired := !again }
    else if run < s.fld TSK_RULE.COUNT r then s.modTskRule r fun x => { x with run := run, clear := 0 }
    else
      let s := s.modTskRule r fun x => { x with run := 0, clear := 0, fired := true }
      let (size, s) := s.stepSize y before
      (s.tskHit r 2 y size).tskAct r (some size) ns
  | _, _ => s

/-- The rules of input `i` that the state lets run are evaluated, in ascending order. -/
def State.tskRules (s : State) (i y ns : Nat) : State :=
  let mine := inputs32.filter fun r => s.flag TSK_RULE.RULE_EN r && decide (s.fld TSK_RULE.INPUT r = i) &&
    (s.fld TSK_RULE.STATES r).testBit s.tskStateBit
  let ys := (s.tskInOf i).ys
  s.each mine fun r s => if s.fld TSK_RULE.KIND r ≤ Tsk.ABOVE then s.levelRule r y ns else s.stepRule r ns ys

/-- TUSSOCK_SAMPLE (R363, R364): the SAR converts the next enabled input to `code`; `ao` is the time since sleep entry. -/
def execTussockSample (code : BitVec 12) (ao : AoTime) (s : State) : Res :=
  if !s.flag TSK_CTRL.EN 0 ∨ s.pwr.sleep = 2 ∨ s.pwr.tripped then .next s
  else match s.tskNext with
    | none => .next s
    | some i =>
      let s : State := { s with tskAt := i }
      let n := 2 ^ s.fld TSK_IN_CFG.AVG i
      let raws := (code.toNat :: (s.tskInOf i).samples).take 64
      let s := (s.modTskIn i fun x => { x with samples := raws }).setFld TSK_VALUE.RAW i code.toNat
      if raws.length < n then .next s
      else
        let y := (raws.take n).sum / n
        let s := (s.modTskIn i fun x => { x with ys := (y :: x.ys).take 65 }).setFld TSK_VALUE.Y i y
        .next (s.tskRules i y (aoNs ao))

end Sys2Proof.Machine
end

