-- ==== Sys2Proof/Machine/TwoWire.lean ====
section
/-! DEFINITION. The two-wire target: CMIS bytes, the vendor window, I3C common command codes (chapter 10). The positions of CMIS
bytes other than those the spec names are those of CMIS 5.2 (log entry 64). -/
namespace Sys2Proof.Machine

/-! ### CMIS bytes (R296, R316) -/

/-- The banked pages: 10h to 14h. -/
def banked (page : Nat) : Bool := decide (0x10 ≤ page ∧ page ≤ 0x14)

/-- The pages of Table 10-9 and the window. -/
def pageOk (page bank : Nat) : Bool :=
  decide (page ≤ 2) || ([0x10, 0x11, 0x13, 0x14].contains page && decide (bank < 4)) || decide (0x20 ≤ page ∧ page ≤ 0x23) ||
    decide (0xB0 ≤ page ∧ page ≤ 0xBF)

/-- The key of a byte. Lower memory and unbanked pages have bank 0. -/
def cmisKey (page bank off : Nat) : Nat := 256 * (256 * page + (if banked page then bank else 0)) + off

/-- A byte as it is held. -/
def State.cmisHeld (s : State) (k : Nat) : Byte := Tab.get (fun _ => 0) s.mgt.cmis k
def State.cmisHold (s : State) (k : Nat) (b : Byte) : State :=
  s.modMgt fun x => { x with cmis := Tab.set natLt (fun _ => 0) x.cmis k b }

/-- The page and the bank selected. -/
def State.cmisPage (s : State) : Nat := (s.cmisHeld 127).toNat
def State.cmisBank (s : State) : Nat := (s.cmisHeld 126).toNat

/-- The module identity block of R317: a block of all 0xFF gives identifier 0 and ASCII spaces in the vendor fields. -/
def State.identityByte (s : State) (off : Nat) : Byte :=
  let a := 0x00C00000
  let blank := (s.flashBytes a 256).all (· = 0xFF)
  if !blank then s.flashByte (a + off)
  else if off = 0 then 0
  else if (129 ≤ off ∧ off ≤ 144) ∨ (148 ≤ off ∧ off ≤ 189) then 0x20
  else 0xFF

/-- The CMIS module state: ModuleLowPwr in STANDBY, ModuleReady in ACTIVE, on the way 2 or 4. -/
def State.moduleState (s : State) : Nat :=
  let st := s.fld PWR_STATE.STATE 0
  if st = 0 then 3 else if st = 1 then 1 else if st = 3 then 2 else 4

/-- Host lane `h` and the line lane that serves it are enabled: DPActivated. -/
def State.dataPath (s : State) (h : Nat) : Nat :=
  let n := s.servedBy h
  if s.hInUse h && s.flag HSI_CTRL.RX_EN h && s.flag HSI_CTRL.TX_EN h && s.flag LRX_CTRL.ENABLE n && s.flag LTX_CTRL.ENABLE n then 4 else 1

/-- Byte 133 of page B0h, `WIN_STATUS`. -/
def WinX.status (w : WinX) : Nat :=
  (if w.ready then 1 else 0) + (if w.rej then 2 else 0) + (if w.denied then 4 else 0) + (if w.busy then 8 else 0)

/-- A byte of lower memory as a read shows it: the passwords read as 0. -/
def State.lowerByte (s : State) (off : Nat) : Byte :=
  if off = 0 then s.identityByte 0
  else if off = 1 then 0x52
  else if off = 3 then BitVec.ofNat 8 (2 * s.moduleState + if s.flag GLB_STATE.ALERT 0 then 0 else 1)
  else if 118 ≤ off ∧ off ≤ 125 then 0
  else s.cmisHeld off

/-- What the bytes of a page that the spec does not lay out come from: the image, the error counts and SNR of the media lanes, the
checkers of a bank's lanes (R316; log entry 64). -/
def State.cmisSources (s : State) (page bank : Nat) : List Nat :=
  if page ≤ 2 then s.hrn.header.map (·.toNat)
  else if page = 0x14 then
    (s.cmisHeld (cmisKey 0x14 bank 128)).toNat :: (List.range 8).flatMap fun i =>
      let x := 8 * bank + i
      [s.fld HSI_CHK_SYM.COUNT x, s.fld HSI_CHK_BIT.COUNT x, s.fld LTX_CHK_SYM.COUNT x, s.fld LTX_CHK_BIT.COUNT x]
  else (List.range 16).flatMap fun n =>
    [s.fld LFEC_IN_RX.COUNT n, s.fld LFEC_IN_FLIPS.COUNT n, s.fld LFEC_RS_BITS.COUNT n, s.fld LFEC_RS_UNCORR.COUNT n, s.fld LRX_SNR.SNR n]

/-- A byte of a page as a read shows it. -/
def State.upperByte (s : State) (page bank off : Nat) : Byte :=
  if page = 0 then s.identityByte off
  else if page ≤ 2 ∨ (0x20 ≤ page ∧ page ≤ 0x23) ∨ (page = 0x14 ∧ 192 ≤ off) then
    Config.cmisDerived page bank off (s.cmisSources page bank)
  else if page = 0xB0 then
    if off < 132 then BitVec.ofNat 8 (s.mgt.win.base / 256 ^ (off - 128))
    else if off = 132 then (if s.mgt.win.stream then 1 else 0)
    else if off = 133 then BitVec.ofNat 8 s.mgt.win.status
    else 0
  else if page = 0x11 ∧ 128 ≤ off ∧ off ≤ 131 then
    let h := 8 * bank + 2 * (off - 128)
    BitVec.ofNat 8 (s.dataPath h + 16 * s.dataPath (h + 1))
  else s.cmisHeld (cmisKey page bank off)

/-- The offset after one byte (R296). -/
def nextOffset (off : Nat) : Nat := if off = 255 then 128 else off + 1

/-- A byte of the window: byte +0 of a word captures the word in the mirror, the others return the capture (R304). -/
def State.windowRead (s : State) (m : Nat) : Byte × State :=
  let j := m / 4
  let held := s.mgt.win.mirror.getD j 0
  let w := if m % 4 = 0 then held else Tab.get (fun _ => held) s.mgt.win.caps j
  (BitVec.ofNat 8 (w / 256 ^ (m % 4)),
   if m % 4 = 0 then s.modMgt fun x => { x with win := { x.win with caps := Tab.insert natLt j held x.win.caps } } else s)

/-- The latched flags: bytes 8 to 13 of lower memory, bytes 134 to 153 of page 11h (CMIS 5.2, log entry 64). -/
def flagByte (page off : Nat) : Bool := if off < 128 then decide (8 ≤ off ∧ off ≤ 13) else decide (page = 0x11 ∧ 134 ≤ off ∧ off ≤ 153)

/-- The key of a flag byte and that of its mask. -/
def flagKeys (bank : Option (Fin 4)) (off : Nat) : Nat × Nat :=
  match bank with
  | none => (off, off + 23)
  | some b => (cmisKey 0x11 b off, cmisKey 0x10 b (off + 79))

/-- A read of the byte at the current offset; of an unsupported page it is counted. A latched flag clears as it is read. -/
def State.busReadByte (s : State) : Byte × State :=
  let off := s.mgt.bus.offset
  let page := s.cmisPage
  let s' := s.modMgt fun x => { x with bus := { x.bus with offset := nextOffset off } }
  let s' := if flagByte page off then s'.cmisHold (if off < 128 then off else cmisKey page s.cmisBank off) 0 else s'
  if off < 128 then (s.lowerByte off, s')
  else if pageOk page s.cmisBank then
    if 0xB1 ≤ page then s'.windowRead (128 * (page - 0xB1) + (off - 128)) else (s.upperByte page s.cmisBank off, s')
  else (0, s'.count MGT_BAD_ADDR.COUNT 0)

def State.busRead (s : State) : Nat → List Byte × State
  | 0 => ([], s)
  | n + 1 =>
    let (b, s) := s.busReadByte
    let (bs, s) := s.busRead n
    (b :: bs, s)

/-! ### The vendor window (R302 to R304) -/

/-- The address that word `j` of the window names. -/
def WinX.wordAddr (w : WinX) (j : Nat) : Nat := if w.stream then w.base else (w.base + 4 * j) % 2 ^ 32

def State.modWin (s : State) (f : WinX → WinX) : State := s.modMgt fun x => { x with win := f x.win }

/-- Every word of the window as the bus path may read it at this instant. What reads do to captures stays; they count nothing and
clear nothing (R304). -/
def State.windowWords (s : State) : List Nat × State :=
  let w := s.mgt.win
  (List.range 480).foldl (fun (e : List Nat × State) j =>
    let (x, _, s) := e.2.readAt .bus (w.wordAddr j)
    (e.1 ++ [x], s)) ([], s)

/-- The whole window is copied into the mirror at one instant. -/
def State.refreshWindow (s : State) : State :=
  if s.offline then s
  else
    let (ws, t) := s.windowWords
    { s with captured := t.captured }.modWin fun w => { w with mirror := ws }

/-- Staged bytes are discarded and counted. -/
def State.dropStaged (s : State) : State :=
  (s.count MGT_BAD_ADDR.COUNT 0 s.mgt.win.staged.length).modWin fun w => { w with staged := [] }

/-- The device has started again: what followed a command is lost with it. -/
def rebooted (s t : State) : Bool := decide (s.fld GLB_STATE.BOOT 0 ≠ 0 ∧ t.fld GLB_STATE.BOOT 0 = 0)

/-- A word is written through the window: one register write on the bus path, its outcome in `WIN_STATUS`, the mirror refreshed. -/
def State.windowWrite (s : State) (j x : Nat) : State :=
  let (t, st) := s.writeAt .bus (s.mgt.win.wordAddr j) x
  if rebooted s t then t
  else
    let t := t.modWin fun w => { w with rej := decide (st = .rejected), denied := decide (st = .denied), busy := decide (st = .busy) }
    if t.mgt.win.ready then t.refreshWindow else t

/-- Byte `m` of the window: bytes +0 to +2 of a word are staged, byte +3 commits the word; a byte of it that was not staged is a
free value. -/
def State.windowByte (s : State) (m : Nat) (b : Byte) : State :=
  if m % 4 ≠ 3 then s.modWin fun w => { w with staged := Tab.insert natLt m b w.staged }
  else
    let j := m / 4
    let held := s.mgt.win.staged
    let (v, s') := s.fresh
    let byte := fun i => (held.find? fun e => e.1 = 4 * j + i).map (·.2) |>.getD (BitVec.ofNat 8 (v.toNat / 256 ^ i))
    let s := if (List.range 3).all fun i => held.any fun e => e.1 = 4 * j + i then s else s'
    let s := s.modWin fun w => { w with staged := w.staged.filter fun e => e.1 / 4 ≠ j }
    s.windowWrite j (leValue [byte 0, byte 1, byte 2, b])

/-- A base is committed: with a multiple of 4 the fetch starts; another value is rejected (Table 10-3). -/
def State.commitBase (s : State) (v : Nat) : State :=
  let s := s.dropStaged
  if v % 4 = 0 then s.modWin fun w => { w with base := v, addr := v, ready := false } else s.modWin fun w => { w with rej := true }

/-- A byte of page B0h is written. -/
def State.windowControl (s : State) (off : Nat) (b : Byte) : State :=
  if off < 132 then
    let k := off - 128
    let a := s.mgt.win.addr
    let s := s.modWin fun w => { w with addr := leValue ((List.range 4).map fun i => if i = k then b else BitVec.ofNat 8 (a / 256 ^ i)) }
    if off = 131 then s.commitBase s.mgt.win.addr else s
  else if off = 132 then
    let s := s.modWin fun w => { w with stream := b.getLsbD 0 }
    if b.getLsbD 1 && s.mgt.win.ready then s.refreshWindow else s
  else s

/-! ### CMIS controls (R316, R318) -/

/-- The CMIS Tx Disable control of lane `n`. -/
def State.cmisTxDis (s : State) (n : Nat) (on : Bool) : State :=
  let m := s.pins.cmisTx
  let m := if on then m ||| BitVec.twoPow 16 n else m &&& ~~~(BitVec.twoPow 16 n)
  { s with pins := { s.pins with cmisTx := m } }.setCause n Squelch.CMIS on

/-- The nibble of lane `i` of a bank in the bytes from `off` up. -/
def State.cmisNibble (s : State) (page bank off i : Nat) : Nat :=
  (s.cmisHeld (cmisKey page bank (off + i / 2))).toNat / 16 ^ (i % 2) % 16

/-- An application code of the loaded image. No image loaded, none is advertised. -/
def State.advertised (s : State) (h app : Nat) : Bool := !s.hrn.header.isEmpty && Config.appAdvertised s.hrn.header h app

/-- Lane `h` selects an application: an advertised one enters the active set; another leaves everything but its configuration
status, 3 ConfigRejectedInvalidAppSel, as it was. -/
def State.selectApp (s : State) (h app : Nat) : State :=
  let bank := h / 8
  let i := h % 8
  let ok := s.advertised h app
  let k := cmisKey 0x11 bank (202 + i / 2)
  let old := (s.cmisHeld k).toNat
  let code := if ok then 1 else 3
  let s := s.cmisHold k (BitVec.ofNat 8 (if i % 2 = 0 then old / 16 * 16 + code else old % 16 + 16 * code))
  if ok then s.cmisHold (cmisKey 0x11 bank (206 + i)) (BitVec.ofNat 8 (16 * app)) else s

/-- The staged controls of the lanes in a mask are applied: application, output equalisation. -/
def State.applyDataPath (s : State) (bank mask : Nat) : State :=
  s.each ((List.range 8).filter fun i => mask.testBit i) fun i s =>
    let h := 8 * bank + i
    let app := (s.cmisHeld (cmisKey 0x10 bank (145 + i))).toNat / 16
    let s := s.selectApp h app
    let pre := s.cmisNibble 0x10 bank 162 i
    let post := s.cmisNibble 0x10 bank 166 i
    let amp := s.cmisNibble 0x10 bank 170 i
    if s.advertised h app ∧ pre < 8 ∧ post < 8 ∧ amp < 4 then
      (s.modHsi h fun x => { x with eqCodes := (pre, post, amp), eqWaits := false }).applyCmisEq h
    else s

/-- The pattern of a CMIS code that R139 and R199 have. -/
def cmisPattern (code : Nat) : Option Nat := if code = 0 then some 2 else if code = 6 then some 1 else if code = 12 then some 3 else none

/-- Generators or checkers of page 13h: the enables at `off`, the pattern codes from `sel` up, put in force on each lane. -/
def State.applyPrbs (s : State) (bank off sel : Nat) (put : Nat → Nat → State → State) : State :=
  let en := s.cmisHeld (cmisKey 0x13 bank off)
  s.each (List.range 8) fun i s =>
    let x := 8 * bank + i
    if en.getLsbD i then
      match cmisPattern (s.cmisNibble 0x13 bank sel i) with
      | some pat => put x pat s
      | none => s
    else put x 0 s

/-- The pattern field of a lane's generator or checker register takes a value, where it differs. -/
def putPattern (f : Field) (wr : Path → Nat → Nat → State → State × WStatus) (i pat : Nat) (s : State) : State :=
  if s.fld f i = pat then s else (wr .bus i (withField (s.writeBack f.reg i) f pat) s).1

/-- Page 13h as written is put in force. -/
def State.applyPatterns (s : State) (bank : Nat) : State :=
  let s := s.applyPrbs bank 144 148 (putPattern HSI_PAT.PAT wrHsiPat)
  let s := s.applyPrbs bank 160 164 (putPattern HSI_CHK.PAT wrHsiChk)
  if 2 ≤ bank then s
  else
    let s := s.applyPrbs bank 152 156 (putPattern LTX_PAT.PAT wrLtxPat)
    s.applyPrbs bank 168 172 (putPattern LTX_CHK.PAT wrLtxChk)

/-- A control byte that firmware serves takes effect. -/
def State.cmisApply (s : State) (page bank off : Nat) (b : Byte) : State :=
  let s := s.cmisHold (cmisKey page bank off) b
  if page = 0 ∧ off = 26 then s.setLpSw (b.getLsbD 4)
  else if page = 0x10 ∧ (off = 143 ∨ off = 144) then s.applyDataPath bank b.toNat
  else if page = 0x13 ∧ 144 ≤ off ∧ off ≤ 175 then s.applyPatterns bank
  else s

/-- A control byte is applied at once, or latched while the controllers restart; Tx Disable acts in hardware at once (R318). -/
def State.cmisControl (s : State) (page bank off : Nat) (b : Byte) : State :=
  if page = 0x10 ∧ off = 130 then
    let s := s.cmisHold (cmisKey page bank off) b
    if bank < 2 then s.each (List.range 8) fun i s =>
      if s.pins.cmisTx.getLsbD (8 * bank + i) = b.getLsbD i then s else s.cmisTxDis (8 * bank + i) (b.getLsbD i)
    else s
  else if s.headless then s.modMgt fun x => { x with cmisLater := x.cmisLater ++ [(cmisKey page bank off, b)] }
  else s.cmisApply page bank off b

/-- Latched control writes are applied, in order. -/
def State.applyLater (s : State) : State :=
  let later := s.mgt.cmisLater
  later.foldl (fun s e => s.cmisApply (e.1 / 65536) (e.1 / 256 % 256) (e.1 % 256) e.2) (s.modMgt fun x => { x with cmisLater := [] })

/-- A password is committed by its last byte; its bytes are held no longer. -/
def State.commitPassword (s : State) (off : Nat) (f : State → Nat → State) : State :=
  let v := leValue ((List.range 4).map fun i => s.cmisHeld (off + i))
  f ((List.range 4).foldl (fun s i => s.cmisHold (off + i) 0) s) v

/-- A byte of lower memory is written: a read-only or reserved byte ignores it. -/
def State.lowerWrite (s : State) (off : Nat) (b : Byte) : State :=
  if off = 126 ∨ off = 127 then s.cmisHold off b
  else if 118 ≤ off ∧ off ≤ 125 then
    let s := s.cmisHold off b
    if off = 121 then s.commitPassword 118 State.setBusPassword
    else if off = 125 then s.commitPassword 122 State.enterPassword
    else s
  else if off = 26 then s.cmisControl 0 0 off b
  else if 31 ≤ off ∧ off ≤ 36 then s.cmisHold off b
  else s

/-- A byte of a page is written (R298). -/
def State.upperWrite (s : State) (page bank off : Nat) (b : Byte) : State :=
  if !pageOk page bank then s.count MGT_BAD_ADDR.COUNT 0
  else if page = 0xB0 then s.windowControl off b
  else if 0xB1 ≤ page then s.windowByte (128 * (page - 0xB1) + (off - 128)) b
  else if page = 0x10 ∨ (page = 0x13 ∧ 144 ≤ off) ∨ (page = 0x14 ∧ off = 128) then s.cmisControl page bank off b
  else s

/-- A data byte of a private write at the current offset. A device that sleeps or starts again on the way takes no more. -/
def State.busWriteByte (s : State) (b : Byte) : State :=
  if s.offline then s
  else
    let off := s.mgt.bus.offset
    let s := s.modMgt fun x => { x with bus := { x.bus with offset := nextOffset off } }
    if off < 128 then s.lowerWrite off b else s.upperWrite s.cmisPage s.cmisBank off b

/-- The target answers: it acknowledges, with what it returns. -/
def State.busAnswer (s : State) (ack : Bool) (bs : List Byte) : State :=
  s.modMgt fun x => { x with bus := { x.bus with ack := ack, reply := bs } }

/-- A sleeping target NACKs its header (R301). -/
def busRow (f : State → State) (s : State) : Res := .next (if s.offline then s.busAnswer false [] else f s)

/-! ### Commands -/

/-- TWO_WIRE_WRITE (R296, R298): a private write of an offset and data bytes; `err` tells that the target saw a protocol error in it.
At STOP, staged window bytes are discarded (R303). -/
def execTwoWireWrite (offset : Byte) (data : List Byte) (err : Bool) (s : State) : Res :=
  busRow (fun s =>
    let s := s.busAnswer true []
    let s := s.modMgt fun x => { x with bus := { x.bus with offset := offset.toNat, protoErr := x.bus.protoErr || err } }
    (data.foldl State.busWriteByte s).dropStaged) s

/-- LATCHED_FLAG_READ (R296, R299): a private read of `count` bytes from the current offset that reads the latched flags of the
classes of a mask, none of them included. -/
def execLatchedFlagRead (count : Fin 257) (classes : BitVec 10) (s : State) : Res :=
  busRow (fun s =>
    let (bs, s) := s.busRead count
    (s.busAnswer true bs).clearAlerts classes.toNat) s

/-- The target has no dynamic address: it takes none of the commands of I3C. -/
def i3cRow (f : State → State) (s : State) : Res :=
  busRow (fun s => if s.flag MGT_BUS_STATUS.I3C 0 then f s else s.busAnswer false []) s

/-- A dynamic address is assigned to a target that has none. -/
def State.assignDyn (s : State) (dyn : Nat) : State :=
  if s.flag MGT_BUS_STATUS.I3C 0 then s.busAnswer false []
  else ((s.setFlag MGT_BUS_STATUS.I3C 0 true).setFld MGT_BUS_STATUS.DYN_ADDR 0 dyn).busAnswer true []

/-- SETDASA (R295). -/
def execSetdasa (dyn : BitVec 7) (s : State) : Res := busRow (fun s => s.assignDyn dyn.toNat) s

/-- ENTDAA (R295). -/
def execEntdaa (dyn : BitVec 7) (s : State) : Res := busRow (fun s => s.assignDyn dyn.toNat) s

/-- SETNEWDA (Table 10-1). -/
def execSetnewda (dyn : BitVec 7) (s : State) : Res :=
  i3cRow (fun s => (s.setFld MGT_BUS_STATUS.DYN_ADDR 0 dyn.toNat).busAnswer true []) s

/-- RSTDAA (R295, Table 10-4): I2C operation at the static address, and USER; only ALERT_N signals then (R300). -/
def execRstdaa (s : State) : Res :=
  i3cRow (fun s => ((s.dropDynAddr.dropRole).modMgt fun x => { x with ibi := [] }).busAnswer true []) s

/-- Events that ENEC and DISEC name: only ENINT is taken. -/
def eventsOk (events : Byte) : Bool := decide (events.toNat ≤ 1)

/-- ENEC (Table 10-1). -/
def execEnec (events : Byte) (s : State) : Res :=
  i3cRow (fun s => if eventsOk events then
    (if events.getLsbD 0 then s.setFlag MGT_BUS_STATUS.ENINT 0 true else s).busAnswer true [] else s.busAnswer false []) s

/-- DISEC (Table 10-1). -/
def execDisec (events : Byte) (s : State) : Res :=
  i3cRow (fun s => if eventsOk events then
    (if events.getLsbD 0 then s.setFlag MGT_BUS_STATUS.ENINT 0 false else s).busAnswer true [] else s.busAnswer false []) s

/-- The provisioned ID of Table 10-1. -/
def State.pid (s : State) : Nat := 0x1A5B * 2 ^ 33 + 0x6416 * 2 ^ 16 + (s.fld MGT_BUS_STATUS.STATIC_ADDR 0 - 0x50) % 16 * 2 ^ 12 + 0x0A1

/-- GETPID (Table 10-1), most significant byte first. -/
def execGetpid (s : State) : Res := i3cRow (fun s => s.busAnswer true (beBytes 6 s.pid)) s

/-- GETBCR (Table 10-1). -/
def execGetbcr (s : State) : Res := i3cRow (fun s => s.busAnswer true [0x06]) s

/-- GETDCR (Table 10-1). -/
def execGetdcr (s : State) : Res := i3cRow (fun s => s.busAnswer true [0x00]) s

/-- GETMWL (Table 10-1). -/
def execGetmwl (s : State) : Res := i3cRow (fun s => s.busAnswer true (beBytes 2 s.mgt.bus.mwl)) s

/-- SETMWL (Table 10-1): below 16 it is NACKed. -/
def execSetmwl (len : BitVec 16) (s : State) : Res :=
  i3cRow (fun s => if len.toNat < 16 then s.busAnswer false []
    else (s.modMgt fun x => { x with bus := { x.bus with mwl := len.toNat } }).busAnswer true []) s

/-- GETMRL (Table 10-1): the length and the interrupt payload. -/
def execGetmrl (s : State) : Res := i3cRow (fun s => s.busAnswer true (beBytes 2 s.mgt.bus.mrl ++ [4])) s

/-- SETMRL (Table 10-1): below 16 it is NACKed. -/
def execSetmrl (len : BitVec 16) (s : State) : Res :=
  i3cRow (fun s => if len.toNat < 16 then s.busAnswer false []
    else (s.modMgt fun x => { x with bus := { x.bus with mrl := len.toNat } }).busAnswer true []) s

/-- GETMXDS (Table 10-1): 12.5 MHz for write and read, turnaround at most 12 ns, as I3C Basic codes them (log entry 64). -/
def execGetmxds (s : State) : Res := i3cRow (fun s => s.busAnswer true [0x00, 0x20]) s

/-- GETSTATUS (Table 10-1). -/
def execGetstatus (s : State) : Res :=
  i3cRow (fun s =>
    let bits := s.fld MGT_ALERT_STATUS.CLASS 0
    let n := (List.range 10).countP fun i => bits.testBit i
    let v := (if s.mgt.bus.protoErr then 32 else 0) + min 15 n
    (s.modMgt fun x => { x with bus := { x.bus with protoErr := false } }).busAnswer true (beBytes 2 v)) s

/-- UNSUPPORTED_CCC (Table 10-1). -/
def execUnsupportedCcc (s : State) : Res := busRow (fun s => s.busAnswer false []) s

/-- WIN_ADDR_COMMIT (R302): byte 131 is written; `value` is the four bytes. -/
def execWinAddrCommit (value : Word32) (s : State) : Res := busRow (fun s => (s.commitBase value.toNat).busAnswer true []) s

/-- WINDOW_WORD_COMMIT (R303): byte +3 of word `j` is written; `value` is the word. -/
def execWindowWordCommit (j : Fin 480) (value : Word32) (s : State) : Res :=
  busRow (fun s =>
    let s := s.modWin fun w => { w with staged := w.staged.filter fun e => e.1 / 4 ≠ j }
    (s.windowWrite j value.toNat).busAnswer true []) s

/-- WIN_REFRESH (R304). -/
def execWinRefresh (s : State) : Res := busRow (fun s => (if s.mgt.win.ready then s.refreshWindow else s).busAnswer true []) s

/-- WINDOW_REFRESH (R304): every 100 µs. -/
def execWindowRefresh (s : State) : Res := .next (if s.mgt.win.ready then s.refreshWindow else s)

/-- WINDOW_FETCH_DONE (R304). -/
def execWindowFetchDone (s : State) : Res :=
  .next (if s.mgt.win.ready then s else s.refreshWindow.modWin fun w => { w with ready := true })

/-- A two-byte CMIS monitor, most significant byte first. -/
def State.monitorAt (s : State) (page bank off v : Nat) : State :=
  (s.cmisHold (cmisKey page bank off) (BitVec.ofNat 8 (v / 256))).cmisHold (cmisKey page bank (off + 1)) (BitVec.ofNat 8 v)

/-- The monitors as firmware computes them (R318, R388): temperature in 1/256 °C, supply, and per media lane power and bias; the
converter block failed its test: they read 0. -/
def State.refreshMonitors (s : State) : State :=
  let mon := fun c => if s.partFailed 11 then 0 else s.monValue c
  let t := (BitVec.ofNat 12 (s.fld THM_SENSOR.TEMP (s.fld THM_STATUS.HOT 0))).toInt * 32
  let s := s.monitorAt 0 0 14 (BitVec.ofInt 16 t).toNat
  let s := s.monitorAt 0 0 16 (mon (s.fld HKA_MON_VCC.CH 0))
  s.each lanes16 fun n s =>
    let s := s.monitorAt 0x11 (n / 8) (154 + 2 * (n % 8)) (mon (s.fld HKA_MON.TXPWR n))
    let s := s.monitorAt 0x11 (n / 8) (170 + 2 * (n % 8)) (mon (s.fld HKA_MON.TXBIAS n))
    s.monitorAt 0x11 (n / 8) (186 + 2 * (n % 8)) (mon (s.fld HKA_MON.RXPWR n))

/-- The byte is one of latched flags: of lower memory, or of page 11h in a bank. -/
def flagAt (f : CmisFlag) : Bool :=
  match f.bank with
  | none => decide (f.off.toNat < 128) && flagByte 0 f.off.toNat
  | some _ => decide (128 ≤ f.off.toNat) && flagByte 0x11 f.off.toNat

/-- Flag bits are latched at a byte; one that no mask bit covers sets class CMIS (Tables 10-2, 10-9). -/
def State.latchFlags (s : State) (f : CmisFlag) : State :=
  if !flagAt f then s
  else
    let (k, m) := flagKeys f.bank f.off.toNat
    let t := s.cmisHold k (s.cmisHeld k ||| f.bits)
    if f.bits &&& ~~~(s.cmisHeld m) = 0 then t else t.alert Alert.CMIS

/-- CMIS_MONITOR_REFRESH (R297): every 10 ms, not while the controllers restart; `flags` are the flags that set. -/
def execCmisMonitorRefresh (flags : List CmisFlag) (s : State) : Res :=
  .next (if s.offline ∨ s.headless then s else flags.foldl State.latchFlags s.refreshMonitors)

/-- APPLICATION_SELECT (R316): while the controllers restart it waits (R318). -/
def execApplicationSelect (h : HLane) (app : Fin 16) (s : State) : Res :=
  .next (if s.offline then s
    else if s.headless then
      let k := cmisKey 0x10 (h / 8)
      s.modMgt fun x => { x with cmisLater := x.cmisLater ++
        [(k (145 + h % 8), BitVec.ofNat 8 (16 * app)), (k 143, BitVec.ofNat 8 (2 ^ (h % 8 : Nat)))] }
    else s.selectApp h app)

end Sys2Proof.Machine
end

