-- ==== Sys2Proof/Machine/Spdm.lean ====
section
/-! DEFINITION. Attestation: the SPDM 1.2 responder of R339. The layouts and codes of its messages are those of DMTF DSP0274 1.2
(log entry 66). -/
namespace Sys2Proof.Machine

/-- Request codes. -/
abbrev Spdm.GET_VERSION : Nat := 0x84
abbrev Spdm.GET_CAPABILITIES : Nat := 0xE1
abbrev Spdm.NEGOTIATE_ALGORITHMS : Nat := 0xE3
abbrev Spdm.GET_DIGESTS : Nat := 0x81
abbrev Spdm.GET_CERTIFICATE : Nat := 0x82
abbrev Spdm.CHALLENGE : Nat := 0x83
abbrev Spdm.GET_MEASUREMENTS : Nat := 0xE0

/-- Error codes. -/
abbrev SpdmErr.INVALID : Nat := 0x01
abbrev SpdmErr.UNEXPECTED : Nat := 0x04
abbrev SpdmErr.UNSPECIFIED : Nat := 0x05
abbrev SpdmErr.UNSUPPORTED : Nat := 0x07
abbrev SpdmErr.VERSION : Nat := 0x41

/-- An ERROR response. -/
def spdmError (code : Nat) : List Byte := ascii [0x12, 0x7F, code, 0]

/-- A request read: its code, its two parameters. -/
def spdmCode (m : List Byte) : Nat := byteAt m 1

/-! ### The certificate chain (R326, R327) -/

/-- The length of a DER element that starts in `bs`; 0 where none does. -/
def derSize (bs : List Byte) : Nat :=
  let l := byteAt bs 1
  if byteAt bs 0 ≠ 0x30 then 0
  else if l < 0x80 then 2 + l
  else if l = 0x81 then 3 + byteAt bs 2
  else if l = 0x82 then 4 + 256 * byteAt bs 2 + byteAt bs 3
  else 0

/-- The certificate of flash that starts at `a`. -/
def State.certAt (s : State) (a : Nat) : List Byte := s.flashBytes a (derSize (s.flashBytes a 4))

/-- The chain of slot 0: length, two zero bytes, digest of the root, the three certificates of flash, the AK certificate, whose serial
is the low 64 bits of the firmware measurement. -/
def State.certChain (s : State) : List Byte :=
  let root := s.certAt 0x00C10000
  let mid := s.certAt (0x00C10000 + root.length)
  let dev := s.certAt (0x00C10000 + root.length + mid.length)
  let certs := root ++ mid ++ dev ++ Config.akCert devKey (s.fld SEC_MEAS.DIGEST 1 % 2 ^ 64) (Config.publicKey s.akKey)
  leBytes 2 (4 + 64 + certs.length) ++ [0, 0] ++ sha512 root ++ certs

/-! ### Signatures -/

/-- "dmtf-spdm-v1.2.*" four times, then the context of a signature right-justified in 36 bytes. -/
def spdmPrefix (context : List Nat) : List Byte :=
  let v := ascii [0x64, 0x6D, 0x74, 0x66, 0x2D, 0x73, 0x70, 0x64, 0x6D, 0x2D, 0x76, 0x31, 0x2E, 0x32, 0x2E, 0x2A]
  v ++ v ++ v ++ v ++ List.replicate (36 - context.length) 0 ++ ascii context

/-- "responder-challenge_auth signing". -/
def challengeContext : List Nat :=
  [0x72, 0x65, 0x73, 0x70, 0x6F, 0x6E, 0x64, 0x65, 0x72, 0x2D, 0x63, 0x68, 0x61, 0x6C, 0x6C, 0x65, 0x6E, 0x67, 0x65, 0x5F, 0x61,
   0x75, 0x74, 0x68, 0x20, 0x73, 0x69, 0x67, 0x6E, 0x69, 0x6E, 0x67]

/-- "responder-measurements signing". -/
def measurementContext : List Nat :=
  [0x72, 0x65, 0x73, 0x70, 0x6F, 0x6E, 0x64, 0x65, 0x72, 0x2D, 0x6D, 0x65, 0x61, 0x73, 0x75, 0x72, 0x65, 0x6D, 0x65, 0x6E, 0x74,
   0x73, 0x20, 0x73, 0x69, 0x67, 0x6E, 0x69, 0x6E, 0x67]

/-- The signature of a transcript by AK. -/
def State.spdmSign (s : State) (context : List Nat) (transcript : List Byte) : List Byte :=
  Config.ecdsaSign s.akKey (spdmPrefix context ++ sha512 transcript)

/-- The device can prove its identity: `ID_STATE` is OK, AK exists, no debug token is in force (R339). -/
def State.canAttest (s : State) : Bool := decide (s.fld SEC_STATUS.ID_STATE 0 = 0) && s.sec.ak && !s.flag GLB_STATE.DEBUG 0

/-! ### Responses -/

/-- The transcript of the version, capability and algorithm messages grows; the step of the negotiation that has been made. -/
def State.spdmStep (s : State) (k : Nat) (req resp : List Byte) : List Byte × State :=
  (resp, s.modSec fun x => { x with
    spdm := k, spdmLog := (if k = 1 then [] else x.spdmLog) ++ req ++ resp
    spdmCert := if k = 1 then [] else x.spdmCert, spdmMeas := [] })

/-- VERSION: 1.2 only. -/
def versionResponse : List Byte := ascii [0x10, 0x04, 0, 0, 0, 1, 0x00, 0x12]

/-- CAPABILITIES: certificates, challenge, signed measurements; the transfer size of a message body. The spec gives no exponent for the
time of a signature: a free value. -/
def capabilities (exponent : Nat) : List Byte :=
  ascii [0x12, 0x61, 0, 0, 0, exponent % 256, 0, 0] ++ leBytes 4 0x16 ++ leBytes 4 1024 ++ leBytes 4 1024

/-- ALGORITHMS: DMTF measurements, SHA-512 for them, ECDSA P-521, SHA-512. -/
def algorithms : List Byte :=
  ascii [0x12, 0x63, 0, 0] ++ leBytes 2 36 ++ [1, 0] ++ leBytes 4 8 ++ leBytes 4 0x100 ++ leBytes 4 4 ++ List.replicate 16 0

/-- The requester offers P-521 and SHA-512. -/
def algorithmsFit (m : List Byte) : Bool := (fieldAt m 8 4).testBit 8 && (fieldAt m 12 4).testBit 2

/-- A message of the certificate transcript. -/
def State.spdmCertStep (s : State) (req resp : List Byte) : List Byte × State :=
  (resp, s.modSec fun x => { x with spdmCert := x.spdmCert ++ req ++ resp, spdmMeas := [] })

/-- CERTIFICATE: a portion of at most 960 bytes. -/
def State.certificate (s : State) (m : List Byte) : List Byte × State :=
  let chain := s.certChain
  let off := fieldAt m 4 2
  if byteAt m 2 ≠ 0 ∨ chain.length ≤ off then (spdmError SpdmErr.INVALID, s)
  else
    let part := slice chain off (min 960 (fieldAt m 6 2))
    s.spdmCertStep m (ascii [0x12, 0x02, 0, 0] ++ leBytes 2 part.length ++ leBytes 2 (chain.length - off - part.length) ++ part)

/-- The digest of measurement `i`, byte 0 first. -/
def State.measBytes (s : State) (i : Nat) : List Byte := leBytes 64 (s.fld SEC_MEAS.DIGEST (i - 1))

/-- The block of measurement `i`: DMTF, a digest, its kind by index (1 immutable ROM, 2 mutable firmware, the others configuration). -/
def State.measBlock (s : State) (i : Nat) : List Byte :=
  [BitVec.ofNat 8 i, 1] ++ leBytes 2 67 ++ [if i = 1 then 0 else if i = 2 then 1 else 3] ++ leBytes 2 64 ++ s.measBytes i

/-- The indices 1 to 7. -/
def measIndices : List Nat := (List.range 7).map (· + 1)

/-- The nonce of a response: 32 fresh bytes. -/
def State.freshNonce (s : State) : List Byte × State :=
  let (v, s) := s.fresh
  (leBytes 32 v.toNat, s)

/-- CHALLENGE_AUTH. -/
def State.challenge (s : State) (m : List Byte) : List Byte × State :=
  let kind := byteAt m 3
  if !s.canAttest then (spdmError SpdmErr.UNSPECIFIED, s)
  else if m.length < 36 ∨ byteAt m 2 ≠ 0 ∨ ¬(kind = 0 ∨ kind = 1 ∨ kind = 255) then (spdmError SpdmErr.INVALID, s)
  else
    let (nonce, s) := s.freshNonce
    let summary := if kind = 0 then [] else sha512 (measIndices.flatMap s.measBlock)
    let head := ascii [0x12, 0x03, 0, 1] ++ sha512 s.certChain ++ nonce ++ summary ++ [0, 0]
    let sig := s.spdmSign challengeContext (s.sec.spdmLog ++ s.sec.spdmCert ++ m ++ head)
    (head ++ sig, s.modSec fun x => { x with spdmCert := [], spdmMeas := [] })

/-- MEASUREMENTS: the number of indices, all of them, or one; signed or unsigned. -/
def State.measurements (s : State) (m : List Byte) : List Byte × State :=
  let signed := (byteAt m 2).testBit 0
  let op := byteAt m 3
  if signed && !s.canAttest then (spdmError SpdmErr.UNSPECIFIED, s)
  else if (signed ∧ (m.length < 37 ∨ byteAt m 36 % 16 ≠ 0)) ∨ ¬(op ≤ 7 ∨ op = 255) then (spdmError SpdmErr.INVALID, s)
  else
    let is := if op = 0 then [] else if op = 255 then measIndices else [op]
    let body := is.flatMap s.measBlock
    let (nonce, s) := s.freshNonce
    let head := ascii [0x12, 0x60, if op = 0 then 7 else 0, 0, is.length] ++ leBytes 3 body.length ++ body ++ nonce ++ [0, 0]
    let l := s.sec.spdmMeas ++ m ++ head
    if signed then
      (head ++ s.spdmSign measurementContext (s.sec.spdmLog ++ l), s.modSec fun x => { x with spdmMeas := [] })
    else (head, s.modSec fun x => { x with spdmMeas := l })

/-- An SPDM request and its response (R339). -/
def State.spdm (s : State) (m : List Byte) : List Byte × State :=
  let code := spdmCode m
  let v := byteAt m 0
  let k := s.sec.spdm
  if m.length < 4 then (spdmError SpdmErr.INVALID, s)
  else if code = Spdm.GET_VERSION then
    if v = 0x10 then s.spdmStep 1 m versionResponse else (spdmError SpdmErr.VERSION, s)
  else if ¬(code = Spdm.GET_CAPABILITIES ∨ code = Spdm.NEGOTIATE_ALGORITHMS ∨ code = Spdm.GET_DIGESTS ∨ code = Spdm.GET_CERTIFICATE ∨
      code = Spdm.CHALLENGE ∨ code = Spdm.GET_MEASUREMENTS) then (spdmError SpdmErr.UNSUPPORTED, s)
  else if v ≠ 0x12 then (spdmError SpdmErr.VERSION, s)
  else if code = Spdm.GET_CAPABILITIES then
    if k ≠ 1 then (spdmError SpdmErr.UNEXPECTED, s)
    else
      let (f, s) := s.fresh
      s.spdmStep 2 m (capabilities f.toNat)
  else if code = Spdm.NEGOTIATE_ALGORITHMS then
    if k ≠ 2 then (spdmError SpdmErr.UNEXPECTED, s)
    else if algorithmsFit m then s.spdmStep 3 m algorithms else (spdmError SpdmErr.INVALID, s)
  else if k ≠ 3 then (spdmError SpdmErr.UNEXPECTED, s)
  else if code = Spdm.GET_DIGESTS then s.spdmCertStep m (ascii [0x12, 0x01, 0, 1] ++ sha512 s.certChain)
  else if code = Spdm.GET_CERTIFICATE then s.certificate m
  else if code = Spdm.CHALLENGE then s.challenge m
  else s.measurements m

end Sys2Proof.Machine
end

