-- ==== Sys2Proof/Machine/Causeway.lean ====
section
/-! DEFINITION. Causeway: messages, transports, sessions, the tunnel, notifications (R308 to R315, R336 to R338). -/
namespace Sys2Proof.Machine

/-- Message types (Table 10-6). -/
abbrev Cw.READ : Nat := 1
abbrev Cw.WRITE : Nat := 2
abbrev Cw.READ_BLOCK : Nat := 3
abbrev Cw.WRITE_BLOCK : Nat := 4
abbrev Cw.IMAGE_CHUNK : Nat := 5
abbrev Cw.SESSION : Nat := 6
abbrev Cw.ATTEST : Nat := 7
abbrev Cw.NOTIFY : Nat := 8

/-- Reply status (Table 10-7). -/
abbrev CwSt.OK : Nat := 0
abbrev CwSt.DENIED : Nat := 1
abbrev CwSt.BAD_ADDR : Nat := 2
abbrev CwSt.BAD_LEN : Nat := 3
abbrev CwSt.BUSY : Nat := 4
abbrev CwSt.AUTH_FAIL : Nat := 5
abbrev CwSt.NO_SESSION : Nat := 6
abbrev CwSt.REJECTED : Nat := 7
abbrev CwSt.UNREACHABLE : Nat := 8
abbrev CwSt.BAD_MSG : Nat := 9

/-! ### Messages (R309) -/

/-- The fields of a message. -/
def cwType (m : List Byte) : Nat := byteAt m 1
def cwFlags (m : List Byte) : Nat := byteAt m 2
def cwLen (m : List Byte) : Nat := fieldAt m 4 2
def cwLane (m : List Byte) : Nat := byteAt m 6
def cwSession (m : List Byte) : Nat := fieldAt m 8 2
def cwTag (m : List Byte) : Nat := fieldAt m 12 4
def cwAuth (m : List Byte) : Bool := (cwFlags m).testBit 0
def cwTunnel (m : List Byte) : Bool := (cwFlags m).testBit 1
def cwBody (m : List Byte) : List Byte := slice m 16 (cwLen m)
def cwSigned (m : List Byte) : List Byte := m.take (16 + cwLen m)
def cwTrailer (m : List Byte) : List Byte := slice m (16 + cwLen m) 32
def cwSize (m : List Byte) : Nat := 16 + cwLen m + if cwAuth m then 32 else 0

/-- The operation of a SESSION message. -/
def cwOp (m : List Byte) : Nat := byteAt m 16

/-- A request laid out as Table 10-6 states; what an Ethernet frame carries beyond it is padding. -/
def cwOk (padded : Bool) (m : List Byte) : Bool :=
  decide (16 ≤ m.length) && decide (byteAt m 0 = 1) && decide (1 ≤ cwType m ∧ cwType m ≤ 7) && decide (cwFlags m < 4) &&
    decide (byteAt m 3 = 0) && decide (cwLen m ≤ 1024) && decide (cwSize m = m.length ∨ (padded ∧ cwSize m < m.length)) &&
    decide (if cwTunnel m then cwLane m < 16 else cwLane m = 255) && decide (byteAt m 7 = 0) && decide (fieldAt m 10 2 = 0)

/-- The first 256 bits of HMAC-SHA-512 (R309). -/
def hmac256 (key msg : List Byte) : List Byte := (hmac key msg).take 32

/-- A message with its header; with a key it carries the trailer. -/
def cwMake (type status session tag : Nat) (body key : List Byte) : List Byte :=
  let m := ascii [1, type, if key.isEmpty then 0 else 1, status] ++ leBytes 2 body.length ++ ascii [255, 0] ++ leBytes 2 session ++
    [0, 0] ++ leBytes 4 tag ++ body
  if key.isEmpty then m else m ++ hmac256 key m

/-! ### Transports (R308, R311) -/

/-- The transport of a message. -/
def viaTransport : Via → Transport
  | .eth _ _ => .ethernet
  | .cinch _ => .cinch
  | .tunnel _ => .tunnel

/-- The path of a message outside a session (R305). -/
def viaPath : Via → Path
  | .eth _ _ => .causeway .ethernet
  | .cinch _ => .causeway .cinch
  | .tunnel _ => .tunnel

/-- The transport is there: a port whose host lanes are LOCKED and that takes Causeway frames (R160, R187), a host lane of Cinch, a far node on a locked lane. -/
def State.viaUp (s : State) : Via → Bool
  | .eth p _ => !s.offline && s.portHears p && (s.fld HPM_PORT_CFG.FLAGS p).testBit 0
  | .cinch h => !s.offline && decide (s.hrx h = HRx.LOCKED) && decide (s.hsvc h = Svc.CINCH)
  | .tunnel node => !s.offline && s.flag MGT_CW_CFG.TUNNEL_EN 0 && !(s.nodeLanes node.toNat).isEmpty

/-- The entries of a CONTROL cell that carry a message: 29 bytes each, the unused ones zero. -/
def cwEntries (m : List Byte) : List (List Byte) :=
  let k := (m.length + 28) / 29
  (List.range k).map fun i =>
    let d := slice m (29 * i) 29
    ascii [2, (if i = 0 then 128 else 0) + (if i + 1 = k then 64 else 0) + i % 64, d.length] ++ d ++ List.replicate (29 - d.length) 0

/-- A message waits for the lanes of a far node. -/
def State.tunSend (s : State) (node : Nat) (m : List Byte) : State :=
  let put := fun (t : TunTx) => if t.node = node then { t with msgs := t.msgs ++ [m] } else t
  s.modMgt fun x => { x with
    tun := if x.tun.any fun t => t.node = node then x.tun.map put else x.tun ++ [{ node := node, msgs := [m] }] }

/-- A message is sent. -/
def State.cwSend (s : State) (via : Via) (m : List Byte) : State :=
  let s := s.count MGT_CW_TX.COUNT 0
  match via with
  | .eth p src => (s.modMgt fun x => { x with eth := Tab.insert natLt p (src.toNat, m) x.eth }).modHpm p fun x =>
    { x with cwOut := x.cwOut ++ frameBlks src.toNat (s.fld MGT_CW_MAC.MAC 0) m }
  | .cinch h => if s.hsvc h = Svc.CINCH then s.modHsi h fun x => { x with entries := x.entries ++ cwEntries m } else s
  | .tunnel node => s.tunSend node.toNat m

/-- A reply: it echoes `TYPE` with bit 7, `TAG` and `SESSION`. -/
def State.cwReply (s : State) (via : Via) (m : List Byte) (status : Nat) (body key : List Byte) : State :=
  let s := if status = CwSt.AUTH_FAIL then s.count MGT_CW_AUTH_FAIL.COUNT 0 else s
  s.cwSend via (cwMake (128 + cwType m % 128) status (cwSession m) (cwTag m) body key)

/-! ### Sessions (R313, R336 to R338) -/

def State.sessOf (s : State) (k : Nat) : SessX := Tab.get (fun _ => {}) s.mgt.sess k
def State.modSess (s : State) (k : Nat) (f : SessX → SessX) : State := s.modMgt fun x => { x with sess := tabMod {} x.sess k f }

/-- The slot of an open session. -/
def State.sessionAt (s : State) (num : Nat) : Option Nat :=
  [0, 1, 2, 3].find? fun k => s.flag MGT_SESSION.OPEN k && decide (s.fld MGT_SESSION.NUMBER k = num)

/-- The trailer of a message of session `k` is right and its `TAG` newer. -/
def State.cwAuthentic (s : State) (k : Nat) (m : List Byte) : Bool :=
  let x := s.sessOf k
  let ahead := (cwTag m + 2 ^ 32 - x.rx) % 2 ^ 32
  cwAuth m && decide (cwTrailer m = hmac256 x.kReq (cwSigned m)) && decide (1 ≤ ahead ∧ ahead < 2 ^ 31)

/-- A valid message of session `k` (R313). -/
def State.sessionUsed (s : State) (k : Nat) (via : Via) (m : List Byte) : State :=
  let s := s.modSess k fun x => { x with via := via, rx := cwTag m, fails := 0, used := s.cycle }
  s.setFld MGT_SESSION.TRANSPORT k (transportCode (viaTransport via))

/-- A message of session `k` fails: the sixteenth in a row closes the session. -/
def State.sessionFail (s : State) (k : Nat) : State :=
  let s := s.modSess k fun x => { x with fails := x.fails + 1 }
  if 16 ≤ (s.sessOf k).fails then s.closeSession k else s

/-- A session number not in use: the one that a free value gives, else the lowest. -/
def State.newNumber (s : State) : Nat × State :=
  let (v, s) := s.fresh
  let n := v.toNat % 65536
  if n ≠ 0 ∧ (s.sessionAt n).isNone then (n, s) else (((List.range 5).map (· + 1)).find? (fun k => (s.sessionAt k).isNone) |>.getD 1, s)

/-- What the handling of a request answers: status, body of the reply, the state. -/
abbrev CwRes := Nat × List Byte × State

/-- KEY_EXCHANGE (R336, R337). -/
def State.keyExchange (s : State) (via : Via) (m : List Byte) : CwRes :=
  let b := cwBody m
  let qm := slice b 36 133
  if b.length ≠ 172 ∨ !allZero (slice b 1 3) ∨ !allZero (slice b 169 3) then (CwSt.BAD_MSG, [], s)
  else if !s.sec.ak then (CwSt.DENIED, [], s)
  else if byteAt qm 0 ≠ 4 ∨ !Config.onCurve qm then (CwSt.BAD_MSG, [], s)
  else match [0, 1, 2, 3].find? fun k => !s.flag MGT_SESSION.OPEN k with
    | none => (CwSt.BUSY, [], s)
    | some k =>
      let (num, s) := s.newNumber
      let (nd, s) := s.freshNonce
      let (eph, s) := s.freshKey
      let s := s.modSec fun x => { x with eph := x.eph + 1 }
      let head := [1, 0] ++ leBytes 2 num ++ nd ++ [4] ++ Config.publicKey eph ++ [0, 0, 0]
      let th := sha512 (b ++ head)
      let prk := hmac (slice b 4 32 ++ nd) (Config.ecdhSecret eph qm)
      let key := fun (label : List Nat) => hmac prk (th ++ ascii label ++ [1])
      let s := s.modSess k fun _ => { via := via, th := th, kReq := key [0x72, 0x65, 0x71], kRsp := key [0x72, 0x73, 0x70],
                                      kFin := key [0x66, 0x69, 0x6E], rx := cwTag m, used := s.cycle }
      let s := ((s.resetReg .MGT_SESSION k).setFlag MGT_SESSION.OPEN k true).setFld MGT_SESSION.NUMBER k num
      let s := (s.setFld MGT_SESSION.ROLE k Role.USER).setFld MGT_SESSION.TRANSPORT k (transportCode (viaTransport via))
      (CwSt.OK, head ++ Config.ecdsaSign s.akKey th, s)

/-- FINISH proves the role: V, for ADMIN the slot of the key that signed too (R338). -/
def State.finishProof (s : State) (k : Nat) (b : List Byte) : Option (Option Nat) :=
  let x := s.sessOf k
  let role := byteAt b 1
  let pwd := match s.sec.pwd with
    | some p => p.toNat
    | none => 0
  let v := hmac256 x.kFin (x.th ++ [BitVec.ofNat 8 role] ++ if role = Role.OPERATOR then leBytes 4 pwd else [])
  if slice b 8 32 ≠ v ∨ (role ≠ Role.USER ∧ s.lockedOut) ∨ (role = Role.OPERATOR ∧ pwd = 0) then none
  else if role ≠ Role.ADMIN then some none
  else match s.ownerKey (fieldAt b 4 4) Kind.ADMIN with
    | none => none
    | some slot =>
      let msg := x.th ++ magicNZ 0x41 0x44 ++ [BitVec.ofNat 8 role]
      if Config.ecdsaVerify (s.slotKey slot) msg (slice b 40 66) (slice b 106 66) then some (some slot) else none

/-- FINISH (R338): the role is granted, or the session closes. -/
def State.finish (s : State) (k : Nat) (m : List Byte) : CwRes :=
  let b := cwBody m
  let role := byteAt b 1
  if b.length ≠ 172 ∨ role = 0 ∨ 3 < role ∨ !allZero (slice b 2 2) ∨ (role ≠ Role.ADMIN ∧ !allZero (slice b 40 132)) then
    (CwSt.BAD_MSG, [], s)
  else match s.finishProof k b with
    | some admin =>
      let s := s.modSess k fun x => { x with done := true, admin := admin }
      (CwSt.OK, [2, BitVec.ofNat 8 role], s.setFld MGT_SESSION.ROLE k role)
    | none =>
      let s := if s.lockedOut ∧ role ≠ Role.USER then s else s.authFailure
      (CwSt.DENIED, [], s.closeSession k)

/-- SUBSCRIBE (R313): the classes of Table 10-2 that the session is told of. -/
def State.subscribe (s : State) (k : Nat) (m : List Byte) : CwRes :=
  let b := cwBody m
  if b.length ≠ 8 then (CwSt.BAD_LEN, [], s)
  else
    let classes := fieldAt b 4 4 % 1024
    let s := s.setFld MGT_SESSION.CLASSES k classes
    (CwSt.OK, [4], s.modMgt fun x => { x with notify := x.notify.set k { classes := classes } })

/-! ### Requests (Table 10-8) -/

/-- The status that a register access leaves. -/
def cwStatus : WStatus → Nat
  | .ok => CwSt.OK
  | .denied => CwSt.DENIED
  | .rejected => CwSt.REJECTED
  | .busy => CwSt.BUSY
  | .badAddr => CwSt.BAD_ADDR

/-- READ. -/
def State.cwRead (s : State) (p : Path) (b : List Byte) : CwRes :=
  if b.length ≠ 4 then (CwSt.BAD_LEN, [], s)
  else
    let (x, st, s) := s.readAt p (fieldAt b 0 4)
    (cwStatus st, b ++ leBytes 4 x, s)

/-- WRITE. -/
def State.cwWrite (s : State) (p : Path) (b : List Byte) : CwRes :=
  if b.length ≠ 8 then (CwSt.BAD_LEN, [], s)
  else
    let (s, st) := s.writeAt p (fieldAt b 0 4) (fieldAt b 4 4)
    (cwStatus st, b.take 4, s)

/-- Consecutive words read: the values, and the first status that is not OK. -/
def State.readWords (s : State) (p : Path) (a : Nat) : Nat → List Byte × Nat × State
  | 0 => ([], CwSt.OK, s)
  | n + 1 =>
    let (x, st, s) := s.readAt p a
    let (bs, st', s) := s.readWords p (a + 4) n
    (leBytes 4 x ++ bs, if st = .ok then st' else cwStatus st, s)

/-- READ_BLOCK (R310). -/
def State.cwReadBlock (s : State) (p : Path) (b : List Byte) : CwRes :=
  let n := fieldAt b 4 2
  if b.length ≠ 8 ∨ n = 0 ∨ 254 < n then (CwSt.BAD_LEN, [], s)
  else if fieldAt b 6 2 ≠ 0 then (CwSt.BAD_MSG, [], s)
  else
    let (bs, st, s) := s.readWords p (fieldAt b 0 4) n
    (st, b ++ bs, s)

/-- Words written in order up to the first refused one: how many, its status. A device that starts again takes no more. -/
def State.writeWords (s : State) (p : Path) (a : Nat) : List Nat → Nat × Nat × State
  | [] => (0, CwSt.OK, s)
  | x :: xs =>
    let (t, st) := s.writeAt p a x
    if st ≠ .ok then (0, cwStatus st, t)
    else if rebooted s t then (1, CwSt.OK, t)
    else
      let (n, st', t) := t.writeWords p (a + 4) xs
      (n + 1, st', t)

/-- WRITE_BLOCK (R310). -/
def State.cwWriteBlock (s : State) (p : Path) (b : List Byte) : CwRes :=
  let n := fieldAt b 4 2
  if n = 0 ∨ 254 < n ∨ b.length ≠ 8 + 4 * n then (CwSt.BAD_LEN, [], s)
  else if fieldAt b 6 2 ≠ 0 then (CwSt.BAD_MSG, [], s)
  else
    let (k, st, s) := s.writeWords p (fieldAt b 0 4) ((List.range n).map fun i => fieldAt b (8 + 4 * i) 4)
    (st, b.take 4 ++ leBytes 2 k ++ [0, 0], s)

/-- IMAGE_CHUNK (R283, R310). -/
def State.cwImageChunk (s : State) (p : Path) (b : List Byte) : CwRes :=
  let answer := fun (st : Nat) (s : State) => ((st, b.take 4 ++ leBytes 4 (s.fld HRN_LOAD_COUNT.COUNT 0), s) : CwRes)
  if b.length < 5 ∨ 1020 < b.length then (CwSt.BAD_LEN, [], s)
  else if s.role p < Role.ADMIN then answer CwSt.DENIED s
  else if s.loadBusy then answer CwSt.BUSY s
  else if fieldAt b 0 4 ≠ s.fld HRN_LOAD_COUNT.COUNT 0 then answer CwSt.REJECTED s
  else answer CwSt.OK (s.appendStaging (b.drop 4))

/-- SESSION (R313). -/
def State.cwSessionOp (s : State) (via : Via) (m : List Byte) (k : Option Nat) : CwRes :=
  let op := cwOp m
  if cwLen m = 0 then (CwSt.BAD_LEN, [], s)
  else if op = 1 then s.keyExchange via m
  else if op = 0 ∨ 4 < op then (CwSt.BAD_MSG, [], s)
  else match k with
    | none => (CwSt.NO_SESSION, [], s)
    | some k => if op = 2 then s.finish k m else if op = 3 then (CwSt.OK, [3], s.closeSession k) else s.subscribe k m

/-- A request on a path, of session slot `k` if it has one. -/
def State.cwServe (s : State) (via : Via) (m : List Byte) (k : Option Nat) : CwRes :=
  let p := match k with
    | some k => if h : k < 4 then .session ⟨k, h⟩ else viaPath via
    | none => viaPath via
  let t := cwType m
  let b := cwBody m
  if t = Cw.READ then s.cwRead p b
  else if t = Cw.WRITE then s.cwWrite p b
  else if t = Cw.READ_BLOCK then s.cwReadBlock p b
  else if t = Cw.WRITE_BLOCK then s.cwWriteBlock p b
  else if t = Cw.IMAGE_CHUNK then s.cwImageChunk p b
  else if t = Cw.SESSION then s.cwSessionOp via m k
  else
    let (r, s) := s.spdm b
    (CwSt.OK, r, s)

/-- A request is served and its reply goes out, authenticated in a session. A reply outlives what the request does to the session, not a
reset. -/
def State.cwAnswer (s : State) (via : Via) (m : List Byte) (k : Option Nat) : State :=
  let key := match k with
    | some k => (s.sessOf k).kRsp
    | none => []
  let (st, body, t) := s.cwServe via m k
  if rebooted s t then t
  else
    let t := if st = CwSt.BAD_MSG then t.count MGT_CW_BAD.COUNT 0 else t
    t.cwReply via m st body key

/-- A request for this device: its session is checked first (R313). -/
def State.cwHandle (s : State) (via : Via) (m : List Byte) : State :=
  if cwSession m = 0 then (if cwAuth m then s.cwReply via m CwSt.NO_SESSION [] [] else s.cwAnswer via m none)
  else match s.sessionAt (cwSession m) with
    | none => s.cwReply via m CwSt.NO_SESSION [] []
    | some k =>
      let x := s.sessOf k
      let finish := decide (cwType m = Cw.SESSION ∧ cwOp m = 2)
      if s.cwAuthentic k m && (x.done || finish) then (s.sessionUsed k via m).cwAnswer via m (some k)
      else ((s.sessionFail k).cwReply via m CwSt.AUTH_FAIL [] (if x.done then x.kRsp else []))

/-! ### The tunnel (R311, R312) -/

/-- The far node of lane `n`, where the tunnel can reach it. -/
def State.tunnelNode (s : State) (n : Nat) : Option Nat :=
  if s.flag MGT_CW_CFG.TUNNEL_EN 0 && !s.ieee n && s.locked n then (s.tlaneOf n).farNode else none

/-- A request for the far device: it goes there with `TUNNEL` cleared and `LANE` 0xFF; a message that came through the tunnel goes no
further. -/
def State.tunnelRequest (s : State) (via : Via) (m : List Byte) : State :=
  match via, s.tunnelNode (cwLane m) with
  | .tunnel _, _ => (s.count MGT_CW_BAD.COUNT 0).cwReply via m CwSt.BAD_MSG [] []
  | _, none => s.cwReply via m CwSt.UNREACHABLE [] []
  | _, some node =>
    if s.mgt.tunReq.any fun r => r.node = node then s.cwReply via m CwSt.BUSY [] []
    else
      let m' := (m.set 2 (BitVec.ofNat 8 (cwFlags m % 2))).set 6 255
      let r : TunReq := { node := node, via := via, type := cwType m, session := cwSession m, tag := cwTag m, since := s.cycle }
      (s.modMgt fun x => { x with tunReq := x.tunReq ++ [r] }).tunSend node m'

/-- A reply from the far node: it goes to the requester that waits for it; another is discarded and counted. -/
def State.tunnelReply (s : State) (node : Nat) (m : List Byte) : State :=
  match s.mgt.tunReq.find? fun r => decide (r.node = node ∧ cwType m = 128 + r.type ∧ cwSession m = r.session ∧ cwTag m = r.tag) with
  | some r => (s.modMgt fun x => { x with tunReq := x.tunReq.erase r }).cwSend r.via m
  | none => s.count MGT_TUN_DISC.COUNT 0

/-- The far node has not replied in time. -/
def State.tunnelOver (s : State) (r : TunReq) : State :=
  (s.modMgt fun x => { x with tunReq := x.tunReq.erase r }).cwSend r.via
    (cwMake (128 + r.type) CwSt.UNREACHABLE r.session r.tag [] [])

/-! ### Messages as they arrive -/

/-- A message is received. While the controllers restart, requests for a session or an image get BUSY, up to 16 others are held and
later ones are dropped and counted (R26, R315, Table 11-7). -/
def State.cwReceive (s : State) (via : Via) (m : List Byte) : State :=
  let padded := match via with
    | .eth _ _ => true
    | _ => false
  let ok := cwOk padded m
  let m := if ok then m.take (cwSize m) else m
  if s.headless then
    if ok && !cwTunnel m && (decide (cwType m = Cw.SESSION) || decide (cwType m = Cw.IMAGE_CHUNK)) then
      (s.count MGT_CW_RX.COUNT 0).cwReply via m CwSt.BUSY [] []
    else if s.mgt.held.length < 16 then s.modMgt fun x => { x with held := x.held ++ [(via, m)] }
    else s.count MGT_CW_BAD.COUNT 0
  else match via, ok with
    | .tunnel node, false =>
      if 16 ≤ m.length ∧ 128 ≤ cwType m then (s.count MGT_CW_RX.COUNT 0).tunnelReply node.toNat m
      else
        let s := s.count MGT_CW_BAD.COUNT 0
        if 16 ≤ m.length then s.cwReply via m CwSt.BAD_MSG [] [] else s
    | _, false =>
      let s := s.count MGT_CW_BAD.COUNT 0
      if 16 ≤ m.length ∧ cwType m < 128 then s.cwReply via m CwSt.BAD_MSG [] [] else s
    | _, true =>
      let s := s.count MGT_CW_RX.COUNT 0
      if cwTunnel m then s.tunnelRequest via m else s.cwHandle via m

/-- Messages held during a restart are handled in order (R315). -/
def State.cwHeld (s : State) : State :=
  let held := s.mgt.held
  held.foldl (fun s e => if s.offline then s else s.cwReceive e.1 e.2) (s.modMgt fun x => { x with held := [] })

/-- A fragment on host lane `h` (R308): out of order, or FIRST over an incomplete message, it discards what there was. -/
def State.cwFragment (s : State) (h : HLane) (entry : List Byte) : State :=
  let f := byteAt entry 1
  let n := byteAt entry 2
  let first := f.testBit 7
  let bad := fun (s : State) => s.count MGT_CW_BAD.COUNT 0
  let drop := fun (s : State) => bad (s.modHsi h fun x => { x with frag := none })
  let take := fun (r : Reassembly) (s : State) =>
    let bs := r.bytes ++ slice entry 3 n
    if n = 0 ∨ 29 < n ∨ f % 64 ≠ r.next % 64 ∨ 1072 < bs.length then drop s
    else if f.testBit 6 then (s.modHsi h fun x => { x with frag := none }).cwReceive (.cinch h) bs
    else s.modHsi h fun x => { x with frag := some { bytes := bs, next := r.next + 1 } }
  match (s.hsiOf h).frag with
  | some r => if first then take {} (bad s) else take r s
  | none => if first then take {} s else s

/-- A CAUSEWAY word from far node `node` (R311): complete when every index up to LAST's is there. -/
def State.cwWord (s : State) (node : Nat) (w : BitVec 44) : State :=
  let last := w.getLsbD 43
  let idx := (w.extractLsb' 34 9).toNat
  let n := (w.extractLsb' 32 2).toNat + 1
  let data := (beBytes 4 (w.extractLsb' 0 32).toNat).take n
  let old := (s.mgt.tunRx.find? fun r => r.node = node).getD { node := node }
  let s := if idx = 0 ∧ !old.frags.isEmpty then s.count MGT_TUN_DISC.COUNT 0 else s
  let old := if idx = 0 then { node := node } else old
  if 267 < idx then s.count MGT_TUN_DISC.COUNT 0
  else
    let r : TunRx := { old with frags := Tab.insert natLt idx data old.frags, last := if last then some idx else old.last }
    let rest := s.mgt.tunRx.filter fun r => r.node ≠ node
    let whole := match r.last with
      | some l => (List.range (l + 1)).all fun i => r.frags.any fun e => e.1 = i
      | none => false
    if whole then
      (s.modMgt fun x => { x with tunRx := rest }).cwReceive (.tunnel (BitVec.ofNat 16 node)) (r.frags.flatMap (·.2))
    else s.modMgt fun x => { x with tunRx := rest ++ [r] }

/-! ### Commands -/

/-- CAUSEWAY_FRAGMENT (R308): a type 0x02 entry of a CONTROL cell of lane `h`. -/
def execCausewayFragment (h : HLane) (entry : List Byte) (s : State) : Res :=
  .next (if s.viaUp (.cinch h) && decide (byteAt entry 0 = 2) then s.cwFragment h entry else s)

/-- CAUSEWAY_FRAME_EXTRACT (R187, R308): a frame with EtherType 0x88B5 at host ingress of port `p`. -/
def execCausewayFrameExtract (p : Fin 32) (dst src : BitVec 48) (payload : List Byte) (s : State) : Res :=
  .next (if s.viaUp (.eth p src) && decide (dst.toNat = s.fld MGT_CW_MAC.MAC 0) then s.cwReceive (.eth p src) payload else s)

/-- A row that is a kind of message: the message arrives whole. -/
def cwRow (is : List Byte → Bool) (via : Via) (msg : List Byte) (s : State) : Res :=
  .next (if s.viaUp via && is msg then s.cwReceive via msg else s)

/-- A request of a type for this device. -/
def isType (t : Nat) (m : List Byte) : Bool := decide (cwType m = t) && !cwTunnel m

/-- A SESSION request of an operation. -/
def isOp (op : Nat) (m : List Byte) : Bool := isType Cw.SESSION m && decide (cwOp m = op)

/-- An ATTEST request of an SPDM code. -/
def isSpdm (code : Nat) (m : List Byte) : Bool := isType Cw.ATTEST m && decide (byteAt m 17 = code)

/-- READ (R309). -/
def execRead (via : Via) (msg : List Byte) (s : State) : Res := cwRow (isType Cw.READ) via msg s

/-- WRITE (R309). -/
def execWrite (via : Via) (msg : List Byte) (s : State) : Res := cwRow (isType Cw.WRITE) via msg s

/-- READ_BLOCK (R310). -/
def execReadBlock (via : Via) (msg : List Byte) (s : State) : Res := cwRow (isType Cw.READ_BLOCK) via msg s

/-- WRITE_BLOCK (R310). -/
def execWriteBlock (via : Via) (msg : List Byte) (s : State) : Res := cwRow (isType Cw.WRITE_BLOCK) via msg s

/-- IMAGE_CHUNK (R283). -/
def execImageChunk (via : Via) (msg : List Byte) (s : State) : Res := cwRow (isType Cw.IMAGE_CHUNK) via msg s

/-- KEY_EXCHANGE (R336). -/
def execKeyExchange (via : Via) (msg : List Byte) (s : State) : Res := cwRow (isOp 1) via msg s

/-- FINISH (R338). -/
def execFinish (via : Via) (msg : List Byte) (s : State) : Res := cwRow (isOp 2) via msg s

/-- SESSION_CLOSE (R313). -/
def execSessionClose (via : Via) (msg : List Byte) (s : State) : Res := cwRow (isOp 3) via msg s

/-- SUBSCRIBE (R313). -/
def execSubscribe (via : Via) (msg : List Byte) (s : State) : Res := cwRow (isOp 4) via msg s

/-- SESSION_IDLE_TIMEOUT (R313): 300 s without a valid message. -/
def execSessionIdleTimeout (k : Fin 4) (s : State) : Res :=
  .next (if s.cycle < (s.sessOf k).used + cyclesOfUs 300000000 then s else s.closeSession k)

/-- The body of a NOTIFY: class code, zeros, the header of the record (R314). -/
def notifyBody (cls : Nat) (r : Option Rec) : List Byte :=
  let header := match r with
    | some r => r.bytes.take 24
    | none => List.replicate 24 0
  ascii [cls + 1, 0, 0, 0] ++ header

/-- NOTIFY_SEND (R314): what is due to session `k` goes out, no sooner than `NOTIFY_MIN` after the last; through the tunnel none goes. -/
def execNotifySend (k : Fin 4) (s : State) : Res :=
  let x := s.sessOf k
  let e := s.mgt.notify.getD k {}
  let clear := fun (s : State) => s.modMgt fun m => { m with notify := m.notify.set k { e with due := none } }
  let soon := match x.notified with
    | some c => decide (s.cycle < c + cyclesOfUs (10 * s.fld MGT_CW_CFG.NOTIFY_MIN 0))
    | none => false
  match e.due, x.via with
  | none, _ => .next s
  | some _, .tunnel _ => .next (clear s)
  | some (cls, r), via =>
    if soon || s.headless || s.offline || !x.done then .next s
    else
      let s := (clear s).modSess k fun x => { x with tx := x.tx + 1, notified := some s.cycle }
      .next (s.cwSend via (cwMake Cw.NOTIFY 0 (s.fld MGT_SESSION.NUMBER k) ((x.tx + 1) % 2 ^ 32) (notifyBody cls r) x.kRsp))

/-- GET_VERSION (R339). -/
def execGetVersion (via : Via) (msg : List Byte) (s : State) : Res := cwRow (isSpdm Spdm.GET_VERSION) via msg s

/-- GET_CAPABILITIES (R339). -/
def execGetCapabilities (via : Via) (msg : List Byte) (s : State) : Res := cwRow (isSpdm Spdm.GET_CAPABILITIES) via msg s

/-- NEGOTIATE_ALGORITHMS (R339). -/
def execNegotiateAlgorithms (via : Via) (msg : List Byte) (s : State) : Res := cwRow (isSpdm Spdm.NEGOTIATE_ALGORITHMS) via msg s

/-- GET_DIGESTS (R339). -/
def execGetDigests (via : Via) (msg : List Byte) (s : State) : Res := cwRow (isSpdm Spdm.GET_DIGESTS) via msg s

/-- GET_CERTIFICATE (R339). -/
def execGetCertificate (via : Via) (msg : List Byte) (s : State) : Res := cwRow (isSpdm Spdm.GET_CERTIFICATE) via msg s

/-- CHALLENGE (R339). -/
def execChallenge (via : Via) (msg : List Byte) (s : State) : Res := cwRow (isSpdm Spdm.CHALLENGE) via msg s

/-- GET_MEASUREMENTS (R340). -/
def execGetMeasurements (via : Via) (msg : List Byte) (s : State) : Res := cwRow (isSpdm Spdm.GET_MEASUREMENTS) via msg s

/-- The SPDM requests that are answered. -/
def spdmCodes : List Nat :=
  [Spdm.GET_VERSION, Spdm.GET_CAPABILITIES, Spdm.NEGOTIATE_ALGORITHMS, Spdm.GET_DIGESTS, Spdm.GET_CERTIFICATE, Spdm.CHALLENGE,
   Spdm.GET_MEASUREMENTS]

/-- UNSUPPORTED_REQUEST (R339): an ATTEST request of any other code. -/
def execUnsupportedRequest (via : Via) (msg : List Byte) (s : State) : Res :=
  cwRow (fun m => isType Cw.ATTEST m && !spdmCodes.contains (byteAt m 17)) via msg s

/-- TUNNEL_REQUEST (R311, R312). -/
def execTunnelRequest (via : Via) (msg : List Byte) (s : State) : Res := cwRow cwTunnel via msg s

/-- CAUSEWAY_WORD_RECEIVED (R311): counted on its lane; discarded and counted while `TUNNEL_EN` is 0. -/
def execCausewayWordReceived (n : Lane) (payload : BitVec 44) (s : State) : Res :=
  .next (s.oamIn n fun s => match s.flag MGT_CW_CFG.TUNNEL_EN 0, (s.tlaneOf n).farNode with
    | true, some node => s.cwWord node payload
    | _, _ => s.count MGT_TUN_DISC.COUNT 0)

/-- TUNNEL_REPLY (R312): a complete reply of the far node. -/
def execTunnelReply (node : BitVec 16) (msg : List Byte) (s : State) : Res := cwRow (fun m => decide (128 ≤ cwType m)) (.tunnel node) msg s

/-- TUNNEL_TIMEOUT (R312): 10 ms without a reply of the far node. -/
def execTunnelTimeout (node : BitVec 16) (s : State) : Res :=
  match s.mgt.tunReq.find? fun r => decide (r.node = node.toNat ∧ r.since + cyclesOfUs 10000 ≤ s.cycle) with
  | some r => .next (s.tunnelOver r)
  | none => .next s

end Sys2Proof.Machine
end

