-- ==== Sys2Proof/Machine/ThermalStop.lean ====
section
/-! DEFINITION. Thermal stops, the hardware trip and the restart (R452 to R455). -/
namespace Sys2Proof.Machine

/-- The relief level is at its highest, or the table is empty. -/
def State.reliefSpent (s : State) : Bool := decide (s.reliefSteps ≤ s.fld THM_STATUS.RELIEF 0)

/-- A stop is demanded (R452): T is at `CRIT`, or relief is spent and the predicted time is below `STOP_LEAD`. -/
def State.stopDemanded (s : State) : Bool :=
  let pred := s.fld THM_STATUS.T_PRED 0
  (s.thmIs fun t => decide (s.thmLimit THM_LIMIT_A.CRIT ≤ t)) ||
  (s.reliefSpent && decide (pred ≠ 0xFFFF ∧ pred < 10 * s.fld THM_CFG.STOP_LEAD 0))

/-- The predicted time is 2 ms or more; none is no less. -/
def State.stopHasTime (s : State) : Bool := decide (20 ≤ s.fld THM_STATUS.T_PRED 0)

/-- A stop may begin: the sensors run, and no stop is under way. -/
def State.stopMayBegin (s : State) : Bool := !s.offline && decide (s.fld THM_STATUS.STATE 0 < ThmState.STOPPING)

/-- Core cycles in one hour. -/
abbrev cyclesHour : Nat := 2812500000000

/-- A stop is counted; three within one hour clear `AUTO_RESTART` (R455). -/
def State.countStop (s : State) : State :=
  let recent := (s.cycle :: s.thm.stops).filter fun c => decide (s.cycle < c + cyclesHour)
  let s := { s with thm := { s.thm with stops := recent.take 3 } }.count THM_STOPS.COUNT 0
  if 3 ≤ recent.length ∧ s.flag THM_CFG.AUTO_RESTART 0 then
    ((s.setFlag THM_CFG.AUTO_RESTART 0 false).logHot Thm.AUTO_RESTART_CLEARED).alert Alert.THERMAL
  else s

/-- A stop ends a BIST: no record is written, and a boot BIST follows once T is below `RESTART` (Table 16-7). -/
def State.abortBist (s : State) : State :=
  match s.pwr.bist with
  | none => s
  | some b =>
    if b.boot then s
    else
      let s := (s.setFld PWR_STATE.STATE 0 1).bootStep 3
      s.modPwr fun x => { x with
        bist := some { boot := true, at_ := s.cycle, heldAt := if s.thm.warn then some s.cycle else none }
        goal := 0, early := none, toActive := false }

/-- The stop is notified (R453 step 1). -/
def State.beginStop (s : State) (kind state : Nat) (orderly : Bool) : State :=
  let s := ((s.setFld THM_STATUS.STATE 0 state).logHot kind).alert Alert.THERMAL
  let s := s.each groups8 fun g s => s.abortTests g
  let s := s.countStop
  { s with thm := { s.thm with orderly := orderly, draining := false } }.abortBist

/-- STOP_ORDERLY (R452, R453): notify, then drain replay; outside ACTIVE there is nothing to drain. -/
def execStopOrderly (s : State) : Res :=
  if !s.stopMayBegin || !s.stopDemanded || !s.stopHasTime then .next s
  else
    let s := s.beginStop Thm.STOP_ORDERLY ThmState.STOPPING true
    if s.fld GLB_STATE.BOOT 0 < 5 ∨ s.fld PWR_STATE.STATE 0 ≠ 0 then
      .next ((s.setFld THM_STATUS.STATE 0 ThmState.STOPPED).fallToStandby id)
    else
      let s := s.loadAborts
      .next { s with thm := { s.thm with draining := true, drainAt := s.cycle } }

/-- The drain is over: no replay run goes on, or 50 µs have passed (R453). -/
def State.stopDrained (s : State) : Bool :=
  s.thm.draining && ((lanes16.all fun n => (s.claneOf n).run.isNone) || decide (78125 ≤ 2 * (s.cycle - s.thm.drainAt)))

/-- STOP_DRAIN_END (R453 steps 3 and 4): every line transmitter takes cause THERMAL, the accounts close, the domains power down. -/
def execStopDrainEnd (s : State) : Res :=
  if !s.stopDrained then .next s
  else
    let s := { s with thm := { s.thm with draining := false } }
    let s := s.each (lanes16.filter fun n => s.configured (n / 2)) fun n s => s.setCause n Squelch.THERMAL true
    let s := (s.setFld THM_STATUS.STATE 0 ThmState.STOPPED).fallToStandby State.toStandby
    .next s

/-- The drivers and the GROUP and SHARED domains go off at once; the closing values of the accounts are lost (R454). -/
def State.stopNow (s : State) : State := s.fallToStandby State.powerDown

/-- STOP_IMMEDIATE (R452, R454). -/
def execStopImmediate (s : State) : Res :=
  if !s.stopMayBegin || !s.stopDemanded || s.stopHasTime then .next s
  else .next (s.beginStop Thm.STOP_IMMEDIATE ThmState.STOPPED false).stopNow

/-- The hardware trip acts: two valid sensors have read 130 °C or more for 100 µs, or one for 1 ms (R454). -/
def State.tripped (s : State) : Bool :=
  let hot := fun cycles => sensors24.filter fun i =>
    s.flag THM_SENSOR.VALID i && !s.flag THM_SENSOR.EXCLUDED i && s.heldFor (s.sensOf i).hotAt cycles
  decide (2 ≤ (hot 78125).length ∨ 1 ≤ (hot 781250).length)

/-- TRIP (R454): the immediate stop, then every domain but AO_BASE and AO retention is off until RESET_N; the clock has lost its time
(log entry 59). -/
def execTrip (s : State) : Res :=
  if s.offline || !s.tripped then .next s
  else
    let s := s.modPwr fun x => { x with deferred := none }
    let s := (s.beginStop Thm.TRIP ThmState.TRIPPED false).stopNow
    let s := s.setFld THM_STATUS.STATE 0 ThmState.TRIPPED
    let s := ((s.setQuality Quality.LOST 0).dropRole.closeSessions).flushQueue
    let s := s.each [18, 19] fun m s => s.loseRegion m
    .next (s.modPwr fun x => { x with tripped := true, latch := true, bist := none, goal := 0 })

/-- THERMAL_RESTART (R455): after an orderly stop, with `AUTO_RESTART`, T has stayed below `RESTART` for 1 s. -/
def execThermalRestart (s : State) : Res :=
  if s.fld THM_STATUS.STATE 0 = ThmState.STOPPED ∧ s.thm.orderly ∧ s.flag THM_CFG.AUTO_RESTART 0 ∧ s.belowRestart ∧
      s.heldFor s.thm.belowAt 781250000 ∧
      s.fld PWR_STATE.STATE 0 = 1 ∧ 5 ≤ s.fld GLB_STATE.BOOT 0 ∧ !s.offline ∧ !s.activeRefused then
    .next s.thermalRestart.toActive
  else .next s

end Sys2Proof.Machine
end

