-- ==== Sys2Proof/Machine/Clocks.lean ====
section
/-! DEFINITION. REFCLK, the core PLL and the synthesisers (R23, R134, R289). -/
namespace Sys2Proof.Machine

/-- Synthesisers that are not off. -/
def State.lineOn (s : State) : List Nat := groups8.filter fun g => decide (s.fld CLK_LINE.STATE g ≠ 0)
def State.hostOn (s : State) : List Nat := [0, 1, 2, 3].filter fun k => decide (s.fld CLK_HOST.STATE k ≠ 0)

/-- The lanes of the line synthesiser of group `g`, of host synthesiser `k`. -/
def synthLanes (g : Nat) : List Nat := [2 * g, 2 * g + 1]
def synthHosts (k : Nat) : List Nat := (List.range 8).map (8 * k + ·)

/-- A synthesiser is out of lock: counted, and asked to lock again. -/
def State.lineUnlock (s : State) (g : Nat) : State :=
  let l := s.fld CLK_STATUS.LINE_LOCK 0
  let s := if l.testBit g then (s.setFld CLK_STATUS.LINE_LOCK 0 (l - 2 ^ g)).countSat CLK_LINE.LOSSES g else s
  (s.setFld CLK_LINE.STATE g 3).modClk fun x => { x with line := Tab.set natLt (fun _ => 0) x.line g s.cycle }
def State.hostUnlock (s : State) (k : Nat) : State :=
  let l := s.fld CLK_STATUS.HOST_LOCK 0
  let s := if l.testBit k then (s.setFld CLK_STATUS.HOST_LOCK 0 (l - 2 ^ k)).countSat CLK_HOST.LOSSES k else s
  ((s.setFld CLK_HOST.STATE k 3).setFlag HSI_CLK.SYNTH_LOCK k false).modClk fun x =>
    { x with host := Tab.set natLt (fun _ => 0) x.host k s.cycle }

/-- The lanes of a synthesiser lose a clock. -/
def State.lineLost (s : State) (g : Nat) : State := s.each (synthLanes g) fun n s => (s.ltxClockLost n).lrxClockLost n
def State.hostLost (s : State) (k : Nat) : State := s.each (synthHosts k) fun h s => s.hostClockLost h

/-- The clocks of the whole device are lost (R23): transmitters squelch, receivers leave LOCKED with cause CLOCK, time falls to
HOLDOVER, class CLOCK. Table 15-2 has no record of the clock block: the instant of the loss is what AO retention holds of the event, beside
the records of the lanes that were LOCKED (DESIGN CHOICE, log entry 168). -/
def State.clocksLost (s : State) : State :=
  let now := s.now
  let s := (s.count CLK_REF_LOSS.COUNT 0).modPwr fun x => { x with clkLoss := some now }
  let s := s.each s.lineOn fun g s => s.lineUnlock g
  let s := s.each s.hostOn fun k s => s.hostUnlock k
  let s := s.each groups8 fun g s => s.lineLost g
  let s := s.each [0, 1, 2, 3] fun k s => s.hostLost k
  (s.toHoldover.rebaseBound).alert Alert.CLOCK

/-- REFCLK_MISSING (R23). -/
def execRefclkMissing (s : State) : Res :=
  if s.offline || !s.flag CLK_STATUS.REF_PRESENT 0 then .next s
  else .next ((s.setFlag CLK_STATUS.REF_PRESENT 0 false).setFlag CLK_STATUS.CORE_LOCK 0 false).clocksLost

/-- CORE_PLL_LOCK_LOSS (R23). -/
def execCorePllLockLoss (s : State) : Res :=
  if s.offline || !s.flag CLK_STATUS.CORE_LOCK 0 then .next s else .next (s.setFlag CLK_STATUS.CORE_LOCK 0 false).clocksLost

/-- REFCLK_RETURN (R23, R264): every synthesiser relocks; the servo re-acquires. -/
def execRefclkReturn (s : State) : Res :=
  if s.offline || s.clocksPresent || decide (s.fld GLB_STATE.BOOT 0 = 0) then .next s
  else
    let s := (s.setFlag CLK_STATUS.REF_PRESENT 0 true).setFlag CLK_STATUS.CORE_LOCK 0 true
    let s := s.rebaseBound
    let s := if s.following then { s with time := { s.time with resel := true } } else s
    let s := s.each s.lineOn fun g s => s.tuneLine g
    .next (s.each s.hostOn fun k s => s.tuneHost k)

/-- µs since core cycle `c`, saturating at 16 bits. -/
def State.lockTime (s : State) (c : Nat) : Nat := min 65535 ((s.cycle - c) * 128 / 100000)

/-- What waits for synthesisers goes on where all it needs is locked: a load, a boot, a return to ACTIVE (R289). -/
def State.pendingGo (s : State) : State :=
  let s := match s.hrn.load with
    | some l =>
      if l.stage = 1 ∧ l.cmd = 0 ∧ s.synthsLocked l.new groups8 then s.bootFinish l
      else if l.stage = 1 ∧ l.cmd ≠ 0 ∧ s.synthsLocked l.new l.shown then s.quiesceStart l
      else s
    | none => s
  if s.fld PWR_STATE.STATE 0 = 3 ∧ s.synthsLocked s.cfg groups8 then s.activate [] else s

/-- A synthesiser that has been asked to lock is locked: its state and its lock time; then what waits for it goes on. -/
def State.synthLock (s : State) : SynthId → State
  | .line g =>
    let st := s.fld CLK_LINE.STATE g
    if st ≠ 1 ∧ st ≠ 3 then s
    else
      let l := s.fld CLK_STATUS.LINE_LOCK 0
      let c := s.fld CLK_STATUS.LINE_CAL 0
      let s := s.setFld CLK_STATUS.LINE_LOCK 0 (l ||| 2 ^ g.val)
      let s := if c.testBit g then s.setFld CLK_STATUS.LINE_CAL 0 (c - 2 ^ g.val) else s
      let s := (s.setFld CLK_LINE.STATE g 2).setFld CLK_LINE.LOCK_TIME g (s.lockTime (Tab.get (fun _ => 0) s.clk.line g))
      (s.each (synthLanes g) fun n s => (s.lrxClockBack n).ltxClockBack n).pendingGo
  | .host k =>
    let st := s.fld CLK_HOST.STATE k
    if st ≠ 1 ∧ st ≠ 3 then s
    else
      let s := s.setFld CLK_STATUS.HOST_LOCK 0 (s.fld CLK_STATUS.HOST_LOCK 0 ||| 2 ^ k.val)
      let s := (s.setFld CLK_HOST.STATE k 2).setFlag HSI_CLK.SYNTH_LOCK k true
      let s := s.setFld CLK_HOST.LOCK_TIME k (s.lockTime (Tab.get (fun _ => 0) s.clk.host k))
      (s.each (synthHosts k) fun h s => s.hostClockBack h).pendingGo

/-- SYNTHESISER_LOCK (R289). -/
def execSynthesiserLock (y : SynthId) (s : State) : Res := .next (if s.offline || !s.clocksPresent then s else s.synthLock y)

/-- SYNTHESISER_LOCK_LOSS (R134). -/
def execSynthesiserLockLoss (y : SynthId) (s : State) : Res :=
  match y with
  | .line g => .next (if s.lineSynthLocked g then (s.lineUnlock g).lineLost g else s)
  | .host k => .next (if s.hostSynthLocked k then (s.hostUnlock k).hostLost k else s)

/-- A load that has waited 5 ms fails and nothing changes; that of a boot counts as a failed slot (R284, R289). -/
def State.loadTimeout (s : State) (l : LoadX) : State :=
  if l.cmd = 0 then
    let s := (s.modHrn fun x => { x with load := none }).hrnResult Load.PLL_TIMEOUT 0xFFFF l.image
    s.bootHarnessFrom (l.slot + 1)
  else (s.undoLoad l).endLoad l Load.PLL_TIMEOUT 0xFFFF

/-- PENDING_TIMEOUT (R289): 5 ms without lock; the limit does not run while REFCLK is missing. -/
def execPendingTimeout (who : PendingSubject) (s : State) : Res :=
  if s.offline || !s.clocksPresent then .next s
  else match who with
    | .lineRx n => .next (s.lrxPendingOver n)
    | .lineTx n => .next (s.ltxPendingOver n)
    | .host h => .next (s.hostPendingOver h)
    | .load =>
      match s.hrn.load with
      | some l => .next (if l.stage = 1 then s.loadTimeout l else s)
      | none => .next s
    | .toActive =>
      if s.fld PWR_STATE.STATE 0 ≠ 3 then .next s
      else
        let c : Cfg := s.cfg
        let failed := groups8.filter fun g => c.has g && !(s.lineSynthLocked g && s.hostSynthLocked (g / 2))
        .next (((s.activate failed).pwrResult 3).alert Alert.IMAGE)

/-- CONTROLLER_WATCHDOG (R335): 100 ms without service. -/
def execControllerWatchdog (s : State) : Res :=
  .next (if s.offline || s.headless || decide (s.fld GLB_STATE.BOOT 0 < 5) then s else s.restartControllers false)

end Sys2Proof.Machine
end

