-- ==== Sys2Proof/Machine/Controllers.lean ====
section
/-! DEFINITION. The end of a controller restart, and firmware that runs from a download in RECOVERY (R26, R330, R335). -/
namespace Sys2Proof.Machine

/-- The new firmware reattaches to the running configuration (R335): HEADLESS reads 0, a BOOT record tells of the restart, and what
waited for firmware is handled in the order it came: Causeway messages (R315), then low power, CMIS pages and equaliser codes, and the
power command that was put off (R26). -/
def State.reattach (s : State) : State :=
  let s := (s.bootStep (if s.hrn.header.isEmpty then 6 else 5)).setFlag GLB_STATE.HEADLESS 0 false
  let s := s.logBoot 4 0
  let s := s.cwHeld
  let s := match s.pwr.lpSwLater with
    | none => s.lowPower
    | some on => (s.modPwr fun x => { x with lpSwLater := none }).setLpSw on
  let s := s.applyLater
  let s := s.each groups8 fun g s =>
    (s.modGrp g fun x => { x with tests := x.tests.map fun t => if t.waits then { t with waits := false, at_ := s.cycle } else t }).runFollow g
  let s := s.each (List.range 32) fun h s => if (s.hsiOf h).eqWaits then s.applyCmisEq h else s
  s.runDeferred

/-- CONTROLLERS_RETURN (R26, R335): the ROM boots under R329, or stays in RECOVERY, headless, where RESTART asked for it or no slot
passes. -/
def execControllersReturn (s : State) : Res :=
  if s.offline ∨ !s.headless ∨ s.inRecovery then .next s
  else if s.sec.recover then .next (s.modSec fun x => { x with recover := false }).enterRecovery
  else
    let (s, ok) := s.selectFirmware
    .next (if ok then s.reattach else s.enterRecovery)

/-- RECOVERY_IMAGE (R330): the downloaded firmware is verified, and runs from controller RAM. Where the datapath runs headless it
reattaches; at a boot the recovery port is given up and the boot goes on, with `puf` and `certOk` as for BOOT. -/
def execRecoveryImage (puf certOk : Bool) (s : State) : Res :=
  match s.sec.update with
  | none => .next s
  | some u =>
    if s.offline ∨ !s.inRecovery ∨ !u.due then .next s
    else
      let r := if u.excess then Sec.LENGTH else s.fwCheck u.bytes
      let s := s.fwResult r
      if r ≠ Sec.OK then .next ((s.modSec fun x => { x with update := none }).setFld SEC_FW_SPACE.SPACE 0 0)
      else if s.headless then .next (s.runFirmware 2 false u.bytes).reattach
      else
        let s := ((s.clearGroups [0]).hostOff 0).resetReg .HPM_PORT_CFG 0
        .next (((s.runFirmware 2 false u.bytes).bootStep 1).bootMem puf certOk)

end Sys2Proof.Machine
end

