-- ==== Sys2Proof/Machine/Pins.lean ====
section
/-! DEFINITION. What the power state makes of the domains and of the pins: Table 12-1, the clamps of Table 12-2, the pins outside ACTIVE of
Table 12-3 (R345 to R347). -/
namespace Sys2Proof.Machine

/-- The power domains of Table 12-1. -/
inductive Domain where
  | aoBase | aoDoze | retention
  | hwake (h : Fin 32)
  | ctrl | clk | hka | shared
  | group (g : Fin 8)
  deriving DecidableEq, Repr

/-- The four states of Table 12-5; a transition counts as the state it comes from, or as STANDBY. -/
inductive PowerState where
  | active | standby | doze | deep
  deriving DecidableEq, Repr

/-- The power state. -/
def State.powerState (s : State) : PowerState :=
  if s.pwr.sleep = 1 then .doze else if s.pwr.sleep = 2 then .deep else if s.fld PWR_STATE.STATE 0 = 0 then .active else .standby

/-- A domain is on (Table 12-1); AO retention in retention mode counts as on. -/
def State.powered (s : State) : Domain → Bool
  | .aoBase | .retention => true
  | .aoDoze => decide (s.powerState ≠ .deep)
  | .hwake h => match s.powerState with
    | .active | .standby => true
    | .doze => (s.fld PWR_WAKE_LANES.LANES 0).testBit h
    | .deep => false
  | .ctrl | .clk | .hka => decide (s.powerState = .active ∨ s.powerState = .standby)
  | .shared => decide (s.powerState = .active)
  | .group g => decide (s.powerState = .active) && s.groupUp g

/-- Kinds of signals that leave a domain (Table 12-2). -/
inductive Signal where
  | data | alarm | enable | reset | clock
  deriving DecidableEq, Repr

/-- The level that the clamp of a domain without power holds a signal at: alarms and resets asserted, all others 0, deasserted or
stopped low. -/
def clampOf : Signal → Bool
  | .alarm | .reset => true
  | .data | .enable | .clock => false

/-- What reaches the rest of the device of a signal that a domain drives with `level` (R346). -/
def State.throughClamp (s : State) (d : Domain) (k : Signal) (level : Bool) : Bool := if s.powered d then level else clampOf k

/-- A receive lane as its consumers see its LOS: one whose domain is off reports LOS (R346). -/
def State.losSeen (s : State) (n : Fin 16) : Bool :=
  s.throughClamp (.group ⟨n / 2, by omega⟩) .alarm (s.flag LRX_STATUS.LOS n)

/-- The pins of Table 12-3. -/
inductive PinKind where
  | ltx (n : Fin 16)
  | htx (h : Fin 32)
  | hrx (h : Fin 32)
  | gpio (q : Fin 16)
  | groupPort (g : Fin 8)
  | aout (k : Fin 32)
  | ppsOut | alertN | bus | qspi | jtag
  deriving DecidableEq, Repr

/-- What a pin does: as its block drives it, or one of the states that Table 12-3 names. -/
inductive PinDrive where
  | normal | commonMode | quiet | terminated | deasserted | releasedHigh | held | low | latch | comparator | highZ
  deriving DecidableEq, Repr

/-- A pin in a power state (Table 12-3). -/
def State.pinDrive (s : State) (p : PinKind) : PinDrive :=
  let asleep := decide (s.powerState = .doze ∨ s.powerState = .deep)
  if s.powerState = .active then .normal
  else match p with
    | .ltx _ => if asleep then .highZ else .commonMode
    | .htx _ => if asleep then .highZ else .quiet
    | .hrx h => if !asleep ∨ (s.fld PWR_WAKE_LANES.LANES 0).testBit h then .terminated else .highZ
    | .gpio q => if s.pinRole q = 3 then .deasserted else .normal
    | .groupPort _ => if asleep then .highZ else .releasedHigh
    | .aout _ => if asleep then .highZ else .held
    | .ppsOut => if asleep then .low else .normal
    | .alertN => if asleep then .latch else .normal
    | .bus => if asleep then .comparator else .normal
    | .qspi | .jtag => if asleep then .highZ else .normal

end Sys2Proof.Machine
end

