-- ==== Sys2Proof/Machine/Ptp.lean ====
section
/-! DEFINITION. The IEEE 1588 transparent clock, R269 and R270: which frames it supports, what it changes in them, and its commands. The
places of fields in Ethernet, IPv4, UDP and PTP headers are those of the standards (PRESUMED, log entry 172). -/
namespace Sys2Proof.Machine

/-- The 1588 correction runs on port `p`: terminated Ethernet service, NZ line mode, FLAGS bit [1] (R269). -/
def State.tcPort (s : State) (p : Nat) : Bool :=
  let g := p / 4
  decide (s.fld HRN_GROUP_STATE.SVC g = Svc.ETHERNET) && !s.flag HRN_GROUP_STATE.LINE_MODE g &&
    s.flag HPM_PORT_CFG.VALID p && (s.fld HPM_PORT_CFG.FLAGS p).testBit 1

/-- The stamp of an instant in units of 2^-8 ns, modulo 2^32. -/
def ptpStamp (x : Nat) : BitVec 32 := BitVec.ofNat 32 (x / 2 ^ 8)

/-- The big-endian field of `n` bytes at offset `k` of a frame. -/
def beAt (f : List Byte) (k n : Nat) : Nat := (List.range n).foldl (fun a i => 256 * a + byteAt f (k + i)) 0

/-- A frame with the bytes `bs` at offset `k`. -/
def setAt (f : List Byte) (k : Nat) (bs : List Byte) : List Byte := f.take k ++ bs ++ f.drop (k + bs.length)

/-- Where the PTP header of a supported message begins in an Ethernet frame (destination address to FCS), and its UDP checksum if it has
one (Table 8-6): EtherType 0x88F7 behind up to two VLAN tags, or UDP over IPv4 without options to port 319; Sync or Delay_Req,
versionPTP 2. -/
def ptpPlace (f : List Byte) : Option (Nat × Option Nat) :=
  let tag := fun k => decide (beAt f k 2 = 0x8100 ∨ beAt f k 2 = 0x88A8)
  let k := if tag 12 then (if tag 16 then 20 else 16) else 12
  let place := if beAt f k 2 = 0x88F7 then some (k + 2, none)
    else if beAt f k 2 = 0x0800 ∧ byteAt f (k + 2) = 0x45 ∧ beAt f (k + 8) 2 % 8192 = 0 ∧ byteAt f (k + 11) = 17 ∧ beAt f (k + 24) 2 = 319 then
      some (k + 30, some (k + 28))
    else none
  place.filter fun e => decide (byteAt f e.1 % 16 ≤ 1 ∧ byteAt f (e.1 + 1) % 16 = 2 ∧ e.1 + 38 ≤ f.length)

/-- One's-complement sum of 16-bit words, with end-around carry. -/
def onesSum (a b : Nat) : Nat := let t := a + b; if t < 65536 then t else t - 65535

/-- A non-zero UDP checksum after 16-bit words of the message have changed from `old` to `new`; a result of zero is sent as
0xFFFF. -/
def udpUpdate (ck : Nat) (old new : List Nat) : Nat :=
  if ck = 0 then 0
  else
    let t := new.foldl onesSum (old.foldl (fun t w => onesSum t (65535 - w)) (65535 - ck))
    if 65535 - t = 0 then 65535 else 65535 - t

/-- messageTypeSpecific and correctionField of the PTP header at `h`. -/
def mtsOf (f : List Byte) (h : Nat) : BitVec 32 := BitVec.ofNat 32 (beAt f (h + 16) 4)
def correctionOf (f : List Byte) (h : Nat) : BitVec 64 := BitVec.ofNat 64 (beAt f (h + 8) 8)

/-- The frame with new fields in the PTP header at `h`, its UDP checksum and its FCS updated: an FCS that was wrong stays wrong by as
much. -/
def ptpUpdate (f : List Byte) (h : Nat) (ck : Option Nat) (mts : BitVec 32) (correction : BitVec 64) : List Byte :=
  let n := f.length - 4
  let words := fun (f : List Byte) => (List.range 6).map fun i => beAt f (h + 8 + 2 * i) 2
  let g := setAt (setAt f (h + 8) (beBytes 8 correction.toNat)) (h + 16) (beBytes 4 mts.toNat)
  let g := match ck with
    | some k => setAt g k (beBytes 2 (udpUpdate (beAt f k 2) (words f) (words g)))
    | none => g
  let wrong := List.zipWith (· ^^^ ·) (f.drop n) (fcs (f.take n))
  g.take n ++ List.zipWith (· ^^^ ·) (fcs (g.take n)) wrong

/-- The frame leaves the device as `f`. -/
def State.forwardPtp (s : State) (f : List Byte) : State := { s with time := { s.time with ptp := f } }

/-- PTP_INGRESS, R270: a frame at host ingress of port `p`, its first symbol after the start-of-frame delimiter `off` host symbols into the
core cycle. Nothing comes in from a port whose host lanes are not all LOCKED (R160). -/
def execPtpIngress (p : Fin 32) (off : Fin 136) (frame : List Byte) (s : State) : Res :=
  if !s.portHears p then .next s
  else match if s.tcPort p then ptpPlace frame else none with
    | none => .next (s.forwardPtp frame)
    | some (h, ck) =>
      if mtsOf frame h ≠ 0 then .next ((s.count TMB_TC_SKIP.COUNT p).forwardPtp frame)
      else if s.quality = Quality.LOCKED then
        let st := ptpStamp (s.hostInstant off)
        .next (s.forwardPtp (ptpUpdate frame h ck (if st = 0 then 1 else st) (correctionOf frame h)))
      else .next (s.forwardPtp frame)

/-- PTP_EGRESS, R270: a frame at far host egress, `off` host symbols into the core cycle. -/
def execPtpEgress (p : Fin 32) (off : Fin 136) (frame : List Byte) (s : State) : Res :=
  match if s.tcPort p then ptpPlace frame else none with
  | none => .next (s.forwardPtp frame)
  | some (h, ck) =>
    let c := correctionOf frame h
    if mtsOf frame h = 0 then .next (s.forwardPtp frame)
    else if s.quality = Quality.LOCKED then
      let r := ptpStamp (s.hostInstant off) - mtsOf frame h
      .next ((s.count TMB_TC_CORR.COUNT p).forwardPtp (ptpUpdate frame h ck 0 (c + (r.setWidth 64 <<< 8))))
    else .next ((s.count TMB_TC_UNLOCK.COUNT p).forwardPtp (ptpUpdate frame h ck 0 c))

end Sys2Proof.Machine
end

