-- ==== Sys2Proof/Machine/Dispatch.lean ====
section
/-! DEFINITION. One arm per command: the direct call of its meaning. -/
namespace Sys2Proof.Machine

/-- The effect of a command on everything but the queue. -/
def exec (i : Instr) (s : State) : Host.Outcome State Fault Refusal :=
  match i with
  | .registerWrite p addr value => Sys2Proof.Machine.execRegisterWrite p addr value s
  | .wideRegisterRead p addr => Sys2Proof.Machine.execWideRegisterRead p addr s
  | .stagedWordWrite p addr value => Sys2Proof.Machine.execStagedWordWrite p addr value s
  | .wideRegisterCommit p addr value => Sys2Proof.Machine.execWideRegisterCommit p addr value s
  | .refclkMissing => Sys2Proof.Machine.execRefclkMissing s
  | .corePllLockLoss => Sys2Proof.Machine.execCorePllLockLoss s
  | .refclkReturn => Sys2Proof.Machine.execRefclkReturn s
  | .synthesiserLock y => Sys2Proof.Machine.execSynthesiserLock y s
  | .synthesiserLockLoss y => Sys2Proof.Machine.execSynthesiserLockLoss y s
  | .pendingTimeout who => Sys2Proof.Machine.execPendingTimeout who s
  | .rateMismatch n f₀ f₁ dropped => Sys2Proof.Machine.execRateMismatch n f₀ f₁ dropped s
  | .controllerWatchdog => Sys2Proof.Machine.execControllerWatchdog s
  | .controllersReturn => Sys2Proof.Machine.execControllersReturn s
  | .frameStart n off => Sys2Proof.Machine.execFrameStart n off s
  | .counterSnapshot n => Sys2Proof.Machine.execCounterSnapshot n s
  | .lfecSnap p n => Sys2Proof.Machine.execLfecSnap p n s
  | .snapshotTaken n => Sys2Proof.Machine.execSnapshotTaken n s
  | .lfecClr p n => Sys2Proof.Machine.execLfecClr p n s
  | .lfecAuditClr p n => Sys2Proof.Machine.execLfecAuditClr p n s
  | .conservationAudit => Sys2Proof.Machine.execConservationAudit s
  | .sdSfWindowEnd n => Sys2Proof.Machine.execSdSfWindowEnd n s
  | .laneStatusReceived n payload => Sys2Proof.Machine.execLaneStatusReceived n payload s
  | .oamWordDiscarded n word => Sys2Proof.Machine.execOamWordDiscarded n word s
  | .innerCodewordDecoded n frame idx => Sys2Proof.Machine.execInnerCodewordDecoded n frame idx s
  | .outerCodewordDecoded n w => Sys2Proof.Machine.execOuterCodewordDecoded n w s
  | .spareDecoderInService g => Sys2Proof.Machine.execSpareDecoderInService g s
  | .lrxEnable p n => Sys2Proof.Machine.execLrxEnable p n s
  | .lrxDisable p n => Sys2Proof.Machine.execLrxDisable p n s
  | .lrxFcal p n => Sys2Proof.Machine.execLrxFcal p n s
  | .lrxCold p n => Sys2Proof.Machine.execLrxCold p n s
  | .foregroundCalibrationDone n cal => Sys2Proof.Machine.execForegroundCalibrationDone n cal s
  | .backgroundCalibrationUpdate n sub offset gain skew => Sys2Proof.Machine.execBackgroundCalibrationUpdate n sub offset gain skew s
  | .fastAgcUpdate n rms => Sys2Proof.Machine.execFastAgcUpdate n rms s
  | .agcSettled n => Sys2Proof.Machine.execAgcSettled n s
  | .slowAgcStep n rms => Sys2Proof.Machine.execSlowAgcStep n rms s
  | .timingSettled n freq => Sys2Proof.Machine.execTimingSettled n freq s
  | .frequencyOutOfRange n freq => Sys2Proof.Machine.execFrequencyOutOfRange n freq s
  | .rxFrameBoundary n obs => Sys2Proof.Machine.execRxFrameBoundary n obs s
  | .acqStageTimeout n => Sys2Proof.Machine.execAcqStageTimeout n s
  | .powerStep n ms => Sys2Proof.Machine.execPowerStep n ms s
  | .losAssert n src => Sys2Proof.Machine.execLosAssert n src s
  | .losClear n src => Sys2Proof.Machine.execLosClear n src s
  | .autoRetry n => Sys2Proof.Machine.execAutoRetry n s
  | .tiaGo p g rd l reg value => Sys2Proof.Machine.execTiaGo p g rd l reg value s
  | .tiaTransactionDone g ack rdata => Sys2Proof.Machine.execTiaTransactionDone g ack rdata s
  | .clockStretchTimeout g port => Sys2Proof.Machine.execClockStretchTimeout g port s
  | .migrate src g l pos to_ => Sys2Proof.Machine.execMigrate src g l pos to_ s
  | .add src g l => Sys2Proof.Machine.execAdd src g l s
  | .remove src g l => Sys2Proof.Machine.execRemove src g l s
  | .fuse src g l => Sys2Proof.Machine.execFuse src g l s
  | .unfuse src g l => Sys2Proof.Machine.execUnfuse src g l s
  | .toDfe src g l => Sys2Proof.Machine.execToDfe src g l s
  | .toMlse src g l => Sys2Proof.Machine.execToMlse src g l s
  | .poolOpStart g => Sys2Proof.Machine.execPoolOpStart g s
  | .poolOpFrame g equal => Sys2Proof.Machine.execPoolOpFrame g equal s
  | .poolOpEnd g => Sys2Proof.Machine.execPoolOpEnd g s
  | .coefLoad p n => Sys2Proof.Machine.execCoefLoad p n s
  | .eqpAuditClr p g => Sys2Proof.Machine.execEqpAuditClr p g s
  | .poolAuditViolation g counters => Sys2Proof.Machine.execPoolAuditViolation g counters s
  | .ltxEnable p n => Sys2Proof.Machine.execLtxEnable p n s
  | .ltxDisable p n => Sys2Proof.Machine.execLtxDisable p n s
  | .swap p n => Sys2Proof.Machine.execSwap p n s
  | .ltxTrimWrite p n swing offset skew => Sys2Proof.Machine.execLtxTrimWrite p n swing offset skew s
  | .trimRampStep => Sys2Proof.Machine.execTrimRampStep s
  | .ltxSquelch p n on => Sys2Proof.Machine.execLtxSquelch p n on s
  | .txdisableAssert pin => Sys2Proof.Machine.execTxdisableAssert pin s
  | .txdisableDeassert pin => Sys2Proof.Machine.execTxdisableDeassert pin s
  | .cmisTxDisableSet n => Sys2Proof.Machine.execCmisTxDisableSet n s
  | .cmisTxDisableClear n => Sys2Proof.Machine.execCmisTxDisableClear n s
  | .driverSequenceWriteDone g ack rdata => Sys2Proof.Machine.execDriverSequenceWriteDone g ack rdata s
  | .drvGo p g rd l reg value => Sys2Proof.Machine.execDrvGo p g rd l reg value s
  | .ltxPatWrite p n pat place bypass userLen => Sys2Proof.Machine.execLtxPatWrite p n pat place bypass userLen s
  | .ltxChkClr p n => Sys2Proof.Machine.execLtxChkClr p n s
  | .maskEnable p g => Sys2Proof.Machine.execMaskEnable p g s
  | .maskEstimateDone g k => Sys2Proof.Machine.execMaskEstimateDone g k s
  | .hostRateSlewDone n => Sys2Proof.Machine.execHostRateSlewDone n s
  | .hsiRxEnable p h => Sys2Proof.Machine.execHsiRxEnable p h s
  | .hsiRxDisable p h => Sys2Proof.Machine.execHsiRxDisable p h s
  | .hsiTxEnable p h => Sys2Proof.Machine.execHsiTxEnable p h s
  | .hsiTxDisable p h => Sys2Proof.Machine.execHsiTxDisable p h s
  | .relock p h => Sys2Proof.Machine.execRelock p h s
  | .rxQuiet p h => Sys2Proof.Machine.execRxQuiet p h s
  | .rxQuietClear p h => Sys2Proof.Machine.execRxQuietClear p h s
  | .txQuiet p h => Sys2Proof.Machine.execTxQuiet p h s
  | .txQuietClear p h => Sys2Proof.Machine.execTxQuietClear p h s
  | .wakingDone h => Sys2Proof.Machine.execWakingDone h s
  | .hsiTxeqWrite p h value => Sys2Proof.Machine.execHsiTxeqWrite p h value s
  | .cmisOutputEqWrite h pre post amp => Sys2Proof.Machine.execCmisOutputEqWrite h pre post amp s
  | .txeqApply => Sys2Proof.Machine.execTxeqApply s
  | .activityDetect h pattern => Sys2Proof.Machine.execActivityDetect h pattern s
  | .signalLoss h => Sys2Proof.Machine.execSignalLoss h s
  | .wakePatternDetect h => Sys2Proof.Machine.execWakePatternDetect h s
  | .hostStageTimeout h => Sys2Proof.Machine.execHostStageTimeout h s
  | .cdrDone h freq sweep => Sys2Proof.Machine.execCdrDone h freq sweep s
  | .adaptDone h ctle eye => Sys2Proof.Machine.execAdaptDone h ctle eye s
  | .alignmentLock h => Sys2Proof.Machine.execAlignmentLock h s
  | .alignmentLockLoss seen => Sys2Proof.Machine.execAlignmentLockLoss seen s
  | .hckiMissing k => Sys2Proof.Machine.execHckiMissing k s
  | .hckiPresent k => Sys2Proof.Machine.execHckiPresent k s
  | .blockLock seen => Sys2Proof.Machine.execBlockLock seen s
  | .blockLockLoss seen => Sys2Proof.Machine.execBlockLockLoss seen s
  | .framingBlockReceived h blocks => Sys2Proof.Machine.execFramingBlockReceived h blocks s
  | .hostCellReceived h off tag payload parity => Sys2Proof.Machine.execHostCellReceived h off tag payload parity s
  | .hostCreditRecord h c loop kind total => Sys2Proof.Machine.execHostCreditRecord h c loop kind total s
  | .causewayFragment h entry => Sys2Proof.Machine.execCausewayFragment h entry s
  | .hostCellSlot h => Sys2Proof.Machine.execHostCellSlot h s
  | .hostCodewordDecoded p w => Sys2Proof.Machine.execHostCodewordDecoded p w s
  | .causewayFrameExtract p dst src payload => Sys2Proof.Machine.execCausewayFrameExtract p dst src payload s
  | .ptpIngress p off frame => Sys2Proof.Machine.execPtpIngress p off frame s
  | .ptpEgress p off frame => Sys2Proof.Machine.execPtpEgress p off frame s
  | .hsiPatWrite p h pat => Sys2Proof.Machine.execHsiPatWrite p h pat s
  | .granulePosition n readOk copyOk ingOk => Sys2Proof.Machine.execGranulePosition n readOk copyOk ingOk s
  | .granuleReceived n cwOk tag payload => Sys2Proof.Machine.execGranuleReceived n cwOk tag payload s
  | .nackReceived r payload => Sys2Proof.Machine.execNackReceived r payload s
  | .nackTimeout n => Sys2Proof.Machine.execNackTimeout n s
  | .streamOpen n => Sys2Proof.Machine.execStreamOpen n s
  | .openRecord n node => Sys2Proof.Machine.execOpenRecord n node s
  | .skipRecord n c m => Sys2Proof.Machine.execSkipRecord n c m s
  | .resyncRecord n epoch seq => Sys2Proof.Machine.execResyncRecord n epoch seq s
  | .stripeRecord n c mask switch => Sys2Proof.Machine.execStripeRecord n c mask switch s
  | .chposRecord n c m => Sys2Proof.Machine.execChposRecord n c m s
  | .chopenRecord n c => Sys2Proof.Machine.execChopenRecord n c s
  | .creditWordReceived n payload => Sys2Proof.Machine.execCreditWordReceived n payload s
  | .creditRefresh => Sys2Proof.Machine.execCreditRefresh s
  | .granuleDeliver c egrOk => Sys2Proof.Machine.execGranuleDeliver c egrOk s
  | .cinchAudit => Sys2Proof.Machine.execCinchAudit s
  | .clrCh p c => Sys2Proof.Machine.execClrCh p c s
  | .shedLolExpiry n => Sys2Proof.Machine.execShedLolExpiry n s
  | .cinShedWrite p n => Sys2Proof.Machine.execCinShedWrite p n s
  | .cinUnshedWrite p n => Sys2Proof.Machine.execCinUnshedWrite p n s
  | .rejoin n => Sys2Proof.Machine.execRejoin n s
  | .channelOpen p c lineCredit => Sys2Proof.Machine.execChannelOpen p c lineCredit s
  | .channelClose p c => Sys2Proof.Machine.execChannelClose p c s
  | .stripeWrite p c mask => Sys2Proof.Machine.execStripeWrite p c mask s
  | .creditDiscardEnd c => Sys2Proof.Machine.execCreditDiscardEnd c s
  | .timeWordReceived n payload => Sys2Proof.Machine.execTimeWordReceived n payload s
  | .sourceSelection => Sys2Proof.Machine.execSourceSelection s
  | .sourceLoss => Sys2Proof.Machine.execSourceLoss s
  | .timeLockQualified => Sys2Proof.Machine.execTimeLockQualified s
  | .tmbEpoch => Sys2Proof.Machine.execTmbEpoch s
  | .boundLimitExceeded => Sys2Proof.Machine.execBoundLimitExceeded s
  | .tmbSet p value => Sys2Proof.Machine.execTmbSet p value s
  | .tmbNodeIdWrite p id => Sys2Proof.Machine.execTmbNodeIdWrite p id s
  | .asymCalGo p n edges refUnc => Sys2Proof.Machine.execAsymCalGo p n edges refUnc s
  | .asymCalDone far => Sys2Proof.Machine.execAsymCalDone far s
  | .ppsInEdge off width => Sys2Proof.Machine.execPpsInEdge off width s
  | .ppsMissing => Sys2Proof.Machine.execPpsMissing s
  | .ppsOutRise => Sys2Proof.Machine.execPpsOutRise s
  | .ppsOutFall => Sys2Proof.Machine.execPpsOutFall s
  | .hrnOpen p => Sys2Proof.Machine.execHrnOpen p s
  | .hrnLoadData p value => Sys2Proof.Machine.execHrnLoadData p value s
  | .commit p => Sys2Proof.Machine.execCommit p s
  | .cancel p => Sys2Proof.Machine.execCancel p s
  | .verify p => Sys2Proof.Machine.execVerify p s
  | .writeA p => Sys2Proof.Machine.execWriteA p s
  | .writeB p => Sys2Proof.Machine.execWriteB p s
  | .loadA p => Sys2Proof.Machine.execLoadA p s
  | .loadB p => Sys2Proof.Machine.execLoadB p s
  | .imageChunk via msg => Sys2Proof.Machine.execImageChunk via msg s
  | .verificationDone => Sys2Proof.Machine.execVerificationDone s
  | .flashWriteDone => Sys2Proof.Machine.execFlashWriteDone s
  | .drainEnd => Sys2Proof.Machine.execDrainEnd s
  | .quiesce => Sys2Proof.Machine.execQuiesce s
  | .reopen => Sys2Proof.Machine.execReopen s
  | .rebuildPllTimeout => Sys2Proof.Machine.execRebuildPllTimeout s
  | .twoWireWrite offset data err => Sys2Proof.Machine.execTwoWireWrite offset data err s
  | .latchedFlagRead count classes => Sys2Proof.Machine.execLatchedFlagRead count classes s
  | .setdasa dyn => Sys2Proof.Machine.execSetdasa dyn s
  | .entdaa dyn => Sys2Proof.Machine.execEntdaa dyn s
  | .setnewda dyn => Sys2Proof.Machine.execSetnewda dyn s
  | .rstdaa => Sys2Proof.Machine.execRstdaa s
  | .enec events => Sys2Proof.Machine.execEnec events s
  | .disec events => Sys2Proof.Machine.execDisec events s
  | .getpid => Sys2Proof.Machine.execGetpid s
  | .getbcr => Sys2Proof.Machine.execGetbcr s
  | .getdcr => Sys2Proof.Machine.execGetdcr s
  | .getmwl => Sys2Proof.Machine.execGetmwl s
  | .setmwl len => Sys2Proof.Machine.execSetmwl len s
  | .getmrl => Sys2Proof.Machine.execGetmrl s
  | .setmrl len => Sys2Proof.Machine.execSetmrl len s
  | .getmxds => Sys2Proof.Machine.execGetmxds s
  | .getstatus => Sys2Proof.Machine.execGetstatus s
  | .unsupportedCcc => Sys2Proof.Machine.execUnsupportedCcc s
  | .ibiRetry accepted => Sys2Proof.Machine.execIbiRetry accepted s
  | .alertClear p mask => Sys2Proof.Machine.execAlertClear p mask s
  | .winAddrCommit value => Sys2Proof.Machine.execWinAddrCommit value s
  | .windowWordCommit j value => Sys2Proof.Machine.execWindowWordCommit j value s
  | .winRefresh => Sys2Proof.Machine.execWinRefresh s
  | .windowRefresh => Sys2Proof.Machine.execWindowRefresh s
  | .windowFetchDone => Sys2Proof.Machine.execWindowFetchDone s
  | .cmisMonitorRefresh flags => Sys2Proof.Machine.execCmisMonitorRefresh flags s
  | .passwordEntry value => Sys2Proof.Machine.execPasswordEntry value s
  | .passwordSet value => Sys2Proof.Machine.execPasswordSet value s
  | .mgtOpPwd p value => Sys2Proof.Machine.execMgtOpPwd p value s
  | .lockoutEnd => Sys2Proof.Machine.execLockoutEnd s
  | .nonce p => Sys2Proof.Machine.execNonce p s
  | .authDataWrite p value => Sys2Proof.Machine.execAuthDataWrite p value s
  | .authVerify p => Sys2Proof.Machine.execAuthVerify p s
  | .drop p => Sys2Proof.Machine.execDrop p s
  | .nonceExpiry bus => Sys2Proof.Machine.execNonceExpiry bus s
  | .read via msg => Sys2Proof.Machine.execRead via msg s
  | .write via msg => Sys2Proof.Machine.execWrite via msg s
  | .readBlock via msg => Sys2Proof.Machine.execReadBlock via msg s
  | .writeBlock via msg => Sys2Proof.Machine.execWriteBlock via msg s
  | .keyExchange via msg => Sys2Proof.Machine.execKeyExchange via msg s
  | .finish via msg => Sys2Proof.Machine.execFinish via msg s
  | .sessionClose via msg => Sys2Proof.Machine.execSessionClose via msg s
  | .subscribe via msg => Sys2Proof.Machine.execSubscribe via msg s
  | .sessionIdleTimeout k => Sys2Proof.Machine.execSessionIdleTimeout k s
  | .notifySend k => Sys2Proof.Machine.execNotifySend k s
  | .getVersion via msg => Sys2Proof.Machine.execGetVersion via msg s
  | .getCapabilities via msg => Sys2Proof.Machine.execGetCapabilities via msg s
  | .negotiateAlgorithms via msg => Sys2Proof.Machine.execNegotiateAlgorithms via msg s
  | .getDigests via msg => Sys2Proof.Machine.execGetDigests via msg s
  | .getCertificate via msg => Sys2Proof.Machine.execGetCertificate via msg s
  | .challenge via msg => Sys2Proof.Machine.execChallenge via msg s
  | .getMeasurements via msg => Sys2Proof.Machine.execGetMeasurements via msg s
  | .unsupportedRequest via msg => Sys2Proof.Machine.execUnsupportedRequest via msg s
  | .tunnelRequest via msg => Sys2Proof.Machine.execTunnelRequest via msg s
  | .causewayWordReceived n payload => Sys2Proof.Machine.execCausewayWordReceived n payload s
  | .tunnelReply node msg => Sys2Proof.Machine.execTunnelReply node msg s
  | .tunnelTimeout node => Sys2Proof.Machine.execTunnelTimeout node s
  | .applicationSelect h app => Sys2Proof.Machine.execApplicationSelect h app s
  | .glbReset p value => Sys2Proof.Machine.execGlbReset p value s
  | .secNonce p => Sys2Proof.Machine.execSecNonce p s
  | .enrol p => Sys2Proof.Machine.execEnrol p s
  | .fuseDone => Sys2Proof.Machine.execFuseDone s
  | .revoke p slot => Sys2Proof.Machine.execRevoke p slot s
  | .dbgNonce p => Sys2Proof.Machine.execDbgNonce p s
  | .submit p => Sys2Proof.Machine.execSubmit p s
  | .raiseFw p target => Sys2Proof.Machine.execRaiseFw p target s
  | .raiseHrn p target => Sys2Proof.Machine.execRaiseHrn p target s
  | .fwOpen p => Sys2Proof.Machine.execFwOpen p s
  | .fwDataWrite p value space => Sys2Proof.Machine.execFwDataWrite p value space s
  | .fwFinish p => Sys2Proof.Machine.execFwFinish p s
  | .activate p => Sys2Proof.Machine.execActivate p s
  | .confirm p => Sys2Proof.Machine.execConfirm p s
  | .restart p recover => Sys2Proof.Machine.execRestart p recover s
  | .recoveryImage puf certOk => Sys2Proof.Machine.execRecoveryImage puf certOk s
  | .bypass => Sys2Proof.Machine.execBypass s
  | .idcode => Sys2Proof.Machine.execIdcode s
  | .samplePreload cells => Sys2Proof.Machine.execSamplePreload cells s
  | .extest => Sys2Proof.Machine.execExtest s
  | .privateInstruction perm => Sys2Proof.Machine.execPrivateInstruction perm s
  | .powerOn addrSel => Sys2Proof.Machine.execPowerOn addrSel s
  | .warmReset addrSel ao => Sys2Proof.Machine.execWarmReset addrSel ao s
  | .boot puf certOk => Sys2Proof.Machine.execBoot puf certOk s
  | .bootBistDone puf certOk => Sys2Proof.Machine.execBootBistDone puf certOk s
  | .pwrStandby p => Sys2Proof.Machine.execPwrStandby p s
  | .pwrActive p => Sys2Proof.Machine.execPwrActive p s
  | .pwrDoze p => Sys2Proof.Machine.execPwrDoze p s
  | .pwrDeep p => Sys2Proof.Machine.execPwrDeep p s
  | .lpmodeAssert pin => Sys2Proof.Machine.execLpmodeAssert pin s
  | .lpmodeDeassert pin => Sys2Proof.Machine.execLpmodeDeassert pin s
  | .lowPwrRequestSw on => Sys2Proof.Machine.execLowPwrRequestSw on s
  | .deepAfterExpiry => Sys2Proof.Machine.execDeepAfterExpiry s
  | .wakeSource source detail ao => Sys2Proof.Machine.execWakeSource source detail ao s
  | .wakeStageReady time ao addrSel => Sys2Proof.Machine.execWakeStageReady time ao addrSel s
  | .wakeStageTimeout => Sys2Proof.Machine.execWakeStageTimeout s
  | .wakeRetry => Sys2Proof.Machine.execWakeRetry s
  | .supplyTrip rail addrSel => Sys2Proof.Machine.execSupplyTrip rail addrSel s
  | .supplyRecover rail => Sys2Proof.Machine.execSupplyRecover rail s
  | .tussockSample code ao => Sys2Proof.Machine.execTussockSample code ao s
  | .tskRuleCommit p r value => Sys2Proof.Machine.execTskRuleCommit p r value s
  | .tskInCfgWrite p k value => Sys2Proof.Machine.execTskInCfgWrite p k value s
  | .conversionEnd input => Sys2Proof.Machine.execConversionEnd input s
  | .hkaUrgentGo p ch src order => Sys2Proof.Machine.execHkaUrgentGo p ch src order s
  | .decimationTick => Sys2Proof.Machine.execDecimationTick s
  | .dacCodeWrite p n code => Sys2Proof.Machine.execDacCodeWrite p n code s
  | .dacTimerFire t => Sys2Proof.Machine.execDacTimerFire t s
  | .readbackRequest n => Sys2Proof.Machine.execReadbackRequest n s
  | .readbackPeriod => Sys2Proof.Machine.execReadbackPeriod s
  | .dacFaultClear p mask => Sys2Proof.Machine.execDacFaultClear p mask s
  | .selfCalibration => Sys2Proof.Machine.execSelfCalibration s
  | .tskFit => Sys2Proof.Machine.execTskFit s
  | .pageRepairDone m page => Sys2Proof.Machine.execPageRepairDone m page s
  | .scrubBeat m upsets => Sys2Proof.Machine.execScrubBeat m upsets s
  | .retirementCopyDone m page => Sys2Proof.Machine.execRetirementCopyDone m page s
  | .flipMaskCommit p value => Sys2Proof.Machine.execFlipMaskCommit p value s
  | .linear p n => Sys2Proof.Machine.execLinear p n s
  | .fill p n => Sys2Proof.Machine.execFill p n s
  | .index p n => Sys2Proof.Machine.execIndex p n s
  | .dmaAbort p n => Sys2Proof.Machine.execDmaAbort p n s
  | .dmaBurstEnd => Sys2Proof.Machine.execDmaBurstEnd s
  | .dmaPreempt beats => Sys2Proof.Machine.execDmaPreempt beats s
  | .streamBurstRequest k => Sys2Proof.Machine.execStreamBurstRequest k s
  | .streamWithdraw k => Sys2Proof.Machine.execStreamWithdraw k s
  | .dmaTransferEnd n => Sys2Proof.Machine.execDmaTransferEnd n s
  | .dmaCqRdWrite p index => Sys2Proof.Machine.execDmaCqRdWrite p index s
  | .recordWrite => Sys2Proof.Machine.execRecordWrite s
  | .clearKept p => Sys2Proof.Machine.execClearKept p s
  | .evlHeadSeqRead => Sys2Proof.Machine.execEvlHeadSeqRead s
  | .pmcCtlWrite p k value => Sys2Proof.Machine.execPmcCtlWrite p k value s
  | .pmcWindowBoundary => Sys2Proof.Machine.execPmcWindowBoundary s
  | .snap p => Sys2Proof.Machine.execSnap p s
  | .counterWrap k => Sys2Proof.Machine.execCounterWrap k s
  | .sweepStart g => Sys2Proof.Machine.execSweepStart g s
  | .inServiceTestDone g complete patterns sigOk => Sys2Proof.Machine.execInServiceTestDone g complete patterns sigOk s
  | .testRetry g => Sys2Proof.Machine.execTestRetry g s
  | .bstUnfence p g kind index => Sys2Proof.Machine.execBstUnfence p g kind index s
  | .bistPartitionDone p complete patterns countOk signature sigOk slices units decs other => Sys2Proof.Machine.execBistPartitionDone p complete patterns countOk signature sigOk slices units decs other s
  | .sensorSample readings => Sys2Proof.Machine.execSensorSample readings s
  | .sensorPrediction => Sys2Proof.Machine.execSensorPrediction s
  | .reliefRaise => Sys2Proof.Machine.execReliefRaise s
  | .reliefLower => Sys2Proof.Machine.execReliefLower s
  | .rateWindow => Sys2Proof.Machine.execRateWindow s
  | .stopOrderly => Sys2Proof.Machine.execStopOrderly s
  | .stopDrainEnd => Sys2Proof.Machine.execStopDrainEnd s
  | .stopImmediate => Sys2Proof.Machine.execStopImmediate s
  | .trip => Sys2Proof.Machine.execTrip s
  | .thermalRestart => Sys2Proof.Machine.execThermalRestart s
  | .hostCdrLoss seen => Sys2Proof.Machine.execHostCdrLoss seen s
  | .rateRange h freq dropped => Sys2Proof.Machine.execRateRange h freq dropped s
  | .drvTransactionDone g ack rdata => Sys2Proof.Machine.execDrvTransactionDone g ack rdata s
  | .checkerSyncGain seen => Sys2Proof.Machine.execCheckerSyncGain seen s
  | .checkerSyncLoss c syms errs bits => Sys2Proof.Machine.execCheckerSyncLoss c syms errs bits s
  | .lineAlignmentMarkerLock n => Sys2Proof.Machine.execLineAlignmentMarkerLock n s
  | .lineAlignmentMarkerLockLoss n => Sys2Proof.Machine.execLineAlignmentMarkerLockLoss n s
  | .recoveredRateSlewDone n => Sys2Proof.Machine.execRecoveredRateSlewDone n s
  | .busFree accepted => Sys2Proof.Machine.execBusFree accepted s

end Sys2Proof.Machine
end

