-- ==== Sys2Proof/Machine/Tick.lean ====
section
/-! DEFINITION. A core cycle without a command: what runs by the clock alone (DESIGN CHOICE, log entry 1). -/
namespace Sys2Proof.Machine

/-- One core cycle. The frame timer and the count of IEEE transmit intervals run while REFCLK is present (R31, R152); a device that is
awake advances its clock by the step in force (R240), and its host transmitters, restart windows and performance counters go on. -/
def State.tick (s : State) : State :=
  let s := { s with cycle := s.cycle + 1, risen := [], early := [] }
  let s := if s.flag CLK_STATUS.REF_PRESENT 0 then { s with frameTimer := (s.frameTimer + 1) % 19120, interval := (s.interval + 1) % 3840 } else s
  if s.offline then s
  else
    let s := { s with time := s.time.advance (clockStep s.adj) }
    s.tickHosts.tickLrx.tickPmc

end Sys2Proof.Machine
end

