-- ==== Sys2Proof/Safety.lean ====
section
/-! DEFINITION. What a state of the device keeps whatever it is commanded: its tables are in their canonical form, so that equal contents are
equal data. -/
namespace Sys2Proof.Machine

/-- A byte store is in its canonical form: addresses strictly rising, no entry equal to `erased`, what an unlisted address reads as. -/
def Memory.wf (erased : Byte) (m : List Host.Cell) : Bool := Tab.wf natLt (fun _ => erased) m

/-- The register file, the stores and the flash are in canonical form. -/
def State.canonical (s : State) : Prop :=
  s.regs.wf = true ∧ Memory.wf 0 s.mem = true ∧ Memory.wf 0xFF s.flash = true

/-- A run is safe while no command is refused. -/
def State.runs (s : State) : Prop := ∃ t, step s = .next t

end Sys2Proof.Machine
end

