-- ==== Sys2Proof/Certificates/Slice0/Obligations.lean ====
section
/-! DEFINITION. The statements for the provers, and the vocabulary they are written in. -/
open Sys2Proof Sys2Proof.Machine

namespace Sys2Proof.Claims

/-- The command answers a next state, and `P` holds of it. -/
def Completes (c : Instr) (s : State) (P : State → Prop) : Prop := ∃ t, exec c s = .next t ∧ P t

/-- The device takes a write to register `r`, index `i`, on path `p`: it answers, the path holds the role the register asks for, and the
register does not lie in a group being rebuilt or in a domain that is off. -/
abbrev Accepts (s : State) (p : Path) (r : Reg) (i : Nat) : Prop :=
  s.offline = false ∧ s.neededRole r ≤ s.role p ∧ s.rebuilding r i = false

/-- The frame: every register but those named keeps its value, and so does every byte of the stores and of the flash. -/
def Keeps (ks : List RegKey) (s t : State) : Prop :=
  (∀ r i, (r, i) ∉ ks → t.reg r i = s.reg r i) ∧ (∀ a, t.memByte a = s.memByte a) ∧ ∀ a, t.flashByte a = s.flashByte a

/-- The frame by kinds of register: every register of a kind not named keeps its value at every index. -/
def KeepsKinds (rs : List Reg) (s t : State) : Prop :=
  (∀ r i, r ∉ rs → t.reg r i = s.reg r i) ∧ (∀ a, t.memByte a = s.memByte a) ∧ ∀ a, t.flashByte a = s.flashByte a

/-- The frame of registers alone, and the frame of the stores outside `n` bytes from address `a` up. -/
def KeepsRegs (ks : List RegKey) (s t : State) : Prop := ∀ r i, (r, i) ∉ ks → t.reg r i = s.reg r i
def KeepsOutside (a n : Nat) (s t : State) : Prop :=
  (∀ b, inRange a n b = false → t.memByte b = s.memByte b) ∧ ∀ b, t.flashByte b = s.flashByte b

/-- The recorder's queue takes a record (R420, Table 15-2): type, subject and words, numbered next, with a time stamp. -/
def LoggedAt (ts : Ts96) (type kind index : Nat) (words : List Nat) (s t : State) : Prop :=
  ∃ e : Rec, t.recorder.queue = s.recorder.queue ++ [e] ∧ e.type = type ∧ e.seq = s.recorder.next ∧ e.ts = ts ∧
    e.words = ((kind * 2 ^ 24 + index % 2 ^ 16) :: words).map (BitVec.ofNat 32)

/-- The recorder's queue takes a record of an event that happens now. -/
abbrev Logged (type kind index : Nat) (words : List Nat) (s t : State) : Prop := LoggedAt s.now type kind index words s t

/-- The recorder's queue has room (R420). -/
abbrev Room (s : State) : Prop := s.recorder.queue.length < 64

/-- What recording an event may count: a record dropped (R423). -/
abbrev logKeys : List RegKey := [(.EVL_DROPPED, 0)]

/-- What asserting ALERT_N changes: the class bits and `GLB_STATE.ALERT` (R299). -/
abbrev alertKeys : List RegKey := [(.MGT_ALERT_STATUS, 0), (.GLB_STATE, 0)]

/-- What the equaliser pool of a group may change, and what a lane that gains or leaves lock may change with it. -/
abbrev poolKinds : List Reg := [.EQP_POOL, .EQP_SLICE_STATE, .EQP_ALLOC, .EQP_POS, .EQP_STATUS, .EQP_POST, .EQP_TARGET, .EQP_OP_STATUS,
  .EQP_OP_OK, .EQP_OP_FAIL, .EQP_COEF, .BST_DEC_STATE, .BST_IS_ABORT, .EVL_DROPPED]
abbrev lockKinds : List Reg := poolKinds ++ [.LRX_STATUS, .LRX_LOL, .LRX_SNR, .LRX_ACQ_COLD, .LFEC_STATUS, .CIN_GAPS, .CIN_LANE_STATUS,
  .TMB_QUALITY, .TMB_LANE_FLAGS, .HPM_PORT_STATUS]

/-- What a calibration run changes, and what shedding a lane or failing it changes beside the lane's own registers. -/
abbrev calKinds : List Reg := [.CAL_COUNT, .CAL_RESULT, .CAL_LAST_TIME, .CAL_LAST_Q, .CAL_VALUE, .EVL_DROPPED]
abbrev failKinds : List Reg := [.LRX_FAIL, .CIN_SHEDS, .CIN_CH_STATUS, .MGT_ALERT_STATUS, .GLB_STATE]

/-- Field `f` of instance `i` counts `n` more, modulo its width. -/
def Counts (f : Field) (i : Nat) (s t : State) (n : Nat := 1) : Prop := t.fld f i = (s.fld f i + n) % 2 ^ f.width

/-- What no change of power, clocks or configuration touches: the device's identity, its sensors, and the flash. -/
def Holds (s t : State) : Prop :=
  (∀ r ∈ [Reg.GLB_ID, .GLB_PARAM, .SEC_UID, .THM_SENSOR, .THM_PRED], ∀ i, t.reg r i = s.reg r i) ∧ ∀ a, t.flashByte a = s.flashByte a

/-- The class bit is set and ALERT_N asserted. -/
def Alerted (cls : Nat) (t : State) : Prop := (t.fld MGT_ALERT_STATUS.CLASS 0).testBit cls = true ∧ t.flag GLB_STATE.ALERT 0 = true

/-- The registers that follow their access codes alone (Table 0-5): of one word, and wider. -/
abbrev plainRegs : List Reg := [.PWR_WAKE_LANES, .TSK_CTRL, .TMB_QUALITY, .TMB_PPS_OUT_OFS, .TMB_PPS_IN_DLY, .TMB_PPS_UNC, .LRX_AGC_CFG,
  .MGT_IBI_EN, .HKA_CH_CAL, .HKA_STREAM_RD, .THM_LIMIT_C, .MEM_FLIP_ADDR, .PMC_THRESH, .PMC_USER_EN, .PMC_SAMPLE_MIN]
abbrev plainWide : List Reg := [.CAL_TSK, .PMC_PRESET, .PMC_SAMPLE_LIST]

/-- Bit `k` of register `r`, index `i`, after a write of `x`, by the access code of the field it lies in (Table 0-5); a W1C bit that the
device has set in the core cycle of the write stays 1 (R9). -/
def writtenBit (s : State) (r : Reg) (i x k : Nat) : Bool :=
  let old := (s.reg r i).getLsbD k
  match (r.desc.fields.find? fun f => decide (f.lo ≤ k ∧ k ≤ f.hi)).map fun f => f.access with
  | some Access.rw | some Access.rws => x.testBit k
  | some Access.w1c => old && !(x.testBit k && !(s.risenOf r i).testBit k)
  | _ => old

/-- The turn of a register write among the writes of its core cycle has come (Table 10-10): none to that register waits whose path goes
first, and it has not been taken already. -/
abbrev InTurn (s : State) (p : Path) (a x : Word32) : Prop :=
  s.writesBefore p a.toNat = [] ∧ s.early.contains (p, a.toNat, x.toNat) = false

/-- Word `w` of what a commit of `x` writes to a wide register: the lowest word is `x`, a higher one the word staged for it, or, where none
is, that of the value last committed (R7). -/
def committedWord (s : State) (r : Reg) (i x w : Nat) : Nat :=
  if w = 0 then x % 2 ^ 32
  else if (s.stagedOf (r, i)).2.testBit w then wordOf (s.stagedOf (r, i)).1 w else wordOf (s.lastCommit (r, i)) w

/-- A message laid out as Table 10-6 states arrives for this device on a transport that is up, the controllers running; `m` is the message
without the padding of an Ethernet frame. -/
abbrev Arrives (s : State) (via : Via) (msg m : List Byte) : Prop :=
  s.viaUp via = true ∧ s.headless = false ∧ cwOk (match via with | .eth _ _ => true | _ => false) msg = true ∧ m = msg.take (cwSize msg)

/-- A message goes out on a transport: to the port's Ethernet side, into the entries of CONTROL cells of a Cinch host lane, to the queue of
a far node. -/
def Delivered (via : Via) (msg : List Byte) (u t : State) : Prop :=
  match via with
  | .eth p src => Tab.get (fun _ => (0, [])) t.mgt.eth p = (src.toNat, msg)
  | .cinch h => u.hsvc h = Svc.CINCH → (t.hsiOf h).entries = (u.hsiOf h).entries ++ cwEntries msg
  | .tunnel node => ∃ q ∈ t.mgt.tun, q.node = node.toNat ∧ q.msgs.getLast? = some msg

/-- A reply goes out from state `u`, which the request has made: it echoes the type with bit 7 set, the session and the tag (R309), is counted,
and changes no other register and no store. -/
def Replied (via : Via) (m : List Byte) (status : Nat) (body key : List Byte) (u t : State) : Prop :=
  Delivered via (cwMake (128 + cwType m) status (cwSession m) (cwTag m) body key) u t ∧ Counts MGT_CW_TX.COUNT 0 u t ∧ Keeps [(.MGT_CW_TX, 0)] u t

/-- The request is counted, and nothing else has changed a register yet. -/
abbrev cwKeys : List RegKey := [(.MGT_CW_RX, 0), (.MGT_CW_TX, 0)]
def Served (via : Via) (m : List Byte) (status : Nat) (body key : List Byte) (ks : List RegKey) (s t : State) : Prop :=
  Delivered via (cwMake (128 + cwType m) status (cwSession m) (cwTag m) body key) s t ∧ Counts MGT_CW_RX.COUNT 0 s t ∧
    Counts MGT_CW_TX.COUNT 0 s t ∧ Keeps (cwKeys ++ ks) s t

/-- The frame timer counts modulo 19,120 (R31), the IEEE transmit interval modulo 3,840 (R152), the nanoseconds of the clock stay below 10^9
(R11), the recorder's queue holds 64 records (R423). -/
def InRange (s : State) : Prop := s.frameTimer < 19120 ∧ s.interval < 3840 ∧ s.time.sub < 10 ^ 9 * 2 ^ 48 ∧ s.recorder.queue.length ≤ 64

end Sys2Proof.Claims

open Sys2Proof.Claims

/-- A listed selection in range is stored and, where it changes source, instance or mode or enables the counter, loads the preset; at
a TS96 multiple of WIN a window boundary copies every windowed counter and restarts it; SNAP copies all 128 counters at once; a
wrap with SAMPLE, not too soon after the last and with no lower counter wrapping in its core cycle, records a sample and loads the
preset. Every other register and every byte of memory is unchanged. (15_event_log_and_counters.md: Performance counters) -/
def Obligations.PmcCommands : Prop :=
  (∀ (s : State) (p : Path) (k : Fin 128) (v : Word32) (n : Nat) (occ : Bool), Accepts s p .PMC_CTL k →
    pmcSource (fieldOf v.toNat PMC_CTL.SRC) (fieldOf v.toNat PMC_CTL.SEL) = some (n, occ) → fieldOf v.toNat PMC_CTL.INST < n →
    (fieldOf v.toNat PMC_CTL.MODE = 0 ∨ fieldOf v.toNat PMC_CTL.MODE = 1 ∧ occ = true) →
    (fieldOf v.toNat PMC_CTL.EN = 1 → s.partFailed 13 = false) →
    Completes (.pmcCtlWrite p k v) s fun t =>
      (∀ f ∈ [PMC_CTL.EN, PMC_CTL.MODE, PMC_CTL.WINDOWED, PMC_CTL.SAMPLE, PMC_CTL.SRC, PMC_CTL.SEL, PMC_CTL.INST],
        t.fld f k = fieldOf v.toNat f) ∧
      t.fld PMC_VALUE.COUNT k =
        (if (∃ f ∈ [PMC_CTL.SRC, PMC_CTL.SEL, PMC_CTL.INST, PMC_CTL.MODE], fieldOf v.toNat f ≠ s.fld f k) ∨
            (fieldOf v.toNat PMC_CTL.EN = 1 ∧ s.flag PMC_CTL.EN k = false)
          then s.fld PMC_PRESET.PRESET k else s.fld PMC_VALUE.COUNT k) ∧
      Keeps [(.PMC_CTL, k), (.PMC_VALUE, k)] s t) ∧
  (∀ s : State, s.windowStarts = true → Completes .pmcWindowBoundary s fun t =>
    (∀ k : Fin 128, s.flag PMC_CTL.WINDOWED k = true →
      t.fld PMC_WIN.COUNT k = s.pmcWas k % 2 ^ 48 ∧ t.flag PMC_WIN.STEPPED k = false ∧
      t.flag PMC_WIN.VALID k = (s.pmcOf k).whole ∧ t.fld PMC_VALUE.COUNT k = s.fld PMC_PRESET.PRESET k) ∧
    Keeps ((counters128.filter fun k => s.flag PMC_CTL.WINDOWED k).flatMap fun k => [(.PMC_WIN, k), (.PMC_VALUE, k)]) s t) ∧
  (∀ (s : State) (p : Path), Accepts s p .PMC_GLOBAL 0 → 1 ≤ s.fld PMC_GLOBAL.WIN 0 → s.fld PMC_GLOBAL.WIN 0 ≤ 1000000 →
    Completes (.snap p) s fun t =>
      (∀ k : Fin 128, t.pmcSnap.getD k 0 = s.pmcWas k) ∧ Keeps [] s t) ∧
  (∀ (s : State) (k : Fin 128) (at_ : Nat) (ts : Ts96), (s.pmcOf k).wrapAt = some (at_, ts) → Room s →
    (∀ c, (s.pmcOf k).lastSample = some c → c + cyclesOfUs (s.fld PMC_SAMPLE_MIN.MIN 0) ≤ at_) →
    (∀ j < k.val, (s.pmcOf j).wrapAt.map (·.1) ≠ some at_) →
    Completes (.counterWrap k) s fun t =>
      (t.pmcOf k).wrapAt = none ∧
      (if s.flag PMC_CTL.SAMPLE k = true then
        LoggedAt ts Evt.PMC_SAMPLE Subj.COUNTER k
          (min 8 (s.cycle - at_) :: s.sampleList.flatMap fun c => c :: words64 (s.fld PMC_VALUE.COUNT c)) s t ∧
        t.fld PMC_VALUE.COUNT k = s.fld PMC_PRESET.PRESET k
      else t.recorder = s.recorder ∧ t.fld PMC_VALUE.COUNT k = s.fld PMC_VALUE.COUNT k) ∧
      Keeps [(.PMC_VALUE, k)] s t)

/-- A pool operation that software or self-test requests of an idle group, with no case of R111 against it, becomes the group's one
operation, BUSY reads 1, and QUEUED tells whether its lane is out of LOCKED; a relief operation joins the group's list in its
place. Nothing else changes but the command register and the status of the two lanes. (04_equaliser_pool.md: Pool operations) -/
def Obligations.PoolRequests : Prop :=
  ∀ (s : State) (p : Path) (g : Grp) (l : Fin 2) (pos dest : Fin 16),
    let want := fun (op a b source : Nat) =>
      ({ op := op, lane := l, pos := a, dest := b, source := source, id := (s.grpOf g).opSeq } : PoolOp)
    let idle := (s.grpOf g).ops = [] ∧ s.headless = false ∧ s.groupClosing g = false
    let frame := fun (t : State) =>
      Keeps [(.EQP_OP_CMD, g), (.EQP_OP_STATUS, g), (.EQP_STATUS, 2 * g), (.EQP_STATUS, 2 * g + 1)] s t
    let waits := fun (o : PoolOp) (t : State) => (t.grpOf g).ops = [o] ∧ t.flag EQP_OP_STATUS.BUSY g = true ∧
      t.flag EQP_OP_STATUS.QUEUED g = !s.locked (2 * g + l) ∧ t.fld EQP_OP_STATUS.SOURCE g = o.source ∧ frame t
    let joins := fun (o : PoolOp) (t : State) => (t.grpOf g).ops = insertRelief o (s.grpOf g).ops ∧
      t.flag EQP_OP_STATUS.BUSY g = true ∧ frame t
    let does := fun (c : PoolSource → Instr) (op a b : Nat) =>
      (Accepts s p .EQP_OP_CMD g → idle → s.refusal g (want op a b 0) = none → Completes (c (.software p)) s (waits (want op a b 0))) ∧
      (idle → s.refusal g (want op a b 2) = none → Completes (c .selfTest) s (waits (want op a b 2))) ∧
      Completes (c .relief) s (joins (want op a b 1))
    does (fun src => .migrate src g l pos dest) Pool.MIGRATE pos dest ∧ does (fun src => .add src g l) Pool.ADD 0 15 ∧
    does (fun src => .remove src g l) Pool.REMOVE 0 15 ∧ does (fun src => .fuse src g l) Pool.FUSE 0 15 ∧
    does (fun src => .unfuse src g l) Pool.UNFUSE 0 15 ∧ does (fun src => .toDfe src g l) Pool.TO_DFE 0 15 ∧
    does (fun src => .toMlse src g l) Pool.TO_MLSE 0 15

/-- At a frame boundary of a locked lane an operation that waits, with nothing against it, starts: one of frames is in progress and OP
of its lane reads 1, one of no frames ends OK. A frame of it that finds no difference advances it by one; a comparison of MIGRATE
that finds one ends it MISMATCH and counts a failure; after its last frame it ends OK, is counted and recorded. Only registers of
the pool, of the tests and of the recorder change, and no byte of memory. -/
def Sys2Proof.Claims.PoolSequencer : Prop :=
  ∀ (s : State) (g : Grp) (o : PoolOp) (rest : List PoolOp), (s.grpOf g).ops = o :: rest → (s.grpOf g).follow = [] →
    let frame := fun (t : State) =>
      KeepsKinds [.EQP_POOL, .EQP_SLICE_STATE, .EQP_ALLOC, .EQP_POS, .EQP_COEF, .EQP_STATUS, .EQP_POST, .EQP_TARGET, .EQP_OP_STATUS,
        .EQP_OP_OK, .EQP_OP_FAIL, .EVL_DROPPED] s t
    let ended := fun (result : Nat) (f : Field) (t : State) =>
      (t.grpOf g).ops = (rest.filter fun q => q.id ≠ o.id) ∧ t.fld EQP_OP_STATUS.RESULT g = result ∧
      t.fld f g = (s.fld f g + 1) % 2 ^ f.width ∧
      (Room s → Logged Evt.EQP_OP Subj.GROUP g [o.op, 2 * g + o.lane, result, o.source] s t)
    (o.started = false → o.lane < 2 → s.reliefSkips g o = false → s.locked (2 * g + o.lane) = true → s.startRefusal g o = none →
      s.needsTested g o = none →
      Completes (.poolOpStart g) s fun t => frame t ∧
        (opFrames o.op ≠ 0 → t.flag EQP_STATUS.OP (2 * g + o.lane) = true ∧
          ∃ o', (t.grpOf g).ops = o' :: rest ∧ o'.started = true ∧ o'.op = o.op ∧ o'.id = o.id ∧ o'.frames = o.frames) ∧
        (opFrames o.op = 0 → ended PoolResult.OK EQP_OP_OK.COUNT t)) ∧
    (o.started = true → o.frames < opFrames o.op → s.locked (2 * g + o.lane) = true →
      Completes (.poolOpFrame g true) s fun t => frame t ∧ (t.grpOf g).ops = { o with frames := o.frames + 1 } :: rest) ∧
    (o.started = true → o.frames < opFrames o.op → o.op = Pool.MIGRATE →
      Completes (.poolOpFrame g false) s fun t => frame t ∧ ended PoolResult.MISMATCH EQP_OP_FAIL.COUNT t) ∧
    (o.started = true → opFrames o.op ≤ o.frames →
      Completes (.poolOpEnd g) s fun t => frame t ∧ ended PoolResult.OK EQP_OP_OK.COUNT t)

/-- A violation of the identity of the slice counters sets AUDIT_FAIL, asserts class AUDIT and is recorded; AUDIT_CLR derives the
counters from the state vector again and lifts the hold where they agree; COEF_LOAD with FREEZE set and no operation on the lane
is due at the next boundary, FREEZE_CAUSE showing the freeze. -/
def Sys2Proof.Claims.PoolAudit : Prop :=
  (∀ (s : State) (g : Grp) (al fr ut fe : Fin 16), s.poolAgrees g al fr ut fe = false →
    Completes (.poolAuditViolation g (BitVec.ofNat 16 (al * 4096 + fr * 256 + ut * 16 + fe))) s fun t =>
      t.flag EQP_AUDIT.AUDIT_FAIL g = true ∧ Alerted Alert.AUDIT t ∧ t.fld EQP_POOL.ALLOCATED g = al ∧ t.fld EQP_POOL.FREE g = fr ∧
      (Room s → ∃ words, Logged Evt.EQP_AUDIT Subj.GROUP g words s t) ∧
      Keeps ([(.EQP_POOL, g.val), (.EQP_AUDIT, g.val)] ++ logKeys ++ alertKeys) s t) ∧
  (∀ (s : State) (p : Path) (g : Grp), Accepts s p .EQP_AUDIT g →
    Completes (.eqpAuditClr p g) s fun t =>
      t.fld EQP_POOL.FREE g = s.sliceCount g Slice.FREE ∧ t.fld EQP_POOL.ALLOCATED g = s.sliceCount g Slice.ALLOCATED ∧
      t.fld EQP_POOL.UNDER_TEST g = s.sliceCount g Slice.UNDER_TEST ∧ t.fld EQP_POOL.FENCED g = s.sliceCount g Slice.FENCED ∧
      t.flag EQP_AUDIT.AUDIT_FAIL g = (s.flag EQP_AUDIT.AUDIT_FAIL g &&
        !s.poolAgrees g (s.sliceCount g Slice.ALLOCATED) (s.sliceCount g Slice.FREE) (s.sliceCount g Slice.UNDER_TEST)
          (s.sliceCount g Slice.FENCED)) ∧
      Keeps [(.EQP_POOL, g), (.EQP_AUDIT, g)] s t) ∧
  (∀ (s : State) (p : Path) (n : Lane), Accepts s p .EQP_CTRL n → s.flag EQP_CTRL.FREEZE n = true → s.opActs n = false →
    8 ≤ s.fld EQP_CTRL.MU_TRK n → 8 ≤ s.fld EQP_CTRL.MU_TRN n →
    Completes (.coefLoad p n) s fun t => (t.eqpOf n).loadDue = some p ∧
      (t.fld EQP_STATUS.FREEZE_CAUSE n).testBit 3 = true ∧ Keeps [(.EQP_STATUS, n)] s t)

/-- At a frame boundary of a locked lane an operation that waits, with nothing against it, starts: one of frames is in progress and OP
of its lane reads 1, one of no frames ends OK. A frame of it that finds no difference advances it by one; a comparison of MIGRATE
that finds one ends it MISMATCH and counts a failure; after its last frame it ends OK, is counted and recorded. Only registers of
the pool, of the tests and of the recorder change, and no byte of memory. A violation of the identity of the slice counters sets
AUDIT_FAIL, asserts class AUDIT and is recorded; AUDIT_CLR derives the counters from the state vector again and lifts the hold
where they agree; COEF_LOAD with FREEZE set and no operation on the lane is due at the next boundary, FREEZE_CAUSE showing the
freeze. (04_equaliser_pool.md: Pool operations, 04_equaliser_pool.md: Accounting and fencing, 04_equaliser_pool.md: Registers) -/
def Obligations.PoolSequencerAndAudit : Prop := Sys2Proof.Claims.PoolSequencer ∧ Sys2Proof.Claims.PoolAudit

/-- A TIME word on a lane where time transfer runs is counted; TX_FINE is kept to be answered with its receive instant; RX_FINE with a
tag in hand gives the rtt; BOUND is the far bound; a reserved SUB is counted. A candidate best for sixteen multiframes replaces
another source. The loss of a far source that has been silent for 1 ms leaves no quality LOCKED. A follower whose offset has
stayed within LOCK_THR for 2 ms: one of a LOCKED source becomes LOCKED, one of a source in HOLDOVER goes from ESTIMATED to
HOLDOVER. (08_time_base.md: Fabric time transfer, 08_time_base.md: Source selection and servo, 08_time_base.md: Quality and error
bound) -/
def Obligations.TimeTransfer : Prop :=
  (∀ (s : State) (n : Lane) (w : BitVec 44), s.timeLane n = true →
    let sub := (w.extractLsb' 40 4).toNat
    let v := (w.extractLsb' 0 40).toNat
    let r : Int := (ts96To16 (BitVec.ofNat 96 (s.fld TMB_FRAME_RX.TS n)) : Nat)
    Completes (.timeWordReceived n w) s fun t =>
      t.fld LFEC_OAM_RX.COUNT n = (s.fld LFEC_OAM_RX.COUNT n + 1) % 2 ^ LFEC_OAM_RX.COUNT.width ∧
      t.fld TMB_TIME_RX.COUNT n = (s.fld TMB_TIME_RX.COUNT n + 1) % 2 ^ TMB_TIME_RX.COUNT.width ∧
      (sub = 0 → (t.tlaneOf n).toAnswer = some (v / 2 ^ 38, r) ∧ (t.tlaneOf n).fineRx = some (v % 2 ^ 38, r, s.cycle) ∧
        Keeps [(.LFEC_OAM_RX, n), (.TMB_TIME_RX, n)] s t) ∧
      (∀ a, sub = 1 → v % 2 ^ 38 ≠ 2 ^ 38 - 1 → (s.tlaneOf n).fines.find? (fun e => e.1 = v / 2 ^ 38 % 4) = some (v / 2 ^ 38 % 4, a) →
        t.flag TMB_RTT.VALID n = true ∧ t.fld TMB_RTT.RTT n = ofSigned 48 (r - a - Int.ofNat (v % 2 ^ 38)) ∧
        Keeps [(.LFEC_OAM_RX, n), (.TMB_TIME_RX, n), (.TMB_RTT, n), (.CIN_LANE_CFG, n), (.CIN_LANE_STATUS, n)] s t) ∧
      (sub = 3 → v % 256 = 0 → t.fld TMB_LANE_STATUS.Q n = v / 2 ^ 38 ∧ t.fld TMB_LANE_STATUS.NODE n = v / 256 % 65536) ∧
      (sub = 4 → v < 2 ^ 32 → (t.tlaneOf n).farBound = v ∧ Keeps [(.LFEC_OAM_RX, n), (.TMB_TIME_RX, n)] s t) ∧
      (5 ≤ sub → t.fld TMB_SUB_RSVD.COUNT n = (s.fld TMB_SUB_RSVD.COUNT n + 1) % 2 ^ TMB_SUB_RSVD.COUNT.width)) ∧
  (∀ (s : State) (k : TimeSource) (rank lane : Nat), s.bestCandidate = some (k, rank, lane) → k ≠ s.time.source → s.longBest k = true →
    Completes .sourceSelection s fun t => t.time.source = k ∧ (∀ a, t.memByte a = s.memByte a)) ∧
  (∀ s : State, s.sourceSilent = true →
    Completes .sourceLoss s fun t => t.quality ≠ Quality.LOCKED ∧ (∀ a, t.memByte a = s.memByte a)) ∧
  (∀ (s : State) (q hops node c : Nat), s.upstream = some (q, hops, node) → s.quality ≠ Quality.LOST → s.time.nearSince = some c →
    c + 1562500 ≤ s.cycle →
    Completes .timeLockQualified s fun t =>
      t.quality = (if q = Quality.LOCKED then Quality.LOCKED
        else if s.quality = Quality.ESTIMATED then Quality.HOLDOVER else s.quality) ∧
      KeepsKinds [.TMB_QUALITY, .TMB_ERR_BOUND, .TMB_STATUS] s t)

/-- TMB_SET with a valid value and no source followed sets TMB_NOW to it, quality ESTIMATED; an invalid value changes neither and
reports 2. A GM_FREE device that is its own source, not LOST, begins an epoch LOCKED with bound 0 once no LOCKED far candidate has
appeared for 10 ms. A bound beyond HOLD_LIMIT turns HOLDOVER into ESTIMATED and one beyond 2^63 - 1 ps gives LOST. A node ID is
taken while no lane is LOCKED. GO starts a calibration of 16 edges or more, which ends with A_new = A_old + 2 x mean, or ABORTED.
(08_time_base.md: The TS96 clock, 08_time_base.md: Quality and error bound, 08_time_base.md: Calibrating asymmetry against a
common PPS, 08_time_base.md: Registers) -/
def Obligations.ClockCommands : Prop :=
  (∀ (s : State) (p : Path) (v : BitVec 128), Accepts s p .TMB_SET 0 →
    (ts96Valid (v.extractLsb' 0 96) = true → s.following = false →
      Completes (.tmbSet p v) s fun t => t.now = v.extractLsb' 0 96 ∧ t.quality = Quality.ESTIMATED ∧
        t.flag TMB_QUALITY.STEPPED 0 = true ∧ t.fld TMB_STATUS.RESULT 0 = 0) ∧
    (ts96Valid (v.extractLsb' 0 96) = false →
      Completes (.tmbSet p v) s fun t => t.time = s.time ∧ t.fld TMB_STATUS.RESULT 0 = 2 ∧ Keeps ([(.TMB_STATUS, 0)] ++ logKeys) s t) ∧
    (ts96Valid (v.extractLsb' 0 96) = true → s.following = true →
      Completes (.tmbSet p v) s fun t => t.time = s.time ∧ t.fld TMB_STATUS.RESULT 0 = 1 ∧ Keeps [(.TMB_STATUS, 0)] s t)) ∧
  (∀ s : State, s.time.source = .self → s.flag TMB_SRC_CFG.GM_FREE 0 = true → s.quality ≠ Quality.LOCKED →
    s.quality ≠ Quality.LOST → s.farLocked = false → s.time.quietAt + 7812500 ≤ s.cycle →
    Completes .tmbEpoch s fun t => t.quality = Quality.LOCKED ∧ t.time.bound = 0 ∧ t.now = s.now ∧
      (Room s → Logged Evt.TMB_EPOCH Subj.DEVICE 0 (ts96Words s.now ++ [s.fld TMB_NODE_ID.NODE_ID 0]) s t)) ∧
  (∀ s : State, s.quality = Quality.HOLDOVER →
    (2 ^ 63 ≤ s.boundNow → Completes .boundLimitExceeded s fun t =>
      t.quality = Quality.LOST ∧ t.flag TMB_ERR_BOUND.UNBOUNDED 0 = true ∧ KeepsKinds [.TMB_QUALITY, .TMB_ERR_BOUND] s t) ∧
    (s.boundNow < 2 ^ 63 → s.fld TMB_HOLD_CFG.HOLD_LIMIT 0 * 10000 < s.boundNow → Completes .boundLimitExceeded s fun t =>
      t.quality = Quality.ESTIMATED ∧ t.time.bound = s.boundNow ∧ KeepsKinds [.TMB_QUALITY, .TMB_ERR_BOUND] s t)) ∧
  (∀ (s : State) (p : Path) (id : BitVec 16), Accepts s p .TMB_NODE_ID 0 → (∀ n : Lane, s.locked n = false) →
    Completes (.tmbNodeIdWrite p id) s fun t => t.fld TMB_NODE_ID.NODE_ID 0 = id.toNat) ∧
  (∀ (s : State) (p : Path) (n : Lane) (edges : BitVec 10) (unc : BitVec 14), Accepts s p .TMB_ASYM_CAL 0 → s.headless = false →
    s.flag TMB_STATUS.CAL_BUSY 0 = false → 16 ≤ edges.toNat →
    Completes (.asymCalGo p n edges unc) s fun t => t.flag TMB_STATUS.CAL_BUSY 0 = true ∧ t.fld TMB_ASYM_CAL.LANE 0 = n ∧
      t.fld TMB_ASYM_CAL.EDGES 0 = edges.toNat ∧ t.fld TMB_ASYM_CAL.REF_UNC 0 = unc.toNat ∧
      Keeps [(.TMB_ASYM_CAL, 0), (.TMB_STATUS, 0)] s t) ∧
  (∀ (s : State) (far : List (BitVec 96)), s.flag TMB_STATUS.CAL_BUSY 0 = true →
    let diffs := List.zipWith (fun (a : Int) (b : BitVec 96) => a - (ts96To16 b : Int)) s.time.calCaps far
    let k := s.fld TMB_ASYM_CAL.EDGES 0
    let n := s.fld TMB_ASYM_CAL.LANE 0 % 16
    Completes (.asymCalDone far) s fun t => t.flag TMB_STATUS.CAL_BUSY 0 = false ∧
      (if far.length = k ∧ diffs.length = k ∧ s.quality = Quality.LOCKED then
        t.fld TMB_STATUS.RESULT 0 = 0 ∧
        t.fld TMB_ASYM.ASYM n =
          ofSigned 32 (toSigned 32 (s.fld TMB_ASYM.ASYM n) + 2 * diffs.foldl (· + ·) 0 / ((k * 256 : Nat) : Int)) ∧
        Keeps ([(.TMB_ASYM, n), (.TMB_ASYM_UNC, n), (.TMB_STATUS, 0)] ++ logKeys) s t
      else t.fld TMB_STATUS.RESULT 0 = 4 ∧ Keeps [(.TMB_STATUS, 0)] s t))

/-- A PPS_IN edge of 100 ns or more is captured and counted, time and quality staying as they are outside DISCIPLINE; an edge missing
for 1.5 s in DISCIPLINE is counted and leaves no quality LOCKED; PPS_OUT rises where it is enabled, quality passes its gate, the
second is reached, the last rise is half a second past and marked another second, and falls after WIDTH. On a port that corrects,
ingress of a supported frame without a stamp stamps it while LOCKED, and a stamped one is skipped and counted; egress adds the
residence time to the correction field, or counts UNLOCK, and zeroes the stamp. (08_time_base.md: PPS_IN and PPS_OUT,
08_time_base.md: IEEE 1588 transparent clock) -/
def Obligations.PpsAndPtp : Prop :=
  (∀ (s : State) (off : Fin 136) (width : Nat), s.fld TMB_PPS_CFG.IN_MODE 0 ≠ 0 → 100 ≤ width → .sourceSelection ∉ s.pending →
    .sourceLoss ∉ s.pending →
    Completes (.ppsInEdge off width) s fun t =>
      t.fld TMB_PPS_EDGES.COUNT 0 = (s.fld TMB_PPS_EDGES.COUNT 0 + 1) % 2 ^ TMB_PPS_EDGES.COUNT.width ∧
      t.fld TMB_PPS_IN_TS.TS 0 =
        (ts96Of ((s.hostInstant off : Int) - toSigned 32 (s.fld TMB_PPS_IN_DLY.DLY 0) * 65536 / 1000).toNat).toNat ∧
      (s.fld TMB_PPS_CFG.IN_MODE 0 ≠ 2 ∨ s.time.source ≠ .self → t.now = s.now ∧ t.time.ppsAt = some s.cycle ∧
        Keeps [(.TMB_PPS_EDGES, 0), (.TMB_PPS_IN_TS, 0)] s t)) ∧
  (∀ s : State, s.fld TMB_PPS_CFG.IN_MODE 0 = 2 → s.time.source = .self → s.ppsSilent = true →
    Completes .ppsMissing s fun t =>
      t.fld TMB_PPS_MISS.COUNT 0 = (s.fld TMB_PPS_MISS.COUNT 0 + 1) % 2 ^ TMB_PPS_MISS.COUNT.width ∧
      t.quality = (if s.quality = Quality.LOCKED then Quality.HOLDOVER else s.quality) ∧
      KeepsKinds [.TMB_PPS_MISS, .TMB_QUALITY, .TMB_ERR_BOUND, .TMB_STATUS] s t) ∧
  (∀ s : State, s.flag TMB_PPS_CFG.OUT_EN 0 = true → s.ppsGate = true →
    (∀ c, s.time.ppsOutLast = some c → 390625000 ≤ s.cycle - c) → s.ppsReached = true → s.time.ppsOutSec ≠ some s.ppsSecond →
    exec .ppsOutRise s = .next { s with time :=
      { s.time with ppsOut := true, ppsOutLast := some s.cycle, ppsOutSec := some s.ppsSecond } }) ∧
  (∀ s : State, s.ppsWide = true → exec .ppsOutFall s = .next { s with time := { s.time with ppsOut := false } }) ∧
  (∀ (s : State) (p : Fin 32) (off : Fin 136) (f : List Byte) (h : Nat) (ck : Option Nat), s.tcPort p = true → ptpPlace f = some (h, ck) →
    (s.portHears p = true → Completes (.ptpIngress p off f) s fun t =>
      (mtsOf f h ≠ 0 → t.time.ptp = f ∧ Counts TMB_TC_SKIP.COUNT p s t ∧ Keeps [(.TMB_TC_SKIP, p)] s t) ∧
      (mtsOf f h = 0 → s.quality = Quality.LOCKED → Keeps [] s t ∧
        t.time.ptp = ptpUpdate f h ck (if ptpStamp (s.hostInstant off) = 0 then 1 else ptpStamp (s.hostInstant off)) (correctionOf f h)) ∧
      (mtsOf f h = 0 → s.quality ≠ Quality.LOCKED → t.time.ptp = f ∧ Keeps [] s t)) ∧
    (mtsOf f h ≠ 0 → Completes (.ptpEgress p off f) s fun t =>
      (s.quality = Quality.LOCKED → Counts TMB_TC_CORR.COUNT p s t ∧ Keeps [(.TMB_TC_CORR, p)] s t ∧
        t.time.ptp = ptpUpdate f h ck 0 (correctionOf f h + ((ptpStamp (s.hostInstant off) - mtsOf f h).setWidth 64 <<< 8))) ∧
      (s.quality ≠ Quality.LOCKED → t.time.ptp = ptpUpdate f h ck 0 (correctionOf f h) ∧ Counts TMB_TC_UNLOCK.COUNT p s t ∧
        Keeps [(.TMB_TC_UNLOCK, p)] s t)) ∧
    ∀ (mts : BitVec 32) (c : BitVec 64), mtsOf (ptpUpdate f h ck mts c) h = mts ∧ correctionOf (ptpUpdate f h ck mts c) h = c)

/-- A page within reach of its code is repaired and counted, and no word of it keeps an error the light code cannot correct; a page
whose copy is done has no error left; a scrub beat of the region whose turn it is leaves no single-bit error in the words it reads
and moves the scrubber on; a legal flip mask is stored with its count. None of them changes a byte of the stores.
(14_memory_ecc_dma.md: Page code, 14_memory_ecc_dma.md: Scrubber, 14_memory_ecc_dma.md: Retirement, 14_memory_ecc_dma.md: Flip
mask) -/
def Obligations.MemoryCommands : Prop :=
  (∀ (s : State) (m : Fin 21) (page : BitVec 10),
    let a := regionBase m + 4096 * page.toNat
    s.memx.repairing.contains a = true → s.inReach m a = true →
    Completes (.pageRepairDone m page) s fun t =>
      t.fld MEM_REPAIR.COUNT m = (s.fld MEM_REPAIR.COUNT m + 1) % 2 ^ MEM_REPAIR.COUNT.width ∧
      (∀ w, inRange a 4096 w = true → weight (t.errAt w) ≤ 1) ∧
      KeepsKinds [.MEM_REPAIR, .MEM_SPARE, .MEM_STATUS, .CIN_LANE_STATUS, .MGT_ALERT_STATUS, .GLB_STATE, .EVL_DROPPED] s t) ∧
  (∀ (s : State) (m : Fin 21) (page : BitVec 10),
    let a := regionBase m + 4096 * page.toNat
    s.memx.copying.contains a = true → s.inReach m a = true →
    Completes (.retirementCopyDone m page) s fun t =>
      t.memx.copying = s.memx.copying.erase a ∧ (∀ w, inRange a 4096 w = true → t.errAt w = 0) ∧ t.memx.poison = s.memx.poison ∧
      Keeps [] s t) ∧
  (∀ (s : State) (m : Fin 21) (upsets : List (Fin 32 × BitVec 72)) (page beat start : Nat), s.scrubs m = true → s.scrubTurn m = true →
    Tab.get (fun _ => (0, 0, s.cycle)) s.memx.scrub m.val = (page, beat, start) →
    Completes (.scrubBeat m upsets) s fun t =>
      (∀ w ∈ wordsOf m (regionBase m + 4096 * page + 32 * beat) 32, weight (t.errAt w) ≠ 1) ∧
      (beat < 127 → Tab.get (fun _ => (0, 0, s.cycle)) t.memx.scrub m.val = (page, beat + 1, start)) ∧
      KeepsKinds [.MEM_CORR, .MEM_SPARE, .MEM_STATUS, .MEM_SCRUB_LAP, .MEM_LAP_COUNT, .CIN_LANE_STATUS, .MGT_ALERT_STATUS,
        .GLB_STATE, .EVL_DROPPED] s t) ∧
  (∀ (s : State) (p : Path) (v : BitVec 128), Accepts s p .MEM_FLIP_MASK 0 → fieldOf v.toNat MEM_FLIP_MASK.STORE ≤ 6 →
    fieldOf v.toNat MEM_FLIP_MASK.TARGET ≤ 1 → fieldOf v.toNat MEM_FLIP_MASK.COUNT ≠ 0 →
    Completes (.flipMaskCommit p v) s fun t =>
      (∀ f ∈ [MEM_FLIP_MASK.ARM, MEM_FLIP_MASK.STORE, MEM_FLIP_MASK.TARGET, MEM_FLIP_MASK.COUNT, MEM_FLIP_MASK.MASK],
        t.fld f 0 = fieldOf v.toNat f) ∧
      t.memx.flipLeft = fieldOf v.toNat MEM_FLIP_MASK.COUNT ∧ Keeps [(.MEM_FLIP_MASK, 0)] s t)

/-- On a lane whose transmit stream is closed a position carries IDLE; with no replay run a queued CONTROL granule goes first, then
the channel the round robin picks, with its next CHSEQ; a new numbered granule takes SEQ head, its slot and its directory entry.
Only the bytes of its slot change. -/
def Sys2Proof.Claims.GranulesSent : Prop :=
  ∀ (s : State) (n : Lane) (readOk copyOk ingOk : Bool), s.cinchLane n = true →
    let x := s.claneOf n
    let head := s.laneHead n
    let epoch := s.fld CIN_LANE_EPOCH.ACTED n % 4
    let puts := fun (g : LineGran) (t : State) => (t.claneOf n).sent = g ∧
      (t.ltxOf n).stream = (s.ltxOf n).stream ++ granuleCodeword (lineTag g.kind g.chan g.epoch) g.payload
    let numbered := fun (ctl : Bool) (chan : Nat) (chseq : BitVec 32) (payload : List Byte) (t : State) =>
      puts ⟨if ctl then 2 else 1, chan, epoch, payload⟩ t ∧ t.laneHead n = head + 1 ∧
      (t.claneOf n).dir = (⟨head, x.slot, ctl, chan, chseq⟩ :: x.dir).take (s.fld CIN_LANE_STATUS.SLOTS n) ∧
      KeepsOutside (slotAddr n x.slot) (payload.length + 32) s t
    (s.laneOpen n = false → Completes (.granulePosition n readOk copyOk ingOk) s fun t =>
      puts ⟨0, 0, epoch, List.replicate 640 0⟩ t ∧ Keeps [] s t) ∧
    (s.laneOpen n = true → x.run = none → x.ctlQ = [] → s.wrrPick n = none →
      Completes (.granulePosition n readOk copyOk ingOk) s fun t => puts ⟨0, 0, epoch, List.replicate 640 0⟩ t ∧ Keeps [] s t) ∧
    (∀ p rest, s.laneOpen n = true → x.run = none → x.ctlQ = p :: rest →
      Completes (.granulePosition n readOk copyOk ingOk) s fun t =>
        numbered true 0 0 p t ∧ (t.claneOf n).ctlQ = rest ∧ KeepsRegs [(.CIN_LANE_SEQ, n.val), (.MEM_FLIP_MASK, 0)] s t) ∧
    (∀ c g rest, s.laneOpen n = true → x.run = none → x.ctlQ = [] → s.wrrPick n = some c → (s.chanOf c).ing = g :: rest →
      Completes (.granulePosition n readOk copyOk true) s fun t =>
        numbered false c (s.chanOf c).txNext g.payload t ∧ (t.chanOf c).ing = rest ∧ (t.chanOf c).txNext = (s.chanOf c).txNext + 1 ∧
        t.fld CIN_SENT.COUNT c = (s.fld CIN_SENT.COUNT c + 1) % 2 ^ CIN_SENT.COUNT.width ∧
        KeepsRegs ([(.CIN_LANE_SEQ, n.val), (.CIN_SENT, c), (.MEM_FLIP_MASK, 0)] ++ (List.range 16).map fun i => (.CIN_CH_ACCT, 16 * c + i)) s t)

/-- In RUN a position that was not decoded, or whose codeword was beyond correction, is a gap: counted, the stream goes to WAIT and a
NACK asks for SEQ E in a new epoch; a good CONTROL granule in SEQ order advances E and its records wait to be processed, those of
reserved type being counted; IDLE changes no register. NACK_TO in WAIT counts and sends a new NACK. A NACK whose epoch is ahead
and whose SEQ stands in the directory starts a replay run there; one whose epoch was acted on is counted as a duplicate. -/
def Sys2Proof.Claims.GranulesReceived : Prop :=
  ∀ (s : State) (n : Lane),
    let asks := fun (t : State) => ∃ q ∈ t.cin.nacks, q.lane = n ∧ q.seq = s.laneE n ∧ q.epoch = t.fld CIN_LANE_EPOCH.SENT n ∧ q.left = 2
    let isGap := fun (t : State) => Counts CIN_GAPS.COUNT n s t ∧ t.rxStream n = Stream.WAIT ∧ asks t ∧
      Keeps [(.CIN_GAPS, n), (.CIN_LANE_STATUS, n), (.CIN_LANE_EPOCH, n)] s t
    (s.cinchLane n = true → s.locked n = true → s.rxStream n = Stream.RUN → (s.claneOf n).ctlIn = [] →
      (∀ tag payload, (s.lfecOf n).rxOut = [] → Completes (.granuleReceived n false tag payload) s isGap) ∧
      (∀ w rest tag payload, (s.lfecOf n).rxOut = (false, w) :: rest →
        Completes (.granuleReceived n false tag payload) s fun t => isGap t ∧ (t.lfecOf n).rxOut = rest) ∧
      (∀ w rest (hi : BitVec 12) (payload : List Byte), (s.lfecOf n).rxOut = (true, w) :: rest →
        granuleParts (symbolBits (w.map (·.toNat))) = (hi ++ tagCrc hi, payload) →
        (hi.extractLsb' 10 2 = 0 → Completes (.granuleReceived n true (hi ++ tagCrc hi) payload) s fun t => (t.lfecOf n).rxOut = rest ∧
          Keeps [] s t ∧ t.cin = s.cin ∧ t.chan = s.chan) ∧
        (hi.extractLsb' 10 2 = 2 → Completes (.granuleReceived n true (hi ++ tagCrc hi) payload) s fun t => (t.lfecOf n).rxOut = rest ∧
          t.laneE n = s.laneE n + 1 ∧
          t.rxStream n = Stream.RUN ∧ (t.claneOf n).ctlIn = (recordsOf payload).filter (fun r => decide (byteAt r 0 ≤ 6)) ∧
          Counts CIN_TAG_ERR.COUNT n s t ((recordsOf payload).countP fun r => decide (6 < byteAt r 0)) ∧
          t.chan = s.chan ∧ Keeps [(.CIN_LANE_SEQ, n), (.CIN_LANE_STATUS, n), (.CIN_TAG_ERR, n)] s t))) ∧
    (s.cinchLane n = true → s.locked n = true → s.rxStream n = Stream.WAIT →
      Completes (.nackTimeout n) s fun t => Counts CIN_NACK_TO.COUNT n s t ∧ asks t ∧
        Keeps [(.CIN_NACK_TO, n), (.CIN_LANE_EPOCH, n)] s t) ∧
    (∀ (r : Lane) (q : BitVec 32) (e : BitVec 8), s.locked r = true → s.ieee r = false → s.rebuilding .CIN_NACK_RX n = false →
      s.laneOpen n = true →
      let word : BitVec 44 := BitVec.ofNat 4 n ++ q ++ e
      let ahead := (e.toNat + 256 - s.fld CIN_LANE_EPOCH.ACTED n) % 256
      (ahead = 0 ∨ 127 < ahead → Completes (.nackReceived r word) s fun t => Counts CIN_NACK_RX.COUNT n s t ∧
        Counts CIN_NACK_DUP.COUNT n s t ∧ Keeps [(.LFEC_OAM_RX, r), (.CIN_NACK_RX, n), (.CIN_NACK_DUP, n)] s t) ∧
      (1 ≤ ahead → ahead ≤ 127 → s.flag CIN_LANE_STATUS.NO_REPLAY n = false → q ≠ s.laneHead n →
        ((s.claneOf n).dir.any fun d => d.seq = q) = true →
        Completes (.nackReceived r word) s fun t => Counts CIN_NACK_RX.COUNT n s t ∧ (t.claneOf n).run = some q ∧
          t.txStream n = Stream.REPLAY ∧ t.fld CIN_LANE_EPOCH.ACTED n = e.toNat ∧ Counts CIN_RUNS.COUNT n s t ∧
          Keeps [(.LFEC_OAM_RX, r), (.CIN_NACK_RX, n), (.CIN_LANE_EPOCH, n), (.CIN_RUNS, n), (.CIN_LANE_STATUS, n)] s t))

/-- On a lane whose transmit stream is closed a position carries IDLE; with no replay run a queued CONTROL granule goes first, then
the channel the round robin picks, with its next CHSEQ; a new numbered granule takes SEQ head, its slot and its directory entry.
Only the bytes of its slot change. In RUN a position that was not decoded, or whose codeword was beyond correction, is a gap:
counted, the stream goes to WAIT and a NACK asks for SEQ E in a new epoch; a good CONTROL granule in SEQ order advances E and its
records wait to be processed, those of reserved type being counted; IDLE changes no register. NACK_TO in WAIT counts and sends a
new NACK. A NACK whose epoch is ahead and whose SEQ stands in the directory starts a replay run there; one whose epoch was acted
on is counted as a duplicate. (07_cinch_link_layer.md: Granules on the line, 07_cinch_link_layer.md: Replay slots,
07_cinch_link_layer.md: Lane streams, 07_cinch_link_layer.md: Go-back-N replay) -/
def Obligations.GranulesBothWays : Prop := Sys2Proof.Claims.GranulesSent ∧ Sys2Proof.Claims.GranulesReceived

/-- The record at the front of a lane's accepted records, where it is the one that the command names, is processed and leaves. OPEN on
a closed receive stream puts it in RUN with E = 1; RESYNC sets E one past its SEQ and ends every NACK of the lane; SKIP of the
next CHSEQ moves delivery past it; the first STRIPE record of a stripe makes it the newest span, a copy adds none; CHPOS moves the
lane's next CHSEQ to its entry; CHOPEN of an enabled channel closes it and opens it again at CHSEQ 0 without an answer.
(07_cinch_link_layer.md: Control granules, 07_cinch_link_layer.md: Lane streams, 07_cinch_link_layer.md: Go-back-N replay,
07_cinch_link_layer.md: Channels and stripes) -/
def Obligations.ControlRecords : Prop :=
  ∀ (s : State) (n : Lane) (r : List Byte) (rest : List (List Byte)), (s.claneOf n).ctlIn = r :: rest →
    (∀ node : BitVec 16, byteAt r 0 = 1 → fieldAt r 1 2 = node.toNat → s.rxStream n = Stream.CLOSED →
      Completes (.openRecord n node) s fun t => t.rxStream n = Stream.RUN ∧ t.laneE n = 1 ∧ (t.tlaneOf n).farNode = some node.toNat ∧
        (t.claneOf n).ctlIn = rest ∧ (∀ a, t.memByte a = s.memByte a)) ∧
    (∀ (epoch : Fin 4) (seq : BitVec 32), byteAt r 0 = 3 → (s.claneOf n).lastEpoch = epoch → BitVec.ofNat 32 (fieldAt r 4 4) = seq →
      Completes (.resyncRecord n epoch seq) s fun t => t.rxStream n = Stream.RUN ∧ t.laneE n = seq + 1 ∧
        (t.claneOf n).ctlIn = rest ∧ (∀ q ∈ t.cin.nacks, q.lane ≠ n) ∧ Keeps [(.CIN_LANE_STATUS, n), (.CIN_LANE_SEQ, n)] s t) ∧
    (∀ c : Chan, s.chEn c = true →
      let others := fun (t : State) => (t.claneOf n).ctlIn = rest ∧ ∀ d, d ≠ c.val → t.chanOf d = s.chanOf d
      (byteAt r 0 = 2 → byteAt r 1 = c → (s.chanOf c).lost = [] →
        let m := BitVec.ofNat 32 (fieldAt r 8 4)
        Completes (.skipRecord n c m) s fun t => others t ∧ Keeps [] s t ∧
          (m = (s.chanOf c).rxNext → (t.chanOf c).rxNext = m + 1 ∧ (t.chanOf c).lost = []) ∧
          (seqLt (s.chanOf c).rxNext m = true → seqLt (s.chanOf c).rxNext (m + 1) = true →
            (t.chanOf c).rxNext = (s.chanOf c).rxNext ∧ (t.chanOf c).lost = [⟨none, m, m + 1⟩])) ∧
      (byteAt r 0 = 4 → byteAt r 1 = c →
        let mask := BitVec.ofNat 16 (fieldAt r 2 2)
        let switch := BitVec.ofNat 32 (fieldAt r 4 4)
        let copy := (s.chanOf c).spans.any fun sp => sp.isCopy n mask switch
        (copy = true → Completes (.stripeRecord n c mask switch) s fun t => others t ∧ (t.chanOf c).low n = switch ∧ Keeps [] s t ∧
          (t.chanOf c).spans.head?.map (fun sp => (sp.m0, sp.mask)) = (s.chanOf c).spans.head?.map fun sp => (sp.m0, sp.mask)) ∧
        (copy = false → (∀ sp ∈ (s.chanOf c).spans, seqLt switch sp.m0 = false) → Completes (.stripeRecord n c mask switch) s fun t => others t ∧
          (t.chanOf c).low n = switch ∧ (t.chanOf c).spans.head? = some ⟨switch, mask, [n.val]⟩ ∧
          Keeps ([(.CIN_DISC_SHED, c.val)] ++ logKeys) s t)) ∧
      (byteAt r 0 = 5 → byteAt r 1 = 1 → byteAt r 2 = c →
        Completes (.chposRecord n c (BitVec.ofNat 32 (fieldAt r 3 4))) s fun t => others t ∧ (t.chanOf c).low n = BitVec.ofNat 32 (fieldAt r 3 4) ∧
          Keeps ([(.CIN_DISC_SPAN, c.val)] ++ logKeys) s t) ∧
      (byteAt r 0 = 6 → byteAt r 1 = c →
        Completes (.chopenRecord n c) s fun t => (t.chanOf c).txNext = 0 ∧ (t.chanOf c).rxNext = 0 ∧ (t.chanOf c).ing = [] ∧
          (t.chanOf c).egr = [] ∧ (t.chanOf c).chopenDue = false ∧ (t.chanOf c).discard = true ∧ t.frozen c = false ∧
          t.fld CIN_CH_STATUS.STRIPE_NOW c = s.usable c ∧ t.fld CIN_SENT.COUNT c = 0 ∧ t.fld CIN_DELIVER.COUNT c = 0 ∧
          KeepsKinds [.CIN_CH_ACCT, .CIN_CH_STATUS, .CIN_CONS_AUDIT, .CIN_ACCEPT, .CIN_SENT, .CIN_ARRIVE, .CIN_DELIVER,
            .CIN_DISC_ING_MEM, .CIN_DISC_STORE, .CIN_DISC_EGR_MEM, .CIN_DISC_SPAN, .CIN_DISC_SHED, .CIN_DISC_EGR_OVF, .CIN_DISC_CLOSE,
            .CIN_ING_OVR, .EVL_DROPPED] s t))

/-- A newer GRANT total of a line-loop channel raises the sender's free credit by the difference; LOOP 0 and 3 are counted as bad. A
refresh makes every total of every enabled channel due. The granule with the next CHSEQ goes to its host lane where the lane is
active and loop 3 has credit, is counted and moves the accounts. The audit counts one pass and freezes every enabled channel whose
identities fail. (07_cinch_link_layer.md: Credit loops, 07_cinch_link_layer.md: Channels and stripes, 07_cinch_link_layer.md:
Conservation and audit) -/
def Obligations.CreditAndDelivery : Prop :=
  (∀ (s : State) (n : Lane) (c : Chan) (loop : Fin 4) (total : BitVec 32), s.locked n = true →
    s.ieee n = false →
    let word : BitVec 44 := BitVec.ofNat 2 loop ++ BitVec.ofNat 8 c ++ BitVec.ofNat 34 total.toNat
    let ahead := (total - BitVec.ofNat 32 (s.acct c 4)).toNat
    (loop.val = 0 ∨ loop.val = 3 → Completes (.creditWordReceived n word) s fun t =>
      t.fld CIN_CR_BAD.COUNT n = (s.fld CIN_CR_BAD.COUNT n + 1) % 2 ^ CIN_CR_BAD.COUNT.width ∧
      Keeps [(.LFEC_OAM_RX, n), (.CIN_CR_BAD, n)] s t) ∧
    (loop.val = 2 → s.chEn c = true → s.lineCredit c = true → s.frozen c = false → (s.chanOf c).discard = false → 0 < ahead →
      s.acct c 7 + ahead ≤ 65536 →
      Completes (.creditWordReceived n word) s fun t => t.acct c 4 = total.toNat ∧ t.acct c 7 = s.acct c 7 + ahead ∧
        Keeps [(.LFEC_OAM_RX, n), (.CIN_CH_ACCT, 16 * c + 4), (.CIN_CH_ACCT, 16 * c + 7)] s t)) ∧
  (∀ s : State, Completes .creditRefresh s fun t => Keeps [] s t ∧
    ∀ c : Chan, s.chEn c = true → (t.chanOf c).due1 = true ∧ (t.chanOf c).due3 = true ∧
      (t.chanOf c).due2g = s.lineCredit c ∧ (t.chanOf c).due2r = s.lineCredit c) ∧
  (∀ (s : State) (c : Chan) (g : EgrGran), (s.chanOf c).lost = [] →
    ((s.chanOf c).egr.find? fun g => g.chseq = (s.chanOf c).rxNext) = some g → s.hostActive c = true → s.frozen c = false →
    10 ≤ s.acct c 15 →
    Completes (.granuleDeliver c true) s fun t => (t.hsiOf (c / 8)).outQ = (s.hsiOf (c / 8)).outQ ++ [(c.val, g.payload)] ∧
      (t.chanOf c).rxNext = (s.chanOf c).rxNext + 1 ∧ t.acct c 13 = (s.acct c 13 + 10) % 2 ^ 32 ∧ t.acct c 15 = s.acct c 15 - 10 ∧
      t.fld CIN_DELIVER.COUNT c = (s.fld CIN_DELIVER.COUNT c + 1) % 2 ^ CIN_DELIVER.COUNT.width ∧
      Keeps ([(.CIN_DELIVER, c.val)] ++ (List.range 16).map fun i => (.CIN_CH_ACCT, 16 * c.val + i)) s t) ∧
  (∀ s : State, Completes .cinchAudit s fun t =>
    t.fld CIN_AUDIT_PASS.COUNT 0 = (s.fld CIN_AUDIT_PASS.COUNT 0 + 1) % 2 ^ CIN_AUDIT_PASS.COUNT.width ∧
    (∀ c : Chan, t.frozen c = (s.frozen c || (s.chEn c && !s.conserves c))) ∧
    ((∀ c : Chan, s.chEn c = true → s.frozen c = true ∨ s.conserves c = true) → Keeps [(.CIN_AUDIT_PASS, 0)] s t) ∧
    KeepsKinds [.CIN_AUDIT_PASS, .CIN_CH_STATUS, .CIN_CONS_AUDIT, .CIN_AUDIT_FAIL, .EVL_DROPPED, .MGT_ALERT_STATUS, .GLB_STATE] s t)

/-- With the conditions of R209 met the transmit stream opens with HEAD 0 and an OPEN record at the head of its queue. A lane that
lost lock for SHED_LOL, or that SHED is written on, is shed once: SHED reads 1, CIN_SHEDS counts, both streams close and a record
tells the cause. Clearing SHED lets it rejoin, unless signal fail is set and sheds lanes; the rejoin conditions clear the report. -/
def Sys2Proof.Claims.ShedAndRejoin : Prop :=
  ∀ (s : State) (n : Lane),
    let shed := fun (cause : Nat) (t : State) => t.flag CIN_LANE_STATUS.SHED n = true ∧
      t.fld CIN_SHEDS.COUNT n = (s.fld CIN_SHEDS.COUNT n + 1) % 2 ^ CIN_SHEDS.COUNT.width ∧ t.txStream n = Stream.CLOSED ∧
      t.rxStream n = Stream.CLOSED ∧ (Room s → Logged Evt.CIN_LANE Subj.LINE_LANE n [0, cause] s t) ∧
      KeepsKinds [.CIN_LANE_STATUS, .CIN_SHEDS, .CIN_LANE_CTRL, .CIN_CH_STATUS, .EVL_DROPPED] s t
    (s.cinchLane n = true → s.laneOpen n = false → s.fld LTX_STATUS.STATE n = Ltx.ACTIVE → s.locked n = true → s.farReady n = true →
      s.flag LFEC_STATUS.CFG_MISMATCH n = false → s.flag CIN_LANE_STATUS.SHED n = false →
      Completes (.streamOpen n) s fun t => t.txStream n = Stream.OPEN ∧ t.laneHead n = 0 ∧ t.fld CIN_LANE_EPOCH.ACTED n = 0 ∧
        (t.claneOf n).ctlQ.head? =
          some (ctlPayload [recOpen (s.fld TMB_NODE_ID.NODE_ID 0) n (s.fld HRN_GROUP_STATE.CFG_TAG (n / 2))]) ∧
        KeepsKinds [.CIN_LANE_STATUS, .CIN_LANE_SEQ, .CIN_LANE_EPOCH, .CIN_CH_STATUS, .EVL_DROPPED] s t) ∧
    (s.locked n = false → s.cinchLane n = true → s.flag CIN_LANE_STATUS.SHED n = false → Completes (.shedLolExpiry n) s (shed 1)) ∧
    (∀ p, Accepts s p .CIN_LANE_CTRL n →
      (s.cinchLane n = true → s.flag CIN_LANE_STATUS.SHED n = false → s.flag CIN_LANE_CTRL.SHED n = false →
        Completes (.cinShedWrite p n) s fun t => shed 5 t ∧ t.flag CIN_LANE_CTRL.SHED n = true) ∧
      (s.flag LFEC_STATUS.SF n = false →
        Completes (.cinUnshedWrite p n) s fun t => t.flag CIN_LANE_CTRL.SHED n = false ∧ Keeps [(.CIN_LANE_CTRL, n)] s t ∧
          (s.flag CIN_LANE_CTRL.SHED n = true → (t.claneOf n).wasSoftware = true)) ∧
      (s.flag LFEC_STATUS.SF n = true → s.flag CIN_LANE_CTRL.SHED_ON_SF n = true → s.cinchLane n = true →
        s.flag CIN_LANE_STATUS.SHED n = false →
        Completes (.cinUnshedWrite p n) s fun t => shed 2 t ∧ t.flag CIN_LANE_CTRL.SHED n = false)) ∧
    (s.cinchLane n = true → s.locked n = true → s.flag LFEC_STATUS.SF n = false →
      (s.fld LFEC_FAR_STATUS.PAYLOAD n).testBit 23 = true → s.flag CIN_LANE_CTRL.SHED n = false →
      Completes (.rejoin n) s fun t => t.flag CIN_LANE_STATUS.SHED n = false ∧ Keeps [(.CIN_LANE_STATUS, n)] s t)

/-- A channel with a weight and a stripe of Cinch lanes opens at CHSEQ 0 on the usable lanes of its stripe, with its CHOPEN due or
queued; closing an enabled channel empties it and zeroes its counters; a stripe write takes the mask, and on an enabled channel
the usable lanes of it become the stripe in use; CLR_CH closes the channel and lifts its freeze; NACK_TO after opening ends the
discard of line credit. -/
def Sys2Proof.Claims.ChannelCommands : Prop :=
  ∀ (s : State) (p : Path) (c : Chan),
    let closed := fun (t : State) => t.chEn c = false ∧ t.chanOf c = {} ∧ t.frozen c = false ∧
      (∀ f ∈ [CIN_ACCEPT.COUNT, CIN_SENT.COUNT, CIN_ARRIVE.COUNT, CIN_DELIVER.COUNT, CIN_DISC_CLOSE.COUNT], t.fld f c = 0) ∧
      (∀ i : Fin 16, t.acct c i = 0) ∧ (∀ a, t.memByte a = s.memByte a) ∧
      ∀ d : Chan, d ≠ c → t.chEn d = s.chEn d ∧ ∀ i : Fin 16, t.acct d i = s.acct d i
    let fits := s.fld CIN_CH_CFG.WEIGHT c ≠ 0 ∧
      s.fld CIN_CH_CFG.STRIPE c ≠ 0 ∧ ∀ n ∈ maskLanes (s.fld CIN_CH_CFG.STRIPE c), s.cinchLane n = true
    (∀ lc, Accepts s p .CIN_CH_CFG c → s.chEn c = false → fits →
      Completes (.channelOpen p c lc) s fun t => t.chEn c = true ∧ t.lineCredit c = lc ∧ (t.chanOf c).txNext = 0 ∧
        (t.chanOf c).discard = true ∧ t.chopenWaits c = true ∧ t.fld CIN_CH_STATUS.STRIPE_NOW c = s.usable c ∧
        KeepsKinds [.CIN_CH_CFG, .CIN_CH_STATUS, .CIN_CH_ACCT] s t) ∧
    (Accepts s p .CIN_CH_CFG c → s.chEn c = true → fits → Completes (.channelClose p c) s closed) ∧
    (∀ mask : BitVec 16, Accepts s p .CIN_CH_CFG c → s.fld CIN_CH_CFG.WEIGHT c ≠ 0 → mask ≠ 0 →
      (∀ n ∈ maskLanes mask.toNat, s.cinchLane n = true) →
      Completes (.stripeWrite p c mask) s fun t => t.fld CIN_CH_CFG.STRIPE c = mask.toNat ∧ t.chEn c = s.chEn c ∧
        (s.chEn c = true → t.fld CIN_CH_STATUS.STRIPE_NOW c = t.usable c) ∧ Keeps [(.CIN_CH_CFG, c), (.CIN_CH_STATUS, c)] s t) ∧
    (Accepts s p .CIN_CONS_AUDIT 0 → s.chEn c = true → Completes (.clrCh p c) s closed) ∧
    Completes (.creditDiscardEnd c) s fun t => (t.chanOf c).discard = false ∧ (∀ d, d ≠ c.val → t.chanOf d = s.chanOf d) ∧ Keeps [] s t

/-- With the conditions of R209 met the transmit stream opens with HEAD 0 and an OPEN record at the head of its queue. A lane that
lost lock for SHED_LOL, or that SHED is written on, is shed once: SHED reads 1, CIN_SHEDS counts, both streams close and a record
tells the cause. Clearing SHED lets it rejoin, unless signal fail is set and sheds lanes; the rejoin conditions clear the report.
A channel with a weight and a stripe of Cinch lanes opens at CHSEQ 0 on the usable lanes of its stripe, with its CHOPEN due or
queued; closing an enabled channel empties it and zeroes its counters; a stripe write takes the mask, and on an enabled channel
the usable lanes of it become the stripe in use; CLR_CH closes the channel and lifts its freeze; NACK_TO after opening ends the
discard of line credit. (07_cinch_link_layer.md: Shedding and rejoining, 07_cinch_link_layer.md: Lane streams,
07_cinch_link_layer.md: Closing accounts, 07_cinch_link_layer.md: Registers) -/
def Obligations.ShedRejoinAndChannels : Prop := Sys2Proof.Claims.ShedAndRejoin ∧ Sys2Proof.Claims.ChannelCommands

/-- A frame of a lane in an NZ mode of a service that runs by the device's frame timer carries the frame number of the lane's slot,
the pilot of that number and, with nothing else due, LANE_STATUS; the frame that starts a superframe is stamped while the lane is
ACTIVE. A swap that is due takes the shadow bank and a STARTING lane with no cause becomes ACTIVE. No byte of memory changes. -/
def Sys2Proof.Claims.FrameStarts : Prop :=
  ∀ (s : State) (n : Lane) (off : Fin 292), s.configured (n / 2) = true → (s.ieee n = true → s.interval % 240 = 0) →
    Completes (.frameStart n off) s fun t =>
      KeepsKinds [.LTX_STATUS, .LTX_PAT_DROP, .LTX_CLIP, .TMB_FRAME_TX, .CIN_NACK_TX, .HPM_IDLE_INS, .HPM_IDLE_DEL, .HPM_PORT_STATUS,
        .EVL_DROPPED] s t ∧
      (s.flag LTX_STATUS.SWAP_BUSY n = true → s.fld LTX_FIR_CFG.MAIN n ≤ 14 →
        (t.ltxOf n).bank = s.shadowBank n ∧ t.flag LTX_STATUS.SWAP_BUSY n = false) ∧
      (s.ltxState n = Ltx.STARTING → (s.ltxOf n).enabling = false → (s.ltxOf n).unsqRunning = false → s.sqCause n = 0 →
        t.ltxState n = Ltx.ACTIVE) ∧
      (s.ieee n = false → s.svc n ≠ Svc.TRANSPARENT →
        (t.ltxOf n).sentF = s.slotFrame n ∧ (t.ltxOf n).sentNeg = pilotNegOf (s.slotFrame n) ∧
        (s.slotFrame n % 16 = 0 → t.ltxState n = Ltx.ACTIVE → t.fld TMB_FRAME_TX.TS n = (ts96Of (s.lineInstant off)).toNat) ∧
        (s.slotFrame n % 16 ≠ 0 → s.slotFrame n % 16 ≠ 8 → s.cin.nacks = [] → (∀ c : Chan, s.chEn c = false) →
          (t.ltxOf n).sentOam = oamWord Oam.LANE_STATUS (s.laneStatus n)))

/-- Without HOLD a superframe boundary shows every counter of the lane at one instant; SNAP sets SNAP_BUSY and the next boundary shows
the counters and clears it; CLR writes a record of the final values and zeroes every counter; AUDIT_CLR zeroes the counters of
both lanes of the group and lifts AUDIT_FAIL; the audit sets AUDIT_FAIL exactly on the lanes whose identities fail. -/
def Sys2Proof.Claims.CounterCommands : Prop :=
  let shows := fun (n : Lane) (s t : State) => ∀ e ∈ List.zip (countRegs n) (s.lfecOf n).live.all, t.fld e.1.1 e.1.2 = e.2
  let counters : List Reg := [.LFEC_RS_RX, .LFEC_RS_UNCORR, .LFEC_RS_SYM, .LFEC_RS_BITS, .LFEC_IN_RX, .LFEC_IN_ZERO, .LFEC_IN_CORR,
    .LFEC_IN_FAIL, .LFEC_IN_FLIPS, .LFEC_RS_HIST]
  (∀ (s : State) (n : Lane),
    (s.flag LFEC_CTRL.HOLD n = false → Completes (.counterSnapshot n) s fun t => shows n s t ∧ (t.lfecOf n).live = (s.lfecOf n).live ∧
      (t.lfecOf n).boundaries = (s.lfecOf n).boundaries + 1 ∧
      KeepsKinds (counters ++ [.LFEC_FAR_STATUS, .EQP_QHIST, .EQP_COEF]) s t) ∧
    (s.flag LFEC_CTRL.HOLD n = true → Completes (.counterSnapshot n) s fun t =>
      (t.lfecOf n).boundaries = (s.lfecOf n).boundaries + 1 ∧ KeepsKinds [.LFEC_FAR_STATUS, .EQP_QHIST, .EQP_COEF] s t) ∧
    (s.flag LFEC_STATUS.SNAP_BUSY n = true → Completes (.snapshotTaken n) s fun t => shows n s t ∧
      t.flag LFEC_STATUS.SNAP_BUSY n = false ∧ KeepsKinds (counters ++ [.LFEC_STATUS]) s t) ∧
    ∀ p, Accepts s p .LFEC_CTRL n →
      Completes (.lfecSnap p n) s (fun t => t.flag LFEC_STATUS.SNAP_BUSY n = true ∧
        Keeps [(.LFEC_CTRL, n), (.LFEC_STATUS, n)] s t) ∧
      Completes (.lfecClr p n) s (fun t => (t.lfecOf n).live = {} ∧ (∀ e ∈ countRegs n, t.fld e.1 e.2 = 0) ∧
        (Room s → Logged Evt.LFEC_CLOSE Subj.LINE_LANE n (s.lfecWords n) s t) ∧
        KeepsKinds (counters ++ [.LFEC_CTRL, .EVL_DROPPED]) s t) ∧
      Completes (.lfecAuditClr p n) s fun t => (∀ k ∈ [2 * (n.val / 2), 2 * (n.val / 2) + 1],
          (t.lfecOf k).live = {} ∧ t.flag LFEC_STATUS.AUDIT_FAIL k = false ∧ ∀ e ∈ countRegs k, t.fld e.1 e.2 = 0) ∧
        KeepsKinds (counters ++ [.LFEC_CTRL, .LFEC_STATUS]) s t) ∧
  (∀ s : State, Completes .conservationAudit s fun t =>
    (∀ n : Lane, t.flag LFEC_STATUS.AUDIT_FAIL n = (s.flag LFEC_STATUS.AUDIT_FAIL n || !(s.lfecOf n).live.conserved)) ∧
    KeepsKinds [.LFEC_STATUS, .EVL_DROPPED, .MGT_ALERT_STATUS, .GLB_STATE] s t ∧
    ((∀ n : Lane, (s.lfecOf n).live.conserved = true) → t = s))

/-- A frame of a lane in an NZ mode of a service that runs by the device's frame timer carries the frame number of the lane's slot,
the pilot of that number and, with nothing else due, LANE_STATUS; the frame that starts a superframe is stamped while the lane is
ACTIVE. A swap that is due takes the shadow bank and a STARTING lane with no cause becomes ACTIVE. No byte of memory changes.
Without HOLD a superframe boundary shows every counter of the lane at one instant; SNAP sets SNAP_BUSY and the next boundary shows
the counters and clears it; CLR writes a record of the final values and zeroes every counter; AUDIT_CLR zeroes the counters of
both lanes of the group and lifts AUDIT_FAIL; the audit sets AUDIT_FAIL exactly on the lanes whose identities fail.
(02_line_frame_and_fec.md: Frame and superframe, 02_line_frame_and_fec.md: Lane OAM, 05_line_transmit.md: Coefficient update,
05_line_transmit.md: Transmit states, 02_line_frame_and_fec.md: Codeword accounting, 02_line_frame_and_fec.md: Registers) -/
def Obligations.FramesAndCounters : Prop := Sys2Proof.Claims.FrameStarts ∧ Sys2Proof.Claims.CounterCommands

/-- The next inner codeword of an NZ lane counts one received and its outcome and flips; the next outer codeword counts one received
and either its symbols, bits and histogram bin or one uncorrectable, and goes on to the granules of Cinch, corrected or flagged; a
window that ends judges SD and SF by the thresholds in force; LANE_STATUS sets the far status and CFG_MISMATCH; a bad, reserved or
IDLE OAM word changes its counters alone; the spare decoder serves the short lane. (02_line_frame_and_fec.md: Codeword accounting,
02_line_frame_and_fec.md: Lane OAM, 02_line_frame_and_fec.md: Inner code, 02_line_frame_and_fec.md: Decoding) -/
def Obligations.CodewordsAndWords : Prop :=
  ∀ (s : State) (n : Lane),
    let x := s.lfecOf n
    let live := x.live
    (∀ (fr : RxFrame) rest, x.rxQ = fr :: rest → s.ieee n = false → 3 ≤ s.decoders (n / 2) (n % 2) → s.lfecHold (n / 2) = false →
      let soft := innerBits fr.soft fr.idx
      let o := chaseDecode (soft.map (·.1)) (soft.map (·.2))
      Completes (.innerCodewordDecoded n fr.F fr.idx) s fun t => Keeps [] s t ∧
        (t.lfecOf n).rxQ = (if fr.idx = 543 then rest else { fr with idx := fr.idx + 1 } :: rest) ∧ (t.lfecOf n).live = { live with
          inRx := live.inRx + 1
          inZero := live.inZero + (if o.1 = .zero then 1 else 0)
          inCorr := live.inCorr + (if o.1 = .corrected then 1 else 0)
          inFail := live.inFail + (if o.1 = .fail then 1 else 0)
          inFlips := live.inFlips + BitVec.ofNat 48 (bitDiff (soft.map (·.1)) o.2) }) ∧
    (∀ (u : Nat) (w w' : List (BitVec 10)) rest, x.rxWords = (u, w) :: rest → s.ieee n = false → s.fld LFEC_STATUS.RS_MODE n ≠ 2 →
      s.lfecHold (n / 2) = false →
      let d := rsDecode (w.map (·.toNat))
      Completes (.outerCodewordDecoded n w') s fun t => (t.lfecOf n).rxWords = rest ∧
        (t.lfecOf n).live = (match d with
          | some (_, syms, bits) => { live with
              rsRx := live.rsRx + 1, rsSym := live.rsSym + BitVec.ofNat 48 syms, rsBits := live.rsBits + BitVec.ofNat 48 bits
              hist := live.hist.modify syms (· + 1) }
          | none => { live with rsRx := live.rsRx + 1, rsUncorr := live.rsUncorr + 1 }) ∧
        KeepsKinds [.HPM_LINE_ERR, .HPM_IDLE_DEL, .HPM_OVF, .HPM_PORT_STATUS, .EVL_DROPPED] s t ∧
        (s.svc n = Svc.CINCH → Keeps [] s t ∧ (t.lfecOf n).rxOut = x.rxOut ++ [(d.isSome, match d with
          | some (c, _, _) => c.map (BitVec.ofNat 10)
          | none => w)])) ∧
    (s.flag CIN_LANE_CTRL.SHED_ON_SF n = false → x.boundaries % 256 = 1 → x.winAt ≠ x.boundaries →
      Completes (.sdSfWindowEnd n) s fun t => KeepsKinds [.LFEC_STATUS, .EVL_DROPPED] s t ∧
        (t.lfecOf n).winSym = 0 ∧ (t.lfecOf n).winUncorr = 0 ∧ (t.lfecOf n).winAt = x.boundaries ∧
        t.flag LFEC_STATUS.SD n = (if x.winWhole = true ∧ x.sdSet ≤ x.winSym then true
          else if x.winWhole = true ∧ x.winSym ≤ x.sdClr then false else s.flag LFEC_STATUS.SD n) ∧
        t.flag LFEC_STATUS.SF n = (if x.winWhole = true ∧ x.sfSet ≤ x.winUncorr then true
          else if x.winWhole = true ∧ x.winUncorr ≤ x.sfClr then false else s.flag LFEC_STATUS.SF n)) ∧
    (∀ w : BitVec 44, s.ieee n = false → s.locked n = true →
      Completes (.laneStatusReceived n w) s fun t =>
        t.fld LFEC_OAM_RX.COUNT n = (s.fld LFEC_OAM_RX.COUNT n + 1) % 2 ^ LFEC_OAM_RX.COUNT.width ∧
        t.fld LFEC_FAR_STATUS.PAYLOAD n = w.toNat ∧ t.fld LFEC_FAR_STATUS.AGE n = 0 ∧
        t.flag LFEC_STATUS.CFG_MISMATCH n =
          decide ((w.extractLsb' 8 4).toNat ≠ s.svc n ∨ (w.extractLsb' 0 8).toNat ≠ s.fld HRN_GROUP_STATE.CFG_TAG (n / 2)) ∧
        (t.tlaneOf n).farNode = some (w.extractLsb' 28 16).toNat ∧ ∀ a, t.memByte a = s.memByte a) ∧
    (∀ w : OamWord, s.ieee n = false → s.locked n = true →
      (oamCrcOk w = false → Completes (.oamWordDiscarded n w) s fun t =>
        t.fld LFEC_OAM_CRC.COUNT n = (s.fld LFEC_OAM_CRC.COUNT n + 1) % 2 ^ LFEC_OAM_CRC.COUNT.width ∧
        Keeps [(.LFEC_OAM_RX, n), (.LFEC_OAM_CRC, n)] s t) ∧
      (oamCrcOk w = true → 5 < oamType w → Completes (.oamWordDiscarded n w) s fun t =>
        t.fld LFEC_OAM_RSVD.COUNT n = (s.fld LFEC_OAM_RSVD.COUNT n + 1) % 2 ^ LFEC_OAM_RSVD.COUNT.width ∧
        Keeps [(.LFEC_OAM_RX, n), (.LFEC_OAM_RSVD, n)] s t) ∧
      (oamCrcOk w = true → oamType w = Oam.IDLE → Completes (.oamWordDiscarded n w) s fun t =>
        t.fld LFEC_OAM_RX.COUNT n = (s.fld LFEC_OAM_RX.COUNT n + 1) % 2 ^ LFEC_OAM_RX.COUNT.width ∧
        Keeps [(.LFEC_OAM_RX, n)] s t)) ∧
    ∀ (g : Grp) (l d : Nat), s.shortLane g = some l → s.spareDecoder g = some d → (s.grpOf g).decLane.length = 7 →
      Completes (.spareDecoderInService g) s fun t => t.decState g d = Decoder.IN_SERVICE ∧ (t.grpOf g).decLane[d]? = some l ∧
        (∀ e, e < 7 → e ≠ d → t.decState g e = s.decState g e) ∧ Keeps [(.BST_DEC_STATE, g)] s t

/-- Enabling a DISABLED transmitter of a configured group makes it STARTING, or PENDING while its synthesiser or REFCLK is missing;
disabling makes it DISABLED and clears cause CLOCK, in PENDING or STARTING at the end of a driver write in progress; SWAP sets
SWAP_BUSY; SQUELCH (which clears cause DRIVER as it falls) and the CMIS bit set and clear their causes, and a cause takes an
ACTIVE lane to SQUELCHED at once; a TxDisable pin squelches every lane it names, and releases those no other asserted pin names.
Only the lane's registers change. (05_line_transmit.md: Transmit states, 05_line_transmit.md: Squelch, 05_line_transmit.md:
Coefficient update) -/
def Obligations.TransmitterCommands : Prop :=
  ∀ (s : State) (n : Lane),
    let frame := fun (t : State) => Keeps [(.LTX_CTRL, n), (.LTX_STATUS, n)] s t
    let writing := (s.grpOf (n / 2)).drv.swRunning = false ∧ (s.ltxState n = Ltx.PENDING ∨ s.ltxState n = Ltx.STARTING) ∧
      ∃ w rest, (s.grpOf (n / 2)).drv.hw = w :: rest ∧ w.lane = n % 2
    let caused := fun (bit : Nat) (t : State) => (t.sqCause n).testBit bit = true ∧
      (s.ltxState n = Ltx.ACTIVE → (s.sqCause n).testBit bit = false → t.ltxState n = Ltx.SQUELCHED)
    (∀ p, Accepts s p .LTX_CTRL n →
      (s.ltxState n = Ltx.DISABLED → s.configured (n / 2) = true →
        Completes (.ltxEnable p n) s fun t => t.flag LTX_CTRL.ENABLE n = true ∧
          t.ltxState n = (if s.lineClocks n = true then Ltx.STARTING else Ltx.PENDING) ∧ t.fld LTX_STATUS.RESULT n = LtxResult.OK ∧ frame t) ∧
      (s.flag LTX_CTRL.ENABLE n = true → s.ltxState n ≠ Ltx.DISABLED →
        (¬ writing → Completes (.ltxDisable p n) s fun t => t.flag LTX_CTRL.ENABLE n = false ∧ t.ltxState n = Ltx.DISABLED ∧
          (t.sqCause n).testBit Squelch.CLOCK = false ∧ frame t) ∧
        (writing → Completes (.ltxDisable p n) s fun t => t.flag LTX_CTRL.ENABLE n = false ∧ t.ltxState n = s.ltxState n ∧
          (t.ltxOf n).abandon = true ∧ frame t)) ∧
      (s.flag LTX_STATUS.SWAP_BUSY n = false → Completes (.swap p n) s fun t => t.flag LTX_STATUS.SWAP_BUSY n = true ∧ frame t) ∧
      Completes (.ltxSquelch p n true) s (fun t => t.flag LTX_CTRL.SQUELCH n = true ∧ frame t ∧
        (s.flag LTX_CTRL.SQUELCH n = false → caused Squelch.SW t)) ∧
      Completes (.ltxSquelch p n false) s fun t => t.flag LTX_CTRL.SQUELCH n = false ∧ frame t ∧
        (s.flag LTX_CTRL.SQUELCH n = true → (t.sqCause n).testBit Squelch.SW = false ∧ (t.sqCause n).testBit Squelch.DRIVER = false)) ∧
    Completes (.cmisTxDisableSet n) s (fun t => caused Squelch.CMIS t ∧ t.pins.cmisTx.getLsbD n = true ∧ frame t) ∧
    Completes (.cmisTxDisableClear n) s (fun t => (t.sqCause n).testBit Squelch.CMIS = false ∧ t.pins.cmisTx.getLsbD n = false ∧ frame t) ∧
    (∀ pin : Fin 16, s.pinRole pin = 1 → (s.pinLaneList pin).contains n.val = true →
      Completes (.txdisableAssert pin) s (fun t => caused Squelch.TXDIS t ∧ KeepsKinds [.LTX_STATUS] s t) ∧
      ((∀ q : Fin 16, q ≠ pin → s.pinRole q = 1 → s.pin q = true → (s.pinLaneList q).contains n.val = false) →
        Completes (.txdisableDeassert pin) s fun t => (t.sqCause n).testBit Squelch.TXDIS = false ∧ KeepsKinds [.LTX_STATUS] s t))

/-- A trim write in range sets the targets, and the trims themselves while the lane is DISABLED; every 10 us each trim moves one code
towards its target. A legal pattern write sets PAT, PLACE, BYPASS and USER_LEN; CLR zeroes the checker's counters; a checker's
sync, slips and counts follow the symbols it reads, and one in sync counts a symbol that is as expected without an error. A
transparent lane whose host lane is LOCKED relays once its rate has slewed. (05_line_transmit.md: Swing, offset and skew trims,
05_line_transmit.md: Test patterns, 05_line_transmit.md: Registers, 13_housekeeping_analogue.md: Trim DACs) -/
def Obligations.TransmitSettings : Prop :=
  (∀ (s : State) (p : Path) (n : Lane) (swing : BitVec 6) (offset : BitVec 7) (skew : BitVec 6), Accepts s p .LTX_TRIM n →
    swing.toNat ≤ 60 →
    Completes (.ltxTrimWrite p n swing offset skew) s fun t =>
      t.fld LTX_TRIM.SWING n = swing.toNat ∧ t.fld LTX_TRIM.OFFSET n = offset.toNat ∧ t.fld LTX_TRIM.SKEW n = skew.toNat ∧
      (s.ltxState n = Ltx.DISABLED → t.fld LTX_TRIM_NOW.SWING n = swing.toNat ∧ t.fld LTX_TRIM_NOW.OFFSET n = offset.toNat ∧
        t.fld LTX_TRIM_NOW.SKEW n = skew.toNat) ∧
      (s.ltxState n ≠ Ltx.DISABLED → t.reg .LTX_TRIM_NOW n = s.reg .LTX_TRIM_NOW n) ∧
      KeepsKinds [.LTX_TRIM, .LTX_TRIM_NOW, .LTX_STATUS, .CAL_TRIM_BUSY] s t) ∧
  (∀ s : State, Completes .trimRampStep s fun t => KeepsKinds [.LTX_TRIM_NOW, .LTX_STATUS, .CAL_TRIM_BUSY] s t ∧
    ∀ n : Lane, (t.fld LTX_TRIM_NOW.SWING n : Int) = stepTowards (s.fld LTX_TRIM_NOW.SWING n) (s.fld LTX_TRIM.SWING n) ∧
      toSigned 7 (t.fld LTX_TRIM_NOW.OFFSET n) = stepTowards (toSigned 7 (s.fld LTX_TRIM_NOW.OFFSET n)) (toSigned 7 (s.fld LTX_TRIM.OFFSET n)) ∧
      toSigned 6 (t.fld LTX_TRIM_NOW.SKEW n) = stepTowards (toSigned 6 (s.fld LTX_TRIM_NOW.SKEW n)) (toSigned 6 (s.fld LTX_TRIM.SKEW n))) ∧
  (∀ (s : State) (p : Path) (n : Lane) (pat : Fin 8) (place bypass : Bool) (len : BitVec 14), Accepts s p .LTX_PAT n →
    4 ≤ len.toNat → len.toNat ≤ 8192 → len.toNat % 4 = 0 → pat.val ≤ 4 →
    (pat.val ≠ 0 → (s.cinchLane n = true → s.inStripe n = false) ∧ (s.ieee n = true → place = true)) →
    Completes (.ltxPatWrite p n pat place bypass len) s fun t =>
      t.fld LTX_PAT.PAT n = pat ∧ t.flag LTX_PAT.PLACE n = place ∧ t.flag LTX_PAT.BYPASS n = bypass ∧
      t.fld LTX_PAT.USER_LEN n = len.toNat ∧ t.fld LTX_STATUS.RESULT n = LtxResult.OK ∧ Keeps [(.LTX_PAT, n), (.LTX_STATUS, n)] s t) ∧
  (∀ (s : State) (p : Path) (n : Lane), Accepts s p .LTX_CHK n → s.fld LTX_CHK.PAT n ≤ 4 →
    Completes (.ltxChkClr p n) s fun t => t.fld LTX_CHK_SYM.COUNT n = 0 ∧ t.fld LTX_CHK_ERR.COUNT n = 0 ∧
      t.fld LTX_CHK_BIT.COUNT n = 0 ∧ t.fld LTX_CHK.PAT n = s.fld LTX_CHK.PAT n ∧
      Keeps [(.LTX_CHK, n), (.LTX_CHK_SYM, n), (.LTX_CHK_ERR, n), (.LTX_CHK_BIT, n)] s t) ∧
  (∀ (s : State) (c : CheckerId) (syms : List (BitVec 2)), syms ≠ [] →
    let (pat, sync, slips, sym, err, bit, i) := chkFields c
    s.fld pat i ≠ 0 →
    let r := s.chkSees c syms
    let sees := fun (t : State) => t.flag sync i = r.sync ∧ Counts sym i s t r.syms ∧ Counts err i s t r.errs ∧ Counts bit i s t r.bits ∧
      t.fld slips i = min (s.fld slips i + r.slips) (2 ^ slips.width - 1) ∧
      Keeps [(pat.reg, i), (sym.reg, i), (err.reg, i), (bit.reg, i)] s t
    Completes (.checkerSyncGain ⟨c, syms⟩) s sees ∧ Completes (.checkerSyncLoss c syms r.errs r.bits) s sees) ∧
  (∀ (s : State) (n : Lane) (k : Nat), s.flag LTX_CHK.SYNC n = true → s.fld LTX_CHK.PAT n = 3 →
    (s.chkSees (.line n) ((List.range k).map fun j => Config.standardPattern 3 ((Tab.get (fun _ => {}) s.chk n.val).at_ + j))).errs = 0) ∧
  (∀ (s : State) (n : Lane) (h : Nat), (s.hostsOf n).head? = some h → s.svc n = Svc.TRANSPARENT → s.hrx h = HRx.LOCKED →
    Completes (.hostRateSlewDone n) s fun t => (t.ltxOf n).relaying = true ∧
      (t.ltxOf n).rate = toSigned 16 (s.fld HSI_FREQ.FREQ h) ∧ Keeps [] s t)

/-- GO on an idle port, of a register no sequence owns, waits with BUSY set; its end clears BUSY with the result, and a read returns
its byte. The last write of an ENABLE sequence ends the sequence; a first failure is tried once more; a second fails the enable
with DRV_FAIL and disables the lane. EN with a legal table starts the monitor; an estimate of an ACTIVE lane that has its 16 × AVG
blocks is judged and counted, and of a lane that does not transmit skipped; the turn passes to the other lane.
(05_line_transmit.md: Driver control port, 05_line_transmit.md: Spectral-mask monitor) -/
def Obligations.DriverPortAndMask : Prop :=
  ∀ (s : State) (g : Grp),
    let x := s.grpOf g
    (∀ (p : Path) (rd : Bool) (l : Fin 2) (reg : BitVec 16) (v : Byte), Accepts s p .LTX_DRV_CMD g → s.headless = false →
      s.flag LTX_DRV_STATUS.BUSY g = false →
      let ptr := if s.flag LTX_DRV_CFG.PTR16 g = true then reg.toNat else reg.toNat % 256
      (rd = true ∨ s.drvOwns (2 * g + l) ptr = false ∨ s.ltxState (2 * g + l) = Ltx.DISABLED) →
      Completes (.drvGo p g rd l reg v) s fun t => t.flag LTX_DRV_STATUS.BUSY g = true ∧
        (t.grpOf g).drv.sw = some ⟨rd, l, ptr, v.toNat⟩ ∧
        Keeps [(.LTX_DRV_CMD, g), (.LTX_DRV_STATUS, g), (.LTX_DRV_CFG, g)] s t) ∧
    (∀ (ack : Bool) (rdata : Byte) (w : SwTx), x.drv.swRunning = true → x.drv.sw = some w →
      Completes (.drvTransactionDone g ack rdata) s fun t => t.flag LTX_DRV_STATUS.BUSY g = false ∧
        t.fld LTX_DRV_STATUS.RESULT g = (if ack then PortResult.OK else PortResult.NACK) ∧
        t.fld LTX_DRV_STATUS.RDATA g = (if w.rd = true ∧ ack = true then rdata.toNat else s.fld LTX_DRV_STATUS.RDATA g) ∧
        (t.grpOf g).drv.sw = none ∧ Keeps [(.LTX_DRV_STATUS, g), (.LTX_DRV_CFG, g)] s t) ∧
    (∀ (l : Fin 2) (w : HwTx), x.drv.hw = [w] → x.drv.swRunning = false → w.lane = l → w.seq = DrvSeq.ENABLE →
      let n := 2 * g.val + l.val
      s.ltxState n ≠ Ltx.DISABLED → (s.ltxOf n).abandon = false →
      (∀ rdata : Byte, rdata.toNat = w.value → Completes (.driverSequenceWriteDone g true rdata) s fun t =>
        (t.ltxOf n).enabling = false ∧ (t.grpOf g).drv.hw = [] ∧ Keeps [(.LTX_DRV_CFG, g)] s t) ∧
      (∀ rdata : Byte, w.attempt = 0 → Completes (.driverSequenceWriteDone g false rdata) s fun t =>
        (t.grpOf g).drv.hw = [{ w with attempt := 1 }] ∧ Keeps [] s t) ∧
      (∀ rdata : Byte, w.attempt ≠ 0 → Completes (.driverSequenceWriteDone g false rdata) s fun t =>
        t.ltxState n = Ltx.DISABLED ∧ t.flag LTX_CTRL.ENABLE n = false ∧ t.fld LTX_STATUS.RESULT n = LtxResult.DRV_FAIL ∧
        Keeps ([(.LTX_DRV_CFG, g.val), (.LTX_CTRL, n), (.LTX_STATUS, n)] ++ logKeys) s t)) ∧
    (∀ p, Accepts s p .LTX_MASK_CFG g → s.flag LTX_MASK_CFG.EN g = false → s.fld LTX_MASK_CFG.HYST g ≠ 0 →
      1 ≤ s.fld LTX_MASK_CFG.NSEG g → s.fld LTX_MASK_CFG.NSEG g ≤ 32 → 1 ≤ s.fld LTX_MASK_CFG.AVG g → s.fld LTX_MASK_CFG.AVG g ≤ 64 →
      let starts := (s.maskSegs g (s.fld LTX_MASK_CFG.NSEG g)).map (·.1)
      starts.head? = some 0 → startsRise starts = true → (∀ a ∈ starts, a ≤ 511) →
      Completes (.maskEnable p g) s fun t => t.flag LTX_MASK_CFG.EN g = true ∧ (t.grpOf g).maskRuns = [(0, 0), (0, 0)] ∧
        Keeps [(.LTX_MASK_CFG, g)] s t) ∧
    (∀ k : Fin 2, s.flag LTX_MASK_CFG.EN g = true → x.maskLane = k →
      let n := 2 * g.val + x.maskLane
      (s.ltxState n ≠ Ltx.ACTIVE → Completes (.maskEstimateDone g k) s fun t =>
        t.fld LTX_MASK_SKIPS.COUNT n = (s.fld LTX_MASK_SKIPS.COUNT n + 1) % 2 ^ LTX_MASK_SKIPS.COUNT.width ∧
        (t.grpOf g).maskLane = 1 - x.maskLane ∧ Keeps [(.LTX_MASK_SKIPS, n)] s t) ∧
      (s.ltxState n = Ltx.ACTIVE → x.maskSpoiled = false →
        16 * s.fld LTX_MASK_CFG.AVG g ≤ x.maskBlocks → Completes (.maskEstimateDone g k) s fun t =>
        let judged := judgeMask (s.maskSegs g (s.fld LTX_MASK_CFG.NSEG g)) (maskLevels x.maskSum)
        t.fld LTX_MASK_EST.COUNT n = (s.fld LTX_MASK_EST.COUNT n + 1) % 2 ^ LTX_MASK_EST.COUNT.width ∧
        t.fld LTX_MASK_VIOL.VIOL n = judged.1 % 2 ^ 32 ∧ t.fld LTX_MASK_WORST.BIN n = judged.2.1 % 2 ^ LTX_MASK_WORST.BIN.width ∧
        (t.grpOf g).maskLane = 1 - x.maskLane ∧
        Keeps ([(.LTX_MASK_EST, n), (.LTX_MASK_VIOL, n), (.LTX_MASK_WORST, n)] ++ logKeys ++ alertKeys) s t))

/-- Enabling a DISABLED receiver in use starts it at DETECT, in QUIET while RX_QUIET stands, or in PENDING without its synthesiser.
Disabling, RELOCK and RX_QUIET take a LOCKED lane to DISABLED, cold CDR and QUIET with their cause, counted once; RX_QUIET also
takes an acquiring lane to QUIET; clearing it wakes the lane into CDR, counted. No byte of memory changes and no register of
another kind. -/
def Sys2Proof.Claims.HostReceiver : Prop :=
  ∀ (s : State) (p : Path) (h : HLane), Accepts s p .HSI_CTRL h →
    let frame := fun (t : State) => KeepsKinds [.HSI_CTRL, .HSI_STATUS, .HSI_CLK, .HSI_LOL, .HSI_WAKE, .HSI_FREQ, .HSI_EYE,
      .HPM_PORT_STATUS, .EVL_DROPPED] s t
    let left := fun (st cause : Nat) (t : State) => t.hrx h = st ∧ t.fld HSI_STATUS.LOSS_CAUSE h = cause ∧
      t.fld HSI_LOL.COUNT h = (s.fld HSI_LOL.COUNT h + 1) % 2 ^ HSI_LOL.COUNT.width ∧ frame t
    (s.hrx h = HRx.DISABLED → s.hInUse h = true →
      Completes (.hsiRxEnable p h) s fun t => t.flag HSI_CTRL.RX_EN h = true ∧ t.fld HSI_STATUS.LOSS_CAUSE h = HLoss.NONE ∧ frame t ∧
        t.hrx h = (if s.hsynth h = false then HRx.PENDING else if s.flag HSI_CTRL.RX_QUIET h = true then HRx.QUIET else HRx.DETECT)) ∧
    (s.flag HSI_CTRL.RX_EN h = true →
      Completes (.hsiRxDisable p h) s fun t => t.flag HSI_CTRL.RX_EN h = false ∧ t.hrx h = HRx.DISABLED ∧ frame t ∧
        (s.hrx h = HRx.LOCKED → left HRx.DISABLED HLoss.DISABLED t)) ∧
    (s.hrx h = HRx.LOCKED → s.flag HSI_CTRL.RX_QUIET h = false → s.hclocks h = true →
      Completes (.relock p h) s fun t => left HRx.CDR HLoss.DISABLED t ∧ (t.hsiOf h).warm = false) ∧
    (s.hrx h = HRx.LOCKED → Completes (.rxQuiet p h) s fun t => t.flag HSI_CTRL.RX_QUIET h = true ∧ left HRx.QUIET HLoss.QUIET t) ∧
    (HRx.DETECT ≤ s.hrx h → s.hrx h < HRx.LOCKED →
      Completes (.rxQuiet p h) s fun t => t.flag HSI_CTRL.RX_QUIET h = true ∧ t.hrx h = HRx.QUIET ∧ frame t) ∧
    (s.hrx h = HRx.QUIET → s.hclocks h = true →
      Completes (.rxQuietClear p h) s fun t => t.flag HSI_CTRL.RX_QUIET h = false ∧ t.hrx h = HRx.CDR ∧
        t.fld HSI_WAKE.COUNT h = (s.fld HSI_WAKE.COUNT h + 1) % 2 ^ HSI_WAKE.COUNT.width ∧ frame t)

/-- Enabling a DISABLED transmitter in use makes it ACTIVE, QUIET while TX_QUIET stands, or PENDING without its synthesiser; disabling
makes it DISABLED; TX_QUIET takes ACTIVE to QUIET, clearing it starts WAKING, which ends ACTIVE or in a quiet that came meanwhile.
A legal equaliser value, or the one CMIS codes give outside a rebuild of the lane's group, is held and taken whole at the next
boundary. A pattern is selected where no channel of the lane is enabled. -/
def Sys2Proof.Claims.HostTransmitter : Prop :=
  ∀ (s : State) (h : HLane),
    let kinds : List Reg := [.HSI_CTRL, .HSI_STATUS, .HSI_CLK, .HSI_LOL, .HSI_WAKE, .HSI_FREQ, .HSI_EYE, .HPM_PORT_STATUS, .EVL_DROPPED]
    (∀ p, Accepts s p .HSI_CTRL h →
      (s.htx h = HTx.DISABLED → s.hInUse h = true → Completes (.hsiTxEnable p h) s fun t => t.flag HSI_CTRL.TX_EN h = true ∧
        t.htx h = (if s.hsynth h = false then HTx.PENDING else if s.flag HSI_CTRL.TX_QUIET h = true then HTx.QUIET else HTx.ACTIVE) ∧
        KeepsKinds kinds s t) ∧
      (s.flag HSI_CTRL.TX_EN h = true → Completes (.hsiTxDisable p h) s fun t => t.flag HSI_CTRL.TX_EN h = false ∧
        t.htx h = HTx.DISABLED ∧ KeepsKinds kinds s t) ∧
      (s.htx h = HTx.ACTIVE → Completes (.txQuiet p h) s fun t => t.flag HSI_CTRL.TX_QUIET h = true ∧ t.htx h = HTx.QUIET ∧
        KeepsKinds kinds s t) ∧
      (s.htx h = HTx.QUIET → Completes (.txQuietClear p h) s fun t => t.flag HSI_CTRL.TX_QUIET h = false ∧
        t.htx h = (if s.hsynth h = true then HTx.WAKING else HTx.PENDING) ∧ KeepsKinds kinds s t)) ∧
    (s.htx h = HTx.WAKING → Completes (.wakingDone h) s fun t =>
      t.htx h = (if (s.hsiOf h).quietDue = true then HTx.QUIET else HTx.ACTIVE) ∧ Keeps [(.HSI_STATUS, h)] s t) ∧
    (∀ (p : Path) (v : Word32), Accepts s p .HSI_TXEQ h → txeqOk v.toNat = true →
      Completes (.hsiTxeqWrite p h v) s fun t => t.reg .HSI_TXEQ h = v.setWidth 512 ∧ (t.hsiOf h).txeq = some v.toNat ∧
        t.fld HSI_STATUS.RESULT h = HRes.OK ∧ Keeps [(.HSI_TXEQ, h), (.HSI_STATUS, h)] s t) ∧
    (∀ (pre post : Fin 8) (amp : Fin 4),
      (s.headless = false → s.rebuilding .HSI_TXEQ h = true → Completes (.cmisOutputEqWrite h pre post amp) s fun t =>
        (t.hsiOf h).txeq = (s.hsiOf h).txeq ∧ (t.hsiOf h).eqCodes = (pre.val, post.val, amp.val) ∧ Keeps logKeys s t) ∧
      (s.headless = false → s.rebuilding .HSI_TXEQ h = false → Completes (.cmisOutputEqWrite h pre post amp) s fun t =>
        (t.hsiOf h).txeq = some ((cmisTxeq pre post amp).1 % 2 ^ 32) ∧ t.fld HSI_TXEQ.PRE1 h = ofSigned 8 (-2 * (pre.val : Int)) ∧
        t.fld HSI_TXEQ.POST1 h = ofSigned 8 (-((min (3 * post.val) (32 - 2 * pre.val) : Nat) : Int)) ∧ Keeps [(.HSI_TXEQ, h.val), (.EVL_DROPPED, 0)] s t) ∧
      (s.headless = true → Completes (.cmisOutputEqWrite h pre post amp) s fun t =>
        (t.hsiOf h).eqCodes = (pre.val, post.val, amp.val) ∧ (t.hsiOf h).eqWaits = true ∧ Keeps [] s t)) ∧
    Completes .txeqApply s (fun t => Keeps [(.CAL_TRIM_BUSY, 0)] s t ∧ (t.hsiOf h).txeq = none ∧
      (∀ v, (s.hsiOf h).txeq = some v → (t.hsiOf h).taps = v % 2 ^ 24 ∧ (t.hsiOf h).ampTarget = v / 2 ^ 24) ∧
      ((s.hsiOf h).txeq = none → t.hsiOf h = s.hsiOf h)) ∧
    ∀ (p : Path) (pat : Fin 8), Accepts s p .HSI_PAT h → pat.val ≤ 3 →
      (pat.val = 0 ∨ s.hsvc h ≠ Svc.CINCH ∨ s.chansOff h = true) →
      Completes (.hsiPatWrite p h pat) s fun t => t.fld HSI_PAT.PAT h = pat ∧ t.fld HSI_STATUS.RESULT h = HRes.OK ∧
        Keeps [(.HSI_PAT, h), (.HSI_STATUS, h)] s t

/-- Enabling a DISABLED receiver in use starts it at DETECT, in QUIET while RX_QUIET stands, or in PENDING without its synthesiser.
Disabling, RELOCK and RX_QUIET take a LOCKED lane to DISABLED, cold CDR and QUIET with their cause, counted once; RX_QUIET also
takes an acquiring lane to QUIET; clearing it wakes the lane into CDR, counted. No byte of memory changes and no register of
another kind. Enabling a DISABLED transmitter in use makes it ACTIVE, QUIET while TX_QUIET stands, or PENDING without its
synthesiser; disabling makes it DISABLED; TX_QUIET takes ACTIVE to QUIET, clearing it starts WAKING, which ends ACTIVE or in a
quiet that came meanwhile. A legal equaliser value, or the one CMIS codes give outside a rebuild of the lane's group, is held and
taken whole at the next boundary. A pattern is selected where no channel of the lane is enabled. (06_host_interface.md: Standard
mode, 06_host_interface.md: Quiet states and wake, 06_host_interface.md: Registers, 06_host_interface.md: Transmit equalisation) -/
def Obligations.HostReceiverAndTransmitter : Prop := Sys2Proof.Claims.HostReceiver ∧ Sys2Proof.Claims.HostTransmitter

/-- Activity starts CDR from DETECT and wakes a quiet lane whose WAKE_SEL is 0; without the pattern a lane of WAKE_SEL 1 counts it
ignored; the wake pattern wakes that lane. CDR ends in ADAPT with the frequency found or the centre of a widest span of valid
sampling delays, and is repeated where no span is wide enough; ADAPT at 14 dB or more ends with the taps its symbols give in
ALIGN, in LOCKED for an opaque lane; a stage that times out goes to DETECT, counted. Under RX_QUIET of the same cycle nothing
wakes. Block lock follows 64 valid headers. Alignment or a second framing block gives LOCKED; each loss leaves it with its cause,
counted; a delay that wanders within a UI is followed. No byte of memory changes. (06_host_interface.md: Standard mode,
06_host_interface.md: Blind start, 06_host_interface.md: Forwarded-clock mode, 06_host_interface.md: Quiet states and wake) -/
def Obligations.HostAcquisition : Prop :=
  ∀ (s : State) (h : HLane),
    let frame := fun (t : State) => KeepsKinds [.HSI_STATUS, .HSI_CLK, .HSI_LOL, .HSI_LOCK, .HSI_WAKE, .HSI_FREQ, .HSI_EYE, .HSI_ACT_IGN,
      .HSI_TIMEOUT, .HSI_BAD_SH, .HSI_FRAME_ERR, .HPM_PORT_STATUS, .HPM_IDLE_DEL, .HPM_OVF, .EVL_DROPPED] s t
    let more := fun (f : Field) (t : State) => t.fld f h = (s.fld f h + 1) % 2 ^ f.width
    let left := fun (st cause : Nat) (t : State) => t.hrx h = st ∧ t.fld HSI_STATUS.LOSS_CAUSE h = cause ∧ more HSI_LOL.COUNT t ∧ frame t
    let locks := fun (t : State) => t.hrx h = HRx.LOCKED ∧ more HSI_LOCK.COUNT t ∧ frame t
    let wakes := fun (t : State) => t.hrx h = HRx.CDR ∧ more HSI_WAKE.COUNT t ∧ frame t
    (∀ pattern,
      (s.hrx h = HRx.DETECT → s.hclocks h = true → Completes (.activityDetect h pattern) s fun t => t.hrx h = HRx.CDR ∧
        t.flag HSI_STATUS.ACT h = true ∧ frame t) ∧
      (s.hrx h = HRx.QUIET → s.hclocks h = true → s.quietNow h = false → s.flag HSI_CTRL.WAKE_SEL h = false →
        Completes (.activityDetect h pattern) s wakes)) ∧
    (s.hrx h = HRx.QUIET → s.quietNow h = false → s.flag HSI_CTRL.WAKE_SEL h = true →
      Completes (.activityDetect h false) s (fun t => t.hrx h = HRx.QUIET ∧ more HSI_ACT_IGN.COUNT t ∧ frame t) ∧
      (s.hclocks h = true → Completes (.wakePatternDetect h) s wakes)) ∧
    (s.hrx h = HRx.LOCKED → Completes (.signalLoss h) s fun t => left HRx.DETECT HLoss.SIGNAL t ∧ t.flag HSI_STATUS.ACT h = false) ∧
    (s.hrx h = HRx.CDR ∨ s.hrx h = HRx.ADAPT ∨ s.hrx h = HRx.ALIGN →
      Completes (.hostStageTimeout h) s fun t => t.hrx h = HRx.DETECT ∧ more HSI_TIMEOUT.COUNT t ∧ frame t) ∧
    (∀ (freq : BitVec 16) (checkOk : Bool) (marks : List Bool), s.hrx h = HRx.CDR →
      (s.fcm h = false → Completes (.cdrDone h freq ⟨checkOk, marks⟩) s fun t => t.hrx h = HRx.ADAPT ∧ t.fld HSI_FREQ.FREQ h = freq.toNat ∧
        frame t) ∧
      (s.fcm h = true → (s.hsiOf h).warm = true → checkOk = true → Completes (.cdrDone h freq ⟨checkOk, marks⟩) s fun t =>
        t.hrx h = HRx.ADAPT ∧ Keeps [(.HSI_STATUS, h)] s t) ∧
      (s.fcm h = true → (s.hsiOf h).warm = false ∨ checkOk = false →
        ((∃ e ∈ validSpans (marks.take 513), 16 ≤ e.2) → Completes (.cdrDone h freq ⟨checkOk, marks⟩) s fun t => t.hrx h = HRx.ADAPT ∧
          (∃ v, sweepDelay marks v = some (t.fld HSI_FREQ.FCM_DELAY h)) ∧ frame t) ∧
        ((∀ e ∈ validSpans (marks.take 513), e.2 < 16) → Completes (.cdrDone h freq ⟨checkOk, marks⟩) s fun t =>
          t.hrx h = HRx.CDR ∧ Keeps [] s t))) ∧
    (∀ (ctle : Fin 15) (lms : List (Int × List Int × Int)) (snr : Byte), s.hrx h = HRx.ADAPT → 56 ≤ snr.toNat →
      Completes (.adaptDone h ctle ⟨lms, snr⟩) s fun t => t.fld HSI_EYE.CTLE h = ctle ∧ t.fld HSI_EYE.SNR h = snr.toNat ∧
        (t.hsiOf h).ffe = (lms.foldl lmsStep (s.hsiOf h)).ffe ∧ (t.hsiOf h).dfe = (lms.foldl lmsStep (s.hsiOf h)).dfe ∧
        (s.flag HSI_CFG.TP_OPAQUE h = true → locks t) ∧ (s.flag HSI_CFG.TP_OPAQUE h = false → t.hrx h = HRx.ALIGN ∧ frame t)) ∧
    (s.hrx h = HRx.ALIGN → s.fcm h = false → Completes (.alignmentLock h) s locks) ∧
    (∀ errors : Nat, s.hrx h = HRx.LOCKED → s.fcm h = false → s.flag HSI_CFG.TP_OPAQUE h = false →
      Completes (.alignmentLockLoss ⟨h, errors⟩) s fun t => left HRx.ALIGN HLoss.ALIGN t ∧ Counts HSI_FRAME_ERR.COUNT h s t errors) ∧
    (∀ steps : Int, s.hrx h = HRx.LOCKED →
      (s.fcm h = false ∨ 64 < steps.natAbs → s.hclocks h = true → Completes (.hostCdrLoss ⟨h, steps⟩) s (left HRx.CDR HLoss.CDR)) ∧
      (s.fcm h = true → steps.natAbs ≤ 64 → Completes (.hostCdrLoss ⟨h, steps⟩) s fun t => t.hrx h = HRx.LOCKED ∧
        Keeps [(.HSI_FREQ, h)] s t)) ∧
    (∀ bits : List Bool, s.fcm h = true → s.hrx h = HRx.ALIGN → blockHunt bits.length 0 bits = true →
      Completes (.blockLock ⟨h, bits⟩) s fun t => (t.hsiOf h).blockLock = true ∧ Keeps [] s t) ∧
    (s.fcm h = true → (s.hsiOf h).blockLock = true →
      (∀ hd : BitVec 2, hd ≠ 1 → hd ≠ 2 → Completes (.blockLockLoss ⟨h, [hd]⟩) s fun t => more HSI_BAD_SH.COUNT t ∧ frame t ∧
        let recent := (s.hsiOf h).shBad.filter fun a => decide ((s.hsiOf h).shSeen + 1 < a + 1024)
        (recent.length < 31 → (t.hsiOf h).blockLock = true ∧ t.hrx h = s.hrx h) ∧
        (31 ≤ recent.length → (t.hsiOf h).blockLock = false ∧ (s.hrx h = HRx.LOCKED → left HRx.ALIGN HLoss.ALIGN t))) ∧
      ∀ (hd : BitVec 2) (w : BitVec 64) (payload : List Blk), (∀ b ∈ (hd, w) :: payload, b.1 = 1 ∨ b.1 = 2) →
        (∀ l : Nat, s.hrx h = HRx.ALIGN → framingOk w = true → (s.hsiOf h).lastFcnt = some l →
          (w.extractLsb' 40 8).toNat = (l + 1) % 256 → Completes (.framingBlockReceived h ((hd, w) :: payload)) s locks) ∧
        (s.hrx h = HRx.LOCKED → framingOk w = false → Completes (.framingBlockReceived h ((hd, w) :: payload)) s fun t =>
          more HSI_FRAME_ERR.COUNT t ∧ frame t ∧ ((s.hsiOf h).badFrames = 3 → left HRx.ALIGN HLoss.ALIGN t) ∧
          ((s.hsiOf h).badFrames ≠ 3 → t.hrx h = HRx.LOCKED ∧ (t.hsiOf h).badFrames = (s.hsiOf h).badFrames + 1)))

/-- A missing HCKI is counted and takes every LOCKED lane of the pair that uses it to PENDING with cause CLOCK; its return takes such
a lane on to CDR, or to QUIET where RX_QUIET was written in the meantime. Two transparent lanes more than 10 ppm apart set
RATE_MISMATCH of both and count what is dropped of the second; one beyond 250 ppm sets RATE_RANGE and counts. Once the recovered
rate has slewed, the multiframe phase being known, the host lanes of the line lane relay. (06_host_interface.md: Forwarded-clock
mode, 06_host_interface.md: Host-to-line map, 06_host_interface.md: Coinciding events) -/
def Obligations.HostClocks : Prop :=
  (∀ (s : State) (k : Fin 4),
    let frame := fun (t : State) => KeepsKinds [.HSI_STATUS, .HSI_CLK, .HSI_LOL, .HSI_WAKE, .HSI_FREQ, .HSI_EYE, .HPM_PORT_STATUS,
      .EVL_DROPPED] s t
    Completes (.hckiMissing k) s (fun t => t.flag HSI_CLK.HCKI_PRESENT k = false ∧
      t.fld HSI_CLK.LOSSES k = min 255 (s.fld HSI_CLK.LOSSES k + 1) ∧ frame t ∧
      ∀ h : HLane, h.val / 8 = k → s.fcm h = true → s.hrx h = HRx.LOCKED →
        t.hrx h = HRx.PENDING ∧ t.fld HSI_STATUS.LOSS_CAUSE h = HLoss.CLOCK ∧ (t.hsiOf h).clockLost = true) ∧
    Completes (.hckiPresent k) s fun t => t.flag HSI_CLK.HCKI_PRESENT k = true ∧ frame t ∧
      ∀ h : HLane, h.val / 8 = k → s.fcm h = true → s.hsynth h = true → (s.hsiOf h).clockLost = true →
        (s.hrx h = HRx.PENDING ∨ s.hrx h = HRx.QUIET) → t.hrx h =
          (if s.hrx h = HRx.PENDING ∧ (s.hsiOf h).rxQuietDue = true ∧ s.flag HSI_CTRL.RX_QUIET h = true then HRx.QUIET else HRx.CDR)) ∧
  (∀ (s : State) (n : Lane) (a b : Nat) (f₀ f₁ : BitVec 16) (dropped : Nat), s.hostsOf n = [a, b] → s.hsvc a = Svc.TRANSPARENT →
    1000 < (f₀.toInt - f₁.toInt).natAbs →
    Completes (.rateMismatch n f₀ f₁ dropped) s fun t => t.flag HSI_STATUS.RATE_MISMATCH a = true ∧
      t.flag HSI_STATUS.RATE_MISMATCH b = true ∧ t.fld HSI_FREQ.FREQ a = f₀.toNat ∧ t.fld HSI_FREQ.FREQ b = f₁.toNat ∧
      t.fld HSI_TP_DROP.COUNT b = (s.fld HSI_TP_DROP.COUNT b + dropped) % 2 ^ HSI_TP_DROP.COUNT.width ∧
      Keeps [(.HSI_STATUS, a), (.HSI_STATUS, b), (.HSI_FREQ, a), (.HSI_FREQ, b), (.HSI_TP_DROP, b), (.EVL_DROPPED, 0)] s t) ∧
  (∀ (s : State) (h : HLane) (freq : BitVec 16) (dropped : Nat), s.hsvc h = Svc.TRANSPARENT → s.hrx h = HRx.LOCKED →
    25000 < freq.toInt.natAbs →
    Completes (.rateRange h freq dropped) s fun t => t.flag HSI_STATUS.RATE_RANGE h = true ∧ t.fld HSI_FREQ.FREQ h = freq.toNat ∧
      t.fld HSI_TP_DROP.COUNT h = (s.fld HSI_TP_DROP.COUNT h + dropped) % 2 ^ HSI_TP_DROP.COUNT.width ∧
      Keeps [(.HSI_STATUS, h.val), (.HSI_FREQ, h.val), (.HSI_TP_DROP, h.val), (.EVL_DROPPED, 0)] s t) ∧
  (∀ (s : State) (n : Lane), s.svc n = Svc.TRANSPARENT → s.locked n = true →
    s.ieee n = true ∨ s.flag LFEC_STATUS.MF_KNOWN n = true →
    Completes (.recoveredRateSlewDone n) s fun t => (∀ h ∈ s.hostsOf n, (t.hsiOf h).relaying = true) ∧ Keeps [] s t)

/-- A cell comes as a codeword, in forwarded-clock mode as 81 blocks. A good DATA cell of an enabled channel with loop-1 credit is
accepted: counted, its granule stored with its capture, the accounts moved by 10; a cell with a bad tag or beyond correction is
counted bad. A newer loop-1 RETURN within what is outstanding is taken; a record of another loop is counted reserved. A cell slot
carries a CONTROL cell when one is due, else the next DATA cell, else IDLE. A host codeword of a port that is up is counted with
its outcome; one of a transparent lane waits for the other of its pair. (06_host_interface.md: Cinch host framing,
06_host_interface.md: Ethernet termination, 07_cinch_link_layer.md: Credit loops) -/
def Obligations.HostCells : Prop :=
  (∀ (s : State) (h : HLane), s.hrx h = HRx.LOCKED → s.hsvc h = Svc.CINCH →
    let more := fun (f : Field) (i : Nat) (t : State) => t.fld f i = (s.fld f i + 1) % 2 ^ f.width
    (∀ (off : Fin 136) (head' : BitVec 20) (bytes : List Byte) (parity : List (BitVec 10)) (rs : Bool) (tag : BitVec 20) (payload : List Byte),
      let w := cellWord head' bytes parity
      let x := s.hsiOf h
      let d := rsDecode (w.map (·.toNat))
      let head := x.rxBlocks.headD idleBlk
      let comes := (s.fcm h = false ∧ rs = d.isSome ∧ (cellOfMessage x.descr ((cwBits (match d with
          | some (c, _, _) => c.map (BitVec.ofNat 10)
          | none => w)).take 5140)).2 = (tag, payload)) ∨
        (s.fcm h = true ∧ rs = true ∧ s.flag HSI_STATUS.CELL_LOCK h = true ∧ 81 ≤ x.rxBlocks.length ∧ head.1 = 2 ∧
          head.2.extractLsb' 56 8 = 0xC5 ∧ tag = blkTag head ∧ payload = blkPayload ((x.rxBlocks.drop 1).take 80))
      comes →
      (∀ i : Fin 8,
        let hi : BitVec 12 := 1#2 ++ BitVec.ofNat 3 i ++ 0#7
        let c := 8 * h.val + i.val
        let free := (BitVec.ofNat 32 (s.acct c 0) - BitVec.ofNat 32 (s.acct c 1) - BitVec.ofNat 32 (s.acct c 2)).toNat
        rs = true → tag = hi ++ tagCrc hi → s.chEn c = true → s.frozen c = false → 10 ≤ free → free < 2 ^ 31 →
        Completes (.hostCellReceived h off head' bytes parity) s fun t => more HPM_CELL_RX.COUNT h t ∧
          more CIN_ACCEPT.COUNT c t ∧ t.acct c 1 = (s.acct c 1 + 10) % 2 ^ 32 ∧ t.acct c 3 = (s.acct c 3 + 10) % 2 ^ 32 ∧
          (t.chanOf c).ing = (s.chanOf c).ing ++ [⟨payload, (ts96Of (s.hostInstant off)).extractLsb' 0 64⟩] ∧
          Keeps [(.HPM_CELL_RX, h), (.HPM_CTL_GAP, h), (.CIN_ACCEPT, c), (.CIN_CH_ACCT, 16 * c + 1), (.CIN_CH_ACCT, 16 * c + 3)] s t) ∧
      (rs = true → cellTagCrcOk tag = false → Completes (.hostCellReceived h off head' bytes parity) s fun t => more HPM_CELL_BAD.COUNT h t ∧
        Keeps [(.HPM_CELL_BAD, h), (.HPM_CTL_GAP, h), (.HSI_STATUS, h)] s t) ∧
      (rs = false → Completes (.hostCellReceived h off head' bytes parity) s fun t => more HPM_CELL_BAD.COUNT h t ∧ more HPM_RS_UNCORR.COUNT h t ∧
        more HPM_RS_CW.COUNT h t ∧ Keeps [(.HPM_CELL_BAD, h), (.HPM_CTL_GAP, h), (.HPM_RS_UNCORR, h), (.HPM_RS_CW, h)] s t)) ∧
    (∀ (c : Chan) (total : BitVec 32), c.val / 8 = h →
      let ahead := (total - BitVec.ofNat 32 (s.acct c 2)).toNat
      let outstanding := (BitVec.ofNat 32 (s.acct c 0) - BitVec.ofNat 32 (s.acct c 1) - BitVec.ofNat 32 (s.acct c 2)).toNat
      s.chEn c = true → s.frozen c = false → 0 < ahead → ahead < 2 ^ 31 → ahead ≤ outstanding →
      Completes (.hostCreditRecord h c 1 1 total) s fun t => t.acct c 2 = total.toNat ∧
        Keeps [(.CIN_CH_ACCT, 16 * c.val), (.CIN_CH_ACCT, 16 * c.val + 2)] s t) ∧
    (∀ (c : Chan) (loop kind : Fin 16) (total : BitVec 32), loop.val ≠ 1 → loop.val ≠ 3 →
      Completes (.hostCreditRecord h c loop kind total) s fun t => more HPM_CTL_RSVD.COUNT h t ∧ Keeps [(.HPM_CTL_RSVD, h)] s t)) ∧
  (∀ (s : State) (h : HLane), s.htx h = HTx.ACTIVE → s.hsvc h = Svc.CINCH → s.fld HSI_PAT.PAT h = 0 →
    let x := s.hsiOf h
    let due := (!x.entries.isEmpty || (List.range 8).any fun i => !(s.hostDue (8 * h.val + i)).isEmpty) || decide (63 ≤ x.cellsTx)
    Completes (.hostCellSlot h) s fun t => Keeps [] s t ∧
      (due = true → (t.hsiOf h).sent.kind = 2 ∧ (t.hsiOf h).cellsTx = 0 ∧ (t.hsiOf h).outQ = x.outQ) ∧
      (∀ c p rest, due = false → x.outQ = (c, p) :: rest → (t.hsiOf h).sent = ⟨1, c % 8, p⟩ ∧ (t.hsiOf h).outQ = rest) ∧
      (due = false → x.outQ = [] → (t.hsiOf h).sent = ⟨0, 0, List.replicate 640 0⟩)) ∧
  (∀ (s : State) (p : Fin 32) (w : List (BitVec 10)), s.hsvc p = Svc.ETHERNET → s.portHears p = true →
    s.flag HPM_PORT_STATUS.UP p = true →
    let outcome := match rsDecode (w.map (·.toNat)) with
      | none => HPM_RS_UNCORR.COUNT
      | some (_, 0, _) => HPM_RS_ZERO.COUNT
      | some _ => HPM_RS_CORR.COUNT
    Completes (.hostCodewordDecoded p w) s fun t =>
      t.fld HPM_RS_CW.COUNT p = (s.fld HPM_RS_CW.COUNT p + 1) % 2 ^ HPM_RS_CW.COUNT.width ∧
      t.fld outcome p = (s.fld outcome p + 1) % 2 ^ outcome.width ∧
      Keeps [(.HPM_RS_CW, p), (outcome.reg, p), (.HPM_IDLE_DEL, p), (.HPM_OVF, p)] s t) ∧
  (∀ (s : State) (p : Fin 32) (w : List (BitVec 10)), s.hsvc p = Svc.TRANSPARENT → s.hrx p = HRx.LOCKED → (s.hsiOf p).half = none →
    Completes (.hostCodewordDecoded p w) s fun t => (t.hsiOf p).half = some w ∧ Keeps [] s t)

/-- Enabling a DISABLED lane of a configured group starts it at ADC_CAL, or leaves it PENDING without its clocks; disabling takes it
to DISABLED with cause DISABLED; without LOS, FCAL calibrates again from any state but DISABLED and FAILED, and COLD starts a cold
attempt at AGC, counted, from any state but DISABLED; a lane that was LOCKED counts its loss once. -/
def Sys2Proof.Claims.ReceiverControl : Prop :=
  ∀ (s : State) (p : Path) (n : Lane), Accepts s p .LRX_CTRL n → s.fld LRX_CTRL.LOS_SRC n ≠ 3 →
    let quiet := s.losNow n = false ∧ s.flag LRX_STATUS.LOS n = false
    let lost := fun (t : State) => s.lrxState n = Lrx.LOCKED → Counts LRX_LOL.COUNT n s t ∧ t.fld LRX_STATUS.LOSS_CAUSE n = Loss.DISABLED
    let frame := fun (t : State) => ((s.claneOf n).ctlIn = [] → KeepsKinds ([.LRX_CTRL] ++ lockKinds ++ calKinds) s t) ∧
      ∀ m : Lane, m ≠ n → t.reg .LRX_STATUS m = s.reg .LRX_STATUS m ∧ t.reg .LRX_CTRL m = s.reg .LRX_CTRL m
    (s.lrxState n = Lrx.DISABLED → s.flag LRX_STATUS.PENDING n = false → s.flag LRX_CTRL.ENABLE n = false → s.configured (n / 2) = true →
      Completes (.lrxEnable p n) s fun t => t.flag LRX_CTRL.ENABLE n = true ∧
        (s.lrxClocks n = true → t.lrxState n = Lrx.ADC_CAL ∧ t.fld LRX_STATUS.LOSS_CAUSE n = Loss.NONE ∧ t.fld LRX_STATUS.RESULT n = 0) ∧
        (s.lrxClocks n = false → t.lrxState n = Lrx.DISABLED ∧ t.flag LRX_STATUS.PENDING n = true) ∧
        KeepsKinds [.LRX_CTRL, .LRX_STATUS, .LRX_AGC, .EQP_STATUS, .CIN_LANE_STATUS, .CIN_CH_STATUS] s t) ∧
    (s.flag LRX_CTRL.ENABLE n = true → s.lrxState n ≠ Lrx.DISABLED →
      Completes (.lrxDisable p n) s fun t => t.flag LRX_CTRL.ENABLE n = false ∧ t.lrxState n = Lrx.DISABLED ∧
        t.fld LRX_STATUS.LOSS_CAUSE n = Loss.DISABLED ∧ t.flag LRX_STATUS.PENDING n = false ∧ lost t ∧ frame t) ∧
    (quiet → s.lrxState n ≠ Lrx.DISABLED → s.lrxState n ≠ Lrx.FAILED →
      Completes (.lrxFcal p n) s fun t => t.lrxState n = Lrx.ADC_CAL ∧ t.flag LRX_STATUS.RECOVERY n = false ∧ lost t ∧ frame t) ∧
    (quiet → s.lrxState n ≠ Lrx.DISABLED →
      Completes (.lrxCold p n) s fun t => t.lrxState n = Lrx.AGC ∧ t.flag LRX_STATUS.RECOVERY n = false ∧
        Counts LRX_ACQ_COLD.COUNT n s t ∧ lost t ∧ frame t)

/-- GO on an idle port, of a register outside the lane's gain table or of a lane that is off, waits with BUSY set; its end clears BUSY
with its result, and a read returns its byte; a stretched clock ends it with TIMEOUT on either port. A gain write that reads back
takes its index in force and blanks the power-step detector; a first failure is tried once more. -/
def Sys2Proof.Claims.TiaPort : Prop :=
  ∀ (s : State) (g : Grp),
    let x := s.grpOf g
    (∀ (p : Path) (rd : Bool) (l : Fin 2) (reg v : Byte), Accepts s p .LRX_TIA_CMD g → s.headless = false →
      s.flag LRX_TIA_STATUS.BUSY g = false →
      (rd = true ∨ s.tiaOwns (2 * g + l) reg.toNat = false ∨ s.lrxState (2 * g + l) = Lrx.DISABLED ∨ s.lrxState (2 * g + l) = Lrx.FAILED) →
      Completes (.tiaGo p g rd l reg v) s fun t => t.flag LRX_TIA_STATUS.BUSY g = true ∧
        (t.grpOf g).tia.sw = some ⟨rd, l, reg.toNat, v.toNat⟩ ∧ Keeps [(.LRX_TIA_CMD, g), (.LRX_TIA_STATUS, g), (.LRX_TIA_CFG, g)] s t) ∧
    (∀ (ack : Bool) (rdata : Byte) (w : SwTx), x.tia.swRunning = true → x.tia.sw = some w →
      Completes (.tiaTransactionDone g ack rdata) s (fun t => t.flag LRX_TIA_STATUS.BUSY g = false ∧
        t.fld LRX_TIA_STATUS.RESULT g = (if ack then PortResult.OK else PortResult.NACK) ∧
        t.fld LRX_TIA_STATUS.RDATA g = (if w.rd = true ∧ ack = true then rdata.toNat else s.fld LRX_TIA_STATUS.RDATA g) ∧
        (t.grpOf g).tia.sw = none ∧ Keeps [(.LRX_TIA_STATUS, g), (.LRX_TIA_CFG, g)] s t) ∧
      Completes (.clockStretchTimeout g .tia) s fun t => t.flag LRX_TIA_STATUS.BUSY g = false ∧
        t.fld LRX_TIA_STATUS.RESULT g = PortResult.TIMEOUT ∧ (t.grpOf g).tia.sw = none ∧
        Keeps [(.LRX_TIA_STATUS, g), (.LRX_TIA_CFG, g)] s t) ∧
    (∀ w : SwTx, x.drv.swRunning = true → x.drv.sw = some w →
      Completes (.clockStretchTimeout g .driver) s fun t => t.flag LTX_DRV_STATUS.BUSY g = false ∧
        t.fld LTX_DRV_STATUS.RESULT g = PortResult.TIMEOUT ∧ (t.grpOf g).drv.sw = none ∧
        Keeps [(.LTX_DRV_STATUS, g), (.LTX_DRV_CFG, g)] s t) ∧
    ∀ (l : Fin 2) (w : HwTx) (rest : List HwTx), x.tia.swRunning = false → x.tia.hw = w :: rest → w.lane = l →
      let n := 2 * g.val + l.val
      (∀ rdata : Byte, rdata.toNat = w.value → x.tiaIdx.length = 2 →
        Completes (.tiaTransactionDone g true rdata) s fun t => t.fld LRX_AGC.TIA_IDX n = w.idx % 2 ^ LRX_AGC.TIA_IDX.width ∧
          (t.grpOf g).tiaIdx[l.val]? = some w.idx ∧ (t.lrxOf n).blankUntil = s.cycle + cycles1us ∧ (t.grpOf g).tia.hw = rest ∧
          Keeps [(.LRX_AGC, n), (.LRX_TIA_CFG, g.val)] s t) ∧
      (w.attempt = 0 → ∀ rdata : Byte, Completes (.tiaTransactionDone g false rdata) s fun t =>
        (t.grpOf g).tia.hw = { w with attempt := 1 } :: rest ∧ Keeps [] s t)

/-- Enabling a DISABLED lane of a configured group starts it at ADC_CAL, or leaves it PENDING without its clocks; disabling takes it
to DISABLED with cause DISABLED; without LOS, FCAL calibrates again from any state but DISABLED and FAILED, and COLD starts a cold
attempt at AGC, counted, from any state but DISABLED; a lane that was LOCKED counts its loss once. GO on an idle port, of a
register outside the lane's gain table or of a lane that is off, waits with BUSY set; its end clears BUSY with its result, and a
read returns its byte; a stretched clock ends it with TIMEOUT on either port. A gain write that reads back takes its index in
force and blanks the power-step detector; a first failure is tried once more. (03_line_receive.md: Acquisition state machine,
03_line_receive.md: Interleave calibration, 03_line_receive.md: Loss of lock, 03_line_receive.md: Registers, 03_line_receive.md:
TIA control port, 03_line_receive.md: Gain control, 05_line_transmit.md: Driver control port) -/
def Obligations.ReceiverControlAndTia : Prop := Sys2Proof.Claims.ReceiverControl ∧ Sys2Proof.Claims.TiaPort

/-- Foreground calibration that ends sets the trims of the sub-converters, records its run and goes to SQUELCHED under LOS, else to
AGC; a background update moves a sub-converter's trims within its bounds; fast AGC steps the VGA toward the target, slow AGC by
one code, passing over the superframe in which a pool operation ended; AGC settled leads to TIMING, in recovery to the search;
TIMING settled leads to the search with the frequency found; a frequency beyond 300 ppm ends in a cold attempt with cause TIMING.
An event that goes before in the same cycle keeps a stage from ending. (03_line_receive.md: Interleave calibration,
03_line_receive.md: Gain control, 03_line_receive.md: Timing recovery) -/
def Obligations.CalibrationAndGain : Prop :=
  ∀ (s : State) (n : Lane),
    let next := fun (b : Bool) => if b then Lrx.EQ_TRAIN else Lrx.PILOT_SEARCH
    (∀ (v : Word32) (trims : List (Int × Int × Int)), s.lrxState n = Lrx.ADC_CAL →
      Completes (.foregroundCalibrationDone n ⟨v, trims⟩) s fun t =>
      (∀ (k : Fin 64) (e : Int × Int × Int), trims[k.val]? = some e →
        let x := Tab.get (fun _ => ({} : SubTrim)) (t.lrxOf n).trims k.val
        x.offset = e.1 ∧ x.gain = e.2.1 ∧ x.skew = e.2.2) ∧
      t.lrxState n = (if s.flag LRX_STATUS.LOS n = true then Lrx.SQUELCHED else Lrx.AGC) ∧ t.fld CAL_RESULT.RESULT n = Cal.OK ∧
      t.fld CAL_VALUE.VALUE n = v.toNat ∧ Counts CAL_COUNT.COUNT n s t ∧ KeepsKinds (lockKinds ++ calKinds) s t) ∧
    (∀ (sub : Fin 64) (offset gain skew : Int), Lrx.AGC ≤ s.lrxState n → s.flag LRX_CTRL.CAL_BG_EN n = true → (s.eqpOf n).clipped = false →
      let trim := Tab.get (fun _ => ({} : SubTrim)) (s.lrxOf n).trims sub.val
      (∀ c, trim.last = some c → c + 7813 ≤ s.cycle) →
      Completes (.backgroundCalibrationUpdate n sub offset gain skew) s fun t => Keeps [] s t ∧
        Tab.get (fun _ => ({} : SubTrim)) (t.lrxOf n).trims sub.val =
          ⟨trim.offset + clampInt (-64) 64 offset, trim.gain + clampInt (-100) 100 gain, trim.skew + clampInt (-1000) 1000 skew, some s.cycle⟩) ∧
    (∀ rms : BitVec 8, s.lrxState n = Lrx.AGC → s.flag LRX_STATUS.AGC_FROZEN n = false →
      let target := s.fld LRX_AGC_CFG.TARGET_RMS n
      let vga := s.fld LRX_AGC.VGA n
      0 < vga → vga < 96 → Completes (.fastAgcUpdate n rms) s fun t => t.fld LRX_AGC.RMS n = rms.toNat ∧ Keeps [(.LRX_AGC, n)] s t ∧
        t.fld LRX_AGC.VGA n = (if rms.toNat < target then min 96 (vga + vgaSteps rms.toNat target) else vga - vgaSteps target rms.toNat)) ∧
    (s.lrxState n = Lrx.AGC → s.superseded n true = false → Completes (.agcSettled n) s fun t =>
      t.lrxState n = (if s.recovering n = true then next (s.ieee n) else Lrx.TIMING) ∧ KeepsKinds (.LRX_STATUS :: poolKinds) s t) ∧
    (∀ rms : BitVec 8, s.locked n = true → s.flag LRX_CTRL.AGC_HOLD n = false → s.opActs n = false →
      ((s.lrxOf n).slowHold = true → Completes (.slowAgcStep n rms) s fun t => (t.lrxOf n).slowHold = false ∧ Keeps [] s t) ∧
      ((s.lrxOf n).slowHold = false →
      let target := s.fld LRX_AGC_CFG.TARGET_RMS n
      let thr := s.fld LRX_AGC_CFG.SLOW_THR n
      let vga := s.fld LRX_AGC.VGA n
      vga ≤ 96 → Completes (.slowAgcStep n rms) s fun t => Keeps [(.LRX_AGC, n), (.EQP_STATUS, n)] s t ∧ t.fld LRX_AGC.RMS n = rms.toNat ∧
        t.fld LRX_AGC.VGA n = (if rms.toNat ^ 160 * 10 ^ thr < target ^ 160 ∧ vga < 96 then vga + 1
          else if target ^ 160 * 10 ^ thr < rms.toNat ^ 160 ∧ 0 < vga then vga - 1 else vga))) ∧
    (∀ freq : BitVec 16, s.lrxState n = Lrx.TIMING → s.superseded n true = false → Completes (.timingSettled n freq) s fun t =>
      t.lrxState n = next (s.ieee n) ∧ t.fld LRX_TR.FREQ n = freq.toNat ∧ KeepsKinds (.LRX_STATUS :: .LRX_TR :: poolKinds) s t) ∧
    (∀ freq : BitVec 16, Lrx.TIMING ≤ s.lrxState n ∧ s.lrxState n ≠ Lrx.FAILED ∧ s.lrxState n ≤ Lrx.ALIGN ∨
        s.lrxState n = Lrx.AGC ∧ s.recovering n = true → 30000 < freq.toInt.natAbs →
      s.flag LRX_STATUS.LOS n = false → Completes (.frequencyOutOfRange n freq) s fun t =>
        t.lrxState n = Lrx.AGC ∧ t.fld LRX_STATUS.LOSS_CAUSE n = Loss.TIMING ∧ Counts LRX_ACQ_COLD.COUNT n s t ∧
        (s.lrxState n = Lrx.LOCKED → Counts LRX_LOL.COUNT n s t) ∧
        ((s.claneOf n).ctlIn = [] → KeepsKinds (.LRX_TR :: lockKinds) s t))

/-- A lane that does not receive is untouched. The correlation, the OAM word and the signal-to-noise ratio of a frame are what the
lane's equaliser makes of its samples. Unless LOS or a power step comes in the same cycle, a cold attempt finds the pilot and goes
to FRAME_CANDIDATE, goes back to the search when the peak is lost, to EQ_TRAIN at the eighth, and from OAM_VERIFY to LOCKED at the
fourth good OAM word, counted, where it has its decoders; the fourth frame in a row without the pilot leaves LOCKED with
FRAME_LOSS into recovery. IEEE marker lock and loss do the same. -/
def Sys2Proof.Claims.ReceivedFrames : Prop :=
  ∀ (s : State) (n : Lane),
    let x := s.lrxOf n
    let st := s.lrxState n
    let frame := fun (t : State) => (s.claneOf n).ctlIn = [] → KeepsKinds (lockKinds ++ failKinds ++ [.LRX_CLIP, .LRX_TR, .LTX_CHK, .LTX_CHK_SYM, .LTX_CHK_ERR, .LTX_CHK_BIT,
      .LRX_CAND_MISS, .LRX_FALSE_CAND, .LRX_ACQ_LOCK, .LRX_LOCK_SNAP, .LRX_RESTART, .TMB_FRAME_RX, .CIN_LANE_EPOCH]) s t
    let locks := fun (t : State) => t.lrxState n = Lrx.LOCKED ∧ Counts LRX_ACQ_LOCK.COUNT n s t ∧
      (t.lrxOf n).lockCount = x.lockCount + 1 ∧ t.fld LRX_LOCK_SNAP.LOCK_COUNT n = (x.lockCount + 1).toNat
    let recovers := fun (cause : Nat) (t : State) => t.lrxState n = Lrx.AGC ∧ t.flag LRX_STATUS.RECOVERY n = true ∧
      t.fld LRX_STATUS.LOSS_CAUSE n = cause ∧ Counts LRX_LOL.COUNT n s t
    (∀ o : RxObs,
      (st = Lrx.DISABLED ∨ st = Lrx.SQUELCHED ∨ st = Lrx.ADC_CAL ∨ st = Lrx.FAILED → exec (.rxFrameBoundary n o) s = .next s) ∧
      let m := (s.measure n o).1
      Completes (.rxFrameBoundary n o) s fun t => frame t ∧ (s.superseded n true = false →
        (s.ieee n = false → s.recovering n = false → (st = Lrx.PILOT_SEARCH → x.corrLock * 256 ≤ m.corr →
            t.lrxState n = Lrx.FRAME_CANDIDATE ∧ (t.lrxOf n).candRun = 1) ∧
          (st = Lrx.FRAME_CANDIDATE → m.corr < x.corrLock * 256 ∨ 2 < o.posDelta.natAbs →
            t.lrxState n = Lrx.PILOT_SEARCH ∧ Counts LRX_CAND_MISS.COUNT n s t) ∧
          (st = Lrx.FRAME_CANDIDATE → x.corrLock * 256 ≤ m.corr → o.posDelta.natAbs ≤ 2 → 7 ≤ x.candRun → t.lrxState n = Lrx.EQ_TRAIN) ∧
          (st = Lrx.OAM_VERIFY → m.corr < x.corrLoss * 256 ∨ oamValid (oamWhiten m.oam) = false →
            t.lrxState n = Lrx.PILOT_SEARCH ∧ Counts LRX_FALSE_CAND.COUNT n s t) ∧
          (st = Lrx.OAM_VERIFY → x.corrLoss * 256 ≤ m.corr → oamValid (oamWhiten m.oam) = true → 3 ≤ x.oamRun →
            3 ≤ s.decoders (n / 2) (n % 2) → locks t)) ∧
        (s.ieee n = false → st = Lrx.LOCKED → m.corr < x.corrLoss * 256 → 3 ≤ x.corrMiss → recovers Loss.FRAME_LOSS t))) ∧
    (st = Lrx.ALIGN → s.superseded n true = false → 3 ≤ s.decoders (n / 2) (n % 2) → Completes (.lineAlignmentMarkerLock n) s fun t => locks t ∧ frame t) ∧
    (s.ieee n = true → st = Lrx.LOCKED → Completes (.lineAlignmentMarkerLockLoss n) s fun t => recovers Loss.FRAME_LOSS t ∧ frame t)

/-- A calibration that times out fails the lane with CAL_FAIL; another stage of a cold attempt that times out starts a cold attempt;
both are counted; nothing times out in the cycle in which a condition of its stage comes true. A change of the gain-corrected
power by 3 dB or more is a power step: it takes a LOCKED lane into recovery with cause POWER_STEP and restarts a cold attempt past
AGC, each counted. The selected LOS source takes a lane to SQUELCHED, from LOCKED with cause LOS, and its clearing starts a cold
attempt. AUTO_RETRY does so from FAILED. -/
def Sys2Proof.Claims.ReceiverEvents : Prop :=
  ∀ (s : State) (n : Lane),
    let st := s.lrxState n
    let los := s.flag LRX_STATUS.LOS n
    let cold := fun (t : State) => t.lrxState n = Lrx.AGC ∧ t.flag LRX_STATUS.RECOVERY n = false ∧ Counts LRX_ACQ_COLD.COUNT n s t
    let frame := fun (t : State) => (s.claneOf n).ctlIn = [] → KeepsKinds ([.LRX_TIMEOUT, .LRX_CAND_MISS, .LRX_PSTEP_LOCK, .LRX_PSTEP_PRE,
      .LRX_RESTART] ++ lockKinds ++ calKinds ++ failKinds) s t
    let alone := s.superseded n true = false ∧ s.conditionWaits n = false ∧ (0 < s.cycle → (s.lrxOf n).entered ≠ s.cycle)
    (alone → st = Lrx.ADC_CAL → Completes (.acqStageTimeout n) s fun t => t.lrxState n = Lrx.FAILED ∧
      t.fld LRX_STATUS.LOSS_CAUSE n = Loss.CAL_FAIL ∧ t.fld CAL_RESULT.RESULT n = Cal.FAIL ∧ Counts LRX_TIMEOUT.COUNT n s t ∧
      Alerted Alert.LANE t ∧ frame t) ∧
    (alone → s.recovering n = false → los = false → st = Lrx.AGC ∨ st = Lrx.TIMING ∨ st = Lrx.PILOT_SEARCH ∨ st = Lrx.EQ_TRAIN ∨ st = Lrx.ALIGN →
      Completes (.acqStageTimeout n) s fun t => cold t ∧ Counts LRX_TIMEOUT.COUNT n s t ∧ frame t) ∧
    (∀ (ms : List Nat), (s.powerTrip n ms).isSome = true → s.superseded n false = false → (s.lrxOf n).blankUntil ≤ s.cycle →
      (st = Lrx.LOCKED → Completes (.powerStep n ms) s fun t => t.lrxState n = Lrx.AGC ∧ t.flag LRX_STATUS.RECOVERY n = true ∧
        t.fld LRX_STATUS.LOSS_CAUSE n = Loss.POWER_STEP ∧ Counts LRX_PSTEP_LOCK.COUNT n s t ∧ Counts LRX_LOL.COUNT n s t ∧ frame t) ∧
      (s.recovering n = false → los = false → Lrx.TIMING ≤ st → st ≤ Lrx.OAM_VERIFY →
        Completes (.powerStep n ms) s fun t => cold t ∧ Counts LRX_PSTEP_PRE.COUNT n s t ∧ frame t)) ∧
    (∀ src ms, (src = .envelope ms ∧ s.fld LRX_AGC.VGA n = 96 ∧ 16 * ms < s.fld LRX_AGC_CFG.TARGET_RMS n ^ 2 ∧ ((s.pdInput n).isNone = true ∨ s.fld LRX_CTRL.LOS_SRC n = 1 ∨ s.fld LRX_CTRL.LOS_SRC n = 2) ∨
        src = .tussock ∧ (s.pdInput n).isSome = true ∧ (s.fld LRX_CTRL.LOS_SRC n = 2 ∨ s.fld LRX_CTRL.LOS_SRC n = 0 ∧ s.losRule n = true)) →
      Completes (.losAssert n src) s fun t => t.flag LRX_STATUS.LOS n = true ∧ frame t ∧
        (st ≠ Lrx.DISABLED → st ≠ Lrx.ADC_CAL → st ≠ Lrx.FAILED → t.lrxState n = Lrx.SQUELCHED) ∧
        (st = Lrx.LOCKED → t.fld LRX_STATUS.LOSS_CAUSE n = Loss.LOS ∧ Counts LRX_LOL.COUNT n s t)) ∧
    (∀ ms, (s.pdInput n).isNone = true ∨ s.fld LRX_CTRL.LOS_SRC n = 1 → s.fld LRX_AGC_CFG.TARGET_RMS n ^ 2 < 4 * ms →
      Completes (.losClear n (.envelope ms)) s fun t => t.flag LRX_STATUS.LOS n = false ∧ frame t ∧ (los = true → st = Lrx.SQUELCHED → cold t)) ∧
    (st = Lrx.FAILED → s.flag LRX_CTRL.AUTO_RETRY n = true → los = false → Completes (.autoRetry n) s fun t => cold t ∧ frame t)

/-- A lane that does not receive is untouched. The correlation, the OAM word and the signal-to-noise ratio of a frame are what the
lane's equaliser makes of its samples. Unless LOS or a power step comes in the same cycle, a cold attempt finds the pilot and goes
to FRAME_CANDIDATE, goes back to the search when the peak is lost, to EQ_TRAIN at the eighth, and from OAM_VERIFY to LOCKED at the
fourth good OAM word, counted, where it has its decoders; the fourth frame in a row without the pilot leaves LOCKED with
FRAME_LOSS into recovery. IEEE marker lock and loss do the same. A calibration that times out fails the lane with CAL_FAIL;
another stage of a cold attempt that times out starts a cold attempt; both are counted; nothing times out in the cycle in which a
condition of its stage comes true. A change of the gain-corrected power by 3 dB or more is a power step: it takes a LOCKED lane
into recovery with cause POWER_STEP and restarts a cold attempt past AGC, each counted. The selected LOS source takes a lane to
SQUELCHED, from LOCKED with cause LOS, and its clearing starts a cold attempt. AUTO_RETRY does so from FAILED.
(03_line_receive.md: Acquisition state machine, 03_line_receive.md: False lock on noise, 03_line_receive.md: Loss of lock,
03_line_receive.md: IEEE line mode, 03_line_receive.md: Power steps, 03_line_receive.md: Recovery and failure) -/
def Obligations.ReceiverFramesAndEvents : Prop := Sys2Proof.Claims.ReceivedFrames ∧ Sys2Proof.Claims.ReceiverEvents

/-- A sample gives each sensor the mean of its last readings and its validity; a prediction excludes a valid sensor more than 6
degrees away the fourth time in a row; at RELIEF_ON, 100 ms after the last change, the level rises by one step up to the table's
end, after 1 s at RELIEF_OFF it falls by one; at a multiple of 10 ms a third window in a row with a rise above 2 degrees sets the
alarm. Only thermal, pool and alert registers change. -/
def Sys2Proof.Claims.ThermalSensing : Prop :=
  ∀ s : State,
    let thermal : List Reg := [.THM_SENSOR, .THM_PRED, .THM_STATUS, .EVL_DROPPED, .MGT_ALERT_STATUS, .GLB_STATE]
    let r := s.fld THM_STATUS.RELIEF 0
    (∀ readings : List (BitVec 12), s.sensorsRun = true → Completes (.sensorSample readings) s fun t => KeepsKinds thermal s t ∧
      ∀ (i : Fin 24) (v : BitVec 12), readings[i.val]? = some v →
        let xs := (v.toInt :: (s.sensOf i).samples).take 10
        t.fld THM_SENSOR.TEMP i = temp12Of (xs.foldl (· + ·) 0 / (xs.length : Int)) ∧
        t.flag THM_SENSOR.VALID i = decide (-400 ≤ v.toInt ∧ v.toInt ≤ 1200)) ∧
    (s.sensorsRun = true → Completes .sensorPrediction s fun t => KeepsKinds thermal s t ∧
      (∀ i, t.fld THM_SENSOR.TEMP i = s.fld THM_SENSOR.TEMP i) ∧
      let near := (Config.thmNeighbours 0).filterMap fun j =>
        if s.flag THM_SENSOR.VALID j && !s.flag THM_SENSOR.EXCLUDED j then some (j, temp12 (s.fld THM_SENSOR.TEMP j)) else none
      let p := temp12Of (Config.thmPredict 0 near)
      2 ≤ near.length → t.fld THM_PRED.PRED 0 = p ∧
        (s.flag THM_SENSOR.VALID 0 = true → s.flag THM_SENSOR.EXCLUDED 0 = false → (s.sensOf 0).farRun = 3 →
          t.flag THM_SENSOR.EXCLUDED 0 = decide (48 < (temp12 (s.fld THM_SENSOR.TEMP 0) - temp12 p).natAbs))) ∧
    (s.reliefDue = true → Completes .reliefRaise s fun t =>
      t.fld THM_STATUS.RELIEF 0 = (if r < s.reliefSteps then (r + 1) % 2 ^ THM_STATUS.RELIEF.width else r) ∧
      KeepsKinds (thermal ++ poolKinds) s t) ∧
    (s.reliefCool = true → 0 < r → Completes .reliefLower s fun t =>
      t.fld THM_STATUS.RELIEF 0 = r - 1 ∧ KeepsKinds (thermal ++ poolKinds) s t) ∧
    (s.sensorsRun = true → s.atMultiple 10000000 = true → Completes .rateWindow s fun t => KeepsKinds (thermal ++ poolKinds) s t ∧
      ∀ (i : Fin 24) (v w : Int), s.thmValue i = some v → (s.sensOf i).winStart = some w → (t.sensOf i).winStart = some v ∧
        (16 < v - w → 2 ≤ (s.sensOf i).rises → (t.sensOf i).alarm = true ∧ t.flag THM_STATUS.RATE_ALARM 0 = true))

/-- A demanded stop with time left is counted and, in ACTIVE, drains; the drain's end, replay done or 50 µs past, stops and leaves
ACTIVE for STANDBY; without time left the stop is immediate; the trip, two sensors at 130 degrees for 100 µs or one for 1 ms,
leaves the device TRIPPED with its time LOST; with AUTO_RESTART a stopped device below RESTART for 1 s returns to ACTIVE.
Identity, sensors and flash are untouched. -/
def Sys2Proof.Claims.ThermalStops : Prop :=
  ∀ s : State,
    let counted := fun (t : State) => t.fld THM_STOPS.COUNT 0 = (s.fld THM_STOPS.COUNT 0 + 1) % 2 ^ THM_STOPS.COUNT.width
    let up := 5 ≤ s.fld GLB_STATE.BOOT 0 ∧ s.fld PWR_STATE.STATE 0 = 0 ∧ s.pwr.deferred = none
    (s.stopMayBegin = true → s.stopDemanded = true → s.stopHasTime = true → up → s.pwr.bist = none →
      Completes .stopOrderly s fun t => t.fld THM_STATUS.STATE 0 = ThmState.STOPPING ∧ t.thm.draining = true ∧ counted t ∧ Holds s t) ∧
    (s.stopDrained = true → up → Completes .stopDrainEnd s fun t => t.fld THM_STATUS.STATE 0 = ThmState.STOPPED ∧
      t.thm.draining = false ∧ t.fld PWR_STATE.STATE 0 = 1 ∧ (∀ g : Grp, t.groupUp g = false) ∧ Holds s t) ∧
    (s.stopMayBegin = true → s.stopDemanded = true → s.stopHasTime = false → up → s.pwr.bist = none →
      Completes .stopImmediate s fun t => t.fld THM_STATUS.STATE 0 = ThmState.STOPPED ∧ t.fld PWR_STATE.STATE 0 = 1 ∧ counted t ∧
        (∀ g : Grp, t.groupUp g = false) ∧ Holds s t) ∧
    (s.offline = false → s.tripped = true → s.pwr.bist = none → Completes .trip s fun t => t.fld THM_STATUS.STATE 0 = ThmState.TRIPPED ∧
      t.pwr.tripped = true ∧ t.offline = true ∧ t.quality = Quality.LOST ∧ t.recorder.queue = [] ∧ counted t ∧ Holds s t) ∧
    (s.fld THM_STATUS.STATE 0 = ThmState.STOPPED → s.thm.orderly = true → s.flag THM_CFG.AUTO_RESTART 0 = true → s.belowRestart = true →
      s.heldFor s.thm.belowAt 781250000 = true → s.fld PWR_STATE.STATE 0 = 1 → 5 ≤ s.fld GLB_STATE.BOOT 0 → s.offline = false → s.activeRefused = false →
      Completes .thermalRestart s fun t => t.fld THM_STATUS.STATE 0 ≠ ThmState.STOPPED ∧
        (t.fld PWR_STATE.STATE 0 = 0 ∨ t.fld PWR_STATE.STATE 0 = 3) ∧ Holds s t)

/-- A sample gives each sensor the mean of its last readings and its validity; a prediction excludes a valid sensor more than 6
degrees away the fourth time in a row; at RELIEF_ON, 100 ms after the last change, the level rises by one step up to the table's
end, after 1 s at RELIEF_OFF it falls by one; at a multiple of 10 ms a third window in a row with a rise above 2 degrees sets the
alarm. Only thermal, pool and alert registers change. A demanded stop with time left is counted and, in ACTIVE, drains; the
drain's end, replay done or 50 µs past, stops and leaves ACTIVE for STANDBY; without time left the stop is immediate; the trip,
two sensors at 130 degrees for 100 µs or one for 1 ms, leaves the device TRIPPED with its time LOST; with AUTO_RESTART a stopped
device below RESTART for 1 s returns to ACTIVE. Identity, sensors and flash are untouched. (16_self_test_and_thermal.md:
Temperature sensors, 16_self_test_and_thermal.md: Thresholds and actions, 12_power_startup_sleep.md: Power states) -/
def Obligations.ThermalSensingAndStops : Prop := Sys2Proof.Claims.ThermalSensing ∧ Sys2Proof.Claims.ThermalStops

/-- A sweep begins with its item in hand, a FREE slice going to UNDER_TEST; a test that ends in its time is counted with its result; a
passing slice is FREE, a failing retest FENCED, a failing test counted with an alert; a retry runs again 1 ms later within
ABORT_MAX, else is skipped; BST_UNFENCE puts a fenced slice under test, or under heat lets it wait FENCED. A BIST partition, begun
in its turn, reports result, patterns and signature and sets its FAIL_MASK bit where it fails; the boot goes on when every one is
done. (16_self_test_and_thermal.md: In-service tests, 16_self_test_and_thermal.md: Shut-down and boot BIST,
16_self_test_and_thermal.md: Test outcomes) -/
def Obligations.SelfTest : Prop :=
  ∀ (s : State) (g : Grp),
    let x := s.grpOf g
    let more := fun (f : Field) (t : State) => t.fld f g = (s.fld f g + 1) % 2 ^ f.width
    (∀ k rest, s.flag BST_CTRL.IS_EN 0 = true → s.noTests g = false → x.tests = [] → x.retries = [] → x.ops = [] →
      s.fld HRN_GROUP_STATE.STATE g = Group.OPEN → x.sweep = (0, k) :: rest → k < 13 → s.sliceState g k = Slice.FREE →
      Completes (.sweepStart g) s fun t => t.sliceState g k = Slice.UNDER_TEST ∧ (t.grpOf g).tests = [{ kind := 0, index := k, at_ := s.cycle }] ∧
        Keeps [(.EQP_SLICE_STATE, g), (.EQP_POOL, g)] s t) ∧
    (∀ (e : TestX) (rest : List TestX) (complete sigOk : Bool) (patterns : BitVec 28), x.tests = e :: rest → e.kind = 0 → e.index < 13 →
      (e.waits && s.headless) = false → s.testOver e complete = true → Completes (.inServiceTestDone g complete patterns sigOk) s fun t => more BST_IS_RUN.COUNT t ∧
        t.fld BST_IS_STATUS.RESULT g = testResult complete patterns.toNat 30720 sigOk ∧ t.fld BST_IS_STATUS.KIND g = 0 ∧
        t.fld BST_IS_STATUS.INDEX g = e.index ∧ (∀ a, t.memByte a = s.memByte a) ∧
        (complete = true → patterns.toNat = 30720 → sigOk = true → e.mismatchOf = none → t.sliceState g e.index = Slice.FREE) ∧
        ((complete = false ∨ patterns.toNat ≠ 30720 ∨ sigOk = false) → Alerted Alert.LANE t ∧
          (e.retest = true → t.sliceState g e.index = Slice.FENCED ∧ t.fld BST_IS_FAIL.COUNT g = s.fld BST_IS_FAIL.COUNT g) ∧
          (e.retest = false → more BST_IS_FAIL.COUNT t))) ∧
    (∀ (e : TestX) (rest : List TestX), x.retries = e :: rest → s.noTests g = false → s.retryDue e = true →
      (e.aborts < s.fld BST_CTRL.ABORT_MAX 0 → s.retryReady g e = true → Completes (.testRetry g) s fun t =>
        (t.grpOf g).tests = x.tests ++ [{ e with at_ := s.cycle }] ∧ (t.grpOf g).retries = rest ∧ KeepsKinds [.EQP_SLICE_STATE, .EQP_POOL, .BST_DEC_STATE] s t) ∧
      (s.fld BST_CTRL.ABORT_MAX 0 ≤ e.aborts → Completes (.testRetry g) s fun t => more BST_IS_SKIP.COUNT t ∧
        (t.grpOf g).tests = x.tests ∧ (t.grpOf g).retries = rest ∧ Keeps [(.BST_IS_SKIP, g), (.BST_IS_STATUS, g)] s t)) ∧
    (∀ (p : Path) (k : Fin 16), Accepts s p .BST_UNFENCE 0 → k.val < 13 → s.sliceState g k = Slice.FENCED → s.groupClosing g = false →
      s.testsRefused g = false → Completes (.bstUnfence p g 0 k) s fun t =>
        let e : TestX := { kind := 0, index := k.val, retest := true }
        (if s.hotForTests then t.sliceState g k = Slice.FENCED ∧ (t.grpOf g).tests = x.tests ∧ (t.grpOf g).retries = x.retries ++ [e]
          else t.sliceState g k = Slice.UNDER_TEST ∧ (t.grpOf g).tests = x.tests ++ [{ e with at_ := s.cycle }] ∧ (t.grpOf g).retries = x.retries) ∧
        Keeps [(.BST_UNFENCE, 0), (.EQP_SLICE_STATE, g.val), (.EQP_POOL, g.val)] s t) ∧
    (∀ (p : Fin 16) (patterns : BitVec 28) (sig : Word32) (complete countOk sigOk other : Bool) (slices : BitVec 13) (units : BitVec 2)
        (decs : BitVec 7) (b : BistX), s.pwr.bist = some b → b.boot = true → b.done.testBit p = false →
      s.partBegun b p = true → (s.fld THM_STATUS.STATE 0 = ThmState.STOPPED → s.belowRestart = true) →
      Completes (.bistPartitionDone p complete patterns countOk sig sigOk slices units decs other) s fun t =>
        t.fld BST_PART.RESULT p = testResult complete patterns.toNat (if countOk then patterns.toNat else patterns.toNat + 1) sigOk ∧
        t.fld BST_PART.PATTERNS p = patterns.toNat ∧ t.fld BST_PART.SIGNATURE p = sig.toNat ∧
        (t.pwr.bist.map (·.done)) = some (b.done + 2 ^ p.val) ∧
        (t.fld BST_RESULT.FAIL_MASK 0).testBit p =
          ((s.fld BST_RESULT.FAIL_MASK 0).testBit p || !(complete && countOk && sigOk)) ∧ ∀ a, t.flashByte a = s.flashByte a) ∧
    (∀ (puf certOk : Bool) (b : BistX), s.pwr.bist = some b → b.boot = true → b.done = 0xFFFF → s.fld GLB_STATE.BOOT 0 = 3 →
      Completes (.bootBistDone puf certOk) s fun t => t.fld BST_RESULT.RUN 0 = 1 ∧ 4 ≤ t.fld GLB_STATE.BOOT 0)

/-- After power-on every register outside fuses, static address and clock reads its reset value, time is LOST and a BOOT record is
queued; a warm reset, by pin or by 0x5EED, keeps RWS registers, calibration records, quality, time and flash, and boot begins at
step 0; a boot of a device awake ends its ROM step at BIST or beyond, or in RECOVERY. (12_power_startup_sleep.md: Power-on and
boot, 08_time_base.md: Sleep, reset and clock loss, 11_identity_and_security.md: Boot chain) -/
def Obligations.ResetsAndBoot : Prop :=
  ∀ s : State,
    let begun := fun (t : State) => t.fld GLB_STATE.BOOT 0 = 0 ∧
      (s.memx.errs = [] → s.memx.poison = [] → (t.recorder.queue.head?.map (·.type)) = some Evt.BOOT) ∧
      t.hrn.load = none ∧ t.pwr.bist = none ∧ (∀ k, t.flag MGT_SESSION.OPEN k = false) ∧ t.sec.seed = false ∧ t.sec.ak = false ∧
      t.pending = s.pending ∧ ∀ a, t.flashByte a = s.flashByte a
    let warm := fun (t : State) => begun t ∧ t.quality = s.quality ∧ t.now = s.now ∧
      ∀ r ∈ [Reg.PWR_CTRL, .PWR_WAKE_LANES, .CAL_COUNT, .CAL_RESULT, .CAL_LAST_TIME, .CAL_VALUE, .CLK_REF_LOSS, .THM_STOPS, .SEC_UID],
        ∀ i, t.reg r i = s.reg r i
    (∀ sel : Fin 4, Completes (.powerOn sel) s fun t => begun t ∧ t.quality = Quality.LOST ∧
      t.fld MGT_BUS_STATUS.STATIC_ADDR 0 = 0x50 + sel.val ∧ t.flag TMB_SLEEP_INFO.AO_LOST 0 = true ∧ (∀ a, t.memByte a = 0) ∧
      ∀ r i, r ∉ [Reg.SEC_UID, .SEC_KEY_SLOT, .SEC_STATUS, .MGT_BUS_STATUS, .TMB_QUALITY, .TMB_ERR_BOUND, .TMB_STATUS, .TMB_SLEEP_INFO,
        .PMC_VALUE, .PMC_WIN] → t.reg r i = regReset (r, i)) ∧
    (∀ (sel : Fin 4) (ao : AoTime), s.pwr.sleep = 0 → Completes (.warmReset sel ao) s fun t => warm t ∧
      t.fld MGT_BUS_STATUS.STATIC_ADDR 0 = 0x50 + sel.val) ∧
    (∀ p, Accepts s p .GLB_RESET 0 →
      (Completes (.glbReset p 0x5EED) s fun t => warm t ∧
        t.fld MGT_BUS_STATUS.STATIC_ADDR 0 = s.fld MGT_BUS_STATUS.STATIC_ADDR 0) ∧
      ∀ v : Word32, v ≠ 0x5EED → Completes (.glbReset p v) s fun t => Keeps logKeys s t ∧
        (Room s → Logged Evt.REG_REJECT Subj.REGISTER (regAddr .GLB_RESET 0 0) [s.pathWord p, v.toNat] s t)) ∧
    (∀ puf certOk : Bool, s.offline = false → s.fld GLB_STATE.BOOT 0 = 0 → s.headless = false → s.inRecovery = false →
      (s.pwr.afterTrip = true → (s.thmIs fun t => decide (t < s.thmLimit THM_LIMIT_C.RESTART)) = true) →
      Completes (.boot puf certOk) s fun t => t.clocksPresent = true ∧ t.fld SEC_UID.UID 0 = s.fld SEC_UID.UID 0 ∧
        (3 ≤ t.fld GLB_STATE.BOOT 0 ∨ (t.fld GLB_STATE.BOOT 0 = 0 ∧ t.inRecovery = true)))

/-- With no transition, load, update or fuse write in progress: STANDBY takes every group down; ACTIVE is refused with 1, or starts
the datapath; DOZE and DEEP enter their sleep with the queue written out, or begin the shut-down BIST; a command during a
transition gives BUSY; a low-power request takes an ACTIVE device to STANDBY and its end brings it back.
(12_power_startup_sleep.md: Power states, 12_power_startup_sleep.md: Sleep entry, 12_power_startup_sleep.md: Coinciding events) -/
def Obligations.PowerCommands : Prop :=
  ∀ s : State,
    let free := s.pwrBusy = false ∧ s.opInProgress = false ∧ s.headless = false
    let down := fun (t : State) => t.fld PWR_STATE.STATE 0 = 1 ∧ (s.fld PWR_STATE.STATE 0 = 0 → ∀ g : Grp, t.groupUp g = false) ∧ Holds s t
    let coming := fun (t : State) => (t.fld PWR_STATE.STATE 0 = 0 ∨ t.fld PWR_STATE.STATE 0 = 3) ∧ Holds s t
    let asleep := fun (k : Nat) (t : State) => t.fld PWR_STATE.STATE 0 = 4 ∧ t.pwr.sleep = k ∧ t.recorder.queue = [] ∧
      t.fld MGT_BUS_STATUS.ROLE 0 = Role.USER ∧ Holds s t
    let testing := fun (t : State) => t.fld PWR_STATE.STATE 0 = 4 ∧ t.sec.seed = false ∧
      t.pwr.bist = some { boot := false, at_ := s.cycle, heldAt := if s.thm.warn then some s.cycle else none } ∧
      (∀ p : Fin 16, t.fld BST_PART.RESULT p = Test.NOT_RUN) ∧ Holds s t
    (∀ p, Accepts s p .PWR_CTRL 0 →
      (s.pwrBusy = true → ∀ c ∈ [Instr.pwrStandby p, .pwrActive p, .pwrDoze p, .pwrDeep p], Completes c s fun t =>
        t.fld PWR_STATE.RESULT 0 = 2 ∧ Keeps [(.PWR_STATE, 0)] s t) ∧
      (free →
        (Completes (.pwrStandby p) s fun t => down t ∧ t.fld PWR_STATE.RESULT 0 = 0) ∧
        (s.fld PWR_STATE.STATE 0 = 0 → Completes (.pwrActive p) s fun t => t.fld PWR_STATE.RESULT 0 = 0 ∧ Keeps [(.PWR_STATE, 0)] s t) ∧
        (s.fld PWR_STATE.STATE 0 = 1 → s.activeRefused = true → Completes (.pwrActive p) s fun t =>
          t.fld PWR_STATE.RESULT 0 = 1 ∧ Keeps [(.PWR_STATE, 0)] s t) ∧
        (s.fld PWR_STATE.STATE 0 = 1 → s.activeRefused = false → Completes (.pwrActive p) s fun t => coming t ∧
          t.fld THM_STATUS.STATE 0 ≠ ThmState.STOPPED) ∧
        (s.flag PWR_CTRL.SLEEP_BIST 0 = false →
          (s.flag CLK_STATUS.REF_PRESENT 0 = true → Completes (.pwrDoze p) s (asleep 1)) ∧ Completes (.pwrDeep p) s (asleep 2)) ∧
        (s.flag PWR_CTRL.SLEEP_BIST 0 = true →
          (s.flag CLK_STATUS.REF_PRESENT 0 = true → Completes (.pwrDoze p) s testing) ∧ Completes (.pwrDeep p) s testing) ∧
        (s.flag CLK_STATUS.REF_PRESENT 0 = false → Completes (.pwrDoze p) s fun t =>
          t.fld PWR_STATE.RESULT 0 = 1 ∧ Keeps [(.PWR_STATE, 0)] s t))) ∧
    (∀ pin : Fin 16, s.offline = false → 5 ≤ s.fld GLB_STATE.BOOT 0 → s.pinRole pin = 2 →
      (s.flag PWR_STATE.LP_REQ 0 = false → s.fld PWR_STATE.STATE 0 = 0 → s.hrn.load = none →
        Completes (.lpmodeAssert pin) s fun t => down t ∧ t.flag PWR_STATE.LP_REQ 0 = true) ∧
      (s.flag PWR_STATE.LP_REQ 0 = true → s.pwr.lpSw = false → (∀ q : Fin 16, q ≠ pin → s.pinRole q = 2 → s.pin q = false) →
        (s.pwr.lpLeft = false → Completes (.lpmodeDeassert pin) s fun t => t.flag PWR_STATE.LP_REQ 0 = false ∧ Keeps [(.PWR_STATE, 0)] s t) ∧
        (s.pwr.lpLeft = true → s.fld PWR_STATE.STATE 0 = 1 → (s.setFlag PWR_STATE.LP_REQ 0 false).activeRefused = false →
          Completes (.lpmodeDeassert pin) s fun t => coming t ∧ t.flag PWR_STATE.LP_REQ 0 = false))) ∧
    (s.offline = false → s.headless = false → 5 ≤ s.fld GLB_STATE.BOOT 0 → s.fld PWR_STATE.STATE 0 = 0 → s.hrn.load = none →
      s.flag PWR_STATE.LP_REQ 0 = false → Completes (.lowPwrRequestSw true) s fun t => down t ∧ t.flag PWR_STATE.LP_REQ 0 = true ∧
        t.pwr.lpSw = true)

/-- DEEP_AFTER moves DOZE to DEEP; a valid source starts the wake at stage 1 with its source recorded; a stage ready within its time
limit records its time and starts the next; the last one counts the wake, starts the boot and sets quality ESTIMATED or LOST; a
time-out waits for a retry, which counts as an attempt; the third fails the wake and is counted. (12_power_startup_sleep.md: Wake,
12_power_startup_sleep.md: Sleep entry, 08_time_base.md: Sleep, reset and clock loss) -/
def Obligations.SleepAndWake : Prop :=
  ∀ s : State,
    (s.pwr.sleep = 1 → s.pwr.wake = none → s.fld PWR_CTRL.DEEP_AFTER 0 ≠ 0 → Completes .deepAfterExpiry s fun t =>
      t.pwr.sleep = 2 ∧ t.pwr.passed = true ∧ Keeps [] s t) ∧
    (∀ (k : Fin 6) (d : Fin 32) (ao : AoTime), k.val ≠ 0 → s.pwr.sleep = 1 ∨ s.pwr.sleep = 2 → s.pwr.tripped = false → s.pwr.wake = none →
      s.wakeValid s.pwr.sleep k d = true → Completes (.wakeSource k d ao) s fun t =>
        t.fld PWR_WAKE_SRC.SOURCE 0 = k.val ∧ t.fld PWR_WAKE_SRC.DETAIL 0 = d.val ∧ t.fld PWR_WAKE_SRC.ATTEMPTS 0 = 1 ∧
        t.fld PWR_WAKE_SRC.FROM 0 = s.pwr.sleep ∧ (t.pwr.wake.map (·.stage)) = some 1 ∧
        Keeps [(.PWR_WAKE_SRC, 0), (.PWR_WAKE_TIME, 0), (.PWR_STAGE_TIME, 0)] s t) ∧
    (∀ (us : BitVec 16) (ao : AoTime) (sel : Fin 4) (w : WakeX), s.pwr.wake = some w → w.waiting = false →
      s.fld PWR_SUPPLY.NOW 0 = 0 → us.toNat ≤ stageLimit w.stage →
      (w.stage < 4 → Completes (.wakeStageReady us ao sel) s fun t => t.fld (stageField w.stage) 0 = us.toNat ∧
        t.pwr.wake = some { w with stage := w.stage + 1 } ∧ Keeps [(.PWR_STAGE_TIME, 0)] s t) ∧
      (4 ≤ w.stage → Completes (.wakeStageReady us ao sel) s fun t => t.pwr.sleep = 0 ∧ t.pwr.wake = none ∧
        t.fld GLB_STATE.BOOT 0 = 0 ∧ t.fld PWR_STATE.STATE 0 = 1 ∧ Counts PWR_WAKE_COUNT.WAKES 0 s t ∧
        t.quality = (if 2 ^ 48 ≤ aoCounts ao ∨ s.quality = Quality.LOST then Quality.LOST else Quality.ESTIMATED) ∧
        (s.memx.errs = [] → s.memx.poison = [] → (t.recorder.queue.head?.map (·.type)) = some Evt.BOOT) ∧ (∀ a, t.flashByte a = s.flashByte a) ∧
        ∀ r ∈ [Reg.PWR_CTRL, .PWR_WAKE_LANES, .PWR_WAKE_SRC, .SEC_UID], ∀ i, t.reg r i = s.reg r i)) ∧
    (∀ w : WakeX, s.pwr.wake = some w →
      (w.waiting = false → w.attempt < 3 → Completes .wakeStageTimeout s fun t => t.pwr.wake = some { w with waiting := true } ∧ Keeps [] s t) ∧
      (w.waiting = false → 3 ≤ w.attempt → Completes .wakeStageTimeout s fun t => t.pwr.wake = none ∧
        t.flag PWR_WAKE_SRC.WAKE_FAILED 0 = true ∧ t.fld PWR_WAKE_SRC.FAIL_STAGE 0 = w.stage % 8 ∧
        t.fld PWR_WAKE_COUNT.FAILED 0 = min (s.fld PWR_WAKE_COUNT.FAILED 0 + 1) 65535 ∧
        Keeps [(.PWR_WAKE_SRC, 0), (.PWR_WAKE_COUNT, 0)] s t) ∧
      (w.waiting = true → Completes .wakeRetry s fun t => t.pwr.wake = some { w with attempt := w.attempt + 1, waiting := false } ∧
        t.fld PWR_WAKE_SRC.ATTEMPTS 0 = (w.attempt + 1) % 4 ∧ Keeps [(.PWR_WAKE_SRC, 0)] s t)) ∧
    (∀ (sel : Fin 4) (ao : AoTime), s.pwr.sleep = 1 ∨ s.pwr.sleep = 2 → Completes (.warmReset sel ao) s fun t =>
      t.fld PWR_WAKE_SRC.SOURCE 0 = 1 ∧ (t.pwr.wake.map (·.stage)) = some 1)

/-- A rail that trips while it is not tripping already shows in NOW and SINCE; asleep nothing else happens but the latch; VDD_CORE
resets an awake device, VDD_LANA, VDD_HANA and VDD_HV take an ACTIVE one to STANDBY with a record and class POWER, VDD_HKA and
VDD_IO are recorded with class POWER, VDD_AO is a power-on. A recovered rail leaves NOW. -/
def Sys2Proof.Claims.SupplyRails : Prop :=
  ∀ (s : State) (sel : Fin 4),
    let shown := fun (rail : Fin 7) (t : State) => (t.fld PWR_SUPPLY.NOW 0).testBit rail = true ∧ (t.fld PWR_SUPPLY.SINCE 0).testBit rail = true
    exec (.supplyTrip 6 sel) s = exec (.powerOn sel) s ∧
    (∀ rail : Fin 7, rail.val < 6 → (s.fld PWR_SUPPLY.NOW 0).testBit rail = true → Completes (.supplyTrip rail sel) s fun t => t = s) ∧
    (∀ rail : Fin 7, rail.val < 6 → (s.fld PWR_SUPPLY.NOW 0).testBit rail = false →
      (s.pwr.sleep ≠ 0 → Completes (.supplyTrip rail sel) s fun t => shown rail t ∧ t.pwr.latch = true ∧ Keeps [(.PWR_SUPPLY, 0)] s t) ∧
      (s.offline = false →
        (rail.val = 0 → Completes (.supplyTrip rail sel) s fun t => shown rail t ∧ t.fld GLB_STATE.BOOT 0 = 0 ∧
          t.fld MGT_BUS_STATUS.STATIC_ADDR 0 = s.fld MGT_BUS_STATUS.STATIC_ADDR 0 ∧ (∀ a, t.memByte a = 0) ∧
          (∀ i, t.reg .PWR_CTRL i = regReset (.PWR_CTRL, i)) ∧ ∀ a, t.flashByte a = s.flashByte a) ∧
        (rail.val ∈ [1, 2, 3] → 5 ≤ s.fld GLB_STATE.BOOT 0 → s.fld PWR_STATE.STATE 0 = 0 → s.pwr.deferred = none →
          Completes (.supplyTrip rail sel) s fun t => shown rail t ∧ t.fld PWR_STATE.STATE 0 = 1 ∧ (∀ g : Grp, t.groupUp g = false) ∧
            Alerted Alert.POWER t ∧ Holds s t) ∧
        (rail.val ∈ [4, 5] → Completes (.supplyTrip rail sel) s fun t => shown rail t ∧ Alerted Alert.POWER t ∧
          (Room s → Logged Evt.PWR_SUPPLY Subj.DEVICE 0 [(t.reg .PWR_SUPPLY 0).toNat % 2 ^ 32] s t) ∧
          Keeps ((.PWR_SUPPLY, 0) :: logKeys ++ alertKeys) s t))) ∧
    ∀ rail : Fin 7, (s.fld PWR_SUPPLY.NOW 0).testBit rail = true → Completes (.supplyRecover rail) s fun t =>
      t.fld PWR_SUPPLY.NOW 0 = s.fld PWR_SUPPLY.NOW 0 - 2 ^ rail.val ∧ t.fld PWR_SUPPLY.SINCE 0 = s.fld PWR_SUPPLY.SINCE 0 ∧
      Keeps [(.PWR_SUPPLY, 0)] s t

/-- A sample goes to the next enabled input and shows in RAW; with 2^AVG samples held Y is their mean rounded down. A rule that fits
is committed whole and inactive, another is rejected with a record. An input's settings are taken, its history cleared when it is
enabled or AVG changes; AVG above 6 is rejected. -/
def Sys2Proof.Claims.Tussock : Prop :=
  ∀ s : State,
    (∀ (code : BitVec 12) (ao : AoTime) (i : Nat), s.flag TSK_CTRL.EN 0 = true → s.pwr.sleep ≠ 2 → s.pwr.tripped = false →
      s.tskNext = some i → Completes (.tussockSample code ao) s fun t => t.fld TSK_VALUE.RAW i = code.toNat ∧ t.tskAt = i ∧ Holds s t ∧
        let raws := (code.toNat :: (s.tskInOf i).samples).take 64
        let n := 2 ^ s.fld TSK_IN_CFG.AVG i
        (raws.length < n → t.fld TSK_VALUE.Y i = s.fld TSK_VALUE.Y i ∧ Keeps [(.TSK_VALUE, i)] s t) ∧
        (n ≤ raws.length → t.fld TSK_VALUE.Y i = (raws.take n).sum / n % 2 ^ TSK_VALUE.Y.width)) ∧
    (∀ (p : Path) (r : Fin 32) (v : BitVec 64), Accepts s p .TSK_RULE r →
      (tskRuleOk v.toNat = true → Completes (.tskRuleCommit p r v) s fun t =>
        (∀ f ∈ [TSK_RULE.RULE_EN, TSK_RULE.INPUT, TSK_RULE.KIND, TSK_RULE.SET, TSK_RULE.CLR, TSK_RULE.COUNT, TSK_RULE.STATES,
          TSK_RULE.ACTION, TSK_RULE.TARGET], t.fld f r = fieldOf v.toNat f) ∧
        t.tskActive r = false ∧ t.tskRuleOf r = {} ∧ Holds s t ∧ ∀ k : Fin 32, k ≠ r → t.reg .TSK_RULE k = s.reg .TSK_RULE k) ∧
      (tskRuleOk v.toNat = false → Completes (.tskRuleCommit p r v) s fun t => Keeps logKeys s t ∧
        (Room s → Logged Evt.REG_REJECT Subj.REGISTER (regAddr .TSK_RULE r 0) [s.pathWord p, v.toNat % 2 ^ 32] s t))) ∧
    ∀ (p : Path) (i : Fin 32) (v : Word32), Accepts s p .TSK_IN_CFG i →
      let avg := fieldOf v.toNat TSK_IN_CFG.AVG
      (avg ≤ 6 → Completes (.tskInCfgWrite p i v) s fun t => t.fld TSK_IN_CFG.AVG i = avg ∧
        t.fld TSK_IN_CFG.EN i = fieldOf v.toNat TSK_IN_CFG.EN ∧ Keeps [(.TSK_IN_CFG, i.val)] s t ∧
        (avg ≠ s.fld TSK_IN_CFG.AVG i ∨ (fieldOf v.toNat TSK_IN_CFG.EN = 1 ∧ s.flag TSK_IN_CFG.EN i = false) → t.tskInOf i = {})) ∧
      (6 < avg → Completes (.tskInCfgWrite p i v) s fun t => Keeps logKeys s t ∧
        (Room s → Logged Evt.REG_REJECT Subj.REGISTER (regAddr .TSK_IN_CFG i 0) [s.pathWord p, v.toNat] s t))

/-- A rail that trips while it is not tripping already shows in NOW and SINCE; asleep nothing else happens but the latch; VDD_CORE
resets an awake device, VDD_LANA, VDD_HANA and VDD_HV take an ACTIVE one to STANDBY with a record and class POWER, VDD_HKA and
VDD_IO are recorded with class POWER, VDD_AO is a power-on. A recovered rail leaves NOW. A sample goes to the next enabled input
and shows in RAW; with 2^AVG samples held Y is their mean rounded down. A rule that fits is committed whole and inactive, another
is rejected with a record. An input's settings are taken, its history cleared when it is enabled or AVG changes; AVG above 6 is
rejected. (12_power_startup_sleep.md: Supply monitors, 12_power_startup_sleep.md: Tussock) -/
def Obligations.RailsAndTussock : Prop := Sys2Proof.Claims.SupplyRails ∧ Sys2Proof.Claims.Tussock

/-- REFCLK or the core PLL lost: counted, class CLOCK, every running synthesiser out of lock, every line receiver out of LOCKED,
quality no longer LOCKED. Its return has every running synthesiser calibrate again. A synthesiser that loses lock counts it and
takes its lanes out of LOCKED; one that locks shows it with its lock time, and what waits for all of them goes on.
(01_architecture.md: Clock tree, 05_line_transmit.md: Transmit states, 08_time_base.md: Sleep, reset and clock loss,
09_harness_configuration.md: Partial reconfiguration) -/
def Obligations.ClockLoss : Prop :=
  ∀ s : State,
    let lost := fun (t : State) => t.flag CLK_STATUS.CORE_LOCK 0 = false ∧ Counts CLK_REF_LOSS.COUNT 0 s t ∧ Alerted Alert.CLOCK t ∧
      (∀ g : Grp, s.fld CLK_LINE.STATE g ≠ 0 → t.fld CLK_LINE.STATE g = 3 ∧ t.lineSynthLocked g = false) ∧
      (∀ k : Fin 4, s.fld CLK_HOST.STATE k ≠ 0 → t.fld CLK_HOST.STATE k = 3 ∧ t.hostSynthLocked k = false) ∧
      (∀ n : Lane, t.locked n = false) ∧ t.quality ≠ Quality.LOCKED ∧ Holds s t
    (s.offline = false → s.flag CLK_STATUS.REF_PRESENT 0 = true → Completes .refclkMissing s fun t => lost t ∧
      t.flag CLK_STATUS.REF_PRESENT 0 = false) ∧
    (s.offline = false → s.flag CLK_STATUS.CORE_LOCK 0 = true → Completes .corePllLockLoss s fun t => lost t ∧
      t.flag CLK_STATUS.REF_PRESENT 0 = s.flag CLK_STATUS.REF_PRESENT 0) ∧
    (s.offline = false → s.clocksPresent = false → s.fld GLB_STATE.BOOT 0 ≠ 0 → Completes .refclkReturn s fun t => t.clocksPresent = true ∧
      (∀ g : Grp, s.fld CLK_LINE.STATE g ≠ 0 → t.fld CLK_LINE.STATE g = 1) ∧
      (∀ k : Fin 4, s.fld CLK_HOST.STATE k ≠ 0 → t.fld CLK_HOST.STATE k = 1) ∧
      KeepsKinds [.CLK_STATUS, .CLK_LINE, .CLK_HOST, .HSI_CLK, .TMB_ERR_BOUND] s t) ∧
    (∀ g : Grp, s.lineSynthLocked g = true → Completes (.synthesiserLockLoss (.line g)) s fun t => t.lineSynthLocked g = false ∧
      t.fld CLK_LINE.STATE g = 3 ∧ t.fld CLK_LINE.LOSSES g = min (s.fld CLK_LINE.LOSSES g + 1) 255 ∧
      t.locked (2 * g) = false ∧ t.locked (2 * g + 1) = false ∧
      (∀ k : Grp, k ≠ g → t.reg .CLK_LINE k = s.reg .CLK_LINE k ∧ t.lineSynthLocked k = s.lineSynthLocked k) ∧ Holds s t) ∧
    (∀ k : Fin 4, s.hostSynthLocked k = true → Completes (.synthesiserLockLoss (.host k)) s fun t => t.hostSynthLocked k = false ∧
      t.fld CLK_HOST.STATE k = 3 ∧ t.fld CLK_HOST.LOSSES k = min (s.fld CLK_HOST.LOSSES k + 1) 255 ∧ t.flag HSI_CLK.SYNTH_LOCK k = false ∧
      (∀ i : Fin 8, t.hrx (8 * k + i) ≠ HRx.LOCKED) ∧ Holds s t) ∧
    (s.offline = false → s.clocksPresent = true → s.hrn.load = none → s.fld PWR_STATE.STATE 0 ≠ 3 →
      (∀ g : Grp, s.fld CLK_LINE.STATE g = 1 ∨ s.fld CLK_LINE.STATE g = 3 → Completes (.synthesiserLock (.line g)) s fun t =>
        t.lineSynthLocked g = true ∧ t.fld CLK_LINE.STATE g = 2 ∧
        t.fld CLK_LINE.LOCK_TIME g = s.lockTime (Tab.get (fun _ => 0) s.clk.line g) ∧ Holds s t) ∧
      ∀ k : Fin 4, s.fld CLK_HOST.STATE k = 1 ∨ s.fld CLK_HOST.STATE k = 3 → Completes (.synthesiserLock (.host k)) s fun t =>
        t.hostSynthLocked k = true ∧ t.fld CLK_HOST.STATE k = 2 ∧ t.flag HSI_CLK.SYNTH_LOCK k = true ∧
        t.fld CLK_HOST.LOCK_TIME k = s.lockTime (Tab.get (fun _ => 0) s.clk.host k) ∧ Holds s t) ∧
    ∀ g : Grp, s.offline = false → s.hrn.load = none → s.fld PWR_STATE.STATE 0 = 3 → 5 ≤ s.fld GLB_STATE.BOOT 0 →
      s.fld CLK_LINE.STATE g = 1 ∨ s.fld CLK_LINE.STATE g = 3 →
      (s.setFld CLK_STATUS.LINE_LOCK 0 (s.fld CLK_STATUS.LINE_LOCK 0 ||| 2 ^ g.val)).synthsLocked s.cfg groups8 = true →
      Completes (.synthesiserLock (.line g)) s fun t => t.fld PWR_STATE.STATE 0 = 0 ∧ t.fld GLB_STATE.PWR 0 = 0 ∧ Holds s t

/-- A waiting enable of a receiver, a transmitter or a host lane reads 0 again with PLL_TIMEOUT, counted for a host receiver; a load
ends with PLL_TIMEOUT, counted as rejected, its configuration unchanged, that of a boot going on to the next slot; a return to
ACTIVE completes with result 3 and class IMAGE. -/
def Sys2Proof.Claims.PendingTimeouts : Prop :=
  ∀ s : State, s.offline = false → s.clocksPresent = true →
    (∀ n : Lane,
      (s.flag LRX_STATUS.PENDING n = true → (s.lrxOf n).clockLost = false → Completes (.pendingTimeout (.lineRx n)) s fun t =>
        t.flag LRX_STATUS.PENDING n = false ∧ t.flag LRX_CTRL.ENABLE n = false ∧ t.fld LRX_STATUS.RESULT n = 1 ∧
        Keeps ([(.LRX_STATUS, n.val), (.LRX_CTRL, n.val)] ++ logKeys) s t) ∧
      (s.ltxState n = Ltx.PENDING → (s.sqCause n).testBit Squelch.CLOCK = false → Completes (.pendingTimeout (.lineTx n)) s fun t =>
        t.ltxState n = Ltx.DISABLED ∧ t.flag LTX_CTRL.ENABLE n = false ∧ t.fld LTX_STATUS.RESULT n = LtxResult.PLL_TIMEOUT ∧
        Keeps [(.LTX_STATUS, n.val), (.LTX_CTRL, n.val)] s t)) ∧
    (∀ h : HLane, let frame := fun (t : State) => Keeps [(.HSI_STATUS, h.val), (.HSI_CTRL, h.val), (.HSI_TIMEOUT, h.val), (.HSI_CLK, h.val / 8)] s t
      (s.hrx h = HRx.PENDING → (s.hsiOf h).clockLost = false → Completes (.pendingTimeout (.host h)) s fun t =>
        t.hrx h = HRx.DISABLED ∧ t.flag HSI_CTRL.RX_EN h = false ∧ t.fld HSI_STATUS.RESULT h = HRes.PLL_TIMEOUT ∧
        Counts HSI_TIMEOUT.COUNT h s t ∧ frame t) ∧
      (s.htx h = HTx.PENDING → (s.hsiOf h).txClockLost = false → (s.hsiOf h).wakeDue = false →
        Completes (.pendingTimeout (.host h)) s fun t =>
          t.htx h = HTx.DISABLED ∧ t.flag HSI_CTRL.TX_EN h = false ∧ t.fld HSI_STATUS.RESULT h = HRes.PLL_TIMEOUT ∧ frame t)) ∧
    (∀ l : LoadX, s.hrn.load = some l → l.stage = 1 →
      (l.cmd ≠ 0 → s.pwr.deferred = none → Completes (.pendingTimeout .load) s fun t => t.hrn.load = none ∧
        t.fld HRN_STATUS.RESULT 0 = Load.PLL_TIMEOUT ∧ Counts HRN_LOAD_REJ.COUNT 0 s t ∧ t.cfg = s.cfg ∧ Holds s t) ∧
      (l.cmd = 0 → Completes (.pendingTimeout .load) s fun t => 4 ≤ t.fld GLB_STATE.BOOT 0 ∧
        s.fld SEC_UID.UID 0 = t.fld SEC_UID.UID 0)) ∧
    (s.fld PWR_STATE.STATE 0 = 3 → Completes (.pendingTimeout .toActive) s fun t =>
      t.fld PWR_STATE.STATE 0 = 0 ∧ t.fld PWR_STATE.RESULT 0 = 3 ∧ Alerted Alert.IMAGE t ∧ Holds s t)

/-- The watchdog leaves the datapath headless and unchanged; on return HEADLESS reads 0, or the ROM stays in RECOVERY, where a restart
asked for it or no slot passes; a downloaded image that fails its checks is dropped with its result, one that passes runs as slot
2 and the boot goes on. -/
def Sys2Proof.Claims.ControllerRestarts : Prop :=
  ∀ s : State,
    (s.offline = false → s.headless = false → 5 ≤ s.fld GLB_STATE.BOOT 0 → Completes .controllerWatchdog s fun t =>
      t.headless = true ∧ t.fld GLB_STATE.BOOT 0 = s.fld GLB_STATE.BOOT 0 ∧ t.sec.update = none ∧ t.fld SEC_FW_SPACE.SPACE 0 = 0 ∧
      Keeps [(.GLB_STATE, 0), (.SEC_FW_SPACE, 0), (.SEC_FW_STATUS, 0)] s t) ∧
    (s.offline = false → s.headless = true → s.inRecovery = false →
      (s.sec.recover = true → Completes .controllersReturn s fun t => t.inRecovery = true ∧ t.fld GLB_STATE.BOOT 0 = 0 ∧
        t.headless = true ∧ Alerted Alert.IMAGE t ∧ Keeps ([(.SEC_FW_STATUS, 0)] ++ alertKeys) s t) ∧
      (s.sec.recover = false → s.mgt.held = [] → s.mgt.cmisLater = [] → Completes .controllersReturn s fun t => t.fld SEC_UID.UID 0 = s.fld SEC_UID.UID 0 ∧
        ((t.headless = false ∧ 5 ≤ t.fld GLB_STATE.BOOT 0) ∨ (t.inRecovery = true ∧ t.fld GLB_STATE.BOOT 0 = 0)))) ∧
    ∀ (puf certOk : Bool) (u : FwUpX), s.sec.update = some u → s.offline = false → s.inRecovery = true → u.due = true →
      let r := if u.excess then Sec.LENGTH else s.fwCheck u.bytes
      (r ≠ Sec.OK → Completes (.recoveryImage puf certOk) s fun t => t.fld SEC_FW_STATUS.RESULT 0 = r ∧ t.sec.update = none ∧
        t.fld SEC_FW_SPACE.SPACE 0 = 0 ∧ t.inRecovery = true ∧ Keeps [(.SEC_FW_STATUS, 0), (.SEC_FW_SPACE, 0)] s t) ∧
      (r = Sec.OK → s.headless = false → Completes (.recoveryImage puf certOk) s fun t => t.inRecovery = false ∧
        3 ≤ t.fld GLB_STATE.BOOT 0 ∧ t.fld SEC_STATUS.FW_SLOT 0 = 2)

/-- A waiting enable of a receiver, a transmitter or a host lane reads 0 again with PLL_TIMEOUT, counted for a host receiver; a load
ends with PLL_TIMEOUT, counted as rejected, its configuration unchanged, that of a boot going on to the next slot; a return to
ACTIVE completes with result 3 and class IMAGE. The watchdog leaves the datapath headless and unchanged; on return HEADLESS reads
0, or the ROM stays in RECOVERY, where a restart asked for it or no slot passes; a downloaded image that fails its checks is
dropped with its result, one that passes runs as slot 2 and the boot goes on. (09_harness_configuration.md: Partial
reconfiguration, 05_line_transmit.md: Transmit states, 12_power_startup_sleep.md: Power states, 11_identity_and_security.md:
Firmware update and controller restart, 11_identity_and_security.md: Boot chain, 01_architecture.md: How the subsystems depend on
one another) -/
def Obligations.TimeoutsAndRestarts : Prop := Sys2Proof.Claims.PendingTimeouts ∧ Sys2Proof.Claims.ControllerRestarts

/-- GO on an IDLE unbound channel checks the entry: count 0 ends TABLE, a bad range or role ends with its status, misalignment ends
ALIGN on a strict channel, else the transfer runs, descending where the destination overlaps above the source; INDEX checks its
table likewise. GO on a busy channel is recorded only. ABORT ends a channel now, or at its burst's end. (14_memory_ecc_dma.md: DMA
engine, 14_memory_ecc_dma.md: Coinciding events) -/
def Obligations.DmaStarts : Prop :=
  ∀ (s : State) (p : Path) (n : Fin 16), Accepts s p .DMA_CTRL n →
    let src := s.fld DMA_SRC.ADDR n
    let dst := s.fld DMA_DST.ADDR n
    let cnt := s.fld DMA_CNT.CNT n
    let stopped := fun (status i : Nat) (t : State) => t.dmaState n = Dma.CHECK ∧ (t.dmaOf n).ended = some status ∧
      (t.dmaOf n).entry = i ∧ Keeps [(.DMA_CTRL, n.val), (.DMA_STATUS, n.val)] s t
    let running := fun (es : List DmaEntry) (desc : Bool) (t : State) => t.dmaState n = Dma.RUN ∧ (t.dmaOf n).entries = es ∧
      (t.dmaOf n).desc = desc ∧ (t.dmaOf n).moved = 0 ∧ (t.dmaOf n).ended = none ∧ t.fld DMA_STATUS.REMAIN n = cnt ∧
      KeepsKinds [.DMA_CTRL, .DMA_STATUS] s t
    (s.dmaState n = Dma.IDLE → s.fld DMA_CTRL.REQ n = 0 → s.partFailed 12 = false →
      (∀ c ∈ [(Instr.linear p n, false), (Instr.fill p n, true)],
        let e : DmaEntry := { src := src, dst := dst, cnt := cnt, fill := c.2 }
        (cnt = 0 → Completes c.1 s (stopped DmaEnd.TABLE 0)) ∧
        (cnt ≠ 0 → (∀ x, e.fault (s.role p) = some x → Completes c.1 s (stopped x 0)) ∧
          (e.fault (s.role p) = none →
            (s.dmaStrict n = true → e.aligned = false → Completes c.1 s (stopped DmaEnd.ALIGN 0)) ∧
            (s.dmaStrict n = false ∨ e.aligned = true → Completes c.1 s
              (running [e] (!e.fill && decide (src < dst) && overlaps src cnt dst cnt)))))) ∧
      (cnt = 0 ∨ 256 < cnt → Completes (.index p n) s (stopped DmaEnd.TABLE 0)) ∧
      (0 < cnt → cnt ≤ 256 →
        (src % 16 ≠ 0 → Completes (.index p n) s (stopped DmaEnd.ALIGN 0)) ∧
        (src % 16 = 0 →
          (∀ x, rangeFault (s.role p) src (16 * cnt) false = some x → Completes (.index p n) s (stopped x 0)) ∧
          (rangeFault (s.role p) src (16 * cnt) false = none → s.memx.errs = [] → s.memx.poison = [] → ∀ es : List DmaEntry,
            ((List.range cnt).map fun i => entryOf (s.memBytes (src + 16 * i) 16)) = es.map some →
            (∀ e ∈ es, e.fault (s.role p) = none ∧ (s.dmaStrict n = false ∨ e.aligned = true)) → firstClash 0 es = none →
            Completes (.index p n) s (running es false))))) ∧
    (s.dmaState n ≠ Dma.IDLE → ∀ c ∈ [Instr.linear p n, .fill p n, .index p n], Completes c s fun t => Keeps logKeys s t ∧ t.dma = s.dma ∧
      (Room s → Logged Evt.DMA_EVENT Subj.DMA_CHANNEL n ((List.range 8).map fun i => fieldAt (s.dmaRecord n 0) (4 * i) 4) s t)) ∧
    (s.dmaAsks n = true → s.fld DMA_CTRL.MODE n ≠ 3 → Completes (.dmaAbort p n) s fun t => Keeps [] s t ∧
      (if s.engine.current = some n.val then (t.dmaOf n).aborting = true else (t.dmaOf n).ended = some DmaEnd.ABORTED))

/-- The one burst of a short FILL leaves the pattern in its range and nothing elsewhere; that of a short copy between disjoint ranges
of the stores leaves the source's bytes at the destination; the transfer then ends OK. A free engine grants the channel that asks
with the highest priority. A pre-empted channel is counted, keeps what it has moved and waits. (14_memory_ecc_dma.md: DMA engine,
14_memory_ecc_dma.md: Initialisation and arming) -/
def Obligations.DmaBursts : Prop :=
  ∀ (s : State) (n : Fin 16),
    let x := s.dmaOf n
    let whole := fun (e : DmaEntry) => s.engine.current = some n.val ∧ s.dmaState n = Dma.RUN ∧ x = { entries := [e], strict := x.strict } ∧ regSpaceEnd ≤ e.dst ∧
      e.dst % 32 = 0 ∧ 0 < e.cnt ∧ e.cnt ≤ 32 * (s.fld DMA_CTRL.BURST n + 1)
    let ended := fun (t : State) => (t.dmaOf n).ended = some DmaEnd.OK ∧ t.fld DMA_STATUS.REMAIN n = 0 ∧
      ∀ r i, r ≠ .DMA_STATUS → t.reg r i = s.reg r i
    (∀ e : DmaEntry, whole e → e.fill = true → Completes .dmaBurstEnd s fun t => ended t ∧ KeepsOutside e.dst e.cnt s t ∧
      ∀ k, k < e.cnt → t.memByte (e.dst + k) = (leBytes 8 (s.fld DMA_FILL.FILL n)).getD (k % 8) 0) ∧
    (∀ e : DmaEntry, whole e → e.fill = false → regSpaceEnd ≤ e.src → overlaps e.src e.cnt e.dst e.cnt = false →
      rangeFault Role.FIRMWARE e.src e.cnt false = none → rangeFault Role.FIRMWARE e.dst e.cnt true = none →
      s.memx.errs = [] → s.memx.poison = [] → s.flag MEM_FLIP_MASK.ARM 0 = false →
      Completes .dmaBurstEnd s fun t => ended t ∧ KeepsOutside e.dst e.cnt s t ∧
        ∀ k, k < e.cnt → t.memByte (e.dst + k) = s.memByte (e.src + k)) ∧
    (s.engine.current = none → (∀ k : Fin 4, (s.strmOf k).queue = []) → s.dmaPick = some n.val → Completes .dmaBurstEnd s fun t =>
      t.engine.current = some n.val ∧ t.dmaState n = Dma.RUN ∧ Keeps [(.DMA_STATUS, n.val)] s t ∧
      ∀ m : Fin 16, s.dmaAsks m = true → s.fld DMA_CTRL.PRIO m ≤ s.fld DMA_CTRL.PRIO n) ∧
    ∀ b : Fin 16, s.engine.current = some n.val → x.stream = none → (∀ k : Fin 4, (s.strmOf k).queue = []) → s.outranked n = true →
      x.beats + b.val < s.burstBeats n → (∀ e ∈ x.entries, regSpaceEnd ≤ e.dst ∧ (e.fill = true ∨ regSpaceEnd ≤ e.src)) →
      ((s.moveBeats n b).dmaOf n).excess = false → Completes (.dmaPreempt b) s fun t =>
        Counts DMA_PREEMPT.COUNT n s t ∧ t.dmaState n = Dma.PREEMPTED ∧ (t.dmaOf n).preempted = true ∧
        (t.dmaOf n).bytes = ((s.moveBeats n b).dmaOf n).bytes ∧ t.engine.current ≠ some n.val

/-- A transfer that ends enters its record at DMA_CQ_WR where CQ, an error or a withdrawal asks for one, and returns to IDLE; with the
queue full it waits and is counted. DMA_CQ_RD takes an index that does not pass DMA_CQ_WR and rejects another. A stream's record
takes its idle channel for a burst; a withdrawn request completes or leaves the channel. (14_memory_ecc_dma.md: Completion queue,
14_memory_ecc_dma.md: DMA engine, 13_housekeeping_analogue.md: Result streams) -/
def Obligations.DmaQueueAndStreams : Prop :=
  ∀ s : State,
    let w := s.fld DMA_CQ_WR.IDX 0
    (∀ (n : Fin 16) (st : Nat), (s.dmaOf n).ended = some st → (s.dmaOf n).waiting = none →
      let asked := s.flag DMA_CTRL.CQ n || decide (st ≠ DmaEnd.OK) || (s.dmaOf n).withdrawn
      let idle := fun (t : State) => t.dmaState n = Dma.IDLE ∧ t.fld DMA_STATUS.REMAIN n = 0 ∧ t.dmaOf n = {}
      (asked = true → s.cqFull = false → Completes (.dmaTransferEnd n) s fun t => idle t ∧ t.fld DMA_CQ_WR.IDX 0 = (w + 1) % 256 ∧
        (∀ i : Fin 8, t.fld DMA_CQ_REC.WORD (8 * w + i) = fieldAt (s.dmaRecord n st) (4 * i) 4) ∧
        (∀ i, i < 8 * w ∨ 8 * w + 8 ≤ i → t.reg .DMA_CQ_REC i = s.reg .DMA_CQ_REC i) ∧
        KeepsKinds [.DMA_CQ_REC, .DMA_CQ_WR, .DMA_STATUS] s t) ∧
      (asked = true → s.cqFull = true → Completes (.dmaTransferEnd n) s fun t => t.dmaState n = Dma.WAIT_CQ ∧
        Counts DMA_CQ_WAITS.COUNT 0 s t ∧ (t.dmaOf n).waiting = some st ∧ t.engine.waits = s.engine.waits ++ [n.val] ∧
        Keeps [(.DMA_STATUS, n.val), (.DMA_CQ_WAITS, 0)] s t) ∧
      (asked = false → Completes (.dmaTransferEnd n) s fun t => idle t ∧ Keeps [(.DMA_STATUS, n.val)] s t)) ∧
    (∀ (p : Path) (i : Byte), Accepts s p .DMA_CQ_RD 0 →
      let rd := s.fld DMA_CQ_RD.IDX 0
      ((i.toNat + 256 - rd) % 256 ≤ (w + 256 - rd) % 256 → Completes (.dmaCqRdWrite p i) s fun t => t.fld DMA_CQ_RD.IDX 0 = i.toNat ∧
        ((∀ n : Fin 16, (s.dmaOf n).waiting = none) → Keeps [(.DMA_CQ_RD, 0)] s t)) ∧
      ((w + 256 - rd) % 256 < (i.toNat + 256 - rd) % 256 → Completes (.dmaCqRdWrite p i) s fun t => Keeps logKeys s t ∧
        (Room s → Logged Evt.REG_REJECT Subj.REGISTER (regAddr .DMA_CQ_RD 0 0) [s.pathWord p, i.toNat] s t))) ∧
    ∀ k : Fin 4, let n := s.fld HKA_STREAM_CFG.DMA_CH k
      (∀ (r : List Byte) (rs : List (List Byte)), (s.strmOf k).queue = r :: rs → s.flag HKA_STREAM_CFG.EN k = true → s.dmaState n = Dma.IDLE →
        Completes (.streamBurstRequest k) s fun t => (t.strmOf k).queue = rs ∧ (t.dmaOf n).stream = some k.val ∧ (t.dmaOf n).record = r ∧
          t.dmaState n = Dma.RUN ∧ KeepsKinds [.DMA_STATUS] s t) ∧
      ((s.dmaOf n).stream = some k.val →
        (s.engine.current = some n → Completes (.streamWithdraw k) s fun t => (t.dmaOf n).withdrawn = true ∧ Keeps [] s t) ∧
        (s.engine.current ≠ some n → Completes (.streamWithdraw k) s fun t => t.dmaState n = Dma.IDLE ∧ t.dmaOf n = {} ∧
          Keeps [(.DMA_STATUS, n)] s t)) ∧
      ((s.dmaOf n).stream = some k.val → s.engine.current = some n → (s.dmaOf n).withdrawn = false → (∀ j : Fin 4, (s.strmOf j).queue = []) →
        (s.fld HKA_STREAM_WR.WR k + 16) % s.streamBytes k ≠ s.fld HKA_STREAM_RD.RD k →
        Completes .dmaBurstEnd s fun t => t.dmaState n = Dma.IDLE ∧
          t.fld HKA_STREAM_WR.WR k = (s.fld HKA_STREAM_WR.WR k + 16) % s.streamBytes k ∧ ∀ a, t.flashByte a = s.flashByte a)

/-- After its last window a scan conversion leaves the code of its input, OVR, supply mark and time stamp in its channel's registers;
an urgent one in HKA_URGENT_RES, software's clearing BUSY when none of its own waits; a read-back that passes frees its DAC, one
that fails is counted and the second in a row sets the fault. A request joins the queue of four or is refused with 1; a bad
channel or source is rejected. (13_housekeeping_analogue.md: Scanning and urgent requests, 13_housekeeping_analogue.md:
Integration windows and filters, 13_housekeeping_analogue.md: DAC bank) -/
def Obligations.Conversions : Prop :=
  ∀ s : State,
    (∀ (input : List Int) (c : ConvX), s.hka.conv = some c → c.due ≤ s.cycle → c.ch < 40 → 4 ≤ s.fld HKA_CH_CFG.STREAM c.ch → s.hka.retry = [] →
      let r := (s.convert c input).2
      let res := fun (t : State) => (t.flag HKA_URGENT_RES.VALID 0 = true ∧ t.flag HKA_URGENT_RES.OVR 0 = r.2 ∧
        t.fld HKA_URGENT_RES.CH 0 = c.ch ∧ t.fld HKA_URGENT_RES.CODE 0 = code24 r.1)
      (c.kind = Conv.SCAN → Completes (.conversionEnd input) s fun t => t.flag HKA_RESULT.VALID c.ch = true ∧
        t.flag HKA_RESULT.OVR c.ch = r.2 ∧ t.flag HKA_RESULT.SUPPLY c.ch = c.supply ∧ t.fld HKA_RESULT.CODE c.ch = code24 r.1 ∧
        t.fld HKA_RESULT_TS.Q c.ch = s.quality ∧ t.fld HKA_RESULT_TS.TS c.ch = s.now.toNat % 2 ^ 62 ∧
        (c.ch ≠ 37 ∨ s.headless = true ∨ s.hka.urgent.length ≤ 2 → t.reg .HKA_URG_DROP 0 = s.reg .HKA_URG_DROP 0) ∧
        (c.ch ≠ 37 → Keeps [(.HKA_RESULT, c.ch), (.HKA_RESULT_TS, c.ch)] s t) ∧
        Keeps ([(.HKA_RESULT, c.ch), (.HKA_RESULT_TS, c.ch), (.HKA_URG_DROP, 0)] ++ logKeys ++ calKinds.map fun r => (r, 48)) s t) ∧
      (c.kind = Conv.SOFTWARE → Completes (.conversionEnd input) s fun t => res t ∧
        t.flag HKA_URGENT.BUSY 0 = (s.hka.urgent.any fun u => decide (u.kind = Conv.SOFTWARE)) ∧
        Keeps [(.HKA_URGENT, 0), (.HKA_URGENT_RES, 0)] s t) ∧
      (c.kind = Conv.READBACK → c.ch < 32 → (s.dacOf c.ch).gen = c.gen → Completes (.conversionEnd input) s fun t => res t ∧
        KeepsKinds [.HKA_URGENT_RES, .HKA_RB_FAIL, .HKA_DAC_FAULT, .EVL_DROPPED] s t ∧
        (s.rbPasses c.ch r.1 = true → (t.dacOf c.ch).fails = 0 ∧ (t.dacOf c.ch).held = false ∧ t.reg .HKA_DAC_FAULT 0 = s.reg .HKA_DAC_FAULT 0) ∧
        (s.rbPasses c.ch r.1 = false → Counts HKA_RB_FAIL.COUNT 0 s t ∧ (1 ≤ (s.dacOf c.ch).fails →
          (t.fld HKA_DAC_FAULT.FAULT 0).testBit c.ch = true ∧ (t.dacOf c.ch).held = true)))) ∧
    ∀ (p : Path) (ch : Fin 64) (src order : Fin 4), Accepts s p .HKA_URGENT 0 →
      let u : ConvX := { ch := ch, src := src, order := order, kind := Conv.SOFTWARE }
      (ch.val < 40 → src.val ≠ 3 →
        (4 ≤ s.hka.urgent.length → Completes (.hkaUrgentGo p ch src order) s fun t => t.fld HKA_URGENT.RESULT 0 = 1 ∧
          t.hka = s.hka ∧ Keeps [(.HKA_URGENT, 0)] s t) ∧
        (s.hka.urgent.length < 4 → Completes (.hkaUrgentGo p ch src order) s fun t => t.fld HKA_URGENT.RESULT 0 = 0 ∧
          t.flag HKA_URGENT.BUSY 0 = true ∧ Keeps [(.HKA_URGENT, 0), (.HKA_URG_DROP, 0)] s t ∧
          (∀ c, s.hka.conv = some c → c.kind ≠ Conv.SCAN → t.hka.urgent = s.hka.urgent ++ [u]) ∧
          (s.hka.conv = none → s.hka.urgent = [] → s.partFailed 11 = false → t.hka.conv = some { u with lp := s.hkaLp, due := s.convDue ch order s.hkaLp }))) ∧
      (40 ≤ ch.val ∨ src.val = 3 → Completes (.hkaUrgentGo p ch src order) s fun t => Keeps logKeys s t ∧
        (Room s → Logged Evt.REG_REJECT Subj.REGISTER (regAddr .HKA_URGENT 0 0)
          [s.pathWord p, 2 ^ 31 + ch.val * 2 ^ 22 + src.val * 2 ^ 20 + order.val * 2 ^ 18] s t))

/-- A code write reaches the output at once with TRIG IMMEDIATE, else it waits; a timer updates every DAC bound to it, from before a
write of the same engine cycle, and a one-shot stops; a read-back that is due, or the next in turn, joins the urgent queue, or is
counted and retried when that is full; a fault bit written 1 clears and releases its DAC, unless the device sets it in that cycle. -/
def Sys2Proof.Claims.DacsAndReadback : Prop :=
  ∀ s : State,
    let free := fun (n : Fin 32) => s.partFailed 11 = false ∧ ((s.dacOf n).held = false ∨ s.flag HKA_DAC_CFG.HOLD_ON_FAULT n = false)
    let rb := fun (n : Nat) => ({ ch := n, src := 2, order := 0, kind := Conv.READBACK, gen := (s.dacOf n).gen } : ConvX)
    let asked := fun (n : Nat) (t : State) =>
      (s.hka.urgent.length < 4 → (∃ c, s.hka.conv = some c ∧ c.kind ≠ Conv.SCAN) → t.hka.urgent = s.hka.urgent ++ [rb n] ∧ Keeps [] s t) ∧
      (4 ≤ s.hka.urgent.length → t.hka.retry = s.hka.retry ++ [rb n] ∧ Counts HKA_URG_DROP.COUNT 0 s t ∧ Keeps [(.HKA_URG_DROP, 0)] s t)
    (∀ (p : Path) (n : Fin 32) (code : BitVec 16), Accepts s p .HKA_DAC_CODE n → Completes (.dacCodeWrite p n code) s fun t =>
      t.fld HKA_DAC_CODE.CODE n = code.toNat ∧ Keeps [(.HKA_DAC_CODE, n.val)] s t ∧
      (s.fld HKA_DAC_CFG.TRIG n = 0 → free n → t.fld HKA_DAC_CODE.NOW n = code.toNat ∧ (t.dacOf n).gen = (s.dacOf n).gen + 1) ∧
      (s.fld HKA_DAC_CFG.TRIG n ≠ 0 ∨ ¬free n → t.fld HKA_DAC_CODE.NOW n = s.fld HKA_DAC_CODE.NOW n)) ∧
    (∀ k : Fin 3, s.flag HKA_DAC_TIMER.EN k = true → Completes (.dacTimerFire k) s fun t =>
      t.flag HKA_DAC_TIMER.EN k = !s.flag HKA_DAC_TIMER.ONESHOT k ∧
      (∀ n : Fin 32, t.fld HKA_DAC_CODE.NOW n = if s.fld HKA_DAC_CFG.TRIG n = k.val + 1 ∧ s.partFailed 11 = false ∧
        ((s.dacOf n).held = false ∨ s.flag HKA_DAC_CFG.HOLD_ON_FAULT n = false) then (s.dacStaged n true).1 % 2 ^ HKA_DAC_CODE.NOW.width
        else s.fld HKA_DAC_CODE.NOW n) ∧
      KeepsKinds [.HKA_DAC_TIMER, .HKA_DAC_CODE, .EVL_DROPPED] s t) ∧
    (∀ n : Fin 32, (s.dacOf n).rbDue = true → (s.dacOf n).rbAt ≤ s.cycle → Completes (.readbackRequest n) s fun t => (t.dacOf n).rbDue = false ∧ asked n t) ∧
    (s.fld HKA_RB_CFG.RB_PERIOD 0 ≠ 0 → ∀ n, (((List.range 32).map fun i => (s.hka.rbLast + 1 + i) % 32).find?
      fun k => s.flag HKA_DAC_CFG.RB_EN k) = some n → Completes .readbackPeriod s fun t => t.hka.rbLast = n ∧ asked n t) ∧
    ∀ (p : Path) (mask : Word32), Accepts s p .HKA_DAC_FAULT 0 → Completes (.dacFaultClear p mask) s fun t =>
      (∀ n : Fin 32, let clears := mask.getLsbD n && !(s.risenOf .HKA_DAC_FAULT 0).testBit n
        (t.fld HKA_DAC_FAULT.FAULT 0).testBit n = ((s.fld HKA_DAC_FAULT.FAULT 0).testBit n && !clears) ∧
        (t.dacOf n).held = ((s.dacOf n).held && !clears)) ∧ Keeps [(.HKA_DAC_FAULT, 0)] s t

/-- At a tick every enabled channel adds its held result, the former one where a new one comes in the same engine cycle, to its
accumulator; the last tick of a block leaves the rounded mean of the block in HKA_DEC_OUT and starts another. A self-calibration
queues ground and bandgap, or is recorded as skipped while the controllers restart; each second the fit of an input with pairs is
recorded, B kept where the span is narrow. -/
def Sys2Proof.Claims.DecimationAndFits : Prop :=
  ∀ s : State,
    (s.partFailed 11 = true → Completes .decimationTick s fun t => t = s) ∧
    (s.partFailed 11 = false → Completes .decimationTick s fun t => (∀ a, t.flashByte a = s.flashByte a) ∧ ∀ c : Fin 40,
      let x := s.decOf c
      let now := (s.reg .HKA_RESULT c).toNat
      let held := match s.hka.last with
        | some (e, k, old) => if e = s.engineCycle ∧ k = c.val then old else now
        | none => now
      let acc := x.acc + BitVec.ofInt 36 (BitVec.ofNat 24 (fieldOf held HKA_RESULT.CODE)).toInt
      let m := 2 ^ min (s.fld HKA_DEC_CFG.M_LOG2 0) 11
      let prev := if x.restart then x.acc else x.prev
      let ticks := if x.restart then 1 else x.ticks + 1
      (s.flag HKA_CH_CFG.DEC_EN c = false → t.decOf c = x ∧ t.reg .HKA_DEC_OUT c = s.reg .HKA_DEC_OUT c) ∧
      (s.flag HKA_CH_CFG.DEC_EN c = true → (t.decOf c).acc = acc ∧
        (ticks < m → (t.decOf c).ticks = ticks ∧ (t.decOf c).prev = prev ∧ t.reg .HKA_DEC_OUT c = s.reg .HKA_DEC_OUT c) ∧
        (m ≤ ticks → (t.decOf c).ticks = 0 ∧ (t.decOf c).prev = acc ∧
          t.fld HKA_DEC_OUT.OUT c = code24 (((acc - prev).toInt + (m / 2 : Nat)) / (m : Int))))) ∧
    (s.headless = true → Completes .selfCalibration s fun t => t.fld CAL_RESULT.RESULT 48 = Cal.SKIPPED ∧ Counts CAL_COUNT.COUNT 48 s t ∧
      t.fld CAL_VALUE.VALUE 48 = s.fld CAL_VALUE.VALUE 48 ∧ t.hka = s.hka ∧
      Keeps ((calKinds.map fun r => (r, 48)) ++ logKeys) s t) ∧
    (s.headless = false → s.hka.urgent.length ≤ 2 → ∀ c, s.hka.conv = some c → c.kind ≠ Conv.SCAN → Completes .selfCalibration s fun t =>
      (t.hka.urgent.map fun u => (u.ch, u.order)) = (s.hka.urgent.map fun u => (u.ch, u.order)) ++ [(39, 0), (32, 3)] ∧ Keeps [] s t) ∧
    Completes .tskFit s fun t => KeepsKinds (calKinds ++ [.CAL_TSK]) s t ∧ ∀ k : Fin 32,
      let pairs := Tab.get (fun _ => []) s.hka.pairs k.val
      (s.fld HKA_CH_CFG.SRC k = 1 → s.headless = true →
        t.fld CAL_RESULT.RESULT (16 + k) = Cal.SKIPPED ∧ Counts CAL_COUNT.COUNT (16 + k) s t ∧ t.reg .CAL_TSK k = s.reg .CAL_TSK k) ∧
      (s.fld HKA_CH_CFG.SRC k = 1 → s.headless = false → pairs ≠ [] →
        t.fld CAL_RESULT.RESULT (16 + k) = Cal.OK ∧ Counts CAL_COUNT.COUNT (16 + k) s t ∧
        (narrowSpan pairs = true → t.fld CAL_TSK.B k = s.fld CAL_TSK.B k)) ∧
      (s.fld HKA_CH_CFG.SRC k ≠ 1 ∨ (s.headless = false ∧ pairs = []) → t.reg .CAL_TSK k = s.reg .CAL_TSK k ∧
        t.reg .CAL_COUNT (16 + k) = s.reg .CAL_COUNT (16 + k))

/-- A code write reaches the output at once with TRIG IMMEDIATE, else it waits; a timer updates every DAC bound to it, from before a
write of the same engine cycle, and a one-shot stops; a read-back that is due, or the next in turn, joins the urgent queue, or is
counted and retried when that is full; a fault bit written 1 clears and releases its DAC, unless the device sets it in that cycle.
At a tick every enabled channel adds its held result, the former one where a new one comes in the same engine cycle, to its
accumulator; the last tick of a block leaves the rounded mean of the block in HKA_DEC_OUT and starts another. A self-calibration
queues ground and bandgap, or is recorded as skipped while the controllers restart; each second the fit of an input with pairs is
recorded, B kept where the span is narrow. (13_housekeeping_analogue.md: DAC bank, 13_housekeeping_analogue.md: Scanning and
urgent requests, 13_housekeeping_analogue.md: Decimation engine, 13_housekeeping_analogue.md: Calibration records,
13_housekeeping_analogue.md: CMIS monitors and optical power) -/
def Obligations.DacsDecimationAndFits : Prop := Sys2Proof.Claims.DacsAndReadback ∧ Sys2Proof.Claims.DecimationAndFits

/-- 32 core cycles after the last one the first queued record is written whole at the head of the circulating area, or at its start
where it no longer fits, the head, the oldest record and the count following; it is kept too while the kept area takes it; the
queue falling to 32 after drops gains a DROPPED record. CLEAR_KEPT leaves one KEPT_CLEARED record there. A read of EVL_HEAD_SEQ
captures the pointers and changes nothing else. (15_event_log_and_counters.md: The event store, 15_event_log_and_counters.md:
Reading a snapshot) -/
def Obligations.EventRecords : Prop :=
  ∀ s : State,
    (∀ (r : Rec) (rs : List Rec), s.recorder.queue = r :: rs → s.recorderBusy = false → s.memx.errs = [] → s.memx.poison = [] → s.flag MEM_FLIP_MASK.ARM 0 = false →
      0x8000 ≤ s.fld EVL_HEAD_SEQ.OFFSET 0 →
      let n := r.bytes.length
      let w := if s.fld EVL_HEAD_SEQ.OFFSET 0 + n ≤ 0x40000 then s.fld EVL_HEAD_SEQ.OFFSET 0 else 0x8000
      let used := s.fld EVL_FIRST_FULL.USED 0
      Completes .recordWrite s fun t => t.fld EVL_HEAD_SEQ.SEQ 0 = r.seq.toNat ∧ t.fld EVL_HEAD_SEQ.OFFSET 0 = (if w + n = 0x40000 then 0x8000 else w + n) ∧
        Counts EVL_WRITTEN.COUNT 0 s t ∧ (∀ k, k < n → t.memByte (eventStore + w + k) = r.bytes.getD k 0) ∧
        (t.recorder.circ.getLast?.map (·.2.2)) = some r.seq ∧
        (s.flag EVL_FIRST_FULL.FULL 0 = true ∨ 0x8000 < used + n → t.flag EVL_FIRST_FULL.FULL 0 = true ∧ t.fld EVL_FIRST_FULL.USED 0 = used ∧
          t.reg .EVL_FIRST_RANGE 0 = s.reg .EVL_FIRST_RANGE 0) ∧
        (s.flag EVL_FIRST_FULL.FULL 0 = false → used + n ≤ 0x8000 → t.flag EVL_FIRST_FULL.FULL 0 = false ∧
          t.fld EVL_FIRST_FULL.USED 0 = used + n ∧ t.fld EVL_FIRST_RANGE.LAST 0 = r.seq.toNat) ∧
        (rs.length ≠ 32 ∨ s.recorder.dropRun = 0 → t.recorder.queue = rs) ∧
        (rs.length = 32 → 0 < s.recorder.dropRun → t.recorder.dropRun = 0 ∧ (t.recorder.queue.map (·.type)) = rs.map (·.type) ++ [Evt.DROPPED]) ∧
        KeepsOutside eventStore 0x40000 s t ∧
        ∀ k i, k ∉ [Reg.EVL_HEAD_SEQ, .EVL_OLDEST_SEQ, .EVL_FIRST_FULL, .EVL_FIRST_RANGE, .EVL_WRITTEN] → t.reg k i = s.reg k i) ∧
    (∀ p, Accepts s p .EVL_CTRL 0 →
      let seq := (s.recorder.queue.head?.map (·.seq)).getD s.recorder.next
      Completes (.clearKept p) s fun t => t.recorder.kept = 1 ∧ t.fld EVL_FIRST_FULL.USED 0 = 36 ∧ t.flag EVL_FIRST_FULL.FULL 0 = false ∧
        t.fld EVL_FIRST_RANGE.FIRST 0 = seq.toNat ∧ t.fld EVL_FIRST_RANGE.LAST 0 = seq.toNat ∧ t.fld EVL_HEAD_SEQ.SEQ 0 = seq.toNat ∧
        Counts EVL_WRITTEN.COUNT 0 s t ∧ ∀ a, t.flashByte a = s.flashByte a) ∧
    Completes .evlHeadSeqRead s fun t => Keeps [] s t ∧ t.recorder = s.recorder ∧
      ∀ r ∈ [Reg.EVL_HEAD_SEQ, .EVL_OLDEST_SEQ, .EVL_FIRST_FULL, .EVL_FIRST_RANGE], t.captureOf (r, 0) = s.reg r 0

/-- While a load runs, the device boots or its controllers restart, every command but CANCEL answers BUSY and is counted. Else
HRN_OPEN empties the staging buffer, LOAD commands fill it from their slot of flash, and each other command locks it and starts
its checks; data is appended up to 262,144 bytes, and rejected while the buffer is locked. CANCEL before Q ends the load ABORTED
with the configuration unchanged. (09_harness_configuration.md: Load paths, 09_harness_configuration.md: Coinciding events,
09_harness_configuration.md: Registers) -/
def Obligations.LoadCommands : Prop :=
  ∀ (s : State) (p : Path),
    (Accepts s p .HRN_LOAD_CTRL 0 → s.fld HRN_LOAD_CTRL.DRAIN_TO 0 ≠ 0 →
      (s.loadBusy = true → ∀ c ∈ [Instr.hrnOpen p, .commit p, .verify p, .writeA p, .writeB p, .loadA p, .loadB p], Completes c s fun t =>
        t.fld HRN_STATUS.RESULT 0 = Load.BUSY ∧ t.fld HRN_STATUS.DETAIL 0 = 0xFFFF ∧ Counts HRN_LOAD_REJ.COUNT 0 s t ∧ t.hrn = s.hrn ∧
        Keeps ([(.HRN_STATUS, 0), (.HRN_LOAD_REJ, 0)] ++ logKeys) s t) ∧
      (s.loadBusy = false →
        (Completes (.hrnOpen p) s fun t => t.hrn.staging = [] ∧ t.hrn.excess = false ∧ t.fld HRN_STATUS.STATE 0 = 1 ∧
          t.fld HRN_LOAD_COUNT.COUNT 0 = 0 ∧ Keeps [(.HRN_STATUS, 0), (.HRN_LOAD_COUNT, 0)] s t) ∧
        (∀ c ∈ [(Instr.commit p, 2), (.verify p, 4), (.writeA p, 5), (.writeB p, 6)], Completes c.1 s fun t =>
          t.hrn = { s.hrn with load := some { cmd := c.2, image := s.hrn.staging, excess := s.hrn.excess, drain := s.flag HRN_LOAD_CTRL.DRAIN 0 } } ∧
          t.fld HRN_STATUS.STATE 0 = 2 ∧ Keeps [(.HRN_STATUS, 0)] s t) ∧
        (∀ c ∈ [(Instr.loadA p, 0), (.loadB p, 1)], Completes c.1 s fun t => t.hrn.staging = s.slotImage c.2 ∧
          (t.hrn.load.map fun l => (l.cmd, l.image, l.stage)) = some (7 + c.2, s.slotImage c.2, 0) ∧ t.fld HRN_STATUS.STATE 0 = 2 ∧
          Keeps [(.HRN_STATUS, 0), (.HRN_LOAD_COUNT, 0)] s t)) ∧
      (∀ l : LoadX, s.hrn.load = some l → l.stage ≤ 3 → l.cmd ≠ 0 → s.pwr.deferred = none → Completes (.cancel p) s fun t =>
        t.hrn.load = none ∧ t.fld HRN_STATUS.RESULT 0 = Load.ABORTED ∧ Counts HRN_LOAD_REJ.COUNT 0 s t ∧ t.cfg = s.cfg ∧ Holds s t)) ∧
    (Accepts s p .HRN_LOAD_DATA 0 → ∀ v : Word32,
      (s.hrn.load = none → Completes (.hrnLoadData p v) s fun t =>
        t.hrn.staging = s.hrn.staging ++ (leBytes 4 v.toNat).take (262144 - s.hrn.staging.length) ∧
        (262144 < s.hrn.staging.length + 4 → t.hrn.excess = true) ∧ t.fld HRN_LOAD_COUNT.COUNT 0 = t.hrn.staging.length % 2 ^ 32 ∧
        Keeps [(.HRN_LOAD_COUNT, 0)] s t) ∧
      (s.hrn.load ≠ none → Completes (.hrnLoadData p v) s fun t => t.hrn = s.hrn ∧ Keeps logKeys s t ∧
        (Room s → Logged Evt.REG_REJECT Subj.REGISTER (regAddr .HRN_LOAD_DATA 0 0) [s.pathWord p, v.toNat] s t)))

/-- An image that fails a check ends with that result and detail, counted, the configuration unchanged. VERIFY ends OK; a write goes
on to flash and leaves the image in its slot; in ACTIVE the mask's groups quiesce, after a drain where asked for, or wait for
their synthesisers; in STANDBY the configuration held is the new one. At Q the mask is rebuilt; it reopens under the new
configuration, counted OK, or after a failed retune under the old one with PLL_TIMEOUT. (09_harness_configuration.md: Checks,
09_harness_configuration.md: Partial reconfiguration, 09_harness_configuration.md: Full load, 09_harness_configuration.md: Load
paths) -/
def Obligations.LoadStages : Prop :=
  ∀ (s : State) (l : LoadX), s.hrn.load = some l →
    let done := fun (r : Nat) (t : State) => t.hrn.load = none ∧ t.fld HRN_STATUS.RESULT 0 = r ∧
      (if r = Load.OK then Counts HRN_LOAD_OK.COUNT 0 s t else Counts HRN_LOAD_REJ.COUNT 0 s t)
    let at_ := fun (k : Nat) (t : State) => (t.hrn.load.map (·.stage)) = some k ∧ t.cfg = s.cfg ∧ Holds s t
    let away := fun (t : State) => ∀ g ∈ l.shown, t.fld HRN_GROUP_STATE.STATE g ≠ Group.REBUILDING
    (l.stage = 0 → s.headless = false → l.cmd ≠ 0 → s.pwr.deferred = none →
      let v := (s.setFld HRN_STATUS.KIND 0 (imgKind l.image)).verdict l.excess (decide (4 < l.cmd)) l.image
      let gs := maskGroups (imgGroups l.image)
      (v.1 ≠ Load.OK → v.1 < 256 → Completes .verificationDone s fun t => done v.1 t ∧ t.fld HRN_STATUS.DETAIL 0 = v.2.1 % 2 ^ 16 ∧
        t.fld HRN_STATUS.KIND 0 = imgKind l.image % 16 ∧ t.cfg = s.cfg ∧ Holds s t) ∧
      (v.1 = Load.OK → l.cmd = 4 → Completes .verificationDone s fun t => done Load.OK t ∧ t.cfg = s.cfg ∧ Holds s t) ∧
      (v.1 = Load.OK → l.cmd = 5 ∨ l.cmd = 6 → Completes .verificationDone s fun t => at_ 6 t ∧ t.fld HRN_STATUS.STATE 0 = 5) ∧
      (v.1 = Load.OK → l.cmd ∉ [4, 5, 6] → s.fld PWR_STATE.STATE 0 = 0 →
        (s.synthsLocked v.2.2 gs = true → Completes .verificationDone s fun t => at_ (if l.drain then 2 else 3) t ∧
          t.fld HRN_STATUS.STATE 0 = 4 ∧ ∀ g ∈ gs, t.fld HRN_GROUP_STATE.STATE g = Group.QUIESCING) ∧
        (s.synthsLocked v.2.2 gs = false → Completes .verificationDone s fun t => at_ 1 t ∧
          t.fld HRN_STATUS.STATE 0 = 3 ∧ ∀ g ∈ gs, t.fld HRN_GROUP_STATE.STATE g = Group.PENDING)) ∧
      (v.1 = Load.OK → l.cmd ∉ [4, 5, 6] → s.fld PWR_STATE.STATE 0 = 1 → Completes .verificationDone s fun t => done Load.OK t ∧
        t.cfg = v.2.2)) ∧
    (l.stage = 6 → s.pwr.deferred = none → Completes .flashWriteDone s fun t => done Load.OK t ∧ t.cfg = s.cfg ∧
      (∀ k, k < l.image.length → t.flashByte (harnessSlot (l.cmd - 5) + k) = l.image.getD k 0) ∧
      (∀ a, inRange (harnessSlot (l.cmd - 5)) l.image.length a = false → t.flashByte a = s.flashByte a) ∧
      Keeps ([(.HRN_STATUS, 0), (.HRN_LOAD_OK, 0)] ++ logKeys) s { t with flash := s.flash }) ∧
    (l.stage = 2 → s.drained l = true → Completes .drainEnd s fun t => t.hrn.load = some { l with stage := 3 } ∧ Keeps [] s t) ∧
    (l.stage = 3 → l.cmd ≠ 0 → Completes .quiesce s fun t => at_ 4 t ∧ ∀ g ∈ l.shown, t.fld HRN_GROUP_STATE.STATE g = Group.REBUILDING) ∧
    (s.headless = false → l.stage = 4 ∨ l.stage = 5 →
      (s.synthsLocked l.target l.shown = true →
        (l.stage = 4 → Completes .reopen s fun t => done Load.OK t ∧ away t ∧ t.cfg = l.new ∧ Holds s t) ∧
        (l.stage = 5 → Completes .reopen s fun t => done Load.PLL_TIMEOUT t ∧ away t ∧ t.cfg = s.cfg ∧ Holds s t)) ∧
      (s.synthsLocked l.target l.shown = false → s.clocksPresent = true →
        (l.stage = 4 → Completes .rebuildPllTimeout s fun t => at_ 5 t) ∧
        (l.stage = 5 → Completes .rebuildPllTimeout s fun t => done Load.PLL_TIMEOUT t ∧ away t ∧ t.cfg = s.cfg ∧
          Alerted Alert.IMAGE t ∧ Holds s t)))

/-- NONCE makes a nonce valid for both vault and debug unit and empties what was streamed. ENROL is BUSY while a fuse is blown; else
it consumes the nonce and answers what its check says, or starts the fuse of the lowest free slot. REVOKE, for ADMIN, answers KEY
or REFUSED or starts the revocation fuse. A fuse that is done shows in its slot, with result OK and a record.
(11_identity_and_security.md: Key vault, 11_identity_and_security.md: Registers) -/
def Obligations.OwnerKeys : Prop :=
  ∀ s : State,
    let frame := fun (t : State) => Keeps [(.SEC_KEY_STATUS, 0), (.SEC_DBG_STATUS, 0)] s t
    let answered := fun (r : Nat) (t : State) => t.fld SEC_KEY_STATUS.RESULT 0 = r ∧ t.sec = s.sec
    (∀ p, Accepts s p .SEC_KEY_CTRL 0 →
      (Completes (.secNonce p) s fun t => t.flag SEC_KEY_STATUS.NONCE_VALID 0 = true ∧ t.flag SEC_DBG_STATUS.NONCE_VALID 0 = true ∧
        t.fld SEC_KEY_STATUS.RESULT 0 = Sec.OK ∧ t.sec.keyData = [] ∧ t.sec.dbgData = [] ∧ t.sec.nonceAt = s.cycle ∧
        Keeps [(.SEC_NONCE, 0), (.SEC_KEY_STATUS, 0), (.SEC_DBG_STATUS, 0)] s t) ∧
      (s.sec.fuse ≠ none → Completes (.enrol p) s fun t => answered Sec.BUSY t ∧ Keeps [(.SEC_KEY_STATUS, 0)] s t) ∧
      (s.sec.fuse = none →
        let d := s.sec.keyData
        let r := s.enrolCheck d
        Completes (.enrol p) s fun t => t.flag SEC_KEY_STATUS.NONCE_VALID 0 = false ∧ t.flag SEC_DBG_STATUS.NONCE_VALID 0 = false ∧ frame t ∧
          (r ≠ Sec.OK → answered r t) ∧
          (r = Sec.OK → ∃ k, s.freeSlot = some k ∧ t.sec.fuse = some (k, fieldAt d 56 4, byteAt d 60, slice d 64 67))) ∧
      (∀ k : Fin 16,
        (s.role p < Role.ADMIN → Completes (.revoke p k) s fun t => Counts MGT_ACCESS_VIOL.COUNT 0 s t ∧ t.sec = s.sec ∧
          Keeps ((.MGT_ACCESS_VIOL, 0) :: logKeys) s t) ∧
        (Role.ADMIN ≤ s.role p →
          (s.sec.fuse ≠ none → Completes (.revoke p k) s fun t => answered Sec.BUSY t ∧ Keeps [(.SEC_KEY_STATUS, 0)] s t) ∧
          (s.sec.fuse = none →
            let bad := if k.val = 15 then s.flag SEC_STATUS.F0_REVOKED 0 else
              decide (12 ≤ k.val) || !s.flag SEC_KEY_SLOT.ENROLLED k || s.flag SEC_KEY_SLOT.REVOKED k
            let kept := if k.val = 15 then decide (s.sec.fwKey = Key.F0) else s.lastAdmin k || decide (s.pathKey p = some k.val)
            (bad = true → Completes (.revoke p k) s fun t => answered Sec.KEY t ∧ Keeps [(.SEC_KEY_STATUS, 0)] s t) ∧
            (bad = false → kept = true → Completes (.revoke p k) s fun t => answered Sec.REFUSED t ∧ Keeps [(.SEC_KEY_STATUS, 0)] s t) ∧
            (bad = false → kept = false → Completes (.revoke p k) s fun t => Keeps [] s t ∧
              t.sec.fuse = some (if k.val = 15 then (15, Key.F0, 0, []) else (12, k.val, 0, []))))))) ∧
    ∀ (k id kind : Nat) (pub : List Byte), s.sec.fuse = some (k, id, kind, pub) → s.pwr.deferred = none →
      Completes .fuseDone s fun t => t.sec.fuse = none ∧ t.fld SEC_KEY_STATUS.RESULT 0 = Sec.OK ∧
        t.flag SEC_STATUS.UNOWNED 0 = !t.adminEnrolled ∧ KeepsKinds [.SEC_KEY_SLOT, .SEC_STATUS, .SEC_KEY_STATUS, .SEC_MEAS, .EVL_DROPPED] s t ∧
        (k < 12 → t.flag SEC_KEY_SLOT.ENROLLED k = true ∧ t.fld SEC_KEY_SLOT.KEY_ID k = id % 2 ^ 32 ∧ t.slotKey k = pub ∧
          t.fld SEC_KEY_SLOT.KIND k = kind % 4 ∧ (Room s → Logged Evt.SEC_EVENT Subj.DEVICE 0 [SecEvt.ENROL, id, k] s t)) ∧
        (k = 12 → t.flag SEC_KEY_SLOT.REVOKED id = true ∧ t.sec.keys = s.sec.keys) ∧
        (k = 15 → t.flag SEC_STATUS.F0_REVOKED 0 = true ∧ t.sec.keys = s.sec.keys)

/-- A floor rises to a target of 1 to 64 that what runs allows, with a record, and never falls; another raise is refused, another
target rejected. SUBMIT consumes the nonce and answers its check; a token that passes erases the session keys and AK, the device's
secrets too where scan is granted, then sets DEBUG, class SECURITY and the permissions. The JTAG instructions act on the port
alone; a private one is refused only with its permission granted. (11_identity_and_security.md: Anti-rollback,
11_identity_and_security.md: Debug and scan) -/
def Obligations.FloorsAndTokens : Prop :=
  ∀ s : State,
    (∀ (p : Path) (v : BitVec 7), Accepts s p .SEC_ROLLBACK_CTRL 0 →
      (1 ≤ v.toNat → v.toNat ≤ 64 →
        ∀ c ∈ [(Instr.raiseFw p v, SEC_STATUS.FW_FLOOR, decide (v.toNat ≤ s.fwSvn) && !s.flag SEC_STATUS.TRIAL 0, v.toNat),
          (.raiseHrn p v, SEC_STATUS.HRN_FLOOR, !s.hrn.header.isEmpty && decide (v.toNat ≤ imgSvn s.hrn.header), 256 + v.toNat)],
          (c.2.2.1 = true → s.fld c.2.1 0 ≤ v.toNat → Completes c.1 s fun t => t.fld c.2.1 0 = v.toNat ∧ t.fld SEC_KEY_STATUS.RESULT 0 = Sec.OK ∧
            (Room s → Logged Evt.SEC_EVENT Subj.DEVICE 0 [SecEvt.FLOOR, 0, c.2.2.2] s t) ∧
            KeepsKinds [.SEC_STATUS, .SEC_KEY_STATUS, .SEC_MEAS, .EVL_DROPPED] s t) ∧
          (c.2.2.1 = false ∨ v.toNat < s.fld c.2.1 0 → Completes c.1 s fun t => t.fld SEC_KEY_STATUS.RESULT 0 = Sec.REFUSED ∧
            Keeps [(.SEC_KEY_STATUS, 0)] s t)) ∧
      (v.toNat = 0 ∨ 64 < v.toNat → ∀ c ∈ [Instr.raiseFw p v, .raiseHrn p v], Completes c s fun t => Keeps logKeys s t)) ∧
    (∀ p, Accepts s p .SEC_DBG_CTRL 0 →
      (Completes (.dbgNonce p) s fun t => t.flag SEC_DBG_STATUS.NONCE_VALID 0 = true ∧ t.flag SEC_KEY_STATUS.NONCE_VALID 0 = true ∧
        t.fld SEC_DBG_STATUS.RESULT 0 = Sec.OK ∧ t.sec.dbgData = [] ∧
        Keeps [(.SEC_NONCE, 0), (.SEC_KEY_STATUS, 0), (.SEC_DBG_STATUS, 0)] s t) ∧
      let d := s.sec.dbgData
      let r := s.tokenCheck d
      let perms := fieldAt d 6 2
      (r ≠ Sec.OK → Completes (.submit p) s fun t => t.fld SEC_DBG_STATUS.RESULT 0 = r ∧ t.flag SEC_DBG_STATUS.NONCE_VALID 0 = false ∧
        t.sec = s.sec ∧ Keeps [(.SEC_KEY_STATUS, 0), (.SEC_DBG_STATUS, 0)] s t) ∧
      (r = Sec.OK → Completes (.submit p) s fun t => t.fld SEC_DBG_STATUS.RESULT 0 = Sec.OK ∧ t.flag SEC_DBG_STATUS.NONCE_VALID 0 = false ∧
        t.fld SEC_DBG_STATUS.PERMS 0 = (s.fld SEC_DBG_STATUS.PERMS 0 ||| perms) % 8 ∧ t.flag GLB_STATE.DEBUG 0 = true ∧
        Alerted Alert.SECURITY t ∧ t.sec.ak = false ∧ (∀ k : Fin 4, t.flag MGT_SESSION.OPEN k = false) ∧
        (2 ≤ perms → t.sec.seed = false ∧ t.sec.dev = false ∧ t.sec.pwd = none ∧ t.fld SEC_NONCE.NONCE 0 = 0 ∧ t.fld SEC_STATUS.ID_STATE 0 = 3) ∧
        t.sec.keys = s.sec.keys ∧ ∀ a, t.flashByte a = s.flashByte a)) ∧
    (s.pwr.sleep = 0 →
      (Completes .bypass s fun t => t = { s with jtag := { s.jtag with ir := .bypass, captured := 0 } }) ∧
      (Completes .idcode s fun t => t = { s with jtag := { s.jtag with ir := .idcode, captured := 0x164165AB } }) ∧
      (Completes .extest s fun t => t = { s with jtag := { s.jtag with ir := .extest } }) ∧
      (∀ cells, Completes (.samplePreload cells) s fun t => t.jtag.ir = .sample ∧ t.jtag.cells = cells ∧ Keeps [] s t)) ∧
    ∀ k : Fin 3, exec (.privateInstruction k) s =
      if s.pwr.sleep = 0 ∧ s.flag SEC_STATUS.JTAG_LOCK 0 = false ∧ (s.fld SEC_DBG_STATUS.PERMS 0).testBit k = true then .refused .jtagDebugUnit
      else .next s

/-- With the controllers away OPEN, FINISH, CONFIRM and restarts answer BUSY; OPEN and CONFIRM are refused in and out of trial; OPEN
erases the slot not active; data is appended where the buffer has space and no update is rejected; FINISH answers its check and on
OK puts both boot records on trial; CONFIRM ends the trial; ACTIVATE and RESTART leave the datapath headless.
(11_identity_and_security.md: Firmware update and controller restart, 11_identity_and_security.md: Boot chain,
11_identity_and_security.md: Coinciding events) -/
def Obligations.FirmwareUpdates : Prop :=
  ∀ (s : State) (p : Path),
    let active := s.bootRec.active
    (Accepts s p .SEC_FW_CTRL 0 →
      (s.inRecovery = true → Completes (.fwOpen p) s fun t => t.sec.update = some { slot := 2 } ∧ t.fld SEC_FW_STATUS.RESULT 0 = Sec.OK ∧
        t.fld SEC_FW_STATUS.COUNT 0 = 0 ∧ t.fld SEC_FW_SPACE.SPACE 0 = 4096 ∧ Keeps [(.SEC_FW_STATUS, 0), (.SEC_FW_SPACE, 0)] s t) ∧
      (s.inRecovery = false → s.fwAway = true → ∀ c ∈ [Instr.fwOpen p, .fwFinish p, .confirm p, .activate p, .restart p false, .restart p true],
        Completes c s fun t => t.fld SEC_FW_STATUS.RESULT 0 = Sec.BUSY ∧ t.sec = s.sec ∧ Keeps [(.SEC_FW_STATUS, 0)] s t) ∧
      (s.inRecovery = false → s.fwAway = false →
        (s.flag SEC_STATUS.TRIAL 0 = true → Completes (.fwOpen p) s fun t => t.fld SEC_FW_STATUS.RESULT 0 = Sec.REFUSED ∧
          Keeps [(.SEC_FW_STATUS, 0)] s t) ∧
        (s.flag SEC_STATUS.TRIAL 0 = false → Completes (.fwOpen p) s fun t => t.sec.update = some { slot := 1 - active } ∧
          t.fld SEC_FW_STATUS.RESULT 0 = Sec.OK ∧ t.fld SEC_FW_STATUS.STATE 0 = 1 ∧ t.fld SEC_FW_STATUS.COUNT 0 = 0 ∧
          (∀ a, fwSlot (1 - active) ≤ a → a < fwSlotEnd (1 - active) → t.flashByte a = 0xFF) ∧
          (∀ a, a < fwSlot (1 - active) ∨ fwSlotEnd (1 - active) ≤ a → t.flashByte a = s.flashByte a)) ∧
        (s.sec.update = none → Completes (.fwFinish p) s fun t => t.fld SEC_FW_STATUS.RESULT 0 = Sec.REFUSED ∧ Keeps [(.SEC_FW_STATUS, 0)] s t) ∧
        (∀ u : FwUpX, s.sec.update = some u → s.pwr.deferred = none →
          let i := s.fwImage u.slot
          let r := if u.excess || decide (s.fld SEC_FW_STATUS.COUNT 0 ≠ i.length) then Sec.LENGTH else s.fwCheck i
          Completes (.fwFinish p) s fun t => t.fld SEC_FW_STATUS.RESULT 0 = r ∧ t.sec.update = none ∧ t.fld SEC_FW_STATUS.STATE 0 = 0 ∧
            (∀ q j, q ∉ [Reg.SEC_FW_STATUS, .SEC_FW_SPACE] → t.reg q j = s.reg q j) ∧
            (r ≠ Sec.OK → ∀ a, t.flashByte a = s.flashByte a) ∧
            (r = Sec.OK → ∀ a, a < bootRecAt 0 ∨ bootRecAt 1 + 18 ≤ a → t.flashByte a = s.flashByte a)) ∧
        (s.flag SEC_STATUS.TRIAL 0 = false → Completes (.confirm p) s fun t => t.fld SEC_FW_STATUS.RESULT 0 = Sec.REFUSED ∧
          Keeps [(.SEC_FW_STATUS, 0)] s t) ∧
        (s.flag SEC_STATUS.TRIAL 0 = true → Completes (.confirm p) s fun t => t.fld SEC_FW_STATUS.RESULT 0 = Sec.OK ∧
          t.flag SEC_STATUS.TRIAL 0 = false ∧ t.sec.lastTrial = none ∧ KeepsRegs [(.SEC_FW_STATUS, 0), (.SEC_STATUS, 0), (.SEC_MEAS, 4), (.SEC_MEAS, 6)] s t) ∧
        (∀ c ∈ [(Instr.activate p, false), (.restart p false, false), (.restart p true, true)],
          (s.hrn.load ≠ none → Completes c.1 s fun t => t.fld SEC_FW_STATUS.RESULT 0 = Sec.BUSY ∧ Keeps [(.SEC_FW_STATUS, 0)] s t) ∧
          (s.hrn.load = none → Completes c.1 s fun t => t.headless = true ∧ t.sec.recover = c.2 ∧ t.sec.update = none ∧
            t.fld SEC_FW_STATUS.RESULT 0 = Sec.OK ∧ Keeps [(.SEC_FW_STATUS, 0), (.SEC_FW_SPACE, 0), (.GLB_STATE, 0)] s t)))) ∧
    (Accepts s p .SEC_FW_DATA 0 → ∀ (v : Word32) (room : BitVec 13),
      let n := s.fld SEC_FW_STATUS.COUNT 0
      let space := min room.toNat 4096
      (s.sec.update = none → Completes (.fwDataWrite p v room) s fun t => Keeps logKeys s t ∧ t.sec = s.sec ∧
        (Room s → Logged Evt.REG_REJECT Subj.REGISTER (regAddr .SEC_FW_DATA 0 0) [s.pathWord p, v.toNat] s t)) ∧
      ∀ u : FwUpX, s.sec.update = some u →
        (space < 4 ∨ 786832 < n + 4 → Completes (.fwDataWrite p v room) s fun t => t.sec.update = some { u with excess := true } ∧
          Keeps [(.SEC_FW_SPACE, 0)] s t) ∧
        (4 ≤ space → n + 4 ≤ 786832 → Completes (.fwDataWrite p v room) s fun t => t.fld SEC_FW_STATUS.COUNT 0 = n + 4 ∧
          t.fld SEC_FW_SPACE.SPACE 0 = space - 4 ∧ KeepsRegs [(.SEC_FW_STATUS, 0), (.SEC_FW_SPACE, 0)] s t ∧
          (u.slot = 2 → t.sec.update = some { u with bytes := u.bytes ++ leBytes 4 v.toNat } ∧ ∀ a, t.flashByte a = s.flashByte a) ∧
          (u.slot ≠ 2 → (∀ k, k < 4 → t.flashByte (fwSlot u.slot + n + k) = (leBytes 4 v.toNat).getD k 0) ∧
            ∀ a, inRange (fwSlot u.slot + n) 4 a = false → t.flashByte a = s.flashByte a)))

/-- Class bits written 1 clear, but those that the device sets in that cycle; ALERT_N is released when none is left, and an interrupt
of a class that is clear is no longer asked for. At bus free the request of the lowest class not yet made goes out, for a retry
that of the lowest class whose NACK is 100 us old: it is counted; accepted it is done, NACKed it is counted too and waits from
now. -/
def Sys2Proof.Claims.AlertsAndInterrupts : Prop :=
  ∀ s : State,
    (∀ (p : Path) (mask : BitVec 10), Accepts s p .MGT_ALERT_STATUS 0 → Completes (.alertClear p mask) s fun t =>
      (∀ k : Fin 10, (t.fld MGT_ALERT_STATUS.CLASS 0).testBit k = ((s.fld MGT_ALERT_STATUS.CLASS 0).testBit k &&
        !(mask.getLsbD k && !(s.risenOf .MGT_ALERT_STATUS 0).testBit k))) ∧
      t.flag GLB_STATE.ALERT 0 = decide (t.fld MGT_ALERT_STATUS.CLASS 0 ≠ 0) ∧
      (∀ e ∈ t.mgt.ibi, e ∈ s.mgt.ibi ∧ (t.fld MGT_ALERT_STATUS.CLASS 0).testBit e.1 = true) ∧ Keeps alertKeys s t) ∧
    ∀ (acc : Bool) (e : Ibi), s.ibiReady = true →
      ∀ c ∈ [(Instr.busFree acc, s.newIbis), (.ibiRetry acc, s.dueIbis)], firstIbi c.2 = some e → Completes c.1 s fun t =>
        Counts MGT_IBI_SENT.COUNT 0 s t ∧ t.mgt.bus.ibiSent = BitVec.ofNat 8 (e.1 + 1) :: leBytes 3 e.2.1 ∧
        (acc = true → t.mgt.ibi = s.mgt.ibi.erase e ∧ Keeps [(.MGT_IBI_SENT, 0)] s t) ∧
        (acc = false → (e.1, e.2.1, some s.cycle) ∈ t.mgt.ibi ∧ Counts MGT_IBI_NACK.COUNT 0 s t ∧
          Keeps [(.MGT_IBI_SENT, 0), (.MGT_IBI_NACK, 0)] s t)

/-- The password gives the bus OPERATOR, 0 returns it to USER, another value counts a failure and returns it to USER, a lockout
ignores it; the eighth failure within 60 s locks out for 10 s with class SECURITY. A bus that holds OPERATOR sets the password by
its bytes, a path that may write MGT_OP_PWD by that register. DROP returns the bus to USER. NONCE makes a nonce that lives 60 s,
the response is streamed, and VERIFY consumes the nonce, giving ADMIN on OK and counting a failure of key, length or signature;
both answer BUSY while the controllers restart. -/
def Sys2Proof.Claims.Passwords : Prop :=
  ∀ s : State,
    let role := fun (r : Nat) (t : State) => t.fld MGT_BUS_STATUS.ROLE 0 = r
    let recent := (s.mgt.fails.filter fun c => decide (s.cycle < c + cyclesOfUs 60000000)).length
    let failed := fun (t : State) => Counts MGT_PWD_FAIL.COUNT 0 s t ∧
      (recent < 7 → t.mgt.lockout = s.mgt.lockout ∧ t.mgt.fails.length = recent + 1) ∧
      (7 ≤ recent → t.mgt.lockout = true ∧ t.mgt.fails = [] ∧ t.mgt.lockEnd = s.cycle + cyclesOfUs 10000000 ∧
        Alerted Alert.SECURITY t)
    (s.offline = false → ∀ v : Word32,
      (v = 0 → Completes (.passwordEntry v) s fun t => role Role.USER t ∧ Keeps [(.MGT_BUS_STATUS, 0)] s t) ∧
      (v ≠ 0 → s.lockedOut = true → Completes (.passwordEntry v) s fun t => t = s) ∧
      (s.lockedOut = false → s.passwordIs v.toNat = true → Completes (.passwordEntry v) s fun t => role Role.OPERATOR t ∧
        Keeps [(.MGT_BUS_STATUS, 0)] s t) ∧
      (v ≠ 0 → s.lockedOut = false → s.passwordIs v.toNat = false → Completes (.passwordEntry v) s fun t => role Role.USER t ∧ failed t ∧
        Keeps ([(.MGT_BUS_STATUS, 0), (.MGT_PWD_FAIL, 0)] ++ logKeys ++ alertKeys) s t) ∧
      (Role.OPERATOR ≤ s.role .bus → Completes (.passwordSet v) s fun t => t.sec.pwd = some v ∧ t.sec.sealed = v ∧ Keeps [] s t) ∧
      (s.role .bus < Role.OPERATOR → Completes (.passwordSet v) s fun t => t = s)) ∧
    (∀ (p : Path) (v : Word32), Accepts s p .MGT_OP_PWD 0 → Completes (.mgtOpPwd p v) s fun t => t.sec.pwd = some v ∧ t.sec.sealed = v ∧
      Keeps [] s t) ∧
    (s.mgt.lockEnd ≤ s.cycle → Completes .lockoutEnd s fun t => t.mgt.lockout = false ∧ Keeps [] s t) ∧
    (s.cycle < s.mgt.lockEnd → Completes .lockoutEnd s fun t => t = s) ∧
    (∀ p, Accepts s p .MGT_AUTH_CTRL 0 →
      (Completes (.drop p) s fun t => role Role.USER t ∧ Keeps [(.MGT_BUS_STATUS, 0)] s t) ∧
      (s.headless = true → ∀ c ∈ [Instr.nonce p, .authVerify p], Completes c s fun t => t.fld MGT_AUTH_STATUS.RESULT 0 = Sec.BUSY ∧
        Keeps [(.MGT_AUTH_STATUS, 0)] s t) ∧
      (s.headless = false →
        (Completes (.nonce p) s fun t => t.flag MGT_AUTH_STATUS.NONCE_VALID 0 = true ∧ t.fld MGT_AUTH_STATUS.RESULT 0 = Sec.OK ∧
          t.mgt.authData = [] ∧ t.mgt.nonceAt = s.cycle ∧ t.fld MGT_AUTH_STATUS.DATA_LEN 0 = 0 ∧ Keeps [(.MGT_AUTH_STATUS, 0), (.MGT_AUTH_NONCE, 0)] s t) ∧
        Completes (.authVerify p) s fun t => t.fld MGT_AUTH_STATUS.RESULT 0 = s.verifyBus.1 ∧
          t.flag MGT_AUTH_STATUS.NONCE_VALID 0 = false ∧
          (∀ k, s.verifyBus.2 = some k → role Role.ADMIN t ∧ t.mgt.busKey = some k ∧ Keeps [(.MGT_AUTH_STATUS, 0), (.MGT_BUS_STATUS, 0)] s t) ∧
          (s.verifyBus.1 ∈ [Sec.LOCKOUT, Sec.EXPIRED] → Keeps [(.MGT_AUTH_STATUS, 0)] s t) ∧
          (s.verifyBus.1 ∈ [Sec.LENGTH, Sec.KEY, Sec.SIGNATURE] → failed t ∧ t.fld MGT_BUS_STATUS.ROLE 0 = s.fld MGT_BUS_STATUS.ROLE 0))) ∧
    (∀ (p : Path) (v : Word32), Accepts s p .MGT_AUTH_DATA 0 → Completes (.authDataWrite p v) s fun t =>
      t.mgt.authData = (s.mgt.authData ++ leBytes 4 v.toNat).take 140 ∧ t.fld MGT_AUTH_STATUS.DATA_LEN 0 = t.mgt.authData.length ∧
      Keeps [(.MGT_AUTH_STATUS, 0)] s t) ∧
    (s.mgt.nonceAt + cyclesOfUs 60000000 ≤ s.cycle → Completes (.nonceExpiry true) s fun t => t.flag MGT_AUTH_STATUS.NONCE_VALID 0 = false ∧ Keeps [(.MGT_AUTH_STATUS, 0)] s t) ∧
    (s.sec.nonceAt + cyclesOfUs 60000000 ≤ s.cycle → Completes (.nonceExpiry false) s fun t => t.flag SEC_KEY_STATUS.NONCE_VALID 0 = false ∧ t.flag SEC_DBG_STATUS.NONCE_VALID 0 = false ∧
      Keeps [(.SEC_KEY_STATUS, 0), (.SEC_DBG_STATUS, 0)] s t)

/-- Class bits written 1 clear, but those that the device sets in that cycle; ALERT_N is released when none is left, and an interrupt
of a class that is clear is no longer asked for. At bus free the request of the lowest class not yet made goes out, for a retry
that of the lowest class whose NACK is 100 us old: it is counted; accepted it is done, NACKed it is counted too and waits from
now. The password gives the bus OPERATOR, 0 returns it to USER, another value counts a failure and returns it to USER, a lockout
ignores it; the eighth failure within 60 s locks out for 10 s with class SECURITY. A bus that holds OPERATOR sets the password by
its bytes, a path that may write MGT_OP_PWD by that register. DROP returns the bus to USER. NONCE makes a nonce that lives 60 s,
the response is streamed, and VERIFY consumes the nonce, giving ADMIN on OK and counting a failure of key, length or signature;
both answer BUSY while the controllers restart. (10_management.md: Alerts and in-band interrupts, 10_management.md: Roles,
10_management.md: Management registers) -/
def Obligations.AlertsAndPasswords : Prop := Sys2Proof.Claims.AlertsAndInterrupts ∧ Sys2Proof.Claims.Passwords

/-- A word written, in its turn in the core cycle, to a register on a path whose role lies below the one the register asks for changes
no register but the count of such writes, nothing staged and no store; it is counted and, where the recorder's queue has room,
recorded with the path, the role and the value; the access completes. The same holds of a word staged for a wide register and of a
commit. (R10) -/
def Obligations.AccessViolations : Prop :=
  ∀ (s : State) (p : Path) (a x : Word32) (r : Reg) (i w : Nat), regAt a.toNat = some (r, i, w) → s.offline = false → s.role p < s.neededRole r →
    ∀ c ∈ Instr.registerWrite p a x ::
        (if r.words ≤ 1 then [] else if w = 0 then [.wideRegisterCommit p a x] else [.stagedWordWrite p a x]),
      (c = .registerWrite p a x → InTurn s p a x) → Completes c s fun t =>
        Counts MGT_ACCESS_VIOL.COUNT 0 s t ∧
        (Room s → Logged Evt.ACCESS_VIOL Subj.REGISTER (regAddr r i 0) [s.pathWord p, s.role p, x.toNat] s t ∧
          Keeps [(.MGT_ACCESS_VIOL, 0)] s t) ∧
        Keeps ((.MGT_ACCESS_VIOL, 0) :: logKeys) s t ∧ t.staged = s.staged ∧ t.captured = s.captured

/-- A write to a higher word of a register wider than 32 bits is staged: no register and no capture changes, and only that word of the
staging does. A write to the lowest word gives the register one value whole: the word written, the words staged, and for a higher
word not written since the last commit the last committed one; the staging is left empty, and a value taken is the one last
committed. The same holds of a register write in its turn in the core cycle. (R7) -/
def Obligations.WideWrites : Prop :=
  ∀ (s : State) (p : Path) (a x : Word32) (r : Reg) (i w : Nat), regAt a.toNat = some (r, i, w) → 1 < r.words → r.desc.role ≠ .none_ →
    Accepts s p r i →
    (w ≠ 0 → ∀ c ∈ [Instr.stagedWordWrite p a x, .registerWrite p a x], (c = .registerWrite p a x → InTurn s p a x) → Completes c s fun t =>
      (∀ v, wordOf (t.stagedOf (r, i)).1 v = if v = w then x.toNat else wordOf (s.stagedOf (r, i)).1 v) ∧
      (∀ v, (t.stagedOf (r, i)).2.testBit v = (decide (v = w) || (s.stagedOf (r, i)).2.testBit v)) ∧
      (∀ k, k ≠ (r, i) → t.stagedOf k = s.stagedOf k) ∧ t = { s with staged := t.staged }) ∧
    (w = 0 → ∃ (v : RegVal) (u : State), (∀ k < 16, wordOf v k = committedWord s r i x.toNat k) ∧
      u.stagedOf (r, i) = (0, 0) ∧ (∀ k, k ≠ (r, i) → u.stagedOf k = s.stagedOf k) ∧ u = { s with staged := u.staged } ∧
      ∀ c ∈ [Instr.wideRegisterCommit p a x, .registerWrite p a x], (c = .registerWrite p a x → InTurn s p a x) →
        exec c s = .next (if (wrReg p r i v.toNat u).2 = .ok then
          { (wrReg p r i v.toNat u).1 with committed := Tab.insert regLt (r, i) v (wrReg p r i v.toNat u).1.committed }
          else (wrReg p r i v.toNat u).1) ∧
        (r ∈ plainWide → Completes c s fun t => t.lastCommit (r, i) = v ∧
          (∀ k, (t.reg r i).getLsbD k = writtenBit s r i v.toNat k) ∧ Keeps [(r, i)] s t ∧ t.staged = u.staged))

/-- A write accepted by a register without rules of its own sets its RW and RWS fields, clears its W1C bits where it is 1 and keeps
every other bit and every other register. A write to an address without a register is counted. A store takes no write from outside
the firmware: it is counted as an access violation. A device that sleeps or has tripped takes none. A staged word at the lowest
word and a commit at a higher one have no effect. Of two writes to one register in a core cycle the one whose path goes first is
applied first, and once. (00_scope.md: Notation, 10_management.md: Register map, 10_management.md: Sleep) -/
def Obligations.RegisterWrites : Prop :=
  ∀ (s : State) (p : Path) (a x : Word32),
    (s.offline = true → ∀ c ∈ [Instr.registerWrite p a x, .stagedWordWrite p a x, .wideRegisterCommit p a x],
      (c = .registerWrite p a x → InTurn s p a x) → Completes c s fun t => t = s) ∧
    (InTurn s p a x →
      (∀ r i, regAt a.toNat = some (r, i, 0) → r ∈ plainRegs → Accepts s p r i → Completes (.registerWrite p a x) s fun t =>
        (∀ k, (t.reg r i).getLsbD k = writtenBit s r i x.toNat k) ∧ Keeps [(r, i)] s t ∧ t.staged = s.staged) ∧
      (regAt a.toNat = none → (storeWindow a.toNat = none ∨ a.toNat % 4 ≠ 0) → s.offline = false →
        Completes (.registerWrite p a x) s fun t => Counts MGT_BAD_ADDR.COUNT 0 s t ∧ Keeps [(.MGT_BAD_ADDR, 0)] s t) ∧
      (∀ m, storeWindow a.toNat = some m → a.toNat % 4 = 0 → s.role p ≠ Role.FIRMWARE → s.offline = false →
        Completes (.registerWrite p a x) s fun t => Counts MGT_ACCESS_VIOL.COUNT 0 s t ∧ Keeps ((.MGT_ACCESS_VIOL, 0) :: logKeys) s t ∧
          (Room s → Logged Evt.ACCESS_VIOL Subj.REGISTER a.toNat [s.pathWord p, s.role p, x.toNat] s t))) ∧
    (s.early.contains (p, a.toNat, x.toNat) = true → Completes (.registerWrite p a x) s fun t =>
      t = { s with early := s.early.erase (p, a.toNat, x.toNat) }) ∧
    (∀ q b y, s.early.contains (p, a.toNat, x.toNat) = false → s.writesBefore p a.toNat = [(q, b, y)] → Completes (.registerWrite p a x) s fun t =>
      let u := (s.writeAt q b y).1
      t = (State.writeAt { u with early := u.early ++ [(q, b, y)] } p a.toNat x.toNat).1) ∧
    (∀ w, wideWord a.toNat = some w → (w = 0 → Completes (.stagedWordWrite p a x) s fun t => t = s) ∧
      (w ≠ 0 → Completes (.wideRegisterCommit p a x) s fun t => t = s)) ∧
    (wideWord a.toNat = none → ∀ c ∈ [Instr.stagedWordWrite p a x, .wideRegisterCommit p a x], Completes c s fun t => t = s)

/-- A read of the lowest word of a register returns what the register holds at this instant, and of a wide register captures every
word; a read of a higher word returns that capture and changes nothing. An address without a register reads 0 and is counted; the
event store read below OPERATOR gives 0 and is counted; a device that sleeps or has tripped gives 0. A read of PWR_SUPPLY starts
its list of trips again. (00_scope.md: Notation, 10_management.md: Register map, 15_event_log_and_counters.md: Reading a snapshot) -/
def Obligations.RegisterReads : Prop :=
  ∀ (s : State) (p : Path) (a : Word32),
    let gives := fun (x : Nat) (ks : List RegKey) (t : State) => t.mgt = { s.mgt with read := x } ∧ Keeps ks s t
    (s.offline = true → Completes (.wideRegisterRead p a) s fun t => gives 0 [] t ∧ t.captured = s.captured) ∧
    (s.offline = false →
      (storeWindow a.toNat = none → regAt a.toNat = none → Completes (.wideRegisterRead p a) s fun t =>
        gives 0 [(.MGT_BAD_ADDR, 0)] t ∧ Counts MGT_BAD_ADDR.COUNT 0 s t) ∧
      (storeWindow a.toNat = some 19 → a.toNat % 4 = 0 → s.role p < Role.OPERATOR → Completes (.wideRegisterRead p a) s fun t =>
        gives 0 [(.EVL_READ_DENIED, 0)] t ∧ Counts EVL_READ_DENIED.COUNT 0 s t) ∧
      ∀ r i w, storeWindow a.toNat = none → regAt a.toNat = some (r, i, w) →
        (w ≠ 0 ∨ capturedElsewhere r i = true → Completes (.wideRegisterRead p a) s fun t =>
          gives (wordOf (s.captureOf (r, i)) w) [] t ∧ t = { s with mgt := t.mgt }) ∧
        (w = 0 → capturedElsewhere r i = false → Completes (.wideRegisterRead p a) s fun t =>
          gives (wordOf (s.regNow (s.role p) r i) 0) (if r = .PWR_SUPPLY then [(.PWR_SUPPLY, 0)] else []) t ∧
          (r = .PWR_SUPPLY → t.fld PWR_SUPPLY.SINCE 0 = 0) ∧
          (1 < r.words → t.captureOf (r, i) = s.regNow (s.role p) r i)))

/-- A target that sleeps NACKs every command. SETDASA and ENTDAA give a target without a dynamic address the one they carry and make
it an I3C target; with one they are NACKed, and without one every other command of I3C is. SETNEWDA changes the address; RSTDAA
drops it, the role and the interrupts waiting; ENEC and DISEC take ENINT alone; lengths below 16 are NACKed; the codes answer as
Table 10-1 gives them, and GETSTATUS clears the protocol error. A code the device does not support is NACKed. (10_management.md:
Two-wire target, 10_management.md: Alerts and in-band interrupts, 10_management.md: Sleep) -/
def Obligations.BusCommands : Prop :=
  ∀ (s : State) (d : BitVec 7) (e : Byte) (len : BitVec 16),
    let answers := fun (ack : Bool) (bs : List Byte) (t : State) => t.mgt.bus.ack = ack ∧ t.mgt.bus.reply = bs
    let nacks := fun (t : State) => answers false [] t ∧ t = { s with mgt := t.mgt } ∧ t.mgt = { s.mgt with bus := t.mgt.bus } ∧
      t.mgt.bus = { s.mgt.bus with ack := false, reply := [] }
    let codes := [Instr.setnewda d, .rstdaa, .enec e, .disec e, .getpid, .getbcr, .getdcr, .getmwl, .setmwl len, .getmrl, .setmrl len, .getmxds,
      .getstatus]
    (s.offline = true → ∀ c ∈ codes ++ [.setdasa d, .entdaa d, .unsupportedCcc], Completes c s nacks) ∧
    (s.offline = false →
      Completes .unsupportedCcc s nacks ∧
      (s.flag MGT_BUS_STATUS.I3C 0 = false → (∀ c ∈ codes, Completes c s nacks) ∧
        ∀ c ∈ [Instr.setdasa d, .entdaa d], Completes c s fun t => answers true [] t ∧ t.flag MGT_BUS_STATUS.I3C 0 = true ∧
          t.fld MGT_BUS_STATUS.DYN_ADDR 0 = d.toNat ∧ (∀ p, t.role p = s.role p) ∧ Keeps [(.MGT_BUS_STATUS, 0)] s t) ∧
      (s.flag MGT_BUS_STATUS.I3C 0 = true →
        (∀ c ∈ [Instr.setdasa d, .entdaa d], Completes c s nacks) ∧
        (Completes (.setnewda d) s fun t => answers true [] t ∧ t.fld MGT_BUS_STATUS.DYN_ADDR 0 = d.toNat ∧
          t.flag MGT_BUS_STATUS.I3C 0 = true ∧ Keeps [(.MGT_BUS_STATUS, 0)] s t) ∧
        (Completes .rstdaa s fun t => answers true [] t ∧ t.flag MGT_BUS_STATUS.I3C 0 = false ∧ t.fld MGT_BUS_STATUS.DYN_ADDR 0 = 0 ∧
          t.flag MGT_BUS_STATUS.ENINT 0 = false ∧ t.role .bus = Role.USER ∧ t.mgt.ibi = [] ∧ Keeps [(.MGT_BUS_STATUS, 0)] s t) ∧
        (∀ c ∈ [(Instr.enec e, true), (.disec e, false)],
          (e = 1 → Completes c.1 s fun t => answers true [] t ∧ t.flag MGT_BUS_STATUS.ENINT 0 = c.2 ∧ Keeps [(.MGT_BUS_STATUS, 0)] s t) ∧
          (e = 0 → Completes c.1 s fun t => answers true [] t ∧ Keeps [] s t) ∧ (1 < e.toNat → Completes c.1 s nacks)) ∧
        (Completes .getpid s fun t => Keeps [] s t ∧ ∃ pid : BitVec 48, t.mgt.bus.ack = true ∧ beValue t.mgt.bus.reply = pid.toNat ∧
          t.mgt.bus.reply.length = 6 ∧ pid.extractLsb' 33 15 = 0x1A5B ∧ pid.getLsbD 32 = false ∧ pid.extractLsb' 16 16 = 0x6416 ∧
          (pid.extractLsb' 12 4).toNat = (s.fld MGT_BUS_STATUS.STATIC_ADDR 0 - 0x50) % 16 ∧ pid.extractLsb' 0 12 = 0x0A1) ∧
        (∀ c ∈ [(Instr.getbcr, ([0x06] : List Byte)), (.getdcr, [0x00]), (.getmxds, [0x00, 0x20]), (.getmwl, beBytes 2 s.mgt.bus.mwl),
            (.getmrl, beBytes 2 s.mgt.bus.mrl ++ [4])],
          Completes c.1 s fun t => answers true c.2 t ∧ Keeps [] s t ∧ t.mgt = { s.mgt with bus := t.mgt.bus }) ∧
        (16 ≤ len.toNat →
          (Completes (.setmwl len) s fun t => answers true [] t ∧ t.mgt.bus.mwl = len.toNat ∧ t.mgt.bus.mrl = s.mgt.bus.mrl ∧ Keeps [] s t) ∧
          Completes (.setmrl len) s fun t => answers true [] t ∧ t.mgt.bus.mrl = len.toNat ∧ t.mgt.bus.mwl = s.mgt.bus.mwl ∧ Keeps [] s t) ∧
        (len.toNat < 16 → ∀ c ∈ [Instr.setmwl len, .setmrl len], Completes c s nacks) ∧
        Completes .getstatus s fun t => t.mgt.bus.ack = true ∧ t.mgt.bus.protoErr = false ∧ Keeps [] s t ∧
          t.mgt.bus.reply = beBytes 2 ((if s.mgt.bus.protoErr then 32 else 0) +
            min 15 ((List.range 10).countP fun i => (s.fld MGT_ALERT_STATUS.CLASS 0).testBit i))))

/-- A private write sets the offset; bytes 126 and 127 take any value; a byte of an unsupported page is counted and bytes staged in
the window without byte +3 are discarded and counted at STOP. A read of latched flags returns the bytes asked for, a byte of flags
clears as it is read, a byte of the window comes from its mirror or from the capture of the word, and the class bits it covers
clear. WIN_ADDR takes a multiple of 4 and starts a fetch; another value sets REJ. A word committed through the window is one write
on the bus path, its outcome in WIN_STATUS. Refreshes copy the whole window; the end of a fetch makes it ready. The monitors show
supply and temperature, flags that set are latched and set class CMIS unless a mask covers them, and an application is selected if
the image advertises it. (10_management.md: Two-wire target, 10_management.md: Vendor window, 10_management.md: CMIS view,
10_management.md: Sleep) -/
def Obligations.BusBytesAndWindow : Prop :=
  ∀ s : State,
    let answers := fun (ack : Bool) (bs : List Byte) (t : State) => t.mgt.bus.ack = ack ∧ t.mgt.bus.reply = bs
    let classes := fun (m : BitVec 10) (t : State) =>
      (∀ k : Fin 10, (t.fld MGT_ALERT_STATUS.CLASS 0).testBit k = ((s.fld MGT_ALERT_STATUS.CLASS 0).testBit k &&
        !(m.getLsbD k && !(s.risenOf .MGT_ALERT_STATUS 0).testBit k))) ∧
      t.flag GLB_STATE.ALERT 0 = decide (t.fld MGT_ALERT_STATUS.CLASS 0 ≠ 0)
    let word := fun (j : Nat) (x : Word32) (t : State) => ∀ r i, regAt (s.mgt.win.wordAddr j) = some (r, i, 0) → r ∈ plainRegs →
      (Accepts s .bus r i → (∀ k, (t.reg r i).getLsbD k = writtenBit s r i x.toNat k) ∧ Keeps [(r, i)] s t ∧
        t.mgt.win.rej = false ∧ t.mgt.win.denied = false ∧ t.mgt.win.busy = false) ∧
      (s.role .bus < s.neededRole r → Counts MGT_ACCESS_VIOL.COUNT 0 s t ∧ Keeps ((.MGT_ACCESS_VIOL, 0) :: logKeys) s t ∧
        t.mgt.win.rej = false ∧ t.mgt.win.denied = true ∧ t.mgt.win.busy = false)
    let copied := fun (t : State) => t.mgt.win.mirror = s.windowWords.1 ∧ t.mgt.win.mirror.length = 480 ∧ Keeps [] s t
    (s.offline = true → ∀ (o : Byte) (bs : List Byte) (err : Bool) (n : Fin 257) (m : BitVec 10) (v : Word32) (j : Fin 480),
      ∀ c ∈ [Instr.twoWireWrite o bs err, .latchedFlagRead n m, .winAddrCommit v, .windowWordCommit j v, .winRefresh],
        Completes c s fun t => answers false [] t ∧ Keeps [] s t) ∧
    (s.offline = false →
      (∀ (o : Byte) (err : Bool), Completes (.twoWireWrite o [] err) s fun t => answers true [] t ∧ t.mgt.bus.offset = o.toNat ∧
        t.mgt.bus.protoErr = (s.mgt.bus.protoErr || err) ∧ t.mgt.win.staged = [] ∧
        Counts MGT_BAD_ADDR.COUNT 0 s t s.mgt.win.staged.length ∧ Keeps [(.MGT_BAD_ADDR, 0)] s t) ∧
      (∀ (o b : Byte) (err : Bool), s.mgt.win.staged = [] →
        (o ∈ [126, 127] → Completes (.twoWireWrite o [b] err) s fun t => t.cmisHeld o.toNat = b ∧ t.mgt.bus.offset = nextOffset o.toNat ∧
          Keeps [] s t) ∧
        (128 ≤ o.toNat → pageOk s.cmisPage s.cmisBank = false → Completes (.twoWireWrite o [b] err) s fun t =>
          Counts MGT_BAD_ADDR.COUNT 0 s t ∧ Keeps [(.MGT_BAD_ADDR, 0)] s t ∧ t.mgt.cmis = s.mgt.cmis) ∧
        (128 ≤ o.toNat → o.toNat % 4 ≠ 3 → 0xB1 ≤ s.cmisPage → s.cmisPage ≤ 0xBF → Completes (.twoWireWrite o [b] err) s fun t =>
          Counts MGT_BAD_ADDR.COUNT 0 s t ∧ Keeps [(.MGT_BAD_ADDR, 0)] s t ∧ t.mgt.win.staged = [])) ∧
      (∀ (q : Fin 15) (k : Fin 32) (x : Word32), s.mgt.win.staged = [] → s.cmisPage = 0xB1 + q →
        Completes (.twoWireWrite (BitVec.ofNat 8 (128 + 4 * k)) (leBytes 4 x.toNat) false) s fun t => word (32 * q + k) x t) ∧
      (∀ (n : Fin 257) (m : BitVec 10), Completes (.latchedFlagRead n m) s fun t => t.mgt.bus.ack = true ∧ t.mgt.bus.reply.length = n ∧
        classes m t ∧ Keeps ((.MGT_BAD_ADDR, 0) :: alertKeys) s t) ∧
      (∀ m : BitVec 10, Completes (.latchedFlagRead 1 m) s fun t => t.mgt.bus.offset = nextOffset s.mgt.bus.offset ∧
        (s.mgt.bus.offset < 128 → t.mgt.bus.reply = [s.lowerByte s.mgt.bus.offset] ∧ Keeps alertKeys s t) ∧
        (8 ≤ s.mgt.bus.offset → s.mgt.bus.offset ≤ 13 → t.cmisHeld s.mgt.bus.offset = 0) ∧
        (128 ≤ s.mgt.bus.offset → pageOk s.cmisPage s.cmisBank = true → s.cmisPage < 0xB1 →
          t.mgt.bus.reply = [s.upperByte s.cmisPage s.cmisBank s.mgt.bus.offset] ∧ Keeps alertKeys s t ∧
          (flagByte s.cmisPage s.mgt.bus.offset = true → t.cmisHeld (cmisKey s.cmisPage s.cmisBank s.mgt.bus.offset) = 0)) ∧
        (128 ≤ s.mgt.bus.offset → pageOk s.cmisPage s.cmisBank = true → 0xB1 ≤ s.cmisPage →
          let k := 128 * (s.cmisPage - 0xB1) + (s.mgt.bus.offset - 128)
          let held := s.mgt.win.mirror.getD (k / 4) 0
          let w := if k % 4 = 0 then held else Tab.get (fun _ => held) s.mgt.win.caps (k / 4)
          t.mgt.bus.reply = [BitVec.ofNat 8 (w / 256 ^ (k % 4))] ∧ Keeps alertKeys s t) ∧
        (128 ≤ s.mgt.bus.offset → pageOk s.cmisPage s.cmisBank = false → t.mgt.bus.reply = [0] ∧ Counts MGT_BAD_ADDR.COUNT 0 s t)) ∧
      (∀ v : Word32, Completes (.winAddrCommit v) s fun t => answers true [] t ∧ t.mgt.win.staged = [] ∧ t.mgt.win.mirror = s.mgt.win.mirror ∧
        Counts MGT_BAD_ADDR.COUNT 0 s t s.mgt.win.staged.length ∧ Keeps [(.MGT_BAD_ADDR, 0)] s t ∧
        (v.toNat % 4 = 0 → t.mgt.win.base = v.toNat ∧ t.mgt.win.ready = false ∧ t.mgt.win.rej = s.mgt.win.rej) ∧
        (v.toNat % 4 ≠ 0 → t.mgt.win.base = s.mgt.win.base ∧ t.mgt.win.ready = s.mgt.win.ready ∧ t.mgt.win.rej = true)) ∧
      (∀ (j : Fin 480) (x : Word32), Completes (.windowWordCommit j x) s fun t => word j x t) ∧
      (s.mgt.win.ready = true → Completes .winRefresh s (fun t => copied t ∧ answers true [] t) ∧ Completes .windowRefresh s copied ∧
        Completes .windowFetchDone s fun t => t = s) ∧
      (s.mgt.win.ready = false → Completes .winRefresh s (fun t => t.mgt.win = s.mgt.win ∧ Keeps [] s t) ∧
        Completes .windowRefresh s (fun t => t = s) ∧ Completes .windowFetchDone s fun t => copied t ∧ t.mgt.win.ready = true) ∧
      (∀ fs : List CmisFlag,
        (s.headless = true → Completes (.cmisMonitorRefresh fs) s fun t => t = s) ∧
        (s.headless = false → Completes (.cmisMonitorRefresh fs) s fun t =>
          let new := fun (f : CmisFlag) => flagAt f && decide (f.bits &&& ~~~(s.cmisHeld (flagKeys f.bank f.off.toNat).2) ≠ 0)
          256 * (t.cmisHeld 16).toNat + (t.cmisHeld 17).toNat = (if s.partFailed 11 then 0 else s.monValue (s.fld HKA_MON_VCC.CH 0)) % 65536 ∧
          BitVec.ofNat 16 (256 * (t.cmisHeld 14).toNat + (t.cmisHeld 15).toNat) =
            BitVec.ofInt 16 ((BitVec.ofNat 12 (s.fld THM_SENSOR.TEMP (s.fld THM_STATUS.HOT 0))).toInt * 32) ∧
          (∀ f ∈ fs, flagAt f = true → t.cmisHeld (flagKeys f.bank f.off.toNat).1 &&& f.bits = f.bits) ∧
          (fs.any new = true → Alerted Alert.CMIS t ∧ Keeps alertKeys s t) ∧ (fs.any new = false → Keeps [] s t))) ∧
      ∀ (h : HLane) (app : Fin 16),
        let active := cmisKey 0x11 (h / 8) (206 + h % 8)
        (s.headless = true → Completes (.applicationSelect h app) s fun t => t.mgt.cmis = s.mgt.cmis ∧ Keeps [] s t ∧
          t.mgt.cmisLater = s.mgt.cmisLater ++ [(cmisKey 0x10 (h / 8) (145 + h % 8), BitVec.ofNat 8 (16 * app)),
            (cmisKey 0x10 (h / 8) 143, BitVec.ofNat 8 (2 ^ (h.val % 8)))]) ∧
        (s.headless = false → s.advertised h app = true → Completes (.applicationSelect h app) s fun t => Keeps [] s t ∧
          t.cmisHeld active = BitVec.ofNat 8 (16 * app) ∧ t.cmisNibble 0x11 (h / 8) 202 (h % 8) = 1) ∧
        (s.headless = false → s.advertised h app = false → Completes (.applicationSelect h app) s fun t => Keeps [] s t ∧
          t.cmisHeld active = s.cmisHeld active ∧ t.cmisNibble 0x11 (h / 8) 202 (h % 8) = 3))

/-- A request outside a session is counted and answered on its transport. READ and READ_BLOCK answer what reads on the transport's
path give, WRITE and WRITE_BLOCK what writes do; a body of the wrong length gets BAD_LEN. VERSION, CAPABILITIES, ALGORITHMS and
DIGESTS are answered in their order of negotiation and move it on; certificates, challenges and measurements are answered once the
algorithms stand, any other code with an error. KEY_EXCHANGE opens a free slot as USER under a number not in use; without AK it is
DENIED, without a slot BUSY. IMAGE_CHUNK is DENIED. (10_management.md: Causeway, 10_management.md: Register map,
11_identity_and_security.md: Attestation) -/
def Obligations.CausewayRequests : Prop :=
  ∀ (s : State) (via : Via) (msg m : List Byte), Arrives s via msg m → cwTunnel m = false → cwSession m = 0 → cwAuth m = false →
    let u := s.count MGT_CW_RX.COUNT 0
    let p := viaPath via
    let b := cwBody m
    let a := fieldAt b 0 4
    let n := fieldAt b 4 2
    let code := fun (k : Nat) => cwType m = Cw.ATTEST ∧ 4 ≤ b.length ∧ spdmCode b = k ∧ byteAt b 0 = 0x12
    (cwType m = Cw.READ → b.length = 4 → Completes (.read via msg) s fun t =>
      Replied via m (cwStatus (u.readAt p a).2.1) (b ++ leBytes 4 (u.readAt p a).1) [] (u.readAt p a).2.2 t) ∧
    (cwType m = Cw.READ → b.length ≠ 4 → Completes (.read via msg) s fun t => Served via m CwSt.BAD_LEN [] [] [] s t) ∧
    (cwType m = Cw.WRITE → b.length = 8 → let r := u.writeAt p a (fieldAt b 4 4)
      rebooted u r.1 = false → Completes (.write via msg) s fun t => Replied via m (cwStatus r.2) (b.take 4) [] r.1 t) ∧
    (cwType m = Cw.WRITE → b.length ≠ 8 → Completes (.write via msg) s fun t => Served via m CwSt.BAD_LEN [] [] [] s t) ∧
    (cwType m = Cw.READ_BLOCK → b.length = 8 → 1 ≤ n → n ≤ 254 → fieldAt b 6 2 = 0 → Completes (.readBlock via msg) s fun t =>
      Replied via m (u.readWords p a n).2.1 (b ++ (u.readWords p a n).1) [] (u.readWords p a n).2.2 t) ∧
    (cwType m = Cw.READ_BLOCK → (b.length ≠ 8 ∨ n = 0 ∨ 254 < n) → Completes (.readBlock via msg) s fun t =>
      Served via m CwSt.BAD_LEN [] [] [] s t) ∧
    (cwType m = Cw.WRITE_BLOCK → b.length = 8 + 4 * n → 1 ≤ n → n ≤ 254 → fieldAt b 6 2 = 0 →
      let r := u.writeWords p a ((List.range n).map fun i => fieldAt b (8 + 4 * i) 4)
      rebooted u r.2.2 = false → Completes (.writeBlock via msg) s fun t => Replied via m r.2.1 (b.take 4 ++ leBytes 2 r.1 ++ [0, 0]) [] r.2.2 t) ∧
    (cwType m = Cw.WRITE_BLOCK → (b.length ≠ 8 + 4 * n ∨ n = 0 ∨ 254 < n) → Completes (.writeBlock via msg) s fun t =>
      Served via m CwSt.BAD_LEN [] [] [] s t) ∧
    (cwType m = Cw.IMAGE_CHUNK → 5 ≤ b.length → b.length ≤ 1020 → Completes (.imageChunk via msg) s fun t =>
      Served via m CwSt.DENIED (b.take 4 ++ leBytes 4 (s.fld HRN_LOAD_COUNT.COUNT 0)) [] [] s t) ∧
    (cwType m = Cw.ATTEST → 4 ≤ b.length → spdmCode b = Spdm.GET_VERSION → byteAt b 0 = 0x10 → Completes (.getVersion via msg) s fun t =>
      Served via m CwSt.OK versionResponse [] [] s t ∧ t.sec.spdm = 1) ∧
    (code Spdm.GET_CAPABILITIES → s.sec.spdm = 1 → Completes (.getCapabilities via msg) s fun t =>
      t.sec.spdm = 2 ∧ ∃ x, Served via m CwSt.OK (capabilities x) [] [] s t) ∧
    (code Spdm.NEGOTIATE_ALGORITHMS → s.sec.spdm = 2 → algorithmsFit b = true → Completes (.negotiateAlgorithms via msg) s fun t =>
      t.sec.spdm = 3 ∧ Served via m CwSt.OK algorithms [] [] s t) ∧
    (code Spdm.GET_DIGESTS → s.sec.spdm = 3 → Completes (.getDigests via msg) s fun t => t.sec.spdm = 3 ∧
      Served via m CwSt.OK (ascii [0x12, 0x01, 0, 1] ++ sha512 s.certChain) [] [] s t) ∧
    (∀ c ∈ [(Spdm.GET_CERTIFICATE, Instr.getCertificate via msg, u.certificate b), (Spdm.CHALLENGE, .challenge via msg, u.challenge b),
        (Spdm.GET_MEASUREMENTS, .getMeasurements via msg, u.measurements b)], code c.1 → s.sec.spdm = 3 → Completes c.2.1 s fun t =>
      t.sec.spdm = 3 ∧ Served via m CwSt.OK c.2.2.1 [] [] s t) ∧
    (∀ c ∈ [(Spdm.GET_DIGESTS, Instr.getDigests via msg), (Spdm.GET_CERTIFICATE, .getCertificate via msg), (Spdm.CHALLENGE, .challenge via msg),
        (Spdm.GET_MEASUREMENTS, .getMeasurements via msg)], code c.1 → s.sec.spdm ≠ 3 → Completes c.2 s fun t =>
      t.sec = s.sec ∧ Served via m CwSt.OK (spdmError SpdmErr.UNEXPECTED) [] [] s t) ∧
    (cwType m = Cw.ATTEST → 4 ≤ b.length → spdmCode b ∉ spdmCodes → Completes (.unsupportedRequest via msg) s fun t =>
      t.sec = s.sec ∧ Served via m CwSt.OK (spdmError SpdmErr.UNSUPPORTED) [] [] s t) ∧
    (cwType m = Cw.SESSION → cwOp m = 1 → b.length = 172 → allZero (slice b 1 3) = true → allZero (slice b 169 3) = true →
      (s.sec.ak = false → Completes (.keyExchange via msg) s fun t => Served via m CwSt.DENIED [] [] [] s t) ∧
      (s.sec.ak = true → byteAt b 36 = 4 → Config.onCurve (slice b 36 133) = true →
        ((∀ k : Fin 4, s.flag MGT_SESSION.OPEN k = true) → Completes (.keyExchange via msg) s fun t => Served via m CwSt.BUSY [] [] [] s t) ∧
        ∀ k : Fin 4, s.flag MGT_SESSION.OPEN k = false → (∀ j < k, s.flag MGT_SESSION.OPEN j = true) →
          Completes (.keyExchange via msg) s fun t => ∃ (num : BitVec 16) (body : List Byte), num ≠ 0 ∧ s.sessionAt num.toNat = none ∧
            body.take 4 = [1, 0] ++ leBytes 2 num.toNat ∧ Served via m CwSt.OK body [] [(.MGT_SESSION, k)] s t ∧
            t.flag MGT_SESSION.OPEN k = true ∧ t.fld MGT_SESSION.NUMBER k = num.toNat ∧ t.role (.session k) = Role.USER ∧
            t.fld MGT_SESSION.TRANSPORT k = transportCode (viaTransport via) ∧ (t.sessOf k).done = false ∧ (t.sessOf k).rx = cwTag m))

/-- A request in an open session whose trailer and tag are right is served under the session's role, and the reply is authenticated.
FINISH grants the role it proves and otherwise closes the session; SESSION_CLOSE closes it; SUBSCRIBE sets its classes; READ reads
on its path; IMAGE_CHUNK from ADMIN at the count of bytes staged appends. A number of no open session gets NO_SESSION; a wrong
trailer or tag gets AUTH_FAIL, is counted, and the sixteenth in a row closes the session. 300 s without a message close it. What
is due to a subscriber goes out once the interval has passed, and none through the tunnel. (10_management.md: Sessions and
notifications, 11_identity_and_security.md: Sessions, 09_harness_configuration.md: Load paths) -/
def Obligations.CausewaySessions : Prop :=
  (∀ (s : State) (via : Via) (msg m : List Byte) (k : Fin 4), Arrives s via msg m → cwTunnel m = false → cwSession m ≠ 0 →
    s.sessionAt (cwSession m) = some k.val →
    let u := (s.count MGT_CW_RX.COUNT 0).sessionUsed k via m
    let b := cwBody m
    let key := (s.sessOf k).kRsp
    let own : List RegKey := [(.MGT_SESSION, k)]
    (s.cwAuthentic k m = true → (s.sessOf k).done = true →
      (cwType m = Cw.SESSION → cwOp m = 3 → 1 ≤ b.length → Completes (.sessionClose via msg) s fun t =>
        t.flag MGT_SESSION.OPEN k = false ∧ Served via m CwSt.OK [3] key own s t) ∧
      (cwType m = Cw.SESSION → cwOp m = 4 → b.length = 8 → Completes (.subscribe via msg) s fun t =>
        t.fld MGT_SESSION.CLASSES k = fieldAt b 4 4 % 1024 ∧ t.flag MGT_SESSION.OPEN k = true ∧
        t.fld MGT_SESSION.TRANSPORT k = transportCode (viaTransport via) ∧ (t.sessOf k).rx = cwTag m ∧ Served via m CwSt.OK [4] key own s t) ∧
      (cwType m = Cw.READ → b.length = 4 → let r := u.readAt (.session k) (fieldAt b 0 4)
        Completes (.read via msg) s fun t => Replied via m (cwStatus r.2.1) (b ++ leBytes 4 r.1) key r.2.2 t) ∧
      (cwType m = Cw.IMAGE_CHUNK → 5 ≤ b.length → b.length ≤ 1020 → s.role (.session k) = Role.ADMIN → s.loadBusy = false →
        fieldAt b 0 4 = s.fld HRN_LOAD_COUNT.COUNT 0 → Completes (.imageChunk via msg) s fun t =>
          t.hrn.staging = s.hrn.staging ++ (b.drop 4).take (stagingMax - s.hrn.staging.length) ∧
          t.fld HRN_LOAD_COUNT.COUNT 0 = t.hrn.staging.length % 2 ^ HRN_LOAD_COUNT.COUNT.width ∧
          Served via m CwSt.OK (b.take 4 ++ leBytes 4 (t.fld HRN_LOAD_COUNT.COUNT 0)) key ((.HRN_LOAD_COUNT, 0) :: own) s t)) ∧
    (s.cwAuthentic k m = true → cwType m = Cw.SESSION → cwOp m = 2 → b.length = 172 → 1 ≤ byteAt b 1 → byteAt b 1 ≤ 3 →
      allZero (slice b 2 2) = true → (byteAt b 1 = Role.ADMIN ∨ allZero (slice b 40 132) = true) →
      (∀ admin, u.finishProof k b = some admin → Completes (.finish via msg) s fun t =>
        t.role (.session k) = byteAt b 1 ∧ (t.sessOf k).done = true ∧ (t.sessOf k).admin = admin ∧
        Served via m CwSt.OK [2, BitVec.ofNat 8 (byteAt b 1)] key own s t) ∧
      (u.finishProof k b = none → Completes (.finish via msg) s fun t => t.flag MGT_SESSION.OPEN k = false ∧
        Served via m CwSt.DENIED [] key (own ++ (.MGT_PWD_FAIL, 0) :: logKeys ++ alertKeys) s t)) ∧
    (s.cwAuthentic k m = false → ∀ c ∈ [(Cw.READ, Instr.read via msg), (Cw.WRITE, .write via msg), (Cw.IMAGE_CHUNK, .imageChunk via msg)],
      cwType m = c.1 → Completes c.2 s fun t => Counts MGT_CW_AUTH_FAIL.COUNT 0 s t ∧
        Served via m CwSt.AUTH_FAIL [] (if (s.sessOf k).done then key else []) ((.MGT_CW_AUTH_FAIL, 0) :: own) s t ∧
        (15 ≤ (s.sessOf k).fails → t.flag MGT_SESSION.OPEN k = false) ∧
        ((s.sessOf k).fails < 15 → t.flag MGT_SESSION.OPEN k = true ∧ (t.sessOf k).fails = (s.sessOf k).fails + 1))) ∧
  (∀ (s : State) (via : Via) (msg m : List Byte), Arrives s via msg m → cwTunnel m = false → cwSession m ≠ 0 → s.sessionAt (cwSession m) = none →
    ∀ c ∈ [(Cw.READ, Instr.read via msg), (Cw.WRITE, .write via msg), (Cw.READ_BLOCK, .readBlock via msg),
        (Cw.WRITE_BLOCK, .writeBlock via msg), (Cw.IMAGE_CHUNK, .imageChunk via msg)],
      cwType m = c.1 → Completes c.2 s fun t => Served via m CwSt.NO_SESSION [] [] [] s t) ∧
  ∀ (s : State) (k : Fin 4),
    (s.cycle < (s.sessOf k).used + cyclesOfUs 300000000 → Completes (.sessionIdleTimeout k) s fun t => t = s) ∧
    ((s.sessOf k).used + cyclesOfUs 300000000 ≤ s.cycle → Completes (.sessionIdleTimeout k) s fun t => t.flag MGT_SESSION.OPEN k = false ∧ t.role (.session k) = Role.USER ∧
      Keeps [(.MGT_SESSION, k)] s t) ∧
    let x := s.sessOf k
    let due := (s.mgt.notify.getD k {}).due
    let soon := ∃ c, x.notified = some c ∧ s.cycle < c + cyclesOfUs (10 * s.fld MGT_CW_CFG.NOTIFY_MIN 0)
    (due = none → Completes (.notifySend k) s fun t => t = s) ∧
    (∀ (cls : Nat) (r : Option Rec), due = some (cls, r) →
      (∀ node, x.via = .tunnel node → Completes (.notifySend k) s fun t => (t.mgt.notify.getD k {}).due = none ∧ Keeps [] s t) ∧
      ((∀ node, x.via ≠ .tunnel node) →
        (soon ∨ s.headless = true ∨ s.offline = true ∨ x.done = false → Completes (.notifySend k) s fun t => t = s) ∧
        (¬soon → s.headless = false → s.offline = false → x.done = true → Completes (.notifySend k) s fun t =>
          (t.mgt.notify.getD k {}).due = none ∧ (t.sessOf k).notified = some s.cycle ∧ Counts MGT_CW_TX.COUNT 0 s t ∧
          Keeps [(.MGT_CW_TX, 0)] s t ∧
          Delivered x.via (cwMake Cw.NOTIFY 0 (s.fld MGT_SESSION.NUMBER k) ((x.tx + 1) % 2 ^ 32) (notifyBody cls r) x.kRsp) s t)))

/-- Fragments of a host lane join in order into a message; one out of order, or a first one over an incomplete message, discards what
there was and is counted. A frame for the device's address brings its message; a malformed one is counted, and answered BAD_MSG
where its header is there. While the controllers restart 16 messages are held and later ones dropped and counted, SESSION and
IMAGE_CHUNK requests get BUSY. A request with TUNNEL set goes to the far node of its lane, UNREACHABLE without one, BUSY while one
is outstanding there, and never on from a tunnel. The far reply goes to the requester, a stray one is discarded and counted; 10 ms
without one answer UNREACHABLE. (10_management.md: Transports, 10_management.md: Tunnel, 10_management.md: Sessions and
notifications) -/
def Obligations.CausewayTransports : Prop :=
  (∀ (s : State) (h : HLane) (e : List Byte), s.viaUp (.cinch h) = true → byteAt e 0 = 2 →
    let f := byteAt e 1
    let n := byteAt e 2
    let dropped := fun (t : State) => (t.hsiOf h).frag = none ∧ Counts MGT_CW_BAD.COUNT 0 s t ∧ Keeps [(.MGT_CW_BAD, 0)] s t
    ((s.hsiOf h).frag = none → f < 128 → Completes (.causewayFragment h e) s fun t => t = s) ∧
    ((s.hsiOf h).frag = none → 1 ≤ n → n ≤ 29 →
      (f = 128 → Completes (.causewayFragment h e) s fun t => Keeps [] s t ∧ (t.hsiOf h).frag = some { bytes := slice e 3 n, next := 1 }) ∧
      (f = 192 → exec (.causewayFragment h e) s = .next ((s.modHsi h fun x => { x with frag := none }).cwReceive (.cinch h) (slice e 3 n)))) ∧
    (∀ r, (s.hsiOf h).frag = some r →
      (128 ≤ f → f % 64 = 0 → f < 192 → 1 ≤ n → n ≤ 29 → Completes (.causewayFragment h e) s fun t => Counts MGT_CW_BAD.COUNT 0 s t ∧
        Keeps [(.MGT_CW_BAD, 0)] s t ∧ (t.hsiOf h).frag = some { bytes := slice e 3 n, next := 1 }) ∧
      (f < 128 → (f % 64 ≠ r.next % 64 ∨ n = 0 ∨ 29 < n ∨ 1072 < (r.bytes ++ slice e 3 n).length) →
        Completes (.causewayFragment h e) s dropped) ∧
      (f < 128 → f % 64 = r.next % 64 → 1 ≤ n → n ≤ 29 → (r.bytes ++ slice e 3 n).length ≤ 1072 →
        (f < 64 → Completes (.causewayFragment h e) s fun t => Keeps [] s t ∧
          (t.hsiOf h).frag = some { bytes := r.bytes ++ slice e 3 n, next := r.next + 1 }) ∧
        (64 ≤ f → exec (.causewayFragment h e) s =
          .next ((s.modHsi h fun x => { x with frag := none }).cwReceive (.cinch h) (r.bytes ++ slice e 3 n)))))) ∧
  (∀ (s : State) (p : Fin 32) (dst src : BitVec 48) (msg : List Byte),
    let c := Instr.causewayFrameExtract p dst src msg
    let via := Via.eth p src
    (s.viaUp via = false ∨ dst.toNat ≠ s.fld MGT_CW_MAC.MAC 0 → Completes c s fun t => t = s) ∧
    (s.viaUp via = true → dst.toNat = s.fld MGT_CW_MAC.MAC 0 →
      exec c s = .next (s.cwReceive via msg) ∧
      (s.headless = false → cwOk true msg = false → Completes c s fun t => Counts MGT_CW_BAD.COUNT 0 s t ∧
        (msg.length < 16 ∨ 128 ≤ cwType msg → Keeps [(.MGT_CW_BAD, 0)] s t) ∧
        (16 ≤ msg.length → cwType msg < 128 → Counts MGT_CW_TX.COUNT 0 s t ∧ Keeps [(.MGT_CW_BAD, 0), (.MGT_CW_TX, 0)] s t ∧
          Delivered via (cwMake (128 + cwType msg) CwSt.BAD_MSG (cwSession msg) (cwTag msg) [] []) s t)) ∧
      (s.headless = true →
        (cwOk true msg = true → cwTunnel msg = false → cwType msg ∈ [Cw.SESSION, Cw.IMAGE_CHUNK] → Completes c s fun t =>
          Served via (msg.take (cwSize msg)) CwSt.BUSY [] [] [] s t) ∧
        (cwType msg ∉ [Cw.SESSION, Cw.IMAGE_CHUNK] →
          (s.mgt.held.length < 16 → Completes c s fun t => t.mgt.held.length = s.mgt.held.length + 1 ∧ s.mgt.held <+: t.mgt.held ∧ Keeps [] s t) ∧
          (16 ≤ s.mgt.held.length → Completes c s fun t => t.mgt = s.mgt ∧ Counts MGT_CW_BAD.COUNT 0 s t ∧
            Keeps [(.MGT_CW_BAD, 0)] s t))))) ∧
  (∀ (s : State) (via : Via) (msg m : List Byte), Arrives s via msg m → cwTunnel m = true →
    let out := s.mgt.tunReq.any
    ((∃ node, via = .tunnel node) → Completes (.tunnelRequest via msg) s fun t => Counts MGT_CW_BAD.COUNT 0 s t ∧
      Served via m CwSt.BAD_MSG [] [] [(.MGT_CW_BAD, 0)] s t) ∧
    ((∀ node, via ≠ .tunnel node) →
      (s.tunnelNode (cwLane m) = none → Completes (.tunnelRequest via msg) s fun t => Served via m CwSt.UNREACHABLE [] [] [] s t) ∧
      ∀ node, s.tunnelNode (cwLane m) = some node →
        (out (fun r => r.node = node) = true → Completes (.tunnelRequest via msg) s fun t => Served via m CwSt.BUSY [] [] [] s t) ∧
        (out (fun r => r.node = node) = false → Completes (.tunnelRequest via msg) s fun t =>
          Counts MGT_CW_RX.COUNT 0 s t ∧ Keeps [(.MGT_CW_RX, 0)] s t ∧
          t.mgt.tunReq = s.mgt.tunReq ++ [{ node := node, via := via, type := cwType m, session := cwSession m, tag := cwTag m, since := s.cycle }] ∧
          ∃ q ∈ t.mgt.tun, q.node = node ∧ ∃ m', q.msgs.getLast? = some m' ∧ m'.length = m.length ∧ cwTunnel m' = false ∧ cwLane m' = 255 ∧
            ∀ i, i ≠ 2 → i ≠ 6 → m'.getD i 0 = m.getD i 0))) ∧
  (∀ (s : State) (node : BitVec 16) (msg : List Byte),
    let hit := fun (r : TunReq) => r.node = node.toNat ∧ cwType msg = 128 + r.type ∧ cwSession msg = r.session ∧ cwTag msg = r.tag
    (s.viaUp (.tunnel node) = true → s.headless = false → 16 ≤ msg.length → 128 ≤ cwType msg →
      ((∀ r ∈ s.mgt.tunReq, ¬hit r) → Completes (.tunnelReply node msg) s fun t => Counts MGT_TUN_DISC.COUNT 0 s t ∧
        Counts MGT_CW_RX.COUNT 0 s t ∧ Keeps [(.MGT_TUN_DISC, 0), (.MGT_CW_RX, 0)] s t) ∧
      (∀ r, s.mgt.tunReq = [r] → hit r → Completes (.tunnelReply node msg) s fun t => t.mgt.tunReq = [] ∧ Delivered r.via msg s t ∧
        Counts MGT_CW_RX.COUNT 0 s t ∧ Counts MGT_CW_TX.COUNT 0 s t ∧ Keeps cwKeys s t)) ∧
    ((∀ r ∈ s.mgt.tunReq, r.node = node.toNat → s.cycle < r.since + cyclesOfUs 10000) → Completes (.tunnelTimeout node) s fun t => t = s) ∧
    ∀ r, s.mgt.tunReq = [r] → r.node = node.toNat → r.since + cyclesOfUs 10000 ≤ s.cycle → Completes (.tunnelTimeout node) s fun t => t.mgt.tunReq = [] ∧
      Delivered r.via (cwMake (128 + r.type) CwSt.UNREACHABLE r.session r.tag [] []) s t ∧ Counts MGT_CW_TX.COUNT 0 s t ∧
      Keeps [(.MGT_CW_TX, 0)] s t) ∧
  ∀ (s : State) (n : Lane) (w : BitVec 44), s.locked n = true → s.ieee n = false →
    (s.flag MGT_CW_CFG.TUNNEL_EN 0 = false → Completes (.causewayWordReceived n w) s fun t => Counts LFEC_OAM_RX.COUNT n s t ∧
      Counts MGT_TUN_DISC.COUNT 0 s t ∧ Keeps [(.LFEC_OAM_RX, n), (.MGT_TUN_DISC, 0)] s t ∧ t.mgt = s.mgt) ∧
    (s.flag MGT_CW_CFG.TUNNEL_EN 0 = true → ∀ node, (s.tlaneOf n).farNode = some node → (∀ r ∈ s.mgt.tunRx, r.node ≠ node) →
      let data := (beBytes 4 (w.extractLsb' 0 32).toNat).take ((w.extractLsb' 32 2).toNat + 1)
      (w.getLsbD 43 = false → w.extractLsb' 34 9 = 0 → Completes (.causewayWordReceived n w) s fun t => Counts LFEC_OAM_RX.COUNT n s t ∧
        Keeps [(.LFEC_OAM_RX, n)] s t ∧ t.mgt.tunRx = s.mgt.tunRx ++ [{ node := node, frags := [(0, data)] }]) ∧
      (267 < (w.extractLsb' 34 9).toNat → Completes (.causewayWordReceived n w) s fun t => Counts MGT_TUN_DISC.COUNT 0 s t ∧
        Keeps [(.LFEC_OAM_RX, n), (.MGT_TUN_DISC, 0)] s t))

/-- With a command at the front of the queue, a step is that command run on the state with the queue's rest; with an empty queue a
step is one core cycle (the model's choice, log entry 1). (95_what_each_step_holds.md, 00_scope.md: Time format) -/
def Obligations.StepRunsFront : Prop :=
  (∀ (s : State) (c : Instr) (rest : List Instr), s.pending = c :: rest → step s = exec c { s with pending := rest }) ∧
  ∀ s : State, s.pending = [] → step s = .next s.tick

/-- Whatever the state, every command answers a next state, except a private JTAG instruction that a debug token permits, whose effect
the spec does not give: it is refused by name. (00_scope.md: Notation, 11_identity_and_security.md: Debug and scan) -/
def Obligations.CommandsComplete : Prop :=
  (∀ (c : Instr) (s : State), (∀ perm, c ≠ .privateInstruction perm) → ∃ t, exec c s = .next t) ∧
  ∀ (c : Instr) (s : State) (r : Refusal), exec c s = .refused r → r = .jtagDebugUnit ∧ ∃ perm : Fin 3, c = .privateInstruction perm ∧
    (s.fld SEC_DBG_STATUS.PERMS 0).testBit perm = true

/-- A command that answers a next state leaves the commands that wait as they are, takes no core cycle, and gives back no free value;
the frame timer stands or, where the device has restarted from cold, is 0 (commands that take no time are the model's choice, log
entry 1). (00_scope.md: Notation, 02_line_frame_and_fec.md: Frame and superframe) -/
def Obligations.CommandsKeepTheQueue : Prop :=
  ∀ (c : Instr) (s t : State), exec c s = .next t →
    t.pending = s.pending ∧ t.cycle = s.cycle ∧ s.freeCtr ≤ t.freeCtr ∧ (t.frameTimer = s.frameTimer ∨ t.frameTimer = 0)

/-- From any state whose register file, stores and flash are in canonical form, a step that answers a next state gives a state that
has it: equal contents are equal data. (00_scope.md: Notation, 10_management.md: Register map, 14_memory_ecc_dma.md: Stores and
regions) -/
def Obligations.CanonicalKept : Prop := ∀ s t : State, s.canonical → step s = .next t → t.canonical

/-- From any state in which the frame timer is below 19,120, the count of the IEEE transmit interval below 3,840, the nanoseconds of
the clock below 10^9 and the recorder's queue at most 64 long, a step that answers a next state gives such a state.
(02_line_frame_and_fec.md: Frame and superframe, 00_scope.md: Time format, 08_time_base.md: The TS96 clock,
15_event_log_and_counters.md: The event store) -/
def Obligations.BoundsKept : Prop :=
  ∀ s t : State, InRange s → step s = .next t → InRange t

/-- After reset the tables are canonical, the timer, clock and queue in range, no command waits, every register holds the reset value
of its table, and the values named here are those of the spec's tables. (00_scope.md: Time format, 02_line_frame_and_fec.md: Frame
and superframe, 08_time_base.md: Registers, 10_management.md: Management registers, 16_self_test_and_thermal.md: Thresholds and
actions) -/
def Obligations.ResetMeetsTheInvariants : Prop :=
  State.reset.canonical ∧ InRange State.reset ∧ State.reset.pending = [] ∧ (∀ r i, State.reset.reg r i = regReset (r, i)) ∧
  State.reset.fld GLB_ID.PART 0 = 0x6416 ∧ State.reset.quality = 3 ∧ State.reset.fld TMB_HOLD_CFG.HOLD_DRIFT 0 = 100 ∧
  State.reset.role .bus = Role.USER ∧ State.reset.fld MGT_IBI_EN.EN 0 = 0x3FF ∧ State.reset.fld MGT_CW_CFG.NOTIFY_MIN 0 = 10 ∧
  State.reset.fld THM_LIMIT_A.WARN 0 = 920 ∧ (∀ g, State.reset.fld EQP_POOL.FREE g = 13) ∧
  ∀ n, State.reset.fld LFEC_SD.SD_SET n = 5000 ∧ State.reset.fld LFEC_SD.SD_CLR n = 2500

/-- With no command waiting, a step is a core cycle (the model's choice, log entry 1): the frame timer counts modulo 19,120 while
REFCLK is present; awake, the clock gains 1.28 ns times (1 + ADJ x 2^-40), truncated to 2^-48 ns (log entry 23), so that it always
runs forward; asleep it stands. Nothing else changes but displaced host patterns, idles inserted and deleted towards the hosts,
restart counts and performance counters. (02_line_frame_and_fec.md: Frame and superframe, 08_time_base.md: The TS96 clock,
15_event_log_and_counters.md: Performance counters) -/
def Obligations.CoreCycle : Prop :=
  ∀ s : State, s.pending = [] →
    let total := fun (t : State) => t.time.sec * (10 ^ 9 * 2 ^ 48) + t.time.sub
    ∃ t, step s = .next t ∧ t.pending = [] ∧ t.cycle = s.cycle + 1 ∧
      t.frameTimer = (if s.flag CLK_STATUS.REF_PRESENT 0 then (s.frameTimer + 1) % 19120 else s.frameTimer) ∧
      t.interval = (if s.flag CLK_STATUS.REF_PRESENT 0 then (s.interval + 1) % 3840 else s.interval) ∧ t.risen = [] ∧ t.early = [] ∧
      (s.offline = true → t.time = s.time ∧ Keeps [] s t) ∧
      (s.offline = false →
        (∃ gain : Nat, 0 < gain ∧ total t = total s + gain ∧ (gain : Int) * 25 ≤ (2 ^ 40 + s.adj) * 8192 ∧
          (2 ^ 40 + s.adj) * 8192 < ((gain : Int) + 1) * 25) ∧
        KeepsKinds [.HSI_PAT_DROP, .HPM_IDLE_INS, .HPM_IDLE_DEL, .LRX_STATUS, .PMC_VALUE] s t ∧
        ∀ f ∈ [LRX_STATUS.STATE, LRX_STATUS.LOSS_CAUSE, LRX_STATUS.LOS, LRX_STATUS.RECOVERY], ∀ i, t.fld f i = s.fld f i)

/-- A word written, in its turn in the core cycle, to LFEC_SD or LFEC_SF whose clear threshold is at or above its set threshold is
rejected: every register keeps its value, and an event is recorded with the path and the value where the recorder's queue has
room. One in order is taken. (R59) -/
def Obligations.ThresholdsOutOfOrder : Prop :=
  ∀ (s : State) (p : Path) (n : Lane) (x a : Word32),
    ∀ r ∈ [(LFEC_SD.SD_CLR, LFEC_SD.SD_SET), (LFEC_SF.SF_CLR, LFEC_SF.SF_SET)], regAt a.toNat = some (r.1.reg, n.val, 0) → Accepts s p r.1.reg n →
      InTurn s p a x →
      (fieldOf x.toNat r.2 ≤ fieldOf x.toNat r.1 → Completes (.registerWrite p a x) s fun t => Keeps logKeys s t ∧
        (Room s → Keeps [] s t ∧ Logged Evt.REG_REJECT Subj.REGISTER (regAddr r.1.reg n 0) [s.pathWord p, x.toNat] s t)) ∧
      (fieldOf x.toNat r.1 < fieldOf x.toNat r.2 → Completes (.registerWrite p a x) s fun t =>
        t.fld r.1 n = fieldOf x.toNat r.1 ∧ t.fld r.2 n = fieldOf x.toNat r.2 ∧ Keeps [(r.1.reg, n)] s t)
end

