-- ==== Sys2Proof/Laws/Tab.lean ====
section
/-! SUPPORT. What the sparse tables do: a read after a write, and that every operation keeps the canonical form. -/
namespace Sys2Proof.Machine

variable {κ ν : Type} [DecidableEq κ] {lt : κ → κ → Bool} {d : κ → ν}

@[simp] theorem Tab.get_nil (k : κ) : Tab.get d [] k = d k := rfl

@[simp] theorem Tab.get_erase_same (m : List (κ × ν)) (k : κ) : Tab.get d (Tab.erase k m) k = d k := by
  induction m with
  | nil => rfl
  | cons e m ih =>
    obtain ⟨k', v⟩ := e
    by_cases h : k = k' <;> simp [Tab.erase, Tab.get, h]
    · simpa [h] using ih
    · exact ih

theorem Tab.get_erase_other (m : List (κ × ν)) {k k' : κ} (h : k' ≠ k) :
    Tab.get d (Tab.erase k m) k' = Tab.get d m k' := by
  induction m with
  | nil => rfl
  | cons e m ih =>
    obtain ⟨k₁, v⟩ := e
    by_cases h₁ : k = k₁
    · subst h₁; simp [Tab.erase, Tab.get, h, ih]
    · simp [Tab.erase, Tab.get, h₁, ih]

@[simp] theorem Tab.get_insert_same (m : List (κ × ν)) (k : κ) (v : ν) :
    Tab.get d (Tab.insert lt k v m) k = v := by
  induction m with
  | nil => simp [Tab.insert, Tab.get]
  | cons e m ih =>
    obtain ⟨k₁, v₁⟩ := e
    by_cases h₁ : k = k₁
    · simp [Tab.insert, Tab.get, h₁]
    · by_cases h₂ : lt k k₁ = true <;> simp [Tab.insert, Tab.get, h₁, h₂, ih]

theorem Tab.get_insert_other (m : List (κ × ν)) {k k' : κ} (v : ν) (h : k' ≠ k) :
    Tab.get d (Tab.insert lt k v m) k' = Tab.get d m k' := by
  induction m with
  | nil => simp [Tab.insert, Tab.get, h]
  | cons e m ih =>
    obtain ⟨k₁, v₁⟩ := e
    by_cases h₁ : k = k₁
    · subst h₁; simp [Tab.insert, Tab.get, h]
    · by_cases h₂ : lt k k₁ = true <;> simp [Tab.insert, Tab.get, h₁, h₂, ih, h]

section Write
variable [DecidableEq ν]

/-- A read after a write to the same key gives the value written. -/
@[simp] theorem Tab.get_set_same (m : List (κ × ν)) (k : κ) (v : ν) :
    Tab.get d (Tab.set lt d m k v) k = v := by
  unfold Tab.set
  split
  · next h => simp [h]
  · simp

/-- A write leaves every other key alone. -/
theorem Tab.get_set_other (m : List (κ × ν)) {k k' : κ} (v : ν) (h : k' ≠ k) :
    Tab.get d (Tab.set lt d m k v) k' = Tab.get d m k' := by
  unfold Tab.set
  split
  · exact Tab.get_erase_other m h
  · exact Tab.get_insert_other m v h

end Write

theorem Tab.above_erase {k k' : κ} {m : List (κ × ν)} (h : Tab.above lt k m = true) :
    Tab.above lt k (Tab.erase k' m) = true := by
  induction m with
  | nil => rfl
  | cons e m ih =>
    obtain ⟨k₁, v₁⟩ := e
    simp only [Tab.above, List.all_cons, Bool.and_eq_true] at h ih ⊢
    by_cases h₁ : k' = k₁
    · simp only [Tab.erase, h₁, if_true]; simpa [h₁] using ih h.2
    · simp only [Tab.erase, h₁, if_false, List.all_cons, Bool.and_eq_true]; exact ⟨h.1, ih h.2⟩

theorem Tab.above_insert {k k' : κ} {v : ν} {m : List (κ × ν)} (hk : lt k k' = true)
    (h : Tab.above lt k m = true) : Tab.above lt k (Tab.insert lt k' v m) = true := by
  induction m with
  | nil => simp [Tab.insert, Tab.above, hk]
  | cons e m ih =>
    obtain ⟨k₁, v₁⟩ := e
    simp only [Tab.above, List.all_cons, Bool.and_eq_true] at h ih ⊢
    by_cases h₁ : k' = k₁
    · simp only [Tab.insert, h₁, if_true, List.all_cons, Bool.and_eq_true]; exact h
    · by_cases h₂ : lt k' k₁ = true
      · simp only [Tab.insert, h₁, h₂, if_true, if_false, List.all_cons, Bool.and_eq_true]; exact ⟨hk, h⟩
      · simp only [Tab.insert, h₁, h₂, if_false, Bool.false_eq_true, List.all_cons, Bool.and_eq_true]; exact ⟨h.1, ih h.2⟩

variable [DecidableEq ν]

theorem Tab.wf_erase {k : κ} {m : List (κ × ν)} (h : Tab.wf lt d m = true) :
    Tab.wf lt d (Tab.erase k m) = true := by
  induction m with
  | nil => rfl
  | cons e m ih =>
    obtain ⟨k₁, v₁⟩ := e
    simp only [Tab.wf, Bool.and_eq_true] at h
    by_cases h₁ : k = k₁
    · simp only [Tab.erase, h₁, if_true]; simpa [h₁] using ih h.2
    · simp only [Tab.erase, h₁, if_false, Tab.wf, Bool.and_eq_true]
      exact ⟨⟨h.1.1, Tab.above_erase h.1.2⟩, ih h.2⟩

/-- What an order must satisfy for the tables to stay canonical: it is a strict total order. -/
structure StrictOrder (lt : κ → κ → Bool) : Prop where
  trans : ∀ a b c, lt a b = true → lt b c = true → lt a c = true
  total : ∀ a b, a ≠ b → lt a b = false → lt b a = true

theorem natLt_order : StrictOrder natLt where
  trans := by simp only [natLt, decide_eq_true_eq]; omega
  total := by simp only [natLt, decide_eq_true_eq, decide_eq_false_iff_not]; omega

omit [DecidableEq κ] [DecidableEq ν] in
theorem Tab.above_mono (o : StrictOrder lt) {k k' : κ} {m : List (κ × ν)} (hk : lt k k' = true)
    (h : Tab.above lt k' m = true) : Tab.above lt k m = true := by
  simp only [Tab.above, List.all_eq_true] at h ⊢
  exact fun e he => o.trans _ _ _ hk (h e he)

theorem Tab.wf_insert (o : StrictOrder lt) {k : κ} {v : ν} {m : List (κ × ν)} (hv : v ≠ d k)
    (h : Tab.wf lt d m = true) : Tab.wf lt d (Tab.insert lt k v m) = true := by
  induction m with
  | nil => simp [Tab.insert, Tab.wf, Tab.above, hv]
  | cons e m ih =>
    obtain ⟨k₁, v₁⟩ := e
    have h' := h
    simp only [Tab.wf, Bool.and_eq_true] at h
    by_cases h₁ : k = k₁
    · subst h₁
      simp only [Tab.insert, if_true, Tab.wf, Bool.and_eq_true, decide_eq_true_eq]
      exact ⟨⟨hv, h.1.2⟩, h.2⟩
    · by_cases h₂ : lt k k₁ = true
      · simp only [Tab.insert, h₁, h₂, if_true, if_false]
        rw [Tab.wf, h']
        simp only [Bool.and_eq_true, decide_eq_true_eq, and_true, Tab.above, List.all_cons]
        exact ⟨hv, h₂, Tab.above_mono o h₂ h.1.2⟩
      · simp only [Tab.insert, h₁, h₂, if_false, Bool.false_eq_true, Tab.wf, Bool.and_eq_true]
        exact ⟨⟨h.1.1, Tab.above_insert (o.total _ _ h₁ (by simpa using h₂)) h.1.2⟩, ih h.2⟩

/-- Every write keeps the canonical form. -/
theorem Tab.wf_set (o : StrictOrder lt) {k : κ} {v : ν} {m : List (κ × ν)} (h : Tab.wf lt d m = true) :
    Tab.wf lt d (Tab.set lt d m k v) = true := by
  unfold Tab.set
  split
  · exact Tab.wf_erase h
  · next hv => exact Tab.wf_insert o hv h

end Sys2Proof.Machine
end

