-- ==== Sys2Proof/Laws/Regs.lean ====
section
/-! SUPPORT. What the register file does: a field read after a field write, and the canonical form. -/
namespace Sys2Proof.Machine

theorem Reg.ctorIdx_inj {r q : Reg} (h : r.ctorIdx = q.ctorIdx) : r = q := by
  rw [← Reg.ofNat_ctorIdx r, ← Reg.ofNat_ctorIdx q, h]

theorem regLt_order : StrictOrder regLt where
  trans := by
    intro a b c; simp only [regLt, Bool.or_eq_true, Bool.and_eq_true, decide_eq_true_eq]; omega
  total := by
    rintro ⟨r, i⟩ ⟨q, j⟩ hne h
    simp only [regLt, Bool.or_eq_false_iff, Bool.and_eq_false_iff, decide_eq_false_iff_not, Bool.or_eq_true, Bool.and_eq_true,
      decide_eq_true_eq] at h ⊢
    rcases Nat.lt_trichotomy r.ctorIdx q.ctorIdx with h₁ | h₁ | h₁
    · exact absurd h₁ h.1
    · have hij : i ≠ j := fun hij => hne (by rw [Reg.ctorIdx_inj h₁, hij])
      omega
    · omega

/-- A field written is the field read, modulo its width. -/
theorem bitsOf_setBitsOf_same (v : RegVal) {hi lo : Nat} (x : Nat) (h : lo + (hi - lo) < 512) :
    bitsOf (setBitsOf v hi lo x) hi lo = x % 2 ^ (hi - lo + 1) := by
  have hx : x % 2 ^ (hi - lo + 1) < 2 ^ (hi - lo + 1) := Nat.mod_lt _ (Nat.two_pow_pos _)
  unfold bitsOf setBitsOf
  rw [show x % 2 ^ (hi - lo + 1) = (BitVec.ofNat (hi - lo + 1) (x % 2 ^ (hi - lo + 1))).toNat by
    simp]
  congr 1
  apply BitVec.eq_of_getLsbD_eq
  intro i hi'
  simp only [BitVec.getLsbD_extractLsb', BitVec.getLsbD_or, BitVec.getLsbD_and, BitVec.getLsbD_not,
    BitVec.getLsbD_shiftLeft, BitVec.getLsbD_ofNat, Nat.testBit_two_pow_sub_one, BitVec.toNat_ofNat]
  have e : lo + i - lo = i := by omega
  have e₁ : i < hi - lo + 1 := hi'
  have e₂ : lo + i < 512 := by omega
  have e₃ : i < 512 := by omega
  have e₄ : ¬ lo + i < lo := by omega
  simp [e, e₁, e₂, e₃, e₄]

/-- A field write leaves the bits of every other field alone. -/
theorem bitsOf_setBitsOf_disjoint (v : RegVal) {hi lo hi' lo' : Nat} (x : Nat)
    (hd : lo + (hi - lo) < lo' ∨ lo' + (hi' - lo') < lo) : bitsOf (setBitsOf v hi lo x) hi' lo' = bitsOf v hi' lo' := by
  unfold bitsOf setBitsOf
  congr 1
  apply BitVec.eq_of_getLsbD_eq
  intro i hi''
  simp only [BitVec.getLsbD_extractLsb', BitVec.getLsbD_or, BitVec.getLsbD_and, BitVec.getLsbD_not,
    BitVec.getLsbD_shiftLeft, BitVec.getLsbD_ofNat, Nat.testBit_two_pow_sub_one]
  have hm : ∀ j, hi - lo + 1 ≤ j → (x % 2 ^ (hi - lo + 1)).testBit j = false := fun j hj =>
    Nat.testBit_lt_two_pow (Nat.lt_of_lt_of_le (Nat.mod_lt _ (Nat.two_pow_pos _)) (Nat.pow_le_pow_right (by decide) hj))
  by_cases h512 : lo' + i < 512
  · by_cases hlt : lo' + i < lo
    · simp [hlt, h512]
    · have hge : hi - lo + 1 ≤ lo' + i - lo := by omega
      have e : ¬ lo' + i - lo < hi - lo + 1 := by omega
      simp [hlt, h512, e, hm _ hge]
  · simp [h512, BitVec.getLsbD_of_ge v (lo' + i) (by omega)]

@[simp] theorem RegFile.read_write_same (m : RegFile) (r : Reg) (i : Nat) (v : RegVal) :
    (m.write r i v).read r i = v := by simp [RegFile.read, RegFile.write]

theorem RegFile.read_write_other (m : RegFile) {r r' : Reg} {i i' : Nat} (v : RegVal) (h : r' ≠ r ∨ i' ≠ i) :
    (m.write r i v).read r' i' = m.read r' i' :=
  Tab.get_set_other m v (by rintro ⟨⟩; simp at h)

/-- Reading the field just written. -/
theorem RegFile.fld_setFld_same (m : RegFile) {f : Field} (i x : Nat) (h : f.lo + (f.hi - f.lo) < 512) :
    (m.setFld f i x).fld f i = x % 2 ^ f.width := by
  simp [RegFile.fld, RegFile.setFld, bitsOf_setBitsOf_same _ _ h, Field.width]

/-- Two fields that share no bit of one register instance. -/
def Field.apart (f g : Field) : Bool :=
  decide (f.reg ≠ g.reg) || decide (f.lo + (f.hi - f.lo) < g.lo) || decide (g.lo + (g.hi - g.lo) < f.lo)

/-- Writing a field leaves every field that shares no bit with it alone. -/
theorem RegFile.fld_setFld_apart (m : RegFile) {f g : Field} (i j x : Nat) (h : f.apart g = true) :
    (m.setFld f i x).fld g j = m.fld g j := by
  simp only [Field.apart, Bool.or_eq_true, decide_eq_true_eq] at h
  unfold RegFile.fld RegFile.setFld
  by_cases hr : g.reg = f.reg ∧ j = i
  · obtain ⟨h₁, h₂⟩ := hr
    rw [h₁, h₂, RegFile.read_write_same]
    rcases h with (h | h) | h
    · exact absurd h₁.symm h
    · exact bitsOf_setBitsOf_disjoint _ _ (.inl h)
    · exact bitsOf_setBitsOf_disjoint _ _ (.inr h)
  · rw [RegFile.read_write_other]
    by_cases h₁ : g.reg = f.reg
    · exact .inr fun h₂ => hr ⟨h₁, h₂⟩
    · exact .inl h₁

/-- Writing a field of one instance leaves every other instance alone. -/
theorem RegFile.fld_setFld_index (m : RegFile) {f g : Field} {i j : Nat} (x : Nat) (h : j ≠ i) :
    (m.setFld f i x).fld g j = m.fld g j := by
  unfold RegFile.fld RegFile.setFld
  rw [RegFile.read_write_other _ _ (.inr h)]

theorem RegFile.wf_write {m : RegFile} (r : Reg) (i : Nat) (v : RegVal) (h : m.wf = true) :
    (m.write r i v).wf = true := Tab.wf_set regLt_order h

theorem RegFile.wf_setFld {m : RegFile} (f : Field) (i x : Nat) (h : m.wf = true) : (m.setFld f i x).wf = true :=
  RegFile.wf_write _ _ _ h

end Sys2Proof.Machine
end

