-- ==== Sys2Proof/Laws/State.lean ====
section
/-! SUPPORT. What each update of the state leaves in every field, and a read after a write of a register, a field and a record. -/
namespace Sys2Proof.Machine
set_option Elab.async false

/-! ### Registers and fields -/

@[simp] theorem State.reg_setReg_same (s : State) (r : Reg) (i : Nat) (v : RegVal) : (s.setReg r i v).reg r i = v :=
  RegFile.read_write_same s.regs r i v

theorem State.reg_setReg_other (s : State) {r r' : Reg} {i i' : Nat} (v : RegVal) (h : r' ≠ r ∨ i' ≠ i) :
    (s.setReg r i v).reg r' i' = s.reg r' i' := RegFile.read_write_other s.regs v h

/-- The field just written reads as written, modulo its width. -/
theorem State.fld_setFld_same (s : State) {f : Field} (i x : Nat) (h : f.lo + (f.hi - f.lo) < 512) :
    (s.setFld f i x).fld f i = x % 2 ^ f.width := RegFile.fld_setFld_same s.regs i x h

/-- Writing a field leaves every field that shares no bit with it alone. -/
theorem State.fld_setFld_apart (s : State) {f g : Field} (i j x : Nat) (h : f.apart g = true) :
    (s.setFld f i x).fld g j = s.fld g j := RegFile.fld_setFld_apart s.regs i j x h

/-- Writing a field of one instance leaves every other instance alone. -/
theorem State.fld_setFld_index (s : State) {f g : Field} {i j : Nat} (x : Nat) (h : j ≠ i) :
    (s.setFld f i x).fld g j = s.fld g j := RegFile.fld_setFld_index s.regs x h

/-- A counter counts, wrapping at its width. -/
theorem State.fld_count_same (s : State) {f : Field} (i n : Nat) (h : f.lo + (f.hi - f.lo) < 512) :
    (s.count f i n).fld f i = (s.fld f i + n) % 2 ^ f.width := RegFile.fld_setFld_same s.regs i _ h

theorem State.fld_count_apart (s : State) {f g : Field} (i j n : Nat) (h : f.apart g = true) :
    (s.count f i n).fld g j = s.fld g j := RegFile.fld_setFld_apart s.regs i j _ h

@[simp] theorem State.reg_resetReg_same (s : State) (r : Reg) (i : Nat) : (s.resetReg r i).reg r i = regReset (r, i) :=
  RegFile.read_write_same s.regs r i _

/-- A field reads what its register's bits hold. -/
theorem State.fld_eq (s : State) (f : Field) (i : Nat) : s.fld f i = bitsOf (s.reg f.reg i) f.hi f.lo := rfl

/-! ### Records by index -/

theorem get_tabMod_same {ν : Type} [DecidableEq ν] (d : ν) (m : List (Nat × ν)) (i : Nat) (f : ν → ν) :
    Tab.get (fun _ => d) (tabMod d m i f) i = f (Tab.get (fun _ => d) m i) := Tab.get_set_same m i _

theorem get_tabMod_other {ν : Type} [DecidableEq ν] (d : ν) (m : List (Nat × ν)) {i j : Nat} (f : ν → ν) (h : j ≠ i) :
    Tab.get (fun _ => d) (tabMod d m i f) j = Tab.get (fun _ => d) m j := Tab.get_set_other m _ h

theorem wf_tabMod {ν : Type} [DecidableEq ν] {d : ν} {m : List (Nat × ν)} (i : Nat) (f : ν → ν)
    (h : Tab.wf natLt (fun _ => d) m = true) : Tab.wf natLt (fun _ => d) (tabMod d m i f) = true := Tab.wf_set natLt_order h

@[simp] theorem State.lfecOf_modLfec_same (s : State) (n : Nat) (f : LfecX → LfecX) :
    (s.modLfec n f).lfecOf n = f (s.lfecOf n) := get_tabMod_same _ _ _ _
theorem State.lfecOf_modLfec_other (s : State) {n k : Nat} (f : LfecX → LfecX) (h : k ≠ n) :
    (s.modLfec n f).lfecOf k = s.lfecOf k := get_tabMod_other _ _ _ h
@[simp] theorem State.lrxOf_modLrx_same (s : State) (n : Nat) (f : LrxX → LrxX) :
    (s.modLrx n f).lrxOf n = f (s.lrxOf n) := get_tabMod_same _ _ _ _
theorem State.lrxOf_modLrx_other (s : State) {n k : Nat} (f : LrxX → LrxX) (h : k ≠ n) :
    (s.modLrx n f).lrxOf k = s.lrxOf k := get_tabMod_other _ _ _ h
@[simp] theorem State.eqpOf_modEqp_same (s : State) (n : Nat) (f : EqX → EqX) :
    (s.modEqp n f).eqpOf n = f (s.eqpOf n) := get_tabMod_same _ _ _ _
theorem State.eqpOf_modEqp_other (s : State) {n k : Nat} (f : EqX → EqX) (h : k ≠ n) :
    (s.modEqp n f).eqpOf k = s.eqpOf k := get_tabMod_other _ _ _ h
@[simp] theorem State.grpOf_modGrp_same (s : State) (n : Nat) (f : GrpX → GrpX) :
    (s.modGrp n f).grpOf n = f (s.grpOf n) := get_tabMod_same _ _ _ _
theorem State.grpOf_modGrp_other (s : State) {n k : Nat} (f : GrpX → GrpX) (h : k ≠ n) :
    (s.modGrp n f).grpOf k = s.grpOf k := get_tabMod_other _ _ _ h
@[simp] theorem State.ltxOf_modLtx_same (s : State) (n : Nat) (f : LtxX → LtxX) :
    (s.modLtx n f).ltxOf n = f (s.ltxOf n) := get_tabMod_same _ _ _ _
theorem State.ltxOf_modLtx_other (s : State) {n k : Nat} (f : LtxX → LtxX) (h : k ≠ n) :
    (s.modLtx n f).ltxOf k = s.ltxOf k := get_tabMod_other _ _ _ h
@[simp] theorem State.hsiOf_modHsi_same (s : State) (n : Nat) (f : HsiX → HsiX) :
    (s.modHsi n f).hsiOf n = f (s.hsiOf n) := get_tabMod_same _ _ _ _
theorem State.hsiOf_modHsi_other (s : State) {n k : Nat} (f : HsiX → HsiX) (h : k ≠ n) :
    (s.modHsi n f).hsiOf k = s.hsiOf k := get_tabMod_other _ _ _ h
@[simp] theorem State.hpmOf_modHpm_same (s : State) (n : Nat) (f : HpmX → HpmX) :
    (s.modHpm n f).hpmOf n = f (s.hpmOf n) := get_tabMod_same _ _ _ _
theorem State.hpmOf_modHpm_other (s : State) {n k : Nat} (f : HpmX → HpmX) (h : k ≠ n) :
    (s.modHpm n f).hpmOf k = s.hpmOf k := get_tabMod_other _ _ _ h
@[simp] theorem State.chanOf_modChan_same (s : State) (n : Nat) (f : ChanX → ChanX) :
    (s.modChan n f).chanOf n = f (s.chanOf n) := get_tabMod_same _ _ _ _
theorem State.chanOf_modChan_other (s : State) {n k : Nat} (f : ChanX → ChanX) (h : k ≠ n) :
    (s.modChan n f).chanOf k = s.chanOf k := get_tabMod_other _ _ _ h
@[simp] theorem State.claneOf_modClane_same (s : State) (n : Nat) (f : CLaneX → CLaneX) :
    (s.modClane n f).claneOf n = f (s.claneOf n) := get_tabMod_same _ _ _ _
theorem State.claneOf_modClane_other (s : State) {n k : Nat} (f : CLaneX → CLaneX) (h : k ≠ n) :
    (s.modClane n f).claneOf k = s.claneOf k := get_tabMod_other _ _ _ h
@[simp] theorem State.tlaneOf_modTlane_same (s : State) (n : Nat) (f : TLaneX → TLaneX) :
    (s.modTlane n f).tlaneOf n = f (s.tlaneOf n) := get_tabMod_same _ _ _ _
theorem State.tlaneOf_modTlane_other (s : State) {n k : Nat} (f : TLaneX → TLaneX) (h : k ≠ n) :
    (s.modTlane n f).tlaneOf k = s.tlaneOf k := get_tabMod_other _ _ _ h
@[simp] theorem State.tskInOf_modTskIn_same (s : State) (n : Nat) (f : TskInX → TskInX) :
    (s.modTskIn n f).tskInOf n = f (s.tskInOf n) := get_tabMod_same _ _ _ _
theorem State.tskInOf_modTskIn_other (s : State) {n k : Nat} (f : TskInX → TskInX) (h : k ≠ n) :
    (s.modTskIn n f).tskInOf k = s.tskInOf k := get_tabMod_other _ _ _ h
@[simp] theorem State.tskRuleOf_modTskRule_same (s : State) (n : Nat) (f : TskRuleX → TskRuleX) :
    (s.modTskRule n f).tskRuleOf n = f (s.tskRuleOf n) := get_tabMod_same _ _ _ _
theorem State.tskRuleOf_modTskRule_other (s : State) {n k : Nat} (f : TskRuleX → TskRuleX) (h : k ≠ n) :
    (s.modTskRule n f).tskRuleOf k = s.tskRuleOf k := get_tabMod_other _ _ _ h
@[simp] theorem State.sensOf_modSens_same (s : State) (n : Nat) (f : SensX → SensX) :
    (s.modSens n f).sensOf n = f (s.sensOf n) := get_tabMod_same _ _ _ _
theorem State.sensOf_modSens_other (s : State) {n k : Nat} (f : SensX → SensX) (h : k ≠ n) :
    (s.modSens n f).sensOf k = s.sensOf k := get_tabMod_other _ _ _ h
@[simp] theorem State.dmaOf_modDma_same (s : State) (n : Nat) (f : DmaX → DmaX) :
    (s.modDma n f).dmaOf n = f (s.dmaOf n) := get_tabMod_same _ _ _ _
theorem State.dmaOf_modDma_other (s : State) {n k : Nat} (f : DmaX → DmaX) (h : k ≠ n) :
    (s.modDma n f).dmaOf k = s.dmaOf k := get_tabMod_other _ _ _ h
@[simp] theorem State.decOf_modDec_same (s : State) (n : Nat) (f : DecX → DecX) :
    (s.modDec n f).decOf n = f (s.decOf n) := get_tabMod_same _ _ _ _
theorem State.decOf_modDec_other (s : State) {n k : Nat} (f : DecX → DecX) (h : k ≠ n) :
    (s.modDec n f).decOf k = s.decOf k := get_tabMod_other _ _ _ h
@[simp] theorem State.dacOf_modDac_same (s : State) (n : Nat) (f : DacX → DacX) :
    (s.modDac n f).dacOf n = f (s.dacOf n) := get_tabMod_same _ _ _ _
theorem State.dacOf_modDac_other (s : State) {n k : Nat} (f : DacX → DacX) (h : k ≠ n) :
    (s.modDac n f).dacOf k = s.dacOf k := get_tabMod_other _ _ _ h
@[simp] theorem State.strmOf_modStrm_same (s : State) (n : Nat) (f : StreamX → StreamX) :
    (s.modStrm n f).strmOf n = f (s.strmOf n) := get_tabMod_same _ _ _ _
theorem State.strmOf_modStrm_other (s : State) {n k : Nat} (f : StreamX → StreamX) (h : k ≠ n) :
    (s.modStrm n f).strmOf k = s.strmOf k := get_tabMod_other _ _ _ h
@[simp] theorem State.pmcOf_modPmc_same (s : State) (n : Nat) (f : PmcX → PmcX) :
    (s.modPmc n f).pmcOf n = f (s.pmcOf n) := get_tabMod_same _ _ _ _
theorem State.pmcOf_modPmc_other (s : State) {n k : Nat} (f : PmcX → PmcX) (h : k ≠ n) :
    (s.modPmc n f).pmcOf k = s.pmcOf k := get_tabMod_other _ _ _ h

/-! ### What each update leaves alone -/

section setReg_
variable (s : State) (r : Reg) (i : Nat) (v : RegVal)
@[simp] theorem State.setReg_pending : (s.setReg r i v).pending = s.pending := rfl
@[simp] theorem State.setReg_cycle : (s.setReg r i v).cycle = s.cycle := rfl
@[simp] theorem State.setReg_frameTimer : (s.setReg r i v).frameTimer = s.frameTimer := rfl
@[simp] theorem State.setReg_interval : (s.setReg r i v).interval = s.interval := rfl
@[simp] theorem State.setReg_freeCtr : (s.setReg r i v).freeCtr = s.freeCtr := rfl
@[simp] theorem State.setReg_captured : (s.setReg r i v).captured = s.captured := rfl
@[simp] theorem State.setReg_staged : (s.setReg r i v).staged = s.staged := rfl
@[simp] theorem State.setReg_committed : (s.setReg r i v).committed = s.committed := rfl
@[simp] theorem State.setReg_early : (s.setReg r i v).early = s.early := rfl
@[simp] theorem State.setReg_risen : (s.setReg r i v).risen = s.risen := rfl
@[simp] theorem State.setReg_recorder : (s.setReg r i v).recorder = s.recorder := rfl
@[simp] theorem State.setReg_lfec : (s.setReg r i v).lfec = s.lfec := rfl
@[simp] theorem State.setReg_lrx : (s.setReg r i v).lrx = s.lrx := rfl
@[simp] theorem State.setReg_eqp : (s.setReg r i v).eqp = s.eqp := rfl
@[simp] theorem State.setReg_grp : (s.setReg r i v).grp = s.grp := rfl
@[simp] theorem State.setReg_ltx : (s.setReg r i v).ltx = s.ltx := rfl
@[simp] theorem State.setReg_hsi : (s.setReg r i v).hsi = s.hsi := rfl
@[simp] theorem State.setReg_hpm : (s.setReg r i v).hpm = s.hpm := rfl
@[simp] theorem State.setReg_chk : (s.setReg r i v).chk = s.chk := rfl
@[simp] theorem State.setReg_chan : (s.setReg r i v).chan = s.chan := rfl
@[simp] theorem State.setReg_clane : (s.setReg r i v).clane = s.clane := rfl
@[simp] theorem State.setReg_cin : (s.setReg r i v).cin = s.cin := rfl
@[simp] theorem State.setReg_time : (s.setReg r i v).time = s.time := rfl
@[simp] theorem State.setReg_tlane : (s.setReg r i v).tlane = s.tlane := rfl
@[simp] theorem State.setReg_cfg : (s.setReg r i v).cfg = s.cfg := rfl
@[simp] theorem State.setReg_mgt : (s.setReg r i v).mgt = s.mgt := rfl
@[simp] theorem State.setReg_tskIn : (s.setReg r i v).tskIn = s.tskIn := rfl
@[simp] theorem State.setReg_tskRule : (s.setReg r i v).tskRule = s.tskRule := rfl
@[simp] theorem State.setReg_sens : (s.setReg r i v).sens = s.sens := rfl
@[simp] theorem State.setReg_thm : (s.setReg r i v).thm = s.thm := rfl
@[simp] theorem State.setReg_pins : (s.setReg r i v).pins = s.pins := rfl
@[simp] theorem State.setReg_mem : (s.setReg r i v).mem = s.mem := rfl
@[simp] theorem State.setReg_pwr : (s.setReg r i v).pwr = s.pwr := rfl
@[simp] theorem State.setReg_hrn : (s.setReg r i v).hrn = s.hrn := rfl
@[simp] theorem State.setReg_clk : (s.setReg r i v).clk = s.clk := rfl
@[simp] theorem State.setReg_sec : (s.setReg r i v).sec = s.sec := rfl
@[simp] theorem State.setReg_jtag : (s.setReg r i v).jtag = s.jtag := rfl
@[simp] theorem State.setReg_tskAt : (s.setReg r i v).tskAt = s.tskAt := rfl
@[simp] theorem State.setReg_hka : (s.setReg r i v).hka = s.hka := rfl
@[simp] theorem State.setReg_dec : (s.setReg r i v).dec = s.dec := rfl
@[simp] theorem State.setReg_dac : (s.setReg r i v).dac = s.dac := rfl
@[simp] theorem State.setReg_strm : (s.setReg r i v).strm = s.strm := rfl
@[simp] theorem State.setReg_pmc : (s.setReg r i v).pmc = s.pmc := rfl
@[simp] theorem State.setReg_pmcSnap : (s.setReg r i v).pmcSnap = s.pmcSnap := rfl
@[simp] theorem State.setReg_memx : (s.setReg r i v).memx = s.memx := rfl
@[simp] theorem State.setReg_dma : (s.setReg r i v).dma = s.dma := rfl
@[simp] theorem State.setReg_engine : (s.setReg r i v).engine = s.engine := rfl
@[simp] theorem State.setReg_flash : (s.setReg r i v).flash = s.flash := rfl
end setReg_

section setFld_
variable (s : State) (f : Field) (i x : Nat)
@[simp] theorem State.setFld_pending : (s.setFld f i x).pending = s.pending := rfl
@[simp] theorem State.setFld_cycle : (s.setFld f i x).cycle = s.cycle := rfl
@[simp] theorem State.setFld_frameTimer : (s.setFld f i x).frameTimer = s.frameTimer := rfl
@[simp] theorem State.setFld_interval : (s.setFld f i x).interval = s.interval := rfl
@[simp] theorem State.setFld_freeCtr : (s.setFld f i x).freeCtr = s.freeCtr := rfl
@[simp] theorem State.setFld_captured : (s.setFld f i x).captured = s.captured := rfl
@[simp] theorem State.setFld_staged : (s.setFld f i x).staged = s.staged := rfl
@[simp] theorem State.setFld_committed : (s.setFld f i x).committed = s.committed := rfl
@[simp] theorem State.setFld_early : (s.setFld f i x).early = s.early := rfl
@[simp] theorem State.setFld_risen : (s.setFld f i x).risen = s.risen := rfl
@[simp] theorem State.setFld_recorder : (s.setFld f i x).recorder = s.recorder := rfl
@[simp] theorem State.setFld_lfec : (s.setFld f i x).lfec = s.lfec := rfl
@[simp] theorem State.setFld_lrx : (s.setFld f i x).lrx = s.lrx := rfl
@[simp] theorem State.setFld_eqp : (s.setFld f i x).eqp = s.eqp := rfl
@[simp] theorem State.setFld_grp : (s.setFld f i x).grp = s.grp := rfl
@[simp] theorem State.setFld_ltx : (s.setFld f i x).ltx = s.ltx := rfl
@[simp] theorem State.setFld_hsi : (s.setFld f i x).hsi = s.hsi := rfl
@[simp] theorem State.setFld_hpm : (s.setFld f i x).hpm = s.hpm := rfl
@[simp] theorem State.setFld_chk : (s.setFld f i x).chk = s.chk := rfl
@[simp] theorem State.setFld_chan : (s.setFld f i x).chan = s.chan := rfl
@[simp] theorem State.setFld_clane : (s.setFld f i x).clane = s.clane := rfl
@[simp] theorem State.setFld_cin : (s.setFld f i x).cin = s.cin := rfl
@[simp] theorem State.setFld_time : (s.setFld f i x).time = s.time := rfl
@[simp] theorem State.setFld_tlane : (s.setFld f i x).tlane = s.tlane := rfl
@[simp] theorem State.setFld_cfg : (s.setFld f i x).cfg = s.cfg := rfl
@[simp] theorem State.setFld_mgt : (s.setFld f i x).mgt = s.mgt := rfl
@[simp] theorem State.setFld_tskIn : (s.setFld f i x).tskIn = s.tskIn := rfl
@[simp] theorem State.setFld_tskRule : (s.setFld f i x).tskRule = s.tskRule := rfl
@[simp] theorem State.setFld_sens : (s.setFld f i x).sens = s.sens := rfl
@[simp] theorem State.setFld_thm : (s.setFld f i x).thm = s.thm := rfl
@[simp] theorem State.setFld_pins : (s.setFld f i x).pins = s.pins := rfl
@[simp] theorem State.setFld_mem : (s.setFld f i x).mem = s.mem := rfl
@[simp] theorem State.setFld_pwr : (s.setFld f i x).pwr = s.pwr := rfl
@[simp] theorem State.setFld_hrn : (s.setFld f i x).hrn = s.hrn := rfl
@[simp] theorem State.setFld_clk : (s.setFld f i x).clk = s.clk := rfl
@[simp] theorem State.setFld_sec : (s.setFld f i x).sec = s.sec := rfl
@[simp] theorem State.setFld_jtag : (s.setFld f i x).jtag = s.jtag := rfl
@[simp] theorem State.setFld_tskAt : (s.setFld f i x).tskAt = s.tskAt := rfl
@[simp] theorem State.setFld_hka : (s.setFld f i x).hka = s.hka := rfl
@[simp] theorem State.setFld_dec : (s.setFld f i x).dec = s.dec := rfl
@[simp] theorem State.setFld_dac : (s.setFld f i x).dac = s.dac := rfl
@[simp] theorem State.setFld_strm : (s.setFld f i x).strm = s.strm := rfl
@[simp] theorem State.setFld_pmc : (s.setFld f i x).pmc = s.pmc := rfl
@[simp] theorem State.setFld_pmcSnap : (s.setFld f i x).pmcSnap = s.pmcSnap := rfl
@[simp] theorem State.setFld_memx : (s.setFld f i x).memx = s.memx := rfl
@[simp] theorem State.setFld_dma : (s.setFld f i x).dma = s.dma := rfl
@[simp] theorem State.setFld_engine : (s.setFld f i x).engine = s.engine := rfl
@[simp] theorem State.setFld_flash : (s.setFld f i x).flash = s.flash := rfl
end setFld_

section setFlag_
variable (s : State) (f : Field) (i : Nat) (b : Bool)
@[simp] theorem State.setFlag_pending : (s.setFlag f i b).pending = s.pending := rfl
@[simp] theorem State.setFlag_cycle : (s.setFlag f i b).cycle = s.cycle := rfl
@[simp] theorem State.setFlag_frameTimer : (s.setFlag f i b).frameTimer = s.frameTimer := rfl
@[simp] theorem State.setFlag_interval : (s.setFlag f i b).interval = s.interval := rfl
@[simp] theorem State.setFlag_freeCtr : (s.setFlag f i b).freeCtr = s.freeCtr := rfl
@[simp] theorem State.setFlag_captured : (s.setFlag f i b).captured = s.captured := rfl
@[simp] theorem State.setFlag_staged : (s.setFlag f i b).staged = s.staged := rfl
@[simp] theorem State.setFlag_committed : (s.setFlag f i b).committed = s.committed := rfl
@[simp] theorem State.setFlag_early : (s.setFlag f i b).early = s.early := rfl
@[simp] theorem State.setFlag_risen : (s.setFlag f i b).risen = s.risen := rfl
@[simp] theorem State.setFlag_recorder : (s.setFlag f i b).recorder = s.recorder := rfl
@[simp] theorem State.setFlag_lfec : (s.setFlag f i b).lfec = s.lfec := rfl
@[simp] theorem State.setFlag_lrx : (s.setFlag f i b).lrx = s.lrx := rfl
@[simp] theorem State.setFlag_eqp : (s.setFlag f i b).eqp = s.eqp := rfl
@[simp] theorem State.setFlag_grp : (s.setFlag f i b).grp = s.grp := rfl
@[simp] theorem State.setFlag_ltx : (s.setFlag f i b).ltx = s.ltx := rfl
@[simp] theorem State.setFlag_hsi : (s.setFlag f i b).hsi = s.hsi := rfl
@[simp] theorem State.setFlag_hpm : (s.setFlag f i b).hpm = s.hpm := rfl
@[simp] theorem State.setFlag_chk : (s.setFlag f i b).chk = s.chk := rfl
@[simp] theorem State.setFlag_chan : (s.setFlag f i b).chan = s.chan := rfl
@[simp] theorem State.setFlag_clane : (s.setFlag f i b).clane = s.clane := rfl
@[simp] theorem State.setFlag_cin : (s.setFlag f i b).cin = s.cin := rfl
@[simp] theorem State.setFlag_time : (s.setFlag f i b).time = s.time := rfl
@[simp] theorem State.setFlag_tlane : (s.setFlag f i b).tlane = s.tlane := rfl
@[simp] theorem State.setFlag_cfg : (s.setFlag f i b).cfg = s.cfg := rfl
@[simp] theorem State.setFlag_mgt : (s.setFlag f i b).mgt = s.mgt := rfl
@[simp] theorem State.setFlag_tskIn : (s.setFlag f i b).tskIn = s.tskIn := rfl
@[simp] theorem State.setFlag_tskRule : (s.setFlag f i b).tskRule = s.tskRule := rfl
@[simp] theorem State.setFlag_sens : (s.setFlag f i b).sens = s.sens := rfl
@[simp] theorem State.setFlag_thm : (s.setFlag f i b).thm = s.thm := rfl
@[simp] theorem State.setFlag_pins : (s.setFlag f i b).pins = s.pins := rfl
@[simp] theorem State.setFlag_mem : (s.setFlag f i b).mem = s.mem := rfl
@[simp] theorem State.setFlag_pwr : (s.setFlag f i b).pwr = s.pwr := rfl
@[simp] theorem State.setFlag_hrn : (s.setFlag f i b).hrn = s.hrn := rfl
@[simp] theorem State.setFlag_clk : (s.setFlag f i b).clk = s.clk := rfl
@[simp] theorem State.setFlag_sec : (s.setFlag f i b).sec = s.sec := rfl
@[simp] theorem State.setFlag_jtag : (s.setFlag f i b).jtag = s.jtag := rfl
@[simp] theorem State.setFlag_tskAt : (s.setFlag f i b).tskAt = s.tskAt := rfl
@[simp] theorem State.setFlag_hka : (s.setFlag f i b).hka = s.hka := rfl
@[simp] theorem State.setFlag_dec : (s.setFlag f i b).dec = s.dec := rfl
@[simp] theorem State.setFlag_dac : (s.setFlag f i b).dac = s.dac := rfl
@[simp] theorem State.setFlag_strm : (s.setFlag f i b).strm = s.strm := rfl
@[simp] theorem State.setFlag_pmc : (s.setFlag f i b).pmc = s.pmc := rfl
@[simp] theorem State.setFlag_pmcSnap : (s.setFlag f i b).pmcSnap = s.pmcSnap := rfl
@[simp] theorem State.setFlag_memx : (s.setFlag f i b).memx = s.memx := rfl
@[simp] theorem State.setFlag_dma : (s.setFlag f i b).dma = s.dma := rfl
@[simp] theorem State.setFlag_engine : (s.setFlag f i b).engine = s.engine := rfl
@[simp] theorem State.setFlag_flash : (s.setFlag f i b).flash = s.flash := rfl
end setFlag_

section count_
variable (s : State) (f : Field) (i n : Nat)
@[simp] theorem State.count_pending : (s.count f i n).pending = s.pending := rfl
@[simp] theorem State.count_cycle : (s.count f i n).cycle = s.cycle := rfl
@[simp] theorem State.count_frameTimer : (s.count f i n).frameTimer = s.frameTimer := rfl
@[simp] theorem State.count_interval : (s.count f i n).interval = s.interval := rfl
@[simp] theorem State.count_freeCtr : (s.count f i n).freeCtr = s.freeCtr := rfl
@[simp] theorem State.count_captured : (s.count f i n).captured = s.captured := rfl
@[simp] theorem State.count_staged : (s.count f i n).staged = s.staged := rfl
@[simp] theorem State.count_committed : (s.count f i n).committed = s.committed := rfl
@[simp] theorem State.count_early : (s.count f i n).early = s.early := rfl
@[simp] theorem State.count_risen : (s.count f i n).risen = s.risen := rfl
@[simp] theorem State.count_recorder : (s.count f i n).recorder = s.recorder := rfl
@[simp] theorem State.count_lfec : (s.count f i n).lfec = s.lfec := rfl
@[simp] theorem State.count_lrx : (s.count f i n).lrx = s.lrx := rfl
@[simp] theorem State.count_eqp : (s.count f i n).eqp = s.eqp := rfl
@[simp] theorem State.count_grp : (s.count f i n).grp = s.grp := rfl
@[simp] theorem State.count_ltx : (s.count f i n).ltx = s.ltx := rfl
@[simp] theorem State.count_hsi : (s.count f i n).hsi = s.hsi := rfl
@[simp] theorem State.count_hpm : (s.count f i n).hpm = s.hpm := rfl
@[simp] theorem State.count_chk : (s.count f i n).chk = s.chk := rfl
@[simp] theorem State.count_chan : (s.count f i n).chan = s.chan := rfl
@[simp] theorem State.count_clane : (s.count f i n).clane = s.clane := rfl
@[simp] theorem State.count_cin : (s.count f i n).cin = s.cin := rfl
@[simp] theorem State.count_time : (s.count f i n).time = s.time := rfl
@[simp] theorem State.count_tlane : (s.count f i n).tlane = s.tlane := rfl
@[simp] theorem State.count_cfg : (s.count f i n).cfg = s.cfg := rfl
@[simp] theorem State.count_mgt : (s.count f i n).mgt = s.mgt := rfl
@[simp] theorem State.count_tskIn : (s.count f i n).tskIn = s.tskIn := rfl
@[simp] theorem State.count_tskRule : (s.count f i n).tskRule = s.tskRule := rfl
@[simp] theorem State.count_sens : (s.count f i n).sens = s.sens := rfl
@[simp] theorem State.count_thm : (s.count f i n).thm = s.thm := rfl
@[simp] theorem State.count_pins : (s.count f i n).pins = s.pins := rfl
@[simp] theorem State.count_mem : (s.count f i n).mem = s.mem := rfl
@[simp] theorem State.count_pwr : (s.count f i n).pwr = s.pwr := rfl
@[simp] theorem State.count_hrn : (s.count f i n).hrn = s.hrn := rfl
@[simp] theorem State.count_clk : (s.count f i n).clk = s.clk := rfl
@[simp] theorem State.count_sec : (s.count f i n).sec = s.sec := rfl
@[simp] theorem State.count_jtag : (s.count f i n).jtag = s.jtag := rfl
@[simp] theorem State.count_tskAt : (s.count f i n).tskAt = s.tskAt := rfl
@[simp] theorem State.count_hka : (s.count f i n).hka = s.hka := rfl
@[simp] theorem State.count_dec : (s.count f i n).dec = s.dec := rfl
@[simp] theorem State.count_dac : (s.count f i n).dac = s.dac := rfl
@[simp] theorem State.count_strm : (s.count f i n).strm = s.strm := rfl
@[simp] theorem State.count_pmc : (s.count f i n).pmc = s.pmc := rfl
@[simp] theorem State.count_pmcSnap : (s.count f i n).pmcSnap = s.pmcSnap := rfl
@[simp] theorem State.count_memx : (s.count f i n).memx = s.memx := rfl
@[simp] theorem State.count_dma : (s.count f i n).dma = s.dma := rfl
@[simp] theorem State.count_engine : (s.count f i n).engine = s.engine := rfl
@[simp] theorem State.count_flash : (s.count f i n).flash = s.flash := rfl
end count_

section resetReg_
variable (s : State) (r : Reg) (i : Nat)
@[simp] theorem State.resetReg_pending : (s.resetReg r i).pending = s.pending := rfl
@[simp] theorem State.resetReg_cycle : (s.resetReg r i).cycle = s.cycle := rfl
@[simp] theorem State.resetReg_frameTimer : (s.resetReg r i).frameTimer = s.frameTimer := rfl
@[simp] theorem State.resetReg_interval : (s.resetReg r i).interval = s.interval := rfl
@[simp] theorem State.resetReg_freeCtr : (s.resetReg r i).freeCtr = s.freeCtr := rfl
@[simp] theorem State.resetReg_captured : (s.resetReg r i).captured = s.captured := rfl
@[simp] theorem State.resetReg_staged : (s.resetReg r i).staged = s.staged := rfl
@[simp] theorem State.resetReg_committed : (s.resetReg r i).committed = s.committed := rfl
@[simp] theorem State.resetReg_early : (s.resetReg r i).early = s.early := rfl
@[simp] theorem State.resetReg_risen : (s.resetReg r i).risen = s.risen := rfl
@[simp] theorem State.resetReg_recorder : (s.resetReg r i).recorder = s.recorder := rfl
@[simp] theorem State.resetReg_lfec : (s.resetReg r i).lfec = s.lfec := rfl
@[simp] theorem State.resetReg_lrx : (s.resetReg r i).lrx = s.lrx := rfl
@[simp] theorem State.resetReg_eqp : (s.resetReg r i).eqp = s.eqp := rfl
@[simp] theorem State.resetReg_grp : (s.resetReg r i).grp = s.grp := rfl
@[simp] theorem State.resetReg_ltx : (s.resetReg r i).ltx = s.ltx := rfl
@[simp] theorem State.resetReg_hsi : (s.resetReg r i).hsi = s.hsi := rfl
@[simp] theorem State.resetReg_hpm : (s.resetReg r i).hpm = s.hpm := rfl
@[simp] theorem State.resetReg_chk : (s.resetReg r i).chk = s.chk := rfl
@[simp] theorem State.resetReg_chan : (s.resetReg r i).chan = s.chan := rfl
@[simp] theorem State.resetReg_clane : (s.resetReg r i).clane = s.clane := rfl
@[simp] theorem State.resetReg_cin : (s.resetReg r i).cin = s.cin := rfl
@[simp] theorem State.resetReg_time : (s.resetReg r i).time = s.time := rfl
@[simp] theorem State.resetReg_tlane : (s.resetReg r i).tlane = s.tlane := rfl
@[simp] theorem State.resetReg_cfg : (s.resetReg r i).cfg = s.cfg := rfl
@[simp] theorem State.resetReg_mgt : (s.resetReg r i).mgt = s.mgt := rfl
@[simp] theorem State.resetReg_tskIn : (s.resetReg r i).tskIn = s.tskIn := rfl
@[simp] theorem State.resetReg_tskRule : (s.resetReg r i).tskRule = s.tskRule := rfl
@[simp] theorem State.resetReg_sens : (s.resetReg r i).sens = s.sens := rfl
@[simp] theorem State.resetReg_thm : (s.resetReg r i).thm = s.thm := rfl
@[simp] theorem State.resetReg_pins : (s.resetReg r i).pins = s.pins := rfl
@[simp] theorem State.resetReg_mem : (s.resetReg r i).mem = s.mem := rfl
@[simp] theorem State.resetReg_pwr : (s.resetReg r i).pwr = s.pwr := rfl
@[simp] theorem State.resetReg_hrn : (s.resetReg r i).hrn = s.hrn := rfl
@[simp] theorem State.resetReg_clk : (s.resetReg r i).clk = s.clk := rfl
@[simp] theorem State.resetReg_sec : (s.resetReg r i).sec = s.sec := rfl
@[simp] theorem State.resetReg_jtag : (s.resetReg r i).jtag = s.jtag := rfl
@[simp] theorem State.resetReg_tskAt : (s.resetReg r i).tskAt = s.tskAt := rfl
@[simp] theorem State.resetReg_hka : (s.resetReg r i).hka = s.hka := rfl
@[simp] theorem State.resetReg_dec : (s.resetReg r i).dec = s.dec := rfl
@[simp] theorem State.resetReg_dac : (s.resetReg r i).dac = s.dac := rfl
@[simp] theorem State.resetReg_strm : (s.resetReg r i).strm = s.strm := rfl
@[simp] theorem State.resetReg_pmc : (s.resetReg r i).pmc = s.pmc := rfl
@[simp] theorem State.resetReg_pmcSnap : (s.resetReg r i).pmcSnap = s.pmcSnap := rfl
@[simp] theorem State.resetReg_memx : (s.resetReg r i).memx = s.memx := rfl
@[simp] theorem State.resetReg_dma : (s.resetReg r i).dma = s.dma := rfl
@[simp] theorem State.resetReg_engine : (s.resetReg r i).engine = s.engine := rfl
@[simp] theorem State.resetReg_flash : (s.resetReg r i).flash = s.flash := rfl
end resetReg_

section modLfec_
variable (s : State) (n : Nat) (f : LfecX → LfecX)
@[simp] theorem State.modLfec_pending : (s.modLfec n f).pending = s.pending := rfl
@[simp] theorem State.modLfec_cycle : (s.modLfec n f).cycle = s.cycle := rfl
@[simp] theorem State.modLfec_frameTimer : (s.modLfec n f).frameTimer = s.frameTimer := rfl
@[simp] theorem State.modLfec_interval : (s.modLfec n f).interval = s.interval := rfl
@[simp] theorem State.modLfec_freeCtr : (s.modLfec n f).freeCtr = s.freeCtr := rfl
@[simp] theorem State.modLfec_regs : (s.modLfec n f).regs = s.regs := rfl
@[simp] theorem State.modLfec_captured : (s.modLfec n f).captured = s.captured := rfl
@[simp] theorem State.modLfec_staged : (s.modLfec n f).staged = s.staged := rfl
@[simp] theorem State.modLfec_committed : (s.modLfec n f).committed = s.committed := rfl
@[simp] theorem State.modLfec_early : (s.modLfec n f).early = s.early := rfl
@[simp] theorem State.modLfec_risen : (s.modLfec n f).risen = s.risen := rfl
@[simp] theorem State.modLfec_recorder : (s.modLfec n f).recorder = s.recorder := rfl
@[simp] theorem State.modLfec_lrx : (s.modLfec n f).lrx = s.lrx := rfl
@[simp] theorem State.modLfec_eqp : (s.modLfec n f).eqp = s.eqp := rfl
@[simp] theorem State.modLfec_grp : (s.modLfec n f).grp = s.grp := rfl
@[simp] theorem State.modLfec_ltx : (s.modLfec n f).ltx = s.ltx := rfl
@[simp] theorem State.modLfec_hsi : (s.modLfec n f).hsi = s.hsi := rfl
@[simp] theorem State.modLfec_hpm : (s.modLfec n f).hpm = s.hpm := rfl
@[simp] theorem State.modLfec_chk : (s.modLfec n f).chk = s.chk := rfl
@[simp] theorem State.modLfec_chan : (s.modLfec n f).chan = s.chan := rfl
@[simp] theorem State.modLfec_clane : (s.modLfec n f).clane = s.clane := rfl
@[simp] theorem State.modLfec_cin : (s.modLfec n f).cin = s.cin := rfl
@[simp] theorem State.modLfec_time : (s.modLfec n f).time = s.time := rfl
@[simp] theorem State.modLfec_tlane : (s.modLfec n f).tlane = s.tlane := rfl
@[simp] theorem State.modLfec_cfg : (s.modLfec n f).cfg = s.cfg := rfl
@[simp] theorem State.modLfec_mgt : (s.modLfec n f).mgt = s.mgt := rfl
@[simp] theorem State.modLfec_tskIn : (s.modLfec n f).tskIn = s.tskIn := rfl
@[simp] theorem State.modLfec_tskRule : (s.modLfec n f).tskRule = s.tskRule := rfl
@[simp] theorem State.modLfec_sens : (s.modLfec n f).sens = s.sens := rfl
@[simp] theorem State.modLfec_thm : (s.modLfec n f).thm = s.thm := rfl
@[simp] theorem State.modLfec_pins : (s.modLfec n f).pins = s.pins := rfl
@[simp] theorem State.modLfec_mem : (s.modLfec n f).mem = s.mem := rfl
@[simp] theorem State.modLfec_pwr : (s.modLfec n f).pwr = s.pwr := rfl
@[simp] theorem State.modLfec_hrn : (s.modLfec n f).hrn = s.hrn := rfl
@[simp] theorem State.modLfec_clk : (s.modLfec n f).clk = s.clk := rfl
@[simp] theorem State.modLfec_sec : (s.modLfec n f).sec = s.sec := rfl
@[simp] theorem State.modLfec_jtag : (s.modLfec n f).jtag = s.jtag := rfl
@[simp] theorem State.modLfec_tskAt : (s.modLfec n f).tskAt = s.tskAt := rfl
@[simp] theorem State.modLfec_hka : (s.modLfec n f).hka = s.hka := rfl
@[simp] theorem State.modLfec_dec : (s.modLfec n f).dec = s.dec := rfl
@[simp] theorem State.modLfec_dac : (s.modLfec n f).dac = s.dac := rfl
@[simp] theorem State.modLfec_strm : (s.modLfec n f).strm = s.strm := rfl
@[simp] theorem State.modLfec_pmc : (s.modLfec n f).pmc = s.pmc := rfl
@[simp] theorem State.modLfec_pmcSnap : (s.modLfec n f).pmcSnap = s.pmcSnap := rfl
@[simp] theorem State.modLfec_memx : (s.modLfec n f).memx = s.memx := rfl
@[simp] theorem State.modLfec_dma : (s.modLfec n f).dma = s.dma := rfl
@[simp] theorem State.modLfec_engine : (s.modLfec n f).engine = s.engine := rfl
@[simp] theorem State.modLfec_flash : (s.modLfec n f).flash = s.flash := rfl
@[simp] theorem State.reg_modLfec (r : Reg) (j : Nat) : (s.modLfec n f).reg r j = s.reg r j := rfl
@[simp] theorem State.fld_modLfec (g : Field) (j : Nat) : (s.modLfec n f).fld g j = s.fld g j := rfl
@[simp] theorem State.flag_modLfec (g : Field) (j : Nat) : (s.modLfec n f).flag g j = s.flag g j := rfl
end modLfec_

section modLrx_
variable (s : State) (n : Nat) (f : LrxX → LrxX)
@[simp] theorem State.modLrx_pending : (s.modLrx n f).pending = s.pending := rfl
@[simp] theorem State.modLrx_cycle : (s.modLrx n f).cycle = s.cycle := rfl
@[simp] theorem State.modLrx_frameTimer : (s.modLrx n f).frameTimer = s.frameTimer := rfl
@[simp] theorem State.modLrx_interval : (s.modLrx n f).interval = s.interval := rfl
@[simp] theorem State.modLrx_freeCtr : (s.modLrx n f).freeCtr = s.freeCtr := rfl
@[simp] theorem State.modLrx_regs : (s.modLrx n f).regs = s.regs := rfl
@[simp] theorem State.modLrx_captured : (s.modLrx n f).captured = s.captured := rfl
@[simp] theorem State.modLrx_staged : (s.modLrx n f).staged = s.staged := rfl
@[simp] theorem State.modLrx_committed : (s.modLrx n f).committed = s.committed := rfl
@[simp] theorem State.modLrx_early : (s.modLrx n f).early = s.early := rfl
@[simp] theorem State.modLrx_risen : (s.modLrx n f).risen = s.risen := rfl
@[simp] theorem State.modLrx_recorder : (s.modLrx n f).recorder = s.recorder := rfl
@[simp] theorem State.modLrx_lfec : (s.modLrx n f).lfec = s.lfec := rfl
@[simp] theorem State.modLrx_eqp : (s.modLrx n f).eqp = s.eqp := rfl
@[simp] theorem State.modLrx_grp : (s.modLrx n f).grp = s.grp := rfl
@[simp] theorem State.modLrx_ltx : (s.modLrx n f).ltx = s.ltx := rfl
@[simp] theorem State.modLrx_hsi : (s.modLrx n f).hsi = s.hsi := rfl
@[simp] theorem State.modLrx_hpm : (s.modLrx n f).hpm = s.hpm := rfl
@[simp] theorem State.modLrx_chk : (s.modLrx n f).chk = s.chk := rfl
@[simp] theorem State.modLrx_chan : (s.modLrx n f).chan = s.chan := rfl
@[simp] theorem State.modLrx_clane : (s.modLrx n f).clane = s.clane := rfl
@[simp] theorem State.modLrx_cin : (s.modLrx n f).cin = s.cin := rfl
@[simp] theorem State.modLrx_time : (s.modLrx n f).time = s.time := rfl
@[simp] theorem State.modLrx_tlane : (s.modLrx n f).tlane = s.tlane := rfl
@[simp] theorem State.modLrx_cfg : (s.modLrx n f).cfg = s.cfg := rfl
@[simp] theorem State.modLrx_mgt : (s.modLrx n f).mgt = s.mgt := rfl
@[simp] theorem State.modLrx_tskIn : (s.modLrx n f).tskIn = s.tskIn := rfl
@[simp] theorem State.modLrx_tskRule : (s.modLrx n f).tskRule = s.tskRule := rfl
@[simp] theorem State.modLrx_sens : (s.modLrx n f).sens = s.sens := rfl
@[simp] theorem State.modLrx_thm : (s.modLrx n f).thm = s.thm := rfl
@[simp] theorem State.modLrx_pins : (s.modLrx n f).pins = s.pins := rfl
@[simp] theorem State.modLrx_mem : (s.modLrx n f).mem = s.mem := rfl
@[simp] theorem State.modLrx_pwr : (s.modLrx n f).pwr = s.pwr := rfl
@[simp] theorem State.modLrx_hrn : (s.modLrx n f).hrn = s.hrn := rfl
@[simp] theorem State.modLrx_clk : (s.modLrx n f).clk = s.clk := rfl
@[simp] theorem State.modLrx_sec : (s.modLrx n f).sec = s.sec := rfl
@[simp] theorem State.modLrx_jtag : (s.modLrx n f).jtag = s.jtag := rfl
@[simp] theorem State.modLrx_tskAt : (s.modLrx n f).tskAt = s.tskAt := rfl
@[simp] theorem State.modLrx_hka : (s.modLrx n f).hka = s.hka := rfl
@[simp] theorem State.modLrx_dec : (s.modLrx n f).dec = s.dec := rfl
@[simp] theorem State.modLrx_dac : (s.modLrx n f).dac = s.dac := rfl
@[simp] theorem State.modLrx_strm : (s.modLrx n f).strm = s.strm := rfl
@[simp] theorem State.modLrx_pmc : (s.modLrx n f).pmc = s.pmc := rfl
@[simp] theorem State.modLrx_pmcSnap : (s.modLrx n f).pmcSnap = s.pmcSnap := rfl
@[simp] theorem State.modLrx_memx : (s.modLrx n f).memx = s.memx := rfl
@[simp] theorem State.modLrx_dma : (s.modLrx n f).dma = s.dma := rfl
@[simp] theorem State.modLrx_engine : (s.modLrx n f).engine = s.engine := rfl
@[simp] theorem State.modLrx_flash : (s.modLrx n f).flash = s.flash := rfl
@[simp] theorem State.reg_modLrx (r : Reg) (j : Nat) : (s.modLrx n f).reg r j = s.reg r j := rfl
@[simp] theorem State.fld_modLrx (g : Field) (j : Nat) : (s.modLrx n f).fld g j = s.fld g j := rfl
@[simp] theorem State.flag_modLrx (g : Field) (j : Nat) : (s.modLrx n f).flag g j = s.flag g j := rfl
end modLrx_

section modEqp_
variable (s : State) (n : Nat) (f : EqX → EqX)
@[simp] theorem State.modEqp_pending : (s.modEqp n f).pending = s.pending := rfl
@[simp] theorem State.modEqp_cycle : (s.modEqp n f).cycle = s.cycle := rfl
@[simp] theorem State.modEqp_frameTimer : (s.modEqp n f).frameTimer = s.frameTimer := rfl
@[simp] theorem State.modEqp_interval : (s.modEqp n f).interval = s.interval := rfl
@[simp] theorem State.modEqp_freeCtr : (s.modEqp n f).freeCtr = s.freeCtr := rfl
@[simp] theorem State.modEqp_regs : (s.modEqp n f).regs = s.regs := rfl
@[simp] theorem State.modEqp_captured : (s.modEqp n f).captured = s.captured := rfl
@[simp] theorem State.modEqp_staged : (s.modEqp n f).staged = s.staged := rfl
@[simp] theorem State.modEqp_committed : (s.modEqp n f).committed = s.committed := rfl
@[simp] theorem State.modEqp_early : (s.modEqp n f).early = s.early := rfl
@[simp] theorem State.modEqp_risen : (s.modEqp n f).risen = s.risen := rfl
@[simp] theorem State.modEqp_recorder : (s.modEqp n f).recorder = s.recorder := rfl
@[simp] theorem State.modEqp_lfec : (s.modEqp n f).lfec = s.lfec := rfl
@[simp] theorem State.modEqp_lrx : (s.modEqp n f).lrx = s.lrx := rfl
@[simp] theorem State.modEqp_grp : (s.modEqp n f).grp = s.grp := rfl
@[simp] theorem State.modEqp_ltx : (s.modEqp n f).ltx = s.ltx := rfl
@[simp] theorem State.modEqp_hsi : (s.modEqp n f).hsi = s.hsi := rfl
@[simp] theorem State.modEqp_hpm : (s.modEqp n f).hpm = s.hpm := rfl
@[simp] theorem State.modEqp_chk : (s.modEqp n f).chk = s.chk := rfl
@[simp] theorem State.modEqp_chan : (s.modEqp n f).chan = s.chan := rfl
@[simp] theorem State.modEqp_clane : (s.modEqp n f).clane = s.clane := rfl
@[simp] theorem State.modEqp_cin : (s.modEqp n f).cin = s.cin := rfl
@[simp] theorem State.modEqp_time : (s.modEqp n f).time = s.time := rfl
@[simp] theorem State.modEqp_tlane : (s.modEqp n f).tlane = s.tlane := rfl
@[simp] theorem State.modEqp_cfg : (s.modEqp n f).cfg = s.cfg := rfl
@[simp] theorem State.modEqp_mgt : (s.modEqp n f).mgt = s.mgt := rfl
@[simp] theorem State.modEqp_tskIn : (s.modEqp n f).tskIn = s.tskIn := rfl
@[simp] theorem State.modEqp_tskRule : (s.modEqp n f).tskRule = s.tskRule := rfl
@[simp] theorem State.modEqp_sens : (s.modEqp n f).sens = s.sens := rfl
@[simp] theorem State.modEqp_thm : (s.modEqp n f).thm = s.thm := rfl
@[simp] theorem State.modEqp_pins : (s.modEqp n f).pins = s.pins := rfl
@[simp] theorem State.modEqp_mem : (s.modEqp n f).mem = s.mem := rfl
@[simp] theorem State.modEqp_pwr : (s.modEqp n f).pwr = s.pwr := rfl
@[simp] theorem State.modEqp_hrn : (s.modEqp n f).hrn = s.hrn := rfl
@[simp] theorem State.modEqp_clk : (s.modEqp n f).clk = s.clk := rfl
@[simp] theorem State.modEqp_sec : (s.modEqp n f).sec = s.sec := rfl
@[simp] theorem State.modEqp_jtag : (s.modEqp n f).jtag = s.jtag := rfl
@[simp] theorem State.modEqp_tskAt : (s.modEqp n f).tskAt = s.tskAt := rfl
@[simp] theorem State.modEqp_hka : (s.modEqp n f).hka = s.hka := rfl
@[simp] theorem State.modEqp_dec : (s.modEqp n f).dec = s.dec := rfl
@[simp] theorem State.modEqp_dac : (s.modEqp n f).dac = s.dac := rfl
@[simp] theorem State.modEqp_strm : (s.modEqp n f).strm = s.strm := rfl
@[simp] theorem State.modEqp_pmc : (s.modEqp n f).pmc = s.pmc := rfl
@[simp] theorem State.modEqp_pmcSnap : (s.modEqp n f).pmcSnap = s.pmcSnap := rfl
@[simp] theorem State.modEqp_memx : (s.modEqp n f).memx = s.memx := rfl
@[simp] theorem State.modEqp_dma : (s.modEqp n f).dma = s.dma := rfl
@[simp] theorem State.modEqp_engine : (s.modEqp n f).engine = s.engine := rfl
@[simp] theorem State.modEqp_flash : (s.modEqp n f).flash = s.flash := rfl
@[simp] theorem State.reg_modEqp (r : Reg) (j : Nat) : (s.modEqp n f).reg r j = s.reg r j := rfl
@[simp] theorem State.fld_modEqp (g : Field) (j : Nat) : (s.modEqp n f).fld g j = s.fld g j := rfl
@[simp] theorem State.flag_modEqp (g : Field) (j : Nat) : (s.modEqp n f).flag g j = s.flag g j := rfl
end modEqp_

section modGrp_
variable (s : State) (n : Nat) (f : GrpX → GrpX)
@[simp] theorem State.modGrp_pending : (s.modGrp n f).pending = s.pending := rfl
@[simp] theorem State.modGrp_cycle : (s.modGrp n f).cycle = s.cycle := rfl
@[simp] theorem State.modGrp_frameTimer : (s.modGrp n f).frameTimer = s.frameTimer := rfl
@[simp] theorem State.modGrp_interval : (s.modGrp n f).interval = s.interval := rfl
@[simp] theorem State.modGrp_freeCtr : (s.modGrp n f).freeCtr = s.freeCtr := rfl
@[simp] theorem State.modGrp_regs : (s.modGrp n f).regs = s.regs := rfl
@[simp] theorem State.modGrp_captured : (s.modGrp n f).captured = s.captured := rfl
@[simp] theorem State.modGrp_staged : (s.modGrp n f).staged = s.staged := rfl
@[simp] theorem State.modGrp_committed : (s.modGrp n f).committed = s.committed := rfl
@[simp] theorem State.modGrp_early : (s.modGrp n f).early = s.early := rfl
@[simp] theorem State.modGrp_risen : (s.modGrp n f).risen = s.risen := rfl
@[simp] theorem State.modGrp_recorder : (s.modGrp n f).recorder = s.recorder := rfl
@[simp] theorem State.modGrp_lfec : (s.modGrp n f).lfec = s.lfec := rfl
@[simp] theorem State.modGrp_lrx : (s.modGrp n f).lrx = s.lrx := rfl
@[simp] theorem State.modGrp_eqp : (s.modGrp n f).eqp = s.eqp := rfl
@[simp] theorem State.modGrp_ltx : (s.modGrp n f).ltx = s.ltx := rfl
@[simp] theorem State.modGrp_hsi : (s.modGrp n f).hsi = s.hsi := rfl
@[simp] theorem State.modGrp_hpm : (s.modGrp n f).hpm = s.hpm := rfl
@[simp] theorem State.modGrp_chk : (s.modGrp n f).chk = s.chk := rfl
@[simp] theorem State.modGrp_chan : (s.modGrp n f).chan = s.chan := rfl
@[simp] theorem State.modGrp_clane : (s.modGrp n f).clane = s.clane := rfl
@[simp] theorem State.modGrp_cin : (s.modGrp n f).cin = s.cin := rfl
@[simp] theorem State.modGrp_time : (s.modGrp n f).time = s.time := rfl
@[simp] theorem State.modGrp_tlane : (s.modGrp n f).tlane = s.tlane := rfl
@[simp] theorem State.modGrp_cfg : (s.modGrp n f).cfg = s.cfg := rfl
@[simp] theorem State.modGrp_mgt : (s.modGrp n f).mgt = s.mgt := rfl
@[simp] theorem State.modGrp_tskIn : (s.modGrp n f).tskIn = s.tskIn := rfl
@[simp] theorem State.modGrp_tskRule : (s.modGrp n f).tskRule = s.tskRule := rfl
@[simp] theorem State.modGrp_sens : (s.modGrp n f).sens = s.sens := rfl
@[simp] theorem State.modGrp_thm : (s.modGrp n f).thm = s.thm := rfl
@[simp] theorem State.modGrp_pins : (s.modGrp n f).pins = s.pins := rfl
@[simp] theorem State.modGrp_mem : (s.modGrp n f).mem = s.mem := rfl
@[simp] theorem State.modGrp_pwr : (s.modGrp n f).pwr = s.pwr := rfl
@[simp] theorem State.modGrp_hrn : (s.modGrp n f).hrn = s.hrn := rfl
@[simp] theorem State.modGrp_clk : (s.modGrp n f).clk = s.clk := rfl
@[simp] theorem State.modGrp_sec : (s.modGrp n f).sec = s.sec := rfl
@[simp] theorem State.modGrp_jtag : (s.modGrp n f).jtag = s.jtag := rfl
@[simp] theorem State.modGrp_tskAt : (s.modGrp n f).tskAt = s.tskAt := rfl
@[simp] theorem State.modGrp_hka : (s.modGrp n f).hka = s.hka := rfl
@[simp] theorem State.modGrp_dec : (s.modGrp n f).dec = s.dec := rfl
@[simp] theorem State.modGrp_dac : (s.modGrp n f).dac = s.dac := rfl
@[simp] theorem State.modGrp_strm : (s.modGrp n f).strm = s.strm := rfl
@[simp] theorem State.modGrp_pmc : (s.modGrp n f).pmc = s.pmc := rfl
@[simp] theorem State.modGrp_pmcSnap : (s.modGrp n f).pmcSnap = s.pmcSnap := rfl
@[simp] theorem State.modGrp_memx : (s.modGrp n f).memx = s.memx := rfl
@[simp] theorem State.modGrp_dma : (s.modGrp n f).dma = s.dma := rfl
@[simp] theorem State.modGrp_engine : (s.modGrp n f).engine = s.engine := rfl
@[simp] theorem State.modGrp_flash : (s.modGrp n f).flash = s.flash := rfl
@[simp] theorem State.reg_modGrp (r : Reg) (j : Nat) : (s.modGrp n f).reg r j = s.reg r j := rfl
@[simp] theorem State.fld_modGrp (g : Field) (j : Nat) : (s.modGrp n f).fld g j = s.fld g j := rfl
@[simp] theorem State.flag_modGrp (g : Field) (j : Nat) : (s.modGrp n f).flag g j = s.flag g j := rfl
end modGrp_

section modLtx_
variable (s : State) (n : Nat) (f : LtxX → LtxX)
@[simp] theorem State.modLtx_pending : (s.modLtx n f).pending = s.pending := rfl
@[simp] theorem State.modLtx_cycle : (s.modLtx n f).cycle = s.cycle := rfl
@[simp] theorem State.modLtx_frameTimer : (s.modLtx n f).frameTimer = s.frameTimer := rfl
@[simp] theorem State.modLtx_interval : (s.modLtx n f).interval = s.interval := rfl
@[simp] theorem State.modLtx_freeCtr : (s.modLtx n f).freeCtr = s.freeCtr := rfl
@[simp] theorem State.modLtx_regs : (s.modLtx n f).regs = s.regs := rfl
@[simp] theorem State.modLtx_captured : (s.modLtx n f).captured = s.captured := rfl
@[simp] theorem State.modLtx_staged : (s.modLtx n f).staged = s.staged := rfl
@[simp] theorem State.modLtx_committed : (s.modLtx n f).committed = s.committed := rfl
@[simp] theorem State.modLtx_early : (s.modLtx n f).early = s.early := rfl
@[simp] theorem State.modLtx_risen : (s.modLtx n f).risen = s.risen := rfl
@[simp] theorem State.modLtx_recorder : (s.modLtx n f).recorder = s.recorder := rfl
@[simp] theorem State.modLtx_lfec : (s.modLtx n f).lfec = s.lfec := rfl
@[simp] theorem State.modLtx_lrx : (s.modLtx n f).lrx = s.lrx := rfl
@[simp] theorem State.modLtx_eqp : (s.modLtx n f).eqp = s.eqp := rfl
@[simp] theorem State.modLtx_grp : (s.modLtx n f).grp = s.grp := rfl
@[simp] theorem State.modLtx_hsi : (s.modLtx n f).hsi = s.hsi := rfl
@[simp] theorem State.modLtx_hpm : (s.modLtx n f).hpm = s.hpm := rfl
@[simp] theorem State.modLtx_chk : (s.modLtx n f).chk = s.chk := rfl
@[simp] theorem State.modLtx_chan : (s.modLtx n f).chan = s.chan := rfl
@[simp] theorem State.modLtx_clane : (s.modLtx n f).clane = s.clane := rfl
@[simp] theorem State.modLtx_cin : (s.modLtx n f).cin = s.cin := rfl
@[simp] theorem State.modLtx_time : (s.modLtx n f).time = s.time := rfl
@[simp] theorem State.modLtx_tlane : (s.modLtx n f).tlane = s.tlane := rfl
@[simp] theorem State.modLtx_cfg : (s.modLtx n f).cfg = s.cfg := rfl
@[simp] theorem State.modLtx_mgt : (s.modLtx n f).mgt = s.mgt := rfl
@[simp] theorem State.modLtx_tskIn : (s.modLtx n f).tskIn = s.tskIn := rfl
@[simp] theorem State.modLtx_tskRule : (s.modLtx n f).tskRule = s.tskRule := rfl
@[simp] theorem State.modLtx_sens : (s.modLtx n f).sens = s.sens := rfl
@[simp] theorem State.modLtx_thm : (s.modLtx n f).thm = s.thm := rfl
@[simp] theorem State.modLtx_pins : (s.modLtx n f).pins = s.pins := rfl
@[simp] theorem State.modLtx_mem : (s.modLtx n f).mem = s.mem := rfl
@[simp] theorem State.modLtx_pwr : (s.modLtx n f).pwr = s.pwr := rfl
@[simp] theorem State.modLtx_hrn : (s.modLtx n f).hrn = s.hrn := rfl
@[simp] theorem State.modLtx_clk : (s.modLtx n f).clk = s.clk := rfl
@[simp] theorem State.modLtx_sec : (s.modLtx n f).sec = s.sec := rfl
@[simp] theorem State.modLtx_jtag : (s.modLtx n f).jtag = s.jtag := rfl
@[simp] theorem State.modLtx_tskAt : (s.modLtx n f).tskAt = s.tskAt := rfl
@[simp] theorem State.modLtx_hka : (s.modLtx n f).hka = s.hka := rfl
@[simp] theorem State.modLtx_dec : (s.modLtx n f).dec = s.dec := rfl
@[simp] theorem State.modLtx_dac : (s.modLtx n f).dac = s.dac := rfl
@[simp] theorem State.modLtx_strm : (s.modLtx n f).strm = s.strm := rfl
@[simp] theorem State.modLtx_pmc : (s.modLtx n f).pmc = s.pmc := rfl
@[simp] theorem State.modLtx_pmcSnap : (s.modLtx n f).pmcSnap = s.pmcSnap := rfl
@[simp] theorem State.modLtx_memx : (s.modLtx n f).memx = s.memx := rfl
@[simp] theorem State.modLtx_dma : (s.modLtx n f).dma = s.dma := rfl
@[simp] theorem State.modLtx_engine : (s.modLtx n f).engine = s.engine := rfl
@[simp] theorem State.modLtx_flash : (s.modLtx n f).flash = s.flash := rfl
@[simp] theorem State.reg_modLtx (r : Reg) (j : Nat) : (s.modLtx n f).reg r j = s.reg r j := rfl
@[simp] theorem State.fld_modLtx (g : Field) (j : Nat) : (s.modLtx n f).fld g j = s.fld g j := rfl
@[simp] theorem State.flag_modLtx (g : Field) (j : Nat) : (s.modLtx n f).flag g j = s.flag g j := rfl
end modLtx_

section modHsi_
variable (s : State) (n : Nat) (f : HsiX → HsiX)
@[simp] theorem State.modHsi_pending : (s.modHsi n f).pending = s.pending := rfl
@[simp] theorem State.modHsi_cycle : (s.modHsi n f).cycle = s.cycle := rfl
@[simp] theorem State.modHsi_frameTimer : (s.modHsi n f).frameTimer = s.frameTimer := rfl
@[simp] theorem State.modHsi_interval : (s.modHsi n f).interval = s.interval := rfl
@[simp] theorem State.modHsi_freeCtr : (s.modHsi n f).freeCtr = s.freeCtr := rfl
@[simp] theorem State.modHsi_regs : (s.modHsi n f).regs = s.regs := rfl
@[simp] theorem State.modHsi_captured : (s.modHsi n f).captured = s.captured := rfl
@[simp] theorem State.modHsi_staged : (s.modHsi n f).staged = s.staged := rfl
@[simp] theorem State.modHsi_committed : (s.modHsi n f).committed = s.committed := rfl
@[simp] theorem State.modHsi_early : (s.modHsi n f).early = s.early := rfl
@[simp] theorem State.modHsi_risen : (s.modHsi n f).risen = s.risen := rfl
@[simp] theorem State.modHsi_recorder : (s.modHsi n f).recorder = s.recorder := rfl
@[simp] theorem State.modHsi_lfec : (s.modHsi n f).lfec = s.lfec := rfl
@[simp] theorem State.modHsi_lrx : (s.modHsi n f).lrx = s.lrx := rfl
@[simp] theorem State.modHsi_eqp : (s.modHsi n f).eqp = s.eqp := rfl
@[simp] theorem State.modHsi_grp : (s.modHsi n f).grp = s.grp := rfl
@[simp] theorem State.modHsi_ltx : (s.modHsi n f).ltx = s.ltx := rfl
@[simp] theorem State.modHsi_hpm : (s.modHsi n f).hpm = s.hpm := rfl
@[simp] theorem State.modHsi_chk : (s.modHsi n f).chk = s.chk := rfl
@[simp] theorem State.modHsi_chan : (s.modHsi n f).chan = s.chan := rfl
@[simp] theorem State.modHsi_clane : (s.modHsi n f).clane = s.clane := rfl
@[simp] theorem State.modHsi_cin : (s.modHsi n f).cin = s.cin := rfl
@[simp] theorem State.modHsi_time : (s.modHsi n f).time = s.time := rfl
@[simp] theorem State.modHsi_tlane : (s.modHsi n f).tlane = s.tlane := rfl
@[simp] theorem State.modHsi_cfg : (s.modHsi n f).cfg = s.cfg := rfl
@[simp] theorem State.modHsi_mgt : (s.modHsi n f).mgt = s.mgt := rfl
@[simp] theorem State.modHsi_tskIn : (s.modHsi n f).tskIn = s.tskIn := rfl
@[simp] theorem State.modHsi_tskRule : (s.modHsi n f).tskRule = s.tskRule := rfl
@[simp] theorem State.modHsi_sens : (s.modHsi n f).sens = s.sens := rfl
@[simp] theorem State.modHsi_thm : (s.modHsi n f).thm = s.thm := rfl
@[simp] theorem State.modHsi_pins : (s.modHsi n f).pins = s.pins := rfl
@[simp] theorem State.modHsi_mem : (s.modHsi n f).mem = s.mem := rfl
@[simp] theorem State.modHsi_pwr : (s.modHsi n f).pwr = s.pwr := rfl
@[simp] theorem State.modHsi_hrn : (s.modHsi n f).hrn = s.hrn := rfl
@[simp] theorem State.modHsi_clk : (s.modHsi n f).clk = s.clk := rfl
@[simp] theorem State.modHsi_sec : (s.modHsi n f).sec = s.sec := rfl
@[simp] theorem State.modHsi_jtag : (s.modHsi n f).jtag = s.jtag := rfl
@[simp] theorem State.modHsi_tskAt : (s.modHsi n f).tskAt = s.tskAt := rfl
@[simp] theorem State.modHsi_hka : (s.modHsi n f).hka = s.hka := rfl
@[simp] theorem State.modHsi_dec : (s.modHsi n f).dec = s.dec := rfl
@[simp] theorem State.modHsi_dac : (s.modHsi n f).dac = s.dac := rfl
@[simp] theorem State.modHsi_strm : (s.modHsi n f).strm = s.strm := rfl
@[simp] theorem State.modHsi_pmc : (s.modHsi n f).pmc = s.pmc := rfl
@[simp] theorem State.modHsi_pmcSnap : (s.modHsi n f).pmcSnap = s.pmcSnap := rfl
@[simp] theorem State.modHsi_memx : (s.modHsi n f).memx = s.memx := rfl
@[simp] theorem State.modHsi_dma : (s.modHsi n f).dma = s.dma := rfl
@[simp] theorem State.modHsi_engine : (s.modHsi n f).engine = s.engine := rfl
@[simp] theorem State.modHsi_flash : (s.modHsi n f).flash = s.flash := rfl
@[simp] theorem State.reg_modHsi (r : Reg) (j : Nat) : (s.modHsi n f).reg r j = s.reg r j := rfl
@[simp] theorem State.fld_modHsi (g : Field) (j : Nat) : (s.modHsi n f).fld g j = s.fld g j := rfl
@[simp] theorem State.flag_modHsi (g : Field) (j : Nat) : (s.modHsi n f).flag g j = s.flag g j := rfl
end modHsi_

section modHpm_
variable (s : State) (n : Nat) (f : HpmX → HpmX)
@[simp] theorem State.modHpm_pending : (s.modHpm n f).pending = s.pending := rfl
@[simp] theorem State.modHpm_cycle : (s.modHpm n f).cycle = s.cycle := rfl
@[simp] theorem State.modHpm_frameTimer : (s.modHpm n f).frameTimer = s.frameTimer := rfl
@[simp] theorem State.modHpm_interval : (s.modHpm n f).interval = s.interval := rfl
@[simp] theorem State.modHpm_freeCtr : (s.modHpm n f).freeCtr = s.freeCtr := rfl
@[simp] theorem State.modHpm_regs : (s.modHpm n f).regs = s.regs := rfl
@[simp] theorem State.modHpm_captured : (s.modHpm n f).captured = s.captured := rfl
@[simp] theorem State.modHpm_staged : (s.modHpm n f).staged = s.staged := rfl
@[simp] theorem State.modHpm_committed : (s.modHpm n f).committed = s.committed := rfl
@[simp] theorem State.modHpm_early : (s.modHpm n f).early = s.early := rfl
@[simp] theorem State.modHpm_risen : (s.modHpm n f).risen = s.risen := rfl
@[simp] theorem State.modHpm_recorder : (s.modHpm n f).recorder = s.recorder := rfl
@[simp] theorem State.modHpm_lfec : (s.modHpm n f).lfec = s.lfec := rfl
@[simp] theorem State.modHpm_lrx : (s.modHpm n f).lrx = s.lrx := rfl
@[simp] theorem State.modHpm_eqp : (s.modHpm n f).eqp = s.eqp := rfl
@[simp] theorem State.modHpm_grp : (s.modHpm n f).grp = s.grp := rfl
@[simp] theorem State.modHpm_ltx : (s.modHpm n f).ltx = s.ltx := rfl
@[simp] theorem State.modHpm_hsi : (s.modHpm n f).hsi = s.hsi := rfl
@[simp] theorem State.modHpm_chk : (s.modHpm n f).chk = s.chk := rfl
@[simp] theorem State.modHpm_chan : (s.modHpm n f).chan = s.chan := rfl
@[simp] theorem State.modHpm_clane : (s.modHpm n f).clane = s.clane := rfl
@[simp] theorem State.modHpm_cin : (s.modHpm n f).cin = s.cin := rfl
@[simp] theorem State.modHpm_time : (s.modHpm n f).time = s.time := rfl
@[simp] theorem State.modHpm_tlane : (s.modHpm n f).tlane = s.tlane := rfl
@[simp] theorem State.modHpm_cfg : (s.modHpm n f).cfg = s.cfg := rfl
@[simp] theorem State.modHpm_mgt : (s.modHpm n f).mgt = s.mgt := rfl
@[simp] theorem State.modHpm_tskIn : (s.modHpm n f).tskIn = s.tskIn := rfl
@[simp] theorem State.modHpm_tskRule : (s.modHpm n f).tskRule = s.tskRule := rfl
@[simp] theorem State.modHpm_sens : (s.modHpm n f).sens = s.sens := rfl
@[simp] theorem State.modHpm_thm : (s.modHpm n f).thm = s.thm := rfl
@[simp] theorem State.modHpm_pins : (s.modHpm n f).pins = s.pins := rfl
@[simp] theorem State.modHpm_mem : (s.modHpm n f).mem = s.mem := rfl
@[simp] theorem State.modHpm_pwr : (s.modHpm n f).pwr = s.pwr := rfl
@[simp] theorem State.modHpm_hrn : (s.modHpm n f).hrn = s.hrn := rfl
@[simp] theorem State.modHpm_clk : (s.modHpm n f).clk = s.clk := rfl
@[simp] theorem State.modHpm_sec : (s.modHpm n f).sec = s.sec := rfl
@[simp] theorem State.modHpm_jtag : (s.modHpm n f).jtag = s.jtag := rfl
@[simp] theorem State.modHpm_tskAt : (s.modHpm n f).tskAt = s.tskAt := rfl
@[simp] theorem State.modHpm_hka : (s.modHpm n f).hka = s.hka := rfl
@[simp] theorem State.modHpm_dec : (s.modHpm n f).dec = s.dec := rfl
@[simp] theorem State.modHpm_dac : (s.modHpm n f).dac = s.dac := rfl
@[simp] theorem State.modHpm_strm : (s.modHpm n f).strm = s.strm := rfl
@[simp] theorem State.modHpm_pmc : (s.modHpm n f).pmc = s.pmc := rfl
@[simp] theorem State.modHpm_pmcSnap : (s.modHpm n f).pmcSnap = s.pmcSnap := rfl
@[simp] theorem State.modHpm_memx : (s.modHpm n f).memx = s.memx := rfl
@[simp] theorem State.modHpm_dma : (s.modHpm n f).dma = s.dma := rfl
@[simp] theorem State.modHpm_engine : (s.modHpm n f).engine = s.engine := rfl
@[simp] theorem State.modHpm_flash : (s.modHpm n f).flash = s.flash := rfl
@[simp] theorem State.reg_modHpm (r : Reg) (j : Nat) : (s.modHpm n f).reg r j = s.reg r j := rfl
@[simp] theorem State.fld_modHpm (g : Field) (j : Nat) : (s.modHpm n f).fld g j = s.fld g j := rfl
@[simp] theorem State.flag_modHpm (g : Field) (j : Nat) : (s.modHpm n f).flag g j = s.flag g j := rfl
end modHpm_

section modChan_
variable (s : State) (n : Nat) (f : ChanX → ChanX)
@[simp] theorem State.modChan_pending : (s.modChan n f).pending = s.pending := rfl
@[simp] theorem State.modChan_cycle : (s.modChan n f).cycle = s.cycle := rfl
@[simp] theorem State.modChan_frameTimer : (s.modChan n f).frameTimer = s.frameTimer := rfl
@[simp] theorem State.modChan_interval : (s.modChan n f).interval = s.interval := rfl
@[simp] theorem State.modChan_freeCtr : (s.modChan n f).freeCtr = s.freeCtr := rfl
@[simp] theorem State.modChan_regs : (s.modChan n f).regs = s.regs := rfl
@[simp] theorem State.modChan_captured : (s.modChan n f).captured = s.captured := rfl
@[simp] theorem State.modChan_staged : (s.modChan n f).staged = s.staged := rfl
@[simp] theorem State.modChan_committed : (s.modChan n f).committed = s.committed := rfl
@[simp] theorem State.modChan_early : (s.modChan n f).early = s.early := rfl
@[simp] theorem State.modChan_risen : (s.modChan n f).risen = s.risen := rfl
@[simp] theorem State.modChan_recorder : (s.modChan n f).recorder = s.recorder := rfl
@[simp] theorem State.modChan_lfec : (s.modChan n f).lfec = s.lfec := rfl
@[simp] theorem State.modChan_lrx : (s.modChan n f).lrx = s.lrx := rfl
@[simp] theorem State.modChan_eqp : (s.modChan n f).eqp = s.eqp := rfl
@[simp] theorem State.modChan_grp : (s.modChan n f).grp = s.grp := rfl
@[simp] theorem State.modChan_ltx : (s.modChan n f).ltx = s.ltx := rfl
@[simp] theorem State.modChan_hsi : (s.modChan n f).hsi = s.hsi := rfl
@[simp] theorem State.modChan_hpm : (s.modChan n f).hpm = s.hpm := rfl
@[simp] theorem State.modChan_chk : (s.modChan n f).chk = s.chk := rfl
@[simp] theorem State.modChan_clane : (s.modChan n f).clane = s.clane := rfl
@[simp] theorem State.modChan_cin : (s.modChan n f).cin = s.cin := rfl
@[simp] theorem State.modChan_time : (s.modChan n f).time = s.time := rfl
@[simp] theorem State.modChan_tlane : (s.modChan n f).tlane = s.tlane := rfl
@[simp] theorem State.modChan_cfg : (s.modChan n f).cfg = s.cfg := rfl
@[simp] theorem State.modChan_mgt : (s.modChan n f).mgt = s.mgt := rfl
@[simp] theorem State.modChan_tskIn : (s.modChan n f).tskIn = s.tskIn := rfl
@[simp] theorem State.modChan_tskRule : (s.modChan n f).tskRule = s.tskRule := rfl
@[simp] theorem State.modChan_sens : (s.modChan n f).sens = s.sens := rfl
@[simp] theorem State.modChan_thm : (s.modChan n f).thm = s.thm := rfl
@[simp] theorem State.modChan_pins : (s.modChan n f).pins = s.pins := rfl
@[simp] theorem State.modChan_mem : (s.modChan n f).mem = s.mem := rfl
@[simp] theorem State.modChan_pwr : (s.modChan n f).pwr = s.pwr := rfl
@[simp] theorem State.modChan_hrn : (s.modChan n f).hrn = s.hrn := rfl
@[simp] theorem State.modChan_clk : (s.modChan n f).clk = s.clk := rfl
@[simp] theorem State.modChan_sec : (s.modChan n f).sec = s.sec := rfl
@[simp] theorem State.modChan_jtag : (s.modChan n f).jtag = s.jtag := rfl
@[simp] theorem State.modChan_tskAt : (s.modChan n f).tskAt = s.tskAt := rfl
@[simp] theorem State.modChan_hka : (s.modChan n f).hka = s.hka := rfl
@[simp] theorem State.modChan_dec : (s.modChan n f).dec = s.dec := rfl
@[simp] theorem State.modChan_dac : (s.modChan n f).dac = s.dac := rfl
@[simp] theorem State.modChan_strm : (s.modChan n f).strm = s.strm := rfl
@[simp] theorem State.modChan_pmc : (s.modChan n f).pmc = s.pmc := rfl
@[simp] theorem State.modChan_pmcSnap : (s.modChan n f).pmcSnap = s.pmcSnap := rfl
@[simp] theorem State.modChan_memx : (s.modChan n f).memx = s.memx := rfl
@[simp] theorem State.modChan_dma : (s.modChan n f).dma = s.dma := rfl
@[simp] theorem State.modChan_engine : (s.modChan n f).engine = s.engine := rfl
@[simp] theorem State.modChan_flash : (s.modChan n f).flash = s.flash := rfl
@[simp] theorem State.reg_modChan (r : Reg) (j : Nat) : (s.modChan n f).reg r j = s.reg r j := rfl
@[simp] theorem State.fld_modChan (g : Field) (j : Nat) : (s.modChan n f).fld g j = s.fld g j := rfl
@[simp] theorem State.flag_modChan (g : Field) (j : Nat) : (s.modChan n f).flag g j = s.flag g j := rfl
end modChan_

section modClane_
variable (s : State) (n : Nat) (f : CLaneX → CLaneX)
@[simp] theorem State.modClane_pending : (s.modClane n f).pending = s.pending := rfl
@[simp] theorem State.modClane_cycle : (s.modClane n f).cycle = s.cycle := rfl
@[simp] theorem State.modClane_frameTimer : (s.modClane n f).frameTimer = s.frameTimer := rfl
@[simp] theorem State.modClane_interval : (s.modClane n f).interval = s.interval := rfl
@[simp] theorem State.modClane_freeCtr : (s.modClane n f).freeCtr = s.freeCtr := rfl
@[simp] theorem State.modClane_regs : (s.modClane n f).regs = s.regs := rfl
@[simp] theorem State.modClane_captured : (s.modClane n f).captured = s.captured := rfl
@[simp] theorem State.modClane_staged : (s.modClane n f).staged = s.staged := rfl
@[simp] theorem State.modClane_committed : (s.modClane n f).committed = s.committed := rfl
@[simp] theorem State.modClane_early : (s.modClane n f).early = s.early := rfl
@[simp] theorem State.modClane_risen : (s.modClane n f).risen = s.risen := rfl
@[simp] theorem State.modClane_recorder : (s.modClane n f).recorder = s.recorder := rfl
@[simp] theorem State.modClane_lfec : (s.modClane n f).lfec = s.lfec := rfl
@[simp] theorem State.modClane_lrx : (s.modClane n f).lrx = s.lrx := rfl
@[simp] theorem State.modClane_eqp : (s.modClane n f).eqp = s.eqp := rfl
@[simp] theorem State.modClane_grp : (s.modClane n f).grp = s.grp := rfl
@[simp] theorem State.modClane_ltx : (s.modClane n f).ltx = s.ltx := rfl
@[simp] theorem State.modClane_hsi : (s.modClane n f).hsi = s.hsi := rfl
@[simp] theorem State.modClane_hpm : (s.modClane n f).hpm = s.hpm := rfl
@[simp] theorem State.modClane_chk : (s.modClane n f).chk = s.chk := rfl
@[simp] theorem State.modClane_chan : (s.modClane n f).chan = s.chan := rfl
@[simp] theorem State.modClane_cin : (s.modClane n f).cin = s.cin := rfl
@[simp] theorem State.modClane_time : (s.modClane n f).time = s.time := rfl
@[simp] theorem State.modClane_tlane : (s.modClane n f).tlane = s.tlane := rfl
@[simp] theorem State.modClane_cfg : (s.modClane n f).cfg = s.cfg := rfl
@[simp] theorem State.modClane_mgt : (s.modClane n f).mgt = s.mgt := rfl
@[simp] theorem State.modClane_tskIn : (s.modClane n f).tskIn = s.tskIn := rfl
@[simp] theorem State.modClane_tskRule : (s.modClane n f).tskRule = s.tskRule := rfl
@[simp] theorem State.modClane_sens : (s.modClane n f).sens = s.sens := rfl
@[simp] theorem State.modClane_thm : (s.modClane n f).thm = s.thm := rfl
@[simp] theorem State.modClane_pins : (s.modClane n f).pins = s.pins := rfl
@[simp] theorem State.modClane_mem : (s.modClane n f).mem = s.mem := rfl
@[simp] theorem State.modClane_pwr : (s.modClane n f).pwr = s.pwr := rfl
@[simp] theorem State.modClane_hrn : (s.modClane n f).hrn = s.hrn := rfl
@[simp] theorem State.modClane_clk : (s.modClane n f).clk = s.clk := rfl
@[simp] theorem State.modClane_sec : (s.modClane n f).sec = s.sec := rfl
@[simp] theorem State.modClane_jtag : (s.modClane n f).jtag = s.jtag := rfl
@[simp] theorem State.modClane_tskAt : (s.modClane n f).tskAt = s.tskAt := rfl
@[simp] theorem State.modClane_hka : (s.modClane n f).hka = s.hka := rfl
@[simp] theorem State.modClane_dec : (s.modClane n f).dec = s.dec := rfl
@[simp] theorem State.modClane_dac : (s.modClane n f).dac = s.dac := rfl
@[simp] theorem State.modClane_strm : (s.modClane n f).strm = s.strm := rfl
@[simp] theorem State.modClane_pmc : (s.modClane n f).pmc = s.pmc := rfl
@[simp] theorem State.modClane_pmcSnap : (s.modClane n f).pmcSnap = s.pmcSnap := rfl
@[simp] theorem State.modClane_memx : (s.modClane n f).memx = s.memx := rfl
@[simp] theorem State.modClane_dma : (s.modClane n f).dma = s.dma := rfl
@[simp] theorem State.modClane_engine : (s.modClane n f).engine = s.engine := rfl
@[simp] theorem State.modClane_flash : (s.modClane n f).flash = s.flash := rfl
@[simp] theorem State.reg_modClane (r : Reg) (j : Nat) : (s.modClane n f).reg r j = s.reg r j := rfl
@[simp] theorem State.fld_modClane (g : Field) (j : Nat) : (s.modClane n f).fld g j = s.fld g j := rfl
@[simp] theorem State.flag_modClane (g : Field) (j : Nat) : (s.modClane n f).flag g j = s.flag g j := rfl
end modClane_

section modTlane_
variable (s : State) (n : Nat) (f : TLaneX → TLaneX)
@[simp] theorem State.modTlane_pending : (s.modTlane n f).pending = s.pending := rfl
@[simp] theorem State.modTlane_cycle : (s.modTlane n f).cycle = s.cycle := rfl
@[simp] theorem State.modTlane_frameTimer : (s.modTlane n f).frameTimer = s.frameTimer := rfl
@[simp] theorem State.modTlane_interval : (s.modTlane n f).interval = s.interval := rfl
@[simp] theorem State.modTlane_freeCtr : (s.modTlane n f).freeCtr = s.freeCtr := rfl
@[simp] theorem State.modTlane_regs : (s.modTlane n f).regs = s.regs := rfl
@[simp] theorem State.modTlane_captured : (s.modTlane n f).captured = s.captured := rfl
@[simp] theorem State.modTlane_staged : (s.modTlane n f).staged = s.staged := rfl
@[simp] theorem State.modTlane_committed : (s.modTlane n f).committed = s.committed := rfl
@[simp] theorem State.modTlane_early : (s.modTlane n f).early = s.early := rfl
@[simp] theorem State.modTlane_risen : (s.modTlane n f).risen = s.risen := rfl
@[simp] theorem State.modTlane_recorder : (s.modTlane n f).recorder = s.recorder := rfl
@[simp] theorem State.modTlane_lfec : (s.modTlane n f).lfec = s.lfec := rfl
@[simp] theorem State.modTlane_lrx : (s.modTlane n f).lrx = s.lrx := rfl
@[simp] theorem State.modTlane_eqp : (s.modTlane n f).eqp = s.eqp := rfl
@[simp] theorem State.modTlane_grp : (s.modTlane n f).grp = s.grp := rfl
@[simp] theorem State.modTlane_ltx : (s.modTlane n f).ltx = s.ltx := rfl
@[simp] theorem State.modTlane_hsi : (s.modTlane n f).hsi = s.hsi := rfl
@[simp] theorem State.modTlane_hpm : (s.modTlane n f).hpm = s.hpm := rfl
@[simp] theorem State.modTlane_chk : (s.modTlane n f).chk = s.chk := rfl
@[simp] theorem State.modTlane_chan : (s.modTlane n f).chan = s.chan := rfl
@[simp] theorem State.modTlane_clane : (s.modTlane n f).clane = s.clane := rfl
@[simp] theorem State.modTlane_cin : (s.modTlane n f).cin = s.cin := rfl
@[simp] theorem State.modTlane_time : (s.modTlane n f).time = s.time := rfl
@[simp] theorem State.modTlane_cfg : (s.modTlane n f).cfg = s.cfg := rfl
@[simp] theorem State.modTlane_mgt : (s.modTlane n f).mgt = s.mgt := rfl
@[simp] theorem State.modTlane_tskIn : (s.modTlane n f).tskIn = s.tskIn := rfl
@[simp] theorem State.modTlane_tskRule : (s.modTlane n f).tskRule = s.tskRule := rfl
@[simp] theorem State.modTlane_sens : (s.modTlane n f).sens = s.sens := rfl
@[simp] theorem State.modTlane_thm : (s.modTlane n f).thm = s.thm := rfl
@[simp] theorem State.modTlane_pins : (s.modTlane n f).pins = s.pins := rfl
@[simp] theorem State.modTlane_mem : (s.modTlane n f).mem = s.mem := rfl
@[simp] theorem State.modTlane_pwr : (s.modTlane n f).pwr = s.pwr := rfl
@[simp] theorem State.modTlane_hrn : (s.modTlane n f).hrn = s.hrn := rfl
@[simp] theorem State.modTlane_clk : (s.modTlane n f).clk = s.clk := rfl
@[simp] theorem State.modTlane_sec : (s.modTlane n f).sec = s.sec := rfl
@[simp] theorem State.modTlane_jtag : (s.modTlane n f).jtag = s.jtag := rfl
@[simp] theorem State.modTlane_tskAt : (s.modTlane n f).tskAt = s.tskAt := rfl
@[simp] theorem State.modTlane_hka : (s.modTlane n f).hka = s.hka := rfl
@[simp] theorem State.modTlane_dec : (s.modTlane n f).dec = s.dec := rfl
@[simp] theorem State.modTlane_dac : (s.modTlane n f).dac = s.dac := rfl
@[simp] theorem State.modTlane_strm : (s.modTlane n f).strm = s.strm := rfl
@[simp] theorem State.modTlane_pmc : (s.modTlane n f).pmc = s.pmc := rfl
@[simp] theorem State.modTlane_pmcSnap : (s.modTlane n f).pmcSnap = s.pmcSnap := rfl
@[simp] theorem State.modTlane_memx : (s.modTlane n f).memx = s.memx := rfl
@[simp] theorem State.modTlane_dma : (s.modTlane n f).dma = s.dma := rfl
@[simp] theorem State.modTlane_engine : (s.modTlane n f).engine = s.engine := rfl
@[simp] theorem State.modTlane_flash : (s.modTlane n f).flash = s.flash := rfl
@[simp] theorem State.reg_modTlane (r : Reg) (j : Nat) : (s.modTlane n f).reg r j = s.reg r j := rfl
@[simp] theorem State.fld_modTlane (g : Field) (j : Nat) : (s.modTlane n f).fld g j = s.fld g j := rfl
@[simp] theorem State.flag_modTlane (g : Field) (j : Nat) : (s.modTlane n f).flag g j = s.flag g j := rfl
end modTlane_

section modTskIn_
variable (s : State) (n : Nat) (f : TskInX → TskInX)
@[simp] theorem State.modTskIn_pending : (s.modTskIn n f).pending = s.pending := rfl
@[simp] theorem State.modTskIn_cycle : (s.modTskIn n f).cycle = s.cycle := rfl
@[simp] theorem State.modTskIn_frameTimer : (s.modTskIn n f).frameTimer = s.frameTimer := rfl
@[simp] theorem State.modTskIn_interval : (s.modTskIn n f).interval = s.interval := rfl
@[simp] theorem State.modTskIn_freeCtr : (s.modTskIn n f).freeCtr = s.freeCtr := rfl
@[simp] theorem State.modTskIn_regs : (s.modTskIn n f).regs = s.regs := rfl
@[simp] theorem State.modTskIn_captured : (s.modTskIn n f).captured = s.captured := rfl
@[simp] theorem State.modTskIn_staged : (s.modTskIn n f).staged = s.staged := rfl
@[simp] theorem State.modTskIn_committed : (s.modTskIn n f).committed = s.committed := rfl
@[simp] theorem State.modTskIn_early : (s.modTskIn n f).early = s.early := rfl
@[simp] theorem State.modTskIn_risen : (s.modTskIn n f).risen = s.risen := rfl
@[simp] theorem State.modTskIn_recorder : (s.modTskIn n f).recorder = s.recorder := rfl
@[simp] theorem State.modTskIn_lfec : (s.modTskIn n f).lfec = s.lfec := rfl
@[simp] theorem State.modTskIn_lrx : (s.modTskIn n f).lrx = s.lrx := rfl
@[simp] theorem State.modTskIn_eqp : (s.modTskIn n f).eqp = s.eqp := rfl
@[simp] theorem State.modTskIn_grp : (s.modTskIn n f).grp = s.grp := rfl
@[simp] theorem State.modTskIn_ltx : (s.modTskIn n f).ltx = s.ltx := rfl
@[simp] theorem State.modTskIn_hsi : (s.modTskIn n f).hsi = s.hsi := rfl
@[simp] theorem State.modTskIn_hpm : (s.modTskIn n f).hpm = s.hpm := rfl
@[simp] theorem State.modTskIn_chk : (s.modTskIn n f).chk = s.chk := rfl
@[simp] theorem State.modTskIn_chan : (s.modTskIn n f).chan = s.chan := rfl
@[simp] theorem State.modTskIn_clane : (s.modTskIn n f).clane = s.clane := rfl
@[simp] theorem State.modTskIn_cin : (s.modTskIn n f).cin = s.cin := rfl
@[simp] theorem State.modTskIn_time : (s.modTskIn n f).time = s.time := rfl
@[simp] theorem State.modTskIn_tlane : (s.modTskIn n f).tlane = s.tlane := rfl
@[simp] theorem State.modTskIn_cfg : (s.modTskIn n f).cfg = s.cfg := rfl
@[simp] theorem State.modTskIn_mgt : (s.modTskIn n f).mgt = s.mgt := rfl
@[simp] theorem State.modTskIn_tskRule : (s.modTskIn n f).tskRule = s.tskRule := rfl
@[simp] theorem State.modTskIn_sens : (s.modTskIn n f).sens = s.sens := rfl
@[simp] theorem State.modTskIn_thm : (s.modTskIn n f).thm = s.thm := rfl
@[simp] theorem State.modTskIn_pins : (s.modTskIn n f).pins = s.pins := rfl
@[simp] theorem State.modTskIn_mem : (s.modTskIn n f).mem = s.mem := rfl
@[simp] theorem State.modTskIn_pwr : (s.modTskIn n f).pwr = s.pwr := rfl
@[simp] theorem State.modTskIn_hrn : (s.modTskIn n f).hrn = s.hrn := rfl
@[simp] theorem State.modTskIn_clk : (s.modTskIn n f).clk = s.clk := rfl
@[simp] theorem State.modTskIn_sec : (s.modTskIn n f).sec = s.sec := rfl
@[simp] theorem State.modTskIn_jtag : (s.modTskIn n f).jtag = s.jtag := rfl
@[simp] theorem State.modTskIn_tskAt : (s.modTskIn n f).tskAt = s.tskAt := rfl
@[simp] theorem State.modTskIn_hka : (s.modTskIn n f).hka = s.hka := rfl
@[simp] theorem State.modTskIn_dec : (s.modTskIn n f).dec = s.dec := rfl
@[simp] theorem State.modTskIn_dac : (s.modTskIn n f).dac = s.dac := rfl
@[simp] theorem State.modTskIn_strm : (s.modTskIn n f).strm = s.strm := rfl
@[simp] theorem State.modTskIn_pmc : (s.modTskIn n f).pmc = s.pmc := rfl
@[simp] theorem State.modTskIn_pmcSnap : (s.modTskIn n f).pmcSnap = s.pmcSnap := rfl
@[simp] theorem State.modTskIn_memx : (s.modTskIn n f).memx = s.memx := rfl
@[simp] theorem State.modTskIn_dma : (s.modTskIn n f).dma = s.dma := rfl
@[simp] theorem State.modTskIn_engine : (s.modTskIn n f).engine = s.engine := rfl
@[simp] theorem State.modTskIn_flash : (s.modTskIn n f).flash = s.flash := rfl
@[simp] theorem State.reg_modTskIn (r : Reg) (j : Nat) : (s.modTskIn n f).reg r j = s.reg r j := rfl
@[simp] theorem State.fld_modTskIn (g : Field) (j : Nat) : (s.modTskIn n f).fld g j = s.fld g j := rfl
@[simp] theorem State.flag_modTskIn (g : Field) (j : Nat) : (s.modTskIn n f).flag g j = s.flag g j := rfl
end modTskIn_

section modTskRule_
variable (s : State) (n : Nat) (f : TskRuleX → TskRuleX)
@[simp] theorem State.modTskRule_pending : (s.modTskRule n f).pending = s.pending := rfl
@[simp] theorem State.modTskRule_cycle : (s.modTskRule n f).cycle = s.cycle := rfl
@[simp] theorem State.modTskRule_frameTimer : (s.modTskRule n f).frameTimer = s.frameTimer := rfl
@[simp] theorem State.modTskRule_interval : (s.modTskRule n f).interval = s.interval := rfl
@[simp] theorem State.modTskRule_freeCtr : (s.modTskRule n f).freeCtr = s.freeCtr := rfl
@[simp] theorem State.modTskRule_regs : (s.modTskRule n f).regs = s.regs := rfl
@[simp] theorem State.modTskRule_captured : (s.modTskRule n f).captured = s.captured := rfl
@[simp] theorem State.modTskRule_staged : (s.modTskRule n f).staged = s.staged := rfl
@[simp] theorem State.modTskRule_committed : (s.modTskRule n f).committed = s.committed := rfl
@[simp] theorem State.modTskRule_early : (s.modTskRule n f).early = s.early := rfl
@[simp] theorem State.modTskRule_risen : (s.modTskRule n f).risen = s.risen := rfl
@[simp] theorem State.modTskRule_recorder : (s.modTskRule n f).recorder = s.recorder := rfl
@[simp] theorem State.modTskRule_lfec : (s.modTskRule n f).lfec = s.lfec := rfl
@[simp] theorem State.modTskRule_lrx : (s.modTskRule n f).lrx = s.lrx := rfl
@[simp] theorem State.modTskRule_eqp : (s.modTskRule n f).eqp = s.eqp := rfl
@[simp] theorem State.modTskRule_grp : (s.modTskRule n f).grp = s.grp := rfl
@[simp] theorem State.modTskRule_ltx : (s.modTskRule n f).ltx = s.ltx := rfl
@[simp] theorem State.modTskRule_hsi : (s.modTskRule n f).hsi = s.hsi := rfl
@[simp] theorem State.modTskRule_hpm : (s.modTskRule n f).hpm = s.hpm := rfl
@[simp] theorem State.modTskRule_chk : (s.modTskRule n f).chk = s.chk := rfl
@[simp] theorem State.modTskRule_chan : (s.modTskRule n f).chan = s.chan := rfl
@[simp] theorem State.modTskRule_clane : (s.modTskRule n f).clane = s.clane := rfl
@[simp] theorem State.modTskRule_cin : (s.modTskRule n f).cin = s.cin := rfl
@[simp] theorem State.modTskRule_time : (s.modTskRule n f).time = s.time := rfl
@[simp] theorem State.modTskRule_tlane : (s.modTskRule n f).tlane = s.tlane := rfl
@[simp] theorem State.modTskRule_cfg : (s.modTskRule n f).cfg = s.cfg := rfl
@[simp] theorem State.modTskRule_mgt : (s.modTskRule n f).mgt = s.mgt := rfl
@[simp] theorem State.modTskRule_tskIn : (s.modTskRule n f).tskIn = s.tskIn := rfl
@[simp] theorem State.modTskRule_sens : (s.modTskRule n f).sens = s.sens := rfl
@[simp] theorem State.modTskRule_thm : (s.modTskRule n f).thm = s.thm := rfl
@[simp] theorem State.modTskRule_pins : (s.modTskRule n f).pins = s.pins := rfl
@[simp] theorem State.modTskRule_mem : (s.modTskRule n f).mem = s.mem := rfl
@[simp] theorem State.modTskRule_pwr : (s.modTskRule n f).pwr = s.pwr := rfl
@[simp] theorem State.modTskRule_hrn : (s.modTskRule n f).hrn = s.hrn := rfl
@[simp] theorem State.modTskRule_clk : (s.modTskRule n f).clk = s.clk := rfl
@[simp] theorem State.modTskRule_sec : (s.modTskRule n f).sec = s.sec := rfl
@[simp] theorem State.modTskRule_jtag : (s.modTskRule n f).jtag = s.jtag := rfl
@[simp] theorem State.modTskRule_tskAt : (s.modTskRule n f).tskAt = s.tskAt := rfl
@[simp] theorem State.modTskRule_hka : (s.modTskRule n f).hka = s.hka := rfl
@[simp] theorem State.modTskRule_dec : (s.modTskRule n f).dec = s.dec := rfl
@[simp] theorem State.modTskRule_dac : (s.modTskRule n f).dac = s.dac := rfl
@[simp] theorem State.modTskRule_strm : (s.modTskRule n f).strm = s.strm := rfl
@[simp] theorem State.modTskRule_pmc : (s.modTskRule n f).pmc = s.pmc := rfl
@[simp] theorem State.modTskRule_pmcSnap : (s.modTskRule n f).pmcSnap = s.pmcSnap := rfl
@[simp] theorem State.modTskRule_memx : (s.modTskRule n f).memx = s.memx := rfl
@[simp] theorem State.modTskRule_dma : (s.modTskRule n f).dma = s.dma := rfl
@[simp] theorem State.modTskRule_engine : (s.modTskRule n f).engine = s.engine := rfl
@[simp] theorem State.modTskRule_flash : (s.modTskRule n f).flash = s.flash := rfl
@[simp] theorem State.reg_modTskRule (r : Reg) (j : Nat) : (s.modTskRule n f).reg r j = s.reg r j := rfl
@[simp] theorem State.fld_modTskRule (g : Field) (j : Nat) : (s.modTskRule n f).fld g j = s.fld g j := rfl
@[simp] theorem State.flag_modTskRule (g : Field) (j : Nat) : (s.modTskRule n f).flag g j = s.flag g j := rfl
end modTskRule_

section modSens_
variable (s : State) (n : Nat) (f : SensX → SensX)
@[simp] theorem State.modSens_pending : (s.modSens n f).pending = s.pending := rfl
@[simp] theorem State.modSens_cycle : (s.modSens n f).cycle = s.cycle := rfl
@[simp] theorem State.modSens_frameTimer : (s.modSens n f).frameTimer = s.frameTimer := rfl
@[simp] theorem State.modSens_interval : (s.modSens n f).interval = s.interval := rfl
@[simp] theorem State.modSens_freeCtr : (s.modSens n f).freeCtr = s.freeCtr := rfl
@[simp] theorem State.modSens_regs : (s.modSens n f).regs = s.regs := rfl
@[simp] theorem State.modSens_captured : (s.modSens n f).captured = s.captured := rfl
@[simp] theorem State.modSens_staged : (s.modSens n f).staged = s.staged := rfl
@[simp] theorem State.modSens_committed : (s.modSens n f).committed = s.committed := rfl
@[simp] theorem State.modSens_early : (s.modSens n f).early = s.early := rfl
@[simp] theorem State.modSens_risen : (s.modSens n f).risen = s.risen := rfl
@[simp] theorem State.modSens_recorder : (s.modSens n f).recorder = s.recorder := rfl
@[simp] theorem State.modSens_lfec : (s.modSens n f).lfec = s.lfec := rfl
@[simp] theorem State.modSens_lrx : (s.modSens n f).lrx = s.lrx := rfl
@[simp] theorem State.modSens_eqp : (s.modSens n f).eqp = s.eqp := rfl
@[simp] theorem State.modSens_grp : (s.modSens n f).grp = s.grp := rfl
@[simp] theorem State.modSens_ltx : (s.modSens n f).ltx = s.ltx := rfl
@[simp] theorem State.modSens_hsi : (s.modSens n f).hsi = s.hsi := rfl
@[simp] theorem State.modSens_hpm : (s.modSens n f).hpm = s.hpm := rfl
@[simp] theorem State.modSens_chk : (s.modSens n f).chk = s.chk := rfl
@[simp] theorem State.modSens_chan : (s.modSens n f).chan = s.chan := rfl
@[simp] theorem State.modSens_clane : (s.modSens n f).clane = s.clane := rfl
@[simp] theorem State.modSens_cin : (s.modSens n f).cin = s.cin := rfl
@[simp] theorem State.modSens_time : (s.modSens n f).time = s.time := rfl
@[simp] theorem State.modSens_tlane : (s.modSens n f).tlane = s.tlane := rfl
@[simp] theorem State.modSens_cfg : (s.modSens n f).cfg = s.cfg := rfl
@[simp] theorem State.modSens_mgt : (s.modSens n f).mgt = s.mgt := rfl
@[simp] theorem State.modSens_tskIn : (s.modSens n f).tskIn = s.tskIn := rfl
@[simp] theorem State.modSens_tskRule : (s.modSens n f).tskRule = s.tskRule := rfl
@[simp] theorem State.modSens_thm : (s.modSens n f).thm = s.thm := rfl
@[simp] theorem State.modSens_pins : (s.modSens n f).pins = s.pins := rfl
@[simp] theorem State.modSens_mem : (s.modSens n f).mem = s.mem := rfl
@[simp] theorem State.modSens_pwr : (s.modSens n f).pwr = s.pwr := rfl
@[simp] theorem State.modSens_hrn : (s.modSens n f).hrn = s.hrn := rfl
@[simp] theorem State.modSens_clk : (s.modSens n f).clk = s.clk := rfl
@[simp] theorem State.modSens_sec : (s.modSens n f).sec = s.sec := rfl
@[simp] theorem State.modSens_jtag : (s.modSens n f).jtag = s.jtag := rfl
@[simp] theorem State.modSens_tskAt : (s.modSens n f).tskAt = s.tskAt := rfl
@[simp] theorem State.modSens_hka : (s.modSens n f).hka = s.hka := rfl
@[simp] theorem State.modSens_dec : (s.modSens n f).dec = s.dec := rfl
@[simp] theorem State.modSens_dac : (s.modSens n f).dac = s.dac := rfl
@[simp] theorem State.modSens_strm : (s.modSens n f).strm = s.strm := rfl
@[simp] theorem State.modSens_pmc : (s.modSens n f).pmc = s.pmc := rfl
@[simp] theorem State.modSens_pmcSnap : (s.modSens n f).pmcSnap = s.pmcSnap := rfl
@[simp] theorem State.modSens_memx : (s.modSens n f).memx = s.memx := rfl
@[simp] theorem State.modSens_dma : (s.modSens n f).dma = s.dma := rfl
@[simp] theorem State.modSens_engine : (s.modSens n f).engine = s.engine := rfl
@[simp] theorem State.modSens_flash : (s.modSens n f).flash = s.flash := rfl
@[simp] theorem State.reg_modSens (r : Reg) (j : Nat) : (s.modSens n f).reg r j = s.reg r j := rfl
@[simp] theorem State.fld_modSens (g : Field) (j : Nat) : (s.modSens n f).fld g j = s.fld g j := rfl
@[simp] theorem State.flag_modSens (g : Field) (j : Nat) : (s.modSens n f).flag g j = s.flag g j := rfl
end modSens_

section modDma_
variable (s : State) (n : Nat) (f : DmaX → DmaX)
@[simp] theorem State.modDma_pending : (s.modDma n f).pending = s.pending := rfl
@[simp] theorem State.modDma_cycle : (s.modDma n f).cycle = s.cycle := rfl
@[simp] theorem State.modDma_frameTimer : (s.modDma n f).frameTimer = s.frameTimer := rfl
@[simp] theorem State.modDma_interval : (s.modDma n f).interval = s.interval := rfl
@[simp] theorem State.modDma_freeCtr : (s.modDma n f).freeCtr = s.freeCtr := rfl
@[simp] theorem State.modDma_regs : (s.modDma n f).regs = s.regs := rfl
@[simp] theorem State.modDma_captured : (s.modDma n f).captured = s.captured := rfl
@[simp] theorem State.modDma_staged : (s.modDma n f).staged = s.staged := rfl
@[simp] theorem State.modDma_committed : (s.modDma n f).committed = s.committed := rfl
@[simp] theorem State.modDma_early : (s.modDma n f).early = s.early := rfl
@[simp] theorem State.modDma_risen : (s.modDma n f).risen = s.risen := rfl
@[simp] theorem State.modDma_recorder : (s.modDma n f).recorder = s.recorder := rfl
@[simp] theorem State.modDma_lfec : (s.modDma n f).lfec = s.lfec := rfl
@[simp] theorem State.modDma_lrx : (s.modDma n f).lrx = s.lrx := rfl
@[simp] theorem State.modDma_eqp : (s.modDma n f).eqp = s.eqp := rfl
@[simp] theorem State.modDma_grp : (s.modDma n f).grp = s.grp := rfl
@[simp] theorem State.modDma_ltx : (s.modDma n f).ltx = s.ltx := rfl
@[simp] theorem State.modDma_hsi : (s.modDma n f).hsi = s.hsi := rfl
@[simp] theorem State.modDma_hpm : (s.modDma n f).hpm = s.hpm := rfl
@[simp] theorem State.modDma_chk : (s.modDma n f).chk = s.chk := rfl
@[simp] theorem State.modDma_chan : (s.modDma n f).chan = s.chan := rfl
@[simp] theorem State.modDma_clane : (s.modDma n f).clane = s.clane := rfl
@[simp] theorem State.modDma_cin : (s.modDma n f).cin = s.cin := rfl
@[simp] theorem State.modDma_time : (s.modDma n f).time = s.time := rfl
@[simp] theorem State.modDma_tlane : (s.modDma n f).tlane = s.tlane := rfl
@[simp] theorem State.modDma_cfg : (s.modDma n f).cfg = s.cfg := rfl
@[simp] theorem State.modDma_mgt : (s.modDma n f).mgt = s.mgt := rfl
@[simp] theorem State.modDma_tskIn : (s.modDma n f).tskIn = s.tskIn := rfl
@[simp] theorem State.modDma_tskRule : (s.modDma n f).tskRule = s.tskRule := rfl
@[simp] theorem State.modDma_sens : (s.modDma n f).sens = s.sens := rfl
@[simp] theorem State.modDma_thm : (s.modDma n f).thm = s.thm := rfl
@[simp] theorem State.modDma_pins : (s.modDma n f).pins = s.pins := rfl
@[simp] theorem State.modDma_mem : (s.modDma n f).mem = s.mem := rfl
@[simp] theorem State.modDma_pwr : (s.modDma n f).pwr = s.pwr := rfl
@[simp] theorem State.modDma_hrn : (s.modDma n f).hrn = s.hrn := rfl
@[simp] theorem State.modDma_clk : (s.modDma n f).clk = s.clk := rfl
@[simp] theorem State.modDma_sec : (s.modDma n f).sec = s.sec := rfl
@[simp] theorem State.modDma_jtag : (s.modDma n f).jtag = s.jtag := rfl
@[simp] theorem State.modDma_tskAt : (s.modDma n f).tskAt = s.tskAt := rfl
@[simp] theorem State.modDma_hka : (s.modDma n f).hka = s.hka := rfl
@[simp] theorem State.modDma_dec : (s.modDma n f).dec = s.dec := rfl
@[simp] theorem State.modDma_dac : (s.modDma n f).dac = s.dac := rfl
@[simp] theorem State.modDma_strm : (s.modDma n f).strm = s.strm := rfl
@[simp] theorem State.modDma_pmc : (s.modDma n f).pmc = s.pmc := rfl
@[simp] theorem State.modDma_pmcSnap : (s.modDma n f).pmcSnap = s.pmcSnap := rfl
@[simp] theorem State.modDma_memx : (s.modDma n f).memx = s.memx := rfl
@[simp] theorem State.modDma_engine : (s.modDma n f).engine = s.engine := rfl
@[simp] theorem State.modDma_flash : (s.modDma n f).flash = s.flash := rfl
@[simp] theorem State.reg_modDma (r : Reg) (j : Nat) : (s.modDma n f).reg r j = s.reg r j := rfl
@[simp] theorem State.fld_modDma (g : Field) (j : Nat) : (s.modDma n f).fld g j = s.fld g j := rfl
@[simp] theorem State.flag_modDma (g : Field) (j : Nat) : (s.modDma n f).flag g j = s.flag g j := rfl
end modDma_

section modDec_
variable (s : State) (n : Nat) (f : DecX → DecX)
@[simp] theorem State.modDec_pending : (s.modDec n f).pending = s.pending := rfl
@[simp] theorem State.modDec_cycle : (s.modDec n f).cycle = s.cycle := rfl
@[simp] theorem State.modDec_frameTimer : (s.modDec n f).frameTimer = s.frameTimer := rfl
@[simp] theorem State.modDec_interval : (s.modDec n f).interval = s.interval := rfl
@[simp] theorem State.modDec_freeCtr : (s.modDec n f).freeCtr = s.freeCtr := rfl
@[simp] theorem State.modDec_regs : (s.modDec n f).regs = s.regs := rfl
@[simp] theorem State.modDec_captured : (s.modDec n f).captured = s.captured := rfl
@[simp] theorem State.modDec_staged : (s.modDec n f).staged = s.staged := rfl
@[simp] theorem State.modDec_committed : (s.modDec n f).committed = s.committed := rfl
@[simp] theorem State.modDec_early : (s.modDec n f).early = s.early := rfl
@[simp] theorem State.modDec_risen : (s.modDec n f).risen = s.risen := rfl
@[simp] theorem State.modDec_recorder : (s.modDec n f).recorder = s.recorder := rfl
@[simp] theorem State.modDec_lfec : (s.modDec n f).lfec = s.lfec := rfl
@[simp] theorem State.modDec_lrx : (s.modDec n f).lrx = s.lrx := rfl
@[simp] theorem State.modDec_eqp : (s.modDec n f).eqp = s.eqp := rfl
@[simp] theorem State.modDec_grp : (s.modDec n f).grp = s.grp := rfl
@[simp] theorem State.modDec_ltx : (s.modDec n f).ltx = s.ltx := rfl
@[simp] theorem State.modDec_hsi : (s.modDec n f).hsi = s.hsi := rfl
@[simp] theorem State.modDec_hpm : (s.modDec n f).hpm = s.hpm := rfl
@[simp] theorem State.modDec_chk : (s.modDec n f).chk = s.chk := rfl
@[simp] theorem State.modDec_chan : (s.modDec n f).chan = s.chan := rfl
@[simp] theorem State.modDec_clane : (s.modDec n f).clane = s.clane := rfl
@[simp] theorem State.modDec_cin : (s.modDec n f).cin = s.cin := rfl
@[simp] theorem State.modDec_time : (s.modDec n f).time = s.time := rfl
@[simp] theorem State.modDec_tlane : (s.modDec n f).tlane = s.tlane := rfl
@[simp] theorem State.modDec_cfg : (s.modDec n f).cfg = s.cfg := rfl
@[simp] theorem State.modDec_mgt : (s.modDec n f).mgt = s.mgt := rfl
@[simp] theorem State.modDec_tskIn : (s.modDec n f).tskIn = s.tskIn := rfl
@[simp] theorem State.modDec_tskRule : (s.modDec n f).tskRule = s.tskRule := rfl
@[simp] theorem State.modDec_sens : (s.modDec n f).sens = s.sens := rfl
@[simp] theorem State.modDec_thm : (s.modDec n f).thm = s.thm := rfl
@[simp] theorem State.modDec_pins : (s.modDec n f).pins = s.pins := rfl
@[simp] theorem State.modDec_mem : (s.modDec n f).mem = s.mem := rfl
@[simp] theorem State.modDec_pwr : (s.modDec n f).pwr = s.pwr := rfl
@[simp] theorem State.modDec_hrn : (s.modDec n f).hrn = s.hrn := rfl
@[simp] theorem State.modDec_clk : (s.modDec n f).clk = s.clk := rfl
@[simp] theorem State.modDec_sec : (s.modDec n f).sec = s.sec := rfl
@[simp] theorem State.modDec_jtag : (s.modDec n f).jtag = s.jtag := rfl
@[simp] theorem State.modDec_tskAt : (s.modDec n f).tskAt = s.tskAt := rfl
@[simp] theorem State.modDec_hka : (s.modDec n f).hka = s.hka := rfl
@[simp] theorem State.modDec_dac : (s.modDec n f).dac = s.dac := rfl
@[simp] theorem State.modDec_strm : (s.modDec n f).strm = s.strm := rfl
@[simp] theorem State.modDec_pmc : (s.modDec n f).pmc = s.pmc := rfl
@[simp] theorem State.modDec_pmcSnap : (s.modDec n f).pmcSnap = s.pmcSnap := rfl
@[simp] theorem State.modDec_memx : (s.modDec n f).memx = s.memx := rfl
@[simp] theorem State.modDec_dma : (s.modDec n f).dma = s.dma := rfl
@[simp] theorem State.modDec_engine : (s.modDec n f).engine = s.engine := rfl
@[simp] theorem State.modDec_flash : (s.modDec n f).flash = s.flash := rfl
@[simp] theorem State.reg_modDec (r : Reg) (j : Nat) : (s.modDec n f).reg r j = s.reg r j := rfl
@[simp] theorem State.fld_modDec (g : Field) (j : Nat) : (s.modDec n f).fld g j = s.fld g j := rfl
@[simp] theorem State.flag_modDec (g : Field) (j : Nat) : (s.modDec n f).flag g j = s.flag g j := rfl
end modDec_

section modDac_
variable (s : State) (n : Nat) (f : DacX → DacX)
@[simp] theorem State.modDac_pending : (s.modDac n f).pending = s.pending := rfl
@[simp] theorem State.modDac_cycle : (s.modDac n f).cycle = s.cycle := rfl
@[simp] theorem State.modDac_frameTimer : (s.modDac n f).frameTimer = s.frameTimer := rfl
@[simp] theorem State.modDac_interval : (s.modDac n f).interval = s.interval := rfl
@[simp] theorem State.modDac_freeCtr : (s.modDac n f).freeCtr = s.freeCtr := rfl
@[simp] theorem State.modDac_regs : (s.modDac n f).regs = s.regs := rfl
@[simp] theorem State.modDac_captured : (s.modDac n f).captured = s.captured := rfl
@[simp] theorem State.modDac_staged : (s.modDac n f).staged = s.staged := rfl
@[simp] theorem State.modDac_committed : (s.modDac n f).committed = s.committed := rfl
@[simp] theorem State.modDac_early : (s.modDac n f).early = s.early := rfl
@[simp] theorem State.modDac_risen : (s.modDac n f).risen = s.risen := rfl
@[simp] theorem State.modDac_recorder : (s.modDac n f).recorder = s.recorder := rfl
@[simp] theorem State.modDac_lfec : (s.modDac n f).lfec = s.lfec := rfl
@[simp] theorem State.modDac_lrx : (s.modDac n f).lrx = s.lrx := rfl
@[simp] theorem State.modDac_eqp : (s.modDac n f).eqp = s.eqp := rfl
@[simp] theorem State.modDac_grp : (s.modDac n f).grp = s.grp := rfl
@[simp] theorem State.modDac_ltx : (s.modDac n f).ltx = s.ltx := rfl
@[simp] theorem State.modDac_hsi : (s.modDac n f).hsi = s.hsi := rfl
@[simp] theorem State.modDac_hpm : (s.modDac n f).hpm = s.hpm := rfl
@[simp] theorem State.modDac_chk : (s.modDac n f).chk = s.chk := rfl
@[simp] theorem State.modDac_chan : (s.modDac n f).chan = s.chan := rfl
@[simp] theorem State.modDac_clane : (s.modDac n f).clane = s.clane := rfl
@[simp] theorem State.modDac_cin : (s.modDac n f).cin = s.cin := rfl
@[simp] theorem State.modDac_time : (s.modDac n f).time = s.time := rfl
@[simp] theorem State.modDac_tlane : (s.modDac n f).tlane = s.tlane := rfl
@[simp] theorem State.modDac_cfg : (s.modDac n f).cfg = s.cfg := rfl
@[simp] theorem State.modDac_mgt : (s.modDac n f).mgt = s.mgt := rfl
@[simp] theorem State.modDac_tskIn : (s.modDac n f).tskIn = s.tskIn := rfl
@[simp] theorem State.modDac_tskRule : (s.modDac n f).tskRule = s.tskRule := rfl
@[simp] theorem State.modDac_sens : (s.modDac n f).sens = s.sens := rfl
@[simp] theorem State.modDac_thm : (s.modDac n f).thm = s.thm := rfl
@[simp] theorem State.modDac_pins : (s.modDac n f).pins = s.pins := rfl
@[simp] theorem State.modDac_mem : (s.modDac n f).mem = s.mem := rfl
@[simp] theorem State.modDac_pwr : (s.modDac n f).pwr = s.pwr := rfl
@[simp] theorem State.modDac_hrn : (s.modDac n f).hrn = s.hrn := rfl
@[simp] theorem State.modDac_clk : (s.modDac n f).clk = s.clk := rfl
@[simp] theorem State.modDac_sec : (s.modDac n f).sec = s.sec := rfl
@[simp] theorem State.modDac_jtag : (s.modDac n f).jtag = s.jtag := rfl
@[simp] theorem State.modDac_tskAt : (s.modDac n f).tskAt = s.tskAt := rfl
@[simp] theorem State.modDac_hka : (s.modDac n f).hka = s.hka := rfl
@[simp] theorem State.modDac_dec : (s.modDac n f).dec = s.dec := rfl
@[simp] theorem State.modDac_strm : (s.modDac n f).strm = s.strm := rfl
@[simp] theorem State.modDac_pmc : (s.modDac n f).pmc = s.pmc := rfl
@[simp] theorem State.modDac_pmcSnap : (s.modDac n f).pmcSnap = s.pmcSnap := rfl
@[simp] theorem State.modDac_memx : (s.modDac n f).memx = s.memx := rfl
@[simp] theorem State.modDac_dma : (s.modDac n f).dma = s.dma := rfl
@[simp] theorem State.modDac_engine : (s.modDac n f).engine = s.engine := rfl
@[simp] theorem State.modDac_flash : (s.modDac n f).flash = s.flash := rfl
@[simp] theorem State.reg_modDac (r : Reg) (j : Nat) : (s.modDac n f).reg r j = s.reg r j := rfl
@[simp] theorem State.fld_modDac (g : Field) (j : Nat) : (s.modDac n f).fld g j = s.fld g j := rfl
@[simp] theorem State.flag_modDac (g : Field) (j : Nat) : (s.modDac n f).flag g j = s.flag g j := rfl
end modDac_

section modStrm_
variable (s : State) (n : Nat) (f : StreamX → StreamX)
@[simp] theorem State.modStrm_pending : (s.modStrm n f).pending = s.pending := rfl
@[simp] theorem State.modStrm_cycle : (s.modStrm n f).cycle = s.cycle := rfl
@[simp] theorem State.modStrm_frameTimer : (s.modStrm n f).frameTimer = s.frameTimer := rfl
@[simp] theorem State.modStrm_interval : (s.modStrm n f).interval = s.interval := rfl
@[simp] theorem State.modStrm_freeCtr : (s.modStrm n f).freeCtr = s.freeCtr := rfl
@[simp] theorem State.modStrm_regs : (s.modStrm n f).regs = s.regs := rfl
@[simp] theorem State.modStrm_captured : (s.modStrm n f).captured = s.captured := rfl
@[simp] theorem State.modStrm_staged : (s.modStrm n f).staged = s.staged := rfl
@[simp] theorem State.modStrm_committed : (s.modStrm n f).committed = s.committed := rfl
@[simp] theorem State.modStrm_early : (s.modStrm n f).early = s.early := rfl
@[simp] theorem State.modStrm_risen : (s.modStrm n f).risen = s.risen := rfl
@[simp] theorem State.modStrm_recorder : (s.modStrm n f).recorder = s.recorder := rfl
@[simp] theorem State.modStrm_lfec : (s.modStrm n f).lfec = s.lfec := rfl
@[simp] theorem State.modStrm_lrx : (s.modStrm n f).lrx = s.lrx := rfl
@[simp] theorem State.modStrm_eqp : (s.modStrm n f).eqp = s.eqp := rfl
@[simp] theorem State.modStrm_grp : (s.modStrm n f).grp = s.grp := rfl
@[simp] theorem State.modStrm_ltx : (s.modStrm n f).ltx = s.ltx := rfl
@[simp] theorem State.modStrm_hsi : (s.modStrm n f).hsi = s.hsi := rfl
@[simp] theorem State.modStrm_hpm : (s.modStrm n f).hpm = s.hpm := rfl
@[simp] theorem State.modStrm_chk : (s.modStrm n f).chk = s.chk := rfl
@[simp] theorem State.modStrm_chan : (s.modStrm n f).chan = s.chan := rfl
@[simp] theorem State.modStrm_clane : (s.modStrm n f).clane = s.clane := rfl
@[simp] theorem State.modStrm_cin : (s.modStrm n f).cin = s.cin := rfl
@[simp] theorem State.modStrm_time : (s.modStrm n f).time = s.time := rfl
@[simp] theorem State.modStrm_tlane : (s.modStrm n f).tlane = s.tlane := rfl
@[simp] theorem State.modStrm_cfg : (s.modStrm n f).cfg = s.cfg := rfl
@[simp] theorem State.modStrm_mgt : (s.modStrm n f).mgt = s.mgt := rfl
@[simp] theorem State.modStrm_tskIn : (s.modStrm n f).tskIn = s.tskIn := rfl
@[simp] theorem State.modStrm_tskRule : (s.modStrm n f).tskRule = s.tskRule := rfl
@[simp] theorem State.modStrm_sens : (s.modStrm n f).sens = s.sens := rfl
@[simp] theorem State.modStrm_thm : (s.modStrm n f).thm = s.thm := rfl
@[simp] theorem State.modStrm_pins : (s.modStrm n f).pins = s.pins := rfl
@[simp] theorem State.modStrm_mem : (s.modStrm n f).mem = s.mem := rfl
@[simp] theorem State.modStrm_pwr : (s.modStrm n f).pwr = s.pwr := rfl
@[simp] theorem State.modStrm_hrn : (s.modStrm n f).hrn = s.hrn := rfl
@[simp] theorem State.modStrm_clk : (s.modStrm n f).clk = s.clk := rfl
@[simp] theorem State.modStrm_sec : (s.modStrm n f).sec = s.sec := rfl
@[simp] theorem State.modStrm_jtag : (s.modStrm n f).jtag = s.jtag := rfl
@[simp] theorem State.modStrm_tskAt : (s.modStrm n f).tskAt = s.tskAt := rfl
@[simp] theorem State.modStrm_hka : (s.modStrm n f).hka = s.hka := rfl
@[simp] theorem State.modStrm_dec : (s.modStrm n f).dec = s.dec := rfl
@[simp] theorem State.modStrm_dac : (s.modStrm n f).dac = s.dac := rfl
@[simp] theorem State.modStrm_pmc : (s.modStrm n f).pmc = s.pmc := rfl
@[simp] theorem State.modStrm_pmcSnap : (s.modStrm n f).pmcSnap = s.pmcSnap := rfl
@[simp] theorem State.modStrm_memx : (s.modStrm n f).memx = s.memx := rfl
@[simp] theorem State.modStrm_dma : (s.modStrm n f).dma = s.dma := rfl
@[simp] theorem State.modStrm_engine : (s.modStrm n f).engine = s.engine := rfl
@[simp] theorem State.modStrm_flash : (s.modStrm n f).flash = s.flash := rfl
@[simp] theorem State.reg_modStrm (r : Reg) (j : Nat) : (s.modStrm n f).reg r j = s.reg r j := rfl
@[simp] theorem State.fld_modStrm (g : Field) (j : Nat) : (s.modStrm n f).fld g j = s.fld g j := rfl
@[simp] theorem State.flag_modStrm (g : Field) (j : Nat) : (s.modStrm n f).flag g j = s.flag g j := rfl
end modStrm_

section modPmc_
variable (s : State) (n : Nat) (f : PmcX → PmcX)
@[simp] theorem State.modPmc_pending : (s.modPmc n f).pending = s.pending := rfl
@[simp] theorem State.modPmc_cycle : (s.modPmc n f).cycle = s.cycle := rfl
@[simp] theorem State.modPmc_frameTimer : (s.modPmc n f).frameTimer = s.frameTimer := rfl
@[simp] theorem State.modPmc_interval : (s.modPmc n f).interval = s.interval := rfl
@[simp] theorem State.modPmc_freeCtr : (s.modPmc n f).freeCtr = s.freeCtr := rfl
@[simp] theorem State.modPmc_regs : (s.modPmc n f).regs = s.regs := rfl
@[simp] theorem State.modPmc_captured : (s.modPmc n f).captured = s.captured := rfl
@[simp] theorem State.modPmc_staged : (s.modPmc n f).staged = s.staged := rfl
@[simp] theorem State.modPmc_committed : (s.modPmc n f).committed = s.committed := rfl
@[simp] theorem State.modPmc_early : (s.modPmc n f).early = s.early := rfl
@[simp] theorem State.modPmc_risen : (s.modPmc n f).risen = s.risen := rfl
@[simp] theorem State.modPmc_recorder : (s.modPmc n f).recorder = s.recorder := rfl
@[simp] theorem State.modPmc_lfec : (s.modPmc n f).lfec = s.lfec := rfl
@[simp] theorem State.modPmc_lrx : (s.modPmc n f).lrx = s.lrx := rfl
@[simp] theorem State.modPmc_eqp : (s.modPmc n f).eqp = s.eqp := rfl
@[simp] theorem State.modPmc_grp : (s.modPmc n f).grp = s.grp := rfl
@[simp] theorem State.modPmc_ltx : (s.modPmc n f).ltx = s.ltx := rfl
@[simp] theorem State.modPmc_hsi : (s.modPmc n f).hsi = s.hsi := rfl
@[simp] theorem State.modPmc_hpm : (s.modPmc n f).hpm = s.hpm := rfl
@[simp] theorem State.modPmc_chk : (s.modPmc n f).chk = s.chk := rfl
@[simp] theorem State.modPmc_chan : (s.modPmc n f).chan = s.chan := rfl
@[simp] theorem State.modPmc_clane : (s.modPmc n f).clane = s.clane := rfl
@[simp] theorem State.modPmc_cin : (s.modPmc n f).cin = s.cin := rfl
@[simp] theorem State.modPmc_time : (s.modPmc n f).time = s.time := rfl
@[simp] theorem State.modPmc_tlane : (s.modPmc n f).tlane = s.tlane := rfl
@[simp] theorem State.modPmc_cfg : (s.modPmc n f).cfg = s.cfg := rfl
@[simp] theorem State.modPmc_mgt : (s.modPmc n f).mgt = s.mgt := rfl
@[simp] theorem State.modPmc_tskIn : (s.modPmc n f).tskIn = s.tskIn := rfl
@[simp] theorem State.modPmc_tskRule : (s.modPmc n f).tskRule = s.tskRule := rfl
@[simp] theorem State.modPmc_sens : (s.modPmc n f).sens = s.sens := rfl
@[simp] theorem State.modPmc_thm : (s.modPmc n f).thm = s.thm := rfl
@[simp] theorem State.modPmc_pins : (s.modPmc n f).pins = s.pins := rfl
@[simp] theorem State.modPmc_mem : (s.modPmc n f).mem = s.mem := rfl
@[simp] theorem State.modPmc_pwr : (s.modPmc n f).pwr = s.pwr := rfl
@[simp] theorem State.modPmc_hrn : (s.modPmc n f).hrn = s.hrn := rfl
@[simp] theorem State.modPmc_clk : (s.modPmc n f).clk = s.clk := rfl
@[simp] theorem State.modPmc_sec : (s.modPmc n f).sec = s.sec := rfl
@[simp] theorem State.modPmc_jtag : (s.modPmc n f).jtag = s.jtag := rfl
@[simp] theorem State.modPmc_tskAt : (s.modPmc n f).tskAt = s.tskAt := rfl
@[simp] theorem State.modPmc_hka : (s.modPmc n f).hka = s.hka := rfl
@[simp] theorem State.modPmc_dec : (s.modPmc n f).dec = s.dec := rfl
@[simp] theorem State.modPmc_dac : (s.modPmc n f).dac = s.dac := rfl
@[simp] theorem State.modPmc_strm : (s.modPmc n f).strm = s.strm := rfl
@[simp] theorem State.modPmc_pmcSnap : (s.modPmc n f).pmcSnap = s.pmcSnap := rfl
@[simp] theorem State.modPmc_memx : (s.modPmc n f).memx = s.memx := rfl
@[simp] theorem State.modPmc_dma : (s.modPmc n f).dma = s.dma := rfl
@[simp] theorem State.modPmc_engine : (s.modPmc n f).engine = s.engine := rfl
@[simp] theorem State.modPmc_flash : (s.modPmc n f).flash = s.flash := rfl
@[simp] theorem State.reg_modPmc (r : Reg) (j : Nat) : (s.modPmc n f).reg r j = s.reg r j := rfl
@[simp] theorem State.fld_modPmc (g : Field) (j : Nat) : (s.modPmc n f).fld g j = s.fld g j := rfl
@[simp] theorem State.flag_modPmc (g : Field) (j : Nat) : (s.modPmc n f).flag g j = s.flag g j := rfl
end modPmc_

section modMemx_
variable (s : State) (f : MemX → MemX)
@[simp] theorem State.modMemx_memx : (s.modMemx f).memx = f s.memx := rfl
@[simp] theorem State.modMemx_pending : (s.modMemx f).pending = s.pending := rfl
@[simp] theorem State.modMemx_cycle : (s.modMemx f).cycle = s.cycle := rfl
@[simp] theorem State.modMemx_frameTimer : (s.modMemx f).frameTimer = s.frameTimer := rfl
@[simp] theorem State.modMemx_interval : (s.modMemx f).interval = s.interval := rfl
@[simp] theorem State.modMemx_freeCtr : (s.modMemx f).freeCtr = s.freeCtr := rfl
@[simp] theorem State.modMemx_regs : (s.modMemx f).regs = s.regs := rfl
@[simp] theorem State.modMemx_captured : (s.modMemx f).captured = s.captured := rfl
@[simp] theorem State.modMemx_staged : (s.modMemx f).staged = s.staged := rfl
@[simp] theorem State.modMemx_committed : (s.modMemx f).committed = s.committed := rfl
@[simp] theorem State.modMemx_early : (s.modMemx f).early = s.early := rfl
@[simp] theorem State.modMemx_risen : (s.modMemx f).risen = s.risen := rfl
@[simp] theorem State.modMemx_recorder : (s.modMemx f).recorder = s.recorder := rfl
@[simp] theorem State.modMemx_lfec : (s.modMemx f).lfec = s.lfec := rfl
@[simp] theorem State.modMemx_lrx : (s.modMemx f).lrx = s.lrx := rfl
@[simp] theorem State.modMemx_eqp : (s.modMemx f).eqp = s.eqp := rfl
@[simp] theorem State.modMemx_grp : (s.modMemx f).grp = s.grp := rfl
@[simp] theorem State.modMemx_ltx : (s.modMemx f).ltx = s.ltx := rfl
@[simp] theorem State.modMemx_hsi : (s.modMemx f).hsi = s.hsi := rfl
@[simp] theorem State.modMemx_hpm : (s.modMemx f).hpm = s.hpm := rfl
@[simp] theorem State.modMemx_chk : (s.modMemx f).chk = s.chk := rfl
@[simp] theorem State.modMemx_chan : (s.modMemx f).chan = s.chan := rfl
@[simp] theorem State.modMemx_clane : (s.modMemx f).clane = s.clane := rfl
@[simp] theorem State.modMemx_cin : (s.modMemx f).cin = s.cin := rfl
@[simp] theorem State.modMemx_time : (s.modMemx f).time = s.time := rfl
@[simp] theorem State.modMemx_tlane : (s.modMemx f).tlane = s.tlane := rfl
@[simp] theorem State.modMemx_cfg : (s.modMemx f).cfg = s.cfg := rfl
@[simp] theorem State.modMemx_mgt : (s.modMemx f).mgt = s.mgt := rfl
@[simp] theorem State.modMemx_tskIn : (s.modMemx f).tskIn = s.tskIn := rfl
@[simp] theorem State.modMemx_tskRule : (s.modMemx f).tskRule = s.tskRule := rfl
@[simp] theorem State.modMemx_sens : (s.modMemx f).sens = s.sens := rfl
@[simp] theorem State.modMemx_thm : (s.modMemx f).thm = s.thm := rfl
@[simp] theorem State.modMemx_pins : (s.modMemx f).pins = s.pins := rfl
@[simp] theorem State.modMemx_mem : (s.modMemx f).mem = s.mem := rfl
@[simp] theorem State.modMemx_pwr : (s.modMemx f).pwr = s.pwr := rfl
@[simp] theorem State.modMemx_hrn : (s.modMemx f).hrn = s.hrn := rfl
@[simp] theorem State.modMemx_clk : (s.modMemx f).clk = s.clk := rfl
@[simp] theorem State.modMemx_sec : (s.modMemx f).sec = s.sec := rfl
@[simp] theorem State.modMemx_jtag : (s.modMemx f).jtag = s.jtag := rfl
@[simp] theorem State.modMemx_tskAt : (s.modMemx f).tskAt = s.tskAt := rfl
@[simp] theorem State.modMemx_hka : (s.modMemx f).hka = s.hka := rfl
@[simp] theorem State.modMemx_dec : (s.modMemx f).dec = s.dec := rfl
@[simp] theorem State.modMemx_dac : (s.modMemx f).dac = s.dac := rfl
@[simp] theorem State.modMemx_strm : (s.modMemx f).strm = s.strm := rfl
@[simp] theorem State.modMemx_pmc : (s.modMemx f).pmc = s.pmc := rfl
@[simp] theorem State.modMemx_pmcSnap : (s.modMemx f).pmcSnap = s.pmcSnap := rfl
@[simp] theorem State.modMemx_dma : (s.modMemx f).dma = s.dma := rfl
@[simp] theorem State.modMemx_engine : (s.modMemx f).engine = s.engine := rfl
@[simp] theorem State.modMemx_flash : (s.modMemx f).flash = s.flash := rfl
@[simp] theorem State.reg_modMemx (r : Reg) (j : Nat) : (s.modMemx f).reg r j = s.reg r j := rfl
@[simp] theorem State.fld_modMemx (g : Field) (j : Nat) : (s.modMemx f).fld g j = s.fld g j := rfl
@[simp] theorem State.flag_modMemx (g : Field) (j : Nat) : (s.modMemx f).flag g j = s.flag g j := rfl
end modMemx_

section modHka_
variable (s : State) (f : HkaX → HkaX)
@[simp] theorem State.modHka_hka : (s.modHka f).hka = f s.hka := rfl
@[simp] theorem State.modHka_pending : (s.modHka f).pending = s.pending := rfl
@[simp] theorem State.modHka_cycle : (s.modHka f).cycle = s.cycle := rfl
@[simp] theorem State.modHka_frameTimer : (s.modHka f).frameTimer = s.frameTimer := rfl
@[simp] theorem State.modHka_interval : (s.modHka f).interval = s.interval := rfl
@[simp] theorem State.modHka_freeCtr : (s.modHka f).freeCtr = s.freeCtr := rfl
@[simp] theorem State.modHka_regs : (s.modHka f).regs = s.regs := rfl
@[simp] theorem State.modHka_captured : (s.modHka f).captured = s.captured := rfl
@[simp] theorem State.modHka_staged : (s.modHka f).staged = s.staged := rfl
@[simp] theorem State.modHka_committed : (s.modHka f).committed = s.committed := rfl
@[simp] theorem State.modHka_early : (s.modHka f).early = s.early := rfl
@[simp] theorem State.modHka_risen : (s.modHka f).risen = s.risen := rfl
@[simp] theorem State.modHka_recorder : (s.modHka f).recorder = s.recorder := rfl
@[simp] theorem State.modHka_lfec : (s.modHka f).lfec = s.lfec := rfl
@[simp] theorem State.modHka_lrx : (s.modHka f).lrx = s.lrx := rfl
@[simp] theorem State.modHka_eqp : (s.modHka f).eqp = s.eqp := rfl
@[simp] theorem State.modHka_grp : (s.modHka f).grp = s.grp := rfl
@[simp] theorem State.modHka_ltx : (s.modHka f).ltx = s.ltx := rfl
@[simp] theorem State.modHka_hsi : (s.modHka f).hsi = s.hsi := rfl
@[simp] theorem State.modHka_hpm : (s.modHka f).hpm = s.hpm := rfl
@[simp] theorem State.modHka_chk : (s.modHka f).chk = s.chk := rfl
@[simp] theorem State.modHka_chan : (s.modHka f).chan = s.chan := rfl
@[simp] theorem State.modHka_clane : (s.modHka f).clane = s.clane := rfl
@[simp] theorem State.modHka_cin : (s.modHka f).cin = s.cin := rfl
@[simp] theorem State.modHka_time : (s.modHka f).time = s.time := rfl
@[simp] theorem State.modHka_tlane : (s.modHka f).tlane = s.tlane := rfl
@[simp] theorem State.modHka_cfg : (s.modHka f).cfg = s.cfg := rfl
@[simp] theorem State.modHka_mgt : (s.modHka f).mgt = s.mgt := rfl
@[simp] theorem State.modHka_tskIn : (s.modHka f).tskIn = s.tskIn := rfl
@[simp] theorem State.modHka_tskRule : (s.modHka f).tskRule = s.tskRule := rfl
@[simp] theorem State.modHka_sens : (s.modHka f).sens = s.sens := rfl
@[simp] theorem State.modHka_thm : (s.modHka f).thm = s.thm := rfl
@[simp] theorem State.modHka_pins : (s.modHka f).pins = s.pins := rfl
@[simp] theorem State.modHka_mem : (s.modHka f).mem = s.mem := rfl
@[simp] theorem State.modHka_pwr : (s.modHka f).pwr = s.pwr := rfl
@[simp] theorem State.modHka_hrn : (s.modHka f).hrn = s.hrn := rfl
@[simp] theorem State.modHka_clk : (s.modHka f).clk = s.clk := rfl
@[simp] theorem State.modHka_sec : (s.modHka f).sec = s.sec := rfl
@[simp] theorem State.modHka_jtag : (s.modHka f).jtag = s.jtag := rfl
@[simp] theorem State.modHka_tskAt : (s.modHka f).tskAt = s.tskAt := rfl
@[simp] theorem State.modHka_dec : (s.modHka f).dec = s.dec := rfl
@[simp] theorem State.modHka_dac : (s.modHka f).dac = s.dac := rfl
@[simp] theorem State.modHka_strm : (s.modHka f).strm = s.strm := rfl
@[simp] theorem State.modHka_pmc : (s.modHka f).pmc = s.pmc := rfl
@[simp] theorem State.modHka_pmcSnap : (s.modHka f).pmcSnap = s.pmcSnap := rfl
@[simp] theorem State.modHka_memx : (s.modHka f).memx = s.memx := rfl
@[simp] theorem State.modHka_dma : (s.modHka f).dma = s.dma := rfl
@[simp] theorem State.modHka_engine : (s.modHka f).engine = s.engine := rfl
@[simp] theorem State.modHka_flash : (s.modHka f).flash = s.flash := rfl
@[simp] theorem State.reg_modHka (r : Reg) (j : Nat) : (s.modHka f).reg r j = s.reg r j := rfl
@[simp] theorem State.fld_modHka (g : Field) (j : Nat) : (s.modHka f).fld g j = s.fld g j := rfl
@[simp] theorem State.flag_modHka (g : Field) (j : Nat) : (s.modHka f).flag g j = s.flag g j := rfl
end modHka_

section modPwr_
variable (s : State) (f : PwrX → PwrX)
@[simp] theorem State.modPwr_pwr : (s.modPwr f).pwr = f s.pwr := rfl
@[simp] theorem State.modPwr_pending : (s.modPwr f).pending = s.pending := rfl
@[simp] theorem State.modPwr_cycle : (s.modPwr f).cycle = s.cycle := rfl
@[simp] theorem State.modPwr_frameTimer : (s.modPwr f).frameTimer = s.frameTimer := rfl
@[simp] theorem State.modPwr_interval : (s.modPwr f).interval = s.interval := rfl
@[simp] theorem State.modPwr_freeCtr : (s.modPwr f).freeCtr = s.freeCtr := rfl
@[simp] theorem State.modPwr_regs : (s.modPwr f).regs = s.regs := rfl
@[simp] theorem State.modPwr_captured : (s.modPwr f).captured = s.captured := rfl
@[simp] theorem State.modPwr_staged : (s.modPwr f).staged = s.staged := rfl
@[simp] theorem State.modPwr_committed : (s.modPwr f).committed = s.committed := rfl
@[simp] theorem State.modPwr_early : (s.modPwr f).early = s.early := rfl
@[simp] theorem State.modPwr_risen : (s.modPwr f).risen = s.risen := rfl
@[simp] theorem State.modPwr_recorder : (s.modPwr f).recorder = s.recorder := rfl
@[simp] theorem State.modPwr_lfec : (s.modPwr f).lfec = s.lfec := rfl
@[simp] theorem State.modPwr_lrx : (s.modPwr f).lrx = s.lrx := rfl
@[simp] theorem State.modPwr_eqp : (s.modPwr f).eqp = s.eqp := rfl
@[simp] theorem State.modPwr_grp : (s.modPwr f).grp = s.grp := rfl
@[simp] theorem State.modPwr_ltx : (s.modPwr f).ltx = s.ltx := rfl
@[simp] theorem State.modPwr_hsi : (s.modPwr f).hsi = s.hsi := rfl
@[simp] theorem State.modPwr_hpm : (s.modPwr f).hpm = s.hpm := rfl
@[simp] theorem State.modPwr_chk : (s.modPwr f).chk = s.chk := rfl
@[simp] theorem State.modPwr_chan : (s.modPwr f).chan = s.chan := rfl
@[simp] theorem State.modPwr_clane : (s.modPwr f).clane = s.clane := rfl
@[simp] theorem State.modPwr_cin : (s.modPwr f).cin = s.cin := rfl
@[simp] theorem State.modPwr_time : (s.modPwr f).time = s.time := rfl
@[simp] theorem State.modPwr_tlane : (s.modPwr f).tlane = s.tlane := rfl
@[simp] theorem State.modPwr_cfg : (s.modPwr f).cfg = s.cfg := rfl
@[simp] theorem State.modPwr_mgt : (s.modPwr f).mgt = s.mgt := rfl
@[simp] theorem State.modPwr_tskIn : (s.modPwr f).tskIn = s.tskIn := rfl
@[simp] theorem State.modPwr_tskRule : (s.modPwr f).tskRule = s.tskRule := rfl
@[simp] theorem State.modPwr_sens : (s.modPwr f).sens = s.sens := rfl
@[simp] theorem State.modPwr_thm : (s.modPwr f).thm = s.thm := rfl
@[simp] theorem State.modPwr_pins : (s.modPwr f).pins = s.pins := rfl
@[simp] theorem State.modPwr_mem : (s.modPwr f).mem = s.mem := rfl
@[simp] theorem State.modPwr_hrn : (s.modPwr f).hrn = s.hrn := rfl
@[simp] theorem State.modPwr_clk : (s.modPwr f).clk = s.clk := rfl
@[simp] theorem State.modPwr_sec : (s.modPwr f).sec = s.sec := rfl
@[simp] theorem State.modPwr_jtag : (s.modPwr f).jtag = s.jtag := rfl
@[simp] theorem State.modPwr_tskAt : (s.modPwr f).tskAt = s.tskAt := rfl
@[simp] theorem State.modPwr_hka : (s.modPwr f).hka = s.hka := rfl
@[simp] theorem State.modPwr_dec : (s.modPwr f).dec = s.dec := rfl
@[simp] theorem State.modPwr_dac : (s.modPwr f).dac = s.dac := rfl
@[simp] theorem State.modPwr_strm : (s.modPwr f).strm = s.strm := rfl
@[simp] theorem State.modPwr_pmc : (s.modPwr f).pmc = s.pmc := rfl
@[simp] theorem State.modPwr_pmcSnap : (s.modPwr f).pmcSnap = s.pmcSnap := rfl
@[simp] theorem State.modPwr_memx : (s.modPwr f).memx = s.memx := rfl
@[simp] theorem State.modPwr_dma : (s.modPwr f).dma = s.dma := rfl
@[simp] theorem State.modPwr_engine : (s.modPwr f).engine = s.engine := rfl
@[simp] theorem State.modPwr_flash : (s.modPwr f).flash = s.flash := rfl
@[simp] theorem State.reg_modPwr (r : Reg) (j : Nat) : (s.modPwr f).reg r j = s.reg r j := rfl
@[simp] theorem State.fld_modPwr (g : Field) (j : Nat) : (s.modPwr f).fld g j = s.fld g j := rfl
@[simp] theorem State.flag_modPwr (g : Field) (j : Nat) : (s.modPwr f).flag g j = s.flag g j := rfl
end modPwr_

section modHrn_
variable (s : State) (f : HrnX → HrnX)
@[simp] theorem State.modHrn_hrn : (s.modHrn f).hrn = f s.hrn := rfl
@[simp] theorem State.modHrn_pending : (s.modHrn f).pending = s.pending := rfl
@[simp] theorem State.modHrn_cycle : (s.modHrn f).cycle = s.cycle := rfl
@[simp] theorem State.modHrn_frameTimer : (s.modHrn f).frameTimer = s.frameTimer := rfl
@[simp] theorem State.modHrn_interval : (s.modHrn f).interval = s.interval := rfl
@[simp] theorem State.modHrn_freeCtr : (s.modHrn f).freeCtr = s.freeCtr := rfl
@[simp] theorem State.modHrn_regs : (s.modHrn f).regs = s.regs := rfl
@[simp] theorem State.modHrn_captured : (s.modHrn f).captured = s.captured := rfl
@[simp] theorem State.modHrn_staged : (s.modHrn f).staged = s.staged := rfl
@[simp] theorem State.modHrn_committed : (s.modHrn f).committed = s.committed := rfl
@[simp] theorem State.modHrn_early : (s.modHrn f).early = s.early := rfl
@[simp] theorem State.modHrn_risen : (s.modHrn f).risen = s.risen := rfl
@[simp] theorem State.modHrn_recorder : (s.modHrn f).recorder = s.recorder := rfl
@[simp] theorem State.modHrn_lfec : (s.modHrn f).lfec = s.lfec := rfl
@[simp] theorem State.modHrn_lrx : (s.modHrn f).lrx = s.lrx := rfl
@[simp] theorem State.modHrn_eqp : (s.modHrn f).eqp = s.eqp := rfl
@[simp] theorem State.modHrn_grp : (s.modHrn f).grp = s.grp := rfl
@[simp] theorem State.modHrn_ltx : (s.modHrn f).ltx = s.ltx := rfl
@[simp] theorem State.modHrn_hsi : (s.modHrn f).hsi = s.hsi := rfl
@[simp] theorem State.modHrn_hpm : (s.modHrn f).hpm = s.hpm := rfl
@[simp] theorem State.modHrn_chk : (s.modHrn f).chk = s.chk := rfl
@[simp] theorem State.modHrn_chan : (s.modHrn f).chan = s.chan := rfl
@[simp] theorem State.modHrn_clane : (s.modHrn f).clane = s.clane := rfl
@[simp] theorem State.modHrn_cin : (s.modHrn f).cin = s.cin := rfl
@[simp] theorem State.modHrn_time : (s.modHrn f).time = s.time := rfl
@[simp] theorem State.modHrn_tlane : (s.modHrn f).tlane = s.tlane := rfl
@[simp] theorem State.modHrn_cfg : (s.modHrn f).cfg = s.cfg := rfl
@[simp] theorem State.modHrn_mgt : (s.modHrn f).mgt = s.mgt := rfl
@[simp] theorem State.modHrn_tskIn : (s.modHrn f).tskIn = s.tskIn := rfl
@[simp] theorem State.modHrn_tskRule : (s.modHrn f).tskRule = s.tskRule := rfl
@[simp] theorem State.modHrn_sens : (s.modHrn f).sens = s.sens := rfl
@[simp] theorem State.modHrn_thm : (s.modHrn f).thm = s.thm := rfl
@[simp] theorem State.modHrn_pins : (s.modHrn f).pins = s.pins := rfl
@[simp] theorem State.modHrn_mem : (s.modHrn f).mem = s.mem := rfl
@[simp] theorem State.modHrn_pwr : (s.modHrn f).pwr = s.pwr := rfl
@[simp] theorem State.modHrn_clk : (s.modHrn f).clk = s.clk := rfl
@[simp] theorem State.modHrn_sec : (s.modHrn f).sec = s.sec := rfl
@[simp] theorem State.modHrn_jtag : (s.modHrn f).jtag = s.jtag := rfl
@[simp] theorem State.modHrn_tskAt : (s.modHrn f).tskAt = s.tskAt := rfl
@[simp] theorem State.modHrn_hka : (s.modHrn f).hka = s.hka := rfl
@[simp] theorem State.modHrn_dec : (s.modHrn f).dec = s.dec := rfl
@[simp] theorem State.modHrn_dac : (s.modHrn f).dac = s.dac := rfl
@[simp] theorem State.modHrn_strm : (s.modHrn f).strm = s.strm := rfl
@[simp] theorem State.modHrn_pmc : (s.modHrn f).pmc = s.pmc := rfl
@[simp] theorem State.modHrn_pmcSnap : (s.modHrn f).pmcSnap = s.pmcSnap := rfl
@[simp] theorem State.modHrn_memx : (s.modHrn f).memx = s.memx := rfl
@[simp] theorem State.modHrn_dma : (s.modHrn f).dma = s.dma := rfl
@[simp] theorem State.modHrn_engine : (s.modHrn f).engine = s.engine := rfl
@[simp] theorem State.modHrn_flash : (s.modHrn f).flash = s.flash := rfl
@[simp] theorem State.reg_modHrn (r : Reg) (j : Nat) : (s.modHrn f).reg r j = s.reg r j := rfl
@[simp] theorem State.fld_modHrn (g : Field) (j : Nat) : (s.modHrn f).fld g j = s.fld g j := rfl
@[simp] theorem State.flag_modHrn (g : Field) (j : Nat) : (s.modHrn f).flag g j = s.flag g j := rfl
end modHrn_

section modClk_
variable (s : State) (f : ClkX → ClkX)
@[simp] theorem State.modClk_clk : (s.modClk f).clk = f s.clk := rfl
@[simp] theorem State.modClk_pending : (s.modClk f).pending = s.pending := rfl
@[simp] theorem State.modClk_cycle : (s.modClk f).cycle = s.cycle := rfl
@[simp] theorem State.modClk_frameTimer : (s.modClk f).frameTimer = s.frameTimer := rfl
@[simp] theorem State.modClk_interval : (s.modClk f).interval = s.interval := rfl
@[simp] theorem State.modClk_freeCtr : (s.modClk f).freeCtr = s.freeCtr := rfl
@[simp] theorem State.modClk_regs : (s.modClk f).regs = s.regs := rfl
@[simp] theorem State.modClk_captured : (s.modClk f).captured = s.captured := rfl
@[simp] theorem State.modClk_staged : (s.modClk f).staged = s.staged := rfl
@[simp] theorem State.modClk_committed : (s.modClk f).committed = s.committed := rfl
@[simp] theorem State.modClk_early : (s.modClk f).early = s.early := rfl
@[simp] theorem State.modClk_risen : (s.modClk f).risen = s.risen := rfl
@[simp] theorem State.modClk_recorder : (s.modClk f).recorder = s.recorder := rfl
@[simp] theorem State.modClk_lfec : (s.modClk f).lfec = s.lfec := rfl
@[simp] theorem State.modClk_lrx : (s.modClk f).lrx = s.lrx := rfl
@[simp] theorem State.modClk_eqp : (s.modClk f).eqp = s.eqp := rfl
@[simp] theorem State.modClk_grp : (s.modClk f).grp = s.grp := rfl
@[simp] theorem State.modClk_ltx : (s.modClk f).ltx = s.ltx := rfl
@[simp] theorem State.modClk_hsi : (s.modClk f).hsi = s.hsi := rfl
@[simp] theorem State.modClk_hpm : (s.modClk f).hpm = s.hpm := rfl
@[simp] theorem State.modClk_chk : (s.modClk f).chk = s.chk := rfl
@[simp] theorem State.modClk_chan : (s.modClk f).chan = s.chan := rfl
@[simp] theorem State.modClk_clane : (s.modClk f).clane = s.clane := rfl
@[simp] theorem State.modClk_cin : (s.modClk f).cin = s.cin := rfl
@[simp] theorem State.modClk_time : (s.modClk f).time = s.time := rfl
@[simp] theorem State.modClk_tlane : (s.modClk f).tlane = s.tlane := rfl
@[simp] theorem State.modClk_cfg : (s.modClk f).cfg = s.cfg := rfl
@[simp] theorem State.modClk_mgt : (s.modClk f).mgt = s.mgt := rfl
@[simp] theorem State.modClk_tskIn : (s.modClk f).tskIn = s.tskIn := rfl
@[simp] theorem State.modClk_tskRule : (s.modClk f).tskRule = s.tskRule := rfl
@[simp] theorem State.modClk_sens : (s.modClk f).sens = s.sens := rfl
@[simp] theorem State.modClk_thm : (s.modClk f).thm = s.thm := rfl
@[simp] theorem State.modClk_pins : (s.modClk f).pins = s.pins := rfl
@[simp] theorem State.modClk_mem : (s.modClk f).mem = s.mem := rfl
@[simp] theorem State.modClk_pwr : (s.modClk f).pwr = s.pwr := rfl
@[simp] theorem State.modClk_hrn : (s.modClk f).hrn = s.hrn := rfl
@[simp] theorem State.modClk_sec : (s.modClk f).sec = s.sec := rfl
@[simp] theorem State.modClk_jtag : (s.modClk f).jtag = s.jtag := rfl
@[simp] theorem State.modClk_tskAt : (s.modClk f).tskAt = s.tskAt := rfl
@[simp] theorem State.modClk_hka : (s.modClk f).hka = s.hka := rfl
@[simp] theorem State.modClk_dec : (s.modClk f).dec = s.dec := rfl
@[simp] theorem State.modClk_dac : (s.modClk f).dac = s.dac := rfl
@[simp] theorem State.modClk_strm : (s.modClk f).strm = s.strm := rfl
@[simp] theorem State.modClk_pmc : (s.modClk f).pmc = s.pmc := rfl
@[simp] theorem State.modClk_pmcSnap : (s.modClk f).pmcSnap = s.pmcSnap := rfl
@[simp] theorem State.modClk_memx : (s.modClk f).memx = s.memx := rfl
@[simp] theorem State.modClk_dma : (s.modClk f).dma = s.dma := rfl
@[simp] theorem State.modClk_engine : (s.modClk f).engine = s.engine := rfl
@[simp] theorem State.modClk_flash : (s.modClk f).flash = s.flash := rfl
@[simp] theorem State.reg_modClk (r : Reg) (j : Nat) : (s.modClk f).reg r j = s.reg r j := rfl
@[simp] theorem State.fld_modClk (g : Field) (j : Nat) : (s.modClk f).fld g j = s.fld g j := rfl
@[simp] theorem State.flag_modClk (g : Field) (j : Nat) : (s.modClk f).flag g j = s.flag g j := rfl
end modClk_

section modSec_
variable (s : State) (f : SecX → SecX)
@[simp] theorem State.modSec_sec : (s.modSec f).sec = f s.sec := rfl
@[simp] theorem State.modSec_pending : (s.modSec f).pending = s.pending := rfl
@[simp] theorem State.modSec_cycle : (s.modSec f).cycle = s.cycle := rfl
@[simp] theorem State.modSec_frameTimer : (s.modSec f).frameTimer = s.frameTimer := rfl
@[simp] theorem State.modSec_interval : (s.modSec f).interval = s.interval := rfl
@[simp] theorem State.modSec_freeCtr : (s.modSec f).freeCtr = s.freeCtr := rfl
@[simp] theorem State.modSec_regs : (s.modSec f).regs = s.regs := rfl
@[simp] theorem State.modSec_captured : (s.modSec f).captured = s.captured := rfl
@[simp] theorem State.modSec_staged : (s.modSec f).staged = s.staged := rfl
@[simp] theorem State.modSec_committed : (s.modSec f).committed = s.committed := rfl
@[simp] theorem State.modSec_early : (s.modSec f).early = s.early := rfl
@[simp] theorem State.modSec_risen : (s.modSec f).risen = s.risen := rfl
@[simp] theorem State.modSec_recorder : (s.modSec f).recorder = s.recorder := rfl
@[simp] theorem State.modSec_lfec : (s.modSec f).lfec = s.lfec := rfl
@[simp] theorem State.modSec_lrx : (s.modSec f).lrx = s.lrx := rfl
@[simp] theorem State.modSec_eqp : (s.modSec f).eqp = s.eqp := rfl
@[simp] theorem State.modSec_grp : (s.modSec f).grp = s.grp := rfl
@[simp] theorem State.modSec_ltx : (s.modSec f).ltx = s.ltx := rfl
@[simp] theorem State.modSec_hsi : (s.modSec f).hsi = s.hsi := rfl
@[simp] theorem State.modSec_hpm : (s.modSec f).hpm = s.hpm := rfl
@[simp] theorem State.modSec_chk : (s.modSec f).chk = s.chk := rfl
@[simp] theorem State.modSec_chan : (s.modSec f).chan = s.chan := rfl
@[simp] theorem State.modSec_clane : (s.modSec f).clane = s.clane := rfl
@[simp] theorem State.modSec_cin : (s.modSec f).cin = s.cin := rfl
@[simp] theorem State.modSec_time : (s.modSec f).time = s.time := rfl
@[simp] theorem State.modSec_tlane : (s.modSec f).tlane = s.tlane := rfl
@[simp] theorem State.modSec_cfg : (s.modSec f).cfg = s.cfg := rfl
@[simp] theorem State.modSec_mgt : (s.modSec f).mgt = s.mgt := rfl
@[simp] theorem State.modSec_tskIn : (s.modSec f).tskIn = s.tskIn := rfl
@[simp] theorem State.modSec_tskRule : (s.modSec f).tskRule = s.tskRule := rfl
@[simp] theorem State.modSec_sens : (s.modSec f).sens = s.sens := rfl
@[simp] theorem State.modSec_thm : (s.modSec f).thm = s.thm := rfl
@[simp] theorem State.modSec_pins : (s.modSec f).pins = s.pins := rfl
@[simp] theorem State.modSec_mem : (s.modSec f).mem = s.mem := rfl
@[simp] theorem State.modSec_pwr : (s.modSec f).pwr = s.pwr := rfl
@[simp] theorem State.modSec_hrn : (s.modSec f).hrn = s.hrn := rfl
@[simp] theorem State.modSec_clk : (s.modSec f).clk = s.clk := rfl
@[simp] theorem State.modSec_jtag : (s.modSec f).jtag = s.jtag := rfl
@[simp] theorem State.modSec_tskAt : (s.modSec f).tskAt = s.tskAt := rfl
@[simp] theorem State.modSec_hka : (s.modSec f).hka = s.hka := rfl
@[simp] theorem State.modSec_dec : (s.modSec f).dec = s.dec := rfl
@[simp] theorem State.modSec_dac : (s.modSec f).dac = s.dac := rfl
@[simp] theorem State.modSec_strm : (s.modSec f).strm = s.strm := rfl
@[simp] theorem State.modSec_pmc : (s.modSec f).pmc = s.pmc := rfl
@[simp] theorem State.modSec_pmcSnap : (s.modSec f).pmcSnap = s.pmcSnap := rfl
@[simp] theorem State.modSec_memx : (s.modSec f).memx = s.memx := rfl
@[simp] theorem State.modSec_dma : (s.modSec f).dma = s.dma := rfl
@[simp] theorem State.modSec_engine : (s.modSec f).engine = s.engine := rfl
@[simp] theorem State.modSec_flash : (s.modSec f).flash = s.flash := rfl
@[simp] theorem State.reg_modSec (r : Reg) (j : Nat) : (s.modSec f).reg r j = s.reg r j := rfl
@[simp] theorem State.fld_modSec (g : Field) (j : Nat) : (s.modSec f).fld g j = s.fld g j := rfl
@[simp] theorem State.flag_modSec (g : Field) (j : Nat) : (s.modSec f).flag g j = s.flag g j := rfl
end modSec_

section modMgt_
variable (s : State) (f : MgtX → MgtX)
@[simp] theorem State.modMgt_mgt : (s.modMgt f).mgt = f s.mgt := rfl
@[simp] theorem State.modMgt_pending : (s.modMgt f).pending = s.pending := rfl
@[simp] theorem State.modMgt_cycle : (s.modMgt f).cycle = s.cycle := rfl
@[simp] theorem State.modMgt_frameTimer : (s.modMgt f).frameTimer = s.frameTimer := rfl
@[simp] theorem State.modMgt_interval : (s.modMgt f).interval = s.interval := rfl
@[simp] theorem State.modMgt_freeCtr : (s.modMgt f).freeCtr = s.freeCtr := rfl
@[simp] theorem State.modMgt_regs : (s.modMgt f).regs = s.regs := rfl
@[simp] theorem State.modMgt_captured : (s.modMgt f).captured = s.captured := rfl
@[simp] theorem State.modMgt_staged : (s.modMgt f).staged = s.staged := rfl
@[simp] theorem State.modMgt_committed : (s.modMgt f).committed = s.committed := rfl
@[simp] theorem State.modMgt_early : (s.modMgt f).early = s.early := rfl
@[simp] theorem State.modMgt_risen : (s.modMgt f).risen = s.risen := rfl
@[simp] theorem State.modMgt_recorder : (s.modMgt f).recorder = s.recorder := rfl
@[simp] theorem State.modMgt_lfec : (s.modMgt f).lfec = s.lfec := rfl
@[simp] theorem State.modMgt_lrx : (s.modMgt f).lrx = s.lrx := rfl
@[simp] theorem State.modMgt_eqp : (s.modMgt f).eqp = s.eqp := rfl
@[simp] theorem State.modMgt_grp : (s.modMgt f).grp = s.grp := rfl
@[simp] theorem State.modMgt_ltx : (s.modMgt f).ltx = s.ltx := rfl
@[simp] theorem State.modMgt_hsi : (s.modMgt f).hsi = s.hsi := rfl
@[simp] theorem State.modMgt_hpm : (s.modMgt f).hpm = s.hpm := rfl
@[simp] theorem State.modMgt_chk : (s.modMgt f).chk = s.chk := rfl
@[simp] theorem State.modMgt_chan : (s.modMgt f).chan = s.chan := rfl
@[simp] theorem State.modMgt_clane : (s.modMgt f).clane = s.clane := rfl
@[simp] theorem State.modMgt_cin : (s.modMgt f).cin = s.cin := rfl
@[simp] theorem State.modMgt_time : (s.modMgt f).time = s.time := rfl
@[simp] theorem State.modMgt_tlane : (s.modMgt f).tlane = s.tlane := rfl
@[simp] theorem State.modMgt_cfg : (s.modMgt f).cfg = s.cfg := rfl
@[simp] theorem State.modMgt_tskIn : (s.modMgt f).tskIn = s.tskIn := rfl
@[simp] theorem State.modMgt_tskRule : (s.modMgt f).tskRule = s.tskRule := rfl
@[simp] theorem State.modMgt_sens : (s.modMgt f).sens = s.sens := rfl
@[simp] theorem State.modMgt_thm : (s.modMgt f).thm = s.thm := rfl
@[simp] theorem State.modMgt_pins : (s.modMgt f).pins = s.pins := rfl
@[simp] theorem State.modMgt_mem : (s.modMgt f).mem = s.mem := rfl
@[simp] theorem State.modMgt_pwr : (s.modMgt f).pwr = s.pwr := rfl
@[simp] theorem State.modMgt_hrn : (s.modMgt f).hrn = s.hrn := rfl
@[simp] theorem State.modMgt_clk : (s.modMgt f).clk = s.clk := rfl
@[simp] theorem State.modMgt_sec : (s.modMgt f).sec = s.sec := rfl
@[simp] theorem State.modMgt_jtag : (s.modMgt f).jtag = s.jtag := rfl
@[simp] theorem State.modMgt_tskAt : (s.modMgt f).tskAt = s.tskAt := rfl
@[simp] theorem State.modMgt_hka : (s.modMgt f).hka = s.hka := rfl
@[simp] theorem State.modMgt_dec : (s.modMgt f).dec = s.dec := rfl
@[simp] theorem State.modMgt_dac : (s.modMgt f).dac = s.dac := rfl
@[simp] theorem State.modMgt_strm : (s.modMgt f).strm = s.strm := rfl
@[simp] theorem State.modMgt_pmc : (s.modMgt f).pmc = s.pmc := rfl
@[simp] theorem State.modMgt_pmcSnap : (s.modMgt f).pmcSnap = s.pmcSnap := rfl
@[simp] theorem State.modMgt_memx : (s.modMgt f).memx = s.memx := rfl
@[simp] theorem State.modMgt_dma : (s.modMgt f).dma = s.dma := rfl
@[simp] theorem State.modMgt_engine : (s.modMgt f).engine = s.engine := rfl
@[simp] theorem State.modMgt_flash : (s.modMgt f).flash = s.flash := rfl
@[simp] theorem State.reg_modMgt (r : Reg) (j : Nat) : (s.modMgt f).reg r j = s.reg r j := rfl
@[simp] theorem State.fld_modMgt (g : Field) (j : Nat) : (s.modMgt f).fld g j = s.fld g j := rfl
@[simp] theorem State.flag_modMgt (g : Field) (j : Nat) : (s.modMgt f).flag g j = s.flag g j := rfl
end modMgt_

section modRec_
variable (s : State) (f : RecorderX → RecorderX)
@[simp] theorem State.modRec_recorder : (s.modRec f).recorder = f s.recorder := rfl
@[simp] theorem State.modRec_pending : (s.modRec f).pending = s.pending := rfl
@[simp] theorem State.modRec_cycle : (s.modRec f).cycle = s.cycle := rfl
@[simp] theorem State.modRec_frameTimer : (s.modRec f).frameTimer = s.frameTimer := rfl
@[simp] theorem State.modRec_interval : (s.modRec f).interval = s.interval := rfl
@[simp] theorem State.modRec_freeCtr : (s.modRec f).freeCtr = s.freeCtr := rfl
@[simp] theorem State.modRec_regs : (s.modRec f).regs = s.regs := rfl
@[simp] theorem State.modRec_captured : (s.modRec f).captured = s.captured := rfl
@[simp] theorem State.modRec_staged : (s.modRec f).staged = s.staged := rfl
@[simp] theorem State.modRec_committed : (s.modRec f).committed = s.committed := rfl
@[simp] theorem State.modRec_early : (s.modRec f).early = s.early := rfl
@[simp] theorem State.modRec_risen : (s.modRec f).risen = s.risen := rfl
@[simp] theorem State.modRec_lfec : (s.modRec f).lfec = s.lfec := rfl
@[simp] theorem State.modRec_lrx : (s.modRec f).lrx = s.lrx := rfl
@[simp] theorem State.modRec_eqp : (s.modRec f).eqp = s.eqp := rfl
@[simp] theorem State.modRec_grp : (s.modRec f).grp = s.grp := rfl
@[simp] theorem State.modRec_ltx : (s.modRec f).ltx = s.ltx := rfl
@[simp] theorem State.modRec_hsi : (s.modRec f).hsi = s.hsi := rfl
@[simp] theorem State.modRec_hpm : (s.modRec f).hpm = s.hpm := rfl
@[simp] theorem State.modRec_chk : (s.modRec f).chk = s.chk := rfl
@[simp] theorem State.modRec_chan : (s.modRec f).chan = s.chan := rfl
@[simp] theorem State.modRec_clane : (s.modRec f).clane = s.clane := rfl
@[simp] theorem State.modRec_cin : (s.modRec f).cin = s.cin := rfl
@[simp] theorem State.modRec_time : (s.modRec f).time = s.time := rfl
@[simp] theorem State.modRec_tlane : (s.modRec f).tlane = s.tlane := rfl
@[simp] theorem State.modRec_cfg : (s.modRec f).cfg = s.cfg := rfl
@[simp] theorem State.modRec_mgt : (s.modRec f).mgt = s.mgt := rfl
@[simp] theorem State.modRec_tskIn : (s.modRec f).tskIn = s.tskIn := rfl
@[simp] theorem State.modRec_tskRule : (s.modRec f).tskRule = s.tskRule := rfl
@[simp] theorem State.modRec_sens : (s.modRec f).sens = s.sens := rfl
@[simp] theorem State.modRec_thm : (s.modRec f).thm = s.thm := rfl
@[simp] theorem State.modRec_pins : (s.modRec f).pins = s.pins := rfl
@[simp] theorem State.modRec_mem : (s.modRec f).mem = s.mem := rfl
@[simp] theorem State.modRec_pwr : (s.modRec f).pwr = s.pwr := rfl
@[simp] theorem State.modRec_hrn : (s.modRec f).hrn = s.hrn := rfl
@[simp] theorem State.modRec_clk : (s.modRec f).clk = s.clk := rfl
@[simp] theorem State.modRec_sec : (s.modRec f).sec = s.sec := rfl
@[simp] theorem State.modRec_jtag : (s.modRec f).jtag = s.jtag := rfl
@[simp] theorem State.modRec_tskAt : (s.modRec f).tskAt = s.tskAt := rfl
@[simp] theorem State.modRec_hka : (s.modRec f).hka = s.hka := rfl
@[simp] theorem State.modRec_dec : (s.modRec f).dec = s.dec := rfl
@[simp] theorem State.modRec_dac : (s.modRec f).dac = s.dac := rfl
@[simp] theorem State.modRec_strm : (s.modRec f).strm = s.strm := rfl
@[simp] theorem State.modRec_pmc : (s.modRec f).pmc = s.pmc := rfl
@[simp] theorem State.modRec_pmcSnap : (s.modRec f).pmcSnap = s.pmcSnap := rfl
@[simp] theorem State.modRec_memx : (s.modRec f).memx = s.memx := rfl
@[simp] theorem State.modRec_dma : (s.modRec f).dma = s.dma := rfl
@[simp] theorem State.modRec_engine : (s.modRec f).engine = s.engine := rfl
@[simp] theorem State.modRec_flash : (s.modRec f).flash = s.flash := rfl
@[simp] theorem State.reg_modRec (r : Reg) (j : Nat) : (s.modRec f).reg r j = s.reg r j := rfl
@[simp] theorem State.fld_modRec (g : Field) (j : Nat) : (s.modRec f).fld g j = s.fld g j := rfl
@[simp] theorem State.flag_modRec (g : Field) (j : Nat) : (s.modRec f).flag g j = s.flag g j := rfl
end modRec_

section setMemByte_
variable (s : State) (a : Nat) (b : Byte)
@[simp] theorem State.setMemByte_pending : (s.setMemByte a b).pending = s.pending := rfl
@[simp] theorem State.setMemByte_cycle : (s.setMemByte a b).cycle = s.cycle := rfl
@[simp] theorem State.setMemByte_frameTimer : (s.setMemByte a b).frameTimer = s.frameTimer := rfl
@[simp] theorem State.setMemByte_interval : (s.setMemByte a b).interval = s.interval := rfl
@[simp] theorem State.setMemByte_freeCtr : (s.setMemByte a b).freeCtr = s.freeCtr := rfl
@[simp] theorem State.setMemByte_regs : (s.setMemByte a b).regs = s.regs := rfl
@[simp] theorem State.setMemByte_captured : (s.setMemByte a b).captured = s.captured := rfl
@[simp] theorem State.setMemByte_staged : (s.setMemByte a b).staged = s.staged := rfl
@[simp] theorem State.setMemByte_committed : (s.setMemByte a b).committed = s.committed := rfl
@[simp] theorem State.setMemByte_early : (s.setMemByte a b).early = s.early := rfl
@[simp] theorem State.setMemByte_risen : (s.setMemByte a b).risen = s.risen := rfl
@[simp] theorem State.setMemByte_recorder : (s.setMemByte a b).recorder = s.recorder := rfl
@[simp] theorem State.setMemByte_lfec : (s.setMemByte a b).lfec = s.lfec := rfl
@[simp] theorem State.setMemByte_lrx : (s.setMemByte a b).lrx = s.lrx := rfl
@[simp] theorem State.setMemByte_eqp : (s.setMemByte a b).eqp = s.eqp := rfl
@[simp] theorem State.setMemByte_grp : (s.setMemByte a b).grp = s.grp := rfl
@[simp] theorem State.setMemByte_ltx : (s.setMemByte a b).ltx = s.ltx := rfl
@[simp] theorem State.setMemByte_hsi : (s.setMemByte a b).hsi = s.hsi := rfl
@[simp] theorem State.setMemByte_hpm : (s.setMemByte a b).hpm = s.hpm := rfl
@[simp] theorem State.setMemByte_chk : (s.setMemByte a b).chk = s.chk := rfl
@[simp] theorem State.setMemByte_chan : (s.setMemByte a b).chan = s.chan := rfl
@[simp] theorem State.setMemByte_clane : (s.setMemByte a b).clane = s.clane := rfl
@[simp] theorem State.setMemByte_cin : (s.setMemByte a b).cin = s.cin := rfl
@[simp] theorem State.setMemByte_time : (s.setMemByte a b).time = s.time := rfl
@[simp] theorem State.setMemByte_tlane : (s.setMemByte a b).tlane = s.tlane := rfl
@[simp] theorem State.setMemByte_cfg : (s.setMemByte a b).cfg = s.cfg := rfl
@[simp] theorem State.setMemByte_mgt : (s.setMemByte a b).mgt = s.mgt := rfl
@[simp] theorem State.setMemByte_tskIn : (s.setMemByte a b).tskIn = s.tskIn := rfl
@[simp] theorem State.setMemByte_tskRule : (s.setMemByte a b).tskRule = s.tskRule := rfl
@[simp] theorem State.setMemByte_sens : (s.setMemByte a b).sens = s.sens := rfl
@[simp] theorem State.setMemByte_thm : (s.setMemByte a b).thm = s.thm := rfl
@[simp] theorem State.setMemByte_pins : (s.setMemByte a b).pins = s.pins := rfl
@[simp] theorem State.setMemByte_pwr : (s.setMemByte a b).pwr = s.pwr := rfl
@[simp] theorem State.setMemByte_hrn : (s.setMemByte a b).hrn = s.hrn := rfl
@[simp] theorem State.setMemByte_clk : (s.setMemByte a b).clk = s.clk := rfl
@[simp] theorem State.setMemByte_sec : (s.setMemByte a b).sec = s.sec := rfl
@[simp] theorem State.setMemByte_jtag : (s.setMemByte a b).jtag = s.jtag := rfl
@[simp] theorem State.setMemByte_tskAt : (s.setMemByte a b).tskAt = s.tskAt := rfl
@[simp] theorem State.setMemByte_hka : (s.setMemByte a b).hka = s.hka := rfl
@[simp] theorem State.setMemByte_dec : (s.setMemByte a b).dec = s.dec := rfl
@[simp] theorem State.setMemByte_dac : (s.setMemByte a b).dac = s.dac := rfl
@[simp] theorem State.setMemByte_strm : (s.setMemByte a b).strm = s.strm := rfl
@[simp] theorem State.setMemByte_pmc : (s.setMemByte a b).pmc = s.pmc := rfl
@[simp] theorem State.setMemByte_pmcSnap : (s.setMemByte a b).pmcSnap = s.pmcSnap := rfl
@[simp] theorem State.setMemByte_memx : (s.setMemByte a b).memx = s.memx := rfl
@[simp] theorem State.setMemByte_dma : (s.setMemByte a b).dma = s.dma := rfl
@[simp] theorem State.setMemByte_engine : (s.setMemByte a b).engine = s.engine := rfl
@[simp] theorem State.setMemByte_flash : (s.setMemByte a b).flash = s.flash := rfl
@[simp] theorem State.reg_setMemByte (r : Reg) (j : Nat) : (s.setMemByte a b).reg r j = s.reg r j := rfl
@[simp] theorem State.fld_setMemByte (g : Field) (j : Nat) : (s.setMemByte a b).fld g j = s.fld g j := rfl
@[simp] theorem State.flag_setMemByte (g : Field) (j : Nat) : (s.setMemByte a b).flag g j = s.flag g j := rfl
end setMemByte_

end Sys2Proof.Machine
end

