-- ==== Sys2Proof/Laws/Memory.lean ====
section
/-! SUPPORT. The byte stores and the flash: a read after a write, and every operation on them keeps the canonical form. -/
namespace Sys2Proof.Machine
set_option Elab.async false

/-! ### Sparse tables -/

section Filter
variable {κ ν : Type} {lt : κ → κ → Bool} {d : κ → ν}

theorem Tab.above_filter {k : κ} {m : List (κ × ν)} (q : κ × ν → Bool) (h : Tab.above lt k m = true) :
    Tab.above lt k (m.filter q) = true := by
  simp only [Tab.above, List.all_eq_true] at h ⊢
  exact fun e he => h e (List.mem_of_mem_filter he)

/-- Leaving entries out keeps the canonical form. -/
theorem Tab.wf_filter [DecidableEq ν] {m : List (κ × ν)} (q : κ × ν → Bool) (h : Tab.wf lt d m = true) :
    Tab.wf lt d (m.filter q) = true := by
  induction m with
  | nil => rfl
  | cons e m ih =>
    simp only [Tab.wf, Bool.and_eq_true] at h
    by_cases hq : q e = true
    · rw [List.filter_cons_of_pos hq, Tab.wf]
      simp only [Bool.and_eq_true]
      exact ⟨⟨h.1.1, Tab.above_filter q h.1.2⟩, ih h.2⟩
    · rw [List.filter_cons_of_neg hq]; exact ih h.2

/-- Keys above every key of a table are not listed in it. -/
theorem Tab.get_of_forall_ne [DecidableEq κ] {m : List (κ × ν)} {k : κ} (h : ∀ e ∈ m, e.1 ≠ k) : Tab.get d m k = d k := by
  induction m with
  | nil => rfl
  | cons e m ih =>
    rw [Tab.get, if_neg (h e List.mem_cons_self).symm]
    exact ih fun e' he => h e' (List.mem_cons_of_mem _ he)

/-- A read of a key that the filter keeps, whatever its value. -/
theorem Tab.get_filter_kept [DecidableEq κ] (m : List (κ × ν)) (q : κ → Bool) {k : κ} (h : q k = true) :
    Tab.get d (m.filter fun e => q e.1) k = Tab.get d m k := by
  induction m with
  | nil => rfl
  | cons e m ih =>
    by_cases hq : q e.1 = true
    · rw [List.filter_cons_of_pos (p := fun e : κ × ν => q e.1) hq, Tab.get, Tab.get, ih]
    · rw [List.filter_cons_of_neg (p := fun e : κ × ν => q e.1) hq, ih, Tab.get, if_neg]
      rintro rfl; exact hq h

/-- A read of a key that the filter leaves out. -/
theorem Tab.get_filter_gone [DecidableEq κ] (m : List (κ × ν)) (q : κ → Bool) {k : κ} (h : q k = false) :
    Tab.get d (m.filter fun e => q e.1) k = d k :=
  Tab.get_of_forall_ne fun e he heq => by
    have := (List.mem_filter.mp he).2
    rw [heq, h] at this; cases this

end Filter

/-! ### The stores -/

@[simp] theorem State.memByte_setMemByte_same (s : State) (a : Nat) (b : Byte) : (s.setMemByte a b).memByte a = b :=
  Tab.get_set_same s.mem a b

theorem State.memByte_setMemByte_other (s : State) {a a' : Nat} (b : Byte) (h : a' ≠ a) :
    (s.setMemByte a b).memByte a' = s.memByte a' := Tab.get_set_other s.mem b h

/-- Storing bytes changes nothing but the stores. -/
theorem State.setMemBytes_eq (s : State) (a : Nat) (bs : List Byte) :
    s.setMemBytes a bs = { s with mem := (s.setMemBytes a bs).mem } := by
  induction bs generalizing s a with
  | nil => rfl
  | cons b bs ih => rw [State.setMemBytes, ih]; rfl

/-- Addresses outside the bytes stored read as before. -/
theorem State.memByte_setMemBytes_other (s : State) {a a' : Nat} {bs : List Byte} (h : a' < a ∨ a + bs.length ≤ a') :
    (s.setMemBytes a bs).memByte a' = s.memByte a' := by
  induction bs generalizing s a with
  | nil => rfl
  | cons b bs ih =>
    simp only [List.length_cons] at h
    rw [State.setMemBytes, ih _ (by omega), State.memByte_setMemByte_other _ _ (by omega)]

/-- The bytes stored are the bytes read. -/
theorem State.memByte_setMemBytes_same (s : State) (a : Nat) {bs : List Byte} {k : Nat} (h : k < bs.length) :
    (s.setMemBytes a bs).memByte (a + k) = bs[k] := by
  induction bs generalizing s a k with
  | nil => simp at h
  | cons b bs ih =>
    rw [State.setMemBytes]
    cases k with
    | zero => simp only [Nat.add_zero, List.getElem_cons_zero]; rw [State.memByte_setMemBytes_other _ (.inl (Nat.lt_succ_self a))]; simp
    | succ k =>
      rw [show a + (k + 1) = a + 1 + k by omega, ih _ _ (by simpa using h)]; rfl

/-- Cleared addresses read as memory nothing has written. -/
theorem State.memByte_clearMem (s : State) (a n a' : Nat) :
    (s.clearMem a n).memByte a' = if inRange a n a' then 0 else s.memByte a' := by
  show Tab.get _ (s.mem.filter fun e => !inRange a n e.1) a' = _
  split
  · next h => exact Tab.get_filter_gone s.mem (fun x => !inRange a n x) (by simp [h])
  · next h => exact Tab.get_filter_kept s.mem (fun x => !inRange a n x) (by simp [h])

/-! ### The flash -/

/-- Bytes outside those stored in flash read as before. -/
theorem State.flashByte_setFlashBytes_other (s : State) {a a' : Nat} {bs : List Byte} (h : a' < a ∨ a + bs.length ≤ a') :
    (s.setFlashBytes a bs).flashByte a' = s.flashByte a' := by
  induction bs generalizing s a with
  | nil => rfl
  | cons b bs ih =>
    simp only [List.length_cons] at h
    rw [State.setFlashBytes, ih _ (by omega)]
    exact Tab.get_set_other s.flash b (by omega)

/-- Bytes stored in flash are the bytes read. -/
theorem State.flashByte_setFlashBytes_same (s : State) (a : Nat) {bs : List Byte} {k : Nat} (h : k < bs.length) :
    (s.setFlashBytes a bs).flashByte (a + k) = bs[k] := by
  induction bs generalizing s a k with
  | nil => simp at h
  | cons b bs ih =>
    rw [State.setFlashBytes]
    cases k with
    | zero =>
      simp only [Nat.add_zero, List.getElem_cons_zero]
      rw [State.flashByte_setFlashBytes_other _ (.inl (Nat.lt_succ_self a))]
      exact Tab.get_set_same s.flash a b
    | succ k =>
      rw [show a + (k + 1) = a + 1 + k by omega, ih _ _ (by simpa using h)]; rfl

/-- Storing bytes in flash changes nothing else. -/
theorem State.setFlashBytes_eq (s : State) (a : Nat) (bs : List Byte) :
    s.setFlashBytes a bs = { s with flash := (s.setFlashBytes a bs).flash } := by
  induction bs generalizing s a with
  | nil => rfl
  | cons b bs ih => rw [State.setFlashBytes, ih]

/-- An erased slot reads as erased flash. -/
theorem State.flashByte_eraseSlot (s : State) (k a : Nat) :
    (s.eraseSlot k).flashByte a = if fwSlot k ≤ a ∧ a < fwSlotEnd k then 0xFF else s.flashByte a := by
  show Tab.get _ (s.flash.filter fun c => !(decide (fwSlot k ≤ c.1) && decide (c.1 < fwSlotEnd k))) a = _
  split
  · next h => exact Tab.get_filter_gone s.flash (fun x => !(decide (fwSlot k ≤ x) && decide (x < fwSlotEnd k))) (by simp [h])
  · next h =>
    refine Tab.get_filter_kept s.flash (fun x => !(decide (fwSlot k ≤ x) && decide (x < fwSlotEnd k))) ?_
    simp only [Bool.not_eq_true', Bool.and_eq_false_iff, decide_eq_false_iff_not]
    omega

/-! ### The canonical form -/

theorem Memory.wf_setMemByte {s : State} (a : Nat) (b : Byte) (h : Memory.wf 0 s.mem = true) :
    Memory.wf 0 (s.setMemByte a b).mem = true := Tab.wf_set natLt_order h

theorem Memory.wf_setMemBytes {s : State} (a : Nat) (bs : List Byte) (h : Memory.wf 0 s.mem = true) :
    Memory.wf 0 (s.setMemBytes a bs).mem = true := by
  induction bs generalizing s a with
  | nil => exact h
  | cons b bs ih => exact ih (s := s.setMemByte a b) _ (Memory.wf_setMemByte a b h)

theorem Memory.wf_clearMem {s : State} (a n : Nat) (h : Memory.wf 0 s.mem = true) : Memory.wf 0 (s.clearMem a n).mem = true :=
  Tab.wf_filter _ h

theorem Memory.wf_fillMem {s : State} (a n : Nat) (pattern : List Byte) (h : Memory.wf 0 s.mem = true) :
    Memory.wf 0 (s.fillMem a n pattern).mem = true := by
  unfold State.fillMem
  dsimp only
  split
  · exact Memory.wf_clearMem a n h
  · exact Memory.wf_setMemBytes _ _ (Memory.wf_clearMem a n h)

theorem Memory.wf_setFlashBytes {s : State} (a : Nat) (bs : List Byte) (h : Memory.wf 0xFF s.flash = true) :
    Memory.wf 0xFF (s.setFlashBytes a bs).flash = true := by
  induction bs generalizing s a with
  | nil => exact h
  | cons b bs ih =>
    exact ih (s := { s with flash := Tab.set natLt (fun _ => 0xFF) s.flash a b }) _ (Tab.wf_set natLt_order h)

theorem Memory.wf_eraseSlot {s : State} (k : Nat) (h : Memory.wf 0xFF s.flash = true) :
    Memory.wf 0xFF (s.eraseSlot k).flash = true := Tab.wf_filter _ h

theorem Memory.wf_reset : Memory.wf 0 State.reset.mem = true ∧ Memory.wf 0xFF State.reset.flash = true := ⟨rfl, rfl⟩

/-- A state whose registers, stores and flash are those of canonical states is canonical. -/
theorem State.canonical_of {s t : State} (h : s.canonical) (hr : t.regs.wf = true) (hm : t.mem = s.mem) (hf : t.flash = s.flash) :
    t.canonical := ⟨hr, hm ▸ h.2.1, hf ▸ h.2.2⟩

theorem State.canonical_setReg {s : State} (r : Reg) (i : Nat) (v : RegVal) (h : s.canonical) : (s.setReg r i v).canonical :=
  State.canonical_of h (RegFile.wf_write r i v h.1) rfl rfl

theorem State.canonical_setFld {s : State} (f : Field) (i x : Nat) (h : s.canonical) : (s.setFld f i x).canonical :=
  State.canonical_of h (RegFile.wf_setFld f i x h.1) rfl rfl

theorem State.canonical_setMemBytes {s : State} (a : Nat) (bs : List Byte) (h : s.canonical) : (s.setMemBytes a bs).canonical := by
  refine ⟨?_, Memory.wf_setMemBytes a bs h.2.1, ?_⟩ <;> rw [State.setMemBytes_eq]
  exacts [h.1, h.2.2]

theorem State.canonical_setFlashBytes {s : State} (a : Nat) (bs : List Byte) (h : s.canonical) :
    (s.setFlashBytes a bs).canonical := by
  refine ⟨?_, ?_, Memory.wf_setFlashBytes a bs h.2.2⟩ <;> rw [State.setFlashBytes_eq]
  exacts [h.1, h.2.1]

end Sys2Proof.Machine
end

