-- ==== Sys2Proof/Laws/Ops.lean ====
section
/-! SUPPORT. What the shared operations can do, each said once. -/
namespace Sys2Proof.Machine
set_option Elab.async false

/-! ### Records -/

/-- A record entered in the queue, or dropped and counted. -/
theorem State.logAt_cases (s : State) (ts : Ts96) (type kind index : Nat) (words : List Nat) (extra : Nat) :
    (s.recorder.queue.length < 64 ∧ ∃ e : Rec, e.type = type ∧ e.seq = s.recorder.next ∧ e.ts = ts ∧
      e.flags = s.recFlags + extra ∧ e.node = BitVec.ofNat 16 (s.fld TMB_NODE_ID.NODE_ID 0) ∧
      e.words = ((kind * 2 ^ 24 + index % 2 ^ 16) :: words).map (BitVec.ofNat 32) ∧
      s.logAt ts type kind index words extra = { s with recorder := { s.recorder with
        queue := s.recorder.queue ++ [e], next := s.recorder.next + 1, newest := some e } }) ∨
    (64 ≤ s.recorder.queue.length ∧ s.logAt ts type kind index words extra = ({ s with recorder := { s.recorder with
        dropRun := s.recorder.dropRun + 1
        dropFirst := if s.recorder.dropRun = 0 then type else s.recorder.dropFirst } } : State).count EVL_DROPPED.COUNT 0) := by
  unfold State.logAt
  dsimp only
  split
  · next h => exact .inl ⟨h, _, rfl, rfl, rfl, rfl, rfl, rfl, rfl⟩
  · next h => exact .inr ⟨by omega, rfl⟩

/-- A record touches nothing but the recorder and, where it is dropped, the count of drops. -/
theorem State.logAt_eq (s : State) (ts : Ts96) (type kind index : Nat) (words : List Nat) (extra : Nat) :
    s.logAt ts type kind index words extra = { s with
      recorder := (s.logAt ts type kind index words extra).recorder, regs := (s.logAt ts type kind index words extra).regs } := by
  rcases s.logAt_cases ts type kind index words extra with ⟨-, e, -, -, -, -, -, -, h⟩ | ⟨-, h⟩
  · rw [h]
  · rw [h]; rfl

/-- A record leaves every register field that shares no bit with the count of drops alone. -/
theorem State.fld_logAt (s : State) (ts : Ts96) (type kind index : Nat) (words : List Nat) (extra : Nat) {g : Field} (j : Nat)
    (h : (EVL_DROPPED.COUNT).apart g = true) : (s.logAt ts type kind index words extra).fld g j = s.fld g j := by
  rcases s.logAt_cases ts type kind index words extra with ⟨-, e, -, -, -, -, -, -, h'⟩ | ⟨-, h'⟩ <;> rw [h']
  · rfl
  · exact State.fld_count_apart _ _ _ _ h

/-- The queue holds at most 64 records, whatever is recorded. -/
theorem State.logAt_queue_le (s : State) (ts : Ts96) (type kind index : Nat) (words : List Nat) (extra : Nat)
    (h : s.recorder.queue.length ≤ 64) : (s.logAt ts type kind index words extra).recorder.queue.length ≤ 64 := by
  rcases s.logAt_cases ts type kind index words extra with ⟨hq, e, -, -, -, -, -, -, h'⟩ | ⟨-, h'⟩ <;> rw [h']
  · simp only [List.length_append, List.length_singleton]; omega
  · exact h

theorem State.canonical_logAt {s : State} (ts : Ts96) (type kind index : Nat) (words : List Nat) (extra : Nat) (h : s.canonical) :
    (s.logAt ts type kind index words extra).canonical := by
  rcases s.logAt_cases ts type kind index words extra with ⟨-, e, -, -, -, -, -, -, h'⟩ | ⟨-, h'⟩ <;> rw [h']
  · exact h
  · exact State.canonical_setFld _ _ _ h

/-! ### Alerts -/

/-- What the device sets of a W1C field reads 1, and the rest of the register stays. -/
@[simp] theorem State.raise_regs (s : State) (f : Field) (i bits : Nat) :
    (s.raise f i bits).regs = (s.setFld f i (s.fld f i ||| bits)).regs := rfl

/-- A bit that the device sets touches nothing but its register and the note that it has risen in this core cycle. -/
theorem State.raise_eq (s : State) (f : Field) (i bits : Nat) :
    s.raise f i bits = { s with regs := (s.raise f i bits).regs, risen := (s.raise f i bits).risen } := rfl

/-- With nothing risen in this core cycle, a write of 1 clears every W1C bit it names. -/
theorem State.clearable_of_risen_nil {s : State} (h : s.risen = []) (r : Reg) (i v : Nat) : s.clearable r i v = v := by
  have h0 : s.risenOf r i = 0 := by unfold State.risenOf; rw [h]; rfl
  unfold State.clearable
  rw [h0]; simp

/-- An alert touches nothing but the status and GLB_STATE registers, the bits risen in this core cycle, and the requests and notifications
that wait. -/
theorem State.alert_eq (s : State) (cls : Nat) :
    s.alert cls = { s with
      regs := (s.alert cls).regs, risen := (s.alert cls).risen
      mgt := { s.mgt with ibi := (s.alert cls).mgt.ibi, notify := (s.alert cls).mgt.notify } } := by
  unfold State.alert
  dsimp only
  split <;> split <;> rfl

/-- The registers after an alert: the class bit sets, and ALERT shows it. -/
theorem State.alert_regs (s : State) (cls : Nat) :
    (s.alert cls).regs = ((s.setFld MGT_ALERT_STATUS.CLASS 0 (s.fld MGT_ALERT_STATUS.CLASS 0 ||| 2 ^ cls)).setFlag GLB_STATE.ALERT 0 true).regs := by
  unfold State.alert
  dsimp only
  split <;> split <;> rfl

/-- An alert whose class is set already requests nothing and tells nobody. -/
theorem State.alert_again (s : State) {cls : Nat} (h : (s.fld MGT_ALERT_STATUS.CLASS 0).testBit cls = true) : (s.alert cls).mgt = s.mgt := by
  unfold State.alert
  simp [h, State.raise]

theorem State.canonical_alert {s : State} (cls : Nat) (h : s.canonical) : (s.alert cls).canonical := by
  refine State.canonical_of h ?_ ?_ ?_
  · rw [State.alert_regs]; exact RegFile.wf_setFld _ _ _ (RegFile.wf_setFld _ _ _ h.1)
  · rw [State.alert_eq]
  · rw [State.alert_eq]

/-! ### Register writes -/

/-- An access violation touches nothing but the recorder and the two counts. -/
theorem State.accessViolation_eq (s : State) (p : Path) (r : Reg) (i v : Nat) :
    s.accessViolation p r i v = { s with
      recorder := (s.accessViolation p r i v).recorder, regs := (s.accessViolation p r i v).regs } := by
  unfold State.accessViolation State.log
  rw [State.logAt_eq]; rfl

/-- A refused write touches nothing but the recorder and the count of drops. -/
theorem State.regReject_eq (s : State) (p : Path) (r : Reg) (i v : Nat) :
    s.regReject p r i v = { s with recorder := (s.regReject p r i v).recorder, regs := (s.regReject p r i v).regs } := by
  unfold State.regReject State.log
  rw [State.logAt_eq]

/-- The four ends of a register write. -/
theorem guardedWrite_cases (p : Path) (r : Reg) (i v : Nat) (act : State → State × WStatus) (s : State) :
    (s.offline = true ∧ guardedWrite p r i v act s = (s, .busy)) ∨
    (s.offline = false ∧ s.role p < s.neededRole r ∧ guardedWrite p r i v act s = (s.accessViolation p r i v, .denied)) ∨
    (s.offline = false ∧ s.neededRole r ≤ s.role p ∧ s.rebuilding r i = true ∧ guardedWrite p r i v act s = (s.regReject p r i v, .rejected)) ∨
    (s.offline = false ∧ s.neededRole r ≤ s.role p ∧ s.rebuilding r i = false ∧ guardedWrite p r i v act s = act s) := by
  unfold guardedWrite rejectWrite
  cases h₁ : s.offline
  · by_cases h₂ : s.role p < s.neededRole r
    · simp [h₂]
    · cases h₃ : s.rebuilding r i <;> simp [h₂, Nat.le_of_not_lt h₂]
  · simp

/-- A write command always completes. -/
theorem writeCommand_next (p : Path) (r : Reg) (i v : Nat) (act : State → State × WStatus) (s : State) :
    writeCommand p r i v act s = .next (guardedWrite p r i v act s).1 := rfl

/-- What every end of a register write keeps, where the write itself keeps it. -/
theorem guardedWrite_keeps {P : State → Prop} {p : Path} {r : Reg} {i v : Nat} {act : State → State × WStatus} {s : State}
    (h : P s) (hv : P (s.accessViolation p r i v)) (hr : P (s.regReject p r i v)) (ha : P (act s).1) :
    P (guardedWrite p r i v act s).1 := by
  rcases guardedWrite_cases p r i v act s with ⟨-, e⟩ | ⟨-, -, e⟩ | ⟨-, -, -, e⟩ | ⟨-, -, -, e⟩ <;> rw [e] <;> assumption

/-- A plain write sets the register by its fields' access codes; W1C bits that have risen in this core cycle stay. -/
theorem plainWrite_reg (r : Reg) (i v : Nat) (s : State) :
    (plainWrite r i v s).reg r i = applyAccess (s.reg r i) v (s.clearable r i v) r.desc.fields := State.reg_setReg_same s r i _

theorem plainWrite_other {r r' : Reg} {i i' : Nat} (v : Nat) (s : State) (h : r' ≠ r ∨ i' ≠ i) :
    (plainWrite r i v s).reg r' i' = s.reg r' i' := State.reg_setReg_other s _ h

theorem State.canonical_accessViolation {s : State} (p : Path) (r : Reg) (i v : Nat) (h : s.canonical) :
    (s.accessViolation p r i v).canonical := State.canonical_logAt _ _ _ _ _ _ (State.canonical_setFld _ _ _ h)

theorem State.canonical_regReject {s : State} (p : Path) (r : Reg) (i v : Nat) (h : s.canonical) :
    (s.regReject p r i v).canonical := State.canonical_logAt _ _ _ _ _ _ h

theorem canonical_guardedWrite {p : Path} {r : Reg} {i v : Nat} {act : State → State × WStatus} {s : State} (h : s.canonical)
    (ha : (act s).1.canonical) : (guardedWrite p r i v act s).1.canonical :=
  guardedWrite_keeps h (State.canonical_accessViolation _ _ _ _ h) (State.canonical_regReject _ _ _ _ h) ha

/-! ### Wide registers -/

/-- Staging a word touches nothing but the staging; the word is marked. -/
theorem State.stagedOf_stage_same (s : State) (k : RegKey) (w x : Nat) :
    (s.stage k w x).stagedOf k = (setWord (s.stagedOf k).1 w x, (s.stagedOf k).2 ||| 2 ^ w) := by
  simp only [State.stagedOf, State.stage, Tab.get_set_same]

theorem State.stagedOf_stage_other (s : State) {k k' : RegKey} (w x : Nat) (h : k' ≠ k) :
    (s.stage k w x).stagedOf k' = s.stagedOf k' := by
  simp only [State.stagedOf, State.stage, Tab.get_set_other _ _ h]

theorem State.stage_eq (s : State) (k : RegKey) (w x : Nat) : s.stage k w x = { s with staged := (s.stage k w x).staged } := by
  unfold State.stage; rfl

/-- Emptying a register's staging leaves no word of it and touches nothing else. -/
theorem State.stagedOf_unstage_same (s : State) (k : RegKey) : (s.unstage k).stagedOf k = (0, 0) := by
  simp only [State.stagedOf, State.unstage, Tab.get_set_same]

theorem State.unstage_eq (s : State) (k : RegKey) : s.unstage k = { s with staged := (s.unstage k).staged } := by
  simp only [State.unstage]

/-- A commit of a whole register runs the write on the state with its staging emptied and, where the write is taken, notes the value. -/
theorem commitWhole_cases (r : Reg) (i v : Nat) (act : State → State × WStatus) (s : State) :
    (commitWhole r i v act s).2 = (act (s.unstage (r, i))).2 ∧
    ((act (s.unstage (r, i))).2 = .ok ∧ (commitWhole r i v act s).1 = { (act (s.unstage (r, i))).1 with
        committed := Tab.insert regLt (r, i) (BitVec.ofNat 512 v) (act (s.unstage (r, i))).1.committed } ∨
      (act (s.unstage (r, i))).2 ≠ .ok ∧ (commitWhole r i v act s).1 = (act (s.unstage (r, i))).1) := by
  unfold commitWhole
  rcases act (s.unstage (r, i)) with ⟨t, st⟩
  refine ⟨rfl, ?_⟩
  by_cases h : st = .ok
  · exact .inl ⟨h, if_pos h⟩
  · exact .inr ⟨h, if_neg h⟩

/-! ### Free values and loops -/

/-- Taking a free value advances the count of those taken and nothing else. -/
theorem State.fresh_eq (s : State) : s.fresh = (Config.freeValue s.freeCtr, { s with freeCtr := s.freeCtr + 1 }) := rfl

/-- What an operation keeps for each index, a loop over the indices keeps. -/
theorem State.each_keeps {P : State → Prop} {f : Nat → State → State} (hf : ∀ i s, P s → P (f i s)) (is : List Nat) {s : State}
    (h : P s) : P (s.each is f) := by
  unfold State.each
  induction is generalizing s with
  | nil => exact h
  | cons i is ih => exact ih (hf i s h)

/-! ### Stores with codes -/

section Canonical
variable {s : State}

theorem State.canonical_modMemx (f : MemX → MemX) (h : s.canonical) : (s.modMemx f).canonical := h

theorem State.canonical_count (f : Field) (i n : Nat) (h : s.canonical) : (s.count f i n).canonical := State.canonical_setFld f i _ h

theorem State.canonical_countSat (f : Field) (i : Nat) (h : s.canonical) : (s.countSat f i).canonical := by
  unfold State.countSat
  split
  exacts [State.canonical_setFld _ _ _ h, h]

theorem State.canonical_logMem (kind m a : Nat) (injected : Bool) (h : s.canonical) : (s.logMem kind m a injected).canonical :=
  State.canonical_logAt _ _ _ _ _ _ h

theorem State.canonical_showSpares (h : s.canonical) : s.showSpares.canonical :=
  State.canonical_setFld _ _ _ (State.canonical_setFld _ _ _ h)

theorem State.canonical_showSlots (n : Nat) (h : s.canonical) : (s.showSlots n).canonical := by
  unfold State.showSlots
  dsimp only
  split
  · exact h
  · split
    · exact h
    · exact State.canonical_setFld _ _ _ h

theorem State.canonical_mapOut (m page : Nat) (h : s.canonical) : (s.mapOut m page).canonical := by
  unfold State.mapOut
  refine State.each_keeps (P := State.canonical) (fun i t ht => ?_) _ (State.canonical_modMemx _ h)
  exact State.canonical_showSlots (s := t.modClane i _) _ ht

theorem State.canonical_retire (m page : Nat) (injected : Bool) (h : s.canonical) : (s.retire m page injected).canonical := by
  unfold State.retire
  split
  · exact h
  · split
    · exact State.canonical_alert _ (State.canonical_logMem _ _ _ _ (State.canonical_countSat _ _ (State.canonical_mapOut _ _ h)))
    · split
      · exact State.canonical_logMem _ _ _ _ (State.canonical_showSpares h)
      · exact State.canonical_alert _ (State.canonical_logMem _ _ _ _ (State.canonical_showSpares
          (State.canonical_countSat _ _ (State.canonical_setFld _ _ _ (State.canonical_modMemx _ h)))))

theorem State.canonical_repairPage (m page : Nat) (h : s.canonical) : (s.repairPage m page).canonical := by
  unfold State.repairPage
  dsimp only
  split
  · exact State.canonical_retire _ _ _ (State.canonical_modMemx _ (State.canonical_count _ _ _ h))
  · exact State.canonical_modMemx _ (State.canonical_count _ _ _ h)

theorem State.canonical_losePage (m page : Nat) (h : s.canonical) : (s.losePage m page).canonical := by
  unfold State.losePage
  refine State.canonical_retire _ _ _ (State.canonical_modMemx _ ?_)
  generalize (s.pageErrs page).filter _ = es
  induction es generalizing s with
  | nil => exact h
  | cons e es ih => exact ih (s := s.setPoison e.1 true) h

theorem State.canonical_mendPage (m page : Nat) (h : s.canonical) : (s.mendPage m page).canonical := by
  unfold State.mendPage
  split
  exacts [State.canonical_repairPage _ _ h, State.canonical_losePage _ _ h]

theorem State.canonical_flip (m u a : Nat) (h : s.canonical) : (s.flip m u a).canonical := by
  unfold State.flip
  dsimp only
  repeat' split
  all_goals first | exact h | exact State.canonical_setFld _ _ _ h

theorem State.canonical_writeCodes (m u a n : Nat) (h : s.canonical) : (s.writeCodes m u a n).canonical := by
  have fold : ∀ (ws : List Nat) {t : State}, t.canonical → (ws.foldl (fun s w => s.setErr w 0 false) t).canonical := by
    intro ws
    induction ws with
    | nil => exact fun h => h
    | cons w ws ih => exact fun {t} ht => ih (t := t.setErr w 0 false) ht
  have mark : ∀ (b : Bool) {t : State}, t.canonical → (if b then t.setPoison u false else t).canonical := by
    intro b t ht
    split <;> exact ht
  unfold State.writeCodes
  dsimp only
  refine State.canonical_flip _ _ _ (mark _ (fold _ ?_))
  repeat' split
  all_goals first | exact h | exact State.canonical_mendPage _ _ h

/-- A store keeps the canonical form. -/
theorem State.canonical_storeWrite (a : Nat) (bs : List Byte) (h : s.canonical) : (s.storeWrite a bs).canonical := by
  unfold State.storeWrite
  split
  · exact h
  · refine State.canonical_setMemBytes _ _ ?_
    split
    · exact h
    · exact State.each_keeps (P := State.canonical) (fun _ _ h => State.canonical_writeCodes _ _ _ _ h) _ h

theorem State.canonical_poisonRead (m a kind : Nat) (mgmt injected : Bool) (h : s.canonical) :
    (s.poisonRead m a kind mgmt injected).canonical := by
  unfold State.poisonRead
  refine State.canonical_alert _ (State.canonical_logMem _ _ _ _ ?_)
  split
  · exact State.canonical_setReg _ _ _ (State.canonical_count _ _ _ (State.canonical_count _ _ _ h))
  · exact State.canonical_count _ _ _ (State.canonical_count _ _ _ h)

end Canonical

end Sys2Proof.Machine
end

