-- ==== Sys2Proof/Machine/PageCode.lean ====
section
/-! DEFINITION. The page code of the stores, chapter 14: RS(516,512) over GF(2^16) in four columns, the page check it gives and its
upkeep by delta (R394, R396). -/
namespace Sys2Proof.Machine

/-- GF(2^16) of the page code: x^16 + x^12 + x^3 + x + 1 (R394). -/
def gf16 (a b : Nat) : Nat := gfMul 16 0x1100B a b

/-- The generator, the product of (x − α^t) for t = 0 to 3, highest power first, without its leading 1. -/
def pageGenerator : List Nat :=
  ((List.range 4).foldl (fun g t => List.zipWith (· ^^^ ·) (g ++ [0]) (0 :: g.map (gf16 (gfPow 16 0x1100B 2 t)))) [1]).tail

/-- One symbol enters the division by the generator; the remainder has its highest power first. -/
def pageStep (rem : List Nat) (m : Nat) : List Nat :=
  List.zipWith (fun r g => r ^^^ gf16 (rem.headD 0 ^^^ m) g) (rem.tail ++ [0]) pageGenerator

/-- The check symbols of a column, symbol 0 of the column first: the remainder of m(x) · x^4 divided by g(x). -/
def columnCheck (symbols : List Nat) : List Nat := symbols.foldl pageStep [0, 0, 0, 0]

/-- Symbols 0 to 511 of column `k` of a page: of each 8-byte word the bytes 2k and 2k + 1. -/
def pageColumn (page : List Byte) (k : Nat) : List Nat :=
  (List.range 512).map fun i => leValue ((page.drop (8 * i + 2 * k)).take 2)

/-- The 32 bytes of page check of a page: check symbol c of column k at bytes 8k + 2c and 8k + 2c + 1. -/
def pageCheck (page : List Byte) : List Byte :=
  (List.range 4).flatMap fun k => (columnCheck (pageColumn page k)).flatMap fun c => leBytes 2 c

/-- What a change of symbol `i` of a column by `d` adds to its check symbols: d times the remainder of x^(515 − i) divided by g(x)
(R396). -/
def checkDelta (i d : Nat) : List Nat := columnCheck (d :: List.replicate (511 - i) 0)

/-- The check symbols of a column after symbol `i` has changed from `old` to `new`. -/
def columnDelta (check : List Nat) (i old new : Nat) : List Nat := List.zipWith (· ^^^ ·) check (checkDelta i (old ^^^ new))

/-- The page check as the check array holds it: kept current by every write, with the errors that the flip mask has put there. -/
def State.pageCheckOf (s : State) (page : Nat) : List Byte :=
  List.zipWith (· ^^^ ·) (pageCheck (s.memBytes page 4096))
    ((List.range 16).flatMap fun e => leBytes 2 (Tab.get (fun _ => 0) s.memx.checkErrs (16 * page + e)))

end Sys2Proof.Machine
end

