-- ==== Sys2Proof/WellFormed.lean ====
section
/-! DEFINITION. The well-formed commands: where an operand is a list, the sizes the spec gives it. A command that is not well formed has
no counterpart in the device; every other operand is kept in range by its type. -/
namespace Sys2Proof

/-- A Causeway message: header, body of up to 1,024 bytes and trailer; with the padding of a frame, what a frame holds (R308). -/
def causewaySized (msg : List Byte) : Bool := decide (msg.length ≤ 1500)

/-- The command's lists have the sizes the spec gives them. -/
def Instr.wellFormed : Instr → Bool
  -- 544 symbols of an outer codeword and of a host codeword, RS(544, 514) (R50); a granule of 640 bytes (R200), in a host cell with 30
  -- parity symbols (R189)
  | .outerCodewordDecoded _ w => decide (w.length = 544)
  | .hostCodewordDecoded _ w => decide (w.length = 544)
  | .granuleReceived _ _ _ payload => decide (payload.length = 640)
  | .hostCellReceived _ _ _ payload parity => decide (payload.length = 640 ∧ parity.length = 30)
  -- the samples of a frame of 69,788 symbols or, in IEEE line mode, 34,848, with 192 before and 240 after it (R28, R152)
  | .rxFrameBoundary _ o => decide (o.samples.length = 192 + 69788 + 240 ∨ o.samples.length = 192 + 34848 + 240)
  -- 64 sub-converters (R62)
  | .foregroundCalibrationDone _ cal => decide (cal.trims.length = 64)
  -- the newest window and the 15 before it (R81)
  | .powerStep _ ms => decide (ms.length = 16)
  -- an FCM frame: the framing block and 33 payload blocks (R165)
  | .framingBlockReceived _ blocks => decide (blocks.length = 34)
  -- a window has at least one sample (R374)
  | .conversionEnd input => !input.isEmpty
  -- 24 sensors (R448)
  | .sensorSample readings => decide (readings.length = 24)
  -- one write of the bus moves at most a page (R296)
  | .twoWireWrite _ data _ => decide (data.length ≤ 256)
  -- an entry of 32 bytes (R308)
  | .causewayFragment _ entry => decide (entry.length = 32)
  | .causewayFrameExtract _ _ _ payload => causewaySized payload
  | .read _ msg => causewaySized msg
  | .write _ msg => causewaySized msg
  | .readBlock _ msg => causewaySized msg
  | .writeBlock _ msg => causewaySized msg
  | .imageChunk _ msg => causewaySized msg
  | .keyExchange _ msg => causewaySized msg
  | .finish _ msg => causewaySized msg
  | .sessionClose _ msg => causewaySized msg
  | .subscribe _ msg => causewaySized msg
  | .getVersion _ msg => causewaySized msg
  | .getCapabilities _ msg => causewaySized msg
  | .negotiateAlgorithms _ msg => causewaySized msg
  | .getDigests _ msg => causewaySized msg
  | .getCertificate _ msg => causewaySized msg
  | .challenge _ msg => causewaySized msg
  | .getMeasurements _ msg => causewaySized msg
  | .unsupportedRequest _ msg => causewaySized msg
  | .tunnelRequest _ msg => causewaySized msg
  | .tunnelReply _ msg => causewaySized msg
  | _ => true

end Sys2Proof
end

