-- ==== Sys2Proof/Tests/Slice0.lean ====
section
/-! SUPPORT. Tests: each list size that WellFormed checks; codes of the spec with values it gives; and, for the statements, small states
that meet their hypotheses, most of them with the outcome the statement names. -/
namespace Sys2Proof.Tests
set_option Elab.async false
open Sys2Proof.Machine Sys2Proof.Claims

/-- The state after reset with fields set: field, index, value. -/
def st (fs : List (Field × Nat × Nat)) : State := fs.foldl (fun s e => s.setFld e.1 e.2.1 e.2.2) State.reset

/-- The command answers a next state, and the check holds of it. -/
def after (c : Instr) (s : State) (f : State → Bool) : Bool := match exec c s with
  | .next t => f t
  | _ => false

/-- Only the registers named may differ, the stores and the flash not at all. -/
def same (ks : List RegKey) (s t : State) : Bool :=
  ((s.regs ++ t.regs).all fun e => ks.contains e.1 || t.reg e.1.1 e.1.2 == s.reg e.1.1 e.1.2) && t.mem == s.mem && t.flash == s.flash

/-- Only registers of the kinds named may differ. -/
def sameKinds (rs : List Reg) (s t : State) : Bool :=
  ((s.regs ++ t.regs).all fun e => rs.contains e.1.1 || t.reg e.1.1 e.1.2 == s.reg e.1.1 e.1.2) && t.mem == s.mem && t.flash == s.flash

/-- One record more waits, of this type with these words after the subject. -/
def logged (type kind index : Nat) (words : List Nat) (s t : State) : Bool :=
  t.recorder.queue.length == s.recorder.queue.length + 1 && (t.recorder.queue.getLast?.map fun r => (r.type, r.words)) ==
    some (type, ((kind * 2 ^ 24 + index) :: words).map (BitVec.ofNat 32))

/-- Firmware, which may write every register. -/
abbrev fw : Path := .firmware

/-! ### Performance counters -/

theorem test_pmcCtlWrite : Accepts State.reset fw .PMC_CTL 3 ∧ pmcSource 3 1 = some (16, false) ∧
    after (.pmcCtlWrite fw 3 0x8003010F) State.reset (fun t => t.flag PMC_CTL.EN 3 && t.fld PMC_CTL.INST 3 == 15 &&
      same [(.PMC_CTL, 3), (.PMC_VALUE, 3)] State.reset t) = true := by decide +kernel

theorem test_pmcWindowBoundary : (st [(PMC_CTL.WINDOWED, 5, 1)]).windowStarts = true ∧ after .pmcWindowBoundary (st [(PMC_CTL.WINDOWED, 5, 1), (PMC_VALUE.COUNT, 5, 7), (PMC_PRESET.PRESET, 5, 2)])
    (fun t => t.fld PMC_WIN.COUNT 5 == 7 && t.fld PMC_VALUE.COUNT 5 == 2 && !t.flag PMC_WIN.STEPPED 5) = true := by decide +kernel

theorem test_snap : Accepts State.reset fw .PMC_GLOBAL 0 ∧ 1 ≤ State.reset.fld PMC_GLOBAL.WIN 0 ∧ State.reset.fld PMC_GLOBAL.WIN 0 ≤ 1000000 ∧
    after (.snap fw) (st [(PMC_VALUE.COUNT, 127, 9)]) (fun t => t.pmcSnap.getD 127 0 == 9 && same [] (st [(PMC_VALUE.COUNT, 127, 9)]) t) = true := by
  decide +kernel

theorem test_counterWrap :
    let s := ({ st [(PMC_CTL.SAMPLE, 2, 1), (PMC_PRESET.PRESET, 2, 6)] with cycle := 12 }).modPmc 2 fun x => { x with wrapAt := some (10, 77) }
    (s.pmcOf 2).wrapAt = some (10, 77) ∧ Room s ∧ (s.pmcOf 2).lastSample = none ∧
    after (.counterWrap 2) s (fun t => (t.pmcOf 2).wrapAt == none && t.fld PMC_VALUE.COUNT 2 == 6 && t.recorder.queue.length == 1 &&
      (t.recorder.queue.head?.map fun r => (r.ts, r.type)) == some (77, Evt.PMC_SAMPLE)) = true := by decide +kernel

/-! ### The equaliser pool -/

/-- Group 0 with lane 0 on slices 0 to 2, one MLSE16 unit, lane 0 LOCKED. -/
def pooled : State :=
  let s := ((((State.reset.addPos 0 0).addPos 0 1).addPos 0 2).takeUnit 0 0 0).setDet 0 Det.MLSE16
  (s.setFld EQP_ALLOC.CURSOR 0 16).setFld LRX_STATUS.STATE 0 Lrx.LOCKED

def poolOp (op pos dest source : Nat) : PoolOp := { op := op, lane := 0, pos := pos, dest := dest, source := source }

theorem test_migrate : Accepts pooled fw .EQP_OP_CMD 0 ∧ (pooled.grpOf 0).ops = [] ∧ pooled.headless = false ∧ pooled.groupClosing 0 = false ∧
    pooled.refusal 0 (poolOp Pool.MIGRATE 1 12 0) = none ∧
    after (.migrate (.software fw) 0 0 1 12) pooled (fun t => (t.grpOf 0).ops == [poolOp Pool.MIGRATE 1 12 0] && t.flag EQP_OP_STATUS.BUSY 0 &&
      !t.flag EQP_OP_STATUS.QUEUED 0 && same [(.EQP_OP_CMD, 0), (.EQP_OP_STATUS, 0), (.EQP_STATUS, 0), (.EQP_STATUS, 1)] pooled t) = true := by
  decide +kernel

theorem test_add_by_test : pooled.refusal 0 (poolOp Pool.ADD 0 15 2) = none ∧
    after (.add .selfTest 0 0) pooled (fun t => (t.grpOf 0).ops == [poolOp Pool.ADD 0 15 2]) = true := by decide +kernel

theorem test_remove_by_relief : pooled.refusal 0 (poolOp Pool.REMOVE 0 15 0) = none ∧
    after (.remove .relief 0 0) pooled (fun t => (t.grpOf 0).ops == [poolOp Pool.REMOVE 0 15 1] && t.fld EQP_OP_STATUS.SOURCE 0 == 1) = true := by
  decide +kernel

theorem test_fuse_unfuse_dfe : pooled.refusal 0 (poolOp Pool.FUSE 0 15 0) = none ∧ pooled.refusal 0 (poolOp Pool.TO_DFE 0 15 0) = none ∧
    (pooled.setDet 0 Det.MLSE64).refusal 0 (poolOp Pool.UNFUSE 0 15 0) = none ∧
    (pooled.setDet 0 Det.DFE1).refusal 0 (poolOp Pool.TO_MLSE 0 15 0) = none := by decide +kernel

/-- The pool with an operation in hand. -/
def working (o : PoolOp) : State := pooled.modGrp 0 fun x => { x with ops := [o] }

theorem test_poolOpStart : let o := poolOp Pool.MIGRATE 1 12 0
    (working o).reliefSkips 0 o = false ∧ (working o).locked 0 = true ∧ (working o).startRefusal 0 o = none ∧ (working o).needsTested 0 o = none ∧
    opFrames o.op ≠ 0 ∧ after (.poolOpStart 0) (working o) (fun t => t.flag EQP_STATUS.OP 0 && (t.grpOf 0).ops.length == 1 &&
      sameKinds [.EQP_POOL, .EQP_SLICE_STATE, .EQP_ALLOC, .EQP_POS, .EQP_COEF, .EQP_STATUS, .EQP_POST, .EQP_TARGET, .EQP_OP_STATUS, .EQP_OP_OK,
        .EQP_OP_FAIL, .EVL_DROPPED] (working o) t) = true := by decide +kernel

theorem test_poolOpStart_at_once : let o := poolOp Pool.ADD 0 15 0
    (working o).startRefusal 0 o = none ∧ (working o).needsTested 0 o = none ∧ opFrames o.op = 0 ∧
    after (.poolOpStart 0) (working o) (fun t => (t.grpOf 0).ops == [] && t.fld EQP_OP_OK.COUNT 0 == 1 && t.slices 0 == 4 &&
      logged Evt.EQP_OP Subj.GROUP 0 [Pool.ADD, 0, PoolResult.OK, 0] (working o) t) = true := by decide +kernel

theorem test_poolOpFrame : let o := { poolOp Pool.MIGRATE 1 12 0 with started := true, frames := 1, sliceA := 1, sliceB := 12 }
    (pooled.grpOf 0).follow = [] ∧ o.frames < opFrames o.op ∧ (working o).locked 0 = true ∧
    after (.poolOpFrame 0 true) (working o) (fun t => (t.grpOf 0).ops == [{ o with frames := 2 }]) = true ∧
    after (.poolOpFrame 0 false) (working o) (fun t => (t.grpOf 0).ops == [] && t.fld EQP_OP_STATUS.RESULT 0 == PoolResult.MISMATCH) = true := by
  decide +kernel

theorem test_poolOpEnd : let o := { poolOp Pool.TO_DFE 0 15 0 with started := true, frames := opFrames Pool.TO_DFE }
    opFrames o.op ≤ o.frames ∧ after (.poolOpEnd 0) (working o) (fun t => (t.grpOf 0).ops == [] && t.fld EQP_OP_STATUS.RESULT 0 == PoolResult.OK &&
      t.fld EQP_OP_OK.COUNT 0 == 1) = true := by decide +kernel

theorem test_poolAuditViolation : pooled.poolAgrees 0 4 9 0 0 = false ∧ Room pooled ∧
    after (.poolAuditViolation 0 (BitVec.ofNat 16 (4 * 4096 + 9 * 256))) pooled (fun t => t.flag EQP_AUDIT.AUDIT_FAIL 0 && t.fld EQP_POOL.FREE 0 == 9 &&
      t.flag GLB_STATE.ALERT 0 && same [(.EQP_POOL, 0), (.EQP_AUDIT, 0), (.MGT_ALERT_STATUS, 0), (.GLB_STATE, 0)] pooled t) = true := by decide +kernel

theorem test_eqpAuditClr : let s := pooled.setFld EQP_POOL.FREE 0 9
    Accepts s fw .EQP_AUDIT 0 ∧ after (.eqpAuditClr fw 0) s (fun t => t.fld EQP_POOL.FREE 0 == 10 && same [(.EQP_POOL, 0), (.EQP_AUDIT, 0)] s t) = true := by
  decide +kernel

theorem test_coefLoad : let s := st [(EQP_CTRL.FREEZE, 7, 1), (EQP_CTRL.MU_TRK, 7, 8), (EQP_CTRL.MU_TRN, 7, 8)]
    Accepts s fw .EQP_CTRL 7 ∧ s.opActs 7 = false ∧ after (.coefLoad fw 7) s (fun t => (t.eqpOf 7).loadDue == some fw && s.risenOf .EQP_CTRL 7 == 0 &&
      (t.fld EQP_STATUS.FREEZE_CAUSE 7).testBit 3 && same [(.EQP_STATUS, 7)] s t) = true := by decide +kernel

/-! ### Time -/

/-- Lane 4 transfers time. -/
def timeUp : State := st [(LRX_STATUS.STATE, 4, Lrx.LOCKED), (LFEC_STATUS.MF_KNOWN, 4, 1)]

theorem test_timeWord_subs : timeUp.timeLane 4 = true ∧ after (.timeWordReceived 4 0) timeUp (fun t => (t.tlaneOf 4).toAnswer == some (0, 0) &&
      same [(.LFEC_OAM_RX, 4), (.TMB_TIME_RX, 4)] timeUp t) = true ∧
    after (.timeWordReceived 4 (BitVec.ofNat 44 (4 * 2 ^ 40 + 25))) timeUp (fun t => (t.tlaneOf 4).farBound == 25) = true ∧
    after (.timeWordReceived 4 (BitVec.ofNat 44 (5 * 2 ^ 40))) timeUp (fun t => t.fld TMB_SUB_RSVD.COUNT 4 == 1) = true ∧
    after (.timeWordReceived 4 (BitVec.ofNat 44 (3 * 2 ^ 40 + 2 ^ 38 + 9 * 256))) timeUp (fun t => t.fld TMB_LANE_STATUS.Q 4 == 1 &&
      t.fld TMB_LANE_STATUS.NODE 4 == 9) = true := by decide +kernel

theorem test_timeWord_delta : let s := timeUp.modTlane 4 fun x => { x with fines := [(2, -5000)] }
    s.timeLane 4 = true ∧ after (.timeWordReceived 4 (BitVec.ofNat 44 (2 ^ 40 + 2 * 2 ^ 38 + 3000))) s (fun t =>
      t.flag TMB_RTT.VALID 4 && t.fld TMB_RTT.RTT 4 == 2000) = true := by decide +kernel

/-- Time transfer waits for the multiframe phase (R246). -/
theorem test_timeWord_unknown_phase : let s := st [(LRX_STATUS.STATE, 4, Lrx.LOCKED)]
    after (.timeWordReceived 4 0) s (fun t => (t.tlaneOf 4).toAnswer == none && same [(.LFEC_OAM_RX, 4)] s t) = true := by decide +kernel

/-- The state with its clock changed. -/
def timed (s : State) (f : TimeX → TimeX) : State := { s with time := f s.time }

theorem test_sourceSelection :
    let s := fun c => { timed (st [(TMB_SRC_CFG.ROLE, 0, 1), (TMB_SRC_CFG.GM_FREE, 0, 1)]) (fun x => { x with best := some (.self, 0) }) with cycle := c }
    ((s 305920).bestCandidate.map fun e => e.1) = some .self ∧ (s 305920).time.source ≠ .self ∧ (s 305920).longBest .self = true ∧
    after .sourceSelection (s 305920) (fun t => t.time.source == .self) = true ∧
    after .sourceSelection (s 305919) (fun t => t.time.source == .none_) = true := by decide +kernel

theorem test_sourceLoss : let s := timed (st [(TMB_QUALITY.Q, 0, 0)]) fun x => { x with source := .far 7 }
    s.sourceSilent = true ∧ after .sourceLoss s (fun t => t.quality == Quality.HOLDOVER) = true := by decide +kernel

theorem test_timeLockQualified :
    let s := fun q => ({ timed (st [(TMB_QUALITY.Q, 0, 2)]) (fun x => { x with source := .far 7, nearSince := some 9 }) with
      cycle := 1562509 } : State).modTlane 3 fun x =>
      { x with farNode := some 7, source := some (BitVec.ofNat 40 (q * 2 ^ 38 + 0x700)) }
    ((s 0).upstream.map fun e => e.1) = some Quality.LOCKED ∧ ((s 1).upstream.map fun e => e.1) = some Quality.HOLDOVER ∧
    (s 0).quality ≠ Quality.LOST ∧ after .timeLockQualified (s 1) (fun t => t.quality == Quality.HOLDOVER &&
      sameKinds [.TMB_QUALITY, .TMB_ERR_BOUND, .TMB_STATUS] (s 1) t) = true := by decide +kernel

/-- 5 s and 999,999,999 ns; the bound is 3 ns. -/
theorem test_tmbSet : let v : BitVec 128 := BitVec.ofNat 128 (3 * 2 ^ 96 + 5 * 2 ^ 48 + 999999999 * 2 ^ 16)
    Accepts State.reset fw .TMB_SET 0 ∧ ts96Valid (v.extractLsb' 0 96) = true ∧ State.reset.following = false ∧
    after (.tmbSet fw v) State.reset (fun t => t.now == v.extractLsb' 0 96 && t.quality == Quality.ESTIMATED && t.flag TMB_QUALITY.STEPPED 0) = true := by
  decide +kernel

theorem test_tmbSet_invalid : let v : BitVec 128 := BitVec.ofNat 128 (1000000000 * 2 ^ 16)
    ts96Valid (v.extractLsb' 0 96) = false ∧ after (.tmbSet fw v) State.reset (fun t => t.time == State.reset.time && t.fld TMB_STATUS.RESULT 0 == 2 &&
      same [(.TMB_STATUS, 0)] State.reset t) = true := by decide +kernel

theorem test_tmbSet_following : let s := timed State.reset fun x => { x with source := .far 1 }
    s.following = true ∧ after (.tmbSet fw 0) s (fun t => t.time == s.time && t.fld TMB_STATUS.RESULT 0 == 1 && same [(.TMB_STATUS, 0)] s t) = true := by
  decide +kernel

theorem test_tmbEpoch : let s : State := { timed (st [(TMB_SRC_CFG.ROLE, 0, 1), (TMB_SRC_CFG.GM_FREE, 0, 1), (TMB_QUALITY.Q, 0, 2)]) (fun x => { x with source := .self }) with
      cycle := 7812500 }
    s.quality ≠ Quality.LOCKED ∧ s.quality ≠ Quality.LOST ∧ Room s ∧ s.farLocked = false ∧ s.time.quietAt + 7812500 ≤ s.cycle ∧
    after .tmbEpoch s (fun t => t.quality == Quality.LOCKED && t.time.bound == 0 && t.recorder.queue.any (fun r => r.type == Evt.TMB_EPOCH)) = true := by
  decide +kernel

theorem test_boundLimit : let s := fun b => timed (st [(TMB_QUALITY.Q, 0, 1)]) fun x => { x with bound := b }
    (s 1000001).boundNow < 2 ^ 63 ∧ (s 1000001).fld TMB_HOLD_CFG.HOLD_LIMIT 0 * 10000 < (s 1000001).boundNow ∧ 2 ^ 63 ≤ (s (2 ^ 63)).boundNow ∧
    after .boundLimitExceeded (s 1000001) (fun t => t.quality == Quality.ESTIMATED && t.time.bound == 1000001) = true ∧
    after .boundLimitExceeded (s (2 ^ 63)) (fun t => t.quality == Quality.LOST && t.flag TMB_ERR_BOUND.UNBOUNDED 0) = true := by decide +kernel

theorem test_tmbNodeIdWrite : Accepts State.reset fw .TMB_NODE_ID 0 ∧ (∀ n : Lane, State.reset.locked n = false) ∧
    after (.tmbNodeIdWrite fw 77) State.reset (fun t => t.fld TMB_NODE_ID.NODE_ID 0 == 77) = true := by decide +kernel

theorem test_asymCalGo : Accepts State.reset fw .TMB_ASYM_CAL 0 ∧ State.reset.headless = false ∧ State.reset.flag TMB_STATUS.CAL_BUSY 0 = false ∧
    after (.asymCalGo fw 3 16 9) State.reset (fun t => t.flag TMB_STATUS.CAL_BUSY 0 && t.fld TMB_ASYM_CAL.LANE 0 == 3 &&
      same [(.TMB_ASYM_CAL, 0), (.TMB_STATUS, 0)] State.reset t) = true := by decide +kernel

theorem test_asymCalDone : let s := (timed (st [(TMB_STATUS.CAL_BUSY, 0, 1), (TMB_ASYM_CAL.EDGES, 0, 16), (TMB_ASYM_CAL.LANE, 0, 3), (TMB_QUALITY.Q, 0, 0)])
      fun x => { x with calCaps := List.replicate 16 2660 })
    after (.asymCalDone (List.replicate 16 (ts96Of 100))) s (fun t => t.fld TMB_STATUS.RESULT 0 == 0 && t.fld TMB_ASYM.ASYM 3 == 20 &&
      same [(.TMB_ASYM, 3), (.TMB_ASYM_UNC, 3), (.TMB_STATUS, 0)] s t) = true ∧
    after (.asymCalDone [1]) s (fun t => t.fld TMB_STATUS.RESULT 0 == 4 && same [(.TMB_STATUS, 0)] s t) = true := by decide +kernel

theorem test_ppsInEdge : let s := st [(TMB_PPS_CFG.IN_MODE, 0, 1), (TMB_PPS_IN_DLY.DLY, 0, 1000)]
    after (.ppsInEdge 100 100) s (fun t => t.fld TMB_PPS_EDGES.COUNT 0 == 1 && t.now == s.now && t.time.ppsAt == some 0 &&
      same [(.TMB_PPS_EDGES, 0), (.TMB_PPS_IN_TS, 0)] s t) = true := by decide +kernel

theorem test_ppsMissing : let s : State := { timed (st [(TMB_PPS_CFG.IN_MODE, 0, 2), (TMB_QUALITY.Q, 0, 0)]) (fun x =>
        { x with source := .self, ppsAt := some 5 }) with cycle := 1171875005 }
    s.ppsSilent = true ∧ after .ppsMissing s (fun t => t.fld TMB_PPS_MISS.COUNT 0 == 1 && t.quality == Quality.HOLDOVER &&
      sameKinds [.TMB_PPS_MISS, .TMB_QUALITY, .TMB_ERR_BOUND, .TMB_STATUS] s t) = true := by decide +kernel

theorem test_ppsOut : let s := st [(TMB_PPS_CFG.OUT_EN, 0, 1), (TMB_QUALITY.Q, 0, 0)]
    s.ppsGate = true ∧ s.time.ppsOutLast = none ∧ s.ppsReached = true ∧ s.time.ppsOutSec ≠ some s.ppsSecond ∧ s.ppsWide = true ∧
    (timed s fun x => { x with sub := 2000 * 2 ^ 48 }).ppsReached = false ∧
    after .ppsOutRise s (fun t => t.time.ppsOut && (match exec .ppsOutRise t with
      | .next u => u == t
      | _ => false)) = true := by decide +kernel

/-- Port 2 of 100 Gb/s, its hosts LOCKED, with the transparent clock on. -/
def tcPorts : State := st ([(HPM_PORT_CFG.VALID, 2, 1), (HPM_PORT_CFG.FLAGS, 2, 2), (HRN_GROUP_STATE.SVC, 0, 1)] ++
  (List.range 32).map fun h => (HSI_STATUS.RX_STATE, h, HRx.LOCKED))

/-- A Sync message in a frame, its messageTypeSpecific `mts`, its correction 5. -/
def ptpFrame (mts : BitVec 32) : List Byte :=
  List.replicate 12 0 ++ [0x88, 0xF7, 0, 2] ++ List.replicate 13 0 ++ [5] ++ beBytes 4 mts.toNat ++ List.replicate 18 0

theorem test_ptp : ptpPlace (ptpFrame 9) = some (14, none) ∧ mtsOf (ptpFrame 9) 14 = 9 ∧ mtsOf (ptpFrame 0) 14 = 0 ∧ tcPorts.tcPort 2 = true ∧
    tcPorts.portHears 2 = true ∧ tcPorts.quality ≠ Quality.LOCKED ∧
    after (.ptpIngress 2 0 (ptpFrame 0)) tcPorts (fun t => t.time.ptp == ptpFrame 0 && same [] tcPorts t) = true ∧
    after (.ptpIngress 2 0 (ptpFrame 9)) tcPorts (fun t => t.time.ptp == ptpFrame 9 && same [(.TMB_TC_SKIP, 2)] tcPorts t) = true ∧
    after (.ptpEgress 2 0 (ptpFrame 9)) tcPorts (fun t => mtsOf t.time.ptp 14 == 0 && correctionOf t.time.ptp 14 == 5 &&
      t.fld TMB_TC_UNLOCK.COUNT 2 == 1) = true := by decide +kernel

theorem test_ptp_locked : let s := timed (tcPorts.setFld TMB_QUALITY.Q 0 0) fun x => { x with sec := 1, sub := 300 * 2 ^ 48 }
    s.tcPort 2 = true ∧ s.portHears 2 = true ∧ s.quality = Quality.LOCKED ∧ ptpStamp (s.hostInstant 0) = ptpStamp s.now16 ∧
    after (.ptpIngress 2 0 (ptpFrame 0)) s (fun t => mtsOf t.time.ptp 14 == ptpStamp s.now16 && correctionOf t.time.ptp 14 == 5 &&
      same [] s t) = true ∧
    after (.ptpEgress 2 0 (ptpFrame (ptpStamp s.now16 - 256))) s (fun t => mtsOf t.time.ptp 14 == 0 && correctionOf t.time.ptp 14 == 5 + 65536 &&
      same [(.TMB_TC_CORR, 2)] s t) = true := by decide +kernel

/-! ### Memory -/

theorem test_pageRepairDone : let s := State.reset.modMemx fun x => { x with repairing := [regionBase 20 + 4096] }
    s.inReach 20 (regionBase 20 + 4096) = true ∧ after (.pageRepairDone 20 1) s (fun t => t.fld MEM_REPAIR.COUNT 20 == 1 &&
      sameKinds [.MEM_REPAIR, .MEM_SPARE, .MEM_STATUS, .CIN_LANE_STATUS, .MGT_ALERT_STATUS, .GLB_STATE, .EVL_DROPPED] s t) = true := by decide +kernel

theorem test_retirementCopyDone : let s := State.reset.modMemx fun x => { x with copying := [regionBase 18] }
    s.inReach 18 (regionBase 18) = true ∧ after (.retirementCopyDone 18 0) s (fun t => t.memx.copying == [] && same [] s t) = true := by decide +kernel

theorem test_scrubBeat : let s := st [(MEM_REGION_ARMED.ARMED, 0, 2 ^ 18)]
    s.partFailed 12 = false ∧ s.armed 18 = true ∧ s.flag MEM_SCRUB_CFG.SCRUB_EN 18 = true ∧
    Tab.get (fun _ => (0, 0, s.cycle)) s.memx.scrub 18 = (0, 0, 0) ∧
    after (.scrubBeat 18 []) s (fun t => Tab.get (fun _ => (0, 0, s.cycle)) t.memx.scrub 18 == (0, 1, 0)) = true := by decide +kernel

theorem test_flipMaskCommit : let v : BitVec 128 := BitVec.ofNat 128 (2 * 2 ^ 96 + 3)
    Accepts State.reset fw .MEM_FLIP_MASK 0 ∧ fieldOf v.toNat MEM_FLIP_MASK.STORE ≤ 6 ∧ fieldOf v.toNat MEM_FLIP_MASK.TARGET ≤ 1 ∧
    fieldOf v.toNat MEM_FLIP_MASK.COUNT = 2 ∧ after (.flipMaskCommit fw v) State.reset (fun t => t.memx.flipLeft == 2 &&
      t.fld MEM_FLIP_MASK.MASK 0 == 3 && same [(.MEM_FLIP_MASK, 0)] State.reset t) = true := by decide +kernel

/-! ### Cinch -/

/-- Group 0 open in Cinch service, lane 0 LOCKED with an open transmit stream and a running receive stream, channel 3 enabled on lane 0,
host lane 0 transmitting. -/
def linked : State := st [(HRN_GROUP_STATE.STATE, 0, Group.OPEN), (HRN_GROUP_STATE.SVC, 0, Svc.CINCH), (LRX_STATUS.STATE, 0, Lrx.LOCKED),
  (CIN_LANE_STATUS.TX_STREAM, 0, Stream.OPEN), (CIN_LANE_STATUS.RX_STREAM, 0, Stream.RUN), (CIN_LANE_SEQ.HEAD, 0, 5), (CIN_LANE_SEQ.E, 0, 9),
  (CIN_CH_CFG.EN, 3, 1), (CIN_CH_CFG.WEIGHT, 3, 1), (CIN_CH_CFG.STRIPE, 3, 1), (CIN_CH_STATUS.STRIPE_NOW, 3, 1), (HSI_STATUS.TX_STATE, 0, 4)]

theorem test_granulePosition_idle : linked.cinchLane 0 = true ∧ linked.laneOpen 0 = true ∧ (linked.claneOf 0).run = none ∧
    (linked.claneOf 0).ctlQ = [] ∧ linked.wrrPick 0 = none ∧ (linked.setFld CIN_LANE_STATUS.TX_STREAM 0 0).laneOpen 0 = false ∧
    after (.granulePosition 0 true true true) linked (fun t => (t.claneOf 0).sent.kind == 0 && same [] linked t) = true := by decide +kernel

theorem test_granulePosition_control : let s := linked.modClane 0 fun x => { x with ctlQ := [[7]] }
    after (.granulePosition 0 true true true) s (fun t => (t.claneOf 0).sent == ⟨2, 0, 0, [7]⟩ && (t.claneOf 0).ctlQ == [] && t.laneHead 0 == 6) = true := by
  decide +kernel

theorem test_granulePosition_data : let s := linked.modChan 3 fun x => { x with ing := [{ payload := [8], tsIn := 0 }] }
    s.wrrPick 0 = some 3 ∧ after (.granulePosition 0 true true true) s (fun t => (t.claneOf 0).sent == ⟨1, 3, 0, [8]⟩ && (t.chanOf 3).txNext == 1 &&
      t.fld CIN_SENT.COUNT 3 == 1 && ((t.claneOf 0).dir.head?.map fun d => (d.seq, d.chan)) == some (5, 3)) = true := by decide +kernel

/-- A codeword that lane 0's decoder has passed on waits. -/
def decoded (ok : Bool) (w : List (BitVec 10)) : State := linked.modLfec 0 fun x => { x with rxOut := [(ok, w)] }

/-- The message symbols of a granule. -/
def granuleWord (hi : BitVec 12) (payload : List Byte) : List (BitVec 10) :=
  (chunks 10 514 (granuleBits (hi ++ tagCrc hi) payload)).map fun b => BitVec.ofNat 10 (bitsValue b)

theorem test_granuleReceived_gap : linked.locked 0 = true ∧ linked.rxStream 0 = Stream.RUN ∧ (linked.claneOf 0).ctlIn = [] ∧
    (linked.lfecOf 0).rxOut = [] ∧ after (.granuleReceived 0 false 0 []) linked (fun t => t.fld CIN_GAPS.COUNT 0 == 1 && t.rxStream 0 == Stream.WAIT &&
      t.cin.nacks.any (fun q => q.lane == 0 && q.seq == 9 && q.left == 2) &&
      same [(.CIN_GAPS, 0), (.CIN_LANE_STATUS, 0), (.CIN_LANE_EPOCH, 0)] linked t) = true ∧
    after (.granuleReceived 0 true 0 []) linked (fun t => t == linked) = true ∧
    after (.granuleReceived 0 false 0 []) (decoded false []) (fun t => t.fld CIN_GAPS.COUNT 0 == 1 && (t.lfecOf 0).rxOut == []) = true := by decide +kernel

theorem test_granuleReceived_idle : let w := granuleWord 0 (List.replicate 640 0)
    granuleParts (symbolBits (w.map (·.toNat))) = ((0 : BitVec 12) ++ tagCrc 0, List.replicate 640 0) ∧
    after (.granuleReceived 0 true ((0 : BitVec 12) ++ tagCrc 0) (List.replicate 640 0)) (decoded true w) (fun t => same [] linked t && t.chan == linked.chan && (t.lfecOf 0).rxOut == []) = true := by
  decide +kernel

/-- A SKIP record, one of a reserved type, and no more: SKIP waits, the other is counted. -/
theorem test_granuleReceived_control : let w := granuleWord 0x800 (ctlPayload [recSkip 3 0 7, ctlRecord [9]])
    after (.granuleReceived 0 true ((0x800 : BitVec 12) ++ tagCrc 0x800) (ctlPayload [recSkip 3 0 7, ctlRecord [9]])) (decoded true w) (fun t => t.laneE 0 == 10 && (t.claneOf 0).ctlIn == [recSkip 3 0 7] &&
      t.fld CIN_TAG_ERR.COUNT 0 == 1 && same [(.CIN_LANE_SEQ, 0), (.CIN_LANE_STATUS, 0), (.CIN_TAG_ERR, 0)] linked t) = true := by decide +kernel

theorem test_nackTimeout : let s := linked.setFld CIN_LANE_STATUS.RX_STREAM 0 Stream.WAIT
    s.rxStream 0 = Stream.WAIT ∧ after (.nackTimeout 0) s (fun t => t.fld CIN_NACK_TO.COUNT 0 == 1 && t.cin.nacks.any (fun q => q.lane == 0 && q.seq == 9) &&
      same [(.CIN_NACK_TO, 0), (.CIN_LANE_EPOCH, 0)] s t) = true := by decide +kernel

theorem test_nackReceived : let w := fun e : BitVec 8 => (BitVec.ofNat 4 0 ++ (4 : BitVec 32) ++ e : BitVec 44)
    let s := linked.modClane 0 fun x => { x with dir := [⟨4, 0, true, 0, 0⟩] }
    s.rebuilding .CIN_NACK_RX 0 = false ∧ s.flag CIN_LANE_STATUS.NO_REPLAY 0 = false ∧ (4 : BitVec 32) ≠ s.laneHead 0 ∧ ((s.claneOf 0).dir.any fun d => d.seq = 4) = true ∧
    after (.nackReceived 0 (w 1)) s (fun t => (t.claneOf 0).run == some 4 && t.txStream 0 == Stream.REPLAY && t.fld CIN_RUNS.COUNT 0 == 1) = true ∧
    after (.nackReceived 0 (w 127)) s (fun t => (t.claneOf 0).run == some 4) = true ∧
    after (.nackReceived 0 (w 0)) s (fun t => t.fld CIN_NACK_DUP.COUNT 0 == 1) = true ∧
    after (.nackReceived 0 (w 128)) s (fun t => t.fld CIN_NACK_DUP.COUNT 0 == 1) = true := by decide +kernel

/-- A record waits at lane 0. -/
def waiting (s : State) (r : List Byte) : State := s.modClane 0 fun x => { x with ctlIn := [r] }

theorem test_openRecord : let s := waiting (linked.setFld CIN_LANE_STATUS.RX_STREAM 0 Stream.CLOSED) (recOpen 77 0 0)
    s.rxStream 0 = Stream.CLOSED ∧ after (.openRecord 0 76) s (fun t => t == s) = true ∧ after (.openRecord 0 77) s (fun t => t.rxStream 0 == Stream.RUN && t.laneE 0 == 1 &&
      (t.tlaneOf 0).farNode == some 77 && (t.claneOf 0).ctlIn == []) = true := by decide +kernel

theorem test_resyncRecord : let s := waiting (linked.setFld CIN_LANE_STATUS.RX_STREAM 0 Stream.WAIT) (recResync 40 0)
    after (.resyncRecord 0 0 40) s (fun t => t.rxStream 0 == Stream.RUN && t.laneE 0 == 41 && same [(.CIN_LANE_STATUS, 0), (.CIN_LANE_SEQ, 0)] s t) = true := by
  decide +kernel

theorem test_skipRecord : linked.chEn 3 = true ∧ (linked.chanOf 3).lost = [] ∧ seqLt 0 7 = true ∧
    after (.skipRecord 0 3 0) (waiting linked (recSkip 3 0 0)) (fun t => (t.chanOf 3).rxNext == 1 && (t.chanOf 3).lost == [] && same [] linked t) = true ∧
    after (.skipRecord 0 3 7) (waiting linked (recSkip 3 0 7)) (fun t => (t.chanOf 3).rxNext == 0 && (t.chanOf 3).lost == [⟨none, 7, 8⟩]) = true := by
  decide +kernel

theorem test_stripeRecord : let s := linked.modChan 3 fun x => { x with spans := [⟨10, 1, []⟩] }
    ((s.chanOf 3).spans.any fun sp => sp.isCopy 0 1 10) = true ∧ ((s.chanOf 3).spans.any fun sp => sp.isCopy 0 3 12) = false ∧
    after (.stripeRecord 0 3 1 10) (waiting s (recStripe 3 1 10)) (fun t => (t.chanOf 3).spans == [⟨10, 1, [0]⟩] && (t.chanOf 3).low 0 == 10 && same [] s t) = true ∧
    after (.stripeRecord 0 3 3 12) (waiting s (recStripe 3 3 12)) (fun t => (t.chanOf 3).spans.head? == some ⟨12, 3, [0]⟩ && (t.chanOf 3).low 0 == 12) = true := by
  decide +kernel

theorem test_chposRecord : after (.chposRecord 0 3 6) (waiting linked (recChpos [(3, 6)])) (fun t => (t.chanOf 3).low 0 == 6) = true := by decide +kernel

theorem test_chopenRecord : let s := waiting (linked.modChan 3 fun x => { x with txNext := 4, egr := [⟨1, []⟩] }) (recChopen 3)
    after (.chopenRecord 0 3) s (fun t => (t.chanOf 3).txNext == 0 && (t.chanOf 3).egr == [] && (t.chanOf 3).discard && !t.frozen 3 &&
      t.fld CIN_CH_STATUS.STRIPE_NOW 3 == 1) = true := by decide +kernel

theorem test_creditWordReceived : let w := fun (loop total : Nat) => (BitVec.ofNat 2 loop ++ BitVec.ofNat 8 3 ++ BitVec.ofNat 34 total : BitVec 44)
    let s := linked.setFld CIN_CH_CFG.LINE_CREDIT 3 1
    s.lineCredit 3 = true ∧ s.frozen 3 = false ∧ (s.chanOf 3).discard = false ∧
    after (.creditWordReceived 0 (w 2 65536)) s (fun t => t.acct 3 4 == 65536 && t.acct 3 7 == 65536 &&
      same [(.LFEC_OAM_RX, 0), (.CIN_CH_ACCT, 52), (.CIN_CH_ACCT, 55)] s t) = true ∧
    after (.creditWordReceived 0 (w 0 1)) s (fun t => t.fld CIN_CR_BAD.COUNT 0 == 1) = true := by decide +kernel

theorem test_creditRefresh : after .creditRefresh linked (fun t => (t.chanOf 3).due1 && (t.chanOf 3).due3 && !(t.chanOf 3).due2g && same [] linked t) = true := by
  decide +kernel

theorem test_granuleDeliver : let s := ((linked.setFld CIN_CH_ACCT.TOTAL 63 10).modChan 3 fun x => { x with egr := [⟨0, [6]⟩] })
    s.hostActive 3 = true ∧ 10 ≤ s.acct 3 15 ∧ after (.granuleDeliver 3 true) s (fun t => (t.hsiOf 0).outQ == [(3, [6])] && (t.chanOf 3).rxNext == 1 &&
      t.acct 3 13 == 10 && t.acct 3 15 == 0 && t.fld CIN_DELIVER.COUNT 3 == 1) = true := by decide +kernel

theorem test_cinchAudit : linked.conserves 3 = true ∧ (linked.setFld CIN_SENT.COUNT 3 4).conserves 3 = false ∧
    after .cinchAudit linked (fun t => same [(.CIN_AUDIT_PASS, 0)] linked t) = true ∧
    after .cinchAudit (linked.setFld CIN_SENT.COUNT 3 4) (fun t => t.frozen 3 && t.flag GLB_STATE.ALERT 0) = true := by decide +kernel

theorem test_streamOpen : let s := ((linked.setFld CIN_LANE_STATUS.TX_STREAM 0 0).setFld LTX_STATUS.STATE 0 Ltx.ACTIVE).setFld LFEC_FAR_STATUS.PAYLOAD 0 (2 ^ 23 + 2 * 256)
    let s := s.setFld LFEC_FAR_STATUS.AGE 0 0
    s.laneOpen 0 = false ∧ s.farReady 0 = true ∧ s.flag LFEC_STATUS.CFG_MISMATCH 0 = false ∧ s.flag CIN_LANE_STATUS.SHED 0 = false ∧
    after (.streamOpen 0) s (fun t => t.txStream 0 == Stream.OPEN && t.laneHead 0 == 0 && !(t.claneOf 0).ctlQ.isEmpty) = true := by decide +kernel

theorem test_shedLolExpiry : let s := linked.setFld LRX_STATUS.STATE 0 Lrx.AGC
    s.locked 0 = false ∧ Room s ∧ after (.shedLolExpiry 0) s (fun t => t.flag CIN_LANE_STATUS.SHED 0 && t.fld CIN_SHEDS.COUNT 0 == 1 && t.txStream 0 == 0) = true := by
  decide +kernel

theorem test_cinShed : Accepts linked fw .CIN_LANE_CTRL 0 ∧ linked.flag CIN_LANE_CTRL.SHED 0 = false ∧
    after (.cinShedWrite fw 0) linked (fun t => t.flag CIN_LANE_STATUS.SHED 0 && t.flag CIN_LANE_CTRL.SHED 0) = true ∧
    after (.cinUnshedWrite fw 0) (linked.setFld CIN_LANE_CTRL.SHED 0 1) (fun t => !t.flag CIN_LANE_CTRL.SHED 0 && (t.claneOf 0).wasSoftware) = true ∧
    after (.cinUnshedWrite fw 0) ((linked.setFld CIN_LANE_CTRL.SHED_ON_SF 0 1).setFld LFEC_STATUS.SF 0 1) (fun t => t.flag CIN_LANE_STATUS.SHED 0) = true := by
  decide +kernel

theorem test_rejoin : let s := (linked.setFld CIN_LANE_STATUS.SHED 0 1).setFld LFEC_FAR_STATUS.PAYLOAD 0 (2 ^ 23)
    s.flag LFEC_STATUS.SF 0 = false ∧ after (.rejoin 0) s (fun t => !t.flag CIN_LANE_STATUS.SHED 0 && same [(.CIN_LANE_STATUS, 0)] s t) = true := by decide +kernel

theorem test_channelOpen : let s := linked.setFld CIN_CH_CFG.EN 3 0
    Accepts s fw .CIN_CH_CFG 3 ∧ s.fld CIN_CH_CFG.WEIGHT 3 ≠ 0 ∧ s.fld CIN_CH_CFG.STRIPE 3 ≠ 0 ∧ (∀ n ∈ maskLanes (s.fld CIN_CH_CFG.STRIPE 3), s.cinchLane n = true) ∧
    after (.channelOpen fw 3 true) s (fun t => t.chEn 3 && t.lineCredit 3 && (t.chanOf 3).discard && t.chopenWaits 3) = true := by decide +kernel

theorem test_channelClose : after (.channelClose fw 3) linked (fun t => !t.chEn 3 && t.chanOf 3 == {} && t.acct 3 0 == 0) = true ∧
    after (.clrCh fw 3) linked (fun t => !t.chEn 3 && t.chanOf 3 == {}) = true := by decide +kernel

theorem test_stripeWrite : let s := linked.setFld CIN_LANE_STATUS.TX_STREAM 1 Stream.OPEN
    after (.stripeWrite fw 3 3) s (fun t => t.fld CIN_CH_CFG.STRIPE 3 == 3 && t.fld CIN_CH_STATUS.STRIPE_NOW 3 == 3 &&
      same [(.CIN_CH_CFG, 3), (.CIN_CH_STATUS, 3)] s t) = true := by decide +kernel

theorem test_creditDiscardEnd : let s := linked.modChan 3 fun x => { x with discard := true }
    after (.creditDiscardEnd 3) s (fun t => !(t.chanOf 3).discard && same [] s t) = true := by decide +kernel

/-! ### Line frame and FEC -/

/-- The IDLE word, its CRC and its whitened form, as the spec's example gives them. -/
theorem test_idle_word : oamWord Oam.IDLE 0 = 0x60 ∧ oamWord Oam.IDLE 0 ^^^ oamMask = 0xA55AA55AA55AC5 := by decide +kernel

/-- Group 2 configured in terminated Ethernet service. -/
def framed : State := { st [(HRN_GROUP_STATE.STATE, 2, Group.OPEN), (HRN_GROUP_STATE.SVC, 2, Svc.ETHERNET), (LTX_STATUS.STATE, 4, Ltx.ACTIVE)] with
  cfg := [((Sect.MODES, 2), [0])] }

/-- A frame is too long for the kernel to work out: what the statement asks of a state, at frames 0, 1 and 8 of lane 4. -/
theorem test_frameStart : framed.configured 2 = true ∧ framed.ieee 4 = false ∧ framed.svc 4 ≠ Svc.TRANSPARENT ∧ framed.cin.nacks = [] ∧
    framed.ltxState 4 = Ltx.ACTIVE ∧ ({ framed with frameTimer := 60 } : State).slotFrame 4 = 0 ∧
    ({ framed with frameTimer := 239 + 60 } : State).slotFrame 4 = 1 ∧ ({ framed with frameTimer := 59 } : State).slotFrame 4 = 79 := by decide +kernel

theorem test_frameStart_chEn : ∀ c : Chan, framed.chEn c = false := by decide +kernel

theorem test_frameStart_swap : let s := framed.setFld LTX_STATUS.SWAP_BUSY 4 1
    s.flag LTX_STATUS.SWAP_BUSY 4 = true ∧ s.fld LTX_FIR_CFG.MAIN 4 ≤ 14 := by decide +kernel

theorem test_frameStart_enters_active : let s := framed.setFld LTX_STATUS.STATE 4 Ltx.STARTING
    s.ltxState 4 = Ltx.STARTING ∧ (s.ltxOf 4).enabling = false ∧ (s.ltxOf 4).unsqRunning = false ∧ s.sqCause 4 = 0 := by decide +kernel

/-- Lane 6 with a live count, kept to the identities. -/
def counted : State := State.reset.modLfec 6 fun x => { x with live := { x.live with inRx := 3, inZero := 3 } }

theorem test_counterSnapshot : counted.flag LFEC_CTRL.HOLD 6 = false ∧ (counted.setFld LFEC_CTRL.HOLD 6 1).flag LFEC_CTRL.HOLD 6 = true ∧
    after (.counterSnapshot 6) counted (fun t => t.fld LFEC_IN_RX.COUNT 6 == 3 && (t.lfecOf 6).boundaries == (counted.lfecOf 6).boundaries + 1) = true ∧
    after (.counterSnapshot 6) (counted.setFld LFEC_CTRL.HOLD 6 1) (fun t => t.fld LFEC_IN_RX.COUNT 6 == 0) = true := by decide +kernel

theorem test_snapshotTaken : let s := counted.setFld LFEC_STATUS.SNAP_BUSY 6 1
    after (.snapshotTaken 6) s (fun t => t.fld LFEC_IN_ZERO.COUNT 6 == 3 && !t.flag LFEC_STATUS.SNAP_BUSY 6) = true := by decide +kernel

theorem test_lfecCtrl : Accepts counted fw .LFEC_CTRL 6 ∧ Room counted ∧
    after (.lfecSnap fw 6) counted (fun t => t.flag LFEC_STATUS.SNAP_BUSY 6 && same [(.LFEC_CTRL, 6), (.LFEC_STATUS, 6)] counted t) = true ∧
    after (.lfecClr fw 6) counted (fun t => (t.lfecOf 6).live == {} && logged Evt.LFEC_CLOSE Subj.LINE_LANE 6 (counted.lfecWords 6) counted t) = true ∧
    after (.lfecAuditClr fw 7) (counted.setFld LFEC_STATUS.AUDIT_FAIL 6 1) (fun t => !t.flag LFEC_STATUS.AUDIT_FAIL 6 && (t.lfecOf 6).live == {}) = true := by
  decide +kernel

theorem test_conservationAudit : (counted.lfecOf 6).live.conserved = true ∧
    after .conservationAudit (counted.modLfec 6 fun x => { x with live := { x.live with inRx := 4 } })
      (fun t => t.flag LFEC_STATUS.AUDIT_FAIL 6 && !t.flag LFEC_STATUS.AUDIT_FAIL 5) = true := by decide +kernel

/-- Lane 4 in NZ mode, LOCKED, the multiframe phase known. -/
def heard : State := st [(LRX_STATUS.STATE, 4, Lrx.LOCKED), (LFEC_STATUS.MF_KNOWN, 4, 1), (HRN_GROUP_STATE.SVC, 2, Svc.ETHERNET), (HRN_GROUP_STATE.STATE, 2, 1)]

theorem test_codewords : let s := (heard.assignDecoders 2).modLfec 4 fun x => { x with rxQ := [⟨some 1, true, [], 0⟩], rxWords := [(3, [])] }
    (s.lfecOf 4).rxQ = ⟨some 1, true, [], 0⟩ :: [] ∧ (s.lfecOf 4).rxWords = (3, []) :: [] ∧ 3 ≤ s.decoders 2 0 ∧ s.locked 4 = true ∧ s.ieee 4 = false ∧
    s.lfecHold 2 = false ∧ s.flag LFEC_STATUS.MF_KNOWN 4 = true ∧ s.fld LFEC_STATUS.RS_MODE 4 ≠ 2 := by decide +kernel

theorem test_sdSfWindowEnd : let s := heard.modLfec 4 fun x => { x with boundaries := 257, winAt := 1, winWhole := true, winSym := 5000, sdSet := 5000, sdClr := 2500, winUncorr := 0, sfSet := 64, sfClr := 0 }
    (s.lfecOf 4).boundaries % 256 = 1 ∧ (s.lfecOf 4).winAt ≠ (s.lfecOf 4).boundaries ∧ (s.setFld CIN_LANE_CTRL.SHED_ON_SF 4 0).flag CIN_LANE_CTRL.SHED_ON_SF 4 = false ∧
    after (.sdSfWindowEnd 4) (s.setFld CIN_LANE_CTRL.SHED_ON_SF 4 0) (fun t => t.flag LFEC_STATUS.SD 4 && !t.flag LFEC_STATUS.SF 4 && (t.lfecOf 4).winSym == 0) = true := by
  decide +kernel

theorem test_laneStatusReceived : after (.laneStatusReceived 4 (BitVec.ofNat 44 (77 * 2 ^ 28 + 1 * 256))) heard (fun t => t.fld LFEC_FAR_STATUS.AGE 4 == 0 &&
    !t.flag LFEC_STATUS.CFG_MISMATCH 4 && (t.tlaneOf 4).farNode == some 77) = true := by decide +kernel

theorem test_oamWordDiscarded : oamCrcOk 0x61 = false ∧ oamCrcOk (oamWord 6 0) = true ∧ 5 < oamType (oamWord 6 0) ∧ oamType 0x60 = Oam.IDLE ∧
    after (.oamWordDiscarded 4 0x61) heard (fun t => t.fld LFEC_OAM_CRC.COUNT 4 == 1) = true ∧
    after (.oamWordDiscarded 4 (oamWord 6 0)) heard (fun t => t.fld LFEC_OAM_RSVD.COUNT 4 == 1) = true ∧
    after (.oamWordDiscarded 4 0x60) heard (fun t => same [(.LFEC_OAM_RX, 4)] heard t) = true := by decide +kernel

theorem test_spareDecoderInService : let s := ((State.reset.assignDecoders 0).setDec 0 1 Decoder.FENCED)
    s.shortLane 0 = some 0 ∧ s.spareDecoder 0 = some 6 ∧ (s.grpOf 0).decLane.length = 7 ∧
    after (.spareDecoderInService 0) s (fun t => t.decState 0 6 == Decoder.IN_SERVICE && (t.grpOf 0).decLane[6]? == some 0 &&
      same [(.BST_DEC_STATE, 0)] s t) = true := by decide +kernel

/-! ### Line transmit -/

/-- Group 3 configured, its clocks locked; lane 6 disabled, lane 7 ACTIVE; GPIO 2 disables lane 7, GPIO 3 has no role. -/
def sends : State := { st [(CLK_STATUS.REF_PRESENT, 0, 1), (CLK_STATUS.CORE_LOCK, 0, 1), (CLK_STATUS.LINE_LOCK, 0, 8), (LTX_STATUS.STATE, 7, Ltx.ACTIVE),
  (LTX_CTRL.ENABLE, 7, 1), (LTX_CHK.PAT, 7, 4), (LTX_CHK.SYNC, 7, 1), (LTX_CHK_BIT.COUNT, 7, 5), (LTX_PAT.USER_LEN, 7, 4)] with
  cfg := [((Sect.MODES, 3), [0]), ((Sect.GPIO, 0), [0, 0, 0, 0, 0, 0, 0, 0, 1, 0, 128, 0])] }

theorem test_transmitterCommands : Accepts sends fw .LTX_CTRL 6 ∧ sends.ltxState 6 = Ltx.DISABLED ∧ sends.configured 3 = true ∧ sends.lineClocks 6 = true ∧
    after (.ltxEnable fw 6) sends (fun t => t.ltxState 6 == Ltx.STARTING && same [(.LTX_CTRL, 6), (.LTX_STATUS, 6)] sends t) = true ∧
    after (.ltxEnable fw 6) (sends.setFld CLK_STATUS.LINE_LOCK 0 0) (fun t => t.ltxState 6 == Ltx.PENDING) = true ∧
    (sends.grpOf 3).drv.hw = [] ∧ after (.ltxDisable fw 7) sends (fun t => t.ltxState 7 == Ltx.DISABLED && !t.flag LTX_CTRL.ENABLE 7) = true ∧
    after (.swap fw 7) sends (fun t => t.flag LTX_STATUS.SWAP_BUSY 7) = true ∧
    after (.ltxSquelch fw 7 true) sends (fun t => t.ltxState 7 == Ltx.SQUELCHED && t.sqCause 7 == 1) = true ∧
    after (.ltxSquelch fw 7 false) ((sends.setFld LTX_STATUS.SQ_CAUSE 7 (3 + 2 ^ Squelch.DRIVER)).setFld LTX_CTRL.SQUELCH 7 1) (fun t => t.sqCause 7 == 2) = true := by
  decide +kernel

/-- A driver write of the lane in progress delays its disabling. -/
theorem test_ltxDisable_waits : let s := (sends.setFld LTX_STATUS.STATE 7 Ltx.STARTING).modGrp 3 fun x => { x with drv := { x.drv with hw := [⟨1, DrvSeq.ENABLE, 0, 0, 0, 0⟩] } }
    (s.grpOf 3).drv.swRunning = false ∧ after (.ltxDisable fw 7) s (fun t => t.ltxState 7 == Ltx.STARTING && (t.ltxOf 7).abandon &&
      same [(.LTX_CTRL, 7), (.LTX_STATUS, 7)] s t) = true := by decide +kernel

theorem test_squelch_inputs : after (.cmisTxDisableSet 7) sends (fun t => t.ltxState 7 == Ltx.SQUELCHED && t.sqCause 7 == 4 && t.pins.cmisTx == 128) = true ∧
    after (.cmisTxDisableClear 7) (sends.setFld LTX_STATUS.SQ_CAUSE 7 4) (fun t => t.sqCause 7 == 0) = true ∧
    sends.pinRole 2 = 1 ∧ sends.pinLaneList 2 = [7] ∧ (∀ q : Fin 16, q ≠ 2 → sends.pinRole q = 1 → False) ∧
    after (.txdisableAssert 2) sends (fun t => t.ltxState 7 == Ltx.SQUELCHED && t.sqCause 7 == 2) = true ∧
    after (.txdisableDeassert 2) (sends.setFld LTX_STATUS.SQ_CAUSE 7 2) (fun t => t.sqCause 7 == 0) = true := by decide +kernel

theorem test_ltxTrim : Accepts sends fw .LTX_TRIM 7 ∧ after (.ltxTrimWrite fw 6 60 127 1) sends (fun t => t.fld LTX_TRIM_NOW.SWING 6 == 60 &&
      t.fld LTX_TRIM_NOW.OFFSET 6 == 127) = true ∧
    after (.ltxTrimWrite fw 7 60 127 1) sends (fun t => t.fld LTX_TRIM.SWING 7 == 60 && t.fld LTX_TRIM_NOW.SWING 7 == sends.fld LTX_TRIM_NOW.SWING 7) = true ∧
    after .trimRampStep (sends.setFld LTX_TRIM.OFFSET 7 127) (fun t => t.fld LTX_TRIM_NOW.OFFSET 7 == 127) = true := by decide +kernel

/-- R385: the trims of Table 13-6 ramp; bits 1 and 2 show those of the housekeeping converters. -/
theorem test_hkaTrims : let s := (sends.modHka fun x => { x with refTo := (2, 0) }).modDac 3 fun x => { x with trimTo := -1 }
    s.showHkaTrims.fld CAL_TRIM_BUSY.BUSY 0 = 6 ∧
    after .trimRampStep s (fun t => t.hka.refs == (1, 0) && (t.dacOf 3).trim == -1 && t.fld CAL_TRIM_BUSY.BUSY 0 &&& 6 == 2) = true := by decide +kernel

theorem test_ltxPat : (sends.cinchLane 7 = true → sends.inStripe 7 = false) ∧ sends.ieee 7 = false ∧
    after (.ltxPatWrite fw 7 4 false false 8192) sends (fun t => t.fld LTX_PAT.PAT 7 == 4 && t.fld LTX_PAT.USER_LEN 7 == 8192 &&
      same [(.LTX_PAT, 7), (.LTX_STATUS, 7)] sends t) = true := by decide +kernel

/-- The user pattern of lane 7 is zeros: 64 of them give sync, 64 errors in a row lose it. -/
theorem test_checkers : Accepts sends fw .LTX_CHK 7 ∧ sends.fld LTX_CHK.PAT 7 ≤ 4 ∧ sends.fld LTX_CHK.PAT 7 ≠ 0 ∧ sends.flag LTX_CHK.SYNC 7 = true ∧
    after (.ltxChkClr fw 7) sends (fun t => t.fld LTX_CHK_BIT.COUNT 7 == 0 && t.fld LTX_CHK.PAT 7 == 4) = true ∧
    after (.checkerSyncGain ⟨.line 7, List.replicate 64 0⟩) (sends.setFld LTX_CHK.SYNC 7 0) (fun t => t.flag LTX_CHK.SYNC 7 &&
      t.fld LTX_CHK_SYM.COUNT 7 == 0) = true ∧
    after (.checkerSyncGain ⟨.line 7, List.replicate 63 0⟩) (sends.setFld LTX_CHK.SYNC 7 0) (fun t => !t.flag LTX_CHK.SYNC 7) = true ∧
    after (.checkerSyncLoss (.line 7) (0 :: List.replicate 64 3) 63 0) sends (fun t => t == sends) = true ∧
    after (.checkerSyncLoss (.line 7) (0 :: List.replicate 64 3) 64 128) sends (fun t => !t.flag LTX_CHK.SYNC 7 && t.fld LTX_CHK_SYM.COUNT 7 == 65 &&
      t.fld LTX_CHK_ERR.COUNT 7 == 64 && t.fld LTX_CHK_BIT.COUNT 7 == 133 && t.fld LTX_CHK.SLIPS 7 == 1) = true ∧
    after (.checkerSyncLoss (.line 7) (List.replicate 63 1) 63 63) sends (fun t => t.flag LTX_CHK.SYNC 7 && t.fld LTX_CHK_ERR.COUNT 7 == 63) = true := by
  decide +kernel

theorem test_checker_known : let s := sends.setFld LTX_CHK.PAT 7 3
    s.flag LTX_CHK.SYNC 7 = true ∧ s.fld LTX_CHK.PAT 7 = 3 := by decide +kernel

theorem test_hostRateSlewDone : let s := st [(HSI_CFG.IN_USE, 12, 1), (HSI_CFG.LINE, 12, 0), (HRN_GROUP_STATE.STATE, 3, 1), (HSI_STATUS.RX_STATE, 12, HRx.LOCKED)]
    (s.hostsOf 6).head? = some 12 ∧ s.svc 6 = Svc.TRANSPARENT ∧ s.hrx 12 = HRx.LOCKED ∧
    after (.hostRateSlewDone 6) s (fun t => (t.ltxOf 6).relaying && same [] s t) = true := by decide +kernel

/-- The state with the driver port of group 3 changed. -/
def ported (f : PortX → PortX) : State := sends.modGrp 3 fun x => { x with drv := f x.drv }

theorem test_drvPort : Accepts sends fw .LTX_DRV_CMD 3 ∧ sends.headless = false ∧ sends.flag LTX_DRV_STATUS.BUSY 3 = false ∧ sends.drvOwns 7 0x34 = false ∧
    after (.drvGo fw 3 false 1 0x1234 5) sends (fun t => (t.grpOf 3).drv.sw == some ⟨false, 1, 0x34, 5⟩ && t.flag LTX_DRV_STATUS.BUSY 3) = true ∧
    after (.drvTransactionDone 3 true 0x5A) (ported fun x => { x with sw := some ⟨true, 1, 0x34, 0⟩, swRunning := true })
      (fun t => t.fld LTX_DRV_STATUS.RDATA 3 == 0x5A && (t.grpOf 3).drv.sw == none) = true := by decide +kernel

theorem test_driverSequence : let s := fun a => ported fun x => { x with hw := [⟨1, DrvSeq.ENABLE, 0, 0x10, 0x22, a⟩] }
    after (.driverSequenceWriteDone 3 true 0x22) (s 0) (fun t => !(t.ltxOf 7).enabling && (t.grpOf 3).drv.hw == []) = true ∧
    after (.driverSequenceWriteDone 3 false 0) (s 0) (fun t => ((t.grpOf 3).drv.hw.map fun w => w.attempt) == [1]) = true ∧
    after (.driverSequenceWriteDone 3 false 0) (s 1) (fun t => t.ltxState 7 == Ltx.DISABLED && t.fld LTX_STATUS.RESULT 7 == LtxResult.DRV_FAIL) = true := by
  decide +kernel

/-- Group 3 with a mask of two segments: bins 0 to 99 and 100 up, levels at most 5,000 (signed) and at least 0. -/
def masked : State := (sends.setFld LTX_MASK_CFG.NSEG 3 2).setFld LTX_MASK_SEG.START 97 100

theorem test_mask : Accepts masked fw .LTX_MASK_CFG 3 ∧ masked.fld LTX_MASK_CFG.HYST 3 ≠ 0 ∧ 1 ≤ masked.fld LTX_MASK_CFG.AVG 3 ∧
    masked.fld LTX_MASK_CFG.AVG 3 ≤ 64 ∧ (masked.maskSegs 3 2).map (·.1) = [0, 100] ∧ startsRise [0, 100] = true ∧
    after (.maskEnable fw 3) masked (fun t => t.flag LTX_MASK_CFG.EN 3) = true := by decide +kernel

/-- A sum without power takes the lowest level in every bin. -/
theorem test_maskEstimateDone : let s := (masked.setFld LTX_MASK_CFG.EN 3 1).setFld LTX_MASK_CFG.AVG 3 1
    s.ltxState 6 ≠ Ltx.ACTIVE ∧ (s.grpOf 3).maskLane = 0 ∧
    after (.maskEstimateDone 3 1) s (fun t => t == s) = true ∧ after (.maskEstimateDone 3 0) s (fun t => t.fld LTX_MASK_SKIPS.COUNT 6 == 1 && (t.grpOf 3).maskLane == 1) = true ∧
    after (.maskEstimateDone 3 1) (s.modGrp 3 fun x => { x with maskLane := 1, maskBlocks := 16, maskSum := List.replicate 512 0 })
      (fun t => t.fld LTX_MASK_EST.COUNT 7 == 1 && (t.grpOf 3).maskLane == 0) = true ∧
    after (.maskEstimateDone 3 1) (s.modGrp 3 fun x => { x with maskLane := 1, maskBlocks := 15 })
      (fun t => t.fld LTX_MASK_EST.COUNT 7 == 0 && (t.grpOf 3).maskLane == 1) = true := by decide +kernel

/-! ### Host lanes -/

/-- Host lane 5 in use in Ethernet service, its clocks present, receiver and transmitter in the states given. -/
def hosted (rx tx : Nat) : State := st [(HSI_CFG.IN_USE, 5, 1), (HSI_CFG.SVC, 5, Svc.ETHERNET), (CLK_STATUS.REF_PRESENT, 0, 1), (CLK_STATUS.CORE_LOCK, 0, 1),
  (CLK_STATUS.HOST_LOCK, 0, 15), (HSI_STATUS.RX_STATE, 5, rx), (HSI_STATUS.TX_STATE, 5, tx), (HSI_CTRL.RX_EN, 5, 1), (HSI_CTRL.TX_EN, 5, 1)]

/-- The same in forwarded-clock mode with block lock. -/
def fcmHost (rx : Nat) : State := ((hosted rx 0).setFld HSI_CFG.MODE 5 1).modHsi 5 fun x => { x with blockLock := true, lastFcnt := some 7, badFrames := 3 }

theorem test_hostReceiver : Accepts (hosted 0 0) fw .HSI_CTRL 5 ∧ (hosted 0 0).hInUse 5 = true ∧ (hosted 0 0).hclocks 5 = true ∧
    after (.hsiRxEnable fw 5) (hosted 0 0) (fun t => t.hrx 5 == HRx.DETECT) = true ∧
    after (.hsiRxEnable fw 5) ((hosted 0 0).setFld CLK_STATUS.HOST_LOCK 0 0) (fun t => t.hrx 5 == HRx.PENDING) = true ∧
    after (.hsiRxEnable fw 5) (((hosted 0 0).setFld HSI_CTRL.RX_QUIET 5 1).modHsi 5 fun x => { x with rxQuietDue := true }) (fun t => t.hrx 5 == HRx.QUIET) = true ∧
    after (.hsiRxDisable fw 5) (hosted HRx.LOCKED 0) (fun t => t.hrx 5 == 0 && t.fld HSI_STATUS.LOSS_CAUSE 5 == HLoss.DISABLED && t.fld HSI_LOL.COUNT 5 == 1) = true ∧
    (hosted HRx.LOCKED 0).flag HSI_CTRL.RX_QUIET 5 = false ∧ after (.relock fw 5) (hosted HRx.LOCKED 0) (fun t => t.hrx 5 == HRx.CDR) = true ∧
    after (.rxQuiet fw 5) (hosted HRx.LOCKED 0) (fun t => t.hrx 5 == HRx.QUIET && t.fld HSI_STATUS.LOSS_CAUSE 5 == HLoss.QUIET) = true ∧
    after (.rxQuiet fw 5) (hosted HRx.DETECT 0) (fun t => t.hrx 5 == HRx.QUIET) = true ∧
    after (.rxQuietClear fw 5) (hosted HRx.QUIET 0) (fun t => t.hrx 5 == HRx.CDR && t.fld HSI_WAKE.COUNT 5 == 1) = true := by decide +kernel

theorem test_hostTransmitter : Accepts (hosted 0 0) fw .HSI_TXEQ 5 ∧ after (.hsiTxEnable fw 5) (hosted 0 0) (fun t => t.htx 5 == HTx.ACTIVE) = true ∧
    after (.hsiTxDisable fw 5) (hosted 0 HTx.ACTIVE) (fun t => t.htx 5 == HTx.DISABLED) = true ∧
    after (.txQuiet fw 5) (hosted 0 HTx.ACTIVE) (fun t => t.htx 5 == HTx.QUIET) = true ∧
    after (.txQuietClear fw 5) (hosted 0 HTx.QUIET) (fun t => t.htx 5 == HTx.WAKING) = true ∧
    after (.wakingDone 5) (hosted 0 HTx.WAKING) (fun t => t.htx 5 == HTx.ACTIVE) = true ∧
    after (.wakingDone 5) ((hosted 0 HTx.WAKING).modHsi 5 fun x => { x with quietDue := true }) (fun t => t.htx 5 == HTx.QUIET) = true ∧
    txeqOk 0x3C100800 = true ∧ txeqOk 0x3D000000 = false ∧ after (.hsiTxeqWrite fw 5 0x3C100800) (hosted 0 0) (fun t => (t.hsiOf 5).txeq == some 0x3C100800) = true ∧
    after (.cmisOutputEqWrite 5 2 3 1) (hosted 0 0) (fun t => t.fld HSI_TXEQ.PRE1 5 == 252 && t.fld HSI_TXEQ.POST1 5 == 247) = true ∧
    (hosted 0 0).rebuilding .HSI_TXEQ 5 = false ∧
    after (.cmisOutputEqWrite 5 2 3 1) ((hosted 0 0).setFld GLB_STATE.HEADLESS 0 1) (fun t => (t.hsiOf 5).eqWaits) = true ∧
    after .txeqApply ((hosted 0 0).modHsi 5 fun x => { x with txeq := some 0x3C100800 }) (fun t => (t.hsiOf 5).taps == 0x100800 && (t.hsiOf 5).ampTarget == 60) = true ∧
    after (.hsiPatWrite fw 5 3) (hosted 0 0) (fun t => t.fld HSI_PAT.PAT 5 == 3) = true := by decide +kernel

theorem test_hostAcquisition : let more := fun (f : Field) (t : State) => t.fld f 5 == 1
    after (.activityDetect 5 false) (hosted HRx.DETECT 0) (fun t => t.hrx 5 == HRx.CDR && t.flag HSI_STATUS.ACT 5) = true ∧
    (hosted HRx.QUIET 0).flag HSI_CTRL.WAKE_SEL 5 = false ∧ (hosted HRx.QUIET 0).quietNow 5 = false ∧
    after (.activityDetect 5 false) (hosted HRx.QUIET 0) (fun t => t.hrx 5 == HRx.CDR && more HSI_WAKE.COUNT t) = true ∧
    after (.activityDetect 5 false) ((hosted HRx.QUIET 0).setFld HSI_CTRL.WAKE_SEL 5 1) (fun t => t.hrx 5 == HRx.QUIET && more HSI_ACT_IGN.COUNT t) = true ∧
    after (.wakePatternDetect 5) ((hosted HRx.QUIET 0).setFld HSI_CTRL.WAKE_SEL 5 1) (fun t => t.hrx 5 == HRx.CDR) = true ∧
    after (.signalLoss 5) (hosted HRx.LOCKED 0) (fun t => t.hrx 5 == HRx.DETECT && t.fld HSI_STATUS.LOSS_CAUSE 5 == HLoss.SIGNAL && more HSI_LOL.COUNT t) = true ∧
    after (.hostStageTimeout 5) (hosted HRx.ALIGN 0) (fun t => t.hrx 5 == HRx.DETECT && more HSI_TIMEOUT.COUNT t) = true ∧
    after (.cdrDone 5 0xFFF0 ⟨false, []⟩) (hosted HRx.CDR 0) (fun t => t.hrx 5 == HRx.ADAPT && t.fld HSI_FREQ.FREQ 5 == 0xFFF0) = true ∧
    (∃ e ∈ validSpans (List.replicate 17 true), 16 ≤ e.2) ∧ (∀ e ∈ validSpans (List.replicate 15 true), e.2 < 16) ∧
    sweepDelay (List.replicate 17 true) 0 = some 8 ∧
    after (.cdrDone 5 0xFFF0 ⟨false, (List.replicate 15 true)⟩) (fcmHost HRx.CDR) (fun t => t.hrx 5 == HRx.CDR && same [] (fcmHost HRx.CDR) t) = true ∧
    after (.cdrDone 5 0xFFF0 ⟨true, []⟩) ((fcmHost HRx.CDR).modHsi 5 fun x => { x with warm := true }) (fun t => t.hrx 5 == HRx.ADAPT) = true ∧
    after (.adaptDone 5 14 ⟨[(-3, [1, 0, -1, 1, 1, 1, 1], 3)], 56⟩) (hosted HRx.ADAPT 0) (fun t => t.hrx 5 == HRx.ALIGN && t.fld HSI_EYE.CTLE 5 == 14 &&
      (t.hsiOf 5).ffe == [1, 0, -1, 1, 1, 1, 1] && (t.hsiOf 5).dfe == -1) = true ∧
    after (.adaptDone 5 14 ⟨[], 56⟩) ((hosted HRx.ADAPT 0).setFld HSI_CFG.TP_OPAQUE 5 1) (fun t => t.hrx 5 == HRx.LOCKED && more HSI_LOCK.COUNT t) = true ∧
    after (.alignmentLock 5) (hosted HRx.ALIGN 0) (fun t => t.hrx 5 == HRx.LOCKED) = true ∧
    after (.alignmentLockLoss ⟨5, 4⟩) (hosted HRx.LOCKED 0) (fun t => t.hrx 5 == HRx.ALIGN && t.fld HSI_FRAME_ERR.COUNT 5 == 4 && t.fld HSI_STATUS.LOSS_CAUSE 5 == HLoss.ALIGN) = true ∧
    after (.hostCdrLoss ⟨5, 64⟩) ({ fcmHost HRx.LOCKED with cycle := 782 }) (fun t => t.hrx 5 == HRx.LOCKED && t.fld HSI_FREQ.FCM_DELAY 5 == 1) = true ∧
    after (.hostCdrLoss ⟨5, 0⟩) (hosted HRx.LOCKED 0) (fun t => t.hrx 5 == HRx.CDR && t.fld HSI_STATUS.LOSS_CAUSE 5 == HLoss.CDR) = true := by decide +kernel

/-- A framing block with FCNT 8. -/
def framingBlock : BitVec 64 := let top : BitVec 56 := 0xE3#8 ++ 0#8 ++ 8#8 ++ 0#8 ++ 0x9669A5#24
  top ++ crc8 ((List.range 56).map fun i => top.getLsbD (55 - i))

theorem test_fcm : (fcmHost HRx.ALIGN).fcm 5 = true ∧ framingOk framingBlock = true ∧ framingOk 0 = false ∧ framingBlock.extractLsb' 40 8 = 8 ∧
    blockHunt (64 * 66) 0 ((List.replicate 64 (true :: false :: List.replicate 64 false)).flatten) = true ∧
    after (.blockLock ⟨5, (List.replicate 64 (true :: false :: List.replicate 64 false)).flatten⟩)
      ((fcmHost HRx.ALIGN).modHsi 5 fun x => { x with blockLock := false }) (fun t => (t.hsiOf 5).blockLock) = true ∧
    after (.blockLockLoss ⟨5, [0]⟩) ((fcmHost HRx.LOCKED).modHsi 5 fun x => { x with shSeen := 40, shBad := List.replicate 31 9 })
      (fun t => t.fld HSI_BAD_SH.COUNT 5 == 1 && !(t.hsiOf 5).blockLock && t.hrx 5 == HRx.ALIGN) = true ∧
    after (.blockLockLoss ⟨5, [3]⟩) (fcmHost HRx.LOCKED) (fun t => t.fld HSI_BAD_SH.COUNT 5 == 1 && (t.hsiOf 5).blockLock && t.hrx 5 == HRx.LOCKED) = true ∧
    after (.framingBlockReceived 5 [(2, framingBlock)]) (fcmHost HRx.ALIGN) (fun t => t.hrx 5 == HRx.LOCKED) = true ∧
    after (.framingBlockReceived 5 [(2, 0)]) (fcmHost HRx.LOCKED) (fun t => t.hrx 5 == HRx.ALIGN && t.fld HSI_FRAME_ERR.COUNT 5 == 1) = true ∧
    after (.framingBlockReceived 5 [(2, 0)]) ((fcmHost HRx.LOCKED).modHsi 5 fun x => { x with badFrames := 0 }) (fun t => t.hrx 5 == HRx.LOCKED &&
      (t.hsiOf 5).badFrames == 1) = true := by decide +kernel

theorem test_hcki : let s := (fcmHost HRx.PENDING).modHsi 5 fun x => { x with clockLost := true }
    s.hsynth 5 = true ∧ after (.hckiMissing 0) (fcmHost HRx.LOCKED) (fun t => t.hrx 5 == HRx.PENDING && t.fld HSI_CLK.LOSSES 0 == 1) = true ∧
    after (.hckiPresent 0) ((s.modHsi 5 fun x => { x with rxQuietDue := true }).setFld HSI_CTRL.RX_QUIET 5 1) (fun t => t.hrx 5 == HRx.QUIET) = true ∧
    after (.hckiPresent 0) s (fun t => t.flag HSI_CLK.HCKI_PRESENT 0 && t.hrx 5 == HRx.CDR) = true := by decide +kernel

/-- Host lanes 4 and 5 relay line lane 2, transparent. -/
def relays : State := st [(HSI_CFG.IN_USE, 4, 1), (HSI_CFG.IN_USE, 5, 1), (HSI_STATUS.RX_STATE, 5, HRx.LOCKED), (LRX_STATUS.STATE, 2, Lrx.LOCKED),
  (LFEC_STATUS.MF_KNOWN, 2, 1)]

theorem test_hostRates : relays.hostsOf 2 = [4, 5] ∧ relays.hsvc 4 = Svc.TRANSPARENT ∧ relays.svc 2 = Svc.TRANSPARENT ∧ relays.locked 2 = true ∧
    relays.flag LFEC_STATUS.MF_KNOWN 2 = true ∧
    after (.rateMismatch 2 1001 0 7) relays (fun t => t.flag HSI_STATUS.RATE_MISMATCH 4 && t.fld HSI_TP_DROP.COUNT 5 == 7) = true ∧
    after (.rateRange 5 25001 7) relays (fun t => t.flag HSI_STATUS.RATE_RANGE 5 && t.fld HSI_TP_DROP.COUNT 5 == 7) = true ∧
    after (.recoveredRateSlewDone 2) relays (fun t => (t.hsiOf 4).relaying && (t.hsiOf 5).relaying && same [] relays t) = true := by decide +kernel

/-- Host lane 0 in Cinch service, LOCKED and ACTIVE; channel 3 enabled, its ingress loop with 10 units free. -/
def celled : State := st [(HSI_CFG.SVC, 0, Svc.CINCH), (HSI_STATUS.RX_STATE, 0, HRx.LOCKED), (HSI_STATUS.TX_STATE, 0, HTx.ACTIVE), (CIN_CH_CFG.EN, 3, 1),
  (CIN_CH_ACCT.TOTAL, 48, 10)]

/-- The same in forwarded-clock mode with cell lock, a cell waiting. -/
def fcmCell (tag : BitVec 20) (payload : List Byte) : State := ((celled.setFld HSI_CFG.MODE 0 1).setFld HSI_STATUS.CELL_LOCK 0 1).modHsi 0 fun x =>
  { x with rxBlocks := cellBlocks tag payload }

theorem test_hostCells : let hi : BitVec 12 := 1#2 ++ 3#3 ++ 0#7
    let p : List Byte := 9 :: List.replicate 639 0
    celled.hrx 0 = HRx.LOCKED ∧ celled.fcm 0 = false ∧ celled.chEn 3 = true ∧ celled.frozen 3 = false ∧ celled.acct 3 0 = 10 ∧ celled.acct 3 1 = 0 ∧
    ((fcmCell (hi ++ tagCrc hi) p).hsiOf 0).rxBlocks.length = 81 ∧ blkTag (((fcmCell (hi ++ tagCrc hi) p).hsiOf 0).rxBlocks.headD idleBlk) = hi ++ tagCrc hi ∧
    after (.hostCellReceived 0 0 0 [] []) (fcmCell (hi ++ tagCrc hi) p) (fun t => t.fld CIN_ACCEPT.COUNT 3 == 1 && t.acct 3 1 == 10 && t.acct 3 3 == 10 &&
      ((t.chanOf 3).ing.map fun g => g.payload) == [p]) = true ∧
    cellTagCrcOk 1 = false ∧ after (.hostCellReceived 0 0 0 [] []) (fcmCell 1 p) (fun t => t.fld HPM_CELL_BAD.COUNT 0 == 1) = true ∧
    after (.hostCreditRecord 0 3 1 1 10) celled (fun t => t.acct 3 2 == 10) = true ∧
    after (.hostCreditRecord 0 3 2 1 10) celled (fun t => t.fld HPM_CTL_RSVD.COUNT 0 == 1) = true := by decide +kernel

theorem test_hostCellSlot : celled.hsvc 0 = Svc.CINCH ∧ celled.fld HSI_PAT.PAT 0 = 0 ∧
    after (.hostCellSlot 0) (celled.setFld CIN_CH_CFG.EN 3 0) (fun t => (t.hsiOf 0).sent.kind == 0) = true ∧
    after (.hostCellSlot 0) ((celled.setFld CIN_CH_CFG.EN 3 0).modHsi 0 fun x => { x with outQ := [(3, [8])] }) (fun t => (t.hsiOf 0).sent == ⟨1, 3, [8]⟩) = true ∧
    after (.hostCellSlot 0) (celled.modHsi 0 fun x => { x with cellsTx := 63 }) (fun t => (t.hsiOf 0).sent.kind == 2 && (t.hsiOf 0).cellsTx == 0) = true := by
  decide +kernel

theorem test_hostCodewordDecoded : let s := st [(HSI_CFG.SVC, 5, Svc.ETHERNET), (HPM_PORT_CFG.VALID, 5, 1), (HPM_PORT_STATUS.UP, 5, 1), (HPM_PORT_CFG.RATE, 5, 1),
      (HSI_STATUS.RX_STATE, 5, HRx.LOCKED)]
    s.hsvc 5 = Svc.ETHERNET ∧ s.portHears 5 = true ∧ s.flag HPM_PORT_STATUS.UP 5 = true ∧
    relays.hsvc 5 = Svc.TRANSPARENT ∧ relays.hrx 5 = HRx.LOCKED ∧ (relays.hsiOf 5).half = none ∧
    after (.hostCodewordDecoded 5 [7]) relays (fun t => (t.hsiOf 5).half == some [7] && same [] relays t) = true := by decide +kernel

/-! ### Line receive -/

/-- Group 1 configured with its clocks, lane 2 in the state given. -/
def rxIn (state : Nat) : State := { st [(CLK_STATUS.REF_PRESENT, 0, 1), (CLK_STATUS.CORE_LOCK, 0, 1), (CLK_STATUS.LINE_LOCK, 0, 2), (LRX_STATUS.STATE, 2, state),
  (LRX_CTRL.ENABLE, 2, if state = 0 then 0 else 1), (LRX_AGC.VGA, 2, 40)] with cfg := [((Sect.MODES, 1), [0])] }

theorem test_receiverControl : Accepts (rxIn 0) fw .LRX_CTRL 2 ∧ (rxIn 0).fld LRX_CTRL.LOS_SRC 2 ≠ 3 ∧ (rxIn 0).configured 1 = true ∧ (rxIn 0).lrxClocks 2 = true ∧
    (rxIn 0).losNow 2 = false ∧ after (.lrxEnable fw 2) (rxIn 0) (fun t => t.lrxState 2 == Lrx.ADC_CAL && t.flag LRX_CTRL.ENABLE 2) = true ∧
    after (.lrxEnable fw 2) ((rxIn 0).setFld CLK_STATUS.LINE_LOCK 0 0) (fun t => t.lrxState 2 == 0 && t.flag LRX_STATUS.PENDING 2) = true ∧
    after (.lrxDisable fw 2) (rxIn Lrx.LOCKED) (fun t => t.lrxState 2 == 0 && t.fld LRX_STATUS.LOSS_CAUSE 2 == Loss.DISABLED && t.fld LRX_LOL.COUNT 2 == 1) = true ∧
    after (.lrxFcal fw 2) (rxIn Lrx.TIMING) (fun t => t.lrxState 2 == Lrx.ADC_CAL) = true ∧
    after (.lrxCold fw 2) (rxIn Lrx.FAILED) (fun t => t.lrxState 2 == Lrx.AGC && t.fld LRX_ACQ_COLD.COUNT 2 == 1) = true := by decide +kernel

theorem test_calibration : after (.foregroundCalibrationDone 2 ⟨77, [(3, -4, 5)]⟩) (rxIn Lrx.ADC_CAL) (fun t => t.lrxState 2 == Lrx.AGC &&
      Tab.get (fun _ => ({} : SubTrim)) (t.lrxOf 2).trims 0 == ⟨3, -4, 5, none⟩ && t.fld CAL_VALUE.VALUE 2 == 77 &&
      t.fld CAL_COUNT.COUNT 2 == 1) = true ∧
    (rxIn Lrx.AGC).flag LRX_CTRL.CAL_BG_EN 2 = true ∧ ((rxIn Lrx.AGC).eqpOf 2).clipped = false ∧ after (.backgroundCalibrationUpdate 2 63 65 (-101) 7) (rxIn Lrx.AGC) (fun t =>
      Tab.get (fun _ => ({} : SubTrim)) (t.lrxOf 2).trims 63 == ⟨64, -100, 7, some 0⟩ && same [] (rxIn Lrx.AGC) t) = true := by decide +kernel

theorem test_gain : let s := rxIn Lrx.AGC
    s.flag LRX_STATUS.AGC_FROZEN 2 = false ∧ s.superseded 2 true = false ∧ ((rxIn Lrx.LOCKED).lrxOf 2).slowHold = false ∧
    after (.slowAgcStep 2 1) ((rxIn Lrx.LOCKED).modLrx 2 fun x => { x with slowHold := true }) (fun t => !(t.lrxOf 2).slowHold && t.fld LRX_AGC.VGA 2 == 40) = true ∧
    s.fld LRX_AGC.VGA 2 = 40 ∧ (rxIn Lrx.LOCKED).opActs 2 = false ∧ (rxIn Lrx.LOCKED).flag LRX_CTRL.AGC_HOLD 2 = false ∧
    after (.fastAgcUpdate 2 1) s (fun t => t.fld LRX_AGC.RMS 2 == 1 && decide (40 < t.fld LRX_AGC.VGA 2)) = true ∧
    after (.fastAgcUpdate 2 200) s (fun t => decide (t.fld LRX_AGC.VGA 2 < 40)) = true ∧
    after (.agcSettled 2) s (fun t => t.lrxState 2 == Lrx.TIMING) = true ∧
    after (.slowAgcStep 2 1) (rxIn Lrx.LOCKED) (fun t => t.fld LRX_AGC.VGA 2 == 41) = true ∧
    after (.slowAgcStep 2 255) (rxIn Lrx.LOCKED) (fun t => t.fld LRX_AGC.VGA 2 == 39) = true := by decide +kernel

theorem test_timing : after (.timingSettled 2 0xFFFF) (rxIn Lrx.TIMING) (fun t => t.lrxState 2 == Lrx.PILOT_SEARCH && t.fld LRX_TR.FREQ 2 == 0xFFFF) = true ∧
    after (.timingSettled 2 3) ((rxIn Lrx.TIMING).setFld HRN_GROUP_STATE.LINE_MODE 1 1) (fun t => t.lrxState 2 == Lrx.EQ_TRAIN) = true ∧
    30000 < (30001 : BitVec 16).toInt.natAbs ∧ after (.frequencyOutOfRange 2 30001) (rxIn Lrx.TIMING) (fun t => t.lrxState 2 == Lrx.AGC &&
      t.fld LRX_STATUS.LOSS_CAUSE 2 == Loss.TIMING) = true ∧
    after (.frequencyOutOfRange 2 30001) (rxIn Lrx.LOCKED) (fun t => t.fld LRX_LOL.COUNT 2 == 1) = true := by decide +kernel

/-- A frame of lane 2 with the samples given, its peak drifted. -/
def frame (xs : List Int) (pos : Int) : RxObs :=
  { samples := xs, posDelta := pos, gap := 1, clipCycles := 0, clipSamples := 0, blindErr := 0, pilotErr := 0, decisionErr := 0, off := 0 }

/-- The pilot and a whitened IDLE word, as the fibre has them. -/
def pilotFrame : List Int :=
  let bits := (List.range 56).map fun i => (oamWhiten 0x60).getLsbD (55 - i)
  List.replicate 192 0 ++ (pilotSymbols false ++ levelsOf bits).map (· * 512) ++ List.replicate 240 0

/-- Lane 2 with equalisers that pass the samples: the acquisition set of its image, and its own of one slice, detector DFE1. -/
def tuned (state : Nat) : State :=
  let acq := List.replicate 16 0 ++ List.replicate 16 0 ++ [0, 2] ++ List.replicate 46 0
  let s : State := { rxIn state with cfg := [((Sect.MODES, 1), [0]), ((Sect.POOL, 1), acq)] }
  (((s.setFld EQP_ALLOC.SLICES 2 1).setFld EQP_ALLOC.DET 2 Det.DFE1).modCoefs 2 fun c => c.setTap 0 (accOf 512)).modLrx 2 fun x =>
    { x with candRun := 7, oamRun := 3, corrMiss := 3 }

/-- A frame's timing is opaque to the kernel: what the statement asks of a state and a frame, state by state. -/
theorem test_receivedFrames : let s := tuned Lrx.PILOT_SEARCH
    (s.lrxOf 2).corrLock = 0x66 ∧ (s.lrxOf 2).corrLoss = 0x40 ∧ s.ieee 2 = false ∧ s.recovering 2 = false ∧ s.superseded 2 true = false ∧
    (s.lrxOf 2).corrLock * 256 ≤ (s.measure 2 (frame pilotFrame 0)).1.corr ∧ (s.measure 2 (frame pilotFrame 0)).1.neg = false ∧
    ((tuned Lrx.FRAME_CANDIDATE).measure 2 (frame [] 0)).1.corr = 0 ∧
    after (.rxFrameBoundary 2 (frame [] 0)) (rxIn Lrx.FAILED) (fun t => t == rxIn Lrx.FAILED) = true := by decide +kernel

theorem test_receivedFrames_verify : let m := ((tuned Lrx.OAM_VERIFY).measure 2 (frame pilotFrame 0)).1
    0x4000 ≤ m.corr ∧ oamWhiten m.oam = 0x60 ∧ oamValid (oamWhiten m.oam) = true ∧ (tuned Lrx.OAM_VERIFY).decoders 1 0 = 3 ∧
    ((tuned Lrx.LOCKED).measure 2 (frame [] 0)).1.corr = 0 := by decide +kernel

theorem test_receivedFrames_ieee : let s := fun state => (rxIn state).setFld HRN_GROUP_STATE.LINE_MODE 1 1
    (s Lrx.ALIGN).decoders 1 0 = 3 ∧ after (.lineAlignmentMarkerLockLoss 2) (s Lrx.LOCKED) (fun t => t.lrxState 2 == Lrx.AGC && t.recovering 2) = true := by decide +kernel

/-- Mean squares of two windows, four times as high in the newest. -/
def stepUp : List Nat := [4000, 1000]

theorem test_powerTrip : (rxIn Lrx.LOCKED).powerTrip 2 stepUp = some 24 ∧ (rxIn Lrx.OAM_VERIFY).powerTrip 2 stepUp = some 24 ∧
    (rxIn Lrx.LOCKED).powerTrip 2 [1900, 1000] = none ∧ ((rxIn Lrx.LOCKED).lrxOf 2).blankUntil = 0 := by decide +kernel

theorem test_receiverEvents : let c := fun (t : State) => t.lrxState 2 == Lrx.AGC && t.fld LRX_ACQ_COLD.COUNT 2 == 1
    (rxIn Lrx.ADC_CAL).lrxState 2 = Lrx.ADC_CAL ∧ (rxIn Lrx.EQ_TRAIN).superseded 2 true = false ∧ (rxIn Lrx.EQ_TRAIN).conditionWaits 2 = false ∧
    (rxIn Lrx.EQ_TRAIN).cycle = 0 ∧
    after (.acqStageTimeout 2) (rxIn Lrx.EQ_TRAIN) (fun t => c t && t.fld LRX_TIMEOUT.COUNT 2 == 1) = true ∧
    after (.acqStageTimeout 2) ({ rxIn Lrx.AGC with pending := [.agcSettled 2] }) (fun t => t.fld LRX_TIMEOUT.COUNT 2 == 0) = true ∧
    after (.powerStep 2 stepUp) (rxIn Lrx.LOCKED) (fun t => t.lrxState 2 == Lrx.AGC && t.recovering 2 && t.fld LRX_PSTEP_LOCK.COUNT 2 == 1) = true ∧
    after (.powerStep 2 stepUp) (rxIn Lrx.OAM_VERIFY) (fun t => c t && t.fld LRX_PSTEP_PRE.COUNT 2 == 1) = true ∧
    after (.autoRetry 2) ((rxIn Lrx.FAILED).setFld LRX_CTRL.AUTO_RETRY 2 1) c = true := by decide +kernel

theorem test_los : let dark := fun st => (rxIn st).setFld LRX_AGC.VGA 2 96
    let target := (rxIn 0).fld LRX_AGC_CFG.TARGET_RMS 2
    (rxIn 0).pdInput 2 = none ∧ 16 * 1 < target ^ 2 ∧ target ^ 2 < 4 * target ^ 2 ∧
    after (.losAssert 2 (.envelope 1)) (dark Lrx.LOCKED) (fun t => t.flag LRX_STATUS.LOS 2 && t.lrxState 2 == Lrx.SQUELCHED &&
      t.fld LRX_STATUS.LOSS_CAUSE 2 == Loss.LOS) = true ∧
    after (.losAssert 2 (.envelope 1)) (rxIn Lrx.LOCKED) (fun t => t.lrxState 2 == Lrx.LOCKED) = true ∧
    after (.losClear 2 (.envelope (target ^ 2))) ((rxIn Lrx.SQUELCHED).setFld LRX_STATUS.LOS 2 1) (fun t => t.lrxState 2 == Lrx.AGC &&
      !t.flag LRX_STATUS.LOS 2) = true := by decide +kernel

theorem test_los_by_tussock : let s := { (rxIn Lrx.LOCKED).setFld LRX_CTRL.LOS_SRC 2 2 with cfg := [((Sect.LINE_RX, 1), List.replicate 64 0)] }
    s.pdInput 2 = some 0 ∧ after (.losAssert 2 .tussock) s (fun t => t.flag LRX_STATUS.LOS 2 && t.lrxState 2 == Lrx.SQUELCHED) = true := by decide +kernel

/-- The state with both ports of group 1 changed. -/
def tiad (f : PortX → PortX) : State := (rxIn Lrx.AGC).modGrp 1 fun x => { x with tia := f x.tia, drv := f x.drv }

theorem test_tiaPort : let s := tiad fun x => { x with sw := some ⟨true, 0, 7, 0⟩, swRunning := true }
    Accepts (rxIn 0) fw .LRX_TIA_CMD 1 ∧ (rxIn 0).flag LRX_TIA_STATUS.BUSY 1 = false ∧ (rxIn 0).tiaOwns 2 7 = false ∧
    after (.tiaGo fw 1 true 0 7 0) (rxIn 0) (fun t => (t.grpOf 1).tia.sw == some ⟨true, 0, 7, 0⟩ && t.flag LRX_TIA_STATUS.BUSY 1) = true ∧
    after (.tiaTransactionDone 1 true 0x5A) s (fun t => t.fld LRX_TIA_STATUS.RDATA 1 == 0x5A && (t.grpOf 1).tia.sw == none) = true ∧
    after (.clockStretchTimeout 1 .tia) s (fun t => t.fld LRX_TIA_STATUS.RESULT 1 == PortResult.TIMEOUT && (t.grpOf 1).tia.sw == none) = true ∧
    after (.clockStretchTimeout 1 .driver) s (fun t => t.fld LTX_DRV_STATUS.RESULT 1 == PortResult.TIMEOUT) = true := by decide +kernel

theorem test_tiaGain : let s := tiad fun x => { x with hw := [⟨0, 0, 5, 0x10, 0x22, 0⟩] }
    (s.grpOf 1).tiaIdx.length = 2 ∧ after (.tiaTransactionDone 1 true 0x22) s (fun t => t.fld LRX_AGC.TIA_IDX 2 == 5 && (t.grpOf 1).tiaIdx == [5, 0] &&
      (t.lrxOf 2).blankUntil == 782) = true ∧
    after (.tiaTransactionDone 1 false 0) s (fun t => ((t.grpOf 1).tia.hw.map fun w => w.attempt) == [1]) = true := by decide +kernel

/-! ### Temperature and tests of the device on itself -/

/-- Every sensor not excluded has no reading but sensor 3, which shows `temp`; five steps of relief; ACTIVE, boot over. -/
def hot (temp relief : Nat) : State := { st [(THM_SENSOR.TEMP, 3, temp), (THM_SENSOR.VALID, 3, 1), (THM_STATUS.RELIEF, 0, relief), (GLB_STATE.BOOT, 0, 5),
  (THM_STATUS.T_PRED, 0, 0xFFFF), (PWR_STATE.STATE, 0, 0)] with cfg := [((Sect.RELIEF, 0), List.replicate 20 0)] }

theorem test_sensorSample : State.reset.sensorsRun = true ∧ after (.sensorSample [401, 0xE70, 1200]) State.reset (fun t => t.fld THM_SENSOR.TEMP 0 == 401 &&
      t.flag THM_SENSOR.VALID 0 && t.flag THM_SENSOR.VALID 1 && t.flag THM_SENSOR.VALID 2) = true ∧
    after (.sensorSample [1201]) State.reset (fun t => !t.flag THM_SENSOR.VALID 0) = true ∧
    after (.sensorSample [0, 101]) (State.reset.modSens 1 fun x => { x with samples := [100] }) (fun t => t.fld THM_SENSOR.TEMP 1 == 100) = true := by decide +kernel

theorem test_relief : (hot 4000 2).thmIs (fun t => decide ((hot 4000 2).thmLimit THM_LIMIT_B.RELIEF_ON ≤ t)) = false ∧
    (hot 0x4B0 2).thmIs (fun t => decide ((hot 0x4B0 2).thmLimit THM_LIMIT_B.RELIEF_ON ≤ t)) = true ∧ (hot 0x4B0 2).reliefSteps = 5 ∧
    after .reliefRaise (hot 0x4B0 2) (fun t => t.fld THM_STATUS.RELIEF 0 == 3) = true ∧
    after .reliefRaise (hot 0x4B0 5) (fun t => t.fld THM_STATUS.RELIEF 0 == 5) = true ∧
    (hot 0 2).thmIs (fun t => decide (t ≤ (hot 0 2).thmLimit THM_LIMIT_B.RELIEF_OFF)) = true ∧
    after .reliefLower (hot 0 2) (fun t => t.fld THM_STATUS.RELIEF 0 == 2) = true ∧
    (hot 0x4B0 2).reliefDue = true ∧ (let s := { hot 0 2 with thm := { coolAt := some 0 }, cycle := 781250000 }
      s.reliefCool = true ∧ { s with cycle := 781249999 }.reliefCool = false ∧
        after .reliefLower s (fun t => t.fld THM_STATUS.RELIEF 0 == 1) = true) ∧
    (let s := { hot 0x4B0 2 with thm := { reliefAt := some 0 }, cycle := 78125000 }
     s.reliefDue = true ∧ { s with cycle := 78124999 }.reliefDue = false) := by decide +kernel

theorem test_rateWindow : let s := (hot 400 0).modSens 3 fun x => { x with winStart := some 383, rises := 2 }
    s.sensorsRun = true ∧ s.atMultiple 10000000 = true ∧ s.thmValue 3 = some 400 ∧ after .rateWindow s (fun t => (t.sensOf 3).winStart == some 400 && (t.sensOf 3).alarm && t.flag THM_STATUS.RATE_ALARM 0) = true := by
  decide +kernel

theorem test_stops : let s := hot 0x4B0 0
    s.stopMayBegin = true ∧ s.stopDemanded = true ∧ s.stopHasTime = true ∧ (s.setFld THM_STATUS.T_PRED 0 19).stopHasTime = false ∧ s.pwr.bist = none ∧
    5 ≤ s.fld GLB_STATE.BOOT 0 ∧ s.fld PWR_STATE.STATE 0 = 0 ∧ s.pwr.deferred = none ∧
    after .stopOrderly s (fun t => t.thm.draining && t.fld THM_STOPS.COUNT 0 == 1 && t.fld THM_STATUS.STATE 0 == ThmState.STOPPING) = true := by decide +kernel

theorem test_stopDrainEnd : let s := { hot 0x4B0 0 with thm := { draining := true } }
    s.stopDrained = true ∧ s.pwr.deferred = none ∧ after .stopDrainEnd s (fun t => t.fld THM_STATUS.STATE 0 == ThmState.STOPPED && !t.thm.draining && t.fld PWR_STATE.STATE 0 == 1) = true := by decide +kernel

theorem test_stopImmediate : after .stopImmediate ((hot 0x4B0 0).setFld THM_STATUS.T_PRED 0 19) (fun t => t.fld THM_STATUS.STATE 0 == ThmState.STOPPED &&
    t.fld PWR_STATE.STATE 0 == 1) = true := by decide +kernel

theorem test_trip : let s := { (hot 0x7FF 0).modSens 3 (fun x => { x with hotAt := some 0 }) with cycle := 781250 }
    s.offline = false ∧ s.pwr.bist = none ∧ s.tripped = true ∧ { s with cycle := 781249 }.tripped = false ∧
    after .trip s (fun t => t.pwr.tripped && t.offline && t.quality == Quality.LOST && t.fld THM_STATUS.STATE 0 == ThmState.TRIPPED) = true := by decide +kernel

theorem test_thermalRestart : let s := { ((hot 0 0).setFld THM_STATUS.STATE 0 ThmState.STOPPED).setFld PWR_STATE.STATE 0 1 with
      thm := { orderly := true, belowAt := some 0 }, cycle := 781250000 }
    s.fld THM_STATUS.STATE 0 = ThmState.STOPPED ∧ s.heldFor s.thm.belowAt 781250000 = true ∧ s.fld PWR_STATE.STATE 0 = 1 ∧ 5 ≤ s.fld GLB_STATE.BOOT 0 ∧ s.flag THM_CFG.AUTO_RESTART 0 = true ∧ s.belowRestart = true ∧ s.activeRefused = false ∧ s.offline = false := by decide +kernel

/-- Group 2 open with in-service tests on. -/
def tested : State := st [(BST_CTRL.IS_EN, 0, 1), (HRN_GROUP_STATE.STATE, 2, Group.OPEN), (GLB_STATE.BOOT, 0, 5)]

theorem test_sweepStart : let s := tested.modGrp 2 fun x => { x with sweep := [(0, 12)] }
    s.noTests 2 = false ∧ s.sliceState 2 12 = Slice.FREE ∧ after (.sweepStart 2) s (fun t => t.sliceState 2 12 == Slice.UNDER_TEST &&
      ((t.grpOf 2).tests.map fun e => e.index) == [12] && same [(.EQP_SLICE_STATE, 2), (.EQP_POOL, 2)] s t) = true := by decide +kernel

theorem test_inServiceTestDone : let e : TestX := { kind := 0, index := 12 }
    let s := { (tested.setSlice 2 12 Slice.UNDER_TEST).modGrp 2 (fun x => { x with tests := [e] }) with cycle := 31250 }
    s.testOver e true = true ∧ s.testOver e false = false ∧ { s with cycle := 62500 }.testOver e false = true ∧ (e.waits && s.headless) = false ∧
    after (.inServiceTestDone 2 true 30720 true) s (fun t => t.fld BST_IS_RUN.COUNT 2 == 1 && t.sliceState 2 12 == Slice.FREE && t.fld BST_IS_STATUS.INDEX 2 == 12) = true ∧
    after (.inServiceTestDone 2 true 30719 true) s (fun t => t.fld BST_IS_FAIL.COUNT 2 == 1 && t.sliceState 2 12 == Slice.FENCED && t.flag GLB_STATE.ALERT 0) = true := by
  decide +kernel

theorem test_testRetry : let s := fun n => { tested.modGrp 2 (fun x => { x with retries := [{ kind := 0, index := 12, aborts := n }] }) with cycle := 781250 }
    (s 0).noTests 2 = false ∧ (s 0).retryReady 2 { kind := 0, index := 12 } = true ∧ 0 < (s 0).fld BST_CTRL.ABORT_MAX 0 ∧
    (s 99).retryDue { kind := 0, index := 12, aborts := 99 } = true ∧ { s 99 with cycle := 781249 }.retryDue { kind := 0, index := 12, aborts := 99 } = false ∧
    after (.testRetry 2) (s 0) (fun t => t.sliceState 2 12 == Slice.UNDER_TEST && (t.grpOf 2).tests.length == 1) = true ∧
    after (.testRetry 2) (s 99) (fun t => t.fld BST_IS_SKIP.COUNT 2 == 1 && (t.grpOf 2).retries == []) = true := by decide +kernel

theorem test_bstUnfence : let s := tested.setSlice 2 12 Slice.FENCED
    Accepts s fw .BST_UNFENCE 0 ∧ s.groupClosing 2 = false ∧ after (.bstUnfence fw 2 0 12) s (fun t => t.sliceState 2 12 == Slice.UNDER_TEST &&
      ((t.grpOf 2).tests.map fun e => e.retest) == [true]) = true ∧ s.testsRefused 2 = false ∧ s.hotForTests = false ∧
    (let h := s.setFld THM_STATUS.RELIEF 0 1
     h.hotForTests = true ∧ after (.bstUnfence fw 2 0 12) h (fun t => t.sliceState 2 12 == Slice.FENCED && (t.grpOf 2).tests == [] &&
        ((t.grpOf 2).retries.map fun e => e.retest) == [true]) = true) := by decide +kernel

theorem test_bistPartitionDone : let b : BistX := { boot := true }
    let s := { tested with pwr := { bist := some b }, cycle := 234375000 }
    s.partBegun b 15 = true ∧ { s with cycle := 234374999 }.partBegun b 15 = false ∧ s.fld THM_STATUS.STATE 0 ≠ ThmState.STOPPED ∧
    after (.bistPartitionDone 15 true 40 true 9 true 0 0 0 false) s (fun t => t.fld BST_PART.PATTERNS 15 == 40 && t.fld BST_RESULT.FAIL_MASK 0 == 0 &&
      (t.pwr.bist.map fun b => b.done) == some 0x8000) = true ∧
    after (.bistPartitionDone 15 true 40 true 9 false 0 0 0 false) s (fun t => t.fld BST_RESULT.FAIL_MASK 0 == 0x8000) = true := by decide +kernel

theorem test_bootBistDone : let s := { tested.setFld GLB_STATE.BOOT 0 3 with pwr := { bist := some { boot := true, done := 0xFFFF } } }
    s.fld GLB_STATE.BOOT 0 = 3 ∧ s.pwr.bist = some { boot := true, done := 0xFFFF } := by decide +kernel

/-! ### Power -/

theorem test_powerOn : after (.powerOn 2) State.reset (fun t => t.fld GLB_STATE.BOOT 0 == 0 && t.quality == Quality.LOST &&
    t.fld MGT_BUS_STATUS.STATIC_ADDR 0 == 0x52 && (t.recorder.queue.head?.map fun r => r.type) == some Evt.BOOT) = true := by decide +kernel

theorem test_glbReset : Accepts State.reset fw .GLB_RESET 0 ∧ State.reset.pwr.sleep = 0 ∧
    after (.glbReset fw 0x5EED) State.reset (fun t => t.fld GLB_STATE.BOOT 0 == 0 && t.pending == []) = true ∧
    after (.glbReset fw 0x5EEE) State.reset (fun t => logged Evt.REG_REJECT Subj.REGISTER (regAddr .GLB_RESET 0 0) [State.reset.pathWord fw, 0x5EEE] State.reset t) = true := by
  decide +kernel

theorem test_warmReset : after (.warmReset 1 ⟨5, 0⟩) State.reset (fun t => t.fld GLB_STATE.BOOT 0 == 0 && t.fld MGT_BUS_STATUS.STATIC_ADDR 0 == 0x51) = true := by
  decide +kernel

theorem test_boot : State.reset.offline = false ∧ State.reset.fld GLB_STATE.BOOT 0 = 0 ∧ State.reset.headless = false ∧ State.reset.inRecovery = false ∧
    State.reset.pwr.afterTrip = false := by decide +kernel

/-- ACTIVE with the boot over and REFCLK present; GPIO 1 requests low power. -/
def up (fs : List (Field × Nat × Nat)) : State := { st ([(GLB_STATE.BOOT, 0, 5), (PWR_STATE.STATE, 0, 0), (CLK_STATUS.REF_PRESENT, 0, 1)] ++ fs) with
  cfg := [((Sect.GPIO, 0), [0, 0, 0, 0, 2, 0, 0, 0])] }

theorem test_powerCommands : Accepts (up []) fw .PWR_CTRL 0 ∧ (up []).pwrBusy = false ∧ (up []).opInProgress = false ∧ (up []).headless = false ∧
    (up [(PWR_STATE.STATE, 0, 2)]).pwrBusy = true ∧ (up []).activeRefused = false ∧ (up [(PWR_SUPPLY.NOW, 0, 2)]).activeRefused = true ∧
    after (.pwrStandby fw) (up []) (fun t => t.fld PWR_STATE.STATE 0 == 1 && t.fld PWR_STATE.RESULT 0 == 0) = true ∧
    after (.pwrActive fw) (up [(PWR_STATE.STATE, 0, 2)]) (fun t => t.fld PWR_STATE.RESULT 0 == 2) = true ∧
    after (.pwrActive fw) (up []) (fun t => t.fld PWR_STATE.RESULT 0 == 0) = true ∧
    after (.pwrActive fw) (up [(PWR_STATE.STATE, 0, 1), (PWR_SUPPLY.NOW, 0, 2)]) (fun t => t.fld PWR_STATE.RESULT 0 == 1) = true ∧
    after (.pwrDoze fw) (up [(CLK_STATUS.REF_PRESENT, 0, 0)]) (fun t => t.fld PWR_STATE.RESULT 0 == 1) = true := by decide +kernel

theorem test_sleepEntry : (up []).flag PWR_CTRL.SLEEP_BIST 0 = false ∧ (up []).flag CLK_STATUS.REF_PRESENT 0 = true ∧
    after (.pwrDeep fw) (up []) (fun t => t.pwr.sleep == 2) = true ∧
    after (.pwrDeep fw) (up [(PWR_CTRL.SLEEP_BIST, 0, 1)]) (fun t => t.pwr.bist == some { boot := false } && t.fld PWR_STATE.STATE 0 == 4) = true ∧
    after (.pwrDeep fw) { up [(PWR_CTRL.SLEEP_BIST, 0, 1)] with thm := { warn := true }, cycle := 7 } (fun t =>
      t.pwr.bist == some { boot := false, at_ := 7, heldAt := some 7 }) = true := by decide +kernel

theorem test_lowPower : (up []).pinRole 1 = 2 ∧ after (.lpmodeAssert 1) (up []) (fun t => t.fld PWR_STATE.STATE 0 == 1 && t.flag PWR_STATE.LP_REQ 0) = true ∧
    (up []).pwr.lpSw = false ∧ (∀ q : Fin 16, q ≠ 1 → (up []).pinRole q ≠ 2) ∧
    after (.lpmodeDeassert 1) (up [(PWR_STATE.LP_REQ, 0, 1)]) (fun t => !t.flag PWR_STATE.LP_REQ 0) = true ∧
    after (.lowPwrRequestSw true) (up []) (fun t => t.fld PWR_STATE.STATE 0 == 1 && t.pwr.lpSw) = true := by decide +kernel

/-- Asleep: 1 DOZE, 2 DEEP; with a wake in progress or none. -/
def asleep (k : Nat) (w : Option WakeX) : State := { up [(PWR_CTRL.DEEP_AFTER, 0, 5), (PWR_STATE.STATE, 0, 4), (PWR_WAKE_LANES.LANES, 0, 8)] with pwr := { sleep := k, wake := w } }

theorem test_wakes : (asleep 1 none).wakeValid 1 3 3 = true ∧ (asleep 1 none).fld PWR_CTRL.DEEP_AFTER 0 = 5 ∧
    after .deepAfterExpiry (asleep 1 none) (fun t => t.pwr.sleep == 2 && t.pwr.passed) = true ∧
    after (.wakeSource 3 3 ⟨7, 0⟩) (asleep 1 none) (fun t => t.fld PWR_WAKE_SRC.SOURCE 0 == 3 && t.fld PWR_WAKE_SRC.DETAIL 0 == 3 && t.pwr.wake.isSome) = true ∧
    after (.warmReset 0 ⟨7, 0⟩) (asleep 2 none) (fun t => t.fld PWR_WAKE_SRC.SOURCE 0 == 1 && t.pwr.wake.isSome) = true := by decide +kernel

theorem test_wakeStages : let w : WakeX := { source := 3, stage := 3 }
    (asleep 1 (some w)).fld PWR_SUPPLY.NOW 0 = 0 ∧ 9 ≤ stageLimit 3 ∧ 9 ≤ stageLimit 4 ∧
    after (.wakeStageReady 9 ⟨7, 0⟩ 0) (asleep 1 (some w)) (fun t => t.fld (stageField 3) 0 == 9 && (t.pwr.wake.map fun x => x.stage) == some 4) = true ∧
    after .wakeStageTimeout (asleep 1 (some w)) (fun t => (t.pwr.wake.map fun x => x.waiting) == some true) = true ∧
    after .wakeStageTimeout (asleep 1 (some { w with attempt := 3 })) (fun t => t.pwr.wake == none && t.fld PWR_WAKE_SRC.FAIL_STAGE 0 == 3 &&
      t.fld PWR_WAKE_COUNT.FAILED 0 == 1) = true ∧
    after .wakeRetry (asleep 1 (some { w with waiting := true })) (fun t => (t.pwr.wake.map fun x => x.attempt) == some 2) = true := by decide +kernel

theorem test_wake_ends : let s := asleep 1 (some { source := 3, stage := 4 })
    after (.wakeStageReady 9 ⟨7, 0⟩ 0) s (fun t => t.pwr.sleep == 0 && t.fld GLB_STATE.BOOT 0 == 0 && t.fld PWR_WAKE_COUNT.WAKES 0 == 1) = true := by decide +kernel

theorem test_supplyTrip : after (.supplyTrip 5 0) (up []) (fun t => t.fld PWR_SUPPLY.NOW 0 == 32 && t.flag GLB_STATE.ALERT 0 && t.recorder.queue.length == 1) = true ∧
    after (.supplyTrip 2 0) (up []) (fun t => t.fld PWR_STATE.STATE 0 == 1 && t.fld PWR_SUPPLY.SINCE 0 == 4) = true ∧
    after (.supplyTrip 2 0) (asleep 2 none) (fun t => t.pwr.latch && t.fld PWR_SUPPLY.NOW 0 == 4) = true ∧
    after (.supplyTrip 0 0) (up []) (fun t => t.fld GLB_STATE.BOOT 0 == 0 && t.fld PWR_SUPPLY.NOW 0 == 1) = true ∧
    after (.supplyTrip 5 0) (up [(PWR_SUPPLY.NOW, 0, 32)]) (fun t => t == up [(PWR_SUPPLY.NOW, 0, 32)]) = true ∧
    after (.supplyRecover 5) (up [(PWR_SUPPLY.NOW, 0, 33)]) (fun t => t.fld PWR_SUPPLY.NOW 0 == 1) = true := by decide +kernel

theorem test_tussockSample : let s := (st [(TSK_CTRL.EN, 0, 1), (TSK_IN_CFG.EN, 5, 1), (TSK_IN_CFG.AVG, 5, 1)]).modTskIn 5 fun x => { x with samples := [100] }
    s.tskNext = some 5 ∧ (s.setFld TSK_IN_CFG.AVG 5 2).tskNext = some 5 ∧
    after (.tussockSample 103 ⟨0, 0⟩) s (fun t => t.fld TSK_VALUE.RAW 5 == 103 && t.fld TSK_VALUE.Y 5 == 101 && t.tskAt == 5) = true ∧
    after (.tussockSample 103 ⟨0, 0⟩) (s.setFld TSK_IN_CFG.AVG 5 2) (fun t => t.fld TSK_VALUE.Y 5 == 0) = true := by decide +kernel

theorem test_tskRules : let v : BitVec 64 := BitVec.ofNat 64 (2 ^ 63 + 7 * 2 ^ 60 + 1 * 2 ^ 56 + 5 * 2 ^ 51 + 3 * 2 ^ 40 + 100 * 2 ^ 28 + 200 * 2 ^ 16 + 1)
    tskRuleOk v.toNat = true ∧ tskRuleOk 0 = false ∧ Accepts State.reset fw .TSK_RULE 31 ∧
    after (.tskRuleCommit fw 31 v) State.reset (fun t => t.fld TSK_RULE.SET 31 == 100 && t.fld TSK_RULE.ACTION 31 == 1 && t.flag TSK_RULE.RULE_EN 31) = true ∧
    after (.tskRuleCommit fw 31 0) State.reset (fun t => t.recorder.queue.length == 1) = true ∧
    after (.tskInCfgWrite fw 5 0x80000006) State.reset (fun t => t.fld TSK_IN_CFG.AVG 5 == 6 && t.flag TSK_IN_CFG.EN 5) = true ∧
    after (.tskInCfgWrite fw 5 7) State.reset (fun t => t.fld TSK_IN_CFG.AVG 5 == State.reset.fld TSK_IN_CFG.AVG 5) = true := by decide +kernel

/-! ### Clocks -/

/-- REFCLK and core clock present, line synthesiser 1 and host synthesiser 2 in the states given, boot over. -/
def clocked (line host : Nat) : State := st [(CLK_STATUS.REF_PRESENT, 0, 1), (CLK_STATUS.CORE_LOCK, 0, 1), (CLK_LINE.STATE, 1, line), (CLK_HOST.STATE, 2, host),
  (CLK_STATUS.LINE_LOCK, 0, if line = 2 then 2 else 0), (CLK_STATUS.HOST_LOCK, 0, if host = 2 then 4 else 0), (GLB_STATE.BOOT, 0, 5), (TMB_QUALITY.Q, 0, 0),
  (LRX_STATUS.STATE, 2, Lrx.LOCKED)]

theorem test_clockLoss : (clocked 2 2).offline = false ∧
    after .refclkMissing (clocked 2 2) (fun t => !t.flag CLK_STATUS.CORE_LOCK 0 && !t.flag CLK_STATUS.REF_PRESENT 0 && t.fld CLK_REF_LOSS.COUNT 0 == 1 &&
      t.fld CLK_LINE.STATE 1 == 3 && t.fld CLK_HOST.STATE 2 == 3 && !t.locked 2 && t.quality != Quality.LOCKED && t.flag GLB_STATE.ALERT 0) = true ∧
    after .corePllLockLoss (clocked 2 2) (fun t => !t.flag CLK_STATUS.CORE_LOCK 0 && t.flag CLK_STATUS.REF_PRESENT 0 && !t.lineSynthLocked 1) = true ∧
    after .refclkReturn ((clocked 3 3).setFld CLK_STATUS.REF_PRESENT 0 0) (fun t => t.clocksPresent && t.fld CLK_LINE.STATE 1 == 1 && t.fld CLK_LINE.STATE 0 == 0) = true := by
  decide +kernel

theorem test_synthesisers : (clocked 2 2).lineSynthLocked 1 = true ∧ (clocked 2 2).hostSynthLocked 2 = true ∧
    after (.synthesiserLockLoss (.line 1)) (clocked 2 2) (fun t => !t.lineSynthLocked 1 && t.fld CLK_LINE.LOSSES 1 == 1 && !t.locked 2) = true ∧
    after (.synthesiserLockLoss (.host 2)) (clocked 2 2) (fun t => !t.hostSynthLocked 2 && t.fld CLK_HOST.LOSSES 2 == 1) = true ∧
    (clocked 1 1).hrn.load = none ∧ (clocked 1 1).fld PWR_STATE.STATE 0 ≠ 3 ∧
    after (.synthesiserLock (.line 1)) (clocked 1 3) (fun t => t.lineSynthLocked 1 && t.fld CLK_LINE.STATE 1 == 2) = true ∧
    after (.synthesiserLock (.host 2)) (clocked 1 3) (fun t => t.hostSynthLocked 2 && t.fld CLK_HOST.STATE 2 == 2 && t.flag HSI_CLK.SYNTH_LOCK 2) = true := by decide +kernel

theorem test_toActive : let s := (clocked 1 0).setFld PWR_STATE.STATE 0 3
    (s.setFld CLK_STATUS.LINE_LOCK 0 (s.fld CLK_STATUS.LINE_LOCK 0 ||| 2 ^ 1)).synthsLocked s.cfg groups8 = true ∧
    after (.synthesiserLock (.line 1)) s (fun t => t.fld PWR_STATE.STATE 0 == 0 && t.fld GLB_STATE.PWR 0 == 0) = true := by decide +kernel

/-- Clocks present, line receiver 2, line transmitter 3 and host lane 9 waiting. -/
def waits : State := (clocked 1 1).setFld LRX_STATUS.PENDING 2 1 |>.setFld LTX_STATUS.STATE 3 Ltx.PENDING |>.setFld HSI_STATUS.RX_STATE 9 HRx.PENDING
  |>.setFld HSI_STATUS.TX_STATE 9 HTx.PENDING |>.setFld PWR_STATE.STATE 0 3

theorem test_pendingTimeouts : waits.offline = false ∧ waits.clocksPresent = true ∧
    after (.pendingTimeout (.lineRx 2)) waits (fun t => !t.flag LRX_STATUS.PENDING 2 && t.fld LRX_STATUS.RESULT 2 == 1) = true ∧
    after (.pendingTimeout (.lineTx 3)) waits (fun t => t.ltxState 3 == Ltx.DISABLED && t.fld LTX_STATUS.RESULT 3 == LtxResult.PLL_TIMEOUT) = true ∧
    after (.pendingTimeout (.host 9)) waits (fun t => t.hrx 9 == HRx.DISABLED && t.htx 9 == HTx.DISABLED && t.fld HSI_TIMEOUT.COUNT 9 == 1 && t.fld HSI_STATUS.RESULT 9 == HRes.PLL_TIMEOUT) = true ∧
    after (.pendingTimeout .toActive) waits (fun t => t.fld PWR_STATE.STATE 0 == 0 && t.fld PWR_STATE.RESULT 0 == 3 && t.flag GLB_STATE.ALERT 0) = true := by decide +kernel

theorem test_pendingTimeout_load : let s := { clocked 1 1 with hrn := { load := some { cmd := 2, image := [], stage := 1 } } }
    s.pwr.deferred = none ∧ after (.pendingTimeout .load) s (fun t => t.hrn.load == none && t.fld HRN_STATUS.RESULT 0 == Load.PLL_TIMEOUT &&
      t.fld HRN_LOAD_REJ.COUNT 0 == 1) = true := by decide +kernel

theorem test_controllers : let s := fun r => { (clocked 2 2).setFld GLB_STATE.HEADLESS 0 1 with sec := { recover := r } }
    (s true).inRecovery = false ∧ (s false).mgt.held = [] ∧ (s false).mgt.cmisLater = [] ∧
    after .controllerWatchdog (clocked 2 2) (fun t => t.headless && t.fld GLB_STATE.BOOT 0 == 5 && same [(.GLB_STATE, 0), (.SEC_FW_SPACE, 0)] (clocked 2 2) t) = true ∧
    after .controllersReturn (s true) (fun t => t.inRecovery && t.fld GLB_STATE.BOOT 0 == 0 && t.headless && t.flag GLB_STATE.ALERT 0) = true := by decide +kernel

theorem test_recoveryImage : let s := { st [(SEC_FW_STATUS.STATE, 0, 3)] with sec := { update := some { slot := 2, excess := true, due := true } } }
    s.offline = false ∧ s.inRecovery = true ∧ after (.recoveryImage true true) s (fun t => t.fld SEC_FW_STATUS.RESULT 0 == Sec.LENGTH && t.sec.update == none &&
      t.inRecovery) = true := by decide +kernel

/-! ### DMA -/

/-- The registers of channel 3, and firmware past its boot so that transfers need not be aligned. -/
def dmaRegs (src dst cnt : Nat) : State := st [(DMA_SRC.ADDR, 3, src), (DMA_DST.ADDR, 3, dst), (DMA_CNT.CNT, 3, cnt), (GLB_STATE.BOOT, 0, 5)]

theorem test_dmaStarts : let s := dmaRegs 0x10000000 0x10000100 64
    Accepts s fw .DMA_CTRL 3 ∧ s.dmaState 3 = Dma.IDLE ∧ s.fld DMA_CTRL.REQ 3 = 0 ∧ s.partFailed 12 = false ∧ s.dmaStrict 3 = false ∧
    (⟨0x10000000, 0x10000100, 64, false⟩ : DmaEntry).fault (s.role fw) = none ∧
    after (.linear fw 3) s (fun t => t.dmaState 3 == Dma.RUN && t.fld DMA_STATUS.REMAIN 3 == 64 && (t.dmaOf 3).entries == [⟨0x10000000, 0x10000100, 64, false⟩]) = true ∧
    after (.fill fw 3) s (fun t => t.dmaState 3 == Dma.RUN) = true ∧
    after (.linear fw 3) (s.setFld DMA_CNT.CNT 3 0) (fun t => (t.dmaOf 3).ended == some DmaEnd.TABLE && t.dmaState 3 == Dma.CHECK) = true ∧
    after (.linear fw 3) ((s.setFld DMA_CTRL.TEST 3 1).setFld DMA_SRC.ADDR 3 0x10000001) (fun t => (t.dmaOf 3).ended == some DmaEnd.ALIGN) = true ∧
    (⟨0xFFFFFFFF, 0x10000100, 64, false⟩ : DmaEntry).fault (s.role fw) = some DmaEnd.RANGE ∧
    after (.linear fw 3) (s.setFld DMA_SRC.ADDR 3 0xFFFFFFFF) (fun t => (t.dmaOf 3).ended == some DmaEnd.RANGE) = true := by decide +kernel

/-- One entry at 0x10000000: 8 bytes from 0x10000040 to 0x10000080. -/
def tabled : State := (List.range 16).foldl (fun s k => s.setMemByte (0x10000000 + k) ([0x40, 0, 0, 0x10, 0x80, 0, 0, 0x10, 8, 0, 0, 0].getD k 0)) (dmaRegs 0x10000000 0 1)

theorem test_dmaIndex : rangeFault (tabled.role fw) 0x10000000 16 false = none ∧ tabled.memx.errs = [] ∧ tabled.memx.poison = [] ∧
    entryOf (tabled.memBytes 0x10000000 16) = some ⟨0x10000040, 0x10000080, 8, false⟩ ∧
    (⟨0x10000040, 0x10000080, 8, false⟩ : DmaEntry).fault (tabled.role fw) = none ∧ firstClash 0 [⟨0x10000040, 0x10000080, 8, false⟩] = none ∧
    after (.index fw 3) tabled (fun t => t.dmaState 3 == Dma.RUN && (t.dmaOf 3).entries == [⟨0x10000040, 0x10000080, 8, false⟩]) = true ∧
    after (.index fw 3) (tabled.setFld DMA_CNT.CNT 3 257) (fun t => (t.dmaOf 3).ended == some DmaEnd.TABLE) = true ∧
    after (.index fw 3) (tabled.setFld DMA_SRC.ADDR 3 0x10000008) (fun t => (t.dmaOf 3).ended == some DmaEnd.ALIGN) = true ∧
    rangeFault (tabled.role fw) 0xFFFFFFF0 16 false = some DmaEnd.RANGE ∧
    after (.index fw 3) (tabled.setFld DMA_SRC.ADDR 3 0xFFFFFFF0) (fun t => (t.dmaOf 3).ended == some DmaEnd.RANGE) = true := by decide +kernel

theorem test_dmaBusy : let s := (dmaRegs 0 0 0).setFld DMA_STATUS.STATE 3 Dma.RUN
    s.dmaAsks 3 = true ∧ s.fld DMA_CTRL.MODE 3 ≠ 3 ∧ s.engine.current = none ∧
    after (.linear fw 3) s (fun t => t.recorder.queue.length == 1 && t.dma == s.dma) = true ∧
    after (.dmaAbort fw 3) s (fun t => (t.dmaOf 3).ended == some DmaEnd.ABORTED && same [] s t) = true ∧
    after (.dmaAbort fw 3) { s with engine := { current := some 3 } } (fun t => (t.dmaOf 3).aborting) = true := by decide +kernel

/-- Channel 3 in the middle of its only burst. -/
def bursting (e : DmaEntry) : State := { st [(DMA_STATUS.STATE, 3, Dma.RUN), (DMA_FILL.FILL, 3, 0x0102030405060708)] with
  dma := [(3, { entries := [e] })], engine := { current := some 3 }, mem := [(0x10000000, 7), (0x10000001, 9)] }

theorem test_dmaFill : let s := bursting ⟨0, 0x10000020, 3, true⟩
    s.engine.current = some 3 ∧ s.dmaOf 3 = { entries := [⟨0, 0x10000020, 3, true⟩] } ∧ 3 ≤ 32 * (s.fld DMA_CTRL.BURST 3 + 1) ∧ regSpaceEnd ≤ 0x10000020 ∧
    after .dmaBurstEnd s (fun t => (t.dmaOf 3).ended == some DmaEnd.OK && t.memByte 0x10000020 == 8 && t.memByte 0x10000022 == 6 && t.memByte 0x10000023 == 0 &&
      t.memByte 0x10000001 == 9) = true := by decide +kernel

theorem test_dmaCopy : let s := bursting ⟨0x10000000, 0x10000020, 2, false⟩
    overlaps 0x10000000 2 0x10000020 2 = false ∧ rangeFault Role.FIRMWARE 0x10000000 2 false = none ∧ rangeFault Role.FIRMWARE 0x10000020 2 true = none ∧
    s.flag MEM_FLIP_MASK.ARM 0 = false ∧
    after .dmaBurstEnd s (fun t => (t.dmaOf 3).ended == some DmaEnd.OK && t.memByte 0x10000020 == 7 && t.memByte 0x10000021 == 9) = true := by decide +kernel

theorem test_dmaGrant : let s := st [(DMA_STATUS.STATE, 3, Dma.RUN), (DMA_STATUS.STATE, 9, Dma.PREEMPTED), (DMA_CTRL.PRIO, 3, 2)]
    s.dmaPick = some 3 ∧ s.dmaAsks 9 = true ∧ (∀ k : Fin 4, (s.strmOf k).queue = []) ∧
    after .dmaBurstEnd s (fun t => t.engine.current == some 3 && t.dmaState 3 == Dma.RUN && same [(.DMA_STATUS, 3)] s t) = true := by decide +kernel

theorem test_dmaPreempt : let s := { ((bursting ⟨0, 0x10000020, 3, true⟩).setFld DMA_STATUS.STATE 9 Dma.RUN).setFld DMA_CTRL.PRIO 9 3 with
      dma := [(3, { entries := [⟨0, 0x10000020, 100, true⟩] })] }
    s.outranked 3 = true ∧ (s.dmaOf 3).stream = none ∧ (s.dmaOf 3).beats + 0 < s.burstBeats 3 ∧ ((s.moveBeats 3 0).dmaOf 3).excess = false ∧
    after (.dmaPreempt 0) s (fun t => t.fld DMA_PREEMPT.COUNT 3 == 1 && t.dmaState 3 == Dma.PREEMPTED && t.engine.current == some 9) = true := by decide +kernel

/-- Channel 3 at its end with a status. -/
def ended (status : Nat) (fs : List (Field × Nat × Nat)) : State := { st ([(DMA_STATUS.STATE, 3, Dma.RUN)] ++ fs) with dma := [(3, { ended := some status })] }

theorem test_dmaTransferEnd : (ended 7 []).cqFull = false ∧ (ended 7 [(DMA_CQ_RD.IDX, 0, 1)]).cqFull = true ∧ (ended 0 [(DMA_CTRL.CQ, 3, 0)]).flag DMA_CTRL.CQ 3 = false ∧
    after (.dmaTransferEnd 3) (ended 7 []) (fun t => t.dmaState 3 == Dma.IDLE && t.fld DMA_CQ_WR.IDX 0 == 1) = true ∧
    after (.dmaTransferEnd 3) (ended 7 [(DMA_CQ_RD.IDX, 0, 1)]) (fun t => t.dmaState 3 == Dma.WAIT_CQ && t.fld DMA_CQ_WAITS.COUNT 0 == 1 && t.engine.waits == [3]) = true ∧
    after (.dmaTransferEnd 3) (ended 0 [(DMA_CTRL.CQ, 3, 0)]) (fun t => t.dmaState 3 == Dma.IDLE && t.fld DMA_CQ_WR.IDX 0 == 0) = true := by decide +kernel

theorem test_dmaCqRd : let s := st [(DMA_CQ_WR.IDX, 0, 9), (DMA_CQ_RD.IDX, 0, 4)]
    Accepts s fw .DMA_CQ_RD 0 ∧ after (.dmaCqRdWrite fw 9) s (fun t => t.fld DMA_CQ_RD.IDX 0 == 9) = true ∧
    after (.dmaCqRdWrite fw 10) s (fun t => t.fld DMA_CQ_RD.IDX 0 == 4 && t.recorder.queue.length == 1) = true := by decide +kernel

theorem test_streams : let s := { st [(HKA_STREAM_CFG.EN, 1, 1), (HKA_STREAM_CFG.DMA_CH, 1, 5)] with strm := [(1, { queue := [[4]] })] }
    let r := { st [(HKA_STREAM_CFG.EN, 1, 1), (HKA_STREAM_CFG.DMA_CH, 1, 5), (HKA_STREAM_CFG.SIZE, 1, 8), (DMA_STATUS.STATE, 5, Dma.RUN)] with
      dma := [(5, { stream := some 1, record := List.replicate 16 3 })] }
    s.dmaState 5 = Dma.IDLE ∧ r.streamBytes 1 = 256 ∧
    after (.streamBurstRequest 1) s (fun t => (t.dmaOf 5).stream == some 1 && (t.dmaOf 5).record == [4] && t.dmaState 5 == Dma.RUN) = true ∧
    after (.streamWithdraw 1) r (fun t => t.dmaState 5 == Dma.IDLE && t.dmaOf 5 == {}) = true ∧
    after (.streamWithdraw 1) { r with engine := { current := some 5 } } (fun t => (t.dmaOf 5).withdrawn) = true ∧
    after .dmaBurstEnd { r with engine := { current := some 5 } } (fun t => t.dmaState 5 == Dma.IDLE && t.fld HKA_STREAM_WR.WR 1 == 16) = true := by decide +kernel

/-! ### Housekeeping converters -/

/-- Channel 3 in conversion, for one of the four purposes; its stream code is 4 (none). -/
def converting (kind : Nat) : State := { st [(HKA_CH_CFG.STREAM, 3, 4), (HKA_CH_CFG.STREAM, 38, 4)] with hka := { conv := some { ch := 3, src := 0, order := 0, kind := kind } } }

theorem test_conversionEnd : (converting 0).fld HKA_CH_CFG.STREAM 3 = 4 ∧ (converting 0).hka.retry = [] ∧
    after (.conversionEnd [125170]) (converting Conv.SCAN) (fun t => t.flag HKA_RESULT.VALID 3 && t.fld HKA_RESULT.CODE 3 == code24 ((converting 0).convert { ch := 3, src := 0, order := 0, kind := 0 } [125170]).2.1 &&
      same [(.HKA_RESULT, 3), (.HKA_RESULT_TS, 3)] (converting Conv.SCAN) t) = true ∧
    after (.conversionEnd [125170]) (converting Conv.SOFTWARE) (fun t => t.flag HKA_URGENT_RES.VALID 0 && t.fld HKA_URGENT_RES.CH 0 == 3 && !t.flag HKA_URGENT.BUSY 0) = true := by
  decide +kernel

theorem test_readback : let s := (converting Conv.READBACK).modDac 3 fun x => { x with on := false, fails := 1 }
    (s.dacOf 3).gen = 0 ∧ s.rbPasses 3 ((s.convert { ch := 3, src := 0, order := 0, kind := 2 } [0]).2.1) = true ∧
    s.rbPasses 3 ((s.convert { ch := 3, src := 0, order := 0, kind := 2 } [1430511475]).2.1) = false ∧
    after (.conversionEnd [0]) s (fun t => (t.dacOf 3).fails == 0) = true ∧
    after (.conversionEnd [1430511475]) s (fun t => t.fld HKA_RB_FAIL.COUNT 0 == 1 && (t.dacOf 3).held && (t.fld HKA_DAC_FAULT.FAULT 0).testBit 3) = true := by decide +kernel

theorem test_urgent : Accepts State.reset fw .HKA_URGENT 0 ∧ State.reset.partFailed 11 = false ∧
    after (.hkaUrgentGo fw 39 2 3) State.reset (fun t => (t.hka.conv.map fun c => c.ch) == some 39 && t.flag HKA_URGENT.BUSY 0) = true ∧
    after (.hkaUrgentGo fw 39 2 3) (converting Conv.SOFTWARE) (fun t => t.hka.urgent == [{ ch := 39, src := 2, order := 3, kind := Conv.SOFTWARE }]) = true ∧
    after (.hkaUrgentGo fw 39 2 3) { State.reset with hka := { urgent := List.replicate 4 { ch := 0, src := 0, order := 0, kind := 1 } } }
      (fun t => t.fld HKA_URGENT.RESULT 0 == 1) = true ∧
    after (.hkaUrgentGo fw 40 0 0) State.reset (fun t => t.recorder.queue.length == 1) = true ∧
    after (.hkaUrgentGo fw 0 3 0) State.reset (fun t => t.recorder.queue.length == 1 && t.hka == State.reset.hka) = true := by decide +kernel

theorem test_dacs : let s := st [(HKA_DAC_CFG.TRIG, 3, 0), (HKA_DAC_CFG.TRIG, 4, 2), (HKA_DAC_CODE.CODE, 4, 50), (HKA_DAC_TIMER.EN, 1, 1), (HKA_DAC_TIMER.ONESHOT, 1, 1)]
    Accepts s fw .HKA_DAC_CODE 3 ∧ (s.dacOf 3).held = false ∧
    after (.dacCodeWrite fw 3 900) s (fun t => t.fld HKA_DAC_CODE.NOW 3 == 900 && (t.dacOf 3).gen == 1) = true ∧
    after (.dacCodeWrite fw 4 900) s (fun t => t.fld HKA_DAC_CODE.NOW 4 == 0 && t.fld HKA_DAC_CODE.CODE 4 == 900) = true ∧
    after (.dacTimerFire 1) s (fun t => !t.flag HKA_DAC_TIMER.EN 1 && t.fld HKA_DAC_CODE.NOW 4 == 50) = true := by decide +kernel

theorem test_readbackRequests : let c := ({ (converting Conv.SOFTWARE) with dac := [(3, { rbDue := true })] }).setFld HKA_DAC_CFG.RB_EN 5 1 |>.setFld HKA_RB_CFG.RB_PERIOD 0 1
    let full := { c with hka := { c.hka with urgent := List.replicate 4 { ch := 0, src := 0, order := 0, kind := 1 } } }
    (((List.range 32).map fun i => (c.hka.rbLast + 1 + i) % 32).find? fun k => c.flag HKA_DAC_CFG.RB_EN k) = some 5 ∧
    after (.readbackRequest 3) c (fun t => !(t.dacOf 3).rbDue && t.hka.urgent == [{ ch := 3, src := 2, order := 0, kind := Conv.READBACK }]) = true ∧
    after (.readbackRequest 3) full (fun t => t.fld HKA_URG_DROP.COUNT 0 == 1 && t.hka.retry.length == 1) = true ∧
    after .readbackPeriod c (fun t => t.hka.rbLast == 5 && t.hka.urgent.length == 1) = true := by decide +kernel

theorem test_dacFaultClear : let s := (st [(HKA_DAC_FAULT.FAULT, 0, 0xC)]).modDac 3 fun x => { x with held := true }
    Accepts s fw .HKA_DAC_FAULT 0 ∧ after (.dacFaultClear fw 8) s (fun t => t.fld HKA_DAC_FAULT.FAULT 0 == 4 && !(t.dacOf 3).held) = true ∧
    after (.dacFaultClear fw 8) ({ s with risen := [((.HKA_DAC_FAULT, 0), 8)] }) (fun t => t.fld HKA_DAC_FAULT.FAULT 0 == 12 && (t.dacOf 3).held) = true := by decide +kernel

theorem test_decimation : let s := st [(HKA_CH_CFG.DEC_EN, 3, 1), (HKA_RESULT.CODE, 3, 0xFFFFFE), (HKA_DEC_CFG.M_LOG2, 0, 1)]
    s.partFailed 11 = false ∧ (s.setFld BST_RESULT.FAIL_MASK 0 0x800).partFailed 11 = true ∧
    after .decimationTick s (fun t => (t.decOf 3).ticks == 1 && (t.decOf 3).acc == -2 && (t.decOf 3).prev == 0) = true ∧
    after .decimationTick (s.modDec 3 fun x => { x with acc := -2, prev := 0, ticks := 1, restart := false }) (fun t => (t.decOf 3).ticks == 0 && t.fld HKA_DEC_OUT.OUT 3 == 0xFFFFFE) = true := by
  decide +kernel

theorem test_selfCalibration : let s := (converting Conv.SOFTWARE)
    after .selfCalibration (s.setFld GLB_STATE.HEADLESS 0 1) (fun t => t.fld CAL_RESULT.RESULT 48 == Cal.SKIPPED && t.fld CAL_COUNT.COUNT 48 == 1) = true ∧
    after .selfCalibration s (fun t => (t.hka.urgent.map fun u => (u.ch, u.order)) == [(39, 0), (32, 3)] && same [] s t) = true := by decide +kernel

theorem test_tskFit : let s := { st [(HKA_CH_CFG.SRC, 3, 1)] with hka := { pairs := [(3, [(5, 5)])] } }
    s.fld HKA_CH_CFG.SRC 3 = 1 ∧ Tab.get (fun _ => []) s.hka.pairs 3 = [(5, 5)] ∧
    after .tskFit (s.setFld GLB_STATE.HEADLESS 0 1) (fun t => t.fld CAL_RESULT.RESULT 19 == Cal.SKIPPED && t.fld CAL_COUNT.COUNT 20 == 0) = true := by decide +kernel

/-! ### The event recorder -/

/-- Two events wait; the circulating area is about to end. -/
def recording : State := { st [(EVL_HEAD_SEQ.OFFSET, 0, 0x3FFE0), (EVL_FIRST_FULL.USED, 0, 0x7FF0)] with recorder := { State.reset.recorder with
  queue := [⟨Evt.BOOT, 7, 0, 0, 0, [0, 1]⟩, ⟨Evt.BOOT, 8, 0, 0, 0, [0, 1]⟩] } }

theorem test_recordWrite : recording.recorderBusy = false ∧ recording.memx.errs = [] ∧ recording.memx.poison = [] ∧ recording.flag MEM_FLIP_MASK.ARM 0 = false ∧
    (⟨Evt.BOOT, 7, 0, 0, 0, [0, 1]⟩ : Rec).bytes.length = 32 ∧
    after .recordWrite recording (fun t => t.fld EVL_HEAD_SEQ.SEQ 0 == 7 && t.fld EVL_HEAD_SEQ.OFFSET 0 == 0x8000 && t.fld EVL_WRITTEN.COUNT 0 == 1 &&
      t.flag EVL_FIRST_FULL.FULL 0 && t.recorder.queue.length == 1 && t.memByte (eventStore + 0x3FFE0) == 8) = true := by decide +kernel

theorem test_recordWrite_pace : let s := { recording with recorder := { recording.recorder with wrote := some 100 } }
    { s with cycle := 131 }.recorderBusy = true ∧ { s with cycle := 132 }.recorderBusy = false := by decide +kernel

theorem test_recordWrite_kept : let s := (recording.setFld EVL_FIRST_FULL.USED 0 0).setFld EVL_HEAD_SEQ.OFFSET 0 0x8000
    after .recordWrite s (fun t => t.fld EVL_HEAD_SEQ.OFFSET 0 == 0x8020 && t.fld EVL_FIRST_FULL.USED 0 == 32 && !t.flag EVL_FIRST_FULL.FULL 0 &&
      t.fld EVL_FIRST_RANGE.LAST 0 == 7) = true := by decide +kernel

theorem test_clearKept : let s := { State.reset with recorder := { State.reset.recorder with next := 9, queue := [] } }
    Accepts s fw .EVL_CTRL 0 ∧ after (.clearKept fw) s (fun t => t.fld EVL_FIRST_FULL.USED 0 == 36 && t.recorder.kept == 1 && t.fld EVL_FIRST_RANGE.FIRST 0 == 9) = true ∧
    after .evlHeadSeqRead recording (fun t => t.captureOf (.EVL_HEAD_SEQ, 0) == recording.reg .EVL_HEAD_SEQ 0 && same [] recording t) = true := by decide +kernel

/-! ### Harness loads -/

/-- Boot over, a load in the stage given (none: 9), of an image too short to pass. -/
def loading (stage cmd : Nat) : State := { st [(GLB_STATE.BOOT, 0, 5), (PWR_STATE.STATE, 0, 0), (CLK_STATUS.REF_PRESENT, 0, 1), (CLK_STATUS.CORE_LOCK, 0, 1)] with
  hrn := { load := if stage = 9 then none else some { cmd := cmd, image := [1, 2, 3], stage := stage, shown := [2] } } }

theorem test_loadCommands : let s := loading 9 0
    Accepts s fw .HRN_LOAD_CTRL 0 ∧ (s.setFld HRN_LOAD_CTRL.DRAIN_TO 0 1).fld HRN_LOAD_CTRL.DRAIN_TO 0 ≠ 0 ∧ s.fld HRN_LOAD_CTRL.DRAIN_TO 0 ≠ 0 ∧
    s.loadBusy = false ∧ (loading 0 2).loadBusy = true ∧
    after (.commit fw) (loading 0 2) (fun t => t.fld HRN_STATUS.RESULT 0 == Load.BUSY && t.fld HRN_LOAD_REJ.COUNT 0 == 1) = true ∧
    after (.hrnOpen fw) s (fun t => t.fld HRN_STATUS.STATE 0 == 1) = true ∧
    after (.commit fw) s (fun t => t.fld HRN_STATUS.STATE 0 == 2 && (t.hrn.load.map fun l => l.cmd) == some 2) = true ∧
    after (.verify fw) s (fun t => (t.hrn.load.map fun l => l.cmd) == some 4) = true ∧ after (.writeB fw) s (fun t => (t.hrn.load.map fun l => l.cmd) == some 6) = true ∧
    after (.cancel fw) (loading 3 2) (fun t => t.hrn.load == none && t.fld HRN_STATUS.RESULT 0 == Load.ABORTED) = true := by decide +kernel

theorem test_hrnLoadData : Accepts (loading 9 0) fw .HRN_LOAD_DATA 0 ∧
    after (.hrnLoadData fw 0x04030201) (loading 9 0) (fun t => t.hrn.staging == [1, 2, 3, 4] && t.fld HRN_LOAD_COUNT.COUNT 0 == 4) = true ∧
    after (.hrnLoadData fw 9) (loading 0 2) (fun t => t.hrn.staging == [] && t.recorder.queue.length == 1) = true := by decide +kernel

theorem test_verification : let s := loading 0 2
    s.headless = false ∧ s.pwr.deferred = none ∧ ((s.setFld HRN_STATUS.KIND 0 (imgKind [1, 2, 3])).verdict false false [1, 2, 3]).1 = Load.LENGTH ∧
    after .verificationDone s (fun t => t.hrn.load == none && t.fld HRN_STATUS.RESULT 0 == Load.LENGTH && t.fld HRN_STATUS.DETAIL 0 == 0xFFFF &&
      t.fld HRN_LOAD_REJ.COUNT 0 == 1) = true := by decide +kernel

theorem test_flashWriteDone : after .flashWriteDone (loading 6 5) (fun t => t.hrn.load == none && t.flashByte (harnessSlot 0 + 1) == 2 &&
    t.fld HRN_LOAD_OK.COUNT 0 == 1) = true ∧ inRange (harnessSlot 0) 3 (harnessSlot 0 + 3) = false := by decide +kernel

theorem test_loadStages : (loading 2 2).drained { cmd := 2, image := [], stage := 2, shown := [2] } = true ∧ after .drainEnd (loading 2 2) (fun t => (t.hrn.load.map fun l => l.stage) == some 3) = true ∧
    after .quiesce (loading 3 2) (fun t => (t.hrn.load.map fun l => l.stage) == some 4 && t.fld HRN_GROUP_STATE.STATE 2 == Group.REBUILDING) = true ∧
    ((loading 4 2).hrn.load.map fun l => (loading 4 2).synthsLocked l.target l.shown) = some true ∧
    after .reopen (loading 5 2) (fun t => t.hrn.load == none && t.fld HRN_STATUS.RESULT 0 == Load.PLL_TIMEOUT) = true := by decide +kernel

/-- Group 2 configured and being rebuilt; its synthesiser is not locked. -/
def rebuilding (stage : Nat) : State := { loading 9 0 with cfg := [((Sect.MODES, 2), List.replicate 8 0)], hrn :=
    { load := some { cmd := 2, image := [], stage := stage, shown := [2], new := [((Sect.MODES, 2), List.replicate 8 0)], old := [((Sect.MODES, 2), List.replicate 8 0)] } } }

theorem test_rebuildPllTimeout : ((rebuilding 4).hrn.load.map fun l => (rebuilding 4).synthsLocked l.target l.shown) = some false ∧
    ((rebuilding 5).hrn.load.map fun l => (rebuilding 5).synthsLocked l.target l.shown) = some false ∧ (rebuilding 4).clocksPresent = true ∧
    after .rebuildPllTimeout (rebuilding 4) (fun t => (t.hrn.load.map fun l => l.stage) == some 5) = true ∧
    after .rebuildPllTimeout (rebuilding 5) (fun t => t.hrn.load == none && t.fld HRN_STATUS.RESULT 0 == Load.PLL_TIMEOUT && t.flag GLB_STATE.ALERT 0) = true := by decide +kernel

/-! ### Security -/

/-- Slots 0 and 1 hold ADMIN keys, slot 2 a HARNESS key; the device is owned. -/
def owned : State := { st [(SEC_KEY_SLOT.ENROLLED, 0, 1), (SEC_KEY_SLOT.KIND, 0, 2), (SEC_KEY_SLOT.KEY_ID, 0, 0x100), (SEC_KEY_SLOT.ENROLLED, 1, 1), (SEC_KEY_SLOT.KIND, 1, 2),
    (SEC_KEY_SLOT.KEY_ID, 1, 0x101), (SEC_KEY_SLOT.ENROLLED, 2, 1), (SEC_KEY_SLOT.KIND, 2, 1), (SEC_KEY_SLOT.KEY_ID, 2, 0x102), (SEC_STATUS.UNOWNED, 0, 0),
    (GLB_STATE.BOOT, 0, 5), (SEC_STATUS.FW_FLOOR, 0, 3), (MGT_BUS_STATUS.ROLE, 0, 1)] with
  sec := { State.reset.sec with keys := [(0, [1]), (1, [2]), (2, [3])], fwHeader := List.replicate 12 0 ++ [9] } }

theorem test_secNonce : Accepts owned fw .SEC_KEY_CTRL 0 ∧ Accepts owned fw .SEC_DBG_CTRL 0 ∧ owned.sec.fuse = none ∧ owned.enrolCheck owned.sec.keyData = Sec.EXPIRED ∧
    after (.enrol fw) owned (fun t => t.fld SEC_KEY_STATUS.RESULT 0 == Sec.EXPIRED && t.sec == owned.sec) = true ∧
    after (.enrol fw) { owned with sec := { owned.sec with fuse := some (3, 0, 0, []) } } (fun t => t.fld SEC_KEY_STATUS.RESULT 0 == Sec.BUSY) = true := by decide +kernel

theorem test_revoke : owned.lastAdmin 0 = false ∧ owned.pathKey fw ≠ some 0 ∧
    after (.revoke fw 1) owned (fun t => t.sec.fuse == some (12, 1, 0, []) && same [] owned t) = true ∧
    after (.revoke fw 9) owned (fun t => t.fld SEC_KEY_STATUS.RESULT 0 == Sec.KEY) = true ∧
    after (.revoke fw 12) owned (fun t => t.fld SEC_KEY_STATUS.RESULT 0 == Sec.KEY) = true ∧
    after (.revoke fw 15) owned (fun t => t.sec.fuse == some (15, Key.F0, 0, [])) = true ∧
    (owned.setFld SEC_KEY_SLOT.REVOKED 1 1).lastAdmin 0 = true ∧
    after (.revoke fw 0) (owned.setFld SEC_KEY_SLOT.REVOKED 1 1) (fun t => t.fld SEC_KEY_STATUS.RESULT 0 == Sec.REFUSED) = true ∧
    owned.role .bus = 1 ∧ Accepts owned .bus .SEC_KEY_CTRL 0 ∧
    after (.revoke .bus 1) owned (fun t => t.fld MGT_ACCESS_VIOL.COUNT 0 == 1 && t.sec == owned.sec) = true := by decide +kernel

theorem test_fuseDone : let s := fun k => { owned with sec := { owned.sec with fuse := some (k, if k = 12 then 1 else 0x103, 3, [7]) } }
    (s 3).sec.fuse = some (3, 0x103, 3, [7]) ∧ (s 12).sec.fuse = some (12, 1, 3, [7]) ∧ (s 15).sec.fuse = some (15, 0x103, 3, [7]) ∧ (s 3).pwr.deferred = none := by decide +kernel

theorem test_floors : Accepts owned fw .SEC_ROLLBACK_CTRL 0 ∧ owned.fwSvn = 9 ∧ owned.fld SEC_STATUS.FW_FLOOR 0 = 3 ∧ owned.hrn.header = [] ∧
    after (.raiseFw fw 2) owned (fun t => t.fld SEC_KEY_STATUS.RESULT 0 == Sec.REFUSED && same [(.SEC_KEY_STATUS, 0)] owned t) = true ∧
    after (.raiseFw fw 10) owned (fun t => t.fld SEC_KEY_STATUS.RESULT 0 == Sec.REFUSED) = true ∧
    after (.raiseHrn fw 1) owned (fun t => t.fld SEC_KEY_STATUS.RESULT 0 == Sec.REFUSED) = true ∧
    after (.raiseFw fw 65) owned (fun t => same [] owned t) = true := by decide +kernel

theorem test_debug : owned.tokenCheck owned.sec.dbgData = Sec.EXPIRED ∧ owned.pwr.sleep = 0 ∧
    after (.submit fw) owned (fun t => t.fld SEC_DBG_STATUS.RESULT 0 == Sec.EXPIRED && t.sec == owned.sec) = true ∧
    after .idcode owned (fun t => t.jtag.captured == 0x164165AB) = true ∧ after .bypass owned (fun t => t.jtag.ir == .bypass) = true ∧
    after .extest owned (fun t => t.jtag.ir == .extest) = true ∧
    after (.privateInstruction 1) owned (fun t => t == owned) = true ∧
    (match exec (.privateInstruction 1) (owned.setFld SEC_DBG_STATUS.PERMS 0 2) with | .refused r => r == .jtagDebugUnit | _ => false) = true := by decide +kernel

theorem test_fwCommands : Accepts owned fw .SEC_FW_CTRL 0 ∧ owned.inRecovery = false ∧ owned.fwAway = false ∧ (owned.setFld GLB_STATE.BOOT 0 4).fwAway = true ∧
    after (.fwOpen fw) (owned.setFld SEC_FW_STATUS.STATE 0 3) (fun t => t.sec.update == some { slot := 2 } && t.fld SEC_FW_SPACE.SPACE 0 == 4096) = true ∧
    after (.confirm fw) (owned.setFld GLB_STATE.BOOT 0 4) (fun t => t.fld SEC_FW_STATUS.RESULT 0 == Sec.BUSY) = true ∧
    after (.fwOpen fw) (owned.setFld SEC_STATUS.TRIAL 0 1) (fun t => t.fld SEC_FW_STATUS.RESULT 0 == Sec.REFUSED) = true ∧
    after (.fwOpen fw) owned (fun t => (t.sec.update.map fun u => u.slot) == some (1 - owned.bootRec.active) && t.fld SEC_FW_STATUS.STATE 0 == 1) = true ∧
    after (.fwFinish fw) owned (fun t => t.fld SEC_FW_STATUS.RESULT 0 == Sec.REFUSED) = true ∧
    after (.confirm fw) owned (fun t => t.fld SEC_FW_STATUS.RESULT 0 == Sec.REFUSED) = true := by decide +kernel

theorem test_fwRestart : after (.restart fw true) owned (fun t => t.headless && t.sec.recover) = true ∧
    after (.activate fw) owned (fun t => t.headless && !t.sec.recover) = true ∧
    after (.activate fw) { owned with hrn := { load := some { cmd := 2, image := [] } } } (fun t => t.fld SEC_FW_STATUS.RESULT 0 == Sec.BUSY) = true := by decide +kernel

theorem test_fwFinish : let s := { owned with sec := { owned.sec with update := some { slot := 1, excess := true } } }
    s.pwr.deferred = none ∧ after (.fwFinish fw) s (fun t => t.fld SEC_FW_STATUS.RESULT 0 == Sec.LENGTH && t.sec.update == none) = true := by
  decide +kernel

theorem test_fwData : let s := fun k => { owned with sec := { owned.sec with update := some { slot := k } } }
    Accepts (s 1) fw .SEC_FW_DATA 0 ∧ after (.fwDataWrite fw 9 0) owned (fun t => t.recorder.queue.length == 1 && t.sec == owned.sec) = true ∧
    after (.fwDataWrite fw 0x04030201 4) (s 1) (fun t => t.fld SEC_FW_STATUS.COUNT 0 == 4 && t.fld SEC_FW_SPACE.SPACE 0 == 0 && t.flashByte (fwSlot 1 + 3) == 4) = true ∧
    after (.fwDataWrite fw 0x04030201 4096) (s 2) (fun t => (t.sec.update.map fun u => u.bytes) == some [1, 2, 3, 4]) = true ∧
    after (.fwDataWrite fw 9 3) (s 1) (fun t => (t.sec.update.map fun u => u.excess) == some true) = true := by decide +kernel

/-- A signature block naming a key. -/
def signedBy (key : Nat) : List Byte := magicNZ 0x53 0x47 ++ leBytes 4 key ++ List.replicate 136 0

/-- A debug token of the owner's key 0x100 for a device whose identity and nonce are zero, and the device that asked for it. -/
def token : List Byte := magicNZ 0x44 0x54 ++ [1, 0, 2, 0] ++ List.replicate 56 0 ++ signedBy 0x100
def asked : State := owned.setFld SEC_DBG_STATUS.NONCE_VALID 0 1 |>.setFld SEC_KEY_STATUS.NONCE_VALID 0 1 |>.setFld SEC_UID.UID 0 0

/-- Where the signature verifies, every other check of a token passes. -/
theorem test_token (h : sigVerifies [1] (slice token 0 64) (slice token 64 sigLen) = true) : asked.tokenCheck token = Sec.OK := by
  simp only [State.tokenCheck]
  rw [show asked.ownerPub (sigKey (slice token 64 sigLen)) Kind.ADMIN = some [1] by decide +kernel]
  rw [if_neg (by decide +kernel), if_neg (by decide +kernel), if_neg (by decide +kernel), if_neg (by decide +kernel)]
  simp only [h]
  rw [if_neg (by decide +kernel), if_neg (by decide +kernel), if_neg (by decide +kernel)]

/-- An enrolment record, signed by the owner's ADMIN key 0x100, of a HARNESS key 0x200. -/
def enrolment : List Byte := magicNZ 0x4B 0x45 ++ [1, 0] ++ List.replicate 50 0 ++ leBytes 4 0x200 ++ [1, 0, 0, 0] ++ List.replicate 68 0 ++ signedBy 0x100

theorem test_enrolment (h : sigVerifies [1] (slice enrolment 0 132) (slice enrolment 132 sigLen) = true) (hc : Config.onCurve (slice enrolment 64 67) = true) :
    asked.enrolCheck enrolment = Sec.OK := by
  simp only [State.enrolCheck]
  rw [show asked.enrolSigner (sigKey (slice enrolment 132 sigLen)) = some [1] by decide +kernel]
  rw [if_neg (by decide +kernel), if_neg (by decide +kernel), if_neg (by decide +kernel)]
  simp only [h, hc]
  rw [if_neg (by decide +kernel), if_neg (by decide +kernel), if_neg (by decide +kernel), if_neg (by decide +kernel), if_neg (by decide +kernel), if_neg (by decide +kernel)]

/-- A firmware image of 8 bytes of body, SVN 9, under the key of the ROM that is never revoked. -/
def firmware : List Byte := magicNZ 0x46 0x57 ++ [1, 0, 0, 1] ++ leBytes 4 (owned.reg .GLB_PARAM 0).toNat ++ leBytes 4 9 ++ List.replicate 4 0 ++ leBytes 4 8 ++
  List.replicate 240 0 ++ signedBy Key.F1

theorem test_firmware (h : sigVerifies (Config.romKey Key.F1) (slice firmware 0 256) (slice firmware 264 sigLen) = true)
    (hh : sha512 (slice firmware 256 8) = slice firmware 64 64) : owned.fwCheck firmware = Sec.OK := by
  simp only [State.fwCheck]
  rw [show fieldAt firmware 20 4 = 8 by decide +kernel, show sigKey (slice firmware (256 + 8) sigLen) = Key.F1 by decide +kernel,
    show owned.fwPub Key.F1 = some (Config.romKey Key.F1) from if_pos (Or.inr rfl)]
  rw [if_neg (by decide +kernel), if_neg (by decide +kernel)]
  simp only [h, hh]
  rw [if_neg (by decide +kernel), if_neg (by decide +kernel), if_neg (by decide +kernel)]

/-- A FULL harness image with a TIME section alone, under the owner's key 0x102. -/
def harness : List Byte := magicNZ 0x48 0x49 ++ [1, 0, 0, 1] ++ leBytes 4 (owned.reg .GLB_PARAM 0).toNat ++ [1, 0, 0, 0] ++ leBytes 4 16 ++ leBytes 4 1 ++
  List.replicate 16 0 ++ leBytes 4 1 ++ List.replicate 212 0 ++ (leBytes 2 Sect.TIME ++ [1, BitVec.ofNat 8 deviceScope] ++ leBytes 4 8 ++ List.replicate 8 0) ++ signedBy 0x102

theorem test_harness_header (h : sigVerifies [3] (imgHeader harness) (imgSig harness) = true) (hh : sha512 (imgBody harness) = slice harness 64 64) :
    owned.headerCheck false true harness = Load.OK := by
  simp only [State.headerCheck]
  rw [show owned.ownerPub (sigKey (imgSig harness)) Kind.HARNESS = some [3] by decide +kernel]
  rw [if_neg (by decide +kernel), if_neg (by decide +kernel), if_neg (by decide +kernel), if_neg (by decide +kernel)]
  simp only [h, hh]
  rw [if_neg (by decide +kernel), if_neg (by decide +kernel), if_neg (by decide +kernel), if_neg (by decide +kernel)]

theorem test_harness (h : sigVerifies [3] (imgHeader harness) (imgSig harness) = true) (hh : sha512 (imgBody harness) = slice harness 64 64) :
    (owned.verdict false true harness).1 = Load.OK := by
  simp only [State.verdict, test_harness_header h hh]
  rw [if_neg (by decide +kernel)]
  decide +kernel

/-! ### Management -/

theorem test_alertClear : let s := { st [(MGT_ALERT_STATUS.CLASS, 0, 0x203), (GLB_STATE.ALERT, 0, 1)] with mgt := { State.reset.mgt with ibi := [(0, 7, none), (9, 8, none)] } }
    Accepts s fw .MGT_ALERT_STATUS 0 ∧ after (.alertClear fw 3) s (fun t => t.fld MGT_ALERT_STATUS.CLASS 0 == 0x200 && t.flag GLB_STATE.ALERT 0 && t.mgt.ibi == [(9, 8, none)]) = true ∧
    after (.alertClear fw 0x203) s (fun t => !t.flag GLB_STATE.ALERT 0 && t.mgt.ibi == []) = true ∧
    after (.alertClear fw 3) (s.alert 0) (fun t => t.fld MGT_ALERT_STATUS.CLASS 0 == 0x201) = true := by decide +kernel

theorem test_ibi : let s := fun b => { st [(MGT_BUS_STATUS.I3C, 0, 1), (MGT_BUS_STATUS.ENINT, 0, 1)] with
      mgt := { State.reset.mgt with ibi := [(9, 8, b)] }, cycle := cyclesOfUs 100 }
    (s none).ibiReady = true ∧ firstIbi (s none).newIbis = some (9, 8, none) ∧ firstIbi (s (some 0)).newIbis = none ∧
    firstIbi (s (some 0)).dueIbis = some (9, 8, some 0) ∧ firstIbi (s (some 1)).dueIbis = none ∧
    after (.busFree true) (s none) (fun t => t.fld MGT_IBI_SENT.COUNT 0 == 1 && t.mgt.bus.ibiSent == [10, 8, 0, 0] && t.mgt.ibi == []) = true ∧
    after (.ibiRetry false) (s (some 0)) (fun t => t.fld MGT_IBI_NACK.COUNT 0 == 1 && t.mgt.ibi == [(9, 8, some (cyclesOfUs 100))]) = true := by decide +kernel

/-- The password is 77; `n` mismatches lately. -/
def passworded (n : Nat) : State := { st [(SEC_STATUS.UNOWNED, 0, 0), (MGT_BUS_STATUS.ROLE, 0, 2)] with
  sec := { State.reset.sec with pwd := some 77 }, mgt := { State.reset.mgt with fails := List.replicate n 0 } }

theorem test_passwords : let s := passworded 0
    s.offline = false ∧ s.lockedOut = false ∧ s.passwordIs 77 = true ∧ s.passwordIs 78 = false ∧ Role.OPERATOR ≤ s.role .bus ∧ State.reset.role .bus < Role.OPERATOR ∧
    after (.passwordEntry 0) s (fun t => t.fld MGT_BUS_STATUS.ROLE 0 == Role.USER) = true ∧
    after (.passwordEntry 77) s (fun t => t.fld MGT_BUS_STATUS.ROLE 0 == Role.OPERATOR) = true ∧
    after (.passwordEntry 78) s (fun t => t.fld MGT_BUS_STATUS.ROLE 0 == Role.USER && t.fld MGT_PWD_FAIL.COUNT 0 == 1 && !t.mgt.lockout) = true ∧
    after (.passwordEntry 78) (passworded 7) (fun t => t.mgt.lockout && t.flag GLB_STATE.ALERT 0) = true ∧
    { s with mgt := { s.mgt with lockout := true, lockEnd := 9 } }.lockedOut = true ∧ { s with mgt := { s.mgt with lockout := true } }.lockedOut = false ∧
    after (.passwordEntry 78) { s with mgt := { s.mgt with lockout := true, lockEnd := 9 } } (fun t =>
      t == { s with mgt := { s.mgt with lockout := true, lockEnd := 9 } }) = true ∧
    after (.passwordSet 5) s (fun t => t.sec.pwd == some 5) = true ∧ after (.mgtOpPwd fw 5) s (fun t => t.sec.pwd == some 5) = true ∧
    after .lockoutEnd { s with mgt := { s.mgt with lockout := true } } (fun t => !t.mgt.lockout) = true ∧
    after (.passwordEntry 78) (passworded 7) (fun t => t.mgt.lockEnd == cyclesOfUs 10000000 && after .lockoutEnd t (fun u => u == t)) = true := by decide +kernel

theorem test_busChallenge : let s := passworded 0
    let late := { s with cycle := cyclesOfUs 60000000 }
    Accepts s fw .MGT_OP_PWD 0 ∧ Accepts s .bus .MGT_AUTH_CTRL 0 ∧ Accepts s .bus .MGT_AUTH_DATA 0 ∧ s.verifyBus = (Sec.EXPIRED, none) ∧
    after (.drop .bus) s (fun t => t.fld MGT_BUS_STATUS.ROLE 0 == Role.USER) = true ∧
    after (.authVerify .bus) (s.setFld GLB_STATE.HEADLESS 0 1) (fun t => t.fld MGT_AUTH_STATUS.RESULT 0 == Sec.BUSY) = true ∧
    after (.authVerify .bus) s (fun t => t.fld MGT_AUTH_STATUS.RESULT 0 == Sec.EXPIRED && t.fld MGT_PWD_FAIL.COUNT 0 == 0) = true ∧
    (s.setFld MGT_AUTH_STATUS.NONCE_VALID 0 1).verifyBus = (Sec.LENGTH, none) ∧
    (late.setFld MGT_AUTH_STATUS.NONCE_VALID 0 1).verifyBus = (Sec.EXPIRED, none) ∧
    after (.authVerify .bus) (s.setFld MGT_AUTH_STATUS.NONCE_VALID 0 1) (fun t => t.fld MGT_AUTH_STATUS.RESULT 0 == Sec.LENGTH && t.fld MGT_PWD_FAIL.COUNT 0 == 1) = true ∧
    after (.authDataWrite .bus 0x04030201) s (fun t => t.mgt.authData == [1, 2, 3, 4] && t.fld MGT_AUTH_STATUS.DATA_LEN 0 == 4) = true ∧
    late.mgt.nonceAt + cyclesOfUs 60000000 ≤ late.cycle ∧ late.sec.nonceAt + cyclesOfUs 60000000 ≤ late.cycle ∧
    after (.nonceExpiry true) { s.setFld MGT_AUTH_STATUS.NONCE_VALID 0 1 with cycle := cyclesOfUs 59000000 } (fun t => t.flag MGT_AUTH_STATUS.NONCE_VALID 0) = true ∧
    after (.nonceExpiry true) (late.setFld MGT_AUTH_STATUS.NONCE_VALID 0 1) (fun t => !t.flag MGT_AUTH_STATUS.NONCE_VALID 0) = true ∧
    after (.nonceExpiry false) (late.setFld SEC_KEY_STATUS.NONCE_VALID 0 1) (fun t => !t.flag SEC_KEY_STATUS.NONCE_VALID 0) = true := by decide +kernel

/-! ### Registers by address -/

/-- The address of a register's word. -/
def addr (r : Reg) (i w : Nat) : Word32 := BitVec.ofNat 32 (regAddr r i w)

theorem test_addresses : regAt (addr .PMC_PRESET 127 1).toNat = some (.PMC_PRESET, 127, 1) ∧ regAt (addr .TSK_RULE 31 0).toNat = some (.TSK_RULE, 31, 0) ∧
    regAt (addr .EVL_FIRST_RANGE 0 0).toNat = some (.EVL_FIRST_RANGE, 0, 0) ∧ regAt 0xFFFFFFFC = none ∧ regAt 1 = none ∧
    storeWindow 0x10000000 = some 18 ∧ storeWindow 0x1013FFFC = some 19 ∧ storeWindow 0x10140000 = none ∧ storeWindow 0xFFFFFFFC = none := by decide +kernel

theorem test_accessViolation : let s := State.reset
    InTurn s .bus (addr .PMC_PRESET 0 0) 9 ∧ s.role .bus < s.neededRole .PMC_PRESET ∧ Room s ∧
    after (.registerWrite .bus (addr .PMC_PRESET 0 0) 9) s (fun t => t.fld MGT_ACCESS_VIOL.COUNT 0 == 1 && same [(.MGT_ACCESS_VIOL, 0)] s t &&
      logged Evt.ACCESS_VIOL Subj.REGISTER (regAddr .PMC_PRESET 0 0 % 2 ^ 16) [s.pathWord .bus, s.role .bus, 9] s t) = true := by decide +kernel

theorem test_wideWrites : let s := State.reset
    InTurn s fw (addr .PMC_PRESET 3 0) 5 ∧ InTurn s fw (addr .PMC_PRESET 3 1) 0x1234 ∧ 1 < Reg.words .PMC_PRESET ∧ Reg.PMC_PRESET ∈ plainWide ∧ Accepts s fw .PMC_PRESET 3 ∧
    after (.stagedWordWrite fw (addr .PMC_PRESET 3 1) 0x1234) s (fun t => t.fld PMC_PRESET.PRESET 3 == 0 && wordOf (t.stagedOf (.PMC_PRESET, 3)).1 1 == 0x1234 &&
      match exec (.wideRegisterCommit fw (addr .PMC_PRESET 3 0) 5) t with
        | .next u => u.fld PMC_PRESET.PRESET 3 == 0x123400000005 && u.stagedOf (.PMC_PRESET, 3) == (0, 0) && u.lastCommit (.PMC_PRESET, 3) == 0x123400000005 &&
          after (.registerWrite fw (addr .PMC_PRESET 3 0) 6) u (fun v => v.fld PMC_PRESET.PRESET 3 == 0x123400000006)
        | _ => false) = true := by decide +kernel

theorem test_registerWrites : let s := st [(HKA_STREAM_RD.RD, 2, 1)]
    Reg.MGT_IBI_EN ∈ plainRegs ∧ Accepts s fw .MGT_IBI_EN 0 ∧
    after (.registerWrite fw (addr .MGT_IBI_EN 0 0) 0xFFFFFF05) s (fun t => t.fld MGT_IBI_EN.EN 0 == 0x305 && same [(.MGT_IBI_EN, 0)] s t) = true ∧
    after (.registerWrite fw 0xFFFFFFFC 9) s (fun t => t.fld MGT_BAD_ADDR.COUNT 0 == 1) = true ∧
    after (.registerWrite .bus 0x10000000 9) s (fun t => t.fld MGT_ACCESS_VIOL.COUNT 0 == 1 && t.memByte 0x10000000 == 0) = true ∧
    InTurn s fw (addr .MGT_IBI_EN 0 0) 5 ∧ InTurn s fw 0xFFFFFFFC 9 ∧ InTurn s .bus 0x10000000 9 ∧
    wideWord (addr .PMC_PRESET 3 1).toNat = some 1 ∧ wideWord 0xFFFFFFFC = none ∧
    after (.wideRegisterCommit fw (addr .PMC_PRESET 3 1) 9) s (fun t => t == s) = true ∧
    after (.registerWrite fw (addr .MGT_IBI_EN 0 0) 5) { s with pwr := { sleep := 2 } } (fun t => t.fld MGT_IBI_EN.EN 0 == 0x3FF) = true := by decide +kernel

theorem test_writeOrder : let a := addr .MGT_IBI_EN 0 0
    let s := { State.reset with pending := [.registerWrite .bus a 1] }
    s.early.contains (fw, a.toNat, 5) = false ∧ s.pathRank .bus < s.pathRank fw ∧ s.writesBefore fw a.toNat = [(.bus, a.toNat, 1)] ∧
    after (.registerWrite fw a 5) s (fun t => t.fld MGT_IBI_EN.EN 0 == 5 && t.early == [(.bus, a.toNat, 1)] &&
      after (.registerWrite .bus a 1) t (fun u => u.fld MGT_IBI_EN.EN 0 == 5 && u.early == [])) = true := by decide +kernel

theorem test_registerReads : let s := st [(PMC_PRESET.PRESET, 3, 0x123400000005), (PWR_SUPPLY.SINCE, 0, 3)]
    capturedElsewhere .EVL_FIRST_RANGE 0 = true ∧ capturedElsewhere .PMC_PRESET 3 = false ∧ s.offline = false ∧
    after (.wideRegisterRead fw (addr .PMC_PRESET 3 0)) s (fun t => t.mgt.read == 5 && wordOf (t.captureOf (.PMC_PRESET, 3)) 1 == 0x1234 && same [] s t) = true ∧
    after (.wideRegisterRead fw (addr .PWR_SUPPLY 0 0)) s (fun t => t.mgt.read == 3 * 65536 && t.fld PWR_SUPPLY.SINCE 0 == 0) = true ∧
    after (.wideRegisterRead fw 0xFFFFFFFC) s (fun t => t.mgt.read == 0 && t.fld MGT_BAD_ADDR.COUNT 0 == 1) = true ∧
    after (.wideRegisterRead .bus 0x10100000) s (fun t => t.mgt.read == 0 && t.fld EVL_READ_DENIED.COUNT 0 == 1) = true := by decide +kernel

theorem test_thresholds : let s := State.reset
    regAt (addr .LFEC_SD 15 0).toNat = some (.LFEC_SD, 15, 0) ∧ Accepts s fw .LFEC_SD 15 ∧ fieldOf 0x00050005 LFEC_SD.SD_SET = 5 ∧ fieldOf 0x00050005 LFEC_SD.SD_CLR = 5 ∧
    after (.registerWrite fw (addr .LFEC_SD 15 0) 0x00050005) s (fun t => t.fld LFEC_SD.SD_SET 15 == 5000 && t.recorder.queue.length == 1) = true ∧
    (after (.registerWrite fw (addr .LFEC_SD 15 0) 0x00060005) s (fun t => t.reg .LFEC_SD 15 == 0x00060005) ||
      after (.registerWrite fw (addr .LFEC_SD 15 0) 0x00050006) s (fun t => t.reg .LFEC_SD 15 == 0x00050006)) = true := by decide +kernel

/-! ### The two-wire bus -/

/-- On the bus as an I3C target. -/
def i3c : State := st [(MGT_BUS_STATUS.I3C, 0, 1), (MGT_BUS_STATUS.STATIC_ADDR, 0, 0x52), (MGT_ALERT_STATUS.CLASS, 0, 5), (GLB_STATE.ALERT, 0, 1)]

/-- The command is acknowledged or not, with these bytes. -/
def answers (c : Instr) (s : State) (ack : Bool) (bs : List Byte) : Bool := after c s fun t => t.mgt.bus.ack == ack && t.mgt.bus.reply == bs

theorem test_ccc : i3c.offline = false ∧ State.reset.flag MGT_BUS_STATUS.I3C 0 = false ∧
    answers .unsupportedCcc i3c false [] = true ∧ answers .getbcr State.reset false [] = true ∧ answers (.entdaa 9) i3c false [] = true ∧
    after (.setdasa 9) State.reset (fun t => t.flag MGT_BUS_STATUS.I3C 0 && t.fld MGT_BUS_STATUS.DYN_ADDR 0 == 9 && t.mgt.bus.ack) = true ∧
    after (.setnewda 10) i3c (fun t => t.fld MGT_BUS_STATUS.DYN_ADDR 0 == 10) = true ∧ after .rstdaa i3c (fun t => !t.flag MGT_BUS_STATUS.I3C 0) = true ∧
    after (.enec 1) i3c (fun t => t.flag MGT_BUS_STATUS.ENINT 0) = true ∧ answers (.enec 2) i3c false [] = true ∧ answers (.disec 0) i3c true [] = true := by decide +kernel

/-- The provisioned ID: 0x1A5B, type 0, 0x6416, instance 2, 0x0A1. -/
theorem test_ccc_reads : answers .getpid i3c true [0x34, 0xB6, 0x64, 0x16, 0x20, 0xA1] = true ∧ answers .getbcr i3c true [6] = true ∧ answers .getdcr i3c true [0] = true ∧
    answers .getmwl i3c true [1, 0] = true ∧ answers .getmrl i3c true [1, 0, 4] = true ∧ answers .getmxds i3c true [0, 0x20] = true ∧
    answers .getstatus i3c true [0, 2] = true ∧ after (.setmwl 16) i3c (fun t => t.mgt.bus.mwl == 16) = true ∧ answers (.setmrl 15) i3c false [] = true := by decide +kernel

theorem test_asleep_bus : ({ i3c with pwr := { sleep := 1 } } : State).offline = true ∧ answers .getpid { i3c with pwr := { sleep := 1 } } false [] = true ∧
    answers (.winAddrCommit 4) { i3c with pwr := { sleep := 1 } } false [] = true := by decide +kernel

/-- Upper page 0xB1, the first of the vendor window, its base at MGT_IBI_EN. -/
def windowed : State := { i3c with mgt := { i3c.mgt with cmis := [(127, 0xB1)], win := { i3c.mgt.win with base := regAddr .MGT_IBI_EN 0 0 } } }

theorem test_window : windowed.cmisPage = 0xB1 ∧ windowed.mgt.win.staged = [] ∧ regAt (windowed.mgt.win.wordAddr 0) = some (.MGT_IBI_EN, 0, 0) ∧
    windowed.role .bus < windowed.neededRole .MGT_IBI_EN ∧ Accepts (windowed.setFld MGT_BUS_STATUS.ROLE 0 3) .bus .MGT_IBI_EN 0 ∧
    after (.twoWireWrite 129 [5] false) windowed (fun t => t.fld MGT_BAD_ADDR.COUNT 0 == 1) = true ∧
    after (.winAddrCommit 8) windowed (fun t => t.mgt.win.base == 8 && !t.mgt.win.ready) = true ∧
    after (.winAddrCommit 9) windowed (fun t => t.mgt.win.rej && t.mgt.win.base == windowed.mgt.win.base) = true := by decide +kernel

theorem test_windowRefresh : let s := { windowed with mgt := { windowed.mgt with win := { windowed.mgt.win with ready := false } } }
    windowed.mgt.win.ready = true ∧ after .windowFetchDone windowed (fun t => t == windowed) = true ∧ after .windowRefresh s (fun t => t == s) = true ∧
    after .winRefresh s (fun t => t.mgt.win == s.mgt.win) = true := by decide +kernel

theorem test_cmisBytes : pageOk 0xC0 0 = false ∧ pageOk 0 0 = true ∧ i3c.mgt.bus.offset = 0 ∧
    after (.twoWireWrite 126 [3] true) i3c (fun t => t.cmisHeld 126 == 3 && t.mgt.bus.offset == 127 && t.mgt.bus.protoErr) = true ∧
    after (.twoWireWrite 40 [] false) i3c (fun t => t.mgt.bus.offset == 40 && same [] i3c t) = true ∧
    after (.twoWireWrite 128 [3] false) { i3c with mgt := { i3c.mgt with cmis := [(127, 0xC0)] } } (fun t => t.fld MGT_BAD_ADDR.COUNT 0 == 1) = true ∧
    after (.latchedFlagRead 1 4) i3c (fun t => t.fld MGT_ALERT_STATUS.CLASS 0 == 1 && t.mgt.bus.reply == [i3c.lowerByte 0] && t.mgt.bus.offset == 1) = true := by decide +kernel

/-- A loss of signal of lane 1 of bank 1 (byte 136 of page 11h), one of lower memory (byte 9), and a byte that holds no flags. -/
def losFlag : CmisFlag := ⟨some 1, 136, 2⟩
def lowFlag : CmisFlag := ⟨none, 9, 4⟩

theorem test_cmisFlags : flagAt losFlag = true ∧ flagAt lowFlag = true ∧ flagAt ⟨some 1, 154, 2⟩ = false ∧ flagAt ⟨none, 14, 2⟩ = false ∧
    after (.cmisMonitorRefresh [losFlag, lowFlag]) i3c (fun t => (t.fld MGT_ALERT_STATUS.CLASS 0).testBit Alert.CMIS && t.flag GLB_STATE.ALERT 0 &&
      t.cmisHeld (cmisKey 0x11 1 136) == 2 && t.cmisHeld 9 == 4) = true ∧
    after (.cmisMonitorRefresh [losFlag]) (i3c.cmisHold (cmisKey 0x10 1 215) 2) (fun t => t.cmisHeld (cmisKey 0x11 1 136) == 2 &&
      !(t.fld MGT_ALERT_STATUS.CLASS 0).testBit Alert.CMIS) = true ∧
    after (.latchedFlagRead 1 0) { i3c.cmisHold 9 4 with mgt := { i3c.mgt with cmis := [(9, 4)], bus := { i3c.mgt.bus with offset := 9 } } } (fun t =>
      t.mgt.bus.reply == [4] && t.cmisHeld 9 == 0) = true := by decide +kernel

/-- The window's mirror holds 0x04030201 in its first word; a capture of that word has another third byte. -/
def mirrored (off : Nat) : State := { windowed with mgt := { windowed.mgt with
    bus := { windowed.mgt.bus with offset := off }
    win := { windowed.mgt.win with mirror := [0x04030201], caps := [(0, 0x04990201)] } } }

theorem test_windowCaps : pageOk (mirrored 128).cmisPage (mirrored 128).cmisBank = true ∧
    after (.latchedFlagRead 1 0) (mirrored 128) (fun t => t.mgt.bus.reply == [1] && t.mgt.bus.offset == 129) = true ∧
    after (.latchedFlagRead 1 0) (mirrored 130) (fun t => t.mgt.bus.reply == [0x99]) = true := by decide +kernel

theorem test_cmisMonitors : after (.cmisMonitorRefresh [lowFlag]) (i3c.setFld GLB_STATE.HEADLESS 0 1) (fun t => t.fld MGT_ALERT_STATUS.CLASS 0 == 5 && t.cmisHeld 9 == 0) = true ∧
    i3c.advertised 9 15 = false ∧ after (.applicationSelect 9 15) i3c (fun t => t.cmisNibble 0x11 1 202 1 == 3 && same [] i3c t) = true ∧
    after (.applicationSelect 9 3) (i3c.setFld GLB_STATE.HEADLESS 0 1) (fun t => t.mgt.cmisLater.length == 2) = true := by decide +kernel

/-! ### Causeway -/

/-- Port 2, of one host lane, hears its host and carries Causeway. -/
def ported2 : State := st [(HPM_PORT_CFG.VALID, 2, 1), (HPM_PORT_CFG.RATE, 2, 1), (HSI_STATUS.RX_STATE, 2, HRx.LOCKED), (HPM_PORT_CFG.FLAGS, 2, 1)]
def via2 : Via := .eth 2 0x112233445566

/-- A request without session or trailer. -/
def req (type : Nat) (body : List Byte) : List Byte := cwMake type 0 0 9 body []

/-- What the port sent last is this reply. -/
def replied (c : Instr) (s : State) (type status : Nat) (body : List Byte) : Bool := after c s fun t =>
  Tab.get (fun _ => (0, [])) t.mgt.eth 2 == (0x112233445566, cwMake (128 + type) status 0 9 body []) && t.fld MGT_CW_RX.COUNT 0 == 1 && t.fld MGT_CW_TX.COUNT 0 == 1

theorem test_cwReads : let m := req Cw.READ (leBytes 4 (regAddr .MGT_IBI_EN 0 0))
    Arrives ported2 via2 m m ∧ Arrives ported2 via2 (m ++ [0, 0]) m ∧ cwTunnel m = false ∧ cwSession m = 0 ∧ cwAuth m = false ∧
    replied (.read via2 m) ported2 Cw.READ CwSt.OK (leBytes 4 (regAddr .MGT_IBI_EN 0 0) ++ [0xFF, 3, 0, 0]) = true ∧
    replied (.read via2 (req Cw.READ [1])) ported2 Cw.READ CwSt.BAD_LEN [] = true ∧
    replied (.readBlock via2 (req Cw.READ_BLOCK (leBytes 4 (regAddr .MGT_IBI_EN 0 0) ++ [1, 0, 0, 0]))) ported2 Cw.READ_BLOCK CwSt.OK
      (leBytes 4 (regAddr .MGT_IBI_EN 0 0) ++ [1, 0, 0, 0, 0xFF, 3, 0, 0]) = true ∧
    replied (.readBlock via2 (req Cw.READ_BLOCK (List.replicate 8 0))) ported2 Cw.READ_BLOCK CwSt.BAD_LEN [] = true := by decide +kernel

theorem test_cwWrites : let b := leBytes 4 (regAddr .MGT_IBI_EN 0 0)
    let u := ported2.count MGT_CW_RX.COUNT 0
    rebooted u (u.writeAt (viaPath via2) (regAddr .MGT_IBI_EN 0 0) 5).1 = false ∧
    replied (.write via2 (req Cw.WRITE (b ++ [5, 0, 0, 0]))) ported2 Cw.WRITE CwSt.DENIED b = true ∧
    replied (.write via2 (req Cw.WRITE b)) ported2 Cw.WRITE CwSt.BAD_LEN [] = true ∧
    rebooted u (u.writeWords (viaPath via2) (regAddr .MGT_IBI_EN 0 0) [5]).2.2 = false ∧
    replied (.writeBlock via2 (req Cw.WRITE_BLOCK (b ++ [1, 0, 0, 0, 5, 0, 0, 0]))) ported2 Cw.WRITE_BLOCK CwSt.DENIED (b ++ [0, 0, 0, 0]) = true ∧
    replied (.writeBlock via2 (req Cw.WRITE_BLOCK b)) ported2 Cw.WRITE_BLOCK CwSt.BAD_LEN [] = true ∧
    replied (.imageChunk via2 (req Cw.IMAGE_CHUNK (List.replicate 5 0))) ported2 Cw.IMAGE_CHUNK CwSt.DENIED (List.replicate 8 0) = true := by decide +kernel

/-- The state with the SPDM exchange this far. -/
def spdm (k : Nat) : State := { ported2 with sec := { ported2.sec with spdm := k } }

theorem test_attest : spdmCode (cwBody (req Cw.ATTEST [0x10, 0x84, 0, 0])) = Spdm.GET_VERSION ∧
    replied (.getVersion via2 (req Cw.ATTEST [0x10, 0x84, 0, 0])) (spdm 0) Cw.ATTEST CwSt.OK versionResponse = true ∧
    after (.getCapabilities via2 (req Cw.ATTEST [0x12, 0xE1, 0, 0])) (spdm 1) (fun t => t.sec.spdm == 2) = true ∧
    replied (.getDigests via2 (req Cw.ATTEST [0x12, 0x81, 0, 0])) (spdm 1) Cw.ATTEST CwSt.OK (spdmError SpdmErr.UNEXPECTED) = true ∧
    replied (.unsupportedRequest via2 (req Cw.ATTEST [0x12, 0xFF, 0, 0])) (spdm 3) Cw.ATTEST CwSt.OK (spdmError SpdmErr.UNSUPPORTED) = true ∧ (spdm 3).sec.spdm = 3 ∧
    ([0x81, 0x82, 0x83, 0xE0].all fun k => decide (spdmCode (cwBody (req Cw.ATTEST [0x12, k, 0, 0])) = k.toNat)) = true := by decide +kernel

/-- NEGOTIATE_ALGORITHMS offering ECDSA P-521 and SHA-512 among others. -/
theorem test_algorithms : let b : List Byte := [0x12, 0xE3, 0, 0] ++ List.replicate 28 0xFF
    algorithmsFit b = true ∧ after (.negotiateAlgorithms via2 (req Cw.ATTEST b)) (spdm 2) (fun t => t.sec.spdm == 3) = true := by decide +kernel

theorem test_keyExchange : let m := req Cw.SESSION ([1, 0, 0, 0] ++ List.replicate 32 0 ++ [4] ++ List.replicate 135 0)
    cwOp m = 1 ∧ (cwBody m).length = 172 ∧ byteAt (cwBody m) 36 = 4 ∧ allZero (slice (cwBody m) 169 3) = true ∧ ported2.sec.ak = false ∧
    replied (.keyExchange via2 m) ported2 Cw.SESSION CwSt.DENIED [] = true ∧ (∀ k : Fin 4, ported2.flag MGT_SESSION.OPEN k = false) := by decide +kernel

/-- Session 0 is open as number 0x77. -/
def opened (done : Bool) (role : Nat) : State := { ported2.setFld MGT_SESSION.OPEN 0 1 |>.setFld MGT_SESSION.NUMBER 0 0x77 |>.setFld MGT_SESSION.ROLE 0 role |>.setFld GLB_STATE.BOOT 0 5 with
  mgt := { ported2.mgt with sess := [(0, { via := via2, kReq := [1], kRsp := [2], done := done, rx := 8 })] } }

/-- A request of session 0x77 with `TAG` 9; its trailer is given. -/
def signed (type : Nat) (body tr : List Byte) : List Byte :=
  ascii [1, type, 1, 0] ++ leBytes 2 body.length ++ ascii [255, 0] ++ leBytes 2 0x77 ++ [0, 0] ++ leBytes 4 9 ++ body ++ tr

theorem test_session : let m := signed Cw.READ [0, 0, 0, 0] (List.replicate 32 0)
    Arrives (opened true 0) via2 m m ∧ cwTunnel m = false ∧ cwSession m = 0x77 ∧ (opened true 0).sessionAt 0x77 = some 0 ∧ ported2.sessionAt 0x77 = none ∧
    after (.read via2 m) ported2 (fun t => Tab.get (fun _ => (0, [])) t.mgt.eth 2 == (0x112233445566, cwMake 129 CwSt.NO_SESSION 0x77 9 [] [])) = true := by decide +kernel

/-- Where the trailer is the right one, a message is authentic. -/
theorem test_authentic (m : List Byte) (hm : m = signed Cw.SESSION [3] (List.replicate 32 0)) (h : cwTrailer m = hmac256 [1] (cwSigned m)) :
    (opened true 0).cwAuthentic 0 m = true := by
  subst hm
  simp only [State.cwAuthentic, show ((opened true 0).sessOf 0).kReq = [1] by decide +kernel, h]
  decide +kernel

theorem test_session_requests : cwOp (signed Cw.SESSION [3] []) = 3 ∧ cwOp (signed Cw.SESSION [4, 0, 0, 0, 1, 0, 0, 0] []) = 4 ∧
    (opened true 3).role (.session 0) = Role.ADMIN ∧ (opened true 3).loadBusy = false ∧ (opened true 3).fld HRN_LOAD_COUNT.COUNT 0 = 0 ∧
    (let b := cwBody (signed Cw.SESSION ([2, 3, 0, 0] ++ List.replicate 168 0) []); b.length = 172 ∧ byteAt b 1 = Role.ADMIN ∧ allZero (slice b 2 2) = true) := by decide +kernel

theorem test_authFail : let m := cwMake Cw.READ 0 0x77 9 [0, 0, 0, 0] []
    (opened true 0).cwAuthentic 0 m = false ∧ Arrives (opened true 0) via2 m m := by decide +kernel

theorem test_sessionEnd : after (.sessionIdleTimeout 0) (opened true 3) (fun t => t == opened true 3) = true ∧
    after (.sessionIdleTimeout 0) { opened true 3 with cycle := cyclesOfUs 300000000 } (fun t => !t.flag MGT_SESSION.OPEN 0 && t.role (.session 0) == Role.USER) = true ∧
    after (.notifySend 0) (opened true 3) (fun t => t == opened true 3) = true := by decide +kernel

theorem test_notify : let s := { opened true 3 with mgt := { (opened true 3).mgt with notify := [{ due := some (4, none) }, {}, {}, {}] } }
    (s.mgt.notify.getD 0 {}).due = some (4, none) ∧ (s.sessOf 0).done = true ∧ (s.sessOf 0).notified = none ∧ s.headless = false ∧ s.offline = false ∧
    after (.notifySend 0) { s with mgt := { s.mgt with sess := [(0, { via := via2 })] } } (fun t => (t.mgt.notify.getD 0 {}).due == some (4, none)) = true ∧
    after (.notifySend 0) { s with mgt := { s.mgt with sess := [(0, { via := .tunnel 5 })] } } (fun t => (t.mgt.notify.getD 0 {}).due == none) = true := by decide +kernel

/-- Host lane 0 in Cinch service, LOCKED, with a message of 29 bytes begun. -/
def fragmented (r : Option Reassembly) : State := (st [(HSI_CFG.SVC, 0, Svc.CINCH), (HSI_STATUS.RX_STATE, 0, HRx.LOCKED)]).modHsi 0 fun x => { x with frag := r }

def fragment (f n : Nat) : List Byte := [2, BitVec.ofNat 8 f, BitVec.ofNat 8 n] ++ List.replicate 29 7

theorem test_fragments : let s := fragmented (some { bytes := List.replicate 29 7, next := 1 })
    s.viaUp (.cinch 0) = true ∧ byteAt (fragment 1 29) 0 = 2 ∧
    after (.causewayFragment 0 (fragment 1 29)) (fragmented none) (fun t => t == fragmented none) = true ∧
    after (.causewayFragment 0 (fragment 128 29)) (fragmented none) (fun t => (t.hsiOf 0).frag == some { bytes := List.replicate 29 7, next := 1 }) = true ∧
    after (.causewayFragment 0 (fragment 128 29)) s (fun t => t.fld MGT_CW_BAD.COUNT 0 == 1 && ((t.hsiOf 0).frag.map fun r => r.next) == some 1) = true ∧
    after (.causewayFragment 0 (fragment 2 29)) s (fun t => (t.hsiOf 0).frag == none && t.fld MGT_CW_BAD.COUNT 0 == 1) = true ∧
    after (.causewayFragment 0 (fragment 1 30)) s (fun t => (t.hsiOf 0).frag == none) = true ∧
    after (.causewayFragment 0 (fragment 1 29)) s (fun t => ((t.hsiOf 0).frag.map fun r => (r.bytes.length, r.next)) == some (58, 2)) = true ∧
    after (.causewayFragment 0 (fragment 65 29)) s (fun t => (t.hsiOf 0).frag == none) = true := by decide +kernel

theorem test_frames : let d := BitVec.ofNat 48 (ported2.fld MGT_CW_MAC.MAC 0)
    let s := ported2.setFld GLB_STATE.HEADLESS 0 1
    ported2.viaUp via2 = true ∧ State.reset.viaUp via2 = false ∧
    after (.causewayFrameExtract 2 (d + 1) 0x112233445566 []) ported2 (fun t => t == ported2) = true ∧
    after (.causewayFrameExtract 2 d 0x112233445566 []) ported2 (fun t => t.fld MGT_CW_BAD.COUNT 0 == 1 && same [(.MGT_CW_BAD, 0)] ported2 t) = true ∧
    (let m := (req Cw.READ [0, 0, 0, 0]).set 3 1; cwOk true m = false ∧ after (.causewayFrameExtract 2 d 0x112233445566 m) ported2 (fun t =>
      t.fld MGT_CW_BAD.COUNT 0 == 1 && t.fld MGT_CW_TX.COUNT 0 == 1)) = true ∧
    replied (.causewayFrameExtract 2 d 0x112233445566 (req Cw.IMAGE_CHUNK [0, 0, 0, 0, 0])) s Cw.IMAGE_CHUNK CwSt.BUSY [] = true ∧
    after (.causewayFrameExtract 2 d 0x112233445566 (req Cw.READ [0, 0, 0, 0])) s (fun t => t.mgt.held.length == 1) = true := by decide +kernel

/-- Node 5 lies at the far end of lane 4. -/
def tunnelled : State := ((ported2.setFld MGT_CW_CFG.TUNNEL_EN 0 1).setFld LRX_STATUS.STATE 4 Lrx.LOCKED).modTlane 4 fun x => { x with farNode := some 5 }

/-- A READ for the device on the far side of a lane. -/
def farRead (lane : Nat) : List Byte := ((req Cw.READ [0, 0, 0, 0]).set 2 2).set 6 (BitVec.ofNat 8 lane)

theorem test_tunnelRequest : let q : TunReq := { node := 5, via := via2, type := Cw.READ, session := 0, tag := 9 }
    Arrives tunnelled via2 (farRead 4) (farRead 4) ∧ cwTunnel (farRead 4) = true ∧ cwLane (farRead 4) = 4 ∧ tunnelled.tunnelNode 4 = some 5 ∧ tunnelled.tunnelNode 3 = none ∧
    after (.tunnelRequest via2 (farRead 4)) tunnelled (fun t => t.mgt.tunReq == [q] && (t.mgt.tun.map fun x => x.node) == [5] && t.fld MGT_CW_RX.COUNT 0 == 1) = true ∧
    replied (.tunnelRequest via2 (farRead 3)) tunnelled Cw.READ CwSt.UNREACHABLE [] = true ∧
    replied (.tunnelRequest via2 (farRead 4)) { tunnelled with mgt := { tunnelled.mgt with tunReq := [q] } } Cw.READ CwSt.BUSY [] = true := by decide +kernel

theorem test_tunnelReply : let s := { tunnelled with mgt := { tunnelled.mgt with tunReq := [{ node := 5, via := via2, type := Cw.READ, session := 0, tag := 9 }] } }
    let m := cwMake 129 0 0 9 [1] []
    s.viaUp (.tunnel 5) = true ∧ s.headless = false ∧ cwType m = 128 + Cw.READ ∧ cwTag m = 9 ∧
    after (.tunnelReply 5 m) s (fun t => t.mgt.tunReq == [] && Tab.get (fun _ => (0, [])) t.mgt.eth 2 == (0x112233445566, m)) = true ∧
    after (.tunnelReply 5 m) tunnelled (fun t => t.fld MGT_TUN_DISC.COUNT 0 == 1) = true ∧
    after (.tunnelTimeout 5) s (fun t => t == s) = true ∧ after (.tunnelTimeout 5) { s with cycle := cyclesOfUs 10000 } (fun t => t.mgt.tunReq == [] && t.fld MGT_CW_TX.COUNT 0 == 1) = true ∧ after (.tunnelTimeout 6) s (fun t => t == s) = true := by decide +kernel

theorem test_causewayWord : let w := fun k : Nat => BitVec.ofNat 44 (k * 2 ^ 34 + 3 * 2 ^ 32 + 0x01020304)
    tunnelled.locked 4 = true ∧ tunnelled.ieee 4 = false ∧ tunnelled.mgt.tunRx = [] ∧ after (.causewayWordReceived 4 (w 0)) (tunnelled.setFld MGT_CW_CFG.TUNNEL_EN 0 0) (fun t => t.fld MGT_TUN_DISC.COUNT 0 == 1) = true ∧
    after (.causewayWordReceived 4 (w 0)) tunnelled (fun t => t.mgt.tunRx == [{ node := 5, frags := [(0, [1, 2, 3, 4])] }]) = true ∧
    after (.causewayWordReceived 4 (w 268)) tunnelled (fun t => t.fld MGT_TUN_DISC.COUNT 0 == 1 && t.mgt.tunRx == []) = true := by decide +kernel

/-! ### The queue, the clock and the invariants -/

theorem test_step : (match step { State.reset with pending := [.wakePatternDetect 3, .sourceLoss] } with
    | .next t => t.pending == [.sourceLoss]
    | _ => false) = true := by decide +kernel

theorem test_withFetchWord : decodeTableWord 32 0 = none ∧ State.reset.withFetchWord 32 0 = State.reset := by decide +kernel

theorem test_tick : (match step { State.reset with frameTimer := 19119, interval := 3839, risen := [((.MGT_ALERT_STATUS, 0), 1)], early := [(.bus, 4, 0)], regs := (st [(CLK_STATUS.REF_PRESENT, 0, 1)]).regs } with
    | .next t => t.frameTimer == 0 && t.interval == 0 && t.cycle == 1 && t.risen == [] && t.early == []
    | _ => false) = true ∧ State.reset.offline = false ∧ ({ State.reset with pwr := { sleep := 1 } } : State).offline = true := by decide +kernel

/-- 8,192 × 2^40 ÷ 25 units of 2^-48 ns: 1.28 ns in a core cycle. -/
theorem test_tick_time : (match step State.reset with
    | .next t => t.time.sub == 2 ^ 53 / 25
    | _ => false) = true := by decide +kernel

theorem test_canonical : State.reset.canonical := by
  simp only [State.canonical]
  decide +kernel

theorem test_inRange : InRange State.reset ∧ InRange { State.reset with frameTimer := 19119 } ∧ ¬InRange { State.reset with frameTimer := 19120 } ∧
    InRange { State.reset with interval := 3839 } ∧ ¬InRange { State.reset with interval := 3840 } := by
  simp only [InRange]
  decide +kernel

/-! ### Well-formed commands -/

theorem test_wellFormed_codewords : (Instr.outerCodewordDecoded 0 (List.replicate 544 0)).wellFormed = true ∧ (Instr.outerCodewordDecoded 0 []).wellFormed = false ∧
    (Instr.hostCodewordDecoded 0 (List.replicate 544 0)).wellFormed = true ∧ (Instr.hostCodewordDecoded 0 (List.replicate 545 0)).wellFormed = false ∧
    (Instr.hostCellReceived 0 0 0 (List.replicate 640 0) (List.replicate 30 0)).wellFormed = true ∧
    (Instr.hostCellReceived 0 0 0 (List.replicate 640 0) []).wellFormed = false ∧ (Instr.hostCellReceived 0 0 0 [] (List.replicate 30 0)).wellFormed = false ∧
    (Instr.granuleReceived 0 true 0 (List.replicate 640 0)).wellFormed = true ∧ (Instr.granuleReceived 0 true 0 []).wellFormed = false ∧
    (Instr.framingBlockReceived 0 (List.replicate 34 (1, 0))).wellFormed = true ∧ (Instr.framingBlockReceived 0 (List.replicate 33 (1, 0))).wellFormed = false := by
  decide +kernel

/-- A frame of these samples. -/
def observed (samples : List Int) : RxObs := ⟨samples, 0, 1, 0, 0, 0, 0, 0, 0⟩

theorem test_wellFormed_frame (n : Nat) (h : n = 192 + 69788 + 240 ∨ n = 192 + 34848 + 240) :
    (Instr.rxFrameBoundary 0 (observed (List.replicate n 0))).wellFormed = true ∧ (Instr.rxFrameBoundary 0 (observed [])).wellFormed = false :=
  ⟨decide_eq_true (by rw [observed, List.length_replicate]; exact h), by decide⟩

theorem test_wellFormed_lists : (Instr.foregroundCalibrationDone 0 ⟨0, List.replicate 64 (0, 0, 0)⟩).wellFormed = true ∧
    (Instr.foregroundCalibrationDone 0 ⟨0, List.replicate 63 (0, 0, 0)⟩).wellFormed = false ∧ (Instr.powerStep 0 (List.replicate 16 0)).wellFormed = true ∧
    (Instr.powerStep 0 (List.replicate 15 0)).wellFormed = false ∧ (Instr.conversionEnd [0]).wellFormed = true ∧ (Instr.conversionEnd []).wellFormed = false ∧
    (Instr.sensorSample (List.replicate 24 0)).wellFormed = true ∧ (Instr.sensorSample (List.replicate 25 0)).wellFormed = false ∧
    (Instr.twoWireWrite 0 (List.replicate 256 0) false).wellFormed = true ∧ (Instr.twoWireWrite 0 (List.replicate 257 0) false).wellFormed = false ∧
    (Instr.causewayFragment 0 (List.replicate 32 0)).wellFormed = true ∧ (Instr.causewayFragment 0 (List.replicate 31 0)).wellFormed = false := by decide +kernel

theorem test_wellFormed_messages : let m : List Byte := List.replicate 1501 0
    ([Instr.causewayFrameExtract 0 0 0 m, .read (.cinch 0) m, .write (.cinch 0) m, .readBlock (.cinch 0) m, .writeBlock (.cinch 0) m, .imageChunk (.cinch 0) m,
      .keyExchange (.cinch 0) m, .finish (.cinch 0) m, .sessionClose (.cinch 0) m, .subscribe (.cinch 0) m, .getVersion (.cinch 0) m, .getCapabilities (.cinch 0) m,
      .negotiateAlgorithms (.cinch 0) m, .getDigests (.cinch 0) m, .getCertificate (.cinch 0) m, .challenge (.cinch 0) m, .getMeasurements (.cinch 0) m,
      .unsupportedRequest (.cinch 0) m, .tunnelRequest (.cinch 0) m, .tunnelReply 0 m].all fun c => !c.wellFormed) = true ∧
    (Instr.read (.cinch 0) (m.drop 1)).wellFormed = true := by decide +kernel

/-! ### Page code -/

/-- R394: three symbols of a column with their check symbols have the roots α^0 to α^3. -/
theorem test_pageCheck : ((List.range 4).all fun t =>
    polyEval gf16 (gfPow 16 0x1100B 2 t) ([0x1234, 0xFFFF, 1] ++ columnCheck [0x1234, 0xFFFF, 1]) == 0) = true := by decide +kernel

/-- R396: the delta of a changed symbol leads to the check symbols of the new column. -/
theorem test_pageDelta : (columnDelta (columnCheck [0x1234, 0xFFFF, 1]) 510 0xFFFF 7 == columnCheck [0x1234, 7, 1]) = true := by decide +kernel

/-- R394: word 5 of a page places its bytes 2 and 3 as symbol 5 of column 1. -/
theorem test_pageColumn : (pageColumn (List.replicate 42 0 ++ [9, 1]) 1)[5]? = some 265 := by decide +kernel

end Sys2Proof.Tests
end

section
/-! SUPPORT. A word written at an address: what the register tables guarantee of the address, which register write it is, and what the
three commands that write a word make of it (R5, R7, R8, R10). -/
namespace Sys2Proof.Machine
open Sys2Proof Sys2Proof.Claims

/-! ### The register tables -/

/-- The first address past every index of a register: past its outermost dimension or, without one, past its words. -/
def Reg.addrEnd (r : Reg) : Nat :=
  r.desc.base + match r.desc.dims with
    | [] => 4 * r.words
    | (count, stride) :: _ => count * stride

/-- Two fields of one register that share no bit. -/
def FieldDesc.apart (f g : FieldDesc) : Bool := decide (f.hi < g.lo) || decide (g.hi < f.lo)

/-- Each field of a register's table lies inside the register, and none shares a bit with a later one. -/
def fieldsOk : List FieldDesc → Bool
  | [] => true
  | f :: fs => decide (f.lo ≤ f.hi) && decide (f.hi < 512) && fs.all f.apart && fieldsOk fs

/-- What every row of the register tables has in common: strides that are not 0, addresses below the stores, at most 512 bits, and
fields apart from each other. -/
def Reg.tableOk (r : Reg) : Bool :=
  r.desc.dims.all (fun d => decide (0 < d.2)) && decide (r.addrEnd ≤ 0x10000000) && decide (r.words ≤ 16) && fieldsOk r.desc.fields

theorem allRegs_tableOk : allRegs.all Reg.tableOk = true := by decide +kernel

theorem Reg.at_lt_addrEnd {r : Reg} {a : Nat} {e : Nat × Nat} (hs : r.desc.dims.all (fun d => decide (0 < d.2)) = true)
    (h : r.at a = some e) : a < r.addrEnd := by
  unfold Reg.at at h
  unfold Reg.addrEnd
  split at h
  · cases h
  cases hd : r.desc.dims with
  | nil =>
    simp only [hd, indexOf, Option.ite_none_right_eq_some] at h
    dsimp only
    omega
  | cons d rest =>
    obtain ⟨count, stride⟩ := d
    simp only [hd, List.all_cons, Bool.and_eq_true, decide_eq_true_eq] at hs
    have hc : (a - r.desc.base) / stride < count := by
      by_contra hc
      simp [hd, indexOf, hc] at h
    have := (Nat.div_lt_iff_lt_mul hs.1).1 hc
    dsimp only
    omega

theorem Reg.word_lt_words {r : Reg} {a i w : Nat} (h : r.at a = some (i, w)) : w < r.words := by
  unfold Reg.at at h
  split at h
  · cases h
  split at h
  · rw [Option.ite_none_right_eq_some] at h
    obtain ⟨⟨hw, -⟩, he⟩ := h
    cases he
    exact hw
  · cases h

/-- An address names a register of the tables that holds it. -/
theorem regAt_some {a : Nat} {r : Reg} {i w : Nat} (h : regAt a = some (r, i, w)) : r.tableOk = true ∧ r.at a = some (i, w) := by
  obtain ⟨q, hq, he⟩ := List.exists_of_findSome?_eq_some h
  rw [Option.map_eq_some_iff] at he
  obtain ⟨⟨j, v⟩, hat, heq⟩ := he
  cases heq
  exact ⟨List.all_eq_true.1 allRegs_tableOk _ hq, hat⟩

section RegAt
variable {a : Nat} {r : Reg} {i w : Nat} (h : regAt a = some (r, i, w))
include h

/-- No register lies where the management space shows a store (Table 10-11). -/
theorem storeWindow_of_regAt : storeWindow a = none := by
  obtain ⟨hok, hat⟩ := regAt_some h
  simp only [Reg.tableOk, Bool.and_eq_true, decide_eq_true_eq] at hok
  obtain ⟨⟨⟨hs, hend⟩, -⟩, -⟩ := hok
  have := Reg.at_lt_addrEnd hs hat
  unfold storeWindow
  rw [if_neg (by omega), if_neg (by omega), if_neg (by omega)]

/-- A word of a register is one of sixteen. -/
theorem word_lt_of_regAt : w < 16 := by
  obtain ⟨hok, hat⟩ := regAt_some h
  simp only [Reg.tableOk, Bool.and_eq_true, decide_eq_true_eq] at hok
  exact Nat.lt_of_lt_of_le (Reg.word_lt_words hat) hok.1.2

theorem fieldsOk_of_regAt : fieldsOk r.desc.fields = true := by
  have hok := (regAt_some h).1
  simp only [Reg.tableOk, Bool.and_eq_true] at hok
  exact hok.2

theorem wideWord_of_regAt (hw : 1 < r.words) : wideWord a = some w := by
  simp [wideWord, h, hw]

end RegAt

/-! ### A register write and its ends -/

theorem guardedWrite_denied {p : Path} {r : Reg} {s : State} (i v : Nat) (act : State → State × WStatus) (hon : s.offline = false)
    (hrole : s.role p < s.neededRole r) : guardedWrite p r i v act s = (s.accessViolation p r i v, .denied) := by
  simp [guardedWrite, hon, hrole]

theorem guardedWrite_accepted {p : Path} {r : Reg} {i : Nat} {s : State} (v : Nat) (act : State → State × WStatus)
    (h : Accepts s p r i) : guardedWrite p r i v act s = act s := by
  obtain ⟨hon, hrole, hreb⟩ := h
  simp [guardedWrite, hon, hreb, Nat.not_lt.2 hrole]

/-! ### The write at an address -/

section WriteAt
variable {s : State} {p : Path} {a : Nat} {r : Reg} {i w : Nat} (h : regAt a = some (r, i, w))
include h

theorem State.writeAt_of_regAt (x : Nat) (hon : s.offline = false) : s.writeAt p a x = writeWordWith wrReg p a x s := by
  simp [State.writeAt, hon, storeWindow_of_regAt h]

/-- Whatever its word, a write below the role required ends as an access violation of its register. -/
theorem State.writeAt_denied (x : Nat) (hon : s.offline = false) (hrole : s.role p < s.neededRole r) :
    s.writeAt p a x = (s.accessViolation p r i x, .denied) := by
  rw [State.writeAt_of_regAt h x hon]
  simp only [writeWordWith, h]
  split
  · exact guardedWrite_denied i x _ hon hrole
  split <;> exact guardedWrite_denied i x _ hon hrole

/-- A higher word of a wide register is staged. -/
theorem State.writeAt_higherWord (x : Nat) (hwide : 1 < r.words) (hw : w ≠ 0) (hnone : r.desc.role ≠ .none_) (hacc : Accepts s p r i) :
    s.writeAt p a x = (s.stage (r, i) w x, .ok) := by
  rw [State.writeAt_of_regAt h x hacc.1]
  simp only [writeWordWith, h]
  rw [if_neg (by omega), if_pos hw, guardedWrite_accepted x _ hacc]
  simp [hnone]

end WriteAt

/-- The lowest word of a wide register commits the whole of it. -/
theorem State.writeAt_lowestWord {s : State} {p : Path} {a : Nat} {r : Reg} {i : Nat} (h : regAt a = some (r, i, 0)) (x : Nat)
    (hwide : 1 < r.words) (hacc : Accepts s p r i) :
    s.writeAt p a x = commitWhole r i (s.commitValue (r, i) x) (wrReg p r i (s.commitValue (r, i) x)) s := by
  rw [State.writeAt_of_regAt h x hacc.1]
  simp only [writeWordWith, h]
  rw [if_neg (by omega), if_neg (by simp), guardedWrite_accepted x _ hacc]

/-! ### The commands that write a word -/

section Commands
variable {s : State} {p : Path} {a x : Word32}

/-- A register write whose turn has come writes its word (Table 10-10). -/
theorem exec_registerWrite_inTurn (h : InTurn s p a x) :
    exec (.registerWrite p a x) s = .next (s.writeAt p a.toNat x.toNat).1 := by
  obtain ⟨hfirst, hearly⟩ := h
  have hnone : s.writeEarly p a.toNat = s := by simp [State.writeEarly, hfirst]
  change execRegisterWrite p a x s = _
  simp only [execRegisterWrite, hearly, hnone, Bool.false_eq_true, if_false]

theorem exec_stagedWordWrite_higherWord {w : Nat} (h : wideWord a.toNat = some w) (hw : w ≠ 0) :
    exec (.stagedWordWrite p a x) s = .next (s.writeAt p a.toNat x.toNat).1 := by
  change execStagedWordWrite p a x s = _
  simp [execStagedWordWrite, h, hw]

theorem exec_wideRegisterCommit_lowestWord (h : wideWord a.toNat = some 0) :
    exec (.wideRegisterCommit p a x) s = .next (s.writeAt p a.toNat x.toNat).1 := by
  change execWideRegisterCommit p a x s = _
  simp [execWideRegisterCommit, h]

/-- The commands that write word `w` of register `r` at address `a`: a register write and, of a wide register, the row of the table for a
staged word or for a commit. -/
def wordWrites (r : Reg) (w : Nat) (p : Path) (a x : Word32) : List Instr :=
  Instr.registerWrite p a x ::
    (if r.words ≤ 1 then [] else if w = 0 then [.wideRegisterCommit p a x] else [.stagedWordWrite p a x])

theorem wordWrites_higherWord {r : Reg} {w : Nat} (hwide : 1 < r.words) (hw : w ≠ 0) :
    wordWrites r w p a x = [.registerWrite p a x, .stagedWordWrite p a x] := by
  rw [wordWrites, if_neg (Nat.not_le.2 hwide), if_neg hw]

theorem wordWrites_lowestWord {r : Reg} (hwide : 1 < r.words) :
    wordWrites r 0 p a x = [.registerWrite p a x, .wideRegisterCommit p a x] := by
  rw [wordWrites, if_neg (Nat.not_le.2 hwide), if_pos rfl]

/-- Each of them writes its word at its address, a register write when its turn has come. -/
theorem exec_of_mem_wordWrites {r : Reg} {i w : Nat} (h : regAt a.toNat = some (r, i, w)) {c : Instr} (hc : c ∈ wordWrites r w p a x)
    (hturn : c = .registerWrite p a x → InTurn s p a x) : exec c s = .next (s.writeAt p a.toNat x.toNat).1 := by
  rw [wordWrites, List.mem_cons] at hc
  rcases hc with rfl | hc
  · exact exec_registerWrite_inTurn (hturn rfl)
  split at hc
  · cases hc
  next hwide =>
    have hword := wideWord_of_regAt h (Nat.not_le.1 hwide)
    split at hc
    next hw =>
      rw [List.mem_singleton.1 hc]
      exact exec_wideRegisterCommit_lowestWord (hw ▸ hword)
    next hw =>
      rw [List.mem_singleton.1 hc]
      exact exec_stagedWordWrite_higherWord hword hw

end Commands

end Sys2Proof.Machine
end

section
/-! SUPPORT. The frames of the updates that an access violation is made of, and O44 (R10). -/
open Sys2Proof Sys2Proof.Machine

namespace Sys2Proof.Claims

/-! ### Frames -/

theorem Keeps.trans {ks ks' : List RegKey} {s t u : State} (h : Keeps ks s t) (h' : Keeps ks' t u) : Keeps (ks ++ ks') s u := by
  obtain ⟨hreg, hmem, hflash⟩ := h
  obtain ⟨hreg', hmem', hflash'⟩ := h'
  refine ⟨fun r i hk => ?_, fun b => (hmem' b).trans (hmem b), fun b => (hflash' b).trans (hflash b)⟩
  rw [List.mem_append, not_or] at hk
  exact (hreg' r i hk.2).trans (hreg r i hk.1)

/-- A write of one register keeps every other. -/
theorem keeps_setReg (s : State) (r : Reg) (i : Nat) (v : RegVal) : Keeps [(r, i)] s (s.setReg r i v) := by
  refine ⟨fun q j hk => State.reg_setReg_other s v ?_, fun _ => rfl, fun _ => rfl⟩
  rw [List.mem_singleton, Prod.mk.injEq, not_and_or] at hk
  exact hk

theorem keeps_count (s : State) (f : Field) (i n : Nat) : Keeps [(f.reg, i)] s (s.count f i n) :=
  keeps_setReg s f.reg i _

theorem keeps_plainWrite (s : State) (r : Reg) (i v : Nat) : Keeps [(r, i)] s (plainWrite r i v s) := keeps_setReg s r i _

/-- A record that finds room changes no register and no store. -/
theorem keeps_log_of_room {s : State} (hroom : Room s) (type kind index : Nat) (words : List Nat) :
    Keeps [] s (s.log type kind index words) := by
  rcases s.logAt_cases s.now type kind index words 0 with ⟨-, e, -, -, -, -, -, -, h⟩ | ⟨hfull, -⟩
  · rw [State.log, h]
    exact ⟨fun _ _ _ => rfl, fun _ => rfl, fun _ => rfl⟩
  · exact absurd hroom (Nat.not_lt.2 hfull)

/-- A record changes no register but the count of those dropped. -/
theorem keeps_log (s : State) (type kind index : Nat) (words : List Nat) : Keeps logKeys s (s.log type kind index words) := by
  rcases s.logAt_cases s.now type kind index words 0 with ⟨-, e, -, -, -, -, -, -, h⟩ | ⟨-, h⟩
  · rw [State.log, h]
    exact ⟨fun _ _ _ => rfl, fun _ => rfl, fun _ => rfl⟩
  · rw [State.log, h]
    exact keeps_count _ EVL_DROPPED.COUNT 0 1

/-- With room in the queue, an event that happens now is recorded (R420). -/
theorem logged_log {s : State} (hroom : Room s) (type kind index : Nat) (words : List Nat) :
    Logged type kind index words s (s.log type kind index words) := by
  rcases s.logAt_cases s.now type kind index words 0 with ⟨-, e, htype, hseq, hts, -, -, hwords, h⟩ | ⟨hfull, -⟩
  · exact ⟨e, by rw [State.log, h], htype, hseq, hts, hwords⟩
  · exact absurd hroom (Nat.not_lt.2 hfull)

/-! ### The access violation (R10) -/

section
variable (s : State) (p : Path) (r : Reg) (i v : Nat)

theorem accessViolation_counts : Counts MGT_ACCESS_VIOL.COUNT 0 s (s.accessViolation p r i v) := by
  unfold Counts State.accessViolation State.log
  rw [State.fld_logAt _ _ _ _ _ _ _ _ (by decide)]
  exact State.fld_count_same s 0 1 (by decide)

theorem accessViolation_keeps : Keeps ((.MGT_ACCESS_VIOL, 0) :: logKeys) s (s.accessViolation p r i v) :=
  (keeps_count s MGT_ACCESS_VIOL.COUNT 0 1).trans (keeps_log _ _ _ _ _)

theorem accessViolation_keeps_of_room (hroom : Room s) : Keeps [(.MGT_ACCESS_VIOL, 0)] s (s.accessViolation p r i v) :=
  (keeps_count s MGT_ACCESS_VIOL.COUNT 0 1).trans (keeps_log_of_room (s := s.count MGT_ACCESS_VIOL.COUNT 0) hroom _ _ _ _)

theorem accessViolation_logged (hroom : Room s) :
    Logged Evt.ACCESS_VIOL Subj.REGISTER (regAddr r i 0) [s.pathWord p, s.role p, v % 2 ^ 32] s (s.accessViolation p r i v) :=
  logged_log (s := s.count MGT_ACCESS_VIOL.COUNT 0) hroom _ _ _ _

end

end Sys2Proof.Claims

namespace Sys2Proof.Proofs
open Sys2Proof.Claims

/-- Settles O44: each of the commands writes the word at its address, the write ends as an access violation, and an access violation is a
count and a record. -/
theorem accessViolations : Obligations.AccessViolations := by
  intro s p a x r i w h hon hrole c hc hturn
  have hexec : exec c s = .next (s.accessViolation p r i x.toNat) := by
    rw [exec_of_mem_wordWrites h hc hturn, State.writeAt_denied h x.toNat hon hrole]
  refine ⟨_, hexec, accessViolation_counts s p r i _, fun hroom => ⟨?_, accessViolation_keeps_of_room s p r i _ hroom⟩,
    accessViolation_keeps s p r i _, ?_, ?_⟩
  · have hlog := accessViolation_logged s p r i x.toNat hroom
    rwa [Nat.mod_eq_of_lt x.isLt] at hlog
  · rw [State.accessViolation_eq]
  · rw [State.accessViolation_eq]

end Sys2Proof.Proofs
end

section
/-! SUPPORT. The bits of a register value after a field, a word or a whole write is set in it, and O45 (R7). -/
namespace Sys2Proof.Machine
open Sys2Proof Sys2Proof.Claims

/-! ### Bits of register values -/

theorem testBit_bitsOf (v : RegVal) (hi lo j : Nat) : (bitsOf v hi lo).testBit j = (decide (j < hi - lo + 1) && v.getLsbD (lo + j)) := by
  rw [bitsOf, BitVec.testBit_toNat, BitVec.getLsbD_extractLsb']

/-- A field written takes the bits of the value written, and every other bit stays. -/
theorem getLsbD_setBitsOf (v : RegVal) {hi lo : Nat} (x k : Nat) (hle : lo ≤ hi) (hhi : hi < 512) :
    (setBitsOf v hi lo x).getLsbD k = if lo ≤ k ∧ k ≤ hi then x.testBit (k - lo) else v.getLsbD k := by
  by_cases hk : k < 512
  · simp only [setBitsOf, BitVec.getLsbD_or, BitVec.getLsbD_and, BitVec.getLsbD_not, BitVec.getLsbD_shiftLeft, BitVec.getLsbD_ofNat,
      Nat.testBit_two_pow_sub_one, Nat.testBit_mod_two_pow]
    by_cases hlo : lo ≤ k
    · by_cases hhk : k ≤ hi
      · simp [hk, hlo, hhk, Nat.not_lt.2 hlo, show k - lo < hi - lo + 1 by omega, show k - lo < 512 by omega]
      · simp [hk, hhk, show ¬ k - lo < hi - lo + 1 by omega]
    · simp [hk, hlo, Nat.lt_of_not_le hlo]
  · rw [BitVec.getLsbD_of_ge _ _ (Nat.le_of_not_lt hk), if_neg (by omega), BitVec.getLsbD_of_ge _ _ (Nat.le_of_not_lt hk)]

/-- Word `u` after word `w` is set (R7). -/
theorem wordOf_setWord (v : RegVal) {w : Nat} (u x : Nat) (hw : w < 16) :
    wordOf (setWord v w x) u = if u = w then x % 2 ^ 32 else wordOf v u := by
  split
  next h =>
    rw [h, wordOf, setWord, bitsOf_setBitsOf_same _ _ (by omega), show 32 * w + 31 - 32 * w + 1 = 32 by omega]
  next h => exact bitsOf_setBitsOf_disjoint _ _ (by omega)

/-! ### A write by access codes (R8, R9) -/

/-- Bit `k` after a write of `v` to a register that held the bit `old`, by the access code of its field, where the write clears the W1C
bits of `c`. -/
def accessBit (old : Bool) (v c k : Nat) : Option Access → Bool
  | some .rw | some .rws => v.testBit k
  | some .w1c => old && !c.testBit k
  | _ => old

/-- The access code of the field that bit `k` lies in. -/
def accessAt (fs : List FieldDesc) (k : Nat) : Option Access := (fs.find? fun f => decide (f.lo ≤ k ∧ k ≤ f.hi)).map (·.access)

theorem accessAt_cons (f : FieldDesc) (fs : List FieldDesc) (k : Nat) :
    accessAt (f :: fs) k = if f.lo ≤ k ∧ k ≤ f.hi then some f.access else accessAt fs k := by
  by_cases h : f.lo ≤ k ∧ k ≤ f.hi <;> simp [accessAt, h]

/-- A bit of a field lies in no field that shares no bit with it. -/
theorem accessAt_of_apart {f : FieldDesc} {fs : List FieldDesc} {k : Nat} (hall : fs.all f.apart = true) (hk : f.lo ≤ k ∧ k ≤ f.hi) :
    accessAt fs k = none := by
  rw [accessAt, Option.map_eq_none_iff, List.find?_eq_none]
  intro g hg
  have := List.all_eq_true.1 hall g hg
  simp only [FieldDesc.apart, Bool.or_eq_true, decide_eq_true_eq] at this ⊢
  omega

/-- What a write leaves in one field, as `applyAccess` computes it: its bits follow the field's access code. -/
theorem testBit_accessField (old : RegVal) (v c j lo hi : Nat) (acc : Access) (hj : j < hi - lo + 1) :
    (match acc with
      | .rw | .rws => (v >>> lo) % 2 ^ (hi - lo + 1)
      | .w1c => bitsOf old hi lo &&& (2 ^ (hi - lo + 1) - 1 - (c >>> lo) % 2 ^ (hi - lo + 1))
      | .ro | .wo => bitsOf old hi lo).testBit j = accessBit (old.getLsbD (lo + j)) v c (lo + j) (some acc) := by
  have hsub : (2 ^ (hi - lo + 1) - 1 - (c >>> lo) % 2 ^ (hi - lo + 1)).testBit j = !c.testBit (lo + j) := by
    rw [Nat.sub_sub, Nat.add_comm 1, Nat.testBit_two_pow_sub_succ (Nat.mod_lt _ (Nat.two_pow_pos _))]
    simp [hj]
  cases acc <;> simp [accessBit, testBit_bitsOf, hj, hsub]

/-- A write sets each bit by the access code of the field it lies in. -/
theorem getLsbD_applyAccess {fs : List FieldDesc} (old : RegVal) (v c k : Nat) (hok : fieldsOk fs = true) :
    (applyAccess old v c fs).getLsbD k = accessBit (old.getLsbD k) v c k (accessAt fs k) := by
  induction fs generalizing old with
  | nil => rfl
  | cons f fs ih =>
    simp only [fieldsOk, Bool.and_eq_true, decide_eq_true_eq] at hok
    obtain ⟨⟨⟨hle, hhi⟩, hapart⟩, hrest⟩ := hok
    rw [applyAccess, ih _ hrest, accessAt_cons, getLsbD_setBitsOf old _ k hle hhi]
    by_cases hk : f.lo ≤ k ∧ k ≤ f.hi
    · rw [if_pos hk, if_pos hk, accessAt_of_apart hapart hk]
      have := testBit_accessField old v c (k - f.lo) f.lo f.hi f.access (by omega)
      rw [Nat.add_sub_cancel' hk.1] at this
      exact this
    · rw [if_neg hk, if_neg hk]

theorem State.testBit_clearable (s : State) (r : Reg) (i v k : Nat) :
    (s.clearable r i v).testBit k = (v.testBit k && !(s.risenOf r i).testBit k) := by
  rw [State.clearable, Nat.testBit_xor, Nat.testBit_or]
  cases v.testBit k <;> cases (s.risenOf r i).testBit k <;> rfl

/-- The bit that a write leaves, as the statements spell it. -/
theorem writtenBit_eq (s : State) (r : Reg) (i x k : Nat) :
    writtenBit s r i x k = accessBit ((s.reg r i).getLsbD k) x (s.clearable r i x) k (accessAt r.desc.fields k) := by
  unfold writtenBit accessAt
  cases (r.desc.fields.find? fun f => decide (f.lo ≤ k ∧ k ≤ f.hi)) with
  | none => rfl
  | some f => cases hf : f.access <;> simp [accessBit, hf, State.testBit_clearable]

/-- A register without rules of its own takes a write by its access codes. -/
theorem getLsbD_reg_plainWrite {r : Reg} (hok : fieldsOk r.desc.fields = true) (i v : Nat) (s : State) (k : Nat) :
    ((plainWrite r i v s).reg r i).getLsbD k = writtenBit s r i v k := by
  rw [plainWrite_reg, getLsbD_applyAccess _ _ _ _ hok, writtenBit_eq]

/-! ### Staging and commit (R7) -/

/-- The words of the staging after a word is staged. -/
theorem wordOf_stagedOf_stage (s : State) (k : RegKey) {w x : Nat} (u : Nat) (hw : w < 16) (hx : x < 2 ^ 32) :
    wordOf ((s.stage k w x).stagedOf k).1 u = if u = w then x else wordOf (s.stagedOf k).1 u := by
  rw [State.stagedOf_stage_same, wordOf_setWord _ _ _ hw, Nat.mod_eq_of_lt hx]

/-- The marks of the staging after a word is staged. -/
theorem testBit_stagedOf_stage (s : State) (k : RegKey) (w x u : Nat) :
    ((s.stage k w x).stagedOf k).2.testBit u = (decide (u = w) || (s.stagedOf k).2.testBit u) := by
  rw [State.stagedOf_stage_same, Nat.testBit_or, Nat.testBit_two_pow, Bool.or_comm]
  simp only [eq_comm]

theorem State.stagedOf_unstage_other (s : State) {k k' : RegKey} (h : k' ≠ k) : (s.unstage k).stagedOf k' = s.stagedOf k' := by
  simp only [State.stagedOf, State.unstage, Tab.get_set_other _ _ h]

@[simp] theorem State.reg_unstage (s : State) (k : RegKey) (r : Reg) (i : Nat) : (s.unstage k).reg r i = s.reg r i := by
  simp only [State.reg, State.unstage]

@[simp] theorem State.risenOf_unstage (s : State) (k : RegKey) (r : Reg) (i : Nat) : (s.unstage k).risenOf r i = s.risenOf r i := by
  simp only [State.risenOf, State.unstage]

theorem writtenBit_unstage (s : State) (k : RegKey) (r : Reg) (i x b : Nat) : writtenBit (s.unstage k) r i x b = writtenBit s r i x b := by
  simp only [writtenBit, State.reg_unstage, State.risenOf_unstage]

/-- The words below `n` of the value that a commit writes, put in place of those last committed. -/
def State.commitWords (s : State) (k : RegKey) (x n : Nat) : RegVal :=
  (List.range n).foldl (fun (a : RegVal) w =>
    if w = 0 then setWord a 0 x else if (s.stagedOf k).2.testBit w then setWord a w (wordOf (s.stagedOf k).1 w) else a) (s.lastCommit k)

theorem State.commitValue_eq (s : State) (k : RegKey) (x : Nat) : s.commitValue k x = (s.commitWords k x 16).toNat := rfl

theorem wordOf_lt (v : RegVal) (w : Nat) : wordOf v w < 2 ^ 32 := by
  rw [wordOf, bitsOf, show 32 * w + 31 - 32 * w + 1 = 32 by omega]
  exact BitVec.isLt _

theorem wordOf_commitWords (s : State) (r : Reg) (i x u : Nat) {n : Nat} (hn : n ≤ 16) :
    wordOf (s.commitWords (r, i) x n) u = if u < n then committedWord s r i x u else wordOf (s.lastCommit (r, i)) u := by
  induction n with
  | zero => rfl
  | succ n ih =>
    have ih := ih (by omega)
    rw [State.commitWords, List.range_succ, List.foldl_append, ← State.commitWords]
    simp only [List.foldl_cons, List.foldl_nil]
    by_cases hu : u = n
    · subst hu
      rw [if_neg (Nat.lt_irrefl u)] at ih
      rw [if_pos (Nat.lt_succ_self u), committedWord]
      split
      · next h0 => rw [wordOf_setWord _ _ _ (by decide), if_pos h0]
      split
      · rw [wordOf_setWord _ _ _ (by omega), if_pos rfl, Nat.mod_eq_of_lt (wordOf_lt _ _)]
      · exact ih
    · have hiff : u < n + 1 ↔ u < n := by omega
      simp only [hiff]
      split
      · next h0 => rw [wordOf_setWord _ _ _ (by decide), if_neg (by omega), ih]
      split
      · rw [wordOf_setWord _ _ _ (by omega), if_neg hu, ih]
      · exact ih

/-- A write of the lowest word commits each word as R7 says. -/
theorem wordOf_commitWords_all (s : State) (r : Reg) (i x : Nat) {u : Nat} (hu : u < 16) :
    wordOf (s.commitWords (r, i) x 16) u = committedWord s r i x u := by
  rw [wordOf_commitWords s r i x u (Nat.le_refl _), if_pos hu]

/-- The value last committed to a wide register is noted. -/
def State.noteCommit (s : State) (k : RegKey) (v : RegVal) : State := { s with committed := Tab.insert regLt k v s.committed }

@[simp] theorem State.lastCommit_noteCommit (s : State) (k : RegKey) (v : RegVal) : (s.noteCommit k v).lastCommit k = v :=
  Tab.get_insert_same _ _ _

@[simp] theorem State.reg_noteCommit (s : State) (k : RegKey) (v : RegVal) (r : Reg) (i : Nat) : (s.noteCommit k v).reg r i = s.reg r i := rfl

@[simp] theorem State.noteCommit_staged (s : State) (k : RegKey) (v : RegVal) : (s.noteCommit k v).staged = s.staged := rfl

/-- The state after the commit of a value: that of the write with the staging emptied, and the value noted where it is taken. -/
def State.committing (s : State) (p : Path) (r : Reg) (i : Nat) (v : RegVal) : State :=
  let u := s.unstage (r, i)
  if (wrReg p r i v.toNat u).2 = .ok then (wrReg p r i v.toNat u).1.noteCommit (r, i) v else (wrReg p r i v.toNat u).1

theorem commitWhole_wrReg (s : State) (p : Path) (r : Reg) (i : Nat) (v : RegVal) :
    (commitWhole r i v.toNat (wrReg p r i v.toNat) s).1 = s.committing p r i v := by
  obtain ⟨-, ⟨hok, heq⟩ | ⟨hno, heq⟩⟩ := commitWhole_cases r i v.toNat (wrReg p r i v.toNat) s
  · rw [heq, State.committing, if_pos hok, State.noteCommit, BitVec.ofNat_toNat, BitVec.setWidth_eq]
  · rw [heq, State.committing, if_neg hno]

/-- The wide registers without rules of their own take a write by their access codes. -/
theorem wrReg_of_plainWide {r : Reg} (h : r ∈ plainWide) (p : Path) (i v : Nat) (s : State) :
    wrReg p r i v s = (plainWrite r i v s, .ok) := by
  simp only [plainWide, List.mem_cons, List.not_mem_nil, or_false] at h
  rcases h with rfl | rfl | rfl <;> rfl

theorem State.committing_of_plainWide {r : Reg} (h : r ∈ plainWide) (s : State) (p : Path) (i : Nat) (v : RegVal) :
    s.committing p r i v = (plainWrite r i v.toNat (s.unstage (r, i))).noteCommit (r, i) v := by
  simp only [State.committing, wrReg_of_plainWide h, if_true]

end Sys2Proof.Machine

namespace Sys2Proof.Claims
open Sys2Proof Sys2Proof.Machine

theorem keeps_unstage (s : State) (k : RegKey) : Keeps [] s (s.unstage k) :=
  ⟨fun r i _ => State.reg_unstage s k r i, fun _ => by simp only [State.memByte, State.unstage], fun _ => by simp only [State.flashByte, State.unstage]⟩

theorem keeps_noteCommit (s : State) (k : RegKey) (v : RegVal) : Keeps [] s (s.noteCommit k v) :=
  ⟨fun _ _ _ => rfl, fun _ => rfl, fun _ => rfl⟩

/-- A commit to a wide register without rules of its own notes the value, sets the register by its access codes, and changes no other
register and no store. -/
theorem committing_plainWide {r : Reg} (h : r ∈ plainWide) (hok : fieldsOk r.desc.fields = true) (s : State) (p : Path) (i : Nat)
    (v : RegVal) :
    (s.committing p r i v).lastCommit (r, i) = v ∧
    (∀ k, ((s.committing p r i v).reg r i).getLsbD k = writtenBit s r i v.toNat k) ∧
    Keeps [(r, i)] s (s.committing p r i v) ∧ (s.committing p r i v).staged = (s.unstage (r, i)).staged := by
  rw [State.committing_of_plainWide h]
  refine ⟨State.lastCommit_noteCommit _ _ _, fun k => ?_,
    (keeps_unstage s (r, i)).trans ((keeps_plainWrite _ r i v.toNat).trans (keeps_noteCommit _ _ _)), ?_⟩
  · rw [State.reg_noteCommit, getLsbD_reg_plainWrite hok, writtenBit_unstage]
  · rw [State.noteCommit_staged, plainWrite, State.setReg_staged]

/-- Staging a higher word changes that word of the staging and nothing else. -/
theorem stage_changes_one_word (s : State) (r : Reg) (i : Nat) {w : Nat} (x : Word32) (hw : w < 16) :
    (∀ v, wordOf ((s.stage (r, i) w x.toNat).stagedOf (r, i)).1 v = if v = w then x.toNat else wordOf (s.stagedOf (r, i)).1 v) ∧
    (∀ v, ((s.stage (r, i) w x.toNat).stagedOf (r, i)).2.testBit v = (decide (v = w) || (s.stagedOf (r, i)).2.testBit v)) ∧
    (∀ k, k ≠ (r, i) → (s.stage (r, i) w x.toNat).stagedOf k = s.stagedOf k) ∧
    s.stage (r, i) w x.toNat = { s with staged := (s.stage (r, i) w x.toNat).staged } :=
  ⟨fun v => wordOf_stagedOf_stage s (r, i) v hw x.isLt, fun v => testBit_stagedOf_stage s (r, i) w x.toNat v,
    fun _ hk => State.stagedOf_stage_other s w x.toNat hk, State.stage_eq s (r, i) w x.toNat⟩

end Sys2Proof.Claims

namespace Sys2Proof.Proofs
open Sys2Proof Sys2Proof.Machine Sys2Proof.Claims

/-- Settles O45: a higher word is staged; the lowest commits the words of `committedWord` on the state with the staging emptied. -/
theorem wideWrites : Obligations.WideWrites := by
  intro s p a x r i w h hwide hnone hacc
  refine ⟨fun hw c hc hturn => ?_, fun hw => ?_⟩
  · have hmem : c ∈ wordWrites r w p a x := by rw [wordWrites_higherWord hwide hw]; exact List.mem_reverse.1 hc
    have hexec := exec_of_mem_wordWrites h hmem hturn
    rw [State.writeAt_higherWord h x.toNat hwide hw hnone hacc] at hexec
    exact ⟨_, hexec, stage_changes_one_word s r i x (word_lt_of_regAt h)⟩
  · subst hw
    refine ⟨s.commitWords (r, i) x.toNat 16, s.unstage (r, i), fun k hk => wordOf_commitWords_all s r i x.toNat hk,
      State.stagedOf_unstage_same s (r, i), fun k hk => State.stagedOf_unstage_other s hk, State.unstage_eq s (r, i),
      fun c hc hturn => ?_⟩
    have hmem : c ∈ wordWrites r 0 p a x := by rw [wordWrites_lowestWord hwide]; exact List.mem_reverse.1 hc
    have hexec := exec_of_mem_wordWrites h hmem hturn
    rw [State.writeAt_lowestWord h x.toNat hwide hacc, State.commitValue_eq, commitWhole_wrReg] at hexec
    exact ⟨hexec, fun hplain => ⟨_, hexec, committing_plainWide hplain (fieldsOk_of_regAt h) s p i _⟩⟩

end Sys2Proof.Proofs
end

section
/-! SUPPORT. What a write leaves in a writable field and what a refused write leaves unchanged, and O60 (R59). -/
namespace Sys2Proof.Machine
open Sys2Proof Sys2Proof.Claims

/-! ### A write to a register of one word -/

/-- The only word of a register writes the whole of it. -/
theorem State.writeAt_onlyWord {s : State} {p : Path} {a : Nat} {r : Reg} {i w : Nat} (h : regAt a = some (r, i, w)) (x : Nat)
    (hone : r.words = 1) (hacc : Accepts s p r i) : s.writeAt p a x = wrReg p r i x s := by
  rw [State.writeAt_of_regAt h x hacc.1]
  simp only [writeWordWith, h]
  rw [if_pos hone, guardedWrite_accepted x _ hacc]

/-! ### A writable field (R8) -/

/-- Where the fields share no bit, a bit follows the access code of the field it lies in. -/
theorem accessAt_of_mem {f : FieldDesc} {fs : List FieldDesc} {k : Nat} (hok : fieldsOk fs = true) (hf : f ∈ fs)
    (hk : f.lo ≤ k ∧ k ≤ f.hi) : accessAt fs k = some f.access := by
  induction fs with
  | nil => cases hf
  | cons g fs ih =>
    simp only [fieldsOk, Bool.and_eq_true, decide_eq_true_eq] at hok
    obtain ⟨⟨-, hapart⟩, hrest⟩ := hok
    rw [accessAt_cons]
    rcases List.mem_cons.1 hf with rfl | hf
    · rw [if_pos hk]
    · have hg := List.all_eq_true.1 hapart f hf
      simp only [FieldDesc.apart, Bool.or_eq_true, decide_eq_true_eq] at hg
      rw [if_neg (by omega), ih hrest hf]

/-- The field stands in its register's table as one that software reads and writes. -/
abbrev Field.writable (f : Field) : Prop := f.lo ≤ f.hi ∧ ∃ d ∈ f.reg.desc.fields, d.hi = f.hi ∧ d.lo = f.lo ∧ d.access = .rw

/-- A plain write leaves the written bits in a writable field. -/
theorem fld_plainWrite_of_writable {f : Field} (hok : fieldsOk f.reg.desc.fields = true) (hrw : f.writable) (i v : Nat) (s : State) :
    (plainWrite f.reg i v s).fld f i = fieldOf v f := by
  obtain ⟨hle, d, hd, hhi, hlo, hacc⟩ := hrw
  refine Nat.eq_of_testBit_eq fun j => ?_
  rw [State.fld_eq, testBit_bitsOf, fieldOf, Field.width, Nat.testBit_mod_two_pow, Nat.testBit_shiftRight]
  by_cases hj : j < f.hi - f.lo + 1
  · rw [getLsbD_reg_plainWrite hok, writtenBit_eq, accessAt_of_mem hok hd (by omega), hacc, accessBit]
  · simp [hj]

/-! ### The thresholds of signal degrade and signal fail (R59) -/

/-- The clear threshold of a register of signal thresholds, and its set threshold. -/
abbrev thresholdPairs : List (Field × Field) := [(LFEC_SD.SD_CLR, LFEC_SD.SD_SET), (LFEC_SF.SF_CLR, LFEC_SF.SF_SET)]

section Thresholds
variable {r : Field × Field} (h : r ∈ thresholdPairs)
include h

theorem words_of_thresholds : r.1.reg.words = 1 := by
  revert r; decide

theorem reg_eq_of_thresholds : r.2.reg = r.1.reg := by
  revert r; decide

theorem writable_of_thresholds : r.1.writable ∧ r.2.writable := by
  revert r; decide

theorem wrReg_of_thresholds (p : Path) (i v : Nat) (s : State) : wrReg p r.1.reg i v s = wrLfecThr p r.1.reg r.1 r.2 i v s := by
  simp only [List.mem_cons, List.not_mem_nil, or_false] at h
  rcases h with rfl | rfl <;> rfl

end Thresholds

/-- Thresholds out of order end the write as a rejection (R59). -/
theorem wrLfecThr_rejects {clr set : Field} {v : Nat} (h : fieldOf v set ≤ fieldOf v clr) (p : Path) (r : Reg) (n : Nat) (s : State) :
    wrLfecThr p r clr set n v s = (s.regReject p r n v, .rejected) := if_pos h

/-- Thresholds in order are written by their access codes. -/
theorem wrLfecThr_takes {clr set : Field} {v : Nat} (h : fieldOf v clr < fieldOf v set) (p : Path) (r : Reg) (n : Nat) (s : State) :
    wrLfecThr p r clr set n v s = (plainWrite r n v s, .ok) := if_neg (Nat.not_le.2 h)

end Sys2Proof.Machine

namespace Sys2Proof.Claims
open Sys2Proof Sys2Proof.Machine

/-! ### The refused write (R419) -/

section
variable (s : State) (p : Path) (r : Reg) (i v : Nat)

theorem regReject_keeps : Keeps logKeys s (s.regReject p r i v) := keeps_log s _ _ _ _

theorem regReject_keeps_of_room (hroom : Room s) : Keeps [] s (s.regReject p r i v) := keeps_log_of_room hroom _ _ _ _

theorem regReject_logged (hroom : Room s) :
    Logged Evt.REG_REJECT Subj.REGISTER (regAddr r i 0) [s.pathWord p, v % 2 ^ 32] s (s.regReject p r i v) := logged_log hroom _ _ _ _

end

end Sys2Proof.Claims

namespace Sys2Proof.Proofs
open Sys2Proof Sys2Proof.Machine Sys2Proof.Claims

/-- Settles O60: the write reaches the rule of the threshold registers; out of order it ends as a rejection, which is a record alone, and
in order it is a write by access codes to two writable fields. -/
theorem thresholdsOutOfOrder : Obligations.ThresholdsOutOfOrder := by
  intro s p n x a r hr h hacc hturn
  have hexec : exec (.registerWrite p a x) s = .next (wrLfecThr p r.1.reg r.1 r.2 n x.toNat s).1 := by
    rw [exec_registerWrite_inTurn hturn, State.writeAt_onlyWord h _ (words_of_thresholds hr) hacc, wrReg_of_thresholds hr]
  refine ⟨fun hout => ?_, fun hin => ?_⟩
  · rw [wrLfecThr_rejects hout] at hexec
    refine ⟨_, hexec, regReject_keeps s p _ _ _, fun hroom => ⟨regReject_keeps_of_room s p _ _ _ hroom, ?_⟩⟩
    have hlog := regReject_logged s p r.1.reg n x.toNat hroom
    rwa [Nat.mod_eq_of_lt x.isLt] at hlog
  · rw [wrLfecThr_takes hin] at hexec
    obtain ⟨hclr, hset⟩ := writable_of_thresholds hr
    have hok := fieldsOk_of_regAt h
    have hreg := reg_eq_of_thresholds hr
    refine ⟨_, hexec, fld_plainWrite_of_writable hok hclr n _ s, ?_, keeps_plainWrite s _ _ _⟩
    rw [← hreg] at hok ⊢
    exact fld_plainWrite_of_writable hok hset n _ s

end Sys2Proof.Proofs
end

section
/-! SUPPORT. What every command leaves of the model's own fields, of the canonical form and of the ranges, and what it may change: the
relation `Evolves`, and that each update of the state is in it. -/
namespace Sys2Proof.Machine
open Sys2Proof

/-- The nanoseconds of a second, in the units of the clock's accumulator. -/
abbrev clockRange : Nat := 10 ^ 9 * 2 ^ 48

/-! ### Scopes: what a computation may change -/

/-- The parts of the state beside the register file. -/
inductive Part where
  | frameTimer | interval | freeCtr | captured | staged | committed | early | risen | recorder | lfec | lrx | eqp | grp | ltx | hsi | hpm
  | chk | chan | clane | cin | time | tlane | cfg | mgt | tskIn | tskRule | sens | thm | pins | mem | pwr | hrn | clk | sec | jtag | tskAt
  | hka | dec | dac | strm | pmc | pmcSnap | memx | dma | engine | flash

/-- A part is the same in two states. -/
def Part.agree (s t : State) : Part → Prop
  | .frameTimer => t.frameTimer = s.frameTimer
  | .interval => t.interval = s.interval
  | .freeCtr => t.freeCtr = s.freeCtr
  | .captured => t.captured = s.captured
  | .staged => t.staged = s.staged
  | .committed => t.committed = s.committed
  | .early => t.early = s.early
  | .risen => t.risen = s.risen
  | .recorder => t.recorder = s.recorder
  | .lfec => t.lfec = s.lfec
  | .lrx => t.lrx = s.lrx
  | .eqp => t.eqp = s.eqp
  | .grp => t.grp = s.grp
  | .ltx => t.ltx = s.ltx
  | .hsi => t.hsi = s.hsi
  | .hpm => t.hpm = s.hpm
  | .chk => t.chk = s.chk
  | .chan => t.chan = s.chan
  | .clane => t.clane = s.clane
  | .cin => t.cin = s.cin
  | .time => t.time = s.time
  | .tlane => t.tlane = s.tlane
  | .cfg => t.cfg = s.cfg
  | .mgt => t.mgt = s.mgt
  | .tskIn => t.tskIn = s.tskIn
  | .tskRule => t.tskRule = s.tskRule
  | .sens => t.sens = s.sens
  | .thm => t.thm = s.thm
  | .pins => t.pins = s.pins
  | .mem => t.mem = s.mem
  | .pwr => t.pwr = s.pwr
  | .hrn => t.hrn = s.hrn
  | .clk => t.clk = s.clk
  | .sec => t.sec = s.sec
  | .jtag => t.jtag = s.jtag
  | .tskAt => t.tskAt = s.tskAt
  | .hka => t.hka = s.hka
  | .dec => t.dec = s.dec
  | .dac => t.dac = s.dac
  | .strm => t.strm = s.strm
  | .pmc => t.pmc = s.pmc
  | .pmcSnap => t.pmcSnap = s.pmcSnap
  | .memx => t.memx = s.memx
  | .dma => t.dma = s.dma
  | .engine => t.engine = s.engine
  | .flash => t.flash = s.flash

theorem Part.agree_refl (s : State) (p : Part) : p.agree s s := by cases p <;> rfl

theorem Part.agree_trans {s u t : State} {p : Part} (h : p.agree s u) (h' : p.agree u t) : p.agree s t := by
  cases p <;> exact Eq.trans h' h

/-- The kinds of register and the parts of the state that a computation may change, by their numbers; `any` leaves it free. -/
structure Scope where
  regs : Nat := 0
  parts : Nat := 0
  any : Bool := false

namespace Scope

def maskOf {α : Type} (idx : α → Nat) (l : List α) : Nat := l.foldr (fun a m => 2 ^ idx a ||| m) 0

/-- The scope of kinds of register and parts of the state. -/
def of (rs : List Reg) (ps : List Part) : Scope := { regs := maskOf Reg.ctorIdx rs, parts := maskOf Part.ctorIdx ps }

/-- The scope of a computation that may change anything. -/
abbrev all : Scope := { any := true }

/-- All that one scope of a list holds. -/
def join (Ks : List Scope) : Scope :=
  { regs := Ks.foldr (fun K m => K.regs ||| m) 0, parts := Ks.foldr (fun K m => K.parts ||| m) 0, any := Ks.any (·.any) }

def hasReg (K : Scope) (r : Reg) : Bool := K.any || K.regs.testBit r.ctorIdx

def hasPart (K : Scope) (p : Part) : Bool := K.any || K.parts.testBit p.ctorIdx

/-- The first scope lies in the second. -/
def le (K K' : Scope) : Bool := K'.any || (!K.any && decide (K.regs &&& K'.regs = K.regs) && decide (K.parts &&& K'.parts = K.parts))

theorem le_all (K : Scope) : K.le all = true := rfl

theorem testBit_of_land_eq {m m' i : Nat} (h : m &&& m' = m) (hi : m.testBit i = true) : m'.testBit i = true := by
  rw [← h, Nat.testBit_and, Bool.and_eq_true] at hi
  exact hi.2

variable {K K' : Scope}

theorem hasReg_of_le (h : K.le K' = true) {r : Reg} (hr : K.hasReg r = true) : K'.hasReg r = true := by
  unfold le at h
  unfold hasReg at *
  simp only [Bool.or_eq_true, Bool.and_eq_true, Bool.not_eq_true', decide_eq_true_eq] at *
  rcases h with h | ⟨⟨hany, hregs⟩, -⟩
  · exact .inl h
  · exact .inr (testBit_of_land_eq hregs (hr.resolve_left (by rw [hany]; decide)))

theorem hasPart_of_le (h : K.le K' = true) {p : Part} (hp : K.hasPart p = true) : K'.hasPart p = true := by
  unfold le at h
  unfold hasPart at *
  simp only [Bool.or_eq_true, Bool.and_eq_true, Bool.not_eq_true', decide_eq_true_eq] at *
  rcases h with h | ⟨⟨hany, -⟩, hparts⟩
  · exact .inl h
  · exact .inr (testBit_of_land_eq hparts (hp.resolve_left (by rw [hany]; decide)))

theorem testBit_maskOf {α : Type} {idx : α → Nat} {l : List α} {i : Nat} : (maskOf idx l).testBit i = l.any fun a => decide (idx a = i) := by
  induction l with
  | nil => exact Nat.zero_testBit i
  | cons a l ih => rw [maskOf, List.foldr_cons, Nat.testBit_or, List.any_cons, Nat.testBit_two_pow]; exact congrArg _ ih

/-- A scope by lists holds the kinds of its list alone. -/
theorem mem_of_hasReg {rs : List Reg} {ps : List Part} {r : Reg} (h : (of rs ps).hasReg r = true) : r ∈ rs := by
  rw [hasReg, of, Bool.false_or, testBit_maskOf, List.any_eq_true] at h
  obtain ⟨q, hq, hidx⟩ := h
  rwa [← Reg.ctorIdx_inj (of_decide_eq_true hidx)]

end Scope

/-- What a command may make of a state: the commands that wait and the core cycle stand, free values are not given back, the timers stand
or start again, the canonical form and the ranges of the clock and of the recorder's queue are kept, and so is all that lies outside the
scope. -/
structure Evolves (K : Scope) (s t : State) : Prop where
  pending : t.pending = s.pending
  cycle : t.cycle = s.cycle
  free : s.freeCtr ≤ t.freeCtr
  timer : t.frameTimer = s.frameTimer ∨ t.frameTimer = 0
  interval : t.interval = s.interval ∨ t.interval = 0
  canonical : s.canonical → t.canonical
  clock : s.time.sub < clockRange → t.time.sub < clockRange
  queue : s.recorder.queue.length ≤ 64 → t.recorder.queue.length ≤ 64
  regs : ∀ r i, K.hasReg r = false → t.reg r i = s.reg r i
  parts : ∀ p : Part, K.hasPart p = false → p.agree s t

namespace Evolves
variable {K K₀ : Scope} {s u t : State}

theorem refl (s : State) : Evolves K s s :=
  ⟨rfl, rfl, Nat.le_refl _, .inl rfl, .inl rfl, id, id, id, fun _ _ _ => rfl, fun p _ => p.agree_refl s⟩

theorem trans (h : Evolves K s u) (h' : Evolves K u t) : Evolves K s t where
  pending := h'.pending.trans h.pending
  cycle := h'.cycle.trans h.cycle
  free := h.free.trans h'.free
  timer := h'.timer.elim (fun e => e ▸ h.timer) .inr
  interval := h'.interval.elim (fun e => e ▸ h.interval) .inr
  canonical := h'.canonical ∘ h.canonical
  clock := h'.clock ∘ h.clock
  queue := h'.queue ∘ h.queue
  regs r i hr := (h'.regs r i hr).trans (h.regs r i hr)
  parts p hp := Part.agree_trans (h.parts p hp) (h'.parts p hp)

/-- A larger scope allows as much. -/
theorem mono (h : Evolves K₀ s t) (hK : K₀.le K = true) : Evolves K s t :=
  { h with
    regs := fun r i hr => h.regs r i (Bool.eq_false_iff.2 fun h₀ => absurd (Scope.hasReg_of_le hK h₀) (by rw [hr]; decide))
    parts := fun p hp => h.parts p (Bool.eq_false_iff.2 fun h₀ => absurd (Scope.hasPart_of_le hK h₀) (by rw [hp]; decide)) }

/-- A computation with a scope of its own, which lies in the scope at hand. -/
theorem widen (h : Evolves K s u) (hK : K₀.le K = true) (f : ∀ {v}, Evolves K₀ v u → Evolves K₀ v t) : Evolves K s t :=
  h.trans ((f (refl u)).mono hK)

/-- A change that nothing looks at but the parts of the scope. -/
theorem same (h : Evolves K s u) (hp : t.pending = u.pending := by rfl) (hc : t.cycle = u.cycle := by rfl)
    (hf : t.freeCtr = u.freeCtr := by rfl) (ht : t.frameTimer = u.frameTimer := by rfl) (hi : t.interval = u.interval := by rfl)
    (hr : t.regs = u.regs := by rfl) (hm : t.mem = u.mem := by rfl) (hl : t.flash = u.flash := by rfl)
    (hs : t.time.sub = u.time.sub := by rfl) (hq : t.recorder.queue.length = u.recorder.queue.length := by rfl)
    (hk : ∀ p : Part, K.hasPart p = false → p.agree u t := by
      intro p hp; cases p <;> first | exact absurd hp (by decide +kernel) | rfl) : Evolves K s t :=
  h.trans ⟨hp, hc, hf ▸ Nat.le_refl _, .inl ht, .inl hi, by unfold State.canonical; rw [hr, hm, hl]; exact id, hs ▸ id, hq ▸ id,
    fun r i _ => by rw [State.reg, State.reg, hr], hk⟩

/-- A step of a computation whose state is named. -/
theorem step (h : Evolves K s u) (k : Evolves K s u → Evolves K s t) : Evolves K s t := k h

/-- The state beside a result. -/
theorem fst {α : Type} {a : α} (h : Evolves K s t) : Evolves K s (t, a).1 := h

theorem snd {α : Type} {a : α} (h : Evolves K s t) : Evolves K s (a, t).2 := h

theorem beside {α : Type} {a : α} {p : α × State} (h : Evolves K s p.2) (e : p = (a, t)) : Evolves K s t := by subst e; exact h

section Branches
variable {c : Prop} {_ : Decidable c} {a b : State}

theorem ite (ha : Evolves K s a) (hb : Evolves K s b) : Evolves K s (if c then a else b) := by split <;> assumption

theorem iteFst {α : Type} {p q : State × α} (hp : Evolves K s p.1) (hq : Evolves K s q.1) : Evolves K s (if c then p else q).1 := by
  split <;> assumption

theorem iteSnd {α : Type} {p q : α × State} (hp : Evolves K s p.2) (hq : Evolves K s q.2) : Evolves K s (if c then p else q).2 := by
  split <;> assumption

/-- Both branches start from the same state. -/
theorem cond (h : Evolves K s u) (ha : Evolves K s u → Evolves K s a) (hb : Evolves K s u → Evolves K s b) :
    Evolves K s (if c then a else b) := ite (ha h) (hb h)

theorem when (h : Evolves K s u) (ha : Evolves K s u → Evolves K s a) : Evolves K s (if c then a else u) := ite (ha h) h

theorem skip (h : Evolves K s u) (ha : Evolves K s u → Evolves K s a) : Evolves K s (if c then u else a) := ite h (ha h)

end Branches

/-! ### Loops -/

theorem foldl {α : Type} {l : List α} {f : State → α → State} (h : Evolves K s u) (hf : ∀ {v} a, Evolves K s v → Evolves K s (f v a)) :
    Evolves K s (l.foldl f u) := by
  induction l generalizing u with
  | nil => exact h
  | cons a l ih => exact ih (hf a h)

theorem each {is : List Nat} {f : Nat → State → State} (h : Evolves K s u) (hf : ∀ {v} i, Evolves K s v → Evolves K s (f i v)) :
    Evolves K s (u.each is f) := State.each_keeps (fun i _ => hf i) is h

/-- A loop that carries a state beside a result. -/
theorem foldlFst {α β : Type} {l : List α} {f : State × β → α → State × β} {p : State × β} (h : Evolves K s p.1)
    (hf : ∀ {q} a, Evolves K s q.1 → Evolves K s (f q a).1) : Evolves K s (l.foldl f p).1 := by
  induction l generalizing p with
  | nil => exact h
  | cons a l ih => exact ih (hf a h)

theorem foldlSnd {α β : Type} {l : List α} {f : β × State → α → β × State} {p : β × State} (h : Evolves K s p.2)
    (hf : ∀ {q} a, Evolves K s q.2 → Evolves K s (f q a).2) : Evolves K s (l.foldl f p).2 := by
  induction l generalizing p with
  | nil => exact h
  | cons a l ih => exact ih (hf a h)

/-! ### Updates of the state -/

theorem setReg {r : Reg} {i : Nat} {v : RegVal} (h : Evolves K s u) (hr : K.hasReg r = true := by decide +kernel) :
    Evolves K s (u.setReg r i v) :=
  h.trans ⟨rfl, rfl, Nat.le_refl _, .inl rfl, .inl rfl, State.canonical_setReg r i v, id, id,
    fun q j hq => State.reg_setReg_other u v (.inl fun e => absurd (e ▸ hr) (by rw [hq]; decide)), fun p _ => by cases p <;> rfl⟩

theorem setFld {f : Field} {i x : Nat} (h : Evolves K s u) (hr : K.hasReg f.reg = true := by decide +kernel) :
    Evolves K s (u.setFld f i x) := h.setReg hr

theorem setMemByte {a : Nat} {b : Byte} (h : Evolves K s u) (hp : K.hasPart .mem = true := by decide +kernel) :
    Evolves K s (u.setMemByte a b) :=
  h.trans ⟨rfl, rfl, Nat.le_refl _, .inl rfl, .inl rfl, fun hc => ⟨hc.1, Memory.wf_setMemByte a b hc.2.1, hc.2.2⟩, id, id,
    fun _ _ _ => rfl, fun p hq => by cases p <;> first | rfl | exact absurd hp (by rw [hq]; decide)⟩

theorem setMemBytes {a : Nat} {bs : List Byte} (h : Evolves K s u) (hp : K.hasPart .mem = true := by decide +kernel) :
    Evolves K s (u.setMemBytes a bs) := by
  induction bs generalizing u a with
  | nil => exact h
  | cons b bs ih => exact ih (h.setMemByte hp)

theorem setFlashBytes {a : Nat} {bs : List Byte} (h : Evolves K s u) (hp : K.hasPart .flash = true := by decide +kernel) :
    Evolves K s (u.setFlashBytes a bs) := by
  refine h.trans ⟨?_, ?_, ?_, ?_, ?_, State.canonical_setFlashBytes a bs, ?_, ?_, fun _ _ _ => ?_, fun p hq => ?_⟩ <;>
    rw [State.setFlashBytes_eq]
  · exact .inl rfl
  · exact .inl rfl
  · exact id
  · exact id
  · rfl
  · cases p <;> first | rfl | exact absurd hp (by rw [hq]; decide)

theorem clearMem {a n : Nat} (h : Evolves K s u) (hp : K.hasPart .mem = true := by decide +kernel)
    (hx : K.hasPart .memx = true := by decide +kernel) : Evolves K s (u.clearMem a n) :=
  h.trans ⟨rfl, rfl, Nat.le_refl _, .inl rfl, .inl rfl, fun hc => ⟨hc.1, Memory.wf_clearMem a n hc.2.1, hc.2.2⟩, id, id,
    fun _ _ _ => rfl, fun p hq => by cases p <;> first | rfl | exact absurd hp (by rw [hq]; decide) | exact absurd hx (by rw [hq]; decide)⟩

theorem eraseSlot {k : Nat} (h : Evolves K s u) (hp : K.hasPart .flash = true := by decide +kernel) : Evolves K s (u.eraseSlot k) :=
  h.trans ⟨rfl, rfl, Nat.le_refl _, .inl rfl, .inl rfl, fun hc => ⟨hc.1, hc.2.1, Memory.wf_eraseSlot k hc.2.2⟩, id, id,
    fun _ _ _ => rfl, fun p hq => by cases p <;> first | rfl | exact absurd hp (by rw [hq]; decide)⟩

/-- The recorder changes, its queue not growing beyond 64. -/
theorem setRecorder {r : RecorderX} (h : Evolves K s u) (hr : u.recorder.queue.length ≤ 64 → r.queue.length ≤ 64)
    (hp : K.hasPart .recorder = true := by decide +kernel) : Evolves K s { u with recorder := r } :=
  h.trans ⟨rfl, rfl, Nat.le_refl _, .inl rfl, .inl rfl, id, id, hr, fun _ _ _ => rfl,
    fun p hq => by cases p <;> first | rfl | exact absurd hp (by rw [hq]; decide)⟩

theorem modRec {f : RecorderX → RecorderX} (h : Evolves K s u) (hf : (f u.recorder).queue.length ≤ u.recorder.queue.length)
    (hp : K.hasPart .recorder = true := by decide +kernel) : Evolves K s (u.modRec f) := h.setRecorder hf.trans hp

theorem logAt {ts : Ts96} {type kind index : Nat} {words : List Nat} {extra : Nat} (h : Evolves K s u)
    (hK : (Scope.of [.EVL_DROPPED] [.recorder]).le K = true := by decide +kernel) : Evolves K s (u.logAt ts type kind index words extra) := by
  refine h.widen hK fun h => h.trans ⟨?_, ?_, ?_, ?_, ?_, State.canonical_logAt _ _ _ _ _ _, ?_, State.logAt_queue_le _ _ _ _ _ _ _, ?_, ?_⟩
  iterate 3 (rw [State.logAt_eq])
  · rw [State.logAt_eq]
    exact .inl rfl
  · rw [State.logAt_eq]
    exact .inl rfl
  · rw [State.logAt_eq]
    exact id
  · intro r i hr
    rcases u.logAt_cases ts type kind index words extra with ⟨-, e, -, -, -, -, -, -, e'⟩ | ⟨-, e'⟩ <;> rw [e']
    · rfl
    · exact State.reg_setReg_other _ _ (.inl fun e => absurd (e ▸ hr) (by decide +kernel))
  · intro p hp
    rw [State.logAt_eq]
    cases p <;> first | rfl | exact absurd hp (by decide +kernel)

theorem fresh (h : Evolves K s u) (hp : K.hasPart .freeCtr = true := by decide +kernel) : Evolves K s u.fresh.2 :=
  h.trans ⟨rfl, rfl, Nat.le_succ _, .inl rfl, .inl rfl, id, id, id, fun _ _ _ => rfl,
    fun p hq => by cases p <;> first | rfl | exact absurd hp (by rw [hq]; decide)⟩

theorem setEngine {x : EngineX} (h : Evolves K s u) (hp : K.hasPart .engine = true := by decide +kernel) : Evolves K s { u with engine := x } :=
  h.same (hk := fun p hq => by cases p <;> first | rfl | exact absurd hp (by rw [hq]; decide))

theorem setThm {x : ThmX} (h : Evolves K s u) (hp : K.hasPart .thm = true := by decide +kernel) : Evolves K s { u with thm := x } :=
  h.same (hk := fun p hq => by cases p <;> first | rfl | exact absurd hp (by rw [hq]; decide))

theorem setCaptured {x : List (RegKey × RegVal)} (h : Evolves K s u) (hp : K.hasPart .captured = true := by decide +kernel) :
    Evolves K s { u with captured := x } :=
  h.same (hk := fun p hq => by cases p <;> first | rfl | exact absurd hp (by rw [hq]; decide))

theorem setPwr {x : PwrX} (h : Evolves K s u) (hp : K.hasPart .pwr = true := by decide +kernel) : Evolves K s { u with pwr := x } :=
  h.same (hk := fun p hq => by cases p <;> first | rfl | exact absurd hp (by rw [hq]; decide))

/-- More free values are taken. -/
theorem take {k : Nat} (h : Evolves K s u) (hp : K.hasPart .freeCtr = true := by decide +kernel) :
    Evolves K s { u with freeCtr := u.freeCtr + k } :=
  h.trans ⟨rfl, rfl, Nat.le_add_right _ _, .inl rfl, .inl rfl, id, id, id, fun _ _ _ => rfl,
    fun p hq => by cases p <;> first | rfl | exact absurd hp (by rw [hq]; decide)⟩

/-- The clock is set. -/
theorem setTime {x : TimeX} (h : Evolves K s u) (hx : u.time.sub < clockRange → x.sub < clockRange)
    (hp : K.hasPart .time = true := by decide +kernel) : Evolves K s { u with time := x } :=
  h.trans ⟨rfl, rfl, Nat.le_refl _, .inl rfl, .inl rfl, id, hx, id, fun _ _ _ => rfl,
    fun p hq => by cases p <;> first | rfl | exact absurd hp (by rw [hq]; decide)⟩

end Evolves

/-- The command answers a next state, and a state that evolves from `s`. -/
def Answers (s : State) (r : Res) : Prop := ∃ t, r = .next t ∧ Evolves .all s t

namespace Answers
variable {s t : State} {a b : Res} {c : Prop} {_ : Decidable c}

theorem next (h : Evolves .all s t) : Answers s (.next t) := ⟨t, rfl, h⟩

theorem ite (ha : Answers s a) (hb : Answers s b) : Answers s (if c then a else b) := by split <;> assumption

end Answers

end Sys2Proof.Machine
end

section
/-! SUPPORT. What the shared operations leave: `Evolves`, for each operation and command. -/
namespace Sys2Proof.Machine
open Sys2Proof
set_option Elab.async false
variable {K : Scope} {s u t₀ : State}

theorem Evolves.setFlag {f : Field} {i : Nat} {b : Bool} (h : Evolves K s u) (hr : K.hasReg f.reg = true := by decide +kernel) :
    Evolves K s (u.setFlag f i b) := by
  unfold State.setFlag
  exact h.setFld hr

theorem Evolves.count {f : Field} {i n : Nat} (h : Evolves K s u) (hr : K.hasReg f.reg = true := by decide +kernel) :
    Evolves K s (u.count f i n) := by
  unfold State.count
  exact h.setFld hr

theorem Evolves.countSat {f : Field} {i : Nat} (h : Evolves K s u) (hr : K.hasReg f.reg = true := by decide +kernel) :
    Evolves K s (u.countSat f i) := by
  unfold State.countSat
  exact Evolves.ite (h.setFld hr) h

theorem Evolves.resetReg {r : Reg} {i : Nat} (h : Evolves K s u) (hr : K.hasReg r = true := by decide +kernel) :
    Evolves K s (u.resetReg r i) := by
  unfold State.resetReg
  exact h.setReg hr

theorem Evolves.resetRegs {rs : List Reg} {i : Nat} (h : Evolves K s u) (hr : ∀ r ∈ rs, K.hasReg r = true := by decide +kernel) :
    Evolves K s (u.resetRegs rs i) := by
  unfold State.resetRegs
  induction rs generalizing u with
  | nil => exact h
  | cons r rs ih => exact ih (h.resetReg (hr r (.head _))) fun q hq => hr q (.tail _ hq)

theorem Evolves.resetRange {r : Reg} {lo n : Nat} (h : Evolves K s u) (hr : K.hasReg r = true := by decide +kernel) :
    Evolves K s (u.resetRange r lo n) := by
  unfold State.resetRange
  exact h.foldl (fun _ h₁ => h₁.resetReg hr)

theorem Evolves.modLfec {n : Nat} {f : LfecX → LfecX} (h : Evolves K s u)
    (hK : (Scope.of [] [.lfec]).le K = true := by decide +kernel) : Evolves K s (u.modLfec n f) := by
  refine h.widen hK fun h => ?_
  unfold State.modLfec
  exact h.same

theorem Evolves.modLrx {n : Nat} {f : LrxX → LrxX} (h : Evolves K s u)
    (hK : (Scope.of [] [.lrx]).le K = true := by decide +kernel) : Evolves K s (u.modLrx n f) := by
  refine h.widen hK fun h => ?_
  unfold State.modLrx
  exact h.same

theorem Evolves.modEqp {n : Nat} {f : EqX → EqX} (h : Evolves K s u) (hK : (Scope.of [] [.eqp]).le K = true := by decide +kernel) :
    Evolves K s (u.modEqp n f) := by
  refine h.widen hK fun h => ?_
  unfold State.modEqp
  exact h.same

theorem Evolves.modGrp {g : Nat} {f : GrpX → GrpX} (h : Evolves K s u)
    (hK : (Scope.of [] [.grp]).le K = true := by decide +kernel) : Evolves K s (u.modGrp g f) := by
  refine h.widen hK fun h => ?_
  unfold State.modGrp
  exact h.same

theorem Evolves.modLtx {n : Nat} {f : LtxX → LtxX} (h : Evolves K s u)
    (hK : (Scope.of [] [.ltx]).le K = true := by decide +kernel) : Evolves K s (u.modLtx n f) := by
  refine h.widen hK fun h => ?_
  unfold State.modLtx
  exact h.same

theorem Evolves.modHsi {h₁ : Nat} {f : HsiX → HsiX} (h : Evolves K s u)
    (hK : (Scope.of [] [.hsi]).le K = true := by decide +kernel) : Evolves K s (u.modHsi h₁ f) := by
  refine h.widen hK fun h => ?_
  unfold State.modHsi
  exact h.same

theorem Evolves.modHpm {p : Nat} {f : HpmX → HpmX} (h : Evolves K s u)
    (hK : (Scope.of [] [.hpm]).le K = true := by decide +kernel) : Evolves K s (u.modHpm p f) := by
  refine h.widen hK fun h => ?_
  unfold State.modHpm
  exact h.same

theorem Evolves.modChan {c : Nat} {f : ChanX → ChanX} (h : Evolves K s u)
    (hK : (Scope.of [] [.chan]).le K = true := by decide +kernel) : Evolves K s (u.modChan c f) := by
  refine h.widen hK fun h => ?_
  unfold State.modChan
  exact h.same

theorem Evolves.modClane {n : Nat} {f : CLaneX → CLaneX} (h : Evolves K s u)
    (hK : (Scope.of [] [.clane]).le K = true := by decide +kernel) : Evolves K s (u.modClane n f) := by
  refine h.widen hK fun h => ?_
  unfold State.modClane
  exact h.same

theorem Evolves.modTlane {n : Nat} {f : TLaneX → TLaneX} (h : Evolves K s u)
    (hK : (Scope.of [] [.tlane]).le K = true := by decide +kernel) : Evolves K s (u.modTlane n f) := by
  refine h.widen hK fun h => ?_
  unfold State.modTlane
  exact h.same

theorem Evolves.modTskIn {i : Nat} {f : TskInX → TskInX} (h : Evolves K s u)
    (hK : (Scope.of [] [.tskIn]).le K = true := by decide +kernel) : Evolves K s (u.modTskIn i f) := by
  refine h.widen hK fun h => ?_
  unfold State.modTskIn
  exact h.same

theorem Evolves.modTskRule {r : Nat} {f : TskRuleX → TskRuleX} (h : Evolves K s u)
    (hK : (Scope.of [] [.tskRule]).le K = true := by decide +kernel) : Evolves K s (u.modTskRule r f) := by
  refine h.widen hK fun h => ?_
  unfold State.modTskRule
  exact h.same

theorem Evolves.modSens {i : Nat} {f : SensX → SensX} (h : Evolves K s u)
    (hK : (Scope.of [] [.sens]).le K = true := by decide +kernel) : Evolves K s (u.modSens i f) := by
  refine h.widen hK fun h => ?_
  unfold State.modSens
  exact h.same

theorem Evolves.modDma {n : Nat} {f : DmaX → DmaX} (h : Evolves K s u)
    (hK : (Scope.of [] [.dma]).le K = true := by decide +kernel) : Evolves K s (u.modDma n f) := by
  refine h.widen hK fun h => ?_
  unfold State.modDma
  exact h.same

theorem Evolves.modMemx {f : MemX → MemX} (h : Evolves K s u) (hK : (Scope.of [] [.memx]).le K = true := by decide +kernel) :
    Evolves K s (u.modMemx f) := by
  refine h.widen hK fun h => ?_
  unfold State.modMemx
  exact h.same

theorem Evolves.modDec {n : Nat} {f : DecX → DecX} (h : Evolves K s u)
    (hK : (Scope.of [] [.dec]).le K = true := by decide +kernel) : Evolves K s (u.modDec n f) := by
  refine h.widen hK fun h => ?_
  unfold State.modDec
  exact h.same

theorem Evolves.modDac {n : Nat} {f : DacX → DacX} (h : Evolves K s u)
    (hK : (Scope.of [] [.dac]).le K = true := by decide +kernel) : Evolves K s (u.modDac n f) := by
  refine h.widen hK fun h => ?_
  unfold State.modDac
  exact h.same

theorem Evolves.modStrm {n : Nat} {f : StreamX → StreamX} (h : Evolves K s u)
    (hK : (Scope.of [] [.strm]).le K = true := by decide +kernel) : Evolves K s (u.modStrm n f) := by
  refine h.widen hK fun h => ?_
  unfold State.modStrm
  exact h.same

theorem Evolves.modHka {f : HkaX → HkaX} (h : Evolves K s u) (hK : (Scope.of [] [.hka]).le K = true := by decide +kernel) :
    Evolves K s (u.modHka f) := by
  refine h.widen hK fun h => ?_
  unfold State.modHka
  exact h.same

theorem Evolves.modPwr {f : PwrX → PwrX} (h : Evolves K s u) (hK : (Scope.of [] [.pwr]).le K = true := by decide +kernel) :
    Evolves K s (u.modPwr f) := by
  refine h.widen hK fun h => ?_
  unfold State.modPwr
  exact h.same

theorem Evolves.modHrn {f : HrnX → HrnX} (h : Evolves K s u) (hK : (Scope.of [] [.hrn]).le K = true := by decide +kernel) :
    Evolves K s (u.modHrn f) := by
  refine h.widen hK fun h => ?_
  unfold State.modHrn
  exact h.same

theorem Evolves.modClk {f : ClkX → ClkX} (h : Evolves K s u) (hK : (Scope.of [] [.clk]).le K = true := by decide +kernel) :
    Evolves K s (u.modClk f) := by
  refine h.widen hK fun h => ?_
  unfold State.modClk
  exact h.same

theorem Evolves.modSec {f : SecX → SecX} (h : Evolves K s u) (hK : (Scope.of [] [.sec]).le K = true := by decide +kernel) :
    Evolves K s (u.modSec f) := by
  refine h.widen hK fun h => ?_
  unfold State.modSec
  exact h.same

theorem Evolves.modMgt {f : MgtX → MgtX} (h : Evolves K s u) (hK : (Scope.of [] [.mgt]).le K = true := by decide +kernel) :
    Evolves K s (u.modMgt f) := by
  refine h.widen hK fun h => ?_
  unfold State.modMgt
  exact h.same

theorem Evolves.modPmc {n : Nat} {f : PmcX → PmcX} (h : Evolves K s u)
    (hK : (Scope.of [] [.pmc]).le K = true := by decide +kernel) : Evolves K s (u.modPmc n f) := by
  refine h.widen hK fun h => ?_
  unfold State.modPmc
  exact h.same

theorem Evolves.log {type kind index : Nat} {words : List Nat} (h : Evolves K s u)
    (hK : (Scope.of [.EVL_DROPPED] [.recorder]).le K = true := by decide +kernel) : Evolves K s (u.log type kind index words) := by
  refine h.widen hK fun h => ?_
  unfold State.log
  exact h.logAt

theorem Evolves.capturedAt {ts : Ts96} (h : Evolves K s u) (hK : (Scope.of [] [.recorder, .mgt]).le K = true := by decide +kernel) :
    Evolves K s (State.capturedAt t₀ ts u) :=
  h.widen hK fun h => h.same (hq := List.length_map _)

/-- What `State.calRun` may change. -/
def calRunScope : Scope := .of [.CAL_COUNT, .CAL_RESULT, .CAL_LAST_TIME, .CAL_LAST_Q, .CAL_VALUE, .EVL_DROPPED] [.recorder]

theorem Evolves.calRun {i result value : Nat} (h : Evolves K s u) (hK : calRunScope.le K = true := by decide +kernel) :
    Evolves K s (u.calRun i result value) := by
  refine h.widen hK fun h => ?_
  unfold State.calRun
  exact h.count.setFld.setFld.setFld.setFld.log

theorem Evolves.showHkaTrims (h : Evolves K s u) (hK : (Scope.of [.CAL_TRIM_BUSY] []).le K = true := by decide +kernel) :
    Evolves K s u.showHkaTrims := by
  refine h.widen hK fun h => ?_
  unfold State.showHkaTrims
  exact h.setFld

theorem Evolves.raise {f : Field} {i bits : Nat} (h : Evolves K s u) (hr : K.hasReg f.reg = true := by decide +kernel)
    (hp : K.hasPart .risen = true := by decide +kernel) : Evolves K s (u.raise f i bits) :=
  (h.setFld (x := u.fld f i ||| bits) hr).same (hk := fun p hq => by cases p <;> first | rfl | exact absurd hp (by rw [hq]; decide))

theorem Evolves.alert {cls : Nat} (h : Evolves K s u)
    (hK : (Scope.of [.GLB_STATE, .MGT_ALERT_STATUS] [.risen, .mgt]).le K = true := by decide +kernel) : Evolves K s (u.alert cls) := by
  refine h.widen hK fun h => ?_
  unfold State.alert
  exact (h.raise.setFlag.when fun h₁ => h₁.same).when fun h₁ => h₁.same

theorem Evolves.regReject {p : Path} {r : Reg} {i v₁ : Nat} (h : Evolves K s u)
    (hK : (Scope.of [.EVL_DROPPED] [.recorder]).le K = true := by decide +kernel) : Evolves K s (u.regReject p r i v₁) := by
  refine h.widen hK fun h => ?_
  unfold State.regReject
  exact h.log

theorem Evolves.rejectWrite {p : Path} {r : Reg} {i v₁ : Nat} (h : Evolves K s u)
    (hK : (Scope.of [.EVL_DROPPED] [.recorder]).le K = true := by decide +kernel) : Evolves K s (rejectWrite p r i v₁ u).1 := by
  refine h.widen hK fun h => ?_
  unfold Machine.rejectWrite
  exact h.regReject

theorem Evolves.plainWrite {r : Reg} {i v₁ : Nat} (h : Evolves K s u) (hr : K.hasReg r = true := by decide +kernel) :
    Evolves K s (plainWrite r i v₁ u) := by
  unfold Machine.plainWrite
  exact h.setReg hr

theorem Evolves.accessViolation {p : Path} {r : Reg} {i v₁ : Nat} (h : Evolves K s u)
    (hK : (Scope.of [.MGT_ACCESS_VIOL, .EVL_DROPPED] [.recorder]).le K = true := by decide +kernel) :
    Evolves K s (u.accessViolation p r i v₁) := by
  refine h.widen hK fun h => ?_
  unfold State.accessViolation
  exact h.count.log

/-- What a refused write may change. -/
def refusalScope : Scope := .of [.MGT_ACCESS_VIOL, .EVL_DROPPED] [.recorder]

theorem Scope.le_trans {K₁ K₂ K₃ : Scope} (h : K₁.le K₂ = true) (h' : K₂.le K₃ = true) : K₁.le K₃ = true := by
  unfold Scope.le at *
  simp only [Bool.or_eq_true, Bool.and_eq_true, Bool.not_eq_true', decide_eq_true_eq] at *
  rcases h' with h' | ⟨⟨hany', hregs'⟩, hparts'⟩
  · exact .inl h'
  · rcases h with h | ⟨⟨hany, hregs⟩, hparts⟩
    · rw [h] at hany'
      cases hany'
    · refine .inr ⟨⟨hany, ?_⟩, ?_⟩
      · calc K₁.regs &&& K₃.regs = K₁.regs &&& K₂.regs &&& K₃.regs := by rw [hregs]
          _ = K₁.regs := by rw [Nat.and_assoc, hregs', hregs]
      · calc K₁.parts &&& K₃.parts = K₁.parts &&& K₂.parts &&& K₃.parts := by rw [hparts]
          _ = K₁.parts := by rw [Nat.and_assoc, hparts', hparts]

theorem Evolves.guardedWrite {p : Path} {r : Reg} {i v : Nat} {act : State → State × WStatus} (h : Evolves K s u)
    (hact : ∀ {v}, Evolves K s v → Evolves K s (act v).1) (hK : refusalScope.le K = true := by decide +kernel) :
    Evolves K s (guardedWrite p r i v act u).1 :=
  guardedWrite_keeps h (h.accessViolation hK) (h.regReject (Scope.le_trans (by decide +kernel) hK)) (hact h)

theorem Evolves.unstage {k : RegKey} (h : Evolves K s u) (hp : K.hasPart .staged = true := by decide +kernel) :
    Evolves K s (u.unstage k) := by
  unfold State.unstage
  exact h.same (hk := fun p hq => by cases p <;> first | exact absurd hp (by rw [hq]; decide) | rfl)

theorem Evolves.commitWhole {r : Reg} {i v : Nat} {act : State → State × WStatus} (h : Evolves K s u)
    (hact : ∀ {v}, Evolves K s v → Evolves K s (act v).1) (hs : K.hasPart .staged = true := by decide +kernel)
    (hc : K.hasPart .committed = true := by decide +kernel) : Evolves K s (commitWhole r i v act u).1 := by
  have hu : Evolves K s (u.unstage (r, i)) := h.unstage hs
  obtain ⟨-, ⟨-, e⟩ | ⟨-, e⟩⟩ := commitWhole_cases r i v act u <;> rw [e]
  · exact (hact hu).same (hk := fun p hq => by cases p <;> first | rfl | exact absurd hc (by rw [hq]; decide))
  · exact hact hu

theorem commitCommand_answers {p : Path} {r : Reg} {i v : Nat} {act : State → State × WStatus} (h : Evolves .all s u)
    (hact : ∀ {v}, Evolves .all s v → Evolves .all s (act v).1) : Answers s (commitCommand p r i v act u) :=
  .next (h.guardedWrite fun h => h.commitWhole hact)

theorem writeCommand_answers {p : Path} {r : Reg} {i v : Nat} {act : State → State × WStatus} (h : Evolves .all s u)
    (hact : ∀ {v}, Evolves .all s v → Evolves .all s (act v).1) : Answers s (writeCommand p r i v act u) :=
  .next (h.guardedWrite hact)

theorem Evolves.oamIn {n : Nat} {f : State → State} (h : Evolves K s u) (hf : ∀ {v}, Evolves K s v → Evolves K s (f v))
    (hr : K.hasReg .LFEC_OAM_RX = true := by decide +kernel) : Evolves K s (u.oamIn n f) := by
  unfold State.oamIn
  exact .ite (hf (h.count hr)) h

end Sys2Proof.Machine
end

section
/-! SUPPORT. What the stores and their codes leave: `Evolves`, for each operation and command. -/
namespace Sys2Proof.Machine
open Sys2Proof
set_option Elab.async false
variable {K : Scope} {s u t₀ : State}

theorem Evolves.setArmed {m : Nat} {on : Bool} (h : Evolves K s u)
    (hK : (Scope.of [.MEM_REGION_ARMED] []).le K = true := by decide +kernel) : Evolves K s (u.setArmed m on) := by
  refine h.widen hK fun h => ?_
  unfold State.setArmed
  exact h.setFld

theorem Evolves.setErr {w mask : Nat} {injected : Bool} (h : Evolves K s u)
    (hK : (Scope.of [] [.memx]).le K = true := by decide +kernel) : Evolves K s (u.setErr w mask injected) := by
  refine h.widen hK fun h => ?_
  unfold State.setErr
  exact h.modMemx

theorem Evolves.setPoison {a : Nat} {on : Bool} (h : Evolves K s u) (hK : (Scope.of [] [.memx]).le K = true := by decide +kernel) :
    Evolves K s (u.setPoison a on) := by
  refine h.widen hK fun h => ?_
  unfold State.setPoison
  exact h.modMemx

theorem Evolves.logMem {kind m a : Nat} {injected : Bool} (h : Evolves K s u)
    (hK : (Scope.of [.EVL_DROPPED] [.recorder]).le K = true := by decide +kernel) : Evolves K s (u.logMem kind m a injected) := by
  refine h.widen hK fun h => ?_
  unfold State.logMem
  exact h.logAt

theorem Evolves.showSlots {n : Nat} (h : Evolves K s u)
    (hK : (Scope.of [.CIN_LANE_STATUS] [.clane]).le K = true := by decide +kernel) : Evolves K s (u.showSlots n) := by
  refine h.widen hK fun h => ?_
  unfold State.showSlots
  exact Evolves.ite h (h.modClane.skip fun h₁ => h₁.setFld)

theorem Evolves.mapOut {m page : Nat} (h : Evolves K s u)
    (hK : (Scope.of [.CIN_LANE_STATUS] [.clane, .memx]).le K = true := by decide +kernel) : Evolves K s (u.mapOut m page) := by
  refine h.widen hK fun h => ?_
  unfold State.mapOut
  exact h.modMemx.each (fun _ h₁ => h₁.modClane.showSlots)

theorem Evolves.showSpares (h : Evolves K s u) (hK : (Scope.of [.MEM_STATUS] []).le K = true := by decide +kernel) :
    Evolves K s u.showSpares := by
  refine h.widen hK fun h => ?_
  unfold State.showSpares
  exact h.setFld.setFlag

/-- What `State.retire` may change. -/
def retireScope : Scope := .of [.GLB_STATE, .CIN_LANE_STATUS, .MGT_ALERT_STATUS, .MEM_STATUS, .MEM_SPARE, .EVL_DROPPED] [.risen,
    .recorder, .clane, .mgt, .memx]

theorem Evolves.retire {m page : Nat} {injected : Bool} (h : Evolves K s u) (hK : retireScope.le K = true := by decide +kernel) :
    Evolves K s (u.retire m page injected) := by
  refine h.widen hK fun h => ?_
  unfold State.retire
  refine Evolves.ite h ?_
  exact Evolves.ite h.mapOut.countSat.logMem.alert (Evolves.ite h.showSpares.logMem h.modMemx.setFld.countSat.showSpares.logMem.alert)

/-- What `State.repairPage` may change. -/
def repairPageScope : Scope := .of [.GLB_STATE, .CIN_LANE_STATUS, .MGT_ALERT_STATUS, .MEM_STATUS, .MEM_SPARE, .MEM_REPAIR, .EVL_DROPPED]
    [.risen, .recorder, .clane, .mgt, .memx]

theorem Evolves.repairPage {m page : Nat} (h : Evolves K s u) (hK : repairPageScope.le K = true := by decide +kernel) :
    Evolves K s (u.repairPage m page) := by
  refine h.widen hK fun h => ?_
  unfold State.repairPage
  exact h.count.modMemx.when fun h₁ => h₁.retire

theorem Evolves.losePage {m page : Nat} (h : Evolves K s u) (hK : retireScope.le K = true := by decide +kernel) :
    Evolves K s (u.losePage m page) := by
  refine h.widen hK fun h => ?_
  unfold State.losePage
  exact ((h.foldl (fun _ h₁ => h₁.setPoison)).modMemx).retire

theorem Evolves.mendPage {m page : Nat} (h : Evolves K s u) (hK : repairPageScope.le K = true := by decide +kernel) :
    Evolves K s (u.mendPage m page) := by
  refine h.widen hK fun h => ?_
  unfold State.mendPage
  exact Evolves.ite h.repairPage h.losePage

/-- What `State.poisonRead` may change. -/
def poisonReadScope : Scope := .of [.GLB_STATE, .MGT_ALERT_STATUS, .MEM_LAST_POISON, .MEM_POISON_CNT, .MEM_POISON, .EVL_DROPPED] [.risen,
    .recorder, .mgt]

theorem Evolves.poisonRead {m a kind : Nat} {mgmt injected : Bool} (h : Evolves K s u)
    (hK : poisonReadScope.le K = true := by decide +kernel) : Evolves K s (u.poisonRead m a kind mgmt injected) := by
  refine h.widen hK fun h => ?_
  unfold State.poisonRead
  exact ((h.count.count.when fun h₁ => h₁.setReg).logMem).alert

/-- What `State.readWord` may change. -/
def readWordScope : Scope := .of [.GLB_STATE, .CIN_LANE_STATUS, .MGT_ALERT_STATUS, .MEM_STATUS, .MEM_LAST_POISON, .MEM_POISON_CNT,
    .MEM_SPARE, .MEM_CORR, .MEM_REPAIR, .MEM_POISON, .EVL_DROPPED] [.risen, .recorder, .clane, .mgt, .memx]

theorem Evolves.readWord {m w : Nat} {mgmt : Bool} (h : Evolves K s u) (hK : readWordScope.le K = true := by decide +kernel) :
    Evolves K s (u.readWord m w mgmt).2.2 := by
  refine h.widen hK fun h => ?_
  unfold State.readWord
  dsimp only
  split
  · exact h.poisonRead
  · split
    · exact Evolves.ite h h.count
    · split
      · exact h.poisonRead
      · split
        exacts [h.repairPage, h.losePage.poisonRead]

theorem Evolves.storeRead {a n : Nat} {mgmt : Bool} (h : Evolves K s u) (hK : readWordScope.le K = true := by decide +kernel) :
    Evolves K s (u.storeRead a n mgmt).2 := by
  refine h.widen hK fun h => ?_
  unfold State.storeRead
  split
  · exact h
  · split
    · exact h
    · exact h.snd.foldlSnd fun _ h => h.readWord

theorem Evolves.datapathRead {a n : Nat} {seen : Bool} (h : Evolves K s u)
    (hK : (Scope.of [] [.memx]).le K = true := by decide +kernel) : Evolves K s (u.datapathRead a n seen).2 := by
  refine h.widen hK fun h => ?_
  unfold State.datapathRead
  dsimp only
  split
  exacts [h, Evolves.ite h h.modMemx]

theorem Evolves.flip {m u₁ a : Nat} (h : Evolves K s u)
    (hK : (Scope.of [.MEM_FLIP_MASK] [.memx]).le K = true := by decide +kernel) : Evolves K s (u.flip m u₁ a) := by
  refine h.widen hK fun h => ?_
  unfold State.flip
  exact Evolves.ite (((Evolves.ite h.setErr h.modMemx).modMemx).when fun h₁ => h₁.setFlag) h

/-- What `State.writeCodes` may change. -/
def writeCodesScope : Scope := .of [.GLB_STATE, .CIN_LANE_STATUS, .MGT_ALERT_STATUS, .MEM_STATUS, .MEM_FLIP_MASK, .MEM_SPARE, .MEM_REPAIR,
    .EVL_DROPPED] [.risen, .recorder, .clane, .mgt, .memx]

theorem Evolves.writeCodes {m u₁ a n : Nat} (h : Evolves K s u) (hK : writeCodesScope.le K = true := by decide +kernel) :
    Evolves K s (u.writeCodes m u₁ a n) := by
  refine h.widen hK fun h => ?_
  unfold State.writeCodes
  exact (((Evolves.ite (Evolves.ite h.mendPage (Evolves.ite h h.setPoison)) h).foldl (fun _ h₁ => h₁.setErr)).when fun h₁ =>
      h₁.setPoison).flip

/-- What `State.storeWrite` may change. -/
def storeWriteScope : Scope := .of [.GLB_STATE, .CIN_LANE_STATUS, .MGT_ALERT_STATUS, .MEM_STATUS, .MEM_FLIP_MASK, .MEM_SPARE, .MEM_REPAIR,
    .EVL_DROPPED] [.risen, .recorder, .clane, .mgt, .mem, .memx]

theorem Evolves.storeWrite {a : Nat} {bs : List Byte} (h : Evolves K s u) (hK : storeWriteScope.le K = true := by decide +kernel) :
    Evolves K s (u.storeWrite a bs) := by
  refine h.widen hK fun h => ?_
  unfold State.storeWrite
  dsimp only
  split
  exacts [h, (Evolves.ite h (h.each (fun _ h₁ => h₁.writeCodes))).setMemBytes]

theorem Evolves.fillMem {a n : Nat} {pattern : List Byte} (h : Evolves K s u)
    (hK : (Scope.of [] [.mem, .memx]).le K = true := by decide +kernel) : Evolves K s (u.fillMem a n pattern) := by
  refine h.widen hK fun h => ?_
  unfold State.fillMem
  exact h.clearMem.skip fun h₁ => h₁.setMemBytes

theorem Evolves.loseRegion {m : Nat} (h : Evolves K s u)
    (hK : (Scope.of [.MEM_REGION_ARMED] [.mem, .memx]).le K = true := by decide +kernel) : Evolves K s (u.loseRegion m) := by
  refine h.widen hK fun h => ?_
  unfold State.loseRegion
  exact h.setArmed.clearMem.modMemx

theorem Evolves.initRegion {m : Nat} (h : Evolves K s u)
    (hK : (Scope.of [.MEM_REGION_ARMED] [.mem, .memx]).le K = true := by decide +kernel) : Evolves K s (u.initRegion m) := by
  refine h.widen hK fun h => ?_
  unfold State.initRegion
  exact h.clearMem.setArmed

theorem Evolves.wrFlipMask {p : Path} {v₁ : Nat} (h : Evolves K s u)
    (hK : (Scope.of [.MEM_FLIP_MASK, .EVL_DROPPED] [.recorder, .memx]).le K = true := by decide +kernel) :
    Evolves K s (wrFlipMask p v₁ u).1 := by
  refine h.widen hK fun h => ?_
  unfold Machine.wrFlipMask
  split
  exacts [h.rejectWrite, .fst h.plainWrite.modMemx]

theorem Evolves.wrScrubCfg {p : Path} {m v₁ : Nat} (h : Evolves K s u)
    (hK : (Scope.of [.MEM_SCRUB_CFG, .EVL_DROPPED] [.recorder, .memx]).le K = true := by decide +kernel) :
    Evolves K s (wrScrubCfg p m v₁ u).1 := by
  refine h.widen hK fun h => ?_
  unfold Machine.wrScrubCfg
  dsimp only
  split
  · exact h
  · split
    exacts [h.rejectWrite, h.plainWrite.when fun h₁ => h₁.modMemx]

theorem execPageRepairDone_answers {m : Fin 21} {page : BitVec 10} (h : Evolves .all s u) : Answers s (execPageRepairDone m page u) := by
  unfold execPageRepairDone
  exact Answers.ite (.next h.mendPage.modMemx) (.next h)

theorem execRetirementCopyDone_answers {m : Fin 21} {page : BitVec 10} (h : Evolves .all s u) :
    Answers s (execRetirementCopyDone m page u) := by
  unfold execRetirementCopyDone
  exact Answers.ite (.next ((Evolves.ite h h.losePage).modMemx)) (.next h)

/-- What `State.scrubWord` may change. -/
def scrubWordScope : Scope := .of [.GLB_STATE, .CIN_LANE_STATUS, .MGT_ALERT_STATUS, .MEM_STATUS, .MEM_SPARE, .MEM_CORR, .EVL_DROPPED]
    [.risen, .recorder, .clane, .mgt, .memx]

theorem Evolves.scrubWord {m w : Nat} (h : Evolves K s u) (hK : scrubWordScope.le K = true := by decide +kernel) :
    Evolves K s (u.scrubWord m w) := by
  refine h.widen hK fun h => ?_
  unfold State.scrubWord
  exact Evolves.ite (h.count.setErr.modMemx.when fun h₁ => h₁.retire) h

/-- What `State.scrubPageEnd` may change. -/
def scrubPageEndScope : Scope := .of [.GLB_STATE, .MGT_ALERT_STATUS, .MEM_SCRUB_LAP, .MEM_LAP_COUNT] [.risen, .mgt, .memx]

theorem Evolves.scrubPageEnd {m page start : Nat} (h : Evolves K s u) (hK : scrubPageEndScope.le K = true := by decide +kernel) :
    Evolves K s (u.scrubPageEnd m page start) := by
  refine h.widen hK fun h => ?_
  unfold State.scrubPageEnd
  exact (Evolves.ite h.modMemx.alert h).cond (fun h₁ => h₁.modMemx) (fun h₁ => h₁.setFld.count.modMemx)

theorem execScrubBeat_answers {m : Fin 21} {upsets : List (Fin 32 × BitVec 72)} (h : Evolves .all s u) :
    Answers s (execScrubBeat m upsets u) := by
  unfold execScrubBeat
  refine Answers.ite (.next h) ?_
  exact .next (((h.foldl (fun _ h₁ => h₁.setErr)).each (fun _ h₁ => h₁.scrubWord)).cond (fun h₁ => h₁.modMemx) (fun h₁ =>
      h₁.scrubPageEnd))

theorem execFlipMaskCommit_answers {p : Path} {value : BitVec 128} (h : Evolves .all s u) : Answers s (execFlipMaskCommit p value u) := by
  unfold execFlipMaskCommit
  exact commitCommand_answers h (fun h₁ => h₁.wrFlipMask)

end Sys2Proof.Machine
end

section
/-! SUPPORT. What the performance counters leave: `Evolves`, for each operation and command. -/
namespace Sys2Proof.Machine
open Sys2Proof
set_option Elab.async false
variable {K : Scope} {s u t₀ : State}

theorem Evolves.pmcTotal {src sel i : Nat} (h : Evolves K s u) (hK : (Scope.of [] []).le K = true := by decide +kernel) :
    Evolves K s (u.pmcTotal src sel i).2 := by
  refine h.widen hK fun h => ?_
  unfold State.pmcTotal
  split
  exacts [h, h, h, h, h, h, h, h, h, h, h, h, h, h, h, h, h, h, h, h, h, h, h, h, h, h]

theorem Evolves.pmcReload {k : Nat} (h : Evolves K s u) (hK : (Scope.of [.PMC_VALUE] [.pmc]).le K = true := by decide +kernel) :
    Evolves K s (u.pmcReload k) := by
  refine h.widen hK fun h => ?_
  unfold State.pmcReload
  exact h.setFld.modPmc

theorem Evolves.pmcWindow {stepped : Bool} (h : Evolves K s u)
    (hK : (Scope.of [.PMC_VALUE, .PMC_WIN] [.pmc]).le K = true := by decide +kernel) : Evolves K s (u.pmcWindow stepped) := by
  refine h.widen hK fun h => ?_
  unfold State.pmcWindow
  exact h.each (fun _ h₁ => h₁.setFlag.setFlag.setFld.pmcReload.modPmc)

theorem Evolves.wrPmcCtl {p : Path} {k v₁ : Nat} (h : Evolves K s u)
    (hK : (Scope.of [.EVL_DROPPED, .PMC_CTL, .PMC_VALUE] [.recorder, .pmc]).le K = true := by decide +kernel) :
    Evolves K s (wrPmcCtl p k v₁ u).1 := by
  refine h.widen hK fun h => ?_
  unfold Machine.wrPmcCtl
  dsimp only
  split
  · exact h.rejectWrite
  · split
    · exact h.rejectWrite
    · split
      exacts [h.plainWrite.pmcTotal.setFld.modPmc, h.plainWrite.skip fun h₁ => h₁.modPmc]

theorem Evolves.wrPmcGlobal {p : Path} {v₁ : Nat} (h : Evolves K s u)
    (hK : (Scope.of [.EVL_DROPPED, .PMC_GLOBAL] [.recorder, .pmc, .pmcSnap]).le K = true := by decide +kernel) :
    Evolves K s (wrPmcGlobal p v₁ u).1 := by
  refine h.widen hK fun h => ?_
  unfold Machine.wrPmcGlobal
  dsimp only
  split
  exacts [h.rejectWrite, (h.plainWrite.when fun h₁ => h₁.same).when fun h₁ => h₁.each (fun _ h₂ => h₂.modPmc)]

theorem execPmcCtlWrite_answers {p : Path} {k : Fin 128} {value : Word32} (h : Evolves .all s u) :
    Answers s (execPmcCtlWrite p k value u) := by
  unfold execPmcCtlWrite
  exact writeCommand_answers h (fun h₁ => h₁.wrPmcCtl)

theorem execPmcWindowBoundary_answers (h : Evolves .all s u) : Answers s (execPmcWindowBoundary u) := by
  unfold execPmcWindowBoundary
  exact .next (Evolves.ite h.pmcWindow h)

theorem execSnap_answers {p : Path} (h : Evolves .all s u) : Answers s (execSnap p u) := by
  unfold execSnap
  exact writeCommand_answers h (fun h₁ => h₁.wrPmcGlobal)

theorem Evolves.pmcWrap {k : Nat} (h : Evolves K s u)
    (hK : (Scope.of [.EVL_DROPPED, .PMC_VALUE, .PMC_SAMPLE_DROP] [.recorder, .pmc]).le K = true := by decide +kernel) :
    Evolves K s (u.pmcWrap k) := by
  refine h.widen hK fun h => ?_
  unfold State.pmcWrap
  dsimp only
  split
  · exact h
  · exact h.modPmc.skip fun h₁ => Evolves.ite h₁.count.pmcReload ((h₁.logAt.cond (fun h₂ => h₂.count) (fun h₂ => h₂.modPmc)).pmcReload)

theorem execCounterWrap_answers {k : Fin 128} (h : Evolves .all s u) : Answers s (execCounterWrap k u) := by
  unfold execCounterWrap
  exact .next ((h.each (fun _ h₁ => h₁.pmcWrap)).pmcWrap)

end Sys2Proof.Machine
end

section
/-! SUPPORT. What the time base leave: `Evolves`, for each operation and command. -/
namespace Sys2Proof.Machine
open Sys2Proof
set_option Elab.async false
variable {K : Scope} {s u t₀ : State}

theorem Evolves.setNow16 {x : Int} (h : Evolves K s u) (hK : (Scope.of [] [.time]).le K = true := by decide +kernel) :
    Evolves K s (u.setNow16 x) :=
  h.widen hK fun h => h.setTime fun _ => by
    have := Nat.mod_lt x.toNat (show 0 < 10 ^ 9 * 2 ^ 16 by decide)
    simp only [clockRange]
    omega

theorem Evolves.setBound {b : Nat} (h : Evolves K s u) (hK : (Scope.of [.TMB_ERR_BOUND] [.time]).le K = true := by decide +kernel) :
    Evolves K s (u.setBound b) := by
  refine h.widen hK fun h => ?_
  unfold State.setBound
  exact h.same.setFld

theorem Evolves.rebaseBound (h : Evolves K s u) (hK : (Scope.of [.TMB_ERR_BOUND] [.time]).le K = true := by decide +kernel) :
    Evolves K s u.rebaseBound := by
  refine h.widen hK fun h => ?_
  unfold State.rebaseBound
  exact h.setBound

theorem Evolves.calAbort (h : Evolves K s u) (hK : (Scope.of [.TMB_STATUS] []).le K = true := by decide +kernel) :
    Evolves K s u.calAbort := by
  refine h.widen hK fun h => ?_
  unfold State.calAbort
  exact Evolves.ite h.setFlag.setFld h

theorem Evolves.setQuality {q b : Nat} (h : Evolves K s u)
    (hK : (Scope.of [.TMB_QUALITY, .TMB_ERR_BOUND, .TMB_STATUS] [.time]).le K = true := by decide +kernel) :
    Evolves K s (u.setQuality q b) := by
  refine h.widen hK fun h => ?_
  unfold State.setQuality
  exact (h.setFld.setBound.setFlag.when fun h₁ => h₁.calAbort).when fun h₁ => h₁.same

theorem Evolves.toHoldover (h : Evolves K s u)
    (hK : (Scope.of [.TMB_QUALITY, .TMB_ERR_BOUND, .TMB_STATUS] [.time]).le K = true := by decide +kernel) :
    Evolves K s u.toHoldover := by
  refine h.widen hK fun h => ?_
  unfold State.toHoldover
  exact Evolves.ite h.setQuality h

/-- What `State.stepTo` may change. -/
def stepToScope : Scope := .of [.TMB_QUALITY, .TMB_ERR_BOUND, .TMB_STATUS, .EVL_DROPPED, .PMC_VALUE, .PMC_WIN] [.risen, .recorder, .lrx,
    .ltx, .time, .tlane, .pmc]

theorem Evolves.stepTo {x : ℤ} {q b : Nat} (h : Evolves K s u) (hK : stepToScope.le K = true := by decide +kernel) :
    Evolves K s (u.stepTo x q b) := by
  refine h.widen hK fun h => ?_
  unfold State.stepTo
  exact (((((h.setNow16.each (fun _ h₁ => h₁.modTlane.modLtx.modLrx)).same).raise).pmcWindow).setQuality).log

theorem Evolves.noteBest (h : Evolves K s u) (hK : (Scope.of [] [.time]).le K = true := by decide +kernel) : Evolves K s u.noteBest := by
  refine h.widen hK fun h => ?_
  unfold State.noteBest
  exact h.same

theorem Evolves.showSource (h : Evolves K s u)
    (hK : (Scope.of [.TMB_QUALITY, .TMB_LANE_FLAGS] []).le K = true := by decide +kernel) : Evolves K s u.showSource := by
  refine h.widen hK fun h => ?_
  unfold State.showSource
  dsimp only
  exact (((h.each (fun _ h₁ => h₁.setFlag (f := TMB_LANE_FLAGS.USED))).setFld (f := TMB_QUALITY.SRC_LANE)).setFlag (f := TMB_QUALITY.IS_SOURCE)).step fun h₁ =>
      by split; exacts [h₁.setFld.setFld, h₁.setFld.setFld, (by split; exacts [h₁.setFld.setFld, h₁])]

theorem Evolves.stepToSource {th : ℤ} (h : Evolves K s u) (hK : stepToScope.le K = true := by decide +kernel) :
    Evolves K s (u.stepToSource th) := by
  refine h.widen hK fun h => ?_
  unfold State.stepToSource
  exact h.stepTo

theorem Evolves.reselect {th : Int} (h : Evolves K s u) (hK : stepToScope.le K = true := by decide +kernel) :
    Evolves K s (u.reselect th).1 := by
  refine h.widen hK fun h => ?_
  unfold State.reselect
  split
  · exact h
  · dsimp only
    split
    exacts [Evolves.stepToSource h.same, h.same]

/-- What `State.takeSource` may change. -/
def takeSourceScope : Scope := .of [.TMB_QUALITY, .TMB_ERR_BOUND, .TMB_STATUS, .TMB_LANE_FLAGS, .EVL_DROPPED, .PMC_VALUE, .PMC_WIN]
    [.risen, .recorder, .lrx, .ltx, .time, .tlane, .pmc]

theorem Evolves.takeSource {k : TimeSource} (h : Evolves K s u) (hK : takeSourceScope.le K = true := by decide +kernel) :
    Evolves K s (u.takeSource k) := by
  refine h.widen hK fun h => ?_
  unfold State.takeSource
  dsimp only
  split
  · exact Evolves.reselect (.showSource h.calAbort.same)
  · exact .showSource h.calAbort.same

theorem Evolves.dropSource (h : Evolves K s u)
    (hK : (Scope.of [.TMB_QUALITY, .TMB_ERR_BOUND, .TMB_STATUS, .TMB_LANE_FLAGS] [.time]).le K = true := by decide +kernel) :
    Evolves K s u.dropSource := by
  refine h.widen hK fun h => ?_
  unfold State.dropSource
  exact h.toHoldover.same.calAbort.showSource

theorem Evolves.selectFirst (h : Evolves K s u) (hK : takeSourceScope.le K = true := by decide +kernel) : Evolves K s u.selectFirst := by
  refine h.widen hK fun h => ?_
  unfold State.selectFirst
  dsimp only
  exact h.noteBest.when fun h₁ => (by split; exacts [h₁.takeSource, h₁])

theorem Evolves.servo {th : ℤ} (h : Evolves K s u) (hK : (Scope.of [.TMB_RATE] [.time]).le K = true := by decide +kernel) :
    Evolves K s (u.servo th) := by
  refine h.widen hK fun h => ?_
  unfold State.servo
  exact (h.setFld (f := TMB_RATE.ADJ)).same

theorem Evolves.followerBound (h : Evolves K s u)
    (hK : (Scope.of [.TMB_ERR_BOUND] [.freeCtr, .time]).le K = true := by decide +kernel) : Evolves K s u.followerBound := by
  refine h.widen hK fun h => ?_
  unfold State.followerBound
  exact h.fresh.setBound

theorem Evolves.followQuality (h : Evolves K s u)
    (hK : (Scope.of [.TMB_QUALITY, .TMB_ERR_BOUND, .TMB_STATUS] [.time]).le K = true := by decide +kernel) :
    Evolves K s u.followQuality := by
  refine h.widen hK fun h => ?_
  unfold State.followQuality
  split
  exacts [Evolves.ite h h.toHoldover, h]

/-- What `State.servoSample` may change. -/
def servoSampleScope : Scope := .of [.TMB_QUALITY, .TMB_ERR_BOUND, .TMB_RATE, .TMB_STATUS, .EVL_DROPPED, .PMC_VALUE, .PMC_WIN] [.freeCtr,
    .risen, .recorder, .lrx, .ltx, .time, .tlane, .pmc]

theorem Evolves.servoSample {th : ℤ} (h : Evolves K s u) (hK : servoSampleScope.le K = true := by decide +kernel) :
    Evolves K s (u.servoSample th) := by
  refine h.widen hK fun h => ?_
  unfold State.servoSample
  refine Evolves.ite h.reselect ?_
  exact h.reselect.same.cond (fun h₁ => h₁.stepToSource) (fun h₁ => (h₁.servo.when fun h₂ => h₂.same.rebaseBound).when fun h₂ =>
      h₂.followerBound)

/-- What `State.thetaSample` may change. -/
def thetaSampleScope : Scope := .join [servoSampleScope, .of [.TMB_OFFSET, .TMB_LANE_FLAGS, .TMB_EXCH, .TMB_OUTLIER] []]

theorem Evolves.thetaSample {n : Nat} {th : ℤ} (h : Evolves K s u) (hK : thetaSampleScope.le K = true := by decide +kernel) :
    Evolves K s (u.thetaSample n th) := by
  refine h.widen hK fun h => ?_
  unfold State.thetaSample
  dsimp only
  exact h.setFld.count.modTlane.skip fun h₁ => (Evolves.ite (h₁.count.modTlane.when fun h₂ =>
      h₂.setFlag.log.showSource) (h₁.modTlane.when fun h₂ => h₂.setFlag.modTlane.log.showSource)).skip fun h₂ =>
      (by split; exacts [h₂.servoSample, h₂])

theorem Evolves.timeWord {n m mf : Nat} {x : ℤ} (h : Evolves K s u) (hK : (Scope.of [] [.tlane]).le K = true := by decide +kernel) :
    Evolves K s (u.timeWord n m mf x).2 := by
  refine h.widen hK fun h => ?_
  unfold State.timeWord
  dsimp only
  split
  · exact h.modTlane
  · split
    exacts [h.modTlane, h]
  · exact h
  · exact h
  · exact h

theorem Evolves.timeDisplaced {n m : Nat} {x : ℤ} (h : Evolves K s u)
    (hK : (Scope.of [] [.tlane]).le K = true := by decide +kernel) : Evolves K s (u.timeDisplaced n m x) := by
  refine h.widen hK fun h => ?_
  unfold State.timeDisplaced
  exact Evolves.ite h.modTlane h

theorem Evolves.timeLaneDown {n : Nat} (h : Evolves K s u)
    (hK : (Scope.of [.TMB_QUALITY, .TMB_LANE_FLAGS] [.time, .tlane]).le K = true := by decide +kernel) :
    Evolves K s (u.timeLaneDown n) := by
  refine h.widen hK fun h => ?_
  unfold State.timeLaneDown
  exact h.modTlane.showSource.noteBest

theorem Evolves.cinRtt {n : Nat} (h : Evolves K s u)
    (hK : (Scope.of [.CIN_LANE_CFG, .CIN_LANE_STATUS] []).le K = true := by decide +kernel) : Evolves K s (u.cinRtt n) := by
  refine h.widen hK fun h => ?_
  unfold State.cinRtt
  exact Evolves.ite h.setFld.setFlag h

theorem Evolves.rxFine {n v₁ : Nat} {a2 : ℤ} (h : Evolves K s u)
    (hK : (Scope.of [.TMB_RTT, .CIN_LANE_CFG, .CIN_LANE_STATUS] [.tlane]).le K = true := by decide +kernel) :
    Evolves K s (u.rxFine n v₁ a2) := by
  refine h.widen hK fun h => ?_
  unfold State.rxFine
  dsimp only
  refine Evolves.ite h ?_
  split
  exacts [h, h.setFld.setFlag.modTlane.cinRtt]

theorem Evolves.coarseRx {n v₁ : Nat} (h : Evolves K s u) (hK : thetaSampleScope.le K = true := by decide +kernel) :
    Evolves K s (u.coarseRx n v₁) := by
  refine h.widen hK fun h => ?_
  unfold State.coarseRx
  dsimp only
  exact h.modTlane.step fun h₁ => by split; exacts [h₁, Evolves.ite h₁ h₁.thetaSample]

/-- What `State.sourceRx` may change. -/
def sourceRxScope : Scope := .of [.TMB_QUALITY, .TMB_ERR_BOUND, .TMB_STATUS, .TMB_LANE_STATUS, .TMB_LANE_FLAGS, .EVL_DROPPED, .PMC_VALUE,
    .PMC_WIN] [.risen, .recorder, .lrx, .ltx, .time, .tlane, .pmc]

theorem Evolves.sourceRx {n : Nat} {w : BitVec 40} (h : Evolves K s u) (hK : sourceRxScope.le K = true := by decide +kernel) :
    Evolves K s (u.sourceRx n w) := by
  refine h.widen hK fun h => ?_
  unfold State.sourceRx
  exact (h.modTlane.setFld.setFld.setFld.setFld.when fun h₁ => Evolves.ite h₁.dropSource h₁.followQuality.showSource).selectFirst

theorem Evolves.farNodeSeen {n id : Nat} (h : Evolves K s u) (hK : takeSourceScope.le K = true := by decide +kernel) :
    Evolves K s (u.farNodeSeen n id) := by
  refine h.widen hK fun h => ?_
  unfold State.farNodeSeen
  exact (h.modTlane.when fun h₁ => h₁.log).selectFirst

/-- What `State.timeLaneClose` may change. -/
def timeLaneCloseScope : Scope := .of [.TMB_QUALITY, .TMB_ASYM, .TMB_ASYM_UNC, .TMB_RTT, .TMB_OFFSET, .TMB_LANE_STATUS, .TMB_LANE_FLAGS,
    .TMB_FRAME_TX, .TMB_FRAME_RX, .TMB_TIME_RX, .TMB_SUB_RSVD, .TMB_EXCH, .TMB_OUTLIER, .EVL_DROPPED] [.recorder, .time, .tlane]

theorem Evolves.timeLaneClose {n : Nat} (h : Evolves K s u) (hK : timeLaneCloseScope.le K = true := by decide +kernel) :
    Evolves K s (u.timeLaneClose n) := by
  refine h.widen hK fun h => ?_
  unfold State.timeLaneClose
  exact h.log.resetRegs.modTlane.showSource.noteBest

/-- What `wrTmbSrcCfg` may change. -/
def wrTmbSrcCfgScope : Scope := .of [.TMB_QUALITY, .TMB_ERR_BOUND, .TMB_SRC_CFG, .TMB_STATUS, .TMB_LANE_FLAGS, .EVL_DROPPED, .PMC_VALUE,
    .PMC_WIN] [.risen, .recorder, .lrx, .ltx, .time, .tlane, .pmc]

theorem Evolves.wrTmbSrcCfg {p : Path} {v₁ : Nat} (h : Evolves K s u) (hK : wrTmbSrcCfgScope.le K = true := by decide +kernel) :
    Evolves K s (wrTmbSrcCfg p v₁ u).1 := by
  refine h.widen hK fun h => ?_
  unfold Machine.wrTmbSrcCfg
  dsimp only
  split
  exacts [h.rejectWrite, (h.plainWrite.when fun h₁ => h₁.dropSource).selectFirst]

theorem Evolves.wrTmbHoldCfg {p : Path} {v₁ : Nat} (h : Evolves K s u)
    (hK : (Scope.of [.TMB_ERR_BOUND, .TMB_HOLD_CFG, .EVL_DROPPED] [.recorder, .time]).le K = true := by decide +kernel) :
    Evolves K s (wrTmbHoldCfg p v₁ u).1 := by
  refine h.widen hK fun h => ?_
  unfold Machine.wrTmbHoldCfg
  dsimp only
  split
  exacts [h.rejectWrite, h.rebaseBound.plainWrite.rebaseBound]

theorem Evolves.wrTmbPpsCfg {p : Path} {v₁ : Nat} (h : Evolves K s u)
    (hK : (Scope.of [.TMB_PPS_CFG, .EVL_DROPPED] [.recorder, .time]).le K = true := by decide +kernel) :
    Evolves K s (wrTmbPpsCfg p v₁ u).1 := by
  refine h.widen hK fun h => ?_
  unfold Machine.wrTmbPpsCfg
  dsimp only
  split
  exacts [h.rejectWrite, (h.plainWrite (r := .TMB_PPS_CFG)).same.when fun h₁ => h₁.same]

theorem Evolves.wrTmbPpsSec {p : Path} {v₁ : Nat} (h : Evolves K s u)
    (hK : (Scope.of [.TMB_PPS_SEC, .EVL_DROPPED] [.recorder]).le K = true := by decide +kernel) : Evolves K s (wrTmbPpsSec p v₁ u).1 := by
  refine h.widen hK fun h => ?_
  unfold Machine.wrTmbPpsSec
  split
  exacts [h.rejectWrite, h.plainWrite]

/-- What `wrTmbSet` may change. -/
def wrTmbSetScope : Scope := .of [.TMB_QUALITY, .TMB_ERR_BOUND, .TMB_SET, .TMB_STATUS, .EVL_DROPPED, .PMC_VALUE, .PMC_WIN] [.risen,
    .recorder, .lrx, .ltx, .time, .tlane, .pmc]

theorem Evolves.wrTmbSet {p : Path} {v₁ : Nat} (h : Evolves K s u) (hK : wrTmbSetScope.le K = true := by decide +kernel) :
    Evolves K s (wrTmbSet p v₁ u).1 := by
  refine h.widen hK fun h => ?_
  unfold Machine.wrTmbSet
  dsimp only
  split
  · exact h.setFld.rejectWrite
  · split
    exacts [h.setFld, h.plainWrite.setFld.stepTo]

/-- What `wrTmbNodeId` may change. -/
def wrTmbNodeIdScope : Scope := .of [.TMB_QUALITY, .TMB_ERR_BOUND, .TMB_NODE_ID, .TMB_STATUS, .TMB_LANE_FLAGS, .EVL_DROPPED, .PMC_VALUE,
    .PMC_WIN] [.risen, .recorder, .lrx, .ltx, .time, .tlane, .pmc]

theorem Evolves.wrTmbNodeId {p : Path} {v₁ : Nat} (h : Evolves K s u) (hK : wrTmbNodeIdScope.le K = true := by decide +kernel) :
    Evolves K s (wrTmbNodeId p v₁ u).1 := by
  refine h.widen hK fun h => ?_
  unfold Machine.wrTmbNodeId
  split
  · exact h.rejectWrite
  · refine .fst (h.plainWrite.each fun i h => ?_)
    split
    exacts [h.farNodeSeen, h]

theorem Evolves.wrTmbAsymCal {v₁ : Nat} (h : Evolves K s u)
    (hK : (Scope.of [.TMB_STATUS, .TMB_ASYM_CAL] [.time]).le K = true := by decide +kernel) : Evolves K s (wrTmbAsymCal v₁ u).1 := by
  refine h.widen hK fun h => ?_
  unfold Machine.wrTmbAsymCal
  dsimp only
  split
  · split
    · exact h.setFld
    · split
      exacts [h.setFld, ((h.plainWrite (r := .TMB_ASYM_CAL)).setFlag (f := TMB_STATUS.CAL_BUSY)).setTime id]
  · exact h.plainWrite

theorem Evolves.wrTmbAsym {r : Reg} {n v₁ : Nat} (h : Evolves K s u) (hr : K.hasReg r = true := by decide +kernel)
    (hK : (Scope.of [.EVL_DROPPED] [.recorder]).le K = true := by decide +kernel) : Evolves K s (wrTmbAsym r n v₁ u).1 := by
  unfold Machine.wrTmbAsym
  exact (h.plainWrite hr).log hK

theorem execTimeWordReceived_answers {n : Lane} {payload : BitVec 44} (h : Evolves .all s u) :
    Answers s (execTimeWordReceived n payload u) := by
  unfold execTimeWordReceived
  exact .next (h.oamIn (fun h₁ => Evolves.ite h₁ (h₁.count.cond (fun h₂ => h₂.modTlane) (fun h₂ =>
      Evolves.ite h₂.rxFine (Evolves.ite h₂.coarseRx (Evolves.ite h₂.sourceRx (Evolves.ite h₂.modTlane h₂.count)))))))

/-- What `State.replaceSource` may change. -/
def replaceSourceScope : Scope := .of [.TMB_QUALITY, .TMB_ERR_BOUND, .TMB_STATUS, .TMB_LANE_FLAGS, .EVL_DROPPED, .PMC_VALUE, .PMC_WIN]
    [.freeCtr, .risen, .recorder, .lrx, .ltx, .time, .tlane, .pmc]

theorem Evolves.replaceSource {k : TimeSource} (h : Evolves K s u) (hK : replaceSourceScope.le K = true := by decide +kernel) :
    Evolves K s (u.replaceSource k) := by
  refine h.widen hK fun h => ?_
  unfold State.replaceSource
  exact h.takeSource.when fun h₁ => h₁.followerBound

theorem Evolves.execSourceSelection (h : Evolves K s u) (hK : replaceSourceScope.le K = true := by decide +kernel) :
    ∃ t, execSourceSelection u = .next t ∧ Evolves K s t := by
  unfold Machine.execSourceSelection
  split
  exacts [⟨_, rfl, h⟩, ⟨_, rfl, h.widen hK fun h => .ite h h.replaceSource⟩]

theorem execSourceSelection_answers (h : Evolves .all s u) : Answers s (execSourceSelection u) := h.execSourceSelection

theorem Evolves.execSourceLoss (h : Evolves K s u) (hK : replaceSourceScope.le K = true := by decide +kernel) :
    ∃ t, execSourceLoss u = .next t ∧ Evolves K s t := by
  unfold Machine.execSourceLoss
  split
  exacts [⟨_, rfl, h.widen hK fun h => h.dropSource.selectFirst⟩, ⟨_, rfl, h⟩]

theorem execSourceLoss_answers (h : Evolves .all s u) : Answers s (execSourceLoss u) := h.execSourceLoss

theorem execTimeLockQualified_answers (h : Evolves .all s u) : Answers s (execTimeLockQualified u) := by
  unfold execTimeLockQualified
  dsimp only
  split
  · exact .next h
  · exact Answers.ite (.next h) (Answers.ite (.next (Evolves.ite h h.setQuality.followerBound)) (.next (Evolves.ite h.setQuality h)))

theorem execTmbEpoch_answers (h : Evolves .all s u) : Answers s (execTmbEpoch u) := by
  unfold execTmbEpoch
  exact Answers.ite (.next h.setQuality.log) (.next h)

theorem execBoundLimitExceeded_answers (h : Evolves .all s u) : Answers s (execBoundLimitExceeded u) := by
  unfold execBoundLimitExceeded
  exact Answers.ite (.next h) (Answers.ite (.next h.setQuality) (Answers.ite (.next h.setQuality) (.next h)))

theorem execTmbSet_answers {p : Path} {value : BitVec 128} (h : Evolves .all s u) : Answers s (execTmbSet p value u) := by
  unfold execTmbSet
  exact commitCommand_answers h (fun h₁ => h₁.wrTmbSet)

theorem execTmbNodeIdWrite_answers {p : Path} {id : BitVec 16} (h : Evolves .all s u) : Answers s (execTmbNodeIdWrite p id u) := by
  unfold execTmbNodeIdWrite
  exact writeCommand_answers h (fun h₁ => h₁.wrTmbNodeId)

theorem execAsymCalGo_answers {p : Path} {n : Lane} {edges : BitVec 10} {refUnc : BitVec 14} (h : Evolves .all s u) :
    Answers s (execAsymCalGo p n edges refUnc u) := by
  unfold execAsymCalGo
  exact writeCommand_answers h (fun h₁ => h₁.wrTmbAsymCal)

theorem execAsymCalDone_answers {far : List (BitVec 96)} (h : Evolves .all s u) : Answers s (execAsymCalDone far u) := by
  unfold execAsymCalDone
  exact Answers.ite (.next h) (Answers.ite (.next h.calAbort) (.next h.log.setFld.setFld.log.setFlag.setFld))

/-- What `State.ppsDiscipline` may change. -/
def ppsDisciplineScope : Scope := .join [stepToScope, .of [.TMB_RATE, .TMB_PPS_SEC, .TMB_PPS_IN_ERR, .TMB_PPS_OUTLIER] []]

theorem Evolves.ppsDiscipline {x : ℤ} (h : Evolves K s u) (hK : ppsDisciplineScope.le K = true := by decide +kernel) :
    Evolves K s (u.ppsDiscipline x) := by
  refine h.widen hK fun h => ?_
  unfold State.ppsDiscipline
  exact h.setFlag.setFld.cond (fun h₁ => h₁.same.cond (fun h₂ => h₂.stepTo) (fun h₂ => h₂.servo)) (fun h₁ =>
      Evolves.ite (h₁.count.cond (fun h₂ => h₂.stepTo) (fun h₂ => h₂.same)) ((h₁.servo.same.skip fun h₂ =>
      h₂.same.rebaseBound).when fun h₂ => h₂.setQuality))

theorem Evolves.sourceFirst (h : Evolves K s u) (hK : replaceSourceScope.le K = true := by decide +kernel) :
    Evolves K s u.sourceFirst := by
  refine h.widen hK fun h => ?_
  unfold State.sourceFirst
  obtain ⟨t, ht, h₁⟩ := h.execSourceSelection
  obtain ⟨t', ht', h₂⟩ := h.execSourceLoss
  rw [ht, ht']
  exact .ite h₁ (.ite h₂ h)

theorem Evolves.ppsCapture {x : Int} (h : Evolves K s u)
    (hK : (Scope.of [.TMB_PPS_IN_TS, .TMB_PPS_EDGES] [.time]).le K = true := by decide +kernel) : Evolves K s (u.ppsCapture x) := by
  refine h.widen hK fun h => ?_
  unfold State.ppsCapture
  exact .ite (.setTime h.setFld.count id) (.setTime h.setFld.count id)

theorem execPpsInEdge_answers {off : Fin 136} {width : Nat} (h : Evolves .all s u) : Answers s (execPpsInEdge off width u) := by
  unfold execPpsInEdge
  exact Answers.ite (.next h.sourceFirst) (.next (h.sourceFirst.ppsCapture.when fun h₁ => h₁.ppsDiscipline))

theorem execPpsMissing_answers (h : Evolves .all s u) : Answers s (execPpsMissing u) := by
  unfold execPpsMissing
  exact Answers.ite (.next h) (Answers.ite (.next (h.count (f := TMB_PPS_MISS.COUNT)).same.toHoldover.calAbort) (.next (Evolves.ite h h.calAbort)))

theorem execPpsOutRise_answers (h : Evolves .all s u) : Answers s (execPpsOutRise u) := by
  unfold execPpsOutRise
  exact Answers.ite (.next h.same) (.next h)

theorem execPpsOutFall_answers (h : Evolves .all s u) : Answers s (execPpsOutFall u) := by
  unfold execPpsOutFall
  exact .next (Evolves.ite h.same h)

end Sys2Proof.Machine
end

section
/-! SUPPORT. What the Cinch link layer leave: `Evolves`, for each operation and command. -/
namespace Sys2Proof.Machine
open Sys2Proof
set_option Elab.async false
variable {K : Scope} {s u t₀ : State}

theorem Evolves.setAcct {c i : Nat} {x : ℤ} (h : Evolves K s u)
    (hK : (Scope.of [.CIN_CH_ACCT] []).le K = true := by decide +kernel) : Evolves K s (u.setAcct c i x) := by
  refine h.widen hK fun h => ?_
  unfold State.setAcct
  exact Evolves.ite h h.setFld

theorem Evolves.freeCredits {c b n : Nat} (h : Evolves K s u)
    (hK : (Scope.of [.CIN_CH_ACCT] [.chan]).le K = true := by decide +kernel) : Evolves K s (u.freeCredits c b n) := by
  refine h.widen hK fun h => ?_
  unfold State.freeCredits
  exact Evolves.ite h h.setAcct.modChan

theorem Evolves.addAcct {c i : Nat} {d : ℤ} (h : Evolves K s u)
    (hK : (Scope.of [.CIN_CH_ACCT] []).le K = true := by decide +kernel) : Evolves K s (u.addAcct c i d) := by
  refine h.widen hK fun h => ?_
  unfold State.addAcct
  exact h.setAcct

theorem Evolves.chCount {f : Field} {c n : Nat} (h : Evolves K s u) (hr : K.hasReg f.reg = true := by decide +kernel) :
    Evolves K s (u.chCount f c n) := by
  unfold State.chCount
  exact Evolves.ite h (h.count hr)

theorem Evolves.grant1 {c : Nat} (h : Evolves K s u) (hK : (Scope.of [.CIN_CH_ACCT] []).le K = true := by decide +kernel) :
    Evolves K s (u.grant1 c) := by
  refine h.widen hK fun h => ?_
  unfold State.grant1
  exact Evolves.ite h h.setAcct

theorem Evolves.grant2 {c : Nat} (h : Evolves K s u) (hK : (Scope.of [.CIN_CH_ACCT] []).le K = true := by decide +kernel) :
    Evolves K s (u.grant2 c) := by
  refine h.widen hK fun h => ?_
  unfold State.grant2
  exact Evolves.ite h h.setAcct

theorem Evolves.logDiscard {c counter n lane seq chseq ts : Nat} (h : Evolves K s u)
    (hK : (Scope.of [.EVL_DROPPED] [.recorder]).le K = true := by decide +kernel) :
    Evolves K s (u.logDiscard c counter n lane seq chseq ts) := by
  refine h.widen hK fun h => ?_
  unfold State.logDiscard
  exact h.log

theorem Evolves.showFrozen (h : Evolves K s u) (hK : (Scope.of [.CIN_CONS_AUDIT] []).le K = true := by decide +kernel) :
    Evolves K s u.showFrozen := by
  refine h.widen hK fun h => ?_
  unfold State.showFrozen
  exact h.setFlag

/-- What `State.freezeChannel` may change. -/
def freezeChannelScope : Scope := .of [.GLB_STATE, .CIN_CH_STATUS, .CIN_CONS_AUDIT, .CIN_AUDIT_FAIL, .MGT_ALERT_STATUS, .EVL_DROPPED]
    [.risen, .recorder, .mgt]

theorem Evolves.freezeChannel {c : Nat} (h : Evolves K s u) (hK : freezeChannelScope.le K = true := by decide +kernel) :
    Evolves K s (u.freezeChannel c) := by
  refine h.widen hK fun h => ?_
  unfold State.freezeChannel
  exact Evolves.ite h h.log.setFlag.setFld.setFlag.count.alert

theorem Evolves.queueCtl {n : Nat} {payload : List Byte} (h : Evolves K s u)
    (hK : (Scope.of [] [.clane]).le K = true := by decide +kernel) : Evolves K s (u.queueCtl n payload) := by
  refine h.widen hK fun h => ?_
  unfold State.queueCtl
  exact h.modClane

theorem Evolves.placeChopen {c : Nat} (h : Evolves K s u) (hK : (Scope.of [] [.chan, .clane]).le K = true := by decide +kernel) :
    Evolves K s (u.placeChopen c) := by
  refine h.widen hK fun h => ?_
  unfold State.placeChopen
  refine Evolves.ite h ?_
  split
  exacts [h, h.modChan.queueCtl]

theorem Evolves.showStripe {c mask : Nat} (h : Evolves K s u)
    (hK : (Scope.of [.CIN_CH_STATUS] []).le K = true := by decide +kernel) : Evolves K s (u.showStripe c mask) := by
  refine h.widen hK fun h => ?_
  unfold State.showStripe
  exact h.setFld.setFld.setFlag

theorem Evolves.changeStripe {c mask : Nat} (h : Evolves K s u)
    (hK : (Scope.of [.CIN_CH_STATUS] [.chan, .clane]).le K = true := by decide +kernel) : Evolves K s (u.changeStripe c mask) := by
  refine h.widen hK fun h => ?_
  unfold State.changeStripe
  exact Evolves.ite h (h.modChan.showStripe.placeChopen.each (fun _ h₁ => h₁.queueCtl))

theorem Evolves.newNack {n : Nat} {seq : BitVec 32} (h : Evolves K s u)
    (hK : (Scope.of [.CIN_LANE_EPOCH] [.clane, .cin]).le K = true := by decide +kernel) : Evolves K s (u.newNack n seq) := by
  refine h.widen hK fun h => ?_
  unfold State.newNack
  exact (h.setFld (f := CIN_LANE_EPOCH.SENT)).same.modClane

theorem Evolves.cinLocked {n : Nat} (h : Evolves K s u)
    (hK : (Scope.of [.CIN_LANE_STATUS, .CIN_LANE_EPOCH] [.clane, .cin]).le K = true := by decide +kernel) :
    Evolves K s (u.cinLocked n) := by
  refine h.widen hK fun h => ?_
  unfold State.cinLocked
  exact Evolves.ite h (h.modClane.setFlag.cond (fun h₁ => h₁.newNack) (fun h₁ => Evolves.ite h₁.newNack h₁))

theorem Evolves.dropNack {n : Nat} (h : Evolves K s u) (hK : (Scope.of [] [.cin]).le K = true := by decide +kernel) :
    Evolves K s (u.dropNack n) := by
  refine h.widen hK fun h => ?_
  unfold State.dropNack
  exact h.same

theorem Evolves.gapUnlocked {n : Nat} (h : Evolves K s u)
    (hK : (Scope.of [.CIN_LANE_STATUS, .CIN_GAPS] [.clane]).le K = true := by decide +kernel) : Evolves K s (u.gapUnlocked n) := by
  refine h.widen hK fun h => ?_
  unfold State.gapUnlocked
  exact h.count.modClane.skip fun h₁ => h₁.setFld.modClane

theorem Evolves.cutLane {n : Nat} (h : Evolves K s u) (hK : (Scope.of [] [.chan]).le K = true := by decide +kernel) :
    Evolves K s (u.cutLane n) := by
  refine h.widen hK fun h => ?_
  unfold State.cutLane
  exact h.each (fun _ h₁ => h₁.modChan)

theorem Evolves.closeStreams {n : Nat} (h : Evolves K s u)
    (hK : (Scope.of [.CIN_LANE_STATUS] [.chan, .clane, .cin]).le K = true := by decide +kernel) : Evolves K s (u.closeStreams n) := by
  refine h.widen hK fun h => ?_
  unfold State.closeStreams
  exact (((((Evolves.ite h h.cutLane).setFld).setFld).dropNack).modClane).each (fun _ h₁ => h₁.modChan.placeChopen)

theorem Evolves.stripesWithout {n : Nat} (h : Evolves K s u)
    (hK : (Scope.of [.CIN_CH_STATUS] [.chan, .clane]).le K = true := by decide +kernel) : Evolves K s (u.stripesWithout n) := by
  refine h.widen hK fun h => ?_
  unfold State.stripesWithout
  exact h.each (fun _ h₁ => Evolves.ite h₁.changeStripe h₁)

/-- What `State.shedLane` may change. -/
def shedLaneScope : Scope := .of [.CIN_CH_STATUS, .CIN_LANE_STATUS, .CIN_SHEDS, .EVL_DROPPED] [.recorder, .chan, .clane, .cin]

theorem Evolves.shedLane {n cause : Nat} (h : Evolves K s u) (hK : shedLaneScope.le K = true := by decide +kernel) :
    Evolves K s (u.shedLane n cause) := by
  refine h.widen hK fun h => ?_
  unfold State.shedLane
  exact Evolves.ite h h.setFlag.count.modClane.log.closeStreams.stripesWithout

theorem Evolves.beginShed {n : Nat} (h : Evolves K s u)
    (hK : (Scope.of [.CIN_CH_STATUS, .CIN_LANE_STATUS] [.chan, .clane, .cin]).le K = true := by decide +kernel) :
    Evolves K s (u.beginShed n) := by
  refine h.widen hK fun h => ?_
  unfold State.beginShed
  exact Evolves.ite h.setFlag.modClane.closeStreams.stripesWithout h

theorem Evolves.shedOnSf {n cause : Nat} (h : Evolves K s u) (hK : shedLaneScope.le K = true := by decide +kernel) :
    Evolves K s (u.shedOnSf n cause) := by
  refine h.widen hK fun h => ?_
  unfold State.shedOnSf
  exact Evolves.ite h.shedLane h

theorem Evolves.putGranule {n kind chan : Nat} {payload : List Byte} (h : Evolves K s u)
    (hK : (Scope.of [] [.ltx, .clane]).le K = true := by decide +kernel) : Evolves K s (u.putGranule n kind chan payload) := by
  refine h.widen hK fun h => ?_
  unfold State.putGranule
  exact h.modClane.modLtx

/-- What `State.sendNumbered` may change. -/
def sendNumberedScope : Scope := .of [.GLB_STATE, .CIN_LANE_STATUS, .CIN_LANE_SEQ, .MGT_ALERT_STATUS, .MEM_STATUS, .MEM_FLIP_MASK,
    .MEM_SPARE, .MEM_REPAIR, .EVL_DROPPED] [.risen, .recorder, .ltx, .clane, .mgt, .mem, .memx]

theorem Evolves.sendNumbered {n : Nat} {control : Bool} {chan : Nat} {chseq : BitVec 32} {ts : BitVec 64} {payload : List Byte}
    (h : Evolves K s u) (hK : sendNumberedScope.le K = true := by decide +kernel) :
    Evolves K s (u.sendNumbered n control chan chseq ts payload) := by
  refine h.widen hK fun h => ?_
  unfold State.sendNumbered
  exact h.storeWrite.modClane.setFld.putGranule

theorem Evolves.dropResync {n : Nat} (h : Evolves K s u) (hK : (Scope.of [] [.clane]).le K = true := by decide +kernel) :
    Evolves K s (u.dropResync n) := by
  refine h.widen hK fun h => ?_
  unfold State.dropResync
  exact h.modClane

theorem Evolves.sendResync {n cause : Nat} (h : Evolves K s u)
    (hK : (Scope.of [.CIN_LANE_STATUS, .CIN_RESYNC, .EVL_DROPPED] [.recorder, .clane]).le K = true := by decide +kernel) :
    Evolves K s (u.sendResync n cause) := by
  refine h.widen hK fun h => ?_
  unfold State.sendResync
  exact h.modClane.setFld.count.log

theorem Evolves.wrrServe {n c : Nat} (h : Evolves K s u) (hK : (Scope.of [] [.clane]).le K = true := by decide +kernel) :
    Evolves K s (u.wrrServe n c) := by
  refine h.widen hK fun h => ?_
  unfold State.wrrServe
  exact h.modClane

theorem Evolves.popIngress {c : Nat} (h : Evolves K s u) (hK : (Scope.of [.CIN_CH_ACCT] [.chan]).le K = true := by decide +kernel) :
    Evolves K s (u.popIngress c) := by
  refine h.widen hK fun h => ?_
  unfold State.popIngress
  exact h.modChan.freeCredits.grant1

/-- What `State.sendData` may change. -/
def sendDataScope : Scope := .join [sendNumberedScope, .of [.CIN_CH_ACCT, .CIN_SENT, .CIN_DISC_ING_MEM] [.chan]]

theorem Evolves.sendData {n c : Nat} {ingOk : Bool} (h : Evolves K s u) (hK : sendDataScope.le K = true := by decide +kernel) :
    Evolves K s (u.sendData n c ingOk) := by
  refine h.widen hK fun h => ?_
  unfold State.sendData
  dsimp only
  split
  · exact h.putGranule
  · exact h.wrrServe.popIngress.cond (fun h₁ => h₁.chCount.logDiscard.putGranule) (fun h₁ =>
        (h₁.modChan.chCount.when fun h₂ => h₂.addAcct.addAcct).sendNumbered)

/-- What `State.sendReplay` may change. -/
def sendReplayScope : Scope := .join [storeWriteScope, .of [.CIN_DISC_STORE, .CIN_RUN_GRAN, .CIN_RESYNC] [.ltx]]

theorem Evolves.sendReplay {n : Nat} {q : BitVec 32} {readOk copyOk : Bool} (h : Evolves K s u)
    (hK : sendReplayScope.le K = true := by decide +kernel) : Evolves K s (u.sendReplay n q readOk copyOk).2 := by
  refine h.widen hK @fun s h => ?_
  have adv : ∀ {v : State} {c : Prop} [Decidable c] {f : CLaneX → CLaneX}, Evolves sendReplayScope s v →
      Evolves sendReplayScope s (if c then (v.modClane n f).setFld CIN_LANE_STATUS.TX_STREAM n Stream.OPEN else v.modClane n f) :=
    fun h => h.modClane.when fun h => h.setFld
  have hread : ∀ {a : Nat}, Evolves sendReplayScope s (u.datapathRead a 672 readOk).2 := h.datapathRead
  rw [State.sendReplay]
  -- a variable in place of the read: the kernel would run it to compare the goals
  obtain ⟨read, hr⟩ : ∃ f, f = State.datapathRead := ⟨_, rfl⟩
  rw [← hr] at hread ⊢
  dsimp only
  split
  · exact .snd h.sendResync
  refine .iteSnd (.snd (adv hread.storeWrite.count.putGranule)) (.iteSnd ?_ ?_)
  · split
    · exact .snd (adv hread.storeWrite.count.putGranule)
    · exact .snd hread.sendResync
  · exact .snd (adv (Evolves.putGranule (.count (.modClane (.storeWrite (.logDiscard (.chCount hread)))))))

theorem Evolves.sendNew {n : Nat} {ingOk : Bool} (h : Evolves K s u) (hK : sendDataScope.le K = true := by decide +kernel) :
    Evolves K s (u.sendNew n ingOk) := by
  refine h.widen hK fun h => ?_
  unfold State.sendNew
  split
  · exact h.modClane.sendNumbered
  · split
    exacts [h.sendData, h.putGranule]

theorem Evolves.settleChan {c : Nat} (h : Evolves K s u) (hK : (Scope.of [] [.chan]).le K = true := by decide +kernel) :
    Evolves K s (u.settleChan c) := by
  refine h.widen hK fun h => ?_
  unfold State.settleChan
  exact h.modChan

theorem Evolves.popEgress {c : Nat} (h : Evolves K s u) (hK : (Scope.of [.CIN_CH_ACCT] [.chan]).le K = true := by decide +kernel) :
    Evolves K s (u.popEgress c) := by
  refine h.widen hK fun h => ?_
  unfold State.popEgress
  exact (h.modChan.when fun h₁ => h₁.freeCredits.grant2).settleChan

theorem Evolves.deliverOne {c : Nat} (h : Evolves K s u)
    (hK : (Scope.of [.CIN_CH_ACCT, .CIN_DELIVER] [.hsi, .chan]).le K = true := by decide +kernel) : Evolves K s (u.deliverOne c) := by
  refine h.widen hK fun h => ?_
  unfold State.deliverOne
  dsimp only
  exact h.settleChan.step fun h₁ => by split; exacts [h₁, Evolves.ite h₁ h₁.chCount.popEgress.addAcct.addAcct.modHsi]

theorem Evolves.endOvfRun {c n : Nat} (h : Evolves K s u)
    (hK : (Scope.of [.EVL_DROPPED] [.recorder, .chan]).le K = true := by decide +kernel) : Evolves K s (u.endOvfRun c n) := by
  refine h.widen hK fun h => ?_
  unfold State.endOvfRun
  exact Evolves.ite h h.modChan.logDiscard

/-- What `State.closeChannel` may change. -/
def closeChannelScope : Scope := .of [.CIN_CH_STATUS, .CIN_CH_ACCT, .CIN_ACCEPT, .CIN_SENT, .CIN_ARRIVE, .CIN_DELIVER, .CIN_DISC_ING_MEM,
    .CIN_DISC_STORE, .CIN_DISC_EGR_MEM, .CIN_DISC_SPAN, .CIN_DISC_SHED, .CIN_DISC_EGR_OVF, .CIN_DISC_CLOSE, .CIN_ING_OVR, .CIN_CONS_AUDIT,
    .EVL_DROPPED] [.recorder, .hsi, .chan, .clane]

theorem Evolves.closeChannel {c : Nat} (h : Evolves K s u) (hK : closeChannelScope.le K = true := by decide +kernel) :
    Evolves K s (u.closeChannel c) := by
  refine h.widen hK fun h => ?_
  unfold State.closeChannel
  exact (((((((h.setFlag.endOvfRun.foldl (fun _ h₁ => h₁.deliverOne)).chCount).log).resetRange).resetRegs).each (fun _ h₁ =>
      h₁.modClane)).modChan).showFrozen

theorem Evolves.openChannel {c : Nat} {answer : optParam Bool false} (h : Evolves K s u)
    (hK : (Scope.of [.CIN_CH_STATUS, .CIN_CH_ACCT] [.chan, .clane]).le K = true := by decide +kernel) :
    Evolves K s (u.openChannel c answer) := by
  refine h.widen hK fun h => ?_
  unfold State.openChannel
  exact h.modChan.showStripe.grant1.grant2.placeChopen

theorem Evolves.gap {n : Nat} (h : Evolves K s u)
    (hK : (Scope.of [.CIN_LANE_STATUS, .CIN_LANE_EPOCH, .CIN_GAPS] [.clane, .cin]).le K = true := by decide +kernel) :
    Evolves K s (u.gap n) := by
  refine h.widen hK fun h => ?_
  unfold State.gap
  exact Evolves.ite h.gapUnlocked (h.count.cond (fun h₁ => h₁.setFld.newNack) (fun h₁ => h₁.modClane))

theorem Evolves.arrive {n c : Nat} {m : BitVec 32} {payload : List Byte} (h : Evolves K s u)
    (hK : (Scope.of [.CIN_CH_ACCT, .CIN_ARRIVE, .CIN_DISC_EGR_OVF, .EVL_DROPPED] [.recorder, .chan]).le K = true := by decide +kernel) :
    Evolves K s (u.arrive n c m payload) := by
  refine h.widen hK fun h => ?_
  unfold State.arrive
  exact h.modChan.skip fun h₁ => Evolves.ite h₁.chCount.modChan ((h₁.endOvfRun.chCount.when fun h₂ => h₂.addAcct.addAcct).modChan)

theorem Evolves.acceptRecords {n : Nat} {payload : List Byte} (h : Evolves K s u)
    (hK : (Scope.of [.CIN_TAG_ERR] [.clane]).le K = true := by decide +kernel) : Evolves K s (u.acceptRecords n payload) := by
  refine h.widen hK fun h => ?_
  unfold State.acceptRecords
  exact h.modClane.count

/-- What `State.takeGranule` may change. -/
def takeGranuleScope : Scope := .of [.CIN_CH_ACCT, .CIN_ARRIVE, .CIN_DISC_EGR_OVF, .CIN_LANE_STATUS, .CIN_LANE_SEQ, .CIN_TAG_ERR,
    .EVL_DROPPED] [.recorder, .chan, .clane, .cin]

theorem Evolves.takeGranule {n : Nat} {control : Bool} {c : Nat} {m : Option (BitVec 32)} {payload : List Byte} (h : Evolves K s u)
    (hK : takeGranuleScope.le K = true := by decide +kernel) : Evolves K s (u.takeGranule n control c m payload) := by
  refine h.widen hK fun h => ?_
  unfold State.takeGranule
  dsimp only
  exact h.setFld.setFld.dropNack.cond (fun h₁ => h₁.acceptRecords) (fun h₁ => (by split; exacts [h₁.arrive, h₁]))

/-- What `State.goodGranule` may change. -/
def goodGranuleScope : Scope := .of [.CIN_CH_ACCT, .CIN_ARRIVE, .CIN_DISC_EGR_OVF, .CIN_LANE_STATUS, .CIN_LANE_SEQ, .CIN_LANE_EPOCH,
    .CIN_GBN_DROP, .CIN_TAG_ERR, .EVL_DROPPED] [.recorder, .chan, .clane, .cin]

theorem Evolves.goodGranule {n kind c epoch : Nat} {m : Option (BitVec 32)} {payload : List Byte} (h : Evolves K s u)
    (hK : goodGranuleScope.le K = true := by decide +kernel) : Evolves K s (u.goodGranule n kind c epoch m payload) := by
  refine h.widen hK fun h => ?_
  unfold State.goodGranule
  exact h.modClane.cond
      (fun h₁ => Evolves.ite h₁.count h₁) (fun h₁ =>
      Evolves.ite (Evolves.ite h₁.takeGranule h₁) (Evolves.ite (Evolves.ite (Evolves.ite h₁.modClane.count h₁.modClane)
      (Evolves.ite h₁ (Evolves.ite h₁.acceptRecords (Evolves.ite ((Evolves.ite h₁.count h₁).newNack) h₁.takeGranule))))
      (Evolves.ite h₁ (Evolves.ite h₁.acceptRecords ((Evolves.ite h₁.count h₁).modClane)))))

/-- What `State.openRecord` may change. -/
def openRecordScope : Scope := .join [takeSourceScope, .of [.CIN_LANE_STATUS, .CIN_LANE_SEQ] [.cin]]

theorem Evolves.openRecord {n : Nat} {r : List Byte} (h : Evolves K s u) (hK : openRecordScope.le K = true := by decide +kernel) :
    Evolves K s (u.openRecord n r) := by
  refine h.widen hK fun h => ?_
  unfold State.openRecord
  exact (Evolves.ite h.setFld.setFld.dropNack h).farNodeSeen

theorem Evolves.skipRecord {n : Nat} {r : List Byte} (h : Evolves K s u)
    (hK : (Scope.of [] [.chan]).le K = true := by decide +kernel) : Evolves K s (u.skipRecord n r) := by
  refine h.widen hK fun h => ?_
  unfold State.skipRecord
  exact Evolves.ite h.modChan.settleChan h

theorem Evolves.resyncRecord {n : Nat} {r : List Byte} (h : Evolves K s u)
    (hK : (Scope.of [.CIN_LANE_STATUS, .CIN_LANE_SEQ] [.cin]).le K = true := by decide +kernel) : Evolves K s (u.resyncRecord n r) := by
  refine h.widen hK fun h => ?_
  unfold State.resyncRecord
  exact h.setFld.setFld.dropNack

theorem Evolves.stripeRecord {n : Nat} {r : List Byte} (h : Evolves K s u)
    (hK : (Scope.of [.CIN_DISC_SHED, .EVL_DROPPED] [.recorder, .chan]).le K = true := by decide +kernel) :
    Evolves K s (u.stripeRecord n r) := by
  refine h.widen hK fun h => ?_
  unfold State.stripeRecord
  exact Evolves.ite h (((Evolves.ite h.modChan ((Evolves.ite h h.chCount.logDiscard).modChan)).modChan).settleChan)

theorem Evolves.chposRecord {n : Nat} {r : List Byte} (h : Evolves K s u)
    (hK : (Scope.of [.CIN_DISC_SPAN, .EVL_DROPPED] [.recorder, .chan]).le K = true := by decide +kernel) :
    Evolves K s (u.chposRecord n r) := by
  refine h.widen hK fun h => ?_
  unfold State.chposRecord
  exact h.each (fun _ h₁ => Evolves.ite h₁ (((Evolves.ite h₁ h₁.chCount.logDiscard).modChan).settleChan))

theorem Evolves.chopenRecord {r : List Byte} (h : Evolves K s u) (hK : closeChannelScope.le K = true := by decide +kernel) :
    Evolves K s (u.chopenRecord r) := by
  refine h.widen hK fun h => ?_
  unfold State.chopenRecord
  exact Evolves.ite h.closeChannel.openChannel h

/-- What `State.record` may change. -/
def recordScope : Scope := .join [closeChannelScope, openRecordScope]

theorem Evolves.record {n : Nat} {r : List Byte} (h : Evolves K s u) (hK : recordScope.le K = true := by decide +kernel) :
    Evolves K s (u.record n r) := by
  refine h.widen hK fun h => ?_
  unfold State.record
  split
  exacts [h.openRecord, h.skipRecord, h.resyncRecord, h.stripeRecord, h.chposRecord, h.chopenRecord, h]

theorem Evolves.drainRecords {n : Nat} (h : Evolves K s u) (hK : recordScope.le K = true := by decide +kernel) :
    Evolves K s (u.drainRecords n) := by
  refine h.widen hK fun h => ?_
  unfold State.drainRecords
  exact h.modClane.foldl (fun _ h₁ => h₁.record)

/-- What `State.cinLeftLocked` may change. -/
def cinLeftLockedScope : Scope := .join [recordScope, .of [.CIN_GAPS] []]

theorem Evolves.cinLeftLocked {n : Nat} (h : Evolves K s u) (hK : cinLeftLockedScope.le K = true := by decide +kernel) :
    Evolves K s (u.cinLeftLocked n) := by
  refine h.widen hK fun h => ?_
  unfold State.cinLeftLocked
  exact Evolves.ite h.drainRecords.dropNack.gapUnlocked h

theorem Evolves.frontRecord {n type : Nat} {names : List Byte → Bool} (h : Evolves K s u)
    (hK : recordScope.le K = true := by decide +kernel) : Evolves K s (u.frontRecord n type names) := by
  refine h.widen hK fun h => ?_
  unfold State.frontRecord
  split
  exacts [Evolves.ite h.modClane.record h, h]

/-- What a total that is taken may change. -/
def totalInScope : Scope := .of [.CIN_CH_ACCT, .CIN_CH_STATUS, .CIN_CONS_AUDIT, .CIN_AUDIT_FAIL, .EVL_DROPPED, .MGT_ALERT_STATUS, .GLB_STATE]
  [.risen, .recorder, .chan, .cin, .mgt]

theorem Evolves.totalIn {c i : Nat} {total : BitVec 32} {sender : Bool} {stale : State → State} (h : Evolves K s u)
    (hstale : ∀ {v}, Evolves K s v → Evolves K s (stale v)) (hK : totalInScope.le K = true := by decide +kernel) :
    Evolves K s (u.totalIn c i total sender stale) := by
  unfold State.totalIn
  dsimp only
  refine .ite h (.ite (hstale h) (h.widen hK fun h => .ite (.ite h.freezeChannel h.setAcct.addAcct) (.ite h.freezeChannel ?_)))
  exact .ite h.setAcct.grant1 h.setAcct.grant2

/-- What `State.acceptCell` may change. -/
def acceptCellScope : Scope := .of [.CIN_CH_ACCT, .CIN_ACCEPT, .CIN_ING_OVR, .EVL_DROPPED] [.recorder, .hsi, .chan]

theorem Evolves.acceptCell {c : Nat} {payload : List Byte} {ts : Ts96} (h : Evolves K s u)
    (hK : acceptCellScope.le K = true := by decide +kernel) : Evolves K s (u.acceptCell c payload ts) := by
  refine h.widen hK fun h => ?_
  unfold State.acceptCell
  exact Evolves.ite h.count (Evolves.ite h.count.logDiscard h.chCount.addAcct.addAcct.modHsi.modChan)

theorem Evolves.nextCredit (h : Evolves K s u) (hK : (Scope.of [] [.chan, .cin]).le K = true := by decide +kernel) :
    Evolves K s u.nextCredit.2 := by
  refine h.widen hK fun h => ?_
  unfold State.nextCredit
  dsimp only
  split
  exacts [h, h.same.modChan]

/-- What `wrCinChCfg` may change. -/
def wrCinChCfgScope : Scope := .join [closeChannelScope, .of [.CIN_CH_CFG] []]

theorem Evolves.wrCinChCfg {p : Path} {c v₁ : Nat} (h : Evolves K s u) (hK : wrCinChCfgScope.le K = true := by decide +kernel) :
    Evolves K s (wrCinChCfg p c v₁ u).1 := by
  refine h.widen hK fun h => ?_
  unfold Machine.wrCinChCfg
  dsimp only
  split
  · exact h.rejectWrite
  · exact ((((((Evolves.ite h.regReject h).when fun h₁ => h₁.closeChannel).skip fun h₁ =>
        h₁.setFld).setFld).setFld).setFlag).cond (fun h₁ => h₁.openChannel) (fun h₁ => Evolves.ite h₁.changeStripe h₁)

theorem Evolves.wrCinChCred {p : Path} {c v₁ : Nat} (h : Evolves K s u)
    (hK : (Scope.of [.CIN_CH_CRED, .EVL_DROPPED] [.recorder]).le K = true := by decide +kernel) :
    Evolves K s (wrCinChCred p c v₁ u).1 := by
  refine h.widen hK fun h => ?_
  unfold Machine.wrCinChCred
  dsimp only
  split
  exacts [h.rejectWrite, h.plainWrite]

/-- What `wrCinLaneCtrl` may change. -/
def wrCinLaneCtrlScope : Scope := .of [.CIN_CH_STATUS, .CIN_LANE_CTRL, .CIN_LANE_STATUS, .CIN_SHEDS, .EVL_DROPPED] [.recorder, .chan,
    .clane, .cin]

theorem Evolves.wrCinLaneCtrl {n v₁ : Nat} (h : Evolves K s u) (hK : wrCinLaneCtrlScope.le K = true := by decide +kernel) :
    Evolves K s (wrCinLaneCtrl n v₁ u).1 := by
  refine h.widen hK fun h => ?_
  unfold Machine.wrCinLaneCtrl
  exact (h.plainWrite.cond (fun h₁ => h₁.shedLane) (fun h₁ => Evolves.ite h₁.modClane h₁)).when fun h₁ => h₁.shedOnSf

theorem Evolves.wrCinLaneCfg {p : Path} {n v₁ : Nat} (h : Evolves K s u)
    (hK : (Scope.of [.CIN_LANE_CFG, .EVL_DROPPED] [.recorder]).le K = true := by decide +kernel) :
    Evolves K s (wrCinLaneCfg p n v₁ u).1 := by
  refine h.widen hK fun h => ?_
  unfold Machine.wrCinLaneCfg
  dsimp only
  exact ((Evolves.ite h (h.setFld (f := CIN_LANE_CFG.SHED_LOL))).skip fun h₁ => h₁.setFld (f := CIN_LANE_CFG.REJOIN_HOLD)).step fun h₁ => by split; exacts [h₁.rejectWrite, h₁]

theorem Evolves.wrCinCrCfg {p : Path} {v₁ : Nat} (h : Evolves K s u)
    (hK : (Scope.of [.CIN_CR_CFG, .EVL_DROPPED] [.recorder]).le K = true := by decide +kernel) : Evolves K s (wrCinCrCfg p v₁ u).1 := by
  refine h.widen hK fun h => ?_
  unfold Machine.wrCinCrCfg
  dsimp only
  split
  exacts [h.rejectWrite, h.plainWrite]

theorem Evolves.wrCinConsAudit {v₁ : Nat} (h : Evolves K s u) (hK : wrCinChCfgScope.le K = true := by decide +kernel) :
    Evolves K s (wrCinConsAudit v₁ u).1 := by
  refine h.widen hK fun h => ?_
  unfold Machine.wrCinConsAudit
  dsimp only
  split
  exacts [Evolves.ite h.closeChannel.setFlag h, h]

theorem execGranulePosition_answers {n : Lane} {readOk copyOk ingOk : Bool} (h : Evolves .all s u) :
    Answers s (execGranulePosition n readOk copyOk ingOk u) := by
  unfold execGranulePosition
  split
  · exact .next h
  split
  · exact .next h.putGranule
  split
  · exact .next h.sendNew
  · next q _ =>
    have h' := h.sendReplay (n := n) (q := q) (readOk := readOk) (copyOk := copyOk)
    split
    · next heq => rw [heq] at h'; exact .next h'
    · next heq => rw [heq] at h'; exact .next h'.sendNew

/-- What `State.granule` may change. -/
def granuleScope : Scope := .of [.CIN_CH_ACCT, .CIN_ARRIVE, .CIN_DISC_EGR_OVF, .CIN_LANE_STATUS, .CIN_LANE_SEQ, .CIN_LANE_EPOCH,
    .CIN_GBN_DROP, .CIN_GAPS, .CIN_TAG_ERR, .EVL_DROPPED] [.recorder, .chan, .clane, .cin]

theorem Evolves.granule {n : Nat} {tag : BitVec 20} {payload : List Byte} (h : Evolves K s u)
    (hK : granuleScope.le K = true := by decide +kernel) : Evolves K s (u.granule n tag payload) := by
  refine h.widen hK fun h => ?_
  unfold State.granule
  exact Evolves.ite h.goodGranule h.count.gap

theorem execGranuleReceived_answers {n : Lane} {cwOk : Bool} {tag : BitVec 20} {payload : List Byte} (h : Evolves .all s u) :
    Answers s (execGranuleReceived n cwOk tag payload u) := by
  unfold execGranuleReceived
  dsimp only
  refine Answers.ite (.next h) ?_
  split
  · exact .next h.drainRecords.gap
  · exact Answers.ite (.next h.drainRecords.modLfec.gap) (.next h.drainRecords.modLfec.granule)

theorem execNackReceived_answers {r : Lane} {payload : BitVec 44} (h : Evolves .all s u) : Answers s (execNackReceived r payload u) := by
  unfold execNackReceived
  exact .next
      (h.oamIn
      (fun h₁ => (Evolves.ite h₁ h₁.count).skip fun h₂ => Evolves.ite h₂.count (h₂.setFld.modClane.setFld.dropResync.cond (fun h₃ =>
      h₃.sendResync) (fun h₃ => Evolves.ite h₃.count (Evolves.ite h₃.count.modClane.setFld h₃.sendResync)))))

theorem execNackTimeout_answers {n : Lane} (h : Evolves .all s u) : Answers s (execNackTimeout n u) := by
  unfold execNackTimeout
  exact Answers.ite (.next h) (Answers.ite (.next h.count.newNack) (Answers.ite (.next h.count.newNack) (.next h)))

theorem execStreamOpen_answers {n : Lane} (h : Evolves .all s u) : Answers s (execStreamOpen n u) := by
  unfold execStreamOpen
  exact Answers.ite (.next (h.setFld.setFld.setFld.modClane.log.each (fun _ h₁ => Evolves.ite h₁.changeStripe h₁))) (.next h)

theorem execOpenRecord_answers {n : Lane} {node : BitVec 16} (h : Evolves .all s u) : Answers s (execOpenRecord n node u) := by
  unfold execOpenRecord
  exact .next h.frontRecord

theorem execSkipRecord_answers {n : Lane} {c : Chan} {m : BitVec 32} (h : Evolves .all s u) : Answers s (execSkipRecord n c m u) := by
  unfold execSkipRecord
  exact .next h.frontRecord

theorem execResyncRecord_answers {n : Lane} {epoch : Fin 4} {seq : BitVec 32} (h : Evolves .all s u) :
    Answers s (execResyncRecord n epoch seq u) := by
  unfold execResyncRecord
  exact .next h.frontRecord

theorem execStripeRecord_answers {n : Lane} {c : Chan} {mask : BitVec 16} {switch : BitVec 32} (h : Evolves .all s u) :
    Answers s (execStripeRecord n c mask switch u) := by
  unfold execStripeRecord
  exact .next h.frontRecord

theorem execChposRecord_answers {n : Lane} {c : Chan} {m : BitVec 32} (h : Evolves .all s u) : Answers s (execChposRecord n c m u) := by
  unfold execChposRecord
  exact .next h.frontRecord

theorem execChopenRecord_answers {n : Lane} {c : Chan} (h : Evolves .all s u) : Answers s (execChopenRecord n c u) := by
  unfold execChopenRecord
  exact .next h.frontRecord

theorem execCreditWordReceived_answers {n : Lane} {payload : BitVec 44} (h : Evolves .all s u) :
    Answers s (execCreditWordReceived n payload u) := by
  unfold execCreditWordReceived
  exact .next (h.oamIn (fun h₁ => Evolves.ite h₁.count (Evolves.ite h₁ (Evolves.ite (h₁.totalIn (fun h₂ =>
      h₂.count)) (h₁.totalIn (fun h₂ => h₂.count))))))

theorem execCreditRefresh_answers (h : Evolves .all s u) : Answers s (execCreditRefresh u) := by
  unfold execCreditRefresh
  exact .next (h.each (fun _ h₁ => Evolves.ite h₁.modChan h₁))

theorem execGranuleDeliver_answers {c : Chan} {egrOk : Bool} (h : Evolves .all s u) : Answers s (execGranuleDeliver c egrOk u) := by
  unfold execGranuleDeliver
  exact Answers.ite (.next h.settleChan.deliverOne) (Answers.ite (.next h.settleChan.chCount.logDiscard.popEgress) (.next h.settleChan))

theorem execCinchAudit_answers (h : Evolves .all s u) : Answers s (execCinchAudit u) := by
  unfold execCinchAudit
  exact .next ((h.each (fun _ h₁ => Evolves.ite h₁.freezeChannel h₁)).count)

theorem execClrCh_answers {p : Path} {c : Chan} (h : Evolves .all s u) : Answers s (execClrCh p c u) := by
  unfold execClrCh
  exact writeCommand_answers h (fun h₁ => h₁.wrCinConsAudit)

theorem execShedLolExpiry_answers {n : Lane} (h : Evolves .all s u) : Answers s (execShedLolExpiry n u) := by
  unfold execShedLolExpiry
  exact .next (Evolves.ite h h.shedLane)

theorem execCinShedWrite_answers {p : Path} {n : Lane} (h : Evolves .all s u) : Answers s (execCinShedWrite p n u) := by
  unfold execCinShedWrite
  exact writeCommand_answers h (fun h₁ => h₁.wrCinLaneCtrl)

theorem execCinUnshedWrite_answers {p : Path} {n : Lane} (h : Evolves .all s u) : Answers s (execCinUnshedWrite p n u) := by
  unfold execCinUnshedWrite
  exact writeCommand_answers h (fun h₁ => h₁.wrCinLaneCtrl)

theorem execRejoin_answers {n : Lane} (h : Evolves .all s u) : Answers s (execRejoin n u) := by
  unfold execRejoin
  exact .next (Evolves.ite h.setFlag h)

theorem execChannelOpen_answers {p : Path} {c : Chan} {lineCredit : Bool} (h : Evolves .all s u) :
    Answers s (execChannelOpen p c lineCredit u) := by
  unfold execChannelOpen
  exact writeCommand_answers h (fun h₁ => h₁.wrCinChCfg)

theorem execChannelClose_answers {p : Path} {c : Chan} (h : Evolves .all s u) : Answers s (execChannelClose p c u) := by
  unfold execChannelClose
  exact writeCommand_answers h (fun h₁ => h₁.wrCinChCfg)

theorem execStripeWrite_answers {p : Path} {c : Chan} {mask : BitVec 16} (h : Evolves .all s u) : Answers s (execStripeWrite p c mask u) := by
  unfold execStripeWrite
  exact writeCommand_answers h (fun h₁ => h₁.wrCinChCfg)

theorem execCreditDiscardEnd_answers {c : Chan} (h : Evolves .all s u) : Answers s (execCreditDiscardEnd c u) := by
  unfold execCreditDiscardEnd
  exact .next h.modChan

end Sys2Proof.Machine
end

section
/-! SUPPORT. What the DMA engine leave: `Evolves`, for each operation and command. -/
namespace Sys2Proof.Machine
open Sys2Proof
set_option Elab.async false
variable {K : Scope} {s u t₀ : State}

theorem Evolves.goDma {n st : Nat} (h : Evolves K s u) (hK : (Scope.of [.DMA_STATUS] []).le K = true := by decide +kernel) :
    Evolves K s (u.goDma n st) := by
  refine h.widen hK fun h => ?_
  unfold State.goDma
  exact h.setFld

theorem Evolves.dmaCheck {n role : Nat} (h : Evolves K s u) (hK : readWordScope.le K = true := by decide +kernel) :
    Evolves K s (u.dmaCheck n role).2 := by
  refine h.widen hK fun h => ?_
  unfold State.dmaCheck
  dsimp only
  split
  · exact h
  · split
    · exact h
    · split
      · split
        · exact h
        · split
          exacts [h, h]
      · split
        · exact h
        · split
          · exact h
          · split
            · exact h
            · split
              · exact h.storeRead
              · split
                · exact h.storeRead
                · split
                  exacts [h.storeRead, h.storeRead, h.storeRead]

theorem Evolves.dmaGrant (h : Evolves K s u) (hK : (Scope.of [.DMA_STATUS] [.engine]).le K = true := by decide +kernel) :
    Evolves K s u.dmaGrant := by
  refine h.widen hK fun h => ?_
  unfold State.dmaGrant
  dsimp only
  split
  exacts [h.same.goDma, h]

theorem Evolves.cqPut {n status : Nat} (h : Evolves K s u)
    (hK : (Scope.of [.DMA_CQ_WR, .DMA_CQ_REC] [.engine]).le K = true := by decide +kernel) : Evolves K s (u.cqPut n status) := by
  refine h.widen hK fun h => ?_
  unfold State.cqPut
  exact ((h.each (fun _ h₁ => h₁.setFld (f := DMA_CQ_REC.WORD))).setEngine).setFld

theorem Evolves.dmaIdle {n : Nat} (h : Evolves K s u) (hK : (Scope.of [.DMA_STATUS] [.dma]).le K = true := by decide +kernel) :
    Evolves K s (u.dmaIdle n) := by
  refine h.widen hK fun h => ?_
  unfold State.dmaIdle
  exact h.goDma.setFld.modDma

theorem Evolves.dmaComplete {n status : Nat} (h : Evolves K s u)
    (hK : (Scope.of [.DMA_STATUS, .DMA_CQ_WR, .DMA_CQ_WAITS, .DMA_CQ_REC] [.dma, .engine]).le K = true := by decide +kernel) :
    Evolves K s (u.dmaComplete n status) := by
  refine h.widen hK fun h => ?_
  unfold State.dmaComplete
  exact .ite (.setEngine h.goDma.modDma.count) h.cqPut.dmaIdle

/-- What `State.dmaGo` may change. -/
def dmaGoScope : Scope := .join [readWordScope, .of [.DMA_STATUS] [.dma, .engine]]

theorem Evolves.dmaGo {n role : Nat} (h : Evolves K s u) (hK : dmaGoScope.le K = true := by decide +kernel) :
    Evolves K s (u.dmaGo n role) := by
  refine h.widen hK fun h => ?_
  unfold State.dmaGo
  dsimp only
  split
  exacts [h.dmaCheck.goDma.modDma, h.dmaCheck.modDma.goDma.setFld.dmaGrant]

theorem Evolves.dmaAbort {n : Nat} (h : Evolves K s u) (hK : (Scope.of [] [.dma]).le K = true := by decide +kernel) :
    Evolves K s (u.dmaAbort n) := by
  refine h.widen hK fun h => ?_
  unfold State.dmaAbort
  exact Evolves.ite (Evolves.ite h.modDma h.modDma) h

/-- What `wrDmaCtrl` may change. -/
def wrDmaCtrlScope : Scope := .join [dmaGoScope, .of [.DMA_CTRL] []]

theorem Evolves.wrDmaCtrl {p : Path} {n v₁ : Nat} (h : Evolves K s u) (hK : wrDmaCtrlScope.le K = true := by decide +kernel) :
    Evolves K s (wrDmaCtrl p n v₁ u).1 := by
  refine h.widen hK fun h => ?_
  unfold Machine.wrDmaCtrl
  refine .iteFst h.rejectWrite (.iteFst (.iteFst (.fst (.dmaGo ?_)) (.fst (.log ?_))) (.fst ?_)) <;>
    exact (h.when fun h => h.plainWrite).when fun h => h.dmaAbort

theorem Evolves.wrDmaParam {p : Path} {r : Reg} {n v₁ : Nat} (h : Evolves K s u) (hr : K.hasReg r = true := by decide +kernel)
    (hK : (Scope.of [.EVL_DROPPED] [.recorder]).le K = true := by decide +kernel) : Evolves K s (wrDmaParam p r n v₁ u).1 := by
  unfold Machine.wrDmaParam
  split
  exacts [h.plainWrite hr, h.rejectWrite hK]

theorem Evolves.cqRelease (h : Evolves K s u)
    (hK : (Scope.of [.DMA_STATUS, .DMA_CQ_WR, .DMA_CQ_REC] [.dma, .engine]).le K = true := by decide +kernel) :
    Evolves K s u.cqRelease := by
  refine h.widen hK fun h => ?_
  unfold State.cqRelease
  refine h.each fun i h => ?_
  split
  exacts [.ite h (.setEngine h.cqPut.dmaIdle), h]

/-- What `wrDmaCqRd` may change. -/
def wrDmaCqRdScope : Scope := .of [.DMA_STATUS, .DMA_CQ_WR, .DMA_CQ_RD, .DMA_CQ_REC, .EVL_DROPPED] [.recorder, .dma, .engine]

theorem Evolves.wrDmaCqRd {p : Path} {v₁ : Nat} (h : Evolves K s u) (hK : wrDmaCqRdScope.le K = true := by decide +kernel) :
    Evolves K s (wrDmaCqRd p v₁ u).1 := by
  refine h.widen hK fun h => ?_
  unfold Machine.wrDmaCqRd
  dsimp only
  split
  exacts [h.rejectWrite, h.setFld.cqRelease]

theorem dmaStart_answers {p : Path} {n mode : Nat} (h : Evolves .all s u) : Answers s (dmaStart p n mode u) := by
  unfold dmaStart
  exact writeCommand_answers h (fun h₁ => h₁.wrDmaCtrl)

theorem execLinear_answers {p : Path} {n : Fin 16} (h : Evolves .all s u) : Answers s (execLinear p n u) := by
  unfold execLinear
  exact dmaStart_answers h

theorem execFill_answers {p : Path} {n : Fin 16} (h : Evolves .all s u) : Answers s (execFill p n u) := by
  unfold execFill
  exact dmaStart_answers h

theorem execIndex_answers {p : Path} {n : Fin 16} (h : Evolves .all s u) : Answers s (execIndex p n u) := by
  unfold execIndex
  exact dmaStart_answers h

theorem execDmaAbort_answers {p : Path} {n : Fin 16} (h : Evolves .all s u) : Answers s (execDmaAbort p n u) := by
  unfold execDmaAbort
  exact writeCommand_answers h (fun h₁ => h₁.wrDmaCtrl)

theorem execDmaTransferEnd_answers {n : Fin 16} (h : Evolves .all s u) : Answers s (execDmaTransferEnd n u) := by
  unfold execDmaTransferEnd
  dsimp only
  split
  exacts [.next h, Answers.ite (.next h) (Answers.ite (.next h.dmaComplete) (.next h.dmaIdle))]

theorem execDmaCqRdWrite_answers {p : Path} {index : Byte} (h : Evolves .all s u) : Answers s (execDmaCqRdWrite p index u) := by
  unfold execDmaCqRdWrite
  exact writeCommand_answers h (fun h₁ => h₁.wrDmaCqRd)

end Sys2Proof.Machine
end

section
/-! SUPPORT. What the host interface leave: `Evolves`, for each operation and command. -/
namespace Sys2Proof.Machine
open Sys2Proof
set_option Elab.async false
variable {K : Scope} {s u t₀ : State}

theorem Evolves.showPort {p : Nat} (h : Evolves K s u)
    (hK : (Scope.of [.HPM_PORT_STATUS, .EVL_DROPPED] [.recorder]).le K = true := by decide +kernel) : Evolves K s (u.showPort p) := by
  refine h.widen hK fun h => ?_
  unfold State.showPort
  exact Evolves.ite h (h.setFlag.setFlag.setFlag.setFlag.setFlag.skip fun h₁ => h₁.log)

theorem Evolves.showPorts (h : Evolves K s u)
    (hK : (Scope.of [.HPM_PORT_STATUS, .EVL_DROPPED] [.recorder]).le K = true := by decide +kernel) : Evolves K s u.showPorts := by
  refine h.widen hK fun h => ?_
  unfold State.showPorts
  exact h.each (fun _ h₁ => h₁.showPort)

theorem Evolves.goHrx {h₁ st : Nat} (h : Evolves K s u) (hK : (Scope.of [.HSI_STATUS] []).le K = true := by decide +kernel) :
    Evolves K s (u.goHrx h₁ st) := by
  refine h.widen hK fun h => ?_
  unfold State.goHrx
  exact h.setFld

theorem Evolves.logHost {h₁ kind : Nat} (h : Evolves K s u)
    (hK : (Scope.of [.EVL_DROPPED] [.recorder]).le K = true := by decide +kernel) : Evolves K s (u.logHost h₁ kind) := by
  refine h.widen hK fun h => ?_
  unfold State.logHost
  exact h.log

theorem Evolves.showHostClk {k : Nat} (h : Evolves K s u) (hK : (Scope.of [.HSI_CLK] []).le K = true := by decide +kernel) :
    Evolves K s (u.showHostClk k) := by
  refine h.widen hK fun h => ?_
  unfold State.showHostClk
  exact h.setFlag

theorem Evolves.dropFraming {h₁ : Nat} (h : Evolves K s u) (hK : (Scope.of [.HSI_STATUS] [.hsi]).le K = true := by decide +kernel) :
    Evolves K s (u.dropFraming h₁) := by
  refine h.widen hK fun h => ?_
  unfold State.dropFraming
  exact h.modHsi.setFlag

theorem Evolves.keepTaps {h₁ : Nat} (h : Evolves K s u) (hK : (Scope.of [] [.freeCtr, .hsi]).le K = true := by decide +kernel) :
    Evolves K s (u.keepTaps h₁) := by
  refine h.widen hK fun h => ?_
  unfold State.keepTaps
  exact Evolves.ite h.fresh.modHsi h

theorem Evolves.lineRelayStop {h₁ : Nat} (h : Evolves K s u) (hK : (Scope.of [] [.ltx]).le K = true := by decide +kernel) :
    Evolves K s (u.lineRelayStop h₁) := by
  refine h.widen hK fun h => ?_
  unfold State.lineRelayStop
  exact Evolves.ite h.modLtx h

/-- What `State.leaveHost` may change. -/
def leaveHostScope : Scope := .of [.HSI_STATUS, .HSI_LOL, .HPM_PORT_STATUS, .EVL_DROPPED] [.freeCtr, .recorder, .ltx, .hsi]

theorem Evolves.leaveHost {h₁ cause st : Nat} (h : Evolves K s u) (hK : leaveHostScope.le K = true := by decide +kernel) :
    Evolves K s (u.leaveHost h₁ cause st) := by
  refine h.widen hK fun h => ?_
  unfold State.leaveHost
  exact h.keepTaps.setFld.count.modHsi.goHrx.dropFraming.logHost.lineRelayStop.showPorts

theorem Evolves.hostWaits {h₁ : Nat} (h : Evolves K s u)
    (hK : (Scope.of [.HSI_STATUS, .HSI_CLK] [.hsi]).le K = true := by decide +kernel) : Evolves K s (u.hostWaits h₁) := by
  refine h.widen hK fun h => ?_
  unfold State.hostWaits
  exact h.setFld.goHrx.modHsi.showHostClk

theorem Evolves.toCdr {h₁ : Nat} {warm : Bool} (h : Evolves K s u)
    (hK : (Scope.of [.HSI_STATUS, .HSI_FREQ, .HSI_EYE, .HSI_CLK] [.hsi]).le K = true := by decide +kernel) :
    Evolves K s (u.toCdr h₁ warm) := by
  refine h.widen hK fun h => ?_
  unfold State.toCdr
  exact Evolves.ite h.hostWaits (h.modHsi.goHrx.dropFraming.skip fun h₁ => h₁.modHsi.resetReg.resetReg)

/-- What `State.wakeHost` may change. -/
def wakeHostScope : Scope := .of [.HSI_STATUS, .HSI_FREQ, .HSI_EYE, .HSI_WAKE, .HSI_CLK, .EVL_DROPPED] [.recorder, .hsi]

theorem Evolves.wakeHost {h₁ : Nat} (h : Evolves K s u) (hK : wakeHostScope.le K = true := by decide +kernel) :
    Evolves K s (u.wakeHost h₁) := by
  refine h.widen hK fun h => ?_
  unfold State.wakeHost
  exact h.count.toCdr.logHost

theorem Evolves.wakeIfQuiet {h₁ : Nat} (h : Evolves K s u) (hK : wakeHostScope.le K = true := by decide +kernel) :
    Evolves K s (u.wakeIfQuiet h₁) := by
  refine h.widen hK fun h => ?_
  unfold State.wakeIfQuiet
  exact Evolves.ite h.wakeHost h

theorem Evolves.wakeTx {h₁ : Nat} (h : Evolves K s u)
    (hK : (Scope.of [.HSI_STATUS, .HSI_CLK] [.hsi]).le K = true := by decide +kernel) : Evolves K s (u.wakeTx h₁) := by
  refine h.widen hK fun h => ?_
  unfold State.wakeTx
  exact Evolves.ite h (Evolves.ite h.setFld.modHsi h.setFld.modHsi.showHostClk)

/-- What `State.lockHost` may change. -/
def lockHostScope : Scope := .of [.HSI_STATUS, .HSI_LOCK, .HPM_PORT_STATUS, .HSI_CLK, .EVL_DROPPED] [.recorder, .hsi]

theorem Evolves.lockHost {h₁ : Nat} (h : Evolves K s u) (hK : lockHostScope.le K = true := by decide +kernel) :
    Evolves K s (u.lockHost h₁) := by
  refine h.widen hK fun h => ?_
  unfold State.lockHost
  exact (h.goHrx.count.modHsi.when fun h₁ => h₁.wakeTx).showPorts

theorem Evolves.startHrx {h₁ : Nat} {go : State → State} (h : Evolves K s u) (hgo : ∀ {v}, Evolves K s v → Evolves K s (go v))
    (hK : (Scope.of [.HSI_STATUS] [.hsi]).le K = true := by decide +kernel) : Evolves K s (u.startHrx h₁ go) := by
  unfold State.startHrx
  exact .ite (h.widen hK fun h => h.modHsi.goHrx) (hgo h)

theorem Evolves.enableHrx {h₁ : Nat} (h : Evolves K s u)
    (hK : (Scope.of [.HSI_STATUS, .HSI_CLK] [.hsi]).le K = true := by decide +kernel) : Evolves K s (u.enableHrx h₁) := by
  refine h.widen hK fun h => ?_
  unfold State.enableHrx
  exact Evolves.ite h (h.setFld.modHsi.cond (fun h₁ => h₁.setFld.startHrx (fun h₂ => h₂.goHrx)) (fun h₁ => h₁.goHrx.showHostClk))

/-- What `State.disableHrx` may change. -/
def disableHrxScope : Scope := .of [.HSI_STATUS, .HSI_LOL, .HPM_PORT_STATUS, .HSI_CLK, .EVL_DROPPED] [.freeCtr, .recorder, .ltx, .hsi]

theorem Evolves.disableHrx {h₁ cause : Nat} (h : Evolves K s u) (hK : disableHrxScope.le K = true := by decide +kernel) :
    Evolves K s (u.disableHrx h₁ cause) := by
  refine h.widen hK fun h => ?_
  unfold State.disableHrx
  exact (((Evolves.ite h.leaveHost h.goHrx).dropFraming).modHsi).showHostClk

theorem Evolves.upHtx {h₁ : Nat} (h : Evolves K s u)
    (hK : (Scope.of [.HSI_STATUS, .HSI_CLK] [.hsi]).le K = true := by decide +kernel) : Evolves K s (u.upHtx h₁) := by
  refine h.widen hK fun h => ?_
  unfold State.upHtx
  exact h.setFld.modHsi.showHostClk

theorem Evolves.enableHtx {h₁ : Nat} (h : Evolves K s u)
    (hK : (Scope.of [.HSI_STATUS, .HSI_CLK] [.hsi]).le K = true := by decide +kernel) : Evolves K s (u.enableHtx h₁) := by
  refine h.widen hK fun h => ?_
  unfold State.enableHtx
  exact Evolves.ite h (Evolves.ite h.setFld.modHsi.upHtx h.setFld.modHsi.showHostClk)

theorem Evolves.disableHtx {h₁ : Nat} (h : Evolves K s u)
    (hK : (Scope.of [.HSI_STATUS, .HSI_CLK] [.hsi]).le K = true := by decide +kernel) : Evolves K s (u.disableHtx h₁) := by
  refine h.widen hK fun h => ?_
  unfold State.disableHtx
  exact h.setFld.modHsi.showHostClk

theorem Evolves.hostClockLost {h₁ : Nat} (h : Evolves K s u) (hK : disableHrxScope.le K = true := by decide +kernel) :
    Evolves K s (u.hostClockLost h₁) := by
  refine h.widen hK fun h => ?_
  unfold State.hostClockLost
  exact (Evolves.ite h.leaveHost.hostWaits (Evolves.ite h.hostWaits h)).when fun h₁ => h₁.setFld.modHsi.showHostClk

theorem Evolves.hostClockBack {h₁ : Nat} (h : Evolves K s u)
    (hK : (Scope.of [.HSI_STATUS, .HSI_FREQ, .HSI_EYE, .HSI_CLK] [.hsi]).le K = true := by decide +kernel) :
    Evolves K s (u.hostClockBack h₁) := by
  refine h.widen hK fun h => ?_
  unfold State.hostClockBack
  exact
      (Evolves.ite
      (Evolves.ite (Evolves.ite ((h.startHrx (fun h₁ => h₁.toCdr)).showHostClk) h) (Evolves.ite ((h.setFld.startHrx (fun h₁ =>
      h₁.goHrx)).showHostClk) h)) h).when fun h₁ => (Evolves.ite h₁ h₁.setFld).upHtx

theorem Evolves.hostPendingOver {h₁ : Nat} (h : Evolves K s u)
    (hK : (Scope.of [.HSI_CTRL, .HSI_STATUS, .HSI_TIMEOUT, .HSI_CLK] [.hsi]).le K = true := by decide +kernel) :
    Evolves K s (u.hostPendingOver h₁) := by
  refine h.widen hK fun h => ?_
  unfold State.hostPendingOver
  refine Evolves.ite h ?_
  exact ((Evolves.ite h.count.setFld.setFlag.goHrx h).when fun h₁ => h₁.setFld.cond (fun h₂ => h₂.setFld.modHsi) (fun h₂ =>
      h₂.setFlag.setFld)).showHostClk

/-- What `wrHsiCtrl` may change. -/
def wrHsiCtrlScope : Scope := .of [.HSI_CTRL, .HSI_STATUS, .HSI_FREQ, .HSI_EYE, .HSI_LOL, .HSI_WAKE, .HPM_PORT_STATUS, .HSI_CLK,
    .EVL_DROPPED] [.freeCtr, .recorder, .ltx, .hsi]

theorem Evolves.wrHsiCtrl {h₁ v₁ : Nat} (h : Evolves K s u) (hK : wrHsiCtrlScope.le K = true := by decide +kernel) :
    Evolves K s (wrHsiCtrl h₁ v₁ u).1 := by
  refine h.widen hK fun h => ?_
  unfold Machine.wrHsiCtrl
  exact (((((h.plainWrite.cond (fun h₁ => h₁.enableHrx) (fun h₁ => Evolves.ite h₁.disableHrx h₁)).cond (fun h₁ => h₁.enableHtx) (fun h₁ =>
      Evolves.ite h₁.disableHtx h₁)).when fun h₁ => Evolves.ite h₁.leaveHost.toCdr (Evolves.ite h₁.toCdr h₁)).cond (fun h₁ =>
      h₁.modHsi.cond
      (fun h₂ => h₂.leaveHost) (fun h₂ => Evolves.ite ((Evolves.ite h₂.setFld h₂).goHrx) (Evolves.ite h₂ h₂.modHsi))) (fun h₁ =>
      h₁.modHsi.wakeIfQuiet)).cond
      (fun h₁ => Evolves.ite h₁.setFld (Evolves.ite h₁.modHsi (Evolves.ite h₁.setFld.modHsi.showHostClk h₁))) (fun h₁ =>
      h₁.modHsi.wakeTx)).when fun h₁ => h₁.modHsi

theorem Evolves.stageTxeq {h₁ v₁ : Nat} (h : Evolves K s u) (hK : (Scope.of [.HSI_TXEQ] [.hsi]).le K = true := by decide +kernel) :
    Evolves K s (u.stageTxeq h₁ v₁) := by
  refine h.widen hK fun h => ?_
  unfold State.stageTxeq
  exact h.setReg.modHsi

theorem Evolves.wrHsiTxeq {p : Path} {h₁ v₁ : Nat} (h : Evolves K s u)
    (hK : (Scope.of [.HSI_STATUS, .HSI_TXEQ, .EVL_DROPPED] [.recorder, .hsi]).le K = true := by decide +kernel) :
    Evolves K s (wrHsiTxeq p h₁ v₁ u).1 := by
  refine h.widen hK fun h => ?_
  unfold Machine.wrHsiTxeq
  split
  exacts [h.stageTxeq.setFld, h.setFld.rejectWrite]

theorem Evolves.applyCmisEq {h₁ : Nat} (h : Evolves K s u)
    (hK : (Scope.of [.HSI_TXEQ, .EVL_DROPPED] [.freeCtr, .recorder, .hsi]).le K = true := by decide +kernel) :
    Evolves K s (u.applyCmisEq h₁) := by
  refine h.widen hK fun h => ?_
  unfold State.applyCmisEq
  exact Evolves.ite h.modHsi.regReject (Evolves.ite h.modHsi.stageTxeq.fresh.logHost h.modHsi.stageTxeq)

theorem Evolves.wrHsiPat {p : Path} {h₁ v₁ : Nat} (h : Evolves K s u)
    (hK : (Scope.of [.HSI_STATUS, .HSI_PAT, .EVL_DROPPED] [.recorder]).le K = true := by decide +kernel) :
    Evolves K s (wrHsiPat p h₁ v₁ u).1 := by
  refine h.widen hK fun h => ?_
  unfold Machine.wrHsiPat
  dsimp only
  split
  exacts [h.setFld.rejectWrite, h.plainWrite.setFld]

theorem Evolves.hostRelayStop {n : Nat} (h : Evolves K s u) (hK : (Scope.of [] [.hsi]).le K = true := by decide +kernel) :
    Evolves K s (u.hostRelayStop n) := by
  refine h.widen hK fun h => ?_
  unfold State.hostRelayStop
  exact h.each (fun _ h₁ => h₁.modHsi)

theorem execHsiRxEnable_answers {p : Path} {h₁ : HLane} (h : Evolves .all s u) : Answers s (execHsiRxEnable p h₁ u) := by
  unfold execHsiRxEnable
  exact writeCommand_answers h (fun h₁ => h₁.wrHsiCtrl)

theorem execHsiRxDisable_answers {p : Path} {h₁ : HLane} (h : Evolves .all s u) : Answers s (execHsiRxDisable p h₁ u) := by
  unfold execHsiRxDisable
  exact writeCommand_answers h (fun h₁ => h₁.wrHsiCtrl)

theorem execHsiTxEnable_answers {p : Path} {h₁ : HLane} (h : Evolves .all s u) : Answers s (execHsiTxEnable p h₁ u) := by
  unfold execHsiTxEnable
  exact writeCommand_answers h (fun h₁ => h₁.wrHsiCtrl)

theorem execHsiTxDisable_answers {p : Path} {h₁ : HLane} (h : Evolves .all s u) : Answers s (execHsiTxDisable p h₁ u) := by
  unfold execHsiTxDisable
  exact writeCommand_answers h (fun h₁ => h₁.wrHsiCtrl)

theorem execRelock_answers {p : Path} {h₁ : HLane} (h : Evolves .all s u) : Answers s (execRelock p h₁ u) := by
  unfold execRelock
  exact writeCommand_answers h (fun h₁ => h₁.wrHsiCtrl)

theorem execRxQuiet_answers {p : Path} {h₁ : HLane} (h : Evolves .all s u) : Answers s (execRxQuiet p h₁ u) := by
  unfold execRxQuiet
  exact writeCommand_answers h (fun h₁ => h₁.wrHsiCtrl)

theorem execRxQuietClear_answers {p : Path} {h₁ : HLane} (h : Evolves .all s u) : Answers s (execRxQuietClear p h₁ u) := by
  unfold execRxQuietClear
  exact writeCommand_answers h (fun h₁ => h₁.wrHsiCtrl)

theorem execTxQuiet_answers {p : Path} {h₁ : HLane} (h : Evolves .all s u) : Answers s (execTxQuiet p h₁ u) := by
  unfold execTxQuiet
  exact writeCommand_answers h (fun h₁ => h₁.wrHsiCtrl)

theorem execTxQuietClear_answers {p : Path} {h₁ : HLane} (h : Evolves .all s u) : Answers s (execTxQuietClear p h₁ u) := by
  unfold execTxQuietClear
  exact writeCommand_answers h (fun h₁ => h₁.wrHsiCtrl)

theorem execWakingDone_answers {h₁ : HLane} (h : Evolves .all s u) : Answers s (execWakingDone h₁ u) := by
  unfold execWakingDone
  exact .next (Evolves.ite h.setFld.modHsi h)

theorem execHsiTxeqWrite_answers {p : Path} {h₁ : HLane} {value : Word32} (h : Evolves .all s u) :
    Answers s (execHsiTxeqWrite p h₁ value u) := by
  unfold execHsiTxeqWrite
  exact writeCommand_answers h (fun h₁ => h₁.wrHsiTxeq)

theorem execCmisOutputEqWrite_answers {h₁ : HLane} {pre post : Fin 8} {amp : Fin 4} (h : Evolves .all s u) :
    Answers s (execCmisOutputEqWrite h₁ pre post amp u) := by
  unfold execCmisOutputEqWrite
  exact .next (h.modHsi.skip fun h₁ => h₁.applyCmisEq)

theorem execTxeqApply_answers (h : Evolves .all s u) : Answers s (execTxeqApply u) := by
  unfold execTxeqApply
  dsimp only
  refine .next ?_
  exact h.each (fun _ h₁ => (by split; exacts [h₁, h₁.modHsi.when fun h₂ => h₂.setFld]))

theorem execActivityDetect_answers {h₁ : HLane} {pattern : Bool} (h : Evolves .all s u) : Answers s (execActivityDetect h₁ pattern u) := by
  unfold execActivityDetect
  refine Answers.ite (.next h) ?_
  refine Answers.ite (.next h.setFlag.toCdr) ?_
  refine Answers.ite ?_ (.next h.setFlag)
  exact Answers.ite (.next h.setFlag) (Answers.ite (.next (h.setFlag.skip fun h₁ => h₁.count)) (.next h.setFlag.wakeIfQuiet))

theorem execSignalLoss_answers {h₁ : HLane} (h : Evolves .all s u) : Answers s (execSignalLoss h₁ u) := by
  unfold execSignalLoss
  exact .next (h.setFlag.when fun h₁ => h₁.leaveHost)

theorem execWakePatternDetect_answers {h₁ : HLane} (h : Evolves .all s u) : Answers s (execWakePatternDetect h₁ u) := by
  unfold execWakePatternDetect
  exact .next (Evolves.ite h.wakeIfQuiet h)

theorem execHostStageTimeout_answers {h₁ : HLane} (h : Evolves .all s u) : Answers s (execHostStageTimeout h₁ u) := by
  unfold execHostStageTimeout
  exact Answers.ite (.next h.count.goHrx) (Answers.ite (.next h.count.goHrx) (.next h))

theorem Evolves.cdrPassed {h₁ : Nat} (h : Evolves K s u)
    (hK : (Scope.of [.HSI_STATUS, .HSI_EYE] []).le K = true := by decide +kernel) : Evolves K s (u.cdrPassed h₁) := by
  refine h.widen hK fun h => ?_
  unfold State.cdrPassed
  exact (Evolves.ite h h.setFld).goHrx

theorem execCdrDone_answers {h₁ : HLane} {freq : BitVec 16} {sweep : DelaySweep} (h : Evolves .all s u) :
    Answers s (execCdrDone h₁ freq sweep u) := by
  unfold execCdrDone
  refine .ite (.next h) (.ite (.next h.setFld.cdrPassed) (.ite (.next h.cdrPassed) ?_))
  dsimp only
  split
  · exact .next h.fresh.setFld.cdrPassed
  · exact .next h.fresh

theorem execAdaptDone_answers {h₁ : HLane} {ctle : Fin 15} {eye : EyeReport} (h : Evolves .all s u) :
    Answers s (execAdaptDone h₁ ctle eye u) := by
  unfold execAdaptDone
  exact Answers.ite (.next (h.setFld.setFld.modHsi.cond (fun h₁ => h₁.lockHost) (fun h₁ => h₁.goHrx))) (.next h)

theorem execAlignmentLock_answers {h₁ : HLane} (h : Evolves .all s u) : Answers s (execAlignmentLock h₁ u) := by
  unfold execAlignmentLock
  exact .next (Evolves.ite h.lockHost h)

theorem execAlignmentLockLoss_answers {seen : HostReport Nat} (h : Evolves .all s u) : Answers s (execAlignmentLockLoss seen u) := by
  unfold execAlignmentLockLoss
  exact .next (Evolves.ite h.count.leaveHost h)

theorem execHostCdrLoss_answers {seen : HostReport ℤ} (h : Evolves .all s u) : Answers s (execHostCdrLoss seen u) := by
  unfold execHostCdrLoss
  exact Answers.ite (.next h) (Answers.ite (.next h.setFld.modHsi) (.next h.leaveHost.toCdr))

theorem execHckiMissing_answers {k : Fin 4} (h : Evolves .all s u) : Answers s (execHckiMissing k u) := by
  unfold execHckiMissing
  exact .next
      (h.setFlag.setFld.each
      (fun _ h₁ => Evolves.ite h₁ (Evolves.ite h₁.leaveHost.hostWaits (Evolves.ite h₁.modHsi (Evolves.ite h₁.hostWaits h₁)))))

theorem execHckiPresent_answers {k : Fin 4} (h : Evolves .all s u) : Answers s (execHckiPresent k u) := by
  unfold execHckiPresent
  exact .next (h.setFlag.each (fun _ h₁ => Evolves.ite h₁.modHsi.wakeHost (Evolves.ite h₁.hostClockBack h₁)))

theorem execRateMismatch_answers {n : Lane} {f₀ f₁ : BitVec 16} {dropped : Nat} (h : Evolves .all s u) :
    Answers s (execRateMismatch n f₀ f₁ dropped u) := by
  unfold execRateMismatch
  dsimp only
  split
  · exact Answers.ite (.next h) (.next ((h.setFld.setFld.setFlag.setFlag.when fun h₁ => h₁.logHost).when fun h₁ => h₁.count))
  · exact .next h

theorem execRateRange_answers {h₁ : HLane} {freq : BitVec 16} {dropped : Nat} (h : Evolves .all s u) :
    Answers s (execRateRange h₁ freq dropped u) := by
  unfold execRateRange
  exact Answers.ite (.next h) (.next ((h.setFld.setFlag.when fun h₁ => h₁.logHost).when fun h₁ => h₁.count))

theorem execRecoveredRateSlewDone_answers {n : Lane} (h : Evolves .all s u) : Answers s (execRecoveredRateSlewDone n u) := by
  unfold execRecoveredRateSlewDone
  exact .next (Evolves.ite (h.each (fun _ h₁ => h₁.modHsi)) h)

theorem execHsiPatWrite_answers {p : Path} {h₁ : HLane} {pat : Fin 8} (h : Evolves .all s u) : Answers s (execHsiPatWrite p h₁ pat u) := by
  unfold execHsiPatWrite
  exact writeCommand_answers h (fun h₁ => h₁.wrHsiPat)

end Sys2Proof.Machine
end

section
/-! SUPPORT. What housekeeping leave: `Evolves`, for each operation and command. -/
namespace Sys2Proof.Machine
open Sys2Proof
set_option Elab.async false
variable {K : Scope} {s u t₀ : State}

/-- What `State.streamWrite` may change. -/
def streamWriteScope : Scope := .join [storeWriteScope, .of [.HKA_STREAM_WR, .HKA_STREAM_RD, .HKA_STREAM_LOST] []]

theorem Evolves.streamWrite {k : Nat} {rec_ : List Byte} (h : Evolves K s u)
    (hK : streamWriteScope.le K = true := by decide +kernel) : Evolves K s (u.streamWrite k rec_) := by
  refine h.widen hK fun h => ?_
  unfold State.streamWrite
  exact Evolves.ite (h.count.skip fun h₁ => h₁.setFld.storeWrite.setFld) h.storeWrite.setFld

/-- What `State.toStream` may change. -/
def toStreamScope : Scope := .join [streamWriteScope, .of [] [.strm]]

theorem Evolves.toStream {c code flags : Nat} {dec : Bool} {ts : Ts96} (h : Evolves K s u)
    (hK : toStreamScope.le K = true := by decide +kernel) : Evolves K s (u.toStream c code flags dec ts) := by
  refine h.widen hK fun h => ?_
  unfold State.toStream
  exact Evolves.ite (h.modStrm.cond (fun h₁ => h₁.streamWrite) (fun h₁ => h₁.modStrm)) h

theorem Evolves.showReq (h : Evolves K s u) (hK : (Scope.of [.DMA_CTRL] []).le K = true := by decide +kernel) :
    Evolves K s u.showReq := by
  refine h.widen hK fun h => ?_
  unfold State.showReq
  exact h.each (fun _ h₁ => h₁.setFld)

theorem Evolves.streamWithdraw {k : Nat} (h : Evolves K s u)
    (hK : (Scope.of [.DMA_STATUS] [.dma]).le K = true := by decide +kernel) : Evolves K s (u.streamWithdraw k) := by
  refine h.widen hK fun h => ?_
  unfold State.streamWithdraw
  exact Evolves.ite (Evolves.ite h.modDma h.dmaIdle) h

theorem Evolves.streamStop {k : Nat} (h : Evolves K s u)
    (hK : (Scope.of [.HKA_STREAM_CFG, .DMA_CTRL, .DMA_STATUS] [.strm, .dma]).le K = true := by decide +kernel) :
    Evolves K s (u.streamStop k) := by
  refine h.widen hK fun h => ?_
  unfold State.streamStop
  exact h.streamWithdraw.modStrm.setFlag.showReq

theorem Evolves.wrStreamBase {p : Path} {k v₁ : Nat} (h : Evolves K s u)
    (hK : (Scope.of [.HKA_STREAM_BASE, .EVL_DROPPED] [.recorder]).le K = true := by decide +kernel) :
    Evolves K s (wrStreamBase p k v₁ u).1 := by
  refine h.widen hK fun h => ?_
  unfold Machine.wrStreamBase
  split
  exacts [h.rejectWrite, h.plainWrite]

/-- What `wrStreamCfg` may change. -/
def wrStreamCfgScope : Scope := .of [.HKA_STREAM_CFG, .DMA_CTRL, .DMA_STATUS, .EVL_DROPPED] [.recorder, .strm, .dma]

theorem Evolves.wrStreamCfg {p : Path} {k v₁ : Nat} (h : Evolves K s u) (hK : wrStreamCfgScope.le K = true := by decide +kernel) :
    Evolves K s (wrStreamCfg p k v₁ u).1 := by
  refine h.widen hK fun h => ?_
  unfold Machine.wrStreamCfg
  dsimp only
  split
  exacts [h.rejectWrite, ((Evolves.ite h.streamStop h).plainWrite).showReq]

theorem Evolves.hkaStart (h : Evolves K s u) (hK : (Scope.of [] [.hka]).le K = true := by decide +kernel) : Evolves K s u.hkaStart := by
  refine h.widen hK fun h => ?_
  unfold State.hkaStart
  refine Evolves.ite h ?_
  split
  · exact h.modHka
  · refine Evolves.ite ?_ h
    split
    exacts [h.modHka, h]

theorem Evolves.urgentRequest {u₁ : ConvX} (h : Evolves K s u)
    (hK : (Scope.of [.HKA_URGENT, .HKA_URG_DROP] [.hka]).le K = true := by decide +kernel) : Evolves K s (u.urgentRequest u₁) := by
  refine h.widen hK fun h => ?_
  unfold State.urgentRequest
  dsimp only
  refine Evolves.ite (Evolves.ite h.setFld h.count.modHka) ?_
  exact ((h.modHka.when fun h₁ => (h₁.setFld (f := HKA_URGENT.RESULT)).setFlag (f := HKA_URGENT.BUSY)).step fun h₁ => by split; exacts [Evolves.ite h₁.count.modHka h₁, h₁]).hkaStart

theorem Evolves.freshTrim (h : Evolves K s u) (hK : (Scope.of [] [.freeCtr]).le K = true := by decide +kernel) :
    Evolves K s u.freshTrim.2 := by
  refine h.widen hK fun h => ?_
  unfold State.freshTrim
  exact h.fresh

theorem Evolves.refTrims (h : Evolves K s u) (hK : (Scope.of [.CAL_TRIM_BUSY] [.freeCtr, .hka]).le K = true := by decide +kernel) :
    Evolves K s u.refTrims := by
  refine h.widen hK fun h => ?_
  unfold State.refTrims
  exact h.freshTrim.freshTrim.modHka.showHkaTrims

/-- What `State.dacCalibrate` may change. -/
def dacCalibrateScope : Scope := .of [.CAL_COUNT, .CAL_RESULT, .CAL_LAST_TIME, .CAL_LAST_Q, .CAL_VALUE, .CAL_TRIM_BUSY, .EVL_DROPPED]
    [.freeCtr, .recorder, .dac]

theorem Evolves.dacCalibrate (h : Evolves K s u) (hK : dacCalibrateScope.le K = true := by decide +kernel) :
    Evolves K s u.dacCalibrate := by
  refine h.widen hK fun h => ?_
  unfold State.dacCalibrate
  exact ((h.each (fun _ h₁ => h₁.freshTrim.modDac)).showHkaTrims).calRun

/-- What `State.selfCalEnd` may change. -/
def selfCalEndScope : Scope := .of [.CAL_COUNT, .CAL_RESULT, .CAL_LAST_TIME, .CAL_LAST_Q, .CAL_VALUE, .CAL_TRIM_BUSY, .EVL_DROPPED]
    [.freeCtr, .recorder, .hka]

theorem Evolves.selfCalEnd {ground band : ℤ} (h : Evolves K s u) (hK : selfCalEndScope.le K = true := by decide +kernel) :
    Evolves K s (u.selfCalEnd ground band) := by
  refine h.widen hK fun h => ?_
  unfold State.selfCalEnd
  exact Evolves.ite h.calRun (Evolves.ite h.calRun h.modHka.refTrims.calRun)

/-- What `State.selfCalibrate` may change. -/
def selfCalibrateScope : Scope := .of [.HKA_URGENT, .HKA_URG_DROP, .CAL_COUNT, .CAL_RESULT, .CAL_LAST_TIME, .CAL_LAST_Q, .CAL_VALUE,
    .EVL_DROPPED] [.recorder, .hka]

theorem Evolves.selfCalibrate (h : Evolves K s u) (hK : selfCalibrateScope.le K = true := by decide +kernel) :
    Evolves K s u.selfCalibrate := by
  refine h.widen hK fun h => ?_
  unfold State.selfCalibrate
  exact Evolves.ite h.calRun (((Evolves.ite h.modHka h).urgentRequest).urgentRequest)

theorem execSelfCalibration_answers (h : Evolves .all s u) : Answers s (execSelfCalibration u) := by
  unfold execSelfCalibration
  exact .next h.selfCalibrate

theorem Evolves.logDac {n kind measured : Nat} (h : Evolves K s u)
    (hK : (Scope.of [.EVL_DROPPED] [.recorder]).le K = true := by decide +kernel) : Evolves K s (u.logDac n kind measured) := by
  refine h.widen hK fun h => ?_
  unfold State.logDac
  exact h.log

theorem Evolves.dacKeep {n : Nat} (h : Evolves K s u) (hK : (Scope.of [] [.dac]).le K = true := by decide +kernel) :
    Evolves K s (u.dacKeep n) := by
  refine h.widen hK fun h => ?_
  unfold State.dacKeep
  exact h.modDac

theorem Evolves.dacUpdate {n : Nat} {timed : Bool} (h : Evolves K s u)
    (hK : (Scope.of [.HKA_DAC_CODE] [.dac]).le K = true := by decide +kernel) : Evolves K s (u.dacUpdate n timed).1 := by
  refine h.widen hK fun h => ?_
  unfold State.dacUpdate
  dsimp only
  split
  · exact h
  · split
    exacts [h, h.setFld.modDac]

theorem Evolves.readBack {n : Nat} (h : Evolves K s u)
    (hK : (Scope.of [.HKA_URGENT, .HKA_URG_DROP] [.hka]).le K = true := by decide +kernel) : Evolves K s (u.readBack n) := by
  refine h.widen hK fun h => ?_
  unfold State.readBack
  exact h.urgentRequest

theorem Evolves.rbEnd {n gen : Nat} {code : ℤ} (h : Evolves K s u)
    (hK : (Scope.of [.HKA_RB_FAIL, .HKA_DAC_FAULT, .EVL_DROPPED] [.risen, .recorder, .dac]).le K = true := by decide +kernel) :
    Evolves K s (u.rbEnd n gen code) := by
  refine h.widen hK fun h => ?_
  unfold State.rbEnd
  exact Evolves.ite h (Evolves.ite h.modDac (h.count.modDac.logDac.when fun h₁ => h₁.raise.modDac.skip fun h₂ => h₂.logDac))

theorem Evolves.tskPair {k : Nat} (h : Evolves K s u) (hK : (Scope.of [] [.hka]).le K = true := by decide +kernel) :
    Evolves K s (u.tskPair k) := by
  refine h.widen hK fun h => ?_
  unfold State.tskPair
  exact h.modHka

/-- What `State.urgentEnd` may change. -/
def urgentEndScope : Scope := .of [.HKA_URGENT, .HKA_URGENT_RES, .HKA_RB_FAIL, .HKA_DAC_FAULT, .CAL_COUNT, .CAL_RESULT, .CAL_LAST_TIME,
    .CAL_LAST_Q, .CAL_VALUE, .CAL_TRIM_BUSY, .EVL_DROPPED] [.freeCtr, .risen, .recorder, .hka, .dac]

theorem Evolves.urgentEnd {c : ConvX} {raw code : ℤ} {ovr : Bool} (h : Evolves K s u)
    (hK : urgentEndScope.le K = true := by decide +kernel) : Evolves K s (u.urgentEnd c raw code ovr) := by
  refine h.widen hK fun h => ?_
  unfold State.urgentEnd
  exact h.setReg.cond (fun h₁ => h₁.setFlag) (fun h₁ => Evolves.ite h₁.rbEnd (Evolves.ite h₁.modHka h₁.selfCalEnd))

theorem Evolves.keepResult {c : Nat} {supply : Bool} (h : Evolves K s u)
    (hK : (Scope.of [] [.hka]).le K = true := by decide +kernel) : Evolves K s (u.keepResult c supply) := by
  refine h.widen hK fun h => ?_
  unfold State.keepResult
  exact h.modHka.when fun h₁ => h₁.modHka

theorem execConversionEnd_answers {input : List ℤ} (h : Evolves .all s u) : Answers s (execConversionEnd input u) := by
  unfold execConversionEnd
  dsimp only
  split
  · exact .next h
  · refine Answers.ite (.next h) ?_
    exact .next ((((h.modHka.cond (fun h₁ => h₁.urgentEnd) (fun h₁ => (h₁.keepResult.setReg.setFld.setFld.when fun h₂ =>
        h₂.tskPair).when fun h₂ => h₂.selfCalibrate)).toStream).when fun h₁ => h₁.modHka.foldl (fun _ h₂ => h₂.urgentRequest)).hkaStart)

theorem Evolves.wrHkaUrgent {p : Path} {v₁ : Nat} (h : Evolves K s u)
    (hK : (Scope.of [.HKA_URGENT, .HKA_URG_DROP, .EVL_DROPPED] [.recorder, .hka]).le K = true := by decide +kernel) :
    Evolves K s (wrHkaUrgent p v₁ u).1 := by
  refine h.widen hK fun h => ?_
  unfold Machine.wrHkaUrgent
  dsimp only
  split
  exacts [h.rejectWrite, h.plainWrite.when fun h₁ => h₁.urgentRequest]

theorem execHkaUrgentGo_answers {p : Path} {ch : Fin 64} {src order : Fin 4} (h : Evolves .all s u) :
    Answers s (execHkaUrgentGo p ch src order u) := by
  unfold execHkaUrgentGo
  exact writeCommand_answers h (fun h₁ => h₁.wrHkaUrgent)

/-- What `State.decimate` may change. -/
def decimateScope : Scope := .join [toStreamScope, .of [.HKA_DEC_OUT] [.dec]]

theorem Evolves.decimate {c : Nat} (h : Evolves K s u) (hK : decimateScope.le K = true := by decide +kernel) :
    Evolves K s (u.decimate c) := by
  refine h.widen hK fun h => ?_
  unfold State.decimate
  exact Evolves.ite h (Evolves.ite h.modDec h.modDec.setFlag.setFld.toStream)

theorem execDecimationTick_answers (h : Evolves .all s u) : Answers s (execDecimationTick u) := by
  unfold execDecimationTick
  exact .next (Evolves.ite h (h.each (fun _ h₁ => h₁.decimate)))

theorem Evolves.wrDacCode {n v₁ : Nat} (h : Evolves K s u)
    (hK : (Scope.of [.HKA_DAC_CODE] [.dac]).le K = true := by decide +kernel) : Evolves K s (wrDacCode n v₁ u).1 := by
  refine h.widen hK fun h => ?_
  unfold Machine.wrDacCode
  exact h.dacKeep.setFld.when fun h₁ => h₁.dacUpdate

theorem Evolves.wrDacCfg {n v₁ : Nat} (h : Evolves K s u)
    (hK : (Scope.of [.HKA_DAC_CODE, .HKA_DAC_CFG] [.dac]).le K = true := by decide +kernel) : Evolves K s (wrDacCfg n v₁ u).1 := by
  refine h.widen hK fun h => ?_
  unfold Machine.wrDacCfg
  exact h.dacKeep.plainWrite.modDac.when fun h₁ => h₁.dacUpdate

theorem execDacCodeWrite_answers {p : Path} {n : Fin 32} {code : BitVec 16} (h : Evolves .all s u) :
    Answers s (execDacCodeWrite p n code u) := by
  unfold execDacCodeWrite
  exact writeCommand_answers h (fun h₁ => h₁.wrDacCode)

theorem execDacTimerFire_answers {t : Fin 3} (h : Evolves .all s u) : Answers s (execDacTimerFire t u) := by
  unfold execDacTimerFire
  refine Answers.ite (.next h) ?_
  exact .next ((Evolves.ite h.setFlag h).each (fun _ h₁ => Evolves.ite (Evolves.ite h₁.dacUpdate.logDac h₁.dacUpdate) h₁))

theorem execReadbackRequest_answers {n : Fin 32} (h : Evolves .all s u) : Answers s (execReadbackRequest n u) := by
  unfold execReadbackRequest
  exact Answers.ite (.next h.modDac.readBack) (.next h)

theorem execReadbackPeriod_answers (h : Evolves .all s u) : Answers s (execReadbackPeriod u) := by
  unfold execReadbackPeriod
  dsimp only
  refine Answers.ite (.next h) ?_
  split
  exacts [.next h.modHka.readBack, .next h]

theorem Evolves.wrDacFault {v₁ : Nat} (h : Evolves K s u)
    (hK : (Scope.of [.HKA_DAC_FAULT] [.dac]).le K = true := by decide +kernel) : Evolves K s (wrDacFault v₁ u).1 := by
  refine h.widen hK fun h => ?_
  unfold Machine.wrDacFault
  exact h.plainWrite.each (fun _ h₁ => h₁.modDac)

theorem execDacFaultClear_answers {p : Path} {mask : Word32} (h : Evolves .all s u) : Answers s (execDacFaultClear p mask u) := by
  unfold execDacFaultClear
  exact writeCommand_answers h (fun h₁ => h₁.wrDacFault)

/-- What `State.tskFit` may change. -/
def tskFitScope : Scope := .of [.CAL_COUNT, .CAL_RESULT, .CAL_LAST_TIME, .CAL_LAST_Q, .CAL_VALUE, .CAL_TSK, .EVL_DROPPED] [.recorder]

theorem Evolves.tskFit {k : Nat} (h : Evolves K s u) (hK : tskFitScope.le K = true := by decide +kernel) : Evolves K s (u.tskFit k) := by
  refine h.widen hK fun h => ?_
  unfold State.tskFit
  exact Evolves.ite h h.setFld.setFld.calRun

theorem execTskFit_answers (h : Evolves .all s u) : Answers s (execTskFit u) := by
  unfold execTskFit
  exact .next (h.each (fun _ h₁ => Evolves.ite h₁.calRun h₁.tskFit))

theorem execStreamBurstRequest_answers {k : Fin 4} (h : Evolves .all s u) : Answers s (execStreamBurstRequest k u) := by
  unfold execStreamBurstRequest
  dsimp only
  split
  exacts [Answers.ite (.next h.modStrm.modDma.goDma.dmaGrant) (.next h), .next h]

theorem execStreamWithdraw_answers {k : Fin 4} (h : Evolves .all s u) : Answers s (execStreamWithdraw k u) := by
  unfold execStreamWithdraw
  exact .next h.streamWithdraw

theorem Evolves.wrHkaCtrl {p : Path} {v₁ : Nat} (h : Evolves K s u)
    (hK : (Scope.of [.HKA_CTRL, .EVL_DROPPED] [.recorder, .hka]).le K = true := by decide +kernel) :
    Evolves K s (wrHkaCtrl p v₁ u).1 := by
  refine h.widen hK fun h => ?_
  unfold Machine.wrHkaCtrl
  split
  exacts [h.rejectWrite, h.plainWrite.hkaStart]

theorem Evolves.wrHkaTiming {p : Path} {v₁ : Nat} (h : Evolves K s u)
    (hK : (Scope.of [.HKA_TIMING, .EVL_DROPPED] [.recorder]).le K = true := by decide +kernel) : Evolves K s (wrHkaTiming p v₁ u).1 := by
  refine h.widen hK fun h => ?_
  unfold Machine.wrHkaTiming
  dsimp only
  split
  exacts [h.rejectWrite, h.plainWrite]

theorem Evolves.wrHkaChCfg {p : Path} {c v₁ : Nat} (h : Evolves K s u)
    (hK : (Scope.of [.HKA_CH_CFG, .EVL_DROPPED] [.recorder, .hka, .dec]).le K = true := by decide +kernel) :
    Evolves K s (wrHkaChCfg p c v₁ u).1 := by
  refine h.widen hK fun h => ?_
  unfold Machine.wrHkaChCfg
  dsimp only
  split
  · exact h.rejectWrite
  · exact (((h.plainWrite (r := .HKA_CH_CFG)).when fun h₁ => h₁.modDec).hkaStart).step fun h₁ => by split; exacts [h₁.rejectWrite, h₁]

theorem Evolves.wrHkaDecCfg {p : Path} {v₁ : Nat} (h : Evolves K s u)
    (hK : (Scope.of [.HKA_DEC_CFG, .EVL_DROPPED] [.recorder, .dec]).le K = true := by decide +kernel) :
    Evolves K s (wrHkaDecCfg p v₁ u).1 := by
  refine h.widen hK fun h => ?_
  unfold Machine.wrHkaDecCfg
  dsimp only
  split
  exacts [h.rejectWrite, h.plainWrite.skip fun h₁ => h₁.each (fun _ h₂ => h₂.modDec)]

theorem Evolves.wrHkaMon {p : Path} {n v₁ : Nat} (h : Evolves K s u)
    (hK : (Scope.of [.HKA_MON, .EVL_DROPPED] [.recorder]).le K = true := by decide +kernel) : Evolves K s (wrHkaMon p n v₁ u).1 := by
  refine h.widen hK fun h => ?_
  unfold Machine.wrHkaMon
  split
  exacts [h.plainWrite, h.rejectWrite]

theorem Evolves.wrHkaMonVcc {p : Path} {v₁ : Nat} (h : Evolves K s u)
    (hK : (Scope.of [.HKA_MON_VCC, .EVL_DROPPED] [.recorder]).le K = true := by decide +kernel) : Evolves K s (wrHkaMonVcc p v₁ u).1 := by
  refine h.widen hK fun h => ?_
  unfold Machine.wrHkaMonVcc
  split
  exacts [h.plainWrite, h.rejectWrite]

theorem Evolves.wrDacTimer {p : Path} {t v₁ : Nat} (h : Evolves K s u)
    (hK : (Scope.of [.HKA_DAC_TIMER, .EVL_DROPPED] [.recorder]).le K = true := by decide +kernel) :
    Evolves K s (wrDacTimer p t v₁ u).1 := by
  refine h.widen hK fun h => ?_
  unfold Machine.wrDacTimer
  split
  exacts [h.rejectWrite, h.plainWrite]

theorem Evolves.wrRbCfg {p : Path} {v₁ : Nat} (h : Evolves K s u)
    (hK : (Scope.of [.HKA_RB_CFG, .EVL_DROPPED] [.recorder]).le K = true := by decide +kernel) : Evolves K s (wrRbCfg p v₁ u).1 := by
  refine h.widen hK fun h => ?_
  unfold Machine.wrRbCfg
  split
  exacts [h.rejectWrite, h.plainWrite]

end Sys2Proof.Machine
end

section
/-! SUPPORT. What the data path of the hosts leave: `Evolves`, for each operation and command. -/
namespace Sys2Proof.Machine
open Sys2Proof
set_option Elab.async false
variable {K : Scope} {s u t₀ : State}

theorem Evolves.portUp {p : Nat} {bs : List Blk} (h : Evolves K s u)
    (hK : (Scope.of [.HPM_IDLE_DEL, .HPM_OVF] [.hpm]).le K = true := by decide +kernel) : Evolves K s (u.portUp p bs) := by
  refine h.widen hK fun h => ?_
  unfold State.portUp
  exact h.modHpm.count.count

theorem Evolves.portToLine {p n : Nat} (h : Evolves K s u)
    (hK : (Scope.of [.HPM_PORT_STATUS, .HPM_IDLE_INS, .HPM_IDLE_DEL, .EVL_DROPPED] [.recorder, .hpm]).le K = true := by decide +kernel) :
    Evolves K s (u.portToLine p n).2 := by
  refine h.widen hK fun h => ?_
  unfold State.portToLine
  dsimp only
  split
  exacts [h.modHpm, h.modHpm.count.count.showPort]

/-- What `State.makeGranule` may change. -/
def makeGranuleScope : Scope := .of [.HPM_PORT_STATUS, .HPM_IDLE_INS, .HPM_IDLE_DEL, .EVL_DROPPED] [.recorder, .ltx, .hpm]

theorem Evolves.makeGranule {p : Nat} {seq : List (Nat × Nat)} {i : Nat} (h : Evolves K s u)
    (hK : makeGranuleScope.le K = true := by decide +kernel) : Evolves K s (u.makeGranule p seq i) := by
  refine h.widen hK fun h => ?_
  unfold State.makeGranule
  exact h.portToLine.modHpm.modLtx

theorem Evolves.fillPort {p n u₁ : Nat} (h : Evolves K s u) (hK : makeGranuleScope.le K = true := by decide +kernel) :
    Evolves K s (u.fillPort p n u₁) := by
  refine h.widen hK fun h => ?_
  unfold State.fillPort
  exact h.foldl (fun _ h₁ => h₁.makeGranule)

/-- What `State.dealFrames` may change. -/
def dealFramesScope : Scope := .of [.HPM_PORT_STATUS, .HPM_IDLE_DEL, .HPM_OVF, .EVL_DROPPED] [.recorder, .hsi, .hpm]

theorem Evolves.dealFrames {p : Nat} (h : Evolves K s u) (hK : dealFramesScope.le K = true := by decide +kernel) :
    Evolves K s (u.dealFrames p) := by
  refine h.widen hK fun h => ?_
  unfold State.dealFrames
  dsimp only
  split
  · exact h
  · refine Evolves.ite (Evolves.ite ((h.modHpm.each (fun _ h₁ => h₁.modHsi)).showPort) h) ?_
    exact (((h.each (fun _ h₁ => h₁.modHsi)).modHpm).showPort).skip fun h₁ => h₁.portUp

theorem Evolves.portDown {p : Nat} {bs : List Blk} (h : Evolves K s u)
    (hK : (Scope.of [.HPM_IDLE_DEL, .HPM_OVF] [.hpm]).le K = true := by decide +kernel) : Evolves K s (u.portDown p bs) := by
  refine h.widen hK fun h => ?_
  unfold State.portDown
  exact h.modHpm.count.count

/-- What `State.portReceive` may change. -/
def portReceiveScope : Scope := .of [.HPM_PORT_STATUS, .HPM_LINE_ERR, .HPM_IDLE_DEL, .HPM_OVF, .EVL_DROPPED] [.recorder, .hpm]

theorem Evolves.portReceive {n u₁ : Nat} {ok : Bool} {w : List (BitVec 10)} (h : Evolves K s u)
    (hK : portReceiveScope.le K = true := by decide +kernel) : Evolves K s (u.portReceive n u₁ ok w) := by
  refine h.widen hK fun h => ?_
  unfold State.portReceive
  dsimp only
  split
  · exact h
  · exact (Evolves.ite h h.count).cond (fun h₁ => h₁.modHpm) (fun h₁ => Evolves.ite h₁ h₁.modHpm.portDown.showPort)

theorem Evolves.sendCw {h₁ : Nat} {w : List (BitVec 10)} (h : Evolves K s u)
    (hK : (Scope.of [] [.hsi]).le K = true := by decide +kernel) : Evolves K s (u.sendCw h₁ w) := by
  refine h.widen hK fun h => ?_
  unfold State.sendCw
  exact h.modHsi

/-- What `State.headerIn` may change. -/
def headerInScope : Scope := .of [.HSI_STATUS, .HSI_LOL, .HSI_BAD_SH, .HPM_PORT_STATUS, .EVL_DROPPED] [.freeCtr, .recorder, .ltx, .hsi]

theorem Evolves.headerIn {h₁ : Nat} {hd : BitVec 2} (h : Evolves K s u) (hK : headerInScope.le K = true := by decide +kernel) :
    Evolves K s (State.headerIn h₁ u hd) := by
  refine h.widen hK fun h => ?_
  unfold State.headerIn
  exact Evolves.ite h (Evolves.ite h.modHsi (h.count.cond (fun h₁ => h₁.modHsi) (fun h₁ => h₁.modHsi.when fun h₂ => h₂.leaveHost)))

theorem execBlockLock_answers {seen : HostReport (List Bool)} (h : Evolves .all s u) : Answers s (execBlockLock seen u) := by
  unfold execBlockLock
  exact .next (Evolves.ite h.modHsi h)

theorem execBlockLockLoss_answers {seen : HostReport (List (BitVec 2))} (h : Evolves .all s u) : Answers s (execBlockLockLoss seen u) := by
  unfold execBlockLockLoss
  exact .next (Evolves.ite (h.foldl (fun _ h₁ => h₁.headerIn)) h)

/-- What `State.framingIn` may change. -/
def framingInScope : Scope := .of [.HSI_STATUS, .HSI_LOCK, .HSI_LOL, .HSI_FRAME_ERR, .HPM_PORT_STATUS, .HSI_CLK, .EVL_DROPPED] [.freeCtr,
    .recorder, .ltx, .hsi]

theorem Evolves.framingIn {h₁ : Nat} {w : BitVec 64} (h : Evolves K s u) (hK : framingInScope.le K = true := by decide +kernel) :
    Evolves K s (u.framingIn h₁ w) := by
  refine h.widen hK fun h => ?_
  unfold State.framingIn
  exact (Evolves.ite h.setFlag h.count).cond (fun h₁ => h₁.modHsi.when fun h₂ => h₂.lockHost) (fun h₁ =>
      Evolves.ite (h₁.modHsi.when fun h₂ => h₂.leaveHost.modHsi) h₁)

theorem execFramingBlockReceived_answers {h₁ : HLane} {blocks : List (BitVec 2 × BitVec 64)} (h : Evolves .all s u) :
    Answers s (execFramingBlockReceived h₁ blocks u) := by
  unfold execFramingBlockReceived
  dsimp only
  split
  · exact .next h
  · refine Answers.ite (.next h) ?_
    refine Answers.ite (.next (h.framingIn.modHsi.foldl (fun _ h₁ => h₁.headerIn))) ?_
    refine Answers.ite (.next ((h.framingIn.modHsi.foldl (fun _ h₁ => h₁.headerIn)).modHsi)) ?_
    split
    · exact .next (h.framingIn.modHsi.foldl (fun _ h₁ => h₁.headerIn))
    · exact .next (((h.framingIn.modHsi.foldl (fun _ h₁ => h₁.headerIn)).modHsi).dealFrames)

theorem Evolves.cellLockStep {h₁ : Nat} {ok : Bool} (h : Evolves K s u)
    (hK : (Scope.of [.HSI_STATUS] [.hsi]).le K = true := by decide +kernel) : Evolves K s (u.cellLockStep h₁ ok) := by
  refine h.widen hK fun h => ?_
  unfold State.cellLockStep
  exact h.modHsi.cond (fun h₁ => h₁.setFlag) (fun h₁ => Evolves.ite h₁.setFlag h₁)

/-- What `State.cellIn` may change. -/
def cellInScope : Scope := .of [.HPM_RS_CW, .HPM_RS_UNCORR, .HPM_CELL_RX, .HPM_CELL_BAD, .HPM_CTL_RSVD, .HPM_CTL_GAP, .CIN_CH_ACCT,
    .CIN_ACCEPT, .CIN_ING_OVR, .EVL_DROPPED] [.recorder, .hsi, .chan]

theorem Evolves.cellIn {h₁ : Nat} {rs crcOk : Bool} {tag : BitVec 20} {payload : List Byte} {off : Nat} (h : Evolves K s u)
    (hK : cellInScope.le K = true := by decide +kernel) : Evolves K s (u.cellIn h₁ rs crcOk tag payload off) := by
  refine h.widen hK fun h => ?_
  unfold State.cellIn
  exact (h.modHsi.when fun h₁ => h₁.count).cond (fun h₁ => h₁.count.skip fun h₂ => h₂.count.count) (fun h₁ =>
      Evolves.ite h₁ (h₁.count.cond (fun h₂ => h₂.count) (fun h₂ => h₂.acceptCell)))

/-- What `State.cellReceived` may change. -/
def cellReceivedScope : Scope := .of [.HSI_STATUS, .HPM_RS_CW, .HPM_RS_UNCORR, .HPM_CELL_RX, .HPM_CELL_BAD, .HPM_CTL_RSVD, .HPM_CTL_GAP,
    .CIN_CH_ACCT, .CIN_ACCEPT, .CIN_ING_OVR, .EVL_DROPPED] [.recorder, .hsi, .chan]

theorem Evolves.cellReceived {h₁ : HLane} {off : Fin 136} {w : List (BitVec 10)} (h : Evolves K s u)
    (hK : cellReceivedScope.le K = true := by decide +kernel) : Evolves K s (u.cellReceived h₁ off w) := by
  refine h.widen hK fun h => ?_
  unfold State.cellReceived
  exact Evolves.ite h (Evolves.ite h.modHsi.cellIn (Evolves.ite h.modHsi (h.modHsi.cellLockStep.when fun h₁ => h₁.cellIn)))

theorem execHostCellReceived_answers {h₁ : HLane} {off : Fin 136} {tag : BitVec 20} {payload : List Byte} {parity : List (BitVec 10)}
    (h : Evolves .all s u) : Answers s (execHostCellReceived h₁ off tag payload parity u) :=
  .next h.cellReceived.capturedAt

theorem execHostCreditRecord_answers {h₁ : HLane} {c : Chan} {loop kind : Fin 16} {total : BitVec 32} (h : Evolves .all s u) :
    Answers s (execHostCreditRecord h₁ c loop kind total u) := by
  unfold execHostCreditRecord
  refine Answers.ite (.next h) ?_
  refine Answers.ite (.next h.count) ?_
  refine Answers.ite (.next (Evolves.ite (h.totalIn (fun h₁ => h₁.count)) h)) ?_
  exact Answers.ite (.next (Evolves.ite (h.totalIn (fun h₁ => h₁.count)) h)) (.next h.count)

theorem Evolves.controlCell {h₁ : Nat} (h : Evolves K s u) (hK : (Scope.of [] [.hsi, .chan]).le K = true := by decide +kernel) :
    Evolves K s (u.controlCell h₁).2 := by
  refine h.widen hK fun h => ?_
  unfold State.controlCell
  exact (h.foldl (fun _ h₁ => h₁.modChan)).modHsi

theorem Evolves.sendCell {h₁ : Nat} {cell : Cell} (h : Evolves K s u) (hK : (Scope.of [] [.hsi]).le K = true := by decide +kernel) :
    Evolves K s (u.sendCell h₁ cell) := by
  refine h.widen hK fun h => ?_
  unfold State.sendCell
  exact h.modHsi.cond (fun h₁ => h₁.modHsi) (fun h₁ => h₁.modHsi.sendCw)

theorem execHostCellSlot_answers {h₁ : HLane} (h : Evolves .all s u) : Answers s (execHostCellSlot h₁ u) := by
  unfold execHostCellSlot
  dsimp only
  refine Answers.ite (.next h) ?_
  refine Answers.ite (.next h.controlCell.modHsi.sendCell) ?_
  split
  exacts [.next h.modHsi.sendCell, .next h.modHsi.sendCell]

theorem Evolves.relayUp {h₁ : Nat} {w : List (BitVec 10)} (h : Evolves K s u)
    (hK : (Scope.of [] [.ltx, .hsi]).le K = true := by decide +kernel) : Evolves K s (u.relayUp h₁ w) := by
  refine h.widen hK fun h => ?_
  unfold State.relayUp
  dsimp only
  split
  exacts [h.modHsi, h.modHsi.skip fun h₁ => h₁.modLtx]

theorem execHostCodewordDecoded_answers {p : Fin 32} {w : List (BitVec 10)} (h : Evolves .all s u) :
    Answers s (execHostCodewordDecoded p w u) := by
  unfold execHostCodewordDecoded
  exact Answers.ite (.next (Evolves.ite h.relayUp h)) (Answers.ite (.next h) (.next ((Evolves.ite h (h.count.count rfl)).portUp)))

end Sys2Proof.Machine
end

section
/-! SUPPORT. What the line transmitters leave: `Evolves`, for each operation and command. -/
namespace Sys2Proof.Machine
open Sys2Proof
set_option Elab.async false
variable {K : Scope} {s u t₀ : State}

theorem Evolves.modPort {g : Nat} {p : GroupPort} {f : PortX → PortX} (h : Evolves K s u)
    (hK : (Scope.of [] [.grp]).le K = true := by decide +kernel) : Evolves K s (u.modPort g p f) := by
  refine h.widen hK fun h => ?_
  unfold State.modPort
  exact h.modGrp

theorem Evolves.portSpoke {g : Nat} {p : GroupPort} (h : Evolves K s u)
    (hK : (Scope.of [] [.grp]).le K = true := by decide +kernel) : Evolves K s (u.portSpoke g p) := by
  refine h.widen hK fun h => ?_
  unfold State.portSpoke
  exact h.modPort

theorem Evolves.portNext {g : Nat} {p : GroupPort} (h : Evolves K s u)
    (hK : (Scope.of [.LRX_TIA_CFG, .LTX_DRV_CFG] [.grp]).le K = true := by decide +kernel) : Evolves K s (u.portNext g p) := by
  refine h.widen hK fun h => ?_
  unfold State.portNext
  dsimp only
  exact Evolves.modPort (by split; exacts [(h.plainWrite (by cases p <;> decide +kernel)).modPort, h])

theorem Evolves.portSwEnd {g : Nat} {p : GroupPort} {result : Nat} {rdata : Byte} (h : Evolves K s u)
    (hK : (Scope.of [.LRX_TIA_CFG, .LRX_TIA_STATUS, .LTX_DRV_CFG, .LTX_DRV_STATUS] [.grp]).le K = true := by decide +kernel) :
    Evolves K s (u.portSwEnd g p result rdata) := by
  refine h.widen hK fun h => ?_
  unfold State.portSwEnd
  dsimp only
  split
  exacts [h, ((((h.portSpoke.setFlag (by cases p <;> decide +kernel)).setFld (by cases p <;> decide +kernel)).when fun h₁ =>
    h₁.setFld (by cases p <;> decide +kernel)).modPort).portNext]

theorem Evolves.portGo {g : Nat} {p : GroupPort} {owned : Bool} {t : SwTx} (h : Evolves K s u)
    (hK : (Scope.of [.LRX_TIA_CFG, .LRX_TIA_STATUS, .LTX_DRV_CFG, .LTX_DRV_STATUS] [.grp]).le K = true := by decide +kernel) :
    Evolves K s (u.portGo g p owned t).1 := by
  refine h.widen hK fun h => ?_
  unfold State.portGo
  dsimp only
  split
  · exact h
  · split
    · exact h
    · split
      exacts [h.setFld (by cases p <;> decide +kernel), (h.setFlag (by cases p <;> decide +kernel)).modPort.skip fun h₁ => h₁.portNext]

theorem Evolves.wrPortCfg {path : Path} {g v₁ : Nat} {p : GroupPort} {off : Nat → Bool} (h : Evolves K s u)
    (hK : (Scope.of [.LRX_TIA_CFG, .LTX_DRV_CFG, .EVL_DROPPED] [.recorder, .grp]).le K = true := by decide +kernel) :
    Evolves K s (wrPortCfg path g v₁ p off u).1 := by
  refine h.widen hK fun h => ?_
  unfold Machine.wrPortCfg
  dsimp only
  split
  · exact h.rejectWrite
  · exact (Evolves.ite h.modPort (h.plainWrite (r := portCfgReg p) (by cases p <;> decide +kernel))).step fun h₁ => by split; exacts [h₁, h₁.rejectWrite]

theorem Evolves.setPin {p : Nat} {on : Bool} (h : Evolves K s u) (hK : (Scope.of [] [.pins]).le K = true := by decide +kernel) :
    Evolves K s (u.setPin p on) := by
  refine h.widen hK fun h => ?_
  unfold State.setPin
  exact h.same

theorem Evolves.showLasers (h : Evolves K s u) (hK : (Scope.of [] [.pins]).le K = true := by decide +kernel) :
    Evolves K s u.showLasers := by
  refine h.widen hK fun h => ?_
  unfold State.showLasers
  exact h.each (fun _ h₁ => Evolves.ite h₁.setPin h₁)

theorem Evolves.logLtx {n kind : Nat} (h : Evolves K s u)
    (hK : (Scope.of [.EVL_DROPPED] [.recorder]).le K = true := by decide +kernel) : Evolves K s (u.logLtx n kind) := by
  refine h.widen hK fun h => ?_
  unfold State.logLtx
  exact h.log

theorem Evolves.goLtx {n st : Nat} (h : Evolves K s u)
    (hK : (Scope.of [.LTX_STATUS] [.ltx, .pins]).le K = true := by decide +kernel) : Evolves K s (u.goLtx n st) := by
  refine h.widen hK fun h => ?_
  unfold State.goLtx
  exact ((h.setFld.setFlag.when fun h₁ => h₁.modLtx).when fun h₁ => h₁.modLtx).showLasers

theorem Evolves.dropClock {n : Nat} (h : Evolves K s u) (hK : (Scope.of [.LTX_STATUS] []).le K = true := by decide +kernel) :
    Evolves K s (u.dropClock n) := by
  refine h.widen hK fun h => ?_
  unfold State.dropClock
  exact h.setFld

/-- What `State.seqDone` may change. -/
def seqDoneScope : Scope := .of [.GLB_STATE, .LTX_CTRL, .LTX_STATUS, .MGT_ALERT_STATUS, .EVL_DROPPED] [.risen, .recorder, .grp, .ltx,
    .mgt, .pins]

theorem Evolves.seqDone {n seq : Nat} {ok : Bool} (h : Evolves K s u) (hK : seqDoneScope.le K = true := by decide +kernel) :
    Evolves K s (u.seqDone n seq ok) := by
  refine h.widen hK fun h => ?_
  unfold State.seqDone
  refine Evolves.ite h ?_
  refine Evolves.ite (h.modLtx.skip fun h₁ => h₁.setFld.setFlag.dropClock.goLtx.logLtx) ?_
  exact Evolves.ite (Evolves.ite h h.logLtx) ((h.modLtx.skip fun h₁ => h₁.setFld.logLtx.alert).when fun h₁ => h₁.modLtx.modPort)

theorem Evolves.runSeq {n seq : Nat} (h : Evolves K s u) (hK : seqDoneScope.le K = true := by decide +kernel) :
    Evolves K s (u.runSeq n seq) := by
  refine h.widen hK fun h => ?_
  unfold State.runSeq
  exact Evolves.ite h.seqDone h.modPort

theorem Evolves.squelchDriver {n : Nat} (h : Evolves K s u) (hK : seqDoneScope.le K = true := by decide +kernel) :
    Evolves K s (u.squelchDriver n) := by
  refine h.widen hK fun h => ?_
  unfold State.squelchDriver
  exact Evolves.ite h.modLtx.runSeq h

theorem Evolves.unsquelch {n : Nat} (h : Evolves K s u) (hK : seqDoneScope.le K = true := by decide +kernel) :
    Evolves K s (u.unsquelch n) := by
  refine h.widen hK fun h => ?_
  unfold State.unsquelch
  exact Evolves.ite h.modLtx.runSeq h

theorem Evolves.squelchNow {n : Nat} (h : Evolves K s u) (hK : seqDoneScope.le K = true := by decide +kernel) :
    Evolves K s (u.squelchNow n) := by
  refine h.widen hK fun h => ?_
  unfold State.squelchNow
  exact Evolves.ite h.goLtx.squelchDriver (Evolves.ite h.squelchDriver (Evolves.ite h.squelchDriver h.showLasers))

theorem Evolves.setCause {n bit : Nat} {on : Bool} (h : Evolves K s u) (hK : seqDoneScope.le K = true := by decide +kernel) :
    Evolves K s (u.setCause n bit on) := by
  refine h.widen hK fun h => ?_
  unfold State.setCause
  exact Evolves.ite h (Evolves.ite h.setFld.squelchNow.showLasers (h.setFld.showLasers.when fun h₁ => h₁.unsquelch))

theorem Evolves.startLtx {n : Nat} (h : Evolves K s u) (hK : seqDoneScope.le K = true := by decide +kernel) :
    Evolves K s (u.startLtx n) := by
  refine h.widen hK fun h => ?_
  unfold State.startLtx
  exact h.goLtx.modLtx.runSeq

theorem Evolves.enableLtx {n : Nat} (h : Evolves K s u) (hK : seqDoneScope.le K = true := by decide +kernel) :
    Evolves K s (u.enableLtx n) := by
  refine h.widen hK fun h => ?_
  unfold State.enableLtx
  exact Evolves.ite h (h.setFld.setFld.modLtx.cond (fun h₁ => h₁.startLtx) (fun h₁ => h₁.goLtx))

theorem Evolves.disableLtx {n : Nat} (h : Evolves K s u)
    (hK : (Scope.of [.LTX_STATUS] [.grp, .ltx, .pins]).le K = true := by decide +kernel) : Evolves K s (u.disableLtx n) := by
  refine h.widen hK fun h => ?_
  unfold State.disableLtx
  exact h.modPort.modLtx.dropClock.goLtx

theorem Evolves.endLtx {n : Nat} (h : Evolves K s u)
    (hK : (Scope.of [.LTX_STATUS] [.grp, .ltx, .pins]).le K = true := by decide +kernel) : Evolves K s (u.endLtx n) := by
  refine h.widen hK fun h => ?_
  unfold State.endLtx
  exact Evolves.ite h (h.setFld.cond (fun h₁ => h₁.modLtx.modPort) (fun h₁ => h₁.disableLtx))

theorem Evolves.ltxClockLost {n : Nat} (h : Evolves K s u)
    (hK : (Scope.of [.LTX_STATUS] [.ltx, .pins]).le K = true := by decide +kernel) : Evolves K s (u.ltxClockLost n) := by
  refine h.widen hK fun h => ?_
  unfold State.ltxClockLost
  exact Evolves.ite h.setFld.goLtx h

theorem Evolves.ltxClockBack {n : Nat} (h : Evolves K s u) (hK : seqDoneScope.le K = true := by decide +kernel) :
    Evolves K s (u.ltxClockBack n) := by
  refine h.widen hK fun h => ?_
  unfold State.ltxClockBack
  exact Evolves.ite h (Evolves.ite h.setCause (Evolves.ite h.setFld.goLtx.unsquelch h.startLtx))

theorem Evolves.ltxPendingOver {n : Nat} (h : Evolves K s u)
    (hK : (Scope.of [.LTX_CTRL, .LTX_STATUS] [.grp, .ltx, .pins]).le K = true := by decide +kernel) :
    Evolves K s (u.ltxPendingOver n) := by
  refine h.widen hK fun h => ?_
  unfold State.ltxPendingOver
  exact Evolves.ite h.setFld.setFlag.disableLtx h

theorem Evolves.spoilMask {n : Nat} (h : Evolves K s u) (hK : (Scope.of [] [.grp]).le K = true := by decide +kernel) :
    Evolves K s (u.spoilMask n) := by
  refine h.widen hK fun h => ?_
  unfold State.spoilMask
  exact h.modGrp

theorem Evolves.swapNow {n : Nat} (h : Evolves K s u)
    (hK : (Scope.of [.LTX_STATUS] [.grp, .ltx]).le K = true := by decide +kernel) : Evolves K s (u.swapNow n) := by
  refine h.widen hK fun h => ?_
  unfold State.swapNow
  exact Evolves.ite h (h.setFlag.cond (fun h₁ => h₁.setFld) (fun h₁ => h₁.modLtx.setFld.spoilMask))

theorem Evolves.patternNow {n : Nat} (h : Evolves K s u)
    (hK : (Scope.of [.EVL_DROPPED] [.recorder, .grp, .ltx]).le K = true := by decide +kernel) : Evolves K s (u.patternNow n) := by
  refine h.widen hK fun h => ?_
  unfold State.patternNow
  exact Evolves.ite h (h.modLtx.skip fun h₁ => h₁.spoilMask.logLtx)

theorem Evolves.stateNow {n : Nat} (h : Evolves K s u) (hK : seqDoneScope.le K = true := by decide +kernel) :
    Evolves K s (u.stateNow n) := by
  refine h.widen hK fun h => ?_
  unfold State.stateNow
  exact Evolves.ite (Evolves.ite h.goLtx h.goLtx.squelchDriver) (Evolves.ite h.goLtx h)

theorem Evolves.ltxFrame {n : Nat} (h : Evolves K s u) (hK : seqDoneScope.le K = true := by decide +kernel) :
    Evolves K s (u.ltxFrame n) := by
  refine h.widen hK fun h => ?_
  unfold State.ltxFrame
  exact h.swapNow.patternNow.stateNow

theorem Evolves.wrLtxCtrl {p : Path} {n v₁ : Nat} (h : Evolves K s u) (hK : seqDoneScope.le K = true := by decide +kernel) :
    Evolves K s (wrLtxCtrl p n v₁ u).1 := by
  refine h.widen hK fun h => ?_
  unfold Machine.wrLtxCtrl
  exact (((h.plainWrite.when fun h₁ => h₁.setFlag).when fun h₁ => h₁.regReject).skip fun h₁ =>
      Evolves.ite h₁.setCause h₁.setCause.setCause).cond (fun h₁ => h₁.enableLtx) (fun h₁ => Evolves.ite h₁.endLtx h₁)

theorem Evolves.wrLtxShadow {p : Path} {r : Reg} {n i v₁ : Nat} (h : Evolves K s u) (hr : K.hasReg r = true := by decide +kernel)
    (hK : (Scope.of [.EVL_DROPPED] [.recorder]).le K = true := by decide +kernel) : Evolves K s (wrLtxShadow p r n i v₁ u).1 := by
  unfold Machine.wrLtxShadow
  split
  exacts [h.rejectWrite hK, h.plainWrite hr]

theorem Evolves.showTrims (h : Evolves K s u) (hK : (Scope.of [.LTX_STATUS, .CAL_TRIM_BUSY] []).le K = true := by decide +kernel) :
    Evolves K s u.showTrims := by
  refine h.widen hK fun h => ?_
  unfold State.showTrims
  exact (h.each (fun _ h₁ => h₁.setFlag)).setFld

theorem Evolves.trimAtOnce {n : Nat} (h : Evolves K s u) (hK : (Scope.of [.LTX_TRIM_NOW] []).le K = true := by decide +kernel) :
    Evolves K s (u.trimAtOnce n) := by
  refine h.widen hK fun h => ?_
  unfold State.trimAtOnce
  exact h.setFld.setFld.setFld

theorem Evolves.wrLtxTrim {p : Path} {n v₁ : Nat} (h : Evolves K s u)
    (hK : (Scope.of [.LTX_STATUS, .LTX_TRIM, .LTX_TRIM_NOW, .CAL_TRIM_BUSY, .EVL_DROPPED] [.recorder]).le K = true := by decide +kernel) :
    Evolves K s (wrLtxTrim p n v₁ u).1 := by
  refine h.widen hK fun h => ?_
  unfold Machine.wrLtxTrim
  dsimp only
  split
  exacts [h.rejectWrite, (h.plainWrite.when fun h₁ => h₁.trimAtOnce).showTrims]

theorem Evolves.wrLtxPat {p : Path} {n v₁ : Nat} (h : Evolves K s u)
    (hK : (Scope.of [.LTX_STATUS, .LTX_PAT, .EVL_DROPPED] [.recorder]).le K = true := by decide +kernel) :
    Evolves K s (wrLtxPat p n v₁ u).1 := by
  refine h.widen hK fun h => ?_
  unfold Machine.wrLtxPat
  dsimp only
  split
  · exact h.setFld.rejectWrite
  · split
    · exact h.plainWrite.rejectWrite
    · split
      · exact h.setFld.rejectWrite
      · split
        exacts [h.setFld.rejectWrite, h.plainWrite.setFld]

theorem Evolves.wrLtxUpat {p : Path} {i v₁ : Nat} (h : Evolves K s u)
    (hK : (Scope.of [.LTX_UPAT, .EVL_DROPPED] [.recorder]).le K = true := by decide +kernel) : Evolves K s (wrLtxUpat p i v₁ u).1 := by
  refine h.widen hK fun h => ?_
  unfold Machine.wrLtxUpat
  dsimp only
  split
  exacts [h.rejectWrite, h.plainWrite]

theorem Evolves.wrChk {p : Path} {r : Reg} {pat sync clr : Field} {counters : List Reg} {top key i v₁ : Nat} (h : Evolves K s u)
    (hr : K.hasReg r = true := by decide +kernel) (hsync : K.hasReg sync.reg = true := by decide +kernel)
    (hcount : ∀ r ∈ counters, K.hasReg r = true := by decide +kernel)
    (hK : (Scope.of [.EVL_DROPPED] [.recorder, .chk]).le K = true := by decide +kernel) :
    Evolves K s (wrChk p r pat sync clr counters top key i v₁ u).1 := by
  unfold Machine.wrChk
  dsimp only
  have h' : ∀ {w : Nat} {c c' : Prop} [Decidable c] [Decidable c'] {t : State → State}, (∀ {v}, Evolves K s v → Evolves K s (t v)) →
      Evolves K s (if c' then (if c then t (Machine.plainWrite r i w u) else Machine.plainWrite r i w u).resetRegs counters i
        else if c then t (Machine.plainWrite r i w u) else Machine.plainWrite r i w u) :=
    fun ht => ((h.plainWrite hr).when ht).when fun h => h.resetRegs hcount
  have hp : K.hasPart .chk = true := Scope.hasPart_of_le hK (by decide +kernel)
  have ht : ∀ {v : State}, Evolves K s v → Evolves K s { v.setFlag sync i false with chk := tabMod {} v.chk key fun _ => {} } :=
    fun h => (h.setFlag hsync).same (hk := fun p hq => by cases p <;> first | rfl | exact absurd hp (by rw [hq]; decide))
  split
  · exact (h' ht).rejectWrite (Scope.le_trans (by decide +kernel) hK)
  · exact h' ht

/-- What `wrLtxChk` may change. -/
def wrLtxChkScope : Scope := .of [.LTX_CHK, .LTX_CHK_SYM, .LTX_CHK_ERR, .LTX_CHK_BIT, .EVL_DROPPED] [.recorder, .chk]

theorem Evolves.wrLtxChk {p : Path} {n v₁ : Nat} (h : Evolves K s u) (hK : wrLtxChkScope.le K = true := by decide +kernel) :
    Evolves K s (wrLtxChk p n v₁ u).1 := by
  refine h.widen hK fun h => ?_
  unfold Machine.wrLtxChk
  exact h.wrChk

/-- What `wrHsiChk` may change. -/
def wrHsiChkScope : Scope := .of [.HSI_STATUS, .HSI_CHK, .HSI_CHK_SYM, .HSI_CHK_ERR, .HSI_CHK_BIT, .EVL_DROPPED] [.recorder, .chk]

theorem Evolves.wrHsiChk {p : Path} {h₁ v₁ : Nat} (h : Evolves K s u) (hK : wrHsiChkScope.le K = true := by decide +kernel) :
    Evolves K s (wrHsiChk p h₁ v₁ u).1 := by
  refine h.widen hK fun h => ?_
  unfold Machine.wrHsiChk
  exact (Evolves.ite h.setFld h).wrChk

theorem Evolves.wrLtxMaskCfg {p : Path} {g v₁ : Nat} (h : Evolves K s u)
    (hK : (Scope.of [.LTX_MASK_CFG, .EVL_DROPPED] [.recorder, .grp]).le K = true := by decide +kernel) :
    Evolves K s (wrLtxMaskCfg p g v₁ u).1 := by
  refine h.widen hK fun h => ?_
  unfold Machine.wrLtxMaskCfg
  dsimp only
  split
  · exact h.rejectWrite
  · split
    · exact (h.plainWrite (r := .LTX_MASK_CFG)).step fun h₁ => by split; exacts [h₁, h₁.rejectWrite]
    · split
      exacts [h.rejectWrite, h.plainWrite.when fun h₁ => h₁.modGrp]

theorem Evolves.wrLtxMaskSeg {p : Path} {i v₁ : Nat} (h : Evolves K s u)
    (hK : (Scope.of [.LTX_MASK_SEG, .EVL_DROPPED] [.recorder]).le K = true := by decide +kernel) :
    Evolves K s (wrLtxMaskSeg p i v₁ u).1 := by
  refine h.widen hK fun h => ?_
  unfold Machine.wrLtxMaskSeg
  split
  exacts [h.rejectWrite, h.plainWrite]

/-- What `State.maskJudge` may change. -/
def maskJudgeScope : Scope := .of [.GLB_STATE, .LTX_MASK_VIOL, .LTX_MASK_WORST, .LTX_MASK_EST, .MGT_ALERT_STATUS, .EVL_DROPPED] [.risen,
    .recorder, .grp, .mgt]

theorem Evolves.maskJudge {n : Nat} {levels : List ℤ} (h : Evolves K s u) (hK : maskJudgeScope.le K = true := by decide +kernel) :
    Evolves K s (u.maskJudge n levels) := by
  refine h.widen hK fun h => ?_
  unfold State.maskJudge
  exact h.setFld.setFld.setFld.count.modGrp.cond (fun h₁ => h₁.setFlag.logLtx.when fun h₂ => h₂.alert) (fun h₁ =>
      Evolves.ite h₁.setFlag.logLtx h₁)

theorem Evolves.wrLtxDrvCmd {g v₁ : Nat} (h : Evolves K s u)
    (hK : (Scope.of [.LRX_TIA_CFG, .LRX_TIA_STATUS, .LTX_DRV_CFG, .LTX_DRV_CMD, .LTX_DRV_STATUS] [.grp]).le K = true := by decide +kernel) :
    Evolves K s (wrLtxDrvCmd g v₁ u).1 := by
  refine h.widen hK fun h => ?_
  unfold Machine.wrLtxDrvCmd
  dsimp only
  split
  · exact h
  · exact (h.plainWrite (r := .LTX_DRV_CMD)).step fun h₁ => by split; exacts [h₁, h₁.portGo]

theorem Evolves.wrLtxDrvCfg {p : Path} {g v₁ : Nat} (h : Evolves K s u)
    (hK : (Scope.of [.LRX_TIA_CFG, .LTX_DRV_CFG, .EVL_DROPPED] [.recorder, .grp]).le K = true := by decide +kernel) :
    Evolves K s (wrLtxDrvCfg p g v₁ u).1 := by
  refine h.widen hK fun h => ?_
  unfold Machine.wrLtxDrvCfg
  exact h.wrPortCfg

/-- What `State.drvHwDone` may change. -/
def drvHwDoneScope : Scope := .of [.GLB_STATE, .LRX_TIA_CFG, .LTX_CTRL, .LTX_STATUS, .LTX_DRV_CFG, .MGT_ALERT_STATUS, .EVL_DROPPED]
    [.risen, .recorder, .grp, .ltx, .mgt, .pins]

theorem Evolves.drvHwDone {g : Nat} {ok : Bool} (h : Evolves K s u) (hK : drvHwDoneScope.le K = true := by decide +kernel) :
    Evolves K s (u.drvHwDone g ok) := by
  refine h.widen hK fun h => ?_
  unfold State.drvHwDone
  dsimp only
  split
  · exact h
  · exact h.portSpoke.cond (fun h₁ => h₁.modPort.disableLtx.portNext) (fun h₁ =>
        Evolves.ite h₁.modPort (Evolves.ite h₁.modPort.portNext h₁.modPort.seqDone.portNext))

theorem execLtxEnable_answers {p : Path} {n : Lane} (h : Evolves .all s u) : Answers s (execLtxEnable p n u) := by
  unfold execLtxEnable
  exact writeCommand_answers h (fun h₁ => h₁.wrLtxCtrl)

theorem execLtxDisable_answers {p : Path} {n : Lane} (h : Evolves .all s u) : Answers s (execLtxDisable p n u) := by
  unfold execLtxDisable
  exact writeCommand_answers h (fun h₁ => h₁.wrLtxCtrl)

theorem execSwap_answers {p : Path} {n : Lane} (h : Evolves .all s u) : Answers s (execSwap p n u) := by
  unfold execSwap
  exact writeCommand_answers h (fun h₁ => h₁.wrLtxCtrl)

theorem execLtxSquelch_answers {p : Path} {n : Lane} {on : Bool} (h : Evolves .all s u) : Answers s (execLtxSquelch p n on u) := by
  unfold execLtxSquelch
  exact writeCommand_answers h (fun h₁ => h₁.wrLtxCtrl)

theorem execLtxTrimWrite_answers {p : Path} {n : Lane} {swing : BitVec 6} {offset : BitVec 7} {skew : BitVec 6} (h : Evolves .all s u) :
    Answers s (execLtxTrimWrite p n swing offset skew u) := by
  unfold execLtxTrimWrite
  exact writeCommand_answers h (fun h₁ => h₁.wrLtxTrim)

theorem execTrimRampStep_answers (h : Evolves .all s u) : Answers s (execTrimRampStep u) := by
  unfold execTrimRampStep
  exact .next ((((((h.each (fun _ h₁ => h₁.setFld.setFld.setFld.skip fun h₂ => h₂.spoilMask)).each (fun _ h₁ =>
      h₁.modHsi)).modHka).each (fun _ h₁ => h₁.modDac)).showTrims).showHkaTrims)

theorem execTxdisableAssert_answers {pin : Fin 16} (h : Evolves .all s u) : Answers s (execTxdisableAssert pin u) := by
  unfold execTxdisableAssert
  exact .next (Evolves.ite (h.setPin.each (fun _ h₁ => h₁.setCause)) h)

theorem execTxdisableDeassert_answers {pin : Fin 16} (h : Evolves .all s u) : Answers s (execTxdisableDeassert pin u) := by
  unfold execTxdisableDeassert
  exact .next (Evolves.ite (h.setPin.each (fun _ h₁ => Evolves.ite h₁ h₁.setCause)) h)

theorem execCmisTxDisableSet_answers {n : Lane} (h : Evolves .all s u) : Answers s (execCmisTxDisableSet n u) := by
  unfold execCmisTxDisableSet
  exact .next h.same.setCause

theorem execCmisTxDisableClear_answers {n : Lane} (h : Evolves .all s u) : Answers s (execCmisTxDisableClear n u) := by
  unfold execCmisTxDisableClear
  exact .next h.same.setCause

theorem execDriverSequenceWriteDone_answers {g : Grp} {ack : Bool} {rdata : Byte} (h : Evolves .all s u) :
    Answers s (execDriverSequenceWriteDone g ack rdata u) := by
  unfold execDriverSequenceWriteDone
  split
  exacts [.next h, .next (Evolves.ite h h.drvHwDone)]

theorem execDrvGo_answers {p : Path} {g : Grp} {rd : Bool} {l : Fin 2} {reg : BitVec 16} {value : Byte} (h : Evolves .all s u) :
    Answers s (execDrvGo p g rd l reg value u) := by
  unfold execDrvGo
  exact writeCommand_answers h (fun h₁ => h₁.wrLtxDrvCmd)

theorem execDrvTransactionDone_answers {g : Grp} {ack : Bool} {rdata : Byte} (h : Evolves .all s u) :
    Answers s (execDrvTransactionDone g ack rdata u) := by
  unfold execDrvTransactionDone
  exact .next (Evolves.ite h.portSwEnd h)

theorem execLtxPatWrite_answers {p : Path} {n : Lane} {pat : Fin 8} {place bypass : Bool} {userLen : BitVec 14} (h : Evolves .all s u) :
    Answers s (execLtxPatWrite p n pat place bypass userLen u) := by
  unfold execLtxPatWrite
  exact writeCommand_answers h (fun h₁ => h₁.wrLtxPat)

theorem execLtxChkClr_answers {p : Path} {n : Lane} (h : Evolves .all s u) : Answers s (execLtxChkClr p n u) := by
  unfold execLtxChkClr
  exact writeCommand_answers h (fun h₁ => h₁.wrLtxChk)

theorem execMaskEnable_answers {p : Path} {g : Grp} (h : Evolves .all s u) : Answers s (execMaskEnable p g u) := by
  unfold execMaskEnable
  exact writeCommand_answers h (fun h₁ => h₁.wrLtxMaskCfg)

theorem Evolves.maskBlock {n : Nat} {codes : List ℤ} (h : Evolves K s u)
    (hK : (Scope.of [] [.freeCtr, .grp]).le K = true := by decide +kernel) : Evolves K s (u.maskBlock n codes) := by
  refine h.widen hK fun h => ?_
  unfold State.maskBlock
  exact Evolves.ite h h.fresh.modGrp

theorem Evolves.maskFresh {g l : Nat} (h : Evolves K s u) (hK : (Scope.of [] [.grp]).le K = true := by decide +kernel) :
    Evolves K s (u.maskFresh g l) := by
  refine h.widen hK fun h => ?_
  unfold State.maskFresh
  exact h.modGrp

theorem execMaskEstimateDone_answers {g : Grp} {k : Fin 2} (h : Evolves .all s u) : Answers s (execMaskEstimateDone g k u) := by
  unfold execMaskEstimateDone
  refine Answers.ite (.next h) ?_
  exact Answers.ite (.next h.count.maskFresh) (Answers.ite (.next h.maskFresh) (Answers.ite (.next h) (.next h.maskJudge.maskFresh)))

/-- What `State.chkFeed` may change. -/
def chkFeedScope : Scope := .of [.LTX_CHK, .LTX_CHK_SYM, .LTX_CHK_ERR, .LTX_CHK_BIT, .HSI_CHK, .HSI_CHK_SYM, .HSI_CHK_ERR, .HSI_CHK_BIT]
    [.chk]

theorem Evolves.chkFeed {c : CheckerId} {syms : List (BitVec 2)} (h : Evolves K s u)
    (hK : chkFeedScope.le K = true := by decide +kernel) : Evolves K s (u.chkFeed c syms) := by
  refine h.widen hK fun h => ?_
  unfold State.chkFeed
  cases c with
  | line n => exact Evolves.ite h (((((h.count (f := LTX_CHK_SYM.COUNT)).count (f := LTX_CHK_ERR.COUNT)).count (f := LTX_CHK_BIT.COUNT)).setFlag
      (f := LTX_CHK.SYNC)).foldl fun _ h₁ => h₁.countSat (f := LTX_CHK.SLIPS)).same
  | host n => exact Evolves.ite h (((((h.count (f := HSI_CHK_SYM.COUNT)).count (f := HSI_CHK_ERR.COUNT)).count (f := HSI_CHK_BIT.COUNT)).setFlag
      (f := HSI_CHK.SYNC)).foldl fun _ h₁ => h₁.countSat (f := HSI_CHK.SLIPS)).same

theorem execCheckerSyncGain_answers {seen : CheckerReport} (h : Evolves .all s u) : Answers s (execCheckerSyncGain seen u) := by
  unfold execCheckerSyncGain
  exact .next h.chkFeed

theorem execCheckerSyncLoss_answers {c : CheckerId} {syms : List (BitVec 2)} {errs bits : Nat} (h : Evolves .all s u) :
    Answers s (execCheckerSyncLoss c syms errs bits u) := by
  unfold execCheckerSyncLoss
  exact .next (Evolves.ite h.chkFeed h)

theorem Evolves.slewTo {n h₁ : Nat} (h : Evolves K s u) (hK : (Scope.of [] [.ltx]).le K = true := by decide +kernel) :
    Evolves K s (u.slewTo n h₁) := by
  refine h.widen hK fun h => ?_
  unfold State.slewTo
  exact h.modLtx

theorem execHostRateSlewDone_answers {n : Lane} (h : Evolves .all s u) : Answers s (execHostRateSlewDone n u) := by
  unfold execHostRateSlewDone
  split
  exacts [.next h, .next (Evolves.ite h.slewTo.modLtx h)]

end Sys2Proof.Machine
end

section
/-! SUPPORT. What the equaliser pool leave: `Evolves`, for each operation and command. -/
namespace Sys2Proof.Machine
open Sys2Proof
set_option Elab.async false
variable {K : Scope} {s u t₀ : State}

theorem reg_sliceCounter (st : Nat) : (sliceCounter st).reg = .EQP_POOL := by
  unfold sliceCounter
  split
  · rfl
  split
  · rfl
  split <;> rfl

theorem Evolves.setSlice {g k st : Nat} (h : Evolves K s u)
    (hK : (Scope.of [.EQP_POOL, .EQP_SLICE_STATE] []).le K = true := by decide +kernel) : Evolves K s (u.setSlice g k st) := by
  refine h.widen hK fun h => ?_
  unfold State.setSlice
  exact Evolves.ite h ((h.setFld.setFld (by rw [reg_sliceCounter]; decide +kernel)).setFld (by rw [reg_sliceCounter]; decide +kernel))

theorem reg_unitField (k : Nat) : (unitField k).reg = .EQP_POOL := by
  unfold unitField
  split <;> rfl

theorem Evolves.setUnit {g k x : Nat} (h : Evolves K s u) (hr : K.hasReg .EQP_POOL = true := by decide +kernel) :
    Evolves K s (u.setFld (unitField k) g x) := h.setFld (by rw [reg_unitField]; exact hr)

theorem Evolves.takeUnit {g u₁ l : Nat} (h : Evolves K s u)
    (hK : (Scope.of [.EQP_POOL] [.grp]).le K = true := by decide +kernel) : Evolves K s (u.takeUnit g u₁ l) := by
  refine h.widen hK fun h => ?_
  unfold State.takeUnit
  exact h.setUnit.modGrp

theorem Evolves.dropUnit {g u₁ : Nat} (h : Evolves K s u) (hK : (Scope.of [.EQP_POOL] [.grp]).le K = true := by decide +kernel) :
    Evolves K s (u.dropUnit g u₁) := by
  refine h.widen hK fun h => ?_
  unfold State.dropUnit
  exact (Evolves.ite (h.setUnit) h).modGrp

theorem Evolves.dropUnits {g l : Nat} (h : Evolves K s u) (hK : (Scope.of [.EQP_POOL] [.grp]).le K = true := by decide +kernel) :
    Evolves K s (u.dropUnits g l) := by
  refine h.widen hK fun h => ?_
  unfold State.dropUnits
  exact h.each (fun _ h₁ => Evolves.ite h₁.dropUnit h₁)

theorem Evolves.setPos {n p k : Nat} (h : Evolves K s u)
    (hK : (Scope.of [.EQP_ALLOC, .EQP_POS] []).le K = true := by decide +kernel) : Evolves K s (u.setPos n p k) := by
  refine h.widen hK fun h => ?_
  unfold State.setPos
  exact h.setFld.setFld

theorem Evolves.showTaps {n : Nat} (h : Evolves K s u)
    (hK : (Scope.of [.EQP_POST, .EQP_TARGET] []).le K = true := by decide +kernel) : Evolves K s (u.showTaps n) := by
  refine h.widen hK fun h => ?_
  unfold State.showTaps
  exact h.setFld.setFld.setFld.setFld

theorem Evolves.showFreeze {n : Nat} (h : Evolves K s u) (hK : (Scope.of [.EQP_STATUS] []).le K = true := by decide +kernel) :
    Evolves K s (u.showFreeze n) := by
  refine h.widen hK fun h => ?_
  unfold State.showFreeze
  exact h.setFld

theorem Evolves.modCoefs {n : Nat} {f : EqCoefs → EqCoefs} (h : Evolves K s u)
    (hK : (Scope.of [.EQP_POST, .EQP_TARGET] [.eqp]).le K = true := by decide +kernel) : Evolves K s (u.modCoefs n f) := by
  refine h.widen hK fun h => ?_
  unfold State.modCoefs
  exact h.modEqp.showTaps

theorem Evolves.setDet {n d : Nat} (h : Evolves K s u)
    (hK : (Scope.of [.EQP_ALLOC, .EQP_POST, .EQP_TARGET] []).le K = true := by decide +kernel) : Evolves K s (u.setDet n d) := by
  refine h.widen hK fun h => ?_
  unfold State.setDet
  exact h.setFld.showTaps

theorem Evolves.toDfe {n : Nat} (h : Evolves K s u)
    (hK : (Scope.of [.EQP_ALLOC, .EQP_POST, .EQP_TARGET, .EQP_POOL] [.eqp, .grp]).le K = true := by decide +kernel) :
    Evolves K s (u.toDfe n) := by
  refine h.widen hK fun h => ?_
  unfold State.toDfe
  exact h.dropUnits.modCoefs.setDet

/-- What `State.addPos` may change. -/
def addPosScope : Scope := .of [.EQP_ALLOC, .EQP_POS, .EQP_POST, .EQP_TARGET, .EQP_POOL, .EQP_SLICE_STATE] [.eqp]

theorem Evolves.addPos {n k : Nat} (h : Evolves K s u) (hK : addPosScope.le K = true := by decide +kernel) :
    Evolves K s (u.addPos n k) := by
  refine h.widen hK fun h => ?_
  unfold State.addPos
  exact h.setSlice.setPos.setFld.modCoefs

/-- What `State.removePos` may change. -/
def removePosScope : Scope := .of [.EQP_ALLOC, .EQP_POS, .EQP_POST, .EQP_TARGET, .EQP_COEF, .EQP_POOL, .EQP_SLICE_STATE] [.eqp]

theorem Evolves.removePos {n : Nat} (h : Evolves K s u) (hK : removePosScope.le K = true := by decide +kernel) :
    Evolves K s (u.removePos n) := by
  refine h.widen hK fun h => ?_
  unfold State.removePos
  exact (((h.resetRange.when fun h₁ => h₁.setSlice).setPos).setFld).modCoefs

theorem Evolves.showOps {g : Nat} (h : Evolves K s u)
    (hK : (Scope.of [.EQP_STATUS, .EQP_OP_STATUS] []).le K = true := by decide +kernel) : Evolves K s (u.showOps g) := by
  refine h.widen hK fun h => ?_
  unfold State.showOps
  exact h.setFlag.setFlag.each (fun _ h₁ => h₁.setFlag.setFlag)

theorem Evolves.opResult {g result source : Nat} (h : Evolves K s u)
    (hK : (Scope.of [.EQP_OP_STATUS] []).le K = true := by decide +kernel) : Evolves K s (u.opResult g result source) := by
  refine h.widen hK fun h => ?_
  unfold State.opResult
  exact h.setFld.setFld

theorem Evolves.takeOp {g source : Nat} {f : Nat → List PoolOp → List PoolOp} (h : Evolves K s u)
    (hK : (Scope.of [.EQP_STATUS, .EQP_OP_STATUS] [.grp]).le K = true := by decide +kernel) : Evolves K s (u.takeOp g source f) := by
  refine h.widen hK fun h => ?_
  unfold State.takeOp
  exact h.modGrp.setFld.showOps

theorem Evolves.requestOp {g : Nat} {o : PoolOp} (h : Evolves K s u)
    (hK : (Scope.of [.EQP_STATUS, .EQP_OP_STATUS] [.grp]).le K = true := by decide +kernel) : Evolves K s (u.requestOp g o) := by
  refine h.widen hK fun h => ?_
  unfold State.requestOp
  refine Evolves.ite h.takeOp ?_
  refine Evolves.ite h.opResult ?_
  split
  exacts [h.opResult, h.takeOp]

theorem Evolves.runFollow {g : Nat} (h : Evolves K s u)
    (hK : (Scope.of [.EQP_STATUS, .EQP_OP_STATUS, .EVL_DROPPED] [.recorder, .grp]).le K = true := by decide +kernel) :
    Evolves K s (u.runFollow g) := by
  refine h.widen hK fun h => ?_
  unfold State.runFollow
  dsimp only
  split
  exacts [h, Evolves.ite h (h.modGrp.requestOp.when fun h₁ => h₁.log)]

theorem Evolves.showFences (h : Evolves K s u) (hK : (Scope.of [.GLB_FENCE] []).le K = true := by decide +kernel) :
    Evolves K s u.showFences := by
  refine h.widen hK fun h => ?_
  unfold State.showFences
  exact h.setFld.setFld.setFld.setFlag

theorem Evolves.testSlice {g k : Nat} {mismatchOf : optParam (Option Nat) none} {event : optParam Bool false} (h : Evolves K s u)
    (hK : (Scope.of [.EQP_POOL, .EQP_SLICE_STATE] [.grp]).le K = true := by decide +kernel) :
    Evolves K s (u.testSlice g k mismatchOf event) := by
  refine h.widen hK fun h => ?_
  unfold State.testSlice
  exact h.setSlice.modGrp

theorem Evolves.abortTest {g kind k : Nat} (h : Evolves K s u)
    (hK : (Scope.of [.EQP_POOL, .EQP_SLICE_STATE, .BST_DEC_STATE, .BST_IS_ABORT] [.grp]).le K = true := by decide +kernel) :
    Evolves K s (u.abortTest g kind k) := by
  refine h.widen hK fun h => ?_
  unfold State.abortTest
  dsimp only
  split
  exacts [h, ((Evolves.ite h.setSlice h.setFld).modGrp).count]

theorem Evolves.abortSliceTest {g k : Nat} (h : Evolves K s u)
    (hK : (Scope.of [.EQP_POOL, .EQP_SLICE_STATE, .BST_DEC_STATE, .BST_IS_ABORT] [.grp]).le K = true := by decide +kernel) :
    Evolves K s (u.abortSliceTest g k) := by
  refine h.widen hK fun h => ?_
  unfold State.abortSliceTest
  exact h.abortTest

theorem Evolves.modOp {g : Nat} {f : PoolOp → PoolOp} (h : Evolves K s u)
    (hK : (Scope.of [] [.grp]).le K = true := by decide +kernel) : Evolves K s (u.modOp g f) := by
  refine h.widen hK fun h => ?_
  unfold State.modOp
  exact h.modGrp

/-- What `State.endOp` may change. -/
def endOpScope : Scope := .of [.EQP_STATUS, .EQP_OP_STATUS, .EQP_OP_OK, .EQP_OP_FAIL, .EVL_DROPPED] [.recorder, .lrx, .grp]

theorem Evolves.endOp {g : Nat} {o : PoolOp} {result : Nat} (h : Evolves K s u) (hK : endOpScope.le K = true := by decide +kernel) :
    Evolves K s (u.endOp g o result) := by
  refine h.widen hK fun h => ?_
  unfold State.endOp
  exact ((((((h.modGrp.cond (fun h₁ => h₁.count) (fun h₁ => Evolves.ite h₁.count h₁)).when fun h₁ =>
      h₁.modGrp).opResult).log).each (fun _ h₁ => Evolves.ite h₁.modLrx h₁)).showOps).runFollow

/-- What `State.opBegin` may change. -/
def opBeginScope : Scope := .of [.EQP_ALLOC, .EQP_POS, .EQP_POST, .EQP_TARGET, .EQP_POOL, .EQP_SLICE_STATE] [.eqp, .grp]

theorem Evolves.opBegin {g : Nat} {o : PoolOp} (h : Evolves K s u) (hK : opBeginScope.le K = true := by decide +kernel) :
    Evolves K s (u.opBegin g o).1 := by
  refine h.widen hK fun h => ?_
  unfold State.opBegin
  dsimp only
  split
  · split
    exacts [h.setSlice, h]
  · split
    · split
      exacts [h.addPos, h]
    · split
      · exact h
      · split
        · exact Evolves.ite h h.toDfe
        · split
          · exact h
          · split
            · exact h.toDfe
            · split
              exacts [h.takeUnit, h]

theorem Evolves.unfuseSwitch {g : Nat} {o : PoolOp} (h : Evolves K s u)
    (hK : (Scope.of [.EQP_ALLOC, .EQP_POST, .EQP_TARGET, .EQP_POOL] [.eqp, .grp]).le K = true := by decide +kernel) :
    Evolves K s (u.unfuseSwitch g o) := by
  refine h.widen hK fun h => ?_
  unfold State.unfuseSwitch
  exact h.modCoefs.setDet.takeUnit.takeUnit.setFld

theorem Evolves.migrateSwitch {g : Nat} {o : PoolOp} (h : Evolves K s u)
    (hK : (Scope.of [.EQP_ALLOC, .EQP_POS] []).le K = true := by decide +kernel) : Evolves K s (u.migrateSwitch g o) := by
  refine h.widen hK fun h => ?_
  unfold State.migrateSwitch
  exact h.setPos

/-- What `State.opFinish` may change. -/
def opFinishScope : Scope := .of [.EQP_ALLOC, .EQP_POS, .EQP_POST, .EQP_TARGET, .EQP_COEF, .EQP_POOL, .EQP_SLICE_STATE] [.eqp, .grp]

theorem Evolves.opFinish {g : Nat} {o : PoolOp} (h : Evolves K s u) (hK : opFinishScope.le K = true := by decide +kernel) :
    Evolves K s (u.opFinish g o) := by
  refine h.widen hK fun h => ?_
  unfold State.opFinish
  refine Evolves.ite (Evolves.ite h.testSlice h.setSlice) ?_
  exact Evolves.ite h.removePos (Evolves.ite h.takeUnit.takeUnit.modCoefs.setDet.setFld (Evolves.ite h.setDet (Evolves.ite h.setDet h)))

theorem Evolves.rampTo {n : Nat} {o : PoolOp} {k : Nat} (h : Evolves K s u)
    (hK : (Scope.of [.EQP_POST, .EQP_TARGET] [.eqp]).le K = true := by decide +kernel) : Evolves K s (u.rampTo n o k) := by
  refine h.widen hK fun h => ?_
  unfold State.rampTo
  exact h.modCoefs

/-- What `State.finishOp` may change. -/
def finishOpScope : Scope := .of [.EQP_ALLOC, .EQP_POS, .EQP_STATUS, .EQP_POST, .EQP_TARGET, .EQP_COEF, .EQP_POOL, .EQP_SLICE_STATE,
    .EQP_OP_STATUS, .EQP_OP_OK, .EQP_OP_FAIL, .EVL_DROPPED] [.recorder, .lrx, .eqp, .grp]

theorem Evolves.finishOp {g : Nat} {o : PoolOp} (h : Evolves K s u) (hK : finishOpScope.le K = true := by decide +kernel) :
    Evolves K s (u.finishOp g o) := by
  refine h.widen hK fun h => ?_
  unfold State.finishOp
  exact h.opFinish.endOp.when fun h₁ => h₁.modGrp

theorem Evolves.dropOp {g : Nat} {o : PoolOp} {r : Nat} (h : Evolves K s u)
    (hK : (Scope.of [.EQP_STATUS, .EQP_OP_STATUS, .EVL_DROPPED] [.recorder, .grp]).le K = true := by decide +kernel) :
    Evolves K s (u.dropOp g o r) := by
  refine h.widen hK fun h => ?_
  unfold State.dropOp
  exact (((h.modGrp.when fun h₁ => h₁.log).skip fun h₁ => h₁.opResult).showOps).runFollow

/-- What `State.startOp` may change. -/
def startOpScope : Scope := .join [finishOpScope, .of [.BST_DEC_STATE, .BST_IS_ABORT] []]

theorem Evolves.startOp {g : Nat} (h : Evolves K s u) (hK : startOpScope.le K = true := by decide +kernel) :
    Evolves K s (u.startOp g) := by
  refine h.widen hK fun h => ?_
  unfold State.startOp
  dsimp only
  split
  · exact h
  · refine Evolves.ite h ?_
    refine Evolves.ite h.dropOp ?_
    split
    · exact h.dropOp
    · split
      exacts [h.abortSliceTest, h.opBegin.modOp.cond (fun h₁ => h₁.finishOp) (fun h₁ => h₁.showOps)]

theorem Evolves.opAtOnce {g : Nat} {o : PoolOp} (h : Evolves K s u) (hK : startOpScope.le K = true := by decide +kernel) :
    Evolves K s (u.opAtOnce g o) := by
  refine h.widen hK fun h => ?_
  unfold State.opAtOnce
  dsimp only
  refine Evolves.ite (Evolves.ite h.modGrp.unfuseSwitch.showOps h.finishOp) ?_
  refine Evolves.ite h.dropOp ?_
  split
  · exact h.dropOp
  · exact (((Evolves.opBegin (by split; exacts [h.abortSliceTest, h])).modGrp).cond
        (fun h₁ => h₁.migrateSwitch) (fun h₁ => Evolves.ite h₁.unfuseSwitch h₁)).finishOp

theorem Evolves.poolColdTrain {n : Nat} (h : Evolves K s u) (hK : startOpScope.le K = true := by decide +kernel) :
    Evolves K s (u.poolColdTrain n) := by
  refine h.widen hK fun h => ?_
  unfold State.poolColdTrain
  exact h.foldl (fun _ h₁ => h₁.opAtOnce)

/-- What `State.abandonOp` may change. -/
def abandonOpScope : Scope := .of [.EQP_STATUS, .EQP_POOL, .EQP_SLICE_STATE, .EQP_OP_STATUS, .EQP_OP_OK, .EQP_OP_FAIL, .EVL_DROPPED]
    [.recorder, .lrx, .grp]

theorem Evolves.abandonOp {g : Nat} {o : PoolOp} {result : Nat} (h : Evolves K s u)
    (hK : abandonOpScope.le K = true := by decide +kernel) : Evolves K s (u.abandonOp g o result) := by
  refine h.widen hK fun h => ?_
  unfold State.abandonOp
  exact (Evolves.ite h.setSlice (Evolves.ite h.dropUnit (Evolves.ite h.dropUnit h))).endOp

theorem Evolves.poolLeftLocked {n : Nat} (h : Evolves K s u) (hK : abandonOpScope.le K = true := by decide +kernel) :
    Evolves K s (u.poolLeftLocked n) := by
  refine h.widen hK fun h => ?_
  unfold State.poolLeftLocked
  dsimp only
  split
  exacts [h, Evolves.ite h.abandonOp h.showOps]

/-- What `State.opFrame` may change. -/
def opFrameScope : Scope := .of [.EQP_ALLOC, .EQP_POS, .EQP_STATUS, .EQP_POST, .EQP_TARGET, .EQP_POOL, .EQP_SLICE_STATE, .EQP_OP_STATUS,
    .EQP_OP_OK, .EQP_OP_FAIL, .EVL_DROPPED] [.recorder, .lrx, .eqp, .grp]

theorem Evolves.opFrame {g : Nat} {equal : Bool} (h : Evolves K s u) (hK : opFrameScope.le K = true := by decide +kernel) :
    Evolves K s (u.opFrame g equal) := by
  refine h.widen hK fun h => ?_
  unfold State.opFrame
  dsimp only
  split
  · exact h
  · refine Evolves.ite h ?_
    refine Evolves.ite h.testSlice.endOp ?_
    refine Evolves.ite h ?_
    exact
        (h.modOp.cond
        (fun h₁ => h₁.migrateSwitch) (fun h₁ => Evolves.ite h₁.rampTo (Evolves.ite h₁.rampTo (Evolves.ite h₁.unfuseSwitch h₁)))).showOps

theorem Evolves.opEnd {g : Nat} (h : Evolves K s u) (hK : finishOpScope.le K = true := by decide +kernel) : Evolves K s (u.opEnd g) := by
  refine h.widen hK fun h => ?_
  unfold State.opEnd
  split
  exacts [h, Evolves.ite h.finishOp h]

theorem Evolves.logReduce {g : Nat} {lowered : Bool} (h : Evolves K s u)
    (hK : (Scope.of [.EQP_OP_STATUS, .EVL_DROPPED] [.recorder]).le K = true := by decide +kernel) :
    Evolves K s (u.logReduce g lowered) := by
  refine h.widen hK fun h => ?_
  unfold State.logReduce
  exact h.opResult.log

theorem Evolves.fillLane {n : Nat} {a : LaneAlloc} (h : Evolves K s u) (hK : opBeginScope.le K = true := by decide +kernel) :
    Evolves K s (u.fillLane n a) := by
  refine h.widen hK @fun s h => ?_
  have h' : Evolves opBeginScope s (((List.range a.slices).foldl (fun s _ => match s.lowestSlice (n / 2) Slice.FREE with
      | some k => s.addPos n k
      | none => s) u).setFld EQP_ALLOC.CURSOR n a.cursor) := by
    refine (h.foldl fun _ h => ?_).setFld
    split
    exacts [h.addPos, h]
  unfold State.fillLane
  refine .ite h'.setDet (.ite h'.takeUnit.takeUnit.setFld.setDet (.ite ?_ h'.setDet))
  split
  exacts [h'.takeUnit.setDet, h'.setDet]

/-- What `State.poolLoad` may change. -/
def poolLoadScope : Scope := .of [.EQP_CTRL, .EQP_ALLOC, .EQP_POS, .EQP_POST, .EQP_TARGET, .EQP_SOFT, .EQP_POOL, .EQP_SLICE_STATE,
    .EQP_OP_STATUS, .EVL_DROPPED] [.recorder, .eqp, .grp]

theorem Evolves.poolLoad {g : Nat} (h : Evolves K s u) (hK : poolLoadScope.le K = true := by decide +kernel) :
    Evolves K s (u.poolLoad g) := by
  refine h.widen hK fun h => ?_
  unfold State.poolLoad
  exact Evolves.ite h ((h.fillLane.fillLane.each (fun _ h₁ => h₁.setFld.setFld.setFld)).skip fun h₁ => h₁.logReduce)

/-- What `State.poolReduce` may change. -/
def poolReduceScope : Scope := .of [.EQP_ALLOC, .EQP_POS, .EQP_POST, .EQP_TARGET, .EQP_COEF, .EQP_POOL, .EQP_SLICE_STATE, .EQP_OP_STATUS,
    .EVL_DROPPED] [.recorder, .eqp]

theorem Evolves.poolReduce {g : Nat} (h : Evolves K s u) (hK : poolReduceScope.le K = true := by decide +kernel) :
    Evolves K s (u.poolReduce g) := by
  refine h.widen hK fun h => ?_
  unfold State.poolReduce
  exact Evolves.ite h (((((h.foldl (fun _ h₁ => h₁.removePos)).setFld).foldl (fun _ h₁ => h₁.removePos)).setFld).logReduce)

theorem Evolves.abortQueued {g : Nat} (h : Evolves K s u) (hK : endOpScope.le K = true := by decide +kernel) :
    Evolves K s (u.abortQueued g) := by
  refine h.widen hK fun h => ?_
  unfold State.abortQueued
  exact h.foldl (fun _ h₁ => h₁.endOp)

theorem Evolves.endOpAtQ {g : Nat} (h : Evolves K s u) (hK : finishOpScope.le K = true := by decide +kernel) :
    Evolves K s (u.endOpAtQ g) := by
  refine h.widen hK fun h => ?_
  unfold State.endOpAtQ
  split
  exacts [h, Evolves.ite h.endOp (Evolves.ite h.finishOp h.abandonOp)]

theorem Evolves.poolClose {g : Nat} (h : Evolves K s u) (hK : startOpScope.le K = true := by decide +kernel) :
    Evolves K s (u.poolClose g) := by
  refine h.widen hK fun h => ?_
  unfold State.poolClose
  exact
      ((((((h.endOpAtQ.log.each
      (fun _ h₁ => Evolves.ite h₁.abortSliceTest (Evolves.ite h₁.setSlice h₁))).dropUnit).dropUnit).setFld).modGrp).each (fun _ h₁ =>
      h₁.resetRegs.modEqp)).showOps

theorem Evolves.setPoolCounters {g al fr ut fe : Nat} (h : Evolves K s u)
    (hK : (Scope.of [.EQP_POOL] []).le K = true := by decide +kernel) : Evolves K s (u.setPoolCounters g al fr ut fe) := by
  refine h.widen hK fun h => ?_
  unfold State.setPoolCounters
  exact h.setFld.setFld.setFld.setFld

theorem Evolves.wrEqpCtrl {p : Path} {n v₁ : Nat} (h : Evolves K s u)
    (hK : (Scope.of [.EQP_CTRL, .EQP_STATUS, .EVL_DROPPED] [.recorder, .eqp]).le K = true := by decide +kernel) :
    Evolves K s (wrEqpCtrl p n v₁ u).1 := by
  refine h.widen hK fun h => ?_
  unfold Machine.wrEqpCtrl
  refine .iteFst (.rejectWrite ?_) (.fst ?_) <;>
    exact .when (.showFreeze (.setFld (.skip (.skip h fun h => h.setFld) fun h => h.setFld))) fun h => h.modEqp

theorem Evolves.wrEqpSoft {p : Path} {n v₁ : Nat} (h : Evolves K s u)
    (hK : (Scope.of [.EQP_SOFT, .EVL_DROPPED] [.recorder]).le K = true := by decide +kernel) : Evolves K s (wrEqpSoft p n v₁ u).1 := by
  refine h.widen hK fun h => ?_
  unfold Machine.wrEqpSoft
  split
  exacts [h.rejectWrite, h.setFld]

theorem Evolves.wrEqpCoef {i v₁ : Nat} (h : Evolves K s u) (hK : (Scope.of [] [.eqp]).le K = true := by decide +kernel) :
    Evolves K s (wrEqpCoef i v₁ u).1 := by
  refine h.widen hK fun h => ?_
  unfold Machine.wrEqpCoef
  exact Evolves.ite ((Evolves.ite h.modEqp h).modEqp) (Evolves.ite h.modEqp h)

theorem Evolves.wrEqpOpCmd {g v₁ : Nat} (h : Evolves K s u)
    (hK : (Scope.of [.EQP_STATUS, .EQP_OP_CMD, .EQP_OP_STATUS] [.grp]).le K = true := by decide +kernel) :
    Evolves K s (wrEqpOpCmd g v₁ u).1 := by
  refine h.widen hK fun h => ?_
  unfold Machine.wrEqpOpCmd
  dsimp only
  split
  exacts [.fst h.plainWrite.requestOp, .fst h.plainWrite]

theorem Evolves.wrEqpAudit {g v₁ : Nat} (h : Evolves K s u)
    (hK : (Scope.of [.EQP_POOL, .EQP_AUDIT] []).le K = true := by decide +kernel) : Evolves K s (wrEqpAudit g v₁ u).1 := by
  refine h.widen hK fun h => ?_
  unfold Machine.wrEqpAudit
  dsimp only
  split
  exacts [h.setPoolCounters.when fun h₁ => h₁.setFlag, h]

theorem poolRequest_answers {src : PoolSource} {g op l pos dest : Nat} (h : Evolves .all s u) :
    Answers s (poolRequest src g op l pos dest u) := by
  unfold poolRequest
  split
  exacts [writeCommand_answers h (fun h₁ => h₁.wrEqpOpCmd), .next h.requestOp, .next h.requestOp]

theorem execMigrate_answers {src : PoolSource} {g : Grp} {l : Fin 2} {pos to_ : Fin 16} (h : Evolves .all s u) :
    Answers s (execMigrate src g l pos to_ u) := by
  unfold execMigrate
  exact poolRequest_answers h

theorem execAdd_answers {src : PoolSource} {g : Grp} {l : Fin 2} (h : Evolves .all s u) : Answers s (execAdd src g l u) := by
  unfold execAdd
  exact poolRequest_answers h

theorem execRemove_answers {src : PoolSource} {g : Grp} {l : Fin 2} (h : Evolves .all s u) : Answers s (execRemove src g l u) := by
  unfold execRemove
  exact poolRequest_answers h

theorem execFuse_answers {src : PoolSource} {g : Grp} {l : Fin 2} (h : Evolves .all s u) : Answers s (execFuse src g l u) := by
  unfold execFuse
  exact poolRequest_answers h

theorem execUnfuse_answers {src : PoolSource} {g : Grp} {l : Fin 2} (h : Evolves .all s u) : Answers s (execUnfuse src g l u) := by
  unfold execUnfuse
  exact poolRequest_answers h

theorem execToDfe_answers {src : PoolSource} {g : Grp} {l : Fin 2} (h : Evolves .all s u) : Answers s (execToDfe src g l u) := by
  unfold execToDfe
  exact poolRequest_answers h

theorem execToMlse_answers {src : PoolSource} {g : Grp} {l : Fin 2} (h : Evolves .all s u) : Answers s (execToMlse src g l u) := by
  unfold execToMlse
  exact poolRequest_answers h

theorem execPoolOpStart_answers {g : Grp} (h : Evolves .all s u) : Answers s (execPoolOpStart g u) := by
  unfold execPoolOpStart
  split
  exacts [.next h, .next (Evolves.ite h.startOp h.showOps)]

theorem execPoolOpFrame_answers {g : Grp} {equal : Bool} (h : Evolves .all s u) : Answers s (execPoolOpFrame g equal u) := by
  unfold execPoolOpFrame
  exact .next h.opFrame

theorem execPoolOpEnd_answers {g : Grp} (h : Evolves .all s u) : Answers s (execPoolOpEnd g u) := by
  unfold execPoolOpEnd
  exact .next h.opEnd

theorem execCoefLoad_answers {p : Path} {n : Lane} (h : Evolves .all s u) : Answers s (execCoefLoad p n u) := by
  unfold execCoefLoad
  exact writeCommand_answers h (fun h₁ => h₁.wrEqpCtrl)

theorem execEqpAuditClr_answers {p : Path} {g : Grp} (h : Evolves .all s u) : Answers s (execEqpAuditClr p g u) := by
  unfold execEqpAuditClr
  exact writeCommand_answers h (fun h₁ => h₁.wrEqpAudit)

theorem execPoolAuditViolation_answers {g : Grp} {counters : BitVec 16} (h : Evolves .all s u) :
    Answers s (execPoolAuditViolation g counters u) := by
  unfold execPoolAuditViolation
  exact Answers.ite (.next h) (.next h.setPoolCounters.log.setFlag.alert)

end Sys2Proof.Machine
end

section
/-! SUPPORT. What the thermal control leave: `Evolves`, for each operation and command. -/
namespace Sys2Proof.Machine
open Sys2Proof
set_option Elab.async false
variable {K : Scope} {s u t₀ : State}

theorem Evolves.logThm {kind sensor : Nat} {temp : ℤ} (h : Evolves K s u)
    (hK : (Scope.of [.EVL_DROPPED] [.recorder]).le K = true := by decide +kernel) : Evolves K s (u.logThm kind sensor temp) := by
  refine h.widen hK fun h => ?_
  unfold State.logThm
  exact h.log

theorem Evolves.logHot {kind : Nat} (h : Evolves K s u)
    (hK : (Scope.of [.EVL_DROPPED] [.recorder]).le K = true := by decide +kernel) : Evolves K s (u.logHot kind) := by
  refine h.widen hK fun h => ?_
  unfold State.logHot
  split
  exacts [h.logThm, h.logThm]

theorem Evolves.showThm (h : Evolves K s u) (hK : (Scope.of [.THM_STATUS] []).le K = true := by decide +kernel) :
    Evolves K s u.showThm := by
  refine h.widen hK fun h => ?_
  unfold State.showThm
  exact Evolves.ite h h.setFld

theorem Evolves.setWarn {on : Bool} (h : Evolves K s u) (hK : (Scope.of [] [.thm, .pwr]).le K = true := by decide +kernel) :
    Evolves K s (u.setWarn on) := by
  refine h.widen hK fun h => ?_
  unfold State.setWarn
  exact h.same.modPwr

/-- What `State.judgeThm` may change. -/
def judgeThmScope : Scope := .of [.GLB_STATE, .MGT_ALERT_STATUS, .THM_STATUS, .EVL_DROPPED] [.risen, .recorder, .mgt, .thm, .pwr]

theorem Evolves.judgeThm (h : Evolves K s u) (hK : judgeThmScope.le K = true := by decide +kernel) : Evolves K s u.judgeThm := by
  refine h.widen hK fun h => ?_
  unfold State.judgeThm
  dsimp only
  split
  · exact .showThm h.same
  · refine .showThm (.ite (.alert (.logHot (.setWarn (.setFld h.same)))) (.ite (.logHot (.setWarn (.setFld h.same))) (.setFld h.same)))

theorem Evolves.reliefIn {g i : Nat} {undo : Bool} (h : Evolves K s u)
    (hK : (Scope.of [.EQP_STATUS, .EQP_OP_STATUS] [.grp]).le K = true := by decide +kernel) : Evolves K s (u.reliefIn g i undo) := by
  refine h.widen hK fun h => ?_
  unfold State.reliefIn
  exact h.each (fun _ h₁ => h₁.each (fun _ h₂ => h₂.requestOp))

/-- What `State.reliefTo` may change. -/
def reliefToScope : Scope := .of [.EQP_STATUS, .EQP_OP_STATUS, .THM_STATUS, .EVL_DROPPED] [.recorder, .grp, .thm]

theorem Evolves.reliefTo {level : Nat} {up : Bool} (h : Evolves K s u) (hK : reliefToScope.le K = true := by decide +kernel) :
    Evolves K s (u.reliefTo level up) := by
  refine h.widen hK fun h => ?_
  unfold State.reliefTo
  exact (h.same.setFld.each (fun _ h₁ => Evolves.ite h₁.reliefIn h₁)).logHot

theorem Evolves.reliefUp (h : Evolves K s u) (hK : reliefToScope.le K = true := by decide +kernel) : Evolves K s u.reliefUp := by
  refine h.widen hK fun h => ?_
  unfold State.reliefUp
  exact Evolves.ite h.reliefTo h

theorem Evolves.reliefNew {g : Nat} (h : Evolves K s u)
    (hK : (Scope.of [.EQP_STATUS, .EQP_OP_STATUS] [.grp]).le K = true := by decide +kernel) : Evolves K s (u.reliefNew g) := by
  refine h.widen hK fun h => ?_
  unfold State.reliefNew
  exact h.each (fun _ h₁ => h₁.reliefIn)

theorem Evolves.wrThmLimitA {p : Path} {v₁ : Nat} (h : Evolves K s u)
    (hK : (Scope.of [.THM_LIMIT_A, .EVL_DROPPED] [.recorder]).le K = true := by decide +kernel) : Evolves K s (wrThmLimitA p v₁ u).1 := by
  refine h.widen hK fun h => ?_
  unfold Machine.wrThmLimitA
  split
  exacts [h.plainWrite, h.rejectWrite]

theorem Evolves.wrThmLimitB {p : Path} {v₁ : Nat} (h : Evolves K s u)
    (hK : (Scope.of [.THM_LIMIT_B, .EVL_DROPPED] [.recorder]).le K = true := by decide +kernel) : Evolves K s (wrThmLimitB p v₁ u).1 := by
  refine h.widen hK fun h => ?_
  unfold Machine.wrThmLimitB
  split
  exacts [h.plainWrite, h.rejectWrite]

theorem Evolves.wrThmCfg {p : Path} {v₁ : Nat} (h : Evolves K s u)
    (hK : (Scope.of [.THM_CFG, .EVL_DROPPED] [.recorder]).le K = true := by decide +kernel) : Evolves K s (wrThmCfg p v₁ u).1 := by
  refine h.widen hK fun h => ?_
  unfold Machine.wrThmCfg
  split
  exacts [h.plainWrite, h.rejectWrite]

theorem Evolves.sampleSensor {i : Nat} {v₁ : ℤ} (h : Evolves K s u)
    (hK : (Scope.of [.THM_SENSOR] [.sens]).le K = true := by decide +kernel) : Evolves K s (u.sampleSensor i v₁) := by
  refine h.widen hK fun h => ?_
  unfold State.sampleSensor
  exact h.modSens.setFld.setFlag

theorem execSensorSample_answers {readings : List (BitVec 12)} (h : Evolves .all s u) : Answers s (execSensorSample readings u) := by
  unfold execSensorSample
  dsimp only
  refine Answers.ite ?_ (.next h)
  refine .next ?_
  exact (h.each (fun _ h₁ => (by split; exacts [h₁.sampleSensor, h₁]))).skip fun h₁ => h₁.judgeThm

theorem Evolves.predictSensor {i : Nat} (h : Evolves K s u)
    (hK : (Scope.of [.THM_SENSOR, .THM_PRED, .EVL_DROPPED] [.recorder, .sens]).le K = true := by decide +kernel) :
    Evolves K s (u.predictSensor i) := by
  refine h.widen hK fun h => ?_
  unfold State.predictSensor
  refine Evolves.ite h.modSens ?_
  exact h.modSens.setFld.skip fun h₁ => Evolves.ite (h₁.modSens.when fun h₂ => h₂.setFlag.modSens.logThm) (h₁.modSens.when fun h₂ =>
      h₂.setFlag.modSens.logThm)

theorem Evolves.showPred (h : Evolves K s u) (hK : (Scope.of [.THM_STATUS] []).le K = true := by decide +kernel) :
    Evolves K s u.showPred := by
  refine h.widen hK fun h => ?_
  unfold State.showPred
  exact h.setFld

theorem execSensorPrediction_answers (h : Evolves .all s u) : Answers s (execSensorPrediction u) := by
  unfold execSensorPrediction
  dsimp only
  refine Answers.ite ?_ (.next h)
  refine .next ?_
  exact (((h.each (fun _ h₁ => h₁.predictSensor)).each (fun _ h₁ => (by split; exacts [h₁.modSens, h₁.modSens]))).judgeThm).showPred

theorem execReliefRaise_answers (h : Evolves .all s u) : Answers s (execReliefRaise u) := by
  unfold execReliefRaise
  exact .next (Evolves.ite h.reliefUp.judgeThm h)

theorem execReliefLower_answers (h : Evolves .all s u) : Answers s (execReliefLower u) := by
  unfold execReliefLower
  exact .next (Evolves.ite h.reliefTo.judgeThm h)

/-- What `State.rateSensor` may change. -/
def rateSensorScope : Scope := .of [.GLB_STATE, .MGT_ALERT_STATUS, .EVL_DROPPED] [.risen, .recorder, .mgt, .sens]

theorem Evolves.rateSensor {i : Nat} (h : Evolves K s u) (hK : rateSensorScope.le K = true := by decide +kernel) :
    Evolves K s (u.rateSensor i) := by
  refine h.widen hK fun h => ?_
  unfold State.rateSensor
  dsimp only
  split
  · exact h.modSens
  · exact h.modSens.step fun h₁ => by split; exacts [h₁, Evolves.ite (h₁.modSens.when fun h₂ =>
                                        h₂.modSens.logThm.alert) (h₁.modSens.when fun h₂ => h₂.modSens.logThm)]

theorem execRateWindow_answers (h : Evolves .all s u) : Answers s (execRateWindow u) := by
  unfold execRateWindow
  exact Answers.ite (.next (((h.each (fun _ h₁ => h₁.rateSensor)).setFlag).when fun h₁ => h₁.reliefUp.judgeThm)) (.next h)

end Sys2Proof.Machine
end

section
/-! SUPPORT. What the key vault leave: `Evolves`, for each operation and command. -/
namespace Sys2Proof.Machine
open Sys2Proof
set_option Elab.async false
variable {K : Scope} {s u t₀ : State}

theorem Evolves.freshKey (h : Evolves K s u) (hK : (Scope.of [] [.freeCtr]).le K = true := by decide +kernel) :
    Evolves K s u.freshKey.2 := by
  refine h.widen hK fun h => ?_
  unfold State.freshKey
  exact h.fresh.fresh

end Sys2Proof.Machine
end

section
/-! SUPPORT. What framing and codes of the line leave: `Evolves`, for each operation and command. -/
namespace Sys2Proof.Machine
open Sys2Proof
set_option Elab.async false
variable {K : Scope} {s u t₀ : State}

theorem Evolves.lfecCount {n : Nat} {f : LfecX → LfecX} (h : Evolves K s u)
    (hK : (Scope.of [] [.lfec]).le K = true := by decide +kernel) : Evolves K s (u.lfecCount n f) := by
  refine h.widen hK fun h => ?_
  unfold State.lfecCount
  exact Evolves.ite h h.modLfec

/-- The counters of a lane's codewords. -/
def lfecCounters : List Reg := [.LFEC_RS_RX, .LFEC_RS_UNCORR, .LFEC_RS_SYM, .LFEC_RS_BITS, .LFEC_IN_RX, .LFEC_IN_ZERO, .LFEC_IN_CORR,
  .LFEC_IN_FAIL, .LFEC_IN_FLIPS, .LFEC_RS_HIST]

theorem reg_countRegs {n : Nat} {e : Field × Nat} (h : e ∈ countRegs n) : e.1.reg ∈ lfecCounters := by
  rcases List.mem_append.1 h with h | h
  · fin_cases h <;> simp [lfecCounters]
  · obtain ⟨b, -, rfl⟩ := List.mem_map.1 h
    simp [lfecCounters]

theorem Evolves.lfecSnap {n : Nat} (h : Evolves K s u)
    (hr : ∀ r ∈ lfecCounters, K.hasReg r = true := by decide +kernel) : Evolves K s (u.lfecSnap n) := by
  unfold State.lfecSnap
  refine List.foldlRecOn _ _ h fun t h e he => h.setFld (hr _ (reg_countRegs (List.of_mem_zip he).1))

/-- What `State.lfecZero` may change. -/
def lfecZeroScope : Scope := .of [.LFEC_RS_RX, .LFEC_RS_UNCORR, .LFEC_RS_SYM, .LFEC_RS_BITS, .LFEC_IN_RX, .LFEC_IN_ZERO, .LFEC_IN_CORR,
    .LFEC_IN_FAIL, .LFEC_IN_FLIPS, .LFEC_RS_HIST] [.lfec]

theorem Evolves.lfecZero {n : Nat} (h : Evolves K s u) (hK : lfecZeroScope.le K = true := by decide +kernel) :
    Evolves K s (u.lfecZero n) := by
  refine h.widen hK fun h => ?_
  unfold State.lfecZero
  exact h.modLfec.lfecSnap

/-- What `State.lfecClose` may change. -/
def lfecCloseScope : Scope := .of [.LFEC_RS_RX, .LFEC_RS_UNCORR, .LFEC_RS_SYM, .LFEC_RS_BITS, .LFEC_IN_RX, .LFEC_IN_ZERO, .LFEC_IN_CORR,
    .LFEC_IN_FAIL, .LFEC_IN_FLIPS, .LFEC_RS_HIST, .EVL_DROPPED] [.recorder, .lfec]

theorem Evolves.lfecClose {n : Nat} (h : Evolves K s u) (hK : lfecCloseScope.le K = true := by decide +kernel) :
    Evolves K s (u.lfecClose n) := by
  refine h.widen hK fun h => ?_
  unfold State.lfecClose
  exact h.log.lfecZero

theorem Evolves.logLfec {n : Nat} (h : Evolves K s u)
    (hK : (Scope.of [.EVL_DROPPED] [.recorder]).le K = true := by decide +kernel) : Evolves K s (u.logLfec n) := by
  refine h.widen hK fun h => ?_
  unfold State.logLfec
  exact h.log

/-- What `wrLfecCtrl` may change. -/
def wrLfecCtrlScope : Scope := .of [.LFEC_CTRL, .LFEC_STATUS, .LFEC_RS_RX, .LFEC_RS_UNCORR, .LFEC_RS_SYM, .LFEC_RS_BITS, .LFEC_IN_RX,
    .LFEC_IN_ZERO, .LFEC_IN_CORR, .LFEC_IN_FAIL, .LFEC_IN_FLIPS, .LFEC_RS_HIST, .EVL_DROPPED] [.recorder, .lfec]

theorem Evolves.wrLfecCtrl {n v₁ : Nat} (h : Evolves K s u) (hK : wrLfecCtrlScope.le K = true := by decide +kernel) :
    Evolves K s (wrLfecCtrl n v₁ u).1 := by
  refine h.widen hK fun h => ?_
  unfold Machine.wrLfecCtrl
  exact ((h.plainWrite.when fun h₁ => h₁.setFlag).when fun h₁ => h₁.lfecClose).when fun h₁ => h₁.each (fun _ h₂ => h₂.lfecZero.setFlag)

theorem Evolves.wrLfecThr {p : Path} {r : Reg} {clr set : Field} {n v₁ : Nat} (h : Evolves K s u)
    (hr : K.hasReg r = true := by decide +kernel) (hK : (Scope.of [.EVL_DROPPED] [.recorder]).le K = true := by decide +kernel) :
    Evolves K s (wrLfecThr p r clr set n v₁ u).1 := by
  unfold Machine.wrLfecThr
  split
  exacts [h.rejectWrite hK, h.plainWrite hr]

theorem Evolves.nackGoes {n : Nat} {q : NackReq} (h : Evolves K s u)
    (hK : (Scope.of [.CIN_NACK_TX] [.cin]).le K = true := by decide +kernel) : Evolves K s (u.nackGoes n q) := by
  refine h.widen hK fun h => ?_
  unfold State.nackGoes
  exact h.same.when fun h₁ => h₁.count

theorem Evolves.fragFor {n : Nat} (h : Evolves K s u) (hK : (Scope.of [] [.mgt]).le K = true := by decide +kernel) :
    Evolves K s (u.fragFor n).2 := by
  refine h.widen hK fun h => ?_
  unfold State.fragFor
  dsimp only
  split
  exacts [h, h.same]

theorem Evolves.oamSelect {n f m : Nat} {x : Int} (h : Evolves K s u)
    (hK : (Scope.of [.CIN_NACK_TX] [.ltx, .chan, .cin, .tlane, .mgt]).le K = true := by decide +kernel) :
    Evolves K s (u.oamSelect n f m x).2 := by
  refine h.widen hK @fun s h => ?_
  have hfrag : Evolves (Scope.of [.CIN_NACK_TX] [.ltx, .chan, .cin, .tlane, .mgt]) s (if f = 8 ∧ u.oamLane n = true then u.fragFor n else (none, u)).2 := .iteSnd h.fragFor h
  unfold State.oamSelect
  dsimp only
  split
  · exact .snd (.nackGoes (.when h fun h => h.timeDisplaced))
  refine .iteSnd (.snd h.timeWord) ?_
  generalize (if f = 8 ∧ u.oamLane n = true then u.fragFor n else (none, u)) = p at hfrag ⊢
  obtain ⟨frag, v⟩ := p
  cases frag with
  | some w => exact hfrag
  | none =>
    have hdue : Evolves (Scope.of [.CIN_NACK_TX] [.ltx, .chan, .cin, .tlane, .mgt]) s (if u.oamLane n = true then v.nextCredit else (none, v)).2 := .iteSnd (Evolves.nextCredit hfrag) hfrag
    refine .iteSnd (.snd (.modLtx hfrag)) ?_
    dsimp only
    generalize (if u.oamLane n = true then v.nextCredit else (none, v)) = d at hdue ⊢
    obtain ⟨_ | ⟨c, loop, total⟩, w⟩ := d
    · exact .snd (.modLtx hdue)
    · exact hdue

theorem Evolves.freshBits {k : Nat} (h : Evolves K s u) (hK : (Scope.of [] [.freeCtr]).le K = true := by decide +kernel) :
    Evolves K s (u.freshBits k).2 :=
  h.widen hK fun h => h.take

theorem Evolves.freeCodeword (h : Evolves K s u) (hK : (Scope.of [] [.freeCtr]).le K = true := by decide +kernel) :
    Evolves K s u.freeCodeword.2 := by
  refine h.widen hK fun h => ?_
  unfold State.freeCodeword
  dsimp only
  exact h.freshBits.snd

/-- What `State.nextUnit` may change. -/
def nextUnitScope : Scope := .of [.HPM_PORT_STATUS, .HPM_IDLE_INS, .HPM_IDLE_DEL, .EVL_DROPPED] [.freeCtr, .recorder, .ltx, .hpm]

theorem Evolves.nextUnit {n k : Nat} (h : Evolves K s u) (hK : nextUnitScope.le K = true := by decide +kernel) :
    Evolves K s (u.nextUnit n k).2 := by
  refine h.widen hK @fun s h => ?_
  have take : ∀ {α : Type} {o : Option α} {g : α → List Bool} {v : α → State} {d : List Bool × State}, (∀ a, Evolves nextUnitScope s (v a)) →
      Evolves nextUnitScope s d.2 → Evolves nextUnitScope s ((o.map fun a => (g a, v a)).getD d).2 := by
    intro α o g v d hv hd
    cases o with
    | none => exact hd
    | some a => exact hv a
  unfold State.nextUnit
  dsimp only
  split
  · exact take (fun _ => h.modLtx) h.freshBits
  split
  · split
    · exact take (fun _ => h.fillPort.modLtx) h.fillPort.freeCodeword
    · exact h.freeCodeword
  · exact h.freeCodeword

theorem Evolves.fillStream {n P k : Nat} {a : List Bool × State} (h : Evolves K s a.2)
    (hK : nextUnitScope.le K = true := by decide +kernel) : Evolves K s (State.fillStream n P k a).2 := by
  induction k generalizing a with
  | zero => exact h
  | succ k ih =>
    unfold State.fillStream
    split
    exacts [h, ih (h.nextUnit hK).snd]

theorem Evolves.frameData {n F : Nat} (h : Evolves K s u) (hK : nextUnitScope.le K = true := by decide +kernel) :
    Evolves K s (u.frameData n F).2 := by
  refine h.widen hK @fun s h => ?_
  have hlead : ∀ {c : Prop} {_ : Decidable c} {k : Nat}, Evolves nextUnitScope s (if c then (([] : List Bool), u) else u.freshBits k).2 := .iteSnd h
      h.freshBits
  unfold State.frameData
  dsimp -iota only
  split
  · exact .snd h.modLtx
  split
  case h_1 lead v hv =>
  have hv : Evolves nextUnitScope s v := hlead.beside hv
  have hfill := @Evolves.fillStream nextUnitScope s n (framePlace F) 24 (if (u.ltxOf n).streamAt = some (framePlace F) then (u.ltxOf n).stream
                else lead ++ List.drop ((u.ltxOf n).stream.length % u.unitBits n) (u.ltxOf n).stream, v) hv (by decide +kernel)
  split
  next hw => exact .snd (.modLtx (hfill.beside hw))

theorem Evolves.sendLevels {n : Nat} {x₀ : LtxX} {on₀ : Bool} {levels : List Int} (h : Evolves K s u)
    (hK : (Scope.of [.LTX_CLIP] [.freeCtr, .grp, .ltx]).le K = true := by decide +kernel) :
    Evolves K s (u.sendLevels n x₀ on₀ levels) := by
  refine h.widen hK fun h => ?_
  unfold State.sendLevels
  dsimp only
  refine .modLtx (.count (.when ?_ fun h => h.maskBlock))
  split
  exacts [h, h.freshBits.snd]

/-- What `State.nzFrame` may change. -/
def nzFrameScope : Scope := .join [seqDoneScope, nextUnitScope, .of [.TMB_FRAME_TX, .LTX_CLIP, .LTX_PAT_DROP, .CIN_NACK_TX] [.chan, .cin,
    .tlane]]

theorem Evolves.nzFrame {n off : Nat} (h : Evolves K s u) (hK : nzFrameScope.le K = true := by decide +kernel) :
    Evolves K s (u.nzFrame n off) := by
  refine h.widen hK fun h => ?_
  unfold State.nzFrame
  dsimp only
  exact (((((((Evolves.ltxFrame (by split; exacts [h.slewTo, h])).modLtx).oamSelect).frameData).count).sendLevels).modLtx).when fun h₁ =>
      h₁.setFld

theorem Evolves.ieeeData {n : Nat} (h : Evolves K s u) (hK : makeGranuleScope.le K = true := by decide +kernel) :
    Evolves K s (u.ieeeData n).2 := by
  refine h.widen hK fun h => ?_
  unfold State.ieeeData
  dsimp only
  split
  · split
    exacts [h.portToLine, h]
  · exact h.modLtx

/-- What `State.ieeeInterval` may change. -/
def ieeeIntervalScope : Scope := .join [seqDoneScope, .of [.LTX_CLIP, .LTX_PAT_DROP, .HPM_PORT_STATUS, .HPM_IDLE_INS, .HPM_IDLE_DEL]
    [.freeCtr, .hpm]]

theorem Evolves.ieeeInterval {n : Nat} (h : Evolves K s u) (hK : ieeeIntervalScope.le K = true := by decide +kernel) :
    Evolves K s (u.ieeeInterval n) := by
  refine h.widen hK fun h => ?_
  unfold State.ieeeInterval
  exact h.ltxFrame.count.ieeeData.fresh.sendLevels

theorem execFrameStart_answers {n : Lane} {off : Fin 292} (h : Evolves .all s u) : Answers s (execFrameStart n off u) := by
  unfold execFrameStart
  exact Answers.ite (.next h) (Answers.ite (.next (Evolves.ite h.ieeeInterval h)) (.next h.nzFrame))

theorem Evolves.eqpSnap {n : Nat} (h : Evolves K s u)
    (hK : (Scope.of [.EQP_QHIST, .EQP_COEF] [.eqp]).le K = true := by decide +kernel) : Evolves K s (u.eqpSnap n) := by
  refine h.widen hK fun h => ?_
  unfold State.eqpSnap
  exact ((h.each (fun _ h₁ => h₁.setFld)).each (fun _ h₁ => h₁.setFld.setFld)).modEqp

theorem execCounterSnapshot_answers {n : Lane} (h : Evolves .all s u) : Answers s (execCounterSnapshot n u) := by
  unfold execCounterSnapshot
  exact .next ((((Evolves.ite h h.lfecSnap).modLfec).countSat).eqpSnap)

theorem execLfecSnap_answers {p : Path} {n : Lane} (h : Evolves .all s u) : Answers s (execLfecSnap p n u) := by
  unfold execLfecSnap
  exact writeCommand_answers h (fun h₁ => h₁.wrLfecCtrl)

theorem execSnapshotTaken_answers {n : Lane} (h : Evolves .all s u) : Answers s (execSnapshotTaken n u) := by
  unfold execSnapshotTaken
  exact .next (Evolves.ite h.lfecSnap.setFlag h)

theorem execLfecClr_answers {p : Path} {n : Lane} (h : Evolves .all s u) : Answers s (execLfecClr p n u) := by
  unfold execLfecClr
  exact writeCommand_answers h (fun h₁ => h₁.wrLfecCtrl)

theorem execLfecAuditClr_answers {p : Path} {n : Lane} (h : Evolves .all s u) : Answers s (execLfecAuditClr p n u) := by
  unfold execLfecAuditClr
  exact writeCommand_answers h (fun h₁ => h₁.wrLfecCtrl)

theorem execConservationAudit_answers (h : Evolves .all s u) : Answers s (execConservationAudit u) := by
  unfold execConservationAudit
  exact .next (h.each (fun _ h₁ => Evolves.ite h₁ h₁.log.setFlag.alert))

theorem execSdSfWindowEnd_answers {n : Lane} (h : Evolves .all s u) : Answers s (execSdSfWindowEnd n u) := by
  unfold execSdSfWindowEnd
  exact Answers.ite (.next h) (.next ((h.modLfec.setFlag.setFlag.when fun h₁ => h₁.logLfec).when fun h₁ => h₁.shedOnSf))

/-- What `State.laneStatusIn` may change. -/
def laneStatusInScope : Scope := .join [takeSourceScope, shedLaneScope, .of [.LFEC_STATUS, .LFEC_FAR_STATUS] [.lfec]]

theorem Evolves.laneStatusIn {n : Nat} {w : BitVec 44} (h : Evolves K s u)
    (hK : laneStatusInScope.le K = true := by decide +kernel) : Evolves K s (u.laneStatusIn n w) := by
  refine h.widen hK fun h => ?_
  unfold State.laneStatusIn
  exact ((((h.setFld.setFld.setFlag.when fun h₁ => h₁.logLfec).when fun h₁ => h₁.logLfec).modLfec).farNodeSeen).skip fun h₁ =>
      (h₁.modClane.setFlag.when fun h₂ => h₂.shedLane).when fun h₂ => h₂.shedOnSf

theorem execLaneStatusReceived_answers {n : Lane} {payload : BitVec 44} (h : Evolves .all s u) :
    Answers s (execLaneStatusReceived n payload u) := by
  unfold execLaneStatusReceived
  exact .next (Evolves.ite h (h.oamIn (fun h₁ => h₁.laneStatusIn)))

theorem execOamWordDiscarded_answers {n : Lane} {word : OamWord} (h : Evolves .all s u) : Answers s (execOamWordDiscarded n word u) := by
  unfold execOamWordDiscarded
  exact .next (Evolves.ite h (h.oamIn (fun h₁ => Evolves.ite h₁.count (Evolves.ite h₁.count h₁))))

theorem Evolves.setDec {g d st : Nat} (h : Evolves K s u) (hK : (Scope.of [.BST_DEC_STATE] []).le K = true := by decide +kernel) :
    Evolves K s (u.setDec g d st) := by
  refine h.widen hK fun h => ?_
  unfold State.setDec
  exact h.setFld

theorem Evolves.assignDecoders {g : Nat} (h : Evolves K s u)
    (hK : (Scope.of [.BST_DEC_STATE] [.grp]).le K = true := by decide +kernel) : Evolves K s (u.assignDecoders g) := by
  refine h.widen hK fun h => ?_
  unfold State.assignDecoders
  exact ((h.each (fun _ h₁ => h₁.setDec)).each (fun _ h₁ => h₁.setDec)).modGrp

theorem Evolves.spareIn {g : Nat} (h : Evolves K s u) (hK : (Scope.of [.BST_DEC_STATE] [.grp]).le K = true := by decide +kernel) :
    Evolves K s (u.spareIn g) := by
  refine h.widen hK fun h => ?_
  unfold State.spareIn
  dsimp only
  split
  exacts [h.setDec.modGrp.modGrp, h]

theorem execSpareDecoderInService_answers {g : Grp} (h : Evolves .all s u) : Answers s (execSpareDecoderInService g u) := by
  unfold execSpareDecoderInService
  exact .next h.spareIn

theorem Evolves.innerCount {n : Nat} {o : InnerOutcome} {flips : Nat} (h : Evolves K s u)
    (hK : (Scope.of [] [.lfec]).le K = true := by decide +kernel) : Evolves K s (u.innerCount n o flips) := by
  refine h.widen hK fun h => ?_
  unfold State.innerCount
  exact h.lfecCount

theorem Evolves.relayDown {n u₁ : Nat} {bits : List Bool} (h : Evolves K s u)
    (hK : (Scope.of [] [.hsi]).le K = true := by decide +kernel) : Evolves K s (u.relayDown n u₁ bits) := by
  refine h.widen hK fun h => ?_
  unfold State.relayDown
  split
  exacts [Evolves.ite h.modHsi h, h]

theorem Evolves.unitWhole {n u₁ : Nat} {bits : List Bool} (h : Evolves K s u)
    (hK : (Scope.of [] [.lfec, .hsi]).le K = true := by decide +kernel) : Evolves K s (u.unitWhole n u₁ bits) := by
  refine h.widen hK fun h => ?_
  unfold State.unitWhole
  exact Evolves.ite (Evolves.ite h.relayDown h.modLfec) h.modLfec

theorem Evolves.gather {n F i : Nat} {bits : List Bool} (h : Evolves K s u)
    (hK : (Scope.of [] [.lfec, .hsi]).le K = true := by decide +kernel) : Evolves K s (u.gather n F i bits) := by
  refine h.widen hK fun h => ?_
  unfold State.gather
  dsimp only
  split
  exacts [h, Evolves.ite h.modLfec h.modLfec.unitWhole]

theorem execInnerCodewordDecoded_answers {n : Lane} {frame : Option Nat} {idx : Nat} (h : Evolves .all s u) :
    Answers s (execInnerCodewordDecoded n frame idx u) := by
  unfold execInnerCodewordDecoded
  dsimp only
  refine Answers.ite (.next h) ?_
  refine Answers.ite (Answers.ite (.next h) (.next h.fresh.innerCount)) ?_
  split
  · exact .next h
  · refine Answers.ite (.next h) ?_
    refine .next ?_
    exact h.innerCount.modLfec.step fun h₁ => by split; exacts [h₁, h₁.gather]

theorem Evolves.outerCount {n : Nat} {d : Option (List Nat × Nat × Nat)} (h : Evolves K s u)
    (hK : (Scope.of [] [.lfec]).le K = true := by decide +kernel) : Evolves K s (u.outerCount n d) := by
  refine h.widen hK fun h => ?_
  unfold State.outerCount
  exact h.lfecCount

/-- What `State.outerOut` may change. -/
def outerOutScope : Scope := .of [.HPM_PORT_STATUS, .HPM_LINE_ERR, .HPM_IDLE_DEL, .HPM_OVF, .EVL_DROPPED] [.recorder, .lfec, .hsi, .hpm]

theorem Evolves.outerOut {n u₁ : Nat} {ok : Bool} {w : List (BitVec 10)} (h : Evolves K s u)
    (hK : outerOutScope.le K = true := by decide +kernel) : Evolves K s (u.outerOut n u₁ ok w) := by
  refine h.widen hK fun h => ?_
  unfold State.outerOut
  refine Evolves.ite h.modLfec ?_
  refine Evolves.ite ?_ ?_
  · split
    exacts [h.modLfec, h.modLfec.relayDown]
  · refine Evolves.ite ?_ h.portReceive
    split
    exacts [h.portDown, h]

theorem Evolves.outerDecoded {n u₁ : Nat} {w : List (BitVec 10)} (h : Evolves K s u)
    (hK : outerOutScope.le K = true := by decide +kernel) : Evolves K s (u.outerDecoded n u₁ w) := by
  refine h.widen hK fun h => ?_
  unfold State.outerDecoded
  exact h.outerCount.outerOut

theorem execOuterCodewordDecoded_answers {n : Lane} {w : List (BitVec 10)} (h : Evolves .all s u) :
    Answers s (execOuterCodewordDecoded n w u) := by
  unfold execOuterCodewordDecoded
  refine Answers.ite (.next h) ?_
  refine Answers.ite (.next (Evolves.ite h.outerDecoded h)) ?_
  split
  exacts [.next h, .next h.modLfec.outerDecoded]

theorem Evolves.frameQueued {n : Nat} {F : Option Nat} {soft : List (Bool × Nat)} (h : Evolves K s u)
    (hK : (Scope.of [] [.lfec]).le K = true := by decide +kernel) : Evolves K s (u.frameQueued n F soft) := by
  refine h.widen hK fun h => ?_
  unfold State.frameQueued
  exact Evolves.ite h.modLfec h.modLfec

end Sys2Proof.Machine
end

section
/-! SUPPORT. What the line receivers leave: `Evolves`, for each operation and command. -/
namespace Sys2Proof.Machine
open Sys2Proof
set_option Elab.async false
variable {K : Scope} {s u t₀ : State}

theorem Evolves.noteGain {n : Nat} (h : Evolves K s u) (hK : (Scope.of [] [.lrx]).le K = true := by decide +kernel) :
    Evolves K s (u.noteGain n) := by
  refine h.widen hK fun h => ?_
  unfold State.noteGain
  exact h.modLrx

theorem Evolves.setVga {n v₁ : Nat} (h : Evolves K s u) (hK : (Scope.of [.LRX_AGC] [.lrx]).le K = true := by decide +kernel) :
    Evolves K s (u.setVga n v₁) := by
  refine h.widen hK fun h => ?_
  unfold State.setVga
  exact h.setFld.noteGain

theorem Evolves.tiaWrite {n i : Nat} (h : Evolves K s u) (hK : (Scope.of [] [.grp]).le K = true := by decide +kernel) :
    Evolves K s (u.tiaWrite n i) := by
  refine h.widen hK fun h => ?_
  unfold State.tiaWrite
  exact Evolves.ite h h.modPort

theorem Evolves.applyStaged {n : Nat} (h : Evolves K s u)
    (hK : (Scope.of [.EQP_POST, .EQP_TARGET, .EVL_DROPPED] [.recorder, .eqp]).le K = true := by decide +kernel) :
    Evolves K s (u.applyStaged n) := by
  refine h.widen hK fun h => ?_
  unfold State.applyStaged
  dsimp only
  split
  exacts [h, h.modEqp.cond (fun h₁ => h₁.modCoefs.modEqp) (fun h₁ => h₁.regReject)]

theorem Evolves.softQ {n : Nat} {soft : List SoftBit} (h : Evolves K s u)
    (hK : (Scope.of [] [.freeCtr]).le K = true := by decide +kernel) : Evolves K s (u.softQ n soft).2 := by
  refine h.widen hK fun h => ?_
  unfold State.softQ
  exact .iteSnd (h.take (k := soft.length / 128 + 1)) h

theorem Evolves.tallyQ {n : Nat} {soft : List (Bool × Nat)} (h : Evolves K s u)
    (hK : (Scope.of [] [.eqp]).le K = true := by decide +kernel) : Evolves K s (u.tallyQ n soft) := by
  refine h.widen hK fun h => ?_
  unfold State.tallyQ
  exact h.modEqp

theorem Evolves.measure {n : Nat} {o : RxObs} (h : Evolves K s u)
    (hK : (Scope.of [.EQP_POST, .EQP_TARGET] [.eqp]).le K = true := by decide +kernel) : Evolves K s (u.measure n o).2 := by
  refine h.widen hK fun h => ?_
  unfold State.measure
  dsimp only
  split
  · exact h
  · split
    exacts [h.modCoefs.modEqp, h]

theorem Evolves.adaptEnd {n : Nat} {o : RxObs} (h : Evolves K s u)
    (hK : (Scope.of [.EQP_STATUS, .EQP_POST, .EQP_TARGET, .EVL_DROPPED] [.recorder, .eqp]).le K = true := by decide +kernel) :
    Evolves K s (u.adaptEnd n o) := by
  refine h.widen hK fun h => ?_
  unfold State.adaptEnd
  exact h.applyStaged.modEqp.showFreeze.when fun h₁ => h₁.setFld

theorem Evolves.checkFrame {n : Fin 16} {o : RxObs} (h : Evolves K s u) (hK : chkFeedScope.le K = true := by decide +kernel) :
    Evolves K s (u.checkFrame n o) := by
  refine h.widen hK fun h => ?_
  unfold State.checkFrame
  exact Evolves.ite h h.chkFeed

theorem Evolves.startCoefs {n : Nat} {cold : Bool} (h : Evolves K s u)
    (hK : (Scope.of [.EQP_POST, .EQP_TARGET] [.eqp]).le K = true := by decide +kernel) : Evolves K s (u.startCoefs n cold) := by
  refine h.widen hK fun h => ?_
  unfold State.startCoefs
  exact Evolves.ite h.modCoefs h.modCoefs

/-- What `State.goLrx` may change. -/
def goLrxScope : Scope := .join [finishOpScope, .of [.LRX_STATUS, .BST_DEC_STATE, .BST_IS_ABORT] []]

theorem Evolves.goLrx {n st : Nat} (h : Evolves K s u) (hK : goLrxScope.le K = true := by decide +kernel) :
    Evolves K s (u.goLrx n st) := by
  refine h.widen hK fun h => ?_
  unfold State.goLrx
  exact (((((h.setFld.cond (fun h₁ => h₁.setFlag) (fun h₁ => Evolves.ite h₁.setFlag h₁)).when fun h₁ =>
      h₁.modLrx).modLrx).setFld).when fun h₁ => h₁.modEqp.showFreeze).when fun h₁ => ((Evolves.ite h₁.poolColdTrain h₁).startCoefs).modEqp

theorem Evolves.clearPhase {n : Nat} (h : Evolves K s u)
    (hK : (Scope.of [.LRX_STATUS, .LFEC_STATUS] [.lrx]).le K = true := by decide +kernel) : Evolves K s (u.clearPhase n) := by
  refine h.widen hK fun h => ?_
  unfold State.clearPhase
  exact h.setFlag.setFlag.modLrx

theorem Evolves.lossCause {n cause : Nat} (h : Evolves K s u) (hK : (Scope.of [.LRX_STATUS] []).le K = true := by decide +kernel) :
    Evolves K s (u.lossCause n cause) := by
  refine h.widen hK fun h => ?_
  unfold State.lossCause
  exact h.setFld

theorem Evolves.tunLaneDown {n : Nat} (h : Evolves K s u) (hK : (Scope.of [] [.mgt]).le K = true := by decide +kernel) :
    Evolves K s (u.tunLaneDown n) := by
  refine h.widen hK fun h => ?_
  unfold State.tunLaneDown
  exact h.same

/-- What `State.leaveLocked` may change. -/
def leaveLockedScope : Scope := .join [cinLeftLockedScope, abandonOpScope, .of [.LRX_STATUS, .LRX_SNR, .LRX_LOL, .HPM_PORT_STATUS] [.lfec,
    .eqp, .mgt]]

theorem Evolves.leaveLocked {n cause : Nat} (h : Evolves K s u) (hK : leaveLockedScope.le K = true := by decide +kernel) :
    Evolves K s (u.leaveLocked n cause) := by
  refine h.widen hK fun h => ?_
  unfold State.leaveLocked
  refine Evolves.ite h ?_
  exact
      h.lossCause.count.log.modLrx.modEqp.setFld.modLfec.setFld.poolLeftLocked.cinLeftLocked.timeLaneDown.hostRelayStop.tunLaneDown.showPorts

theorem Evolves.calAborted {n : Nat} (h : Evolves K s u) (hK : calRunScope.le K = true := by decide +kernel) :
    Evolves K s (u.calAborted n) := by
  refine h.widen hK fun h => ?_
  unfold State.calAborted
  exact Evolves.ite h.calRun h

/-- What `State.losMoves` may change. -/
def losMovesScope : Scope := .join [leaveLockedScope, goLrxScope]

theorem Evolves.losMoves {n : Nat} (h : Evolves K s u) (hK : losMovesScope.le K = true := by decide +kernel) :
    Evolves K s (u.losMoves n) := by
  refine h.widen hK fun h => ?_
  unfold State.losMoves
  exact Evolves.ite h h.leaveLocked.setFlag.goLrx

/-- What `State.startCold` may change. -/
def startColdScope : Scope := .join [losMovesScope, .of [.LRX_ACQ_COLD, .LFEC_STATUS] []]

theorem Evolves.startCold {n : Nat} (h : Evolves K s u) (hK : startColdScope.le K = true := by decide +kernel) :
    Evolves K s (u.startCold n) := by
  refine h.widen hK fun h => ?_
  unfold State.startCold
  exact h.clearPhase.count.modLrx.setFlag.goLrx.when fun h₁ => h₁.losMoves

theorem Evolves.startRecovery {n : Nat} (h : Evolves K s u) (hK : goLrxScope.le K = true := by decide +kernel) :
    Evolves K s (u.startRecovery n) := by
  refine h.widen hK fun h => ?_
  unfold State.startRecovery
  exact h.modLrx.setFlag.goLrx

theorem Evolves.showRestarts {n : Nat} (h : Evolves K s u) (hK : (Scope.of [.LRX_STATUS] [.lrx]).le K = true := by decide +kernel) :
    Evolves K s (u.showRestarts n) := by
  refine h.widen hK fun h => ?_
  unfold State.showRestarts
  exact h.modLrx.setFld

/-- What `State.failLrx` may change. -/
def failLrxScope : Scope := .join [goLrxScope, shedLaneScope, .of [.GLB_STATE, .LRX_FAIL, .MGT_ALERT_STATUS] [.risen, .mgt]]

theorem Evolves.failLrx {n cause : Nat} (h : Evolves K s u) (hK : failLrxScope.le K = true := by decide +kernel) :
    Evolves K s (u.failLrx n cause) := by
  refine h.widen hK fun h => ?_
  unfold State.failLrx
  exact h.setFlag.goLrx.count.showRestarts.log.alert.shedLane

/-- What `State.restart` may change. -/
def restartScope : Scope := .join [failLrxScope, .of [.LRX_RESTART] []]

theorem Evolves.restart {n : Nat} (h : Evolves K s u) (hK : restartScope.le K = true := by decide +kernel) :
    Evolves K s (u.restart n) := by
  refine h.widen hK fun h => ?_
  unfold State.restart
  exact h.count.modLrx.showRestarts.cond (fun h₁ => h₁.failLrx) (fun h₁ => h₁.goLrx)

theorem Evolves.stageFails {n : Nat} {cold : State → State} (h : Evolves K s u) (hcold : ∀ {v}, Evolves K s v → Evolves K s (cold v))
    (hK : restartScope.le K = true := by decide +kernel) : Evolves K s (u.stageFails n cold) := by
  unfold State.stageFails
  exact .ite (h.restart hK) (hcold h)

theorem Evolves.missed {n : Nat} {counter : Field} (h : Evolves K s u) (hr : K.hasReg counter.reg = true := by decide +kernel)
    (hK : (Scope.join [restartScope, .of [.LRX_STATUS, .LFEC_STATUS] [.lrx, .lfec]]).le K = true := by decide +kernel) :
    Evolves K s (u.missed n counter) := by
  unfold State.missed
  exact (h.count hr).widen hK fun h => h.stageFails fun h₁ => h₁.clearPhase.goLrx

theorem Evolves.loseLock {n cause : Nat} (h : Evolves K s u) (hK : losMovesScope.le K = true := by decide +kernel) :
    Evolves K s (u.loseLock n cause) := by
  refine h.widen hK fun h => ?_
  unfold State.loseLock
  exact Evolves.ite h.leaveLocked.startRecovery h

/-- What `State.checkDecoders` may change. -/
def checkDecodersScope : Scope := .join [leaveLockedScope, failLrxScope]

theorem Evolves.checkDecoders {n : Nat} (h : Evolves K s u) (hK : checkDecodersScope.le K = true := by decide +kernel) :
    Evolves K s (u.checkDecoders n) := by
  refine h.widen hK fun h => ?_
  unfold State.checkDecoders
  exact Evolves.ite h.leaveLocked.failLrx h

theorem Evolves.rxPower {n : Nat} (h : Evolves K s u) (hK : (Scope.of [] [.freeCtr]).le K = true := by decide +kernel) :
    Evolves K s (u.rxPower n).2.2 := by
  refine h.widen hK fun h => ?_
  unfold State.rxPower
  dsimp only
  split
  · exact h
  · split
    · exact h
    · split
      exacts [h, h.fresh]

/-- What `State.enterLocked` may change. -/
def enterLockedScope : Scope := .join [checkDecodersScope, .of [.LRX_AGC, .LRX_TR, .LRX_LOCK_SNAP, .LRX_ACQ_LOCK, .LFEC_STATUS,
    .CIN_LANE_EPOCH] [.freeCtr]]

theorem Evolves.enterLocked {n corr snr : Nat} (h : Evolves K s u) (hK : enterLockedScope.le K = true := by decide +kernel) :
    Evolves K s (u.enterLocked n corr snr) := by
  refine h.widen hK fun h => ?_
  unfold State.enterLocked
  dsimp only
  exact (((((h.count.modLrx.rxPower.setFld.setFld.setFld.setFld.setFld.setFld.setFld.setFld.setFld.setFld.setFld.setFld.setFld.log.skip
      fun h₁ => (by split; exacts [h₁.setFlag.setFlag.setFld.modLrx, h₁.clearPhase])).setFlag).goLrx).cinLocked).showPorts).checkDecoders

/-- What `State.mfError` may change. -/
def mfErrorScope : Scope := .of [.LRX_STATUS, .LFEC_STATUS, .HPM_PORT_STATUS, .EVL_DROPPED] [.recorder, .lrx, .hsi]

theorem Evolves.mfError {n : Nat} (h : Evolves K s u) (hK : mfErrorScope.le K = true := by decide +kernel) :
    Evolves K s (u.mfError n) := by
  refine h.widen hK fun h => ?_
  unfold State.mfError
  exact h.countSat.clearPhase.hostRelayStop.showPorts.modLrx

theorem Evolves.phaseFrame {n : Nat} {neg : Bool} (h : Evolves K s u) (hK : mfErrorScope.le K = true := by decide +kernel) :
    Evolves K s (u.phaseFrame n neg) := by
  refine h.widen hK fun h => ?_
  unfold State.phaseFrame
  exact h.modLrx.cond (fun h₁ => Evolves.ite h₁.setFlag.modLrx h₁) (fun h₁ =>
      h₁.modLrx.cond
      (fun h₂ => Evolves.ite h₂.setFld h₂) (fun h₂ => Evolves.ite (Evolves.ite h₂.setFlag.setFld.modLrx.showPorts h₂.mfError) h₂))

theorem Evolves.predictFrame {n gap : Nat} {neg check : Bool} (h : Evolves K s u)
    (hK : (Scope.of [] [.lrx]).le K = true := by decide +kernel) : Evolves K s (u.predictFrame n gap neg check) := by
  refine h.widen hK fun h => ?_
  unfold State.predictFrame
  dsimp only
  split
  exacts [h, h.modLrx]

theorem Evolves.judgeSkew {n : Nat} (h : Evolves K s u)
    (hK : (Scope.of [.HPM_PORT_STATUS, .EVL_DROPPED] [.recorder, .hpm]).le K = true := by decide +kernel) :
    Evolves K s (u.judgeSkew n) := by
  refine h.widen hK fun h => ?_
  unfold State.judgeSkew
  exact h.each (fun _ h₁ => Evolves.ite h₁ h₁.modHpm.showPort)

/-- What `State.searchFrame` may change. -/
def searchFrameScope : Scope := .join [goLrxScope, .of [.LFEC_STATUS, .HPM_PORT_STATUS] [.hsi]]

theorem Evolves.searchFrame {n : Nat} {m : FrameMeas} {delta : ℤ} (h : Evolves K s u)
    (hK : searchFrameScope.le K = true := by decide +kernel) : Evolves K s (u.searchFrame n m delta) := by
  refine h.widen hK fun h => ?_
  unfold State.searchFrame
  exact Evolves.ite (h.goLrx.modLrx.predictFrame.skip fun h₁ => h₁.phaseFrame) h

/-- What `State.candidateFrame` may change. -/
def candidateFrameScope : Scope := .join [restartScope, .of [.LRX_CAND_MISS, .LFEC_STATUS] [.lfec]]

theorem Evolves.candidateFrame {n : Nat} {m : FrameMeas} {delta : ℤ} (h : Evolves K s u)
    (hK : candidateFrameScope.le K = true := by decide +kernel) : Evolves K s (u.candidateFrame n m delta) := by
  refine h.widen hK fun h => ?_
  unfold State.candidateFrame
  exact Evolves.ite (h.modLrx.when fun h₁ => h₁.goLrx) h.missed

theorem Evolves.trainFrame {n : Nat} {m : FrameMeas} (h : Evolves K s u)
    (hK : candidateFrameScope.le K = true := by decide +kernel) : Evolves K s (u.trainFrame n m) := by
  refine h.widen hK fun h => ?_
  unfold State.trainFrame
  exact Evolves.ite h.missed (Evolves.ite (Evolves.ite h.goLrx h.modLrx) h.modLrx)

/-- What `State.verifyFrame` may change. -/
def verifyFrameScope : Scope := .join [enterLockedScope, .of [.LRX_FALSE_CAND, .LRX_RESTART] []]

theorem Evolves.verifyFrame {n : Nat} {m : FrameMeas} (h : Evolves K s u) (hK : verifyFrameScope.le K = true := by decide +kernel) :
    Evolves K s (u.verifyFrame n m) := by
  refine h.widen hK fun h => ?_
  unfold State.verifyFrame
  exact Evolves.ite h.missed (h.modLrx.when fun h₁ => h₁.enterLocked)

theorem Evolves.snrFrame {n snr : Nat} (h : Evolves K s u) (hK : (Scope.of [.LRX_SNR] [.lrx]).le K = true := by decide +kernel) :
    Evolves K s (u.snrFrame n snr) := by
  refine h.widen hK fun h => ?_
  unfold State.snrFrame
  exact Evolves.ite h.setFld.modLrx h.modLrx

theorem Evolves.softOut {n : Nat} {F : Option Nat} {m : FrameMeas} (h : Evolves K s u)
    (hK : (Scope.of [] [.freeCtr, .lfec, .eqp]).le K = true := by decide +kernel) : Evolves K s (u.softOut n F m) := by
  refine h.widen hK fun h => ?_
  unfold State.softOut
  exact h.softQ.tallyQ.skip fun h₁ => h₁.frameQueued

/-- What `State.lockedPhase` may change. -/
def lockedPhaseScope : Scope := .of [.TMB_FRAME_RX, .LRX_STATUS, .LFEC_STATUS, .HPM_PORT_STATUS, .EVL_DROPPED] [.freeCtr, .recorder,
    .lfec, .lrx, .eqp, .hsi, .hpm]

theorem Evolves.lockedPhase {n : Nat} {m : FrameMeas} {start gap ps : Nat} (h : Evolves K s u)
    (hK : lockedPhaseScope.le K = true := by decide +kernel) : Evolves K s (u.lockedPhase n m start gap ps) := by
  refine h.widen hK fun h => ?_
  unfold State.lockedPhase
  exact ((((h.phaseFrame.when fun h₁ => h₁.setFld).skip fun h₁ => h₁.modLfec).softOut).modLfec).judgeSkew

theorem Evolves.lockedExit {n : Nat} {m : FrameMeas} {delta : ℤ} (h : Evolves K s u)
    (hK : losMovesScope.le K = true := by decide +kernel) : Evolves K s (u.lockedExit n m delta) := by
  refine h.widen hK fun h => ?_
  unfold State.lockedExit
  exact h.modLrx.cond (fun h₁ => h₁.loseLock) (fun h₁ => Evolves.ite h₁.loseLock (Evolves.ite h₁.loseLock h₁))

theorem Evolves.setFreq {n : Nat} {freq : ℤ} (h : Evolves K s u)
    (hK : (Scope.of [.LRX_TR] [.lrx]).le K = true := by decide +kernel) : Evolves K s (u.setFreq n freq) := by
  refine h.widen hK fun h => ?_
  unfold State.setFreq
  exact h.setFld.modLrx

theorem Evolves.timingFrame {n : Nat} {o : RxObs} (h : Evolves K s u)
    (hK : (Scope.of [.LRX_TR] [.lrx]).le K = true := by decide +kernel) : Evolves K s (u.timingFrame n o) := by
  refine h.widen hK fun h => ?_
  unfold State.timingFrame
  exact Evolves.ite h h.modLrx.setFld.setFld

/-- What `State.rxFrame` may change. -/
def rxFrameScope : Scope := .join [verifyFrameScope, chkFeedScope, .of [.TMB_FRAME_RX, .LRX_CAND_MISS, .LRX_CLIP] [.hpm]]

theorem Evolves.rxFrame {n : Fin 16} {o : RxObs} (h : Evolves K s u) (hK : rxFrameScope.le K = true := by decide +kernel) :
    Evolves K s (u.rxFrame n o) := by
  refine h.widen hK fun h => ?_
  unfold State.rxFrame
  refine Evolves.ite h ?_
  exact ((h.count.modLrx.timingFrame.modLrx.measure.checkFrame.adaptEnd.skip fun h₁ => h₁.predictFrame.when fun h₂ =>
      h₂.phaseFrame).skip fun h₁ => Evolves.ite h₁.snrFrame.softOut h₁.snrFrame.lockedPhase).skip fun h₁ =>
      Evolves.ite h₁.searchFrame (Evolves.ite h₁.candidateFrame (Evolves.ite h₁.trainFrame
      (Evolves.ite h₁.verifyFrame (Evolves.ite h₁.lockedExit h₁))))

theorem Evolves.agcRange {n : Nat} {up : Bool} (h : Evolves K s u) (hK : startColdScope.le K = true := by decide +kernel) :
    Evolves K s (u.agcRange n up) := by
  refine h.widen hK fun h => ?_
  unfold State.agcRange
  exact Evolves.ite h.log.startCold (Evolves.ite h (Evolves.ite (Evolves.ite h.tiaWrite h) (Evolves.ite h h.tiaWrite)))

/-- What `State.fastAgc` may change. -/
def fastAgcScope : Scope := .join [startColdScope, .of [.LRX_AGC] []]

theorem Evolves.fastAgc {n rms : Nat} (h : Evolves K s u) (hK : fastAgcScope.le K = true := by decide +kernel) :
    Evolves K s (u.fastAgc n rms) := by
  refine h.widen hK fun h => ?_
  unfold State.fastAgc
  exact Evolves.ite h (h.setFld.cond (fun h₁ => h₁.agcRange) (fun h₁ => h₁.setVga))

theorem Evolves.slowAgc {n rms : Nat} (h : Evolves K s u)
    (hK : (Scope.of [.LRX_AGC, .EQP_STATUS] [.lrx, .eqp]).le K = true := by decide +kernel) : Evolves K s (u.slowAgc n rms) := by
  refine h.widen hK fun h => ?_
  unfold State.slowAgc
  refine Evolves.ite h ?_
  refine Evolves.ite h.modLrx ?_
  exact h.setFld.cond (fun h₁ => h₁.setVga.setFld.modEqp.showFreeze) (fun h₁ => Evolves.ite h₁.setVga.setFld.modEqp.showFreeze h₁)

/-- What `State.powerStep` may change. -/
def powerStepScope : Scope := .join [startColdScope, restartScope, .of [.LRX_PSTEP_PRE, .LRX_PSTEP_LOCK] []]

theorem Evolves.powerStep {n : Nat} {size : ℤ} {sources : Nat} (h : Evolves K s u)
    (hK : powerStepScope.le K = true := by decide +kernel) : Evolves K s (u.powerStep n size sources) := by
  refine h.widen hK fun h => ?_
  unfold State.powerStep
  exact Evolves.ite h (Evolves.ite h.count.log.loseLock (Evolves.ite h.count.restart (h.count.skip fun h₁ => h₁.startCold)))

theorem Evolves.annotateStep {n : Nat} (h : Evolves K s u) (hK : storeWriteScope.le K = true := by decide +kernel) :
    Evolves K s (u.annotateStep n) := by
  refine h.widen hK fun h => ?_
  unfold State.annotateStep
  dsimp only
  refine .ite (h.setRecorder fun hq => ?_) ?_
  · simpa only [List.length_map, List.length_zipIdx] using hq
  · split
    exacts [h.storeWrite, h]

/-- What `State.tussockStep` may change. -/
def tussockStepScope : Scope := .join [powerStepScope, storeWriteScope]

theorem Evolves.tussockStep {n : Nat} {size : ℤ} (h : Evolves K s u) (hK : tussockStepScope.le K = true := by decide +kernel) :
    Evolves K s (u.tussockStep n size) := by
  refine h.widen hK fun h => ?_
  unfold State.tussockStep
  split
  exacts [Evolves.ite (Evolves.ite h.annotateStep h) h.powerStep, h.powerStep]

theorem Evolves.updateLos {n : Nat} (h : Evolves K s u) (hK : startColdScope.le K = true := by decide +kernel) :
    Evolves K s (u.updateLos n) := by
  refine h.widen hK fun h => ?_
  unfold State.updateLos
  exact h.setFlag.cond (fun h₁ => h₁.losMoves) (fun h₁ => Evolves.ite h₁.startCold h₁)

theorem Evolves.setLos {n : Nat} {src : LosSource} {on : Bool} (h : Evolves K s u)
    (hK : startColdScope.le K = true := by decide +kernel) : Evolves K s (u.setLos n src on) := by
  refine h.widen hK fun h => ?_
  unfold State.setLos
  exact h.modLrx.updateLos

/-- What `State.executeLrx` may change. -/
def executeLrxScope : Scope := .join [goLrxScope, .of [.LRX_AGC, .CIN_CH_STATUS, .CIN_LANE_STATUS] [.chan, .clane, .cin]]

theorem Evolves.executeLrx {n : Nat} (h : Evolves K s u) (hK : executeLrxScope.le K = true := by decide +kernel) :
    Evolves K s (u.executeLrx n) := by
  refine h.widen hK fun h => ?_
  unfold State.executeLrx
  exact h.setFld.setFlag.setFld.modLrx.setFld.noteGain.tiaWrite.beginShed.setFlag.goLrx

theorem Evolves.enableLrx {n : Nat} (h : Evolves K s u) (hK : executeLrxScope.le K = true := by decide +kernel) :
    Evolves K s (u.enableLrx n) := by
  refine h.widen hK fun h => ?_
  unfold State.enableLrx
  exact Evolves.ite h (Evolves.ite h.executeLrx h.setFlag.modLrx)

/-- What `State.endLrx` may change. -/
def endLrxScope : Scope := .join [leaveLockedScope, goLrxScope, calRunScope, .of [.LFEC_STATUS] []]

theorem Evolves.endLrx {n cause : Nat} (h : Evolves K s u) (hK : endLrxScope.le K = true := by decide +kernel) :
    Evolves K s (u.endLrx n cause) := by
  refine h.widen hK fun h => ?_
  unfold State.endLrx
  exact h.setFlag.skip fun h₁ => h₁.calAborted.leaveLocked.lossCause.modPort.clearPhase.setFlag.goLrx

theorem Evolves.lrxClockLost {n : Nat} (h : Evolves K s u) (hK : endLrxScope.le K = true := by decide +kernel) :
    Evolves K s (u.lrxClockLost n) := by
  refine h.widen hK fun h => ?_
  unfold State.lrxClockLost
  exact Evolves.ite h h.endLrx.setFlag.modLrx

theorem Evolves.lrxClockBack {n : Nat} (h : Evolves K s u) (hK : executeLrxScope.le K = true := by decide +kernel) :
    Evolves K s (u.lrxClockBack n) := by
  refine h.widen hK fun h => ?_
  unfold State.lrxClockBack
  exact Evolves.ite h (Evolves.ite h.setFlag.modLrx.goLrx h.executeLrx)

theorem Evolves.lrxPendingOver {n : Nat} (h : Evolves K s u)
    (hK : (Scope.of [.LRX_CTRL, .LRX_STATUS, .EVL_DROPPED] [.recorder]).le K = true := by decide +kernel) :
    Evolves K s (u.lrxPendingOver n) := by
  refine h.widen hK fun h => ?_
  unfold State.lrxPendingOver
  exact Evolves.ite h.setFlag.setFlag.setFld.log h

/-- What `State.fcal` may change. -/
def fcalScope : Scope := .join [leaveLockedScope, goLrxScope, calRunScope]

theorem Evolves.fcal {n : Nat} (h : Evolves K s u) (hK : fcalScope.le K = true := by decide +kernel) : Evolves K s (u.fcal n) := by
  refine h.widen hK fun h => ?_
  unfold State.fcal
  exact Evolves.ite h h.calAborted.leaveLocked.setFlag.goLrx

/-- What `State.coldNow` may change. -/
def coldNowScope : Scope := .join [startColdScope, calRunScope]

theorem Evolves.coldNow {n : Nat} (h : Evolves K s u) (hK : coldNowScope.le K = true := by decide +kernel) :
    Evolves K s (u.coldNow n) := by
  refine h.widen hK fun h => ?_
  unfold State.coldNow
  exact Evolves.ite h h.calAborted.leaveLocked.startCold

/-- What `wrLrxCtrl` may change. -/
def wrLrxCtrlScope : Scope := .join [coldNowScope, .of [.LRX_CTRL, .LRX_AGC] []]

theorem Evolves.wrLrxCtrl {p : Path} {n v₁ : Nat} (h : Evolves K s u) (hK : wrLrxCtrlScope.le K = true := by decide +kernel) :
    Evolves K s (wrLrxCtrl p n v₁ u).1 := by
  refine h.widen hK fun h => ?_
  unfold Machine.wrLrxCtrl
  exact (((h.plainWrite.updateLos.when fun h₁ => h₁.regReject).cond (fun h₁ => h₁.enableLrx) (fun h₁ =>
      Evolves.ite h₁.endLrx h₁)).when fun h₁ => h₁.coldNow).when fun h₁ => h₁.fcal

theorem Evolves.wrLrxAcqCfg {p : Path} {n v₁ : Nat} (h : Evolves K s u)
    (hK : (Scope.of [.LRX_ACQ_CFG, .EVL_DROPPED] [.recorder]).le K = true := by decide +kernel) :
    Evolves K s (wrLrxAcqCfg p n v₁ u).1 := by
  refine h.widen hK fun h => ?_
  unfold Machine.wrLrxAcqCfg
  dsimp only
  split
  exacts [h.rejectWrite, h.plainWrite]

theorem Evolves.wrLrxTiaCfg {p : Path} {g v₁ : Nat} (h : Evolves K s u)
    (hK : (Scope.of [.LRX_TIA_CFG, .LTX_DRV_CFG, .EVL_DROPPED] [.recorder, .grp]).le K = true := by decide +kernel) :
    Evolves K s (wrLrxTiaCfg p g v₁ u).1 := by
  refine h.widen hK fun h => ?_
  unfold Machine.wrLrxTiaCfg
  exact h.wrPortCfg

theorem Evolves.wrLrxTiaCmd {g v₁ : Nat} (h : Evolves K s u)
    (hK : (Scope.of [.LRX_TIA_CFG, .LRX_TIA_CMD, .LRX_TIA_STATUS, .LTX_DRV_CFG, .LTX_DRV_STATUS] [.grp]).le K = true := by decide +kernel) :
    Evolves K s (wrLrxTiaCmd g v₁ u).1 := by
  refine h.widen hK fun h => ?_
  unfold Machine.wrLrxTiaCmd
  dsimp only
  split
  · exact h
  · exact (h.plainWrite (r := .LRX_TIA_CMD)).step fun h₁ => by split; exacts [h₁, h₁.portGo]

theorem execLrxEnable_answers {p : Path} {n : Lane} (h : Evolves .all s u) : Answers s (execLrxEnable p n u) := by
  unfold execLrxEnable
  exact writeCommand_answers h (fun h₁ => h₁.wrLrxCtrl)

theorem execLrxDisable_answers {p : Path} {n : Lane} (h : Evolves .all s u) : Answers s (execLrxDisable p n u) := by
  unfold execLrxDisable
  exact writeCommand_answers h (fun h₁ => h₁.wrLrxCtrl)

theorem execLrxFcal_answers {p : Path} {n : Lane} (h : Evolves .all s u) : Answers s (execLrxFcal p n u) := by
  unfold execLrxFcal
  exact writeCommand_answers h (fun h₁ => h₁.wrLrxCtrl)

theorem execLrxCold_answers {p : Path} {n : Lane} (h : Evolves .all s u) : Answers s (execLrxCold p n u) := by
  unfold execLrxCold
  exact writeCommand_answers h (fun h₁ => h₁.wrLrxCtrl)

theorem execForegroundCalibrationDone_answers {n : Lane} {cal : FcalReport} (h : Evolves .all s u) :
    Answers s (execForegroundCalibrationDone n cal u) := by
  unfold execForegroundCalibrationDone
  exact Answers.ite (.next h) (.next (h.modLrx.calRun.cond (fun h₁ => h₁.goLrx) (fun h₁ => h₁.startCold)))

theorem execBackgroundCalibrationUpdate_answers {n : Lane} {sub : Fin 64} {offset gain skew : ℤ} (h : Evolves .all s u) :
    Answers s (execBackgroundCalibrationUpdate n sub offset gain skew u) := by
  unfold execBackgroundCalibrationUpdate
  exact Answers.ite (.next h) (.next h.modLrx)

theorem execFastAgcUpdate_answers {n : Lane} {rms : BitVec 8} (h : Evolves .all s u) : Answers s (execFastAgcUpdate n rms u) := by
  unfold execFastAgcUpdate
  exact .next h.fastAgc

theorem execAgcSettled_answers {n : Lane} (h : Evolves .all s u) : Answers s (execAgcSettled n u) := by
  unfold execAgcSettled
  exact .next (Evolves.ite h (Evolves.ite h.goLrx h.goLrx))

theorem execSlowAgcStep_answers {n : Lane} {rms : BitVec 8} (h : Evolves .all s u) : Answers s (execSlowAgcStep n rms u) := by
  unfold execSlowAgcStep
  exact .next h.slowAgc

theorem execTimingSettled_answers {n : Lane} {freq : BitVec 16} (h : Evolves .all s u) : Answers s (execTimingSettled n freq u) := by
  unfold execTimingSettled
  exact .next (Evolves.ite h.setFreq.goLrx h)

theorem execFrequencyOutOfRange_answers {n : Lane} {freq : BitVec 16} (h : Evolves .all s u) :
    Answers s (execFrequencyOutOfRange n freq u) := by
  unfold execFrequencyOutOfRange
  exact .next (Evolves.ite h.setFreq.leaveLocked.lossCause.startCold h)

theorem execRxFrameBoundary_answers {n : Lane} {obs : RxObs} (h : Evolves .all s u) : Answers s (execRxFrameBoundary n obs u) := by
  unfold execRxFrameBoundary
  exact .next (.ite h.rxFrame.capturedAt h.rxFrame)

theorem execAcqStageTimeout_answers {n : Lane} (h : Evolves .all s u) : Answers s (execAcqStageTimeout n u) := by
  unfold execAcqStageTimeout
  refine Answers.ite (.next h) ?_
  refine Answers.ite (.next h.count.fresh.calRun.lossCause.failLrx) ?_
  refine Answers.ite (.next (h.count.stageFails (fun h₁ => h₁.startCold))) ?_
  refine Answers.ite (.next h.count.startCold) ?_
  exact Answers.ite (.next ((h.count.skip fun h₁ => h₁.count).stageFails (fun h₁ => h₁.startCold))) (.next h)

theorem execPowerStep_answers {n : Lane} {ms : List Nat} (h : Evolves .all s u) : Answers s (execPowerStep n ms u) := by
  unfold execPowerStep
  dsimp only
  refine Answers.ite (.next h) ?_
  split
  exacts [.next h, .next (h.modLrx.skip fun h₁ => h₁.powerStep)]

theorem execLosAssert_answers {n : Lane} {src : LosReport} (h : Evolves .all s u) : Answers s (execLosAssert n src u) := by
  unfold execLosAssert
  refine .next ?_
  split
  exacts [h.setLos, Evolves.ite h.setLos h]

theorem execLosClear_answers {n : Lane} {src : LosReport} (h : Evolves .all s u) : Answers s (execLosClear n src u) := by
  unfold execLosClear
  refine .next ?_
  split
  exacts [h.setLos, Evolves.ite h.setLos h]

theorem execAutoRetry_answers {n : Lane} (h : Evolves .all s u) : Answers s (execAutoRetry n u) := by
  unfold execAutoRetry
  exact .next (Evolves.ite h.startCold h)

theorem execTiaGo_answers {p : Path} {g : Grp} {rd : Bool} {l : Fin 2} {reg value : Byte} (h : Evolves .all s u) :
    Answers s (execTiaGo p g rd l reg value u) := by
  unfold execTiaGo
  exact writeCommand_answers h (fun h₁ => h₁.wrLrxTiaCmd)

/-- What `State.tiaHwDone` may change. -/
def tiaHwDoneScope : Scope := .join [goLrxScope, .of [.LRX_AGC, .LRX_TIMEOUT, .LRX_TIA_CFG, .LTX_DRV_CFG] [.freeCtr]]

theorem Evolves.tiaHwDone {g : Nat} {ok : Bool} (h : Evolves K s u) (hK : tiaHwDoneScope.le K = true := by decide +kernel) :
    Evolves K s (u.tiaHwDone g ok) := by
  refine h.widen hK fun h => ?_
  unfold State.tiaHwDone
  dsimp only
  split
  · exact h
  · refine Evolves.ite h.portSpoke.modPort ?_
    exact (Evolves.ite h.portSpoke.modPort.modGrp.setFld.noteGain.modLrx (h.portSpoke.modPort.fresh.count.log.when fun h₁ =>
        h₁.goLrx)).portNext

theorem execTiaTransactionDone_answers {g : Grp} {ack : Bool} {rdata : Byte} (h : Evolves .all s u) :
    Answers s (execTiaTransactionDone g ack rdata u) := by
  unfold execTiaTransactionDone
  dsimp only
  refine .next ?_
  refine Evolves.ite h.portSwEnd ?_
  split
  exacts [h.tiaHwDone, h]

theorem execClockStretchTimeout_answers {g : Grp} {port : GroupPort} (h : Evolves .all s u) :
    Answers s (execClockStretchTimeout g port u) := by
  unfold execClockStretchTimeout
  refine .next ?_
  refine Evolves.ite h.portSwEnd ?_
  split
  exacts [h.tiaHwDone, h.drvHwDone]

theorem execLineAlignmentMarkerLock_answers {n : Lane} (h : Evolves .all s u) : Answers s (execLineAlignmentMarkerLock n u) := by
  unfold execLineAlignmentMarkerLock
  exact Answers.ite (.next h.fresh.enterLocked) (.next h)

theorem execLineAlignmentMarkerLockLoss_answers {n : Lane} (h : Evolves .all s u) : Answers s (execLineAlignmentMarkerLockLoss n u) := by
  unfold execLineAlignmentMarkerLockLoss
  exact .next (Evolves.ite h.loseLock h)

end Sys2Proof.Machine
end

section
/-! SUPPORT. What the operands of commands leave: `Evolves`, for each operation and command. -/
namespace Sys2Proof.Machine
open Sys2Proof
set_option Elab.async false
variable {K : Scope} {s u t₀ : State}

theorem Evolves.stage {k : RegKey} {w x : Nat} (h : Evolves K s u) (hK : (Scope.of [] [.staged]).le K = true := by decide +kernel) :
    Evolves K s (u.stage k w x) := by
  refine h.widen hK fun h => ?_
  unfold State.stage
  exact h.same

theorem Evolves.writeWordWith {wr : Path → Reg → Nat → Nat → State → State × WStatus} {p : Path} {a x : Nat} (h : Evolves K s u)
    (hwr : ∀ {v p r i x}, Evolves K s v → Evolves K s (wr p r i x v).1) (hK : (Scope.of [.MGT_ACCESS_VIOL, .MGT_BAD_ADDR, .EVL_DROPPED]
      [.recorder, .staged, .committed]).le K = true := by decide +kernel) : Evolves K s (writeWordWith wr p a x u).1 := by
  have hv : refusalScope.le K = true := Scope.le_trans (by decide +kernel) hK
  have hs : K.hasPart .staged = true := Scope.hasPart_of_le hK (by decide +kernel)
  unfold Machine.writeWordWith
  split
  · exact h.count (Scope.hasReg_of_le hK (by decide +kernel))
  split
  · exact h.guardedWrite hwr hv
  split
  · exact h.guardedWrite (fun h => (h.skip fun h => h.stage (Scope.le_trans (by decide +kernel) hK)).fst) hv
  · exact h.guardedWrite (fun h => h.commitWhole hwr hs (Scope.hasPart_of_le hK (by decide +kernel))) hv

end Sys2Proof.Machine
end

section
/-! SUPPORT. What the event recorder leave: `Evolves`, for each operation and command. -/
namespace Sys2Proof.Machine
open Sys2Proof
set_option Elab.async false
variable {K : Scope} {s u t₀ : State}

/-- What `State.keep` may change. -/
def keepScope : Scope := .of [.GLB_STATE, .CIN_LANE_STATUS, .MGT_ALERT_STATUS, .MEM_STATUS, .MEM_FLIP_MASK, .MEM_SPARE, .MEM_REPAIR,
    .EVL_FIRST_FULL, .EVL_FIRST_RANGE, .EVL_DROPPED] [.risen, .recorder, .clane, .mgt, .mem, .memx]

theorem Evolves.keep {seq : BitVec 32} {bs : List Byte} (h : Evolves K s u) (hK : keepScope.le K = true := by decide +kernel) :
    Evolves K s (u.keep seq bs).1 := by
  refine h.widen hK fun h => ?_
  unfold State.keep
  dsimp only
  split
  · exact h
  split
  · exact .fst h.setFlag
  · exact .fst ((Evolves.setFld (.when h.storeWrite.setFld fun h => h.setFld)).modRec (Nat.le_refl _))

theorem Evolves.showOldest (h : Evolves K s u) (hK : (Scope.of [.EVL_OLDEST_SEQ] []).le K = true := by decide +kernel) :
    Evolves K s u.showOldest := by
  refine h.widen hK fun h => ?_
  unfold State.showOldest
  split
  exacts [h.setFld.setFld, h.setFld.setFld]

theorem Evolves.evict {w n : Nat} (h : Evolves K s u)
    (hK : (Scope.of [.EVL_OLDEST_SEQ] [.recorder]).le K = true := by decide +kernel) : Evolves K s (u.evict w n) := by
  refine h.widen hK fun h => ?_
  unfold State.evict
  exact (h.modRec (Nat.le_refl _)).showOldest

/-- What `State.padEnd` may change. -/
def padEndScope : Scope := .of [.GLB_STATE, .CIN_LANE_STATUS, .MGT_ALERT_STATUS, .MEM_STATUS, .MEM_FLIP_MASK, .MEM_SPARE, .MEM_REPAIR,
    .EVL_OLDEST_SEQ, .EVL_DROPPED] [.risen, .recorder, .clane, .mgt, .mem, .memx]

theorem Evolves.padEnd {w : Nat} (h : Evolves K s u) (hK : padEndScope.le K = true := by decide +kernel) : Evolves K s (u.padEnd w) := by
  refine h.widen hK fun h => ?_
  unfold State.padEnd
  exact h.evict.cond (fun h₁ => h₁.storeWrite) (fun h₁ => h₁.storeWrite)

/-- What `State.circulate` may change. -/
def circulateScope : Scope := .of [.GLB_STATE, .CIN_LANE_STATUS, .MGT_ALERT_STATUS, .MEM_STATUS, .MEM_FLIP_MASK, .MEM_SPARE, .MEM_REPAIR,
    .EVL_HEAD_SEQ, .EVL_OLDEST_SEQ, .EVL_DROPPED] [.risen, .recorder, .clane, .mgt, .mem, .memx]

theorem Evolves.circulate {seq : BitVec 32} {bs : List Byte} (h : Evolves K s u)
    (hK : circulateScope.le K = true := by decide +kernel) : Evolves K s (u.circulate seq bs) := by
  refine h.widen hK fun h => ?_
  unfold State.circulate
  exact ((((((Evolves.ite h h.padEnd).evict).storeWrite).setFld).setFld).modRec (Nat.le_refl _)).showOldest

theorem Evolves.mirrorRec {seq : BitVec 32} {bs : List Byte} {kept : Bool} (h : Evolves K s u)
    (hK : (Scope.of [] [.recorder]).le K = true := by decide +kernel) : Evolves K s (u.mirrorRec seq bs kept) := by
  refine h.widen hK fun h => ?_
  unfold State.mirrorRec
  exact Evolves.ite (h.modRec (Nat.le_refl _)) h

/-- What `State.writeRec` may change. -/
def writeRecScope : Scope := .join [keepScope, .of [.EVL_HEAD_SEQ, .EVL_OLDEST_SEQ, .EVL_WRITTEN] []]

theorem Evolves.writeRec {r : Rec} (h : Evolves K s u) (hK : writeRecScope.le K = true := by decide +kernel) :
    Evolves K s (u.writeRec r) := by
  refine h.widen hK fun h => ?_
  unfold State.writeRec
  exact h.keep.circulate.mirrorRec.count

theorem execRecordWrite_answers (h : Evolves .all s u) : Answers s (execRecordWrite u) := by
  unfold execRecordWrite
  split
  · exact .next h
  · next r rs hq =>
    have h' : Evolves .all s ((u.modRec fun x => { x with queue := rs, wrote := some u.cycle }).writeRec r) :=
      (h.modRec (by rw [hq]; exact Nat.le_succ _)).writeRec
    exact .ite (.next h) (.ite (.next (h'.modRec (Nat.le_refl _)).log) (.next h'))

theorem Evolves.emptyKept (h : Evolves K s u)
    (hK : (Scope.of [.EVL_FIRST_FULL, .EVL_FIRST_RANGE] [.recorder]).le K = true := by decide +kernel) : Evolves K s u.emptyKept := by
  refine h.widen hK fun h => ?_
  unfold State.emptyKept
  exact h.resetRegs.modRec (Nat.le_refl _)

theorem Evolves.wrEvlCtrl {p : Path} {v₁ : Nat} (h : Evolves K s u) (hK : writeRecScope.le K = true := by decide +kernel) :
    Evolves K s (wrEvlCtrl p v₁ u).1 := by
  refine h.widen hK fun h => ?_
  unfold Machine.wrEvlCtrl
  split
  · exact .fst (Evolves.writeRec (h.emptyKept.modRec (Nat.le_of_eq (List.length_map _))))
  · exact h

theorem execClearKept_answers {p : Path} (h : Evolves .all s u) : Answers s (execClearKept p u) := by
  unfold execClearKept
  exact writeCommand_answers h (fun h₁ => h₁.wrEvlCtrl)

theorem Evolves.capture {rs : List (Reg × Nat)} (h : Evolves K s u)
    (hK : (Scope.of [] [.captured]).le K = true := by decide +kernel) : Evolves K s (u.capture rs) := by
  refine h.widen hK fun h => ?_
  unfold State.capture
  exact h.same

theorem execEvlHeadSeqRead_answers (h : Evolves .all s u) : Answers s (execEvlHeadSeqRead u) := by
  unfold execEvlHeadSeqRead
  exact .next h.capture

/-- What `State.restoreMirror` may change. -/
def restoreMirrorScope : Scope := .join [keepScope, .of [.EVL_HEAD_SEQ, .EVL_OLDEST_SEQ] []]

theorem Evolves.restoreMirror (h : Evolves K s u) (hK : restoreMirrorScope.le K = true := by decide +kernel) :
    Evolves K s u.restoreMirror.1 := by
  refine h.widen hK fun h => ?_
  unfold State.restoreMirror
  refine .fst (.when (.setFld (.foldl (.foldl (h.resetRegs.modRec (Nat.zero_le _)) fun _ h => h.keep) fun _ h => h.circulate))
    fun h => h.showOldest)

theorem Evolves.logBoot {cause missing : Nat} (h : Evolves K s u)
    (hK : (Scope.of [.EVL_DROPPED] [.recorder]).le K = true := by decide +kernel) : Evolves K s (u.logBoot cause missing) := by
  refine h.widen hK fun h => ?_
  unfold State.logBoot
  exact h.log

/-- What `State.restoreRecords` may change. -/
def restoreRecordsScope : Scope := .join [restoreMirrorScope, .of [.MEM_LAST_POISON, .MEM_POISON_CNT, .MEM_POISON] []]

theorem Evolves.restoreRecords {cause : Nat} (h : Evolves K s u) (hK : restoreRecordsScope.le K = true := by decide +kernel) :
    Evolves K s (u.restoreRecords cause) := by
  refine h.widen hK fun h => ?_
  unfold State.restoreRecords
  exact h.restoreMirror.logBoot.each (fun _ h₁ => h₁.poisonRead)

end Sys2Proof.Machine
end

section
/-! SUPPORT. What self-test leave: `Evolves`, for each operation and command. -/
namespace Sys2Proof.Machine
open Sys2Proof
set_option Elab.async false
variable {K : Scope} {s u t₀ : State}

theorem Evolves.logBst {g : Nat} (h : Evolves K s u) (hK : (Scope.of [.EVL_DROPPED] [.recorder]).le K = true := by decide +kernel) :
    Evolves K s (u.logBst g) := by
  refine h.widen hK fun h => ?_
  unfold State.logBst
  exact h.log

theorem Evolves.testDec {g d : Nat} {retest : optParam Bool false} (h : Evolves K s u)
    (hK : (Scope.of [.BST_DEC_STATE] [.grp]).le K = true := by decide +kernel) : Evolves K s (u.testDec g d retest) := by
  refine h.widen hK fun h => ?_
  unfold State.testDec
  exact h.setDec.modGrp

theorem Evolves.sweepNext {g : Nat} (h : Evolves K s u) (hK : (Scope.of [.BST_IS_STATUS] [.grp]).le K = true := by decide +kernel) :
    Evolves K s (u.sweepNext g) := by
  refine h.widen hK fun h => ?_
  unfold State.sweepNext
  exact h.modGrp.when fun h₁ => h₁.count

theorem Evolves.sweepSkip {g : Nat} (h : Evolves K s u)
    (hK : (Scope.of [.BST_IS_STATUS, .BST_IS_SKIP] [.grp]).le K = true := by decide +kernel) : Evolves K s (u.sweepSkip g) := by
  refine h.widen hK fun h => ?_
  unfold State.sweepSkip
  exact h.count.sweepNext

/-- What `State.sweepItem` may change. -/
def sweepItemScope : Scope := .of [.EQP_STATUS, .EQP_POOL, .EQP_SLICE_STATE, .EQP_OP_STATUS, .BST_IS_STATUS, .BST_DEC_STATE, .BST_IS_SKIP]
    [.grp]

theorem Evolves.sweepItem {g kind k : Nat} (h : Evolves K s u) (hK : sweepItemScope.le K = true := by decide +kernel) :
    Evolves K s (u.sweepItem g kind k) := by
  refine h.widen hK fun h => ?_
  unfold State.sweepItem
  dsimp only
  refine Evolves.ite (Evolves.ite h.testSlice h.sweepSkip) ?_
  refine Evolves.ite ?_ ?_
  · split
    exacts [h.requestOp, Evolves.ite h.testSlice h.sweepSkip, h.sweepSkip]
  · refine Evolves.ite ?_ ?_
    · split
      exacts [h.testDec, h.sweepSkip]
    · split
      exacts [Evolves.ite h.setDec.modGrp.testDec (Evolves.ite h.testDec h.sweepSkip), h.sweepSkip]

theorem execSweepStart_answers {g : Grp} (h : Evolves .all s u) : Answers s (execSweepStart g u) := by
  unfold execSweepStart
  dsimp only
  refine Answers.ite (.next h) ?_
  split
  exacts [.next (Evolves.ite h.modGrp h), .next ((Evolves.ite h.modGrp h).sweepItem)]

/-- What `State.dropBare` may change. -/
def dropBareScope : Scope := .join [endLrxScope, .of [.LRX_CTRL] []]

theorem Evolves.dropBare {g : Nat} (h : Evolves K s u) (hK : dropBareScope.le K = true := by decide +kernel) :
    Evolves K s (u.dropBare g) := by
  refine h.widen hK fun h => ?_
  unfold State.dropBare
  exact h.each (fun _ h₁ => Evolves.ite h₁.setFlag.endLrx h₁)

/-- What `State.fenceTested` may change. -/
def fenceTestedScope : Scope := .join [dropBareScope, .of [.GLB_STATE, .GLB_FENCE, .LRX_FAIL, .CIN_SHEDS, .MGT_ALERT_STATUS, .BST_IS_FAIL]
    []]

theorem Evolves.fenceTested {g : Nat} {t : TestX} (h : Evolves K s u) (hK : fenceTestedScope.le K = true := by decide +kernel) :
    Evolves K s (u.fenceTested g t) := by
  refine h.widen hK fun h => ?_
  unfold State.fenceTested
  dsimp only
  exact (((((Evolves.ite h.setSlice h.setDec).skip fun h₁ => h₁.count).showFences).logBst).alert).skip fun h₁ =>
      Evolves.ite h₁.poolReduce.dropBare (((Evolves.spareIn (by split; exacts [h₁.abortTest, h₁])).checkDecoders).checkDecoders)

/-- What `State.passTested` may change. -/
def passTestedScope : Scope := .of [.GLB_FENCE, .EQP_STATUS, .EQP_POOL, .EQP_SLICE_STATE, .EQP_OP_STATUS, .EVL_DROPPED, .BST_DEC_STATE]
    [.recorder, .grp]

theorem Evolves.passTested {g : Nat} {t : TestX} (h : Evolves K s u) (hK : passTestedScope.le K = true := by decide +kernel) :
    Evolves K s (u.passTested g t) := by
  refine h.widen hK fun h => ?_
  unfold State.passTested
  dsimp only
  refine Evolves.ite ?_ h.setDec.spareIn.showFences
  exact (h.setSlice.modGrp.showFences.when fun h₁ => h₁.logBst).step fun h₁ => by split; exacts [h₁.modGrp.runFollow, h₁]

theorem execInServiceTestDone_answers {g : Grp} {complete : Bool} {patterns : BitVec 28} {sigOk : Bool} (h : Evolves .all s u) :
    Answers s (execInServiceTestDone g complete patterns sigOk u) := by
  unfold execInServiceTestDone
  dsimp only
  split
  · exact .next h
  · refine Answers.ite (.next h) ?_
    exact .next ((h.modGrp.count.setFld.setFld.setFld.cond (fun h₁ => h₁.passTested) (fun h₁ => h₁.fenceTested)).when fun h₁ =>
        h₁.sweepNext)

theorem Evolves.retryTest {g : Nat} {t : TestX} (h : Evolves K s u)
    (hK : (Scope.of [.EQP_POOL, .EQP_SLICE_STATE, .BST_DEC_STATE] [.grp]).le K = true := by decide +kernel) :
    Evolves K s (u.retryTest g t) := by
  refine h.widen hK fun h => ?_
  unfold State.retryTest
  exact (Evolves.ite h.setSlice h.setDec).modGrp

theorem execTestRetry_answers {g : Grp} (h : Evolves .all s u) : Answers s (execTestRetry g u) := by
  unfold execTestRetry
  dsimp only
  split
  · exact .next h
  · exact Answers.ite (.next h) (Answers.ite (.next h.modGrp.retryTest) (Answers.ite (.next h.modGrp.sweepSkip) (.next h.modGrp.count)))

theorem Evolves.wrBstCtrl {p : Path} {v₁ : Nat} (h : Evolves K s u)
    (hK : (Scope.of [.EVL_DROPPED, .BST_CTRL] [.recorder]).le K = true := by decide +kernel) : Evolves K s (wrBstCtrl p v₁ u).1 := by
  refine h.widen hK fun h => ?_
  unfold Machine.wrBstCtrl
  split
  exacts [h.rejectWrite, h.plainWrite]

/-- What `wrBstUnfence` may change. -/
def wrBstUnfenceScope : Scope := .of [.EQP_POOL, .EQP_SLICE_STATE, .EVL_DROPPED, .BST_UNFENCE, .BST_DEC_STATE] [.recorder, .grp]

theorem Evolves.wrBstUnfence {p : Path} {v₁ : Nat} (h : Evolves K s u) (hK : wrBstUnfenceScope.le K = true := by decide +kernel) :
    Evolves K s (wrBstUnfence p v₁ u).1 := by
  refine h.widen hK fun h => ?_
  unfold Machine.wrBstUnfence
  exact .iteFst (.fst h.plainWrite) (.iteFst h.rejectWrite (.fst (.ite h.plainWrite.modGrp h.plainWrite.retryTest)))

theorem execBstUnfence_answers {p : Path} {g : Grp} {kind : Fin 4} {index : Fin 16} (h : Evolves .all s u) :
    Answers s (execBstUnfence p g kind index u) := by
  unfold execBstUnfence
  exact writeCommand_answers h (fun h₁ => h₁.wrBstUnfence)

end Sys2Proof.Machine
end

section
/-! SUPPORT. What the Tussock engine leave: `Evolves`, for each operation and command. -/
namespace Sys2Proof.Machine
open Sys2Proof
set_option Elab.async false
variable {K : Scope} {s u t₀ : State}

theorem Evolves.setTskActive {r : Nat} {on : Bool} (h : Evolves K s u)
    (hK : (Scope.of [.TSK_ACTIVE] []).le K = true := by decide +kernel) : Evolves K s (u.setTskActive r on) := by
  refine h.widen hK fun h => ?_
  unfold State.setTskActive
  exact Evolves.ite h h.setFld

theorem Evolves.showTskLos (h : Evolves K s u) (hK : startColdScope.le K = true := by decide +kernel) : Evolves K s u.showTskLos := by
  refine h.widen hK fun h => ?_
  unfold State.showTskLos
  exact h.each (fun _ h₁ => h₁.setLos)

/-- What `wrTskRule` may change. -/
def wrTskRuleScope : Scope := .join [startColdScope, .of [.TSK_ACTIVE, .TSK_RULE] [.tskRule]]

theorem Evolves.wrTskRule {p : Path} {r v₁ : Nat} (h : Evolves K s u) (hK : wrTskRuleScope.le K = true := by decide +kernel) :
    Evolves K s (wrTskRule p r v₁ u).1 := by
  refine h.widen hK fun h => ?_
  unfold Machine.wrTskRule
  split
  · exact h.rejectWrite
  · exact .fst (.showTskLos (.plainWrite (.showTskLos (.modTskRule h.setTskActive))))

theorem Evolves.wrTskInCfg {p : Path} {i v₁ : Nat} (h : Evolves K s u)
    (hK : (Scope.of [.TSK_IN_CFG, .EVL_DROPPED] [.recorder, .tskIn]).le K = true := by decide +kernel) :
    Evolves K s (wrTskInCfg p i v₁ u).1 := by
  refine h.widen hK fun h => ?_
  unfold Machine.wrTskInCfg
  dsimp only
  split
  exacts [h.rejectWrite, h.plainWrite.when fun h₁ => h₁.modTskIn]

theorem execTskRuleCommit_answers {p : Path} {r : Fin 32} {value : BitVec 64} (h : Evolves .all s u) :
    Answers s (execTskRuleCommit p r value u) := by
  unfold execTskRuleCommit
  exact commitCommand_answers h (fun h₁ => h₁.wrTskRule)

theorem execTskInCfgWrite_answers {p : Path} {i : Fin 32} {value : Word32} (h : Evolves .all s u) :
    Answers s (execTskInCfgWrite p i value u) := by
  unfold execTskInCfgWrite
  exact writeCommand_answers h (fun h₁ => h₁.wrTskInCfg)

end Sys2Proof.Machine
end

section
/-! SUPPORT. What initialisation leave: `Evolves`, for each operation and command. -/
namespace Sys2Proof.Machine
open Sys2Proof
set_option Elab.async false
variable {K : Scope} {s u t₀ : State}

/-- The kinds of register that software may write: they have a field of code RW, RWS or W1C. -/
def writableKinds : List Reg := [.PWR_CTRL, .PWR_WAKE_LANES, .TSK_CTRL, .TSK_IN_CFG, .TSK_RULE, .TMB_QUALITY, .TMB_NODE_ID, .TMB_SRC_CFG, .TMB_HOLD_CFG, .TMB_SET,
  .TMB_ASYM_CAL, .TMB_PPS_CFG, .TMB_PPS_OUT_OFS, .TMB_PPS_IN_DLY, .TMB_PPS_UNC, .TMB_PPS_SEC, .TMB_ASYM, .TMB_ASYM_UNC, .HRN_LOAD_CTRL,
  .LRX_CTRL, .LRX_ACQ_CFG, .LRX_AGC_CFG, .LRX_TIA_CFG, .LRX_TIA_CMD, .EQP_CTRL, .EQP_SOFT, .EQP_COEF, .EQP_OP_CMD, .LFEC_CTRL, .LFEC_SD,
  .LFEC_SF, .LTX_CTRL, .LTX_FIR_CFG, .LTX_TRIM, .LTX_PAT, .LTX_CHK, .LTX_FIR, .LTX_LUT, .LTX_MASK_CFG, .LTX_DRV_CFG, .LTX_DRV_CMD,
  .LTX_MASK_SEG, .LTX_UPAT, .HSI_CTRL, .HSI_TXEQ, .HSI_PAT, .HSI_CHK, .CIN_CH_CFG, .CIN_CH_CRED, .CIN_LANE_CTRL, .CIN_LANE_CFG,
  .CIN_CR_CFG, .MGT_ALERT_STATUS, .MGT_IBI_EN, .MGT_CW_CFG, .MGT_CW_MAC, .HKA_CTRL, .HKA_TIMING, .HKA_URGENT, .HKA_DAC_FAULT,
  .HKA_DEC_CFG, .HKA_CH_CFG, .HKA_CH_CAL, .HKA_MON, .HKA_MON_VCC, .HKA_STREAM_BASE, .HKA_STREAM_CFG, .HKA_STREAM_RD, .HKA_DAC_CODE,
  .HKA_DAC_CFG, .HKA_DAC_TIMER, .HKA_RB_CFG, .CAL_TSK, .THM_CFG, .THM_LIMIT_A, .THM_LIMIT_B, .THM_LIMIT_C, .MEM_FLIP_MASK,
  .MEM_FLIP_ADDR, .MEM_SCRUB_CFG, .DMA_SRC, .DMA_DST, .DMA_CNT, .DMA_CTRL, .DMA_FILL, .DMA_CQ_RD, .PMC_CTL, .PMC_THRESH, .PMC_PRESET,
  .PMC_USER_EN, .PMC_GLOBAL, .PMC_SAMPLE_LIST, .PMC_SAMPLE_MIN, .BST_CTRL, .BST_UNFENCE]

/-- What writes by access codes may change. -/
def writableScope : Scope := .of writableKinds []

/-- No field of the register takes a write. -/
def Reg.fixed (r : Reg) : Bool := r.desc.fields.all fun f => decide (f.access = .ro) || decide (f.access = .wo)

theorem setBitsOf_self (v : RegVal) (hi lo : Nat) : setBitsOf v hi lo (bitsOf v hi lo) = v := by
  refine BitVec.eq_of_getLsbD_eq fun k hk => ?_
  simp only [setBitsOf, BitVec.getLsbD_or, BitVec.getLsbD_and, BitVec.getLsbD_not, BitVec.getLsbD_shiftLeft, BitVec.getLsbD_ofNat,
    Nat.testBit_two_pow_sub_one, Nat.testBit_mod_two_pow, testBit_bitsOf]
  by_cases hlo : lo ≤ k
  · by_cases hhi : k - lo < hi - lo + 1
    · simp [hk, hhi, Nat.not_lt.2 hlo, show k - lo < 512 by omega, show lo + (k - lo) = k by omega]
    · simp [hk, hhi]
  · simp [hk, Nat.lt_of_not_le hlo]

theorem applyAccess_fixed {fs : List FieldDesc} (h : fs.all (fun f => decide (f.access = .ro) || decide (f.access = .wo)) = true) (old : RegVal)
    (v c : Nat) : applyAccess old v c fs = old := by
  induction fs generalizing old with
  | nil => rfl
  | cons f fs ih =>
    rw [List.all_cons, Bool.and_eq_true, Bool.or_eq_true, decide_eq_true_eq, decide_eq_true_eq] at h
    obtain ⟨hf, hfs⟩ := h
    unfold applyAccess
    dsimp only
    rw [ih hfs]
    rcases hf with hf | hf <;> rw [hf] <;> exact setBitsOf_self old _ _

theorem allRegs_writable : allRegs.all (fun r => r.fixed || decide (r ∈ writableKinds)) = true := by decide +kernel

theorem mem_allRegs (r : Reg) : r ∈ allRegs := by
  have hall : (List.range 351).all (fun i => decide (Reg.ofNat i ∈ allRegs)) = true := by decide +kernel
  have hlt : r.ctorIdx < 351 := by cases r <;> exact Nat.le_of_ble_eq_true rfl
  rw [← Reg.ofNat_ctorIdx r]
  exact of_decide_eq_true (List.all_eq_true.1 hall _ (List.mem_range.2 hlt))

theorem mem_writableKinds {r : Reg} (h : r.fixed = false) : r ∈ writableKinds := by
  have := List.all_eq_true.1 allRegs_writable r (mem_allRegs r)
  rw [h, Bool.false_or] at this
  exact of_decide_eq_true this

theorem hasReg_writableScope {r : Reg} (h : r.fixed = false) : writableScope.hasReg r = true := by
  rw [writableScope, Scope.hasReg, Scope.of, Bool.false_or, Scope.testBit_maskOf, List.any_eq_true]
  exact ⟨r, mem_writableKinds h, decide_eq_true rfl⟩

/-- A write of a register that takes none leaves it; another lies in the scope. -/
theorem Evolves.wrPlain {r : Reg} {i v₁ : Nat} (h : Evolves K s u) (hK : writableScope.le K = true := by decide +kernel) :
    Evolves K s (wrPlain r i v₁ u).1 := by
  unfold Machine.wrPlain
  cases hr : r.fixed with
  | false => exact h.plainWrite (Scope.hasReg_of_le hK (hasReg_writableScope hr))
  | true =>
    refine h.trans ⟨rfl, rfl, Nat.le_refl _, .inl rfl, .inl rfl, State.canonical_setReg _ _ _, id, id, fun q j _ => ?_,
      fun p _ => by cases p <;> rfl⟩
    by_cases hq : q = r ∧ j = i
    · obtain ⟨rfl, rfl⟩ := hq
      exact (plainWrite_reg _ _ _ _).trans (applyAccess_fixed hr _ _ _)
    · exact State.reg_setReg_other _ _ (by tauto)

/-- What `wrGroupBlock` may change. -/
def wrGroupBlockScope : Scope := .join [writableScope, wrLrxCtrlScope, wrLfecCtrlScope, wrHsiCtrlScope, .of [.GLB_STATE, .LRX_TIA_STATUS,
    .EQP_AUDIT, .LTX_STATUS, .LTX_TRIM_NOW, .LTX_CHK_SYM, .LTX_CHK_ERR, .LTX_CHK_BIT, .LTX_DRV_STATUS, .HSI_CHK_SYM, .HSI_CHK_ERR,
    .HSI_CHK_BIT, .CIN_SHEDS, .CAL_TRIM_BUSY] [.chk, .pins]]

theorem Evolves.wrGroupBlock {p : Path} {r : Reg} {i v₁ : Nat} (h : Evolves K s u)
    (hK : wrGroupBlockScope.le K = true := by decide +kernel) : Evolves K s (wrGroupBlock p r i v₁ u).1 := by
  refine h.widen hK fun h => ?_
  unfold Machine.wrGroupBlock
  split
  · exact h.wrLrxCtrl
  · exact h.wrLrxAcqCfg
  · exact h.wrLrxTiaCfg
  · exact h.wrLrxTiaCmd
  · exact h.wrEqpCtrl
  · exact h.wrEqpSoft
  · exact h.wrEqpCoef
  · exact h.wrEqpOpCmd
  · exact h.wrEqpAudit
  · exact h.wrLfecCtrl
  · exact h.wrLfecThr
  · exact h.wrLfecThr
  · exact h.wrLtxCtrl
  · exact h.wrLtxShadow
  · exact h.wrLtxShadow
  · exact h.wrLtxShadow
  · exact h.wrLtxTrim
  · exact h.wrLtxPat
  · exact h.wrLtxChk
  · exact h.wrLtxUpat
  · exact h.wrLtxMaskCfg
  · exact h.wrLtxMaskSeg
  · exact h.wrLtxDrvCfg
  · exact h.wrLtxDrvCmd
  · exact h.wrHsiCtrl
  · exact h.wrHsiTxeq
  · exact h.wrHsiPat
  · exact h.wrHsiChk
  · exact h.wrCinChCfg
  · exact h.wrCinChCred
  · exact h.wrCinLaneCtrl
  · exact h.wrCinLaneCfg
  · exact h.wrCinConsAudit
  · exact h.wrCinCrCfg
  · exact h.wrPlain

/-- What `wrDeviceBlock` may change. -/
def wrDeviceBlockScope : Scope := .join [writableScope, wrTskRuleScope, wrDmaCtrlScope, writeRecScope, .of [.HKA_URG_DROP, .DMA_CQ_WR,
    .DMA_CQ_REC] [.tskIn, .hka, .dec, .dac, .strm, .pmcSnap]]

theorem Evolves.wrDeviceBlock {p : Path} {r : Reg} {i v₁ : Nat} (h : Evolves K s u)
    (hK : wrDeviceBlockScope.le K = true := by decide +kernel) : Evolves K s (wrDeviceBlock p r i v₁ u).1 := by
  refine h.widen hK fun h => ?_
  unfold Machine.wrDeviceBlock
  split
  · exact h.wrTskInCfg
  · exact h.wrTskRule
  · exact h.wrTmbNodeId
  · exact h.wrTmbSrcCfg
  · exact h.wrTmbHoldCfg
  · exact h.wrTmbSet
  · exact h.wrTmbAsymCal
  · exact h.wrTmbPpsCfg
  · exact h.wrTmbPpsSec
  · exact h.wrTmbAsym
  · exact h.wrTmbAsym
  · exact h.wrHkaCtrl
  · exact h.wrHkaTiming
  · exact h.wrHkaUrgent
  · exact h.wrDacFault
  · exact h.wrHkaDecCfg
  · exact h.wrHkaChCfg
  · exact h.wrHkaMon
  · exact h.wrHkaMonVcc
  · exact h.wrStreamBase
  · exact h.wrStreamCfg
  · exact h.wrDacCode
  · exact h.wrDacCfg
  · exact h.wrDacTimer
  · exact h.wrRbCfg
  · exact h.wrThmCfg
  · exact h.wrThmLimitA
  · exact h.wrThmLimitB
  · exact h.wrFlipMask
  · exact h.wrScrubCfg
  · exact h.wrDmaParam
  · exact h.wrDmaParam
  · exact h.wrDmaParam
  · exact h.wrDmaParam
  · exact h.wrDmaCtrl
  · exact h.wrDmaCqRd
  · exact h.wrEvlCtrl
  · exact h.wrPmcCtl
  · exact h.wrPmcGlobal
  · exact h.wrBstCtrl
  · exact h.wrBstUnfence
  · exact h.wrPlain

theorem Evolves.wrPwrCtrlInLoad {p : Path} {v₁ : Nat} (h : Evolves K s u)
    (hK : (Scope.of [.PWR_STATE, .PWR_CTRL, .EVL_DROPPED] [.recorder, .pwr]).le K = true := by decide +kernel) :
    Evolves K s (wrPwrCtrlInLoad p v₁ u).1 := by
  refine h.widen hK fun h => ?_
  unfold Machine.wrPwrCtrlInLoad
  dsimp only
  exact (h.plainWrite (r := .PWR_CTRL)).step fun h₁ =>
      by split; exacts [h₁, (by split; exacts [h₁.rejectWrite, (by split; exacts [h₁.setFld, h₁.modPwr.when fun h₂ => h₂.setFlag])])]

/-- What `initWrite` may change. -/
def initWriteScope : Scope := .join [wrGroupBlockScope, wrDeviceBlockScope, .of [.PWR_STATE] [.pwr]]

theorem Evolves.initWrite {p : Path} {r : Reg} {i v₁ : Nat} (h : Evolves K s u)
    (hK : initWriteScope.le K = true := by decide +kernel) : Evolves K s (initWrite p r i v₁ u).1 := by
  refine h.widen hK fun h => ?_
  unfold Machine.initWrite
  dsimp only
  split
  · exact h.wrPwrCtrlInLoad
  · split
    exacts [h.wrGroupBlock, h.wrDeviceBlock]

/-- What `State.regInit` may change. -/
def regInitScope : Scope := .join [initWriteScope, .of [.MGT_BAD_ADDR, .MGT_ACCESS_VIOL] [.staged, .committed]]

theorem Evolves.regInit {payload : List Byte} (h : Evolves K s u) (hK : regInitScope.le K = true := by decide +kernel) :
    Evolves K s (u.regInit payload).1 := by
  refine h.widen hK fun h => ?_
  unfold State.regInit
  exact h.fst.foldlFst fun _ h => h.writeWordWith fun h => h.initWrite

end Sys2Proof.Machine
end

section
/-! SUPPORT. What the lane groups leave: `Evolves`, for each operation and command. -/
namespace Sys2Proof.Machine
open Sys2Proof
set_option Elab.async false
variable {K : Scope} {s u t₀ : State}

/-- The kinds of register that lie in the block of a group, by the base of their addresses. -/
def groupKinds : List Reg := allRegs.filter fun r =>
  decide (0x41000 ≤ r.desc.base ∧ r.desc.base < 0x42000) || decide (0x100000 ≤ r.desc.base ∧ r.desc.base < 0x220000)

/-- What the registers and words of a group are. -/
def groupScope : Scope := .of groupKinds [.captured, .staged, .committed]

/-- How far the last index of a register lies above its first. -/
def regSpan (dims : List (Nat × Nat)) : Nat := (dims.map fun e => e.2 * (e.1 - 1)).sum

theorem place_le {dims : List (Nat × Nat)} (h : ∀ e ∈ dims, 0 < e.1) (i : Nat) : (regAddr.place dims i).1 ≤ regSpan dims := by
  induction dims generalizing i with
  | nil => exact Nat.le_refl 0
  | cons e dims ih =>
    have hmod : (regAddr.place dims i).2 % e.1 ≤ e.1 - 1 := Nat.le_pred_of_lt (Nat.mod_lt _ (h e (.head _)))
    have hrest := ih (fun q hq => h q (.tail _ hq)) i
    rw [regAddr.place, regSpan, List.map_cons, List.sum_cons]
    exact (Nat.add_comm _ _).trans_le (Nat.add_le_add (Nat.mul_le_mul_left _ hmod) hrest)

theorem regAddr_bounds (r : Reg) (i : Nat) : r.desc.base ≤ regAddr r i 0 ∧ regAddr r i 0 ≤ r.desc.base + regSpan r.desc.dims := by
  have hpos : allRegs.all (fun r => r.desc.dims.all fun e => decide (0 < e.1)) = true := by decide +kernel
  have hdims := List.all_eq_true.1 (List.all_eq_true.1 hpos r (mem_allRegs r))
  have hle := place_le (fun e he => of_decide_eq_true (hdims e he)) i
  unfold regAddr
  constructor <;> omega

/-- A kind that is not in the block of a group lies there at no index. -/
theorem group_eq_none {r : Reg} (h : groupScope.hasReg r = false) (i : Nat) : r.group i = none := by
  have hall : allRegs.all (fun r => groupScope.hasReg r || decide (r.desc.base + regSpan r.desc.dims < 0x41000)
      || decide (0x42000 ≤ r.desc.base ∧ r.desc.base + regSpan r.desc.dims < 0x100000) || decide (0x220000 ≤ r.desc.base)) = true := by
    decide +kernel
  have hr := List.all_eq_true.1 hall r (mem_allRegs r)
  rw [h, Bool.false_or, Bool.or_eq_true, Bool.or_eq_true, decide_eq_true_eq, decide_eq_true_eq, decide_eq_true_eq] at hr
  have hb := regAddr_bounds r i
  unfold Reg.group
  dsimp only
  iterate 7 rw [if_neg (by omega)]

/-- A register that the groups dropped do not own stays. -/
theorem State.reg_dropGroupRegs (s : State) (gs : List Nat) {r : Reg} {i : Nat} (h : r.group i = none) :
    (s.dropGroupRegs gs).reg r i = s.reg r i :=
  Tab.get_filter_kept (d := regReset) s.regs
    (fun k => !(match k.1.group k.2 with | some g => gs.contains g | none => false)) (by rw [h]; rfl)

theorem Evolves.dropGroupRegs {gs : List Nat} (h : Evolves K s u) (hK : groupScope.le K = true := by decide +kernel) :
    Evolves K s (u.dropGroupRegs gs) := by
  refine h.widen hK fun h => h.trans ⟨rfl, rfl, Nat.le_refl _, .inl rfl, .inl rfl, fun hc => ⟨Tab.wf_filter _ hc.1, hc.2⟩, id, id,
    fun r i hr => ?_, fun p hp => by cases p <;> first | rfl | exact absurd hp (by decide +kernel)⟩
  exact State.reg_dropGroupRegs u gs (group_eq_none hr i)

/-- What `State.dropGroupState` may change. -/
def dropGroupStateScope : Scope := .of [] [.lfec, .lrx, .eqp, .grp, .ltx, .hsi, .hpm, .chk, .chan, .clane]

theorem Evolves.dropGroupState {g : Nat} (h : Evolves K s u) (hK : dropGroupStateScope.le K = true := by decide +kernel) :
    Evolves K s (u.dropGroupState g) := by
  refine h.widen hK fun h => ?_
  unfold State.dropGroupState
  exact (((h.modGrp.each (fun _ h₁ => h₁.modLrx.modEqp.modLtx.modClane.modLfec)).each (fun _ h₁ =>
      h₁.modHsi.modHpm)).same).each (fun _ h₁ => h₁.modChan)

/-- What `State.clearGroups` may change. -/
def clearGroupsScope : Scope := .join [groupScope, dropGroupStateScope, .of [] [.pins]]

theorem Evolves.clearGroups {gs : List Nat} (h : Evolves K s u) (hK : clearGroupsScope.le K = true := by decide +kernel) :
    Evolves K s (u.clearGroups gs) := by
  refine h.widen hK fun h => ?_
  unfold State.clearGroups
  exact ((((h.each (fun _ h₁ => h₁.dropGroupState)).dropGroupRegs).foldl (fun _ h₁ => h₁.setSlice)).foldl (fun _ h₁ =>
      h₁.setUnit)).showLasers

theorem Evolves.abortTests {g : Nat} (h : Evolves K s u)
    (hK : (Scope.of [.EQP_POOL, .EQP_SLICE_STATE, .BST_DEC_STATE, .BST_IS_ABORT] [.grp]).le K = true := by decide +kernel) :
    Evolves K s (u.abortTests g) := by
  refine h.widen hK fun h => ?_
  unfold State.abortTests
  exact h.foldl (fun _ h₁ => h₁.abortTest)

theorem Evolves.stopStreams {gs : List Nat} (h : Evolves K s u)
    (hK : (Scope.of [.HKA_STREAM_CFG, .DMA_CTRL, .DMA_STATUS] [.strm, .dma]).le K = true := by decide +kernel) :
    Evolves K s (u.stopStreams gs) := by
  refine h.widen hK fun h => ?_
  unfold State.stopStreams
  exact h.each (fun _ h₁ => Evolves.ite h₁.streamStop h₁)

/-- What `State.closeGroups` may change. -/
def closeGroupsScope : Scope := .join [clearGroupsScope, endLrxScope, .of [.HSI_CLK, .HKA_STREAM_CFG, .DMA_CTRL, .DMA_STATUS] [.freeCtr,
    .strm, .dma]]

theorem Evolves.closeGroups {gs : List Nat} (h : Evolves K s u) (hK : closeGroupsScope.le K = true := by decide +kernel) :
    Evolves K s (u.closeGroups gs) := by
  refine h.widen hK fun h => ?_
  unfold State.closeGroups
  exact (((((((((((h.each (fun _ h₁ => h₁.abortTests.endOpAtQ.modGrp)).each (fun _ h₁ => h₁.closeChannel.setFlag)).each (fun _ h₁ =>
      h₁.closeStreams)).each (fun _ h₁ => h₁.disableLtx)).each (fun _ h₁ => h₁.endLrx)).each (fun _ h₁ =>
      h₁.disableHrx.disableHtx)).each (fun _ h₁ => h₁.lfecClose)).each (fun _ h₁ => h₁.poolClose)).each (fun _ h₁ =>
      h₁.timeLaneClose)).stopStreams).clearGroups).showPorts

theorem Evolves.tuneLine {g : Nat} (h : Evolves K s u)
    (hK : (Scope.of [.CLK_STATUS, .CLK_LINE] [.clk]).le K = true := by decide +kernel) : Evolves K s (u.tuneLine g) := by
  refine h.widen hK fun h => ?_
  unfold State.tuneLine
  exact (((Evolves.ite h.setFld h).skip fun h₁ => h₁.setFld).setFld).modClk

theorem Evolves.tuneHost {k : Nat} (h : Evolves K s u)
    (hK : (Scope.of [.CLK_STATUS, .CLK_HOST, .HSI_CLK] [.clk]).le K = true := by decide +kernel) : Evolves K s (u.tuneHost k) := by
  refine h.widen hK fun h => ?_
  unfold State.tuneHost
  exact (((Evolves.ite h.setFld h).setFld).setFlag).modClk

theorem Evolves.lineOff {g : Nat} (h : Evolves K s u)
    (hK : (Scope.of [.CLK_STATUS, .CLK_LINE] []).le K = true := by decide +kernel) : Evolves K s (u.lineOff g) := by
  refine h.widen hK fun h => ?_
  unfold State.lineOff
  exact ((Evolves.ite h.setFld h).when fun h₁ => h₁.setFld).setFld

theorem Evolves.hostOff {k : Nat} (h : Evolves K s u)
    (hK : (Scope.of [.CLK_STATUS, .CLK_HOST, .HSI_CLK] []).le K = true := by decide +kernel) : Evolves K s (u.hostOff k) := by
  refine h.widen hK fun h => ?_
  unfold State.hostOff
  exact ((Evolves.ite h.setFld h).setFld).setFlag

theorem Evolves.idleOff (h : Evolves K s u)
    (hK : (Scope.of [.CLK_STATUS, .CLK_LINE, .CLK_HOST, .HSI_CLK] []).le K = true := by decide +kernel) : Evolves K s u.idleOff := by
  refine h.widen hK fun h => ?_
  unfold State.idleOff
  exact (h.each (fun _ h₁ => Evolves.ite h₁ h₁.lineOff)).each (fun _ h₁ => Evolves.ite h₁ h₁.hostOff)

theorem Evolves.askSynths {c : Cfg} {gs : List Nat} (h : Evolves K s u)
    (hK : (Scope.of [.CLK_STATUS, .CLK_LINE, .CLK_HOST, .HSI_CLK] [.clk]).le K = true := by decide +kernel) :
    Evolves K s (u.askSynths c gs) := by
  refine h.widen hK fun h => ?_
  unfold State.askSynths
  exact (h.each (fun _ h₁ => Evolves.ite h₁.tuneLine h₁)).each (fun _ h₁ => Evolves.ite h₁.tuneHost h₁)

theorem Evolves.goGroup {g st : Nat} (h : Evolves K s u)
    (hK : (Scope.of [.HRN_GROUP_STATE, .EVL_DROPPED] [.recorder]).le K = true := by decide +kernel) : Evolves K s (u.goGroup g st) := by
  refine h.widen hK fun h => ?_
  unfold State.goGroup
  exact Evolves.ite h h.setFld.log

theorem Evolves.showModes {g : Nat} (h : Evolves K s u) (hK : (Scope.of [.HRN_GROUP_STATE] []).le K = true := by decide +kernel) :
    Evolves K s (u.showModes g) := by
  refine h.widen hK fun h => ?_
  unfold State.showModes
  exact h.setFld.setFld.setFld.setFld

theorem Evolves.loadHost {h₁ : Nat} (h : Evolves K s u)
    (hK : (Scope.of [.HSI_CTRL, .HSI_CFG, .HSI_TXEQ] [.hsi]).le K = true := by decide +kernel) : Evolves K s (u.loadHost h₁) := by
  refine h.widen hK fun h => ?_
  unfold State.loadHost
  exact
      h.setFld.setFld.setFlag.setFld.setFld.setFlag.setFlag.setFlag.setFlag.setFlag.setFlag.setFlag.setFlag.setFlag.setFld.setFld.setFld.setFld.modHsi

/-- What `State.loadLane` may change. -/
def loadLaneScope : Scope := .of [.TMB_ASYM, .TMB_ASYM_UNC, .LRX_CTRL, .LRX_ACQ_CFG, .LRX_AGC_CFG, .LFEC_STATUS, .LTX_CTRL, .LTX_STATUS,
    .LTX_FIR_CFG, .LTX_TRIM, .LTX_TRIM_NOW, .LTX_FIR, .LTX_LUT] [.ltx]

theorem Evolves.loadLane {n : Nat} (h : Evolves K s u) (hK : loadLaneScope.le K = true := by decide +kernel) :
    Evolves K s (u.loadLane n) := by
  refine h.widen hK fun h => ?_
  unfold State.loadLane
  exact ((((((((h.setFld.setFld.setFlag.setFlag.setFlag.setFld.setFld.setFld.setFld.setFld.setFld.setFld.setFld.setFld.each
      (fun _ h₁ => h₁.setFld)).each (fun _ h₁ => h₁.setFld)).modLtx).trimAtOnce).setFlag).setFld).setFld).setFld).setFld

/-- What `State.loadShared` may change. -/
def loadSharedScope : Scope := .of [.LRX_TIA_CFG, .LTX_MASK_CFG, .LTX_DRV_CFG, .LTX_MASK_SEG, .CIN_CH_CFG, .CIN_CH_CRED] [.grp]

theorem Evolves.loadShared {g : Nat} (h : Evolves K s u) (hK : loadSharedScope.le K = true := by decide +kernel) :
    Evolves K s (u.loadShared g) := by
  refine h.widen hK fun h => ?_
  unfold State.loadShared
  exact (h.setFld.setFld.setFld.modGrp.setFld.setFlag.setFld.setFld.skip fun h₁ =>
      h₁.setFlag.setFlag.setFld.setFld.setFld.each (fun _ h₂ => h₂.setReg)).each (fun _ h₁ =>
      Evolves.ite h₁ h₁.setFlag.setFlag.setFld.setFld.setFld.setFld)

theorem Evolves.loadPorts {gs : List Nat} (h : Evolves K s u)
    (hK : (Scope.of [.HPM_PORT_CFG] []).le K = true := by decide +kernel) : Evolves K s (u.loadPorts gs) := by
  refine h.widen hK fun h => ?_
  unfold State.loadPorts
  exact h.foldl (fun _ h₁ => h₁.setFlag.setFld.setFld)

theorem Evolves.takeNodeId {id : Nat} (h : Evolves K s u)
    (hK : (Scope.of [.TMB_NODE_ID, .MGT_CW_MAC] []).le K = true := by decide +kernel) : Evolves K s (u.takeNodeId id) := by
  refine h.widen hK fun h => ?_
  unfold State.takeNodeId
  exact (Evolves.ite h.setFld h).setFld

/-- What `State.loadDevice` may change. -/
def loadDeviceScope : Scope := .join [takeSourceScope, .of [.TMB_NODE_ID, .TMB_SRC_CFG, .MGT_CW_MAC] [.pins]]

theorem Evolves.loadDevice {old : Cfg} (h : Evolves K s u) (hK : loadDeviceScope.le K = true := by decide +kernel) :
    Evolves K s (u.loadDevice old) := by
  refine h.widen hK fun h => ?_
  unfold State.loadDevice
  exact ((h.takeNodeId.setFld.setFld.when fun h₁ => h₁.dropSource).selectFirst).each (fun _ h₁ => Evolves.ite h₁.setPin h₁)

/-- What `State.loadGroups` may change. -/
def loadGroupsScope : Scope := .join [loadLaneScope, poolLoadScope, loadSharedScope, .of [.GLB_FENCE, .HRN_GROUP_STATE, .EQP_STATUS,
    .HSI_CTRL, .HSI_CFG, .HSI_TXEQ, .HPM_PORT_CFG, .BST_DEC_STATE] [.hsi]]

theorem Evolves.loadGroups {gs : List Nat} (h : Evolves K s u) (hK : loadGroupsScope.le K = true := by decide +kernel) :
    Evolves K s (u.loadGroups gs) := by
  refine h.widen hK fun h => ?_
  unfold State.loadGroups
  exact (((((h.each (fun _ h₁ => h₁.showModes)).each (fun _ h₁ => h₁.loadHost)).each (fun _ h₁ => h₁.loadLane)).each (fun _ h₁ =>
      h₁.loadShared.assignDecoders.poolLoad.reliefNew)).loadPorts).showFences

theorem Evolves.regInits {gs : List Nat} {device : List Byte} (h : Evolves K s u)
    (hK : regInitScope.le K = true := by decide +kernel) : Evolves K s (u.regInits gs device).1 := by
  refine h.widen hK fun h => ?_
  unfold State.regInits
  exact .fst (.regInit (h.fst.foldlFst fun _ h => h.regInit.fst))

/-- What `State.startLanes` may change. -/
def startLanesScope : Scope := .join [startColdScope, seqDoneScope, .of [.LRX_CTRL, .LRX_AGC, .HSI_STATUS, .HSI_CLK] []]

theorem Evolves.startLanes {gs : List Nat} (h : Evolves K s u) (hK : startLanesScope.le K = true := by decide +kernel) :
    Evolves K s (u.startLanes gs) := by
  refine h.widen hK fun h => ?_
  unfold State.startLanes
  exact ((((h.each (fun _ h₁ => (Evolves.ite h₁.enableHrx h₁).when fun h₂ => h₂.enableHtx)).each (fun _ h₁ =>
      ((h₁.showSlots.beginShed.when fun h₂ => h₂.setFlag).when fun h₂ => h₂.enableLrx).when fun h₂ => h₂.enableLtx)).each (fun _ h₁ =>
      h₁.openChannel)).showTskLos).showPorts

/-- What `State.reopenGroups` may change. -/
def reopenGroupsScope : Scope := .join [regInitScope, .of [.GLB_FENCE, .HRN_GROUP_STATE, .HSI_CFG, .HPM_PORT_CFG] []]

theorem Evolves.reopenGroups {gs failed : List Nat} {device : List Byte} (h : Evolves K s u)
    (hK : reopenGroupsScope.le K = true := by decide +kernel) : Evolves K s (u.reopenGroups gs failed device) := by
  refine h.widen hK fun h => ?_
  unfold State.reopenGroups
  exact
      ((((h.each (fun _ h₁ => h₁.showModes)).each (fun _ h₁ =>
      Evolves.ite h₁.goGroup (Evolves.ite h₁.goGroup h₁.goGroup))).loadGroups).regInits).startLanes

end Sys2Proof.Machine
end

section
/-! SUPPORT. What sleep and power leave: `Evolves`, for each operation and command. -/
namespace Sys2Proof.Machine
open Sys2Proof
set_option Elab.async false
variable {K : Scope} {s u t₀ : State}

theorem Evolves.closeSession {k : Nat} (h : Evolves K s u)
    (hK : (Scope.of [.MGT_SESSION] [.mgt]).le K = true := by decide +kernel) : Evolves K s (u.closeSession k) := by
  refine h.widen hK fun h => ?_
  unfold State.closeSession
  exact h.resetReg.modMgt

theorem Evolves.closeSessions (h : Evolves K s u) (hK : (Scope.of [.MGT_SESSION] [.mgt]).le K = true := by decide +kernel) :
    Evolves K s u.closeSessions := by
  refine h.widen hK fun h => ?_
  unfold State.closeSessions
  exact h.each (fun _ h₁ => h₁.closeSession)

theorem Evolves.dropRole (h : Evolves K s u) (hK : (Scope.of [.MGT_BUS_STATUS] [.mgt]).le K = true := by decide +kernel) :
    Evolves K s u.dropRole := by
  refine h.widen hK fun h => ?_
  unfold State.dropRole
  exact h.setFld.modMgt

theorem Evolves.eraseKeys (h : Evolves K s u) (hK : (Scope.of [.MGT_SESSION] [.mgt, .sec]).le K = true := by decide +kernel) :
    Evolves K s u.eraseKeys := by
  refine h.widen hK fun h => ?_
  unfold State.eraseKeys
  exact h.closeSessions.modSec

/-- What `State.eraseAll` may change. -/
def eraseAllScope : Scope := .of [.MGT_SESSION, .SEC_STATUS, .SEC_NONCE, .SEC_KEY_STATUS, .SEC_DBG_STATUS] [.mgt, .sec]

theorem Evolves.eraseAll (h : Evolves K s u) (hK : eraseAllScope.le K = true := by decide +kernel) : Evolves K s u.eraseAll := by
  refine h.widen hK fun h => ?_
  unfold State.eraseAll
  exact h.eraseKeys.modSec.resetReg.setFlag.setFlag.setFld

theorem Evolves.hrnResult {result detail : Nat} {img : List Byte} (h : Evolves K s u)
    (hK : (Scope.of [.HRN_STATUS, .HRN_LOAD_OK, .HRN_LOAD_REJ, .EVL_DROPPED] [.recorder]).le K = true := by decide +kernel) :
    Evolves K s (u.hrnResult result detail img) := by
  refine h.widen hK fun h => ?_
  unfold State.hrnResult
  exact (h.setFld.setFld.cond (fun h₁ => h₁.count) (fun h₁ => h₁.count)).log

/-- What `State.undoLoad` may change. -/
def undoLoadScope : Scope := .of [.HRN_GROUP_STATE, .EQP_STATUS, .EQP_OP_STATUS, .CIN_CH_ACCT, .EVL_DROPPED] [.recorder, .grp]

theorem Evolves.undoLoad {l : LoadX} (h : Evolves K s u) (hK : undoLoadScope.le K = true := by decide +kernel) :
    Evolves K s (u.undoLoad l) := by
  refine h.widen hK fun h => ?_
  unfold State.undoLoad
  exact ((h.foldl (fun _ h₁ => h₁.goGroup)).when fun h₁ => h₁.each (fun _ h₂ => h₂.grant1)).each (fun _ h₁ =>
      (h₁.each (fun _ h₂ => h₂.reliefIn)).each (fun _ h₂ => h₂.reliefIn))

/-- What `State.loadAborts` may change. -/
def loadAbortsScope : Scope := .of [.HRN_STATUS, .HRN_LOAD_OK, .HRN_LOAD_REJ, .HRN_GROUP_STATE, .EQP_STATUS, .EQP_OP_STATUS, .CIN_CH_ACCT,
    .EVL_DROPPED] [.recorder, .grp, .hrn]

theorem Evolves.loadAborts (h : Evolves K s u) (hK : loadAbortsScope.le K = true := by decide +kernel) : Evolves K s u.loadAborts := by
  refine h.widen hK fun h => ?_
  unfold State.loadAborts
  dsimp only
  split
  exacts [h, Evolves.ite h ((((Evolves.ite h.undoLoad h).modHrn).hrnResult).setFld)]

theorem Evolves.cutTransfers {ms : List Nat} (h : Evolves K s u)
    (hK : (Scope.of [.DMA_STATUS] [.dma, .engine]).le K = true := by decide +kernel) : Evolves K s (u.cutTransfers ms) := by
  refine h.widen hK fun h => ?_
  unfold State.cutTransfers
  exact (h.each (fun _ h₁ => (Evolves.ite h₁.same h₁).modDma)).dmaGrant

/-- What `State.powerDown` may change. -/
def powerDownScope : Scope := .join [clearGroupsScope, .of [.GLB_STATE, .PWR_STATE, .CLK_STATUS, .CLK_LINE, .CLK_HOST, .HRN_GROUP_STATE,
    .HSI_CLK, .MGT_SESSION, .HKA_STREAM_CFG, .MEM_REGION_ARMED, .DMA_CTRL, .DMA_STATUS, .EVL_DROPPED] [.recorder, .mgt, .mem, .strm,
    .memx, .dma, .engine]]

theorem Evolves.powerDown (h : Evolves K s u) (hK : powerDownScope.le K = true := by decide +kernel) : Evolves K s u.powerDown := by
  refine h.widen hK fun h => ?_
  unfold State.powerDown
  exact ((((((h.stopStreams.clearGroups.each (fun _ h₁ => h₁.goGroup.lineOff)).each (fun _ h₁ =>
      h₁.hostOff)).cutTransfers).each (fun _ h₁ => h₁.loseRegion)).closeSessions).setFld).setFld

/-- What `State.toStandby` may change. -/
def toStandbyScope : Scope := .join [closeGroupsScope, powerDownScope]

theorem Evolves.toStandby (h : Evolves K s u) (hK : toStandbyScope.le K = true := by decide +kernel) : Evolves K s u.toStandby := by
  refine h.widen hK fun h => ?_
  unfold State.toStandby
  exact h.closeGroups.powerDown

/-- What `State.activate` may change. -/
def activateScope : Scope := .join [reopenGroupsScope, .of [.CLK_STATUS, .CLK_LINE, .CLK_HOST] []]

theorem Evolves.activate {failed : List Nat} (h : Evolves K s u) (hK : activateScope.le K = true := by decide +kernel) :
    Evolves K s (u.activate failed) := by
  refine h.widen hK fun h => ?_
  unfold State.activate
  exact h.setFld.setFld.loadDevice.idleOff.reopenGroups

/-- What `State.toActive` may change. -/
def toActiveScope : Scope := .join [activateScope, .of [.MEM_REGION_ARMED] [.clk]]

theorem Evolves.toActive (h : Evolves K s u) (hK : toActiveScope.le K = true := by decide +kernel) : Evolves K s u.toActive := by
  refine h.widen hK fun h => ?_
  unfold State.toActive
  exact ((h.each (fun _ h₁ => h₁.initRegion)).askSynths).cond (fun h₁ => h₁.activate) (fun h₁ => h₁.setFld)

/-- What `State.thermalRestart` may change. -/
def thermalRestartScope : Scope := .of [.GLB_STATE, .MGT_ALERT_STATUS, .THM_STATUS, .EVL_DROPPED] [.risen, .recorder, .mgt]

theorem Evolves.thermalRestart (h : Evolves K s u) (hK : thermalRestartScope.le K = true := by decide +kernel) :
    Evolves K s u.thermalRestart := by
  refine h.widen hK fun h => ?_
  unfold State.thermalRestart
  exact Evolves.ite h.setFld.showThm.logHot.alert h

theorem Evolves.flushQueue (h : Evolves K s u) (hK : writeRecScope.le K = true := by decide +kernel) : Evolves K s u.flushQueue := by
  refine h.widen hK fun h => ?_
  unfold State.flushQueue
  exact (h.modRec (Nat.zero_le _)).foldl fun _ h => h.writeRec

theorem Evolves.wakeStart {w : WakeX} {ns : Nat} (h : Evolves K s u)
    (hK : (Scope.of [.PWR_WAKE_SRC, .PWR_WAKE_TIME, .PWR_STAGE_TIME] [.pwr]).le K = true := by decide +kernel) :
    Evolves K s (u.wakeStart w ns) := by
  refine h.widen hK fun h => ?_
  unfold State.wakeStart
  exact (((((((((Evolves.ite h.setFlag.setFld h).setFld).setFld).setFld).setFld).setFld).setFld).setFld).resetReg).modPwr

/-- What `State.sleepNow` may change. -/
def sleepNowScope : Scope := .join [writeRecScope, calRunScope, .of [.PWR_STATE, .PWR_WAKE_SRC, .PWR_WAKE_TIME, .PWR_STAGE_TIME,
    .MGT_BUS_STATUS, .MGT_SESSION, .MEM_REGION_ARMED] [.freeCtr, .time, .pins, .pwr]]

theorem Evolves.sleepNow {goal : Nat} (h : Evolves K s u) (hK : sleepNowScope.le K = true := by decide +kernel) :
    Evolves K s (u.sleepNow goal) := by
  refine h.widen hK @fun s h => ?_
  have hcal : Evolves sleepNowScope s (if goal = 1 then u.fresh.2.calRun 50 Cal.OK (u.fresh.1.toNat % 2 ^ 32) else u.fresh.2) := h.fresh.when fun h =>
      h.calRun
  have hmem := hcal.dropRole.closeSessions.flushQueue.each (is := [18, 19]) (f := fun m s => s.loseRegion m) fun m h => h.loseRegion
  have hpins := hmem.each (is := lanes16) (f := fun q s => if s.pinRole q = 3 then s.setPin q false else s) fun q h => h.when fun h =>
      h.setPin
  unfold State.sleepNow
  generalize u.fresh = p at hpins ⊢
  obtain ⟨v, w⟩ := p
  dsimp only at hpins ⊢
  generalize State.each _ lanes16 _ = w at hpins ⊢
  split
  · exact Evolves.wakeStart (.modPwr (.setFld (.setTime (.setTime hpins id) id)))
  · exact (.modPwr (.setFld (.setTime (.setTime hpins id) id)))

theorem Evolves.startBist {boot : Bool} (h : Evolves K s u)
    (hK : (Scope.of [.BST_RESULT, .BST_PART] [.pwr]).le K = true := by decide +kernel) : Evolves K s (u.startBist boot) := by
  refine h.widen hK fun h => ?_
  unfold State.startBist
  exact (h.setFld.setFld.each (fun _ h₁ => h₁.resetReg.setFld)).modPwr

/-- What `State.sleepEntry` may change. -/
def sleepEntryScope : Scope := .join [sleepNowScope, eraseAllScope, .of [.BST_RESULT, .BST_PART] []]

theorem Evolves.sleepEntry {goal : Nat} (h : Evolves K s u) (hK : sleepEntryScope.le K = true := by decide +kernel) :
    Evolves K s (u.sleepEntry goal) := by
  refine h.widen hK fun h => ?_
  unfold State.sleepEntry
  exact Evolves.ite h.eraseAll.setFld.modPwr.startBist h.sleepNow

theorem Evolves.pwrResult {r : Nat} (h : Evolves K s u) (hK : (Scope.of [.PWR_STATE] []).le K = true := by decide +kernel) :
    Evolves K s (u.pwrResult r) := by
  refine h.widen hK fun h => ?_
  unfold State.pwrResult
  exact h.setFld

/-- What `State.pwrCommand` may change. -/
def pwrCommandScope : Scope := .join [toActiveScope, toStandbyScope, sleepEntryScope, .of [.THM_STATUS] []]

theorem Evolves.pwrCommand {cmd : Nat} (h : Evolves K s u) (hK : pwrCommandScope.le K = true := by decide +kernel) :
    Evolves K s (u.pwrCommand cmd) := by
  refine h.widen hK fun h => ?_
  unfold State.pwrCommand
  refine Evolves.ite (h.pwrResult.modPwr.when fun h₁ => h₁.toStandby) ?_
  refine Evolves.ite (Evolves.ite h.pwrResult (Evolves.ite h.pwrResult h.pwrResult.thermalRestart.toActive)) ?_
  exact Evolves.ite h.pwrResult (Evolves.ite h.pwrResult ((h.pwrResult.modPwr.when fun h₁ => h₁.toStandby).sleepEntry))

theorem Evolves.pwrRequest {cmd : Nat} (h : Evolves K s u) (hK : pwrCommandScope.le K = true := by decide +kernel) :
    Evolves K s (u.pwrRequest cmd) := by
  refine h.widen hK fun h => ?_
  unfold State.pwrRequest
  exact Evolves.ite h.pwrResult (Evolves.ite h.modPwr.setFlag h.pwrCommand)

theorem Evolves.runDeferred (h : Evolves K s u) (hK : pwrCommandScope.le K = true := by decide +kernel) : Evolves K s u.runDeferred := by
  refine h.widen hK fun h => ?_
  unfold State.runDeferred
  split
  exacts [h, Evolves.ite h h.modPwr.setFlag.pwrRequest]

theorem Evolves.wrPwrCtrl {p : Path} {v₁ : Nat} (h : Evolves K s u) (hK : pwrCommandScope.le K = true := by decide +kernel) :
    Evolves K s (wrPwrCtrl p v₁ u).1 := by
  refine h.widen hK fun h => ?_
  unfold Machine.wrPwrCtrl
  dsimp only
  exact (h.plainWrite (r := .PWR_CTRL)).step fun h₁ => by split; exacts [h₁, (by split; exacts [h₁.rejectWrite, h₁.pwrRequest])]

/-- What `State.lowPower` may change. -/
def lowPowerScope : Scope := .join [toActiveScope, toStandbyScope]

theorem Evolves.lowPower (h : Evolves K s u) (hK : lowPowerScope.le K = true := by decide +kernel) : Evolves K s u.lowPower := by
  refine h.widen hK fun h => ?_
  unfold State.lowPower
  refine Evolves.ite h ?_
  exact h.setFlag.skip fun h₁ =>
      Evolves.ite (Evolves.ite (Evolves.ite h₁.modPwr h₁.modPwr.toStandby) (Evolves.ite h₁.modPwr.powerDown h₁))
      ((Evolves.ite h₁.modPwr h₁).cond (fun h₂ => h₂.modPwr.skip fun h₃ => h₃.toActive) (fun h₂ => h₂.modPwr))

theorem Evolves.runLowPower (h : Evolves K s u) (hK : pwrCommandScope.le K = true := by decide +kernel) : Evolves K s u.runLowPower := by
  refine h.widen hK fun h => ?_
  unfold State.runLowPower
  exact Evolves.ite (h.modPwr.when fun h₁ => h₁.modPwr.toStandby) h.runDeferred

theorem Evolves.reborn {keep : List Reg} (h : Evolves .all s u) : Evolves .all s (u.reborn keep) := by
  unfold State.reborn
  refine .foldl (h.trans ⟨rfl, rfl, Nat.le_refl _, .inr rfl, .inr rfl, fun hc => ⟨?_, rfl, hc.2.2⟩, fun _ => ?_, fun _ => ?_,
    fun _ _ hr => Bool.noConfusion hr, fun _ hp => Bool.noConfusion hp⟩) fun _ h => h.setFld rfl
  · exact Tab.wf_filter _ hc.1
  · exact Nat.mul_pos (by decide) (by decide)
  · exact Nat.zero_le _

theorem Evolves.keepFences {w : State} (h : Evolves K s u)
    (hK : (Scope.of [.GLB_FENCE, .EQP_POOL, .EQP_SLICE_STATE, .BST_DEC_STATE] [.grp]).le K = true := by decide +kernel) :
    Evolves K s (u.keepFences w) := by
  refine h.widen hK fun h => ?_
  unfold State.keepFences
  refine .showFences (h.each fun g h => ?_)
  exact .when (.each (.each (.each h fun _ h => h.when fun h => h.setSlice) fun _ h => h.when fun h => h.setUnit)
    fun _ h => h.when fun h => h.setDec) fun h => h.modGrp

theorem Evolves.keepWarm {w : State} (h : Evolves .all s u) (hw : Evolves .all s w) : Evolves .all s (u.keepWarm w) := by
  have keep : ∀ {v : State} {x : HrnX} {y : ThmX} {z : MirrorX} {m : MemX}, Evolves .all s v → Evolves .all s { v with
      time := w.time, hrn := x, thm := y, recorder := { v.recorder with mirror := z }, mem := w.mem, memx := m } := fun hv =>
    ⟨hv.pending, hv.cycle, hv.free, hv.timer, hv.interval,
      fun hs => ⟨(hv.canonical hs).1, (hw.canonical hs).2.1, (hv.canonical hs).2.2⟩, hw.clock, hv.queue,
      fun _ _ hr => Bool.noConfusion hr, fun _ hp => Bool.noConfusion hp⟩
  unfold State.keepWarm
  exact keep (.each (.each (.each (.each h.keepFences fun _ h => h.modLfec) fun _ h => .showSlots h.modClane) fun _ h => h.setFld)
    fun _ h => h.setFld)

theorem Evolves.copyLatch (h : Evolves K s u)
    (hK : (Scope.of [.GLB_STATE, .MGT_ALERT_STATUS] [.risen, .mgt, .pwr]).le K = true := by decide +kernel) :
    Evolves K s u.copyLatch := by
  refine h.widen hK fun h => ?_
  unfold State.copyLatch
  exact Evolves.ite h.modPwr.alert h

theorem Evolves.warmReset (h : Evolves K s u) (hK : Scope.all.le K = true := by decide +kernel) : Evolves K s u.warmReset := by
  refine h.widen hK @fun s h => ?_
  have timers : ∀ {v : State}, Evolves Scope.all s v → Evolves Scope.all s { v with frameTimer := u.frameTimer, interval := u.interval } := fun hv =>
    ⟨hv.pending, hv.cycle, hv.free, h.timer, h.interval, hv.canonical, hv.clock, hv.queue, fun _ _ hr => Bool.noConfusion hr, fun _ hp => Bool.noConfusion hp⟩
  unfold State.warmReset
  exact .copyLatch (.restoreRecords (.modPwr (.setFld (.resetReg (.setFld (.setFld (timers (h.reborn.keepWarm h))))))))

theorem Evolves.coldReset (h : Evolves K s u) (hK : Scope.all.le K = true := by decide +kernel) : Evolves K s u.coldReset := by
  refine h.widen hK fun h => ?_
  unfold State.coldReset
  exact h.reborn.modPwr.logBoot.copyLatch

end Sys2Proof.Machine
end

section
/-! SUPPORT. What Harness loads leave: `Evolves`, for each operation and command. -/
namespace Sys2Proof.Machine
open Sys2Proof
set_option Elab.async false
variable {K : Scope} {s u t₀ : State}

theorem Evolves.appendStaging {bs : List Byte} (h : Evolves K s u)
    (hK : (Scope.of [.HRN_LOAD_COUNT] [.hrn]).le K = true := by decide +kernel) : Evolves K s (u.appendStaging bs) := by
  refine h.widen hK fun h => ?_
  unfold State.appendStaging
  exact h.modHrn.setFld

theorem Evolves.setStaging {bs : List Byte} (h : Evolves K s u)
    (hK : (Scope.of [.HRN_LOAD_COUNT] [.hrn]).le K = true := by decide +kernel) : Evolves K s (u.setStaging bs) := by
  refine h.widen hK fun h => ?_
  unfold State.setStaging
  exact h.modHrn.setFld

/-- What `State.trial` may change. -/
def trialScope : Scope := .join [clearGroupsScope, loadGroupsScope, loadDeviceScope, .of [.PWR_STATE] [.cfg]]

theorem Evolves.trial {new : Cfg} {full : Bool} {mask : Nat} (h : Evolves K s u)
    (hK : trialScope.le K = true := by decide +kernel) : Evolves K s (u.trial new full mask) := by
  refine h.widen hK fun h => ?_
  unfold State.trial
  exact (((h.setFld (f := PWR_STATE.STATE)).same.clearGroups.each (fun _ h₁ => h₁.setFld)).when fun h₁ => h₁.loadDevice).loadGroups

theorem Evolves.setMeas {i : Nat} {digest : List Byte} (h : Evolves K s u)
    (hK : (Scope.of [.SEC_MEAS] []).le K = true := by decide +kernel) : Evolves K s (u.setMeas i digest) := by
  refine h.widen hK fun h => ?_
  unfold State.setMeas
  exact h.setFld

theorem Evolves.measureHarness (h : Evolves K s u) (hK : (Scope.of [.SEC_MEAS] []).le K = true := by decide +kernel) :
    Evolves K s u.measureHarness := by
  refine h.widen hK fun h => ?_
  unfold State.measureHarness
  exact h.setMeas.setMeas

theorem Evolves.accept {image : List Byte} {new : Cfg} (h : Evolves K s u)
    (hK : (Scope.of [.HRN_IMAGE_INFO, .HRN_IMAGE_HASH, .HRN_GROUP_STATE, .SEC_MEAS] [.cfg, .hrn]).le K = true := by decide +kernel) :
    Evolves K s (u.accept image new) := by
  refine h.widen hK fun h => ?_
  unfold State.accept
  exact (((h.same.modHrn.when fun h₁ => h₁.setFld.setFld).setFld).each (fun _ h₁ => h₁.setFld)).measureHarness

/-- What `State.endLoad` may change. -/
def endLoadScope : Scope := .join [pwrCommandScope, .of [.HRN_STATUS, .HRN_LOAD_OK, .HRN_LOAD_REJ] [.hrn]]

theorem Evolves.endLoad {l : LoadX} {result detail : Nat} (h : Evolves K s u) (hK : endLoadScope.le K = true := by decide +kernel) :
    Evolves K s (u.endLoad l result detail) := by
  refine h.widen hK fun h => ?_
  unfold State.endLoad
  exact h.modHrn.hrnResult.setFld.runLowPower

theorem Evolves.stageLoad {l : LoadX} {k : Nat} (h : Evolves K s u) (hK : (Scope.of [] [.hrn]).le K = true := by decide +kernel) :
    Evolves K s (u.stageLoad l k) := by
  refine h.widen hK fun h => ?_
  unfold State.stageLoad
  exact h.modHrn

theorem Evolves.quiesceStart {l : LoadX} (h : Evolves K s u)
    (hK : (Scope.of [.HRN_STATUS, .HRN_GROUP_STATE, .EVL_DROPPED] [.recorder, .hrn]).le K = true := by decide +kernel) :
    Evolves K s (u.quiesceStart l) := by
  refine h.widen hK fun h => ?_
  unfold State.quiesceStart
  exact h.stageLoad.setFld.each (fun _ h₁ => h₁.goGroup)

/-- What `State.beginRebuild` may change. -/
def beginRebuildScope : Scope := .join [endOpScope, .of [.CLK_STATUS, .CLK_LINE, .CLK_HOST, .HRN_STATUS, .HRN_GROUP_STATE, .EQP_POOL,
    .EQP_SLICE_STATE, .HSI_CLK, .BST_DEC_STATE, .BST_IS_ABORT] [.hrn, .clk]]

theorem Evolves.beginRebuild {l : LoadX} {new : Cfg} (h : Evolves K s u) (hK : beginRebuildScope.le K = true := by decide +kernel) :
    Evolves K s (u.beginRebuild l new) := by
  refine h.widen hK fun h => ?_
  unfold State.beginRebuild
  exact (h.each (fun _ h₁ => h₁.abortTests.abortQueued)).cond (fun h₁ => h₁.quiesceStart) (fun h₁ =>
      h₁.askSynths.stageLoad.setFld.each (fun _ h₂ => h₂.goGroup))

/-- What `State.applyHeld` may change. -/
def applyHeldScope : Scope := .join [endLoadScope, .of [.HRN_IMAGE_INFO, .HRN_IMAGE_HASH, .SEC_MEAS] [.cfg]]

theorem Evolves.applyHeld {l : LoadX} {new : Cfg} (h : Evolves K s u) (hK : applyHeldScope.le K = true := by decide +kernel) :
    Evolves K s (u.applyHeld l new) := by
  refine h.widen hK fun h => ?_
  unfold State.applyHeld
  exact (((h.accept.each (fun _ h₁ => h₁.showModes)).when fun h₁ => h₁.loadDevice).regInit).cond (fun h₁ =>
      (h₁.askSynths.when fun h₂ => h₂.activate).endLoad) (fun h₁ => h₁.endLoad)

theorem Evolves.verified {l : LoadX} (h : Evolves K s u) (hK : applyHeldScope.le K = true := by decide +kernel) :
    Evolves K s (u.verified l) := by
  refine h.widen hK fun h => ?_
  unfold State.verified
  exact h.setFld.cond
      (fun h₁ => h₁.endLoad) (fun h₁ =>
      Evolves.ite h₁.endLoad (Evolves.ite h₁.stageLoad.setFld (Evolves.ite h₁.beginRebuild h₁.applyHeld)))

theorem Evolves.retune {old new : Cfg} {gs : List Nat} (h : Evolves K s u)
    (hK : (Scope.of [.CLK_STATUS, .CLK_LINE, .CLK_HOST, .HSI_CLK] [.clk]).le K = true := by decide +kernel) :
    Evolves K s (u.retune old new gs) := by
  refine h.widen hK fun h => ?_
  unfold State.retune
  exact (h.each (fun _ h₁ => h₁.tuneLine)).each (fun _ h₁ => h₁.tuneHost)

/-- What `State.quiesceNow` may change. -/
def quiesceNowScope : Scope := .join [closeGroupsScope, .of [.CLK_STATUS, .CLK_LINE, .CLK_HOST, .HRN_GROUP_STATE] [.hrn, .clk]]

theorem Evolves.quiesceNow {l : LoadX} (h : Evolves K s u) (hK : quiesceNowScope.le K = true := by decide +kernel) :
    Evolves K s (u.quiesceNow l) := by
  refine h.widen hK fun h => ?_
  unfold State.quiesceNow
  exact ((h.closeGroups.clearGroups.each (fun _ h₁ => h₁.goGroup)).stageLoad).retune

theorem Evolves.reopenLoad {l : LoadX} (h : Evolves K s u) (hK : applyHeldScope.le K = true := by decide +kernel) :
    Evolves K s (u.reopenLoad l) := by
  refine h.widen hK fun h => ?_
  unfold State.reopenLoad
  exact Evolves.ite h.reopenGroups.idleOff.endLoad ((((h.accept.when fun h₁ => h₁.loadDevice).reopenGroups).idleOff).endLoad)

theorem Evolves.rebuildTimeout {l : LoadX} (h : Evolves K s u) (hK : endLoadScope.le K = true := by decide +kernel) :
    Evolves K s (u.rebuildTimeout l) := by
  refine h.widen hK fun h => ?_
  unfold State.rebuildTimeout
  exact Evolves.ite h.stageLoad.retune h.reopenGroups.alert.endLoad

theorem Evolves.startLoad {cmd : Nat} (h : Evolves K s u) (hK : (Scope.of [.HRN_STATUS] [.hrn]).le K = true := by decide +kernel) :
    Evolves K s (u.startLoad cmd) := by
  refine h.widen hK fun h => ?_
  unfold State.startLoad
  exact h.modHrn.setFld

theorem Evolves.cancelLoad (h : Evolves K s u) (hK : endLoadScope.le K = true := by decide +kernel) : Evolves K s u.cancelLoad := by
  refine h.widen hK fun h => ?_
  unfold State.cancelLoad
  split
  exacts [h, Evolves.ite h.loadAborts.runLowPower h]

/-- What `State.hrnCommand` may change. -/
def hrnCommandScope : Scope := .join [pwrCommandScope, .of [.HRN_STATUS, .HRN_LOAD_COUNT, .HRN_LOAD_OK, .HRN_LOAD_REJ] [.hrn]]

theorem Evolves.hrnCommand {cmd : Nat} (h : Evolves K s u) (hK : hrnCommandScope.le K = true := by decide +kernel) :
    Evolves K s (u.hrnCommand cmd) := by
  refine h.widen hK fun h => ?_
  unfold State.hrnCommand
  refine Evolves.ite h.cancelLoad ?_
  exact Evolves.ite h.hrnResult (Evolves.ite h.setStaging.setFld (Evolves.ite h.setStaging.startLoad h.startLoad))

theorem Evolves.wrHrnLoadCtrl {p : Path} {v₁ : Nat} (h : Evolves K s u) (hK : hrnCommandScope.le K = true := by decide +kernel) :
    Evolves K s (wrHrnLoadCtrl p v₁ u).1 := by
  refine h.widen hK fun h => ?_
  unfold Machine.wrHrnLoadCtrl
  dsimp only
  split
  · exact h.rejectWrite
  · exact (Evolves.ite h (h.plainWrite (r := .HRN_LOAD_CTRL))).step fun h₁ => by split; exacts [h₁, (by split; exacts [h₁.rejectWrite, h₁.hrnCommand])]

theorem Evolves.wrHrnLoadData {p : Path} {v₁ : Nat} (h : Evolves K s u)
    (hK : (Scope.of [.HRN_LOAD_COUNT, .EVL_DROPPED] [.recorder, .hrn]).le K = true := by decide +kernel) :
    Evolves K s (wrHrnLoadData p v₁ u).1 := by
  refine h.widen hK fun h => ?_
  unfold Machine.wrHrnLoadData
  split
  exacts [h.rejectWrite, h.appendStaging]

theorem hrnRow_answers {p : Path} {cmd : Nat} (h : Evolves .all s u) : Answers s (hrnRow p cmd u) := by
  unfold hrnRow
  exact writeCommand_answers h (fun h₁ => h₁.wrHrnLoadCtrl)

theorem execHrnOpen_answers {p : Path} (h : Evolves .all s u) : Answers s (execHrnOpen p u) := by
  unfold execHrnOpen
  exact hrnRow_answers h

theorem execHrnLoadData_answers {p : Path} {value : Word32} (h : Evolves .all s u) : Answers s (execHrnLoadData p value u) := by
  unfold execHrnLoadData
  exact writeCommand_answers h (fun h₁ => h₁.wrHrnLoadData)

theorem execCommit_answers {p : Path} (h : Evolves .all s u) : Answers s (execCommit p u) := by
  unfold execCommit
  exact hrnRow_answers h

theorem execCancel_answers {p : Path} (h : Evolves .all s u) : Answers s (execCancel p u) := by
  unfold execCancel
  exact hrnRow_answers h

theorem execVerify_answers {p : Path} (h : Evolves .all s u) : Answers s (execVerify p u) := by
  unfold execVerify
  exact hrnRow_answers h

theorem execWriteA_answers {p : Path} (h : Evolves .all s u) : Answers s (execWriteA p u) := by
  unfold execWriteA
  exact hrnRow_answers h

theorem execWriteB_answers {p : Path} (h : Evolves .all s u) : Answers s (execWriteB p u) := by
  unfold execWriteB
  exact hrnRow_answers h

theorem execLoadA_answers {p : Path} (h : Evolves .all s u) : Answers s (execLoadA p u) := by
  unfold execLoadA
  exact hrnRow_answers h

theorem execLoadB_answers {p : Path} (h : Evolves .all s u) : Answers s (execLoadB p u) := by
  unfold execLoadB
  exact hrnRow_answers h

theorem execVerificationDone_answers (h : Evolves .all s u) : Answers s (execVerificationDone u) := by
  unfold execVerificationDone
  split
  exacts [.next (Evolves.ite h.verified h), .next h]

theorem execFlashWriteDone_answers (h : Evolves .all s u) : Answers s (execFlashWriteDone u) := by
  unfold execFlashWriteDone
  split
  exacts [.next (Evolves.ite h.setFlashBytes.endLoad h), .next h]

theorem execDrainEnd_answers (h : Evolves .all s u) : Answers s (execDrainEnd u) := by
  unfold execDrainEnd
  split
  exacts [.next (Evolves.ite h.stageLoad h), .next h]

theorem execQuiesce_answers (h : Evolves .all s u) : Answers s (execQuiesce u) := by
  unfold execQuiesce
  split
  exacts [.next (Evolves.ite h.quiesceNow h), .next h]

theorem execReopen_answers (h : Evolves .all s u) : Answers s (execReopen u) := by
  unfold execReopen
  split
  exacts [.next (Evolves.ite h.reopenLoad h), .next h]

theorem execRebuildPllTimeout_answers (h : Evolves .all s u) : Answers s (execRebuildPllTimeout u) := by
  unfold execRebuildPllTimeout
  split
  exacts [.next (Evolves.ite h.rebuildTimeout h), .next h]

end Sys2Proof.Machine
end

section
/-! SUPPORT. What identity and security leave: `Evolves`, for each operation and command. -/
namespace Sys2Proof.Machine
open Sys2Proof
set_option Elab.async false
variable {K : Scope} {s u t₀ : State}

theorem Evolves.logSec {kind keyId detail : Nat} (h : Evolves K s u)
    (hK : (Scope.of [.EVL_DROPPED] [.recorder]).le K = true := by decide +kernel) : Evolves K s (u.logSec kind keyId detail) := by
  refine h.widen hK fun h => ?_
  unfold State.logSec
  exact h.log

theorem Evolves.measureSec (h : Evolves K s u) (hK : (Scope.of [.SEC_MEAS] []).le K = true := by decide +kernel) :
    Evolves K s u.measureSec := by
  refine h.widen hK fun h => ?_
  unfold State.measureSec
  exact h.setMeas.setMeas

theorem Evolves.showOwner (h : Evolves K s u) (hK : (Scope.of [.SEC_STATUS, .SEC_MEAS] []).le K = true := by decide +kernel) :
    Evolves K s u.showOwner := by
  refine h.widen hK fun h => ?_
  unfold State.showOwner
  exact h.setFlag.measureSec

theorem Evolves.keyResult {r : Nat} (h : Evolves K s u) (hK : (Scope.of [.SEC_KEY_STATUS] []).le K = true := by decide +kernel) :
    Evolves K s (u.keyResult r) := by
  refine h.widen hK fun h => ?_
  unfold State.keyResult
  exact h.setFld

theorem Evolves.nonceValid {b : Bool} (h : Evolves K s u)
    (hK : (Scope.of [.SEC_KEY_STATUS, .SEC_DBG_STATUS] []).le K = true := by decide +kernel) : Evolves K s (u.nonceValid b) := by
  refine h.widen hK fun h => ?_
  unfold State.nonceValid
  exact h.setFlag.setFlag

theorem Evolves.newSecNonce (h : Evolves K s u)
    (hK : (Scope.of [.SEC_NONCE, .SEC_KEY_STATUS, .SEC_DBG_STATUS] [.freeCtr, .sec]).le K = true := by decide +kernel) :
    Evolves K s u.newSecNonce := by
  refine h.widen hK fun h => ?_
  unfold State.newSecNonce
  exact h.fresh.setFld.nonceValid.modSec

theorem Evolves.enrol (h : Evolves K s u)
    (hK : (Scope.of [.SEC_KEY_STATUS, .SEC_DBG_STATUS] [.sec]).le K = true := by decide +kernel) : Evolves K s u.enrol := by
  refine h.widen hK fun h => ?_
  unfold State.enrol
  exact Evolves.ite h.keyResult (h.nonceValid.cond (fun h₁ => h₁.modSec) (fun h₁ => h₁.keyResult))

theorem Evolves.revoke {p : Path} {slot : Nat} (h : Evolves K s u)
    (hK : (Scope.of [.SEC_KEY_STATUS] [.sec]).le K = true := by decide +kernel) : Evolves K s (u.revoke p slot) := by
  refine h.widen hK fun h => ?_
  unfold State.revoke
  refine Evolves.ite h.keyResult ?_
  refine Evolves.ite (Evolves.ite h.keyResult (Evolves.ite h.keyResult h.modSec)) ?_
  exact Evolves.ite h.keyResult (Evolves.ite h.keyResult h.modSec)

theorem Evolves.blowFuse {f : Nat × Nat × Nat × List Byte} (h : Evolves K s u)
    (hK : (Scope.of [.SEC_STATUS, .SEC_KEY_SLOT, .EVL_DROPPED] [.recorder, .sec]).le K = true := by decide +kernel) :
    Evolves K s (u.blowFuse f) := by
  refine h.widen hK fun h => ?_
  unfold State.blowFuse
  exact Evolves.ite h.setFlag.logSec (Evolves.ite h.setFlag.logSec h.setFld.setFld.setFlag.modSec.logSec)

theorem Evolves.cutFuse (h : Evolves K s u)
    (hK : (Scope.of [.SEC_STATUS, .SEC_KEY_SLOT, .EVL_DROPPED] [.freeCtr, .recorder, .sec]).le K = true := by decide +kernel) :
    Evolves K s u.cutFuse := by
  refine h.widen hK fun h => ?_
  unfold State.cutFuse
  dsimp only
  split
  exacts [h, ((h.fresh.modSec.skip fun h₁ => h₁.blowFuse).when fun h₁ => h₁.setFlag).setFlag]

/-- What `wrSecKeyCtrl` may change. -/
def wrSecKeyCtrlScope : Scope := .of [.MGT_ACCESS_VIOL, .SEC_NONCE, .SEC_KEY_STATUS, .SEC_DBG_STATUS, .EVL_DROPPED] [.freeCtr, .recorder,
    .sec]

theorem Evolves.wrSecKeyCtrl {p : Path} {v₁ : Nat} (h : Evolves K s u) (hK : wrSecKeyCtrlScope.le K = true := by decide +kernel) :
    Evolves K s (wrSecKeyCtrl p v₁ u).1 := by
  refine h.widen hK fun h => ?_
  unfold Machine.wrSecKeyCtrl
  dsimp only
  split
  · exact h.newSecNonce.keyResult
  · split
    · exact h.enrol
    · split
      · split
        exacts [h.accessViolation, h.revoke]
      · exact h.rejectWrite

theorem Evolves.wrSecKeyData {v₁ : Nat} (h : Evolves K s u) (hK : (Scope.of [] [.sec]).le K = true := by decide +kernel) :
    Evolves K s (wrSecKeyData v₁ u).1 :=
  h.widen hK fun h => .fst h.modSec

theorem Evolves.wrRollback {p : Path} {v₁ : Nat} (h : Evolves K s u)
    (hK : (Scope.of [.SEC_STATUS, .SEC_ROLLBACK_CTRL, .SEC_KEY_STATUS, .SEC_MEAS, .EVL_DROPPED] [.recorder]).le K = true := by decide +kernel) :
    Evolves K s (wrRollback p v₁ u).1 := by
  refine h.widen hK fun h => ?_
  unfold Machine.wrRollback
  dsimp only
  split
  · exact h.rejectWrite
  · split
    · exact Evolves.ite h.setFld.keyResult.logSec.measureSec h.keyResult
    · exact Evolves.ite h.setFld.keyResult.logSec.measureSec h.keyResult

theorem Evolves.putBootRec {r : BootRec} (h : Evolves K s u) (hK : (Scope.of [] [.flash]).le K = true := by decide +kernel) :
    Evolves K s (u.putBootRec r) := by
  refine h.widen hK fun h => ?_
  unfold State.putBootRec
  exact h.setFlashBytes.setFlashBytes

theorem Evolves.runFirmware {slot : Nat} {trial : Bool} {i : List Byte} (h : Evolves K s u)
    (hK : (Scope.of [.SEC_STATUS, .SEC_FW_STATUS, .SEC_FW_SPACE, .SEC_MEAS] [.sec]).le K = true := by decide +kernel) :
    Evolves K s (u.runFirmware slot trial i) := by
  refine h.widen hK fun h => ?_
  unfold State.runFirmware
  exact h.modSec.setFld.setFlag.setMeas.setFld.setFld.measureSec

/-- What `State.tryFirmware` may change. -/
def tryFirmwareScope : Scope := .of [.SEC_STATUS, .SEC_FW_STATUS, .SEC_FW_SPACE, .SEC_MEAS, .EVL_DROPPED] [.recorder, .sec]

theorem Evolves.tryFirmware {slot : Nat} {trial : Bool} (h : Evolves K s u)
    (hK : tryFirmwareScope.le K = true := by decide +kernel) : Evolves K s (u.tryFirmware slot trial).1 := by
  refine h.widen hK fun h => ?_
  unfold State.tryFirmware
  dsimp only
  split
  exacts [h.runFirmware, h.logSec]

/-- What `State.selectFirmware` may change. -/
def selectFirmwareScope : Scope := .of [.SEC_STATUS, .SEC_FW_STATUS, .SEC_FW_SPACE, .SEC_MEAS, .EVL_DROPPED] [.recorder, .sec, .flash]

theorem Evolves.selectFirmware (h : Evolves K s u) (hK : selectFirmwareScope.le K = true := by decide +kernel) :
    Evolves K s u.selectFirmware.1 := by
  refine h.widen hK fun h => ?_
  unfold State.selectFirmware
  dsimp only
  refine .iteFst (.fst (.tryFirmware (.when h fun h => h.putBootRec))) (.tryFirmware (.tryFirmware (.when h fun h => h.putBootRec)))

theorem Evolves.enterRecovery (h : Evolves K s u)
    (hK : (Scope.of [.GLB_STATE, .MGT_ALERT_STATUS, .SEC_FW_STATUS] [.risen, .mgt, .sec]).le K = true := by decide +kernel) :
    Evolves K s u.enterRecovery := by
  refine h.widen hK fun h => ?_
  unfold State.enterRecovery
  exact h.setFld.setFld.modSec.alert

theorem Evolves.fwResult {r : Nat} (h : Evolves K s u) (hK : (Scope.of [.SEC_FW_STATUS] []).le K = true := by decide +kernel) :
    Evolves K s (u.fwResult r) := by
  refine h.widen hK fun h => ?_
  unfold State.fwResult
  exact h.setFld

theorem Evolves.fwOpen (h : Evolves K s u)
    (hK : (Scope.of [.SEC_FW_STATUS, .SEC_FW_SPACE] [.sec, .flash]).le K = true := by decide +kernel) : Evolves K s u.fwOpen := by
  refine h.widen hK fun h => ?_
  unfold State.fwOpen
  refine Evolves.ite h.setFld.setFld.modSec.fwResult ?_
  exact Evolves.ite h.fwResult (Evolves.ite h.fwResult h.setFld.setFld.eraseSlot.modSec.setFld.fwResult)

/-- What `State.fwFinish` may change. -/
def fwFinishScope : Scope := .join [pwrCommandScope, .of [.SEC_FW_STATUS, .SEC_FW_SPACE] [.flash]]

theorem Evolves.fwFinish (h : Evolves K s u) (hK : fwFinishScope.le K = true := by decide +kernel) : Evolves K s u.fwFinish := by
  refine h.widen hK fun h => ?_
  unfold State.fwFinish
  dsimp only
  split
  · exact h.fwResult
  · exact Evolves.ite h.modSec (Evolves.ite h.fwResult ((((((Evolves.ite h.putBootRec h).modSec).setFld).setFld).fwResult).runDeferred))

theorem Evolves.restartControllers {recover : Bool} (h : Evolves K s u)
    (hK : (Scope.of [.GLB_STATE, .SEC_FW_STATUS, .SEC_FW_SPACE] [.sec]).le K = true := by decide +kernel) :
    Evolves K s (u.restartControllers recover) := by
  refine h.widen hK fun h => ?_
  unfold State.restartControllers
  exact h.modSec.setFlag.setFld.setFld

theorem Evolves.fwRestart {recover : Bool} (h : Evolves K s u)
    (hK : (Scope.of [.GLB_STATE, .SEC_FW_STATUS, .SEC_FW_SPACE] [.sec]).le K = true := by decide +kernel) :
    Evolves K s (u.fwRestart recover) := by
  refine h.widen hK fun h => ?_
  unfold State.fwRestart
  exact Evolves.ite h.fwResult h.fwResult.restartControllers

theorem Evolves.fwConfirm (h : Evolves K s u)
    (hK : (Scope.of [.SEC_STATUS, .SEC_FW_STATUS, .SEC_MEAS] [.sec, .flash]).le K = true := by decide +kernel) :
    Evolves K s u.fwConfirm := by
  refine h.widen hK fun h => ?_
  unfold State.fwConfirm
  exact Evolves.ite h.fwResult (Evolves.ite h.fwResult h.putBootRec.setFlag.modSec.fwResult.measureSec)

/-- What `wrFwCtrl` may change. -/
def wrFwCtrlScope : Scope := .join [fwFinishScope, .of [.SEC_MEAS] []]

theorem Evolves.wrFwCtrl {p : Path} {v₁ : Nat} (h : Evolves K s u) (hK : wrFwCtrlScope.le K = true := by decide +kernel) :
    Evolves K s (wrFwCtrl p v₁ u).1 := by
  refine h.widen hK fun h => ?_
  unfold Machine.wrFwCtrl
  dsimp only
  split
  · exact h.fwOpen
  · split
    · exact h.fwFinish
    · split
      · exact h.fwRestart
      · split
        · exact h.fwConfirm
        · split
          exacts [h.fwRestart, h.rejectWrite]

theorem Evolves.wrFwData {p : Path} {v₁ space : Nat} (h : Evolves K s u)
    (hK : (Scope.of [.SEC_FW_STATUS, .SEC_FW_SPACE, .EVL_DROPPED] [.recorder, .sec, .flash]).le K = true := by decide +kernel) :
    Evolves K s (wrFwData p v₁ space u).1 := by
  refine h.widen hK fun h => ?_
  unfold Machine.wrFwData
  split
  · exact h.rejectWrite
  dsimp only
  split
  · exact .fst h.modSec.setFld
  split
  exacts [.fst h.setFld.setFld.modSec, .fst h.setFld.setFld.setFlashBytes]

theorem Evolves.dbgResult {r : Nat} (h : Evolves K s u) (hK : (Scope.of [.SEC_DBG_STATUS] []).le K = true := by decide +kernel) :
    Evolves K s (u.dbgResult r) := by
  refine h.widen hK fun h => ?_
  unfold State.dbgResult
  exact h.setFld

/-- What `State.submitToken` may change. -/
def submitTokenScope : Scope := .of [.GLB_STATE, .MGT_ALERT_STATUS, .MGT_SESSION, .SEC_STATUS, .SEC_NONCE, .SEC_KEY_STATUS,
    .SEC_DBG_STATUS, .SEC_MEAS, .EVL_DROPPED] [.risen, .recorder, .mgt, .sec]

theorem Evolves.submitToken (h : Evolves K s u) (hK : submitTokenScope.le K = true := by decide +kernel) : Evolves K s u.submitToken := by
  refine h.widen hK fun h => ?_
  unfold State.submitToken
  exact h.nonceValid.dbgResult.skip fun h₁ => (((((Evolves.ite h₁.eraseAll h₁.eraseKeys).setFlag).alert).setFld).logSec).measureSec

/-- What `wrDbgCtrl` may change. -/
def wrDbgCtrlScope : Scope := .of [.GLB_STATE, .MGT_ALERT_STATUS, .MGT_SESSION, .SEC_STATUS, .SEC_NONCE, .SEC_KEY_STATUS, .SEC_DBG_STATUS,
    .SEC_MEAS, .EVL_DROPPED] [.freeCtr, .risen, .recorder, .mgt, .sec]

theorem Evolves.wrDbgCtrl {p : Path} {v₁ : Nat} (h : Evolves K s u) (hK : wrDbgCtrlScope.le K = true := by decide +kernel) :
    Evolves K s (wrDbgCtrl p v₁ u).1 := by
  refine h.widen hK fun h => ?_
  unfold Machine.wrDbgCtrl
  dsimp only
  split
  · exact h.newSecNonce.dbgResult
  · split
    exacts [h.submitToken, h.rejectWrite]

theorem Evolves.wrDbgData {v₁ : Nat} (h : Evolves K s u) (hK : (Scope.of [] [.sec]).le K = true := by decide +kernel) :
    Evolves K s (wrDbgData v₁ u).1 :=
  h.widen hK fun h => .fst h.modSec

theorem keyRow_answers {p : Path} {cmd slot : Nat} (h : Evolves .all s u) : Answers s (keyRow p cmd slot u) := by
  unfold keyRow
  exact writeCommand_answers h (fun h₁ => h₁.wrSecKeyCtrl)

theorem fwRow_answers {p : Path} {cmd : Nat} {recover : Bool} (h : Evolves .all s u) : Answers s (fwRow p cmd recover u) := by
  unfold fwRow
  exact writeCommand_answers h (fun h₁ => h₁.wrFwCtrl)

theorem execSecNonce_answers {p : Path} (h : Evolves .all s u) : Answers s (execSecNonce p u) := by
  unfold execSecNonce
  exact keyRow_answers h

theorem execEnrol_answers {p : Path} (h : Evolves .all s u) : Answers s (execEnrol p u) := by
  unfold execEnrol
  exact keyRow_answers h

theorem execRevoke_answers {p : Path} {slot : Fin 16} (h : Evolves .all s u) : Answers s (execRevoke p slot u) := by
  unfold execRevoke
  exact keyRow_answers h

theorem execFuseDone_answers (h : Evolves .all s u) : Answers s (execFuseDone u) := by
  unfold execFuseDone
  dsimp only
  split
  exacts [.next h, .next h.modSec.blowFuse.showOwner.keyResult.runDeferred]

theorem execDbgNonce_answers {p : Path} (h : Evolves .all s u) : Answers s (execDbgNonce p u) := by
  unfold execDbgNonce
  exact writeCommand_answers h (fun h₁ => h₁.wrDbgCtrl)

theorem execSubmit_answers {p : Path} (h : Evolves .all s u) : Answers s (execSubmit p u) := by
  unfold execSubmit
  exact writeCommand_answers h (fun h₁ => h₁.wrDbgCtrl)

theorem execRaiseFw_answers {p : Path} {target : BitVec 7} (h : Evolves .all s u) : Answers s (execRaiseFw p target u) := by
  unfold execRaiseFw
  exact writeCommand_answers h (fun h₁ => h₁.wrRollback)

theorem execRaiseHrn_answers {p : Path} {target : BitVec 7} (h : Evolves .all s u) : Answers s (execRaiseHrn p target u) := by
  unfold execRaiseHrn
  exact writeCommand_answers h (fun h₁ => h₁.wrRollback)

theorem execFwOpen_answers {p : Path} (h : Evolves .all s u) : Answers s (execFwOpen p u) := by
  unfold execFwOpen
  exact fwRow_answers h

theorem execFwDataWrite_answers {p : Path} {value : Word32} {space : BitVec 13} (h : Evolves .all s u) :
    Answers s (execFwDataWrite p value space u) := by
  unfold execFwDataWrite
  exact writeCommand_answers h (fun h₁ => h₁.wrFwData)

theorem execFwFinish_answers {p : Path} (h : Evolves .all s u) : Answers s (execFwFinish p u) := by
  unfold execFwFinish
  exact fwRow_answers h

theorem execActivate_answers {p : Path} (h : Evolves .all s u) : Answers s (execActivate p u) := by
  unfold execActivate
  exact fwRow_answers h

theorem execConfirm_answers {p : Path} (h : Evolves .all s u) : Answers s (execConfirm p u) := by
  unfold execConfirm
  exact fwRow_answers h

theorem execRestart_answers {p : Path} {recover : Bool} (h : Evolves .all s u) : Answers s (execRestart p recover u) := by
  unfold execRestart
  exact fwRow_answers h

theorem jtagRow_answers {f : JtagX → JtagX} (h : Evolves .all s u) : Answers s (jtagRow f u) := by
  unfold jtagRow
  exact .next (Evolves.ite h h.same)

theorem execBypass_answers (h : Evolves .all s u) : Answers s (execBypass u) := by
  unfold execBypass
  exact jtagRow_answers h

theorem execIdcode_answers (h : Evolves .all s u) : Answers s (execIdcode u) := by
  unfold execIdcode
  exact jtagRow_answers h

theorem execSamplePreload_answers {cells : List Bool} (h : Evolves .all s u) : Answers s (execSamplePreload cells u) := by
  unfold execSamplePreload
  exact jtagRow_answers h.fresh

theorem execExtest_answers (h : Evolves .all s u) : Answers s (execExtest u) := by
  unfold execExtest
  exact jtagRow_answers h

end Sys2Proof.Machine
end

section
/-! SUPPORT. What reset and boot leave: `Evolves`, for each operation and command. -/
namespace Sys2Proof.Machine
open Sys2Proof
set_option Elab.async false
variable {K : Scope} {s u t₀ : State}

theorem Evolves.setFences {g : Nat} {f : Fences} (h : Evolves K s u)
    (hK : (Scope.of [.EQP_POOL, .EQP_SLICE_STATE, .BST_DEC_STATE] [.grp]).le K = true := by decide +kernel) :
    Evolves K s (u.setFences g f) := by
  refine h.widen hK fun h => ?_
  unfold State.setFences
  exact (((h.each (fun _ h₁ => Evolves.ite h₁.setSlice (Evolves.ite h₁.setSlice h₁))).each (fun _ h₁ =>
      Evolves.ite (h₁.setUnit) (Evolves.ite (h₁.setUnit) h₁))).each (fun _ h₁ => Evolves.ite h₁.setDec (Evolves.ite h₁.setDec h₁))).modGrp

theorem Evolves.applyFences {f : Nat → Fences} (h : Evolves K s u)
    (hK : (Scope.of [.GLB_FENCE, .EQP_POOL, .EQP_SLICE_STATE, .BST_DEC_STATE] [.grp]).le K = true := by decide +kernel) :
    Evolves K s (u.applyFences f) := by
  refine h.widen hK fun h => ?_
  unfold State.applyFences
  exact (h.each (fun _ h₁ => h₁.setFences)).showFences

/-- What `State.failPart` may change. -/
def failPartScope : Scope := .of [.GLB_STATE, .MGT_ALERT_STATUS, .EVL_DROPPED, .BST_RESULT] [.risen, .recorder, .mgt]

theorem Evolves.failPart {p : Nat} (h : Evolves K s u) (hK : failPartScope.le K = true := by decide +kernel) :
    Evolves K s (u.failPart p) := by
  refine h.widen hK fun h => ?_
  unfold State.failPart
  exact h.setFld.setFld.cond (fun h₁ => h₁.log.alert) (fun h₁ => h₁.log.alert)

/-- What `State.useBistRecord` may change. -/
def useBistRecordScope : Scope := .of [.GLB_STATE, .GLB_FENCE, .EQP_POOL, .EQP_SLICE_STATE, .MGT_ALERT_STATUS, .EVL_DROPPED, .BST_RESULT,
    .BST_PART, .BST_DEC_STATE] [.risen, .recorder, .grp, .mgt, .flash]

theorem Evolves.useBistRecord (h : Evolves K s u) (hK : useBistRecordScope.le K = true := by decide +kernel) :
    Evolves K s u.useBistRecord := by
  refine h.widen hK fun h => ?_
  unfold State.useBistRecord
  exact ((h.setFlashBytes.setFld.each (fun _ h₁ => h₁.setFld.setFld.setFld)).applyFences).each (fun _ h₁ => h₁.failPart)

theorem Evolves.bootStep {k : Nat} (h : Evolves K s u) (hK : (Scope.of [.GLB_STATE] []).le K = true := by decide +kernel) :
    Evolves K s (u.bootStep k) := by
  refine h.widen hK fun h => ?_
  unfold State.bootStep
  exact h.setFld

/-- What `State.recoveryPort` may change. -/
def recoveryPortScope : Scope := .of [.CLK_STATUS, .CLK_HOST, .HSI_CTRL, .HSI_STATUS, .HSI_CFG, .HPM_PORT_CFG, .HSI_CLK] [.hsi, .clk]

theorem Evolves.recoveryPort (h : Evolves K s u) (hK : recoveryPortScope.le K = true := by decide +kernel) :
    Evolves K s u.recoveryPort := by
  refine h.widen hK fun h => ?_
  unfold State.recoveryPort
  exact h.setFld.setFlag.setFlag.setFld.setFld.setFlag.setFlag.tuneHost.enableHrx.enableHtx

theorem Evolves.noImage (h : Evolves K s u)
    (hK : (Scope.of [.GLB_STATE, .PWR_STATE, .HRN_STATUS, .MGT_ALERT_STATUS] [.risen, .mgt]).le K = true := by decide +kernel) :
    Evolves K s u.noImage := by
  refine h.widen hK fun h => ?_
  unfold State.noImage
  exact (((Evolves.ite h.setFld.setFld h.setFld.setFld).bootStep).setFld).alert

theorem Evolves.bootFinish {l : LoadX} (h : Evolves K s u) (hK : applyHeldScope.le K = true := by decide +kernel) :
    Evolves K s (u.bootFinish l) := by
  refine h.widen hK fun h => ?_
  unfold State.bootFinish
  exact ((h.same.setFlag.accept.loadDevice.cond (fun h₁ => (h₁.setFld.setFld.each (fun _ h₂ => h₂.goGroup.showModes)).regInit) (fun h₁ =>
      h₁.setFld.setFld.reopenGroups.idleOff)).bootStep).endLoad

/-- What `State.trySlot` may change. -/
def trySlotScope : Scope := .join [endLoadScope, .of [.HRN_LOAD_COUNT, .HRN_IMAGE_INFO, .HRN_IMAGE_HASH, .SEC_MEAS] [.cfg]]

theorem Evolves.trySlot {k : Nat} (h : Evolves K s u) (hK : trySlotScope.le K = true := by decide +kernel) :
    Evolves K s (u.trySlot k).1 := by
  refine h.widen hK fun h => ?_
  unfold State.trySlot
  dsimp only
  split
  · exact .fst h.setStaging.setFld.hrnResult
  split
  exacts [.fst h.setStaging.setFld.bootFinish, .fst h.setStaging.setFld.askSynths.setFld.modHrn]

theorem Evolves.bootHarnessFrom {k : Nat} (h : Evolves K s u) (hK : trySlotScope.le K = true := by decide +kernel) :
    Evolves K s (u.bootHarnessFrom k) := by
  refine h.widen hK fun h => ?_
  have h := (h.bootStep (k := 4)).setFld (f := HRN_STATUS.STATE) (i := 0) (x := 2)
  unfold State.bootHarnessFrom
  generalize State.setFld _ _ _ _ = v at h ⊢
  have h0 := h.trySlot (k := 0)
  have h1 := h.trySlot (k := 1)
  have h01 := h0.trySlot (k := 1)
  dsimp only
  generalize v.trySlot 0 = p at h0 h01 ⊢
  generalize v.trySlot 1 = q at h1 ⊢
  obtain ⟨p, a⟩ := p
  dsimp only at h01 ⊢
  generalize p.trySlot 1 = q' at h01 ⊢
  exact .ite h.noImage (.ite (.ite h0 (.ite h01 h01.noImage)) (.ite (.ite h1 h1.noImage) h.noImage))

/-- What `State.identity` may change. -/
def identityScope : Scope := .of [.GLB_STATE, .MGT_ALERT_STATUS, .SEC_STATUS, .SEC_MEAS] [.risen, .mgt, .sec]

theorem Evolves.identity {puf certOk : Bool} (h : Evolves K s u) (hK : identityScope.le K = true := by decide +kernel) :
    Evolves K s (u.identity puf certOk) := by
  refine h.widen hK fun h => ?_
  unfold State.identity
  exact ((((h.modSec.cond (fun h₁ => h₁.setFld.modSec.alert) (fun h₁ => h₁.setFld.modSec)).setFld).setMeas).setFlag).measureSec

theorem Evolves.afterBist {puf certOk : Bool} (h : Evolves K s u) (hK : trySlotScope.le K = true := by decide +kernel) :
    Evolves K s (u.afterBist puf certOk) := by
  refine h.widen hK fun h => ?_
  unfold State.afterBist
  exact h.identity.bootHarnessFrom

/-- What `State.bootMem` may change. -/
def bootMemScope : Scope := .join [trySlotScope, .of [] [.flash]]

theorem Evolves.bootMem {puf certOk : Bool} (h : Evolves K s u) (hK : bootMemScope.le K = true := by decide +kernel) :
    Evolves K s (u.bootMem puf certOk) := by
  refine h.widen hK fun h => ?_
  unfold State.bootMem
  exact (((h.bootStep.each (fun _ h₁ => Evolves.ite h₁.setArmed (Evolves.ite h₁ h₁.initRegion))).when fun h₁ =>
      h₁.modPwr.dacCalibrate.selfCalibrate).bootStep).cond (fun h₁ => h₁.useBistRecord.afterBist) (fun h₁ => h₁.startBist)

theorem execBoot_answers {puf certOk : Bool} (h : Evolves .all s u) : Answers s (execBoot puf certOk u) := by
  have hsel := (((h.setFlag (f := CLK_STATUS.REF_PRESENT) (i := 0) (b := true)).setFlag (f := CLK_STATUS.CORE_LOCK) (i := 0)
      (b := true)).modPwr (f := fun x => { x with afterTrip := false })).initRegion (m := 18).selectFirmware
  unfold execBoot
  dsimp only
  generalize State.selectFirmware _ = p at hsel ⊢
  exact .ite (.next h) (.next (.ite hsel.bootStep.bootMem hsel.enterRecovery.recoveryPort))

/-- What `State.endShutdownBist` may change. -/
def endShutdownBistScope : Scope := .join [sleepNowScope, .of [.GLB_FENCE, .EQP_POOL, .EQP_SLICE_STATE, .BST_RESULT, .BST_DEC_STATE]
    [.grp, .flash]]

theorem Evolves.endShutdownBist {b : BistX} (h : Evolves K s u) (hK : endShutdownBistScope.le K = true := by decide +kernel) :
    Evolves K s (u.endShutdownBist b) := by
  refine h.widen hK fun h => ?_
  unfold State.endShutdownBist
  exact h.setFld.applyFences.setFlashBytes.modPwr.sleepNow

theorem execBistPartitionDone_answers {p : Fin 16} {complete : Bool} {patterns : BitVec 28} {countOk : Bool} {signature : Word32} {sigOk :
    Bool} {slices : BitVec 13} {units : BitVec 2} {decs : BitVec 7} {other : Bool}
    (h : Evolves .all s u) : Answers s (execBistPartitionDone p complete patterns countOk signature sigOk slices units decs other u) := by
  unfold execBistPartitionDone
  dsimp only
  split
  · exact .next h
  · refine Answers.ite (.next h) ?_
    exact .next (((h.setFld.setFld.setFld.modPwr.each (fun _ h₁ => Evolves.ite h₁.initRegion h₁.loseRegion)).when fun h₁ =>
        h₁.failPart).when fun h₁ => h₁.endShutdownBist)

theorem execBootBistDone_answers {puf certOk : Bool} (h : Evolves .all s u) : Answers s (execBootBistDone puf certOk u) := by
  unfold execBootBistDone
  dsimp only
  split
  exacts [.next h, Answers.ite (.next h.setFld.applyFences.modPwr.afterBist) (.next h)]

theorem Evolves.sampleAddr {addrSel : Nat} (h : Evolves K s u)
    (hK : (Scope.of [.MGT_BUS_STATUS] []).le K = true := by decide +kernel) : Evolves K s (u.sampleAddr addrSel) := by
  refine h.widen hK fun h => ?_
  unfold State.sampleAddr
  exact h.setFld

theorem execPowerOn_answers {addrSel : Fin 4} (h : Evolves .all s u) : Answers s (execPowerOn addrSel u) := by
  unfold execPowerOn
  exact .next (.setFlag (.stepTo (.sampleAddr (.logBoot (.modPwr (.setPwr h.cutFuse.reborn))))))

theorem Evolves.resetWarm (h : Evolves K s u) (hK : Scope.all.le K = true := by decide +kernel) : Evolves K s u.resetWarm := by
  refine h.widen hK fun h => ?_
  unfold State.resetWarm
  exact h.cutFuse.loadAborts.warmReset

theorem Evolves.wrGlbReset {p : Path} {v₁ : Nat} (h : Evolves K s u) (hK : Scope.all.le K = true := by decide +kernel) :
    Evolves K s (wrGlbReset p v₁ u).1 := by
  refine h.widen hK fun h => ?_
  unfold Machine.wrGlbReset
  split
  exacts [h.resetWarm, h.rejectWrite]

theorem execGlbReset_answers {p : Path} {value : Word32} (h : Evolves .all s u) : Answers s (execGlbReset p value u) := by
  unfold execGlbReset
  exact writeCommand_answers h (fun h₁ => h₁.wrGlbReset)

end Sys2Proof.Machine
end

section
/-! SUPPORT. What management registers leave: `Evolves`, for each operation and command. -/
namespace Sys2Proof.Machine
open Sys2Proof
set_option Elab.async false
variable {K : Scope} {s u t₀ : State}

theorem Evolves.clearAlerts {mask : Nat} (h : Evolves K s u)
    (hK : (Scope.of [.GLB_STATE, .MGT_ALERT_STATUS] [.mgt]).le K = true := by decide +kernel) : Evolves K s (u.clearAlerts mask) := by
  refine h.widen hK fun h => ?_
  unfold State.clearAlerts
  exact h.setFld.setFlag.modMgt

theorem Evolves.wrAlertStatus {v₁ : Nat} (h : Evolves K s u)
    (hK : (Scope.of [.GLB_STATE, .MGT_ALERT_STATUS] [.mgt]).le K = true := by decide +kernel) : Evolves K s (wrAlertStatus v₁ u).1 := by
  refine h.widen hK fun h => ?_
  unfold Machine.wrAlertStatus
  exact h.clearAlerts

theorem Evolves.sendIbi {e : Ibi} {accepted : Bool} (h : Evolves K s u)
    (hK : (Scope.of [.MGT_IBI_SENT, .MGT_IBI_NACK] [.mgt]).le K = true := by decide +kernel) : Evolves K s (u.sendIbi e accepted) := by
  refine h.widen hK fun h => ?_
  unfold State.sendIbi
  exact h.modMgt.count.skip fun h₁ => h₁.count

/-- What `State.authFailure` may change. -/
def authFailureScope : Scope := .of [.GLB_STATE, .MGT_ALERT_STATUS, .MGT_PWD_FAIL, .EVL_DROPPED] [.risen, .recorder, .mgt]

theorem Evolves.authFailure (h : Evolves K s u) (hK : authFailureScope.le K = true := by decide +kernel) : Evolves K s u.authFailure := by
  refine h.widen hK fun h => ?_
  unfold State.authFailure
  exact h.count.logSec.cond (fun h₁ => h₁.modMgt.alert) (fun h₁ => h₁.modMgt)

theorem Evolves.setPassword {v₁ : Nat} (h : Evolves K s u) (hK : (Scope.of [] [.sec]).le K = true := by decide +kernel) :
    Evolves K s (u.setPassword v₁) := by
  refine h.widen hK fun h => ?_
  unfold State.setPassword
  exact h.modSec

/-- What `State.enterPassword` may change. -/
def enterPasswordScope : Scope := .of [.GLB_STATE, .MGT_ALERT_STATUS, .MGT_BUS_STATUS, .MGT_PWD_FAIL, .EVL_DROPPED] [.risen, .recorder,
    .mgt]

theorem Evolves.enterPassword {v₁ : Nat} (h : Evolves K s u) (hK : enterPasswordScope.le K = true := by decide +kernel) :
    Evolves K s (u.enterPassword v₁) := by
  refine h.widen hK fun h => ?_
  unfold State.enterPassword
  exact Evolves.ite h.dropRole (Evolves.ite h (Evolves.ite h.dropRole.setFld h.dropRole.authFailure))

theorem Evolves.setBusPassword {v₁ : Nat} (h : Evolves K s u) (hK : (Scope.of [] [.sec]).le K = true := by decide +kernel) :
    Evolves K s (u.setBusPassword v₁) := by
  refine h.widen hK fun h => ?_
  unfold State.setBusPassword
  exact Evolves.ite h h.setPassword

theorem Evolves.authResult {r : Nat} (h : Evolves K s u) (hK : (Scope.of [.MGT_AUTH_STATUS] []).le K = true := by decide +kernel) :
    Evolves K s (u.authResult r) := by
  refine h.widen hK fun h => ?_
  unfold State.authResult
  exact h.setFld

theorem Evolves.setAuthData {bs : List Byte} (h : Evolves K s u)
    (hK : (Scope.of [.MGT_AUTH_STATUS] [.mgt]).le K = true := by decide +kernel) : Evolves K s (u.setAuthData bs) := by
  refine h.widen hK fun h => ?_
  unfold State.setAuthData
  exact h.modMgt.setFld

theorem Evolves.newBusNonce (h : Evolves K s u)
    (hK : (Scope.of [.MGT_AUTH_STATUS, .MGT_AUTH_NONCE] [.freeCtr, .mgt]).le K = true := by decide +kernel) :
    Evolves K s u.newBusNonce := by
  refine h.widen hK fun h => ?_
  unfold State.newBusNonce
  exact Evolves.ite h.authResult h.fresh.setFld.setFlag.setAuthData.authResult.modMgt

/-- What `State.authVerify` may change. -/
def authVerifyScope : Scope := .of [.GLB_STATE, .MGT_ALERT_STATUS, .MGT_BUS_STATUS, .MGT_AUTH_STATUS, .MGT_PWD_FAIL, .EVL_DROPPED]
    [.risen, .recorder, .mgt]

theorem Evolves.authVerify (h : Evolves K s u) (hK : authVerifyScope.le K = true := by decide +kernel) : Evolves K s u.authVerify := by
  refine h.widen hK fun h => ?_
  unfold State.authVerify
  dsimp only
  refine Evolves.ite h.authResult ?_
  exact (h.setFlag (f := MGT_AUTH_STATUS.NONCE_VALID)).authResult.step fun h₁ => by split; exacts [h₁.setFld.modMgt, Evolves.ite h₁ h₁.authFailure]

/-- What `wrAuthCtrl` may change. -/
def wrAuthCtrlScope : Scope := .of [.GLB_STATE, .MGT_ALERT_STATUS, .MGT_BUS_STATUS, .MGT_AUTH_STATUS, .MGT_AUTH_NONCE, .MGT_PWD_FAIL,
    .EVL_DROPPED] [.freeCtr, .risen, .recorder, .mgt]

theorem Evolves.wrAuthCtrl {v₁ : Nat} (h : Evolves K s u) (hK : wrAuthCtrlScope.le K = true := by decide +kernel) :
    Evolves K s (wrAuthCtrl v₁ u).1 := by
  refine h.widen hK fun h => ?_
  unfold Machine.wrAuthCtrl
  exact Evolves.ite h.newBusNonce (Evolves.ite h.authVerify (Evolves.ite h.dropRole h))

theorem Evolves.wrAuthData {v₁ : Nat} (h : Evolves K s u)
    (hK : (Scope.of [.MGT_AUTH_STATUS] [.mgt]).le K = true := by decide +kernel) : Evolves K s (wrAuthData v₁ u).1 := by
  refine h.widen hK fun h => ?_
  unfold Machine.wrAuthData
  exact h.setAuthData

theorem Evolves.wrCwCfg {p : Path} {v₁ : Nat} (h : Evolves K s u)
    (hK : (Scope.of [.MGT_CW_CFG, .EVL_DROPPED] [.recorder]).le K = true := by decide +kernel) : Evolves K s (wrCwCfg p v₁ u).1 := by
  refine h.widen hK fun h => ?_
  unfold Machine.wrCwCfg
  split
  exacts [h.rejectWrite, h.plainWrite]

theorem Evolves.wrCwMac {p : Path} {v₁ : Nat} (h : Evolves K s u)
    (hK : (Scope.of [.MGT_CW_MAC, .EVL_DROPPED] [.recorder]).le K = true := by decide +kernel) : Evolves K s (wrCwMac p v₁ u).1 := by
  refine h.widen hK fun h => ?_
  unfold Machine.wrCwMac
  split
  exacts [h.rejectWrite, h.plainWrite]

theorem Evolves.wrMgtBlock {p : Path} {r : Reg} {i v₁ : Nat} (h : Evolves K s u) (hK : Scope.all.le K = true := by decide +kernel) :
    Evolves K s (wrMgtBlock p r i v₁ u).1 := by
  refine h.widen hK fun h => ?_
  unfold Machine.wrMgtBlock
  split
  exacts [h.wrAlertStatus, h.wrCwCfg, h.wrCwMac, h.setPassword, h.wrAuthCtrl, h.wrAuthData, h.plainWrite rfl]

theorem execAlertClear_answers {p : Path} {mask : BitVec 10} (h : Evolves .all s u) : Answers s (execAlertClear p mask u) := by
  unfold execAlertClear
  exact writeCommand_answers h (fun h₁ => h₁.wrAlertStatus)

theorem execBusFree_answers {accepted : Bool} (h : Evolves .all s u) : Answers s (execBusFree accepted u) := by
  unfold execBusFree
  split
  exacts [.next (Evolves.ite h.sendIbi h), .next h]

theorem execIbiRetry_answers {accepted : Bool} (h : Evolves .all s u) : Answers s (execIbiRetry accepted u) := by
  unfold execIbiRetry
  split
  exacts [.next (Evolves.ite h.sendIbi h), .next h]

theorem execPasswordEntry_answers {value : Word32} (h : Evolves .all s u) : Answers s (execPasswordEntry value u) := by
  unfold execPasswordEntry
  exact .next (Evolves.ite h h.enterPassword)

theorem execPasswordSet_answers {value : Word32} (h : Evolves .all s u) : Answers s (execPasswordSet value u) := by
  unfold execPasswordSet
  exact .next (Evolves.ite h h.setBusPassword)

theorem execMgtOpPwd_answers {p : Path} {value : Word32} (h : Evolves .all s u) : Answers s (execMgtOpPwd p value u) := by
  unfold execMgtOpPwd
  exact writeCommand_answers h (fun h₁ => h₁.wrMgtBlock)

theorem execLockoutEnd_answers (h : Evolves .all s u) : Answers s (execLockoutEnd u) := by
  unfold execLockoutEnd
  exact .next (Evolves.ite h h.modMgt)

theorem authRow_answers {p : Path} {cmd : Nat} (h : Evolves .all s u) : Answers s (authRow p cmd u) := by
  unfold authRow
  exact writeCommand_answers h (fun h₁ => h₁.wrAuthCtrl)

theorem execNonce_answers {p : Path} (h : Evolves .all s u) : Answers s (execNonce p u) := by
  unfold execNonce
  exact authRow_answers h

theorem execAuthDataWrite_answers {p : Path} {value : Word32} (h : Evolves .all s u) : Answers s (execAuthDataWrite p value u) := by
  unfold execAuthDataWrite
  exact writeCommand_answers h (fun h₁ => h₁.wrAuthData)

theorem execAuthVerify_answers {p : Path} (h : Evolves .all s u) : Answers s (execAuthVerify p u) := by
  unfold execAuthVerify
  exact authRow_answers h

theorem execDrop_answers {p : Path} (h : Evolves .all s u) : Answers s (execDrop p u) := by
  unfold execDrop
  exact authRow_answers h

theorem execNonceExpiry_answers {bus : Bool} (h : Evolves .all s u) : Answers s (execNonceExpiry bus u) := by
  unfold execNonceExpiry
  exact .next (Evolves.ite (Evolves.ite h h.setFlag) (Evolves.ite h h.nonceValid))

end Sys2Proof.Machine
end

section
/-! SUPPORT. What register writes leave: `Evolves`, for each operation and command. -/
namespace Sys2Proof.Machine
open Sys2Proof
set_option Elab.async false
variable {K : Scope} {s u t₀ : State}

theorem Evolves.wrReg {p : Path} {r : Reg} {i v₁ : Nat} (h : Evolves K s u) (hK : Scope.all.le K = true := by decide +kernel) :
    Evolves K s (wrReg p r i v₁ u).1 := by
  refine h.widen hK fun h => ?_
  unfold Machine.wrReg
  dsimp only
  split
  · exact h.wrGlbReset
  · exact h.wrPwrCtrl
  · exact h.wrHrnLoadCtrl
  · exact h.wrHrnLoadData
  · exact h.wrSecKeyCtrl
  · exact h.wrSecKeyData
  · exact h.wrRollback
  · exact h.wrFwCtrl
  · exact h.wrFwData
  · exact h.wrDbgCtrl
  · exact h.wrDbgData
  · split
    · exact h.wrGroupBlock
    · split
      exacts [h.wrMgtBlock, h.wrDeviceBlock]

/-- What `State.storeWordWrite` may change. -/
def storeWordWriteScope : Scope := .of [.GLB_STATE, .CIN_LANE_STATUS, .MGT_ALERT_STATUS, .MGT_ACCESS_VIOL, .MEM_STATUS, .MEM_FLIP_MASK,
    .MEM_SPARE, .MEM_REPAIR, .EVL_DROPPED] [.risen, .recorder, .clane, .mgt, .mem, .memx]

theorem Evolves.storeWordWrite {p : Path} {a x : Nat} (h : Evolves K s u)
    (hK : storeWordWriteScope.le K = true := by decide +kernel) : Evolves K s (u.storeWordWrite p a x).1 := by
  refine h.widen hK fun h => ?_
  unfold State.storeWordWrite
  split
  exacts [h.storeWrite, h.count.log]

theorem Evolves.writeAt {p : Path} {a x : Nat} (h : Evolves K s u) (hK : Scope.all.le K = true := by decide +kernel) :
    Evolves K s (u.writeAt p a x).1 := by
  refine h.widen hK fun h => ?_
  unfold State.writeAt
  split
  · exact h
  split
  exacts [h.storeWordWrite, h.writeWordWith fun h => h.wrReg]

theorem Evolves.afterRead {r : Reg} (h : Evolves K s u) (hK : (Scope.of [.PWR_SUPPLY] []).le K = true := by decide +kernel) :
    Evolves K s (u.afterRead r) := by
  refine h.widen hK fun h => ?_
  unfold State.afterRead
  split
  exacts [h.setFld, h]

theorem Evolves.readReg {role : Nat} {r : Reg} {i w : Nat} (h : Evolves K s u)
    (hK : (Scope.of [.PWR_SUPPLY] [.captured]).le K = true := by decide +kernel) : Evolves K s (u.readReg role r i w).2 := by
  refine h.widen hK fun h => ?_
  unfold State.readReg
  dsimp only
  split
  exacts [h, (Evolves.ite h h.same).afterRead]

/-- What `State.readStore` may change. -/
def readStoreScope : Scope := .join [readWordScope, .of [.EVL_READ_DENIED] []]

theorem Evolves.readStore {role m a : Nat} (h : Evolves K s u) (hK : readStoreScope.le K = true := by decide +kernel) :
    Evolves K s (u.readStore role m a).2.2 := by
  refine h.widen hK fun h => ?_
  unfold State.readStore
  split
  · exact h
  · split
    exacts [Evolves.ite h.count h, h.storeRead]

/-- What `State.readAt` may change. -/
def readAtScope : Scope := .join [readStoreScope, .of [.PWR_SUPPLY, .MGT_BAD_ADDR] [.captured]]

theorem Evolves.readAt {p : Path} {a : Nat} (h : Evolves K s u) (hK : readAtScope.le K = true := by decide +kernel) :
    Evolves K s (u.readAt p a).2.2 := by
  refine h.widen hK fun h => ?_
  unfold State.readAt
  split
  · exact h
  · split
    · split
      exacts [h.readStore, h.count]
    · exact h.readReg
    · exact h.count

theorem Evolves.writeEarly {p : Path} {a : Nat} (h : Evolves K s u) (hK : Scope.all.le K = true := by decide +kernel) :
    Evolves K s (u.writeEarly p a) := by
  refine h.widen hK fun h => ?_
  unfold State.writeEarly
  exact Evolves.ite h ((h.foldl (fun _ h₁ => h₁.writeAt)).same)

theorem execRegisterWrite_answers {p : Path} {addr value : Word32} (h : Evolves .all s u) : Answers s (execRegisterWrite p addr value u) := by
  unfold execRegisterWrite
  exact .next (Evolves.ite h.same h.writeEarly.writeAt)

theorem execWideRegisterRead_answers {p : Path} {addr : Word32} (h : Evolves .all s u) : Answers s (execWideRegisterRead p addr u) := by
  unfold execWideRegisterRead
  exact .next h.readAt.modMgt

theorem execStagedWordWrite_answers {p : Path} {addr value : Word32} (h : Evolves .all s u) :
    Answers s (execStagedWordWrite p addr value u) := by
  unfold execStagedWordWrite
  split
  exacts [.next (Evolves.ite h h.writeAt), .next h]

theorem execWideRegisterCommit_answers {p : Path} {addr value : Word32} (h : Evolves .all s u) :
    Answers s (execWideRegisterCommit p addr value u) := by
  unfold execWideRegisterCommit
  split
  exacts [.next (Evolves.ite h.writeAt h), .next h]

end Sys2Proof.Machine
end

section
/-! SUPPORT. What running DMA transfers leave: `Evolves`, for each operation and command. -/
namespace Sys2Proof.Machine
open Sys2Proof
set_option Elab.async false
variable {K : Scope} {s u t₀ : State}

theorem Evolves.dmaRead {a n : Nat} (h : Evolves K s u) (hK : readAtScope.le K = true := by decide +kernel) :
    Evolves K s (u.dmaRead a n).2 := by
  refine h.widen hK fun h => ?_
  unfold State.dmaRead
  split
  exacts [h.foldlSnd (fun _ h₁ => h₁.readAt), h.storeRead]

theorem Evolves.dmaWrite {a : Nat} {bs : List (Byte × Bool)} (h : Evolves K s u) (hK : Scope.all.le K = true := by decide +kernel) :
    Evolves K s (u.dmaWrite a bs) := by
  refine h.widen hK fun h => ?_
  unfold State.dmaWrite
  exact Evolves.ite (h.each (fun _ h₁ => h₁.writeAt)) (h.storeWrite.each (fun _ h₁ => h₁.setPoison))

theorem Evolves.moveBeat {n : Nat} (h : Evolves K s u) (hK : Scope.all.le K = true := by decide +kernel) :
    Evolves K s (u.moveBeat n) := by
  refine h.widen hK fun h => ?_
  unfold State.moveBeat
  exact .modDma (.setEngine (.iteFst (.fst (.ite h.dmaWrite h.fillMem)) (.fst h.dmaRead.dmaWrite)))

theorem Evolves.moveBeats {n k : Nat} (h : Evolves K s u) (hK : Scope.all.le K = true := by decide +kernel) :
    Evolves K s (u.moveBeats n k) := by
  induction k generalizing u with
  | zero => exact h
  | succ k ih => exact .ite h (ih (h.moveBeat hK))

theorem Evolves.showRemain {n : Nat} (h : Evolves K s u) (hK : (Scope.of [.DMA_STATUS] []).le K = true := by decide +kernel) :
    Evolves K s (u.showRemain n) := by
  refine h.widen hK fun h => ?_
  unfold State.showRemain
  exact h.setFld

theorem Evolves.fillArms {n : Nat} (h : Evolves K s u)
    (hK : (Scope.of [.MEM_REGION_ARMED] [.dma]).le K = true := by decide +kernel) : Evolves K s (u.fillArms n) := by
  refine h.widen hK fun h => ?_
  unfold State.fillArms
  exact Evolves.ite h ((h.each (fun _ h₁ => h₁.setArmed)).skip fun h₁ => h₁.modDma)

theorem Evolves.streamAsk (h : Evolves K s u) (hK : (Scope.of [.DMA_STATUS] [.strm, .dma]).le K = true := by decide +kernel) :
    Evolves K s u.streamAsk := by
  refine h.widen hK fun h => ?_
  unfold State.streamAsk
  dsimp only
  exact h.each (fun _ h₁ => (by split; exacts [Evolves.ite h₁.modStrm.modDma.goDma h₁, h₁]))

/-- What `State.streamBurst` may change. -/
def streamBurstScope : Scope := .join [streamWriteScope, .of [.DMA_STATUS] [.dma, .engine]]

theorem Evolves.streamBurst {n k : Nat} (h : Evolves K s u) (hK : streamBurstScope.le K = true := by decide +kernel) :
    Evolves K s (u.streamBurst n k) := by
  refine h.widen hK fun h => ?_
  unfold State.streamBurst
  exact h.streamWrite.same.cond (fun h₁ => h₁.modDma) (fun h₁ => h₁.dmaIdle)

theorem Evolves.transferBurst {n : Nat} (h : Evolves K s u) (hK : Scope.all.le K = true := by decide +kernel) :
    Evolves K s (u.transferBurst n) := by
  refine h.widen hK @fun s h => ?_
  unfold State.transferBurst
  have h' : Evolves Scope.all s (((u.moveBeats n (u.burstBeats n - (u.dmaOf n).beats)).showRemain n).modDma n fun x => { x with beats := 0 }) :=
    h.moveBeats.showRemain.modDma
  exact .ite h'.fillArms.modDma (.ite h'.modDma h')

theorem Evolves.freeEngine (h : Evolves K s u)
    (hK : (Scope.of [.DMA_STATUS] [.strm, .dma, .engine]).le K = true := by decide +kernel) : Evolves K s u.freeEngine := by
  refine h.widen hK fun h => ?_
  unfold State.freeEngine
  exact h.same.streamAsk.dmaGrant

theorem execDmaBurstEnd_answers (h : Evolves .all s u) : Answers s (execDmaBurstEnd u) := by
  unfold execDmaBurstEnd
  refine .next ?_
  split
  · exact h.freeEngine
  · split
    exacts [h.streamBurst.freeEngine, h.transferBurst.freeEngine]

theorem execDmaPreempt_answers {beats : Fin 16} (h : Evolves .all s u) : Answers s (execDmaPreempt beats u) := by
  unfold execDmaPreempt
  split
  · exact .next h
  · refine .ite (.next h.streamAsk) (.ite (.next h.streamAsk) (.ite (.next (.freeEngine (.transferBurst ?_)))
      (.next (.freeEngine (.goDma (.count (.modDma ?_))))))) <;>
      exact h.streamAsk.moveBeats.showRemain

end Sys2Proof.Machine
end

section
/-! SUPPORT. What power commands leave: `Evolves`, for each operation and command. -/
namespace Sys2Proof.Machine
open Sys2Proof
set_option Elab.async false
variable {K : Scope} {s u t₀ : State}

theorem pwrRow_answers {p : Path} {cmd : Nat} (h : Evolves .all s u) : Answers s (pwrRow p cmd u) := by
  unfold pwrRow
  exact writeCommand_answers h (fun h₁ => h₁.wrPwrCtrl)

theorem execPwrStandby_answers {p : Path} (h : Evolves .all s u) : Answers s (execPwrStandby p u) := by
  unfold execPwrStandby
  exact pwrRow_answers h

theorem execPwrActive_answers {p : Path} (h : Evolves .all s u) : Answers s (execPwrActive p u) := by
  unfold execPwrActive
  exact pwrRow_answers h

theorem execPwrDoze_answers {p : Path} (h : Evolves .all s u) : Answers s (execPwrDoze p u) := by
  unfold execPwrDoze
  exact pwrRow_answers h

theorem execPwrDeep_answers {p : Path} (h : Evolves .all s u) : Answers s (execPwrDeep p u) := by
  unfold execPwrDeep
  exact pwrRow_answers h

theorem execLpmodeAssert_answers {pin : Fin 16} (h : Evolves .all s u) : Answers s (execLpmodeAssert pin u) := by
  unfold execLpmodeAssert
  exact .next (Evolves.ite (h.setPin.skip fun h₁ => h₁.lowPower) h)

theorem execLpmodeDeassert_answers {pin : Fin 16} (h : Evolves .all s u) : Answers s (execLpmodeDeassert pin u) := by
  unfold execLpmodeDeassert
  exact .next (Evolves.ite (h.setPin.skip fun h₁ => h₁.lowPower) h)

theorem Evolves.setLpSw {on : Bool} (h : Evolves K s u) (hK : lowPowerScope.le K = true := by decide +kernel) :
    Evolves K s (u.setLpSw on) := by
  refine h.widen hK fun h => ?_
  unfold State.setLpSw
  exact Evolves.ite h.modPwr h.modPwr.lowPower

theorem execLowPwrRequestSw_answers {on : Bool} (h : Evolves .all s u) : Answers s (execLowPwrRequestSw on u) := by
  unfold execLowPwrRequestSw
  exact .next (Evolves.ite h h.setLpSw)

theorem Evolves.fallToStandby {close : State → State} (h : Evolves K s u) (hclose : ∀ {v}, Evolves K s v → Evolves K s (close v))
    (hK : applyHeldScope.le K = true := by decide +kernel) : Evolves K s (u.fallToStandby close) := by
  have ha : Evolves K s u.loadAborts := h.loadAborts (Scope.le_trans (by decide +kernel) hK)
  have hp {v} {f : PwrX → PwrX} (h : Evolves K s v) : Evolves K s (v.modPwr f) := h.modPwr (Scope.le_trans (by decide +kernel) hK)
  unfold State.fallToStandby
  dsimp only
  refine .ite ?_ (.runLowPower (hK := Scope.le_trans (by decide +kernel) hK)
    (.ite (hclose (hp ha)) (.ite (.powerDown (hp ha) (Scope.le_trans (by decide +kernel) hK)) (hp ha))))
  split
  · exact .ite (.bootFinish (hp h) hK) (hp h)
  · exact hp h

theorem Evolves.dropDynAddr (h : Evolves K s u) (hK : (Scope.of [.MGT_BUS_STATUS] []).le K = true := by decide +kernel) :
    Evolves K s u.dropDynAddr := by
  refine h.widen hK fun h => ?_
  unfold State.dropDynAddr
  exact h.setFlag.setFld.setFlag

theorem execDeepAfterExpiry_answers (h : Evolves .all s u) : Answers s (execDeepAfterExpiry u) := by
  unfold execDeepAfterExpiry
  exact .next (Evolves.ite h.modPwr h)

theorem Evolves.wakeSource {source detail ns : Nat} (h : Evolves K s u)
    (hK : (Scope.of [.PWR_WAKE_SRC, .PWR_WAKE_TIME, .PWR_STAGE_TIME] [.pwr]).le K = true := by decide +kernel) :
    Evolves K s (u.wakeSource source detail ns) := by
  refine h.widen hK fun h => ?_
  unfold State.wakeSource
  dsimp only
  refine Evolves.ite ?_ ?_
  · refine Evolves.ite h ?_
    split
    exacts [h.modPwr, h.modPwr]
  · refine Evolves.ite h ?_
    split
    · exact h.wakeStart
    · exact Evolves.ite h.wakeStart (h.setFld.cond (fun h₁ => h₁.setFld.setFld.modPwr) (fun h₁ => h₁.modPwr))

theorem execWakeSource_answers {source : Fin 6} {detail : Fin 32} {ao : AoTime} (h : Evolves .all s u) :
    Answers s (execWakeSource source detail ao u) := by
  unfold execWakeSource
  exact .next (Evolves.ite h h.wakeSource)

/-- What `State.wakeTime` may change. -/
def wakeTimeScope : Scope := .of [.TMB_QUALITY, .TMB_ERR_BOUND, .TMB_STATUS, .TMB_SLEEP_ENTRY, .TMB_SLEEP_ELAPSED, .TMB_SLEEP_INFO,
    .EVL_DROPPED, .PMC_VALUE, .PMC_WIN] [.risen, .recorder, .lrx, .ltx, .time, .tlane, .pmc]

theorem Evolves.wakeTime {sleep : Nat} {passed : Bool} {ao : AoTime} (h : Evolves K s u)
    (hK : wakeTimeScope.le K = true := by decide +kernel) : Evolves K s (u.wakeTime sleep passed ao) := by
  refine h.widen hK fun h => ?_
  unfold State.wakeTime
  exact h.setFld.setFld.setFld.cond (fun h₁ => h₁.stepTo.setFlag) (fun h₁ => h₁.setFlag.stepTo)

theorem Evolves.wakeUp {w : WakeX} {ao : AoTime} {addrSel : Nat} (h : Evolves K s u)
    (hK : Scope.all.le K = true := by decide +kernel) : Evolves K s (u.wakeUp w ao addrSel) := by
  refine h.widen hK @fun s h => ?_
  have clock : ∀ {v : State} {x : TimeX}, Evolves Scope.all s v → x.sub = u.time.sub → Evolves Scope.all s { v with time := x } := fun hv hx =>
    ⟨hv.pending, hv.cycle, hv.free, hv.timer, hv.interval, hv.canonical, fun hs => hx ▸ h.clock hs, hv.queue, fun _ _ hr => Bool.noConfusion hr,
      fun _ hp => Bool.noConfusion hp⟩
  have tussock : ∀ {v : State} {x : List (Nat × TskInX)} {y : List (Nat × TskRuleX)} {k : Nat}, Evolves Scope.all s v →
      Evolves Scope.all s { v with tskIn := x, tskRule := y, tskAt := k } := fun hv => hv.same
  unfold State.wakeUp
  exact .copyLatch (.foldl (.foldl (.log (.count (.wakeTime (.restoreRecords (.modPwr (.setFld (.setFld (.setFlag (.setFlag (.when
    (.setFld (clock (.when (h.reborn.keepWarm h) tussock) rfl)) fun h => h.sampleAddr)))))))))) fun _ h => h.log) fun _ h => h.alert)

theorem execWakeStageReady_answers {time : BitVec 16} {ao : AoTime} {addrSel : Fin 4} (h : Evolves .all s u) :
    Answers s (execWakeStageReady time ao addrSel u) := by
  unfold execWakeStageReady
  dsimp only
  split
  exacts [.next h, Answers.ite (.next h) (.next ((h.setFld rfl).cond (fun h₁ => h₁.modPwr) (fun h₁ => h₁.wakeUp)))]

theorem execWakeStageTimeout_answers (h : Evolves .all s u) : Answers s (execWakeStageTimeout u) := by
  unfold execWakeStageTimeout
  dsimp only
  split
  · exact .next h
  · exact Answers.ite (.next h) (Answers.ite (.next h.modPwr) (.next h.countSat.setFlag.setFld.modPwr))

theorem execWakeRetry_answers (h : Evolves .all s u) : Answers s (execWakeRetry u) := by
  unfold execWakeRetry
  dsimp only
  split
  exacts [.next h, Answers.ite (.next h.setFld.modPwr) (.next h)]

theorem execWarmReset_answers {addrSel : Fin 4} {ao : AoTime} (h : Evolves .all s u) : Answers s (execWarmReset addrSel ao u) := by
  unfold execWarmReset
  exact .next (Evolves.ite h.wakeSource h.resetWarm.sampleAddr)

theorem Evolves.logSupply (h : Evolves K s u) (hK : (Scope.of [.EVL_DROPPED] [.recorder, .pwr]).le K = true := by decide +kernel) :
    Evolves K s u.logSupply := by
  refine h.widen hK fun h => ?_
  unfold State.logSupply
  exact Evolves.ite h.log h.modPwr

theorem execSupplyTrip_answers {rail : Fin 7} {addrSel : Fin 4} (h : Evolves .all s u) : Answers s (execSupplyTrip rail addrSel u) := by
  unfold execSupplyTrip
  refine Answers.ite (execPowerOn_answers h) ?_
  refine Answers.ite (.next h) ?_
  refine Answers.ite (.next h.setFld.setFld.logSupply.modPwr) ?_
  refine Answers.ite (.next h.setFld.setFld) ?_
  refine Answers.ite (.next h.setFld.setFld.cutFuse.coldReset.setFld) ?_
  refine Answers.ite ?_ (.next (((h.setFld.setFld.when fun h₁ => h₁.modHka).logSupply).alert))
  exact .next (h.setFld.setFld.skip fun h₁ => h₁.logSupply.alert.fallToStandby (fun h₂ => h₂.toStandby))

theorem execSupplyRecover_answers {rail : Fin 7} (h : Evolves .all s u) : Answers s (execSupplyRecover rail u) := by
  unfold execSupplyRecover
  exact .next (Evolves.ite h.setFld h)

theorem Evolves.stepSize {y before : Nat} (h : Evolves K s u) (hK : (Scope.of [] [.freeCtr]).le K = true := by decide +kernel) :
    Evolves K s (u.stepSize y before).2 := by
  refine h.widen hK fun h => ?_
  unfold State.stepSize
  split
  exacts [h.fresh, h]

theorem Evolves.tskHit {r kind y : Nat} {size : ℤ} (h : Evolves K s u)
    (hK : (Scope.of [.TSK_HITS, .EVL_DROPPED] [.recorder, .pwr]).le K = true := by decide +kernel) :
    Evolves K s (u.tskHit r kind y size) := by
  refine h.widen hK fun h => ?_
  unfold State.tskHit
  exact h.count.cond (fun h₁ => h₁.log) (fun h₁ => h₁.modPwr)

theorem Evolves.tskAct {r : Nat} {fired : Option ℤ} {ns : Nat} (h : Evolves K s u)
    (hK : pwrCommandScope.le K = true := by decide +kernel) : Evolves K s (u.tskAct r fired ns) := by
  refine h.widen hK fun h => ?_
  unfold State.tskAct
  dsimp only
  refine Evolves.ite h.showTskLos ?_
  refine Evolves.ite ?_ ?_
  · split
    exacts [h.each (fun _ h₁ => h₁.tussockStep), h]
  · exact Evolves.ite h.wakeSource (Evolves.ite (Evolves.ite h.pwrRequest h) (Evolves.ite (Evolves.ite h.alert h.modPwr) h))

/-- What `State.levelRule` may change. -/
def levelRuleScope : Scope := .join [pwrCommandScope, .of [.TSK_HITS] []]

theorem Evolves.levelRule {r y ns : Nat} (h : Evolves K s u) (hK : levelRuleScope.le K = true := by decide +kernel) :
    Evolves K s (u.levelRule r y ns) := by
  refine h.widen hK fun h => ?_
  unfold State.levelRule
  exact Evolves.ite h.modTskRule (h.modTskRule.setTskActive.tskHit.cond (fun h₁ => h₁.showTskLos) (fun h₁ => h₁.tskAct))

theorem Evolves.stepRule {r ns : Nat} {ys : List Nat} (h : Evolves K s u) (hK : levelRuleScope.le K = true := by decide +kernel) :
    Evolves K s (u.stepRule r ns ys) := by
  refine h.widen hK fun h => ?_
  unfold State.stepRule
  dsimp only
  split
  exacts [Evolves.ite h.modTskRule (Evolves.ite h.modTskRule h.modTskRule.stepSize.tskHit.tskAct), h]

theorem Evolves.tskRules {i y ns : Nat} (h : Evolves K s u) (hK : levelRuleScope.le K = true := by decide +kernel) :
    Evolves K s (u.tskRules i y ns) := by
  refine h.widen hK fun h => ?_
  unfold State.tskRules
  exact h.each (fun _ h₁ => Evolves.ite h₁.levelRule h₁.stepRule)

theorem execTussockSample_answers {code : BitVec 12} {ao : AoTime} (h : Evolves .all s u) : Answers s (execTussockSample code ao u) := by
  unfold execTussockSample
  dsimp only
  refine Answers.ite (.next h) ?_
  split
  · exact .next h
  · exact Answers.ite (.next h.same.modTskIn.setFld) (.next h.same.modTskIn.setFld.modTskIn.setFld.tskRules)

end Sys2Proof.Machine
end

section
/-! SUPPORT. What the two-wire target leave: `Evolves`, for each operation and command. -/
namespace Sys2Proof.Machine
open Sys2Proof
set_option Elab.async false
variable {K : Scope} {s u t₀ : State}

theorem Evolves.cmisHold {k : Nat} {b : Byte} (h : Evolves K s u) (hK : (Scope.of [] [.mgt]).le K = true := by decide +kernel) :
    Evolves K s (u.cmisHold k b) := by
  refine h.widen hK fun h => ?_
  unfold State.cmisHold
  exact h.modMgt

theorem Evolves.windowRead {m : Nat} (h : Evolves K s u) (hK : (Scope.of [] [.mgt]).le K = true := by decide +kernel) :
    Evolves K s (u.windowRead m).2 := by
  refine h.widen hK fun h => ?_
  unfold State.windowRead
  exact Evolves.ite h.modMgt h

theorem Evolves.busReadByte (h : Evolves K s u) (hK : (Scope.of [.MGT_BAD_ADDR] [.mgt]).le K = true := by decide +kernel) :
    Evolves K s u.busReadByte.2 := by
  refine h.widen hK @fun s h => ?_
  have h' : ∀ {c : Prop} [Decidable c] {f : MgtX → MgtX} {k : Nat} {b : Byte}, Evolves (Scope.of [.MGT_BAD_ADDR] [.mgt]) s
      (if c then (u.modMgt f).cmisHold k b else u.modMgt f) :=
    h.modMgt.when fun h => h.cmisHold
  unfold State.busReadByte
  dsimp only
  split
  · exact .snd h'
  split
  · split
    exacts [h'.windowRead, .snd h']
  · exact .snd h'.count

theorem Evolves.busRead {k : Nat} (h : Evolves K s u) (hK : (Scope.of [.MGT_BAD_ADDR] [.mgt]).le K = true := by decide +kernel) :
    Evolves K s (u.busRead k).2 := by
  induction k generalizing u with
  | zero => exact h
  | succ k ih => exact .snd (ih (h.busReadByte hK))

theorem Evolves.modWin {f : WinX → WinX} (h : Evolves K s u) (hK : (Scope.of [] [.mgt]).le K = true := by decide +kernel) :
    Evolves K s (u.modWin f) := by
  refine h.widen hK fun h => ?_
  unfold State.modWin
  exact h.modMgt

theorem Evolves.windowWords (h : Evolves K s u) (hK : readAtScope.le K = true := by decide +kernel) : Evolves K s u.windowWords.2 := by
  refine h.widen hK fun h => ?_
  unfold State.windowWords
  exact h.foldlSnd (fun _ h₁ => h₁.readAt)

theorem Evolves.refreshWindow (h : Evolves K s u) (hK : readAtScope.le K = true := by decide +kernel) : Evolves K s u.refreshWindow := by
  refine h.widen hK fun h => ?_
  unfold State.refreshWindow
  generalize u.windowWords = p
  obtain ⟨ws, t⟩ := p
  exact .ite h (.modWin h.setCaptured)

theorem Evolves.dropStaged (h : Evolves K s u) (hK : (Scope.of [.MGT_BAD_ADDR] [.mgt]).le K = true := by decide +kernel) :
    Evolves K s u.dropStaged := by
  refine h.widen hK fun h => ?_
  unfold State.dropStaged
  exact h.count.modWin

theorem Evolves.windowWrite {j x : Nat} (h : Evolves K s u) (hK : Scope.all.le K = true := by decide +kernel) :
    Evolves K s (u.windowWrite j x) := by
  refine h.widen hK fun h => ?_
  unfold State.windowWrite
  exact Evolves.ite h.writeAt (h.writeAt.modWin.when fun h₁ => h₁.refreshWindow)

theorem Evolves.windowByte {m : Nat} {b : Byte} (h : Evolves K s u) (hK : Scope.all.le K = true := by decide +kernel) :
    Evolves K s (u.windowByte m b) := by
  refine h.widen hK fun h => ?_
  unfold State.windowByte
  exact Evolves.ite h.modWin (((Evolves.ite h h.fresh).modWin).windowWrite)

theorem Evolves.commitBase {v₁ : Nat} (h : Evolves K s u)
    (hK : (Scope.of [.MGT_BAD_ADDR] [.mgt]).le K = true := by decide +kernel) : Evolves K s (u.commitBase v₁) := by
  refine h.widen hK fun h => ?_
  unfold State.commitBase
  exact h.dropStaged.cond (fun h₁ => h₁.modWin) (fun h₁ => h₁.modWin)

theorem Evolves.windowControl {off : Nat} {b : Byte} (h : Evolves K s u) (hK : readAtScope.le K = true := by decide +kernel) :
    Evolves K s (u.windowControl off b) := by
  refine h.widen hK fun h => ?_
  unfold State.windowControl
  exact Evolves.ite (h.modWin.when fun h₁ => h₁.commitBase) (Evolves.ite (h.modWin.when fun h₁ => h₁.refreshWindow) h)

theorem Evolves.cmisTxDis {n : Nat} {on : Bool} (h : Evolves K s u) (hK : seqDoneScope.le K = true := by decide +kernel) :
    Evolves K s (u.cmisTxDis n on) := by
  refine h.widen hK fun h => ?_
  unfold State.cmisTxDis
  exact h.same.setCause

theorem Evolves.selectApp {h₁ app : Nat} (h : Evolves K s u) (hK : (Scope.of [] [.mgt]).le K = true := by decide +kernel) :
    Evolves K s (u.selectApp h₁ app) := by
  refine h.widen hK fun h => ?_
  unfold State.selectApp
  exact h.cmisHold.when fun h₁ => h₁.cmisHold

theorem Evolves.applyDataPath {bank mask : Nat} (h : Evolves K s u)
    (hK : (Scope.of [.HSI_TXEQ, .EVL_DROPPED] [.freeCtr, .recorder, .hsi, .mgt]).le K = true := by decide +kernel) :
    Evolves K s (u.applyDataPath bank mask) := by
  refine h.widen hK fun h => ?_
  unfold State.applyDataPath
  exact h.each (fun _ h₁ => h₁.selectApp.when fun h₂ => h₂.modHsi.applyCmisEq)

theorem Evolves.applyPrbs {bank off sel : Nat} {put : Nat → Nat → State → State} (h : Evolves K s u)
    (hput : ∀ {v i x}, Evolves K s v → Evolves K s (put i x v)) : Evolves K s (u.applyPrbs bank off sel put) := by
  unfold State.applyPrbs
  refine h.each fun i h => .ite ?_ (hput h)
  split
  exacts [hput h, h]

theorem Evolves.putPattern {f : Field} {wr : Path → Nat → Nat → State → State × WStatus} {i pat : Nat} (h : Evolves K s u)
    (hwr : ∀ {v p i x}, Evolves K s v → Evolves K s (wr p i x v).1) : Evolves K s (putPattern f wr i pat u) := by
  unfold Machine.putPattern
  exact h.skip hwr

/-- What `State.applyPatterns` may change. -/
def applyPatternsScope : Scope := .of [.LTX_STATUS, .LTX_PAT, .LTX_CHK, .LTX_CHK_SYM, .LTX_CHK_ERR, .LTX_CHK_BIT, .HSI_STATUS, .HSI_PAT,
    .HSI_CHK, .HSI_CHK_SYM, .HSI_CHK_ERR, .HSI_CHK_BIT, .EVL_DROPPED] [.recorder, .chk]

theorem Evolves.applyPatterns {bank : Nat} (h : Evolves K s u) (hK : applyPatternsScope.le K = true := by decide +kernel) :
    Evolves K s (u.applyPatterns bank) := by
  refine h.widen hK fun h => ?_
  unfold State.applyPatterns
  exact ((h.applyPrbs fun h => h.putPattern fun h => h.wrHsiPat).applyPrbs fun h => h.putPattern fun h => h.wrHsiChk).skip fun h =>
    (h.applyPrbs fun h => h.putPattern fun h => h.wrLtxPat).applyPrbs fun h => h.putPattern fun h => h.wrLtxChk

theorem Evolves.cmisApply {page bank off : Nat} {b : Byte} (h : Evolves K s u)
    (hK : lowPowerScope.le K = true := by decide +kernel) : Evolves K s (u.cmisApply page bank off b) := by
  refine h.widen hK fun h => ?_
  unfold State.cmisApply
  exact h.cmisHold.cond (fun h₁ => h₁.setLpSw) (fun h₁ => Evolves.ite h₁.applyDataPath (Evolves.ite h₁.applyPatterns h₁))

theorem Evolves.cmisControl {page bank off : Nat} {b : Byte} (h : Evolves K s u)
    (hK : lowPowerScope.le K = true := by decide +kernel) : Evolves K s (u.cmisControl page bank off b) := by
  refine h.widen hK fun h => ?_
  unfold State.cmisControl
  exact Evolves.ite (h.cmisHold.when fun h₁ => h₁.each (fun _ h₂ => Evolves.ite h₂ h₂.cmisTxDis)) (Evolves.ite h.modMgt h.cmisApply)

theorem Evolves.applyLater (h : Evolves K s u) (hK : lowPowerScope.le K = true := by decide +kernel) : Evolves K s u.applyLater := by
  refine h.widen hK fun h => ?_
  unfold State.applyLater
  exact h.modMgt.foldl (fun _ h₁ => h₁.cmisApply)

theorem Evolves.commitPassword {off : Nat} {f : State → Nat → State} (h : Evolves K s u)
    (hf : ∀ {v x}, Evolves K s v → Evolves K s (f v x)) (hK : (Scope.of [] [.mgt]).le K = true := by decide +kernel) :
    Evolves K s (u.commitPassword off f) := by
  unfold State.commitPassword
  exact hf (h.foldl fun _ h => h.cmisHold hK)

/-- What `State.lowerWrite` may change. -/
def lowerWriteScope : Scope := .join [lowPowerScope, .of [.MGT_BUS_STATUS, .MGT_PWD_FAIL] [.sec]]

theorem Evolves.lowerWrite {off : Nat} {b : Byte} (h : Evolves K s u) (hK : lowerWriteScope.le K = true := by decide +kernel) :
    Evolves K s (u.lowerWrite off b) := by
  refine h.widen hK fun h => ?_
  unfold State.lowerWrite
  refine .ite h.cmisHold (.ite ?_ (.ite h.cmisControl (.ite h.cmisHold h)))
  exact .ite (h.cmisHold.commitPassword fun h => h.setBusPassword) (.ite (h.cmisHold.commitPassword fun h => h.enterPassword) h.cmisHold)

theorem Evolves.upperWrite {page bank off : Nat} {b : Byte} (h : Evolves K s u) (hK : Scope.all.le K = true := by decide +kernel) :
    Evolves K s (u.upperWrite page bank off b) := by
  refine h.widen hK fun h => ?_
  unfold State.upperWrite
  exact Evolves.ite h.count (Evolves.ite h.windowControl (Evolves.ite h.windowByte (Evolves.ite h.cmisControl h)))

theorem Evolves.busWriteByte {b : Byte} (h : Evolves K s u) (hK : Scope.all.le K = true := by decide +kernel) :
    Evolves K s (u.busWriteByte b) := by
  refine h.widen hK fun h => ?_
  unfold State.busWriteByte
  exact Evolves.ite h (h.modMgt.cond (fun h₁ => h₁.lowerWrite) (fun h₁ => h₁.upperWrite))

theorem Evolves.busAnswer {ack : Bool} {bs : List Byte} (h : Evolves K s u)
    (hK : (Scope.of [] [.mgt]).le K = true := by decide +kernel) : Evolves K s (u.busAnswer ack bs) := by
  refine h.widen hK fun h => ?_
  unfold State.busAnswer
  exact h.modMgt

theorem busRow_answers {f : State → State} (h : Evolves .all s u) (hf : ∀ {v}, Evolves .all s v → Evolves .all s (f v)) : Answers s (busRow f u) := by
  unfold busRow
  exact .next (.ite h.busAnswer (hf h))

theorem execTwoWireWrite_answers {offset : Byte} {data : List Byte} {err : Bool} (h : Evolves .all s u) :
    Answers s (execTwoWireWrite offset data err u) := by
  unfold execTwoWireWrite
  exact busRow_answers h fun h => .dropStaged (.foldl h.busAnswer.modMgt fun _ h => h.busWriteByte)

theorem execLatchedFlagRead_answers {count : Fin 257} {classes : BitVec 10} (h : Evolves .all s u) :
    Answers s (execLatchedFlagRead count classes u) := by
  unfold execLatchedFlagRead
  exact busRow_answers h (fun h₁ => h₁.busRead.busAnswer.clearAlerts)

theorem i3cRow_answers {f : State → State} (h : Evolves .all s u) (hf : ∀ {v}, Evolves .all s v → Evolves .all s (f v)) : Answers s (i3cRow f u) := by
  unfold i3cRow
  exact busRow_answers h fun h => .ite (hf h) h.busAnswer

theorem Evolves.assignDyn {dyn : Nat} (h : Evolves K s u)
    (hK : (Scope.of [.MGT_BUS_STATUS] [.mgt]).le K = true := by decide +kernel) : Evolves K s (u.assignDyn dyn) := by
  refine h.widen hK fun h => ?_
  unfold State.assignDyn
  exact Evolves.ite h.busAnswer h.setFlag.setFld.busAnswer

theorem execSetdasa_answers {dyn : BitVec 7} (h : Evolves .all s u) : Answers s (execSetdasa dyn u) := by
  unfold execSetdasa
  exact busRow_answers h (fun h₁ => h₁.assignDyn)

theorem execEntdaa_answers {dyn : BitVec 7} (h : Evolves .all s u) : Answers s (execEntdaa dyn u) := by
  unfold execEntdaa
  exact busRow_answers h (fun h₁ => h₁.assignDyn)

theorem execSetnewda_answers {dyn : BitVec 7} (h : Evolves .all s u) : Answers s (execSetnewda dyn u) := by
  unfold execSetnewda
  exact i3cRow_answers h (fun h₁ => h₁.setFld.busAnswer)

theorem execRstdaa_answers (h : Evolves .all s u) : Answers s (execRstdaa u) := by
  unfold execRstdaa
  exact i3cRow_answers h (fun h₁ => h₁.dropDynAddr.dropRole.modMgt.busAnswer)

theorem execEnec_answers {events : Byte} (h : Evolves .all s u) : Answers s (execEnec events u) := by
  unfold execEnec
  exact i3cRow_answers h (fun h₁ => Evolves.ite ((Evolves.ite h₁.setFlag h₁).busAnswer) h₁.busAnswer)

theorem execDisec_answers {events : Byte} (h : Evolves .all s u) : Answers s (execDisec events u) := by
  unfold execDisec
  exact i3cRow_answers h (fun h₁ => Evolves.ite ((Evolves.ite h₁.setFlag h₁).busAnswer) h₁.busAnswer)

theorem execGetpid_answers (h : Evolves .all s u) : Answers s (execGetpid u) := by
  unfold execGetpid
  exact i3cRow_answers h (fun h₁ => h₁.busAnswer)

theorem execGetbcr_answers (h : Evolves .all s u) : Answers s (execGetbcr u) := by
  unfold execGetbcr
  exact i3cRow_answers h (fun h₁ => h₁.busAnswer)

theorem execGetdcr_answers (h : Evolves .all s u) : Answers s (execGetdcr u) := by
  unfold execGetdcr
  exact i3cRow_answers h (fun h₁ => h₁.busAnswer)

theorem execGetmwl_answers (h : Evolves .all s u) : Answers s (execGetmwl u) := by
  unfold execGetmwl
  exact i3cRow_answers h (fun h₁ => h₁.busAnswer)

theorem execSetmwl_answers {len : BitVec 16} (h : Evolves .all s u) : Answers s (execSetmwl len u) := by
  unfold execSetmwl
  exact i3cRow_answers h (fun h₁ => Evolves.ite h₁.busAnswer h₁.modMgt.busAnswer)

theorem execGetmrl_answers (h : Evolves .all s u) : Answers s (execGetmrl u) := by
  unfold execGetmrl
  exact i3cRow_answers h (fun h₁ => h₁.busAnswer)

theorem execSetmrl_answers {len : BitVec 16} (h : Evolves .all s u) : Answers s (execSetmrl len u) := by
  unfold execSetmrl
  exact i3cRow_answers h (fun h₁ => Evolves.ite h₁.busAnswer h₁.modMgt.busAnswer)

theorem execGetmxds_answers (h : Evolves .all s u) : Answers s (execGetmxds u) := by
  unfold execGetmxds
  exact i3cRow_answers h (fun h₁ => h₁.busAnswer)

theorem execGetstatus_answers (h : Evolves .all s u) : Answers s (execGetstatus u) := by
  unfold execGetstatus
  exact i3cRow_answers h fun h => .busAnswer h.modMgt

theorem execUnsupportedCcc_answers (h : Evolves .all s u) : Answers s (execUnsupportedCcc u) := by
  unfold execUnsupportedCcc
  exact busRow_answers h (fun h₁ => h₁.busAnswer)

theorem execWinAddrCommit_answers {value : Word32} (h : Evolves .all s u) : Answers s (execWinAddrCommit value u) := by
  unfold execWinAddrCommit
  exact busRow_answers h (fun h₁ => h₁.commitBase.busAnswer)

theorem execWindowWordCommit_answers {j : Fin 480} {value : Word32} (h : Evolves .all s u) : Answers s (execWindowWordCommit j value u) := by
  unfold execWindowWordCommit
  exact busRow_answers h (fun h₁ => h₁.modWin.windowWrite.busAnswer)

theorem execWinRefresh_answers (h : Evolves .all s u) : Answers s (execWinRefresh u) := by
  unfold execWinRefresh
  exact busRow_answers h (fun h₁ => (Evolves.ite h₁.refreshWindow h₁).busAnswer)

theorem execWindowRefresh_answers (h : Evolves .all s u) : Answers s (execWindowRefresh u) := by
  unfold execWindowRefresh
  exact .next (Evolves.ite h.refreshWindow h)

theorem execWindowFetchDone_answers (h : Evolves .all s u) : Answers s (execWindowFetchDone u) := by
  unfold execWindowFetchDone
  exact .next (Evolves.ite h h.refreshWindow.modWin)

theorem Evolves.monitorAt {page bank off v₁ : Nat} (h : Evolves K s u)
    (hK : (Scope.of [] [.mgt]).le K = true := by decide +kernel) : Evolves K s (u.monitorAt page bank off v₁) := by
  refine h.widen hK fun h => ?_
  unfold State.monitorAt
  exact h.cmisHold.cmisHold

theorem Evolves.refreshMonitors (h : Evolves K s u) (hK : (Scope.of [] [.mgt]).le K = true := by decide +kernel) :
    Evolves K s u.refreshMonitors := by
  refine h.widen hK fun h => ?_
  unfold State.refreshMonitors
  exact h.monitorAt.monitorAt.each (fun _ h₁ => h₁.monitorAt.monitorAt.monitorAt)

theorem Evolves.latchFlags {f : CmisFlag} (h : Evolves K s u)
    (hK : (Scope.of [.GLB_STATE, .MGT_ALERT_STATUS] [.risen, .mgt]).le K = true := by decide +kernel) : Evolves K s (u.latchFlags f) := by
  refine h.widen hK fun h => ?_
  unfold State.latchFlags
  exact Evolves.ite h (h.cmisHold.skip fun h₁ => h₁.alert)

theorem execCmisMonitorRefresh_answers {flags : List CmisFlag} (h : Evolves .all s u) : Answers s (execCmisMonitorRefresh flags u) := by
  unfold execCmisMonitorRefresh
  exact .next (Evolves.ite h (h.refreshMonitors.foldl (fun _ h₁ => h₁.latchFlags)))

theorem execApplicationSelect_answers {h₁ : HLane} {app : Fin 16} (h : Evolves .all s u) : Answers s (execApplicationSelect h₁ app u) := by
  unfold execApplicationSelect
  exact .next (Evolves.ite h (Evolves.ite h.modMgt h.selectApp))

end Sys2Proof.Machine
end

section
/-! SUPPORT. What attestation leave: `Evolves`, for each operation and command. -/
namespace Sys2Proof.Machine
open Sys2Proof
set_option Elab.async false
variable {K : Scope} {s u t₀ : State}

theorem Evolves.spdmStep {k : Nat} {req resp : List Byte} (h : Evolves K s u)
    (hK : (Scope.of [] [.sec]).le K = true := by decide +kernel) : Evolves K s (u.spdmStep k req resp).2 :=
  h.widen hK fun h => .snd h.modSec

theorem Evolves.spdmCertStep {req resp : List Byte} (h : Evolves K s u)
    (hK : (Scope.of [] [.sec]).le K = true := by decide +kernel) : Evolves K s (u.spdmCertStep req resp).2 :=
  h.widen hK fun h => .snd h.modSec

theorem Evolves.certificate {m : List Byte} (h : Evolves K s u) (hK : (Scope.of [] [.sec]).le K = true := by decide +kernel) :
    Evolves K s (u.certificate m).2 := by
  refine h.widen hK fun h => ?_
  unfold State.certificate
  dsimp only
  split
  exacts [h, h.spdmCertStep]

theorem Evolves.freshNonce (h : Evolves K s u) (hK : (Scope.of [] [.freeCtr]).le K = true := by decide +kernel) :
    Evolves K s u.freshNonce.2 := by
  refine h.widen hK fun h => ?_
  unfold State.freshNonce
  exact h.fresh

theorem Evolves.challenge {m : List Byte} (h : Evolves K s u)
    (hK : (Scope.of [] [.freeCtr, .sec]).le K = true := by decide +kernel) : Evolves K s (u.challenge m).2 := by
  refine h.widen hK fun h => ?_
  unfold State.challenge
  dsimp only
  split
  · exact h
  split
  exacts [h, .snd h.freshNonce.modSec]

theorem Evolves.measurements {m : List Byte} (h : Evolves K s u)
    (hK : (Scope.of [] [.freeCtr, .sec]).le K = true := by decide +kernel) : Evolves K s (u.measurements m).2 := by
  refine h.widen hK fun h => ?_
  unfold State.measurements
  dsimp only
  split
  · exact h
  split
  · exact h
  split
  exacts [.snd h.freshNonce.modSec, .snd h.freshNonce.modSec]

theorem Evolves.spdm {m : List Byte} (h : Evolves K s u) (hK : (Scope.of [] [.freeCtr, .sec]).le K = true := by decide +kernel) :
    Evolves K s (u.spdm m).2 := by
  refine h.widen hK fun h => ?_
  unfold State.spdm
  dsimp only
  split
  · exact h
  · split
    · split
      exacts [h.spdmStep, h]
    · split
      · exact h
      · split
        · exact h
        · split
          · split
            exacts [h, h.fresh.spdmStep]
          · split
            · split
              · exact h
              · split
                exacts [h.spdmStep, h]
            · split
              · exact h
              · split
                · exact h.spdmCertStep
                · split
                  · exact h.certificate
                  · split
                    exacts [h.challenge, h.measurements]

end Sys2Proof.Machine
end

section
/-! SUPPORT. What Causeway leave: `Evolves`, for each operation and command. -/
namespace Sys2Proof.Machine
open Sys2Proof
set_option Elab.async false
variable {K : Scope} {s u t₀ : State}

theorem Evolves.tunSend {node : Nat} {m : List Byte} (h : Evolves K s u)
    (hK : (Scope.of [] [.mgt]).le K = true := by decide +kernel) : Evolves K s (u.tunSend node m) := by
  refine h.widen hK fun h => ?_
  unfold State.tunSend
  exact h.modMgt

theorem Evolves.cwSend {via : Via} {m : List Byte} (h : Evolves K s u)
    (hK : (Scope.of [.MGT_CW_TX] [.hsi, .hpm, .mgt]).le K = true := by decide +kernel) : Evolves K s (u.cwSend via m) := by
  refine h.widen hK fun h => ?_
  unfold State.cwSend
  dsimp only
  exact (h.count (f := MGT_CW_TX.COUNT)).step fun h₁ => by split; exacts [h₁.modMgt.modHpm, Evolves.ite h₁.modHsi h₁, h₁.tunSend]

theorem Evolves.cwReply {via : Via} {m : List Byte} {status : Nat} {body key : List Byte} (h : Evolves K s u)
    (hK : (Scope.of [.MGT_CW_TX, .MGT_CW_AUTH_FAIL] [.hsi, .hpm, .mgt]).le K = true := by decide +kernel) :
    Evolves K s (u.cwReply via m status body key) := by
  refine h.widen hK fun h => ?_
  unfold State.cwReply
  exact (Evolves.ite h.count h).cwSend

theorem Evolves.modSess {k : Nat} {f : SessX → SessX} (h : Evolves K s u)
    (hK : (Scope.of [] [.mgt]).le K = true := by decide +kernel) : Evolves K s (u.modSess k f) := by
  refine h.widen hK fun h => ?_
  unfold State.modSess
  exact h.modMgt

theorem Evolves.sessionUsed {k : Nat} {via : Via} {m : List Byte} (h : Evolves K s u)
    (hK : (Scope.of [.MGT_SESSION] [.mgt]).le K = true := by decide +kernel) : Evolves K s (u.sessionUsed k via m) := by
  refine h.widen hK fun h => ?_
  unfold State.sessionUsed
  exact h.modSess.setFld

theorem Evolves.sessionFail {k : Nat} (h : Evolves K s u) (hK : (Scope.of [.MGT_SESSION] [.mgt]).le K = true := by decide +kernel) :
    Evolves K s (u.sessionFail k) := by
  refine h.widen hK fun h => ?_
  unfold State.sessionFail
  exact h.modSess.when fun h₁ => h₁.closeSession

theorem Evolves.newNumber (h : Evolves K s u) (hK : (Scope.of [] [.freeCtr]).le K = true := by decide +kernel) :
    Evolves K s u.newNumber.2 := by
  refine h.widen hK fun h => ?_
  unfold State.newNumber
  dsimp only
  split
  exacts [h.fresh, h.fresh]

theorem Evolves.keyExchange {via : Via} {m : List Byte} (h : Evolves K s u)
    (hK : (Scope.of [.MGT_SESSION] [.freeCtr, .mgt, .sec]).le K = true := by decide +kernel) : Evolves K s (u.keyExchange via m).2.2 := by
  refine h.widen hK fun h => ?_
  unfold State.keyExchange
  dsimp only
  split
  · exact h
  · split
    · exact h
    · split
      · exact h
      · split
        exacts [h, h.newNumber.freshNonce.freshKey.modSec.modSess.resetReg.setFlag.setFld.setFld.setFld]

/-- What `State.finish` may change. -/
def finishScope : Scope := .of [.GLB_STATE, .MGT_ALERT_STATUS, .MGT_PWD_FAIL, .MGT_SESSION, .EVL_DROPPED] [.risen, .recorder, .mgt]

theorem Evolves.finish {k : Nat} {m : List Byte} (h : Evolves K s u) (hK : finishScope.le K = true := by decide +kernel) :
    Evolves K s (u.finish k m).2.2 := by
  refine h.widen hK fun h => ?_
  unfold State.finish
  dsimp only
  split
  · exact h
  · split
    exacts [h.modSess.setFld, (Evolves.ite h h.authFailure).closeSession]

theorem Evolves.subscribe {k : Nat} {m : List Byte} (h : Evolves K s u)
    (hK : (Scope.of [.MGT_SESSION] [.mgt]).le K = true := by decide +kernel) : Evolves K s (u.subscribe k m).2.2 := by
  refine h.widen hK fun h => ?_
  unfold State.subscribe
  dsimp only
  split
  · exact h
  · dsimp only
    exact .modMgt h.setFld

theorem Evolves.cwRead {p : Path} {b : List Byte} (h : Evolves K s u) (hK : readAtScope.le K = true := by decide +kernel) :
    Evolves K s (u.cwRead p b).2.2 := by
  refine h.widen hK fun h => ?_
  unfold State.cwRead
  split
  exacts [h, h.readAt]

theorem Evolves.cwWrite {p : Path} {b : List Byte} (h : Evolves K s u) (hK : Scope.all.le K = true := by decide +kernel) :
    Evolves K s (u.cwWrite p b).2.2 := by
  refine h.widen hK fun h => ?_
  unfold State.cwWrite
  split
  exacts [h, h.writeAt]

theorem Evolves.readWords {p : Path} {a k : Nat} (h : Evolves K s u) (hK : readAtScope.le K = true := by decide +kernel) :
    Evolves K s (u.readWords p a k).2.2 := by
  induction k generalizing u a with
  | zero => exact h
  | succ k ih => exact ih (h.readAt hK)

theorem Evolves.cwReadBlock {p : Path} {b : List Byte} (h : Evolves K s u) (hK : readAtScope.le K = true := by decide +kernel) :
    Evolves K s (u.cwReadBlock p b).2.2 := by
  refine h.widen hK fun h => ?_
  unfold State.cwReadBlock
  dsimp only
  split
  · exact h
  split
  exacts [h, h.readWords]

theorem Evolves.writeWords {p : Path} {a : Nat} {xs : List Nat} (h : Evolves K s u)
    (hK : Scope.all.le K = true := by decide +kernel) : Evolves K s (u.writeWords p a xs).2.2 := by
  induction xs generalizing u a with
  | nil => exact h
  | cons x xs ih =>
    unfold State.writeWords
    dsimp only
    split
    · exact h.writeAt hK
    split
    exacts [h.writeAt hK, ih (h.writeAt hK)]

theorem Evolves.cwWriteBlock {p : Path} {b : List Byte} (h : Evolves K s u) (hK : Scope.all.le K = true := by decide +kernel) :
    Evolves K s (u.cwWriteBlock p b).2.2 := by
  refine h.widen hK fun h => ?_
  unfold State.cwWriteBlock
  dsimp only
  split
  · exact h
  split
  exacts [h, h.writeWords]

theorem Evolves.cwImageChunk {p : Path} {b : List Byte} (h : Evolves K s u)
    (hK : (Scope.of [.HRN_LOAD_COUNT] [.hrn]).le K = true := by decide +kernel) : Evolves K s (u.cwImageChunk p b).2.2 := by
  refine h.widen hK fun h => ?_
  unfold State.cwImageChunk
  dsimp only
  split
  · exact h
  · split
    · exact h
    · split
      · exact h
      · split
        exacts [h, h.appendStaging]

/-- What `State.cwSessionOp` may change. -/
def cwSessionOpScope : Scope := .of [.GLB_STATE, .MGT_ALERT_STATUS, .MGT_PWD_FAIL, .MGT_SESSION, .EVL_DROPPED] [.freeCtr, .risen,
    .recorder, .mgt, .sec]

theorem Evolves.cwSessionOp {via : Via} {m : List Byte} {k : Option Nat} (h : Evolves K s u)
    (hK : cwSessionOpScope.le K = true := by decide +kernel) : Evolves K s (u.cwSessionOp via m k).2.2 := by
  refine h.widen hK fun h => ?_
  unfold State.cwSessionOp
  dsimp only
  split
  · exact h
  · split
    · exact h.keyExchange
    · split
      · exact h
      · split
        · exact h
        · split
          · exact h.finish
          · split
            exacts [h.closeSession, h.subscribe]

theorem Evolves.cwServe {via : Via} {m : List Byte} {k : Option Nat} (h : Evolves K s u)
    (hK : Scope.all.le K = true := by decide +kernel) : Evolves K s (u.cwServe via m k).2.2 := by
  refine h.widen hK fun h => ?_
  unfold State.cwServe
  dsimp only
  split
  · exact h.cwRead
  · split
    · exact h.cwWrite
    · split
      · exact h.cwReadBlock
      · split
        · exact h.cwWriteBlock
        · split
          · exact h.cwImageChunk
          · split
            exacts [h.cwSessionOp, h.spdm]

theorem Evolves.cwAnswer {via : Via} {m : List Byte} {k : Option Nat} (h : Evolves K s u)
    (hK : Scope.all.le K = true := by decide +kernel) : Evolves K s (u.cwAnswer via m k) := by
  refine h.widen hK fun h => ?_
  unfold State.cwAnswer
  exact Evolves.ite h.cwServe ((Evolves.ite h.cwServe.count h.cwServe).cwReply)

theorem Evolves.cwHandle {via : Via} {m : List Byte} (h : Evolves K s u) (hK : Scope.all.le K = true := by decide +kernel) :
    Evolves K s (u.cwHandle via m) := by
  refine h.widen hK fun h => ?_
  unfold State.cwHandle
  dsimp only
  refine Evolves.ite (Evolves.ite h.cwReply h.cwAnswer) ?_
  split
  exacts [h.cwReply, Evolves.ite h.sessionUsed.cwAnswer h.sessionFail.cwReply]

theorem Evolves.tunnelRequest {via : Via} {m : List Byte} (h : Evolves K s u)
    (hK : (Scope.of [.MGT_CW_TX, .MGT_CW_BAD, .MGT_CW_AUTH_FAIL] [.hsi, .hpm, .mgt]).le K = true := by decide +kernel) :
    Evolves K s (u.tunnelRequest via m) := by
  refine h.widen hK fun h => ?_
  unfold State.tunnelRequest
  dsimp only
  split
  exacts [h.count.cwReply, h.cwReply, Evolves.ite h.cwReply h.modMgt.tunSend]

theorem Evolves.tunnelReply {node : Nat} {m : List Byte} (h : Evolves K s u)
    (hK : (Scope.of [.MGT_CW_TX, .MGT_TUN_DISC] [.hsi, .hpm, .mgt]).le K = true := by decide +kernel) :
    Evolves K s (u.tunnelReply node m) := by
  refine h.widen hK fun h => ?_
  unfold State.tunnelReply
  split
  exacts [h.modMgt.cwSend, h.count]

theorem Evolves.tunnelOver {r : TunReq} (h : Evolves K s u)
    (hK : (Scope.of [.MGT_CW_TX] [.hsi, .hpm, .mgt]).le K = true := by decide +kernel) : Evolves K s (u.tunnelOver r) := by
  refine h.widen hK fun h => ?_
  unfold State.tunnelOver
  exact h.modMgt.cwSend

theorem Evolves.cwReceive {via : Via} {m : List Byte} (h : Evolves K s u) (hK : Scope.all.le K = true := by decide +kernel) :
    Evolves K s (u.cwReceive via m) := by
  refine h.widen hK fun h => ?_
  unfold State.cwReceive
  dsimp only
  refine Evolves.ite (Evolves.ite h.count.cwReply (Evolves.ite h.modMgt h.count)) ?_
  split
  · exact Evolves.ite h.count.tunnelReply (h.count.when fun h₁ => h₁.cwReply)
  · exact h.count.when fun h₁ => h₁.cwReply
  · exact h.count.cond (fun h₁ => h₁.tunnelRequest) (fun h₁ => h₁.cwHandle)

theorem Evolves.cwHeld (h : Evolves K s u) (hK : Scope.all.le K = true := by decide +kernel) : Evolves K s u.cwHeld := by
  refine h.widen hK fun h => ?_
  unfold State.cwHeld
  exact h.modMgt.foldl (fun _ h₁ => Evolves.ite h₁ h₁.cwReceive)

theorem Evolves.cwFragment {h₁ : HLane} {entry : List Byte} (h : Evolves K s u) (hK : Scope.all.le K = true := by decide +kernel) :
    Evolves K s (u.cwFragment h₁ entry) := by
  refine h.widen hK fun h => ?_
  unfold State.cwFragment
  dsimp only
  split
  · refine Evolves.ite (Evolves.ite h.count.modHsi.count (Evolves.ite h.count.modHsi.cwReceive h.count.modHsi)) ?_
    exact Evolves.ite h.modHsi.count (Evolves.ite h.modHsi.cwReceive h.modHsi)
  · exact Evolves.ite (Evolves.ite h.modHsi.count (Evolves.ite h.modHsi.cwReceive h.modHsi)) h

theorem Evolves.cwWord {node : Nat} {w : BitVec 44} (h : Evolves K s u) (hK : Scope.all.le K = true := by decide +kernel) :
    Evolves K s (u.cwWord node w) := by
  refine h.widen hK fun h => ?_
  unfold State.cwWord
  exact (Evolves.ite h.count h).cond (fun h₁ => h₁.count) (fun h₁ => Evolves.ite h₁.modMgt.cwReceive h₁.modMgt)

theorem execCausewayFragment_answers {h₁ : HLane} {entry : List Byte} (h : Evolves .all s u) :
    Answers s (execCausewayFragment h₁ entry u) := by
  unfold execCausewayFragment
  exact .next (Evolves.ite h.cwFragment h)

theorem execCausewayFrameExtract_answers {p : Fin 32} {dst src : BitVec 48} {payload : List Byte} (h : Evolves .all s u) :
    Answers s (execCausewayFrameExtract p dst src payload u) := by
  unfold execCausewayFrameExtract
  exact .next (Evolves.ite h.cwReceive h)

theorem cwRow_answers {is : List Byte → Bool} {via : Via} {msg : List Byte} (h : Evolves .all s u) : Answers s (cwRow is via msg u) := by
  unfold cwRow
  exact .next (Evolves.ite h.cwReceive h)

theorem execRead_answers {via : Via} {msg : List Byte} (h : Evolves .all s u) : Answers s (execRead via msg u) := by
  unfold execRead
  exact cwRow_answers h

theorem execWrite_answers {via : Via} {msg : List Byte} (h : Evolves .all s u) : Answers s (execWrite via msg u) := by
  unfold execWrite
  exact cwRow_answers h

theorem execReadBlock_answers {via : Via} {msg : List Byte} (h : Evolves .all s u) : Answers s (execReadBlock via msg u) := by
  unfold execReadBlock
  exact cwRow_answers h

theorem execWriteBlock_answers {via : Via} {msg : List Byte} (h : Evolves .all s u) : Answers s (execWriteBlock via msg u) := by
  unfold execWriteBlock
  exact cwRow_answers h

theorem execImageChunk_answers {via : Via} {msg : List Byte} (h : Evolves .all s u) : Answers s (execImageChunk via msg u) := by
  unfold execImageChunk
  exact cwRow_answers h

theorem execKeyExchange_answers {via : Via} {msg : List Byte} (h : Evolves .all s u) : Answers s (execKeyExchange via msg u) := by
  unfold execKeyExchange
  exact cwRow_answers h

theorem execFinish_answers {via : Via} {msg : List Byte} (h : Evolves .all s u) : Answers s (execFinish via msg u) := by
  unfold execFinish
  exact cwRow_answers h

theorem execSessionClose_answers {via : Via} {msg : List Byte} (h : Evolves .all s u) : Answers s (execSessionClose via msg u) := by
  unfold execSessionClose
  exact cwRow_answers h

theorem execSubscribe_answers {via : Via} {msg : List Byte} (h : Evolves .all s u) : Answers s (execSubscribe via msg u) := by
  unfold execSubscribe
  exact cwRow_answers h

theorem execSessionIdleTimeout_answers {k : Fin 4} (h : Evolves .all s u) : Answers s (execSessionIdleTimeout k u) := by
  unfold execSessionIdleTimeout
  exact .next (Evolves.ite h h.closeSession)

theorem execNotifySend_answers {k : Fin 4} (h : Evolves .all s u) : Answers s (execNotifySend k u) := by
  unfold execNotifySend
  dsimp only
  split
  exacts [.next h, .next h.modMgt, Answers.ite (.next h) (.next h.modMgt.modSess.cwSend)]

theorem execGetVersion_answers {via : Via} {msg : List Byte} (h : Evolves .all s u) : Answers s (execGetVersion via msg u) := by
  unfold execGetVersion
  exact cwRow_answers h

theorem execGetCapabilities_answers {via : Via} {msg : List Byte} (h : Evolves .all s u) : Answers s (execGetCapabilities via msg u) := by
  unfold execGetCapabilities
  exact cwRow_answers h

theorem execNegotiateAlgorithms_answers {via : Via} {msg : List Byte} (h : Evolves .all s u) :
    Answers s (execNegotiateAlgorithms via msg u) := by
  unfold execNegotiateAlgorithms
  exact cwRow_answers h

theorem execGetDigests_answers {via : Via} {msg : List Byte} (h : Evolves .all s u) : Answers s (execGetDigests via msg u) := by
  unfold execGetDigests
  exact cwRow_answers h

theorem execGetCertificate_answers {via : Via} {msg : List Byte} (h : Evolves .all s u) : Answers s (execGetCertificate via msg u) := by
  unfold execGetCertificate
  exact cwRow_answers h

theorem execChallenge_answers {via : Via} {msg : List Byte} (h : Evolves .all s u) : Answers s (execChallenge via msg u) := by
  unfold execChallenge
  exact cwRow_answers h

theorem execGetMeasurements_answers {via : Via} {msg : List Byte} (h : Evolves .all s u) : Answers s (execGetMeasurements via msg u) := by
  unfold execGetMeasurements
  exact cwRow_answers h

theorem execUnsupportedRequest_answers {via : Via} {msg : List Byte} (h : Evolves .all s u) :
    Answers s (execUnsupportedRequest via msg u) := by
  unfold execUnsupportedRequest
  exact cwRow_answers h

theorem execTunnelRequest_answers {via : Via} {msg : List Byte} (h : Evolves .all s u) : Answers s (execTunnelRequest via msg u) := by
  unfold execTunnelRequest
  exact cwRow_answers h

theorem execCausewayWordReceived_answers {n : Lane} {payload : BitVec 44} (h : Evolves .all s u) :
    Answers s (execCausewayWordReceived n payload u) := by
  unfold execCausewayWordReceived
  refine .next ?_
  exact h.oamIn (fun h₁ => (by split; exacts [h₁.cwWord, h₁.count]))

theorem execTunnelReply_answers {node : BitVec 16} {msg : List Byte} (h : Evolves .all s u) : Answers s (execTunnelReply node msg u) := by
  unfold execTunnelReply
  exact cwRow_answers h

theorem execTunnelTimeout_answers {node : BitVec 16} (h : Evolves .all s u) : Answers s (execTunnelTimeout node u) := by
  unfold execTunnelTimeout
  split
  exacts [.next h.tunnelOver, .next h]

end Sys2Proof.Machine
end

section
/-! SUPPORT. What thermal stops leave: `Evolves`, for each operation and command. -/
namespace Sys2Proof.Machine
open Sys2Proof
set_option Elab.async false
variable {K : Scope} {s u t₀ : State}

/-- What `State.countStop` may change. -/
def countStopScope : Scope := .of [.GLB_STATE, .MGT_ALERT_STATUS, .THM_CFG, .THM_STOPS, .EVL_DROPPED] [.risen, .recorder, .mgt, .thm]

theorem Evolves.countStop (h : Evolves K s u) (hK : countStopScope.le K = true := by decide +kernel) : Evolves K s u.countStop := by
  refine h.widen hK fun h => ?_
  unfold State.countStop
  exact h.same.count.when fun h₁ => h₁.setFlag.logHot.alert

theorem Evolves.abortBist (h : Evolves K s u) (hK : (Scope.of [.GLB_STATE, .PWR_STATE] [.pwr]).le K = true := by decide +kernel) :
    Evolves K s u.abortBist := by
  refine h.widen hK fun h => ?_
  unfold State.abortBist
  dsimp only
  split
  exacts [h, Evolves.ite h h.setFld.bootStep.modPwr]

/-- What `State.beginStop` may change. -/
def beginStopScope : Scope := .join [countStopScope, .of [.PWR_STATE, .EQP_POOL, .EQP_SLICE_STATE, .THM_STATUS, .BST_DEC_STATE,
    .BST_IS_ABORT] [.grp, .pwr]]

theorem Evolves.beginStop {kind state : Nat} {orderly : Bool} (h : Evolves K s u)
    (hK : beginStopScope.le K = true := by decide +kernel) : Evolves K s (u.beginStop kind state orderly) := by
  refine h.widen hK fun h => ?_
  unfold State.beginStop
  exact .abortBist (.setThm (.countStop (.each h.setFld.logHot.alert fun _ h => h.abortTests)))

theorem execStopOrderly_answers (h : Evolves .all s u) : Answers s (execStopOrderly u) := by
  unfold execStopOrderly
  exact .ite (.next h) (.ite (.next (h.beginStop.setFld.fallToStandby id)) (.next (.setThm h.beginStop.loadAborts)))

theorem execStopDrainEnd_answers (h : Evolves .all s u) : Answers s (execStopDrainEnd u) := by
  unfold execStopDrainEnd
  exact Answers.ite (.next h) (.next (((h.same.each (fun _ h₁ => h₁.setCause)).setFld).fallToStandby (fun h₁ => h₁.toStandby)))

theorem Evolves.stopNow (h : Evolves K s u) (hK : applyHeldScope.le K = true := by decide +kernel) : Evolves K s u.stopNow := by
  refine h.widen hK fun h => ?_
  unfold State.stopNow
  exact h.fallToStandby (fun h₁ => h₁.powerDown)

theorem execStopImmediate_answers (h : Evolves .all s u) : Answers s (execStopImmediate u) := by
  unfold execStopImmediate
  exact Answers.ite (.next h) (.next h.beginStop.stopNow)

theorem execTrip_answers (h : Evolves .all s u) : Answers s (execTrip u) := by
  unfold execTrip
  refine Answers.ite (.next h) ?_
  exact .next ((h.modPwr.beginStop.stopNow.setFld.setQuality.dropRole.closeSessions.flushQueue.each (fun _ h₁ => h₁.loseRegion)).modPwr)

theorem execThermalRestart_answers (h : Evolves .all s u) : Answers s (execThermalRestart u) := by
  unfold execThermalRestart
  exact Answers.ite (.next h.thermalRestart.toActive) (.next h)

end Sys2Proof.Machine
end

section
/-! SUPPORT. What clock loss leave: `Evolves`, for each operation and command. -/
namespace Sys2Proof.Machine
open Sys2Proof
set_option Elab.async false
variable {K : Scope} {s u t₀ : State}

theorem Evolves.lineUnlock {g : Nat} (h : Evolves K s u)
    (hK : (Scope.of [.CLK_STATUS, .CLK_LINE] [.clk]).le K = true := by decide +kernel) : Evolves K s (u.lineUnlock g) := by
  refine h.widen hK fun h => ?_
  unfold State.lineUnlock
  exact ((Evolves.ite h.setFld.countSat h).setFld).modClk

theorem Evolves.hostUnlock {k : Nat} (h : Evolves K s u)
    (hK : (Scope.of [.CLK_STATUS, .CLK_HOST, .HSI_CLK] [.clk]).le K = true := by decide +kernel) : Evolves K s (u.hostUnlock k) := by
  refine h.widen hK fun h => ?_
  unfold State.hostUnlock
  exact (((Evolves.ite h.setFld.countSat h).setFld).setFlag).modClk

/-- What `State.lineLost` may change. -/
def lineLostScope : Scope := .join [endLrxScope, .of [.LTX_STATUS] [.pins]]

theorem Evolves.lineLost {g : Nat} (h : Evolves K s u) (hK : lineLostScope.le K = true := by decide +kernel) :
    Evolves K s (u.lineLost g) := by
  refine h.widen hK fun h => ?_
  unfold State.lineLost
  exact h.each (fun _ h₁ => h₁.ltxClockLost.lrxClockLost)

theorem Evolves.hostLost {k : Nat} (h : Evolves K s u) (hK : disableHrxScope.le K = true := by decide +kernel) :
    Evolves K s (u.hostLost k) := by
  refine h.widen hK fun h => ?_
  unfold State.hostLost
  exact h.each (fun _ h₁ => h₁.hostClockLost)

/-- What `State.clocksLost` may change. -/
def clocksLostScope : Scope := .join [lineLostScope, .of [.GLB_STATE, .CLK_STATUS, .CLK_REF_LOSS, .CLK_LINE, .CLK_HOST, .HSI_STATUS,
    .HSI_LOL, .HSI_CLK, .MGT_ALERT_STATUS] [.freeCtr, .pwr, .clk]]

theorem Evolves.clocksLost (h : Evolves K s u) (hK : clocksLostScope.le K = true := by decide +kernel) : Evolves K s u.clocksLost := by
  refine h.widen hK fun h => ?_
  unfold State.clocksLost
  exact ((((((h.count.modPwr.each (fun _ h₁ => h₁.lineUnlock)).each (fun _ h₁ => h₁.hostUnlock)).each (fun _ h₁ =>
      h₁.lineLost)).each (fun _ h₁ => h₁.hostLost)).toHoldover).rebaseBound).alert

theorem execRefclkMissing_answers (h : Evolves .all s u) : Answers s (execRefclkMissing u) := by
  unfold execRefclkMissing
  exact Answers.ite (.next h) (.next h.setFlag.setFlag.clocksLost)

theorem execCorePllLockLoss_answers (h : Evolves .all s u) : Answers s (execCorePllLockLoss u) := by
  unfold execCorePllLockLoss
  exact Answers.ite (.next h) (.next h.setFlag.clocksLost)

theorem execRefclkReturn_answers (h : Evolves .all s u) : Answers s (execRefclkReturn u) := by
  unfold execRefclkReturn
  refine Answers.ite (.next h) ?_
  exact .next (((h.setFlag.setFlag.rebaseBound.when fun h₁ => h₁.same).each (fun _ h₁ => h₁.tuneLine)).each (fun _ h₁ => h₁.tuneHost))

theorem Evolves.pendingGo (h : Evolves K s u) (hK : applyHeldScope.le K = true := by decide +kernel) : Evolves K s u.pendingGo := by
  refine h.widen hK fun h => ?_
  unfold State.pendingGo
  refine .when ?_ fun h => h.activate
  split
  exacts [.ite h.bootFinish (.ite h.quiesceStart h), h]

theorem Evolves.synthLock {y : SynthId} (h : Evolves K s u) (hK : applyHeldScope.le K = true := by decide +kernel) :
    Evolves K s (u.synthLock y) := by
  refine h.widen hK fun h => ?_
  cases y with
  | line g =>
    refine .ite h (.pendingGo (.each (.setFld (.setFld (.when h.setFld fun h => h.setFld))) fun _ h => ?_))
    exact h.lrxClockBack.ltxClockBack
  | host k => exact .ite h (.pendingGo (.each h.setFld.setFld.setFlag.setFld fun _ h => h.hostClockBack))

theorem execSynthesiserLock_answers {y : SynthId} (h : Evolves .all s u) : Answers s (execSynthesiserLock y u) := by
  unfold execSynthesiserLock
  exact .next (h.skip fun h => h.synthLock)

theorem execSynthesiserLockLoss_answers {y : SynthId} (h : Evolves .all s u) : Answers s (execSynthesiserLockLoss y u) := by
  unfold execSynthesiserLockLoss
  split
  exacts [.next (Evolves.ite h.lineUnlock.lineLost h), .next (Evolves.ite h.hostUnlock.hostLost h)]

theorem Evolves.loadTimeout {l : LoadX} (h : Evolves K s u) (hK : trySlotScope.le K = true := by decide +kernel) :
    Evolves K s (u.loadTimeout l) := by
  refine h.widen hK fun h => ?_
  unfold State.loadTimeout
  exact Evolves.ite h.modHrn.hrnResult.bootHarnessFrom h.undoLoad.endLoad

theorem execPendingTimeout_answers {who : PendingSubject} (h : Evolves .all s u) : Answers s (execPendingTimeout who u) := by
  unfold execPendingTimeout
  dsimp only
  refine Answers.ite (.next h) ?_
  split
  · exact .next h.lrxPendingOver
  · exact .next h.ltxPendingOver
  · exact .next h.hostPendingOver
  · split
    exacts [.next (Evolves.ite h.loadTimeout h), .next h]
  · exact Answers.ite (.next h) (.next h.activate.pwrResult.alert)

theorem execControllerWatchdog_answers (h : Evolves .all s u) : Answers s (execControllerWatchdog u) := by
  unfold execControllerWatchdog
  exact .next (Evolves.ite h h.restartControllers)

end Sys2Proof.Machine
end

section
/-! SUPPORT. What the controllers leave: `Evolves`, for each operation and command. -/
namespace Sys2Proof.Machine
open Sys2Proof
set_option Elab.async false
variable {K : Scope} {s u t₀ : State}

theorem Evolves.reattach (h : Evolves K s u) (hK : Scope.all.le K = true := by decide +kernel) : Evolves K s u.reattach := by
  refine h.widen hK fun h => ?_
  unfold State.reattach
  dsimp only
  exact
      (((((h.bootStep.setFlag (f := GLB_STATE.HEADLESS)).logBoot.cwHeld.step fun h₁ =>
      by split; exacts [h₁.lowPower, h₁.modPwr.setLpSw]).applyLater).each (fun _ h₁ => h₁.modGrp.runFollow)).each (fun _ h₁ =>
      Evolves.ite h₁.applyCmisEq h₁)).runDeferred

theorem execControllersReturn_answers (h : Evolves .all s u) : Answers s (execControllersReturn u) := by
  have hsel := h.selectFirmware
  unfold execControllersReturn
  generalize u.selectFirmware = p at hsel ⊢
  exact .ite (.next h) (.ite (.next h.modSec.enterRecovery) (.next (.ite hsel.reattach hsel.enterRecovery)))

theorem execRecoveryImage_answers {puf certOk : Bool} (h : Evolves .all s u) : Answers s (execRecoveryImage puf certOk u) := by
  unfold execRecoveryImage
  dsimp only
  split
  · exact .next h
  · refine Answers.ite (.next h) ?_
    refine Answers.ite (.next h.fwResult.modSec.setFld) ?_
    exact Answers.ite (.next h.fwResult.runFirmware.reattach) (.next h.fwResult.clearGroups.hostOff.resetReg.runFirmware.bootStep.bootMem)

end Sys2Proof.Machine
end

section
/-! SUPPORT. What the transparent clock leave: `Evolves`, for each operation and command. -/
namespace Sys2Proof.Machine
open Sys2Proof
set_option Elab.async false
variable {K : Scope} {s u t₀ : State}

theorem Evolves.forwardPtp {f : List Byte} (h : Evolves K s u) (hK : (Scope.of [] [.time]).le K = true := by decide +kernel) :
    Evolves K s (u.forwardPtp f) := by
  refine h.widen hK fun h => ?_
  unfold State.forwardPtp
  exact h.same

theorem execPtpIngress_answers {p : Fin 32} {off : Fin 136} {frame : List Byte} (h : Evolves .all s u) :
    Answers s (execPtpIngress p off frame u) := by
  unfold execPtpIngress
  dsimp only
  refine Answers.ite (.next h) ?_
  split
  · exact .next h.forwardPtp
  · exact Answers.ite (.next h.count.forwardPtp) (Answers.ite (.next h.forwardPtp) (.next h.forwardPtp))

theorem execPtpEgress_answers {p : Fin 32} {off : Fin 136} {frame : List Byte} (h : Evolves .all s u) :
    Answers s (execPtpEgress p off frame u) := by
  unfold execPtpEgress
  dsimp only
  split
  · exact .next h.forwardPtp
  · exact Answers.ite (.next h.forwardPtp) (Answers.ite (.next h.count.forwardPtp) (.next h.count.forwardPtp))

end Sys2Proof.Machine
end

section
/-! SUPPORT. Every command and every step, and O53 to O58: what a command leaves, the canonical form, the ranges, reset. -/
namespace Sys2Proof.Machine
open Sys2Proof
set_option Elab.async false
variable {K : Scope} {s u t₀ : State}

/-! ### A core cycle -/

theorem Evolves.sendFcm {x fcnt : Nat} {bs : List Blk} (h : Evolves K s u)
    (hK : (Scope.of [] [.hsi]).le K = true := by decide +kernel) : Evolves K s (u.sendFcm x fcnt bs) := by
  refine h.widen hK fun h => ?_
  unfold State.sendFcm
  exact h.modHsi

theorem Evolves.sendPair {x : Nat} (h : Evolves K s u) (hK : (Scope.of [] [.hsi]).le K = true := by decide +kernel) :
    Evolves K s (u.sendPair x) := by
  refine h.widen hK fun h => ?_
  unfold State.sendPair
  dsimp only
  split
  exacts [h.modHsi, h.sendCw]

theorem Evolves.portToHost {p n : Nat} (h : Evolves K s u)
    (hK : (Scope.of [.HPM_IDLE_INS, .HPM_IDLE_DEL] [.hpm]).le K = true := by decide +kernel) : Evolves K s (u.portToHost p n).2 := by
  refine h.widen hK fun h => ?_
  unfold State.portToHost
  exact .iteSnd (.snd h.modHpm) (.snd h.modHpm.count.count)

theorem Evolves.hostSend {x : Nat} (h : Evolves K s u)
    (hK : (Scope.of [.HPM_IDLE_INS, .HPM_IDLE_DEL] [.freeCtr, .hsi, .hpm]).le K = true := by decide +kernel) :
    Evolves K s (u.hostSend x) := by
  refine h.widen hK fun h => ?_
  unfold State.hostSend
  refine .ite (.ite h.sendPair h) (.ite (.ite (.sendFcm (.modHsi (.iteSnd h.fresh h))) h) (.ite h (.ite (.ite ?_ h) (.ite ?_ h))))
  · exact h.portToHost.each fun _ h => h.when fun h => h.sendFcm
  · exact h.portToHost.each fun _ h => h.when fun h => h.sendCw

theorem Evolves.tickHosts (h : Evolves K s u)
    (hK : (Scope.of [.HSI_PAT_DROP, .HPM_IDLE_INS, .HPM_IDLE_DEL] [.freeCtr, .hsi, .hpm]).le K = true := by decide +kernel) :
    Evolves K s u.tickHosts :=
  h.widen hK fun h => h.each fun _ h => h.skip fun h => .ite h.hostSend (.ite h.count h)

theorem Evolves.tickLrx (h : Evolves K s u) (hK : (Scope.of [.LRX_STATUS] [.lrx]).le K = true := by decide +kernel) :
    Evolves K s u.tickLrx :=
  h.widen hK fun h => h.each fun _ h => h.skip fun h => h.showRestarts

theorem Evolves.pmcSet {k v : Nat} (h : Evolves K s u) (hK : (Scope.of [.PMC_VALUE] [.pmc]).le K = true := by decide +kernel) :
    Evolves K s (u.pmcSet k v) := by
  refine h.widen hK fun h => ?_
  unfold State.pmcSet
  exact .ite h.setFld.modPmc h.setFld

theorem Evolves.pmcStep {k : Nat} (h : Evolves K s u) (hK : (Scope.of [.PMC_VALUE] [.pmc]).le K = true := by decide +kernel) :
    Evolves K s (u.pmcStep k) := by
  refine h.widen hK fun h => ?_
  unfold State.pmcStep
  exact .ite h.pmcTotal.modPmc.modPmc h.pmcTotal.modPmc.pmcSet

theorem Evolves.tickPmc (h : Evolves K s u) (hK : (Scope.of [.PMC_VALUE] [.pmc]).le K = true := by decide +kernel) :
    Evolves K s u.tickPmc :=
  h.widen hK fun h => h.each fun _ h => h.pmcStep

/-! ### Every command -/

/-- A private instruction changes nothing, or is refused by name. -/
theorem execPrivateInstruction_eq (perm : Fin 3) (s : State) : execPrivateInstruction perm s = .next s ∨
    execPrivateInstruction perm s = .refused .jtagDebugUnit ∧ (s.fld SEC_DBG_STATUS.PERMS 0).testBit perm = true := by
  unfold execPrivateInstruction
  split
  · exact .inl rfl
  · next h =>
    simp only [not_or, Bool.not_eq_true, Bool.not_eq_false'] at h
    exact .inr ⟨rfl, h.2.2⟩

theorem exec_answers {c : Instr} (hc : ∀ perm, c ≠ .privateInstruction perm) (h : Evolves .all s u) : Answers s (exec c u) := by
  unfold exec
  split
  case h_244 => exact absurd rfl (hc _)
  exacts [execRegisterWrite_answers h, execWideRegisterRead_answers h, execStagedWordWrite_answers h, execWideRegisterCommit_answers h,
    execRefclkMissing_answers h, execCorePllLockLoss_answers h, execRefclkReturn_answers h, execSynthesiserLock_answers h,
    execSynthesiserLockLoss_answers h, execPendingTimeout_answers h, execRateMismatch_answers h, execControllerWatchdog_answers h,
    execControllersReturn_answers h, execFrameStart_answers h, execCounterSnapshot_answers h, execLfecSnap_answers h,
    execSnapshotTaken_answers h, execLfecClr_answers h, execLfecAuditClr_answers h, execConservationAudit_answers h,
    execSdSfWindowEnd_answers h, execLaneStatusReceived_answers h, execOamWordDiscarded_answers h, execInnerCodewordDecoded_answers h,
    execOuterCodewordDecoded_answers h, execSpareDecoderInService_answers h, execLrxEnable_answers h, execLrxDisable_answers h,
    execLrxFcal_answers h, execLrxCold_answers h, execForegroundCalibrationDone_answers h, execBackgroundCalibrationUpdate_answers h,
    execFastAgcUpdate_answers h, execAgcSettled_answers h, execSlowAgcStep_answers h, execTimingSettled_answers h,
    execFrequencyOutOfRange_answers h, execRxFrameBoundary_answers h, execAcqStageTimeout_answers h, execPowerStep_answers h,
    execLosAssert_answers h, execLosClear_answers h, execAutoRetry_answers h, execTiaGo_answers h, execTiaTransactionDone_answers h,
    execClockStretchTimeout_answers h, execMigrate_answers h, execAdd_answers h, execRemove_answers h, execFuse_answers h,
    execUnfuse_answers h, execToDfe_answers h, execToMlse_answers h, execPoolOpStart_answers h, execPoolOpFrame_answers h,
    execPoolOpEnd_answers h, execCoefLoad_answers h, execEqpAuditClr_answers h, execPoolAuditViolation_answers h, execLtxEnable_answers h,
    execLtxDisable_answers h, execSwap_answers h, execLtxTrimWrite_answers h, execTrimRampStep_answers h, execLtxSquelch_answers h,
    execTxdisableAssert_answers h, execTxdisableDeassert_answers h, execCmisTxDisableSet_answers h, execCmisTxDisableClear_answers h,
    execDriverSequenceWriteDone_answers h, execDrvGo_answers h, execLtxPatWrite_answers h, execLtxChkClr_answers h,
    execMaskEnable_answers h, execMaskEstimateDone_answers h, execHostRateSlewDone_answers h, execHsiRxEnable_answers h,
    execHsiRxDisable_answers h, execHsiTxEnable_answers h, execHsiTxDisable_answers h, execRelock_answers h, execRxQuiet_answers h,
    execRxQuietClear_answers h, execTxQuiet_answers h, execTxQuietClear_answers h, execWakingDone_answers h, execHsiTxeqWrite_answers h,
    execCmisOutputEqWrite_answers h, execTxeqApply_answers h, execActivityDetect_answers h, execSignalLoss_answers h,
    execWakePatternDetect_answers h, execHostStageTimeout_answers h, execCdrDone_answers h, execAdaptDone_answers h,
    execAlignmentLock_answers h, execAlignmentLockLoss_answers h, execHckiMissing_answers h, execHckiPresent_answers h,
    execBlockLock_answers h, execBlockLockLoss_answers h, execFramingBlockReceived_answers h, execHostCellReceived_answers h,
    execHostCreditRecord_answers h, execCausewayFragment_answers h, execHostCellSlot_answers h, execHostCodewordDecoded_answers h,
    execCausewayFrameExtract_answers h, execPtpIngress_answers h, execPtpEgress_answers h, execHsiPatWrite_answers h,
    execGranulePosition_answers h, execGranuleReceived_answers h, execNackReceived_answers h, execNackTimeout_answers h,
    execStreamOpen_answers h, execOpenRecord_answers h, execSkipRecord_answers h, execResyncRecord_answers h, execStripeRecord_answers h,
    execChposRecord_answers h, execChopenRecord_answers h, execCreditWordReceived_answers h, execCreditRefresh_answers h,
    execGranuleDeliver_answers h, execCinchAudit_answers h, execClrCh_answers h, execShedLolExpiry_answers h, execCinShedWrite_answers h,
    execCinUnshedWrite_answers h, execRejoin_answers h, execChannelOpen_answers h, execChannelClose_answers h, execStripeWrite_answers h,
    execCreditDiscardEnd_answers h, execTimeWordReceived_answers h, execSourceSelection_answers h, execSourceLoss_answers h,
    execTimeLockQualified_answers h, execTmbEpoch_answers h, execBoundLimitExceeded_answers h, execTmbSet_answers h,
    execTmbNodeIdWrite_answers h, execAsymCalGo_answers h, execAsymCalDone_answers h, execPpsInEdge_answers h, execPpsMissing_answers h,
    execPpsOutRise_answers h, execPpsOutFall_answers h, execHrnOpen_answers h, execHrnLoadData_answers h, execCommit_answers h,
    execCancel_answers h, execVerify_answers h, execWriteA_answers h, execWriteB_answers h, execLoadA_answers h, execLoadB_answers h,
    execImageChunk_answers h, execVerificationDone_answers h, execFlashWriteDone_answers h, execDrainEnd_answers h, execQuiesce_answers h,
    execReopen_answers h, execRebuildPllTimeout_answers h, execTwoWireWrite_answers h, execLatchedFlagRead_answers h,
    execSetdasa_answers h, execEntdaa_answers h, execSetnewda_answers h, execRstdaa_answers h, execEnec_answers h, execDisec_answers h,
    execGetpid_answers h, execGetbcr_answers h, execGetdcr_answers h, execGetmwl_answers h, execSetmwl_answers h, execGetmrl_answers h,
    execSetmrl_answers h, execGetmxds_answers h, execGetstatus_answers h, execUnsupportedCcc_answers h, execIbiRetry_answers h,
    execAlertClear_answers h, execWinAddrCommit_answers h, execWindowWordCommit_answers h, execWinRefresh_answers h,
    execWindowRefresh_answers h, execWindowFetchDone_answers h, execCmisMonitorRefresh_answers h, execPasswordEntry_answers h,
    execPasswordSet_answers h, execMgtOpPwd_answers h, execLockoutEnd_answers h, execNonce_answers h, execAuthDataWrite_answers h,
    execAuthVerify_answers h, execDrop_answers h, execNonceExpiry_answers h, execRead_answers h, execWrite_answers h,
    execReadBlock_answers h, execWriteBlock_answers h, execKeyExchange_answers h, execFinish_answers h, execSessionClose_answers h,
    execSubscribe_answers h, execSessionIdleTimeout_answers h, execNotifySend_answers h, execGetVersion_answers h,
    execGetCapabilities_answers h, execNegotiateAlgorithms_answers h, execGetDigests_answers h, execGetCertificate_answers h,
    execChallenge_answers h, execGetMeasurements_answers h, execUnsupportedRequest_answers h, execTunnelRequest_answers h,
    execCausewayWordReceived_answers h, execTunnelReply_answers h, execTunnelTimeout_answers h, execApplicationSelect_answers h,
    execGlbReset_answers h, execSecNonce_answers h, execEnrol_answers h, execFuseDone_answers h, execRevoke_answers h,
    execDbgNonce_answers h, execSubmit_answers h, execRaiseFw_answers h, execRaiseHrn_answers h, execFwOpen_answers h,
    execFwDataWrite_answers h, execFwFinish_answers h, execActivate_answers h, execConfirm_answers h, execRestart_answers h,
    execRecoveryImage_answers h, execBypass_answers h, execIdcode_answers h, execSamplePreload_answers h, execExtest_answers h,
    execPowerOn_answers h, execWarmReset_answers h, execBoot_answers h, execBootBistDone_answers h, execPwrStandby_answers h,
    execPwrActive_answers h, execPwrDoze_answers h, execPwrDeep_answers h, execLpmodeAssert_answers h, execLpmodeDeassert_answers h,
    execLowPwrRequestSw_answers h, execDeepAfterExpiry_answers h, execWakeSource_answers h, execWakeStageReady_answers h,
    execWakeStageTimeout_answers h, execWakeRetry_answers h, execSupplyTrip_answers h, execSupplyRecover_answers h,
    execTussockSample_answers h, execTskRuleCommit_answers h, execTskInCfgWrite_answers h, execConversionEnd_answers h,
    execHkaUrgentGo_answers h, execDecimationTick_answers h, execDacCodeWrite_answers h, execDacTimerFire_answers h,
    execReadbackRequest_answers h, execReadbackPeriod_answers h, execDacFaultClear_answers h, execSelfCalibration_answers h,
    execTskFit_answers h, execPageRepairDone_answers h, execScrubBeat_answers h, execRetirementCopyDone_answers h,
    execFlipMaskCommit_answers h, execLinear_answers h, execFill_answers h, execIndex_answers h, execDmaAbort_answers h,
    execDmaBurstEnd_answers h, execDmaPreempt_answers h, execStreamBurstRequest_answers h, execStreamWithdraw_answers h,
    execDmaTransferEnd_answers h, execDmaCqRdWrite_answers h, execRecordWrite_answers h, execClearKept_answers h,
    execEvlHeadSeqRead_answers h, execPmcCtlWrite_answers h, execPmcWindowBoundary_answers h, execSnap_answers h,
    execCounterWrap_answers h, execSweepStart_answers h, execInServiceTestDone_answers h, execTestRetry_answers h,
    execBstUnfence_answers h, execBistPartitionDone_answers h, execSensorSample_answers h, execSensorPrediction_answers h,
    execReliefRaise_answers h, execReliefLower_answers h, execRateWindow_answers h, execStopOrderly_answers h, execStopDrainEnd_answers h,
    execStopImmediate_answers h, execTrip_answers h, execThermalRestart_answers h, execHostCdrLoss_answers h, execRateRange_answers h,
    execDrvTransactionDone_answers h, execCheckerSyncGain_answers h, execCheckerSyncLoss_answers h, execLineAlignmentMarkerLock_answers h,
    execLineAlignmentMarkerLockLoss_answers h, execRecoveredRateSlewDone_answers h, execBusFree_answers h]

theorem exec_evolves {c : Instr} {s t : State} (h : exec c s = .next t) : Evolves .all s t := by
  by_cases hc : ∃ perm, c = .privateInstruction perm
  · obtain ⟨perm, rfl⟩ := hc
    rcases execPrivateInstruction_eq perm s with h' | ⟨h', -⟩
    · rw [← Host.Outcome.next.inj (h'.symm.trans h)]
      exact .refl s
    · cases h'.symm.trans h
  · obtain ⟨u, hu, hev⟩ := exec_answers (fun perm e => hc ⟨perm, e⟩) (.refl s)
    exact Host.Outcome.next.inj (hu.symm.trans h) ▸ hev

/-! ### Every step -/

theorem step_of_pending_cons {s : State} {c : Instr} {rest : List Instr} (h : s.pending = c :: rest) :
    step s = exec c { s with pending := rest } := by
  unfold step; rw [h]

theorem step_of_pending_nil {s : State} (h : s.pending = []) : step s = .next s.tick := by
  unfold step; rw [h]

/-- The clock gains the step, the nanoseconds carrying into the seconds. -/
theorem TimeX.advance_total (t : TimeX) (k : Nat) :
    (t.advance k).sec * clockRange + (t.advance k).sub = t.sec * clockRange + t.sub + k := by
  unfold TimeX.advance clockRange
  dsimp only
  split
  · dsimp only; omega
  · dsimp only; omega

theorem TimeX.advance_sub_lt {t : TimeX} {k : Nat} (h : t.sub < clockRange) (hk : k ≤ clockRange) : (t.advance k).sub < clockRange := by
  unfold TimeX.advance clockRange at *
  dsimp only
  split
  · assumption
  · dsimp only; omega

/-- A core cycle as the timers and the clock have it, before the units that run by it. -/
def State.tickTimers (s : State) : State :=
  let u : State := { s with cycle := s.cycle + 1, risen := [], early := [] }
  if u.flag CLK_STATUS.REF_PRESENT 0 then { u with frameTimer := (u.frameTimer + 1) % 19120, interval := (u.interval + 1) % 3840 } else u

def State.tickClock (s : State) : State := if s.offline then s else { s with time := s.time.advance (clockStep s.adj) }

def State.tickUnits (s : State) : State := if s.offline then s else s.tickHosts.tickLrx.tickPmc

theorem State.tickTimers_eq (s : State) : s.tickTimers = { s with
    cycle := s.cycle + 1
    risen := []
    early := []
    frameTimer := if s.flag CLK_STATUS.REF_PRESENT 0 then (s.frameTimer + 1) % 19120 else s.frameTimer
    interval := if s.flag CLK_STATUS.REF_PRESENT 0 then (s.interval + 1) % 3840 else s.interval } := by
  rw [State.tickTimers]
  by_cases h : s.flag CLK_STATUS.REF_PRESENT 0 = true
  · simp only [h, if_true]
    exact if_pos h
  · simp only [h]
    exact if_neg h

theorem State.tickClock_eq (s : State) :
    s.tickClock = { s with time := if s.offline then s.time else s.time.advance (clockStep s.adj) } := by
  rw [State.tickClock]
  split <;> rfl

theorem State.tick_eq (s : State) : s.tick = s.tickTimers.tickClock.tickUnits := by
  change (if s.tickTimers.offline then s.tickTimers
    else { s.tickTimers with time := s.tickTimers.time.advance (clockStep s.tickTimers.adj) }.tickHosts.tickLrx.tickPmc) = _
  rw [State.tickUnits, State.tickClock]
  generalize s.tickTimers = u
  by_cases h : u.offline = true
  · rw [if_pos h, if_pos h, if_pos h]
  · rw [if_neg h, if_neg h]
    exact (if_neg h).symm

theorem State.tick_evolves (s : State) : Evolves .all s.tickTimers.tickClock s.tick := by
  rw [State.tick_eq, State.tickUnits]
  exact .ite (.refl _) (Evolves.refl (K := .all) _).tickHosts.tickLrx.tickPmc

theorem toSigned_bounds (w n : Nat) (hw : 0 < w) : -2 ^ (w - 1) ≤ toSigned w n ∧ toSigned w n < 2 ^ (w - 1) := by
  obtain ⟨k, rfl⟩ : ∃ k, w = k + 1 := ⟨w - 1, by omega⟩
  have hlt := Nat.mod_lt n (Nat.two_pow_pos (k + 1))
  have hpow : (2 : Int) ^ k = ((2 ^ k : Nat) : Int) := by norm_cast
  rw [Nat.add_sub_cancel, hpow, toSigned, Nat.add_sub_cancel]
  rw [Nat.pow_succ] at hlt ⊢
  split <;> omega

/-- A core cycle adds less than a second to the clock. -/
theorem clockStep_le (s : State) : clockStep s.adj ≤ clockRange := by
  have h := (toSigned_bounds 32 (s.fld TMB_RATE.ADJ 0) (by decide)).2
  unfold clockStep State.adj clockRange
  omega

theorem State.tickClock_sub_lt {s : State} (h : s.time.sub < clockRange) : s.tickClock.time.sub < clockRange := by
  rw [State.tickClock]
  split
  · exact h
  · exact TimeX.advance_sub_lt h (clockStep_le s)

end Sys2Proof.Machine

namespace Sys2Proof.Proofs
open Sys2Proof Sys2Proof.Machine Sys2Proof.Claims

/-- Settles O55: a command's next state evolves from the state it starts from. -/
theorem commandsKeepTheQueue : Obligations.CommandsKeepTheQueue := by
  intro c s t h
  have hev := exec_evolves h
  exact ⟨hev.pending, hev.cycle, hev.free, hev.timer⟩

/-- Settles O54: every command but a private instruction answers a next state, and that one is refused under permission alone. -/
theorem commandsComplete : Obligations.CommandsComplete := by
  refine ⟨fun c s hc => (exec_answers hc (.refl s)).imp fun _ h => h.1, fun c s r h => ?_⟩
  by_cases hc : ∃ perm, c = .privateInstruction perm
  · obtain ⟨perm, rfl⟩ := hc
    rcases execPrivateInstruction_eq perm s with h' | ⟨h', hperm⟩
    · cases h'.symm.trans h
    · cases h'.symm.trans h
      exact ⟨rfl, perm, rfl, hperm⟩
  · obtain ⟨t, ht, -⟩ := exec_answers (fun perm e => hc ⟨perm, e⟩) (.refl s)
    cases ht.symm.trans h

/-- A step is a command on the state with it taken from the queue, or a core cycle. -/
theorem step_evolves {s t : State} (h : step s = .next t) :
    (∃ c rest, s.pending = c :: rest ∧ Evolves .all { s with pending := rest } t) ∨
    s.pending = [] ∧ t = s.tick := by
  cases hp : s.pending with
  | nil => rw [step_of_pending_nil hp] at h; exact .inr ⟨rfl, (Host.Outcome.next.inj h).symm⟩
  | cons c rest => rw [step_of_pending_cons hp] at h; exact .inl ⟨c, rest, rfl, exec_evolves h⟩

/-- Settles O53: the two branches of `step`. -/
theorem stepRunsFront : Obligations.StepRunsFront :=
  ⟨fun _ _ _ h => step_of_pending_cons h, fun _ h => step_of_pending_nil h⟩

/-- Settles O56: a command evolves from a canonical state, and so does a core cycle, from the state of the timers and the clock. -/
theorem canonicalKept : Obligations.CanonicalKept := by
  intro s t hs h
  rcases step_evolves h with ⟨c, rest, -, hev⟩ | ⟨-, rfl⟩
  · exact hev.canonical hs
  · exact s.tick_evolves.canonical (by rwa [State.tickClock_eq, State.tickTimers_eq])

/-- Settles O57: a command keeps the ranges or starts a timer at 0; a core cycle counts the timers modulo their lengths, and adds less than
a second to the clock. -/
theorem boundsKept : Obligations.BoundsKept := by
  rintro s t ⟨htimer, hinterval, hclock, hqueue⟩ h
  rcases step_evolves h with ⟨c, rest, -, hev⟩ | ⟨-, rfl⟩
  · refine ⟨?_, ?_, hev.clock hclock, hev.queue hqueue⟩
    · rcases hev.timer with e | e <;> rw [e]
      · exact htimer
      · decide
    · rcases hev.interval with e | e <;> rw [e]
      · exact hinterval
      · decide
  · have hev := s.tick_evolves
    have hsub := hev.clock (State.tickClock_sub_lt (by rwa [State.tickTimers_eq]))
    rw [State.tickClock_eq, State.tickTimers_eq] at hev
    refine ⟨?_, ?_, hsub, hev.queue hqueue⟩
    · rcases hev.timer with e | e <;> rw [e]
      · dsimp only
        split <;> omega
      · decide
    · rcases hev.interval with e | e <;> rw [e]
      · dsimp only
        split <;> omega
      · decide

/-- Refutes O58: `HOLD_DRIFT` resets to 50, the value of its table, not to 100. -/
theorem not_resetMeetsTheInvariants : ¬ Obligations.ResetMeetsTheInvariants := by
  unfold Obligations.ResetMeetsTheInvariants
  rintro ⟨-, -, -, -, -, -, hdrift, -⟩
  have hvalue : State.reset.fld TMB_HOLD_CFG.HOLD_DRIFT 0 = 50 := by decide +kernel
  omega

end Sys2Proof.Proofs
end


section
/-! SUPPORT. The frame of a computation: the registers it may change, named by a predicate, and every byte of the stores and of the flash kept;
with the rule of each update of the state. -/
namespace Sys2Proof.Claims
open Sys2Proof Sys2Proof.Machine
set_option Elab.async false

/-- Every register that `P` does not name keeps its value, and so does every byte of the stores and of the flash. -/
def Frame (P : Reg → Nat → Prop) (s t : State) : Prop :=
  (∀ r i, ¬ P r i → t.reg r i = s.reg r i) ∧ (∀ a, t.memByte a = s.memByte a) ∧ ∀ a, t.flashByte a = s.flashByte a

namespace Frame
variable {P Q : Reg → Nat → Prop} {s u t : State}

theorem refl (s : State) : Frame P s s := ⟨fun _ _ _ => rfl, fun _ => rfl, fun _ => rfl⟩

theorem keeps {ks : List RegKey} (h : Frame (fun r i => (r, i) ∈ ks) s t) : Keeps ks s t := h

theorem kinds {rs : List Reg} (h : Frame (fun r _ => r ∈ rs) s t) : KeepsKinds rs s t := h

theorem of_keeps {ks : List RegKey} (h : Keeps ks s t) : Frame (fun r i => (r, i) ∈ ks) s t := h

theorem of_kinds {rs : List Reg} (h : KeepsKinds rs s t) : Frame (fun r _ => r ∈ rs) s t := h

theorem reg_eq (h : Frame P s t) {r : Reg} {i : Nat} (hr : ¬ P r i) : t.reg r i = s.reg r i := h.1 r i hr

/-- A field of a register that the frame does not name keeps its value. -/
theorem fld_eq (h : Frame P s t) {f : Field} {i : Nat} (hf : ¬ P f.reg i) : t.fld f i = s.fld f i := by
  rw [State.fld_eq, State.fld_eq, h.reg_eq hf]

theorem flag_eq (h : Frame P s t) {f : Field} {i : Nat} (hf : ¬ P f.reg i) : t.flag f i = s.flag f i := by
  rw [State.flag, State.flag, h.fld_eq hf]

theorem mono (h : Frame P s t) (hQ : ∀ r i, P r i → Q r i) : Frame Q s t :=
  ⟨fun r i hr => h.1 r i fun hp => hr (hQ r i hp), h.2⟩

theorem trans (h : Frame P s u) (h' : Frame P u t) : Frame P s t :=
  ⟨fun r i hr => (h'.1 r i hr).trans (h.1 r i hr), fun a => (h'.2.1 a).trans (h.2.1 a), fun a => (h'.2.2 a).trans (h.2.2 a)⟩

/-- A computation with a frame of its own, which lies in `P`. -/
theorem thenIn (h : Frame P s u) (h' : Frame Q u t) (hQ : ∀ r i, Q r i → P r i) : Frame P s t := h.trans (h'.mono hQ)

/-- A computation with a frame by kinds, all of which `P` names. -/
theorem via {rs : List Reg} (h : Frame P s u) (h' : KeepsKinds rs u t) (hP : ∀ r ∈ rs, ∀ i, P r i) : Frame P s t :=
  h.thenIn (of_kinds h') fun r i hr => hP r hr i

/-- A computation with a frame by kinds, within a larger one. -/
theorem within {rs rs' : List Reg} (h : Frame (fun r _ => r ∈ rs') s u) (h' : KeepsKinds rs u t) (hsub : rs ⊆ rs' := by decide) :
    Frame (fun r _ => r ∈ rs') s t :=
  h.via h' fun _ hr _ => hsub hr

/-- A change of neither registers nor bytes. -/
theorem same (h : Frame P s u) (hr : t.regs = u.regs := by rfl) (hm : t.mem = u.mem := by rfl) (hf : t.flash = u.flash := by rfl) :
    Frame P s t :=
  h.trans ⟨fun r i _ => by rw [State.reg, State.reg, hr], fun a => by rw [State.memByte, State.memByte, hm],
    fun a => by rw [State.flashByte, State.flashByte, hf]⟩

section Branches
variable {c : Prop} {_ : Decidable c} {a b : State}

theorem ite (ha : c → Frame P s a) (hb : ¬ c → Frame P s b) : Frame P s (if c then a else b) := by
  split
  · exact ha ‹_›
  · exact hb ‹_›

theorem iteFst {α : Type} {p q : State × α} (hp : c → Frame P s p.1) (hq : ¬ c → Frame P s q.1) : Frame P s (if c then p else q).1 := by
  split
  · exact hp ‹_›
  · exact hq ‹_›

theorem iteSnd {α : Type} {p q : α × State} (hp : c → Frame P s p.2) (hq : ¬ c → Frame P s q.2) : Frame P s (if c then p else q).2 := by
  split
  · exact hp ‹_›
  · exact hq ‹_›

theorem when (h : Frame P s u) (ha : Frame P s u → Frame P s a) : Frame P s (if c then a else u) := ite (fun _ => ha h) (fun _ => h)

theorem skip (h : Frame P s u) (ha : Frame P s u → Frame P s a) : Frame P s (if c then u else a) := ite (fun _ => h) (fun _ => ha h)

theorem cond (h : Frame P s u) (ha : Frame P s u → Frame P s a) (hb : Frame P s u → Frame P s b) : Frame P s (if c then a else b) :=
  ite (fun _ => ha h) (fun _ => hb h)

end Branches

/-! ### Loops -/

theorem foldl {α : Type} {l : List α} {f : State → α → State} (h : Frame P s u) (hf : ∀ {v} a, a ∈ l → Frame P s v → Frame P s (f v a)) :
    Frame P s (l.foldl f u) := by
  induction l generalizing u with
  | nil => exact h
  | cons a l ih => exact ih (hf a (.head _) h) fun b hb => hf b (.tail _ hb)

theorem each {is : List Nat} {f : Nat → State → State} (h : Frame P s u) (hf : ∀ {v} i, i ∈ is → Frame P s v → Frame P s (f i v)) :
    Frame P s (u.each is f) := h.foldl hf

/-! ### Registers and fields -/

theorem setReg {r : Reg} {i : Nat} {v : RegVal} (h : Frame P s u) (hP : P r i := by simp) : Frame P s (u.setReg r i v) :=
  h.trans ⟨fun q j hk => State.reg_setReg_other u v (by
    by_contra hc
    rw [not_or, not_not, not_not] at hc
    exact hk (hc.1 ▸ hc.2 ▸ hP)), fun _ => rfl, fun _ => rfl⟩

theorem setFld {f : Field} {i x : Nat} (h : Frame P s u) (hP : P f.reg i := by simp) : Frame P s (u.setFld f i x) := h.setReg hP

theorem setFlag {f : Field} {i : Nat} {b : Bool} (h : Frame P s u) (hP : P f.reg i := by simp) : Frame P s (u.setFlag f i b) := h.setReg hP

theorem count {f : Field} {i n : Nat} (h : Frame P s u) (hP : P f.reg i := by simp) : Frame P s (u.count f i n) := h.setReg hP

theorem countSat {f : Field} {i : Nat} (h : Frame P s u) (hP : P f.reg i := by simp) : Frame P s (u.countSat f i) :=
  h.when fun h => h.setFld hP

theorem resetReg {r : Reg} {i : Nat} (h : Frame P s u) (hP : P r i := by simp) : Frame P s (u.resetReg r i) := h.setReg hP

theorem resetRegs {rs : List Reg} {i : Nat} (h : Frame P s u) (hP : ∀ r ∈ rs, P r i) : Frame P s (u.resetRegs rs i) :=
  h.foldl fun r hr h => h.resetReg (hP r hr)

theorem resetRange {r : Reg} {lo n : Nat} (h : Frame P s u) (hP : ∀ k < n, P r (lo + k)) : Frame P s (u.resetRange r lo n) :=
  h.foldl fun _ hk h => h.resetReg (hP _ (List.mem_range.1 hk))

theorem raise {f : Field} {i bits : Nat} (h : Frame P s u) (hP : P f.reg i := by simp) : Frame P s (u.raise f i bits) :=
  (h.setFld (x := u.fld f i ||| bits) hP).same

theorem plainWrite {r : Reg} {i v : Nat} (h : Frame P s u) (hP : P r i := by simp) : Frame P s (plainWrite r i v u) := h.setReg hP

/-! ### Tables and records -/

theorem modLfec {n : Nat} {f : LfecX → LfecX} (h : Frame P s u) : Frame P s (u.modLfec n f) := h.same

theorem modLrx {n : Nat} {f : LrxX → LrxX} (h : Frame P s u) : Frame P s (u.modLrx n f) := h.same

theorem modEqp {n : Nat} {f : EqX → EqX} (h : Frame P s u) : Frame P s (u.modEqp n f) := h.same

theorem modGrp {g : Nat} {f : GrpX → GrpX} (h : Frame P s u) : Frame P s (u.modGrp g f) := h.same

theorem modLtx {n : Nat} {f : LtxX → LtxX} (h : Frame P s u) : Frame P s (u.modLtx n f) := h.same

theorem modHsi {n : Nat} {f : HsiX → HsiX} (h : Frame P s u) : Frame P s (u.modHsi n f) := h.same

theorem modHpm {p : Nat} {f : HpmX → HpmX} (h : Frame P s u) : Frame P s (u.modHpm p f) := h.same

theorem modChan {c : Nat} {f : ChanX → ChanX} (h : Frame P s u) : Frame P s (u.modChan c f) := h.same

theorem modClane {n : Nat} {f : CLaneX → CLaneX} (h : Frame P s u) : Frame P s (u.modClane n f) := h.same

theorem modTlane {n : Nat} {f : TLaneX → TLaneX} (h : Frame P s u) : Frame P s (u.modTlane n f) := h.same

theorem modTskIn {i : Nat} {f : TskInX → TskInX} (h : Frame P s u) : Frame P s (u.modTskIn i f) := h.same

theorem modTskRule {r : Nat} {f : TskRuleX → TskRuleX} (h : Frame P s u) : Frame P s (u.modTskRule r f) := h.same

theorem modSens {i : Nat} {f : SensX → SensX} (h : Frame P s u) : Frame P s (u.modSens i f) := h.same

theorem modDma {n : Nat} {f : DmaX → DmaX} (h : Frame P s u) : Frame P s (u.modDma n f) := h.same

theorem modMemx {f : MemX → MemX} (h : Frame P s u) : Frame P s (u.modMemx f) := h.same

theorem modDec {n : Nat} {f : DecX → DecX} (h : Frame P s u) : Frame P s (u.modDec n f) := h.same

theorem modDac {n : Nat} {f : DacX → DacX} (h : Frame P s u) : Frame P s (u.modDac n f) := h.same

theorem modStrm {n : Nat} {f : StreamX → StreamX} (h : Frame P s u) : Frame P s (u.modStrm n f) := h.same

theorem modHka {f : HkaX → HkaX} (h : Frame P s u) : Frame P s (u.modHka f) := h.same

theorem modPwr {f : PwrX → PwrX} (h : Frame P s u) : Frame P s (u.modPwr f) := h.same

theorem modHrn {f : HrnX → HrnX} (h : Frame P s u) : Frame P s (u.modHrn f) := h.same

theorem modClk {f : ClkX → ClkX} (h : Frame P s u) : Frame P s (u.modClk f) := h.same

theorem modSec {f : SecX → SecX} (h : Frame P s u) : Frame P s (u.modSec f) := h.same

theorem modMgt {f : MgtX → MgtX} (h : Frame P s u) : Frame P s (u.modMgt f) := h.same

theorem modPmc {n : Nat} {f : PmcX → PmcX} (h : Frame P s u) : Frame P s (u.modPmc n f) := h.same

theorem modRec {f : RecorderX → RecorderX} (h : Frame P s u) : Frame P s (u.modRec f) := h.same

theorem modOp {g : Nat} {f : PoolOp → PoolOp} (h : Frame P s u) : Frame P s (u.modOp g f) := h.same

theorem modWin {f : WinX → WinX} (h : Frame P s u) : Frame P s (u.modWin f) := h.same

theorem modSess {k : Nat} {f : SessX → SessX} (h : Frame P s u) : Frame P s (u.modSess k f) := h.same

/-! ### Records and alerts -/

theorem logAt {ts : Ts96} {type kind index : Nat} {words : List Nat} {extra : Nat} (h : Frame P s u) (hP : P .EVL_DROPPED 0 := by simp) :
    Frame P s (u.logAt ts type kind index words extra) := by
  rcases u.logAt_cases ts type kind index words extra with ⟨-, e, -, -, -, -, -, -, h'⟩ | ⟨-, h'⟩ <;> rw [h']
  · exact h.same
  · exact (h.same (t := { u with recorder := _ })).count hP

theorem log {type kind index : Nat} {words : List Nat} (h : Frame P s u) (hP : P .EVL_DROPPED 0 := by simp) :
    Frame P s (u.log type kind index words) := h.logAt hP

/-- A record that finds room changes no register. -/
theorem logAtOfRoom {ts : Ts96} {type kind index : Nat} {words : List Nat} {extra : Nat} (h : Frame P s u) (hroom : Room u) :
    Frame P s (u.logAt ts type kind index words extra) := by
  rcases u.logAt_cases ts type kind index words extra with ⟨-, e, -, -, -, -, -, -, h'⟩ | ⟨hfull, -⟩
  · rw [h']
    exact h.same
  · exact absurd hroom (Nat.not_lt.2 hfull)

theorem logOfRoom {type kind index : Nat} {words : List Nat} (h : Frame P s u) (hroom : Room u) :
    Frame P s (u.log type kind index words) := h.logAtOfRoom hroom

theorem alert {cls : Nat} (h : Frame P s u) (hS : P .MGT_ALERT_STATUS 0 := by simp) (hG : P .GLB_STATE 0 := by simp) :
    Frame P s (u.alert cls) := by
  have hset : Frame P s ((u.setFld MGT_ALERT_STATUS.CLASS 0 (u.fld MGT_ALERT_STATUS.CLASS 0 ||| 2 ^ cls)).setFlag GLB_STATE.ALERT 0 true) :=
    (h.setFld hS).setFlag hG
  exact hset.same (u.alert_regs cls) (by rw [State.alert_eq]; rfl) (by rw [State.alert_eq]; rfl)

end Frame

end Sys2Proof.Claims

namespace Sys2Proof.Machine
open Sys2Proof Sys2Proof.Claims
set_option Elab.async false

/-! ### Reading fields after updates -/

section
variable (s : State) {f g : Field} (i j : Nat)

theorem State.fld_lt (s : State) (f : Field) (i : Nat) : s.fld f i < 2 ^ f.width := BitVec.isLt _

theorem State.flag_eq_of_fld {s t : State} {f g : Field} {i j : Nat} (h : t.fld g j = s.fld f i) : t.flag g j = s.flag f i := by
  rw [State.flag, State.flag, h]

theorem State.fld_congr {s t : State} {f : Field} {i : Nat} (h : t.reg f.reg i = s.reg f.reg i) : t.fld f i = s.fld f i := by
  rw [State.fld_eq, State.fld_eq, h]

theorem State.fld_of_regs {s t : State} (h : t.regs = s.regs) (f : Field) (i : Nat) : t.fld f i = s.fld f i :=
  congrArg (fun m : RegFile => m.fld f i) h

theorem State.flag_congr {s t : State} {f : Field} {i : Nat} (h : t.reg f.reg i = s.reg f.reg i) : t.flag f i = s.flag f i :=
  State.flag_eq_of_fld (State.fld_congr h)

theorem State.flag_iff (s : State) (f : Field) (i : Nat) : s.flag f i = true ↔ s.fld f i ≠ 0 := decide_eq_true_iff

theorem State.flag_false_iff (s : State) (f : Field) (i : Nat) : s.flag f i = false ↔ s.fld f i = 0 := by
  rw [State.flag, decide_eq_false_iff_not, not_not]

/-! The rules below rewrite under `simp (disch := decide)`, which decides that two fields share no bit. -/

@[simp] theorem State.fld_setFld_eq (x : Nat) (h : f.lo + (f.hi - f.lo) < 512) : (s.setFld f i x).fld f i = x % 2 ^ (f.hi - f.lo + 1) :=
  s.fld_setFld_same i x h

@[simp] theorem State.fld_setFld_of_apart (x : Nat) (h : f.apart g = true) : (s.setFld f i x).fld g j = s.fld g j := s.fld_setFld_apart i j x h

@[simp] theorem State.flag_setFld_of_apart (x : Nat) (h : f.apart g = true) : (s.setFld f i x).flag g j = s.flag g j :=
  State.flag_eq_of_fld (s.fld_setFld_apart i j x h)

@[simp] theorem State.fld_setFlag_eq (b : Bool) (h : f.lo + (f.hi - f.lo) < 512) : (s.setFlag f i b).fld f i = if b then 1 else 0 := by
  rw [State.setFlag, State.fld_setFld_same _ _ _ h]
  have hw : 1 < 2 ^ f.width := Nat.one_lt_two_pow (by unfold Field.width; omega)
  cases b
  · exact Nat.zero_mod _
  · exact Nat.mod_eq_of_lt hw

@[simp] theorem State.flag_setFlag_eq (b : Bool) (h : f.lo + (f.hi - f.lo) < 512) : (s.setFlag f i b).flag f i = b := by
  rw [State.flag, State.fld_setFlag_eq _ _ _ h]
  cases b <;> rfl

@[simp] theorem State.fld_setFlag_of_apart (b : Bool) (h : f.apart g = true) : (s.setFlag f i b).fld g j = s.fld g j :=
  s.fld_setFld_apart i j _ h

@[simp] theorem State.flag_setFlag_of_apart (b : Bool) (h : f.apart g = true) : (s.setFlag f i b).flag g j = s.flag g j :=
  State.flag_eq_of_fld (s.fld_setFld_apart i j _ h)

@[simp] theorem State.fld_count_eq (n : Nat) (h : f.lo + (f.hi - f.lo) < 512) :
    (s.count f i n).fld f i = (s.fld f i + n) % 2 ^ (f.hi - f.lo + 1) := s.fld_count_same i n h

@[simp] theorem State.fld_count_of_apart (n : Nat) (h : f.apart g = true) : (s.count f i n).fld g j = s.fld g j := s.fld_count_apart i j n h

@[simp] theorem State.flag_count_of_apart (n : Nat) (h : f.apart g = true) : (s.count f i n).flag g j = s.flag g j :=
  State.flag_eq_of_fld (s.fld_count_apart i j n h)

@[simp] theorem State.fld_logAt_of_apart (ts : Ts96) (type kind index : Nat) (words : List Nat) (extra : Nat)
    (h : EVL_DROPPED.COUNT.apart g = true) : (s.logAt ts type kind index words extra).fld g j = s.fld g j := s.fld_logAt _ _ _ _ _ _ _ h

@[simp] theorem State.flag_logAt_of_apart (ts : Ts96) (type kind index : Nat) (words : List Nat) (extra : Nat)
    (h : EVL_DROPPED.COUNT.apart g = true) : (s.logAt ts type kind index words extra).flag g j = s.flag g j :=
  State.flag_eq_of_fld (s.fld_logAt _ _ _ _ _ _ _ h)

@[simp] theorem State.fld_log_of_apart (type kind index : Nat) (words : List Nat) (h : EVL_DROPPED.COUNT.apart g = true) :
    (s.log type kind index words).fld g j = s.fld g j := s.fld_logAt _ _ _ _ _ _ _ h

@[simp] theorem State.flag_log_of_apart (type kind index : Nat) (words : List Nat) (h : EVL_DROPPED.COUNT.apart g = true) :
    (s.log type kind index words).flag g j = s.flag g j := State.flag_eq_of_fld (s.fld_logAt _ _ _ _ _ _ _ h)

/-- A field of another register after a write by access codes. -/
@[simp] theorem State.fld_plainWrite_other {r : Reg} (v : Nat) (h : g.reg ≠ r) : (plainWrite r i v s).fld g j = s.fld g j := by
  rw [State.fld_eq, State.fld_eq, plainWrite, State.reg_setReg_other _ _ (.inl h)]

@[simp] theorem State.flag_plainWrite_other {r : Reg} (v : Nat) (h : g.reg ≠ r) : (plainWrite r i v s).flag g j = s.flag g j :=
  State.flag_eq_of_fld (s.fld_plainWrite_other i j v h)

@[simp] theorem State.reg_setFld_other {r : Reg} (x : Nat) (h : r ≠ f.reg) : (s.setFld f i x).reg r j = s.reg r j :=
  s.reg_setReg_other _ (.inl h)

@[simp] theorem State.reg_setFlag_other {r : Reg} (b : Bool) (h : r ≠ f.reg) : (s.setFlag f i b).reg r j = s.reg r j :=
  s.reg_setReg_other _ (.inl h)

@[simp] theorem State.reg_count_other {r : Reg} (n : Nat) (h : r ≠ f.reg) : (s.count f i n).reg r j = s.reg r j :=
  s.reg_setReg_other _ (.inl h)

end

/-! ### Alerts -/

section
variable (s : State) (cls : Nat)

@[simp] theorem State.alert_recorder : (s.alert cls).recorder = s.recorder := by rw [State.alert_eq]

theorem State.reg_alert (r : Reg) (i : Nat) (hS : r ≠ .MGT_ALERT_STATUS) (hG : r ≠ .GLB_STATE) : (s.alert cls).reg r i = s.reg r i := by
  have h : Frame (fun r _ => r = .MGT_ALERT_STATUS ∨ r = .GLB_STATE) s (s.alert cls) := (Frame.refl s).alert (.inl rfl) (.inr rfl)
  exact h.reg_eq (by rintro (h | h); exacts [hS h, hG h])

@[simp] theorem State.fld_alert_other {g : Field} (j : Nat) (hS : g.reg ≠ .MGT_ALERT_STATUS) (hG : g.reg ≠ .GLB_STATE) :
    (s.alert cls).fld g j = s.fld g j := State.fld_congr (s.reg_alert cls _ _ hS hG)

@[simp] theorem State.flag_alert_other {g : Field} (j : Nat) (hS : g.reg ≠ .MGT_ALERT_STATUS) (hG : g.reg ≠ .GLB_STATE) :
    (s.alert cls).flag g j = s.flag g j := State.flag_congr (s.reg_alert cls _ _ hS hG)

/-- An alert sets its class bit and asserts ALERT_N (R299). -/
theorem alerted_alert {cls : Nat} (h : cls < MGT_ALERT_STATUS.CLASS.width) : Alerted cls (s.alert cls) := by
  have hregs := s.alert_regs cls
  have hfld := State.fld_of_regs hregs
  refine ⟨?_, ?_⟩
  · rw [hfld, State.fld_setFlag_of_apart _ _ _ _ (by decide), State.fld_setFld_same _ _ _ (by decide), Nat.testBit_mod_two_pow,
      Nat.testBit_or, Nat.testBit_two_pow_self, Bool.or_true, Bool.and_true]
    exact decide_eq_true h
  · rw [State.flag, hfld, State.fld_setFlag_eq _ _ _ (by decide)]
    rfl

end

/-! ### Loops over indices -/

section
variable {α : Type} {obs : State → Nat → α} {f : Nat → State → State} (hf : ∀ i j s, j ≠ i → obs (f i s) j = obs s j)
include hf

/-- A loop whose turns change what is seen at their own index only leaves what is seen at any other. -/
theorem State.each_apart {is : List Nat} {k : Nat} (hk : k ∉ is) (s : State) : obs (s.each is f) k = obs s k := by
  induction is generalizing s with
  | nil => rfl
  | cons i is ih =>
    rw [List.mem_cons, not_or] at hk
    exact (ih hk.2 (f i s)).trans (hf i k s hk.1)

/-- What is seen at an index after such a loop is what its turn leaves there, of a state that looks there as at the start. -/
theorem State.each_turn {is : List Nat} (hn : is.Nodup) {k : Nat} (hk : k ∈ is) (s : State) :
    ∃ u, obs u k = obs s k ∧ obs (s.each is f) k = obs (f k u) k := by
  induction is generalizing s with
  | nil => cases hk
  | cons i is ih =>
    rw [List.nodup_cons] at hn
    by_cases hki : k = i
    · subst hki
      exact ⟨s, rfl, State.each_apart hf hn.1 (f k s)⟩
    · obtain ⟨u, hu, ht⟩ := ih hn.2 ((List.mem_cons.1 hk).resolve_left hki) (f i s)
      exact ⟨u, hu.trans (hf i k s hki), ht⟩

end

/-! ### Commands that write a register -/

/-- A write command that the device takes is its effect. -/
theorem writeCommand_accepted {p : Path} {r : Reg} {i v : Nat} {s : State} (act : State → State × WStatus) (h : Accepts s p r i) :
    writeCommand p r i v act s = .next (act s).1 := by
  rw [writeCommand, guardedWrite_accepted v act h]

end Sys2Proof.Machine
end

section
/-! SUPPORT. Records beside other changes, and a register written back with one field changed. -/
namespace Sys2Proof.Claims
open Sys2Proof Sys2Proof.Machine
set_option Elab.async false

/-! ### Records beside other changes -/

/-- With room in the queue, an event is recorded with its instant (R420). -/
theorem loggedAt_logAt {s : State} (hroom : Room s) (ts : Ts96) (type kind index : Nat) (words : List Nat) (extra : Nat := 0) :
    LoggedAt ts type kind index words s (s.logAt ts type kind index words extra) := by
  rcases s.logAt_cases ts type kind index words extra with ⟨-, e, htype, hseq, hts, -, -, hwords, h⟩ | ⟨hfull, -⟩
  · exact ⟨e, by rw [h], htype, hseq, hts, hwords⟩
  · exact absurd hroom (Nat.not_lt.2 hfull)

/-- What else changes beside the recorder does not matter to a record. -/
theorem LoggedAt.beside {ts : Ts96} {type kind index : Nat} {words : List Nat} {s t u v : State}
    (h : LoggedAt ts type kind index words u v) (hs : u.recorder = s.recorder := by rfl) (ht : t.recorder = v.recorder := by rfl) :
    LoggedAt ts type kind index words s t := by
  obtain ⟨e, hq, htype, hseq, hts, hwords⟩ := h
  exact ⟨e, by rw [ht, hq, hs], htype, by rw [hseq, hs], hts, hwords⟩

/-- A register that the frame names, and that reads the same, may be left out of it. -/
theorem Keeps.drop {ks : List RegKey} {s t : State} {r : Reg} {i : Nat} (h : Keeps ((r, i) :: ks) s t) (hr : t.reg r i = s.reg r i) :
    Keeps ks s t := by
  obtain ⟨hreg, hmem⟩ := h
  refine ⟨fun q j hk => ?_, hmem⟩
  by_cases hq : (q, j) = (r, i)
  · cases hq
    exact hr
  · exact hreg q j (by rw [List.mem_cons, not_or]; exact ⟨hq, hk⟩)

end Sys2Proof.Claims

namespace Sys2Proof.Machine
open Sys2Proof Sys2Proof.Claims
set_option Elab.async false

/-! ### A write of the values a register's writable fields hold -/

theorem testBit_keepWritable (old : RegVal) {fs : List FieldDesc} (hok : fieldsOk fs = true) (k : Nat) :
    (keepWritable old fs).testBit k =
      ((accessAt fs k == some .rw || accessAt fs k == some .rws) && old.getLsbD k) := by
  induction fs with
  | nil => simp [keepWritable, accessAt]
  | cons f fs ih =>
    simp only [fieldsOk, Bool.and_eq_true, decide_eq_true_eq] at hok
    obtain ⟨⟨⟨hle, hhi⟩, hapart⟩, hrest⟩ := hok
    have ih := ih hrest
    have hcase : ∀ j, (bitsOf old f.hi f.lo <<< f.lo).testBit j = (decide (f.lo ≤ j ∧ j ≤ f.hi) && old.getLsbD j) := by
      intro j
      rw [Nat.testBit_shiftLeft, testBit_bitsOf]
      by_cases hj : f.lo ≤ j
      · by_cases hj' : j ≤ f.hi
        · simp [hj, hj', show f.lo + (j - f.lo) = j by omega, show j - f.lo < f.hi - f.lo + 1 by omega]
        · simp [hj, hj', show ¬ j - f.lo < f.hi - f.lo + 1 by omega]
      · simp [hj]
    rw [accessAt_cons]
    by_cases hk : f.lo ≤ k ∧ k ≤ f.hi
    · rw [if_pos hk]
      have hnone : f.access ≠ .rw → f.access ≠ .rws → keepWritable old (f :: fs) = keepWritable old fs := by
        intro h1 h2
        cases hf : f.access <;> simp_all [keepWritable]
      have hsome : f.access = .rw ∨ f.access = .rws → keepWritable old (f :: fs) = bitsOf old f.hi f.lo <<< f.lo ||| keepWritable old fs := by
        rintro (h | h) <;> simp [keepWritable, h]
      by_cases hw : f.access = .rw ∨ f.access = .rws
      · rw [hsome hw, Nat.testBit_or, hcase, ih]
        rcases hw with hw | hw <;> cases h : old.getLsbD k <;> simp [hw, hk]
      · rw [not_or] at hw
        rw [hnone hw.1 hw.2, ih]
        simp [accessAt_of_apart hapart hk, hw.1, hw.2]
    · rw [if_neg hk]
      cases hf : f.access <;> simp [keepWritable, hf, Nat.testBit_or, hcase, hk, ih]

/-- Field `f` stands in its register's table with access code `acc`. -/
abbrev Field.has (f : Field) (acc : Access) : Prop :=
  fieldsOk f.reg.desc.fields = true ∧ f.lo ≤ f.hi ∧ f.hi < 512 ∧
    ∃ d ∈ f.reg.desc.fields, d.hi = f.hi ∧ d.lo = f.lo ∧ d.access = acc

theorem testBit_withField (v : Nat) (hv : v < 2 ^ 512) {f : Field} (x k : Nat) (hle : f.lo ≤ f.hi) (hhi : f.hi < 512) :
    (withField v f x).testBit k = if f.lo ≤ k ∧ k ≤ f.hi then x.testBit (k - f.lo) else v.testBit k := by
  rw [withField, BitVec.testBit_toNat, getLsbD_setBitsOf _ _ _ hle hhi, BitVec.getLsbD_ofNat]
  split
  · rfl
  · by_cases hk : k < 512
    · rw [decide_eq_true hk, Bool.true_and]
    · rw [decide_eq_false hk, Bool.false_and,
        Nat.testBit_lt_two_pow (Nat.lt_of_lt_of_le hv (Nat.pow_le_pow_right (by decide) (Nat.le_of_not_lt hk)))]

theorem State.testBit_writeBack (s : State) {r : Reg} (hok : fieldsOk r.desc.fields = true) (i k : Nat) : (s.writeBack r i).testBit k =
    ((accessAt r.desc.fields k == some .rw || accessAt r.desc.fields k == some .rws) && (s.reg r i).getLsbD k) :=
  testBit_keepWritable _ hok k

theorem State.writeBack_lt (s : State) (r : Reg) (i : Nat) (hok : fieldsOk r.desc.fields = true) : s.writeBack r i < 2 ^ 512 := by
  refine Nat.lt_pow_two_of_testBit _ fun k hk => ?_
  rw [s.testBit_writeBack hok, BitVec.getLsbD_of_ge _ _ hk, Bool.and_false]

/-- A bit after a write that sets field `f` and keeps what software may write of the others. -/
theorem getLsbD_reg_writeBack (s : State) {f : Field} {acc : Access} (i x k : Nat) (hf : f.has acc) :
    ((plainWrite f.reg i (withField (s.writeBack f.reg i) f x) s).reg f.reg i).getLsbD k =
      if f.lo ≤ k ∧ k ≤ f.hi then
        accessBit ((s.reg f.reg i).getLsbD k) (x <<< f.lo) (s.clearable f.reg i (withField (s.writeBack f.reg i) f x)) k (some acc)
      else (s.reg f.reg i).getLsbD k := by
  obtain ⟨hok, hle, hhi, d, hd, hdhi, hdlo, hacc⟩ := hf
  have hbit := testBit_withField (s.writeBack f.reg i) (s.writeBack_lt f.reg i hok) x k hle hhi
  rw [plainWrite_reg, getLsbD_applyAccess _ _ _ _ hok]
  split
  next hk =>
    rw [if_pos hk] at hbit
    rw [accessAt_of_mem hok hd (by omega), hacc]
    cases acc <;> simp only [accessBit, hbit, Nat.testBit_shiftLeft, hk.1, decide_true, Bool.true_and]
  next hk =>
    rw [if_neg hk, s.testBit_writeBack hok] at hbit
    cases haccess : accessAt f.reg.desc.fields k with
    | none => rfl
    | some a =>
      rw [haccess] at hbit
      cases a <;> simp [accessBit, hbit, State.testBit_clearable]

/-- A write that sets a writable field and keeps the others is that field set. -/
theorem plainWrite_writeBack_eq_setFld (s : State) {f : Field} {acc : Access} (i x : Nat) (hf : f.has acc) (hw : acc = .rw ∨ acc = .rws) :
    plainWrite f.reg i (withField (s.writeBack f.reg i) f x) s = s.setFld f i x := by
  have hreg : (plainWrite f.reg i (withField (s.writeBack f.reg i) f x) s).reg f.reg i = setBitsOf (s.reg f.reg i) f.hi f.lo x := by
    refine BitVec.eq_of_getLsbD_eq fun k _ => ?_
    rw [getLsbD_reg_writeBack s i x k hf, getLsbD_setBitsOf _ _ _ hf.2.1 hf.2.2.1]
    split
    next hk => rcases hw with rfl | rfl <;> simp [accessBit, Nat.testBit_shiftLeft, hk.1]
    next => rfl
  rw [plainWrite_reg] at hreg
  rw [plainWrite, hreg]
  rfl

/-- A write that sets a field which only commands, and keeps the others, leaves the register as it is. -/
theorem reg_plainWrite_writeBack_wo (s : State) {f : Field} (i x : Nat) (hf : f.has .wo) :
    (plainWrite f.reg i (withField (s.writeBack f.reg i) f x) s).reg f.reg i = s.reg f.reg i := by
  refine BitVec.eq_of_getLsbD_eq fun k _ => ?_
  rw [getLsbD_reg_writeBack s i x k hf]
  split <;> rfl

theorem fieldOf_withField_same (v x : Nat) {f : Field} (hle : f.lo ≤ f.hi) (hhi : f.hi < 512) : fieldOf (withField v f x) f = x % 2 ^ f.width := by
  refine Nat.eq_of_testBit_eq fun j => ?_
  rw [fieldOf, Field.width, Nat.testBit_mod_two_pow, Nat.testBit_shiftRight, Nat.testBit_mod_two_pow, withField, BitVec.testBit_toNat,
    getLsbD_setBitsOf _ _ _ hle hhi]
  by_cases hj : j < f.hi - f.lo + 1
  · rw [if_pos (by omega)]
    simp
  · simp [hj]

theorem fieldOf_withField_apart (v x : Nat) (hv : v < 2 ^ 512) {f g : Field} (hle : f.lo ≤ f.hi) (hhi : f.hi < 512) (h : g.hi < f.lo ∨ f.hi < g.lo)
    (hg : g.lo ≤ g.hi) : fieldOf (withField v f x) g = fieldOf v g := by
  refine Nat.eq_of_testBit_eq fun j => ?_
  rw [fieldOf, fieldOf, Field.width, Nat.testBit_mod_two_pow, Nat.testBit_mod_two_pow, Nat.testBit_shiftRight, Nat.testBit_shiftRight,
    testBit_withField v hv x _ hle hhi]
  by_cases hj : j < g.hi - g.lo + 1
  · rw [if_neg (by omega)]
  · simp [hj]

/-- A writable field of the value that software writes back reads as the register holds it. -/
theorem fieldOf_writeBack (s : State) {g : Field} {acc : Access} (i : Nat) (hg : g.has acc) (hw : acc = .rw ∨ acc = .rws) :
    fieldOf (s.writeBack g.reg i) g = s.fld g i := by
  obtain ⟨hok, hle, hhi, d, hd, hdhi, hdlo, hacc⟩ := hg
  refine Nat.eq_of_testBit_eq fun j => ?_
  rw [fieldOf, Field.width, Nat.testBit_mod_two_pow, Nat.testBit_shiftRight, s.testBit_writeBack hok, State.fld_eq,
    testBit_bitsOf]
  by_cases hj : j < g.hi - g.lo + 1
  · rw [accessAt_of_mem hok hd (by omega), hacc]
    rcases hw with rfl | rfl <;> simp
  · simp [hj]

/-- A field that is not writable of the value that software writes back is 0. -/
theorem fieldOf_writeBack_zero (s : State) {g : Field} {acc : Access} (i : Nat) (hg : g.has acc) (hw : acc ≠ .rw ∧ acc ≠ .rws) :
    fieldOf (s.writeBack g.reg i) g = 0 := by
  obtain ⟨hok, hle, hhi, d, hd, hdhi, hdlo, hacc⟩ := hg
  refine Nat.eq_of_testBit_eq fun j => ?_
  rw [fieldOf, Field.width, Nat.testBit_mod_two_pow, Nat.testBit_shiftRight, s.testBit_writeBack hok, Nat.zero_testBit]
  by_cases hj : j < g.hi - g.lo + 1
  · rw [accessAt_of_mem hok hd (by omega), hacc]
    simp [hw.1, hw.2]
  · simp [hj]

end Sys2Proof.Machine
end

section
/-! SUPPORT. The performance counters (R427 to R433), and O1. -/
namespace Sys2Proof.Machine
open Sys2Proof Sys2Proof.Claims
set_option Elab.async false

/-! ### A selection -/

/-- A source's total is looked at without changing the state. -/
theorem State.pmcTotal_snd (s : State) (src sel i : Nat) : (s.pmcTotal src sel i).2 = s := by
  unfold State.pmcTotal
  split <;> rfl

/-- The selection of counter `k` changes with a write of `v`, or the write enables it: it loads the preset (R427). -/
abbrev State.pmcFresh (s : State) (k v : Nat) : Prop :=
  (∃ f ∈ [PMC_CTL.SRC, PMC_CTL.SEL, PMC_CTL.INST, PMC_CTL.MODE], fieldOf v f ≠ s.fld f k) ∨
    (fieldOf v PMC_CTL.EN = 1 ∧ s.flag PMC_CTL.EN k = false)

/-- A legal write of a selection stores it, and loads the preset where it is fresh. -/
theorem wrPmcCtl_taken {s : State} {p : Path} {k v n : Nat} {occ : Bool}
    (hsrc : pmcSource (fieldOf v PMC_CTL.SRC) (fieldOf v PMC_CTL.SEL) = some (n, occ)) (hinst : fieldOf v PMC_CTL.INST < n)
    (hmode : fieldOf v PMC_CTL.MODE = 0 ∨ fieldOf v PMC_CTL.MODE = 1 ∧ occ = true)
    (hen : fieldOf v PMC_CTL.EN = 1 → s.partFailed 13 = false) :
    (s.pmcFresh k v ∧ ∃ f, (wrPmcCtl p k v s).1 =
      ((plainWrite .PMC_CTL k v s).setFld PMC_VALUE.COUNT k (s.fld PMC_PRESET.PRESET k)).modPmc k f) ∨
    (¬ s.pmcFresh k v ∧ ((wrPmcCtl p k v s).1 = plainWrite .PMC_CTL k v s ∨
      ∃ f, (wrPmcCtl p k v s).1 = (plainWrite .PMC_CTL k v s).modPmc k f)) := by
  have hlegal : ¬ (n ≤ fieldOf v PMC_CTL.INST ∨ 1 < fieldOf v PMC_CTL.MODE ∨ (fieldOf v PMC_CTL.MODE = 1 ∧ occ = false) ∨
      (fieldOf v PMC_CTL.EN = 1 ∧ s.partFailed 13 = true)) := by
    rintro (h | h | ⟨h, h'⟩ | ⟨h, h'⟩)
    · omega
    · omega
    · rcases hmode with hm | ⟨-, hocc⟩
      · omega
      · simp [hocc] at h'
    · simp [hen h] at h'
  have hfresh : (decide (fieldOf v PMC_CTL.SRC ≠ s.fld PMC_CTL.SRC k ∨ fieldOf v PMC_CTL.SEL ≠ s.fld PMC_CTL.SEL k ∨
      fieldOf v PMC_CTL.INST ≠ s.fld PMC_CTL.INST k ∨ fieldOf v PMC_CTL.MODE ≠ s.fld PMC_CTL.MODE k) ||
      (decide (fieldOf v PMC_CTL.EN = 1) && !s.flag PMC_CTL.EN k)) = true ↔ s.pmcFresh k v := by
    simp [State.pmcFresh]
  have hpreset : (plainWrite .PMC_CTL k v s).fld PMC_PRESET.PRESET k = s.fld PMC_PRESET.PRESET k :=
    State.fld_plainWrite_other s k k v (by decide)
  unfold wrPmcCtl
  simp only [hsrc]
  rw [if_neg hlegal]
  simp only [hfresh, State.pmcTotal_snd]
  split
  next hf =>
    rw [hpreset]
    exact .inl ⟨hf, _, rfl⟩
  next hf =>
    refine .inr ⟨hf, ?_⟩
    dsimp only
    split
    · exact .inl rfl
    · exact .inr ⟨_, rfl⟩

theorem pmcCtl_writable {f : Field}
    (hf : f ∈ [PMC_CTL.EN, PMC_CTL.MODE, PMC_CTL.WINDOWED, PMC_CTL.SAMPLE, PMC_CTL.SRC, PMC_CTL.SEL, PMC_CTL.INST]) :
    f.reg = .PMC_CTL ∧ f.writable := by
  revert f; decide

theorem fld_pmcCtl_plainWrite (s : State) (k v : Nat) {f : Field}
    (hf : f ∈ [PMC_CTL.EN, PMC_CTL.MODE, PMC_CTL.WINDOWED, PMC_CTL.SAMPLE, PMC_CTL.SRC, PMC_CTL.SEL, PMC_CTL.INST]) :
    (plainWrite .PMC_CTL k v s).fld f k = fieldOf v f := by
  obtain ⟨hreg, hw⟩ := pmcCtl_writable hf
  rw [← hreg]
  exact fld_plainWrite_of_writable (by rw [hreg]; decide) hw k v s

/-! ### The window -/

/-- The end of a window for one counter (R430). -/
def State.pmcWindowAt (stepped : Bool) (k : Nat) (s : State) : State :=
  let s := s.setFlag PMC_WIN.VALID k (s.pmcOf k).whole
  let s := ((s.setFlag PMC_WIN.STEPPED k stepped).setFld PMC_WIN.COUNT k (s.pmcWas k)).pmcReload k
  s.modPmc k fun x => { x with whole := s.flag PMC_CTL.EN k && !s.flag PMC_GLOBAL.FREEZE 0 && !s.pmcHeld k }

theorem State.pmcWindow_eq (s : State) (stepped : Bool) :
    s.pmcWindow stepped = s.each (counters128.filter fun k => s.flag PMC_CTL.WINDOWED k) (State.pmcWindowAt stepped) := rfl

/-- A reload sets the counter to its preset, and notes what it was. -/
theorem State.pmcReload_eq (s : State) (k : Nat) : ∃ f, s.pmcReload k = (s.setFld PMC_VALUE.COUNT k (s.fld PMC_PRESET.PRESET k)).modPmc k f :=
  ⟨_, rfl⟩

/-- What a window reads and writes of a counter: its notes, the core cycle, its value, its preset, its window. -/
def State.pmcSeen (s : State) (k : Nat) : PmcX × Nat × RegVal × RegVal × RegVal :=
  (s.pmcOf k, s.cycle, s.reg .PMC_VALUE k, s.reg .PMC_PRESET k, s.reg .PMC_WIN k)

theorem pmcWindowAt_keeps (stepped : Bool) (k : Nat) (s : State) : Keeps [(.PMC_WIN, k), (.PMC_VALUE, k)] s (s.pmcWindowAt stepped k) := by
  have h : Frame (fun r i => (r, i) ∈ [(Reg.PMC_WIN, k), (.PMC_VALUE, k)]) s s := .refl s
  exact h.setFlag.setFlag.setFld.setFld.modPmc.modPmc

theorem pmcSeen_pmcWindowAt_other (stepped : Bool) {k j : Nat} (s : State) (h : j ≠ k) :
    (State.pmcWindowAt stepped k s).pmcSeen j = s.pmcSeen j := by
  obtain ⟨hreg, -, -⟩ := pmcWindowAt_keeps stepped k s
  have hrest : (State.pmcWindowAt stepped k s).pmcOf j = s.pmcOf j ∧ (State.pmcWindowAt stepped k s).cycle = s.cycle := by
    unfold State.pmcWindowAt State.pmcReload
    dsimp only
    refine ⟨?_, by simp⟩
    rw [State.pmcOf_modPmc_other _ _ h, State.pmcOf_modPmc_other _ _ h]
    simp [State.pmcOf]
  rw [State.pmcSeen, hrest.1, hrest.2, hreg _ _ (by simp [h]), hreg _ _ (by simp [h]), hreg _ _ (by simp [h]), State.pmcSeen]

theorem State.pmcWas_congr {s t : State} {k : Nat} (hof : t.pmcOf k = s.pmcOf k) (hcycle : t.cycle = s.cycle)
    (hvalue : t.fld PMC_VALUE.COUNT k = s.fld PMC_VALUE.COUNT k) : t.pmcWas k = s.pmcWas k := by
  rw [State.pmcWas, State.pmcWas, hof, hcycle, hvalue]

/-- The end of a window of a counter: its window shows what it had, and it restarts from its preset. -/
theorem pmcWindowAt_shows (s : State) (k : Nat) :
    (State.pmcWindowAt false k s).fld PMC_WIN.COUNT k = s.pmcWas k % 2 ^ 48 ∧
    (State.pmcWindowAt false k s).flag PMC_WIN.STEPPED k = false ∧
    (State.pmcWindowAt false k s).flag PMC_WIN.VALID k = (s.pmcOf k).whole ∧
    (State.pmcWindowAt false k s).fld PMC_VALUE.COUNT k = s.fld PMC_PRESET.PRESET k := by
  unfold State.pmcWindowAt State.pmcReload
  have hwas : (s.setFlag PMC_WIN.VALID k (s.pmcOf k).whole).pmcWas k = s.pmcWas k :=
    State.pmcWas_congr rfl rfl (State.fld_setFlag_of_apart s k k _ (by decide))
  have hpreset : s.fld PMC_PRESET.PRESET k < 2 ^ 48 := s.fld_lt PMC_PRESET.PRESET k
  refine ⟨?_, ?_, ?_, ?_⟩
  · simp (disch := decide) [hwas]
  · simp (disch := decide)
  · simp (disch := decide)
  · simpa (disch := decide) using hpreset

/-- After the end of a window, every windowed counter shows it. -/
theorem pmcWindow_shows (s : State) {k : Nat} (hk : k < 128) (hwin : s.flag PMC_CTL.WINDOWED k = true) :
    (s.pmcWindow false).fld PMC_WIN.COUNT k = s.pmcWas k % 2 ^ 48 ∧ (s.pmcWindow false).flag PMC_WIN.STEPPED k = false ∧
    (s.pmcWindow false).flag PMC_WIN.VALID k = (s.pmcOf k).whole ∧
    (s.pmcWindow false).fld PMC_VALUE.COUNT k = s.fld PMC_PRESET.PRESET k := by
  have hmem : k ∈ counters128.filter fun k => s.flag PMC_CTL.WINDOWED k := by simp [counters128, hk, hwin]
  have hnodup : (counters128.filter fun k => s.flag PMC_CTL.WINDOWED k).Nodup := List.nodup_range.filter _
  obtain ⟨u, hu, ht⟩ := State.each_turn (obs := State.pmcSeen) (fun i j t h => pmcSeen_pmcWindowAt_other false t h) hnodup hmem s
  simp only [State.pmcSeen, Prod.mk.injEq] at hu ht
  obtain ⟨huof, hucycle, huvalue, hupreset, -⟩ := hu
  obtain ⟨-, -, htvalue, -, htwin⟩ := ht
  have hwas : u.pmcWas k = s.pmcWas k := State.pmcWas_congr huof hucycle (State.fld_congr huvalue)
  obtain ⟨hcount, hstepped, hvalid, hvalue⟩ := pmcWindowAt_shows u k
  rw [State.pmcWindow_eq]
  exact ⟨(State.fld_congr htwin).trans (hcount.trans (by rw [hwas])), (State.flag_congr htwin).trans hstepped,
    (State.flag_congr htwin).trans (hvalid.trans (by rw [huof])), (State.fld_congr htvalue).trans (hvalue.trans (State.fld_congr hupreset))⟩

theorem pmcWindow_keeps (s : State) (stepped : Bool) :
    Keeps ((counters128.filter fun k => s.flag PMC_CTL.WINDOWED k).flatMap fun k => [(.PMC_WIN, k), (.PMC_VALUE, k)]) s (s.pmcWindow stepped) :=
  (Frame.refl s).each fun k hk h => h.thenIn (pmcWindowAt_keeps stepped k _) fun _ _ hr => List.mem_flatMap.2 ⟨k, hk, hr⟩

/-! ### The snapshot -/

theorem fieldOf_pmcGlobal (s : State) : fieldOf (withField (s.writeBack .PMC_GLOBAL 0) PMC_GLOBAL.SNAP 1) PMC_GLOBAL.SNAP = 1 ∧
    fieldOf (withField (s.writeBack .PMC_GLOBAL 0) PMC_GLOBAL.SNAP 1) PMC_GLOBAL.WIN = s.fld PMC_GLOBAL.WIN 0 := by
  refine ⟨fieldOf_withField_same _ 1 (by decide) (by decide), ?_⟩
  rw [fieldOf_withField_apart _ _ (s.writeBack_lt .PMC_GLOBAL 0 (by decide)) (by decide) (by decide) (by decide) (by decide)]
  exact fieldOf_writeBack s (g := PMC_GLOBAL.WIN) 0 (acc := .rw) (by decide) (.inl rfl)

/-- SNAP copies the counters and changes no register. -/
theorem wrPmcGlobal_snap (s : State) (p : Path) (hlo : 1 ≤ s.fld PMC_GLOBAL.WIN 0) (hhi : s.fld PMC_GLOBAL.WIN 0 ≤ 1000000) :
    let t := (wrPmcGlobal p (withField (s.writeBack .PMC_GLOBAL 0) PMC_GLOBAL.SNAP 1) s).1
    t.pmcSnap = counters128.map s.pmcWas ∧ Keeps [] s t := by
  obtain ⟨hsnap, hwin⟩ := fieldOf_pmcGlobal s
  have hreg := reg_plainWrite_writeBack_wo s (f := PMC_GLOBAL.SNAP) 0 1 (by decide)
  dsimp only
  unfold wrPmcGlobal
  rw [hwin, if_neg (by omega), hsnap]
  generalize withField (s.writeBack .PMC_GLOBAL 0) PMC_GLOBAL.SNAP 1 = v at hreg ⊢
  have hkeep : Keeps [] s (plainWrite .PMC_GLOBAL 0 v s) := (keeps_plainWrite s .PMC_GLOBAL 0 v).drop hreg
  have hwas : (plainWrite .PMC_GLOBAL 0 v s).pmcWas = s.pmcWas :=
    funext fun k => State.pmcWas_congr rfl rfl (State.fld_plainWrite_other _ _ _ _ (by decide))
  simp only [if_true, hwas]
  have hloop : ∀ (is : List Nat) (f : Nat → PmcX → PmcX) (u : State), (u.each is fun k s => s.modPmc k (f k)).pmcSnap = u.pmcSnap := by
    intro is f u
    exact State.each_keeps (P := fun v => v.pmcSnap = u.pmcSnap) (f := fun k s => s.modPmc k (f k)) (fun i v h => h) is rfl
  split
  · refine ⟨hloop _ _ _, ?_⟩
    exact Frame.each (Frame.same (Frame.of_keeps hkeep)) fun k _ h => h.modPmc
  · exact ⟨rfl, Frame.same (Frame.of_keeps hkeep)⟩

/-! ### A wrap -/

/-- The wrap of a counter is no longer to be dealt with. -/
abbrev State.pmcDealt (s : State) (k : Nat) : State := s.modPmc k fun x => { x with wrapAt := none }

/-- The words of a sample: how late it is taken, and the counters listed with their values. -/
abbrev State.sampleWords (s : State) (at_ : Nat) : List Nat :=
  min 8 (s.cycle - at_) :: s.sampleList.flatMap fun c => c :: words64 (s.fld PMC_VALUE.COUNT c)

section Wrap
variable {s : State} {k at_ : Nat} {ts : Ts96} (hwrap : (s.pmcOf k).wrapAt = some (at_, ts))
include hwrap

theorem pmcWrap_plain (hoff : s.flag PMC_CTL.SAMPLE k = false) : s.pmcWrap k = s.pmcDealt k := by
  unfold State.pmcWrap
  simp [hwrap, hoff]

/-- A wrap of a counter that samples, not too soon after the last, records a sample and reloads the counter (R433). -/
theorem pmcWrap_sample (hroom : Room s)
    (hlast : ∀ c, (s.pmcOf k).lastSample = some c → c + cyclesOfUs (s.fld PMC_SAMPLE_MIN.MIN 0) ≤ at_)
    (hon : s.flag PMC_CTL.SAMPLE k = true) :
    s.pmcWrap k = (((s.pmcDealt k).logAt ts Evt.PMC_SAMPLE Subj.COUNTER k (s.sampleWords at_)).modPmc k
      fun x => { x with lastSample := some at_ }).pmcReload k := by
  have hfull : ¬ 64 ≤ s.recorder.queue.length := Nat.not_le.2 hroom
  unfold State.pmcWrap
  cases h : (s.pmcOf k).lastSample with
  | none =>
    simp [hwrap, hon, h, hfull]
    rfl
  | some c =>
    have hsoon := hlast c h
    simp [hwrap, hon, h, hfull, Nat.not_lt.2 hsoon]
    rfl

/-- A wrap that is dealt with leaves nothing to deal with, and records a sample and reloads the counter where it samples. -/
theorem pmcWrap_spec (hroom : Room s)
    (hlast : ∀ c, (s.pmcOf k).lastSample = some c → c + cyclesOfUs (s.fld PMC_SAMPLE_MIN.MIN 0) ≤ at_) :
    ((s.pmcWrap k).pmcOf k).wrapAt = none ∧
    (if s.flag PMC_CTL.SAMPLE k = true then
      LoggedAt ts Evt.PMC_SAMPLE Subj.COUNTER k (s.sampleWords at_) s (s.pmcWrap k) ∧
      (s.pmcWrap k).fld PMC_VALUE.COUNT k = s.fld PMC_PRESET.PRESET k
    else (s.pmcWrap k).recorder = s.recorder ∧ (s.pmcWrap k).fld PMC_VALUE.COUNT k = s.fld PMC_VALUE.COUNT k) ∧
    Keeps [(.PMC_VALUE, k)] s (s.pmcWrap k) := by
  split
  next hon =>
    rw [pmcWrap_sample hwrap hroom hlast hon]
    have hpreset : s.fld PMC_PRESET.PRESET k < 2 ^ 48 := s.fld_lt PMC_PRESET.PRESET k
    have hlogged := loggedAt_logAt (s := s.pmcDealt k) hroom ts Evt.PMC_SAMPLE Subj.COUNTER k (s.sampleWords at_)
    have hof : ((s.pmcDealt k).logAt ts Evt.PMC_SAMPLE Subj.COUNTER k (s.sampleWords at_)).pmcOf k = (s.pmcDealt k).pmcOf k := by
      rw [State.logAt_eq]; rfl
    refine ⟨?_, ⟨hlogged.beside, ?_⟩, ?_⟩
    · unfold State.pmcReload
      simp only [State.pmcOf_modPmc_same]
      have hset : ∀ (u : State) (x : Nat), (u.setFld PMC_VALUE.COUNT k x).pmcOf k = u.pmcOf k := fun _ _ => rfl
      rw [hset, State.pmcOf_modPmc_same, hof, State.pmcOf_modPmc_same]
    · unfold State.pmcReload
      simpa (disch := decide) using hpreset
    · have h : Frame (fun r i => (r, i) ∈ [(Reg.PMC_VALUE, k)]) s s := .refl s
      exact (h.modPmc.logAtOfRoom hroom).modPmc.setFld.modPmc
  next hoff =>
    rw [pmcWrap_plain hwrap (by simpa using hoff)]
    exact ⟨by rw [State.pmcOf_modPmc_same], ⟨rfl, rfl⟩, Frame.modPmc (.refl s)⟩

end Wrap

/-- Where no lower counter wraps in the same core cycle, the command deals with its counter alone. -/
theorem exec_counterWrap_alone {s : State} {k : Fin 128} {at_ : Nat} {ts : Ts96} (hwrap : (s.pmcOf k).wrapAt = some (at_, ts))
    (hfirst : ∀ j < k.val, (s.pmcOf j).wrapAt.map (·.1) ≠ some at_) : exec (.counterWrap k) s = .next (s.pmcWrap k) := by
  have hnil : (List.range k).filter (fun j => ((s.pmcOf k).wrapAt.map (·.1)).isSome &&
      (s.pmcOf j).wrapAt.map (·.1) = (s.pmcOf k).wrapAt.map (·.1)) = [] := by
    rw [List.filter_eq_nil_iff]
    intro j hj
    have := hfirst j (List.mem_range.1 hj)
    simpa [hwrap] using this
  change execCounterWrap k s = _
  unfold execCounterWrap
  dsimp only
  rw [hnil]
  rfl

end Sys2Proof.Machine

namespace Sys2Proof.Proofs
open Sys2Proof Sys2Proof.Machine Sys2Proof.Claims
set_option Elab.async false

/-- Settles O1: each command is its one effect on a legal input: the write of a selection, the loop over the windowed counters, the copy,
the wrap of one counter. -/
theorem pmcCommands : Obligations.PmcCommands := by
  refine ⟨fun s p k v n occ hacc hsrc hinst hmode hen => ?_, fun s hstart => ?_, fun s p hacc hlo hhi => ?_,
    fun s k at_ ts hwrap hroom hlast hfirst => ?_⟩
  · refine ⟨_, writeCommand_accepted (v := v.toNat) (wrPmcCtl p k v.toNat) hacc, ?_⟩
    have h : Frame (fun r i => (r, i) ∈ [(Reg.PMC_CTL, k.val), (.PMC_VALUE, k.val)]) s s := .refl s
    have hvalue := State.fld_plainWrite_other (g := PMC_VALUE.COUNT) (r := .PMC_CTL) s k k v.toNat (by decide)
    rcases wrPmcCtl_taken (p := p) (k := k) hsrc hinst hmode hen with ⟨hfresh, f, ht⟩ | ⟨hfresh, ht | ⟨f, ht⟩⟩ <;> rw [ht]
    · have hpreset : s.fld PMC_PRESET.PRESET k < 2 ^ 48 := s.fld_lt PMC_PRESET.PRESET k
      refine ⟨fun f hf => ?_, ?_, h.plainWrite.setFld.modPmc⟩
      · rw [State.fld_modPmc, State.fld_setFld_apart _ _ _ _ (by revert f; decide), fld_pmcCtl_plainWrite s k v.toNat hf]
      · rw [if_pos hfresh, State.fld_modPmc]
        exact (State.fld_setFld_same _ _ _ (by decide)).trans (Nat.mod_eq_of_lt hpreset)
    · exact ⟨fun f hf => fld_pmcCtl_plainWrite s k v.toNat hf, by rw [if_neg hfresh, hvalue], h.plainWrite⟩
    · exact ⟨fun f hf => fld_pmcCtl_plainWrite s k v.toNat hf, by rw [if_neg hfresh, State.fld_modPmc, hvalue], h.plainWrite.modPmc⟩
  · refine ⟨s.pmcWindow false, ?_, fun k hk => pmcWindow_shows s k.isLt hk, pmcWindow_keeps s false⟩
    change execPmcWindowBoundary s = _
    rw [execPmcWindowBoundary, if_pos hstart]
  · obtain ⟨hsnap, hkeep⟩ := wrPmcGlobal_snap s p hlo hhi
    refine ⟨_, writeCommand_accepted (wrPmcGlobal p _) hacc, fun k => ?_, hkeep⟩
    rw [hsnap]
    simp [counters128]
  · exact ⟨_, exec_counterWrap_alone hwrap hfirst, pmcWrap_spec hwrap hroom hlast⟩

end Sys2Proof.Proofs
end

section
/-! SUPPORT. What a request makes of a group's list of pool operations (R110 to R112, R117), and O2. -/
namespace Sys2Proof.Machine
open Sys2Proof Sys2Proof.Claims
set_option Elab.async false
variable (s : State) (g : Nat)

/-! ### The status of a group's operations -/

/-- The operation that heads a list waits for its lane to be LOCKED. -/
def State.opWaits (s : State) (g : Nat) : List PoolOp → Bool
  | [] => false
  | o :: _ => !o.started && !s.locked (2 * g + o.lane)

/-- BUSY and QUEUED of the group follow its list. -/
def State.showBusy (s : State) (g : Nat) : State :=
  (s.setFlag EQP_OP_STATUS.BUSY g (!(s.grpOf g).ops.isEmpty)).setFlag EQP_OP_STATUS.QUEUED g (s.opWaits g (s.grpOf g).ops)

/-- The list heads with an operation in progress on lane `l`. -/
def opsAct (l : Nat) : List PoolOp → Bool
  | [] => false
  | o :: _ => o.started && (o.lane = l || o.op = Pool.FUSE || o.op = Pool.UNFUSE)

/-- The list heads with an operation that ramps down on lane `l`. -/
def opsRamp (l : Nat) : List PoolOp → Bool
  | [] => false
  | o :: _ => o.started && o.lane = l && (o.op = Pool.REMOVE || o.op = Pool.UNFUSE && o.frames < 64)

/-- OP and RAMP of a lane follow its group's list. -/
def State.showLane (s : State) (g l : Nat) (ops : List PoolOp) : State :=
  (s.setFlag EQP_STATUS.OP (2 * g + l) (opsAct l ops)).setFlag EQP_STATUS.RAMP (2 * g + l) (opsRamp l ops)

theorem State.showOps_eq : s.showOps g = ((s.showBusy g).showLane g 0 (s.grpOf g).ops).showLane g 1 (s.grpOf g).ops := by
  unfold State.showOps State.each State.showBusy
  cases (s.grpOf g).ops <;> rfl

theorem showOps_keeps : Keeps [(.EQP_OP_STATUS, g), (.EQP_STATUS, 2 * g), (.EQP_STATUS, 2 * g + 1)] s (s.showOps g) := by
  have h : Frame (fun r i => (r, i) ∈ [(Reg.EQP_OP_STATUS, g), (.EQP_STATUS, 2 * g), (.EQP_STATUS, 2 * g + 1)]) s s := .refl s
  rw [State.showOps_eq]
  exact h.setFlag.setFlag.setFlag.setFlag.setFlag.setFlag

@[simp] theorem State.showOps_grp : (s.showOps g).grp = s.grp := by
  rw [State.showOps_eq]
  simp [State.showLane, State.showBusy]

@[simp] theorem State.showOps_recorder : (s.showOps g).recorder = s.recorder := by
  rw [State.showOps_eq]
  simp [State.showLane, State.showBusy]

theorem reg_showOps_opStatus (i : Nat) : (s.showOps g).reg .EQP_OP_STATUS i = (s.showBusy g).reg .EQP_OP_STATUS i := by
  rw [State.showOps_eq]
  simp (disch := decide) [State.showLane]

theorem State.flag_busy_showOps : (s.showOps g).flag EQP_OP_STATUS.BUSY g = !(s.grpOf g).ops.isEmpty := by
  rw [State.flag_congr (reg_showOps_opStatus s g g)]
  simp (disch := decide) [State.showBusy]

theorem State.flag_queued_showOps : (s.showOps g).flag EQP_OP_STATUS.QUEUED g = s.opWaits g (s.grpOf g).ops := by
  rw [State.flag_congr (reg_showOps_opStatus s g g)]
  simp (disch := decide) [State.showBusy]

theorem State.fld_source_showOps (i : Nat) : (s.showOps g).fld EQP_OP_STATUS.SOURCE i = s.fld EQP_OP_STATUS.SOURCE i := by
  rw [State.fld_congr (reg_showOps_opStatus s g i)]
  simp (disch := decide) [State.showBusy]

/-! ### An operation taken -/

section Take
variable (src : Nat) (f : Nat → List PoolOp → List PoolOp)

theorem State.grpOf_takeOp : (((s.takeOp g src f).grpOf g).ops) = f (s.grpOf g).opSeq (s.grpOf g).ops := by
  have h : (s.takeOp g src f).grp = (s.modGrp g fun x => { x with ops := f x.opSeq x.ops, opSeq := x.opSeq + 1 }).grp := by
    rw [State.takeOp, State.showOps_grp]
    rfl
  rw [State.grpOf, h, ← State.grpOf, State.grpOf_modGrp_same]

theorem takeOp_keeps : Keeps [(.EQP_OP_STATUS, g), (.EQP_STATUS, 2 * g), (.EQP_STATUS, 2 * g + 1)] s (s.takeOp g src f) := by
  have h : Frame (fun r i => (r, i) ∈ [(Reg.EQP_OP_STATUS, g), (.EQP_STATUS, 2 * g), (.EQP_STATUS, 2 * g + 1)]) s s := .refl s
  exact h.modGrp.setFld.trans (showOps_keeps _ g)

/-- The list of the group after it has taken an operation. -/
theorem State.takeOp_busy : (s.takeOp g src f).flag EQP_OP_STATUS.BUSY g = !(f (s.grpOf g).opSeq (s.grpOf g).ops).isEmpty := by
  rw [State.takeOp, State.flag_busy_showOps, State.grpOf, State.setFld_grp, ← State.grpOf, State.grpOf_modGrp_same]

theorem State.takeOp_queued : (s.takeOp g src f).flag EQP_OP_STATUS.QUEUED g = s.opWaits g (f (s.grpOf g).opSeq (s.grpOf g).ops) := by
  rw [State.takeOp, State.flag_queued_showOps, State.grpOf, State.setFld_grp, ← State.grpOf, State.grpOf_modGrp_same]
  unfold State.opWaits State.locked
  simp (disch := decide)

theorem State.takeOp_source (h : src < 8) : (s.takeOp g src f).fld EQP_OP_STATUS.SOURCE g = src := by
  rw [State.takeOp, State.fld_source_showOps]
  simpa (disch := decide) using h

end Take

/-! ### Requests -/

/-- A request that nothing speaks against is taken as the group's one operation. -/
theorem State.requestOp_accepted {s : State} {g : Nat} {o : PoolOp} (hsource : o.source ≠ 1) (hidle : s.opsShut g = false)
    (href : s.refusal g o = none) : s.requestOp g o = s.takeOp g o.source fun id _ => [{ o with id := id }] := by
  unfold State.requestOp
  simp [hsource, hidle, href]

/-- A relief operation joins the list whatever it holds. -/
theorem State.requestOp_relief {s : State} {g : Nat} {o : PoolOp} (hsource : o.source = 1) :
    s.requestOp g o = s.takeOp g 1 fun id ops => insertRelief { o with id := id } ops := by
  unfold State.requestOp
  simp [hsource]

theorem insertRelief_ne_nil (o : PoolOp) (ops : List PoolOp) : insertRelief o ops ≠ [] := by
  cases ops with
  | nil => simp [insertRelief]
  | cons p ps =>
    rw [insertRelief]
    split <;> simp

/-- The refusal of an operation looks at no command register, and not at its number. -/
theorem State.refusal_plainWrite (g v : Nat) (o : PoolOp) : (plainWrite .EQP_OP_CMD g v s).refusal g o = s.refusal g o := by
  have hunit : ∀ u, (plainWrite .EQP_OP_CMD g v s).unitState g u = s.unitState g u := fun u => by
    unfold State.unitState unitField
    split <;> simp (disch := decide)
  unfold State.refusal State.targetSlice State.freeUnit
  simp (disch := decide) only [hunit, State.slices, State.cursor, State.det, State.lowestSlice, State.sliceState, State.poolHold,
    State.lfecHold, State.fld_plainWrite_other, State.flag_plainWrite_other]
  rfl


theorem State.opsShut_plainWrite (g v : Nat) : (plainWrite .EQP_OP_CMD g v s).opsShut g = s.opsShut g := by
  have hof : (plainWrite .EQP_OP_CMD g v s).grpOf g = s.grpOf g := rfl
  simp (disch := decide) only [State.opsShut, State.headless, State.groupClosing, hof, State.fld_plainWrite_other, State.flag_plainWrite_other]

/-- What the command register is written with names the operation. -/
theorem fieldOf_opCmdValue {op l pos dest : Nat} (hop : op < 8) (hl : l < 2) (hpos : pos < 16) (hdest : dest < 16) :
    fieldOf (opCmdValue op l pos dest) EQP_OP_CMD.GO = 1 ∧ fieldOf (opCmdValue op l pos dest) EQP_OP_CMD.OP = op ∧
    fieldOf (opCmdValue op l pos dest) EQP_OP_CMD.LANE = l ∧ fieldOf (opCmdValue op l pos dest) EQP_OP_CMD.POS = pos ∧
    fieldOf (opCmdValue op l pos dest) EQP_OP_CMD.TO = dest := by
  simp only [fieldOf, opCmdValue, Field.width, Nat.shiftRight_eq_div_pow]
  omega

/-- A request through the command register sets the register and is the request of an operation. -/
theorem wrEqpOpCmd_go {op l pos dest : Nat} (hop : op < 8) (hl : l < 2) (hpos : pos < 16) (hdest : dest < 16) :
    (wrEqpOpCmd g (opCmdValue op l pos dest) s).1 =
      (plainWrite .EQP_OP_CMD g (opCmdValue op l pos dest) s).requestOp g { op := op, lane := l, pos := pos, dest := dest } := by
  obtain ⟨hgo, hfop, hfl, hfpos, hfdest⟩ := fieldOf_opCmdValue hop hl hpos hdest
  unfold wrEqpOpCmd
  simp [hgo, hfop, hfl, hfpos, hfdest]

/-! ### What a request leaves -/

/-- The group's one operation waits, as the statement says it. -/
def OpWaits (s : State) (g : Nat) (o : PoolOp) (t : State) : Prop :=
  (t.grpOf g).ops = [o] ∧ t.flag EQP_OP_STATUS.BUSY g = true ∧ t.flag EQP_OP_STATUS.QUEUED g = !s.locked (2 * g + o.lane) ∧
    t.fld EQP_OP_STATUS.SOURCE g = o.source ∧
    Keeps [(.EQP_OP_CMD, g), (.EQP_OP_STATUS, g), (.EQP_STATUS, 2 * g), (.EQP_STATUS, 2 * g + 1)] s t

/-- An operation that nothing speaks against waits at its group, whatever of the command register has changed before. -/
theorem opWaits_of_request {s u : State} {g : Nat} {o : PoolOp} (hu : Keeps [(.EQP_OP_CMD, g)] s u) (hgrp : u.grp = s.grp)
    (hsource : o.source ≠ 1) (hsource' : o.source < 8) (hnew : o.started = false) (hidle : u.opsShut g = false) (href : u.refusal g o = none) :
    OpWaits s g { o with id := (s.grpOf g).opSeq } (u.requestOp g o) := by
  have hof : u.grpOf g = s.grpOf g := by rw [State.grpOf, hgrp, State.grpOf]
  have hlocked : u.locked (2 * g + o.lane) = s.locked (2 * g + o.lane) := by
    rw [State.locked, State.locked, Frame.fld_eq (Frame.of_keeps hu) (by simp)]
  rw [State.requestOp_accepted hsource hidle href]
  refine ⟨by rw [State.grpOf_takeOp, hof], by rw [State.takeOp_busy]; rfl, ?_, State.takeOp_source u g _ _ hsource', ?_⟩
  · rw [State.takeOp_queued]
    simp [State.opWaits, hnew, hlocked]
  · exact hu.trans (takeOp_keeps u g _ _)

/-- A relief operation joins the list of its group. -/
theorem opJoins_of_relief (s : State) (g : Nat) {o : PoolOp} (hsource : o.source = 1) :
    ((s.requestOp g o).grpOf g).ops = insertRelief { o with id := (s.grpOf g).opSeq } (s.grpOf g).ops ∧
    (s.requestOp g o).flag EQP_OP_STATUS.BUSY g = true ∧
    Keeps [(.EQP_OP_CMD, g), (.EQP_OP_STATUS, g), (.EQP_STATUS, 2 * g), (.EQP_STATUS, 2 * g + 1)] s (s.requestOp g o) := by
  rw [State.requestOp_relief hsource]
  refine ⟨State.grpOf_takeOp _ _ _ _, ?_, Frame.mono (Frame.of_keeps (takeOp_keeps s g _ _)) fun _ _ h => List.mem_cons_of_mem _ h⟩
  rw [State.takeOp_busy, List.isEmpty_eq_false_iff.2 (insertRelief_ne_nil _ _)]
  rfl

theorem opsShut_of_idle {s : State} {g : Nat} (h : (s.grpOf g).ops = [] ∧ s.headless = false ∧ s.groupClosing g = false) :
    s.opsShut g = false := by
  obtain ⟨hops, hhead, hclosing⟩ := h
  simp [State.opsShut, hops, hhead, hclosing]

/-- What each of the seven operations does for each of the three sources that request it. -/
theorem poolRequest_does (s : State) (p : Path) (g : Grp) (l : Fin 2) {op pos dest : Nat} (hop : op < 8) (hpos : pos < 16) (hdest : dest < 16) :
    let want := fun (source : Nat) =>
      ({ op := op, lane := l, pos := pos, dest := dest, source := source, id := (s.grpOf g).opSeq } : PoolOp)
    let idle := (s.grpOf g).ops = [] ∧ s.headless = false ∧ s.groupClosing g = false
    (Accepts s p .EQP_OP_CMD g → idle → s.refusal g (want 0) = none →
      ∃ t, poolRequest (.software p) g op l pos dest s = .next t ∧ OpWaits s g (want 0) t) ∧
    (idle → s.refusal g (want 2) = none → ∃ t, poolRequest .selfTest g op l pos dest s = .next t ∧ OpWaits s g (want 2) t) ∧
    ∃ t, poolRequest .relief g op l pos dest s = .next t ∧ (t.grpOf g).ops = insertRelief (want 1) (s.grpOf g).ops ∧
      t.flag EQP_OP_STATUS.BUSY g = true ∧
      Keeps [(.EQP_OP_CMD, g), (.EQP_OP_STATUS, g), (.EQP_STATUS, 2 * g), (.EQP_STATUS, 2 * g + 1)] s t := by
  intro want idle
  refine ⟨fun hacc hidle href => ⟨_, writeCommand_accepted _ hacc, ?_⟩, fun hidle href => ⟨_, rfl, ?_⟩, ⟨_, rfl, opJoins_of_relief s g rfl⟩⟩
  · rw [wrEqpOpCmd_go s g hop l.isLt hpos hdest]
    refine opWaits_of_request (o := { op := op, lane := l, pos := pos, dest := dest }) (keeps_plainWrite s .EQP_OP_CMD g _) rfl
      (show 0 ≠ 1 by decide) (show 0 < 8 by decide) rfl ?_ ?_
    · rw [State.opsShut_plainWrite, opsShut_of_idle hidle]
    · rw [State.refusal_plainWrite]
      exact href
  · exact opWaits_of_request (o := { op := op, lane := l, pos := pos, dest := dest, source := 2 }) (Frame.refl s) rfl (show 2 ≠ 1 by decide)
      (show 2 < 8 by decide) rfl (opsShut_of_idle hidle) href

end Sys2Proof.Machine

namespace Sys2Proof.Proofs
open Sys2Proof Sys2Proof.Machine Sys2Proof.Claims
set_option Elab.async false

/-- Settles O2: the seven commands are one request with their own numbers. -/
theorem poolRequests : Obligations.PoolRequests := by
  intro s p g l pos dest
  exact ⟨poolRequest_does s p g l (op := Pool.MIGRATE) (by decide) pos.isLt dest.isLt,
    poolRequest_does s p g l (op := Pool.ADD) (by decide) (by decide) (by decide),
    poolRequest_does s p g l (op := Pool.REMOVE) (by decide) (by decide) (by decide),
    poolRequest_does s p g l (op := Pool.FUSE) (by decide) (by decide) (by decide),
    poolRequest_does s p g l (op := Pool.UNFUSE) (by decide) (by decide) (by decide),
    poolRequest_does s p g l (op := Pool.TO_DFE) (by decide) (by decide) (by decide),
    poolRequest_does s p g l (op := Pool.TO_MLSE) (by decide) (by decide) (by decide)⟩

end Sys2Proof.Proofs
end

section
/-! SUPPORT. What the sequencer of the equaliser pool does to slices, units and coefficients (R110 to R119). -/
namespace Sys2Proof.Machine
open Sys2Proof Sys2Proof.Claims
set_option Elab.async false

/-! ### Changes of the allocation -/

/-- The registers of the allocation: slices, units, positions, detectors, taps. -/
abbrev allocKinds : List Reg := [.EQP_POOL, .EQP_SLICE_STATE, .EQP_ALLOC, .EQP_POS, .EQP_COEF, .EQP_POST, .EQP_TARGET]

/-- The allocation may change; the operations of the groups, the recorder and the clock stand. -/
structure Allocates (s t : State) : Prop where
  frame : KeepsKinds allocKinds s t
  recorder : t.recorder = s.recorder
  time : t.time = s.time
  ops : ∀ i, (t.grpOf i).ops = (s.grpOf i).ops
  follow : ∀ i, (t.grpOf i).follow = (s.grpOf i).follow

namespace Allocates
variable {s u t : State}

theorem refl (s : State) : Allocates s s := ⟨Frame.refl s, rfl, rfl, fun _ => rfl, fun _ => rfl⟩

theorem trans (h : Allocates s u) (h' : Allocates u t) : Allocates s t where
  frame := Frame.trans (Frame.of_kinds h.frame) (Frame.of_kinds h'.frame)
  recorder := h'.recorder.trans h.recorder
  time := h'.time.trans h.time
  ops i := (h'.ops i).trans (h.ops i)
  follow i := (h'.follow i).trans (h.follow i)

theorem when {c : Prop} {_ : Decidable c} {a : State} (h : Allocates s u) (ha : Allocates s u → Allocates s a) :
    Allocates s (if c then a else u) := by
  split
  · exact ha h
  · exact h

theorem setFld {f : Field} {i x : Nat} (h : Allocates s u) (hf : f.reg ∈ allocKinds := by decide) : Allocates s (u.setFld f i x) :=
  h.trans ⟨(Frame.refl u).setFld hf, rfl, rfl, fun _ => rfl, fun _ => rfl⟩

theorem resetRange {r : Reg} {lo n : Nat} (h : Allocates s u) (hr : r ∈ allocKinds := by decide) : Allocates s (u.resetRange r lo n) := by
  unfold State.resetRange
  induction List.range n generalizing u with
  | nil => exact h
  | cons k ks ih => exact ih (h.trans ⟨(Frame.refl u).resetReg hr, rfl, rfl, fun _ => rfl, fun _ => rfl⟩)

theorem modEqp {n : Nat} {f : EqX → EqX} (h : Allocates s u) : Allocates s (u.modEqp n f) :=
  h.trans ⟨(Frame.refl u).modEqp, rfl, rfl, fun _ => rfl, fun _ => rfl⟩

theorem modGrp {g : Nat} {f : GrpX → GrpX} (h : Allocates s u) (hops : ∀ x, (f x).ops = x.ops := by exact fun _ => rfl)
    (hfollow : ∀ x, (f x).follow = x.follow := by exact fun _ => rfl) : Allocates s (u.modGrp g f) := by
  refine h.trans ⟨(Frame.refl u).modGrp, rfl, rfl, fun i => ?_, fun i => ?_⟩
  · by_cases hi : i = g
    · rw [hi, State.grpOf_modGrp_same, hops]
    · rw [State.grpOf_modGrp_other _ _ hi]
  · by_cases hi : i = g
    · rw [hi, State.grpOf_modGrp_same, hfollow]
    · rw [State.grpOf_modGrp_other _ _ hi]

/-! ### Slices and units -/

theorem setSlice {g k st : Nat} (h : Allocates s u) : Allocates s (u.setSlice g k st) := by
  have hcounter : ∀ st, (sliceCounter st).reg ∈ allocKinds := fun st => by
    unfold sliceCounter
    split
    · decide
    split
    · decide
    split <;> decide
  unfold State.setSlice
  dsimp only
  split
  · exact h
  · exact (h.setFld.setFld (hcounter _)).setFld (hcounter _)

theorem reg_unitField (k : Nat) : (unitField k).reg ∈ allocKinds := by
  unfold unitField
  split <;> decide

theorem takeUnit {g k l : Nat} (h : Allocates s u) : Allocates s (u.takeUnit g k l) := by
  unfold State.takeUnit
  exact (h.setFld (reg_unitField k)).modGrp

theorem dropUnit {g k : Nat} (h : Allocates s u) : Allocates s (u.dropUnit g k) := by
  unfold State.dropUnit
  exact (h.when fun h => h.setFld (reg_unitField k)).modGrp

theorem dropUnits {g l : Nat} (h : Allocates s u) : Allocates s (u.dropUnits g l) := by
  unfold State.dropUnits
  exact State.each_keeps (fun _ _ h => h.when fun h => h.dropUnit) _ h

/-! ### Lanes -/

theorem showTaps {n : Nat} (h : Allocates s u) : Allocates s (u.showTaps n) := by
  unfold State.showTaps
  exact h.setFld.setFld.setFld.setFld

theorem modCoefs {n : Nat} {f : EqCoefs → EqCoefs} (h : Allocates s u) : Allocates s (u.modCoefs n f) := by
  unfold State.modCoefs
  exact h.modEqp.showTaps

theorem setDet {n d : Nat} (h : Allocates s u) : Allocates s (u.setDet n d) := by
  unfold State.setDet
  exact h.setFld.showTaps

theorem toDfe {n : Nat} (h : Allocates s u) : Allocates s (u.toDfe n) := by
  unfold State.toDfe
  exact h.dropUnits.modCoefs.setDet

theorem setPos {n p k : Nat} (h : Allocates s u) : Allocates s (u.setPos n p k) := by
  unfold State.setPos
  exact h.setFld.setFld

theorem addPos {n k : Nat} (h : Allocates s u) : Allocates s (u.addPos n k) := by
  unfold State.addPos
  exact h.setSlice.setPos.setFld.modCoefs

theorem removePos {n : Nat} (h : Allocates s u) : Allocates s (u.removePos n) := by
  unfold State.removePos
  exact (h.resetRange.when fun h => h.setSlice).setPos.setFld.modCoefs

theorem testSlice {g k : Nat} {m : Option Nat} {e : Bool} (h : Allocates s u) : Allocates s (u.testSlice g k m e) := by
  unfold State.testSlice
  exact h.setSlice.modGrp

/-! ### Steps of an operation -/

theorem unfuseSwitch {g : Nat} {o : PoolOp} (h : Allocates s u) : Allocates s (u.unfuseSwitch g o) := by
  unfold State.unfuseSwitch
  exact h.modCoefs.setDet.takeUnit.takeUnit.setFld

theorem migrateSwitch {g : Nat} {o : PoolOp} (h : Allocates s u) : Allocates s (u.migrateSwitch g o) := by
  unfold State.migrateSwitch
  exact h.setPos

theorem rampTo {n k : Nat} {o : PoolOp} (h : Allocates s u) : Allocates s (u.rampTo n o k) := by
  unfold State.rampTo
  exact h.modCoefs

theorem opFinish {g : Nat} {o : PoolOp} (h : Allocates s u) : Allocates s (u.opFinish g o) := by
  unfold State.opFinish
  dsimp only
  split
  · split
    · exact h.testSlice
    · exact h.setSlice
  split
  · exact h.removePos
  split
  · exact h.takeUnit.takeUnit.modCoefs.setDet.setFld
  split
  · exact h.setDet
  split
  · exact h.setDet
  · exact h

/-- The start of an operation changes the allocation; the operation keeps what it is and goes on as started. -/
theorem opBegin {g : Nat} {o : PoolOp} (h : Allocates s u) : Allocates s (u.opBegin g o).1 ∧ (u.opBegin g o).2.started = true ∧
    (u.opBegin g o).2.op = o.op ∧ (u.opBegin g o).2.id = o.id ∧ (u.opBegin g o).2.frames = o.frames ∧ (u.opBegin g o).2.lane = o.lane ∧
    (u.opBegin g o).2.source = o.source := by
  unfold State.opBegin
  dsimp only
  split
  · split
    · exact ⟨h.setSlice, rfl, rfl, rfl, rfl, rfl, rfl⟩
    · exact ⟨h, rfl, rfl, rfl, rfl, rfl, rfl⟩
  split
  · split
    · exact ⟨h.addPos, rfl, rfl, rfl, rfl, rfl, rfl⟩
    · exact ⟨h, rfl, rfl, rfl, rfl, rfl, rfl⟩
  split
  · exact ⟨h, rfl, rfl, rfl, rfl, rfl, rfl⟩
  split
  · refine ⟨?_, rfl, rfl, rfl, rfl, rfl, rfl⟩
    split
    · exact h
    · exact h.toDfe
  split
  · exact ⟨h, rfl, rfl, rfl, rfl, rfl, rfl⟩
  split
  · exact ⟨h.toDfe, rfl, rfl, rfl, rfl, rfl, rfl⟩
  split
  · exact ⟨h.takeUnit, rfl, rfl, rfl, rfl, rfl, rfl⟩
  · exact ⟨h, rfl, rfl, rfl, rfl, rfl, rfl⟩

end Allocates

end Sys2Proof.Machine
end

section
/-! SUPPORT. The start, the frames and the end of a pool operation (R110 to R115), the audit of the pool (R119, R120), and O3. -/
namespace Sys2Proof.Machine
open Sys2Proof Sys2Proof.Claims
set_option Elab.async false

/-! ### The end of an operation -/

/-- The kinds of register that the sequencer may change. -/
abbrev seqKinds : List Reg := [.EQP_POOL, .EQP_SLICE_STATE, .EQP_ALLOC, .EQP_POS, .EQP_COEF, .EQP_STATUS, .EQP_POST, .EQP_TARGET,
  .EQP_OP_STATUS, .EQP_OP_OK, .EQP_OP_FAIL, .EVL_DROPPED]

/-- The count of an operation's end: OK, or failed where it ended MISMATCH or ABORTED. -/
def State.countEnd (s : State) (g result : Nat) : State :=
  if result = PoolResult.OK then s.count EQP_OP_OK.COUNT g
  else if result = PoolResult.MISMATCH ∨ result = PoolResult.ABORTED then s.count EQP_OP_FAIL.COUNT g else s

/-- What the end of an operation leaves of the group: it is off the list, counted, and noted where it is a relief step done. -/
def State.endNote (s : State) (g : Nat) (o : PoolOp) (result : Nat) : State :=
  let s := (s.modGrp g fun x => { x with ops := x.ops.filter (·.id ≠ o.id) }).countEnd g result
  if o.source = 1 ∧ result = PoolResult.OK ∧ !o.undo then
    s.modGrp g fun x => { x with reliefDone := x.reliefDone ++ [(o.step, o.op, o.lane)] } else s

/-- Slow AGC of the lanes in an operation waits for the first superframe after it (R70). -/
def State.holdAgc (s : State) (g : Nat) : State :=
  s.each [2 * g, 2 * g + 1] fun n s => if s.opActs n then s.modLrx n fun x => { x with slowHold := true } else s

theorem State.endOp_eq (s : State) (g : Nat) (o : PoolOp) (result : Nat) : s.endOp g o result =
    (((((s.endNote g o result).opResult g result o.source).log Evt.EQP_OP Subj.GROUP g [o.op, 2 * g + o.lane, result, o.source]).holdAgc
      g).showOps g).runFollow g := rfl

/-- Where no MIGRATE follows, none is requested. -/
theorem State.runFollow_nil {s : State} {g : Nat} (h : (s.grpOf g).follow = []) : s.runFollow g = s := by
  unfold State.runFollow
  rw [h]

theorem State.holdAgc_eq (s : State) (g : Nat) : ∃ x, s.holdAgc g = { s with lrx := x } := by
  unfold State.holdAgc State.each
  simp only [List.foldl_cons, List.foldl_nil]
  split <;> split <;> exact ⟨_, rfl⟩

section EndOp
variable (s : State) (g : Nat) (o : PoolOp) (result : Nat)

theorem State.countEnd_eq : ∃ m, s.countEnd g result = { s with regs := m } := by
  unfold State.countEnd
  split
  · exact ⟨_, rfl⟩
  split
  · exact ⟨_, rfl⟩
  · exact ⟨_, rfl⟩

theorem State.endNote_recorder : (s.endNote g o result).recorder = s.recorder := by
  obtain ⟨m, h⟩ := (s.modGrp g fun x => { x with ops := x.ops.filter (·.id ≠ o.id) }).countEnd_eq g result
  unfold State.endNote
  rw [h]
  dsimp only
  split <;> rfl

theorem State.endNote_time : (s.endNote g o result).time = s.time := by
  obtain ⟨m, h⟩ := (s.modGrp g fun x => { x with ops := x.ops.filter (·.id ≠ o.id) }).countEnd_eq g result
  unfold State.endNote
  rw [h]
  dsimp only
  split <;> rfl

theorem State.endNote_grp : ((s.endNote g o result).grpOf g).ops = ((s.grpOf g).ops.filter fun q => q.id ≠ o.id) ∧
    ((s.endNote g o result).grpOf g).follow = (s.grpOf g).follow := by
  obtain ⟨m, h⟩ := (s.modGrp g fun x => { x with ops := x.ops.filter (·.id ≠ o.id) }).countEnd_eq g result
  have hof : ((s.modGrp g fun x => { x with ops := x.ops.filter (·.id ≠ o.id) }).countEnd g result).grpOf g =
      (s.modGrp g fun x => { x with ops := x.ops.filter (·.id ≠ o.id) }).grpOf g := by rw [h]; rfl
  unfold State.endNote
  dsimp only
  split
  · rw [State.grpOf_modGrp_same, hof, State.grpOf_modGrp_same]
    exact ⟨rfl, rfl⟩
  · rw [hof, State.grpOf_modGrp_same]
    exact ⟨rfl, rfl⟩

theorem endNote_frame : KeepsKinds [.EQP_OP_OK, .EQP_OP_FAIL] s (s.endNote g o result) := by
  have h : Frame (fun r _ => r ∈ [Reg.EQP_OP_OK, .EQP_OP_FAIL]) s s := .refl s
  have hcount : Frame (fun r _ => r ∈ [Reg.EQP_OP_OK, .EQP_OP_FAIL]) s
      ((s.modGrp g fun x => { x with ops := x.ops.filter (·.id ≠ o.id) }).countEnd g result) :=
    Frame.ite (fun _ => h.modGrp.count) fun _ => Frame.ite (fun _ => h.modGrp.count) fun _ => h.modGrp
  unfold State.endNote
  exact hcount.when fun h => h.modGrp

theorem endNote_ok : (s.endNote g o PoolResult.OK).fld EQP_OP_OK.COUNT g = (s.fld EQP_OP_OK.COUNT g + 1) % 2 ^ EQP_OP_OK.COUNT.width := by
  have h : ((s.modGrp g fun x => { x with ops := x.ops.filter (·.id ≠ o.id) }).countEnd g PoolResult.OK).fld EQP_OP_OK.COUNT g =
      (s.fld EQP_OP_OK.COUNT g + 1) % 2 ^ EQP_OP_OK.COUNT.width := State.fld_count_same _ _ _ (by decide)
  unfold State.endNote
  dsimp only
  split <;> exact h

theorem endNote_mismatch : (s.endNote g o PoolResult.MISMATCH).fld EQP_OP_FAIL.COUNT g =
    (s.fld EQP_OP_FAIL.COUNT g + 1) % 2 ^ EQP_OP_FAIL.COUNT.width := by
  have h : ((s.modGrp g fun x => { x with ops := x.ops.filter (·.id ≠ o.id) }).countEnd g PoolResult.MISMATCH).fld EQP_OP_FAIL.COUNT g =
      (s.fld EQP_OP_FAIL.COUNT g + 1) % 2 ^ EQP_OP_FAIL.COUNT.width := State.fld_count_same _ _ _ (by decide)
  unfold State.endNote
  dsimp only
  split <;> exact h

/-- The state after the end of an operation that no MIGRATE follows. -/
def State.endShown (s : State) (g : Nat) (o : PoolOp) (result : Nat) : State :=
  ((((s.endNote g o result).opResult g result o.source).log Evt.EQP_OP Subj.GROUP g [o.op, 2 * g + o.lane, result, o.source]).holdAgc
    g).showOps g

theorem State.endShown_grp : (s.endShown g o result).grpOf g = (s.endNote g o result).grpOf g := by
  obtain ⟨x, hx⟩ := State.holdAgc_eq (((s.endNote g o result).opResult g result o.source).log Evt.EQP_OP Subj.GROUP g
    [o.op, 2 * g + o.lane, result, o.source]) g
  rw [State.endShown, State.grpOf, State.showOps_grp, hx, State.log, State.logAt_eq]
  rfl

theorem State.endOp_of_follow_nil (h : (s.grpOf g).follow = []) : s.endOp g o result = s.endShown g o result := by
  rw [State.endOp_eq, ← State.endShown, State.runFollow_nil]
  rw [State.endShown_grp, (State.endNote_grp s g o result).2, h]

theorem endShown_frame : KeepsKinds [.EQP_OP_OK, .EQP_OP_FAIL, .EQP_OP_STATUS, .EQP_STATUS, .EVL_DROPPED] s (s.endShown g o result) := by
  have h : Frame (fun r _ => r ∈ [Reg.EQP_OP_OK, .EQP_OP_FAIL, .EQP_OP_STATUS, .EQP_STATUS, .EVL_DROPPED]) s s := .refl s
  have h₁ := h.within (endNote_frame s g o result)
  have h₂ : Frame (fun r _ => r ∈ [Reg.EQP_OP_OK, .EQP_OP_FAIL, .EQP_OP_STATUS, .EQP_STATUS, .EVL_DROPPED]) s
    (((s.endNote g o result).opResult g result o.source).log Evt.EQP_OP Subj.GROUP g [o.op, 2 * g + o.lane, result, o.source]) :=
    h₁.setFld.setFld.log
  obtain ⟨x, hx⟩ := State.holdAgc_eq (((s.endNote g o result).opResult g result o.source).log Evt.EQP_OP Subj.GROUP g
    [o.op, 2 * g + o.lane, result, o.source]) g
  refine Frame.thenIn (u := (((s.endNote g o result).opResult g result o.source).log Evt.EQP_OP Subj.GROUP g
    [o.op, 2 * g + o.lane, result, o.source]).holdAgc g) ?_ (Frame.of_keeps (showOps_keeps _ g)) ?_
  · rw [hx]
    exact h₂.same
  · intro r i hr
    simp only [List.mem_cons, Prod.mk.injEq, List.not_mem_nil, or_false] at hr ⊢
    rcases hr with ⟨rfl, -⟩ | ⟨rfl, -⟩ | ⟨rfl, -⟩ <;> simp

/-- The registers of the operations' counts and results after the end of an operation, before they follow the group's list. -/
theorem State.fld_endShown {f : Field} (i : Nat) (hf : f.reg ≠ .EQP_STATUS) (hbusy : EQP_OP_STATUS.BUSY.apart f = true)
    (hqueued : EQP_OP_STATUS.QUEUED.apart f = true) (hdrop : EVL_DROPPED.COUNT.apart f = true) :
    (s.endShown g o result).fld f i = ((s.endNote g o result).opResult g result o.source).fld f i := by
  obtain ⟨x, hx⟩ := State.holdAgc_eq (((s.endNote g o result).opResult g result o.source).log Evt.EQP_OP Subj.GROUP g
    [o.op, 2 * g + o.lane, result, o.source]) g
  have hlog := State.fld_log_of_apart ((s.endNote g o result).opResult g result o.source) i Evt.EQP_OP Subj.GROUP g
    [o.op, 2 * g + o.lane, result, o.source] hdrop
  rw [State.endShown, hx, State.showOps_eq, State.showLane, State.showLane, State.showBusy]
  have hne : ∀ r : Field, r.reg = .EQP_STATUS → r.apart f = true := fun r hr => by
    unfold Field.apart
    rw [hr, decide_eq_true hf.symm]
    rfl
  simp only [State.fld_setFlag_of_apart _ _ _ _ (hne EQP_STATUS.OP rfl), State.fld_setFlag_of_apart _ _ _ _ (hne EQP_STATUS.RAMP rfl),
    State.fld_setFlag_of_apart _ _ _ _ hbusy, State.fld_setFlag_of_apart _ _ _ _ hqueued]
  exact hlog

theorem endShown_result (h : result < 16) : (s.endShown g o result).fld EQP_OP_STATUS.RESULT g = result := by
  rw [State.fld_endShown _ _ _ _ _ (by decide) (by decide) (by decide) (by decide), State.opResult]
  simpa (disch := decide) using h

/-- The end of an operation is recorded (R420). -/
theorem endShown_logged (hroom : Room s) :
    Logged Evt.EQP_OP Subj.GROUP g [o.op, 2 * g + o.lane, result, o.source] s (s.endShown g o result) := by
  have hrec : ((s.endNote g o result).opResult g result o.source).recorder = s.recorder := State.endNote_recorder s g o result
  have hnow : ((s.endNote g o result).opResult g result o.source).now = s.now := by
    rw [State.now, State.now]
    exact congrArg (fun x : TimeX => ts96Of x.now16) (State.endNote_time s g o result)
  have hlog := logged_log (s := (s.endNote g o result).opResult g result o.source) (by rw [Room, hrec]; exact hroom) Evt.EQP_OP Subj.GROUP g
    [o.op, 2 * g + o.lane, result, o.source]
  obtain ⟨x, hx⟩ := State.holdAgc_eq (((s.endNote g o result).opResult g result o.source).log Evt.EQP_OP Subj.GROUP g
    [o.op, 2 * g + o.lane, result, o.source]) g
  rw [Logged, hnow] at hlog
  exact hlog.beside hrec (by rw [State.endShown, hx, State.showOps_recorder])

end EndOp

/-- What the end of an operation leaves, whatever of the allocation has changed before it (R110, R114). -/
theorem endOp_ended {s u : State} {g : Nat} {o : PoolOp} {result : Nat} {f : Field} {rest : List PoolOp}
    (hf : (f = EQP_OP_OK.COUNT ∧ result = PoolResult.OK) ∨ (f = EQP_OP_FAIL.COUNT ∧ result = PoolResult.MISMATCH))
    (hframe : KeepsKinds allocKinds s u) (hrec : u.recorder = s.recorder) (htime : u.time = s.time)
    (hops : ((u.grpOf g).ops.filter fun q => q.id ≠ o.id) = rest) (hfollow : (u.grpOf g).follow = []) :
    let t := u.endOp g o result
    KeepsKinds seqKinds s t ∧ (t.grpOf g).ops = rest ∧ t.fld EQP_OP_STATUS.RESULT g = result ∧
    t.fld f g = (s.fld f g + 1) % 2 ^ f.width ∧
    (Room s → Logged Evt.EQP_OP Subj.GROUP g [o.op, 2 * g + o.lane, result, o.source] s t) := by
  intro t
  have ht : t = u.endShown g o result := State.endOp_of_follow_nil u g o result hfollow
  have hnow : u.now = s.now := by rw [State.now, State.now, htime]
  have hcount : ∀ f : Field, f.reg ∉ allocKinds → u.fld f g = s.fld f g := fun f hf => Frame.fld_eq (Frame.of_kinds hframe) hf
  rw [ht]
  refine ⟨?_, ?_, endShown_result u g o result ?_, ?_, fun hroom => ?_⟩
  · exact Frame.within (Frame.within (.refl s) hframe) (endShown_frame u g o result)
  · rw [State.endShown_grp, (State.endNote_grp u g o result).1, hops]
  · rcases hf with ⟨-, rfl⟩ | ⟨-, rfl⟩ <;> decide
  · rcases hf with ⟨rfl, rfl⟩ | ⟨rfl, rfl⟩
    · rw [State.fld_endShown _ _ _ _ _ (by decide) (by decide) (by decide) (by decide), ← hcount EQP_OP_OK.COUNT (by decide), ← endNote_ok u g o,
        State.opResult]
      simp (disch := decide)
    · rw [State.fld_endShown _ _ _ _ _ (by decide) (by decide) (by decide) (by decide), ← hcount EQP_OP_FAIL.COUNT (by decide),
        ← endNote_mismatch u g o, State.opResult]
      simp (disch := decide)
  · have h := endShown_logged u g o result (by rw [Room, hrec]; exact hroom)
    rw [Logged, hnow] at h
    exact h.beside hrec

/-! ### An operation in its course -/

/-- The front operation of the group becomes another. -/
theorem State.modOp_front {s : State} {g : Nat} {o o' : PoolOp} {rest : List PoolOp} (h : (s.grpOf g).ops = o :: rest) :
    ((s.modOp g fun _ => o').grpOf g).ops = o' :: rest ∧ ((s.modOp g fun _ => o').grpOf g).follow = (s.grpOf g).follow := by
  unfold State.modOp
  rw [State.grpOf_modGrp_same, h]
  exact ⟨rfl, rfl⟩

theorem filter_front {o o' : PoolOp} (rest : List PoolOp) (h : o'.id = o.id) :
    ((o' :: rest).filter fun q => q.id ≠ o.id) = rest.filter fun q => q.id ≠ o.id := by
  simp [h]

/-- An operation out of frames ends OK. -/
theorem finishOp_ended {s u : State} {g : Nat} {o : PoolOp} {rest : List PoolOp} (hframe : KeepsKinds allocKinds s u)
    (hrec : u.recorder = s.recorder) (htime : u.time = s.time) (hops : ((u.grpOf g).ops.filter fun q => q.id ≠ o.id) = rest)
    (hfollow : (u.grpOf g).follow = []) :
    let t := u.finishOp g o
    KeepsKinds seqKinds s t ∧ (t.grpOf g).ops = rest ∧ t.fld EQP_OP_STATUS.RESULT g = PoolResult.OK ∧
    t.fld EQP_OP_OK.COUNT g = (s.fld EQP_OP_OK.COUNT g + 1) % 2 ^ EQP_OP_OK.COUNT.width ∧
    (Room s → Logged Evt.EQP_OP Subj.GROUP g [o.op, 2 * g + o.lane, PoolResult.OK, o.source] s t) := by
  have hfin := Allocates.opFinish (g := g) (o := o) (.refl u)
  obtain ⟨hk, hl, hres, hcount, hlog⟩ := endOp_ended (s := s) (u := u.opFinish g o) (o := o) (.inl ⟨rfl, rfl⟩)
    (Frame.trans (Frame.of_kinds hframe) (Frame.of_kinds hfin.frame)) (hfin.recorder.trans hrec) (hfin.time.trans htime)
    (by rw [hfin.ops, hops]) (by rw [hfin.follow, hfollow])
  intro t
  have ht : t = (u.opFinish g o).endOp g o PoolResult.OK ∨ ∃ f : GrpX → GrpX, (∀ x, (f x).ops = x.ops) ∧
      t = ((u.opFinish g o).endOp g o PoolResult.OK).modGrp g f := by
    by_cases hundo : o.undo = true
    · refine .inr ⟨_, ?_, if_pos hundo⟩
      exact fun _ => rfl
    · exact .inl (if_neg hundo)
  rcases ht with ht | ⟨f, hf, ht⟩ <;> rw [ht]
  · exact ⟨hk, hl, hres, hcount, hlog⟩
  · exact ⟨Frame.modGrp (Frame.of_kinds hk), by rw [State.grpOf_modGrp_same, hf, hl], hres, hcount, fun hroom => (hlog hroom).beside⟩

theorem State.fld_setFlag_index (s : State) {f g : Field} {i j : Nat} (b : Bool) (h : j ≠ i) : (s.setFlag f i b).fld g j = s.fld g j :=
  s.fld_setFld_index _ h

/-- OP of the lane whose operation is in progress. -/
theorem flag_op_showOps {s : State} {g : Nat} {o : PoolOp} {rest : List PoolOp} (h : (s.grpOf g).ops = o :: rest) (hstart : o.started = true)
    (hlane : o.lane < 2) : (s.showOps g).flag EQP_STATUS.OP (2 * g + o.lane) = true := by
  have hact : opsAct o.lane (o :: rest) = true := by simp [opsAct, hstart]
  rw [State.showOps_eq, h]
  rcases (show o.lane = 0 ∨ o.lane = 1 by omega) with hl | hl
  · rw [State.showLane, State.flag_setFlag_of_apart _ _ _ _ (by decide), State.flag_eq_of_fld (State.fld_setFlag_index _ _ (by omega)),
      State.showLane, State.flag_setFlag_of_apart _ _ _ _ (by decide), ← hl, State.flag_setFlag_eq _ _ _ (by decide), hact]
  · rw [State.showLane, State.flag_setFlag_of_apart _ _ _ _ (by decide), ← hl, State.flag_setFlag_eq _ _ _ (by decide), hact]

section Course
variable {s : State} {g : Nat} {o : PoolOp} {rest : List PoolOp} (hops : (s.grpOf g).ops = o :: rest)
include hops

theorem State.showOps_ops : ((s.showOps g).grpOf g).ops = o :: rest := by
  rw [State.grpOf, State.showOps_grp, ← State.grpOf, hops]

/-- An operation that nothing keeps from starting begins (R110). -/
theorem startOp_begins (hnew : o.started = false) (hskip : s.reliefSkips g o = false) (href : s.startRefusal g o = none)
    (htest : s.needsTested g o = none) :
    s.startOp g = if opFrames o.op = 0 then ((s.opBegin g o).1.modOp g fun _ => (s.opBegin g o).2).finishOp g (s.opBegin g o).2
      else ((s.opBegin g o).1.modOp g fun _ => (s.opBegin g o).2).showOps g := by
  unfold State.startOp
  simp only [hops, hnew, hskip, href, htest, Bool.false_eq_true, if_false]

/-- A frame of an operation in progress that finds no difference (R113, R115). -/
theorem opFrame_advances (hstart : o.started = true) (hframes : o.frames < opFrames o.op) (hlocked : s.locked (2 * g + o.lane) = true) :
    KeepsKinds seqKinds s (s.opFrame g true) ∧ ((s.opFrame g true).grpOf g).ops = { o with frames := o.frames + 1 } :: rest := by
  obtain ⟨hfront, -⟩ := State.modOp_front (o' := { o with frames := o.frames + 1 }) hops
  have hmod : Frame (fun r _ => r ∈ seqKinds) s (s.modOp g fun _ => { o with frames := o.frames + 1 }) := Frame.modGrp (.refl s)
  have hstep : ∀ {t}, Allocates (s.modOp g fun _ => { o with frames := o.frames + 1 }) t →
      KeepsKinds seqKinds s (t.showOps g) ∧ ((t.showOps g).grpOf g).ops = { o with frames := o.frames + 1 } :: rest := fun {t} ht =>
    ⟨(hmod.within ht.frame).thenIn (Frame.of_keeps (showOps_keeps t g)) (by
        intro r i hr
        simp only [List.mem_cons, Prod.mk.injEq, List.not_mem_nil, or_false] at hr ⊢
        rcases hr with ⟨rfl, -⟩ | ⟨rfl, -⟩ | ⟨rfl, -⟩ <;> simp),
      State.showOps_ops (by rw [ht.ops, hfront])⟩
  have hrun : (!o.started || decide (opFrames o.op ≤ o.frames)) = false := by simp [hstart, hframes]
  unfold State.opFrame
  simp only [hops, hrun, hlocked, Bool.not_true, Bool.and_false, and_false, Bool.false_eq_true, if_false]
  split
  · exact hstep (.migrateSwitch (.refl _))
  split
  · exact hstep (.rampTo (.refl _))
  split
  · exact hstep (.rampTo (.refl _))
  split
  · exact hstep (.unfuseSwitch (.refl _))
  · exact hstep (.refl _)

/-- A comparison of MIGRATE that finds a difference ends it (R114). -/
theorem opFrame_mismatch (hstart : o.started = true) (hframes : o.frames < opFrames o.op) (hmigrate : o.op = Pool.MIGRATE) :
    ∃ k m, s.opFrame g false = (s.testSlice g k m).endOp g o PoolResult.MISMATCH := by
  have hrun : (!o.started || decide (opFrames Pool.MIGRATE ≤ o.frames)) = false := by
    rw [hmigrate] at hframes
    simp [hstart, hframes]
  unfold State.opFrame
  simp only [hops, hmigrate, hrun, Bool.not_false, and_self, Bool.false_eq_true, if_false, if_true]
  exact ⟨_, _, rfl⟩

theorem opEnd_finishes (hstart : o.started = true) (hframes : opFrames o.op ≤ o.frames) : s.opEnd g = s.finishOp g o := by
  unfold State.opEnd
  simp [hops, hstart, hframes]

end Course

end Sys2Proof.Machine
end

section
/-! SUPPORT. The audit of the pool (R119, R120) and COEF_LOAD (R125), and O3. -/
namespace Sys2Proof.Machine
open Sys2Proof Sys2Proof.Claims
set_option Elab.async false

/-! ### The sequencer -/

theorem poolSequencer : Sys2Proof.Claims.PoolSequencer := by
  intro s g o rest hops hfollow frame ended
  have hself := Frame.refl (P := fun r _ => r ∈ allocKinds) s
  have hfilter : ((s.grpOf g).ops.filter fun q => q.id ≠ o.id) = rest.filter fun q => q.id ≠ o.id := by rw [hops]; exact filter_front rest rfl
  refine ⟨fun hnew hlane hskip hlocked href htest => ⟨s.startOp g, ?_, ?_⟩, fun hstart hframes hlocked => ⟨_, rfl, ?_⟩,
    fun hstart hframes hmigrate => ⟨_, rfl, ?_⟩, fun hstart hframes => ⟨_, rfl, ?_⟩⟩
  · change execPoolOpStart g s = _
    simp only [execPoolOpStart, hops, hlocked, if_true]
  · obtain ⟨halloc, hstarted, hop, hid, hfr, hl, hsource⟩ := Allocates.opBegin (g := g) (o := o) (.refl s)
    rw [startOp_begins hops hnew hskip href htest]
    generalize (s.opBegin g o).1 = u at halloc ⊢
    generalize (s.opBegin g o).2 = o' at hstarted hop hid hfr hl hsource ⊢
    obtain ⟨hfront, hfol⟩ := State.modOp_front (o' := o') ((halloc.ops g).trans hops)
    have hmod : Frame (fun r _ => r ∈ allocKinds) s (u.modOp g fun _ => o') := Frame.modGrp (Frame.of_kinds halloc.frame)
    split
    next hzero =>
      obtain ⟨hk, hl', hres, hcount, hlog⟩ := finishOp_ended (s := s) (u := u.modOp g fun _ => o') (o := o')
        (rest := rest.filter fun q => q.id ≠ o'.id) hmod halloc.recorder halloc.time
        (by rw [hfront]; exact filter_front rest rfl) (by rw [hfol, halloc.follow, hfollow])
      refine ⟨hk, fun h => absurd hzero h, fun _ => ⟨?_, hres, hcount, fun hroom => ?_⟩⟩
      · rw [hl', hid]
      · rw [← hop, ← hl, ← hsource]
        exact hlog hroom
    next hsome =>
      refine ⟨?_, fun _ => ⟨?_, o', State.showOps_ops hfront, hstarted, hop, hid, hfr⟩, fun h => absurd h hsome⟩
      · refine Frame.thenIn (Frame.mono hmod ?_) (Frame.of_keeps (showOps_keeps _ g)) ?_
        · intro r i hr
          exact (show allocKinds ⊆ seqKinds by decide) hr
        · intro r i hr
          simp only [List.mem_cons, Prod.mk.injEq, List.not_mem_nil, or_false] at hr ⊢
          rcases hr with ⟨rfl, -⟩ | ⟨rfl, -⟩ | ⟨rfl, -⟩ <;> simp
      · rw [← hl]
        exact flag_op_showOps hfront hstarted (by rw [hl]; exact hlane)
  · exact opFrame_advances hops hstart hframes hlocked
  · obtain ⟨k, m, ht⟩ := opFrame_mismatch hops hstart hframes hmigrate
    have halloc := Allocates.testSlice (g := g) (k := k) (m := m) (e := false) (.refl s)
    rw [ht]
    obtain ⟨hk, hl, hres, hcount, hlog⟩ := endOp_ended (o := o) (rest := rest.filter fun q => q.id ≠ o.id) (.inr ⟨rfl, rfl⟩) halloc.frame halloc.recorder halloc.time
      (by rw [halloc.ops]; exact hfilter) (by rw [halloc.follow, hfollow])
    exact ⟨hk, hl, hres, hcount, hlog⟩
  · rw [opEnd_finishes hops hstart hframes]
    obtain ⟨hk, hl, hres, hcount, hlog⟩ := finishOp_ended (o := o) (rest := rest.filter fun q => q.id ≠ o.id) hself rfl rfl hfilter hfollow
    exact ⟨hk, hl, hres, hcount, hlog⟩

/-! ### The audit -/

section Audit
variable (s : State) (g al fr ut fe : Nat)

theorem setPoolCounters_frame : Keeps [(.EQP_POOL, g)] s (s.setPoolCounters g al fr ut fe) := by
  have h : Frame (fun r i => (r, i) ∈ [(Reg.EQP_POOL, g)]) s s := .refl s
  exact h.setFld.setFld.setFld.setFld

/-- The counters read as set. -/
theorem fld_setPoolCounters : (s.setPoolCounters g al fr ut fe).fld EQP_POOL.ALLOCATED g = al % 16 ∧
    (s.setPoolCounters g al fr ut fe).fld EQP_POOL.FREE g = fr % 16 ∧
    (s.setPoolCounters g al fr ut fe).fld EQP_POOL.UNDER_TEST g = ut % 16 ∧ (s.setPoolCounters g al fr ut fe).fld EQP_POOL.FENCED g = fe % 16 := by
  unfold State.setPoolCounters
  refine ⟨?_, ?_, ?_, ?_⟩ <;> simp (disch := decide)

/-- The check of R119 does not look at the counters that are shown. -/
theorem poolAgrees_setPoolCounters (al' fr' ut' fe' : Nat) :
    (s.setPoolCounters g al fr ut fe).poolAgrees g al' fr' ut' fe' = s.poolAgrees g al' fr' ut' fe' := by
  have h := setPoolCounters_frame s g al fr ut fe
  have hstate : ∀ k j, (s.setPoolCounters g al fr ut fe).sliceState j k = s.sliceState j k := fun k j => by
    rw [State.sliceState, State.sliceState, Frame.fld_eq (Frame.of_keeps h) (by simp)]
  have hcount : ∀ st, (s.setPoolCounters g al fr ut fe).sliceCount g st = s.sliceCount g st := fun st => by
    simp only [State.sliceCount, hstate]
  have hshadow : ∀ n, (s.setPoolCounters g al fr ut fe).migrateShadow n = s.migrateShadow n := fun _ => rfl
  have hlane : ∀ n, (s.setPoolCounters g al fr ut fe).laneAgrees n = s.laneAgrees n := fun n => by
    have hmask : (s.setPoolCounters g al fr ut fe).fld EQP_ALLOC.SLICE_MASK n = s.fld EQP_ALLOC.SLICE_MASK n :=
      Frame.fld_eq (Frame.of_keeps h) (by simp)
    have hslices : (s.setPoolCounters g al fr ut fe).fld EQP_ALLOC.SLICES n = s.fld EQP_ALLOC.SLICES n :=
      Frame.fld_eq (Frame.of_keeps h) (by simp)
    simp only [State.laneAgrees, State.laneSlices, State.slices, hstate, hmask, hslices, hshadow]
    rfl
  simp only [State.poolAgrees, hcount, hlane]

theorem sliceCount_lt (st : Nat) : s.sliceCount g st < 16 := by
  have h : s.sliceCount g st ≤ (List.range 13).length := List.countP_le_length
  rw [List.length_range] at h
  omega

end Audit

/-- The four counters stand side by side in the word that the check sees. -/
theorem counters_eq (al fr ut fe : Fin 16) :
    let c := (BitVec.ofNat 16 (al * 4096 + fr * 256 + ut * 16 + fe)).toNat
    c / 4096 = al ∧ c / 256 % 16 = fr ∧ c / 16 % 16 = ut ∧ c % 16 = fe := by
  have ha := al.isLt
  have hf := fr.isLt
  have hu := ut.isLt
  have he := fe.isLt
  simp only [BitVec.toNat_ofNat]
  omega

/-! ### COEF_LOAD -/

theorem reg_setFld_self (s : State) (f : Field) (i : Nat) (hle : f.lo ≤ f.hi) (hhi : f.hi < 512) :
    (s.setFld f i (s.fld f i)).reg f.reg i = s.reg f.reg i := by
  have h : (s.setFld f i (s.fld f i)).reg f.reg i = setBitsOf (s.reg f.reg i) f.hi f.lo (s.fld f i) := State.reg_setReg_same s f.reg i _
  rw [h]
  refine BitVec.eq_of_getLsbD_eq fun k _ => ?_
  rw [getLsbD_setBitsOf _ _ _ hle hhi]
  split
  next hk =>
    rw [State.fld_eq, testBit_bitsOf, show f.lo + (k - f.lo) = k by omega, decide_eq_true (by omega), Bool.true_and]
  next => rfl

/-- The control register of a lane's equaliser written with the values it holds. -/
def State.eqpCtrlKept (s : State) (n : Nat) : State :=
  ((s.setFld EQP_CTRL.MU_TRK n (s.fld EQP_CTRL.MU_TRK n)).setFld EQP_CTRL.MU_TRN n (s.fld EQP_CTRL.MU_TRN n)).setFld EQP_CTRL.FREEZE n
    (s.fld EQP_CTRL.FREEZE n)

theorem eqpCtrlKept_frame (s : State) (n : Nat) : Keeps [] s (s.eqpCtrlKept n) := by
  have h : Frame (fun r i => (r, i) ∈ [(Reg.EQP_CTRL, n)]) s s := .refl s
  have hkeep : Keeps [(.EQP_CTRL, n)] s (s.eqpCtrlKept n) := h.setFld.setFld.setFld
  refine hkeep.drop ?_
  have htrn : (s.setFld EQP_CTRL.MU_TRK n (s.fld EQP_CTRL.MU_TRK n)).fld EQP_CTRL.MU_TRN n = s.fld EQP_CTRL.MU_TRN n :=
    State.fld_setFld_apart _ _ _ _ (by decide)
  have hfreeze : ((s.setFld EQP_CTRL.MU_TRK n (s.fld EQP_CTRL.MU_TRK n)).setFld EQP_CTRL.MU_TRN n (s.fld EQP_CTRL.MU_TRN n)).fld
      EQP_CTRL.FREEZE n = s.fld EQP_CTRL.FREEZE n := by simp (disch := decide)
  unfold State.eqpCtrlKept
  rw [← hfreeze]
  refine (reg_setFld_self _ EQP_CTRL.FREEZE n (by decide) (by decide)).trans ?_
  rw [← htrn]
  exact (reg_setFld_self _ EQP_CTRL.MU_TRN n (by decide) (by decide)).trans (reg_setFld_self _ EQP_CTRL.MU_TRK n (by decide) (by decide))

/-- FREEZE_CAUSE shows the freeze that software asks for. -/
theorem showFreeze_bit (s : State) (n : Nat) (h : s.flag EQP_CTRL.FREEZE n = true) :
    ((s.showFreeze n).fld EQP_STATUS.FREEZE_CAUSE n).testBit 3 = true := by
  unfold State.showFreeze
  rw [State.fld_setFld_same _ _ _ (by decide), h]
  cases (s.eqpOf n).clipped <;> cases (s.eqpOf n).slowFrame <;> cases (s.eqpOf n).low <;> rfl

/-- COEF_LOAD with FREEZE set and no operation on the lane is due at the next boundary (R125). -/
theorem wrEqpCtrl_load (s : State) (p : Path) (n : Nat) (hfreeze : s.flag EQP_CTRL.FREEZE n = true) (hacts : s.opActs n = false)
    (htrk : 8 ≤ s.fld EQP_CTRL.MU_TRK n) (htrn : 8 ≤ s.fld EQP_CTRL.MU_TRN n) :
    ∃ f : EqX → EqX, (∀ x, (f x).loadDue = some p) ∧
      (wrEqpCtrl p n (withField (s.writeBack .EQP_CTRL n) EQP_CTRL.COEF_LOAD 1) s).1 = ((s.eqpCtrlKept n).showFreeze n).modEqp n f := by
  have hv := fun (f : Field) (hf : f.has .rw) (hreg : f.reg = .EQP_CTRL) (hap : f.hi < 1 ∨ 1 < f.lo) =>
    (fieldOf_withField_apart (s.writeBack .EQP_CTRL n) 1 (s.writeBack_lt .EQP_CTRL n (by decide)) (f := EQP_CTRL.COEF_LOAD) (by decide)
      (by decide) hap hf.2.1).trans ((congrArg (fun r => fieldOf (s.writeBack r n) f) hreg.symm).trans (fieldOf_writeBack s n hf (.inl rfl)))
  have hload : fieldOf (withField (s.writeBack .EQP_CTRL n) EQP_CTRL.COEF_LOAD 1) EQP_CTRL.COEF_LOAD = 1 :=
    fieldOf_withField_same _ 1 (by decide) (by decide)
  have hvtrk := hv EQP_CTRL.MU_TRK (by decide) rfl (by decide)
  have hvtrn := hv EQP_CTRL.MU_TRN (by decide) rfl (by decide)
  have hvfreeze := hv EQP_CTRL.FREEZE (by decide) rfl (by decide)
  have hfreeze' : ((s.eqpCtrlKept n).showFreeze n).flag EQP_CTRL.FREEZE n = true := by
    refine Eq.trans (State.flag_setFld_of_apart _ _ _ _ (by decide)) ?_
    rw [Frame.flag_eq (Frame.of_keeps (eqpCtrlKept_frame s n)) (by simp), hfreeze]
  have hacts' : ((s.eqpCtrlKept n).showFreeze n).opActs n = false := by
    refine Eq.trans (State.flag_setFld_of_apart _ _ _ _ (by decide)) ?_
    rw [Frame.flag_eq (Frame.of_keeps (eqpCtrlKept_frame s n)) (by simp)]
    exact hacts
  unfold wrEqpCtrl
  simp only [hvtrk, hvtrn, hvfreeze, hload, Nat.not_lt.2 htrk, Nat.not_lt.2 htrn, if_false]
  rw [← State.eqpCtrlKept, hfreeze', hacts']
  refine ⟨fun x => { x with loadDue := some p }, fun _ => rfl, ?_⟩
  simp

end Sys2Proof.Machine

namespace Sys2Proof.Proofs
open Sys2Proof Sys2Proof.Machine Sys2Proof.Claims
set_option Elab.async false

theorem poolAudit : Sys2Proof.Claims.PoolAudit := by
  refine ⟨fun s g al fr ut fe hbad => ?_, fun s p g hacc => ⟨_, writeCommand_accepted _ hacc, ?_⟩, fun s p n hacc hfreeze hacts htrk htrn => ?_⟩
  · obtain ⟨hal, hfr, hut, hfe⟩ := counters_eq al fr ut fe
    generalize hc : BitVec.ofNat 16 (al * 4096 + fr * 256 + ut * 16 + fe) = c at hal hfr hut hfe ⊢
    obtain ⟨hfal, hffr, -, -⟩ := fld_setPoolCounters s g al fr ut fe
    refine ⟨_, by
      change execPoolAuditViolation g c s = _
      unfold execPoolAuditViolation
      simp only [hal, hfr, hut, hfe, hbad, Bool.false_eq_true, if_false]
      rfl, ?_⟩
    have h : Frame (fun r i => (r, i) ∈ [(Reg.EQP_POOL, g.val), (.EQP_AUDIT, g.val)] ++ logKeys ++ alertKeys) s s := .refl s
    refine ⟨?_, alerted_alert _ (by decide), ?_, ?_, fun hroom =>
      ⟨(s.setPoolCounters g al fr ut fe).poolWords g, ?_⟩, ?_⟩
    · simp (disch := decide)
    · simp (disch := decide) [hfal]
    · simp (disch := decide) [hffr]
    · exact (logged_log (s := s.setPoolCounters g al fr ut fe) hroom Evt.EQP_AUDIT Subj.GROUP g _).beside rfl (State.alert_recorder _ _)
    · exact ((h.thenIn (Frame.of_keeps (setPoolCounters_frame s g al fr ut fe)) (by simp)).log.setFlag).alert
  · obtain ⟨hfal, hffr, hfut, hffe⟩ := fld_setPoolCounters s g (s.sliceCount g Slice.ALLOCATED) (s.sliceCount g Slice.FREE)
      (s.sliceCount g Slice.UNDER_TEST) (s.sliceCount g Slice.FENCED)
    have hclr : fieldOf 1 EQP_AUDIT.AUDIT_CLR = 1 := by decide
    have h : Frame (fun r i => (r, i) ∈ [(Reg.EQP_POOL, g.val), (.EQP_AUDIT, g.val)]) s (s.setPoolCounters g (s.sliceCount g Slice.ALLOCATED)
        (s.sliceCount g Slice.FREE) (s.sliceCount g Slice.UNDER_TEST) (s.sliceCount g Slice.FENCED)) :=
      Frame.mono (Frame.of_keeps (setPoolCounters_frame s g _ _ _ _)) (by simp)
    have hflag := h.2
    unfold wrEqpAudit
    rw [if_pos hclr]
    dsimp only
    rw [poolAgrees_setPoolCounters]
    split
    next hagree =>
      refine ⟨?_, ?_, ?_, ?_, ?_, h.setFlag⟩
      · simp (disch := decide) [hffr, Nat.mod_eq_of_lt (sliceCount_lt s g _)]
      · simp (disch := decide) [hfal, Nat.mod_eq_of_lt (sliceCount_lt s g _)]
      · simp (disch := decide) [hfut, Nat.mod_eq_of_lt (sliceCount_lt s g _)]
      · simp (disch := decide) [hffe, Nat.mod_eq_of_lt (sliceCount_lt s g _)]
      · rw [State.flag_setFlag_eq _ _ _ (by decide), hagree, Bool.not_true, Bool.and_false]
    next hagree =>
      refine ⟨by rw [hffr, Nat.mod_eq_of_lt (sliceCount_lt s g _)], by rw [hfal, Nat.mod_eq_of_lt (sliceCount_lt s g _)],
        by rw [hfut, Nat.mod_eq_of_lt (sliceCount_lt s g _)], by rw [hffe, Nat.mod_eq_of_lt (sliceCount_lt s g _)], ?_, h⟩
      rw [Bool.eq_false_iff.2 hagree, Bool.not_false, Bool.and_true]
      unfold State.setPoolCounters
      simp (disch := decide)
  · obtain ⟨f, hf, ht⟩ := wrEqpCtrl_load s p n hfreeze hacts htrk htrn
    refine ⟨_, writeCommand_accepted _ hacc, ?_⟩
    rw [ht]
    have hctrl := eqpCtrlKept_frame s n
    refine ⟨by rw [State.eqpOf_modEqp_same, hf], ?_, ?_⟩
    · rw [State.fld_modEqp]
      exact showFreeze_bit _ n ((Frame.flag_eq (Frame.of_keeps hctrl) (by simp)).trans hfreeze)
    · exact Frame.modEqp (Frame.setFld (Frame.mono (Frame.of_keeps hctrl) (by simp)))

/-- Settles O3: the sequencer by its four steps, the audit by what sets and what derives the counters. -/
theorem poolSequencerAndAudit : Obligations.PoolSequencerAndAudit := ⟨poolSequencer, poolAudit⟩

end Sys2Proof.Proofs
end

section
/-! SUPPORT. What the units that run by the clock leave in a core cycle, and the gain of the clock. -/
namespace Sys2Proof.Claims
open Sys2Proof Sys2Proof.Machine
set_option Elab.async false

/-- The registers that a core cycle may change. -/
abbrev beatKinds : List Reg := [.HSI_PAT_DROP, .HPM_IDLE_INS, .HPM_IDLE_DEL, .LRX_STATUS, .PMC_VALUE]

/-- The fields of `LRX_STATUS` that a core cycle leaves as they are. -/
abbrev laneFields : List Field := [LRX_STATUS.STATE, LRX_STATUS.LOSS_CAUSE, LRX_STATUS.LOS, LRX_STATUS.RECOVERY]

/-- What the units may make of a state in a core cycle: the timers, the clock and the commands that wait stand. -/
structure Beat (s t : State) : Prop where
  frame : Frame (fun r _ => r ∈ beatKinds) s t
  lanes : ∀ f ∈ laneFields, ∀ i, t.fld f i = s.fld f i
  time : t.time = s.time
  cycle : t.cycle = s.cycle
  timer : t.frameTimer = s.frameTimer
  interval : t.interval = s.interval
  risen : t.risen = s.risen
  early : t.early = s.early
  pending : t.pending = s.pending

namespace Beat
variable {s u t : State}

theorem refl (s : State) : Beat s s := ⟨.refl s, fun _ _ _ => rfl, rfl, rfl, rfl, rfl, rfl, rfl, rfl⟩

theorem trans (h : Beat s u) (h' : Beat u t) : Beat s t where
  frame := h.frame.trans h'.frame
  lanes f hf i := (h'.lanes f hf i).trans (h.lanes f hf i)
  time := h'.time.trans h.time
  cycle := h'.cycle.trans h.cycle
  timer := h'.timer.trans h.timer
  interval := h'.interval.trans h.interval
  risen := h'.risen.trans h.risen
  early := h'.early.trans h.early
  pending := h'.pending.trans h.pending

theorem ite {c : Prop} {_ : Decidable c} {a b : State} (ha : Beat s a) (hb : Beat s b) : Beat s (if c then a else b) := by split <;> assumption

theorem iteSnd {α : Type} {c : Prop} {_ : Decidable c} {p q : α × State} (hp : Beat s p.2) (hq : Beat s q.2) :
    Beat s (if c then p else q).2 := by split <;> assumption

theorem each {is : List Nat} {f : Nat → State → State} (h : Beat s u) (hf : ∀ {v} i, Beat s v → Beat s (f i v)) : Beat s (u.each is f) :=
  State.each_keeps (fun i _ => hf i) is h

theorem setFld {f : Field} {i x : Nat} (h : Beat s u) (hf : f.reg ∈ beatKinds := by decide)
    (hl : ∀ g ∈ laneFields, f.apart g = true := by decide) : Beat s (u.setFld f i x) :=
  h.trans ⟨(Frame.refl u).setFld hf, fun g hg j => u.fld_setFld_apart i j x (hl g hg), rfl, rfl, rfl, rfl, rfl, rfl, rfl⟩

theorem count {f : Field} {i n : Nat} (h : Beat s u) (hf : f.reg ∈ beatKinds := by decide)
    (hl : ∀ g ∈ laneFields, f.apart g = true := by decide) : Beat s (u.count f i n) := h.setFld hf hl

theorem modLrx {n : Nat} {f : LrxX → LrxX} (h : Beat s u) : Beat s (u.modLrx n f) :=
  h.trans ⟨(Frame.refl u).modLrx, fun _ _ _ => rfl, rfl, rfl, rfl, rfl, rfl, rfl, rfl⟩

theorem modHsi {n : Nat} {f : HsiX → HsiX} (h : Beat s u) : Beat s (u.modHsi n f) :=
  h.trans ⟨(Frame.refl u).modHsi, fun _ _ _ => rfl, rfl, rfl, rfl, rfl, rfl, rfl, rfl⟩

theorem modHpm {n : Nat} {f : HpmX → HpmX} (h : Beat s u) : Beat s (u.modHpm n f) :=
  h.trans ⟨(Frame.refl u).modHpm, fun _ _ _ => rfl, rfl, rfl, rfl, rfl, rfl, rfl, rfl⟩

theorem modPmc {n : Nat} {f : PmcX → PmcX} (h : Beat s u) : Beat s (u.modPmc n f) :=
  h.trans ⟨(Frame.refl u).modPmc, fun _ _ _ => rfl, rfl, rfl, rfl, rfl, rfl, rfl, rfl⟩

theorem fresh (h : Beat s u) : Beat s u.fresh.2 :=
  h.trans ⟨(Frame.refl u).same, fun _ _ _ => rfl, rfl, rfl, rfl, rfl, rfl, rfl, rfl⟩

/-! ### The host transmitters -/

theorem sendFcm {x fcnt : Nat} {bs : List Blk} (h : Beat s u) : Beat s (u.sendFcm x fcnt bs) := by
  unfold State.sendFcm
  exact h.modHsi

theorem sendCw {x : Nat} {w : List (BitVec 10)} (h : Beat s u) : Beat s (u.sendCw x w) := h.modHsi

theorem sendPair {x : Nat} (h : Beat s u) : Beat s (u.sendPair x) := by
  unfold State.sendPair
  dsimp only
  split
  exacts [h.modHsi, h.sendCw]

theorem portToHost {p n : Nat} (h : Beat s u) : Beat s (u.portToHost p n).2 := by
  have hports : Beat s ((u.portToHost p n).2) := by
    unfold State.portToHost
    refine .iteSnd h.modHpm ?_
    generalize elasticOut _ _ _ _ _ _ = out
    exact h.modHpm.count.count
  exact hports

theorem hostSend {x : Nat} (h : Beat s u) : Beat s (u.hostSend x) := by
  unfold State.hostSend
  refine .ite (.ite h.sendPair h) (.ite (.ite (.sendFcm (.modHsi (.iteSnd h.fresh h))) h) (.ite h (.ite (.ite ?_ h) (.ite ?_ h))))
  · exact h.portToHost.each fun _ h => .ite h.sendFcm h
  · exact h.portToHost.each fun _ h => .ite h.sendCw h

theorem tickHosts (h : Beat s u) : Beat s u.tickHosts :=
  h.each fun _ h => .ite h (.ite h.hostSend (.ite h.count h))

/-! ### The restart counts and the performance counters -/

theorem showRestarts {n : Nat} (h : Beat s u) : Beat s (u.showRestarts n) := h.modLrx.setFld

theorem tickLrx (h : Beat s u) : Beat s u.tickLrx := h.each fun _ h => .ite h h.showRestarts

theorem pmcSet {k v : Nat} (h : Beat s u) : Beat s (u.pmcSet k v) := by
  unfold State.pmcSet
  exact .ite h.setFld.modPmc h.setFld

theorem pmcStep {k : Nat} (h : Beat s u) : Beat s (u.pmcStep k) := by
  have htotal : Beat s (u.pmcTotal (u.fld PMC_CTL.SRC k) (u.fld PMC_CTL.SEL k) (u.fld PMC_CTL.INST k)).2 := by
    rwa [State.pmcTotal_snd]
  unfold State.pmcStep
  exact .ite htotal.modPmc.modPmc htotal.modPmc.pmcSet

theorem tickPmc (h : Beat s u) : Beat s u.tickPmc := h.each fun _ h => h.pmcStep

end Beat

/-- The units that run by the clock, where the device is awake. -/
theorem tickUnits_beat (s : State) : Beat s s.tickUnits := .ite (.refl s) (Beat.refl s).tickHosts.tickLrx.tickPmc

/-! ### The clock -/

/-- The instant of the clock in 2^-48 ns. -/
def clockTotal (x : TimeX) : Nat := x.sec * (10 ^ 9 * 2 ^ 48) + x.sub

theorem clockTotal_advance (x : TimeX) (step : Nat) : clockTotal (x.advance step) = clockTotal x + step := by
  unfold TimeX.advance clockTotal
  dsimp only
  split
  · dsimp only; omega
  · dsimp only; omega

/-- The step of the clock is 1.28 ns × (1 + ADJ × 2^-40), truncated to 2^-48 ns. -/
theorem clockStep_bounds (s : State) : 0 < clockStep s.adj ∧ (clockStep s.adj : Int) * 25 ≤ (2 ^ 40 + s.adj) * 8192 ∧
    (2 ^ 40 + s.adj) * 8192 < ((clockStep s.adj : Int) + 1) * 25 := by
  have h := (toSigned_bounds 32 (s.fld TMB_RATE.ADJ 0) (by decide)).1
  unfold clockStep State.adj
  omega

end Sys2Proof.Claims

namespace Sys2Proof.Machine
open Sys2Proof Sys2Proof.Claims
set_option Elab.async false

/-- Settles O59: the timers and the clock as `tick_eq` cuts them out of the core cycle, and the units, which leave both as they are. -/
theorem coreCycle : Obligations.CoreCycle := by
  intro s hpend
  have hbeat := tickUnits_beat s.tickTimers.tickClock
  have hcut : s.tickTimers.tickClock = { s.tickTimers with time := if s.offline then s.time else s.time.advance (clockStep s.adj) } := by
    rw [State.tickClock_eq, State.tickTimers_eq]
    rfl
  have hregs : s.tickTimers.tickClock.regs = s.regs := by rw [hcut, State.tickTimers_eq]
  have hstart : Frame (fun _ _ => False) s s.tickTimers.tickClock :=
    (Frame.refl s).same hregs (by rw [hcut, State.tickTimers_eq]) (by rw [hcut, State.tickTimers_eq])
  rw [← State.tick_eq] at hbeat
  refine ⟨s.tick, by rw [step, hpend], ?_, ?_, ?_, ?_, ?_, ?_, fun hoff => ?_, fun hon => ⟨⟨clockStep s.adj, ?_⟩, ?_, ?_⟩⟩
  · rw [hbeat.pending, hcut, State.tickTimers_eq, hpend]
  · rw [hbeat.cycle, hcut, State.tickTimers_eq]
  · rw [hbeat.timer, hcut, State.tickTimers_eq]
  · rw [hbeat.interval, hcut, State.tickTimers_eq]
  · rw [hbeat.risen, hcut, State.tickTimers_eq]
  · rw [hbeat.early, hcut, State.tickTimers_eq]
  · refine ⟨by rw [hbeat.time, hcut, hoff]; rfl, ?_⟩
    have hstill : s.tick = s.tickTimers.tickClock := by
      rw [State.tick_eq, State.tickUnits, if_pos]
      rw [hcut, State.tickTimers_eq]
      exact hoff
    rw [hstill]
    exact (hstart.mono fun _ _ h => h.elim).keeps
  · obtain ⟨hpos, hlo, hhi⟩ := clockStep_bounds s
    refine ⟨hpos, ?_, hlo, hhi⟩
    have htime : s.tick.time = s.time.advance (clockStep s.adj) := by rw [hbeat.time, hcut, hon]; rfl
    have := clockTotal_advance s.time (clockStep s.adj)
    rw [← htime] at this
    exact this
  · exact ((hstart.mono fun _ _ h => h.elim).trans hbeat.frame).kinds
  · exact fun f hf i => (hbeat.lanes f hf i).trans (State.fld_of_regs hregs f i)

end Sys2Proof.Machine
end

section
/-! SUPPORT. The commands of the two-wire bus: what the target answers and what each code changes, and O48. -/
namespace Sys2Proof.Claims
open Sys2Proof Sys2Proof.Machine
set_option Elab.async false

/-! ### Bytes, most significant first -/

theorem leValue_leBytes (n v : Nat) : leValue (leBytes n v) = v % 256 ^ n := by
  induction n generalizing v with
  | zero => rw [leBytes, leValue, pow_zero, Nat.mod_one]
  | succ n ih => rw [leBytes, leValue, ih, BitVec.toNat_ofNat, pow_succ' 256 n, Nat.mod_mul]

theorem beValue_beBytes (n v : Nat) : beValue (beBytes n v) = v % 256 ^ n := by
  rw [beValue, beBytes, List.reverse_reverse, leValue_leBytes]

theorem length_leBytes (n v : Nat) : (leBytes n v).length = n := by
  induction n generalizing v with
  | zero => rfl
  | succ n ih => rw [leBytes, List.length_cons, ih]

theorem length_beBytes (n v : Nat) : (beBytes n v).length = n := by rw [beBytes, List.length_reverse, length_leBytes]

/-! ### Rows of the bus -/

section
variable {s : State}

/-- The target does not acknowledge: its answer is all that changes. -/
def Nacks (s t : State) : Prop :=
  (t.mgt.bus.ack = false ∧ t.mgt.bus.reply = []) ∧ t = { s with mgt := t.mgt } ∧ t.mgt = { s.mgt with bus := t.mgt.bus } ∧
    t.mgt.bus = { s.mgt.bus with ack := false, reply := [] }

theorem busAnswer_nacks (s : State) : Nacks s (s.busAnswer false []) := ⟨⟨rfl, rfl⟩, rfl, rfl, rfl⟩

theorem Frame.busAnswer {P : Reg → Nat → Prop} {u : State} {ack : Bool} {bs : List Byte} (h : Frame P s u) : Frame P s (u.busAnswer ack bs) :=
  h.modMgt

theorem busRow_offline (f : State → State) (h : s.offline = true) : busRow f s = .next (s.busAnswer false []) := by
  rw [busRow, if_pos h]

theorem busRow_online (f : State → State) (h : s.offline = false) : busRow f s = .next (f s) := by
  rw [busRow, if_neg (by rw [h]; decide)]

theorem i3cRow_offline (f : State → State) (h : s.offline = true) : i3cRow f s = .next (s.busAnswer false []) := busRow_offline _ h

theorem i3cRow_unaddressed (f : State → State) (h : s.offline = false) (h3 : s.flag MGT_BUS_STATUS.I3C 0 = false) :
    i3cRow f s = .next (s.busAnswer false []) := by
  rw [i3cRow, busRow_online _ h, if_neg (by rw [h3]; decide)]

theorem i3cRow_addressed (f : State → State) (h : s.offline = false) (h3 : s.flag MGT_BUS_STATUS.I3C 0 = true) : i3cRow f s = .next (f s) := by
  rw [i3cRow, busRow_online _ h, if_pos h3]

/-- The codes of I3C that ask for a dynamic address. -/
def addressedCodes (d : BitVec 7) (e : Byte) (len : BitVec 16) : List Instr :=
  [.setnewda d, .rstdaa, .enec e, .disec e, .getpid, .getbcr, .getdcr, .getmwl, .setmwl len, .getmrl, .setmrl len, .getmxds, .getstatus]

theorem exec_addressedCodes {d : BitVec 7} {e : Byte} {len : BitVec 16} {c : Instr} (hc : c ∈ addressedCodes d e len) :
    ∃ f, ∀ s, exec c s = i3cRow f s := by
  simp only [addressedCodes, List.mem_cons, List.not_mem_nil, or_false] at hc
  rcases hc with rfl | rfl | rfl | rfl | rfl | rfl | rfl | rfl | rfl | rfl | rfl | rfl | rfl <;> exact ⟨_, fun _ => rfl⟩

theorem exec_addressing {d : BitVec 7} {c : Instr} (hc : c ∈ [Instr.setdasa d, .entdaa d]) (s : State) :
    exec c s = busRow (fun s => s.assignDyn d.toNat) s := by
  simp only [List.mem_cons, List.not_mem_nil, or_false] at hc
  rcases hc with rfl | rfl <;> rfl

theorem exec_unsupported (s : State) : exec .unsupportedCcc s = busRow (fun s => s.busAnswer false []) s := rfl

/-- The codes that return what the target holds. -/
theorem exec_readCodes {s : State} {c : Instr × List Byte} (hc : c ∈ [(Instr.getbcr, ([0x06] : List Byte)), (.getdcr, [0x00]),
      (.getmxds, [0x00, 0x20]), (.getmwl, beBytes 2 s.mgt.bus.mwl), (.getmrl, beBytes 2 s.mgt.bus.mrl ++ [4])]) :
    exec c.1 s = i3cRow (fun u => u.busAnswer true c.2) s := by
  simp only [List.mem_cons, List.not_mem_nil, or_false] at hc
  rcases hc with rfl | rfl | rfl | rfl | rfl <;> rfl

/-- The codes that set a length, with the field of the target that each sets. -/
def lengthTaken (s : State) (c : Instr) (len : Nat) : State :=
  match c with
  | .setmwl _ => s.modMgt fun x => { x with bus := { x.bus with mwl := len } }
  | _ => s.modMgt fun x => { x with bus := { x.bus with mrl := len } }

theorem exec_lengthCodes {len : BitVec 16} {c : Instr} (hc : c ∈ [Instr.setmwl len, .setmrl len]) (s : State) :
    exec c s = i3cRow (fun s => if len.toNat < 16 then s.busAnswer false [] else (lengthTaken s c len.toNat).busAnswer true []) s := by
  simp only [List.mem_cons, List.not_mem_nil, or_false] at hc
  rcases hc with rfl | rfl <;> rfl

theorem nacked {c : Instr} (h : exec c s = .next (s.busAnswer false [])) : Completes c s (Nacks s) := ⟨_, h, busAnswer_nacks s⟩

/-- A path's role rests on the role that the bus holds and on the sessions. -/
theorem role_congr {s t : State} (hbus : t.fld MGT_BUS_STATUS.ROLE 0 = s.fld MGT_BUS_STATUS.ROLE 0)
    (hsess : ∀ k, t.reg .MGT_SESSION k = s.reg .MGT_SESSION k) (p : Path) : t.role p = s.role p := by
  cases p with
  | bus => exact hbus
  | session k =>
    have hrole : t.fld MGT_SESSION.ROLE k = s.fld MGT_SESSION.ROLE k := State.fld_congr (hsess k)
    have hopen : t.flag MGT_SESSION.OPEN k = s.flag MGT_SESSION.OPEN k := State.flag_congr (hsess k)
    rw [State.role, State.role, hopen, hrole]
  | _ => rfl

/-- An address is assigned (R295). -/
theorem assignDyn_assigns (h3 : s.flag MGT_BUS_STATUS.I3C 0 = false) (d : BitVec 7) :
    let t := s.assignDyn d.toNat
    (t.mgt.bus.ack = true ∧ t.mgt.bus.reply = []) ∧ t.flag MGT_BUS_STATUS.I3C 0 = true ∧ t.fld MGT_BUS_STATUS.DYN_ADDR 0 = d.toNat ∧
      (∀ p, t.role p = s.role p) ∧ Keeps [(.MGT_BUS_STATUS, 0)] s t := by
  have ht : s.assignDyn d.toNat = ((s.setFlag MGT_BUS_STATUS.I3C 0 true).setFld MGT_BUS_STATUS.DYN_ADDR 0 d.toNat).busAnswer true [] := by
    rw [State.assignDyn, if_neg (by rw [h3]; decide)]
  rw [ht]
  have hfld : ∀ f i, (State.busAnswer ((s.setFlag MGT_BUS_STATUS.I3C 0 true).setFld MGT_BUS_STATUS.DYN_ADDR 0 d.toNat) true []).fld f i =
      ((s.setFlag MGT_BUS_STATUS.I3C 0 true).setFld MGT_BUS_STATUS.DYN_ADDR 0 d.toNat).fld f i := fun _ _ => rfl
  refine ⟨⟨rfl, rfl⟩, ?_, ?_, role_congr ?_ (fun k => ?_), (Frame.refl s).setFlag.setFld.busAnswer.keeps⟩
  · rw [State.flag, hfld, ← State.flag]
    simp (disch := decide)
  · rw [hfld, State.fld_setFld_eq _ _ _ (by decide)]
    exact Nat.mod_eq_of_lt d.isLt
  · rw [hfld]
    simp (disch := decide)
  · exact ((Frame.refl (P := fun r _ => r = .MGT_BUS_STATUS) s).setFlag rfl).setFld rfl |>.busAnswer.reg_eq (by decide)

/-- RSTDAA: the address, the role and the interrupts that wait are dropped. -/
theorem readdress (s : State) :
    let t := ((s.dropDynAddr.dropRole).modMgt fun x => { x with ibi := [] }).busAnswer true []
    t.flag MGT_BUS_STATUS.I3C 0 = false ∧ t.fld MGT_BUS_STATUS.DYN_ADDR 0 = 0 ∧ t.flag MGT_BUS_STATUS.ENINT 0 = false ∧
      t.role .bus = Role.USER ∧ t.mgt.ibi = [] ∧ Keeps [(.MGT_BUS_STATUS, 0)] s t := by
  intro t
  have hfld : ∀ f, t.fld f 0 = ((((s.setFlag MGT_BUS_STATUS.I3C 0 false).setFld MGT_BUS_STATUS.DYN_ADDR 0 0).setFlag
    MGT_BUS_STATUS.ENINT 0 false).setFld MGT_BUS_STATUS.ROLE 0 Role.USER).fld f 0 := fun _ => rfl
  refine ⟨?_, ?_, ?_, ?_, rfl, ?_⟩
  · rw [State.flag_false_iff, hfld]
    simp (disch := decide)
  · rw [hfld]
    simp (disch := decide)
  · rw [State.flag_false_iff, hfld]
    simp (disch := decide)
  · rw [State.role, hfld]
    simp (disch := decide)
  · have hset : Frame (fun r i => (r, i) ∈ [((.MGT_BUS_STATUS, 0) : RegKey)]) s (s.dropDynAddr.setFld MGT_BUS_STATUS.ROLE 0 Role.USER) :=
      (((Frame.refl s).setFlag).setFld.setFlag).setFld
    exact hset.same.keeps

/-- A bit of ENINT is written. -/
theorem enint_written (s : State) (b : Bool) :
    let t := (s.setFlag MGT_BUS_STATUS.ENINT 0 b).busAnswer true []
    (t.mgt.bus.ack = true ∧ t.mgt.bus.reply = []) ∧ t.flag MGT_BUS_STATUS.ENINT 0 = b ∧ Keeps [(.MGT_BUS_STATUS, 0)] s t :=
  ⟨⟨rfl, rfl⟩, s.flag_setFlag_eq 0 b (by decide), (Frame.refl s).setFlag.busAnswer.keeps⟩

/-- ENEC and DISEC: what they make of their event byte. -/
theorem exec_enintCodes {e : Byte} {c : Instr × Bool} (hc : c ∈ [(Instr.enec e, true), (.disec e, false)]) (s : State) :
    exec c.1 s = i3cRow (fun s => if eventsOk e then
      (if e.getLsbD 0 then s.setFlag MGT_BUS_STATUS.ENINT 0 c.2 else s).busAnswer true [] else s.busAnswer false []) s := by
  simp only [List.mem_cons, List.not_mem_nil, or_false] at hc
  rcases hc with rfl | rfl <;> rfl

/-- The provisioned ID of Table 10-1, by its parts. -/
theorem pid_parts (s : State) : ∃ pid : BitVec 48, pid.toNat = s.pid ∧ pid.extractLsb' 33 15 = 0x1A5B ∧ pid.getLsbD 32 = false ∧
    pid.extractLsb' 16 16 = 0x6416 ∧ (pid.extractLsb' 12 4).toNat = (s.fld MGT_BUS_STATUS.STATIC_ADDR 0 - 0x50) % 16 ∧
    pid.extractLsb' 0 12 = 0x0A1 := by
  have hid : s.pid = 0x1A5B * 2 ^ 33 + 0x6416 * 2 ^ 16 + (s.fld MGT_BUS_STATUS.STATIC_ADDR 0 - 0x50) % 16 * 2 ^ 12 + 0x0A1 := rfl
  have hk : (s.fld MGT_BUS_STATUS.STATIC_ADDR 0 - 0x50) % 16 < 16 := Nat.mod_lt _ (by decide)
  generalize (s.fld MGT_BUS_STATUS.STATIC_ADDR 0 - 0x50) % 16 = k at hid hk
  have hlt : s.pid < 2 ^ 48 := by omega
  have hnat : (BitVec.ofNat 48 s.pid).toNat = s.pid := by rw [BitVec.toNat_ofNat, Nat.mod_eq_of_lt hlt]
  refine ⟨BitVec.ofNat 48 s.pid, hnat, ?_, ?_, ?_, ?_, ?_⟩
  · apply BitVec.eq_of_toNat_eq
    rw [BitVec.extractLsb'_toNat, hnat, Nat.shiftRight_eq_div_pow, hid]
    change _ = 0x1A5B
    omega
  · rw [BitVec.getLsbD, hnat, Nat.testBit_eq_decide_div_mod_eq, hid, decide_eq_false_iff_not]
    omega
  · apply BitVec.eq_of_toNat_eq
    rw [BitVec.extractLsb'_toNat, hnat, Nat.shiftRight_eq_div_pow, hid]
    change _ = 0x6416
    omega
  · rw [BitVec.extractLsb'_toNat, hnat, Nat.shiftRight_eq_div_pow, hid]
    omega
  · apply BitVec.eq_of_toNat_eq
    rw [BitVec.extractLsb'_toNat, hnat, Nat.shiftRight_eq_div_pow, hid]
    change _ = 0x0A1
    omega

end

end Sys2Proof.Claims

namespace Sys2Proof.Machine
open Sys2Proof Sys2Proof.Claims
set_option Elab.async false

/-- Settles O48: asleep and without a dynamic address the rows NACK; else each code by its own row. -/
theorem busCommands : Obligations.BusCommands := by
  intro s d e len
  refine ⟨fun hoff c hc => ?_, fun hon => ⟨nacked (exec_unsupported s |>.trans (busRow_online _ hon)), fun h3 => ⟨fun c hc => ?_, fun c hc => ?_⟩, fun h3 =>
    ⟨fun c hc => ?_, ?_, ?_, fun c hc => ?_, ?_, fun c hc => ?_, fun hlen => ?_, fun hlen c hc => ?_, ?_⟩⟩⟩
  · rcases List.mem_append.1 hc with hc | hc
    · obtain ⟨f, hf⟩ := exec_addressedCodes hc
      exact nacked ((hf s).trans (i3cRow_offline f hoff))
    · simp only [List.mem_cons, List.not_mem_nil, or_false] at hc
      rcases hc with rfl | rfl | rfl
      · exact nacked ((exec_addressing (d := d) (.head _) s).trans (busRow_offline _ hoff))
      · exact nacked ((exec_addressing (d := d) (.tail _ (.head _)) s).trans (busRow_offline _ hoff))
      · exact nacked ((exec_unsupported s).trans (busRow_offline _ hoff))
  · obtain ⟨f, hf⟩ := exec_addressedCodes hc
    exact nacked ((hf s).trans (i3cRow_unaddressed f hon h3))
  · exact ⟨_, (exec_addressing hc s).trans (busRow_online _ hon), assignDyn_assigns h3 d⟩
  · refine nacked ((exec_addressing hc s).trans ((busRow_online _ hon).trans ?_))
    rw [State.assignDyn, if_pos h3]
  · refine ⟨_, (show _ = execSetnewda d s from rfl).trans (i3cRow_addressed _ hon h3), ⟨rfl, rfl⟩, ?_, ?_,
      (Frame.refl s).setFld.busAnswer.keeps⟩
    · exact (s.fld_setFld_eq 0 d.toNat (by decide)).trans (Nat.mod_eq_of_lt d.isLt)
    · exact (s.flag_setFld_of_apart 0 0 d.toNat (by decide)).trans h3
  · exact ⟨_, (show _ = execRstdaa s from rfl).trans (i3cRow_addressed _ hon h3), ⟨rfl, rfl⟩, readdress s⟩
  · have hrow := (exec_enintCodes hc s).trans (i3cRow_addressed _ hon h3)
    refine ⟨fun he => ?_, fun he => ?_, fun he => ?_⟩
    · subst he
      exact ⟨_, hrow, enint_written s c.2⟩
    · subst he
      exact ⟨_, hrow, ⟨rfl, rfl⟩, (Frame.refl s).busAnswer.keeps⟩
    · refine nacked (hrow.trans (congrArg _ (if_neg ?_)))
      rw [eventsOk, decide_eq_true_iff]
      omega
  · obtain ⟨pid, hpid, hparts⟩ := pid_parts s
    refine ⟨_, (show _ = execGetpid s from rfl).trans (i3cRow_addressed _ hon h3), (Frame.refl s).busAnswer.keeps, pid, rfl, ?_, length_beBytes 6 _, hparts⟩
    refine (beValue_beBytes 6 s.pid).trans ?_
    rw [← hpid]
    exact Nat.mod_eq_of_lt pid.isLt
  · exact ⟨_, (exec_readCodes hc).trans (i3cRow_addressed _ hon h3), ⟨rfl, rfl⟩, (Frame.refl s).busAnswer.keeps, rfl⟩
  · have htake : ∀ u : State, (if len.toNat < 16 then s.busAnswer false [] else u.busAnswer true []) = u.busAnswer true [] :=
      fun u => if_neg (by omega)
    have hrow {c} (hc : c ∈ [Instr.setmwl len, .setmrl len]) : exec c s = .next ((lengthTaken s c len.toNat).busAnswer true []) :=
      (exec_lengthCodes hc s).trans ((i3cRow_addressed _ hon h3).trans (congrArg _ (htake _)))
    exact ⟨⟨_, hrow (.head _), ⟨rfl, rfl⟩, rfl, rfl, (Frame.refl s).modMgt.busAnswer.keeps⟩,
      ⟨_, hrow (.tail _ (.head _)), ⟨rfl, rfl⟩, rfl, rfl, (Frame.refl s).modMgt.busAnswer.keeps⟩⟩
  · exact nacked ((exec_lengthCodes hc s).trans ((i3cRow_addressed _ hon h3).trans (congrArg _ (if_pos hlen))))
  · exact ⟨_, (show _ = execGetstatus s from rfl).trans (i3cRow_addressed _ hon h3), rfl, rfl, (Frame.refl s).modMgt.busAnswer.keeps, rfl⟩

end Sys2Proof.Machine
end

section
/-! SUPPORT. A word written at an address: registers without rules of their own, addresses without a register, stores, and the order of
writes that meet in a core cycle; O46. -/
namespace Sys2Proof.Claims
open Sys2Proof Sys2Proof.Machine
set_option Elab.async false

section
variable {s : State} {p : Path} {a x : Word32}

theorem wrReg_of_plainRegs {r : Reg} (h : r ∈ plainRegs) (p : Path) (i v : Nat) (s : State) : wrReg p r i v s = (plainWrite r i v s, .ok) := by
  simp only [plainRegs, List.mem_cons, List.not_mem_nil, or_false] at h
  rcases h with rfl | rfl | rfl | rfl | rfl | rfl | rfl | rfl | rfl | rfl | rfl | rfl | rfl | rfl | rfl <;> rfl

theorem words_of_plainRegs {r : Reg} (h : r ∈ plainRegs) : r.words = 1 := by
  simp only [plainRegs, List.mem_cons, List.not_mem_nil, or_false] at h
  rcases h with rfl | rfl | rfl | rfl | rfl | rfl | rfl | rfl | rfl | rfl | rfl | rfl | rfl | rfl | rfl <;> rfl

/-- A device that sleeps or has tripped takes no write. -/
theorem writeAt_offline (h : s.offline = true) (p : Path) (a x : Nat) : s.writeAt p a x = (s, .busy) := by rw [State.writeAt, if_pos h]

theorem writeAt_noRegister {a : Nat} (hreg : regAt a = none) (hstore : storeWindow a = none ∨ a % 4 ≠ 0) (hon : s.offline = false)
    (p : Path) (x : Nat) : s.writeAt p a x = (s.count MGT_BAD_ADDR.COUNT 0, .badAddr) := by
  have hno : ¬ ((storeWindow a).isSome ∧ a % 4 = 0) := fun ⟨hs, ha⟩ => hstore.elim (fun h => by rw [h] at hs; cases hs) (fun h => h ha)
  rw [State.writeAt, if_neg (by rw [hon]; decide), if_neg hno, writeWordWith]
  split
  · rfl
  next h => rw [hreg] at h; cases h

theorem writeAt_store {a m : Nat} (hstore : storeWindow a = some m) (ha : a % 4 = 0) (hrole : s.role p ≠ Role.FIRMWARE)
    (hon : s.offline = false) (x : Nat) : (s.writeAt p a x).1 =
      (s.count MGT_ACCESS_VIOL.COUNT 0).log Evt.ACCESS_VIOL Subj.REGISTER a [s.pathWord p, s.role p, x % 2 ^ 32] := by
  rw [State.writeAt, if_neg (by rw [hon]; decide), if_pos ⟨by rw [hstore]; rfl, ha⟩, State.storeWordWrite, if_neg hrole]

/-! ### The order of writes -/

theorem exec_registerWrite (s : State) : exec (.registerWrite p a x) s = execRegisterWrite p a x s := rfl

/-- A write that has been taken early is taken off the list alone. -/
theorem exec_registerWrite_early (h : s.early.contains (p, a.toNat, x.toNat) = true) :
    exec (.registerWrite p a x) s = .next { s with early := s.early.erase (p, a.toNat, x.toNat) } := by
  rw [exec_registerWrite]
  unfold execRegisterWrite
  exact congrArg _ (if_pos h)

theorem pathRank_le (s : State) (p : Path) : s.pathRank p ≤ 3 := by
  unfold State.pathRank
  split
  case h_4 => split <;> omega
  all_goals omega

theorem pathRank_of_mem_writesBefore {a : Nat} {e : Path × Nat × Nat} (h : e ∈ s.writesBefore p a) : s.pathRank e.1 < s.pathRank p := by
  unfold State.writesBefore at h
  obtain ⟨c, -, hc⟩ := List.mem_filterMap.1 h
  split at hc
  · split at hc
    next hlt => cases hc; exact hlt.1
    · cases hc
  · cases hc

/-- One write that goes before is applied, and noted. -/
theorem writeEarly_one {a : Nat} {e : Path × Nat × Nat} (h : s.writesBefore p a = [e]) :
    s.writeEarly p a = { (s.writeAt e.1 e.2.1 e.2.2).1 with early := (s.writeAt e.1 e.2.1 e.2.2).1.early ++ [e] } := by
  have hrank : s.pathRank e.1 < 3 :=
    Nat.lt_of_lt_of_le (pathRank_of_mem_writesBefore (h ▸ List.mem_singleton_self e)) (pathRank_le s p)
  have hlist : ((List.range 3).flatMap fun k => [e].filter fun e => s.pathRank e.1 = k) = [e] := by
    have : s.pathRank e.1 = 0 ∨ s.pathRank e.1 = 1 ∨ s.pathRank e.1 = 2 := by omega
    rcases this with hk | hk | hk <;> simp [List.range, List.range.loop, hk]
  rw [State.writeEarly, h]
  dsimp only
  rw [hlist]
  rfl

theorem exec_registerWrite_second {q : Path} {b y : Nat} (hearly : s.early.contains (p, a.toNat, x.toNat) = false)
    (h : s.writesBefore p a.toNat = [(q, b, y)]) : exec (.registerWrite p a x) s =
      .next (State.writeAt { (s.writeAt q b y).1 with early := (s.writeAt q b y).1.early ++ [(q, b, y)] } p a.toNat x.toNat).1 := by
  rw [exec_registerWrite]
  unfold execRegisterWrite
  refine congrArg _ ((if_neg ?_).trans ?_)
  · rw [hearly]
    decide
  · rw [writeEarly_one h]

/-! ### Staged words and commits -/

theorem exec_stagedWordWrite (s : State) : exec (.stagedWordWrite p a x) s = execStagedWordWrite p a x s := rfl

theorem exec_wideRegisterCommit (s : State) : exec (.wideRegisterCommit p a x) s = execWideRegisterCommit p a x s := rfl

theorem exec_stagedWordWrite_still (h : wideWord a.toNat = none ∨ wideWord a.toNat = some 0 ∨ s.offline = true) :
    exec (.stagedWordWrite p a x) s = .next s := by
  rw [exec_stagedWordWrite]
  unfold execStagedWordWrite
  split
  next w hw =>
    split
    · rfl
    next h0 => 
      rw [hw, Option.some.injEq] at h
      rw [writeAt_offline ((h.resolve_left nofun).resolve_left h0)]
  · rfl

theorem exec_wideRegisterCommit_still (h : wideWord a.toNat ≠ some 0 ∨ s.offline = true) : exec (.wideRegisterCommit p a x) s = .next s := by
  rw [exec_wideRegisterCommit]
  unfold execWideRegisterCommit
  split
  next w hw =>
    split
    next h0 => rw [writeAt_offline (h.resolve_left (fun h => h (h0 ▸ hw)))]
    · rfl
  · rfl

end

end Sys2Proof.Claims

namespace Sys2Proof.Machine
open Sys2Proof Sys2Proof.Claims
set_option Elab.async false

/-- Settles O46, clause by clause: what a write does at its address, and in which order writes of one core cycle are applied. -/
theorem registerWrites : Obligations.RegisterWrites := by
  intro s p a x
  refine ⟨fun hoff c hc hturn => ⟨s, ?_, rfl⟩, fun hturn => ⟨fun r i hreg hr hacc => ?_, fun hreg hstore hon => ?_,
    fun m hstore ha hrole hon => ?_⟩, fun hearly => ⟨_, exec_registerWrite_early hearly, rfl⟩,
    fun q b y hearly hbefore => ⟨_, exec_registerWrite_second hearly hbefore, rfl⟩, fun w hw => ⟨fun h0 => ?_, fun h0 => ?_⟩,
    fun hnone c hc => ?_⟩
  · simp only [List.mem_cons, List.not_mem_nil, or_false] at hc
    rcases hc with rfl | rfl | rfl
    · rw [exec_registerWrite_inTurn (hturn rfl), writeAt_offline hoff]
    · exact exec_stagedWordWrite_still (.inr (.inr hoff))
    · exact exec_wideRegisterCommit_still (.inr hoff)
  · have hwrite : s.writeAt p a.toNat x.toNat = (plainWrite r i x.toNat s, .ok) := by
      rw [State.writeAt_onlyWord hreg _ (words_of_plainRegs hr) hacc, wrReg_of_plainRegs hr]
    refine ⟨_, exec_registerWrite_inTurn hturn, ?_⟩
    rw [hwrite]
    exact ⟨getLsbD_reg_plainWrite (fieldsOk_of_regAt hreg) i _ s, keeps_plainWrite s r i _, rfl⟩
  · refine ⟨_, exec_registerWrite_inTurn hturn, ?_⟩
    rw [writeAt_noRegister hreg hstore hon]
    exact ⟨s.fld_count_same 0 1 (by decide), keeps_count s MGT_BAD_ADDR.COUNT 0 1⟩
  · refine ⟨_, exec_registerWrite_inTurn hturn, ?_⟩
    rw [writeAt_store hstore ha hrole hon, Nat.mod_eq_of_lt x.isLt]
    refine ⟨?_, (Frame.refl s).count.log.keeps, fun hroom => ?_⟩
    · exact (State.fld_log_of_apart _ 0 _ _ _ _ (by decide)).trans (s.fld_count_same 0 1 (by decide))
    · exact logged_log (s := s.count MGT_ACCESS_VIOL.COUNT 0) hroom _ _ _ _
  · exact ⟨s, exec_stagedWordWrite_still (.inr (.inl (h0 ▸ hw))), rfl⟩
  · exact ⟨s, exec_wideRegisterCommit_still (.inl fun h => h0 (Option.some.inj (hw.symm.trans h))), rfl⟩
  · simp only [List.mem_cons, List.not_mem_nil, or_false] at hc
    rcases hc with rfl | rfl
    · exact ⟨s, exec_stagedWordWrite_still (.inl hnone), rfl⟩
    · exact ⟨s, exec_wideRegisterCommit_still (.inl (by rw [hnone]; nofun)), rfl⟩

end Sys2Proof.Machine
end

section
/-! SUPPORT. A word read at an address: registers, captures, stores, a device that is off; O47. -/
namespace Sys2Proof.Claims
open Sys2Proof Sys2Proof.Machine
set_option Elab.async false

section
variable {s : State} {p : Path}

theorem exec_wideRegisterRead (p : Path) (a : Word32) (s : State) : exec (.wideRegisterRead p a) s =
    .next ((s.readAt p a.toNat).2.2.modMgt fun m => { m with read := (s.readAt p a.toNat).1 }) := rfl

theorem readAt_offline (h : s.offline = true) (a : Nat) : s.readAt p a = (0, .busy, s) := by rw [State.readAt, if_pos h]

theorem readAt_noRegister {a : Nat} (hstore : storeWindow a = none) (hreg : regAt a = none) (hon : s.offline = false) :
    s.readAt p a = (0, .badAddr, s.count MGT_BAD_ADDR.COUNT 0) := by
  rw [State.readAt, if_neg (by rw [hon]; decide), hstore, hreg]

theorem readAt_register {a : Nat} {r : Reg} {i w : Nat} (hstore : storeWindow a = none) (hreg : regAt a = some (r, i, w))
    (hon : s.offline = false) : s.readAt p a = ((s.readReg (s.role p) r i w).1, .ok, (s.readReg (s.role p) r i w).2) := by
  rw [State.readAt, if_neg (by rw [hon]; decide), hstore, hreg]

/-- The event store below OPERATOR: 0, counted (R425). -/
theorem readAt_eventStore {a : Nat} (hstore : storeWindow a = some 19) (ha : a % 4 = 0) (hrole : s.role p < Role.OPERATOR)
    (hon : s.offline = false) : s.readAt p a = (0, .denied, s.count EVL_READ_DENIED.COUNT 0) := by
  rw [State.readAt, if_neg (by rw [hon]; decide), hstore]
  dsimp only
  rw [if_pos ha, State.readStore, if_neg (fun h => absurd h.1 (by decide)), if_pos hrole, if_pos rfl]

/-! ### Captures -/

theorem readReg_captured {r : Reg} {i w : Nat} (h : capturedElsewhere r i = true ∨ w ≠ 0) (role : Nat) :
    s.readReg role r i w = (wordOf (s.captureOf (r, i)) w, s) := by rw [State.readReg, if_pos h]

/-- The captures that a read of a lowest word makes. -/
def capturing (s : State) (role : Nat) (r : Reg) (i : Nat) : State :=
  if (captureSet r i).isEmpty then s else
    { s with captured := (captureSet r i).foldl (fun m k => Tab.insert regLt k (s.regNow role k.1 k.2) m) s.captured }

theorem readReg_lowest {r : Reg} {i : Nat} (h : capturedElsewhere r i = false) (role : Nat) :
    s.readReg role r i 0 = (wordOf (s.regNow role r i) 0, (capturing s role r i).afterRead r) := by
  rw [State.readReg, if_neg (by rw [h]; simp)]
  rfl

theorem Frame.capturing {P : Reg → Nat → Prop} {u : State} {role : Nat} {r : Reg} {i : Nat} (h : Frame P s u) :
    Frame P s (capturing u role r i) := h.skip fun h => h.same

theorem capturing_mgt (s : State) (role : Nat) (r : Reg) (i : Nat) : (capturing s role r i).mgt = s.mgt := by
  unfold capturing
  split <;> rfl

/-- A key that a loop of captures visits is captured; one that is captured once keeps its capture. -/
theorem get_captures {f : RegKey → RegVal} {k : RegKey} (ks : List RegKey) (m : List (RegKey × RegVal)) :
    Tab.get regReset (ks.foldl (fun m k => Tab.insert regLt k (f k) m) m) k = if k ∈ ks then f k else Tab.get regReset m k := by
  induction ks generalizing m with
  | nil => rfl
  | cons j ks ih =>
    rw [List.foldl_cons, ih]
    by_cases hks : k ∈ ks
    · rw [if_pos hks, if_pos (.tail _ hks)]
    · rw [if_neg hks]
      by_cases hj : k = j
      · rw [if_pos (hj ▸ .head _), hj, Tab.get_insert_same]
      · rw [if_neg (by rw [List.mem_cons]; tauto), Tab.get_insert_other _ _ hj]

/-- The address of a register without an index names index 0. -/
theorem index_of_regAt {a : Nat} {r : Reg} {i w : Nat} (h : regAt a = some (r, i, w)) (hdims : r.desc.dims = []) : i = 0 := by
  have hat := (regAt_some h).2
  unfold Reg.at at hat
  rw [hdims, indexOf] at hat
  split at hat
  · cases hat
  · rw [Option.ite_none_right_eq_some] at hat
    obtain ⟨-, he⟩ := hat
    cases he
    rfl

/-- Of a wide register that has captures of its own, a read of the lowest word captures it. -/
theorem mem_captureSet {a : Nat} {r : Reg} {i w : Nat} (hreg : regAt a = some (r, i, w)) (hwide : 1 < r.words)
    (h : capturedElsewhere r i = false) : (r, i) ∈ captureSet r i := by
  unfold captureSet
  split
  · rw [index_of_regAt hreg rfl]
    decide
  · exact List.mem_map.2 ⟨.CIN_ACCEPT, by decide, rfl⟩
  · have h16 : i % 16 = 0 := of_decide_eq_false (p := i % 16 ≠ 0) h |> not_not.1
    rw [if_pos h16]
    exact List.mem_map.2 ⟨0, by decide, rfl⟩
  · rw [if_neg (by omega)]
    exact .head _

theorem captureOf_capturing {a : Nat} {r : Reg} {i w : Nat} (hreg : regAt a = some (r, i, w)) (hwide : 1 < r.words) (h : capturedElsewhere r i = false) (role : Nat) :
    (capturing s role r i).captureOf (r, i) = s.regNow role r i := by
  have hmem := mem_captureSet hreg hwide h
  have hne : (captureSet r i).isEmpty = false := by
    rw [List.isEmpty_eq_false_iff]
    exact List.ne_nil_of_mem hmem
  rw [capturing, if_neg (by rw [hne]; decide)]
  exact (get_captures _ _).trans (if_pos hmem)

/-! ### What a read does to a register -/

theorem afterRead_other {r : Reg} (h : r ≠ .PWR_SUPPLY) (s : State) : s.afterRead r = s := by
  unfold State.afterRead
  split
  · exact absurd rfl h
  · rfl

end

end Sys2Proof.Claims

namespace Sys2Proof.Machine
open Sys2Proof Sys2Proof.Claims
set_option Elab.async false

/-- Settles O47: the cases of an address, and of a register whether its word is captured now or was before. -/
theorem registerReads : Obligations.RegisterReads := by
  intro s p a gives
  refine ⟨fun hoff => ?_, fun hon => ⟨fun hstore hreg => ?_, fun hstore ha hrole => ?_, fun r i w hstore hreg => ⟨fun h => ?_, fun hw hcap => ?_⟩⟩⟩
  · rw [Completes, exec_wideRegisterRead, readAt_offline hoff]
    exact ⟨_, rfl, ⟨rfl, (Frame.refl s).modMgt.keeps⟩, rfl⟩
  · rw [Completes, exec_wideRegisterRead, readAt_noRegister hstore hreg hon]
    exact ⟨_, rfl, ⟨rfl, (Frame.refl s).count.modMgt.keeps⟩, s.fld_count_same 0 1 (by decide)⟩
  · rw [Completes, exec_wideRegisterRead, readAt_eventStore hstore ha hrole hon]
    exact ⟨_, rfl, ⟨rfl, (Frame.refl s).count.modMgt.keeps⟩, s.fld_count_same 0 1 (by decide)⟩
  · rw [Completes, exec_wideRegisterRead, readAt_register hstore hreg hon, readReg_captured h.symm]
    exact ⟨_, rfl, ⟨rfl, (Frame.refl s).modMgt.keeps⟩, rfl⟩
  · subst hw
    rw [Completes, exec_wideRegisterRead, readAt_register hstore hreg hon, readReg_lowest hcap]
    refine ⟨_, rfl, ?_⟩
    by_cases hr : r = .PWR_SUPPLY
    · subst hr
      rw [if_pos rfl]
      refine ⟨⟨?_, (Frame.refl s).capturing.setFld.modMgt.keeps⟩, fun _ => ?_, fun hwide => absurd hwide (by decide)⟩
      · exact congrArg (fun m : MgtX => { m with read := wordOf (s.regNow (s.role p) .PWR_SUPPLY i) 0 }) (capturing_mgt s _ _ _)
      · exact ((capturing s (s.role p) .PWR_SUPPLY i).fld_setFld_eq 0 0 (by decide)).trans (Nat.zero_mod _)
    · rw [afterRead_other hr, if_neg hr]
      refine ⟨⟨?_, (Frame.refl s).capturing.modMgt.keeps⟩, fun h => absurd h hr, fun hwide => captureOf_capturing hreg hwide hcap _⟩
      exact congrArg (fun m : MgtX => { m with read := wordOf (s.regNow (s.role p) r i) 0 }) (capturing_mgt s _ _ _)

end Sys2Proof.Machine
end

section
/-! SUPPORT. The key vault: the nonce, enrolment, revocation and the end of fusing; O40. -/
namespace Sys2Proof.Claims
open Sys2Proof Sys2Proof.Machine
set_option Elab.async false

section
variable {s : State} {p : Path}

@[simp] theorem log_sec (s : State) (type kind index : Nat) (words : List Nat) : (s.log type kind index words).sec = s.sec := by
  rw [State.log, State.logAt_eq]

@[simp] theorem log_pwr (s : State) (type kind index : Nat) (words : List Nat) : (s.log type kind index words).pwr = s.pwr := by
  rw [State.log, State.logAt_eq]

/-! ### The command register -/

/-- A code of `SEC_KEY_CTRL` and its slot, as the register's fields have them. -/
theorem fieldOf_keyCtrl {cmd slot : Nat} (hcmd : cmd < 16) (hslot : slot < 16) :
    fieldOf (cmd * 2 ^ 28 + slot) SEC_KEY_CTRL.CMD = cmd ∧ fieldOf (cmd * 2 ^ 28 + slot) SEC_KEY_CTRL.SLOT = slot := by
  simp only [fieldOf, Nat.shiftRight_eq_div_pow, Field.width]
  omega

theorem exec_secNonce (hacc : Accepts s p .SEC_KEY_CTRL 0) : exec (.secNonce p) s = .next (s.newSecNonce.keyResult Sec.OK) := by
  refine (writeCommand_accepted _ hacc).trans (congrArg _ ?_)
  rw [wrSecKeyCtrl, if_pos (fieldOf_keyCtrl (cmd := 1) (slot := 0) (by decide) (by decide)).1]

theorem exec_enrol (hacc : Accepts s p .SEC_KEY_CTRL 0) : exec (.enrol p) s = .next s.enrol := by
  refine (writeCommand_accepted _ hacc).trans (congrArg _ ?_)
  have hcmd := (fieldOf_keyCtrl (cmd := 2) (slot := 0) (by decide) (by decide)).1
  rw [wrSecKeyCtrl, hcmd]
  rfl

theorem exec_revoke (hacc : Accepts s p .SEC_KEY_CTRL 0) (k : Fin 16) : exec (.revoke p k) s =
    .next (if s.role p < Role.ADMIN then s.accessViolation p .SEC_KEY_CTRL 0 (3 * 2 ^ 28 + k) else s.revoke p k) := by
  refine (writeCommand_accepted _ hacc).trans (congrArg _ ?_)
  obtain ⟨hcmd, hslot⟩ := fieldOf_keyCtrl (cmd := 3) (slot := k) (by decide) k.isLt
  rw [wrSecKeyCtrl, hcmd, hslot]
  by_cases h : s.role p < Role.ADMIN
  · rw [if_pos h, if_neg (by decide), if_neg (by decide), if_pos rfl, if_pos h]
  · rw [if_neg h, if_neg (by decide), if_neg (by decide), if_pos rfl, if_neg h]

/-! ### Nonce and result -/

theorem keyResult_answers {r : Nat} (hr : r < 16) (s : State) :
    ((s.keyResult r).fld SEC_KEY_STATUS.RESULT 0 = r ∧ (s.keyResult r).sec = s.sec) ∧ Keeps [(.SEC_KEY_STATUS, 0)] s (s.keyResult r) :=
  ⟨⟨(s.fld_setFld_eq 0 r (by decide)).trans (Nat.mod_eq_of_lt hr), rfl⟩, (Frame.refl s).setFld.keeps⟩

theorem nonceValid_shows (s : State) (b : Bool) : (s.nonceValid b).flag SEC_KEY_STATUS.NONCE_VALID 0 = b ∧
    (s.nonceValid b).flag SEC_DBG_STATUS.NONCE_VALID 0 = b := by
  unfold State.nonceValid
  exact ⟨by simp (disch := decide), by simp (disch := decide)⟩

theorem Frame.nonceValid {P : Reg → Nat → Prop} {u : State} {b : Bool} (h : Frame P s u) (hK : P .SEC_KEY_STATUS 0 := by simp)
    (hD : P .SEC_DBG_STATUS 0 := by simp) : Frame P s (u.nonceValid b) := (h.setFlag hK).setFlag hD

theorem newSecNonce_makes (s : State) :
    let t := s.newSecNonce.keyResult Sec.OK
    t.flag SEC_KEY_STATUS.NONCE_VALID 0 = true ∧ t.flag SEC_DBG_STATUS.NONCE_VALID 0 = true ∧
      t.fld SEC_KEY_STATUS.RESULT 0 = Sec.OK ∧ t.sec.keyData = [] ∧ t.sec.dbgData = [] ∧ t.sec.nonceAt = s.cycle ∧
      Keeps [(.SEC_NONCE, 0), (.SEC_KEY_STATUS, 0), (.SEC_DBG_STATUS, 0)] s t := by
  intro t
  have hvalid := nonceValid_shows (s.fresh.2.setFld SEC_NONCE.NONCE 0 (s.fresh.1.toNat % 2 ^ 256)) true
  have hfresh : Frame (fun r i => (r, i) ∈ [(Reg.SEC_NONCE, 0), (.SEC_KEY_STATUS, 0), (.SEC_DBG_STATUS, 0)]) s s.fresh.2 := (Frame.refl s).same
  refine ⟨?_, ?_, ?_, rfl, rfl, rfl, ?_⟩
  · exact (State.flag_setFld_of_apart _ 0 0 _ (by decide)).trans hvalid.1
  · exact (State.flag_setFld_of_apart _ 0 0 _ (by decide)).trans hvalid.2
  · exact State.fld_setFld_eq _ 0 _ (by decide)
  · exact ((hfresh.setFld.nonceValid (b := true)).modSec.setFld).keeps

/-! ### Enrolment -/

/-- The check of an enrolment record answers a code other than OK, or finds a free slot. -/
theorem enrolCheck_cases (s : State) (d : List Byte) : (s.enrolCheck d ≠ Sec.OK ∧ s.enrolCheck d < 16) ∨
    (s.enrolCheck d = Sec.OK ∧ ∃ k, s.freeSlot = some k) := by
  unfold State.enrolCheck
  dsimp only
  iterate 3 (split; · exact .inl (by decide))
  split
  · exact .inl (by decide)
  · iterate 5 (split; · exact .inl (by decide))
    split
    · exact .inl (by decide)
    next hslot =>
      rw [Bool.not_eq_true, Option.isNone_eq_false_iff, Option.isSome_iff_exists] at hslot
      exact .inr ⟨rfl, hslot⟩

theorem enrol_busy (h : s.sec.fuse ≠ none) : s.enrol = s.keyResult Sec.BUSY := if_pos (Option.isSome_iff_ne_none.2 h)

theorem enrol_checked (h : s.sec.fuse = none) : s.enrol = if s.enrolCheck s.sec.keyData = Sec.OK then
    (s.nonceValid false).modSec fun x => { x with fuse := some (s.freeSlot.getD 0, fieldAt s.sec.keyData 56 4, byteAt s.sec.keyData 60,
      slice s.sec.keyData 64 67) }
    else (s.nonceValid false).keyResult (s.enrolCheck s.sec.keyData) := if_neg (by rw [h]; decide)

/-! ### Revocation -/

/-- The slot does not hold a key that can be revoked. -/
def revokeBad (s : State) (k : Nat) : Bool :=
  if k = 15 then s.flag SEC_STATUS.F0_REVOKED 0 else decide (12 ≤ k) || !s.flag SEC_KEY_SLOT.ENROLLED k || s.flag SEC_KEY_SLOT.REVOKED k

/-- The key is one that must stay. -/
def revokeKept (s : State) (p : Path) (k : Nat) : Bool :=
  if k = 15 then decide (s.sec.fwKey = Key.F0) else s.lastAdmin k || decide (s.pathKey p = some k)

theorem revoke_busy (h : s.sec.fuse ≠ none) (k : Nat) : s.revoke p k = s.keyResult Sec.BUSY := if_pos (Option.isSome_iff_ne_none.2 h)

theorem revoke_eq (h : s.sec.fuse = none) (k : Nat) : s.revoke p k = if revokeBad s k then s.keyResult Sec.KEY
    else if revokeKept s p k then s.keyResult Sec.REFUSED
    else s.modSec fun x => { x with fuse := some (if k = 15 then (15, Key.F0, 0, []) else (12, k, 0, [])) } := by
  unfold State.revoke revokeBad revokeKept
  rw [if_neg (by rw [h]; decide)]
  by_cases hk : k = 15
  · simp only [hk, if_true, decide_eq_true_eq]
  · simp only [hk, if_false, Bool.or_eq_true, decide_eq_true_eq, or_assoc]

/-! ### The end of fusing -/

/-- The registers that the end of a fuse changes. -/
abbrev fuseKinds : List Reg := [.SEC_KEY_SLOT, .SEC_STATUS, .SEC_KEY_STATUS, .SEC_MEAS, .EVL_DROPPED]

theorem measureSec_frame (s : State) : Frame (fun r _ => r = .SEC_MEAS) s s.measureSec := by
  unfold State.measureSec
  exact ((Frame.refl s).setFld rfl).setFld rfl

@[simp] theorem measureSec_sec (s : State) : s.measureSec.sec = s.sec := rfl
@[simp] theorem measureSec_pwr (s : State) : s.measureSec.pwr = s.pwr := rfl
@[simp] theorem measureSec_recorder (s : State) : s.measureSec.recorder = s.recorder := rfl

@[simp] theorem fld_measureSec (s : State) {f : Field} (i : Nat) (h : f.reg ≠ .SEC_MEAS) : s.measureSec.fld f i = s.fld f i :=
  (measureSec_frame s).fld_eq h

@[simp] theorem flag_measureSec (s : State) {f : Field} (i : Nat) (h : f.reg ≠ .SEC_MEAS) : s.measureSec.flag f i = s.flag f i :=
  (measureSec_frame s).flag_eq h

theorem adminEnrolled_congr {s t : State} (h : ∀ k, t.reg .SEC_KEY_SLOT k = s.reg .SEC_KEY_SLOT k) : t.adminEnrolled = s.adminEnrolled := by
  have hkey : ∀ k, t.keyInForce k Kind.ADMIN = s.keyInForce k Kind.ADMIN := fun k => by
    rw [State.keyInForce, State.keyInForce, State.flag_congr (f := SEC_KEY_SLOT.ENROLLED) (h k),
      State.flag_congr (f := SEC_KEY_SLOT.REVOKED) (h k), State.fld_congr (f := SEC_KEY_SLOT.KIND) (h k)]
  simp only [State.adminEnrolled, hkey]

theorem Frame.showOwner {P : Reg → Nat → Prop} {u : State} (h : Frame P s u) (hS : P .SEC_STATUS 0) (hM : ∀ i, P .SEC_MEAS i) :
    Frame P s u.showOwner := (h.setFlag hS).thenIn (measureSec_frame _) fun _ i hr => hr ▸ hM i

/-- A fuse reads blown by its registers, its key and its record. -/
theorem Frame.blowFuse {f : Nat × Nat × Nat × List Byte} {u : State} (h : Frame (fun r _ => r ∈ fuseKinds) s u) :
    Frame (fun r _ => r ∈ fuseKinds) s (u.blowFuse f) := by
  unfold State.blowFuse
  exact .ite (fun _ => h.setFlag.log) fun _ => .ite (fun _ => h.setFlag.log) fun _ => h.setFld.setFld.setFlag.modSec.log

theorem blowFuse_fuse (s : State) (f : Nat × Nat × Nat × List Byte) : (s.blowFuse f).sec.fuse = s.sec.fuse ∧ (s.blowFuse f).pwr = s.pwr := by
  unfold State.blowFuse State.logSec
  dsimp only
  split
  · exact ⟨by rw [log_sec]; rfl, by rw [log_pwr]; rfl⟩
  · split
    · exact ⟨by rw [log_sec]; rfl, by rw [log_pwr]; rfl⟩
    · exact ⟨by rw [log_sec]; rfl, by rw [log_pwr]; rfl⟩

/-- What the end of a fuse leaves of what its blowing made: the ownership, the result and the measurements follow. -/
def fused (u : State) : State := u.showOwner.keyResult Sec.OK

theorem fused_frame (u : State) : Frame (fun r _ => r = .SEC_STATUS ∨ r = .SEC_MEAS ∨ r = .SEC_KEY_STATUS) u (fused u) :=
  ((Frame.refl u).showOwner (.inl rfl) fun _ => .inr (.inl rfl)).setFld (.inr (.inr rfl))

theorem fused_shows (u : State) : (fused u).fld SEC_KEY_STATUS.RESULT 0 = Sec.OK ∧ (fused u).flag SEC_STATUS.UNOWNED 0 = !(fused u).adminEnrolled ∧
    (fused u).flag SEC_STATUS.F0_REVOKED 0 = u.flag SEC_STATUS.F0_REVOKED 0 := by
  have hslots : (fused u).adminEnrolled = u.adminEnrolled := adminEnrolled_congr fun k => (fused_frame u).reg_eq (by decide)
  rw [hslots]
  unfold fused State.showOwner State.keyResult
  exact ⟨State.fld_setFld_eq _ 0 _ (by decide), by simp (disch := decide), by simp (disch := decide)⟩

theorem exec_fuseDone {f : Nat × Nat × Nat × List Byte} (h : s.sec.fuse = some f) (hdef : s.pwr.deferred = none) :
    exec .fuseDone s = .next (fused ((s.modSec fun x => { x with fuse := none }).blowFuse f)) := by
  have hpwr : (fused ((s.modSec fun x => { x with fuse := none }).blowFuse f)).pwr.deferred = none := by
    change ((s.modSec fun x => { x with fuse := none }).blowFuse f).pwr.deferred = none
    rw [(blowFuse_fuse _ f).2]
    exact hdef
  change execFuseDone s = _
  unfold execFuseDone
  rw [h]
  dsimp only
  rw [State.runDeferred]
  split
  · rfl
  next hsome => exact absurd (hsome.symm.trans hpwr) nofun

/-- The slot with the key that is fused into it. -/
def enrolled (s : State) (k id kind : Nat) (pub : List Byte) : State :=
  (((s.setFld SEC_KEY_SLOT.KEY_ID k id).setFld SEC_KEY_SLOT.KIND k kind).setFlag SEC_KEY_SLOT.ENROLLED k true).modSec
    fun x => { x with keys := Tab.set natLt (fun _ => []) x.keys k pub }

theorem blowFuse_slot {k : Nat} (hk : k < 12) (id kind : Nat) (pub : List Byte) :
    s.blowFuse (k, id, kind, pub) = (enrolled s k id kind pub).log Evt.SEC_EVENT Subj.DEVICE 0 [SecEvt.ENROL, id, k] := by
  unfold State.blowFuse
  exact (if_neg (by omega)).trans (if_neg (by omega))

/-- An enrolment fuse: the slot holds its key, and a record tells. -/
theorem blowFuse_enrols {k : Nat} (hk : k < 12) (id kind : Nat) (pub : List Byte) :
    let u := s.blowFuse (k, id, kind, pub)
    u.flag SEC_KEY_SLOT.ENROLLED k = true ∧ u.fld SEC_KEY_SLOT.KEY_ID k = id % 2 ^ 32 ∧ u.slotKey k = pub ∧
      u.fld SEC_KEY_SLOT.KIND k = kind % 4 ∧ (Room s → Logged Evt.SEC_EVENT Subj.DEVICE 0 [SecEvt.ENROL, id, k] s u) := by
  rw [blowFuse_slot hk]
  refine ⟨?_, ?_, ?_, ?_, fun hroom => (loggedAt_logAt (s := enrolled s k id kind pub) hroom _ _ _ _ _).beside⟩
  · rw [State.flag_log_of_apart _ _ _ _ _ _ (by decide)]
    simp (disch := decide) [enrolled]
  · rw [State.fld_log_of_apart _ _ _ _ _ _ (by decide)]
    simp (disch := decide) [enrolled]
  · rw [State.slotKey, log_sec]
    exact Tab.get_set_same _ _ _
  · rw [State.fld_log_of_apart _ _ _ _ _ _ (by decide)]
    simp (disch := decide) [enrolled]

/-- A revocation fuse of a slot, and of F0. -/
theorem blowFuse_revokes (id kind : Nat) (pub : List Byte) : (s.blowFuse (12, id, kind, pub)).flag SEC_KEY_SLOT.REVOKED id = true ∧
    (s.blowFuse (12, id, kind, pub)).sec.keys = s.sec.keys := by
  have h : s.blowFuse (12, id, kind, pub) =
      (s.setFlag SEC_KEY_SLOT.REVOKED id true).logSec SecEvt.REVOKE (s.fld SEC_KEY_SLOT.KEY_ID id) id := by
    unfold State.blowFuse
    exact (if_neg (by decide)).trans (if_pos rfl)
  rw [h, State.logSec]
  refine ⟨?_, by rw [log_sec]; rfl⟩
  rw [State.flag_log_of_apart _ _ _ _ _ _ (by decide)]
  exact State.flag_setFlag_eq _ _ _ (by decide)

theorem blowFuse_revokesF0 (id kind : Nat) (pub : List Byte) : (s.blowFuse (15, id, kind, pub)).flag SEC_STATUS.F0_REVOKED 0 = true ∧
    (s.blowFuse (15, id, kind, pub)).sec.keys = s.sec.keys := by
  have h : s.blowFuse (15, id, kind, pub) = (s.setFlag SEC_STATUS.F0_REVOKED 0 true).logSec SecEvt.REVOKE Key.F0 15 := by
    unfold State.blowFuse
    exact if_pos rfl
  rw [h, State.logSec]
  refine ⟨?_, by rw [log_sec]; rfl⟩
  rw [State.flag_log_of_apart _ _ _ _ _ _ (by decide)]
  exact State.flag_setFlag_eq _ _ _ (by decide)

end

end Sys2Proof.Claims

namespace Sys2Proof.Machine
open Sys2Proof Sys2Proof.Claims
set_option Elab.async false

/-- Settles O40: each command by its row of the command register, and the end of a fuse by what its blowing makes. -/
theorem ownerKeys : Obligations.OwnerKeys := by
  intro s frame answered
  refine ⟨fun p hacc => ⟨⟨_, exec_secNonce hacc, newSecNonce_makes s⟩, fun hfuse => ⟨_, exec_enrol hacc, ?_⟩, fun hfuse => ?_,
    fun k => ⟨fun hrole => ⟨_, exec_revoke hacc k, ?_⟩, fun hrole => ⟨fun hfuse => ⟨_, exec_revoke hacc k, ?_⟩, fun hfuse => ?_⟩⟩⟩,
    fun k id kind pub hfuse hdef => ⟨_, exec_fuseDone hfuse hdef, ?_⟩⟩
  · rw [enrol_busy hfuse]
    exact keyResult_answers (by decide) s
  · intro d r
    have hrow := exec_enrol hacc
    rw [enrol_checked hfuse] at hrow
    have hvalid := nonceValid_shows s false
    rcases enrolCheck_cases s d with ⟨hr, hlt⟩ | ⟨hr, k, hk⟩
    · rw [if_neg hr] at hrow
      refine ⟨_, hrow, (State.flag_setFld_of_apart _ 0 0 _ (by decide)).trans hvalid.1, (State.flag_setFld_of_apart _ 0 0 _ (by decide)).trans hvalid.2,
        ((Frame.refl s).nonceValid (b := false)).setFld.keeps, fun _ => (keyResult_answers hlt _).1, fun h => absurd h hr⟩
    · rw [if_pos hr, hk] at hrow
      exact ⟨_, hrow, hvalid.1, hvalid.2, ((Frame.refl s).nonceValid (b := false)).modSec.keeps, fun h => absurd hr h, fun _ => ⟨k, hk, rfl⟩⟩
  · rw [if_pos hrole]
    refine ⟨accessViolation_counts s p _ 0 _, ?_, accessViolation_keeps s p _ 0 _⟩
    rw [State.accessViolation, log_sec]
    rfl
  · rw [if_neg (Nat.not_lt.2 hrole), revoke_busy hfuse]
    exact keyResult_answers (by decide) s
  · have hrow := exec_revoke hacc k
    rw [if_neg (Nat.not_lt.2 hrole), revoke_eq hfuse] at hrow
    refine ⟨fun hbad => ?_, fun hbad hkept => ?_, fun hbad hkept => ?_⟩
    · rw [if_pos (show revokeBad s k = true from hbad)] at hrow
      exact ⟨_, hrow, keyResult_answers (by decide) s⟩
    · rw [if_neg (by rw [show revokeBad s k = false from hbad]; decide), if_pos (show revokeKept s p k = true from hkept)] at hrow
      exact ⟨_, hrow, keyResult_answers (by decide) s⟩
    · rw [if_neg (by rw [show revokeBad s k = false from hbad]; decide),
        if_neg (by rw [show revokeKept s p k = false from hkept]; decide)] at hrow
      exact ⟨_, hrow, (Frame.refl s).modSec.keeps, rfl⟩
  · have hframe := fused_frame ((s.modSec fun x => { x with fuse := none }).blowFuse (k, id, kind, pub))
    obtain ⟨hresult, howner, hf0⟩ := fused_shows ((s.modSec fun x => { x with fuse := none }).blowFuse (k, id, kind, pub))
    refine ⟨(blowFuse_fuse _ _).1, hresult, howner, ?_, fun hk => ?_, fun hk => ?_, fun hk => ?_⟩
    · exact (((Frame.refl s).modSec.blowFuse).thenIn hframe (by rintro r i (rfl | rfl | rfl) <;> decide)).kinds
    · obtain ⟨hen, hid, hkey, hkind, hlog⟩ := blowFuse_enrols (s := s.modSec fun x => { x with fuse := none }) hk id kind pub
      exact ⟨(hframe.flag_eq (by decide)).trans hen, (hframe.fld_eq (by decide)).trans hid, hkey, (hframe.fld_eq (by decide)).trans hkind,
        fun hroom => (hlog hroom).beside⟩
    · subst hk
      obtain ⟨hrev, hkeys⟩ := blowFuse_revokes (s := s.modSec fun x => { x with fuse := none }) id kind pub
      exact ⟨(hframe.flag_eq (by decide)).trans hrev, hkeys⟩
    · subst hk
      obtain ⟨hrev, hkeys⟩ := blowFuse_revokesF0 (s := s.modSec fun x => { x with fuse := none }) id kind pub
      exact ⟨hf0.trans hrev, hkeys⟩

end Sys2Proof.Machine
end

section
/-! SUPPORT. What lies outside the scope of a computation keeps its value: registers, fields, bytes of the stores and of the flash, and the
frames of the statements. -/
namespace Sys2Proof.Machine
open Sys2Proof Sys2Proof.Claims
set_option Elab.async false

/-- Every part of the state but the stores and the flash. -/
def besideStores : List Part := [.frameTimer, .interval, .freeCtr, .captured, .staged, .committed, .early, .risen, .recorder, .lfec, .lrx,
  .eqp, .grp, .ltx, .hsi, .hpm, .chk, .chan, .clane, .cin, .time, .tlane, .cfg, .mgt, .tskIn, .tskRule, .sens, .thm, .pins, .pwr, .hrn,
  .clk, .sec, .jtag, .tskAt, .hka, .dec, .dac, .strm, .pmc, .pmcSnap, .memx, .dma, .engine]

/-- The kinds of register that `Holds` names. -/
def heldKinds : List Reg := [.GLB_ID, .GLB_PARAM, .SEC_UID, .THM_SENSOR, .THM_PRED]

/-- The scope holds none of what `Holds` names. -/
def Scope.sparesHeld (K : Scope) : Bool := heldKinds.all (fun r => !K.hasReg r) && !K.hasPart .flash

theorem Scope.hasReg_of_mem {rs : List Reg} {ps : List Part} {r : Reg} (h : r ∈ rs) : (Scope.of rs ps).hasReg r = true := by
  rw [Scope.hasReg, Scope.of, Bool.false_or, Scope.testBit_maskOf, List.any_eq_true]
  exact ⟨r, h, decide_eq_true rfl⟩

theorem ofSigned_lt (w : Nat) (x : Int) : ofSigned w x < 2 ^ w := by
  have hpos : (0 : Int) < ((2 ^ w : Nat) : Int) := by positivity
  unfold ofSigned
  have := Int.emod_lt_of_pos x hpos
  have := Int.emod_nonneg x hpos.ne'
  omega

namespace Evolves
variable {K : Scope} {s u t : State}

theorem reg (h : Evolves K s t) (r : Reg) (i : Nat) (hr : K.hasReg r = false := by decide +kernel) : t.reg r i = s.reg r i := h.regs r i hr

theorem fld (h : Evolves K s t) (f : Field) (i : Nat) (hr : K.hasReg f.reg = false := by decide +kernel) : t.fld f i = s.fld f i :=
  State.fld_congr (h.regs f.reg i hr)

theorem flag (h : Evolves K s t) (f : Field) (i : Nat) (hr : K.hasReg f.reg = false := by decide +kernel) : t.flag f i = s.flag f i :=
  State.flag_congr (h.regs f.reg i hr)

theorem part (h : Evolves K s t) (p : Part) (hp : K.hasPart p = false := by decide +kernel) : p.agree s t := h.parts p hp

theorem memByte (h : Evolves K s t) (a : Nat) (hp : K.hasPart .mem = false := by decide +kernel) : t.memByte a = s.memByte a := by
  rw [State.memByte, State.memByte, show t.mem = s.mem from h.parts .mem hp]

theorem flashByte (h : Evolves K s t) (a : Nat) (hp : K.hasPart .flash = false := by decide +kernel) : t.flashByte a = s.flashByte a := by
  rw [State.flashByte, State.flashByte, show t.flash = s.flash from h.parts .flash hp]

/-- A computation whose scope lies in the kinds named, and in no store, keeps the rest. -/
theorem kinds {rs : List Reg} (h : Evolves K s t) (hK : K.le (.of rs besideStores) = true := by decide +kernel) : KeepsKinds rs s t := by
  have spare {p : Part} (hp : (Scope.of [] besideStores).hasPart p = false) : K.hasPart p = false :=
    Bool.eq_false_iff.2 fun h => Bool.noConfusion ((show (Scope.of rs besideStores).hasPart p = false from hp).symm.trans (Scope.hasPart_of_le hK h))
  exact ⟨fun r i hr => h.regs r i (Bool.eq_false_iff.2 fun hq => hr (Scope.mem_of_hasReg (Scope.hasReg_of_le hK hq))),
    fun a => h.memByte a (spare (by decide +kernel)), fun a => h.flashByte a (spare (by decide +kernel))⟩

theorem holds (h : Evolves K s t) (hK : K.sparesHeld = true := by decide +kernel) : Holds s t := by
  obtain ⟨hregs, hflash⟩ := (Bool.and_eq_true _ _).mp hK
  exact ⟨fun r hr i => h.regs r i (by simpa using List.all_eq_true.1 hregs r hr), fun a => h.flashByte a (by simpa using hflash)⟩

end Evolves
end Sys2Proof.Machine
end

section
/-! SUPPORT. The time base (chapter 8): what a change of quality, a step of the clock and a change of source leave of the quality, the
source and the instant. -/
namespace Sys2Proof.Machine
open Sys2Proof
set_option Elab.async false
variable {s : State}

/-! ### The quality -/

/-- Beside the quality itself a change of quality touches the bound and the status alone. -/
theorem State.setQuality_beside (s : State) (q b : Nat) :
    Evolves (.of [.TMB_ERR_BOUND, .TMB_STATUS] [.time]) (s.setFld TMB_QUALITY.Q 0 q) (s.setQuality q b) := by
  unfold State.setQuality
  dsimp only
  have h := ((Evolves.refl (K := .of [.TMB_ERR_BOUND, .TMB_STATUS] [.time]) (s.setFld TMB_QUALITY.Q 0 q)).setBound (b := b)).setFlag
    (f := TMB_ERR_BOUND.UNBOUNDED) (i := 0) (b := decide (q = Quality.LOST))
  split <;> refine Evolves.when ?_ fun h => h.setTime id
  · exact h.calAbort
  · exact h

@[simp] theorem State.quality_setQuality (s : State) (q b : Nat) : (s.setQuality q b).quality = q % 4 :=
  ((s.setQuality_beside q b).fld TMB_QUALITY.Q 0).trans (s.fld_setFld_same 0 q (by decide))

theorem State.quality_toHoldover (s : State) :
    s.toHoldover.quality = if s.quality = Quality.LOCKED then Quality.HOLDOVER else s.quality := by
  unfold State.toHoldover
  split
  · exact State.quality_setQuality ..
  · rfl

theorem Evolves.quality {K : Scope} {s t : State} (h : Evolves K s t) (hr : K.hasReg .TMB_QUALITY = false := by decide +kernel) :
    t.quality = s.quality := h.fld TMB_QUALITY.Q 0 hr

@[simp] theorem State.quality_showSource (s : State) : s.showSource.quality = s.quality := by
  have hused (used : Nat → Bool) := ((Evolves.refl (K := .of [.TMB_LANE_FLAGS] []) s).each (is := lanes16)
    (f := fun n s => s.setFlag TMB_LANE_FLAGS.USED n (used n)) fun _ h => h.setFlag).quality
  unfold State.quality at *
  unfold State.showSource
  dsimp only
  split
  · simp (disch := decide) [hused]
  · simp (disch := decide) [hused]
  · split <;> simp (disch := decide) [hused]

theorem State.quality_stepTo (s : State) (x : Int) (q b : Nat) : (s.stepTo x q b).quality = q % 4 := by
  unfold State.stepTo
  exact ((Evolves.refl _).log (type := Evt.TMB_STEP) (K := .of [.EVL_DROPPED] [.recorder])).quality.trans (State.quality_setQuality _ q b)

/-! ### The source -/

/-- The source followed and the instant the clock shows are the same. -/
def State.SameClock (s t : State) : Prop := t.time.source = s.time.source ∧ t.now16 = s.now16

theorem State.SameClock.of_part {t : State} (h : t.time = s.time) : s.SameClock t := ⟨congrArg TimeX.source h, congrArg TimeX.now16 h⟩

theorem State.sameClock_calAbort (s : State) : s.SameClock s.calAbort := by
  unfold State.calAbort
  split <;> exact ⟨rfl, rfl⟩

theorem State.sameClock_setQuality (s : State) (q b : Nat) : s.SameClock (s.setQuality q b) := by
  have hset : ∀ t : State, s.SameClock t → s.SameClock (if t.time.ppsOut && !t.ppsGate then
      { t with time := { t.time with ppsOut := false } } else t) := by
    intro t ht
    split
    · exact ht
    · exact ht
  unfold State.setQuality
  refine hset _ ?_
  split
  · exact State.sameClock_calAbort _
  · exact ⟨rfl, rfl⟩

/-- A step of the clock leaves the source. -/
theorem State.source_stepTo (s : State) (x : Int) (q b : Nat) : (s.stepTo x q b).time.source = s.time.source := by
  unfold State.stepTo
  refine (congrArg TimeX.source (((Evolves.refl _).log (K := .of [.EVL_DROPPED] [.recorder])).part .time)).trans
    ((State.sameClock_setQuality _ q b).1.trans ?_)
  refine (congrArg TimeX.source ((((Evolves.refl _).raise (K := .of [.TMB_QUALITY, .PMC_WIN, .PMC_VALUE] [.risen, .pmc])).pmcWindow).part
    .time)).trans ?_
  exact State.each_keeps (P := fun t : State => t.time.source = s.time.source) (fun _ _ h => h) lanes16 (s := s.setNow16 x) rfl

theorem State.quality_calAbort (s : State) : s.calAbort.quality = s.quality :=
  ((Evolves.refl s).calAbort (K := .of [.TMB_STATUS] [])).quality

/-- The decision at a change of source steps to quality ESTIMATED or leaves the quality. -/
theorem State.reselect_cases (s : State) (th : Int) : ((s.reselect th).1.quality = s.quality ∨ (s.reselect th).1.quality = Quality.ESTIMATED) ∧
    (s.reselect th).1.time.source = s.time.source := by
  unfold State.reselect State.stepToSource
  split
  · exact ⟨.inl rfl, rfl⟩
  dsimp only
  split
  · exact ⟨.inr (State.quality_stepTo ..), State.source_stepTo ..⟩
  · exact ⟨.inl rfl, rfl⟩

theorem State.time_showSource (s : State) : s.showSource.time = s.time :=
  ((Evolves.refl s).showSource (K := .of [.TMB_QUALITY, .TMB_LANE_FLAGS] [])).part .time

/-- The decision on the combined sample that there is, if any. -/
def State.judged (u : State) : State := match u.combined u.freshLanes with
  | some th => (u.reselect th).1
  | none => u

theorem State.judged_cases (u : State) :
    (u.judged.quality = u.quality ∨ u.judged.quality = Quality.ESTIMATED) ∧ u.judged.time.source = u.time.source := by
  unfold State.judged
  split
  · exact u.reselect_cases _
  · exact ⟨.inl rfl, rfl⟩

/-- Where a source is taken, the state that shows it is judged. -/
theorem State.takeSource_eq (s : State) (k : TimeSource) :
    ∃ u : State, s.takeSource k = u.showSource.judged ∧ u.quality = s.calAbort.quality ∧ u.time.source = k := ⟨_, rfl, rfl, rfl⟩

/-- A source taken is the source; the quality stays, or the clock has stepped and it is ESTIMATED. -/
theorem State.takeSource_cases (s : State) (k : TimeSource) :
    ((s.takeSource k).quality = s.quality ∨ (s.takeSource k).quality = Quality.ESTIMATED) ∧ (s.takeSource k).time.source = k := by
  obtain ⟨u, hu, hq, hsrc⟩ := s.takeSource_eq k
  obtain ⟨hjq, hjs⟩ := u.showSource.judged_cases
  rw [State.quality_showSource, hq, State.quality_calAbort] at hjq
  rw [State.time_showSource, hsrc] at hjs
  rw [hu]
  exact ⟨hjq, hjs⟩

theorem State.quality_dropSource (s : State) : s.dropSource.quality = s.toHoldover.quality := by
  unfold State.dropSource
  rw [State.quality_showSource, State.quality_calAbort]
  rfl

/-- A first selection leaves the quality, or it is ESTIMATED. -/
theorem State.selectFirst_quality (s : State) : s.selectFirst.quality = s.quality ∨ s.selectFirst.quality = Quality.ESTIMATED := by
  unfold State.selectFirst
  dsimp only
  split
  · split
    · exact (State.takeSource_cases _ _).1
    · exact .inl rfl
  · exact .inl rfl

theorem State.quality_followerBound (s : State) : s.followerBound.quality = s.quality :=
  ((Evolves.refl s).followerBound (K := .of [.TMB_ERR_BOUND] [.time, .freeCtr])).quality

theorem State.source_followerBound (s : State) : s.followerBound.time.source = s.time.source := rfl

end Sys2Proof.Machine
end

section
/-! SUPPORT. Counts, and frames of changes of one part of the state. -/
namespace Sys2Proof.Claims
open Sys2Proof Sys2Proof.Machine
set_option Elab.async false
variable {s u t : State}

theorem counts_count {f : Field} (i : Nat) (n : Nat := 1) (s : State) (h : f.lo + (f.hi - f.lo) < 512 := by decide) : Counts f i s (s.count f i n) n :=
  s.fld_count_eq i n h

/-- What counts still counts where the field stays. -/
theorem Counts.then {f : Field} {i n : Nat} (h : Counts f i s u n) (e : t.fld f i = u.fld f i) : Counts f i s t n := e.trans h

/-- What stays and then counts. -/
theorem Counts.after {f : Field} {i n : Nat} (h : Counts f i u t n) (e : u.fld f i = s.fld f i) : Counts f i s t n := by
  rwa [Counts, e] at h

namespace Frame
variable {P : Reg → Nat → Prop}

theorem setTime {x : TimeX} (h : Frame P s u) : Frame P s { u with time := x } := h.same

theorem setCin {x : CinX} (h : Frame P s u) : Frame P s { u with cin := x } := h.same

theorem setThm {x : ThmX} (h : Frame P s u) : Frame P s { u with thm := x } := h.same

theorem setMemx {x : MemX} (h : Frame P s u) : Frame P s { u with memx := x } := h.same

theorem setEngine {x : EngineX} (h : Frame P s u) : Frame P s { u with engine := x } := h.same

theorem setHrn {x : HrnX} (h : Frame P s u) : Frame P s { u with hrn := x } := h.same

theorem setRecorder {x : RecorderX} (h : Frame P s u) : Frame P s { u with recorder := x } := h.same

theorem setPins {x : PinsX} (h : Frame P s u) : Frame P s { u with pins := x } := h.same

theorem setCfg {x : List ((Nat × Nat) × List Byte)} (h : Frame P s u) : Frame P s { u with cfg := x } := h.same

theorem setChk {x : List (Nat × ChkX)} (h : Frame P s u) : Frame P s { u with chk := x } := h.same

theorem setCaptured {x : List (RegKey × RegVal)} (h : Frame P s u) : Frame P s { u with captured := x } := h.same

end Frame
end Sys2Proof.Claims
end

section
/-! PROOFS. O4, time transfer (chapter 8): TIME words, selection and loss of the source, lock. -/
namespace Sys2Proof.Proofs
open Sys2Proof Sys2Proof.Machine Sys2Proof.Claims
set_option Elab.async false

/-- What a TIME word does of its sub-type and payload once it is counted. -/
def timeWordUsed (n sub : Nat) (w : BitVec 40) (r : Int) (s : State) : State :=
  if sub = 0 then s.modTlane n fun t => { t with toAnswer := some (w.toNat / 2 ^ 38, r), fineRx := some (w.toNat % 2 ^ 38, r, s.cycle) }
  else if sub = 1 then s.rxFine n w.toNat r
  else if sub = 2 then s.coarseRx n w.toNat
  else if sub = 3 ∧ w.toNat % 256 = 0 then s.sourceRx n w
  else if sub = 4 ∧ w.toNat < 2 ^ 32 then s.modTlane n fun t => { t with farBound := w.toNat }
  else s.count TMB_SUB_RSVD.COUNT n

/-- The two counts of a TIME word on a lane where time transfer runs. -/
def timeWordCounted (s : State) (n : Nat) : State := (s.count LFEC_OAM_RX.COUNT n).count TMB_TIME_RX.COUNT n

theorem exec_timeWordReceived {s : State} {n : Lane} (w : BitVec 44) (h : s.timeLane n = true) :
    exec (.timeWordReceived n w) s = .next (timeWordUsed n (w.extractLsb' 40 4).toNat (w.extractLsb' 0 40)
      (ts96To16 (BitVec.ofNat 96 (s.fld TMB_FRAME_RX.TS n)) : Nat) (timeWordCounted s n)) := by
  have hlane : (s.count LFEC_OAM_RX.COUNT n).timeLane n = s.timeLane n := by
    simp (disch := decide) only [State.timeLane, State.ieee, State.locked, State.flag_count_of_apart, State.fld_count_of_apart]
  have hin : (s.locked n && !s.ieee n) = true := by
    simp only [State.timeLane, Bool.and_eq_true] at h ⊢
    exact ⟨h.1.2, h.1.1⟩
  refine (show _ = execTimeWordReceived n w s from rfl).trans ?_
  unfold execTimeWordReceived
  dsimp only
  rw [State.oamIn, if_pos hin, hlane, h]
  rfl

variable {s t : State} {n sub : Nat} {w : BitVec 40} {r : Int}

/-- What is made of a TIME word touches neither of its counts. -/
theorem timeWordUsed_spares (s : State) (n sub : Nat) (w : BitVec 40) (r : Int) :
    ∃ K : Scope, Evolves K s (timeWordUsed n sub w r s) ∧ K.hasReg .LFEC_OAM_RX = false ∧ K.hasReg .TMB_TIME_RX = false := by
  refine ⟨.join [thetaSampleScope, sourceRxScope, .of [.TMB_RTT, .CIN_LANE_CFG, .CIN_LANE_STATUS, .TMB_SUB_RSVD] [.tlane]], ?_,
    by decide +kernel, by decide +kernel⟩
  have h := Evolves.refl (K := .join [thetaSampleScope, sourceRxScope, .of [.TMB_RTT, .CIN_LANE_CFG, .CIN_LANE_STATUS, .TMB_SUB_RSVD] [.tlane]]) s
  unfold timeWordUsed
  exact .ite h.modTlane (.ite h.rxFine (.ite h.coarseRx (.ite h.sourceRx (.ite h.modTlane h.count))))

/-- An RX_FINE whose tag is in hand gives the rtt (R249). -/
theorem rxFine_of_tag {v : Nat} {a : Int} (s : State) (r : Int) (hmax : v % 2 ^ 38 ≠ 2 ^ 38 - 1)
    (htag : (s.tlaneOf n).fines.find? (fun e => e.1 = v / 2 ^ 38 % 4) = some (v / 2 ^ 38 % 4, a)) :
    s.rxFine n v r = (((s.setFld TMB_RTT.RTT n (ofSigned 48 (r - a - Int.ofNat (v % 2 ^ 38)))).setFlag TMB_RTT.VALID n true).modTlane n
      fun t => { t with rttAt := s.cycle }).cinRtt n := by
  rw [State.rxFine, if_neg hmax]
  rw [htag]
  rfl

theorem frame_cinRtt {P : Reg → Nat → Prop} {u : State} (h : Frame P s u) (hC : P .CIN_LANE_CFG n) (hS : P .CIN_LANE_STATUS n) :
    Frame P s (u.cinRtt n) := by
  unfold State.cinRtt
  exact h.when fun h => (h.setFld hC).setFlag hS

/-- The rtt is shown, and a lane's own registers alone change. -/
theorem rxFine_shows {v : Nat} {a : Int} (s : State) (r : Int) (hmax : v % 2 ^ 38 ≠ 2 ^ 38 - 1)
    (htag : (s.tlaneOf n).fines.find? (fun e => e.1 = v / 2 ^ 38 % 4) = some (v / 2 ^ 38 % 4, a)) :
    (s.rxFine n v r).flag TMB_RTT.VALID n = true ∧ (s.rxFine n v r).fld TMB_RTT.RTT n = ofSigned 48 (r - a - Int.ofNat (v % 2 ^ 38)) ∧
    Keeps [(.TMB_RTT, n), (.CIN_LANE_CFG, n), (.CIN_LANE_STATUS, n)] s (s.rxFine n v r) := by
  rw [rxFine_of_tag s r hmax htag]
  have hbeside (u : State) (f : TLaneX → TLaneX) : Evolves (.of [.CIN_LANE_CFG, .CIN_LANE_STATUS] [.tlane]) u ((u.modTlane n f).cinRtt n) :=
    (Evolves.refl u).modTlane.cinRtt
  refine ⟨?_, ?_, (frame_cinRtt ((((Frame.refl s).setFld).setFlag).modTlane) (by simp) (by simp)).keeps⟩
  · exact ((hbeside _ _).flag TMB_RTT.VALID n).trans (State.flag_setFlag_eq _ _ _ (by decide))
  · refine ((hbeside _ _).fld TMB_RTT.RTT n).trans ((State.fld_setFlag_of_apart _ _ _ _ (by decide)).trans ?_)
    exact (s.fld_setFld_same n _ (by decide)).trans (Nat.mod_eq_of_lt (ofSigned_lt _ _))

/-- A SOURCE word shows the far quality and node (R247). -/
theorem sourceRx_shows (s : State) (n : Nat) (w : BitVec 40) :
    (s.sourceRx n w).fld TMB_LANE_STATUS.Q n = w.toNat / 2 ^ 38 ∧ (s.sourceRx n w).fld TMB_LANE_STATUS.NODE n = w.toNat / 256 % 65536 := by
  have hw := w.isLt
  have hafter (u : State) (c c' : Prop) [Decidable c] [Decidable c'] : Evolves takeSourceScope u
      (if c then (if c' then u.dropSource else u.followQuality.showSource) else u).selectFirst :=
    (((Evolves.refl u).when fun h => .ite h.dropSource h.followQuality.showSource)).selectFirst
  unfold State.sourceRx
  refine ⟨(Evolves.fld (hafter _ _ _) TMB_LANE_STATUS.Q n).trans ?_, (Evolves.fld (hafter _ _ _) TMB_LANE_STATUS.NODE n).trans ?_⟩
  · simp (disch := decide) only [State.fld_setFld_of_apart, State.fld_setFld_eq]
    simp [BitVec.extractLsb'_toNat, Nat.shiftRight_eq_div_pow]
    omega
  · simp (disch := decide) only [State.fld_setFld_eq]
    simp [BitVec.extractLsb'_toNat, Nat.shiftRight_eq_div_pow]

/-- Settles the first clause of O4. -/
theorem timeWord_received (s : State) (n : Lane) (w : BitVec 44) (h : s.timeLane n = true) :
    let sub := (w.extractLsb' 40 4).toNat
    let v := (w.extractLsb' 0 40).toNat
    let r : Int := (ts96To16 (BitVec.ofNat 96 (s.fld TMB_FRAME_RX.TS n)) : Nat)
    Completes (.timeWordReceived n w) s fun t =>
      t.fld LFEC_OAM_RX.COUNT n = (s.fld LFEC_OAM_RX.COUNT n + 1) % 2 ^ LFEC_OAM_RX.COUNT.width ∧
      t.fld TMB_TIME_RX.COUNT n = (s.fld TMB_TIME_RX.COUNT n + 1) % 2 ^ TMB_TIME_RX.COUNT.width ∧
      (sub = 0 → (t.tlaneOf n).toAnswer = some (v / 2 ^ 38, r) ∧ (t.tlaneOf n).fineRx = some (v % 2 ^ 38, r, s.cycle) ∧
        Keeps [(.LFEC_OAM_RX, n), (.TMB_TIME_RX, n)] s t) ∧
      (∀ a, sub = 1 → v % 2 ^ 38 ≠ 2 ^ 38 - 1 → (s.tlaneOf n).fines.find? (fun e => e.1 = v / 2 ^ 38 % 4) = some (v / 2 ^ 38 % 4, a) →
        t.flag TMB_RTT.VALID n = true ∧ t.fld TMB_RTT.RTT n = ofSigned 48 (r - a - Int.ofNat (v % 2 ^ 38)) ∧
        Keeps [(.LFEC_OAM_RX, n), (.TMB_TIME_RX, n), (.TMB_RTT, n), (.CIN_LANE_CFG, n), (.CIN_LANE_STATUS, n)] s t) ∧
      (sub = 3 → v % 256 = 0 → t.fld TMB_LANE_STATUS.Q n = v / 2 ^ 38 ∧ t.fld TMB_LANE_STATUS.NODE n = v / 256 % 65536) ∧
      (sub = 4 → v < 2 ^ 32 → (t.tlaneOf n).farBound = v ∧ Keeps [(.LFEC_OAM_RX, n), (.TMB_TIME_RX, n)] s t) ∧
      (5 ≤ sub → t.fld TMB_SUB_RSVD.COUNT n = (s.fld TMB_SUB_RSVD.COUNT n + 1) % 2 ^ TMB_SUB_RSVD.COUNT.width) := by
  intro sub v r
  have hcounted : Frame (fun q i => (q, i) ∈ [(Reg.LFEC_OAM_RX, (n : Nat)), (.TMB_TIME_RX, (n : Nat))]) s (timeWordCounted s n) :=
    ((Frame.refl s).count).count
  obtain ⟨K, hev, hoam, htime⟩ := timeWordUsed_spares (timeWordCounted s n) n sub (w.extractLsb' 0 40) r
  refine ⟨_, exec_timeWordReceived w h, ?_, ?_, fun hs => ?_, fun a hs hmax htag => ?_, fun hs hv => ?_, fun hs hv => ?_, fun hs => ?_⟩
  · refine (hev.fld LFEC_OAM_RX.COUNT n hoam).trans ?_
    simp (disch := decide) only [timeWordCounted, State.fld_count_of_apart, State.fld_count_eq]
    rfl
  · refine (hev.fld TMB_TIME_RX.COUNT n htime).trans ?_
    simp (disch := decide) only [timeWordCounted, State.fld_count_of_apart, State.fld_count_eq]
    rfl
  · rw [timeWordUsed, if_pos hs]
    exact ⟨by rw [State.tlaneOf_modTlane_same], by rw [State.tlaneOf_modTlane_same]; rfl, hcounted.modTlane.keeps⟩
  · rw [timeWordUsed, if_neg (by omega), if_pos hs]
    obtain ⟨hvalid, hrtt, hkeeps⟩ := rxFine_shows (n := n) (timeWordCounted s n) r hmax htag
    exact ⟨hvalid, hrtt, ((hcounted.mono fun q i hq => by simp at hq ⊢; tauto).trans
      ((Frame.of_keeps hkeeps).mono fun q i hq => by simp at hq ⊢; tauto)).keeps⟩
  · rw [timeWordUsed, if_neg (by omega), if_neg (by omega), if_neg (by omega), if_pos ⟨hs, hv⟩]
    exact sourceRx_shows _ n _
  · rw [timeWordUsed, if_neg (by omega), if_neg (by omega), if_neg (by omega), if_neg (by omega), if_pos ⟨hs, hv⟩]
    exact ⟨by rw [State.tlaneOf_modTlane_same], hcounted.modTlane.keeps⟩
  · rw [timeWordUsed, if_neg (by omega), if_neg (by omega), if_neg (by omega), if_neg (by omega), if_neg (by omega)]
    simp (disch := decide) only [timeWordCounted, State.fld_count_of_apart, State.fld_count_eq]
    rfl

/-! ### The source -/

theorem sourceSelection_replaces {k : TimeSource} {rank lane : Nat} (hbest : s.bestCandidate = some (k, rank, lane)) (hother : k ≠ s.time.source)
    (hlong : s.longBest k = true) :
    Completes .sourceSelection s fun t => t.time.source = k ∧ (∀ a, t.memByte a = s.memByte a) := by
  have hexec : exec .sourceSelection s = .next (s.replaceSource k) := by
    refine (show _ = execSourceSelection s from rfl).trans ?_
    rw [execSourceSelection, hbest]
    exact congrArg _ (if_neg (by simp [hother, hlong]))
  refine ⟨_, hexec, ?_, fun a => ((Evolves.refl s).replaceSource (K := replaceSourceScope)).memByte a⟩
  unfold State.replaceSource
  dsimp only
  split
  · rw [State.source_followerBound]
    exact (s.takeSource_cases k).2
  · exact (s.takeSource_cases k).2

theorem sourceLoss_unlocks (h : s.sourceSilent = true) :
    Completes .sourceLoss s fun t => t.quality ≠ Quality.LOCKED ∧ (∀ a, t.memByte a = s.memByte a) := by
  have hexec : exec .sourceLoss s = .next s.dropSource.selectFirst := by
    refine (show _ = execSourceLoss s from rfl).trans ?_
    rw [execSourceLoss, if_pos h]
  refine ⟨_, hexec, ?_, fun a => ((Evolves.refl s).dropSource.selectFirst (K := takeSourceScope)).memByte a⟩
  rcases s.dropSource.selectFirst_quality with hq | hq <;> rw [hq]
  · rw [State.quality_dropSource, State.quality_toHoldover]
    split
    · decide
    · assumption
  · decide

/-! ### Lock -/

theorem timeLock_qualifies {q hops node c : Nat} (hup : s.upstream = some (q, hops, node)) (hlost : s.quality ≠ Quality.LOST)
    (hnear : s.time.nearSince = some c) (hlong : c + 1562500 ≤ s.cycle) :
    Completes .timeLockQualified s fun t =>
      t.quality = (if q = Quality.LOCKED then Quality.LOCKED
        else if s.quality = Quality.ESTIMATED then Quality.HOLDOVER else s.quality) ∧
      KeepsKinds [.TMB_QUALITY, .TMB_ERR_BOUND, .TMB_STATUS] s t := by
  have hexec : exec .timeLockQualified s = .next (if q = Quality.LOCKED then
      (if s.quality = Quality.LOCKED then s else (s.setQuality Quality.LOCKED s.boundNow).followerBound)
      else if s.quality = Quality.ESTIMATED then s.setQuality Quality.HOLDOVER s.boundNow else s) := by
    refine (show _ = execTimeLockQualified s from rfl).trans ?_
    have hnear : (s.time.nearSince.any fun c => decide (c + 1562500 ≤ s.cycle)) = true := by
      rw [hnear, Option.any_some]
      exact decide_eq_true hlong
    rw [execTimeLockQualified, hup]
    dsimp only
    rw [hnear, if_neg (not_or.2 ⟨hlost, by decide⟩)]
    exact (apply_ite _ _ _ _).symm
  have h := Evolves.refl (K := .of [.TMB_QUALITY, .TMB_ERR_BOUND, .TMB_STATUS] [.freeCtr, .time]) s
  refine ⟨_, hexec, ?_, (Evolves.ite (h.skip fun h => h.setQuality.followerBound) (h.when fun h => h.setQuality)).kinds⟩
  split
  · split
    · assumption
    · exact (State.quality_followerBound _).trans (State.quality_setQuality ..)
  · split
    · exact State.quality_setQuality ..
    · rfl

/-- Settles O4: a TIME word is counted and used by its sub-type, a change of source leaves the quality of the step it takes, and lock follows
the quality of the source. -/
theorem timeTransfer : Obligations.TimeTransfer := by
  unfold Obligations.TimeTransfer
  exact ⟨fun s n w h => timeWord_received s n w h, fun _ _ _ _ hbest hother hlong => sourceSelection_replaces hbest hother hlong,
    fun _ h => sourceLoss_unlocks h, fun _ _ _ _ _ hup hlost hnear hlong => timeLock_qualifies hup hlost hnear hlong⟩

end Sys2Proof.Proofs
end

section
/-! PROOFS. O5, the clock's commands (chapter 8): a counterexample. -/
namespace Sys2Proof.Proofs
open Sys2Proof Sys2Proof.Machine Sys2Proof.Claims
set_option Elab.async false

/-- A device LOCKED as its own source that calibrates a lane's asymmetry. -/
def calibrating : State := (State.reset.setFld TMB_QUALITY.Q 0 Quality.LOCKED).setFlag TMB_STATUS.CAL_BUSY 0 true

theorem calibrating_accepts : Accepts calibrating .firmware .TMB_SET 0 := by decide +kernel

/-- The set value leaves LOCKED, which ends the calibration ABORTED: the one result of both shows 4. -/
theorem calibrating_tmbSet :
    (match exec (.tmbSet .firmware 0) calibrating with
      | .next t => t.fld TMB_STATUS.RESULT 0
      | _ => 0) = 4 := by decide +kernel

/-- Refutes O5: TMB_SET that leaves quality LOCKED during a calibration ends it ABORTED, and `TMB_STATUS.RESULT` then reads 4, not 0. -/
theorem not_clockCommands : ¬ Obligations.ClockCommands := by
  unfold Obligations.ClockCommands
  rintro ⟨hset, -⟩
  obtain ⟨t, ht, -, -, -, hresult⟩ := (hset calibrating .firmware 0 calibrating_accepts).1 (by decide +kernel) (by decide +kernel)
  have h := calibrating_tmbSet
  rw [ht] at h
  exact absurd (h.symm.trans hresult) (by decide)

end Sys2Proof.Proofs
end

section
/-! PROOFS. O6, PPS pins and the IEEE 1588 transparent clock (chapter 8). -/
namespace Sys2Proof.Proofs
open Sys2Proof Sys2Proof.Machine Sys2Proof.Claims
set_option Elab.async false

/-! ### Big-endian fields of a frame -/

theorem beAt_succ (f : List Byte) (k n : Nat) : beAt f k (n + 1) = 256 * beAt f k n + byteAt f (k + n) := by
  rw [beAt, List.range_succ, List.foldl_append]
  rfl

theorem beAt_eq (f : List Byte) (k n : Nat) : beAt f k n = beValue ((List.range n).map fun i => f.getD (k + i) 0) := by
  induction n with
  | zero => rfl
  | succ n ih =>
    rw [beAt_succ, ih, beValue, beValue, List.range_succ, List.map_append, List.reverse_append, Nat.add_comm]
    rfl

theorem beAt_congr {f g : List Byte} {k n : Nat} (h : ∀ i < n, g.getD (k + i) 0 = f.getD (k + i) 0) : beAt g k n = beAt f k n := by
  rw [beAt_eq, beAt_eq]
  exact congrArg beValue (List.map_congr_left fun i hi => h i (List.mem_range.1 hi))

theorem length_setAt {f bs : List Byte} {k : Nat} (h : k + bs.length ≤ f.length) : (setAt f k bs).length = f.length := by
  simp only [setAt, List.length_append, List.length_take, List.length_drop]
  omega

theorem getD_setAt_other {f bs : List Byte} {k j : Nat} (h : k + bs.length ≤ f.length) (hj : j < k ∨ k + bs.length ≤ j) :
    (setAt f k bs).getD j 0 = f.getD j 0 := by
  simp only [setAt, List.getD_eq_getElem?_getD, List.append_assoc]
  rcases hj with hj | hj
  · rw [List.getElem?_append_left (by rw [List.length_take]; omega), List.getElem?_take_of_lt hj]
  · rw [List.getElem?_append_right (by rw [List.length_take]; omega), List.length_take, min_eq_left (by omega),
      List.getElem?_append_right (by omega), List.getElem?_drop, show k + bs.length + (j - k - bs.length) = j by omega]

theorem getD_setAt_same {f bs : List Byte} {k i : Nat} (h : k + bs.length ≤ f.length) (hi : i < bs.length) :
    (setAt f k bs).getD (k + i) 0 = bs.getD i 0 := by
  simp only [setAt, List.getD_eq_getElem?_getD, List.append_assoc]
  rw [List.getElem?_append_right (by rw [List.length_take]; omega), List.length_take, min_eq_left (by omega), Nat.add_sub_cancel_left,
    List.getElem?_append_left hi]

theorem beAt_setAt_other {f bs : List Byte} {k j n : Nat} (h : k + bs.length ≤ f.length) (hj : j + n ≤ k ∨ k + bs.length ≤ j) :
    beAt (setAt f k bs) j n = beAt f j n := beAt_congr fun i hi => getD_setAt_other h (by omega)

theorem beAt_setAt_same {f : List Byte} {k : Nat} (n v : Nat) (h : k + n ≤ f.length) :
    beAt (setAt f k (beBytes n v)) k n = v % 256 ^ n := by
  have hlen := length_beBytes n v
  rw [beAt_eq, ← beValue_beBytes]
  refine congrArg beValue (List.ext_getElem (by simp [hlen]) fun i hi hi' => ?_)
  rw [List.getElem_map, List.getElem_range, getD_setAt_same (by omega) hi', List.getD_eq_getElem _ _ hi']

theorem beAt_take_append {g w : List Byte} {m k n : Nat} (hm : m ≤ g.length) (h : k + n ≤ m) : beAt (g.take m ++ w) k n = beAt g k n := by
  refine beAt_congr fun i hi => ?_
  rw [List.getD_eq_getElem?_getD, List.getD_eq_getElem?_getD, List.getElem?_append_left (by rw [List.length_take]; omega),
    List.getElem?_take_of_lt (by omega)]

/-! ### The PTP header -/

/-- A supported message holds its header with 38 bytes to follow its start, and its UDP checksum, if any, just before it. -/
theorem ptpPlace_bounds {f : List Byte} {h : Nat} {ck : Option Nat} (hp : ptpPlace f = some (h, ck)) :
    h + 38 ≤ f.length ∧ ∀ k, ck = some k → k + 2 = h := by
  unfold ptpPlace at hp
  obtain ⟨hplace, hlen⟩ := Option.filter_eq_some_iff.1 hp
  refine ⟨(of_decide_eq_true hlen).2.2, fun k hk => ?_⟩
  subst hk
  dsimp only at hplace
  split_ifs at hplace <;> simp only [Option.some.injEq, Prod.mk.injEq, reduceCtorEq, and_false] at hplace <;> omega

/-- The header's fields are those written (Table 8-6). -/
theorem fields_ptpUpdate {f : List Byte} {h : Nat} {ck : Option Nat} (hp : ptpPlace f = some (h, ck)) (mts : BitVec 32) (c : BitVec 64) :
    mtsOf (ptpUpdate f h ck mts c) h = mts ∧ correctionOf (ptpUpdate f h ck mts c) h = c := by
  obtain ⟨hlen, hck⟩ := ptpPlace_bounds hp
  have h8 := length_beBytes 8 c.toNat
  have h4 := length_beBytes 4 mts.toNat
  have hfirst : (setAt f (h + 8) (beBytes 8 c.toNat)).length = f.length := length_setAt (by omega)
  have hsecond : (setAt (setAt f (h + 8) (beBytes 8 c.toNat)) (h + 16) (beBytes 4 mts.toNat)).length = f.length :=
    (length_setAt (by omega)).trans hfirst
  have hfields (k v : Nat) (hk : k + 2 = h) :
      (setAt (setAt (setAt f (h + 8) (beBytes 8 c.toNat)) (h + 16) (beBytes 4 mts.toNat)) k (beBytes 2 v)).length = f.length :=
    (length_setAt (by rw [length_beBytes]; omega)).trans hsecond
  have hm : beAt (setAt (setAt f (h + 8) (beBytes 8 c.toNat)) (h + 16) (beBytes 4 mts.toNat)) (h + 16) 4 = mts.toNat % 256 ^ 4 :=
    beAt_setAt_same 4 _ (by omega)
  have hc : beAt (setAt (setAt f (h + 8) (beBytes 8 c.toNat)) (h + 16) (beBytes 4 mts.toNat)) (h + 8) 8 = c.toNat % 256 ^ 8 :=
    (beAt_setAt_other (by omega) (.inl (by omega))).trans (beAt_setAt_same 8 _ (by omega))
  suffices hsuff : beAt (ptpUpdate f h ck mts c) (h + 16) 4 = mts.toNat % 256 ^ 4 ∧ beAt (ptpUpdate f h ck mts c) (h + 8) 8 = c.toNat % 256 ^ 8 by
    rw [mtsOf, correctionOf, hsuff.1, hsuff.2]
    constructor
    · rw [Nat.mod_eq_of_lt (by have := mts.isLt; omega), BitVec.ofNat_toNat, BitVec.setWidth_eq]
    · rw [Nat.mod_eq_of_lt (by have := c.isLt; omega), BitVec.ofNat_toNat, BitVec.setWidth_eq]
  unfold ptpUpdate
  cases ck with
  | none =>
    dsimp only
    exact ⟨(beAt_take_append (by omega) (by omega)).trans hm, (beAt_take_append (by omega) (by omega)).trans hc⟩
  | some k =>
    have hk := hck k rfl
    have h2 (v : Nat) := length_beBytes 2 v
    dsimp only
    exact ⟨(beAt_take_append (by rw [hfields _ _ hk]; omega) (by omega)).trans
        ((beAt_setAt_other (by rw [h2]; omega) (.inr (by rw [h2]; omega))).trans hm),
      (beAt_take_append (by rw [hfields _ _ hk]; omega) (by omega)).trans
        ((beAt_setAt_other (by rw [h2]; omega) (.inr (by rw [h2]; omega))).trans hc)⟩

/-! ### The transparent clock -/

section
variable {s : State} {p : Fin 32} {f : List Byte} {h : Nat} {ck : Option Nat}

theorem ptp_ingress (off : Fin 136) (htc : s.tcPort p = true) (hp : ptpPlace f = some (h, ck)) (hears : s.portHears p = true) :
    Completes (.ptpIngress p off f) s fun t =>
      (mtsOf f h ≠ 0 → t.time.ptp = f ∧ Counts TMB_TC_SKIP.COUNT p s t ∧ Keeps [(.TMB_TC_SKIP, p)] s t) ∧
      (mtsOf f h = 0 → s.quality = Quality.LOCKED → Keeps [] s t ∧
        t.time.ptp = ptpUpdate f h ck (if ptpStamp (s.hostInstant off) = 0 then 1 else ptpStamp (s.hostInstant off)) (correctionOf f h)) ∧
      (mtsOf f h = 0 → s.quality ≠ Quality.LOCKED → t.time.ptp = f ∧ Keeps [] s t) := by
  have hexec : exec (.ptpIngress p off f) s = if mtsOf f h ≠ 0 then .next ((s.count TMB_TC_SKIP.COUNT p).forwardPtp f)
      else if s.quality = Quality.LOCKED then .next (s.forwardPtp (ptpUpdate f h ck
        (if ptpStamp (s.hostInstant off) = 0 then 1 else ptpStamp (s.hostInstant off)) (correctionOf f h)))
      else .next (s.forwardPtp f) := by
    refine (show _ = execPtpIngress p off f s from rfl).trans ?_
    rw [execPtpIngress, hears, if_neg (by decide), if_pos htc, hp]
  by_cases hm : mtsOf f h = 0
  · rw [if_neg (not_not.2 hm)] at hexec
    by_cases hq : s.quality = Quality.LOCKED
    · rw [if_pos hq] at hexec
      exact ⟨_, hexec, fun h => absurd hm h, fun _ _ => ⟨(Frame.refl s).setTime.keeps, rfl⟩, fun _ h => absurd hq h⟩
    · rw [if_neg hq] at hexec
      exact ⟨_, hexec, fun h => absurd hm h, fun _ h => absurd h hq, fun _ _ => ⟨rfl, (Frame.refl s).setTime.keeps⟩⟩
  · rw [if_pos hm] at hexec
    exact ⟨_, hexec, fun _ => ⟨rfl, counts_count _ _ s, (Frame.refl s).count.setTime.keeps⟩, fun h => absurd h hm, fun h => absurd h hm⟩

theorem ptp_egress (off : Fin 136) (htc : s.tcPort p = true) (hp : ptpPlace f = some (h, ck)) (hm : mtsOf f h ≠ 0) :
    Completes (.ptpEgress p off f) s fun t =>
      (s.quality = Quality.LOCKED → Counts TMB_TC_CORR.COUNT p s t ∧ Keeps [(.TMB_TC_CORR, p)] s t ∧
        t.time.ptp = ptpUpdate f h ck 0 (correctionOf f h + ((ptpStamp (s.hostInstant off) - mtsOf f h).setWidth 64 <<< 8))) ∧
      (s.quality ≠ Quality.LOCKED → t.time.ptp = ptpUpdate f h ck 0 (correctionOf f h) ∧ Counts TMB_TC_UNLOCK.COUNT p s t ∧
        Keeps [(.TMB_TC_UNLOCK, p)] s t) := by
  have hexec : exec (.ptpEgress p off f) s = if s.quality = Quality.LOCKED then
      .next ((s.count TMB_TC_CORR.COUNT p).forwardPtp (ptpUpdate f h ck 0
        (correctionOf f h + ((ptpStamp (s.hostInstant off) - mtsOf f h).setWidth 64 <<< 8))))
      else .next ((s.count TMB_TC_UNLOCK.COUNT p).forwardPtp (ptpUpdate f h ck 0 (correctionOf f h))) := by
    refine (show _ = execPtpEgress p off f s from rfl).trans ?_
    rw [execPtpEgress, if_pos htc, hp]
    exact if_neg hm
  by_cases hq : s.quality = Quality.LOCKED
  · rw [if_pos hq] at hexec
    exact ⟨_, hexec, fun _ => ⟨counts_count _ _ s, (Frame.refl s).count.setTime.keeps, rfl⟩, fun h => absurd hq h⟩
  · rw [if_neg hq] at hexec
    exact ⟨_, hexec, fun h => absurd h hq, fun _ => ⟨rfl, counts_count _ _ s, (Frame.refl s).count.setTime.keeps⟩⟩

end

/-! ### PPS -/

section
variable {s : State}

theorem sourceFirst_of_none (hsel : Instr.sourceSelection ∉ s.pending) (hloss : Instr.sourceLoss ∉ s.pending) : s.sourceFirst = s := by
  unfold State.sourceFirst
  rw [if_neg (by simpa using hsel), if_neg (by simpa using hloss)]

/-- What a capture of the value `v` leaves of the registers, whatever becomes of the time. -/
theorem captured_shows (s : State) {v : Nat} (hv : v < 2 ^ 96) (x : TimeX) :
    let t : State := { (s.setFld TMB_PPS_IN_TS.TS 0 v).count TMB_PPS_EDGES.COUNT 0 with time := x }
    Counts TMB_PPS_EDGES.COUNT 0 s t ∧ t.fld TMB_PPS_IN_TS.TS 0 = v ∧
      Frame (fun r i => (r, i) ∈ [(Reg.TMB_PPS_EDGES, 0), (.TMB_PPS_IN_TS, 0)]) s t := by
  refine ⟨?_, ?_, (((Frame.refl s).setFld).count).setTime⟩
  · exact (counts_count 0 1 (s.setFld TMB_PPS_IN_TS.TS 0 v)).after (s.fld_setFld_of_apart 0 0 _ (by decide))
  · refine (State.fld_count_of_apart (s.setFld TMB_PPS_IN_TS.TS 0 v) _ _ _ (by decide)).trans ?_
    exact (s.fld_setFld_eq 0 _ (by decide)).trans (Nat.mod_eq_of_lt hv)

/-- A capture shows its instant and counts the edge (R265). -/
theorem ppsCapture_shows (s : State) (x : Int) : Counts TMB_PPS_EDGES.COUNT 0 s (s.ppsCapture x) ∧
    (s.ppsCapture x).fld TMB_PPS_IN_TS.TS 0 = (ts96Of x.toNat).toNat ∧ (s.ppsCapture x).time.ppsAt = some s.cycle ∧
    (s.ppsCapture x).now = s.now ∧ Frame (fun r i => (r, i) ∈ [(Reg.TMB_PPS_EDGES, 0), (.TMB_PPS_IN_TS, 0)]) s (s.ppsCapture x) := by
  have hv := (ts96Of x.toNat).isLt
  generalize hvalue : (ts96Of x.toNat).toNat = v at hv
  have hregs : ∃ x' : TimeX, s.ppsCapture x = { (s.setFld TMB_PPS_IN_TS.TS 0 v).count TMB_PPS_EDGES.COUNT 0 with time := x' } ∧
      x'.ppsAt = some s.cycle ∧ x'.sec = s.time.sec ∧ x'.sub = s.time.sub := by
    unfold State.ppsCapture
    rw [hvalue]
    dsimp only
    split <;> exact ⟨_, rfl, rfl, rfl, rfl⟩
  obtain ⟨x', hx, hat, hsec, hsub⟩ := hregs
  have hnow : x'.now16 = s.time.now16 := by rw [TimeX.now16, TimeX.now16, hsec, hsub]
  obtain ⟨hcount, hts, hframe⟩ := captured_shows s hv x'
  rw [hx]
  exact ⟨hcount, hts, hat, congrArg ts96Of hnow, hframe⟩

/-- In DISCIPLINE an edge leaves what the capture shows. -/
theorem ppsDiscipline_spares (s : State) (x : Int) :
    ∃ K : Scope, Evolves K s (s.ppsDiscipline x) ∧ K.hasReg .TMB_PPS_EDGES = false ∧ K.hasReg .TMB_PPS_IN_TS = false :=
  ⟨ppsDisciplineScope, (Evolves.refl s).ppsDiscipline, by decide +kernel, by decide +kernel⟩

theorem pps_in (off : Fin 136) {width : Nat} (hmode : s.fld TMB_PPS_CFG.IN_MODE 0 ≠ 0) (hwide : 100 ≤ width)
    (hsel : Instr.sourceSelection ∉ s.pending) (hloss : Instr.sourceLoss ∉ s.pending) :
    Completes (.ppsInEdge off width) s fun t =>
      t.fld TMB_PPS_EDGES.COUNT 0 = (s.fld TMB_PPS_EDGES.COUNT 0 + 1) % 2 ^ TMB_PPS_EDGES.COUNT.width ∧
      t.fld TMB_PPS_IN_TS.TS 0 =
        (ts96Of ((s.hostInstant off : Int) - toSigned 32 (s.fld TMB_PPS_IN_DLY.DLY 0) * 65536 / 1000).toNat).toNat ∧
      (s.fld TMB_PPS_CFG.IN_MODE 0 ≠ 2 ∨ s.time.source ≠ .self → t.now = s.now ∧ t.time.ppsAt = some s.cycle ∧
        Keeps [(.TMB_PPS_EDGES, 0), (.TMB_PPS_IN_TS, 0)] s t) := by
  obtain ⟨hcount, hts, hat, hnow, hframe⟩ :=
    ppsCapture_shows s ((s.hostInstant off : Int) - toSigned 32 (s.fld TMB_PPS_IN_DLY.DLY 0) * 65536 / 1000)
  generalize hu : s.ppsCapture _ = u at hcount hts hat hnow hframe
  have hsource : u.time.source = s.time.source := by
    rw [← hu, State.ppsCapture]
    dsimp only
    split <;> rfl
  have hexec : exec (.ppsInEdge off width) s =
      .next (if u.fld TMB_PPS_CFG.IN_MODE 0 = 2 ∧ u.time.source = .self then u.ppsDiscipline
        ((s.hostInstant off : Int) - toSigned 32 (s.fld TMB_PPS_IN_DLY.DLY 0) * 65536 / 1000) else u) := by
    refine (show _ = execPpsInEdge off width s from rfl).trans ?_
    rw [execPpsInEdge, sourceFirst_of_none hsel hloss, ← hu]
    exact if_neg (not_or.2 ⟨hmode, Nat.not_lt.2 hwide⟩)
  have hin : u.fld TMB_PPS_CFG.IN_MODE 0 = s.fld TMB_PPS_CFG.IN_MODE 0 := hframe.fld_eq (by simp)
  rw [hin, hsource] at hexec
  split at hexec
  next h =>
    obtain ⟨K, hev, hedges, hinTs⟩ := ppsDiscipline_spares u
      ((s.hostInstant off : Int) - toSigned 32 (s.fld TMB_PPS_IN_DLY.DLY 0) * 65536 / 1000)
    exact ⟨_, hexec, (hev.fld _ 0 hedges).trans hcount, (hev.fld _ 0 hinTs).trans hts,
      fun hor => absurd h (not_and_or.2 hor)⟩
  next => exact ⟨_, hexec, hcount, hts, fun _ => ⟨hnow, hat, hframe.keeps⟩⟩

theorem pps_missing (hmode : s.fld TMB_PPS_CFG.IN_MODE 0 = 2) (hself : s.time.source = .self) (hsilent : s.ppsSilent = true) :
    Completes .ppsMissing s fun t =>
      t.fld TMB_PPS_MISS.COUNT 0 = (s.fld TMB_PPS_MISS.COUNT 0 + 1) % 2 ^ TMB_PPS_MISS.COUNT.width ∧
      t.quality = (if s.quality = Quality.LOCKED then Quality.HOLDOVER else s.quality) ∧
      KeepsKinds [.TMB_PPS_MISS, .TMB_QUALITY, .TMB_ERR_BOUND, .TMB_STATUS] s t := by
  obtain ⟨u, hu⟩ : ∃ u : State, u = { s.count TMB_PPS_MISS.COUNT 0 with time := { s.time with ppsGoodRun := 0 } } := ⟨_, rfl⟩
  have hexec : exec .ppsMissing s = .next u.toHoldover.calAbort := by
    refine (show _ = execPpsMissing s from rfl).trans ?_
    rw [execPpsMissing, hsilent, if_neg (by decide), if_pos ⟨hmode, hself⟩, hu]
    rfl
  have hev : Evolves (.of [.TMB_PPS_MISS] [.time]) s u :=
    hu ▸ ((Evolves.refl s).count (f := TMB_PPS_MISS.COUNT)).setTime id
  have hcount : Counts TMB_PPS_MISS.COUNT 0 s u := (counts_count 0 1 s).then (hu ▸ rfl)
  have hlast := ((Evolves.refl u).toHoldover (K := .of [.TMB_QUALITY, .TMB_ERR_BOUND, .TMB_STATUS] [.time])).calAbort
  refine ⟨_, hexec, hcount.then (hlast.fld _ 0), ?_, ((hev.mono (K := .of [.TMB_PPS_MISS, .TMB_QUALITY, .TMB_ERR_BOUND, .TMB_STATUS] [.time])
    (by decide +kernel)).trans (hlast.mono (by decide +kernel))).kinds⟩
  rw [State.quality_calAbort, State.quality_toHoldover, hev.quality]

theorem pps_rise (hen : s.flag TMB_PPS_CFG.OUT_EN 0 = true) (hgate : s.ppsGate = true)
    (hlast : ∀ c, s.time.ppsOutLast = some c → 390625000 ≤ s.cycle - c) (hreached : s.ppsReached = true)
    (hsec : s.time.ppsOutSec ≠ some s.ppsSecond) :
    exec .ppsOutRise s = .next { s with time :=
      { s.time with ppsOut := true, ppsOutLast := some s.cycle, ppsOutSec := some s.ppsSecond } } := by
  refine (show _ = execPpsOutRise s from rfl).trans ?_
  rw [execPpsOutRise, hen, hgate, hreached]
  cases hout : s.time.ppsOutLast with
  | none => exact if_pos (by rw [decide_eq_true hsec]; rfl)
  | some c => exact if_pos (by simp only [decide_eq_true hsec, decide_eq_false (Nat.not_lt.2 (hlast c hout))]; rfl)

/-- Settles O6: a capture stands whatever the edge then does, a missing edge leaves LOCKED, and a frame's PTP header takes the fields
written into it. -/
theorem ppsAndPtp : Obligations.PpsAndPtp := by
  unfold Obligations.PpsAndPtp
  refine ⟨fun s off _ hmode hwide hsel hloss => pps_in off hmode hwide hsel hloss, fun s hmode hself hsilent => pps_missing hmode hself hsilent,
    fun s hen hgate hlast hreached hsec => pps_rise hen hgate hlast hreached hsec, fun s h => ?_,
    fun s p off f h ck htc hp => ⟨fun hears => ptp_ingress off htc hp hears, fun hm => ptp_egress off htc hp hm, fields_ptpUpdate hp⟩⟩
  exact (show _ = execPpsOutFall s from rfl).trans (congrArg _ (if_pos h))

end

end Sys2Proof.Proofs
end

section
/-! PROOFS. O7, repair, retirement copies, scrubbing and the flip mask (chapter 14). -/
namespace Sys2Proof.Proofs
open Sys2Proof Sys2Proof.Machine Sys2Proof.Claims
set_option Elab.async false
variable {s t : State} {m page w : Nat}

/-! ### What retirement, repair and scrubbing leave of the errors -/

/-- Retirement leaves the errors, the marks and the scrubber's place. -/
theorem memx_retire (s : State) (m page : Nat) (injected : Bool) :
    ∃ mapped copying, (s.retire m page injected).memx = { s.memx with mappedOut := mapped, copying := copying } := by
  have hmapOut : (s.mapOut m page).memx = { s.memx with mappedOut := s.memx.mappedOut ++ [page] } := by
    unfold State.mapOut
    exact ((Evolves.refl (s.modMemx _)).each (K := .of [.CIN_LANE_STATUS] [.clane]) fun _ h => h.modClane.showSlots).part .memx
  unfold State.retire
  dsimp only
  split
  · exact ⟨_, _, rfl⟩
  split
  · exact ⟨_, _, ((((Evolves.refl (s.mapOut m page)).countSat (K := .of [.MEM_SPARE, .EVL_DROPPED, .GLB_STATE, .MGT_ALERT_STATUS]
      [.recorder, .risen, .mgt])).logMem.alert).part .memx).trans hmapOut⟩
  split
  · exact ⟨_, _, (((Evolves.refl s).showSpares (K := .of [.MEM_STATUS, .EVL_DROPPED] [.recorder])).logMem).part .memx⟩
  · exact ⟨_, _, ((((((Evolves.refl (s.modMemx _)).setFld (f := MEM_SPARE.LEFT) (K := .of [.MEM_SPARE, .MEM_STATUS, .EVL_DROPPED, .GLB_STATE,
      .MGT_ALERT_STATUS] [.recorder, .risen, .mgt])).countSat).showSpares).logMem).alert).part .memx⟩

theorem errAt_congr (h : t.memx.errs = s.memx.errs) (w : Nat) : t.errAt w = s.errAt w := by rw [State.errAt, State.errAt, h]

theorem errAt_retire (s : State) (m page : Nat) (injected : Bool) (w : Nat) : (s.retire m page injected).errAt w = s.errAt w := by
  obtain ⟨mapped, copying, h⟩ := memx_retire s m page injected
  exact errAt_congr (by rw [h]) w

/-- A list of errors from which those of a range are taken out that `p` holds of: a word of the range has none of them. -/
theorem errs_filter {l : List (Nat × Nat × Bool)} {a : Nat} {p : Nat → Bool} (hp : p 0 = false) (hw : inRange a 4096 w = true) :
    p (Tab.get (fun _ => (0, false)) (l.filter fun e => !(inRange a 4096 e.1 && p e.2.1)) w).1 = false := by
  induction l with
  | nil => exact hp
  | cons e l ih =>
    rw [List.filter_cons]
    split
    next he =>
      rw [Tab.get]
      split
      next heq =>
        rw [← heq, hw, Bool.true_and] at he
        simpa using he
      next => exact ih
    next => exact ih

/-- A page repaired has no word in error beyond the light code's reach (R397). -/
theorem errAt_repairPage (s : State) (hw : inRange page 4096 w = true) : weight ((s.repairPage m page).errAt w) ≤ 1 := by
  have hfilter := errs_filter (l := s.memx.errs) (p := fun mask => decide (2 ≤ weight mask)) (by decide) hw
  have hle : weight (Tab.get (fun _ => (0, false)) (s.memx.errs.filter fun e => !(inRange page 4096 e.1 && decide (2 ≤ weight e.2.1))) w).1 ≤ 1 :=
    Nat.le_of_lt_succ (Nat.lt_of_not_le (of_decide_eq_false hfilter))
  unfold State.repairPage
  dsimp only
  split
  · rw [errAt_retire]
    exact hle
  · exact hle

theorem count_repairPage (s : State) (m page : Nat) : Counts MEM_REPAIR.COUNT m s (s.repairPage m page) := by
  unfold State.repairPage
  dsimp only
  have hcount := counts_count (f := MEM_REPAIR.COUNT) m 1 s
  refine hcount.then ?_
  split
  · exact ((Evolves.refl (s.count MEM_REPAIR.COUNT m)).modMemx.retire (K := retireScope)).fld _ _
  · rfl

theorem page_repaired {m : Fin 21} {page : BitVec 10} (hdue : s.memx.repairing.contains (regionBase m + 4096 * page.toNat) = true)
    (hreach : s.inReach m (regionBase m + 4096 * page.toNat) = true) :
    Completes (.pageRepairDone m page) s fun t =>
      t.fld MEM_REPAIR.COUNT m = (s.fld MEM_REPAIR.COUNT m + 1) % 2 ^ MEM_REPAIR.COUNT.width ∧
      (∀ w, inRange (regionBase m + 4096 * page.toNat) 4096 w = true → weight (t.errAt w) ≤ 1) ∧
      KeepsKinds [.MEM_REPAIR, .MEM_SPARE, .MEM_STATUS, .CIN_LANE_STATUS, .MGT_ALERT_STATUS, .GLB_STATE, .EVL_DROPPED] s t := by
  generalize ha : regionBase m + 4096 * page.toNat = a at hdue hreach
  have hexec : exec (.pageRepairDone m page) s =
      .next ((s.repairPage m a).modMemx fun x => { x with repairing := x.repairing.erase a }) := by
    refine (show _ = execPageRepairDone m page s from rfl).trans ?_
    rw [execPageRepairDone, ha, if_pos hdue, State.mendPage, if_pos hreach]
  exact ⟨_, hexec, count_repairPage s m a, fun w hw => errAt_repairPage s hw,
    ((Evolves.refl s).repairPage (K := repairPageScope)).modMemx.kinds⟩

/-- What the end of a copy to a spare takes out of what is known of the page (R404). -/
def copyEnded (s : State) (a : Nat) : State := s.modMemx fun x => { x with
  copying := x.copying.erase a
  errs := x.errs.filter fun e => !inRange a 4096 e.1
  checkErrs := x.checkErrs.filter fun e => !inRange (16 * a) 16 e.1
  repairing := x.repairing.erase a
  repairAt := x.repairAt.filter fun e => e.1 ≠ a
  fixed := x.fixed.filter fun e => !inRange a 4096 e.1 }

theorem copy_done {m : Fin 21} {page : BitVec 10} (hdue : s.memx.copying.contains (regionBase m + 4096 * page.toNat) = true)
    (hreach : s.inReach m (regionBase m + 4096 * page.toNat) = true) :
    Completes (.retirementCopyDone m page) s fun t =>
      t.memx.copying = s.memx.copying.erase (regionBase m + 4096 * page.toNat) ∧
      (∀ w, inRange (regionBase m + 4096 * page.toNat) 4096 w = true → t.errAt w = 0) ∧ t.memx.poison = s.memx.poison ∧ Keeps [] s t := by
  generalize ha : regionBase m + 4096 * page.toNat = a at hdue hreach
  have hexec : exec (.retirementCopyDone m page) s = .next (copyEnded s a) := by
    refine (show _ = execRetirementCopyDone m page s from rfl).trans ?_
    rw [execRetirementCopyDone, ha, if_pos hdue, if_pos hreach]
    rfl
  refine ⟨_, hexec, rfl, fun w hw => ?_, rfl, (Frame.refl s).modMemx.keeps⟩
  exact congrArg Prod.fst (Tab.get_filter_gone (d := fun _ => (0, false)) s.memx.errs (fun k => !inRange a 4096 k) (by rw [hw]; rfl))

/-! ### The scrubber -/

theorem errAt_setErr (s : State) (v mask : Nat) (injected : Bool) (w : Nat) :
    (s.setErr v mask injected).errAt w = if w = v then mask else s.errAt w := by
  unfold State.setErr State.errAt State.modMemx
  dsimp only
  by_cases h : w = v
  · rw [h, Tab.get_set_same, if_pos rfl]
    split
    next h0 => exact h0.symm
    next => rfl
  · rw [Tab.get_set_other _ _ h, if_neg h]

/-- A word whose single-bit error is written back. -/
def wordScrubbed (s : State) (m v : Nat) : State := ((s.count MEM_CORR.COUNT m).setErr v 0 false).modMemx fun x =>
  { x with fixed := Tab.insert natLt v (s.fld MEM_LAP_COUNT.COUNT m) x.fixed }

/-- A word with a single-bit error is written back, and its page may be retired. -/
theorem scrubWord_of_single {v : Nat} (h : weight (s.errAt v) = 1) :
    s.scrubWord m v = wordScrubbed s m v ∨ ∃ injected, s.scrubWord m v = (wordScrubbed s m v).retire m (pageOf v) injected := by
  rw [State.scrubWord, if_pos h]
  exact (ite_eq_or_eq _ _ _).elim (fun h => .inr ⟨_, h⟩) .inl

/-- What the scrubber makes of a word's error. -/
theorem errAt_scrubWord (s : State) (m v w : Nat) :
    (s.scrubWord m v).errAt w = if w = v ∧ weight (s.errAt v) = 1 then 0 else s.errAt w := by
  by_cases h : weight (s.errAt v) = 1
  · have hset : (wordScrubbed s m v).errAt w = if w = v ∧ weight (s.errAt v) = 1 then 0 else s.errAt w := by
      simp only [h, and_true]
      exact errAt_setErr (s.count MEM_CORR.COUNT m) v 0 false w
    rcases scrubWord_of_single (m := m) h with e | ⟨injected, e⟩ <;> rw [e]
    · exact hset
    · exact (errAt_retire _ _ _ _ w).trans hset
  · rw [State.scrubWord, if_neg h, if_neg (fun hc => h hc.2)]

theorem scrub_scrubWord (s : State) (m v : Nat) : (s.scrubWord m v).memx.scrub = s.memx.scrub := by
  by_cases h : weight (s.errAt v) = 1
  · rcases scrubWord_of_single (m := m) h with e | ⟨injected, e⟩ <;> rw [e]
    · rfl
    · obtain ⟨mapped, copying, hm⟩ := memx_retire (wordScrubbed s m v) m (pageOf v) injected
      rw [hm]
      rfl
  · rw [State.scrubWord, if_neg h]

/-- After a pass over words none of them has a single-bit error (R401). -/
theorem weight_scrubbed (m : Nat) (ws : List Nat) (s : State) (h : w ∈ ws) : weight ((s.each ws fun v s => s.scrubWord m v).errAt w) ≠ 1 := by
  have hclean (s : State) (v : Nat) (h : weight (s.errAt w) ≠ 1) : weight ((s.scrubWord m v).errAt w) ≠ 1 := by
    rw [errAt_scrubWord]
    split
    · decide
    · exact h
  have hown (s : State) : weight ((s.scrubWord m w).errAt w) ≠ 1 := by
    rw [errAt_scrubWord]
    split
    · decide
    next h => exact fun h1 => h ⟨rfl, h1⟩
  induction ws generalizing s with
  | nil => cases h
  | cons v ws ih =>
    rcases List.mem_cons.1 h with rfl | hmem
    · exact State.each_keeps (P := fun t => weight (t.errAt w) ≠ 1) (fun v s h => hclean s v h) ws (hown s)
    · exact ih _ hmem

/-- The cells with the bits that have changed. -/
def upset (s : State) (m a : Nat) (upsets : List (Fin 32 × BitVec 72)) : State := upsets.foldl (fun s e =>
  let w := if byteStore m then a + e.1.val else (a + e.1.val) / 8 * 8
  s.setErr w (s.errAt w ^^^ e.2.toNat % 2 ^ (if byteStore m then 13 else 72)) (s.injectedAt w)) s

/-- The beat as the scrubber has read it. -/
def beatScrubbed (s : State) (m a : Nat) (upsets : List (Fin 32 × BitVec 72)) : State :=
  (upset s m a upsets).each (wordsOf m a 32) fun w s => s.scrubWord m w

theorem scrub_beatScrubbed (s : State) (m a : Nat) (upsets : List (Fin 32 × BitVec 72)) :
    (beatScrubbed s m a upsets).memx.scrub = s.memx.scrub := by
  refine State.each_keeps (P := fun t => t.memx.scrub = s.memx.scrub) (fun v u h => (scrub_scrubWord u m v).trans h) _ ?_
  show (upset s m a upsets).memx.scrub = s.memx.scrub
  unfold upset
  exact List.foldlRecOn (motive := fun t : State => t.memx.scrub = s.memx.scrub) upsets _ rfl fun u h e _ => h

theorem beatScrubbed_evolves (s : State) (m a : Nat) (upsets : List (Fin 32 × BitVec 72)) :
    Evolves scrubWordScope s (beatScrubbed s m a upsets) :=
  ((Evolves.refl s).foldl fun _ h => h.setErr).each fun _ h => h.scrubWord

theorem errAt_scrubPageEnd (s : State) (m page start w : Nat) : (s.scrubPageEnd m page start).errAt w = s.errAt w := by
  refine errAt_congr ?_ w
  have hdue (c : Prop) [Decidable c] (a : Nat) : ((if c then (s.modMemx fun x => { x with repairing := x.repairing ++ [a] }).alert Alert.MEMORY
      else s).memx.errs) = s.memx.errs := by
    split
    · generalize hu : s.modMemx _ = u
      have hsame : u.memx.errs = s.memx.errs := hu ▸ rfl
      exact (congrArg MemX.errs (((Evolves.refl u).alert (K := .of [.GLB_STATE, .MGT_ALERT_STATUS] [.risen, .mgt])).part .memx)).trans hsame
    · rfl
  unfold State.scrubPageEnd
  dsimp only
  split
  · exact hdue _ _
  · exact hdue _ _

theorem beat_scrubbed {m : Fin 21} {beat start : Nat} (upsets : List (Fin 32 × BitVec 72)) (hscrubs : s.scrubs m = true)
    (hturn : s.scrubTurn m = true) (hplace : Tab.get (fun _ => (0, 0, s.cycle)) s.memx.scrub m.val = (page, beat, start)) :
    Completes (.scrubBeat m upsets) s fun t =>
      (∀ w ∈ wordsOf m (regionBase m + 4096 * page + 32 * beat) 32, weight (t.errAt w) ≠ 1) ∧
      (beat < 127 → Tab.get (fun _ => (0, 0, s.cycle)) t.memx.scrub m.val = (page, beat + 1, start)) ∧
      KeepsKinds [.MEM_CORR, .MEM_SPARE, .MEM_STATUS, .MEM_SCRUB_LAP, .MEM_LAP_COUNT, .CIN_LANE_STATUS, .MGT_ALERT_STATUS,
        .GLB_STATE, .EVL_DROPPED] s t := by
  generalize ha : regionBase m + 4096 * page + 32 * beat = a
  generalize hu : beatScrubbed s m a upsets = u
  have hexec : exec (.scrubBeat m upsets) s = .next (if beat + 1 < 128 then
      u.modMemx fun x => { x with scrub := Tab.insert natLt m.val (page, beat + 1, start) x.scrub } else u.scrubPageEnd m page start) := by
    refine (show _ = execScrubBeat m upsets s from rfl).trans ?_
    rw [execScrubBeat, hscrubs, hturn, if_neg (by decide), hplace]
    dsimp only
    rw [ha, ← hu]
    rfl
  have hev : Evolves (.join [scrubWordScope, scrubPageEndScope]) s u := hu ▸ (beatScrubbed_evolves s m a upsets).mono (by decide +kernel)
  have hweight : ∀ w ∈ wordsOf m a 32, weight (u.errAt w) ≠ 1 := fun w hw => hu ▸ weight_scrubbed m _ _ hw
  refine ⟨_, hexec, fun w hw => ?_, fun hlt => ?_, (Evolves.ite hev.modMemx hev.scrubPageEnd).kinds⟩
  · split
    · exact hweight w hw
    · rw [errAt_scrubPageEnd]
      exact hweight w hw
  · rw [if_pos (by omega)]
    exact Tab.get_insert_same _ _ _

/-! ### The flip mask -/

/-- The commit of a whole register that takes the value: the value becomes the one last committed (R7). -/
theorem commitCommand_accepted {p : Path} {r : Reg} {i v : Nat} {act : State → State × WStatus} {s u : State} (hacc : Accepts s p r i)
    (hact : act (s.unstage (r, i)) = (u, .ok)) : ∃ c, commitCommand p r i v act s = .next { u with committed := c } := by
  rw [commitCommand, guardedWrite_accepted _ _ hacc]
  obtain ⟨-, ⟨-, heq⟩ | ⟨hno, -⟩⟩ := commitWhole_cases r i v act s
  · rw [heq, hact]
    exact ⟨_, rfl⟩
  · exact absurd (congrArg Prod.snd hact) hno

theorem flipMask_committed {p : Path} {v : BitVec 128} (hacc : Accepts s p .MEM_FLIP_MASK 0) (hstore : fieldOf v.toNat MEM_FLIP_MASK.STORE ≤ 6)
    (htarget : fieldOf v.toNat MEM_FLIP_MASK.TARGET ≤ 1) (hcount : fieldOf v.toNat MEM_FLIP_MASK.COUNT ≠ 0) :
    Completes (.flipMaskCommit p v) s fun t =>
      (∀ f ∈ [MEM_FLIP_MASK.ARM, MEM_FLIP_MASK.STORE, MEM_FLIP_MASK.TARGET, MEM_FLIP_MASK.COUNT, MEM_FLIP_MASK.MASK],
        t.fld f 0 = fieldOf v.toNat f) ∧
      t.memx.flipLeft = fieldOf v.toNat MEM_FLIP_MASK.COUNT ∧ Keeps [(.MEM_FLIP_MASK, 0)] s t := by
  have hfields : ∀ f ∈ [MEM_FLIP_MASK.ARM, MEM_FLIP_MASK.STORE, MEM_FLIP_MASK.TARGET, MEM_FLIP_MASK.COUNT, MEM_FLIP_MASK.MASK],
      (plainWrite .MEM_FLIP_MASK 0 v.toNat (s.unstage (.MEM_FLIP_MASK, 0))).fld f 0 = fieldOf v.toNat f := by
    intro f hf
    have hwritable : f.reg = .MEM_FLIP_MASK ∧ f.writable := by revert f; decide
    have hread := fld_plainWrite_of_writable (f := f) (by rw [hwritable.1]; decide) hwritable.2 0 v.toNat (s.unstage (.MEM_FLIP_MASK, 0))
    rwa [hwritable.1] at hread
  have hframe : Keeps [(.MEM_FLIP_MASK, 0)] s (plainWrite .MEM_FLIP_MASK 0 v.toNat (s.unstage (.MEM_FLIP_MASK, 0))) :=
    (keeps_unstage s _).trans (keeps_plainWrite _ _ _ _)
  have hact : wrFlipMask p v.toNat (s.unstage (.MEM_FLIP_MASK, 0)) =
      ((plainWrite .MEM_FLIP_MASK 0 v.toNat (s.unstage (.MEM_FLIP_MASK, 0))).modMemx fun x =>
        { x with flipLeft := fieldOf v.toNat MEM_FLIP_MASK.COUNT }, .ok) := if_neg (by omega)
  generalize plainWrite .MEM_FLIP_MASK 0 v.toNat (s.unstage (.MEM_FLIP_MASK, 0)) = u at hfields hframe hact
  obtain ⟨c, hexec⟩ := commitCommand_accepted (v := v.toNat) hacc hact
  exact ⟨_, hexec, hfields, rfl, hframe⟩

/-- Settles O7: repair takes out of a page what the light code cannot correct, a copy everything, the scrubber the single-bit errors of the
words it reads. -/
theorem memoryCommands : Obligations.MemoryCommands := by
  unfold Obligations.MemoryCommands
  exact ⟨fun _ _ _ hdue hreach => page_repaired hdue hreach, fun _ _ _ hdue hreach => copy_done hdue hreach,
    fun _ _ upsets _ _ _ hscrubs hturn hplace => beat_scrubbed upsets hscrubs hturn hplace,
    fun _ _ _ hacc hstore htarget hcount => flipMask_committed hacc hstore htarget hcount⟩

end Sys2Proof.Proofs
end

section
/-! PROOFS. O8, granules sent over a replay store in error (chapters 7 and 14): a counterexample. -/
namespace Sys2Proof.Proofs
open Sys2Proof Sys2Proof.Machine Sys2Proof.Claims
set_option Elab.async false

/-- The device after reset, with fields set to values. -/
def deviceWith (fs : List (Field × Nat × Nat)) : State := fs.foldl (fun s e => s.setFld e.1 e.2.1 e.2.2) State.reset

/-- Lane 0 in Cinch service with an open transmit stream. -/
def cinchLane0 : State :=
  deviceWith [(HRN_GROUP_STATE.STATE, 0, Group.OPEN), (HRN_GROUP_STATE.SVC, 0, Svc.CINCH), (CIN_LANE_STATUS.TX_STREAM, 0, Stream.OPEN)]

/-- Lane 0 with a CONTROL granule queued, whose next slot, in an armed store, has a word with two bits in error. -/
def slotInError : State :=
  ((cinchLane0.modClane 0 fun x => { x with ctlQ := [[7]] }).setArmed 0 true).setErr (slotAddr 0 0) 3 false

theorem slotInError_sends : slotInError.cinchLane 0 = true ∧ slotInError.laneOpen 0 = true ∧ (slotInError.claneOf 0).run = none ∧
    (slotInError.claneOf 0).ctlQ = [[7]] := by decide +kernel

/-- The write of the slot finds the word flagged and has its page repaired first (R397), which is counted. -/
theorem slotInError_position :
    slotInError.fld MEM_REPAIR.COUNT 0 = 0 ∧ (match exec (.granulePosition 0 true true true) slotInError with
      | .next t => t.fld MEM_REPAIR.COUNT 0
      | _ => 0) = 1 := by decide +kernel

/-- Refutes O8: a new numbered granule written over a slot that holds a flagged word has the slot's page repaired, and
`MEM_REPAIR_0.COUNT`, which the statement's frame keeps, counts it. -/
theorem not_granulesBothWays : ¬ Obligations.GranulesBothWays := by
  unfold Obligations.GranulesBothWays
  rintro ⟨hsent, -⟩
  obtain ⟨hcinch, hopen, hrun, hqueue⟩ := slotInError_sends
  obtain ⟨-, -, hcontrol, -⟩ := hsent slotInError 0 true true true hcinch
  obtain ⟨t, ht, -, -, hregs⟩ := hcontrol [7] [] hopen hrun hqueue
  obtain ⟨hbefore, hafter⟩ := slotInError_position
  rw [ht] at hafter
  have hkept : t.fld MEM_REPAIR.COUNT 0 = slotInError.fld MEM_REPAIR.COUNT 0 := State.fld_congr (hregs _ _ (by decide))
  exact absurd (hafter.symm.trans (hkept.trans hbefore)) (by decide)

end Sys2Proof.Proofs
end

section
/-! PROOFS. O27, a sleep entry whose last records meet an error of the event store (chapters 12, 14, 15): a counterexample. -/
namespace Sys2Proof.Proofs
open Sys2Proof Sys2Proof.Machine Sys2Proof.Claims
set_option Elab.async false

/-- A device in STANDBY with a record waiting; the word of the event store that it goes to has two bits in error, on a page that has
been repaired twice within the second. -/
def sleeperInError : State :=
  ((((deviceWith [(GLB_STATE.BOOT, 0, 5), (PWR_STATE.STATE, 0, 1)]).log Evt.REG_REJECT Subj.REGISTER 0 []).setArmed 19 true).setErr
    eventStore 3 false).modMemx fun x => { x with repairAt := [(eventStore, [0, 0])] }

theorem sleeperInError_accepts : (sleeperInError.offline = false ∧ sleeperInError.neededRole .PWR_CTRL ≤ sleeperInError.role .firmware ∧
    sleeperInError.rebuilding .PWR_CTRL 0 = false) ∧ sleeperInError.flag PWR_CTRL.SLEEP_BIST 0 = false ∧
    sleeperInError.pwrBusy = false ∧ sleeperInError.opInProgress = false ∧ sleeperInError.headless = false := by decide +kernel

/-- The write of the waiting record repairs the page for the third time, which retires it (R403), and that is recorded. -/
theorem sleeperInError_sleeps : (match exec (.pwrDeep .firmware) sleeperInError with
    | .next t => t.recorder.queue.length
    | _ => 0) = 1 := by decide +kernel

/-- Refutes O27: writing the queue out at sleep entry can retire a page of the event store, and the record of that is queued after the
queue has been taken for writing, so that the device sleeps with a record in its queue. -/
theorem not_powerCommands : ¬ Obligations.PowerCommands := by
  unfold Obligations.PowerCommands
  intro h
  obtain ⟨haccepts, hbist, hfree⟩ := sleeperInError_accepts
  obtain ⟨hcommands, -⟩ := h sleeperInError
  obtain ⟨-, hfreely⟩ := hcommands .firmware haccepts
  obtain ⟨-, -, -, -, hentry, -⟩ := hfreely hfree
  obtain ⟨-, t, ht, -, -, hqueue, -⟩ := hentry hbist
  have hleft := sleeperInError_sleeps
  rw [ht] at hleft
  exact absurd (hleft.symm.trans (congrArg List.length hqueue)) (by decide)

end Sys2Proof.Proofs
end

section
/-! PROOFS. O34, the completion queue and a seventeenth channel (chapter 14): a counterexample. -/
namespace Sys2Proof.Proofs
open Sys2Proof Sys2Proof.Machine Sys2Proof.Claims
set_option Elab.async false

/-- A device on which a channel 16, which the statement does not look at, waits for room in the completion queue. -/
def waitsBeyond : State :=
  let s := deviceWith [(GLB_STATE.BOOT, 0, 5)]
  { s.modDma 16 (fun x => { x with waiting := some 0 }) with engine := { waits := [16] } }

theorem waitsBeyond_accepts : (waitsBeyond.offline = false ∧ waitsBeyond.neededRole .DMA_CQ_RD ≤ waitsBeyond.role .firmware ∧
    waitsBeyond.rebuilding .DMA_CQ_RD 0 = false) ∧ (∀ n : Fin 16, (waitsBeyond.dmaOf n).waiting = none) ∧
    waitsBeyond.fld DMA_CQ_WR.IDX 0 = 0 ∧ waitsBeyond.fld DMA_CQ_RD.IDX 0 = 0 := by decide +kernel

/-- The room that the write makes is taken by the channel that waits. -/
theorem waitsBeyond_release : (match exec (.dmaCqRdWrite .firmware 0) waitsBeyond with
    | .next t => t.fld DMA_CQ_WR.IDX 0
    | _ => 0) = 1 := by decide +kernel

/-- Refutes O34: the model's list of channels that wait for the completion queue may name a channel beyond 15, whose record a write of
`DMA_CQ_RD` then enters, moving `DMA_CQ_WR`; the statement's frame only asks that none of the channels 0 to 15 waits. -/
theorem not_dmaQueueAndStreams : ¬ Obligations.DmaQueueAndStreams := by
  unfold Obligations.DmaQueueAndStreams
  intro h
  obtain ⟨haccepts, hnone, hwr, hrd⟩ := waitsBeyond_accepts
  obtain ⟨-, hindex, -⟩ := h waitsBeyond
  obtain ⟨t, ht, -, hkeeps⟩ := (hindex .firmware 0 haccepts).1 (by rw [hwr, hrd]; decide)
  obtain ⟨hregs, -, -⟩ := hkeeps hnone
  have hput := waitsBeyond_release
  rw [ht] at hput
  have hkept : t.fld DMA_CQ_WR.IDX 0 = waitsBeyond.fld DMA_CQ_WR.IDX 0 := State.fld_congr (hregs _ _ (by decide))
  exact absurd (hput.symm.trans (hkept.trans hwr)) (by decide)

end Sys2Proof.Proofs
end

section
/-! PROOFS. O43: alert classes and in-band interrupts, passwords, the bus challenge (chapter 10). -/
namespace Sys2Proof.Proofs
open Sys2Proof Sys2Proof.Machine Sys2Proof.Claims
set_option Elab.async false

section
variable {s u : State} {p : Path}

/-! ### Alert classes and interrupts -/

/-- The class bits that a clearing leaves. -/
theorem testBit_classesLeft (bits x k : Nat) (hk : k < 10) :
    ((bits &&& (1023 - x % 1024)) % 2 ^ 10).testBit k = (bits.testBit k && !x.testBit k) := by
  rw [Nat.testBit_mod_two_pow, Nat.testBit_and, show 1023 - x % 1024 = 2 ^ 10 - (x % 2 ^ 10 + 1) by omega,
    Nat.testBit_two_pow_sub_succ (Nat.mod_lt _ (by decide)), Nat.testBit_mod_two_pow]
  simp only [hk, decide_true, Bool.true_and]

/-- Class bits written 1 clear but for those set in the cycle, ALERT_N follows, and interrupts for clear classes are dropped. -/
theorem clearAlerts_clears (s : State) (mask : BitVec 10) :
    let t := s.clearAlerts mask.toNat
    (∀ k : Fin 10, (t.fld MGT_ALERT_STATUS.CLASS 0).testBit k = ((s.fld MGT_ALERT_STATUS.CLASS 0).testBit k &&
      !(mask.getLsbD k && !(s.risenOf .MGT_ALERT_STATUS 0).testBit k))) ∧
    t.flag GLB_STATE.ALERT 0 = decide (t.fld MGT_ALERT_STATUS.CLASS 0 ≠ 0) ∧
    (∀ e ∈ t.mgt.ibi, e ∈ s.mgt.ibi ∧ (t.fld MGT_ALERT_STATUS.CLASS 0).testBit e.1 = true) ∧ Keeps alertKeys s t := by
  intro t
  have hlt : s.fld MGT_ALERT_STATUS.CLASS 0 &&& (1023 - s.clearable .MGT_ALERT_STATUS 0 mask.toNat % 1024) < 2 ^ 10 :=
    Nat.and_lt_two_pow _ (by omega)
  have hclass : t.fld MGT_ALERT_STATUS.CLASS 0 =
      s.fld MGT_ALERT_STATUS.CLASS 0 &&& (1023 - s.clearable .MGT_ALERT_STATUS 0 mask.toNat % 1024) := by
    refine Eq.trans ?_ (Nat.mod_eq_of_lt hlt)
    exact (State.fld_modMgt _ _ _ _).trans ((State.fld_setFlag_of_apart _ 0 0 _ (by decide)).trans (State.fld_setFld_eq _ 0 _ (by decide)))
  have hibi : t.mgt.ibi = s.mgt.ibi.filter fun e => (s.fld MGT_ALERT_STATUS.CLASS 0 &&&
      (1023 - s.clearable .MGT_ALERT_STATUS 0 mask.toNat % 1024)).testBit e.1 := rfl
  have hflag : t.flag GLB_STATE.ALERT 0 = decide (t.fld MGT_ALERT_STATUS.CLASS 0 ≠ 0) := by
    rw [hclass]
    exact (State.flag_modMgt _ _ _ _).trans (State.flag_setFlag_eq _ 0 _ (by decide))
  have hkeeps : Keeps alertKeys s t := ((Frame.refl s).setFld.setFlag).modMgt.keeps
  clear_value t
  refine ⟨fun k => ?_, hflag, fun e he => ?_, hkeeps⟩
  · rw [hclass, ← Nat.mod_eq_of_lt hlt, testBit_classesLeft _ _ _ k.isLt, State.testBit_clearable]
    rfl
  · rw [hclass]
    exact List.mem_filter.1 (hibi ▸ he)

theorem exec_alertClear (hacc : Accepts s p .MGT_ALERT_STATUS 0) (mask : BitVec 10) :
    exec (.alertClear p mask) s = .next (s.clearAlerts mask.toNat) := by
  refine (writeCommand_accepted _ hacc).trans (congrArg (fun m => (.next (s.clearAlerts m) : Res)) ?_)
  have := mask.isLt
  simp only [fieldOf, Nat.shiftRight_eq_div_pow, Field.width]
  omega

/-- The request found is one of the list. -/
theorem mem_of_firstIbi {l : List Ibi} {e : Ibi} (h : firstIbi l = some e) : e ∈ l := by
  have hmem : ∀ (l : List Ibi) (b : Option Ibi), (l.foldl (fun (m : Option Ibi) e =>
      match m with
      | some b => if e.1 < b.1 then some e else some b
      | none => some e) b) = some e → e ∈ l ∨ b = some e := by
    intro l
    induction l with
    | nil => exact fun b h => .inr h
    | cons a l ih =>
      intro b h
      rcases ih _ h with h | h
      · exact .inl (.tail _ h)
      · cases b with
        | none => exact .inl (Option.some.inj h ▸ .head _)
        | some b =>
          dsimp only at h
          split at h
          · exact .inl (Option.some.inj h ▸ .head _)
          · exact .inr h
  exact (hmem l none h).resolve_right nofun

theorem exec_busFree {acc : Bool} {e : Ibi} (hready : s.ibiReady = true) (h : firstIbi s.newIbis = some e) :
    exec (.busFree acc) s = .next (s.sendIbi e acc) := by
  change execBusFree acc s = _
  rw [execBusFree, h]
  exact congrArg _ (if_pos hready)

theorem exec_ibiRetry {acc : Bool} {e : Ibi} (hready : s.ibiReady = true) (h : firstIbi s.dueIbis = some e) :
    exec (.ibiRetry acc) s = .next (s.sendIbi e acc) := by
  change execIbiRetry acc s = _
  rw [execIbiRetry, h]
  exact congrArg _ (if_pos hready)

/-- An interrupt that goes out is counted; accepted it is done, NACKed it waits from now. -/
theorem sendIbi_sends {e : Ibi} (he : e ∈ s.mgt.ibi) (acc : Bool) :
    let t := s.sendIbi e acc
    Counts MGT_IBI_SENT.COUNT 0 s t ∧ t.mgt.bus.ibiSent = BitVec.ofNat 8 (e.1 + 1) :: leBytes 3 e.2.1 ∧
      (acc = true → t.mgt.ibi = s.mgt.ibi.erase e ∧ Keeps [(.MGT_IBI_SENT, 0)] s t) ∧
      (acc = false → (e.1, e.2.1, some s.cycle) ∈ t.mgt.ibi ∧ Counts MGT_IBI_NACK.COUNT 0 s t ∧
        Keeps [(.MGT_IBI_SENT, 0), (.MGT_IBI_NACK, 0)] s t) := by
  intro t
  cases acc with
  | true => exact ⟨counts_count 0 1 _, rfl, fun _ => ⟨rfl, (Frame.refl s).modMgt.count.keeps⟩, nofun⟩
  | false =>
    refine ⟨(counts_count 0 1 _).then (State.fld_count_of_apart _ 0 0 _ (by decide)), rfl, nofun, fun _ => ⟨?_, ?_, ?_⟩⟩
    · exact List.mem_map.2 ⟨e, he, if_pos rfl⟩
    · exact (counts_count 0 1 _).after (State.fld_count_of_apart _ 0 0 _ (by decide))
    · exact ((Frame.refl s).modMgt.count.count).keeps

theorem alertsAndInterrupts : AlertsAndInterrupts := by
  intro s
  refine ⟨fun p mask hacc => ⟨_, exec_alertClear hacc mask, clearAlerts_clears s mask⟩, fun acc e hready c hc hfirst => ?_⟩
  simp only [List.mem_cons, List.not_mem_nil, or_false] at hc
  have hmem : e ∈ s.mgt.ibi := by
    have h := mem_of_firstIbi hfirst
    rcases hc with rfl | rfl <;> exact (List.mem_filter.1 h).1
  refine ⟨s.sendIbi e acc, ?_, sendIbi_sends hmem acc⟩
  rcases hc with rfl | rfl
  · exact exec_busFree hready hfirst
  · exact exec_ibiRetry hready hfirst

/-! ### Failures -/

/-- The failures of the last minute. -/
def recentFails (s : State) : Nat := (s.mgt.fails.filter fun c => decide (s.cycle < c + cyclesOfUs 60000000)).length

/-- A failure is counted; the eighth within 60 s locks out for 10 s. -/
def FailCounted (s t : State) : Prop := Counts MGT_PWD_FAIL.COUNT 0 s t ∧
  (recentFails s < 7 → t.mgt.lockout = s.mgt.lockout ∧ t.mgt.fails.length = recentFails s + 1) ∧
  (7 ≤ recentFails s → t.mgt.lockout = true ∧ t.mgt.fails = [] ∧ t.mgt.lockEnd = s.cycle + cyclesOfUs 10000000 ∧ Alerted Alert.SECURITY t)

/-- The count and the record of a failure. -/
def failLogged (s : State) : State := (s.count MGT_PWD_FAIL.COUNT 0).logSec SecEvt.LOCKOUT 0 (recentFails s + 1)

theorem failLogged_mgt (s : State) : (failLogged s).mgt = s.mgt := by
  rw [failLogged, State.logSec, State.log, State.logAt_eq]
  rfl

theorem failLogged_counts (s : State) : Counts MGT_PWD_FAIL.COUNT 0 s (failLogged s) :=
  (counts_count 0 1 s).then (State.fld_log_of_apart _ 0 _ _ _ _ (by decide))

theorem authFailure_eq (s : State) : s.authFailure = if 8 ≤ recentFails s + 1 then
    ((failLogged s).modMgt fun x => { x with fails := [], lockout := true, lockEnd := s.cycle + cyclesOfUs 10000000 }).alert Alert.SECURITY
    else (failLogged s).modMgt fun x => { x with
      fails := (s.mgt.fails.filter fun c => decide (s.cycle < c + cyclesOfUs 60000000)) ++ [s.cycle] } := by
  have hlen : ((s.mgt.fails.filter fun c => decide (s.cycle < c + cyclesOfUs 60000000)) ++ [s.cycle]).length = recentFails s + 1 :=
    List.length_append
  unfold State.authFailure
  dsimp only
  rw [hlen]
  have hcycle : ((s.count MGT_PWD_FAIL.COUNT 0).logSec SecEvt.LOCKOUT 0 (recentFails s + 1)).cycle = s.cycle := by
    rw [State.logSec, State.log, State.logAt_eq]
    rfl
  rw [hcycle]
  rfl

theorem authFailure_counted (s : State) : FailCounted s s.authFailure := by
  rw [authFailure_eq]
  split
  next h =>
    refine ⟨?_, fun hfew => absurd h (by omega), fun _ => ⟨?_, ?_, ?_, alerted_alert _ (by decide)⟩⟩
    · exact (failLogged_counts s).then (State.fld_alert_other _ _ 0 (by decide) (by decide))
    all_goals rw [State.alert_eq]; rfl
  next h =>
    refine ⟨failLogged_counts s, fun _ => ⟨?_, List.length_append⟩, fun hmany => absurd hmany (by omega)⟩
    show (failLogged s).mgt.lockout = _
    rw [failLogged_mgt]

end
end Sys2Proof.Proofs

namespace Sys2Proof.Claims.Frame
open Sys2Proof Sys2Proof.Machine Sys2Proof.Proofs
variable {s u : State} {P : Reg → Nat → Prop}

/-- What a failure changes. -/
theorem authFailure (h : Frame P s u) (hF : P .MGT_PWD_FAIL 0 := by simp) (hL : P .EVL_DROPPED 0 := by simp)
    (hS : P .MGT_ALERT_STATUS 0 := by simp) (hG : P .GLB_STATE 0 := by simp) : Frame P s u.authFailure := by
  rw [authFailure_eq]
  have hlog : Frame P s (failLogged u) := (h.count hF).log hL
  exact .ite (fun _ => hlog.modMgt.alert hS hG) fun _ => hlog.modMgt

/-- What a return to USER changes. -/
theorem dropRole (h : Frame P s u) (hB : P .MGT_BUS_STATUS 0 := by simp) : Frame P s u.dropRole :=
  (h.setFld hB).modMgt

end Sys2Proof.Claims.Frame

namespace Sys2Proof.Proofs
open Sys2Proof Sys2Proof.Machine Sys2Proof.Claims
section
variable {s u : State} {p : Path}

/-- A failure counts from a state that differs only where it does not look. -/
theorem FailCounted.from {t : State} (h : FailCounted u t) (hc : u.cycle = s.cycle) (hf : u.mgt.fails = s.mgt.fails)
    (hl : u.mgt.lockout = s.mgt.lockout) (hn : u.fld MGT_PWD_FAIL.COUNT 0 = s.fld MGT_PWD_FAIL.COUNT 0) : FailCounted s t := by
  have hrecent : recentFails u = recentFails s := by rw [recentFails, recentFails, hc, hf]
  obtain ⟨hcount, hfew, hmany⟩ := h
  rw [hrecent, hl] at hfew
  rw [hrecent, hc] at hmany
  exact ⟨hcount.after hn, hfew, hmany⟩

/-! ### The password -/

theorem dropRole_user (s : State) : s.dropRole.fld MGT_BUS_STATUS.ROLE 0 = Role.USER := s.fld_setFld_eq 0 _ (by decide)

theorem exec_passwordEntry (h : s.offline = false) (v : Word32) : exec (.passwordEntry v) s = .next (s.enterPassword v.toNat) :=
  congrArg _ (if_neg (by rw [h]; exact Bool.false_ne_true))

theorem exec_passwordSet (h : s.offline = false) (v : Word32) : exec (.passwordSet v) s = .next (s.setBusPassword v.toNat) :=
  congrArg _ (if_neg (by rw [h]; exact Bool.false_ne_true))

theorem toNat_ne_zero {v : Word32} (h : v ≠ 0) : v.toNat ≠ 0 := fun e => h (BitVec.eq_of_toNat_eq e)

theorem enterPassword_fails {v : Nat} (hv : v ≠ 0) (hl : s.lockedOut = false) (hp : s.passwordIs v = false) :
    s.enterPassword v = s.dropRole.authFailure := by
  rw [State.enterPassword, if_neg hv, hl, hp]
  rfl

theorem enterPassword_opens {v : Nat} (hl : s.lockedOut = false) (hp : s.passwordIs v = true) :
    s.enterPassword v = s.dropRole.setFld MGT_BUS_STATUS.ROLE 0 Role.OPERATOR := by
  have hv : v ≠ 0 := by
    rw [State.passwordIs, Bool.and_eq_true, decide_eq_true_eq] at hp
    exact hp.1
  rw [State.enterPassword, if_neg hv, hl, hp]
  rfl

/-- A password set in the key vault is the word written. -/
theorem setPassword_sets (s : State) (v : Word32) : (s.setPassword v.toNat).sec.pwd = some v ∧ (s.setPassword v.toNat).sec.sealed = v ∧
    Keeps [] s (s.setPassword v.toNat) :=
  ⟨congrArg some (BitVec.ofNat_toNat 32 v |>.trans (BitVec.setWidth_eq v)), BitVec.ofNat_toNat 32 v |>.trans (BitVec.setWidth_eq v),
    (Frame.refl s).modSec.keeps⟩

/-! ### The bus challenge -/

theorem exec_authCtrl (hacc : Accepts s p .MGT_AUTH_CTRL 0) : exec (.nonce p) s = .next s.newBusNonce ∧
    exec (.authVerify p) s = .next s.authVerify ∧ exec (.drop p) s = .next s.dropRole :=
  ⟨writeCommand_accepted _ hacc, writeCommand_accepted _ hacc, writeCommand_accepted _ hacc⟩

theorem authResult_shows {r : Nat} (hr : r < 16) (s : State) : (s.authResult r).fld MGT_AUTH_STATUS.RESULT 0 = r :=
  (s.fld_setFld_eq 0 r (by decide)).trans (Nat.mod_eq_of_lt hr)

/-- What VERIFY finds: a key that signed, or none with one of the other results. -/
theorem verifyBus_cases (s : State) : (s.verifyBus.1 = Sec.OK ∧ s.verifyBus.2.isSome = true) ∨
    (s.verifyBus.1 ∈ [Sec.LOCKOUT, Sec.EXPIRED, Sec.LENGTH, Sec.KEY, Sec.SIGNATURE] ∧ s.verifyBus.2 = none) := by
  unfold State.verifyBus
  dsimp only
  split
  · exact .inr ⟨by decide, rfl⟩
  split
  · exact .inr ⟨by decide, rfl⟩
  split
  · exact .inr ⟨by decide, rfl⟩
  split
  · exact .inr ⟨by decide, rfl⟩
  split
  · exact .inl ⟨rfl, rfl⟩
  · exact .inr ⟨by decide, rfl⟩

/-- The nonce is consumed and the result shows. -/
def verified (s : State) : State := (s.setFlag MGT_AUTH_STATUS.NONCE_VALID 0 false).authResult s.verifyBus.1

theorem verified_frame (s : State) : Frame (fun r i => r = .MGT_AUTH_STATUS ∧ i = 0) s (verified s) :=
  ((Frame.refl s).setFlag ⟨rfl, rfl⟩).setFld ⟨rfl, rfl⟩

theorem verified_shows (s : State) : (verified s).fld MGT_AUTH_STATUS.RESULT 0 = s.verifyBus.1 ∧
    (verified s).flag MGT_AUTH_STATUS.NONCE_VALID 0 = false := by
  have hlt : s.verifyBus.1 < 16 := by
    rcases verifyBus_cases s with ⟨h, -⟩ | ⟨h, -⟩
    · rw [h]
      decide
    · revert h
      generalize s.verifyBus.1 = r
      simp only [List.mem_cons, List.not_mem_nil, or_false]
      rintro (rfl | rfl | rfl | rfl | rfl) <;> decide
  exact ⟨authResult_shows hlt _, (State.flag_setFld_of_apart _ 0 0 _ (by decide)).trans (State.flag_setFlag_eq _ 0 _ (by decide))⟩

theorem authVerify_granted (hh : s.headless = false) {k : Nat} (h : s.verifyBus.2 = some k) :
    s.authVerify = ((verified s).setFld MGT_BUS_STATUS.ROLE 0 Role.ADMIN).modMgt fun x => { x with busKey := some k } := by
  rw [State.authVerify, hh, verified]
  dsimp only
  rw [h]
  rfl

theorem authVerify_refused (hh : s.headless = false) (h : s.verifyBus.2 = none) : s.authVerify =
    if s.verifyBus.1 = Sec.LOCKOUT ∨ s.verifyBus.1 = Sec.EXPIRED then verified s else (verified s).authFailure := by
  rw [State.authVerify, hh, verified]
  dsimp only
  rw [h]
  rfl

/-- VERIFY consumes the nonce, gives ADMIN on OK and counts a failure of key, length or signature. -/
theorem authVerify_answers (hh : s.headless = false) :
    let t := s.authVerify
    t.fld MGT_AUTH_STATUS.RESULT 0 = s.verifyBus.1 ∧ t.flag MGT_AUTH_STATUS.NONCE_VALID 0 = false ∧
      (∀ k, s.verifyBus.2 = some k → t.fld MGT_BUS_STATUS.ROLE 0 = Role.ADMIN ∧ t.mgt.busKey = some k ∧
        Keeps [(.MGT_AUTH_STATUS, 0), (.MGT_BUS_STATUS, 0)] s t) ∧
      (s.verifyBus.1 ∈ [Sec.LOCKOUT, Sec.EXPIRED] → Keeps [(.MGT_AUTH_STATUS, 0)] s t) ∧
      (s.verifyBus.1 ∈ [Sec.LENGTH, Sec.KEY, Sec.SIGNATURE] → FailCounted s t ∧
        t.fld MGT_BUS_STATUS.ROLE 0 = s.fld MGT_BUS_STATUS.ROLE 0) := by
  intro t
  obtain ⟨hresult, hnonce⟩ := verified_shows s
  have hframe := verified_frame s
  rcases verifyBus_cases s with ⟨hok, hsome⟩ | ⟨hcode, hnone⟩
  · obtain ⟨k, hk⟩ := Option.isSome_iff_exists.1 hsome
    have ht : t = _ := authVerify_granted hh hk
    clear_value t
    subst ht
    refine ⟨?_, ?_, fun k' hk' => ⟨?_, ?_, ?_⟩, fun h => ?_, fun h => ?_⟩
    · exact (State.fld_modMgt _ _ _ _).trans ((State.fld_setFld_of_apart _ 0 0 _ (by decide)).trans hresult)
    · exact (State.flag_modMgt _ _ _ _).trans ((State.flag_setFld_of_apart _ 0 0 _ (by decide)).trans hnonce)
    · exact (State.fld_modMgt _ _ _ _).trans (State.fld_setFld_eq _ 0 _ (by decide))
    · exact hk.symm.trans hk'
    · exact (((hframe.mono (by rintro r i ⟨rfl, rfl⟩; simp)).setFld).modMgt).keeps
    · exact absurd (hok ▸ h) (by decide)
    · exact absurd (hok ▸ h) (by decide)
  · have ht : t = _ := authVerify_refused hh hnone
    clear_value t
    subst ht
    have hsoft : s.verifyBus.1 ∈ [Sec.LOCKOUT, Sec.EXPIRED] ↔ s.verifyBus.1 = Sec.LOCKOUT ∨ s.verifyBus.1 = Sec.EXPIRED := by
      simp only [List.mem_cons, List.not_mem_nil, or_false]
    split
    next h =>
      refine ⟨hresult, hnonce, fun k hk => absurd (hnone.symm.trans hk) nofun, fun _ => ?_, fun hhard => ?_⟩
      · exact (hframe.mono (by rintro r i ⟨rfl, rfl⟩; simp)).keeps
      · rcases h with h | h <;> exact absurd (h ▸ hhard) (by decide)
    next h =>
      have hfail : Frame (fun r _ => r ∈ [Reg.MGT_PWD_FAIL, .EVL_DROPPED, .MGT_ALERT_STATUS, .GLB_STATE]) (verified s) (verified s).authFailure :=
        (Frame.refl _).authFailure
      refine ⟨(hfail.fld_eq (by decide)).trans hresult, (hfail.flag_eq (by decide)).trans hnonce,
        fun k hk => absurd (hnone.symm.trans hk) nofun, fun hs => absurd (hsoft.1 hs) h, fun _ => ⟨?_, ?_⟩⟩
      · exact (authFailure_counted _).from rfl rfl rfl (hframe.fld_eq (by decide))
      · exact (hfail.fld_eq (by decide)).trans (hframe.fld_eq (by decide))

/-- A fresh value is the nonce of the bus, and valid. -/
def freshBusNonce (s : State) : State :=
  (s.fresh.2.setFld MGT_AUTH_NONCE.NONCE 0 (s.fresh.1.toNat % 2 ^ 256)).setFlag MGT_AUTH_STATUS.NONCE_VALID 0 true

theorem newBusNonce_eq (hh : s.headless = false) :
    s.newBusNonce = (((freshBusNonce s).setAuthData []).authResult Sec.OK).modMgt fun x => { x with nonceAt := (freshBusNonce s).cycle } :=
  if_neg (by rw [hh]; exact Bool.false_ne_true)

theorem freshBusNonce_frame (s : State) :
    Frame (fun r i => (r, i) ∈ [(Reg.MGT_AUTH_STATUS, 0), (.MGT_AUTH_NONCE, 0)]) s (freshBusNonce s) := by
  have hfresh : Frame (fun r i => (r, i) ∈ [(Reg.MGT_AUTH_STATUS, 0), (.MGT_AUTH_NONCE, 0)]) s s.fresh.2 := (Frame.refl s).same
  exact hfresh.setFld.setFlag

theorem freshBusNonce_valid (s : State) : (freshBusNonce s).flag MGT_AUTH_STATUS.NONCE_VALID 0 = true := State.flag_setFlag_eq _ 0 _ (by decide)

/-- A fresh nonce of the bus, valid from now. -/
theorem newBusNonce_makes (hh : s.headless = false) :
    let t := s.newBusNonce
    t.flag MGT_AUTH_STATUS.NONCE_VALID 0 = true ∧ t.fld MGT_AUTH_STATUS.RESULT 0 = Sec.OK ∧ t.mgt.authData = [] ∧ t.mgt.nonceAt = s.cycle ∧
      t.fld MGT_AUTH_STATUS.DATA_LEN 0 = 0 ∧ Keeps [(.MGT_AUTH_STATUS, 0), (.MGT_AUTH_NONCE, 0)] s t := by
  intro t
  have ht : t = _ := newBusNonce_eq hh
  have hcycle : (freshBusNonce s).cycle = s.cycle := rfl
  have hvalid := freshBusNonce_valid s
  have hframe := freshBusNonce_frame s
  clear_value t
  subst ht
  generalize freshBusNonce s = u at *
  refine ⟨?_, (State.fld_modMgt _ _ _ _).trans (authResult_shows (by decide) _), rfl, hcycle, ?_, ?_⟩
  · rw [State.flag_modMgt, State.authResult, State.setAuthData]
    simp (disch := decide) only [State.flag_setFld_of_apart, State.flag_modMgt, hvalid]
  · rw [State.fld_modMgt, State.authResult, State.setAuthData]
    simp (disch := decide) only [State.fld_setFld_of_apart, State.fld_setFld_eq]
    rfl
  · exact (hframe.modMgt.setFld.setFld.modMgt).keeps

theorem exec_authDataWrite (hacc : Accepts s p .MGT_AUTH_DATA 0) (v : Word32) :
    exec (.authDataWrite p v) s = .next (s.setAuthData ((s.mgt.authData ++ leBytes 4 v.toNat).take 140)) :=
  writeCommand_accepted _ hacc

theorem setAuthData_shows {bs : List Byte} (h : bs.length < 256) (s : State) :
    (s.setAuthData bs).fld MGT_AUTH_STATUS.DATA_LEN 0 = (s.setAuthData bs).mgt.authData.length ∧ Keeps [(.MGT_AUTH_STATUS, 0)] s (s.setAuthData bs) :=
  ⟨(State.fld_setFld_eq _ 0 _ (by decide)).trans (Nat.mod_eq_of_lt h), (Frame.refl s).modMgt.setFld.keeps⟩

theorem nonceFresh_false {c : Nat} (h : c + cyclesOfUs 60000000 ≤ s.cycle) : s.nonceFresh c = false := decide_eq_false (Nat.not_lt.2 h)

theorem exec_nonceExpiry_bus (h : s.mgt.nonceAt + cyclesOfUs 60000000 ≤ s.cycle) :
    exec (.nonceExpiry true) s = .next (s.setFlag MGT_AUTH_STATUS.NONCE_VALID 0 false) := by
  change execNonceExpiry true s = _
  rw [execNonceExpiry, nonceFresh_false h]
  rfl

theorem exec_nonceExpiry_vault (h : s.sec.nonceAt + cyclesOfUs 60000000 ≤ s.cycle) :
    exec (.nonceExpiry false) s = .next (s.nonceValid false) := by
  change execNonceExpiry false s = _
  rw [execNonceExpiry, nonceFresh_false h]
  rfl
end

theorem passwords : Passwords := by
  intro s role recent failed
  refine ⟨fun hoff v => ?_, fun p v hacc => ⟨_, writeCommand_accepted _ hacc, setPassword_sets s v⟩, fun h => ?_, fun h => ?_, fun p hacc => ?_,
    fun p v hacc => ?_, fun h => ?_, fun h => ?_⟩
  · have hexec := exec_passwordEntry hoff v
    have hset := exec_passwordSet hoff v
    refine ⟨?_, fun hv hlock => ⟨s, ?_, rfl⟩, fun hlock his => ?_, fun hv hlock his => ?_, fun hrole => ?_, fun hrole => ⟨s, ?_, rfl⟩⟩
    · rintro rfl
      exact ⟨s.dropRole, hexec, dropRole_user s, (Frame.refl s).dropRole.keeps⟩
    · rw [hexec, State.enterPassword, if_neg (toNat_ne_zero hv), if_pos hlock]
    · rw [enterPassword_opens hlock his] at hexec
      exact ⟨_, hexec, State.fld_setFld_eq _ 0 _ (by decide), (Frame.refl s).dropRole.setFld.keeps⟩
    · rw [enterPassword_fails (toNat_ne_zero hv) hlock his] at hexec
      have hfail : Frame (fun r _ => r ∈ [Reg.MGT_PWD_FAIL, .EVL_DROPPED, .MGT_ALERT_STATUS, .GLB_STATE]) s.dropRole s.dropRole.authFailure :=
        (Frame.refl _).authFailure
      exact ⟨_, hexec, (hfail.fld_eq (by decide)).trans (dropRole_user s),
        (authFailure_counted _).from rfl rfl rfl (State.fld_setFld_of_apart _ 0 0 _ (by decide)), (Frame.refl s).dropRole.authFailure.keeps⟩
    · rw [State.setBusPassword, if_neg (Nat.not_lt.2 hrole)] at hset
      exact ⟨_, hset, setPassword_sets s v⟩
    · rw [hset, State.setBusPassword, if_pos hrole]
  · exact ⟨s.modMgt fun x => { x with lockout := false }, congrArg _ (if_neg (Nat.not_lt.2 h)), rfl, (Frame.refl s).modMgt.keeps⟩
  · exact ⟨s, congrArg _ (if_pos h), rfl⟩
  · obtain ⟨hnonce, hverify, hdrop⟩ := exec_authCtrl hacc
    refine ⟨⟨_, hdrop, dropRole_user s, (Frame.refl s).dropRole.keeps⟩, fun hh c hc => ⟨s.authResult Sec.BUSY, ?_, ?_, ?_⟩, fun hh => ⟨?_, ?_⟩⟩
    · simp only [List.mem_cons, List.not_mem_nil, or_false] at hc
      rcases hc with rfl | rfl
      · rw [hnonce, State.newBusNonce, if_pos hh]
      · rw [hverify, State.authVerify, if_pos hh]
    · exact authResult_shows (by decide) s
    · exact (Frame.refl s).setFld.keeps
    · exact ⟨_, hnonce, newBusNonce_makes hh⟩
    · exact ⟨_, hverify, authVerify_answers hh⟩
  · exact ⟨_, exec_authDataWrite hacc v, rfl, setAuthData_shows (by rw [List.length_take]; omega) s⟩
  · exact ⟨_, exec_nonceExpiry_bus h, State.flag_setFlag_eq _ 0 _ (by decide), (Frame.refl s).setFlag.keeps⟩
  · exact ⟨_, exec_nonceExpiry_vault h, (nonceValid_shows s false).1, (nonceValid_shows s false).2, (Frame.refl s).nonceValid.keeps⟩

/-- Settles O43: each command's effect on the alert classes, the interrupts, the password, the nonce and the failures, by the cases
of the command. -/
theorem alertsAndPasswords : Obligations.AlertsAndPasswords := ⟨alertsAndInterrupts, passwords⟩

end Sys2Proof.Proofs
end

section
/-! PROOFS. O41: anti-rollback floors, debug tokens and the JTAG port (chapter 11). -/
namespace Sys2Proof.Proofs
open Sys2Proof Sys2Proof.Machine Sys2Proof.Claims
set_option Elab.async false

section
variable {s : State} {p : Path}

/-! ### Floors -/

theorem fieldOf_rollbackCtrl {cmd : Nat} (hcmd : cmd < 16) (v : BitVec 7) : fieldOf (cmd * 2 ^ 28 + v.toNat) SEC_ROLLBACK_CTRL.CMD = cmd ∧
    fieldOf (cmd * 2 ^ 28 + v.toNat) SEC_ROLLBACK_CTRL.TARGET = v.toNat := by
  have := v.isLt
  simp only [fieldOf, Nat.shiftRight_eq_div_pow, Field.width]
  omega

/-- A floor that is raised where `ok` holds and it does not fall, and the raise refused otherwise. -/
def raiseFloor (s : State) (f : Field) (ok : Bool) (v detail : Nat) : State :=
  if ok && decide (s.fld f 0 ≤ v) then (((s.setFld f 0 v).keyResult Sec.OK).logSec SecEvt.FLOOR 0 detail).measureSec else s.keyResult Sec.REFUSED

theorem exec_raiseFw (hacc : Accepts s p .SEC_ROLLBACK_CTRL 0) {v : BitVec 7} (h1 : 1 ≤ v.toNat) (h64 : v.toNat ≤ 64) :
    exec (.raiseFw p v) s =
      .next (raiseFloor s SEC_STATUS.FW_FLOOR (decide (v.toNat ≤ s.fwSvn) && !s.flag SEC_STATUS.TRIAL 0) v.toNat v.toNat) := by
  refine (writeCommand_accepted _ hacc).trans (congrArg _ ?_)
  obtain ⟨hcmd, htarget⟩ := fieldOf_rollbackCtrl (cmd := 1) (by decide) v
  rw [Nat.one_mul] at hcmd htarget
  rw [wrRollback, hcmd, htarget, if_neg (by omega), if_pos rfl]
  rfl

theorem exec_raiseHrn (hacc : Accepts s p .SEC_ROLLBACK_CTRL 0) {v : BitVec 7} (h1 : 1 ≤ v.toNat) (h64 : v.toNat ≤ 64) :
    exec (.raiseHrn p v) s =
      .next (raiseFloor s SEC_STATUS.HRN_FLOOR (!s.hrn.header.isEmpty && decide (v.toNat ≤ imgSvn s.hrn.header)) v.toNat (256 + v.toNat)) := by
  refine (writeCommand_accepted _ hacc).trans (congrArg _ ?_)
  obtain ⟨hcmd, htarget⟩ := fieldOf_rollbackCtrl (cmd := 2) (by decide) v
  rw [wrRollback, hcmd, htarget, if_neg (by omega), if_neg (by decide)]
  rfl

theorem wrRollback_rejects {w : Nat} (h : fieldOf w SEC_ROLLBACK_CTRL.TARGET = 0 ∨ 64 < fieldOf w SEC_ROLLBACK_CTRL.TARGET) :
    Keeps logKeys s (wrRollback p w s).1 := by
  rw [wrRollback, if_pos (by omega)]
  exact (Frame.refl s).log.keeps

theorem raiseFloor_refuses {f : Field} {ok : Bool} {v detail : Nat} (h : ok = false ∨ v < s.fld f 0) :
    (raiseFloor s f ok v detail).fld SEC_KEY_STATUS.RESULT 0 = Sec.REFUSED ∧ Keeps [(.SEC_KEY_STATUS, 0)] s (raiseFloor s f ok v detail) := by
  have hno : ¬ (ok && decide (s.fld f 0 ≤ v)) = true := by
    rw [Bool.and_eq_true, decide_eq_true_eq]
    rintro ⟨hok, hle⟩
    rcases h with h | h
    · rw [hok] at h
      contradiction
    · omega
  rw [raiseFloor, if_neg hno]
  obtain ⟨⟨hresult, -⟩, hkeeps⟩ := keyResult_answers (r := Sec.REFUSED) (by decide) s
  exact ⟨hresult, hkeeps⟩

theorem raiseFloor_raises {f : Field} {ok : Bool} {v : Nat} (detail : Nat) (hok : ok = true) (hle : s.fld f 0 ≤ v)
    (hf : f ∈ [SEC_STATUS.FW_FLOOR, SEC_STATUS.HRN_FLOOR]) (hv : v < 256) :
    (raiseFloor s f ok v detail).fld f 0 = v ∧ (raiseFloor s f ok v detail).fld SEC_KEY_STATUS.RESULT 0 = Sec.OK ∧
      (Room s → Logged Evt.SEC_EVENT Subj.DEVICE 0 [SecEvt.FLOOR, 0, detail] s (raiseFloor s f ok v detail)) ∧
      KeepsKinds [.SEC_STATUS, .SEC_KEY_STATUS, .SEC_MEAS, .EVL_DROPPED] s (raiseFloor s f ok v detail) := by
  have hreg : f.reg = .SEC_STATUS := by
    simp only [List.mem_cons, List.not_mem_nil, or_false] at hf
    rcases hf with rfl | rfl <;> rfl
  have happly : f.lo + (f.hi - f.lo) < 512 ∧ f.hi - f.lo + 1 = 8 := by
    simp only [List.mem_cons, List.not_mem_nil, or_false] at hf
    rcases hf with rfl | rfl <;> decide
  rw [raiseFloor, if_pos (by rw [hok, decide_eq_true hle]; rfl)]
  have hraised : Frame (fun r _ => r ∈ [Reg.SEC_STATUS, .SEC_KEY_STATUS, .SEC_MEAS, .EVL_DROPPED]) s ((s.setFld f 0 v).keyResult Sec.OK) :=
    ((Frame.refl s).setFld (by simp [hreg])).setFld
  have hfloor : ((s.setFld f 0 v).keyResult Sec.OK).fld f 0 = v := by
    refine (State.fld_congr (s := s.setFld f 0 v) (State.reg_setReg_other _ _ (.inl (by rw [hreg]; decide)))).trans ?_
    rw [State.fld_setFld_eq _ _ _ happly.1, happly.2]
    exact Nat.mod_eq_of_lt hv
  have hresult : ((s.setFld f 0 v).keyResult Sec.OK).fld SEC_KEY_STATUS.RESULT 0 = Sec.OK := (keyResult_answers (by decide) _).1.1
  have hbeside : ((s.setFld f 0 v).keyResult Sec.OK).recorder = s.recorder := rfl
  have hnow : ((s.setFld f 0 v).keyResult Sec.OK).now = s.now := rfl
  generalize (s.setFld f 0 v).keyResult Sec.OK = u at *
  refine ⟨?_, ?_, fun hroom => ?_, ?_⟩
  · rw [fld_measureSec _ _ (by rw [hreg]; decide), State.logSec, State.fld_log_of_apart _ _ _ _ _ _ (by simp [Field.apart, hreg]), hfloor]
  · rw [fld_measureSec _ _ (by decide), State.logSec, State.fld_log_of_apart _ _ _ _ _ _ (by decide), hresult]
  · have hroom' : Room u := by rwa [Room, hbeside]
    have hlog := loggedAt_logAt hroom' u.now Evt.SEC_EVENT Subj.DEVICE 0 [SecEvt.FLOOR, 0, detail]
    rw [hnow] at hlog
    exact hlog.beside hbeside (by rw [measureSec_recorder, State.logSec, State.log, hnow])
  · exact ((hraised.log).thenIn (measureSec_frame _) (by rintro r i rfl; simp)).kinds

/-! ### Sessions and secrets -/

theorem closeSession_frame (s : State) (k : Nat) : Frame (fun r i => r = .MGT_SESSION ∧ i = k) s (s.closeSession k) :=
  ((Frame.refl s).resetReg ⟨rfl, rfl⟩).modMgt

theorem closeSessions_frame (s : State) : Frame (fun r _ => r = .MGT_SESSION) s s.closeSessions :=
  (Frame.refl s).each fun k _ h => h.thenIn (closeSession_frame _ k) fun _ _ hr => hr.1

theorem closeSessions_sec (s : State) : s.closeSessions.sec = s.sec := by
  simp only [State.closeSessions, State.each, List.foldl, State.closeSession, State.modMgt_sec, State.resetReg_sec]

theorem eraseKeys_sec (s : State) : s.eraseKeys.sec = { s.sec with ak := false } := by
  rw [State.eraseKeys, State.modSec, closeSessions_sec]

/-- No session is open once every session has closed. -/
theorem closeSessions_closes (s : State) (k : Fin 4) : s.closeSessions.reg .MGT_SESSION k = regReset (.MGT_SESSION, k) := by
  obtain ⟨u, -, h⟩ := State.each_turn (obs := fun s k => s.reg .MGT_SESSION k) (f := fun k s => s.closeSession k)
    (fun i j s hji => (closeSession_frame s i).reg_eq fun h => hji h.2) (is := [0, 1, 2, 3]) (by decide) (k := k.val)
    (by have := k.isLt; simp only [List.mem_cons, List.not_mem_nil, or_false]; omega) s
  exact h.trans ((State.reg_modMgt _ _ _ _).trans (State.reg_resetReg_same u _ _))

theorem eraseKeys_sessions (s : State) (k : Nat) : s.eraseKeys.reg .MGT_SESSION k = s.closeSessions.reg .MGT_SESSION k := State.reg_modSec _ _ _ _

theorem eraseKeys_frame (s : State) : Frame (fun r _ => r = .MGT_SESSION) s s.eraseKeys := (closeSessions_frame s).modSec

/-- The registers of what a scan chain could read. -/
abbrev erasedRegs : List Reg := [.MGT_SESSION, .SEC_NONCE, .SEC_KEY_STATUS, .SEC_DBG_STATUS, .SEC_STATUS]

theorem eraseAll_frame (s : State) : Frame (fun r _ => r ∈ erasedRegs) s s.eraseAll :=
  (((((eraseKeys_frame s).mono (by rintro r i rfl; simp)).modSec).resetReg).setFlag.setFlag).setFld

/-- What is erased of the device's secrets. -/
theorem eraseAll_erases (s : State) : s.eraseAll.fld SEC_NONCE.NONCE 0 = 0 ∧ s.eraseAll.fld SEC_STATUS.ID_STATE 0 = 3 ∧
    s.eraseAll.fld SEC_DBG_STATUS.PERMS 0 = s.fld SEC_DBG_STATUS.PERMS 0 ∧ s.eraseAll.fld SEC_DBG_STATUS.RESULT 0 = s.fld SEC_DBG_STATUS.RESULT 0 ∧
    s.eraseAll.flag SEC_DBG_STATUS.NONCE_VALID 0 = false ∧ ∀ k, s.eraseAll.reg .MGT_SESSION k = s.closeSessions.reg .MGT_SESSION k := by
  have hkeys := eraseKeys_frame s
  have hsess : ∀ k, s.eraseKeys.reg .MGT_SESSION k = s.closeSessions.reg .MGT_SESSION k := eraseKeys_sessions s
  unfold State.eraseAll
  dsimp only
  generalize s.eraseKeys = u at *
  have hreset (x : State) : Frame (fun r i => r = .SEC_NONCE ∧ i = 0) x (x.resetReg .SEC_NONCE 0) := (Frame.refl x).resetReg ⟨rfl, rfl⟩
  refine ⟨?_, State.fld_setFld_eq _ 0 _ (by decide), ?_, ?_, ?_, fun k => ?_⟩
  · simp (disch := decide) only [State.fld_setFld_of_apart, State.fld_setFlag_of_apart]
    rw [State.fld_eq, State.reg_resetReg_same]
    decide +kernel
  · simp (disch := decide) only [State.fld_setFld_of_apart, State.fld_setFlag_of_apart]
    exact ((hreset _).fld_eq (by decide)).trans ((State.fld_modSec _ _ _ _).trans (hkeys.fld_eq (by decide)))
  · simp (disch := decide) only [State.fld_setFld_of_apart, State.fld_setFlag_of_apart]
    exact ((hreset _).fld_eq (by decide)).trans ((State.fld_modSec _ _ _ _).trans (hkeys.fld_eq (by decide)))
  · simp (disch := decide) only [State.flag_setFld_of_apart, State.flag_setFlag_eq]
  · simp (disch := decide) only [State.reg_setFld_other, State.reg_setFlag_other]
    exact ((hreset _).reg_eq (by simp)).trans (hsess k)

theorem eraseAll_sec (s : State) : s.eraseAll.sec = { s.sec with ak := false, seed := false, dev := false, pwd := none } := by
  unfold State.eraseAll
  dsimp only
  simp only [State.setFld_sec, State.setFlag_sec, State.resetReg_sec, State.modSec, eraseKeys_sec]

/-- A session's register at reset reads closed. -/
theorem sessionReset_closed {k : Nat} : decide (bitsOf (regReset (.MGT_SESSION, k)) 31 31 ≠ 0) = false := by
  rw [show regReset (.MGT_SESSION, k) = resetOfFields Reg.MGT_SESSION.desc.fields 0 from rfl]
  decide +kernel

/-! ### Debug tokens -/

theorem fieldOf_dbgCtrl {cmd : Nat} (hcmd : cmd < 16) : fieldOf (cmd * 2 ^ 28) SEC_DBG_CTRL.CMD = cmd := by
  simp only [fieldOf, Nat.shiftRight_eq_div_pow, Field.width]
  omega

theorem exec_dbgNonce (hacc : Accepts s p .SEC_DBG_CTRL 0) : exec (.dbgNonce p) s = .next (s.newSecNonce.dbgResult Sec.OK) := by
  refine (writeCommand_accepted _ hacc).trans (congrArg _ ?_)
  rw [wrDbgCtrl, if_pos (show fieldOf (2 ^ 28) SEC_DBG_CTRL.CMD = 1 from fieldOf_dbgCtrl (cmd := 1) (by decide))]

theorem exec_submit (hacc : Accepts s p .SEC_DBG_CTRL 0) : exec (.submit p) s = .next s.submitToken := by
  refine (writeCommand_accepted _ hacc).trans (congrArg _ ?_)
  rw [wrDbgCtrl, fieldOf_dbgCtrl (cmd := 2) (by decide)]
  rfl

theorem newSecNonce_shows (s : State) : s.newSecNonce.flag SEC_DBG_STATUS.NONCE_VALID 0 = true ∧
    s.newSecNonce.flag SEC_KEY_STATUS.NONCE_VALID 0 = true ∧ s.newSecNonce.sec.dbgData = [] ∧
    Frame (fun r i => (r, i) ∈ [(Reg.SEC_NONCE, 0), (.SEC_KEY_STATUS, 0), (.SEC_DBG_STATUS, 0)]) s s.newSecNonce := by
  have hvalid := nonceValid_shows (s.fresh.2.setFld SEC_NONCE.NONCE 0 (s.fresh.1.toNat % 2 ^ 256)) true
  have hfresh : Frame (fun r i => (r, i) ∈ [(Reg.SEC_NONCE, 0), (.SEC_KEY_STATUS, 0), (.SEC_DBG_STATUS, 0)]) s s.fresh.2 := (Frame.refl s).same
  exact ⟨(State.flag_modSec _ _ _ _).trans hvalid.2, (State.flag_modSec _ _ _ _).trans hvalid.1, rfl, (hfresh.setFld.nonceValid (b := true)).modSec⟩

/-- Every answer of the check of a token fits the result. -/
theorem tokenCheck_lt (s : State) (d : List Byte) : s.tokenCheck d < 16 := by
  unfold State.tokenCheck
  dsimp only
  iterate 4 (split; · decide)
  split
  · decide
  · iterate 3 (split; · decide)
    decide

/-- The nonce is consumed and the token's result shows. -/
def tokenAnswered (s : State) : State := (s.nonceValid false).dbgResult (s.tokenCheck s.sec.dbgData)

theorem tokenAnswered_shows (s : State) : (tokenAnswered s).fld SEC_DBG_STATUS.RESULT 0 = s.tokenCheck s.sec.dbgData ∧
    (tokenAnswered s).flag SEC_DBG_STATUS.NONCE_VALID 0 = false ∧
    (tokenAnswered s).fld SEC_DBG_STATUS.PERMS 0 = s.fld SEC_DBG_STATUS.PERMS 0 ∧
    Frame (fun r i => (r, i) ∈ [(Reg.SEC_KEY_STATUS, 0), (.SEC_DBG_STATUS, 0)]) s (tokenAnswered s) := by
  have hlt := tokenCheck_lt s s.sec.dbgData
  unfold tokenAnswered State.dbgResult
  refine ⟨(State.fld_setFld_eq _ 0 _ (by decide)).trans (Nat.mod_eq_of_lt hlt), ?_, ?_, ((Frame.refl s).nonceValid (b := false)).setFld⟩
  · exact (State.flag_setFld_of_apart _ 0 0 _ (by decide)).trans (nonceValid_shows s false).2
  · unfold State.nonceValid
    simp (disch := decide) only [State.fld_setFld_of_apart, State.fld_setFlag_of_apart]

/-- A token that passes first erases what a scan chain could read. -/
def tokenErased (s : State) : State := if 2 ≤ fieldAt s.sec.dbgData 6 2 then (tokenAnswered s).eraseAll else (tokenAnswered s).eraseKeys

/-- Then it grants its permissions. -/
def tokenGranted (s u : State) : State :=
  let v := (u.setFlag GLB_STATE.DEBUG 0 true).alert Alert.SECURITY
  let v := v.setFld SEC_DBG_STATUS.PERMS 0 (v.fld SEC_DBG_STATUS.PERMS 0 ||| fieldAt s.sec.dbgData 6 2)
  (v.logSec SecEvt.TOKEN (sigKey (slice s.sec.dbgData 64 sigLen)) (fieldAt s.sec.dbgData 6 2)).measureSec

theorem submitToken_eq (s : State) : s.submitToken =
    if s.tokenCheck s.sec.dbgData ≠ Sec.OK then tokenAnswered s else tokenGranted s (tokenErased s) := rfl

theorem tokenErased_erases (s : State) :
    (tokenErased s).fld SEC_DBG_STATUS.RESULT 0 = s.tokenCheck s.sec.dbgData ∧ (tokenErased s).flag SEC_DBG_STATUS.NONCE_VALID 0 = false ∧
      (tokenErased s).fld SEC_DBG_STATUS.PERMS 0 = s.fld SEC_DBG_STATUS.PERMS 0 ∧ (tokenErased s).sec.ak = false ∧
      (tokenErased s).sec.keys = s.sec.keys ∧ (∀ k : Fin 4, (tokenErased s).reg .MGT_SESSION k = regReset (.MGT_SESSION, k)) ∧
      (2 ≤ fieldAt s.sec.dbgData 6 2 → (tokenErased s).sec.seed = false ∧ (tokenErased s).sec.dev = false ∧ (tokenErased s).sec.pwd = none ∧
        (tokenErased s).fld SEC_NONCE.NONCE 0 = 0 ∧ (tokenErased s).fld SEC_STATUS.ID_STATE 0 = 3) ∧
      ∀ a, (tokenErased s).flashByte a = s.flashByte a := by
  obtain ⟨hresult, hnonce, hperms, -, -, hflash⟩ := tokenAnswered_shows s
  have hkeys : (tokenAnswered s).sec.keys = s.sec.keys := rfl
  unfold tokenErased
  generalize tokenAnswered s = u at *
  split
  next h =>
    obtain ⟨hz, hid, hp, hr, hn, hsess⟩ := eraseAll_erases u
    rw [eraseAll_sec]
    exact ⟨hr.trans hresult, hn, hp.trans hperms, rfl, hkeys, fun k => (hsess k).trans (closeSessions_closes u k), fun _ => ⟨rfl, rfl, rfl, hz, hid⟩,
      fun a => ((eraseAll_frame u).2.2 a).trans (hflash a)⟩
  next h =>
    have hframe := eraseKeys_frame u
    rw [eraseKeys_sec]
    exact ⟨(hframe.fld_eq (by decide)).trans hresult, (hframe.flag_eq (by decide)).trans hnonce, (hframe.fld_eq (by decide)).trans hperms, rfl, hkeys,
      fun k => (eraseKeys_sessions u k).trans (closeSessions_closes u k), fun h2 => absurd h2 h, fun a => (hframe.2.2 a).trans (hflash a)⟩

/-- The registers that a grant changes. -/
abbrev grantRegs : List Reg := [.GLB_STATE, .MGT_ALERT_STATUS, .SEC_DBG_STATUS, .EVL_DROPPED, .SEC_MEAS]

/-- What a grant shows, and what it keeps of the state with the secrets erased. -/
theorem tokenGranted_grants (s u : State) :
    (tokenGranted s u).fld SEC_DBG_STATUS.PERMS 0 = (u.fld SEC_DBG_STATUS.PERMS 0 ||| fieldAt s.sec.dbgData 6 2) % 8 ∧
      (tokenGranted s u).flag GLB_STATE.DEBUG 0 = true ∧ Alerted Alert.SECURITY (tokenGranted s u) ∧
      (tokenGranted s u).fld SEC_DBG_STATUS.RESULT 0 = u.fld SEC_DBG_STATUS.RESULT 0 ∧
      (tokenGranted s u).flag SEC_DBG_STATUS.NONCE_VALID 0 = u.flag SEC_DBG_STATUS.NONCE_VALID 0 ∧ (tokenGranted s u).sec = u.sec ∧
      Frame (fun r _ => r ∈ grantRegs) u (tokenGranted s u) := by
  have halerted := alerted_alert (u.setFlag GLB_STATE.DEBUG 0 true) (cls := Alert.SECURITY) (by decide)
  have hdebug : ((u.setFlag GLB_STATE.DEBUG 0 true).alert Alert.SECURITY).flag GLB_STATE.DEBUG 0 = true := by
    refine (State.flag_eq_of_fld (State.fld_of_regs (State.alert_regs _ _) _ _)).trans ?_
    simp (disch := decide) only [State.flag_setFlag_of_apart, State.flag_setFld_of_apart, State.flag_setFlag_eq]
  have hsec : ((u.setFlag GLB_STATE.DEBUG 0 true).alert Alert.SECURITY).sec = u.sec := by
    rw [State.alert_eq]
    rfl
  have hframe : Frame (fun r i => r ∈ grantRegs ∧ (r, i) ≠ (.SEC_DBG_STATUS, 0)) u ((u.setFlag GLB_STATE.DEBUG 0 true).alert Alert.SECURITY) :=
    ((Frame.refl u).setFlag (by decide)).alert (by decide) (by decide)
  unfold tokenGranted
  dsimp only
  generalize (u.setFlag GLB_STATE.DEBUG 0 true).alert Alert.SECURITY = v at *
  have hreg : v.reg .SEC_DBG_STATUS 0 = u.reg .SEC_DBG_STATUS 0 := hframe.reg_eq (by decide)
  have hperms : v.fld SEC_DBG_STATUS.PERMS 0 = u.fld SEC_DBG_STATUS.PERMS 0 := State.fld_congr hreg
  unfold State.logSec
  obtain ⟨hbit, hpin⟩ := halerted
  refine ⟨?_, ?_, ⟨?_, ?_⟩, ?_, ?_, ?_, ?_⟩
  · rw [fld_measureSec _ _ (by decide), State.fld_log_of_apart _ _ _ _ _ _ (by decide), State.fld_setFld_eq _ _ _ (by decide), hperms]
    rfl
  · rw [flag_measureSec _ _ (by decide), State.flag_log_of_apart _ _ _ _ _ _ (by decide), State.flag_setFld_of_apart _ _ _ _ (by decide), hdebug]
  · rwa [fld_measureSec _ _ (by decide), State.fld_log_of_apart _ _ _ _ _ _ (by decide), State.fld_setFld_of_apart _ _ _ _ (by decide)]
  · rwa [flag_measureSec _ _ (by decide), State.flag_log_of_apart _ _ _ _ _ _ (by decide), State.flag_setFld_of_apart _ _ _ _ (by decide)]
  · rw [fld_measureSec _ _ (by decide), State.fld_log_of_apart _ _ _ _ _ _ (by decide), State.fld_setFld_of_apart _ _ _ _ (by decide)]
    exact State.fld_congr hreg
  · rw [flag_measureSec _ _ (by decide), State.flag_log_of_apart _ _ _ _ _ _ (by decide), State.flag_setFld_of_apart _ _ _ _ (by decide)]
    exact State.flag_congr hreg
  · rw [measureSec_sec, log_sec]
    exact hsec
  · exact ((hframe.mono fun _ _ h => h.1).setFld.log).thenIn (measureSec_frame _) (by rintro r i rfl; simp)

/-! ### The JTAG port -/

theorem jtagRow_awake {f : JtagX → JtagX} (h : s.pwr.sleep = 0) : jtagRow f s = .next { s with jtag := f s.jtag } :=
  congrArg _ (if_neg (not_not.2 h))

theorem exec_samplePreload (h : s.pwr.sleep = 0) (cells : List Bool) : exec (.samplePreload cells) s =
    .next { s.fresh.2 with jtag := { ir := .sample, captured := s.fresh.1.toNat, cells := cells } } := by
  exact (show exec (.samplePreload cells) s = jtagRow (fun _ => { ir := .sample, captured := s.fresh.1.toNat, cells := cells }) s.fresh.2 from rfl).trans
    (jtagRow_awake (s := s.fresh.2) h)

end

/-- Settles O41: a raise by whether it is allowed, a token by the answer of its check, the port by its instructions. -/
theorem floorsAndTokens : Obligations.FloorsAndTokens := by
  intro s
  refine ⟨fun p v hacc => ⟨fun h1 h64 c hc => ?_, fun hv c hc => ?_⟩, fun p hacc => ⟨⟨_, exec_dbgNonce hacc, ?_⟩, ?_⟩, fun hawake => ?_, fun k => ?_⟩
  · have hv : v.toNat < 256 := by omega
    simp only [List.mem_cons, List.not_mem_nil, or_false] at hc
    rcases hc with rfl | rfl
    · exact ⟨fun hok hle => ⟨_, exec_raiseFw hacc h1 h64, raiseFloor_raises _ hok hle (.head _) hv⟩,
        fun h => ⟨_, exec_raiseFw hacc h1 h64, raiseFloor_refuses h⟩⟩
    · exact ⟨fun hok hle => ⟨_, exec_raiseHrn hacc h1 h64, raiseFloor_raises _ hok hle (.tail _ (.head _)) hv⟩,
        fun h => ⟨_, exec_raiseHrn hacc h1 h64, raiseFloor_refuses h⟩⟩
  · have htarget {cmd : Nat} (h : cmd < 16) : fieldOf (cmd * 2 ^ 28 + v.toNat) SEC_ROLLBACK_CTRL.TARGET = 0 ∨
        64 < fieldOf (cmd * 2 ^ 28 + v.toNat) SEC_ROLLBACK_CTRL.TARGET := by
      rwa [(fieldOf_rollbackCtrl h v).2]
    simp only [List.mem_cons, List.not_mem_nil, or_false] at hc
    rcases hc with rfl | rfl
    · exact ⟨_, writeCommand_accepted _ hacc, wrRollback_rejects (by have h := htarget (cmd := 1) (by decide); rwa [Nat.one_mul] at h)⟩
    · exact ⟨_, writeCommand_accepted _ hacc, wrRollback_rejects (htarget (by decide))⟩
  · obtain ⟨hdbg, hkey, hdata, hframe⟩ := newSecNonce_shows s
    exact ⟨(State.flag_setFld_of_apart _ 0 0 _ (by decide)).trans hdbg, (State.flag_setFld_of_apart _ 0 0 _ (by decide)).trans hkey,
      State.fld_setFld_eq _ 0 _ (by decide), hdata, hframe.setFld.keeps⟩
  · intro d r perms
    have hrow := exec_submit hacc
    rw [submitToken_eq] at hrow
    refine ⟨fun hr => ?_, fun hr => ?_⟩
    · rw [if_pos hr] at hrow
      obtain ⟨hresult, hnonce, -, hframe⟩ := tokenAnswered_shows s
      exact ⟨_, hrow, hresult, hnonce, rfl, hframe.keeps⟩
    · rw [if_neg (not_not.2 hr)] at hrow
      obtain ⟨hresult, hnonce, hperms, hak, hkeys, hsess, hsecrets, hflash⟩ := tokenErased_erases s
      obtain ⟨hp, hdebug, halert, hres, hnon, hsec, hframe⟩ := tokenGranted_grants s (tokenErased s)
      refine ⟨_, hrow, hres.trans (hresult.trans hr), hnon.trans hnonce, hp.trans (by rw [hperms]), hdebug, halert, ?_, fun k => ?_, fun h2 => ?_, ?_,
        fun a => (hframe.2.2 a).trans (hflash a)⟩
      · rw [hsec, hak]
      · rw [State.flag, State.fld_eq, hframe.reg_eq (by decide), hsess]
        exact sessionReset_closed
      · obtain ⟨hseed, hdev, hpwd, hz, hid⟩ := hsecrets h2
        exact ⟨by rw [hsec, hseed], by rw [hsec, hdev], by rw [hsec, hpwd], (hframe.fld_eq (by decide)).trans hz, (hframe.fld_eq (by decide)).trans hid⟩
      · rw [hsec, hkeys]
  · refine ⟨⟨_, ?_, rfl⟩, ⟨_, ?_, rfl⟩, ⟨_, ?_, rfl⟩, fun cells => ⟨_, exec_samplePreload hawake cells, rfl, rfl, ((Frame.refl s).same).keeps⟩⟩
    · exact (show exec .bypass s = execBypass s from rfl).trans (jtagRow_awake hawake)
    · exact (show exec .idcode s = execIdcode s from rfl).trans (jtagRow_awake hawake)
    · exact (show exec .extest s = execExtest s from rfl).trans (jtagRow_awake hawake)
  · change execPrivateInstruction k s = _
    rw [execPrivateInstruction]
    by_cases h : s.pwr.sleep = 0 ∧ s.flag SEC_STATUS.JTAG_LOCK 0 = false ∧ (s.fld SEC_DBG_STATUS.PERMS 0).testBit k = true
    · obtain ⟨hsleep, hlock, hperm⟩ := h
      rw [if_neg (by simp [hsleep, hlock, hperm]), if_pos ⟨hsleep, hlock, hperm⟩]
    · rw [if_neg h, if_pos]
      by_contra hno
      simp only [ne_eq, Bool.not_eq_true', not_or, not_not, Bool.not_eq_true, Bool.not_eq_false] at hno
      exact h hno

end Sys2Proof.Proofs
end

section
/-! SUPPORT. A command bit in a register that is written back, and a write that only changes what the register holds. -/
namespace Sys2Proof.Machine
open Sys2Proof Sys2Proof.Claims
set_option Elab.async false

theorem withField_lt (v x : Nat) (f : Field) : withField v f x < 2 ^ 512 := BitVec.isLt _

/-- A field that only commands leaves no bit of the value it is written with. -/
theorem plainWrite_withField_wo (s : State) {f : Field} (i x : Nat) {v : Nat} (hv : v < 2 ^ 512) (hf : f.has .wo) :
    plainWrite f.reg i (withField v f x) s = plainWrite f.reg i v s := by
  obtain ⟨hok, hle, hhi, d, hd, hdhi, hdlo, hacc⟩ := hf
  have hreg : applyAccess (s.reg f.reg i) (withField v f x) (s.clearable f.reg i (withField v f x)) f.reg.desc.fields =
      applyAccess (s.reg f.reg i) v (s.clearable f.reg i v) f.reg.desc.fields := by
    refine BitVec.eq_of_getLsbD_eq fun k _ => ?_
    have hbit := testBit_withField v hv x k hle hhi
    rw [getLsbD_applyAccess _ _ _ _ hok, getLsbD_applyAccess _ _ _ _ hok]
    by_cases hk : f.lo ≤ k ∧ k ≤ f.hi
    · rw [accessAt_of_mem hok hd (by omega), hacc]
      rfl
    · rw [if_neg hk] at hbit
      cases accessAt f.reg.desc.fields k with
      | none => rfl
      | some a => cases a <;> simp only [accessBit, hbit, State.testBit_clearable]
  rw [plainWrite, plainWrite, hreg]

theorem fieldOf_lt (v : Nat) (f : Field) : fieldOf v f < 2 ^ f.width := Nat.mod_lt _ (Nat.two_pow_pos _)

/-- A refused word is recorded as it was written. -/
theorem regReject_logs {s : State} (p : Path) (r : Reg) (i : Nat) (v : Word32) (hroom : Room s) :
    Logged Evt.REG_REJECT Subj.REGISTER (regAddr r i 0) [s.pathWord p, v.toNat] s (s.regReject p r i v.toNat) := by
  have h := regReject_logged s p r i v.toNat hroom
  rwa [Nat.mod_eq_of_lt v.isLt] at h

theorem regReject_hrn (s : State) (p : Path) (r : Reg) (i v : Nat) : (s.regReject p r i v).hrn = s.hrn := by
  rw [State.regReject, State.log, State.logAt_eq]

end Sys2Proof.Machine
end

section
/-! PROOFS. O32: what GO and ABORT of a DMA channel do (chapter 14). -/
namespace Sys2Proof.Proofs
open Sys2Proof Sys2Proof.Machine Sys2Proof.Claims
set_option Elab.async false

section
variable {s : State} {p : Path} {n : Fin 16}

/-! ### The write of GO -/

theorem dmaGoValue_fields (s : State) (n : Nat) {m : Nat} (hm : m < 4) : fieldOf (s.dmaGoValue n m) DMA_CTRL.MODE = m ∧
    fieldOf (s.dmaGoValue n m) DMA_CTRL.ABORT = 0 ∧ fieldOf (s.dmaGoValue n m) DMA_CTRL.GO = 1 := by
  have hv := s.writeBack_lt .DMA_CTRL n (by decide)
  unfold State.dmaGoValue
  refine ⟨?_, ?_, ?_⟩
  · rw [fieldOf_withField_apart _ _ (withField_lt _ _ _) (by decide) (by decide) (by decide) (by decide),
      fieldOf_withField_same _ _ (by decide) (by decide)]
    exact Nat.mod_eq_of_lt hm
  · rw [fieldOf_withField_apart _ _ (withField_lt _ _ _) (by decide) (by decide) (by decide) (by decide),
      fieldOf_withField_apart _ _ hv (by decide) (by decide) (by decide) (by decide)]
    exact fieldOf_writeBack_zero s (g := DMA_CTRL.ABORT) n (acc := .wo) (by decide) (by decide)
  · exact fieldOf_withField_same _ _ (by decide) (by decide)

theorem plainWrite_dmaGoValue (s : State) (n m : Nat) : plainWrite .DMA_CTRL n (s.dmaGoValue n m) s = s.setFld DMA_CTRL.MODE n m :=
  (plainWrite_withField_wo s (f := DMA_CTRL.GO) n 1 (withField_lt _ _ _) (by decide)).trans
    (plainWrite_writeBack_eq_setFld s (f := DMA_CTRL.MODE) n m (acc := .rw) (by decide) (.inl rfl))

/-- What a GO that is taken starts from: the channel's mode is set. -/
def modeSet (s : State) (n m : Nat) : State := s.setFld DMA_CTRL.MODE n m

theorem modeSet_role (s : State) (p : Path) (n m : Nat) : (modeSet s n m).role p = s.role p := by
  cases p with
  | bus => exact State.fld_setFld_of_apart _ _ _ _ (by decide)
  | session k =>
    unfold modeSet State.role
    simp (disch := decide) only [State.flag_setFld_of_apart, State.fld_setFld_of_apart]
  | causeway _ => rfl
  | tunnel => rfl
  | firmware => rfl

theorem dmaStart_idle (hacc : Accepts s p .DMA_CTRL n) (hidle : s.dmaState n = Dma.IDLE) (hreq : s.fld DMA_CTRL.REQ n = 0) {m : Nat} (hm : m < 3) :
    dmaStart p n m s = .next ((modeSet s n m).dmaGo n (s.role p)) := by
  obtain ⟨hmode, habort, hgo⟩ := dmaGoValue_fields s n (m := m) (by omega)
  have hreq' : (modeSet s n m).fld DMA_CTRL.REQ n = 0 := (State.fld_setFld_of_apart _ _ _ _ (by decide)).trans hreq
  refine (writeCommand_accepted _ hacc).trans (congrArg _ ?_)
  rw [wrDmaCtrl, hmode, habort, hgo, decide_eq_true hidle, plainWrite_dmaGoValue, if_neg (by omega)]
  change (if (1 : Nat) = 1 then _ else _ : State × WStatus).1 = _
  rw [if_pos rfl]
  change (if true && decide ((modeSet s n m).fld DMA_CTRL.REQ n = 0) then _ else _ : State × WStatus).1 = _
  rw [hreq', if_pos (by decide), ← modeSet_role s p n m]
  rfl

theorem dmaStart_busy (hacc : Accepts s p .DMA_CTRL n) (hbusy : s.dmaState n ≠ Dma.IDLE) {m : Nat} (hm : m < 3) : dmaStart p n m s =
    .next (s.log Evt.DMA_EVENT Subj.DMA_CHANNEL n ((List.range 8).map fun i => fieldAt (s.dmaRecord n 0) (4 * i) 4)) := by
  obtain ⟨hmode, habort, hgo⟩ := dmaGoValue_fields s n (m := m) (by omega)
  refine (writeCommand_accepted _ hacc).trans (congrArg _ ?_)
  rw [wrDmaCtrl, hmode, habort, hgo, decide_eq_false hbusy, if_neg (by omega)]
  rfl

/-! ### What GO leaves -/

/-- The channel stops before its first beat, with a status and the entry concerned. -/
def DmaStops (s : State) (n status i : Nat) (t : State) : Prop := t.dmaState n = Dma.CHECK ∧ (t.dmaOf n).ended = some status ∧
  (t.dmaOf n).entry = i ∧ Keeps [(.DMA_CTRL, n), (.DMA_STATUS, n)] s t

/-- The channel's transfer runs over these entries. -/
def DmaRuns (s : State) (n : Nat) (es : List DmaEntry) (desc : Bool) (t : State) : Prop := t.dmaState n = Dma.RUN ∧
  (t.dmaOf n).entries = es ∧ (t.dmaOf n).desc = desc ∧ (t.dmaOf n).moved = 0 ∧ (t.dmaOf n).ended = none ∧
  t.fld DMA_STATUS.REMAIN n = s.fld DMA_CNT.CNT n ∧ KeepsKinds [.DMA_CTRL, .DMA_STATUS] s t

theorem modeSet_frame (s : State) (n m : Nat) : Frame (fun r i => r = .DMA_CTRL ∧ i = n) s (modeSet s n m) := (Frame.refl s).setFld ⟨rfl, rfl⟩

theorem dmaGo_stops {u : State} {n m role status i : Nat} (h : (modeSet s n m).dmaCheck n role = (.inl (status, i), u)) (hu : u = modeSet s n m) :
    DmaStops s n status i ((modeSet s n m).dmaGo n role) := by
  unfold State.dmaGo
  rw [h, hu]
  dsimp only
  have hframe : Frame (fun r i => (r, i) ∈ [(Reg.DMA_CTRL, n), (.DMA_STATUS, n)]) s (modeSet s n m) :=
    (modeSet_frame s n m).mono (by rintro r i ⟨rfl, rfl⟩; simp)
  refine ⟨(State.fld_modDma _ _ _ _ _).trans (State.fld_setFld_eq _ _ _ (by decide)), ?_, ?_, hframe.setFld.modDma.keeps⟩
  · rw [State.dmaOf_modDma_same]
  · rw [State.dmaOf_modDma_same]

/-- A grant changes the states of channels, and leaves a running one running. -/
theorem dmaGrant_frame (u : State) : Frame (fun r _ => r = .DMA_STATUS) u u.dmaGrant := by
  unfold State.dmaGrant
  split
  · exact ((Frame.refl u).setEngine).setFld rfl
  · exact .refl u

theorem dmaGrant_keeps (u : State) {n : Nat} (h : u.dmaState n = Dma.RUN) : u.dmaGrant.dmaState n = Dma.RUN ∧
    u.dmaGrant.fld DMA_STATUS.REMAIN n = u.fld DMA_STATUS.REMAIN n ∧ u.dmaGrant.dma = u.dma := by
  unfold State.dmaGrant
  split
  next k _ _ =>
    refine ⟨?_, State.fld_setFld_of_apart _ _ _ _ (by decide), rfl⟩
    by_cases hn : n = k
    · subst hn
      exact State.fld_setFld_eq _ _ _ (by decide)
    · exact (State.fld_setFld_index _ _ hn).trans h
  · exact ⟨h, rfl, rfl⟩

/-- The copy of one entry descends where its destination overlaps above its source. -/
def descends (index : Bool) : List DmaEntry → Bool
  | [e] => !index && !e.fill && decide (e.src < e.dst) && overlaps e.src e.cnt e.dst e.cnt
  | _ => false

/-- A transfer before its first beat. -/
def freshTransfer (es : List DmaEntry) (strict index : Bool) : DmaX :=
  { entries := es, desc := descends index es, strict := strict, index := index }

/-- A transfer that has begun on channel `n`: what it is to do, and its count. -/
def dmaBegun (u : State) (n cnt : Nat) (x : DmaX) : State := ((u.modDma n fun _ => x).goDma n Dma.RUN).setFld DMA_STATUS.REMAIN n cnt

theorem dmaBegun_shows (u : State) (n : Nat) {cnt : Nat} (hcnt : cnt < 2 ^ 24) (x : DmaX) : (dmaBegun u n cnt x).dmaOf n = x ∧
    (dmaBegun u n cnt x).dmaState n = Dma.RUN ∧ (dmaBegun u n cnt x).fld DMA_STATUS.REMAIN n = cnt ∧
    Frame (fun r _ => r = .DMA_STATUS) u (dmaBegun u n cnt x) :=
  ⟨State.dmaOf_modDma_same u n fun _ => x, (State.fld_setFld_of_apart _ _ _ _ (by decide)).trans (State.fld_setFld_eq _ _ _ (by decide)),
    (State.fld_setFld_eq _ _ _ (by decide)).trans (Nat.mod_eq_of_lt hcnt), ((Frame.refl u).modDma.setFld rfl).setFld rfl⟩

theorem dmaGo_begins {u v : State} {n role : Nat} {es : List DmaEntry} (h : u.dmaCheck n role = (.inr es, v)) (hv : v = u) :
    u.dmaGo n role = (dmaBegun u n (u.fld DMA_CNT.CNT n) (freshTransfer es (u.dmaStrict n)
      (decide (u.fld DMA_CTRL.MODE n = 2)))).dmaGrant := by
  unfold State.dmaGo
  rw [h, hv]
  rfl

theorem dmaGo_runs {u : State} {n m role : Nat} {es : List DmaEntry} (hm : m < 4) (h : (modeSet s n m).dmaCheck n role = (.inr es, u))
    (hu : u = modeSet s n m) : DmaRuns s n es (descends (decide (m = 2)) es) ((modeSet s n m).dmaGo n role) := by
  have hmode : (modeSet s n m).fld DMA_CTRL.MODE n = m := (State.fld_setFld_eq _ _ _ (by decide)).trans (Nat.mod_eq_of_lt hm)
  have hcnt : (modeSet s n m).fld DMA_CNT.CNT n = s.fld DMA_CNT.CNT n := State.fld_setFld_of_apart _ _ _ _ (by decide)
  have hframe : Frame (fun r _ => r ∈ [Reg.DMA_CTRL, .DMA_STATUS]) s (modeSet s n m) :=
    (modeSet_frame s n m).mono (by rintro r i ⟨rfl, rfl⟩; simp)
  rw [dmaGo_begins h hu, hmode, hcnt]
  obtain ⟨hof, hstate, hremain, hkinds⟩ := dmaBegun_shows (modeSet s n m) n (State.fld_lt s DMA_CNT.CNT n)
    (freshTransfer es ((modeSet s n m).dmaStrict n) (decide (m = 2)))
  generalize dmaBegun _ n (s.fld DMA_CNT.CNT n) _ = w at *
  obtain ⟨hrun, hrem, hdma⟩ := dmaGrant_keeps w hstate
  have hsame : w.dmaGrant.dmaOf n = w.dmaOf n := by rw [State.dmaOf, hdma, State.dmaOf]
  rw [DmaRuns, hsame, hof]
  refine ⟨hrun, rfl, rfl, rfl, rfl, hrem.trans hremain, ?_⟩
  exact ((hframe.thenIn hkinds (by rintro r i rfl; simp)).thenIn (dmaGrant_frame w) (by rintro r i rfl; simp)).kinds

/-! ### The checks -/

/-- What the checks see of the registers is what stood before the mode was set. -/
theorem modeSet_shows (s : State) (n : Nat) {m : Nat} (hm : m < 4) : (modeSet s n m).fld DMA_CTRL.MODE n = m ∧
    (modeSet s n m).fld DMA_SRC.ADDR n = s.fld DMA_SRC.ADDR n ∧ (modeSet s n m).fld DMA_DST.ADDR n = s.fld DMA_DST.ADDR n ∧
    (modeSet s n m).fld DMA_CNT.CNT n = s.fld DMA_CNT.CNT n ∧ (modeSet s n m).partFailed 12 = s.partFailed 12 ∧
    (modeSet s n m).dmaStrict n = s.dmaStrict n := by
  unfold modeSet State.partFailed State.dmaStrict
  refine ⟨(State.fld_setFld_eq _ _ _ (by decide)).trans (Nat.mod_eq_of_lt hm), ?_⟩
  simp (disch := decide) only [State.fld_setFld_of_apart, State.flag_setFld_of_apart, true_and]

/-- The entry that the registers of a channel describe. -/
def directEntry (s : State) (n : Nat) (fill : Bool) : DmaEntry :=
  { src := s.fld DMA_SRC.ADDR n, dst := s.fld DMA_DST.ADDR n, cnt := s.fld DMA_CNT.CNT n, fill := fill }

/-- What the checks find of LINEAR and FILL. -/
def directCheck (s : State) (n role : Nat) (e : DmaEntry) : (Nat × Nat) ⊕ List DmaEntry :=
  if e.cnt = 0 then .inl (DmaEnd.TABLE, 0)
  else match e.fault role with
    | some x => .inl (x, 0)
    | none => if s.dmaStrict n && !e.aligned then .inl (DmaEnd.ALIGN, 0) else .inr [e]

theorem dmaCheck_direct {n m : Nat} (role : Nat) (hpart : s.partFailed 12 = false) (hm : m < 2) :
    (modeSet s n m).dmaCheck n role = (directCheck s n role (directEntry s n (decide (m = 1))), modeSet s n m) := by
  obtain ⟨hmode, hsrc, hdst, hcnt, hfail, hstrict⟩ := modeSet_shows s n (m := m) (by omega)
  rw [State.dmaCheck, hmode, hsrc, hdst, hcnt, hfail, hstrict, hpart, if_neg Bool.false_ne_true, directCheck]
  change _ = (if s.fld DMA_CNT.CNT n = 0 then _ else _, _)
  by_cases h0 : s.fld DMA_CNT.CNT n = 0
  · rw [if_pos h0, if_pos h0]
  · rw [if_neg h0, if_neg h0, if_pos hm]
    change (match (directEntry s n (decide (m = 1))).fault role with | some x => _ | none => _) = _
    cases (directEntry s n (decide (m = 1))).fault role with
    | some x => rfl
    | none =>
      change (if s.dmaStrict n && !(directEntry s n (decide (m = 1))).aligned then _ else _) = (if _ then _ else _, _)
      split <;> rfl

theorem dmaCheck_tooMany {n role : Nat} (hpart : s.partFailed 12 = false) (h : s.fld DMA_CNT.CNT n = 0 ∨ 256 < s.fld DMA_CNT.CNT n) :
    (modeSet s n 2).dmaCheck n role = (.inl (DmaEnd.TABLE, 0), modeSet s n 2) := by
  obtain ⟨hmode, hsrc, hdst, hcnt, hfail, hstrict⟩ := modeSet_shows s n (m := 2) (by omega)
  rw [State.dmaCheck, hmode, hsrc, hdst, hcnt, hfail, hstrict, hpart, if_neg Bool.false_ne_true]
  rcases h with h | h
  · rw [if_pos h]
  · rw [if_neg (by omega), if_neg (by decide), if_pos h]

/-- What the checks of INDEX find of its table's address. -/
theorem dmaCheck_table {n role : Nat} (hpart : s.partFailed 12 = false) (h0 : 0 < s.fld DMA_CNT.CNT n) (h256 : s.fld DMA_CNT.CNT n ≤ 256) :
    (s.fld DMA_SRC.ADDR n % 16 ≠ 0 → (modeSet s n 2).dmaCheck n role = (.inl (DmaEnd.ALIGN, 0), modeSet s n 2)) ∧
    (s.fld DMA_SRC.ADDR n % 16 = 0 → ∀ x, rangeFault role (s.fld DMA_SRC.ADDR n) (16 * s.fld DMA_CNT.CNT n) false = some x →
      (modeSet s n 2).dmaCheck n role = (.inl (x, 0), modeSet s n 2)) := by
  obtain ⟨hmode, hsrc, hdst, hcnt, hfail, hstrict⟩ := modeSet_shows s n (m := 2) (by omega)
  rw [State.dmaCheck, hmode, hsrc, hdst, hcnt, hfail, hstrict, hpart, if_neg Bool.false_ne_true, if_neg (by omega), if_neg (by decide),
    if_neg (by omega)]
  exact ⟨fun h => if_pos h, fun h x hx => by rw [if_neg (not_not.2 h), hx]⟩

/-- A read of stores without errors returns their bytes. -/
theorem storeRead_clean {u : State} (herrs : u.memx.errs = []) (hpoison : u.memx.poison = []) (a k : Nat) (mgmt : Bool) :
    u.storeRead a k mgmt = ((u.memBytes a k).map fun b => (b, false), u) := by
  rw [State.storeRead]
  split
  · rfl
  · rw [herrs, hpoison, if_pos (by decide)]

/-- A part of what is read is what is read of the part. -/
theorem memBytes_part (u : State) (a : Nat) {i k : Nat} (hi : i < k) :
    ((((u.memBytes a (16 * k)).map fun b => (b, false)).drop (16 * i)).take 16).map (fun e => e.1) = u.memBytes (a + 16 * i) 16 := by
  refine List.ext_getElem ?_ fun j h1 h2 => ?_
  · simp only [State.memBytes, List.length_map, List.length_take, List.length_drop, List.length_range]
    omega
  · simp only [State.memBytes, List.getElem_map, List.getElem_take, List.getElem_drop, List.getElem_range, Nat.add_assoc]

/-- The checks of INDEX pass a table whose entries pass. -/
theorem dmaCheck_index {n role : Nat} {es : List DmaEntry} (hpart : s.partFailed 12 = false) (h0 : 0 < s.fld DMA_CNT.CNT n)
    (h256 : s.fld DMA_CNT.CNT n ≤ 256) (hsrc16 : s.fld DMA_SRC.ADDR n % 16 = 0)
    (hrange : rangeFault role (s.fld DMA_SRC.ADDR n) (16 * s.fld DMA_CNT.CNT n) false = none) (herrs : s.memx.errs = [])
    (hpoison : s.memx.poison = [])
    (hes : ((List.range (s.fld DMA_CNT.CNT n)).map fun i => entryOf (s.memBytes (s.fld DMA_SRC.ADDR n + 16 * i) 16)) = es.map some)
    (hpass : ∀ e ∈ es, e.fault role = none ∧ (s.dmaStrict n = false ∨ e.aligned = true)) (hclash : firstClash 0 es = none) :
    (modeSet s n 2).dmaCheck n role = (.inr es, modeSet s n 2) := by
  obtain ⟨hmode, hsrc, hdst, hcnt, hfail, hstrict⟩ := modeSet_shows s n (m := 2) (by omega)
  have hread : (List.range (s.fld DMA_CNT.CNT n)).map (fun i => entryOf (((((modeSet s n 2).memBytes (s.fld DMA_SRC.ADDR n)
      (16 * s.fld DMA_CNT.CNT n)).map fun b => (b, false)).drop (16 * i)).take 16 |>.map (·.1))) = es.map some := by
    rw [← hes]
    exact List.map_congr_left fun i hi => by
      rw [memBytes_part _ _ (List.mem_range.1 hi)]
      rfl
  have hnone : (es.map some).findIdx? Option.isNone = none := by
    rw [List.findIdx?_eq_none_iff]
    intro o ho
    obtain ⟨e, -, rfl⟩ := List.mem_map.1 ho
    rfl
  have hfault : (es.findIdx? fun e => (e.fault role).isSome) = none := by
    rw [List.findIdx?_eq_none_iff]
    intro e he
    rw [(hpass e he).1]
    rfl
  have halign : (if s.dmaStrict n then es.findIdx? fun e => !e.aligned else none) = none := by
    split
    next hs =>
      rw [List.findIdx?_eq_none_iff]
      intro e he
      rw [(hpass e he).2.resolve_left (by rw [hs]; decide)]
      rfl
    · rfl
  have hall : (es.map some).filterMap id = es := by
    rw [List.filterMap_map]
    exact List.filterMap_some
  rw [State.dmaCheck, hmode, hsrc, hdst, hcnt, hfail, hstrict, hpart, if_neg Bool.false_ne_true, if_neg (by omega), if_neg (by decide),
    if_neg (by omega), if_neg (not_not.2 hsrc16), hrange, storeRead_clean (u := modeSet s n 2) herrs hpoison]
  dsimp only
  rw [hread, hnone]
  dsimp only
  rw [hall, hfault]
  dsimp only
  rw [halign, hclash]

/-! ### ABORT -/

theorem exec_dmaAbort (hacc : Accepts s p .DMA_CTRL n) (hasks : s.dmaAsks n = true) (hmode : s.fld DMA_CTRL.MODE n ≠ 3) :
    exec (.dmaAbort p n) s = .next (if s.engine.current = some n.val then s.modDma n fun x => { x with aborting := true }
      else s.modDma n fun x => { x with ended := some DmaEnd.ABORTED }) := by
  have hbusy : s.dmaState n ≠ Dma.IDLE := by
    intro h
    rw [State.dmaAsks, h] at hasks
    exact absurd hasks (by rw [Bool.and_eq_true]; rintro ⟨h, -⟩; exact absurd h (by decide))
  have hv := s.writeBack_lt .DMA_CTRL n (by decide)
  have habort : fieldOf (withField (s.writeBack .DMA_CTRL n) DMA_CTRL.ABORT 1) DMA_CTRL.ABORT = 1 := fieldOf_withField_same _ _ (by decide) (by decide)
  have hgo : fieldOf (withField (s.writeBack .DMA_CTRL n) DMA_CTRL.ABORT 1) DMA_CTRL.GO = 0 := by
    rw [fieldOf_withField_apart _ _ hv (by decide) (by decide) (by decide) (by decide)]
    exact fieldOf_writeBack_zero s (g := DMA_CTRL.GO) n (acc := .wo) (by decide) (by decide)
  have hm : fieldOf (withField (s.writeBack .DMA_CTRL n) DMA_CTRL.ABORT 1) DMA_CTRL.MODE = s.fld DMA_CTRL.MODE n := by
    rw [fieldOf_withField_apart _ _ hv (by decide) (by decide) (by decide) (by decide)]
    exact fieldOf_writeBack s (g := DMA_CTRL.MODE) n (acc := .rw) (by decide) (.inl rfl)
  refine (writeCommand_accepted _ hacc).trans (congrArg _ ?_)
  rw [wrDmaCtrl, hm, if_neg hmode, habort, hgo, decide_eq_false hbusy]
  change s.dmaAbort n = _
  rw [State.dmaAbort, if_pos hasks]

end

/-- Settles O32: GO by what the checks find, GO on a busy channel by its record, ABORT by whether the channel's burst runs. -/
theorem dmaStarts : Obligations.DmaStarts := by
  intro s p n hacc src dst cnt stopped running
  refine ⟨fun hidle hreq hpart => ⟨fun c hc => ?_, fun hcnt => ?_, fun h0 h256 => ⟨fun h16 => ?_, fun h16 => ⟨fun x hx => ?_, ?_⟩⟩⟩, fun hbusy c hc => ?_,
    fun hasks hmode => ?_⟩
  · have hgo : ∃ m, m < 2 ∧ c.2 = decide (m = 1) ∧ exec c.1 s = .next ((modeSet s n m).dmaGo n (s.role p)) := by
      simp only [List.mem_cons, List.not_mem_nil, or_false] at hc
      rcases hc with rfl | rfl
      · exact ⟨0, by decide, rfl, (show _ = dmaStart p n 0 s from rfl).trans (dmaStart_idle hacc hidle hreq (by decide))⟩
      · exact ⟨1, by decide, rfl, (show _ = dmaStart p n 1 s from rfl).trans (dmaStart_idle hacc hidle hreq (by decide))⟩
    obtain ⟨m, hm, hfill, hexec⟩ := hgo
    have hcheck := dmaCheck_direct (n := n) (s.role p) hpart hm
    rw [← hfill] at hcheck
    rw [directCheck] at hcheck
    intro e
    change _ = (if cnt = 0 then _ else match e.fault (s.role p) with | some x => _ | none => if s.dmaStrict n && !e.aligned then _ else _, _) at hcheck
    refine ⟨fun h0 => ?_, fun h0 => ⟨fun x hx => ?_, fun hnone => ⟨fun hstrict halign => ?_, fun hgood => ?_⟩⟩⟩
    · rw [if_pos h0] at hcheck
      exact ⟨_, hexec, dmaGo_stops hcheck rfl⟩
    · rw [if_neg h0, hx] at hcheck
      exact ⟨_, hexec, dmaGo_stops hcheck rfl⟩
    · rw [if_neg h0, hnone, hstrict, halign] at hcheck
      exact ⟨_, hexec, dmaGo_stops hcheck rfl⟩
    · rw [if_neg h0, hnone] at hcheck
      have hpass : (s.dmaStrict n && !e.aligned) = false := by
        rcases hgood with h | h
        · rw [h, Bool.false_and]
        · rw [h, Bool.not_true, Bool.and_false]
      dsimp only at hcheck
      rw [hpass, if_neg Bool.false_ne_true] at hcheck
      have hruns := dmaGo_runs (s := s) (by omega) hcheck rfl
      rw [decide_eq_false (show m ≠ 2 by omega)] at hruns
      exact ⟨_, hexec, hruns⟩
  · exact ⟨_, dmaStart_idle hacc hidle hreq (by decide), dmaGo_stops (dmaCheck_tooMany hpart hcnt) rfl⟩
  · exact ⟨_, dmaStart_idle hacc hidle hreq (by decide), dmaGo_stops ((dmaCheck_table hpart h0 h256).1 h16) rfl⟩
  · exact ⟨_, dmaStart_idle hacc hidle hreq (by decide), dmaGo_stops ((dmaCheck_table hpart h0 h256).2 h16 x hx) rfl⟩
  · intro hrange herrs hpoison es hes hpass hclash
    have hruns := dmaGo_runs (s := s) (by decide) (dmaCheck_index hpart h0 h256 h16 hrange herrs hpoison hes hpass hclash) rfl
    have hdesc : descends (decide (2 = 2)) es = false := by
      unfold descends
      split <;> rfl
    rw [hdesc] at hruns
    exact ⟨_, dmaStart_idle hacc hidle hreq (by decide), hruns⟩
  · have hlog : exec c s = .next (s.log Evt.DMA_EVENT Subj.DMA_CHANNEL n ((List.range 8).map fun i => fieldAt (s.dmaRecord n 0) (4 * i) 4)) := by
      simp only [List.mem_cons, List.not_mem_nil, or_false] at hc
      rcases hc with rfl | rfl | rfl
      · exact dmaStart_busy hacc hbusy (m := 0) (by decide)
      · exact dmaStart_busy hacc hbusy (m := 1) (by decide)
      · exact dmaStart_busy hacc hbusy (m := 2) (by decide)
    refine ⟨_, hlog, (Frame.refl s).log.keeps, ?_, fun hroom => loggedAt_logAt hroom _ _ _ _ _⟩
    rw [State.log, State.logAt_eq]
  · refine ⟨_, exec_dmaAbort hacc hasks hmode, ?_, ?_⟩
    · exact (Frame.ite (fun _ => (Frame.refl s).modDma) fun _ => (Frame.refl s).modDma).keeps
    · split <;> rw [State.dmaOf_modDma_same]

end Sys2Proof.Proofs
end

section
/-! PROOFS. O35, a self-calibration behind a queued scan (chapter 13): a counterexample. -/
namespace Sys2Proof.Proofs
open Sys2Proof Sys2Proof.Machine Sys2Proof.Claims
set_option Elab.async false

/-- The conversion of channel 37 in progress, without a stream. -/
def diodeScan : ConvX := { ch := 37, src := 0, order := 0, kind := Conv.SCAN }

/-- A device whose urgent queue holds a scan conversion, DROP set, whose channel 37 has moved since the last self-calibration. -/
def scanQueued : State :=
  (deviceWith [(HKA_CH_CFG.STREAM, 37, 15), (HKA_CTRL.URG_POL, 0, 1)]).modHka fun x =>
    { x with conv := some diodeScan, urgent := [{ ch := 0, src := 0, order := 0, kind := Conv.SCAN }], cal37 := some 4194304 }

theorem scanQueued_converts : scanQueued.hka.conv = some diodeScan ∧ diodeScan.due ≤ scanQueued.cycle ∧
    4 ≤ scanQueued.fld HKA_CH_CFG.STREAM 37 ∧ scanQueued.hka.retry = [] ∧ scanQueued.hka.urgent.length ≤ 2 := by decide +kernel

/-- The queued scan starts, and the second request of the self-calibration drops it. -/
theorem scanQueued_drops : scanQueued.fld HKA_URG_DROP.COUNT 0 = 0 ∧ (match exec (.conversionEnd [0]) scanQueued with
    | .next t => t.fld HKA_URG_DROP.COUNT 0
    | _ => 0) = 1 := by decide +kernel

/-- Refutes O35: where the model's urgent queue holds a conversion marked as a scan, the self-calibration that the end of a conversion of
channel 37 starts has it dropped and counted, with no more than two requests waiting; the statement's frame keeps `HKA_URG_DROP`. -/
theorem not_conversions : ¬ Obligations.Conversions := by
  unfold Obligations.Conversions
  intro h
  obtain ⟨hconv, hdue, hstream, hretry, hfew⟩ := scanQueued_converts
  obtain ⟨hscan, -, -⟩ := (h scanQueued).1 [0] diodeScan hconv hdue (by decide) hstream hretry
  obtain ⟨t, ht, -, -, -, -, -, -, hdrop, -⟩ := hscan rfl
  obtain ⟨hbefore, hafter⟩ := scanQueued_drops
  rw [ht] at hafter
  have hkept : t.fld HKA_URG_DROP.COUNT 0 = scanQueued.fld HKA_URG_DROP.COUNT 0 := State.fld_congr (hdrop (.inr (.inr hfew)))
  exact absurd (hafter.symm.trans (hkept.trans hbefore)) (by decide)

end Sys2Proof.Proofs
end

section
/-! PROOFS. O38: the commands of `HRN_LOAD_CTRL` and the staging buffer (chapter 9). -/
namespace Sys2Proof.Proofs
open Sys2Proof Sys2Proof.Machine Sys2Proof.Claims
set_option Elab.async false

section
variable {s : State} {p : Path}

/-! ### The command register -/

/-- The value a command is written with. -/
def loadCtrlValue (s : State) (cmd : Nat) : Nat := withField (s.writeBack .HRN_LOAD_CTRL 0) HRN_LOAD_CTRL.CMD cmd

theorem loadCtrlValue_fields (s : State) {cmd : Nat} (h : cmd < 16) : fieldOf (loadCtrlValue s cmd) HRN_LOAD_CTRL.CMD = cmd ∧
    fieldOf (loadCtrlValue s cmd) HRN_LOAD_CTRL.DRAIN_TO = s.fld HRN_LOAD_CTRL.DRAIN_TO 0 := by
  refine ⟨(fieldOf_withField_same _ _ (by decide) (by decide)).trans (Nat.mod_eq_of_lt h), ?_⟩
  refine (fieldOf_withField_apart _ _ (s.writeBack_lt .HRN_LOAD_CTRL 0 (by decide)) (by decide) (by decide) (by decide) (by decide)).trans ?_
  exact fieldOf_writeBack s (g := HRN_LOAD_CTRL.DRAIN_TO) 0 (acc := .rw) (by decide) (.inl rfl)

/-- The register with a command written: it holds what it held. -/
def commanded (s : State) (cmd : Nat) : State := plainWrite .HRN_LOAD_CTRL 0 (loadCtrlValue s cmd) s

theorem commanded_frame (s : State) (cmd : Nat) : Frame (fun _ _ => False) s (commanded s cmd) := by
  refine ⟨fun r i _ => ?_, fun _ => rfl, fun _ => rfl⟩
  by_cases h : r = .HRN_LOAD_CTRL ∧ i = 0
  · obtain ⟨rfl, rfl⟩ := h
    exact reg_plainWrite_writeBack_wo s (f := HRN_LOAD_CTRL.CMD) 0 cmd (by decide)
  · exact plainWrite_other _ _ (by rwa [not_and_or] at h)

theorem commanded_same (s : State) (cmd : Nat) : (commanded s cmd).hrn = s.hrn ∧ (commanded s cmd).pwr = s.pwr ∧
    (commanded s cmd).cfg = s.cfg ∧ (commanded s cmd).flash = s.flash := ⟨rfl, rfl, rfl, rfl⟩

theorem commanded_loadBusy (s : State) (cmd : Nat) : (commanded s cmd).loadBusy = s.loadBusy := by
  have h := commanded_frame s cmd
  rw [State.loadBusy, State.loadBusy, State.headless, State.headless, State.partFailed, State.partFailed, h.flag_eq not_false, h.fld_eq not_false,
    h.fld_eq not_false, h.fld_eq not_false]
  rfl

theorem hrnRow_runs (hacc : Accepts s p .HRN_LOAD_CTRL 0) (hto : s.fld HRN_LOAD_CTRL.DRAIN_TO 0 ≠ 0) {cmd : Nat} (h1 : 1 ≤ cmd) (h8 : cmd ≤ 8) :
    hrnRow p cmd s = .next ((if cmd ≠ 3 ∧ s.loadBusy = true then s else commanded s cmd).hrnCommand cmd) := by
  obtain ⟨hcmd, hdrain⟩ := loadCtrlValue_fields s (cmd := cmd) (by omega)
  change writeCommand p .HRN_LOAD_CTRL 0 (loadCtrlValue s cmd) (wrHrnLoadCtrl p (loadCtrlValue s cmd)) s = _
  refine (writeCommand_accepted _ hacc).trans (congrArg _ ?_)
  have hrefused : (decide (cmd ≠ 0) && decide (cmd ≠ 3) && decide (cmd ≤ 8) && s.loadBusy) = decide (cmd ≠ 3 ∧ s.loadBusy = true) := by
    rw [decide_eq_true (show cmd ≠ 0 by omega), decide_eq_true h8, Bool.true_and, Bool.and_true, Bool.decide_and, Bool.decide_eq_true]
  rw [wrHrnLoadCtrl, hcmd, hdrain, if_neg hto, hrefused, if_neg (show cmd ≠ 0 by omega), if_neg (by omega)]
  simp only [decide_eq_true_eq]
  rfl

/-! ### A command refused -/

theorem hrnCommand_busy (hbusy : s.loadBusy = true) {cmd : Nat} (h : cmd ≠ 3) : s.hrnCommand cmd = s.hrnResult Load.BUSY 0xFFFF s.hrn.staging := by
  rw [State.hrnCommand, if_neg h, if_pos hbusy]

/-- The result of a load that is not OK shows and is counted. -/
theorem hrnResult_rejects (s : State) {r : Nat} (hr : r < 256) (h0 : r ≠ Load.OK) (detail : Nat) (img : List Byte) :
    (s.hrnResult r detail img).fld HRN_STATUS.RESULT 0 = r ∧ (s.hrnResult r detail img).fld HRN_STATUS.DETAIL 0 = detail % 65536 ∧
    Counts HRN_LOAD_REJ.COUNT 0 s (s.hrnResult r detail img) ∧
    Frame (fun q i => (q, i) ∈ [(Reg.HRN_STATUS, 0), (.HRN_LOAD_REJ, 0), (.EVL_DROPPED, 0)]) s (s.hrnResult r detail img) := by
  rw [State.hrnResult, if_neg h0]
  refine ⟨?_, ?_, ?_, ((Frame.refl s).setFld.setFld.count).log⟩
  · simp (disch := decide) only [State.fld_log_of_apart, State.fld_count_of_apart, State.fld_setFld_of_apart, State.fld_setFld_eq]
    exact Nat.mod_eq_of_lt hr
  · simp (disch := decide) only [State.fld_log_of_apart, State.fld_count_of_apart, State.fld_setFld_eq]
    rfl
  · refine ((counts_count 0 1 _).after ?_).then (State.fld_log_of_apart _ _ _ _ _ _ (by decide))
    simp (disch := decide) only [State.fld_setFld_of_apart]

theorem hrnResult_hrn (s : State) (r detail : Nat) (img : List Byte) : (s.hrnResult r detail img).hrn = s.hrn := by
  rw [State.hrnResult, State.log, State.logAt_eq]
  dsimp only
  split <;> rfl

theorem hrnResult_pwr (s : State) (r detail : Nat) (img : List Byte) : (s.hrnResult r detail img).pwr = s.pwr := by
  rw [State.hrnResult, State.log, State.logAt_eq]
  dsimp only
  split <;> rfl

theorem hrnRow_refused (hacc : Accepts s p .HRN_LOAD_CTRL 0) (hto : s.fld HRN_LOAD_CTRL.DRAIN_TO 0 ≠ 0) (hbusy : s.loadBusy = true) {cmd : Nat}
    (h1 : 1 ≤ cmd) (h8 : cmd ≤ 8) (h3 : cmd ≠ 3) : ∃ t, hrnRow p cmd s = .next t ∧ t.fld HRN_STATUS.RESULT 0 = Load.BUSY ∧
      t.fld HRN_STATUS.DETAIL 0 = 0xFFFF ∧ Counts HRN_LOAD_REJ.COUNT 0 s t ∧ t.hrn = s.hrn ∧
      Keeps ([(.HRN_STATUS, 0), (.HRN_LOAD_REJ, 0)] ++ logKeys) s t := by
  have hrow := hrnRow_runs hacc hto h1 h8
  rw [if_pos ⟨h3, hbusy⟩, hrnCommand_busy hbusy h3] at hrow
  obtain ⟨hresult, hdetail, hcount, hframe⟩ := hrnResult_rejects s (r := Load.BUSY) (by decide) (by decide) 0xFFFF s.hrn.staging
  exact ⟨_, hrow, hresult, hdetail, hcount, hrnResult_hrn _ _ _ _, hframe.keeps⟩

/-! ### A command taken -/

theorem hrnRow_taken (hacc : Accepts s p .HRN_LOAD_CTRL 0) (hto : s.fld HRN_LOAD_CTRL.DRAIN_TO 0 ≠ 0) (hfree : s.loadBusy = false) {cmd : Nat}
    (h1 : 1 ≤ cmd) (h8 : cmd ≤ 8) (h3 : cmd ≠ 3) : hrnRow p cmd s = .next
      (if cmd = 1 then ((commanded s cmd).setStaging []).setFld HRN_STATUS.STATE 0 1
      else if cmd = 7 ∨ cmd = 8 then ((commanded s cmd).setStaging (s.slotImage (cmd - 7))).startLoad cmd else (commanded s cmd).startLoad cmd) := by
  have hrow := hrnRow_runs hacc hto h1 h8
  rw [if_neg (by rw [hfree]; exact fun h => Bool.false_ne_true h.2), State.hrnCommand, if_neg h3, commanded_loadBusy, hfree,
    if_neg Bool.false_ne_true] at hrow
  exact hrow

/-- The load that a command starts. -/
def newLoad (s : State) (cmd : Nat) : LoadX :=
  { cmd := cmd, image := s.hrn.staging, excess := s.hrn.excess, drain := s.flag HRN_LOAD_CTRL.DRAIN 0 }

theorem startLoad_starts (s : State) (cmd : Nat) : (s.startLoad cmd).hrn = { s.hrn with load := some (newLoad s cmd) } ∧
    (s.startLoad cmd).fld HRN_STATUS.STATE 0 = 2 ∧ Frame (fun r i => (r, i) ∈ [(Reg.HRN_STATUS, 0)]) s (s.startLoad cmd) :=
  ⟨rfl, State.fld_setFld_eq _ _ _ (by decide), (Frame.refl s).modHrn.setFld⟩

theorem setStaging_frame (s : State) (bs : List Byte) : Frame (fun r i => (r, i) ∈ [(Reg.HRN_STATUS, 0), (.HRN_LOAD_COUNT, 0)]) s (s.setStaging bs) :=
  (Frame.refl s).modHrn.setFld

/-! ### CANCEL -/

/-- What a load cancelled before Q leaves before its result shows. -/
def undone (s : State) (l : LoadX) : State := (s.undoLoad l).modHrn fun x => { x with load := none }

theorem undone_evolves (s : State) (l : LoadX) : Evolves (.join [undoLoadScope, .of [] [.hrn]]) s (undone s l) :=
  ((Evolves.refl s).undoLoad).modHrn

theorem cancelLoad_eq {l : LoadX} (hl : s.hrn.load = some l) (hstage : l.stage ≤ 3) (hcmd : l.cmd ≠ 0) (hdef : s.pwr.deferred = none) :
    s.cancelLoad = ((undone s l).hrnResult Load.ABORTED 0xFFFF l.image).setFld HRN_STATUS.STATE 0
      ((undone s l).hrnResult Load.ABORTED 0xFFFF l.image).hrnRest := by
  have haborts : s.loadAborts = ((undone s l).hrnResult Load.ABORTED 0xFFFF l.image).setFld HRN_STATUS.STATE 0
      ((undone s l).hrnResult Load.ABORTED 0xFFFF l.image).hrnRest := by
    rw [State.loadAborts, hl]
    dsimp only
    rw [if_neg (by omega), if_pos hstage]
    rfl
  have hpwr : s.loadAborts.pwr = s.pwr := by
    rw [haborts, State.setFld_pwr, hrnResult_pwr]
    exact (undone_evolves s l).part .pwr
  rw [State.cancelLoad, hl]
  dsimp only
  rw [if_pos ⟨hstage, hcmd⟩, State.runLowPower, if_neg (by rw [hpwr, hdef]; exact nofun), State.runDeferred, hpwr, hdef]
  exact haborts

/-! ### The staging buffer -/

theorem exec_hrnLoadData (hacc : Accepts s p .HRN_LOAD_DATA 0) (v : Word32) : exec (.hrnLoadData p v) s = .next
    (if s.hrn.load.isSome then (rejectWrite p .HRN_LOAD_DATA 0 v.toNat s).1 else s.appendStaging (leBytes 4 v.toNat)) := by
  refine (writeCommand_accepted _ hacc).trans (congrArg _ ?_)
  rw [wrHrnLoadData]
  split <;> rfl

theorem hrnLoadData_appends (hacc : Accepts s p .HRN_LOAD_DATA 0) (hnone : s.hrn.load = none) (v : Word32) :
    Completes (.hrnLoadData p v) s fun t => t.hrn.staging = s.hrn.staging ++ (leBytes 4 v.toNat).take (262144 - s.hrn.staging.length) ∧
      (262144 < s.hrn.staging.length + 4 → t.hrn.excess = true) ∧ t.fld HRN_LOAD_COUNT.COUNT 0 = t.hrn.staging.length % 2 ^ 32 ∧
      Keeps [(.HRN_LOAD_COUNT, 0)] s t := by
  have hexec := exec_hrnLoadData hacc v
  rw [hnone, if_neg (by decide)] at hexec
  have hexcess : (s.appendStaging (leBytes 4 v.toNat)).hrn.excess = (s.hrn.excess || decide (262144 - s.hrn.staging.length < 4)) := rfl
  refine ⟨_, hexec, rfl, fun h => ?_, State.fld_setFld_eq _ _ _ (by decide), ((Frame.refl s).modHrn.setFld).keeps⟩
  rw [hexcess, decide_eq_true (by omega), Bool.or_true]

theorem hrnLoadData_locked (hacc : Accepts s p .HRN_LOAD_DATA 0) (hsome : s.hrn.load ≠ none) (v : Word32) :
    Completes (.hrnLoadData p v) s fun t => t.hrn = s.hrn ∧ Keeps logKeys s t ∧
      (Room s → Logged Evt.REG_REJECT Subj.REGISTER (regAddr .HRN_LOAD_DATA 0 0) [s.pathWord p, v.toNat] s t) := by
  have hexec := exec_hrnLoadData hacc v
  rw [if_pos (Option.isSome_iff_ne_none.2 hsome)] at hexec
  exact ⟨_, hexec, regReject_hrn _ _ _ _ _, regReject_keeps _ _ _ _ _, fun hroom => regReject_logs _ _ _ v hroom⟩

end

/-- Settles O38: each command by whether a load is taken, data by whether the buffer is locked. -/
theorem loadCommands : Obligations.LoadCommands := by
  intro s p
  refine ⟨fun hacc hto => ⟨fun hbusy c hc => ?_, fun hfree => ⟨?_, fun c hc => ?_, fun c hc => ?_⟩, fun l hl hstage hcmd hdef => ?_⟩,
    fun hacc v => ⟨fun hnone => ?_, fun hsome => ?_⟩⟩
  · simp only [List.mem_cons, List.not_mem_nil, or_false] at hc
    rcases hc with rfl | rfl | rfl | rfl | rfl | rfl | rfl
    · exact hrnRow_refused hacc hto hbusy (cmd := 1) (by decide) (by decide) (by decide)
    · exact hrnRow_refused hacc hto hbusy (cmd := 2) (by decide) (by decide) (by decide)
    · exact hrnRow_refused hacc hto hbusy (cmd := 4) (by decide) (by decide) (by decide)
    · exact hrnRow_refused hacc hto hbusy (cmd := 5) (by decide) (by decide) (by decide)
    · exact hrnRow_refused hacc hto hbusy (cmd := 6) (by decide) (by decide) (by decide)
    · exact hrnRow_refused hacc hto hbusy (cmd := 7) (by decide) (by decide) (by decide)
    · exact hrnRow_refused hacc hto hbusy (cmd := 8) (by decide) (by decide) (by decide)
  · refine ⟨_, hrnRow_taken hacc hto hfree (cmd := 1) (by decide) (by decide) (by decide), rfl, rfl, ?_, ?_, ?_⟩
    · exact State.fld_setFld_eq _ _ _ (by decide)
    · exact (State.fld_setFld_of_apart _ _ _ _ (by decide)).trans (State.fld_setFld_eq _ _ _ (by decide))
    · exact ((((commanded_frame s 1).mono fun _ _ h => h.elim).trans (setStaging_frame _ [])).setFld).keeps
  · have hstarts : ∃ cmd, c.2 = cmd ∧ exec c.1 s = .next ((commanded s cmd).startLoad cmd) := by
      simp only [List.mem_cons, List.not_mem_nil, or_false] at hc
      rcases hc with rfl | rfl | rfl | rfl
      · exact ⟨2, rfl, hrnRow_taken hacc hto hfree (cmd := 2) (by decide) (by decide) (by decide)⟩
      · exact ⟨4, rfl, hrnRow_taken hacc hto hfree (cmd := 4) (by decide) (by decide) (by decide)⟩
      · exact ⟨5, rfl, hrnRow_taken hacc hto hfree (cmd := 5) (by decide) (by decide) (by decide)⟩
      · exact ⟨6, rfl, hrnRow_taken hacc hto hfree (cmd := 6) (by decide) (by decide) (by decide)⟩
    obtain ⟨cmd, hcmd, hexec⟩ := hstarts
    obtain ⟨hhrn, hstate, hframe⟩ := startLoad_starts (commanded s cmd) cmd
    have hdrain : (commanded s cmd).flag HRN_LOAD_CTRL.DRAIN 0 = s.flag HRN_LOAD_CTRL.DRAIN 0 := (commanded_frame s cmd).flag_eq not_false
    rw [newLoad, hdrain, (commanded_same s cmd).1] at hhrn
    exact ⟨_, hexec, hhrn.trans (by rw [hcmd]), hstate, (((commanded_frame s cmd).mono fun _ _ h => h.elim).trans hframe).keeps⟩
  · have hstarts : ∃ k, k ≤ 1 ∧ c.2 = k ∧ exec c.1 s = .next (((commanded s (7 + k)).setStaging (s.slotImage k)).startLoad (7 + k)) := by
      simp only [List.mem_cons, List.not_mem_nil, or_false] at hc
      rcases hc with rfl | rfl
      · exact ⟨0, by decide, rfl, hrnRow_taken hacc hto hfree (cmd := 7) (by decide) (by decide) (by decide)⟩
      · exact ⟨1, by decide, rfl, hrnRow_taken hacc hto hfree (cmd := 8) (by decide) (by decide) (by decide)⟩
    obtain ⟨k, hk, hck, hexec⟩ := hstarts
    obtain ⟨hhrn, hstate, hframe⟩ := startLoad_starts ((commanded s (7 + k)).setStaging (s.slotImage k)) (7 + k)
    refine ⟨_, hexec, ?_, ?_, hstate, ?_⟩
    · rw [hhrn, hck]
      rfl
    · rw [hhrn, hck]
      rfl
    · have hstaged := ((commanded_frame s (7 + k)).mono fun _ _ h => h.elim).trans (setStaging_frame (commanded s (7 + k)) (s.slotImage k))
      exact (hstaged.thenIn hframe (by simp)).keeps
  · have hrow := hrnRow_runs hacc hto (cmd := 3) (by decide) (by decide)
    rw [if_neg (fun h => h.1 rfl), State.hrnCommand, if_pos rfl, cancelLoad_eq (s := commanded s 3) (l := l) hl hstage hcmd hdef] at hrow
    have hev := undone_evolves (commanded s 3) l
    have hcom := commanded_frame s 3
    obtain ⟨hresult, -, hcount, hframe⟩ := hrnResult_rejects (undone (commanded s 3) l) (r := Load.ABORTED) (by decide) (by decide) 0xFFFF l.image
    have hrest : Frame (fun q i => (q, i) ∈ [(Reg.HRN_STATUS, 0), (.HRN_LOAD_REJ, 0), (.EVL_DROPPED, 0)]) (undone (commanded s 3) l)
        (((undone (commanded s 3) l).hrnResult Load.ABORTED 0xFFFF l.image).setFld HRN_STATUS.STATE 0
          ((undone (commanded s 3) l).hrnResult Load.ABORTED 0xFFFF l.image).hrnRest) := hframe.setFld
    refine ⟨_, hrow, ?_, ?_, ?_, ?_, ?_, ?_⟩
    · rw [State.setFld_hrn, hrnResult_hrn]
      rfl
    · exact (State.fld_setFld_of_apart _ _ _ _ (by decide)).trans hresult
    · refine (hcount.after ?_).then (State.fld_setFld_of_apart _ _ _ _ (by decide))
      exact (hev.fld HRN_LOAD_REJ.COUNT 0).trans (hcom.fld_eq not_false)
    · have hcfg : ((undone (commanded s 3) l).hrnResult Load.ABORTED 0xFFFF l.image).cfg = (undone (commanded s 3) l).cfg := by
        rw [State.hrnResult, State.log, State.logAt_eq]
        rfl
      exact hcfg.trans (hev.part .cfg)
    · intro r hr i
      obtain ⟨hheld, -⟩ := hev.holds
      refine (hrest.reg_eq ?_).trans ((hheld r hr i).trans (hcom.reg_eq not_false))
      simp only [List.mem_cons, List.not_mem_nil, or_false] at hr
      rcases hr with rfl | rfl | rfl | rfl | rfl <;> simp
    · exact fun a => (hrest.2.2 a).trans ((hev.flashByte a).trans (hcom.2.2 a))
  · exact hrnLoadData_appends hacc hnone v
  · exact hrnLoadData_locked hacc hsome v

end Sys2Proof.Proofs
end

section
/-! PROOFS. O37: records written, the kept area cleared, the pointers captured (chapter 15). -/
namespace Sys2Proof.Proofs
open Sys2Proof Sys2Proof.Machine Sys2Proof.Claims
set_option Elab.async false

section
variable {s t u : State}

/-! ### The event store -/

theorem regionAt_eventStore {o : Nat} (ho : o < 0x40000) : regionAt (eventStore + o) = some 19 := by
  have hbelow : ∀ m ∈ List.range 19, ¬ decide (regionBase m ≤ eventStore + o ∧ eventStore + o < regionBase m + 4096 * regionPages m) = true := by
    intro m hm
    rw [List.mem_range] at hm
    rw [decide_eq_true_eq]
    unfold regionBase regionPages eventStore
    split_ifs <;> omega
  have hlast : decide (regionBase 19 ≤ eventStore + o ∧ eventStore + o < regionBase 19 + 4096 * regionPages 19) = true := by
    rw [decide_eq_true_eq]
    change 0x10100000 ≤ 0x10100000 + o ∧ 0x10100000 + o < 0x10100000 + 4096 * 64
    omega
  rw [regionAt, show regions21 = List.range 19 ++ [19, 20] by decide, List.find?_append, List.find?_eq_none.2 hbelow, Option.none_or]
  exact List.find?_cons_of_pos hlast

/-- Stores without errors and no flip mask armed: a write changes bytes alone. -/
def Clean (s : State) : Prop := s.memx.errs = [] ∧ s.memx.poison = [] ∧ s.flag MEM_FLIP_MASK.ARM 0 = false

theorem storeWrite_clean (h : Clean s) {o : Nat} (ho : o < 0x40000) (bs : List Byte) :
    s.storeWrite (eventStore + o) bs = s.setMemBytes (eventStore + o) bs := by
  obtain ⟨herrs, hpoison, harm⟩ := h
  rw [State.storeWrite, regionAt_eventStore ho]
  dsimp only
  rw [herrs, hpoison, harm, if_pos (by decide)]

/-- What the recorder changes: bytes of the event store, registers of the kinds named, and of its own state what tells of no drop. -/
structure EvlKeeps (rs : List Reg) (s t : State) : Prop where
  bytes : KeepsOutside eventStore 0x40000 s t
  regs : ∀ k i, k ∉ rs → t.reg k i = s.reg k i
  memx : t.memx = s.memx
  queue : t.recorder.queue = s.recorder.queue
  drops : t.recorder.dropRun = s.recorder.dropRun

namespace EvlKeeps
variable {rs rs' : List Reg}

theorem refl (s : State) : EvlKeeps rs s s := ⟨⟨fun _ _ => rfl, fun _ => rfl⟩, fun _ _ _ => rfl, rfl, rfl, rfl⟩

theorem trans (h : EvlKeeps rs s u) (h' : EvlKeeps rs' u t) (hsub : rs' ⊆ rs := by decide) : EvlKeeps rs s t :=
  ⟨⟨fun b hb => (h'.bytes.1 b hb).trans (h.bytes.1 b hb), fun b => (h'.bytes.2 b).trans (h.bytes.2 b)⟩,
    fun k i hk => (h'.regs k i fun hm => hk (hsub hm)).trans (h.regs k i hk), h'.memx.trans h.memx, h'.queue.trans h.queue, h'.drops.trans h.drops⟩

theorem fld (h : EvlKeeps rs s t) (f : Field) (i : Nat) (hf : f.reg ∉ rs := by decide) : t.fld f i = s.fld f i := State.fld_congr (h.regs f.reg i hf)

theorem flag (h : EvlKeeps rs s t) (f : Field) (i : Nat) (hf : f.reg ∉ rs := by decide) : t.flag f i = s.flag f i :=
  State.flag_congr (h.regs f.reg i hf)

theorem clean (h : EvlKeeps rs s t) (hc : Clean s) (hf : Reg.MEM_FLIP_MASK ∉ rs := by decide) : Clean t := by
  obtain ⟨herrs, hpoison, harm⟩ := hc
  exact ⟨by rw [h.memx, herrs], by rw [h.memx, hpoison], (h.flag MEM_FLIP_MASK.ARM 0 hf).trans harm⟩

/-- A frame of registers that leaves the stores and the recorder's queue. -/
theorem frame (h : EvlKeeps rs s u) (h' : Frame (fun r _ => r ∈ rs) u t) (hm : t.memx = u.memx := by rfl)
    (hq : t.recorder.queue = u.recorder.queue := by rfl) (hd : t.recorder.dropRun = u.recorder.dropRun := by rfl) : EvlKeeps rs s t :=
  h.trans ⟨⟨fun b _ => h'.2.1 b, h'.2.2⟩, h'.1, hm, hq, hd⟩ (List.Subset.refl _)

/-- Bytes stored in the event store. -/
theorem store (h : EvlKeeps rs s u) (hc : Clean u) {o : Nat} {bs : List Byte} (ho : o < 0x40000) (hend : o + bs.length ≤ 0x40000) :
    EvlKeeps rs s (u.storeWrite (eventStore + o) bs) := by
  rw [storeWrite_clean hc ho]
  refine h.trans (rs' := []) ⟨⟨fun b hb => ?_, fun b => ?_⟩, fun k i _ => ?_, ?_, ?_, ?_⟩ (List.nil_subset _)
  · refine State.memByte_setMemBytes_other u ?_
    rw [inRange, decide_eq_false_iff_not] at hb
    omega
  all_goals rw [State.setMemBytes_eq]
  · rfl
  · rfl

end EvlKeeps

/-! ### The kept area -/

/-- The registers of the kept area, and of the circulating one. -/
abbrev keptRegs : List Reg := [.EVL_FIRST_FULL, .EVL_FIRST_RANGE]
abbrev circRegs : List Reg := [.EVL_HEAD_SEQ, .EVL_OLDEST_SEQ]

theorem fld_storeWrite (s : State) (a : Nat) (bs : List Byte) (f : Field) (i : Nat) (hf : storeWriteScope.hasReg f.reg = false := by decide +kernel) :
    (s.storeWrite a bs).fld f i = s.fld f i := ((Evolves.refl s).storeWrite (K := storeWriteScope)).fld f i hf

/-- A record that the kept area does not take leaves it full. -/
theorem keep_full {seq : BitVec 32} {bs : List Byte}
    (h : s.flag EVL_FIRST_FULL.FULL 0 = true ∨ 0x8000 < s.fld EVL_FIRST_FULL.USED 0 + bs.length) :
    (s.keep seq bs).1.flag EVL_FIRST_FULL.FULL 0 = true ∧ (s.keep seq bs).1.fld EVL_FIRST_FULL.USED 0 = s.fld EVL_FIRST_FULL.USED 0 ∧
      EvlKeeps [.EVL_FIRST_FULL] s (s.keep seq bs).1 := by
  rw [State.keep]
  dsimp only
  by_cases hfull : s.flag EVL_FIRST_FULL.FULL 0 = true
  · rw [if_pos hfull]
    exact ⟨hfull, rfl, .refl s⟩
  · rw [if_neg hfull, if_pos (h.resolve_left hfull)]
    exact ⟨State.flag_setFlag_eq _ _ _ (by decide), State.fld_setFlag_of_apart _ _ _ _ (by decide),
      (EvlKeeps.refl s).frame (Frame.refl s).setFlag⟩

/-- What the kept area takes. -/
def keptWith (s : State) (seq : BitVec 32) (bs : List Byte) : State :=
  let u := (s.storeWrite (eventStore + s.fld EVL_FIRST_FULL.USED 0) bs).setFld EVL_FIRST_FULL.USED 0 (s.fld EVL_FIRST_FULL.USED 0 + bs.length)
  let u := if s.fld EVL_FIRST_FULL.USED 0 = 0 then u.setFld EVL_FIRST_RANGE.FIRST 0 seq.toNat else u
  (u.setFld EVL_FIRST_RANGE.LAST 0 seq.toNat).modRec fun r => { r with kept := r.kept + 1 }

theorem keep_takes {seq : BitVec 32} {bs : List Byte} (hfull : s.flag EVL_FIRST_FULL.FULL 0 = false)
    (h : s.fld EVL_FIRST_FULL.USED 0 + bs.length ≤ 0x8000) : s.keep seq bs = (keptWith s seq bs, true) := by
  rw [State.keep]
  dsimp only
  rw [if_neg (by rw [hfull]; exact Bool.false_ne_true), if_neg (Nat.not_lt.2 h)]
  rfl

theorem keptWith_shows (seq : BitVec 32) {bs : List Byte} (h : s.fld EVL_FIRST_FULL.USED 0 + bs.length ≤ 0x8000) :
    (keptWith s seq bs).flag EVL_FIRST_FULL.FULL 0 = s.flag EVL_FIRST_FULL.FULL 0 ∧
      (keptWith s seq bs).fld EVL_FIRST_FULL.USED 0 = s.fld EVL_FIRST_FULL.USED 0 + bs.length ∧
      (keptWith s seq bs).fld EVL_FIRST_RANGE.LAST 0 = seq.toNat ∧
      (s.fld EVL_FIRST_FULL.USED 0 = 0 → (keptWith s seq bs).fld EVL_FIRST_RANGE.FIRST 0 = seq.toNat) := by
  have hfull := State.flag_eq_of_fld (fld_storeWrite s (eventStore + s.fld EVL_FIRST_FULL.USED 0) bs EVL_FIRST_FULL.FULL 0)
  have hlt := seq.isLt
  unfold keptWith
  dsimp only
  generalize s.storeWrite (eventStore + s.fld EVL_FIRST_FULL.USED 0) bs = v at *
  rw [State.flag_modRec, State.fld_modRec, State.fld_modRec, State.fld_modRec]
  refine ⟨?_, ?_, ?_, fun h0 => ?_⟩
  · rw [State.flag_setFld_of_apart _ _ _ _ (by decide)]
    split <;> simp (disch := decide) only [State.flag_setFld_of_apart, hfull]
  · rw [State.fld_setFld_of_apart _ _ _ _ (by decide)]
    have hmod : (s.fld EVL_FIRST_FULL.USED 0 + bs.length) % 2 ^ 16 = s.fld EVL_FIRST_FULL.USED 0 + bs.length := Nat.mod_eq_of_lt (by omega)
    split <;> simp (disch := decide) only [State.fld_setFld_of_apart, State.fld_setFld_eq] <;> exact hmod
  · exact (State.fld_setFld_eq _ _ _ (by decide)).trans (Nat.mod_eq_of_lt hlt)
  · rw [State.fld_setFld_of_apart _ _ _ _ (by decide), if_pos h0]
    exact (State.fld_setFld_eq _ _ _ (by decide)).trans (Nat.mod_eq_of_lt hlt)

theorem keptWith_keeps (seq : BitVec 32) {bs : List Byte} (hc : Clean s) (hpos : 0 < bs.length)
    (h : s.fld EVL_FIRST_FULL.USED 0 + bs.length ≤ 0x8000) : EvlKeeps keptRegs s (keptWith s seq bs) := by
  have hstored := (EvlKeeps.refl (rs := keptRegs) s).store hc (o := s.fld EVL_FIRST_FULL.USED 0) (bs := bs) (by omega) (by omega)
  unfold keptWith
  dsimp only
  generalize s.storeWrite (eventStore + s.fld EVL_FIRST_FULL.USED 0) bs = v at *
  split
  · exact hstored.frame (((((Frame.refl v).setFld).setFld).setFld).modRec)
  · exact hstored.frame ((((Frame.refl v).setFld).setFld).modRec)

/-! ### The circulating area -/

theorem showOldest_frame (s : State) : Frame (fun r _ => r = .EVL_OLDEST_SEQ) s s.showOldest := by
  unfold State.showOldest
  split
  · exact ((Frame.refl s).setFld rfl).setFld rfl
  · exact ((Frame.refl s).setFld rfl).setFld rfl

theorem showOldest_recorder (s : State) : s.showOldest.recorder = s.recorder ∧ s.showOldest.memx = s.memx := by
  unfold State.showOldest
  split <;> exact ⟨rfl, rfl⟩

theorem evict_frame (s : State) (w n : Nat) : Frame (fun r _ => r = .EVL_OLDEST_SEQ) s (s.evict w n) := (Frame.refl s).modRec.trans (showOldest_frame _)

theorem evict_keeps (h : EvlKeeps circRegs s u) (w n : Nat) : EvlKeeps circRegs s (u.evict w n) := by
  obtain ⟨hrec, hmemx⟩ := showOldest_recorder (u.modRec fun r => { r with circ := r.circ.filter fun e => !decide (e.1 < w + n ∧ w < e.1 + e.2.1) })
  refine h.frame ((evict_frame u w n).mono (by rintro r i rfl; decide)) hmemx ?_ ?_
  · exact (congrArg RecorderX.queue hrec :)
  · exact (congrArg RecorderX.dropRun hrec :)

/-- Header and body of a record: at least 24 bytes, at most 1,024. -/
theorem length_recBytes (r : Rec) : r.bytes.length = 24 + 4 * (r.words.take 250).length := by
  have hbody : ∀ ws : List Word32, (ws.flatMap fun w => leBytes 4 w.toNat).length = 4 * ws.length := by
    intro ws
    induction ws with
    | nil => rfl
    | cons w ws ih =>
      rw [List.flatMap_cons, List.length_append, ih, length_leBytes, List.length_cons]
      omega
  simp only [Rec.bytes, List.length_append, length_leBytes, hbody]

theorem recBytes_range (r : Rec) : 24 ≤ r.bytes.length ∧ r.bytes.length ≤ 1024 := by
  have h : (r.words.take 250).length ≤ 250 := by
    rw [List.length_take]
    omega
  rw [length_recBytes]
  omega

/-- Zeros or a PAD record fill the circulating area to its end. -/
theorem padEnd_keeps (hc : Clean s) {w : Nat} (hw : w < 0x40000) : EvlKeeps circRegs s (s.padEnd w) := by
  have hev := evict_keeps (EvlKeeps.refl s) w (0x40000 - w)
  unfold State.padEnd
  dsimp only
  split
  · exact hev.store (hev.clean hc) hw (by rw [List.length_replicate]; omega)
  next h =>
    refine hev.store (hev.clean hc) hw ?_
    simp only [List.length_append, length_leBytes, List.length_drop, length_recBytes, List.length_replicate, List.take_nil, List.length_nil]
    omega

/-- Where a record of `n` bytes enters the circulating area. -/
def circAt (s : State) (n : Nat) : Nat := if s.fld EVL_HEAD_SEQ.OFFSET 0 + n ≤ 0x40000 then s.fld EVL_HEAD_SEQ.OFFSET 0 else 0x8000

/-- The state in which the bytes of a record are stored: what they overwrite has left the area. -/
def roomMade (s : State) (n : Nat) : State :=
  (if s.fld EVL_HEAD_SEQ.OFFSET 0 + n ≤ 0x40000 then s else s.padEnd (s.fld EVL_HEAD_SEQ.OFFSET 0)).evict (circAt s n) n

/-- The head past a record of `n` bytes stored at `w`, with which the area's list ends. -/
def headPast (v : State) (seq : BitVec 32) (w n : Nat) : State :=
  let u := (v.setFld EVL_HEAD_SEQ.SEQ 0 seq.toNat).setFld EVL_HEAD_SEQ.OFFSET 0 (if w + n = 0x40000 then 0x8000 else w + n)
  u.modRec fun r => { r with circ := r.circ ++ [(w, n, seq)] }

theorem circulate_eq (s : State) (seq : BitVec 32) (bs : List Byte) : s.circulate seq bs =
    (headPast ((roomMade s bs.length).storeWrite (eventStore + circAt s bs.length) bs) seq (circAt s bs.length) bs.length).showOldest := by
  unfold State.circulate roomMade circAt
  by_cases h : s.fld EVL_HEAD_SEQ.OFFSET 0 + bs.length ≤ 0x40000
  · simp only [h, decide_true, if_true]
    rfl
  · simp only [h, decide_false, if_false, Bool.false_eq_true]
    rfl

theorem headPast_shows (v : State) (seq : BitVec 32) {w n : Nat} (h : w + n ≤ 0x40000) :
    (headPast v seq w n).fld EVL_HEAD_SEQ.SEQ 0 = seq.toNat ∧
      (headPast v seq w n).fld EVL_HEAD_SEQ.OFFSET 0 = (if w + n = 0x40000 then 0x8000 else w + n) ∧
      (headPast v seq w n).recorder = { v.recorder with circ := v.recorder.circ ++ [(w, n, seq)] } ∧ (headPast v seq w n).memx = v.memx ∧
      Frame (fun r _ => r ∈ circRegs) v (headPast v seq w n) := by
  have hoff : (if w + n = 0x40000 then 0x8000 else w + n) < 2 ^ 18 := by
    split <;> omega
  refine ⟨?_, ?_, rfl, rfl, (((Frame.refl v).setFld).setFld).modRec⟩
  · refine (State.fld_modRec _ _ _ _).trans ((State.fld_setFld_of_apart _ _ _ _ (by decide)).trans ?_)
    exact (State.fld_setFld_eq _ _ _ (by decide)).trans (Nat.mod_eq_of_lt seq.isLt)
  · exact (State.fld_modRec _ _ _ _).trans ((State.fld_setFld_eq _ _ _ (by decide)).trans (Nat.mod_eq_of_lt hoff))

/-- Where the circulating area takes a record of `n` bytes. -/
theorem circAt_fits {n : Nat} (hn : n ≤ 1024) (hpos : 0 < n) : circAt s n < 0x40000 ∧ circAt s n + n ≤ 0x40000 := by
  unfold circAt
  split <;> omega

/-- A record that the circulating area has taken shows in the head. -/
theorem circulate_shows (s : State) (seq : BitVec 32) {bs : List Byte} (hpos : 0 < bs.length) (hn : bs.length ≤ 1024) :
    let w := circAt s bs.length
    (s.circulate seq bs).fld EVL_HEAD_SEQ.SEQ 0 = seq.toNat ∧
      (s.circulate seq bs).fld EVL_HEAD_SEQ.OFFSET 0 = (if w + bs.length = 0x40000 then 0x8000 else w + bs.length) ∧
      (s.circulate seq bs).recorder.circ.getLast?.map (·.2.2) = some seq := by
  intro w
  obtain ⟨hseq, hoff, hrec, -, -⟩ := headPast_shows ((roomMade s bs.length).storeWrite (eventStore + circAt s bs.length) bs) seq
    (circAt_fits (s := s) hn hpos).2
  rw [circulate_eq]
  have hold := showOldest_frame (headPast ((roomMade s bs.length).storeWrite (eventStore + circAt s bs.length) bs) seq
    (circAt s bs.length) bs.length)
  refine ⟨(hold.fld_eq (by decide)).trans hseq, (hold.fld_eq (by decide)).trans hoff, ?_⟩
  rw [(showOldest_recorder _).1, hrec, List.getLast?_concat]
  rfl

theorem roomMade_keeps (hc : Clean s) (n : Nat) : EvlKeeps circRegs s (roomMade s n) := by
  have hlt : s.fld EVL_HEAD_SEQ.OFFSET 0 < 2 ^ 18 := State.fld_lt s EVL_HEAD_SEQ.OFFSET 0
  refine evict_keeps ?_ _ _
  split
  · exact .refl s
  · exact padEnd_keeps hc hlt

/-- A record enters the circulating area whole. -/
theorem circulate_clean (hc : Clean s) (seq : BitVec 32) {bs : List Byte} (hpos : 0 < bs.length) (hn : bs.length ≤ 1024) :
    (∀ k, k < bs.length → (s.circulate seq bs).memByte (eventStore + circAt s bs.length + k) = bs.getD k 0) ∧
      EvlKeeps circRegs s (s.circulate seq bs) := by
  obtain ⟨hw, hend⟩ := circAt_fits (s := s) hn hpos
  have hroom := roomMade_keeps hc bs.length
  have hstored := hroom.store (hroom.clean hc) hw hend
  obtain ⟨-, -, hrec, hmemx, hpast⟩ := headPast_shows ((roomMade s bs.length).storeWrite (eventStore + circAt s bs.length) bs) seq hend
  have hold := showOldest_frame (headPast ((roomMade s bs.length).storeWrite (eventStore + circAt s bs.length) bs) seq
    (circAt s bs.length) bs.length)
  obtain ⟨hrec', hmemx'⟩ := showOldest_recorder (headPast ((roomMade s bs.length).storeWrite (eventStore + circAt s bs.length) bs) seq
    (circAt s bs.length) bs.length)
  have hhead := hpast.thenIn hold (by rintro r i rfl; decide)
  rw [circulate_eq]
  refine ⟨fun k hk => ?_, hstored.frame hhead (hmemx'.trans hmemx) (by rw [hrec', hrec]) (by rw [hrec', hrec])⟩
  rw [hhead.2.1, storeWrite_clean (hroom.clean hc) hw, State.memByte_setMemBytes_same _ _ hk, List.getD_eq_getElem _ _ hk]

/-! ### The mirror and the count -/

theorem mirrorRec_same (s : State) (seq : BitVec 32) (bs : List Byte) (kept : Bool) :
    EvlKeeps [] s (s.mirrorRec seq bs kept) ∧ (∀ a, (s.mirrorRec seq bs kept).memByte a = s.memByte a) ∧
      (s.mirrorRec seq bs kept).recorder.circ = s.recorder.circ ∧ (s.mirrorRec seq bs kept).recorder.kept = s.recorder.kept := by
  rw [State.mirrorRec]
  split
  · exact ⟨(EvlKeeps.refl s).frame (Frame.refl s).modRec, fun _ => rfl, rfl, rfl⟩
  · exact ⟨.refl s, fun _ => rfl, rfl, rfl⟩

/-- The areas that take a record, before it is counted. -/
def recStored (s : State) (r : Rec) : State :=
  ((s.keep r.seq r.bytes).1.circulate r.seq r.bytes).mirrorRec r.seq r.bytes (s.keep r.seq r.bytes).2

theorem recStored_same (s : State) (r : Rec) : EvlKeeps [] ((s.keep r.seq r.bytes).1.circulate r.seq r.bytes) (recStored s r) ∧
    (∀ a, (recStored s r).memByte a = ((s.keep r.seq r.bytes).1.circulate r.seq r.bytes).memByte a) ∧
    (recStored s r).recorder.circ = ((s.keep r.seq r.bytes).1.circulate r.seq r.bytes).recorder.circ ∧
    (recStored s r).recorder.kept = ((s.keep r.seq r.bytes).1.circulate r.seq r.bytes).recorder.kept := mirrorRec_same _ _ _ _

theorem writeRec_eq (s : State) (r : Rec) : s.writeRec r = (recStored s r).count EVL_WRITTEN.COUNT 0 := rfl

theorem circAt_congr {u : State} (h : u.reg .EVL_HEAD_SEQ 0 = s.reg .EVL_HEAD_SEQ 0) (n : Nat) : circAt u n = circAt s n := by
  rw [circAt, circAt, State.fld_congr (f := EVL_HEAD_SEQ.OFFSET) h]

/-- The registers of the recorder. -/
abbrev evlRegs : List Reg := [.EVL_HEAD_SEQ, .EVL_OLDEST_SEQ, .EVL_FIRST_FULL, .EVL_FIRST_RANGE, .EVL_WRITTEN]

/-- What the kept area makes of a record. -/
theorem keep_clean (hc : Clean s) (r : Rec) : EvlKeeps keptRegs s (s.keep r.seq r.bytes).1 := by
  obtain ⟨hmin, hmax⟩ := recBytes_range r
  by_cases h : s.flag EVL_FIRST_FULL.FULL 0 = true ∨ 0x8000 < s.fld EVL_FIRST_FULL.USED 0 + r.bytes.length
  · exact (EvlKeeps.refl s).trans (keep_full h).2.2
  · rw [not_or, Bool.not_eq_true, Nat.not_lt] at h
    rw [keep_takes h.1 h.2]
    exact keptWith_keeps _ hc (by omega) h.2

/-- A record written to clean stores: what it leaves in the event store, and all that it changes. -/
theorem writeRec_clean (hc : Clean s) (r : Rec) :
    (∀ k, k < r.bytes.length → (s.writeRec r).memByte (eventStore + circAt s r.bytes.length + k) = r.bytes.getD k 0) ∧
      EvlKeeps evlRegs s (s.writeRec r) := by
  obtain ⟨hmin, hmax⟩ := recBytes_range r
  have hkeep := keep_clean hc r
  obtain ⟨hbytes, hcirc⟩ := circulate_clean (hkeep.clean hc) r.seq (bs := r.bytes) (by omega) hmax
  rw [circAt_congr (hkeep.regs .EVL_HEAD_SEQ 0 (by decide))] at hbytes
  obtain ⟨hmirror, hmem, -, -⟩ := recStored_same s r
  refine ⟨fun k hk => (hmem _).trans (hbytes k hk), ?_⟩
  exact ((((EvlKeeps.refl s).trans hkeep).trans hcirc).trans hmirror).frame (Frame.refl (recStored s r)).count

/-- What the registers tell of a record written, whatever the stores hold. -/
theorem writeRec_shows (s : State) (r : Rec) :
    let w := circAt s r.bytes.length
    (s.writeRec r).fld EVL_HEAD_SEQ.SEQ 0 = r.seq.toNat ∧
      (s.writeRec r).fld EVL_HEAD_SEQ.OFFSET 0 = (if w + r.bytes.length = 0x40000 then 0x8000 else w + r.bytes.length) ∧
      Counts EVL_WRITTEN.COUNT 0 s (s.writeRec r) ∧ (s.writeRec r).recorder.circ.getLast?.map (·.2.2) = some r.seq ∧
      (∀ q ∈ keptRegs, (s.writeRec r).reg q 0 = (s.keep r.seq r.bytes).1.reg q 0) := by
  intro w
  obtain ⟨hmin, hmax⟩ := recBytes_range r
  have hkeep : Evolves _ s (s.keep r.seq r.bytes).1 := (Evolves.refl s).keep (K := keepScope)
  have hcirc : Evolves _ (s.keep r.seq r.bytes).1 ((s.keep r.seq r.bytes).1.circulate r.seq r.bytes) := (Evolves.refl _).circulate (K := circulateScope)
  obtain ⟨hseq, hoff, hlast⟩ := circulate_shows (s.keep r.seq r.bytes).1 r.seq (bs := r.bytes) (by omega) hmax
  rw [circAt_congr (hkeep.reg .EVL_HEAD_SEQ 0)] at hoff
  obtain ⟨hmirror, -, hsame, -⟩ := recStored_same s r
  rw [writeRec_eq]
  generalize recStored s r = v at *
  refine ⟨?_, ?_, ?_, ?_, fun q hq => ?_⟩
  · exact (State.fld_count_of_apart _ _ _ _ (by decide)).trans ((hmirror.fld EVL_HEAD_SEQ.SEQ 0).trans hseq)
  · exact (State.fld_count_of_apart _ _ _ _ (by decide)).trans ((hmirror.fld EVL_HEAD_SEQ.OFFSET 0).trans hoff)
  · exact (counts_count 0 1 _).after ((hmirror.fld EVL_WRITTEN.COUNT 0).trans ((hcirc.fld EVL_WRITTEN.COUNT 0).trans (hkeep.fld EVL_WRITTEN.COUNT 0)))
  · rw [State.count_recorder, hsame]
    exact hlast
  · have hne : q ≠ EVL_WRITTEN.COUNT.reg := by
      revert q
      decide
    refine (State.reg_count_other _ _ _ _ hne).trans ((hmirror.regs _ _ (List.not_mem_nil)).trans ?_)
    simp only [List.mem_cons, List.not_mem_nil, or_false] at hq
    rcases hq with rfl | rfl
    · exact hcirc.reg .EVL_FIRST_FULL 0
    · exact hcirc.reg .EVL_FIRST_RANGE 0

/-! ### A record that is due -/

/-- A run of drops is told of, once. -/
def dropsTold (v : State) : State :=
  (v.modRec fun x => { x with dropRun := 0, dropFirst := 0 }).log Evt.DROPPED Subj.DEVICE 0 [v.recorder.dropRun % 2 ^ 32, v.recorder.dropFirst]

theorem dropsTold_shows (v : State) (hroom : v.recorder.queue.length < 64) : Frame (fun _ _ => False) v (dropsTold v) ∧
    (dropsTold v).recorder.circ = v.recorder.circ ∧ (dropsTold v).recorder.dropRun = 0 ∧
    (dropsTold v).recorder.queue.map (·.type) = v.recorder.queue.map (·.type) ++ [Evt.DROPPED] := by
  rcases State.logAt_cases (v.modRec fun x => { x with dropRun := 0, dropFirst := 0 }) v.now Evt.DROPPED Subj.DEVICE 0
    [v.recorder.dropRun % 2 ^ 32, v.recorder.dropFirst] 0 with ⟨-, e, htype, -, -, -, -, -, h⟩ | ⟨hfull, -⟩
  · have ht : dropsTold v = _ := h
    rw [ht]
    refine ⟨((Frame.refl v).modRec (f := fun x => { x with dropRun := 0, dropFirst := 0 })).same, rfl, rfl, ?_⟩
    rw [← htype]
    exact List.map_append
  · exact absurd hroom (Nat.not_lt.2 hfull)

/-- The state in which the first record of the queue has been taken off. -/
def taken (s : State) (rs : List Rec) : State := s.modRec fun x => { x with queue := rs, wrote := some s.cycle }

theorem exec_recordWrite {r : Rec} {rs : List Rec} (hq : s.recorder.queue = r :: rs) (hbusy : s.recorderBusy = false) : exec .recordWrite s =
    .next (if rs.length = 32 ∧ 0 < ((taken s rs).writeRec r).recorder.dropRun then dropsTold ((taken s rs).writeRec r)
      else (taken s rs).writeRec r) := by
  change execRecordWrite s = _
  rw [execRecordWrite, hq]
  dsimp only
  rw [hbusy, if_neg Bool.false_ne_true]
  split
  next h => exact congrArg _ (if_pos h).symm
  next h => exact congrArg _ (if_neg h).symm

/-- What the statement says of a record written, of the state that the write leaves. -/
theorem record_written {r : Rec} {rs : List Rec} (hc : Clean s) :
    let n := r.bytes.length
    let w := circAt s n
    let used := s.fld EVL_FIRST_FULL.USED 0
    let t := (taken s rs).writeRec r
    t.fld EVL_HEAD_SEQ.SEQ 0 = r.seq.toNat ∧ t.fld EVL_HEAD_SEQ.OFFSET 0 = (if w + n = 0x40000 then 0x8000 else w + n) ∧
      Counts EVL_WRITTEN.COUNT 0 s t ∧ (∀ k, k < n → t.memByte (eventStore + w + k) = r.bytes.getD k 0) ∧
      (t.recorder.circ.getLast?.map (·.2.2)) = some r.seq ∧
      (s.flag EVL_FIRST_FULL.FULL 0 = true ∨ 0x8000 < used + n → t.flag EVL_FIRST_FULL.FULL 0 = true ∧ t.fld EVL_FIRST_FULL.USED 0 = used ∧
        t.reg .EVL_FIRST_RANGE 0 = s.reg .EVL_FIRST_RANGE 0) ∧
      (s.flag EVL_FIRST_FULL.FULL 0 = false → used + n ≤ 0x8000 → t.flag EVL_FIRST_FULL.FULL 0 = false ∧
        t.fld EVL_FIRST_FULL.USED 0 = used + n ∧ t.fld EVL_FIRST_RANGE.LAST 0 = r.seq.toNat) ∧
      EvlKeeps evlRegs (taken s rs) t := by
  intro n w used t
  obtain ⟨hbytes, hkeeps⟩ := writeRec_clean (s := taken s rs) hc r
  obtain ⟨hseq, hoffset, hcount, hlast, hkept⟩ := writeRec_shows (taken s rs) r
  refine ⟨hseq, hoffset, hcount, hbytes, hlast, fun hfull => ?_, fun hfull hfits => ?_, hkeeps⟩
  · obtain ⟨hf, hu, hk⟩ := keep_full (s := taken s rs) (seq := r.seq) (bs := r.bytes) hfull
    exact ⟨(State.flag_congr (hkept _ (.head _))).trans hf, (State.fld_congr (hkept _ (.head _))).trans hu,
      (hkept _ (.tail _ (.head _))).trans (hk.regs .EVL_FIRST_RANGE 0 (by decide))⟩
  · obtain ⟨hf, hu, hl, -⟩ := keptWith_shows (s := taken s rs) r.seq (bs := r.bytes) hfits
    rw [keep_takes (s := taken s rs) hfull hfits] at hkept
    exact ⟨(State.flag_congr (hkept _ (.head _))).trans (hf.trans hfull), (State.fld_congr (hkept _ (.head _))).trans hu,
      (State.fld_congr (hkept _ (.tail _ (.head _)))).trans hl⟩

/-! ### The number of records kept -/

theorem kept_logAt (s : State) (ts : Ts96) (type kind index : Nat) (words : List Nat) (extra : Nat) :
    (s.logAt ts type kind index words extra).recorder.kept = s.recorder.kept := by
  rcases s.logAt_cases ts type kind index words extra with ⟨-, e, -, -, -, -, -, -, h⟩ | ⟨-, h⟩
  · rw [h]
  · rw [h]
    rfl

theorem kept_countSat (s : State) (f : Field) (i : Nat) : (s.countSat f i).recorder = s.recorder := by
  unfold State.countSat
  split <;> rfl

theorem recorder_showSlots (s : State) (n : Nat) : (s.showSlots n).recorder = s.recorder := by
  unfold State.showSlots
  dsimp only
  split
  · rfl
  · split <;> rfl

theorem recorder_mapOut (s : State) (m page : Nat) : (s.mapOut m page).recorder = s.recorder := by
  unfold State.mapOut State.each
  simp only [List.foldl, recorder_showSlots, State.modClane_recorder, State.modMemx_recorder]

theorem kept_retire (s : State) (m page : Nat) (injected : Bool) : (s.retire m page injected).recorder.kept = s.recorder.kept := by
  unfold State.retire State.logMem
  dsimp only
  split
  · rfl
  split
  · rw [State.alert_recorder, kept_logAt, kept_countSat, recorder_mapOut]
  split
  · rw [kept_logAt]
    rfl
  · rw [State.alert_recorder, kept_logAt]
    exact congrArg RecorderX.kept (kept_countSat _ _ _)

theorem kept_mendPage (s : State) (m page : Nat) : (s.mendPage m page).recorder.kept = s.recorder.kept := by
  have hpoison : ∀ (es : List (Nat × Nat)) (u : State), (es.foldl (fun s e => s.setPoison e.1 true) u).recorder = u.recorder := by
    intro es
    induction es with
    | nil => exact fun _ => rfl
    | cons e es ih => exact fun u => ih (u.setPoison e.1 true)
  unfold State.mendPage
  split
  · unfold State.repairPage
    dsimp only
    split
    · rw [kept_retire]
      rfl
    · rfl
  · unfold State.losePage
    dsimp only
    rw [kept_retire, State.modMemx_recorder, hpoison]

theorem recorder_flip (s : State) (m v a : Nat) : (s.flip m v a).recorder = s.recorder :=
  ((Evolves.refl s).flip (K := .of [.MEM_FLIP_MASK] [.memx])).part .recorder

theorem kept_writeCodes (s : State) (m v a n : Nat) : (s.writeCodes m v a n).recorder.kept = s.recorder.kept := by
  have herrs : ∀ (ws : List Nat) (u : State), (ws.foldl (fun s w => s.setErr w 0 false) u).recorder = u.recorder := by
    intro ws
    induction ws with
    | nil => exact fun _ => rfl
    | cons w ws ih => exact fun u => ih (u.setErr w 0 false)
  have hmend : ∀ c d : Bool, (if c then if s.armed m then s.mendPage m (pageOf v) else if d then s else s.setPoison v true
      else s).recorder.kept = s.recorder.kept := by
    intro c d
    split
    · split
      · exact kept_mendPage s m _
      · split <;> rfl
    · rfl
  have hmark : ∀ (c : Bool) (u : State), (if c then u.setPoison v false else u).recorder = u.recorder := by
    intro c u
    split <;> rfl
  unfold State.writeCodes
  dsimp only
  rw [recorder_flip, hmark, herrs, hmend]

theorem kept_storeWrite (s : State) (a : Nat) (bs : List Byte) : (s.storeWrite a bs).recorder.kept = s.recorder.kept := by
  have hcodes : ∀ (us : List Nat) (m lo : Nat) (v : State), (v.each us fun u s => s.writeCodes m u (max a u) (min lo (u + 8) - max a u)).recorder.kept =
      v.recorder.kept := by
    intro us m lo
    induction us with
    | nil => exact fun _ => rfl
    | cons u us ih => exact fun v => (ih (v.writeCodes m u _ _)).trans (kept_writeCodes v m u _ _)
  unfold State.storeWrite
  split
  · rfl
  · dsimp only
    rw [State.setMemBytes_eq]
    split
    · rfl
    · exact hcodes _ _ _ s

theorem kept_evict (s : State) (w n : Nat) : (s.evict w n).recorder.kept = s.recorder.kept := by
  rw [State.evict, (showOldest_recorder _).1]
  rfl

theorem kept_circulate (s : State) (seq : BitVec 32) (bs : List Byte) : (s.circulate seq bs).recorder.kept = s.recorder.kept := by
  have hpad : ∀ w, (s.padEnd w).recorder.kept = s.recorder.kept := by
    intro w
    unfold State.padEnd
    dsimp only
    split <;> rw [kept_storeWrite, kept_evict]
  have hroom : (roomMade s bs.length).recorder.kept = s.recorder.kept := by
    rw [roomMade, kept_evict]
    split
    · rfl
    · exact hpad _
  rw [circulate_eq, (showOldest_recorder _).1]
  exact (kept_storeWrite _ _ _).trans hroom

/-- A record that the kept area takes is one more there. -/
theorem writeRec_keeps_one {r : Rec} (hfull : s.flag EVL_FIRST_FULL.FULL 0 = false)
    (h : s.fld EVL_FIRST_FULL.USED 0 + r.bytes.length ≤ 0x8000) : (s.writeRec r).recorder.kept = s.recorder.kept + 1 := by
  have hstored : (keptWith s r.seq r.bytes).recorder.kept = s.recorder.kept + 1 := by
    unfold keptWith
    dsimp only
    rw [State.modRec]
    dsimp only
    split <;> exact congrArg (· + 1) (kept_storeWrite _ _ _)
  rw [writeRec_eq, State.count_recorder, (recStored_same s r).2.2.2, kept_circulate, keep_takes hfull h, hstored]

/-! ### CLEAR_KEPT -/

/-- The number that the record of a clearing takes. -/
def clearSeq (s : State) : BitVec 32 := (s.recorder.queue.head?.map (·.seq)).getD s.recorder.next

/-- The kept area emptied, and the records that wait numbered on. -/
def keptEmptied (s : State) : State :=
  s.emptyKept.modRec fun x => { x with next := x.next + 1, queue := x.queue.map fun r => { r with seq := r.seq + 1 } }

theorem exec_clearKept {p : Path} (hacc : Accepts s p .EVL_CTRL 0) : ∃ r : Rec, r.seq = clearSeq s ∧ r.words.length = 3 ∧
    exec (.clearKept p) s = .next ((keptEmptied s).writeRec r) := by
  have hseq : (match s.recorder.queue with
      | r :: _ => r.seq
      | [] => s.recorder.next) = clearSeq s := by
    rw [clearSeq]
    cases s.recorder.queue <;> rfl
  have hexec : exec (.clearKept p) s = .next (wrEvlCtrl p 1 s).1 := writeCommand_accepted _ hacc
  rw [wrEvlCtrl, if_pos (by decide)] at hexec
  dsimp only at hexec
  exact ⟨_, hseq, rfl, hexec⟩

theorem emptyKept_frame (s : State) : Frame (fun r _ => r ∈ keptRegs) s (keptEmptied s) :=
  ((((Frame.refl s).resetReg).resetReg).modRec).modRec

theorem keptEmptied_empty (s : State) : (keptEmptied s).flag EVL_FIRST_FULL.FULL 0 = false ∧ (keptEmptied s).fld EVL_FIRST_FULL.USED 0 = 0 ∧
    (keptEmptied s).recorder.kept = 0 := by
  have hreset : (keptEmptied s).reg .EVL_FIRST_FULL 0 = regReset (.EVL_FIRST_FULL, 0) :=
    (State.reg_modRec _ _ _ _).trans ((State.reg_modRec _ _ _ _).trans
      ((State.reg_setReg_other (r := .EVL_FIRST_RANGE) (s.resetReg .EVL_FIRST_FULL 0) _ (.inl (by decide))).trans (State.reg_resetReg_same s _ _)))
  refine ⟨?_, ?_, rfl⟩
  · rw [State.flag, State.fld_eq, hreset]
    decide +kernel
  · rw [State.fld_eq, hreset]
    decide +kernel

theorem kept_cleared {p : Path} (hacc : Accepts s p .EVL_CTRL 0) : Completes (.clearKept p) s fun t => t.recorder.kept = 1 ∧
    t.fld EVL_FIRST_FULL.USED 0 = 36 ∧ t.flag EVL_FIRST_FULL.FULL 0 = false ∧ t.fld EVL_FIRST_RANGE.FIRST 0 = (clearSeq s).toNat ∧
    t.fld EVL_FIRST_RANGE.LAST 0 = (clearSeq s).toNat ∧ t.fld EVL_HEAD_SEQ.SEQ 0 = (clearSeq s).toNat ∧ Counts EVL_WRITTEN.COUNT 0 s t ∧
    ∀ a, t.flashByte a = s.flashByte a := by
  obtain ⟨r, hr, hwords, hexec⟩ := exec_clearKept hacc
  obtain ⟨hfull, hused, hnone⟩ := keptEmptied_empty s
  have hframe := emptyKept_frame s
  have hlen : r.bytes.length = 36 := by
    rw [length_recBytes, List.length_take, hwords]
    rfl
  have hfits : (keptEmptied s).fld EVL_FIRST_FULL.USED 0 + r.bytes.length ≤ 0x8000 := by
    rw [hused, hlen]
    decide
  obtain ⟨hf, hu, hlast, hfirst⟩ := keptWith_shows r.seq hfits
  obtain ⟨hseq, -, hcount, -, hkept⟩ := writeRec_shows (keptEmptied s) r
  have hone := writeRec_keeps_one hfull hfits
  have hflash := (Evolves.refl (keptEmptied s)).writeRec (K := writeRecScope) (r := r)
  rw [keep_takes hfull hfits] at hkept
  rw [← hr]
  refine ⟨_, hexec, by rw [hone, hnone], ?_, ?_, ?_, ?_, hseq, hcount.after (hframe.fld_eq (by decide)), fun a => ?_⟩
  · exact (State.fld_congr (hkept _ (.head _))).trans (hu.trans (by rw [hused, hlen]))
  · exact (State.flag_congr (hkept _ (.head _))).trans (hf.trans hfull)
  · exact (State.fld_congr (hkept _ (.tail _ (.head _)))).trans (hfirst hused)
  · exact (State.fld_congr (hkept _ (.tail _ (.head _)))).trans hlast
  · exact (hflash.flashByte a).trans (hframe.2.2 a)

/-! ### The pointers -/

theorem pointers_captured (s : State) : ∀ r ∈ [Reg.EVL_HEAD_SEQ, .EVL_OLDEST_SEQ, .EVL_FIRST_FULL, .EVL_FIRST_RANGE],
    (s.capture (evlCaptured.map fun r => (r, 0))).captureOf (r, 0) = s.reg r 0 := by
  intro r hr
  unfold State.captureOf State.capture evlCaptured
  simp only [List.map, List.foldl]
  simp only [List.mem_cons, List.not_mem_nil, or_false] at hr
  rcases hr with rfl | rfl | rfl | rfl
  · rw [Tab.get_insert_other _ _ (by decide), Tab.get_insert_other _ _ (by decide), Tab.get_insert_other _ _ (by decide), Tab.get_insert_same]
  · rw [Tab.get_insert_other _ _ (by decide), Tab.get_insert_other _ _ (by decide), Tab.get_insert_same]
  · rw [Tab.get_insert_other _ _ (by decide), Tab.get_insert_same]
  · rw [Tab.get_insert_same]

end

/-- Settles O37: a record written by what each area makes of it, a clearing by the record that it leaves, the pointers by their capture. -/
theorem eventRecords : Obligations.EventRecords := by
  intro s
  refine ⟨fun r rs hq hbusy herrs hpoison harm _ => ?_, fun p hacc => kept_cleared hacc, _, rfl, (Frame.refl s).setCaptured.keeps, rfl,
    pointers_captured s⟩
  intro n w used
  obtain ⟨hseq, hoffset, hcount, hbytes, hlast, hfull, hroom, hkeeps⟩ := record_written (r := r) (rs := rs) ⟨herrs, hpoison, harm⟩
  have hexec := exec_recordWrite hq hbusy
  have hqueue : ((taken s rs).writeRec r).recorder.queue = rs := hkeeps.queue
  have hdrops : ((taken s rs).writeRec r).recorder.dropRun = s.recorder.dropRun := hkeeps.drops
  have hbytes' : KeepsOutside eventStore 0x40000 s ((taken s rs).writeRec r) := hkeeps.bytes
  have hregs : ∀ k i, k ∉ evlRegs → ((taken s rs).writeRec r).reg k i = s.reg k i := hkeeps.regs
  rw [hdrops] at hexec
  generalize (taken s rs).writeRec r = v at *
  by_cases h : rs.length = 32 ∧ 0 < s.recorder.dropRun
  · rw [if_pos h] at hexec
    obtain ⟨htold, hcirc, hnone, htypes⟩ := dropsTold_shows v (by rw [hqueue, h.1]; decide)
    refine ⟨_, hexec, (htold.fld_eq not_false).trans hseq, (htold.fld_eq not_false).trans hoffset, hcount.then (htold.fld_eq not_false),
      fun k hk => (htold.2.1 _).trans (hbytes k hk), ?_, fun hf => ?_, fun hf hfits => ?_, fun hno => ?_, fun _ _ => ⟨hnone, ?_⟩, ?_,
      fun k i hk => (htold.reg_eq not_false).trans (hregs k i hk)⟩
    · rw [hcirc]
      exact hlast
    · obtain ⟨h1, h2, h3⟩ := hfull hf
      exact ⟨(htold.flag_eq not_false).trans h1, (htold.fld_eq not_false).trans h2, (htold.reg_eq not_false).trans h3⟩
    · obtain ⟨h1, h2, h3⟩ := hroom hf hfits
      exact ⟨(htold.flag_eq not_false).trans h1, (htold.fld_eq not_false).trans h2, (htold.fld_eq not_false).trans h3⟩
    · omega
    · rw [htypes, hqueue]
    · exact ⟨fun b hb => (htold.2.1 b).trans (hbytes'.1 b hb), fun b => (htold.2.2 b).trans (hbytes'.2 b)⟩
  · rw [if_neg h] at hexec
    exact ⟨_, hexec, hseq, hoffset, hcount, hbytes, hlast, hfull, hroom, fun _ => hqueue, fun h32 hd => absurd ⟨h32, hd⟩ h, hbytes', hregs⟩

end Sys2Proof.Proofs
end

section
/-! SUPPORT. Registers that return to their reset values, and saturating counts. -/
namespace Sys2Proof.Machine
open Sys2Proof Sys2Proof.Claims
set_option Elab.async false
variable (s : State)

theorem State.reg_resetRegs {rs : List Reg} {r : Reg} (h : r ∈ rs) (i : Nat) : (s.resetRegs rs i).reg r i = regReset (r, i) := by
  have hstay : ∀ (qs : List Reg) (u : State), u.reg r i = regReset (r, i) → (u.resetRegs qs i).reg r i = regReset (r, i) := by
    intro qs
    induction qs with
    | nil => exact fun u hu => hu
    | cons q qs ih =>
      refine fun u hu => ih _ ?_
      by_cases hq : r = q
      · rw [← hq, State.reg_resetReg_same]
      · exact (State.reg_setReg_other _ _ (.inl hq)).trans hu
  induction rs generalizing s with
  | nil => cases h
  | cons q qs ih =>
    by_cases hq : r = q
    · exact hstay qs _ (by rw [hq, State.reg_resetReg_same])
    · exact ih (s.resetReg q i) ((List.mem_cons.1 h).resolve_left hq)

theorem State.fld_resetRegs {rs : List Reg} {f : Field} (h : f.reg ∈ rs) (i : Nat) :
    (s.resetRegs rs i).fld f i = bitsOf (regReset (f.reg, i)) f.hi f.lo := by
  rw [State.fld_eq, s.reg_resetRegs h]

theorem State.fld_countSat_foldl {f : Field} (i k : Nat) (h : f.lo + (f.hi - f.lo) < 512) :
    ((List.range k).foldl (fun s _ => s.countSat f i) s).fld f i = min (s.fld f i + k) (2 ^ f.width - 1) := by
  have hlt := s.fld_lt f i
  induction k with
  | zero =>
    change s.fld f i = min (s.fld f i + 0) (2 ^ f.width - 1)
    omega
  | succ k ih =>
    rw [List.range_succ, List.foldl_append, List.foldl_cons, List.foldl_nil, State.countSat]
    split
    next hsat =>
      rw [State.fld_setFld_same _ _ _ h, Nat.mod_eq_of_lt hsat, ih]
      rw [ih] at hsat
      omega
    next hsat =>
      rw [ih] at hsat ⊢
      omega

theorem State.fld_countSat_foldl_apart {f g : Field} (i j k : Nat) (h : f.apart g = true) :
    ((List.range k).foldl (fun s _ => s.countSat f i) s).fld g j = s.fld g j := by
  induction k with
  | zero => rfl
  | succ k ih =>
    rw [List.range_succ, List.foldl_append, List.foldl_cons, List.foldl_nil, State.countSat]
    split
    · exact (State.fld_setFld_of_apart _ _ _ _ h).trans ih
    · exact ih

end Sys2Proof.Machine
end

section
/-! PROOFS. O15: trims, patterns and checkers of a line transmitter (chapter 5). -/
namespace Sys2Proof.Proofs
open Sys2Proof Sys2Proof.Machine Sys2Proof.Claims
set_option Elab.async false

section
variable {s t u : State} {p : Path}

/-! ### One code towards a target -/

theorem stepTowards_within {lo hi x t : Int} (hx : lo ≤ x ∧ x < hi) (ht : lo ≤ t ∧ t < hi) : lo ≤ stepTowards x t ∧ stepTowards x t < hi := by
  unfold stepTowards
  split
  · omega
  · split <;> omega

/-- The code of a value within the two's-complement range reads back as that value. -/
theorem toSigned_ofSigned {w : Nat} (hw : 0 < w) {x : Int} (hx : -2 ^ (w - 1) ≤ x ∧ x < 2 ^ (w - 1)) : toSigned w (ofSigned w x) = x := by
  obtain ⟨k, rfl⟩ := Nat.exists_eq_succ_of_ne_zero hw.ne'
  have hlt := ofSigned_lt (k + 1) x
  have hval : ((ofSigned (k + 1) x : Nat) : Int) = x % (2 ^ (k + 1) : Nat) :=
    Int.toNat_of_nonneg (Int.emod_nonneg _ (by positivity))
  have hp : ((2 ^ (k + 1) : Nat) : Int) = 2 * 2 ^ k := by push_cast; ring
  have hpn : (2 : Nat) ^ (k + 1) = 2 * 2 ^ k := by ring
  rw [Nat.succ_eq_add_one, Nat.add_sub_cancel] at hx
  have hk : ((2 ^ k : Nat) : Int) = 2 ^ k := by push_cast; rfl
  unfold toSigned
  rw [Nat.succ_eq_add_one, Nat.add_sub_cancel, Nat.mod_eq_of_lt hlt]
  rcases lt_or_ge x 0 with h0 | h0
  · have hmod : x % (2 ^ (k + 1) : Nat) = x + 2 * 2 ^ k := by
      rw [hp, ← Int.add_emod_right, Int.emod_eq_of_lt (by omega) (by omega)]
    rw [if_neg (by omega), hval, hmod, hp]
    omega
  · have hmod : x % (2 ^ (k + 1) : Nat) = x := by rw [hp, Int.emod_eq_of_lt h0 (by omega)]
    rw [if_pos (by omega), hval, hmod]

theorem toSigned_step {w : Nat} (hw : 0 < w) (a b : Nat) :
    toSigned w (ofSigned w (stepTowards (toSigned w a) (toSigned w b))) = stepTowards (toSigned w a) (toSigned w b) :=
  toSigned_ofSigned hw (stepTowards_within (toSigned_bounds w a hw) (toSigned_bounds w b hw))

theorem ofSigned_step {w a b : Nat} (ha : a < 2 ^ w) (hb : b < 2 ^ w) : ((ofSigned w (stepTowards a b) : Nat) : Int) = stepTowards a b := by
  have ha' : (a : Int) < (2 ^ w : Nat) := by exact_mod_cast ha
  have hb' : (b : Int) < (2 ^ w : Nat) := by exact_mod_cast hb
  obtain ⟨h0, hlt⟩ := stepTowards_within (lo := 0) ⟨Int.natCast_nonneg a, ha'⟩ ⟨Int.natCast_nonneg b, hb'⟩
  rw [ofSigned, Int.emod_eq_of_lt h0 hlt, Int.toNat_of_nonneg h0]

/-! ### Trims -/

/-- What a trim write is written with. -/
def trimValue (swing : BitVec 6) (offset : BitVec 7) (skew : BitVec 6) : Nat := swing.toNat * 2 ^ 24 + offset.toNat * 2 ^ 16 + skew.toNat * 2 ^ 8

theorem trimValue_fields (swing : BitVec 6) (offset : BitVec 7) (skew : BitVec 6) :
    fieldOf (trimValue swing offset skew) LTX_TRIM.SWING = swing.toNat ∧ fieldOf (trimValue swing offset skew) LTX_TRIM.OFFSET = offset.toNat ∧
    fieldOf (trimValue swing offset skew) LTX_TRIM.SKEW = skew.toNat := by
  have := swing.isLt
  have := offset.isLt
  have := skew.isLt
  simp only [fieldOf, trimValue, Field.width, Nat.shiftRight_eq_div_pow]
  omega

/-- The targets as written; the trims themselves while the lane is DISABLED (R131). -/
def trimTargets (n v : Nat) (s : State) : State :=
  let u := plainWrite .LTX_TRIM n v s
  if u.ltxState n = Ltx.DISABLED then u.trimAtOnce n else u

theorem trimTargets_frame (n v : Nat) (s : State) :
    Frame (fun r _ => r ∈ [Reg.LTX_TRIM, .LTX_TRIM_NOW, .LTX_STATUS, .CAL_TRIM_BUSY]) s (trimTargets n v s) :=
  ((Frame.refl s).plainWrite (r := .LTX_TRIM) (i := n) (v := v)).when fun h => ((h.setFld).setFld).setFld

theorem trimTargets_target {f : Field} (hok : fieldsOk f.reg.desc.fields = true) (hw : f.writable) (hreg : f.reg = .LTX_TRIM) (n v : Nat) (s : State) :
    (trimTargets n v s).fld f n = fieldOf v f := by
  have hplain : (plainWrite .LTX_TRIM n v s).fld f n = fieldOf v f := hreg ▸ fld_plainWrite_of_writable hok hw n v s
  have hother : f.reg ≠ .LTX_TRIM_NOW := by rw [hreg]; decide
  have hstay (u : State) : (u.trimAtOnce n).fld f n = u.fld f n := State.fld_congr (by
    rw [State.trimAtOnce, State.reg_setFld_other _ _ _ _ hother, State.reg_setFld_other _ _ _ _ hother, State.reg_setFld_other _ _ _ _ hother])
  rw [trimTargets]
  split
  · rw [hstay, hplain]
  · exact hplain

theorem trimAtOnce_fields (u : State) (n : Nat) : (u.trimAtOnce n).fld LTX_TRIM_NOW.SWING n = u.fld LTX_TRIM.SWING n ∧
    (u.trimAtOnce n).fld LTX_TRIM_NOW.OFFSET n = u.fld LTX_TRIM.OFFSET n ∧ (u.trimAtOnce n).fld LTX_TRIM_NOW.SKEW n = u.fld LTX_TRIM.SKEW n := by
  unfold State.trimAtOnce
  simp (disch := decide) only [State.fld_setFld_of_apart, State.fld_setFld_eq]
  exact ⟨Nat.mod_eq_of_lt (u.fld_lt LTX_TRIM.SWING n), Nat.mod_eq_of_lt (u.fld_lt LTX_TRIM.OFFSET n),
    Nat.mod_eq_of_lt (u.fld_lt LTX_TRIM.SKEW n)⟩

theorem ltxTrim_written {n : Lane} {swing : BitVec 6} {offset : BitVec 7} {skew : BitVec 6} (hacc : Accepts s p .LTX_TRIM n) (hswing : swing.toNat ≤ 60) :
    Completes (.ltxTrimWrite p n swing offset skew) s fun t =>
      t.fld LTX_TRIM.SWING n = swing.toNat ∧ t.fld LTX_TRIM.OFFSET n = offset.toNat ∧ t.fld LTX_TRIM.SKEW n = skew.toNat ∧
      (s.ltxState n = Ltx.DISABLED → t.fld LTX_TRIM_NOW.SWING n = swing.toNat ∧ t.fld LTX_TRIM_NOW.OFFSET n = offset.toNat ∧
        t.fld LTX_TRIM_NOW.SKEW n = skew.toNat) ∧
      (s.ltxState n ≠ Ltx.DISABLED → t.reg .LTX_TRIM_NOW n = s.reg .LTX_TRIM_NOW n) ∧
      KeepsKinds [.LTX_TRIM, .LTX_TRIM_NOW, .LTX_STATUS, .CAL_TRIM_BUSY] s t := by
  obtain ⟨hfswing, hfoffset, hfskew⟩ := trimValue_fields swing offset skew
  have hexec : exec (.ltxTrimWrite p n swing offset skew) s = .next (trimTargets n (trimValue swing offset skew) s).showTrims := by
    refine (writeCommand_accepted _ hacc).trans (congrArg _ ?_)
    change (wrLtxTrim p n (trimValue swing offset skew) s).1 = _
    rw [wrLtxTrim, hfswing, if_neg (by omega)]
    rfl
  have hev := (Evolves.refl (K := .of [.LTX_STATUS, .CAL_TRIM_BUSY] []) (trimTargets n (trimValue swing offset skew) s)).showTrims
  have hstate : (plainWrite .LTX_TRIM n (trimValue swing offset skew) s).ltxState n = s.ltxState n := State.fld_plainWrite_other _ _ _ _ (by decide)
  have hplain {f : Field} (hok : fieldsOk f.reg.desc.fields = true) (hw : f.writable) (hreg : f.reg = .LTX_TRIM) :
      (plainWrite .LTX_TRIM n (trimValue swing offset skew) s).fld f n = fieldOf (trimValue swing offset skew) f :=
    hreg ▸ fld_plainWrite_of_writable hok hw n _ s
  refine ⟨_, hexec, ?_, ?_, ?_, fun hoff => ?_, fun hon => ?_, (trimTargets_frame _ _ _).within (hev.kinds (rs := [.LTX_STATUS, .CAL_TRIM_BUSY]))⟩
  · exact (hev.fld LTX_TRIM.SWING n).trans ((trimTargets_target (by decide) (by decide) rfl _ _ _).trans hfswing)
  · exact (hev.fld LTX_TRIM.OFFSET n).trans ((trimTargets_target (by decide) (by decide) rfl _ _ _).trans hfoffset)
  · exact (hev.fld LTX_TRIM.SKEW n).trans ((trimTargets_target (by decide) (by decide) rfl _ _ _).trans hfskew)
  · have htarget : trimTargets n (trimValue swing offset skew) s = (plainWrite .LTX_TRIM n (trimValue swing offset skew) s).trimAtOnce n :=
      if_pos (hstate.trans hoff)
    obtain ⟨hnswing, hnoffset, hnskew⟩ := trimAtOnce_fields (plainWrite .LTX_TRIM n (trimValue swing offset skew) s) n
    rw [← htarget] at hnswing hnoffset hnskew
    exact ⟨(hev.fld LTX_TRIM_NOW.SWING n).trans (hnswing.trans ((hplain (by decide) (by decide) rfl).trans hfswing)),
      (hev.fld LTX_TRIM_NOW.OFFSET n).trans (hnoffset.trans ((hplain (by decide) (by decide) rfl).trans hfoffset)),
      (hev.fld LTX_TRIM_NOW.SKEW n).trans (hnskew.trans ((hplain (by decide) (by decide) rfl).trans hfskew))⟩
  · have htarget : trimTargets n (trimValue swing offset skew) s = plainWrite .LTX_TRIM n (trimValue swing offset skew) s :=
      if_neg (fun h => hon (hstate.symm.trans h))
    exact (hev.reg .LTX_TRIM_NOW n).trans (by rw [htarget]; exact plainWrite_other _ _ (.inl (by decide)))

/-- One trim of lane `n` moves one code towards its target. -/
def rampOne (n : Nat) (f t : Field) (signed : Bool) (s : State) : State :=
  let get := fun (f : Field) => if signed then toSigned f.width (s.fld f n) else (s.fld f n : Int)
  s.setFld f n (ofSigned f.width (stepTowards (get f) (get t)))

/-- The trims of lane `n` move. -/
def rampLane (n : Nat) (s : State) : State :=
  rampOne n LTX_TRIM_NOW.SKEW LTX_TRIM.SKEW true (rampOne n LTX_TRIM_NOW.OFFSET LTX_TRIM.OFFSET true
    (rampOne n LTX_TRIM_NOW.SWING LTX_TRIM.SWING false s))

/-- The turn of lane `n` at a step: a change of its swing spoils an estimate of the mask. -/
def rampTurn (n : Nat) (s : State) : State :=
  if (rampLane n s).fld LTX_TRIM_NOW.SWING n = s.fld LTX_TRIM_NOW.SWING n then rampLane n s else (rampLane n s).spoilMask n

theorem exec_trimRampStep (s : State) : ∃ t, exec .trimRampStep s = .next t ∧
    Evolves (.of [.LTX_STATUS, .CAL_TRIM_BUSY] [.hsi, .hka, .dac]) (s.each lanes16 rampTurn) t := by
  exact ⟨_, rfl, (((((Evolves.refl _).each fun _ h => h.modHsi).modHka).each fun _ h => h.modDac).showTrims).showHkaTrims⟩

theorem rampTurn_regs (n : Nat) (s : State) : (rampTurn n s).regs = (rampLane n s).regs := by
  unfold rampTurn
  split <;> rfl

theorem rampTurn_frame (n : Nat) (s : State) : Frame (fun r i => (r, i) ∈ [(Reg.LTX_TRIM_NOW, n)]) s (rampTurn n s) := by
  have h : Frame (fun r i => (r, i) ∈ [(Reg.LTX_TRIM_NOW, n)]) s (rampLane n s) := ((Frame.refl s).setFld).setFld.setFld
  exact h.skip fun h => h.modGrp

/-- The fields of a lane that a step reads and writes. -/
def trimFields (s : State) (n : Nat) : RegVal × RegVal := (s.reg .LTX_TRIM n, s.reg .LTX_TRIM_NOW n)

theorem rampLane_fields (n : Nat) (s : State) :
    ((rampLane n s).fld LTX_TRIM_NOW.SWING n : Int) = stepTowards (s.fld LTX_TRIM_NOW.SWING n) (s.fld LTX_TRIM.SWING n) ∧
    toSigned 7 ((rampLane n s).fld LTX_TRIM_NOW.OFFSET n) =
      stepTowards (toSigned 7 (s.fld LTX_TRIM_NOW.OFFSET n)) (toSigned 7 (s.fld LTX_TRIM.OFFSET n)) ∧
    toSigned 6 ((rampLane n s).fld LTX_TRIM_NOW.SKEW n) =
      stepTowards (toSigned 6 (s.fld LTX_TRIM_NOW.SKEW n)) (toSigned 6 (s.fld LTX_TRIM.SKEW n)) := by
  have hs : s.fld LTX_TRIM_NOW.SWING n < 2 ^ 6 := s.fld_lt _ _
  have ht : s.fld LTX_TRIM.SWING n < 2 ^ 6 := s.fld_lt _ _
  unfold rampLane rampOne
  simp (disch := decide) only [State.fld_setFld_of_apart, State.fld_setFld_eq, Field.width]
  refine ⟨?_, ?_, ?_⟩
  · exact (congrArg (Nat.cast (R := Int)) (Nat.mod_eq_of_lt (ofSigned_lt 6 _))).trans (ofSigned_step hs ht)
  · exact (congrArg (toSigned 7) (Nat.mod_eq_of_lt (ofSigned_lt 7 _))).trans (toSigned_step (by decide) _ _)
  · exact (congrArg (toSigned 6) (Nat.mod_eq_of_lt (ofSigned_lt 6 _))).trans (toSigned_step (by decide) _ _)

theorem trims_ramp (s : State) (n : Lane) :
    ((s.each lanes16 rampTurn).fld LTX_TRIM_NOW.SWING n : Int) = stepTowards (s.fld LTX_TRIM_NOW.SWING n) (s.fld LTX_TRIM.SWING n) ∧
    toSigned 7 ((s.each lanes16 rampTurn).fld LTX_TRIM_NOW.OFFSET n) =
      stepTowards (toSigned 7 (s.fld LTX_TRIM_NOW.OFFSET n)) (toSigned 7 (s.fld LTX_TRIM.OFFSET n)) ∧
    toSigned 6 ((s.each lanes16 rampTurn).fld LTX_TRIM_NOW.SKEW n) =
      stepTowards (toSigned 6 (s.fld LTX_TRIM_NOW.SKEW n)) (toSigned 6 (s.fld LTX_TRIM.SKEW n)) := by
  have hapart : ∀ i j v, j ≠ i → trimFields (rampTurn i v) j = trimFields v j := fun i j v hj => by
    unfold trimFields
    rw [(rampTurn_frame i v).reg_eq (by simp), (rampTurn_frame i v).reg_eq (by simp [hj])]
  obtain ⟨u, hu, hturn⟩ := State.each_turn hapart (is := lanes16) (by decide) (List.mem_range.2 n.isLt) s
  obtain ⟨htarget, hnow⟩ := Prod.mk.inj hu
  obtain ⟨-, hend⟩ := Prod.mk.inj hturn
  have hfield {f : Field} (hf : f.reg = .LTX_TRIM_NOW) : (s.each lanes16 rampTurn).fld f n = (rampLane n u).fld f n :=
    (State.fld_congr (by rw [hf, hend])).trans (State.fld_of_regs (rampTurn_regs n u) f n)
  have hold {f : Field} (hf : f.reg = .LTX_TRIM_NOW) : u.fld f n = s.fld f n := State.fld_congr (by rw [hf, hnow])
  have hold' {f : Field} (hf : f.reg = .LTX_TRIM) : u.fld f n = s.fld f n := State.fld_congr (by rw [hf, htarget])
  have h := rampLane_fields n u
  rwa [← hfield (f := LTX_TRIM_NOW.SWING) rfl, ← hfield (f := LTX_TRIM_NOW.OFFSET) rfl, ← hfield (f := LTX_TRIM_NOW.SKEW) rfl,
    hold (f := LTX_TRIM_NOW.SWING) rfl, hold (f := LTX_TRIM_NOW.OFFSET) rfl, hold (f := LTX_TRIM_NOW.SKEW) rfl,
    hold' (f := LTX_TRIM.SWING) rfl, hold' (f := LTX_TRIM.OFFSET) rfl, hold' (f := LTX_TRIM.SKEW) rfl] at h

theorem trimRampStep_ramps (s : State) : Completes .trimRampStep s fun t => KeepsKinds [.LTX_TRIM_NOW, .LTX_STATUS, .CAL_TRIM_BUSY] s t ∧
    ∀ n : Lane, (t.fld LTX_TRIM_NOW.SWING n : Int) = stepTowards (s.fld LTX_TRIM_NOW.SWING n) (s.fld LTX_TRIM.SWING n) ∧
      toSigned 7 (t.fld LTX_TRIM_NOW.OFFSET n) = stepTowards (toSigned 7 (s.fld LTX_TRIM_NOW.OFFSET n)) (toSigned 7 (s.fld LTX_TRIM.OFFSET n)) ∧
      toSigned 6 (t.fld LTX_TRIM_NOW.SKEW n) = stepTowards (toSigned 6 (s.fld LTX_TRIM_NOW.SKEW n)) (toSigned 6 (s.fld LTX_TRIM.SKEW n)) := by
  obtain ⟨t, hexec, hev⟩ := exec_trimRampStep s
  have hlanes : Frame (fun r _ => r ∈ [Reg.LTX_TRIM_NOW, .LTX_STATUS, .CAL_TRIM_BUSY]) s (s.each lanes16 rampTurn) :=
    (Frame.refl s).each fun i _ h => h.thenIn (rampTurn_frame i _) (by simp +contextual)
  refine ⟨t, hexec, hlanes.within (hev.kinds (rs := [.LTX_STATUS, .CAL_TRIM_BUSY])), fun n => ?_⟩
  rw [hev.fld LTX_TRIM_NOW.SWING n, hev.fld LTX_TRIM_NOW.OFFSET n, hev.fld LTX_TRIM_NOW.SKEW n]
  exact trims_ramp s n

/-! ### Patterns -/

/-- What a pattern write is written with. -/
def patValue (pat : Fin 8) (place bypass : Bool) (len : BitVec 14) : Nat :=
  len.toNat * 2 ^ 16 + (if bypass then 32 else 0) + (if place then 16 else 0) + pat.val

theorem patValue_fields (pat : Fin 8) (place bypass : Bool) (len : BitVec 14) :
    fieldOf (patValue pat place bypass len) LTX_PAT.PAT = pat ∧ fieldOf (patValue pat place bypass len) LTX_PAT.PLACE = place.toNat ∧
    fieldOf (patValue pat place bypass len) LTX_PAT.BYPASS = bypass.toNat ∧ fieldOf (patValue pat place bypass len) LTX_PAT.USER_LEN = len.toNat := by
  have := len.isLt
  have := pat.isLt
  simp only [fieldOf, patValue, Field.width, Nat.shiftRight_eq_div_pow]
  cases place <;> cases bypass <;> simp only [Bool.toNat, cond, if_true, if_false, Bool.false_eq_true] <;> omega

theorem flag_of_toNat {s : State} {f : Field} {i : Nat} {b : Bool} (h : s.fld f i = b.toNat) : s.flag f i = b := by
  rw [State.flag, h]
  cases b <;> rfl

theorem ltxPat_written {n : Lane} {pat : Fin 8} {place bypass : Bool} {len : BitVec 14} (hacc : Accepts s p .LTX_PAT n) (h4 : 4 ≤ len.toNat)
    (hmax : len.toNat ≤ 8192) (hmod : len.toNat % 4 = 0) (hpat : pat.val ≤ 4)
    (hfits : pat.val ≠ 0 → (s.cinchLane n = true → s.inStripe n = false) ∧ (s.ieee n = true → place = true)) :
    Completes (.ltxPatWrite p n pat place bypass len) s fun t =>
      t.fld LTX_PAT.PAT n = pat ∧ t.flag LTX_PAT.PLACE n = place ∧ t.flag LTX_PAT.BYPASS n = bypass ∧
      t.fld LTX_PAT.USER_LEN n = len.toNat ∧ t.fld LTX_STATUS.RESULT n = LtxResult.OK ∧ Keeps [(.LTX_PAT, n), (.LTX_STATUS, n)] s t := by
  obtain ⟨hfpat, hfplace, hfbypass, hflen⟩ := patValue_fields pat place bypass len
  have hstripe : ¬(pat.val ≠ 0 ∧ s.cinchLane n ∧ s.inStripe n) := fun ⟨h0, hc, hi⟩ => by simp [(hfits h0).1 hc] at hi
  have hplace : ¬(pat.val ≠ 0 ∧ s.ieee n ∧ place.toNat = 0) := fun ⟨h0, hi, hp⟩ => by simp [(hfits h0).2 hi] at hp
  have hexec : exec (.ltxPatWrite p n pat place bypass len) s =
      .next ((plainWrite .LTX_PAT n (patValue pat place bypass len) s).setFld LTX_STATUS.RESULT n LtxResult.OK) := by
    refine (writeCommand_accepted _ hacc).trans (congrArg _ ?_)
    change (wrLtxPat p n (patValue pat place bypass len) s).1 = _
    rw [wrLtxPat, hfpat, hflen, hfplace, if_neg (by omega), if_neg (by omega), if_neg hstripe, if_neg hplace]
  have hfield {f : Field} (hok : fieldsOk f.reg.desc.fields = true) (hw : f.writable) (hreg : f.reg = .LTX_PAT) (hapart : LTX_STATUS.RESULT.apart f = true) :
      ((plainWrite .LTX_PAT n (patValue pat place bypass len) s).setFld LTX_STATUS.RESULT n LtxResult.OK).fld f n =
        fieldOf (patValue pat place bypass len) f :=
    (State.fld_setFld_of_apart _ _ _ _ hapart).trans (hreg ▸ fld_plainWrite_of_writable hok hw n _ s)
  refine ⟨_, hexec, ?_, ?_, ?_, ?_, State.fld_setFld_eq _ _ _ (by decide), ((Frame.refl s).plainWrite.setFld).keeps⟩
  · exact (hfield (by decide) (by decide) rfl (by decide)).trans hfpat
  · exact flag_of_toNat ((hfield (by decide) (by decide) rfl (by decide)).trans hfplace)
  · exact flag_of_toNat ((hfield (by decide) (by decide) rfl (by decide)).trans hfbypass)
  · exact (hfield (by decide) (by decide) rfl (by decide)).trans hflen

/-! ### Checkers -/

theorem ltxChk_cleared {n : Lane} (hacc : Accepts s p .LTX_CHK n) (hpat : s.fld LTX_CHK.PAT n ≤ 4) :
    Completes (.ltxChkClr p n) s fun t => t.fld LTX_CHK_SYM.COUNT n = 0 ∧ t.fld LTX_CHK_ERR.COUNT n = 0 ∧
      t.fld LTX_CHK_BIT.COUNT n = 0 ∧ t.fld LTX_CHK.PAT n = s.fld LTX_CHK.PAT n ∧
      Keeps [(.LTX_CHK, n), (.LTX_CHK_SYM, n), (.LTX_CHK_ERR, n), (.LTX_CHK_BIT, n)] s t := by
  have hfpat : fieldOf (withField (s.writeBack .LTX_CHK n) LTX_CHK.CLR 1) LTX_CHK.PAT = s.fld LTX_CHK.PAT n :=
    (fieldOf_withField_apart _ _ (s.writeBack_lt .LTX_CHK n (by decide)) (by decide) (by decide) (by decide) (by decide)).trans
      (fieldOf_writeBack s (g := LTX_CHK.PAT) n (acc := .rw) (by decide) (.inl rfl))
  have hfclr : fieldOf (withField (s.writeBack .LTX_CHK n) LTX_CHK.CLR 1) LTX_CHK.CLR = 1 := fieldOf_withField_same _ _ (by decide) (by decide)
  have hexec : exec (.ltxChkClr p n) s = .next ((plainWrite .LTX_CHK n (withField (s.writeBack .LTX_CHK n) LTX_CHK.CLR 1) s).resetRegs
      [.LTX_CHK_SYM, .LTX_CHK_ERR, .LTX_CHK_BIT] n) := by
    refine (writeCommand_accepted _ hacc).trans (congrArg _ ?_)
    have hlegal : ¬ 4 < s.fld LTX_CHK.PAT n := by omega
    simp only [wrLtxChk, wrChk, hfpat, hlegal, hfclr, decide_false, Bool.false_eq_true, if_false, ne_eq, not_true_eq_false, if_true]
  have hzero : ∀ f ∈ [LTX_CHK_SYM.COUNT, LTX_CHK_ERR.COUNT, LTX_CHK_BIT.COUNT], bitsOf (resetOfFields f.reg.desc.fields 0) f.hi f.lo = 0 := by
    decide +kernel
  have hreset (f : Field) (u : State) (hreg : f.reg ∈ [Reg.LTX_CHK_SYM, .LTX_CHK_ERR, .LTX_CHK_BIT]) :=
    u.fld_resetRegs (f := f) hreg n
  refine ⟨_, hexec, (hreset LTX_CHK_SYM.COUNT _ (by decide)).trans (hzero LTX_CHK_SYM.COUNT (by decide)),
    (hreset LTX_CHK_ERR.COUNT _ (by decide)).trans (hzero LTX_CHK_ERR.COUNT (by decide)),
    (hreset LTX_CHK_BIT.COUNT _ (by decide)).trans (hzero LTX_CHK_BIT.COUNT (by decide)), ?_, ?_⟩
  · have hstay : Frame (fun r _ => r ∈ [Reg.LTX_CHK_SYM, .LTX_CHK_ERR, .LTX_CHK_BIT]) (plainWrite .LTX_CHK n
        (withField (s.writeBack .LTX_CHK n) LTX_CHK.CLR 1) s) _ := (Frame.refl _).resetRegs (i := n.val) fun _ h => h
    exact (hstay.fld_eq (by decide)).trans ((fld_plainWrite_of_writable (f := LTX_CHK.PAT) (by decide) (by decide) n.val _ s).trans hfpat)
  · exact ((Frame.refl s).plainWrite.resetRegs (by simp)).keeps

/-- What a checker's registers show once it has read symbols (R143). -/
def chkShown (sync slips sym err bit : Field) (i : Nat) (r : ChkRun) (s : State) : State :=
  (List.range r.slips).foldl (fun s _ => s.countSat slips i) ((((s.count sym i r.syms).count err i r.errs).count bit i r.bits).setFlag sync i r.sync)

/-- No two fields of a checker share bits. -/
abbrev ChkApart (sync slips sym err bit : Field) : Prop :=
  (∀ f ∈ [sync, slips, sym, err, bit], f.lo + (f.hi - f.lo) < 512) ∧
  ∀ f ∈ [sync, slips, sym, err, bit], ∀ g ∈ [sync, slips, sym, err, bit], f ≠ g → f.apart g = true

theorem chkShown_shows {sync slips sym err bit : Field} (h : ChkApart sync slips sym err bit)
    (hne : [sync, slips, sym, err, bit].Nodup) (i : Nat) (r : ChkRun) (s : State) :
    (chkShown sync slips sym err bit i r s).flag sync i = r.sync ∧ Counts sym i s (chkShown sync slips sym err bit i r s) r.syms ∧
    Counts err i s (chkShown sync slips sym err bit i r s) r.errs ∧ Counts bit i s (chkShown sync slips sym err bit i r s) r.bits ∧
    (chkShown sync slips sym err bit i r s).fld slips i = min (s.fld slips i + r.slips) (2 ^ slips.width - 1) := by
  obtain ⟨hlen, hapart⟩ := h
  simp only [List.nodup_cons, List.mem_cons, List.not_mem_nil, or_false, not_or, forall_eq_or_imp, forall_eq] at hne hapart hlen
  have hcount {f : Field} (n : Nat) (u : State) (hf : f.lo + (f.hi - f.lo) < 512) : (u.count f i n).fld f i = (u.fld f i + n) % 2 ^ f.width :=
    State.fld_count_same _ _ _ hf
  unfold Counts chkShown State.flag
  refine ⟨?_, ?_, ?_, ?_, ?_⟩
  · rw [State.fld_countSat_foldl_apart _ _ _ _ (by grind), State.fld_setFlag_eq _ _ _ (by grind)]
    cases r.sync <;> rfl
  · rw [State.fld_countSat_foldl_apart _ _ _ _ (by grind), State.fld_setFlag_of_apart _ _ _ _ (by grind), State.fld_count_of_apart _ _ _ _ (by grind),
      State.fld_count_of_apart _ _ _ _ (by grind), hcount _ _ (by grind)]
  · rw [State.fld_countSat_foldl_apart _ _ _ _ (by grind), State.fld_setFlag_of_apart _ _ _ _ (by grind), State.fld_count_of_apart _ _ _ _ (by grind),
      hcount _ _ (by grind), State.fld_count_of_apart _ _ _ _ (by grind)]
  · rw [State.fld_countSat_foldl_apart _ _ _ _ (by grind), State.fld_setFlag_of_apart _ _ _ _ (by grind), hcount _ _ (by grind),
      State.fld_count_of_apart _ _ _ _ (by grind), State.fld_count_of_apart _ _ _ _ (by grind)]
  · rw [State.fld_countSat_foldl _ _ _ (by grind), State.fld_setFlag_of_apart _ _ _ _ (by grind), State.fld_count_of_apart _ _ _ _ (by grind),
      State.fld_count_of_apart _ _ _ _ (by grind), State.fld_count_of_apart _ _ _ _ (by grind)]

theorem chkShown_frame {sync slips sym err bit : Field} (h : slips.reg = sync.reg) (i : Nat) (r : ChkRun) (s : State) :
    Frame (fun q j => (q, j) ∈ [(sync.reg, i), (sym.reg, i), (err.reg, i), (bit.reg, i)]) s (chkShown sync slips sym err bit i r s) :=
  ((((Frame.refl s).count.count).count).setFlag).foldl fun _ _ h' => h'.countSat (by simp [h])

/-- What a report of a checker leaves, as the statement says it. -/
def CheckerReads (c : CheckerId) (syms : List (BitVec 2)) (s t : State) : Prop :=
  let (pat, sync, slips, sym, err, bit, i) := chkFields c
  let r := s.chkSees c syms
  t.flag sync i = r.sync ∧ Counts sym i s t r.syms ∧ Counts err i s t r.errs ∧ Counts bit i s t r.bits ∧
    t.fld slips i = min (s.fld slips i + r.slips) (2 ^ slips.width - 1) ∧
    Keeps [(pat.reg, i), (sym.reg, i), (err.reg, i), (bit.reg, i)] s t

theorem chkFeed_reads {c : CheckerId} {syms : List (BitVec 2)} (hsyms : syms ≠ []) (hpat : s.fld (chkFields c).1 (chkFields c).2.2.2.2.2.2 ≠ 0) :
    CheckerReads c syms s (s.chkFeed c syms) := by
  have hsome : ¬(s.fld (chkFields c).1 (chkFields c).2.2.2.2.2.2 = 0 ∨ syms.isEmpty) := by simpa [hsyms] using hpat
  cases c with
  | line n =>
    obtain ⟨hsync, hsym, herr, hbit, hslips⟩ := chkShown_shows (sync := LTX_CHK.SYNC) (slips := LTX_CHK.SLIPS) (sym := LTX_CHK_SYM.COUNT)
      (err := LTX_CHK_ERR.COUNT) (bit := LTX_CHK_BIT.COUNT) (by decide) (by decide) n (s.chkSees (.line n) syms) s
    rw [show s.chkFeed (.line n) syms = _ from if_neg hsome]
    exact ⟨hsync, hsym, herr, hbit, hslips, (chkShown_frame (sync := LTX_CHK.SYNC) (slips := LTX_CHK.SLIPS)
      (sym := LTX_CHK_SYM.COUNT) (err := LTX_CHK_ERR.COUNT) (bit := LTX_CHK_BIT.COUNT) rfl _ _ _).setChk.keeps⟩
  | host h =>
    obtain ⟨hsync, hsym, herr, hbit, hslips⟩ := chkShown_shows (sync := HSI_CHK.SYNC) (slips := HSI_CHK.SLIPS) (sym := HSI_CHK_SYM.COUNT)
      (err := HSI_CHK_ERR.COUNT) (bit := HSI_CHK_BIT.COUNT) (by decide) (by decide) h (s.chkSees (.host h) syms) s
    rw [show s.chkFeed (.host h) syms = _ from if_neg hsome]
    exact ⟨hsync, hsym, herr, hbit, hslips, (chkShown_frame (sync := HSI_CHK.SYNC) (slips := HSI_CHK.SLIPS)
      (sym := HSI_CHK_SYM.COUNT) (err := HSI_CHK_ERR.COUNT) (bit := HSI_CHK_BIT.COUNT) rfl _ _ _).setChk.keeps⟩

/-- In sync, a checker counts no error while the symbols are those it expects. -/
theorem inSync_foldl_errs (pat : Nat) (expect : List (BitVec 2) → Nat → BitVec 2) (first : List (BitVec 2)) (seq : Nat → BitVec 2)
    (hseq : ∀ seed j, expect seed j = seq j) (k : Nat) {r : ChkRun} (hsync : r.sync = true) :
    (((List.range k).map fun j => seq (r.x.at_ + j)).foldl (ChkRun.step pat expect first) r).errs = r.errs := by
  suffices h : ∀ a, ((List.range k).map fun j => seq (r.x.at_ + j)).foldl (ChkRun.step pat expect first) r = a →
      a.sync = true ∧ a.x.at_ = r.x.at_ + k ∧ a.errs = r.errs from (h _ rfl).2.2
  induction k with
  | zero => exact fun a ha => ha ▸ ⟨hsync, rfl, rfl⟩
  | succ k ih =>
    intro a ha
    rw [List.range_succ, List.map_append, List.foldl_append, List.map_singleton, List.foldl_cons, List.foldl_nil] at ha
    obtain ⟨hs, hat, he⟩ := ih _ rfl
    rw [ChkRun.step, if_pos hs, ChkRun.inSync, hseq, hat, if_pos rfl] at ha
    subst ha
    exact ⟨hs, rfl, he⟩

theorem ssprq_without_errors {n : Lane} (hsync : s.flag LTX_CHK.SYNC n = true) (hpat : s.fld LTX_CHK.PAT n = 3) (k : Nat) :
    (s.chkSees (.line n) ((List.range k).map fun j => Config.standardPattern 3 ((Tab.get (fun _ => {}) s.chk n.val).at_ + j))).errs = 0 := by
  unfold State.chkSees chkFields
  refine inSync_foldl_errs _ _ _ (Config.standardPattern 3) (fun seed j => ?_) k hsync
  rw [hpat, if_neg (by decide), State.chkPattern, if_neg (by decide)]

/-! ### Relaying -/

theorem hostRateSlewDone_relays {n : Lane} {h : Nat} (hhost : (s.hostsOf n).head? = some h) (hsvc : s.svc n = Svc.TRANSPARENT)
    (hlocked : s.hrx h = HRx.LOCKED) : Completes (.hostRateSlewDone n) s fun t => (t.ltxOf n).relaying = true ∧
      (t.ltxOf n).rate = toSigned 16 (s.fld HSI_FREQ.FREQ h) ∧ Keeps [] s t := by
  have hexec : exec (.hostRateSlewDone n) s = .next ((s.slewTo n h).modLtx n fun x => { x with relaying := true }) := by
    change execHostRateSlewDone n s = _
    rw [execHostRateSlewDone, hhost]
    dsimp only
    rw [if_pos ⟨hsvc, hlocked⟩]
  refine ⟨_, hexec, ?_, ?_, ((Frame.refl s).modLtx.modLtx).keeps⟩
  · rw [State.ltxOf_modLtx_same]
  · rw [State.ltxOf_modLtx_same, State.slewTo, State.ltxOf_modLtx_same]

end

/-- Settles O15: each command by the fields that its write and its counts leave. -/
theorem transmitSettings : Obligations.TransmitSettings := by
  refine ⟨fun s p n swing offset skew => ltxTrim_written, trimRampStep_ramps, fun s p n pat place bypass len => ltxPat_written,
    fun s p n => ltxChk_cleared, fun s c syms hsyms => ?_, fun s n k hsync hpat => ssprq_without_errors hsync hpat k,
    fun s n h => hostRateSlewDone_relays⟩
  intro hpat
  have hreads := chkFeed_reads hsyms hpat
  refine ⟨⟨_, rfl, hreads⟩, ⟨s.chkFeed c syms, ?_, hreads⟩⟩
  exact congrArg _ (if_pos ⟨rfl, rfl⟩)

end Sys2Proof.Proofs
end

section
/-! SUPPORT. Line transmitters and the ports of a group: the frames of their operations, at the lane and the group they work on. -/
namespace Sys2Proof.Claims.Frame
open Sys2Proof Sys2Proof.Machine Sys2Proof.Claims
set_option Elab.async false
variable {P : Reg → Nat → Prop} {s u : State} {n g : Nat}

theorem modPort {p : GroupPort} {f : PortX → PortX} (h : Frame P s u) : Frame P s (u.modPort g p f) := h.modGrp

theorem portSpoke {p : GroupPort} (h : Frame P s u) : Frame P s (u.portSpoke g p) := h.modPort

theorem portNext {p : GroupPort} (h : Frame P s u) (hP : P (portCfgReg p) g) : Frame P s (u.portNext g p) := by
  unfold State.portNext
  dsimp only
  refine Frame.modPort ?_
  split
  · exact (h.plainWrite hP).modPort
  · exact h

theorem showLasers (h : Frame P s u) : Frame P s u.showLasers := by
  unfold State.showLasers
  refine h.each fun q _ h => ?_
  exact Frame.ite (fun _ => h.same) (fun _ => h)

theorem logLtx {kind : Nat} (h : Frame P s u) (hP : P .EVL_DROPPED 0 := by simp) : Frame P s (u.logLtx n kind) := h.log hP

theorem goLtx {st : Nat} (h : Frame P s u) (hP : P .LTX_STATUS n := by simp) : Frame P s (u.goLtx n st) := by
  have hset : Frame P s ((u.setFld LTX_STATUS.STATE n st).setFlag LTX_STATUS.PENDING n (decide (st = Ltx.PENDING))) := (h.setFld hP).setFlag hP
  exact ((hset.when fun h => h.modLtx).when fun h => h.modLtx).showLasers

theorem dropClock (h : Frame P s u) (hP : P .LTX_STATUS n := by simp) : Frame P s (u.dropClock n) := h.setFld hP

end Sys2Proof.Claims.Frame

namespace Sys2Proof.Machine
open Sys2Proof Sys2Proof.Claims
set_option Elab.async false
section
variable (s : State) {n g : Nat}

@[simp] theorem State.port_modPort_driver (f : PortX → PortX) : ((s.modPort g .driver f).grpOf g).drv = f (s.grpOf g).drv := by
  rw [State.modPort, State.grpOf_modGrp_same]

theorem State.portNext_driver : ((s.portNext g .driver).grpOf g).drv.sw = (s.grpOf g).drv.sw ∧
    ((s.portNext g .driver).grpOf g).drv.hw = (s.grpOf g).drv.hw := by
  unfold State.portNext
  dsimp only
  rw [State.port_modPort_driver]
  split
  · rw [State.port_modPort_driver]
    split <;> exact ⟨rfl, rfl⟩
  · split <;> exact ⟨rfl, rfl⟩

theorem State.fld_showLasers (f : Field) (i : Nat) : s.showLasers.fld f i = s.fld f i :=
  State.fld_congr (((Frame.refl s).showLasers (P := fun _ _ => False)).reg_eq not_false)

/-- What a lane that enters a transmit state shows, beside pins and what the lane remembers. -/
theorem State.goLtx_frame (n st : Nat) : Frame (fun _ _ => False)
    ((s.setFld LTX_STATUS.STATE n st).setFlag LTX_STATUS.PENDING n (decide (st = Ltx.PENDING))) (s.goLtx n st) :=
  (((Frame.refl _).when fun h => h.modLtx).when fun h => h.modLtx).showLasers

theorem State.fld_goLtx_apart {st : Nat} {f : Field} (i : Nat) (hs : LTX_STATUS.STATE.apart f = true) (hp : LTX_STATUS.PENDING.apart f = true) :
    (s.goLtx n st).fld f i = s.fld f i :=
  ((s.goLtx_frame n st).fld_eq not_false).trans ((State.fld_setFlag_of_apart _ _ _ _ hp).trans (State.fld_setFld_of_apart _ _ _ _ hs))

/-- A lane that enters a transmit state shows it. -/
theorem State.ltxState_goLtx {st : Nat} (hst : st < 16) : (s.goLtx n st).ltxState n = st :=
  ((s.goLtx_frame n st).fld_eq not_false).trans ((State.fld_setFlag_of_apart _ _ _ _ (by decide)).trans
    ((State.fld_setFld_eq _ _ _ (by decide)).trans (Nat.mod_eq_of_lt hst)))

end
end Sys2Proof.Machine
end

section
/-! PROOFS. O16: the driver control port and the spectral-mask monitor (chapter 5). -/
namespace Sys2Proof.Proofs
open Sys2Proof Sys2Proof.Machine Sys2Proof.Claims
set_option Elab.async false

section
variable {s t u : State} {p : Path} {g : Grp}

/-! ### Software's transactions -/

/-- What GO is written with. -/
def drvGoValue (rd : Bool) (l : Fin 2) (reg : BitVec 16) (v : Byte) : Nat :=
  2 ^ 31 + (if rd then 2 ^ 30 else 0) + l.val * 2 ^ 29 + (reg.toNat % 256) * 2 ^ 16 + reg.toNat / 256 * 256 + v.toNat

theorem drvGoValue_fields (rd : Bool) (l : Fin 2) (reg : BitVec 16) (v : Byte) :
    fieldOf (drvGoValue rd l reg v) LTX_DRV_CMD.GO = 1 ∧ fieldOf (drvGoValue rd l reg v) LTX_DRV_CMD.RD = rd.toNat ∧
    fieldOf (drvGoValue rd l reg v) LTX_DRV_CMD.LANE = l ∧ fieldOf (drvGoValue rd l reg v) LTX_DRV_CMD.REG = reg.toNat % 256 ∧
    fieldOf (drvGoValue rd l reg v) LTX_DRV_CMD.REGHI = reg.toNat / 256 ∧ fieldOf (drvGoValue rd l reg v) LTX_DRV_CMD.WDATA = v.toNat := by
  have := reg.isLt
  have := v.isLt
  have := l.isLt
  have hhi : reg.toNat / 256 < 256 := by omega
  have hlo : reg.toNat % 256 < 256 := by omega
  simp only [fieldOf, drvGoValue, Field.width, Nat.shiftRight_eq_div_pow]
  generalize reg.toNat / 256 = hi at *
  generalize reg.toNat % 256 = lo at *
  cases rd <;> simp only [Bool.toNat, cond, if_true, if_false, Bool.false_eq_true] <;> omega

/-- The pointer as the image's sequences spell it: two bytes with PTR16, one without. -/
theorem pointer_eq (b : Bool) (reg : BitVec 16) :
    (if b then reg.toNat / 256 else 0) * 256 + reg.toNat % 256 = if b = true then reg.toNat else reg.toNat % 256 := by
  cases b
  · simp
  · rw [if_pos rfl, if_pos rfl]
    omega

theorem portGo_waits {x : SwTx} {owned : Bool} (hhead : s.headless = false) (hbusy : s.flag LTX_DRV_STATUS.BUSY g = false)
    (hown : owned = false ∨ x.rd = true) : ((s.portGo g .driver owned x).1).flag LTX_DRV_STATUS.BUSY g = true ∧
      (((s.portGo g .driver owned x).1).grpOf g).drv.sw = some x ∧
      Frame (fun r i => (r, i) ∈ [(Reg.LTX_DRV_STATUS, g.val), (.LTX_DRV_CFG, g.val)]) s (s.portGo g .driver owned x).1 := by
  have hfree : ¬(owned && !x.rd) = true := by rcases hown with h | h <;> simp [h]
  have hset : Frame (fun r i => (r, i) ∈ [(Reg.LTX_DRV_STATUS, g.val), (.LTX_DRV_CFG, g.val)]) s
      ((s.setFlag (portBusy .driver) g true).modPort g .driver fun x' => { x' with sw := some x }) :=
    Frame.modPort ((Frame.refl s).setFlag (by simp [portBusy]))
  have hflag : ((s.setFlag (portBusy .driver) g true).modPort g .driver fun x' => { x' with sw := some x }).flag LTX_DRV_STATUS.BUSY g = true :=
    State.flag_setFlag_eq s g true (by decide)
  unfold State.portGo
  rw [hhead, if_neg Bool.false_ne_true, if_neg (by rw [show portBusy .driver = LTX_DRV_STATUS.BUSY from rfl, hbusy]; exact Bool.false_ne_true),
    if_neg hfree]
  dsimp only
  split
  · exact ⟨hflag, by rw [State.port_modPort_driver], hset⟩
  · refine ⟨?_, ?_, hset.portNext (by simp [portCfgReg])⟩
    · exact ((Frame.refl _).portNext (P := fun r _ => r = .LTX_DRV_CFG) rfl).flag_eq (by decide) |>.trans hflag
    · rw [(State.portNext_driver _).1, State.port_modPort_driver]

theorem drvGo_waits {rd : Bool} {l : Fin 2} {reg : BitVec 16} {v : Byte} (hacc : Accepts s p .LTX_DRV_CMD g) (hhead : s.headless = false)
    (hbusy : s.flag LTX_DRV_STATUS.BUSY g = false) {ptr : Nat}
    (hptr : ptr = if s.flag LTX_DRV_CFG.PTR16 g = true then reg.toNat else reg.toNat % 256)
    (hown : rd = true ∨ s.drvOwns (2 * g + l) ptr = false ∨ s.ltxState (2 * g + l) = Ltx.DISABLED) :
    Completes (.drvGo p g rd l reg v) s fun t => t.flag LTX_DRV_STATUS.BUSY g = true ∧
      (t.grpOf g).drv.sw = some ⟨rd, l, ptr, v.toNat⟩ ∧
      Keeps [(.LTX_DRV_CMD, g), (.LTX_DRV_STATUS, g), (.LTX_DRV_CFG, g)] s t := by
  obtain ⟨hgo, hrd, hlane, hreg, hhi, hdata⟩ := drvGoValue_fields rd l reg v
  have hpw : Frame (fun r i => (r, i) ∈ [(Reg.LTX_DRV_CMD, g.val)]) s (plainWrite .LTX_DRV_CMD g (drvGoValue rd l reg v) s) := (Frame.refl s).plainWrite
  have hhead' : (plainWrite .LTX_DRV_CMD g (drvGoValue rd l reg v) s).headless = false := by
    rw [← hhead, State.headless, State.headless, hpw.flag_eq (by simp)]
  have hexec : exec (.drvGo p g rd l reg v) s = .next ((plainWrite .LTX_DRV_CMD g (drvGoValue rd l reg v) s).portGo g .driver
      (s.drvOwns (2 * g + l) ptr && decide (s.ltxState (2 * g + l) ≠ Ltx.DISABLED)) ⟨rd, l, ptr, v.toNat⟩).1 := by
    refine (writeCommand_accepted _ hacc).trans (congrArg _ ?_)
    change (wrLtxDrvCmd g (drvGoValue rd l reg v) s).1 = _
    have hrd' : decide (rd.toNat = 1) = rd := by cases rd <;> rfl
    have hstate : (plainWrite .LTX_DRV_CMD g (drvGoValue rd l reg v) s).ltxState (2 * g + l) = s.ltxState (2 * g + l) := hpw.fld_eq (by simp)
    rw [wrLtxDrvCmd, hgo, if_neg (by rw [hhead]; exact fun h => Bool.false_ne_true h.2), if_neg Nat.one_ne_zero, hlane, hhi, hreg, hrd, hdata, hrd',
      hpw.flag_eq (f := LTX_DRV_CFG.PTR16) (i := g.val) (by simp)]
    dsimp only
    rw [pointer_eq, ← hptr, hstate]
    rfl
  obtain ⟨hflag, hsw, hframe⟩ := portGo_waits (g := g) (x := ⟨rd, l, ptr, v.toNat⟩)
    (owned := s.drvOwns (2 * g + l) ptr && decide (s.ltxState (2 * g + l) ≠ Ltx.DISABLED)) hhead' ((hpw.flag_eq (by simp)).trans hbusy) (by
      rcases hown with h | h | h
      · exact .inr h
      · exact .inl (by rw [h]; rfl)
      · exact .inl (by rw [decide_eq_false (not_not.2 h), Bool.and_false]))
  exact ⟨_, hexec, hflag, hsw, ((hpw.mono (by simp)).thenIn hframe fun r i h => List.mem_cons_of_mem _ h).keeps⟩

theorem drvTransaction_done (ack : Bool) (rdata : Byte) {w : SwTx} (hrun : (s.grpOf g).drv.swRunning = true) (hsw : (s.grpOf g).drv.sw = some w) :
    Completes (.drvTransactionDone g ack rdata) s fun t => t.flag LTX_DRV_STATUS.BUSY g = false ∧
      t.fld LTX_DRV_STATUS.RESULT g = (if ack then PortResult.OK else PortResult.NACK) ∧
      t.fld LTX_DRV_STATUS.RDATA g = (if w.rd = true ∧ ack = true then rdata.toNat else s.fld LTX_DRV_STATUS.RDATA g) ∧
      (t.grpOf g).drv.sw = none ∧ Keeps [(.LTX_DRV_STATUS, g), (.LTX_DRV_CFG, g)] s t := by
  have hexec : exec (.drvTransactionDone g ack rdata) s = .next (s.portSwEnd g .driver (if ack then PortResult.OK else PortResult.NACK) rdata) :=
    congrArg _ (if_pos hrun)
  refine ⟨_, hexec, ?_⟩
  unfold State.portSwEnd
  rw [show (s.port g .driver).sw = some w from hsw]
  dsimp only [portBusy, portResult, portRdata]
  have hnext (v : State) : Frame (fun r i => (r, i) ∈ [(Reg.LTX_DRV_CFG, g.val)]) v (v.portNext g .driver) :=
    (Frame.refl v).portNext (by simp [portCfgReg])
  rw [(hnext _).flag_eq (by simp), (hnext _).fld_eq (by simp), (hnext _).fld_eq (by simp), (State.portNext_driver _).1, State.port_modPort_driver]
  have hset : Frame (fun r i => (r, i) ∈ [(Reg.LTX_DRV_STATUS, g.val), (.LTX_DRV_CFG, g.val)]) s
      (((s.portSpoke g .driver).setFlag LTX_DRV_STATUS.BUSY g false).setFld LTX_DRV_STATUS.RESULT g (if ack then PortResult.OK else PortResult.NACK)) :=
    ((Frame.refl s).portSpoke.setFlag).setFld
  have hspoke : (s.portSpoke g .driver).fld LTX_DRV_STATUS.RDATA g = s.fld LTX_DRV_STATUS.RDATA g := rfl
  have hfld (v : State) (f : PortX → PortX) (q : Field) : (v.modPort g .driver f).fld q g = v.fld q g := rfl
  have hflag (v : State) (f : PortX → PortX) (q : Field) : (v.modPort g .driver f).flag q g = v.flag q g := rfl
  rw [hflag, hfld, hfld]
  by_cases hread : w.rd = true ∧ ack = true
  · obtain ⟨hrd, rfl⟩ := hread
    rw [hrd, if_pos (show (true && decide ((if true = true then PortResult.OK else PortResult.NACK) = PortResult.OK)) = true from rfl),
      if_pos (show true = true ∧ true = true from ⟨rfl, rfl⟩)]
    refine ⟨?_, ?_, ?_, rfl, ((hset.setFld).modPort.portNext (by simp [portCfgReg])).keeps⟩
    · simp (disch := decide) only [State.flag_setFld_of_apart, State.flag_setFlag_eq]
    · simp (disch := decide) only [State.fld_setFld_of_apart, State.fld_setFld_eq]
      rfl
    · exact (State.fld_setFld_eq _ _ _ (by decide)).trans (Nat.mod_eq_of_lt rdata.isLt)
  · have hskip : ¬(w.rd && decide ((if ack then PortResult.OK else PortResult.NACK) = PortResult.OK)) = true := by
      intro h
      rw [Bool.and_eq_true, decide_eq_true_eq] at h
      refine hread ⟨h.1, ?_⟩
      cases ack
      · exact absurd h.2 (by decide)
      · rfl
    rw [if_neg hskip, if_neg hread]
    refine ⟨?_, ?_, ?_, rfl, (hset.modPort.portNext (by simp [portCfgReg])).keeps⟩
    · simp (disch := decide) only [State.flag_setFld_of_apart, State.flag_setFlag_eq]
    · rw [State.fld_setFld_eq _ _ _ (by decide)]
      cases ack <;> rfl
    · simp (disch := decide) only [State.fld_setFld_of_apart, State.fld_setFlag_of_apart, hspoke]

/-! ### The writes of an ENABLE sequence -/

/-- The last write of an ENABLE sequence stands alone at the port. -/
structure LastWrite (s : State) (g : Grp) (w : HwTx) (n : Nat) : Prop where
  alone : (s.grpOf g).drv.hw = [w]
  idle : (s.grpOf g).drv.swRunning = false
  seq : w.seq = DrvSeq.ENABLE
  lane : 2 * g.val + w.lane = n
  enabled : s.ltxState n ≠ Ltx.DISABLED
  goesOn : (s.ltxOf n).abandon = false

variable {w : HwTx} {n : Nat}

theorem LastWrite.exec (h : LastWrite s g w n) (ack : Bool) (rdata : Byte) : exec (.driverSequenceWriteDone g ack rdata) s =
    .next (s.drvHwDone g (ack && decide (rdata.toNat = w.value))) := by
  change execDriverSequenceWriteDone g ack rdata s = _
  rw [execDriverSequenceWriteDone, h.alone]
  exact congrArg _ (if_neg (by rw [h.idle]; exact Bool.false_ne_true))

/-- The port after the write has ended, with no write left. -/
def wroteLast (s : State) (g : Nat) : State := (s.portSpoke g .driver).modPort g .driver fun x => { x with hw := [] }

theorem LastWrite.drvHwDone_retry (h : LastWrite s g w n) (hfirst : w.attempt = 0) : s.drvHwDone g false =
    (s.portSpoke g .driver).modPort g .driver fun x => { x with hw := [{ w with attempt := 1 }] } := by
  have hltx : ((s.portSpoke g .driver).ltxOf n).abandon = false := h.goesOn
  have hstate : (s.portSpoke g .driver).ltxState n ≠ Ltx.DISABLED := h.enabled
  rw [State.drvHwDone, h.alone]
  dsimp only
  rw [h.lane, hltx, if_neg Bool.false_ne_true, hfirst, decide_eq_true rfl, decide_eq_true hstate]
  rfl

theorem LastWrite.drvHwDone_ends (h : LastWrite s g w n) {ok : Bool} (hend : ok = true ∨ w.attempt ≠ 0) : s.drvHwDone g ok =
    ((wroteLast s g).seqDone n DrvSeq.ENABLE ok).portNext g .driver := by
  have hltx : ((s.portSpoke g .driver).ltxOf n).abandon = false := h.goesOn
  have hgo : ¬(!ok && decide (w.attempt = 0) && decide ((s.portSpoke g .driver).ltxState n ≠ Ltx.DISABLED)) = true := by
    rcases hend with rfl | hne
    · exact Bool.false_ne_true
    · rw [decide_eq_false hne, Bool.and_false]
      exact Bool.false_ne_true
  rw [State.drvHwDone, h.alone]
  dsimp only
  rw [h.lane, hltx, if_neg Bool.false_ne_true, if_neg hgo, Bool.and_false, if_neg Bool.false_ne_true, h.seq]
  rfl

theorem LastWrite.done (h : LastWrite s g w n) {rdata : Byte} (hread : rdata.toNat = w.value) :
    Completes (.driverSequenceWriteDone g true rdata) s fun t =>
      (t.ltxOf n).enabling = false ∧ (t.grpOf g).drv.hw = [] ∧ Keeps [(.LTX_DRV_CFG, g)] s t := by
  have hexec := h.exec true rdata
  rw [hread, decide_eq_true rfl, Bool.and_true, h.drvHwDone_ends (.inl rfl)] at hexec
  have hstate : (wroteLast s g).ltxState n ≠ Ltx.DISABLED := h.enabled
  have hdone : (wroteLast s g).seqDone n DrvSeq.ENABLE true = (wroteLast s g).modLtx n fun x => { x with enabling := false } := by
    rw [State.seqDone, if_neg hstate, if_pos rfl]
    rfl
  rw [hdone] at hexec
  refine ⟨_, hexec, ?_, ?_, ?_⟩
  · have hltx : ∀ v : State, (v.portNext g .driver).ltx = v.ltx := fun v =>
      ((Evolves.refl (K := .of [.LRX_TIA_CFG, .LTX_DRV_CFG] [.grp]) v).portNext).part .ltx
    rw [State.ltxOf, hltx, ← State.ltxOf, State.ltxOf_modLtx_same]
  · rw [(State.portNext_driver _).2]
    change ((wroteLast s g).grpOf g).drv.hw = []
    rw [wroteLast, State.port_modPort_driver]
  · exact (Frame.portNext (((Frame.refl s).portSpoke.modPort).modLtx) (by simp [portCfgReg])).keeps

theorem LastWrite.retries (h : LastWrite s g w n) {rdata : Byte} (hfirst : w.attempt = 0) :
    Completes (.driverSequenceWriteDone g false rdata) s fun t => (t.grpOf g).drv.hw = [{ w with attempt := 1 }] ∧ Keeps [] s t := by
  have hexec := h.exec false rdata
  rw [Bool.false_and, h.drvHwDone_retry hfirst] at hexec
  exact ⟨_, hexec, by rw [State.port_modPort_driver], ((Frame.refl s).portSpoke.modPort).keeps⟩

theorem LastWrite.fails (h : LastWrite s g w n) {rdata : Byte} (hagain : w.attempt ≠ 0) :
    Completes (.driverSequenceWriteDone g false rdata) s fun t =>
      t.ltxState n = Ltx.DISABLED ∧ t.flag LTX_CTRL.ENABLE n = false ∧ t.fld LTX_STATUS.RESULT n = LtxResult.DRV_FAIL ∧
        Keeps ([(.LTX_DRV_CFG, g.val), (.LTX_CTRL, n), (.LTX_STATUS, n)] ++ logKeys) s t := by
  have hexec := h.exec false rdata
  rw [Bool.false_and, h.drvHwDone_ends (.inr hagain)] at hexec
  have hstate : (wroteLast s g).ltxState n ≠ Ltx.DISABLED := h.enabled
  have hdone : (wroteLast s g).seqDone n DrvSeq.ENABLE false =
      (((((((wroteLast s g).modLtx n fun x => { x with enabling := false }).setFld LTX_STATUS.RESULT n LtxResult.DRV_FAIL).setFlag
        LTX_CTRL.ENABLE n false).dropClock n).goLtx n Ltx.DISABLED).logLtx n 2) := by
    rw [State.seqDone, if_neg hstate, if_pos rfl]
    exact if_neg Bool.false_ne_true
  rw [hdone] at hexec
  have hnext (v : State) : Frame (fun r i => (r, i) ∈ [(Reg.LTX_DRV_CFG, g.val)]) v (v.portNext g .driver) :=
    (Frame.refl v).portNext (by simp [portCfgReg])
  refine ⟨_, hexec, ?_, ?_, ?_, ?_⟩
  · refine ((hnext _).fld_eq (by simp)).trans ((State.fld_log_of_apart _ _ _ _ _ _ (by decide)).trans ?_)
    exact State.ltxState_goLtx _ (by decide)
  · refine ((hnext _).flag_eq (by simp)).trans ((State.flag_log_of_apart _ _ _ _ _ _ (by decide)).trans ?_)
    refine (State.flag_eq_of_fld (State.fld_goLtx_apart _ _ (by decide) (by decide))).trans ?_
    exact (State.flag_setFld_of_apart _ _ _ _ (by decide)).trans (State.flag_setFlag_eq _ _ _ (by decide))
  · refine ((hnext _).fld_eq (by simp)).trans ((State.fld_log_of_apart _ _ _ _ _ _ (by decide)).trans ?_)
    refine (State.fld_goLtx_apart _ _ (by decide) (by decide)).trans ((State.fld_setFld_of_apart _ _ _ _ (by decide)).trans ?_)
    exact (State.fld_setFlag_of_apart _ _ _ _ (by decide)).trans (State.fld_setFld_eq _ _ _ (by decide))
  · refine (Frame.portNext (p := .driver) (Frame.logLtx (Frame.goLtx (Frame.dropClock (((Frame.modLtx ((Frame.refl s).portSpoke.modPort)).setFld
      ?_).setFlag ?_) ?_) ?_) ?_) ?_).keeps <;> simp [logKeys, portCfgReg]

/-! ### The mask monitor -/

theorem getLastD_le {l : List Nat} (h : ∀ a ∈ l, a ≤ 511) : l.getLastD 0 ≤ 511 := by
  rw [List.getLastD_eq_getLast?]
  cases hl : l.getLast? with
  | none => exact Nat.zero_le _
  | some a => exact h a (List.mem_of_getLast? hl)

theorem mask_enabled (hacc : Accepts s p .LTX_MASK_CFG g) (hoff : s.flag LTX_MASK_CFG.EN g = false) (hhyst : s.fld LTX_MASK_CFG.HYST g ≠ 0)
    (hseg : 1 ≤ s.fld LTX_MASK_CFG.NSEG g) (hseg' : s.fld LTX_MASK_CFG.NSEG g ≤ 32) (havg : 1 ≤ s.fld LTX_MASK_CFG.AVG g)
    (havg' : s.fld LTX_MASK_CFG.AVG g ≤ 64) (hhead : ((s.maskSegs g (s.fld LTX_MASK_CFG.NSEG g)).map (·.1)).head? = some 0)
    (hrise : startsRise ((s.maskSegs g (s.fld LTX_MASK_CFG.NSEG g)).map (·.1)) = true)
    (hmax : ∀ a ∈ (s.maskSegs g (s.fld LTX_MASK_CFG.NSEG g)).map (·.1), a ≤ 511) :
    Completes (.maskEnable p g) s fun t => t.flag LTX_MASK_CFG.EN g = true ∧ (t.grpOf g).maskRuns = [(0, 0), (0, 0)] ∧
      Keeps [(.LTX_MASK_CFG, g)] s t := by
  have hapart (f : Field) (hf : f.has .rw) (hreg : f.reg = .LTX_MASK_CFG) (h : f.hi < 31) :
      fieldOf (withField (s.writeBack .LTX_MASK_CFG g) LTX_MASK_CFG.EN 1) f = s.fld f g :=
    (fieldOf_withField_apart _ _ (s.writeBack_lt .LTX_MASK_CFG g (by decide)) (by decide) (by decide) (.inl h) hf.2.1).trans
      (hreg ▸ fieldOf_writeBack s g hf (.inl rfl))
  have hen : fieldOf (withField (s.writeBack .LTX_MASK_CFG g) LTX_MASK_CFG.EN 1) LTX_MASK_CFG.EN = 1 := fieldOf_withField_same _ _ (by decide) (by decide)
  have hfirst : ((s.maskSegs g (s.fld LTX_MASK_CFG.NSEG g)).map (·.1)).headD 1 = 0 := by rw [List.headD_eq_head?_getD, hhead]; rfl
  have hpw : plainWrite .LTX_MASK_CFG g (withField (s.writeBack .LTX_MASK_CFG g) LTX_MASK_CFG.EN 1) s = s.setFld LTX_MASK_CFG.EN g 1 :=
    plainWrite_writeBack_eq_setFld s (f := LTX_MASK_CFG.EN) (acc := .rw) g 1 (by decide) (.inl rfl)
  have hexec : exec (.maskEnable p g) s = .next ((s.setFld LTX_MASK_CFG.EN g 1).modGrp g fun x =>
      { x with maskRuns := [(0, 0), (0, 0)], maskSpoiled := false, maskSum := [], maskBlocks := 0 }) := by
    refine (writeCommand_accepted _ hacc).trans (congrArg _ ?_)
    rw [wrLtxMaskCfg, hapart LTX_MASK_CFG.HYST (by decide) rfl (by decide), hapart LTX_MASK_CFG.NSEG (by decide) rfl (by decide),
      hapart LTX_MASK_CFG.AVG (by decide) rfl (by decide), hen, if_neg (by omega), hoff, if_neg Bool.false_ne_true, hfirst, hrise,
      decide_eq_true (getLastD_le hmax), hpw]
    rfl
  refine ⟨_, hexec, ?_, by rw [State.grpOf_modGrp_same], ((Frame.refl s).setFld.modGrp).keeps⟩
  exact State.flag_setFlag_eq s g true (by decide)

theorem exec_maskEstimateDone {k : Fin 2} (hen : s.flag LTX_MASK_CFG.EN g = true) (hk : (s.grpOf g).maskLane = k) :
    exec (.maskEstimateDone g k) s = .next
      (if s.ltxState (2 * g + (s.grpOf g).maskLane) ≠ Ltx.ACTIVE then
        (s.count LTX_MASK_SKIPS.COUNT (2 * g + (s.grpOf g).maskLane)).maskFresh g (1 - (s.grpOf g).maskLane)
      else if (s.grpOf g).maskSpoiled then s.maskFresh g (s.grpOf g).maskLane
      else if (s.grpOf g).maskBlocks < 16 * s.fld LTX_MASK_CFG.AVG g then s
      else (s.maskJudge (2 * g + (s.grpOf g).maskLane) (maskLevels (s.grpOf g).maskSum)).maskFresh g (1 - (s.grpOf g).maskLane)) := by
  change execMaskEstimateDone g k s = _
  rw [execMaskEstimateDone]
  dsimp only
  rw [hen, decide_eq_false (not_not.2 hk), if_neg (by decide)]
  split
  · rfl
  · split
    · rfl
    · split <;> rfl

theorem maskFresh_grp (v : State) (g l : Nat) : ((v.maskFresh g l).grpOf g).maskLane = l := by rw [State.maskFresh, State.grpOf_modGrp_same]

/-- The registers of lane `n` after its estimate has been judged, before the run of passes or failures is (R145). -/
def maskShown (v : State) (n : Nat) (judged : Nat × Nat × Int) : State :=
  (((v.setFld LTX_MASK_VIOL.VIOL n judged.1).setFld LTX_MASK_WORST.BIN n judged.2.1).setFld LTX_MASK_WORST.MARGIN n
    (ofSigned 16 (clampInt (-32768) 32767 judged.2.2))).count LTX_MASK_EST.COUNT n

/-- What a run of passes or failures that reaches HYST changes (R146). -/
def maskRun (v : State) (n f p : Nat) : State :=
  if !v.flag LTX_MASK_WORST.FAIL n && decide (v.fld LTX_MASK_CFG.HYST (n / 2) ≤ f) then
    if ((v.setFlag LTX_MASK_WORST.FAIL n true).logLtx n 1).flag LTX_MASK_CFG.ACTION (n / 2) then
      ((v.setFlag LTX_MASK_WORST.FAIL n true).logLtx n 1).alert Alert.SPECTRUM
    else (v.setFlag LTX_MASK_WORST.FAIL n true).logLtx n 1
  else if v.flag LTX_MASK_WORST.FAIL n && decide (v.fld LTX_MASK_CFG.HYST (n / 2) ≤ p) then (v.setFlag LTX_MASK_WORST.FAIL n false).logLtx n 1
  else v

theorem maskJudge_eq (v : State) (n : Nat) (levels : List Int) : ∃ f p, v.maskJudge n levels =
    maskRun ((maskShown v n (judgeMask (v.maskSegs (n / 2) (v.fld LTX_MASK_CFG.NSEG (n / 2))) levels)).modGrp (n / 2) fun x =>
      { x with maskRuns := x.maskRuns.set (n % 2) (f, p) }) n f p := ⟨_, _, rfl⟩

theorem fld_maskRun {q : Field} {v : State} {n f p i : Nat} (hf : LTX_MASK_WORST.FAIL.apart q = true) (he : EVL_DROPPED.COUNT.apart q = true)
    (hS : q.reg ≠ .MGT_ALERT_STATUS) (hG : q.reg ≠ .GLB_STATE) : (maskRun v n f p).fld q i = v.fld q i := by
  have hlog (b : Bool) : ((v.setFlag LTX_MASK_WORST.FAIL n b).logLtx n 1).fld q i = v.fld q i :=
    (State.fld_log_of_apart _ _ _ _ _ _ he).trans (State.fld_setFlag_of_apart _ _ _ _ hf)
  unfold maskRun
  split
  · split
    · exact (State.fld_alert_other _ _ _ hS hG).trans (hlog true)
    · exact hlog true
  · split
    · exact hlog false
    · rfl

theorem maskRun_frame {P : Reg → Nat → Prop} {v u : State} {n f p : Nat} (h : Frame P v u) (hw : P .LTX_MASK_WORST n) (hl : P .EVL_DROPPED 0)
    (hS : P .MGT_ALERT_STATUS 0) (hG : P .GLB_STATE 0) : Frame P v (maskRun u n f p) := by
  unfold maskRun
  exact Frame.ite (fun _ => ((h.setFlag hw).logLtx hl).when fun h => h.alert hS hG) fun _ => Frame.ite (fun _ => (h.setFlag hw).logLtx hl) fun _ => h

/-- What the judgement of an estimate shows (R145, R146). -/
theorem maskJudge_shows (v : State) (n : Nat) (levels : List Int) :
    (v.maskJudge n levels).fld LTX_MASK_EST.COUNT n = (v.fld LTX_MASK_EST.COUNT n + 1) % 2 ^ LTX_MASK_EST.COUNT.width ∧
    (v.maskJudge n levels).fld LTX_MASK_VIOL.VIOL n = (judgeMask (v.maskSegs (n / 2) (v.fld LTX_MASK_CFG.NSEG (n / 2))) levels).1 % 2 ^ 32 ∧
    (v.maskJudge n levels).fld LTX_MASK_WORST.BIN n =
      (judgeMask (v.maskSegs (n / 2) (v.fld LTX_MASK_CFG.NSEG (n / 2))) levels).2.1 % 2 ^ LTX_MASK_WORST.BIN.width ∧
    Frame (fun r i => (r, i) ∈ [(Reg.LTX_MASK_EST, n), (.LTX_MASK_VIOL, n), (.LTX_MASK_WORST, n)] ++ logKeys ++ alertKeys) v (v.maskJudge n levels) := by
  obtain ⟨f, p, h⟩ := maskJudge_eq v n levels
  have hrun {q : Field} (hf : LTX_MASK_WORST.FAIL.apart q = true) (he : EVL_DROPPED.COUNT.apart q = true) (hS : q.reg ≠ .MGT_ALERT_STATUS)
      (hG : q.reg ≠ .GLB_STATE) : (v.maskJudge n levels).fld q n =
        (maskShown v n (judgeMask (v.maskSegs (n / 2) (v.fld LTX_MASK_CFG.NSEG (n / 2))) levels)).fld q n := by
    rw [h, fld_maskRun hf he hS hG]
    rfl
  refine ⟨?_, ?_, ?_, ?_⟩
  · rw [hrun (by decide) (by decide) (by decide) (by decide), maskShown, State.fld_count_eq _ _ _ (by decide)]
    simp (disch := decide) only [State.fld_setFld_of_apart]
    rfl
  · rw [hrun (by decide) (by decide) (by decide) (by decide), maskShown, State.fld_count_of_apart _ _ _ _ (by decide)]
    simp (disch := decide) only [State.fld_setFld_of_apart, State.fld_setFld_eq]
  · rw [hrun (by decide) (by decide) (by decide) (by decide), maskShown, State.fld_count_of_apart _ _ _ _ (by decide)]
    simp (disch := decide) only [State.fld_setFld_of_apart, State.fld_setFld_eq]
    rfl
  · rw [h]
    exact maskRun_frame ((Frame.refl v).setFld.setFld.setFld.count.modGrp) (by simp) (by simp) (by simp) (by simp)

theorem mask_skipped {k : Fin 2} (hen : s.flag LTX_MASK_CFG.EN g = true) (hk : (s.grpOf g).maskLane = k)
    (hidle : s.ltxState (2 * g + (s.grpOf g).maskLane) ≠ Ltx.ACTIVE) : Completes (.maskEstimateDone g k) s fun t =>
      t.fld LTX_MASK_SKIPS.COUNT (2 * g + (s.grpOf g).maskLane) =
        (s.fld LTX_MASK_SKIPS.COUNT (2 * g + (s.grpOf g).maskLane) + 1) % 2 ^ LTX_MASK_SKIPS.COUNT.width ∧
      (t.grpOf g).maskLane = 1 - (s.grpOf g).maskLane ∧ Keeps [(.LTX_MASK_SKIPS, 2 * g + (s.grpOf g).maskLane)] s t := by
  have hexec := exec_maskEstimateDone hen hk
  rw [if_pos hidle] at hexec
  refine ⟨_, hexec, ?_, maskFresh_grp _ _ _, ((Frame.refl s).count).modGrp.keeps⟩
  exact State.fld_count_eq s (f := LTX_MASK_SKIPS.COUNT) (2 * g + (s.grpOf g).maskLane) 1 (by decide)

theorem mask_judged {k : Fin 2} (hen : s.flag LTX_MASK_CFG.EN g = true) (hk : (s.grpOf g).maskLane = k)
    (hactive : s.ltxState (2 * g + (s.grpOf g).maskLane) = Ltx.ACTIVE) (hclean : (s.grpOf g).maskSpoiled = false)
    (hblocks : 16 * s.fld LTX_MASK_CFG.AVG g ≤ (s.grpOf g).maskBlocks) {n : Nat} (hn : n = 2 * g + (s.grpOf g).maskLane)
    {judged : Nat × Nat × Int} (hj : judged = judgeMask (s.maskSegs g (s.fld LTX_MASK_CFG.NSEG g)) (maskLevels (s.grpOf g).maskSum)) :
    Completes (.maskEstimateDone g k) s fun t =>
      t.fld LTX_MASK_EST.COUNT n = (s.fld LTX_MASK_EST.COUNT n + 1) % 2 ^ LTX_MASK_EST.COUNT.width ∧
      t.fld LTX_MASK_VIOL.VIOL n = judged.1 % 2 ^ 32 ∧ t.fld LTX_MASK_WORST.BIN n = judged.2.1 % 2 ^ LTX_MASK_WORST.BIN.width ∧
      (t.grpOf g).maskLane = 1 - (s.grpOf g).maskLane ∧
      Keeps ([(.LTX_MASK_EST, n), (.LTX_MASK_VIOL, n), (.LTX_MASK_WORST, n)] ++ logKeys ++ alertKeys) s t := by
  have hexec := exec_maskEstimateDone hen hk
  rw [if_neg (not_not.2 hactive), hclean, if_neg Bool.false_ne_true, if_neg (Nat.not_lt.2 hblocks), ← hn] at hexec
  have hdiv : n / 2 = g := by
    have := k.isLt
    omega
  obtain ⟨hest, hviol, hbin, hframe⟩ := maskJudge_shows s n (maskLevels (s.grpOf g).maskSum)
  rw [hdiv, ← hj] at hviol hbin
  exact ⟨_, hexec, hest, hviol, hbin, maskFresh_grp _ _ _, hframe.modGrp.keeps⟩

end

/-- Settles O16: each clause above at the group's port and monitor. -/
theorem driverPortAndMask : Obligations.DriverPortAndMask := by
  intro s g x
  refine ⟨?_, fun ack rdata w hrun hsw => drvTransaction_done ack rdata hrun hsw, ?_, ?_, ?_⟩
  · intro p rd l reg v hacc hhead hbusy ptr hown
    exact drvGo_waits hacc hhead hbusy rfl hown
  · intro l w hw hidle hlane hseq n hstate habandon
    have hlast : LastWrite s g w n := ⟨hw, hidle, hseq, by rw [hlane], hstate, habandon⟩
    exact ⟨fun _ hread => hlast.done hread, fun _ hfirst => hlast.retries hfirst, fun _ hagain => hlast.fails hagain⟩
  · intro p hacc hoff hhyst hseg hseg' havg havg' starts hhead hrise hmax
    exact mask_enabled hacc hoff hhyst hseg hseg' havg havg' hhead hrise hmax
  · intro k hen hk n
    exact ⟨fun hidle => mask_skipped hen hk hidle, fun hactive hclean hblocks => mask_judged hen hk hactive hclean hblocks rfl rfl⟩

end Sys2Proof.Proofs
end

section
/-! SUPPORT. Squelch causes and transmit states of a line lane: what each operation leaves of its status register, of the pins and of
the image in force. -/
namespace Sys2Proof.Claims.Frame
open Sys2Proof Sys2Proof.Machine Sys2Proof.Claims
set_option Elab.async false
variable {P : Reg → Nat → Prop} {s u : State} {n : Nat}

/-- The end of a sequence that succeeded changes no register. -/
theorem seqDone_ok {seq : Nat} (h : Frame P s u) : Frame P s (u.seqDone n seq true) := by
  unfold State.seqDone
  dsimp only
  refine Frame.ite (fun _ => h) fun _ => Frame.ite (fun _ => ?_) fun _ => Frame.ite (fun _ => ?_) fun _ => ?_
  · rw [if_pos rfl]
    exact h.modLtx
  · rw [if_pos rfl]
    exact h
  · rw [if_pos rfl]
    exact Frame.when h.modLtx fun h => h.modLtx.modPort

theorem runSeq {seq : Nat} (h : Frame P s u) : Frame P s (u.runSeq n seq) := by
  unfold State.runSeq
  exact Frame.ite (fun _ => h.seqDone_ok) fun _ => h.modPort

theorem squelchDriver (h : Frame P s u) : Frame P s (u.squelchDriver n) := by
  unfold State.squelchDriver
  exact h.when fun h => h.modLtx.runSeq

theorem unsquelch (h : Frame P s u) : Frame P s (u.unsquelch n) := by
  unfold State.unsquelch
  exact h.when fun h => h.modLtx.runSeq

theorem squelchNow (h : Frame P s u) (hP : P .LTX_STATUS n := by simp) : Frame P s (u.squelchNow n) := by
  unfold State.squelchNow
  exact Frame.ite (fun _ => (h.goLtx hP).squelchDriver) fun _ => Frame.ite (fun _ => h.squelchDriver) fun _ =>
    Frame.ite (fun _ => h.squelchDriver) fun _ => h.showLasers

theorem setCause {bit : Nat} {on : Bool} (h : Frame P s u) (hP : P .LTX_STATUS n := by simp) : Frame P s (u.setCause n bit on) := by
  unfold State.setCause
  exact Frame.ite (fun _ => h) fun _ => Frame.ite (fun _ => ((h.setFld hP).squelchNow hP).showLasers) fun _ =>
    (h.setFld hP).showLasers.when fun h => h.unsquelch

theorem startLtx (h : Frame P s u) (hP : P .LTX_STATUS n := by simp) : Frame P s (u.startLtx n) := by
  unfold State.startLtx
  exact (h.goLtx hP).modLtx.runSeq

theorem enableLtx (h : Frame P s u) (hP : P .LTX_STATUS n := by simp) : Frame P s (u.enableLtx n) := by
  unfold State.enableLtx
  exact Frame.ite (fun _ => h) fun _ => Frame.cond (((h.setFld hP).setFld hP).modLtx) (fun h => h.startLtx hP) fun h => h.goLtx hP

theorem disableLtx (h : Frame P s u) (hP : P .LTX_STATUS n := by simp) : Frame P s (u.disableLtx n) := by
  unfold State.disableLtx
  exact ((h.modPort.modLtx).dropClock hP).goLtx hP

theorem endLtx (h : Frame P s u) (hP : P .LTX_STATUS n := by simp) : Frame P s (u.endLtx n) := by
  unfold State.endLtx
  exact Frame.ite (fun _ => h) fun _ => Frame.cond (h.setFld hP) (fun h => h.modLtx.modPort) fun h => h.disableLtx hP

end Sys2Proof.Claims.Frame

namespace Sys2Proof.Machine
open Sys2Proof Sys2Proof.Claims
set_option Elab.async false

/-- A number without bit `b`. -/
def clearBit (c b : Nat) : Nat := if c.testBit b then c - 2 ^ b else c

theorem testBit_sub_two_pow {c b : Nat} (h : c.testBit b = true) (k : Nat) : (c - 2 ^ b).testBit k = (c.testBit k && decide (k ≠ b)) := by
  induction b generalizing c k with
  | zero =>
    rw [Nat.testBit_zero, decide_eq_true_eq] at h
    cases k with
    | zero =>
      rw [Nat.testBit_zero, show (c - 2 ^ 0) % 2 = 0 by omega]
      simp
    | succ k =>
      rw [Nat.testBit_succ, Nat.testBit_succ, show (c - 2 ^ 0) / 2 = c / 2 by omega]
      simp
  | succ b ih =>
    rw [Nat.testBit_succ] at h
    have hle : 2 ^ b ≤ c / 2 := Nat.ge_two_pow_of_testBit h
    have hpow : 2 ^ (b + 1) = 2 * 2 ^ b := by rw [Nat.pow_succ, Nat.mul_comm]
    cases k with
    | zero => rw [Nat.testBit_zero, Nat.testBit_zero, show (c - 2 ^ (b + 1)) % 2 = c % 2 by omega]; simp
    | succ k =>
      rw [Nat.testBit_succ, Nat.testBit_succ, show (c - 2 ^ (b + 1)) / 2 = c / 2 - 2 ^ b by omega, ih h]
      simp

theorem testBit_clearBit (c b k : Nat) : (clearBit c b).testBit k = (c.testBit k && decide (k ≠ b)) := by
  unfold clearBit
  split
  next h => exact testBit_sub_two_pow h k
  next h =>
    by_cases hk : k = b
    · simp [hk, h]
    · simp [hk]

section
variable (s : State) {n : Nat}

theorem State.ltxState_congr {t : State} (h : t.reg .LTX_STATUS n = s.reg .LTX_STATUS n) : t.ltxState n = s.ltxState n := State.fld_congr h
theorem State.sqCause_congr {t : State} (h : t.reg .LTX_STATUS n = s.reg .LTX_STATUS n) : t.sqCause n = s.sqCause n := State.fld_congr h

theorem State.sqCause_lt : s.sqCause n < 2 ^ 7 := s.fld_lt LTX_STATUS.SQ_CAUSE n

theorem State.fld_squelchDriver (f : Field) (i : Nat) : (s.squelchDriver n).fld f i = s.fld f i :=
  State.fld_congr (((Frame.refl s).squelchDriver (P := fun _ _ => False)).reg_eq not_false)

theorem State.fld_unsquelch (f : Field) (i : Nat) : (s.unsquelch n).fld f i = s.fld f i :=
  State.fld_congr (((Frame.refl s).unsquelch (P := fun _ _ => False)).reg_eq not_false)

theorem State.fld_runSeq (seq : Nat) (f : Field) (i : Nat) : (s.runSeq n seq).fld f i = s.fld f i :=
  State.fld_congr (((Frame.refl s).runSeq (P := fun _ _ => False)).reg_eq not_false)

/-- A lane with a cause leaves ACTIVE for SQUELCHED at once, and stays where it was from any other state (R136). -/
theorem State.ltxState_squelchNow : (s.squelchNow n).ltxState n = if s.ltxState n = Ltx.ACTIVE then Ltx.SQUELCHED else s.ltxState n := by
  unfold State.squelchNow
  dsimp only
  split
  · exact (State.fld_squelchDriver _ _ _).trans (s.ltxState_goLtx (by decide))
  · split
    · exact s.fld_squelchDriver _ _
    · split
      · exact s.fld_squelchDriver _ _
      · exact s.fld_showLasers _ _

theorem State.sqCause_squelchNow : (s.squelchNow n).sqCause n = s.sqCause n := by
  unfold State.squelchNow
  dsimp only
  split
  · exact (State.fld_squelchDriver _ _ _).trans (s.fld_goLtx_apart _ (by decide) (by decide))
  · split
    · exact s.fld_squelchDriver _ _
    · split
      · exact s.fld_squelchDriver _ _
      · exact s.fld_showLasers _ _

theorem State.sqCause_setFld {c : Nat} (hc : c < 2 ^ 7) : (s.setFld LTX_STATUS.SQ_CAUSE n c).sqCause n = c :=
  (State.fld_setFld_eq _ _ _ (by decide)).trans (Nat.mod_eq_of_lt hc)

theorem State.ltxState_setFld_cause (c : Nat) : (s.setFld LTX_STATUS.SQ_CAUSE n c).ltxState n = s.ltxState n :=
  State.fld_setFld_of_apart _ _ _ _ (by decide)

/-- A cause that sets (R135, R136). -/
theorem State.sqCause_setCause_true {bit : Nat} (hb : bit < 7) : (s.setCause n bit true).sqCause n = s.sqCause n ||| 2 ^ bit := by
  unfold State.setCause
  dsimp only
  split
  next h =>
    refine Nat.eq_of_testBit_eq fun k => ?_
    rw [Nat.testBit_or, Nat.testBit_two_pow]
    by_cases hk : bit = k
    · rw [← hk, h, Bool.true_or]
    · rw [decide_eq_false hk, Bool.or_false]
  next =>
    rw [if_pos rfl]
    exact (State.fld_showLasers _ _ _).trans ((State.sqCause_squelchNow _).trans (s.sqCause_setFld
      (Nat.or_lt_two_pow s.sqCause_lt (Nat.pow_lt_pow_right (by decide) hb))))

theorem State.ltxState_setCause_true {bit : Nat} (h : (s.sqCause n).testBit bit = false) :
    (s.setCause n bit true).ltxState n = if s.ltxState n = Ltx.ACTIVE then Ltx.SQUELCHED else s.ltxState n := by
  unfold State.setCause
  dsimp only
  rw [if_neg (by rw [h]; exact Bool.false_ne_true), if_pos rfl]
  refine (State.fld_showLasers _ _ _).trans ((State.ltxState_squelchNow _).trans ?_)
  rw [State.ltxState_setFld_cause]

/-- A cause that clears (R135, R136). -/
theorem State.sqCause_setCause_false {bit : Nat} : (s.setCause n bit false).sqCause n = clearBit (s.sqCause n) bit := by
  unfold State.setCause clearBit
  dsimp only
  split
  next h => rw [if_neg (by rw [h]; exact Bool.false_ne_true)]
  next h =>
    rw [if_neg Bool.false_ne_true, if_pos (Bool.eq_true_of_not_eq_false h)]
    have hset : ((s.setFld LTX_STATUS.SQ_CAUSE n (s.sqCause n - 2 ^ bit)).showLasers).sqCause n = s.sqCause n - 2 ^ bit :=
      (State.fld_showLasers _ _ _).trans (s.sqCause_setFld (Nat.lt_of_le_of_lt (Nat.sub_le _ _) s.sqCause_lt))
    split
    · exact (State.fld_unsquelch _ _ _).trans hset
    · exact hset

/-- The status of a lane as an enable leaves it before it starts or waits: cause DRIVER cleared, RESULT OK (R133). -/
def State.ltxEnabling (s : State) (n : Nat) : State :=
  (s.setFld LTX_STATUS.SQ_CAUSE n (clearBit (s.sqCause n) Squelch.DRIVER)).setFld LTX_STATUS.RESULT n LtxResult.OK

/-- An enable of a DISABLED lane, its own frames forgotten. -/
def State.ltxForgets (s : State) (n : Nat) : State := s.modLtx n fun x =>
  { x with mfCount := 0, counting := false, relaying := false, relayIn := false, streamAt := none, sentAt := none, rate := 0 }

theorem State.enableLtx_eq (n : Nat) : s.enableLtx n = if s.ltxState n ≠ Ltx.DISABLED ∨ !s.configured (n / 2) then s
    else if ((s.ltxEnabling n).ltxForgets n).lineClocks n then ((s.ltxEnabling n).ltxForgets n).startLtx n
      else ((s.ltxEnabling n).ltxForgets n).goLtx n Ltx.PENDING := rfl

theorem State.fld_ltxForgets (g : Field) (i : Nat) : (s.ltxForgets n).fld g i = s.fld g i := rfl

/-- What a lane that starts shows: state STARTING, PENDING clear. -/
theorem State.fld_startLtx_apart {f : Field} (i : Nat) (hs : LTX_STATUS.STATE.apart f = true) (hp : LTX_STATUS.PENDING.apart f = true) :
    (s.startLtx n).fld f i = s.fld f i := by
  rw [State.startLtx, State.fld_runSeq, State.fld_modLtx, s.fld_goLtx_apart _ hs hp]

theorem State.ltxState_startLtx : (s.startLtx n).ltxState n = Ltx.STARTING := by
  rw [State.startLtx, State.ltxState, State.fld_runSeq, State.fld_modLtx]
  exact s.ltxState_goLtx (by decide)

theorem State.lineClocks_ltxEnabling : ((s.ltxEnabling n).ltxForgets n).lineClocks n = s.lineClocks n := by
  have hframe : Frame (fun r _ => r = .LTX_STATUS) s ((s.ltxEnabling n).ltxForgets n) := (((Frame.refl s).setFld rfl).setFld rfl).modLtx
  rw [State.lineClocks, State.lineClocks, State.clocksPresent, State.clocksPresent, State.lineSynthLocked, State.lineSynthLocked,
    hframe.fld_eq (by decide), hframe.flag_eq (by decide), hframe.flag_eq (by decide)]

/-- What enabling a DISABLED lane of a configured group leaves (R133). -/
theorem State.enableLtx_shows (hoff : s.ltxState n = Ltx.DISABLED) (hcfg : s.configured (n / 2) = true) :
    (s.enableLtx n).ltxState n = (if s.lineClocks n = true then Ltx.STARTING else Ltx.PENDING) ∧
      (s.enableLtx n).fld LTX_STATUS.RESULT n = LtxResult.OK := by
  have hresult : ((s.ltxEnabling n).ltxForgets n).fld LTX_STATUS.RESULT n = LtxResult.OK :=
    (State.fld_ltxForgets _ _ _).trans (State.fld_setFld_eq _ _ _ (by decide))
  rw [State.enableLtx_eq, if_neg (by simp [hoff, hcfg]), State.lineClocks_ltxEnabling]
  split
  · exact ⟨State.ltxState_startLtx _, (State.fld_startLtx_apart _ _ (by decide) (by decide)).trans hresult⟩
  · exact ⟨State.ltxState_goLtx _ (by decide), (State.fld_goLtx_apart _ _ (by decide) (by decide)).trans hresult⟩

/-- An enable that does not apply changes nothing. -/
theorem State.enableLtx_of_on (hon : s.ltxState n ≠ Ltx.DISABLED) : s.enableLtx n = s := if_pos (.inl hon)

/-- A field that neither state nor PENDING shares: as the lane stood, or as it is once enabling. -/
theorem State.fld_enableLtx {f : Field} (i : Nat) (hs : LTX_STATUS.STATE.apart f = true) (hp : LTX_STATUS.PENDING.apart f = true) :
    (s.enableLtx n).fld f i = s.fld f i ∨ (s.enableLtx n).fld f i = (s.ltxEnabling n).fld f i := by
  rw [State.enableLtx_eq]
  split
  · exact .inl rfl
  · refine .inr ?_
    split
    · exact (State.fld_startLtx_apart _ _ hs hp).trans (State.fld_ltxForgets _ _ _)
    · exact (State.fld_goLtx_apart _ _ hs hp).trans (State.fld_ltxForgets _ _ _)

theorem clearBit_le (c b : Nat) : clearBit c b ≤ c := by
  unfold clearBit
  split
  · exact Nat.sub_le _ _
  · exact Nat.le_refl _

/-- Enabling a lane clears cause DRIVER alone (R133). -/
theorem State.sqCause_enableLtx : (s.enableLtx n).sqCause n = s.sqCause n ∨ (s.enableLtx n).sqCause n = clearBit (s.sqCause n) Squelch.DRIVER :=
  (s.fld_enableLtx n (by decide) (by decide)).imp_right fun h => h.trans ((State.fld_setFld_of_apart _ _ _ _ (by decide)).trans
    (s.sqCause_setFld (Nat.lt_of_le_of_lt (clearBit_le _ _) s.sqCause_lt)))

/-- Enabling a lane leaves a swap that is due (R130). -/
theorem State.swapBusy_enableLtx : (s.enableLtx n).flag LTX_STATUS.SWAP_BUSY n = s.flag LTX_STATUS.SWAP_BUSY n :=
  State.flag_eq_of_fld ((s.fld_enableLtx n (by decide) (by decide)).elim id fun h => h.trans
    ((State.fld_setFld_of_apart _ _ _ _ (by decide)).trans (State.fld_setFld_of_apart _ _ _ _ (by decide))))

theorem State.testBit_enableLtx_of_false {k : Nat} (h : (s.sqCause n).testBit k = false) : ((s.enableLtx n).sqCause n).testBit k = false := by
  rcases s.sqCause_enableLtx (n := n) with hc | hc
  · rw [hc, h]
  · rw [hc, testBit_clearBit, h, Bool.false_and]

theorem State.testBit_enableLtx_of_ne {k : Nat} (hk : k ≠ Squelch.DRIVER) : ((s.enableLtx n).sqCause n).testBit k = (s.sqCause n).testBit k := by
  rcases s.sqCause_enableLtx (n := n) with hc | hc
  · rw [hc]
  · rw [hc, testBit_clearBit, decide_eq_true hk, Bool.and_true]

/-- A lane that is disabled shows it, and drops cause CLOCK (Table 5-5). -/
theorem State.disableLtx_shows : (s.disableLtx n).ltxState n = Ltx.DISABLED ∧ ((s.disableLtx n).sqCause n).testBit Squelch.CLOCK = false := by
  unfold State.disableLtx
  refine ⟨State.ltxState_goLtx _ (by decide), ?_⟩
  rw [State.sqCause, State.fld_goLtx_apart _ _ (by decide) (by decide)]
  rw [State.dropClock, ← State.sqCause]
  change ((State.setFld _ _ n (clearBit (State.sqCause _ n) Squelch.CLOCK)).sqCause n).testBit Squelch.CLOCK = false
  rw [State.sqCause_setFld _ (Nat.lt_of_le_of_lt (clearBit_le _ _) (State.sqCause_lt _)), testBit_clearBit]
  simp

end

/-! ### Pins that are not lasers -/

/-- The image stands, the CMIS bits, and every pin that enables no laser. -/
structure LasersOnly (s t : State) : Prop where
  cfg : t.cfg = s.cfg
  cmis : t.pins.cmisTx = s.pins.cmisTx
  pin : ∀ p, s.pinRole p ≠ 3 → t.pin p = s.pin p

section
variable {s t u : State} {n : Nat}

theorem State.pinRole_congr (h : t.cfg = s.cfg) (p : Nat) : t.pinRole p = s.pinRole p := by
  rw [State.pinRole, State.pinRole, State.section_, State.section_, h]

theorem State.pinLaneList_congr (h : t.cfg = s.cfg) (p : Nat) : t.pinLaneList p = s.pinLaneList p := by
  rw [State.pinLaneList, State.pinLaneList, State.pinLanes, State.pinLanes, State.section_, State.section_, h]

theorem State.pin_setPin_other (s : State) {p q : Nat} (b : Bool) (h : q ≠ p) : (s.setPin p b).pin q = s.pin q := by
  by_cases hq : q < 16
  · cases b <;> simp [State.pin, State.setPin, hq, h]
  · rw [State.pin, State.pin, BitVec.getLsbD_of_ge _ _ (Nat.le_of_not_lt hq), BitVec.getLsbD_of_ge _ _ (Nat.le_of_not_lt hq)]

namespace LasersOnly

theorem refl (s : State) : LasersOnly s s := ⟨rfl, rfl, fun _ _ => rfl⟩

theorem trans (h : LasersOnly s u) (h' : LasersOnly u t) : LasersOnly s t :=
  ⟨h'.cfg.trans h.cfg, h'.cmis.trans h.cmis, fun p hp => (h'.pin p (by rwa [State.pinRole_congr h.cfg])).trans (h.pin p hp)⟩

theorem same (h : LasersOnly s u) (hc : t.cfg = u.cfg := by rfl) (hp : t.pins = u.pins := by rfl) : LasersOnly s t :=
  h.trans ⟨hc, by rw [hp], fun p _ => by rw [State.pin, State.pin, hp]⟩

theorem ite {c : Prop} {_ : Decidable c} {a b : State} (ha : LasersOnly s a) (hb : LasersOnly s b) : LasersOnly s (if c then a else b) := by
  split <;> assumption

theorem showLasers (h : LasersOnly s u) : LasersOnly s u.showLasers := by
  have hturn (v : State) (p : Nat) (b : Bool) (hrole : v.pinRole p = 3) : LasersOnly v (v.setPin p b) :=
    ⟨rfl, rfl, fun q hq => v.pin_setPin_other b fun e => hq (e ▸ hrole)⟩
  refine h.trans ?_
  unfold State.showLasers
  generalize lanes16 = ps
  have hloop : ∀ v : State, LasersOnly u v → LasersOnly u (v.each ps fun p s => if s.pinRole p = 3 then
      s.setPin p ((s.pinLaneList p).all fun n => decide (s.ltxState n ≠ Ltx.DISABLED) && !darkCause (s.sqCause n)) else s) := by
    induction ps with
    | nil => exact fun v hv => hv
    | cons p ps ih =>
      intro v hv
      refine ih _ ?_
      dsimp only
      split
      next hrole => exact hv.trans (hturn v p _ hrole)
      next => exact hv
  exact hloop u (.refl u)

theorem when {c : Prop} {_ : Decidable c} {a : State} (h : LasersOnly s u) (ha : LasersOnly s u → LasersOnly s a) :
    LasersOnly s (if c then a else u) := ite (ha h) h

theorem setFld {f : Field} {i x : Nat} (h : LasersOnly s u) : LasersOnly s (u.setFld f i x) := h.same

theorem modLtx {f : LtxX → LtxX} (h : LasersOnly s u) : LasersOnly s (u.modLtx n f) := h.same

theorem modPort {g : Nat} {p : GroupPort} {f : PortX → PortX} (h : LasersOnly s u) : LasersOnly s (u.modPort g p f) := h.same

theorem goLtx {st : Nat} (h : LasersOnly s u) : LasersOnly s (u.goLtx n st) := by
  unfold State.goLtx
  have hset : LasersOnly s ((u.setFld LTX_STATUS.STATE n st).setFlag LTX_STATUS.PENDING n (decide (st = Ltx.PENDING))) := h.setFld.setFld
  exact ((hset.when fun h => h.modLtx).when fun h => h.modLtx).showLasers

theorem seqDone_ok {seq : Nat} (h : LasersOnly s u) : LasersOnly s (u.seqDone n seq true) := by
  unfold State.seqDone
  dsimp only
  rw [if_pos rfl, if_pos rfl, if_pos rfl]
  exact ite h (ite h.modLtx (ite h (h.modLtx.when fun h => h.modLtx.modPort)))

theorem runSeq {seq : Nat} (h : LasersOnly s u) : LasersOnly s (u.runSeq n seq) := ite h.seqDone_ok h.modPort

theorem squelchDriver (h : LasersOnly s u) : LasersOnly s (u.squelchDriver n) := h.when fun h => h.modLtx.runSeq

theorem unsquelch (h : LasersOnly s u) : LasersOnly s (u.unsquelch n) := h.when fun h => h.modLtx.runSeq

theorem squelchNow (h : LasersOnly s u) : LasersOnly s (u.squelchNow n) :=
  ite h.goLtx.squelchDriver (ite h.squelchDriver (ite h.squelchDriver h.showLasers))

theorem setCause {bit : Nat} {on : Bool} (h : LasersOnly s u) : LasersOnly s (u.setCause n bit on) :=
  ite h (ite h.setFld.squelchNow.showLasers (h.setFld.showLasers.when fun h => h.unsquelch))

end LasersOnly

/-! ### Loops -/

/-- What is seen at an index after a loop, where every turn keeps a relation to the start. -/
theorem State.each_turn_keeping {α : Type} {obs : State → Nat → α} {f : Nat → State → State} {R : State → State → Prop}
    (hf : ∀ i j s, j ≠ i → obs (f i s) j = obs s j) (hrefl : ∀ s, R s s) (htrans : ∀ {s t u}, R s t → R t u → R s u) (hR : ∀ i s, R s (f i s))
    {is : List Nat} (hn : is.Nodup) {k : Nat} (hk : k ∈ is) (s : State) :
    ∃ u, R s u ∧ obs u k = obs s k ∧ obs (s.each is f) k = obs (f k u) k := by
  induction is generalizing s with
  | nil => cases hk
  | cons i is ih =>
    rw [List.nodup_cons] at hn
    by_cases hki : k = i
    · subst hki
      exact ⟨s, hrefl s, rfl, State.each_apart hf hn.1 (f k s)⟩
    · obtain ⟨u, hru, hu, ht⟩ := ih hn.2 ((List.mem_cons.1 hk).resolve_left hki) (f i s)
      exact ⟨u, htrans (hR i s) hru, hu.trans (hf i k s hki), ht⟩

end
end Sys2Proof.Machine
end

section
/-! PROOFS. O14: enable, disable, swap and squelch of a line transmitter (chapter 5). -/
namespace Sys2Proof.Proofs
open Sys2Proof Sys2Proof.Machine Sys2Proof.Claims
set_option Elab.async false

section
variable {s t u : State} {p : Path} {n : Lane}

/-- The registers that a transmitter's commands may change. -/
abbrev LtxLane (n : Nat) : Reg → Nat → Prop := fun r i => (r, i) ∈ [(Reg.LTX_CTRL, n), (.LTX_STATUS, n)]

/-- The lane's status register alone. -/
abbrev LtxStatus (n : Nat) : Reg → Nat → Prop := fun r i => r = .LTX_STATUS ∧ i = n

/-- Cause `bit` is present, and a lane that was ACTIVE without it is SQUELCHED. -/
def CauseSets (bit n : Nat) (s t : State) : Prop :=
  (t.sqCause n).testBit bit = true ∧ (s.ltxState n = Ltx.ACTIVE → (s.sqCause n).testBit bit = false → t.ltxState n = Ltx.SQUELCHED)

theorem setCause_sets (s : State) (n : Nat) {bit : Nat} (hb : bit < 7) : CauseSets bit n s (s.setCause n bit true) := by
  refine ⟨?_, fun hactive hclear => ?_⟩
  · rw [State.sqCause_setCause_true _ hb, Nat.testBit_or, Nat.testBit_two_pow_self, Bool.or_true]
  · rw [State.ltxState_setCause_true _ hclear, if_pos hactive]

theorem setCause_clears (s : State) (n bit : Nat) : ((s.setCause n bit false).sqCause n).testBit bit = false := by
  rw [State.sqCause_setCause_false, testBit_clearBit]
  simp

/-! ### The control register -/

/-- What a write does by its SQUELCH bit, and by its ENABLE bit. -/
def ctrlSquelch (n : Nat) (was now : Bool) (u : State) : State :=
  if now = was then u else if now then u.setCause n Squelch.SW true else (u.setCause n Squelch.SW false).setCause n Squelch.DRIVER false
def ctrlEnable (n : Nat) (was now : Bool) (u : State) : State := if now then u.enableLtx n else if was then u.endLtx n else u

theorem ctrlSquelch_frame {P : Reg → Nat → Prop} {was now : Bool} {n : Nat} (h : Frame P s u) (hP : P .LTX_STATUS n) :
    Frame P s (ctrlSquelch n was now u) :=
  Frame.ite (fun _ => h) fun _ => Frame.ite (fun _ => h.setCause hP) fun _ => (h.setCause hP).setCause hP

theorem ctrlEnable_frame {P : Reg → Nat → Prop} {was now : Bool} {n : Nat} (h : Frame P s u) (hP : P .LTX_STATUS n) :
    Frame P s (ctrlEnable n was now u) :=
  Frame.ite (fun _ => h.enableLtx hP) fun _ => h.when fun h => h.endLtx hP

/-- An ENABLE bit that is written back as it is: only a DISABLED lane that reads ENABLE starts. -/
theorem ctrlEnable_same (n : Nat) (b : Bool) (u : State) : ctrlEnable n b b u = if b then u.enableLtx n else u := by
  unfold ctrlEnable
  cases b
  · rw [if_neg Bool.false_ne_true, if_neg Bool.false_ne_true, if_neg Bool.false_ne_true]
  · rw [if_pos rfl, if_pos rfl]

theorem decide_fld_one {f : Field} (hf : f.lo = f.hi) (s : State) (i : Nat) : decide (s.fld f i = 1) = s.flag f i := by
  have hlt := s.fld_lt f i
  rw [Field.width, hf, Nat.sub_self] at hlt
  rw [State.flag]
  interval_cases s.fld f i <;> rfl

theorem wrLtxCtrl_quiet {v : Nat} (hswap : fieldOf v LTX_CTRL.SWAP = 0) : (wrLtxCtrl p n v s).1 =
    ctrlEnable n (s.flag LTX_CTRL.ENABLE n) (decide (fieldOf v LTX_CTRL.ENABLE = 1))
      (ctrlSquelch n (s.flag LTX_CTRL.SQUELCH n) (decide (fieldOf v LTX_CTRL.SQUELCH = 1)) (plainWrite .LTX_CTRL n v s)) := by
  rw [wrLtxCtrl, hswap]
  rfl

theorem wrLtxCtrl_swap {v : Nat} (hswap : fieldOf v LTX_CTRL.SWAP = 1) (hbusy : s.flag LTX_STATUS.SWAP_BUSY n = false) : (wrLtxCtrl p n v s).1 =
    ctrlEnable n (s.flag LTX_CTRL.ENABLE n) (decide (fieldOf v LTX_CTRL.ENABLE = 1))
      (ctrlSquelch n (s.flag LTX_CTRL.SQUELCH n) (decide (fieldOf v LTX_CTRL.SQUELCH = 1))
        ((plainWrite .LTX_CTRL n v s).setFlag LTX_STATUS.SWAP_BUSY n true)) := by
  rw [wrLtxCtrl, hswap, hbusy]
  rfl

/-- What a command writes to the control register: its own field, the others as they read. -/
theorem ltxCtrlValue_own (s : State) (n x : Nat) {f : Field} (hle : f.lo ≤ f.hi) (hhi : f.hi < 512) :
    fieldOf (s.ltxCtrlValue n f x) f = x % 2 ^ f.width := fieldOf_withField_same _ _ hle hhi

theorem ltxCtrlValue_apart (s : State) (n x : Nat) {f g : Field} (hle : f.lo ≤ f.hi) (hhi : f.hi < 512) (h : g.hi < f.lo ∨ f.hi < g.lo)
    (hg : g.has .rw) (hreg : g.reg = .LTX_CTRL) : fieldOf (s.ltxCtrlValue n f x) g = s.fld g n :=
  (fieldOf_withField_apart _ _ (s.writeBack_lt .LTX_CTRL n (by decide)) hle hhi h hg.2.1).trans (hreg ▸ fieldOf_writeBack s n hg (.inl rfl))

theorem ltxCtrlValue_swap (s : State) (n x : Nat) {f : Field} (hle : f.lo ≤ f.hi) (hhi : f.hi < 512) (h : f.hi < 2) :
    fieldOf (s.ltxCtrlValue n f x) LTX_CTRL.SWAP = 0 :=
  (fieldOf_withField_apart _ _ (s.writeBack_lt .LTX_CTRL n (by decide)) hle hhi (.inr h) (by decide)).trans
    (fieldOf_writeBack_zero (g := LTX_CTRL.SWAP) (acc := .wo) s n (by decide) (by decide))

theorem ltxCtrl_write {f : Field} (hf : f.has .rw) (hreg : f.reg = .LTX_CTRL) (x : Nat) :
    plainWrite .LTX_CTRL n (s.ltxCtrlValue n f x) s = s.setFld f n x := by
  have h := plainWrite_writeBack_eq_setFld s (f := f) (acc := .rw) n x hf (.inl rfl)
  rw [hreg] at h
  exact h

theorem ctrlSquelch_same (n : Nat) (b : Bool) (u : State) : ctrlSquelch n b b u = u := if_pos rfl

/-- A status register that a control write has not reached yet. -/
theorem setCtrl_status {f : Field} (hreg : f.reg = .LTX_CTRL) (x : Nat) : (s.setFld f n x).reg .LTX_STATUS n = s.reg .LTX_STATUS n :=
  State.reg_setFld_other _ _ _ _ (by rw [hreg]; decide)

theorem enable_exec (x : Nat) : (wrLtxCtrl p n (s.ltxCtrlValue n LTX_CTRL.ENABLE x) s).1 =
    ctrlEnable n (s.flag LTX_CTRL.ENABLE n) (decide (x % 2 = 1)) (s.setFld LTX_CTRL.ENABLE n x) := by
  rw [wrLtxCtrl_quiet (ltxCtrlValue_swap s n x (by decide) (by decide) (by decide)), ltxCtrl_write (by decide) rfl,
    ltxCtrlValue_own s n x (by decide) (by decide),
    ltxCtrlValue_apart s n x (g := LTX_CTRL.SQUELCH) (by decide) (by decide) (by decide) (by decide) rfl, decide_fld_one rfl, ctrlSquelch_same]
  rfl

theorem ltx_enabled (hacc : Accepts s p .LTX_CTRL n) (hoff : s.ltxState n = Ltx.DISABLED) (hcfg : s.configured (n / 2) = true) :
    Completes (.ltxEnable p n) s fun t => t.flag LTX_CTRL.ENABLE n = true ∧
      t.ltxState n = (if s.lineClocks n = true then Ltx.STARTING else Ltx.PENDING) ∧ t.fld LTX_STATUS.RESULT n = LtxResult.OK ∧
      Keeps [(.LTX_CTRL, n), (.LTX_STATUS, n)] s t := by
  have hexec : exec (.ltxEnable p n) s = .next ((s.setFld LTX_CTRL.ENABLE n 1).enableLtx n) :=
    (writeCommand_accepted _ hacc).trans (congrArg _ (enable_exec 1))
  have hstate : (s.setFld LTX_CTRL.ENABLE n 1).ltxState n = Ltx.DISABLED := (State.ltxState_congr _ (setCtrl_status rfl 1)).trans hoff
  have hclocks : (s.setFld LTX_CTRL.ENABLE n 1).lineClocks n = s.lineClocks n := by
    have hframe : Frame (fun r _ => r = .LTX_CTRL) s (s.setFld LTX_CTRL.ENABLE n 1) := (Frame.refl s).setFld rfl
    rw [State.lineClocks, State.lineClocks, State.clocksPresent, State.clocksPresent, State.lineSynthLocked, State.lineSynthLocked,
      hframe.fld_eq (by decide), hframe.flag_eq (by decide), hframe.flag_eq (by decide)]
  obtain ⟨hst, hresult⟩ := State.enableLtx_shows (s.setFld LTX_CTRL.ENABLE n 1) hstate hcfg
  rw [hclocks] at hst
  have hframe : Frame (LtxStatus n) (s.setFld LTX_CTRL.ENABLE n 1) ((s.setFld LTX_CTRL.ENABLE n 1).enableLtx n) := (Frame.refl _).enableLtx ⟨rfl, rfl⟩
  refine ⟨_, hexec, ?_, hst, hresult, ((Frame.refl s).setFld.enableLtx (P := LtxLane n)).keeps⟩
  exact (hframe.flag_eq (fun h => absurd h.1 (by decide))).trans (State.flag_setFlag_eq s n true (by decide))

/-- A driver write of the lane is in progress while the lane waits or starts. -/
def Writing (s : State) (n : Nat) : Prop := (s.grpOf (n / 2)).drv.swRunning = false ∧ (s.ltxState n = Ltx.PENDING ∨ s.ltxState n = Ltx.STARTING) ∧
  ∃ w rest, (s.grpOf (n / 2)).drv.hw = w :: rest ∧ w.lane = n % 2

/-- The state of a lane whose disabling waits for the write in progress (Table 5-5). -/
def ltxAbandons (s : State) (n : Nat) : State := (s.modLtx n fun x => { x with abandon := true }).modPort (n / 2) .driver fun x =>
  { x with hw := x.hw.take 1 ++ (x.hw.drop 1).filter fun (t : HwTx) => decide (t.lane ≠ n % 2) }

theorem endLtx_eq (n : Nat) (hon : s.ltxState n ≠ Ltx.DISABLED) : (Writing s n → s.endLtx n = ltxAbandons (s.setFld LTX_STATUS.RESULT n LtxResult.OK) n) ∧
    (¬Writing s n → s.endLtx n = (s.setFld LTX_STATUS.RESULT n LtxResult.OK).disableLtx n) := by
  have hport : (s.setFld LTX_STATUS.RESULT n LtxResult.OK).port (n / 2) .driver = (s.grpOf (n / 2)).drv := rfl
  have hstate : (s.setFld LTX_STATUS.RESULT n LtxResult.OK).ltxState n = s.ltxState n := State.fld_setFld_of_apart _ _ _ _ (by decide)
  rw [State.endLtx, if_neg hon, Writing]
  dsimp only
  rw [hport, hstate]
  constructor
  · rintro ⟨hrun, hst, w, rest, hw, hl⟩
    rw [hrun, hw]
    simp only [hl, hst, decide_true, Bool.and_self, Bool.not_false, if_true]
    rfl
  · intro hno
    refine if_neg fun h => hno ?_
    rw [Bool.and_eq_true, Bool.not_eq_true'] at h
    obtain ⟨hrun, hmatch⟩ := h
    split at hmatch
    next w rest hw =>
      rw [Bool.and_eq_true, decide_eq_true_eq, decide_eq_true_eq] at hmatch
      exact ⟨hrun, hmatch.2, w, rest, hw, hmatch.1⟩
    next => cases hmatch

theorem disable_exec (hacc : Accepts s p .LTX_CTRL n) (hen : s.flag LTX_CTRL.ENABLE n = true) :
    exec (.ltxDisable p n) s = .next ((s.setFld LTX_CTRL.ENABLE n 0).endLtx n) := by
  refine (writeCommand_accepted _ hacc).trans (congrArg _ ((enable_exec 0).trans ?_))
  rw [hen]
  rfl

theorem disabled_flag (h : Frame (LtxStatus n) (s.setFld LTX_CTRL.ENABLE n 0) t) : t.flag LTX_CTRL.ENABLE n = false :=
  (h.flag_eq (fun h => absurd h.1 (by decide))).trans (State.flag_setFlag_eq s n false (by decide))

theorem writing_setCtrl (x : Nat) : Writing (s.setFld LTX_CTRL.ENABLE n x) n ↔ Writing s n := by
  rw [Writing, Writing, State.ltxState_congr _ (setCtrl_status rfl x)]
  rfl

theorem ltx_disabled (hacc : Accepts s p .LTX_CTRL n) (hen : s.flag LTX_CTRL.ENABLE n = true) (hon : s.ltxState n ≠ Ltx.DISABLED) :
    (¬Writing s n → Completes (.ltxDisable p n) s fun t => t.flag LTX_CTRL.ENABLE n = false ∧ t.ltxState n = Ltx.DISABLED ∧
      (t.sqCause n).testBit Squelch.CLOCK = false ∧ Keeps [(.LTX_CTRL, n), (.LTX_STATUS, n)] s t) ∧
    (Writing s n → Completes (.ltxDisable p n) s fun t => t.flag LTX_CTRL.ENABLE n = false ∧ t.ltxState n = s.ltxState n ∧
      (t.ltxOf n).abandon = true ∧ Keeps [(.LTX_CTRL, n), (.LTX_STATUS, n)] s t) := by
  have hstate : (s.setFld LTX_CTRL.ENABLE n 0).ltxState n = s.ltxState n := State.ltxState_congr _ (setCtrl_status rfl 0)
  have hexec := disable_exec hacc hen
  obtain ⟨hwrite, hend⟩ := endLtx_eq (s := s.setFld LTX_CTRL.ENABLE n 0) n (by rwa [hstate])
  have hframe : Frame (LtxStatus n) (s.setFld LTX_CTRL.ENABLE n 0) ((s.setFld LTX_CTRL.ENABLE n 0).endLtx n) := (Frame.refl _).endLtx ⟨rfl, rfl⟩
  have hkeeps : Keeps [(.LTX_CTRL, n.val), (.LTX_STATUS, n.val)] s ((s.setFld LTX_CTRL.ENABLE n 0).endLtx n) :=
    ((Frame.refl s).setFld.endLtx (P := LtxLane n)).keeps
  constructor
  · intro hno
    have heq := hend fun h => hno ((writing_setCtrl 0).1 h)
    obtain ⟨hst, hclock⟩ := State.disableLtx_shows ((s.setFld LTX_CTRL.ENABLE n 0).setFld LTX_STATUS.RESULT n LtxResult.OK) (n := n)
    exact ⟨_, hexec, disabled_flag hframe, by rw [heq]; exact hst, by rw [heq]; exact hclock, hkeeps⟩
  · intro hyes
    have heq := hwrite ((writing_setCtrl 0).2 hyes)
    refine ⟨_, hexec, disabled_flag hframe, ?_, ?_, hkeeps⟩
    · rw [heq]
      exact (State.fld_setFld_of_apart (s.setFld LTX_CTRL.ENABLE n 0) _ _ _ (by decide)).trans hstate
    · rw [heq]
      exact congrArg LtxX.abandon (State.ltxOf_modLtx_same ((s.setFld LTX_CTRL.ENABLE n 0).setFld LTX_STATUS.RESULT n LtxResult.OK) n
        fun x => { x with abandon := true })

theorem ltx_swap (hacc : Accepts s p .LTX_CTRL n) (hbusy : s.flag LTX_STATUS.SWAP_BUSY n = false) :
    Completes (.swap p n) s fun t => t.flag LTX_STATUS.SWAP_BUSY n = true ∧ Keeps [(.LTX_CTRL, n), (.LTX_STATUS, n)] s t := by
  have hexec : exec (.swap p n) s = .next (ctrlEnable n (s.flag LTX_CTRL.ENABLE n) (s.flag LTX_CTRL.ENABLE n)
      ((plainWrite .LTX_CTRL n (s.ltxCtrlValue n LTX_CTRL.SWAP 1) s).setFlag LTX_STATUS.SWAP_BUSY n true)) := by
    refine (writeCommand_accepted _ hacc).trans (congrArg _ ?_)
    rw [wrLtxCtrl_swap (ltxCtrlValue_own s n 1 (by decide) (by decide)) hbusy,
      ltxCtrlValue_apart s n 1 (g := LTX_CTRL.SQUELCH) (by decide) (by decide) (by decide) (by decide) rfl,
      ltxCtrlValue_apart s n 1 (g := LTX_CTRL.ENABLE) (by decide) (by decide) (by decide) (by decide) rfl, decide_fld_one rfl, decide_fld_one rfl,
      ctrlSquelch_same]
  refine ⟨_, hexec, ?_, (ctrlEnable_frame (P := LtxLane n) ((Frame.refl s).plainWrite.setFlag) (by simp)).keeps⟩
  rw [ctrlEnable_same]
  have hset := State.flag_setFlag_eq (plainWrite .LTX_CTRL n (s.ltxCtrlValue n LTX_CTRL.SWAP 1) s) (f := LTX_STATUS.SWAP_BUSY) n true (by decide)
  split
  · exact (State.swapBusy_enableLtx _).trans hset
  · exact hset

/-! ### Squelch -/

theorem squelch_exec (hacc : Accepts s p .LTX_CTRL n) (on : Bool) : exec (.ltxSquelch p n on) s = .next
    (ctrlEnable n (s.flag LTX_CTRL.ENABLE n) (s.flag LTX_CTRL.ENABLE n)
      (ctrlSquelch n (s.flag LTX_CTRL.SQUELCH n) on (s.setFlag LTX_CTRL.SQUELCH n on))) := by
  refine (writeCommand_accepted _ hacc).trans (congrArg _ ?_)
  rw [wrLtxCtrl_quiet (ltxCtrlValue_swap s n _ (by decide) (by decide) (by decide)), ltxCtrl_write (by decide) rfl,
    ltxCtrlValue_own s n _ (by decide) (by decide),
    ltxCtrlValue_apart s n _ (g := LTX_CTRL.ENABLE) (by decide) (by decide) (by decide) (by decide) rfl, decide_fld_one rfl]
  cases on <;> rfl

theorem squelched_frame (on : Bool) (b c : Bool) : Frame (LtxStatus n) (s.setFlag LTX_CTRL.SQUELCH n on)
    (ctrlEnable n b b (ctrlSquelch n c on (s.setFlag LTX_CTRL.SQUELCH n on))) :=
  ctrlEnable_frame (ctrlSquelch_frame (.refl _) ⟨rfl, rfl⟩) ⟨rfl, rfl⟩

theorem squelched_keeps (on : Bool) (b c : Bool) : Keeps [(.LTX_CTRL, n.val), (.LTX_STATUS, n.val)] s
    (ctrlEnable n b b (ctrlSquelch n c on (s.setFlag LTX_CTRL.SQUELCH n on))) :=
  (((Frame.refl s).setFlag (P := LtxLane n)).thenIn (squelched_frame on b c) (by rintro r i ⟨rfl, rfl⟩; simp)).keeps

/-- What an ENABLE bit that is written back as it is leaves of a cause that has set. -/
theorem CauseSets.ctrlEnable {b : Bool} {n : Nat} (h : CauseSets Squelch.SW n s u) : CauseSets Squelch.SW n s (ctrlEnable n b b u) := by
  rw [ctrlEnable_same]
  cases b
  · exact h
  · refine ⟨(State.testBit_enableLtx_of_ne u (by decide)).trans h.1, fun hactive hclear => ?_⟩
    have hsq := h.2 hactive hclear
    rw [if_pos rfl, State.enableLtx_of_on u (by rw [hsq]; decide), hsq]

theorem ltx_squelched (hacc : Accepts s p .LTX_CTRL n) : Completes (.ltxSquelch p n true) s fun t => t.flag LTX_CTRL.SQUELCH n = true ∧
    Keeps [(.LTX_CTRL, n), (.LTX_STATUS, n)] s t ∧ (s.flag LTX_CTRL.SQUELCH n = false → CauseSets Squelch.SW n s t) := by
  refine ⟨_, squelch_exec hacc true, ?_, squelched_keeps _ _ _, fun hwas => CauseSets.ctrlEnable ?_⟩
  · exact ((squelched_frame _ _ _).flag_eq (fun h => absurd h.1 (by decide))).trans (State.flag_setFlag_eq s n true (by decide))
  · have hreg : (s.setFlag LTX_CTRL.SQUELCH n true).reg .LTX_STATUS n = s.reg .LTX_STATUS n := State.reg_setFlag_other _ _ _ _ (by decide)
    rw [hwas, ctrlSquelch, if_neg (by decide), if_pos rfl]
    have hsets := setCause_sets (s.setFlag LTX_CTRL.SQUELCH n true) n (bit := Squelch.SW) (by decide)
    rw [CauseSets, State.ltxState_congr _ hreg, State.sqCause_congr _ hreg] at hsets
    exact hsets

theorem ltx_unsquelched (hacc : Accepts s p .LTX_CTRL n) : Completes (.ltxSquelch p n false) s fun t => t.flag LTX_CTRL.SQUELCH n = false ∧
    Keeps [(.LTX_CTRL, n), (.LTX_STATUS, n)] s t ∧ (s.flag LTX_CTRL.SQUELCH n = true →
      (t.sqCause n).testBit Squelch.SW = false ∧ (t.sqCause n).testBit Squelch.DRIVER = false) := by
  refine ⟨_, squelch_exec hacc false, ?_, squelched_keeps _ _ _, fun hwas => ?_⟩
  · exact ((squelched_frame _ _ _).flag_eq (fun h => absurd h.1 (by decide))).trans (State.flag_setFlag_eq s n false (by decide))
  · rw [hwas, ctrlSquelch, if_neg (by decide), if_neg Bool.false_ne_true, ctrlEnable_same]
    have hclear (v : State) (k : Nat) (h : k = Squelch.SW ∨ k = Squelch.DRIVER) :
        ((((v.setCause n Squelch.SW false).setCause n Squelch.DRIVER false)).sqCause n).testBit k = false := by
      rw [State.sqCause_setCause_false, State.sqCause_setCause_false, testBit_clearBit, testBit_clearBit]
      rcases h with rfl | rfl <;> simp
    split
    · exact ⟨State.testBit_enableLtx_of_false _ (hclear _ _ (.inl rfl)), State.testBit_enableLtx_of_false _ (hclear _ _ (.inr rfl))⟩
    · exact ⟨hclear _ _ (.inl rfl), hclear _ _ (.inr rfl)⟩

/-! ### CMIS bits and TxDisable pins -/

theorem cmisTx_set : Completes (.cmisTxDisableSet n) s fun t => CauseSets Squelch.CMIS n s t ∧ t.pins.cmisTx.getLsbD n = true ∧
    Keeps [(.LTX_CTRL, n), (.LTX_STATUS, n)] s t := by
  refine ⟨_, rfl, setCause_sets { s with pins := { s.pins with cmisTx := s.pins.cmisTx ||| BitVec.twoPow 16 n } } n (by decide), ?_,
    (((Frame.refl s).same).setCause (P := LtxLane n)).keeps⟩
  rw [((LasersOnly.refl _).setCause).cmis]
  have := n.isLt
  simp [this]

theorem cmisTx_cleared : Completes (.cmisTxDisableClear n) s fun t => (t.sqCause n).testBit Squelch.CMIS = false ∧
    t.pins.cmisTx.getLsbD n = false ∧ Keeps [(.LTX_CTRL, n), (.LTX_STATUS, n)] s t := by
  refine ⟨_, rfl, setCause_clears _ n _, ?_, (((Frame.refl s).same).setCause (P := LtxLane n)).keeps⟩
  rw [((LasersOnly.refl _).setCause).cmis]
  have := n.isLt
  simp [this]

/-- What a lane shows of its status. -/
def ltxSeen (s : State) (n : Nat) : RegVal := s.reg .LTX_STATUS n

theorem ltxSeen_setCause (bit : Nat) (on : Bool) (i j : Nat) (s : State) (h : j ≠ i) : ltxSeen (s.setCause i bit on) j = ltxSeen s j :=
  ((Frame.refl s).setCause (P := LtxStatus i) ⟨rfl, rfl⟩).reg_eq fun e => h e.2

theorem pinLaneList_nodup (s : State) (p : Nat) : (s.pinLaneList p).Nodup := List.Nodup.filter _ (by decide)

theorem txdisable_asserted {pin : Fin 16} (hrole : s.pinRole pin = 1) (hn : (s.pinLaneList pin).contains n.val = true) :
    Completes (.txdisableAssert pin) s fun t => CauseSets Squelch.TXDIS n s t ∧ KeepsKinds [.LTX_STATUS] s t := by
  have hexec : exec (.txdisableAssert pin) s =
      .next ((s.setPin pin true).each (s.pinLaneList pin) fun n s => s.setCause n Squelch.TXDIS true) := congrArg _ (if_pos hrole)
  obtain ⟨u, hu, ht⟩ := State.each_turn (obs := ltxSeen) (fun i j t h => ltxSeen_setCause _ _ i j t h) (pinLaneList_nodup s pin)
    (List.contains_iff_mem.1 hn) (s.setPin pin true)
  obtain ⟨hset, hsq⟩ := setCause_sets u n (bit := Squelch.TXDIS) (by decide)
  have hreg : u.reg .LTX_STATUS n = s.reg .LTX_STATUS n := hu
  rw [State.ltxState_congr _ hreg, State.sqCause_congr _ hreg] at hsq
  refine ⟨_, hexec, ⟨?_, fun hactive hclear => ?_⟩, ?_⟩
  · rw [State.sqCause_congr _ ht]
    exact hset
  · rw [State.ltxState_congr _ ht]
    exact hsq hactive hclear
  · exact (((Frame.refl s).same).each fun i _ h => h.setCause (P := fun r _ => r ∈ [Reg.LTX_STATUS]) (by simp)).kinds (rs := [.LTX_STATUS])

/-- An asserted TxDisable pin names lane `n`. -/
def pinHolds (s : State) (n : Nat) : Bool := lanes16.any fun q => decide (s.pinRole q = 1) && s.pin q && (s.pinLaneList q).contains n

/-- One lane's turn as a pin is released. -/
def releaseTurn (n : Nat) (s : State) : State := if pinHolds s n then s else s.setCause n Squelch.TXDIS false

theorem releaseTurn_frame {P : Reg → Nat → Prop} {i : Nat} (h : Frame P s u) (hP : P .LTX_STATUS i) : Frame P s (releaseTurn i u) :=
  Frame.ite (fun _ => h) fun _ => h.setCause hP

theorem pin_setPin_false (s : State) (p : Fin 16) : (s.setPin p false).pin p = false := by
  simp [State.pin, State.setPin]

theorem pinHolds_released {pin : Fin 16} (h : LasersOnly (s.setPin pin false) u)
    (hothers : ∀ q : Fin 16, q ≠ pin → s.pinRole q = 1 → s.pin q = true → (s.pinLaneList q).contains n.val = false) : pinHolds u n = false := by
  rw [pinHolds, List.any_eq_false]
  intro q hq
  rw [Bool.and_eq_true, Bool.and_eq_true, decide_eq_true_eq]
  rintro ⟨⟨hrole, hpin⟩, hlist⟩
  rw [State.pinRole_congr h.cfg] at hrole
  have hrole' : s.pinRole q = 1 := hrole
  rw [h.pin q (by rw [hrole]; decide)] at hpin
  rw [State.pinLaneList_congr h.cfg] at hlist
  by_cases hsame : q = pin
  · rw [hsame, pin_setPin_false] at hpin
    cases hpin
  · rw [State.pin_setPin_other _ _ hsame] at hpin
    have hno := hothers ⟨q, List.mem_range.1 hq⟩ (fun e => hsame (congrArg Fin.val e)) hrole' hpin
    exact Bool.false_ne_true (hno.symm.trans hlist)

theorem txdisable_released {pin : Fin 16} (hrole : s.pinRole pin = 1) (hn : (s.pinLaneList pin).contains n.val = true)
    (hothers : ∀ q : Fin 16, q ≠ pin → s.pinRole q = 1 → s.pin q = true → (s.pinLaneList q).contains n.val = false) :
    Completes (.txdisableDeassert pin) s fun t => (t.sqCause n).testBit Squelch.TXDIS = false ∧ KeepsKinds [.LTX_STATUS] s t := by
  have hexec : exec (.txdisableDeassert pin) s = .next ((s.setPin pin false).each (s.pinLaneList pin) releaseTurn) := congrArg _ (if_pos hrole)
  have hapart (i j : Nat) (v : State) (h : j ≠ i) : ltxSeen (releaseTurn i v) j = ltxSeen v j :=
    (releaseTurn_frame (P := LtxStatus i) (.refl v) ⟨rfl, rfl⟩).reg_eq fun e => h e.2
  obtain ⟨u, hkept, -, ht⟩ := State.each_turn_keeping (R := LasersOnly) hapart .refl .trans (fun i v => .ite (.refl v) (LasersOnly.refl v).setCause)
    (pinLaneList_nodup s pin) (List.contains_iff_mem.1 hn) (s.setPin pin false)
  refine ⟨_, hexec, ?_, ?_⟩
  · rw [State.sqCause_congr _ ht, releaseTurn, pinHolds_released hkept hothers, if_neg Bool.false_ne_true]
    exact setCause_clears u n _
  · exact (((Frame.refl s).same).each fun i _ h => releaseTurn_frame (P := fun r _ => r ∈ [Reg.LTX_STATUS]) h (by simp)).kinds (rs := [.LTX_STATUS])

end

/-- Settles O14: the writes of the control register first, then the CMIS bits and the pins. -/
theorem transmitterCommands : Obligations.TransmitterCommands := by
  intro s n
  refine ⟨fun p hacc => ⟨fun hoff hcfg => ltx_enabled hacc hoff hcfg, fun hen hon => ltx_disabled hacc hen hon, fun hbusy => ltx_swap hacc hbusy,
    ltx_squelched hacc, ltx_unsquelched hacc⟩, cmisTx_set, cmisTx_cleared, fun pin hrole hn => ⟨txdisable_asserted hrole hn,
      fun hothers => txdisable_released hrole hn hothers⟩⟩

end Sys2Proof.Proofs
end

section
/-! SUPPORT. Host lanes: what the operations of a receiver and a transmitter may change, the fields they show, and what the lane remembers
of them. -/
namespace Sys2Proof.Claims
open Sys2Proof Sys2Proof.Machine
set_option Elab.async false

/-- The registers that an operation of host lane `h` may change are named by `P`. -/
structure HostRegs (P : Reg → Nat → Prop) (h : Nat) : Prop where
  status : P .HSI_STATUS h
  clk : P .HSI_CLK (h / 8)
  lol : P .HSI_LOL h
  wake : P .HSI_WAKE h
  freq : P .HSI_FREQ h
  eye : P .HSI_EYE h
  ports : ∀ i, P .HPM_PORT_STATUS i
  dropped : P .EVL_DROPPED 0

/-- The kinds of register that operations of host lanes change. -/
abbrev hostKinds : List Reg := [.HSI_STATUS, .HSI_CLK, .HSI_LOL, .HSI_WAKE, .HSI_FREQ, .HSI_EYE, .HPM_PORT_STATUS, .EVL_DROPPED]

theorem HostRegs.of_kinds {rs : List Reg} (h : Nat) (hrs : hostKinds ⊆ rs := by decide) : HostRegs (fun r _ => r ∈ rs) h :=
  ⟨hrs (by decide), hrs (by decide), hrs (by decide), hrs (by decide), hrs (by decide), hrs (by decide), fun _ => hrs (by decide), hrs (by decide)⟩

/-- All but the status of other lanes. -/
abbrev OwnStatus (h : Nat) : Reg → Nat → Prop := fun r i => r = .HSI_STATUS → i = h

theorem HostRegs.own (h : Nat) : HostRegs (OwnStatus h) h :=
  ⟨fun _ => rfl, fun e => absurd e (by decide), fun _ => rfl, fun _ => rfl, fun _ => rfl, fun _ => rfl, fun _ e => absurd e (by decide),
    fun e => absurd e (by decide)⟩

namespace Frame
variable {P : Reg → Nat → Prop} {s u : State} {h : Nat}

theorem showPort {p : Nat} (hu : Frame P s u) (hp : P .HPM_PORT_STATUS p) (hd : P .EVL_DROPPED 0) : Frame P s (u.showPort p) := by
  unfold State.showPort
  dsimp only
  have hset : ∀ {a b c d e : Bool}, Frame P s (((((u.setFlag HPM_PORT_STATUS.UP p a).setFlag HPM_PORT_STATUS.LF_TO_HOST p b).setFlag
      HPM_PORT_STATUS.LF_TO_LINE p c).setFlag HPM_PORT_STATUS.RF_SEEN p d).setFlag HPM_PORT_STATUS.DESKEW_FAIL p e) :=
    ((((hu.setFlag hp).setFlag hp).setFlag hp).setFlag hp).setFlag hp
  exact Frame.ite (fun _ => hu) fun _ => Frame.ite (fun _ => hset) fun _ => hset.log hd

theorem showPorts (hu : Frame P s u) (hp : ∀ i, P .HPM_PORT_STATUS i) (hd : P .EVL_DROPPED 0) : Frame P s u.showPorts :=
  hu.each fun p _ h => h.showPort (hp p) hd

theorem logHost {kind : Nat} (hu : Frame P s u) (hd : P .EVL_DROPPED 0 := by simp) : Frame P s (u.logHost h kind) := hu.log hd

theorem showHostClk {k : Nat} (hu : Frame P s u) (hP : P .HSI_CLK k := by simp) : Frame P s (u.showHostClk k) := hu.setFlag hP

theorem dropFraming (hu : Frame P s u) (hP : P .HSI_STATUS h := by simp) : Frame P s (u.dropFraming h) := (hu.modHsi).setFlag hP

theorem keepTaps (hu : Frame P s u) : Frame P s (u.keepTaps h) := hu.when fun h => Frame.modHsi h.same

theorem lineRelayStop (hu : Frame P s u) : Frame P s (u.lineRelayStop h) := hu.when fun h => h.modLtx

theorem leaveHost {cause st : Nat} (hu : Frame P s u) (hP : HostRegs P h) : Frame P s (u.leaveHost h cause st) := by
  unfold State.leaveHost
  exact ((((((hu.keepTaps.setFld hP.status).count hP.lol).modHsi.setFld hP.status).dropFraming hP.status).logHost hP.dropped).lineRelayStop).showPorts
    hP.ports hP.dropped

theorem hostWaits (hu : Frame P s u) (hP : HostRegs P h) : Frame P s (u.hostWaits h) :=
  (((hu.setFld hP.status).setFld hP.status).modHsi).showHostClk hP.clk

theorem toCdr {warm : Bool} (hu : Frame P s u) (hP : HostRegs P h) : Frame P s (u.toCdr h warm) := by
  unfold State.toCdr
  have hgo : ∀ {f : HsiX → HsiX}, Frame P s (((u.modHsi h f).goHrx h HRx.CDR).dropFraming h) :=
    (hu.modHsi.setFld hP.status).dropFraming hP.status
  exact Frame.ite (fun _ => hu.hostWaits hP) fun _ => hgo.skip fun h => (h.modHsi.resetReg hP.freq).resetReg hP.eye

theorem wakeHost (hu : Frame P s u) (hP : HostRegs P h) : Frame P s (u.wakeHost h) :=
  ((hu.count hP.wake).toCdr hP).logHost hP.dropped

theorem wakeIfQuiet (hu : Frame P s u) (hP : HostRegs P h) : Frame P s (u.wakeIfQuiet h) := hu.when fun h => h.wakeHost hP

theorem wakeTx (hu : Frame P s u) (hP : HostRegs P h) : Frame P s (u.wakeTx h) := by
  unfold State.wakeTx
  exact Frame.ite (fun _ => hu) fun _ => Frame.ite (fun _ => (hu.setFld hP.status).modHsi) fun _ =>
    ((hu.setFld hP.status).modHsi).showHostClk hP.clk

theorem lockHost (hu : Frame P s u) (hP : HostRegs P h) (hl : P .HSI_LOCK h) : Frame P s (u.lockHost h) := by
  unfold State.lockHost
  have hset : ∀ {f : HsiX → HsiX}, Frame P s (((u.goHrx h HRx.LOCKED).count HSI_LOCK.COUNT h).modHsi h f) := ((hu.setFld hP.status).count hl).modHsi
  exact (hset.when fun h => h.wakeTx hP).showPorts hP.ports hP.dropped

theorem startHrx {go : State → State} (hu : Frame P s u) (hP : HostRegs P h) (hgo : Frame P s (go u)) : Frame P s (u.startHrx h go) :=
  Frame.ite (fun _ => hu.modHsi.setFld hP.status) fun _ => hgo

theorem enableHrx (hu : Frame P s u) (hP : HostRegs P h) : Frame P s (u.enableHrx h) := by
  unfold State.enableHrx
  have hset : ∀ {f : HsiX → HsiX}, Frame P s ((u.setFld HSI_STATUS.LOSS_CAUSE h HLoss.NONE).modHsi h f) := (hu.setFld hP.status).modHsi
  exact Frame.ite (fun _ => hu) fun _ => Frame.ite
    (fun _ => (hset.setFld hP.status).startHrx hP ((hset.setFld hP.status).setFld hP.status)) fun _ => (hset.setFld hP.status).showHostClk hP.clk

theorem disableHrx {cause : Nat} (hu : Frame P s u) (hP : HostRegs P h) : Frame P s (u.disableHrx h cause) := by
  unfold State.disableHrx
  have hgo : Frame P s (if u.hrx h = HRx.LOCKED then u.leaveHost h cause HRx.DISABLED else u.goHrx h HRx.DISABLED) :=
    Frame.ite (fun _ => hu.leaveHost hP) fun _ => hu.setFld hP.status
  exact ((hgo.dropFraming hP.status).modHsi).showHostClk hP.clk

theorem upHtx (hu : Frame P s u) (hP : HostRegs P h) : Frame P s (u.upHtx h) := ((hu.setFld hP.status).modHsi).showHostClk hP.clk

theorem enableHtx (hu : Frame P s u) (hP : HostRegs P h) : Frame P s (u.enableHtx h) := by
  unfold State.enableHtx
  exact Frame.ite (fun _ => hu) fun _ => Frame.ite (fun _ => ((hu.setFld hP.status).modHsi).upHtx hP) fun _ =>
    ((hu.setFld hP.status).modHsi).showHostClk hP.clk

theorem disableHtx (hu : Frame P s u) (hP : HostRegs P h) : Frame P s (u.disableHtx h) :=
  ((hu.setFld hP.status).modHsi).showHostClk hP.clk

theorem hostClockBack (hu : Frame P s u) (hP : HostRegs P h) : Frame P s (u.hostClockBack h) := by
  unfold State.hostClockBack
  dsimp only
  have hrx : Frame P s (if u.hrx h = HRx.PENDING then
      if (u.hsiOf h).clockLost then (if u.hclocks h then (u.startHrx h fun s => s.toCdr h false).showHostClk (h / 8) else u)
      else if u.hsynth h then ((u.setFld HSI_STATUS.RESULT h HRes.OK).startHrx h fun s => s.goHrx h HRx.DETECT).showHostClk (h / 8)
      else u else u) :=
    hu.when fun hu => Frame.ite (fun _ => hu.when fun hu => (hu.startHrx hP (hu.toCdr hP)).showHostClk hP.clk) fun _ =>
      hu.when fun hu => ((hu.setFld hP.status).startHrx hP ((hu.setFld hP.status).setFld hP.status)).showHostClk hP.clk
  exact hrx.when fun h => Frame.upHtx (h.skip fun h => h.setFld hP.status) hP

end Frame

/-! ### What lanes remember -/

/-- What `ob` sees of every host lane's memory is kept. -/
def HsiSees {α : Type} (ob : Nat → HsiX → α) (s t : State) : Prop := ∀ k, ob k (t.hsiOf k) = ob k (s.hsiOf k)

/-- What is seen of lane `h` depends on no more than its `wakeDue`. -/
def SeesWake {α : Type} (h : Nat) (ob : Nat → HsiX → α) : Prop := ∀ x y : HsiX, x.wakeDue = y.wakeDue → ob h x = ob h y

/-- What is seen of lane `h` depends on nothing of it. -/
def SeesNot {α : Type} (h : Nat) (ob : Nat → HsiX → α) : Prop := ∀ x y : HsiX, ob h x = ob h y

/-- The memory of every lane but `h`. -/
def others (h : Nat) (k : Nat) (x : HsiX) : Option HsiX := if k = h then none else some x

theorem others_not (h : Nat) : SeesNot h (others h) := fun x y => by rw [others, others, if_pos rfl, if_pos rfl]

theorem SeesNot.wake {α : Type} {h : Nat} {ob : Nat → HsiX → α} (hob : SeesNot h ob) : SeesWake h ob := fun x y _ => hob x y

namespace HsiSees
variable {α : Type} {ob : Nat → HsiX → α} {s t u : State} {h : Nat}

theorem refl (s : State) : HsiSees ob s s := fun _ => rfl

theorem same (hu : HsiSees ob s u) (ht : t.hsi = u.hsi := by rfl) : HsiSees ob s t := fun k => by
  rw [State.hsiOf, ht, ← State.hsiOf]
  exact hu k

theorem evolves {K : Scope} (hu : HsiSees ob s u) (he : Evolves K u t) (hK : K.hasPart .hsi = false := by decide +kernel) : HsiSees ob s t :=
  hu.same (he.part .hsi hK)

theorem modHsi {f : HsiX → HsiX} (hu : HsiSees ob s u) (hf : ∀ x, ob h (f x) = ob h x) : HsiSees ob s (u.modHsi h f) := fun k => by
  by_cases hk : k = h
  · rw [hk, State.hsiOf_modHsi_same, hf, hu h]
  · rw [State.hsiOf_modHsi_other _ _ hk, hu k]

/-- A change of a lane's memory that keeps `wakeDue`. -/
theorem modWake {f : HsiX → HsiX} (hu : HsiSees ob s u) (hob : SeesWake h ob) (hf : ∀ x, (f x).wakeDue = x.wakeDue := by intro x; rfl) :
    HsiSees ob s (u.modHsi h f) := hu.modHsi fun x => hob _ _ (hf x)

theorem modNot {f : HsiX → HsiX} (hu : HsiSees ob s u) (hob : SeesNot h ob) : HsiSees ob s (u.modHsi h f) := hu.modHsi fun _ => hob _ _

theorem ite {c : Prop} {_ : Decidable c} {a b : State} (ha : HsiSees ob s a) (hb : HsiSees ob s b) : HsiSees ob s (if c then a else b) := by
  split <;> assumption

theorem when {c : Prop} {_ : Decidable c} {a : State} (hu : HsiSees ob s u) (ha : HsiSees ob s u → HsiSees ob s a) :
    HsiSees ob s (if c then a else u) := ite (ha hu) hu

theorem setFld {f : Field} {i x : Nat} (hu : HsiSees ob s u) : HsiSees ob s (u.setFld f i x) := hu.same

theorem setFlag {f : Field} {i : Nat} {b : Bool} (hu : HsiSees ob s u) : HsiSees ob s (u.setFlag f i b) := hu.same

theorem count {f : Field} {i n : Nat} (hu : HsiSees ob s u) : HsiSees ob s (u.count f i n) := hu.same

theorem resetReg {r : Reg} {i : Nat} (hu : HsiSees ob s u) : HsiSees ob s (u.resetReg r i) := hu.same

theorem goHrx {st : Nat} (hu : HsiSees ob s u) : HsiSees ob s (u.goHrx h st) := hu.same

theorem showHostClk {k : Nat} (hu : HsiSees ob s u) : HsiSees ob s (u.showHostClk k) := hu.same

theorem showPorts (hu : HsiSees ob s u) : HsiSees ob s u.showPorts :=
  hu.evolves (Evolves.refl (K := .of [.HPM_PORT_STATUS, .EVL_DROPPED] [.recorder]) u).showPorts

theorem logHost {kind : Nat} (hu : HsiSees ob s u) : HsiSees ob s (u.logHost h kind) :=
  hu.evolves (Evolves.refl (K := .of [.EVL_DROPPED] [.recorder]) u).logHost

theorem lineRelayStop (hu : HsiSees ob s u) : HsiSees ob s (u.lineRelayStop h) :=
  hu.evolves (Evolves.refl (K := .of [] [.ltx]) u).lineRelayStop

theorem dropFraming (hu : HsiSees ob s u) (hob : SeesWake h ob) : HsiSees ob s (u.dropFraming h) := by
  unfold State.dropFraming
  exact (hu.modWake hob).setFlag

theorem keepTaps (hu : HsiSees ob s u) (hob : SeesWake h ob) : HsiSees ob s (u.keepTaps h) :=
  hu.when fun hu => modWake hu.same hob

theorem leaveHost {cause st : Nat} (hu : HsiSees ob s u) (hob : SeesWake h ob) : HsiSees ob s (u.leaveHost h cause st) := by
  unfold State.leaveHost
  exact (((((hu.keepTaps hob).setFld.count.modWake hob).goHrx).dropFraming hob).logHost).lineRelayStop.showPorts

theorem hostWaits (hu : HsiSees ob s u) (hob : SeesWake h ob) : HsiSees ob s (u.hostWaits h) := by
  unfold State.hostWaits
  exact (hu.setFld.goHrx.modWake hob).showHostClk

theorem toCdr {warm : Bool} (hu : HsiSees ob s u) (hob : SeesWake h ob) : HsiSees ob s (u.toCdr h warm) := by
  unfold State.toCdr
  exact ite (hu.hostWaits hob) (ite (dropFraming (hu.modWake hob).goHrx hob)
    (((dropFraming (hu.modWake hob).goHrx hob).modWake hob).resetReg.resetReg))

theorem wakeHost (hu : HsiSees ob s u) (hob : SeesWake h ob) : HsiSees ob s (u.wakeHost h) := (hu.count.toCdr hob).logHost

theorem wakeIfQuiet (hu : HsiSees ob s u) (hob : SeesWake h ob) : HsiSees ob s (u.wakeIfQuiet h) := hu.when fun h => h.wakeHost hob

theorem startHrx {go : State → State} (hu : HsiSees ob s u) (hob : SeesWake h ob) (hgo : HsiSees ob s (go u)) :
    HsiSees ob s (u.startHrx h go) := ite ((hu.modWake hob).goHrx) hgo

theorem enableHrx (hu : HsiSees ob s u) (hob : SeesWake h ob) : HsiSees ob s (u.enableHrx h) := by
  unfold State.enableHrx
  exact ite hu (ite (startHrx (hu.setFld.modWake hob).setFld hob (hu.setFld.modWake hob).setFld.goHrx)
    ((hu.setFld.modWake hob).goHrx).showHostClk)

theorem disableHrx {cause : Nat} (hu : HsiSees ob s u) (hob : SeesWake h ob) : HsiSees ob s (u.disableHrx h cause) := by
  unfold State.disableHrx
  exact ((dropFraming (ite (hu.leaveHost hob) hu.goHrx) hob).modWake hob).showHostClk

theorem upHtx (hu : HsiSees ob s u) (hob : SeesNot h ob) : HsiSees ob s (u.upHtx h) := by
  unfold State.upHtx
  exact (hu.setFld.modNot hob).showHostClk

theorem hostClockBack (hu : HsiSees ob s u) (hob : SeesNot h ob) : HsiSees ob s (u.hostClockBack h) := by
  unfold State.hostClockBack
  dsimp only
  have hrx : HsiSees ob s (if u.hrx h = HRx.PENDING then
      if (u.hsiOf h).clockLost then (if u.hclocks h then (u.startHrx h fun s => s.toCdr h false).showHostClk (h / 8) else u)
      else if u.hsynth h then ((u.setFld HSI_STATUS.RESULT h HRes.OK).startHrx h fun s => s.goHrx h HRx.DETECT).showHostClk (h / 8)
      else u else u) :=
    hu.when fun hu => ite (hu.when fun hu => (hu.startHrx hob.wake (hu.toCdr hob.wake)).showHostClk)
      (hu.when fun hu => (hu.setFld.startHrx hob.wake hu.setFld.goHrx).showHostClk)
  exact hrx.when fun h => upHtx (ite h h.setFld) hob

end HsiSees
end Sys2Proof.Claims

namespace Sys2Proof.Machine
open Sys2Proof Sys2Proof.Claims
set_option Elab.async false
section
variable (s : State) {h : Nat}

@[simp] theorem State.fld_keepTaps (f : Field) (i : Nat) : (s.keepTaps h).fld f i = s.fld f i :=
  ((Frame.refl s).keepTaps (P := fun _ _ => False)).fld_eq not_false

@[simp] theorem State.fld_lineRelayStop (f : Field) (i : Nat) : (s.lineRelayStop h).fld f i = s.fld f i :=
  ((Frame.refl s).lineRelayStop (P := fun _ _ => False)).fld_eq not_false

@[simp] theorem State.fld_showPorts_other {f : Field} (i : Nat) (hp : f.reg ≠ .HPM_PORT_STATUS) (hd : f.reg ≠ .EVL_DROPPED) :
    s.showPorts.fld f i = s.fld f i :=
  ((Frame.refl s).showPorts (P := fun r _ => r = .HPM_PORT_STATUS ∨ r = .EVL_DROPPED) (fun _ => .inl rfl) (.inr rfl)).fld_eq fun e => e.elim hp hd

@[simp] theorem State.fld_showHostClk_apart {k : Nat} {f : Field} (i : Nat) (hf : HSI_CLK.PENDING.apart f = true) :
    (s.showHostClk k).fld f i = s.fld f i := State.fld_setFlag_of_apart _ _ _ _ hf

@[simp] theorem State.fld_logHost_other {kind : Nat} {f : Field} (i : Nat) (hd : f.reg ≠ .EVL_DROPPED) : (s.logHost h kind).fld f i = s.fld f i :=
  ((Frame.refl s).logHost (P := fun r _ => r = .EVL_DROPPED) rfl).fld_eq hd

@[simp] theorem State.fld_dropFraming_apart {f : Field} (i : Nat) (hf : HSI_STATUS.CELL_LOCK.apart f = true) :
    (s.dropFraming h).fld f i = s.fld f i := by
  rw [State.dropFraming, State.fld_setFlag_of_apart _ _ _ _ hf, State.fld_modHsi]

@[simp] theorem State.fld_goHrx_apart {st : Nat} {f : Field} (i : Nat) (hf : HSI_STATUS.RX_STATE.apart f = true) :
    (s.goHrx h st).fld f i = s.fld f i := State.fld_setFld_of_apart _ _ _ _ hf

theorem State.hrx_goHrx {st : Nat} (hst : st < 16) : (s.goHrx h st).hrx h = st := (State.fld_setFld_eq _ _ _ (by decide)).trans (Nat.mod_eq_of_lt hst)

/-! ### Leaving LOCKED -/

/-- What a lane that leaves LOCKED shows (R162). -/
theorem State.leaveHost_shows {cause st : Nat} (hcause : cause < 16) (hst : st < 16) : (s.leaveHost h cause st).hrx h = st ∧
    (s.leaveHost h cause st).fld HSI_STATUS.LOSS_CAUSE h = cause ∧
    (s.leaveHost h cause st).fld HSI_LOL.COUNT h = (s.fld HSI_LOL.COUNT h + 1) % 2 ^ HSI_LOL.COUNT.width := by
  refine ⟨?_, ?_, ?_⟩
  · rw [State.leaveHost, State.hrx]
    simp (disch := decide) only [State.fld_showPorts_other, State.fld_lineRelayStop, State.fld_logHost_other, State.fld_dropFraming_apart]
    exact State.hrx_goHrx _ hst
  · rw [State.leaveHost]
    simp (disch := decide) only [State.fld_showPorts_other, State.fld_lineRelayStop, State.fld_logHost_other, State.fld_dropFraming_apart,
      State.fld_goHrx_apart, State.fld_modHsi, State.fld_count_of_apart, State.fld_setFld_eq]
    exact Nat.mod_eq_of_lt hcause
  · rw [State.leaveHost]
    simp (disch := decide) only [State.fld_showPorts_other, State.fld_lineRelayStop, State.fld_logHost_other, State.fld_dropFraming_apart,
      State.fld_goHrx_apart, State.fld_modHsi, State.fld_count_eq, State.fld_setFld_of_apart, State.fld_keepTaps]
    rfl

theorem State.fld_leaveHost_apart {cause st : Nat} {f : Field} (i : Nat) (hp : f.reg ≠ .HPM_PORT_STATUS) (hd : f.reg ≠ .EVL_DROPPED)
    (hc : HSI_STATUS.CELL_LOCK.apart f = true) (hr : HSI_STATUS.RX_STATE.apart f = true) (hl : HSI_STATUS.LOSS_CAUSE.apart f = true)
    (hn : HSI_LOL.COUNT.apart f = true) : (s.leaveHost h cause st).fld f i = s.fld f i := by
  rw [State.leaveHost, State.fld_showPorts_other _ _ hp hd, State.fld_lineRelayStop, State.fld_logHost_other _ _ hd, State.fld_dropFraming_apart _ _ hc,
    State.fld_goHrx_apart _ _ hr, State.fld_modHsi, State.fld_count_of_apart _ _ _ _ hn, State.fld_setFld_of_apart _ _ _ _ hl, State.fld_keepTaps]

/-! ### Clocks and CDR -/

theorem State.hsynth_congr {t : State} (hc : t.reg .CLK_STATUS 0 = s.reg .CLK_STATUS 0) : t.hsynth h = s.hsynth h := by
  rw [State.hsynth, State.hsynth, State.clocksPresent, State.clocksPresent, State.hostSynthLocked, State.hostSynthLocked,
    State.flag_congr (f := CLK_STATUS.REF_PRESENT) hc, State.flag_congr (f := CLK_STATUS.CORE_LOCK) hc, State.fld_congr (f := CLK_STATUS.HOST_LOCK) hc]

theorem State.hclocks_congr {t : State} (hc : t.reg .CLK_STATUS 0 = s.reg .CLK_STATUS 0) (hm : t.reg .HSI_CFG h = s.reg .HSI_CFG h)
    (hk : t.flag HSI_CLK.HCKI_PRESENT (h / 8) = s.flag HSI_CLK.HCKI_PRESENT (h / 8)) : t.hclocks h = s.hclocks h := by
  rw [State.hclocks, State.hclocks, s.hsynth_congr hc, State.fcm, State.fcm, State.fld_congr (f := HSI_CFG.MODE) hm, State.hcki, State.hcki, hk]

theorem State.fcm_congr {t : State} (hm : t.reg .HSI_CFG h = s.reg .HSI_CFG h) : t.fcm h = s.fcm h := by
  rw [State.fcm, State.fcm, State.fld_congr (f := HSI_CFG.MODE) hm]

theorem State.hclocks_leaveHost {cause st : Nat} : (s.leaveHost h cause st).hclocks h = s.hclocks h := by
  have hframe : Frame (fun r _ => r ∈ hostKinds) s (s.leaveHost h cause st) := (Frame.refl s).leaveHost (HostRegs.of_kinds h)
  exact s.hclocks_congr (hframe.reg_eq (by decide)) (hframe.reg_eq (by decide)) (State.flag_eq_of_fld (s.fld_leaveHost_apart _ (by decide) (by decide)
    (by decide) (by decide) (by decide) (by decide)))

/-- What a lane that waits for a clock shows (R23, R163). -/
theorem State.hostWaits_shows : (s.hostWaits h).hrx h = HRx.PENDING ∧ (s.hostWaits h).fld HSI_STATUS.LOSS_CAUSE h = HLoss.CLOCK ∧
    ((s.hostWaits h).hsiOf h).clockLost = true := by
  refine ⟨?_, ?_, ?_⟩
  · rw [State.hostWaits, State.hrx, State.fld_showHostClk_apart _ _ (by decide), State.fld_modHsi]
    exact State.hrx_goHrx _ (by decide)
  · rw [State.hostWaits, State.fld_showHostClk_apart _ _ (by decide), State.fld_modHsi, State.fld_goHrx_apart _ _ (by decide),
      State.fld_setFld_eq _ _ _ (by decide)]
    rfl
  · exact congrArg HsiX.clockLost (State.hsiOf_modHsi_same ((s.setFld HSI_STATUS.LOSS_CAUSE h HLoss.CLOCK).goHrx h HRx.PENDING) h fun x =>
      { x with clockLost := true, warm := false })

/-- The lane at the start of CDR, warm or cold, before a cold pass forgets (R163, R176). -/
def State.cdrStart (s : State) (h : Nat) (warm : Bool) : State :=
  ((s.modHsi h fun x => { x with warm := warm, clockLost := false }).goHrx h HRx.CDR).dropFraming h

theorem State.toCdr_eq {warm : Bool} (hclk : s.hclocks h = true) : s.toCdr h warm = if warm then s.cdrStart h warm
    else ((((s.cdrStart h warm).modHsi h fun x => { x with ffe := List.replicate 7 0, dfe := 0 }).resetReg .HSI_FREQ h).resetReg .HSI_EYE h) := by
  rw [State.toCdr, hclk]
  rfl

theorem State.fld_cdrStart_apart {warm : Bool} {f : Field} (i : Nat) (hc : HSI_STATUS.CELL_LOCK.apart f = true)
    (hr : HSI_STATUS.RX_STATE.apart f = true) : (s.cdrStart h warm).fld f i = s.fld f i := by
  rw [State.cdrStart, State.fld_dropFraming_apart _ _ hc, State.fld_goHrx_apart _ _ hr, State.fld_modHsi]

theorem State.fld_toCdr {warm : Bool} (hclk : s.hclocks h = true) {f : Field} (i : Nat) (hf : f.reg ≠ .HSI_FREQ) (he : f.reg ≠ .HSI_EYE) :
    (s.toCdr h warm).fld f i = (s.cdrStart h warm).fld f i := by
  rw [s.toCdr_eq hclk]
  split
  · rfl
  · exact (Frame.resetReg (P := fun r _ => r = .HSI_FREQ ∨ r = .HSI_EYE) (Frame.resetReg ((Frame.refl (s.cdrStart h warm)).modHsi) (.inl rfl))
      (.inr rfl)).fld_eq fun e => e.elim hf he

theorem State.hrx_toCdr {warm : Bool} (hclk : s.hclocks h = true) : (s.toCdr h warm).hrx h = HRx.CDR := by
  rw [State.hrx, s.fld_toCdr hclk _ (by decide) (by decide), State.cdrStart, State.fld_dropFraming_apart _ _ (by decide)]
  exact State.hrx_goHrx _ (by decide)

theorem State.fld_toCdr_apart {warm : Bool} (hclk : s.hclocks h = true) {f : Field} (i : Nat) (hf : f.reg ≠ .HSI_FREQ) (he : f.reg ≠ .HSI_EYE)
    (hc : HSI_STATUS.CELL_LOCK.apart f = true) (hr : HSI_STATUS.RX_STATE.apart f = true) : (s.toCdr h warm).fld f i = s.fld f i :=
  (s.fld_toCdr hclk i hf he).trans (s.fld_cdrStart_apart i hc hr)

/-- A cold pass is not warm (R163). -/
theorem State.warm_toCdr (hclk : s.hclocks h = true) : ((s.toCdr h false).hsiOf h).warm = false := by
  have hreset (v : State) (r : Reg) : (v.resetReg r h).hsiOf h = v.hsiOf h := rfl
  have hflag (v : State) (f : Field) : (v.setFlag f h false).hsiOf h = v.hsiOf h := rfl
  have hstate (v : State) : (v.goHrx h HRx.CDR).hsiOf h = v.hsiOf h := rfl
  rw [s.toCdr_eq hclk, if_neg Bool.false_ne_true, hreset, hreset, State.hsiOf_modHsi_same]
  change ((s.cdrStart h false).hsiOf h).warm = false
  rw [State.cdrStart, State.dropFraming, hflag, State.hsiOf_modHsi_same, hstate, State.hsiOf_modHsi_same]

/-- Leaving LOCKED for CDR (R162, R164). -/
theorem State.leaveToCdr_shows {cause : Nat} {warm : Bool} (hcause : cause < 16) (hclk : s.hclocks h = true) :
    ((s.leaveHost h cause HRx.CDR).toCdr h warm).hrx h = HRx.CDR ∧
    ((s.leaveHost h cause HRx.CDR).toCdr h warm).fld HSI_STATUS.LOSS_CAUSE h = cause ∧
    ((s.leaveHost h cause HRx.CDR).toCdr h warm).fld HSI_LOL.COUNT h = (s.fld HSI_LOL.COUNT h + 1) % 2 ^ HSI_LOL.COUNT.width := by
  have hclk' : (s.leaveHost h cause HRx.CDR).hclocks h = true := s.hclocks_leaveHost.trans hclk
  obtain ⟨-, hloss, hlol⟩ := s.leaveHost_shows (h := h) hcause (st := HRx.CDR) (by decide)
  exact ⟨State.hrx_toCdr _ hclk', (State.fld_toCdr_apart _ hclk' _ (by decide) (by decide) (by decide) (by decide)).trans hloss,
    (State.fld_toCdr_apart _ hclk' _ (by decide) (by decide) (by decide) (by decide)).trans hlol⟩

/-- A wake from QUIET with every clock there (R175, R176). -/
theorem State.wakeHost_shows (hclk : s.hclocks h = true) : (s.wakeHost h).hrx h = HRx.CDR ∧
    (s.wakeHost h).fld HSI_WAKE.COUNT h = (s.fld HSI_WAKE.COUNT h + 1) % 2 ^ HSI_WAKE.COUNT.width := by
  have hcounted : Frame (fun r _ => r = .HSI_WAKE) s (s.count HSI_WAKE.COUNT h) := (Frame.refl s).count rfl
  have hclk' : (s.count HSI_WAKE.COUNT h).hclocks h = true :=
    (s.hclocks_congr (hcounted.reg_eq (by decide)) (hcounted.reg_eq (by decide)) (hcounted.flag_eq (by decide))).trans hclk
  rw [State.wakeHost, State.hrx, State.fld_logHost_other _ _ (by decide), State.fld_logHost_other _ _ (by decide)]
  refine ⟨State.hrx_toCdr _ hclk', (State.fld_toCdr_apart _ hclk' _ (by decide) (by decide) (by decide) (by decide)).trans ?_⟩
  exact State.fld_count_eq _ _ _ (by decide)

theorem State.wakeIfQuiet_of_quiet (hquiet : s.hrx h = HRx.QUIET) (hclk : s.hclocks h = true) : s.wakeIfQuiet h = s.wakeHost h := by
  rw [State.hclocks, Bool.and_eq_true] at hclk
  refine if_pos ⟨hquiet, ?_⟩
  cases hm : s.fcm h <;> cases hk : s.hcki h <;> simp_all

theorem State.wakeIfQuiet_of_not (hquiet : s.hrx h ≠ HRx.QUIET) : s.wakeIfQuiet h = s := if_neg fun e => hquiet e.1

end
end Sys2Proof.Machine
end

section
/-! PROOFS. O19: HCKI, the rates of transparent lanes and relaying (chapter 6). -/
namespace Sys2Proof.Proofs
open Sys2Proof Sys2Proof.Machine Sys2Proof.Claims
set_option Elab.async false

section
variable {s t u : State} {h : Nat}

/-! ### What a turn of a lane leaves of the clocks -/

/-- The clocks stand: REFCLK and the synthesisers, and of HSI_CLK every field but PENDING. -/
structure ClkKept (s t : State) : Prop where
  clk : t.reg .CLK_STATUS 0 = s.reg .CLK_STATUS 0
  pair : ∀ (f : Field) (i : Nat), f.reg = .HSI_CLK → HSI_CLK.PENDING.apart f = true → t.fld f i = s.fld f i

namespace ClkKept

theorem refl (s : State) : ClkKept s s := ⟨rfl, fun _ _ _ _ => rfl⟩

theorem trans (h : ClkKept s u) (h' : ClkKept u t) : ClkKept s t :=
  ⟨h'.clk.trans h.clk, fun f i hf hp => (h'.pair f i hf hp).trans (h.pair f i hf hp)⟩

theorem ite {c : Prop} {_ : Decidable c} {a b : State} (ha : ClkKept s a) (hb : ClkKept s b) : ClkKept s (if c then a else b) := by
  split <;> assumption

theorem when {c : Prop} {_ : Decidable c} {a : State} (hu : ClkKept s u) (ha : ClkKept s u → ClkKept s a) : ClkKept s (if c then a else u) :=
  ite (ha hu) hu

/-- A change of the registers of a lane. -/
theorem frame (hu : ClkKept s u) (h' : Frame (fun r _ => r ∈ ([.HSI_STATUS, .HSI_LOL, .HSI_WAKE, .HSI_FREQ, .HSI_EYE, .HPM_PORT_STATUS,
    .EVL_DROPPED] : List Reg)) u t) : ClkKept s t :=
  hu.trans ⟨h'.reg_eq (by decide), fun f i hf _ => h'.fld_eq (by rw [hf]; decide)⟩

theorem showHostClk {k : Nat} (hu : ClkKept s u) : ClkKept s (u.showHostClk k) :=
  hu.trans ⟨State.reg_setFlag_other _ _ _ _ (by decide), fun _ i _ hp => State.fld_showHostClk_apart _ i hp⟩

theorem setStatus {f : Field} {x : Nat} (hu : ClkKept s u) (hf : f.reg = .HSI_STATUS := by rfl) : ClkKept s (u.setFld f h x) :=
  hu.frame ((Frame.refl u).setFld (by rw [hf]; decide))

theorem modHsi {f : HsiX → HsiX} (hu : ClkKept s u) : ClkKept s (u.modHsi h f) := hu.frame (Frame.refl u).modHsi

theorem leaveHost {cause st : Nat} (hu : ClkKept s u) : ClkKept s (u.leaveHost h cause st) := by
  unfold State.leaveHost
  exact hu.frame (((((((Frame.refl u).keepTaps.setFld (by decide)).count (by decide)).modHsi.setFld (by decide)).dropFraming (by decide)).logHost
    (by decide)).lineRelayStop.showPorts (fun _ => by decide) (by decide))

theorem hostWaits (hu : ClkKept s u) : ClkKept s (u.hostWaits h) := hu.setStatus.setStatus.modHsi.showHostClk

theorem toCdr {warm : Bool} (hu : ClkKept s u) : ClkKept s (u.toCdr h warm) := by
  unfold State.toCdr
  have hgo : ∀ {f : HsiX → HsiX}, Frame (fun r _ => r ∈ ([.HSI_STATUS, .HSI_LOL, .HSI_WAKE, .HSI_FREQ, .HSI_EYE, .HPM_PORT_STATUS,
      .EVL_DROPPED] : List Reg)) u (((u.modHsi h f).goHrx h HRx.CDR).dropFraming h) :=
    ((Frame.refl u).modHsi.setFld (by decide)).dropFraming (by decide)
  exact ite hu.hostWaits (hu.frame (hgo.skip fun h => (h.modHsi.resetReg (by decide)).resetReg (by decide)))

theorem wakeHost (hu : ClkKept s u) : ClkKept s (u.wakeHost h) :=
  (hu.frame ((Frame.refl u).count (by decide))).toCdr.frame ((Frame.refl _).logHost (by decide))

theorem startHrx {go : State → State} (hu : ClkKept s u) (hgo : ClkKept s (go u)) : ClkKept s (u.startHrx h go) := ite hu.modHsi.setStatus hgo

theorem upHtx (hu : ClkKept s u) : ClkKept s (u.upHtx h) := hu.setStatus.modHsi.showHostClk

/-- What a receiver that waits does as clocks come back; the transmitter after it. -/
theorem hostClockBack (hu : ClkKept s u) : ClkKept s (u.hostClockBack h) := by
  unfold State.hostClockBack
  dsimp only
  have hrx : ClkKept s (if u.hrx h = HRx.PENDING then
      if (u.hsiOf h).clockLost then (if u.hclocks h then (u.startHrx h fun s => s.toCdr h false).showHostClk (h / 8) else u)
      else if u.hsynth h then ((u.setFld HSI_STATUS.RESULT h HRes.OK).startHrx h fun s => s.goHrx h HRx.DETECT).showHostClk (h / 8)
      else u else u) :=
    hu.when fun hu => ite (hu.when fun hu => (hu.startHrx hu.toCdr).showHostClk)
      (hu.when fun hu => (hu.setStatus.startHrx hu.setStatus.setStatus).showHostClk)
  exact hrx.when fun h => upHtx (ite h h.setStatus)

theorem hcki (h' : ClkKept s t) : t.hcki h = s.hcki h := State.flag_eq_of_fld (h'.pair _ _ rfl (by decide))

end ClkKept

/-- What is seen of a host lane: its status, configuration and control, and what it remembers. -/
def hostSeen (s : State) (h : Nat) : RegVal × RegVal × RegVal × HsiX := (s.reg .HSI_STATUS h, s.reg .HSI_CFG h, s.reg .HSI_CTRL h, s.hsiOf h)

/-- The registers that a turn of lane `h` may change. -/
abbrev HostTurn (h : Nat) : Reg → Nat → Prop := fun r i => r ∈ hostKinds ∧ (r = .HSI_STATUS → i = h)

theorem HostTurn.regs (h : Nat) : HostRegs (HostTurn h) h := by
  have other {r : Reg} {i : Nat} (hr : r ∈ hostKinds) (hs : r ≠ .HSI_STATUS) : HostTurn h r i := ⟨hr, fun e => absurd e hs⟩
  exact ⟨⟨by decide, fun _ => rfl⟩, other (by decide) (by decide), other (by decide) (by decide), other (by decide) (by decide),
    other (by decide) (by decide), other (by decide) (by decide), fun _ => other (by decide) (by decide), other (by decide) (by decide)⟩

theorem hostSeen_apart {i j : Nat} (hr : Frame (HostTurn i) s t) (hx : HsiSees (others i) s t) (hij : j ≠ i) : hostSeen t j = hostSeen s j := by
  have hmem : t.hsiOf j = s.hsiOf j := by
    have h' := hx j
    rw [others, others, if_neg hij, if_neg hij] at h'
    exact Option.some.inj h'
  rw [hostSeen, hostSeen, hr.reg_eq (fun e => hij (e.2 rfl)), hr.reg_eq (fun e => absurd e.1 (by decide)),
    hr.reg_eq (fun e => absurd e.1 (by decide)), hmem]

/-- The lanes of a clock pair. -/
theorem pairLanes (k : Nat) : ((List.range 8).map (8 * k + ·)).Nodup := by
  refine List.Nodup.map (fun a b h => ?_) (by decide)
  simpa using h

theorem mem_pairLanes {k : Nat} (hk : h / 8 = k) : h ∈ (List.range 8).map (8 * k + ·) :=
  List.mem_map.2 ⟨h % 8, List.mem_range.2 (Nat.mod_lt _ (by decide)), by omega⟩

/-! ### HCKI -/

/-- One lane's turn as HCKI goes missing. -/
def missTurn (h : Nat) (s : State) : State :=
  if !s.fcm h then s
  else if s.hrx h = HRx.LOCKED then (s.leaveHost h HLoss.CLOCK HRx.PENDING).hostWaits h
  else if s.hrx h = HRx.QUIET then s.modHsi h fun x => { x with clockLost := true }
  else if HRx.DETECT ≤ s.hrx h then s.hostWaits h
  else s

/-- One lane's turn as HCKI comes back. -/
def backTurn (h : Nat) (s : State) : State :=
  if s.hrx h = HRx.QUIET ∧ s.fcm h ∧ (s.hsiOf h).clockLost then (s.modHsi h fun x => { x with stored := false }).wakeHost h
  else if s.hrx h = HRx.PENDING then s.hostClockBack h
  else s

theorem missTurn_frame {P : Reg → Nat → Prop} (hu : Frame P s u) (hP : HostRegs P h) : Frame P s (missTurn h u) := by
  unfold missTurn
  exact hu.skip fun hu => Frame.ite (fun _ => (hu.leaveHost hP).hostWaits hP) fun _ => Frame.ite (fun _ => hu.modHsi) fun _ =>
    hu.when fun hu => hu.hostWaits hP

theorem backTurn_frame {P : Reg → Nat → Prop} (hu : Frame P s u) (hP : HostRegs P h) : Frame P s (backTurn h u) := by
  unfold backTurn
  exact Frame.ite (fun _ => hu.modHsi.wakeHost hP) fun _ => hu.when fun hu => hu.hostClockBack hP

theorem missTurn_sees (i : Nat) (s : State) : HsiSees (others i) s (missTurn i s) := by
  unfold missTurn
  have hr : HsiSees (others i) s s := .refl s
  exact .ite hr (.ite ((hr.leaveHost (others_not i).wake).hostWaits (others_not i).wake) (.ite (hr.modNot (others_not i))
    (.ite (hr.hostWaits (others_not i).wake) hr)))

theorem backTurn_sees (i : Nat) (s : State) : HsiSees (others i) s (backTurn i s) := by
  unfold backTurn
  have hr : HsiSees (others i) s s := .refl s
  exact .ite ((hr.modNot (others_not i)).wakeHost (others_not i).wake) (.ite (hr.hostClockBack (others_not i)) hr)

theorem missTurn_clocks (i : Nat) (s : State) : ClkKept s (missTurn i s) := by
  unfold missTurn
  have hr : ClkKept s s := .refl s
  exact .ite hr (.ite hr.leaveHost.hostWaits (.ite hr.modHsi (.ite hr.hostWaits hr)))

theorem backTurn_clocks (i : Nat) (s : State) : ClkKept s (backTurn i s) := by
  unfold backTurn
  have hr : ClkKept s s := .refl s
  exact .ite hr.modHsi.wakeHost (.ite hr.hostClockBack hr)

theorem each_clocks {f : Nat → State → State} (hf : ∀ i s, ClkKept s (f i s)) (is : List Nat) (s : State) : ClkKept s (s.each is f) := by
  induction is generalizing s with
  | nil => exact .refl s
  | cons i is ih => exact (hf i s).trans (ih (f i s))

/-- HCKI of a pair is set missing or present, with the losses of the pair. -/
def lostState (s : State) (k : Fin 4) : State :=
  (s.setFlag HSI_CLK.HCKI_PRESENT k false).setFld HSI_CLK.LOSSES k (min 255 ((s.setFlag HSI_CLK.HCKI_PRESENT k false).fld HSI_CLK.LOSSES k + 1))

theorem hcki_missing (k : Fin 4) : Completes (.hckiMissing k) s fun t => t.flag HSI_CLK.HCKI_PRESENT k = false ∧
    t.fld HSI_CLK.LOSSES k = min 255 (s.fld HSI_CLK.LOSSES k + 1) ∧ KeepsKinds hostKinds s t ∧
    ∀ h : HLane, h.val / 8 = k → s.fcm h = true → s.hrx h = HRx.LOCKED →
      t.hrx h = HRx.PENDING ∧ t.fld HSI_STATUS.LOSS_CAUSE h = HLoss.CLOCK ∧ (t.hsiOf h).clockLost = true := by
  have hexec : exec (.hckiMissing k) s = .next ((lostState s k).each ((List.range 8).map (8 * k.val + ·)) missTurn) := rfl
  have hclk := each_clocks missTurn_clocks ((List.range 8).map (8 * k.val + ·)) (lostState s k)
  have hlost : Frame (fun r _ => r = .HSI_CLK) s (lostState s k) := ((Frame.refl s).setFlag rfl).setFld rfl
  refine ⟨_, hexec, ?_, ?_, ?_, fun h hk hfcm hlocked => ?_⟩
  · refine (State.flag_eq_of_fld (hclk.pair _ _ rfl (by decide))).trans ?_
    exact (State.flag_setFld_of_apart _ _ _ _ (by decide)).trans (State.flag_setFlag_eq _ _ _ (by decide))
  · refine (hclk.pair _ _ rfl (by decide)).trans ((State.fld_setFld_eq _ _ _ (by decide)).trans ?_)
    rw [State.fld_setFlag_of_apart _ _ _ _ (by decide)]
    exact Nat.mod_eq_of_lt (Nat.lt_of_le_of_lt (Nat.min_le_left _ _) (by decide))
  · exact ((((Frame.refl s).setFlag (by decide)).setFld (by decide)).each fun i _ h => missTurn_frame h (HostRegs.of_kinds i)).kinds (rs := hostKinds)
  · obtain ⟨u, hu, ht⟩ := State.each_turn (obs := hostSeen)
      (fun i j t hij => hostSeen_apart (missTurn_frame (.refl t) (HostTurn.regs i)) (missTurn_sees i t) hij) (pairLanes k) (mem_pairLanes hk) (lostState s k)
    obtain ⟨hstatus, hu⟩ := Prod.mk.inj hu
    obtain ⟨hcfg, -⟩ := Prod.mk.inj hu
    obtain ⟨htstatus, ht⟩ := Prod.mk.inj ht
    obtain ⟨-, ht⟩ := Prod.mk.inj ht
    obtain ⟨-, htmem⟩ := Prod.mk.inj ht
    have hufcm : u.fcm h = true := (State.fcm_congr _ (hcfg.trans (hlost.reg_eq (by decide)))).trans hfcm
    have hurx : u.hrx h = HRx.LOCKED := (State.fld_congr (hstatus.trans (hlost.reg_eq (by decide)))).trans hlocked
    have hturn : missTurn h u = (u.leaveHost h HLoss.CLOCK HRx.PENDING).hostWaits h := by
      rw [missTurn, hufcm, if_neg (by decide), if_pos hurx]
    rw [hturn] at htstatus htmem
    obtain ⟨hrx, hloss, hwaits⟩ := State.hostWaits_shows (u.leaveHost h HLoss.CLOCK HRx.PENDING) (h := h)
    exact ⟨(State.fld_congr htstatus).trans hrx, (State.fld_congr htstatus).trans hloss, (congrArg HsiX.clockLost htmem).trans hwaits⟩

/-- What a waiting receiver shows once every clock is back (R163, R173). -/
theorem hrx_hostClockBack (hwait : s.hrx h = HRx.PENDING) (hlost : (s.hsiOf h).clockLost = true) (hclk : s.hclocks h = true) :
    (s.hostClockBack h).hrx h = if (s.hsiOf h).rxQuietDue = true ∧ s.flag HSI_CTRL.RX_QUIET h = true then HRx.QUIET else HRx.CDR := by
  have hstart : ((s.startHrx h fun s => s.toCdr h false).showHostClk (h / 8)).hrx h =
      if (s.hsiOf h).rxQuietDue = true ∧ s.flag HSI_CTRL.RX_QUIET h = true then HRx.QUIET else HRx.CDR := by
    rw [State.hrx, State.fld_showHostClk_apart _ _ (by decide), State.startHrx]
    by_cases hq : (s.hsiOf h).rxQuietDue = true ∧ s.flag HSI_CTRL.RX_QUIET h = true
    · rw [if_pos hq, hq.1, hq.2, if_pos (by decide)]
      exact State.hrx_goHrx _ (by decide)
    · rw [if_neg hq, if_neg (by rwa [Bool.and_eq_true])]
      exact s.hrx_toCdr hclk
  have hup (v : State) : (v.upHtx h).fld HSI_STATUS.RX_STATE h = v.fld HSI_STATUS.RX_STATE h := by
    rw [State.upHtx, State.fld_showHostClk_apart _ _ (by decide), State.fld_modHsi, State.fld_setFld_of_apart _ _ _ _ (by decide)]
  rw [State.hostClockBack, if_pos hwait, hlost, if_pos rfl, hclk, if_pos rfl]
  split
  · refine (hup _).trans ?_
    split
    · exact hstart
    · exact (State.fld_setFld_of_apart _ _ _ _ (by decide)).trans hstart
  · exact hstart

theorem hcki_present (k : Fin 4) : Completes (.hckiPresent k) s fun t => t.flag HSI_CLK.HCKI_PRESENT k = true ∧ KeepsKinds hostKinds s t ∧
    ∀ h : HLane, h.val / 8 = k → s.fcm h = true → s.hsynth h = true → (s.hsiOf h).clockLost = true →
      (s.hrx h = HRx.PENDING ∨ s.hrx h = HRx.QUIET) → t.hrx h =
        (if s.hrx h = HRx.PENDING ∧ (s.hsiOf h).rxQuietDue = true ∧ s.flag HSI_CTRL.RX_QUIET h = true then HRx.QUIET else HRx.CDR) := by
  have hexec : exec (.hckiPresent k) s =
      .next ((s.setFlag HSI_CLK.HCKI_PRESENT k true).each ((List.range 8).map (8 * k.val + ·)) backTurn) := rfl
  have hclk := each_clocks backTurn_clocks ((List.range 8).map (8 * k.val + ·)) (s.setFlag HSI_CLK.HCKI_PRESENT k true)
  have hback : Frame (fun r _ => r = .HSI_CLK) s (s.setFlag HSI_CLK.HCKI_PRESENT k true) := (Frame.refl s).setFlag rfl
  refine ⟨_, hexec, ?_, ?_, fun h hk hfcm hsynth hlost hst => ?_⟩
  · exact (State.flag_eq_of_fld (hclk.pair _ _ rfl (by decide))).trans (State.flag_setFlag_eq _ _ _ (by decide))
  · exact (((Frame.refl s).setFlag (by decide)).each fun i _ h => backTurn_frame h (HostRegs.of_kinds i)).kinds (rs := hostKinds)
  · obtain ⟨u, hclku, hu, ht⟩ := State.each_turn_keeping (obs := hostSeen) (R := ClkKept)
      (fun i j t hij => hostSeen_apart (backTurn_frame (.refl t) (HostTurn.regs i)) (backTurn_sees i t) hij) .refl .trans backTurn_clocks (pairLanes k)
      (mem_pairLanes hk) (s.setFlag HSI_CLK.HCKI_PRESENT k true)
    obtain ⟨hstatus, hu⟩ := Prod.mk.inj hu
    obtain ⟨hcfg, hu⟩ := Prod.mk.inj hu
    obtain ⟨hctrl, humem⟩ := Prod.mk.inj hu
    obtain ⟨htstatus, -⟩ := Prod.mk.inj ht
    have hufcm : u.fcm h = true := (State.fcm_congr _ (hcfg.trans (hback.reg_eq (by decide)))).trans hfcm
    have hurx : u.hrx h = s.hrx h := State.fld_congr (hstatus.trans (hback.reg_eq (by decide)))
    have huquiet : u.flag HSI_CTRL.RX_QUIET h = s.flag HSI_CTRL.RX_QUIET h := State.flag_congr (hctrl.trans (hback.reg_eq (by decide)))
    have humem' : u.hsiOf h = s.hsiOf h := humem
    have hucki : u.hcki h = true := by
      rw [hclku.hcki, State.hcki, hk]
      exact State.flag_setFlag_eq s k true (by decide)
    have husynth : u.hsynth h = true := (s.hsynth_congr (hclku.clk.trans (hback.reg_eq (by decide)))).trans hsynth
    have huclk : u.hclocks h = true := by rw [State.hclocks, husynth, hucki, Bool.or_true, Bool.and_true]
    have hfinal : (State.each (s.setFlag HSI_CLK.HCKI_PRESENT k true) ((List.range 8).map (8 * k.val + ·)) backTurn).hrx h = (backTurn h u).hrx h :=
      State.fld_congr (f := HSI_STATUS.RX_STATE) htstatus
    rw [hfinal]
    rcases hst with hst | hst
    · have hturn : backTurn h u = u.hostClockBack h := by
        rw [backTurn, hurx, hst, if_neg (fun e => absurd e.1 (by decide)), if_pos rfl]
      rw [hturn]
      refine (hrx_hostClockBack (by rw [hurx, hst]) (by rw [humem', hlost]) huclk).trans ?_
      rw [humem', huquiet]
      simp only [hst, true_and]
    · have hturn : backTurn h u = (u.modHsi h fun x => { x with stored := false }).wakeHost h := by
        rw [backTurn, hurx, hst, hufcm, humem', hlost, if_pos ⟨rfl, rfl, rfl⟩]
      rw [hturn, hst, if_neg (fun e => absurd e.1 (by decide))]
      have hclocks : (u.modHsi h fun x => { x with stored := false }).hclocks h = true := huclk
      exact (State.wakeHost_shows (u.modHsi h fun x => { x with stored := false }) hclocks).1

/-! ### Rates and relaying -/

theorem freq_lt (f : BitVec 16) : f.toNat % 2 ^ 16 = f.toNat := Nat.mod_eq_of_lt f.isLt

theorem hostsOf_nodup (s : State) (n : Nat) : (s.hostsOf n).Nodup := List.Nodup.filter _ (by decide)

/-- The frequencies of two lanes set, with their mismatch (R22). -/
def ratesShown (s : State) (a b : Nat) (f₀ f₁ : BitVec 16) (bad : Bool) : State :=
  (((s.setFld HSI_FREQ.FREQ a f₀.toNat).setFld HSI_FREQ.FREQ b f₁.toNat).setFlag HSI_STATUS.RATE_MISMATCH a bad).setFlag HSI_STATUS.RATE_MISMATCH b bad

theorem rate_mismatch {n : Lane} {a b : Nat} {f₀ f₁ : BitVec 16} {dropped : Nat} (hhosts : s.hostsOf n = [a, b]) (hsvc : s.hsvc a = Svc.TRANSPARENT)
    (hppm : 1000 < (f₀.toInt - f₁.toInt).natAbs) : Completes (.rateMismatch n f₀ f₁ dropped) s fun t =>
      t.flag HSI_STATUS.RATE_MISMATCH a = true ∧ t.flag HSI_STATUS.RATE_MISMATCH b = true ∧ t.fld HSI_FREQ.FREQ a = f₀.toNat ∧
      t.fld HSI_FREQ.FREQ b = f₁.toNat ∧ t.fld HSI_TP_DROP.COUNT b = (s.fld HSI_TP_DROP.COUNT b + dropped) % 2 ^ HSI_TP_DROP.COUNT.width ∧
      Keeps [(.HSI_STATUS, a), (.HSI_STATUS, b), (.HSI_FREQ, a), (.HSI_FREQ, b), (.HSI_TP_DROP, b), (.EVL_DROPPED, 0)] s t := by
  have hab : a ≠ b := by
    have hnodup := hostsOf_nodup s n
    rw [hhosts] at hnodup
    simpa using hnodup
  have hbad : ppmBeyond 1000 (f₀.toInt - f₁.toInt) = true := decide_eq_true hppm
  obtain ⟨was, hexec⟩ : ∃ was : Bool, exec (.rateMismatch n f₀ f₁ dropped) s = .next
      ((if !was then (ratesShown s a b f₀ f₁ true).logHost b HEvt.RATE else ratesShown s a b f₀ f₁ true).count HSI_TP_DROP.COUNT b dropped) := by
    refine ⟨((s.setFld HSI_FREQ.FREQ a f₀.toNat).setFld HSI_FREQ.FREQ b f₁.toNat).flag HSI_STATUS.RATE_MISMATCH b, ?_⟩
    change execRateMismatch n f₀ f₁ dropped s = _
    rw [execRateMismatch, hhosts]
    dsimp only
    rw [if_neg (not_not.2 hsvc), hbad]
    rfl
  have hlog (f : Field) (i : Nat) (hf : f.reg ≠ .EVL_DROPPED) : (if !was then (ratesShown s a b f₀ f₁ true).logHost b HEvt.RATE else
      ratesShown s a b f₀ f₁ true).fld f i = (ratesShown s a b f₀ f₁ true).fld f i := by
    split
    · exact State.fld_logHost_other _ _ hf
    · rfl
  have hfinal (f : Field) (i : Nat) (hf : f.reg ≠ .EVL_DROPPED) (hc : HSI_TP_DROP.COUNT.apart f = true) :
      ((if !was then (ratesShown s a b f₀ f₁ true).logHost b HEvt.RATE else ratesShown s a b f₀ f₁ true).count HSI_TP_DROP.COUNT b dropped).fld f i =
        (ratesShown s a b f₀ f₁ true).fld f i := (State.fld_count_of_apart _ _ _ _ hc).trans (hlog f i hf)
  refine ⟨_, hexec, ?_, ?_, ?_, ?_, ?_, ?_⟩
  · refine (State.flag_eq_of_fld (hfinal _ _ (by decide) (by decide))).trans ?_
    exact (State.flag_eq_of_fld (State.fld_setFlag_index _ _ hab)).trans (State.flag_setFlag_eq _ _ _ (by decide))
  · exact (State.flag_eq_of_fld (hfinal _ _ (by decide) (by decide))).trans (State.flag_setFlag_eq _ _ _ (by decide))
  · refine (hfinal _ _ (by decide) (by decide)).trans ?_
    rw [ratesShown, State.fld_setFlag_of_apart _ _ _ _ (by decide), State.fld_setFlag_of_apart _ _ _ _ (by decide)]
    exact (State.fld_setFld_index _ _ hab).trans ((State.fld_setFld_eq _ _ _ (by decide)).trans (freq_lt f₀))
  · refine (hfinal _ _ (by decide) (by decide)).trans ?_
    rw [ratesShown, State.fld_setFlag_of_apart _ _ _ _ (by decide), State.fld_setFlag_of_apart _ _ _ _ (by decide)]
    exact (State.fld_setFld_eq _ _ _ (by decide)).trans (freq_lt f₁)
  · refine (State.fld_count_eq _ _ _ (by decide)).trans ?_
    rw [hlog _ _ (by decide), ratesShown]
    simp (disch := decide) only [State.fld_setFlag_of_apart, State.fld_setFld_of_apart]
    rfl
  · refine (Frame.count (Frame.ite (fun _ => Frame.logHost ?_) fun _ => ?_)).keeps <;>
      exact (((Frame.refl s).setFld.setFld).setFlag).setFlag

theorem rate_range {h : HLane} {freq : BitVec 16} {dropped : Nat} (hsvc : s.hsvc h = Svc.TRANSPARENT) (hlocked : s.hrx h = HRx.LOCKED)
    (hppm : 25000 < freq.toInt.natAbs) : Completes (.rateRange h freq dropped) s fun t => t.flag HSI_STATUS.RATE_RANGE h = true ∧
      t.fld HSI_FREQ.FREQ h = freq.toNat ∧ t.fld HSI_TP_DROP.COUNT h = (s.fld HSI_TP_DROP.COUNT h + dropped) % 2 ^ HSI_TP_DROP.COUNT.width ∧
      Keeps [(.HSI_STATUS, h.val), (.HSI_FREQ, h.val), (.HSI_TP_DROP, h.val), (.EVL_DROPPED, 0)] s t := by
  have hbad : ppmBeyond 25000 freq.toInt = true := decide_eq_true hppm
  obtain ⟨was, hexec⟩ : ∃ was : Bool, exec (.rateRange h freq dropped) s = .next
      ((if !was then ((s.setFld HSI_FREQ.FREQ h freq.toNat).setFlag HSI_STATUS.RATE_RANGE h true).logHost h HEvt.RATE else
        (s.setFld HSI_FREQ.FREQ h freq.toNat).setFlag HSI_STATUS.RATE_RANGE h true).count HSI_TP_DROP.COUNT h dropped) := by
    refine ⟨(s.setFld HSI_FREQ.FREQ h freq.toNat).flag HSI_STATUS.RATE_RANGE h, ?_⟩
    change execRateRange h freq dropped s = _
    rw [execRateRange, if_neg (not_or.2 ⟨not_not.2 hsvc, not_not.2 hlocked⟩), hbad]
    rfl
  have hlog (f : Field) (hf : f.reg ≠ .EVL_DROPPED) : (if !was then
      ((s.setFld HSI_FREQ.FREQ h freq.toNat).setFlag HSI_STATUS.RATE_RANGE h true).logHost h HEvt.RATE else
        (s.setFld HSI_FREQ.FREQ h freq.toNat).setFlag HSI_STATUS.RATE_RANGE h true).fld f h =
      ((s.setFld HSI_FREQ.FREQ h freq.toNat).setFlag HSI_STATUS.RATE_RANGE h true).fld f h := by
    split
    · exact State.fld_logHost_other _ _ hf
    · rfl
  refine ⟨_, hexec, ?_, ?_, ?_, ?_⟩
  · refine (State.flag_eq_of_fld ((State.fld_count_of_apart _ _ _ _ (by decide)).trans (hlog _ (by decide)))).trans ?_
    exact State.flag_setFlag_eq _ _ _ (by decide)
  · refine (State.fld_count_of_apart _ _ _ _ (by decide)).trans ((hlog _ (by decide)).trans ?_)
    rw [State.fld_setFlag_of_apart _ _ _ _ (by decide), State.fld_setFld_eq _ _ _ (by decide)]
    exact freq_lt freq
  · refine (State.fld_count_eq _ _ _ (by decide)).trans ?_
    rw [hlog _ (by decide)]
    simp (disch := decide) only [State.fld_setFlag_of_apart, State.fld_setFld_of_apart]
    rfl
  · refine (Frame.count (Frame.ite (fun _ => Frame.logHost ?_) fun _ => ?_)).keeps <;>
      exact ((Frame.refl s).setFld).setFlag

theorem rate_slewed {n : Lane} (hsvc : s.svc n = Svc.TRANSPARENT) (hlocked : s.locked n = true)
    (hmf : s.ieee n = true ∨ s.flag LFEC_STATUS.MF_KNOWN n = true) : Completes (.recoveredRateSlewDone n) s fun t =>
      (∀ h ∈ s.hostsOf n, (t.hsiOf h).relaying = true) ∧ Keeps [] s t := by
  have hexec : exec (.recoveredRateSlewDone n) s =
      .next (s.each (s.hostsOf n) fun h s => s.modHsi h fun x => { x with relaying := true }) := congrArg _ (if_pos ⟨hsvc, hlocked, hmf⟩)
  refine ⟨_, hexec, fun h hh => ?_, ((Frame.refl s).each fun _ _ h => h.modHsi).keeps⟩
  obtain ⟨u, -, ht⟩ := State.each_turn (obs := State.hsiOf) (f := fun h s => s.modHsi h fun x => { x with relaying := true })
    (fun i j t hij => t.hsiOf_modHsi_other _ hij) (hostsOf_nodup s n) hh s
  rw [ht, State.hsiOf_modHsi_same]

end

/-- Settles O19: HCKI by one turn of each lane of the pair, the rates by their own fields. -/
theorem hostClocks : Obligations.HostClocks :=
  ⟨fun _ k => ⟨hcki_missing k, hcki_present k⟩, fun _ _ _ _ _ _ _ hhosts hsvc hppm => rate_mismatch hhosts hsvc hppm,
    fun _ _ _ _ hsvc hlocked hppm => rate_range hsvc hlocked hppm, fun _ _ hsvc hlocked hmf => rate_slewed hsvc hlocked hmf⟩

end Sys2Proof.Proofs
end

section
/-! PROOFS. O17: the control of host receivers and transmitters (chapter 6). -/
namespace Sys2Proof.Proofs
open Sys2Proof Sys2Proof.Machine Sys2Proof.Claims
set_option Elab.async false

section
variable {s t u : State} {p : Path} {h : HLane}

/-! ### The stages of a write to the control register (Tables 6-10 and 6-11) -/

def ctlRx (h : Nat) (was now : Bool) (s : State) : State := if now then s.enableHrx h else if was then s.disableHrx h HLoss.DISABLED else s
def ctlTx (h : Nat) (was now : Bool) (s : State) : State := if now then s.enableHtx h else if was then s.disableHtx h else s

/-- RELOCK of a lane that has a lock or looks for one. -/
def ctlRelock (h : Nat) (now : Bool) (s : State) : State :=
  if now then
    if s.hrx h = HRx.LOCKED then (s.leaveHost h HLoss.DISABLED HRx.CDR).toCdr h false
    else if HRx.CDR ≤ s.hrx h then s.toCdr h false
    else s
  else s

/-- RX_QUIET of a lane that acquires: a warm pass keeps the cause. -/
def quietCause (h : Nat) (s : State) : State :=
  if HRx.CDR ≤ s.hrx h ∧ (s.hsiOf h).warm then s.setFld HSI_STATUS.LOSS_CAUSE h HLoss.QUIET else s

def rxQuietSet (h : Nat) (s : State) : State :=
  if s.hrx h = HRx.LOCKED then s.leaveHost h HLoss.QUIET HRx.QUIET
  else if HRx.DETECT ≤ s.hrx h then (quietCause h s).goHrx h HRx.QUIET
  else if s.hrx h = HRx.QUIET then s
  else s.modHsi h fun x => { x with rxQuietDue := true }

def ctlRxQuiet (h : Nat) (now : Bool) (s : State) : State :=
  if now then rxQuietSet h (s.modHsi h fun x => { x with quietAt := some s.cycle })
  else (s.modHsi h fun x => { x with rxQuietDue := false }).wakeIfQuiet h

def ctlTxQuiet (h : Nat) (now : Bool) (s : State) : State :=
  if now then
    if s.htx h = HTx.ACTIVE then s.setFld HSI_STATUS.TX_STATE h HTx.QUIET
    else if s.htx h = HTx.WAKING then s.modHsi h fun x => { x with quietDue := true }
    else if s.htx h = HTx.PENDING ∧ (s.hsiOf h).wakeDue then
      ((s.setFld HSI_STATUS.TX_STATE h HTx.QUIET).modHsi h fun x => { x with wakeDue := false, txClockLost := false }).showHostClk (h / 8)
    else s
  else (s.modHsi h fun x => { x with quietDue := false }).wakeTx h

def ctlTrack (h : Nat) (freeze : Bool) (s : State) : State :=
  if s.hrx h = HRx.LOCKED ∧ !freeze then s.modHsi h fun x => { x with tracked := true } else s

/-- The value that a write gives one bit. -/
abbrev bitOf (v : Nat) (f : Field) : Bool := decide (fieldOf v f = 1)

theorem wrHsiCtrl_eq (h v : Nat) (s : State) : (wrHsiCtrl h v s).1 = ctlTrack h (bitOf v HSI_CTRL.RX_FREEZE)
    (ctlTxQuiet h (bitOf v HSI_CTRL.TX_QUIET) (ctlRxQuiet h (bitOf v HSI_CTRL.RX_QUIET) (ctlRelock h (bitOf v HSI_CTRL.RELOCK)
      (ctlTx h (s.flag HSI_CTRL.TX_EN h) (bitOf v HSI_CTRL.TX_EN) (ctlRx h (s.flag HSI_CTRL.RX_EN h) (bitOf v HSI_CTRL.RX_EN)
        (plainWrite .HSI_CTRL h v s)))))) := rfl

/-! ### The frame of the stages -/

section
variable {P : Reg → Nat → Prop} {n : Nat} {b c : Bool}

theorem ctlRx_frame (hu : Frame P s u) (hP : HostRegs P n) : Frame P s (ctlRx n b c u) :=
  Frame.ite (fun _ => hu.enableHrx hP) fun _ => hu.when fun h => h.disableHrx hP

theorem ctlTx_frame (hu : Frame P s u) (hP : HostRegs P n) : Frame P s (ctlTx n b c u) :=
  Frame.ite (fun _ => hu.enableHtx hP) fun _ => hu.when fun h => h.disableHtx hP

theorem ctlRelock_frame (hu : Frame P s u) (hP : HostRegs P n) : Frame P s (ctlRelock n c u) :=
  hu.when fun hu => Frame.ite (fun _ => (hu.leaveHost hP).toCdr hP) fun _ => hu.when fun h => h.toCdr hP

theorem rxQuietSet_frame (hu : Frame P s u) (hP : HostRegs P n) : Frame P s (rxQuietSet n u) := by
  unfold rxQuietSet
  refine Frame.ite (fun _ => hu.leaveHost hP) fun _ => Frame.ite (fun _ => ?_) fun _ => hu.skip fun h => h.modHsi
  exact Frame.setFld (hu.when fun h => h.setFld hP.status) hP.status

theorem ctlRxQuiet_frame (hu : Frame P s u) (hP : HostRegs P n) : Frame P s (ctlRxQuiet n c u) :=
  Frame.ite (fun _ => rxQuietSet_frame hu.modHsi hP) fun _ => hu.modHsi.wakeIfQuiet hP

theorem ctlTxQuiet_frame (hu : Frame P s u) (hP : HostRegs P n) : Frame P s (ctlTxQuiet n c u) :=
  Frame.ite (fun _ => Frame.ite (fun _ => hu.setFld hP.status) fun _ => Frame.ite (fun _ => hu.modHsi) fun _ =>
    hu.when fun h => ((h.setFld hP.status).modHsi).showHostClk hP.clk) fun _ => hu.modHsi.wakeTx hP

theorem ctlTrack_frame (hu : Frame P s u) : Frame P s (ctlTrack n c u) := hu.when fun h => h.modHsi

end

/-- The stages in order, of a lane whose enables read and are written as said. -/
def stages (h : Nat) (rxWas rx txWas tx relock rxQuiet txQuiet freeze : Bool) (s : State) : State :=
  ctlTrack h freeze (ctlTxQuiet h txQuiet (ctlRxQuiet h rxQuiet (ctlRelock h relock (ctlTx h txWas tx (ctlRx h rxWas rx s)))))

theorem stages_frame {P : Reg → Nat → Prop} {n : Nat} {a b c d e f g k : Bool} (hu : Frame P s u) (hP : HostRegs P n) :
    Frame P s (stages n a b c d e f g k u) :=
  ctlTrack_frame (ctlTxQuiet_frame (ctlRxQuiet_frame (ctlRelock_frame (ctlTx_frame (ctlRx_frame hu hP) hP) hP) hP) hP)

/-! ### What a command writes -/

theorem hsiCtrlValue_own (s : State) (h x : Nat) {f : Field} (hle : f.lo ≤ f.hi) (hhi : f.hi < 512) :
    fieldOf (s.hsiCtrlValue h f x) f = x % 2 ^ f.width := fieldOf_withField_same _ _ hle hhi

theorem bitOf_hsiCtrlValue (s : State) (h x : Nat) {f g : Field} (hle : f.lo ≤ f.hi) (hhi : f.hi < 512) (hap : g.hi < f.lo ∨ f.hi < g.lo)
    (hg : g.has .rw) (hreg : g.reg = .HSI_CTRL) (hbit : g.lo = g.hi) : bitOf (s.hsiCtrlValue h f x) g = s.flag g h := by
  rw [bitOf, State.hsiCtrlValue, fieldOf_withField_apart _ _ (s.writeBack_lt .HSI_CTRL h (by decide)) hle hhi hap hg.2.1, ← hreg,
    fieldOf_writeBack s h hg (.inl rfl), decide_fld_one hbit]

theorem relock_hsiCtrlValue (s : State) (h x : Nat) {f : Field} (hle : f.lo ≤ f.hi) (hhi : f.hi < 7) :
    bitOf (s.hsiCtrlValue h f x) HSI_CTRL.RELOCK = false := by
  rw [bitOf, State.hsiCtrlValue, fieldOf_withField_apart _ _ (s.writeBack_lt .HSI_CTRL h (by decide)) hle (by omega) (.inr hhi) (by decide),
    fieldOf_writeBack_zero (g := HSI_CTRL.RELOCK) (acc := .wo) s h (by decide) (by decide)]
  rfl

/-- A register write of one field of the control register. -/
theorem hsiCtrl_write {f : Field} (hf : f.has .rw) (hreg : f.reg = .HSI_CTRL) (x n : Nat) :
    plainWrite .HSI_CTRL n (s.hsiCtrlValue n f x) s = s.setFld f n x := by
  have h' := plainWrite_writeBack_eq_setFld s (f := f) (acc := .rw) n x hf (.inl rfl)
  rw [hreg] at h'
  exact h'

theorem rxEn_stages (x : Nat) (n : Nat) : (wrHsiCtrl n (s.hsiCtrlValue n HSI_CTRL.RX_EN x) s).1 =
    stages n (s.flag HSI_CTRL.RX_EN n) (decide (x % 2 = 1)) (s.flag HSI_CTRL.TX_EN n) (s.flag HSI_CTRL.TX_EN n) false (s.flag HSI_CTRL.RX_QUIET n)
      (s.flag HSI_CTRL.TX_QUIET n) (s.flag HSI_CTRL.RX_FREEZE n) (s.setFld HSI_CTRL.RX_EN n x) := by
  rw [wrHsiCtrl_eq, hsiCtrl_write (by decide) rfl, relock_hsiCtrlValue _ _ _ (by decide) (by decide),
    bitOf_hsiCtrlValue s n x (g := HSI_CTRL.TX_EN) (by decide) (by decide) (by decide) (by decide) rfl rfl,
    bitOf_hsiCtrlValue s n x (g := HSI_CTRL.RX_QUIET) (by decide) (by decide) (by decide) (by decide) rfl rfl,
    bitOf_hsiCtrlValue s n x (g := HSI_CTRL.TX_QUIET) (by decide) (by decide) (by decide) (by decide) rfl rfl,
    bitOf_hsiCtrlValue s n x (g := HSI_CTRL.RX_FREEZE) (by decide) (by decide) (by decide) (by decide) rfl rfl, bitOf,
    hsiCtrlValue_own s n x (by decide) (by decide)]
  rfl

theorem txEn_stages (x : Nat) (n : Nat) : (wrHsiCtrl n (s.hsiCtrlValue n HSI_CTRL.TX_EN x) s).1 =
    stages n (s.flag HSI_CTRL.RX_EN n) (s.flag HSI_CTRL.RX_EN n) (s.flag HSI_CTRL.TX_EN n) (decide (x % 2 = 1)) false (s.flag HSI_CTRL.RX_QUIET n)
      (s.flag HSI_CTRL.TX_QUIET n) (s.flag HSI_CTRL.RX_FREEZE n) (s.setFld HSI_CTRL.TX_EN n x) := by
  rw [wrHsiCtrl_eq, hsiCtrl_write (by decide) rfl, relock_hsiCtrlValue _ _ _ (by decide) (by decide),
    bitOf_hsiCtrlValue s n x (g := HSI_CTRL.RX_EN) (by decide) (by decide) (by decide) (by decide) rfl rfl,
    bitOf_hsiCtrlValue s n x (g := HSI_CTRL.RX_QUIET) (by decide) (by decide) (by decide) (by decide) rfl rfl,
    bitOf_hsiCtrlValue s n x (g := HSI_CTRL.TX_QUIET) (by decide) (by decide) (by decide) (by decide) rfl rfl,
    bitOf_hsiCtrlValue s n x (g := HSI_CTRL.RX_FREEZE) (by decide) (by decide) (by decide) (by decide) rfl rfl, bitOf,
    hsiCtrlValue_own s n x (by decide) (by decide)]
  rfl

theorem rxQuiet_stages (x : Nat) (n : Nat) : (wrHsiCtrl n (s.hsiCtrlValue n HSI_CTRL.RX_QUIET x) s).1 =
    stages n (s.flag HSI_CTRL.RX_EN n) (s.flag HSI_CTRL.RX_EN n) (s.flag HSI_CTRL.TX_EN n) (s.flag HSI_CTRL.TX_EN n) false (decide (x % 2 = 1))
      (s.flag HSI_CTRL.TX_QUIET n) (s.flag HSI_CTRL.RX_FREEZE n) (s.setFld HSI_CTRL.RX_QUIET n x) := by
  rw [wrHsiCtrl_eq, hsiCtrl_write (by decide) rfl, relock_hsiCtrlValue _ _ _ (by decide) (by decide),
    bitOf_hsiCtrlValue s n x (g := HSI_CTRL.RX_EN) (by decide) (by decide) (by decide) (by decide) rfl rfl,
    bitOf_hsiCtrlValue s n x (g := HSI_CTRL.TX_EN) (by decide) (by decide) (by decide) (by decide) rfl rfl,
    bitOf_hsiCtrlValue s n x (g := HSI_CTRL.TX_QUIET) (by decide) (by decide) (by decide) (by decide) rfl rfl,
    bitOf_hsiCtrlValue s n x (g := HSI_CTRL.RX_FREEZE) (by decide) (by decide) (by decide) (by decide) rfl rfl, bitOf,
    hsiCtrlValue_own s n x (by decide) (by decide)]
  rfl

theorem txQuiet_stages (x : Nat) (n : Nat) : (wrHsiCtrl n (s.hsiCtrlValue n HSI_CTRL.TX_QUIET x) s).1 =
    stages n (s.flag HSI_CTRL.RX_EN n) (s.flag HSI_CTRL.RX_EN n) (s.flag HSI_CTRL.TX_EN n) (s.flag HSI_CTRL.TX_EN n) false
      (s.flag HSI_CTRL.RX_QUIET n) (decide (x % 2 = 1)) (s.flag HSI_CTRL.RX_FREEZE n) (s.setFld HSI_CTRL.TX_QUIET n x) := by
  rw [wrHsiCtrl_eq, hsiCtrl_write (by decide) rfl, relock_hsiCtrlValue _ _ _ (by decide) (by decide),
    bitOf_hsiCtrlValue s n x (g := HSI_CTRL.RX_EN) (by decide) (by decide) (by decide) (by decide) rfl rfl,
    bitOf_hsiCtrlValue s n x (g := HSI_CTRL.TX_EN) (by decide) (by decide) (by decide) (by decide) rfl rfl,
    bitOf_hsiCtrlValue s n x (g := HSI_CTRL.RX_QUIET) (by decide) (by decide) (by decide) (by decide) rfl rfl,
    bitOf_hsiCtrlValue s n x (g := HSI_CTRL.RX_FREEZE) (by decide) (by decide) (by decide) (by decide) rfl rfl, bitOf,
    hsiCtrlValue_own s n x (by decide) (by decide)]
  rfl

/-- RELOCK only commands: the register keeps its value. -/
def relockWritten (s : State) (n : Nat) : State := plainWrite .HSI_CTRL n (s.hsiCtrlValue n HSI_CTRL.RELOCK 1) s

theorem relock_stages (n : Nat) : (wrHsiCtrl n (s.hsiCtrlValue n HSI_CTRL.RELOCK 1) s).1 =
    stages n (s.flag HSI_CTRL.RX_EN n) (s.flag HSI_CTRL.RX_EN n) (s.flag HSI_CTRL.TX_EN n) (s.flag HSI_CTRL.TX_EN n) true
      (s.flag HSI_CTRL.RX_QUIET n) (s.flag HSI_CTRL.TX_QUIET n) (s.flag HSI_CTRL.RX_FREEZE n) (relockWritten s n) := by
  rw [wrHsiCtrl_eq,
    bitOf_hsiCtrlValue s n 1 (g := HSI_CTRL.RX_EN) (by decide) (by decide) (by decide) (by decide) rfl rfl,
    bitOf_hsiCtrlValue s n 1 (g := HSI_CTRL.TX_EN) (by decide) (by decide) (by decide) (by decide) rfl rfl,
    bitOf_hsiCtrlValue s n 1 (g := HSI_CTRL.RX_QUIET) (by decide) (by decide) (by decide) (by decide) rfl rfl,
    bitOf_hsiCtrlValue s n 1 (g := HSI_CTRL.TX_QUIET) (by decide) (by decide) (by decide) (by decide) rfl rfl,
    bitOf_hsiCtrlValue s n 1 (g := HSI_CTRL.RX_FREEZE) (by decide) (by decide) (by decide) (by decide) rfl rfl, bitOf,
    hsiCtrlValue_own s n 1 (by decide) (by decide)]
  rfl

/-! ### What the stages of one side leave of the other -/

/-- Only the transmitter's state, RESULT and PENDING of a clock pair are shown anew, and the receiver's memory of a warm pass is kept. -/
structure TxOnly (n : Nat) (s t : State) : Prop where
  fld : ∀ (f : Field) (i : Nat), HSI_STATUS.TX_STATE.apart f = true → HSI_STATUS.RESULT.apart f = true → HSI_CLK.PENDING.apart f = true →
    t.fld f i = s.fld f i
  warm : (t.hsiOf n).warm = (s.hsiOf n).warm

namespace TxOnly
variable {n : Nat}

theorem refl (s : State) : TxOnly n s s := ⟨fun _ _ _ _ _ => rfl, rfl⟩

theorem trans (h : TxOnly n s u) (h' : TxOnly n u t) : TxOnly n s t :=
  ⟨fun f i ht hr hp => (h'.fld f i ht hr hp).trans (h.fld f i ht hr hp), h'.warm.trans h.warm⟩

theorem ite {c : Prop} {_ : Decidable c} {a b : State} (ha : TxOnly n s a) (hb : TxOnly n s b) : TxOnly n s (if c then a else b) := by
  split <;> assumption

theorem setTx {x : Nat} (hu : TxOnly n s u) : TxOnly n s (u.setFld HSI_STATUS.TX_STATE n x) :=
  hu.trans ⟨fun _ _ ht _ _ => State.fld_setFld_of_apart _ _ _ _ ht, rfl⟩

theorem setResult {x : Nat} (hu : TxOnly n s u) : TxOnly n s (u.setFld HSI_STATUS.RESULT n x) :=
  hu.trans ⟨fun _ _ _ hr _ => State.fld_setFld_of_apart _ _ _ _ hr, rfl⟩

theorem showHostClk {k : Nat} (hu : TxOnly n s u) : TxOnly n s (u.showHostClk k) :=
  hu.trans ⟨fun _ i _ _ hp => State.fld_showHostClk_apart _ i hp, rfl⟩

theorem modHsi {f : HsiX → HsiX} (hu : TxOnly n s u) (hf : ∀ x, (f x).warm = x.warm := by intro x; rfl) : TxOnly n s (u.modHsi n f) :=
  hu.trans ⟨fun _ _ _ _ _ => rfl, by rw [State.hsiOf_modHsi_same, hf]⟩

theorem ctlTx {b c : Bool} (hu : TxOnly n s u) : TxOnly n s (ctlTx n b c u) := by
  have hen : TxOnly n s (u.enableHtx n) := by
    unfold State.enableHtx State.upHtx
    exact ite hu (ite (hu.setResult.modHsi.setTx.modHsi.showHostClk) hu.setTx.modHsi.showHostClk)
  have hdis : TxOnly n s (u.disableHtx n) := hu.setTx.modHsi.showHostClk
  exact ite hen (ite hdis hu)

theorem ctlTxQuiet {c : Bool} (hu : TxOnly n s u) : TxOnly n s (ctlTxQuiet n c u) := by
  have hwake : TxOnly n s ((u.modHsi n fun x => { x with quietDue := false }).wakeTx n) := by
    unfold State.wakeTx
    exact ite hu.modHsi (ite hu.modHsi.setTx.modHsi hu.modHsi.setTx.modHsi.showHostClk)
  exact ite (ite hu.setTx (ite hu.modHsi (ite hu.setTx.modHsi.showHostClk hu))) hwake

theorem ctlTrack {c : Bool} (hu : TxOnly n s u) : TxOnly n s (ctlTrack n c u) := ite hu.modHsi hu

theorem hrx (h' : TxOnly n s t) : t.hrx n = s.hrx n := h'.fld _ _ (by decide) (by decide) (by decide)

theorem hclocks (h' : TxOnly n s t) : t.hclocks n = s.hclocks n := by
  have hfld (f : Field) (i : Nat) (ht : HSI_STATUS.TX_STATE.apart f = true) (hr : HSI_STATUS.RESULT.apart f = true)
      (hp : HSI_CLK.PENDING.apart f = true) : t.flag f i = s.flag f i := State.flag_eq_of_fld (h'.fld f i ht hr hp)
  rw [State.hclocks, State.hclocks, State.hsynth, State.hsynth, State.clocksPresent, State.clocksPresent, State.hostSynthLocked,
    State.hostSynthLocked, State.fcm, State.fcm, State.hcki, State.hcki, hfld CLK_STATUS.REF_PRESENT 0 (by decide) (by decide) (by decide),
    hfld CLK_STATUS.CORE_LOCK 0 (by decide) (by decide) (by decide), hfld HSI_CLK.HCKI_PRESENT (n / 8) (by decide) (by decide) (by decide),
    h'.fld CLK_STATUS.HOST_LOCK 0 (by decide) (by decide) (by decide), h'.fld HSI_CFG.MODE n (by decide) (by decide) (by decide)]

end TxOnly

/-- A receiver that is enabled, before it starts or waits (R158). -/
def hrxEnabling (s : State) (n : Nat) : State :=
  (s.setFld HSI_STATUS.LOSS_CAUSE n HLoss.NONE).modHsi n fun x => { x with stored := false, warm := false, clockLost := false }

theorem enableHrx_eq (s : State) (n : Nat) : s.enableHrx n = if s.hrx n ≠ HRx.DISABLED ∨ !s.hInUse n then s
    else if (hrxEnabling s n).hsynth n then ((hrxEnabling s n).setFld HSI_STATUS.RESULT n HRes.OK).startHrx n fun s => s.goHrx n HRx.DETECT
    else ((hrxEnabling s n).goHrx n HRx.PENDING).showHostClk (n / 8) := rfl

/-- The transmitter's state is kept, and what it remembers of a wake that waits. -/
structure RxOnly (n : Nat) (s t : State) : Prop where
  htx : t.htx n = s.htx n
  wake : (t.hsiOf n).wakeDue = (s.hsiOf n).wakeDue

/-- What the transmitter of lane `n` remembers of a wake. -/
def wakeOf (n k : Nat) (x : HsiX) : Bool := if k = n then x.wakeDue else false

theorem wakeOf_wake (n k : Nat) : SeesWake k (wakeOf n) := fun x y hxy => by rw [wakeOf, wakeOf, hxy]

namespace RxOnly
variable {n : Nat}

theorem of_sees (htx : t.htx n = s.htx n) (h' : HsiSees (wakeOf n) s t) : RxOnly n s t := by
  refine ⟨htx, ?_⟩
  have hn := h' n
  rwa [wakeOf, wakeOf, if_pos rfl, if_pos rfl] at hn

/-- A transmitter's state is no field that a receiver's operation shows. -/
theorem htx_toCdr {w : Bool} : (s.toCdr n w).htx n = s.htx n := by
  by_cases hc : s.hclocks n = true
  · exact s.fld_toCdr_apart hc _ (by decide) (by decide) (by decide) (by decide)
  · rw [State.toCdr, eq_false_of_ne_true hc, if_pos (show (!false) = true from rfl), State.htx, State.hostWaits, State.fld_showHostClk_apart _ _ (by decide), State.fld_modHsi,
      State.fld_goHrx_apart _ _ (by decide), State.fld_setFld_of_apart _ _ _ _ (by decide)]
    rfl

theorem htx_leaveHost {cause st : Nat} : (s.leaveHost n cause st).htx n = s.htx n :=
  s.fld_leaveHost_apart _ (by decide) (by decide) (by decide) (by decide) (by decide) (by decide)

theorem htx_wakeHost : (s.wakeHost n).htx n = s.htx n := by
  rw [State.wakeHost, State.htx, State.fld_logHost_other _ _ (by decide)]
  exact htx_toCdr.trans (State.fld_count_of_apart _ _ _ _ (by decide))

theorem htx_startHrx {st : Nat} : (s.startHrx n fun s => s.goHrx n st).htx n = s.htx n := by
  rw [State.startHrx]
  split
  · exact State.fld_goHrx_apart _ _ (by decide)
  · exact State.fld_goHrx_apart _ _ (by decide)

theorem htx_enableHrx : (s.enableHrx n).htx n = s.htx n := by
  have hset : (hrxEnabling s n).htx n = s.htx n := by
    rw [hrxEnabling, State.htx, State.fld_modHsi, State.fld_setFld_of_apart _ _ _ _ (by decide), State.htx]
  rw [enableHrx_eq]
  split
  · rfl
  · split
    · rw [htx_startHrx, State.htx, State.fld_setFld_of_apart _ _ _ _ (by decide)]
      exact hset
    · rw [State.htx, State.fld_showHostClk_apart _ _ (by decide), State.fld_goHrx_apart _ _ (by decide)]
      exact hset

theorem htx_disableHrx {cause : Nat} : (s.disableHrx n cause).htx n = s.htx n := by
  rw [State.disableHrx, State.htx, State.fld_showHostClk_apart _ _ (by decide), State.fld_modHsi, State.fld_dropFraming_apart _ _ (by decide)]
  split
  · exact htx_leaveHost
  · exact State.fld_goHrx_apart _ _ (by decide)

theorem ctlRx {b c : Bool} (s : State) : RxOnly n s (ctlRx n b c s) := by
  unfold Proofs.ctlRx
  split
  · exact of_sees htx_enableHrx ((HsiSees.refl s).enableHrx (wakeOf_wake n n))
  · split
    · exact of_sees htx_disableHrx ((HsiSees.refl s).disableHrx (wakeOf_wake n n))
    · exact ⟨rfl, rfl⟩

theorem rxQuietSet (s : State) : RxOnly n s (rxQuietSet n s) := by
  unfold Proofs.rxQuietSet
  split
  · exact of_sees htx_leaveHost ((HsiSees.refl s).leaveHost (wakeOf_wake n n))
  · split
    · have hcause : (quietCause n s).htx n = s.htx n ∧ (quietCause n s).hsi = s.hsi := by
        unfold quietCause
        split
        · exact ⟨State.fld_setFld_of_apart _ _ _ _ (by decide), rfl⟩
        · exact ⟨rfl, rfl⟩
      exact of_sees ((State.fld_goHrx_apart _ _ (by decide)).trans hcause.1) ((HsiSees.refl s).same hcause.2)
    · split
      · exact ⟨rfl, rfl⟩
      · exact of_sees rfl ((HsiSees.refl s).modWake (wakeOf_wake n n))

theorem ctlRxQuiet {c : Bool} (s : State) : RxOnly n s (ctlRxQuiet n c s) := by
  unfold Proofs.ctlRxQuiet
  split
  · obtain ⟨htx, hwake⟩ := rxQuietSet (n := n) (s.modHsi n fun x => { x with quietAt := some s.cycle })
    exact ⟨htx, hwake.trans (by rw [State.hsiOf_modHsi_same])⟩
  · refine of_sees ?_ (((HsiSees.refl s).modWake (wakeOf_wake n n)).wakeIfQuiet (wakeOf_wake n n))
    rw [State.wakeIfQuiet]
    split
    · exact htx_wakeHost
    · rfl

end RxOnly

/-! ### The receiver's commands -/

/-- The kinds that a write to the control register may change. -/
abbrev ctrlKinds : List Reg := [.HSI_CTRL, .HSI_STATUS, .HSI_CLK, .HSI_LOL, .HSI_WAKE, .HSI_FREQ, .HSI_EYE, .HPM_PORT_STATUS, .EVL_DROPPED]

theorem stages_keeps {n : Nat} {a b c d e f g k : Bool} (hu : Frame (fun r _ => r ∈ ctrlKinds) s u) :
    KeepsKinds ctrlKinds s (stages n a b c d e f g k u) := (stages_frame hu (HostRegs.of_kinds n)).kinds

/-- The control register is what the write has left. -/
theorem stages_ctrl {n : Nat} {a b c d e f g k : Bool} {q : Field} (hq : q.reg = .HSI_CTRL) :
    (stages n a b c d e f g k u).flag q n = u.flag q n :=
  (stages_frame (.refl u) (HostRegs.of_kinds (rs := hostKinds) n)).flag_eq (by rw [hq]; decide)

/-- What a receiver shows after the stages is what it shows once RX_QUIET has acted. -/
theorem stages_rx {n : Nat} {a b c d e f g k : Bool} (q : Field) (ht : HSI_STATUS.TX_STATE.apart q = true) (hr : HSI_STATUS.RESULT.apart q = true)
    (hp : HSI_CLK.PENDING.apart q = true) : (stages n a b c d e f g k u).fld q n =
      (ctlRxQuiet n f (ctlRelock n e (ctlTx n c d (ctlRx n a b u)))).fld q n :=
  ((TxOnly.refl _).ctlTxQuiet.ctlTrack).fld q n ht hr hp

theorem stages_warm {n : Nat} {a b c d e f g k : Bool} : ((stages n a b c d e f g k u).hsiOf n).warm =
    ((ctlRxQuiet n f (ctlRelock n e (ctlTx n c d (ctlRx n a b u)))).hsiOf n).warm := ((TxOnly.refl _).ctlTxQuiet.ctlTrack).warm

/-- A receiver that is on keeps its enable as it is. -/
theorem ctlRx_on {n : Nat} {b : Bool} (hon : s.hrx n ≠ HRx.DISABLED) : ctlRx n b b s = s := by
  unfold ctlRx
  cases b
  · rfl
  · exact (if_pos rfl).trans (if_pos (.inl hon))

theorem ctlRxQuiet_off {n : Nat} (hst : s.hrx n ≠ HRx.QUIET) : ctlRxQuiet n false s = s.modHsi n fun x => { x with rxQuietDue := false } :=
  State.wakeIfQuiet_of_not _ hst

/-- A lane that RX_QUIET does not reach: PENDING, DISABLED, or quiet already. -/
theorem ctlRxQuiet_idle {n : Nat} {b : Bool} (hst : s.hrx n = HRx.PENDING ∨ s.hrx n = HRx.DISABLED) (q : Field) :
    (ctlRxQuiet n b s).fld q n = s.fld q n := by
  cases b
  · rw [ctlRxQuiet_off (by rcases hst with h' | h' <;> rw [h'] <;> decide), State.fld_modHsi]
  · have hne (v : Nat) (hv : v ≠ HRx.PENDING ∧ v ≠ HRx.DISABLED) : s.hrx n ≠ v := fun e => hst.elim (fun h' => hv.1 (e.symm.trans h'))
      fun h' => hv.2 (e.symm.trans h')
    have hlow : ¬HRx.DETECT ≤ s.hrx n := by rcases hst with h' | h' <;> rw [h'] <;> decide
    have hkeep : (s.modHsi n fun x => { x with quietAt := some s.cycle }).hrx n = s.hrx n := rfl
    rw [ctlRxQuiet, if_pos rfl, rxQuietSet, hkeep, if_neg (hne _ (by decide)), if_neg hlow, if_neg (hne _ (by decide)), State.fld_modHsi,
      State.fld_modHsi]

theorem rxEnabled_shows {n : Nat} (hoff : s.hrx n = HRx.DISABLED) (huse : s.hInUse n = true) :
    (s.enableHrx n).fld HSI_STATUS.LOSS_CAUSE n = HLoss.NONE ∧ (s.enableHrx n).hrx n = (if s.hsynth n = false then HRx.PENDING
      else if (s.hsiOf n).rxQuietDue = true ∧ s.flag HSI_CTRL.RX_QUIET n = true then HRx.QUIET else HRx.DETECT) := by
  have hframe : Frame (fun r _ => r = .HSI_STATUS) s (hrxEnabling s n) := ((Frame.refl s).setFld rfl).modHsi
  have hcause : (hrxEnabling s n).fld HSI_STATUS.LOSS_CAUSE n = HLoss.NONE := by
    rw [hrxEnabling, State.fld_modHsi, State.fld_setFld_eq _ _ _ (by decide)]
    rfl
  have hdue : ((hrxEnabling s n).hsiOf n).rxQuietDue = (s.hsiOf n).rxQuietDue := by
    rw [hrxEnabling, State.hsiOf_modHsi_same]
    rfl
  have hquiet : ((hrxEnabling s n).setFld HSI_STATUS.RESULT n HRes.OK).flag HSI_CTRL.RX_QUIET n = s.flag HSI_CTRL.RX_QUIET n :=
    (State.flag_setFld_of_apart _ _ _ _ (by decide)).trans (hframe.flag_eq (by decide))
  have hdue' : (((hrxEnabling s n).setFld HSI_STATUS.RESULT n HRes.OK).hsiOf n).rxQuietDue = (s.hsiOf n).rxQuietDue := hdue
  rw [enableHrx_eq, if_neg (by simp [hoff, huse]), State.hsynth_congr s (hframe.reg_eq (by decide))]
  cases hs : s.hsynth n
  · rw [if_neg Bool.false_ne_true, if_pos rfl, State.hrx, State.fld_showHostClk_apart _ _ (by decide), State.fld_showHostClk_apart _ _ (by decide),
      State.fld_goHrx_apart _ _ (by decide)]
    exact ⟨hcause, State.hrx_goHrx _ (by decide)⟩
  · rw [if_pos rfl, if_neg (by decide), State.startHrx, hdue', hquiet]
    have hset (v : State) (st : Nat) (hv : v.fld HSI_STATUS.LOSS_CAUSE n = HLoss.NONE) (hst : st < 16) :
        (v.goHrx n st).fld HSI_STATUS.LOSS_CAUSE n = HLoss.NONE ∧ (v.goHrx n st).hrx n = st :=
      ⟨(State.fld_goHrx_apart _ _ (by decide)).trans hv, State.hrx_goHrx _ hst⟩
    have hres : ((hrxEnabling s n).setFld HSI_STATUS.RESULT n HRes.OK).fld HSI_STATUS.LOSS_CAUSE n = HLoss.NONE :=
      (State.fld_setFld_of_apart _ _ _ _ (by decide)).trans hcause
    by_cases hq : (s.hsiOf n).rxQuietDue = true ∧ s.flag HSI_CTRL.RX_QUIET n = true
    · rw [if_pos hq, if_pos (by rwa [Bool.and_eq_true])]
      exact hset _ _ hres (by decide)
    · rw [if_neg hq, if_neg (by rwa [Bool.and_eq_true])]
      exact hset _ _ hres (by decide)

/-- RX_QUIET as it reads, of a lane that has just been enabled. -/
theorem ctlRxQuiet_enabled {n : Nat} {b : Bool} (hst : s.hrx n = HRx.PENDING ∨ s.hrx n = HRx.DETECT ∨ (s.hrx n = HRx.QUIET ∧ b = true)) :
    (ctlRxQuiet n b s).hrx n = (if s.hrx n = HRx.PENDING then HRx.PENDING else if b then HRx.QUIET else HRx.DETECT) ∧
      (ctlRxQuiet n b s).fld HSI_STATUS.LOSS_CAUSE n = s.fld HSI_STATUS.LOSS_CAUSE n := by
  rcases hst with hst | hst | ⟨hst, rfl⟩
  · rw [if_pos hst]
    exact ⟨(ctlRxQuiet_idle (.inl hst) _).trans hst, ctlRxQuiet_idle (.inl hst) _⟩
  · rw [hst, if_neg (by decide)]
    cases b
    · rw [ctlRxQuiet_off (by rw [hst]; decide), if_neg Bool.false_ne_true]
      exact ⟨hst, rfl⟩
    · have hkeep : (s.modHsi n fun x => { x with quietAt := some s.cycle }).hrx n = HRx.DETECT := hst
      rw [ctlRxQuiet, if_pos rfl, if_pos rfl, rxQuietSet, hkeep, if_neg (by decide), if_pos (by decide), quietCause, hkeep,
        if_neg (fun e => absurd e.1 (by decide))]
      exact ⟨State.hrx_goHrx _ (by decide), State.fld_goHrx_apart _ _ (by decide)⟩
  · have hkeep : (s.modHsi n fun x => { x with quietAt := some s.cycle }).hrx n = HRx.QUIET := hst
    rw [ctlRxQuiet, if_pos rfl, rxQuietSet, hkeep, if_neg (by decide), if_neg (by decide), if_pos rfl, hst, if_neg (by decide), if_pos rfl]
    exact ⟨hst, rfl⟩

theorem hsiCtrl_exec {v : Nat} {i : Instr} (hacc : Accepts s p .HSI_CTRL h) (hi : exec i s = writeCommand p .HSI_CTRL h v (wrHsiCtrl h v) s) :
    exec i s = .next (wrHsiCtrl h v s).1 := hi.trans (writeCommand_accepted _ hacc)

theorem rx_enabled (hacc : Accepts s p .HSI_CTRL h) (hoff : s.hrx h = HRx.DISABLED) (huse : s.hInUse h = true) :
    Completes (.hsiRxEnable p h) s fun t => t.flag HSI_CTRL.RX_EN h = true ∧ t.fld HSI_STATUS.LOSS_CAUSE h = HLoss.NONE ∧
      KeepsKinds ctrlKinds s t ∧
      t.hrx h = (if s.hsynth h = false then HRx.PENDING else if s.flag HSI_CTRL.RX_QUIET h = true then HRx.QUIET else HRx.DETECT) := by
  have hexec : exec (.hsiRxEnable p h) s = _ := (hsiCtrl_exec hacc rfl).trans (congrArg _ (rxEn_stages 1 h))
  have hset : Frame (fun r _ => r = .HSI_CTRL) s (s.setFld HSI_CTRL.RX_EN h 1) := (Frame.refl s).setFld rfl
  obtain ⟨hloss, hrx⟩ := rxEnabled_shows (s := s.setFld HSI_CTRL.RX_EN h 1) (n := h) ((hset.fld_eq (by decide)).trans hoff)
    ((hset.flag_eq (by decide)).trans huse)
  have hquiet : (s.setFld HSI_CTRL.RX_EN h 1).flag HSI_CTRL.RX_QUIET h = s.flag HSI_CTRL.RX_QUIET h := State.flag_setFld_of_apart _ _ _ _ (by decide)
  rw [State.hsynth_congr s (hset.reg_eq (by decide)), hquiet] at hrx
  have htx : TxOnly h ((s.setFld HSI_CTRL.RX_EN h 1).enableHrx h) (ctlTx h (s.flag HSI_CTRL.TX_EN h) (s.flag HSI_CTRL.TX_EN h)
    ((s.setFld HSI_CTRL.RX_EN h 1).enableHrx h)) := (TxOnly.refl _).ctlTx
  obtain ⟨hend, hcause⟩ := ctlRxQuiet_enabled (n := h) (b := s.flag HSI_CTRL.RX_QUIET h) (s := ctlTx h (s.flag HSI_CTRL.TX_EN h)
    (s.flag HSI_CTRL.TX_EN h) ((s.setFld HSI_CTRL.RX_EN h 1).enableHrx h)) (by
      rw [htx.hrx, hrx]
      split
      · exact .inl rfl
      · split
        next hq => exact .inr (.inr ⟨rfl, hq.2⟩)
        next => exact .inr (.inl rfl))
  refine ⟨_, hexec, ?_, ?_, stages_keeps ((Frame.refl s).setFld (by decide)), ?_⟩
  · exact (stages_ctrl rfl).trans (State.flag_setFlag_eq s h true (by decide))
  · refine (stages_rx _ (by decide) (by decide) (by decide)).trans (hcause.trans ?_)
    exact (htx.fld _ _ (by decide) (by decide) (by decide)).trans hloss
  · refine (stages_rx _ (by decide) (by decide) (by decide)).trans (hend.trans ?_)
    rw [htx.hrx, hrx]
    cases s.hsynth h
    · rfl
    · have hne : (if ((s.setFld HSI_CTRL.RX_EN h 1).hsiOf h).rxQuietDue = true ∧ s.flag HSI_CTRL.RX_QUIET h = true then HRx.QUIET
          else HRx.DETECT) ≠ HRx.PENDING := by split <;> decide
      rw [if_neg (show ¬true = false by decide), if_neg (show ¬true = false by decide), if_neg hne]

/-- A receiver that is disabled shows it; one that was LOCKED counts its loss (R162). -/
theorem disableHrx_shows (n : Nat) {cause : Nat} (hcause : cause < 16) : (s.disableHrx n cause).hrx n = HRx.DISABLED ∧
    (s.hrx n = HRx.LOCKED → (s.disableHrx n cause).fld HSI_STATUS.LOSS_CAUSE n = cause ∧
      (s.disableHrx n cause).fld HSI_LOL.COUNT n = (s.fld HSI_LOL.COUNT n + 1) % 2 ^ HSI_LOL.COUNT.width) := by
  have hfld (q : Field) (hc : HSI_STATUS.CELL_LOCK.apart q = true) (hp : HSI_CLK.PENDING.apart q = true) : (s.disableHrx n cause).fld q n =
      (if s.hrx n = HRx.LOCKED then s.leaveHost n cause HRx.DISABLED else s.goHrx n HRx.DISABLED).fld q n := by
    rw [State.disableHrx, State.fld_showHostClk_apart _ _ hp, State.fld_modHsi, State.fld_dropFraming_apart _ _ hc]
  obtain ⟨hrx, hloss, hlol⟩ := s.leaveHost_shows (h := n) hcause (st := HRx.DISABLED) (by decide)
  refine ⟨(hfld _ (by decide) (by decide)).trans ?_, fun hlocked => ⟨?_, ?_⟩⟩
  · split
    · exact hrx
    · exact State.hrx_goHrx _ (by decide)
  · rw [hfld _ (by decide) (by decide), if_pos hlocked]
    exact hloss
  · rw [hfld _ (by decide) (by decide), if_pos hlocked]
    exact hlol

theorem rx_disabled (hacc : Accepts s p .HSI_CTRL h) (hen : s.flag HSI_CTRL.RX_EN h = true) :
    Completes (.hsiRxDisable p h) s fun t => t.flag HSI_CTRL.RX_EN h = false ∧ t.hrx h = HRx.DISABLED ∧ KeepsKinds ctrlKinds s t ∧
      (s.hrx h = HRx.LOCKED → t.hrx h = HRx.DISABLED ∧ t.fld HSI_STATUS.LOSS_CAUSE h = HLoss.DISABLED ∧
        t.fld HSI_LOL.COUNT h = (s.fld HSI_LOL.COUNT h + 1) % 2 ^ HSI_LOL.COUNT.width ∧ KeepsKinds ctrlKinds s t) := by
  have hexec : exec (.hsiRxDisable p h) s = _ := (hsiCtrl_exec hacc rfl).trans (congrArg _ (rxEn_stages 0 h))
  have hset : Frame (fun r _ => r = .HSI_CTRL) s (s.setFld HSI_CTRL.RX_EN h 0) := (Frame.refl s).setFld rfl
  have hdis : ctlRx h (s.flag HSI_CTRL.RX_EN h) (decide (0 % 2 = 1)) (s.setFld HSI_CTRL.RX_EN h 0) =
      (s.setFld HSI_CTRL.RX_EN h 0).disableHrx h HLoss.DISABLED := by
    rw [hen]
    rfl
  obtain ⟨hrx, hlocked⟩ := disableHrx_shows (s := s.setFld HSI_CTRL.RX_EN h 0) h (cause := HLoss.DISABLED) (by decide)
  rw [State.hrx, hset.fld_eq (by decide), hset.fld_eq (f := HSI_LOL.COUNT) (by decide)] at hlocked
  have htx : TxOnly h ((s.setFld HSI_CTRL.RX_EN h 0).disableHrx h HLoss.DISABLED) (ctlTx h (s.flag HSI_CTRL.TX_EN h) (s.flag HSI_CTRL.TX_EN h)
    ((s.setFld HSI_CTRL.RX_EN h 0).disableHrx h HLoss.DISABLED)) := (TxOnly.refl _).ctlTx
  have hend (q : Field) (ht : HSI_STATUS.TX_STATE.apart q = true) (hr : HSI_STATUS.RESULT.apart q = true) (hp : HSI_CLK.PENDING.apart q = true) :
      (stages h (s.flag HSI_CTRL.RX_EN h) (decide (0 % 2 = 1)) (s.flag HSI_CTRL.TX_EN h) (s.flag HSI_CTRL.TX_EN h) false
        (s.flag HSI_CTRL.RX_QUIET h) (s.flag HSI_CTRL.TX_QUIET h) (s.flag HSI_CTRL.RX_FREEZE h) (s.setFld HSI_CTRL.RX_EN h 0)).fld q h =
      ((s.setFld HSI_CTRL.RX_EN h 0).disableHrx h HLoss.DISABLED).fld q h := by
    rw [stages_rx q ht hr hp, hdis]
    exact (ctlRxQuiet_idle (.inr (htx.hrx.trans hrx)) q).trans (htx.fld q _ ht hr hp)
  have hkeeps : KeepsKinds ctrlKinds s (stages h (s.flag HSI_CTRL.RX_EN h) (decide (0 % 2 = 1)) (s.flag HSI_CTRL.TX_EN h) (s.flag HSI_CTRL.TX_EN h)
      false (s.flag HSI_CTRL.RX_QUIET h) (s.flag HSI_CTRL.TX_QUIET h) (s.flag HSI_CTRL.RX_FREEZE h) (s.setFld HSI_CTRL.RX_EN h 0)) :=
    stages_keeps ((Frame.refl s).setFld (by decide))
  have hst := (hend HSI_STATUS.RX_STATE (by decide) (by decide) (by decide)).trans hrx
  refine ⟨_, hexec, (stages_ctrl rfl).trans (State.flag_setFlag_eq s h false (by decide)), hst, hkeeps, fun hl => ⟨hst, ?_, ?_, hkeeps⟩⟩
  · exact (hend _ (by decide) (by decide) (by decide)).trans (hlocked hl).1
  · exact (hend _ (by decide) (by decide) (by decide)).trans (hlocked hl).2

/-- A receiver that stays on comes to RX_QUIET as it stood, the transmitter's stage apart. -/
theorem stages_on {n : Nat} {b c : Bool} (hon : u.hrx n ≠ HRx.DISABLED) :
    TxOnly n u (ctlTx n c c (ctlRx n b b u)) := by
  rw [ctlRx_on hon]
  exact (TxOnly.refl u).ctlTx

theorem rx_relocked (hacc : Accepts s p .HSI_CTRL h) (hlocked : s.hrx h = HRx.LOCKED) (hloud : s.flag HSI_CTRL.RX_QUIET h = false)
    (hclk : s.hclocks h = true) : Completes (.relock p h) s fun t => (t.hrx h = HRx.CDR ∧ t.fld HSI_STATUS.LOSS_CAUSE h = HLoss.DISABLED ∧
      t.fld HSI_LOL.COUNT h = (s.fld HSI_LOL.COUNT h + 1) % 2 ^ HSI_LOL.COUNT.width ∧ KeepsKinds ctrlKinds s t) ∧ (t.hsiOf h).warm = false := by
  have hexec : exec (.relock p h) s = _ := (hsiCtrl_exec hacc rfl).trans (congrArg _ (relock_stages h))
  have hset : Frame (fun r _ => r = .HSI_CTRL) s (relockWritten s h) := (Frame.refl s).plainWrite rfl
  have hrx : (relockWritten s h).hrx h = HRx.LOCKED := (hset.fld_eq (by decide)).trans hlocked
  obtain ⟨v, hv, htx⟩ : ∃ v, v = ctlTx h (s.flag HSI_CTRL.TX_EN h) (s.flag HSI_CTRL.TX_EN h)
      (ctlRx h (s.flag HSI_CTRL.RX_EN h) (s.flag HSI_CTRL.RX_EN h) (relockWritten s h)) ∧ TxOnly h (relockWritten s h) v :=
    ⟨_, rfl, stages_on (by rw [hrx]; decide)⟩
  have hvrx : v.hrx h = HRx.LOCKED := htx.hrx.trans hrx
  have hvclk : v.hclocks h = true := htx.hclocks.trans
    ((s.hclocks_congr (hset.reg_eq (by decide)) (hset.reg_eq (by decide)) (hset.flag_eq (by decide))).trans hclk)
  have hrelock : ctlRelock h true v = (v.leaveHost h HLoss.DISABLED HRx.CDR).toCdr h false := (if_pos rfl).trans (if_pos hvrx)
  obtain ⟨hcdr, hloss, hlol⟩ := v.leaveToCdr_shows (h := h) (cause := HLoss.DISABLED) (warm := false) (by decide) hvclk
  have hend : ctlRxQuiet h (s.flag HSI_CTRL.RX_QUIET h) (ctlRelock h true v) =
      ((v.leaveHost h HLoss.DISABLED HRx.CDR).toCdr h false).modHsi h fun x => { x with rxQuietDue := false } := by
    rw [hloud, hrelock]
    exact ctlRxQuiet_off (by rw [hcdr]; decide)
  have hfinal (q : Field) (ht : HSI_STATUS.TX_STATE.apart q = true) (hr : HSI_STATUS.RESULT.apart q = true) (hp : HSI_CLK.PENDING.apart q = true) :
      (stages h (s.flag HSI_CTRL.RX_EN h) (s.flag HSI_CTRL.RX_EN h) (s.flag HSI_CTRL.TX_EN h) (s.flag HSI_CTRL.TX_EN h) true
        (s.flag HSI_CTRL.RX_QUIET h) (s.flag HSI_CTRL.TX_QUIET h) (s.flag HSI_CTRL.RX_FREEZE h) (relockWritten s h)).fld q h =
      ((v.leaveHost h HLoss.DISABLED HRx.CDR).toCdr h false).fld q h := by
    rw [stages_rx q ht hr hp, ← hv, hend, State.fld_modHsi]
  refine ⟨_, hexec, ⟨(hfinal _ (by decide) (by decide) (by decide)).trans hcdr, (hfinal _ (by decide) (by decide) (by decide)).trans hloss, ?_,
    stages_keeps ((Frame.refl s).plainWrite (by decide))⟩, ?_⟩
  · rw [hfinal _ (by decide) (by decide) (by decide), hlol, htx.fld _ _ (by decide) (by decide) (by decide), hset.fld_eq (by decide)]
  · rw [stages_warm, ← hv, hend, State.hsiOf_modHsi_same]
    exact State.warm_toCdr _ ((v.hclocks_leaveHost).trans hvclk)

theorem rx_quieted (hacc : Accepts s p .HSI_CTRL h) (hon : HRx.DETECT ≤ s.hrx h) :
    ∃ v, TxOnly h (s.setFlag HSI_CTRL.RX_QUIET h true) v ∧ Completes (.rxQuiet p h) s fun t => t.flag HSI_CTRL.RX_QUIET h = true ∧
      KeepsKinds ctrlKinds s t ∧ ∀ q : Field, HSI_STATUS.TX_STATE.apart q = true → HSI_STATUS.RESULT.apart q = true →
        HSI_CLK.PENDING.apart q = true → t.fld q h = (rxQuietSet h (v.modHsi h fun x => { x with quietAt := some v.cycle })).fld q h := by
  have hexec : exec (.rxQuiet p h) s = _ := (hsiCtrl_exec hacc rfl).trans (congrArg _ (rxQuiet_stages 1 h))
  have hset : Frame (fun r _ => r = .HSI_CTRL) s (s.setFld HSI_CTRL.RX_QUIET h 1) := (Frame.refl s).setFld rfl
  have hrx : (s.setFld HSI_CTRL.RX_QUIET h 1).hrx h ≠ HRx.DISABLED := by
    rw [State.hrx, hset.fld_eq (by decide), ← State.hrx]
    intro e
    rw [e] at hon
    exact absurd hon (by decide)
  refine ⟨_, stages_on (b := s.flag HSI_CTRL.RX_EN h) (c := s.flag HSI_CTRL.TX_EN h) hrx, _, hexec, ?_, stages_keeps ((Frame.refl s).setFld (by decide)),
    fun q ht hr hp => ?_⟩
  · exact (stages_ctrl rfl).trans (State.flag_setFlag_eq s h true (by decide))
  · exact stages_rx q ht hr hp

theorem rx_quieted_locked (hacc : Accepts s p .HSI_CTRL h) (hlocked : s.hrx h = HRx.LOCKED) : Completes (.rxQuiet p h) s fun t =>
    t.flag HSI_CTRL.RX_QUIET h = true ∧ t.hrx h = HRx.QUIET ∧ t.fld HSI_STATUS.LOSS_CAUSE h = HLoss.QUIET ∧
      t.fld HSI_LOL.COUNT h = (s.fld HSI_LOL.COUNT h + 1) % 2 ^ HSI_LOL.COUNT.width ∧ KeepsKinds ctrlKinds s t := by
  obtain ⟨v, htx, t, hexec, hflag, hkeeps, hfld⟩ := rx_quieted hacc (by rw [hlocked]; decide)
  have hset : Frame (fun r _ => r = .HSI_CTRL) s (s.setFlag HSI_CTRL.RX_QUIET h true) := (Frame.refl s).setFlag rfl
  have hvrx : (v.modHsi h fun x => { x with quietAt := some v.cycle }).hrx h = HRx.LOCKED :=
    htx.hrx.trans ((hset.fld_eq (by decide)).trans hlocked)
  have hquiet : rxQuietSet h (v.modHsi h fun x => { x with quietAt := some v.cycle }) =
      (v.modHsi h fun x => { x with quietAt := some v.cycle }).leaveHost h HLoss.QUIET HRx.QUIET := if_pos hvrx
  obtain ⟨hrx, hloss, hlol⟩ := (v.modHsi h fun x => { x with quietAt := some v.cycle }).leaveHost_shows (h := h) (cause := HLoss.QUIET)
    (st := HRx.QUIET) (by decide) (by decide)
  rw [hquiet] at hfld
  refine ⟨t, hexec, hflag, (hfld _ (by decide) (by decide) (by decide)).trans hrx, (hfld _ (by decide) (by decide) (by decide)).trans hloss, ?_, hkeeps⟩
  rw [hfld _ (by decide) (by decide) (by decide), hlol, State.fld_modHsi, htx.fld _ _ (by decide) (by decide) (by decide), hset.fld_eq (by decide)]

theorem rx_quieted_acquiring (hacc : Accepts s p .HSI_CTRL h) (hon : HRx.DETECT ≤ s.hrx h) (hseek : s.hrx h < HRx.LOCKED) :
    Completes (.rxQuiet p h) s fun t => t.flag HSI_CTRL.RX_QUIET h = true ∧ t.hrx h = HRx.QUIET ∧ KeepsKinds ctrlKinds s t := by
  obtain ⟨v, htx, t, hexec, hflag, hkeeps, hfld⟩ := rx_quieted hacc hon
  have hset : Frame (fun r _ => r = .HSI_CTRL) s (s.setFlag HSI_CTRL.RX_QUIET h true) := (Frame.refl s).setFlag rfl
  have hvrx : (v.modHsi h fun x => { x with quietAt := some v.cycle }).hrx h = s.hrx h := htx.hrx.trans (hset.fld_eq (by decide))
  refine ⟨t, hexec, hflag, (hfld HSI_STATUS.RX_STATE (by decide) (by decide) (by decide)).trans ?_, hkeeps⟩
  rw [rxQuietSet, hvrx, if_neg (Nat.ne_of_lt hseek), if_pos hon]
  exact State.hrx_goHrx _ (by decide)

theorem rx_woken (hacc : Accepts s p .HSI_CTRL h) (hquiet : s.hrx h = HRx.QUIET) (hclk : s.hclocks h = true) :
    Completes (.rxQuietClear p h) s fun t => t.flag HSI_CTRL.RX_QUIET h = false ∧ t.hrx h = HRx.CDR ∧
      t.fld HSI_WAKE.COUNT h = (s.fld HSI_WAKE.COUNT h + 1) % 2 ^ HSI_WAKE.COUNT.width ∧ KeepsKinds ctrlKinds s t := by
  have hexec : exec (.rxQuietClear p h) s = _ := (hsiCtrl_exec hacc rfl).trans (congrArg _ (rxQuiet_stages 0 h))
  have hset : Frame (fun r _ => r = .HSI_CTRL) s (s.setFld HSI_CTRL.RX_QUIET h 0) := (Frame.refl s).setFld rfl
  have hrx : (s.setFld HSI_CTRL.RX_QUIET h 0).hrx h = HRx.QUIET := (hset.fld_eq (by decide)).trans hquiet
  obtain ⟨v, hv, htx⟩ : ∃ v, v = ctlTx h (s.flag HSI_CTRL.TX_EN h) (s.flag HSI_CTRL.TX_EN h)
      (ctlRx h (s.flag HSI_CTRL.RX_EN h) (s.flag HSI_CTRL.RX_EN h) (s.setFld HSI_CTRL.RX_QUIET h 0)) ∧ TxOnly h (s.setFld HSI_CTRL.RX_QUIET h 0) v :=
    ⟨_, rfl, stages_on (by rw [hrx]; decide)⟩
  have hvclk : v.hclocks h = true := htx.hclocks.trans
    ((s.hclocks_congr (hset.reg_eq (by decide)) (hset.reg_eq (by decide)) (hset.flag_eq (by decide))).trans hclk)
  have hclk' : (v.modHsi h fun x => { x with rxQuietDue := false }).hclocks h = true := hvclk
  have hquiet' : (v.modHsi h fun x => { x with rxQuietDue := false }).hrx h = HRx.QUIET := htx.hrx.trans hrx
  have hwake : ctlRxQuiet h (decide (0 % 2 = 1)) (ctlRelock h false v) = (v.modHsi h fun x => { x with rxQuietDue := false }).wakeHost h :=
    State.wakeIfQuiet_of_quiet _ hquiet' hclk'
  obtain ⟨hcdr, hcount⟩ := State.wakeHost_shows (v.modHsi h fun x => { x with rxQuietDue := false }) hclk'
  have hfinal (q : Field) (ht : HSI_STATUS.TX_STATE.apart q = true) (hr : HSI_STATUS.RESULT.apart q = true) (hp : HSI_CLK.PENDING.apart q = true) :
      (stages h (s.flag HSI_CTRL.RX_EN h) (s.flag HSI_CTRL.RX_EN h) (s.flag HSI_CTRL.TX_EN h) (s.flag HSI_CTRL.TX_EN h) false (decide (0 % 2 = 1))
        (s.flag HSI_CTRL.TX_QUIET h) (s.flag HSI_CTRL.RX_FREEZE h) (s.setFld HSI_CTRL.RX_QUIET h 0)).fld q h =
      ((v.modHsi h fun x => { x with rxQuietDue := false }).wakeHost h).fld q h := by
    rw [stages_rx q ht hr hp, ← hv, hwake]
  refine ⟨_, hexec, (stages_ctrl rfl).trans (State.flag_setFlag_eq s h false (by decide)), (hfinal _ (by decide) (by decide) (by decide)).trans hcdr, ?_,
    stages_keeps ((Frame.refl s).setFld (by decide))⟩
  rw [hfinal _ (by decide) (by decide) (by decide), hcount, State.fld_modHsi, htx.fld _ _ (by decide) (by decide) (by decide), hset.fld_eq (by decide)]

/-! ### The transmitter's commands -/

/-- What the transmitter shows after the stages is what TX_QUIET makes of it, the receiver's stages apart. -/
theorem stages_tx {n : Nat} {a b c d f g k : Bool} : ∃ v w, RxOnly n u v ∧ RxOnly n (ctlTx n c d v) w ∧
    (stages n a b c d false f g k u).htx n = (ctlTxQuiet n g w).htx n ∧ Frame (fun r _ => r ∈ hostKinds) u v ∧ Frame (fun r _ => r ∈ hostKinds) u w := by
  have hv : Frame (fun r _ => r ∈ hostKinds) u (ctlRx n a b u) := ctlRx_frame (.refl u) (HostRegs.of_kinds n)
  refine ⟨ctlRx n a b u, ctlRxQuiet n f (ctlTx n c d (ctlRx n a b u)), RxOnly.ctlRx u, RxOnly.ctlRxQuiet _, ?_, hv,
    ctlRxQuiet_frame (ctlTx_frame hv (HostRegs.of_kinds n)) (HostRegs.of_kinds n)⟩
  have htrack (v : State) : (ctlTrack n k v).htx n = v.htx n := by
    unfold ctlTrack
    split
    · rfl
    · rfl
  exact htrack _

/-- A transmitter whose enable is written as it reads, while it is on. -/
theorem ctlTx_on {n : Nat} {b : Bool} (hon : s.htx n ≠ HTx.DISABLED) : ctlTx n b b s = s := by
  unfold ctlTx
  cases b
  · rfl
  · exact (if_pos rfl).trans (if_pos (.inl hon))

/-- What a transmitter that is enabled shows; no wake of it waits (R171). -/
theorem enableHtx_shows (n : Nat) (hoff : s.htx n = HTx.DISABLED) (huse : s.hInUse n = true) :
    (s.enableHtx n).htx n = (if s.hsynth n = false then HTx.PENDING else if s.flag HSI_CTRL.TX_QUIET n = true then HTx.QUIET else HTx.ACTIVE) ∧
      ((s.enableHtx n).hsiOf n).wakeDue = false := by
  have hclk (v : State) (k : Nat) : (v.showHostClk k).hsiOf n = v.hsiOf n := rfl
  rw [State.enableHtx, if_neg (by simp [hoff, huse])]
  cases hs : s.hsynth n
  · rw [if_neg Bool.false_ne_true, if_pos rfl, hclk, State.hsiOf_modHsi_same, State.htx, State.fld_showHostClk_apart _ _ (by decide), State.fld_modHsi,
      State.fld_setFld_eq _ _ _ (by decide)]
    exact ⟨rfl, rfl⟩
  · have hquiet : ((s.setFld HSI_STATUS.RESULT n HRes.OK).modHsi n fun x => { x with wakeDue := false }).flag HSI_CTRL.TX_QUIET n =
        s.flag HSI_CTRL.TX_QUIET n := State.flag_setFld_of_apart s _ _ _ (by decide)
    rw [if_pos rfl, if_neg (by decide), State.upHtx, hclk, State.hsiOf_modHsi_same, State.htx, State.fld_showHostClk_apart _ _ (by decide), State.fld_modHsi,
      State.fld_setFld_eq _ _ _ (by decide), State.hsiOf_modHsi_same, hquiet, if_neg Bool.false_ne_true]
    refine ⟨?_, rfl⟩
    split <;> rfl

/-- A transmitter that TX_QUIET as it reads leaves alone. -/
theorem ctlTxQuiet_idle {n : Nat} {b : Bool} (hactive : s.htx n = HTx.ACTIVE → b = false) (hwaking : s.htx n ≠ HTx.WAKING)
    (hquiet : s.htx n = HTx.QUIET → b = true) (hwake : s.htx n = HTx.PENDING → (s.hsiOf n).wakeDue = false) :
    (ctlTxQuiet n b s).htx n = s.htx n := by
  cases b
  · have hne : (s.modHsi n fun x => { x with quietDue := false }).htx n ≠ HTx.QUIET := fun e => Bool.false_ne_true (hquiet e)
    rw [ctlTxQuiet, if_neg Bool.false_ne_true, State.wakeTx, if_pos hne]
    rfl
  · rw [ctlTxQuiet, if_pos rfl, if_neg (fun e => Bool.false_ne_true (hactive e).symm), if_neg hwaking,
      if_neg (fun e => Bool.false_ne_true ((hwake e.1).symm.trans e.2))]

theorem tx_enabled (hacc : Accepts s p .HSI_CTRL h) (hoff : s.htx h = HTx.DISABLED) (huse : s.hInUse h = true) :
    Completes (.hsiTxEnable p h) s fun t => t.flag HSI_CTRL.TX_EN h = true ∧
      t.htx h = (if s.hsynth h = false then HTx.PENDING else if s.flag HSI_CTRL.TX_QUIET h = true then HTx.QUIET else HTx.ACTIVE) ∧
      KeepsKinds ctrlKinds s t := by
  have hexec : exec (.hsiTxEnable p h) s = _ := (hsiCtrl_exec hacc rfl).trans (congrArg _ (txEn_stages 1 h))
  have hset : Frame (fun r _ => r = .HSI_CTRL) s (s.setFld HSI_CTRL.TX_EN h 1) := (Frame.refl s).setFld rfl
  have hquiet : (s.setFld HSI_CTRL.TX_EN h 1).flag HSI_CTRL.TX_QUIET h = s.flag HSI_CTRL.TX_QUIET h := State.flag_setFld_of_apart _ _ _ _ (by decide)
  obtain ⟨v, w, hv, hw, hend, hvf, -⟩ := stages_tx (n := h) (a := s.flag HSI_CTRL.RX_EN h) (b := s.flag HSI_CTRL.RX_EN h)
    (c := s.flag HSI_CTRL.TX_EN h) (d := decide (1 % 2 = 1)) (f := s.flag HSI_CTRL.RX_QUIET h) (g := s.flag HSI_CTRL.TX_QUIET h)
    (k := s.flag HSI_CTRL.RX_FREEZE h) (u := s.setFld HSI_CTRL.TX_EN h 1)
  obtain ⟨hst, hdue⟩ := enableHtx_shows (s := v) h (hv.htx.trans ((hset.fld_eq (by decide)).trans hoff))
    ((hvf.flag_eq (by decide)).trans ((hset.flag_eq (by decide)).trans huse))
  rw [State.hsynth_congr s ((hvf.reg_eq (by decide)).trans (hset.reg_eq (by decide))), hvf.flag_eq (by decide), hquiet] at hst
  have hwst : w.htx h = _ := hw.htx.trans hst
  refine ⟨_, hexec, (stages_ctrl rfl).trans (State.flag_setFlag_eq s h true (by decide)), hend.trans ?_, stages_keeps ((Frame.refl s).setFld (by decide))⟩
  refine (ctlTxQuiet_idle ?_ ?_ ?_ fun _ => hw.wake.trans hdue).trans hwst <;> rw [hwst]
  · cases s.hsynth h <;> cases s.flag HSI_CTRL.TX_QUIET h <;> decide
  · cases s.hsynth h <;> cases s.flag HSI_CTRL.TX_QUIET h <;> decide
  · cases s.hsynth h <;> cases s.flag HSI_CTRL.TX_QUIET h <;> decide

theorem tx_disabled (hacc : Accepts s p .HSI_CTRL h) (hen : s.flag HSI_CTRL.TX_EN h = true) : Completes (.hsiTxDisable p h) s fun t =>
    t.flag HSI_CTRL.TX_EN h = false ∧ t.htx h = HTx.DISABLED ∧ KeepsKinds ctrlKinds s t := by
  have hexec : exec (.hsiTxDisable p h) s = _ := (hsiCtrl_exec hacc rfl).trans (congrArg _ (txEn_stages 0 h))
  obtain ⟨v, w, -, hw, hend, -, -⟩ := stages_tx (n := h) (a := s.flag HSI_CTRL.RX_EN h) (b := s.flag HSI_CTRL.RX_EN h)
    (c := s.flag HSI_CTRL.TX_EN h) (d := decide (0 % 2 = 1)) (f := s.flag HSI_CTRL.RX_QUIET h) (g := s.flag HSI_CTRL.TX_QUIET h)
    (k := s.flag HSI_CTRL.RX_FREEZE h) (u := s.setFld HSI_CTRL.TX_EN h 0)
  have hdis : ctlTx h (s.flag HSI_CTRL.TX_EN h) (decide (0 % 2 = 1)) v = v.disableHtx h := by
    rw [hen]
    rfl
  have hst : w.htx h = HTx.DISABLED := by
    rw [hw.htx, hdis, State.disableHtx, State.htx, State.fld_showHostClk_apart _ _ (by decide), State.fld_modHsi, State.fld_setFld_eq _ _ _ (by decide)]
    rfl
  refine ⟨_, hexec, (stages_ctrl rfl).trans (State.flag_setFlag_eq s h false (by decide)), hend.trans ?_, stages_keeps ((Frame.refl s).setFld (by decide))⟩
  have hne (x : Nat) (hx : x ≠ HTx.DISABLED) : w.htx h ≠ x := fun e => hx (e.symm.trans hst)
  exact (ctlTxQuiet_idle (fun e => absurd e (hne _ (by decide))) (hne _ (by decide)) (fun e => absurd e (hne _ (by decide)))
    fun e => absurd e (hne _ (by decide))).trans hst

theorem tx_quieted (hacc : Accepts s p .HSI_CTRL h) (hactive : s.htx h = HTx.ACTIVE) : Completes (.txQuiet p h) s fun t =>
    t.flag HSI_CTRL.TX_QUIET h = true ∧ t.htx h = HTx.QUIET ∧ KeepsKinds ctrlKinds s t := by
  have hexec : exec (.txQuiet p h) s = _ := (hsiCtrl_exec hacc rfl).trans (congrArg _ (txQuiet_stages 1 h))
  have hset : Frame (fun r _ => r = .HSI_CTRL) s (s.setFld HSI_CTRL.TX_QUIET h 1) := (Frame.refl s).setFld rfl
  obtain ⟨v, w, hv, hw, hend, -, -⟩ := stages_tx (n := h) (a := s.flag HSI_CTRL.RX_EN h) (b := s.flag HSI_CTRL.RX_EN h)
    (c := s.flag HSI_CTRL.TX_EN h) (d := s.flag HSI_CTRL.TX_EN h) (f := s.flag HSI_CTRL.RX_QUIET h) (g := decide (1 % 2 = 1))
    (k := s.flag HSI_CTRL.RX_FREEZE h) (u := s.setFld HSI_CTRL.TX_QUIET h 1)
  have hvst : v.htx h = HTx.ACTIVE := hv.htx.trans ((hset.fld_eq (by decide)).trans hactive)
  have hwst : w.htx h = HTx.ACTIVE := by
    rw [hw.htx, ctlTx_on (by rw [hvst]; decide), hvst]
  refine ⟨_, hexec, (stages_ctrl rfl).trans (State.flag_setFlag_eq s h true (by decide)), hend.trans ?_, stages_keeps ((Frame.refl s).setFld (by decide))⟩
  have hquiet : ctlTxQuiet h (decide (1 % 2 = 1)) w = w.setFld HSI_STATUS.TX_STATE h HTx.QUIET := (if_pos rfl).trans (if_pos hwst)
  rw [hquiet]
  exact State.fld_setFld_eq _ _ _ (by decide)

theorem tx_woken (hacc : Accepts s p .HSI_CTRL h) (hquiet : s.htx h = HTx.QUIET) : Completes (.txQuietClear p h) s fun t =>
    t.flag HSI_CTRL.TX_QUIET h = false ∧ t.htx h = (if s.hsynth h = true then HTx.WAKING else HTx.PENDING) ∧ KeepsKinds ctrlKinds s t := by
  have hexec : exec (.txQuietClear p h) s = _ := (hsiCtrl_exec hacc rfl).trans (congrArg _ (txQuiet_stages 0 h))
  have hset : Frame (fun r _ => r = .HSI_CTRL) s (s.setFld HSI_CTRL.TX_QUIET h 0) := (Frame.refl s).setFld rfl
  obtain ⟨v, w, hv, hw, hend, -, hwf⟩ := stages_tx (n := h) (a := s.flag HSI_CTRL.RX_EN h) (b := s.flag HSI_CTRL.RX_EN h)
    (c := s.flag HSI_CTRL.TX_EN h) (d := s.flag HSI_CTRL.TX_EN h) (f := s.flag HSI_CTRL.RX_QUIET h) (g := decide (0 % 2 = 1))
    (k := s.flag HSI_CTRL.RX_FREEZE h) (u := s.setFld HSI_CTRL.TX_QUIET h 0)
  have hvst : v.htx h = HTx.QUIET := hv.htx.trans ((hset.fld_eq (by decide)).trans hquiet)
  have hwst : (w.modHsi h fun x => { x with quietDue := false }).htx h = HTx.QUIET := by
    refine Eq.trans (b := w.htx h) rfl ?_
    rw [hw.htx, ctlTx_on (by rw [hvst]; decide), hvst]
  have hsynth : (w.modHsi h fun x => { x with quietDue := false }).hsynth h = s.hsynth h :=
    State.hsynth_congr s ((hwf.reg_eq (by decide)).trans (hset.reg_eq (by decide)))
  refine ⟨_, hexec, (stages_ctrl rfl).trans (State.flag_setFlag_eq s h false (by decide)), hend.trans ?_, stages_keeps ((Frame.refl s).setFld (by decide))⟩
  rw [ctlTxQuiet, if_neg (by decide), State.wakeTx, if_neg (not_not.2 hwst), hsynth]
  split
  · rw [State.htx, State.fld_modHsi]
    exact State.fld_setFld_eq _ _ _ (by decide)
  · rw [State.htx, State.fld_showHostClk_apart _ _ (by decide), State.fld_modHsi]
    exact State.fld_setFld_eq _ _ _ (by decide)

/-! ### Waking, equaliser and pattern -/

theorem waking_done (hwaking : s.htx h = HTx.WAKING) : Completes (.wakingDone h) s fun t =>
    t.htx h = (if (s.hsiOf h).quietDue = true then HTx.QUIET else HTx.ACTIVE) ∧ Keeps [(.HSI_STATUS, h)] s t := by
  have hexec : exec (.wakingDone h) s = .next ((s.setFld HSI_STATUS.TX_STATE h (if (s.hsiOf h).quietDue then HTx.QUIET else HTx.ACTIVE)).modHsi h
      fun x => { x with quietDue := false }) := congrArg _ (if_pos hwaking)
  refine ⟨_, hexec, ?_, ((Frame.refl s).setFld.modHsi).keeps⟩
  rw [State.htx, State.fld_modHsi, State.fld_setFld_eq _ _ _ (by decide)]
  split <;> rfl

theorem reg_stageTxeq (v : Nat) (n : Nat) : (s.stageTxeq n v).reg .HSI_TXEQ n = BitVec.ofNat 512 (v % 2 ^ 32) := by
  rw [State.stageTxeq, State.reg_modHsi, State.reg_setReg_same]

theorem txeq_stageTxeq (v : Nat) (n : Nat) : ((s.stageTxeq n v).hsiOf n).txeq = some (v % 2 ^ 32) := by
  rw [State.stageTxeq, State.hsiOf_modHsi_same]

theorem txeq_written {v : Word32} (hacc : Accepts s p .HSI_TXEQ h) (hok : txeqOk v.toNat = true) : Completes (.hsiTxeqWrite p h v) s fun t =>
    t.reg .HSI_TXEQ h = v.setWidth 512 ∧ (t.hsiOf h).txeq = some v.toNat ∧ t.fld HSI_STATUS.RESULT h = HRes.OK ∧
      Keeps [(.HSI_TXEQ, h), (.HSI_STATUS, h)] s t := by
  have hexec : exec (.hsiTxeqWrite p h v) s = .next ((s.stageTxeq h v.toNat).setFld HSI_STATUS.RESULT h HRes.OK) :=
    (writeCommand_accepted _ hacc).trans (congrArg (fun r : State × WStatus => Host.Outcome.next r.1) (if_pos hok))
  have hmod : v.toNat % 2 ^ 32 = v.toNat := Nat.mod_eq_of_lt v.isLt
  refine ⟨_, hexec, ?_, ?_, State.fld_setFld_eq _ _ _ (by decide), (Frame.setFld ((Frame.refl s).setReg.modHsi)).keeps⟩
  · rw [State.reg_setFld_other _ _ _ _ (by decide), reg_stageTxeq, hmod, BitVec.ofNat_toNat]
  · refine (txeq_stageTxeq (s := s) v.toNat h).trans ?_
    rw [hmod]

/-- The bits of a register that holds a number. -/
theorem bitsOf_ofNat (f : Field) {v : Nat} (hv : v < 2 ^ 512) : bitsOf (BitVec.ofNat 512 v) f.hi f.lo = fieldOf v f := by
  refine Nat.eq_of_testBit_eq fun j => ?_
  rw [testBit_bitsOf, fieldOf, Field.width, Nat.testBit_mod_two_pow, Nat.testBit_shiftRight, BitVec.getLsbD_ofNat]
  by_cases hj : f.lo + j < 512
  · rw [decide_eq_true hj, Bool.true_and]
  · have hlow : v.testBit (f.lo + j) = false := Nat.testBit_lt_two_pow (Nat.lt_of_lt_of_le hv (Nat.pow_le_pow_right (by decide) (Nat.le_of_not_lt hj)))
    rw [hlow, Bool.and_false]

/-- The value that CMIS codes give, tap by tap. -/
theorem cmisTxeq_taps : ∀ (pre post : Fin 8) (amp : Fin 4),
    fieldOf ((cmisTxeq pre post amp).1 % 2 ^ 32) HSI_TXEQ.PRE1 = ofSigned 8 (-2 * (pre.val : Int)) ∧
    fieldOf ((cmisTxeq pre post amp).1 % 2 ^ 32) HSI_TXEQ.POST1 = ofSigned 8 (-((min (3 * post.val) (32 - 2 * pre.val) : Nat) : Int)) := by
  decide +kernel

/-- The lane with the codes that CMIS has written. -/
def codesHeld (s : State) (h : Nat) (pre post : Fin 8) (amp : Fin 4) : State :=
  s.modHsi h fun x => { x with eqCodes := (pre.val, post.val, amp.val), eqWaits := s.headless }

theorem cmis_rebuilding {pre post : Fin 8} {amp : Fin 4} (hhead : s.headless = false) (hre : s.rebuilding .HSI_TXEQ h = true) :
    Completes (.cmisOutputEqWrite h pre post amp) s fun t =>
      (t.hsiOf h).txeq = (s.hsiOf h).txeq ∧ (t.hsiOf h).eqCodes = (pre.val, post.val, amp.val) ∧ Keeps logKeys s t := by
  have hcodes : (codesHeld s h pre post amp).hsiOf h = { s.hsiOf h with eqCodes := (pre.val, post.val, amp.val), eqWaits := s.headless } :=
    State.hsiOf_modHsi_same _ _ _
  have hre' : ((codesHeld s h pre post amp).modHsi h fun x => { x with eqWaits := false }).rebuilding .HSI_TXEQ h = true := hre
  have hexec : exec (.cmisOutputEqWrite h pre post amp) s = .next
      (((codesHeld s h pre post amp).modHsi h fun x => { x with eqWaits := false }).regReject .firmware .HSI_TXEQ h
        (cmisTxeq pre post amp).1) := by
    refine congrArg Host.Outcome.next ((if_neg fun e => Bool.false_ne_true (hhead.symm.trans e)).trans ?_)
    change (codesHeld s h pre post amp).applyCmisEq h = _
    rw [State.applyCmisEq, hcodes]
    dsimp only
    rw [hre', if_pos rfl]
  have hmem (v : State) : (v.regReject .firmware .HSI_TXEQ h (cmisTxeq pre post amp).1).hsiOf h = v.hsiOf h := by
    have hsi : (v.regReject .firmware .HSI_TXEQ h (cmisTxeq pre post amp).1).hsi = v.hsi :=
      (Evolves.refl (K := .of [.EVL_DROPPED] [.recorder]) v).log.part .hsi
    rw [State.hsiOf, hsi, ← State.hsiOf]
  refine ⟨_, hexec, ?_, ?_, (Frame.log ((Frame.refl s).modHsi.modHsi) (by simp)).keeps⟩
  · rw [hmem, State.hsiOf_modHsi_same, hcodes]
  · rw [hmem, State.hsiOf_modHsi_same, hcodes]

theorem cmis_applied {pre post : Fin 8} {amp : Fin 4} (hhead : s.headless = false) (hre : s.rebuilding .HSI_TXEQ h = false) :
    Completes (.cmisOutputEqWrite h pre post amp) s fun t => (t.hsiOf h).txeq = some ((cmisTxeq pre post amp).1 % 2 ^ 32) ∧
      t.fld HSI_TXEQ.PRE1 h = ofSigned 8 (-2 * (pre.val : Int)) ∧
      t.fld HSI_TXEQ.POST1 h = ofSigned 8 (-((min (3 * post.val) (32 - 2 * pre.val) : Nat) : Int)) ∧ Keeps [(.HSI_TXEQ, h.val), (.EVL_DROPPED, 0)] s t := by
  have hcodes : (codesHeld s h pre post amp).hsiOf h = { s.hsiOf h with eqCodes := (pre.val, post.val, amp.val), eqWaits := s.headless } :=
    State.hsiOf_modHsi_same _ _ _
  obtain ⟨v, hv⟩ : ∃ v, v = (codesHeld s h pre post amp).modHsi h fun x => { x with eqWaits := false } := ⟨_, rfl⟩
  have hre' : v.rebuilding .HSI_TXEQ h = false := by rw [hv]; exact hre
  have hvf : Frame (fun r i => (r, i) ∈ [(Reg.HSI_TXEQ, h.val), (.EVL_DROPPED, 0)]) s v := by rw [hv]; exact (Frame.refl s).modHsi.modHsi
  have hexec : ∃ t, exec (.cmisOutputEqWrite h pre post amp) s = .next t ∧ t.reg .HSI_TXEQ h = (v.stageTxeq h (cmisTxeq pre post amp).1).reg .HSI_TXEQ h ∧
      t.hsi = (v.stageTxeq h (cmisTxeq pre post amp).1).hsi ∧
      Frame (fun r i => (r, i) ∈ [(Reg.HSI_TXEQ, h.val), (.EVL_DROPPED, 0)]) s t := by
    have hstage : Frame (fun r i => (r, i) ∈ [(Reg.HSI_TXEQ, h.val), (.EVL_DROPPED, 0)]) s (v.stageTxeq h (cmisTxeq pre post amp).1) := hvf.setReg.modHsi
    obtain ⟨u, hu⟩ : ∃ u, u = v.stageTxeq h (cmisTxeq pre post amp).1 := ⟨_, rfl⟩
    rw [← hu] at hstage ⊢
    obtain ⟨k, happly⟩ : ∃ k, exec (.cmisOutputEqWrite h pre post amp) s = .next (if (cmisTxeq pre post amp).2 then
        u.fresh.2.logHost h k else u) := by
      refine ⟨u.fresh.1.toNat % 2 ^ 32, ?_⟩
      refine congrArg Host.Outcome.next ((if_neg fun e => Bool.false_ne_true (hhead.symm.trans e)).trans ?_)
      change (codesHeld s h pre post amp).applyCmisEq h = _
      rw [State.applyCmisEq, hcodes]
      dsimp only
      rw [← hv, hre', if_neg Bool.false_ne_true, ← hu]
    rw [happly]
    split
    · exact ⟨_, rfl, (Frame.logHost (P := fun r _ => r = .EVL_DROPPED) (Frame.same (.refl _)) rfl).reg_eq (by decide),
        (Evolves.refl (K := .of [.EVL_DROPPED] [.recorder, .freeCtr]) u).fresh.logHost.part .hsi,
        Frame.logHost hstage.same (by simp)⟩
    · exact ⟨_, rfl, rfl, rfl, hstage⟩
  obtain ⟨t, hnext, hreg, hsi, hframe⟩ := hexec
  obtain ⟨hpre, hpost⟩ := cmisTxeq_taps pre post amp
  rw [reg_stageTxeq] at hreg
  have hlt : (cmisTxeq pre post amp).1 % 2 ^ 32 < 2 ^ 512 := Nat.lt_of_lt_of_le (Nat.mod_lt _ (by decide)) (Nat.pow_le_pow_right (by decide) (by decide))
  refine ⟨t, hnext, ?_, ?_, ?_, hframe.keeps⟩
  · rw [State.hsiOf, hsi, ← State.hsiOf, txeq_stageTxeq]
  · rw [State.fld_eq, hreg, bitsOf_ofNat HSI_TXEQ.PRE1 hlt, hpre]
  · rw [State.fld_eq, hreg, bitsOf_ofNat HSI_TXEQ.POST1 hlt, hpost]

theorem cmis_held {pre post : Fin 8} {amp : Fin 4} (hhead : s.headless = true) : Completes (.cmisOutputEqWrite h pre post amp) s fun t =>
    (t.hsiOf h).eqCodes = (pre.val, post.val, amp.val) ∧ (t.hsiOf h).eqWaits = true ∧ Keeps [] s t := by
  have hcodes : (codesHeld s h pre post amp).hsiOf h = { s.hsiOf h with eqCodes := (pre.val, post.val, amp.val), eqWaits := s.headless } :=
    State.hsiOf_modHsi_same _ _ _
  have hexec : exec (.cmisOutputEqWrite h pre post amp) s = .next (codesHeld s h pre post amp) := congrArg Host.Outcome.next (if_pos hhead)
  exact ⟨_, hexec, by rw [hcodes], by rw [hcodes, hhead], (Frame.refl s).modHsi.keeps⟩

/-- A lane takes the value that waits, its amplitude at once while it is off (R156, R385). -/
def takeTxeq (h v : Nat) (s : State) : State := s.modHsi h fun x =>
  { x with txeq := none, taps := v % 2 ^ 24, ampTarget := v / 2 ^ 24, ampNow := if decide (s.htx h = HTx.DISABLED) then v / 2 ^ 24 else x.ampNow }

/-- The busy bit of the host amplitudes follows them. -/
def showAmps (s : State) : State :=
  if hosts32.any fun k => (s.hsiOf k).ampNow ≠ (s.hsiOf k).ampTarget then s.setFld CAL_TRIM_BUSY.BUSY 0 (s.fld CAL_TRIM_BUSY.BUSY 0 ||| 8) else s

/-- One lane's turn at the equaliser's boundary (R156). -/
def applyTurn (h : Nat) (s : State) : State := match (s.hsiOf h).txeq with
  | none => s
  | some v => showAmps (takeTxeq h v s)

theorem hsiOf_showAmps (s : State) (k : Nat) : (showAmps s).hsiOf k = s.hsiOf k := by
  unfold showAmps
  split
  · rfl
  · rfl

theorem hsiOf_applyTurn_other (i j : Nat) (s : State) (hij : j ≠ i) : (applyTurn i s).hsiOf j = s.hsiOf j := by
  unfold applyTurn
  split
  · rfl
  · rw [hsiOf_showAmps, takeTxeq, State.hsiOf_modHsi_other _ _ hij]

theorem applyTurn_shows (n : Nat) : ((applyTurn n s).hsiOf n).txeq = none ∧
    (∀ v, (s.hsiOf n).txeq = some v → ((applyTurn n s).hsiOf n).taps = v % 2 ^ 24 ∧ ((applyTurn n s).hsiOf n).ampTarget = v / 2 ^ 24) ∧
    ((s.hsiOf n).txeq = none → (applyTurn n s).hsiOf n = s.hsiOf n) := by
  unfold applyTurn
  split
  next hnone =>
    refine ⟨hnone, fun v hv => ?_, fun _ => rfl⟩
    rw [hnone] at hv
    cases hv
  next w hw =>
    rw [hsiOf_showAmps, takeTxeq, State.hsiOf_modHsi_same]
    refine ⟨rfl, fun v hv => ?_, fun e => ?_⟩
    · rw [hw] at hv
      cases hv
      exact ⟨rfl, rfl⟩
    · rw [hw] at e
      cases e

theorem applyTurn_frame {P : Reg → Nat → Prop} {n : Nat} (hu : Frame P s u) (hP : P .CAL_TRIM_BUSY 0) : Frame P s (applyTurn n u) := by
  unfold applyTurn
  split
  · exact hu
  · exact (hu.modHsi).when fun h => h.setFld hP

theorem txeq_applied (h : HLane) : Completes .txeqApply s fun t => Keeps [(.CAL_TRIM_BUSY, 0)] s t ∧ (t.hsiOf h).txeq = none ∧
    (∀ v, (s.hsiOf h).txeq = some v → (t.hsiOf h).taps = v % 2 ^ 24 ∧ (t.hsiOf h).ampTarget = v / 2 ^ 24) ∧
    ((s.hsiOf h).txeq = none → t.hsiOf h = s.hsiOf h) := by
  have hexec : exec .txeqApply s = .next (s.each hosts32 applyTurn) := rfl
  obtain ⟨u, hu, ht⟩ := State.each_turn (obs := State.hsiOf) hsiOf_applyTurn_other (is := hosts32) (by decide) (List.mem_range.2 h.isLt) s
  obtain ⟨hnone, htaps, hsame⟩ := applyTurn_shows (s := u) h
  rw [hu] at htaps hsame
  rw [← ht] at hnone htaps hsame
  exact ⟨_, hexec, ((Frame.refl s).each fun _ _ h => applyTurn_frame h (by simp)).keeps, hnone, htaps, hsame⟩

theorem patField : ∀ pat : Fin 8, fieldOf pat.val HSI_PAT.PAT = pat.val := by decide

theorem pat_written {pat : Fin 8} (hacc : Accepts s p .HSI_PAT h) (hpat : pat.val ≤ 3)
    (hfree : pat.val = 0 ∨ s.hsvc h ≠ Svc.CINCH ∨ s.chansOff h = true) : Completes (.hsiPatWrite p h pat) s fun t =>
      t.fld HSI_PAT.PAT h = pat ∧ t.fld HSI_STATUS.RESULT h = HRes.OK ∧ Keeps [(.HSI_PAT, h), (.HSI_STATUS, h)] s t := by
  have hfld : fieldOf pat.val HSI_PAT.PAT = pat.val := patField pat
  have hexec : exec (.hsiPatWrite p h pat) s = .next ((plainWrite .HSI_PAT h pat.val s).setFld HSI_STATUS.RESULT h HRes.OK) := by
    refine (writeCommand_accepted _ hacc).trans (congrArg (fun r : State × WStatus => Host.Outcome.next r.1) (if_neg ?_))
    rw [hfld]
    rintro (hbig | ⟨hne, hsvc, hon⟩)
    · omega
    · rcases hfree with hz | hs | hoff
      · exact hne hz
      · exact hs hsvc
      · rw [hoff] at hon
        cases hon
  refine ⟨_, hexec, ?_, State.fld_setFld_eq _ _ _ (by decide), ((Frame.refl s).plainWrite.setFld).keeps⟩
  rw [State.fld_setFld_of_apart _ _ _ _ (by decide)]
  refine (fld_plainWrite_of_writable (f := HSI_PAT.PAT) (by decide) (by decide) h pat.val s).trans hfld

end

/-- Settles O17: the receiver's commands, then the transmitter's. -/
theorem hostReceiverAndTransmitter : Obligations.HostReceiverAndTransmitter := by
  refine ⟨fun s p h hacc => ⟨fun hoff huse => rx_enabled hacc hoff huse, fun hen => rx_disabled hacc hen,
    fun hl hloud hclk => rx_relocked hacc hl hloud hclk, ?_, fun hon hseek => rx_quieted_acquiring hacc hon hseek,
    fun hq hclk => rx_woken hacc hq hclk⟩, fun s h => ⟨fun p hacc => ⟨fun hoff huse => tx_enabled hacc hoff huse, fun hen => tx_disabled hacc hen,
      fun hactive => tx_quieted hacc hactive, fun hq => tx_woken hacc hq⟩, waking_done, fun p v hacc hok => txeq_written hacc hok,
      fun pre post amp => ⟨cmis_rebuilding, cmis_applied, cmis_held⟩, txeq_applied h, fun p pat hacc hpat hfree => pat_written hacc hpat hfree⟩⟩
  intro hl
  obtain ⟨t, hexec, hflag, hrx, hloss, hlol, hkeeps⟩ := rx_quieted_locked hacc hl
  exact ⟨t, hexec, hflag, hrx, hloss, hlol, hkeeps⟩

end Sys2Proof.Proofs
end

section
/-! PROOFS. O18: acquisition of a host lane (chapter 6). -/
namespace Sys2Proof.Claims
open Sys2Proof Sys2Proof.Machine
set_option Elab.async false
variable {s t u : State}

/-- One lane's part of the host state, as an observer. -/
def ofLane {α : Type} (n : Nat) (g : HsiX → α) (k : Nat) (x : HsiX) : Option α := if k = n then some (g x) else none

theorem HsiSees.lane {α : Type} {n : Nat} {g : HsiX → α} (hu : HsiSees (ofLane n g) s t) : g (t.hsiOf n) = g (s.hsiOf n) := by
  have hn := hu n
  rw [ofLane, ofLane, if_pos rfl, if_pos rfl] at hn
  exact Option.some.inj hn

theorem HsiSees.modLane {α : Type} {n i : Nat} {g : HsiX → α} {f : HsiX → HsiX} (hu : HsiSees (ofLane n g) s u) (hf : ∀ x, g (f x) = g x := by intro x; rfl) :
    HsiSees (ofLane n g) s (u.modHsi i f) := hu.modHsi fun x => by rw [ofLane, ofLane, hf]

end Sys2Proof.Claims

namespace Sys2Proof.Proofs
open Sys2Proof Sys2Proof.Machine Sys2Proof.Claims
set_option Elab.async false

section
variable {s t u : State} {h : HLane}

/-- The kinds of register that acquisition changes. -/
abbrev acquireKinds : List Reg := [.HSI_STATUS, .HSI_CLK, .HSI_LOL, .HSI_LOCK, .HSI_WAKE, .HSI_FREQ, .HSI_EYE, .HSI_ACT_IGN,
  .HSI_TIMEOUT, .HSI_BAD_SH, .HSI_FRAME_ERR, .HPM_PORT_STATUS, .HPM_IDLE_DEL, .HPM_OVF, .EVL_DROPPED]

abbrev Acquires (s t : State) : Prop := Frame (fun r _ => r ∈ acquireKinds) s t

theorem acquireRegs (n : Nat) : HostRegs (fun r _ => r ∈ acquireKinds) n := HostRegs.of_kinds n

/-- What one more count of a lane is. -/
abbrev OneMore (f : Field) (n : Nat) (s t : State) : Prop := t.fld f n = (s.fld f n + 1) % 2 ^ f.width

/-- The lane has left LOCKED for `st`. -/
abbrev LeftFor (n st cause : Nat) (s t : State) : Prop :=
  t.hrx n = st ∧ t.fld HSI_STATUS.LOSS_CAUSE n = cause ∧ OneMore HSI_LOL.COUNT n s t ∧ KeepsKinds acquireKinds s t

/-! ### Activity and wakes -/

theorem active_clocks (n : Nat) (b : Bool) : (s.setFlag HSI_STATUS.ACT n b).hclocks n = s.hclocks n := by
  have hset : Frame (fun r _ => r = .HSI_STATUS) s (s.setFlag HSI_STATUS.ACT n b) := (Frame.refl s).setFlag rfl
  exact s.hclocks_congr (hset.reg_eq (by decide)) (hset.reg_eq (by decide)) (hset.flag_eq (by decide))

theorem active_hrx (n : Nat) (b : Bool) : (s.setFlag HSI_STATUS.ACT n b).hrx n = s.hrx n := State.fld_setFlag_of_apart _ _ _ _ (by decide)

theorem activity_detected (hdet : s.hrx h = HRx.DETECT) (hclk : s.hclocks h = true) (pattern : Bool) :
    Completes (.activityDetect h pattern) s fun t => t.hrx h = HRx.CDR ∧ t.flag HSI_STATUS.ACT h = true ∧ KeepsKinds acquireKinds s t := by
  have hclk' := (active_clocks (s := s) h true).trans hclk
  have hexec : exec (.activityDetect h pattern) s = .next ((s.setFlag HSI_STATUS.ACT h true).toCdr h ((s.setFlag HSI_STATUS.ACT h true).hsiOf h).stored) := by
    change execActivityDetect h pattern s = _
    rw [execActivityDetect, hdet, if_neg (by decide)]
    dsimp only
    rw [active_hrx, hdet, if_pos rfl]
  refine ⟨_, hexec, State.hrx_toCdr _ hclk', ?_, (((Frame.refl s).setFlag (by decide)).toCdr (acquireRegs h)).kinds⟩
  exact (State.flag_eq_of_fld (State.fld_toCdr_apart _ hclk' _ (by decide) (by decide) (by decide) (by decide))).trans
    (State.flag_setFlag_eq _ _ _ (by decide))

theorem quiet_activity (hquiet : s.hrx h = HRx.QUIET) (hnow : s.quietNow h = false) (pattern : Bool) : exec (.activityDetect h pattern) s =
    .next (if s.flag HSI_CTRL.WAKE_SEL h then (if pattern then s.setFlag HSI_STATUS.ACT h true else
        (s.setFlag HSI_STATUS.ACT h true).count HSI_ACT_IGN.COUNT h) else (s.setFlag HSI_STATUS.ACT h true).wakeIfQuiet h) := by
  have hnow' : (s.setFlag HSI_STATUS.ACT h true).quietNow h = false := hnow
  have hsel : (s.setFlag HSI_STATUS.ACT h true).flag HSI_CTRL.WAKE_SEL h = s.flag HSI_CTRL.WAKE_SEL h := State.flag_setFlag_of_apart _ _ _ _ (by decide)
  change execActivityDetect h pattern s = _
  rw [execActivityDetect, hquiet, if_neg (by decide)]
  dsimp only
  rw [active_hrx, hquiet, if_neg (by decide), if_pos rfl, hnow', if_neg Bool.false_ne_true, hsel]
  split <;> rfl

theorem wakes_of (hu : Acquires s u) (hwake : u.fld HSI_WAKE.COUNT h = s.fld HSI_WAKE.COUNT h) (hquiet : u.hrx h = HRx.QUIET)
    (hclk : u.hclocks h = true) : (u.wakeIfQuiet h).hrx h = HRx.CDR ∧ OneMore HSI_WAKE.COUNT h s (u.wakeIfQuiet h) ∧
      KeepsKinds acquireKinds s (u.wakeIfQuiet h) := by
  obtain ⟨hcdr, hcount⟩ := u.wakeHost_shows hclk
  rw [u.wakeIfQuiet_of_quiet hquiet hclk]
  exact ⟨hcdr, by rw [OneMore, hcount, hwake], (hu.wakeHost (acquireRegs h)).kinds⟩

theorem activity_wakes (hquiet : s.hrx h = HRx.QUIET) (hclk : s.hclocks h = true) (hnow : s.quietNow h = false)
    (hsel : s.flag HSI_CTRL.WAKE_SEL h = false) (pattern : Bool) : Completes (.activityDetect h pattern) s fun t =>
      t.hrx h = HRx.CDR ∧ OneMore HSI_WAKE.COUNT h s t ∧ KeepsKinds acquireKinds s t := by
  have hexec := quiet_activity hquiet hnow pattern
  rw [hsel, if_neg Bool.false_ne_true] at hexec
  exact ⟨_, hexec, wakes_of ((Frame.refl s).setFlag (by decide)) (State.fld_setFlag_of_apart _ _ _ _ (by decide))
    ((active_hrx _ _).trans hquiet) ((active_clocks _ _).trans hclk)⟩

theorem activity_ignored (hquiet : s.hrx h = HRx.QUIET) (hnow : s.quietNow h = false) (hsel : s.flag HSI_CTRL.WAKE_SEL h = true) :
    Completes (.activityDetect h false) s fun t => t.hrx h = HRx.QUIET ∧ OneMore HSI_ACT_IGN.COUNT h s t ∧ KeepsKinds acquireKinds s t := by
  have hexec := quiet_activity hquiet hnow false
  rw [hsel, if_pos rfl, if_neg Bool.false_ne_true] at hexec
  refine ⟨_, hexec, ?_, ?_, (((Frame.refl s).setFlag (by decide)).count (by decide)).kinds⟩
  · exact (State.fld_count_of_apart _ _ _ _ (by decide)).trans ((active_hrx _ _).trans hquiet)
  · refine (State.fld_count_eq _ _ _ (by decide)).trans ?_
    rw [State.fld_setFlag_of_apart _ _ _ _ (by decide)]
    rfl

theorem pattern_wakes (hquiet : s.hrx h = HRx.QUIET) (hnow : s.quietNow h = false) (hsel : s.flag HSI_CTRL.WAKE_SEL h = true)
    (hclk : s.hclocks h = true) : Completes (.wakePatternDetect h) s fun t =>
      t.hrx h = HRx.CDR ∧ OneMore HSI_WAKE.COUNT h s t ∧ KeepsKinds acquireKinds s t := by
  have hexec : exec (.wakePatternDetect h) s = .next (s.wakeIfQuiet h) := congrArg _ (if_pos ⟨hsel, by rw [hnow]; rfl⟩)
  exact ⟨_, hexec, wakes_of (.refl s) rfl hquiet hclk⟩

/-! ### Losses and time-outs -/

theorem leftFor_of {cause st : Nat} (hu : Acquires s u) (hlol : u.fld HSI_LOL.COUNT h = s.fld HSI_LOL.COUNT h) (hcause : cause < 16) (hst : st < 16) :
    LeftFor h st cause s (u.leaveHost h cause st) := by
  obtain ⟨hrx, hloss, hcount⟩ := u.leaveHost_shows (h := h) hcause hst
  exact ⟨hrx, hloss, by rw [OneMore, hcount, hlol], (hu.leaveHost (acquireRegs h)).kinds⟩

theorem signal_lost (hlocked : s.hrx h = HRx.LOCKED) : Completes (.signalLoss h) s fun t =>
    LeftFor h HRx.DETECT HLoss.SIGNAL s t ∧ t.flag HSI_STATUS.ACT h = false := by
  have hexec : exec (.signalLoss h) s = .next ((s.setFlag HSI_STATUS.ACT h false).leaveHost h HLoss.SIGNAL HRx.DETECT) :=
    congrArg _ (if_pos ((active_hrx _ _).trans hlocked))
  refine ⟨_, hexec, leftFor_of ((Frame.refl s).setFlag (by decide)) (State.fld_setFlag_of_apart _ _ _ _ (by decide)) (by decide) (by decide), ?_⟩
  exact (State.flag_eq_of_fld (State.fld_leaveHost_apart _ _ (by decide) (by decide) (by decide) (by decide) (by decide) (by decide))).trans
    (State.flag_setFlag_eq _ _ _ (by decide))

theorem stage_timed_out (hst : s.hrx h = HRx.CDR ∨ s.hrx h = HRx.ADAPT ∨ s.hrx h = HRx.ALIGN) : Completes (.hostStageTimeout h) s fun t =>
    t.hrx h = HRx.DETECT ∧ OneMore HSI_TIMEOUT.COUNT h s t ∧ KeepsKinds acquireKinds s t := by
  have hexec : exec (.hostStageTimeout h) s = .next ((s.count HSI_TIMEOUT.COUNT h).goHrx h HRx.DETECT) := if_pos hst
  refine ⟨_, hexec, State.hrx_goHrx _ (by decide), ?_, (((Frame.refl s).count (by decide)).setFld (by decide)).kinds⟩
  exact (State.fld_goHrx_apart _ _ (by decide)).trans (State.fld_count_eq s (f := HSI_TIMEOUT.COUNT) h 1 (by decide))

theorem alignment_lost (errors : Nat) (hlocked : s.hrx h = HRx.LOCKED) (hfcm : s.fcm h = false) (hop : s.flag HSI_CFG.TP_OPAQUE h = false) :
    Completes (.alignmentLockLoss ⟨h, errors⟩) s fun t => LeftFor h HRx.ALIGN HLoss.ALIGN s t ∧ Counts HSI_FRAME_ERR.COUNT h s t errors := by
  have hexec : exec (.alignmentLockLoss ⟨h, errors⟩) s = .next ((s.count HSI_FRAME_ERR.COUNT h errors).leaveHost h HLoss.ALIGN HRx.ALIGN) :=
    congrArg _ (if_pos ⟨hlocked, by rw [hfcm]; rfl, by rw [hop]; rfl⟩)
  refine ⟨_, hexec, leftFor_of ((Frame.refl s).count (by decide)) (State.fld_count_of_apart _ _ _ _ (by decide)) (by decide) (by decide), ?_⟩
  exact (counts_count (f := HSI_FRAME_ERR.COUNT) h errors s).then
    (State.fld_leaveHost_apart _ _ (by decide) (by decide) (by decide) (by decide) (by decide) (by decide))

theorem cdr_lost (steps : Int) (hlocked : s.hrx h = HRx.LOCKED) (hfar : s.fcm h = false ∨ 64 < steps.natAbs) (hclk : s.hclocks h = true) :
    Completes (.hostCdrLoss ⟨h, steps⟩) s (LeftFor h HRx.CDR HLoss.CDR s) := by
  have hnear : ¬(s.fcm h && decide (steps.natAbs ≤ 64)) = true := by
    rcases hfar with hf | hf
    · simp [hf]
    · simp [Nat.not_le.2 hf]
  have hexec : exec (.hostCdrLoss ⟨h, steps⟩) s = .next ((s.leaveHost h HLoss.CDR HRx.CDR).toCdr h true) := by
    change execHostCdrLoss ⟨h, steps⟩ s = _
    rw [execHostCdrLoss]
    dsimp only
    rw [if_neg (not_not.2 hlocked), if_neg hnear]
  obtain ⟨hrx, hloss, hlol⟩ := s.leaveToCdr_shows (h := h) (cause := HLoss.CDR) (warm := true) (by decide) hclk
  exact ⟨_, hexec, hrx, hloss, hlol, (((Frame.refl s).leaveHost (acquireRegs h)).toCdr (acquireRegs h)).kinds⟩

theorem delay_followed (steps : Int) (hlocked : s.hrx h = HRx.LOCKED) (hfcm : s.fcm h = true) (hnear : steps.natAbs ≤ 64) :
    Completes (.hostCdrLoss ⟨h, steps⟩) s fun t => t.hrx h = HRx.LOCKED ∧ Keeps [(.HSI_FREQ, h)] s t := by
  obtain ⟨d, hexec⟩ : ∃ d, exec (.hostCdrLoss ⟨h, steps⟩) s = .next ((s.setFld HSI_FREQ.FCM_DELAY h d).modHsi h fun x => { x with trackAt := s.cycle }) := by
    refine ⟨Int.toNat (clampInt 0 512 ((s.fld HSI_FREQ.FCM_DELAY h : Int) + clampInt (-((s.cycle - (s.hsiOf h).trackAt) / 782 : Nat))
        ((s.cycle - (s.hsiOf h).trackAt) / 782 : Nat) (((s.hsiOf h).lockDelay : Int) + steps - s.fld HSI_FREQ.FCM_DELAY h))), ?_⟩
    change execHostCdrLoss ⟨h, steps⟩ s = _
    rw [execHostCdrLoss]
    dsimp only
    rw [if_neg (not_not.2 hlocked), hfcm, decide_eq_true hnear, if_pos (by decide)]
  have hset : Frame (fun r i => (r, i) ∈ [(Reg.HSI_FREQ, h.val)]) s ((s.setFld HSI_FREQ.FCM_DELAY h d).modHsi h fun x => { x with trackAt := s.cycle }) :=
    ((Frame.refl s).setFld).modHsi
  exact ⟨_, hexec, (hset.fld_eq (by simp)).trans hlocked, hset.keeps⟩

/-! ### CDR and ADAPT -/

theorem hrx_cdrPassed (n : Nat) : (s.cdrPassed n).hrx n = HRx.ADAPT := State.hrx_goHrx _ (by decide)

theorem fld_cdrPassed_apart (n : Nat) {f : Field} (i : Nat) (hc : HSI_EYE.CTLE.apart f = true) (hr : HSI_STATUS.RX_STATE.apart f = true) :
    (s.cdrPassed n).fld f i = s.fld f i := by
  rw [State.cdrPassed, State.fld_goHrx_apart _ _ hr]
  split
  · rfl
  · exact State.fld_setFld_of_apart _ _ _ _ hc

theorem cdrPassed_acquires (hu : Acquires s u) (n : Nat) : Acquires s (u.cdrPassed n) :=
  Frame.setFld (Frame.ite (fun _ => hu) fun _ => hu.setFld (by decide)) (by decide)

theorem cdr_found (freq : BitVec 16) (sweep : DelaySweep) (hcdr : s.hrx h = HRx.CDR) (hfcm : s.fcm h = false) :
    Completes (.cdrDone h freq sweep) s fun t => t.hrx h = HRx.ADAPT ∧ t.fld HSI_FREQ.FREQ h = freq.toNat ∧ KeepsKinds acquireKinds s t := by
  have hexec : exec (.cdrDone h freq sweep) s = .next ((s.setFld HSI_FREQ.FREQ h freq.toNat).cdrPassed h) := by
    change execCdrDone h freq sweep s = _
    rw [execCdrDone, if_neg (not_not.2 hcdr), hfcm]
    rfl
  refine ⟨_, hexec, hrx_cdrPassed _, ?_, (cdrPassed_acquires ((Frame.refl s).setFld (by decide)) h).kinds⟩
  rw [fld_cdrPassed_apart _ _ (by decide) (by decide), State.fld_setFld_eq _ _ _ (by decide)]
  exact Nat.mod_eq_of_lt freq.isLt

theorem cdr_checked (freq : BitVec 16) (marks : List Bool) (hcdr : s.hrx h = HRx.CDR) (hfcm : s.fcm h = true) (hwarm : (s.hsiOf h).warm = true) :
    Completes (.cdrDone h freq ⟨true, marks⟩) s fun t => t.hrx h = HRx.ADAPT ∧ Keeps [(.HSI_STATUS, h)] s t := by
  have hpass : s.cdrPassed h = s.goHrx h HRx.ADAPT := by rw [State.cdrPassed, hwarm, if_pos rfl]
  have hexec : exec (.cdrDone h freq ⟨true, marks⟩) s = .next (s.goHrx h HRx.ADAPT) := by
    change execCdrDone h freq ⟨true, marks⟩ s = _
    rw [execCdrDone, if_neg (not_not.2 hcdr), hfcm, if_neg (by decide), hwarm, if_pos (by rfl), hpass]
  have hset : Frame (fun r i => (r, i) ∈ [(Reg.HSI_STATUS, h.val)]) s (s.goHrx h HRx.ADAPT) := (Frame.refl s).setFld
  exact ⟨_, hexec, State.hrx_goHrx _ (by decide), hset.keeps⟩

/-- Every span of valid steps lies within the steps. -/
theorem validSpans_le {marks : List Bool} {e : Nat × Nat} (he : e ∈ validSpans marks) : e.1 + e.2 ≤ marks.length := by
  rw [validSpans, List.mem_reverse] at he
  refine List.foldlRecOn (motive := fun acc => ∀ e ∈ acc, e.1 + e.2 ≤ marks.length) marks.zipIdx _ (by simp) ?_ e he
  intro acc hacc m hm e he
  have hlt : m.2 < marks.length := by simpa using List.snd_lt_of_mem_zipIdx hm
  split at he
  · exact hacc e he
  · split at he
    · split at he
      · rcases List.mem_cons.1 he with rfl | he
        · dsimp only
          omega
        · exact hacc e (List.mem_cons_of_mem _ he)
      · rcases List.mem_cons.1 he with rfl | he
        · exact hlt
        · exact hacc e he
    · rcases List.mem_cons.1 he with rfl | he
      · exact hlt
      · cases he

/-- The length of the widest of some spans: 0, or that of one of them, and no less than any. -/
theorem widest_spec (l : List Nat) : (l.foldl max 0 = 0 ∨ l.foldl max 0 ∈ l) ∧ ∀ x ∈ l, x ≤ l.foldl max 0 := by
  obtain ⟨hmem, hle⟩ := List.max?_eq_some_iff.1 (List.max?_cons' (x := 0) (xs := l))
  exact ⟨List.mem_cons.1 hmem, fun x hx => hle x (List.mem_cons_of_mem _ hx)⟩

theorem sweepDelay_narrow {marks : List Bool} (hnone : ∀ e ∈ validSpans (marks.take 513), e.2 < 16) (v : RegVal) : sweepDelay marks v = none := by
  refine if_pos ?_
  rcases (widest_spec ((validSpans (marks.take 513)).map (·.2))).1 with hzero | hmem
  · rw [hzero]
    decide
  · obtain ⟨e, he, hlen⟩ := List.mem_map.1 hmem
    rw [← hlen]
    exact hnone e he

theorem sweepDelay_wide {marks : List Bool} (hwide : ∃ e ∈ validSpans (marks.take 513), 16 ≤ e.2) (v : RegVal) :
    ∃ d, sweepDelay marks v = some d ∧ d < 1024 := by
  obtain ⟨e, he, hlen⟩ := hwide
  obtain ⟨hmax, hge⟩ := widest_spec ((validSpans (marks.take 513)).map (·.2))
  have hfound : 16 ≤ ((validSpans (marks.take 513)).map (·.2)).foldl max 0 := hlen.trans (hge _ (List.mem_map_of_mem he))
  obtain ⟨b, hb, hbw⟩ := List.mem_map.1 (hmax.resolve_left (by omega))
  let best := (validSpans (marks.take 513)).filter fun e => decide (e.2 = ((validSpans (marks.take 513)).map (·.2)).foldl max 0)
  have hbest : b ∈ best := List.mem_filter.2 ⟨hb, decide_eq_true hbw⟩
  have hlt : v.toNat / 2 % best.length < best.length := Nat.mod_lt _ (List.length_pos_of_mem hbest)
  refine ⟨_, (if_neg (Nat.not_lt.2 hfound)).trans (congrArg _ (List.getElem?_eq_getElem hlt)), ?_⟩
  have hin := validSpans_le (List.mem_filter.1 (List.getElem_mem hlt)).1
  rw [List.length_take] at hin
  have hodd : v.toNat % 2 < 2 := Nat.mod_lt _ (by decide)
  dsimp only
  omega

theorem swept {freq : BitVec 16} {checkOk : Bool} {marks : List Bool} (hcdr : s.hrx h = HRx.CDR) (hfcm : s.fcm h = true)
    (hcold : (s.hsiOf h).warm = false ∨ checkOk = false) : exec (.cdrDone h freq ⟨checkOk, marks⟩) s = (sweepDelay marks s.fresh.1).elim
      (.next s.fresh.2) fun d => .next ((s.fresh.2.setFld HSI_FREQ.FCM_DELAY h d).cdrPassed h) := by
  have hnot : ¬((s.hsiOf h).warm && checkOk) = true := by
    rcases hcold with hc | hc
    · simp [hc]
    · simp [hc]
  change execCdrDone h freq ⟨checkOk, marks⟩ s = _
  rw [execCdrDone, if_neg (not_not.2 hcdr), hfcm, if_neg (by decide), if_neg hnot]
  obtain ⟨v, w⟩ := s.fresh
  cases hd : sweepDelay marks v <;> simp only [hd, Option.elim]

theorem sweep_passed {freq : BitVec 16} {checkOk : Bool} {marks : List Bool} (hcdr : s.hrx h = HRx.CDR) (hfcm : s.fcm h = true)
    (hcold : (s.hsiOf h).warm = false ∨ checkOk = false) (hwide : ∃ e ∈ validSpans (marks.take 513), 16 ≤ e.2) :
    Completes (.cdrDone h freq ⟨checkOk, marks⟩) s fun t => t.hrx h = HRx.ADAPT ∧
      (∃ v, sweepDelay marks v = some (t.fld HSI_FREQ.FCM_DELAY h)) ∧ KeepsKinds acquireKinds s t := by
  obtain ⟨d, hd, hlt⟩ := sweepDelay_wide hwide s.fresh.1
  have hexec := swept (freq := freq) (marks := marks) hcdr hfcm hcold
  rw [hd] at hexec
  have hfld : ((s.fresh.2.setFld HSI_FREQ.FCM_DELAY h d).cdrPassed h).fld HSI_FREQ.FCM_DELAY h = d := by
    rw [fld_cdrPassed_apart _ _ (by decide) (by decide), State.fld_setFld_eq _ _ _ (by decide)]
    exact Nat.mod_eq_of_lt hlt
  have hfresh : Acquires s s.fresh.2 := (Frame.refl s).same
  exact ⟨_, hexec, hrx_cdrPassed _, ⟨s.fresh.1, by rw [hfld, hd]⟩, (cdrPassed_acquires (hfresh.setFld (by decide)) h).kinds⟩

theorem sweep_repeated {freq : BitVec 16} {checkOk : Bool} {marks : List Bool} (hcdr : s.hrx h = HRx.CDR) (hfcm : s.fcm h = true)
    (hcold : (s.hsiOf h).warm = false ∨ checkOk = false) (hnarrow : ∀ e ∈ validSpans (marks.take 513), e.2 < 16) :
    Completes (.cdrDone h freq ⟨checkOk, marks⟩) s fun t => t.hrx h = HRx.CDR ∧ Keeps [] s t := by
  have hexec := swept (freq := freq) (marks := marks) hcdr hfcm hcold
  rw [sweepDelay_narrow hnarrow] at hexec
  have hfresh : Frame (fun r i => (r, i) ∈ []) s s.fresh.2 := (Frame.refl s).same
  exact ⟨_, hexec, hcdr, hfresh.keeps⟩

/-! ### Entry to LOCKED -/

theorem fld_wakeTx_apart (n : Nat) {f : Field} (i : Nat) (ht : HSI_STATUS.TX_STATE.apart f = true) (hc : HSI_CLK.PENDING.apart f = true) :
    (s.wakeTx n).fld f i = s.fld f i := by
  rw [State.wakeTx]
  split
  · rfl
  · split
    · rw [State.fld_modHsi, State.fld_setFld_of_apart _ _ _ _ ht]
    · rw [State.fld_showHostClk_apart _ _ hc, State.fld_modHsi, State.fld_setFld_of_apart _ _ _ _ ht]

/-- The lane as it enters LOCKED, before its transmitter and the ports follow. -/
def locked₀ (s : State) (n : Nat) : State := ((s.goHrx n HRx.LOCKED).count HSI_LOCK.COUNT n)

theorem fld_lockHost (n : Nat) {f : Field} (i : Nat) (hp : f.reg ≠ .HPM_PORT_STATUS) (hd : f.reg ≠ .EVL_DROPPED)
    (ht : HSI_STATUS.TX_STATE.apart f = true) (hc : HSI_CLK.PENDING.apart f = true) : (s.lockHost n).fld f i = (locked₀ s n).fld f i := by
  rw [State.lockHost, State.fld_showPorts_other _ _ hp hd, locked₀]
  split
  · rw [fld_wakeTx_apart _ _ ht hc, State.fld_modHsi]
  · rw [State.fld_modHsi]

theorem fld_lockHost_apart (n : Nat) {f : Field} (i : Nat) (hp : f.reg ≠ .HPM_PORT_STATUS) (hd : f.reg ≠ .EVL_DROPPED)
    (ht : HSI_STATUS.TX_STATE.apart f = true) (hc : HSI_CLK.PENDING.apart f = true) (hr : HSI_STATUS.RX_STATE.apart f = true)
    (hl : HSI_LOCK.COUNT.apart f = true) : (s.lockHost n).fld f i = s.fld f i := by
  rw [fld_lockHost _ _ hp hd ht hc, locked₀, State.fld_count_of_apart _ _ _ _ hl, State.fld_goHrx_apart _ _ hr]

/-- The lane has entered LOCKED, counted. -/
abbrev Locks (n : Nat) (s t : State) : Prop := t.hrx n = HRx.LOCKED ∧ OneMore HSI_LOCK.COUNT n s t ∧ KeepsKinds acquireKinds s t

theorem locks_of (hu : Acquires s u) (hlock : u.fld HSI_LOCK.COUNT h = s.fld HSI_LOCK.COUNT h) : Locks h s (u.lockHost h) := by
  refine ⟨?_, ?_, (hu.lockHost (acquireRegs h) (by decide)).kinds⟩
  · rw [State.hrx, fld_lockHost _ _ (by decide) (by decide) (by decide) (by decide), locked₀, State.fld_count_of_apart _ _ _ _ (by decide)]
    exact State.hrx_goHrx _ (by decide)
  · rw [OneMore, fld_lockHost _ _ (by decide) (by decide) (by decide) (by decide), locked₀, State.fld_count_eq _ _ _ (by decide),
      State.fld_goHrx_apart _ _ (by decide), hlock]
    rfl

theorem alignment_found (halign : s.hrx h = HRx.ALIGN) (hfcm : s.fcm h = false) : Completes (.alignmentLock h) s (Locks h s) := by
  have hexec : exec (.alignmentLock h) s = .next (s.lockHost h) := congrArg _ (if_pos ⟨halign, by rw [hfcm]; rfl⟩)
  exact ⟨_, hexec, locks_of (.refl s) rfl⟩

/-- The taps of a lane's equaliser. -/
abbrev taps (x : HsiX) : List Int × Int := (x.ffe, x.dfe)

theorem lockHost_taps (n : Nat) : HsiSees (ofLane n taps) s (s.lockHost n) := by
  have hr : HsiSees (ofLane n taps) s s := .refl s
  have hwake {v : State} (hv : HsiSees (ofLane n taps) s v) : HsiSees (ofLane n taps) s (v.wakeTx n) := by
    unfold State.wakeTx
    exact HsiSees.ite hv (HsiSees.ite (HsiSees.modLane hv.setFld) (HsiSees.showHostClk (HsiSees.modLane hv.setFld)))
  unfold State.lockHost
  exact HsiSees.showPorts (HsiSees.when (HsiSees.modLane (u := (s.goHrx n HRx.LOCKED).count HSI_LOCK.COUNT n) hr.goHrx.count) hwake)

theorem adapted {ctle : Fin 15} {lms : List (Int × List Int × Int)} {snr : Byte} (hadapt : s.hrx h = HRx.ADAPT) (hsnr : 56 ≤ snr.toNat) :
    Completes (.adaptDone h ctle ⟨lms, snr⟩) s fun t => t.fld HSI_EYE.CTLE h = ctle ∧ t.fld HSI_EYE.SNR h = snr.toNat ∧
      (t.hsiOf h).ffe = (lms.foldl lmsStep (s.hsiOf h)).ffe ∧ (t.hsiOf h).dfe = (lms.foldl lmsStep (s.hsiOf h)).dfe ∧
      (s.flag HSI_CFG.TP_OPAQUE h = true → Locks h s t) ∧ (s.flag HSI_CFG.TP_OPAQUE h = false → t.hrx h = HRx.ALIGN ∧ KeepsKinds acquireKinds s t) := by
  obtain ⟨u, hu⟩ : ∃ u, u = ((s.setFld HSI_EYE.CTLE h ctle.val).setFld HSI_EYE.SNR h snr.toNat).modHsi h fun x => lms.foldl lmsStep x := ⟨_, rfl⟩
  have hacq : Acquires s u := by
    rw [hu]
    exact (((Frame.refl s).setFld (by decide)).setFld (by decide)).modHsi
  have hfld {f : Field} (i : Nat) (hf : f.reg ∉ [Reg.HSI_EYE]) : u.fld f i = s.fld f i := by
    have hset : Frame (fun r _ => r ∈ [Reg.HSI_EYE]) s u := by
      rw [hu]
      exact (((Frame.refl s).setFld (by decide)).setFld (by decide)).modHsi
    exact hset.fld_eq hf
  have hexec : exec (.adaptDone h ctle ⟨lms, snr⟩) s = .next (if s.flag HSI_CFG.TP_OPAQUE h then u.lockHost h else u.goHrx h HRx.ALIGN) := by
    rw [← State.flag_eq_of_fld (hfld (f := HSI_CFG.TP_OPAQUE) h (by decide)), hu]
    exact if_pos ⟨hadapt, hsnr⟩
  have hctle : u.fld HSI_EYE.CTLE h = ctle := by
    rw [hu, State.fld_modHsi, State.fld_setFld_of_apart _ _ _ _ (by decide), State.fld_setFld_eq _ _ _ (by decide)]
    exact Nat.mod_eq_of_lt (ctle.isLt.trans (by decide))
  have hshown : u.fld HSI_EYE.SNR h = snr.toNat := by
    rw [hu, State.fld_modHsi, State.fld_setFld_eq _ _ _ (by decide)]
    exact Nat.mod_eq_of_lt snr.isLt
  have htaps : taps (u.hsiOf h) = taps (lms.foldl lmsStep (s.hsiOf h)) := by
    rw [hu, State.hsiOf_modHsi_same]
    rfl
  obtain ⟨hffe, hdfe⟩ := Prod.mk.inj htaps
  cases hop : s.flag HSI_CFG.TP_OPAQUE h with
  | false =>
    rw [hop, if_neg Bool.false_ne_true] at hexec
    exact ⟨_, hexec, (State.fld_goHrx_apart _ _ (by decide)).trans hctle, (State.fld_goHrx_apart _ _ (by decide)).trans hshown, hffe, hdfe,
      fun e => absurd e (by decide), fun _ => ⟨State.hrx_goHrx _ (by decide), (hacq.setFld (by decide)).kinds⟩⟩
  | true =>
    rw [hop, if_pos rfl] at hexec
    obtain ⟨hffe', hdfe'⟩ := Prod.mk.inj (HsiSees.lane (g := taps) (lockHost_taps (s := u) h))
    exact ⟨_, hexec, (fld_lockHost_apart _ _ (by decide) (by decide) (by decide) (by decide) (by decide) (by decide)).trans hctle,
      (fld_lockHost_apart _ _ (by decide) (by decide) (by decide) (by decide) (by decide) (by decide)).trans hshown, hffe'.trans hffe, hdfe'.trans hdfe,
      fun _ => locks_of hacq (hfld _ (by decide)), fun e => absurd e (by decide)⟩

/-! ### Block lock -/

theorem block_locked {bits : List Bool} (hfcm : s.fcm h = true) (halign : s.hrx h = HRx.ALIGN) (hhunt : blockHunt bits.length 0 bits = true) :
    Completes (.blockLock ⟨h, bits⟩) s fun t => (t.hsiOf h).blockLock = true ∧ Keeps [] s t := by
  have hexec : exec (.blockLock ⟨h, bits⟩) s = .next (s.modHsi h fun x => { x with blockLock := true, lastFcnt := none, shSeen := 0, shBad := [] }) :=
    congrArg _ (if_pos ⟨hfcm, halign, hhunt⟩)
  have hmod : Frame (fun r i => (r, i) ∈ []) s (s.modHsi h fun x => { x with blockLock := true, lastFcnt := none, shSeen := 0, shBad := [] }) :=
    (Frame.refl s).modHsi
  exact ⟨_, hexec, congrArg HsiX.blockLock (State.hsiOf_modHsi_same s h _), hmod.keeps⟩

/-- The earlier bad headers that lie within 1,024 of the one that comes now. -/
abbrev recentBad (x : HsiX) : List Nat := x.shBad.filter fun a => decide (x.shSeen + 1 < a + 1024)

/-- The lane after the header that loses block lock. -/
def blockLost (n : Nat) (s : State) : State :=
  (s.count HSI_BAD_SH.COUNT n).modHsi n fun x => { x with blockLock := false, lastFcnt := none, shSeen := 0, shBad := [] }

theorem blockLock_leaveHost (n : Nat) {cause st : Nat} : ((s.leaveHost n cause st).hsiOf n).blockLock = false := by
  obtain ⟨v, hv⟩ : ∃ v, v = (((s.keepTaps n).setFld HSI_STATUS.LOSS_CAUSE n cause).count HSI_LOL.COUNT n).modHsi n fun x => { x with stored := true } :=
    ⟨_, rfl⟩
  have hleave : s.leaveHost n cause st = ((((v.goHrx n st).dropFraming n).logHost n HEvt.LOSS).lineRelayStop n).showPorts := by
    rw [hv]
    rfl
  have hstays : HsiSees (ofLane n HsiX.blockLock) ((v.goHrx n st).dropFraming n) (s.leaveHost n cause st) := by
    rw [hleave]
    exact (HsiSees.refl _).logHost.lineRelayStop.showPorts
  have hflag (w : State) : (w.setFlag HSI_STATUS.CELL_LOCK n false).hsiOf n = w.hsiOf n := rfl
  rw [hstays.lane, State.dropFraming, hflag, State.hsiOf_modHsi_same]

theorem headerIn_bad {hd : BitVec 2} (hlock : (s.hsiOf h).blockLock = true) (h1 : hd ≠ 1) (h2 : hd ≠ 2) : State.headerIn h s hd =
    if (recentBad (s.hsiOf h)).length < 31 then (s.count HSI_BAD_SH.COUNT h).modHsi h fun x =>
      { x with shSeen := (s.hsiOf h).shSeen + 1, shBad := ((s.hsiOf h).shSeen + 1) :: recentBad (s.hsiOf h) }
    else if s.hrx h = HRx.LOCKED then (blockLost h s).leaveHost h HLoss.ALIGN HRx.ALIGN else blockLost h s := by
  have hbad : (((s.hsiOf h).shSeen + 1) :: (s.hsiOf h).shBad).filter (fun a => decide ((s.hsiOf h).shSeen + 1 < a + 1024)) =
      ((s.hsiOf h).shSeen + 1) :: recentBad (s.hsiOf h) := List.filter_cons_of_pos (by simp)
  have hrx : (blockLost h s).hrx h = s.hrx h := by
    rw [blockLost, State.hrx, State.fld_modHsi, State.fld_count_of_apart _ _ _ _ (by decide)]
    rfl
  rw [State.headerIn]
  dsimp only
  rw [hlock, if_neg (by decide), if_neg (not_or.2 ⟨h1, h2⟩), hbad, List.length_cons, ← hrx, blockLost]
  by_cases hfew : (recentBad (s.hsiOf h)).length < 31
  · rw [if_pos (Nat.succ_lt_succ hfew), if_pos hfew]
  · rw [if_neg fun e => hfew (Nat.lt_of_succ_lt_succ e), if_neg hfew]

theorem header_bad {hd : BitVec 2} (hfcm : s.fcm h = true) (hlock : (s.hsiOf h).blockLock = true) (h1 : hd ≠ 1) (h2 : hd ≠ 2) :
    Completes (.blockLockLoss ⟨h, [hd]⟩) s fun t => OneMore HSI_BAD_SH.COUNT h s t ∧ KeepsKinds acquireKinds s t ∧
      ((recentBad (s.hsiOf h)).length < 31 → (t.hsiOf h).blockLock = true ∧ t.hrx h = s.hrx h) ∧
      (31 ≤ (recentBad (s.hsiOf h)).length → (t.hsiOf h).blockLock = false ∧ (s.hrx h = HRx.LOCKED → LeftFor h HRx.ALIGN HLoss.ALIGN s t)) := by
  have hexec : exec (.blockLockLoss ⟨h, [hd]⟩) s = .next (State.headerIn h s hd) := congrArg _ (if_pos hfcm)
  refine ⟨_, hexec, ?_⟩
  rw [headerIn_bad hlock h1 h2]
  have hcounted : OneMore HSI_BAD_SH.COUNT h s (s.count HSI_BAD_SH.COUNT h) := State.fld_count_eq _ _ _ (by decide)
  have hacq : Acquires s (s.count HSI_BAD_SH.COUNT h) := (Frame.refl s).count (by decide)
  have hlost : Acquires s (blockLost h s) := hacq.modHsi
  have hopen : ((blockLost h s).hsiOf h).blockLock = false := congrArg HsiX.blockLock (State.hsiOf_modHsi_same _ _ _)
  have hmore : OneMore HSI_BAD_SH.COUNT h s (blockLost h s) := (State.fld_modHsi _ _ _ _ _).trans hcounted
  split
  case isTrue hfew =>
    refine ⟨(State.fld_modHsi _ _ _ _ _).trans hcounted, hacq.modHsi.kinds, fun _ => ⟨?_, ?_⟩, fun hmany => absurd hfew (Nat.not_lt.2 hmany)⟩
    · rw [State.hsiOf_modHsi_same]
      exact hlock
    · rw [State.hrx, State.fld_modHsi, State.fld_count_of_apart _ _ _ _ (by decide)]
      rfl
  case isFalse hmany =>
    split
    case isTrue hlocked =>
      have hleft := leftFor_of (h := h) (cause := HLoss.ALIGN) (st := HRx.ALIGN) hlost
        ((State.fld_modHsi _ _ _ _ _).trans (State.fld_count_of_apart _ _ _ _ (by decide))) (by decide) (by decide)
      exact ⟨(State.fld_leaveHost_apart _ _ (by decide) (by decide) (by decide) (by decide) (by decide) (by decide)).trans hmore, hleft.2.2.2,
        fun hfew => absurd hfew hmany, fun _ => ⟨blockLock_leaveHost _, fun _ => hleft⟩⟩
    case isFalse hnot =>
      exact ⟨hmore, hlost.kinds, fun hfew => absurd hfew hmany, fun _ => ⟨hopen, fun e => absurd e hnot⟩⟩

/-! ### Framing blocks -/

/-- What comes after the framing block itself: the ports show their status and count, lane `n` keeps its count of bad frames. -/
abbrev dealKinds : List Reg := [.HPM_PORT_STATUS, .HPM_IDLE_DEL, .HPM_OVF, .EVL_DROPPED]

abbrev Deals (n : Nat) (s t : State) : Prop := Frame (fun r _ => r ∈ dealKinds) s t ∧ HsiSees (ofLane n HsiX.badFrames) s t

namespace Deals
variable {n : Nat}

theorem refl (s : State) : Deals n s s := ⟨.refl s, .refl s⟩

theorem modHsi {i : Nat} {f : HsiX → HsiX} (hu : Deals n s u) (hf : ∀ x, (f x).badFrames = x.badFrames := by intro x; rfl) : Deals n s (u.modHsi i f) :=
  ⟨hu.1.modHsi, HsiSees.modLane hu.2 hf⟩

theorem modHpm {i : Nat} {f : HpmX → HpmX} (hu : Deals n s u) : Deals n s (u.modHpm i f) := ⟨hu.1.modHpm, hu.2.same⟩

theorem count {f : Field} {i k : Nat} (hu : Deals n s u) (hf : f.reg ∈ dealKinds) : Deals n s (u.count f i k) := ⟨hu.1.count hf, hu.2.count⟩

theorem showPort {p : Nat} (hu : Deals n s u) : Deals n s (u.showPort p) :=
  ⟨hu.1.showPort (by decide) (by decide), hu.2.evolves (Evolves.showPort (K := Scope.of [.HPM_PORT_STATUS, .EVL_DROPPED] [.recorder]) (Evolves.refl u))⟩

theorem each {is : List Nat} {f : Nat → State → State} (hu : Deals n s u) (hf : ∀ {v} i, Deals n s v → Deals n s (f i v)) : Deals n s (u.each is f) :=
  List.foldlRecOn (motive := Deals n s) is _ hu fun _ hb i _ => hf i hb

theorem portUp {p : Nat} {bs : List Blk} (hu : Deals n s u) : Deals n s (u.portUp p bs) := (hu.modHpm.count (by decide)).count (by decide)

theorem dealFrames {p : Nat} (hu : Deals n s u) : Deals n s (u.dealFrames p) := by
  unfold State.dealFrames
  dsimp only
  split
  · exact hu
  · split
    · split
      · exact (hu.modHpm.each fun i hv => hv.modHsi).showPort
      · exact hu
    · split
      · exact ((hu.each fun i hv => hv.modHsi).modHpm).showPort
      · exact (((hu.each fun i hv => hv.modHsi).modHpm).showPort).portUp

theorem headerIn {i : Nat} {hd : BitVec 2} (hu : Deals n s u) (hvalid : hd = 1 ∨ hd = 2) : Deals n s (State.headerIn i u hd) := by
  rw [State.headerIn]
  dsimp only
  rw [if_pos hvalid]
  split
  · exact hu
  · exact hu.modHsi

end Deals

theorem framing_deals {hd : BitVec 2} {w : BitVec 64} {payload : List Blk} (hfcm : s.fcm h = true) (hlock : (s.hsiOf h).blockLock = true)
    (hvalid : ∀ b ∈ (hd, w) :: payload, b.1 = 1 ∨ b.1 = 2) :
    ∃ t, exec (.framingBlockReceived h ((hd, w) :: payload)) s = .next t ∧ Deals h (s.framingIn h w) t := by
  have hheaders : Deals h (s.framingIn h w) ((((hd, w) :: payload).map (·.1)).foldl (State.headerIn h) ((s.framingIn h w).modHsi h fun x =>
      { x with descr := (throughBlocks descramble58 ((s.framingIn h w).hsiOf h).descr payload).1 })) := by
    refine List.foldlRecOn (motive := Deals h (s.framingIn h w)) _ _ ((Deals.refl _).modHsi) fun v hv b hb => ?_
    obtain ⟨e, he, rfl⟩ := List.mem_map.1 hb
    exact hv.headerIn (hvalid e he)
  obtain ⟨u, hu⟩ : ∃ u, u = (((hd, w) :: payload).map (·.1)).foldl (State.headerIn h) ((s.framingIn h w).modHsi h fun x =>
      { x with descr := (throughBlocks descramble58 ((s.framingIn h w).hsiOf h).descr payload).1 }) := ⟨_, rfl⟩
  rw [← hu] at hheaders
  change ∃ t, execFramingBlockReceived h ((hd, w) :: payload) s = .next t ∧ _
  rw [execFramingBlockReceived]
  dsimp only
  rw [hfcm, hlock, if_neg (by decide), ← hu]
  split
  · exact ⟨_, rfl, hheaders⟩
  · split
    · exact ⟨_, rfl, hheaders.modHsi⟩
    · split
      · exact ⟨_, rfl, hheaders⟩
      · exact ⟨_, rfl, (hheaders.modHsi).dealFrames⟩

/-- What a frame has made of a lane stands through the dealing after it. -/
theorem Deals.kinds (hd : Deals h u t) (hu : Acquires s u) : KeepsKinds acquireKinds s t :=
  (hu.trans (hd.1.mono fun r _ hr => (show dealKinds ⊆ acquireKinds by decide) hr)).kinds

theorem framing_locked {hd : BitVec 2} {w : BitVec 64} {payload : List Blk} {l : Nat} (hfcm : s.fcm h = true) (hlock : (s.hsiOf h).blockLock = true)
    (hvalid : ∀ b ∈ (hd, w) :: payload, b.1 = 1 ∨ b.1 = 2) (halign : s.hrx h = HRx.ALIGN) (hgood : framingOk w = true)
    (hlast : (s.hsiOf h).lastFcnt = some l) (hnext : (w.extractLsb' 40 8).toNat = (l + 1) % 256) :
    Completes (.framingBlockReceived h ((hd, w) :: payload)) s (Locks h s) := by
  obtain ⟨u, hu⟩ : ∃ u, u = (s.setFlag HSI_STATUS.FAR_RDI h (w.getLsbD 39)).modHsi h fun x =>
    { x with lastFcnt := some (w.extractLsb' 40 8).toNat } := ⟨_, rfl⟩
  have hrx : (s.setFlag HSI_STATUS.FAR_RDI h (w.getLsbD 39)).hrx h = HRx.ALIGN :=
    (State.fld_setFlag_of_apart _ _ _ _ (by decide)).trans halign
  have hin : s.framingIn h w = u.lockHost h := by
    rw [State.framingIn, hgood, if_pos rfl, hlast, hu]
    dsimp only
    rw [if_pos hrx, hnext, decide_eq_true rfl]
    rfl
  have hacq : Acquires s u := by
    rw [hu]
    exact ((Frame.refl s).setFlag (by decide)).modHsi
  have hcount : u.fld HSI_LOCK.COUNT h = s.fld HSI_LOCK.COUNT h := by
    rw [hu, State.fld_modHsi, State.fld_setFlag_of_apart _ _ _ _ (by decide)]
  obtain ⟨t, hexec, hdeals⟩ := framing_deals hfcm hlock hvalid
  rw [hin] at hdeals
  obtain ⟨hlocked, hmore, hframe⟩ := locks_of hacq hcount
  exact ⟨t, hexec, (hdeals.1.fld_eq (by decide)).trans hlocked, (hdeals.1.fld_eq (by decide)).trans hmore,
    hdeals.kinds (hacq.lockHost (acquireRegs h) (by decide))⟩

/-- The lane with one more bad frame in a row. -/
def badFramed (n : Nat) (s : State) : State := (s.count HSI_FRAME_ERR.COUNT n).modHsi n fun x =>
  { x with badFrames := (s.hsiOf n).badFrames + 1, lastFcnt := (s.hsiOf n).lastFcnt.map fun l => (l + 1) % 256 }

theorem framing_bad {hd : BitVec 2} {w : BitVec 64} {payload : List Blk} (hfcm : s.fcm h = true) (hlock : (s.hsiOf h).blockLock = true)
    (hvalid : ∀ b ∈ (hd, w) :: payload, b.1 = 1 ∨ b.1 = 2) (hlocked : s.hrx h = HRx.LOCKED) (hbad : framingOk w = false) :
    Completes (.framingBlockReceived h ((hd, w) :: payload)) s fun t => OneMore HSI_FRAME_ERR.COUNT h s t ∧ KeepsKinds acquireKinds s t ∧
      ((s.hsiOf h).badFrames = 3 → LeftFor h HRx.ALIGN HLoss.ALIGN s t) ∧
      ((s.hsiOf h).badFrames ≠ 3 → t.hrx h = HRx.LOCKED ∧ (t.hsiOf h).badFrames = (s.hsiOf h).badFrames + 1) := by
  have hrx : (s.count HSI_FRAME_ERR.COUNT h).hrx h = HRx.LOCKED := (State.fld_count_of_apart _ _ _ _ (by decide)).trans hlocked
  have hin : s.framingIn h w = if (s.hsiOf h).badFrames + 1 = 4 then ((badFramed h s).leaveHost h HLoss.ALIGN HRx.ALIGN).modHsi h fun x =>
      { x with blockLock := true } else badFramed h s := by
    rw [State.framingIn, hbad, if_neg Bool.false_ne_true]
    dsimp only
    rw [hrx, if_neg (by decide), if_pos rfl]
    rfl
  have hcounted : OneMore HSI_FRAME_ERR.COUNT h s (badFramed h s) := (State.fld_modHsi _ _ _ _ _).trans (State.fld_count_eq _ _ _ (by decide))
  have hacq : Acquires s (badFramed h s) := ((Frame.refl s).count (by decide)).modHsi
  obtain ⟨t, hexec, hdeals⟩ := framing_deals hfcm hlock hvalid
  refine ⟨t, hexec, ?_⟩
  by_cases hfour : (s.hsiOf h).badFrames = 3
  · rw [hin, if_pos (congrArg (· + 1) hfour)] at hdeals
    obtain ⟨hst, hloss, hlol, -⟩ := leftFor_of (h := h) (cause := HLoss.ALIGN) (st := HRx.ALIGN) hacq
      ((State.fld_modHsi _ _ _ _ _).trans (State.fld_count_of_apart _ _ _ _ (by decide))) (by decide) (by decide)
    have hkinds := hdeals.kinds (hacq.leaveHost (acquireRegs h)).modHsi
    refine ⟨?_, hkinds, fun _ => ⟨?_, ?_, ?_, hkinds⟩, fun e => absurd hfour e⟩
    · exact (hdeals.1.fld_eq (by decide)).trans ((State.fld_modHsi _ _ _ _ _).trans ((State.fld_leaveHost_apart _ _ (by decide) (by decide) (by decide)
        (by decide) (by decide) (by decide)).trans hcounted))
    · exact (hdeals.1.fld_eq (by decide)).trans ((State.fld_modHsi _ _ _ _ _).trans hst)
    · exact (hdeals.1.fld_eq (by decide)).trans ((State.fld_modHsi _ _ _ _ _).trans hloss)
    · exact (hdeals.1.fld_eq (by decide)).trans ((State.fld_modHsi _ _ _ _ _).trans hlol)
  · rw [hin, if_neg fun e => hfour (Nat.succ.inj e)] at hdeals
    refine ⟨(hdeals.1.fld_eq (by decide)).trans hcounted, hdeals.kinds hacq, fun e => absurd e hfour, fun _ => ⟨?_, ?_⟩⟩
    · exact (hdeals.1.fld_eq (by decide)).trans ((State.fld_modHsi _ _ _ _ _).trans hrx)
    · exact hdeals.2.lane.trans (congrArg HsiX.badFrames (State.hsiOf_modHsi_same _ _ _))

end

/-- Settles O18: a lemma for each event of a host lane's acquisition. -/
theorem hostAcquisition : Obligations.HostAcquisition := by
  intro s h
  refine ⟨fun pattern => ⟨fun hdet hclk => activity_detected hdet hclk pattern, fun hq hclk hnow hsel => activity_wakes hq hclk hnow hsel pattern⟩,
    fun hq hnow hsel => ⟨activity_ignored hq hnow hsel, pattern_wakes hq hnow hsel⟩, signal_lost, stage_timed_out, fun freq checkOk marks hcdr => ⟨?_, ?_, ?_⟩,
    fun ctle lms snr => adapted, alignment_found, fun errors => alignment_lost errors,
    fun steps hlocked => ⟨cdr_lost steps hlocked, delay_followed steps hlocked⟩, fun bits => block_locked,
    fun hfcm hlock => ⟨fun hd => header_bad hfcm hlock, fun hd w payload hvalid =>
      ⟨fun l => framing_locked hfcm hlock hvalid, framing_bad hfcm hlock hvalid⟩⟩⟩
  · exact cdr_found freq ⟨checkOk, marks⟩ hcdr
  · rintro hfcm hwarm rfl
    exact cdr_checked freq marks hcdr hfcm hwarm
  · exact fun hfcm hcold => ⟨sweep_passed hcdr hfcm hcold, sweep_repeated hcdr hfcm hcold⟩

end Sys2Proof.Proofs
end

section
/-! SUPPORT. The accounts and counters of a channel (chapter 7). -/
namespace Sys2Proof.Claims.Frame
open Sys2Proof Sys2Proof.Machine Sys2Proof.Claims
set_option Elab.async false
variable {P : Reg → Nat → Prop} {s u : State} {c i n : Nat} {x : Int} {f : Field}

theorem setAcct (hu : Frame P s u) (hP : P .CIN_CH_ACCT (16 * c + i) := by simp) : Frame P s (u.setAcct c i x) := hu.skip fun h => h.setFld hP

theorem addAcct (hu : Frame P s u) (hP : P .CIN_CH_ACCT (16 * c + i) := by simp) : Frame P s (u.addAcct c i x) := hu.setAcct hP

theorem chCount (hu : Frame P s u) (hP : P f.reg c := by simp) : Frame P s (u.chCount f c n) := hu.skip fun h => h.count hP

theorem grant1 (hu : Frame P s u) (hP : P .CIN_CH_ACCT (16 * c) := by simp) : Frame P s (u.grant1 c) := hu.skip fun h => h.setAcct hP

theorem grant2 (hu : Frame P s u) (hP : P .CIN_CH_ACCT (16 * c + 8) := by simp) : Frame P s (u.grant2 c) := hu.skip fun h => h.setAcct hP

end Sys2Proof.Claims.Frame

namespace Sys2Proof.Machine
open Sys2Proof Sys2Proof.Claims
set_option Elab.async false
section
variable (s : State) (c i : Nat)

theorem ofSigned_nat (w n : Nat) : ofSigned w (n : Int) = n % 2 ^ w := by
  rw [ofSigned]
  exact_mod_cast Int.toNat_natCast _

theorem ofSigned_mod (w : Nat) (x : Int) : ofSigned w x % 2 ^ w = ofSigned w x :=
  Nat.mod_eq_of_lt (by
    have hpos : (0 : Int) < ((2 ^ w : Nat) : Int) := by exact_mod_cast Nat.two_pow_pos w
    have hlt := Int.emod_lt_of_pos x hpos
    have hge := Int.emod_nonneg x hpos.ne'
    unfold ofSigned
    omega)

@[simp] theorem State.fld_setAcct_other {f : Field} (j : Nat) (x : Int) (hf : f.reg ≠ .CIN_CH_ACCT) : (s.setAcct c i x).fld f j = s.fld f j := by
  rw [State.setAcct]
  split
  · rfl
  · exact State.fld_congr (s.reg_setFld_other _ _ _ hf)

@[simp] theorem State.fld_addAcct_other {f : Field} (j : Nat) (x : Int) (hf : f.reg ≠ .CIN_CH_ACCT) : (s.addAcct c i x).fld f j = s.fld f j :=
  s.fld_setAcct_other c i j _ hf

@[simp] theorem State.frozen_setAcct (k : Nat) (x : Int) : (s.setAcct c i x).frozen k = s.frozen k :=
  State.flag_eq_of_fld (s.fld_setAcct_other c i _ x (by decide))

@[simp] theorem State.frozen_addAcct (k : Nat) (x : Int) : (s.addAcct c i x).frozen k = s.frozen k := s.frozen_setAcct c i k _

/-- An account of a channel that is not frozen takes its value modulo 2^32 (R224). -/
theorem State.acct_setAcct_same (x : Int) (hfr : s.frozen c = false) : (s.setAcct c i x).acct c i = ofSigned 32 x := by
  rw [State.setAcct, hfr, if_neg Bool.false_ne_true, State.acct, State.fld_setFld_eq _ _ _ (by decide)]
  exact ofSigned_mod 32 x

theorem State.acct_setAcct_other (x : Int) {k j : Nat} (hk : 16 * k + j ≠ 16 * c + i) : (s.setAcct c i x).acct k j = s.acct k j := by
  rw [State.setAcct]
  split
  · rfl
  · rw [State.acct, State.acct, State.fld_setFld_index _ _ hk]

/-- An account grows by credits modulo 2^32. -/
theorem State.acct_addAcct_same (n : Nat) (hfr : s.frozen c = false) : (s.addAcct c i n).acct c i = (s.acct c i + n) % 2 ^ 32 := by
  rw [State.addAcct, State.acct_setAcct_same _ _ _ _ hfr, ← ofSigned_nat, Nat.cast_add]

theorem State.acct_addAcct_other (x : Int) {k j : Nat} (hk : 16 * k + j ≠ 16 * c + i) : (s.addAcct c i x).acct k j = s.acct k j :=
  s.acct_setAcct_other c i _ hk

@[simp] theorem State.chan_setAcct (x : Int) : (s.setAcct c i x).chan = s.chan := by
  rw [State.setAcct]
  split <;> rfl

@[simp] theorem State.chan_addAcct (x : Int) : (s.addAcct c i x).chan = s.chan := s.chan_setAcct c i _

theorem State.chCount_of_running {f : Field} (n : Nat) (hfr : s.frozen c = false) : s.chCount f c n = s.count f c n := by
  rw [State.chCount, hfr, if_neg Bool.false_ne_true]

theorem State.acct_grant1 (k : Nat) {j : Nat} (hj : 16 * k + j ≠ 16 * c) : (s.grant1 c).acct k j = s.acct k j := by
  rw [State.grant1]
  split
  · rfl
  · exact s.acct_setAcct_other c 0 _ hj

end
end Sys2Proof.Machine
end

section
/-! PROOFS. O20: cells and codewords of the hosts (chapter 6). -/
namespace Sys2Proof.Proofs
open Sys2Proof Sys2Proof.Machine Sys2Proof.Claims
set_option Elab.async false

section
variable {s t u : State} {h : HLane} {c : Nat}

/-- What one more count is (modulo the field's width). -/
abbrev countedOne (f : Field) (i : Nat) (s t : State) : Prop := t.fld f i = (s.fld f i + 1) % 2 ^ f.width

/-! ### A cell accepted -/

/-- What the loop-1 sender has free. -/
abbrev freeOf (s : State) (c : Nat) : Nat := (BitVec.ofNat 32 (s.acct c 0) - BitVec.ofNat 32 (s.acct c 1) - BitVec.ofNat 32 (s.acct c 2)).toNat

/-- What an accepted cell changes. -/
abbrev acceptKeys (c : Nat) : List RegKey := [(.CIN_ACCEPT, c), (.CIN_CH_ACCT, 16 * c + 1), (.CIN_CH_ACCT, 16 * c + 3)]

/-- The counters of a channel with one granule more in its ingress buffer. -/
def acceptedAcct (s : State) (c : Nat) : State := ((s.count CIN_ACCEPT.COUNT c).addAcct c 1 10).addAcct c 3 10

theorem acceptCell_eq {payload : List Byte} {ts : Ts96} (hen : s.chEn c = true) (hfr : s.frozen c = false) (hten : 10 ≤ freeOf s c)
    (hfree : freeOf s c < 2 ^ 31) : s.acceptCell c payload ts =
      ((acceptedAcct s c).modHsi (c / 8) fun x => { x with cells := x.cells + 1 }).modChan c fun x =>
        { x with ing := x.ing ++ [⟨payload, ts.extractLsb' 0 64⟩] } := by
  have hroom : ¬(freeOf s c < 10 ∨ 2 ^ 31 ≤ freeOf s c) := not_or.2 ⟨Nat.not_lt.2 hten, Nat.not_le.2 hfree⟩
  rw [State.acceptCell, hen, hfr, if_neg (by decide)]
  dsimp only
  rw [if_neg hroom, State.chCount_of_running _ _ _ hfr]
  rfl

theorem acceptedAcct_shows (hfr : s.frozen c = false) : countedOne CIN_ACCEPT.COUNT c s (acceptedAcct s c) ∧
    (acceptedAcct s c).acct c 1 = (s.acct c 1 + 10) % 2 ^ 32 ∧ (acceptedAcct s c).acct c 3 = (s.acct c 3 + 10) % 2 ^ 32 ∧
    Frame (fun r i => (r, i) ∈ acceptKeys c) s (acceptedAcct s c) := by
  have hacct (j : Nat) : (s.count CIN_ACCEPT.COUNT c).acct c j = s.acct c j := State.fld_count_of_apart _ _ _ _ (by decide)
  have hfr' : (s.count CIN_ACCEPT.COUNT c).frozen c = false := (State.flag_count_of_apart _ _ _ _ (by decide)).trans hfr
  refine ⟨?_, ?_, ?_, (((Frame.refl s).count).addAcct).addAcct⟩
  · rw [countedOne, acceptedAcct, State.fld_addAcct_other _ _ _ _ _ (by decide), State.fld_addAcct_other _ _ _ _ _ (by decide)]
    exact State.fld_count_eq _ _ _ (by decide)
  · rw [acceptedAcct, State.acct_addAcct_other _ _ _ _ (by omega), ← hacct]
    exact State.acct_addAcct_same _ c 1 10 hfr'
  · have hthree : ((s.count CIN_ACCEPT.COUNT c).addAcct c 1 10).acct c 3 = s.acct c 3 :=
      (State.acct_addAcct_other _ _ _ _ (by omega)).trans (hacct 3)
    rw [← hthree]
    exact State.acct_addAcct_same _ c 3 10 ((State.frozen_addAcct _ _ _ _ _).trans hfr')

/-- A channel's free loop-1 credit, its enable and its freeze are what its registers say. -/
theorem acceptCell_shows {payload : List Byte} {ts : Ts96} (hen : s.chEn c = true) (hfr : s.frozen c = false) (hten : 10 ≤ freeOf s c)
    (hfree : freeOf s c < 2 ^ 31) : countedOne CIN_ACCEPT.COUNT c s (s.acceptCell c payload ts) ∧
      (s.acceptCell c payload ts).acct c 1 = (s.acct c 1 + 10) % 2 ^ 32 ∧ (s.acceptCell c payload ts).acct c 3 = (s.acct c 3 + 10) % 2 ^ 32 ∧
      ((s.acceptCell c payload ts).chanOf c).ing = (s.chanOf c).ing ++ [⟨payload, ts.extractLsb' 0 64⟩] ∧
      Frame (fun r i => (r, i) ∈ acceptKeys c) s (s.acceptCell c payload ts) := by
  have hchan : (acceptedAcct s c).chan = s.chan := by
    rw [acceptedAcct, State.chan_addAcct, State.chan_addAcct]
    rfl
  obtain ⟨hcount, hone, hthree, hframe⟩ := acceptedAcct_shows hfr
  rw [acceptCell_eq hen hfr hten hfree]
  refine ⟨hcount, hone, hthree, ?_, hframe.modHsi.modChan⟩
  rw [State.chanOf_modChan_same]
  have hmod : ((acceptedAcct s c).modHsi (c / 8) fun x => { x with cells := x.cells + 1 }).chanOf c = s.chanOf c := congrArg (Tab.get _ · c) hchan
  rw [hmod]

/-! ### A cell position -/

/-- The position counted towards the next CONTROL cell, whose gap is counted. -/
def positioned (s : State) (n : Nat) (control : Bool) : State :=
  let gap := decide ((s.hsiOf n).cellsRx + 1 = 64)
  let s := s.modHsi n fun x => { x with cellsRx := if control || gap then 0 else x.cellsRx + 1 }
  if gap && !control then s.count HPM_CTL_GAP.COUNT n else s

theorem positioned_frame (n : Nat) (b : Bool) : Frame (fun r i => (r, i) ∈ [(Reg.HPM_CTL_GAP, n)]) s (positioned s n b) := by
  unfold positioned
  exact Frame.ite (fun _ => (Frame.refl s).modHsi.count) fun _ => (Frame.refl s).modHsi

theorem chan_positioned (n : Nat) (b : Bool) : (positioned s n b).chan = s.chan := by
  unfold positioned
  dsimp only
  split <;> rfl

theorem time_positioned (n : Nat) (b : Bool) : (positioned s n b).time = s.time := by
  unfold positioned
  dsimp only
  split <;> rfl

/-- The tag of a DATA cell of channel `i` of a lane. -/
abbrev dataTag (i : Fin 8) : BitVec 20 := (1#2 ++ BitVec.ofNat 3 i ++ 0#7) ++ tagCrc (1#2 ++ BitVec.ofNat 3 i ++ 0#7)

theorem dataTag_fields (i : Fin 8) (hi : BitVec 12) (hhi : hi = 1#2 ++ BitVec.ofNat 3 i ++ 0#7) (crc : BitVec 8) :
    ((hi ++ crc).extractLsb' 18 2).toNat = 1 ∧ ((hi ++ crc).extractLsb' 15 3).toNat = i ∧ (hi ++ crc).extractLsb' 8 7 = 0 ∧
      (hi ++ crc).extractLsb' 8 12 = hi ∧ (hi ++ crc).extractLsb' 0 8 = crc := by
  have hval : hi.toNat = 1024 + 128 * i := by
    rw [hhi]
    exact (show ∀ i : Fin 8, (1#2 ++ BitVec.ofNat 3 i ++ 0#7).toNat = 1024 + 128 * i.val by decide) i
  have happ : (hi ++ crc).toNat = hi.toNat * 256 + crc.toNat := by
    rw [BitVec.toNat_append, ← Nat.shiftLeft_add_eq_or_of_lt crc.isLt, Nat.shiftLeft_eq]
  have hcrc := crc.isLt
  have hi8 := i.isLt
  refine ⟨?_, ?_, BitVec.eq_of_toNat_eq ?_, BitVec.eq_of_toNat_eq ?_, BitVec.eq_of_toNat_eq ?_⟩ <;>
    simp only [BitVec.extractLsb'_toNat, happ, hval, Nat.shiftRight_eq_div_pow, BitVec.ofNat_eq_ofNat, BitVec.toNat_ofNat] <;> omega

theorem dataTag_crcOk (i : Fin 8) : cellTagCrcOk (dataTag i) = true := by
  obtain ⟨-, -, -, hhi, hcrc⟩ := dataTag_fields i _ rfl (tagCrc (1#2 ++ BitVec.ofNat 3 i ++ 0#7))
  rw [cellTagCrcOk, hhi, hcrc]
  exact decide_eq_true rfl

theorem cellIn_data (n : Nat) (i : Fin 8) (payload : List Byte) (off : Nat) : s.cellIn n true true (dataTag i) payload off =
    ((positioned s n false).count HPM_CELL_RX.COUNT n).acceptCell (8 * n + i) payload
      (ts96Of (((positioned s n false).count HPM_CELL_RX.COUNT n).hostInstant off)) := by
  obtain ⟨hkind, hch, hzero, -⟩ := dataTag_fields i _ rfl (tagCrc (1#2 ++ BitVec.ofNat 3 i ++ 0#7))
  rw [State.cellIn]
  dsimp only
  rw [hkind, hch, hzero]
  rfl

theorem cellIn_bad (n : Nat) {crcOk rs : Bool} (hbad : crcOk = false ∨ rs = false) (tag : BitVec 20) (payload : List Byte) (off : Nat) :
    s.cellIn n rs crcOk tag payload off = if rs then (positioned s n false).count HPM_CELL_BAD.COUNT n
      else (((positioned s n false).count HPM_CELL_BAD.COUNT n).count HPM_RS_UNCORR.COUNT n).count HPM_RS_CW.COUNT n := by
  rw [State.cellIn]
  dsimp only
  rcases hbad with rfl | rfl
  · rfl
  · rw [Bool.not_false, Bool.or_true]
    rfl

theorem hostInstant_congr (ht : u.time = s.time) (hr : u.reg .TMB_RATE 0 = s.reg .TMB_RATE 0) (off : Nat) : u.hostInstant off = s.hostInstant off := by
  rw [State.hostInstant, State.hostInstant, State.adj, State.adj, State.now16, State.now16, ht, State.fld_congr (f := TMB_RATE.ADJ) hr]

/-- The state at the cell: what the lane has taken from its stream, its registers but `HSI_STATUS_n` on a wrong CRC untouched. -/
abbrev TakenFrom (n : Nat) (rs crcOk : Bool) (s u : State) : Prop := Frame (fun r i => (r, i) = (Reg.HSI_STATUS, n) ∧ rs = true ∧ crcOk = false) s u ∧
  u.chan = s.chan ∧ u.time = s.time

theorem setFlag_held {f : Field} {i : Nat} {b : Bool} (hb : s.flag f i = b) (hlo : f.lo = f.hi) (hhi : f.hi < 512) :
    Frame (fun _ _ => False) s (s.setFlag f i b) := by
  have hval : (if b then 1 else 0) = s.fld f i := by
    have hlt : s.fld f i < 2 := (s.fld_lt f i).trans_eq (by rw [Field.width, hlo, Nat.sub_self]; rfl)
    rw [State.flag] at hb
    subst hb
    by_cases hz : s.fld f i = 0
    · simp [hz]
    · simp [hz]
      omega
  refine ⟨fun r j _ => ?_, fun _ => rfl, fun _ => rfl⟩
  rw [State.setFlag, hval]
  by_cases hk : r = f.reg ∧ j = i
  · obtain ⟨rfl, rfl⟩ := hk
    exact reg_setFld_self s f j hlo.le hhi
  · exact State.reg_setReg_other s _ (by tauto)

theorem cellLockStep_held (n : Nat) (hlock : s.flag HSI_STATUS.CELL_LOCK n = true) : Frame (fun _ _ => False) s (s.cellLockStep n true) := by
  have hmod : Frame (fun _ _ => False) s (s.modHsi n fun x => { x with cellGood := (s.hsiOf n).cellGood + 1, cellBad := 0 }) := (Frame.refl s).modHsi
  have hheld := setFlag_held (s := s.modHsi n fun x => { x with cellGood := (s.hsiOf n).cellGood + 1, cellBad := 0 }) hlock rfl (by decide)
  unfold State.cellLockStep
  exact Frame.ite (fun _ => hmod.trans hheld) fun _ => Frame.ite (fun (e : 4 ≤ 0) => absurd e (by decide)) fun _ => hmod

theorem cellLockStep_frame (n : Nat) (ok : Bool) : Frame (fun r i => (r, i) = (Reg.HSI_STATUS, n)) s (s.cellLockStep n ok) := by
  have hmod {f : HsiX → HsiX} : Frame (fun r i => (r, i) = (Reg.HSI_STATUS, n)) s (s.modHsi n f) := (Frame.refl s).modHsi
  unfold State.cellLockStep
  exact Frame.ite (fun _ => hmod.setFlag rfl) fun _ => Frame.ite (fun _ => hmod.setFlag rfl) fun _ => hmod

theorem cellLockStep_keeps (n : Nat) (ok : Bool) : (s.cellLockStep n ok).chan = s.chan ∧ (s.cellLockStep n ok).time = s.time := by
  rw [State.cellLockStep]
  generalize (if ok then (s.hsiOf n).cellGood + 1 else 0) = good
  generalize (if ok then 0 else (s.hsiOf n).cellBad + 1) = bad
  split
  · exact ⟨rfl, rfl⟩
  · split <;> exact ⟨rfl, rfl⟩

/-- The message bits of a codeword `w` that decodes to `d`. -/
def messageOf (w : List (BitVec 10)) (d : Option (List Nat × Nat × Nat)) : List Bool :=
  (cwBits (d.elim w fun c => c.1.map (BitVec.ofNat 10))).take 5140

/-- A standard-mode cell: what its codeword decodes to, descrambled. -/
theorem cellReceived_standard {off : Fin 136} {w : List (BitVec 10)} {tag : BitVec 20} {payload : List Byte} (hlocked : s.hrx h = HRx.LOCKED)
    (hsvc : s.hsvc h = Svc.CINCH) (hfcm : s.fcm h = false)
    (hmsg : (cellOfMessage (s.hsiOf h).descr (messageOf w (rsDecode (w.map (·.toNat))))).2 = (tag, payload)) :
    ∃ u, s.cellReceived h off w = u.cellIn h (rsDecode (w.map (·.toNat))).isSome (cellTagCrcOk tag) tag payload off ∧
      TakenFrom h (rsDecode (w.map (·.toNat))).isSome (cellTagCrcOk tag) s u := by
  obtain ⟨m, hm⟩ : ∃ m, m = cellOfMessage (s.hsiOf h).descr (messageOf w (rsDecode (w.map (·.toNat)))) := ⟨_, rfl⟩
  have hin : s.cellReceived h off w = (s.modHsi h fun x => { x with descr := m.1 }).cellIn h (rsDecode (w.map (·.toNat))).isSome
      (cellTagCrcOk m.2.1) m.2.1 m.2.2 off := by
    rw [State.cellReceived, if_neg (by simp [hlocked, hsvc]), hm]
    dsimp only
    rw [hfcm, Bool.not_false, if_pos rfl]
    cases rsDecode (w.map (·.toNat)) <;> rfl
  rw [← hm] at hmsg
  rw [hmsg] at hin
  exact ⟨_, hin, (Frame.refl s).modHsi, rfl, rfl⟩

/-- A cell in forwarded-clock mode under cell lock: the next 81 blocks. -/
theorem cellReceived_fcm {off : Fin 136} {w : List (BitVec 10)} (hlocked : s.hrx h = HRx.LOCKED) (hsvc : s.hsvc h = Svc.CINCH) (hfcm : s.fcm h = true)
    (hlock : s.flag HSI_STATUS.CELL_LOCK h = true) (hlen : 81 ≤ (s.hsiOf h).rxBlocks.length) (hhead : ((s.hsiOf h).rxBlocks.headD idleBlk).1 = 2)
    (hmark : ((s.hsiOf h).rxBlocks.headD idleBlk).2.extractLsb' 56 8 = 0xC5) :
    ∃ u, s.cellReceived h off w = u.cellIn h true (cellTagCrcOk (blkTag ((s.hsiOf h).rxBlocks.headD idleBlk)))
        (blkTag ((s.hsiOf h).rxBlocks.headD idleBlk)) (blkPayload (((s.hsiOf h).rxBlocks.drop 1).take 80)) off ∧
      TakenFrom h true (cellTagCrcOk (blkTag ((s.hsiOf h).rxBlocks.headD idleBlk))) s u := by
  obtain ⟨b, hb⟩ : ∃ b, b = (s.hsiOf h).rxBlocks.headD idleBlk := ⟨_, rfl⟩
  rw [← hb] at hhead hmark ⊢
  have hok : tagBlkOk b = cellTagCrcOk (blkTag b) := by
    rw [tagBlkOk, hhead, hmark]
    rfl
  obtain ⟨v, hv⟩ : ∃ v, v = s.modHsi h fun x => { x with rxBlocks := (s.hsiOf h).rxBlocks.drop (if cellTagCrcOk (blkTag b) || true then 81 else 1) } := ⟨_, rfl⟩
  have hlock' : v.flag HSI_STATUS.CELL_LOCK h = true := by rw [hv]; exact hlock
  have hmod : Frame (fun _ _ => False) s v := by rw [hv]; exact (Frame.refl s).modHsi
  obtain ⟨hchan, htime⟩ := cellLockStep_keeps (s := v) h (cellTagCrcOk (blkTag b))
  refine ⟨v.cellLockStep h (cellTagCrcOk (blkTag b)), ?_, ?_, hchan.trans (by rw [hv]; rfl), htime.trans (by rw [hv]; rfl)⟩
  · rw [State.cellReceived, if_neg (by simp [hlocked, hsvc])]
    dsimp only
    rw [hfcm, Bool.not_true, if_neg Bool.false_ne_true, hlock, Bool.true_or, if_pos rfl, if_neg (Nat.not_lt.2 hlen), ← hb, hok, if_pos rfl, hv]
  · have hwide : Frame (fun r i => (r, i) = (Reg.HSI_STATUS, h.val) ∧ true = true ∧ cellTagCrcOk (blkTag b) = false) s v := hmod.mono fun _ _ e => e.elim
    cases hcrc : cellTagCrcOk (blkTag b) with
    | true => exact (hmod.trans (cellLockStep_held h hlock')).mono fun _ _ e => e.elim
    | false => exact ((hmod.mono fun _ _ e => e.elim).trans (cellLockStep_frame h false)).mono fun _ _ e => ⟨e, rfl, rfl⟩

/-! ### What a cell does -/

theorem data_cell {i : Fin 8} {payload : List Byte} {off : Nat} (htaken : TakenFrom h true true s u)
    (hen : s.chEn (8 * h.val + i.val) = true) (hfr : s.frozen (8 * h.val + i.val) = false) (hten : 10 ≤ freeOf s (8 * h.val + i.val))
    (hfree : freeOf s (8 * h.val + i.val) < 2 ^ 31) (ht : t = u.cellIn h true true (dataTag i) payload off) :
    countedOne HPM_CELL_RX.COUNT h s t ∧ countedOne CIN_ACCEPT.COUNT (8 * h.val + i.val) s t ∧
    t.acct (8 * h.val + i.val) 1 = (s.acct (8 * h.val + i.val) 1 + 10) % 2 ^ 32 ∧ t.acct (8 * h.val + i.val) 3 = (s.acct (8 * h.val + i.val) 3 + 10) % 2 ^ 32 ∧
    (t.chanOf (8 * h.val + i.val)).ing = (s.chanOf (8 * h.val + i.val)).ing ++ [⟨payload, (ts96Of (s.hostInstant off)).extractLsb' 0 64⟩] ∧
    Frame (fun r j => (r, j) ∈ (Reg.HPM_CELL_RX, h.val) :: (.HPM_CTL_GAP, h.val) :: acceptKeys (8 * h.val + i.val)) s t := by
  obtain ⟨hframe, hchan, htime⟩ := htaken
  have hnone : Frame (fun r j => (r, j) ∈ [(Reg.HPM_CTL_GAP, h.val)]) s u := hframe.mono fun _ _ e => absurd e.2.2 (by decide)
  obtain ⟨v, hv⟩ : ∃ v, v = (positioned u h false).count HPM_CELL_RX.COUNT h := ⟨_, rfl⟩
  have hpos : Frame (fun r j => (r, j) ∈ [(Reg.HPM_CTL_GAP, h.val)]) s (positioned u h false) := hnone.trans (positioned_frame _ _)
  have hcounted : Frame (fun r j => (r, j) ∈ [(Reg.HPM_CELL_RX, h.val), (.HPM_CTL_GAP, h.val)]) s v := by
    rw [hv]
    exact (hpos.mono fun _ _ e => List.mem_cons_of_mem _ e).count
  have hrx : countedOne HPM_CELL_RX.COUNT h s v := by
    rw [countedOne, hv, State.fld_count_eq _ _ _ (by decide), hpos.fld_eq (by simp)]
    rfl
  have hacct (j : Nat) : v.acct (8 * h.val + i.val) j = s.acct (8 * h.val + i.val) j := hcounted.fld_eq (by simp)
  have hen' : v.chEn (8 * h.val + i.val) = true := (hcounted.flag_eq (by simp)).trans hen
  have hfr' : v.frozen (8 * h.val + i.val) = false := (hcounted.flag_eq (by simp)).trans hfr
  have hfree' : freeOf v (8 * h.val + i.val) = freeOf s (8 * h.val + i.val) := by rw [freeOf, hacct, hacct, hacct]
  have hinst : v.hostInstant off = s.hostInstant off := by
    refine hostInstant_congr ?_ (hcounted.reg_eq (by simp)) off
    rw [hv]
    exact (time_positioned h.val false).trans htime
  have hv' : v.chanOf (8 * h.val + i.val) = s.chanOf (8 * h.val + i.val) := by
    refine congrArg (Tab.get _ · _) ?_
    rw [hv]
    exact (chan_positioned h.val false).trans hchan
  rw [cellIn_data, ← hv, hinst] at ht
  rw [ht]
  obtain ⟨hacc, hone, hthree, hing, hkeys⟩ := acceptCell_shows (s := v) (payload := payload) (ts := ts96Of (s.hostInstant off)) hen' hfr'
    (hfree'.symm ▸ hten) (hfree'.symm ▸ hfree)
  refine ⟨(hkeys.fld_eq (by simp)).trans hrx, ?_, ?_, ?_, ?_, ?_⟩
  · rw [countedOne, hacc, hcounted.fld_eq (by simp)]
  · rw [hone, hacct]
  · rw [hthree, hacct]
  · rw [hing, hv']
  · exact (hcounted.mono fun _ _ e => by simp at e ⊢; tauto).trans (hkeys.mono fun _ _ e => by simp at e ⊢; tauto)

theorem bad_cell {rs crcOk : Bool} {tag : BitVec 20} {payload : List Byte} {off : Nat} (htaken : TakenFrom h rs crcOk s u)
    (hbad : crcOk = false ∨ rs = false) (ht : t = u.cellIn h rs crcOk tag payload off) : countedOne HPM_CELL_BAD.COUNT h s t ∧
      (rs = true → Frame (fun r j => (r, j) ∈ [(Reg.HPM_CELL_BAD, h.val), (.HPM_CTL_GAP, h.val), (.HSI_STATUS, h.val)]) s t) ∧
      (rs = false → countedOne HPM_RS_UNCORR.COUNT h s t ∧ countedOne HPM_RS_CW.COUNT h s t ∧
        Frame (fun r j => (r, j) ∈ [(Reg.HPM_CELL_BAD, h.val), (.HPM_CTL_GAP, h.val), (.HPM_RS_UNCORR, h.val), (.HPM_RS_CW, h.val)]) s t) := by
  obtain ⟨hframe, -, -⟩ := htaken
  have hgap := positioned_frame (s := u) h false
  have hpos : Frame (fun r j => (r, j) ∈ [(Reg.HPM_CTL_GAP, h.val), (.HSI_STATUS, h.val)]) s (positioned u h false) :=
    (hframe.mono fun _ _ e => by simp at e ⊢; tauto).trans (hgap.mono fun _ _ e => by simp at e ⊢; tauto)
  rw [cellIn_bad _ hbad] at ht
  cases rs with
  | true =>
    rw [if_pos rfl] at ht
    rw [ht]
    refine ⟨?_, fun _ => (hpos.mono fun _ _ e => List.mem_cons_of_mem _ e).count, fun e => absurd e (by decide)⟩
    rw [countedOne, State.fld_count_eq _ _ _ (by decide), hpos.fld_eq (by simp)]
    rfl
  | false =>
    rw [if_neg Bool.false_ne_true] at ht
    have hpos' : Frame (fun r j => (r, j) ∈ [(Reg.HPM_CTL_GAP, h.val)]) s (positioned u h false) :=
      (hframe.mono fun _ _ e => absurd e.2.1 (by decide)).trans hgap
    rw [ht]
    refine ⟨?_, fun e => absurd e (by decide), fun _ => ⟨?_, ?_, ?_⟩⟩
    · rw [countedOne, State.fld_count_of_apart _ _ _ _ (by decide), State.fld_count_of_apart _ _ _ _ (by decide), State.fld_count_eq _ _ _ (by decide),
        hpos'.fld_eq (by simp)]
      rfl
    · rw [countedOne, State.fld_count_of_apart _ _ _ _ (by decide), State.fld_count_eq _ _ _ (by decide), State.fld_count_of_apart _ _ _ _ (by decide),
        hpos'.fld_eq (by simp)]
      rfl
    · rw [countedOne, State.fld_count_eq _ _ _ (by decide), State.fld_count_of_apart _ _ _ _ (by decide), State.fld_count_of_apart _ _ _ _ (by decide),
        hpos'.fld_eq (by simp)]
      rfl
    · exact (((hpos'.mono fun _ _ e => by simp at e ⊢; tauto).count).count).count

/-- Records of the same capture do not touch a register, a channel or the stores (R244). -/
theorem cell_completes {off : Fin 136} {head : BitVec 20} {bytes : List Byte} {parity : List (BitVec 10)} {Q : State → Prop}
    (hQ : ∀ t, (∃ ts, t = s.capturedAt ts (s.cellReceived h off (cellWord head bytes parity))) → Q t) :
    Completes (.hostCellReceived h off head bytes parity) s Q := ⟨_, rfl, hQ _ ⟨_, rfl⟩⟩

/-! ### Credit records -/

theorem return_taken {c : Chan} {total : BitVec 32} (hlocked : s.hrx h = HRx.LOCKED) (hsvc : s.hsvc h = Svc.CINCH) (hc : c.val / 8 = h.val)
    (hen : s.chEn c = true) (hfr : s.frozen c = false) (hpos : 0 < (total - BitVec.ofNat 32 (s.acct c 2)).toNat)
    (hahead : (total - BitVec.ofNat 32 (s.acct c 2)).toNat < 2 ^ 31) (hout : (total - BitVec.ofNat 32 (s.acct c 2)).toNat ≤ freeOf s c) :
    Completes (.hostCreditRecord h c 1 1 total) s fun t => t.acct c 2 = total.toNat ∧
      Keeps [(.CIN_CH_ACCT, 16 * c.val), (.CIN_CH_ACCT, 16 * c.val + 2)] s t := by
  have hexec : exec (.hostCreditRecord h c 1 1 total) s = .next ((s.setAcct c 2 (total.toNat : Nat)).grant1 c) := by
    change execHostCreditRecord h c 1 1 total s = _
    rw [execHostCreditRecord, if_neg (by simp [hlocked, hsvc])]
    dsimp only
    rw [if_neg (not_not.2 hc), if_pos ⟨rfl, rfl⟩, hen, if_pos rfl, State.totalIn]
    dsimp only
    rw [if_neg hpos.ne', if_neg (Nat.not_le.2 hahead), if_neg Bool.false_ne_true, if_neg (Nat.not_lt.2 hout), if_pos rfl]
  have hset : Frame (fun r i => (r, i) ∈ [(Reg.CIN_CH_ACCT, 16 * c.val), (.CIN_CH_ACCT, 16 * c.val + 2)]) s
      ((s.setAcct c 2 (total.toNat : Nat)).grant1 c) := ((Frame.refl s).setAcct).grant1
  refine ⟨_, hexec, ?_, hset.keeps⟩
  rw [State.acct_grant1 _ _ _ (by omega), State.acct_setAcct_same _ _ _ _ hfr, ofSigned_nat]
  exact Nat.mod_eq_of_lt total.isLt

theorem reserved_record {c : Chan} {loop kind : Fin 16} {total : BitVec 32} (hlocked : s.hrx h = HRx.LOCKED) (hsvc : s.hsvc h = Svc.CINCH)
    (hone : loop.val ≠ 1) (hthree : loop.val ≠ 3) : Completes (.hostCreditRecord h c loop kind total) s fun t =>
      countedOne HPM_CTL_RSVD.COUNT h s t ∧ Keeps [(.HPM_CTL_RSVD, h)] s t := by
  have hexec : exec (.hostCreditRecord h c loop kind total) s = .next (s.count HPM_CTL_RSVD.COUNT h) := by
    change execHostCreditRecord h c loop kind total s = _
    rw [execHostCreditRecord, if_neg (by simp [hlocked, hsvc])]
    dsimp only
    rw [if_neg (c := loop.val = 1 ∧ kind.val = 1) fun e => hone e.1, if_neg (c := loop.val = 3 ∧ kind.val = 0) fun e => hthree e.1, ite_self]
  have hcount : Frame (fun r i => (r, i) ∈ [(Reg.HPM_CTL_RSVD, h.val)]) s (s.count HPM_CTL_RSVD.COUNT h) := (Frame.refl s).count
  exact ⟨_, hexec, State.fld_count_eq _ _ _ (by decide), hcount.keeps⟩

/-! ### Cell slots towards the host -/

/-- What a slot leaves alone while it sends: registers, stores, and of lane `n` what waits. -/
abbrev Sends (n : Nat) (s t : State) : Prop := Frame (fun _ _ => False) s t ∧ (t.hsiOf n).cellsTx = (s.hsiOf n).cellsTx ∧ (t.hsiOf n).outQ = (s.hsiOf n).outQ

theorem sendCell_sends (n : Nat) (cell : Cell) : Sends n s (s.sendCell n cell) ∧ ((s.sendCell n cell).hsiOf n).sent = cell := by
  rw [State.sendCell]
  dsimp only
  split
  · refine ⟨⟨((Frame.refl s).modHsi).modHsi, ?_, ?_⟩, ?_⟩ <;> rw [State.hsiOf_modHsi_same, State.hsiOf_modHsi_same]
  · rw [State.sendCw]
    refine ⟨⟨(((Frame.refl s).modHsi).modHsi).modHsi, ?_, ?_⟩, ?_⟩ <;>
      rw [State.hsiOf_modHsi_same, State.hsiOf_modHsi_same, State.hsiOf_modHsi_same]

theorem controlCell_sends (n : Nat) : Sends n s (s.controlCell n).2 := by
  rw [State.controlCell]
  dsimp only
  generalize ((List.range 8).flatMap fun i => (s.hostDue (8 * n + i)).map fun e => (8 * n + i, e)) = due
  obtain ⟨f, hf⟩ : ∃ f : State → Nat × Nat × Nat × BitVec 32 → State, f = fun s e => s.modChan e.1 fun x =>
    if e.2.1 = 1 then { x with sent1 := e.2.2.2, due1 := false } else { x with sent3 := e.2.2.2, due3 := false } := ⟨_, rfl⟩
  have hfold : Frame (fun _ _ => False) s (due.foldl f s) ∧ (due.foldl f s).hsi = s.hsi := by
    refine List.foldlRecOn (motive := fun v => Frame (fun _ _ => False) s v ∧ v.hsi = s.hsi) due f ⟨.refl s, rfl⟩ fun v hv e _ => ?_
    rw [hf]
    exact ⟨hv.1.modChan, hv.2⟩
  rw [← hf]
  have hlane : (due.foldl f s).hsiOf n = s.hsiOf n := congrArg (Tab.get _ · n) hfold.2
  refine ⟨hfold.1.modHsi, ?_, ?_⟩ <;> rw [State.hsiOf_modHsi_same, hlane]

/-- Something is due in a CONTROL cell of lane `n`, or one is overdue. -/
abbrev controlDue (s : State) (n : Nat) : Bool := (!(s.hsiOf n).entries.isEmpty || (List.range 8).any fun i => !(s.hostDue (8 * n + i)).isEmpty) ||
  decide (63 ≤ (s.hsiOf n).cellsTx)

theorem slot_control (hact : s.htx h = HTx.ACTIVE) (hsvc : s.hsvc h = Svc.CINCH) (hpat : s.fld HSI_PAT.PAT h = 0) (hdue : controlDue s h = true) :
    exec (.hostCellSlot h) s =
      .next ((((s.controlCell h).2).modHsi h fun x => { x with cellsTx := 0 }).sendCell h ⟨2, 0, (s.controlCell h).1⟩) := by
  change execHostCellSlot h s = _
  rw [execHostCellSlot, if_neg (by simp [hact, hsvc, hpat])]
  exact if_pos hdue

theorem slot_data {p : List Byte} {rest : List (Nat × List Byte)} (hact : s.htx h = HTx.ACTIVE) (hsvc : s.hsvc h = Svc.CINCH)
    (hpat : s.fld HSI_PAT.PAT h = 0) (hdue : controlDue s h = false) (hq : (s.hsiOf h).outQ = (c, p) :: rest) : exec (.hostCellSlot h) s =
      .next ((s.modHsi h fun x => { x with cellsTx := x.cellsTx + 1, outQ := rest }).sendCell h ⟨1, c % 8, p⟩) := by
  change execHostCellSlot h s = _
  rw [execHostCellSlot, if_neg (by simp [hact, hsvc, hpat])]
  refine (if_neg (ne_true_of_eq_false hdue)).trans ?_
  simp only [hq]

theorem slot_idle (hact : s.htx h = HTx.ACTIVE) (hsvc : s.hsvc h = Svc.CINCH) (hpat : s.fld HSI_PAT.PAT h = 0) (hdue : controlDue s h = false)
    (hq : (s.hsiOf h).outQ = []) : exec (.hostCellSlot h) s =
      .next ((s.modHsi h fun x => { x with cellsTx := x.cellsTx + 1 }).sendCell h ⟨0, 0, List.replicate 640 0⟩) := by
  change execHostCellSlot h s = _
  rw [execHostCellSlot, if_neg (by simp [hact, hsvc, hpat])]
  refine (if_neg (ne_true_of_eq_false hdue)).trans ?_
  simp only [hq]

theorem cell_slot (hact : s.htx h = HTx.ACTIVE) (hsvc : s.hsvc h = Svc.CINCH) (hpat : s.fld HSI_PAT.PAT h = 0) :
    Completes (.hostCellSlot h) s fun t => Keeps [] s t ∧
      (controlDue s h = true → (t.hsiOf h).sent.kind = 2 ∧ (t.hsiOf h).cellsTx = 0 ∧ (t.hsiOf h).outQ = (s.hsiOf h).outQ) ∧
      (∀ c p rest, controlDue s h = false → (s.hsiOf h).outQ = (c, p) :: rest → (t.hsiOf h).sent = ⟨1, c % 8, p⟩ ∧ (t.hsiOf h).outQ = rest) ∧
      (controlDue s h = false → (s.hsiOf h).outQ = [] → (t.hsiOf h).sent = ⟨0, 0, List.replicate 640 0⟩) := by
  have hkeeps {v : State} (hv : Frame (fun _ _ => False) s v) : Keeps [] s v := by
    have hk : Frame (fun r i => (r, i) ∈ ([] : List RegKey)) s v := hv.mono fun _ _ e => e.elim
    exact hk.keeps
  cases hdue : controlDue s h with
  | true =>
    obtain ⟨hcontrol, -, hq⟩ := controlCell_sends (s := s) h
    obtain ⟨⟨hframe, hcells, houtQ⟩, hsent⟩ := sendCell_sends (s := ((s.controlCell h).2).modHsi h fun x => { x with cellsTx := 0 }) h
      ⟨2, 0, (s.controlCell h).1⟩
    refine ⟨_, slot_control hact hsvc hpat hdue, hkeeps (hcontrol.modHsi.trans hframe), fun _ => ⟨by rw [hsent], ?_, ?_⟩, fun _ _ _ e => absurd e (by decide),
      fun e => absurd e (by decide)⟩
    · rw [hcells, State.hsiOf_modHsi_same]
    · rw [houtQ, State.hsiOf_modHsi_same]
      exact hq
  | false =>
    cases hq : (s.hsiOf h).outQ with
    | nil =>
      obtain ⟨⟨hframe, -, -⟩, hsent⟩ := sendCell_sends (s := s.modHsi h fun x => { x with cellsTx := x.cellsTx + 1 }) h
        ⟨0, 0, List.replicate 640 0⟩
      have hmod : Frame (fun _ _ => False) s (s.modHsi h fun x => { x with cellsTx := x.cellsTx + 1 }) := (Frame.refl s).modHsi
      exact ⟨_, slot_idle hact hsvc hpat hdue hq, hkeeps (hmod.trans hframe), fun e => absurd e (by decide), fun _ _ _ _ e => absurd e (by simp), fun _ _ => hsent⟩
    | cons e rest =>
      obtain ⟨c, p⟩ := e
      obtain ⟨⟨hframe, -, houtQ⟩, hsent⟩ := sendCell_sends (s := s.modHsi h fun x => { x with cellsTx := x.cellsTx + 1, outQ := rest }) h
        ⟨1, c % 8, p⟩
      have hmod : Frame (fun _ _ => False) s (s.modHsi h fun x => { x with cellsTx := x.cellsTx + 1, outQ := rest }) := (Frame.refl s).modHsi
      refine ⟨_, slot_data hact hsvc hpat hdue hq, hkeeps (hmod.trans hframe), fun e => absurd e (by decide), ?_, fun _ e => absurd e (by simp)⟩
      rintro _ _ _ - ⟨⟩
      exact ⟨hsent, by rw [houtQ, State.hsiOf_modHsi_same]⟩

/-! ### Host codewords -/

/-- The count that the outcome of a codeword moves. -/
abbrev outcomeOf (d : Option (List Nat × Nat × Nat)) : Field := match d with
  | none => HPM_RS_UNCORR.COUNT
  | some (_, 0, _) => HPM_RS_ZERO.COUNT
  | some _ => HPM_RS_CORR.COUNT

theorem outcome_plain (d : Option (List Nat × Nat × Nat)) : (outcomeOf d).lo + ((outcomeOf d).hi - (outcomeOf d).lo) < 512 ∧
    HPM_RS_CW.COUNT.apart (outcomeOf d) = true ∧ (outcomeOf d).apart HPM_RS_CW.COUNT = true ∧ (outcomeOf d).reg ≠ .HPM_IDLE_DEL ∧
    (outcomeOf d).reg ≠ .HPM_OVF := by
  have hall : ∀ f ∈ [HPM_RS_UNCORR.COUNT, HPM_RS_ZERO.COUNT, HPM_RS_CORR.COUNT], f.lo + (f.hi - f.lo) < 512 ∧ HPM_RS_CW.COUNT.apart f = true ∧
      f.apart HPM_RS_CW.COUNT = true ∧ f.reg ≠ .HPM_IDLE_DEL ∧ f.reg ≠ .HPM_OVF := by decide
  rcases d with _ | ⟨c, _ | n, b⟩
  · exact hall HPM_RS_UNCORR.COUNT (by decide)
  · exact hall HPM_RS_ZERO.COUNT (by decide)
  · exact hall HPM_RS_CORR.COUNT (by decide)

theorem portUp_frame (p : Nat) (bs : List Blk) : Frame (fun r i => (r, i) ∈ [(Reg.HPM_IDLE_DEL, p), (.HPM_OVF, p)]) s (s.portUp p bs) :=
  (((Frame.refl s).modHpm).count).count

theorem codeword_counted {p : Fin 32} {w : List (BitVec 10)} (hsvc : s.hsvc p = Svc.ETHERNET) (hhears : s.portHears p = true)
    (hup : s.flag HPM_PORT_STATUS.UP p = true) : Completes (.hostCodewordDecoded p w) s fun t => countedOne HPM_RS_CW.COUNT p s t ∧
      countedOne (outcomeOf (rsDecode (w.map (·.toNat)))) p s t ∧
      Keeps [(.HPM_RS_CW, p), ((outcomeOf (rsDecode (w.map (·.toNat)))).reg, p), (.HPM_IDLE_DEL, p), (.HPM_OVF, p)] s t := by
  obtain ⟨d, hd⟩ : ∃ d, d = rsDecode (w.map (·.toNat)) := ⟨_, rfl⟩
  obtain ⟨bs, hexec⟩ : ∃ bs, exec (.hostCodewordDecoded p w) s = .next (((s.count HPM_RS_CW.COUNT p).count (outcomeOf d) p).portUp p bs) := by
    refine ⟨d.elim (List.replicate 80 errorBlk) fun c => blocksOf ((symbolBits c.1).take 5140), ?_⟩
    change execHostCodewordDecoded p w s = _
    rw [execHostCodewordDecoded, if_neg (by rw [hsvc]; decide), if_neg (by simp [hhears, hsvc])]
    dsimp only
    rw [hup, Bool.not_true, if_neg Bool.false_ne_true, ← hd]
    rcases d with _ | ⟨c, _ | n, b⟩ <;> rfl
  obtain ⟨hwide, hap, hap', hdel, hovf⟩ := outcome_plain d
  rw [← hd]
  have hcounts : Frame (fun r i => (r, i) ∈ [(Reg.HPM_RS_CW, p.val), ((outcomeOf d).reg, p.val), (.HPM_IDLE_DEL, p.val), (.HPM_OVF, p.val)]) s
      ((s.count HPM_RS_CW.COUNT p).count (outcomeOf d) p) := ((Frame.refl s).count).count
  have hport := portUp_frame (s := (s.count HPM_RS_CW.COUNT p).count (outcomeOf d) p) p.val bs
  refine ⟨_, hexec, (hport.fld_eq (by simp)).trans ?_, (hport.fld_eq (by simp [hdel, hovf])).trans ?_,
    (hcounts.trans (hport.mono fun _ _ e => by simp at e ⊢; tauto)).keeps⟩
  · rw [State.fld_count_of_apart _ _ _ _ hap']
    exact State.fld_count_eq _ _ _ (by decide)
  · rw [State.fld_count_eq _ _ _ hwide, State.fld_count_of_apart _ _ _ _ hap]
    rfl

theorem codeword_waits {p : Fin 32} {w : List (BitVec 10)} (hsvc : s.hsvc p = Svc.TRANSPARENT) (hlocked : s.hrx p = HRx.LOCKED)
    (hhalf : (s.hsiOf p).half = none) : Completes (.hostCodewordDecoded p w) s fun t => (t.hsiOf p).half = some w ∧ Keeps [] s t := by
  have hexec : exec (.hostCodewordDecoded p w) s = .next (s.modHsi p fun x => { x with half := some w }) := by
    change execHostCodewordDecoded p w s = _
    rw [execHostCodewordDecoded, if_pos hsvc, if_pos hlocked, State.relayUp, hhalf]
  have hmod : Frame (fun r i => (r, i) ∈ ([] : List RegKey)) s (s.modHsi p fun x => { x with half := some w }) := (Frame.refl s).modHsi
  exact ⟨_, hexec, congrArg HsiX.half (State.hsiOf_modHsi_same s p _), hmod.keeps⟩

end

/-- Settles O20: the lemmas above, one for each outcome of a cell, a credit record, a slot or a codeword. -/
theorem hostCells : Obligations.HostCells := by
  refine ⟨fun s h hlocked hsvc => ⟨fun off head bytes parity rs tag payload => ?_, fun c total hc => return_taken hlocked hsvc hc,
    fun c loop kind total => reserved_record hlocked hsvc⟩, fun s h => cell_slot, fun s p w => codeword_counted, fun s p w => codeword_waits⟩
  intro w x d head' comes hcomes
  obtain ⟨u, hin, htaken⟩ : ∃ u, s.cellReceived h off w = u.cellIn h rs (cellTagCrcOk tag) tag payload off ∧ TakenFrom h rs (cellTagCrcOk tag) s u := by
    rcases hcomes with ⟨hfcm, rfl, hmsg⟩ | ⟨hfcm, rfl, hlock, hlen, hhead, hmark, rfl, rfl⟩
    · refine cellReceived_standard hlocked hsvc hfcm (Eq.trans ?_ hmsg)
      cases hd : rsDecode (w.map (·.toNat)) <;> simp only [d, hd] <;> rfl
    · exact cellReceived_fcm hlocked hsvc hfcm hlock hlen hhead hmark
  refine ⟨?_, fun hrs hcrc => cell_completes ?_, fun hrs => cell_completes ?_⟩
  · intro i hi c free hrs htag hen hfr hten hfree
    refine cell_completes ?_
    rintro t ⟨ts, rfl⟩
    obtain rfl : tag = dataTag i := htag
    rw [hrs, dataTag_crcOk] at hin htaken
    obtain ⟨hrx, hacc, hone, hthree, hing, hframe⟩ := data_cell htaken hen hfr hten hfree rfl
    change countedOne _ _ s (s.capturedAt ts (s.cellReceived h off w)) ∧ _
    rw [hin]
    have hsame : Frame (fun r j => (r, j) ∈ (Reg.HPM_CELL_RX, h.val) :: (.HPM_CTL_GAP, h.val) :: acceptKeys (8 * h.val + i.val)) s
      (s.capturedAt ts (u.cellIn h true true (dataTag i) payload off)) := hframe.same
    exact ⟨hrx, hacc, hone, hthree, hing, hsame.keeps⟩
  · rintro t ⟨ts, rfl⟩
    obtain ⟨hbad, hgood, -⟩ := bad_cell htaken (.inl hcrc) rfl
    change countedOne _ _ s (s.capturedAt ts (s.cellReceived h off w)) ∧ _
    rw [hin]
    have hsame : Frame (fun r j => (r, j) ∈ [(Reg.HPM_CELL_BAD, h.val), (.HPM_CTL_GAP, h.val), (.HSI_STATUS, h.val)]) s
      (s.capturedAt ts (u.cellIn h rs (cellTagCrcOk tag) tag payload off)) := (hgood hrs).same
    exact ⟨hbad, hsame.keeps⟩
  · rintro t ⟨ts, rfl⟩
    obtain ⟨hbad, -, huncorr⟩ := bad_cell htaken (.inr hrs) rfl
    obtain ⟨hun, hcw, hframe⟩ := huncorr hrs
    change countedOne _ _ s (s.capturedAt ts (s.cellReceived h off w)) ∧ _
    rw [hin]
    have hsame : Frame (fun r j => (r, j) ∈ [(Reg.HPM_CELL_BAD, h.val), (.HPM_CTL_GAP, h.val), (.HPM_RS_UNCORR, h.val), (.HPM_RS_CW, h.val)]) s
      (s.capturedAt ts (u.cellIn h rs (cellTagCrcOk tag) tag payload off)) := hframe.same
    exact ⟨hbad, hun, hcw, hsame.keeps⟩

end Sys2Proof.Proofs
end

section
/-! PROOFS. O36, first part: trim DACs and their read-back (chapter 13). -/
namespace Sys2Proof.Proofs
open Sys2Proof Sys2Proof.Machine Sys2Proof.Claims
set_option Elab.async false

section
variable {s t u : State}

/-! ### What DAC `n` takes -/

/-- Nothing holds the output of DAC `n`. -/
abbrev DacFree (s : State) (n : Nat) : Prop := s.partFailed 11 = false ∧ ((s.dacOf n).held = false ∨ s.flag HKA_DAC_CFG.HOLD_ON_FAULT n = false)

/-- DAC `n` with its output changed to what stands staged. -/
def dacTaken (s : State) (n : Nat) (timed : Bool) : State :=
  (s.setFld HKA_DAC_CODE.NOW n (s.dacStaged n timed).1).modDac n fun x => { x with
    gain := (s.dacStaged n timed).2.1, on := (s.dacStaged n timed).2.2, gen := x.gen + 1
    rbDue := (s.setFld HKA_DAC_CODE.NOW n (s.dacStaged n timed).1).flag HKA_DAC_CFG.RB_EN n
    rbAt := s.cycle + cyclesOfUs ((s.setFld HKA_DAC_CODE.NOW n (s.dacStaged n timed).1).fld HKA_RB_CFG.RB_DELAY 0) }

theorem dacUpdate_free {n : Nat} (timed : Bool) (hfree : DacFree s n) : s.dacUpdate n timed = (dacTaken s n timed, true) := by
  have hloose : ¬((s.dacOf n).held && s.flag HKA_DAC_CFG.HOLD_ON_FAULT n) = true := by
    rcases hfree.2 with hh | hh <;> simp [hh]
  rw [State.dacUpdate]
  dsimp only
  rw [hfree.1, if_neg Bool.false_ne_true, if_neg hloose]
  rfl

theorem dacUpdate_held {n : Nat} (timed : Bool) (hheld : ¬DacFree s n) : s.dacUpdate n timed = (s, false) := by
  rw [State.dacUpdate]
  dsimp only
  split
  · rfl
  · rename_i hpart
    refine if_pos ?_
    by_contra hloose
    refine hheld ⟨Bool.eq_false_iff.2 hpart, ?_⟩
    rwa [Bool.and_eq_true, not_and_or, Bool.not_eq_true, Bool.not_eq_true] at hloose

theorem dacTaken_frame {P : Reg → Nat → Prop} {n : Nat} (timed : Bool) (hu : Frame P s u) (hP : P .HKA_DAC_CODE n := by simp) :
    Frame P s (dacTaken u n timed) := (hu.setFld hP).same

theorem now_dacTaken (n : Nat) (timed : Bool) : (dacTaken s n timed).fld HKA_DAC_CODE.NOW n = (s.dacStaged n timed).1 % 2 ^ HKA_DAC_CODE.NOW.width := by
  rw [dacTaken, State.fld_modDac]
  exact State.fld_setFld_eq _ _ _ (by decide)

theorem code_dacTaken (n k : Nat) (timed : Bool) : (dacTaken s n timed).fld HKA_DAC_CODE.CODE k = s.fld HKA_DAC_CODE.CODE k := by
  rw [dacTaken, State.fld_modDac]
  exact State.fld_setFld_of_apart _ _ _ _ (by decide)

/-- The code of a write to `HKA_DAC_CODE_n`, waiting. -/
def codeWaits (s : State) (n code : Nat) : State := (s.dacKeep n).setFld HKA_DAC_CODE.CODE n code

theorem codeWaits_dac (n code : Nat) : ((codeWaits s n code).dacOf n).held = (s.dacOf n).held ∧ ((codeWaits s n code).dacOf n).gen = (s.dacOf n).gen := by
  have hkeep : (codeWaits s n code).dacOf n = (s.dacKeep n).dacOf n := rfl
  rw [hkeep, State.dacKeep, State.dacOf_modDac_same]
  exact ⟨rfl, rfl⟩

theorem code_written {p : Path} {n : Fin 32} {code : BitVec 16} (hacc : Accepts s p .HKA_DAC_CODE n) :
    Completes (.dacCodeWrite p n code) s fun t => t.fld HKA_DAC_CODE.CODE n = code.toNat ∧ Keeps [(.HKA_DAC_CODE, n.val)] s t ∧
      (s.fld HKA_DAC_CFG.TRIG n = 0 → DacFree s n → t.fld HKA_DAC_CODE.NOW n = code.toNat ∧ (t.dacOf n).gen = (s.dacOf n).gen + 1) ∧
      (s.fld HKA_DAC_CFG.TRIG n ≠ 0 ∨ ¬DacFree s n → t.fld HKA_DAC_CODE.NOW n = s.fld HKA_DAC_CODE.NOW n) := by
  have hval : fieldOf code.toNat HKA_DAC_CODE.CODE = code.toNat := by
    rw [fieldOf, Nat.shiftRight_zero]
    exact Nat.mod_eq_of_lt code.isLt
  obtain ⟨v, hv⟩ : ∃ v, v = codeWaits s n code.toNat := ⟨_, rfl⟩
  have hset : Frame (fun r i => (r, i) ∈ [(Reg.HKA_DAC_CODE, n.val)]) s v := by
    rw [hv]
    exact Frame.setFld ((Frame.refl s).same)
  have hcode : v.fld HKA_DAC_CODE.CODE n = code.toNat := by
    rw [hv, codeWaits, State.fld_setFld_eq _ _ _ (by decide)]
    exact Nat.mod_eq_of_lt code.isLt
  have hnow : v.fld HKA_DAC_CODE.NOW n = s.fld HKA_DAC_CODE.NOW n := by
    rw [hv, codeWaits, State.fld_setFld_of_apart _ _ _ _ (by decide)]
    rfl
  have htrig : v.fld HKA_DAC_CFG.TRIG n = s.fld HKA_DAC_CFG.TRIG n := hset.fld_eq (by simp)
  obtain ⟨hheld, hgen⟩ := codeWaits_dac (s := s) n code.toNat
  rw [← hv] at hheld hgen
  have hfree : DacFree v n ↔ DacFree s n := by
    rw [DacFree, DacFree, hheld, hset.flag_eq (f := HKA_DAC_CFG.HOLD_ON_FAULT) (by simp), State.partFailed, State.partFailed,
      hset.fld_eq (f := BST_RESULT.FAIL_MASK) (by simp)]
  have hexec : exec (.dacCodeWrite p n code) s = .next (if v.fld HKA_DAC_CFG.TRIG n = 0 then (v.dacUpdate n false).1 else v) := by
    rw [hv, codeWaits]
    refine (writeCommand_accepted _ hacc).trans ?_
    rw [wrDacCode]
    dsimp only
    rw [hval]
  by_cases hnow' : s.fld HKA_DAC_CFG.TRIG n = 0 ∧ DacFree s n
  · obtain ⟨himm, hf⟩ := hnow'
    rw [htrig, if_pos himm, dacUpdate_free false (hfree.2 hf)] at hexec
    have hstaged : (v.dacStaged n false).1 = code.toNat := by
      rw [State.dacStaged, ← hcode]
      split
      · rw [if_neg fun e => absurd e.1 (by decide)]
      · rfl
    refine ⟨_, hexec, (code_dacTaken _ _ _).trans hcode, (dacTaken_frame false hset).keeps, fun _ _ => ⟨?_, ?_⟩,
      fun e => absurd e (by simp [himm, hf])⟩
    · rw [now_dacTaken, hstaged]
      exact Nat.mod_eq_of_lt code.isLt
    · rw [dacTaken, State.dacOf_modDac_same]
      exact congrArg (· + 1) hgen
  · have hstays : exec (.dacCodeWrite p n code) s = .next v := by
      rw [hexec, htrig]
      split
      next himm => rw [dacUpdate_held false fun e => hnow' ⟨himm, hfree.1 e⟩]
      next => rfl
    exact ⟨v, hstays, hcode, hset.keeps, fun himm hf => absurd ⟨himm, hf⟩ hnow', fun _ => hnow⟩

/-! ### Timers -/

/-- DAC `n`'s turn as timer `k` fires. -/
def timerTurn (k n : Nat) (s : State) : State :=
  if s.fld HKA_DAC_CFG.TRIG n = k + 1 then if (s.dacUpdate n true).2 then (s.dacUpdate n true).1.logDac n 0 0 else (s.dacUpdate n true).1 else s

/-- What of the state DAC `n`'s turn depends on. -/
def dacSeen (s : State) (n : Nat) : RegVal × RegVal × Bool × DacX × Nat :=
  (s.reg .HKA_DAC_CODE n, s.reg .HKA_DAC_CFG n, s.partFailed 11, s.dacOf n, s.cycle)

theorem timerTurn_frame {P : Reg → Nat → Prop} {k n : Nat} (hu : Frame P s u) (hP : P .HKA_DAC_CODE n) (hd : P .EVL_DROPPED 0) :
    Frame P s (timerTurn k n u) := by
  unfold timerTurn
  by_cases hf : DacFree u n
  · rw [dacUpdate_free true hf]
    exact hu.when fun hu => (dacTaken_frame true hu hP).log hd
  · rw [dacUpdate_held true hf]
    exact hu.when fun hu => hu

theorem timerTurn_other (k i j : Nat) (s : State) (hij : j ≠ i) : dacSeen (timerTurn k i s) j = dacSeen s j := by
  have hframe : Frame (fun r i' => r = .HKA_DAC_CODE ∧ i' = i ∨ r = .EVL_DROPPED) s (timerTurn k i s) :=
    timerTurn_frame (.refl s) (.inl ⟨rfl, rfl⟩) (.inr rfl)
  have hdac : (timerTurn k i s).dacOf j = s.dacOf j ∧ (timerTurn k i s).cycle = s.cycle := by
    rw [timerTurn]
    split
    · by_cases hf : DacFree s i
      · rw [dacUpdate_free true hf, if_pos rfl]
        have hlog : Evolves (Scope.of [.EVL_DROPPED] [.recorder]) (dacTaken s i true) ((dacTaken s i true).logDac i 0 0) := Evolves.log (.refl _)
        exact ⟨(congrArg (Tab.get _ · j) (hlog.part .dac)).trans (State.dacOf_modDac_other _ _ hij), hlog.cycle⟩
      · rw [dacUpdate_held true hf]
        exact ⟨rfl, rfl⟩
    · exact ⟨rfl, rfl⟩
  rw [dacSeen, dacSeen, hframe.reg_eq (by simp [hij]), hframe.reg_eq (by simp), hdac.1, hdac.2, State.partFailed, State.partFailed,
    hframe.fld_eq (f := BST_RESULT.FAIL_MASK) (by simp)]

theorem dacStaged_congr {n : Nat} (hseen : dacSeen u n = dacSeen s n) (timed : Bool) : u.dacStaged n timed = s.dacStaged n timed := by
  simp only [dacSeen, Prod.mk.injEq] at hseen
  obtain ⟨hcode, hcfg, -, hdac, hcycle⟩ := hseen
  rw [State.dacStaged, State.dacStaged, hdac, State.fld_congr (f := HKA_DAC_CODE.CODE) hcode, State.flag_congr (f := HKA_DAC_CFG.GAIN) hcfg,
    State.flag_congr (f := HKA_DAC_CFG.EN) hcfg, State.engineCycle, State.engineCycle, hcycle]

theorem dacFree_congr {n : Nat} (hseen : dacSeen u n = dacSeen s n) : DacFree u n ↔ DacFree s n := by
  simp only [dacSeen, Prod.mk.injEq] at hseen
  obtain ⟨-, hcfg, hpart, hdac, -⟩ := hseen
  rw [DacFree, DacFree, hdac, hpart, State.flag_congr (f := HKA_DAC_CFG.HOLD_ON_FAULT) hcfg]

theorem now_timerTurn (k n : Nat) : (timerTurn k n s).fld HKA_DAC_CODE.NOW n = if s.fld HKA_DAC_CFG.TRIG n = k + 1 ∧ DacFree s n
    then (s.dacStaged n true).1 % 2 ^ HKA_DAC_CODE.NOW.width else s.fld HKA_DAC_CODE.NOW n := by
  rw [timerTurn]
  by_cases htrig : s.fld HKA_DAC_CFG.TRIG n = k + 1
  · by_cases hf : DacFree s n
    · rw [if_pos htrig, dacUpdate_free true hf, if_pos rfl, if_pos ⟨htrig, hf⟩, ← now_dacTaken]
      exact State.fld_log_of_apart _ _ _ _ _ _ (by decide)
    · rw [if_pos htrig, dacUpdate_held true hf, if_neg Bool.false_ne_true, if_neg fun e => hf e.2]
  · rw [if_neg htrig, if_neg fun e => htrig e.1]

theorem timer_fired {k : Fin 3} (hen : s.flag HKA_DAC_TIMER.EN k = true) : Completes (.dacTimerFire k) s fun t =>
    t.flag HKA_DAC_TIMER.EN k = !s.flag HKA_DAC_TIMER.ONESHOT k ∧
    (∀ n : Fin 32, t.fld HKA_DAC_CODE.NOW n = if s.fld HKA_DAC_CFG.TRIG n = k.val + 1 ∧ s.partFailed 11 = false ∧
      ((s.dacOf n).held = false ∨ s.flag HKA_DAC_CFG.HOLD_ON_FAULT n = false) then (s.dacStaged n true).1 % 2 ^ HKA_DAC_CODE.NOW.width
      else s.fld HKA_DAC_CODE.NOW n) ∧
    KeepsKinds [.HKA_DAC_TIMER, .HKA_DAC_CODE, .EVL_DROPPED] s t := by
  obtain ⟨v, hv⟩ : ∃ v, v = if s.flag HKA_DAC_TIMER.ONESHOT k then s.setFlag HKA_DAC_TIMER.EN k false else s := ⟨_, rfl⟩
  have hexec : exec (.dacTimerFire k) s = .next (v.each dacs32 (timerTurn k)) := by
    rw [hv]
    change execDacTimerFire k s = _
    rw [execDacTimerFire, hen]
    rfl
  have hstop : Frame (fun r _ => r = .HKA_DAC_TIMER) s v := by
    rw [hv]
    exact (Frame.refl s).when fun h => h.setFlag rfl
  have hen' : v.flag HKA_DAC_TIMER.EN k = !s.flag HKA_DAC_TIMER.ONESHOT k := by
    rw [hv]
    cases hone : s.flag HKA_DAC_TIMER.ONESHOT k with
    | true => exact State.flag_setFlag_eq _ _ _ (by decide)
    | false => exact hen
  have hloop : Frame (fun r _ => r ∈ [Reg.HKA_DAC_TIMER, .HKA_DAC_CODE, .EVL_DROPPED]) v (v.each dacs32 (timerTurn k)) :=
    (Frame.refl v).each fun i _ h => timerTurn_frame h (by decide) (by decide)
  have hturns : Frame (fun r _ => r ∈ [Reg.HKA_DAC_CODE, .EVL_DROPPED]) v (v.each dacs32 (timerTurn k)) :=
    (Frame.refl v).each fun i _ h => timerTurn_frame h (by decide) (by decide)
  refine ⟨_, hexec, (hturns.flag_eq (by decide)).trans hen', fun n => ?_, ((hstop.mono fun r _ e => by subst e; decide).trans hloop).kinds⟩
  obtain ⟨w, hw, ht⟩ := State.each_turn (obs := dacSeen) (f := timerTurn k) (timerTurn_other k) (is := dacs32) List.nodup_range
    (k := n) (List.mem_range.2 n.isLt) v
  have hdac : (v.dacOf n) = s.dacOf n ∧ v.cycle = s.cycle := by
    rw [hv]
    split <;> exact ⟨rfl, rfl⟩
  have hvs : dacSeen v n = dacSeen s n := by
    rw [dacSeen, dacSeen, hstop.reg_eq (by decide), hstop.reg_eq (by decide), hdac.1, hdac.2, State.partFailed, State.partFailed,
      hstop.fld_eq (f := BST_RESULT.FAIL_MASK) (by decide)]
  have hws : dacSeen w n = dacSeen s n := hw.trans hvs
  have hnow : (v.each dacs32 (timerTurn k)).fld HKA_DAC_CODE.NOW n = (timerTurn k n w).fld HKA_DAC_CODE.NOW n :=
    State.fld_congr (congrArg Prod.fst ht)
  have hcfg : w.reg .HKA_DAC_CFG n = s.reg .HKA_DAC_CFG n := congrArg (fun e => e.2.1) hws
  rw [hnow, now_timerTurn, dacStaged_congr hws, State.fld_congr (f := HKA_DAC_CFG.TRIG) hcfg,
    State.fld_congr (f := HKA_DAC_CODE.NOW) (congrArg Prod.fst hws)]
  exact if_congr (and_congr_right' (dacFree_congr hws)) rfl rfl

/-! ### Read-back -/

theorem urgentRequest_queued {c : ConvX} (r : ConvX) (hroom : s.hka.urgent.length < 4) (hkind : r.kind ≠ Conv.SOFTWARE) (hconv : s.hka.conv = some c)
    (hscan : c.kind ≠ Conv.SCAN) : s.urgentRequest r = s.modHka fun x => { x with urgent := x.urgent ++ [r] } := by
  have hconv' : (s.modHka fun x => { x with urgent := x.urgent ++ [r] }).hka.conv = some c := hconv
  rw [State.urgentRequest, if_neg (Nat.not_le.2 hroom)]
  dsimp only
  rw [if_neg hkind, hconv']
  dsimp only
  rw [if_neg fun e => hscan e.1, State.hkaStart, hconv']
  rfl

theorem urgentRequest_full (r : ConvX) (hfull : 4 ≤ s.hka.urgent.length) (hkind : r.kind ≠ Conv.SOFTWARE) :
    s.urgentRequest r = (s.count HKA_URG_DROP.COUNT 0).modHka fun x => { x with retry := x.retry ++ [r] } := by
  rw [State.urgentRequest, if_pos hfull, if_neg hkind]

/-- The read-back of DAC `n` as a request. -/
abbrev readBackOf (s : State) (n : Nat) : ConvX := { ch := n, src := 2, order := 0, kind := Conv.READBACK, gen := (s.dacOf n).gen }

/-- The read-back has joined the queue, or is counted and retried. -/
abbrev Asked (n : Nat) (s t : State) : Prop :=
  (s.hka.urgent.length < 4 → (∃ c, s.hka.conv = some c ∧ c.kind ≠ Conv.SCAN) → t.hka.urgent = s.hka.urgent ++ [readBackOf s n] ∧ Keeps [] s t) ∧
  (4 ≤ s.hka.urgent.length → t.hka.retry = s.hka.retry ++ [readBackOf s n] ∧ Counts HKA_URG_DROP.COUNT 0 s t ∧ Keeps [(.HKA_URG_DROP, 0)] s t)

theorem asked_readBack {n : Nat} (hu : Frame (fun _ _ => False) s u) (hq : u.hka.urgent = s.hka.urgent) (hr : u.hka.retry = s.hka.retry)
    (hc : u.hka.conv = s.hka.conv) (hgen : (u.dacOf n).gen = (s.dacOf n).gen) : Asked n s (u.readBack n) := by
  have hkind : (readBackOf u n).kind ≠ Conv.SOFTWARE := (by decide : Conv.READBACK ≠ Conv.SOFTWARE)
  have hrb : readBackOf u n = readBackOf s n := by rw [readBackOf, readBackOf, hgen]
  have hask : u.readBack n = u.urgentRequest (readBackOf u n) := rfl
  rw [Asked, ← hq, ← hr, ← hc, ← hrb, hask]
  constructor
  · rintro hroom ⟨c, hconv, hscan⟩
    rw [urgentRequest_queued _ hroom hkind hconv hscan]
    have hmod : Frame (fun r i => (r, i) ∈ ([] : List RegKey)) s (u.modHka fun x => { x with urgent := x.urgent ++ [readBackOf u n] }) :=
      (hu.mono fun _ _ e => e.elim).same
    exact ⟨rfl, hmod.keeps⟩
  · intro hfull
    rw [urgentRequest_full _ hfull hkind]
    have hmod : Frame (fun r i => (r, i) ∈ [(Reg.HKA_URG_DROP, 0)]) s ((u.count HKA_URG_DROP.COUNT 0).modHka fun x =>
      { x with retry := x.retry ++ [readBackOf u n] }) := (Frame.count (f := HKA_URG_DROP.COUNT) (i := 0) (hu.mono fun _ _ e => e.elim)).same
    exact ⟨rfl, (counts_count (f := HKA_URG_DROP.COUNT) 0 1 u).after (hu.fld_eq not_false), hmod.keeps⟩

theorem dacOf_readBack (n k : Nat) : (s.readBack n).dacOf k = s.dacOf k := by
  have h : Evolves (Scope.of [.HKA_URGENT, .HKA_URG_DROP] [.hka]) s (s.readBack n) := Evolves.urgentRequest (.refl s)
  exact congrArg (Tab.get _ · k) (h.part .dac)

theorem rbLast_hkaStart : s.hkaStart.hka.rbLast = s.hka.rbLast := by
  rw [State.hkaStart]
  split
  · rfl
  · split
    · rfl
    · split
      · split <;> rfl
      · rfl

theorem rbLast_readBack (n : Nat) : (s.readBack n).hka.rbLast = s.hka.rbLast := by
  have hkind : ¬Conv.READBACK = Conv.SOFTWARE := by decide
  rw [State.readBack, State.urgentRequest]
  dsimp only
  rw [if_neg hkind, if_neg hkind]
  split
  · rfl
  · rw [rbLast_hkaStart]
    split
    · split <;> rfl
    · rfl

theorem readBack_due {n : Fin 32} (hdue : (s.dacOf n).rbDue = true) (hat : (s.dacOf n).rbAt ≤ s.cycle) : Completes (.readbackRequest n) s fun t =>
    (t.dacOf n).rbDue = false ∧ Asked n s t := by
  have hexec : exec (.readbackRequest n) s = .next ((s.modDac n fun x => { x with rbDue := false }).readBack n) := if_pos ⟨hdue, hat⟩
  have hsame : (s.modDac n fun x => { x with rbDue := false }).dacOf n = { s.dacOf n with rbDue := false } := State.dacOf_modDac_same _ _ _
  refine ⟨_, hexec, ?_, asked_readBack (Frame.same (.refl s)) rfl rfl rfl (by rw [hsame])⟩
  rw [dacOf_readBack, hsame]

theorem readBack_next {n : Nat} (hper : s.fld HKA_RB_CFG.RB_PERIOD 0 ≠ 0) (hnext : (((List.range 32).map fun i => (s.hka.rbLast + 1 + i) % 32).find?
    fun k => s.flag HKA_DAC_CFG.RB_EN k) = some n) : Completes .readbackPeriod s fun t => t.hka.rbLast = n ∧ Asked n s t := by
  have hexec : exec .readbackPeriod s = .next ((s.modHka fun x => { x with rbLast := n }).readBack n) := by
    change execReadbackPeriod s = _
    rw [execReadbackPeriod, if_neg hper]
    dsimp only
    rw [hnext]
  exact ⟨_, hexec, rbLast_readBack n, asked_readBack (Frame.same (.refl s)) rfl rfl rfl rfl⟩

/-! ### Faults -/

theorem fault_bit (v : Nat) (n : Nat) (hn : n < 32) : ((plainWrite .HKA_DAC_FAULT 0 v s).fld HKA_DAC_FAULT.FAULT 0).testBit n =
    ((s.fld HKA_DAC_FAULT.FAULT 0).testBit n && !(v.testBit n && !(s.risenOf .HKA_DAC_FAULT 0).testBit n)) := by
  have haccess : ∀ k : Fin 32, (Reg.HKA_DAC_FAULT.desc.fields.find? fun f => decide (f.lo ≤ k.val ∧ k.val ≤ f.hi)).map (fun f => f.access) =
    some Access.w1c := by decide
  have hbit {w : State} : (w.fld HKA_DAC_FAULT.FAULT 0).testBit n = (w.reg .HKA_DAC_FAULT 0).getLsbD n := by
    rw [State.fld_eq, testBit_bitsOf, decide_eq_true (show n < 31 - 0 + 1 by omega), Bool.true_and, Nat.zero_add]
  rw [hbit, hbit, getLsbD_reg_plainWrite (by decide), writtenBit, haccess ⟨n, hn⟩]

theorem faults_cleared {p : Path} {mask : Word32} (hacc : Accepts s p .HKA_DAC_FAULT 0) : Completes (.dacFaultClear p mask) s fun t =>
    (∀ n : Fin 32, let clears := mask.getLsbD n && !(s.risenOf .HKA_DAC_FAULT 0).testBit n
      (t.fld HKA_DAC_FAULT.FAULT 0).testBit n = ((s.fld HKA_DAC_FAULT.FAULT 0).testBit n && !clears) ∧
      (t.dacOf n).held = ((s.dacOf n).held && !clears)) ∧ Keeps [(.HKA_DAC_FAULT, 0)] s t := by
  obtain ⟨c, hc⟩ : ∃ c, c = s.clearable .HKA_DAC_FAULT 0 mask.toNat := ⟨_, rfl⟩
  obtain ⟨w, hw⟩ : ∃ w, w = plainWrite .HKA_DAC_FAULT 0 c s := ⟨_, rfl⟩
  have hexec : exec (.dacFaultClear p mask) s = .next (w.each (dacs32.filter fun n => c.testBit n) fun n s =>
      s.modDac n fun x => { x with held := false, fails := 0 }) := by
    rw [hw, hc]
    exact writeCommand_accepted _ hacc
  have hwrite : Frame (fun r i => (r, i) ∈ [(Reg.HKA_DAC_FAULT, 0)]) s w := by
    rw [hw]
    exact (Frame.refl s).plainWrite
  have hloop : Frame (fun _ _ => False) w (w.each (dacs32.filter fun n => c.testBit n) fun n s => s.modDac n fun x => { x with held := false, fails := 0 }) :=
    (Frame.refl w).each fun _ _ h => h.same
  have hother : ∀ i j (s : State), j ≠ i → (s.modDac i fun x => { x with held := false, fails := 0 }).dacOf j = s.dacOf j :=
    fun i j s hij => State.dacOf_modDac_other s _ hij
  have hmask (k : Nat) : c.testBit k = (mask.getLsbD k && !(s.risenOf .HKA_DAC_FAULT 0).testBit k) := by
    rw [hc, State.testBit_clearable, BitVec.testBit_toNat]
  refine ⟨_, hexec, fun n => ⟨?_, ?_⟩, (hwrite.trans (hloop.mono fun _ _ e => e.elim)).keeps⟩
  · rw [hloop.fld_eq not_false, hw, fault_bit _ _ n.isLt, hmask, Bool.and_assoc, Bool.and_self]
  · have hdac : w.dacOf n = s.dacOf n := by rw [hw]; rfl
    have hin : n.val ∈ dacs32.filter (fun n => c.testBit n) ↔ c.testBit n = true := by
      rw [List.mem_filter]
      exact and_iff_right (List.mem_range.2 n.isLt)
    rw [← hmask]
    cases hb : c.testBit n with
    | true =>
      obtain ⟨u, -, ht⟩ := State.each_turn (obs := State.dacOf) hother (is := dacs32.filter fun n => c.testBit n) (List.nodup_range.filter _) (hin.2 hb) w
      rw [ht, State.dacOf_modDac_same, Bool.not_true, Bool.and_false]
    | false =>
      rw [State.each_apart (obs := State.dacOf) hother fun e => absurd (hin.1 e) (by rw [hb]; decide), hdac, Bool.not_false, Bool.and_true]

/-- The DACs and their read-back: a lemma for each command. -/
theorem dacsAndReadback : Sys2Proof.Claims.DacsAndReadback := by
  intro s
  exact ⟨fun p n code => code_written, fun k => timer_fired, fun n => readBack_due, fun hper n => readBack_next hper, fun p mask => faults_cleared⟩

end

end Sys2Proof.Proofs
end

section
/-! PROOFS. O36, second part: decimation, self-calibration and fits (chapter 13). -/
namespace Sys2Proof.Proofs
open Sys2Proof Sys2Proof.Machine Sys2Proof.Claims
set_option Elab.async false

section
variable {s t u : State}

/-! ### Decimation -/

/-- The result that the engine holds for channel `c` (R380). -/
def heldResult (s : State) (c : Nat) : Nat := match s.hka.last with
  | some (e, k, old) => if e = s.engineCycle ∧ k = c then old else (s.reg .HKA_RESULT c).toNat
  | none => (s.reg .HKA_RESULT c).toNat

/-- The engine's state of a channel at the start of a tick. -/
def decStart (x : DecX) : DecX := if x.restart then { x with prev := x.acc, ticks := 0, valid := true, restart := false } else x

/-- The engine's state of channel `c` with the held result added. -/
def decAdded (s : State) (c : Nat) : DecX :=
  { decStart (s.decOf c) with
    acc := (decStart (s.decOf c)).acc + BitVec.ofInt 36 (BitVec.ofNat 24 (fieldOf (heldResult s c) HKA_RESULT.CODE)).toInt
    ticks := (decStart (s.decOf c)).ticks + 1
    valid := (decStart (s.decOf c)).valid && (decide (fieldOf (heldResult s c) HKA_RESULT.VALID = 1) &&
      decide (fieldOf (heldResult s c) HKA_RESULT.SUPPLY = 0)) }

/-- The ticks of a block. -/
def blockTicks (s : State) : Nat := 2 ^ min (s.fld HKA_DEC_CFG.M_LOG2 0) 11

/-- The rounded mean of the block that ends. -/
def blockMean (s : State) (c : Nat) : Int :=
  (((decAdded s c).acc - (decAdded s c).prev).toInt + (blockTicks s / 2 : Nat)) / (blockTicks s : Int)

/-- Channel `c` at the end of its block, before its record goes to a stream. -/
def blockEnd (s : State) (c : Nat) : State :=
  ((s.modDec c fun _ => { decAdded s c with prev := (decAdded s c).acc, ticks := 0, valid := true }).setFlag HKA_DEC_OUT.VALID c
    (decAdded s c).valid).setFld HKA_DEC_OUT.OUT c (code24 (blockMean s c))

theorem decimate_eq (c : Nat) : ∃ code flags ts, s.decimate c = if s.flag HKA_CH_CFG.DEC_EN c = false then s
    else if (decAdded s c).ticks < blockTicks s then s.modDec c fun _ => decAdded s c else (blockEnd s c).toStream c code flags true ts := by
  refine ⟨code24 (blockMean s c), (blockEnd s c).streamFlags false false false true (!(decAdded s c).valid) false,
    ts96Of ((blockEnd s c).now16 + c * 256 * 65536 / 10), ?_⟩
  rw [State.decimate]
  cases hen : s.flag HKA_CH_CFG.DEC_EN c with
  | false => rfl
  | true =>
    rw [Bool.not_true, if_neg Bool.false_ne_true, if_neg (c := true = false) (fun e => Bool.noConfusion e)]
    rfl

/-- What of the state channel `c`'s visit depends on. -/
def decSeen (s : State) (c : Nat) : DecX × RegVal × RegVal × Bool × Nat × HkaX × Nat :=
  (s.decOf c, s.reg .HKA_DEC_OUT c, s.reg .HKA_RESULT c, s.flag HKA_CH_CFG.DEC_EN c, s.fld HKA_DEC_CFG.M_LOG2 0, s.hka, s.cycle)

theorem decSeen_toStream {k code flags : Nat} {dec : Bool} {ts : Ts96} (c : Nat) : decSeen (s.toStream k code flags dec ts) c = decSeen s c := by
  have h : Evolves toStreamScope s (s.toStream k code flags dec ts) := Evolves.toStream (.refl s)
  have hdec : (s.toStream k code flags dec ts).decOf c = s.decOf c := congrArg (Tab.get _ · c) (h.part .dec)
  have hhka : (s.toStream k code flags dec ts).hka = s.hka := h.part .hka
  rw [decSeen, decSeen, hdec, hhka, h.reg .HKA_DEC_OUT c, h.reg .HKA_RESULT c, h.flag HKA_CH_CFG.DEC_EN c, h.fld HKA_DEC_CFG.M_LOG2 0, h.cycle]

/-- The engine's state of a channel at the end of its block. -/
def decEnded (x : DecX) : DecX := { x with prev := x.acc, ticks := 0, valid := true }

theorem decOf_blockEnd (c k : Nat) : (blockEnd s c).decOf k = (s.modDec c fun _ => decEnded (decAdded s c)).decOf k := rfl

theorem decSeen_blockEnd (i j : Nat) (hij : j ≠ i) : decSeen (blockEnd s i) j = decSeen s j := by
  have hdec : (blockEnd s i).decOf j = s.decOf j := (decOf_blockEnd i j).trans (State.decOf_modDec_other s _ hij)
  have hframe : Frame (fun r k => (r, k) = (Reg.HKA_DEC_OUT, i)) s (blockEnd s i) := Frame.setFld (Frame.setFlag (Frame.same (.refl s)) rfl) rfl
  have hrest : (blockEnd s i).hka = s.hka ∧ (blockEnd s i).cycle = s.cycle := ⟨rfl, rfl⟩
  rw [decSeen, decSeen, hdec, hrest.1, hrest.2, hframe.reg_eq (by simp [hij]), hframe.reg_eq (by simp), hframe.flag_eq (by simp), hframe.fld_eq (by simp)]

theorem decimate_other (i j : Nat) (s : State) (hij : j ≠ i) : decSeen (s.decimate i) j = decSeen s j := by
  obtain ⟨code, flags, ts, h⟩ := decimate_eq (s := s) i
  rw [h]
  split
  · rfl
  · split
    · have hdec : (s.modDec i fun _ => decAdded s i).decOf j = s.decOf j := State.decOf_modDec_other s _ hij
      rw [decSeen, hdec]
      rfl
    · rw [decSeen_toStream, decSeen_blockEnd _ _ hij]

/-- A visit in terms of what it depends on. -/
theorem decimate_shows (c : Nat) :
    (s.flag HKA_CH_CFG.DEC_EN c = false → decSeen (s.decimate c) c = decSeen s c) ∧
    (s.flag HKA_CH_CFG.DEC_EN c = true → ((s.decimate c).decOf c).acc = (decAdded s c).acc ∧
      ((decAdded s c).ticks < blockTicks s → (s.decimate c).decOf c = decAdded s c ∧ (s.decimate c).reg .HKA_DEC_OUT c = s.reg .HKA_DEC_OUT c) ∧
      (blockTicks s ≤ (decAdded s c).ticks → ((s.decimate c).decOf c).ticks = 0 ∧ ((s.decimate c).decOf c).prev = (decAdded s c).acc ∧
        (s.decimate c).fld HKA_DEC_OUT.OUT c = code24 (blockMean s c))) := by
  obtain ⟨code, flags, ts, h⟩ := decimate_eq (s := s) c
  rw [h]
  constructor
  · intro hoff
    rw [if_pos hoff]
  · intro hon
    rw [if_neg (by rw [hon]; decide)]
    by_cases hlt : (decAdded s c).ticks < blockTicks s
    · have hdec : (s.modDec c fun _ => decAdded s c).decOf c = decAdded s c := State.decOf_modDec_same s c _
      rw [if_pos hlt, hdec]
      exact ⟨rfl, fun _ => ⟨rfl, rfl⟩, fun hge => absurd hlt (Nat.not_lt.2 hge)⟩
    · have hseen := decSeen_toStream (s := blockEnd s c) (k := c) (code := code) (flags := flags) (dec := true) (ts := ts) c
      have hdec : (blockEnd s c).decOf c = decEnded (decAdded s c) := (decOf_blockEnd c c).trans (State.decOf_modDec_same s c _)
      have hdec' : ((blockEnd s c).toStream c code flags true ts).decOf c = decEnded (decAdded s c) := (congrArg Prod.fst hseen).trans hdec
      have hout : ((blockEnd s c).toStream c code flags true ts).fld HKA_DEC_OUT.OUT c = code24 (blockMean s c) := by
        rw [State.fld_congr (f := HKA_DEC_OUT.OUT) (congrArg (fun e => e.2.1) hseen), blockEnd, State.fld_setFld_eq _ _ _ (by decide)]
        exact Nat.mod_eq_of_lt (BitVec.isLt _)
      rw [if_neg hlt, hdec']
      exact ⟨rfl, fun e => absurd e hlt, fun _ => ⟨rfl, rfl, hout⟩⟩

theorem heldResult_congr {c : Nat} (hseen : decSeen u c = decSeen s c) : heldResult u c = heldResult s c := by
  simp only [decSeen, Prod.mk.injEq] at hseen
  obtain ⟨-, -, hres, -, -, hhka, hcycle⟩ := hseen
  rw [heldResult, heldResult, hhka, hres, State.engineCycle, State.engineCycle, hcycle]

theorem decAdded_congr {c : Nat} (hseen : decSeen u c = decSeen s c) : decAdded u c = decAdded s c := by
  have hdec : u.decOf c = s.decOf c := congrArg Prod.fst hseen
  rw [decAdded, decAdded, heldResult_congr hseen, hdec]

theorem blockTicks_congr {c : Nat} (hseen : decSeen u c = decSeen s c) : blockTicks u = blockTicks s := by
  simp only [decSeen, Prod.mk.injEq] at hseen
  rw [blockTicks, blockTicks, hseen.2.2.2.2.1]

theorem blockMean_congr {c : Nat} (hseen : decSeen u c = decSeen s c) : blockMean u c = blockMean s c := by
  rw [blockMean, blockMean, decAdded_congr hseen, blockTicks_congr hseen]

/-- The state that channel `c`'s visit meets. -/
theorem tick_turn {c : Nat} (hc : c < 40) : ∃ u, decSeen u c = decSeen s c ∧
    decSeen (s.each channels40 fun c s => s.decimate c) c = decSeen (u.decimate c) c :=
  State.each_turn (obs := decSeen) (f := fun c s => s.decimate c) decimate_other (is := channels40) List.nodup_range (List.mem_range.2 hc) s

theorem tick_shows {c : Nat} (hc : c < 40) : let t := s.each channels40 fun c s => s.decimate c
    (s.flag HKA_CH_CFG.DEC_EN c = false → t.decOf c = s.decOf c ∧ t.reg .HKA_DEC_OUT c = s.reg .HKA_DEC_OUT c) ∧
    (s.flag HKA_CH_CFG.DEC_EN c = true → (t.decOf c).acc = (decAdded s c).acc ∧
      ((decAdded s c).ticks < blockTicks s → (t.decOf c).ticks = (decAdded s c).ticks ∧ (t.decOf c).prev = (decAdded s c).prev ∧
        t.reg .HKA_DEC_OUT c = s.reg .HKA_DEC_OUT c) ∧
      (blockTicks s ≤ (decAdded s c).ticks → (t.decOf c).ticks = 0 ∧ (t.decOf c).prev = (decAdded s c).acc ∧
        t.fld HKA_DEC_OUT.OUT c = code24 (blockMean s c))) := by
  intro t
  obtain ⟨u, hu, ht⟩ := tick_turn (s := s) hc
  have hdec : t.decOf c = (u.decimate c).decOf c := congrArg Prod.fst ht
  have hout : t.reg .HKA_DEC_OUT c = (u.decimate c).reg .HKA_DEC_OUT c := congrArg (fun e => e.2.1) ht
  have hout' : u.reg .HKA_DEC_OUT c = s.reg .HKA_DEC_OUT c := congrArg (fun e => e.2.1) hu
  have hen : u.flag HKA_CH_CFG.DEC_EN c = s.flag HKA_CH_CFG.DEC_EN c := congrArg (fun e => e.2.2.2.1) hu
  have hfld : t.fld HKA_DEC_OUT.OUT c = (u.decimate c).fld HKA_DEC_OUT.OUT c := State.fld_congr hout
  obtain ⟨hoff, hon⟩ := decimate_shows (s := u) c
  rw [hen] at hoff hon
  rw [decAdded_congr hu, blockTicks_congr hu, blockMean_congr hu, hout'] at hon
  rw [hdec, hout, hfld]
  refine ⟨fun hf => ?_, fun hf => ?_⟩
  · have hsame := (hoff hf).trans hu
    exact ⟨congrArg Prod.fst hsame, congrArg (fun e => e.2.1) hsame⟩
  · obtain ⟨hacc, hin, hend⟩ := hon hf
    exact ⟨hacc, fun hlt => ⟨by rw [(hin hlt).1], by rw [(hin hlt).1], (hin hlt).2⟩, hend⟩

theorem tick_flash (a : Nat) : (s.each channels40 fun c s => s.decimate c).flashByte a = s.flashByte a := by
  have h : Evolves decimateScope s (s.each channels40 fun c s => s.decimate c) := (Evolves.refl s).each fun _ h => h.decimate
  exact h.flashByte a

/-! ### Self-calibration and fits -/

/-- A calibration run, recorded: what it shows and what it leaves. -/
theorem calRun_shows (i : Nat) {result value : Nat} (hres : result < 2 ^ CAL_RESULT.RESULT.width) :
    (s.calRun i result value).fld CAL_RESULT.RESULT i = result ∧ Counts CAL_COUNT.COUNT i s (s.calRun i result value) ∧
    (s.calRun i result value).fld CAL_VALUE.VALUE i = value % 2 ^ CAL_VALUE.VALUE.width := by
  rw [State.calRun, Counts]
  simp (disch := decide) only [State.fld_log_of_apart, State.fld_setFld_of_apart, State.fld_setFld_eq, State.fld_count_eq]
  exact ⟨Nat.mod_eq_of_lt hres, rfl, rfl⟩

theorem calRun_frame {P : Reg → Nat → Prop} {i result value : Nat} (hu : Frame P s u) (hcal : ∀ r ∈ calKinds, r ≠ .EVL_DROPPED → P r i)
    (hd : P .EVL_DROPPED 0) : Frame P s (u.calRun i result value) := by
  have hP {r : Reg} (hr : r ∈ calKinds := by decide) (hne : r ≠ .EVL_DROPPED := by decide) : P r i := hcal r hr hne
  exact (((((hu.count hP).setFld hP).setFld hP).setFld hP).setFld hP).log hd

theorem calibration_skipped (hhead : s.headless = true) : Completes .selfCalibration s fun t => t.fld CAL_RESULT.RESULT 48 = Cal.SKIPPED ∧
    Counts CAL_COUNT.COUNT 48 s t ∧ t.fld CAL_VALUE.VALUE 48 = s.fld CAL_VALUE.VALUE 48 ∧ t.hka = s.hka ∧
    Keeps ((calKinds.map fun r => (r, 48)) ++ logKeys) s t := by
  have hexec : exec .selfCalibration s = .next (s.calRun 48 Cal.SKIPPED (s.fld CAL_VALUE.VALUE 48)) := congrArg _ (if_pos hhead)
  obtain ⟨hres, hcount, hval⟩ := calRun_shows (s := s) 48 (result := Cal.SKIPPED) (value := s.fld CAL_VALUE.VALUE 48) (by decide)
  have hpart : Evolves calRunScope s (s.calRun 48 Cal.SKIPPED (s.fld CAL_VALUE.VALUE 48)) := Evolves.calRun (.refl s)
  have hframe : Frame (fun r i => (r, i) ∈ (calKinds.map fun r => (r, 48)) ++ logKeys) s (s.calRun 48 Cal.SKIPPED (s.fld CAL_VALUE.VALUE 48)) :=
    calRun_frame (.refl s) (fun r hr _ => List.mem_append_left _ (List.mem_map_of_mem hr)) (by decide)
  exact ⟨_, hexec, hres, hcount, hval.trans (Nat.mod_eq_of_lt (s.fld_lt _ _)), hpart.part .hka, hframe.keeps⟩

theorem calibration_queued {c : ConvX} (hhead : s.headless = false) (hroom : s.hka.urgent.length ≤ 2) (hconv : s.hka.conv = some c)
    (hscan : c.kind ≠ Conv.SCAN) : Completes .selfCalibration s fun t =>
      (t.hka.urgent.map fun u => (u.ch, u.order)) = (s.hka.urgent.map fun u => (u.ch, u.order)) ++ [(39, 0), (32, 3)] ∧ Keeps [] s t := by
  obtain ⟨v, hv⟩ : ∃ v, v = if s.flag HKA_RESULT.VALID 37 then s.modHka fun x => { x with cal37 := some (s.fld HKA_RESULT.CODE 37) } else s := ⟨_, rfl⟩
  obtain ⟨hurgent, hconv', hframe⟩ : v.hka.urgent = s.hka.urgent ∧ v.hka.conv = s.hka.conv ∧ Frame (fun r i => (r, i) ∈ ([] : List RegKey)) s v := by
    rw [hv]
    split
    · exact ⟨rfl, rfl, (Frame.refl s).same⟩
    · exact ⟨rfl, rfl, .refl s⟩
  have hexec : exec .selfCalibration s = .next ((v.urgentRequest { ch := 39, src := 0, order := 0, kind := Conv.SELF }).urgentRequest
      { ch := 32, src := 0, order := 3, kind := Conv.SELF }) := by
    rw [hv]
    exact congrArg _ (if_neg (by rw [hhead]; decide))
  obtain ⟨w, hw⟩ : ∃ w, w = v.modHka fun x => { x with urgent := x.urgent ++ [{ ch := 39, src := 0, order := 0, kind := Conv.SELF }] } := ⟨_, rfl⟩
  have hqueued : w.hka.urgent = s.hka.urgent ++ [{ ch := 39, src := 0, order := 0, kind := Conv.SELF }] := by
    rw [hw, ← hurgent]
    rfl
  have hconvw : w.hka.conv = some c := by
    rw [hw]
    exact hconv'.trans hconv
  have hframe' : Frame (fun r i => (r, i) ∈ ([] : List RegKey)) s w := by
    rw [hw]
    exact hframe.same
  rw [urgentRequest_queued (s := v) _ (by rw [hurgent]; omega) (by decide) (hconv'.trans hconv) hscan, ← hw,
    urgentRequest_queued (s := w) _ (by rw [hqueued, List.length_append]; exact Nat.lt_succ_of_le (Nat.succ_le_succ hroom)) (by decide) hconvw hscan] at hexec
  refine ⟨_, hexec, ?_, hframe'.same.keeps⟩
  change ((w.hka.urgent ++ [({ ch := 32, src := 0, order := 3, kind := Conv.SELF } : ConvX)]).map fun u : ConvX => (u.ch, u.order)) = _
  rw [hqueued, List.map_append, List.map_append, List.append_assoc]
  rfl

/-- Input `k`'s turn of the fits. -/
def fitTurn (k : Nat) (s : State) : State :=
  if s.headless then s.calRun (16 + k) Cal.SKIPPED (s.fld CAL_VALUE.VALUE (16 + k)) else s.tskFit k

/-- The pairs of input `k`. -/
abbrev pairsOf (s : State) (k : Nat) : List (Nat × Nat) := Tab.get (fun _ => []) s.hka.pairs k

/-- What input `k`'s turn of the fits depends on and shows. -/
def fitSeen (s : State) (k : Nat) : RegVal × RegVal × RegVal × RegVal × Bool × List (Nat × Nat) :=
  (s.reg .CAL_TSK k, s.reg .CAL_RESULT (16 + k), s.reg .CAL_COUNT (16 + k), s.reg .CAL_VALUE (16 + k), s.headless, pairsOf s k)

/-- What input `k`'s turn may change. -/
abbrev FitKeys (k : Nat) (r : Reg) (i : Nat) : Prop := (r = .CAL_TSK ∧ i = k) ∨ (r ∈ calKinds ∧ i = 16 + k) ∨ (r, i) = (Reg.EVL_DROPPED, 0)

theorem calRun_fitKeys {k result value : Nat} (hu : Frame (FitKeys k) s u) : Frame (FitKeys k) s (u.calRun (16 + k) result value) :=
  calRun_frame hu (fun _ hr _ => .inr (.inl ⟨hr, rfl⟩)) (.inr (.inr rfl))

/-- The coefficients of a fit over pairs, with the B held. -/
def fitOf (pairs : List (Nat × Nat)) (b : Nat) : Nat × Nat := if narrowSpan pairs then (Config.tskFitA pairs b, b) else Config.tskFit pairs

theorem tskFit_eq (k : Nat) : s.tskFit k = if pairsOf s k = [] then s
    else ((s.setFld CAL_TSK.A k (fitOf (pairsOf s k) (s.fld CAL_TSK.B k)).1).setFld CAL_TSK.B k
      (fitOf (pairsOf s k) (s.fld CAL_TSK.B k)).2).calRun (16 + k) Cal.OK ((fitOf (pairsOf s k) (s.fld CAL_TSK.B k)).1 % 2 ^ 32) := by
  rw [State.tskFit]
  by_cases hp : pairsOf s k = []
  · rw [if_pos hp]
    exact if_pos (List.isEmpty_iff.2 hp)
  · rw [if_neg hp]
    exact if_neg (mt List.isEmpty_iff.1 hp)

theorem fitTurn_frame (k : Nat) : Frame (FitKeys k) s (fitTurn k s) := by
  have hset {f : Field} {x : Nat} (hf : f.reg = .CAL_TSK) {v : State} (hv : Frame (FitKeys k) s v) : Frame (FitKeys k) s (v.setFld f k x) :=
    hv.setFld (.inl ⟨hf, rfl⟩)
  rw [fitTurn, tskFit_eq]
  exact Frame.ite (fun _ => calRun_fitKeys (.refl s)) fun _ => Frame.ite (fun _ => .refl s) fun _ => calRun_fitKeys (hset rfl (hset rfl (.refl s)))

theorem fitTurn_hka (k : Nat) : (fitTurn k s).hka = s.hka := by
  have h : Evolves tskFitScope s (fitTurn k s) := Evolves.ite (Evolves.refl s).calRun (Evolves.refl s).tskFit
  exact h.part .hka

theorem fitTurn_other (i j : Nat) (s : State) (hij : j ≠ i) : fitSeen (fitTurn i s) j = fitSeen s j := by
  have hframe := fitTurn_frame (s := s) i
  rw [fitSeen, fitSeen, pairsOf, fitTurn_hka, hframe.reg_eq (by simp [FitKeys, hij]), hframe.reg_eq (by simp [FitKeys]; omega),
    hframe.reg_eq (by simp [FitKeys]; omega), hframe.reg_eq (by simp [FitKeys]; omega), State.headless, State.headless,
    hframe.flag_eq (by simp [FitKeys])]

/-- A turn of the fits while the controllers restart, and with the pairs of an input. -/
theorem fitTurn_skipped (k : Nat) (hhead : s.headless = true) : (fitTurn k s).fld CAL_RESULT.RESULT (16 + k) = Cal.SKIPPED ∧
    Counts CAL_COUNT.COUNT (16 + k) s (fitTurn k s) ∧ (fitTurn k s).reg .CAL_TSK k = s.reg .CAL_TSK k := by
  rw [fitTurn, hhead, if_pos rfl]
  obtain ⟨hres, hcount, -⟩ := calRun_shows (s := s) (16 + k) (result := Cal.SKIPPED) (value := s.fld CAL_VALUE.VALUE (16 + k)) (by decide)
  have h : Evolves calRunScope s (s.calRun (16 + k) Cal.SKIPPED (s.fld CAL_VALUE.VALUE (16 + k))) := Evolves.calRun (.refl s)
  exact ⟨hres, hcount, h.reg _ _⟩

theorem fitTurn_fitted (k : Nat) (hhead : s.headless = false) (hpairs : pairsOf s k ≠ []) : (fitTurn k s).fld CAL_RESULT.RESULT (16 + k) = Cal.OK ∧
    Counts CAL_COUNT.COUNT (16 + k) s (fitTurn k s) ∧ (narrowSpan (pairsOf s k) = true → (fitTurn k s).fld CAL_TSK.B k = s.fld CAL_TSK.B k) := by
  obtain ⟨ab, hab⟩ : ∃ ab, ab = fitOf (pairsOf s k) (s.fld CAL_TSK.B k) := ⟨_, rfl⟩
  rw [fitTurn, hhead, if_neg Bool.false_ne_true, tskFit_eq, if_neg hpairs, ← hab]
  obtain ⟨hres, hcount, -⟩ := calRun_shows (s := (s.setFld CAL_TSK.A k ab.1).setFld CAL_TSK.B k ab.2) (16 + k) (result := Cal.OK)
    (value := ab.1 % 2 ^ 32) (by decide)
  refine ⟨hres, hcount.after ?_, fun hnarrow => ?_⟩
  · rw [State.fld_setFld_of_apart _ _ _ _ (by decide), State.fld_setFld_of_apart _ _ _ _ (by decide)]
  · have h : Evolves calRunScope ((s.setFld CAL_TSK.A k ab.1).setFld CAL_TSK.B k ab.2)
        (((s.setFld CAL_TSK.A k ab.1).setFld CAL_TSK.B k ab.2).calRun (16 + k) Cal.OK (ab.1 % 2 ^ 32)) := Evolves.calRun (.refl _)
    have hb : ab.2 = s.fld CAL_TSK.B k := by rw [hab, fitOf, if_pos hnarrow]
    rw [h.fld CAL_TSK.B k, State.fld_setFld_eq _ _ _ (by decide), hb]
    exact Nat.mod_eq_of_lt (s.fld_lt _ _)

theorem fitTurn_none (k : Nat) (hhead : s.headless = false) (hpairs : pairsOf s k = []) : fitTurn k s = s := by
  rw [fitTurn, hhead, if_neg Bool.false_ne_true, tskFit_eq, if_pos hpairs]

/-- The inputs that are fitted. -/
abbrev fitted (s : State) : List Nat := (List.range 32).filter fun k => decide (s.fld HKA_CH_CFG.SRC k = 1)

theorem fits_kinds : KeepsKinds (calKinds ++ [.CAL_TSK]) s (s.each (fitted s) fitTurn) := by
  have h : Frame (fun r _ => r ∈ calKinds ++ [Reg.CAL_TSK]) s (s.each (fitted s) fitTurn) := (Frame.refl s).each fun i _ hv =>
    hv.trans ((fitTurn_frame i).mono fun r j e => by
      rcases e with ⟨rfl, -⟩ | ⟨hr, -⟩ | e
      · decide
      · exact List.mem_append_left _ hr
      · rw [(Prod.mk.inj e).1]
        decide)
  exact h.kinds

theorem fits_shown (k : Fin 32) (t : State) (ht : t = s.each (fitted s) fitTurn) :
    (s.fld HKA_CH_CFG.SRC k = 1 → s.headless = true → t.fld CAL_RESULT.RESULT (16 + k) = Cal.SKIPPED ∧ Counts CAL_COUNT.COUNT (16 + k) s t ∧
      t.reg .CAL_TSK k = s.reg .CAL_TSK k) ∧
    (s.fld HKA_CH_CFG.SRC k = 1 → s.headless = false → pairsOf s k ≠ [] → t.fld CAL_RESULT.RESULT (16 + k) = Cal.OK ∧
      Counts CAL_COUNT.COUNT (16 + k) s t ∧ (narrowSpan (pairsOf s k) = true → t.fld CAL_TSK.B k = s.fld CAL_TSK.B k)) ∧
    (s.fld HKA_CH_CFG.SRC k ≠ 1 ∨ (s.headless = false ∧ pairsOf s k = []) → t.reg .CAL_TSK k = s.reg .CAL_TSK k ∧
      t.reg .CAL_COUNT (16 + k) = s.reg .CAL_COUNT (16 + k)) := by
  have hin : k.val ∈ fitted s ↔ s.fld HKA_CH_CFG.SRC k = 1 := by
    rw [List.mem_filter, decide_eq_true_eq]
    exact and_iff_right (List.mem_range.2 k.isLt)
  have hfld {v w : State} (hs : fitSeen v k = fitSeen w k) : v.fld CAL_TSK.B k = w.fld CAL_TSK.B k ∧
      v.fld CAL_RESULT.RESULT (16 + k) = w.fld CAL_RESULT.RESULT (16 + k) ∧ v.fld CAL_COUNT.COUNT (16 + k) = w.fld CAL_COUNT.COUNT (16 + k) ∧
      v.reg .CAL_TSK k = w.reg .CAL_TSK k ∧ v.reg .CAL_COUNT (16 + k) = w.reg .CAL_COUNT (16 + k) ∧ v.headless = w.headless ∧
      pairsOf v k = pairsOf w k := by
    simp only [fitSeen, Prod.mk.injEq] at hs
    obtain ⟨htsk, hres, hcount, -, hhead, hpairs⟩ := hs
    exact ⟨State.fld_congr htsk, State.fld_congr hres, State.fld_congr hcount, htsk, hcount, hhead, hpairs⟩
  rw [ht]
  by_cases hsrc : s.fld HKA_CH_CFG.SRC k = 1
  · obtain ⟨u, hu, hturn⟩ := State.each_turn (obs := fitSeen) fitTurn_other (is := fitted s) (List.nodup_range.filter _) (hin.2 hsrc) s
    obtain ⟨hb, hres, hcount, htsk, hcnt, -, -⟩ := hfld hturn
    obtain ⟨hb', -, hcount', htsk', hcnt', hhead', hpairs'⟩ := hfld hu
    rw [hres, hb, htsk, hcnt, Counts, hcount]
    refine ⟨fun _ hhead => ?_, fun _ hhead hpairs => ?_, fun e => ?_⟩
    · obtain ⟨hskip, hc, hkeep⟩ := fitTurn_skipped k.val (hhead'.trans hhead)
      exact ⟨hskip, hc.trans (by rw [hcount']), hkeep.trans htsk'⟩
    · rw [← hpairs'] at hpairs
      obtain ⟨hok, hc, hkeep⟩ := fitTurn_fitted k.val (hhead'.trans hhead) hpairs
      exact ⟨hok, hc.trans (by rw [hcount']), fun hn => (hkeep (hpairs' ▸ hn)).trans hb'⟩
    · obtain ⟨hhead, hpairs⟩ := e.resolve_left (not_not.2 hsrc)
      rw [fitTurn_none k.val (hhead'.trans hhead) (hpairs'.trans hpairs)]
      exact ⟨htsk', hcnt'⟩
  · obtain ⟨-, -, -, htsk, hcnt, -, -⟩ := hfld (State.each_apart (obs := fitSeen) fitTurn_other (fun e => hsrc (hin.1 e)) s)
    exact ⟨fun e => absurd e hsrc, fun e => absurd e hsrc, fun _ => ⟨htsk, hcnt⟩⟩

/-- Decimation, self-calibration and fits: the lemmas above. -/
theorem decimationAndFits : Sys2Proof.Claims.DecimationAndFits := by
  intro s
  have hskip (hpart : s.partFailed 11 = true) : exec .decimationTick s = .next s := congrArg Host.Outcome.next (if_pos hpart)
  have htick (hpart : s.partFailed 11 = false) : exec .decimationTick s = .next (s.each channels40 fun c s => s.decimate c) :=
    congrArg Host.Outcome.next (if_neg (by rw [hpart]; decide))
  refine ⟨fun hpart => ⟨_, hskip hpart, rfl⟩, fun hpart => ⟨_, htick hpart, fun a => tick_flash a, fun c => ?_⟩,
    calibration_skipped, fun hhead hroom c hconv => calibration_queued hhead hroom hconv, ⟨_, rfl, fits_kinds, fun k => fits_shown k _ rfl⟩⟩
  obtain ⟨hoff, hon⟩ := tick_shows (s := s) c.isLt
  intro x now held acc m prev ticks
  have hheld : heldResult s c = held := by
    unfold heldResult
    rcases hl : s.hka.last with _ | ⟨e, k, old⟩ <;> simp only [held, now, hl]
  have hacc : (decAdded s c).acc = acc := by
    rw [decAdded, hheld, decStart]
    split <;> rfl
  have hprev : (decAdded s c).prev = prev := by
    simp only [decAdded, decStart, prev, x]
    split <;> rfl
  have hticks : (decAdded s c).ticks = ticks := by
    simp only [decAdded, decStart, ticks, x]
    split <;> rfl
  rw [blockMean, hacc, hprev, hticks] at hon
  exact ⟨hoff, hon⟩

/-- Settles O36: its two halves above. -/
theorem dacsDecimationAndFits : Obligations.DacsDecimationAndFits := ⟨dacsAndReadback, decimationAndFits⟩

end
end Sys2Proof.Proofs
end

section
/-! SUPPORT. Frames of the operations of channels and lanes of the link layer (chapter 7). -/
namespace Sys2Proof.Claims.Frame
open Sys2Proof Sys2Proof.Machine Sys2Proof.Claims
set_option Elab.async false
variable {P : Reg → Nat → Prop} {s u : State} {c n : Nat}

theorem logDiscard {counter k lane seq chseq ts : Nat} (hu : Frame P s u) (hd : P .EVL_DROPPED 0 := by simp) :
    Frame P s (u.logDiscard c counter k lane seq chseq ts) := hu.log hd

theorem freezeChannel (hu : Frame P s u) (hst : P .CIN_CH_STATUS c) (hc : P .CIN_CONS_AUDIT 0) (ha : P .CIN_AUDIT_FAIL 0) (hd : P .EVL_DROPPED 0)
    (hS : P .MGT_ALERT_STATUS 0) (hG : P .GLB_STATE 0) : Frame P s (u.freezeChannel c) :=
  hu.skip fun h => ((((h.log hd).setFlag hst).setFld hc).setFlag hc).count ha |>.alert hS hG

theorem settleChan (hu : Frame P s u) : Frame P s (u.settleChan c) := hu.same

theorem freeCredits {b k : Nat} (hu : Frame P s u) (hP : P .CIN_CH_ACCT (16 * c + (b + 3)) := by simp) : Frame P s (u.freeCredits c b k) :=
  hu.skip fun h => (h.setAcct hP).same

theorem popEgress (hu : Frame P s u) (hP : ∀ i < 16, P .CIN_CH_ACCT (16 * c + i)) : Frame P s (u.popEgress c) := by
  unfold State.popEgress
  exact Frame.settleChan (Frame.when hu.same fun h => (h.freeCredits (hP 11 (by decide))).grant2 (hP 8 (by decide)))

theorem deliverOne (hu : Frame P s u) (hP : ∀ i < 16, P .CIN_CH_ACCT (16 * c + i)) (hc : P .CIN_DELIVER c) : Frame P s (u.deliverOne c) := by
  unfold State.deliverOne
  dsimp only
  split
  · exact hu.settleChan
  · exact Frame.skip hu.settleChan fun h => ((((h.chCount hc).popEgress hP).addAcct (hP 13 (by decide))).addAcct (hP 15 (by decide))).modHsi

theorem queueCtl {p : List Byte} (hu : Frame P s u) : Frame P s (u.queueCtl n p) := hu.same

theorem placeChopen (hu : Frame P s u) : Frame P s (u.placeChopen c) := by
  unfold State.placeChopen
  split
  · exact hu
  · split
    · exact hu
    · exact hu.same

theorem showStripe {mask : Nat} (hu : Frame P s u) (hst : P .CIN_CH_STATUS c := by simp) : Frame P s (u.showStripe c mask) :=
  ((hu.setFld hst).setFld hst).setFlag hst

theorem changeStripe {mask : Nat} (hu : Frame P s u) (hst : P .CIN_CH_STATUS c := by simp) : Frame P s (u.changeStripe c mask) := by
  unfold State.changeStripe
  exact hu.skip fun h => (Frame.placeChopen (Frame.showStripe h.same hst)).each fun _ _ hv => hv.queueCtl

theorem dropNack (hu : Frame P s u) : Frame P s (u.dropNack n) := hu.same

theorem cutLane (hu : Frame P s u) : Frame P s (u.cutLane n) := hu.each fun _ _ hv => hv.same

theorem closeStreams (hu : Frame P s u) (hst : P .CIN_LANE_STATUS n := by simp) : Frame P s (u.closeStreams n) := by
  unfold State.closeStreams
  exact ((((hu.skip fun h => h.cutLane).setFld hst).setFld hst).dropNack.modClane).each fun _ _ hv => hv.modChan.placeChopen

theorem stripesWithout (hu : Frame P s u) (hst : ∀ c, P .CIN_CH_STATUS c) : Frame P s (u.stripesWithout n) :=
  hu.each fun c _ hv => hv.when fun h => h.changeStripe (hst c)

theorem endOvfRun (hu : Frame P s u) (hd : P .EVL_DROPPED 0 := by simp) : Frame P s (u.endOvfRun c n) := by
  unfold State.endOvfRun
  exact hu.skip fun h => Frame.logDiscard h.same hd

end Sys2Proof.Claims.Frame
end

section
/-! PROOFS. O10: credit words, delivery and the conservation audit (chapter 7). -/
namespace Sys2Proof.Proofs
open Sys2Proof Sys2Proof.Machine Sys2Proof.Claims
set_option Elab.async false

section
variable {s t u : State} {c : Nat}

/-! ### Credit words -/

/-- The parts of a CREDIT word (R221). -/
theorem creditWord_parts (loop : Fin 4) (c : Chan) (total : BitVec 32) (word : BitVec 44)
    (hw : word = BitVec.ofNat 2 loop ++ BitVec.ofNat 8 c ++ BitVec.ofNat 34 total.toNat) :
    (word.extractLsb' 42 2).toNat = loop ∧ (word.extractLsb' 34 8).toNat = c ∧ word.extractLsb' 0 32 = total := by
  have hval : word.toNat = (loop.val * 2 ^ 8 + c.val) * 2 ^ 34 + total.toNat := by
    have hl : (BitVec.ofNat 2 loop).toNat = loop := Nat.mod_eq_of_lt loop.isLt
    have hc : (BitVec.ofNat 8 c).toNat = c := Nat.mod_eq_of_lt c.isLt
    have ht : (BitVec.ofNat 34 total.toNat).toNat = total.toNat := Nat.mod_eq_of_lt (total.isLt.trans (by decide))
    rw [hw, BitVec.toNat_append, BitVec.toNat_append, ← Nat.shiftLeft_add_eq_or_of_lt (BitVec.isLt _), ← Nat.shiftLeft_add_eq_or_of_lt (BitVec.isLt _),
      Nat.shiftLeft_eq, Nat.shiftLeft_eq, hl, hc, ht]
  have ht := total.isLt
  have hc := c.isLt
  have hl := loop.isLt
  refine ⟨?_, ?_, BitVec.eq_of_toNat_eq ?_⟩ <;> simp only [BitVec.extractLsb'_toNat, hval, Nat.shiftRight_eq_div_pow] <;> omega

section
variable {n : Lane} {loop : Fin 4} {ch : Chan} {total : BitVec 32}

/-- What a credit word does once it is counted. -/
theorem creditWord_exec (hlocked : s.locked n = true) (hieee : s.ieee n = false) :
    exec (.creditWordReceived n (BitVec.ofNat 2 loop ++ BitVec.ofNat 8 ch ++ BitVec.ofNat 34 total.toNat)) s =
      let u := s.count LFEC_OAM_RX.COUNT n
      .next (if loop.val = 0 ∨ loop.val = 3 then u.count CIN_CR_BAD.COUNT n
        else if !u.chEn ch || !u.lineCredit ch || (u.chanOf ch).discard then u
        else if loop.val = 2 then u.totalIn ch 4 total true fun s => s.count CIN_CR_STALE.COUNT n
        else u.totalIn ch 10 total false fun s => s.count CIN_CR_STALE.COUNT n) := by
  obtain ⟨hloop, hch, htotal⟩ := creditWord_parts loop ch total _ rfl
  change execCreditWordReceived n _ s = _
  rw [execCreditWordReceived, State.oamIn, hlocked, hieee, if_pos (by rfl)]
  dsimp only
  rw [hloop, hch, htotal]

theorem creditWord_bad (hlocked : s.locked n = true) (hieee : s.ieee n = false) (hloop : loop.val = 0 ∨ loop.val = 3) :
    Completes (.creditWordReceived n (BitVec.ofNat 2 loop ++ BitVec.ofNat 8 ch ++ BitVec.ofNat 34 total.toNat)) s fun t =>
      t.fld CIN_CR_BAD.COUNT n = (s.fld CIN_CR_BAD.COUNT n + 1) % 2 ^ CIN_CR_BAD.COUNT.width ∧ Keeps [(.LFEC_OAM_RX, n), (.CIN_CR_BAD, n)] s t := by
  have hexec := creditWord_exec (ch := ch) (total := total) hlocked hieee (loop := loop)
  dsimp only at hexec
  rw [if_pos hloop] at hexec
  have hcounts : Frame (fun r i => (r, i) ∈ [(Reg.LFEC_OAM_RX, n.val), (.CIN_CR_BAD, n.val)]) s
      ((s.count LFEC_OAM_RX.COUNT n).count CIN_CR_BAD.COUNT n) := ((Frame.refl s).count).count
  refine ⟨_, hexec, ?_, hcounts.keeps⟩
  rw [State.fld_count_eq _ _ _ (by decide), State.fld_count_of_apart _ _ _ _ (by decide)]
  rfl

theorem creditWord_grant (hlocked : s.locked n = true) (hieee : s.ieee n = false) (hloop : loop.val = 2) (hen : s.chEn ch = true)
    (hlc : s.lineCredit ch = true) (hfr : s.frozen ch = false) (hdiscard : (s.chanOf ch).discard = false)
    (hahead : 0 < (total - BitVec.ofNat 32 (s.acct ch 4)).toNat) (hmax : s.acct ch 7 + (total - BitVec.ofNat 32 (s.acct ch 4)).toNat ≤ 65536) :
    Completes (.creditWordReceived n (BitVec.ofNat 2 loop ++ BitVec.ofNat 8 ch ++ BitVec.ofNat 34 total.toNat)) s fun t =>
      t.acct ch 4 = total.toNat ∧ t.acct ch 7 = s.acct ch 7 + (total - BitVec.ofNat 32 (s.acct ch 4)).toNat ∧
      Keeps [(.LFEC_OAM_RX, n), (.CIN_CH_ACCT, 16 * ch + 4), (.CIN_CH_ACCT, 16 * ch + 7)] s t := by
  obtain ⟨u, hu⟩ : ∃ u, u = s.count LFEC_OAM_RX.COUNT n := ⟨_, rfl⟩
  have hcount : Frame (fun r i => (r, i) ∈ [(Reg.LFEC_OAM_RX, n.val)]) s u := by
    rw [hu]
    exact (Frame.refl s).count
  have hacct (j : Nat) : u.acct ch j = s.acct ch j := hcount.fld_eq (by simp)
  have hen' : u.chEn ch = true := (hcount.flag_eq (by simp)).trans hen
  have hlc' : u.lineCredit ch = true := (hcount.flag_eq (by simp)).trans hlc
  have hfr' : u.frozen ch = false := (hcount.flag_eq (by simp)).trans hfr
  have hdiscard' : (u.chanOf ch).discard = false := by
    rw [hu]
    exact hdiscard
  have hexec := creditWord_exec (ch := ch) (total := total) hlocked hieee (loop := loop)
  dsimp only at hexec
  rw [← hu, if_neg (by omega), hen', hlc', hdiscard', if_neg (by decide), if_pos hloop, State.totalIn] at hexec
  dsimp only at hexec
  rw [hacct, hacct, if_neg hahead.ne', if_neg (show ¬2 ^ 31 ≤ (total - BitVec.ofNat 32 (s.acct ch 4)).toNat by omega), if_pos rfl,
    if_neg (Nat.not_lt.2 hmax)] at hexec
  have hset : Frame (fun r i => (r, i) ∈ [(Reg.LFEC_OAM_RX, n.val), (.CIN_CH_ACCT, 16 * ch.val + 4), (.CIN_CH_ACCT, 16 * ch.val + 7)]) s
      ((u.setAcct ch 4 (total.toNat : Nat)).addAcct ch (4 + 3) ((total - BitVec.ofNat 32 (s.acct ch 4)).toNat : Nat)) :=
    ((hcount.mono fun _ _ e => by simp at e ⊢; tauto).setAcct).addAcct
  refine ⟨_, hexec, ?_, ?_, hset.keeps⟩
  · rw [State.acct_addAcct_other _ _ _ _ (by omega), State.acct_setAcct_same _ _ _ _ hfr', ofSigned_nat]
    exact Nat.mod_eq_of_lt total.isLt
  · rw [State.acct_addAcct_same _ _ _ _ ((State.frozen_setAcct _ _ _ _ _).trans hfr'), State.acct_setAcct_other _ _ _ _ (by omega), hacct]
    exact Nat.mod_eq_of_lt (hmax.trans_lt (by decide))

end

/-! ### The refresh -/

/-- What the refresh makes of channel `c`. -/
def refreshTurn (c : Nat) (s : State) : State := if s.chEn c then
  s.modChan c fun x => { x with due1 := true, due2g := s.lineCredit c, due2r := s.lineCredit c, due3 := true } else s

theorem refreshTurn_frame {P : Reg → Nat → Prop} (c : Nat) (hu : Frame P s u) : Frame P s (refreshTurn c u) := hu.when fun h => h.same

/-- What channel `c`'s turn of the refresh depends on and shows. -/
def refreshSeen (s : State) (c : Nat) : Bool × Bool × ChanX := (s.chEn c, s.lineCredit c, s.chanOf c)

theorem refreshTurn_other (i j : Nat) (s : State) (hij : j ≠ i) : refreshSeen (refreshTurn i s) j = refreshSeen s j := by
  have hframe : Frame (fun _ _ => False) s (refreshTurn i s) := refreshTurn_frame i (.refl s)
  have hchan : (refreshTurn i s).chanOf j = s.chanOf j := by
    rw [refreshTurn]
    split
    · exact State.chanOf_modChan_other s _ hij
    · rfl
  rw [refreshSeen, refreshSeen, hchan, State.chEn, State.lineCredit, hframe.flag_eq not_false, hframe.flag_eq not_false]
  rfl

theorem refreshed (s : State) : Completes .creditRefresh s fun t => Keeps [] s t ∧ ∀ c : Chan, s.chEn c = true →
    (t.chanOf c).due1 = true ∧ (t.chanOf c).due3 = true ∧ (t.chanOf c).due2g = s.lineCredit c ∧ (t.chanOf c).due2r = s.lineCredit c := by
  have hframe : Frame (fun r i => (r, i) ∈ ([] : List RegKey)) s (s.each chans256 refreshTurn) :=
    (Frame.refl s).each fun i _ h => refreshTurn_frame i h
  refine ⟨_, rfl, hframe.keeps, fun c hen => ?_⟩
  obtain ⟨u, hu, ht⟩ := State.each_turn (obs := refreshSeen) refreshTurn_other (is := chans256) List.nodup_range (List.mem_range.2 c.isLt) s
  simp only [refreshSeen, Prod.mk.injEq] at hu ht
  obtain ⟨hen', hlc, -⟩ := hu
  obtain ⟨-, -, hchan⟩ := ht
  change ((s.each chans256 refreshTurn).chanOf c).due1 = true ∧ ((s.each chans256 refreshTurn).chanOf c).due3 = true ∧
    ((s.each chans256 refreshTurn).chanOf c).due2g = _ ∧ ((s.each chans256 refreshTurn).chanOf c).due2r = _
  rw [hchan, refreshTurn, hen', hen, if_pos rfl, State.chanOf_modChan_same]
  exact ⟨rfl, rfl, hlc, hlc⟩

/-! ### Delivery -/

theorem settle_of_none (x : ChanX) (hlost : x.lost = []) (k : Nat) : x.settle k = x := by
  cases k with
  | zero => rfl
  | succ k => rw [ChanX.settle, ChanX.isLost, hlost, List.any_nil, if_neg Bool.false_ne_true]

/-- With nothing lost a channel just forgets what it has no more use for. -/
theorem chanOf_settleChan (hlost : (s.chanOf c).lost = []) : (s.settleChan c).chanOf c = (s.chanOf c).prune := by
  rw [State.settleChan, State.chanOf_modChan_same, settle_of_none _ hlost]

theorem lost_prune (x : ChanX) (hlost : x.lost = []) : x.prune.lost = [] := by rw [ChanX.prune, hlost, List.filter_nil]

/-- Nothing but the accounts 8 and 11 changes as a granule leaves the egress buffer. -/
theorem acct_popEgress (j : Nat) (h8 : j ≠ 8) (h11 : j ≠ 11) : (s.popEgress c).acct c j = s.acct c j := by
  have hsettle (v : State) : (v.settleChan c).acct c j = v.acct c j := rfl
  have hmod (v : State) (f : ChanX → ChanX) : (v.modChan c f).acct c j = v.acct c j := rfl
  have hfree (v : State) : (v.freeCredits c 8 10).acct c j = v.acct c j := by
    rw [State.freeCredits]
    split
    · rfl
    · rw [hmod]
      exact v.acct_setAcct_other c 11 _ (by omega)
  have hgrant (v : State) : (v.grant2 c).acct c j = v.acct c j := by
    rw [State.grant2]
    split
    · rfl
    · exact v.acct_setAcct_other c 8 _ (by omega)
  rw [State.popEgress, hsettle]
  split
  · rw [hgrant, hfree, hmod]
  · rw [hmod]

theorem rxNext_popEgress (hlost : (s.chanOf c).lost = []) : ((s.popEgress c).chanOf c).rxNext = (s.chanOf c).rxNext + 1 := by
  have hfree (v : State) : ((v.freeCredits c 8 10).chanOf c).rxNext = (v.chanOf c).rxNext ∧ ((v.freeCredits c 8 10).chanOf c).lost = (v.chanOf c).lost := by
    rw [State.freeCredits]
    split
    · exact ⟨rfl, rfl⟩
    · have hset : (v.setAcct c (8 + 3) ((v.acct c (8 + 3) : Int) - (10 : Nat))).chanOf c = v.chanOf c :=
        congrArg (Tab.get _ · c) (v.chan_setAcct c _ _)
      rw [State.chanOf_modChan_same, hset]
      exact ⟨rfl, rfl⟩
  have hgrant (v : State) : (v.grant2 c).chanOf c = v.chanOf c := by
    rw [State.grant2]
    split
    · rfl
    · exact congrArg (Tab.get _ · c) (v.chan_setAcct c _ _)
  obtain ⟨v, hv⟩ : ∃ v, v = s.modChan c fun x => { x with egr := x.egr.filter fun g => g.chseq ≠ x.rxNext, rxNext := x.rxNext + 1 } := ⟨_, rfl⟩
  have hx : (v.chanOf c).rxNext = (s.chanOf c).rxNext + 1 ∧ (v.chanOf c).lost = [] := by
    rw [hv, State.chanOf_modChan_same]
    exact ⟨rfl, hlost⟩
  obtain ⟨w, hw⟩ : ∃ w, w = if v.lineCredit c then (v.freeCredits c 8 10).grant2 c else v := ⟨_, rfl⟩
  have hpop : s.popEgress c = w.settleChan c := by rw [State.popEgress, hw, hv]
  have hwx : (w.chanOf c).rxNext = (s.chanOf c).rxNext + 1 ∧ (w.chanOf c).lost = [] := by
    rw [hw]
    split
    · rw [hgrant, (hfree v).1, (hfree v).2]
      exact hx
    · exact hx
  rw [hpop, chanOf_settleChan hwx.2]
  exact hwx.1

/-- The registers of a delivery. -/
abbrev deliverKeys (c : Nat) : List RegKey := [(.CIN_DELIVER, c)] ++ (List.range 16).map fun i => (.CIN_CH_ACCT, 16 * c + i)

theorem deliverKeys_acct (c : Nat) {i : Nat} (hi : i < 16) : (Reg.CIN_CH_ACCT, 16 * c + i) ∈ deliverKeys c :=
  List.mem_append_right _ (List.mem_map.2 ⟨i, List.mem_range.2 hi, rfl⟩)

/-- The channel after its granule has left: before the accounts of loop 3 move. -/
def deliveredAcct (s : State) (c : Nat) : State := (((s.count CIN_DELIVER.COUNT c).popEgress c).addAcct c 13 10).addAcct c 15 (-10)

theorem deliverOne_eq {g : EgrGran} (hlost : (s.chanOf c).lost = []) (hnext : ((s.chanOf c).egr.find? fun g => g.chseq = (s.chanOf c).rxNext) = some g)
    (hactive : s.hostActive c = true) (hfr : s.frozen c = false) (hcredit : 10 ≤ s.acct c 15) :
    s.deliverOne c = (deliveredAcct (s.settleChan c) c).modHsi (c / 8) fun x => { x with outQ := x.outQ ++ [(c, g.payload)] } := by
  have hchan := chanOf_settleChan hlost
  have hfind : (((s.settleChan c).chanOf c).egr.find? fun g => g.chseq = ((s.settleChan c).chanOf c).rxNext) = some g := by
    rw [hchan]
    exact hnext
  have hactive' : (s.settleChan c).hostActive c = true := hactive
  have hcredit' : ¬(s.settleChan c).acct c 15 < 10 := Nat.not_lt.2 hcredit
  have hfr' : (s.settleChan c).frozen c = false := hfr
  rw [State.deliverOne]
  dsimp only
  rw [hfind]
  dsimp only
  rw [hactive', decide_eq_false hcredit', if_neg (by decide), State.chCount_of_running _ _ _ hfr']
  rfl

theorem delivered {ch : Chan} {g : EgrGran} (hlost : (s.chanOf ch).lost = [])
    (hnext : ((s.chanOf ch).egr.find? fun g => g.chseq = (s.chanOf ch).rxNext) = some g) (hactive : s.hostActive ch = true)
    (hfr : s.frozen ch = false) (hcredit : 10 ≤ s.acct ch 15) : Completes (.granuleDeliver ch true) s fun t =>
      (t.hsiOf (ch / 8)).outQ = (s.hsiOf (ch / 8)).outQ ++ [(ch.val, g.payload)] ∧ (t.chanOf ch).rxNext = (s.chanOf ch).rxNext + 1 ∧
      t.acct ch 13 = (s.acct ch 13 + 10) % 2 ^ 32 ∧ t.acct ch 15 = s.acct ch 15 - 10 ∧
      t.fld CIN_DELIVER.COUNT ch = (s.fld CIN_DELIVER.COUNT ch + 1) % 2 ^ CIN_DELIVER.COUNT.width ∧ Keeps (deliverKeys ch) s t := by
  obtain ⟨v, hv⟩ : ∃ v, v = (s.settleChan ch).settleChan ch := ⟨_, rfl⟩
  have hchan : (s.settleChan ch).chanOf ch = (s.chanOf ch).prune := chanOf_settleChan hlost
  have hlost' : ((s.settleChan ch).chanOf ch).lost = [] := by
    rw [hchan]
    exact lost_prune _ hlost
  have hvchan : v.chanOf ch = (s.chanOf ch).prune.prune := by rw [hv, chanOf_settleChan hlost', hchan]
  have hvlost : (v.chanOf ch).lost = [] := by
    rw [hvchan]
    exact lost_prune _ (lost_prune _ hlost)
  have hregs : Frame (fun r i => (r, i) ∈ deliverKeys ch) s v := by
    rw [hv]
    exact (Frame.refl s).settleChan.settleChan
  have hvacct (j : Nat) : v.acct ch j = s.acct ch j := by rw [hv]; rfl
  have hvfr : v.frozen ch = false := by rw [hv]; exact hfr
  have hvhsi : v.hsi = s.hsi := by rw [hv]; rfl
  have hvfld : v.fld CIN_DELIVER.COUNT ch = s.fld CIN_DELIVER.COUNT ch := by rw [hv]; rfl
  have hexec : exec (.granuleDeliver ch true) s = .next ((deliveredAcct v ch).modHsi (ch / 8) fun x => { x with outQ := x.outQ ++ [(ch.val, g.payload)] }) := by
    have hone := deliverOne_eq (s := s.settleChan ch) (c := ch) (g := g) hlost' (by rw [hchan]; exact hnext) hactive hfr hcredit
    rw [hv, ← hone]
    exact congrArg Host.Outcome.next rfl
  obtain ⟨p, hp⟩ : ∃ p, p = (v.count CIN_DELIVER.COUNT ch).popEgress ch := ⟨_, rfl⟩
  have hpacct {j : Nat} (h8 : j ≠ 8) (h11 : j ≠ 11) : p.acct ch j = s.acct ch j := by
    rw [hp, acct_popEgress j h8 h11, ← hvacct]
    exact State.fld_count_of_apart _ _ _ _ (by decide)
  have hpop : Frame (fun r i => r = .CIN_CH_ACCT) (v.count CIN_DELIVER.COUNT ch) p := by
    rw [hp]
    exact (Frame.refl _).popEgress fun _ _ => rfl
  have hpfr : p.frozen ch = false := (hpop.flag_eq (by decide)).trans ((State.flag_count_of_apart _ _ _ _ (by decide)).trans hvfr)
  have hd : deliveredAcct v ch = (p.addAcct ch 13 10).addAcct ch 15 (-10) := by rw [hp]; rfl
  have hkeys : Frame (fun r i => (r, i) ∈ deliverKeys ch) s (deliveredAcct v ch) := by
    have hacct : ∀ i < 16, (Reg.CIN_CH_ACCT, 16 * ch.val + i) ∈ deliverKeys ch := fun i hi => deliverKeys_acct ch.val hi
    exact (((hregs.count (by simp)).popEgress hacct).addAcct (hacct 13 (by decide))).addAcct (hacct 15 (by decide))
  rw [hd] at hexec hkeys
  refine ⟨_, hexec, ?_, ?_, ?_, ?_, ?_, hkeys.modHsi.keeps⟩
  · have hhsi : ((p.addAcct ch 13 10).addAcct ch 15 (-10)).hsi = s.hsi := by
      have h2 : Evolves (Scope.of [.CIN_CH_ACCT] []) p ((p.addAcct ch 13 10).addAcct ch 15 (-10)) := (Evolves.refl p).addAcct.addAcct
      have h3 : Evolves (Scope.of [.CIN_CH_ACCT] [.chan]) (v.count CIN_DELIVER.COUNT ch) p := by
        rw [hp]
        exact (Evolves.refl _).popEgress
      exact ((h2.part .hsi).trans (h3.part .hsi)).trans hvhsi
    rw [State.hsiOf_modHsi_same]
    exact congrArg (fun x : HsiX => x.outQ ++ [(ch.val, g.payload)]) (congrArg (Tab.get _ · (ch.val / 8)) hhsi)
  · have hpx : (p.chanOf ch).rxNext = (s.chanOf ch).rxNext + 1 := by
      rw [hp, rxNext_popEgress (s := v.count CIN_DELIVER.COUNT ch) hvlost]
      have hx : (v.count CIN_DELIVER.COUNT ch).chanOf ch = (s.chanOf ch).prune.prune := hvchan
      rw [hx]
      rfl
    have hsame : ((p.addAcct ch 13 10).addAcct ch 15 (-10)).chan = p.chan := by rw [State.chan_addAcct, State.chan_addAcct]
    exact (congrArg ChanX.rxNext (congrArg (Tab.get _ · ch.val) hsame)).trans hpx
  · change ((p.addAcct ch 13 10).addAcct ch 15 (-10)).acct ch 13 = _
    rw [State.acct_addAcct_other _ _ _ _ (by omega)]
    exact (State.acct_addAcct_same _ ch.val 13 10 hpfr).trans (by rw [hpacct (by decide) (by decide)])
  · change ((p.addAcct ch 13 10).addAcct ch 15 (-10)).acct ch 15 = _
    have h15 : (p.addAcct ch 13 10).acct ch 15 = s.acct ch 15 :=
      (State.acct_addAcct_other _ _ _ _ (by omega)).trans (hpacct (by decide) (by decide))
    have hfall : ((s.acct ch 15 : Int) + -10) = ((s.acct ch 15 - 10 : Nat) : Int) := by omega
    rw [State.addAcct, State.acct_setAcct_same _ _ _ _ ((State.frozen_addAcct _ _ _ _ _).trans hpfr), h15, hfall, ofSigned_nat]
    exact Nat.mod_eq_of_lt ((Nat.sub_le _ _).trans_lt (s.fld_lt CIN_CH_ACCT.TOTAL _))
  · change ((p.addAcct ch 13 10).addAcct ch 15 (-10)).fld CIN_DELIVER.COUNT ch = _
    rw [State.fld_addAcct_other _ _ _ _ _ (by decide), State.fld_addAcct_other _ _ _ _ _ (by decide), hpop.fld_eq (by decide),
      State.fld_count_eq _ _ _ (by decide), hvfld]
    rfl

/-! ### The audit -/

/-- The audit's visit to channel `c`. -/
def auditTurn (c : Nat) (s : State) : State := if s.chEn c && !s.frozen c && !s.conserves c then s.freezeChannel c else s

/-- What a freeze changes. -/
abbrev freezeKinds : List Reg := [.CIN_CH_STATUS, .CIN_CONS_AUDIT, .CIN_AUDIT_FAIL, .EVL_DROPPED, .MGT_ALERT_STATUS, .GLB_STATE]

/-- A freeze of channel `c` changes no status of another. -/
abbrev FreezeKeys (c : Nat) (r : Reg) (i : Nat) : Prop := r ∈ freezeKinds ∧ (r = .CIN_CH_STATUS → i = c)

theorem freezeChannel_frame (c : Nat) : Frame (FreezeKeys c) s (s.freezeChannel c) :=
  (Frame.refl s).freezeChannel ⟨by decide, fun _ => rfl⟩ ⟨by decide, nofun⟩ ⟨by decide, nofun⟩ ⟨by decide, nofun⟩ ⟨by decide, nofun⟩ ⟨by decide, nofun⟩

/-- The identities of a channel depend on its accounts, counters, configuration and buffers, and on the states that stop grants. -/
theorem conserves_congr (hkinds : ∀ r i, r ∉ freezeKinds → t.reg r i = s.reg r i) (hchan : t.chan = s.chan) (hhrn : t.hrn = s.hrn)
    (hfr : t.frozen c = s.frozen c) : t.conserves c = s.conserves c := by
  have hfld (f : Field) (i : Nat) (hf : f.reg ∉ freezeKinds := by decide) : t.fld f i = s.fld f i := State.fld_congr (hkinds _ _ hf)
  have hacct : t.acct c = s.acct c := funext fun j => hfld CIN_CH_ACCT.TOTAL _
  have hlc : t.lineCredit c = s.lineCredit c := State.flag_congr (hkinds _ _ (by decide))
  have hx : t.chanOf c = s.chanOf c := congrArg (Tab.get _ · c) hchan
  have hstop : t.grantsStopped c = s.grantsStopped c := by
    rw [State.grantsStopped, State.grantsStopped, hfr, hhrn, hfld HRN_GROUP_STATE.STATE _, hfld THM_STATUS.STATE _]
  unfold State.conserves
  simp only [hacct, hlc, hx, hstop, hfld CIN_CH_CRED.ING_CREDITS c, hfld CIN_CH_CRED.EGR_CREDITS c, hfld CIN_ACCEPT.COUNT c,
    hfld CIN_SENT.COUNT c, hfld CIN_DISC_ING_MEM.COUNT c, hfld CIN_ARRIVE.COUNT c, hfld CIN_DELIVER.COUNT c, hfld CIN_DISC_EGR_MEM.COUNT c]

/-- What the audit sees and leaves of channel `c`. -/
def auditSeen (s : State) (c : Nat) : Bool × Bool × Bool := (s.frozen c, s.chEn c, s.conserves c)

theorem auditTurn_other (i j : Nat) (s : State) (hij : j ≠ i) : auditSeen (auditTurn i s) j = auditSeen s j := by
  rw [auditTurn]
  split
  · have hframe := freezeChannel_frame (s := s) i
    have hpart : Evolves freezeChannelScope s (s.freezeChannel i) := Evolves.freezeChannel (.refl s)
    have hfr : (s.freezeChannel i).frozen j = s.frozen j := hframe.flag_eq fun e => hij (e.2 rfl)
    have hen : (s.freezeChannel i).chEn j = s.chEn j := hframe.flag_eq fun e => absurd e.1 (by decide)
    rw [auditSeen, auditSeen, hfr, hen, conserves_congr (fun r k hr => hframe.reg_eq fun e => hr e.1) (hpart.part .chan) (hpart.part .hrn) hfr]
  · rfl

theorem frozen_freezeChannel (c : Nat) : (s.freezeChannel c).frozen c = true := by
  cases hfr : s.frozen c with
  | true => rw [State.freezeChannel, hfr, if_pos rfl, hfr]
  | false =>
    rw [State.freezeChannel, hfr, if_neg Bool.false_ne_true]
    dsimp only
    rw [State.frozen, State.flag_alert_other _ _ _ (by decide) (by decide), State.flag_count_of_apart _ _ _ _ (by decide),
      State.flag_setFlag_of_apart _ _ _ _ (by decide), State.flag_setFld_of_apart _ _ _ _ (by decide)]
    exact State.flag_setFlag_eq _ _ _ (by decide)

theorem frozen_auditTurn (c : Nat) : (auditTurn c s).frozen c = (s.frozen c || (s.chEn c && !s.conserves c)) := by
  rw [auditTurn]
  cases hfr : s.frozen c with
  | true => rw [Bool.not_true, Bool.and_false, Bool.false_and, if_neg Bool.false_ne_true, hfr, Bool.true_or]
  | false =>
    rw [Bool.not_false, Bool.and_true, Bool.false_or]
    cases hbad : s.chEn c && !s.conserves c with
    | true => exact frozen_freezeChannel c
    | false => exact hfr

theorem audited (s : State) : Completes .cinchAudit s fun t =>
    t.fld CIN_AUDIT_PASS.COUNT 0 = (s.fld CIN_AUDIT_PASS.COUNT 0 + 1) % 2 ^ CIN_AUDIT_PASS.COUNT.width ∧
    (∀ c : Chan, t.frozen c = (s.frozen c || (s.chEn c && !s.conserves c))) ∧
    ((∀ c : Chan, s.chEn c = true → s.frozen c = true ∨ s.conserves c = true) → Keeps [(.CIN_AUDIT_PASS, 0)] s t) ∧
    KeepsKinds [.CIN_AUDIT_PASS, .CIN_CH_STATUS, .CIN_CONS_AUDIT, .CIN_AUDIT_FAIL, .EVL_DROPPED, .MGT_ALERT_STATUS, .GLB_STATE] s t := by
  obtain ⟨v, hv⟩ : ∃ v, v = s.each chans256 auditTurn := ⟨_, rfl⟩
  have hexec : exec .cinchAudit s = .next (v.count CIN_AUDIT_PASS.COUNT 0) := by
    rw [hv]
    rfl
  have hkinds : Frame (fun r _ => r ∈ freezeKinds) s v := by
    rw [hv]
    exact (Frame.refl s).each fun i _ h => h.when fun h => h.trans ((freezeChannel_frame i).mono fun _ _ e => e.1)
  refine ⟨_, hexec, ?_, fun c => ?_, fun hall => ?_, ?_⟩
  · rw [State.fld_count_eq _ _ _ (by decide), hkinds.fld_eq (by decide)]
    rfl
  · obtain ⟨u, hu, ht⟩ := State.each_turn (obs := auditSeen) auditTurn_other (is := chans256) List.nodup_range (List.mem_range.2 c.isLt) s
    simp only [auditSeen, Prod.mk.injEq] at hu ht
    obtain ⟨hfr, hen, hcons⟩ := hu
    have hshown : (v.count CIN_AUDIT_PASS.COUNT 0).frozen c = v.frozen c := State.flag_count_of_apart _ _ _ _ (by decide)
    rw [hshown, hv, ht.1, frozen_auditTurn, hfr, hen, hcons]
  · have hsame : v = s := by
      rw [hv]
      refine List.foldlRecOn (motive := fun w => w = s) chans256 _ rfl fun w hw c hc => ?_
      rw [hw, auditTurn]
      refine if_neg fun e => ?_
      rw [Bool.and_eq_true, Bool.and_eq_true, Bool.not_eq_true', Bool.not_eq_true'] at e
      obtain ⟨⟨hen, hfr⟩, hcons⟩ := e
      rcases hall ⟨c, List.mem_range.1 hc⟩ hen with h | h
      · exact Bool.noConfusion (hfr.symm.trans h)
      · exact Bool.noConfusion (hcons.symm.trans h)
    rw [hsame]
    have hcount : Frame (fun r i => (r, i) ∈ [(Reg.CIN_AUDIT_PASS, 0)]) s (s.count CIN_AUDIT_PASS.COUNT 0) := (Frame.refl s).count
    exact hcount.keeps
  · have hall : Frame (fun r _ => r ∈ Reg.CIN_AUDIT_PASS :: freezeKinds) s (v.count CIN_AUDIT_PASS.COUNT 0) :=
      (hkinds.mono fun _ _ e => List.mem_cons_of_mem _ e).count (by decide)
    exact hall.kinds

/-- Settles O10: credit words, the refresh, a delivery and the audit, each by its lemma. -/
theorem creditAndDelivery : Obligations.CreditAndDelivery :=
  ⟨fun _ _ _ _ _ hlocked hieee => ⟨creditWord_bad hlocked hieee, creditWord_grant hlocked hieee⟩, refreshed,
    fun _ _ _ hlost hnext hactive hfr hcredit => delivered hlost hnext hactive hfr hcredit, audited⟩

end
end Sys2Proof.Proofs
end

section
/-! SUPPORT. Channels that close and open (chapter 7, R234). -/
namespace Sys2Proof.Machine
open Sys2Proof Sys2Proof.Claims
set_option Elab.async false

/-- Instances of a register that are reset read their reset values. -/
theorem State.reg_resetRange (s : State) {r : Reg} {lo n k : Nat} (hk : k < n) : (s.resetRange r lo n).reg r (lo + k) = regReset (r, lo + k) := by
  induction n with
  | zero => exact absurd hk (Nat.not_lt_zero _)
  | succ n ih =>
    have hstep : s.resetRange r lo (n + 1) = (s.resetRange r lo n).resetReg r (lo + n) := by
      rw [State.resetRange, List.range_succ, List.foldl_append]
      rfl
    rw [hstep]
    by_cases hkn : k = n
    · rw [hkn, State.reg_resetReg_same]
    · exact (State.reg_setReg_other _ _ (.inr (by omega))).trans (ih (by omega))

/-! ### A channel that closes -/

/-- The registers of a channel that its close returns to their reset values, beside the accounts. -/
abbrev closeResets : List Reg := [.CIN_CH_STATUS, .CIN_ACCEPT, .CIN_SENT, .CIN_ARRIVE, .CIN_DELIVER, .CIN_DISC_ING_MEM, .CIN_DISC_STORE,
  .CIN_DISC_EGR_MEM, .CIN_DISC_SPAN, .CIN_DISC_SHED, .CIN_DISC_EGR_OVF, .CIN_DISC_CLOSE, .CIN_ING_OVR]

/-- What the close of channel `c` changes: its own registers, FAIL and the recorder's count. -/
abbrev CloseKeys (c : Nat) (r : Reg) (i : Nat) : Prop :=
  r ∈ closeResets ∧ i = c ∨ r = .CIN_CH_ACCT ∧ i / 16 = c ∨ r = .CIN_CONS_AUDIT ∨ r = .EVL_DROPPED

/-- The channel has delivered what it can and recorded its final counters. -/
def State.closing (s : State) (c : Nat) : State :=
  let s := (s.setFlag CIN_CH_STATUS.FROZEN c false).endOvfRun c 0
  let x := s.chanOf c
  let s := (List.range x.egr.length).foldl (fun s _ => s.deliverOne c) s
  let gone := x.ing.length + (s.chanOf c).egr.length
  let s := s.chCount CIN_DISC_CLOSE.COUNT c gone
  s.log Evt.CIN_CLOSE Subj.CHANNEL c (s.chanWords c)

/-- The registers of the channel are reset. -/
def State.closeReset (s : State) (c : Nat) : State := (s.resetRange .CIN_CH_ACCT (16 * c) 16).resetRegs closeResets c

/-- Nothing of the channel is left in queues or buffers. -/
def State.closeEmpty (s : State) (c : Nat) : State :=
  ((s.each lanes16 fun n s => s.modClane n fun y => { y with ctlQ := y.ctlQ.filter fun p => !ctlOfChan c p }).modChan c fun _ => {}).showFrozen

theorem State.closeChannel_eq (s : State) (c : Nat) : s.closeChannel c = ((s.closing c).closeReset c).closeEmpty c := rfl

section
variable {s u : State} {c : Nat} {P : Reg → Nat → Prop}

theorem closeEmpty_frame (hu : Frame P s u) (haudit : P .CIN_CONS_AUDIT 0) : Frame P s (u.closeEmpty c) :=
  ((hu.each fun _ _ h => h.modClane).modChan).setFlag haudit

theorem closeReset_frame (hu : Frame P s u) (hacct : ∀ i < 16, P .CIN_CH_ACCT (16 * c + i)) (hreset : ∀ r ∈ closeResets, P r c) :
    Frame P s (u.closeReset c) := (hu.resetRange hacct).resetRegs hreset

theorem closing_frame (hu : Frame P s u) (hacct : ∀ i < 16, P .CIN_CH_ACCT (16 * c + i)) (hreset : ∀ r ∈ closeResets, P r c) (hd : P .EVL_DROPPED 0) :
    Frame P s (u.closing c) := by
  unfold State.closing
  exact ((((hu.setFlag (hreset _ (by decide))).endOvfRun hd).foldl fun _ _ h => h.deliverOne hacct (hreset _ (by decide))).chCount
    (hreset _ (by decide))).log hd

theorem closeChannel_frame : Frame (CloseKeys c) s (s.closeChannel c) := by
  have hacct : ∀ i < 16, CloseKeys c .CIN_CH_ACCT (16 * c + i) := fun i hi => .inr (.inl ⟨rfl, by omega⟩)
  have hreset : ∀ r ∈ closeResets, CloseKeys c r c := fun r hr => .inl ⟨hr, rfl⟩
  rw [State.closeChannel_eq]
  exact closeEmpty_frame (closeReset_frame (closing_frame (.refl s) hacct hreset (.inr (.inr (.inr rfl)))) hacct hreset) (.inr (.inr (.inl rfl)))

theorem closeEmpty_keeps : Frame (fun r _ => r = .CIN_CONS_AUDIT) s (s.closeEmpty c) := closeEmpty_frame (.refl s) rfl

/-- The registers of a closed channel hold their reset values. -/
theorem reg_closeChannel {r : Reg} (hr : r ∈ closeResets) : (s.closeChannel c).reg r c = regReset (r, c) := by
  rw [State.closeChannel_eq, closeEmpty_keeps.reg_eq (fun e => by subst e; exact absurd hr (by decide)), State.closeReset, State.reg_resetRegs _ hr]

/-- A field that is reset to 0 with its whole register reads 0, whatever the index. -/
theorem fld_of_reset {f : Field} {i : Nat} (hreg : s.reg f.reg i = regReset (f.reg, i)) (hi : regReset (f.reg, i) = regReset (f.reg, 0) := by rfl)
    (hz : bitsOf (regReset (f.reg, 0)) f.hi f.lo = 0 := by decide +kernel) : s.fld f i = 0 := by
  rw [State.fld_eq, hreg, hi, hz]

theorem acct_closeChannel {i : Nat} (hi : i < 16) : (s.closeChannel c).acct c i = 0 := by
  have hresets : Frame (fun r _ => r ∈ closeResets) (((s.closing c).resetRange .CIN_CH_ACCT (16 * c) 16)) ((s.closing c).closeReset c) :=
    (Frame.refl _).resetRegs fun _ hr => hr
  have hreg : (s.closeChannel c).reg .CIN_CH_ACCT (16 * c + i) = regReset (.CIN_CH_ACCT, 16 * c + i) := by
    rw [State.closeChannel_eq, closeEmpty_keeps.reg_eq (by decide), hresets.reg_eq (by decide), State.reg_resetRange _ hi]
  exact fld_of_reset (f := CIN_CH_ACCT.TOTAL) hreg

theorem frozen_closeChannel : (s.closeChannel c).frozen c = false := by
  rw [State.frozen, State.flag, fld_of_reset (f := CIN_CH_STATUS.FROZEN) (reg_closeChannel (by decide))]
  rfl

theorem count_closeChannel {f : Field} (hf : f ∈ [CIN_ACCEPT.COUNT, CIN_SENT.COUNT, CIN_ARRIVE.COUNT, CIN_DELIVER.COUNT, CIN_DISC_CLOSE.COUNT]) :
    (s.closeChannel c).fld f c = 0 := by
  simp only [List.mem_cons, List.not_mem_nil, or_false] at hf
  rcases hf with rfl | rfl | rfl | rfl | rfl <;> exact fld_of_reset (reg_closeChannel (by decide))

theorem chanOf_closeChannel : (s.closeChannel c).chanOf c = {} := by
  obtain ⟨v, hv⟩ : ∃ v, v = ((s.closing c).closeReset c).each lanes16 fun n s =>
    s.modClane n fun y => { y with ctlQ := y.ctlQ.filter fun p => !ctlOfChan c p } := ⟨_, rfl⟩
  have hshow : s.closeChannel c = (v.modChan c fun _ => {}).showFrozen := by
    rw [hv]
    rfl
  rw [hshow]
  exact State.chanOf_modChan_same v c fun _ => {}

end

/-! ### A channel that opens -/

/-- A channel as it opens, before its CHOPEN is placed. -/
def State.opening (s : State) (c : Nat) (answer : Bool) : State :=
  (((s.modChan c fun _ => { ({} : ChanX) with
    spans := [{ m0 := 0, mask := BitVec.ofNat 16 (s.usable c) }], chopenDue := !answer, discard := true }).showStripe c (s.usable c)).grant1 c).grant2 c

theorem State.openChannel_eq (s : State) (c : Nat) (answer : Bool) : s.openChannel c answer = (s.opening c answer).placeChopen c := rfl

section
variable {s u : State} {c : Nat} {answer : Bool} {P : Reg → Nat → Prop}

theorem opening_frame (hu : Frame P s u) (hst : P .CIN_CH_STATUS c) (h0 : P .CIN_CH_ACCT (16 * c)) (h8 : P .CIN_CH_ACCT (16 * c + 8)) :
    Frame P s (u.opening c answer) := by
  unfold State.opening
  exact ((Frame.showStripe hu.modChan hst).grant1 h0).grant2 h8

theorem openChannel_frame (hu : Frame P s u) (hst : P .CIN_CH_STATUS c) (h0 : P .CIN_CH_ACCT (16 * c)) (h8 : P .CIN_CH_ACCT (16 * c + 8)) :
    Frame P s (u.openChannel c answer) := by
  rw [State.openChannel_eq]
  exact (opening_frame hu hst h0 h8).placeChopen

theorem chan_grant1 : (s.grant1 c).chan = s.chan := by
  rw [State.grant1]
  split
  · rfl
  · exact s.chan_setAcct c _ _

theorem chan_grant2 : (s.grant2 c).chan = s.chan := by
  rw [State.grant2]
  split
  · rfl
  · exact s.chan_setAcct c _ _

theorem chanOf_opening : (s.opening c answer).chanOf c = { ({} : ChanX) with
    spans := [{ m0 := 0, mask := BitVec.ofNat 16 (s.usable c) }], chopenDue := !answer, discard := true } := by
  have hchan : (s.opening c answer).chan = (s.modChan c fun _ => { ({} : ChanX) with
      spans := [{ m0 := 0, mask := BitVec.ofNat 16 (s.usable c) }], chopenDue := !answer, discard := true }).chan := by
    rw [State.opening, chan_grant2, chan_grant1]
    rfl
  exact (congrArg (Tab.get _ · c) hchan).trans (State.chanOf_modChan_same s c _)

/-- An answer to a CHOPEN leaves no CHOPEN due. -/
theorem openChannel_answer : s.openChannel c true = s.opening c true := by
  rw [State.openChannel_eq, State.placeChopen, chanOf_opening]
  rfl

/-- A sum of distinct powers of two among the first `k` lies below the next. -/
theorem lanesSum_lt (p : Nat → Bool) (k : Nat) : ((List.range k).filter p).foldl (fun a n => a + 2 ^ n) 0 < 2 ^ k := by
  induction k with
  | zero => exact Nat.one_pos
  | succ k ih =>
    rw [List.range_succ, List.filter_append, List.foldl_append, List.filter_singleton, Nat.pow_succ]
    cases p k with
    | true => exact (Nat.add_lt_add_right ih _).trans_eq (by omega)
    | false => exact ih.trans (by omega)

theorem usable_lt (s : State) (c : Nat) : s.usable c < 2 ^ 16 := by
  rw [State.usable, maskLanes, List.filter_filter]
  exact lanesSum_lt _ 16

theorem stripeNow_showStripe (mask : Nat) (hmask : mask < 2 ^ 16) : (s.showStripe c mask).fld CIN_CH_STATUS.STRIPE_NOW c = mask := by
  rw [State.showStripe, State.fld_setFlag_of_apart _ _ _ _ (by decide), State.fld_setFld_of_apart _ _ _ _ (by decide), State.fld_setFld_eq _ _ _ (by decide)]
  exact Nat.mod_eq_of_lt hmask

theorem frozen_showStripe (mask : Nat) : (s.showStripe c mask).frozen c = s.frozen c := by
  rw [State.frozen, State.showStripe, State.flag_setFlag_of_apart _ _ _ _ (by decide), State.flag_setFld_of_apart _ _ _ _ (by decide),
    State.flag_setFld_of_apart _ _ _ _ (by decide)]
  rfl

theorem status_opening : (s.opening c answer).fld CIN_CH_STATUS.STRIPE_NOW c = s.usable c ∧ (s.opening c answer).frozen c = s.frozen c := by
  obtain ⟨v, hv⟩ : ∃ v, v = s.modChan c fun _ => { ({} : ChanX) with
    spans := [{ m0 := 0, mask := BitVec.ofNat 16 (s.usable c) }], chopenDue := !answer, discard := true } := ⟨_, rfl⟩
  have hgrants : Frame (fun r _ => r = .CIN_CH_ACCT) (v.showStripe c (s.usable c)) (s.opening c answer) := by
    rw [hv]
    exact ((Frame.refl _).grant1 rfl).grant2 rfl
  have hfr : (s.opening c answer).frozen c = (v.showStripe c (s.usable c)).frozen c := hgrants.flag_eq (by decide)
  rw [hgrants.fld_eq (by decide), hfr, frozen_showStripe, stripeNow_showStripe _ (usable_lt s c), hv]
  exact ⟨rfl, rfl⟩

end
end Sys2Proof.Machine
end

section
/-! PROOFS. O9: the records of accepted CONTROL granules (chapter 7, R215). -/
namespace Sys2Proof.Proofs
open Sys2Proof Sys2Proof.Machine Sys2Proof.Claims
set_option Elab.async false

section
variable {s t u : State} {n : Nat} {r : List Byte} {rest : List (List Byte)}

/-! ### The record at the front -/

/-- The record at the front has left the lane. -/
def recordTaken (s : State) (n : Nat) (rest : List (List Byte)) : State := s.modClane n fun x => { x with ctlIn := rest }

/-- A record that is what the command names is processed. -/
theorem frontRecord_named {type : Nat} {names : List Byte → Bool} (hctl : (s.claneOf n).ctlIn = r :: rest) (htype : byteAt r 0 = type)
    (hnames : names r = true) : s.frontRecord n type names = (recordTaken s n rest).record n r := by
  rw [State.frontRecord, hctl]
  exact if_pos ⟨htype, hnames⟩

theorem ctlIn_recordTaken : ((recordTaken s n rest).claneOf n).ctlIn = rest := by rw [recordTaken, State.claneOf_modClane_same]

/-- What leaves the lanes' records as they are leaves those behind the front. -/
theorem ctlIn_of_clane (hclane : t.clane = (recordTaken s n rest).clane) : (t.claneOf n).ctlIn = rest :=
  (congrArg (fun m => (Tab.get (fun _ => ({} : CLaneX)) m n).ctlIn) hclane).trans ctlIn_recordTaken

/-! ### OPEN and RESYNC -/

/-- The far nodes of the lanes stay. -/
def FarNodesStay (s t : State) : Prop := ∀ k, (t.tlaneOf k).farNode = (s.tlaneOf k).farNode

theorem FarNodesStay.of_tlane (h : t.tlane = s.tlane) : FarNodesStay s t := fun k =>
  congrArg (fun m => (Tab.get (fun _ => ({} : TLaneX)) m k).farNode) h

theorem FarNodesStay.trans (h : FarNodesStay s u) (h' : FarNodesStay u t) : FarNodesStay s t := fun k => (h' k).trans (h k)

theorem farNodesStay_modTlane {f : TLaneX → TLaneX} (n : Nat) (hf : ∀ x, (f x).farNode = x.farNode) : FarNodesStay s (s.modTlane n f) := by
  intro k
  by_cases hk : k = n
  · rw [hk, State.tlaneOf_modTlane_same, hf]
  · rw [State.tlaneOf_modTlane_other _ _ hk]

/-- A step of the clock moves instants, not far nodes. -/
theorem farNodesStay_stepTo (x : Int) (q b : Nat) : FarNodesStay s (s.stepTo x q b) := by
  unfold State.stepTo
  extract_lets old d set shift moved lanes time since raised window shown
  have hlanes : FarNodesStay s lanes := by
    refine State.each_keeps (P := FarNodesStay s) (fun k v hv => hv.trans ?_) lanes16 (.of_tlane rfl)
    have hother : (((v.modTlane k shift).modLtx k fun x => { x with sentAt := x.sentAt.map moved }).modLrx k fun x =>
        { x with frameStart := x.frameStart.map moved }).tlane = (v.modTlane k shift).tlane := by rw [State.modLrx_tlane, State.modLtx_tlane]
    exact (farNodesStay_modTlane (f := shift) k fun _ => rfl).trans (.of_tlane hother)
  clear_value lanes
  have hshown : Evolves (.of [.TMB_QUALITY, .TMB_ERR_BOUND, .TMB_STATUS, .PMC_WIN, .PMC_VALUE, .EVL_DROPPED] [.risen, .pmc, .time, .recorder]) since
      (shown.log Evt.TMB_STEP Subj.DEVICE 0 (ts96Words old ++ ts96Words shown.now)) := ((((Evolves.refl since).raise).pmcWindow).setQuality).log
  have hsince : since.tlane = lanes.tlane := rfl
  exact hlanes.trans (.of_tlane ((hshown.part .tlane).trans hsince))

theorem farNodesStay_reselect (th : Int) : FarNodesStay s (s.reselect th).1 := by
  unfold State.reselect State.stepToSource
  split
  · exact .of_tlane rfl
  dsimp only
  split
  · exact FarNodesStay.trans (u := { s with time := { s.time with resel := false } }) (.of_tlane rfl) (farNodesStay_stepTo _ _ _)
  · exact .of_tlane rfl

theorem farNodesStay_judged : FarNodesStay s s.judged := by
  unfold State.judged
  split
  · exact farNodesStay_reselect _
  · exact .of_tlane rfl

/-- A source that is taken leaves the far nodes. -/
theorem farNodesStay_takeSource (k : TimeSource) : FarNodesStay s (s.takeSource k) := by
  obtain ⟨u, hu, htlane⟩ : ∃ u : State, s.takeSource k = u.showSource.judged ∧ u.tlane = s.calAbort.tlane := ⟨_, rfl, rfl⟩
  have habort : s.calAbort.tlane = s.tlane := ((Evolves.refl s).calAbort (K := .of [.TMB_STATUS] [])).part .tlane
  have hshow : u.showSource.tlane = u.tlane := ((Evolves.refl u).showSource (K := .of [.TMB_QUALITY, .TMB_LANE_FLAGS] [])).part .tlane
  rw [hu]
  exact (FarNodesStay.of_tlane (hshow.trans (htlane.trans habort))).trans farNodesStay_judged

theorem farNodesStay_selectFirst : FarNodesStay s s.selectFirst := by
  unfold State.selectFirst
  dsimp only
  split
  · split
    · exact FarNodesStay.trans (u := s.noteBest) (.of_tlane rfl) (farNodesStay_takeSource _)
    · exact .of_tlane rfl
  · exact .of_tlane rfl

/-- The lane's far node is the one seen (R271). -/
theorem farNode_farNodeSeen (id : Nat) : ((s.farNodeSeen n id).tlaneOf n).farNode = some id := by
  rw [State.farNodeSeen, farNodesStay_selectFirst n]
  have hmod (d : Bool) : ((s.modTlane n fun t => { t with farNode := some id, dup := d }).tlaneOf n).farNode = some id := by
    rw [State.tlaneOf_modTlane_same]
  split
  · exact (FarNodesStay.of_tlane (((Evolves.refl _).log (K := .of [.EVL_DROPPED] [.recorder])).part .tlane) n).trans (hmod _)
  · exact hmod _

theorem laneE_setFld (x : Nat) : (s.setFld CIN_LANE_SEQ.E n x).laneE n = BitVec.ofNat 32 x := by
  rw [State.laneE, State.fld_setFld_eq _ _ _ (by decide)]
  exact BitVec.eq_of_toNat_eq (by rw [BitVec.toNat_ofNat, BitVec.toNat_ofNat]; exact Nat.mod_mod _ _)

/-- A receive stream that runs from SEQ `x` on. -/
def streamRuns (s : State) (n x : Nat) : State := ((s.setFld CIN_LANE_STATUS.RX_STREAM n Stream.RUN).setFld CIN_LANE_SEQ.E n x).dropNack n

theorem streamRuns_shows (x : Nat) : (streamRuns s n x).rxStream n = Stream.RUN ∧ (streamRuns s n x).laneE n = BitVec.ofNat 32 x ∧
    ∀ q ∈ (streamRuns s n x).cin.nacks, q.lane ≠ n := by
  have hseq (u : State) : (u.dropNack n).laneE n = u.laneE n := rfl
  refine ⟨?_, (hseq _).trans (laneE_setFld x), fun q hq => of_decide_eq_true (List.mem_filter.1 hq).2⟩
  have hrun : (s.setFld CIN_LANE_STATUS.RX_STREAM n Stream.RUN).rxStream n = Stream.RUN := State.fld_setFld_eq _ _ _ (by decide)
  have hstay (u : State) : ((u.setFld CIN_LANE_SEQ.E n x).dropNack n).rxStream n = u.rxStream n :=
    State.fld_congr (u.reg_setFld_other _ _ _ (by decide))
  exact (hstay _).trans hrun

end

section
variable {s t u : State} {n : Lane} {r : List Byte} {rest : List (List Byte)}

theorem openRecord_runs (hctl : (s.claneOf n).ctlIn = r :: rest) (node : BitVec 16) (htype : byteAt r 0 = 1) (hnode : fieldAt r 1 2 = node.toNat)
    (hclosed : s.rxStream n = Stream.CLOSED) : Completes (.openRecord n node) s fun t => t.rxStream n = Stream.RUN ∧ t.laneE n = 1 ∧
      (t.tlaneOf n).farNode = some node.toNat ∧ (t.claneOf n).ctlIn = rest ∧ (∀ a, t.memByte a = s.memByte a) := by
  obtain ⟨v, hv⟩ : ∃ v, v = streamRuns (recordTaken s n rest) n 1 := ⟨_, rfl⟩
  have hrecord : (recordTaken s n rest).record n r = v.farNodeSeen n node.toNat := by
    have hcl : (recordTaken s n rest).rxStream n = Stream.CLOSED := hclosed
    have hopen : (recordTaken s n rest).record n r = (recordTaken s n rest).openRecord n r := by
      simp only [State.record, htype]
    rw [hopen, State.openRecord, if_pos hcl, hnode, hv]
    rfl
  have hexec : exec (.openRecord n node) s = .next (v.farNodeSeen n node.toNat) := by
    rw [← hrecord, ← frontRecord_named (type := 1) (names := fun r => decide (fieldAt r 1 2 = node.toNat)) hctl htype (decide_eq_true hnode)]
    rfl
  have hseen : Evolves takeSourceScope v (v.farNodeSeen n node.toNat) := (Evolves.refl v).farNodeSeen
  obtain ⟨hrun, hE, -⟩ := streamRuns_shows (s := recordTaken s n rest) (n := n) 1
  rw [← hv] at hrun hE
  have hseq : (v.farNodeSeen n node.toNat).laneE n = v.laneE n := congrArg (BitVec.ofNat 32) (hseen.fld CIN_LANE_SEQ.E n)
  refine ⟨_, hexec, (hseen.fld CIN_LANE_STATUS.RX_STREAM n).trans hrun, hseq.trans hE, farNode_farNodeSeen _,
    ctlIn_of_clane ((hseen.part .clane).trans (by rw [hv]; rfl)), fun a => (hseen.memByte a).trans (by rw [hv]; rfl)⟩

theorem resyncRecord_runs (hctl : (s.claneOf n).ctlIn = r :: rest) (epoch : Fin 4) (seq : BitVec 32) (htype : byteAt r 0 = 3)
    (hepoch : (s.claneOf n).lastEpoch = epoch) (hseq : BitVec.ofNat 32 (fieldAt r 4 4) = seq) :
    Completes (.resyncRecord n epoch seq) s fun t => t.rxStream n = Stream.RUN ∧ t.laneE n = seq + 1 ∧ (t.claneOf n).ctlIn = rest ∧
      (∀ q ∈ t.cin.nacks, q.lane ≠ n) ∧ Keeps [(.CIN_LANE_STATUS, n), (.CIN_LANE_SEQ, n)] s t := by
  obtain ⟨x, hx⟩ : ∃ x, x = (fieldAt r 4 4 + 1) % 2 ^ 32 := ⟨_, rfl⟩
  have hrecord : (recordTaken s n rest).record n r = streamRuns (recordTaken s n rest) n x := by
    rw [State.record, htype, hx]
    rfl
  have hexec : exec (.resyncRecord n epoch seq) s = .next (streamRuns (recordTaken s n rest) n x) := by
    rw [← hrecord, ← frontRecord_named (type := 3) (names := fun r => decide ((s.claneOf n).lastEpoch = epoch ∧ BitVec.ofNat 32 (fieldAt r 4 4) = seq))
      hctl htype (decide_eq_true ⟨hepoch, hseq⟩)]
    rfl
  obtain ⟨hrun, hE, hnacks⟩ := streamRuns_shows (s := recordTaken s n rest) (n := n) x
  have hnext : BitVec.ofNat 32 x = seq + 1 := by
    rw [hx, ← hseq]
    exact BitVec.eq_of_toNat_eq (by simp [BitVec.toNat_add])
  have hkeys : Frame (fun r i => (r, i) ∈ [(Reg.CIN_LANE_STATUS, n.val), (.CIN_LANE_SEQ, n.val)]) s (streamRuns (recordTaken s n rest) n x) :=
    (((Frame.refl s).modClane.setFld).setFld).dropNack
  exact ⟨_, hexec, hrun, hE.trans hnext, ctlIn_of_clane rfl, hnacks, hkeys.keeps⟩

end

/-! ### What a channel passes -/

section
variable {s t u : State} {n c : Nat}

theorem settle_keeps (x : ChanX) (k : Nat) : (x.settle k).spans = x.spans ∧ (x.settle k).laneNext = x.laneNext := by
  induction k generalizing x with
  | zero => exact ⟨rfl, rfl⟩
  | succ k ih =>
    rw [ChanX.settle]
    split
    · exact ih _
    · exact ⟨rfl, rfl⟩

theorem head_liveSpans (newest m : BitVec 32) (l : List StripeSpan) : (liveSpans newest m l).head? = l.head? := by
  match l with
  | [] => rfl
  | [_] => rfl
  | a :: b :: rest =>
    rw [liveSpans]
    split <;> rfl

/-- What the channel has passed leaves its newest span and its lanes' next CHSEQs. -/
theorem settleChan_keeps : ((s.settleChan c).chanOf c).spans.head? = (s.chanOf c).spans.head? ∧
    ∀ n, ((s.settleChan c).chanOf c).low n = (s.chanOf c).low n := by
  obtain ⟨k, hk⟩ : ∃ k, k = ((s.chanOf c).lost.map fun r => (r.stop - r.start).toNat).sum := ⟨_, rfl⟩
  obtain ⟨hspans, hnext⟩ := settle_keeps (s.chanOf c) k
  have hchan : (s.settleChan c).chanOf c = ((s.chanOf c).settle k).prune := by rw [State.settleChan, State.chanOf_modChan_same, hk]
  rw [hchan]
  refine ⟨?_, fun n => congrArg (Tab.get (fun _ => 0) · n) hnext⟩
  rw [ChanX.prune, head_liveSpans, hspans]

/-- Only the channel's own place may change. -/
def OthersStay (c : Nat) (s t : State) : Prop := ∀ d, d ≠ c → t.chanOf d = s.chanOf d

theorem OthersStay.modChan {f : ChanX → ChanX} (h : OthersStay c s u) : OthersStay c s (u.modChan c f) := fun d hd =>
  (State.chanOf_modChan_other u f hd).trans (h d hd)

theorem OthersStay.settleChan (h : OthersStay c s u) : OthersStay c s (u.settleChan c) := h.modChan

theorem OthersStay.of_chan (hchan : t.chan = s.chan) : OthersStay c s t := fun d _ => congrArg (Tab.get _ · d) hchan

theorem OthersStay.trans (h : OthersStay c s u) (h' : OthersStay c u t) : OthersStay c s t := fun d hd => (h' d hd).trans (h d hd)

/-! ### SKIP -/

/-- One CHSEQ that is known lost. -/
theorem isLost_one (x : ChanX) (m : BitVec 32) (hlost : x.lost = [⟨none, m, m + 1⟩]) (q : BitVec 32) : x.isLost q = decide (q = m) := by
  have hone : (m + 1 - m).toNat = 1 := by bv_omega
  rw [ChanX.isLost, hlost, List.any_cons, List.any_nil, Bool.or_false, hone]
  rw [Option.all_none, Bool.and_true]
  exact decide_eq_decide.2 ⟨fun h => by bv_omega, fun h => by bv_omega⟩

/-- The channel after a SKIP of `m` on lane `n`. -/
def skipped (x : ChanX) (n : Nat) (m : BitVec 32) : ChanX :=
  let x := x.passed n m
  if seqLt m x.rxNext then x else { x with lost := ⟨none, m, m + 1⟩ :: x.lost }

theorem seqLt_self (m : BitVec 32) : seqLt m m = false := by simp [seqLt]

/-- A SKIP of the CHSEQ that is due passes it. -/
theorem skip_due (x : ChanX) (n : Nat) (m : BitVec 32) (hlost : x.lost = []) (hdue : m = x.rxNext) :
    ((skipped x n m).settle ((skipped x n m).lost.map fun r => (r.stop - r.start).toNat).sum).prune.rxNext = m + 1 ∧
    ((skipped x n m).settle ((skipped x n m).lost.map fun r => (r.stop - r.start).toNat).sum).prune.lost = [] := by
  have hskip : skipped x n m = { x.passed n m with lost := [⟨none, m, m + 1⟩] } := by
    have hpassed : (x.passed n m).rxNext = m := hdue.symm
    have hlost' : (x.passed n m).lost = [] := hlost
    rw [skipped]
    dsimp only
    rw [hpassed, seqLt_self, if_neg Bool.false_ne_true, hlost']
  have hone : (m + 1 - m).toNat = 1 := by bv_omega
  have hsettle : (skipped x n m).settle 1 = { skipped x n m with rxNext := m + 1 } := by
    rw [ChanX.settle, isLost_one _ m (by rw [hskip])]
    have hnext : (skipped x n m).rxNext = m := by
      rw [hskip]
      exact hdue.symm
    rw [hnext, if_pos (decide_eq_true rfl)]
    rfl
  have hsum : ((skipped x n m).lost.map fun r => (r.stop - r.start).toNat).sum = 1 := by
    rw [hskip]
    exact hone
  rw [hsum, hsettle]
  refine ⟨rfl, ?_⟩
  rw [ChanX.prune, hskip]
  simp [seqLt_self]

/-- A SKIP of a later CHSEQ is remembered. -/
theorem skip_later (x : ChanX) (n : Nat) (m : BitVec 32) (hlost : x.lost = []) (hlater : seqLt x.rxNext m = true) (hnext : seqLt x.rxNext (m + 1) = true) :
    ((skipped x n m).settle ((skipped x n m).lost.map fun r => (r.stop - r.start).toNat).sum).prune.rxNext = x.rxNext ∧
    ((skipped x n m).settle ((skipped x n m).lost.map fun r => (r.stop - r.start).toNat).sum).prune.lost = [⟨none, m, m + 1⟩] := by
  have hapart : m ≠ x.rxNext := fun e => by rw [e, seqLt_self] at hlater; exact Bool.noConfusion hlater
  have hnot : seqLt m x.rxNext = false := by
    simp only [seqLt, decide_eq_true_eq, decide_eq_false_iff_not] at hlater ⊢
    bv_omega
  have hskip : skipped x n m = { x.passed n m with lost := [⟨none, m, m + 1⟩] } := by
    have hpassed : (x.passed n m).rxNext = x.rxNext := rfl
    have hlost' : (x.passed n m).lost = [] := hlost
    rw [skipped]
    dsimp only
    rw [hpassed, hnot, if_neg Bool.false_ne_true, hlost']
  have hsettle (k : Nat) : (skipped x n m).settle k = skipped x n m := by
    cases k with
    | zero => rfl
    | succ k =>
      have hrx : (skipped x n m).rxNext = x.rxNext := by rw [hskip]; rfl
      rw [ChanX.settle, isLost_one _ m (by rw [hskip]), hrx, if_neg (by simpa using fun e => hapart e.symm)]
  rw [hsettle, hskip]
  refine ⟨rfl, ?_⟩
  have hkept : seqLt (x.passed n m).rxNext (m + 1) = true := hnext
  rw [ChanX.prune]
  change [(⟨none, m, m + 1⟩ : LostRun)].filter (fun r => seqLt (x.passed n m).rxNext r.stop) = _
  rw [List.filter_singleton, hkept]
  rfl

end

section
variable {s t u : State} {n : Lane} {c : Chan} {r : List Byte} {rest : List (List Byte)}

/-- What the records of a channel leave: the lane's later records and the other channels. -/
def RecordPassed (n : Lane) (c : Chan) (rest : List (List Byte)) (s t : State) : Prop :=
  (t.claneOf n).ctlIn = rest ∧ ∀ d, d ≠ c.val → t.chanOf d = s.chanOf d

theorem skipRecord_passes (hctl : (s.claneOf n).ctlIn = r :: rest) (hen : s.chEn c = true) (htype : byteAt r 0 = 2) (hc : byteAt r 1 = c)
    (hlost : (s.chanOf c).lost = []) (m : BitVec 32) (hm : BitVec.ofNat 32 (fieldAt r 8 4) = m) :
    Completes (.skipRecord n c m) s fun t => RecordPassed n c rest s t ∧ Keeps [] s t ∧
      (m = (s.chanOf c).rxNext → (t.chanOf c).rxNext = m + 1 ∧ (t.chanOf c).lost = []) ∧
      (seqLt (s.chanOf c).rxNext m = true → seqLt (s.chanOf c).rxNext (m + 1) = true →
        (t.chanOf c).rxNext = (s.chanOf c).rxNext ∧ (t.chanOf c).lost = [⟨none, m, m + 1⟩]) := by
  obtain ⟨v, hv⟩ : ∃ v, v = recordTaken s n rest := ⟨_, rfl⟩
  have hrecord : v.record n r = (v.modChan c fun x => skipped x n m).settleChan c := by
    have hen' : v.chEn c = true := by rw [hv]; exact hen
    have hskip : v.record n r = v.skipRecord n r := by simp only [State.record, htype]
    rw [hskip, State.skipRecord]
    dsimp only
    rw [hc, hm, hen', if_pos rfl]
    rfl
  have hexec : exec (.skipRecord n c m) s = .next ((v.modChan c fun x => skipped x n m).settleChan c) := by
    rw [← hrecord, hv, ← frontRecord_named (type := 2) (names := fun r => decide (byteAt r 1 = c ∧ BitVec.ofNat 32 (fieldAt r 8 4) = m))
      hctl htype (decide_eq_true ⟨hc, hm⟩)]
    rfl
  have hchan : ((v.modChan c fun x => skipped x n m).settleChan c).chanOf c = ((skipped (s.chanOf c) n m).settle
      ((skipped (s.chanOf c) n m).lost.map fun r => (r.stop - r.start).toNat).sum).prune := by
    rw [State.settleChan, State.chanOf_modChan_same, State.chanOf_modChan_same, hv]
    rfl
  have hkeys : Frame (fun r i => (r, i) ∈ ([] : List RegKey)) s ((v.modChan c fun x => skipped x n m).settleChan c) := by
    rw [hv]
    exact (Frame.refl s).modClane.modChan.settleChan
  refine ⟨_, hexec, ⟨ctlIn_of_clane (by rw [hv]; rfl), ?_⟩, hkeys.keeps, fun hdue => ?_, fun hlater hnext => ?_⟩
  · rw [hv]
    exact (OthersStay.of_chan (c := c) (s := s) (t := recordTaken s n rest) rfl).modChan.settleChan
  · rw [hchan]
    exact skip_due _ n m hlost hdue
  · rw [hchan]
    exact skip_later _ n m hlost hlater hnext

/-! ### STRIPE -/

/-- Where a copy of the record's span is known, it has come on the lane as well. -/
def copySeen (s : State) (n c : Nat) (mask : BitVec 16) (switch : BitVec 32) : State := s.modChan c fun x => { x with
  spans := x.spans.map fun sp => if sp.isCopy n mask switch then { sp with seen := n :: sp.seen } else sp }

/-- What the lanes whose receive streams closed owed below the switch number, and the channel that knows it lost. -/
def owedBelow (x : ChanX) (switch : BitVec 32) : ChanX × Nat × BitVec 32 :=
  x.cut.foldl (fun (a : ChanX × Nat × BitVec 32) l =>
    let (x, k, m) := a.1.loses l switch
    (x, a.2.1 + k, if a.2.1 = 0 ∨ k ≠ 0 ∧ seqLt m a.2.2 then m else a.2.2)) (x, 0, 0)

/-- The first record of a stripe makes its span. -/
def newSpan (s : State) (n c : Nat) (mask : BitVec 16) (switch : BitVec 32) : State :=
  let owed := owedBelow (s.chanOf c) switch
  let s' := if owed.2.1 = 0 then s else
    (s.chCount CIN_DISC_SHED.COUNT c owed.2.1).logDiscard c 2 owed.2.1 n (s.laneE n - 1).toNat owed.2.2.toNat 0
  s'.modChan c fun _ => { owed.1 with spans := insertSpan ⟨switch, mask, [n]⟩ owed.1.spans }

/-- The lane goes on at the switch number. -/
def stripeAt (u : State) (n c : Nat) (switch : BitVec 32) : State :=
  (u.modChan c fun x => { x with
    laneNext := Tab.set natLt (fun _ => 0) x.laneNext n switch
    cut := if u.rxStream n = Stream.CLOSED then x.cut else x.cut.erase n }).settleChan c

section
variable {mask : BitVec 16} {switch : BitVec 32}

theorem stripeRecord_copy (hc : byteAt r 1 = c) (hmask : BitVec.ofNat 16 (fieldAt r 2 2) = mask) (hswitch : BitVec.ofNat 32 (fieldAt r 4 4) = switch)
    (hen : s.chEn c = true) (hcopy : (s.chanOf c).spans.any (fun sp => sp.isCopy n mask switch) = true) :
    s.stripeRecord n r = stripeAt (copySeen s n c mask switch) n c switch := by
  rw [State.stripeRecord]
  dsimp only
  rw [hc, hmask, hswitch, hen, hcopy, Bool.true_or, if_neg (by decide : ¬(!true) = true), if_pos rfl]
  rfl

theorem stripeRecord_fresh (hc : byteAt r 1 = c) (hmask : BitVec.ofNat 16 (fieldAt r 2 2) = mask) (hswitch : BitVec.ofNat 32 (fieldAt r 4 4) = switch)
    (hen : s.chEn c = true) (hcopy : (s.chanOf c).spans.any (fun sp => sp.isCopy n mask switch) = false)
    (hnew : ∀ sp ∈ (s.chanOf c).spans, seqLt switch sp.m0 = false) :
    s.stripeRecord n r = stripeAt (newSpan s n c mask switch) n c switch := by
  have hold : ((s.chanOf c).spans.getLast?.any fun sp => seqLt switch sp.m0) = false := by
    cases hlast : (s.chanOf c).spans.getLast? with
    | none => rfl
    | some sp => exact hnew sp (List.mem_of_getLast? hlast)
  rw [State.stripeRecord]
  dsimp only
  rw [hc, hmask, hswitch, hen, hcopy, hold, if_neg (by decide : ¬(!true) = true), if_neg (by decide : ¬(false || false) = true)]
  rfl

/-- What a lane goes on from leaves the newest span, and is the lane's next CHSEQ. -/
theorem stripeAt_shows : ((stripeAt u n c switch).chanOf c).low n = switch ∧
    ((stripeAt u n c switch).chanOf c).spans.head? = (u.chanOf c).spans.head? := by
  obtain ⟨hhead, hlow⟩ := settleChan_keeps (c := c.val) (s := u.modChan c fun x => { x with
    laneNext := Tab.set natLt (fun _ => 0) x.laneNext n switch
    cut := if u.rxStream n = Stream.CLOSED then x.cut else x.cut.erase n })
  rw [stripeAt, hhead, hlow, State.chanOf_modChan_same, ChanX.low, Tab.get_set_same]
  exact ⟨rfl, rfl⟩

/-- What a lane owes leaves the spans, and the lane's next CHSEQ is where it stops. -/
theorem loses_keeps (x : ChanX) (n : Nat) (m : BitVec 32) :
    (x.loses n m).1.spans = x.spans ∧ (x.loses n m).1.laneNext = Tab.set natLt (fun _ => 0) x.laneNext n m := by
  unfold ChanX.loses
  extract_lets a k x'
  dsimp only
  split
  · exact ⟨rfl, rfl⟩
  · exact ⟨rfl, rfl⟩

theorem owedBelow_spans (x : ChanX) (switch : BitVec 32) : (owedBelow x switch).1.spans = x.spans :=
  List.foldlRecOn (motive := fun a : ChanX × Nat × BitVec 32 => a.1.spans = x.spans) x.cut _ rfl
    fun a ha l _ => (loses_keeps a.1 l switch).1.trans ha

/-- A span above every other is the newest. -/
theorem head_insertSpan (sp : StripeSpan) (l : List StripeSpan) (hnew : ∀ a ∈ l, seqLt sp.m0 a.m0 = false) : (insertSpan sp l).head? = some sp := by
  cases l with
  | nil => rfl
  | cons a l => rw [insertSpan, hnew a (List.mem_cons_self ..), if_neg Bool.false_ne_true]; rfl

theorem newSpan_frame : Frame (fun r i => (r, i) ∈ [(Reg.CIN_DISC_SHED, c.val)] ++ logKeys) s (newSpan s n c mask switch) := by
  unfold newSpan
  exact Frame.modChan ((Frame.refl s).skip fun h => (h.chCount).logDiscard)

theorem chan_logDiscard {counter k lane seq chseq ts c : Nat} : (s.logDiscard c counter k lane seq chseq ts).chan = s.chan :=
  ((Evolves.refl s).log (K := .of [.EVL_DROPPED] [.recorder])).part .chan

theorem chan_chCount {f : Field} {k c : Nat} : (s.chCount f c k).chan = s.chan := by
  rw [State.chCount]
  split <;> rfl

theorem clane_logDiscard {counter k lane seq chseq ts c : Nat} : (s.logDiscard c counter k lane seq chseq ts).clane = s.clane :=
  ((Evolves.refl s).log (K := .of [.EVL_DROPPED] [.recorder])).part .clane

theorem clane_chCount {f : Field} {k c : Nat} : (s.chCount f c k).clane = s.clane := by
  rw [State.chCount]
  split <;> rfl

/-- Losses that are counted and recorded leave channels and lanes. -/
theorem discarded_parts {f : Field} {code k seq chseq c : Nat} :
    (if k = 0 then s else (s.chCount f c k).logDiscard c code k n seq chseq 0).chan = s.chan ∧
    (if k = 0 then s else (s.chCount f c k).logDiscard c code k n seq chseq 0).clane = s.clane := by
  split
  · exact ⟨rfl, rfl⟩
  · exact ⟨chan_logDiscard.trans chan_chCount, clane_logDiscard.trans clane_chCount⟩

theorem newSpan_shows (hnew : ∀ sp ∈ (s.chanOf c).spans, seqLt switch sp.m0 = false) :
    ((newSpan s n c mask switch).chanOf c).spans.head? = some ⟨switch, mask, [n.val]⟩ ∧ OthersStay c s (newSpan s n c mask switch) ∧
    (newSpan s n c mask switch).clane = s.clane := by
  obtain ⟨owed, howed⟩ : ∃ owed, owed = owedBelow (s.chanOf c) switch := ⟨_, rfl⟩
  have hspans : owed.1.spans = (s.chanOf c).spans := by rw [howed, owedBelow_spans]
  rw [newSpan]
  dsimp only
  rw [← howed, State.chanOf_modChan_same]
  obtain ⟨hchan, hclane⟩ := discarded_parts (s := s) (n := n) (f := CIN_DISC_SHED.COUNT) (code := 2) (k := owed.2.1) (seq := (s.laneE n - 1).toNat)
    (chseq := owed.2.2.toNat) (c := c)
  refine ⟨?_, (OthersStay.of_chan hchan).modChan, hclane⟩
  dsimp only
  rw [hspans]
  exact head_insertSpan _ _ hnew

theorem head_copySeen : ((copySeen s n c mask switch).chanOf c).spans.head?.map (fun sp => (sp.m0, sp.mask)) =
    (s.chanOf c).spans.head?.map fun sp => (sp.m0, sp.mask) := by
  rw [copySeen, State.chanOf_modChan_same]
  cases hspans : (s.chanOf c).spans with
  | nil => rfl
  | cons sp l =>
    dsimp only
    rw [List.map_cons, List.head?_cons, List.head?_cons, Option.map_some, Option.map_some]
    split <;> rfl

theorem stripeRecord_exec (hctl : (s.claneOf n).ctlIn = r :: rest) (htype : byteAt r 0 = 4) (hc : byteAt r 1 = c)
    (hmask : BitVec.ofNat 16 (fieldAt r 2 2) = mask) (hswitch : BitVec.ofNat 32 (fieldAt r 4 4) = switch) :
    exec (.stripeRecord n c mask switch) s = .next ((recordTaken s n rest).stripeRecord n r) := by
  have hrecord : (recordTaken s n rest).record n r = (recordTaken s n rest).stripeRecord n r := by simp only [State.record, htype]
  rw [← hrecord, ← frontRecord_named (type := 4) (names := fun r => decide (byteAt r 1 = c ∧ BitVec.ofNat 16 (fieldAt r 2 2) = mask ∧
    BitVec.ofNat 32 (fieldAt r 4 4) = switch)) hctl htype (decide_eq_true ⟨hc, hmask, hswitch⟩)]
  rfl

theorem stripeRecord_passes_copy (hctl : (s.claneOf n).ctlIn = r :: rest) (hen : s.chEn c = true) (htype : byteAt r 0 = 4) (hc : byteAt r 1 = c)
    (hmask : BitVec.ofNat 16 (fieldAt r 2 2) = mask) (hswitch : BitVec.ofNat 32 (fieldAt r 4 4) = switch)
    (hcopy : (s.chanOf c).spans.any (fun sp => sp.isCopy n mask switch) = true) :
    Completes (.stripeRecord n c mask switch) s fun t => RecordPassed n c rest s t ∧ (t.chanOf c).low n = switch ∧ Keeps [] s t ∧
      (t.chanOf c).spans.head?.map (fun sp => (sp.m0, sp.mask)) = (s.chanOf c).spans.head?.map fun sp => (sp.m0, sp.mask) := by
  obtain ⟨v, hv⟩ : ∃ v, v = recordTaken s n rest := ⟨_, rfl⟩
  have hchan : v.chan = s.chan := by rw [hv]; rfl
  have hx : v.chanOf c = s.chanOf c := congrArg (Tab.get _ · c.val) hchan
  have hexec := stripeRecord_exec (s := s) (n := n) (c := c) hctl htype hc hmask hswitch
  rw [← hv, stripeRecord_copy hc hmask hswitch (by rw [hv]; exact hen) (by rw [hx]; exact hcopy)] at hexec
  obtain ⟨hlow, hhead⟩ := stripeAt_shows (u := copySeen v n c mask switch) (n := n) (c := c) (switch := switch)
  have hkeys : Frame (fun r i => (r, i) ∈ ([] : List RegKey)) s (stripeAt (copySeen v n c mask switch) n c switch) := by
    rw [hv]
    exact ((Frame.refl s).modClane.modChan).modChan.settleChan
  refine ⟨_, hexec, ⟨ctlIn_of_clane (by rw [hv]; rfl), ?_⟩, hlow, hkeys.keeps, ?_⟩
  · exact (OthersStay.of_chan (c := c) hchan).modChan.modChan.settleChan
  · rw [hhead, head_copySeen, hx]

theorem stripeRecord_passes_fresh (hctl : (s.claneOf n).ctlIn = r :: rest) (hen : s.chEn c = true) (htype : byteAt r 0 = 4) (hc : byteAt r 1 = c)
    (hmask : BitVec.ofNat 16 (fieldAt r 2 2) = mask) (hswitch : BitVec.ofNat 32 (fieldAt r 4 4) = switch)
    (hcopy : (s.chanOf c).spans.any (fun sp => sp.isCopy n mask switch) = false) (hnew : ∀ sp ∈ (s.chanOf c).spans, seqLt switch sp.m0 = false) :
    Completes (.stripeRecord n c mask switch) s fun t => RecordPassed n c rest s t ∧ (t.chanOf c).low n = switch ∧
      (t.chanOf c).spans.head? = some ⟨switch, mask, [n.val]⟩ ∧ Keeps ([(.CIN_DISC_SHED, c.val)] ++ logKeys) s t := by
  obtain ⟨v, hv⟩ : ∃ v, v = recordTaken s n rest := ⟨_, rfl⟩
  have hchan : v.chan = s.chan := by rw [hv]; rfl
  have hx : v.chanOf c = s.chanOf c := congrArg (Tab.get _ · c.val) hchan
  have hexec := stripeRecord_exec (s := s) (n := n) (c := c) hctl htype hc hmask hswitch
  rw [← hv, stripeRecord_fresh hc hmask hswitch (by rw [hv]; exact hen) (by rw [hx]; exact hcopy) (by rw [hx]; exact hnew)] at hexec
  obtain ⟨hlow, hhead⟩ := stripeAt_shows (u := newSpan v n c mask switch) (n := n) (c := c) (switch := switch)
  obtain ⟨hnewest, hothers, hclane⟩ := newSpan_shows (s := v) (n := n) (c := c) (mask := mask) (switch := switch) (by rw [hx]; exact hnew)
  have htaken : Frame (fun r i => (r, i) ∈ [(Reg.CIN_DISC_SHED, c.val)] ++ logKeys) s v := by
    rw [hv]
    exact (Frame.refl s).modClane
  have hkeys : Frame (fun r i => (r, i) ∈ [(Reg.CIN_DISC_SHED, c.val)] ++ logKeys) s (stripeAt (newSpan v n c mask switch) n c switch) :=
    (htaken.trans newSpan_frame).modChan.settleChan
  refine ⟨_, hexec, ⟨ctlIn_of_clane (hclane.trans (by rw [hv])), ?_⟩, hlow, hhead.trans hnewest, hkeys.keeps⟩
  exact ((OthersStay.of_chan (c := c) hchan).trans hothers).modChan.settleChan

end

/-! ### CHPOS and CHOPEN -/

/-- The channel has lost what lane `n` owed below `m`. -/
def posLost (s : State) (n c : Nat) (m : BitVec 32) : State :=
  let lost := (s.chanOf c).loses n m
  let s' := if lost.2.1 = 0 then s else
    (s.chCount CIN_DISC_SPAN.COUNT c lost.2.1).logDiscard c 1 lost.2.1 n (s.laneE n - 1).toNat lost.2.2.toNat 0
  (s'.modChan c fun _ => lost.1).settleChan c

/-- A CHPOS record of one entry. -/
theorem chposRecord_one (hone : byteAt r 1 = 1) (hc : byteAt r 2 = c) (hen : s.chEn c = true) :
    s.chposRecord n r = posLost s n c (BitVec.ofNat 32 (fieldAt r 3 4)) := by
  have hlen : min 6 1 = 1 := rfl
  rw [State.chposRecord, hone, hlen, State.each, List.range_one, List.foldl_cons, List.foldl_nil]
  dsimp only
  rw [Nat.mul_zero, Nat.add_zero, hc, hen]
  rfl

theorem low_loses (x : ChanX) (n : Nat) (m : BitVec 32) : (x.loses n m).1.low n = m := by
  rw [ChanX.low, (loses_keeps x n m).2, Tab.get_set_same]

theorem chposRecord_passes (hctl : (s.claneOf n).ctlIn = r :: rest) (hen : s.chEn c = true) (htype : byteAt r 0 = 5) (hone : byteAt r 1 = 1)
    (hc : byteAt r 2 = c) : Completes (.chposRecord n c (BitVec.ofNat 32 (fieldAt r 3 4))) s fun t => RecordPassed n c rest s t ∧
      (t.chanOf c).low n = BitVec.ofNat 32 (fieldAt r 3 4) ∧ Keeps ([(.CIN_DISC_SPAN, c.val)] ++ logKeys) s t := by
  obtain ⟨v, hv⟩ : ∃ v, v = recordTaken s n rest := ⟨_, rfl⟩
  obtain ⟨m, hm⟩ : ∃ m, m = BitVec.ofNat 32 (fieldAt r 3 4) := ⟨_, rfl⟩
  have hchan : v.chan = s.chan := by rw [hv]; rfl
  have hrecord : v.record n r = posLost v n c m := by
    have hpos : v.record n r = v.chposRecord n r := by simp only [State.record, htype]
    rw [hpos, chposRecord_one hone hc (by rw [hv]; exact hen), hm]
  have hexec : exec (.chposRecord n c m) s = .next (posLost v n c m) := by
    rw [← hrecord, hv, ← frontRecord_named (type := 5) (names := fun r => decide (byteAt r 2 = c ∧ BitVec.ofNat 32 (fieldAt r 3 4) = m)) hctl htype
      (decide_eq_true ⟨hc, hm.symm⟩)]
    rfl
  rw [← hm]
  obtain ⟨lost, hlost⟩ : ∃ lost, lost = (v.chanOf c).loses n m := ⟨_, rfl⟩
  have hlow : lost.1.low n = m := by rw [hlost, low_loses]
  rw [posLost, ← hlost] at hexec
  obtain ⟨hdchan, hdclane⟩ := discarded_parts (s := v) (n := n) (f := CIN_DISC_SPAN.COUNT) (code := 1) (k := lost.2.1) (seq := (v.laneE n - 1).toNat)
    (chseq := lost.2.2.toNat) (c := c)
  have htaken : Frame (fun r i => (r, i) ∈ [(Reg.CIN_DISC_SPAN, c.val)] ++ logKeys) s v := by
    rw [hv]
    exact (Frame.refl s).modClane
  have hdisc : Frame (fun r i => (r, i) ∈ [(Reg.CIN_DISC_SPAN, c.val)] ++ logKeys) s (if lost.2.1 = 0 then v else
      (v.chCount CIN_DISC_SPAN.COUNT c lost.2.1).logDiscard c 1 lost.2.1 n (v.laneE n - 1).toNat lost.2.2.toNat 0) :=
    htaken.skip fun h => (h.chCount).logDiscard
  refine ⟨_, hexec, ⟨ctlIn_of_clane (hdclane.trans (by rw [hv])), ?_⟩, ?_, hdisc.modChan.settleChan.keeps⟩
  · exact ((OthersStay.of_chan (c := c) hchan).trans (.of_chan hdchan)).modChan.settleChan
  · rw [settleChan_keeps.2, State.chanOf_modChan_same]
    exact hlow

/-- A CHOPEN of an enabled channel closes it and opens it again, at CHSEQ 0 on the usable lanes of its stripe. -/
theorem chopenRecord_reopens (hctl : (s.claneOf n).ctlIn = r :: rest) (hen : s.chEn c = true) (htype : byteAt r 0 = 6) (hc : byteAt r 1 = c) :
    Completes (.chopenRecord n c) s fun t => (t.chanOf c).txNext = 0 ∧ (t.chanOf c).rxNext = 0 ∧ (t.chanOf c).ing = [] ∧
      (t.chanOf c).egr = [] ∧ (t.chanOf c).chopenDue = false ∧ (t.chanOf c).discard = true ∧ t.frozen c = false ∧
      t.fld CIN_CH_STATUS.STRIPE_NOW c = s.usable c ∧ t.fld CIN_SENT.COUNT c = 0 ∧ t.fld CIN_DELIVER.COUNT c = 0 ∧
      KeepsKinds [.CIN_CH_ACCT, .CIN_CH_STATUS, .CIN_CONS_AUDIT, .CIN_ACCEPT, .CIN_SENT, .CIN_ARRIVE, .CIN_DELIVER,
        .CIN_DISC_ING_MEM, .CIN_DISC_STORE, .CIN_DISC_EGR_MEM, .CIN_DISC_SPAN, .CIN_DISC_SHED, .CIN_DISC_EGR_OVF, .CIN_DISC_CLOSE,
        .CIN_ING_OVR, .EVL_DROPPED] s t := by
  obtain ⟨v, hv⟩ : ∃ v, v = recordTaken s n rest := ⟨_, rfl⟩
  obtain ⟨w, hw⟩ : ∃ w, w = v.closeChannel c := ⟨_, rfl⟩
  have hrecord : v.record n r = w.opening c true := by
    have hopen : v.record n r = v.chopenRecord r := by simp only [State.record, htype]
    have hen' : v.chEn c = true := by rw [hv]; exact hen
    rw [hopen, State.chopenRecord]
    rw [hc, hen', if_pos rfl, openChannel_answer, hw]
  have hexec : exec (.chopenRecord n c) s = .next (w.opening c true) := by
    rw [← hrecord, hv, ← frontRecord_named (type := 6) (names := fun r => decide (byteAt r 1 = c)) hctl htype (decide_eq_true hc)]
    rfl
  have hclose : Frame (CloseKeys c) v w := by
    rw [hw]
    exact closeChannel_frame
  have hgrants : Frame (fun r _ => r = .CIN_CH_STATUS ∨ r = .CIN_CH_ACCT) w (w.opening c true) :=
    opening_frame (.refl w) (.inl rfl) (.inr rfl) (.inr rfl)
  have husable : w.usable c = s.usable c := by
    have hstripe : w.fld CIN_CH_CFG.STRIPE c = v.fld CIN_CH_CFG.STRIPE c := hclose.fld_eq (by simp)
    have hopen : w.laneOpen = v.laneOpen := funext fun k =>
      congrArg (fun x => decide (x ≠ Stream.CLOSED)) (hclose.fld_eq (f := CIN_LANE_STATUS.TX_STREAM) (i := k) (by simp))
    rw [State.usable, hstripe, hopen, hv]
    rfl
  obtain ⟨hstripe, hfr⟩ := status_opening (s := w) (c := c) (answer := true)
  have hcount {f : Field} (hf : f ∈ [CIN_ACCEPT.COUNT, CIN_SENT.COUNT, CIN_ARRIVE.COUNT, CIN_DELIVER.COUNT, CIN_DISC_CLOSE.COUNT])
      (hout : ¬(f.reg = .CIN_CH_STATUS ∨ f.reg = .CIN_CH_ACCT)) : (w.opening c true).fld f c = 0 := by
    rw [hgrants.fld_eq hout, hw, count_closeChannel hf]
  have hkinds : Frame (fun r _ => r ∈ [Reg.CIN_CH_ACCT, .CIN_CH_STATUS, .CIN_CONS_AUDIT, .CIN_ACCEPT, .CIN_SENT, .CIN_ARRIVE, .CIN_DELIVER,
      .CIN_DISC_ING_MEM, .CIN_DISC_STORE, .CIN_DISC_EGR_MEM, .CIN_DISC_SPAN, .CIN_DISC_SHED, .CIN_DISC_EGR_OVF, .CIN_DISC_CLOSE,
      .CIN_ING_OVR, .EVL_DROPPED]) s (w.opening c true) := by
    have htaken : Frame (fun _ _ => False) s v := by
      rw [hv]
      exact (Frame.refl s).modClane
    refine ((htaken.mono fun _ _ e => e.elim).trans (hclose.mono fun q i e => ?_)).trans (hgrants.mono fun q i e => ?_)
    · rcases e with ⟨hq, -⟩ | ⟨rfl, -⟩ | rfl | rfl
      · revert q
        decide
      · decide
      · decide
      · decide
    · rcases e with rfl | rfl <;> decide
  refine ⟨_, hexec, ?_⟩
  beta_reduce
  rw [chanOf_opening]
  exact ⟨rfl, rfl, rfl, rfl, rfl, rfl, hfr.trans (by rw [hw, frozen_closeChannel]), hstripe.trans husable, hcount (by decide) (by decide),
    hcount (by decide) (by decide), hkinds.kinds⟩

/-- Settles O9: the records of a lane, type by type. -/
theorem controlRecords : Obligations.ControlRecords := by
  intro s n r rest hctl
  refine ⟨fun node htype hnode hclosed => openRecord_runs hctl node htype hnode hclosed,
    fun epoch seq htype hepoch hseq => resyncRecord_runs hctl epoch seq htype hepoch hseq, fun c hen => ⟨?_, ?_, ?_, ?_⟩⟩
  · exact fun htype hc hlost => skipRecord_passes hctl hen htype hc hlost _ rfl
  · exact fun htype hc => ⟨fun hcopy => stripeRecord_passes_copy hctl hen htype hc rfl rfl hcopy,
      fun hcopy hnew => stripeRecord_passes_fresh hctl hen htype hc rfl rfl hcopy hnew⟩
  · exact fun htype hone hc => chposRecord_passes hctl hen htype hone hc
  · exact fun htype hc => chopenRecord_reopens hctl hen htype hc

end
end Sys2Proof.Proofs
end

section
/-! PROOFS. O11: shedding and rejoining of lanes (chapter 7, R209, R229 to R231). -/
namespace Sys2Proof.Proofs
open Sys2Proof Sys2Proof.Machine Sys2Proof.Claims
set_option Elab.async false

section
variable {s t u : State} {n c : Nat}

/-! ### The front of a lane's queue of CONTROL granules -/

/-- The granule at the front of lane `n`'s queue is `p`. -/
def QueueFront (n : Nat) (p : List Byte) (s : State) : Prop := (s.claneOf n).ctlQ.head? = some p

section
variable {p q : List Byte}

theorem QueueFront.queueCtl (h : QueueFront n p s) (k : Nat) : QueueFront n p (s.queueCtl k q) := by
  unfold QueueFront State.queueCtl
  by_cases hk : n = k
  · rw [hk, State.claneOf_modClane_same]
    rw [QueueFront, hk] at h
    dsimp only
    rw [List.head?_append, h]
    rfl
  · rw [State.claneOf_modClane_other _ _ hk]
    exact h

theorem QueueFront.of_clane (h : QueueFront n p s) (hclane : t.clane = s.clane := by rfl) : QueueFront n p t := by
  unfold QueueFront State.claneOf
  rw [hclane]
  exact h

theorem QueueFront.placeChopen (h : QueueFront n p s) (c : Nat) : QueueFront n p (s.placeChopen c) := by
  unfold State.placeChopen
  split
  · exact h
  · split
    · exact h
    · exact QueueFront.queueCtl (h.of_clane (t := s.modChan c fun x => { x with chopenDue := false })) _

theorem QueueFront.changeStripe (h : QueueFront n p s) (c mask : Nat) : QueueFront n p (s.changeStripe c mask) := by
  unfold State.changeStripe
  split
  · exact h
  · refine State.each_keeps (P := QueueFront n p) (fun k _ hv => hv.queueCtl k) _ (QueueFront.placeChopen ?_ c)
    exact QueueFront.of_clane (t := ((s.modChan c _).showStripe c mask)) h

end

/-! ### A transmit stream that opens -/

/-- The transmit stream is open, from SEQ 0 on. -/
def streamSet (s : State) (n : Nat) : State :=
  ((s.setFld CIN_LANE_STATUS.TX_STREAM n Stream.OPEN).setFld CIN_LANE_SEQ.HEAD n 0).setFld CIN_LANE_EPOCH.ACTED n 0

/-- The OPEN granule that lane `n` sends. -/
def openGranule (s : State) (n : Nat) : List Byte :=
  ctlPayload [recOpen (s.fld TMB_NODE_ID.NODE_ID 0) n (s.fld HRN_GROUP_STATE.CFG_TAG (n / 2))]

/-- The lane's stream is open, its OPEN record queued. -/
def streamOpened (s : State) (n : Nat) : State := (streamSet s n).modClane n fun x =>
  { x with run := none, ctlQ := [openGranule (streamSet s n) n], dir := [], copies := [], wasSoftware := false }

/-- Lane `n` joins the stripe of channel `c`, if it is of it. -/
def joinStripe (n c : Nat) (s : State) : State :=
  if s.chEn c && (s.fld CIN_CH_CFG.STRIPE c).testBit n then s.changeStripe c (s.usable c) else s

/-- The lane of an open stream has joined its stripes. -/
def streamJoined (s : State) (n why : Nat) : State :=
  ((streamOpened s n).log Evt.CIN_LANE Subj.LINE_LANE n [1, why]).each chans256 (joinStripe n)

theorem streamOpen_exec {n : Lane} (hcinch : s.cinchLane n = true) (hclosed : s.laneOpen n = false) (hactive : s.fld LTX_STATUS.STATE n = Ltx.ACTIVE)
    (hlocked : s.locked n = true) (hfar : s.farReady n = true) (hcfg : s.flag LFEC_STATUS.CFG_MISMATCH n = false)
    (hshed : s.flag CIN_LANE_STATUS.SHED n = false) :
    ∃ why, exec (.streamOpen n) s = .next (streamJoined s n why) := by
  obtain ⟨v, hv⟩ : ∃ v, v = execStreamOpen n s := ⟨_, rfl⟩
  have hexec : exec (.streamOpen n) s = v := hv.symm
  rw [hexec, hv, execStreamOpen, hcinch, hclosed, hactive, hlocked, hfar, hcfg, hshed, if_pos (by decide)]
  exact ⟨_, rfl⟩

theorem streamOpened_shows : (streamOpened s n).txStream n = Stream.OPEN ∧ (streamOpened s n).laneHead n = 0 ∧
    (streamOpened s n).fld CIN_LANE_EPOCH.ACTED n = 0 ∧ QueueFront n (openGranule s n) (streamOpened s n) := by
  obtain ⟨v, hv⟩ : ∃ v, v = streamSet s n := ⟨_, rfl⟩
  have htx : v.fld CIN_LANE_STATUS.TX_STREAM n = Stream.OPEN := by
    rw [hv, streamSet, State.fld_setFld_of_apart _ _ _ _ (by decide), State.fld_setFld_of_apart _ _ _ _ (by decide),
      State.fld_setFld_eq _ _ _ (by decide)]
    rfl
  have hhead : v.fld CIN_LANE_SEQ.HEAD n = 0 := by
    rw [hv, streamSet, State.fld_setFld_of_apart _ _ _ _ (by decide), State.fld_setFld_eq _ _ _ (by decide)]
    rfl
  have hacted : v.fld CIN_LANE_EPOCH.ACTED n = 0 := by
    rw [hv, streamSet, State.fld_setFld_eq _ _ _ (by decide)]
    rfl
  have hset : Frame (fun r _ => r ∈ [Reg.CIN_LANE_STATUS, .CIN_LANE_SEQ, .CIN_LANE_EPOCH]) s v := by
    rw [hv]
    exact (((Frame.refl s).setFld).setFld).setFld
  have hgran : openGranule v n = openGranule s n := by
    rw [openGranule, openGranule, hset.fld_eq (by decide), hset.fld_eq (by decide)]
  have hq (f : CLaneX → CLaneX) (p : List Byte) (hf : (f (v.claneOf n)).ctlQ = [p]) : QueueFront n p (v.modClane n f) := by
    rw [QueueFront, State.claneOf_modClane_same, hf]
    rfl
  rw [streamOpened, ← hv, hgran]
  exact ⟨htx, congrArg (BitVec.ofNat 32) hhead, hacted, hq _ _ rfl⟩

theorem joinStripe_frame {P : Reg → Nat → Prop} (hu : Frame P s u) (hst : P .CIN_CH_STATUS c) : Frame P s (joinStripe n c u) :=
  hu.when fun h => h.changeStripe hst

theorem stream_opens {n : Lane} (hcinch : s.cinchLane n = true) (hclosed : s.laneOpen n = false) (hactive : s.fld LTX_STATUS.STATE n = Ltx.ACTIVE)
    (hlocked : s.locked n = true) (hfar : s.farReady n = true) (hcfg : s.flag LFEC_STATUS.CFG_MISMATCH n = false)
    (hshed : s.flag CIN_LANE_STATUS.SHED n = false) : Completes (.streamOpen n) s fun t =>
      t.txStream n = Stream.OPEN ∧ t.laneHead n = 0 ∧ t.fld CIN_LANE_EPOCH.ACTED n = 0 ∧
        (t.claneOf n).ctlQ.head? =
          some (ctlPayload [recOpen (s.fld TMB_NODE_ID.NODE_ID 0) n (s.fld HRN_GROUP_STATE.CFG_TAG (n / 2))]) ∧
        KeepsKinds [.CIN_LANE_STATUS, .CIN_LANE_SEQ, .CIN_LANE_EPOCH, .CIN_CH_STATUS, .EVL_DROPPED] s t := by
  obtain ⟨why, hexec⟩ := streamOpen_exec hcinch hclosed hactive hlocked hfar hcfg hshed
  obtain ⟨htx, hhead, hacted, hfront⟩ := streamOpened_shows (s := s) (n := n.val)
  have hjoined : Frame (fun r _ => r = .CIN_CH_STATUS ∨ r = .EVL_DROPPED) (streamOpened s n) (streamJoined s n why) :=
    ((Frame.refl _).log (.inr rfl)).each fun c _ h => joinStripe_frame h (.inl rfl)
  have hopened : Frame (fun r _ => r ∈ [Reg.CIN_LANE_STATUS, .CIN_LANE_SEQ, .CIN_LANE_EPOCH, .CIN_CH_STATUS, .EVL_DROPPED]) s (streamOpened s n) :=
    ((((Frame.refl s).setFld).setFld).setFld).modClane
  have hlog : QueueFront n (openGranule s n)
      ((streamOpened s n).log Evt.CIN_LANE Subj.LINE_LANE n [1, why]) :=
    hfront.of_clane (((Evolves.refl _).log (K := .of [.EVL_DROPPED] [.recorder])).part .clane)
  have hqueue : QueueFront n (openGranule s n) (streamJoined s n why) := by
    refine State.each_keeps (P := QueueFront n _) (fun c v hv => ?_) chans256 hlog
    rw [joinStripe]
    split
    · exact hv.changeStripe c _
    · exact hv
  have hseq : (streamJoined s n why).laneHead n = (streamOpened s n).laneHead n :=
    congrArg (BitVec.ofNat 32) (hjoined.fld_eq (f := CIN_LANE_SEQ.HEAD) (by decide))
  refine ⟨_, hexec, (hjoined.fld_eq (by decide)).trans htx, hseq.trans hhead, (hjoined.fld_eq (by decide)).trans hacted, hqueue, ?_⟩
  refine (hopened.trans (hjoined.mono fun r i e => ?_)).kinds
  rcases e with rfl | rfl <;> decide

/-! ### Shedding -/

/-- The lane's shedding is shown, counted and recorded. -/
def shedShown (s : State) (n cause : Nat) : State :=
  (((s.setFlag CIN_LANE_STATUS.SHED n true).count CIN_SHEDS.COUNT n).modClane n fun x => { x with wasSoftware := false }).log Evt.CIN_LANE
    Subj.LINE_LANE n [0, cause]

theorem shedLane_eq (cause : Nat) (hcinch : s.cinchLane n = true) (hnot : s.flag CIN_LANE_STATUS.SHED n = false) :
    s.shedLane n cause = ((shedShown s n cause).closeStreams n).stripesWithout n := by
  rw [State.shedLane, hcinch, hnot, if_neg (by decide)]
  rfl

theorem shedShown_shows (cause : Nat) : (shedShown s n cause).flag CIN_LANE_STATUS.SHED n = true ∧
    (shedShown s n cause).fld CIN_SHEDS.COUNT n = (s.fld CIN_SHEDS.COUNT n + 1) % 2 ^ CIN_SHEDS.COUNT.width ∧
    (Room s → Logged Evt.CIN_LANE Subj.LINE_LANE n [0, cause] s (shedShown s n cause)) := by
  obtain ⟨v, hv⟩ : ∃ v, v = ((s.setFlag CIN_LANE_STATUS.SHED n true).count CIN_SHEDS.COUNT n).modClane n fun x => { x with wasSoftware := false } :=
    ⟨_, rfl⟩
  have hflag : v.flag CIN_LANE_STATUS.SHED n = true := by
    have hsame : v.flag CIN_LANE_STATUS.SHED n = ((s.setFlag CIN_LANE_STATUS.SHED n true).count CIN_SHEDS.COUNT n).flag CIN_LANE_STATUS.SHED n := by
      rw [hv]
      rfl
    rw [hsame, State.flag_count_of_apart _ _ _ _ (by decide), State.flag_setFlag_eq _ _ _ (by decide)]
  have hcount : v.fld CIN_SHEDS.COUNT n = (s.fld CIN_SHEDS.COUNT n + 1) % 2 ^ CIN_SHEDS.COUNT.width := by
    have hsame : v.fld CIN_SHEDS.COUNT n = ((s.setFlag CIN_LANE_STATUS.SHED n true).count CIN_SHEDS.COUNT n).fld CIN_SHEDS.COUNT n := by
      rw [hv]
      rfl
    rw [hsame, State.fld_count_eq _ _ _ (by decide), State.fld_setFlag_of_apart _ _ _ _ (by decide)]
    rfl
  have hlog : Evolves (.of [.EVL_DROPPED] [.recorder]) v (v.log Evt.CIN_LANE Subj.LINE_LANE n [0, cause]) := (Evolves.refl v).log
  have hshow : shedShown s n cause = v.log Evt.CIN_LANE Subj.LINE_LANE n [0, cause] := by rw [hv]; rfl
  have hnow : v.now = s.now := by rw [hv]; rfl
  have hrec : v.recorder = s.recorder := by rw [hv]; rfl
  rw [hshow]
  refine ⟨(hlog.flag CIN_LANE_STATUS.SHED n).trans hflag, (hlog.fld CIN_SHEDS.COUNT n).trans hcount, fun hroom => ?_⟩
  have hroom' : Room v := by
    rw [Room, hrec]
    exact hroom
  have hlogged := (loggedAt_logAt hroom' v.now Evt.CIN_LANE Subj.LINE_LANE n [0, cause]).beside (s := s) hrec
  rw [hnow] at hlogged
  rw [State.log, hnow]
  exact hlogged

/-- Both streams of a lane that closes read CLOSED; its report of shedding stays. -/
theorem closeStreams_shows : (s.closeStreams n).txStream n = Stream.CLOSED ∧ (s.closeStreams n).rxStream n = Stream.CLOSED ∧
    (s.closeStreams n).flag CIN_LANE_STATUS.SHED n = s.flag CIN_LANE_STATUS.SHED n := by
  unfold State.closeStreams
  extract_lets opens cut tx rx
  have hcut : Frame (fun _ _ => False) s cut := (Frame.refl s).skip fun h => h.cutLane
  have hrest (v : State) (l : List Nat) : Frame (fun _ _ => False) v (v.each l fun c s => (s.modChan c fun x => { x with chopenDue := true }).placeChopen c) :=
    (Frame.refl v).each fun _ _ h => h.modChan.placeChopen
  have htx : tx.txStream n = Stream.CLOSED := by
    rw [State.txStream, State.fld_setFld_of_apart _ _ _ _ (by decide), State.fld_setFld_eq _ _ _ (by decide)]
    rfl
  have hrx : tx.rxStream n = Stream.CLOSED := by
    rw [State.rxStream, State.fld_setFld_eq _ _ _ (by decide)]
    rfl
  have hshed : tx.flag CIN_LANE_STATUS.SHED n = s.flag CIN_LANE_STATUS.SHED n := by
    rw [State.flag_setFld_of_apart _ _ _ _ (by decide), State.flag_setFld_of_apart _ _ _ _ (by decide), hcut.flag_eq not_false]
  clear_value tx
  exact ⟨((hrest _ opens).fld_eq not_false).trans htx, ((hrest _ opens).fld_eq not_false).trans hrx, ((hrest _ opens).flag_eq not_false).trans hshed⟩

/-- What a statement says of a lane that is shed with a cause. -/
def Shed (s : State) (n cause : Nat) (t : State) : Prop := t.flag CIN_LANE_STATUS.SHED n = true ∧
  t.fld CIN_SHEDS.COUNT n = (s.fld CIN_SHEDS.COUNT n + 1) % 2 ^ CIN_SHEDS.COUNT.width ∧ t.txStream n = Stream.CLOSED ∧
  t.rxStream n = Stream.CLOSED ∧ (Room s → Logged Evt.CIN_LANE Subj.LINE_LANE n [0, cause] s t) ∧
  KeepsKinds [.CIN_LANE_STATUS, .CIN_SHEDS, .CIN_LANE_CTRL, .CIN_CH_STATUS, .EVL_DROPPED] s t

theorem shedLane_sheds (cause : Nat) (hcinch : s.cinchLane n = true) (hnot : s.flag CIN_LANE_STATUS.SHED n = false) :
    Shed s n cause (s.shedLane n cause) := by
  obtain ⟨hflag, hcount, hlogged⟩ := shedShown_shows (s := s) (n := n) cause
  obtain ⟨htx, hrx, hstays⟩ := closeStreams_shows (s := shedShown s n cause) (n := n)
  have hclose : Evolves (.of [.CIN_LANE_STATUS] [.chan, .clane, .cin]) (shedShown s n cause) ((shedShown s n cause).closeStreams n) :=
    (Evolves.refl _).closeStreams
  have hstripes : Evolves (.of [.CIN_CH_STATUS] [.chan, .clane]) ((shedShown s n cause).closeStreams n) (s.shedLane n cause) := by
    rw [shedLane_eq cause hcinch hnot]
    exact (Evolves.refl _).stripesWithout
  have hall : Evolves shedLaneScope s (s.shedLane n cause) := (Evolves.refl s).shedLane
  refine ⟨(hstripes.flag CIN_LANE_STATUS.SHED n).trans (hstays.trans hflag),
    (hstripes.fld CIN_SHEDS.COUNT n).trans ((hclose.fld CIN_SHEDS.COUNT n).trans hcount),
    (hstripes.fld CIN_LANE_STATUS.TX_STREAM n).trans htx, (hstripes.fld CIN_LANE_STATUS.RX_STREAM n).trans hrx,
    fun hroom => (hlogged hroom).beside rfl ((hstripes.part .recorder).trans (hclose.part .recorder)),
    hall.kinds (rs := [.CIN_LANE_STATUS, .CIN_SHEDS, .CIN_LANE_CTRL, .CIN_CH_STATUS, .EVL_DROPPED])⟩

/-- A lane shed after its control register was written is shed from the state before. -/
theorem Shed.before {cause : Nat} {f : Field} (hf : f.reg = .CIN_LANE_CTRL) (x : Nat) (h : Shed (s.setFld f n x) n cause t) : Shed s n cause t := by
  obtain ⟨hflag, hcount, htx, hrx, hlog, hkinds⟩ := h
  have hset : Frame (fun r _ => r ∈ [Reg.CIN_LANE_STATUS, .CIN_SHEDS, .CIN_LANE_CTRL, .CIN_CH_STATUS, .EVL_DROPPED]) s (s.setFld f n x) :=
    (Frame.refl s).setFld (by rw [hf]; decide)
  have hsheds : (s.setFld f n x).fld CIN_SHEDS.COUNT n = s.fld CIN_SHEDS.COUNT n :=
    State.fld_congr (State.reg_setFld_other _ _ _ _ (by rw [hf]; decide))
  exact ⟨hflag, hcount.trans (by rw [hsheds]), htx, hrx, hlog, (hset.trans (.of_kinds hkinds)).kinds⟩

/-- A lane's service and its group are up as the group's state says. -/
theorem cinchLane_congr (h : t.reg .HRN_GROUP_STATE (n / 2) = s.reg .HRN_GROUP_STATE (n / 2)) : t.cinchLane n = s.cinchLane n := by
  have hfld (f : Field) (hf : f.reg = .HRN_GROUP_STATE) : t.fld f (n / 2) = s.fld f (n / 2) := State.fld_congr (by rw [hf]; exact h)
  rw [State.cinchLane, State.cinchLane, State.svc, State.svc, State.groupUp, State.groupUp, hfld _ rfl, hfld _ rfl]

theorem shed_lol {n : Lane} (hlocked : s.locked n = false) (hcinch : s.cinchLane n = true) (hnot : s.flag CIN_LANE_STATUS.SHED n = false) :
    Completes (.shedLolExpiry n) s (Shed s n 1) := by
  have hexec : exec (.shedLolExpiry n) s = .next (s.shedLane n 1) := congrArg Host.Outcome.next (if_neg (by rw [hlocked]; decide))
  exact ⟨_, hexec, shedLane_sheds 1 hcinch hnot⟩

/-- A write of SHED that keeps the other fields of the control register. -/
theorem laneCtrl_write (x : Nat) : plainWrite .CIN_LANE_CTRL n (withField (s.writeBack .CIN_LANE_CTRL n) CIN_LANE_CTRL.SHED x) s =
    s.setFld CIN_LANE_CTRL.SHED n x :=
  plainWrite_writeBack_eq_setFld s (f := CIN_LANE_CTRL.SHED) (acc := .rw) n x (by decide) (.inl rfl)

/-- What a write of SHED makes of the lane before its signal fail is looked at. -/
def shedWritten (n : Nat) (was now : Bool) (s : State) : State :=
  if !was && now then s.shedLane n 5 else if was && !now then s.modClane n fun x => { x with wasSoftware := true } else s

theorem wrCinLaneCtrl_shed (x : Nat) : (wrCinLaneCtrl n (withField (s.writeBack .CIN_LANE_CTRL n) CIN_LANE_CTRL.SHED x) s).1 =
    let u := shedWritten n (s.flag CIN_LANE_CTRL.SHED n) (decide (x % 2 = 1)) (s.setFld CIN_LANE_CTRL.SHED n x)
    if u.flag LFEC_STATUS.SF n then u.shedOnSf n 2 else u := by
  have hfield : fieldOf (withField (s.writeBack .CIN_LANE_CTRL n) CIN_LANE_CTRL.SHED x) CIN_LANE_CTRL.SHED = x % 2 :=
    fieldOf_withField_same _ _ (by decide) (by decide)
  rw [wrCinLaneCtrl, laneCtrl_write, hfield]
  rfl

/-- A lane that is shed is not shed again. -/
theorem shedOnSf_of_shed (cause : Nat) (h : s.flag CIN_LANE_STATUS.SHED n = true) : s.shedOnSf n cause = s := by
  rw [State.shedOnSf, State.shedLane, h, Bool.or_true, if_pos rfl, ite_self]

theorem shed_written {n : Lane} {p : Path} (hacc : Accepts s p .CIN_LANE_CTRL n) (hcinch : s.cinchLane n = true)
    (hnot : s.flag CIN_LANE_STATUS.SHED n = false) (hctrl : s.flag CIN_LANE_CTRL.SHED n = false) :
    Completes (.cinShedWrite p n) s fun t => Shed s n 5 t ∧ t.flag CIN_LANE_CTRL.SHED n = true := by
  obtain ⟨w, hw⟩ : ∃ w, w = s.setFld CIN_LANE_CTRL.SHED n 1 := ⟨_, rfl⟩
  have hset : Frame (fun r _ => r = .CIN_LANE_CTRL) s w := by
    rw [hw]
    exact (Frame.refl s).setFld rfl
  have hcinch' : w.cinchLane n = true := (cinchLane_congr (hset.reg_eq (by decide))).trans hcinch
  have hshed : Shed w n 5 (w.shedLane n 5) := shedLane_sheds 5 hcinch' ((hset.flag_eq (by decide)).trans hnot)
  have hexec : exec (.cinShedWrite p n) s = .next (w.shedLane n 5) := by
    refine (writeCommand_accepted _ hacc).trans (congrArg _ ?_)
    have hdone : shedWritten n false (decide (1 % 2 = 1)) w = w.shedLane n 5 := rfl
    rw [wrCinLaneCtrl_shed, hctrl, ← hw, hdone]
    dsimp only
    rw [shedOnSf_of_shed 2 hshed.1, ite_self]
  have hctrl' : (w.shedLane n 5).flag CIN_LANE_CTRL.SHED n = w.flag CIN_LANE_CTRL.SHED n :=
    ((Evolves.refl w).shedLane (K := shedLaneScope)).flag CIN_LANE_CTRL.SHED n
  refine ⟨_, hexec, Shed.before (f := CIN_LANE_CTRL.SHED) rfl 1 (by rw [← hw]; exact hshed), hctrl'.trans ?_⟩
  rw [hw]
  exact State.flag_setFlag_eq (b := true) _ _ (by decide)

/-- The lane may rejoin once SHED is written 0; SHED gone from 1 is remembered as software's. -/
theorem unshed_state (n : Nat) : shedWritten n (s.flag CIN_LANE_CTRL.SHED n) (decide (0 % 2 = 1)) u =
    if s.flag CIN_LANE_CTRL.SHED n then u.modClane n fun x => { x with wasSoftware := true } else u := by
  rw [shedWritten]
  cases s.flag CIN_LANE_CTRL.SHED n <;> rfl

theorem unshed_exec {n : Lane} {p : Path} (hacc : Accepts s p .CIN_LANE_CTRL n) : exec (.cinUnshedWrite p n) s = .next (
    let u := if s.flag CIN_LANE_CTRL.SHED n then (s.setFld CIN_LANE_CTRL.SHED n 0).modClane n fun x => { x with wasSoftware := true }
      else s.setFld CIN_LANE_CTRL.SHED n 0
    if u.flag LFEC_STATUS.SF n then u.shedOnSf n 2 else u) := by
  refine (writeCommand_accepted _ hacc).trans (congrArg _ ?_)
  rw [wrCinLaneCtrl_shed, unshed_state]

theorem unshed_written {n : Lane} {p : Path} (hacc : Accepts s p .CIN_LANE_CTRL n) (hsf : s.flag LFEC_STATUS.SF n = false) :
    Completes (.cinUnshedWrite p n) s fun t => t.flag CIN_LANE_CTRL.SHED n = false ∧ Keeps [(.CIN_LANE_CTRL, n)] s t ∧
      (s.flag CIN_LANE_CTRL.SHED n = true → (t.claneOf n).wasSoftware = true) := by
  obtain ⟨w, hw⟩ : ∃ w, w = s.setFld CIN_LANE_CTRL.SHED n 0 := ⟨_, rfl⟩
  obtain ⟨u, hu⟩ : ∃ u, u = if s.flag CIN_LANE_CTRL.SHED n then w.modClane n fun x => { x with wasSoftware := true } else w := ⟨_, rfl⟩
  have hset : Frame (fun r i => (r, i) ∈ [(Reg.CIN_LANE_CTRL, n.val)]) s w := by
    rw [hw]
    exact (Frame.refl s).setFld
  have hregs : u.regs = w.regs := by
    rw [hu]
    split <;> rfl
  have hframe : Frame (fun r i => (r, i) ∈ [(Reg.CIN_LANE_CTRL, n.val)]) s u := by
    rw [hu]
    exact hset.when fun h => h.modClane
  have hexec := unshed_exec hacc
  rw [← hw, ← hu] at hexec
  dsimp only at hexec
  rw [hframe.flag_eq (by simp), hsf, if_neg Bool.false_ne_true] at hexec
  have hoff : u.flag CIN_LANE_CTRL.SHED n = w.flag CIN_LANE_CTRL.SHED n := State.flag_congr (by rw [State.reg, State.reg, hregs])
  refine ⟨_, hexec, hoff.trans ?_, hframe.keeps, fun hwas => ?_⟩
  · rw [hw]
    exact State.flag_setFlag_eq (b := false) _ _ (by decide)
  · rw [hu, hwas, if_pos rfl, State.claneOf_modClane_same]

theorem unshed_in_fail {n : Lane} {p : Path} (hacc : Accepts s p .CIN_LANE_CTRL n) (hsf : s.flag LFEC_STATUS.SF n = true)
    (hon : s.flag CIN_LANE_CTRL.SHED_ON_SF n = true) (hcinch : s.cinchLane n = true) (hnot : s.flag CIN_LANE_STATUS.SHED n = false) :
    Completes (.cinUnshedWrite p n) s fun t => Shed s n 2 t ∧ t.flag CIN_LANE_CTRL.SHED n = false := by
  obtain ⟨w, hw⟩ : ∃ w, w = s.setFld CIN_LANE_CTRL.SHED n 0 := ⟨_, rfl⟩
  obtain ⟨u, hu⟩ : ∃ u, u = if s.flag CIN_LANE_CTRL.SHED n then w.modClane n fun x => { x with wasSoftware := true } else w := ⟨_, rfl⟩
  have hset : Frame (fun r _ => r = .CIN_LANE_CTRL) s w := by
    rw [hw]
    exact (Frame.refl s).setFld rfl
  have hframe : Frame (fun r _ => r = .CIN_LANE_CTRL) s u := by
    rw [hu]
    exact hset.when fun h => h.modClane
  have hbeside : u.regs = w.regs ∧ u.recorder = w.recorder ∧ u.now = w.now ∧ u.mem = w.mem ∧ u.flash = w.flash := by
    rw [hu]
    split
    · exact ⟨rfl, rfl, rfl, rfl, rfl⟩
    · exact ⟨rfl, rfl, rfl, rfl, rfl⟩
  obtain ⟨hregs, hrec, hnow, hmem, hflash⟩ := hbeside
  have hsfed : u.flag LFEC_STATUS.SF n = true := (hframe.flag_eq (by decide)).trans hsf
  have honed : u.flag CIN_LANE_CTRL.SHED_ON_SF n = true := by
    have hsame : u.flag CIN_LANE_CTRL.SHED_ON_SF n = w.flag CIN_LANE_CTRL.SHED_ON_SF n := State.flag_congr (by rw [State.reg, State.reg, hregs])
    rw [hsame, hw, State.flag_setFld_of_apart _ _ _ _ (by decide), hon]
  have hexec := unshed_exec hacc
  rw [← hw, ← hu] at hexec
  dsimp only at hexec
  rw [hsfed, if_pos rfl, State.shedOnSf, honed, if_pos rfl] at hexec
  have hcinch' : u.cinchLane n = true := (cinchLane_congr (hframe.reg_eq (by decide))).trans hcinch
  obtain ⟨hflag, hcount, htx, hrx, hlog, hkinds⟩ := shedLane_sheds (s := u) (n := n) 2 hcinch' ((hframe.flag_eq (by decide)).trans hnot)
  have hctrl : (u.shedLane n 2).flag CIN_LANE_CTRL.SHED n = u.flag CIN_LANE_CTRL.SHED n :=
    ((Evolves.refl u).shedLane (K := shedLaneScope)).flag CIN_LANE_CTRL.SHED n
  have hoff : u.flag CIN_LANE_CTRL.SHED n = w.flag CIN_LANE_CTRL.SHED n := State.flag_congr (by rw [State.reg, State.reg, hregs])
  have hbefore : Shed w n 2 (u.shedLane n 2) := by
    have hw' : Frame (fun r _ => r ∈ [Reg.CIN_LANE_STATUS, .CIN_SHEDS, .CIN_LANE_CTRL, .CIN_CH_STATUS, .EVL_DROPPED]) w u :=
      (Frame.refl w).same hregs hmem hflash
    have hsheds : u.fld CIN_SHEDS.COUNT n = w.fld CIN_SHEDS.COUNT n := State.fld_congr (by rw [State.reg, State.reg, hregs])
    refine ⟨hflag, hcount.trans (by rw [hsheds]), htx, hrx, fun hroom => ?_, (hw'.trans (.of_kinds hkinds)).kinds⟩
    have hlogged := (hlog (by rw [Room, hrec]; exact hroom)).beside (s := w) (t := u.shedLane n 2) hrec
    rw [hnow] at hlogged
    exact hlogged
  refine ⟨_, hexec, Shed.before (f := CIN_LANE_CTRL.SHED) rfl 0 (by rw [← hw]; exact hbefore), hctrl.trans (hoff.trans ?_)⟩
  rw [hw]
  exact State.flag_setFlag_eq (b := false) _ _ (by decide)

theorem rejoined {n : Lane} (hcinch : s.cinchLane n = true) (hlocked : s.locked n = true) (hsf : s.flag LFEC_STATUS.SF n = false)
    (hfar : (s.fld LFEC_FAR_STATUS.PAYLOAD n).testBit 23 = true) (hctrl : s.flag CIN_LANE_CTRL.SHED n = false) :
    Completes (.rejoin n) s fun t => t.flag CIN_LANE_STATUS.SHED n = false ∧ Keeps [(.CIN_LANE_STATUS, n)] s t := by
  have hexec : exec (.rejoin n) s = .next (s.setFlag CIN_LANE_STATUS.SHED n false) :=
    congrArg Host.Outcome.next (if_pos (by rw [hcinch, hlocked, hsf, hfar, hctrl]; rfl))
  have hframe : Frame (fun r i => (r, i) ∈ [(Reg.CIN_LANE_STATUS, n.val)]) s (s.setFlag CIN_LANE_STATUS.SHED n false) := (Frame.refl s).setFlag
  exact ⟨_, hexec, State.flag_setFlag_eq _ _ _ (by decide), hframe.keeps⟩

/-- Shedding and rejoining, each clause by its lemma. -/
theorem shedAndRejoin : Sys2Proof.Claims.ShedAndRejoin := fun _ _ =>
  ⟨fun hcinch hclosed hactive hlocked hfar hcfg hshed => stream_opens hcinch hclosed hactive hlocked hfar hcfg hshed,
    fun hlocked hcinch hnot => shed_lol hlocked hcinch hnot,
    fun _ hacc => ⟨fun hcinch hnot hctrl => shed_written hacc hcinch hnot hctrl, fun hsf => unshed_written hacc hsf,
      fun hsf hon hcinch hnot => unshed_in_fail hacc hsf hon hcinch hnot⟩,
    fun hcinch hlocked hsf hfar hctrl => rejoined hcinch hlocked hsf hfar hctrl⟩

end
end Sys2Proof.Proofs
end

section
/-! PROOFS. O11: channels that open, close and change their stripe (chapter 7, R219, R234, R237). -/
namespace Sys2Proof.Proofs
open Sys2Proof Sys2Proof.Machine Sys2Proof.Claims
set_option Elab.async false

section
variable {s t u : State} {p : Path} {c : Nat}

/-! ### A write of the configuration -/

/-- The configuration register of channel `c` as a write leaves it. -/
def chCfgSet (s : State) (c lc w m : Nat) (en : Bool) : State :=
  (((s.setFld CIN_CH_CFG.LINE_CREDIT c lc).setFld CIN_CH_CFG.WEIGHT c w).setFld CIN_CH_CFG.STRIPE c m).setFlag CIN_CH_CFG.EN c en

section
variable {lc w m : Nat} {en : Bool}

theorem chCfgSet_frame : Frame (fun r i => r = .CIN_CH_CFG ∧ i = c) s (chCfgSet s c lc w m en) :=
  ((((Frame.refl s).setFld ⟨rfl, rfl⟩).setFld ⟨rfl, rfl⟩).setFld ⟨rfl, rfl⟩).setFlag ⟨rfl, rfl⟩

theorem chCfgSet_shows : (chCfgSet s c lc w m en).chEn c = en ∧ (chCfgSet s c lc w m en).fld CIN_CH_CFG.STRIPE c = m % 2 ^ CIN_CH_CFG.STRIPE.width ∧
    (chCfgSet s c lc w m en).fld CIN_CH_CFG.LINE_CREDIT c = lc % 2 := by
  refine ⟨State.flag_setFlag_eq _ _ _ (by decide), ?_, ?_⟩
  · rw [chCfgSet, State.fld_setFlag_of_apart _ _ _ _ (by decide), State.fld_setFld_eq _ _ _ (by decide)]
    rfl
  · rw [chCfgSet, State.fld_setFlag_of_apart _ _ _ _ (by decide), State.fld_setFld_of_apart _ _ _ _ (by decide),
      State.fld_setFld_of_apart _ _ _ _ (by decide), State.fld_setFld_eq _ _ _ (by decide)]
    rfl

theorem chCfgSet_chan : (chCfgSet s c lc w m en).chan = s.chan := rfl

end

/-- What a legal value of the configuration register says. -/
structure ChCfgValue (s : State) (v lc w m : Nat) : Prop where
  weight : fieldOf v CIN_CH_CFG.WEIGHT = w
  stripe : fieldOf v CIN_CH_CFG.STRIPE = m
  credit : fieldOf v CIN_CH_CFG.LINE_CREDIT = lc
  weighs : w ≠ 0
  wide : m ≠ 0
  lanes : ∀ n ∈ maskLanes m, s.cinchLane n = true

section
variable {v lc w m : Nat}

theorem ChCfgValue.legal (h : ChCfgValue s v lc w m) : ¬(fieldOf v CIN_CH_CFG.WEIGHT = 0 ∨ fieldOf v CIN_CH_CFG.STRIPE = 0 ∨
    ((maskLanes (fieldOf v CIN_CH_CFG.STRIPE)).any fun n => !s.cinchLane n) = true) := by
  obtain ⟨hw, hm, -, hweighs, hwide, hlanes⟩ := h
  rw [hw, hm, List.any_eq_true]
  rintro (h0 | h0 | ⟨n, hn, hbad⟩)
  · exact hweighs h0
  · exact hwide h0
  · rw [hlanes n hn] at hbad
    exact Bool.noConfusion hbad

/-- A legal write of a channel that is not enabled and is to be opens it. -/
theorem wrCinChCfg_opens (h : ChCfgValue s v lc w m) (hwas : s.chEn c = false) (hen : fieldOf v CIN_CH_CFG.EN = 1) :
    (wrCinChCfg p c v s).1 = (chCfgSet s c lc w m true).openChannel c := by
  rw [wrCinChCfg, if_neg h.legal, hwas, hen, h.weight, h.stripe, h.credit]
  rfl

/-- A legal write that clears EN of an enabled channel and keeps LINE_CREDIT closes it. -/
theorem wrCinChCfg_closes (h : ChCfgValue s v lc w m) (hwas : s.chEn c = true) (hen : fieldOf v CIN_CH_CFG.EN = 0)
    (hsame : lc = s.fld CIN_CH_CFG.LINE_CREDIT c) : (wrCinChCfg p c v s).1 = chCfgSet (s.closeChannel c) c lc w m false := by
  have hkept : decide (lc ≠ s.fld CIN_CH_CFG.LINE_CREDIT c) = false := decide_eq_false fun e => e hsame
  rw [wrCinChCfg, if_neg h.legal, hwas, hen, h.weight, h.stripe, h.credit]
  dsimp only
  rw [hkept]
  rfl

/-- A legal write that keeps EN and LINE_CREDIT takes the values; an enabled channel goes over to the usable lanes. -/
theorem wrCinChCfg_keeps (h : ChCfgValue s v lc w m) (hen : fieldOf v CIN_CH_CFG.EN = s.fld CIN_CH_CFG.EN c)
    (hsame : lc = s.fld CIN_CH_CFG.LINE_CREDIT c) : (wrCinChCfg p c v s).1 = if s.chEn c then
      (chCfgSet s c lc w m (s.chEn c)).changeStripe c ((chCfgSet s c lc w m (s.chEn c)).usable c) else chCfgSet s c lc w m (s.chEn c) := by
  have hkept : decide (lc ≠ s.fld CIN_CH_CFG.LINE_CREDIT c) = false := decide_eq_false fun e => e hsame
  have hstays : decide (fieldOf v CIN_CH_CFG.EN = 1) = s.chEn c := by
    rw [hen]
    exact decide_fld_one (f := CIN_CH_CFG.EN) rfl s c
  rw [wrCinChCfg, if_neg h.legal, hstays, h.weight, h.stripe, h.credit]
  dsimp only
  rw [hkept]
  cases s.chEn c <;> rfl

end

/-- Of the value that software writes back with one field changed, the other writable fields read as the register holds them. -/
theorem chCfgValue_apart (s : State) (c x : Nat) {f g : Field} (h : g.hi < f.lo ∨ f.hi < g.lo) (hf : f.lo ≤ f.hi ∧ f.hi < 512)
    (hg : g.has .rw) (hreg : g.reg = .CIN_CH_CFG) : fieldOf (withField (s.writeBack .CIN_CH_CFG c) f x) g = s.fld g c :=
  (fieldOf_withField_apart _ _ (s.writeBack_lt .CIN_CH_CFG c (by decide)) hf.1 hf.2 h hg.2.1).trans
    (hreg ▸ fieldOf_writeBack s c hg (.inl rfl))

/-! ### A channel that closes -/

/-- What a statement says of a channel that has closed. -/
def ClosedShows (s : State) (c : Chan) (t : State) : Prop := t.chEn c = false ∧ t.chanOf c = {} ∧ t.frozen c = false ∧
  (∀ f ∈ [CIN_ACCEPT.COUNT, CIN_SENT.COUNT, CIN_ARRIVE.COUNT, CIN_DELIVER.COUNT, CIN_DISC_CLOSE.COUNT], t.fld f c = 0) ∧
  (∀ i : Fin 16, t.acct c i = 0) ∧ (∀ a, t.memByte a = s.memByte a) ∧
  ∀ d : Chan, d ≠ c → t.chEn d = s.chEn d ∧ ∀ i : Fin 16, t.acct d i = s.acct d i

theorem closedShows_of_frame {c : Chan} (h : Frame (fun r i => r = .CIN_CH_CFG ∧ i = c.val) (s.closeChannel c) t) (hen : t.chEn c = false)
    (hchan : t.chan = (s.closeChannel c).chan) : ClosedShows s c t := by
  have hclose := closeChannel_frame (s := s) (c := c.val)
  have hfr : t.frozen c = (s.closeChannel c).frozen c := h.flag_eq fun e => absurd e.1 (by decide)
  have hcount (f : Field) (hf : f ∈ [CIN_ACCEPT.COUNT, CIN_SENT.COUNT, CIN_ARRIVE.COUNT, CIN_DELIVER.COUNT, CIN_DISC_CLOSE.COUNT]) :
      t.fld f c = 0 := by
    have hreg : f.reg ≠ .CIN_CH_CFG := by
      simp only [List.mem_cons, List.not_mem_nil, or_false] at hf
      rcases hf with rfl | rfl | rfl | rfl | rfl <;> decide
    exact (h.fld_eq fun e => hreg e.1).trans (count_closeChannel hf)
  refine ⟨hen, (congrArg (Tab.get _ · c.val) hchan).trans chanOf_closeChannel, hfr.trans frozen_closeChannel, hcount, fun i => ?_,
    fun a => (h.2.1 a).trans (hclose.2.1 a), fun d hd => ⟨?_, fun i => ?_⟩⟩
  · exact (h.fld_eq (f := CIN_CH_ACCT.TOTAL) fun e => absurd e.1 (by decide)).trans (acct_closeChannel i.isLt)
  · have hne : d.val ≠ c.val := fun e => hd (Fin.ext e)
    exact (h.flag_eq (f := CIN_CH_CFG.EN) fun e => hne e.2).trans (hclose.flag_eq (by simp))
  · have hne : d.val ≠ c.val := fun e => hd (Fin.ext e)
    have hi := i.isLt
    refine (h.fld_eq (f := CIN_CH_ACCT.TOTAL) fun e => absurd e.1 (by decide)).trans (hclose.fld_eq ?_)
    have hapart : (16 * d.val + i.val) / 16 ≠ c.val := by omega
    simp [hapart]

section
variable {c : Chan}

theorem channel_closes (hacc : Accepts s p .CIN_CH_CFG c) (hen : s.chEn c = true) (hweight : s.fld CIN_CH_CFG.WEIGHT c ≠ 0)
    (hstripe : s.fld CIN_CH_CFG.STRIPE c ≠ 0) (hlanes : ∀ n ∈ maskLanes (s.fld CIN_CH_CFG.STRIPE c), s.cinchLane n = true) :
    Completes (.channelClose p c) s (ClosedShows s c) := by
  obtain ⟨v, hv⟩ : ∃ v, v = withField (s.writeBack .CIN_CH_CFG c) CIN_CH_CFG.EN 0 := ⟨_, rfl⟩
  have hvalue : ChCfgValue s v (s.fld CIN_CH_CFG.LINE_CREDIT c) (s.fld CIN_CH_CFG.WEIGHT c) (s.fld CIN_CH_CFG.STRIPE c) := by
    rw [hv]
    exact ⟨chCfgValue_apart s c 0 (by decide) (by decide) (by decide) rfl, chCfgValue_apart s c 0 (by decide) (by decide) (by decide) rfl,
      chCfgValue_apart s c 0 (by decide) (by decide) (by decide) rfl, hweight, hstripe, hlanes⟩
  have hoff : fieldOf v CIN_CH_CFG.EN = 0 := by
    rw [hv]
    exact fieldOf_withField_same _ _ (by decide) (by decide)
  have hexec : exec (.channelClose p c) s = .next (chCfgSet (s.closeChannel c) c (s.fld CIN_CH_CFG.LINE_CREDIT c) (s.fld CIN_CH_CFG.WEIGHT c)
      (s.fld CIN_CH_CFG.STRIPE c) false) := by
    rw [← wrCinChCfg_closes (p := p) hvalue hen hoff rfl, hv]
    exact writeCommand_accepted _ hacc
  exact ⟨_, hexec, closedShows_of_frame chCfgSet_frame chCfgSet_shows.1 chCfgSet_chan⟩

/-- The value of a write of CLR_CH. -/
theorem clrCh_fields (c : Chan) : fieldOf (c.val * 256 + 1) CIN_CONS_AUDIT.CLR_CH = c.val ∧ fieldOf (c.val * 256 + 1) CIN_CONS_AUDIT.CLR_GO = 1 := by
  have hc := c.isLt
  simp only [fieldOf, Field.width, Nat.shiftRight_eq_div_pow]
  omega

theorem channel_cleared (hacc : Accepts s p .CIN_CONS_AUDIT 0) (hen : s.chEn c = true) : Completes (.clrCh p c) s (ClosedShows s c) := by
  have hexec : exec (.clrCh p c) s = .next ((s.closeChannel c).setFlag CIN_CH_CFG.EN c false) := by
    obtain ⟨hch, hgo⟩ := clrCh_fields c
    refine (writeCommand_accepted _ hacc).trans (congrArg _ ?_)
    rw [wrCinConsAudit, hch, hgo, if_pos rfl, hen, if_pos rfl]
  have hframe : Frame (fun r i => r = .CIN_CH_CFG ∧ i = c.val) (s.closeChannel c) ((s.closeChannel c).setFlag CIN_CH_CFG.EN c false) :=
    (Frame.refl _).setFlag ⟨rfl, rfl⟩
  exact ⟨_, hexec, closedShows_of_frame hframe (State.flag_setFlag_eq _ _ _ (by decide)) (State.setFlag_chan ..)⟩

end

/-! ### A channel that opens -/

theorem ctlPayload_bytes (c : Chan) : byteAt (ctlPayload [recChopen c]) 0 = 6 ∧ byteAt (ctlPayload [recChopen c]) 1 = c := by
  have hc : (BitVec.ofNat 8 c.val).toNat = c.val := Nat.mod_eq_of_lt c.isLt
  exact ⟨rfl, hc⟩

/-- A CHOPEN that is due waits wherever it is placed. -/
theorem chopenWaits_placeChopen {c : Chan} (hdue : (s.chanOf c).chopenDue = true) : (s.placeChopen c).chopenWaits c = true := by
  rw [State.placeChopen, hdue, if_neg (by decide)]
  split
  · rw [State.chopenWaits, hdue, Bool.true_or]
  · next n hn =>
    obtain ⟨htype, hchan⟩ := ctlPayload_bytes c
    have hlane : n ∈ lanes16 := (List.mem_filter.1 (List.mem_of_find?_eq_some hn)).1
    rw [State.chopenWaits, Bool.or_eq_true, List.any_eq_true]
    refine .inr ⟨n, hlane, ?_⟩
    rw [State.queueCtl, State.claneOf_modClane_same, List.any_append, List.any_cons, htype, hchan]
    simp

/-- The CHOPEN's place does not matter to the channel. -/
theorem chanOf_placeChopen : ((s.placeChopen c).chanOf c).txNext = (s.chanOf c).txNext ∧ ((s.placeChopen c).chanOf c).discard = (s.chanOf c).discard := by
  rw [State.placeChopen]
  split
  · exact ⟨rfl, rfl⟩
  split
  · exact ⟨rfl, rfl⟩
  · have hqueue (v : State) (n : Nat) (g : List Byte) : (v.queueCtl n g).chanOf c = v.chanOf c := rfl
    rw [hqueue, State.chanOf_modChan_same]
    exact ⟨rfl, rfl⟩

theorem flag_of_fld_mod {f : Field} {i : Nat} (b : Bool) (h : s.fld f i = (if b then 1 else 0) % 2) : s.flag f i = b := by
  rw [State.flag, h]
  cases b <;> rfl

theorem channel_opens {c : Chan} (lc : Bool) (hacc : Accepts s p .CIN_CH_CFG c) (hoff : s.chEn c = false) (hweight : s.fld CIN_CH_CFG.WEIGHT c ≠ 0)
    (hstripe : s.fld CIN_CH_CFG.STRIPE c ≠ 0) (hlanes : ∀ n ∈ maskLanes (s.fld CIN_CH_CFG.STRIPE c), s.cinchLane n = true) :
    Completes (.channelOpen p c lc) s fun t => t.chEn c = true ∧ t.lineCredit c = lc ∧ (t.chanOf c).txNext = 0 ∧
      (t.chanOf c).discard = true ∧ t.chopenWaits c = true ∧ t.fld CIN_CH_STATUS.STRIPE_NOW c = s.usable c ∧
      KeepsKinds [.CIN_CH_CFG, .CIN_CH_STATUS, .CIN_CH_ACCT] s t := by
  obtain ⟨e, he⟩ : ∃ e, e = withField (s.writeBack .CIN_CH_CFG c) CIN_CH_CFG.EN 1 := ⟨_, rfl⟩
  obtain ⟨b, hb⟩ : ∃ b : Nat, b = if lc then 1 else 0 := ⟨_, rfl⟩
  have hother {g : Field} (hcredit : g.hi < CIN_CH_CFG.LINE_CREDIT.lo ∨ CIN_CH_CFG.LINE_CREDIT.hi < g.lo) (hg : g.has .rw) :
      fieldOf (withField e CIN_CH_CFG.LINE_CREDIT b) g = fieldOf e g :=
    fieldOf_withField_apart _ _ (by rw [he]; exact withField_lt _ _ _) (by decide) (by decide) hcredit hg.2.1
  have hkept {g : Field} (hen : g.hi < CIN_CH_CFG.EN.lo ∨ CIN_CH_CFG.EN.hi < g.lo) (hg : g.has .rw) (hreg : g.reg = .CIN_CH_CFG) :
      fieldOf e g = s.fld g c := by
    rw [he]
    exact chCfgValue_apart s c 1 hen (by decide) hg hreg
  have hvalue : ChCfgValue s (withField e CIN_CH_CFG.LINE_CREDIT b) (b % 2) (s.fld CIN_CH_CFG.WEIGHT c) (s.fld CIN_CH_CFG.STRIPE c) :=
    ⟨(hother (by decide) (by decide)).trans (hkept (by decide) (by decide) rfl), (hother (by decide) (by decide)).trans (hkept (by decide) (by decide) rfl),
      fieldOf_withField_same _ _ (by decide) (by decide), hweight, hstripe, hlanes⟩
  have hon : fieldOf (withField e CIN_CH_CFG.LINE_CREDIT b) CIN_CH_CFG.EN = 1 := by
    rw [hother (by decide) (by decide), he]
    exact fieldOf_withField_same _ _ (by decide) (by decide)
  obtain ⟨w, hw⟩ : ∃ w, w = chCfgSet s c (b % 2) (s.fld CIN_CH_CFG.WEIGHT c) (s.fld CIN_CH_CFG.STRIPE c) true := ⟨_, rfl⟩
  have hexec : exec (.channelOpen p c lc) s = .next (w.openChannel c) := by
    rw [hw, ← wrCinChCfg_opens (p := p) hvalue hoff hon, he, hb]
    exact writeCommand_accepted _ hacc
  have hset : Frame (fun r i => r = .CIN_CH_CFG ∧ i = c.val) s w := by
    rw [hw]
    exact chCfgSet_frame
  obtain ⟨hwen, hwstripe, hwcredit⟩ := chCfgSet_shows (s := s) (c := c.val) (lc := b % 2) (w := s.fld CIN_CH_CFG.WEIGHT c)
    (m := s.fld CIN_CH_CFG.STRIPE c) (en := true)
  rw [← hw] at hwen hwstripe hwcredit
  have hopen : Frame (fun r _ => r = .CIN_CH_STATUS ∨ r = .CIN_CH_ACCT) w (w.openChannel c) :=
    openChannel_frame (.refl w) (.inl rfl) (.inr rfl) (.inr rfl)
  have hplace : Frame (fun _ _ => False) (w.opening c false) (w.openChannel c) := Frame.placeChopen (.refl _)
  have husable : w.usable c = s.usable c := by
    have hlane : w.laneOpen = s.laneOpen := funext fun k =>
      congrArg (fun x => decide (x ≠ Stream.CLOSED)) (hset.fld_eq (f := CIN_LANE_STATUS.TX_STREAM) (i := k) (by simp))
    rw [State.usable, State.usable, hwstripe, hlane, Nat.mod_eq_of_lt (s.fld_lt CIN_CH_CFG.STRIPE c)]
  have hchan := chanOf_opening (s := w) (c := c) (answer := false)
  obtain ⟨htx, hdisc⟩ := chanOf_placeChopen (s := w.opening c false) (c := c)
  rw [hchan] at htx hdisc
  have hwaits : (w.openChannel c).chopenWaits c = true := by
    rw [State.openChannel_eq]
    exact chopenWaits_placeChopen (congrArg ChanX.chopenDue hchan)
  have hcredit : w.lineCredit c = lc := flag_of_fld_mod lc (by rw [hwcredit, hb, Nat.mod_mod])
  have hall : Frame (fun r _ => r ∈ [Reg.CIN_CH_CFG, .CIN_CH_STATUS, .CIN_CH_ACCT]) s (w.openChannel c) := by
    refine (hset.mono fun r i e => ?_).trans (hopen.mono fun r i e => ?_)
    · rw [e.1]
      decide
    · rcases e with rfl | rfl <;> decide
  exact ⟨_, hexec, (hopen.flag_eq (by decide)).trans hwen, (hopen.flag_eq (by decide)).trans hcredit, htx, hdisc,
    hwaits, (hplace.fld_eq not_false).trans (status_opening.1.trans husable), hall.kinds⟩

/-! ### A stripe that is written -/

/-- The stripe in use is the mask it changes to. -/
theorem stripeNow_changeStripe (mask : Nat) (hmask : mask < 2 ^ 16) : (s.changeStripe c mask).fld CIN_CH_STATUS.STRIPE_NOW c = mask := by
  rw [State.changeStripe]
  split
  · next h => exact h.symm
  · have hrest (v : State) (m : BitVec 32) : Frame (fun _ _ => False) v ((v.placeChopen c).each (maskLanes mask) fun n s =>
        s.queueCtl n (ctlPayload [recStripe c mask m])) := (Frame.placeChopen (.refl v)).each fun _ _ h => h.queueCtl
    rw [(hrest _ _).fld_eq not_false, stripeNow_showStripe _ hmask]

theorem stripe_written {c : Chan} (mask : BitVec 16) (hacc : Accepts s p .CIN_CH_CFG c) (hweight : s.fld CIN_CH_CFG.WEIGHT c ≠ 0) (hmask : mask ≠ 0)
    (hlanes : ∀ n ∈ maskLanes mask.toNat, s.cinchLane n = true) :
    Completes (.stripeWrite p c mask) s fun t => t.fld CIN_CH_CFG.STRIPE c = mask.toNat ∧ t.chEn c = s.chEn c ∧
      (s.chEn c = true → t.fld CIN_CH_STATUS.STRIPE_NOW c = t.usable c) ∧ Keeps [(.CIN_CH_CFG, c), (.CIN_CH_STATUS, c)] s t := by
  obtain ⟨v, hv⟩ : ∃ v, v = withField (s.writeBack .CIN_CH_CFG c) CIN_CH_CFG.STRIPE mask.toNat := ⟨_, rfl⟩
  have hwide : mask.toNat % 2 ^ CIN_CH_CFG.STRIPE.width = mask.toNat := Nat.mod_eq_of_lt mask.isLt
  have hvalue : ChCfgValue s v (s.fld CIN_CH_CFG.LINE_CREDIT c) (s.fld CIN_CH_CFG.WEIGHT c) mask.toNat := by
    rw [hv]
    exact ⟨chCfgValue_apart s c _ (by decide) (by decide) (by decide) rfl, (fieldOf_withField_same _ _ (by decide) (by decide)).trans hwide,
      chCfgValue_apart s c _ (by decide) (by decide) (by decide) rfl, hweight, fun e => hmask (BitVec.eq_of_toNat_eq e), hlanes⟩
  have hen : fieldOf v CIN_CH_CFG.EN = s.fld CIN_CH_CFG.EN c := by
    rw [hv]
    exact chCfgValue_apart s c _ (by decide) (by decide) (by decide) rfl
  obtain ⟨w, hw⟩ : ∃ w, w = chCfgSet s c (s.fld CIN_CH_CFG.LINE_CREDIT c) (s.fld CIN_CH_CFG.WEIGHT c) mask.toNat (s.chEn c) := ⟨_, rfl⟩
  have hexec : exec (.stripeWrite p c mask) s = .next (if s.chEn c then w.changeStripe c (w.usable c) else w) := by
    rw [hw, ← wrCinChCfg_keeps (p := p) hvalue hen rfl, hv]
    exact writeCommand_accepted _ hacc
  have hset : Frame (fun r i => r = .CIN_CH_CFG ∧ i = c.val) s w := by
    rw [hw]
    exact chCfgSet_frame
  obtain ⟨hwen, hwstripe, -⟩ := chCfgSet_shows (s := s) (c := c.val) (lc := s.fld CIN_CH_CFG.LINE_CREDIT c) (w := s.fld CIN_CH_CFG.WEIGHT c)
    (m := mask.toNat) (en := s.chEn c)
  rw [← hw] at hwen hwstripe
  rw [hwide] at hwstripe
  obtain ⟨t, ht⟩ : ∃ t, t = if s.chEn c then w.changeStripe c (w.usable c) else w := ⟨_, rfl⟩
  have hchange : Frame (fun r i => r = .CIN_CH_STATUS ∧ i = c.val) w t := by
    rw [ht]
    exact (Frame.refl w).when fun h => h.changeStripe ⟨rfl, rfl⟩
  have hnow (hon : s.chEn c = true) : t.fld CIN_CH_STATUS.STRIPE_NOW c = t.usable c := by
    have hlane : t.laneOpen = w.laneOpen := funext fun k =>
      congrArg (fun x => decide (x ≠ Stream.CLOSED)) (hchange.fld_eq (f := CIN_LANE_STATUS.TX_STREAM) (i := k) (by simp))
    have husable : t.usable c = w.usable c := by
      rw [State.usable, State.usable, hlane, hchange.fld_eq (by simp)]
    rw [husable, ht, hon, if_pos rfl, stripeNow_changeStripe _ (usable_lt w c)]
  have hall : Frame (fun r i => (r, i) ∈ [(Reg.CIN_CH_CFG, c.val), (.CIN_CH_STATUS, c.val)]) s t :=
    (hset.mono fun _ _ e => by simp [e.1, e.2]).trans (hchange.mono fun _ _ e => by simp [e.1, e.2])
  rw [← ht] at hexec
  exact ⟨_, hexec, (hchange.fld_eq (by simp)).trans hwstripe, (hchange.flag_eq (by simp)).trans hwen, hnow, hall.keeps⟩

/-- The commands of channels, each clause by its lemma. -/
theorem channelCommands : Sys2Proof.Claims.ChannelCommands := fun s _ c =>
  ⟨fun lc hacc hoff hfits => channel_opens lc hacc hoff hfits.1 hfits.2.1 hfits.2.2,
    fun hacc hen hfits => channel_closes hacc hen hfits.1 hfits.2.1 hfits.2.2,
    fun mask hacc hweight hmask hlanes => stripe_written mask hacc hweight hmask hlanes,
    fun hacc hen => channel_cleared hacc hen,
    ⟨_, rfl, congrArg ChanX.discard (State.chanOf_modChan_same s c _), fun _ hd => State.chanOf_modChan_other s _ hd, (Frame.refl s).modChan.keeps⟩⟩

/-- Settles O11: lanes that are shed and rejoin, and channels that open, close and change their stripe. -/
theorem shedRejoinAndChannels : Obligations.ShedRejoinAndChannels := ⟨shedAndRejoin, channelCommands⟩

end
end Sys2Proof.Proofs
end
